-- ==== Sys2Proof/Word.lean ====
section
/-! DEFINITION. Values of object-dictionary objects and the vocabulary of the block: octets, the three kinds of
value, the manual's data types and access codes (Tables 0.4 and 0.5), and the named parts of the module (islands,
drives, cells) with the map that R17, R18 and Tables 1.3 and 1.4 fix. -/
namespace Sys2Proof

/-- An octet (R6: multi-byte values are transferred least significant octet first). -/
abbrev Byte := BitVec 8

/-- The value of an object: an integer type or BOOL, an F32 held as the exact rational it stands for, or a STR or
DOM as its octets. -/
inductive Val where
  | int (v : Int)
  | num (q : Rat)
  | bytes (b : List Byte)
  deriving DecidableEq, Repr

/-- A value read as an integer, as a number, as octets. -/
def Val.toInt : Val → Int
  | .int v => v | .num q => q.floor | .bytes _ => 0

def Val.toRat : Val → Rat
  | .int v => v | .num q => q | .bytes _ => 0

def Val.toBytes : Val → List Byte
  | .bytes b => b | _ => []

/-- Table 0.4. -/
inductive Ty where
  | u8 | u16 | u32 | u64 | i16 | i32 | f32 | bool | str | dom
  deriving DecidableEq, Repr

/-- Table 0.5. -/
inductive Access where
  | ro | rw | wo | rws | safe
  deriving DecidableEq, Repr

/-- The range a writable object's table states: none, an interval, one value or an interval, or listed values. -/
inductive Rng where
  | any
  | int (lo hi : Int)
  | intOr (v lo hi : Int)
  | oneOf (l : List Int)
  | num (lo hi : Rat)
  | numOr (v lo hi : Rat)
  deriving DecidableEq, Repr

/-- One row of an object table: subindices `lo` to `hi`, name, type, access, default, range, and how many of the
table's indices have it ("T:" and "A:" rows exist only in the first ones). -/
structure DictRow where
  lo   : Nat
  hi   : Nat
  name : String
  ty   : Ty
  acc  : Access
  dflt : Val
  rng  : Rng
  inst : Nat
  deriving DecidableEq, Repr

/-- The isolated power islands, each joined to island C by one isolation link (R14, R19). -/
inductive Link where
  | t | g | l
  deriving DecidableEq, Repr

/-- The six drives (Table 1.4), in the order of their numbers 0 to 5. -/
inductive Drive where
  | tra | trb | gbx | aux | chg | brk
  deriving DecidableEq, Repr

/-- Cells C00 to C14 (Table 1.3). -/
abbrev Cell := Fin 15
/-- Axis units AX0 to AX7; AXn drives cell n (Table 1.3). -/
abbrev Axis := Fin 8
/-- The traction axis units AX0 to AX3, one for each three-phase set. -/
abbrev TSet := Fin 4
/-- Legs L00 to L49; leg nn owns shunt channel nn (R17). -/
abbrev Leg := Fin 50

/-- Table 1.14's number of a link: 0 T, 1 G, 2 L. -/
def Link.num : Link → Nat
  | .t => 0 | .g => 1 | .l => 2

/-- The drive's number, its source byte in events and its bit in drive masks. -/
def Drive.num : Drive → Nat
  | .tra => 0 | .trb => 1 | .gbx => 2 | .aux => 3 | .chg => 4 | .brk => 5

/-- The place of a drive and of a link in the state. -/
def Drive.idx : Drive → Fin 6
  | .tra => 0 | .trb => 1 | .gbx => 2 | .aux => 3 | .chg => 4 | .brk => 5

def Link.idx : Link → Fin 3
  | .t => 0 | .g => 1 | .l => 2

def Drive.all : List Drive := [.tra, .trb, .gbx, .aux, .chg, .brk]

def Drive.isTraction : Drive → Bool
  | .tra => true | .trb => true | _ => false

/-- The drives whose bit a mask sets; bits 6 and 7 name none. -/
def Drive.ofMask (m : Nat) : List Drive := Drive.all.filter fun d => m.testBit d.num

def Drive.mask (l : List Drive) : Nat := l.foldl (fun a d => a ||| 2 ^ d.num) 0

/-- The drive of a cell (Table 1.3). -/
def cellDrive (c : Nat) : Drive :=
  if c ≤ 1 then .tra else if c ≤ 3 then .trb else if c ≤ 7 then .gbx
  else if c ≤ 10 then .aux else if c ≤ 13 then .chg else .brk

/-- The island of a cell (Table 1.1). -/
def cellLink (c : Nat) : Link :=
  if c ≤ 3 ∨ c = 8 ∨ c = 13 ∨ c = 14 then .t else if c = 11 ∨ c = 12 then .g else .l

/-- The first leg of a cell; its legs follow in ascending order (Table 1.3, R96). -/
def cellFirstLeg (c : Nat) : Nat := if c < 8 then 3 * c else 24 + 4 * (c - 8)

/-- How many legs a cell has. -/
def cellLegs (c : Nat) : Nat := if c < 8 then 3 else if c < 14 then 4 else 2

/-- The cell of a leg (Table 1.3). -/
def legCell (l : Nat) : Nat := if l < 24 then l / 3 else 8 + (l - 24) / 4

/-- The leg's position 0 to 3 within its cell (R96). -/
def legPos (l : Nat) : Nat := l - cellFirstLeg (legCell l)

/-- The cells of a drive (Table 1.4). -/
def Drive.cells : Drive → List Cell
  | .tra => [0, 1] | .trb => [2, 3] | .gbx => [4, 5, 6, 7]
  | .aux => [8, 9, 10] | .chg => [11, 12, 13] | .brk => [14]

/-- The cells of an island (Table 1.1). -/
def Link.cells : Link → List Cell
  | .t => [0, 1, 2, 3, 8, 13, 14] | .g => [11, 12] | .l => [4, 5, 6, 7, 9, 10]

/-- The drives that have a cell on an island (Table 1.4). -/
def Link.drives : Link → List Drive
  | .t => [.tra, .trb, .aux, .chg, .brk] | .g => [.chg] | .l => [.gbx, .aux]

/-- The islands a drive spans (Table 1.4). -/
def Drive.links : Drive → List Link
  | .tra => [.t] | .trb => [.t] | .gbx => [.l] | .aux => [.t, .l] | .chg => [.g, .t] | .brk => [.t]

/-- Timebase ticks of 10 ns (R7) in a number of microseconds, milliseconds and seconds. -/
def us (n : Nat) : Nat := 100 * n
def ms (n : Nat) : Nat := 100000 * n
def sec (n : Nat) : Nat := 100000000 * n

/-- Replaces entry `i` of a vector by its image. -/
def upd {α : Type} {n : Nat} (v : Vector α n) (i : Fin n) (f : α → α) : Vector α n :=
  v.set i.val (f v[i.val]) i.isLt

end Sys2Proof
end

