-- ==== Sys2Proof/Syntax.lean ====
section
/-! DEFINITION. The commands of the block: one constructor for each row of the manual's table of operations and events.
Every command carries `dt`, the timebase ticks (10 ns) since the command before it (DESIGN CHOICE, assumption 1), and
the operands its rule names: the party that writes, the unit concerned, the values measured, the octets received. -/
namespace Sys2Proof

/-- The source of an access (Table 19.5): Pyreri, an Ethernet peer slot, the CAN-D session, CAN-A process data. -/
inductive Requester where
  | pyreri | eth (slot : Fin 4) | canD | canA
  deriving DecidableEq, Repr

/-- Session roles (Table 19.2). -/
inductive Role where
  | operator | service | safety
  deriving DecidableEq, Repr

/-- A CAN frame: identifier, IDE (29-bit), FDF and BRS, data (R447, R452). -/
structure CanMsg where
  ident : Nat
  ide   : Bool
  fd    : Bool
  brs   : Bool
  data  : List Byte
  deriving DecidableEq, Repr

/-- What the block sends out during a command: the answer to an access (0 or an abort code of Table 19.3, and the data
read), a frame on a CAN channel, a UDP datagram from one of the module's ports to
a peer, an answer to an ARP request and to an ICMP echo request, and what it passes to its own parts over a link. -/
inductive Output where
  | response (who : Requester) (status : Nat) (data : List Byte)
  | can (ch : Fin 4) (m : CanMsg)
  | udp (src ip port : Nat) (data : List Byte)
  | arpReply (mac ip : Nat) | echoReply (ip : Nat) (data : List Byte)
  | linkPayload (l : Link) (toC : Bool) (payload : BitVec 64)
  | linkReplayRequest (l : Link) (toC : Bool) (replayed : List (BitVec 96))
  | testPulse (channel : Nat)
  deriving DecidableEq, Repr

/-- The memories of Table 1.9. -/
inductive Memory where
  | engineLocal (e : Fin 24) | taskPool | pyreri (lane : Fin 3) | capture | imageBank (bank : Fin 2)
  | paramStore (record : Nat)
  | otp | retained (unit : Fin 1024) | backup (r : Fin 16)
  deriving DecidableEq, Repr

/-- The monitors of R37: a domain of Table 1.13 by its bit, an island die's check of its forwarded clock against its
own oscillator, and Pyreri's own monitor of SAFE. -/
inductive ClockMonitor where
  | domain (bit : Fin 16) | forwarded (l : Link) | pyreriSafe
  deriving DecidableEq, Repr

/-- A measurement at a control-supply source (Table 2.1): the LV input's voltage, the DC-link voltage at the flyback,
PoDL power from the PSE and its voltage; or at the battery terminal that feeds the always-on domain (R48). -/
inductive SupplyReading where
  | lv (v : Rat) | flyback (vdc : Rat) | podl (powered : Bool) (v : Rat) | battery (v : Rat)
  deriving DecidableEq, Repr

/-- What an island die measures at the end of a step of the arming sequence (Table 3.4): the gate-supply rails, the
sums of the offset calibration of each leg position (R104), the comparators that failed by position, the end of the
pulse train, and the bootstrap voltages by position with the shunt currents at the end of each of the eight pulses. -/
inductive ArmReport where
  | supplies (pos neg : Rat)
  | offsets (chans : List (List Int × List Int))
  | selftest (vdsFail shuntFail : BitVec 4)
  | pulsesDone
  | bootstraps (v : List Rat) (currents : List (List Rat))
  deriving DecidableEq, Repr

/-- Outcome of an engine's self-test slice, with the LAST_FAIL code of a failing one (R250, Table 9.6). -/
inductive SliceResult where
  | pass | core | fpu | memory | pool
  deriving DecidableEq, Repr

/-- The two drives that run themselves (R290, R319). -/
inductive SelfRun where
  | brk | aux
  deriving DecidableEq, Repr

/-- Control pilot states (Table 13.2). -/
inductive PilotState where
  | a | b | c | d | e | f | invalid
  deriving DecidableEq, Repr

/-- The two instances of the charge state machine (Table 13.8). -/
inductive ChargeTarget where
  | hv | lv
  deriving DecidableEq, Repr

/-- What the lanes and island die T latch for one three-phase set at the start of a safety cycle (Table 15.6, R402, R404):
the zero-crossing frequency of its phase currents with the sign of the phase sequence, the ticks since the last crossing
and the peak since, the zero-crossing frequency and peak of its phase voltages, and Pyreri's own current magnitude. -/
structure SetLatch where
  freqI : Rat
  ageI  : Nat
  peakI : Rat
  freqV : Rat
  peakV : Rat
  mag   : Rat
  deriving DecidableEq, Repr

/-- What a safety cycle latches: whether the exchange record newest since the last latch fails its check value or its
sequence (R391), the four sets and the safety inputs that each lane reads against their accepted level, lane by lane
(R390), the frames that a lane alone rejects, by connection and place in its buffer (R438), the read-back of SO0 to SO3 in V (R416), the fraction of the cycle used (R389), the blocked accesses of a lane
outside the vote (R380), and the torque-off channels whose report differs from the command, in the layout of Table 15.11
(R394). -/
structure CycleInputs where
  exchBad : Bool
  lanes   : Vector (Vector SetLatch 4) 3
  si      : Vector (BitVec 8) 3
  rejects : List (Fin 3 × Fin 16 × Nat)
  soV     : Vector Rat 4
  load    : Rat
  blocked : Nat
  differs : BitVec 12
  deriving DecidableEq, Repr

/-- A bus error that a channel detects (R455): as transmitter, as receiver, or as receiver in a case that ISO 11898-1
counts eightfold; seen without effect on the counters. -/
inductive CanError where
  | transmit | receive | receiveSevere | seen
  deriving DecidableEq, Repr

/-- A request of an SDO client on CAN-D (R476): a read, an expedited write, the start of a segmented write, a segment of
one with its toggle bit, a segment of a read asked for, the client's abort, a specifier that is none of these. The frames
themselves are those of CiA 1301, which the manual names and does not print (assumption 30). -/
inductive SdoRequest where
  | upload (index : BitVec 16) (sub : BitVec 8)
  | download (index : BitVec 16) (sub : BitVec 8) (data : List Byte)
  | downloadStart (index : BitVec 16) (sub : BitVec 8)
  | downloadSegment (toggle : Bool) (data : List Byte) (last : Bool)
  | uploadSegment (toggle : Bool)
  | abort
  | invalid
  deriving DecidableEq, Repr

/-- What reaches the Ethernet port beside the requests of Table 19.4, safe frames and TFTP (R477, R496): a datagram at port
47810 that asks for no operation of that table, an ARP request of a station for an address, an ICMP echo request to an
address, a frame of another protocol, and one that fails its frame check. -/
inductive PortFrame where
  | datagram (dg : List Byte)
  | arpRequest (mac : BitVec 48) (target : BitVec 32)
  | echoRequest (target : BitVec 32) (data : List Byte)
  | other
  | damaged
  deriving DecidableEq, Repr

/-- A frame of an isolation link as it was sent and as it arrives (R21). -/
structure LaneFrame where
  sent    : BitVec 96
  arrived : BitVec 96
  deriving DecidableEq, Repr

/-- The voltage of the battery terminal after a time (R48). -/
structure FeedReading where
  dt   : Nat
  vBat : Rat
  deriving DecidableEq, Repr

/-- What a stage cell reads after a time, leg by leg: the codes of its shunt channels (R98) and the on-edge and off-edge of each
leg's pulse within the period (R93). -/
structure StageReading where
  dt     : Nat
  raw    : List Int
  pulses : List (Nat × Nat)
  deriving DecidableEq, Repr

/-- A code at which the input of a comparator has stood for a time (R121). -/
structure HeldCode where
  code : BitVec 12
  held : Nat
  deriving DecidableEq, Repr

/-- What the hold and the pulses of the static identification have found (Table 6.8). -/
structure StaticResult where
  rs : Rat
  ld : Rat
  lq : Rat
  deriving DecidableEq, Repr

/-- A period of SYNC_IN after a time, as its frequency; none where no edge has come (R314). -/
structure SyncReading where
  dt : Nat
  hz : Option Rat
  deriving DecidableEq, Repr

/-- The positive and the negative voltage of a control pilot period (R328). -/
structure PilotLevels where
  pos : Rat
  neg : Rat
  deriving DecidableEq, Repr

/-- The rise of the DC link in V/ms and C13's output current in two successive periods, after a time (R344). -/
structure PackReading where
  dt   : Nat
  rate : Rat
  i0   : Rat
  i1   : Rat
  deriving DecidableEq, Repr

/-- The commands (spec/opcode_table.json). -/
inductive Instr where
  /-- LINK_FRAME_RECEIVE (R21): A 96-bit isolation-link frame arrives in its slot; if it fails its CRC it is discarded, later frames are held back and a replay is requested. -/
  | linkFrameReceive (dt : Nat) (l : Link) (toC : Bool) (f : LaneFrame)
  /-- LINK_LANE_FAIL (R22): One lane of a link direction fails; the link continues on the remaining lane with doubled frame time and event 0x0120. -/
  | linkLaneFail (dt : Nat) (l : Link) (toC : Bool) (lane1 : Bool)
  /-- LINK_LOSS_ISLAND_DIE (R23): An island die sees no valid frame for 1 µs and takes every cell of its island to its protective state of Table 1.6 within 2 µs. -/
  | linkLossIslandDie (dt : Nat) (l : Link)
  /-- LINK_LOSS_ISLAND_C (R24): Island C declares a link lost, sets the affected drives to FAULT, stops their cells on other islands and logs event 0x0121. -/
  | linkLossIslandC (dt : Nat) (l : Link)
  /-- LINK_TRAINING_COMPLETE (R24): A link finishes training or retraining once both ends see valid frames, and its TB copy and skew are aligned. -/
  | linkTrainingComplete (dt : Nat) (l : Link) (latencyNs : Nat)
  /-- APPLY_TIME_REACHED (R26): The apply time of a link command is reached and the island die applies the command to its cells. -/
  | applyTimeReached (dt : Nat) (l : Link)
  /-- ECC_UNCORRECTABLE_ERROR (R32): A memory access meets an uncorrectable error, which is counted and handled per the memory's row of Table 1.9. -/
  | eccUncorrectableError (dt : Nat) (m : Memory)
  /-- ECC_SINGLE_BIT_CORRECTION (R32): A single-bit memory error is corrected in place and counted. -/
  | eccSingleBitCorrection (dt : Nat)
  /-- SCRUB_PASS (R33): The background scrubber starts its periodic read of all RAM on island C. -/
  | scrubPass (dt : Nat)
  /-- CLOCK_MONITOR_WINDOW (R37): A clock-monitor counting window ends and the counted frequency is compared with its tolerance. -/
  | clockMonitorWindow (dt : Nat) (m : ClockMonitor) (hz : Nat)
  /-- CLK_FAULT_LATCH_WRITE (R39): A write of CLK_FAULT_LATCH clears each written bit whose domain is in window. -/
  | clkFaultLatchWrite (dt : Nat) (who : Requester) (value : BitVec 32)
  /-- SUPPLY_SOURCE_CHANGE (R40): A control-supply source becomes valid or invalid and the highest-priority valid source takes the load. -/
  | supplySourceChange (dt : Nat) (r : SupplyReading)
  /-- ALL_SOURCES_INVALID (R43): The last control source becomes invalid; hold-up carries the electronics and new flash program pulses stop within 10 µs. -/
  | allSourcesInvalid (dt : Nat)
  /-- HOLDUP_INTERRUPTION_BRIDGED (R43): A source returns before hold-up ends, so the interruption is bridged, logged as event 0x0105 and counted. -/
  | holdupInterruptionBridged (dt : Nat) (r : SupplyReading)
  /-- MAIN_POWER_ON_RESET (R44): The control rail falls below its reset threshold at the end of hold-up and everything except the always-on domain is reset. -/
  | mainPowerOnReset (dt : Nat)
  /-- POWER_STAGE_SUPPLY_LOSS (R47): No priority 1 or 2 source has been valid for 5 ms, so every drive stops as on link loss without FAULT and the module runs on PoDL. -/
  | powerStageSupplyLoss (dt : Nat)
  /-- ISLAND_SUPPLY_REMOVAL (R47): The island-die supplies are removed up to 1 ms after the power-stage supply loss and the drives become UNAVAILABLE. -/
  | islandSupplyRemoval (dt : Nat)
  /-- POWER_STAGE_SUPPLY_RETURN (R47): A priority 1 or 2 source becomes valid under PoDL alone, so E08–E23 start, island supplies come up and the links train. -/
  | powerStageSupplyReturn (dt : Nat) (r : SupplyReading)
  /-- AON_POWER_ON_RESET (R48): Both always-on feeds are absent, which clears the retained store, backup registers and retained battery-switch state. -/
  | aonPowerOnReset (f : FeedReading)
  /-- NRST_ASSERT (R50): An nRST assertion is filtered; a qualified one latches the reset decision. -/
  | nrstAssert (dt : Nat) (ns : Nat)
  /-- DEFERRED_RESET_PROCEED (R51): A reset held off by a flash program pulse proceeds when the pulse ends. -/
  | deferredResetProceed (dt : Nat)
  /-- NRST_RELEASE (R62): Reset is released; RESET_CAUSE is recorded and the trim load starts bring-up. -/
  | nrstRelease (dt : Nat)
  /-- TRIM_LOAD_COMPLETE (R56): An OTP trim load finishes and is checked by CRC; success sets TRIM_VALID, failure repeats the load. -/
  | trimLoadComplete (dt : Nat) (crcOk : Bool)
  /-- PLL_LOCK (R62): The root PLL locks and the clock monitors start. -/
  | pllLock (dt : Nat)
  /-- IMAGE_CHECK_COMPLETE (R502): The check of the committed image bank finishes and the passing bank is started, or the other bank, or IMAGE_FAULT follows. -/
  | imageCheckComplete (dt : Nat) (newestOk otherOk : Bool)
  /-- PARAMETER_STORE_LOADED (R62): The parameter store is loaded and the safety parameter set signature is checked. -/
  | parameterStoreLoaded (dt : Nat) (rejected : List Nat) (setOk : Bool)
  /-- CONTROL_ISLAND_UP (R62): Bring-up step 7: the object dictionary becomes reachable, CAN goes on-line and FLT_A, FLT_B are deasserted if the safety checks passed. -/
  | controlIslandUp (dt : Nat)
  /-- DRIVE_READINESS_COMPLETE (R63): A drive's prerequisites are met and it reports STANDBY, recording READY_TIME_ms. -/
  | driveReadinessComplete (dt : Nat) (d : Drive) (checksOk : Bool)
  /-- CUST_DATA_WRITE (R58): A write of CUST_DATA stores aligned 16-byte units at CUST_OFFSET, each completely or not at all. -/
  | custDataWrite (dt : Nat) (who : Requester) (data : List Byte)
  /-- DRIVE_RESET (R66): A write of DRIVE_RESET by the owner or Pyreri takes the drive to UNAVAILABLE and closes its isolation wrappers. -/
  | driveReset (dt : Nat) (who : Requester) (mask : BitVec 8)
  /-- DRIVE_RESET_BLOCK_RELEASE (R66): At least 10 µs after the wrappers close, the blocks are released from reset and the drive runs its readiness checks. -/
  | driveResetBlockRelease (dt : Nat) (d : Drive)
  /-- GATE_SUPPLY_UNDERVOLTAGE (R71): A gate-supply rail crosses its undervoltage limit, the cell turns off normally and the drive goes to FAULT. -/
  | gateSupplyUndervoltage (dt : Nat) (c : Cell) (pos neg : Rat)
  /-- BOTH_ON_COMMAND (R78): Both gate commands of a leg are on in one tick; the interlock keeps both off, counts it and turns the cell off at the third occurrence in 1 ms. -/
  | bothOnCommand (dt : Nat) (l : Leg)
  /-- BOOTSTRAP_UNDERVOLTAGE (R80): A bootstrap voltage falls below its threshold; the high side is blocked and a forced refresh is requested. -/
  | bootstrapUndervoltage (dt : Nat) (l : Leg) (v : Rat)
  /-- ARMING_STEP_COMPLETE (R81): A timed step of the cell arming sequence completes and the next step starts, or a failure ends arming for all cells of the drive. -/
  | armingStepComplete (dt : Nat) (c : Cell) (r : ArmReport)
  /-- SHORT_DETECT_VDS (R84): A VDS comparator qualifies a crossing after blanking; soft turn-off starts within 150 ns and the drive goes to FAULT. -/
  | shortDetectVds (dt : Nat) (l : Leg) (high simultaneous : Bool)
  /-- SHORT_DETECT_SHUNT (R84): A shunt protective comparator crosses ±OC_TRIP; soft turn-off starts within 150 ns and the drive goes to FAULT. -/
  | shortDetectShunt (dt : Nat) (l : Leg) (positive simultaneous : Bool)
  /-- SOFT_TURN_OFF_PLATEAU_END (R87): The 600 ns plateau ends and each gate is turned off through the slow path. -/
  | softTurnOffPlateauEnd (dt : Nat) (c : Cell)
  /-- SC_LOCKOUT_WRITE (R90): A write of false to SC_LOCKOUT in a SERVICE session clears the short-circuit lockout. -/
  | scLockoutWrite (dt : Nat) (who : Requester) (c : Cell) (value : BitVec 8)
  /-- SELFTEST_START (R91): A write of 1 to SELFTEST starts the comparator self-test of all legs of the cell. -/
  | selftestStart (dt : Nat) (who : Requester) (c : Cell) (value : BitVec 8)
  /-- SELFTEST_COMPLETE (R91): The comparator self-test ends and its result is recorded; a failure takes the drive to FAULT. -/
  | selftestComplete (dt : Nat) (c : Cell) (vdsFail shuntFail : BitVec 4)
  /-- TOKEN_REFILL (R92): A leg's switching allowance gains a token and a deferred switching cycle may start. -/
  | tokenRefill (dt : Nat) (l : Leg)
  /-- DWELL_END (R93): The minimum dwell after a leg's state change ends and a waiting request takes effect. -/
  | dwellEnd (dt : Nat) (l : Leg)
  /-- LEG_COUNTER_SAVE (R95): The leg switching counters are written to the parameter store every 600 s of switching and at STANDBY entry. -/
  | legCounterSave (dt : Nat) (c : Cell)
  /-- OFFSET_RECALIBRATION_DUE (R105): A shunt channel's recalibration interval expires and zero-reference collection starts. -/
  | offsetRecalibrationDue (dt : Nat) (l : Leg)
  /-- OFFSET_RECALIBRATION_COMPLETE (R105): The 16 zero-reference samples are collected and the new OFFSET takes effect at a sample boundary. -/
  | offsetRecalibrationComplete (dt : Nat) (l : Leg) (zero full : List Int)
  /-- RECALIBRATION_LATE (R106): A recalibration not completed after twice its interval logs event 0x0404 once. -/
  | recalibrationLate (dt : Nat) (l : Leg)
  /-- STAGE_PERIOD_START (R114): A stage cell starts a switching period, which can trigger sequencers and loop units and clear PERIOD latches. -/
  | stagePeriodStart (r : StageReading) (c : Cell)
  /-- SEQUENCER_TRIGGER (R114): A sequencer trigger arrives and starts, pends or is counted as an overrun. -/
  | sequencerTrigger (dt : Nat) (n : Fin 8)
  /-- SW_TRIGGER_WRITE (R114): A write of 1 to SW_TRIGGER triggers the sequencer by software. -/
  | swTriggerWrite (dt : Nat) (who : Requester) (n : Fin 8) (value : BitVec 8)
  /-- CONVERSION_COMPLETE (R109): A general-converter conversion finishes and its result enters the hidden buffer of the running entry. -/
  | conversionComplete (dt : Nat) (g : Fin 4) (code : BitVec 12)
  /-- SQ_CTRL_WRITE (R119): A write of SQ_CTRL of SQ6 configures it, and writing ENABLE 0 abandons a running or pending sequence. -/
  | sqCtrlWrite (dt : Nat) (who : Requester) (n : Fin 8) (value : BitVec 32)
  /-- GENERAL_COMPARATOR_CROSSING (R124): A general comparator qualifies entry into its condition, sets LATCH, counts and triggers the sequencers that name it. -/
  | generalComparatorCrossing (dt : Nat) (n : Fin 16) (x : HeldCode)
  /-- GCP_CLEAR_WRITE (R124): A write of 1 to CLEAR clears a general comparator's LATCH. -/
  | gcpClearWrite (dt : Nat) (who : Requester) (n : Fin 16) (value : BitVec 8)
  /-- AXIS_DECISION (R150): Every 100 ns an axis unit reconstructs current, updates flux and torque, runs its comparators and selects a vector. -/
  | axisDecision (dt : Nat) (n : Axis) (raw odd : List Int) (vBus : Rat)
  /-- UNMEASURED_TIME_EXCEEDED (R148): The unmeasured time passes MEAS_MAX_ns + 1,000 ns, the cell coasts and the drive goes to FAULT. -/
  | unmeasuredTimeExceeded (dt : Nat) (n : Axis)
  /-- TQ_SET_WRITE (R152): The owner writes TQ_SET, which becomes the ramp target from the next decision. -/
  | tqSetWrite (dt : Nat) (who : Requester) (t : Fin 2) (value : BitVec 32)
  /-- DIRECTION_WRITE (R156): A write of a changed DIRECTION while ACTIVE starts a reversal with coasting; in STANDBY or ARMED it acts at once. -/
  | directionWrite (dt : Nat) (who : Requester) (t : Fin 2) (value : BitVec 8)
  /-- REVERSAL_REENGAGE (R156): The speed in the old direction falls below REV_SPEED; flux is re-initialised and the ramp restarts in the new direction. -/
  | reversalReengage (dt : Nat) (t : Fin 2)
  /-- DRIVE_ARM (R157): CONTROL ARM arms the drive's cells if its prerequisites and interlocks allow. -/
  | driveArm (dt : Nat) (who : Requester) (d : Drive)
  /-- DRIVE_RUN (R157): CONTROL RUN takes an ARMED drive to ACTIVE with its start-up actions. -/
  | driveRun (dt : Nat) (who : Requester) (d : Drive) (size : Nat)
  /-- DRIVE_STOP (R155): CONTROL STOP takes the drive to STOPPING with zero torque, coasting or holding zero torque. -/
  | driveStop (dt : Nat) (who : Requester) (d : Drive)
  /-- DRIVE_DISARM (R157): CONTROL DISARM takes an ARMED drive to STANDBY with its gate supplies off. -/
  | driveDisarm (dt : Nat) (who : Requester) (d : Drive)
  /-- DRIVE_ACK (R157): CONTROL ACK leaves FAULT when the cause is absent and no lockout holds, clearing latches. -/
  | driveAck (dt : Nat) (who : Requester) (d : Drive)
  /-- STOP_SET_COAST (R155): During a zero-torque hold a set's back-EMF falls below STOP_EMF_EXIT and it coasts; both coasting gives STANDBY. -/
  | stopSetCoast (dt : Nat) (n : TSet)
  /-- ARM_HOLD_EXPIRY (R157): ARM_HOLD_ms elapses in ARMED without RUN and the drive returns to STANDBY. -/
  | armHoldExpiry (dt : Nat) (d : Drive)
  /-- CROSS_SET_DISAGREEMENT (R166): The two sets' flux angles disagree for 200 µs and observer loss is declared on the set with the larger residual. -/
  | crossSetDisagreement (dt : Nat) (t : Fin 2)
  /-- TRACKING_VALID (R169): Phase-voltage tracking has 2 ms of continuous results above BEMF_MIN_V and TRACKING is set. -/
  | trackingValid (dt : Nat) (n : TSet)
  /-- SEDGE_PROBE_COMPLETE (R172): The twelve probe pulses end and the rotor angle and confidence are computed, or the probe fails. -/
  | sedgeProbeComplete (dt : Nat) (t : Fin 2) (rises : List (Option Nat))
  /-- PROBE_ASSIST_PERIOD (R175): Every ASSIST_PERIOD_us in probe-assisted running, test vectors correct the flux angle. -/
  | probeAssistPeriod (dt : Nat) (n : TSet) (m : Axis) (v : Nat)
  /-- OBSERVER_LOSS (R180): A set's loss timer reaches LOSS_TIME_us, the rotor is lost and recovery of Table 6.3 starts. -/
  | observerLoss (dt : Nat) (n : Axis)
  /-- ASC_EXIT (R178): The back-EMF falls below ASC_EXIT, the low sides turn off and the set coasts. -/
  | ascExit (dt : Nat) (n : TSet) (bemf : Rat)
  /-- RECOVERY_ANGLE_FOUND (R180): A recovering set obtains angle and speed, initialises flux and decides again with its reference ramping up. -/
  | recoveryAngleFound (dt : Nat) (n : TSet)
  /-- RECOVERY_TIMEOUT (R180): No valid angle exists at t0 + 10 ms, which counts as a further loss and restarts recovery. -/
  | recoveryTimeout (dt : Nat) (n : TSet)
  /-- PHASE_OPEN_DECLARED (R183): A phase-open accumulator reaches OPEN_DET_us and a V0 measurement resolves an open phase or a failed shunt. -/
  | phaseOpenDeclared (dt : Nat) (n : Axis) (phase : Fin 3) (kcl : Rat)
  /-- SHUNT_ATTRIBUTION_FAIL (R184): A shunt channel gains eight attribution counts, or sixteen unattributable V0 measurements occur, and the shunt fault is declared. -/
  | shuntAttributionFail (dt : Nat) (n : Axis) (phase : Option (Fin 3))
  /-- SHUNT_SATURATION_FAIL (R184): OVR stays set for 1 ms with the prediction in range and the shunt channel fails. -/
  | shuntSaturationFail (dt : Nat) (n : Axis) (phase : Fin 3)
  /-- ID_STATIC (R190): ID_CMD 1 starts static identification of RS, LD and LQ. -/
  | idStatic (dt : Nat) (who : Requester) (n : TSet)
  /-- ID_ROTATING (R190): ID_CMD 2 starts rotating identification of PSI_PM. -/
  | idRotating (dt : Nat) (who : Requester) (n : TSet)
  /-- ID_ENCODER_OFFSET (R190): ID_CMD 3 starts encoder-offset identification by four Sedge probes. -/
  | idEncoderOffset (dt : Nat) (who : Requester) (n : TSet)
  /-- ID_ABORT (R191): A write of 0 to ID_CMD aborts a running identification. -/
  | idAbort (dt : Nat) (who : Requester) (n : TSet)
  /-- ID_PROCEDURE_COMPLETE (R191): An identification procedure finishes, storing results and returning the drive to STANDBY. -/
  | idProcedureComplete (dt : Nat) (n : TSet) (r : StaticResult)
  /-- ID_APPLY (R191): A write of 1 to ID_APPLY copies the valid identified results to the motor data. -/
  | idApply (dt : Nat) (who : Requester) (n : TSet)
  /-- POSITION_LINE_CHANGE (R198): A position-interface line changes and is qualified or rejected, updating the count and timestamp. -/
  | positionLineChange (dt : Nat) (p : Fin 12) (lines : BitVec 3)
  /-- WIRE_FAULT (R201): A pair reads equal levels, or a Hall code 000 or 111, for more than 200 ns and the count freezes. -/
  | wireFault (dt : Nat) (p : Fin 12) (pairs : BitVec 3)
  /-- SSI_FRAME_READ (R200): Every SSI_PERIOD_us the interface reads an SSI frame and accepts it or records an SSI error. -/
  | ssiFrameRead (dt : Nat) (p : Fin 4) (idleHigh monoLow : Bool) (frame : BitVec 32)
  /-- PRESET_WRITE (R197): The owner writes PRESET, which the counter takes at the next sample. -/
  | presetWrite (dt : Nat) (who : Requester) (p : Fin 12) (value : BitVec 32)
  /-- ARM_INDEX_WRITE (R202): A write of 1 to ARM_INDEX arms INDEX_ONCE for the next index. -/
  | armIndexWrite (dt : Nat) (who : Requester) (p : Fin 12) (value : BitVec 8)
  /-- CHECK_PASS (R204): CHECK_TIME_ms elapses without error and the interface enters NORMAL. -/
  | checkPass (dt : Nat) (p : Fin 12)
  /-- CHECK_TIMEOUT (R204): 1,000 ms pass in CHECK without passing and event 0x0603 is logged once. -/
  | checkTimeout (dt : Nat) (p : Fin 12)
  /-- INTERFACE_FAULT_CLEAR (R204): A FAULT interface is clean for 1 ms and returns to CHECK. -/
  | interfaceFaultClear (dt : Nat) (p : Fin 12)
  /-- CHECK_CMD_WRITE (R204): A write of 1 to CHECK_CMD returns a NORMAL or FAULT interface to CHECK. -/
  | checkCmdWrite (dt : Nat) (who : Requester) (p : Fin 12) (value : BitVec 8)
  /-- PIF_MODE_WRITE (R204): A write of MODE takes the interface to CHECK, or to OFF for 0. -/
  | pifModeWrite (dt : Nat) (who : Requester) (p : Fin 12) (value : BitVec 8)
  /-- SPEED_UPDATE (R207): Every SPEED_PERIOD_us the interface computes speed from edge timestamps and bounds or zeroes it. -/
  | speedUpdate (dt : Nat) (p : Fin 12)
  /-- LOOP_UNIT_SAMPLE (R214): A running loop unit samples its source, passes it through its sections and delivers a clamped output. -/
  | loopUnitSample (dt : Nat) (n : Fin 24)
  /-- COEFFICIENT_QUEUE_WRITE (R225): A coefficient or gain write enters the unit's queue and is applied one per sample. -/
  | coefficientQueueWrite (dt : Nat) (who : Requester) (n : Fin 24) (sub : BitVec 8) (value : BitVec 32)
  /-- COMMIT_STAGED (R230): COMMIT 1 applies the staged coefficient set to STAGE_SEC after checks. -/
  | commitStaged (dt : Nat) (who : Requester) (n : Fin 24)
  /-- COMMIT_NOTCH (R231): COMMIT 2 designs a notch from the notch parameters and applies it to STAGE_SEC. -/
  | commitNotch (dt : Nat) (who : Requester) (n : Fin 24)
  /-- COMMIT_COMPUTED (R230): The engines finish checking and computing a commit set and HOLD sequencing starts at the next sample. -/
  | commitComputed (dt : Nat) (n : Fin 24)
  /-- SEC_CTRL_WRITE (R228): A write of SEC_CTRL sets or clears HOLD or INTEG of a section. -/
  | secCtrlWrite (dt : Nat) (who : Requester) (n : Fin 24) (sec : Fin 8) (value : BitVec 8)
  /-- HOLD_MAX_EXPIRY (R229): A section of a running unit held beyond HOLD_MAX_ms logs event 0x0704 of severity STOP. -/
  | holdMaxExpiry (dt : Nat) (n : Fin 24) (sec : Fin 8)
  /-- TASK_RELEASE (R237): A periodic task instance is released at its period, or merged with a waiting one. -/
  | taskRelease (dt : Nat) (k : Fin 59)
  /-- TASK_EXECUTION_COMPLETE (R249): An engine completes a task instance, recording overruns and misses, and becomes free. -/
  | taskExecutionComplete (dt : Nat) (e : Fin 24) (slice : SliceResult)
  /-- ENGINE_WATCHDOG (R249): An execution reaches 100 µs, is aborted and the engine is taken out of service. -/
  | engineWatchdog (dt : Nat) (e : Fin 24)
  /-- ENGINE_REJOIN (R251): An out-of-service engine passes a full self-test pass and rejoins as a THIEF. -/
  | engineRejoin (dt : Nat) (e : Fin 24)
  /-- CONFIG_LOAD_WRITE (R246): A write of 1 to CONFIG_LOAD starts an admission check. -/
  | configLoadWrite (dt : Nat) (who : Requester) (value : BitVec 8)
  /-- CONFIG_LOAD_ADMISSION_COMPLETE (R245): The admission check ends and the configuration is admitted at one TB instant or rejected. -/
  | configLoadAdmissionComplete (dt : Nat)
  /-- AXLE_MODE_WRITE (R259): A write of AXLE_MODE selects how TRA and TRB receive torque, possibly pending until a shift ends. -/
  | axleModeWrite (dt : Nat) (who : Requester) (value : BitVec 8)
  /-- AXLE_TQ_SET_WRITE (R257): The owner writes the total wheel torque for axle modes 1–3. -/
  | axleTqSetWrite (dt : Nat) (who : Requester) (value : BitVec 32)
  /-- YAW_TQ_SET_WRITE (R261): The owner writes the wheel-torque difference used in VECTOR mode. -/
  | yawTqSetWrite (dt : Nat) (who : Requester) (value : BitVec 32)
  /-- AXLE_DIRECTION_WRITE (R258): A change of AXLE_DIRECTION starts reversals on both drives at one apply time. -/
  | axleDirectionWrite (dt : Nat) (who : Requester) (value : BitVec 8)
  /-- SHIFT_CMD_WRITE (R267): The GBX owner writes SHIFT_CMD, which starts, pends or is refused with LAST_REFUSAL. -/
  | shiftCmdWrite (dt : Nat) (who : Requester) (t : Fin 2) (value : BitVec 8)
  /-- SHIFT_STEP_LIMIT (R270): A shift step reaches its time limit and the shift ends per Table 10.5. -/
  | shiftStepLimit (dt : Nat) (t : Fin 2)
  /-- ACTUATOR_AXIS_FAULT (R273): An actuator axis or fork interface fault makes the cell coast and GBX go to FAULT. -/
  | actuatorAxisFault (dt : Nat) (a : Fin 4)
  /-- I_SET_WRITE (R274): The GBX owner writes a solenoid channel's current set-point. -/
  | iSetWrite (dt : Nat) (who : Requester) (ch : Fin 8) (value : BitVec 32)
  /-- IB_BELOW_38V (R275): IB falls below 38 V and every solenoid channel is de-energised within 1 ms. -/
  | ibBelow38V (dt : Nat) (v : Rat)
  /-- SOLENOID_OVERCURRENT (R275): A solenoid switch current exceeds 6 A and the channel switches off and latches. -/
  | solenoidOvercurrent (dt : Nat) (ch : Fin 8) (i : Rat)
  /-- SOLENOID_OPEN_LOAD (R275): Full duty with negligible current for OPEN_LOAD_ms latches OPEN_LOAD and switches the channel off. -/
  | solenoidOpenLoad (dt : Nat) (ch : Fin 8)
  /-- SOLENOID_DEVIATION (R275): The current deviates from I_SET by more than DEV_LIM for 200 ms and DEVIATION is set. -/
  | solenoidDeviation (dt : Nat) (ch : Fin 8)
  /-- PARK_ENGAGE_CMD (R276): PARK_CMD 1 starts engaging the park pawl if the speed allows. -/
  | parkEngageCmd (dt : Nat) (who : Requester) (t : Fin 2)
  /-- PARK_RELEASE_CMD (R276): PARK_CMD 2 starts releasing an ENGAGED park pawl if its conditions hold. -/
  | parkReleaseCmd (dt : Nat) (who : Requester) (t : Fin 2)
  /-- PARK_POSITION_CONFIRM (R276): The pawl stays within PARK_WIN of its target for 10 ms and the park lock becomes ENGAGED or RELEASED. -/
  | parkPositionConfirm (dt : Nat) (t : Fin 2)
  /-- PAWL_ON_TOOTH (R276): The park actuator stalls short for 20 ms and PAWL_ON_TOOTH is set. -/
  | pawlOnTooth (dt : Nat) (t : Fin 2)
  /-- PARK_RELEASE_TIMEOUT (R276): RELEASE_TIME_ms elapses in RELEASING and the park lock returns to ENGAGING. -/
  | parkReleaseTimeout (dt : Nat) (t : Fin 2)
  /-- GEAR_STATE_RECOVERY_START (R278): With link L trained and IB ≥ 42 V, or at a GBX ACK, gear state recovery arms the actuator cells and starts. -/
  | gearStateRecoveryStart (dt : Nat)
  /-- RECOVERY_STALL (R278): A recovering fork or pawl stalls for 20 ms, reversing referencing or resolving the pawl on a tooth. -/
  | recoveryStall (dt : Nat) (a : Fin 4)
  /-- GEAR_STATE_RECOVERY_END (R278): All actuators resolve and GBX reports STANDBY, or 500 ms elapse and GBX goes to FAULT. -/
  | gearStateRecoveryEnd (dt : Nat)
  /-- DC_LINK_SENSE_MISMATCH (R286): The DC-link senses disagree for 10 ms and SENSE_MISMATCH sends TRA, TRB, CHG and BRK to FAULT. -/
  | dcLinkSenseMismatch (dt : Nat)
  /-- UV_TRIP_RELEASE (R287): V_DC stays above UV_DERATE + 10 V for 100 ms and UV_TRIP_LATCH releases. -/
  | uvTripRelease (dt : Nat)
  /-- RES_OHM_WRITE (R290): A write of RES_OHM_0 or RES_OHM_1 while BRK is UNAVAILABLE restarts the resistor check. -/
  | resOhmWrite (dt : Nat) (who : Requester) (leg : Fin 2) (value : BitVec 32)
  /-- BRK_RESISTOR_CHECK_COMPLETE (R290): The BRK resistor pulse check ends and BRK becomes ready or stays UNAVAILABLE. -/
  | brkResistorCheckComplete (dt : Nat) (i0 i1 : Rat)
  /-- BRK_CHECK_RETRY (R290): Every 10 s after a failed resistor check the check is repeated while V_DC ≥ 450 V. -/
  | brkCheckRetry (dt : Nat)
  /-- AUTO_RUN_WRITE (R290): A write of AUTO_RUN true in STANDBY arms and runs BRK or AUX at once. -/
  | autoRunWrite (dt : Nat) (who : Requester) (d : SelfRun) (value : BitVec 8)
  /-- CHOPPER_OPEN_RESISTOR (R291): Two consecutive on-intervals with too little current latch an open resistor and BRK goes to FAULT. -/
  | chopperOpenResistor (dt : Nat) (leg : Fin 2) (i1 i2 : Rat)
  /-- CHOPPER_SHORTED_SWITCH (R291): Shunt current above SHORT_I_THR with the low side off latches a shorted switch. -/
  | chopperShortedSwitch (dt : Nat) (leg : Fin 2) (i : Rat)
  /-- RESISTOR_MODEL_UPDATE (R292): Every 10 µs the resistor energy model updates and overtemperature or RES_WARM may follow. -/
  | resistorModelUpdate (dt : Nat)
  /-- FIRMWARE_DC_LINK_TRIP (R293): V_DC reaches FW_TRIP; traction sets take their protective state, C11–C13 stop and TRA, TRB, CHG go to FAULT. -/
  | firmwareDcLinkTrip (dt : Nat)
  /-- HARDWARE_DC_LINK_TRIP (R294): The 985 V comparator trips and island die T turns off or ASCs every cell within 200 ns. -/
  | hardwareDcLinkTrip (dt : Nat)
  /-- DISCHARGE_START (R296): DISCHARGE_CMD 1 starts an active discharge through both chopper legs. -/
  | dischargeStart (dt : Nat) (who : Requester)
  /-- DISCHARGE_END (R296): DISCHARGE_CMD 0 ends a running discharge with DISCH_STATE 5. -/
  | dischargeEnd (dt : Nat) (who : Requester)
  /-- DISCHARGE_LINK_SUPPLIED (R296): At 50 ms the link has not halved, so the legs turn off with DISCH_STATE 3. -/
  | dischargeLinkSupplied (dt : Nat)
  /-- DISCHARGE_COMPLETE (R296): V_DC falls below 60 V then 20 V and the discharge ends with DISCH_STATE 2. -/
  | dischargeComplete (dt : Nat)
  /-- DISCHARGE_TIMEOUT (R296): 3 s pass with V_DC ≥ 60 V, the legs turn off and BRK goes to FAULT. -/
  | dischargeTimeout (dt : Nat)
  /-- DAB_PEAK_LIMIT (R303): The DAB transformer current reaches DAB_IPK and the C09 bridge switches at once. -/
  | dabPeakLimit (dt : Nat) (i : Rat)
  /-- DAB_STOP_LOW_LINK (R304): V_DC falls to DAB_STOP_V, the DAB stops and AUX goes to TOW or WAIT. -/
  | dabStopLowLink (dt : Nat)
  /-- DAB_RESTART_LINK_OK (R304): V_DC stays at 450 V or more for 100 ms and AUX enters IB_START. -/
  | dabRestartLinkOk (dt : Nat)
  /-- IB_START_COMPLETE (R320): IB reaches 42 V with its soft start complete and AUX enters VR_START. -/
  | ibStartComplete (dt : Nat)
  /-- BUCK_PHASE_SHED (R308): A buck phase deviates by more than 20 A for 10 ms and is shed. -/
  | buckPhaseShed (dt : Nat) (phase : Fin 4) (deviation : Rat)
  /-- VSEL_SAMPLE (R310): Every 1 ms VSEL pins are sampled and a code seen four times is accepted as a new command. -/
  | vselSample (dt : Nat) (pins : BitVec 2)
  /-- VR_SRC_WRITE (R309): The AUX owner selects pins or host as the VR target source, a new command. -/
  | vrSrcWrite (dt : Nat) (who : Requester) (value : BitVec 8)
  /-- VR_CMD_WRITE (R311): The AUX owner writes VR_CMD, a new command while VR_SRC is 1. -/
  | vrCmdWrite (dt : Nat) (who : Requester) (value : BitVec 32)
  /-- VR_SET_WRITE (R311): A write of VR_SET_xx for the code in use is a new command. -/
  | vrSetWrite (dt : Nat) (who : Requester) (code : Fin 4) (value : BitVec 32)
  /-- LOAD_RELEASE_ENTRY (R312): VR exceeds 1.03 × VR_REF and every C10 switch turns off. -/
  | loadReleaseEntry (dt : Nat) (v : Rat)
  /-- LOAD_RELEASE_EXIT (R312): VR falls to 1.01 × VR_REF and normal buck switching resumes. -/
  | loadReleaseExit (dt : Nat) (v : Rat)
  /-- SYNC_IN_LOCK (R313): SYNC_IN becomes valid and the buck slews to lock onto it. -/
  | syncInLock (dt : Nat) (hz : Vector Rat 8) (phase : Rat)
  /-- SYNC_IN_LOSS (R314): SYNC_IN is lost and the buck slews back to FSW_AUX. -/
  | syncInLoss (r : SyncReading)
  /-- AUX48_EN_WRITE (R317): The AUX owner writes AUX48_EN, switching AUX48 and clearing its trip. -/
  | aux48EnWrite (dt : Nat) (who : Requester) (value : BitVec 8)
  /-- AUX48_OVERCURRENT (R317): AUX48 current exceeds AUX48_I_MAX for 1 ms and the switch opens and latches. -/
  | aux48Overcurrent (dt : Nat) (i : Rat)
  /-- IB_OVERVOLTAGE_PAUSE (R318): IB exceeds 58 V and the DAB pauses until IB falls below IB_SET. -/
  | ibOvervoltagePause (dt : Nat) (v : Rat)
  /-- IB_OVERVOLTAGE_TRIP (R318): IB exceeds 60 V for 20 µs and AUX goes to FAULT. -/
  | ibOvervoltageTrip (dt : Nat) (v : Rat)
  /-- IB_LOST (R318): IB stays below 40 V for 1 ms in NORMAL, the buck stops and AUX returns to IB_START. -/
  | ibLost (dt : Nat) (v : Rat)
  /-- VR_OVERVOLTAGE (R318): VR exceeds 31.5 V for 100 µs and AUX goes to FAULT. -/
  | vrOvervoltage (dt : Nat) (v : Rat)
  /-- TOW_BATTERY_LOW (R316): V_BAT stays below TOW_VBAT_MIN for 100 ms and TOW ends in WAIT. -/
  | towBatteryLow (dt : Nat) (v : Rat)
  /-- PILOT_STATE_CHANGE (R328): A new control pilot state is accepted after 10 periods or 10 ms. -/
  | pilotStateChange (dt : Nat) (p : PilotLevels)
  /-- PILOT_DUTY_CHANGE (R329): The pilot duty changes and PILOT_I and the AC limit follow within 1 s. -/
  | pilotDutyChange (dt : Nat) (duty : Rat)
  /-- PROXIMITY_CHANGE (R330): The proximity resistance changes band, setting PROX_I or PROX_OK. -/
  | proximityChange (dt : Nat) (ohm : Rat)
  /-- SUPPLY_OUT_OF_WINDOW (R331): The AC supply is out of window for 20 ms and the session stops. -/
  | supplyOutOfWindow (dt : Nat)
  /-- CHARGE_SESSION_OPEN (R332): A cable code with pilot state B opens a charge session at step 1. -/
  | chargeSessionOpen (dt : Nat)
  /-- AUTO_CHARGE_START (R332): With AUTO_CHARGE set and CHG in STANDBY, the module starts step 2 by itself. -/
  | autoChargeStart (dt : Nat)
  /-- AC_WAIT_TIMEOUT (R332): No supply voltage within AC_WAIT_ms opens S2 and returns the session to step 1. -/
  | acWaitTimeout (dt : Nat)
  /-- PFC_PRECHARGE_TIMEOUT (R332): The PFC bus misses its pre-charge level within 500 ms and CHG goes to FAULT. -/
  | pfcPrechargeTimeout (dt : Nat)
  /-- BMS_MESSAGE_RECEIVE (R343): A BMS limits or pack-voltage frame arrives on CAN-C and is accepted or discarded as invalid. -/
  | bmsMessageReceive (dt : Nat) (packFrame : Bool) (data : BitVec 64)
  /-- BMS_TIMEOUT (R333): BMS messages are silent for BMS_TIMEOUT_ms and the session stops immediately. -/
  | bmsTimeout (dt : Nat)
  /-- MODULE_STATUS_SEND (R343): The module status message is sent every 100 ms or at once on a flags change. -/
  | moduleStatusSend (dt : Nat)
  /-- PACK_LOST (R344): A DC-link rise or an output-current step stops C13 within 10 µs and PACK_LOST is logged. -/
  | packLost (r : PackReading)
  /-- SAFETY_TIMER_EXPIRY (R339): A charge instance's safety timer reaches its limit and the instance enters FAULT. -/
  | safetyTimerExpiry (dt : Nat) (c : ChargeTarget)
  /-- CHARGE_STATE_TIMER (R338): A timed condition of Table 13.9 (10 s, 60 s, topoff or trickle time) elapses and the charge state changes. -/
  | chargeStateTimer (dt : Nat) (c : ChargeTarget)
  /-- LV_PRESENCE_TEST_COMPLETE (R340): The LV presence test ends and decides MISSING, SHORTED or TRICKLE. -/
  | lvPresenceTestComplete (dt : Nat) (v i : Rat)
  /-- LV_ACK_WRITE (R338): A write of 1 to LV_ACK acknowledges the LV instance and closes a tripped battery switch in DIODE mode. -/
  | lvAckWrite (dt : Nat) (who : Requester) (value : BitVec 8)
  /-- BATTERY_SWITCH_OVERCURRENT (R345): Battery-switch current above 450 A for 10 ms or 800 A opens the switch and latches BAT_SW_OC. -/
  | batterySwitchOvercurrent (dt : Nat) (i : Rat)
  /-- HANDOVER_SWITCH_ON (R346): 50 ms after the hand-over the battery switch goes fully ON. -/
  | handoverSwitchOn (dt : Nat)
  /-- HANDBACK_COUNT_COMPLETE (R346): IB stays at 42 V for 200 ms and VR is handed back to AUX in VR_START. -/
  | handbackCountComplete (dt : Nat)
  /-- EXPORT_BACKFEED (R347): An outlet-side voltage of 30 V or more ends export at once with BACKFEED. -/
  | exportBackfeed (dt : Nat) (v : Rat)
  /-- EXPORT_OVERLOAD_TRIP (R348): Continuous current limiting, long overload or deep droop trips the export output. -/
  | exportOverloadTrip (dt : Nat)
  /-- SVC_PRESS_RELEASE (R349): SVC is released after 20 ms–10 s and the press is logged with its duration. -/
  | svcPressRelease (dt : Nat)
  /-- SVC_HOLD_8S (R349): SVC is held for 8 s and event 0x0B16 warns of a system reset. -/
  | svcHold8s (dt : Nat)
  /-- SVC_HOLD_10S (R349): SVC held for 10 s latches the system reset, opening the battery switch and inhibiting supplies. -/
  | svcHold10s (dt : Nat)
  /-- SYSTEM_RESET_RESTORE (R349): 2 s after the system reset the inhibits are released and the battery switch closes. -/
  | systemResetRestore (dt : Nat)
  /-- PEAT_CMD_WRITE (R350): PEAT_CMD 1 in a SERVICE session starts Peat-mode entry. -/
  | peatCmdWrite (dt : Nat) (who : Requester) (value : BitVec 8)
  /-- PEAT_ENTRY_COMPLETE (R350): Within 1 s the battery switch opens and all supplies are inhibited. -/
  | peatEntryComplete (dt : Nat)
  /-- PEAT_WAKE (R350): An SVC press of 1 s or PoDL above 20 V wakes the module with a main power-on reset. -/
  | peatWake (dt : Nat) (bySvc : Bool)
  /-- ATTN_CLEAR_WRITE (R351): A write of 1 to ATTN_CLEAR deasserts ATTN and clears ATTN_CODE. -/
  | attnClearWrite (dt : Nat) (who : Requester) (value : BitVec 8)
  /-- FEN_ROUND_TRIGGER (R359): Every 10 ms the Fen round sequencers are triggered at one TB tick. -/
  | fenRoundTrigger (dt : Nat)
  /-- FEN_ROUND_LATE (R360): A round not complete 10 ms after its trigger sets ROUND_LATE. -/
  | fenRoundLate (dt : Nat)
  /-- COOLANT_FLOW_LOW (R370): Coolant rise above COOL_DT_MAX for 1 s while a drive is ACTIVE sets COOL_FLOW_LOW. -/
  | coolantFlowLow (dt : Nat)
  /-- PYRERI_STARTUP_TESTS_COMPLETE (R384): Pyreri's start-up tests end and the boot configuration is entered, or the device stays UNAVAILABLE. -/
  | pyreriStartupTestsComplete (dt : Nat) (failed : BitVec 10)
  /-- LANE_DIFFERENCE (R385): A comparator detects a lane difference; an odd lane is excluded and rebuilt, or the safe state latches. -/
  | laneDifference (dt : Nat) (odd : Option (Fin 3)) (clk : Nat)
  /-- RESYNC_COPY_COMPLETE (R385): The odd lane's memory copy finishes and it waits for the cycle boundary to become a shadow lane. -/
  | resyncCopyComplete (dt : Nat)
  /-- RESYNC_WINDOW_CLOSE (R385): RESYNC_WINDOW_ms after the lane rejoins, the resync window closes. -/
  | resyncWindowClose (dt : Nat)
  /-- SAFETY_CYCLE (R389): A safety cycle starts at its TB multiple and runs latch, exchange, torque-off evaluation, functions and end. -/
  | safetyCycle (dt : Nat) (x : CycleInputs)
  /-- CYCLE_WATCHDOG_EXPIRY (R389): A safety cycle does not end within 1.25 × PYR_CYCLE_us and the latched safe state starts. -/
  | cycleWatchdogExpiry (dt : Nat)
  /-- EXCHANGE_STALE (R391): The newest valid exchange record exceeds EXCH_AGE_MAX_us and drives using engine values go to INHIBIT. -/
  | exchangeStale (dt : Nat)
  /-- CONFIG_REQ_TRIPLE (R392): CONFIG_REQ 1 requests a hand-over to TRIPLE. -/
  | configReqTriple (dt : Nat) (who : Requester)
  /-- CONFIG_REQ_PAIR (R392): CONFIG_REQ 2 requests a hand-over to PAIR. -/
  | configReqPair (dt : Nat) (who : Requester)
  /-- CONFIG_REQ_SPLIT (R393): CONFIG_REQ 3 enters SPLIT with torque off held in hardware. -/
  | configReqSplit (dt : Nat) (who : Requester)
  /-- CONFIG_REQ_LEAVE_SPLIT (R393): CONFIG_REQ 4 restarts Pyreri from SPLIT with its start-up tests. -/
  | configReqLeaveSplit (dt : Nat) (who : Requester)
  /-- TQO_READBACK_FAULT (R394): A torque-off channel readback differs for 100 µs and the pair is asserted and held. -/
  | tqoReadbackFault (dt : Nat) (d : Drive) (channels : BitVec 2)
  /-- SAFETY_INPUT_CHANGE (R410): A safety input level change persists for FILTER_ms and the pair's demand is updated. -/
  | safetyInputChange (dt : Nat) (ch : Fin 8) (high : Bool)
  /-- INPUT_PAIR_DISCREPANCY (R410): The other channel does not follow within DISC_ms and PAIR_FAULT latches. -/
  | inputPairDiscrepancy (dt : Nat) (k : Fin 4)
  /-- TEST_PULSE (R411): A test output pulses low for 500 µs and the wired channels are checked. -/
  | testPulse (dt : Nat) (o : Fin 2) (low : BitVec 8)
  /-- RELEASE_PAIR_OVERHOLD (R412): A release pair held at run level beyond 5 s releases nothing and logs 0x0E0F. -/
  | releasePairOverhold (dt : Nat) (k : Fin 4)
  /-- SAFE_RELEASE_WRITE (R413): A SAFE_RELEASE write takes the named drives from INHIBIT to STANDBY or is refused. -/
  | safeReleaseWrite (dt : Nat) (who : Requester) (mask : BitVec 8)
  /-- SS1_TIME_EXPIRY (R406): SS1_TIME_ms elapses after an SS1 demand and STO follows. -/
  | ss1TimeExpiry (dt : Nat) (d : Drive)
  /-- SLT_VIOLATION (R408): SAFE_TQ stays above 1.05 × SLT_LIMIT for SLT_TIME_ms and STO is asserted. -/
  | sltViolation (dt : Nat) (t : Fin 2)
  /-- SPEED_PLAUSIBILITY_FAULT (R403): E1 and E2 disagree beyond tolerance for 20 ms and STO is asserted. -/
  | speedPlausibilityFault (dt : Nat) (t : Fin 2)
  /-- E2_GAP_EXPIRY (R403): E2 stays invalid for E2_GAP_ms under SS1 mode 2 or SLS and STO is asserted. -/
  | e2GapExpiry (dt : Nat) (t : Fin 2)
  /-- SAFE_PARK_CONFIRM_TIMEOUT (R409): SP_CONFIRM_ms passes without both park locks ENGAGED and event 0x0E08 is logged. -/
  | safeParkConfirmTimeout (dt : Nat)
  /-- SORREL_PULSE (R416): An on safety output is switched off for 300 µs and its read-back is checked. -/
  | sorrelPulse (dt : Nat) (k : Fin 4) (v : Rat)
  /-- SET_EDIT_OPEN (R418): SET_EDIT 1 copies the active safety set to a staging image. -/
  | setEditOpen (dt : Nat) (who : Requester)
  /-- SET_EDIT_DISCARD (R418): SET_EDIT 0 discards the staging image. -/
  | setEditDiscard (dt : Nat) (who : Requester)
  /-- SET_COMMIT (R419): SET_COMMIT checks signature, ranges and cross-rules and stores the staged set. -/
  | setCommit (dt : Nat) (who : Requester) (storeOk : Bool)
  /-- HSF_DATA_FRAME_RECEIVE (R430): A safe data frame is checked for CRC, format, sequence and time and accepted or discarded. -/
  | hsfDataFrameReceive (dt : Nat) (k : Fin 16) (data : List Byte)
  /-- HSF_ECHO_RECEIVE (R432): An echo frame arrives and the producer checks its loop time. -/
  | hsfEchoReceive (dt : Nat) (k : Fin 16) (data : List Byte)
  /-- HSF_PRODUCER_SEND (R429): A producer connection forms and sends its next data frame at PERIOD_us. -/
  | hsfProducerSend (dt : Nat) (k : Fin 16)
  /-- HSF_WATCHDOG (R433): No frame or echo is accepted for WDG_ms and the connection enters FAULT. -/
  | hsfWatchdog (dt : Nat) (k : Fin 16)
  /-- HSF_PRODUCER_RESTART (R434): 100 ms after a producer FAULT the connection returns to START. -/
  | hsfProducerRestart (dt : Nat) (k : Fin 16)
  /-- CRC_START_WRITE (R443): START loads INIT, processes the fold-in bytes and binds a host unit to the session. -/
  | crcStartWrite (dt : Nat) (who : Requester) (n : Fin 4)
  /-- CRC_DATA_WRITE (R443): A DATA write processes its bytes through the check-value unit. -/
  | crcDataWrite (dt : Nat) (who : Requester) (n : Fin 4) (data : List Byte)
  /-- CRC_BINDING_TIMEOUT (R444): A bound unit untouched for 1,000 ms is released. -/
  | crcBindingTimeout (dt : Nat) (n : Fin 4)
  /-- CAN_FRAME_RECEIVE (R449): A CAN frame is received, timestamped, filtered and queued or discarded. -/
  | canFrameReceive (dt : Nat) (c : Fin 4) (m : CanMsg) (sofAgo : Nat)
  /-- CAN_FRAME_TRANSMIT_COMPLETE (R453): A frame finishes transmission and the next waiting message is offered. -/
  | canFrameTransmitComplete (dt : Nat) (c : Fin 4) (sofAgo : Nat)
  /-- CAN_ERROR_DETECTED (R455): A bus error updates TEC or REC and may cross warning or passive levels. -/
  | canErrorDetected (dt : Nat) (c : Fin 4) (e : CanError)
  /-- CAN_BUS_OFF_RECOVERY (R456): 128 recessive sequences complete recovery and held urgent slots go first. -/
  | canBusOffRecovery (dt : Nat) (c : Fin 4)
  /-- CAN_SLOT_STALE (R453): A waiting message's stale deadline passes and it is dropped. -/
  | canSlotStale (dt : Nat) (c : Fin 4) (slot : Fin 16)
  /-- BRIDGE_RX_READ (R452): A read of BRIDGE_RX returns and removes the oldest host-filtered frame. -/
  | bridgeRxRead (dt : Nat) (who : Requester) (c : Fin 4)
  /-- BRIDGE_TX_WRITE (R452): A BRIDGE_TX write queues one frame in the transmit FIFO. -/
  | bridgeTxWrite (dt : Nat) (who : Requester) (c : Fin 4) (data : List Byte)
  /-- CAN_CHANNEL_OFFLINE (R458): A channel goes off-line, drives recessive and empties its queues. -/
  | canChannelOffline (dt : Nat) (c : Fin 4)
  /-- CAN_CHANNEL_REJOIN (R458): After 11 recessive bits at a frame boundary the channel joins traffic. -/
  | canChannelRejoin (dt : Nat) (c : Fin 4)
  /-- CAN_TIMESTAMP_WRAP (R454): The 32-bit CAN timestamp wraps and TS_WRAPS advances. -/
  | canTimestampWrap (dt : Nat)
  /-- TIME_REFERENCE_SEND (R460): The time master sends a reference each millisecond with the previous reference's GT. -/
  | timeReferenceSend (dt : Nat)
  /-- TIME_REFERENCE_RECEIVE (R461): A time reference arrives and the global-time offset is corrected or rejected. -/
  | timeReferenceReceive (dt : Nat) (data : List Byte) (sofAgo : Nat)
  /-- TIME_MASTER_TAKEOVER (R462): No lower-ranked reference for the rank timeout and the module becomes time master. -/
  | timeMasterTakeover (dt : Nat)
  /-- GLOBAL_TIME_SYNC_LOSS (R461): No reference for 5 ms clears GT_SYNC. -/
  | globalTimeSyncLoss (dt : Nat)
  /-- ADDRESS_CLAIM_START (R464): At step 7 or rejoin the module claims PREF_ADDR on CAN-A. -/
  | addressClaimStart (dt : Nat)
  /-- ADDRESS_CLAIM_RECEIVE (R464): A contending address claim is resolved by NAME and the loser claims another address. -/
  | addressClaimReceive (dt : Nat) (source : Byte) (name : BitVec 64)
  /-- ADDRESS_CLAIM_TIMER (R464): 250 ms without contention make the claimed address usable. -/
  | addressClaimTimer (dt : Nat)
  /-- CAN_A_COMMAND (R465): A fresh Proprietary A command writes axle, drive or gearbox objects as CAN-A process data. -/
  | canACommand (dt : Nat) (dest : Byte) (data : List Byte)
  /-- CAN_A_REQUEST (R467): A request PGN for a status message is answered at once. -/
  | canARequest (dt : Nat) (dest : Byte) (pgn : BitVec 24) (fromAddr : Byte)
  /-- CAN_A_COMMAND_TIMEOUT (R466): No fresh axle or drive command for A_CMD_TIMEOUT_ms sets CMD_LOST. -/
  | canACommandTimeout (dt : Nat)
  /-- CAN_A_STATUS_SEND (R467): Every STATUS_PERIOD_ms the status PGNs are broadcast. -/
  | canAStatusSend (dt : Nat)
  /-- EMCY_SEND (R489): A queued EMCY frame is sent on CAN-D after the inhibit time. -/
  | emcySend (dt : Nat)
  /-- SDO_REQUEST (R476): An SDO request on CAN-D is executed, or a segment is taken. -/
  | sdoRequest (dt : Nat) (r : SdoRequest)
  /-- SDO_TIMEOUT (R476): A segmented transfer stalls for SDO_TIMEOUT_ms and is aborted. -/
  | sdoTimeout (dt : Nat)
  /-- HSP_READ (R477): A service-protocol READ datagram reads an object. -/
  | hspRead (dt : Nat) (ip : BitVec 32) (port : BitVec 16) (dg : List Byte)
  /-- HSP_WRITE (R477): A service-protocol WRITE datagram writes an object. -/
  | hspWrite (dt : Nat) (ip : BitVec 32) (port : BitVec 16) (dg : List Byte)
  /-- HSP_CLOSE (R483): OP CLOSE closes the peer's session. -/
  | hspClose (dt : Nat) (ip : BitVec 32) (port : BitVec 16) (dg : List Byte)
  /-- HSP_KEEPALIVE (R477): OP KEEPALIVE keeps the peer's session alive. -/
  | hspKeepalive (dt : Nat) (ip : BitVec 32) (port : BitVec 16) (dg : List Byte)
  /-- HSP_INVALID_OP (R477): A datagram with an undefined OP is answered with status 0x05040001. -/
  | hspInvalidOp (dt : Nat) (ip : BitVec 32) (port : BitVec 16) (f : PortFrame)
  /-- AUTH_OPEN_WRITE (R480): AUTH_OPEN issues a nonce for the requested role. -/
  | authOpenWrite (dt : Nat) (who : Requester) (data : List Byte)
  /-- AUTH_RESPONSE_WRITE (R480): AUTH_RESPONSE is compared with the HMAC and raises the role or counts a failure. -/
  | authResponseWrite (dt : Nat) (who : Requester) (data : List Byte)
  /-- NONCE_EXPIRY (R480): A nonce becomes invalid 10 s after issue. -/
  | nonceExpiry (dt : Nat) (i : Fin 5)
  /-- AUTH_LOCK_EXPIRY (R481): A path lockout time elapses and authentication is possible again. -/
  | authLockExpiry (dt : Nat) (can : Bool)
  /-- KEY_WRITE (R482): KEY_SERVICE or KEY_SAFETY is replaced in a SAFETY session. -/
  | keyWrite (dt : Nat) (who : Requester) (safety : Bool) (data : List Byte)
  /-- SESSION_CLOSE_WRITE (R483): SESSION_CLOSE closes the writer's session. -/
  | sessionCloseWrite (dt : Nat) (who : Requester)
  /-- SESSION_IDLE_TIMEOUT (R483): No request for SESSION_IDLE_s closes the session. -/
  | sessionIdleTimeout (dt : Nat) (i : Fin 5)
  /-- ETHERNET_LINK_DOWN (R483): The Ethernet link goes down and every Ethernet session closes. -/
  | ethernetLinkDown (dt : Nat)
  /-- OWNER_WRITE (R484): A write of OWNER_x changes a drive's owner if permitted. -/
  | ownerWrite (dt : Nat) (who : Requester) (d : Drive) (code : Byte)
  /-- EVENT_LOG_ENTRY (R488): Every 10 µs the log buffer enters one event into the ring. -/
  | eventLogEntry (dt : Nat)
  /-- LOG_NEXT_READ (R488): A read of LOG_NEXT returns the entry at LOG_SEL and advances LOG_SEL. -/
  | logNextRead (dt : Nat) (who : Requester)
  /-- LOG_CLEAR_WRITE (R488): LOG_CLEAR empties the ring and acknowledges all entries. -/
  | logClearWrite (dt : Nat) (who : Requester)
  /-- FAULT_OCC_CLEAR_WRITE (R490): FAULT_OCC_CLEAR clears the fault occurrence counters. -/
  | faultOccClearWrite (dt : Nat) (who : Requester)
  /-- OPERATING_TIME_SAVE (R494): Every 600 s the operating and active times are written to the parameter store. -/
  | operatingTimeSave (dt : Nat)
  /-- UPDATE_START (R504): UPD_CMD 1 starts an update of the inactive bank, beginning with its erase. -/
  | updateStart (dt : Nat) (who : Requester)
  /-- UPDATE_ABORT (R504): UPD_CMD 0 aborts a running update. -/
  | updateAbort (dt : Nat) (who : Requester)
  /-- ROLLBACK_REQUEST (R509): UPD_CMD 2 writes a newer marker to the other bank for rollback at the next reset. -/
  | rollbackRequest (dt : Nat) (who : Requester) (otherOk : Bool)
  /-- UPDATE_ERASE_COMPLETE (R504): The target bank erase finishes and a TFTP read request is sent. -/
  | updateEraseComplete (dt : Nat)
  /-- TFTP_DATA_RECEIVE (R505): A TFTP DATA block is programmed and acknowledged, and a short block ends the transfer. -/
  | tftpDataReceive (dt : Nat) (tid : BitVec 16) (block : BitVec 16) (data : List Byte) (programOk : Bool)
  /-- TFTP_ERROR_RECEIVE (R505): A TFTP ERROR from the server fails the update. -/
  | tftpErrorReceive (dt : Nat) (tid : BitVec 16)
  /-- TFTP_TIMEOUT (R505): A missing packet causes a resend after TFTP_TIMEOUT_ms, failing after TFTP_RETRIES. -/
  | tftpTimeout (dt : Nat)
  /-- UPDATE_VERIFY_COMPLETE (R506): Header, payload CRC and signature checks finish and the commit marker is written or the update fails. -/
  | updateVerifyComplete (dt : Nat) (readOk markerOk : Bool)
  /-- CAPTURE_ARM (R512): CAP_CMD 1 arms a memory capture or starts streaming. -/
  | captureArm (dt : Nat) (who : Requester)
  /-- CAPTURE_FORCE (R512): CAP_CMD 2 forces the capture trigger. -/
  | captureForce (dt : Nat) (who : Requester)
  /-- CAPTURE_STOP (R512): CAP_CMD 3 stops capture or streaming, keeping stored rows. -/
  | captureStop (dt : Nat) (who : Requester)
  /-- CAPTURE_ROW (R511): At each CAP_PERIOD_us a row of channel values is stored or streamed. -/
  | captureRow (dt : Nat) (portTakes : Bool)
  /-- CAPTURE_READ_DATA (R513): A read of READ_DATA returns stored rows and advances READ_OFFSET. -/
  | captureReadData (dt : Nat) (who : Requester) (len : Nat)
  /-- REGISTER_WRITE (R475): A write to any object without a row of its own is checked by role, range and state and applied or aborted. -/
  | registerWrite (dt : Nat) (who : Requester) (index : BitVec 16) (sub : BitVec 8) (data : List Byte)
  /-- SVC_PRESSED (R350): A debounced SVC press begins, setting SVC_HELD and abandoning a Peat-mode entry that is running. -/
  | svcPressed (dt : Nat)
  /-- PRODUCER_HEARTBEAT (R473): Every producer heartbeat time the module sends the heartbeat frame 0x700 + NODE_ID with state byte 0x05 on CAN-D. -/
  | producerHeartbeat (dt : Nat)
  /-- ETHERNET_LINK_UP (R496): The 100BASE-T1 link comes up and LINK_UP is set, so sessions, safe frames and transfers can use the port again. -/
  | ethernetLinkUp (dt : Nat)
  /-- SO_CURRENT_LIMIT_OFF (R532): A safety output that has stayed in its current limit for 1 ms turns itself off, so that its read-back fails under R416. -/
  | soCurrentLimitOff (dt : Nat) (k : Fin 4)
  deriving DecidableEq, Repr

end Sys2Proof
end

