-- ==== Sys2Proof/Config.lean ====
section
/-! DEFINITION. The values the manual leaves open, as constants without a body: nothing can be proved of them but that
they are functions of their arguments (assumption 5). -/
namespace Sys2Proof

/-- A fresh value of an open quantity; the argument is the count of values drawn so far (`State.fresh`). -/
opaque Config.freeRat : Nat → Rat
opaque Config.freeNat : Nat → Nat
opaque Config.freeInt : Nat → Int
opaque Config.freeBit : Nat → Bool
/-- The entropy source's octets (R480). -/
opaque Config.freeBytes : Nat → Nat → List Byte

/-- Square root, arc tangent of y / x, tangent, natural logarithm and power of ten: the manual uses them and states no
number format for the result (assumption 6). -/
opaque Config.sqrt : Rat → Rat
opaque Config.atan2 : Rat → Rat → Rat
opaque Config.sin : Rat → Rat
opaque Config.cos : Rat → Rat
opaque Config.tan : Rat → Rat
opaque Config.ln : Rat → Rat
opaque Config.pow10 : Rat → Rat
opaque Config.pi : Rat

/-- Start value of the link frames' CRC, whose polynomial alone R19 gives. -/
opaque Config.linkCrcInit : BitVec 16

/-- The factory-loaded keys (R482). -/
opaque Config.keyService : List Byte
opaque Config.keySafety : List Byte

/-- What manufacture writes into the unit: serial number, ISO 11783 manufacturer code, MAC address, date, the trim's
check value, Druixen's image key (R464, R492, R496, R500). -/
opaque Config.serial : Nat
opaque Config.manufacturerCode : Nat
opaque Config.macAddr : Nat
opaque Config.mfgDate : Nat
opaque Config.otpCrc : Nat
opaque Config.imageKey : List Byte
/-- Check values of the factory's image and of the lane firmware in the image of a generation (R492, R507), and the PoDL
class announced (R41). -/
opaque Config.imageCrc : Nat
opaque Config.laneFwCrc : Nat → Nat
opaque Config.podlClass : Nat
/-- How far ahead of TB island C sets a common apply time, in ticks (R26). -/
opaque Config.applyLead : Nat
/-- Octets of the vendor area (R57). -/
opaque Config.vendorData : Nat → Byte
/-- The names TASK_NAME, SENSOR_NAME and VMON_NAME read as, which the manual does not print. -/
opaque Config.taskName : Nat → List Byte
opaque Config.sensorName : Nat → List Byte
opaque Config.monitorName : Nat → List Byte

end Sys2Proof
end

