-- ==== Sys2Proof/Machine/Dict.lean ====
section
/-! DEFINITION. The object dictionary's tables: for every object its subindices, name, type, access, default and
range, as the manual's object tables give them (R473, Table 0.4, Table 0.5). Where a default differs per instance the
row holds the common one and `Defaults.lean` the instances'. Where the manual states no default ("–") the row holds
zero (DESIGN CHOICE, assumption 2). -/
namespace Sys2Proof.Machine

/-- Objects at index 0x1000. -/
def dictRowsCOM_1000 : List DictRow := [
  ⟨0, 0, "DEVICE_TYPE", .u32, .ro, .int 0, .any, 1⟩]

/-- Objects at index 0x1001. -/
def dictRowsCOM_1001 : List DictRow := [
  ⟨0, 0, "ERROR_REGISTER", .u8, .ro, .int 0, .any, 1⟩]

/-- Objects at index 0x1008. -/
def dictRowsCOM_1008 : List DictRow := [
  ⟨0, 0, "DEVICE_NAME", .str, .ro, .bytes [90, 65, 45, 55, 50, 48, 48], .any, 1⟩]

/-- Objects at index 0x1009. -/
def dictRowsCOM_1009 : List DictRow := [
  ⟨0, 0, "HARDWARE_VERSION", .str, .ro, .bytes [67], .any, 1⟩]

/-- Objects at index 0x100A. -/
def dictRowsCOM_100A : List DictRow := [
  ⟨0, 0, "SOFTWARE_VERSION", .str, .ro, .bytes [52, 46, 50], .any, 1⟩]

/-- Objects at index 0x1014. -/
def dictRowsCOM_1014 : List DictRow := [
  ⟨0, 0, "COB_ID_EMCY", .u32, .ro, .int 144, .any, 1⟩]

/-- Objects at index 0x1015. -/
def dictRowsCOM_1015 : List DictRow := [
  ⟨0, 0, "INHIBIT_TIME_EMCY", .u16, .rws, .int 100, .int 0 10000, 1⟩]

/-- Objects at index 0x1017. -/
def dictRowsCOM_1017 : List DictRow := [
  ⟨0, 0, "HEARTBEAT_TIME", .u16, .rws, .int 0, .any, 1⟩]

/-- Objects at index 0x1018. -/
def dictRowsCOM_1018 : List DictRow := [
  ⟨0, 0, "IDENTITY_SUBS", .u8, .ro, .int 4, .any, 1⟩,
  ⟨1, 1, "VENDOR_ID", .u32, .ro, .int 3416, .any, 1⟩,
  ⟨2, 2, "PRODUCT_CODE", .u32, .ro, .int 29184, .any, 1⟩,
  ⟨3, 3, "REVISION", .u32, .ro, .int 4391938, .any, 1⟩,
  ⟨4, 4, "SERIAL_NUMBER", .u32, .ro, .int 0, .any, 1⟩]

/-- Objects at index 0x1200. -/
def dictRowsCOM_1200 : List DictRow := [
  ⟨0, 0, "SDO_SUBS", .u8, .ro, .int 2, .any, 1⟩,
  ⟨1, 1, "SDO_REQUEST_ID", .u32, .ro, .int 1552, .any, 1⟩,
  ⟨2, 2, "SDO_RESPONSE_ID", .u32, .ro, .int 1424, .any, 1⟩]

/-- Objects at index 0x2000. -/
def dictRowsID : List DictRow := [
  ⟨0, 0, "NUM_SUBS", .u8, .ro, .int 11, .any, 1⟩,
  ⟨1, 1, "VENDOR", .str, .ro, .bytes [68, 114, 117, 105, 120, 101, 110, 32, 80, 111, 119, 101, 114, 32, 69, 108, 101, 99, 116, 114, 111, 110, 105, 99, 115], .any, 1⟩,
  ⟨2, 2, "FAMILY", .str, .ro, .bytes [90, 111, 114, 101, 110, 101], .any, 1⟩,
  ⟨3, 3, "PRODUCT", .str, .ro, .bytes [90, 65, 45, 55, 50, 48, 48], .any, 1⟩,
  ⟨4, 4, "HW_ISSUE", .u8, .ro, .int 67, .any, 1⟩,
  ⟨5, 5, "FW_VERSION", .u32, .ro, .int 262656, .any, 1⟩,
  ⟨6, 6, "SERIAL", .u32, .ro, .int 0, .any, 1⟩,
  ⟨7, 7, "BUILD_ID", .u16, .ro, .int 1, .any, 1⟩,
  ⟨8, 8, "MFG_DATE", .u32, .ro, .int 0, .any, 1⟩,
  ⟨9, 9, "ACTIVE_BANK", .u8, .ro, .int 0, .any, 1⟩,
  ⟨10, 10, "IMAGE_CRC", .u32, .ro, .int 0, .any, 1⟩,
  ⟨11, 11, "OTP_CRC", .u32, .ro, .int 0, .any, 1⟩]

/-- Objects at index 0x2001. -/
def dictRowsSYS : List DictRow := [
  ⟨0, 0, "NUM_SUBS", .u8, .ro, .int 35, .any, 1⟩,
  ⟨1, 1, "CLK_STATUS", .u32, .ro, .int 0, .any, 1⟩,
  ⟨2, 2, "CLK_FAULT_LATCH", .u32, .rw, .int 0, .any, 1⟩,
  ⟨3, 3, "FREQ_ENG", .u32, .ro, .int 0, .any, 1⟩,
  ⟨4, 4, "FREQ_SAFE", .u32, .ro, .int 0, .any, 1⟩,
  ⟨5, 5, "FREQ_FAB", .u32, .ro, .int 0, .any, 1⟩,
  ⟨6, 6, "FREQ_CONV", .u32, .ro, .int 0, .any, 1⟩,
  ⟨7, 7, "FREQ_CAN", .u32, .ro, .int 0, .any, 1⟩,
  ⟨8, 8, "FREQ_NET", .u32, .ro, .int 0, .any, 1⟩,
  ⟨9, 9, "FREQ_AON", .u32, .ro, .int 0, .any, 1⟩,
  ⟨16, 16, "LINK_T_STATUS", .u16, .ro, .int 0, .any, 1⟩,
  ⟨17, 17, "LINK_G_STATUS", .u16, .ro, .int 0, .any, 1⟩,
  ⟨18, 18, "LINK_L_STATUS", .u16, .ro, .int 0, .any, 1⟩,
  ⟨19, 19, "LINK_T_REPLAYS", .u32, .ro, .int 0, .any, 1⟩,
  ⟨20, 20, "LINK_G_REPLAYS", .u32, .ro, .int 0, .any, 1⟩,
  ⟨21, 21, "LINK_L_REPLAYS", .u32, .ro, .int 0, .any, 1⟩,
  ⟨22, 22, "LINK_T_LAT_ns", .u16, .ro, .int 0, .any, 1⟩,
  ⟨23, 23, "LINK_G_LAT_ns", .u16, .ro, .int 0, .any, 1⟩,
  ⟨24, 24, "LINK_L_LAT_ns", .u16, .ro, .int 0, .any, 1⟩,
  ⟨32, 32, "ECC_CORRECTED", .u32, .ro, .int 0, .any, 1⟩,
  ⟨33, 33, "ECC_UNCORRECTED", .u32, .ro, .int 0, .any, 1⟩,
  ⟨34, 34, "SCRUB_PERIOD_ms", .u32, .rws, .int 10000, .int 1000 60000, 1⟩,
  ⟨35, 35, "MEM_STATUS", .u8, .ro, .int 0, .any, 1⟩]

/-- Objects at index 0x2002. -/
def dictRowsSUP : List DictRow := [
  ⟨0, 0, "NUM_SUBS", .u8, .ro, .int 8, .any, 1⟩,
  ⟨1, 1, "SUPPLY_STATUS", .u16, .ro, .int 0, .any, 1⟩,
  ⟨2, 2, "ACTIVE_SOURCE", .u8, .ro, .int 0, .any, 1⟩,
  ⟨3, 3, "V_LV_IN", .f32, .ro, .num (0), .any, 1⟩,
  ⟨4, 4, "V_PODL", .f32, .ro, .num (0), .any, 1⟩,
  ⟨5, 5, "P_CTRL", .f32, .ro, .num (0), .any, 1⟩,
  ⟨6, 6, "PODL_CLASS", .u8, .ro, .int 0, .any, 1⟩,
  ⟨7, 7, "SOURCE_CHANGES", .u32, .ro, .int 0, .any, 1⟩,
  ⟨8, 8, "HOLDUP_EVENTS", .u32, .ro, .int 0, .any, 1⟩]

/-- Objects at index 0x2003. -/
def dictRowsRST : List DictRow := [
  ⟨0, 0, "NUM_SUBS", .u8, .ro, .int 29, .any, 1⟩,
  ⟨1, 1, "RESET_CAUSE", .u8, .ro, .int 0, .any, 1⟩,
  ⟨2, 2, "RESET_COUNT", .u32, .ro, .int 0, .any, 1⟩,
  ⟨3, 3, "TRIM_STATUS", .u8, .ro, .int 0, .any, 1⟩,
  ⟨4, 4, "CTRL_READY_ms", .u16, .ro, .int 0, .any, 1⟩,
  ⟨5, 5, "DRIVE_RESET", .u8, .wo, .int 0, .any, 1⟩,
  ⟨6, 6, "RESET_HOLDOFFS", .u32, .ro, .int 0, .any, 1⟩,
  ⟨7, 7, "BRINGUP_STATUS", .u8, .ro, .int 0, .any, 1⟩,
  ⟨16, 21, "READY_REASON", .u8, .ro, .int 0, .any, 1⟩,
  ⟨24, 29, "READY_TIME_ms", .u16, .ro, .int 65535, .any, 1⟩]

/-- Objects at index 0x2004. -/
def dictRowsRET : List DictRow := [
  ⟨0, 0, "NUM_SUBS", .u8, .ro, .int 6, .any, 1⟩,
  ⟨1, 1, "RETAINED_VALID", .bool, .ro, .int 0, .any, 1⟩,
  ⟨2, 2, "CUST_OFFSET", .u16, .rw, .int 0, .int 0 8176, 1⟩,
  ⟨3, 3, "CUST_DATA", .dom, .rw, .bytes [], .any, 1⟩,
  ⟨4, 4, "VEND_OFFSET", .u16, .rw, .int 0, .int 0 4080, 1⟩,
  ⟨5, 5, "VEND_DATA", .dom, .ro, .bytes [], .any, 1⟩,
  ⟨6, 6, "DISCARDED", .u16, .ro, .int 0, .any, 1⟩]

/-- Objects at index 0x2005. -/
def dictRowsBKP : List DictRow := [
  ⟨0, 0, "NUM_SUBS", .u8, .ro, .int 16, .any, 1⟩,
  ⟨1, 12, "REG", .u32, .rw, .int 0, .any, 1⟩,
  ⟨13, 13, "BKP12", .u32, .ro, .int 0, .any, 1⟩,
  ⟨14, 14, "BKP13", .u32, .ro, .int 0, .any, 1⟩,
  ⟨15, 15, "BKP14", .u32, .ro, .int 0, .any, 1⟩,
  ⟨16, 16, "BKP15", .u32, .ro, .int 0, .any, 1⟩]

/-- Objects at index 0x2006. -/
def dictRowsLOG : List DictRow := [
  ⟨0, 0, "NUM_SUBS", .u8, .ro, .int 10, .any, 1⟩,
  ⟨1, 1, "LOG_STATUS", .u8, .ro, .int 0, .any, 1⟩,
  ⟨2, 2, "LOG_WRITTEN", .u64, .ro, .int 0, .any, 1⟩,
  ⟨3, 3, "LOG_SEL", .u64, .rw, .int 0, .any, 1⟩,
  ⟨4, 4, "LOG_ENTRY", .dom, .ro, .bytes [], .any, 1⟩,
  ⟨5, 5, "LOG_NEXT", .dom, .ro, .bytes [], .any, 1⟩,
  ⟨6, 6, "LOG_ACKED", .u64, .rws, .int 0, .any, 1⟩,
  ⟨7, 7, "LOST", .u16, .ro, .int 0, .any, 1⟩,
  ⟨8, 8, "LOG_CLEAR", .u8, .wo, .int 0, .oneOf [1], 1⟩,
  ⟨9, 9, "EMCY_MIN_SEV", .u8, .rws, .int 1, .int 0 5, 1⟩,
  ⟨10, 10, "EMCY_SUPPRESSED", .u32, .ro, .int 0, .any, 1⟩]

/-- Objects at index 0x2007. -/
def dictRowsCNT : List DictRow := [
  ⟨0, 0, "NUM_SUBS", .u8, .ro, .int 8, .any, 1⟩,
  ⟨1, 1, "CNT_OVF_MAP", .u32, .ro, .int 0, .any, 1⟩,
  ⟨2, 2, "OPERATING_TIME_s", .u32, .ro, .int 0, .any, 1⟩,
  ⟨3, 3, "ACTIVE_TIME_s", .u32, .ro, .int 0, .any, 1⟩,
  ⟨4, 4, "POWER_ON_COUNT", .u32, .ro, .int 0, .any, 1⟩,
  ⟨5, 5, "FAULT_OCC_SEL", .u16, .rw, .int 0, .any, 1⟩,
  ⟨6, 6, "FAULT_OCC", .u8, .ro, .int 0, .any, 1⟩,
  ⟨7, 7, "FAULT_OCC_CLEAR", .u8, .wo, .int 0, .oneOf [1], 1⟩,
  ⟨8, 8, "FAULT_OCC_CODES", .u16, .ro, .int 0, .any, 1⟩]

/-- Objects at index 0x2100 + n, n < 24. -/
def dictRowsENG : List DictRow := [
  ⟨0, 0, "NUM_SUBS", .u8, .ro, .int 15, .any, 24⟩,
  ⟨1, 1, "ENG_STATUS", .u16, .ro, .int 0, .any, 24⟩,
  ⟨2, 2, "ENG_STATE", .u8, .ro, .int 0, .any, 24⟩,
  ⟨3, 3, "PINNED_TASKS", .u8, .ro, .int 0, .any, 24⟩,
  ⟨4, 4, "QUEUE_LOAD_ns", .u32, .ro, .int 0, .any, 24⟩,
  ⟨5, 5, "BUSY", .f32, .ro, .num (0), .any, 24⟩,
  ⟨6, 6, "DISPATCHES", .u64, .ro, .int 0, .any, 24⟩,
  ⟨7, 7, "STEALS", .u32, .ro, .int 0, .any, 24⟩,
  ⟨8, 8, "STOLEN_FROM", .u32, .ro, .int 0, .any, 24⟩,
  ⟨9, 9, "STEAL_TIME_MAX_ns", .u16, .ro, .int 0, .any, 24⟩,
  ⟨10, 10, "OVERRUNS", .u32, .ro, .int 0, .any, 24⟩,
  ⟨11, 11, "SELFTEST_PASSES", .u32, .ro, .int 0, .any, 24⟩,
  ⟨12, 12, "SELFTEST_FAILS", .u16, .ro, .int 0, .any, 24⟩,
  ⟨13, 13, "OOS_COUNT", .u8, .ro, .int 0, .any, 24⟩,
  ⟨14, 14, "LAST_FAIL", .u8, .ro, .int 0, .any, 24⟩,
  ⟨15, 15, "ENG_CNT_STATUS", .u8, .ro, .int 0, .any, 24⟩]

/-- Objects at index 0x2120. -/
def dictRowsPOOL : List DictRow := [
  ⟨0, 0, "NUM_SUBS", .u8, .ro, .int 16, .any, 1⟩,
  ⟨1, 1, "POOL_STATUS", .u16, .ro, .int 0, .any, 1⟩,
  ⟨2, 2, "POOL_SIZE", .u32, .ro, .int 2097152, .any, 1⟩,
  ⟨3, 3, "POOL_USED", .u32, .ro, .int 0, .any, 1⟩,
  ⟨4, 4, "TASK_COUNT", .u16, .ro, .int 59, .any, 1⟩,
  ⟨5, 5, "LIVE_ENGINES", .u8, .ro, .int 0, .any, 1⟩,
  ⟨6, 6, "ADMIT_ENGINES", .u8, .ro, .int 0, .any, 1⟩,
  ⟨7, 7, "U_TOTAL", .f32, .ro, .num (0), .any, 1⟩,
  ⟨8, 8, "U_LIMIT", .f32, .ro, .num (7/10), .any, 1⟩,
  ⟨9, 9, "CONFIG_LOAD", .u8, .wo, .int 0, .oneOf [1], 1⟩,
  ⟨10, 10, "ADMIT_RESULT", .u8, .ro, .int 0, .any, 1⟩,
  ⟨11, 11, "ADMIT_TASK", .u16, .ro, .int 65535, .any, 1⟩,
  ⟨12, 12, "STEAL_COST_MAX_ns", .u16, .ro, .int 0, .any, 1⟩,
  ⟨13, 13, "CLAIM_CONFLICTS", .u32, .ro, .int 0, .any, 1⟩,
  ⟨14, 14, "CONFIG_LOADS", .u16, .ro, .int 0, .any, 1⟩,
  ⟨15, 15, "SOFT_QUEUE", .u16, .ro, .int 0, .any, 1⟩,
  ⟨16, 16, "POOL_CNT_STATUS", .u8, .ro, .int 0, .any, 1⟩]

/-- Objects at index 0x2121. -/
def dictRowsTASK : List DictRow := [
  ⟨0, 0, "NUM_SUBS", .u8, .ro, .int 21, .any, 1⟩,
  ⟨1, 1, "TASK_SEL", .u16, .rw, .int 0, .any, 1⟩,
  ⟨2, 2, "TASK_NAME", .str, .ro, .bytes [], .any, 1⟩,
  ⟨3, 3, "TASK_CLASS", .u8, .ro, .int 0, .any, 1⟩,
  ⟨4, 4, "TASK_DRIVE", .u8, .ro, .int 0, .any, 1⟩,
  ⟨5, 5, "PERIOD_us", .u32, .rws, .int 0, .any, 1⟩,
  ⟨6, 6, "PERIOD_MIN_us", .u32, .ro, .int 0, .any, 1⟩,
  ⟨7, 7, "PERIOD_MAX_us", .u32, .ro, .int 0, .any, 1⟩,
  ⟨8, 8, "PERIOD_ACT_us", .u32, .ro, .int 0, .any, 1⟩,
  ⟨9, 9, "BUDGET_ns", .u16, .ro, .int 0, .any, 1⟩,
  ⟨10, 10, "HOME", .u8, .ro, .int 0, .any, 1⟩,
  ⟨11, 11, "ALTERNATE", .u8, .ro, .int 0, .any, 1⟩,
  ⟨12, 12, "ENGINE_NOW", .u8, .ro, .int 0, .any, 1⟩,
  ⟨13, 13, "BOUND_us", .f32, .ro, .num (0), .any, 1⟩,
  ⟨14, 14, "START_LAT_MAX_us", .f32, .ro, .num (0), .any, 1⟩,
  ⟨15, 15, "EXEC_MAX_ns", .u32, .ro, .int 0, .any, 1⟩,
  ⟨16, 16, "RELEASES", .u64, .ro, .int 0, .any, 1⟩,
  ⟨17, 17, "SKIPS", .u32, .ro, .int 0, .any, 1⟩,
  ⟨18, 18, "OVERRUNS", .u32, .ro, .int 0, .any, 1⟩,
  ⟨19, 19, "MISSES", .u32, .ro, .int 0, .any, 1⟩,
  ⟨20, 20, "TUNABLE", .bool, .ro, .int 0, .any, 1⟩,
  ⟨21, 21, "TASK_CNT_STATUS", .u8, .ro, .int 0, .any, 1⟩]

/-- Objects at index 0x2200. -/
def dictRowsOWN : List DictRow := [
  ⟨0, 0, "NUM_SUBS", .u8, .ro, .int 20, .any, 1⟩,
  ⟨1, 1, "OWNER_0", .u8, .rws, .int 16, .any, 1⟩,
  ⟨2, 2, "OWNER_1", .u8, .rws, .int 16, .any, 1⟩,
  ⟨3, 3, "OWNER_2", .u8, .rws, .int 16, .any, 1⟩,
  ⟨4, 4, "OWNER_3", .u8, .rws, .int 16, .any, 1⟩,
  ⟨5, 5, "OWNER_4", .u8, .rws, .int 16, .any, 1⟩,
  ⟨6, 6, "OWNER_5", .u8, .rws, .int 16, .any, 1⟩,
  ⟨7, 12, "OWNER_DEFAULT", .u8, .rws, .int 16, .oneOf [0, 16], 1⟩,
  ⟨13, 13, "LOSS_ACTION_0", .u8, .rws, .int 2, .int 0 2, 1⟩,
  ⟨14, 14, "LOSS_ACTION_1", .u8, .rws, .int 2, .int 0 2, 1⟩,
  ⟨15, 15, "LOSS_ACTION_2", .u8, .rws, .int 0, .int 0 2, 1⟩,
  ⟨16, 16, "LOSS_ACTION_3", .u8, .rws, .int 0, .int 0 2, 1⟩,
  ⟨17, 17, "LOSS_ACTION_4", .u8, .rws, .int 0, .int 0 2, 1⟩,
  ⟨18, 18, "LOSS_ACTION_5", .u8, .rws, .int 0, .int 0 2, 1⟩,
  ⟨19, 19, "ARB_ABORTS", .u32, .ro, .int 0, .any, 1⟩,
  ⟨20, 20, "OWN_STATUS", .u16, .ro, .int 0, .any, 1⟩]

/-- Objects at index 0x2400 + n, n < 15. -/
def dictRowsCELL0 : List DictRow := [
  ⟨0, 0, "NUM_SUBS", .u8, .ro, .int 38, .any, 15⟩,
  ⟨1, 1, "CELL_STATUS", .u32, .ro, .int 0, .any, 15⟩,
  ⟨2, 2, "CELL_BAND", .u8, .ro, .int 0, .any, 15⟩,
  ⟨3, 3, "CELL_TJ", .i16, .ro, .int 0, .any, 15⟩,
  ⟨4, 7, "DT_B", .u16, .rws, .int 0, .int 16 800, 15⟩,
  ⟨8, 11, "BLANK", .u16, .rws, .int 0, .int 160 1200, 15⟩,
  ⟨12, 12, "BLANK_MAX", .u16, .ro, .int 0, .any, 15⟩,
  ⟨13, 13, "VDS_THR", .f32, .rws, .num (0), .num (4) (12), 15⟩,
  ⟨14, 14, "OC_TRIP", .f32, .rws, .num (0), .any, 15⟩,
  ⟨15, 15, "FSW_MAX", .u32, .rws, .int 0, .any, 15⟩,
  ⟨16, 16, "DWELL_MIN_ns", .u16, .rws, .int 0, .int 400 20000, 15⟩,
  ⟨17, 17, "PLATEAU_V", .f32, .ro, .num (0), .any, 15⟩,
  ⟨18, 18, "PLATEAU_ns", .u16, .ro, .int 600, .any, 15⟩,
  ⟨19, 19, "BOOT_UV_THR", .f32, .ro, .num (0), .any, 15⟩,
  ⟨20, 20, "BOOT_V_MIN", .f32, .ro, .num (0), .any, 15⟩,
  ⟨21, 21, "SELFTEST", .u8, .wo, .int 0, .oneOf [1], 15⟩,
  ⟨22, 22, "SELFTEST_RESULT", .u16, .ro, .int 0, .any, 15⟩,
  ⟨23, 23, "SC_COUNT", .u16, .ro, .int 0, .any, 15⟩,
  ⟨24, 24, "BOTH_ON_COUNT", .u32, .ro, .int 0, .any, 15⟩,
  ⟨25, 25, "BOOT_REFRESHES", .u32, .ro, .int 0, .any, 15⟩,
  ⟨26, 26, "FSW_DEFERRALS", .u32, .ro, .int 0, .any, 15⟩,
  ⟨27, 27, "LAST_FAULT_LEG", .u8, .ro, .int 255, .any, 15⟩,
  ⟨28, 28, "LAST_FAULT_TB", .u64, .ro, .int 0, .any, 15⟩,
  ⟨29, 29, "COUNTER_STATUS", .u8, .ro, .int 0, .any, 15⟩]
def dictRowsCELL1 : List DictRow := [
  ⟨30, 30, "SC_LOCKOUT", .bool, .rws, .int 0, .oneOf [0], 15⟩,
  ⟨31, 31, "LEG_MAP", .u32, .ro, .int 0, .any, 15⟩,
  ⟨32, 35, "LEG_SWITCHES", .u64, .ro, .int 0, .any, 15⟩,
  ⟨36, 36, "VGS_SUP_POS", .f32, .ro, .num (0), .any, 15⟩,
  ⟨37, 37, "VGS_SUP_NEG", .f32, .ro, .num (0), .any, 15⟩,
  ⟨38, 38, "CELL_ACK_COUNT", .u16, .ro, .int 0, .any, 15⟩]
def dictRowsCELL : List DictRow := dictRowsCELL0 ++ dictRowsCELL1

/-- Objects at index 0x2500 + n, n < 50. -/
def dictRowsSH : List DictRow := [
  ⟨0, 0, "NUM_SUBS", .u8, .ro, .int 24, .any, 50⟩,
  ⟨1, 1, "CH_STATUS", .u16, .ro, .int 0, .any, 50⟩,
  ⟨2, 2, "CELL", .u8, .ro, .int 0, .any, 50⟩,
  ⟨3, 3, "FULL_SCALE", .f32, .ro, .num (0), .any, 50⟩,
  ⟨4, 4, "LSB_A", .f32, .ro, .num (0), .any, 50⟩,
  ⟨5, 5, "RAW", .i16, .ro, .int 0, .any, 50⟩,
  ⟨6, 6, "CORR", .i16, .ro, .int 0, .any, 50⟩,
  ⟨7, 7, "CURRENT", .f32, .ro, .num (0), .any, 50⟩,
  ⟨8, 8, "SAMPLE_TB", .u64, .ro, .int 0, .any, 50⟩,
  ⟨9, 9, "SETTLE_ns", .u16, .rws, .int 150, .int 50 400, 50⟩,
  ⟨10, 10, "OFFSET", .i16, .ro, .int 0, .any, 50⟩,
  ⟨11, 11, "OFFSET_TRIM", .i16, .ro, .int 0, .any, 50⟩,
  ⟨12, 12, "OFFSET_ARM", .i16, .ro, .int 0, .any, 50⟩,
  ⟨13, 13, "OFFSET_LIM", .u16, .rws, .int 64, .int 8 512, 50⟩,
  ⟨14, 14, "GAIN", .u16, .rws, .int 0, .int 29491 36045, 50⟩,
  ⟨15, 15, "GAIN_TRIM", .u16, .ro, .int 0, .any, 50⟩,
  ⟨16, 19, "CAL_INT_ms", .u32, .rws, .int 0, .int 1000 600000, 50⟩,
  ⟨20, 20, "HI_THR_CODE", .u16, .ro, .int 0, .any, 50⟩,
  ⟨21, 21, "LO_THR_CODE", .u16, .ro, .int 0, .any, 50⟩,
  ⟨22, 22, "CAL_COUNT", .u32, .ro, .int 0, .any, 50⟩,
  ⟨23, 23, "OVR_COUNT", .u32, .ro, .int 0, .any, 50⟩,
  ⟨24, 24, "LAST_CAL_TB", .u64, .ro, .int 0, .any, 50⟩]

/-- Objects at index 0x2540 + n, n < 4. -/
def dictRowsGC : List DictRow := [
  ⟨0, 0, "NUM_SUBS", .u8, .ro, .int 79, .any, 4⟩,
  ⟨1, 1, "GC_STATUS", .u16, .ro, .int 0, .any, 4⟩,
  ⟨2, 2, "ISLAND", .u8, .ro, .int 0, .any, 4⟩,
  ⟨3, 3, "BUSY_SEQ", .u8, .ro, .int 255, .any, 4⟩,
  ⟨4, 4, "SUSPENDS", .u32, .ro, .int 0, .any, 4⟩,
  ⟨5, 5, "REF_CODE", .u16, .ro, .int 0, .any, 4⟩,
  ⟨16, 47, "INPUT_SCALE", .f32, .ro, .num (0), .any, 4⟩,
  ⟨48, 79, "INPUT_ZERO", .u16, .ro, .int 0, .any, 4⟩]

/-- Objects at index 0x2548 + n, n < 8. -/
def dictRowsSQ : List DictRow := [
  ⟨0, 0, "NUM_SUBS", .u8, .ro, .int 79, .any, 8⟩,
  ⟨1, 1, "SQ_STATUS", .u16, .ro, .int 0, .any, 8⟩,
  ⟨2, 2, "OWNER", .u8, .ro, .int 0, .any, 8⟩,
  ⟨3, 3, "SQ_CTRL", .u32, .rws, .int 0, .any, 8⟩,
  ⟨4, 4, "LENGTH", .u8, .rws, .int 1, .int 1 32, 8⟩,
  ⟨5, 5, "TRIG_PERIOD", .u32, .rws, .int 1000, .int 1 1000000, 8⟩,
  ⟨6, 6, "SW_TRIGGER", .u8, .wo, .int 0, .oneOf [1], 8⟩,
  ⟨7, 7, "SEQ_COUNT", .u32, .ro, .int 0, .any, 8⟩,
  ⟨8, 8, "TRIG_OVERRUNS", .u16, .ro, .int 0, .any, 8⟩,
  ⟨9, 9, "SEQ_TB", .u64, .ro, .int 0, .any, 8⟩,
  ⟨16, 47, "ENTRY", .u32, .rws, .int 262144, .any, 8⟩,
  ⟨48, 79, "RESULT", .u16, .ro, .int 0, .any, 8⟩]

/-- Objects at index 0x2560 + n, n < 16. -/
def dictRowsGCP : List DictRow := [
  ⟨0, 0, "NUM_SUBS", .u8, .ro, .int 14, .any, 16⟩,
  ⟨1, 1, "GCP_STATUS", .u8, .ro, .int 0, .any, 16⟩,
  ⟨2, 2, "GCP_CTRL", .u32, .rws, .int 0, .any, 16⟩,
  ⟨3, 3, "INPUT", .u8, .rws, .int 0, .int 0 31, 16⟩,
  ⟨4, 4, "HI_CODE", .u16, .rws, .int 1023, .int 0 1023, 16⟩,
  ⟨5, 5, "LO_CODE", .u16, .rws, .int 0, .int 0 1023, 16⟩,
  ⟨6, 6, "HYST_CODE", .u8, .rws, .int 2, .int 0 15, 16⟩,
  ⟨7, 7, "FILTER_ns", .u16, .rws, .int 20, .int 0 2550, 16⟩,
  ⟨8, 8, "BLANK_CELL", .u8, .rws, .int 255, .intOr 255 0 14, 16⟩,
  ⟨9, 9, "BLANK_ns", .u16, .rws, .int 0, .int 0 2550, 16⟩,
  ⟨10, 10, "CLEAR", .u8, .wo, .int 0, .oneOf [1], 16⟩,
  ⟨11, 11, "CROSS_COUNT", .u32, .ro, .int 0, .any, 16⟩,
  ⟨12, 12, "HI_THR", .f32, .ro, .num (0), .any, 16⟩,
  ⟨13, 13, "LO_THR", .f32, .ro, .num (0), .any, 16⟩,
  ⟨14, 14, "LAST_CROSS_TB", .u64, .ro, .int 0, .any, 16⟩]

/-- Objects at index 0x2600 + n, n < 8. -/
def dictRowsAX0 : List DictRow := [
  ⟨0, 0, "NUM_SUBS", .u8, .ro, .int 33, .any, 8⟩,
  ⟨1, 1, "AXIS_STATUS", .u32, .ro, .int 14, .any, 8⟩,
  ⟨2, 2, "POLE_PAIRS", .u8, .rws, .int 0, .int 0 8, 8⟩,
  ⟨3, 3, "RS", .f32, .rws, .num (0), .any, 8⟩,
  ⟨4, 4, "LD", .f32, .rws, .num (0), .any, 8⟩,
  ⟨5, 5, "LQ", .f32, .rws, .num (0), .any, 8⟩,
  ⟨6, 6, "PSI_PM", .f32, .rws, .num (0), .any, 8⟩,
  ⟨7, 7, "FLUX_REF", .f32, .rws, .num (0), .any, 8⟩,
  ⟨8, 8, "TQ_BAND", .f32, .rws, .num (0), .any, 8⟩,
  ⟨9, 9, "FLUX_BAND", .f32, .rws, .num (0), .any, 8⟩,
  ⟨10, 10, "DRIFT_WC", .f32, .rws, .num (5), .num (1/2) (50), 8⟩,
  ⟨11, 11, "FW_MARGIN", .f32, .rws, .num (19/20), .num (4/5) (49/50), 8⟩,
  ⟨12, 12, "VON_DROP", .f32, .rws, .num (0), .num (0) (5), 8⟩,
  ⟨13, 13, "DT_COMP", .bool, .rws, .int 1, .any, 8⟩,
  ⟨14, 14, "MEAS_MAX_ns", .u16, .rws, .int 8000, .int 2000 8000, 8⟩,
  ⟨15, 15, "MEAS_MIN_ns", .u16, .rws, .int 500, .int 500 2000, 8⟩,
  ⟨16, 16, "TQ_REF", .f32, .ro, .num (0), .any, 8⟩,
  ⟨17, 17, "TQ_EST", .f32, .ro, .num (0), .any, 8⟩,
  ⟨18, 18, "PSI_ALPHA", .f32, .ro, .num (0), .any, 8⟩,
  ⟨19, 19, "PSI_BETA", .f32, .ro, .num (0), .any, 8⟩,
  ⟨20, 20, "PSI_REF_ACT", .f32, .ro, .num (0), .any, 8⟩,
  ⟨21, 21, "I_ALPHA", .f32, .ro, .num (0), .any, 8⟩,
  ⟨22, 22, "I_BETA", .f32, .ro, .num (0), .any, 8⟩,
  ⟨23, 23, "V_BUS", .f32, .ro, .num (0), .any, 8⟩]
def dictRowsAX1 : List DictRow := [
  ⟨24, 24, "SPEED_EL", .f32, .ro, .num (0), .any, 8⟩,
  ⟨25, 25, "BEMF_LL_PK", .f32, .ro, .num (0), .any, 8⟩,
  ⟨26, 26, "KCL_RES", .f32, .ro, .num (0), .any, 8⟩,
  ⟨27, 27, "INNOV_MAX", .f32, .ro, .num (0), .any, 8⟩,
  ⟨28, 28, "UNMEAS_MAX_ns", .u16, .ro, .int 0, .any, 8⟩,
  ⟨29, 29, "FSW_LEG_AVG", .f32, .ro, .num (0), .any, 8⟩,
  ⟨30, 30, "DECISIONS", .u64, .ro, .int 0, .any, 8⟩,
  ⟨31, 31, "SUBSTITUTIONS", .u32, .ro, .int 0, .any, 8⟩,
  ⟨32, 32, "FALLBACKS", .u32, .ro, .int 0, .any, 8⟩,
  ⟨33, 33, "AXIS_CNT_STATUS", .u8, .ro, .int 0, .any, 8⟩]
def dictRowsAX : List DictRow := dictRowsAX0 ++ dictRowsAX1

/-- Objects at index 0x2620 + n, n < 8. -/
def dictRowsOBS0 : List DictRow := [
  ⟨0, 0, "NUM_SUBS", .u8, .ro, .int 43, .any, 8⟩,
  ⟨1, 1, "OBS_STATUS", .u32, .ro, .int 0, .any, 8⟩,
  ⟨2, 2, "START_MODE", .u8, .rws, .int 0, .int 0 1, 4⟩,
  ⟨3, 3, "OBS_ANGLE", .f32, .ro, .num (0), .any, 8⟩,
  ⟨4, 4, "OBS_SPEED", .f32, .ro, .num (0), .any, 8⟩,
  ⟨5, 5, "RESID", .f32, .ro, .num (0), .any, 8⟩,
  ⟨6, 6, "RESID_THR", .f32, .rws, .num (0), .num (2) (50), 8⟩,
  ⟨7, 7, "LOSS_TIME_us", .u16, .ro, .int 200, .any, 8⟩,
  ⟨8, 8, "OPEN_DET_us", .u16, .ro, .int 100, .any, 8⟩,
  ⟨9, 9, "I_OPEN_THR", .f32, .rws, .num (0), .num (1) (10), 8⟩,
  ⟨10, 10, "I_OPEN_EXPECT", .f32, .rws, .num (0), .num (5) (50), 8⟩,
  ⟨11, 11, "KCL_LIM", .f32, .rws, .num (0), .num (2) (20), 8⟩,
  ⟨12, 12, "SHUNT_FAILED", .u8, .rws, .int 255, .oneOf [255], 8⟩,
  ⟨13, 13, "ASC_EXIT", .f32, .rws, .num (9/10), .num (4/5) (93/100), 4⟩,
  ⟨14, 14, "CATCH_I_MIN", .f32, .rws, .num (2), .num (1/2) (20), 4⟩,
  ⟨15, 15, "BEMF_MIN_V", .f32, .rws, .num (5), .num (2) (50), 4⟩,
  ⟨16, 16, "PROBE_I", .f32, .rws, .num (60), .num (20) (300), 4⟩,
  ⟨17, 17, "PROBE_CONF_MIN", .f32, .rws, .num (3/100), .num (1/100) (1/5), 4⟩,
  ⟨18, 18, "PROBE_ANGLE", .f32, .ro, .num (0), .any, 4⟩,
  ⟨19, 19, "PROBE_CONF", .f32, .ro, .num (0), .any, 4⟩,
  ⟨20, 20, "ASSIST_PERIOD_us", .u16, .rws, .int 200, .int 100 2000, 4⟩,
  ⟨21, 21, "ASSIST_ns", .u16, .rws, .int 2000, .int 1000 10000, 4⟩,
  ⟨22, 22, "ASSIST_GAIN", .f32, .rws, .num (3/10), .num (1/20) (1), 4⟩,
  ⟨23, 23, "XSET_ANGLE_LIM", .f32, .rws, .num (10), .num (3) (30), 4⟩]
def dictRowsOBS1 : List DictRow := [
  ⟨24, 24, "SET_TQ_MAX", .f32, .rws, .num (0), .num (0) (1000), 4⟩,
  ⟨25, 25, "SET_TQ_MAX_ACT", .f32, .ro, .num (0), .any, 4⟩,
  ⟨26, 26, "ENC_OFFSET", .f32, .rws, .num (0), .num (-13176795/4194304) (13176795/4194304), 4⟩,
  ⟨27, 27, "LOSS_COUNT", .u32, .ro, .int 0, .any, 8⟩,
  ⟨28, 28, "CATCH_COUNT", .u32, .ro, .int 0, .any, 4⟩,
  ⟨29, 29, "PROBE_COUNT", .u32, .ro, .int 0, .any, 4⟩,
  ⟨30, 30, "ASC_COUNT", .u32, .ro, .int 0, .any, 4⟩,
  ⟨31, 31, "ASC_TIME_ms", .u32, .ro, .int 0, .any, 4⟩,
  ⟨32, 32, "CATCH_TIME_us", .u32, .ro, .int 0, .any, 4⟩,
  ⟨33, 33, "ID_CMD", .u8, .rws, .int 0, .int 0 3, 4⟩,
  ⟨34, 34, "ID_STATUS", .u8, .ro, .int 0, .any, 4⟩,
  ⟨35, 35, "ID_RS", .f32, .ro, .num (0), .any, 4⟩,
  ⟨36, 36, "ID_LD", .f32, .ro, .num (0), .any, 4⟩,
  ⟨37, 37, "ID_LQ", .f32, .ro, .num (0), .any, 4⟩,
  ⟨38, 38, "ID_PSI_PM", .f32, .ro, .num (0), .any, 4⟩,
  ⟨39, 39, "ID_ENC_OFFSET", .f32, .ro, .num (0), .any, 4⟩,
  ⟨40, 40, "ID_APPLY", .u8, .rws, .int 0, .oneOf [1], 4⟩,
  ⟨41, 41, "OPEN_ACC_us", .u16, .ro, .int 0, .any, 8⟩,
  ⟨42, 42, "XSET_ANGLE", .f32, .ro, .num (0), .any, 4⟩,
  ⟨43, 43, "OBS_CNT_STATUS", .u8, .ro, .int 0, .any, 8⟩]
def dictRowsOBS : List DictRow := dictRowsOBS0 ++ dictRowsOBS1

/-- Objects at index 0x2640 + n, n < 12. -/
def dictRowsPIF0 : List DictRow := [
  ⟨0, 0, "NUM_SUBS", .u8, .ro, .int 30, .any, 12⟩,
  ⟨1, 1, "PIF_STATUS", .u32, .ro, .int 0, .any, 12⟩,
  ⟨2, 2, "MODE", .u8, .rws, .int 0, .int 0 3, 12⟩,
  ⟨3, 3, "PIF_CTRL", .u32, .rws, .int 0, .any, 12⟩,
  ⟨4, 4, "EDGE_MIN_ns", .u16, .rws, .int 0, .int 20 20000, 12⟩,
  ⟨5, 5, "COUNTS_PER_REV", .u32, .rws, .int 0, .any, 12⟩,
  ⟨6, 6, "POSITION", .i32, .ro, .int 0, .any, 12⟩,
  ⟨7, 7, "PRESET", .i32, .wo, .int 0, .any, 12⟩,
  ⟨8, 8, "INDEX_POS", .i32, .ro, .int 0, .any, 12⟩,
  ⟨9, 9, "INDEX_VALUE", .i32, .rws, .int 0, .any, 12⟩,
  ⟨10, 10, "ARM_INDEX", .u8, .wo, .int 0, .oneOf [1], 12⟩,
  ⟨11, 11, "SPEED", .f32, .ro, .num (0), .any, 12⟩,
  ⟨12, 12, "SPEED_PERIOD_us", .u16, .rws, .int 0, .int 10 10000, 12⟩,
  ⟨13, 13, "SPEED_ZERO_ms", .u16, .rws, .int 100, .int 1 10000, 12⟩,
  ⟨14, 14, "LAST_EDGE_TB", .u64, .ro, .int 0, .any, 12⟩,
  ⟨15, 15, "CHECK_TIME_ms", .u16, .rws, .int 20, .int 5 1000, 12⟩,
  ⟨16, 16, "CHECK_CMD", .u8, .wo, .int 0, .oneOf [1], 12⟩,
  ⟨17, 17, "FAULT_LIMIT", .u8, .rws, .int 4, .int 1 32, 12⟩,
  ⟨18, 18, "INDEX_TOL", .u8, .rws, .int 2, .int 0 16, 12⟩,
  ⟨19, 19, "SSI_CLK_kHz", .u16, .rws, .int 1000, .int 100 4000, 4⟩,
  ⟨20, 20, "SSI_BITS", .u8, .rws, .int 25, .int 10 32, 4⟩,
  ⟨21, 21, "SSI_TURN_BITS", .u8, .rws, .int 13, .int 8 24, 4⟩,
  ⟨22, 22, "SSI_FORMAT", .u8, .rws, .int 0, .int 0 3, 4⟩,
  ⟨23, 23, "SSI_PERIOD_us", .u16, .rws, .int 50, .int 10 1000, 4⟩]
def dictRowsPIF1 : List DictRow := [
  ⟨24, 24, "SSI_JUMP_MAX", .u32, .rws, .int 64, .int 1 16777216, 4⟩,
  ⟨25, 25, "EDGE_FAULTS", .u32, .ro, .int 0, .any, 12⟩,
  ⟨26, 26, "ILLEGAL_COUNT", .u32, .ro, .int 0, .any, 12⟩,
  ⟨27, 27, "WIRE_FAULTS", .u32, .ro, .int 0, .any, 12⟩,
  ⟨28, 28, "SSI_ERRORS", .u32, .ro, .int 0, .any, 4⟩,
  ⟨29, 29, "INDEX_ERRORS", .u32, .ro, .int 0, .any, 12⟩,
  ⟨30, 30, "CNT_STATUS", .u8, .ro, .int 0, .any, 12⟩]
def dictRowsPIF : List DictRow := dictRowsPIF0 ++ dictRowsPIF1

/-- Objects at index 0x2700 + n, n < 24. -/
def dictRowsLU0 : List DictRow := [
  ⟨0, 0, "NUM_SUBS", .u8, .ro, .int 95, .any, 24⟩,
  ⟨1, 1, "LU_STATUS", .u32, .ro, .int 0, .any, 24⟩,
  ⟨2, 2, "LU_CTRL", .u32, .rws, .int 0, .any, 24⟩,
  ⟨3, 3, "DRIVE", .u8, .rws, .int 0, .int 0 5, 24⟩,
  ⟨4, 4, "SECTIONS", .u8, .rws, .int 0, .int 0 8, 24⟩,
  ⟨5, 5, "TRIG_PERIOD_us", .u16, .rws, .int 100, .int 5 10000, 24⟩,
  ⟨6, 6, "TRIG_UNIT", .u8, .rws, .int 0, .any, 24⟩,
  ⟨7, 7, "TRIG_DIV", .u8, .rws, .int 1, .int 1 64, 24⟩,
  ⟨8, 8, "FB_SRC", .u16, .rws, .int 0, .any, 24⟩,
  ⟨9, 9, "REF", .f32, .rw, .num (0), .any, 24⟩,
  ⟨10, 10, "IN_GAIN", .f32, .rws, .num (1), .any, 24⟩,
  ⟨11, 11, "OUT_GAIN", .f32, .rws, .num (1), .any, 24⟩,
  ⟨12, 12, "OUT_OFFSET", .f32, .rws, .num (0), .any, 24⟩,
  ⟨13, 13, "OUT_MIN", .f32, .rws, .num (0), .any, 24⟩,
  ⟨14, 14, "OUT_MAX", .f32, .rws, .num (0), .any, 24⟩,
  ⟨15, 15, "INIT_OUT", .f32, .rws, .num (0), .any, 24⟩,
  ⟨16, 16, "OUT_DEST", .u16, .rws, .int 0, .any, 24⟩,
  ⟨17, 17, "MINSEL", .u8, .rws, .int 255, .any, 24⟩,
  ⟨18, 18, "HOLD_MAX_ms", .u16, .rws, .int 20, .int 1 1000, 24⟩,
  ⟨19, 19, "OUTPUT", .f32, .ro, .num (0), .any, 24⟩,
  ⟨20, 20, "FB_VALUE", .f32, .ro, .num (0), .any, 24⟩,
  ⟨21, 21, "LATENCY_ns", .u16, .ro, .int 0, .any, 24⟩,
  ⟨22, 22, "SAMPLES", .u64, .ro, .int 0, .any, 24⟩,
  ⟨23, 23, "SAT_SAMPLES", .u32, .ro, .int 0, .any, 24⟩]
def dictRowsLU1 : List DictRow := [
  ⟨24, 24, "OVF_COUNT", .u32, .ro, .int 0, .any, 24⟩,
  ⟨25, 25, "STALE_COUNT", .u32, .ro, .int 0, .any, 24⟩,
  ⟨26, 26, "COMMITS", .u16, .ro, .int 0, .any, 24⟩,
  ⟨27, 27, "LU_CNT_STATUS", .u8, .ro, .int 0, .any, 24⟩,
  ⟨28, 28, "STAGE_SEC", .u8, .rws, .int 0, .int 0 7, 24⟩,
  ⟨29, 33, "STAGE", .i32, .rws, .int 0, .any, 24⟩,
  ⟨34, 34, "NOTCH_F0", .f32, .rws, .num (0), .any, 24⟩,
  ⟨35, 35, "NOTCH_DEPTH_dB", .f32, .rws, .num (0), .num (0) (60), 24⟩,
  ⟨36, 36, "NOTCH_WIDTH", .f32, .rws, .num (0), .any, 24⟩,
  ⟨37, 37, "COMMIT", .u8, .wo, .int 0, .int 1 2, 24⟩,
  ⟨38, 38, "DIR_SIGNS", .u16, .ro, .int 0, .any, 24⟩,
  ⟨40, 47, "SEC_CTRL", .u8, .rws, .int 0, .any, 24⟩,
  ⟨48, 55, "B0", .i32, .rws, .int 268435456, .any, 24⟩,
  ⟨56, 63, "B1", .i32, .rws, .int 0, .any, 24⟩,
  ⟨64, 71, "B2", .i32, .rws, .int 0, .any, 24⟩,
  ⟨72, 79, "A1", .i32, .rws, .int 0, .any, 24⟩,
  ⟨80, 87, "A2", .i32, .rws, .int 0, .any, 24⟩,
  ⟨88, 95, "SEC_OUT", .f32, .ro, .num (0), .any, 24⟩]
def dictRowsLU : List DictRow := dictRowsLU0 ++ dictRowsLU1

/-- Objects at index 0x2800 + n, n < 2. -/
def dictRowsTR : List DictRow := [
  ⟨0, 0, "NUM_SUBS", .u8, .ro, .int 21, .any, 2⟩,
  ⟨1, 1, "DRIVE_STATE", .u8, .ro, .int 0, .any, 2⟩,
  ⟨2, 2, "DRIVE_STATUS", .u32, .ro, .int 0, .any, 2⟩,
  ⟨3, 3, "CONTROL", .u8, .wo, .int 0, .int 1 5, 2⟩,
  ⟨4, 4, "TQ_SET", .f32, .rw, .num (0), .any, 2⟩,
  ⟨5, 5, "DIRECTION", .u8, .rw, .int 1, .int 1 2, 2⟩,
  ⟨6, 6, "TQ_SLEW", .f32, .rws, .num (20000), .num (100) (200000), 2⟩,
  ⟨7, 7, "TQ_MAX_MOT", .f32, .rws, .num (0), .num (0) (2000), 2⟩,
  ⟨8, 8, "TQ_MAX_GEN", .f32, .rws, .num (0), .num (0) (2000), 2⟩,
  ⟨9, 9, "SPLIT", .f32, .rws, .num (1/2), .num 0 1, 2⟩,
  ⟨10, 10, "REV_SPEED", .f32, .rws, .num (20), .num (5) (200), 2⟩,
  ⟨11, 11, "BASE_SPEED", .f32, .rws, .num (0), .any, 2⟩,
  ⟨12, 12, "STOP_EMF_EXIT", .f32, .rws, .num (9/10), .num (4/5) (93/100), 2⟩,
  ⟨13, 13, "ARM_HOLD_ms", .u32, .rws, .int 10000, .int 1000 600000, 2⟩,
  ⟨14, 14, "TQ_RAMP", .f32, .ro, .num (0), .any, 2⟩,
  ⟨15, 15, "TQ_ACT", .f32, .ro, .num (0), .any, 2⟩,
  ⟨16, 16, "SPEED", .f32, .ro, .num (0), .any, 2⟩,
  ⟨17, 17, "TQ_LIM_MOT_ACT", .f32, .ro, .num (0), .any, 2⟩,
  ⟨18, 18, "TQ_LIM_GEN_ACT", .f32, .ro, .num (0), .any, 2⟩,
  ⟨19, 19, "LIMIT_SRC", .u16, .ro, .int 0, .any, 2⟩,
  ⟨20, 20, "DIR_CHANGES", .u32, .ro, .int 0, .any, 2⟩,
  ⟨21, 21, "LAST_EVENT", .u16, .ro, .int 0, .any, 2⟩]

/-- Objects at index 0x2802. -/
def dictRowsGBX : List DictRow := [
  ⟨0, 0, "NUM_SUBS", .u8, .ro, .int 12, .any, 1⟩,
  ⟨1, 1, "DRIVE_STATE", .u8, .ro, .int 0, .any, 1⟩,
  ⟨2, 2, "DRIVE_STATUS", .u32, .ro, .int 0, .any, 1⟩,
  ⟨3, 3, "CONTROL", .u8, .wo, .int 0, .int 1 5, 1⟩,
  ⟨4, 4, "GEAR_STATE_A", .u8, .ro, .int 0, .any, 1⟩,
  ⟨5, 5, "GEAR_STATE_B", .u8, .ro, .int 0, .any, 1⟩,
  ⟨6, 6, "PARK_STATE_A", .u8, .ro, .int 0, .any, 1⟩,
  ⟨7, 7, "PARK_STATE_B", .u8, .ro, .int 0, .any, 1⟩,
  ⟨8, 8, "RECOVERY_TIME_ms", .u16, .ro, .int 65535, .any, 1⟩,
  ⟨9, 9, "RECOVERY_PATH", .u8, .ro, .int 0, .any, 1⟩,
  ⟨10, 10, "ARM_HOLD_ms", .u32, .rws, .int 10000, .int 1000 600000, 1⟩,
  ⟨11, 11, "LAST_EVENT", .u16, .ro, .int 0, .any, 1⟩,
  ⟨12, 12, "RECOVERIES", .u32, .ro, .int 0, .any, 1⟩]

/-- Objects at index 0x2803. -/
def dictRowsAUX : List DictRow := [
  ⟨0, 0, "NUM_SUBS", .u8, .ro, .int 5, .any, 1⟩,
  ⟨1, 1, "DRIVE_STATE", .u8, .ro, .int 0, .any, 1⟩,
  ⟨2, 2, "DRIVE_STATUS", .u32, .ro, .int 0, .any, 1⟩,
  ⟨3, 3, "CONTROL", .u8, .wo, .int 0, .int 1 5, 1⟩,
  ⟨4, 4, "AUTO_RUN", .bool, .rws, .int 0, .any, 1⟩,
  ⟨5, 5, "LAST_EVENT", .u16, .ro, .int 0, .any, 1⟩]

/-- Objects at index 0x2804. -/
def dictRowsCHG : List DictRow := [
  ⟨0, 0, "NUM_SUBS", .u8, .ro, .int 7, .any, 1⟩,
  ⟨1, 1, "DRIVE_STATE", .u8, .ro, .int 0, .any, 1⟩,
  ⟨2, 2, "DRIVE_STATUS", .u32, .ro, .int 0, .any, 1⟩,
  ⟨3, 3, "CONTROL", .u8, .wo, .int 0, .int 1 5, 1⟩,
  ⟨4, 4, "CHG_MODE", .u8, .rw, .int 1, .int 1 2, 1⟩,
  ⟨5, 5, "AUTO_CHARGE", .bool, .rws, .int 1, .any, 1⟩,
  ⟨6, 6, "SESSION_STEP", .u8, .ro, .int 0, .any, 1⟩,
  ⟨7, 7, "LAST_EVENT", .u16, .ro, .int 0, .any, 1⟩]

/-- Objects at index 0x2805. -/
def dictRowsBRK : List DictRow := [
  ⟨0, 0, "NUM_SUBS", .u8, .ro, .int 5, .any, 1⟩,
  ⟨1, 1, "DRIVE_STATE", .u8, .ro, .int 0, .any, 1⟩,
  ⟨2, 2, "DRIVE_STATUS", .u32, .ro, .int 0, .any, 1⟩,
  ⟨3, 3, "CONTROL", .u8, .wo, .int 0, .int 1 5, 1⟩,
  ⟨4, 4, "AUTO_RUN", .bool, .rws, .int 1, .any, 1⟩,
  ⟨5, 5, "LAST_EVENT", .u16, .ro, .int 0, .any, 1⟩]

/-- Objects at index 0x2810. -/
def dictRowsAXLE : List DictRow := [
  ⟨0, 0, "NUM_SUBS", .u8, .ro, .int 20, .any, 1⟩,
  ⟨1, 1, "AXLE_STATUS", .u16, .ro, .int 0, .any, 1⟩,
  ⟨2, 2, "AXLE_MODE", .u8, .rw, .int 0, .int 0 3, 1⟩,
  ⟨3, 3, "AXLE_CTRL", .u8, .rws, .int 1, .int 0 3, 1⟩,
  ⟨4, 4, "AXLE_TQ_SET", .f32, .rw, .num (0), .any, 1⟩,
  ⟨5, 5, "YAW_TQ_SET", .f32, .rw, .num (0), .any, 1⟩,
  ⟨6, 6, "AXLE_DIRECTION", .u8, .rw, .int 1, .int 1 2, 1⟩,
  ⟨7, 7, "SLIP_GAIN", .f32, .rws, .num (0), .num (0) (5000), 1⟩,
  ⟨8, 8, "LOCK_TQ_MAX", .f32, .rws, .num (0), .num (0) (50000), 1⟩,
  ⟨9, 9, "NEUTRAL_TQ_MAX", .f32, .rws, .num (30), .num 0 200, 1⟩,
  ⟨10, 10, "WHEEL_TQ_A", .f32, .ro, .num (0), .any, 1⟩,
  ⟨11, 11, "WHEEL_TQ_B", .f32, .ro, .num (0), .any, 1⟩,
  ⟨12, 12, "WHEEL_SPEED_A", .f32, .ro, .num (0), .any, 1⟩,
  ⟨13, 13, "WHEEL_SPEED_B", .f32, .ro, .num (0), .any, 1⟩,
  ⟨14, 14, "SHORTFALL", .f32, .ro, .num (0), .any, 1⟩,
  ⟨15, 15, "LIMIT_AXLE_A", .f32, .ro, .num (0), .any, 1⟩,
  ⟨16, 16, "LIMIT_AXLE_B", .f32, .ro, .num (0), .any, 1⟩,
  ⟨17, 17, "TRANSFERS", .u32, .ro, .int 0, .any, 1⟩,
  ⟨18, 18, "CROSSFEEDS", .u16, .ro, .int 0, .any, 1⟩,
  ⟨19, 19, "MODE_CHANGES", .u16, .ro, .int 0, .any, 1⟩,
  ⟨20, 20, "AXLE_CNT_STATUS", .u8, .ro, .int 0, .any, 1⟩]

/-- Objects at index 0x2820 + n, n < 8. -/
def dictRowsSOL : List DictRow := [
  ⟨0, 0, "NUM_SUBS", .u8, .ro, .int 14, .any, 8⟩,
  ⟨1, 1, "SOL_STATUS", .u16, .ro, .int 0, .any, 8⟩,
  ⟨2, 2, "FUNCTION", .u8, .ro, .int 0, .any, 8⟩,
  ⟨3, 3, "I_SET", .f32, .rw, .num (0), .num 0 4, 8⟩,
  ⟨4, 4, "I_ACT", .f32, .ro, .num (0), .any, 8⟩,
  ⟨5, 5, "DUTY", .f32, .ro, .num (0), .any, 8⟩,
  ⟨6, 6, "PWM_Hz", .u16, .rws, .int 1000, .int 200 4000, 8⟩,
  ⟨7, 7, "DITHER_Hz", .u16, .rws, .int 0, .intOr 0 50 400, 8⟩,
  ⟨8, 8, "DITHER_A", .f32, .rws, .num (0), .num (0) (1/2), 8⟩,
  ⟨9, 9, "OPEN_LOAD_ms", .u16, .rws, .int 50, .int 10 1000, 8⟩,
  ⟨10, 10, "DEV_LIM", .f32, .rws, .num (3/10), .num (1/20) (1), 8⟩,
  ⟨11, 11, "ON_TIME_s", .u32, .ro, .int 0, .any, 8⟩,
  ⟨12, 12, "ENERGISATIONS", .u32, .ro, .int 0, .any, 8⟩,
  ⟨13, 13, "SOL_FAULTS", .u16, .ro, .int 0, .any, 8⟩,
  ⟨14, 14, "SOL_CNT_STATUS", .u8, .ro, .int 0, .any, 8⟩]

/-- Objects at index 0x2830. -/
def dictRowsSHF0 : List DictRow := [
  ⟨0, 0, "NUM_SUBS", .u8, .ro, .int 47, .any, 1⟩,
  ⟨1, 1, "SHIFT_SLEW", .f32, .rws, .num (20000), .num (1000) (200000), 1⟩,
  ⟨2, 2, "ZERO_TQ_TOL", .f32, .rws, .num (10), .num (2) (50), 1⟩,
  ⟨3, 3, "SYNC_TOL", .f32, .rws, .num (40), .num (5) (200), 1⟩,
  ⟨4, 4, "ENGAGE_TQ_MAX", .f32, .rws, .num (20), .num (0) (100), 1⟩,
  ⟨5, 5, "SYNC_SPEED_MAX", .f32, .rws, .num (8000), .num (0) (20000), 1⟩,
  ⟨6, 6, "REF_TQ", .f32, .rws, .num (2), .num (1/5) 10, 1⟩,
  ⟨7, 7, "CONFIRM_TOL", .u16, .rws, .int 40, .int 5 500, 1⟩,
  ⟨8, 8, "LAST_REFUSAL", .u8, .ro, .int 0, .any, 1⟩,
  ⟨9, 9, "SHIFT_CNT_STATUS", .u8, .ro, .int 0, .any, 1⟩,
  ⟨16, 16, "SHIFT_CMD", .u8, .rw, .int 0, .int 0 2, 1⟩,
  ⟨32, 32, "SHIFT_CMD", .u8, .rw, .int 0, .int 0 2, 1⟩,
  ⟨17, 17, "GEAR_STATE", .u8, .ro, .int 0, .any, 1⟩,
  ⟨33, 33, "GEAR_STATE", .u8, .ro, .int 0, .any, 1⟩,
  ⟨18, 18, "SHIFT_STEP", .u8, .ro, .int 0, .any, 1⟩,
  ⟨34, 34, "SHIFT_STEP", .u8, .ro, .int 0, .any, 1⟩,
  ⟨19, 19, "RATIO_1", .f32, .rws, .num (0), .num 1 200, 1⟩,
  ⟨35, 35, "RATIO_1", .f32, .rws, .num (0), .num 1 200, 1⟩,
  ⟨20, 20, "RATIO_2", .f32, .rws, .num (0), .num 1 200, 1⟩,
  ⟨36, 36, "RATIO_2", .f32, .rws, .num (0), .num 1 200, 1⟩,
  ⟨21, 21, "POS_N", .i32, .rws, .int 0, .any, 1⟩,
  ⟨37, 37, "POS_N", .i32, .rws, .int 0, .any, 1⟩,
  ⟨22, 22, "POS_G1", .i32, .rws, .int 0, .any, 1⟩,
  ⟨38, 38, "POS_G1", .i32, .rws, .int 0, .any, 1⟩]
def dictRowsSHF1 : List DictRow := [
  ⟨23, 23, "POS_G2", .i32, .rws, .int 0, .any, 1⟩,
  ⟨39, 39, "POS_G2", .i32, .rws, .int 0, .any, 1⟩,
  ⟨24, 24, "NEUTRAL_WIN", .u16, .rws, .int 120, .int 10 2000, 1⟩,
  ⟨40, 40, "NEUTRAL_WIN", .u16, .rws, .int 120, .int 10 2000, 1⟩,
  ⟨25, 25, "GEAR_WIN", .u16, .rws, .int 80, .int 10 2000, 1⟩,
  ⟨41, 41, "GEAR_WIN", .u16, .rws, .int 80, .int 10 2000, 1⟩,
  ⟨26, 26, "OUT_SPEED_SRC", .u8, .rws, .int 0, .int 0 2, 1⟩,
  ⟨42, 42, "OUT_SPEED_SRC", .u8, .rws, .int 0, .int 0 2, 1⟩,
  ⟨27, 27, "OUT_SPEED", .f32, .rw, .num (0), .any, 1⟩,
  ⟨43, 43, "OUT_SPEED", .f32, .rw, .num (0), .any, 1⟩,
  ⟨28, 28, "SHIFT_TIME_ms", .u16, .ro, .int 0, .any, 1⟩,
  ⟨44, 44, "SHIFT_TIME_ms", .u16, .ro, .int 0, .any, 1⟩,
  ⟨29, 29, "SHIFTS", .u32, .ro, .int 0, .any, 1⟩,
  ⟨45, 45, "SHIFTS", .u32, .ro, .int 0, .any, 1⟩,
  ⟨30, 30, "SHIFT_FAILS", .u32, .ro, .int 0, .any, 1⟩,
  ⟨46, 46, "SHIFT_FAILS", .u32, .ro, .int 0, .any, 1⟩,
  ⟨31, 31, "FORK_RECORD", .u32, .ro, .int 0, .any, 1⟩,
  ⟨47, 47, "FORK_RECORD", .u32, .ro, .int 0, .any, 1⟩]
def dictRowsSHF : List DictRow := dictRowsSHF0 ++ dictRowsSHF1

/-- Objects at index 0x2838. -/
def dictRowsPRK0 : List DictRow := [
  ⟨0, 0, "NUM_SUBS", .u8, .ro, .int 43, .any, 1⟩,
  ⟨1, 1, "PARK_SPEED_MAX", .f32, .rws, .num (30), .num 0 200, 1⟩,
  ⟨2, 2, "PARK_TQ_MAX", .f32, .rws, .num (200), .num 0 2000, 1⟩,
  ⟨3, 3, "RELEASE_TIME_ms", .u16, .rws, .int 150, .int 50 1000, 1⟩,
  ⟨4, 4, "TOW_RELEASE", .bool, .rws, .int 0, .any, 1⟩,
  ⟨16, 16, "PARK_CMD", .u8, .rw, .int 0, .int 1 2, 1⟩,
  ⟨32, 32, "PARK_CMD", .u8, .rw, .int 0, .int 1 2, 1⟩,
  ⟨17, 17, "PARK_STATE", .u8, .ro, .int 0, .any, 1⟩,
  ⟨33, 33, "PARK_STATE", .u8, .ro, .int 0, .any, 1⟩,
  ⟨18, 18, "RELEASE_SOL", .u8, .rws, .int 6, .intOr 255 0 7, 1⟩,
  ⟨34, 34, "RELEASE_SOL", .u8, .rws, .int 7, .intOr 255 0 7, 1⟩,
  ⟨19, 19, "HOLD_I", .f32, .rws, .num (4/5), .num (1/10) (4), 1⟩,
  ⟨35, 35, "HOLD_I", .f32, .rws, .num (4/5), .num (1/10) (4), 1⟩,
  ⟨20, 20, "POS_ENGAGED", .i32, .rws, .int 0, .any, 1⟩,
  ⟨36, 36, "POS_ENGAGED", .i32, .rws, .int 0, .any, 1⟩,
  ⟨21, 21, "POS_RELEASED", .i32, .rws, .int 0, .any, 1⟩,
  ⟨37, 37, "POS_RELEASED", .i32, .rws, .int 0, .any, 1⟩,
  ⟨22, 22, "PARK_WIN", .u16, .rws, .int 60, .int 10 1000, 1⟩,
  ⟨38, 38, "PARK_WIN", .u16, .rws, .int 60, .int 10 1000, 1⟩,
  ⟨23, 23, "ENGAGE_TQ", .f32, .rws, .num (3), .num (1/5) 10, 1⟩,
  ⟨39, 39, "ENGAGE_TQ", .f32, .rws, .num (3), .num (1/5) 10, 1⟩,
  ⟨24, 24, "PARK_OPS", .u32, .ro, .int 0, .any, 1⟩,
  ⟨40, 40, "PARK_OPS", .u32, .ro, .int 0, .any, 1⟩,
  ⟨25, 25, "PARK_FAILS", .u16, .ro, .int 0, .any, 1⟩]
def dictRowsPRK1 : List DictRow := [
  ⟨41, 41, "PARK_FAILS", .u16, .ro, .int 0, .any, 1⟩,
  ⟨26, 26, "UNCOMMANDED", .u16, .ro, .int 0, .any, 1⟩,
  ⟨42, 42, "UNCOMMANDED", .u16, .ro, .int 0, .any, 1⟩,
  ⟨27, 27, "PARK_CNT_STATUS", .u8, .ro, .int 0, .any, 1⟩,
  ⟨43, 43, "PARK_CNT_STATUS", .u8, .ro, .int 0, .any, 1⟩]
def dictRowsPRK : List DictRow := dictRowsPRK0 ++ dictRowsPRK1

/-- Objects at index 0x2900. -/
def dictRowsDCL0 : List DictRow := [
  ⟨0, 0, "NUM_SUBS", .u8, .ro, .int 34, .any, 1⟩,
  ⟨1, 1, "DCL_STATUS", .u32, .ro, .int 0, .any, 1⟩,
  ⟨2, 2, "V_DC", .f32, .ro, .num (0), .any, 1⟩,
  ⟨3, 3, "V_DC_GC", .f32, .ro, .num (0), .any, 1⟩,
  ⟨4, 4, "DV_DT", .f32, .ro, .num (0), .any, 1⟩,
  ⟨5, 5, "CHOP_START", .f32, .rws, .num (885), .num 860 900, 1⟩,
  ⟨6, 6, "CHOP_FULL", .f32, .rws, .num (905), .num 870 920, 1⟩,
  ⟨7, 7, "REGEN_ZERO", .f32, .rws, .num (915), .num 875 935, 1⟩,
  ⟨8, 8, "FW_TRIP", .f32, .rws, .num (960), .num 895 980, 1⟩,
  ⟨9, 9, "HW_TRIP", .f32, .rws, .num (985), .num 910 1000, 1⟩,
  ⟨10, 10, "UV_DERATE", .f32, .rws, .num (420), .num 320 445, 1⟩,
  ⟨11, 11, "UV_TRIP", .f32, .rws, .num (380), .num 300 420, 1⟩,
  ⟨12, 12, "GEN_FACTOR", .f32, .ro, .num (1), .any, 1⟩,
  ⟨13, 13, "MOT_FACTOR", .f32, .ro, .num (1), .any, 1⟩,
  ⟨14, 14, "CHOP_Hz", .u32, .rws, .int 10000, .int 1000 100000, 1⟩,
  ⟨15, 15, "RES_OHM_0", .f32, .rws, .num (0), .numOr 0 (31/10) 20, 1⟩,
  ⟨16, 16, "RES_OHM_1", .f32, .rws, .num (0), .numOr 0 (31/10) 20, 1⟩,
  ⟨17, 17, "RES_MEAS_0", .f32, .ro, .num (0), .any, 1⟩,
  ⟨18, 18, "RES_MEAS_1", .f32, .ro, .num (0), .any, 1⟩,
  ⟨19, 19, "RES_E_MAX", .f32, .rws, .num (1200000), .num 10000 10000000, 1⟩,
  ⟨20, 20, "RES_TAU_s", .f32, .rws, .num (300), .num (10) (3600), 1⟩,
  ⟨21, 21, "RES_E_0", .f32, .ro, .num (600000), .any, 1⟩,
  ⟨22, 22, "RES_E_1", .f32, .ro, .num (600000), .any, 1⟩,
  ⟨23, 23, "CHOP_DUTY", .f32, .ro, .num (0), .any, 1⟩]
def dictRowsDCL1 : List DictRow := [
  ⟨24, 24, "SHORT_I_THR", .f32, .rws, .num (20), .num (5) (100), 1⟩,
  ⟨25, 25, "DISCHARGE_CMD", .u8, .wo, .int 0, .int 0 1, 1⟩,
  ⟨26, 26, "DISCH_STATE", .u8, .ro, .int 0, .any, 1⟩,
  ⟨27, 27, "DISCH_TIME_ms", .u16, .ro, .int 0, .any, 1⟩,
  ⟨28, 28, "CHOP_ENERGY_J", .u64, .ro, .int 0, .any, 1⟩,
  ⟨29, 29, "FW_TRIPS", .u16, .ro, .int 0, .any, 1⟩,
  ⟨30, 30, "HW_TRIPS", .u16, .ro, .int 0, .any, 1⟩,
  ⟨31, 31, "CHOP_FAULTS", .u16, .ro, .int 0, .any, 1⟩,
  ⟨32, 32, "DISCHARGES", .u32, .ro, .int 0, .any, 1⟩,
  ⟨33, 33, "V_DC_MAX", .f32, .ro, .num (0), .any, 1⟩,
  ⟨34, 34, "DCL_CNT_STATUS", .u8, .ro, .int 0, .any, 1⟩]
def dictRowsDCL : List DictRow := dictRowsDCL0 ++ dictRowsDCL1

/-- Objects at index 0x2A00. -/
def dictRowsCNV0 : List DictRow := [
  ⟨0, 0, "NUM_SUBS", .u8, .ro, .int 43, .any, 1⟩,
  ⟨1, 1, "AUX_STATUS", .u32, .ro, .int 0, .any, 1⟩,
  ⟨2, 2, "AUX_MODE", .u8, .ro, .int 0, .any, 1⟩,
  ⟨3, 3, "V_IB", .f32, .ro, .num (0), .any, 1⟩,
  ⟨4, 4, "V_VR", .f32, .ro, .num (0), .any, 1⟩,
  ⟨5, 5, "V_AUX48", .f32, .ro, .num (0), .any, 1⟩,
  ⟨6, 6, "I_VR", .f32, .ro, .num (0), .any, 1⟩,
  ⟨7, 7, "P_IB", .f32, .ro, .num (0), .any, 1⟩,
  ⟨8, 8, "IB_SET", .f32, .rws, .num (50), .num (44) (56), 1⟩,
  ⟨9, 9, "IB_SOFTSTART_ms", .u16, .rws, .int 20, .int 1 200, 1⟩,
  ⟨10, 10, "VR_SRC", .u8, .rw, .int 0, .int 0 1, 1⟩,
  ⟨11, 11, "VR_CMD", .f32, .rw, .num (142/5), .num (24) (30), 1⟩,
  ⟨12, 12, "VR_SET_0", .f32, .rws, .num (138/5), .num 24 30, 1⟩,
  ⟨13, 13, "VR_SET_1", .f32, .rws, .num (142/5), .num 24 30, 1⟩,
  ⟨14, 14, "VR_SET_2", .f32, .rws, .num (132/5), .num 24 30, 1⟩,
  ⟨15, 15, "VR_SET_3", .f32, .rws, .num (24), .num 24 30, 1⟩,
  ⟨16, 16, "VSEL_CODE", .u8, .ro, .int 0, .any, 1⟩,
  ⟨17, 17, "VR_TARGET", .f32, .ro, .num (0), .any, 1⟩,
  ⟨18, 18, "VR_REF", .f32, .ro, .num (0), .any, 1⟩,
  ⟨19, 19, "VR_SLEW", .f32, .rws, .num (1/5), .num (1/100) (5), 1⟩,
  ⟨20, 20, "SOFTSTART_ms", .u16, .rws, .int 20, .int 1 200, 1⟩,
  ⟨21, 21, "FSW_AUX", .u32, .rws, .int 150000, .int 120000 180000, 1⟩,
  ⟨22, 22, "SYNC_SLEW", .f32, .rws, .num (1), .num (1/10) (1), 1⟩,
  ⟨23, 23, "F_BUCK", .u32, .ro, .int 0, .any, 1⟩]
def dictRowsCNV1 : List DictRow := [
  ⟨24, 24, "F_SYNC_IN", .u32, .ro, .int 0, .any, 1⟩,
  ⟨25, 25, "DAB_Hz", .u32, .rws, .int 80000, .int 40000 100000, 1⟩,
  ⟨26, 26, "DAB_IPK", .f32, .rws, .num (280), .num (50) (300), 1⟩,
  ⟨27, 27, "DAB_PHASE", .f32, .ro, .num (0), .any, 1⟩,
  ⟨28, 28, "DAB_STOP_V", .f32, .rws, .num (380), .num (350) (420), 1⟩,
  ⟨29, 29, "TOW_EN", .bool, .rws, .int 1, .any, 1⟩,
  ⟨30, 30, "TOW_IB_SET", .f32, .rws, .num (46), .num (42) (50), 1⟩,
  ⟨31, 31, "TOW_VBAT_MIN", .f32, .rws, .num (21), .num (18) (24), 1⟩,
  ⟨32, 32, "AUX48_EN", .bool, .rw, .int 0, .any, 1⟩,
  ⟨33, 33, "AUX48_I_MAX", .f32, .rws, .num (20), .num (1) (40), 1⟩,
  ⟨34, 34, "I_AUX48", .f32, .ro, .num (0), .any, 1⟩,
  ⟨35, 35, "L_PH", .f32, .ro, .num (11/5000000), .any, 1⟩,
  ⟨36, 36, "PH_I_MAX", .f32, .rws, .num (81), .num (10) (100), 1⟩,
  ⟨37, 37, "E_VR_J", .u64, .ro, .int 0, .any, 1⟩,
  ⟨38, 38, "TOW_TIME_s", .u32, .ro, .int 0, .any, 1⟩,
  ⟨39, 39, "VSEL_CHANGES", .u32, .ro, .int 0, .any, 1⟩,
  ⟨40, 40, "RELEASES", .u32, .ro, .int 0, .any, 1⟩,
  ⟨41, 41, "SYNC_LOSSES", .u16, .ro, .int 0, .any, 1⟩,
  ⟨42, 42, "TOW_ENTRIES", .u16, .ro, .int 0, .any, 1⟩,
  ⟨43, 43, "AUX_CNT_STATUS", .u8, .ro, .int 0, .any, 1⟩]
def dictRowsCNV : List DictRow := dictRowsCNV0 ++ dictRowsCNV1

/-- Objects at index 0x2B00. -/
def dictRowsCHR0 : List DictRow := [
  ⟨0, 0, "NUM_SUBS", .u8, .ro, .int 26, .any, 1⟩,
  ⟨1, 1, "CHG_STATUS", .u32, .ro, .int 0, .any, 1⟩,
  ⟨2, 2, "PILOT_STATE", .u8, .ro, .int 0, .any, 1⟩,
  ⟨3, 3, "PILOT_DUTY", .f32, .ro, .num (0), .any, 1⟩,
  ⟨4, 4, "PILOT_I", .f32, .ro, .num (0), .any, 1⟩,
  ⟨5, 5, "PROX_OHM", .f32, .ro, .num (0), .any, 1⟩,
  ⟨6, 6, "PROX_I", .f32, .ro, .num (0), .any, 1⟩,
  ⟨7, 7, "AC_I_MAX", .f32, .rws, .num (63), .num (6) (63), 1⟩,
  ⟨8, 8, "AC_I_LIM_ACT", .f32, .ro, .num (0), .any, 1⟩,
  ⟨9, 9, "AC_PHASES", .u8, .ro, .int 0, .any, 1⟩,
  ⟨10, 12, "V", .f32, .ro, .num (0), .any, 1⟩,
  ⟨13, 13, "F_LINE", .f32, .ro, .num (0), .any, 1⟩,
  ⟨14, 14, "I_AC", .f32, .ro, .num (0), .any, 1⟩,
  ⟨15, 15, "V_PFC", .f32, .ro, .num (0), .any, 1⟩,
  ⟨16, 16, "PFC_BUS_SET", .f32, .rws, .num (850), .num 780 900, 1⟩,
  ⟨17, 17, "P_AC", .f32, .ro, .num (0), .any, 1⟩,
  ⟨18, 18, "P_DC", .f32, .ro, .num (0), .any, 1⟩,
  ⟨19, 19, "PACK_I", .f32, .ro, .num (0), .any, 1⟩,
  ⟨20, 20, "DVDT_THR", .f32, .rws, .num (20), .num (5) (100), 1⟩,
  ⟨21, 21, "AC_WAIT_ms", .u16, .rws, .int 5000, .int 3000 10000, 1⟩,
  ⟨22, 22, "RELAY_OPS_MAIN", .u32, .ro, .int 0, .any, 1⟩,
  ⟨23, 23, "RELAY_OPS_PRE", .u32, .ro, .int 0, .any, 1⟩,
  ⟨24, 24, "E_IMPORT_J", .u64, .ro, .int 0, .any, 1⟩,
  ⟨25, 25, "E_EXPORT_J", .u64, .ro, .int 0, .any, 1⟩]
def dictRowsCHR1 : List DictRow := [
  ⟨26, 26, "CHG_CNT_STATUS", .u8, .ro, .int 0, .any, 1⟩]
def dictRowsCHR : List DictRow := dictRowsCHR0 ++ dictRowsCHR1

/-- Objects at index 0x2B20. -/
def dictRowsHV0 : List DictRow := [
  ⟨0, 0, "NUM_SUBS", .u8, .ro, .int 24, .any, 1⟩,
  ⟨1, 1, "HV_STATE", .u8, .ro, .int 0, .any, 1⟩,
  ⟨2, 2, "HV_CV_V", .f32, .rws, .num (875), .num 450 890, 1⟩,
  ⟨3, 3, "HV_CC_A", .f32, .rws, .num (100), .num (1) (100), 1⟩,
  ⟨4, 4, "HV_TAPER_A", .f32, .rws, .num (2), .num (1/2) (20), 1⟩,
  ⟨5, 5, "HV_RECHARGE_DV", .f32, .rws, .num (20), .num (5) (100), 1⟩,
  ⟨6, 6, "HV_TOPOFF_EN", .bool, .rws, .int 0, .any, 1⟩,
  ⟨7, 7, "HV_TOPOFF_min", .u16, .rws, .int 30, .int 1 240, 1⟩,
  ⟨8, 8, "HV_TIMER_LIMIT_min", .u16, .rws, .int 720, .int 60 1440, 1⟩,
  ⟨9, 9, "HV_TIMER_min", .f32, .ro, .num (0), .any, 1⟩,
  ⟨10, 10, "HV_I_LIM_ACT", .f32, .ro, .num (0), .any, 1⟩,
  ⟨11, 11, "HV_CV_ACT", .f32, .ro, .num (0), .any, 1⟩,
  ⟨12, 12, "BMS_CV_V", .f32, .ro, .num (0), .any, 1⟩,
  ⟨13, 13, "BMS_I_CHG", .f32, .ro, .num (0), .any, 1⟩,
  ⟨14, 14, "BMS_I_DIS", .f32, .ro, .num (0), .any, 1⟩,
  ⟨15, 15, "BMS_V_PACK", .f32, .ro, .num (0), .any, 1⟩,
  ⟨16, 16, "BMS_FLAGS", .u8, .ro, .int 0, .any, 1⟩,
  ⟨17, 17, "BMS_RX_ID", .u16, .rws, .int 528, .int 1 2046, 1⟩,
  ⟨18, 18, "MOD_TX_ID", .u16, .rws, .int 536, .int 1 2047, 1⟩,
  ⟨19, 19, "BMS_TIMEOUT_ms", .u16, .rws, .int 300, .int 100 2000, 1⟩,
  ⟨20, 20, "HV_CHARGE_mAs", .u64, .ro, .int 0, .any, 1⟩,
  ⟨21, 21, "HV_DISCHARGE_mAs", .u64, .ro, .int 0, .any, 1⟩,
  ⟨22, 22, "PACK_LOSTS", .u16, .ro, .int 0, .any, 1⟩,
  ⟨23, 23, "BMS_TIMEOUTS", .u16, .ro, .int 0, .any, 1⟩]
def dictRowsHV1 : List DictRow := [
  ⟨24, 24, "HV_CNT_STATUS", .u8, .ro, .int 0, .any, 1⟩]
def dictRowsHV : List DictRow := dictRowsHV0 ++ dictRowsHV1

/-- Objects at index 0x2B40. -/
def dictRowsLV0 : List DictRow := [
  ⟨0, 0, "NUM_SUBS", .u8, .ro, .int 34, .any, 1⟩,
  ⟨1, 1, "LV_STATUS", .u32, .ro, .int 0, .any, 1⟩,
  ⟨2, 2, "LV_STATE", .u8, .ro, .int 0, .any, 1⟩,
  ⟨3, 3, "LV_CHG_EN", .bool, .rw, .int 1, .any, 1⟩,
  ⟨4, 4, "LV_CHEM", .u8, .rws, .int 0, .int 0 1, 1⟩,
  ⟨5, 5, "LV_CV_V", .f32, .rws, .num (144/5), .num (24) (30), 1⟩,
  ⟨6, 6, "LV_CC_A", .f32, .rws, .num (80), .num (1) (80), 1⟩,
  ⟨7, 7, "LV_TRICKLE_V", .f32, .rws, .num (18), .num (12) (20), 1⟩,
  ⟨8, 8, "LV_TRICKLE_A", .f32, .rws, .num (1/2), .num (1/10) (2), 1⟩,
  ⟨9, 9, "LV_PRECHARGE_V", .f32, .rws, .num (108/5), .num (18) (24), 1⟩,
  ⟨10, 10, "LV_PRECHARGE_A", .f32, .rws, .num (6), .num (1) (20), 1⟩,
  ⟨11, 11, "LV_TAPER_A", .f32, .rws, .num (3), .num (1/2) (20), 1⟩,
  ⟨12, 12, "LV_RECHARGE_V", .f32, .rws, .num (128/5), .num 22 28, 1⟩,
  ⟨13, 13, "LV_TOPOFF_EN", .bool, .rws, .int 1, .any, 1⟩,
  ⟨14, 14, "LV_TOPOFF_min", .u16, .rws, .int 30, .int 1 240, 1⟩,
  ⟨15, 15, "LV_TIMER_LIMIT_min", .u16, .rws, .int 720, .int 60 1440, 1⟩,
  ⟨16, 16, "LV_TIMER_min", .f32, .ro, .num (0), .any, 1⟩,
  ⟨17, 17, "VR_MIN_SYS", .f32, .rws, .num (24), .num (22) (26), 1⟩,
  ⟨18, 18, "V_BAT", .f32, .ro, .num (0), .any, 1⟩,
  ⟨19, 19, "I_BAT", .f32, .ro, .num (0), .any, 1⟩,
  ⟨20, 20, "LV_I_LIM_ACT", .f32, .ro, .num (0), .any, 1⟩,
  ⟨21, 21, "BAT_SW_MODE", .u8, .ro, .int 0, .any, 1⟩,
  ⟨22, 22, "VR_SOURCE", .u8, .ro, .int 0, .any, 1⟩,
  ⟨23, 23, "LV_ACK", .u8, .wo, .int 0, .oneOf [1], 1⟩]
def dictRowsLV1 : List DictRow := [
  ⟨24, 24, "SVC_LAST_ms", .u32, .ro, .int 0, .any, 1⟩,
  ⟨25, 25, "PEAT_CMD", .u8, .wo, .int 0, .oneOf [1], 1⟩,
  ⟨26, 26, "ATTN_MASK", .u32, .rws, .int 2048, .any, 1⟩,
  ⟨27, 27, "ATTN_MIN_SEV", .u8, .rws, .int 1, .int 0 5, 1⟩,
  ⟨28, 28, "ATTN_CLEAR", .u8, .wo, .int 0, .oneOf [1], 1⟩,
  ⟨29, 29, "ATTN_CODE", .u16, .ro, .int 0, .any, 1⟩,
  ⟨30, 30, "LV_CHARGE_mAs", .u64, .ro, .int 0, .any, 1⟩,
  ⟨31, 31, "LV_DISCHARGE_mAs", .u64, .ro, .int 0, .any, 1⟩,
  ⟨32, 32, "HANDOVERS", .u32, .ro, .int 0, .any, 1⟩,
  ⟨33, 33, "SVC_PRESSES", .u16, .ro, .int 0, .any, 1⟩,
  ⟨34, 34, "LV_CNT_STATUS", .u8, .ro, .int 0, .any, 1⟩]
def dictRowsLV : List DictRow := dictRowsLV0 ++ dictRowsLV1

/-- Objects at index 0x2B60. -/
def dictRowsEXP : List DictRow := [
  ⟨0, 0, "NUM_SUBS", .u8, .ro, .int 18, .any, 1⟩,
  ⟨1, 1, "EXP_STATUS", .u16, .ro, .int 0, .any, 1⟩,
  ⟨2, 2, "EXPORT_EN", .bool, .rw, .int 0, .any, 1⟩,
  ⟨3, 3, "EXP_MODE", .u8, .rws, .int 1, .int 1 3, 1⟩,
  ⟨4, 4, "EXP_V_SET", .f32, .ro, .num (2309/10), .any, 1⟩,
  ⟨5, 5, "EXP_F", .f32, .ro, .num (50), .any, 1⟩,
  ⟨6, 6, "EXP_S_MAX", .f32, .rws, .num (30000), .num 1000 30000, 1⟩,
  ⟨7, 7, "EXP_RAMP_ms", .u16, .rws, .int 200, .int 50 2000, 1⟩,
  ⟨8, 10, "EXP_V", .f32, .ro, .num (0), .any, 1⟩,
  ⟨11, 13, "EXP_I", .f32, .ro, .num (0), .any, 1⟩,
  ⟨14, 14, "EXP_I_N", .f32, .ro, .num (0), .any, 1⟩,
  ⟨15, 15, "EXP_P", .f32, .ro, .num (0), .any, 1⟩,
  ⟨16, 16, "EXP_S", .f32, .ro, .num (0), .any, 1⟩,
  ⟨17, 17, "EXP_TRIPS", .u16, .ro, .int 0, .any, 1⟩,
  ⟨18, 18, "EXP_CNT_STATUS", .u8, .ro, .int 0, .any, 1⟩]

/-- Objects at index 0x2C00. -/
def dictRowsTHM : List DictRow := [
  ⟨0, 0, "NUM_SUBS", .u8, .ro, .int 19, .any, 1⟩,
  ⟨1, 1, "TH_STATUS", .u16, .ro, .int 0, .any, 1⟩,
  ⟨2, 2, "ROUNDS", .u64, .ro, .int 0, .any, 1⟩,
  ⟨3, 3, "ROUND_TIME_us", .u16, .ro, .int 0, .any, 1⟩,
  ⟨4, 9, "DERATE", .f32, .ro, .num (1), .any, 1⟩,
  ⟨10, 10, "T_COOL_IN", .i16, .ro, .int 0, .any, 1⟩,
  ⟨11, 11, "T_COOL_OUT", .i16, .ro, .int 0, .any, 1⟩,
  ⟨12, 12, "COOL_DT_MAX", .i16, .rws, .int 150, .int 50 300, 1⟩,
  ⟨13, 13, "FLASH_BAND", .u8, .ro, .int 0, .any, 1⟩,
  ⟨14, 14, "FLASH_PULSE_us", .u8, .ro, .int 0, .any, 1⟩,
  ⟨15, 15, "T_DIE_MAX", .i16, .ro, .int 0, .any, 1⟩,
  ⟨16, 16, "BROKEN_NOW", .u8, .ro, .int 0, .any, 1⟩,
  ⟨17, 17, "TH_SHUTDOWNS", .u16, .ro, .int 0, .any, 1⟩,
  ⟨18, 18, "ROUND_OVERRUNS", .u16, .ro, .int 0, .any, 1⟩,
  ⟨19, 19, "TH_CNT_STATUS", .u8, .ro, .int 0, .any, 1⟩]

/-- Objects at index 0x2C10. -/
def dictRowsSEN : List DictRow := [
  ⟨0, 0, "NUM_SUBS", .u8, .ro, .int 18, .any, 1⟩,
  ⟨1, 1, "SENSOR_SEL", .u8, .rw, .int 0, .int 0 63, 1⟩,
  ⟨2, 2, "SENSOR_NAME", .str, .ro, .bytes [], .any, 1⟩,
  ⟨3, 3, "SENSOR_CLASS", .u8, .ro, .int 0, .any, 1⟩,
  ⟨4, 4, "SOURCE", .u16, .ro, .int 0, .any, 1⟩,
  ⟨5, 5, "DRIVES", .u8, .ro, .int 0, .any, 1⟩,
  ⟨6, 6, "SENSOR_TYPE", .u8, .rws, .int 0, .int 0 2, 1⟩,
  ⟨7, 7, "TEMP", .i16, .ro, .int 0, .any, 1⟩,
  ⟨8, 8, "RAW", .u16, .ro, .int 0, .any, 1⟩,
  ⟨9, 9, "SENSOR_STATUS", .u8, .ro, .int 0, .any, 1⟩,
  ⟨10, 10, "WARN_T", .i16, .rws, .int 0, .any, 1⟩,
  ⟨11, 11, "THROTTLE_T", .i16, .rws, .int 0, .any, 1⟩,
  ⟨12, 12, "SHUTDOWN_T", .i16, .rws, .int 0, .any, 1⟩,
  ⟨13, 13, "HYST_K", .i16, .rws, .int 0, .int 10 200, 1⟩,
  ⟨14, 14, "K_FACTOR", .f32, .ro, .num (1), .any, 1⟩,
  ⟨15, 15, "T_MAX", .i16, .ro, .int 0, .any, 1⟩,
  ⟨16, 16, "ABOVE_WARN_s", .u32, .ro, .int 0, .any, 1⟩,
  ⟨17, 17, "SHUTDOWNS", .u16, .ro, .int 0, .any, 1⟩,
  ⟨18, 18, "BROKEN_EVENTS", .u16, .ro, .int 0, .any, 1⟩]

/-- Objects at index 0x2C80. -/
def dictRowsVMON : List DictRow := [
  ⟨0, 0, "NUM_SUBS", .u8, .ro, .int 9, .any, 1⟩,
  ⟨1, 1, "VMON_SEL", .u8, .rw, .int 0, .int 0 23, 1⟩,
  ⟨2, 2, "VMON_NAME", .str, .ro, .bytes [], .any, 1⟩,
  ⟨3, 3, "VALUE", .f32, .ro, .num 0, .any, 1⟩,
  ⟨4, 4, "V_MIN", .f32, .ro, .num 0, .any, 1⟩,
  ⟨5, 5, "V_MAX", .f32, .ro, .num 0, .any, 1⟩,
  ⟨6, 6, "LO_LIM", .f32, .rws, .num 0, .any, 1⟩,
  ⟨7, 7, "HI_LIM", .f32, .rws, .num 0, .any, 1⟩,
  ⟨8, 8, "VMON_STATUS", .u8, .ro, .int 0, .any, 1⟩,
  ⟨9, 9, "EXCURSIONS", .u32, .ro, .int 0, .any, 1⟩]

/-- Objects at index 0x2C90. -/
def dictRowsPM : List DictRow := [
  ⟨0, 0, "NUM_SUBS", .u8, .ro, .int 10, .any, 1⟩,
  ⟨1, 1, "AGE_WARN", .f32, .rws, .num (-3), .num (-10) (-1/2), 1⟩,
  ⟨2, 5, "CORNER", .f32, .ro, .num 0, .any, 1⟩,
  ⟨6, 9, "DRIFT", .f32, .ro, .num 0, .any, 1⟩,
  ⟨10, 10, "PM_STATUS", .u8, .ro, .int 0, .any, 1⟩]

/-- Objects at index 0x2E00 + n, n < 4. -/
def dictRowsCRC : List DictRow := [
  ⟨0, 0, "NUM_SUBS", .u8, .ro, .int 11, .any, 4⟩,
  ⟨1, 1, "CRC_STATUS", .u8, .ro, .int 0, .any, 4⟩,
  ⟨2, 2, "WIDTH", .u8, .rws, .int 32, .int 8 64, 4⟩,
  ⟨3, 3, "POLY", .u64, .rws, .int 517762881, .any, 4⟩,
  ⟨4, 4, "INIT", .u64, .rws, .int 4294967295, .any, 4⟩,
  ⟨5, 5, "XOROUT", .u64, .rws, .int 4294967295, .any, 4⟩,
  ⟨6, 6, "CRC_CTRL", .u8, .rws, .int 3, .any, 4⟩,
  ⟨7, 7, "FOLD_VALUE", .u64, .rws, .int 0, .any, 4⟩,
  ⟨8, 8, "START", .u8, .wo, .int 0, .oneOf [1], 4⟩,
  ⟨9, 9, "DATA", .dom, .wo, .bytes [], .any, 4⟩,
  ⟨10, 10, "RESULT", .u64, .ro, .int 0, .any, 4⟩,
  ⟨11, 11, "BYTES", .u32, .ro, .int 0, .any, 4⟩]

/-- Objects at index 0x2F00 + n, n < 4. -/
def dictRowsCAN0 : List DictRow := [
  ⟨0, 0, "NUM_SUBS", .u8, .ro, .int 42, .any, 4⟩,
  ⟨1, 1, "CH_STATUS", .u32, .ro, .int 0, .any, 4⟩,
  ⟨2, 2, "CH_CTRL", .u8, .rws, .int 1, .int 0 7, 4⟩,
  ⟨3, 3, "NOM_kbps", .u16, .rws, .int 0, .oneOf [125, 250, 500, 1000], 4⟩,
  ⟨4, 4, "DATA_kbps", .u16, .rws, .int 0, .oneOf [0, 1000, 2000, 4000, 5000, 8000], 4⟩,
  ⟨5, 5, "TEC", .u8, .ro, .int 0, .any, 4⟩,
  ⟨6, 6, "REC", .u8, .ro, .int 0, .any, 4⟩,
  ⟨7, 7, "RXQ0_FILL", .u8, .ro, .int 0, .any, 4⟩,
  ⟨8, 8, "RXQ1_FILL", .u8, .ro, .int 0, .any, 4⟩,
  ⟨9, 9, "TXFIFO_FILL", .u8, .ro, .int 0, .any, 4⟩,
  ⟨10, 10, "LAST_RX_TS", .u32, .ro, .int 0, .any, 4⟩,
  ⟨11, 11, "RX_FRAMES", .u64, .ro, .int 0, .any, 4⟩,
  ⟨12, 12, "TX_FRAMES", .u64, .ro, .int 0, .any, 4⟩,
  ⟨13, 13, "ERR_FRAMES", .u32, .ro, .int 0, .any, 4⟩,
  ⟨14, 14, "BUS_OFFS", .u16, .ro, .int 0, .any, 4⟩,
  ⟨15, 15, "RXQ0_DROPS", .u32, .ro, .int 0, .any, 4⟩,
  ⟨16, 16, "RXQ1_DROPS", .u32, .ro, .int 0, .any, 4⟩,
  ⟨17, 17, "UNMATCHED", .u32, .ro, .int 0, .any, 4⟩,
  ⟨18, 18, "STALE_DROPS", .u16, .ro, .int 0, .any, 4⟩,
  ⟨19, 19, "SLOT_REFUSALS", .u32, .ro, .int 0, .any, 4⟩,
  ⟨20, 20, "FILTER_SEL", .u8, .rw, .int 32, .int 0 63, 4⟩,
  ⟨21, 21, "FILTER_CTRL", .u32, .rws, .int 0, .any, 4⟩,
  ⟨22, 22, "FILTER_MATCH", .u32, .rws, .int 0, .int 0 536870911, 4⟩,
  ⟨23, 23, "FILTER_MASK", .u32, .rws, .int 0, .int 0 536870911, 4⟩]
def dictRowsCAN1 : List DictRow := [
  ⟨24, 24, "FILTER_HITS", .u32, .ro, .int 0, .any, 4⟩,
  ⟨25, 25, "SLOT_SEL", .u8, .rw, .int 0, .int 0 15, 4⟩,
  ⟨26, 26, "SLOT_STATE", .u8, .ro, .int 0, .any, 4⟩,
  ⟨27, 27, "SLOT_ID", .u32, .ro, .int 0, .any, 4⟩,
  ⟨28, 28, "SLOT_STALE_us", .u32, .ro, .int 0, .any, 4⟩,
  ⟨29, 29, "BRIDGE_RX", .dom, .ro, .bytes [], .any, 4⟩,
  ⟨30, 30, "BRIDGE_TX", .dom, .wo, .bytes [], .any, 4⟩,
  ⟨31, 31, "CAN_CNT_STATUS", .u16, .ro, .int 0, .any, 4⟩,
  ⟨32, 32, "PREF_ADDR", .u8, .rws, .int 144, .int 128 247, 1⟩,
  ⟨33, 33, "CLAIMED_ADDR", .u8, .ro, .int 254, .any, 1⟩,
  ⟨34, 34, "NAME", .u64, .ro, .int 0, .any, 1⟩,
  ⟨35, 35, "FUNCTION", .u8, .rws, .int 128, .any, 1⟩,
  ⟨36, 36, "DEV_CLASS", .u8, .rws, .int 0, .int 0 127, 1⟩,
  ⟨37, 37, "DEV_CLASS_INST", .u8, .rws, .int 0, .int 0 15, 1⟩,
  ⟨38, 38, "ECU_INSTANCE", .u8, .rws, .int 0, .int 0 7, 1⟩,
  ⟨39, 39, "A_CMD_TIMEOUT_ms", .u16, .rws, .int 100, .int 20 1000, 1⟩,
  ⟨40, 40, "STATUS_PERIOD_ms", .u16, .rws, .int 100, .int 20 1000, 1⟩,
  ⟨41, 41, "STATUS_PGN_BASE", .u16, .rws, .int 65440, .int 65280 65532, 1⟩,
  ⟨42, 42, "A_REJECTS", .u32, .ro, .int 0, .any, 1⟩]
def dictRowsCAN : List DictRow := dictRowsCAN0 ++ dictRowsCAN1

/-- Objects at index 0x2F10. -/
def dictRowsTIME : List DictRow := [
  ⟨0, 0, "NUM_SUBS", .u8, .ro, .int 15, .any, 1⟩,
  ⟨1, 1, "GT_STATUS", .u8, .ro, .int 0, .any, 1⟩,
  ⟨2, 2, "TIME_RANK", .u8, .rws, .int 0, .int 0 15, 1⟩,
  ⟨3, 3, "TIME_REF_ID", .u16, .rws, .int 16, .int 1 2031, 1⟩,
  ⟨4, 4, "GLOBAL_TIME", .u64, .ro, .int 0, .any, 1⟩,
  ⟨5, 5, "GT_10us", .u32, .ro, .int 0, .any, 1⟩,
  ⟨6, 6, "MASTER_RANK", .u8, .ro, .int 0, .any, 1⟩,
  ⟨7, 7, "LAST_CORR_ns", .i32, .ro, .int 0, .any, 1⟩,
  ⟨8, 8, "GT_DELAY_ns", .u16, .rws, .int 0, .int 0 5000, 1⟩,
  ⟨9, 9, "GT_STEP_MAX_us", .u16, .rws, .int 100, .int 10 10000, 1⟩,
  ⟨10, 10, "REFS", .u64, .ro, .int 0, .any, 1⟩,
  ⟨11, 11, "REF_MISSES", .u32, .ro, .int 0, .any, 1⟩,
  ⟨12, 12, "TAKEOVERS", .u16, .ro, .int 0, .any, 1⟩,
  ⟨13, 13, "STEP_REJECTS", .u16, .ro, .int 0, .any, 1⟩,
  ⟨14, 14, "TS_WRAPS", .u32, .ro, .int 0, .any, 1⟩,
  ⟨15, 15, "TM_CNT_STATUS", .u8, .ro, .int 0, .any, 1⟩]

/-- Objects at index 0x3000. -/
def dictRowsETH : List DictRow := [
  ⟨0, 0, "NUM_SUBS", .u8, .ro, .int 11, .any, 1⟩,
  ⟨1, 1, "ETH_STATUS", .u16, .ro, .int 0, .any, 1⟩,
  ⟨2, 2, "MAC_ADDR", .u64, .ro, .int 0, .any, 1⟩,
  ⟨3, 3, "PHY_ROLE", .u8, .rws, .int 0, .int 0 1, 1⟩,
  ⟨4, 4, "IP_ADDR", .u32, .rws, .int 3232254218, .any, 1⟩,
  ⟨5, 5, "IP_MASK", .u32, .rws, .int 4294967040, .any, 1⟩,
  ⟨6, 6, "IP_GATEWAY", .u32, .rws, .int 0, .any, 1⟩,
  ⟨7, 7, "RX_FRAMES", .u64, .ro, .int 0, .any, 1⟩,
  ⟨8, 8, "TX_FRAMES", .u64, .ro, .int 0, .any, 1⟩,
  ⟨9, 9, "RX_DISCARDED", .u32, .ro, .int 0, .any, 1⟩,
  ⟨10, 10, "LINK_DROPS", .u16, .ro, .int 0, .any, 1⟩,
  ⟨11, 11, "RX_ERRORS", .u32, .ro, .int 0, .any, 1⟩]

/-- Objects at index 0x3010. -/
def dictRowsSVC : List DictRow := [
  ⟨0, 0, "NUM_SUBS", .u8, .ro, .int 12, .any, 1⟩,
  ⟨1, 1, "SP_PORT", .u16, .ro, .int 47810, .any, 1⟩,
  ⟨2, 2, "MAX_PEERS", .u8, .ro, .int 4, .any, 1⟩,
  ⟨3, 3, "SESSION_IDLE_s", .u16, .rws, .int 300, .int 30 3600, 1⟩,
  ⟨4, 4, "NODE_ID", .u8, .rws, .int 16, .int 1 127, 1⟩,
  ⟨5, 5, "SDO_TIMEOUT_ms", .u16, .rws, .int 1000, .int 100 10000, 1⟩,
  ⟨6, 6, "SESSIONS_OPEN", .u8, .ro, .int 1, .any, 1⟩,
  ⟨7, 7, "OWN_SESSION", .u8, .ro, .int 0, .any, 1⟩,
  ⟨8, 8, "OWN_ROLE", .u8, .ro, .int 0, .any, 1⟩,
  ⟨9, 9, "SESSION_CLOSE", .u8, .wo, .int 0, .oneOf [1], 1⟩,
  ⟨10, 10, "REQUESTS", .u64, .ro, .int 0, .any, 1⟩,
  ⟨11, 11, "DUP_REQUESTS", .u32, .ro, .int 0, .any, 1⟩,
  ⟨12, 12, "SP_CNT_STATUS", .u8, .ro, .int 0, .any, 1⟩]

/-- Objects at index 0x3020. -/
def dictRowsAUTH : List DictRow := [
  ⟨0, 0, "NUM_SUBS", .u8, .ro, .int 13, .any, 1⟩,
  ⟨1, 1, "AUTH_OPEN", .dom, .wo, .bytes [], .any, 1⟩,
  ⟨2, 2, "NONCE", .dom, .ro, .bytes [], .any, 1⟩,
  ⟨3, 3, "AUTH_RESPONSE", .dom, .wo, .bytes [], .any, 1⟩,
  ⟨4, 4, "AUTH_STATE", .u8, .ro, .int 0, .any, 1⟩,
  ⟨5, 5, "LOCK_REMAIN_s", .u16, .ro, .int 0, .any, 1⟩,
  ⟨6, 6, "LOCK_LEVEL", .u8, .ro, .int 0, .any, 1⟩,
  ⟨7, 7, "FAIL_RUN", .u8, .ro, .int 0, .any, 1⟩,
  ⟨8, 8, "KEY_SERVICE", .dom, .wo, .bytes [], .any, 1⟩,
  ⟨9, 9, "KEY_SAFETY", .dom, .wo, .bytes [], .any, 1⟩,
  ⟨10, 10, "AUTH_OK", .u32, .ro, .int 0, .any, 1⟩,
  ⟨11, 11, "AUTH_FAILS", .u32, .ro, .int 0, .any, 1⟩,
  ⟨12, 12, "LOCKOUTS", .u16, .ro, .int 0, .any, 1⟩,
  ⟨13, 13, "AUTH_CNT_STATUS", .u8, .ro, .int 0, .any, 1⟩]

/-- Objects at index 0x3100. -/
def dictRowsIMG : List DictRow := [
  ⟨0, 0, "NUM_SUBS", .u8, .ro, .int 21, .any, 1⟩,
  ⟨1, 1, "IMG_STATUS", .u16, .ro, .int 0, .any, 1⟩,
  ⟨2, 2, "ACTIVE_BANK", .u8, .ro, .int 0, .any, 1⟩,
  ⟨3, 4, "BANK_STATE", .u8, .ro, .int 0, .any, 1⟩,
  ⟨5, 6, "BANK_VERSION", .u32, .ro, .int 0, .any, 1⟩,
  ⟨7, 8, "BANK_GEN", .u32, .ro, .int 0, .any, 1⟩,
  ⟨9, 9, "TFTP_SERVER", .u32, .rws, .int 0, .any, 1⟩,
  ⟨10, 10, "FILE_NAME", .str, .rws, .bytes [], .any, 1⟩,
  ⟨11, 11, "UPD_CMD", .u8, .wo, .int 0, .int 0 2, 1⟩,
  ⟨12, 12, "UPD_STATE", .u8, .ro, .int 0, .any, 1⟩,
  ⟨13, 13, "UPD_BLOCK", .u16, .ro, .int 0, .any, 1⟩,
  ⟨14, 14, "UPD_BYTES", .u32, .ro, .int 0, .any, 1⟩,
  ⟨15, 15, "UPD_RESULT", .u8, .ro, .int 0, .any, 1⟩,
  ⟨16, 16, "TFTP_TIMEOUT_ms", .u16, .rws, .int 1000, .int 200 10000, 1⟩,
  ⟨17, 17, "TFTP_RETRIES", .u8, .rws, .int 5, .int 1 20, 1⟩,
  ⟨18, 18, "UPDATES", .u32, .ro, .int 0, .any, 1⟩,
  ⟨19, 19, "UPD_FAILS", .u16, .ro, .int 0, .any, 1⟩,
  ⟨20, 20, "ROLLBACKS", .u16, .ro, .int 0, .any, 1⟩,
  ⟨21, 21, "IMG_CNT_STATUS", .u8, .ro, .int 0, .any, 1⟩]

/-- Objects at index 0x3110. -/
def dictRowsCAP : List DictRow := [
  ⟨0, 0, "NUM_SUBS", .u8, .ro, .int 47, .any, 1⟩,
  ⟨1, 1, "CAP_STATE", .u8, .ro, .int 0, .any, 1⟩,
  ⟨2, 2, "CAP_MODE", .u8, .rws, .int 0, .int 0 1, 1⟩,
  ⟨3, 3, "CAP_CHANNELS", .u8, .rws, .int 1, .int 1 16, 1⟩,
  ⟨4, 4, "CAP_PERIOD_us", .u16, .rws, .int 10, .int 1 10000, 1⟩,
  ⟨5, 5, "PRE_ROWS", .u32, .rws, .int 0, .any, 1⟩,
  ⟨6, 6, "POST_ROWS", .u32, .rws, .int 1000, .any, 1⟩,
  ⟨7, 7, "TRIG_MODE", .u8, .rws, .int 0, .int 0 5, 1⟩,
  ⟨8, 8, "TRIG_CH", .u8, .rws, .int 0, .int 0 15, 1⟩,
  ⟨9, 9, "TRIG_LEVEL", .f32, .rws, .num (0), .any, 1⟩,
  ⟨10, 10, "TRIG_CODE", .u16, .rws, .int 0, .any, 1⟩,
  ⟨11, 11, "CAP_CMD", .u8, .wo, .int 0, .int 1 3, 1⟩,
  ⟨12, 12, "TRIG_TB", .u64, .ro, .int 0, .any, 1⟩,
  ⟨13, 13, "FIRST_TB", .u64, .ro, .int 0, .any, 1⟩,
  ⟨14, 14, "ROWS_STORED", .u32, .ro, .int 0, .any, 1⟩,
  ⟨15, 15, "READ_OFFSET", .u32, .rw, .int 0, .any, 1⟩,
  ⟨16, 16, "READ_DATA", .dom, .ro, .bytes [], .any, 1⟩,
  ⟨17, 17, "STREAM_IP", .u32, .rws, .int 0, .any, 1⟩,
  ⟨18, 18, "STREAM_PORT", .u16, .rws, .int 47813, .int 1 65535, 1⟩,
  ⟨19, 19, "STREAM_SEQ", .u32, .ro, .int 0, .any, 1⟩,
  ⟨20, 20, "STREAM_DROPS", .u32, .ro, .int 0, .any, 1⟩,
  ⟨21, 21, "CAPTURES", .u32, .ro, .int 0, .any, 1⟩,
  ⟨22, 22, "CAP_CNT_STATUS", .u8, .ro, .int 0, .any, 1⟩,
  ⟨32, 47, "CH_SRC", .u16, .rws, .int 0, .any, 1⟩]

/-- Objects at index 0x4000. -/
def dictRowsSET : List DictRow := [
  ⟨0, 0, "NUM_SUBS", .u8, .ro, .int 9, .any, 1⟩,
  ⟨1, 1, "SET_STATE", .u8, .ro, .int 1, .any, 1⟩,
  ⟨2, 2, "SET_EDIT", .u8, .wo, .int 0, .int 0 1, 1⟩,
  ⟨3, 3, "SET_ID", .u32, .safe, .int 0, .any, 1⟩,
  ⟨4, 4, "SET_CRC", .u32, .wo, .int 0, .any, 1⟩,
  ⟨5, 5, "SET_COMMIT", .u8, .wo, .int 0, .oneOf [1], 1⟩,
  ⟨6, 6, "SET_CRC_ACT", .u32, .ro, .int 0, .any, 1⟩,
  ⟨7, 7, "SET_REJECT", .u8, .ro, .int 0, .any, 1⟩,
  ⟨8, 8, "SET_COMMITS", .u16, .ro, .int 0, .any, 1⟩,
  ⟨9, 9, "SET_COMMIT_TB", .u64, .ro, .int 0, .any, 1⟩]

/-- Objects at index 0x4001. -/
def dictRowsPP : List DictRow := [
  ⟨0, 0, "NUM_SUBS", .u8, .ro, .int 6, .any, 1⟩,
  ⟨1, 1, "PYR_CONFIG_BOOT", .u8, .safe, .int 1, .int 1 2, 1⟩,
  ⟨2, 2, "PYR_ALLOWED", .u8, .safe, .int 3, .int 0 7, 1⟩,
  ⟨3, 3, "PYR_CYCLE_us", .u16, .safe, .int 1000, .int 250 4000, 1⟩,
  ⟨4, 4, "RESYNC_WINDOW_ms", .u16, .safe, .int 100, .int 10 1000, 1⟩,
  ⟨5, 5, "EXCH_AGE_MAX_us", .u16, .safe, .int 3000, .int 2000 10000, 1⟩,
  ⟨6, 6, "EXCH_PERSIST", .u8, .safe, .int 3, .int 2 10, 1⟩]

/-- Objects at index 0x4010 + n, n < 4. -/
def dictRowsPAIR : List DictRow := [
  ⟨0, 0, "NUM_SUBS", .u8, .ro, .int 9, .any, 4⟩,
  ⟨1, 1, "PAIR_MODE", .u8, .safe, .int 0, .int 0 3, 4⟩,
  ⟨2, 2, "PAIR_FUNC", .u8, .safe, .int 0, .int 0 6, 4⟩,
  ⟨3, 3, "PAIR_DRIVES", .u8, .safe, .int 0, .int 0 63, 4⟩,
  ⟨4, 4, "PAIR_SLS_SEL", .u8, .safe, .int 1, .int 1 4, 4⟩,
  ⟨5, 5, "FILTER_ms", .u8, .safe, .int 3, .int 1 20, 4⟩,
  ⟨6, 6, "DISC_ms", .u16, .safe, .int 50, .int 5 1000, 4⟩,
  ⟨7, 7, "TEST_PULSE", .bool, .safe, .int 1, .any, 4⟩,
  ⟨8, 8, "PAIR_STATE", .u8, .ro, .int 0, .any, 4⟩,
  ⟨9, 9, "PAIR_FAULTS", .u16, .ro, .int 0, .any, 4⟩]

/-- Objects at index 0x4020 + n, n < 4. -/
def dictRowsSO : List DictRow := [
  ⟨0, 0, "NUM_SUBS", .u8, .ro, .int 6, .any, 4⟩,
  ⟨1, 1, "SO_FUNC", .u8, .safe, .int 0, .int 0 3, 4⟩,
  ⟨2, 2, "SO_DRIVES", .u8, .safe, .int 0, .int 0 63, 4⟩,
  ⟨3, 3, "SORREL_EN", .bool, .safe, .int 1, .any, 4⟩,
  ⟨4, 4, "SO_STATE", .u8, .ro, .int 0, .any, 4⟩,
  ⟨5, 5, "SO_V", .f32, .ro, .num (0), .any, 4⟩,
  ⟨6, 6, "SO_FAULTS", .u16, .ro, .int 0, .any, 4⟩]

/-- Objects at index 0x4030 + n, n < 6. -/
def dictRowsSF : List DictRow := [
  ⟨0, 0, "NUM_SUBS", .u8, .ro, .int 0, .any, 6⟩,
  ⟨1, 1, "SS1_MODE", .u8, .safe, .int 0, .int 0 2, 6⟩,
  ⟨2, 2, "SS1_TIME_ms", .u16, .safe, .int 2000, .int 100 30000, 6⟩,
  ⟨3, 3, "SS1_BRAKE_TQ", .f32, .safe, .num (0), .num (0) (2000), 2⟩,
  ⟨4, 4, "SS1_DECEL", .f32, .safe, .num (500), .num (10) (20000), 2⟩,
  ⟨5, 5, "SS1_TOL", .f32, .safe, .num (100), .num (10) (1000), 2⟩,
  ⟨6, 6, "SS1_DELAY_ms", .u16, .safe, .int 100, .int 0 1000, 2⟩,
  ⟨7, 7, "STOP_SPEED", .f32, .safe, .num (20), .num (5) (200), 2⟩,
  ⟨8, 11, "SLS_LIMIT", .f32, .safe, .num (0), .numOr 0 50 20000, 2⟩,
  ⟨12, 12, "SLS_RAMP_ms", .u16, .safe, .int 1000, .int 100 10000, 2⟩,
  ⟨13, 13, "SLS_MARGIN", .f32, .safe, .num (50), .num (10) (500), 2⟩,
  ⟨14, 14, "SLS_REACTION", .u8, .safe, .int 1, .int 1 2, 2⟩,
  ⟨15, 15, "SLT_LIMIT", .f32, .safe, .num (0), .numOr 0 1 2000, 2⟩,
  ⟨16, 16, "SLT_TIME_ms", .u16, .safe, .int 10, .int 2 1000, 2⟩,
  ⟨17, 17, "SPEED_TOL_rpm", .f32, .safe, .num (30), .num (10) (500), 2⟩,
  ⟨18, 18, "SPEED_TOL_PCT", .f32, .safe, .num (5), .num (2) (20), 2⟩,
  ⟨19, 19, "E2_GAP_ms", .u16, .safe, .int 500, .int 50 2000, 2⟩,
  ⟨20, 20, "ZC_I_MIN", .f32, .safe, .num (40), .num (20) (200), 2⟩]

/-- Objects at index 0x4050. -/
def dictRowsSP : List DictRow := [
  ⟨0, 0, "NUM_SUBS", .u8, .ro, .int 2, .any, 1⟩,
  ⟨1, 1, "SP_SPEED_MAX", .f32, .safe, .num (30), .num (5) (200), 1⟩,
  ⟨2, 2, "SP_CONFIRM_ms", .u16, .safe, .int 500, .int 100 5000, 1⟩]

/-- Objects at index 0x4060 + n, n < 16. -/
def dictRowsHSF0 : List DictRow := [
  ⟨0, 0, "NUM_SUBS", .u8, .ro, .int 32, .any, 16⟩,
  ⟨1, 1, "CONN_ROLE", .u8, .safe, .int 0, .int 0 2, 16⟩,
  ⟨2, 2, "CONN_MEDIUM", .u8, .safe, .int 0, .int 0 1, 16⟩,
  ⟨3, 3, "CONN_CHANNEL", .u8, .safe, .int 1, .int 0 3, 16⟩,
  ⟨4, 4, "CONN_ID", .u32, .safe, .int 0, .any, 16⟩,
  ⟨5, 5, "ECHO_ID", .u32, .safe, .int 0, .any, 16⟩,
  ⟨6, 6, "PEER_IP", .u32, .safe, .int 0, .any, 16⟩,
  ⟨7, 7, "OWN_ADDR", .u16, .safe, .int 0, .any, 16⟩,
  ⟨8, 8, "PEER_ADDR", .u16, .safe, .int 0, .any, 16⟩,
  ⟨9, 9, "PAYLOAD_KIND", .u8, .safe, .int 1, .int 1 2, 16⟩,
  ⟨10, 10, "FRAME_BYTES", .u8, .safe, .int 16, .oneOf [16, 32, 48, 64], 16⟩,
  ⟨11, 11, "TIME_MODE", .u8, .safe, .int 0, .int 0 1, 16⟩,
  ⟨12, 12, "PERIOD_us", .u32, .safe, .int 4000, .int 250 1000000, 16⟩,
  ⟨13, 13, "WDG_ms", .u16, .safe, .int 50, .int 5 1000, 16⟩,
  ⟨14, 14, "AGE_MAX_us", .u32, .safe, .int 20000, .int 1000 500000, 16⟩,
  ⟨15, 15, "SYNC_TOL_us", .u32, .safe, .int 500, .int 0 10000, 16⟩,
  ⟨16, 16, "RT_MAX_us", .u32, .safe, .int 20000, .int 1000 500000, 16⟩,
  ⟨17, 17, "SEQ_WIN", .u8, .safe, .int 3, .int 1 16, 16⟩,
  ⟨18, 18, "CRC_ERR_MAX", .u8, .safe, .int 3, .int 1 20, 16⟩,
  ⟨19, 19, "CONN_DRIVES", .u8, .safe, .int 0, .int 0 63, 16⟩,
  ⟨20, 20, "CONN_FAILSAFE", .u32, .safe, .int 0, .any, 16⟩,
  ⟨21, 21, "CONN_STATE", .u8, .ro, .int 0, .any, 16⟩,
  ⟨22, 22, "LAST_SEQ", .u16, .ro, .int 0, .any, 16⟩,
  ⟨23, 23, "LAST_AGE_us", .i32, .ro, .int 0, .any, 16⟩]
def dictRowsHSF1 : List DictRow := [
  ⟨24, 24, "FRAMES_OK", .u64, .ro, .int 0, .any, 16⟩,
  ⟨25, 25, "CRC_ERRORS", .u32, .ro, .int 0, .any, 16⟩,
  ⟨26, 26, "FORMAT_ERRORS", .u32, .ro, .int 0, .any, 16⟩,
  ⟨27, 27, "REPEATS", .u32, .ro, .int 0, .any, 16⟩,
  ⟨28, 28, "LOST", .u32, .ro, .int 0, .any, 16⟩,
  ⟨29, 29, "TIME_ERRORS", .u32, .ro, .int 0, .any, 16⟩,
  ⟨30, 30, "CONN_FAULTS", .u16, .ro, .int 0, .any, 16⟩,
  ⟨31, 31, "SEQ_WRAPS", .u32, .ro, .int 0, .any, 16⟩,
  ⟨32, 32, "CONN_CNT_STATUS", .u8, .ro, .int 0, .any, 16⟩]
def dictRowsHSF : List DictRow := dictRowsHSF0 ++ dictRowsHSF1

/-- Objects at index 0x4080. -/
def dictRowsSFS : List DictRow := [
  ⟨0, 0, "NUM_SUBS", .u8, .ro, .int 18, .any, 1⟩,
  ⟨1, 6, "SF_STATE", .u16, .ro, .int 0, .any, 1⟩,
  ⟨7, 8, "SAFE_SPEED", .f32, .ro, .num (0), .any, 1⟩,
  ⟨9, 10, "E2_SPEED", .f32, .ro, .num (0), .any, 1⟩,
  ⟨11, 12, "SAFE_TQ", .f32, .ro, .num (0), .any, 1⟩,
  ⟨13, 13, "SI_LEVELS", .u8, .ro, .int 0, .any, 1⟩,
  ⟨14, 14, "DEMANDS", .u32, .ro, .int 0, .any, 1⟩,
  ⟨15, 15, "SAFE_RELEASE", .u8, .wo, .int 0, .any, 1⟩,
  ⟨16, 16, "RELEASES", .u32, .ro, .int 0, .any, 1⟩,
  ⟨17, 17, "REFUSALS", .u16, .ro, .int 0, .any, 1⟩,
  ⟨18, 18, "SF_CNT_STATUS", .u16, .ro, .int 0, .any, 1⟩]

/-- Objects at index 0x4100. -/
def dictRowsPYR : List DictRow := [
  ⟨0, 0, "NUM_SUBS", .u8, .ro, .int 29, .any, 1⟩,
  ⟨1, 1, "PYR_STATUS", .u32, .ro, .int 24, .any, 1⟩,
  ⟨2, 2, "CONFIG_ACT", .u8, .ro, .int 0, .any, 1⟩,
  ⟨3, 3, "CONFIG_REQ", .u8, .wo, .int 0, .int 1 4, 1⟩,
  ⟨4, 4, "CONFIG_BOOT", .u8, .ro, .int 1, .any, 1⟩,
  ⟨5, 5, "CYCLE_us", .u32, .ro, .int 1000, .any, 1⟩,
  ⟨6, 6, "CYCLE_LOAD", .f32, .ro, .num (0), .any, 1⟩,
  ⟨7, 7, "TQO_STATE", .u16, .ro, .int 4095, .any, 1⟩,
  ⟨8, 8, "TQO_READBACK", .u16, .ro, .int 4095, .any, 1⟩,
  ⟨9, 9, "LAST_ODD_CORE", .u8, .ro, .int 255, .any, 1⟩,
  ⟨10, 10, "RESYNC_STATE", .u8, .ro, .int 0, .any, 1⟩,
  ⟨11, 11, "RESYNC_WINDOW_ms", .u16, .ro, .int 100, .any, 1⟩,
  ⟨12, 14, "RESYNCS", .u16, .ro, .int 0, .any, 1⟩,
  ⟨15, 15, "MISMATCHES", .u32, .ro, .int 0, .any, 1⟩,
  ⟨16, 16, "HANDOVERS", .u16, .ro, .int 0, .any, 1⟩,
  ⟨17, 17, "CYCLES", .u64, .ro, .int 0, .any, 1⟩,
  ⟨18, 18, "EXCH_AGE_us", .u32, .ro, .int 0, .any, 1⟩,
  ⟨19, 19, "EXCH_MISSES", .u32, .ro, .int 0, .any, 1⟩,
  ⟨20, 20, "STARTUP_RESULT", .u16, .ro, .int 0, .any, 1⟩,
  ⟨21, 21, "P2_BLOCKED", .u32, .ro, .int 0, .any, 1⟩,
  ⟨22, 27, "TQO_ASSERTIONS", .u32, .ro, .int 0, .any, 1⟩,
  ⟨28, 28, "PYR_CNT_STATUS", .u16, .ro, .int 0, .any, 1⟩,
  ⟨29, 29, "LANE_FW_CRC", .u32, .ro, .int 0, .any, 1⟩]

/-- The objects that an index holds, and the number of the index within its table (R473); none for an index that does not exist. -/
def dictTables : List (Nat × Nat × List DictRow) := [
  (4096, 1, dictRowsCOM_1000),
  (4097, 1, dictRowsCOM_1001),
  (4104, 1, dictRowsCOM_1008),
  (4105, 1, dictRowsCOM_1009),
  (4106, 1, dictRowsCOM_100A),
  (4116, 1, dictRowsCOM_1014),
  (4117, 1, dictRowsCOM_1015),
  (4119, 1, dictRowsCOM_1017),
  (4120, 1, dictRowsCOM_1018),
  (4608, 1, dictRowsCOM_1200),
  (8192, 1, dictRowsID),
  (8193, 1, dictRowsSYS),
  (8194, 1, dictRowsSUP),
  (8195, 1, dictRowsRST),
  (8196, 1, dictRowsRET),
  (8197, 1, dictRowsBKP),
  (8198, 1, dictRowsLOG),
  (8199, 1, dictRowsCNT),
  (8448, 24, dictRowsENG),
  (8480, 1, dictRowsPOOL),
  (8481, 1, dictRowsTASK),
  (8704, 1, dictRowsOWN),
  (9216, 15, dictRowsCELL),
  (9472, 50, dictRowsSH),
  (9536, 4, dictRowsGC),
  (9544, 8, dictRowsSQ),
  (9568, 16, dictRowsGCP),
  (9728, 8, dictRowsAX),
  (9760, 8, dictRowsOBS),
  (9792, 12, dictRowsPIF),
  (9984, 24, dictRowsLU),
  (10240, 2, dictRowsTR),
  (10242, 1, dictRowsGBX),
  (10243, 1, dictRowsAUX),
  (10244, 1, dictRowsCHG),
  (10245, 1, dictRowsBRK),
  (10256, 1, dictRowsAXLE),
  (10272, 8, dictRowsSOL),
  (10288, 1, dictRowsSHF),
  (10296, 1, dictRowsPRK),
  (10496, 1, dictRowsDCL),
  (10752, 1, dictRowsCNV),
  (11008, 1, dictRowsCHR),
  (11040, 1, dictRowsHV),
  (11072, 1, dictRowsLV),
  (11104, 1, dictRowsEXP),
  (11264, 1, dictRowsTHM),
  (11280, 1, dictRowsSEN),
  (11392, 1, dictRowsVMON),
  (11408, 1, dictRowsPM),
  (11776, 4, dictRowsCRC),
  (12032, 4, dictRowsCAN),
  (12048, 1, dictRowsTIME),
  (12288, 1, dictRowsETH),
  (12304, 1, dictRowsSVC),
  (12320, 1, dictRowsAUTH),
  (12544, 1, dictRowsIMG),
  (12560, 1, dictRowsCAP),
  (16384, 1, dictRowsSET),
  (16385, 1, dictRowsPP),
  (16400, 4, dictRowsPAIR),
  (16416, 4, dictRowsSO),
  (16432, 6, dictRowsSF),
  (16464, 1, dictRowsSP),
  (16480, 16, dictRowsHSF),
  (16512, 1, dictRowsSFS),
  (16640, 1, dictRowsPYR)]

end Sys2Proof.Machine
end

