-- ==== Sys2Proof/Machine/Defaults.lean ====
section
/-! DEFINITION. The default of every object key: the row of its table, or the instance's own value where the manual
gives one per cell, channel, unit, sensor or task (Tables 3.1 to 3.3, 4.1, 4.3, 4.4, 8.3, 9.2, 10.7, 14.1, 14.3,
18.1), and the row itself for the access checks of R473 to R475. -/
namespace Sys2Proof.Machine

/-- The instance number and the rows of an index (R473). -/
def dictTable (index : Nat) : Option (Nat × List DictRow) :=
  match dictTables.find? fun t => decide (t.1 ≤ index ∧ index < t.1 + t.2.1) with
  | some t => some (index - t.1, t.2.2)
  | none => none

/-- The row of an object key, with the instance number and the subindex; subindices that an instance lacks have none
(R96, R192, R210, R422, R470). -/
def dictRow (key : Nat) : Option (Nat × DictRow) :=
  let index := key / 256 % 65536
  let sub := key % 256
  match dictTable index with
  | none => none
  | some (n, rows) =>
    match rows.find? fun r => decide (r.lo ≤ sub ∧ sub ≤ r.hi ∧ n < r.inst) with
    | none => none
    | some r =>
      if 0x2400 ≤ index ∧ index ≤ 0x240E ∧ 0x20 ≤ sub ∧ sub ≤ 0x23 ∧ sub - 0x20 ≥ cellLegs n then none
      else some (n, r)

/-- Tables 3.1, 3.2 and 3.3 and the leg map of Table 1.3, for cell C`m`. -/
def cellDefault (m sub : Nat) : Option Val :=
  let kind := if m ≤ 3 then 1 else if m ≤ 7 then 2 else if m = 9 ∨ m = 10 then 4 else if m = 14 then 5 else 3
  let dt : List Nat := match kind with
    | 1 => [128, 104, 112, 120] | 2 => [240, 200, 216, 232] | 4 => [48, 32, 40, 48] | _ => [80, 64, 72, 80]
  let blank : List Nat := match kind with
    | 1 => [384, 320, 320, 288] | 2 => [480, 480, 480, 480] | 4 => [160, 160, 160, 160] | _ => [320, 320, 320, 320]
  let si : Bool := kind = 2 ∨ kind = 4
  if 4 ≤ sub ∧ sub ≤ 7 then some (.int (dt.getD (sub - 4) 0))
  else if 8 ≤ sub ∧ sub ≤ 11 then some (.int (blank.getD (sub - 8) 0))
  else match sub with
  | 0x0C => some (.int (if kind = 3 then 960 else 1200))
  | 0x0D => some (.num (if si then 4 else 15 / 2))
  | 0x0E => some (.num ([800, 800, 800, 800, 56, 56, 56, 56, 60, 320, 110, 160, 160, 200, 400].getD m 0))
  | 0x0F => some (.int ([40000, 40000, 40000, 40000, 40000, 40000, 40000, 40000, 100000, 100000, 180000, 70000,
      100000, 100000, 20000].getD m 0))
  | 0x10 => some (.int (if kind = 4 then 400 else 1000))
  | 0x11 => some (.num (if si then 13 / 2 else 9))
  | 0x13 => some (.num (if m = 14 then 0 else if si then 17 / 2 else 13))
  | 0x1F => some (.int ((List.range 4).foldl
      (fun a i => a + (if i < cellLegs m then cellFirstLeg m + i else 0xFF) * 2 ^ (8 * i)) 0))
  | _ => none

/-- Full scale of shunt channel `n` in A (Table 4.1). -/
def fullScale (n : Nat) : Rat :=
  if n ≤ 11 then 1000 else if n ≤ 23 then 100 else if n ≤ 27 then 100 else if n ≤ 31 then 500
  else if n ≤ 35 then 200 else if n ≤ 43 then 250 else if n ≤ 47 then 300 else 500

/-- OC_TRIP range of a cell (Table 3.3). -/
def ocTripRange (m : Nat) : Rat × Rat :=
  match m with
  | 8 => (10, 80) | 9 => (50, 400) | 10 => (20, 150) | 11 => (20, 200) | 12 => (20, 200) | 13 => (20, 250)
  | 14 => (50, 450) | _ => if m ≤ 3 then (100, 1000) else (10, 75)

/-- FSW_MAX range of a cell in Hz (Table 3.3). -/
def fswRange (m : Nat) : Int × Int :=
  if 8 ≤ m ∧ m ≤ 13 then (5000, 200000) else (5000, 100000)

/-- Tables 4.1 and 4.3 for shunt channel `n`; the trim values are open (assumption 2). -/
def shuntDefault (n sub : Nat) : Option Val :=
  let step := 2 * fullScale n / 1024
  let trip : Rat := match cellDefault (legCell n) 0x0E with | some (.num q) => q | _ => 0
  match sub with
  | 0x02 => some (.int (legCell n))
  | 0x03 => some (.num (fullScale n))
  | 0x04 => some (.num (2 * fullScale n / 16384))
  | 0x10 => some (.int 10000) | 0x11 => some (.int 60000) | 0x12 => some (.int 20000) | 0x13 => some (.int 5000)
  | 0x14 => some (.int (512 + (trip / step).floor))
  | 0x15 => some (.int (512 - (trip / step).floor))
  | _ => none

/-- Scale per LSB and zero code of an input of a general converter (Table 4.4); 0 for temperature and unconnected
inputs. -/
def gcInput (n i : Nat) : Rat × Nat :=
  if i = 31 then (7324 / 10000000, 0) else
  match n with
  | 0 => if i ≤ 12 then (293 / 1000, 0) else (0, 0)
  | 1 => if i ≤ 2 then (3906 / 10000, 2048) else if i = 3 then (2441 / 10000, 0) else if i = 4 then (5859 / 1000000, 2048)
         else if i = 5 then (1221 / 1000000, 0) else if i ≤ 9 then (3906 / 10000, 2048) else (0, 0)
  | 2 => if i ≤ 7 then (125 / 100000, 64) else if i ≤ 9 then (1563 / 100000, 0) else if i ≤ 11 then (9766 / 1000000, 0)
         else if i = 12 then (2441 / 10000, 2048) else (0, 0)
  | _ => if i = 24 then (9766 / 1000000, 0) else if i = 25 then (1563 / 100000, 0)
         else if 26 ≤ i then (1221 / 1000000, 0) else (0, 0)

def gcDefault (n sub : Nat) : Option Val :=
  if sub = 2 then some (.int n)
  else if 0x10 ≤ sub ∧ sub ≤ 0x2F then some (.num (gcInput n (sub - 0x10)).1)
  else if 0x30 ≤ sub ∧ sub ≤ 0x4F then some (.int (gcInput n (sub - 0x30)).2)
  else none

/-- The inputs of a claimed sequencer's entries (Table 4.5). -/
def seqInputs (n : Nat) : List Nat :=
  match n with
  | 0 => List.range 13
  | 1 => (List.range 19).map (· + 13)
  | 2 => List.range 10
  | 3 => (List.range 8).map (· + 10) ++ [31]
  | 4 => List.range 13
  | 5 => (List.range 14).map (· + 13) ++ [31]
  | 7 => List.range 32
  | _ => []

/-- A sequencer claimed by firmware reads the firmware's values (R118, Table 4.5): SQ0 continuous, the Fen sequencers
every 10,000 µs with ACQ 40, SQ2 and SQ4 URGENT and periodic. ACQ of SQ2 is the smallest, as SQ0's and SQ4's (DESIGN
CHOICE, assumption 9). -/
def seqDefault (n sub : Nat) : Option Val :=
  if n = 6 then none else
  let fen := n % 2 = 1
  match sub with
  | 0x01 => some (.int 1)
  | 0x02 => some (.int 1)
  | 0x03 => some (.int (2 ^ 31 + (if fen then 0 else 2 ^ 30) + (if n = 0 then 4 else 1) * 2 ^ 24))
  | 0x04 => some (.int (seqInputs n).length)
  | 0x05 => some (.int (if fen then 10000 else if n = 4 then 50 else 100))
  | _ =>
    if 0x10 ≤ sub ∧ sub ≤ 0x2F then
      match (seqInputs n)[sub - 0x10]? with
      | some i => some (.int ((if fen then 40 else 4) * 65536 + i))
      | none => none
    else none

/-- Tables 8.3, 12.5, 13.7 and R289 for loop unit `n`: LU_CTRL, the assignment, and what firmware sets in LU16 to
LU23. -/
def luDefault (n sub : Nat) : Option Val :=
  let claimed := 16 ≤ n
  match sub with
  | 0x02 => some (.int ((if claimed then 2 ^ 31 else 0)
      + 2 ^ 29 * (if (8 ≤ n ∧ n ≤ 18) ∨ n = 22 then 2 else if 19 ≤ n ∧ n ≤ 21 then 1 else 0)
      + 2 ^ 27 * (if n = 1 ∨ n = 3 then 1 else if n = 19 then 2 else 0)))
  | 0x03 => some (.int (if n ≤ 1 then 0 else if n ≤ 3 then 1 else if n ≤ 15 then 2 else if n ≤ 17 then 3
      else if n ≤ 21 then 4 else if n = 22 then 3 else 5))
  | 0x04 => some (.int (if claimed then 1 else 0))
  | 0x05 => some (.int (if 4 ≤ n ∧ n ≤ 7 then 50 else if n = 23 then 10 else 100))
  | 0x06 => some (.int (if n = 19 then 11 else if n = 20 ∨ n = 21 then 13 else if n = 18 then 2
      else if (8 ≤ n ∧ n ≤ 17) ∨ n = 22 then 4 else 0))
  | 0x07 => some (.int (if n = 19 then 7 else if n = 20 ∨ n = 21 then 5 else 1))
  | 0x08 => some (.int ([0x300, 0x300, 0x302, 0x302, 0x508, 0x509, 0x50A, 0x50B, 0x240, 0x241, 0x242, 0x243, 0x244,
      0x245, 0x246, 0x247, 0x24A, 0x248, 0x223, 0, 0x800, 0x700, 0x24C, 0x700].getD n 0))
  | 0x09 => some (.num (if n = 23 then 885 else if n = 17 then 50 else 0))
  | 0x0A => some (.num (match n with
      | 16 => 1 / 10 | 17 => 1 / 20 | 18 => 1 / 100 | 20 => 1 / 100 | 21 => 1 / 100 | 22 => 1 / 10 | 23 => -1 / 20
      | _ => 1))
  | 0x0B => some (.num (if n = 16 ∨ n = 18 ∨ n = 22 then 100 else 1))
  | 0x0E => some (.num (match n with
      | 16 => 100 | 17 => 7 / 10 | 18 => 100 | 20 => 1 | 21 => 1 | 22 => 100 | 23 => 1 | _ => 0))
  | 0x0F => some (.num (if n = 21 then 1 else if n = 22 then 100 else 0))
  | 0x10 => some (.int ([0x100, 0x200, 0x101, 0x201, 0x304, 0x305, 0x306, 0x307, 0x400, 0x401, 0x402, 0x403, 0x404,
      0x405, 0x406, 0x407, 0x50A, 0x508, 0x613, 0x50B, 0x50D, 0x50D, 0x700, 0x50E].getD n 0))
  | 0x11 => some (.int (if n = 20 then 21 else if n = 21 then 20 else 0xFF))
  | 0x28 => some (.int (if claimed ∧ n ≠ 19 ∧ n ≠ 23 then 2 else 0))
  | 0x30 => some (.int (match n with
      | 16 => 0x06B851EC | 17 => 0x035C28F6 | 18 => 0x035C28F6 | 19 => 0x00333333 | 20 => 0x035C28F6
      | 21 => 0x035C28F6 | 22 => 0x06B851EC | _ => 0x10000000))
  | 0x38 => some (.int (match n with
      | 16 => -0x06666666 | 17 => -0x03333333 | 18 => -0x03333333 | 20 => -0x03333333 | 21 => -0x03333333
      | 22 => -0x06666666 | _ => 0))
  | 0x48 => some (.int (match n with
      | 16 => -0x10000000 | 17 => -0x10000000 | 18 => -0x10000000 | 19 => -0x0FCCCCCD | 20 => -0x10000000
      | 21 => -0x10000000 | 22 => -0x10000000 | _ => 0))
  | _ => none

/-- The row of Table 9.2 that task `n` is an instance of, and its number within the row. -/
def taskRow (n : Nat) : Nat × Nat :=
  let counts : List Nat := [4, 4, 1, 24, 1, 1, 1, 1, 2, 8, 1, 4, 1, 1, 1, 4]
  let rec go : List Nat → Nat → Nat → Nat × Nat
    | [], row, m => (row, m)
    | c :: cs, row, m => if m < c then (row, m) else go cs (row + 1) (m - c)
  go counts 0 n

/-- Number of tasks of Table 9.2. -/
def taskCount : Nat := 59

/-- Table 9.2: class code (0 HARD, 1 FIRM, 2 SOFT), period in µs, budget in ns, period range. -/
def taskParams (row : Nat) : Nat × Nat × Nat × Nat × Nat :=
  match row with
  | 0 => (0, 50, 10000, 50, 50) | 1 => (0, 100, 8000, 100, 100) | 2 => (0, 1000, 20000, 1000, 1000)
  | 3 => (0, 10000, 8000, 10000, 10000) | 4 => (1, 100, 10000, 100, 100) | 5 => (1, 200, 12000, 200, 200)
  | 6 => (1, 500, 18000, 250, 2000) | 7 => (1, 1000, 15000, 1000, 1000) | 8 => (1, 1000, 20000, 1000, 1000)
  | 9 => (1, 10000, 22000, 10000, 10000) | 10 => (1, 1000, 25000, 1000, 1000) | 11 => (1, 250, 15000, 125, 1000)
  | 12 => (1, 100, 20000, 100, 100) | 13 => (1, 500, 25000, 500, 500) | 14 => (1, 1000, 10000, 500, 10000)
  | _ => (2, 0, 25000, 0, 0)

/-- Home and alternate engine of a task (Table 9.2); 0xFF none. -/
def taskHome (n : Nat) : Nat × Nat :=
  match taskRow n with
  | (0, i) => (8 + i, 12 + i) | (1, i) => (16 + i, 20 + i) | (2, _) => (0, 1) | (3, i) => (i, 0xFF)
  | _ => (0xFF, 0xFF)

def taskDefault (n sub : Nat) : Option Val :=
  let p := taskParams (taskRow n).1
  match sub with
  | 0x03 => some (.int p.1)
  | 0x05 => some (.int p.2.1) | 0x06 => some (.int p.2.2.2.1) | 0x07 => some (.int p.2.2.2.2) | 0x08 => some (.int p.2.1)
  | 0x09 => some (.int p.2.2.1)
  | 0x0A => some (.int (taskHome n).1) | 0x0B => some (.int (taskHome n).2)
  | 0x14 => some (.int (if p.2.2.2.1 < p.2.2.2.2 then 1 else 0))
  | _ => none

/-- SENSOR_CLASS of a sensor (Table 14.1): 2 BASE, 3 MAG, 4 BOARD, 5 COOLANT, 6 DIE, 7 MOTOR. -/
def sensorClass (n : Nat) : Nat :=
  if n ≤ 6 ∨ n = 18 ∨ n = 19 ∨ (26 ≤ n ∧ n ≤ 31) ∨ n = 33 then 2
  else if n = 11 ∨ n = 12 ∨ n = 20 ∨ n = 32 then 3
  else if 40 ≤ n ∧ n ≤ 43 then 7 else if n = 44 ∨ n = 45 then 5 else if 46 ≤ n ∧ n ≤ 48 then 6 else 4

/-- The drives a sensor acts on, as a mask (Table 14.1). -/
def sensorDrives (n : Nat) : Nat :=
  if n ≤ 1 then 1 else if n ≤ 3 then 2 else if n = 4 then 8 else if n = 5 then 16 else if n = 6 then 32
  else if n ≤ 10 then 59 else if n = 11 then 8 else if n = 12 then 16 else if n ≤ 17 then 59
  else if n ≤ 25 then 16 else if n ≤ 29 then 4 else if n ≤ 31 then 8 else if n ≤ 33 then 8 else if n = 34 then 4
  else if n ≤ 39 then 12 else if n ≤ 41 then 1 else if n ≤ 43 then 2 else if n = 45 then 0 else 63

/-- The converter input of a sensor, 32 × converter + input (Table 14.1). -/
def sensorSource (n : Nat) : Nat :=
  if n ≤ 17 then 13 + n else if n ≤ 25 then 32 + 10 + (n - 18) else if n ≤ 39 then 64 + 13 + (n - 26)
  else 96 + (n - 40)

/-- Warn, throttle, shutdown and hysteresis of a class in 0.1 °C (Table 14.3). -/
def classThresholds (cl : Nat) : Int × Int × Int × Int :=
  match cl with
  | 0 => (1400, 1550, 1750, 100) | 1 => (1350, 1500, 1650, 100) | 2 => (1050, 1150, 1250, 50)
  | 3 => (1300, 1450, 1600, 50) | 4 => (950, 1050, 1150, 50) | 5 => (650, 700, 800, 30) | 6 => (1100, 1200, 1300, 50)
  | _ => (1500, 1650, 1800, 50)

def sensorDefault (n sub : Nat) : Option Val :=
  let t := classThresholds (sensorClass n)
  match sub with
  | 0x03 => some (.int (sensorClass n)) | 0x04 => some (.int (sensorSource n)) | 0x05 => some (.int (sensorDrives n))
  | 0x0A => some (.int t.1) | 0x0B => some (.int t.2.1) | 0x0C => some (.int t.2.2.1) | 0x0D => some (.int t.2.2.2)
  | _ => none

/-- LO_LIM and HI_LIM of a voltage monitor (Table 14.6). -/
def vmonLimits (n : Nat) : Rat × Rat :=
  match n with
  | 0 => (0, 1000) | 1 => (0, 950) | 2 => (0, 58) | 3 => (0, 58) | 4 => (22, 63 / 2) | 5 => (0, 63 / 2) | 6 => (9, 36)
  | 7 => (0, 60) | 8 => (76 / 100, 84 / 100) | 9 => (114 / 100, 126 / 100) | 10 => (171 / 100, 189 / 100)
  | 11 => (3135 / 1000, 3465 / 1000) | 12 => (475 / 100, 525 / 100)
  | 20 => (16, 39 / 2) | 21 => (16, 39 / 2) | 22 => (21 / 2, 27 / 2) | 23 => (5 / 2, 36 / 10)
  | n => if n ≤ 16 then (1488 / 1000, 1512 / 1000) else (95 / 100, 105 / 100)

/-- CH_CTRL and bit rates of a CAN channel (Table 18.1). -/
def canDefault (c sub : Nat) : Option Val :=
  match sub with
  | 0x02 => some (.int (if c = 1 ∨ c = 3 then 5 else 1))
  | 0x03 => some (.int (if c = 0 then 250 else 500))
  | 0x04 => some (.int (if c = 1 ∨ c = 3 then 2000 else 0))
  | _ => none

/-- Defaults that differ per instance of a table, by index, subindex and selected instance. -/
def instanceDefault (index sub bank : Nat) : Option Val :=
  if 0x2400 ≤ index ∧ index ≤ 0x240E then cellDefault (index - 0x2400) sub
  else if 0x2500 ≤ index ∧ index ≤ 0x2531 then shuntDefault (index - 0x2500) sub
  else if 0x2540 ≤ index ∧ index ≤ 0x2543 then gcDefault (index - 0x2540) sub
  else if 0x2548 ≤ index ∧ index ≤ 0x254F then seqDefault (index - 0x2548) sub
  else if 0x2604 ≤ index ∧ index ≤ 0x2607 ∧ sub = 0x0C then some (.num (3 / 10))
  else if 0x2600 ≤ index ∧ index ≤ 0x2603 ∧ sub = 0x0C then some (.num (9 / 5))
  else if 0x2620 ≤ index ∧ index ≤ 0x2627 then
    let fs := fullScale (3 * (index - 0x2620))
    match sub with
    | 0x06 => some (.num (12 / 100 * fs)) | 0x09 => some (.num (3 / 100 * fs)) | 0x0A => some (.num (15 / 100 * fs))
    | 0x0B => some (.num (5 / 100 * fs)) | _ => none
  else if 0x2640 ≤ index ∧ index ≤ 0x264B then
    match sub with
    | 0x04 => some (.int (if 0x2644 ≤ index ∧ index ≤ 0x2647 then 1000 else 50))
    | 0x0C => some (.int (if index ≤ 0x2643 then 50 else 250)) | _ => none
  else if 0x2700 ≤ index ∧ index ≤ 0x2717 then luDefault (index - 0x2700) sub
  else if 0x2820 ≤ index ∧ index ≤ 0x2827 ∧ sub = 2 then
    some (.int (if index ≤ 0x2823 then 0 else if index ≤ 0x2825 then 1 else if index = 0x2826 then 3 else 4))
  else if index = 0x2900 ∧ (sub = 0x15 ∨ sub = 0x16) then some (.num 600000)
  else if index = 0x2B40 ∧ (sub = 0x15 ∨ sub = 0x16) then some (.int (sub - 0x14))
  else if index = 0x2A00 ∧ (sub = 0x11 ∨ sub = 0x17) then some (if sub = 0x11 then .num (276 / 10) else .int 150000)
  else if index = 0x2810 ∧ (sub = 0x0F ∨ sub = 0x10) then some (.num 2000)
  else if index = 0x2121 ∧ 1 ≤ bank then taskDefault (bank - 1) sub
  else if index = 0x2C10 ∧ 1 ≤ bank then sensorDefault (bank - 1) sub
  else if index = 0x2C80 ∧ 1 ≤ bank ∧ (sub = 6 ∨ sub = 7) then
    some (.num (if sub = 6 then (vmonLimits (bank - 1)).1 else (vmonLimits (bank - 1)).2))
  else if 0x2F00 ≤ index ∧ index ≤ 0x2F03 then canDefault (index - 0x2F00) sub
  else if 0x4030 ≤ index ∧ index ≤ 0x4035 ∧ sub = 0 then some (.int (if index ≤ 0x4031 then 0x14 else 0x02))
  else none

/-- What a key reads when the store does not list it. -/
def dictDefault (key : Nat) : Val :=
  match instanceDefault (key / 256 % 65536) (key % 256) (key / 16777216) with
  | some v => v
  | none =>
    match dictRow key with
    | some (_, r) => r.dflt
    | none => .int 0

end Sys2Proof.Machine
end

