-- ==== Sys2Proof/Machine/Keys.lean ====
section
/-! DEFINITION. The keys of the object dictionary: one name for every object of the manual's object tables (Table n.m
"Object 0x…"), the chapter prefix first and the manual's own name after it. A key is 256 * index + subindex. Objects
that a per-session selector shows one instance of (task, sensor, voltage monitor, CAN filter and slot, fault
occurrence code) keep their instances under 2^24 * (instance + 1) + key; where one row of the manual lists several
names in a row of subindices, `i` counts them from 0, and `side` is 0 for A, 1 for B. -/
namespace Sys2Proof.Machine

abbrev Od.SYS_NUM_SUBS : Nat := 2097408
abbrev Od.SYS_CLK_STATUS : Nat := 2097409
abbrev Od.SYS_CLK_FAULT_LATCH : Nat := 2097410
abbrev Od.SYS_FREQ_ENG : Nat := 2097411
abbrev Od.SYS_FREQ_SAFE : Nat := 2097412
abbrev Od.SYS_FREQ_FAB : Nat := 2097413
abbrev Od.SYS_FREQ_CONV : Nat := 2097414
abbrev Od.SYS_FREQ_CAN : Nat := 2097415
abbrev Od.SYS_FREQ_NET : Nat := 2097416
abbrev Od.SYS_FREQ_AON : Nat := 2097417
abbrev Od.SYS_LINK_T_STATUS : Nat := 2097424
abbrev Od.SYS_LINK_G_STATUS : Nat := 2097425
abbrev Od.SYS_LINK_L_STATUS : Nat := 2097426
abbrev Od.SYS_LINK_T_REPLAYS : Nat := 2097427
abbrev Od.SYS_LINK_G_REPLAYS : Nat := 2097428
abbrev Od.SYS_LINK_L_REPLAYS : Nat := 2097429
abbrev Od.SYS_LINK_T_LAT_ns : Nat := 2097430
abbrev Od.SYS_LINK_G_LAT_ns : Nat := 2097431
abbrev Od.SYS_LINK_L_LAT_ns : Nat := 2097432
abbrev Od.SYS_ECC_CORRECTED : Nat := 2097440
abbrev Od.SYS_ECC_UNCORRECTED : Nat := 2097441
abbrev Od.SYS_SCRUB_PERIOD_ms : Nat := 2097442
abbrev Od.SYS_MEM_STATUS : Nat := 2097443
abbrev Od.SUP_NUM_SUBS : Nat := 2097664
abbrev Od.SUP_SUPPLY_STATUS : Nat := 2097665
abbrev Od.SUP_ACTIVE_SOURCE : Nat := 2097666
abbrev Od.SUP_V_LV_IN : Nat := 2097667
abbrev Od.SUP_V_PODL : Nat := 2097668
abbrev Od.SUP_P_CTRL : Nat := 2097669
abbrev Od.SUP_PODL_CLASS : Nat := 2097670
abbrev Od.SUP_SOURCE_CHANGES : Nat := 2097671
abbrev Od.SUP_HOLDUP_EVENTS : Nat := 2097672
abbrev Od.RST_NUM_SUBS : Nat := 2097920
abbrev Od.RST_RESET_CAUSE : Nat := 2097921
abbrev Od.RST_RESET_COUNT : Nat := 2097922
abbrev Od.RST_TRIM_STATUS : Nat := 2097923
abbrev Od.RST_CTRL_READY_ms : Nat := 2097924
abbrev Od.RST_DRIVE_RESET : Nat := 2097925
abbrev Od.RST_RESET_HOLDOFFS : Nat := 2097926
abbrev Od.RST_BRINGUP_STATUS : Nat := 2097927
abbrev Od.RST_READY_REASON (i : Nat) : Nat := 2097936 + i
abbrev Od.RST_READY_TIME_ms (i : Nat) : Nat := 2097944 + i
abbrev Od.RET_NUM_SUBS : Nat := 2098176
abbrev Od.RET_RETAINED_VALID : Nat := 2098177
abbrev Od.RET_CUST_OFFSET : Nat := 2098178
abbrev Od.RET_CUST_DATA : Nat := 2098179
abbrev Od.RET_VEND_OFFSET : Nat := 2098180
abbrev Od.RET_VEND_DATA : Nat := 2098181
abbrev Od.RET_DISCARDED : Nat := 2098182
abbrev Od.BKP_NUM_SUBS : Nat := 2098432
abbrev Od.BKP_REG (i : Nat) : Nat := 2098433 + i
abbrev Od.BKP_BKP12 : Nat := 2098445
abbrev Od.BKP_BKP13 : Nat := 2098446
abbrev Od.BKP_BKP14 : Nat := 2098447
abbrev Od.BKP_BKP15 : Nat := 2098448
abbrev Od.CELL_NUM_SUBS (n : Nat) : Nat := 2359296 + 256 * n
abbrev Od.CELL_CELL_STATUS (n : Nat) : Nat := 2359297 + 256 * n
abbrev Od.CELL_CELL_BAND (n : Nat) : Nat := 2359298 + 256 * n
abbrev Od.CELL_CELL_TJ (n : Nat) : Nat := 2359299 + 256 * n
abbrev Od.CELL_DT_B (n : Nat) (i : Nat) : Nat := 2359300 + 256 * n + i
abbrev Od.CELL_BLANK (n : Nat) (i : Nat) : Nat := 2359304 + 256 * n + i
abbrev Od.CELL_BLANK_MAX (n : Nat) : Nat := 2359308 + 256 * n
abbrev Od.CELL_VDS_THR (n : Nat) : Nat := 2359309 + 256 * n
abbrev Od.CELL_OC_TRIP (n : Nat) : Nat := 2359310 + 256 * n
abbrev Od.CELL_FSW_MAX (n : Nat) : Nat := 2359311 + 256 * n
abbrev Od.CELL_DWELL_MIN_ns (n : Nat) : Nat := 2359312 + 256 * n
abbrev Od.CELL_PLATEAU_V (n : Nat) : Nat := 2359313 + 256 * n
abbrev Od.CELL_PLATEAU_ns (n : Nat) : Nat := 2359314 + 256 * n
abbrev Od.CELL_BOOT_UV_THR (n : Nat) : Nat := 2359315 + 256 * n
abbrev Od.CELL_BOOT_V_MIN (n : Nat) : Nat := 2359316 + 256 * n
abbrev Od.CELL_SELFTEST (n : Nat) : Nat := 2359317 + 256 * n
abbrev Od.CELL_SELFTEST_RESULT (n : Nat) : Nat := 2359318 + 256 * n
abbrev Od.CELL_SC_COUNT (n : Nat) : Nat := 2359319 + 256 * n
abbrev Od.CELL_BOTH_ON_COUNT (n : Nat) : Nat := 2359320 + 256 * n
abbrev Od.CELL_BOOT_REFRESHES (n : Nat) : Nat := 2359321 + 256 * n
abbrev Od.CELL_FSW_DEFERRALS (n : Nat) : Nat := 2359322 + 256 * n
abbrev Od.CELL_LAST_FAULT_LEG (n : Nat) : Nat := 2359323 + 256 * n
abbrev Od.CELL_LAST_FAULT_TB (n : Nat) : Nat := 2359324 + 256 * n
abbrev Od.CELL_COUNTER_STATUS (n : Nat) : Nat := 2359325 + 256 * n
abbrev Od.CELL_SC_LOCKOUT (n : Nat) : Nat := 2359326 + 256 * n
abbrev Od.CELL_LEG_MAP (n : Nat) : Nat := 2359327 + 256 * n
abbrev Od.CELL_LEG_SWITCHES (n : Nat) (i : Nat) : Nat := 2359328 + 256 * n + i
abbrev Od.CELL_VGS_SUP_POS (n : Nat) : Nat := 2359332 + 256 * n
abbrev Od.CELL_VGS_SUP_NEG (n : Nat) : Nat := 2359333 + 256 * n
abbrev Od.CELL_CELL_ACK_COUNT (n : Nat) : Nat := 2359334 + 256 * n
abbrev Od.SH_NUM_SUBS (n : Nat) : Nat := 2424832 + 256 * n
abbrev Od.SH_CH_STATUS (n : Nat) : Nat := 2424833 + 256 * n
abbrev Od.SH_CELL (n : Nat) : Nat := 2424834 + 256 * n
abbrev Od.SH_FULL_SCALE (n : Nat) : Nat := 2424835 + 256 * n
abbrev Od.SH_LSB_A (n : Nat) : Nat := 2424836 + 256 * n
abbrev Od.SH_RAW (n : Nat) : Nat := 2424837 + 256 * n
abbrev Od.SH_CORR (n : Nat) : Nat := 2424838 + 256 * n
abbrev Od.SH_CURRENT (n : Nat) : Nat := 2424839 + 256 * n
abbrev Od.SH_SAMPLE_TB (n : Nat) : Nat := 2424840 + 256 * n
abbrev Od.SH_SETTLE_ns (n : Nat) : Nat := 2424841 + 256 * n
abbrev Od.SH_OFFSET (n : Nat) : Nat := 2424842 + 256 * n
abbrev Od.SH_OFFSET_TRIM (n : Nat) : Nat := 2424843 + 256 * n
abbrev Od.SH_OFFSET_ARM (n : Nat) : Nat := 2424844 + 256 * n
abbrev Od.SH_OFFSET_LIM (n : Nat) : Nat := 2424845 + 256 * n
abbrev Od.SH_GAIN (n : Nat) : Nat := 2424846 + 256 * n
abbrev Od.SH_GAIN_TRIM (n : Nat) : Nat := 2424847 + 256 * n
abbrev Od.SH_CAL_INT_ms (n : Nat) (i : Nat) : Nat := 2424848 + 256 * n + i
abbrev Od.SH_HI_THR_CODE (n : Nat) : Nat := 2424852 + 256 * n
abbrev Od.SH_LO_THR_CODE (n : Nat) : Nat := 2424853 + 256 * n
abbrev Od.SH_CAL_COUNT (n : Nat) : Nat := 2424854 + 256 * n
abbrev Od.SH_OVR_COUNT (n : Nat) : Nat := 2424855 + 256 * n
abbrev Od.SH_LAST_CAL_TB (n : Nat) : Nat := 2424856 + 256 * n
abbrev Od.GC_NUM_SUBS (n : Nat) : Nat := 2441216 + 256 * n
abbrev Od.GC_GC_STATUS (n : Nat) : Nat := 2441217 + 256 * n
abbrev Od.GC_ISLAND (n : Nat) : Nat := 2441218 + 256 * n
abbrev Od.GC_BUSY_SEQ (n : Nat) : Nat := 2441219 + 256 * n
abbrev Od.GC_SUSPENDS (n : Nat) : Nat := 2441220 + 256 * n
abbrev Od.GC_REF_CODE (n : Nat) : Nat := 2441221 + 256 * n
abbrev Od.GC_INPUT_SCALE (n : Nat) (i : Nat) : Nat := 2441232 + 256 * n + i
abbrev Od.GC_INPUT_ZERO (n : Nat) (i : Nat) : Nat := 2441264 + 256 * n + i
abbrev Od.SQ_NUM_SUBS (n : Nat) : Nat := 2443264 + 256 * n
abbrev Od.SQ_SQ_STATUS (n : Nat) : Nat := 2443265 + 256 * n
abbrev Od.SQ_OWNER (n : Nat) : Nat := 2443266 + 256 * n
abbrev Od.SQ_SQ_CTRL (n : Nat) : Nat := 2443267 + 256 * n
abbrev Od.SQ_LENGTH (n : Nat) : Nat := 2443268 + 256 * n
abbrev Od.SQ_TRIG_PERIOD (n : Nat) : Nat := 2443269 + 256 * n
abbrev Od.SQ_SW_TRIGGER (n : Nat) : Nat := 2443270 + 256 * n
abbrev Od.SQ_SEQ_COUNT (n : Nat) : Nat := 2443271 + 256 * n
abbrev Od.SQ_TRIG_OVERRUNS (n : Nat) : Nat := 2443272 + 256 * n
abbrev Od.SQ_SEQ_TB (n : Nat) : Nat := 2443273 + 256 * n
abbrev Od.SQ_ENTRY (n : Nat) (i : Nat) : Nat := 2443280 + 256 * n + i
abbrev Od.SQ_RESULT (n : Nat) (i : Nat) : Nat := 2443312 + 256 * n + i
abbrev Od.GCP_NUM_SUBS (n : Nat) : Nat := 2449408 + 256 * n
abbrev Od.GCP_GCP_STATUS (n : Nat) : Nat := 2449409 + 256 * n
abbrev Od.GCP_GCP_CTRL (n : Nat) : Nat := 2449410 + 256 * n
abbrev Od.GCP_INPUT (n : Nat) : Nat := 2449411 + 256 * n
abbrev Od.GCP_HI_CODE (n : Nat) : Nat := 2449412 + 256 * n
abbrev Od.GCP_LO_CODE (n : Nat) : Nat := 2449413 + 256 * n
abbrev Od.GCP_HYST_CODE (n : Nat) : Nat := 2449414 + 256 * n
abbrev Od.GCP_FILTER_ns (n : Nat) : Nat := 2449415 + 256 * n
abbrev Od.GCP_BLANK_CELL (n : Nat) : Nat := 2449416 + 256 * n
abbrev Od.GCP_BLANK_ns (n : Nat) : Nat := 2449417 + 256 * n
abbrev Od.GCP_CLEAR (n : Nat) : Nat := 2449418 + 256 * n
abbrev Od.GCP_CROSS_COUNT (n : Nat) : Nat := 2449419 + 256 * n
abbrev Od.GCP_HI_THR (n : Nat) : Nat := 2449420 + 256 * n
abbrev Od.GCP_LO_THR (n : Nat) : Nat := 2449421 + 256 * n
abbrev Od.GCP_LAST_CROSS_TB (n : Nat) : Nat := 2449422 + 256 * n
abbrev Od.AX_NUM_SUBS (n : Nat) : Nat := 2490368 + 256 * n
abbrev Od.AX_AXIS_STATUS (n : Nat) : Nat := 2490369 + 256 * n
abbrev Od.AX_POLE_PAIRS (n : Nat) : Nat := 2490370 + 256 * n
abbrev Od.AX_RS (n : Nat) : Nat := 2490371 + 256 * n
abbrev Od.AX_LD (n : Nat) : Nat := 2490372 + 256 * n
abbrev Od.AX_LQ (n : Nat) : Nat := 2490373 + 256 * n
abbrev Od.AX_PSI_PM (n : Nat) : Nat := 2490374 + 256 * n
abbrev Od.AX_FLUX_REF (n : Nat) : Nat := 2490375 + 256 * n
abbrev Od.AX_TQ_BAND (n : Nat) : Nat := 2490376 + 256 * n
abbrev Od.AX_FLUX_BAND (n : Nat) : Nat := 2490377 + 256 * n
abbrev Od.AX_DRIFT_WC (n : Nat) : Nat := 2490378 + 256 * n
abbrev Od.AX_FW_MARGIN (n : Nat) : Nat := 2490379 + 256 * n
abbrev Od.AX_VON_DROP (n : Nat) : Nat := 2490380 + 256 * n
abbrev Od.AX_DT_COMP (n : Nat) : Nat := 2490381 + 256 * n
abbrev Od.AX_MEAS_MAX_ns (n : Nat) : Nat := 2490382 + 256 * n
abbrev Od.AX_MEAS_MIN_ns (n : Nat) : Nat := 2490383 + 256 * n
abbrev Od.AX_TQ_REF (n : Nat) : Nat := 2490384 + 256 * n
abbrev Od.AX_TQ_EST (n : Nat) : Nat := 2490385 + 256 * n
abbrev Od.AX_PSI_ALPHA (n : Nat) : Nat := 2490386 + 256 * n
abbrev Od.AX_PSI_BETA (n : Nat) : Nat := 2490387 + 256 * n
abbrev Od.AX_PSI_REF_ACT (n : Nat) : Nat := 2490388 + 256 * n
abbrev Od.AX_I_ALPHA (n : Nat) : Nat := 2490389 + 256 * n
abbrev Od.AX_I_BETA (n : Nat) : Nat := 2490390 + 256 * n
abbrev Od.AX_V_BUS (n : Nat) : Nat := 2490391 + 256 * n
abbrev Od.AX_SPEED_EL (n : Nat) : Nat := 2490392 + 256 * n
abbrev Od.AX_BEMF_LL_PK (n : Nat) : Nat := 2490393 + 256 * n
abbrev Od.AX_KCL_RES (n : Nat) : Nat := 2490394 + 256 * n
abbrev Od.AX_INNOV_MAX (n : Nat) : Nat := 2490395 + 256 * n
abbrev Od.AX_UNMEAS_MAX_ns (n : Nat) : Nat := 2490396 + 256 * n
abbrev Od.AX_FSW_LEG_AVG (n : Nat) : Nat := 2490397 + 256 * n
abbrev Od.AX_DECISIONS (n : Nat) : Nat := 2490398 + 256 * n
abbrev Od.AX_SUBSTITUTIONS (n : Nat) : Nat := 2490399 + 256 * n
abbrev Od.AX_FALLBACKS (n : Nat) : Nat := 2490400 + 256 * n
abbrev Od.AX_AXIS_CNT_STATUS (n : Nat) : Nat := 2490401 + 256 * n
abbrev Od.TR_NUM_SUBS (n : Nat) : Nat := 2621440 + 256 * n
abbrev Od.TR_DRIVE_STATE (n : Nat) : Nat := 2621441 + 256 * n
abbrev Od.TR_DRIVE_STATUS (n : Nat) : Nat := 2621442 + 256 * n
abbrev Od.TR_CONTROL (n : Nat) : Nat := 2621443 + 256 * n
abbrev Od.TR_TQ_SET (n : Nat) : Nat := 2621444 + 256 * n
abbrev Od.TR_DIRECTION (n : Nat) : Nat := 2621445 + 256 * n
abbrev Od.TR_TQ_SLEW (n : Nat) : Nat := 2621446 + 256 * n
abbrev Od.TR_TQ_MAX_MOT (n : Nat) : Nat := 2621447 + 256 * n
abbrev Od.TR_TQ_MAX_GEN (n : Nat) : Nat := 2621448 + 256 * n
abbrev Od.TR_SPLIT (n : Nat) : Nat := 2621449 + 256 * n
abbrev Od.TR_REV_SPEED (n : Nat) : Nat := 2621450 + 256 * n
abbrev Od.TR_BASE_SPEED (n : Nat) : Nat := 2621451 + 256 * n
abbrev Od.TR_STOP_EMF_EXIT (n : Nat) : Nat := 2621452 + 256 * n
abbrev Od.TR_ARM_HOLD_ms (n : Nat) : Nat := 2621453 + 256 * n
abbrev Od.TR_TQ_RAMP (n : Nat) : Nat := 2621454 + 256 * n
abbrev Od.TR_TQ_ACT (n : Nat) : Nat := 2621455 + 256 * n
abbrev Od.TR_SPEED (n : Nat) : Nat := 2621456 + 256 * n
abbrev Od.TR_TQ_LIM_MOT_ACT (n : Nat) : Nat := 2621457 + 256 * n
abbrev Od.TR_TQ_LIM_GEN_ACT (n : Nat) : Nat := 2621458 + 256 * n
abbrev Od.TR_LIMIT_SRC (n : Nat) : Nat := 2621459 + 256 * n
abbrev Od.TR_DIR_CHANGES (n : Nat) : Nat := 2621460 + 256 * n
abbrev Od.TR_LAST_EVENT (n : Nat) : Nat := 2621461 + 256 * n
abbrev Od.OBS_NUM_SUBS (n : Nat) : Nat := 2498560 + 256 * n
abbrev Od.OBS_OBS_STATUS (n : Nat) : Nat := 2498561 + 256 * n
abbrev Od.OBS_START_MODE (n : Nat) : Nat := 2498562 + 256 * n
abbrev Od.OBS_OBS_ANGLE (n : Nat) : Nat := 2498563 + 256 * n
abbrev Od.OBS_OBS_SPEED (n : Nat) : Nat := 2498564 + 256 * n
abbrev Od.OBS_RESID (n : Nat) : Nat := 2498565 + 256 * n
abbrev Od.OBS_RESID_THR (n : Nat) : Nat := 2498566 + 256 * n
abbrev Od.OBS_LOSS_TIME_us (n : Nat) : Nat := 2498567 + 256 * n
abbrev Od.OBS_OPEN_DET_us (n : Nat) : Nat := 2498568 + 256 * n
abbrev Od.OBS_I_OPEN_THR (n : Nat) : Nat := 2498569 + 256 * n
abbrev Od.OBS_I_OPEN_EXPECT (n : Nat) : Nat := 2498570 + 256 * n
abbrev Od.OBS_KCL_LIM (n : Nat) : Nat := 2498571 + 256 * n
abbrev Od.OBS_SHUNT_FAILED (n : Nat) : Nat := 2498572 + 256 * n
abbrev Od.OBS_ASC_EXIT (n : Nat) : Nat := 2498573 + 256 * n
abbrev Od.OBS_CATCH_I_MIN (n : Nat) : Nat := 2498574 + 256 * n
abbrev Od.OBS_BEMF_MIN_V (n : Nat) : Nat := 2498575 + 256 * n
abbrev Od.OBS_PROBE_I (n : Nat) : Nat := 2498576 + 256 * n
abbrev Od.OBS_PROBE_CONF_MIN (n : Nat) : Nat := 2498577 + 256 * n
abbrev Od.OBS_PROBE_ANGLE (n : Nat) : Nat := 2498578 + 256 * n
abbrev Od.OBS_PROBE_CONF (n : Nat) : Nat := 2498579 + 256 * n
abbrev Od.OBS_ASSIST_PERIOD_us (n : Nat) : Nat := 2498580 + 256 * n
abbrev Od.OBS_ASSIST_ns (n : Nat) : Nat := 2498581 + 256 * n
abbrev Od.OBS_ASSIST_GAIN (n : Nat) : Nat := 2498582 + 256 * n
abbrev Od.OBS_XSET_ANGLE_LIM (n : Nat) : Nat := 2498583 + 256 * n
abbrev Od.OBS_SET_TQ_MAX (n : Nat) : Nat := 2498584 + 256 * n
abbrev Od.OBS_SET_TQ_MAX_ACT (n : Nat) : Nat := 2498585 + 256 * n
abbrev Od.OBS_ENC_OFFSET (n : Nat) : Nat := 2498586 + 256 * n
abbrev Od.OBS_LOSS_COUNT (n : Nat) : Nat := 2498587 + 256 * n
abbrev Od.OBS_CATCH_COUNT (n : Nat) : Nat := 2498588 + 256 * n
abbrev Od.OBS_PROBE_COUNT (n : Nat) : Nat := 2498589 + 256 * n
abbrev Od.OBS_ASC_COUNT (n : Nat) : Nat := 2498590 + 256 * n
abbrev Od.OBS_ASC_TIME_ms (n : Nat) : Nat := 2498591 + 256 * n
abbrev Od.OBS_CATCH_TIME_us (n : Nat) : Nat := 2498592 + 256 * n
abbrev Od.OBS_ID_CMD (n : Nat) : Nat := 2498593 + 256 * n
abbrev Od.OBS_ID_STATUS (n : Nat) : Nat := 2498594 + 256 * n
abbrev Od.OBS_ID_RS (n : Nat) : Nat := 2498595 + 256 * n
abbrev Od.OBS_ID_LD (n : Nat) : Nat := 2498596 + 256 * n
abbrev Od.OBS_ID_LQ (n : Nat) : Nat := 2498597 + 256 * n
abbrev Od.OBS_ID_PSI_PM (n : Nat) : Nat := 2498598 + 256 * n
abbrev Od.OBS_ID_ENC_OFFSET (n : Nat) : Nat := 2498599 + 256 * n
abbrev Od.OBS_ID_APPLY (n : Nat) : Nat := 2498600 + 256 * n
abbrev Od.OBS_OPEN_ACC_us (n : Nat) : Nat := 2498601 + 256 * n
abbrev Od.OBS_XSET_ANGLE (n : Nat) : Nat := 2498602 + 256 * n
abbrev Od.OBS_OBS_CNT_STATUS (n : Nat) : Nat := 2498603 + 256 * n
abbrev Od.PIF_NUM_SUBS (n : Nat) : Nat := 2506752 + 256 * n
abbrev Od.PIF_PIF_STATUS (n : Nat) : Nat := 2506753 + 256 * n
abbrev Od.PIF_MODE (n : Nat) : Nat := 2506754 + 256 * n
abbrev Od.PIF_PIF_CTRL (n : Nat) : Nat := 2506755 + 256 * n
abbrev Od.PIF_EDGE_MIN_ns (n : Nat) : Nat := 2506756 + 256 * n
abbrev Od.PIF_COUNTS_PER_REV (n : Nat) : Nat := 2506757 + 256 * n
abbrev Od.PIF_POSITION (n : Nat) : Nat := 2506758 + 256 * n
abbrev Od.PIF_PRESET (n : Nat) : Nat := 2506759 + 256 * n
abbrev Od.PIF_INDEX_POS (n : Nat) : Nat := 2506760 + 256 * n
abbrev Od.PIF_INDEX_VALUE (n : Nat) : Nat := 2506761 + 256 * n
abbrev Od.PIF_ARM_INDEX (n : Nat) : Nat := 2506762 + 256 * n
abbrev Od.PIF_SPEED (n : Nat) : Nat := 2506763 + 256 * n
abbrev Od.PIF_SPEED_PERIOD_us (n : Nat) : Nat := 2506764 + 256 * n
abbrev Od.PIF_SPEED_ZERO_ms (n : Nat) : Nat := 2506765 + 256 * n
abbrev Od.PIF_LAST_EDGE_TB (n : Nat) : Nat := 2506766 + 256 * n
abbrev Od.PIF_CHECK_TIME_ms (n : Nat) : Nat := 2506767 + 256 * n
abbrev Od.PIF_CHECK_CMD (n : Nat) : Nat := 2506768 + 256 * n
abbrev Od.PIF_FAULT_LIMIT (n : Nat) : Nat := 2506769 + 256 * n
abbrev Od.PIF_INDEX_TOL (n : Nat) : Nat := 2506770 + 256 * n
abbrev Od.PIF_SSI_CLK_kHz (n : Nat) : Nat := 2506771 + 256 * n
abbrev Od.PIF_SSI_BITS (n : Nat) : Nat := 2506772 + 256 * n
abbrev Od.PIF_SSI_TURN_BITS (n : Nat) : Nat := 2506773 + 256 * n
abbrev Od.PIF_SSI_FORMAT (n : Nat) : Nat := 2506774 + 256 * n
abbrev Od.PIF_SSI_PERIOD_us (n : Nat) : Nat := 2506775 + 256 * n
abbrev Od.PIF_SSI_JUMP_MAX (n : Nat) : Nat := 2506776 + 256 * n
abbrev Od.PIF_EDGE_FAULTS (n : Nat) : Nat := 2506777 + 256 * n
abbrev Od.PIF_ILLEGAL_COUNT (n : Nat) : Nat := 2506778 + 256 * n
abbrev Od.PIF_WIRE_FAULTS (n : Nat) : Nat := 2506779 + 256 * n
abbrev Od.PIF_SSI_ERRORS (n : Nat) : Nat := 2506780 + 256 * n
abbrev Od.PIF_INDEX_ERRORS (n : Nat) : Nat := 2506781 + 256 * n
abbrev Od.PIF_CNT_STATUS (n : Nat) : Nat := 2506782 + 256 * n
abbrev Od.LU_NUM_SUBS (n : Nat) : Nat := 2555904 + 256 * n
abbrev Od.LU_LU_STATUS (n : Nat) : Nat := 2555905 + 256 * n
abbrev Od.LU_LU_CTRL (n : Nat) : Nat := 2555906 + 256 * n
abbrev Od.LU_DRIVE (n : Nat) : Nat := 2555907 + 256 * n
abbrev Od.LU_SECTIONS (n : Nat) : Nat := 2555908 + 256 * n
abbrev Od.LU_TRIG_PERIOD_us (n : Nat) : Nat := 2555909 + 256 * n
abbrev Od.LU_TRIG_UNIT (n : Nat) : Nat := 2555910 + 256 * n
abbrev Od.LU_TRIG_DIV (n : Nat) : Nat := 2555911 + 256 * n
abbrev Od.LU_FB_SRC (n : Nat) : Nat := 2555912 + 256 * n
abbrev Od.LU_REF (n : Nat) : Nat := 2555913 + 256 * n
abbrev Od.LU_IN_GAIN (n : Nat) : Nat := 2555914 + 256 * n
abbrev Od.LU_OUT_GAIN (n : Nat) : Nat := 2555915 + 256 * n
abbrev Od.LU_OUT_OFFSET (n : Nat) : Nat := 2555916 + 256 * n
abbrev Od.LU_OUT_MIN (n : Nat) : Nat := 2555917 + 256 * n
abbrev Od.LU_OUT_MAX (n : Nat) : Nat := 2555918 + 256 * n
abbrev Od.LU_INIT_OUT (n : Nat) : Nat := 2555919 + 256 * n
abbrev Od.LU_OUT_DEST (n : Nat) : Nat := 2555920 + 256 * n
abbrev Od.LU_MINSEL (n : Nat) : Nat := 2555921 + 256 * n
abbrev Od.LU_HOLD_MAX_ms (n : Nat) : Nat := 2555922 + 256 * n
abbrev Od.LU_OUTPUT (n : Nat) : Nat := 2555923 + 256 * n
abbrev Od.LU_FB_VALUE (n : Nat) : Nat := 2555924 + 256 * n
abbrev Od.LU_LATENCY_ns (n : Nat) : Nat := 2555925 + 256 * n
abbrev Od.LU_SAMPLES (n : Nat) : Nat := 2555926 + 256 * n
abbrev Od.LU_SAT_SAMPLES (n : Nat) : Nat := 2555927 + 256 * n
abbrev Od.LU_OVF_COUNT (n : Nat) : Nat := 2555928 + 256 * n
abbrev Od.LU_STALE_COUNT (n : Nat) : Nat := 2555929 + 256 * n
abbrev Od.LU_COMMITS (n : Nat) : Nat := 2555930 + 256 * n
abbrev Od.LU_LU_CNT_STATUS (n : Nat) : Nat := 2555931 + 256 * n
abbrev Od.LU_STAGE_SEC (n : Nat) : Nat := 2555932 + 256 * n
abbrev Od.LU_STAGE (n : Nat) (i : Nat) : Nat := 2555933 + 256 * n + i
abbrev Od.LU_NOTCH_F0 (n : Nat) : Nat := 2555938 + 256 * n
abbrev Od.LU_NOTCH_DEPTH_dB (n : Nat) : Nat := 2555939 + 256 * n
abbrev Od.LU_NOTCH_WIDTH (n : Nat) : Nat := 2555940 + 256 * n
abbrev Od.LU_COMMIT (n : Nat) : Nat := 2555941 + 256 * n
abbrev Od.LU_DIR_SIGNS (n : Nat) : Nat := 2555942 + 256 * n
abbrev Od.LU_SEC_CTRL (n : Nat) (i : Nat) : Nat := 2555944 + 256 * n + i
abbrev Od.LU_B0 (n : Nat) (i : Nat) : Nat := 2555952 + 256 * n + i
abbrev Od.LU_B1 (n : Nat) (i : Nat) : Nat := 2555960 + 256 * n + i
abbrev Od.LU_B2 (n : Nat) (i : Nat) : Nat := 2555968 + 256 * n + i
abbrev Od.LU_A1 (n : Nat) (i : Nat) : Nat := 2555976 + 256 * n + i
abbrev Od.LU_A2 (n : Nat) (i : Nat) : Nat := 2555984 + 256 * n + i
abbrev Od.LU_SEC_OUT (n : Nat) (i : Nat) : Nat := 2555992 + 256 * n + i
abbrev Od.ENG_NUM_SUBS (n : Nat) : Nat := 2162688 + 256 * n
abbrev Od.ENG_ENG_STATUS (n : Nat) : Nat := 2162689 + 256 * n
abbrev Od.ENG_ENG_STATE (n : Nat) : Nat := 2162690 + 256 * n
abbrev Od.ENG_PINNED_TASKS (n : Nat) : Nat := 2162691 + 256 * n
abbrev Od.ENG_QUEUE_LOAD_ns (n : Nat) : Nat := 2162692 + 256 * n
abbrev Od.ENG_BUSY (n : Nat) : Nat := 2162693 + 256 * n
abbrev Od.ENG_DISPATCHES (n : Nat) : Nat := 2162694 + 256 * n
abbrev Od.ENG_STEALS (n : Nat) : Nat := 2162695 + 256 * n
abbrev Od.ENG_STOLEN_FROM (n : Nat) : Nat := 2162696 + 256 * n
abbrev Od.ENG_STEAL_TIME_MAX_ns (n : Nat) : Nat := 2162697 + 256 * n
abbrev Od.ENG_OVERRUNS (n : Nat) : Nat := 2162698 + 256 * n
abbrev Od.ENG_SELFTEST_PASSES (n : Nat) : Nat := 2162699 + 256 * n
abbrev Od.ENG_SELFTEST_FAILS (n : Nat) : Nat := 2162700 + 256 * n
abbrev Od.ENG_OOS_COUNT (n : Nat) : Nat := 2162701 + 256 * n
abbrev Od.ENG_LAST_FAIL (n : Nat) : Nat := 2162702 + 256 * n
abbrev Od.ENG_ENG_CNT_STATUS (n : Nat) : Nat := 2162703 + 256 * n
abbrev Od.POOL_NUM_SUBS : Nat := 2170880
abbrev Od.POOL_POOL_STATUS : Nat := 2170881
abbrev Od.POOL_POOL_SIZE : Nat := 2170882
abbrev Od.POOL_POOL_USED : Nat := 2170883
abbrev Od.POOL_TASK_COUNT : Nat := 2170884
abbrev Od.POOL_LIVE_ENGINES : Nat := 2170885
abbrev Od.POOL_ADMIT_ENGINES : Nat := 2170886
abbrev Od.POOL_U_TOTAL : Nat := 2170887
abbrev Od.POOL_U_LIMIT : Nat := 2170888
abbrev Od.POOL_CONFIG_LOAD : Nat := 2170889
abbrev Od.POOL_ADMIT_RESULT : Nat := 2170890
abbrev Od.POOL_ADMIT_TASK : Nat := 2170891
abbrev Od.POOL_STEAL_COST_MAX_ns : Nat := 2170892
abbrev Od.POOL_CLAIM_CONFLICTS : Nat := 2170893
abbrev Od.POOL_CONFIG_LOADS : Nat := 2170894
abbrev Od.POOL_SOFT_QUEUE : Nat := 2170895
abbrev Od.POOL_POOL_CNT_STATUS : Nat := 2170896
abbrev Od.TASK_NUM_SUBS : Nat := 2171136
abbrev Od.TASK_TASK_SEL : Nat := 2171137
abbrev Od.TASK_TASK_NAME (b : Nat) : Nat := 2171138 + 16777216 * (b + 1)
abbrev Od.TASK_TASK_CLASS (b : Nat) : Nat := 2171139 + 16777216 * (b + 1)
abbrev Od.TASK_TASK_DRIVE (b : Nat) : Nat := 2171140 + 16777216 * (b + 1)
abbrev Od.TASK_PERIOD_us (b : Nat) : Nat := 2171141 + 16777216 * (b + 1)
abbrev Od.TASK_PERIOD_MIN_us (b : Nat) : Nat := 2171142 + 16777216 * (b + 1)
abbrev Od.TASK_PERIOD_MAX_us (b : Nat) : Nat := 2171143 + 16777216 * (b + 1)
abbrev Od.TASK_PERIOD_ACT_us (b : Nat) : Nat := 2171144 + 16777216 * (b + 1)
abbrev Od.TASK_BUDGET_ns (b : Nat) : Nat := 2171145 + 16777216 * (b + 1)
abbrev Od.TASK_HOME (b : Nat) : Nat := 2171146 + 16777216 * (b + 1)
abbrev Od.TASK_ALTERNATE (b : Nat) : Nat := 2171147 + 16777216 * (b + 1)
abbrev Od.TASK_ENGINE_NOW (b : Nat) : Nat := 2171148 + 16777216 * (b + 1)
abbrev Od.TASK_BOUND_us (b : Nat) : Nat := 2171149 + 16777216 * (b + 1)
abbrev Od.TASK_START_LAT_MAX_us (b : Nat) : Nat := 2171150 + 16777216 * (b + 1)
abbrev Od.TASK_EXEC_MAX_ns (b : Nat) : Nat := 2171151 + 16777216 * (b + 1)
abbrev Od.TASK_RELEASES (b : Nat) : Nat := 2171152 + 16777216 * (b + 1)
abbrev Od.TASK_SKIPS (b : Nat) : Nat := 2171153 + 16777216 * (b + 1)
abbrev Od.TASK_OVERRUNS (b : Nat) : Nat := 2171154 + 16777216 * (b + 1)
abbrev Od.TASK_MISSES (b : Nat) : Nat := 2171155 + 16777216 * (b + 1)
abbrev Od.TASK_TUNABLE (b : Nat) : Nat := 2171156 + 16777216 * (b + 1)
abbrev Od.TASK_TASK_CNT_STATUS (b : Nat) : Nat := 2171157 + 16777216 * (b + 1)
abbrev Od.GBX_NUM_SUBS : Nat := 2621952
abbrev Od.GBX_DRIVE_STATE : Nat := 2621953
abbrev Od.GBX_DRIVE_STATUS : Nat := 2621954
abbrev Od.GBX_CONTROL : Nat := 2621955
abbrev Od.GBX_GEAR_STATE_A : Nat := 2621956
abbrev Od.GBX_GEAR_STATE_B : Nat := 2621957
abbrev Od.GBX_PARK_STATE_A : Nat := 2621958
abbrev Od.GBX_PARK_STATE_B : Nat := 2621959
abbrev Od.GBX_RECOVERY_TIME_ms : Nat := 2621960
abbrev Od.GBX_RECOVERY_PATH : Nat := 2621961
abbrev Od.GBX_ARM_HOLD_ms : Nat := 2621962
abbrev Od.GBX_LAST_EVENT : Nat := 2621963
abbrev Od.GBX_RECOVERIES : Nat := 2621964
abbrev Od.AXLE_NUM_SUBS : Nat := 2625536
abbrev Od.AXLE_AXLE_STATUS : Nat := 2625537
abbrev Od.AXLE_AXLE_MODE : Nat := 2625538
abbrev Od.AXLE_AXLE_CTRL : Nat := 2625539
abbrev Od.AXLE_AXLE_TQ_SET : Nat := 2625540
abbrev Od.AXLE_YAW_TQ_SET : Nat := 2625541
abbrev Od.AXLE_AXLE_DIRECTION : Nat := 2625542
abbrev Od.AXLE_SLIP_GAIN : Nat := 2625543
abbrev Od.AXLE_LOCK_TQ_MAX : Nat := 2625544
abbrev Od.AXLE_NEUTRAL_TQ_MAX : Nat := 2625545
abbrev Od.AXLE_WHEEL_TQ_A : Nat := 2625546
abbrev Od.AXLE_WHEEL_TQ_B : Nat := 2625547
abbrev Od.AXLE_WHEEL_SPEED_A : Nat := 2625548
abbrev Od.AXLE_WHEEL_SPEED_B : Nat := 2625549
abbrev Od.AXLE_SHORTFALL : Nat := 2625550
abbrev Od.AXLE_LIMIT_AXLE_A : Nat := 2625551
abbrev Od.AXLE_LIMIT_AXLE_B : Nat := 2625552
abbrev Od.AXLE_TRANSFERS : Nat := 2625553
abbrev Od.AXLE_CROSSFEEDS : Nat := 2625554
abbrev Od.AXLE_MODE_CHANGES : Nat := 2625555
abbrev Od.AXLE_AXLE_CNT_STATUS : Nat := 2625556
abbrev Od.SOL_NUM_SUBS (n : Nat) : Nat := 2629632 + 256 * n
abbrev Od.SOL_SOL_STATUS (n : Nat) : Nat := 2629633 + 256 * n
abbrev Od.SOL_FUNCTION (n : Nat) : Nat := 2629634 + 256 * n
abbrev Od.SOL_I_SET (n : Nat) : Nat := 2629635 + 256 * n
abbrev Od.SOL_I_ACT (n : Nat) : Nat := 2629636 + 256 * n
abbrev Od.SOL_DUTY (n : Nat) : Nat := 2629637 + 256 * n
abbrev Od.SOL_PWM_Hz (n : Nat) : Nat := 2629638 + 256 * n
abbrev Od.SOL_DITHER_Hz (n : Nat) : Nat := 2629639 + 256 * n
abbrev Od.SOL_DITHER_A (n : Nat) : Nat := 2629640 + 256 * n
abbrev Od.SOL_OPEN_LOAD_ms (n : Nat) : Nat := 2629641 + 256 * n
abbrev Od.SOL_DEV_LIM (n : Nat) : Nat := 2629642 + 256 * n
abbrev Od.SOL_ON_TIME_s (n : Nat) : Nat := 2629643 + 256 * n
abbrev Od.SOL_ENERGISATIONS (n : Nat) : Nat := 2629644 + 256 * n
abbrev Od.SOL_SOL_FAULTS (n : Nat) : Nat := 2629645 + 256 * n
abbrev Od.SOL_SOL_CNT_STATUS (n : Nat) : Nat := 2629646 + 256 * n
abbrev Od.SHF_NUM_SUBS : Nat := 2633728
abbrev Od.SHF_SHIFT_SLEW : Nat := 2633729
abbrev Od.SHF_ZERO_TQ_TOL : Nat := 2633730
abbrev Od.SHF_SYNC_TOL : Nat := 2633731
abbrev Od.SHF_ENGAGE_TQ_MAX : Nat := 2633732
abbrev Od.SHF_SYNC_SPEED_MAX : Nat := 2633733
abbrev Od.SHF_REF_TQ : Nat := 2633734
abbrev Od.SHF_CONFIRM_TOL : Nat := 2633735
abbrev Od.SHF_LAST_REFUSAL : Nat := 2633736
abbrev Od.SHF_SHIFT_CNT_STATUS : Nat := 2633737
abbrev Od.SHF_SHIFT_CMD (side : Nat) : Nat := 2633744 + 16 * side
abbrev Od.SHF_GEAR_STATE (side : Nat) : Nat := 2633745 + 16 * side
abbrev Od.SHF_SHIFT_STEP (side : Nat) : Nat := 2633746 + 16 * side
abbrev Od.SHF_RATIO_1 (side : Nat) : Nat := 2633747 + 16 * side
abbrev Od.SHF_RATIO_2 (side : Nat) : Nat := 2633748 + 16 * side
abbrev Od.SHF_POS_N (side : Nat) : Nat := 2633749 + 16 * side
abbrev Od.SHF_POS_G1 (side : Nat) : Nat := 2633750 + 16 * side
abbrev Od.SHF_POS_G2 (side : Nat) : Nat := 2633751 + 16 * side
abbrev Od.SHF_NEUTRAL_WIN (side : Nat) : Nat := 2633752 + 16 * side
abbrev Od.SHF_GEAR_WIN (side : Nat) : Nat := 2633753 + 16 * side
abbrev Od.SHF_OUT_SPEED_SRC (side : Nat) : Nat := 2633754 + 16 * side
abbrev Od.SHF_OUT_SPEED (side : Nat) : Nat := 2633755 + 16 * side
abbrev Od.SHF_SHIFT_TIME_ms (side : Nat) : Nat := 2633756 + 16 * side
abbrev Od.SHF_SHIFTS (side : Nat) : Nat := 2633757 + 16 * side
abbrev Od.SHF_SHIFT_FAILS (side : Nat) : Nat := 2633758 + 16 * side
abbrev Od.SHF_FORK_RECORD (side : Nat) : Nat := 2633759 + 16 * side
abbrev Od.PRK_NUM_SUBS : Nat := 2635776
abbrev Od.PRK_PARK_SPEED_MAX : Nat := 2635777
abbrev Od.PRK_PARK_TQ_MAX : Nat := 2635778
abbrev Od.PRK_RELEASE_TIME_ms : Nat := 2635779
abbrev Od.PRK_TOW_RELEASE : Nat := 2635780
abbrev Od.PRK_PARK_CMD (side : Nat) : Nat := 2635792 + 16 * side
abbrev Od.PRK_PARK_STATE (side : Nat) : Nat := 2635793 + 16 * side
abbrev Od.PRK_RELEASE_SOL (side : Nat) : Nat := 2635794 + 16 * side
abbrev Od.PRK_HOLD_I (side : Nat) : Nat := 2635795 + 16 * side
abbrev Od.PRK_POS_ENGAGED (side : Nat) : Nat := 2635796 + 16 * side
abbrev Od.PRK_POS_RELEASED (side : Nat) : Nat := 2635797 + 16 * side
abbrev Od.PRK_PARK_WIN (side : Nat) : Nat := 2635798 + 16 * side
abbrev Od.PRK_ENGAGE_TQ (side : Nat) : Nat := 2635799 + 16 * side
abbrev Od.PRK_PARK_OPS (side : Nat) : Nat := 2635800 + 16 * side
abbrev Od.PRK_PARK_FAILS (side : Nat) : Nat := 2635801 + 16 * side
abbrev Od.PRK_UNCOMMANDED (side : Nat) : Nat := 2635802 + 16 * side
abbrev Od.PRK_PARK_CNT_STATUS (side : Nat) : Nat := 2635803 + 16 * side
abbrev Od.DCL_NUM_SUBS : Nat := 2686976
abbrev Od.DCL_DCL_STATUS : Nat := 2686977
abbrev Od.DCL_V_DC : Nat := 2686978
abbrev Od.DCL_V_DC_GC : Nat := 2686979
abbrev Od.DCL_DV_DT : Nat := 2686980
abbrev Od.DCL_CHOP_START : Nat := 2686981
abbrev Od.DCL_CHOP_FULL : Nat := 2686982
abbrev Od.DCL_REGEN_ZERO : Nat := 2686983
abbrev Od.DCL_FW_TRIP : Nat := 2686984
abbrev Od.DCL_HW_TRIP : Nat := 2686985
abbrev Od.DCL_UV_DERATE : Nat := 2686986
abbrev Od.DCL_UV_TRIP : Nat := 2686987
abbrev Od.DCL_GEN_FACTOR : Nat := 2686988
abbrev Od.DCL_MOT_FACTOR : Nat := 2686989
abbrev Od.DCL_CHOP_Hz : Nat := 2686990
abbrev Od.DCL_RES_OHM_0 : Nat := 2686991
abbrev Od.DCL_RES_OHM_1 : Nat := 2686992
abbrev Od.DCL_RES_MEAS_0 : Nat := 2686993
abbrev Od.DCL_RES_MEAS_1 : Nat := 2686994
abbrev Od.DCL_RES_E_MAX : Nat := 2686995
abbrev Od.DCL_RES_TAU_s : Nat := 2686996
abbrev Od.DCL_RES_E_0 : Nat := 2686997
abbrev Od.DCL_RES_E_1 : Nat := 2686998
abbrev Od.DCL_CHOP_DUTY : Nat := 2686999
abbrev Od.DCL_SHORT_I_THR : Nat := 2687000
abbrev Od.DCL_DISCHARGE_CMD : Nat := 2687001
abbrev Od.DCL_DISCH_STATE : Nat := 2687002
abbrev Od.DCL_DISCH_TIME_ms : Nat := 2687003
abbrev Od.DCL_CHOP_ENERGY_J : Nat := 2687004
abbrev Od.DCL_FW_TRIPS : Nat := 2687005
abbrev Od.DCL_HW_TRIPS : Nat := 2687006
abbrev Od.DCL_CHOP_FAULTS : Nat := 2687007
abbrev Od.DCL_DISCHARGES : Nat := 2687008
abbrev Od.DCL_V_DC_MAX : Nat := 2687009
abbrev Od.DCL_DCL_CNT_STATUS : Nat := 2687010
abbrev Od.BRK_NUM_SUBS : Nat := 2622720
abbrev Od.BRK_DRIVE_STATE : Nat := 2622721
abbrev Od.BRK_DRIVE_STATUS : Nat := 2622722
abbrev Od.BRK_CONTROL : Nat := 2622723
abbrev Od.BRK_AUTO_RUN : Nat := 2622724
abbrev Od.BRK_LAST_EVENT : Nat := 2622725
abbrev Od.AUX_NUM_SUBS : Nat := 2622208
abbrev Od.AUX_DRIVE_STATE : Nat := 2622209
abbrev Od.AUX_DRIVE_STATUS : Nat := 2622210
abbrev Od.AUX_CONTROL : Nat := 2622211
abbrev Od.AUX_AUTO_RUN : Nat := 2622212
abbrev Od.AUX_LAST_EVENT : Nat := 2622213
abbrev Od.CNV_NUM_SUBS : Nat := 2752512
abbrev Od.CNV_AUX_STATUS : Nat := 2752513
abbrev Od.CNV_AUX_MODE : Nat := 2752514
abbrev Od.CNV_V_IB : Nat := 2752515
abbrev Od.CNV_V_VR : Nat := 2752516
abbrev Od.CNV_V_AUX48 : Nat := 2752517
abbrev Od.CNV_I_VR : Nat := 2752518
abbrev Od.CNV_P_IB : Nat := 2752519
abbrev Od.CNV_IB_SET : Nat := 2752520
abbrev Od.CNV_IB_SOFTSTART_ms : Nat := 2752521
abbrev Od.CNV_VR_SRC : Nat := 2752522
abbrev Od.CNV_VR_CMD : Nat := 2752523
abbrev Od.CNV_VR_SET (i : Nat) : Nat := 2752524 + i
abbrev Od.CNV_VSEL_CODE : Nat := 2752528
abbrev Od.CNV_VR_TARGET : Nat := 2752529
abbrev Od.CNV_VR_REF : Nat := 2752530
abbrev Od.CNV_VR_SLEW : Nat := 2752531
abbrev Od.CNV_SOFTSTART_ms : Nat := 2752532
abbrev Od.CNV_FSW_AUX : Nat := 2752533
abbrev Od.CNV_SYNC_SLEW : Nat := 2752534
abbrev Od.CNV_F_BUCK : Nat := 2752535
abbrev Od.CNV_F_SYNC_IN : Nat := 2752536
abbrev Od.CNV_DAB_Hz : Nat := 2752537
abbrev Od.CNV_DAB_IPK : Nat := 2752538
abbrev Od.CNV_DAB_PHASE : Nat := 2752539
abbrev Od.CNV_DAB_STOP_V : Nat := 2752540
abbrev Od.CNV_TOW_EN : Nat := 2752541
abbrev Od.CNV_TOW_IB_SET : Nat := 2752542
abbrev Od.CNV_TOW_VBAT_MIN : Nat := 2752543
abbrev Od.CNV_AUX48_EN : Nat := 2752544
abbrev Od.CNV_AUX48_I_MAX : Nat := 2752545
abbrev Od.CNV_I_AUX48 : Nat := 2752546
abbrev Od.CNV_L_PH : Nat := 2752547
abbrev Od.CNV_PH_I_MAX : Nat := 2752548
abbrev Od.CNV_E_VR_J : Nat := 2752549
abbrev Od.CNV_TOW_TIME_s : Nat := 2752550
abbrev Od.CNV_VSEL_CHANGES : Nat := 2752551
abbrev Od.CNV_RELEASES : Nat := 2752552
abbrev Od.CNV_SYNC_LOSSES : Nat := 2752553
abbrev Od.CNV_TOW_ENTRIES : Nat := 2752554
abbrev Od.CNV_AUX_CNT_STATUS : Nat := 2752555
abbrev Od.CHG_NUM_SUBS : Nat := 2622464
abbrev Od.CHG_DRIVE_STATE : Nat := 2622465
abbrev Od.CHG_DRIVE_STATUS : Nat := 2622466
abbrev Od.CHG_CONTROL : Nat := 2622467
abbrev Od.CHG_CHG_MODE : Nat := 2622468
abbrev Od.CHG_AUTO_CHARGE : Nat := 2622469
abbrev Od.CHG_SESSION_STEP : Nat := 2622470
abbrev Od.CHG_LAST_EVENT : Nat := 2622471
abbrev Od.CHR_NUM_SUBS : Nat := 2818048
abbrev Od.CHR_CHG_STATUS : Nat := 2818049
abbrev Od.CHR_PILOT_STATE : Nat := 2818050
abbrev Od.CHR_PILOT_DUTY : Nat := 2818051
abbrev Od.CHR_PILOT_I : Nat := 2818052
abbrev Od.CHR_PROX_OHM : Nat := 2818053
abbrev Od.CHR_PROX_I : Nat := 2818054
abbrev Od.CHR_AC_I_MAX : Nat := 2818055
abbrev Od.CHR_AC_I_LIM_ACT : Nat := 2818056
abbrev Od.CHR_AC_PHASES : Nat := 2818057
abbrev Od.CHR_V (i : Nat) : Nat := 2818058 + i
abbrev Od.CHR_F_LINE : Nat := 2818061
abbrev Od.CHR_I_AC : Nat := 2818062
abbrev Od.CHR_V_PFC : Nat := 2818063
abbrev Od.CHR_PFC_BUS_SET : Nat := 2818064
abbrev Od.CHR_P_AC : Nat := 2818065
abbrev Od.CHR_P_DC : Nat := 2818066
abbrev Od.CHR_PACK_I : Nat := 2818067
abbrev Od.CHR_DVDT_THR : Nat := 2818068
abbrev Od.CHR_AC_WAIT_ms : Nat := 2818069
abbrev Od.CHR_RELAY_OPS_MAIN : Nat := 2818070
abbrev Od.CHR_RELAY_OPS_PRE : Nat := 2818071
abbrev Od.CHR_E_IMPORT_J : Nat := 2818072
abbrev Od.CHR_E_EXPORT_J : Nat := 2818073
abbrev Od.CHR_CHG_CNT_STATUS : Nat := 2818074
abbrev Od.HV_NUM_SUBS : Nat := 2826240
abbrev Od.HV_HV_STATE : Nat := 2826241
abbrev Od.HV_HV_CV_V : Nat := 2826242
abbrev Od.HV_HV_CC_A : Nat := 2826243
abbrev Od.HV_HV_TAPER_A : Nat := 2826244
abbrev Od.HV_HV_RECHARGE_DV : Nat := 2826245
abbrev Od.HV_HV_TOPOFF_EN : Nat := 2826246
abbrev Od.HV_HV_TOPOFF_min : Nat := 2826247
abbrev Od.HV_HV_TIMER_LIMIT_min : Nat := 2826248
abbrev Od.HV_HV_TIMER_min : Nat := 2826249
abbrev Od.HV_HV_I_LIM_ACT : Nat := 2826250
abbrev Od.HV_HV_CV_ACT : Nat := 2826251
abbrev Od.HV_BMS_CV_V : Nat := 2826252
abbrev Od.HV_BMS_I_CHG : Nat := 2826253
abbrev Od.HV_BMS_I_DIS : Nat := 2826254
abbrev Od.HV_BMS_V_PACK : Nat := 2826255
abbrev Od.HV_BMS_FLAGS : Nat := 2826256
abbrev Od.HV_BMS_RX_ID : Nat := 2826257
abbrev Od.HV_MOD_TX_ID : Nat := 2826258
abbrev Od.HV_BMS_TIMEOUT_ms : Nat := 2826259
abbrev Od.HV_HV_CHARGE_mAs : Nat := 2826260
abbrev Od.HV_HV_DISCHARGE_mAs : Nat := 2826261
abbrev Od.HV_PACK_LOSTS : Nat := 2826262
abbrev Od.HV_BMS_TIMEOUTS : Nat := 2826263
abbrev Od.HV_HV_CNT_STATUS : Nat := 2826264
abbrev Od.LV_NUM_SUBS : Nat := 2834432
abbrev Od.LV_LV_STATUS : Nat := 2834433
abbrev Od.LV_LV_STATE : Nat := 2834434
abbrev Od.LV_LV_CHG_EN : Nat := 2834435
abbrev Od.LV_LV_CHEM : Nat := 2834436
abbrev Od.LV_LV_CV_V : Nat := 2834437
abbrev Od.LV_LV_CC_A : Nat := 2834438
abbrev Od.LV_LV_TRICKLE_V : Nat := 2834439
abbrev Od.LV_LV_TRICKLE_A : Nat := 2834440
abbrev Od.LV_LV_PRECHARGE_V : Nat := 2834441
abbrev Od.LV_LV_PRECHARGE_A : Nat := 2834442
abbrev Od.LV_LV_TAPER_A : Nat := 2834443
abbrev Od.LV_LV_RECHARGE_V : Nat := 2834444
abbrev Od.LV_LV_TOPOFF_EN : Nat := 2834445
abbrev Od.LV_LV_TOPOFF_min : Nat := 2834446
abbrev Od.LV_LV_TIMER_LIMIT_min : Nat := 2834447
abbrev Od.LV_LV_TIMER_min : Nat := 2834448
abbrev Od.LV_VR_MIN_SYS : Nat := 2834449
abbrev Od.LV_V_BAT : Nat := 2834450
abbrev Od.LV_I_BAT : Nat := 2834451
abbrev Od.LV_LV_I_LIM_ACT : Nat := 2834452
abbrev Od.LV_BAT_SW_MODE : Nat := 2834453
abbrev Od.LV_VR_SOURCE : Nat := 2834454
abbrev Od.LV_LV_ACK : Nat := 2834455
abbrev Od.LV_SVC_LAST_ms : Nat := 2834456
abbrev Od.LV_PEAT_CMD : Nat := 2834457
abbrev Od.LV_ATTN_MASK : Nat := 2834458
abbrev Od.LV_ATTN_MIN_SEV : Nat := 2834459
abbrev Od.LV_ATTN_CLEAR : Nat := 2834460
abbrev Od.LV_ATTN_CODE : Nat := 2834461
abbrev Od.LV_LV_CHARGE_mAs : Nat := 2834462
abbrev Od.LV_LV_DISCHARGE_mAs : Nat := 2834463
abbrev Od.LV_HANDOVERS : Nat := 2834464
abbrev Od.LV_SVC_PRESSES : Nat := 2834465
abbrev Od.LV_LV_CNT_STATUS : Nat := 2834466
abbrev Od.EXP_NUM_SUBS : Nat := 2842624
abbrev Od.EXP_EXP_STATUS : Nat := 2842625
abbrev Od.EXP_EXPORT_EN : Nat := 2842626
abbrev Od.EXP_EXP_MODE : Nat := 2842627
abbrev Od.EXP_EXP_V_SET : Nat := 2842628
abbrev Od.EXP_EXP_F : Nat := 2842629
abbrev Od.EXP_EXP_S_MAX : Nat := 2842630
abbrev Od.EXP_EXP_RAMP_ms : Nat := 2842631
abbrev Od.EXP_EXP_V (i : Nat) : Nat := 2842632 + i
abbrev Od.EXP_EXP_I (i : Nat) : Nat := 2842635 + i
abbrev Od.EXP_EXP_I_N : Nat := 2842638
abbrev Od.EXP_EXP_P : Nat := 2842639
abbrev Od.EXP_EXP_S : Nat := 2842640
abbrev Od.EXP_EXP_TRIPS : Nat := 2842641
abbrev Od.EXP_EXP_CNT_STATUS : Nat := 2842642
abbrev Od.THM_NUM_SUBS : Nat := 2883584
abbrev Od.THM_TH_STATUS : Nat := 2883585
abbrev Od.THM_ROUNDS : Nat := 2883586
abbrev Od.THM_ROUND_TIME_us : Nat := 2883587
abbrev Od.THM_DERATE (i : Nat) : Nat := 2883588 + i
abbrev Od.THM_T_COOL_IN : Nat := 2883594
abbrev Od.THM_T_COOL_OUT : Nat := 2883595
abbrev Od.THM_COOL_DT_MAX : Nat := 2883596
abbrev Od.THM_FLASH_BAND : Nat := 2883597
abbrev Od.THM_FLASH_PULSE_us : Nat := 2883598
abbrev Od.THM_T_DIE_MAX : Nat := 2883599
abbrev Od.THM_BROKEN_NOW : Nat := 2883600
abbrev Od.THM_TH_SHUTDOWNS : Nat := 2883601
abbrev Od.THM_ROUND_OVERRUNS : Nat := 2883602
abbrev Od.THM_TH_CNT_STATUS : Nat := 2883603
abbrev Od.SEN_NUM_SUBS : Nat := 2887680
abbrev Od.SEN_SENSOR_SEL : Nat := 2887681
abbrev Od.SEN_SENSOR_NAME (b : Nat) : Nat := 2887682 + 16777216 * (b + 1)
abbrev Od.SEN_SENSOR_CLASS (b : Nat) : Nat := 2887683 + 16777216 * (b + 1)
abbrev Od.SEN_SOURCE (b : Nat) : Nat := 2887684 + 16777216 * (b + 1)
abbrev Od.SEN_DRIVES (b : Nat) : Nat := 2887685 + 16777216 * (b + 1)
abbrev Od.SEN_SENSOR_TYPE (b : Nat) : Nat := 2887686 + 16777216 * (b + 1)
abbrev Od.SEN_TEMP (b : Nat) : Nat := 2887687 + 16777216 * (b + 1)
abbrev Od.SEN_RAW (b : Nat) : Nat := 2887688 + 16777216 * (b + 1)
abbrev Od.SEN_SENSOR_STATUS (b : Nat) : Nat := 2887689 + 16777216 * (b + 1)
abbrev Od.SEN_WARN_T (b : Nat) : Nat := 2887690 + 16777216 * (b + 1)
abbrev Od.SEN_THROTTLE_T (b : Nat) : Nat := 2887691 + 16777216 * (b + 1)
abbrev Od.SEN_SHUTDOWN_T (b : Nat) : Nat := 2887692 + 16777216 * (b + 1)
abbrev Od.SEN_HYST_K (b : Nat) : Nat := 2887693 + 16777216 * (b + 1)
abbrev Od.SEN_K_FACTOR (b : Nat) : Nat := 2887694 + 16777216 * (b + 1)
abbrev Od.SEN_T_MAX (b : Nat) : Nat := 2887695 + 16777216 * (b + 1)
abbrev Od.SEN_ABOVE_WARN_s (b : Nat) : Nat := 2887696 + 16777216 * (b + 1)
abbrev Od.SEN_SHUTDOWNS (b : Nat) : Nat := 2887697 + 16777216 * (b + 1)
abbrev Od.SEN_BROKEN_EVENTS (b : Nat) : Nat := 2887698 + 16777216 * (b + 1)
abbrev Od.PYR_NUM_SUBS : Nat := 4259840
abbrev Od.PYR_PYR_STATUS : Nat := 4259841
abbrev Od.PYR_CONFIG_ACT : Nat := 4259842
abbrev Od.PYR_CONFIG_REQ : Nat := 4259843
abbrev Od.PYR_CONFIG_BOOT : Nat := 4259844
abbrev Od.PYR_CYCLE_us : Nat := 4259845
abbrev Od.PYR_CYCLE_LOAD : Nat := 4259846
abbrev Od.PYR_TQO_STATE : Nat := 4259847
abbrev Od.PYR_TQO_READBACK : Nat := 4259848
abbrev Od.PYR_LAST_ODD_CORE : Nat := 4259849
abbrev Od.PYR_RESYNC_STATE : Nat := 4259850
abbrev Od.PYR_RESYNC_WINDOW_ms : Nat := 4259851
abbrev Od.PYR_RESYNCS (i : Nat) : Nat := 4259852 + i
abbrev Od.PYR_MISMATCHES : Nat := 4259855
abbrev Od.PYR_HANDOVERS : Nat := 4259856
abbrev Od.PYR_CYCLES : Nat := 4259857
abbrev Od.PYR_EXCH_AGE_us : Nat := 4259858
abbrev Od.PYR_EXCH_MISSES : Nat := 4259859
abbrev Od.PYR_STARTUP_RESULT : Nat := 4259860
abbrev Od.PYR_P2_BLOCKED : Nat := 4259861
abbrev Od.PYR_TQO_ASSERTIONS (i : Nat) : Nat := 4259862 + i
abbrev Od.PYR_PYR_CNT_STATUS : Nat := 4259868
abbrev Od.PYR_LANE_FW_CRC : Nat := 4259869
abbrev Od.SET_NUM_SUBS : Nat := 4194304
abbrev Od.SET_SET_STATE : Nat := 4194305
abbrev Od.SET_SET_EDIT : Nat := 4194306
abbrev Od.SET_SET_ID : Nat := 4194307
abbrev Od.SET_SET_CRC : Nat := 4194308
abbrev Od.SET_SET_COMMIT : Nat := 4194309
abbrev Od.SET_SET_CRC_ACT : Nat := 4194310
abbrev Od.SET_SET_REJECT : Nat := 4194311
abbrev Od.SET_SET_COMMITS : Nat := 4194312
abbrev Od.SET_SET_COMMIT_TB : Nat := 4194313
abbrev Od.PAIR_NUM_SUBS (n : Nat) : Nat := 4198400 + 256 * n
abbrev Od.PAIR_PAIR_MODE (n : Nat) : Nat := 4198401 + 256 * n
abbrev Od.PAIR_PAIR_FUNC (n : Nat) : Nat := 4198402 + 256 * n
abbrev Od.PAIR_PAIR_DRIVES (n : Nat) : Nat := 4198403 + 256 * n
abbrev Od.PAIR_PAIR_SLS_SEL (n : Nat) : Nat := 4198404 + 256 * n
abbrev Od.PAIR_FILTER_ms (n : Nat) : Nat := 4198405 + 256 * n
abbrev Od.PAIR_DISC_ms (n : Nat) : Nat := 4198406 + 256 * n
abbrev Od.PAIR_TEST_PULSE (n : Nat) : Nat := 4198407 + 256 * n
abbrev Od.PAIR_PAIR_STATE (n : Nat) : Nat := 4198408 + 256 * n
abbrev Od.PAIR_PAIR_FAULTS (n : Nat) : Nat := 4198409 + 256 * n
abbrev Od.SO_NUM_SUBS (n : Nat) : Nat := 4202496 + 256 * n
abbrev Od.SO_SO_FUNC (n : Nat) : Nat := 4202497 + 256 * n
abbrev Od.SO_SO_DRIVES (n : Nat) : Nat := 4202498 + 256 * n
abbrev Od.SO_SORREL_EN (n : Nat) : Nat := 4202499 + 256 * n
abbrev Od.SO_SO_STATE (n : Nat) : Nat := 4202500 + 256 * n
abbrev Od.SO_SO_V (n : Nat) : Nat := 4202501 + 256 * n
abbrev Od.SO_SO_FAULTS (n : Nat) : Nat := 4202502 + 256 * n
abbrev Od.SF_NUM_SUBS (n : Nat) : Nat := 4206592 + 256 * n
abbrev Od.SF_SS1_MODE (n : Nat) : Nat := 4206593 + 256 * n
abbrev Od.SF_SS1_TIME_ms (n : Nat) : Nat := 4206594 + 256 * n
abbrev Od.SF_SS1_BRAKE_TQ (n : Nat) : Nat := 4206595 + 256 * n
abbrev Od.SF_SS1_DECEL (n : Nat) : Nat := 4206596 + 256 * n
abbrev Od.SF_SS1_TOL (n : Nat) : Nat := 4206597 + 256 * n
abbrev Od.SF_SS1_DELAY_ms (n : Nat) : Nat := 4206598 + 256 * n
abbrev Od.SF_STOP_SPEED (n : Nat) : Nat := 4206599 + 256 * n
abbrev Od.SF_SLS_LIMIT (n : Nat) (i : Nat) : Nat := 4206600 + 256 * n + i
abbrev Od.SF_SLS_RAMP_ms (n : Nat) : Nat := 4206604 + 256 * n
abbrev Od.SF_SLS_MARGIN (n : Nat) : Nat := 4206605 + 256 * n
abbrev Od.SF_SLS_REACTION (n : Nat) : Nat := 4206606 + 256 * n
abbrev Od.SF_SLT_LIMIT (n : Nat) : Nat := 4206607 + 256 * n
abbrev Od.SF_SLT_TIME_ms (n : Nat) : Nat := 4206608 + 256 * n
abbrev Od.SF_SPEED_TOL_rpm (n : Nat) : Nat := 4206609 + 256 * n
abbrev Od.SF_SPEED_TOL_PCT (n : Nat) : Nat := 4206610 + 256 * n
abbrev Od.SF_E2_GAP_ms (n : Nat) : Nat := 4206611 + 256 * n
abbrev Od.SF_ZC_I_MIN (n : Nat) : Nat := 4206612 + 256 * n
abbrev Od.SP_NUM_SUBS : Nat := 4214784
abbrev Od.SP_SP_SPEED_MAX : Nat := 4214785
abbrev Od.SP_SP_CONFIRM_ms : Nat := 4214786
abbrev Od.SFS_NUM_SUBS : Nat := 4227072
abbrev Od.SFS_SF_STATE (i : Nat) : Nat := 4227073 + i
abbrev Od.SFS_SAFE_SPEED (i : Nat) : Nat := 4227079 + i
abbrev Od.SFS_E2_SPEED (i : Nat) : Nat := 4227081 + i
abbrev Od.SFS_SAFE_TQ (i : Nat) : Nat := 4227083 + i
abbrev Od.SFS_SI_LEVELS : Nat := 4227085
abbrev Od.SFS_DEMANDS : Nat := 4227086
abbrev Od.SFS_SAFE_RELEASE : Nat := 4227087
abbrev Od.SFS_RELEASES : Nat := 4227088
abbrev Od.SFS_REFUSALS : Nat := 4227089
abbrev Od.SFS_SF_CNT_STATUS : Nat := 4227090
abbrev Od.HSF_NUM_SUBS (n : Nat) : Nat := 4218880 + 256 * n
abbrev Od.HSF_CONN_ROLE (n : Nat) : Nat := 4218881 + 256 * n
abbrev Od.HSF_CONN_MEDIUM (n : Nat) : Nat := 4218882 + 256 * n
abbrev Od.HSF_CONN_CHANNEL (n : Nat) : Nat := 4218883 + 256 * n
abbrev Od.HSF_CONN_ID (n : Nat) : Nat := 4218884 + 256 * n
abbrev Od.HSF_ECHO_ID (n : Nat) : Nat := 4218885 + 256 * n
abbrev Od.HSF_PEER_IP (n : Nat) : Nat := 4218886 + 256 * n
abbrev Od.HSF_OWN_ADDR (n : Nat) : Nat := 4218887 + 256 * n
abbrev Od.HSF_PEER_ADDR (n : Nat) : Nat := 4218888 + 256 * n
abbrev Od.HSF_PAYLOAD_KIND (n : Nat) : Nat := 4218889 + 256 * n
abbrev Od.HSF_FRAME_BYTES (n : Nat) : Nat := 4218890 + 256 * n
abbrev Od.HSF_TIME_MODE (n : Nat) : Nat := 4218891 + 256 * n
abbrev Od.HSF_PERIOD_us (n : Nat) : Nat := 4218892 + 256 * n
abbrev Od.HSF_WDG_ms (n : Nat) : Nat := 4218893 + 256 * n
abbrev Od.HSF_AGE_MAX_us (n : Nat) : Nat := 4218894 + 256 * n
abbrev Od.HSF_SYNC_TOL_us (n : Nat) : Nat := 4218895 + 256 * n
abbrev Od.HSF_RT_MAX_us (n : Nat) : Nat := 4218896 + 256 * n
abbrev Od.HSF_SEQ_WIN (n : Nat) : Nat := 4218897 + 256 * n
abbrev Od.HSF_CRC_ERR_MAX (n : Nat) : Nat := 4218898 + 256 * n
abbrev Od.HSF_CONN_DRIVES (n : Nat) : Nat := 4218899 + 256 * n
abbrev Od.HSF_CONN_FAILSAFE (n : Nat) : Nat := 4218900 + 256 * n
abbrev Od.HSF_CONN_STATE (n : Nat) : Nat := 4218901 + 256 * n
abbrev Od.HSF_LAST_SEQ (n : Nat) : Nat := 4218902 + 256 * n
abbrev Od.HSF_LAST_AGE_us (n : Nat) : Nat := 4218903 + 256 * n
abbrev Od.HSF_FRAMES_OK (n : Nat) : Nat := 4218904 + 256 * n
abbrev Od.HSF_CRC_ERRORS (n : Nat) : Nat := 4218905 + 256 * n
abbrev Od.HSF_FORMAT_ERRORS (n : Nat) : Nat := 4218906 + 256 * n
abbrev Od.HSF_REPEATS (n : Nat) : Nat := 4218907 + 256 * n
abbrev Od.HSF_LOST (n : Nat) : Nat := 4218908 + 256 * n
abbrev Od.HSF_TIME_ERRORS (n : Nat) : Nat := 4218909 + 256 * n
abbrev Od.HSF_CONN_FAULTS (n : Nat) : Nat := 4218910 + 256 * n
abbrev Od.HSF_SEQ_WRAPS (n : Nat) : Nat := 4218911 + 256 * n
abbrev Od.HSF_CONN_CNT_STATUS (n : Nat) : Nat := 4218912 + 256 * n
abbrev Od.CRC_NUM_SUBS (n : Nat) : Nat := 3014656 + 256 * n
abbrev Od.CRC_CRC_STATUS (n : Nat) : Nat := 3014657 + 256 * n
abbrev Od.CRC_WIDTH (n : Nat) : Nat := 3014658 + 256 * n
abbrev Od.CRC_POLY (n : Nat) : Nat := 3014659 + 256 * n
abbrev Od.CRC_INIT (n : Nat) : Nat := 3014660 + 256 * n
abbrev Od.CRC_XOROUT (n : Nat) : Nat := 3014661 + 256 * n
abbrev Od.CRC_CRC_CTRL (n : Nat) : Nat := 3014662 + 256 * n
abbrev Od.CRC_FOLD_VALUE (n : Nat) : Nat := 3014663 + 256 * n
abbrev Od.CRC_START (n : Nat) : Nat := 3014664 + 256 * n
abbrev Od.CRC_DATA (n : Nat) : Nat := 3014665 + 256 * n
abbrev Od.CRC_RESULT (n : Nat) : Nat := 3014666 + 256 * n
abbrev Od.CRC_BYTES (n : Nat) : Nat := 3014667 + 256 * n
abbrev Od.CAN_NUM_SUBS (n : Nat) : Nat := 3080192 + 256 * n
abbrev Od.CAN_CH_STATUS (n : Nat) : Nat := 3080193 + 256 * n
abbrev Od.CAN_CH_CTRL (n : Nat) : Nat := 3080194 + 256 * n
abbrev Od.CAN_NOM_kbps (n : Nat) : Nat := 3080195 + 256 * n
abbrev Od.CAN_DATA_kbps (n : Nat) : Nat := 3080196 + 256 * n
abbrev Od.CAN_TEC (n : Nat) : Nat := 3080197 + 256 * n
abbrev Od.CAN_REC (n : Nat) : Nat := 3080198 + 256 * n
abbrev Od.CAN_RXQ0_FILL (n : Nat) : Nat := 3080199 + 256 * n
abbrev Od.CAN_RXQ1_FILL (n : Nat) : Nat := 3080200 + 256 * n
abbrev Od.CAN_TXFIFO_FILL (n : Nat) : Nat := 3080201 + 256 * n
abbrev Od.CAN_LAST_RX_TS (n : Nat) : Nat := 3080202 + 256 * n
abbrev Od.CAN_RX_FRAMES (n : Nat) : Nat := 3080203 + 256 * n
abbrev Od.CAN_TX_FRAMES (n : Nat) : Nat := 3080204 + 256 * n
abbrev Od.CAN_ERR_FRAMES (n : Nat) : Nat := 3080205 + 256 * n
abbrev Od.CAN_BUS_OFFS (n : Nat) : Nat := 3080206 + 256 * n
abbrev Od.CAN_RXQ0_DROPS (n : Nat) : Nat := 3080207 + 256 * n
abbrev Od.CAN_RXQ1_DROPS (n : Nat) : Nat := 3080208 + 256 * n
abbrev Od.CAN_UNMATCHED (n : Nat) : Nat := 3080209 + 256 * n
abbrev Od.CAN_STALE_DROPS (n : Nat) : Nat := 3080210 + 256 * n
abbrev Od.CAN_SLOT_REFUSALS (n : Nat) : Nat := 3080211 + 256 * n
abbrev Od.CAN_FILTER_SEL (n : Nat) : Nat := 3080212 + 256 * n
abbrev Od.CAN_FILTER_CTRL (n : Nat) (b : Nat) : Nat := 3080213 + 256 * n + 16777216 * (b + 1)
abbrev Od.CAN_FILTER_MATCH (n : Nat) (b : Nat) : Nat := 3080214 + 256 * n + 16777216 * (b + 1)
abbrev Od.CAN_FILTER_MASK (n : Nat) (b : Nat) : Nat := 3080215 + 256 * n + 16777216 * (b + 1)
abbrev Od.CAN_FILTER_HITS (n : Nat) (b : Nat) : Nat := 3080216 + 256 * n + 16777216 * (b + 1)
abbrev Od.CAN_SLOT_SEL (n : Nat) : Nat := 3080217 + 256 * n
abbrev Od.CAN_SLOT_STATE (n : Nat) (b : Nat) : Nat := 3080218 + 256 * n + 16777216 * (b + 1)
abbrev Od.CAN_SLOT_ID (n : Nat) (b : Nat) : Nat := 3080219 + 256 * n + 16777216 * (b + 1)
abbrev Od.CAN_SLOT_STALE_us (n : Nat) (b : Nat) : Nat := 3080220 + 256 * n + 16777216 * (b + 1)
abbrev Od.CAN_BRIDGE_RX (n : Nat) : Nat := 3080221 + 256 * n
abbrev Od.CAN_BRIDGE_TX (n : Nat) : Nat := 3080222 + 256 * n
abbrev Od.CAN_CAN_CNT_STATUS (n : Nat) : Nat := 3080223 + 256 * n
abbrev Od.CAN_PREF_ADDR (n : Nat) : Nat := 3080224 + 256 * n
abbrev Od.CAN_CLAIMED_ADDR (n : Nat) : Nat := 3080225 + 256 * n
abbrev Od.CAN_NAME (n : Nat) : Nat := 3080226 + 256 * n
abbrev Od.CAN_FUNCTION (n : Nat) : Nat := 3080227 + 256 * n
abbrev Od.CAN_DEV_CLASS (n : Nat) : Nat := 3080228 + 256 * n
abbrev Od.CAN_DEV_CLASS_INST (n : Nat) : Nat := 3080229 + 256 * n
abbrev Od.CAN_ECU_INSTANCE (n : Nat) : Nat := 3080230 + 256 * n
abbrev Od.CAN_A_CMD_TIMEOUT_ms (n : Nat) : Nat := 3080231 + 256 * n
abbrev Od.CAN_STATUS_PERIOD_ms (n : Nat) : Nat := 3080232 + 256 * n
abbrev Od.CAN_STATUS_PGN_BASE (n : Nat) : Nat := 3080233 + 256 * n
abbrev Od.CAN_A_REJECTS (n : Nat) : Nat := 3080234 + 256 * n
abbrev Od.TIME_NUM_SUBS : Nat := 3084288
abbrev Od.TIME_GT_STATUS : Nat := 3084289
abbrev Od.TIME_TIME_RANK : Nat := 3084290
abbrev Od.TIME_TIME_REF_ID : Nat := 3084291
abbrev Od.TIME_GLOBAL_TIME : Nat := 3084292
abbrev Od.TIME_GT_10us : Nat := 3084293
abbrev Od.TIME_MASTER_RANK : Nat := 3084294
abbrev Od.TIME_LAST_CORR_ns : Nat := 3084295
abbrev Od.TIME_GT_DELAY_ns : Nat := 3084296
abbrev Od.TIME_GT_STEP_MAX_us : Nat := 3084297
abbrev Od.TIME_REFS : Nat := 3084298
abbrev Od.TIME_REF_MISSES : Nat := 3084299
abbrev Od.TIME_TAKEOVERS : Nat := 3084300
abbrev Od.TIME_STEP_REJECTS : Nat := 3084301
abbrev Od.TIME_TS_WRAPS : Nat := 3084302
abbrev Od.TIME_TM_CNT_STATUS : Nat := 3084303
abbrev Od.ID_NUM_SUBS : Nat := 2097152
abbrev Od.ID_VENDOR : Nat := 2097153
abbrev Od.ID_FAMILY : Nat := 2097154
abbrev Od.ID_PRODUCT : Nat := 2097155
abbrev Od.ID_HW_ISSUE : Nat := 2097156
abbrev Od.ID_FW_VERSION : Nat := 2097157
abbrev Od.ID_SERIAL : Nat := 2097158
abbrev Od.ID_BUILD_ID : Nat := 2097159
abbrev Od.ID_MFG_DATE : Nat := 2097160
abbrev Od.ID_ACTIVE_BANK : Nat := 2097161
abbrev Od.ID_IMAGE_CRC : Nat := 2097162
abbrev Od.ID_OTP_CRC : Nat := 2097163
abbrev Od.LOG_NUM_SUBS : Nat := 2098688
abbrev Od.LOG_LOG_STATUS : Nat := 2098689
abbrev Od.LOG_LOG_WRITTEN : Nat := 2098690
abbrev Od.LOG_LOG_SEL : Nat := 2098691
abbrev Od.LOG_LOG_ENTRY : Nat := 2098692
abbrev Od.LOG_LOG_NEXT : Nat := 2098693
abbrev Od.LOG_LOG_ACKED : Nat := 2098694
abbrev Od.LOG_LOST : Nat := 2098695
abbrev Od.LOG_LOG_CLEAR : Nat := 2098696
abbrev Od.LOG_EMCY_MIN_SEV : Nat := 2098697
abbrev Od.LOG_EMCY_SUPPRESSED : Nat := 2098698
abbrev Od.CNT_NUM_SUBS : Nat := 2098944
abbrev Od.CNT_CNT_OVF_MAP : Nat := 2098945
abbrev Od.CNT_OPERATING_TIME_s : Nat := 2098946
abbrev Od.CNT_ACTIVE_TIME_s : Nat := 2098947
abbrev Od.CNT_POWER_ON_COUNT : Nat := 2098948
abbrev Od.CNT_FAULT_OCC_SEL : Nat := 2098949
abbrev Od.CNT_FAULT_OCC (b : Nat) : Nat := 2098950 + 16777216 * (b + 1)
abbrev Od.CNT_FAULT_OCC_CLEAR : Nat := 2098951
abbrev Od.CNT_FAULT_OCC_CODES : Nat := 2098952
abbrev Od.OWN_NUM_SUBS : Nat := 2228224
abbrev Od.OWN_OWNER (i : Nat) : Nat := 2228225 + i
abbrev Od.OWN_OWNER_DEFAULT (i : Nat) : Nat := 2228231 + i
abbrev Od.OWN_LOSS_ACTION (i : Nat) : Nat := 2228237 + i
abbrev Od.OWN_ARB_ABORTS : Nat := 2228243
abbrev Od.OWN_OWN_STATUS : Nat := 2228244
abbrev Od.ETH_NUM_SUBS : Nat := 3145728
abbrev Od.ETH_ETH_STATUS : Nat := 3145729
abbrev Od.ETH_MAC_ADDR : Nat := 3145730
abbrev Od.ETH_PHY_ROLE : Nat := 3145731
abbrev Od.ETH_IP_ADDR : Nat := 3145732
abbrev Od.ETH_IP_MASK : Nat := 3145733
abbrev Od.ETH_IP_GATEWAY : Nat := 3145734
abbrev Od.ETH_RX_FRAMES : Nat := 3145735
abbrev Od.ETH_TX_FRAMES : Nat := 3145736
abbrev Od.ETH_RX_DISCARDED : Nat := 3145737
abbrev Od.ETH_LINK_DROPS : Nat := 3145738
abbrev Od.ETH_RX_ERRORS : Nat := 3145739
abbrev Od.SVC_NUM_SUBS : Nat := 3149824
abbrev Od.SVC_SP_PORT : Nat := 3149825
abbrev Od.SVC_MAX_PEERS : Nat := 3149826
abbrev Od.SVC_SESSION_IDLE_s : Nat := 3149827
abbrev Od.SVC_NODE_ID : Nat := 3149828
abbrev Od.SVC_SDO_TIMEOUT_ms : Nat := 3149829
abbrev Od.SVC_SESSIONS_OPEN : Nat := 3149830
abbrev Od.SVC_OWN_SESSION : Nat := 3149831
abbrev Od.SVC_OWN_ROLE : Nat := 3149832
abbrev Od.SVC_SESSION_CLOSE : Nat := 3149833
abbrev Od.SVC_REQUESTS : Nat := 3149834
abbrev Od.SVC_DUP_REQUESTS : Nat := 3149835
abbrev Od.SVC_SP_CNT_STATUS : Nat := 3149836
abbrev Od.AUTH_NUM_SUBS : Nat := 3153920
abbrev Od.AUTH_AUTH_OPEN : Nat := 3153921
abbrev Od.AUTH_NONCE : Nat := 3153922
abbrev Od.AUTH_AUTH_RESPONSE : Nat := 3153923
abbrev Od.AUTH_AUTH_STATE : Nat := 3153924
abbrev Od.AUTH_LOCK_REMAIN_s : Nat := 3153925
abbrev Od.AUTH_LOCK_LEVEL : Nat := 3153926
abbrev Od.AUTH_FAIL_RUN : Nat := 3153927
abbrev Od.AUTH_KEY_SERVICE : Nat := 3153928
abbrev Od.AUTH_KEY_SAFETY : Nat := 3153929
abbrev Od.AUTH_AUTH_OK : Nat := 3153930
abbrev Od.AUTH_AUTH_FAILS : Nat := 3153931
abbrev Od.AUTH_LOCKOUTS : Nat := 3153932
abbrev Od.AUTH_AUTH_CNT_STATUS : Nat := 3153933
abbrev Od.IMG_NUM_SUBS : Nat := 3211264
abbrev Od.IMG_IMG_STATUS : Nat := 3211265
abbrev Od.IMG_ACTIVE_BANK : Nat := 3211266
abbrev Od.IMG_BANK_STATE (i : Nat) : Nat := 3211267 + i
abbrev Od.IMG_BANK_VERSION (i : Nat) : Nat := 3211269 + i
abbrev Od.IMG_BANK_GEN (i : Nat) : Nat := 3211271 + i
abbrev Od.IMG_TFTP_SERVER : Nat := 3211273
abbrev Od.IMG_FILE_NAME : Nat := 3211274
abbrev Od.IMG_UPD_CMD : Nat := 3211275
abbrev Od.IMG_UPD_STATE : Nat := 3211276
abbrev Od.IMG_UPD_BLOCK : Nat := 3211277
abbrev Od.IMG_UPD_BYTES : Nat := 3211278
abbrev Od.IMG_UPD_RESULT : Nat := 3211279
abbrev Od.IMG_TFTP_TIMEOUT_ms : Nat := 3211280
abbrev Od.IMG_TFTP_RETRIES : Nat := 3211281
abbrev Od.IMG_UPDATES : Nat := 3211282
abbrev Od.IMG_UPD_FAILS : Nat := 3211283
abbrev Od.IMG_ROLLBACKS : Nat := 3211284
abbrev Od.IMG_IMG_CNT_STATUS : Nat := 3211285
abbrev Od.CAP_NUM_SUBS : Nat := 3215360
abbrev Od.CAP_CAP_STATE : Nat := 3215361
abbrev Od.CAP_CAP_MODE : Nat := 3215362
abbrev Od.CAP_CAP_CHANNELS : Nat := 3215363
abbrev Od.CAP_CAP_PERIOD_us : Nat := 3215364
abbrev Od.CAP_PRE_ROWS : Nat := 3215365
abbrev Od.CAP_POST_ROWS : Nat := 3215366
abbrev Od.CAP_TRIG_MODE : Nat := 3215367
abbrev Od.CAP_TRIG_CH : Nat := 3215368
abbrev Od.CAP_TRIG_LEVEL : Nat := 3215369
abbrev Od.CAP_TRIG_CODE : Nat := 3215370
abbrev Od.CAP_CAP_CMD : Nat := 3215371
abbrev Od.CAP_TRIG_TB : Nat := 3215372
abbrev Od.CAP_FIRST_TB : Nat := 3215373
abbrev Od.CAP_ROWS_STORED : Nat := 3215374
abbrev Od.CAP_READ_OFFSET : Nat := 3215375
abbrev Od.CAP_READ_DATA : Nat := 3215376
abbrev Od.CAP_STREAM_IP : Nat := 3215377
abbrev Od.CAP_STREAM_PORT : Nat := 3215378
abbrev Od.CAP_STREAM_SEQ : Nat := 3215379
abbrev Od.CAP_STREAM_DROPS : Nat := 3215380
abbrev Od.CAP_CAPTURES : Nat := 3215381
abbrev Od.CAP_CAP_CNT_STATUS : Nat := 3215382
abbrev Od.CAP_CH_SRC (i : Nat) : Nat := 3215392 + i
abbrev Od.VMON_NUM_SUBS : Nat := 2916352
abbrev Od.VMON_VMON_SEL : Nat := 2916353
abbrev Od.VMON_VMON_NAME (b : Nat) : Nat := 2916354 + 16777216 * (b + 1)
abbrev Od.VMON_VALUE (b : Nat) : Nat := 2916355 + 16777216 * (b + 1)
abbrev Od.VMON_V_MIN (b : Nat) : Nat := 2916356 + 16777216 * (b + 1)
abbrev Od.VMON_V_MAX (b : Nat) : Nat := 2916357 + 16777216 * (b + 1)
abbrev Od.VMON_LO_LIM (b : Nat) : Nat := 2916358 + 16777216 * (b + 1)
abbrev Od.VMON_HI_LIM (b : Nat) : Nat := 2916359 + 16777216 * (b + 1)
abbrev Od.VMON_VMON_STATUS (b : Nat) : Nat := 2916360 + 16777216 * (b + 1)
abbrev Od.VMON_EXCURSIONS (b : Nat) : Nat := 2916361 + 16777216 * (b + 1)
abbrev Od.PM_NUM_SUBS : Nat := 2920448
abbrev Od.PM_AGE_WARN : Nat := 2920449
abbrev Od.PM_CORNER (i : Nat) : Nat := 2920450 + i
abbrev Od.PM_DRIFT (i : Nat) : Nat := 2920454 + i
abbrev Od.PM_PM_STATUS : Nat := 2920458
abbrev Od.PP_NUM_SUBS : Nat := 4194560
abbrev Od.PP_PYR_CONFIG_BOOT : Nat := 4194561
abbrev Od.PP_PYR_ALLOWED : Nat := 4194562
abbrev Od.PP_PYR_CYCLE_us : Nat := 4194563
abbrev Od.PP_RESYNC_WINDOW_ms : Nat := 4194564
abbrev Od.PP_EXCH_AGE_MAX_us : Nat := 4194565
abbrev Od.PP_EXCH_PERSIST : Nat := 4194566
abbrev Od.COM_DEVICE_TYPE : Nat := 1048576
abbrev Od.COM_ERROR_REGISTER : Nat := 1048832
abbrev Od.COM_DEVICE_NAME : Nat := 1050624
abbrev Od.COM_HARDWARE_VERSION : Nat := 1050880
abbrev Od.COM_SOFTWARE_VERSION : Nat := 1051136
abbrev Od.COM_COB_ID_EMCY : Nat := 1053696
abbrev Od.COM_INHIBIT_TIME_EMCY : Nat := 1053952
abbrev Od.COM_HEARTBEAT_TIME : Nat := 1054464
abbrev Od.COM_SERIAL_NUMBER : Nat := 1054724
abbrev Od.COM_SDO_REQUEST_ID : Nat := 1179649
abbrev Od.COM_SDO_RESPONSE_ID : Nat := 1179650

end Sys2Proof.Machine
end

