-- ==== Sys2Proof/Machine/Events.lean ====
section
/-! DEFINITION. Event severities (Table 0.7) and the severity of every event code, from the chapters' event tables and
from Tables 1.9 and 1.11. -/
namespace Sys2Proof.Machine

/-- Table 0.7, from lowest to highest. -/
inductive Severity where
  | info | warn | derate | stop | fault | safe
  deriving DecidableEq, Repr

/-- The severity code of R489. -/
def Severity.num : Severity → Nat
  | .info => 0 | .warn => 1 | .derate => 2 | .stop => 3 | .fault => 4 | .safe => 5

/-- The event codes of severity WARN. -/
def warnEvents : List Nat := [
  0x0103, 0x0105, 0x0106, 0x0120, 0x0136, 0x0137, 0x0138, 0x0141, 0x0143, 0x0144,
  0x0145, 0x0201, 0x0204, 0x0205, 0x0207, 0x0209, 0x0303, 0x030C, 0x030D, 0x0403,
  0x0404, 0x0406, 0x0407, 0x0410, 0x0502, 0x0503, 0x0512, 0x0515, 0x051B, 0x051C,
  0x051E, 0x051F, 0x0603, 0x0604, 0x0607, 0x0703, 0x0805, 0x0806, 0x080B, 0x080C,
  0x080E, 0x090A, 0x090C, 0x090D, 0x0A04, 0x0A06, 0x0A08, 0x0A0E, 0x0A10, 0x0A11,
  0x0B04, 0x0B05, 0x0B06, 0x0B0B, 0x0B0F, 0x0B12, 0x0B16, 0x0C01, 0x0C07, 0x0C08,
  0x0C09, 0x0C0A, 0x0D03, 0x0D08, 0x0D09, 0x0D0D, 0x0E08, 0x0E0B, 0x0E0C, 0x0E0F,
  0x0E11, 0x0E21, 0x0E22, 0x0E24, 0x0F02, 0x0F03, 0x0F04, 0x0F06, 0x0F07, 0x0F0A,
  0x0F0C, 0x0F0E, 0x1002, 0x1004, 0x1008, 0x100A, 0x1103, 0x1105, 0x1109]

/-- The event codes of severity DERATE. -/
def derateEvents : List Nat := [
  0x0517, 0x0518, 0x0519, 0x0807, 0x080D, 0x080F, 0x0902, 0x0907, 0x0A0A, 0x0A0B,
  0x0A0C, 0x0C02]

/-- The event codes of severity STOP. -/
def stopEvents : List Nat := [
  0x0307, 0x0402, 0x0511, 0x0704, 0x0705, 0x0908, 0x0B0E, 0x0B1B]

/-- The event codes of severity FAULT. -/
def faultEvents : List Nat := [
  0x0107, 0x0121, 0x0131, 0x0142, 0x0206, 0x0208, 0x020A, 0x020B, 0x0301, 0x0302,
  0x0304, 0x0306, 0x0308, 0x0309, 0x0401, 0x0506, 0x0514, 0x051A, 0x0803, 0x0808,
  0x0903, 0x0904, 0x0905, 0x0906, 0x090B, 0x0A07, 0x0A09, 0x0B07, 0x0B08, 0x0B09,
  0x0B0A, 0x0B0C, 0x0B0D, 0x0B14, 0x0B19, 0x0B1A, 0x0C03, 0x0C04, 0x1106]

/-- The event codes of severity SAFE. -/
def safeEvents : List Nat := [
  0x0130, 0x0132, 0x0133, 0x0134, 0x0135, 0x0D02, 0x0D05, 0x0D06, 0x0D0A, 0x0D0B,
  0x0D0C, 0x0E01, 0x0E03, 0x0E04, 0x0E05, 0x0E06, 0x0E07, 0x0E09, 0x0E0A, 0x0E0D,
  0x0E12]

/-- The severity of an event code; every listed code that is none of the above is INFO. -/
def eventSeverity (code : Nat) : Severity :=
  if code ∈ safeEvents then .safe else if code ∈ faultEvents then .fault else if code ∈ stopEvents then .stop
  else if code ∈ derateEvents then .derate else if code ∈ warnEvents then .warn else .info

end Sys2Proof.Machine
end

