-- ==== Sys2Proof/Machine/State.lean ====
section
/-! DEFINITION. The state of the block as plain data: the object dictionary's store, what the chapters give the block
besides its objects (one structure for each), the timebase, the outputs of the last command, and the queue of waiting
commands. `State.reset` is the block held in its first always-on power-on reset (R48, R62). -/
namespace Sys2Proof.Machine

/-- The seven states of Table 0.8, in the order of their DRIVE_STATE codes (Table 5.14). -/
inductive DriveState where
  | unavailable | standby | armed | active | stopping | inhibit | fault
  deriving DecidableEq, Repr

def DriveState.code : DriveState → Nat
  | .unavailable => 0 | .standby => 1 | .armed => 2 | .active => 3 | .stopping => 4 | .inhibit => 5 | .fault => 6

/-- MODE of CELL_STATUS (Table 3.10). -/
inductive CellMode where
  | off | coast | switching | asc | softOff | precharge | selftest
  deriving DecidableEq, Repr

def CellMode.code : CellMode → Nat
  | .off => 0 | .coast => 1 | .switching => 2 | .asc => 3 | .softOff => 4 | .precharge => 5 | .selftest => 6

/-- The state of a leg: both switches off, low side on, high side on. -/
inductive LegLevel where
  | off | low | high
  deriving DecidableEq, Repr

/-- R488: TB, code, source, severity and detail of one event. -/
structure LogEntry where
  tb     : Nat
  code   : Nat
  source : Nat
  sev    : Severity
  detail : Nat
  deriving DecidableEq, Repr

/-- The event log (R488 to R490, R69, R351, R467) with the per-code fault counts. -/
structure LogSt where
  /-- events that happened while the engines were not running (R69) -/
  held      : List LogEntry := []
  /-- the log buffer of at most 32 entries (R488) -/
  buffer    : List LogEntry := []
  /-- TB at which the buffer last entered an entry in the ring -/
  stepTb    : Option Nat := none
  /-- the ring: numbered entries, newest first, at most 256 -/
  ring      : List (Nat × LogEntry) := []
  /-- LOG_WRITTEN -/
  written   : Nat := 0
  /-- events that found the buffer full, and unacknowledged entries overwritten (LOST) -/
  lost      : Nat := 0
  lostOvf   : Bool := false
  /-- FAULT_OCC per event code of severity FAULT or SAFE -/
  faultOcc  : List (Nat × Nat) := []
  /-- a FAULT_OCC counter, and POWER_ON_COUNT, have passed their largest value (R491) -/
  occOvf    : Bool := false
  powerOvf  : Bool := false
  /-- LAST_EVENT of each drive -/
  lastEvent : List (Nat × Nat) := []
  /-- the newest event of severity WARN or above (Table 18.7, base + 3) -/
  newestWarn : Option (Nat × Severity × Nat) := none
  /-- frames waiting for their EMCY inhibit time, oldest first, at most 16 -/
  emcy      : List (List Byte) := []
  emcyTb    : Option Nat := none
  /-- second in which event 0x100A was last logged -/
  overSec   : Option Nat := none
  /-- TB of the last producer heartbeat and of the last save of operating and active time; both times in ticks -/
  beatTb    : Nat := 0
  timeTb    : Nat := 0
  opTicks   : Nat := 0
  actTicks  : Nat := 0
  deriving DecidableEq, Repr

/-- One direction of an isolation link as its receiver sees it (R19, R21, R22). -/
structure LinkDir where
  lane0    : Bool := false
  lane1    : Bool := false
  /-- sequence number of the next frame to deliver -/
  expected : Nat := 0
  /-- frames received behind a failed one, in order -/
  heldBack : List (BitVec 96) := []
  /-- the sender's last 8 frames, newest first -/
  sent     : List (BitVec 96) := []
  deriving DecidableEq, Repr

/-- A command to a cell that waits on its island die for its apply time (R26): the pre-charge pulses of step 5 of Table 3.4
begin, the stage modulator begins to switch, or the DAB phase shift takes a value, whose apply time is the start of a
switching period (R27). -/
inductive LinkCmd where
  | precharge (c : Cell)
  | switch (c : Cell)
  | dabPhase (c : Cell) (phase : Rat)
  deriving DecidableEq, Repr

/-- One isolation link (R19 to R27). -/
structure LinkSt where
  fromC    : LinkDir := {}
  toC      : LinkDir := {}
  trained  : Bool := false
  training : Bool := false
  skewCal  : Bool := false
  /-- the island die's copy of TB less TB, in ticks (R15, R25) -/
  tbSkew   : Int := 0
  /-- the drives whose acknowledge clears LOST_LATCH; none: latch clear -/
  lostDrives : List Drive := []
  lost     : Bool := false
  /-- the island die has taken its cells to their protective states (R23) -/
  dieLost  : Bool := false
  /-- commands waiting for their apply time in TB ticks -/
  pending  : List (Nat × LinkCmd) := []
  deriving DecidableEq, Repr

/-- Clock monitors (R37, R38): consecutive out-of-window counts by monitor, and the monitors that have declared a fault. -/
structure ClockSt where
  outRuns  : List (Nat × Nat) := []
  faults   : List Nat := []
  /-- TB stands still since the given time while CONV of island C is in fault, and has stood still so long before (R38) -/
  stopTb   : Option Nat := none
  lag      : Nat := 0
  scrubTb  : Option Nat := none
  /-- TB at which the CAN clock came back into its window (R458) -/
  canOkTb  : Option Nat := none
  deriving DecidableEq, Repr

/-- Reset and bring-up (R43 to R65): the step of Table 2.5 reached, 0 while held in reset. -/
structure BringupSt where
  step        : Nat := 0
  /-- RESET_CAUSE of the reset in progress or last done (Table 2.7) -/
  cause       : Nat := 1
  /-- TB of the release of reset -/
  releaseTb   : Nat := 0
  resetLatch  : Bool := true
  /-- TB at which a reset met a flash program pulse (R51) -/
  deferredTb  : Option Nat := none
  /-- the deferral to be logged at the next bring-up, in µs -/
  deferredUs  : Option Nat := none
  retainedLost : Bool := true
  trimAttempts : Nat := 0
  trimFault   : Bool := false
  imageFault  : Bool := false
  startupDone : Bool := false
  startupOk   : Bool := false
  safetySetOk : Bool := false
  /-- the battery terminal feeds the always-on domain (R48): true in the reset state, in which nothing else does -/
  batFeed     : Bool := true
  lvOk        : Bool := false
  flyOk       : Bool := false
  podlOk      : Bool := false
  /-- every source is invalid and hold-up carries the electronics, since the given TB -/
  holdupTb    : Option Nat := none
  /-- sources of priority 1 and 2 are all invalid since the given TB -/
  powerLostTb : Option Nat := none
  podlOnly    : Bool := false
  islandOn    : Bool := false
  /-- TB at which the drives stopped under R47 -/
  stageStopTb : Option Nat := none
  deriving DecidableEq, Repr

/-- What an arming sequence is run for (R81): the command ARM, AUTO_RUN, gear state recovery, a discharge,
an identification, the DAB's bridges alone (R319). -/
inductive ArmFor where
  | none | arm | auto | recovery | discharge | ident | dab
  deriving DecidableEq, Repr

/-- A drive (Table 0.8) and its reset (R66). -/
structure DriveSt where
  state     : DriveState := .unavailable
  /-- SUBSTATE of Table 5.15 and its counterparts -/
  substate  : Nat := 0
  readyTime : Nat := 0xFFFF
  /-- TB of entry to ARMED (ARM_HOLD_ms) -/
  armedTb   : Nat := 0
  /-- the arming sequence of Table 3.4 that runs -/
  arming    : ArmFor := .none
  /-- TB at which the wrappers closed in a drive reset (Table 2.9 step 2) -/
  resetTb   : Option Nat := none
  /-- rank of the source that reset the drive (event 0x0109) -/
  resetRank : Nat := 0
  /-- torque-off pair asserted: by the link loss of R24, and by any other demand -/
  tqoLink   : Bool := false
  tqo       : Bool := true
  /-- a link loss asks Pyreri for the assertion of R24 at its next safety cycle -/
  tqoLinkDue : Bool := false
  /-- TB of the last assertion of the torque-off pair (R159) -/
  tqoTb     : Option Nat := none
  /-- causes that must be absent before ACK (event codes) -/
  causes    : List Nat := []
  /-- the drive's own readiness checks have passed since its last bring-up or reset (Table 2.6) -/
  checks    : Bool := false
  /-- AUTO_RUN waits for the owner: set by the owner's STOP or DISARM (R290, R319) -/
  autoHold  : Bool := false
  deriving DecidableEq, Repr

/-- A cell (chapter 03). -/
structure CellSt where
  mode      : CellMode := .off
  supHi     : Bool := false
  supLo     : Bool := false
  precharged : Bool := false
  /-- step of Table 3.4 running, 0 none -/
  armStep   : Nat := 0
  /-- held off after a soft turn-off, or in its protective state after a link loss, until acknowledged and armed -/
  heldOff   : Bool := false
  held      : Bool := false
  /-- TB of the soft turn-offs, both-on occurrences and forced refreshes that the windows of R90, R78 and R80 count -/
  stoTimes  : List Nat := []
  bothTimes : List Nat := []
  refreshes : List Nat := []
  refreshLogged : Bool := false
  refreshDue : Bool := false
  selftest  : Bool := false
  /-- legs conducting when the soft turn-off began, by position -/
  plateau   : List Nat := []
  /-- TB of the first pre-charge pulse (Table 3.4), and ticks of switching since the last counter save (R95) -/
  pulseTb   : Nat := 0
  swTicks   : Nat := 0
  /-- TB of the last start of a switching period of a stage cell -/
  periodTb  : Nat := 0
  /-- TB from which time in ASC is not yet counted, and ticks of it short of a millisecond (R179) -/
  ascTb     : Nat := 0
  ascRest   : Nat := 0
  /-- bootstrap voltages found in the last 10 ms, newest first (BOOT_V_MIN, Table 3.9) -/
  bootV     : List (Nat × Rat) := []
  deriving DecidableEq, Repr

/-- A leg: its state, switching tokens and dwell (R92, R93). -/
structure LegSt where
  level    : LegLevel := .off
  /-- the level before the last change, the TB of that change, and of the change before it -/
  prev     : LegLevel := .off
  edgeTb   : Nat := 0
  prevTb   : Nat := 0
  /-- the pulse of a stage cell's leg in its present period: the TB at which its switch goes on and off -/
  onTb     : Nat := 0
  offTb    : Nat := 0
  /-- TB of the last sample of the leg's shunt channel at which an axis unit decided (R101) -/
  sampleTb : Option Nat := none
  /-- band whose dead time and blanking the leg took at its last switching edge (R76) -/
  band     : Nat := 1
  tokens   : Nat := 4
  /-- TB of the last token -/
  refillTb : Nat := 0
  dwellEnd : Nat := 0
  /-- a cycle waits for a token (R92), of a stage cell's leg the pulse from one TB to another -/
  deferred : Bool := false
  want     : Nat × Nat := (0, 0)
  bootBlocked : Bool := false
  deriving DecidableEq, Repr

/-- What the parameter store holds of the counters that outlive a loss of supply (R95, R494). -/
structure StoreSt where
  legSwitches   : Vector Nat 50 := Vector.replicate 50 0
  operatingTime : Nat := 0
  activeTime    : Nat := 0
  deriving DecidableEq, Repr

/-- A shunt channel beyond its object (R104 to R107). -/
structure ShuntSt where
  /-- mean of the zero-reference samples at arming -/
  zArm       : Rat := 0
  /-- TB from which the interval to the next recalibration is timed -/
  base       : Nat := 0
  /-- a recalibration collects samples, since the given TB -/
  collecting : Bool := false
  sinceTb    : Nat := 0
  /-- an OFFSET, and in R107 an OFFSET_ARM and a mean of the zero reference, that the channel has found and takes together
  with the other channels of its cell (R102) -/
  next       : Option Int := none
  nextArm    : Option (Int × Rat) := none
  lateLogged : Bool := false
  deriving DecidableEq, Repr

/-- What a sequencer does (Table 4.15). -/
inductive SeqRun where
  | idle | running | suspended
  deriving DecidableEq, Repr

/-- A sequencer: its run, the entry it converts, that entry's samples so far, the hidden results and the TB of the run's
first acquisition, in the die's own copy too (R113 to R117). -/
structure SeqSt where
  run     : SeqRun := .idle
  pending : Bool := false
  entry   : Nat := 0
  samples : List Nat := []
  hidden  : List Nat := []
  startTb : Nat := 0
  stamp   : Nat := 0
  /-- first acquisition of the visible run -/
  shownTb : Nat := 0
  /-- TB of the trigger that started the run at once (R115), and of the last periodic trigger or the enabling (R114) -/
  trigTb  : Option Nat := none
  baseTb  : Nat := 0
  /-- a continuous URGENT sequence that waits for one entry of a NORMAL one (R117) -/
  yielding : Bool := false
  overMinute : Option Nat := none
  /-- the drives it serves whose wrapper has closed and that have not completed their checks since (R120) -/
  closedFor : List Drive := []
  deriving DecidableEq, Repr

/-- A general comparator beyond its object (R124): TB of its last crossing, and whether that crossing has triggered sequencers. -/
structure GcpSt where
  crossTb : Option Nat := none
  fired   : Bool := false
  deriving DecidableEq, Repr

/-- One pulse of the Sedge probe (R171): its rise time in ticks of 10 ns, or the current reached in 20 µs. -/
inductive ProbePulse where
  | rise (ticks : Nat) | missed (reached : Rat)
  deriving DecidableEq, Repr

/-- A probe-assisted cycle (R175): its start, the estimated rotor angle it tests about, the test vectors begun, the current at
the start of the present one, and the rise of the first. -/
structure AssistSt where
  startTb : Nat
  theta   : Rat
  phase   : Nat := 0
  base    : Rat
  plus    : Rat := 0
  deriving DecidableEq, Repr

/-- The back-EMF results of a set in ASC (R168): the last current and its TB; of the present 0.5 ms the number of results, the
first one's angle and TB, the last one's angle, the advance since the first, and the sum of the advances. -/
structure AscSt where
  last    : Option (Rat × Rat × Nat) := none
  count   : Nat := 0
  first   : Rat := 0
  firstTb : Nat := 0
  prev    : Rat := 0
  adv     : Rat := 0
  sum     : Rat := 0
  deriving DecidableEq, Repr

/-- An identification procedure that runs (R190): its phase (0 not begun, 1 probing or tracking, 2 current held, 3 pulses,
4 finished), the TB of the phase, the vector nearest the d-axis, the probe angles less the interface's, and the sum and number
of flux results. -/
structure IdentSt where
  phase  : Nat := 0
  tb     : Nat := 0
  vector : Nat := 1
  diffs  : List Rat := []
  sum    : Rat := 0
  count  : Nat := 0
  deriving DecidableEq, Repr

/-- An axis unit beyond its objects (R135 to R148, R166 to R184). -/
structure AxisSt where
  /-- the flux state has been initialised and no decision made since (R140) -/
  initial   : Bool := false
  /-- TB of the last sample instant of a decision (R150) -/
  decTb     : Option Nat := none
  /-- the vector selected during a dwell, and its alternate (R93, R144) -/
  waitVec   : Option (Nat × Nat) := none
  /-- flux angle at the last decision -/
  theta     : Rat := 0
  /-- TB of the last full measurement (R146) -/
  lastFull  : Nat := 0
  /-- measurement substitution in force: the TB before which it does not end -/
  subst     : Option Nat := none
  /-- TQ_REF moves at TQ_SLEW toward its share (R170, R186) -/
  slewing   : Bool := false
  /-- loss timer of R180: it runs, its ticks, and the TB up to which they count; the square of the last residual -/
  lossRun   : Bool := false
  lossTicks : Nat := 0
  lossEval  : Nat := 0
  resid     : Rat := 0
  /-- phase-open accumulators in ticks (R183), the KCL_RES of a V0 measurement taken during each, the end of a V0 applied
  for want of one, attribution counts, and since when OVR stands in scale (R184) -/
  openAcc   : List Nat := [0, 0, 0]
  kcl       : List (Option Rat) := [none, none, none]
  openHold  : Option Nat := none
  attr      : List Nat := [0, 0, 0]
  unattrib  : Nat := 0
  ovrSince  : List (Option Nat) := [none, none, none]
  /-- present 10 ms window: its start, the squares of the largest innovation and residual, the longest unmeasured
  time in ticks, the cell's switching cycles at its start -/
  winTb     : Nat := 0
  winInnov  : Rat := 0
  winResid  : Rat := 0
  winUnmeas : Nat := 0
  winCycles : Nat := 0
  /-- phase-voltage tracking (R169): since when it is continuous, and its last angle, speed and TB -/
  trackSince : Option Nat := none
  trackTheta : Rat := 0
  trackSpeed : Rat := 0
  trackTb    : Nat := 0
  /-- angle, speed and TB from the pre-charge pulses, and from the currents in ASC (R168) -/
  pulse     : Option (Rat × Rat × Nat) := none
  ascWin    : AscSt := {}
  ascAngle  : Option (Rat × Rat × Nat) := none
  /-- angle from the last Sedge probe of a recovery, set frame -/
  probe     : Option Rat := none
  /-- the set's switches follow a probe, a check or an identification in place of decisions (R171, R186, R190) -/
  test      : Bool := false
  /-- a probe-assisted cycle that runs, and the TB of the last one's start (R175) -/
  assist    : Option AssistSt := none
  assistTb  : Nat := 0
  ident     : IdentSt := {}
  /-- identification results found since reset (R191): bit 0 static, bit 1 rotating, bit 2 encoder offset -/
  idValid   : Nat := 0
  /-- recovery of Table 6.3: t0 -/
  recover   : Option Nat := none
  deriving DecidableEq, Repr

/-- What a train of test pulses is for: a start, a recovery, the check of lost sets (R186), an identification's Sedge probe, its
sixteen pulses (R190). -/
inductive ProbeFor where
  | start | recovery | check | ident | train
  deriving DecidableEq, Repr

/-- A train of test pulses in slots of 240 µs (R171): the set and the vector of each slot; the slot in progress; the TB at which
its first switch turned on and the current at its start; its last sample, as TB and rise; its rise time once found; the end of
the opposite vector; the finished pulses. -/
structure ProbeSt where
  purpose : ProbeFor
  startTb : Nat
  slots   : List (Axis × Nat)
  slot    : Option Nat := none
  onTb    : Nat := 0
  base    : Rat := 0
  last    : Nat × Rat := (0, 0)
  found   : Option Nat := none
  oppEnd  : Option Nat := none
  done    : List ProbePulse := []
  deriving DecidableEq, Repr

/-- A traction drive beyond its objects: the direction in force, the TB of its observer losses (R181), the braking
torque of SS1 or SLS in place of the set-point (R406, R407), the outputs of its speed and damping loops (Table 8.2),
whether the shift sequencer selects speed control (Table 10.4), the crossfeed (R263), test pulses that run, a stop whose cells
coast at the next decision (R155), a reversal whose sets are being engaged again (R156), and since when its sets' angles
disagree (R166). -/
structure TractionSt where
  reverse   : Bool := false
  losses    : List Nat := []
  brake     : Option Rat := none
  speedTq   : Rat := 0
  damping   : Rat := 0
  speedCtl  : Bool := false
  crossfeed : Rat := 0
  probe     : Option ProbeSt := none
  stopDue   : Bool := false
  revPending : Bool := false
  xsetTb    : Option Nat := none
  deriving DecidableEq, Repr

/-- A position interface beyond its object (R198 to R207). -/
structure PifSt where
  /-- qualified line levels, the levels last seen, since when each of those stands, and the lines that are taken at their
  qualified level until they have been stable (R198) -/
  lines    : Nat := 0
  raw      : Nat := 0
  rawTb    : List Nat := [0, 0, 0]
  held     : Nat := 0
  /-- TB of the last qualified edge of the counting lines, and of Z -/
  edgeTb   : Option Nat := none
  zTb      : Option Nat := none
  dir      : Int := 0
  /-- TB of the last count -/
  moveTb   : Nat := 0
  /-- count right after the last index, and whether the motion has reversed since (R203) -/
  index    : Option Int := none
  turned   : Bool := false
  /-- TB of the last load of the counter, the count before it, and whether PRESET loaded it; TB of the last arming (R206) -/
  load     : Option (Nat × Int × Bool) := none
  armTb    : Option Nat := none
  /-- TB of errors of the last 1 ms, and of the last error of each kind that PIF_STATUS shows for 1 ms -/
  errors   : List Nat := []
  edgeErr  : Option Nat := none
  indexErr : Option Nat := none
  ssiErr   : Option Nat := none
  /-- TB since which CHECK has seen no error, of entry to CHECK, and since which FAULT has seen no error -/
  since    : Nat := 0
  entry    : Nat := 0
  late     : Bool := false
  ssiLast  : Option Nat := none
  ssiGood  : Nat := 0
  /-- TB of the last SSI frame read -/
  ssiTb    : Option Nat := none
  /-- speed: the edge used at the previous computation and the newest edge after it, no computation since a restart, TB of
  the last update (R207) -/
  edge0    : Option (Int × Nat) := none
  edge1    : Option (Int × Nat) := none
  restart  : Bool := true
  speedTb  : Option Nat := none
  deriving DecidableEq, Repr

/-- A commit in progress (Table 8.5): its section, the set as B0, B1, B2, A1, A2 in Q3.28, the step reached (0 while the
engines compute), and whether the host had set HOLD before. -/
structure CommitSt where
  sec   : Fin 8 := 0
  coefs : List Int := []
  step  : Nat := 0
  hostHeld : Bool := false
  /-- A2 is written before A1 (R226) -/
  a2First : Bool := false
  deriving DecidableEq, Repr

/-- A loop unit beyond its objects: states and last outputs of its sections in Q11.28 and Q3.28, saturation of the last
sample, the unit's own clamped output, queued writes (R225), the run of skipped samples (R218), HOLD (R228, R229) and
the commit in progress. -/
structure LuSt where
  running  : Bool := false
  s1       : List Int := List.replicate 8 0
  s2       : List Int := List.replicate 8 0
  y        : List Int := List.replicate 8 0
  satHi    : Bool := false
  satLo    : Bool := false
  inSat    : Bool := false
  stale    : Bool := false
  notSelected : Bool := false
  u        : Rat := 0
  sampleTb : Option Nat := none
  queue    : List (Nat × Val) := []
  skips    : Nat := 0
  ovfSec   : Option Nat := none
  wasHeld  : List Bool := List.replicate 8 false
  holdTb   : List Nat := List.replicate 8 0
  holdLogged : List Bool := List.replicate 8 false
  commit   : Option CommitSt := none
  configErr : Bool := false
  /-- its trigger has come, and it has not sampled since (R216) -/
  due      : Bool := false
  /-- period starts of its trigger cell since the last one that triggered it -/
  trigN    : Nat := 0
  deriving DecidableEq, Repr

/-- ENG_STATE (Table 9.6): HALTED, LIVE, OUT_OF_SERVICE, THIEF, PERMANENT. -/
inductive EngineState where
  | halted | live | outOfService | thief | permanent
  deriving DecidableEq, Repr

def EngineState.code : EngineState → Nat
  | .halted => 0 | .live => 1 | .outOfService => 2 | .thief => 3 | .permanent => 4

/-- An engine: its state, the task it executes with the start, whether that was stolen, the slices passed of the present
self-test pass, the executions that end in the last 100 ms, newest first (BUSY), and when it was taken out of service. -/
structure EngSt where
  state    : EngineState := .halted
  running  : Option (Fin 59) := none
  startTb  : Nat := 0
  /-- release of the instance that executes -/
  relTb    : Nat := 0
  stolen   : Bool := false
  slices   : Nat := 0
  execs    : List (Nat × Nat) := []
  oosTb    : Nat := 0
  deriving DecidableEq, Repr

/-- A task record beyond its object: the instance that waits (its release), the engine in whose queue it waits (the host
of a HARD task), the run of missed deadlines, and the TB of the last release. -/
structure TaskSt where
  waiting : Option Nat := none
  queue   : Nat := 0xFF
  /-- engine that executed it last -/
  last    : Nat := 0xFF
  misses  : Nat := 0
  relTb   : Option Nat := none
  deriving DecidableEq, Repr

/-- The pool: TB of the configuration load, the admission check that runs (of bring-up: true), and the second of the last
overrun and miss logged. -/
structure PoolSt where
  loadTb  : Nat := 0
  check   : Option Bool := none
  overSec : Option Nat := none
  missSec : Option Nat := none
  deriving DecidableEq, Repr

/-- The shift sequencer, output speed and AXLE limit of one side (R265 to R270). -/
structure SideSt where
  /-- resolved once since reset (R64) -/
  resolved : Bool := false
  /-- target and old gear of the shift as SHIFT_CMD codes and gear states, its start and the start of its step -/
  target   : Nat := 0
  oldGear  : Nat := 0
  t0       : Nat := 0
  stepTb   : Nat := 0
  /-- TB since which the condition of the step holds, and since which the fork has not moved -/
  okSince  : Option Nat := none
  retries  : Nat := 0
  offset   : Rat := 0
  /-- slew of step 1, and the TB at which the AXLE limit last moved -/
  slew     : Option Rat := none
  limTb    : Nat := 0
  /-- in-gear output speeds of the last 20 ms with their TB, newest first, and the extrapolation of step 2 on -/
  speeds   : List (Nat × Rat) := []
  outBase  : Option Rat := none
  outAccel : Rat := 0
  outTb    : Nat := 0
  /-- TB of the last OUT_SPEED write -/
  hostTb   : Option Nat := none
  /-- TB of entry to the park-lock state, PAWL_ON_TOOTH, and since when the pawl has lain within PARK_WIN of its target -/
  parkTb   : Nat := 0
  tooth    : Bool := false
  pawlTb   : Option Nat := none
  deriving DecidableEq, Repr

/-- A fork record (R277): the last confirmed state, MOVING, valid. -/
structure ForkRec where
  state  : Nat := 0
  moving : Bool := false
  valid  : Bool := false
  deriving DecidableEq, Repr

/-- Recovery of one actuator (Table 10.9): the step that runs (0 none), its start, the position there, the direction
of its torque, whether it has reversed or returned, since when its torque has acted in that direction, whether it is
resolved, and the TB of the stall that resolved it. -/
structure RecSt where
  step     : Nat := 0
  startTb  : Nat := 0
  startPos : Int := 0
  dir      : Int := 1
  turned   : Bool := false
  pushTb   : Nat := 0
  resolved : Bool := false
  stalledTb : Option Nat := none
  deriving DecidableEq, Repr

/-- A solenoid channel beyond its object: energised time in ticks, the TB up to which it is counted, and since when the
conditions of an open load and of a deviation have held (R275). -/
structure SolSt where
  ticks : Nat := 0
  lastTb : Nat := 0
  openTb : Option Nat := none
  devTb  : Option Nat := none
  deriving DecidableEq, Repr

/-- GBX and the axle manager beyond their objects. -/
structure GbxSt where
  sides    : Vector SideSt 2 := Vector.replicate 2 {}
  records  : Vector ForkRec 4 := Vector.replicate 4 {}
  recs     : Vector RecSt 4 := Vector.replicate 4 {}
  /-- t0 of the recovery that runs; a recovery has completed since reset -/
  recovT0  : Option Nat := none
  recovered : Bool := false
  sols     : Vector SolSt 8 := Vector.replicate 8 {}
  /-- torque at which a pawl is pushed in place of its position loop (R276) -/
  push     : Vector (Option Rat) 4 := Vector.replicate 4 none
  /-- mode that waits for the end of a shift (R259), and a direction change that does (R279) -/
  modeWait : Option Nat := none
  dirWait  : Bool := false
  deriving DecidableEq, Repr

/-- The DC-link manager beyond its objects: the second in which each factor's event was last logged, since when V_DC has
stood above the undervoltage release, the drives that each latch sent to FAULT, the resistor check, the run of failing
on-intervals of each leg, the energy into the resistors, the last ten values of V_DC, and the discharge. -/
structure DclSt where
  genSec     : Option Nat := none
  motSec     : Option Nat := none
  uvSince    : Option Nat := none
  /-- TB since which V_DC stands at 450 V or more (R304) -/
  okTb       : Option Nat := none
  mismatchOf : List Drive := []
  /-- TB since which the manager task has found a spread above its limit at every comparison, none while both keep it (R286) -/
  differTb   : Option Nat := none
  /-- V_DC has stood at FW_TRIP since the firmware trip that it caused (R293); TB of the last update of the resistor models -/
  fwHigh     : Bool := false
  resTb      : Nat := 0
  fwOf       : List Drive := []
  hwOf       : List Drive := []
  /-- the resistor check has passed since reset; it stands passed; it has failed, and waits since the given TB -/
  resPassed  : Bool := false
  checkOk    : Bool := false
  checkFailed : Bool := false
  checkWait  : Option Nat := none
  energy     : Rat := 0
  vHist      : List Rat := []
  /-- t0 of the discharge, V_DC at t0, C14 armed alone, both legs on -/
  disch      : Option Nat := none
  dischV0    : Rat := 0
  dischAlone : Bool := false
  dischOn    : Bool := false
  deriving DecidableEq, Repr

/-- The auxiliary converter beyond its objects. -/
structure AuxSt where
  /-- code of the VSEL pins last sampled, and how many samples in a row read it (R310) -/
  vselRaw  : Nat := 0
  vselRun  : Nat := 0
  /-- soft-start rate of VR in V per ms, fixed at entry to VR_START (R307) -/
  vrRate   : Rat := 0
  /-- IB soft start: the IB at entry to IB_START, the TB of its start, none before the DAB runs (R307) -/
  ibFrom   : Rat := 0
  ibTb     : Option Nat := none
  /-- buck phases shed since AUX last entered ACTIVE (R308) -/
  shed     : List Nat := []
  releaseSec : Option Nat := none
  /-- the DAB pauses on an IB overvoltage (Table 12.3) -/
  paused   : Bool := false
  /-- SYNC_OUT runs (R315) -/
  syncOut  : Bool := false
  /-- TB up to which F_BUCK, VR_REF, TOW_TIME and E_VR have been advanced, tow time in ticks, energy, and the buck's
  frequency -/
  lastTb   : Nat := 0
  towTicks : Nat := 0
  energy   : Rat := 0
  fBuck    : Rat := 150000
  syncHz   : Option Rat := none
  /-- window of R305: its start, its periods, and the periods that PH_I_MAX decided, by phase -/
  limTb    : Nat := 0
  limN     : Nat := 0
  limHits  : List Nat := [0, 0, 0, 0]
  /-- the lowered VR target of the LV instance (R338) -/
  lowered  : Option Rat := none
  /-- TB since which IB stands below 40 V, above 60 V, VR above 31.5 V, V_BAT below TOW_VBAT_MIN, the AUX48 current above
  AUX48_I_MAX (R316 to R318), and each buck phase more than 20 A off the mean (R308); none where it does not -/
  ibLowTb  : Option Nat := none
  ibHighTb : Option Nat := none
  vrHighTb : Option Nat := none
  batLowTb : Option Nat := none
  overTb   : Option Nat := none
  devTb    : Vector (Option Nat) 4 := Vector.replicate 4 none
  /-- TB of each action of the DAB's peak limit in the last 10 ms (R303), of the last sample of the VSEL pins (R310), and of the
  last SYNC_IN edge that was reported (R314) -/
  peakTbs  : List Nat := []
  vselTb   : Nat := 0
  syncTb   : Nat := 0
  deriving DecidableEq, Repr

/-- An instance of the charge state machine beyond its objects (R337 to R339): the TB of entry to its state, safety
timer in ticks with its last evaluation, since when its timed condition holds, and the state kept through a hand-over. -/
structure ChargeInst where
  entryTb  : Nat := 0
  timer    : Rat := 0
  timerTb  : Nat := 0
  condTb   : Option Nat := none
  condKind : Nat := 0
  kept     : Nat := 0
  /-- current limit before TOPOFF reduces it -/
  configured : Rat := 0
  deriving DecidableEq, Repr

/-- Charger, charge instances, BMS, battery switch and service button beyond their objects. -/
structure ChgSt where
  hv       : ChargeInst := {}
  lv       : ChargeInst := {}
  /-- entry to the session step; a session is open; relays: the pre-charge relay opens at the given TB -/
  stepTb   : Nat := 0
  digitalLogged : Bool := false
  /-- a start or a recharge asks for steps 2 to 8 -/
  go       : Bool := false
  preOpenTb : Option Nat := none
  /-- REF of LU18 and LU20 as they ramp, and the TB up to which they have moved -/
  pfcRef   : Rat := 0
  ccRef    : Rat := 0
  rampTb   : Nat := 0
  /-- a normal stop ramps LU20's REF to 0 from this value since this TB; DONE logged already -/
  stopFrom : Option (Rat × Nat) := none
  /-- mean squares of the line voltages over the last window of 20 ms, and the sums and count of the present one -/
  lineMs   : Vector Rat 3 := Vector.replicate 3 0
  lineSum  : Vector Rat 3 := Vector.replicate 3 0
  lineN    : Nat := 0
  lineTb   : Nat := 0
  /-- last sample of L1 and TB of its last rising zero crossing -/
  lineLast : Rat := 0
  crossTb  : Option Nat := none
  /-- largest outlet-side relay voltage of the last results -/
  outlet   : Rat := 0
  /-- BMS: TB of the last valid frames, alive value of the last, whether it advanced by one, TB of the timeout logged -/
  bmsTb    : Option Nat := none
  packTb   : Option Nat := none
  alive    : Option Nat := none
  aliveOk  : Bool := false
  packLost : Bool := false
  /-- status message: TB of the last one, alive, flags last sent -/
  statusTb : Nat := 0
  txAlive  : Nat := 0
  txFlags  : Nat := 0
  /-- charge counted in A·s -/
  hvIn     : Rat := 0
  hvOut    : Rat := 0
  lvIn     : Rat := 0
  lvOut    : Rat := 0
  eIn      : Rat := 0
  eOut     : Rat := 0
  countTb  : Nat := 0
  /-- export: TB of the ramp's start and whether it ramps down -/
  expTb    : Nat := 0
  expDown  : Bool := false
  /-- export: since when a phase current is limited, since when EXP_S stands above 110 % of EXP_S_MAX, and a droop that would
  have to go below 85 % (R348) -/
  limTb    : Option Nat := none
  overTb   : Option Nat := none
  deep     : Bool := false
  /-- pilot: the state last seen, in how many pilot periods in a row (0 without oscillation), and since when (R328) -/
  pilotSeen : PilotState := .a
  pilotRun : Nat := 0
  pilotTb  : Nat := 0
  /-- C13: the phase shift commanded at its last period, whether the period before had the same, and the phase shift applied,
  scaled by GEN_FACTOR while charging (R335, R344) -/
  lastPhase : Rat := 0
  phaseKept : Bool := false
  applied  : Rat := 0
  deriving DecidableEq, Repr

/-- The power path (R345, R346, R349, R350): start of the hand-over, the TB from which IB has stood at 42 V since
step 2, the LV results before the last, and the service button and Peat mode in the always-on domain. -/
structure PathSwSt where
  handTb   : Nat := 0
  countTb  : Option Nat := none
  lastV    : Rat := 0
  lastI    : Rat := 0
  /-- the instance runs its presence test (R340) -/
  testing  : Bool := false
  testTb   : Nat := 0
  /-- since when the switch current stands above 450 A (R345), and V_PODL above 20 V (R350) -/
  ocTb     : Option Nat := none
  podlTb   : Option Int := none
  /-- SVC: TB of the press, whether 8 s and 10 s have acted, TB of the last release -/
  svcTb    : Option Int := none
  svc8     : Bool := false
  svc10    : Bool := false
  svcUpTb  : Int := -10000000
  /-- PEAT_CMD accepted at this TB, its entry running; the module is in Peat mode -/
  peatTb   : Option Nat := none
  peat     : Bool := false
  /-- TB of the system reset's decision while its inhibits hold -/
  sysTb    : Option Nat := none
  deriving DecidableEq, Repr

/-- A temperature sensor beyond its object (R364 to R367): rounds in a row outside its window, at or above SHUTDOWN_T in
the last round, whether T_MAX holds a value, time at or above WARN_T in ticks, and the drives it sent to FAULT. -/
structure SensorSt where
  bad    : Nat := 0
  above  : Bool := false
  seen   : Bool := false
  ticks  : Nat := 0
  sent   : List Drive := []
  deriving DecidableEq, Repr

/-- A cell's junction estimate (R365 to R369). -/
structure EstimateSt where
  valid    : Bool := false
  warn     : Bool := false
  throttle : Bool := false
  latch    : Bool := false
  above    : Bool := false
  broken   : Bool := false
  k        : Rat := 1
  sent     : List Drive := []
  /-- event 0x051F is logged for the present ASC -/
  ascSeen  : Bool := false
  deriving DecidableEq, Repr

/-- A voltage monitor: rounds in a row outside its window, and whether V_MIN and V_MAX hold a value (R371). -/
structure VmonSt where
  bad  : Nat := 0
  seen : Bool := false
  deriving DecidableEq, Repr

/-- The Fen round: the trigger of the round that runs and whether it is logged as late, TB of the last evaluation, minute
of the last late round logged, and the dies already logged as aged (R359, R360, R372). -/
structure ThermalSt where
  roundTb  : Option Nat := none
  late     : Bool := false
  evalTb   : Nat := 0
  lateMin  : Option Nat := none
  /-- since when the coolant's rise stands above COOL_DT_MAX while a drive is ACTIVE (R370) -/
  coolTb   : Option Nat := none
  aged     : List Nat := []
  sensors  : Vector SensorSt 64 := Vector.replicate 64 {}
  ests     : Vector EstimateSt 15 := Vector.replicate 15 {}
  vmons    : Vector VmonSt 24 := Vector.replicate 24 {}
  deriving DecidableEq, Repr

/-- The record that the safety data exchange task writes (R391): its TB, OBS_SPEED and TQ_EST of the four sets, and
PARK_STATE of both sides. -/
structure ExchRecord where
  tb    : Nat := 0
  speed : Vector Rat 4 := Vector.replicate 4 0
  tq    : Vector Rat 4 := Vector.replicate 4 0
  park  : Vector Nat 2 := Vector.replicate 2 0
  deriving DecidableEq, Repr

/-- A lane being rebuilt (Table 15.3): the copy runs, it waits for the cycle boundary, it runs as a shadow lane. -/
inductive Rebuild where
  | copying | waiting | shadow
  deriving DecidableEq, Repr

/-- A hand-over (Table 15.7): before the point, H1 and H2 in each direction. -/
inductive HandOver where
  | toPair | toPairH1 | toPairH2 | copying | toTriple | toTripleH1 | toTripleH2
  deriving DecidableEq, Repr

/-- Pyreri beyond its object (R378 to R396). -/
structure PyrSt where
  /-- the lane being rebuilt with its step, odd events of each lane since device reset, end of the resync window -/
  rebuild   : Option (Fin 3 × Rebuild) := none
  oddCount  : Vector Nat 3 := Vector.replicate 3 0
  windowEnd : Option Nat := none
  handOver  : Option HandOver := none
  /-- P2 was halted as the odd lane in H1 -/
  p2Halted  : Bool := false
  /-- start-up tests run again after SPLIT -/
  retest    : Bool := false
  /-- start of the next safety cycle, and of the last one done -/
  due       : Nat := 0
  t0        : Nat := 0
  loads     : List (Nat × Rat) := []
  blockedSec : Option Nat := none
  /-- start of the memory copy into a lane (R385, R392) -/
  copyTb    : Nat := 0
  /-- the lanes and inputs whose values differ (SI0 to SI7 as 0 to 7, the connections as 8 to 23, then six values of each axis), with the run of cycles -/
  laneRuns  : List ((Fin 3 × Nat) × Nat) := []
  /-- the record written last and not yet latched, and the newest valid one -/
  written   : Option ExchRecord := none
  exch      : ExchRecord := {}
  /-- FLT_A and FLT_B asserted by a clock fault until its safety release (R38) -/
  fltClock  : Bool := false
  deriving DecidableEq, Repr

/-- A running SS1 (R406): t0, mode, demand source, SAFE_SPEED at t0, the speed it ends at, and whether it serves Safe
Park. -/
structure Ss1St where
  t0   : Nat
  mode : Nat
  src  : Nat
  n0   : Rat
  stop : Rat
  park : Bool := false
  deriving DecidableEq, Repr

/-- An SLS selection in force (R407): limit number 1 to 4, limit, and the ramp's start value and TB. -/
structure SlsSt where
  sel : Nat
  lim : Rat
  v0  : Rat
  t0  : Nat
  src : Nat
  deriving DecidableEq, Repr

/-- The safety functions of a drive (R399 to R409). -/
structure SafeDrive where
  sto     : Bool := false
  ss1     : Option Ss1St := none
  ss1Done : Bool := false
  sls     : Option SlsSt := none
  /-- SLS has been violated with reaction SS1 and its demand has not been withdrawn since -/
  slsViol : Bool := false
  /-- the drive applies SS1_BRAKE_TQ to stay below the SLS limit -/
  braking : Bool := false
  slt     : Bool := false
  sltSrc  : Nat := 0
  /-- since when SAFE_TQ stands above 1.05 × SLT_LIMIT, E1 and E2 disagree, E2 is invalid -/
  sltTb   : Option Nat := none
  plausTb : Option Nat := none
  e2Tb    : Option Nat := none
  plaus   : Bool := false
  e2Valid : Bool := false
  e1      : Rat := 0
  /-- channels whose read-back differs, since when each does, and those held until it agrees (R394); held by a stale
  exchange (R391) -/
  rbDiff  : Nat := 0
  rbTb    : Vector (Option Nat) 2 := Vector.replicate 2 none
  rbHeld  : Nat := 0
  stale   : Bool := false
  deriving DecidableEq, Repr

/-- A safety input pair (R410 to R412): latched fault, since when the channels disagree, since when both stand at their
demand level, since when the pair stands at its run level, logged as overheld; failed test pulses of each channel, its
own and the other output's; the channels that a lane in the vote reads against their accepted level (R390). -/
structure SafePair where
  fault   : Bool := false
  discTb  : Option Nat := none
  clrTb   : Option Nat := none
  runTb   : Option Nat := none
  overheld : Bool := false
  ownFails : Vector Nat 2 := Vector.replicate 2 0
  crossFails : Vector Nat 2 := Vector.replicate 2 0
  apart   : Vector Bool 2 := Vector.replicate 2 false
  deriving DecidableEq, Repr

/-- A safety output (R415, R416): commanded on, latched fault, TB of the last change, failed read-backs and pulses in a
row, the last pulse. -/
structure SafeOut where
  on      : Bool := false
  fault   : Bool := false
  tb      : Nat := 0
  reads   : Nat := 0
  pulses  : Nat := 0
  pulseNo : Nat := 0
  /-- it has turned itself off in its current limit (R532) -/
  tripped : Bool := false
  deriving DecidableEq, Repr

/-- The safety functions beyond their objects: Safe Park running or held, its step 1 (braking) or 3 (waiting for both
PARK_STATE, since the given TB), confirmed; a committed set that waits for its cycle. -/
structure SafetySt where
  drives  : Vector SafeDrive 6 := Vector.replicate 6 {}
  pairs   : Vector SafePair 4 := Vector.replicate 4 {}
  outs    : Vector SafeOut 4 := Vector.replicate 4 {}
  parkAct : Bool := false
  parkBraking : Bool := false
  parkTb  : Option Nat := none
  parkSrc : Nat := 0
  parked  : Bool := false
  /-- the committed set, and the cycle boundaries still to pass -/
  newSet  : Option (List (Nat × Val) × Nat) := none
  /-- CRC-32C stored with the active set; none: the factory's, which is that of the shipped set -/
  setCrc  : Option Nat := none
  /-- SI0 to SI7 as sampled: level and TB of its last change (R410); the last pulse of TO0 and TO1 (R411) -/
  siRaw   : Vector (Bool × Nat) 8 := Vector.replicate 8 (false, 0)
  pulseNo : Vector Nat 2 := Vector.replicate 2 0
  /-- the active set has failed its check at bring-up, and no set has been activated since (R420) -/
  invalid : Bool := false
  deriving DecidableEq, Repr

/-- A safe frame connection beyond its object (R429 to R438): SEQ 0 has passed in START; PTIME of the last accepted
frame; the accepted payload and the reference of its RELEASE bit; TB of the last accepted frame or valid echo; TB of the
CRC errors of the last second; frames that wait for the next latch with GT_10us at reception (none: not synchronised);
SEQ to echo; own echo sequence; a producer's next SEQ, its last 16 sends, its next send and its FAULT. -/
structure ConnSt where
  seq0     : Bool := false
  ptime    : Option Nat := none
  payload  : Nat := 0
  release  : Option Bool := none
  wdgTb    : Nat := 0
  crcTimes : List Nat := []
  wrapLogged : Bool := false
  discSec  : Option Nat := none
  buffer   : List (List Byte × Option Nat) := []
  echoDue  : List Nat := []
  echoSeq  : Nat := 0
  next     : Nat := 0
  sent     : List (Nat × Nat) := []
  dueTb    : Nat := 0
  faultTb  : Nat := 0
  deriving DecidableEq, Repr

/-- A check-value unit: its register, and the session it is bound to with the TB of the last access (R443, R444). -/
structure CrcUnit where
  reg   : Nat := 0
  bound : Option (Requester × Nat) := none
  deriving DecidableEq, Repr

/-- A transmit slot: the message that waits, the TB of its stale deadline, held through a bus-off, SLOT_STALE_us (R453,
R456). -/
structure SlotSt where
  msg      : Option CanMsg := none
  deadline : Option Nat := none
  held     : Bool := false
  staleUs  : Nat := 0
  deriving DecidableEq, Repr

/-- An entry of a receive queue: frame, matching filter, timestamp (R451). -/
structure RxEntry where
  msg    : CanMsg
  filter : Nat
  ts     : Nat
  deriving DecidableEq, Repr

/-- A CAN channel beyond its object: takes part in traffic; bus-off; held off-line by a clock fault; the error counters;
RESTRICTED in force; slots and FIFO; the message offered on the bus (a slot, or 16 for the FIFO's head); TB of the last
bus-off (R456) and since when no cause keeps the channel off-line (R458); receive queues; the second of the last drop logged. -/
structure ChanSt where
  online    : Bool := false
  busOff    : Bool := false
  clockHold : Bool := false
  tec       : Nat := 0
  rxErr     : Nat := 0
  restricted : Bool := false
  slots     : Vector SlotSt 16 := Vector.replicate 16 {}
  fifo      : List CanMsg := []
  onBus     : Option Nat := none
  busOffTb  : Nat := 0
  freeTb    : Option Nat := none
  rxq0      : List RxEntry := []
  rxq1      : List RxEntry := []
  dropSec   : Option Nat := none
  deriving DecidableEq, Repr

/-- Global time (R459 to R463): offset to TB, synchronised, master; references applied and rejected in a row;
ranks heard with their TB; the reference before, as rank and start of frame; references used since the last start (R463); start of
frame of the own last reference and the millisecond it was written for; TB from which silence counts; TB of the last
reference; TB from which the 5 ms of R461 count. -/
structure TimeSt where
  offset    : Int := 0
  sync      : Bool := false
  master    : Bool := false
  applied   : Nat := 0
  rejected  : Nat := 0
  heard     : List (Nat × Nat) := []
  prev      : Option (Nat × Nat) := none
  used      : Nat := 0
  sentSof   : Option Nat := none
  sentMs    : Nat := 0
  refTb     : Nat := 0
  rank      : Nat := 0
  lossTb    : Nat := 0
  deriving DecidableEq, Repr

/-- ISO 11783 on CAN-A (R464 to R467): the address claimed or being claimed, the TB of the claim, whether none is free;
NAME and PGN base in force; addresses others hold; the alive value of the last command of each function; TB of the last
fresh one; A_REJECTS at the last status; alive values of the status messages and the TB they are next due. -/
structure CanASt where
  addr     : Option Nat := none
  claimTb  : Option Nat := none
  cannot   : Bool := false
  name     : Nat := 0
  pgnBase  : Nat := 0xFFA0
  taken    : List (Nat × Nat) := []
  alive    : List (Nat × Nat) := []
  cmdTb    : Nat := 0
  lost     : Bool := false
  rejects  : Nat := 0
  txAlive  : Vector Nat 4 := Vector.replicate 4 0
  dueTb    : Nat := 0
  deriving DecidableEq, Repr

/-- A segmented SDO transfer in progress (R476). -/
structure SdoSt where
  write  : Bool := false
  key    : Nat := 0
  data   : List Byte := []
  toggle : Bool := false
  lastTb : Nat := 0
  deriving DecidableEq, Repr

/-- A session (R479): an Ethernet peer's, or the CAN-D path's, with its role and its own selectors (R255, R479). -/
structure SessionSt where
  isOpen    : Bool := false
  localSvc  : Bool := false
  role      : Role := .operator
  ip        : Nat := 0
  port      : Nat := 0
  clientId  : Nat := 0
  reqRole   : Nat := 0
  /-- the nonce and the TB of its issue (R480) -/
  nonce     : Option (List Byte × Nat) := none
  /-- TB of the last request -/
  lastTb    : Nat := 0
  /-- REQ_ID and answer of the last request (R477) -/
  cached    : Option (Nat × List Byte) := none
  taskSel   : Nat := 0
  sensorSel : Nat := 0
  vmonSel   : Nat := 0
  occSel    : Nat := 0
  filterSel : Vector Nat 4 := Vector.replicate 4 32
  slotSel   : Vector Nat 4 := Vector.replicate 4 0
  logSel    : Nat := 0
  readOffset : Nat := 0
  sdo       : Option SdoSt := none
  /-- staging image of the safety set and SET_CRC written (R418) -/
  staging   : Option (List (Nat × Val)) := none
  setCrc    : Option Nat := none
  deriving DecidableEq, Repr

/-- The failures and the lock of a service path, held in the always-on domain (R481). -/
structure PathSt where
  failRun   : Nat := 0
  lockLevel : Nat := 0
  /-- TB at which the lock ends -/
  lockEnd   : Option Nat := none
  deriving DecidableEq, Repr

/-- Sessions, paths, keys and the arbitration of one tick (R476 to R486); a key of none is the factory-loaded one. -/
structure SessionsSt where
  table      : Vector SessionSt 5 := Vector.replicate 5 {}
  ethPath    : PathSt := {}
  canPath    : PathSt := {}
  keyService : Option (List Byte) := none
  keySafety  : Option (List Byte) := none
  /-- accepted writes of this tick: key, TB, rank -/
  writes     : List (Nat × Nat × Nat) := []
  arbSec     : Option Nat := none
  linkUp     : Bool := false
  /-- NODE_ID, PHY role, address, mask and gateway in force since the device reset (R496, R497) -/
  nodeId     : Nat := 0x10
  phyMaster  : Bool := false
  ipAddr     : Nat := 0xC0A8490A
  ipMask     : Nat := 0xFFFFFF00
  ipGateway  : Nat := 0
  deriving DecidableEq, Repr

/-- States of an image bank (Table 20.6). -/
inductive BankState where
  | invalid | erased | writing | verified | committed
  deriving DecidableEq, Repr

def BankState.code : BankState → Nat
  | .invalid => 0 | .erased => 1 | .writing => 2 | .verified => 3 | .committed => 4

/-- An image bank (R500, R501): header and payload as programmed, FW_VERSION, generation of the newest valid marker, marker
slots used. -/
structure BankSt where
  state   : BankState := .invalid
  image   : List Byte := []
  version : Nat := 0
  gen     : Nat := 0
  markers : Nat := 0
  deriving DecidableEq, Repr

/-- Images (R500 to R510): the active bank, both banks, the progress record in the vendor area, the server's transfer
identifier, and the last packet sent with its TB and resends. -/
structure ImgSt where
  active   : Fin 2 := 0
  banks    : Vector BankSt 2 := #v[{ state := .committed, version := 0x00040200, gen := 1, markers := 1 }, {}]
  progress : Bool := false
  tid      : Option Nat := none
  packet   : List Byte := []
  sentTb   : Nat := 0
  resends  : Nat := 0
  /-- flash program pulses under way: TB of the first one's start, their number and length in µs (R51) -/
  pulseTb  : Nat := 0
  pulseN   : Nat := 0
  pulseUs  : Nat := 0
  /-- pulses held back while hold-up carries the electronics (R43), and the generation of the other bank before a marker
  that such a pulse is to write -/
  pulseHeld : Nat := 0
  markerHeld : Option Nat := none
  /-- the marker pulse of the running update has begun; UPD_CMD 0 has met it (Table 20.5) -/
  marker   : Bool := false
  abort    : Bool := false
  deriving DecidableEq, Repr

/-- Capture (R511 to R514): stored rows, newest first, each as single-precision patterns with its TB; rows still to store
after the trigger; rows of the datagram being filled; the second of the last drop logged; TB of the last row taken. -/
structure CapSt where
  rows     : List (Nat × List (BitVec 32)) := []
  postLeft : Nat := 0
  fill     : List (Nat × List (BitVec 32)) := []
  dropSec  : Option Nat := none
  rowTb    : Option Nat := none
  deriving DecidableEq, Repr


/-- Raised by the step of a command that meets a part of the state no run of the block reaches. No command of this
model raises it; it is safe. -/
inductive Fault where
  | unreachable
  deriving DecidableEq, Repr

/-- `notModelled`: raised by `exec` for a command that has no meaning yet; safe. -/
inductive Refusal where
  | notModelled (mnemonic : String)
  deriving DecidableEq, Repr

/-- The block. -/
structure State where
  /-- the object dictionary: keys strictly rising, no entry equal to its default -/
  od       : List (Nat × Val) := []
  /-- ticks of 10 ns since the device reset: the timebase TB, but for the time in which TB stands still (R7, R38) -/
  tb       : Nat := 0
  /-- how many open values have been drawn (the model's own field, DESIGN CHOICE, assumption 5) -/
  fresh    : Nat := 0
  /-- what the last command sent out, in order (the model's own field) -/
  out      : List Output := []
  log      : LogSt := {}
  bringup  : BringupSt := {}
  clocks   : ClockSt := {}
  links    : Vector LinkSt 3 := Vector.replicate 3 {}
  drives   : Vector DriveSt 6 := Vector.replicate 6 {}
  cells    : Vector CellSt 15 := Vector.replicate 15 {}
  legs     : Vector LegSt 50 := Vector.replicate 50 {}
  store    : StoreSt := {}
  /-- customer area of the retained store (R57, R58): addresses 0 to 8,191 strictly rising, no entry of the value 0 that
  an unlisted address reads as -/
  cust     : List Host.Cell := []
  shunts   : Vector ShuntSt 50 := Vector.replicate 50 {}
  seqs     : Vector SeqSt 8 := Vector.replicate 8 {}
  gcps     : Vector GcpSt 16 := Vector.replicate 16 {}
  axes     : Vector AxisSt 8 := Vector.replicate 8 {}
  traction : Vector TractionSt 2 := Vector.replicate 2 {}
  pifs     : Vector PifSt 12 := Vector.replicate 12 {}
  lus      : Vector LuSt 24 := Vector.replicate 24 {}
  /-- control inputs of the stage cells C00 to C14 (destination 0x05nn) and the charge-current command to the buck
  (0x0700) of Table 8.2 -/
  stageIn  : Vector Rat 15 := Vector.replicate 15 0
  lvCommand : Rat := 0
  engines  : Vector EngSt 24 := Vector.replicate 24 {}
  tasks    : Vector TaskSt 59 := Vector.replicate 59 {}
  pool     : PoolSt := {}
  gbx      : GbxSt := {}
  dcl      : DclSt := {}
  aux      : AuxSt := {}
  chg      : ChgSt := {}
  path     : PathSwSt := {}
  thermal  : ThermalSt := {}
  pyr      : PyrSt := {}
  safety   : SafetySt := {}
  conns    : Vector ConnSt 16 := Vector.replicate 16 {}
  crcs     : Vector CrcUnit 4 := Vector.replicate 4 {}
  chans    : Vector ChanSt 4 := Vector.replicate 4 {}
  time     : TimeSt := {}
  canA     : CanASt := {}
  sessions : SessionsSt := {}
  img      : ImgSt := {}
  cap      : CapSt := {}
  pending  : List Instr := []
  deriving DecidableEq, Repr

/-- The block after its first always-on power-on reset, before the release of reset: every object at its default but for
BKP15 bit 0, the battery switch, which closes as soon as the always-on domain is supplied (R61; VR is on the battery and
the switch ON, the values of BAT_SW_MODE and VR_SOURCE with no value listed); the timebase at 0, no event logged, no
command waiting (DESIGN CHOICE, assumption 59). -/
def State.reset : State := { od := [(0x200510, .int 1)] }

end Sys2Proof.Machine
end

