-- ==== Sys2Proof/Machine/Ops.lean ====
section
/-! DEFINITION. The named operations every command is built from: the object dictionary's store, the start of a
command, open values, the event log, the drives' states and severities, the cells' protective states, torque off, and
the access checks of an object write. -/
namespace Sys2Proof

/-- The drive-state event of a drive (Tables 5.17, 10.19, 11.11, 12.11, 13.29). -/
def Drive.stateEvent : Drive → Nat
  | .tra => 0x0501 | .trb => 0x0501 | .gbx => 0x0801 | .brk => 0x0901 | .aux => 0x0A01 | .chg => 0x0B01

/-- The session record of a requester: the Ethernet peers' and the CAN-D path's. -/
def Requester.sess : Requester → Option (Fin 5)
  | .eth i => some ⟨i.val, by omega⟩ | .canD => some 4 | _ => none

/-- The side of a drive: TRA 0, TRB 1. -/
def Drive.side (d : Drive) : Fin 2 := if d = .trb then 1 else 0

/-- Roles in the order of their rights (Table 19.2) and their OWN_ROLE codes. -/
def Role.num : Role → Nat
  | .operator => 0 | .service => 1 | .safety => 2

end Sys2Proof

namespace Sys2Proof.Machine

/-- What a command answers. -/
abbrev Res := Host.Outcome State Fault Refusal

/-- The answer of a command: the state it leaves, with the queue as it stood before; a command acts on everything but
the queue. -/
def reply (s t : State) : Res := .next { t with pending := s.pending }

/-! ### The store -/

/-- The first entry of a key. -/
def storeFind (k : Nat) : List (Nat × Val) → Option Val
  | [] => none
  | (a, v) :: t => if a = k then some v else storeFind k t

/-- Puts an entry in its place among rising keys. -/
def storeInsert (k : Nat) (v : Val) : List (Nat × Val) → List (Nat × Val)
  | [] => [(k, v)]
  | (a, w) :: t => if k < a then (k, v) :: (a, w) :: t else if a = k then (k, v) :: t else (a, w) :: storeInsert k v t

/-- Removes every entry of a key. -/
def storeErase (k : Nat) : List (Nat × Val) → List (Nat × Val)
  | [] => []
  | (a, w) :: t => if a = k then storeErase k t else (a, w) :: storeErase k t

/-- Keys strictly rising and no entry equal to its default: equal dictionaries are equal lists. -/
def storeWf : List (Nat × Val) → Bool
  | [] => true
  | (a, v) :: t => (v != dictDefault a) && (t.all fun e => decide (a < e.1)) && storeWf t

/-- The value of an object. -/
def State.get (s : State) (k : Nat) : Val := (storeFind k s.od).getD (dictDefault k)

/-- Gives an object a value; giving it its default removes its entry. -/
def State.set (s : State) (k : Nat) (v : Val) : State :=
  { s with od := if v = dictDefault k then storeErase k s.od else storeInsert k v s.od }

def State.int (s : State) (k : Nat) : Int := (s.get k).toInt
def State.nat (s : State) (k : Nat) : Nat := (s.get k).toInt.toNat
def State.num (s : State) (k : Nat) : Rat := (s.get k).toRat
def State.flag (s : State) (k : Nat) : Bool := (s.get k).toInt != 0
/-- Bit `i` of an object that is a status word. -/
def State.bit (s : State) (k i : Nat) : Bool := (s.nat k).testBit i
/-- Field [lo + w − 1 : lo] of an object. -/
def State.field (s : State) (k lo w : Nat) : Nat := s.nat k / 2 ^ lo % 2 ^ w

def State.setI (s : State) (k : Nat) (v : Int) : State := s.set k (.int v)
def State.setN (s : State) (k : Nat) (v : Nat) : State := s.set k (.int v)
def State.setQ (s : State) (k : Nat) (q : Rat) : State := s.set k (.num q)
def State.setFlag (s : State) (k : Nat) (b : Bool) : State := s.set k (.int (if b then 1 else 0))

/-- A number with bit `i` set to `b`. -/
def withBit (n i : Nat) (b : Bool) : Nat :=
  if n.testBit i = b then n else if b then n + 2 ^ i else n - 2 ^ i

/-- A number with field [lo + w − 1 : lo] replaced by `v`. -/
def withField (n lo w v : Nat) : Nat := n - n / 2 ^ lo % 2 ^ w * 2 ^ lo + v % 2 ^ w * 2 ^ lo

def State.setBit (s : State) (k i : Nat) (b : Bool) : State := s.setN k (withBit (s.nat k) i b)
def State.setField (s : State) (k lo w v : Nat) : State := s.setN k (withField (s.nat k) lo w v)

/-- Applies an update for every element of a list, in order. -/
def State.each {α : Type} (s : State) (l : List α) (f : α → State → State) : State := l.foldl (fun s a => f a s) s

/-- Applies an update when a condition holds. -/
def State.when (s : State) (c : Bool) (f : State → State) : State := if c then f s else s

/-! ### Commands, time and open values -/

/-- Time passes (R494): the control island is supplied from the release of reset on; TRA or TRB is ACTIVE. -/
def LogSt.elapse (l : LogSt) (dt : Nat) (up active : Bool) : LogSt :=
  { l with opTicks := l.opTicks + (if up then dt else 0), actTicks := l.actTicks + (if active then dt else 0) }

/-- TRA or TRB is ACTIVE. -/
def State.tractionActive (s : State) : Bool :=
  decide ((s.drives.get 0).state = .active) || decide ((s.drives.get 1).state = .active)

/-- The start of every command: `dt` ticks have passed since the one before, whose outputs are done with. -/
def State.elapse (s : State) (dt : Nat) : State :=
  { s with
    tb := s.tb + dt, out := [], log := s.log.elapse dt (decide (1 ≤ s.bringup.step)) s.tractionActive }

def State.emit (s : State) (o : Output) : State := { s with out := s.out ++ [o] }

/-- Uses up one open value; the value drawn is the Config constant at the count before. -/
def State.draw (s : State) : State := { s with fresh := s.fresh + 1 }

/-! ### Rounding -/

/-- Rounded to nearest, ties upward (R113; R104, R105, R215 and R231 state no ties, DESIGN CHOICE, assumption 8). -/
def roundNear (q : Rat) : Int := (q + 1 / 2).floor

/-- The low 16 bits of a rounded value, for a detail field. -/
def low16 (q : Rat) : Nat := (roundNear q % 65536).toNat

/-! ### Counters (R13, R491) -/

/-- A SATURATE counter: its object, width in bits, the flag that says it has saturated, and its event group. -/
structure Counter where
  key   : Nat
  width : Nat
  flag  : Nat
  bit   : Nat
  group : Nat
  deriving DecidableEq, Repr

/-- Counts `n` occurrences: the counter stops at its largest value; the first count that it cannot take sets its overflow
flag and the group bit of CNT_OVF_MAP (R13, R491; that reaching the value sets none is DESIGN CHOICE, assumption 10). -/
def State.countBy (s : State) (c : Counter) (n : Nat) : State :=
  if s.nat c.key + n < 2 ^ c.width then s.setN c.key (s.nat c.key + n)
  else ((s.setN c.key (2 ^ c.width - 1)).setBit c.flag c.bit true).setBit Od.CNT_CNT_OVF_MAP c.group true

def State.count (s : State) (c : Counter) : State := s.countBy c 1

/-- Counts a WIDE counter, which no run of 25 years fills (R13). -/
def State.countWide (s : State) (k : Nat) : State := s.setN k (s.nat k + 1)

/-- A datagram leaves the Ethernet port, while the link is up; one is received (R496). -/
def State.sendUdp (s : State) (src dst port : Nat) (data : List Byte) : State :=
  if s.sessions.linkUp then (s.emit (.udp src dst port data)).countWide Od.ETH_TX_FRAMES else s
def State.ethReceived (s : State) : State := if s.sessions.linkUp then s.countWide Od.ETH_RX_FRAMES else s

/-! ### The event log (R488 to R490, R69) -/

/-- Adds one to the count of an event code, at most 255 (R490). -/
def occBump (code : Nat) : List (Nat × Nat) → List (Nat × Nat)
  | [] => [(code, 1)]
  | (c, n) :: t => if c = code then (c, if n < 255 then n + 1 else n) :: t
                   else if code < c then (code, 1) :: (c, n) :: t else (c, n) :: occBump code t

/-- The count of a code stands at its largest value (R13, R491). -/
def occFull (code : Nat) (l : List (Nat × Nat)) : Bool := l.any fun e => e.1 == code && e.2 == 255

/-- An event happens: it enters the log buffer of 32 entries with its own TB, or, before step 7 of bring-up, the
events held for it; an event that finds the buffer full is counted in LOST. Its occurrence is counted if it is FAULT or
SAFE (R69, R488, R490). -/
def LogSt.push (l : LogSt) (up : Bool) (e : LogEntry) : LogSt :=
  let l := if e.sev = .fault ∨ e.sev = .safe then
      { l with faultOcc := occBump e.code l.faultOcc, occOvf := l.occOvf || occFull e.code l.faultOcc } else l
  if up then
    if l.buffer.length < 32 then { l with buffer := l.buffer ++ [e] }
    else if l.lost < 65535 then { l with lost := l.lost + 1 } else { l with lostOvf := true }
  else { l with held := l.held ++ [e] }

/-- The log takes events at once from step 7 on, and in TRIM_FAULT and IMAGE_FAULT (R69). -/
def State.logReady (s : State) : Bool := decide (7 ≤ s.bringup.step) || s.bringup.trimFault || s.bringup.imageFault

/-- The bit of Table 1.13 of a clock monitor by its key: a domain's own, the forwarded clock's check of an island die (keys 16
to 18), Pyreri's own monitor (19). -/
def faultBit (id : Nat) : Nat := if id < 16 then id else if id < 19 then 2 * (id - 16) else 9

/-- A monitor of a bit has declared a fault. -/
def State.clockFaulty (s : State) (bit : Nat) : Bool := s.clocks.faults.any fun i => faultBit i == bit

/-- TB: it stands still while the clock of island C's converters is in fault (R7, R38). -/
def State.timebase (s : State) : Nat := s.clocks.stopTb.getD s.tb - s.clocks.lag

/-- An island die's own copy of TB, with which it stamps its samples and events (R15, R25). -/
def State.dieTb (s : State) (l : Link) : Nat := ((s.timebase : Int) + (s.links.get l.idx).tbSkew).toNat

/-- The island die that finds and stamps an event; none for those of island C: the cells' and shunts' events but a change of
band, the converters', sequencers' and comparators', an axis unit's and an observer's own, and those of P4 to P11 (R25;
which die finds an event is DEDUCED from Table 1.2, assumption 62). -/
def eventDie (code source detail : Nat) : Option Link :=
  let gc (g : Nat) : Option Link := match g with | 0 => some .t | 1 => some .g | 2 => some .l | _ => none
  match code / 256 with
  | 3 => if code = 0x030B then none else some (cellLink source)
  | 4 =>
    if code ≤ 0x0404 then some (cellLink source)
    else if code = 0x0406 then gc (detail % 256)
    else if code = 0x0410 then gc (detail % 256 / 4) else gc (detail % 256 / 2)
  | 5 => if [0x0506, 0x0510, 0x0511, 0x0512, 0x0513, 0x0515, 0x0516, 0x0517, 0x0518, 0x0519, 0x051B].contains code then
      some (cellLink source) else none
  | 6 => if 0x44 ≤ source ∧ source ≤ 0x4B then some .l else none
  | _ => none

/-- The TB of the die of an event, or of island C. -/
def State.stampOf (s : State) (l : Option Link) : Nat := match l with | some l => s.dieTb l | none => s.timebase

/-- Logs an event with its TB, source byte and detail. -/
def State.event (s : State) (code source detail : Nat) : State :=
  let e : LogEntry := ⟨s.stampOf (eventDie code source detail), code, source, eventSeverity code, detail⟩
  { s with log := s.log.push s.logReady e }

/-- LAST_EVENT of a drive. -/
def State.lastEvent (s : State) (d : Drive) (code : Nat) : State :=
  { s with log := { s.log with lastEvent := (d.num, code) :: s.log.lastEvent.filter fun e => e.1 != d.num } }

/-! ### Drives, cells and legs -/

def State.drv (s : State) (d : Drive) : DriveSt := s.drives.get d.idx
def State.modDrv (s : State) (d : Drive) (f : DriveSt → DriveSt) : State := { s with drives := upd s.drives d.idx f }
def State.ds (s : State) (d : Drive) : DriveState := (s.drv d).state
def State.cell (s : State) (c : Cell) : CellSt := s.cells.get c
def State.modCell (s : State) (c : Cell) (f : CellSt → CellSt) : State := { s with cells := upd s.cells c f }
def State.leg (s : State) (l : Leg) : LegSt := s.legs.get l
def State.modLeg (s : State) (l : Leg) (f : LegSt → LegSt) : State := { s with legs := upd s.legs l f }
def State.link (s : State) (l : Link) : LinkSt := s.links.get l.idx
def State.modLink (s : State) (l : Link) (f : LinkSt → LinkSt) : State := { s with links := upd s.links l.idx f }

/-- Leg number `n` of the build; the last leg for numbers the build does not have. -/
def legOf (n : Nat) : Leg := if h : n < 50 then ⟨n, h⟩ else 49
def cellOf (n : Nat) : Cell := if h : n < 15 then ⟨n, h⟩ else 14

/-- The legs of a cell (Table 1.3). -/
def cellLegList (c : Cell) : List Leg := (List.range (cellLegs c)).map fun i => legOf (cellFirstLeg c + i)

/-- DWELL_MIN_ns of a leg in ticks. -/
def State.dwellTicks (s : State) (l : Leg) : Nat := (s.nat (Od.CELL_DWELL_MIN_ns (legCell l)) + 9) / 10

/-- An edge of a leg commanded within 10 ns after a sample instant: the sample is not valid (R101). -/
def State.spoilSample (s : State) (l : Leg) : State :=
  match (s.leg l).sampleTb with
  | some t => if t < s.tb ∧ s.tb ≤ t + 1 then s.setBit (Od.SH_CH_STATUS l) 2 false else s
  | none => s

/-- A leg takes a level; a change starts its dwell (R93), and a switching edge takes the dead time and blanking of the
cell's present band (R76). -/
def State.setLeg (s : State) (l : Leg) (lv : LegLevel) : State :=
  if (s.leg l).level = lv then s
  else (s.spoilSample l).modLeg l fun g => { g with
      level := lv, prev := g.level, edgeTb := s.tb, prevTb := g.edgeTb, dwellEnd := s.tb + s.dwellTicks l
      band := if (s.cell (cellOf (legCell l))).mode = .switching then s.nat (Od.CELL_CELL_BAND (legCell l)) else g.band }

def State.setLegs (s : State) (c : Cell) (lv : LegLevel) : State := s.each (cellLegList c) fun l s => s.setLeg l lv

/-- Time in ASC of a set (Table 6.9). -/
def ctrAscTime (n : Nat) : Counter := ⟨Od.OBS_ASC_TIME_ms n, 32, Od.OBS_OBS_CNT_STATUS n, 4, 5⟩

/-- The time that a cell has spent in ASC is added, in whole milliseconds over all its stays (R179). -/
def State.countAsc (s : State) (c : Cell) : State :=
  if (s.cell c).mode = .asc then
    let t := (s.cell c).ascRest + (s.tb - (s.cell c).ascTb)
    (s.countBy (ctrAscTime c) (t / 100000)).modCell c fun x => { x with ascTb := s.tb, ascRest := t % 100000 }
  else s

/-- Every switch of a cell goes off; a stage modulator's pulse ends. -/
def State.stopLegs (s : State) (c : Cell) : State :=
  (s.setLegs c .off).each (cellLegList c) fun l s => s.modLeg l fun g => { g with offTb := min g.offTb s.tb }

/-- Normal turn-off of a cell: every switch off, gate supplies unchanged; the cell coasts (R94). A soft turn-off that runs
completes unchanged (R89). -/
def State.coastCell (s : State) (c : Cell) : State :=
  if (s.cell c).mode = .softOff then s
  else ((s.countAsc c).stopLegs c).modCell c fun x => { x with mode := if x.supLo then .coast else .off }

/-- A stage cell: its legs switch by the pulses of its stage modulator's periods. -/
def stageCell (c : Cell) : Bool := decide (8 ≤ c.val)

/-- A stage cell's leg stands in the pulse of its present period. -/
def LegSt.inPulse (g : LegSt) (now : Nat) : Bool := decide (g.onTb ≤ now ∧ now < g.offTb)

/-- The level that a leg of a switching stage cell has: the high side on in the pulse, else the low side; of the chopper legs,
whose pulses are the low side's, the low side in the pulse and while both legs conduct throughout, else none (R92); of a
shed buck phase, and of every phase in load release, none (R308, R312). -/
def State.stageLevel (s : State) (l : Leg) : LegLevel :=
  if 48 ≤ l.val then (if (s.leg l).inPulse s.tb || s.num Od.DCL_CHOP_DUTY = 1 then .low else .off)
  else if legCell l = 10 ∧ (s.aux.shed.contains (legPos l) ∨ s.bit Od.CNV_AUX_STATUS 8) then .off
  else if (s.leg l).inPulse s.tb then .high else .low

/-- The present level of a leg of a switching cell. -/
def State.legLevel (s : State) (l : Leg) : LegLevel :=
  if stageCell (cellOf (legCell l)) then s.stageLevel l else (s.leg l).level

/-- TB of the last switching edge of a leg. -/
def State.lastEdge (s : State) (l : Leg) : Nat :=
  let g := s.leg l
  if stageCell (cellOf (legCell l)) then
    max g.edgeTb (if g.offTb ≤ s.tb then g.offTb else if g.onTb ≤ s.tb then g.onTb else 0)
  else g.edgeTb

/-- The TB of a pre-charge pulse: eight of 2 µs, 20 µs apart (Table 3.4). -/
def State.inPulse (s : State) (c : Cell) : Bool :=
  let t := s.tb - (s.cell c).pulseTb
  decide (t % us 20 < us 2 ∧ t < us 142)

/-- A switch of a leg is commanded on: in a pre-charge pulse the low sides are. -/
def State.switchOn (s : State) (l : Leg) (high : Bool) : Bool :=
  let c := cellOf (legCell l)
  match (s.cell c).mode with
  | .switching => s.legLevel l == (if high then .high else .low)
  | .asc => (s.leg l).level == (if high then .high else .low)
  | .softOff => (s.cell c).plateau.contains (legPos l) && (s.leg l).level == (if high then .high else .low)
  | .precharge => !high && s.inPulse c
  | .off | .coast | .selftest => false

/-- The positions of the legs of which a switch conducts. -/
def State.conducting (s : State) (c : Cell) : List Nat :=
  (List.range (cellLegs c)).filter fun i =>
    s.switchOn (legOf (cellFirstLeg c + i)) true || s.switchOn (legOf (cellFirstLeg c + i)) false

/-- The leg switching counters of a cell go to the parameter store (R95). -/
def State.saveLegs (s : State) (c : Cell) : State :=
  { s with store := { s.store with legSwitches := (cellLegList c).foldl (fun v l =>
    upd v l fun _ => s.nat (Od.CELL_LEG_SWITCHES c (legPos l))) s.store.legSwitches } }

/-- The gate supplies of a cell are removed, so every switch is off (R72). -/
def State.offCell (s : State) (c : Cell) : State :=
  ((s.countAsc c).stopLegs c).modCell c fun x => { x with
    mode := .off, supHi := false, supLo := false, precharged := false, armStep := 0, selftest := false, plateau := [] }

/-! ### Object writes (R474, R475, R484, R486) -/

def State.sessOf (s : State) (who : Requester) : SessionSt :=
  match who.sess with
  | some i => s.sessions.table.get i
  | none => {}

def State.modSess (s : State) (who : Requester) (f : SessionSt → SessionSt) : State :=
  match who.sess with
  | some i => { s with sessions := { s.sessions with table := upd s.sessions.table i f } }
  | none => s

/-- The role a requester acts in: CAN-A has the rights of an OPERATOR (R474), Pyreri writes as the safety controller. -/
def State.roleOf (s : State) : Requester → Role
  | .pyreri => .safety | .canA => .operator
  | .canD => (s.sessOf .canD).role
  | .eth i => (s.sessOf (.eth i)).role

/-- Source codes of Table 19.5. -/
def State.codeOf (s : State) : Requester → Nat
  | .pyreri => 0x01
  | .eth i => if (s.sessOf (.eth i)).localSvc then 0x40 + i.val else 0x30 + i.val
  | .canD => 0x20
  | .canA => 0x10

/-- Ranks of Table 19.5; two peers of one rank stand in the order of their slots (R486). -/
def State.rankOf (s : State) : Requester → Nat
  | .pyreri => 8
  | .eth i => if (s.sessOf (.eth i)).localSvc then 16 + i.val else 24 + i.val
  | .canD => 32
  | .canA => 40

def State.owner (s : State) (d : Drive) : Nat := s.nat (Od.OWN_OWNER d.num)

/-- The requester owns the drive (R484). -/
def State.owns (s : State) (who : Requester) (d : Drive) : Bool := s.owner d == s.codeOf who

/-- The object dictionary answers: from step 7 of bring-up (R62). -/
def State.dictUp (s : State) : Bool := decide (7 ≤ s.bringup.step)
/-- Only the diagnostic path answers (R56, R503). -/
def State.diagOnly (s : State) : Bool := s.bringup.trimFault || s.bringup.imageFault

def ctrARejects : Counter := ⟨Od.CAN_A_REJECTS 0, 32, Od.CAN_CAN_CNT_STATUS 0, 7, 0x0F⟩
def ctrArbAborts : Counter := ⟨Od.OWN_ARB_ABORTS, 32, Od.OWN_OWN_STATUS, 8, 0x10⟩

/-- A request of a session: its path's session opens as OPERATOR at the first one (R479), a local service session while
PODL_ONLY is set (R478), and the time since the last request starts (R483). -/
def State.touch (s : State) (who : Requester) : State :=
  let s := s.when who.sess.isSome fun s => s.countWide Od.SVC_REQUESTS
  s.modSess who fun x =>
    if x.isOpen then { x with lastTb := s.tb }
    else { x with
      isOpen := true, lastTb := s.tb, logSel := s.log.written, localSvc := s.bringup.podlOnly && who != .canD }

/-- Answers an access: the new state with status 0, or the state unchanged with the abort code. CAN-A is not answered;
its refused commands are counted in A_REJECTS (R465, R484). -/
def State.answer (s : State) (who : Requester) (r : Except Nat State) : State :=
  match r with
  | .ok t => if who = .canA then t else t.emit (.response who 0 [])
  | .error c => if who = .canA then s.count ctrARejects else s.emit (.response who c [])

/-- A write of the same object, in this same tick, by a source of higher rank stands (R486). -/
def State.arbLost (s : State) (who : Requester) (key : Nat) : Bool :=
  s.sessions.writes.any fun w => w.1 == key && w.2.1 == s.tb && decide (w.2.2 < s.rankOf who)

/-- An earlier accepted write of this tick by a source of lower rank gives way (R486). -/
def State.arbWon (s : State) (who : Requester) (key : Nat) : Bool :=
  s.sessions.writes.any fun w => w.1 == key && w.2.1 == s.tb && decide (s.rankOf who < w.2.2)

/-- A write aborted by arbitration is counted and logged, first in each second (R486). -/
def State.arbCount (s : State) (who : Requester) (key : Nat) : State :=
  let s := s.count ctrArbAborts
  if s.sessions.arbSec = some (s.tb / 100000000) then s
  else ({ s with sessions := { s.sessions with arbSec := some (s.tb / 100000000) } }).event 0x1007 (s.codeOf who)
    (key % 16777216)

/-- Keeps the accepted writes of this tick. -/
def State.noteWrite (s : State) (who : Requester) (key : Nat) : State :=
  { s with sessions := { s.sessions with
    writes := (key, s.tb, s.rankOf who) :: s.sessions.writes.filter fun w => w.2.1 == s.tb && w.1 != key } }

/-- The objects of Table 18.5, the only ones that CAN-A process data writes (R474). -/
def canAKeys : List Nat :=
  [Od.AXLE_AXLE_TQ_SET, Od.AXLE_YAW_TQ_SET, Od.AXLE_AXLE_DIRECTION, Od.TR_TQ_SET 0, Od.TR_TQ_SET 1, Od.TR_DIRECTION 0,
    Od.TR_DIRECTION 1, Od.TR_CONTROL 0, Od.TR_CONTROL 1, Od.SHF_SHIFT_CMD 0, Od.SHF_SHIFT_CMD 1, Od.PRK_PARK_CMD 0,
    Od.PRK_PARK_CMD 1]

/-- The drive that a block belongs to, by its object: cells, their shunt channels, axis units, observers, position
interfaces, loop units (as assigned), and the converter, charger, solenoid, shift and park units (DEDUCED,
assumption 51). -/
def State.blockDrive (s : State) (key : Nat) : Option Nat :=
  let i := key / 256 % 65536
  if 0x2400 ≤ i ∧ i ≤ 0x240E then some (cellDrive (i - 0x2400)).num
  else if 0x2500 ≤ i ∧ i ≤ 0x2531 then some (cellDrive (legCell (i - 0x2500))).num
  else if 0x2600 ≤ i ∧ i ≤ 0x2607 then some (cellDrive (i - 0x2600)).num
  else if 0x2620 ≤ i ∧ i ≤ 0x2627 then some (cellDrive (i - 0x2620)).num
  else if 0x2640 ≤ i ∧ i ≤ 0x264B then some (if i ≤ 0x2641 then 0 else if i ≤ 0x2643 then 1 else 2)
  else if 0x2700 ≤ i ∧ i ≤ 0x2717 then some (s.nat (Od.LU_DRIVE (i - 0x2700)))
  else if (0x2820 ≤ i ∧ i ≤ 0x2827) ∨ i = 0x2830 ∨ i = 0x2838 then some 2
  else if i = 0x2A00 then some 3
  else if i = 0x2B00 ∨ i = 0x2B20 ∨ i = 0x2B60 then some 4
  else none

/-- The block of an object stands behind a closed isolation wrapper (R67). -/
def State.walled (s : State) (key : Nat) : Bool :=
  match s.blockDrive key with
  | some d => Drive.all.any fun x => x.num == d && (s.drv x).resetTb.isSome
  | none => false

/-- A write of an object: nothing before step 7; in TRIM_FAULT and IMAGE_FAULT aborted with 0x08000021 (R56); then the
session's role (Table 19.2), then the checks and the effect of the object, then arbitration (R475, R486). An object
behind a closed wrapper is aborted with 0x08000021 where no earlier cause of Table 19.3 governs. -/
def State.request (s : State) (who : Requester) (key : Nat) (role : Role) (effect : State → Except Nat State) : State :=
  if !s.dictUp ∧ !s.diagOnly then s
  else
  let s := s.touch who
  if s.diagOnly then s.answer who (.error 0x08000021)
  else if (s.roleOf who).num < role.num ∨ (who = .canA ∧ key ∉ canAKeys) then s.answer who (.error 0x06010000)
  else match effect s with
  | .error c => s.answer who (.error (if s.walled key ∧ c ≠ 0x06070010 ∧ c ≠ 0x06090030 then 0x08000021 else c))
  | .ok t =>
    if s.walled key then s.answer who (.error 0x08000021)
    else if s.arbLost who key then (s.arbCount who key).answer who (.error 0x08000022)
    else s.answer who (.ok ((t.when (s.arbWon who key) fun t => t.arbCount who key).noteWrite who key))

/-- Effect of a write, refused with an abort code when a condition holds. -/
def refuseIf (c : Bool) (code : Nat) (r : Except Nat State) : Except Nat State := if c then .error code else r

/-- The states in which the parameters of a drive may be written (R75, R160). -/
def State.paramState (s : State) (d : Drive) : Bool :=
  decide (s.ds d = .unavailable ∨ s.ds d = .standby ∨ s.ds d = .fault)

end Sys2Proof.Machine
end

