-- ==== Sys2Proof/Machine/Memory.lean ====
section
/-! DEFINITION. The customer area of the retained store as a byte memory (R57, R58): addresses strictly rising, no entry
of the value 0 that an unlisted address reads as. The manual gives no contents after an always-on power-on reset but that
they are cleared (R48). -/
namespace Sys2Proof.Machine

/-- What an address that no entry lists reads as. -/
def Memory.unlisted : Byte := 0

/-- The canonical form. -/
def Memory.wf : List Host.Cell → Bool
  | [] => true
  | (a, v) :: t => (v != Memory.unlisted) && (t.all fun e => decide (a < e.1)) && Memory.wf t

def Memory.read : List Host.Cell → Nat → Byte
  | [], _ => Memory.unlisted
  | (b, v) :: t, a => if b = a then v else Memory.read t a

def Memory.erase (a : Nat) : List Host.Cell → List Host.Cell
  | [] => []
  | (b, v) :: t => if b = a then Memory.erase a t else (b, v) :: Memory.erase a t

def Memory.insert (a : Nat) (v : Byte) : List Host.Cell → List Host.Cell
  | [] => [(a, v)]
  | (b, w) :: t =>
    if a < b then (a, v) :: (b, w) :: t else if b = a then (a, v) :: t else (b, w) :: Memory.insert a v t

/-- Writes one byte; the value an unlisted address reads as removes the entry. -/
def Memory.write (m : List Host.Cell) (a : Nat) (v : Byte) : List Host.Cell :=
  if v = Memory.unlisted then Memory.erase a m else Memory.insert a v m

/-- Writes bytes from an address on. -/
def Memory.writeAll (m : List Host.Cell) (a : Nat) : List Byte → List Host.Cell
  | [] => m
  | v :: t => Memory.writeAll (Memory.write m a v) (a + 1) t

/-- Reads `n` bytes from an address on. -/
def Memory.readAll (m : List Host.Cell) (a n : Nat) : List Byte := (List.range n).map fun i => Memory.read m (a + i)

/-! ### The customer area (R58) -/

/-- The largest offset of the area. -/
def custSize : Nat := 8192

/-- A write of whole 16-byte units inside the area, 16 to 256 bytes. -/
def custWriteOk (off n : Nat) : Bool :=
  off % 16 == 0 && n % 16 == 0 && decide (16 ≤ n ∧ n ≤ 256 ∧ off + n ≤ custSize)

/-- CUST_DATA at CUST_OFFSET: anything but aligned whole units is aborted and changes nothing. -/
def State.custEffect (data : List Byte) (s : State) : Except Nat State :=
  let off := s.nat Od.RET_CUST_OFFSET
  refuseIf (!custWriteOk off data.length) 0x06070010 (.ok { s with cust := Memory.writeAll s.cust off data })

def State.writeCust (s : State) (who : Requester) (data : List Byte) : State :=
  s.request who Od.RET_CUST_DATA .operator (State.custEffect data)

def execCustDataWrite (dt : Nat) (who : Requester) (data : List Byte) (s : State) : Res :=
  reply s ((s.elapse dt).writeCust who data)

/-- A read returns 256 bytes from CUST_OFFSET, or fewer where the area ends. -/
def State.custData (s : State) : List Byte :=
  let off := s.nat Od.RET_CUST_OFFSET
  Memory.readAll s.cust off (min 256 (custSize - off))

end Sys2Proof.Machine
end

