-- ==== Sys2Proof/Machine/Hooks.lean ====
section
/-! DEFINITION. What starts and stops with a drive: its loop units (R213, R223), the sequences and outputs it leaves
behind when it leaves ACTIVE. -/
namespace Sys2Proof.Machine

/-! ### Apply times (R26, R27) -/

/-- The DAB phase shift of a bridge as its stage modulator uses it; the primary's shows in DAB_PHASE (R302, Table 12.9). -/
def State.applyPhase (s : State) (c : Cell) (q : Rat) : State :=
  ({ s with stageIn := upd s.stageIn c fun _ => q }).when (c.val == 8) fun s => s.setQ Od.CNV_DAB_PHASE (q * 90)

/-- One command of a link takes effect on its island die: a cell that has been turned off meanwhile stays off. -/
def State.applyLinkCmd (s : State) : LinkCmd → State
  | .precharge c => if (s.cell c).armStep = 5 then s.modCell c fun x => { x with mode := .precharge, pulseTb := s.tb } else s
  | .switch c => if (s.cell c).mode = .coast ∧ (s.cell c).supHi then s.modCell c fun x => { x with mode := .switching } else s
  | .dabPhase c q => s.applyPhase c q

/-- The cell of a command. -/
def LinkCmd.cell : LinkCmd → Cell
  | .precharge c => c | .switch c => c | .dabPhase c _ => c

def LinkCmd.isPhase : LinkCmd → Bool
  | .dabPhase _ _ => true | _ => false

/-- A command waits for its apply time on the island die; nothing is sent over a link that is down (R24). -/
def LinkSt.send (x : LinkSt) (t : Nat) (c : LinkCmd) : LinkSt :=
  if x.trained then { x with pending := x.pending ++ [(t, c)] } else x

/-- Commands to cells of one drive: on one island they act at once; on several, all carry one apply time, so that the cells
change together (R26). How far ahead island C sets it is open (assumption 63). -/
def State.sendTogether (s : State) (cmds : List LinkCmd) : State :=
  if cmds.all fun c => cmds.all fun d => cellLink c.cell == cellLink d.cell then s.each cmds fun c s => s.applyLinkCmd c
  else
    let t := s.timebase + Config.applyLead
    s.each cmds fun c s => s.modLink (cellLink c.cell) fun x => x.send t c

/-- A change of the phase shift of a DAB is sent to both its bridges, to apply at the start of a switching period (R27); a
change that waits already gives way. -/
def State.sendPhase (s : State) (a b : Cell) (q : Rat) : State :=
  s.each [a, b] fun c s => s.modLink (cellLink c) fun x =>
    LinkSt.send { x with pending := x.pending.filter fun p => !(p.2.isPhase && p.2.cell == c) } s.timebase (.dabPhase c q)

/-- The bridges of the DAB that a cell belongs to. -/
def dabPair (c : Cell) : List Cell :=
  if c.val = 8 ∨ c.val = 9 then [8, 9] else if c.val = 12 ∨ c.val = 13 then [12, 13] else []

/-- A switching period of a DAB starts: both bridges take a new phase shift in the same period (R27). -/
def State.phaseStart (s : State) (c : Cell) : State :=
  s.each (dabPair c) fun c s =>
    let due := (s.link (cellLink c)).pending.filter fun p => p.2.isPhase && p.2.cell == c
    let s := s.modLink (cellLink c) fun x => { x with pending := x.pending.filter fun p => !(p.2.isPhase && p.2.cell == c) }
    s.each due fun p s => s.applyLinkCmd p.2

/-- Commands that wait for cells that stop are void. -/
def State.dropCmds (s : State) (cs : List Cell) : State :=
  s.each cs fun c s => s.modLink (cellLink c) fun x => { x with pending := x.pending.filter fun p => p.2.cell != c }

/-! ### Loop units (R213, R222, R223) -/

def State.lu (s : State) (n : Fin 24) : LuSt := s.lus.get n
def State.modLu (s : State) (n : Fin 24) (f : LuSt → LuSt) : State := { s with lus := upd s.lus n f }

/-- Drive of a unit (Table 8.3, R221). -/
def State.luDrive (s : State) (n : Fin 24) : Nat := s.nat (Od.LU_DRIVE n)

/-- The drive with a number; 5 and above BRK. -/
def driveOf (n : Nat) : Drive :=
  match n with | 0 => .tra | 1 => .trb | 2 => .gbx | 3 => .aux | 4 => .chg | _ => .brk

/-- A unit serves the function of Table 8.3 while its drive is the one of that table; a reassigned unit's function is absent
(R221). -/
def State.luServes (s : State) (n : Nat) : Bool :=
  s.nat (Od.LU_DRIVE n) == (if n < 2 then 0 else if n < 4 then 1 else if n < 16 then 2 else if n < 18 then 3
    else if n < 22 then 4 else if n = 22 then 3 else 5)

/-- The units that count as not running besides R213: LU16 and LU17 in TOW (R316), LU18 to LU21 in export (R326), LU22 unless
AUX_MODE is NORMAL or VR_START with the battery switch ON (R336). -/
def State.luAllowed (s : State) (n : Fin 24) : Bool :=
  if n = 16 ∨ n = 17 then s.nat Od.CNV_AUX_MODE != 4
  else if 18 ≤ n ∧ n ≤ 21 then s.nat Od.CHG_CHG_MODE != 2
  else if n = 22 then (s.nat Od.CNV_AUX_MODE == 2 || s.nat Od.CNV_AUX_MODE == 3) && s.nat Od.LV_BAT_SW_MODE == 1
  else true

/-- A unit may run (R213): ENABLE, SECTIONS not 0, its drive ACTIVE or STOPPING. -/
def State.luCanRun (s : State) (n : Fin 24) : Bool :=
  let d := s.ds (driveOf (s.luDrive n))
  s.bit (Od.LU_LU_CTRL n) 31 && s.nat (Od.LU_SECTIONS n) != 0 && (d == .active || d == .stopping) && s.luAllowed n

/-- The unit that a unit is paired with, each naming the other in MINSEL, while it runs (R224). -/
def State.luPartner (s : State) (n : Fin 24) : Option (Fin 24) :=
  let m := s.nat (Od.LU_MINSEL n)
  if h : m < 24 then
    (if m ≠ n.val ∧ s.nat (Od.LU_MINSEL m) = n.val ∧ (s.lu ⟨m, h⟩).running then some ⟨m, h⟩ else none)
  else none

/-- Sign of a number: 1, 0 or -1. -/
def sgn (q : Rat) : Int := if 0 < q then 1 else if q < 0 then -1 else 0

/-- Numerator and denominator of a section's DC gain, in Q3.28 codes (R222). -/
def State.dcNum (s : State) (n i : Nat) : Int := s.int (Od.LU_B0 n i) + s.int (Od.LU_B1 n i) + s.int (Od.LU_B2 n i)
def State.dcDen (s : State) (n i : Nat) : Int := 2 ^ 28 + s.int (Od.LU_A1 n i) + s.int (Od.LU_A2 n i)

def State.integSec (s : State) (n i : Nat) : Bool := s.bit (Od.LU_SEC_CTRL n i) 1

/-- DIR_SIGN of a section: the sign of OUT_GAIN times the signs of the DC gains of every later section (R222). -/
def State.dirSign (s : State) (n i : Nat) : Int :=
  (List.range (s.nat (Od.LU_SECTIONS n))).foldl
    (fun a j => if j ≤ i then a else a * (s.dcNum n j).sign * (s.dcDen n j).sign) (sgn (s.num (Od.LU_OUT_GAIN n)))

/-- DIR_SIGNS of a unit (Table 8.8). -/
def State.setDirSigns (s : State) (n : Nat) : State :=
  s.setN (Od.LU_DIR_SIGNS n) ((List.range (s.nat (Od.LU_SECTIONS n))).foldl
    (fun a i => a + 4 ^ i * (match s.dirSign n i with | 0 => 0 | 1 => 1 | _ => 3)) 0)

/-- An integrating section has a later section with zero DC gain (R222). -/
def State.luConfigErr (s : State) (n : Nat) : Bool :=
  (List.range (s.nat (Od.LU_SECTIONS n))).any fun i => s.integSec n i &&
    (List.range (s.nat (Od.LU_SECTIONS n))).any fun j => decide (i < j) && s.dcNum n j == 0

/-- A value limited to an interval. -/
def clampQ (lo hi q : Rat) : Rat := max lo (min hi q)
def clampI (lo hi q : Int) : Int := max lo (min hi q)

/-- A rational to Q3.28, nearest, saturated at ±8 (R214, R231). -/
def toQ28 (q : Rat) : Int := clampI (-2 ^ 31) (2 ^ 31 - 1) (roundNear (q * 2 ^ 28))

/-- The queue of a unit that does not run is applied at once (R225). -/
def State.luFlush (s : State) (n : Fin 24) : State :=
  let q := (s.lu n).queue
  (s.each q fun e s => s.set e.1 e.2).modLu n fun x => { x with queue := [] }

/-- States at the start of a unit: zero, but the integrating section nearest the output is set so that with zero input
the unit's output equals INIT_OUT (R223). Its trigger starts with it, in step with its partner's (R216, R224). -/
def State.luInit (s : State) (n : Fin 24) : State :=
  let k := s.nat (Od.LU_SECTIONS n)
  let zero : LuSt := { s.lu n with
    running := true, s1 := List.replicate 8 0, s2 := List.replicate 8 0, y := List.replicate 8 0
    satHi := false, satLo := false, inSat := false, stale := false, notSelected := false, skips := 0
    wasHeld := List.replicate 8 false, holdTb := List.replicate 8 s.tb, holdLogged := List.replicate 8 false
    due := false, sampleTb := (s.luPartner n).bind fun m => (s.lu m).sampleTb
    trigN := (match s.luPartner n with | some m => (s.lu m).trigN | none => 0) }
  let init := clampQ (s.num (Od.LU_OUT_MIN n)) (s.num (Od.LU_OUT_MAX n)) (s.num (Od.LU_INIT_OUT n))
  let x := match ((List.range k).filter fun i => s.integSec n i).getLast? with
    | none => zero
    | some i =>
      let later : Rat := (List.range k).foldl (fun a j => if j ≤ i then a else a * s.int (Od.LU_B0 n j) / 2 ^ 28) 1
      let y := toQ28 ((init - s.num (Od.LU_OUT_OFFSET n)) / (s.num (Od.LU_OUT_GAIN n) * later))
      { zero with
        s1 := zero.s1.set i y, y := zero.y.set i y
        s2 := zero.s2.set i (-(roundNear (s.int (Od.LU_A2 n i) * y / 2 ^ 28))) }
  s.modLu n fun _ => { x with u := init }

/-- A unit that may run starts (R213, R222). -/
def State.startUnit (s : State) (n : Fin 24) : State :=
  if (s.lu n).running ∨ ¬ s.luCanRun n then s
  else if s.luConfigErr n then s.modLu n fun x => { x with configErr := true }
  else ((s.luInit n).modLu n fun x => { x with configErr := false }).setDirSigns n

/-- HOLD of a section: the host's, or a commit's (Table 8.5). -/
def State.secHeld (s : State) (n : Nat) (i : Nat) : Bool := s.bit (Od.LU_SEC_CTRL n i) 0

/-- The coefficient keys of a section in the order B0, B1, B2, A1, A2. -/
def coefKeys (n i : Nat) : List Nat := [Od.LU_B0 n i, Od.LU_B1 n i, Od.LU_B2 n i, Od.LU_A1 n i, Od.LU_A2 n i]

def ctrCommits (n : Nat) : Counter := ⟨Od.LU_COMMITS n, 16, Od.LU_LU_CNT_STATUS n, 3, 7⟩

/-- A commit is complete: counted and logged, DIR_SIGN renewed. -/
def State.commitDone (s : State) (n : Fin 24) (c : CommitSt) : State :=
  let s := (s.setBit (Od.LU_SEC_CTRL n c.sec) 0 c.hostHeld).modLu n fun u => { u with commit := none }
  ((s.count (ctrCommits n)).event 0x0701 (0x80 + n.val) c.sec).setDirSigns n

/-- A commit on a unit that does not run, or stops: the set is applied at once (R230, Table 8.7); the host's HOLD is the one
found while the commit had set none. -/
def State.commitAtOnce (s : State) (n : Fin 24) (c : CommitSt) : State :=
  let held := if c.step ≤ 1 then s.secHeld n c.sec else c.hostHeld
  (s.each (List.range 5) fun i s => s.setI ((coefKeys n c.sec).getD i 0) (c.coefs.getD i 0)).commitDone n
    { c with hostHeld := held }

/-! ### What a unit's destination makes of it (R213, Table 8.2) -/

def State.gbxActive (s : State) : Bool := s.ds .gbx == .active

def ctrEnergise (c : Nat) : Counter := ⟨Od.SOL_ENERGISATIONS c, 32, Od.SOL_SOL_CNT_STATUS c, 0, 8⟩

/-- ENABLED: GBX ACTIVE, IB at or above 38 V, TQO_GBX released (Table 10.16). -/
def State.solEnabled (s : State) : Bool :=
  s.gbxActive && decide (38 ≤ s.num Od.CNV_V_IB) && !(s.drv .gbx).tqo && !(s.drv .gbx).tqoLink

/-- Since when the conditions of an open load and of a deviation of a channel have held; DEVIATION ends with its condition
(R275). -/
def State.solTrack (s : State) (i : Nat) : State :=
  if h : i < 8 then
    let act := s.num (Od.SOL_I_ACT i)
    let set := s.num (Od.SOL_I_SET i)
    let opens := decide (95 / 100 ≤ s.num (Od.SOL_DUTY i) ∧ act < 1 / 10 ∧ 2 / 10 ≤ set)
    let dev := decide (s.num (Od.SOL_DEV_LIM i) < |act - set|)
    let s := { s with gbx := { s.gbx with sols := upd s.gbx.sols ⟨i, h⟩ fun x => { x with
      openTb := if opens then some (x.openTb.getD s.tb) else none
      devTb := if dev then some (x.devTb.getD s.tb) else none } } }
    s.when (!dev) fun s => s.setBit (Od.SOL_SOL_STATUS i) 5 false
  else s

/-- A channel's duty; energised time and energisations are counted. -/
def State.setSolenoidDuty (s : State) (i : Nat) (u : Rat) : State :=
  if h : i < 8 then
    let c : Fin 8 := ⟨i, h⟩
    let u := if s.solEnabled ∧ s.field (Od.SOL_SOL_STATUS i) 3 2 = 0 then u else 0
    let old := s.num (Od.SOL_DUTY i)
    let x := s.gbx.sols.get c
    let ticks := x.ticks + if old ≠ 0 then s.tb - x.lastTb else 0
    let s := { s with gbx := { s.gbx with sols := upd s.gbx.sols c fun x => { x with ticks := ticks, lastTb := s.tb } } }
    let s := (s.setQ (Od.SOL_DUTY i) u).solTrack i
    s.when (old == 0 && u != 0) fun s => s.count (ctrEnergise i)
  else s

/-- The duty that C14 applies: an on-time shorter than DWELL_MIN_ns is skipped, an off-time shorter is omitted (R289). -/
def State.chopApplied (s : State) (d : Rat) : Rat :=
  let dwell := (s.nat (Od.CELL_DWELL_MIN_ns 14) : Rat) * s.nat Od.DCL_CHOP_Hz / 1000000000
  if d < dwell then 0 else if 1 - d < dwell then 1 else d

/-- CHOP_DUTY and CHOPPING; a chopper leg whose low side begins or ends to conduct throughout switches then, unless its pulse
covers it. -/
def State.setDuty (s : State) (d : Rat) : State :=
  let full := s.num Od.DCL_CHOP_DUTY = 1
  let s := if full = (d = 1) then s else s.each ([48, 49] : List Leg) fun l s => s.modLeg l fun g => { g with
    edgeTb := if g.inPulse s.tb then g.edgeTb else s.tb }
  (s.setQ Od.DCL_CHOP_DUTY d).setBit Od.DCL_DCL_STATUS 0 (d != 0)

def State.sideTr (s : State) (i : Nat) (f : TractionSt → TractionSt) : State :=
  { s with traction := upd s.traction (if i = 1 then 1 else 0) f }

/-- The output acts at its destination: a torque target, a damping torque, an actuator's torque reference unless its pawl is
pushed, a solenoid's duty, a stage cell's control input, another unit's REF, the charge-current command. -/
def State.deliver (s : State) (dest : Nat) (u : Rat) : State :=
  let i := dest % 256
  match dest / 256 with
  | 1 => s.sideTr i fun x => { x with speedTq := u }
  | 2 => s.sideTr i fun x => { x with damping := u }
  | 3 =>
    if h : 4 ≤ i ∧ i ≤ 7 then s.setQ (Od.AX_TQ_REF i) ((s.gbx.push.get ⟨i - 4, by omega⟩).getD u) else s
  | 4 => s.setSolenoidDuty i u
  | 5 =>
    if i = 8 then s.sendPhase 8 9 u
    else if i = 13 then s.sendPhase 12 13 u
    else
      let s := if h : i < 15 then { s with stageIn := upd s.stageIn ⟨i, h⟩ fun _ => u } else s
      if i = 14 ∧ ¬ s.dcl.dischOn then s.setDuty (s.chopApplied u) else s
  | 6 => if i < 24 then s.setQ (Od.LU_REF i) u else s
  | 7 => { s with lvCommand := u }
  | _ => s

/-- The destination ignores a unit that does not run (R213): it acts as without one. The REF of another unit is a register
and keeps its value. -/
def State.ignoreUnit (s : State) (n : Fin 24) : State :=
  let dest := s.nat (Od.LU_OUT_DEST n)
  if dest / 256 = 6 then s else s.deliver dest 0

/-- A unit that stops (R213, R224, R230): OUTPUT reads INIT_OUT, queue and commit are completed at once, and its destination
ignores it, or hears its partner alone. -/
def State.stopUnit (s : State) (n : Fin 24) : State :=
  if ¬ (s.lu n).running then s
  else
    let s := match (s.lu n).commit with
      | none => s
      | some c => s.commitAtOnce n c
    let s := (s.modLu n fun x => { x with running := false, commit := none, notSelected := false, due := false }).luFlush n
    match s.luPartner n with
    | some m => (s.modLu m fun x => { x with notSelected := false }).deliver (s.nat (Od.LU_OUT_DEST m)) (s.lu m).u
    | none => s.ignoreUnit n

/-- The condition to run, after a write or with a change of what R213 and `luAllowed` ask: the unit stops, or starts. -/
def State.luSettle (s : State) (n : Fin 24) : State := if s.luCanRun n then s.startUnit n else s.stopUnit n

def State.startUnits (s : State) (d : Drive) : State :=
  s.each (List.finRange 24) fun n s => if s.luDrive n = d.num then s.startUnit n else s

def State.stopUnits (s : State) (d : Drive) : State :=
  s.each (List.finRange 24) fun n s => if s.luDrive n = d.num then s.stopUnit n else s

/-! ### Triggers of the units (R216) -/

/-- TRIG_SEL of a unit. -/
def State.luTrigSel (s : State) (n : Nat) : Nat := s.field (Od.LU_LU_CTRL n) 29 2

/-- A stage cell starts a period: the units that count its periods are due at every TRIG_DIV-th. -/
def State.luCellTrigger (s : State) (c : Cell) : State :=
  s.each (List.finRange 24) fun n s =>
    if (s.lu n).running ∧ s.luTrigSel n = 1 ∧ s.nat (Od.LU_TRIG_UNIT n) = c.val then
      let k := (s.lu n).trigN + 1
      if s.nat (Od.LU_TRIG_DIV n) ≤ k then s.modLu n fun x => { x with trigN := 0, due := true }
      else s.modLu n fun x => { x with trigN := k }
    else s

/-- A sequencer completes: the units that wait for it are due. -/
def State.luSeqTrigger (s : State) (q : Fin 8) : State :=
  s.each (List.finRange 24) fun n s =>
    if (s.lu n).running ∧ s.luTrigSel n = 2 ∧ s.nat (Od.LU_TRIG_UNIT n) = q.val then
      s.modLu n fun x => { x with due := true }
    else s

/-- A unit is to sample: its trigger has come, or its period has passed since its last sample. -/
def State.luDue (s : State) (n : Fin 24) : Bool :=
  if s.luTrigSel n = 0 then
    match (s.lu n).sampleTb with
    | none => true
    | some t => decide (t + us (s.nat (Od.LU_TRIG_PERIOD_us n)) ≤ s.tb)
  else (s.lu n).due

/-- The sample rate that a unit's configuration allows, in Hz (R216). -/
def State.luRate (s : State) (n : Nat) : Rat :=
  match s.luTrigSel n with
  | 0 => 1000000 / (s.nat (Od.LU_TRIG_PERIOD_us n) : Rat)
  | 1 => (s.nat (Od.CELL_FSW_MAX (s.nat (Od.LU_TRIG_UNIT n))) : Rat) / s.nat (Od.LU_TRIG_DIV n)
  | _ =>
    let q := s.nat (Od.LU_TRIG_UNIT n)
    if s.field (Od.SQ_SQ_CTRL q) 24 4 = 1 then 1000000 / (s.nat (Od.SQ_TRIG_PERIOD q) : Rat) else 200000

/-- No unit that a cell (`sel` 1) or a sequencer (`sel` 2) triggers can sample above 200 kHz (R216). -/
def State.luRatesOk (s : State) (sel unit : Nat) : Bool :=
  (List.range 24).all fun n => s.luTrigSel n != sel || s.nat (Od.LU_TRIG_UNIT n) != unit || decide (s.luRate n ≤ 200000)

/-! ### Traction -/

def State.ax (s : State) (n : Axis) : AxisSt := s.axes.get n
def State.modAx (s : State) (n : Axis) (f : AxisSt → AxisSt) : State := { s with axes := upd s.axes n f }

def sideDrive (t : Fin 2) : Drive := if t = 0 then .tra else .trb
/-- Set 1 and set 2 of a motor (R163). -/
def sideSets (t : Fin 2) : List Axis := if t = 0 then [0, 1] else [2, 3]
def setSide (n : Nat) : Fin 2 := if n < 2 then 0 else 1

def State.tr (s : State) (t : Fin 2) : TractionSt := s.traction.get t
def State.modTr (s : State) (t : Fin 2) (f : TractionSt → TractionSt) : State := { s with traction := upd s.traction t f }

/-- An axis unit is deciding: its cell switches, and follows no test pulses. -/
def State.deciding (s : State) (n : Axis) : Bool := (s.cell (cellOf n)).mode == .switching && !(s.ax n).test

/-- A set that followed test pulses coasts. -/
def State.endTest (s : State) (n : Axis) : State :=
  let s := s.when ((s.ax n).test && (s.cell (cellOf n)).mode == .switching) fun s => s.coastCell (cellOf n)
  (s.modAx n fun x => { x with test := false }).setBit (Od.OBS_OBS_STATUS n) 9 false

/-- A train of test pulses of a motor ends, or is abandoned. -/
def State.endProbe (s : State) (t : Fin 2) : State :=
  (s.each (sideSets t) fun n s => s.endTest n).modTr t fun x => { x with probe := none }

/-- A traction drive leaves ACTIVE: test pulses, a recovery and assisted running are abandoned (R189), speed control and
crossfeed end. -/
def State.leaveTraction (s : State) (t : Fin 2) : State :=
  let s := (s.endProbe t).modTr t fun x => { x with
    speedCtl := false, crossfeed := 0, stopDue := false, revPending := false }
  s.each (sideSets t) fun n s =>
    ((s.modAx n fun x => { x with recover := none, lossRun := false, lossTicks := 0, assist := none }).setBit
      (Od.OBS_OBS_STATUS n) 10 false).setBit (Od.OBS_OBS_STATUS n) 8 false

/-- What leaves ARMED aborts an identification that runs on a set of the drive: a torque-off (R191), and every other change of
state (DEDUCED, assumption 66); the value concerned is ID_CMD. -/
def State.abortIdent (s : State) (d : Drive) : State :=
  if d.isTraction then s.each (sideSets d.side) fun n s =>
    if s.bit (Od.OBS_OBS_STATUS n) 16 then
      let cmd := s.nat (Od.OBS_ID_CMD n)
      let s := ((s.endProbe d.side).endTest n).modAx n fun x => { x with ident := {} }
      (((s.setBit (Od.OBS_OBS_STATUS n) 16 false).setN (Od.OBS_ID_STATUS n) 3).setN (Od.OBS_ID_CMD n) 0).event 0x051E n cmd
    else s
  else s

/-- A value moved toward a target by at most one step. -/
def approach (x target step : Rat) : Rat := if x < target then min (x + step) target else max (x - step) target

/-- SPEED with the direction in force applied. -/
def State.driveSpeed (s : State) (t : Fin 2) : Rat :=
  if (s.tr t).reverse then -(s.num (Od.TR_SPEED t)) else s.num (Od.TR_SPEED t)

end Sys2Proof.Machine
end

