-- ==== Sys2Proof/Machine/Gear.lean ====
section
/-! DEFINITION. Gear states, AXLE limits, solenoid channels, park locks and gear state recovery as far as other chapters
act on them (R263 to R266, R273 to R278). -/
namespace Sys2Proof.Machine

/-! ### Sides, states and records -/

def State.side (s : State) (t : Fin 2) : SideSt := s.gbx.sides.get t
def State.modSide (s : State) (t : Fin 2) (f : SideSt → SideSt) : State :=
  { s with gbx := { s.gbx with sides := upd s.gbx.sides t f } }

/-- Gear state of a side (Table 10.2): 0 UNKNOWN, 1 RECOVERING, 2 NEUTRAL, 3 GEAR1, 4 GEAR2, 5 SHIFTING. -/
def State.gear (s : State) (t : Nat) : Nat := s.nat (Od.SHF_GEAR_STATE t)
/-- Park-lock state of a side: 0 UNKNOWN, 1 ENGAGED, 2 ENGAGING, 3 RELEASING, 4 RELEASED. -/
def State.park (s : State) (t : Nat) : Nat := s.nat (Od.PRK_PARK_STATE t)
def State.shiftStep (s : State) (t : Nat) : Nat := s.nat (Od.SHF_SHIFT_STEP t)
def State.setGear (s : State) (t g : Nat) : State := s.setN (Od.SHF_GEAR_STATE t) g
/-- A shift runs on a side (steps 1 to 6). -/
def State.shifting (s : State) (t : Nat) : Bool := decide (1 ≤ s.shiftStep t ∧ s.shiftStep t ≤ 6)

def State.record (s : State) (a : Fin 4) : ForkRec := s.gbx.records.get a
def State.setRecord (s : State) (a : Fin 4) (r : ForkRec) : State :=
  { s with gbx := { s.gbx with records := upd s.gbx.records a fun _ => r } }
/-- A movement starts (R277). -/
def State.startMove (s : State) (a : Fin 4) : State := s.setRecord a { s.record a with moving := true }
/-- A position is confirmed. -/
def State.confirm (s : State) (a : Fin 4) (state : Nat) : State := s.setRecord a ⟨state, false, true⟩

/-- Actuator, axis, cell and interfaces of G0 to G3 (Tables 1.3, 7.1). -/
def forkOf (t : Fin 2) : Fin 4 := ⟨t.val, by omega⟩
def pawlOf (t : Fin 2) : Fin 4 := ⟨2 + t.val, by omega⟩
def actAxis (a : Fin 4) : Axis := ⟨4 + a.val, by omega⟩
def actCell (a : Fin 4) : Cell := ⟨4 + a.val, by omega⟩
def State.actPos (s : State) (a : Fin 4) : Int := s.int (Od.PIF_POSITION (8 + a))
/-- Encoder interface of an actuator. -/
def actPif (a : Fin 4) : Fin 12 := ⟨8 + a.val, by omega⟩

/-- The position that a pawl is to reach: ENGAGING and RELEASING have one. -/
def State.pawlTarget (s : State) (t : Fin 2) : Option Int :=
  match s.park t with
  | 2 => some (s.int (Od.PRK_POS_ENGAGED t))
  | 3 => some (s.int (Od.PRK_POS_RELEASED t))
  | _ => none

/-- The pawl lies within PARK_WIN of a position. -/
def State.pawlAt (s : State) (t : Fin 2) (pos : Int) : Bool :=
  decide ((s.actPos (pawlOf t) - pos).natAbs ≤ s.nat (Od.PRK_PARK_WIN t))

/-- Since when the pawl has lain within PARK_WIN of its target (Table 10.8). -/
def State.pawlTrack (s : State) (t : Fin 2) : State :=
  let there := (s.pawlTarget t).any fun pos => s.pawlAt t pos
  s.modSide t fun x => { x with pawlTb := if there then some (x.pawlTb.getD s.tb) else none }

/-- The count of P10 or P11 has changed. -/
def State.pawlMoved (s : State) (p : Fin 12) : State :=
  if p = 10 then s.pawlTrack 0 else if p = 11 then s.pawlTrack 1 else s

def State.setPark (s : State) (t : Fin 2) (p : Nat) : State :=
  ((s.setN (Od.PRK_PARK_STATE t) p).modSide t fun x => { x with parkTb := s.tb, tooth := false, pawlTb := none }).pawlTrack t
/-- The position loop of an actuator takes a reference, unless its unit is reassigned (R221). -/
def State.setRef (s : State) (a : Fin 4) (q : Rat) : State :=
  if s.luServes (4 + a.val) then s.setQ (Od.LU_REF (4 + a)) q else s

/-! ### Counters of the position interfaces (R197, R207) -/

def State.pif (s : State) (p : Fin 12) : PifSt := s.pifs.get p
def State.modPif (s : State) (p : Fin 12) (f : PifSt → PifSt) : State := { s with pifs := upd s.pifs p f }

/-- A count into the 32-bit signed range. -/
def wrap32 (v : Int) : Int := (v + 2 ^ 31) % 2 ^ 32 - 2 ^ 31

/-- Speed starts again: SPEED holds until two more edges (R207). -/
def State.speedRestart (s : State) (p : Fin 12) : State :=
  s.modPif p fun x => { x with edge0 := none, edge1 := none, restart := true }

/-- The counter is loaded at a sample: the reference is found again (R202, R208), and the sample's edge is not added (R206). -/
def State.loadCount (s : State) (p : Fin 12) (v : Int) (t : Nat) (preset : Bool) : State :=
  let before := s.int (Od.PIF_POSITION p)
  let s := (((s.setI (Od.PIF_POSITION p) v).setBit (Od.PIF_PIF_STATUS p) 17 false).speedRestart p).modPif p fun x => { x with
    load := some (t, before, preset) }
  s.pawlMoved p

/-- The counter takes a preset value (R197): the count of the last index moves with it, so that the motion between two indices
stays what was counted (R203). -/
def State.presetCount (s : State) (p : Fin 12) (v : Int) : State :=
  let d := v - s.int (Od.PIF_POSITION p)
  (s.loadCount p v s.tb true).modPif p fun x => { x with index := x.index.map fun e => wrap32 (e + d) }

/-! ### Actuators (R271) -/

/-- Centre of a Hall sector in the order of R196 (DEDUCED, assumption 21). -/
def hallCentre (lines : Nat) : Rat :=
  let k : Nat := match lines % 8 with | 1 => 0 | 3 => 1 | 2 => 2 | 6 => 3 | 4 => 4 | _ => 5
  ((2 * k + 1 : Nat) : Rat) * Config.pi / 6

/-- An actuator starts to decide from the centre of its Hall sector (R271, R170). -/
def State.engageActuator (s : State) (a : Fin 4) : State :=
  let n := actAxis a
  if (s.cell (actCell a)).mode = .switching ∨ ¬ (s.cell (actCell a)).precharged then s
  else
    let th := hallCentre (s.pifs.get ⟨4 + a.val, by omega⟩).lines
    let psi := s.num (Od.AX_PSI_PM n)
    let s := s.modCell (actCell a) fun x => { x with mode := .switching }
    let s := (s.setQ (Od.AX_PSI_ALPHA n) (psi * Config.cos th)).setQ (Od.AX_PSI_BETA n) (psi * Config.sin th)
    let s := (((s.setQ (Od.AX_I_ALPHA n) 0).setQ (Od.AX_I_BETA n) 0).setQ (Od.AX_TQ_REF n) 0).setBit
      (Od.OBS_OBS_STATUS n) 1 true
    let s := (s.setField (Od.AX_AXIS_STATUS n) 7 2 0).setBit (Od.AX_AXIS_STATUS n) 11 false
    s.modAx n fun x => { x with
      initial := true, theta := th, lastFull := s.tb, subst := none, waitVec := none, lossRun := false, lossTicks := 0
      lossEval := s.tb, openAcc := [0, 0, 0], kcl := [none, none, none], openHold := none, attr := [0, 0, 0]
      unattrib := 0, ovrSince := [none, none, none] }

/-- An actuator coasts. -/
def State.coastActuator (s : State) (a : Fin 4) : State :=
  let s := { s with gbx := { s.gbx with push := upd s.gbx.push a fun _ => none } }
  if (s.cell (actCell a)).mode = .switching then s.coastCell (actCell a) else s

/-- A pawl pushes toward its engaged position at ENGAGE_TQ (R276). -/
def State.pushPawl (s : State) (t : Fin 2) : State :=
  let dir := (s.int (Od.PRK_POS_ENGAGED t) - s.int (Od.PRK_POS_RELEASED t)).sign
  let q := dir * s.num (Od.PRK_ENGAGE_TQ t)
  ({ s with gbx := { s.gbx with push := upd s.gbx.push (pawlOf t) fun _ => some q } }).setQ (Od.AX_TQ_REF (actAxis (pawlOf t))) q

/-! ### AXLE limits (R265, R266, Table 10.2) -/

/-- The limit a gear state and its step of Table 10.4 impose; 2,000 Nm where none is. -/
def State.gearLimit (s : State) (t : Fin 2) : Rat :=
  match s.gear t with
  | 2 => s.num Od.AXLE_NEUTRAL_TQ_MAX
  | 3 => 2000
  | 4 => 2000
  | 5 => match s.shiftStep t with
    | 3 => 2000
    | 4 => s.num Od.SHF_ENGAGE_TQ_MAX
    | 5 => if (s.side t).target = 0 then 0 else s.num Od.SHF_ENGAGE_TQ_MAX
    | _ => 0
  | _ => if (s.side t).resolved then 0 else 2000

def State.parkLimit (s : State) (t : Fin 2) : Rat := if s.park t = 4 then 2000 else s.num Od.PRK_PARK_TQ_MAX

def State.axleTarget (s : State) (t : Fin 2) : Rat := min (s.gearLimit t) (s.parkLimit t)

/-- A limit on its way down starts at the torque it meets, |TQ_RAMP|, so that the clamp of R154 never steps it (R266,
Table 10.6). -/
def State.limitFrom (s : State) (t : Fin 2) : Rat :=
  let v := s.num (Od.AXLE_LIMIT_AXLE_A + t)
  if s.axleTarget t < v then min v (max |s.num (Od.TR_TQ_RAMP t)| (s.axleTarget t)) else v

/-- Steps 3 to 5 and UNKNOWN act at once, every other change moves at SHIFT_SLEW, in step 1 at the step's slew (R266). -/
def State.moveLimit (s : State) (t : Fin 2) : State :=
  let k := Od.AXLE_LIMIT_AXLE_A + t
  let atOnce := (decide (s.gear t ≤ 1) && (s.side t).resolved) || (3 ≤ s.shiftStep t && s.shiftStep t ≤ 5)
  let slew := ((s.side t).slew).getD (s.num Od.SHF_SHIFT_SLEW)
  let step := slew * (s.tb - (s.side t).limTb : Nat) / 100000000
  let v := if atOnce then s.axleTarget t else approach (s.limitFrom t) (s.axleTarget t) step
  (s.setQ k v).modSide t fun x => { x with limTb := s.tb }

/-! ### Crossfeed (R263, R264) -/

def ctrCrossfeed : Counter := ⟨Od.AXLE_CROSSFEEDS, 16, Od.AXLE_AXLE_CNT_STATUS, 1, 8⟩

/-- Ratio of the confirmed gear of a side; 0 while it is in none. -/
def State.ratio (s : State) (t : Nat) : Rat :=
  match s.gear t with
  | 3 => s.num (Od.SHF_RATIO_1 t)
  | 4 => s.num (Od.SHF_RATIO_2 t)
  | _ => 0

def otherSide (t : Fin 2) : Fin 2 := if t = 0 then 1 else 0
def State.axleMode (s : State) : Nat := s.field Od.AXLE_AXLE_STATUS 0 2

/-- SHORTFALL takes a value; its rising edge logs event 0x080F for the drive concerned (R262). -/
def State.setShortfall (s : State) (t : Fin 2) (v : Rat) : State :=
  let was := s.bit Od.AXLE_AXLE_STATUS 3
  let s := (s.setQ Od.AXLE_SHORTFALL v).setBit Od.AXLE_AXLE_STATUS 3 (v != 0)
  if v ≠ 0 ∧ ¬ was then
    (s.event 0x080F (sideDrive t).num (65536 * low16 v)).lastEvent (sideDrive t) 0x080F
  else s

/-- A traction drive reports a set loss: |TQ_RAMP| less what the healthy set can carry, with TQ_RAMP's sign; the other
drive's ramp target takes it over the two ratios in modes 1 to 3 with TRANSFER_EN (R263), else it is reported (R264). -/
def State.crossfeed (s : State) (t : Fin 2) : State :=
  let ramp := s.num (Od.TR_TQ_RAMP t)
  let can := (sideSets t).foldl (fun a n => if s.bit (Od.OBS_OBS_STATUS n) 12 then a else a + s.num (Od.OBS_SET_TQ_MAX_ACT n)) 0
  let short := max 0 (|ramp| - can)
  if s.axleMode ≠ 0 then
    if s.bit Od.AXLE_AXLE_CTRL 0 ∧ short ≠ 0 ∧ s.ratio t ≠ 0 ∧ s.ratio (otherSide t) ≠ 0 then
      let q := short * sgn ramp * s.ratio t / s.ratio (otherSide t)
      ((s.modTr (otherSide t) fun x => { x with crossfeed := q }).setBit Od.AXLE_AXLE_STATUS 6 true).count ctrCrossfeed
    else s
  else s.setShortfall t (short * s.ratio t)

/-! ### Solenoid channels (R274, R275) -/

def ctrSolFault (c : Nat) : Counter := ⟨Od.SOL_SOL_FAULTS c, 16, Od.SOL_SOL_CNT_STATUS c, 1, 8⟩

/-- The side whose park lock names a channel. -/
def State.solSide (s : State) (c : Nat) : Option (Fin 2) :=
  if s.nat (Od.PRK_RELEASE_SOL 0) = c then some 0 else if s.nat (Od.PRK_RELEASE_SOL 1) = c then some 1 else none

/-- The set-point of a channel, one of S0 to S7; its loop unit follows it unless it is reassigned (R221). -/
def State.setSolenoidI (s : State) (i : Nat) (q : Rat) : State :=
  if i < 8 then ((s.setQ (Od.SOL_I_SET i) q).when (s.luServes (8 + i)) fun s => s.setQ (Od.LU_REF (8 + i)) q).solTrack i else s

def ctrUncommanded (t : Nat) : Counter := ⟨Od.PRK_UNCOMMANDED t, 16, Od.PRK_PARK_CNT_STATUS t, 2, 8⟩

/-- The park release solenoid went off without a command (Table 10.8). -/
def State.parkUncommanded (s : State) (t : Fin 2) : State :=
  if s.park t = 3 ∨ s.park t = 4 then
    let s := ((s.setPark t 2).count (ctrUncommanded t)).startMove (pawlOf t)
    let s := s.setSolenoidI (s.nat (Od.PRK_RELEASE_SOL t)) 0
    let s := (s.event 0x080C t 2).lastEvent .gbx 0x080C
    if s.gbxActive then (s.setRef (pawlOf t) (s.int (Od.PRK_POS_ENGAGED t))).engageActuator (pawlOf t)
    else s.coastActuator (pawlOf t)
  else s

/-- A channel is de-energised for a reason other than its set-point. -/
def State.solenoidOff (s : State) (i : Nat) : State :=
  let s := s.setSolenoidDuty i 0
  match s.solSide i with
  | some t => s.parkUncommanded t
  | none => s

/-- Every channel is de-energised (R275). -/
def State.solenoidsOff (s : State) : State := s.each (List.range 8) fun i s => s.solenoidOff i

/-! ### Ends of a shift (R270, R273, R279) -/

def ctrShiftFail (t : Nat) : Counter := ⟨Od.SHF_SHIFT_FAILS t, 32, Od.SHF_SHIFT_CNT_STATUS, 1 + 2 * t, 8⟩

/-- Detail of a shift event: side, gear state, shift time (R285). -/
def State.shiftDetail (s : State) (t : Fin 2) : Nat :=
  t.val + 256 * s.gear t + 65536 * min ((s.tb - (s.side t).t0) / 100000) 65535

/-- The sequencer of a side goes idle: speed control ends, the AXLE limit is released at SHIFT_SLEW. -/
def State.shiftIdle (s : State) (t : Fin 2) : State :=
  ((s.setN (Od.SHF_SHIFT_STEP t) 0).modTr t fun x => { x with speedCtl := false }).modSide t fun x => { x with
    slew := none, okSince := none, offset := 0, outBase := none }

/-- A shift ends in failure with its final gear state and event (Table 10.5). -/
def State.shiftFail (s : State) (t : Fin 2) (gear code : Nat) : State :=
  let s := (s.setGear t gear).count (ctrShiftFail t)
  let s := s.when (code != 0) fun s => (s.event code (sideDrive t).num (s.shiftDetail t)).lastEvent .gbx code
  s.shiftIdle t

/-- A fork being moved becomes UNKNOWN and its shift ends without a further step; a fork in a detent keeps its state
(R273); the AXLE limit of an UNKNOWN side falls at once (R266). -/
def State.forkLost (s : State) (t : Fin 2) : State :=
  let moving := (s.record (forkOf t)).moving
  let s := if s.shifting t then s.shiftFail t (if moving then 0 else (s.side t).oldGear) 0
    else if moving ∧ s.gear t ≠ 1 then (s.shiftIdle t).setGear t 0
    else if s.shiftStep t = 7 then s.shiftIdle t else s
  s.moveLimit t

/-- GBX leaves ACTIVE: actuators coast, solenoids off, a moving fork becomes UNKNOWN (R273, R275, R279). -/
def State.leaveGearbox (s : State) : State :=
  let s := s.each [0, 1, 2, 3] fun a s => s.coastActuator a
  let s := s.solenoidsOff
  s.each [0, 1] fun t s => s.forkLost t

/-- The traction drive of a side leaves ACTIVE in step 3 or 4 of a shift: fork to neutral, NEUTRAL (R279). -/
def State.leaveShift (s : State) (t : Fin 2) : State :=
  if s.shiftStep t = 3 ∨ s.shiftStep t = 4 then
    (s.setRef (forkOf t) (s.int (Od.SHF_POS_N t))).shiftFail t 2 0x0806
  else s

/-! ### Gear state recovery (R278, Table 10.9) -/

def State.recOf (s : State) (a : Fin 4) : RecSt := s.gbx.recs.get a
def State.setRec (s : State) (a : Fin 4) (r : RecSt) : State :=
  { s with gbx := { s.gbx with recs := upd s.gbx.recs a fun _ => r } }

/-- The side of an actuator, and whether it is a fork. -/
def actSide (a : Fin 4) : Fin 2 := ⟨a.val % 2, by omega⟩
def isFork (a : Fin 4) : Bool := decide (a.val < 2)

/-- RECOVERY_PATH of an actuator. -/
def State.setPath (s : State) (a : Fin 4) (p : Nat) : State := s.setField Od.GBX_RECOVERY_PATH (2 * a) 2 p

/-- An actuator is resolved with its state and path; a fork in neutral is held at POS_N. -/
def State.resolve (s : State) (a : Fin 4) (state path : Nat) : State :=
  let s := (s.setRec a { s.recOf a with resolved := true, step := 0 }).setPath a path
  let s := s.setQ (Od.AX_TQ_REF (actAxis a)) 0
  if isFork a then
    ((s.setGear (actSide a) state).confirm a state).when (state == 2) fun s => s.setRef a (s.int (Od.SHF_POS_N (actSide a)))
  else (s.setPark (actSide a) state).setRecord a ⟨state, state != 1, true⟩

/-- A step of recovery starts with a torque in a direction. -/
def State.recStep (s : State) (a : Fin 4) (step : Nat) (dir : Int) (tq : Rat) : State :=
  (s.setRec a { s.recOf a with
    step := step, startTb := s.tb, pushTb := s.tb, startPos := s.actPos a, dir := dir, turned := false }).setQ
    (Od.AX_TQ_REF (actAxis a)) (dir * tq)

/-- Position of a gear state's detent. -/
def State.gearPos (s : State) (t : Nat) (g : Nat) : Int :=
  match g with
  | 3 => s.int (Od.SHF_POS_G1 t)
  | 4 => s.int (Od.SHF_POS_G2 t)
  | _ => s.int (Od.SHF_POS_N t)

/-- Direction from a gear position toward neutral; positive where the record gives none. -/
def State.neutralDir (s : State) (a : Fin 4) : Int :=
  let r := s.record a
  let d := s.int (Od.SHF_POS_N (actSide a)) - s.gearPos (actSide a) r.state
  if r.valid ∧ d ≠ 0 then d.sign else 1

/-- INDEX_ONCE is armed on the actuator's encoder. -/
def State.armOnce (s : State) (a : Fin 4) : State :=
  (s.setBit (Od.PIF_PIF_STATUS (actPif a)) 19 true).setBit (Od.PIF_PIF_STATUS (actPif a)) 18 false

/-- Referencing (step 4), with the index armed. -/
def State.recReference (s : State) (a : Fin 4) : State :=
  ((s.armOnce a).startMove a).recStep a 4 (s.neutralDir a) (s.num Od.SHF_REF_TQ)

/-- Recovery begins on one actuator: RECOVERING, INDEX_ONCE armed, then step 2, 3, 4 or 5. -/
def State.recBegin (s : State) (a : Fin 4) : State :=
  let t := actSide a
  let s := ((s.armOnce a).setRec a {}).setPath a 0
  if isFork a then
    let s := (s.setGear t 1).moveLimit t
    let r := s.record a
    if r.valid ∧ ¬ r.moving ∧ (r.state = 3 ∨ r.state = 4) then
      let s := s.presetCount (actPif a) (s.gearPos t r.state)
      s.recStep a 2 (-(s.neutralDir a)) (s.num Od.SHF_REF_TQ)
    else if r.valid ∧ ¬ r.moving ∧ r.state = 2 then s.recStep a 3 1 (s.num Od.SHF_REF_TQ)
    else s.recReference a
  else
    let away := (s.int (Od.PRK_POS_RELEASED t) - s.int (Od.PRK_POS_ENGAGED t)).sign
    (s.setPark t 0).recStep a 5 away (s.num (Od.PRK_ENGAGE_TQ t))

def ctrRecoveries : Counter := ⟨Od.GBX_RECOVERIES, 32, Od.GBX_DRIVE_STATUS, 15, 8⟩

/-- The cells are armed: all four actuators run Table 10.9 in parallel. -/
def State.recoveryArmed (s : State) : State :=
  let s := { s with gbx := { s.gbx with recovT0 := some s.tb } }
  let s := s.each [0, 1, 2, 3] fun a s => s.engageActuator a
  s.each [0, 1, 2, 3] fun a s => s.recBegin a

/-- An index on P8 to P11 resolves a recovering fork or pawl; a pawl left ENGAGING takes POS_ENGAGED, and is
resolved by an index that meets the sample of its stall (R278, Table 10.10). In step 2 an index decides nothing. -/
def State.forkIndex (s : State) (p : Fin 12) (now : Nat) : State :=
  if h : 8 ≤ p.val then
    let a : Fin 4 := ⟨p.val - 8, by omega⟩
    let t := actSide a
    let r := s.recOf a
    if s.gbx.recovT0.isSome ∧ ¬ r.resolved then
      match r.step with
      | 3 => (s.loadCount p (s.int (Od.SHF_POS_N t)) now false).resolve a 2 1
      | 4 => (s.loadCount p (s.int (Od.SHF_POS_N t)) now false).resolve a 2 2
      | 5 => (s.loadCount p (s.int (Od.PRK_POS_ENGAGED t)) now false).resolve a 1 1
      | _ => s
    else if s.gbx.recovT0.isSome ∧ r.stalledTb = some s.tb then
      (s.loadCount p (s.int (Od.PRK_POS_ENGAGED t)) now false).resolve a 1 1
    else if ¬ isFork a ∧ s.park t = 2 then s.loadCount p (s.int (Od.PRK_POS_ENGAGED t)) now false
    else s
  else s

/-- Recovery, or a pawl that it left on a tooth, waits for an index of an encoder (R278), whatever INDEX_MODE is (DEDUCED,
assumption 69). -/
def State.awaitsIndex (s : State) (p : Fin 12) : Bool :=
  if h : 8 ≤ p.val then
    let a : Fin 4 := ⟨p.val - 8, by omega⟩
    (s.gbx.recovT0.isSome && !(s.recOf a).resolved) || (!isFork a && s.park (actSide a) == 2)
  else false

/-- Recovery ends without a result: unresolved actuators stay UNKNOWN, their path reads failed. -/
def State.recAbort (s : State) : State :=
  let s := s.each [0, 1, 2, 3] fun a s =>
    if (s.recOf a).resolved then s
    else
      let s := (s.setPath a 3).setRec a {}
      let s := s.setQ (Od.AX_TQ_REF (actAxis a)) 0
      if isFork a then (s.setGear (actSide a) 0).moveLimit (actSide a) else s.setPark (actSide a) 0
  { s with gbx := { s.gbx with recovT0 := none } }

/-- A drive's own sequences end when it stops being armed or ready: recovery of GBX. -/
def State.haltRecovery (s : State) : State := if s.gbx.recovT0.isSome then s.recAbort else s

end Sys2Proof.Machine
end

