-- ==== Sys2Proof/Machine/Power.lean ====
section
/-! DEFINITION. The auxiliary converter's modes, the power path's hand-over, the charger's stop and the chopper's
discharge, as far as other chapters act on them (R296, R304 to R322, R333, R338, R345, R346). -/
namespace Sys2Proof.Machine

/-! ### Discharge (R296) -/

def State.modDcl (s : State) (f : DclSt → DclSt) : State := { s with dcl := f s.dcl }

/-- V_DC in [31:16] and the fault bits DCL_STATUS [7:2], shifted down, in [7:0] (R300; DEDUCED, assumption 22). -/
def State.linkDetail (s : State) : Nat := 65536 * low16 (s.num Od.DCL_V_DC) + s.field Od.DCL_DCL_STATUS 2 6

/-- A discharge ends with its state; the chopper is released to LU23, or C14 coasts again where it
alone was armed; a soft turn-off that runs in it goes on (R87). -/
def State.dischargeStop (s : State) (st : Nat) : State :=
  if s.dcl.disch.isNone then s
  else
    let alone := s.dcl.dischAlone
    let s := if (s.drv .brk).arming = .discharge then s.modDrv .brk fun x => { x with arming := .none } else s
    let s := (s.setN Od.DCL_DISCH_STATE st).setBit Od.DCL_DCL_STATUS 15 false
    let s := s.modDcl fun x => { x with disch := none, dischOn := false, dischAlone := false }
    if alone then (if (s.cell 14).mode = .softOff then s else s.offCell 14).setDuty 0
    else s.setDuty (if (s.lu 23).running then s.chopApplied (s.lu 23).u else 0)

/-! ### AUX_MODE (R319, R320) -/

def State.modAux (s : State) (f : AuxSt → AuxSt) : State := { s with aux := f s.aux }
def State.modPath (s : State) (f : PathSwSt → PathSwSt) : State := { s with path := f s.path }
def State.modChg (s : State) (f : ChgSt → ChgSt) : State := { s with chg := f s.chg }

/-- AUX_MODE: 0 OFF, 1 IB_START, 2 VR_START, 3 NORMAL, 4 TOW, 5 WAIT. -/
def State.auxMode (s : State) : Nat := s.nat Od.CNV_AUX_MODE

/-- The units of AUX settle with the mode and the battery switch (R316, R336). -/
def State.auxUnits (s : State) : State :=
  let s := ((s.luSettle 16).luSettle 17).luSettle 22
  s.when (!(s.lu 22).running) fun s => s.setBit Od.LV_LV_STATUS 6 false

/-- A mode change is logged (R320). -/
def State.setAuxMode (s : State) (m : Nat) : State :=
  let old := s.auxMode
  if old = m then s
  else
    let s := (s.setN Od.CNV_AUX_MODE m).event 0x0A02 3 (old + 256 * m)
    let s := (s.lastEvent .aux 0x0A02).setBit Od.CNV_AUX_STATUS 5 (m = 1 || m = 2)
    (s.modAux fun x => { x with syncOut := false }).auxUnits

/-- A voltage or current in units of 10 mV or 10 mA (R325). -/
def cent (q : Rat) : Nat := low16 (q * 100)

/-- An AUX converter event of a cell. -/
def State.auxEvent (s : State) (code cell detail : Nat) : State := (s.event code cell detail).lastEvent .aux code

/-- TOW is possible (R316). -/
def State.towOk (s : State) : Bool :=
  s.flag Od.CNV_TOW_EN && decide (s.num Od.CNV_TOW_VBAT_MIN ≤ s.num Od.LV_V_BAT)

/-- Since when a condition holds, judged again now. -/
def since (holds : Bool) (t : Option Nat) (now : Nat) : Option Nat := if holds then some (t.getD now) else none

/-- A condition has held for a time. -/
def heldFor (t : Option Nat) (d now : Nat) : Bool :=
  match t with
  | some t => decide (t + d ≤ now)
  | none => false

/-- IB, VR, V_BAT, I_BAT and the AUX48 current as island L senses them, with the times that their limits have been passed (R316
to R318, R345). -/
def State.senseIb (s : State) (v : Rat) : State :=
  (s.setQ Od.CNV_V_IB v).modAux fun x => { x with
    ibLowTb := since (decide (v < 40)) x.ibLowTb s.tb, ibHighTb := since (decide (60 < v)) x.ibHighTb s.tb }

def State.senseVr (s : State) (v : Rat) : State :=
  (s.setQ Od.CNV_V_VR v).modAux fun x => { x with vrHighTb := since (decide (63 / 2 < v)) x.vrHighTb s.tb }

def State.senseBat (s : State) (v : Rat) : State :=
  (s.setQ Od.LV_V_BAT v).modAux fun x => { x with
    batLowTb := since (decide (v < s.num Od.CNV_TOW_VBAT_MIN)) x.batLowTb s.tb }

def State.senseBatI (s : State) (i : Rat) : State :=
  (s.setQ Od.LV_I_BAT i).modPath fun x => { x with ocTb := since (decide (450 < |i|)) x.ocTb s.tb }

def State.senseAux48 (s : State) (i : Rat) : State :=
  (s.setQ Od.CNV_I_AUX48 i).modAux fun x => { x with
    overTb := since (decide (s.num Od.CNV_AUX48_I_MAX < i)) x.overTb s.tb }

/-- The AUX48 switch is closed while enabled, not tripped, in NORMAL or TOW, and IB stands at 42 V (R317). -/
def State.aux48 (s : State) : State :=
  s.setBit Od.CNV_AUX_STATUS 14 (s.flag Od.CNV_AUX48_EN && !s.bit Od.CNV_AUX_STATUS 15 && s.ds .aux == .active &&
    (s.auxMode == 3 || s.auxMode == 4) && decide (42 ≤ s.num Od.CNV_V_IB))

/-! ### Power path (R345, R346) -/

/-- BAT_SW_MODE: 0 OPEN, 1 ON, 2 LINEAR, 3 DIODE, 4 HANDOVER. -/
def State.batSw (s : State) : Nat := s.nat Od.LV_BAT_SW_MODE
/-- The switch takes a mode; the always-on domain retains it as closed or open (R61). -/
def State.setBatSw (s : State) (m : Nat) : State :=
  ((s.setN Od.LV_BAT_SW_MODE m).setBit Od.BKP_BKP15 0 (decide (m ≠ 0))).auxUnits
/-- VR_SOURCE: 0 none, 1 buck, 2 battery, 3 hand-over, 4 hand-back. -/
def State.vrSource (s : State) : Nat := s.nat Od.LV_VR_SOURCE
def State.setVrSource (s : State) (v : Nat) : State := s.setN Od.LV_VR_SOURCE v

/-- Voltage in 0.1 V and current in 0.1 A of an event of group 0x0B (R358). -/
def State.lvDetail (s : State) : Nat := low16 (s.num Od.LV_V_BAT * 10) + 65536 * low16 (s.num Od.LV_I_BAT * 10)

def ctrHandover : Counter := ⟨Od.LV_HANDOVERS, 32, Od.LV_LV_CNT_STATUS, 0, 0x0B⟩

/-- The battery switch opened by an overcurrent (R345). -/
def State.batTripped (s : State) : Bool := s.bit Od.LV_LV_STATUS 11
/-- The latch of the trip, retained in BKP15 bit 2 (R61, R345). -/
def State.setBatTrip (s : State) (b : Bool) : State := (s.setBit Od.LV_LV_STATUS 11 b).setBit Od.BKP_BKP15 2 b

/-- A charge instance changes state: logged with the instance (0 HV, 1 LV) and both states (R338, R358). -/
def State.setLvState (s : State) (v : Nat) : State :=
  let old := s.nat Od.LV_LV_STATE
  if old = v then s
  else
    let s := (s.setN Od.LV_LV_STATE v).event 0x0B02 0x71 (1 + 256 * old + 65536 * v)
    let s := (s.setBit Od.LV_LV_STATUS 0 (v = 2 || v = 3 || v = 4 || v = 5 || v = 7)).setBit Od.LV_LV_STATUS 9 false
    s.modChg fun x => { x with lv := { x.lv with entryTb := s.tb, condTb := none } }

/-- The target the pins or the host ask for (R309). -/
def State.vrBase (s : State) : Rat :=
  if s.nat Od.CNV_VR_SRC = 0 then s.num (Od.CNV_VR_SET (s.nat Od.CNV_VSEL_CODE)) else s.num Od.CNV_VR_CMD

/-- SLEWING while VR_REF differs from VR_TARGET, in the two modes that move it (R311). -/
def State.noteSlewing (s : State) : State :=
  s.setBit Od.CNV_AUX_STATUS 6 ((s.auxMode == 2 || s.auxMode == 3) && s.num Od.CNV_VR_REF != s.num Od.CNV_VR_TARGET)

/-- A new command sets VR_TARGET, lowered while the LV instance charges (R311, R337). -/
def State.newVrCommand (s : State) : State :=
  (s.setQ Od.CNV_VR_TARGET (min s.vrBase (s.aux.lowered.getD s.vrBase))).noteSlewing

/-- The lowering of the VR target ends or changes; it counts as a new command (R337, R311). -/
def State.lowerVr (s : State) (v : Option Rat) : State := (s.modAux fun x => { x with lowered := v }).newVrCommand

/-- The LV instance stops running, its state kept (R346). -/
def State.lvStop (s : State) : State :=
  let old := s.nat Od.LV_LV_STATE
  if old = 0 then s
  else
    let s := (s.setLvState 0).modChg fun x => { x with lv := { x.lv with kept := old } }
    (s.lowerVr none).modPath fun x => { x with testing := false }

/-- Step 1 of Table 13.15: VR passes to the battery; with the switch opened by an overcurrent VR is unsupplied. -/
def State.handOver (s : State) : State :=
  let s := s.lvStop
  if s.batSw = 0 then (s.setVrSource 0).modPath fun x => { x with countTb := none }
  else
    let s := ((s.setBatSw 4).setVrSource 3).count ctrHandover
    (s.event 0x0B12 0x71 s.lvDetail).modPath fun x => { x with handTb := s.tb, countTb := none }

/-- Step 3 starts or starts again: HANDBACK_PENDING, the count runs while IB stands at 42 V. -/
def State.handBackWait (s : State) : State :=
  (s.setBit Od.LV_LV_STATUS 5 true).modPath fun x => { x with
    countTb := if 42 ≤ s.num Od.CNV_V_IB then some s.tb else none }

/-- The buck stops while it supplies VR, or during the hand-back (R346). -/
def State.buckLost (s : State) : State :=
  match s.vrSource with
  | 1 => if s.batSw = 0 then s.handOver.handBackWait else s.handOver
  | 4 => (s.setVrSource (if s.batSw = 0 then 0 else 2)).handBackWait
  | _ => s

/-- The buck stops: C10 off by normal turn-off unless a soft turn-off runs in it, VR to the battery. -/
def State.buckStop (s : State) : State :=
  if s.bit Od.CNV_AUX_STATUS 0 then
    let s := if (s.cell 10).mode = .switching then s.coastCell 10 else s
    let s := (s.setBit Od.CNV_AUX_STATUS 0 false).setBit Od.CNV_AUX_STATUS 8 false
    let s := ((s.setBit Od.CNV_AUX_STATUS 7 false).setBit Od.CNV_AUX_STATUS 6 false).setBit Od.LV_LV_STATUS 6 false
    s.buckLost
  else s

/-- The DAB stops by normal turn-off. -/
def State.dabStop (s : State) : State :=
  let s := (s.each [8, 9] fun c s => if (s.cell c).mode = .switching then s.coastCell c else s).dropCmds [8, 9]
  let s := (s.setBit Od.CNV_AUX_STATUS 1 false).setBit Od.CNV_AUX_STATUS 9 false
  ((s.applyPhase 8 0).applyPhase 9 0).modAux fun x => { x with ibTb := none, paused := false }

/-- The DAB soft start begins from the IB present (R307). -/
def State.dabStart (s : State) : State :=
  let s := s.sendTogether [.switch 8, .switch 9]
  let ib := s.num Od.CNV_V_IB
  let s := (s.setBit Od.CNV_AUX_STATUS 1 true).modAux fun x => { x with ibFrom := ib, ibTb := some s.tb }
  s.setQ (Od.LU_REF 17) ib

/-- C08 and C09 are armed. -/
def State.dabArmed (s : State) : Bool := (s.cell 8).precharged && (s.cell 9).precharged

/-- IB_START: the DAB starts, after the arming of C08 and C09 where they were left unarmed (R319); the two cells arm as
Table 3.4 says. -/
def State.enterIbStart (s : State) : State :=
  let s := s.setAuxMode 1
  if s.dabArmed then s.dabStart
  else
    let s := s.modDrv .aux fun x => { x with arming := .dab }
    s.each [8, 9] fun c s => s.modCell c fun x => { x with
      supHi := true, supLo := true, mode := .coast, armStep := 2, heldOff := false, held := false }

def ctrTow : Counter := ⟨Od.CNV_TOW_ENTRIES, 16, Od.CNV_AUX_CNT_STATUS, 3, 0x0A⟩

/-- TOW: the buck boosts IB from the battery; LU16 and LU17 do not run (R316). -/
def State.enterTow (s : State) : State :=
  let s := (s.setAuxMode 4).count ctrTow
  let s := s.modCell 10 fun x => { x with mode := .switching }
  ((s.setBit Od.CNV_AUX_STATUS 0 true).auxEvent 0x0A0F 10 (cent (s.num Od.LV_V_BAT))).aux48

def State.enterWait (s : State) : State := s.setAuxMode 5

/-- The mode AUX enters from OFF or WAIT by what supplies it (Table 12.4). -/
def State.auxSource (s : State) : State :=
  if 450 ≤ s.num Od.DCL_V_DC then s.enterIbStart
  else if s.towOk then s.enterTow else s.enterWait

/-- Stages off without a hand-over in between: TOW's boost. -/
def State.towStop (s : State) : State :=
  if s.auxMode = 4 then ((s.coastCell 10).setBit Od.CNV_AUX_STATUS 0 false) else s

/-- The rate of the soft start and the start of the buck (R307). -/
def State.enterVrStart (s : State) : State :=
  let s := s.setAuxMode 2
  let s := s.modCell 10 fun x => { x with mode := .switching }
  let s := (s.setBit Od.CNV_AUX_STATUS 0 true).setQ Od.CNV_VR_REF 0
  (s.setQ (Od.LU_REF 16) 0).modAux fun x => { x with vrRate := s.num Od.CNV_VR_TARGET / s.nat Od.CNV_SOFTSTART_ms }

/-- AUX leaves ACTIVE: the buck first, so that VR passes to the battery, then AUX48 and the DAB; AUX_MODE is OFF (R319,
R320). -/
def State.leaveAux (s : State) : State :=
  let s := s.towStop.buckStop
  let s := (s.setBit Od.CNV_AUX_STATUS 14 false).dabStop
  s.setAuxMode 0

/-! ### Charger (R333) -/

/-- Relays open and S2 opens; the session rests at step 1 while the cable stays connected. -/
def State.relaysOpen (s : State) : State :=
  let k := Od.CHR_CHG_STATUS
  let s := (((s.setBit k 8 false).setBit k 9 false).setBit k 10 false).modChg fun x => { x with preOpenTb := none }
  let s := (s.setBit k 13 false).setN Od.CHR_AC_PHASES 0
  s.setN Od.CHG_SESSION_STEP (if s.nat Od.CHG_SESSION_STEP = 0 then 0 else 1)

/-- C11 to C13 off by normal turn-off. -/
def State.chargerOff (s : State) : State :=
  let k := Od.CHR_CHG_STATUS
  let s := (s.each [11, 12, 13] fun c s => if (s.cell c).mode = .switching then s.coastCell c else s).dropCmds [11, 12, 13]
  let s := ((s.applyPhase 12 0).applyPhase 13 0).applyPhase 11 0
  (((s.setBit k 7 false).setBit k 6 false).setBit k 5 false).modChg fun x => { x with stopFrom := none, applied := 0, phaseKept := false }

/-- The HV instance changes state (R338). -/
def State.setHvState (s : State) (v : Nat) : State :=
  let old := s.nat Od.HV_HV_STATE
  if old = v then s
  else
    let s := ((s.setN Od.HV_HV_STATE v).event 0x0B02 4 (256 * old + 65536 * v)).lastEvent .chg 0x0B02
    s.modChg fun x => { x with hv := { x.hv with entryTb := s.tb, condTb := none } }

/-- Export's output goes off. -/
def State.exportOff (s : State) : State :=
  let was := s.bit Od.EXP_EXP_STATUS 2
  let s := (((s.setBit Od.EXP_EXP_STATUS 2 false).setBit Od.EXP_EXP_STATUS 3 false).setBit Od.EXP_EXP_STATUS 5 false).setBit
    Od.EXP_EXP_STATUS 6 false
  let s := s.modChg fun x => { x with limTb := none, overTb := none, deep := false }
  let s := s.each (List.range 3) fun i s => (s.setQ (Od.EXP_EXP_V i) 0).setQ (Od.EXP_EXP_I i) 0
  let s := ((s.setQ Od.EXP_EXP_I_N 0).setQ Od.EXP_EXP_P 0).setQ Od.EXP_EXP_S 0
  s.when was fun s => (s.event 0x0B18 4 (low16 (s.num (Od.CHR_V 0) * 10) + 65536 * low16 (s.num Od.CHR_I_AC * 10))).lastEvent .chg 0x0B18

/-- CHG stops running: cells off, relays open, S2 open (R333); the HV instance is OFF, but for MISSING, SHORTED and FAULT,
which stand until the acknowledge (R338, Table 13.19). -/
def State.leaveCharge (s : State) : State :=
  let s := s.chargerOff.exportOff.relaysOpen
  if 9 ≤ s.nat Od.HV_HV_STATE then s else s.setHvState 0

/-- What a drive leaves behind when it leaves ACTIVE. -/
def State.leaveActive (s : State) (d : Drive) : State :=
  match d with
  | .tra => (s.leaveShift 0).leaveTraction 0
  | .trb => (s.leaveShift 1).leaveTraction 1
  | .gbx => s.leaveGearbox
  | .aux => s.leaveAux
  | .chg => s.leaveCharge
  | .brk => s.setDuty 0

/-- A drive's own sequences outside ACTIVE end with its supplies: a discharge, a gear state recovery. -/
def State.haltSequences (s : State) (d : Drive) : State :=
  match d with
  | .gbx => s.haltRecovery
  | .brk => s.dischargeStop 5
  | _ => s

end Sys2Proof.Machine
end

