-- ==== Sys2Proof/Machine/Sequencer.lean ====
section
/-! DEFINITION. The triggers of the sequencers (R114 to R120): what starts, suspends, holds and abandons a sequence, and the
sequencers that run on behalf of a drive. -/
namespace Sys2Proof.Machine

def State.seq (s : State) (n : Fin 8) : SeqSt := s.seqs.get n
def State.modSeq (s : State) (n : Fin 8) (f : SeqSt → SeqSt) : State := { s with seqs := upd s.seqs n f }

/-- The other sequencer of the converter. -/
def seqPartner (n : Fin 8) : Fin 8 := ⟨if n.val % 2 = 0 then n.val + 1 else n.val - 1, by split <;> omega⟩

/-- SQ_CTRL as it reads: firmware gives SQ2 the period start of C11 while CHG is ARMED or ACTIVE, else its own period
(Table 4.5). -/
def State.sqCtrl (s : State) (n : Fin 8) : Nat :=
  let v := s.nat (Od.SQ_SQ_CTRL n)
  if n = 2 ∧ (s.ds .chg = .armed ∨ s.ds .chg = .active) then withField (withField v 24 4 2) 16 4 11 else v

def State.seqEnabled (s : State) (n : Fin 8) : Bool := (s.sqCtrl n).testBit 31
def State.seqUrgent (s : State) (n : Fin 8) : Bool := (s.sqCtrl n).testBit 30
/-- TRIG_SEL (Table 4.13): 0 software, 1 periodic, 2 cell period start, 3 comparator, 4 continuous. -/
def State.trigSel (s : State) (n : Fin 8) : Nat := s.sqCtrl n / 2 ^ 24 % 16
def State.trigCmp (s : State) (n : Fin 8) : Nat := s.sqCtrl n / 2 ^ 20 % 16
def State.trigCell (s : State) (n : Fin 8) : Nat := s.sqCtrl n / 2 ^ 16 % 16

/-- The island of a converter; none for GC3. -/
def gcLink (g : Nat) : Option Link := match g with | 0 => some .t | 1 => some .g | 2 => some .l | _ => none

/-- A converter runs: GC3 always, the others with their island's supply (R112). -/
def State.gcOn (s : State) (g : Nat) : Bool := g == 3 || s.bringup.islandOn

def ctrSuspends (g : Nat) : Counter := ⟨Od.GC_SUSPENDS g, 32, Od.GC_GC_STATUS g, 7, 4⟩
def ctrOverruns (n : Nat) : Counter := ⟨Od.SQ_TRIG_OVERRUNS n, 16, Od.SQ_SQ_STATUS n, 5, 4⟩

/-- A sequence starts at its first entry. -/
def State.seqStart (s : State) (n : Fin 8) : State :=
  s.modSeq n fun x => { x with
    run := .running, pending := false, entry := 0, samples := [], hidden := [], startTb := s.tb
    stamp := s.stampOf (gcLink (n.val / 2)), trigTb := none, yielding := false }

/-- A trigger starts its sequence in the same CONV clock (R115). -/
def State.seqLaunch (s : State) (n : Fin 8) : State := (s.seqStart n).modSeq n fun x => { x with trigTb := some s.tb }

/-- R116: an URGENT trigger suspends a running NORMAL sequence; the conversion in progress is abandoned and the entry
will be converted again from its first sample. -/
def State.seqSuspend (s : State) (n : Fin 8) : State :=
  (s.modSeq n fun x => { x with run := .suspended, samples := [] }).count (ctrSuspends (n.val / 2))

/-- R115: a trigger for a sequencer that runs or waits is counted, and the first in each minute is logged. -/
def State.seqOverrun (s : State) (n : Fin 8) : State :=
  let s := s.count (ctrOverruns n)
  let minute := s.tb / sec 60
  if (s.seq n).overMinute = some minute then s
  else (s.modSeq n fun x => { x with overMinute := some minute }).event 0x0407 0xFF n

/-- Of two sequencers triggered in one CONV clock the URGENT one goes first, then the even one (R115). -/
def State.seqFirst (s : State) (n p : Fin 8) : Bool :=
  if s.seqUrgent n = s.seqUrgent p then decide (n.val < p.val) else s.seqUrgent n

/-- A trigger arrives (R114 to R116). -/
def State.seqTrigger (s : State) (n : Fin 8) : State :=
  let p := seqPartner n
  if !(s.seqEnabled n && s.gcOn (n.val / 2)) || !(s.seq n).closedFor.isEmpty then s
  else if (s.seq n).run ≠ .idle ∨ (s.seq n).pending then s.seqOverrun n
  else if (s.seq p).run = .running then
    if (s.seq p).trigTb = some s.tb ∧ s.seqFirst n p then
      (s.modSeq p fun x => { x with run := .idle, pending := true, trigTb := none }).seqLaunch n
    else if s.seqUrgent n && !s.seqUrgent p then (s.seqSuspend p).seqLaunch n
    else s.modSeq n fun x => { x with pending := true }
  else s.seqLaunch n

/-- A running or pending sequence is abandoned; a sequence it had suspended resumes (R119, R120). -/
def State.seqAbandon (s : State) (n : Fin 8) : State :=
  let p := seqPartner n
  let s := s.modSeq n fun x => { x with
    run := .idle, pending := false, samples := [], hidden := [], yielding := false, trigTb := none }
  if (s.seq p).run = .suspended then s.modSeq p fun x => { x with run := .running }
  else if (s.seq p).pending ∧ (s.seq p).run = .idle then s.seqStart p else s

/-- SQ0 runs while a traction drive is not UNAVAILABLE (Table 4.5). -/
def State.sq0Wanted (s : State) : Bool := s.ds .tra != .unavailable || s.ds .trb != .unavailable

/-- A continuous sequence restarts at each completion (R114), SQ0 while it is wanted. -/
def State.seqContinuous (s : State) (n : Fin 8) : Bool :=
  s.trigSel n == 4 && s.seqEnabled n && (n != 0 || s.sq0Wanted)

/-- A continuous sequence that does not run starts. -/
def State.seqResume (s : State) (n : Fin 8) : State :=
  if s.seqContinuous n ∧ (s.seq n).run = .idle ∧ ¬ (s.seq n).pending ∧ ¬ (s.seq (seqPartner n)).yielding then s.seqTrigger n
  else s

/-- The sequencers claimed for a drive (Table 4.5). -/
def drvSequencers : Drive → List (Fin 8)
  | .tra | .trb => [0] | .chg => [2] | .gbx | .aux => [4] | .brk => []

/-- The wrapper of a drive closes: the sequencers claimed for it abandon their sequences, results invalid (R120). -/
def State.closeSequencers (s : State) (d : Drive) : State :=
  s.each (drvSequencers d) fun n s =>
    ((s.seqAbandon n).setBit (Od.SQ_SQ_STATUS n) 4 true).modSeq n fun x => { x with
      closedFor := d :: x.closedFor.filter fun e => e != d }

/-- A drive has completed its checks: the sequencers closed for it run again once no other drive keeps them closed
(R120). -/
def State.openSequencers (s : State) (d : Drive) : State :=
  s.each (drvSequencers d) fun n s =>
    if (s.seq n).closedFor.contains d then
      (s.modSeq n fun x => { x with closedFor := x.closedFor.filter fun e => e != d }).seqResume n
    else s

end Sys2Proof.Machine
end

