-- ==== Sys2Proof/Machine/Drives.lean ====
section
/-! DEFINITION. What drives do as wholes: state changes, protective states, stops, severities and torque off (Table 0.7,
Table 5.10, R28, R29, R176 to R178). -/
namespace Sys2Proof.Machine

/-! ### State changes -/

/-- Every cell of the drive starts the arming sequence together: gate supplies enabled (step 1); C08 and C09 only while
V_DC is at least 450 V (R319). -/
def State.startArming (s : State) (d : Drive) (for_ : ArmFor) : State :=
  let s := s.modDrv d fun x => { x with arming := for_ }
  s.each (if d = .aux ∧ s.num Od.DCL_V_DC < 450 then [10] else d.cells) fun c s => s.modCell c fun x => { x with
    supHi := true, supLo := true, mode := .coast, armStep := 2, heldOff := false, held := false }

/-- AUTO_RUN of BRK and AUX (R290, R319): on entry to STANDBY the drive arms, and runs when armed, unless its owner holds
it or its torque-off pair is asserted. -/
def State.autoArm (s : State) (d : Drive) : State :=
  let on : Bool := match d with
    | .brk => s.flag Od.BRK_AUTO_RUN
    | .aux => s.flag Od.AUX_AUTO_RUN
    | _ => false
  if on ∧ s.ds d = .standby ∧ (s.drv d).arming = .none ∧ ¬ (s.drv d).autoHold ∧ ¬ (s.drv d).tqo ∧ ¬ (s.drv d).tqoLink then
    s.startArming d .auto
  else s

/-- R158: on entry to STANDBY, INHIBIT or FAULT a traction drive's TQ_SET and TQ_RAMP are 0. -/
def State.clearTorque (s : State) (d : Drive) : State :=
  if d.isTraction then (s.setQ (Od.TR_TQ_SET d.num) 0).setQ (Od.TR_TQ_RAMP d.num) 0 else s

/-- A drive changes state (Table 0.8, Table 5.10): the change is logged with the old and new state and the trigger (the
CONTROL code, or 0xFF); entry to STANDBY and UNAVAILABLE removes its gate supplies, and the first STANDBY since reset
records READY_TIME_ms (R63). CHG keeps its stages running through STOPPING, in which its output ramps down (R333). -/
def State.goto (s : State) (d : Drive) (new : DriveState) (trig : Nat) : State :=
  if s.ds d = new then s else
  let old := s.ds d
  let s := s.modDrv d fun x => { x with
    state := new, substate := 0, arming := .none
    readyTime := if new = .standby ∧ x.readyTime = 0xFFFF then min ((s.tb - s.bringup.releaseTb) / 100000) 0xFFFE
                 else x.readyTime }
  let s := s.when ((old = .active || old = .armed) && new != .active && new != .armed) fun s =>
    s.each d.cells fun c s => s.modCell c fun x => { x with precharged := false }
  let s := s.when ((old = .active && new != .active && !(d = .chg && new = .stopping)) ||
    (d = .chg && old = .stopping)) fun s => s.leaveActive d
  let s := s.when (d.isTraction && (new = .fault || new = .inhibit)) fun s => s.leaveShift d.side
  let s := s.when (new != .active && new != .armed) fun s => s.haltSequences d
  let s := s.when (new != .active && new != .stopping) fun s => s.stopUnits d
  let s := s.when (new != .armed) fun s => s.abortIdent d
  let s := s.event d.stateEvent d.num (old.code + 256 * new.code + 65536 * trig)
  let s := s.lastEvent d d.stateEvent
  let s := s.when (new = .standby || new = .inhibit || new = .fault) fun s => s.clearTorque d
  let s := s.when (new = .standby) fun s => s.each d.cells fun c s => s.saveLegs c
  let s := s.when (new = .standby || new = .unavailable) fun s => s.each d.cells fun c s => s.offCell c
  let s := s.when (new = .active) fun s => s.startUnits d
  let s := s.when d.isTraction fun s => s.seqResume 0
  if new = .standby then s.autoArm d else s

/-! ### Protective states (R176 to R179, Table 1.6) -/

/-- Counters of the observer of a set (Table 6.9). -/
def ctrAscCount (n : Nat) : Counter := ⟨Od.OBS_ASC_COUNT n, 32, Od.OBS_OBS_CNT_STATUS n, 3, 5⟩

/-- The axis unit of a cell below 8. -/
def axisOf (n : Nat) : Axis := if h : n < 8 then ⟨n, h⟩ else 7

/-- R176: ASC if the set's back-EMF exceeds 0.95 of the DC link, or no valid speed is known. -/
def State.ascWanted (s : State) (c : Cell) : Bool :=
  decide (s.num (Od.AX_BEMF_LL_PK c) > 95 / 100 * s.num Od.DCL_V_DC) || !s.bit (Od.OBS_OBS_STATUS c) 1

/-- ASC entry (R177): high sides off, low sides on, phase-voltage tracking ends (R169); ASC is set, counted and logged once per
entry, with BEMF_LL_PK as the value concerned. -/
def State.enterAsc (s : State) (c : Cell) : State :=
  if (s.cell c).mode = .asc then s else
  let s := (s.setLegs c .low).modCell c fun x => { x with mode := .asc, ascTb := s.tb }
  let s := (s.modAx (axisOf c) fun x => { x with ascWin := {}, ascAngle := none, trackSince := none, test := false }).setBit
    (Od.OBS_OBS_STATUS c) 0 false
  (s.count (ctrAscCount c)).event 0x0515 c.val (low16 (s.num (Od.AX_BEMF_LL_PK c)))

/-- A cell leaves switching for protection: a traction cell under R176, every other cell by normal turn-off. A set that holds
ASC keeps it until R178; a cell after a soft turn-off, or without gate supplies, stays off (R88, R176). -/
def State.protectCell (s : State) (c : Cell) : State :=
  if (s.cell c).mode = .softOff ∨ (s.cell c).mode = .asc then s
  else if c.val < 4 ∧ ¬ (s.cell c).heldOff ∧ (s.cell c).supLo ∧ s.ascWanted c then s.enterAsc c
  else s.coastCell c

def State.protectDrive (s : State) (d : Drive) : State := s.each d.cells fun c s => s.protectCell c

/-- An event stands as a cause that must be absent before the acknowledge. -/
def State.addCause (s : State) (d : Drive) (code : Nat) : State :=
  s.modDrv d fun x => { x with causes := if code ∈ x.causes then x.causes else code :: x.causes }

/-- A drive goes to FAULT from any state but INHIBIT and FAULT (R11, Table 5.10), its cells as they are. -/
def State.faultState (s : State) (d : Drive) (code : Nat) : State :=
  let s := if s.ds d = .inhibit ∨ s.ds d = .fault then s else s.goto d .fault 0xFF
  s.lastEvent d code

/-- The FAULT reaction: the cells of a drive that is not in INHIBIT or FAULT go to their protective states first. -/
def State.faultDrive (s : State) (d : Drive) (code : Nat) : State :=
  if s.ds d = .inhibit ∨ s.ds d = .fault then s.lastEvent d code else (s.protectDrive d).faultState d code

/-- BEMF of every set at or below 0.95 of the DC link: a stopping drive coasts at once (R155). -/
def State.stopCoasts (s : State) (d : Drive) : Bool :=
  d.cells.all fun c => decide (s.num (Od.AX_BEMF_LL_PK c) ≤ 95 / 100 * s.num Od.DCL_V_DC)

/-- Every cell of a stopping drive coasts: it enters STANDBY (R155). -/
def State.stoppedIfCoasting (s : State) (d : Drive) : State :=
  if s.ds d = .stopping ∧ (d.cells.all fun c => (s.cell c).mode == .coast || (s.cell c).mode == .off) then
    s.goto d .standby 0xFF
  else s

/-- The sets of a drive that decide hold zero torque (R155): TQ_REF is 0. -/
def State.zeroRefs (s : State) (t : Fin 2) : State :=
  s.each (sideSets t) fun n s =>
    if s.deciding n then (s.setQ (Od.AX_TQ_REF n) 0).modAx n fun x => { x with slewing := false } else s

/-- SPEED of a traction drive as a detail (R162). -/
def State.speedLow (s : State) (d : Drive) : Nat := if d.isTraction then low16 (s.num (Od.TR_SPEED d.num)) else 0

/-- A traction drive in STOPPING (R155): as soon as every cell coasts it is in STANDBY; sets that decide coast at their next
decision where the back-EMF of every set allows it, and hold zero torque otherwise; a set that holds ASC keeps it until R178
(R189). -/
def State.stopTraction (s : State) (d : Drive) : State :=
  let s := s.clearTorque d
  if (sideSets d.side).any fun n => s.deciding n then
    if s.stopCoasts d then s.modTr d.side fun x => { x with stopDue := true }
    else
      let s := (s.zeroRefs d.side).modDrv d fun x => { x with substate := 5 }
      (s.event 0x0507 d.num (s.speedLow d)).lastEvent d 0x0507
  else s.stoppedIfCoasting d

/-- A drive stops (R155, R11): a traction drive as above; every other drive turns its cells off and is in STANDBY as soon as
they coast. -/
def State.stopDrive (s : State) (d : Drive) (trig : Nat) : State :=
  let s := s.goto d .stopping trig
  if d.isTraction then s.stopTraction d
  else (s.each d.cells fun c s => s.coastCell c).goto d .standby 0xFF

/-- What a severity does to a drive besides the log (Table 0.7); SAFE is imposed by Pyreri's torque off. -/
def State.applySeverity (s : State) (sev : Severity) (code : Nat) (d : Drive) : State :=
  match sev with
  | .stop =>
    match s.ds d with
    | .active => (s.stopDrive d 0xFF).lastEvent d code
    | .armed => (s.goto d .standby 0xFF).lastEvent d code
    | _ => s.lastEvent d code
  | .fault => s.faultDrive d code
  | _ => s.lastEvent d code

/-- An event that acts on drives: it is logged, then its severity acts on each (R11). -/
def State.raise (s : State) (code source detail : Nat) (ds : List Drive) : State :=
  (s.event code source detail).each ds fun d s => s.applySeverity (eventSeverity code) code d

/-! ### Torque off (R28, R29, R157) -/

def ctrTqo (d : Nat) : Counter := ⟨Od.PYR_TQO_ASSERTIONS d, 32, Od.PYR_PYR_CNT_STATUS, 7 + d, 0x0D⟩

/-- The gate supplies of a drive's cells are removed; a traction cell that R29 lets hold ASC keeps its low-side
supply. A self-test is aborted (R91), and arming ends, as a failure where it had reached pre-charge (R89). -/
def State.removeSupplies (s : State) (d : Drive) : State :=
  let s := (s.haltSequences d).modDrv d fun x => { x with arming := .none }
  s.each d.cells fun c s =>
    let s := s.when ((s.cell c).selftest || (s.cell c).mode = .selftest) fun s =>
      s.setBit (Od.CELL_SELFTEST_RESULT c) 14 true
    if (s.cell c).mode = .asc ∨ (c.val < 4 ∧ (s.cell c).supLo ∧ ¬ (s.cell c).heldOff ∧ (s.cell c).mode ≠ .softOff ∧
        s.ascWanted c) then
      (s.enterAsc c).modCell c fun x => { x with supHi := false, precharged := false, armStep := 0, selftest := false }
    else s.offCell c

/-- The torque-off pair of a drive is asserted (R28): counted when it was released, supplies removed, and the drive goes
to INHIBIT from every state but UNAVAILABLE (Table 5.10). -/
def State.torqueOff (s : State) (d : Drive) : State :=
  let was := (s.drv d).tqo || (s.drv d).tqoLink
  let s := s.when (!was) fun s => s.count (ctrTqo d.num)
  let s := s.modDrv d fun x => { x with tqo := true, tqoTb := some s.tb }
  let s := s.removeSupplies d
  if s.ds d = .unavailable then s else s.goto d .inhibit 0xFF

/-- The assertion that belongs to a link-loss FAULT (R24): the drive stays in FAULT. -/
def State.torqueOffLink (s : State) (d : Drive) : State :=
  let was := (s.drv d).tqo || (s.drv d).tqoLink
  let s := s.when (!was) fun s => s.count (ctrTqo d.num)
  (s.modDrv d fun x => { x with tqoLink := true }).removeSupplies d

/-- An event of severity SAFE: logged, and torque off for the drives it names (R11). -/
def State.raiseSafe (s : State) (code source detail : Nat) (ds : List Drive) : State :=
  (s.event code source detail).each ds fun d s => (s.torqueOff d).lastEvent d code

end Sys2Proof.Machine
end

