-- ==== Sys2Proof/Machine/Operands.lean ====
section
/-! DEFINITION. Operands as they come over the service paths: octets to and from the manual's data types (R6, Table
0.4), IEEE 754 single precision, and the length, form and range checks of an object write (R475). -/
namespace Sys2Proof.Machine

/-- Octets to a number, least significant first (R6). -/
def leNat : List Byte → Nat
  | [] => 0
  | b :: t => b.toNat + 256 * leNat t

/-- A number to `n` octets, least significant first (R6). -/
def natLe : Nat → Nat → List Byte
  | 0, _ => []
  | n + 1, v => BitVec.ofNat 8 v :: natLe n (v / 256)

/-- The rational a single-precision pattern stands for; none for a NaN or an infinity (R475). -/
def f32Decode (w : BitVec 32) : Option Rat :=
  let n := w.toNat
  let e := n / 2 ^ 23 % 256
  let m : Int := (n % 2 ^ 23 : Nat)
  let sgn : Int := if n / 2 ^ 31 = 1 then -1 else 1
  if e = 255 then none
  else if e = 0 then some (mkRat (sgn * m) (2 ^ 149))
  else if e ≥ 150 then some (mkRat (sgn * (m + 2 ^ 23) * 2 ^ (e - 150)) 1)
  else some (mkRat (sgn * (m + 2 ^ 23)) (2 ^ (150 - e)))

/-- Quotient rounded to nearest, ties to even. -/
def roundEven (a b : Nat) : Nat :=
  let k := a / b
  let r := a % b
  if 2 * r < b then k else if b < 2 * r then k + 1 else if k % 2 = 0 then k else k + 1

/-- The single-precision pattern nearest a rational, ties to even, infinity beyond the range (PRESUMED, assumption 3). -/
def f32Encode (q : Rat) : BitVec 32 :=
  let sgn := if q < 0 then 2 ^ 31 else 0
  let a := q.num.natAbs
  let b := q.den
  if a = 0 then 0 else
  -- the exponent e with 2 ^ e ≤ a / b < 2 ^ (e + 1), offset by 300
  let e0 := Nat.log2 a + 300 - Nat.log2 b
  let e := if a * 2 ^ 300 < b * 2 ^ e0 then e0 - 1 else e0
  let e := max e (300 - 126)
  -- mantissa scaled by 2 ^ (23 - (e - 300))
  let m := roundEven (a * 2 ^ 323) (b * 2 ^ e)
  let bits := if m < 2 ^ 23 then m else (e - (300 - 126)) * 2 ^ 23 + m
  BitVec.ofNat 32 (sgn + min bits 0x7F800000)

/-- Width of an integer type in octets; 0 for STR and DOM. -/
def tyBytes : Ty → Nat
  | .u8 => 1 | .u16 => 2 | .u32 => 4 | .u64 => 8 | .i16 => 2 | .i32 => 4 | .f32 => 4 | .bool => 1 | .str => 0 | .dom => 0

/-- Octets to a value of a type; the abort code of a wrong length, a NaN, an infinity or a BOOL other than 0 and 1
(R6, R475). -/
def decodeVal (ty : Ty) (data : List Byte) : Except Nat Val :=
  if tyBytes ty ≠ 0 ∧ data.length ≠ tyBytes ty then .error 0x06070010 else
  match ty with
  | .str => .ok (.bytes data)
  | .dom => .ok (.bytes data)
  | .f32 => match f32Decode (BitVec.ofNat 32 (leNat data)) with
    | some q => .ok (.num q)
    | none => .error 0x06090030
  | .bool => if leNat data ≤ 1 then .ok (.int (leNat data)) else .error 0x06090030
  | .i16 => .ok (.int (BitVec.ofNat 16 (leNat data)).toInt)
  | .i32 => .ok (.int (BitVec.ofNat 32 (leNat data)).toInt)
  | _ => .ok (.int (leNat data))

/-- A value of a type to octets. -/
def encodeVal (ty : Ty) (v : Val) : List Byte :=
  match ty with
  | .str => v.toBytes
  | .dom => v.toBytes
  | .f32 => natLe 4 (f32Encode v.toRat).toNat
  | _ => natLe (tyBytes ty) (v.toInt % 2 ^ (8 * tyBytes ty)).toNat

/-- A number as an F32 object holds it: the bounds of its range are single-precision values too. -/
def f32Val (q : Rat) : Rat := (f32Decode (f32Encode q)).getD q

/-- A value lies in the range its row states. -/
def rngOk (r : Rng) (v : Val) : Bool :=
  match r with
  | .any => true
  | .int lo hi => decide (lo ≤ v.toInt ∧ v.toInt ≤ hi)
  | .intOr x lo hi => decide (v.toInt = x ∨ (lo ≤ v.toInt ∧ v.toInt ≤ hi))
  | .oneOf l => decide (v.toInt ∈ l)
  | .num lo hi => decide (f32Val lo ≤ v.toRat ∧ v.toRat ≤ f32Val hi)
  | .numOr x lo hi => decide (v.toRat = f32Val x ∨ (f32Val lo ≤ v.toRat ∧ v.toRat ≤ f32Val hi))

end Sys2Proof.Machine
end

