-- ==== Sys2Proof/Machine/Reactions.lean ====
section
/-! DEFINITION. What one chapter's happening does in another chapter: the reactions that links, legs, clocks and
converter results call on. -/
namespace Sys2Proof.Machine

/-! ### Flying catch from the pre-charge pulses (R83, R168) -/

/-- An angle brought into [−π, π). -/
def wrapPi (a : Rat) : Rat := a - 2 * Config.pi * (((a + Config.pi) / (2 * Config.pi)).floor : Int)

/-- Amplitude-invariant transformation of phase voltages, whose sum need not vanish. -/
def alphaBeta (a b c : Rat) : Rat × Rat := ((2 * a - b - c) / 3, (b - c) / Config.sqrt 3)

/-- The transformation of phase currents (R134). -/
def currentAB (a b c : Rat) : Rat × Rat := (a, (b - c) / Config.sqrt 3)

/-- Mean of LD and LQ of an axis (R147, R168). -/
def State.axL (s : State) (n : Nat) : Rat := (s.num (Od.AX_LD n) + s.num (Od.AX_LQ n)) / 2

/-- The back-EMF angle that the phase currents at the end of one 2 µs pulse show: e = −LS · i / 2 µs − RS · i (R168);
none below CATCH_I_MIN. The shunt current is the negative of the phase current (R134). -/
def State.pulseAngle (s : State) (n : Nat) (shunt : List Rat) : Option Rat :=
  let i := currentAB (-(shunt.getD 0 0)) (-(shunt.getD 1 0)) (-(shunt.getD 2 0))
  if i.1 * i.1 + i.2 * i.2 < s.num (Od.OBS_CATCH_I_MIN n) * s.num (Od.OBS_CATCH_I_MIN n) then none
  else
    let k := -(s.axL n) * 500000 - s.num (Od.AX_RS n)
    some (Config.atan2 (k * i.2) (k * i.1))

/-- Angle and speed from the eight pre-charge pulses of a traction cell, 20 µs apart: at least three above CATCH_I_MIN;
the speed is the advance of the back-EMF angle over the pulses, its sign the direction, and the rotor lies 90° behind
the back-EMF in the direction of rotation (R167, R168). -/
def State.catchCurrents (s : State) (c : Cell) (pulses : List (List Rat)) : State :=
  let found := (List.range pulses.length).filterMap fun k =>
    (s.pulseAngle c (pulses.getD k [])).map fun a => (k, a)
  if h : c.val < 8 then
    let n : Axis := ⟨c.val, h⟩
    if found.length < 3 then s.modAx n fun x => { x with pulse := none }
    else
      let adv := (found.zip (found.drop 1)).foldl (fun a p => a + wrapPi (p.2.2 - p.1.2)) 0
      let steps : Nat := ((found.getLast?.map (·.1)).getD 0) - ((found.head?.map (·.1)).getD 0)
      let w := adv * 50000 / steps
      let e := (found.getLast?.map (·.2)).getD 0
      let theta := wrapPi (if w < 0 then e + Config.pi / 2 else e - Config.pi / 2)
      s.modAx n fun x => { x with pulse := some (theta, w, s.tb) }
  else s

/-! ### Reversal (R156) -/

/-- A reversal starts: TQ_RAMP is 0, the sets that decide coast, or hold zero torque while the back-EMF prevents it; test pulses
and a recovery that runs are abandoned, and a set in ASC stays so until R178 (R189). -/
def State.startReversal (s : State) (d : Drive) : State :=
  if ¬ d.isTraction ∨ s.ds d ≠ .active ∨ (s.drv d).substate = 3 then s
  else
    let s := (s.endProbe d.side).setQ (Od.TR_TQ_RAMP d.num) 0
    let s := (s.modDrv d fun x => { x with substate := 3 }).event 0x0504 d.num (s.speedLow d)
    let s := s.lastEvent d 0x0504
    let s := s.each (sideSets d.side) fun n s =>
      (s.modAx n fun x => { x with recover := none, assist := none }).setBit (Od.OBS_OBS_STATUS n) 10 false
    if s.stopCoasts d then s.each (sideSets d.side) fun n s => if s.deciding n then s.coastCell (cellOf n) else s
    else s.zeroRefs d.side

/-! ### Speed and phase-voltage tracking (R160, R169, R176) -/

/-- Records a set's electrical speed: SPEED_EL, BEMF_LL_PK = √3 · |ω| · PSI_PM, OBS_SPEED, and the motor's SPEED of a
traction set (Table 5.12, Table 6.9). -/
def State.setSpeed (s : State) (n : Nat) (w : Rat) : State :=
  let rpm := if s.nat (Od.AX_POLE_PAIRS n) = 0 ∨ w = 0 then 0 else 30 * w / (Config.pi * s.nat (Od.AX_POLE_PAIRS n))
  let emf := if w = 0 ∨ s.num (Od.AX_PSI_PM n) = 0 then 0 else Config.sqrt 3 * |w| * s.num (Od.AX_PSI_PM n)
  let s := ((s.setQ (Od.AX_SPEED_EL n) w).setQ (Od.AX_BEMF_LL_PK n) emf).setQ (Od.OBS_OBS_SPEED n) rpm
  s.when (decide (n < 4)) fun s => s.setQ (Od.TR_SPEED (setSide n).val) rpm

/-- No switch of the cell conducts: it coasts, its gate supplies on or off (R169, Table 2.3). -/
def State.coasts (s : State) (c : Cell) : Bool := (s.cell c).mode == .coast || (s.cell c).mode == .off

/-- The drive returns to STANDBY after an identification. -/
def State.identEnd (s : State) (d : Drive) : State :=
  let s := s.modDrv d fun x => { x with arming := .none }
  if s.ds d = .armed then s.goto d .standby 0xFF else s.each d.cells fun c s => s.offCell c

/-- The procedure that runs on a set: ID_CMD, 0 for none. -/
def State.identCmd (s : State) (n : Axis) : Nat := if s.bit (Od.OBS_OBS_STATUS n) 16 then s.nat (Od.OBS_ID_CMD n) else 0

/-- The back-EMF of a coasting set in an identification (R190, R191): above BEMF_MIN_V it aborts command 1 and 3 of the motor;
for command 2, |e| / |ω| of each result is gathered. -/
def State.identEmf (s : State) (n : Axis) (e2 w : Rat) : State :=
  let d := cellDrive n
  let low := fun (m : Axis) => s.num (Od.OBS_BEMF_MIN_V m)
  if (sideSets (setSide n)).any fun m => (s.identCmd m == 1 || s.identCmd m == 3) && decide (low m * low m < 3 * e2) then
    (s.abortIdent d).identEnd d
  else if s.identCmd n = 2 ∧ (s.ax n).ident.phase = 1 ∧ w ≠ 0 then
    s.modAx n fun x => { x with ident := { x.ident with
      sum := x.ident.sum + Config.sqrt e2 / |w|, count := x.ident.count + 1 } }
  else s

/-- A result of SQ0 while a set coasts (R169): angle and speed from its phase voltages while the line-to-line peak is at
or above BEMF_MIN_V and below the DC link; otherwise tracking ends. -/
def State.trackSet (s : State) (n : Axis) (va vb vc : Rat) : State :=
  let v := alphaBeta va vb vc
  let ll2 := 3 * (v.1 * v.1 + v.2 * v.2)
  let lim := s.num (Od.OBS_BEMF_MIN_V n)
  let bus := s.num Od.DCL_V_DC
  if s.coasts (cellOf n) ∧ lim * lim ≤ ll2 ∧ ll2 < bus * bus then
    let x := s.ax n
    let e := Config.atan2 v.2 v.1
    let w := match x.trackSince with
      | none => 0
      | some _ => wrapPi (e - x.trackTheta) * 100000000 / (s.tb - x.trackTb : Nat)
    let s := s.modAx n fun x => { x with
      trackSince := some (x.trackSince.getD s.tb), trackTheta := e, trackSpeed := w, trackTb := s.tb }
    s.identEmf n (v.1 * v.1 + v.2 * v.2) w
  else (s.modAx n fun x => { x with trackSince := none }).setBit (Od.OBS_OBS_STATUS n) 0 false

/-- The twelve phase voltages of inputs 1 to 12 of GC0, set by set (Table 4.4). -/
def State.trackSets (s : State) (v : Nat → Rat) : State :=
  s.each [0, 1, 2, 3] fun n s => s.trackSet n (v (3 * n.val + 1)) (v (3 * n.val + 2)) (v (3 * n.val + 3))

/-! ### Position interfaces (R204) -/

/-- SERVICE of an interface: 0 OFF, 1 CHECK, 2 NORMAL, 3 FAULT (Table 7.7). -/
def State.pifService (s : State) (p : Nat) : Nat := s.field (Od.PIF_PIF_STATUS p) 0 3

/-- The drive an interface serves (Table 7.1). -/
def pifDrive (p : Nat) : Drive := if p ≤ 1 then .tra else if p ≤ 3 then .trb else .gbx

/-- Counts per revolution; in SSI mode 2 ^ SSI_TURN_BITS (R207). -/
def State.countsPerRev (s : State) (p : Nat) : Nat :=
  if s.nat (Od.PIF_MODE p) = 2 then 2 ^ s.nat (Od.PIF_SSI_TURN_BITS p) else s.nat (Od.PIF_COUNTS_PER_REV p)

/-- An interface's island is supplied and its link trained: P0 to P3 always, P4 to P11 with island L (R195, Table 7.2). -/
def State.pifSupplied (s : State) (p : Nat) : Bool := decide (p < 4) || (s.bringup.islandOn && (s.link .l).trained)

/-- Entry to OFF: counting stops, POS_VALID and the wire faults clear; CHECK_PASSED is of the time since OFF. -/
def State.pifOff (s : State) (p : Fin 12) : State :=
  let k := Od.PIF_PIF_STATUS p
  ((((s.setField k 0 3 0).setBit k 16 false).setBit k 4 false).setField k 5 3 0).modPif p fun x => { x with
    errors := [], held := 0, edge0 := none, edge1 := none, restart := true }

/-- Entry to CHECK: ILLEGAL clears and the error-free time starts; from OFF, REFERENCE_LOST is set. -/
def State.pifCheck (s : State) (p : Fin 12) : State :=
  let k := Od.PIF_PIF_STATUS p
  let fromOff := s.pifService p = 0
  let s := ((s.setField k 0 3 1).setBit k 16 false).setBit k 8 false
  let s := s.when fromOff fun s => s.setBit k 17 true
  s.modPif p fun x => { x with since := s.tb, entry := s.tb, late := false, ssiGood := 0, errors := [] }

/-- Loss of island L's link or supply: P4 to P11 go to OFF with the count at 0 and the reference lost (Table 7.2). -/
def State.linkLossInterfaces (s : State) (l : Link) : State :=
  if l = .l then (List.finRange 12).foldl (fun s p => if p.val < 4 then s else
    ((s.pifOff p).setI (Od.PIF_POSITION p) 0).setBit (Od.PIF_PIF_STATUS p) 17 true) s
  else s


end Sys2Proof.Machine
end

