-- ==== Sys2Proof/Machine/Braking.lean ====
section
/-! DEFINITION. Readiness of the drives (Table 2.6, R63), the runs that AUTO_RUN, recovery and discharge make, actuator
faults, LV battery removal and chopper faults, which the legs, converters and loop units of later files call on. -/
namespace Sys2Proof.Machine

/-! ### Readiness (R63, R65, R290) -/

/-- Pyreri's start-up tests have failed or the safety set is invalid (code 0x06, from step 7 on). -/
def State.safetyBlocked (s : State) : Bool :=
  decide (7 ≤ s.bringup.step) && !(s.bringup.startupOk && s.bringup.safetySetOk)

def State.resSet (s : State) : Bool := s.num Od.DCL_RES_OHM_0 != 0 && s.num Od.DCL_RES_OHM_1 != 0

/-- P0 to P3 have passed their check: NORMAL, or OFF (R205). -/
def State.tractionInterfaces (s : State) : Bool := [0, 1, 2, 3].all fun p => s.pifService p == 2 || s.pifService p == 0

/-- A drive's own checks have passed: those of Table 2.6, and a first Fen round. -/
def State.checksPassed (s : State) (d : Drive) : Bool :=
  s.nat Od.THM_ROUNDS != 0 && match d with
    | .gbx => s.gbx.recovered
    | .brk => s.dcl.checkOk
    | .tra | .trb => (s.drv d).checks && s.tractionInterfaces
    | .aux | .chg => (s.drv d).checks

/-- The first unmet prerequisite of a drive in the order of Table 2.6, as its READY_REASON code; 0 when all are met. -/
def State.unmet (s : State) (d : Drive) : Nat :=
  if s.safetyBlocked then 6
  else if (s.drv d).resetTb.isSome then 7
  else if !s.bringup.islandOn then 1
  else if !(d.links.all fun l => (s.link l).trained) then 2
  else if d = .gbx ∧ s.num Od.CNV_V_IB < 42 then 5
  else if d = .brk ∧ ¬ s.resSet then 8
  else if d = .brk ∧ s.num Od.DCL_V_DC < 450 then 9
  else if s.checksPassed d then 0 else 3

/-- READY_REASON (R63, R64): what an UNAVAILABLE drive waits for, 0x03 while its readiness is being established; 0x04 in a
traction drive's STANDBY until its gear state is resolved; otherwise 0. -/
def State.readyReason (s : State) (d : Drive) : Nat :=
  match s.ds d with
  | .unavailable => if s.unmet d = 0 then 3 else s.unmet d
  | .standby => if d.isTraction ∧ ¬ (s.side d.side).resolved then 4 else 0
  | _ => 0

/-- An UNAVAILABLE drive whose prerequisites are met reports STANDBY; with its torque-off pair asserted it enters
INHIBIT at once (Table 5.10). -/
def State.becomeReady (s : State) (d : Drive) : State :=
  if s.ds d = .unavailable ∧ s.unmet d = 0 ∧ 7 ≤ s.bringup.step then
    let s := (s.openSequencers d).goto d .standby 0xFF
    if (s.drv d).tqo then s.goto d .inhibit 0xFF else s
  else s

/-! ### Runs (R290, R296, R319) -/

/-- BRK becomes ACTIVE: C14 modulates. -/
def State.runBrk (s : State) (trig : Nat) : State :=
  (s.goto .brk .active trig).modCell 14 fun x => { x with mode := .switching }

/-- AUX becomes ACTIVE in the mode that its supplies give; shed phases take part again (R308, R320). -/
def State.runAux (s : State) (trig : Nat) : State :=
  let s := (s.goto .aux .active trig).modAux fun x => { x with shed := [] }
  (s.setBit Od.CNV_AUX_STATUS 13 false).auxSource

/-- CHECK with the safety timer cleared; steps 2 to 8 are asked for. -/
def State.hvCheck (s : State) : State :=
  ((s.setQ Od.HV_HV_TIMER_min 0).setHvState 1).modChg fun x => { x with
    go := true, hv := { x.hv with timer := 0, timerTb := s.tb } }

/-- RUN of CHG to charge, or the start that AUTO_CHARGE has armed. -/
def State.runCharge (s : State) (trig : Nat) : State :=
  let missing := s.nat Od.HV_HV_STATE == 9
  let s := s.goto .chg .active trig
  let s := s.modChg fun x => { x with stopFrom := none, expDown := false }
  if missing then s else s.hvCheck

/-- The run that follows an arming by AUTO_RUN, or by AUTO_CHARGE (R332). -/
def State.runAuto (s : State) (d : Drive) : State :=
  match d with
  | .aux => s.runAux 0xFF
  | .brk => s.runBrk 0xFF
  | .chg => s.runCharge 0xFF
  | _ => s

/-- Both legs go on continuously for a discharge (Table 11.6). -/
def State.dischargeOn (s : State) : State := (s.modDcl fun x => { x with dischOn := true }).setDuty 1

/-- C14 is armed for a discharge: BRK runs, or C14 alone conducts while BRK stays UNAVAILABLE. -/
def State.dischargeArmed (s : State) : State :=
  if s.dcl.dischAlone then (s.modCell 14 fun x => { x with mode := .switching }).dischargeOn
  else ((s.goto .brk .armed 0xFF).runBrk 0xFF).dischargeOn

/-- An arming step failed under R81: the discharge has failed (DESIGN CHOICE, assumption 23). -/
def State.dischargeFailed (s : State) : State := (s.dischargeStop 4).setN Od.DCL_DISCH_STATE 4

/-! ### Chopper faults (R291, R293) -/

def ctrChopFault : Counter := ⟨Od.DCL_CHOP_FAULTS, 16, Od.DCL_DCL_CNT_STATUS, 2, 9⟩

/-- A chopper fault latches its bit and CHOP_FAULT; GEN_FACTOR is 0, both legs are held off, a discharge ends failed, and
BRK goes to FAULT with event 0x0904 (R291, R293 step 1, R296). A fault latched already does nothing more. -/
def State.chopperFault (s : State) (bit leg : Nat) : State :=
  if s.bit Od.DCL_DCL_STATUS bit then s
  else
    let s := ((s.setBit Od.DCL_DCL_STATUS bit true).setBit Od.DCL_DCL_STATUS 9 true).count ctrChopFault
    let s := (s.setQ Od.DCL_GEN_FACTOR 0).setBit Od.DCL_DCL_STATUS 10 true
    let s := s.dischargeStop 4
    let s := s.setDuty 0
    let s := if (s.cell 14).mode = .softOff then s else s.coastCell 14
    s.raise 0x0904 (0x0E + leg) s.linkDetail [.brk]

/-! ### Gear state recovery (R278) and actuator faults (R273) -/

/-- Step 7 of Table 10.9, and a failed step of Table 3.4: event 0x0803, GBX to FAULT. -/
def State.recoveryFail (s : State) : State :=
  let s := s.recAbort
  s.raise 0x0803 2 (s.nat Od.GBX_RECOVERY_PATH) [.gbx]
def State.recoveryArmFailed (s : State) : State := s.recoveryFail

/-- An actuator axis or interface fault: the cell coasts and GBX goes to FAULT (R273). -/
def State.actuatorFault (s : State) (n : Axis) : State :=
  let s := if (s.cell (cellOf n)).mode = .switching then s.coastCell (cellOf n) else s
  let s := s.raise 0x0808 2 (n.val - 4) [.gbx]
  s.haltRecovery

/-! ### LV battery removal (R341) -/

/-- TRICKLE to TOPOFF. -/
def charging (st : Nat) : Bool := st == 2 || st == 3 || st == 4 || st == 5 || st == 7

/-- A result of SQ4 for the LV battery: V_BAT, I_BAT, the hand-back count of R346, and a removal between two consecutive
results: the switch goes to DIODE, LU22 stops, the VR target's lowering ends, and the instance is MISSING. -/
def State.batteryResult (s : State) (v i : Rat) : State :=
  let v0 := s.path.lastV
  let i0 := s.path.lastI
  let s := (s.senseBat v).senseBatI i
  let s := s.modPath fun x => { x with
    lastV := v, lastI := i
    countTb := if s.num Od.CNV_V_IB < 42 then none else
      if s.bit Od.LV_LV_STATUS 5 then some (x.countTb.getD s.tb) else none }
  let s := s.setBit Od.CNV_AUX_STATUS 2 (decide (s.num Od.CNV_TOW_VBAT_MIN ≤ v))
  if charging (s.nat Od.LV_LV_STATE) ∧ (s.batSw = 1 ∨ s.batSw = 2) ∧ 4 / 10 ≤ i0 ∧ 5 * i < i0 ∧ v0 + 1 / 2 ≤ v then
    let s := (s.setBatSw 3).lowerVr none
    let s := ((s.setBit Od.LV_LV_STATUS 8 true).setBit Od.LV_LV_STATUS 1 false).setBit Od.LV_LV_STATUS 6 false
    (s.setLvState 9).event 0x0B0B 0x71 s.lvDetail
  else s

/-- PACK_I, the charger's output current (Table 8.1). -/
def State.packCurrent (s : State) : Rat := s.num Od.CHR_PACK_I

/-! ### Clock and link reactions of the networks -/

/-- FLT_A and FLT_B at the pins (R395): bits 3 and 4 of PYR_STATUS. -/
def State.setFlt (s : State) (on : Bool) : State := (s.setBit Od.PYR_PYR_STATUS 3 on).setBit Od.PYR_PYR_STATUS 4 on

/-- A clock fault asserts FLT_A and FLT_B in hardware until its safety release (R38, R395). -/
def State.assertFlt (s : State) : State := { s.setFlt true with pyr := { s.pyr with fltClock := true } }

end Sys2Proof.Machine
end

