-- ==== Sys2Proof/Machine/Legs.lean ====
section
/-! DEFINITION. Chapter 03: gate supplies, interlock, bootstrap, arming, short circuits, self-test and switching limits
of the cells and legs (R71 to R97). -/
namespace Sys2Proof.Machine

/-- SiC cells are those of islands T and G (Table 3.1). -/
def cellSiC (c : Nat) : Bool := cellLink c != .l

/-- Detail of an event of group 0x03 (R97): leg, flags in [15:8], band in [23:16]. -/
def State.legDetail (s : State) (c : Cell) (leg : Nat) (high pre simul asc : Bool) : Nat :=
  leg + (if high then 256 else 0) + (if pre then 512 else 0) + (if simul then 1024 else 0) + (if asc then 2048 else 0)
    + 65536 * s.nat (Od.CELL_CELL_BAND c)

/-- An event that concerns a whole cell. -/
def State.cellEvent (s : State) (c : Cell) (code : Nat) : State :=
  s.event code c.val (s.legDetail c 0xFF false false false false)

/-! ### Arming (R81, Table 3.4) -/

/-- A step has failed: the sequence ends for all cells of the drive, with its event; of the DAB's bridges alone, the
event acts on AUX with its own severity (R319). A FAULT step takes the drive to
FAULT, another leaves it in STANDBY; a drive that arms while UNAVAILABLE goes to FAULT whatever the severity (R81). -/
def State.armingFailed (s : State) (d : Drive) (c : Cell) (code detail : Nat) : State :=
  let why := (s.drv d).arming
  if why = .dab then
    let s := s.each [8, 9] fun c s => s.offCell c
    (s.modDrv d fun x => { x with arming := .none }).raise code c.val detail [d]
  else
  let s := s.event code c.val detail
  let s := s.each d.cells fun c s => s.offCell c
  let s := s.modDrv d fun x => { x with arming := .none }
  let s := if eventSeverity code = .fault ∨ s.ds d = .unavailable then s.faultState d code else s.lastEvent d code
  match why with
  | .recovery => s.recoveryArmFailed
  | .discharge => s.dischargeFailed
  | .ident => s.abortIdent d
  | _ => s

/-- When every cell of the drive has passed step 6, the drive enters ARMED, or the function that armed it goes on. -/
def State.armingDone (s : State) (d : Drive) : State :=
  if d.cells.all fun c => (s.cell c).armStep = 7 ∨ (s.cell c).armStep = 0 then
    match (s.drv d).arming with
    | .arm => (s.goto d .armed 1).modDrv d fun x => { x with armedTb := s.tb }
    | .auto => (s.goto d .armed 0xFF).runAuto d
    | .ident => (s.goto d .armed 0xFF).modDrv d fun x => { x with armedTb := s.tb }
    | .recovery => (s.modDrv d fun x => { x with arming := .none }).recoveryArmed
    | .discharge => (s.modDrv d fun x => { x with arming := .none }).dischargeArmed
    | .dab => (s.modDrv d fun x => { x with arming := .none }).dabStart
    | .none => s
  else s

def State.armStepTo (s : State) (c : Cell) (n : Nat) (m : CellMode) : State :=
  s.modCell c fun x => { x with armStep := n, mode := m }

/-- A gate-supply undervoltage (R71). -/
def gateUv (c : Nat) (pos neg : Rat) : Bool :=
  if cellSiC c then decide (pos < 16) || decide (neg > -3) else decide (pos < 21 / 2)

/-- The rails an island die has measured. -/
def State.noteRails (s : State) (c : Cell) (pos neg : Rat) : State :=
  (s.setQ (Od.CELL_VGS_SUP_POS c) pos).setQ (Od.CELL_VGS_SUP_NEG c) (if cellSiC c then neg else 0)

/-- Mean of samples. -/
def meanRat (l : List Int) : Rat := if l = [] then 0 else mkRat l.sum l.length

/-- Mean of samples, rounded to nearest (R104). -/
def meanRound (l : List Int) : Int := roundNear (meanRat l)

/-- Largest minus smallest of samples (Table 4.2). -/
def spread (l : List Int) : Int :=
  match l with
  | [] => 0
  | a :: t => t.foldl max a - t.foldl min a

def ctrCal (n : Nat) : Counter := ⟨Od.SH_CAL_COUNT n, 32, Od.SH_CH_STATUS n, 9, 4⟩

/-- Outcome of the offset calibration of a cell's channels (R104, Table 4.2): the first channel that was disturbed, the
first beyond its limit, or the new offsets. -/
inductive CalOutcome where
  | disturbed (pos : Nat) | beyond (pos : Nat) | ok
  deriving DecidableEq, Repr

def State.calOutcome (s : State) (c : Cell) (chans : List (List Int × List Int)) : CalOutcome :=
  match (List.range (cellLegs c)).find? fun i => decide (spread (chans.getD i ([], [])).1 > 32) with
  | some i => .disturbed i
  | none =>
    match (List.range (cellLegs c)).find? fun i =>
      let n := cellFirstLeg c + i
      decide ((meanRound (chans.getD i ([], [])).1 - s.int (Od.SH_OFFSET_TRIM n)).natAbs > s.nat (Od.SH_OFFSET_LIM n)) with
    | some i => .beyond i
    | none => .ok

def State.modShunt (s : State) (n : Leg) (f : ShuntSt → ShuntSt) : State := { s with shunts := upd s.shunts n f }

/-- A calibration of a channel is complete. -/
def State.calEnd (s : State) (l : Leg) : State :=
  let s := s.modShunt l fun x => { x with collecting := false, lateLogged := false, base := s.tb }
  ((s.count (ctrCal l)).setN (Od.SH_LAST_CAL_TB l) (s.dieTb (cellLink (legCell l)))).setBit (Od.SH_CH_STATUS l) 1 false

/-- An arming calibration abandons a recalibration in progress on the same channel (R107). -/
def State.calAbandon (s : State) (n : Leg) : State :=
  ((s.modShunt n fun x => { x with collecting := false, lateLogged := false, next := none, nextArm := none }).setBit
    (Od.SH_CH_STATUS n) 6 false).setBit (Od.SH_CH_STATUS n) 1 false

/-- Steps 2 and 3 of R104: OFFSET_ARM and Z_ARM of each channel of a cell from its samples. -/
def State.calChannels (s : State) (c : Cell) (chans : List (List Int × List Int)) : State :=
  s.each (cellLegList c) fun n s =>
    (s.setI (Od.SH_OFFSET_ARM n) (meanRound (chans.getD (legPos n) ([], [])).1)).modShunt n fun x => { x with
      zArm := meanRat (chans.getD (legPos n) ([], [])).2 }

/-- Step 4 of R104: OFFSET is OFFSET_ARM, and the calibration is complete. -/
def State.calApply (s : State) (c : Cell) : State :=
  s.each (cellLegList c) fun n s => (s.setI (Od.SH_OFFSET n) (s.int (Od.SH_OFFSET_ARM n))).calEnd n

/-- Detail of a shunt event: the channel, and OFFSET in [31:16] (R131). -/
def State.shuntDetail (s : State) (n : Nat) : Nat := n + 65536 * (s.int (Od.SH_OFFSET n) % 65536).toNat

/-- Results of a self-test of the comparators (R91, Table 3.11). -/
def State.selftestResult (s : State) (c : Cell) (vds shunt : Nat) : State :=
  let m := 2 ^ cellLegs c - 1
  s.setN (Od.CELL_SELFTEST_RESULT c) (0x8000 + 16 * (shunt &&& m) + (vds &&& m))

def selftestFailed (c : Nat) (vds shunt : Nat) : Bool := (vds ||| shunt) &&& (2 ^ cellLegs c - 1) != 0

/-- Pre-charge target of a bootstrap (Table 3.1). -/
def bootTarget (c : Nat) : Rat := if cellSiC c then 16 else 21 / 2

/-- BOOT_V_MIN is the lowest bootstrap voltage found in the last 10 ms (Table 3.9). -/
def State.noteBoot (s : State) (c : Cell) (v : List Rat) : State :=
  let w := v.map (fun q => (s.tb, q)) ++ (s.cell c).bootV.filter fun p => decide (s.tb < p.1 + ms 10)
  let s := s.modCell c fun x => { x with bootV := w }
  match w with
  | [] => s
  | p :: w => s.setQ (Od.CELL_BOOT_V_MIN c) (w.foldl (fun a q => min a q.2) p.2)

/-- Step 5 begins when every cell of the drive has passed step 4: on one island all pulse trains on this tick, on several at
one apply time that the commands of both links carry (R26, R81). -/
def State.startPulses (s : State) (d : Drive) : State :=
  if d.cells.any fun c => 1 ≤ (s.cell c).armStep ∧ (s.cell c).armStep < 5 then s
  else s.sendTogether ((d.cells.filter fun c => (s.cell c).armStep == 5).map .precharge)

/-- A step of the arming sequence of cell `c` completes with what the island die measured (Table 3.4). -/
def State.armStep (s : State) (c : Cell) (r : ArmReport) : State :=
  let d := cellDrive c
  if (s.drv d).arming = .none then s else
  let all := s.legDetail c 0xFF false false false false
  match (s.cell c).armStep, r with
  | 2, .supplies pos neg =>
    let s := s.noteRails c pos neg
    if gateUv c pos neg then (s.setBit (Od.CELL_CELL_STATUS c) 8 true).armingFailed d c 0x0308 all
    else (s.each (cellLegList c) fun n s => s.calAbandon n).armStepTo c 3 .coast
  | 3, .offsets chans =>
    let t := s.calChannels c chans
    match s.calOutcome c chans with
    | .disturbed i => t.armingFailed d c 0x0402 (t.shuntDetail (cellFirstLeg c + i))
    | .beyond i => let t := t.calApply c; t.armingFailed d c 0x0401 (t.shuntDetail (cellFirstLeg c + i))
    | .ok => ((t.calApply c).each (cellLegList c) fun n s => s.setBit (Od.SH_CH_STATUS n) 7 false).armStepTo c 4 .selftest
  | 4, .selftest vds shunt =>
    let s := s.selftestResult c vds.toNat shunt.toNat
    if selftestFailed c vds.toNat shunt.toNat then
      ((s.setBit (Od.CELL_CELL_STATUS c) 9 true).armingFailed d c 0x0309 all).addCause d 0x0309
    else
      let s := s.setBit (Od.CELL_CELL_STATUS c) 9 false
      if c.val = 14 then
        ((s.modCell c fun x => { x with precharged := true, refreshLogged := false }).armStepTo c 7 .coast).armingDone d
      else (s.armStepTo c 5 .coast).startPulses d
  | 5, .pulsesDone => if (s.cell c).mode = .precharge ∧ (s.cell c).pulseTb + us 142 ≤ s.tb then s.armStepTo c 6 .coast else s
  | 6, .bootstraps v currents =>
    let s := s.noteBoot c ((List.range (cellLegs c)).map fun i => v.getD i 0)
    match (List.range (cellLegs c)).find? fun i => decide (v.getD i 0 < bootTarget c) with
    | some i => s.armingFailed d c 0x0307 (s.legDetail c (cellFirstLeg c + i) false true false false)
    | none =>
      let s := s.modCell c fun x => { x with precharged := true, refreshLogged := false }
      let s := s.when (decide (c.val < 4)) fun s => s.catchCurrents c currents
      (s.armStepTo c 7 .coast).armingDone d
  | _, _ => s

def execArmingStepComplete (dt : Nat) (c : Cell) (r : ArmReport) (s : State) : Res := reply s ((s.elapse dt).armStep c r)

/-! ### Gate supplies, interlock, bootstrap -/

/-- R71: the cell turns off, its drive goes to FAULT, event 0x0308. -/
def State.gateSupplyUv (s : State) (c : Cell) (pos neg : Rat) : State :=
  let s := s.noteRails c pos neg
  if (s.cell c).supLo ∧ gateUv c pos neg then
    let s := (s.coastCell c).modCell c fun x => { x with heldOff := true }
    let s := s.setBit (Od.CELL_CELL_STATUS c) 8 true
    s.raise 0x0308 c.val (s.legDetail c 0xFF false false false false) [cellDrive c]
  else s

def execGateSupplyUndervoltage (dt : Nat) (c : Cell) (pos neg : Rat) (s : State) : Res :=
  reply s ((s.elapse dt).gateSupplyUv c pos neg)

def ctrBothOn (c : Nat) : Counter := ⟨Od.CELL_BOTH_ON_COUNT c, 32, Od.CELL_COUNTER_STATUS c, 1, 3⟩

/-- R77, R78: both switches of the leg stay off, the occurrence is counted and logged, and the third within 1 ms turns
the cell off and takes its drive to FAULT. -/
def State.bothOn (s : State) (l : Leg) : State :=
  let c := cellOf (legCell l)
  let s := (s.setLeg l .off).count (ctrBothOn c)
  let s := s.setBit (Od.CELL_CELL_STATUS c) (12 + legPos l) true
  let s := s.event 0x0303 c.val (s.legDetail c l false false false false)
  let times := s.tb :: (s.cell c).bothTimes.filter fun t => decide (s.tb < t + ms 1)
  if times.length < 3 then s.modCell c fun x => { x with bothTimes := times }
  else
    let s := (s.coastCell c).modCell c fun x => { x with bothTimes := [], heldOff := true }
    s.raise 0x0304 c.val (s.legDetail c l false false false false) [cellDrive c]

def execBothOnCommand (dt : Nat) (l : Leg) (s : State) : Res := reply s ((s.elapse dt).bothOn l)

def ctrRefresh (c : Nat) : Counter := ⟨Od.CELL_BOOT_REFRESHES c, 32, Od.CELL_COUNTER_STATUS c, 2, 3⟩

/-- The lowest leg of a cell whose high side is blocked. -/
def State.blockedLeg (s : State) (c : Cell) : Nat :=
  match (cellLegList c).find? fun l => (s.leg l).bootBlocked with
  | some l => l.val
  | none => 0xFF

/-- Three refreshes within 100 µs have not cleared the undervoltage: the cell turns off and its drive goes to FAULT
(R80). -/
def State.refreshFailed (s : State) (c : Cell) : State :=
  let s := (s.coastCell c).modCell c fun x => { x with refreshDue := false, heldOff := true }
  s.raise 0x0306 c.val (s.legDetail c (s.blockedLeg c) true false false false) [cellDrive c]

/-- The refreshes of a cell in the last 100 µs that have not cleared its undervoltage. -/
def State.recentRefreshes (s : State) (c : Cell) : List Nat :=
  (s.cell c).refreshes.filter fun t => decide (s.tb < t + us 100)

/-- A forced refresh (R80, R94): the low sides of all legs turn on without regard to tokens, for 2 µs or DWELL_MIN_ns,
whichever is longer; it is counted, and logged first in each ARMED or ACTIVE period. -/
def State.forcedRefresh (s : State) (c : Cell) : State :=
  if 3 ≤ (s.recentRefreshes c).length then s.refreshFailed c
  else
    let s := (s.setLegs c .low).each (cellLegList c) fun l s => s.modLeg l fun g => { g with
      dwellEnd := max g.dwellEnd (s.tb + max (us 2) (s.dwellTicks l)) }
    let s := s.count (ctrRefresh c)
    let first := !(s.cell c).refreshLogged
    let s := s.modCell c fun x => { x with
      refreshes := s.tb :: s.recentRefreshes c, refreshDue := false, refreshLogged := true }
    s.when first fun s => s.event 0x0305 c.val (s.legDetail c (s.blockedLeg c) true false false false)

/-- Release threshold of a bootstrap undervoltage (Table 3.1). -/
def bootRelease (c : Nat) : Rat := if cellSiC c then 27 / 2 else 9

/-- The undervoltage of a leg ends; with the last one of the cell, the refreshes have cleared it. -/
def State.bootReleased (s : State) (c : Cell) (l : Leg) : State :=
  let s := (s.modLeg l fun x => { x with bootBlocked := false }).setBit (Od.CELL_CELL_STATUS c) (16 + legPos l) false
  if (cellLegList c).any fun l => (s.leg l).bootBlocked then s
  else s.modCell c fun x => { x with refreshes := [], refreshDue := false }

/-- R80: below its threshold the high side is blocked and turned off and a refresh is due at the next decision; at the
release threshold the block ends. In a soft turn-off the undervoltage is recorded alone (R89). Chopper legs have no
bootstrap supply (R79). -/
def State.bootstrap (s : State) (l : Leg) (v : Rat) : State :=
  let c := cellOf (legCell l)
  if c.val = 14 ∨ ¬ (s.cell c).supHi then s
  else
    let s := s.noteBoot c [v]
    if v < s.num (Od.CELL_BOOT_UV_THR c) then
      let s := (s.modLeg l fun x => { x with bootBlocked := true }).setBit (Od.CELL_CELL_STATUS c) (16 + legPos l) true
      if (s.cell c).mode = .softOff then s else
      let s := s.when ((s.leg l).level = .high) fun s => s.setLeg l .off
      if 3 ≤ (s.recentRefreshes c).length then s.refreshFailed c
      else s.modCell c fun x => { x with refreshDue := true }
    else if bootRelease c ≤ v then s.bootReleased c l
    else s

def execBootstrapUndervoltage (dt : Nat) (l : Leg) (v : Rat) (s : State) : Res := reply s ((s.elapse dt).bootstrap l v)

/-! ### Short circuits (R84 to R90) -/

def ctrShort (c : Nat) : Counter := ⟨Od.CELL_SC_COUNT c, 16, Od.CELL_COUNTER_STATUS c, 0, 3⟩

/-- A detection is counted, latched and recorded. -/
def State.noteShort (s : State) (l : Leg) : State :=
  let c := cellOf (legCell l)
  let s := (s.count (ctrShort c)).setBit (Od.CELL_CELL_STATUS c) (20 + legPos l) true
  (s.setN (Od.CELL_LAST_FAULT_LEG c) l).setN (Od.CELL_LAST_FAULT_TB c) (s.dieTb (cellLink c))

/-- The two-step soft turn-off of a cell begins (R87): its conducting switches go to the plateau, and it stays off until
acknowledged and armed again (R88); the third in 60 s locks it out (R90). -/
def State.beginSoftOff (s : State) (c : Cell) : State :=
  let on := s.conducting c
  let times := s.tb :: (s.cell c).stoTimes.filter fun t => decide (s.tb < t + sec 60)
  let s := s.each (if stageCell c then cellLegList c else []) fun l s => s.modLeg l fun g => { g with
    level := if on.contains (legPos l) then s.legLevel l else .off, offTb := min g.offTb s.tb }
  let s := (s.countAsc c).modCell c fun x => { x with
    mode := .softOff, heldOff := true, plateau := on, stoTimes := times, armStep := 0, precharged := false }
  if 3 ≤ times.length ∧ ¬ s.flag (Od.CELL_SC_LOCKOUT c) then
    (s.setFlag (Od.CELL_SC_LOCKOUT c) true).cellEvent c 0x030D
  else s

/-- The reaction to a short (R87): the cell's soft turn-off, and the normal turn-off of its drive's other cells but those that
hold ASC. -/
def State.softTurnOff (s : State) (c : Cell) : State :=
  (s.beginSoftOff c).each ((cellDrive c).cells.filter fun e => e != c) fun e s =>
    if (s.cell e).mode = .asc then s else s.coastCell e

/-- A short found while the cell's gate supplies are on (R84, R87, R89): it is logged with its own TB, a soft turn-off
that runs is not restarted, and the drive goes to FAULT; on a chopper leg it also counts as a shorted switch (R291). -/
def State.shortDetected (s : State) (l : Leg) (code : Nat) (high simul : Bool) : State :=
  let c := cellOf (legCell l)
  let detail := s.legDetail c l high ((s.cell c).mode = .precharge) simul false
  let s := (s.noteShort l).event code c.val detail
  let s := if (s.cell c).mode = .softOff then s else s.softTurnOff c
  let s := s.faultState (cellDrive c) code
  if c.val = 14 then s.chopperFault (4 + legPos l) (legPos l) else s

def State.suppliesOn (s : State) (c : Cell) : Bool := (s.cell c).supLo || (s.cell c).supHi

/-- Dead time of a leg in GATE steps, as its last edge took it (R73, R76). -/
def State.deadTime (s : State) (l : Leg) : Nat := s.nat (Od.CELL_DT_B (legCell l) (s.leg l).band)

/-- VDS blanking of a leg in GATE steps, as its last edge took it. -/
def State.blanking (s : State) (l : Leg) : Nat := s.nat (Od.CELL_BLANK (legCell l) (s.leg l).band)

/-- The blanking time has not passed since the gate command, which follows the edge by the dead time; a step is an eighth of a
tick (R84). -/
def State.blanked (s : State) (l : Leg) : Bool := decide (8 * s.tb < 8 * s.lastEdge l + s.deadTime l + s.blanking l)

/-- VDS detection is enabled: the switch is commanded on, its blanking has passed (R84), and it is no low side of a traction
cell in ASC (R86). -/
def State.vdsEnabled (s : State) (l : Leg) (high : Bool) : Bool :=
  let c := cellOf (legCell l)
  s.suppliesOn c && !s.bringup.resetLatch && s.switchOn l high && !s.blanked l && !((s.cell c).mode == .asc && !high)

def State.vdsCrossing (s : State) (l : Leg) (high simul : Bool) : State :=
  if s.vdsEnabled l high then s.shortDetected l 0x0301 high simul else s

def execShortDetectVds (dt : Nat) (l : Leg) (high simultaneous : Bool) (s : State) : Res :=
  reply s ((s.elapse dt).vdsCrossing l high simultaneous)

/-- Shunt detection is armed while the cell's gate supplies are on, but for 60 ns after each switching edge of the leg
(R84). -/
def State.shuntArmed (s : State) (l : Leg) : Bool :=
  s.suppliesOn (cellOf (legCell l)) && !s.bringup.resetLatch && decide (s.lastEdge l + 6 ≤ s.tb)

/-- A crossing of ±OC_TRIP latches in CH_STATUS (R108); in ASC it is logged and does not end ASC (R86). -/
def State.shuntCrossing (s : State) (l : Leg) (positive simul : Bool) : State :=
  let c := cellOf (legCell l)
  if !s.shuntArmed l then s else
  let s := s.setBit (Od.SH_CH_STATUS l) (if positive then 4 else 5) true
  if (s.cell c).mode = .asc then s.event 0x030C c.val (s.legDetail c l false false simul true)
  else s.shortDetected l 0x0302 false simul

def execShortDetectShunt (dt : Nat) (l : Leg) (positive simultaneous : Bool) (s : State) : Res :=
  reply s ((s.elapse dt).shuntCrossing l positive simultaneous)

/-- The plateau ends: every gate goes off through the slow path (R87); after a reset decision the gate supplies are removed
then (R52). -/
def State.plateauEnd (s : State) (c : Cell) : State :=
  if (s.cell c).mode ≠ .softOff then s
  else
    let s := (s.setLegs c .off).modCell c fun x => { x with mode := if x.supLo then .coast else .off, plateau := [] }
    if s.bringup.resetLatch then s.offCell c else s

def execSoftTurnOffPlateauEnd (dt : Nat) (c : Cell) (s : State) : Res := reply s ((s.elapse dt).plateauEnd c)

/-- R90: cleared by writing false in a SERVICE session; true is aborted. -/
def State.writeScLockout (s : State) (who : Requester) (c : Cell) (value : Nat) : State :=
  s.request who (Od.CELL_SC_LOCKOUT c) .service fun s =>
    refuseIf (value != 0) 0x06090030 (.ok (s.setFlag (Od.CELL_SC_LOCKOUT c) false))

def execScLockoutWrite (dt : Nat) (who : Requester) (c : Cell) (value : BitVec 8) (s : State) : Res :=
  reply s ((s.elapse dt).writeScLockout who c value.toNat)

/-! ### Self-test (R91) -/

/-- SELFTEST 1. A cell that holds ASC in FAULT, or that is turning off, does so through the test (DESIGN CHOICE,
assumption 61). -/
def State.writeSelftest (s : State) (who : Requester) (c : Cell) (value : Nat) : State :=
  s.request who (Od.CELL_SELFTEST c) .service fun s =>
    refuseIf (value != 1) 0x06090030 <|
    refuseIf (s.ds (cellDrive c) != .standby && s.ds (cellDrive c) != .fault) 0x08000022 <|
    .ok (s.modCell c fun x => { x with
      selftest := true, mode := if x.mode = .asc ∨ x.mode = .softOff then x.mode else .selftest })

def execSelftestStart (dt : Nat) (who : Requester) (c : Cell) (value : BitVec 8) (s : State) : Res :=
  reply s ((s.elapse dt).writeSelftest who c value.toNat)

/-- A test on command ends: a pass logs 0x030A and clears the mark of a failure; a failure logs 0x0309, takes the drive
to FAULT and stands as its cause until a test passes. -/
def State.selftestDone (s : State) (c : Cell) (vds shunt : Nat) : State :=
  let d := cellDrive c
  let s := (s.selftestResult c vds shunt).modCell c fun x => { x with
    selftest := false, mode := if x.mode = .selftest then (if x.supLo then .coast else .off) else x.mode }
  if selftestFailed c vds shunt then
    let s := s.setBit (Od.CELL_CELL_STATUS c) 9 true
    (s.raise 0x0309 c.val (s.legDetail c 0xFF false false false false) [d]).addCause d 0x0309
  else
    let s := (s.setBit (Od.CELL_CELL_STATUS c) 9 false).cellEvent c 0x030A
    if d.cells.all fun e => !s.bit (Od.CELL_CELL_STATUS e) 9 then
      s.modDrv d fun x => { x with causes := x.causes.filter fun e => e != 0x0309 }
    else s

def execSelftestComplete (dt : Nat) (c : Cell) (vdsFail shuntFail : BitVec 4) (s : State) : Res :=
  let s := s.elapse dt
  reply s (if (s.cell c).selftest then s.selftestDone c vdsFail.toNat shuntFail.toNat else s)

/-! ### Tokens and dwell (R92, R93) -/

def ctrDeferral (c : Nat) : Counter := ⟨Od.CELL_FSW_DEFERRALS c, 32, Od.CELL_COUNTER_STATUS c, 3, 3⟩

/-- A switching cycle starts with the high side, on the chopper legs with the low side (R92). -/
def cycleStart (l : Nat) (lv : LegLevel) : Bool := if l < 48 then lv == .high else lv == .low

/-- A leg takes a new level now: a cycle uses a token and is counted. -/
def State.switchLeg (s : State) (l : Leg) (lv : LegLevel) : State :=
  if cycleStart l lv && (s.leg l).level != lv then
    let s := s.modLeg l fun x => { x with tokens := x.tokens - 1, deferred := false }
    (s.setLeg l lv).countWide (Od.CELL_LEG_SWITCHES (legCell l) (legPos l))
  else (s.modLeg l fun x => { x with deferred := false }).setLeg l lv

/-- A request to start a cycle finds no token: it is deferred, counted once while it waits (R92). -/
def State.deferLeg (s : State) (l : Leg) : State :=
  if (s.leg l).deferred then s
  else (s.modLeg l fun x => { x with deferred := true }).count (ctrDeferral (legCell l))

/-- A cycle of a stage cell's leg begins: its pulse, from `a` to `b`, uses a token and is counted, and takes the dead time of
the present band (R76, R92, R95). An interval between two pulses that would be shorter than DWELL_MIN_ns is skipped, so that
the switch stays on; once begun, it is held to its end; a pulse left shorter than DWELL_MIN_ns is skipped (R93). -/
def State.stagePulse (s : State) (l : Leg) (a b : Nat) : State :=
  let g := s.leg l
  let w := s.dwellTicks l
  if a < g.offTb + w ∧ s.tb ≤ g.offTb ∧ g.onTb < g.offTb then
    s.modLeg l fun x => { x with deferred := false, offTb := max x.offTb b }
  else
    let a := max a (g.offTb + w)
    if b < a + w then s.modLeg l fun x => { x with deferred := false }
    else
      (s.modLeg l fun x => { x with
        tokens := x.tokens - 1, deferred := false, edgeTb := max x.edgeTb (min x.offTb s.tb), onTb := a, offTb := b
        band := s.nat (Od.CELL_CELL_BAND (legCell l)) }).countWide (Od.CELL_LEG_SWITCHES (legCell l) (legPos l))

/-- A pulse that the stage modulator asks for in a period, from `a` to `b`; without a token it is deferred, each period's
cycle for itself (R92). -/
def State.stageLeg (s : State) (l : Leg) (a b : Nat) : State :=
  if (s.leg l).tokens ≠ 0 ∨ b < a + s.dwellTicks l then s.stagePulse l a b
  else (s.modLeg l fun x => { x with deferred := true, want := (a, b) }).count (ctrDeferral (legCell l))

/-- A leg gains a token at the rate FSW_MAX, up to four; a cycle that waited for it starts: a stage cell's at once, an axis
cell's at the axis unit's next decision (R92). -/
def State.refillToken (s : State) (l : Leg) : State :=
  if (s.tb - (s.leg l).refillTb) * s.nat (Od.CELL_FSW_MAX (legCell l)) < sec 1 then s else
  let was := (s.leg l).deferred
  let s := s.modLeg l fun x => { x with tokens := min 4 (x.tokens + 1), deferred := false, refillTb := s.tb }
  if was ∧ stageCell (cellOf (legCell l)) ∧ (s.cell (cellOf (legCell l))).mode = .switching then
    s.stagePulse l (max s.tb (s.leg l).want.1) (s.leg l).want.2
  else s

def execTokenRefill (dt : Nat) (l : Leg) (s : State) : Res := reply s ((s.elapse dt).refillToken l)

/-- 600 s of switching since the last save (R95). -/
def State.counterSave (s : State) (c : Cell) : State :=
  if sec 600 ≤ (s.cell c).swTicks then (s.saveLegs c).modCell c fun x => { x with swTicks := 0 } else s

def execLegCounterSave (dt : Nat) (c : Cell) (s : State) : Res := reply s ((s.elapse dt).counterSave c)

end Sys2Proof.Machine
end

