-- ==== Sys2Proof/Machine/Sensing.lean ====
section
/-! DEFINITION. Chapter 04: shunt samples and their calibration, general converters, sequencers and general comparators
(R98 to R131). -/
namespace Sys2Proof.Machine

/-! ### Shunt samples (R98, R101, R102) -/

/-- R102: (raw − OFFSET) × GAIN in Q1.15, rounded to nearest with ties away from zero, clamped to the code range; with
the mark of a clamp. -/
def correctSample (raw offset : Int) (gain : Nat) : Int × Bool :=
  let p := (raw - offset) * gain
  let a := (p.natAbs + 16384) / 32768
  let v : Int := if p < 0 then -a else a
  if v < -8192 then (-8192, true) else if 8191 < v then (8191, true) else (v, false)

def ctrOvr (n : Nat) : Counter := ⟨Od.SH_OVR_COUNT n, 32, Od.SH_CH_STATUS n, 8, 4⟩

/-- A sample of a shunt channel enters its object: raw and corrected value, current, TB, OVR (R98, R102, R127). -/
def State.shuntSample (s : State) (n : Leg) (raw : Int) (valid : Bool) (stamp : Nat) : State :=
  let c := correctSample raw (s.int (Od.SH_OFFSET n)) (s.nat (Od.SH_GAIN n))
  let ovr := c.2 || raw == -8192 || raw == 8191
  let s := ((s.setI (Od.SH_RAW n) raw).setI (Od.SH_CORR n) c.1).setBit (Od.SH_CH_STATUS n) 3 ovr
  let s := s.when valid fun s =>
    (s.setQ (Od.SH_CURRENT n) (c.1 * s.num (Od.SH_LSB_A n))).setN (Od.SH_SAMPLE_TB n) stamp
  let s := s.setBit (Od.SH_CH_STATUS n) 2 valid
  s.when ovr fun s => s.count (ctrOvr n)

/-- SETTLE_ns has passed since the end of the dead time of an edge, at a sample instant; in quarters of a nanosecond
(R101). -/
def State.settled (s : State) (l : Leg) (edge t : Nat) : Bool :=
  decide (40 * edge + 5 * s.deadTime l + 4 * s.nat (Od.SH_SETTLE_ns l) ≤ 40 * t)

/-- R101 for an axis cell's leg at a sample instant `t` not after now: its low side has been on, settled, and no edge of the
leg is commanded within 10 ns after the instant. -/
def State.sampleOk (s : State) (l : Leg) (t : Nat) : Bool :=
  let g := s.leg l
  if g.edgeTb ≤ t then g.level == .low && s.settled l g.edgeTb t
  else g.prev == .low && s.settled l g.prevTb t && decide (t + 1 < g.edgeTb)

/-- R101 for a stage cell's leg now. -/
def State.stageOk (s : State) (l : Leg) : Bool :=
  let g := s.leg l
  s.switchOn l false && s.settled l (s.lastEdge l) s.tb && g.onTb != s.tb + 1 && g.offTb != s.tb + 1

/-! ### Recalibration (R105 to R107) -/

/-- The recalibration interval in ticks, by the cell's present band (R105). -/
def State.calInterval (s : State) (n : Leg) : Nat :=
  ms (s.nat (Od.SH_CAL_INT_ms n (s.nat (Od.CELL_CELL_BAND (legCell n)))))

/-- The drive's state has channels recalibrate against the zero reference (R105); through the full path (R107). -/
def State.calZero (s : State) (n : Leg) : Bool :=
  s.ds (cellDrive (legCell n)) == .armed || s.ds (cellDrive (legCell n)) == .active
def State.calFull (s : State) (n : Leg) : Bool :=
  s.ds (cellDrive (legCell n)) == .standby || s.ds (cellDrive (legCell n)) == .unavailable ||
    s.ds (cellDrive (legCell n)) == .fault

/-- The interval has expired, counted from the last completed calibration, and the channel runs in a state in which it
recalibrates (R105, R107). -/
def State.calDue (s : State) (n : Leg) : Bool :=
  s.bringup.islandOn && (s.calZero n || s.calFull n) && decide ((s.shunts.get n).base + s.calInterval n ≤ s.tb)

def execOffsetRecalibrationDue (dt : Nat) (l : Leg) (s : State) : Res :=
  let s := s.elapse dt
  reply s (if s.calDue l ∧ ¬ (s.shunts.get l).collecting then
    (s.modShunt l fun x => { x with collecting := true, sinceTb := s.tb }).setBit (Od.SH_CH_STATUS l) 6 true
  else s)

/-- A new OFFSET; beyond OFFSET_LIM of the trim it is applied, marked and logged (R106). -/
def State.newOffset (s : State) (l : Leg) (v : Int) : State :=
  let s := s.setI (Od.SH_OFFSET l) v
  if (v - s.int (Od.SH_OFFSET_TRIM l)).natAbs > s.nat (Od.SH_OFFSET_LIM l) then
    (s.setBit (Od.SH_CH_STATUS l) 7 true).event 0x0403 (legCell l) (s.shuntDetail l)
  else s

/-- A channel takes what its recalibration has found; the calibration is complete. -/
def State.takeOffset (s : State) (l : Leg) : State :=
  let x := s.shunts.get l
  match x.next with
  | none => s
  | some v =>
    let s := match x.nextArm with
      | some (a, z) => (s.setI (Od.SH_OFFSET_ARM l) a).modShunt l fun x => { x with zArm := z }
      | none => s
    let s := ((s.modShunt l fun x => { x with next := none, nextArm := none }).newOffset l v).calEnd l
    s.setBit (Od.SH_CH_STATUS l) 6 false

/-- The channels of a cell take their new offsets together, when none of them collects any more (R102). -/
def State.takeOffsets (s : State) (c : Cell) : State :=
  if (cellLegList c).any fun n => (s.shunts.get n).collecting then s
  else s.each (cellLegList c) fun n s => s.takeOffset n

/-- What a channel's recalibration has found waits for the cell's other channels. -/
def State.found (s : State) (l : Leg) (v : Int) (arm : Option (Int × Rat)) : State :=
  (s.modShunt l fun x => { x with collecting := false, lateLogged := false, next := some v, nextArm := arm }).takeOffsets
    (cellOf (legCell l))

/-- Current disturbed the samples of a channel (R107): the cell's channels keep their values without an event and repeat the
calibration at the next interval. -/
def State.calRepeat (s : State) (c : Cell) : State :=
  s.each (cellLegList c) fun n s =>
    if (s.shunts.get n).collecting ∨ (s.shunts.get n).next.isSome then
      ((s.modShunt n fun x => { x with
        collecting := false, lateLogged := false, next := none, nextArm := none, base := s.tb }).setBit
        (Od.SH_CH_STATUS n) 6 false).setBit (Od.SH_CH_STATUS n) 1 false
    else s

/-- The low side of a leg has been commanded off at some time since the collection began, so that samples of the zero reference
could be taken (R105, R106). -/
def State.lowWasOff (s : State) (l : Leg) : Bool :=
  !s.switchOn l false || decide ((s.shunts.get l).sinceTb < s.lastEdge l)

/-- R105 while the drive is ARMED or ACTIVE: OFFSET follows the zero reference. R107 in STANDBY, UNAVAILABLE and FAULT:
OFFSET_ARM, the zero mean and OFFSET are renewed, unless current disturbs the samples. -/
def State.recalibrate (s : State) (l : Leg) (zero full : List Int) : State :=
  if s.calZero l then
    if s.lowWasOff l then
      s.found l (roundNear (s.int (Od.SH_OFFSET_ARM l) + (meanRat zero - (s.shunts.get l).zArm))) none
    else s
  else if s.calFull l ∧ full ≠ [] then
    if spread full > 32 then s.calRepeat (cellOf (legCell l))
    else s.found l (meanRound full) (some (meanRound full, meanRat zero))
  else s

def execOffsetRecalibrationComplete (dt : Nat) (l : Leg) (zero full : List Int) (s : State) : Res :=
  let s := s.elapse dt
  reply s (if (s.shunts.get l).collecting then s.recalibrate l zero full else s)

/-- R106: logged once, when twice the interval has passed; collection goes on. -/
def execRecalibrationLate (dt : Nat) (l : Leg) (s : State) : Res :=
  let s := s.elapse dt
  reply s (if (s.shunts.get l).collecting ∧ ¬ (s.shunts.get l).lateLogged ∧
      (s.shunts.get l).base + 2 * s.calInterval l ≤ s.tb then
    let s := (s.modShunt l fun x => { x with lateLogged := true }).setBit (Od.SH_CH_STATUS l) 1 true
    s.event 0x0404 (legCell l) (s.shuntDetail l)
  else s)

/-- HI_THR_CODE and LO_THR_CODE follow OC_TRIP of the cell (R108). -/
def State.thresholdCodes (s : State) (c : Cell) : State :=
  s.each (cellLegList c) fun n s =>
    let k := (s.num (Od.CELL_OC_TRIP c) / (2 * fullScale n / 1024)).floor
    (s.setI (Od.SH_HI_THR_CODE n) (512 + k)).setI (Od.SH_LO_THR_CODE n) (512 - k)

/-! ### Sequencers (R113 to R120) -/

/-- The period of a periodic sequencer has passed since its last trigger, counted from enable (R114). -/
def State.seqPeriodDue (s : State) (n : Fin 8) : Bool :=
  s.trigSel n == 1 && s.seqEnabled n && decide ((s.seq n).baseTb + us (s.nat (Od.SQ_TRIG_PERIOD n)) ≤ s.tb)

/-- A periodic trigger: the instants keep their distance from the enabling. -/
def State.seqPeriodic (s : State) (n : Fin 8) : State :=
  if s.seqPeriodDue n then
    let p := us (s.nat (Od.SQ_TRIG_PERIOD n))
    (s.modSeq n fun x => { x with baseTb := x.baseTb + (if p = 0 then 0 else (s.tb - x.baseTb) / p * p) }).seqTrigger n
  else s

/-- The trigger that a sequencer's own time brings: the period of a periodic one. Cell periods, comparator crossings, writes of
SW_TRIGGER and completions bring the others (R114). -/
def execSequencerTrigger (dt : Nat) (n : Fin 8) (s : State) : Res := reply s ((s.elapse dt).seqPeriodic n)

/-- R114: a write of 1 starts a sequence whose TRIG_SEL is software. -/
def State.writeSwTrigger (s : State) (who : Requester) (n : Fin 8) (value : Nat) : State :=
  s.request who (Od.SQ_SW_TRIGGER n) .operator fun s =>
    refuseIf (value != 1) 0x06090030 (.ok (if s.trigSel n = 0 then s.seqTrigger n else s))

def execSwTriggerWrite (dt : Nat) (who : Requester) (n : Fin 8) (value : BitVec 8) (s : State) : Res :=
  reply s ((s.elapse dt).writeSwTrigger who n value.toNat)

/-- Input and averaging depth of an entry (Table 4.14). -/
def State.entryInput (s : State) (n : Fin 8) (i : Nat) : Nat := s.field (Od.SQ_ENTRY n i) 0 5
def State.entryAvg (s : State) (n : Fin 8) (i : Nat) : Nat := s.field (Od.SQ_ENTRY n i) 8 4

/-- The average of an entry's samples, rounded to nearest with ties upward (R113). -/
def entryMean (samples : List Nat) (log2 : Nat) : Nat :=
  (samples.sum + (if log2 = 0 then 0 else 2 ^ (log2 - 1))) / 2 ^ log2

/-- R111: the reference result of a completed run decides REF_FAIL and the validity of the converter's results. -/
def State.referenceCheck (s : State) (n : Fin 8) (results : List Nat) : State :=
  let g := n.val / 2
  let ref := (List.range results.length).find? fun i => s.entryInput n i == 31
  match ref with
  | none => s
  | some i =>
    let code := results.getD i 0
    let s := s.setN (Od.GC_REF_CODE g) code
    let bad := decide (code < 2032 ∨ 2064 < code)
    let s := s.setBit (Od.GC_GC_STATUS g) 6 bad
    let s := s.each [n, seqPartner n] fun q s => s.setBit (Od.SQ_SQ_STATUS q) 4 (bad || !(s.seq q).closedFor.isEmpty)
    s.when bad fun s => s.event 0x0406 0xFF g

/-- Physical value of an input's code (R110). -/
def inputValue (g i code : Nat) : Rat := ((code : Rat) - (gcInput g i).2) * (gcInput g i).1

/-- Line voltages of a result: rms values over windows of 20 ms, and the frequency from the rising zero crossings of L1
(R331; DESIGN CHOICE, assumption 24). -/
def State.lineResult (s : State) (v : List Rat) : State :=
  let x := s.chg
  let s := if x.lineLast < 0 ∧ 0 ≤ v.headD 0 then
      (match x.crossTb with
        | some t => s.setQ Od.CHR_F_LINE (100000000 / (s.tb - t : Nat))
        | none => s).modChg fun x => { x with crossTb := some s.tb }
    else s
  let sum := Vector.ofFn fun (i : Fin 3) => x.lineSum[i] + v.getD i 0 * v.getD i 0
  let n := x.lineN + 1
  if s.tb < x.lineTb + ms 20 then s.modChg fun x => { x with lineLast := v.headD 0, lineSum := sum, lineN := n }
  else
    let ms_ : Vector Rat 3 := sum.map fun q => q / (n : Rat)
    let s := s.each (List.finRange 3) fun i s => s.setQ (Od.CHR_V i) (Config.sqrt ms_[i])
    s.modChg fun x => { x with
      lineLast := v.headD 0, lineMs := ms_, lineSum := Vector.replicate 3 0, lineN := 0, lineTb := s.tb }

/-- The objects that report converter inputs take the results of a completed run (R100, R110, R113). -/
def State.publish (s : State) (n : Fin 8) (results : List Nat) : State :=
  let v (i : Nat) : Rat := inputValue (n.val / 2) i (results.getD i 0)
  match n.val with
  | 0 => (s.setQ Od.DCL_V_DC_GC (v 0)).trackSets v
  | 2 => ((s.lineResult [v 0, v 1, v 2]).setQ Od.CHR_V_PFC (v 3)).modChg fun x => { x with
      outlet := max (max |v 6| |v 7|) (max |v 8| |v 9|) }
  | 4 =>
    let s := s.each (List.range 8) fun i s => (s.setQ (Od.SOL_I_ACT i) (v i)).solTrack i
    let fell := decide (38 ≤ s.num Od.CNV_V_IB ∧ v 8 < 38)
    let s := ((s.senseIb (v 8)).setQ Od.CNV_V_AUX48 (v 9)).senseVr (v 10)
    let s := s.when fell fun s => s.solenoidsOff
    (s.batteryResult (v 11) (v 12))
  | _ => s

/-- R113: the run's results become visible together, SEQ_TB takes its first acquisition, SEQ_COUNT advances (a wrap is
logged, R126), the reference is checked, and the objects that report inputs follow. -/
def State.seqComplete (s : State) (n : Fin 8) : State :=
  let x := s.seq n
  let s := s.each (List.range (min 32 x.hidden.length)) fun i s => s.setN (Od.SQ_RESULT n i) (x.hidden.getD i 0)
  let s := (s.setN (Od.SQ_SEQ_TB n) x.stamp).modSeq n fun x => { x with shownTb := x.startTb }
  let s := if s.nat (Od.SQ_SEQ_COUNT n) + 1 < 2 ^ 32 then s.setN (Od.SQ_SEQ_COUNT n) (s.nat (Od.SQ_SEQ_COUNT n) + 1)
    else (s.setN (Od.SQ_SEQ_COUNT n) 0).event 0x0408 0xFF n
  let s := s.setBit (Od.SQ_SQ_STATUS n) 4 (s.bit (Od.GC_GC_STATUS (n.val / 2)) 6)
  let s := s.referenceCheck n x.hidden
  let s := s.when (!s.bit (Od.SQ_SQ_STATUS n) 4) fun s => s.publish n x.hidden
  (s.modSeq n fun x => { x with run := .idle, samples := [], hidden := [] }).luSeqTrigger n

/-- What follows a completion (R115 to R117): a suspended or pending partner goes on; a continuous sequence restarts at
once, unless a NORMAL partner waits, which then converts one entry first. -/
def State.seqNext (s : State) (n : Fin 8) : State :=
  let p := seqPartner n
  let waiting := (s.seq p).run == .suspended || (s.seq p).pending
  let continuous := s.seqContinuous n
  let s := s.when (continuous && waiting && s.seqUrgent n) fun s => s.modSeq n fun x => { x with yielding := true }
  let s := if (s.seq p).run = .suspended then s.modSeq p fun x => { x with run := .running }
    else if (s.seq p).pending then s.seqStart p else s
  s.when (continuous && !(waiting && s.seqUrgent n)) fun s => s.seqTrigger n

/-- After an entry of a NORMAL sequence, a continuous URGENT partner that yielded restarts at the entry boundary
(R117). -/
def State.seqYieldBack (s : State) (n : Fin 8) : State :=
  let p := seqPartner n
  if (s.seq p).yielding then
    let s := if (s.seq n).run = .running then s.seqSuspend n else s
    if s.seqContinuous p then s.seqStart p else s.modSeq p fun x => { x with yielding := false }
  else s

/-- A conversion of the running entry finishes (R109, R113). -/
def State.seqSample (s : State) (n : Fin 8) (code : Nat) : State :=
  let x := s.seq n
  let avg := s.entryAvg n x.entry
  let samples := x.samples ++ [code]
  if samples.length < 2 ^ avg then s.modSeq n fun x => { x with samples := samples }
  else
    let s := s.modSeq n fun x => { x with
      entry := x.entry + 1, samples := [], hidden := x.hidden ++ [entryMean samples avg] }
    if x.entry + 1 < s.nat (Od.SQ_LENGTH n) then s.seqYieldBack n
    else
      let s := s.seqComplete n
      if (s.seq (seqPartner n)).yielding then s.seqYieldBack n else s.seqNext n

/-- The sequencer that converts on a converter. -/
def State.seqRunning (s : State) (g : Fin 4) : Option (Fin 8) :=
  let a : Fin 8 := ⟨2 * g.val, by omega⟩
  let b : Fin 8 := ⟨2 * g.val + 1, by omega⟩
  if (s.seq a).run = .running then some a else if (s.seq b).run = .running then some b else none

def execConversionComplete (dt : Nat) (g : Fin 4) (code : BitVec 12) (s : State) : Res :=
  let s := s.elapse dt
  reply s (match s.seqRunning g with
    | some n => s.seqSample n code.toNat
    | none => s)

/-- R114, R119, Table 4.13: a value of SQ_CTRL names only resources of the sequencer's island. TRIG_CELL is judged where TRIG_SEL
selects a cell's period start (DESIGN CHOICE, assumption 64). -/
def sqCtrlOk (n value : Nat) : Bool :=
  let sel := value / 2 ^ 24 % 16
  let cell := value / 2 ^ 16 % 16
  value % 65536 == 0 && value / 2 ^ 28 % 4 == 0 && decide (sel ≤ 4) && decide (value / 2 ^ 20 % 16 ≤ 3) &&
  (sel != 2 || (decide (8 ≤ cell ∧ cell ≤ 14) && decide (n / 2 ≤ 2) && decide ((cellLink cell).num = n / 2)))

/-- R118, R119: a claimed sequencer refuses; while ENABLE is 1 only ENABLE may change; ENABLE 0 abandons the sequence;
a continuous sequence starts when it is enabled. -/
def State.writeSqCtrl (s : State) (who : Requester) (n : Fin 8) (value : Nat) : State :=
  s.request who (Od.SQ_SQ_CTRL n) .service fun s =>
    let old := s.nat (Od.SQ_SQ_CTRL n)
    refuseIf (!sqCtrlOk n value) 0x06090030 <|
    refuseIf (n != 6) 0x08000022 <|
    refuseIf (old.testBit 31 && value % 2 ^ 31 != old % 2 ^ 31) 0x08000022 <|
    let t := s.setN (Od.SQ_SQ_CTRL n) value
    refuseIf (!t.luRatesOk 2 n) 0x06090030 <|
    .ok (if value.testBit 31 then
        (t.when (!old.testBit 31) fun t => (t.modSeq n fun x => { x with baseTb := t.tb }).seqResume n)
      else t.seqAbandon n)

def execSqCtrlWrite (dt : Nat) (who : Requester) (n : Fin 8) (value : BitVec 32) (s : State) : Res :=
  reply s ((s.elapse dt).writeSqCtrl who n value.toNat)

/-! ### General comparators (R121 to R125) -/

def ctrCross (n : Nat) : Counter := ⟨Od.GCP_CROSS_COUNT n, 32, Od.GCP_GCP_STATUS n, 4, 4⟩

/-- The comparator's outputs for an input code, with hysteresis (R121; threshold code c is converter code 4c); an input exactly
HYST_CODE steps back keeps the output (DESIGN CHOICE, assumption 64). -/
def State.gcpOut (s : State) (n : Fin 16) (code : Nat) : Bool × Bool :=
  let hi := 4 * s.nat (Od.GCP_HI_CODE n)
  let lo := 4 * s.nat (Od.GCP_LO_CODE n)
  let hy := 4 * s.nat (Od.GCP_HYST_CODE n)
  (if s.bit (Od.GCP_GCP_STATUS n) 0 then decide (hi ≤ code + hy) else decide (hi < code),
   if s.bit (Od.GCP_GCP_STATUS n) 1 then decide (code ≤ lo + hy) else decide (code < lo))

/-- The selected condition (Table 4.17): above HI, below LO, outside, inside. -/
def gcpCondition (mode : Nat) (out : Bool × Bool) : Bool :=
  match mode with
  | 0 => out.1 | 1 => out.2 | 2 => out.1 || out.2 | _ => !(out.1 || out.2)

/-- The sequencers of the comparator's converter that it triggers (R124). -/
def State.gcpTriggers (s : State) (n : Fin 16) : List (Fin 8) :=
  (List.finRange 8).filter fun q => q.val / 2 == n.val / 4 && s.trigSel q == 3 && s.trigCmp q == n.val % 4

def State.modGcp (s : State) (n : Fin 16) (f : GcpSt → GcpSt) : State := { s with gcps := upd s.gcps n f }

/-- The blanking interval of a comparator runs: BLANK_ns after the last switching edge of any leg of BLANK_CELL (R123). -/
def State.gcpBlanked (s : State) (n : Nat) : Bool :=
  let c := s.nat (Od.GCP_BLANK_CELL n)
  decide (c < 15) && (cellLegList (cellOf c)).any fun l =>
    decide (s.lastEdge l ≠ 0) && decide (10 * s.tb < 10 * s.lastEdge l + s.nat (Od.GCP_BLANK_ns n))

/-- The setting edge of LATCH triggers the sequencers that name the comparator (R124). -/
def State.gcpFire (s : State) (n : Fin 16) : State :=
  (s.modGcp n fun x => { x with fired := true }).each (s.gcpTriggers n) fun q s => s.seqTrigger q

/-- A change of a comparator's input that has stood for FILTER_ns (R121, R124): entry into the condition sets LATCH, counts, is
dated, logged if EVENT_EN is set, and triggers sequencers if LATCH was clear. -/
def State.gcpCross (s : State) (n : Fin 16) (code : Nat) : State :=
  let mode := s.field (Od.GCP_GCP_CTRL n) 29 2
  let was := gcpCondition mode (s.bit (Od.GCP_GCP_STATUS n) 0, s.bit (Od.GCP_GCP_STATUS n) 1)
  let out := s.gcpOut n code
  let latched := s.bit (Od.GCP_GCP_STATUS n) 2
  let s := (s.setBit (Od.GCP_GCP_STATUS n) 0 out.1).setBit (Od.GCP_GCP_STATUS n) 1 out.2
  if gcpCondition mode out ∧ ¬ was then
    let s := (s.setBit (Od.GCP_GCP_STATUS n) 2 true).count (ctrCross n)
    let s := (s.setN (Od.GCP_LAST_CROSS_TB n) (s.stampOf (gcLink (n.val / 4)))).modGcp n fun x => { x with
      crossTb := some s.tb, fired := false }
    let s := s.when (s.bit (Od.GCP_GCP_CTRL n) 27) fun s => s.event 0x0410 0xFF n
    s.when (!latched) fun s => s.gcpFire n
  else s

/-- The input of a comparator has stood at a code for `held` ticks: outside blanking, and once FILTER_ns has passed, the change
is qualified (R121, R123). -/
def State.gcpInput (s : State) (n : Fin 16) (code held : Nat) : State :=
  if s.bit (Od.GCP_GCP_CTRL n) 31 ∧ s.gcOn (n.val / 4) ∧ ¬ s.gcpBlanked n ∧ s.nat (Od.GCP_FILTER_ns n) ≤ 10 * held then
    s.gcpCross n code
  else s

def execGeneralComparatorCrossing (dt : Nat) (n : Fin 16) (x : HeldCode) (s : State) : Res :=
  reply s ((s.elapse dt).gcpInput n x.code.toNat x.held)

/-- LATCH clears, but for a crossing in the same CONV clock, which stands as a new one and triggers again (R124). -/
def State.gcpClear (s : State) (n : Fin 16) : State :=
  if (s.gcps.get n).crossTb = some s.tb then (if (s.gcps.get n).fired then s else s.gcpFire n)
  else s.setBit (Od.GCP_GCP_STATUS n) 2 false

def State.writeGcpClear (s : State) (who : Requester) (n : Fin 16) (value : Nat) : State :=
  s.request who (Od.GCP_CLEAR n) .operator fun s => refuseIf (value != 1) 0x06090030 (.ok (s.gcpClear n))

def execGcpClearWrite (dt : Nat) (who : Requester) (n : Fin 16) (value : BitVec 8) (s : State) : Res :=
  reply s ((s.elapse dt).writeGcpClear who n value.toNat)

/-- A stage cell that modulates starts a switching period (R114, R124, R80): latches of PERIOD comparators that name it
clear, sequencers and loop units that name it are triggered, and a refresh that is due is inserted. -/
def State.periodStart (s : State) (c : Cell) : State :=
  let s := s.each (List.finRange 16) fun n s =>
    if s.bit (Od.GCP_GCP_CTRL n) 28 ∧ s.nat (Od.GCP_BLANK_CELL n) = c.val ∧ (cellLink c).num = n.val / 4 then
      s.gcpClear n
    else s
  let s := s.each (List.finRange 8) fun q s =>
    if s.trigSel q = 2 ∧ s.trigCell q = c.val then s.seqTrigger q else s
  (s.luCellTrigger c).when (s.cell c).refreshDue fun s => s.forcedRefresh c

end Sys2Proof.Machine
end

