-- ==== Sys2Proof/Machine/Vectors.lean ====
section
/-! DEFINITION. Voltage vectors, the samples of a decision, the applied voltage and the reconstruction of the currents (R98,
R101, R134 to R145, R187). -/
namespace Sys2Proof.Machine

/-! ### Vectors and sectors (R141 to R143) -/

/-- Switching state of a vector (Table 5.2): high sides of phases a, b, c. -/
def vectorHigh (v : Nat) : Bool × Bool × Bool :=
  match v with
  | 1 => (true, false, false) | 2 => (true, true, false) | 3 => (false, true, false)
  | 4 => (false, true, true) | 5 => (false, false, true) | 6 => (true, false, true)
  | _ => (false, false, false)

/-- High side of phase `p` in a vector. -/
def vectorBit (v p : Nat) : Bool :=
  let h := vectorHigh v
  match p with | 0 => h.1 | 1 => h.2.1 | _ => h.2.2

/-- Phases whose low side is on in a vector. -/
def vectorLows (v : Nat) : List Nat := [0, 1, 2].filter fun p => !vectorBit v p

/-- √3 · b < a, exactly. -/
def lt3 (b a : Rat) : Bool :=
  if a ≤ 0 then decide (b < 0) && decide (a * a < 3 * b * b) else decide (b ≤ 0) || decide (3 * b * b < a * a)

/-- Sector of a flux vector (R141): sector k covers (2k − 3) · 30° to (2k − 1) · 30°. -/
def sectorOf (a b : Rat) : Nat :=
  if a = 0 ∧ b = 0 then 1
  else if 0 < a then
    if !lt3 b (-a) && lt3 b a then 1 else if 0 < b then 2 else 6
  else if a = 0 then (if 0 < b then 3 else 6)
  else if 0 < b then (if lt3 (-b) a then 3 else 4)
  else if lt3 (-b) (-a) then 4 else 5

/-- The switching table (Table 5.3). -/
def tableVector (phi : Bool) (tau : Int) (sector : Nat) : Nat :=
  let turn (k : Nat) : Nat := (sector + k - 1) % 6 + 1
  if tau = 0 then 0 else match phi, decide (0 < tau) with
  | true, true => turn 1
  | true, false => turn 5
  | false, true => turn 2
  | false, false => turn 4

/-- Torque comparator (Table 5.1). -/
def tauNext (tau : Int) (e h : Rat) : Int :=
  if tau = 0 then (if h ≤ e then 1 else if e ≤ -h then -1 else 0)
  else if 0 < tau then (if e ≤ 0 then 0 else tau)
  else if 0 ≤ e then 0 else tau

/-- Flux comparator (R140). -/
def phiNext (initial phi : Bool) (e h : Rat) : Bool :=
  if initial then decide (0 ≤ e) else if h ≤ e then true else if e ≤ -h then false else phi

/-! ### Samples and the applied voltage (R98, R101, R136, R145) -/

/-- Fraction of the last 100 ns that a leg spent before its last change, in dead time, and in its present level. -/
def State.legShare (s : State) (l : Leg) : Rat × Rat × Rat :=
  let g := s.leg l
  let t0 : Rat := (s.tb : Rat) - 10
  let change : Rat := g.edgeTb
  let dead : Rat := (s.deadTime l : Rat) / 8
  let before := clampQ 0 10 (change - t0) / 10
  let until_ := clampQ 0 10 (change + dead - t0) / 10
  (before, until_ - before, 1 - until_)

/-- Voltage of a leg at one level, with the drop of the conducting switch in the sign of its current (R136). -/
def levelVolt (lv : LegLevel) (bus drop i : Rat) : Rat :=
  match lv with
  | .high => bus - drop * sgn i
  | .low => -(drop * sgn i)
  | .off => bus / 2

/-- Mean voltage of a phase over the last 100 ns (R136); with DT_COMP false, dead time counts as the level that follows it
(DESIGN CHOICE, assumption 65). -/
def State.phaseVolt (s : State) (n : Axis) (p : Nat) (bus i : Rat) : Rat :=
  let l := legOf (cellFirstLeg n + p)
  let drop := s.num (Od.AX_VON_DROP n)
  let sh := s.legShare l
  let thr := 2 / 100 * fullScale l
  let dead : Rat := if s.flag (Od.AX_DT_COMP n) then (if thr < i then 0 else if i < -thr then bus else bus / 2)
    else levelVolt (s.leg l).level bus drop i
  sh.1 * levelVolt (s.leg l).prev bus drop i + sh.2.1 * dead + sh.2.2 * levelVolt (s.leg l).level bus drop i

/-- The phase currents of an αβ vector. -/
def phasesOf (a b : Rat) : Rat × Rat × Rat :=
  let h := Config.sqrt 3 / 2 * b
  (a, -a / 2 + h, -a / 2 - h)

/-- What an axis unit makes of one decision's samples (Table 5.4): the current vector, whether it is a full measurement,
whether it is predicted, and per phase the measured current. -/
structure Recon where
  i : Rat × Rat
  full : Bool
  pred : Bool
  meas : List (Option Rat)
  deriving DecidableEq, Repr

/-- Current reconstruction from the samples last taken, for the vector held at their instant (R145, R187). -/
def State.reconstruct (s : State) (n : Axis) (v : Nat) (pred : Rat × Rat) : Recon :=
  let bad (p : Nat) : Bool := s.nat (Od.OBS_SHUNT_FAILED n) == p
  let need := (vectorLows v).filter fun p => !bad p
  let ok (p : Nat) : Bool := s.bit (Od.SH_CH_STATUS (legOf (cellFirstLeg n + p))) 2
  let cur (p : Nat) : Rat := -(s.num (Od.SH_CURRENT (legOf (cellFirstLeg n + p))))
  let meas := [0, 1, 2].map fun p => if need.contains p && ok p then some (cur p) else none
  let pp := phasesOf pred.1 pred.2
  if v = 7 ∨ need = [] ∨ ¬ need.all ok then ⟨pred, false, true, [none, none, none]⟩
  else match need with
    | [_] =>
      let a := (meas.getD 0 none).getD pp.1
      let b := (meas.getD 1 none).getD pp.2.1
      let c := (meas.getD 2 none).getD pp.2.2
      ⟨currentAB a b c, false, true, meas⟩
    | _ =>
      let x (p : Nat) : Rat := (meas.getD p none).getD 0
      let a := if need.contains 0 then x 0 else -(x 1 + x 2)
      let b := if need.contains 1 then x 1 else -(x 0 + x 2)
      let c := if need.contains 2 then x 2 else -(x 0 + x 1)
      ⟨currentAB a b c, true, false, meas⟩

/-- A vector whose low sides give a full measurement (Table 5.2, R187). -/
def State.measurable (s : State) (n : Axis) (v : Nat) : Bool :=
  decide (2 ≤ ((vectorLows v).filter fun p => s.nat (Od.OBS_SHUNT_FAILED n) != p).length)

/-- A leg whose high side the vector needs and that has no token for it (R92). -/
def State.tokenless (s : State) (n : Axis) (v p : Nat) : Bool :=
  let g := s.leg (legOf (cellFirstLeg n + p))
  vectorBit v p && g.level != .high && g.tokens == 0

/-- A high side that cannot turn on now: no token, or its bootstrap supply is low (R144, R92, R80). -/
def State.vectorBlocked (s : State) (n : Axis) (v : Nat) : Bool :=
  [0, 1, 2].any fun p =>
    let g := s.leg (legOf (cellFirstLeg n + p))
    s.tokenless n v p || (vectorBit v p && g.level != .high && g.bootBlocked)

/-- The requests for which a blocked vector finds no token are deferred and counted (R92). -/
def State.deferVector (s : State) (n : Axis) (v : Nat) : State :=
  s.each [0, 1, 2] fun p s => if s.tokenless n v p then s.deferLeg (legOf (cellFirstLeg n + p)) else s

/-- The vector is applied to the cell's legs. -/
def State.applyVector (s : State) (n : Axis) (v : Nat) : State :=
  (s.each [0, 1, 2] fun p s =>
    s.switchLeg (legOf (cellFirstLeg n + p)) (if vectorBit v p then .high else .low)).setField (Od.AX_AXIS_STATUS n) 1 3 v

/-- A test vector is applied without regard to tokens, as a forced refresh is (R94, R175). -/
def State.forceVector (s : State) (n : Axis) (v : Nat) : State :=
  (s.each [0, 1, 2] fun p s =>
    let l := legOf (cellFirstLeg n + p)
    let lv : LegLevel := if vectorBit v p then .high else .low
    let s := s.when (cycleStart l lv && (s.leg l).level != lv) fun s => s.countWide (Od.CELL_LEG_SWITCHES (legCell l) (legPos l))
    s.setLeg l lv).setField (Od.AX_AXIS_STATUS n) 1 3 v

/-- The vector opposite to an active vector. -/
def opposite (v : Nat) : Nat := (v + 2) % 6 + 1

/-- The current that an active vector drives, as it returns through the low sides that conduct (R171). -/
def returned (v : Nat) (i : Rat × Rat) : Rat :=
  let ph := phasesOf i.1 i.2
  (vectorLows v).foldl (fun a p => a - (match p with | 0 => ph.1 | 1 => ph.2.1 | _ => ph.2.2)) 0

/-- The phase that alone carries the whole current of an active vector. -/
def lonePhase (v : Nat) : Nat :=
  match v with | 1 => 0 | 4 => 0 | 3 => 1 | 6 => 1 | _ => 2

/-- Of the six active vectors the one nearest an angle. -/
def nearestVector (a : Rat) : Nat := ((a * 3 / Config.pi + 1 / 2).floor % 6).toNat + 1

/-- The whole vector is held while a leg of the cell dwells (R93). -/
def State.dwelling (s : State) (c : Cell) : Bool := (cellLegList c).any fun l => decide (s.tb < (s.leg l).dwellEnd)

/-- The samples of a cell's three channels at an instant `ago` ticks before now enter their objects (R98, R101). -/
def State.takeSamples (s : State) (n : Axis) (raw : List Int) (ago : Nat) : State :=
  s.each [0, 1, 2] fun p s =>
    let l := legOf (cellFirstLeg n + p)
    (s.shuntSample l (raw.getD p 0) (s.sampleOk l (s.tb - ago)) (s.dieTb (cellLink n) - ago)).modLeg l fun g => { g with
      sampleTb := some (s.tb - ago) }

end Sys2Proof.Machine
end

