-- ==== Sys2Proof/Machine/Observer.lean ====
section
/-! DEFINITION. Chapter 06: rotor angle at start and catch, observer loss and recovery, ASC exit, phase and shunt faults (R163
to R188). -/
namespace Sys2Proof.Machine

def ctrLoss (n : Nat) : Counter := ⟨Od.OBS_LOSS_COUNT n, 32, Od.OBS_OBS_CNT_STATUS n, 0, 5⟩
def ctrCatch (n : Nat) : Counter := ⟨Od.OBS_CATCH_COUNT n, 32, Od.OBS_OBS_CNT_STATUS n, 1, 5⟩
def ctrProbe (n : Nat) : Counter := ⟨Od.OBS_PROBE_COUNT n, 32, Od.OBS_OBS_CNT_STATUS n, 2, 5⟩

/-- Two-shunt mode (R187). -/
def State.twoShunt (s : State) (n : Nat) : Bool := s.nat (Od.OBS_SHUNT_FAILED n) != 0xFF
def State.setLostBit (s : State) (n : Nat) : Bool := s.bit (Od.OBS_OBS_STATUS n) 12
/-- A set can take part in a Sedge probe (R173). -/
def State.canProbe (s : State) (n : Nat) : Bool := !s.setLostBit n && !s.twoShunt n

def pi6 : Rat := Config.pi / 6

/-- Set 2 of a motor is displaced by 30° (R164); the offset of a set's frame from set 1's. -/
def frameOffset (n : Nat) : Rat := if n % 2 = 1 then pi6 else 0

/-! ### Angle sources (Table 6.1, R167 to R174) -/

/-- A position interface passed CHECK and reports no fault (R174). -/
def State.pifGood (s : State) (p : Nat) : Bool :=
  s.pifService p == 2 && s.field (Od.PIF_PIF_STATUS p) 5 3 == 0 && s.countsPerRev p != 0

/-- Electrical angle, before ENC_OFFSET, and speed of a set from the first good position interface of its drive: P0 and P1 serve
TRA, P2 and P3 TRB (R174, Table 1.4). -/
def State.interfaceAngle (s : State) (n : Axis) : Option (Rat × Rat) :=
  let p := 2 * (setSide n).val
  let pp : Rat := s.nat (Od.AX_POLE_PAIRS n)
  ([p, p + 1].find? fun i => s.pifGood i).map fun i =>
    (pp * 2 * Config.pi * s.int (Od.PIF_POSITION i) / s.countsPerRev i, pp * s.num (Od.PIF_SPEED i) * Config.pi / 30)

/-- An angle carried forward to now at its speed. -/
def State.forward (s : State) (a w : Rat) (t : Nat) : Rat := wrapPi (a + w * (s.tb - t : Nat) / 100000000)

/-- Angle in the set's frame and electrical speed from one source of Table 6.1 for a set, by its CATCH_SRC code. -/
def State.sourceAngle (s : State) (n : Axis) (src : Nat) : Option (Rat × Rat) :=
  let x := s.ax n
  match src with
  | 5 =>
    if s.nat (Od.OBS_START_MODE n) = 1 then
      (s.interfaceAngle n).map fun r => (wrapPi (r.1 + s.num (Od.OBS_ENC_OFFSET n)), r.2)
    else none
  | 3 =>
    if (s.cell (cellOf n)).mode = .asc then x.ascAngle.map fun r => (s.forward r.1 r.2.1 r.2.2, r.2.1) else none
  | 1 =>
    match x.pulse with
    | some (a, w, t) => if s.tb ≤ (s.drv (cellDrive n)).armedTb + ms 5 ∧ (s.drv (cellDrive n)).armedTb ≤ t + ms 5 then
        some (s.forward a w t, w) else none
    | none => none
  | 2 =>
    if s.bit (Od.OBS_OBS_STATUS n) 0 ∧ s.coasts (cellOf n) then
      let a := if x.trackSpeed < 0 then x.trackTheta + Config.pi / 2 else x.trackTheta - Config.pi / 2
      some (s.forward a x.trackSpeed x.trackTb, x.trackSpeed)
    else none
  | 4 => x.probe.map fun a => (a, 0)
  | _ => none

/-- The first valid source of a set, in the order of Table 6.1. -/
def State.firstSource (s : State) (n : Axis) : Option (Nat × Rat × Rat) :=
  [5, 3, 1, 2, 4].findSome? fun src => (s.sourceAngle n src).map fun r => (src, r.1, r.2)

/-- The source of Table 6.1 then valid gives a set that does not decide its angle and speed, and with them BEMF_LL_PK (R176);
ANGLE_VALID is clear where there is none. -/
def State.noteSource (s : State) (n : Axis) : State :=
  match s.firstSource n with
  | some (_, a, w) => ((s.setBit (Od.OBS_OBS_STATUS n) 1 true).setQ (Od.OBS_OBS_ANGLE n) a).setSpeed n w
  | none => s.setBit (Od.OBS_OBS_STATUS n) 1 false

/-- Flux from the magnet and the present currents, zero after a coast, rotated by the angle into the set's frame; the set decides
from the next decision on, TQ_REF from zero (R170). -/
def State.initFlux (s : State) (n : Axis) (theta w : Rat) : State :=
  let c := cellOf n
  let coasted := s.coasts c
  let ia := if coasted then 0 else s.num (Od.AX_I_ALPHA n)
  let ib := if coasted then 0 else s.num (Od.AX_I_BETA n)
  let cs := Config.cos theta
  let sn := Config.sin theta
  let pd := s.num (Od.AX_PSI_PM n) + s.num (Od.AX_LD n) * (ia * cs + ib * sn)
  let pq := s.num (Od.AX_LQ n) * (ib * cs - ia * sn)
  let s := (s.countAsc c).modCell c fun x => { x with mode := .switching }
  let s := (s.setQ (Od.AX_PSI_ALPHA n) (pd * cs - pq * sn)).setQ (Od.AX_PSI_BETA n) (pd * sn + pq * cs)
  let s := ((s.setQ (Od.AX_I_ALPHA n) ia).setQ (Od.AX_I_BETA n) ib).setQ (Od.AX_TQ_REF n) 0
  let s := (s.setField (Od.AX_AXIS_STATUS n) 7 2 0).setBit (Od.AX_AXIS_STATUS n) 11 false
  let s := s.modAx n fun x => { x with
    initial := true, theta := theta, lastFull := s.tb, subst := none, waitVec := none, slewing := true, lossRun := false
    lossTicks := 0, lossEval := s.tb, openAcc := [0, 0, 0], kcl := [none, none, none], openHold := none, attr := [0, 0, 0]
    unattrib := 0, ovrSince := [none, none, none], trackSince := none, pulse := none, probe := none, test := false
    assist := none, assistTb := s.tb, ascWin := {}, ascAngle := none }
  ((s.setQ (Od.OBS_OBS_ANGLE n) theta).setSpeed n w).setN (Od.OBS_OPEN_ACC_us n) 0

/-- A set is engaged with an angle found (R170): it is counted and logged with its source. -/
def State.engage (s : State) (n : Axis) (src : Nat) (theta w : Rat) : State :=
  let s := (s.initFlux n theta w).count (ctrCatch n)
  let s := (s.setBit (Od.OBS_OBS_STATUS n) 0 false).setBit (Od.OBS_OBS_STATUS n) 1 true
  (s.setField (Od.OBS_OBS_STATUS n) 4 3 src).event 0x0510 n (src + 65536 * low16 (theta * 1800 / Config.pi))

/-- The sets of a motor in service. -/
def State.liveSets (s : State) (t : Fin 2) : List Axis := (sideSets t).filter fun n => !s.setLostBit n

/-- A motor's sets decide again: its drive runs on both sets, or on the only one in service; a reversal that waited for it is
completed and the ramp restarts from 0 (R156 steps 3 and 4). -/
def State.motorRuns (s : State) (t : Fin 2) : State :=
  let d := sideDrive t
  let s := s.modDrv d fun x => { x with substate := if (s.liveSets t).length < 2 then 6 else 2 }
  if (s.tr t).revPending then
    let s := (s.modTr t fun x => { x with revPending := false }).setQ (Od.TR_TQ_RAMP t) 0
    (s.event 0x0505 d.num (s.speedLow d)).lastEvent d 0x0505
  else s

/-- All sets in service of a motor are engaged: each from the same source where it has an angle of its own, else from the angle
of set `m` (R164, R167). -/
def State.engageAll (s : State) (t : Fin 2) (m : Axis) (src : Nat) (theta w : Rat) : State :=
  let own := fun (n : Axis) => (s.sourceAngle n src).getD (wrapPi (theta + frameOffset m - frameOffset n), w)
  (s.each (s.liveSets t) fun n s => s.engage n src (own n).1 (own n).2).motorRuns t

/-- The first valid source of Table 6.1 at any set of the motor. -/
def State.motorSource (s : State) (t : Fin 2) : Option (Axis × Nat × Rat × Rat) :=
  [5, 3, 1, 2].findSome? fun src => (s.liveSets t).findSome? fun n => (s.sourceAngle n src).map fun r => (n, src, r.1, r.2)

/-! ### Faults of a set (R181, R183 to R188) -/

/-- The motor keeps no set in service, or the remaining one fails (R188); the value concerned is the cell. -/
def State.secondSetLost (s : State) (t : Fin 2) (n : Axis) : State :=
  s.raise 0x051A (sideDrive t).num n [sideDrive t]

def State.oneSet (s : State) (t : Fin 2) : Bool := (sideSets t).any fun n => s.setLostBit n

/-- Clears the phase-open accumulators of a set. -/
def State.clearOpen (s : State) (n : Axis) : State :=
  (s.modAx n fun x => { x with openAcc := [0, 0, 0], kcl := [none, none, none], openHold := none }).setN (Od.OBS_OPEN_ACC_us n) 0

/-- Clears the timers of a set after a declared phase or shunt fault (R185). -/
def State.clearFaultTimers (s : State) (n : Axis) : State :=
  (s.clearOpen n).modAx n fun x => { x with
    attr := [0, 0, 0], unattrib := 0, lossRun := false, lossTicks := 0, ovrSince := [none, none, none] }

/-- A set is lost (R186, Table 6.5): it takes its protective state, the healthy set takes over, and in axle modes 1 to 3
the shortfall passes to the other drive (R263). -/
def State.loseSet (s : State) (n : Axis) (code detail : Nat) : State :=
  let s := s.clearFaultTimers n
  if 4 ≤ n.val then s.actuatorFault n
  else
    let t := setSide n
    if s.oneSet t then s.secondSetLost t n
    else
      let s := (s.setBit (Od.OBS_OBS_STATUS n) 12 true).event code n detail
      let s := ((s.setBit (Od.OBS_OBS_STATUS n) 10 false).modAx n fun x => { x with recover := none }).protectCell (cellOf n)
      let s := (s.setQ (Od.AX_TQ_REF n) 0).lastEvent (sideDrive t) code
      let s := s.modDrv (sideDrive t) fun x => { x with substate := if x.state = .active ∧ x.substate ≠ 3 then 6 else x.substate }
      let s := s.each (s.liveSets t) fun m s => s.modAx m fun x => { x with slewing := true }
      s.crossfeed t

/-- An open phase is declared (R183). -/
def State.declareOpen (s : State) (n : Axis) (phase : Nat) : State :=
  let s := s.when (n.val < 4 && !s.oneSet (setSide n)) fun s =>
    (s.setBit (Od.OBS_OBS_STATUS n) 13 true).setField (Od.OBS_OBS_STATUS n) 2 2 phase
  s.loseSet n 0x0517 phase

/-- A shunt channel has failed (R187): two-shunt mode, or FAULT where R188 says so. -/
def State.shuntFailed (s : State) (n : Axis) (phase : Nat) : State :=
  let s := s.clearFaultTimers n
  if 4 ≤ n.val then (s.setN (Od.OBS_SHUNT_FAILED n) phase).actuatorFault n
  else if s.twoShunt n ∨ s.oneSet (setSide n) then s.secondSetLost (setSide n) n
  else ((s.setN (Od.OBS_SHUNT_FAILED n) phase).event 0x0518 n phase).lastEvent (cellDrive n) 0x0518

/-- The loss timer of a set, in ticks, as it stands now (R180). -/
def State.lossTime (s : State) (n : Axis) : Nat :=
  let x := s.ax n
  x.lossTicks + if x.lossRun then s.tb - x.lossEval else 0

/-- The loss timer is held while a phase accumulator or an attribution count is not zero (R185). -/
def State.lossHeld (s : State) (n : Axis) : Bool := (s.ax n).openAcc.any (· != 0) || (s.ax n).attr.any (· != 0)

/-- An evaluation of the residual, by its square, at an instant drives the loss timer (R180). -/
def State.evalResidual (s : State) (n : Axis) (r2 : Rat) (t : Nat) : State :=
  let thr := s.num (Od.OBS_RESID_THR n)
  let held := s.lossHeld n
  let big := decide (thr * thr ≤ r2)
  s.modAx n fun x => { x with
    winResid := max x.winResid r2, resid := r2, lossEval := t, lossRun := big && !held
    lossTicks := if held then x.lossTicks else if big then x.lossTicks + (if x.lossRun then t - x.lossEval else 0) else 0 }

/-- Both losses of a drive fall into one decision (R181). -/
def sameDecision (a b : Nat) : Bool := a / 10 == b / 10

/-- Observer loss (R180, R181, Table 6.3 step 1). -/
def State.declareLoss (s : State) (n : Axis) : State :=
  let s := (s.count (ctrLoss n)).modAx n fun x => { x with lossRun := false, lossTicks := 0, lossEval := s.tb }
  let s := s.event 0x0512 n (low16 (s.num (Od.OBS_RESID n)))
  if 4 ≤ n.val then s.actuatorFault n
  else
    let t := setSide n
    let d := sideDrive t
    let recent := (s.tr t).losses.filter fun b => decide (s.tb < b + sec 1)
    let again := recent.any fun b => sameDecision b s.tb
    let losses := if again then recent else s.tb :: recent
    let s := (s.modTr t fun x => { x with losses := losses }).lastEvent d 0x0512
    if 3 ≤ losses.length ∧ again then s
    else if 3 ≤ losses.length then s.raise 0x0514 d.num losses.length [d]
    else
      let s := s.when (s.ax n).test fun s => s.endProbe t
      let s := ((s.setQ (Od.AX_TQ_REF n) 0).protectCell (cellOf n)).setBit (Od.OBS_OBS_STATUS n) 10 true
      let s := (s.modAx n fun x => { x with recover := some s.tb, probe := none }).modDrv d fun x => { x with
        substate := if x.substate = 3 ∨ x.substate = 5 then x.substate else 4 }
      if (sideSets t).any fun m => s.deciding m then s else s.setQ (Od.TR_TQ_RAMP t) 0

/-- A set's loss timer has reached LOSS_TIME_us: the set decides, and nothing holds the timer (R180, R185). -/
def State.lossDue (s : State) (n : Axis) : Bool :=
  s.deciding n && (s.ax n).lossRun && !s.lossHeld n && decide (us (s.nat (Od.OBS_LOSS_TIME_us n)) ≤ s.lossTime n)

def execObserverLoss (dt : Nat) (n : Axis) (s : State) : Res :=
  let s := s.elapse dt
  reply s (if s.lossDue n then s.declareLoss n else s)

/-- R166: with residuals within 10 % of each other both sets are lost, else the one with the larger residual. -/
def State.crossSet (s : State) (t : Fin 2) : State :=
  let a := (sideSets t).getD 0 0
  let b := (sideSets t).getD 1 0
  let ra := (s.ax a).resid
  let rb := (s.ax b).resid
  let worse := if ra < rb then b else a
  let s := (s.event 0x051B worse (low16 (s.num (Od.OBS_XSET_ANGLE a)))).modTr t fun x => { x with xsetTb := none }
  if min ra rb ≥ 81 / 100 * max ra rb then (s.declareLoss a).declareLoss b else s.declareLoss worse

/-- The angles have disagreed for 200 µs without a break while both sets decide (R166). -/
def State.crossDue (s : State) (t : Fin 2) : Bool :=
  ((sideSets t).all fun n => s.deciding n) && (s.tr t).xsetTb.any fun t0 => decide (t0 + us 200 ≤ s.tb)

def execCrossSetDisagreement (dt : Nat) (t : Fin 2) (s : State) : Res :=
  let s := s.elapse dt
  reply s (if s.crossDue t then s.crossSet t else s)

/-- TRACKING is set after 2 ms of continuous results (R169). -/
def State.trackingValid (s : State) (n : Axis) : State :=
  match (s.ax n).trackSince with
  | some t0 =>
    if s.coasts (cellOf n) ∧ t0 + ms 2 ≤ s.tb then
      let s := (s.setBit (Od.OBS_OBS_STATUS n) 0 true).setBit (Od.OBS_OBS_STATUS n) 1 true
      match s.sourceAngle n 2 with
      | some (a, w) => (s.setQ (Od.OBS_OBS_ANGLE n) a).setSpeed n w
      | none => s
    else s
  | none => s

def execTrackingValid (dt : Nat) (n : TSet) (s : State) : Res := reply s ((s.elapse dt).trackingValid ⟨n.val, by omega⟩)

/-! ### Recovery and ASC exit (R178, R180, R181) -/

/-- A set in ASC whose back-EMF, known from a valid source, has fallen below ASC_EXIT of the link (R176, R178). -/
def State.ascExitDue (s : State) (n : Axis) : Bool :=
  (s.cell (cellOf n)).mode == .asc && s.bit (Od.OBS_OBS_STATUS n) 1 &&
    decide (s.num (Od.AX_BEMF_LL_PK n) < s.num (Od.OBS_ASC_EXIT n) * s.num Od.DCL_V_DC)

/-- R178: at a back-EMF `bemf` below ASC_EXIT all low sides turn off and the set coasts; under a torque-off pair the low-side
supply is removed. -/
def State.ascExit (s : State) (n : Axis) (bemf : Rat) : State :=
  let c := cellOf n
  let d := cellDrive n
  if s.ascExitDue n ∧ s.num (Od.AX_BEMF_LL_PK n) = bemf then
    let s := if (s.drv d).tqo ∨ (s.drv d).tqoLink then s.offCell c else s.coastCell c
    (s.event 0x0516 n (low16 bemf)).stoppedIfCoasting d
  else s

def execAscExit (dt : Nat) (n : TSet) (bemf : Rat) (s : State) : Res :=
  reply s ((s.elapse dt).ascExit ⟨n.val, by omega⟩ bemf)

/-- A recovering set finds its angle (Table 6.3 steps 2 to 4). -/
def State.recovered (s : State) (n : Axis) : State :=
  let t := setSide n
  match (s.ax n).recover, s.firstSource n with
  | some t0, some (src, a, w) =>
    let s := (s.engage n src a w).modAx n fun x => { x with recover := none }
    let s := (s.setBit (Od.OBS_OBS_STATUS n) 10 false).setN (Od.OBS_CATCH_TIME_us n) ((s.tb - t0) / 100)
    let s := s.event 0x0513 n (min ((s.tb - t0) / 1000) 65535)
    s.modDrv (sideDrive t) fun x => { x with
      substate := if x.substate ≠ 4 ∨ (sideSets t).any (fun m => (s.ax m).recover.isSome) then x.substate
                  else if s.oneSet t then 6 else 2 }
  | _, _ => s

def execRecoveryAngleFound (dt : Nat) (n : TSet) (s : State) : Res := reply s ((s.elapse dt).recovered ⟨n.val, by omega⟩)

/-- No valid angle at t0 + 10 ms counts as a further loss, and step 1 restarts (R180, R181). -/
def execRecoveryTimeout (dt : Nat) (n : TSet) (s : State) : Res :=
  let s := s.elapse dt
  let a : Axis := ⟨n.val, by omega⟩
  reply s (match (s.ax a).recover with
    | some t0 => if t0 + ms 10 ≤ s.tb then s.declareLoss a else s
    | none => s)

/-! ### Phase and shunt faults (R183, R184) -/

/-- Phases whose accumulator has reached OPEN_DET_us. -/
def State.openPhases (s : State) (n : Axis) : Nat :=
  ((s.ax n).openAcc.filter fun a => decide (us (s.nat (Od.OBS_OPEN_DET_us n)) ≤ a)).length

/-- A phase whose accumulator has reached OPEN_DET_us. -/
def State.openReached (s : State) (n : Axis) (p : Nat) : Bool :=
  decide (us (s.nat (Od.OBS_OPEN_DET_us n)) ≤ (s.ax n).openAcc.getD p 0)

/-- R183: two phases that reach OPEN_DET_us together declare nothing and the loss timer resumes; otherwise the V0 measurement
taken during the accumulation decides between an open phase and a failed shunt. While none has been taken, the axis unit
applies V0 and the decision waits for it. The current sum of that measurement is `kcl`. -/
def State.resolveOpen (s : State) (n : Axis) (phase : Fin 3) (kcl : Rat) : State :=
  if !s.deciding n || !s.openReached n phase then s
  else if 2 ≤ s.openPhases n then s.clearOpen n
  else if (s.ax n).kcl.getD phase.val none ≠ some kcl then s
  else if |kcl| ≤ s.num (Od.OBS_KCL_LIM n) then s.declareOpen n phase else s.shuntFailed n phase

def execPhaseOpenDeclared (dt : Nat) (n : Axis) (phase : Fin 3) (kcl : Rat) (s : State) : Res :=
  reply s ((s.elapse dt).resolveOpen n phase kcl)

/-- R184: a channel with eight counts fails; with sixteen unattributable V0 measurements the set is lost (R186). -/
def State.attribution (s : State) (n : Axis) (phase : Option (Fin 3)) : State :=
  if !s.deciding n then s else match phase with
    | some p => if 8 ≤ (s.ax n).attr.getD p.val 0 then s.shuntFailed n p else s
    | none => if 16 ≤ (s.ax n).unattrib then s.loseSet n 0x0519 (low16 (s.num (Od.AX_KCL_RES n))) else s

def execShuntAttributionFail (dt : Nat) (n : Axis) (phase : Option (Fin 3)) (s : State) : Res :=
  reply s ((s.elapse dt).attribution n phase)

/-- R184: OVR has stayed set for 1 ms while the prediction lies within full scale. -/
def State.saturated (s : State) (n : Axis) (phase : Fin 3) : Bool :=
  s.deciding n && ((s.ax n).ovrSince.getD phase.val none).any fun t => decide (t + ms 1 ≤ s.tb)

def execShuntSaturationFail (dt : Nat) (n : Axis) (phase : Fin 3) (s : State) : Res :=
  let s := s.elapse dt
  reply s (if s.saturated n phase then s.shuntFailed n phase else s)

end Sys2Proof.Machine
end

