-- ==== Sys2Proof/Machine/Position.lean ====
section
/-! DEFINITION. Chapter 07: position interfaces (R194 to R211). -/
namespace Sys2Proof.Machine

def ctrEdgeFaults (p : Nat) : Counter := ⟨Od.PIF_EDGE_FAULTS p, 32, Od.PIF_CNT_STATUS p, 0, 6⟩
def ctrIllegal (p : Nat) : Counter := ⟨Od.PIF_ILLEGAL_COUNT p, 32, Od.PIF_CNT_STATUS p, 1, 6⟩
def ctrWireFaults (p : Nat) : Counter := ⟨Od.PIF_WIRE_FAULTS p, 32, Od.PIF_CNT_STATUS p, 2, 6⟩
def ctrSsiErrors (p : Nat) : Counter := ⟨Od.PIF_SSI_ERRORS p, 32, Od.PIF_CNT_STATUS p, 3, 6⟩
def ctrIndexErrors (p : Nat) : Counter := ⟨Od.PIF_INDEX_ERRORS p, 32, Od.PIF_CNT_STATUS p, 4, 6⟩

/-- MODE of an interface: 0 OFF, 1 ABZ, 2 SSI, 3 HALL. -/
def State.pifMode (s : State) (p : Nat) : Nat := s.nat (Od.PIF_MODE p)
def State.pifCtrl (s : State) (p b : Nat) : Bool := s.bit (Od.PIF_PIF_CTRL p) b
def State.wireBits (s : State) (p : Nat) : Nat := s.field (Od.PIF_PIF_STATUS p) 5 3

/-- An error of a kind within the last 1 ms. -/
def State.recent (s : State) (t : Option Nat) : Bool :=
  match t with | some x => decide (s.tb < x + ms 1) | none => false

/-- PIF_STATUS, with the errors of the last 1 ms (Table 7.7). -/
def State.pifStatus (s : State) (p : Fin 12) : Nat :=
  let x := s.pif p
  [(9, s.recent x.edgeErr), (10, s.recent x.indexErr), (11, s.recent x.ssiErr)].foldl (fun n e => withBit n e.1 e.2)
    (s.nat (Od.PIF_PIF_STATUS p))

def State.pifEvent (s : State) (p : Fin 12) (code : Nat) : State := s.event code (0x40 + p.val) (s.pifStatus p % 65536)

/-- The detail that is POSITION itself, as its 32 bits (R211). -/
def State.posDetail (s : State) (p : Nat) : Nat := (s.int (Od.PIF_POSITION p) % 2 ^ 32).toNat

/-! ### Errors and service states (R204, R208) -/

/-- An interface enters FAULT; the owner reacts: observer loss of the sets that start from it, R273 for GBX (R208). -/
def State.pifFault (s : State) (p : Fin 12) : State :=
  let k := Od.PIF_PIF_STATUS p
  let s := ((s.setField k 0 3 3).setBit k 16 false).modPif p fun x => { x with since := s.tb }
  let s := s.pifEvent p 0x0604
  if 4 ≤ p.val then s.actuatorFault ⟨4 + p.val % 4, by omega⟩
  else s.each ((sideSets (if p.val < 2 then 0 else 1))) fun n s =>
      if s.nat (Od.OBS_START_MODE n) = 1 ∧ s.deciding n ∧ s.ds (cellDrive n) = .active then s.declareLoss n else s

/-- An error: CHECK starts its time again, NORMAL goes to FAULT at FAULT_LIMIT errors within 1 ms (Table 7.2). -/
def State.pifError (s : State) (p : Fin 12) : State :=
  let recent := s.tb :: (s.pif p).errors.filter fun t => decide (s.tb < t + ms 1)
  let s := s.modPif p fun x => { x with errors := recent, since := s.tb }
  if s.pifService p = 2 ∧ s.nat (Od.PIF_FAULT_LIMIT p) ≤ recent.length then s.pifFault p else s

/-- WIRE_FAULT takes a value; the time without a wire fault starts again at each change. -/
def State.wireBitsTo (s : State) (p : Fin 12) (pairs : Nat) : State :=
  if s.wireBits p = pairs then s
  else (s.setField (Od.PIF_PIF_STATUS p) 5 3 pairs).modPif p fun x => { x with since := s.tb }

/-- R199: count unchanged, ILLEGAL and REFERENCE_LOST. -/
def State.illegal (s : State) (p : Fin 12) : State :=
  let k := Od.PIF_PIF_STATUS p
  ((((s.setBit k 8 true).setBit k 17 true).count (ctrIllegal p)).speedRestart p).pifError p

/-! ### Counting (R196, R197, R206) -/

/-- The counter was loaded at this sample. -/
def State.loadedAt (s : State) (p : Fin 12) (t : Nat) : Bool := (s.pif p).load.any fun e => e.1 == t

/-- The counter moves by `d` at a sample, unless a load stands there or the count is frozen; a wrap is logged. -/
def State.advance (s : State) (p : Fin 12) (d : Int) (t : Nat) : State :=
  if s.loadedAt p t ∨ s.wireBits p ≠ 0 then s
  else
    let d := if s.pifCtrl p 7 then -d else d
    let v := s.int (Od.PIF_POSITION p) + d
    let w := wrap32 v
    let s := (s.setI (Od.PIF_POSITION p) w).modPif p fun x => { x with
      dir := if d = 0 then x.dir else d.sign, turned := x.turned || decide (d * x.dir < 0)
      moveTb := if d = 0 then x.moveTb else t
      edge0 := some (x.edge0.getD (w, t)), edge1 := if x.edge0.isNone then none else some (w, t) }
    let s := s.pawlMoved p
    if w = v then s else s.event 0x0601 (0x40 + p.val) (s.posDetail p)

/-- TB of a sample as the interface's die stamps it: `ago` ticks before now. -/
def State.pifStamp (s : State) (p : Fin 12) (t : Nat) : Nat :=
  s.stampOf (if p.val < 4 then none else some .l) - (s.tb - t)

/-- The step of a transition of A and B: forward is A leading B; none for both changing. -/
def abStep (old new : Nat) : Option Int :=
  let phase (v : Nat) : Int := match v % 4 with | 0 => 0 | 1 => 1 | 3 => 2 | _ => 3
  match (phase new - phase old) % 4 with | 0 => some 0 | 1 => some 1 | 3 => some (-1) | _ => none

/-- The step of a Hall code, in the order of R196; none for a code that is not adjacent. -/
def hallStep (old new : Nat) : Option Int :=
  let place (v : Nat) : Option Int := match v with
    | 1 => some 0 | 3 => some 1 | 2 => some 2 | 6 => some 3 | 4 => some 4 | 5 => some 5 | _ => none
  match place old, place new with
  | some a, some b => match (b - a) % 6 with | 0 => some 0 | 1 => some 1 | 5 => some (-1) | _ => none
  | _, _ => none

/-- The counting lines change to qualified levels (R195, R196, R199). -/
def State.countLines (s : State) (p : Fin 12) (old new t : Nat) : State :=
  let step := if s.pifMode p = 3 then hallStep (old % 8) (new % 8) else abStep (old % 4) (new % 4)
  let s := (s.setN (Od.PIF_LAST_EDGE_TB p) (s.pifStamp p t)).modPif p fun x => { x with edgeTb := some t }
  match step with
  | none => s.illegal p
  | some d => s.advance p d t

/-! ### Index (R202, R203, R206) -/

/-- The count between two indices is a non-zero multiple of COUNTS_PER_REV within INDEX_TOL; where the motion has reversed
between them, the same index may come twice (R203). -/
def State.indexDistance (s : State) (p : Fin 12) (count : Int) : Option Int :=
  let rev : Int := s.nat (Od.PIF_COUNTS_PER_REV p)
  match (s.pif p).index with
  | some c0 =>
    if rev = 0 then none
    else
      let d := wrap32 (count - c0)
      let k := (2 * d + rev) / (2 * rev)
      let off := (d - k * rev).natAbs
      if off ≤ s.nat (Od.PIF_INDEX_TOL p) ∧ (k ≠ 0 ∨ (s.pif p).turned) then none else some d
  | none => none

/-- An index distance error (R203). -/
def State.indexError (s : State) (p : Fin 12) (d : Int) : State :=
  let s := ((s.count (ctrIndexErrors p)).setBit (Od.PIF_PIF_STATUS p) 17 true).event 0x0607 (0x40 + p.val) (d % 2 ^ 32).toNat
  (s.modPif p fun x => { x with indexErr := some s.tb }).pifError p

/-- An index at a sample: it latches the count before the sample's edge, PRESET and load; a PRESET at the sample stands against
the load. `once`: INDEX_ONCE is completed by it. -/
def State.takeIndex (s : State) (p : Fin 12) (t : Nat) (always once : Bool) : State :=
  let count := s.int (Od.PIF_POSITION p)
  let preset : Option Int := (s.pif p).load.bind fun e => if e.1 = t ∧ e.2.2 then some e.2.1 else none
  let s := s.setI (Od.PIF_INDEX_POS p) (preset.getD count)
  let s := match if always then s.indexDistance p count else none with
    | some d => s.indexError p d
    | none => s
  let s := s.when preset.isNone fun s =>
    (s.when (s.pifCtrl p 3) fun s => s.loadCount p (s.int (Od.PIF_INDEX_VALUE p)) t false).forkIndex p t
  let s := s.modPif p fun x => { x with index := some (s.int (Od.PIF_POSITION p)), turned := false }
  s.when once fun s =>
    ((s.setBit (Od.PIF_PIF_STATUS p) 19 false).setBit (Od.PIF_PIF_STATUS p) 18 true).event 0x0606 (0x40 + p.val)
      (s.posDetail p)

/-- INDEX_ONCE is armed, since an earlier sample. -/
def State.onceArmed (s : State) (p : Fin 12) (t : Nat) : Bool :=
  s.bit (Od.PIF_PIF_STATUS p) 19 && (s.pif p).armTb != some t && (s.field (Od.PIF_PIF_CTRL p) 4 2 == 2 || s.awaitsIndex p)

/-- A qualified active Z edge, with A and B at their qualified values (R202). -/
def State.zEdge (s : State) (p : Fin 12) (t : Nat) : State :=
  let ok := !s.pifCtrl p 2 || (s.pif p).lines % 4 == s.field (Od.PIF_PIF_CTRL p) 0 2
  let always := s.field (Od.PIF_PIF_CTRL p) 4 2 == 1
  let once := s.onceArmed p t
  if ok && (always || once) then s.takeIndex p t always once else s

/-! ### Lines (R198) -/

/-- EDGE_MIN_ns in ticks, rounded up. -/
def State.edgeMin (s : State) (p : Nat) : Nat := (s.nat (Od.PIF_EDGE_MIN_ns p) + 9) / 10

/-- Number of the lines that count: three in HALL, A and B in ABZ. -/
def State.countMask (s : State) (p : Nat) : Nat := if s.pifMode p = 3 then 8 else 4

/-- The lines take qualified levels at a sample: the index first, then the counting edge, which a load supersedes. -/
def State.takeLines (s : State) (p : Fin 12) (new t : Nat) : State :=
  let old := (s.pif p).lines
  let m := s.countMask p
  let s := s.modPif p fun x => { x with lines := new }
  let s := s.when (s.pifMode p == 1 && old / 4 % 2 != new / 4 % 2) fun s =>
    let s := s.modPif p fun x => { x with zTb := some t }
    s.when ((new / 4 % 2 == 1) != s.pifCtrl p 6) fun s => s.zEdge p t
  if new % m = old % m then s else s.countLines p old new t

/-- A change that follows the last qualified edge too soon is an edge fault (R198). -/
def State.edgeFault (s : State) (p : Fin 12) : State :=
  ((s.count (ctrEdgeFaults p)).modPif p fun x => { x with edgeErr := some s.tb }).pifError p

/-- Levels `a` with the bits of a mask taken from `b`. -/
def mergeBits (a b mask : Nat) : Nat :=
  [0, 1, 2].foldl (fun n i => if mask.testBit i then withBit n i (b.testBit i) else n) a

/-- The times at which held lines will have been stable for EDGE_MIN_ns. -/
def State.settleTimes (s : State) (p : Fin 12) : List Nat :=
  let x := s.pif p
  ([0, 1, 2].filter fun i => x.held.testBit i).map fun i => x.rawTb.getD i 0 + s.edgeMin p

/-- The held lines that have been stable first are evaluated as a new transition. -/
def State.settleFirst (s : State) (p : Fin 12) : State :=
  match ((s.settleTimes p).filter fun t => decide (t ≤ s.tb)).min? with
  | none => s
  | some t =>
    let x := s.pif p
    let mask := [0, 1, 2].foldl (fun n i =>
      withBit n i (x.held.testBit i && decide (x.rawTb.getD i 0 + s.edgeMin p = t))) 0
    let s := s.modPif p fun x => { x with held := x.held ^^^ mask }
    let new := mergeBits x.lines x.raw mask
    if new = x.lines then s else s.takeLines p new t

/-- All lines that have been stable for EDGE_MIN_ns are evaluated, in the order of their times (R198). -/
def State.settle (s : State) (p : Fin 12) : State := ((s.settleFirst p).settleFirst p).settleFirst p

/-- A line's change is not qualified: it follows the last qualified edge, of Z the last Z edge, by less than EDGE_MIN_ns. -/
def State.tooSoon (s : State) (p : Fin 12) (i : Nat) : Bool :=
  let x := s.pif p
  (if i = 2 ∧ s.pifMode p = 1 then x.zTb else x.edgeTb).any fun t => decide (s.tb < t + s.edgeMin p)

/-- The lines change to new levels: too soon after a qualified edge, a line is held, and each such rejection counts; else it is
qualified, unless it is held already. -/
def State.lineChange (s : State) (p : Fin 12) (new : Nat) : State :=
  let s := s.settle p
  let x := s.pif p
  let changed (i : Nat) : Bool := new.testBit i != x.raw.testBit i
  let s := s.modPif p fun y => { y with
    raw := new, rawTb := [0, 1, 2].map fun i => if changed i then s.tb else y.rawTb.getD i 0 }
  if s.pifService p = 0 ∨ s.pifMode p = 2 ∨ s.pifMode p = 0 then s.modPif p fun y => { y with lines := new, held := 0 }
  else
    let s := s.when (s.pifMode p == 3 && new % 8 != 0 && new % 8 != 7) fun s => s.wireBitsTo p 0
    let edges := [0, 1, 2].filter fun i => changed i && new.testBit i != x.lines.testBit i
    let soon := edges.filter fun i => s.tooSoon p i
    let take := edges.filter fun i => !s.tooSoon p i && !x.held.testBit i
    let s := s.modPif p fun y => { y with held := soon.foldl (fun n i => withBit n i true) y.held }
    let s := s.each soon fun _ s => s.edgeFault p
    let q := mergeBits x.lines new (take.foldl (fun n i => withBit n i true) 0)
    if q = x.lines then s else s.takeLines p q s.tb

def execPositionLineChange (dt : Nat) (p : Fin 12) (lines : BitVec 3) (s : State) : Res :=
  let s := s.elapse dt
  reply s (if s.pifSupplied p then s.lineChange p lines.toNat else s)

/-- The pairs with a wire fault as an interface finds them: of a Hall triplet all three once it has held 000 or 111 for more than
200 ns, none as soon as it holds another code; in SSI mode the data pair alone (R201). -/
def State.wirePairs (s : State) (p : Fin 12) (pairs : Nat) : Nat :=
  let x := s.pif p
  match s.pifMode p with
  | 2 => pairs / 2 % 2 * 2
  | 3 =>
    if x.raw % 8 ≠ 0 ∧ x.raw % 8 ≠ 7 then 0
    else if x.rawTb.all fun t => decide (t + 20 < s.tb) then 7 else s.wireBits p
  | _ => pairs % 8

/-- New wire faults (R201): each pair counts, a Hall code once; NORMAL goes to FAULT. -/
def State.wireChange (s : State) (p : Fin 12) (pairs : Nat) : State :=
  let s := s.settle p
  let pairs := s.wirePairs p pairs
  let new := [0, 1, 2].filter fun i => pairs.testBit i && !(s.wireBits p).testBit i
  let s := s.wireBitsTo p pairs
  if new = [] then s
  else
    let n := if s.pifMode p = 3 then 1 else new.length
    let s := ((s.countBy (ctrWireFaults p) n).setBit (Od.PIF_PIF_STATUS p) 17 true).speedRestart p
    if s.pifService p = 2 then s.pifFault p else s

def execWireFault (dt : Nat) (p : Fin 12) (pairs : BitVec 3) (s : State) : Res :=
  let s := s.elapse dt
  reply s (if s.pifService p ≠ 0 then s.wireChange p pairs.toNat else s)

/-! ### SSI (R199, R200) -/

/-- Binary value of a Gray code of at most 32 bits. -/
def grayDecode (g : Nat) : Nat :=
  let a := g ^^^ (g >>> 1)
  let b := a ^^^ (a >>> 2)
  let c := b ^^^ (b >>> 4)
  let d := c ^^^ (c >>> 8)
  d ^^^ (d >>> 16)

/-- Number of ones in the low 32 bits. -/
def popCount (n : Nat) : Nat := ((List.range 32).filter fun i => n.testBit i).length

/-- Shortest signed difference modulo 2 ^ bits. -/
def shortDiff (new old bits : Nat) : Int :=
  ((new : Int) - old + 2 ^ (bits - 1)) % 2 ^ bits - 2 ^ (bits - 1)

def State.ssiError (s : State) (p : Fin 12) : State :=
  ((s.count (ctrSsiErrors p)).modPif p fun x => { x with ssiErr := some s.tb }).pifError p

/-- An accepted frame value: the counter's advance, or an illegal transition; the value is the base of the next (R199, R200). -/
def State.ssiValue (s : State) (p : Fin 12) (v bits : Nat) : State :=
  let d : Int := match (s.pif p).ssiLast with | some old => shortDiff v old bits | none => 0
  let s := s.modPif p fun x => { x with ssiLast := some v }
  if s.nat (Od.PIF_SSI_JUMP_MAX p) < d.natAbs then s.illegal p
  else
    let s := (s.setN (Od.PIF_LAST_EDGE_TB p) (s.pifStamp p s.tb)).modPif p fun x => { x with
      ssiGood := min (x.ssiGood + 1) 65535 }
    s.advance p d s.tb

/-- An SSI frame is read (R200): its rules, then its value. -/
def State.ssiFrame (s : State) (p : Fin 12) (idleHigh monoLow : Bool) (frame : Nat) : State :=
  let n := s.nat (Od.PIF_SSI_BITS p)
  let fmt := s.nat (Od.PIF_SSI_FORMAT p)
  let parity := fmt.testBit 1
  let word := frame % 2 ^ n
  let s := s.modPif p fun x => { x with ssiTb := some s.tb }
  if !idleHigh || !monoLow || (parity && popCount word % 2 == 1) then s.ssiError p
  else
    let raw := if parity then word / 2 else word
    s.ssiValue p (if fmt.testBit 0 then grayDecode raw else raw) (if parity then n - 1 else n)

/-- An interface in SSI mode reads one frame every SSI_PERIOD_us. -/
def State.ssiDue (s : State) (p : Fin 12) : Bool :=
  s.pifMode p == 2 && s.pifService p != 0 && (s.pif p).ssiTb.all fun t => decide (t + us (s.nat (Od.PIF_SSI_PERIOD_us p)) ≤ s.tb)

def execSsiFrameRead (dt : Nat) (p : Fin 4) (idleHigh monoLow : Bool) (frame : BitVec 32) (s : State) : Res :=
  let s := s.elapse dt
  let q : Fin 12 := ⟨p.val, by omega⟩
  reply s (if s.ssiDue q then s.ssiFrame q idleHigh monoLow frame.toNat else s)

/-! ### Writes (R197, R202, R204) -/

/-- PRESET by the owner, taken at the next sample (R197); the reference is found again (R208). -/
def State.writePreset (s : State) (who : Requester) (p : Fin 12) (v : Int) : State :=
  (s.settle p).request who (Od.PIF_PRESET p) .operator fun s =>
    refuseIf (!s.owns who (pifDrive p)) 0x08000022 (.ok (s.presetCount p v))

def execPresetWrite (dt : Nat) (who : Requester) (p : Fin 12) (value : BitVec 32) (s : State) : Res :=
  reply s ((s.elapse dt).writePreset who p value.toInt)

/-- ARM_INDEX takes effect at the next sample (R206). -/
def State.writeArmIndex (s : State) (who : Requester) (p : Fin 12) (value : Nat) : State :=
  (s.settle p).request who (Od.PIF_ARM_INDEX p) .operator fun s =>
    refuseIf (value != 1) 0x06090030
      (.ok (((s.setBit (Od.PIF_PIF_STATUS p) 19 true).setBit (Od.PIF_PIF_STATUS p) 18 false).modPif p fun x => { x with
        armTb := some s.tb }))

def execArmIndexWrite (dt : Nat) (who : Requester) (p : Fin 12) (value : BitVec 8) (s : State) : Res :=
  reply s ((s.elapse dt).writeArmIndex who p value.toNat)

/-- CHECK_CMD returns a NORMAL or FAULT interface to CHECK while its drive is in STANDBY or FAULT (Table 7.2). -/
def State.writeCheckCmd (s : State) (who : Requester) (p : Fin 12) (value : Nat) : State :=
  s.request who (Od.PIF_CHECK_CMD p) .operator fun s =>
    refuseIf (value != 1) 0x06090030 <|
    refuseIf (s.ds (pifDrive p) != .standby && s.ds (pifDrive p) != .fault) 0x08000022 <|
    .ok (if 2 ≤ s.pifService p then s.pifCheck p else s)

def execCheckCmdWrite (dt : Nat) (who : Requester) (p : Fin 12) (value : BitVec 8) (s : State) : Res :=
  reply s ((s.elapse dt).writeCheckCmd who p value.toNat)

/-- MODE values an interface permits (Table 7.1). -/
def pifModeOk (p v : Nat) : Bool :=
  v == 0 || if p < 4 then v == 1 || v == 2 else if p < 8 then v == 3 else v == 1

/-- MODE takes the interface to CHECK while its die is supplied, or to OFF (R194, R204). -/
def State.writePifMode (s : State) (who : Requester) (p : Fin 12) (v : Nat) : State :=
  s.request who (Od.PIF_MODE p) .service fun s =>
    refuseIf (!pifModeOk p v) 0x06090030 <|
    refuseIf (!s.paramState (pifDrive p)) 0x08000022 <|
    let s := (s.setN (Od.PIF_MODE p) v).modPif p fun x => { x with ssiLast := none, lines := x.raw, held := 0, index := none, turned := false }
    .ok (if v = 0 then s.pifOff p else if s.pifSupplied p then s.pifCheck p else s)

def execPifModeWrite (dt : Nat) (who : Requester) (p : Fin 12) (value : BitVec 8) (s : State) : Res :=
  reply s ((s.elapse dt).writePifMode who p value.toNat)

/-! ### Service states over time (Table 7.2) -/

/-- CHECK_TIME_ms without error or wire fault, in SSI also 16 accepted frames: NORMAL. -/
def State.checkPass (s : State) (p : Fin 12) : State :=
  let s := s.settle p
  let x := s.pif p
  let k := Od.PIF_PIF_STATUS p
  if s.pifService p = 1 ∧ s.wireBits p = 0 ∧ x.since + ms (s.nat (Od.PIF_CHECK_TIME_ms p)) ≤ s.tb ∧
      (s.pifMode p ≠ 2 ∨ 16 ≤ x.ssiGood) then
    (((s.setField k 0 3 2).setBit k 4 true).setBit k 16 true).pifEvent p 0x0602
  else s

def execCheckPass (dt : Nat) (p : Fin 12) (s : State) : Res := reply s ((s.elapse dt).checkPass p)

def execCheckTimeout (dt : Nat) (p : Fin 12) (s : State) : Res :=
  let s := (s.elapse dt).settle p
  let x := s.pif p
  reply s (if s.pifService p = 1 ∧ ¬ x.late ∧ x.entry + ms 1000 ≤ s.tb then
    (s.modPif p fun x => { x with late := true }).pifEvent p 0x0603
  else s)

/-- Every pair complementary and no error for 1 ms: back to CHECK. -/
def State.faultClear (s : State) (p : Fin 12) : State :=
  let s := s.settle p
  if s.pifService p = 3 ∧ s.wireBits p = 0 ∧ (s.pif p).since + ms 1 ≤ s.tb then s.pifCheck p else s

def execInterfaceFaultClear (dt : Nat) (p : Fin 12) (s : State) : Res := reply s ((s.elapse dt).faultClear p)

/-! ### Speed (R207) -/

/-- The computation of one update, from the edge of the previous one. -/
def State.speedCompute (s : State) (p : Fin 12) (c0 : Int) (t0 : Nat) : State :=
  let x := s.pif p
  let rev := s.countsPerRev p
  let r : State × Nat := match x.edge1 with
    | some (c1, t1) =>
      ((s.setQ (Od.PIF_SPEED p) (6000000000 * (wrap32 (c1 - c0) : Rat) / (rev * ((t1 : Rat) - t0)))).modPif p fun y => { y with
        edge0 := some (c1, t1), edge1 := none, restart := false }, t1)
    | none =>
      let bound : Rat := 6000000000 / (rev * ((s.tb : Rat) - t0))
      let v := s.num (Od.PIF_SPEED p)
      (if x.restart ∨ s.tb = t0 then s else s.setQ (Od.PIF_SPEED p) (sgn v * min |v| bound), t0)
  if ¬ (r.1.pif p).restart ∧ r.2 + ms (s.nat (Od.PIF_SPEED_ZERO_ms p)) ≤ s.tb then r.1.setQ (Od.PIF_SPEED p) 0 else r.1

/-- An update every SPEED_PERIOD_us, only while COUNTS_PER_REV is not zero. -/
def State.speedUpdate (s : State) (p : Fin 12) : State :=
  let s := s.settle p
  let x := s.pif p
  if s.countsPerRev p = 0 ∨ s.pifService p = 0 ∨
      ¬ x.speedTb.all fun t => decide (t + us (s.nat (Od.PIF_SPEED_PERIOD_us p)) ≤ s.tb) then s
  else
    let s := s.modPif p fun y => { y with speedTb := some s.tb }
    match x.edge0 with
    | none => s
    | some (c0, t0) => s.speedCompute p c0 t0

def execSpeedUpdate (dt : Nat) (p : Fin 12) (s : State) : Res := reply s ((s.elapse dt).speedUpdate p)

end Sys2Proof.Machine
end

