-- ==== Sys2Proof/Machine/Probe.lean ====
section
/-! DEFINITION. Chapter 06: the Sedge probe and the other trains of test pulses, probe-assisted running, and parameter
identification (R171 to R175, R186, R190, R191). -/
namespace Sys2Proof.Machine

/-- The present current of a set, as its axis unit last formed it. -/
def State.current (s : State) (n : Axis) : Rat × Rat := (s.num (Od.AX_I_ALPHA n), s.num (Od.AX_I_BETA n))

/-! ### Trains of test pulses (R171) -/

/-- The direction of a vector of a set in steps of 30° in the frame of set 1 (R164, R171). -/
def probeDir (n : Axis) (v : Nat) : Nat := 2 * (v - 1) + n.val % 2

/-- The purposes that are a Sedge probe. -/
def ProbeFor.sedge : ProbeFor → Bool
  | .start | .recovery | .ident => true
  | .check | .train => false

/-- A train of test pulses starts on the sets of its slots; a Sedge probe is counted and shown (R171, Table 6.9). -/
def State.startTrain (s : State) (t : Fin 2) (purpose : ProbeFor) (slots : List (Axis × Nat)) : State :=
  let s := s.each ((sideSets t).filter fun n => slots.any fun e => e.1 == n) fun n s =>
    let s := s.modAx n fun x => { x with test := true }
    s.when purpose.sedge fun s => (s.count (ctrProbe n)).setBit (Od.OBS_OBS_STATUS n) 9 true
  s.modTr t fun x => { x with probe := some { purpose := purpose, startTb := s.tb, slots := slots } }

/-- The sets whose pulses a Sedge probe's angle comes from (R173, R174): of a recovery those that recover and coast. -/
def State.probeSets (s : State) (t : Fin 2) (purpose : ProbeFor) : List Axis :=
  (sideSets t).filter fun n =>
    s.canProbe n && !s.deciding n && match purpose with
      | .start => s.nat (Od.OBS_START_MODE n) == 0
      | .recovery => s.nat (Od.OBS_START_MODE n) == 0 && (s.ax n).recover.isSome && s.coasts (cellOf n)
      | _ => true

/-- A Sedge probe starts: twelve slots, or the six of the only set that can probe; the pulses of a set that has been lost check
it at a start (R171, R173, R186). -/
def State.startProbe (s : State) (t : Fin 2) (purpose : ProbeFor) : State :=
  let sets := s.probeSets t purpose
  if sets.isEmpty then s
  else
    let use := fun (n : Axis) => sets.contains n || (purpose == .start && s.setLostBit n)
    s.startTrain t purpose ((List.range 12).filterMap fun k =>
      let n := (sideSets t).getD (k % 2) 0
      if use n then some (n, k / 2 + 1) else none)

/-- The length of a slot. -/
def slotTicks : Nat := us 240

/-- All slots of a train have ended. -/
def State.trainOver (s : State) (p : ProbeSt) : Bool := decide (p.startTb + p.slots.length * slotTicks ≤ s.tb)

/-- A slot begins: the test vector is applied, and the current present is noted. The first switch turns on at once, or after the
dead time where the set came from V0. -/
def State.pulseBegin (s : State) (t : Fin 2) (p : ProbeSt) (k : Nat) (n : Axis) (v : Nat) : State :=
  let l := legOf (cellFirstLeg n)
  let on := if (s.leg l).level = .off then s.tb else s.tb + s.deadTime l / 8
  let s := (s.modCell (cellOf n) fun x => { x with mode := .switching }).applyVector n v
  s.modTr t fun x => { x with probe := some { p with
    slot := some k, onTb := on, base := returned v (s.current n), last := (on, 0), found := none, oppEnd := none
    done := p.done ++ List.replicate (k - p.done.length) (.missed 0) } }

/-- A pulse ends with what it has found: the opposite vector follows for as long. -/
def State.testPulseEnd (s : State) (t : Fin 2) (p : ProbeSt) (n : Axis) (v : Nat) (r : ProbePulse) (len : Nat) : State :=
  (s.applyVector n (opposite v)).modTr t fun x => { x with probe := some { p with
    oppEnd := some (s.tb + len), done := p.done ++ [r] } }

/-- The rise time, interpolated between the last sample and this one to 10 ns. -/
def riseTime (p : ProbeSt) (now : Nat) (i r : Rat) : Nat :=
  (roundNear ((p.last.1 : Rat) + ((now : Rat) - p.last.1) * (i - p.last.2) / (r - p.last.2) - p.onTb)).toNat

/-- A decision instant within a pulse, `valid` where its samples are: the vector is held until the current has risen by PROBE_I,
for at least 4 µs and at most 20 µs (R171). -/
def State.pulseHeld (s : State) (t : Fin 2) (p : ProbeSt) (n : Axis) (v : Nat) (valid : Bool) : State :=
  let r := returned v (s.current n) - p.base
  let i := s.num (Od.OBS_PROBE_I n)
  let found := match p.found with
    | some f => some f
    | none => if valid ∧ i ≤ r then some (riseTime p s.tb i r) else none
  let p := { p with found := found, last := if valid then (s.tb, r) else p.last }
  match found with
  | some f =>
    if p.onTb + us 4 ≤ s.tb then s.testPulseEnd t p n v (.rise f) f else s.modTr t fun x => { x with probe := some p }
  | none =>
    if p.onTb + us 20 ≤ s.tb then s.testPulseEnd t p n v (.missed p.last.2) (us 20)
    else s.modTr t fun x => { x with probe := some p }

/-- The rest of a slot: V0, which serves as a forced refresh that is due (R171, R189). -/
def State.pulseRest (s : State) (n : Axis) : State :=
  let s := if s.field (Od.AX_AXIS_STATUS n) 1 3 = 0 then s else s.applyVector n 0
  s.when (s.cell (cellOf n)).refreshDue fun s => s.forcedRefresh (cellOf n)

/-- A set that does not pulse coasts throughout (R171). -/
def State.pulseCoast (s : State) (n : Axis) : State :=
  if (s.cell (cellOf n)).mode = .switching then (s.coastCell (cellOf n)).setField (Od.AX_AXIS_STATUS n) 1 3 7 else s

/-- A decision instant of a set that follows a train. -/
def State.trainStep (s : State) (t : Fin 2) (p : ProbeSt) (n : Axis) (valid : Bool) : State :=
  let k := (s.tb - p.startTb) / slotTicks
  match p.slots[k]? with
  | none => s.pulseCoast n
  | some (m, v) =>
    if m ≠ n then s.pulseCoast n
    else if p.slot ≠ some k then s.pulseBegin t p k n v
    else match p.oppEnd with
      | none => s.pulseHeld t p n v valid
      | some e => if s.tb < e then s else s.pulseRest n

/-! ### Results (R172, R173) -/

def probeTime : ProbePulse → Option Nat
  | .rise t => some t
  | .missed _ => none

/-- Index of the smallest entry, the first of equals. -/
def argMin (l : List Nat) : Nat :=
  (List.range l.length).foldl (fun m k => if l.getD k 0 < l.getD m 0 then k else m) 0

/-- Angle in the frame of set 1 and confidence from the rise times of `n` slots, twelve or six (R172, R173). -/
def probeResult (dirs ts : List Nat) : Rat × Rat :=
  let n := ts.length
  let m := argMin ts
  let t (k : Nat) : Rat := ts.getD (k % n) 0
  let den := t (m + n - 1) - 2 * t m + t (m + 1)
  let delta := (if n = 6 then 2 else 1) * pi6 / 2 * ((t (m + n - 1) - t (m + 1)) / den)
  (wrapPi (dirs.getD m 0 * pi6 + delta), (t (m + n / 2) - t m) / t (m + n / 2))

/-- The pulses of a train with their set and vector; one that no decision instant saw has not reached its current. -/
def ProbeSt.pulses (p : ProbeSt) : List ((Axis × Nat) × ProbePulse) :=
  (List.range p.slots.length).map fun k => (p.slots.getD k (0, 1), p.done.getD k (.missed 0))

/-- Lost sets all of whose test pulses have reached PROBE_I rejoin (R186 step 4). -/
def State.rejoinSets (s : State) (t : Fin 2) (p : ProbeSt) : State :=
  s.each (sideSets t) fun n s =>
    let own := p.pulses.filter fun e => e.1.1 == n
    if s.setLostBit n ∧ own ≠ [] ∧ own.all fun e => (probeTime e.2).isSome then
      (s.setBit (Od.OBS_OBS_STATUS n) 12 false).setBit (Od.OBS_OBS_STATUS n) 13 false
    else s

/-- A set whose pulse stayed below 10 % of PROBE_I is declared phase-open, in the phase that carried its whole current
(R172). -/
def State.probeOpen (s : State) (l : List ((Axis × Nat) × ProbePulse)) : State :=
  match l.find? fun e => match e.2 with
      | .missed i => decide (i < s.num (Od.OBS_PROBE_I e.1.1) / 10)
      | .rise _ => false with
  | some e => s.declareOpen e.1.1 (lonePhase e.1.2)
  | none => s

/-- A probe has failed (R172): event 0x0511 stops the drive, so that RUN is not carried out, and ends an identification, which is
aborted (R191). The value concerned is the confidence in units of 0.0001. -/
def State.probeFailed (s : State) (t : Fin 2) (n : Axis) : State :=
  s.raise 0x0511 n (low16 (s.num (Od.OBS_PROBE_CONF n) * 10000)) [sideDrive t]

/-- The sets that go on with the probe's angle: a recovering set takes it as its source. -/
def State.probeRecovered (s : State) (sets : List Axis) (a : Rat) : State :=
  s.each sets fun n s => s.modAx n fun x => { x with
    probe := if x.recover.isSome then some (wrapPi (a - frameOffset n)) else x.probe }

/-- The identification of a set has a probe's angle (Table 6.8): command 1 holds a current along the vector nearest the d-axis;
command 3 takes the difference to the position interface's angle, open where no interface is good, and probes four times. -/
def State.identProbed (s : State) (t : Fin 2) (n : Axis) : State :=
  let a := s.num (Od.OBS_PROBE_ANGLE n)
  match s.identCmd n with
  | 1 => s.modAx n fun x => { x with ident := { x.ident with phase := 2, tb := s.tb, vector := nearestVector a } }
  | 3 =>
    let d := match s.interfaceAngle n with
      | some r => wrapPi (a - r.1)
      | none => Config.freeRat s.fresh
    let s := s.when (s.interfaceAngle n).isNone State.draw
    let s := s.modAx n fun x => { x with ident := { x.ident with diffs := x.ident.diffs ++ [d] } }
    if 4 ≤ (s.ax n).ident.diffs.length then s.modAx n fun x => { x with ident := { x.ident with phase := 4 } }
    else s.startProbe t .ident
  | _ => s

/-- The end of a Sedge probe: the lost sets are checked, and the angle and confidence decide (R172, R186). -/
def State.probeDone (s : State) (t : Fin 2) (p : ProbeSt) : State :=
  let s := s.endProbe t
  let used := p.pulses.filter fun e => s.canProbe e.1.1
  let sets := (sideSets t).filter fun n => used.any fun e => e.1.1 == n
  let first := sets.headD 0
  if used.any fun e => (probeTime e.2).isNone then (s.probeFailed t first).probeOpen used
  else
    let r := probeResult (used.map fun e => probeDir e.1.1 e.1.2) (used.map fun e => (probeTime e.2).getD 0)
    let s := s.each sets fun n s => (s.setQ (Od.OBS_PROBE_ANGLE n) (wrapPi (r.1 - frameOffset n))).setQ (Od.OBS_PROBE_CONF n) r.2
    if r.2 < s.num (Od.OBS_PROBE_CONF_MIN first) then s.probeFailed t first
    else match p.purpose with
      | .start => (s.rejoinSets t p).engageAll t ((sideSets t).getD 0 0) 4 r.1 0
      | .recovery => s.probeRecovered sets r.1
      | _ => s.each ((sideSets t).filter fun (n : Axis) => s.bit (Od.OBS_OBS_STATUS n) 16) fun n s => s.identProbed t n

/-- The rise times that a train has found, slot by slot; none where a pulse has not reached its current. -/
def ProbeSt.rises (p : ProbeSt) : List (Option Nat) := p.pulses.map fun e => probeTime e.2

/-- The Sedge probe of a motor has ended its last slot, with the rise times found (R172). -/
def State.sedgeComplete (s : State) (t : Fin 2) (rises : List (Option Nat)) : State :=
  match (s.tr t).probe with
  | some p => if p.purpose.sedge ∧ s.trainOver p ∧ p.rises = rises then s.probeDone t p else s
  | none => s

def execSedgeProbeComplete (dt : Nat) (t : Fin 2) (rises : List (Option Nat)) (s : State) : Res :=
  reply s ((s.elapse dt).sedgeComplete t rises)

/-! ### Start (R167, R174, R186) -/

/-- Rotor angle at RUN and at re-engagement: at once from a valid source, else by the Sedge probe; with START_MODE 1 the sets wait
for a source (R167, R174). -/
def State.startSets (s : State) (t : Fin 2) : State :=
  match s.motorSource t with
  | some (n, src, a, w) => s.engageAll t n src a w
  | none => s.startProbe t .start

/-- A motor whose sets wait to be engaged looks for a source again at a decision. -/
def State.startWaiting (s : State) (t : Fin 2) : State :=
  let d := sideDrive t
  if s.ds d = .active ∧ (s.tr t).probe.isNone ∧ ((s.drv d).substate = 1 ∨ (s.tr t).revPending) ∧
      ((sideSets t).all fun n => !s.deciding n) then s.startSets t
  else s

/-- The check of lost sets by three pulses in V1, V3 and V5 each, where no Sedge probe runs (R186 step 4). -/
def State.startCheck (s : State) (t : Fin 2) : State :=
  let lost := (sideSets t).filter fun (n : Axis) => s.setLostBit n
  if lost.isEmpty ∨ (s.motorSource t).isNone then s.startSets t
  else s.startTrain t .check (lost.flatMap fun n => [(n, 1), (n, 3), (n, 5)])

/-! ### Probe-assisted running (R175) -/

/-- The vector of either set nearest an angle in the frame of set `n`; of the set's own alone while the other does not decide. -/
def State.assistTarget (s : State) (n : Axis) (a : Rat) : Axis × Nat :=
  if (sideSets (setSide n)).all fun m => s.deciding m then
    let k := (((a + frameOffset n) / pi6 + 1 / 2).floor % 12).toNat
    ((sideSets (setSide n)).getD (k % 2) 0, k / 2 + 1)
  else (n, nearestVector a)

/-- The set and vector of a phase of a cycle: θ + 45°, its opposite, θ − 45°, its opposite. -/
def State.assistPhase (s : State) (n : Axis) (a : AssistSt) (j : Nat) : Axis × Nat :=
  let e := s.assistTarget n (if j < 2 then a.theta + Config.pi / 4 else a.theta - Config.pi / 4)
  (e.1, if j % 2 = 0 then e.2 else opposite e.2)

/-- The vector that a cycle of the motor asks of a deciding set in place of its table decision: in the set's own cycle V0 while the
other set tests. -/
def State.assistWant (s : State) (n : Axis) : Option Nat :=
  let asks := fun (m : Axis) => (s.ax m).assist.map fun a => s.assistPhase m a a.phase
  match asks n with
  | some e => some (if e.1 = n then e.2 else 0)
  | none => (sideSets (setSide n)).findSome? fun m => (asks m).bind fun e => if e.1 = n then some e.2 else none

/-- R175: the difference of the two current rises over their mean, times ASSIST_GAIN × 45°, is added to the flux angle.
Where the rises' mean is 0 the quotient is open (assumption 5). -/
def State.assistCorrect (s : State) (n : Axis) (plus minus : Rat) : State :=
  let mean := (plus + minus) / 2
  let q := if mean = 0 then Config.freeRat s.fresh else (plus - minus) / mean
  let s := s.when (mean = 0) State.draw
  let a := q * s.num (Od.OBS_ASSIST_GAIN n) * (Config.pi / 4)
  let pa := s.num (Od.AX_PSI_ALPHA n)
  let pb := s.num (Od.AX_PSI_BETA n)
  let s := (s.setQ (Od.AX_PSI_ALPHA n) (pa * Config.cos a - pb * Config.sin a)).setQ (Od.AX_PSI_BETA n)
    (pa * Config.sin a + pb * Config.cos a)
  s.modAx n fun x => { x with theta := wrapPi (x.theta + a), assist := none }

/-- A decision instant within a cycle: each vector stands for ASSIST_ns; the rises are those of the first and the third
(R175). -/
def State.assistStep (s : State) (n : Axis) : State :=
  match (s.ax n).assist with
  | none => s
  | some a =>
    let j := (s.tb - a.startTb) * 10 / s.nat (Od.OBS_ASSIST_ns n)
    if j ≤ a.phase then s
    else
      let e := s.assistPhase n a (a.phase / 2 * 2)
      let rise := returned e.2 (s.current e.1) - a.base
      let put (a : AssistSt) : State := s.modAx n fun x => { x with assist := some a }
      match a.phase with
      | 0 => put { a with phase := 1, plus := rise }
      | 1 =>
        let e := s.assistPhase n a 2
        put { a with phase := 2, base := returned e.2 (s.current e.1) }
      | 2 => put { a with phase := 3, base := rise }
      | _ => s.assistCorrect n a.plus a.base

/-- A cycle of probe-assisted running that starts now, about the flux angle in force. -/
def State.assistNew (s : State) (n : Axis) : AssistSt :=
  { startTb := s.tb, theta := s.num (Od.OBS_OBS_ANGLE n), base := 0 }

/-- A period of probe-assisted running has passed: a cycle starts with its first vector, the set and vector `e` (R175). -/
def State.assistStart (s : State) (n : Axis) (e : Axis × Nat) : State :=
  if s.deciding n ∧ s.bit (Od.OBS_OBS_STATUS n) 8 ∧ (s.ax n).assist.isNone ∧
      (s.ax n).assistTb + us (s.nat (Od.OBS_ASSIST_PERIOD_us n)) ≤ s.tb ∧ s.assistPhase n (s.assistNew n) 0 = e then
    let a := s.assistNew n
    let s := s.modAx n fun x => { x with
      assistTb := s.tb, assist := some { a with base := returned e.2 (s.current e.1) } }
    s.forceVector e.1 e.2
  else s

def execProbeAssistPeriod (dt : Nat) (n : TSet) (m : Axis) (v : Nat) (s : State) : Res :=
  reply s ((s.elapse dt).assistStart ⟨n.val, by omega⟩ (m, v))

/-! ### Identification (R190, R191) -/

/-- The sixteen pulses of command 1, along the directions nearest d and q by turns. -/
def identSlots (n : Axis) (v : Nat) (q : Nat) : List (Axis × Nat) :=
  (List.range 16).map fun k => (n, if k % 2 = 0 then v else q)

/-- A decision instant of command 1 with the current held along a vector: the vector below PROBE_I, V0 from there; after 200 ms the
pulses follow. -/
def State.identHold (s : State) (n : Axis) : State :=
  let x := (s.ax n).ident
  if x.tb + ms 200 ≤ s.tb then
    let q := nearestVector (s.num (Od.OBS_PROBE_ANGLE n) + Config.pi / 2)
    (s.modAx n fun y => { y with ident := { y.ident with phase := 3 } }).startTrain (setSide n) .train (identSlots n x.vector q)
  else
    let s := (s.modAx n fun y => { y with test := true }).modCell (cellOf n) fun y => { y with mode := .switching }
    s.applyVector n (if returned x.vector (s.current n) < s.num (Od.OBS_PROBE_I n) then x.vector else 0)

/-- A decision instant of a set under identification whose drive is ARMED (Table 6.8). -/
def State.identStep (s : State) (n : Axis) : State :=
  let t := setSide n
  let begin_ (s : State) : State := s.modAx n fun x => { x with ident := { phase := 1, tb := s.tb } }
  let probe (s : State) : State :=
    if (s.probeSets t .ident).isEmpty then s.probeFailed t n else (begin_ s).startProbe t .ident
  match s.identCmd n, (s.ax n).ident.phase with
  | 2, 0 => begin_ s
  | 1, 0 => probe s
  | 3, 0 => probe s
  | 1, 2 => s.identHold n
  | _, _ => s

/-- A train without a result of its own ends: the lost sets are checked and the motor starts; the identification's pulses are
over. -/
def State.trainEnd (s : State) (t : Fin 2) (p : ProbeSt) : State :=
  match p.purpose with
  | .check => ((s.endProbe t).rejoinSets t p).startSets t
  | .train => (s.endProbe t).each (sideSets t) fun n s =>
      if (s.ax n).ident.phase = 3 then s.modAx n fun x => { x with ident := { x.ident with phase := 4 } } else s
  | _ => s

/-- A decision instant of a traction set that does not decide, as test pulses and identification have it. -/
def State.testStep (s : State) (n : Axis) (valid : Bool) : State :=
  let t := setSide n
  match (s.tr t).probe with
  | some p =>
    if !(s.ax n).test then s
    else if s.trainOver p ∧ ¬ p.purpose.sedge then s.trainEnd t p
    else s.trainStep t p n valid
  | none => if s.ds (sideDrive t) = .armed then s.identStep n else s

/-- ID_CMD starts a procedure in a SERVICE session in STANDBY, with the preconditions of Table 6.8; the drive arms. -/
def State.writeIdCmd (s : State) (who : Requester) (n : TSet) (cmd : Nat) (pre : State → Bool) : State :=
  let d := cellDrive n
  s.request who (Od.OBS_ID_CMD n) .service fun s =>
    refuseIf (s.ds d != .standby || (s.drv d).arming != .none || (s.drv d).tqo || (s.drv d).tqoLink || !pre s) 0x08000022 <|
    let s := s.modAx ⟨n.val, by omega⟩ fun x => { x with ident := {} }
    .ok ((((s.setN (Od.OBS_ID_CMD n) cmd).setN (Od.OBS_ID_STATUS n) 1).setBit (Od.OBS_OBS_STATUS n) 16 true).startArming d
      .ident)

/-- A motor at rest: no back-EMF at or above BEMF_MIN_V. -/
def State.emfLow (s : State) (n : Nat) : Bool := decide (s.num (Od.AX_BEMF_LL_PK n) < s.num (Od.OBS_BEMF_MIN_V n))

def execIdStatic (dt : Nat) (who : Requester) (n : TSet) (s : State) : Res :=
  reply s ((s.elapse dt).writeIdCmd who n 1 fun s => s.emfLow n)

def execIdRotating (dt : Nat) (who : Requester) (n : TSet) (s : State) : Res :=
  reply s ((s.elapse dt).writeIdCmd who n 2 fun s => decide (50 ≤ s.num (Od.AX_BEMF_LL_PK n)))

def execIdEncoderOffset (dt : Nat) (who : Requester) (n : TSet) (s : State) : Res :=
  reply s ((s.elapse dt).writeIdCmd who n 3 fun s => s.nat (Od.OBS_START_MODE n) == 1 && s.emfLow n)

/-- A write of 0 aborts a running procedure (R191). -/
def State.writeIdAbort (s : State) (who : Requester) (n : TSet) : State :=
  s.request who (Od.OBS_ID_CMD n) .service fun s =>
    .ok (if s.bit (Od.OBS_OBS_STATUS n) 16 then (s.abortIdent (cellDrive n)).identEnd (cellDrive n) else s)

def execIdAbort (dt : Nat) (who : Requester) (n : TSet) (s : State) : Res := reply s ((s.elapse dt).writeIdAbort who n)

/-- The mean of angles that lie near each other. -/
def meanAngle (l : List Rat) : Rat :=
  let a := l.headD 0
  wrapPi (a + (l.map fun d => wrapPi (d - a)).sum / l.length)

/-- Stores the results of the procedure that ran, once it is through: what command 1 has measured; the mean flux of command 2
after 1 s; the mean offset of command 3. -/
def State.identStore (s : State) (n : Axis) (rs ld lq : Rat) : Option State :=
  let x := (s.ax n).ident
  let valid (i : Nat) (s : State) : State := s.modAx n fun x => { x with idValid := withBit x.idValid i true }
  match s.identCmd n with
  | 1 =>
    if x.phase = 4 then some (valid 0 (((s.setQ (Od.OBS_ID_RS n) rs).setQ (Od.OBS_ID_LD n) ld).setQ (Od.OBS_ID_LQ n) lq))
    else none
  | 2 =>
    if x.phase = 1 ∧ x.count ≠ 0 ∧ x.tb + sec 1 ≤ s.tb then some (valid 1 (s.setQ (Od.OBS_ID_PSI_PM n) (x.sum / x.count)))
    else none
  | 3 => if x.phase = 4 then some (valid 2 (s.setQ (Od.OBS_ID_ENC_OFFSET n) (meanAngle x.diffs))) else none
  | _ => none

/-- A procedure ends with its results (R191); the value concerned is ID_CMD. -/
def State.identComplete (s : State) (n : Axis) (rs ld lq : Rat) : State :=
  if s.ds (cellDrive n) = .armed then
    match s.identStore n rs ld lq with
    | some t =>
      let cmd := s.identCmd n
      let t := ((t.setBit (Od.OBS_OBS_STATUS n) 16 false).setN (Od.OBS_ID_STATUS n) 2).setN (Od.OBS_ID_CMD n) 0
      (t.event 0x051D n cmd).identEnd (cellDrive n)
    | none => s
  else s

def execIdProcedureComplete (dt : Nat) (n : TSet) (r : StaticResult) (s : State) : Res :=
  reply s ((s.elapse dt).identComplete ⟨n.val, by omega⟩ r.rs r.ld r.lq)

/-- ID_APPLY copies the valid results to the motor data (R191). -/
def State.writeIdApply (s : State) (who : Requester) (n : TSet) : State :=
  s.request who (Od.OBS_ID_APPLY n) .service fun s =>
    refuseIf (s.ds (cellDrive n) != .standby) 0x08000022 <|
    let v := (s.ax ⟨n.val, by omega⟩).idValid
    let s := s.when (v.testBit 0) fun s => ((s.setQ (Od.AX_RS n) (s.num (Od.OBS_ID_RS n))).setQ (Od.AX_LD n)
      (s.num (Od.OBS_ID_LD n))).setQ (Od.AX_LQ n) (s.num (Od.OBS_ID_LQ n))
    let s := s.when (v.testBit 1) fun s => s.setQ (Od.AX_PSI_PM n) (s.num (Od.OBS_ID_PSI_PM n))
    .ok (s.when (v.testBit 2) fun s => s.setQ (Od.OBS_ENC_OFFSET n) (s.num (Od.OBS_ID_ENC_OFFSET n)))

def execIdApply (dt : Nat) (who : Requester) (n : TSet) (s : State) : Res := reply s ((s.elapse dt).writeIdApply who n)

end Sys2Proof.Machine
end

