-- ==== Sys2Proof/Machine/Traction.lean ====
section
/-! DEFINITION. Chapter 05: the decision of an axis unit, the drive ramp, and the traction drives' set-point, direction,
stop and start (R132 to R162), with V_DC and the link's factors that island die T forms at each decision (R286, R288). -/
namespace Sys2Proof.Machine

def ctrSubst (n : Nat) : Counter := ⟨Od.AX_SUBSTITUTIONS n, 32, Od.AX_AXIS_CNT_STATUS n, 0, 5⟩
def ctrFallback (n : Nat) : Counter := ⟨Od.AX_FALLBACKS n, 32, Od.AX_AXIS_CNT_STATUS n, 1, 5⟩
def ctrDirChange (t : Nat) : Counter := ⟨Od.TR_DIR_CHANGES t, 32, Od.TR_DRIVE_STATUS t, 24, 5⟩

/-! ### Torque limits and the drive ramp (R153, R154, R163) -/

def State.sfBit (s : State) (t b : Nat) : Bool := s.bit (Od.SFS_SF_STATE t) b

/-- The SLT term of R153 for motoring and generating: SLT_LIMIT while SLT is active (unused at 0, R408); while SLS is
active and the motor is above the limit less SLS_MARGIN, motoring is 0 (R407). -/
def State.sltTerm (s : State) (t : Nat) : Option Rat × Option Rat :=
  let lim := s.num (Od.SF_SLT_LIMIT t)
  let slt := if s.sfBit t 7 ∧ lim ≠ 0 then some lim else none
  let sls := s.num (Od.SF_SLS_LIMIT t (s.field (Od.SFS_SF_STATE t) 5 2))
  if s.sfBit t 4 ∧ sls - s.num (Od.SF_SLS_MARGIN t) < |s.num (Od.TR_SPEED t)| then (some 0, slt) else (slt, slt)

def State.axleLimit (s : State) (t : Nat) : Rat := s.num (Od.AXLE_LIMIT_AXLE_A + t)

/-- Limits in force and LIMIT_SRC (R153, Table 5.16). A term that does not lower the written limit is not marked
(DEDUCED, assumption 20). -/
def State.tqLimits (s : State) (t : Nat) : Rat × Rat × Nat :=
  let um := s.num (Od.TR_TQ_MAX_MOT t)
  let ug := s.num (Od.TR_TQ_MAX_GEN t)
  let k := s.num (Od.THM_DERATE t)
  let slt := s.sltTerm t
  let terms : List (Nat × Rat × Rat) :=
    [(2, k * um, k * ug), (3, s.num Od.DCL_MOT_FACTOR * um, s.num Od.DCL_GEN_FACTOR * ug), (4, slt.1.getD um, slt.2.getD ug),
     (5, s.axleLimit t, s.axleLimit t)]
  let mot := terms.foldl (fun a x => min a x.2.1) um
  let gen := terms.foldl (fun a x => min a x.2.2) ug
  let src := terms.foldl (fun a x =>
    if (x.2.1 = mot ∧ x.2.1 < um) ∨ (x.2.2 = gen ∧ x.2.2 < ug) then a + 2 ^ x.1 else a)
    ((if mot = um then 1 else 0) + if gen = ug then 2 else 0)
  (mot, gen, src)

/-- Bounds of TQ_RAMP, upper and lower (R153). -/
def State.rampBounds (s : State) (t : Fin 2) (mot gen : Rat) : Rat × Rat :=
  if -(s.num (Od.TR_REV_SPEED t)) < s.driveSpeed t then (mot, -gen) else (gen, -mot)

/-- The ramp's target before its clamp: 0 while a stop holds zero torque or a reversal waits; the braking torque of SS1
or SLS opposing the speed; the speed loop's output while the shift sequencer selects it; else TQ_SET with the
crossfeed. The damping torque is added (Table 8.2, R263, R406, Table 10.4). -/
def State.rampTarget (s : State) (t : Fin 2) : Rat :=
  let x := s.tr t
  let d := s.drv (sideDrive t)
  match x.brake with
  | some b => -(b * sgn (s.driveSpeed t))
  | none =>
    if d.substate = 3 ∨ d.substate = 5 ∨ d.state ≠ .active then 0
    else (if x.speedCtl then x.speedTq else s.num (Od.TR_TQ_SET t) + x.crossfeed) + x.damping

/-- The limits in force and their sources, and the bits of DRIVE_STATUS that say what they clamp and whether TQ_RAMP differs from its
target (R153, Table 5.15). -/
def State.noteLimits (s : State) (t : Fin 2) : State :=
  let l := s.tqLimits t
  let b := s.rampBounds t l.1 l.2.1
  let raw := s.rampTarget t
  let onward : Bool := decide (-(s.num (Od.TR_REV_SPEED t)) < s.driveSpeed t)
  let mot := if onward then decide (b.1 < raw) else decide (raw < b.2)
  let gen := if onward then decide (raw < b.2) else decide (b.1 < raw)
  let s := ((s.setQ (Od.TR_TQ_LIM_MOT_ACT t) l.1).setQ (Od.TR_TQ_LIM_GEN_ACT t) l.2.1).setN (Od.TR_LIMIT_SRC t) l.2.2
  ((s.setBit (Od.TR_DRIVE_STATUS t) 17 mot).setBit (Od.TR_DRIVE_STATUS t) 16 gen).setBit (Od.TR_DRIVE_STATUS t) 18
    (s.num (Od.TR_TQ_RAMP t) != clampQ b.2 b.1 raw)

/-- One step of the drive ramp at a decision (R154), after the AXLE limit has moved (R266); while no set decides, the limits are
formed alone. -/
def State.rampStep (s : State) (t : Fin 2) : State :=
  let s := s.moveLimit t
  let l := s.tqLimits t
  let b := s.rampBounds t l.1 l.2.1
  let target := clampQ b.2 b.1 (s.rampTarget t)
  let ramp := clampQ b.2 b.1 (approach (s.num (Od.TR_TQ_RAMP t)) target (s.num (Od.TR_TQ_SLEW t) / 10000000))
  (s.when ((sideSets t).any fun n => s.deciding n) fun s => s.setQ (Od.TR_TQ_RAMP t) ramp).noteLimits t

/-- Thermal factor of a cell's junction estimate (R366, R368). -/
def State.cellFactor (s : State) (c : Nat) : Rat := (s.thermal.ests.get (cellOf c)).k

/-- Share of a set: SPLIT and 1 − SPLIT (R163). -/
def State.setShare (s : State) (n : Nat) : Rat :=
  let sp := s.num (Od.TR_SPLIT (setSide n))
  if n % 2 = 0 then sp else 1 - sp

/-- SET_TQ_MAX_ACT (R163, R187). -/
def State.setTqMax (s : State) (n : Nat) : Rat :=
  let t := setSide n
  let l := s.tqLimits t
  let b := s.rampBounds t l.1 l.2.1
  let w := s.num (Od.OBS_SET_TQ_MAX n)
  let base := if w ≠ 0 then w else |if 0 ≤ s.num (Od.TR_TQ_RAMP t) then b.1 else b.2| * s.setShare n
  base * s.cellFactor n * (if s.twoShunt n then 7 / 10 else 1)

/-- TQ_REF of a traction set in the motor frame: its share of TQ_RAMP, all of it while the other set is lost, clamped to
±SET_TQ_MAX_ACT, and reached at TQ_SLEW after an engagement or a loss (R163, R170, R186). -/
def State.setReference (s : State) (n : Axis) : State :=
  let t := setSide n
  let m := s.num (Od.OBS_SET_TQ_MAX_ACT n)
  let share := if s.oneSet t then 1 else s.setShare n
  let want := clampQ (-m) m (share * s.num (Od.TR_TQ_RAMP t))
  let want := if (s.tr t).reverse then -want else want
  let now := s.num (Od.AX_TQ_REF n)
  if (s.ax n).slewing then
    let r := approach now want (s.num (Od.TR_TQ_SLEW t) / 10000000)
    (s.setQ (Od.AX_TQ_REF n) r).modAx n fun x => { x with slewing := r != want }
  else s.setQ (Od.AX_TQ_REF n) want

/-! ### DC link (R286, R288) -/

/-- The first decision in each second at which a factor is below 1 logs its event. -/
def State.factorEvent (s : State) (low : Bool) (last : Option Nat) (code : Nat) (mark : State → Option Nat → State) : State :=
  let sec_ := s.tb / sec 1
  if low ∧ last ≠ some sec_ then mark ((s.event code 0xFF (s.linkDetail)).lastEvent .brk code) (some sec_) else s

/-- Both factors (R288); GEN_FACTOR is 0 while CHOP_FAULT stands. -/
def State.genFactor (s : State) (v : Rat) : Rat :=
  let rz := s.num Od.DCL_REGEN_ZERO
  if s.bit Od.DCL_DCL_STATUS 9 then 0 else clampQ 0 1 ((rz - v) / (rz - s.num Od.DCL_CHOP_FULL))

def State.motFactor (s : State) (v : Rat) : Rat :=
  let ut := s.num Od.DCL_UV_TRIP
  clampQ 0 1 ((v - ut) / (s.num Od.DCL_UV_DERATE - ut))

/-- V_DC as the largest of the four axis senses (R286). -/
def State.largestSense (s : State) : Rat :=
  max (max (s.num (Od.AX_V_BUS 0)) (s.num (Od.AX_V_BUS 1))) (max (s.num (Od.AX_V_BUS 2)) (s.num (Od.AX_V_BUS 3)))

/-- The factors, their status bits and their events, first in each second. -/
def State.linkFactors (s : State) (g m : Rat) : State :=
  let s := (s.setQ Od.DCL_GEN_FACTOR g).setQ Od.DCL_MOT_FACTOR m
  let s := (s.setBit Od.DCL_DCL_STATUS 10 (decide (g < 1))).setBit Od.DCL_DCL_STATUS 11 (decide (m < 1))
  let s := s.factorEvent (decide (g < 1)) s.dcl.genSec 0x0902 fun s o => s.modDcl fun x => { x with genSec := o }
  s.factorEvent (decide (m < 1)) s.dcl.motSec 0x0907 fun s o => s.modDcl fun x => { x with motSec := o }

/-- Since when V_DC stands at the undervoltage release and at 450 V; whether it still stands at FW_TRIP. -/
def State.uvHold (s : State) (v : Rat) : State :=
  s.modDcl fun x => { x with
    okTb := if v < 450 then none else some (x.okTb.getD s.tb)
    fwHigh := x.fwHigh && decide (s.num Od.DCL_FW_TRIP ≤ v)
    uvSince := if v < s.num Od.DCL_UV_DERATE + 10 then none else some (x.uvSince.getD s.tb) }

/-- V_DC is the largest sense of AX0 to AX3; the two factors follow; at or below UV_TRIP the drives TRA, TRB and CHG
take event 0x0908 once per latching (R286, R288). -/
def State.linkDecision (s : State) : State :=
  let v := s.largestSense
  let s := s.setQ Od.DCL_V_DC v
  let s := s.when (decide (s.num Od.DCL_V_DC_MAX < v)) fun s => s.setQ Od.DCL_V_DC_MAX v
  let s := (s.linkFactors (s.genFactor v) (s.motFactor v)).uvHold v
  if v ≤ s.num Od.DCL_UV_TRIP ∧ ¬ s.bit Od.DCL_DCL_STATUS 12 then
    (s.setBit Od.DCL_DCL_STATUS 12 true).raise 0x0908 0xFF s.linkDetail [.tra, .trb, .chg]
  else s

/-! ### One decision (R135 to R150) -/

/-- Open time of one phase after a measurement (R183): it grows while the predicted current is expected to show and the
measured one does not, and restarts when the measured one does. -/
def openStep (acc gap : Nat) (expect thr pred : Rat) (read : Option Rat) : Nat :=
  match read with
  | none => acc
  | some i => if expect ≤ abs pred then (if abs i ≤ thr then acc + gap else 0) else acc

/-- Phase-open accumulators at a measurement, `gap` after the last full one; 0 where it is partial (R183). A measurement in V0
during an accumulation is kept for its decision while the phase is expected to show. -/
def State.openAccumulate (s : State) (n : Axis) (r : Recon) (v : Nat) (pred : Rat × Rat) (gap : Nat) : State :=
  let pp := phasesOf pred.1 pred.2
  let p3 := [pp.1, pp.2.1, pp.2.2]
  let expect := s.num (Od.OBS_I_OPEN_EXPECT n)
  let acc := [0, 1, 2].map fun p => openStep ((s.ax n).openAcc.getD p 0) gap expect (s.num (Od.OBS_I_OPEN_THR n)) (p3.getD p 0)
    (r.meas.getD p none)
  let sum : Option Rat := match r.meas with
    | [some a, some b, some c] => if v = 0 then some (a + b + c) else none
    | _ => none
  let s := s.modAx n fun x => { x with
    openAcc := acc
    kcl := [0, 1, 2].map fun p => if acc.getD p 0 = 0 then none
      else if sum.isSome ∧ expect ≤ abs (p3.getD p 0) then sum else x.kcl.getD p none }
  s.setN (Od.OBS_OPEN_ACC_us n) (acc.foldl max 0 / 100)

/-- Attribution counts at a V0 measurement (R184). -/
def State.attribute (s : State) (n : Axis) (meas : List (Option Rat)) (pred : Rat × Rat) : State :=
  match meas with
  | [some a, some b, some c] =>
    let kcl := a + b + c
    let lim := s.num (Od.OBS_KCL_LIM n)
    let s := s.setQ (Od.AX_KCL_RES n) kcl
    let pp := phasesOf pred.1 pred.2
    let dev := [|a - pp.1|, |b - pp.2.1|, |c - pp.2.2|]
    let worst := (List.range 3).find? fun p => (List.range 3).all fun q =>
      p == q || decide (2 * dev.getD q 0 ≤ dev.getD p 0)
    if |kcl| ≤ lim / 2 then s.modAx n fun x => { x with attr := [0, 0, 0], unattrib := 0 }
    else if |kcl| ≤ lim then s.modAx n fun x => { x with unattrib := 0 }
    else match worst with
      | some p => s.modAx n fun x => { x with attr := x.attr.set p (x.attr.getD p 0 + 1), unattrib := 0 }
      | none => s.modAx n fun x => { x with unattrib := x.unattrib + 1 }
  | _ => s

/-- Switching cycles of a cell so far. -/
def State.cellCycles (s : State) (c : Nat) : Nat := ((List.range 3).map fun p => s.nat (Od.CELL_LEG_SWITCHES c p)).sum

/-- Every 10 ms the window's largest values are reported (Table 5.12, Table 6.9). -/
def State.axisWindow (s : State) (n : Axis) : State :=
  let x := s.ax n
  if s.tb < x.winTb + ms 10 then s
  else
    let root (q : Rat) : Rat := if q = 0 then 0 else Config.sqrt q
    let cyc := s.cellCycles n
    let s := ((s.setQ (Od.AX_INNOV_MAX n) (root x.winInnov)).setQ (Od.OBS_RESID n) (root x.winResid)).setN
      (Od.AX_UNMEAS_MAX_ns n) (min (10 * x.winUnmeas) 65535)
    let s := s.setQ (Od.AX_FSW_LEG_AVG n) (((cyc - x.winCycles : Nat) : Rat) * 100000000 / (3 * (s.tb - x.winTb : Nat)))
    s.modAx n fun x => { x with winTb := s.tb, winInnov := 0, winResid := 0, winUnmeas := 0, winCycles := cyc }

/-- The flux reference of one axis (R138). -/
def State.psiRef (s : State) (n : Nat) : Rat × Bool :=
  let psi := s.num (Od.AX_PSI_PM n)
  let base := if s.num (Od.AX_FLUX_REF n) = 0 then psi else s.num (Od.AX_FLUX_REF n)
  let num := s.num (Od.AX_FW_MARGIN n) * s.num (Od.AX_V_BUS n)
  let w := s.num (Od.AX_SPEED_EL n)
  let fw := decide (num * num < 3 * w * w * base * base)
  (max (if fw then num / (Config.sqrt 3 * |w|) else base) (3 / 10 * psi), fw)

/-- Both sets of a motor use the smaller flux reference (R164). -/
def State.psiRefAct (s : State) (n : Axis) : Rat × Bool :=
  if 4 ≤ n.val then s.psiRef n
  else
    let a := s.psiRef ((sideSets (setSide n)).getD 0 0).val
    let b := s.psiRef ((sideSets (setSide n)).getD 1 0).val
    if a.1 ≤ b.1 then a else b

/-- The unit vector of a flux; for a zero flux its direction is open (assumption 5). -/
def State.fluxUnit (s : State) (a b : Rat) : Rat × Rat :=
  let m := if a = 0 ∧ b = 0 then 0 else Config.sqrt (a * a + b * b)
  if m = 0 then (Config.freeRat s.fresh, Config.freeRat (s.fresh + 1)) else (a / m, b / m)

/-- ψ after 100 ns (R135). -/
def State.fluxStep (s : State) (n : Axis) (v i : Rat × Rat) : State :=
  let ts : Rat := 1 / 10000000
  let rs := s.num (Od.AX_RS n)
  let a := s.num (Od.AX_PSI_ALPHA n) + ts * (v.1 - rs * i.1)
  let b := s.num (Od.AX_PSI_BETA n) + ts * (v.2 - rs * i.2)
  let u := s.fluxUnit a b
  let wc := s.num (Od.AX_DRIFT_WC n)
  let ref := s.num (Od.AX_PSI_REF_ACT n)
  let s := s.when (a = 0 ∧ b = 0) fun s => s.draw.draw
  (s.setQ (Od.AX_PSI_ALPHA n) (a - ts * wc * (a - ref * u.1))).setQ (Od.AX_PSI_BETA n) (b - ts * wc * (b - ref * u.2))

/-- Currents predicted `ts` seconds after the last decision (R147). -/
def State.predict (s : State) (n : Axis) (v : Rat × Rat) (ts : Rat) : Rat × Rat :=
  let l := s.axL n
  let w := s.num (Od.AX_SPEED_EL n)
  let ia := s.num (Od.AX_I_ALPHA n)
  let ib := s.num (Od.AX_I_BETA n)
  let ea := -(w * (s.num (Od.AX_PSI_BETA n) - l * ib))
  let eb := w * (s.num (Od.AX_PSI_ALPHA n) - l * ia)
  let rs := s.num (Od.AX_RS n)
  (ia + ts / l * (v.1 - rs * ia - ea), ib + ts / l * (v.2 - rs * ib - eb))

/-- A selected vector, or its alternate, or V0, as the tokens allow; a departure is counted, and the requests that found no token
are deferred (R144, R92). Where a measurement is due, the alternate serves only as a full measurement (R146). -/
def State.chooseVector (s : State) (n : Axis) (v alt : Nat) (due : Bool) : State :=
  if !s.vectorBlocked n v then s.applyVector n v
  else
    let s := ((s.deferVector n v).count (ctrFallback n)).setBit (Od.AX_AXIS_STATUS n) 10 true
    s.applyVector n (if s.vectorBlocked n alt || (due && !s.measurable n alt) then 0 else alt)

/-- Time without a full measurement at which substitution starts, in ticks, by the slowest of the three channels (R146). -/
def State.substStart (s : State) (n : Axis) : Nat :=
  let c := n.val
  let settle := fun (p : Nat) =>
    50 * s.deadTime (legOf (cellFirstLeg n + p)) + 40 * s.nat (Od.SH_SETTLE_ns (cellFirstLeg n + p))
  let lim := 40 * s.nat (Od.AX_MEAS_MAX_ns n) - (40 * s.nat (Od.CELL_DWELL_MIN_ns c)
    + max (settle 0) (max (settle 1) (settle 2)) + 12000)
  (lim + 399) / 400

/-- A measurement is due: the unmeasured time has reached the start of substitution (R146). -/
def State.measureDue (s : State) (n : Axis) : Bool := decide (s.substStart n ≤ s.tb - (s.ax n).lastFull)

/-- Ticks for which a vector is held for the sake of a measurement (R146, R183). -/
def State.measureHold (s : State) (n : Axis) : Nat :=
  (max (s.nat (Od.AX_MEAS_MIN_ns n)) (s.nat (Od.CELL_DWELL_MIN_ns n)) + 9) / 10

/-- Measurement substitution starts: the alternate where it is a full measurement and not blocked, else V0 (R146). -/
def State.substitute (s : State) (n : Axis) (alt : Nat) : State :=
  let s := (s.count (ctrSubst n)).modAx n fun x => { x with subst := some (s.tb + s.measureHold n) }
  let s := s.setBit (Od.AX_AXIS_STATUS n) 11 true
  s.applyVector n (if s.measurable n alt && !s.vectorBlocked n alt then alt else 0)

/-- A vector selected outside a dwell takes effect (R144, R146). -/
def State.pickVector (s : State) (n : Axis) (v alt : Nat) : State :=
  let s := s.modAx n fun x => { x with waitVec := none }
  if s.measureDue n && !s.measurable n v then s.substitute n alt else s.chooseVector n v alt (s.measureDue n)

/-- A phase has reached OPEN_DET_us and no V0 measurement taken during its accumulation decides (R183). -/
def State.openWants (s : State) (n : Axis) : Bool :=
  (List.range 3).any fun p => s.openReached n p && ((s.ax n).kcl.getD p none).isNone

/-- V0 is applied at once, and held, for the decision of R183. -/
def State.openForce (s : State) (n : Axis) : State :=
  (s.forceVector n 0).modAx n fun x => { x with openHold := some (s.tb + s.measureHold n), waitVec := none }

/-- The substitution in force ends with a full measurement, once the vector has been held (R146). -/
def State.substEnd (s : State) (n : Axis) (full : Bool) : State :=
  if full && (s.ax n).subst.any fun t => decide (t ≤ s.tb) then
    (s.modAx n fun x => { x with subst := none }).setBit (Od.AX_AXIS_STATUS n) 11 false
  else s

/-- Vector selection (R143 to R146, R183): a forced refresh, the V0 of R183, a dwell, during which the selection waits, a
substitution, and the table. -/
def State.selectVector (s : State) (n : Axis) (phi : Bool) (tau : Int) (sector : Nat) (full : Bool) : State :=
  let c := cellOf n
  let v := tableVector phi tau sector
  let alt := tableVector (!phi) tau sector
  let s := s.substEnd n full
  if (s.cell c).refreshDue then (s.forcedRefresh c).setField (Od.AX_AXIS_STATUS n) 1 3 0
  else if s.openWants n && (s.ax n).openHold.isNone then s.openForce n
  else if (s.ax n).openHold.any fun t => decide (s.tb < t) || s.openWants n then s
  else
    let s := s.modAx n fun x => { x with openHold := none }
    if s.dwelling c then s.modAx n fun x => { x with waitVec := some (v, alt) }
    else if (s.ax n).subst.isSome then s
    else s.pickVector n v alt

/-- A leg's dwell ends: the vector that waits for the last dwell of its cell takes effect (R93, R144). -/
def State.dwellOver (s : State) (l : Leg) : State :=
  if 24 ≤ l.val then s
  else
    let n := axisOf (legCell l)
    match (s.ax n).waitVec with
    | some (v, alt) => if s.deciding n ∧ ¬ s.dwelling (cellOf n) ∧ (s.ax n).subst.isNone then s.pickVector n v alt else s
    | none => s

def execDwellEnd (dt : Nat) (l : Leg) (s : State) : Res := reply s ((s.elapse dt).dwellOver l)

/-- TAU of AXIS_STATUS: 00, 01, 11. -/
def tauCode (t : Int) : Nat := if 0 < t then 1 else if t < 0 then 3 else 0
def State.tauOf (s : State) (n : Nat) : Int :=
  match s.field (Od.AX_AXIS_STATUS n) 7 2 with | 1 => 1 | 3 => -1 | _ => 0

/-- Since when OVR of each phase stands while its prediction lies within full scale (R184). -/
def State.noteSaturation (s : State) (n : Axis) (pred : Rat × Rat) : State :=
  let pp := phasesOf pred.1 pred.2
  s.modAx n fun x => { x with
    ovrSince := [0, 1, 2].map fun p =>
      let l := legOf (cellFirstLeg n + p)
      if s.bit (Od.SH_CH_STATUS l) 3 ∧ abs ([pp.1, pp.2.1, pp.2.2].getD p 0) ≤ fullScale l then
        some ((x.ovrSince.getD p none).getD s.tb) else none }

/-- The square of the difference of two vectors. -/
def dist2 (a b : Rat × Rat) : Rat := (a.1 - b.1) * (a.1 - b.1) + (a.2 - b.2) * (a.2 - b.2)

/-- The samples at the odd instant, 50 ns before, go to the observer: where they are valid, the residual is evaluated (R150,
R180). -/
def State.oddSamples (s : State) (n : Axis) (odd : List Int) (v : Rat × Rat) : State :=
  let pred := s.predict n v (1 / 20000000)
  let s := s.takeSamples n odd 5
  let r := s.reconstruct n (s.field (Od.AX_AXIS_STATUS n) 1 3) pred
  s.when (r.meas.any Option.isSome) fun s => s.evalResidual n (dist2 r.i pred) (s.tb - 5)

/-- The rotor's angle from the flux and the currents: ψ less LQ · i lies along the d-axis by R170 (DEDUCED, assumption 65). -/
def State.rotorAngle (s : State) (n : Axis) (pa pb : Rat) (i : Rat × Rat) : Rat :=
  let lq := s.num (Od.AX_LQ n)
  Config.atan2 (pb - lq * i.2) (pa - lq * i.1)

/-- What a decision measures: the odd and the even samples, the reconstruction, the innovation, the phase accumulators and the
attribution counts (R145, R150, R180, R183, R184). Answers the state, the currents, and whether the measurement was full. -/
def State.measure (s : State) (n : Axis) (raw odd : List Int) (v : Rat × Rat) : State × Recon :=
  let pred := s.predict n v (1 / 10000000)
  let s := (s.oddSamples n odd v).takeSamples n raw 0
  let vec := s.field (Od.AX_AXIS_STATUS n) 1 3
  let r := s.reconstruct n vec pred
  let d2 := dist2 r.i pred
  let gap := s.tb - (s.ax n).lastFull
  let s := (s.setBit (Od.AX_AXIS_STATUS n) 12 r.pred).noteSaturation n pred
  let s := s.when (vec = 0) fun s => s.attribute n r.meas pred
  let s := s.openAccumulate n r vec pred (if r.full then gap else 0)
  let s := s.when r.full fun s =>
    (s.evalResidual n d2 s.tb).modAx n fun x => { x with lastFull := s.tb, winInnov := max x.winInnov d2 }
  (s.modAx n fun x => { x with winUnmeas := max x.winUnmeas (s.tb - x.lastFull) }, r)

/-- Estimates of a decision: voltage, measurement, flux, torque and speed (R135 to R138, R145 to R147). The flux takes the currents
of the interval's start (DESIGN CHOICE, assumption 65). Answers the state and whether the measurement was full. -/
def State.estimate (s : State) (n : Axis) (raw odd : List Int) : State × Bool :=
  let bus := s.num (Od.AX_V_BUS n)
  let i0 := (s.num (Od.AX_I_ALPHA n), s.num (Od.AX_I_BETA n))
  let ph := phasesOf i0.1 i0.2
  let v := alphaBeta (s.phaseVolt n 0 bus ph.1) (s.phaseVolt n 1 bus ph.2.1) (s.phaseVolt n 2 bus ph.2.2)
  let m := s.measure n raw odd v
  let s := m.1
  let i := m.2.i
  let ref := s.psiRefAct n
  let s := (s.setQ (Od.AX_PSI_REF_ACT n) ref.1).setBit (Od.AX_AXIS_STATUS n) 13 ref.2
  let s := if (s.ax n).initial then s else s.fluxStep n v i0
  let s := (s.setQ (Od.AX_I_ALPHA n) i.1).setQ (Od.AX_I_BETA n) i.2
  let pa := s.num (Od.AX_PSI_ALPHA n)
  let pb := s.num (Od.AX_PSI_BETA n)
  let s := s.setQ (Od.AX_TQ_EST n) (3 / 2 * s.nat (Od.AX_POLE_PAIRS n) * (pa * i.2 - pb * i.1))
  let th := Config.atan2 pb pa
  let s := if (s.ax n).initial then s else s.setSpeed n (wrapPi (th - (s.ax n).theta) * 10000000)
  ((s.setQ (Od.OBS_OBS_ANGLE n) (s.rotorAngle n pa pb i)).modAx n fun x => { x with theta := th }, m.2.full)

/-- Probe-assisted running below 4 % of BASE_SPEED, ended above 4.5 % (R175). -/
def State.assistMode (s : State) (n : Axis) : State :=
  if n.val < 4 ∧ s.nat (Od.OBS_START_MODE n) = 0 then
    let v := |s.num (Od.TR_SPEED (setSide n))|
    let b := s.num (Od.TR_BASE_SPEED (setSide n))
    if v < 4 / 100 * b then s.setBit (Od.OBS_OBS_STATUS n) 8 true
    else if 45 / 1000 * b < v then s.setBit (Od.OBS_OBS_STATUS n) 8 false else s
  else s.setBit (Od.OBS_OBS_STATUS n) 8 false

/-- Cross-set angle of a motor in degrees, and since when it is beyond a limit (R166). -/
def State.crossAngle (s : State) (t : Fin 2) : State :=
  let a := (sideSets t).getD 0 0
  let b := (sideSets t).getD 1 0
  if s.deciding a ∧ s.deciding b then
    let deg := |wrapPi ((s.ax b).theta + pi6 - (s.ax a).theta) * 180 / Config.pi|
    let far := fun (m : Axis) => decide (s.num (Od.OBS_XSET_ANGLE_LIM m) < deg)
    let s := s.each [a, b] fun m s => (s.setQ (Od.OBS_XSET_ANGLE m) deg).setBit (Od.OBS_OBS_STATUS m) 15 (far m)
    s.modTr t fun x => { x with xsetTb := if far a || far b then some (x.xsetTb.getD s.tb) else none }
  else (s.each [a, b] fun m s => s.setBit (Od.OBS_OBS_STATUS m) 15 false).modTr t fun x => { x with xsetTb := none }

/-- The axis that steps the ramp of its drive and compares its sets: the first deciding one, else set 1. -/
def State.rampAxis (s : State) (n : Axis) : Bool :=
  let l := sideSets (setSide n)
  (l.find? fun m => s.deciding m).getD (l.headD 0) == n

/-- The comparators and the sector of a decision, and the vector they select (R139 to R143). -/
def State.compare (s : State) (n : Axis) (full : Bool) : State :=
  let pa := s.num (Od.AX_PSI_ALPHA n)
  let pb := s.num (Od.AX_PSI_BETA n)
  let mag := if pa = 0 ∧ pb = 0 then 0 else Config.sqrt (pa * pa + pb * pb)
  let tau := tauNext (if (s.ax n).initial then 0 else s.tauOf n) (s.num (Od.AX_TQ_REF n) - s.num (Od.AX_TQ_EST n))
    (s.num (Od.AX_TQ_BAND n))
  let phi := phiNext (s.ax n).initial (s.bit (Od.AX_AXIS_STATUS n) 9) (s.num (Od.AX_PSI_REF_ACT n) - mag)
    (s.num (Od.AX_FLUX_BAND n))
  let sector := sectorOf pa pb
  let s := ((s.setBit (Od.AX_AXIS_STATUS n) 9 phi).setField (Od.AX_AXIS_STATUS n) 7 2 (tauCode tau)).setField
    (Od.AX_AXIS_STATUS n) 4 3 sector
  match s.assistWant n with
  | some v => (s.forceVector n v).modAx n fun x => { x with lastFull := s.tb }
  | none => s.selectVector n phi tau sector full

/-- A deciding axis unit's decision (R150); its switching time counts (R95). -/
def State.decide_ (s : State) (n : Axis) (raw odd : List Int) : State :=
  let e := s.estimate n raw odd
  let s := (e.1.assistMode n).setBit (Od.AX_AXIS_STATUS n) 10 false
  let s := s.when (decide (n.val < 4)) fun s => (s.assistStep n).setReference n
  let s := (s.compare n e.2).modAx n fun x => { x with initial := false }
  let s := s.modCell (cellOf n) fun x => { x with swTicks := x.swTicks + 10 }
  (s.countWide (Od.AX_DECISIONS n)).setBit (Od.AX_AXIS_STATUS n) 0 true

/-! ### A unit that does not decide -/

/-- One result of the back-EMF in ASC, 10 µs after the one before: e = −LS · Δi / Δt − RS · i. The results of 0.5 ms give the
speed by their advance, and the angle by their mean carried forward to the last (R168; DESIGN CHOICE, assumption 67). -/
def State.ascResult (s : State) (n : Axis) (i0 i : Rat × Rat) (ticks : Nat) : State :=
  let k := -(s.axL n) * 100000000 / ticks
  let rs := s.num (Od.AX_RS n)
  let e := Config.atan2 (k * (i.2 - i0.2) - rs * i.2) (k * (i.1 - i0.1) - rs * i.1)
  let x := (s.ax n).ascWin
  let adv := if x.count = 0 then 0 else x.adv + wrapPi (e - x.prev)
  let x : AscSt := { x with
    last := some (i.1, i.2, s.tb), count := x.count + 1, first := if x.count = 0 then e else x.first
    firstTb := if x.count = 0 then s.tb else x.firstTb, prev := e, adv := adv, sum := if x.count = 0 then 0 else x.sum + adv }
  if x.count < 50 then s.modAx n fun y => { y with ascWin := x }
  else
    let dt : Rat := ((s.tb : Rat) - x.firstTb) / 100000000
    let w := x.adv / dt
    let a := x.first + x.sum / 50 + w * dt / 2
    let th := wrapPi (if w < 0 then a + Config.pi / 2 else a - Config.pi / 2)
    s.modAx n fun y => { y with ascAngle := some (th, w, s.tb), ascWin := { last := x.last } }

/-- A set in ASC at a decision instant: its currents, its back-EMF and its time there (R168, R179). -/
def State.ascStep (s : State) (n : Axis) (r : Recon) : State :=
  let s := s.countAsc (cellOf n)
  if !r.full then s
  else
    let s := (s.setQ (Od.AX_I_ALPHA n) r.i.1).setQ (Od.AX_I_BETA n) r.i.2
    match (s.ax n).ascWin.last with
    | none => s.modAx n fun x => { x with ascWin := { last := some (r.i.1, r.i.2, s.tb) } }
    | some (a, b, t) => if t + us 10 ≤ s.tb then s.ascResult n (a, b) r.i (s.tb - t) else s

/-- The fields of AXIS_STATUS and of the observer while a unit does not decide (Tables 5.13, 6.10). -/
def State.idleStatus (s : State) (n : Axis) : State :=
  let k := Od.AX_AXIS_STATUS n
  let s := ((s.setBit k 0 false).setField k 4 3 0).setField k 10 4 0
  let s := s.when ((s.cell (cellOf n)).mode != .switching) fun s => s.setField k 1 3 7
  let s := (s.setQ (Od.AX_TQ_EST n) 0).setBit (Od.OBS_OBS_STATUS n) 8 false
  let s := s.when (decide (n.val < 4) && !s.coasts (cellOf n)) fun s =>
    (s.modAx n fun x => { x with trackSince := none }).setBit (Od.OBS_OBS_STATUS n) 0 false
  s.when (decide (n.val < 4)) fun s => s.noteSource n

/-- A recovering set that has coasted for 2 ms, or any later time, without a source begins a Sedge probe (Table 6.3 step 2). -/
def State.recoverProbe (s : State) (n : Axis) : State :=
  match (s.ax n).recover with
  | some t0 =>
    if t0 + ms 2 ≤ s.tb ∧ (s.firstSource n).isNone ∧ (s.tr (setSide n)).probe.isNone ∧ (s.probeSets (setSide n) .recovery).contains n then
      s.startProbe (setSide n) .recovery
    else s
  | none => s

/-- A decision instant of a unit that does not decide: its samples, its back-EMF in ASC, test pulses, and what waits for a
decision. -/
def State.idle (s : State) (n : Axis) (raw odd : List Int) : State :=
  let s := (s.takeSamples n odd 5).takeSamples n raw 0
  let asc := (s.cell (cellOf n)).mode == .asc
  let vec := if asc then 0 else if (s.cell (cellOf n)).mode = .switching then s.field (Od.AX_AXIS_STATUS n) 1 3 else 7
  let r := s.reconstruct n vec (s.num (Od.AX_I_ALPHA n), s.num (Od.AX_I_BETA n))
  let s := if asc then s.ascStep n r
    else if vec = 7 then (s.setQ (Od.AX_I_ALPHA n) 0).setQ (Od.AX_I_BETA n) 0
    else if r.meas.any Option.isSome then (s.setQ (Od.AX_I_ALPHA n) r.i.1).setQ (Od.AX_I_BETA n) r.i.2
    else s
  if 4 ≤ n.val then s.idleStatus n
  else (((s.testStep n (r.meas.any Option.isSome)).idleStatus n).recoverProbe n).startWaiting (setSide n)

/-- TQ_ACT of a traction drive: the sum of its sets' TQ_EST in the drive frame (Table 5.14). -/
def State.tqAct (s : State) (t : Fin 2) : State :=
  let sum := (sideSets t).foldl (fun a n => a + s.num (Od.AX_TQ_EST n)) 0
  s.setQ (Od.TR_TQ_ACT t) (if (s.tr t).reverse then -sum else sum)

/-- A stop of the drive whose cells coast at this decision (R155). -/
def State.stopDue (s : State) (n : Axis) : State :=
  if n.val < 4 ∧ (s.tr (setSide n)).stopDue ∧ s.deciding n then (s.coastCell (cellOf n)).stoppedIfCoasting (cellDrive n) else s

/-- A decision instant: the unit runs, the die's TB is a multiple of 100 ns, and the unit has not decided at it (R150). -/
def State.decisionDue (s : State) (n : Axis) : Bool :=
  s.bringup.islandOn && s.dieTb (cellLink n) % 10 == 0 && (s.ax n).decTb.all fun t => decide (t < s.tb)

/-- What a drive does at a decision of one of its sets: the ramp and the limits once, the torque (R154, R163, R166). -/
def State.driveStep (s : State) (n : Axis) : State :=
  let t := setSide n
  let s := s.when (s.rampAxis n) fun s => (s.rampStep t).crossAngle t
  s.setQ (Od.OBS_SET_TQ_MAX_ACT n) (s.setTqMax n)

/-- Every 100 ns (R150): the unit's bus voltage is sensed, island die T forms V_DC and its factors and steps the ramp, and a
deciding unit decides; a unit that does not decide measures. -/
def State.axisDecision (s : State) (n : Axis) (raw odd : List Int) (vBus : Rat) : State :=
  if !s.decisionDue n then s else
  let s := (s.modAx n fun x => { x with decTb := some s.tb }).setQ (Od.AX_V_BUS n) vBus
  let s := s.when (decide (n.val < 4)) fun s => (s.linkDecision.stopDue n).driveStep n
  let s := if s.deciding n then s.decide_ n raw odd else s.idle n raw odd
  let s := s.axisWindow n
  s.when (decide (n.val < 4)) fun s => s.tqAct (setSide n)

def execAxisDecision (dt : Nat) (n : Axis) (raw odd : List Int) (vBus : Rat) (s : State) : Res :=
  reply s ((s.elapse dt).axisDecision n raw odd vBus)

/-- R148: the cell coasts and the drive goes to FAULT. -/
def State.unmeasured (s : State) (n : Axis) : State :=
  let ticks := s.tb - (s.ax n).lastFull
  let d := cellDrive n
  let s := (s.coastCell (cellOf n)).event 0x0506 n (min ticks 65535)
  if 4 ≤ n.val then s.faultDrive .gbx 0x0506
  else
    let s := s.each (d.cells.filter fun c => c.val != n.val) fun c s => s.protectCell c
    s.faultState d 0x0506

def execUnmeasuredTimeExceeded (dt : Nat) (n : Axis) (s : State) : Res :=
  let s := s.elapse dt
  reply s (if s.deciding n ∧ (s.nat (Od.AX_MEAS_MAX_ns n) + 1000) < 10 * (s.tb - (s.ax n).lastFull) then s.unmeasured n else s)

/-! ### Set-point and direction (R152, R156, R158, R258, R406) -/

/-- SS1 runs on the drive: its set-point, direction and control are locked (R406). -/
def State.ss1Locks (s : State) (t : Nat) : Bool := s.sfBit t 2

/-- The axle manager writes the torque of both drives in modes 1 to 3 (R257, R258). -/
def State.axleRuns (s : State) : Bool := s.field Od.AXLE_AXLE_STATUS 0 2 != 0

/-- TQ_SET by the owner is stored, in every state (R152, R158); one that meets a torque-off in the same decision is discarded
(R159). -/
def State.tqSetEffect (who : Requester) (t : Fin 2) (q : Rat) (s : State) : Except Nat State :=
  refuseIf (!s.owns who (sideDrive t) || s.axleRuns || s.ss1Locks t) 0x08000022 <|
  .ok (if (s.drv (sideDrive t)).tqoTb.any fun b => sameDecision b s.tb then s else s.setQ (Od.TR_TQ_SET t) q)

def State.writeTqSet (s : State) (who : Requester) (t : Fin 2) (value : BitVec 32) : State :=
  s.request who (Od.TR_TQ_SET t) .operator fun s =>
    match f32Decode value with
    | none => .error 0x06090030
    | some q => s.tqSetEffect who t q

def execTqSetWrite (dt : Nat) (who : Requester) (t : Fin 2) (value : BitVec 32) (s : State) : Res :=
  reply s ((s.elapse dt).writeTqSet who t value)

/-- DIRECTION takes effect: a change is counted; while ACTIVE it starts a reversal, otherwise it acts at once (R156). -/
def State.setDirection (s : State) (t : Fin 2) (v : Nat) : State :=
  if s.nat (Od.TR_DIRECTION t) = v then s
  else
    let s := (s.setN (Od.TR_DIRECTION t) v).count (ctrDirChange t)
    if s.ds (sideDrive t) = .active then
      (s.startReversal (sideDrive t)).modTr t fun x => { x with reverse := v = 2 }
    else s.modTr t fun x => { x with reverse := v = 2 }

def State.directionEffect (who : Requester) (t : Fin 2) (v : Nat) (s : State) : Except Nat State :=
  refuseIf (v != 1 && v != 2) 0x06090030 <|
  refuseIf (!s.owns who (sideDrive t) || s.axleRuns || s.ss1Locks t) 0x08000022 <|
  .ok (s.setDirection t v)

def State.writeDirection (s : State) (who : Requester) (t : Fin 2) (v : Nat) : State :=
  s.request who (Od.TR_DIRECTION t) .operator (State.directionEffect who t v)

def execDirectionWrite (dt : Nat) (who : Requester) (t : Fin 2) (value : BitVec 8) (s : State) : Res :=
  reply s ((s.elapse dt).writeDirection who t value.toNat)

/-- The speed in the old direction is below REV_SPEED, or no set has a valid speed (DESIGN CHOICE, assumption 68). -/
def State.reverseSlow (s : State) (t : Fin 2) : Bool :=
  decide (-(s.driveSpeed t) < s.num (Od.TR_REV_SPEED t)) ||
    (sideSets t).all fun n => !s.deciding n && !s.bit (Od.OBS_OBS_STATUS n) 1

/-- A reversal's wait ends: the sets engage again, and with them the ramp restarts (R156 steps 2 to 4). Sets that still hold zero
torque are initialised from their own angle and speed (DEDUCED, assumption 68). -/
def State.reengage (s : State) (t : Fin 2) : State :=
  let d := sideDrive t
  if s.ds d = .active ∧ (s.drv d).substate = 3 ∧ ¬ (s.tr t).revPending ∧ s.reverseSlow t then
    let s := s.modTr t fun x => { x with revPending := true }
    if (s.liveSets t).all fun n => s.deciding n then
      (s.each (s.liveSets t) fun n s => s.initFlux n (s.num (Od.OBS_OBS_ANGLE n)) (s.num (Od.AX_SPEED_EL n))).motorRuns t
    else s.startSets t
  else s

def execReversalReengage (dt : Nat) (t : Fin 2) (s : State) : Res := reply s ((s.elapse dt).reengage t)

/-- During a zero-torque hold a set coasts when its back-EMF falls below STOP_EMF_EXIT of the link (R155); both coasting
end a stop. The braking of SS1 is no such hold (R406). -/
def State.stopSetCoast (s : State) (n : Axis) : State :=
  let d := cellDrive n
  let t := setSide n
  let hold := (s.ds d = .stopping ∧ (s.drv d).substate = 5) ∨ (s.ds d = .active ∧ (s.drv d).substate = 3)
  if hold ∧ (s.tr t).brake = none ∧ s.deciding n ∧ s.num (Od.AX_BEMF_LL_PK n) < s.num (Od.TR_STOP_EMF_EXIT t) * s.num Od.DCL_V_DC then
    (s.coastCell (cellOf n)).stoppedIfCoasting d
  else s

def execStopSetCoast (dt : Nat) (n : TSet) (s : State) : Res := reply s ((s.elapse dt).stopSetCoast ⟨n.val, by omega⟩)

/-! ### Arm and run of a traction drive (R149, R157, R165, R173, R186) -/

def State.motorDataOk (s : State) (n : Nat) : Bool :=
  s.nat (Od.AX_POLE_PAIRS n) != 0 && s.num (Od.AX_RS n) != 0 && s.num (Od.AX_LD n) != 0 && s.num (Od.AX_LQ n) != 0 &&
  s.num (Od.AX_PSI_PM n) != 0 && s.num (Od.AX_TQ_BAND n) != 0 && s.num (Od.AX_FLUX_BAND n) != 0

/-- The measurement conditions of R149 hold in every band; in ns times 4. -/
def State.timingOk (s : State) (n : Nat) : Bool :=
  [0, 1, 2, 3].all fun b =>
    let dt := 5 * s.nat (Od.CELL_DT_B n b)
    (List.range 3).all fun p =>
      let st := 4 * s.nat (Od.SH_SETTLE_ns (cellFirstLeg n + p))
      decide (dt + st + 200 ≤ 4 * s.nat (Od.AX_MEAS_MIN_ns n)) &&
      decide (4 * s.nat (Od.CELL_DWELL_MIN_ns n) + dt + st + 1200 ≤ 4 * s.nat (Od.AX_MEAS_MAX_ns n))

/-- The two sets of one motor agree (R165). -/
def State.setsAgree (s : State) (t : Fin 2) : Bool :=
  let a := ((sideSets t).getD 0 0).val
  let b := ((sideSets t).getD 1 0).val
  let pa := s.num (Od.AX_PSI_PM a)
  let pb := s.num (Od.AX_PSI_PM b)
  s.nat (Od.AX_POLE_PAIRS a) == s.nat (Od.AX_POLE_PAIRS b) && decide (|pa - pb| ≤ 5 / 100 * max pa pb)

/-- The refusals of an ARM that R149 and R165 log, each with the event's code and source cell; BASE_SPEED 0 counts as missing motor
data (Table 5.14). -/
def State.armDataFault (s : State) (d : Drive) : List (Nat × Nat) :=
  let axes := (d.cells.map (·.val)).filter fun c => c < 8
  let data : Option Nat := match axes.find? fun n => !s.motorDataOk n with
    | some n => some n
    | none => if d.isTraction ∧ s.num (Od.TR_BASE_SPEED d.num) = 0 then axes.head? else none
  let own : List (Nat × Nat) := match data, axes.find? fun n => !s.timingOk n with
    | some n, _ => [(0x0502, n)]
    | none, some n => [(0x0503, n)]
    | none, none => []
  own ++ if d.isTraction ∧ ¬ s.setsAgree d.side then [(0x051C, axes.headD 0)] else []

/-- By how much PSI_PM of a motor's sets differ, in units of 0.1 % of the larger (R193). -/
def State.psiGap (s : State) (t : Fin 2) : Nat :=
  let a := s.num (Od.AX_PSI_PM ((sideSets t).getD 0 0))
  let b := s.num (Od.AX_PSI_PM ((sideSets t).getD 1 0))
  if max a b = 0 then 0 else low16 (|a - b| * 1000 / max a b)

/-- The value concerned of an ARM's refusal (R162, R193). -/
def State.armFaultDetail (s : State) (d : Drive) (code : Nat) : Nat :=
  if code = 0x051C then s.psiGap d.side else s.speedLow d

/-- With START_MODE 0 a motor needs a set that can probe (R173). -/
def State.probePossible (s : State) (t : Fin 2) : Bool :=
  (sideSets t).all (fun n => s.nat (Od.OBS_START_MODE n) == 1) || (sideSets t).any fun n => s.canProbe n

/-- RUN from ARMED: lost sets are checked, and the angle is found (R157, R186). -/
def State.runTraction (s : State) (t : Fin 2) : State :=
  let d := sideDrive t
  (((s.goto d .active 2).setQ (Od.TR_TQ_RAMP t) 0).modDrv d fun x => { x with substate := 1 }).startCheck t

/-- RUN during the zero-torque hold of a stop: the ramp starts from 0, and sets that have begun to coast are caught
(Table 5.10). -/
def State.resumeTraction (s : State) (t : Fin 2) : State :=
  let d := sideDrive t
  let s := (s.goto d .active 2).setQ (Od.TR_TQ_RAMP t) 0
  let s := s.modDrv d fun x => { x with substate := 1 }
  if (s.liveSets t).all fun n => s.deciding n then s.motorRuns t else (s.zeroRefs t).startSets t

end Sys2Proof.Machine
end

