-- ==== Sys2Proof/Machine/LoopUnit.lean ====
section
/-! DEFINITION. Chapter 08: the samples of a loop unit, its queued writes, HOLD and commits (R212 to R235). -/
namespace Sys2Proof.Machine

def ctrSatSamples (n : Nat) : Counter := ⟨Od.LU_SAT_SAMPLES n, 32, Od.LU_LU_CNT_STATUS n, 0, 7⟩
def ctrOvf (n : Nat) : Counter := ⟨Od.LU_OVF_COUNT n, 32, Od.LU_LU_CNT_STATUS n, 1, 7⟩
def ctrStale (n : Nat) : Counter := ⟨Od.LU_STALE_COUNT n, 32, Od.LU_LU_CNT_STATUS n, 2, 7⟩

/-! ### Sources (Table 8.1, R218) -/

/-- Latest result of a converter input with the mark of its sequencer, from the sequencer that converts it. -/
def State.converterValue (s : State) (g i : Nat) : Option Rat :=
  let entry (n : Nat) : Option Nat := (List.range (s.nat (Od.SQ_LENGTH n))).find? fun k => s.field (Od.SQ_ENTRY n k) 0 5 == i
  let read (n : Nat) : Option Rat := match entry n with
    | some k => if s.bit (Od.SQ_SQ_STATUS n) 4 ∨ s.nat (Od.SQ_SEQ_COUNT n) = 0 then none
        else some (inputValue g i (s.nat (Od.SQ_RESULT n k)))
    | none => none
  (read (2 * g)).orElse fun _ => read (2 * g + 1)

/-- The link of a converter's island is trained; GC3 stands on island C, and stops with that island's CONV clock (R38). -/
def State.converterUp (s : State) (g : Nat) : Bool :=
  match g with
  | 0 => (s.link .t).trained
  | 1 => (s.link .g).trained
  | 2 => (s.link .l).trained
  | _ => !s.clocks.faults.contains 7

/-- Value of a feedback source; none while it is invalid. -/
def State.fbValue (s : State) (src : Nat) : Option Rat :=
  let i := src % 256
  let linkUp (l : Link) : Bool := (s.link l).trained
  match src / 256 with
  | 0 => some 0
  | 1 => if s.bit (Od.SH_CH_STATUS i) 2 ∧ linkUp (cellLink (legCell i)) then some (s.num (Od.SH_CURRENT i)) else none
  | 2 =>
    if s.converterUp (i / 32) then s.converterValue (i / 32) (i % 32) else none
  | 3 => if linkUp (cellLink i) then some (s.num (Od.OBS_OBS_SPEED i)) else none
  | 4 => if s.pifService i = 2 then some (s.num (Od.PIF_SPEED i)) else none
  | 5 => if s.pifService i = 2 then some (s.int (Od.PIF_POSITION i)) else none
  | 6 => if linkUp (cellLink i) then some (s.num (Od.AX_TQ_EST i)) else none
  | 7 => if linkUp .t then some (s.num Od.DCL_V_DC) else none
  | 8 => if linkUp .t then some s.packCurrent else none
  | 9 => if h : i < 24 then (let u := s.lu ⟨i, h⟩; some (if u.running then u.u else s.num (Od.LU_INIT_OUT i))) else none
  | _ => none

/-! ### Sections (R215, R222, R228) -/

/-- A product of Q3.28 codes, rounded to nearest at bit 28. -/
def mulQ28 (a b : Int) : Int := (a * b + 2 ^ 27) / 2 ^ 28

/-- One section's step: output, states, and how many of them were clamped. -/
structure SecStep where
  y : Int
  s1 : Int
  s2 : Int
  clamps : Nat
  deriving DecidableEq, Repr

/-- Transposed direct form II with clamps (R215); with `stop` the states stay (R222). -/
def secStep (b0 b1 b2 a1 a2 s1 s2 x : Int) (stop : Bool) : SecStep :=
  let y := mulQ28 b0 x + s1
  let yc := clampI (-2 ^ 31) (2 ^ 31 - 1) y
  if stop then ⟨yc, s1, s2, (y != yc).toNat⟩
  else
    let n1 := mulQ28 b1 x - mulQ28 a1 yc + s2
    let n2 := mulQ28 b2 x - mulQ28 a2 yc
    let c1 := clampI (-2 ^ 39) (2 ^ 39 - 1) n1
    let c2 := clampI (-2 ^ 39) (2 ^ 39 - 1) n2
    ⟨yc, c1, c2, (y != yc).toNat + (n1 != c1).toNat + (n2 != c2).toNat⟩

/-- DIR_SIGN of a section, as the engines last evaluated it (R222, Table 8.8). -/
def State.dirSignSet (s : State) (n i : Nat) : Int :=
  match s.field (Od.LU_DIR_SIGNS n) (2 * i) 2 with | 1 => 1 | 3 => -1 | _ => 0

/-- One sample through the cascade from input `x`; answers the output and the sections that clamped, one entry for each
clamp. -/
def State.cascade (s : State) (n : Fin 24) (x0 : Int) : State × Int × List Nat :=
  (List.range (min 8 (s.nat (Od.LU_SECTIONS n)))).foldl (fun (acc : State × Int × List Nat) i =>
    let s := acc.1
    let x := acc.2.1
    let u := s.lu n
    let b0 := s.int (Od.LU_B0 n i)
    let b2 := s.int (Od.LU_B2 n i)
    let a2 := s.int (Od.LU_A2 n i)
    let yh := u.y.getD i 0
    if s.secHeld n i then (s.modLu n fun u => { u with wasHeld := u.wasHeld.set i true }, yh, acc.2.2)
    else if u.wasHeld.getD i false then
      (s.modLu n fun u => { u with
        wasHeld := u.wasHeld.set i false, s1 := u.s1.set i (yh - mulQ28 b0 x)
        s2 := u.s2.set i (mulQ28 b2 x - mulQ28 a2 yh) }, yh, acc.2.2)
    else
      let d := x.sign * s.dirSignSet n i
      let stop := s.integSec n i && ((u.satHi && decide (0 < d)) || (u.satLo && decide (d < 0)))
      let r := secStep b0 (s.int (Od.LU_B1 n i)) b2 (s.int (Od.LU_A1 n i)) a2 (u.s1.getD i 0) (u.s2.getD i 0) x stop
      let s := s.modLu n fun u => { u with s1 := u.s1.set i r.s1, s2 := u.s2.set i r.s2, y := u.y.set i r.y }
      (s.setQ (Od.LU_SEC_OUT n i) ((r.y : Rat) / 2 ^ 28), r.y, acc.2.2 ++ List.replicate r.clamps i))
    (s, x0, [])

/-! ### Commits (R230, Table 8.5) -/

/-- HOLD of a section is set: its time runs from now (R229). -/
def State.holdStarts (s : State) (n : Fin 24) (i : Nat) : State :=
  s.modLu n fun u => { u with holdTb := u.holdTb.set i s.tb, holdLogged := u.holdLogged.set i false }

/-- The commit's part in a sample: step 2 sets HOLD, steps 3 and 4 write the denominator in the order of R226, then B0, B1,
B2, step 5 releases. -/
def State.commitStep (s : State) (n : Fin 24) : State :=
  match (s.lu n).commit with
  | none => s
  | some c =>
    match c.step with
    | 0 => s
    | 1 =>
      let host := s.secHeld n c.sec
      let a2 := decide (s.int (Od.LU_A2 n c.sec) < c.coefs.getD 4 0)
      let s := (s.setBit (Od.LU_SEC_CTRL n c.sec) 0 true).modLu n fun u => { u with
        commit := some { c with step := 2, hostHeld := host, a2First := a2 } }
      s.when (!host) fun s => s.holdStarts n c.sec
    | 7 => s.commitDone n c
    | k =>
      let j := (if c.a2First then [4, 3, 0, 1, 2] else [3, 4, 0, 1, 2]).getD (k - 2) 0
      (s.setI ((coefKeys n c.sec).getD j 0) (c.coefs.getD j 0)).modLu n fun u => { u with
        commit := some { c with step := k + 1 } }

/-! ### Limits and selection (R214, R224) -/

/-- OUT_MIN and OUT_MAX in force: the actuator loops are derated (Table 14.4). -/
def State.outBounds (s : State) (n : Nat) : Rat × Rat :=
  let k := if 4 ≤ n ∧ n ≤ 7 ∧ s.luServes n then s.num (Od.THM_DERATE 2) * s.cellFactor n else 1
  (s.num (Od.LU_OUT_MIN n) * k, s.num (Od.LU_OUT_MAX n) * k)

/-- The outputs of a pair are compared when both have come to this instant (R224). -/
def State.selectMin (s : State) (n m : Fin 24) : State :=
  if (s.lu m).sampleTb ≠ some s.tb ∧ s.luDue m then s
  else
    let lo := if n.val < m.val then n else m
    let hi := if n.val < m.val then m else n
    let win := if (s.lu hi).u < (s.lu lo).u then hi else lo
    let lose := if win = lo then hi else lo
    let s := s.when (!(s.lu lose).satHi && !(s.lu lose).satLo) fun s => s.count (ctrSatSamples lose)
    let s := s.modLu win fun u => { u with notSelected := false }
    let s := s.modLu lose fun u => { u with notSelected := true, satHi := true }
    s.deliver (s.nat (Od.LU_OUT_DEST n)) (s.lu win).u

/-! ### One sample (R214) -/

/-- The triangle of ±DITHER_A at DITHER_Hz that a solenoid channel adds to its set-point while its switch is energised;
its phase counts from the timebase's zero (R274). -/
def State.dither (s : State) (i : Nat) : Rat :=
  let hz := s.nat (Od.SOL_DITHER_Hz i)
  if hz = 0 then 0
  else
    let ph : Rat := ((s.tb * hz % 100000000 : Nat) : Rat) / 100000000
    let tri := if ph < 1 / 4 then 4 * ph else if ph < 3 / 4 then 2 - 4 * ph else 4 * ph - 4
    tri * s.num (Od.SOL_DITHER_A i)

/-- The reference a unit samples: REF, with the dither of its solenoid channel where it drives one (R214, R274). -/
def State.luRef (s : State) (n : Nat) : Rat :=
  s.num (Od.LU_REF n) + if 8 ≤ n ∧ n ≤ 15 ∧ s.luServes n ∧ s.num (Od.SOL_I_SET (n - 8)) ≠ 0 then s.dither (n - 8) else 0

/-- A sample whose source is invalid changes no state and keeps the output, which a pair still compares; the eighth in a row
stops the drive (R218, R224). -/
def State.luSkip (s : State) (n : Fin 24) : State :=
  let k := (s.lu n).skips + 1
  let s := (s.count (ctrStale n)).modLu n fun u => { u with skips := k, stale := true }
  let s := match s.luPartner n with
    | some m => s.selectMin n m
    | none => s
  if k = 8 then s.raise 0x0705 (0x80 + n.val) 0 [driveOf (s.luDrive n)] else s

/-- The oldest queued write takes effect (R225). -/
def State.luDequeue (s : State) (n : Fin 24) : State :=
  match (s.lu n).queue with
  | [] => s
  | e :: q => (s.set e.1 e.2).modLu n fun u => { u with queue := q }

/-- Clamps are counted, the first in each second is logged with its section (R215, R235). -/
def State.luOverflow (s : State) (n : Fin 24) (l : List Nat) : State :=
  match l with
  | [] => s
  | i :: _ =>
    let s := s.countBy (ctrOvf n) l.length
    let second := s.tb / sec 1
    if (s.lu n).ovfSec = some second then s
    else (s.modLu n fun u => { u with ovfSec := some second }).event 0x0703 (0x80 + n.val) i

/-- Charger units count as saturated while GEN_FACTOR scales their output (R335). -/
def State.genScaled (s : State) (n : Nat) : Bool :=
  (n == 20 || n == 21) && (decide (s.num Od.DCL_GEN_FACTOR < 1) || s.bit Od.DCL_DCL_STATUS 9)

/-- The commit's release of HOLD waits while the source is invalid (R228, Table 8.7). -/
def State.commitAt (s : State) (n : Fin 24) : State :=
  let last : Bool := match (s.lu n).commit with | some c => c.step == 7 | none => false
  if last ∧ (s.fbValue (s.nat (Od.LU_FB_SRC n))).isNone then s else s.commitStep n

/-- The output of a sample acts: its pair's smaller one, or its own. -/
def State.luOutput (s : State) (n : Fin 24) (u : Rat) : State :=
  match s.luPartner n with
  | some m => s.selectMin n m
  | none => s.deliver (s.nat (Od.LU_OUT_DEST n)) u

/-- A unit samples (R214 to R218, R224): the head of its queue and its commit act first. -/
def State.luSample (s : State) (n : Fin 24) : State :=
  let s := s.modLu n fun u => { u with sampleTb := some s.tb, due := false }
  let s := (s.luDequeue n).commitAt n
  if s.nat (Od.LU_SECTIONS n) = 0 then s.stopUnit n else
  match s.fbValue (s.nat (Od.LU_FB_SRC n)) with
  | none => s.luSkip n
  | some fb =>
    let g := s.num (Od.LU_IN_GAIN n)
    let x := g * (match s.field (Od.LU_LU_CTRL n) 27 2 with
      | 0 => s.luRef n - fb
      | 1 => fb
      | _ => s.luRef n)
    let xq := toQ28 x
    let sat := decide (roundNear (x * 2 ^ 28) ≠ xq)
    let r := s.cascade n xq
    let s := r.1.luOverflow n r.2.2
    let b := s.outBounds n
    let u := s.num (Od.LU_OUT_GAIN n) * ((r.2.1 : Rat) / 2 ^ 28) + s.num (Od.LU_OUT_OFFSET n)
    let uc := clampQ b.1 b.2 u
    let s := s.modLu n fun y => { y with
      satHi := decide (b.2 < u) || s.genScaled n, satLo := decide (u < b.1), inSat := sat, stale := false, skips := 0
      u := uc, notSelected := false }
    let s := ((s.setQ (Od.LU_OUTPUT n) uc).setQ (Od.LU_FB_VALUE n) fb).countWide (Od.LU_SAMPLES n)
    let s := s.when ((s.lu n).satHi || (s.lu n).satLo) fun s => s.count (ctrSatSamples n)
    s.luOutput n uc

/-- A unit samples when its trigger has come (R213, R216); the units stand while island C's CONV clock does (Table 1.11). -/
def execLoopUnitSample (dt : Nat) (n : Fin 24) (s : State) : Res :=
  let s := s.elapse dt
  reply s (if (s.lu n).running ∧ s.luDue n ∧ ¬ s.clocks.faults.contains 7 then s.luSample n else s)

/-! ### Queued writes (R225, R230) -/

/-- A queued object of a unit: SECTIONS, IN_GAIN, OUT_GAIN, OUT_OFFSET and the coefficients (R225). -/
def luQueued (sub : Nat) : Bool := sub == 4 || (0x0A ≤ sub && sub ≤ 0x0C) || (0x30 ≤ sub && sub ≤ 0x57)

/-- The section a coefficient belongs to. -/
def luSection (sub : Nat) : Option Nat := if 0x30 ≤ sub ∧ sub ≤ 0x57 then some (sub % 8) else none

/-- A coefficient as the writes that wait in the queue will leave it (R225). -/
def State.luQueuedInt (s : State) (n : Fin 24) (key : Nat) : Int :=
  match ((s.lu n).queue.filter fun e => e.1 == key).getLast? with
  | some e => e.2.toInt
  | none => s.int key

/-- A raw write of A1 or A2 to a running unit without HOLD: refused for an integrating section, and where 1 + A1 + A2
lies below 0.05 before or after it, waiting writes included (R227, R234; the abort code DEDUCED, assumption 55). -/
def State.rawRefused (s : State) (n : Fin 24) (sub : Nat) (v : Val) : Bool :=
  let i := sub % 8
  let a1 := s.luQueuedInt n (Od.LU_A1 n i)
  let a2 := s.luQueuedInt n (Od.LU_A2 n i)
  let new := if sub < 0x50 then 2 ^ 28 + v.toInt + a2 else 2 ^ 28 + a1 + v.toInt
  decide (0x48 ≤ sub ∧ sub ≤ 0x57) && (s.lu n).running && !s.secHeld n i &&
    (s.integSec n i || decide (20 * s.dcDen n i < 2 ^ 28) || decide (20 * (2 ^ 28 + a1 + a2) < 2 ^ 28) ||
      decide (20 * new < 2 ^ 28))

/-- A write enters the queue; on a unit that does not run it is applied at once (R225). -/
def State.queueEffect (n : Fin 24) (sub : Nat) (v : Val) (s : State) : Except Nat State :=
  let key := Od.LU_NUM_SUBS n + sub
  let busy := match (s.lu n).commit with
    | some c => luSection sub == some c.sec.val
    | none => false
  refuseIf (busy || s.rawRefused n sub v) 0x08000022 <|
  if (s.lu n).running then
    refuseIf (8 ≤ (s.lu n).queue.length) 0x08000022 (.ok (s.modLu n fun u => { u with queue := u.queue ++ [(key, v)] }))
  else .ok ((s.set key v).luSettle n)

/-- The value of a 32-bit word for a unit's queued object. -/
def luWord (sub : Nat) (w : BitVec 32) : Except Nat Val :=
  if sub = 4 then (if w.toNat ≤ 8 then .ok (.int w.toNat) else .error 0x06090030)
  else if 0x30 ≤ sub then .ok (.int w.toInt)
  else match f32Decode w with | some q => .ok (.num q) | none => .error 0x06090030

def State.writeLuQueue (s : State) (who : Requester) (n : Fin 24) (sub : Nat) (w : BitVec 32) : State :=
  s.request who (Od.LU_NUM_SUBS n + sub) .service fun s =>
    if !luQueued sub then .error 0x06090011
    else match luWord sub w with
      | .error c => .error c
      | .ok v => s.queueEffect n sub v

def execCoefficientQueueWrite (dt : Nat) (who : Requester) (n : Fin 24) (sub : BitVec 8) (value : BitVec 32) (s : State) :
    Res := reply s ((s.elapse dt).writeLuQueue who n sub.toNat value)

/-! ### COMMIT (R226, R230, R231) -/

/-- The stability condition |A2| < 1 and |A1| < 1 + A2 in Q3.28 codes (R226). -/
def stable (a1 a2 : Int) : Bool := decide (a2.natAbs < 2 ^ 28) && decide ((a1.natAbs : Int) < 2 ^ 28 + a2)

/-- The notch of R231 as B0, B1, B2, A1, A2 in Q3.28. -/
def State.notchSet (s : State) (n : Nat) : List Int :=
  let f0 := s.num (Od.LU_NOTCH_F0 n)
  let k := Config.tan (Config.pi * f0 / s.luRate n)
  let zp := s.num (Od.LU_NOTCH_WIDTH n) / (2 * f0)
  let zz := zp * Config.pow10 (-(s.num (Od.LU_NOTCH_DEPTH_dB n)) / 20)
  let a0 := 1 + 2 * zp * k + k * k
  let b1 := 2 * (k * k - 1) / a0
  [toQ28 ((1 + 2 * zz * k + k * k) / a0), toQ28 b1, toQ28 ((1 - 2 * zz * k + k * k) / a0), toQ28 b1,
   toQ28 ((1 - 2 * zp * k + k * k) / a0)]

/-- The notch parameters are in range (R231). -/
def State.notchOk (s : State) (n : Nat) : Bool :=
  let f0 := s.num (Od.LU_NOTCH_F0 n)
  let w := s.num (Od.LU_NOTCH_WIDTH n)
  let d := s.num (Od.LU_NOTCH_DEPTH_dB n)
  decide (1 ≤ f0) && decide (f0 ≤ 45 / 100 * s.luRate n) && decide (0 ≤ d) && decide (d ≤ 60) && decide (1 / 2 ≤ w) &&
  decide (w ≤ 2 * f0)

/-- A commit of a set to STAGE_SEC: refused while another or queued writes are pending, for an unstable set, and for an
integrating section whose pole would leave z = 1 (R230). -/
def State.commitEffect (n : Fin 24) (coefs : List Int) (ok : Bool) (s : State) : Except Nat State :=
  let sec : Fin 8 := Fin.ofNat 8 (s.nat (Od.LU_STAGE_SEC n))
  let a1 := coefs.getD 3 0
  let a2 := coefs.getD 4 0
  refuseIf (!ok) 0x06090030 <|
  refuseIf (if s.integSec n sec then 2 ^ 28 + a1 + a2 != 0 else !stable a1 a2) 0x06090030 <|
  refuseIf ((s.lu n).commit.isSome || (s.lu n).queue != []) 0x08000022 <|
  .ok (if (s.lu n).running then s.modLu n fun u => { u with commit := some { sec := sec, coefs := coefs } }
    else s.commitAtOnce n { sec := sec, coefs := coefs })

def State.stagedSet (s : State) (n : Nat) : List Int := [0, 1, 2, 3, 4].map fun i => s.int (Od.LU_STAGE n i)

def State.writeCommit (s : State) (who : Requester) (n : Fin 24) (v : Nat) : State :=
  s.request who (Od.LU_COMMIT n) .service fun s =>
    match v with
    | 1 => s.commitEffect n (s.stagedSet n) true
    | 2 => s.commitEffect n (s.notchSet n) (s.notchOk n)
    | _ => .error 0x06090030

def execCommitStaged (dt : Nat) (who : Requester) (n : Fin 24) (s : State) : Res :=
  reply s ((s.elapse dt).writeCommit who n 1)

def execCommitNotch (dt : Nat) (who : Requester) (n : Fin 24) (s : State) : Res :=
  reply s ((s.elapse dt).writeCommit who n 2)

/-- The engines have computed the set: a running unit starts HOLD sequencing at its next sample; on another the set is
applied at once (R230). -/
def State.commitComputed (s : State) (n : Fin 24) : State :=
  match (s.lu n).commit with
  | some c =>
    if c.step ≠ 0 then s
    else if (s.lu n).running then s.modLu n fun u => { u with commit := some { c with step := 1 } }
    else s.commitAtOnce n c
  | none => s

def execCommitComputed (dt : Nat) (n : Fin 24) (s : State) : Res := reply s ((s.elapse dt).commitComputed n)

/-! ### HOLD (R228, R229) -/

/-- SEC_CTRL: reserved bits are 0, INTEG changes only while the unit does not run (Table 8.11). -/
def State.secCtrlEffect (n : Fin 24) (i v : Nat) (s : State) : Except Nat State :=
  let k := Od.LU_SEC_CTRL n i
  refuseIf (4 ≤ v) 0x06090030 <|
  refuseIf ((s.lu n).running && v / 2 != s.nat k / 2) 0x08000022 <|
  refuseIf (match (s.lu n).commit with | some c => c.sec.val == i | none => false) 0x08000022 <|
  let newHold := v.testBit 0 && !s.bit k 0
  .ok ((s.setN k v).when newHold fun s => s.holdStarts n i)

def State.writeSecCtrl (s : State) (who : Requester) (n : Fin 24) (i v : Nat) : State :=
  s.request who (Od.LU_SEC_CTRL n i) .service (State.secCtrlEffect n i v)

def execSecCtrlWrite (dt : Nat) (who : Requester) (n : Fin 24) (sec : Fin 8) (value : BitVec 8) (s : State) : Res :=
  reply s ((s.elapse dt).writeSecCtrl who n sec value.toNat)

/-- A section of a running unit held beyond HOLD_MAX_ms stops the drive; HOLD stays (R229). -/
def State.holdExpired (s : State) (n : Fin 24) (i : Nat) : State :=
  let u := s.lu n
  let t0 := u.holdTb.getD i 0
  if u.running ∧ s.secHeld n i ∧ ¬ u.holdLogged.getD i false ∧
      t0 + ms (s.nat (Od.LU_HOLD_MAX_ms n)) < s.tb then
    let s := s.modLu n fun u => { u with holdLogged := u.holdLogged.set i true }
    s.raise 0x0704 (0x80 + n.val) (i + 65536 * min ((s.tb - t0) / 100000) 65535) [driveOf (s.luDrive n)]
  else s

def execHoldMaxExpiry (dt : Nat) (n : Fin 24) (sec : Fin 8) (s : State) : Res := reply s ((s.elapse dt).holdExpired n sec)

end Sys2Proof.Machine
end

