-- ==== Sys2Proof/Machine/DcLink.lean ====
section
/-! DEFINITION. Chapter 11: DC-link senses and thresholds, the chopper, its resistors and its faults, the two trips and
the active discharge (R286 to R299). -/
namespace Sys2Proof.Machine

def ctrFwTrip : Counter := ⟨Od.DCL_FW_TRIPS, 16, Od.DCL_DCL_CNT_STATUS, 0, 9⟩
def ctrHwTrip : Counter := ⟨Od.DCL_HW_TRIPS, 16, Od.DCL_DCL_CNT_STATUS, 1, 9⟩
def ctrDischarge : Counter := ⟨Od.DCL_DISCHARGES, 32, Od.DCL_DCL_CNT_STATUS, 3, 9⟩

/-- V_DC. -/
def State.vDc (s : State) : Rat := s.num Od.DCL_V_DC

/-- The drives an event of severity FAULT can send to FAULT or finds there: all but those in INHIBIT. -/
def State.notInhibit (s : State) (l : List Drive) : List Drive := l.filter fun d => s.ds d != .inhibit

/-! ### Sense mismatch (R286) -/

/-- Smallest of the four axis senses. -/
def State.smallestSense (s : State) : Rat :=
  min (min (s.num (Od.AX_V_BUS 0)) (s.num (Od.AX_V_BUS 1))) (min (s.num (Od.AX_V_BUS 2)) (s.num (Od.AX_V_BUS 3)))

/-- Either spread exceeds 2 % of V_DC + 10 V. -/
def State.sensesDiffer (s : State) : Bool :=
  let lim := s.vDc / 50 + 10
  decide (lim < s.largestSense - s.smallestSense) || decide (lim < |s.vDc - s.num Od.DCL_V_DC_GC|)

/-- The comparison of the DC-link manager task, every 100 µs: since when a spread exceeds its limit. -/
def State.compareSenses (s : State) : State :=
  let d := s.sensesDiffer
  s.modDcl fun x => { x with differTb := if d then some (x.differTb.getD s.tb) else none }

/-- A spread has exceeded its limit for 10 ms. -/
def State.differDue (s : State) : Bool :=
  match s.dcl.differTb with
  | some t => decide (t + ms 10 ≤ s.tb)
  | none => false

/-- SENSE_MISMATCH latches, once per latching, and TRA, TRB, CHG and BRK go to FAULT. -/
def State.senseMismatch (s : State) : State :=
  if s.differDue ∧ ¬ s.bit Od.DCL_DCL_STATUS 1 then
    let ds : List Drive := [.tra, .trb, .chg, .brk]
    let s := (s.setBit Od.DCL_DCL_STATUS 1 true).modDcl fun x => { x with mismatchOf := s.notInhibit ds }
    s.raise 0x0903 0xFF s.linkDetail ds
  else s

def execDcLinkSenseMismatch (dt : Nat) (s : State) : Res := reply s (s.elapse dt).senseMismatch

/-- UV_TRIP_LATCH is released after 100 ms at UV_DERATE + 10 V or more (Table 11.1), where V_DC still stands. -/
def State.uvRelease (s : State) : State :=
  match s.dcl.uvSince with
  | some t =>
    if t + ms 100 ≤ s.tb ∧ s.num Od.DCL_UV_DERATE + 10 ≤ s.vDc then s.setBit Od.DCL_DCL_STATUS 12 false else s
  | none => s

def execUvTripRelease (dt : Nat) (s : State) : Res := reply s (s.elapse dt).uvRelease

/-! ### Thresholds (R287) -/

/-- The seven thresholds in the order of their subindices, with one of them replaced. -/
def State.thresholds (s : State) (k : Nat) (v : Rat) : List Rat :=
  (List.range 7).map fun i => if Od.DCL_CHOP_START + i = k then v else s.num (Od.DCL_CHOP_START + i)

/-- Ranges, order and minimum spacings of Table 11.1. -/
def thresholdsOk (l : List Rat) : Bool :=
  match l with
  | [cs, cf, rz, fw, hw, ud, ut] =>
    decide (860 ≤ cs ∧ cs ≤ 900) && decide (cs + 10 ≤ cf ∧ cf ≤ 920) && decide (cf + 5 ≤ rz ∧ rz ≤ 935) &&
    decide (rz + 20 ≤ fw ∧ fw ≤ 980) && decide (fw + 15 ≤ hw ∧ hw ≤ 1000) && decide (ut + 20 ≤ ud ∧ ud ≤ 445) &&
    decide (300 ≤ ut ∧ ut ≤ 420)
  | _ => false

/-- A drive is in ARMED, ACTIVE, STOPPING or INHIBIT. -/
def State.busy (s : State) (d : Drive) : Bool := !s.paramState d

/-- A write of CHOP_START rewrites REF and IN_GAIN of LU23, one of CHOP_FULL its IN_GAIN (R289). -/
def State.chopperUnit (s : State) (k : Nat) : State :=
  let cs := s.num Od.DCL_CHOP_START
  let s := s.when (k == Od.DCL_CHOP_START) fun s => s.setQ (Od.LU_REF 23) cs
  s.when (k == Od.DCL_CHOP_START || k == Od.DCL_CHOP_FULL) fun s =>
    s.setQ (Od.LU_IN_GAIN 23) (-1 / (s.num Od.DCL_CHOP_FULL - cs))

/-- A threshold write. -/
def State.thresholdEffect (k : Nat) (v : Rat) (s : State) : Except Nat State :=
  refuseIf (!thresholdsOk (s.thresholds k v)) 0x06090030 <|
  refuseIf (s.busy .tra || s.busy .trb || s.busy .chg || s.busy .brk) 0x08000022 <|
  .ok ((s.setQ k v).chopperUnit k)

/-! ### Resistors (R290, R292) -/

/-- RES_OHM of a leg; while BRK is UNAVAILABLE the check starts again. -/
def State.resOhmEffect (leg : Fin 2) (q : Rat) (s : State) : Except Nat State :=
  refuseIf (!(q == 0 || (decide (f32Val (31 / 10) ≤ q) && decide (q ≤ 20)))) 0x06090030 <|
  refuseIf (s.busy .brk) 0x08000022 <|
  let s := s.setQ (Od.DCL_RES_OHM_0 + leg) q
  .ok (if s.ds .brk = .unavailable then
    s.modDcl fun x => { x with checkOk := false, checkFailed := false, checkWait := none }
  else s)

def State.writeResOhm (s : State) (who : Requester) (leg : Fin 2) (value : BitVec 32) : State :=
  s.request who (Od.DCL_RES_OHM_0 + leg) .service fun s =>
    match f32Decode value with
    | none => .error 0x06090030
    | some q => s.resOhmEffect leg q

def execResOhmWrite (dt : Nat) (who : Requester) (leg : Fin 2) (value : BitVec 32) (s : State) : Res :=
  reply s ((s.elapse dt).writeResOhm who leg value)

/-- The check runs: BRK is UNAVAILABLE, link T trained, both resistors named, V_DC at 450 V, and no failed check waits
for its repeat. -/
def State.resCheckRuns (s : State) : Bool :=
  s.ds .brk == .unavailable && (s.link .t).trained && s.resSet && decide (450 ≤ s.vDc) && !s.dcl.checkOk &&
  s.dcl.checkWait.isNone

/-- RES_MEAS from the current at the end of the pulse. -/
def resMeas (v i : Rat) : Rat := if i < 1 / 2 then 1000000 else v / i

/-- A measured resistor lies within ±15 % of its nominal value. -/
def resFits (nominal measured : Rat) : Bool := decide (|measured - nominal| ≤ 15 / 100 * nominal)

/-- A passed check clears the chopper's fault latches and BRK becomes ready; a failed one logs 0x090D for the first leg
that does not fit and is repeated every 10 s (Table 11.12). -/
def State.resChecked (s : State) (i0 i1 : Rat) : State :=
  let s := (s.setQ Od.DCL_RES_MEAS_0 (resMeas s.vDc i0)).setQ Od.DCL_RES_MEAS_1 (resMeas s.vDc i1)
  let fit0 := resFits (s.num Od.DCL_RES_OHM_0) (s.num Od.DCL_RES_MEAS_0)
  let fit1 := resFits (s.num Od.DCL_RES_OHM_1) (s.num Od.DCL_RES_MEAS_1)
  if fit0 && fit1 then
    let s := s.modDcl fun x => { x with resPassed := true, checkOk := true, checkFailed := false }
    let s := (s.setField Od.DCL_DCL_STATUS 2 6 0).setBit Od.DCL_DCL_STATUS 9 false
    s.becomeReady .brk
  else
    let s := s.modDcl fun x => { x with checkFailed := true, checkWait := some s.tb }
    (s.event 0x090D (if fit0 then 0x0F else 0x0E) s.linkDetail).lastEvent .brk 0x090D

def execBrkResistorCheckComplete (dt : Nat) (i0 i1 : Rat) (s : State) : Res :=
  let s := s.elapse dt
  reply s (if s.resCheckRuns then s.resChecked i0 i1 else s)

/-- The repeat of a failed check starts 10 s after it. -/
def State.resCheckRetry (s : State) : State :=
  match s.dcl.checkWait with
  | some t => if t + sec 10 ≤ s.tb ∧ 450 ≤ s.vDc then s.modDcl fun x => { x with checkWait := none } else s
  | none => s

def execBrkCheckRetry (dt : Nat) (s : State) : Res := reply s (s.elapse dt).resCheckRetry

/-- One step of the model of a leg's resistor over 10 µs (R292); the power with a RES_MEAS of 0, which no check has
found, is open. -/
def State.resStep (s : State) (leg : Fin 2) : State :=
  let k := Od.DCL_RES_E_0 + leg
  let d := s.num Od.DCL_CHOP_DUTY
  let r := s.num (Od.DCL_RES_MEAS_0 + leg)
  let e := s.num k
  let p : Rat := if d = 0 then 0 else if r = 0 then Config.freeRat s.fresh else s.vDc * s.vDc * d / r
  let s := if d ≠ 0 ∧ r = 0 then s.draw else s
  let s := s.modDcl fun x => { x with energy := x.energy + p / 100000 }
  s.setQ k (e + (p - e / s.num Od.DCL_RES_TAU_s) / 100000)

/-- RES_WARM: set with event 0x090C at 0.8 × RES_E_MAX, cleared below 0.7 × RES_E_MAX (R292). -/
def State.resWarm (s : State) : State :=
  let m := s.num Od.DCL_RES_E_MAX
  let e0 := s.num Od.DCL_RES_E_0
  let e1 := s.num Od.DCL_RES_E_1
  if s.bit Od.DCL_DCL_STATUS 8 then
    if e0 < 7 / 10 * m ∧ e1 < 7 / 10 * m then s.setBit Od.DCL_DCL_STATUS 8 false else s
  else if 8 / 10 * m ≤ e0 ∨ 8 / 10 * m ≤ e1 then
    let leg := if 8 / 10 * m ≤ e0 then 0 else 1
    ((s.setBit Od.DCL_DCL_STATUS 8 true).event 0x090C (0x0E + leg) s.linkDetail).lastEvent .brk 0x090C
  else s

/-- DV_DT over the last ten updates. -/
def State.linkSlope (s : State) : State :=
  let v := s.vDc
  let h := s.dcl.vHist
  let s := s.setQ Od.DCL_DV_DT (match h[9]? with
    | some v0 => (v - v0) * 10
    | none => s.num Od.DCL_DV_DT)
  s.modDcl fun x => { x with vHist := (v :: h).take 10 }

/-- The update of both legs, 10 µs after the last one, with CHOP_ENERGY_J, RES_WARM and the overtemperature fault (Table 11.2). -/
def State.resUpdate (s : State) : State :=
  if s.tb < s.dcl.resTb + us 10 then s else
  let s := (((s.modDcl fun x => { x with resTb := s.tb }).resStep 0).resStep 1).linkSlope
  let s := (s.setN Od.DCL_CHOP_ENERGY_J s.dcl.energy.floor.toNat).resWarm
  s.each [0, 1] fun (leg : Nat) s =>
    if s.num Od.DCL_RES_E_MAX ≤ s.num (Od.DCL_RES_E_0 + leg) then s.chopperFault (6 + leg) leg else s

def execResistorModelUpdate (dt : Nat) (s : State) : Res := reply s (s.elapse dt).resUpdate

/-! ### AUTO_RUN (R290, R319) -/

def SelfRun.drive : SelfRun → Drive
  | .brk => .brk | .aux => .aux

def SelfRun.key : SelfRun → Nat
  | .brk => Od.BRK_AUTO_RUN | .aux => Od.AUX_AUTO_RUN

/-- AUTO_RUN may be written in any drive state; true in STANDBY ends the owner's hold and arms and runs the drive. -/
def State.autoRunEffect (d : SelfRun) (v : Nat) (s : State) : Except Nat State :=
  refuseIf (2 ≤ v) 0x06090030 <|
  let s := s.setFlag (SelfRun.key d) (v = 1)
  .ok (if v = 1 ∧ s.ds (SelfRun.drive d) = .standby then
    (s.modDrv (SelfRun.drive d) fun x => { x with autoHold := false }).autoArm (SelfRun.drive d)
  else s)

def State.writeAutoRun (s : State) (who : Requester) (d : SelfRun) (v : Nat) : State :=
  s.request who (SelfRun.key d) .service (State.autoRunEffect d v)

def execAutoRunWrite (dt : Nat) (who : Requester) (d : SelfRun) (value : BitVec 8) (s : State) : Res :=
  reply s ((s.elapse dt).writeAutoRun who d value.toNat)

/-! ### Chopper faults (R291) -/

/-- The open-resistor check applies from 450 V, and from 60 V during a discharge. -/
def State.openCheckOn (s : State) : Bool := decide (450 ≤ s.vDc) || (s.dcl.disch.isSome && decide (60 ≤ s.vDc))

/-- Two consecutive on-intervals of a leg with a current below 0.25 × V_DC / RES_OHM 2 µs after turn-on: the fault is found in
the second, the low side being on. -/
def State.openResistor (s : State) (leg : Fin 2) (i1 i2 : Rat) : State :=
  let r := s.num (Od.DCL_RES_OHM_0 + leg)
  let lim := s.vDc / (4 * r)
  let l := legOf (48 + leg)
  if s.openCheckOn ∧ r ≠ 0 ∧ s.switchOn l false ∧ s.lastEdge l + us 2 ≤ s.tb ∧ i1 < lim ∧ i2 < lim then
    s.chopperFault (2 + leg) leg
  else s

def execChopperOpenResistor (dt : Nat) (leg : Fin 2) (i1 i2 : Rat) (s : State) : Res :=
  reply s ((s.elapse dt).openResistor leg i1 i2)

/-- A current above SHORT_I_THR while the low side has been commanded off for 2 µs. -/
def State.shortedSwitch (s : State) (leg : Fin 2) (i : Rat) : State :=
  let l := legOf (48 + leg)
  if s.bringup.islandOn ∧ s.num Od.DCL_SHORT_I_THR < i ∧ ¬ s.switchOn l false ∧ s.lastEdge l + us 2 ≤ s.tb then s.chopperFault (4 + leg) leg else s

def execChopperShortedSwitch (dt : Nat) (leg : Fin 2) (i : Rat) (s : State) : Res :=
  reply s ((s.elapse dt).shortedSwitch leg i)

/-! ### Trips (R293, R294) -/

/-- Table 11.3 step 3, once for each rise of V_DC to FW_TRIP: the traction sets take their state under R176, C11 to C13 go off,
TRA, TRB and CHG to FAULT. -/
def State.fwTrip (s : State) : State :=
  if s.vDc < s.num Od.DCL_FW_TRIP ∨ s.dcl.fwHigh then s
  else
    let ds : List Drive := [.tra, .trb, .chg]
    let s := ((s.setBit Od.DCL_DCL_STATUS 13 true).count ctrFwTrip).modDcl fun x => { x with fwOf := s.notInhibit ds, fwHigh := true }
    s.raise 0x0905 0xFF s.linkDetail ds

def execFirmwareDcLinkTrip (dt : Nat) (s : State) : Res := reply s (s.elapse dt).fwTrip

/-- Two-step turn-off of a switching cell on island T, or ASC where R176 calls for it; a cell in soft turn-off and a set
in ASC stay as they are. -/
def State.hwTurnOff (s : State) (c : Cell) : State :=
  if (s.cell c).heldOff ∨ (s.cell c).mode = .softOff ∨ (s.cell c).mode = .asc then s
  else if c.val < 4 ∧ (s.cell c).supLo ∧ s.ascWanted c then s.enterAsc c
  else if (s.cell c).mode = .switching then s.beginSoftOff c
  else s

/-- The hardware trip acts without firmware: island T's cells, then C09 to C12, then the five drives. -/
def State.hwTrip (s : State) : State :=
  if !s.bringup.islandOn then s else
  let ds : List Drive := [.tra, .trb, .aux, .chg, .brk]
  let s := s.each Link.t.cells fun c s => s.hwTurnOff c
  let s := s.each ([9, 10, 11, 12] : List Cell) fun c s => if (s.cell c).mode = .switching then s.coastCell c else s
  let s := ((s.setBit Od.DCL_DCL_STATUS 14 true).count ctrHwTrip).modDcl fun x => { x with hwOf := s.notInhibit ds }
  (s.dischargeStop 5).raise 0x0906 0xFF s.linkDetail ds

def execHardwareDcLinkTrip (dt : Nat) (s : State) : Res := reply s (s.elapse dt).hwTrip

/-- An accepted ACK of a drive: each of the three latches clears once none of the drives it sent to FAULT is left. -/
def State.ackLinkLatches (s : State) (d : Drive) : State :=
  let s := s.modDcl fun x => { x with
    mismatchOf := x.mismatchOf.filter fun e => e != d
    fwOf := x.fwOf.filter fun e => e != d
    hwOf := x.hwOf.filter fun e => e != d }
  let s := s.when (s.dcl.mismatchOf == []) fun s => s.setBit Od.DCL_DCL_STATUS 1 false
  let s := s.when (s.dcl.fwOf == []) fun s => s.setBit Od.DCL_DCL_STATUS 13 false
  s.when (s.dcl.hwOf == []) fun s => s.setBit Od.DCL_DCL_STATUS 14 false

/-- An ACK of the drive is refused for the DC link's sake (R286, R291, R294). -/
def State.linkForbidsAck (s : State) (d : Drive) : Bool :=
  ((s.dcl.fwOf.contains d || s.dcl.hwOf.contains d) && decide (s.num Od.DCL_REGEN_ZERO ≤ s.vDc)) ||
  ([Drive.tra, .trb, .chg, .brk].contains d && s.bit Od.DCL_DCL_STATUS 1 && s.sensesDiffer) ||
  (d == .brk && decide (s.num Od.DCL_RES_E_MAX / 2 ≤ max (s.num Od.DCL_RES_E_0) (s.num Od.DCL_RES_E_1)))

/-! ### Discharge (R296) -/

/-- TRA, TRB or CHG is ARMED, ACTIVE or STOPPING. -/
def State.linkUsed (s : State) : Bool :=
  [Drive.tra, .trb, .chg].any fun d => s.ds d == .armed || s.ds d == .active || s.ds d == .stopping

/-- The conditions that refuse a discharge; one that already runs, and an asserted torque-off pair, refuse it too. -/
def State.dischargeRefused (s : State) : Bool :=
  s.bit Od.DCL_DCL_STATUS 9 || s.ds .brk == .fault || s.ds .brk == .inhibit || !s.resSet || !(s.link .t).trained ||
  (s.ds .brk == .unavailable && s.dcl.checkFailed) || s.linkUsed ||
  ([0, 1, 2, 3] : List Nat).any (fun n => decide (50 ≤ s.num (Od.AX_BEMF_LL_PK n))) || s.dcl.disch.isSome ||
  (s.drv .brk).tqo || (s.drv .brk).tqoLink

/-- Step 1 of Table 11.6: the legs go on at once while BRK runs; an armed BRK runs; otherwise C14 is armed first. -/
def State.dischargeBegin (s : State) : State :=
  let s := ((s.count ctrDischarge).setN Od.DCL_DISCH_STATE 1).setBit Od.DCL_DCL_STATUS 15 true
  let s := s.modDcl fun x => { x with
    disch := some s.tb, dischV0 := s.vDc, dischOn := false, dischAlone := s.ds .brk = .unavailable }
  match s.ds .brk with
  | .active => s.dischargeOn
  | .armed => (s.runBrk 0xFF).dischargeOn
  | _ => if (s.drv .brk).arming = .none then s.startArming .brk .discharge
    else s.modDrv .brk fun x => { x with arming := .discharge }

/-- DISCHARGE_CMD: the owner of BRK or Pyreri; 1 starts, 0 ends. -/
def State.dischargeEffect (who : Requester) (v : Nat) (s : State) : Except Nat State :=
  refuseIf (2 ≤ v) 0x06090030 <|
  refuseIf (who != .pyreri && !s.owns who .brk) 0x08000022 <|
  if v = 1 then refuseIf s.dischargeRefused 0x08000022 (.ok s.dischargeBegin) else .ok (s.dischargeStop 5)

def State.writeDischarge (s : State) (who : Requester) (v : Nat) : State :=
  s.request who Od.DCL_DISCHARGE_CMD .operator (State.dischargeEffect who v)

def execDischargeStart (dt : Nat) (who : Requester) (s : State) : Res := reply s ((s.elapse dt).writeDischarge who 1)
def execDischargeEnd (dt : Nat) (who : Requester) (s : State) : Res := reply s ((s.elapse dt).writeDischarge who 0)

/-- A time of the running discharge has come, its legs being on. -/
def State.dischargeAt (s : State) (t : Nat) : Bool :=
  match s.dcl.disch with
  | some t0 => s.dcl.dischOn && decide (t0 + t ≤ s.tb)
  | none => false

/-- Step 2 of Table 11.6. -/
def State.dischargeSupplied (s : State) : State :=
  if s.dischargeAt (ms 50) ∧ s.dcl.dischV0 / 2 < s.vDc then
    let s := s.dischargeStop 3
    (s.event 0x090A 0xFF s.linkDetail).lastEvent .brk 0x090A
  else s

def execDischargeLinkSupplied (dt : Nat) (s : State) : Res := reply s (s.elapse dt).dischargeSupplied

/-- Step 3 of Table 11.6: below 20 V the discharge is done. -/
def State.dischargeDone (s : State) : State :=
  if s.dischargeAt 0 ∧ s.vDc < 20 then
    let s := (s.setN Od.DCL_DISCH_TIME_ms (min ((s.tb - s.dcl.disch.getD 0) / 100000) 65535)).dischargeStop 2
    (s.event 0x0909 0xFF s.linkDetail).lastEvent .brk 0x0909
  else s

def execDischargeComplete (dt : Nat) (s : State) : Res := reply s (s.elapse dt).dischargeDone

/-- Step 4 of Table 11.6. -/
def State.dischargeLate (s : State) : State :=
  if s.dischargeAt (sec 3) ∧ 60 ≤ s.vDc then
    let s := s.dischargeStop 4
    s.raise 0x090B 0xFF s.linkDetail [.brk]
  else s

def execDischargeTimeout (dt : Nat) (s : State) : Res := reply s (s.elapse dt).dischargeLate

end Sys2Proof.Machine
end

