-- ==== Sys2Proof/Machine/CanBase.lean ====
section
/-! DEFINITION. CAN transmission from slots and FIFO, the causes that keep a channel off-line, and the global time (R450,
R453, R456, R458, R459): what other chapters' functions use of chapter 18. -/
namespace Sys2Proof.Machine

def State.chan (s : State) (c : Fin 4) : ChanSt := s.chans.get c
def State.modChan (s : State) (c : Fin 4) (f : ChanSt → ChanSt) : State := { s with chans := upd s.chans c f }
def State.slot (s : State) (c : Fin 4) (i : Fin 16) : SlotSt := (s.chan c).slots.get i
def State.modSlot (s : State) (c : Fin 4) (i : Fin 16) (f : SlotSt → SlotSt) : State :=
  s.modChan c fun x => { x with slots := upd x.slots i f }

/-- A counter of a channel with its bit of CAN_CNT_STATUS (Table 18.8). -/
def ctrCan (key : Nat → Nat) (width bit : Nat) (c : Fin 4) : Counter :=
  ⟨key c, width, Od.CAN_CAN_CNT_STATUS c, bit, 0x0F⟩

/-- TEC in [7:0], REC in [15:8] and a number in [23:16] of a detail field (R472). -/
def State.canDetail (s : State) (c : Fin 4) (n : Nat) : Nat :=
  min (s.chan c).tec 255 + 256 * min (s.chan c).rxErr 255 + 65536 * n

def State.canEvent (s : State) (code : Nat) (c : Fin 4) (n : Nat) : State := s.event code (0xF0 + c.val) (s.canDetail c n)

/-- A cause keeps the channel off-line (R458). -/
def State.offCause (s : State) (c : Fin 4) : Bool :=
  !s.bit (Od.CAN_CH_CTRL c) 0 || (!s.dictUp && !(c == 3 && s.diagOnly)) || (s.chan c).clockHold

/-- FD frames are sent: FD_EN, which CAN-A never has (R447, R448). -/
def State.fdOn (s : State) (c : Fin 4) : Bool := c != 0 && s.bit (Od.CAN_CH_CTRL c) 2

/-- The nominal and the data rate in force, in kbit/s, 0 without bit-rate switch: CAN-D's on the diagnostic path are 500 and 0,
whatever is stored (R56, R59, R448). -/
def State.canRates (s : State) (c : Fin 4) : Nat × Nat :=
  if c = 3 ∧ s.diagOnly then (500, 0) else (s.nat (Od.CAN_NOM_kbps c), s.nat (Od.CAN_DATA_kbps c))

/-- Ticks of a number of nominal bit times. -/
def State.canBits (s : State) (c : Fin 4) (n : Nat) : Nat := n * 100000 / (s.canRates c).1

/-- Since when no cause has kept the channel off-line: it integrates from then on (R458). -/
def State.trackFree (s : State) (c : Fin 4) (t : Nat) : State :=
  s.modChan c fun x => { x with
    freeTb := if s.offCause c || (s.chan c).online then none else some (x.freeTb.getD t) }

/-- Arbitration order of identifiers: the base identifier first, the 11-bit format before the 29-bit one. -/
def canPrio (m : CanMsg) : Nat := if m.ide then 2 * m.ident + 1 else 2 ^ 19 * m.ident

/-- The message of a slot is dropped as stale (R453). -/
def State.dropStale (s : State) (c : Fin 4) (i : Fin 16) : State :=
  let s := (s.count (ctrCan Od.CAN_STALE_DROPS 16 5 c)).canEvent 0x0F06 c i.val
  s.modSlot c i fun x => { x with msg := none, deadline := none, held := false }

/-- A waiting message whose stale deadline has passed. -/
def SlotSt.isStale (x : SlotSt) (tb : Nat) : Bool :=
  x.msg.isSome && match x.deadline with
    | some d => decide (d < tb)
    | none => false

/-- The better of two offers, as (held back, arbitration order, slot). -/
def betterOffer (a : Option (Nat × Nat × Nat)) (b : Nat × Nat × Nat) : Option (Nat × Nat × Nat) :=
  match a with
  | none => some b
  | some a => if b.1 < a.1 ∨ (b.1 = a.1 ∧ b.2.1 < a.2.1) then some b else some a

/-- The waiting message that R453 puts first: urgent slots held through a bus-off, then the lowest identifier of slots and
FIFO head (number 16). -/
def State.bestOffer (s : State) (c : Fin 4) : Option Nat :=
  let slots := (List.finRange 16).foldl (fun (a : Option (Nat × Nat × Nat)) i =>
    match (s.slot c i).msg with
    | none => a
    | some m => betterOffer a (if (s.slot c i).held then 0 else 1, canPrio m, i.val)) none
  let all := match (s.chan c).fifo with
    | [] => slots
    | m :: _ => betterOffer slots (1, canPrio m, 16)
  all.map fun (b : Nat × Nat × Nat) => b.2.2

/-- An arbitration: stale messages are dropped, and the best of the others is offered (R453); nothing is offered off-line,
in bus-off and while RESTRICTED (R456 to R458). -/
def State.arbitrate (s : State) (c : Fin 4) : State :=
  let s := s.each (List.finRange 16) fun i s => if (s.slot c i).isStale s.tb then s.dropStale c i else s
  let x := s.chan c
  if !x.online || x.busOff || x.restricted || s.offCause c then s.modChan c fun x => { x with onBus := none }
  else s.modChan c fun x => { x with onBus := s.bestOffer c }

/-- A new message is offered when none is. -/
def State.offer (s : State) (c : Fin 4) : State := if (s.chan c).onBus.isNone then s.arbitrate c else s

/-- A write of a slot (R453): refused and counted while its message waits; a channel that is off-line takes nothing
(DESIGN CHOICE, assumption 31). -/
def State.slotWrite (s : State) (c : Fin 4) (i : Fin 16) (m : CanMsg) (staleUs : Nat) : State :=
  if s.offCause c then s
  else if (s.slot c i).msg.isSome then s.count (ctrCan Od.CAN_SLOT_REFUSALS 32 6 c)
  else (s.modSlot c i fun x => { x with
    msg := some m, held := false, staleUs := staleUs
    deadline := if staleUs = 0 then none else some (s.tb + us staleUs) }).offer c

/-- One frame into the transmit FIFO of 32; a full FIFO refuses it. -/
def State.fifoWrite (s : State) (c : Fin 4) (m : CanMsg) : Option State :=
  if s.offCause c ∨ 32 ≤ (s.chan c).fifo.length then none
  else some ((s.modChan c fun x => { x with fifo := x.fifo ++ [m] }).offer c)

/-- A list without the first element that satisfies a condition. -/
def takeFirst {α : Type} (p : α → Bool) : List α → List α
  | [] => []
  | x :: l => if p x then l else x :: takeFirst p l

/-- A function takes its oldest frame from the channel's receive queues (R451). -/
def State.rxTake (s : State) (c : Fin 4) (p : RxEntry → Bool) : State :=
  s.modChan c fun x =>
    if x.rxq0.any p then { x with rxq0 := takeFirst p x.rxq0 } else { x with rxq1 := takeFirst p x.rxq1 }

def State.rxTakeId (s : State) (c : Fin 4) (ident : Nat) (ide : Bool) : State :=
  s.rxTake c fun e => e.msg.ident == ident && e.msg.ide == ide

/-! ### Global time (R459) -/

/-- GT in 10 ns ticks. -/
def State.gt (s : State) : Nat := ((s.tb + s.time.offset : Int) % 2 ^ 64).toNat
def State.gt10us (s : State) : Nat := s.gt / 1000 % 2 ^ 32

end Sys2Proof.Machine
end

