-- ==== Sys2Proof/Machine/Gearbox.lean ====
section
/-! DEFINITION. Chapter 10: the axle manager, the shift sequencer, the solenoid channels, the park locks and gear state
recovery (R257 to R279). -/
namespace Sys2Proof.Machine

def ctrTransfers : Counter := ⟨Od.AXLE_TRANSFERS, 32, Od.AXLE_AXLE_CNT_STATUS, 0, 8⟩
def ctrModeChanges : Counter := ⟨Od.AXLE_MODE_CHANGES, 16, Od.AXLE_AXLE_CNT_STATUS, 2, 8⟩
def ctrShifts (t : Nat) : Counter := ⟨Od.SHF_SHIFTS t, 32, Od.SHF_SHIFT_CNT_STATUS, 2 * t, 8⟩
def ctrParkOps (t : Nat) : Counter := ⟨Od.PRK_PARK_OPS t, 32, Od.PRK_PARK_CNT_STATUS t, 0, 8⟩
def ctrParkFails (t : Nat) : Counter := ⟨Od.PRK_PARK_FAILS t, 16, Od.PRK_PARK_CNT_STATUS t, 1, 8⟩

def sides : List (Fin 2) := [0, 1]

/-- A GBX event of a side or of the drive. -/
def State.gbxEvent (s : State) (code source detail : Nat) : State := (s.event code source detail).lastEvent .gbx code

/-! ### Output speed (R268) -/

/-- The side is in a gear, or still in its old gear in step 1 of a shift: the gear state and its ratio. -/
def State.inGear (s : State) (t : Fin 2) : Option Rat :=
  let g := if s.gear t = 5 ∧ s.shiftStep t = 1 then (s.side t).oldGear else s.gear t
  let r := if g = 3 then s.num (Od.SHF_RATIO_1 t) else if g = 4 then s.num (Od.SHF_RATIO_2 t) else 0
  if r = 0 then none else some r

/-- The in-gear output speeds of the last 20 ms, newest first. -/
def State.recentSpeeds (s : State) (t : Fin 2) : List (Nat × Rat) :=
  (s.side t).speeds.filter fun e => decide (s.tb ≤ e.1 + ms 20)

/-- Mean of output speeds. -/
def meanSpeed (l : List (Nat × Rat)) : Rat := if l = [] then 0 else (l.map (·.2)).sum / l.length

/-- The output speed in use, where it is known. -/
def State.outSpeed (s : State) (t : Fin 2) : Option Rat :=
  let x := s.side t
  if s.park t = 1 then some 0
  else match s.nat (Od.SHF_OUT_SPEED_SRC t) with
    | 1 => if s.pifService (2 * t.val + 1) = 2 then some (s.num (Od.PIF_SPEED (2 * t.val + 1))) else none
    | 2 => match x.hostTb with
      | some h => if s.tb ≤ h + ms 50 then some (s.num (Od.SHF_OUT_SPEED t)) else none
      | none => none
    | _ => match x.outBase with
      | some b => some (b + x.outAccel * (s.tb - x.outTb : Nat) / 100000000)
      | none => if (s.inGear t).isSome ∧ s.recentSpeeds t ≠ [] then some (meanSpeed (s.recentSpeeds t)) else none

/-- At an instance the estimate takes one more in-gear sample, of 20 ms at most. -/
def State.noteOutSpeed (s : State) (t : Fin 2) : State :=
  s.modSide t fun x => { x with speeds := match s.inGear t with
    | some r => (s.tb, s.driveSpeed t / r) :: s.recentSpeeds t
    | none => [] }

/-- Change of output speed per second over a list of samples, newest first. -/
def outSlope : List (Nat × Rat) → Rat
  | [] => 0
  | e :: l =>
    let old := l.getLastD e
    if e.1 = old.1 then 0 else (e.2 - old.2) * 100000000 / (e.1 - old.1 : Nat)

/-- Step 2 begins: the last in-gear value and the acceleration over the 20 ms before it are kept for extrapolation. -/
def State.keepOutSpeed (s : State) (t : Fin 2) : State :=
  let l := s.recentSpeeds t
  if l = [] then s
  else s.modSide t fun x => { x with outBase := some (meanSpeed l), outAccel := outSlope l, outTb := s.tb }

/-! ### Shifts (R267 to R270) -/

/-- Gear state that a SHIFT_CMD code names. -/
def targetGear (v : Nat) : Nat := v + 2
def State.targetRatio (s : State) (t v : Nat) : Rat :=
  if v = 1 then s.num (Od.SHF_RATIO_1 t) else if v = 2 then s.num (Od.SHF_RATIO_2 t) else 0

/-- The first cause of R267 that refuses a shift of the side to a target; 0 none. -/
def State.shiftRefusal (s : State) (t : Fin 2) (v : Nat) : Nat :=
  let d := sideDrive t
  let drvOk := s.ds d == .active || ((s.ds d == .standby || s.ds d == .armed) && decide (|s.num (Od.TR_SPEED t)| ≤ 20) &&
    s.park t == 1)
  let out := s.outSpeed t
  if !s.gbxActive then 1
  else if s.gear t < 2 ∨ 4 < s.gear t then 2
  else if s.shifting t then 3
  else if !drvOk then 4
  else if out.isNone then 5
  else if s.num Od.SHF_SYNC_SPEED_MAX < |out.getD 0 * s.targetRatio t v| then 6
  else if s.ds d = .active ∧ (s.nat (Od.LU_SECTIONS (2 * t.val)) = 0 ∨ ¬ s.luServes (2 * t.val)) then 7
  else if s.num (Od.SHF_RATIO_1 t) = 0 ∨ s.num (Od.SHF_RATIO_2 t) = 0 ∨
      (s.int (Od.SHF_POS_N t) = 0 ∧ s.int (Od.SHF_POS_G1 t) = 0 ∧ s.int (Od.SHF_POS_G2 t) = 0) then 8
  else 0

/-- A step of Table 10.4 begins. -/
def State.shiftTo (s : State) (t : Fin 2) (step : Nat) : State :=
  (s.setN (Od.SHF_SHIFT_STEP t) step).modSide t fun x => { x with
    stepTb := s.tb, okSince := none }

/-- Step 1: the side is SHIFTING and its AXLE limit moves to 0 at max(SHIFT_SLEW, |TQ_RAMP| / 45 ms). -/
def State.shiftStart (s : State) (t : Fin 2) (v : Nat) : State :=
  let slew := max (s.num Od.SHF_SHIFT_SLEW) (|s.num (Od.TR_TQ_RAMP t)| * 1000 / 45)
  let s := s.modSide t fun x => { x with
    target := v, oldGear := s.gear t, t0 := s.tb, retries := 0, offset := 0, slew := some slew, outBase := none }
  (s.setGear t 5).shiftTo t 1

/-- A shift of one side waits while the other side shifts; the present gear asks for nothing. -/
def State.shiftAccept (s : State) (t : Fin 2) (v : Nat) : State :=
  let s := s.setN (Od.SHF_SHIFT_CMD t) v
  if s.gear t = targetGear v ∧ ¬ s.shifting t then s.when (s.shiftStep t = 7) fun s => s.setN (Od.SHF_SHIFT_STEP t) 0
  else if s.shifting (otherSide t).val then
    (s.setN (Od.SHF_SHIFT_STEP t) 7).modSide t fun x => { x with target := v }
  else s.shiftStart t v

/-- The write equals the present gear. -/
def State.sameGear (s : State) (t : Fin 2) (v : Nat) : Bool := s.gear t == targetGear v && !s.shifting t

def State.shiftEffect (who : Requester) (t : Fin 2) (v : Nat) (s : State) : Except Nat State :=
  refuseIf (2 < v) 0x06090030 <|
  refuseIf (!s.owns who .gbx) 0x08000022 <|
  refuseIf (!s.sameGear t v && s.shiftRefusal t v != 0) 0x08000022 (.ok (s.shiftAccept t v))

/-- A refused shift leaves its cause in LAST_REFUSAL (R267). -/
def State.noteRefusal (s : State) (who : Requester) (t : Fin 2) (v : Nat) : State :=
  if s.dictUp ∧ ¬ s.diagOnly ∧ v ≤ 2 ∧ s.owns who .gbx ∧ ¬ s.sameGear t v ∧ s.shiftRefusal t v ≠ 0 then
    s.setN Od.SHF_LAST_REFUSAL (s.shiftRefusal t v)
  else s

def State.writeShift (s : State) (who : Requester) (t : Fin 2) (v : Nat) : State :=
  (s.noteRefusal who t v).request who (Od.SHF_SHIFT_CMD t) .operator (State.shiftEffect who t v)

def execShiftCmdWrite (dt : Nat) (who : Requester) (t : Fin 2) (value : BitVec 8) (s : State) : Res :=
  reply s ((s.elapse dt).writeShift who t value.toNat)

/-- The fork lies within a window of a position. -/
def State.forkAt (s : State) (t : Fin 2) (pos : Int) (win : Nat) : Bool :=
  decide ((s.actPos (forkOf t) - pos).natAbs ≤ win)

/-- Position and window of a gear state. -/
def State.gearWin (s : State) (t g : Nat) : Nat := if g = 2 then s.nat (Od.SHF_NEUTRAL_WIN t) else s.nat (Od.SHF_GEAR_WIN t)

/-- The synchronising reference: OUT_SPEED × RATIO of the target + SYNC_OFFSET. -/
def State.syncRef (s : State) (t : Fin 2) : Rat :=
  (s.outSpeed t).getD 0 * s.targetRatio t (s.side t).target + (s.side t).offset

/-- Whether a condition has held since a time long enough; the time is kept while it holds. -/
def State.holdFor (s : State) (t : Fin 2) (ok : Bool) (ticks : Nat) : State × Bool :=
  if ok then
    let since := ((s.side t).okSince).getD s.tb
    (s.modSide t fun x => { x with okSince := some since }, decide (since + ticks ≤ s.tb))
  else (s.modSide t fun x => { x with okSince := none }, false)

/-- An actuator has not moved for a time, counted from a start at the earliest. -/
def State.stalled (s : State) (a : Fin 4) (start ticks : Nat) : Bool :=
  decide (max (s.pif (actPif a)).moveTb start + ticks ≤ s.tb)

/-- The fork moves to a position: its record is MOVING and its loop is engaged. -/
def State.moveFork (s : State) (t : Fin 2) (pos : Int) : State :=
  ((s.startMove (forkOf t)).setRef (forkOf t) pos).engageActuator (forkOf t)

/-- The speed loop of a side takes a reference, unless its unit is reassigned (R221). -/
def State.setSpeedRef (s : State) (t : Fin 2) (q : Rat) : State :=
  s.when (s.luServes (2 * t.val)) fun s => s.setQ (Od.LU_REF (2 * t.val)) q

/-- Step 3 begins: the AXLE limit is lifted at once and the ramp takes its target from the speed loop. -/
def State.shiftSync (s : State) (t : Fin 2) : State :=
  let s := (s.shiftTo t 3).modSide t fun x => { x with slew := none }
  let s := (s.modTr t fun x => { x with speedCtl := true }).setSpeedRef t (s.syncRef t)
  s.moveLimit t

/-- Step 4 begins. -/
def State.shiftEngage (s : State) (t : Fin 2) : State :=
  ((s.shiftTo t 4).moveFork t (s.gearPos t (targetGear (s.side t).target))).moveLimit t

/-- A blocked engagement: back to neutral and once more with +15, then −15 rpm; after the second retry the shift ends in
neutral (Table 10.5). -/
def State.shiftBlocked (s : State) (t : Fin 2) : State :=
  let s := s.moveFork t (s.int (Od.SHF_POS_N t))
  let k := (s.side t).retries
  if k < 2 then
    (s.modSide t fun x => { x with retries := k + 1, offset := if k = 0 then 15 else -15 }).shiftSync t
  else s.shiftFail t 2 0x0806

/-- Step 5 has confirmed: the record is written, the actuator coasts and step 6 restores the torque. -/
def State.shiftConfirmed (s : State) (t : Fin 2) : State :=
  let g := targetGear (s.side t).target
  let s := ((s.confirm (forkOf t) g).coastActuator (forkOf t)).setGear t g
  let s := (s.modTr t fun x => { x with speedCtl := false }).modSide t fun x => { x with offset := 0, outBase := none, slew := none }
  s.shiftTo t 6

/-- The torque is restored: the AXLE limit no longer holds the drive back. -/
def State.torqueRestored (s : State) (t : Fin 2) : Bool :=
  let k := s.num (Od.AXLE_LIMIT_AXLE_A + t)
  s.ds (sideDrive t) != .active || k == s.axleTarget t ||
  (decide (|s.num (Od.TR_TQ_SET t)| ≤ k) && !(s.axleMode != 0 && s.bit Od.AXLE_AXLE_STATUS (4 + t)))

/-- The shift has ended: counted, timed and logged. -/
def State.shiftDone (s : State) (t : Fin 2) : State :=
  let s := (s.count (ctrShifts t)).setN (Od.SHF_SHIFT_TIME_ms t) (min ((s.tb - (s.side t).t0) / 100000) 65535)
  ((s.event 0x0804 (sideDrive t).num (s.shiftDetail t)).lastEvent .gbx 0x0804).shiftIdle t

/-- The condition of the running step is evaluated (Table 10.4). -/
def State.shiftAdvance (s : State) (t : Fin 2) : State :=
  let x := s.side t
  let posN := s.int (Od.SHF_POS_N t)
  let tol := s.num Od.SHF_SYNC_TOL
  match s.shiftStep t with
  | 1 =>
    let r := s.holdFor t (decide (|s.num (Od.TR_TQ_ACT t)| ≤ s.num Od.SHF_ZERO_TQ_TOL)) (ms 2)
    if r.2 then ((r.1.keepOutSpeed t).shiftTo t 2).moveFork t posN else r.1
  | 2 =>
    let r := s.holdFor t (s.forkAt t posN (s.nat (Od.SHF_NEUTRAL_WIN t))) (ms 5)
    if r.2 then (if x.target = 0 then r.1.shiftTo t 5 else r.1.shiftSync t) else r.1
  | 3 =>
    let s := s.setSpeedRef t (s.syncRef t)
    let r := s.holdFor t (decide (|s.driveSpeed t - s.syncRef t| ≤ tol)) (ms 10)
    if r.2 then r.1.shiftEngage t else r.1
  | 4 =>
    let s := s.setSpeedRef t (s.syncRef t)
    if s.forkAt t (s.gearPos t (targetGear x.target)) (s.nat (Od.SHF_GEAR_WIN t)) then s.shiftTo t 5
    else if s.stalled (forkOf t) x.stepTb (ms 10) then s.shiftBlocked t else s
  | 5 =>
    let g := targetGear x.target
    let speedOk := x.target == 0 || decide (|s.driveSpeed t - (s.outSpeed t).getD 0 * s.targetRatio t x.target| ≤ tol)
    let r := s.holdFor t (s.forkAt t (s.gearPos t g) (s.gearWin t g)) (ms 10)
    if r.2 && speedOk then r.1.shiftConfirmed t else r.1
  | 6 => if s.torqueRestored t then s.shiftDone t else s
  | _ => s

/-- A fork that returns after a failed shift is confirmed where it rests for 10 ms. -/
def State.forkSettle (s : State) (t : Fin 2) : State :=
  let g := s.gear t
  if s.shiftStep t = 0 ∧ (s.record (forkOf t)).moving ∧ 2 ≤ g ∧ g ≤ 4 then
    let r := s.holdFor t (s.forkAt t (s.gearPos t g) (s.gearWin t g)) (ms 10)
    if r.2 then ((r.1.confirm (forkOf t) g).coastActuator (forkOf t)).modSide t fun x => { x with okSince := none } else r.1
  else s

/-- A pending shift starts when the other side's shift has ended. -/
def State.shiftPending (s : State) (t : Fin 2) : State :=
  if s.shiftStep t = 7 ∧ ¬ s.shifting (otherSide t).val then
    if s.gear t = targetGear (s.side t).target then s.setN (Od.SHF_SHIFT_STEP t) 0 else s.shiftStart t (s.side t).target
  else s

/-- Time limits of the steps in ms. -/
def stepLimit (n : Nat) : Nat := match n with | 1 => 50 | 2 => 70 | 3 => 180 | 4 => 70 | 5 => 20 | _ => 60

/-- A step has reached its limit (R270, Table 10.5). -/
def State.shiftLimit (s : State) (t : Fin 2) : State :=
  if s.shifting t ∧ (s.side t).stepTb + ms (stepLimit (s.shiftStep t)) ≤ s.tb then
    let old := (s.side t).oldGear
    match s.shiftStep t with
    | 1 => s.shiftFail t old 0x0805
    | 2 => (s.moveFork t (s.gearPos t old)).shiftFail t old 0x0805
    | 3 => s.shiftFail t 2 0x0806
    | 4 => s.shiftBlocked t
    | 5 => (s.moveFork t (s.int (Od.SHF_POS_N t))).shiftFail t 2 0x0807
    | _ => s.shiftDone t
  else s

def execShiftStepLimit (dt : Nat) (t : Fin 2) (s : State) : Res := reply s ((s.elapse dt).shiftLimit t)

/-- OUT_SPEED is written by the owner with source 2 (Table 10.17). -/
def State.outSpeedEffect (who : Requester) (t : Fin 2) (q : Rat) (s : State) : Except Nat State :=
  refuseIf (!s.owns who .gbx || s.nat (Od.SHF_OUT_SPEED_SRC t) != 2) 0x08000022 <|
  .ok ((s.setQ (Od.SHF_OUT_SPEED t) q).modSide t fun x => { x with hostTb := some s.tb })

/-! ### Axle manager (R257 to R264) -/

/-- TRA and TRB are owned by the requester. -/
def State.ownsAxle (s : State) (who : Requester) : Bool := s.owns who .tra && s.owns who .trb

def State.ratiosSet (s : State) : Bool :=
  sides.all fun t => s.num (Od.SHF_RATIO_1 t) != 0 && s.num (Od.SHF_RATIO_2 t) != 0

def State.anyShift (s : State) : Bool := s.shifting 0 || s.shifting 1

/-- DIRECTION of both drives follows AXLE_DIRECTION, inverted for TRB with MIRROR_B (R258). -/
def State.axleDirection (s : State) : State :=
  let v := s.nat Od.AXLE_AXLE_DIRECTION
  (s.setDirection 0 v).setDirection 1 (if s.bit Od.AXLE_AXLE_CTRL 1 then 3 - v else v)

/-- A mode takes effect: counted and logged (R259). -/
def State.axleModeNow (s : State) (m : Nat) : State :=
  let s := (s.setBit Od.AXLE_AXLE_STATUS 7 false).setField Od.AXLE_AXLE_STATUS 0 2 m
  let s := ({ s with gbx := { s.gbx with modeWait := none } }).count ctrModeChanges
  let s := s.event 0x0810 2 m
  if m = 0 then
    let s := ((s.setQ Od.AXLE_WHEEL_TQ_A 0).setQ Od.AXLE_WHEEL_TQ_B 0).setShortfall 0 0
    (s.setBit Od.AXLE_AXLE_STATUS 4 false).setBit Od.AXLE_AXLE_STATUS 5 false
  else s.axleDirection

/-- AXLE_MODE (R259): modes 1 to 3 need one owner and all ratios; to and from mode 0 only while neither drive is ACTIVE
or STOPPING; a change among modes 1 to 3 waits for the first instance after a shift. -/
def State.axleModeEffect (who : Requester) (v : Nat) (s : State) : Except Nat State :=
  let runs := [Drive.tra, .trb].any fun d => s.ds d == .active || s.ds d == .stopping
  refuseIf (3 < v) 0x06090030 <|
  refuseIf (!s.ownsAxle who || (v != 0 && !s.ratiosSet)) 0x08000022 <|
  refuseIf ((v == 0) != (s.axleMode == 0) && runs) 0x08000022 <|
  let s := s.setN Od.AXLE_AXLE_MODE v
  .ok (if v = s.axleMode then ({ s with gbx := { s.gbx with modeWait := none } }).setBit Od.AXLE_AXLE_STATUS 7 false
    else if v = 0 ∨ s.axleMode = 0 then s.axleModeNow v
    else ({ s with gbx := { s.gbx with modeWait := some v } }).setBit Od.AXLE_AXLE_STATUS 7 true)

def State.writeAxleMode (s : State) (who : Requester) (v : Nat) : State :=
  s.request who Od.AXLE_AXLE_MODE .operator (State.axleModeEffect who v)

def execAxleModeWrite (dt : Nat) (who : Requester) (value : BitVec 8) (s : State) : Res :=
  reply s ((s.elapse dt).writeAxleMode who value.toNat)

/-- AXLE_TQ_SET and YAW_TQ_SET are written by the owner of both drives (R259). -/
def State.writeAxleTorque (s : State) (who : Requester) (key : Nat) (value : BitVec 32) : State :=
  s.request who key .operator fun s =>
    match f32Decode value with
    | none => .error 0x06090030
    | some q => refuseIf (!s.ownsAxle who) 0x08000022 (.ok (s.setQ key q))

def execAxleTqSetWrite (dt : Nat) (who : Requester) (value : BitVec 32) (s : State) : Res :=
  reply s ((s.elapse dt).writeAxleTorque who Od.AXLE_AXLE_TQ_SET value)

def execYawTqSetWrite (dt : Nat) (who : Requester) (value : BitVec 32) (s : State) : Res :=
  reply s ((s.elapse dt).writeAxleTorque who Od.AXLE_YAW_TQ_SET value)

/-- A shift runs in steps 1 to 5 on some side. -/
def State.shiftHoldsDirection (s : State) : Bool := sides.any fun t => 1 ≤ s.shiftStep t && s.shiftStep t ≤ 5

/-- AXLE_DIRECTION: in modes 1 to 3 both drives reverse together, after a shift that runs (R258, R279). -/
def State.axleDirectionEffect (who : Requester) (v : Nat) (s : State) : Except Nat State :=
  refuseIf (v != 1 && v != 2) 0x06090030 <|
  refuseIf (!s.ownsAxle who) 0x08000022 <|
  let s := s.setN Od.AXLE_AXLE_DIRECTION v
  .ok (if s.axleMode = 0 then s
    else if s.shiftHoldsDirection then { s with gbx := { s.gbx with dirWait := true } }
    else s.axleDirection)

def State.writeAxleDirection (s : State) (who : Requester) (v : Nat) : State :=
  s.request who Od.AXLE_AXLE_DIRECTION .operator (State.axleDirectionEffect who v)

def execAxleDirectionWrite (dt : Nat) (who : Requester) (value : BitVec 8) (s : State) : Res :=
  reply s ((s.elapse dt).writeAxleDirection who value.toNat)

/-- Wheel limits of a side, upper and lower: RATIO times the motor limits in force; 0 while the side shifts in steps 2 to
5; in ONE_SET the healthy set's limit bounds them too (R262, R269). -/
def State.wheelLimits (s : State) (t : Fin 2) : Rat × Rat :=
  match s.inGear t with
  | none => (0, 0)
  | some r =>
    let l := s.tqLimits t
    let b := s.rampBounds t l.1 l.2.1
    if s.oneSet t then
      let m := (s.liveSets t).foldl (fun a n => a + s.num (Od.OBS_SET_TQ_MAX_ACT n)) 0
      (r * min b.1 m, r * max b.2 (-m))
    else (r * b.1, r * b.2)

/-- n_A or n_B: drive-frame speed over RATIO; 0 while not in a gear. -/
def State.wheelSpeed (s : State) (t : Fin 2) : Rat := if s.ratio t = 0 then 0 else s.driveSpeed t / s.ratio t

/-- T_A and T_B (Table 10.1, R260, R261). -/
def State.wheelTargets (s : State) : Rat × Rat :=
  let q := s.num Od.AXLE_AXLE_TQ_SET
  let y := s.num Od.AXLE_YAW_TQ_SET
  match s.axleMode with
  | 1 => (q / 2, q / 2)
  | 2 =>
    let lock := s.num Od.AXLE_LOCK_TQ_MAX
    let geared := s.ratio 0 != 0 && s.ratio 1 != 0
    let d := if geared then clampQ (-lock) lock (s.num Od.AXLE_SLIP_GAIN * (s.wheelSpeed 0 - s.wheelSpeed 1)) else 0
    (q / 2 - d, q / 2 + d)
  | 3 => ((q - y) / 2, (q + y) / 2)
  | _ => (0, 0)

/-- One side takes a deficit of the other, with the deficit's sign, within its own limits: the new torque and what is
left. -/
def takeDeficit (limits : Rat × Rat) (own deficit : Rat) : Rat × Rat :=
  let q := clampQ limits.2 limits.1 (own + deficit)
  let taken := if 0 < deficit then max 0 (q - own) else if deficit < 0 then min 0 (q - own) else 0
  (own + taken, deficit - taken)

/-- TQ_SET of a drive as the axle manager writes it; discarded under a torque-off (R159), and while SS1 locks it. -/
def State.axleTqSet (s : State) (t : Fin 2) (wheel : Rat) : State :=
  let r := (s.inGear t).getD 0
  let q := if r = 0 then 0 else wheel / r
  if ((s.drv (sideDrive t)).tqoTb.any fun b => sameDecision b s.tb) ∨ s.ss1Locks t then s else s.setQ (Od.TR_TQ_SET t) q

/-- Limits, transfer and shortfall of modes 1 to 3 (R262): where one side is clamped, the other takes its deficit. -/
def State.axleTorques (s : State) : State :=
  let w0 := s.wheelLimits 0
  let w1 := s.wheelLimits 1
  let tg := s.wheelTargets
  let a := clampQ w0.2 w0.1 tg.1
  let b := clampQ w1.2 w1.1 tg.2
  let da := tg.1 - a
  let db := tg.2 - b
  let transfer := s.bit Od.AXLE_AXLE_CTRL 0 && ((da == 0) != (db == 0))
  let rb := if transfer then takeDeficit w1 b da else (b, da)
  let ra := if transfer then takeDeficit w0 a db else (a, db)
  let s := s.when (decide (rb.1 ≠ b ∨ ra.1 ≠ a)) fun s => s.count ctrTransfers
  let s := (s.setBit Od.AXLE_AXLE_STATUS 4 (da != 0 || ra.2 != 0)).setBit Od.AXLE_AXLE_STATUS 5 (db != 0 || rb.2 != 0)
  let s := (s.setQ Od.AXLE_WHEEL_TQ_A ra.1).setQ Od.AXLE_WHEEL_TQ_B rb.1
  let s := s.setShortfall (if rb.2 ≠ 0 then 0 else 1) (|rb.2| + |ra.2|)
  (s.axleTqSet 0 ra.1).axleTqSet 1 rb.1

/-- An instance of the axle manager (R257, R263): the crossfeed it replaces ends, limits move, a waiting mode or
direction takes effect after a shift, and in modes 1 to 3 both torques are written. -/
def State.axleInstance (s : State) : State :=
  let s := s.each sides fun t s => (s.modTr t fun x => { x with crossfeed := 0 }).moveLimit t
  let s := s.setBit Od.AXLE_AXLE_STATUS 6 false
  let s := match s.gbx.modeWait with
    | some m => if s.anyShift then s else s.axleModeNow m
    | none => s
  let s := if s.gbx.dirWait ∧ ¬ s.anyShift then
      ({ s with gbx := { s.gbx with dirWait := false } }).when (s.axleMode != 0) fun s => s.axleDirection
    else s
  let s := (s.setQ Od.AXLE_WHEEL_SPEED_A (s.wheelSpeed 0)).setQ Od.AXLE_WHEEL_SPEED_B (s.wheelSpeed 1)
  if s.axleMode = 0 then s else s.axleTorques

/-! ### Actuators and solenoid channels (R271 to R275) -/

/-- An actuator axis or one of its interfaces is at fault (R180 to R185, R273): the observer's loss time, an open phase, a
failed shunt channel, or an interface in FAULT. -/
def State.actuatorBad (s : State) (a : Fin 4) : Bool :=
  let n := actAxis a
  s.lossDue n || (s.deciding n && ([0, 1, 2] : List (Fin 3)).any fun p =>
    s.openReached n p || s.saturated n p || decide (8 ≤ (s.ax n).attr.getD p.val 0)) ||
  (s.deciding n && decide (16 ≤ (s.ax n).unattrib)) || s.pifService (4 + a) == 3 || s.pifService (8 + a) == 3

def execActuatorAxisFault (dt : Nat) (a : Fin 4) (s : State) : Res :=
  let s := s.elapse dt
  reply s (if s.actuatorBad a then s.actuatorFault (actAxis a) else s)

/-- I_SET by the owner of GBX, of channels no park lock claims (R274). -/
def State.iSetEffect (who : Requester) (ch : Fin 8) (q : Rat) (s : State) : Except Nat State :=
  refuseIf (decide (q < 0) || decide (4 < q)) 0x06090030 <|
  refuseIf (!s.owns who .gbx || (s.solSide ch).isSome) 0x08000022 <|
  .ok (s.setSolenoidI ch q)

def State.writeISet (s : State) (who : Requester) (ch : Fin 8) (value : BitVec 32) : State :=
  s.request who (Od.SOL_I_SET ch) .operator fun s =>
    match f32Decode value with
    | none => .error 0x06090030
    | some q => s.iSetEffect who ch q

def execISetWrite (dt : Nat) (who : Requester) (ch : Fin 8) (value : BitVec 32) (s : State) : Res :=
  reply s ((s.elapse dt).writeISet who ch value)

/-- Every channel is de-energised below 38 V of IB (R275). -/
def execIbBelow38V (dt : Nat) (v : Rat) (s : State) : Res :=
  let s := s.elapse dt
  reply s (if v < 38 then (s.senseIb v).solenoidsOff else s)

/-- A channel fault latches, the channel goes off until GBX is acknowledged, event 0x080D with the current in 10 mA (R275). -/
def State.solFault (s : State) (ch : Fin 8) (bit : Nat) : State :=
  let s := ((s.setBit (Od.SOL_SOL_STATUS ch) bit true).count (ctrSolFault ch)).solenoidOff ch
  s.gbxEvent 0x080D (0x60 + ch.val) (cent (s.num (Od.SOL_I_ACT ch)))

/-- Overcurrent above 6.0 A, while the channel is energised. -/
def execSolenoidOvercurrent (dt : Nat) (ch : Fin 8) (i : Rat) (s : State) : Res :=
  let s := s.elapse dt
  reply s (if 6 < i ∧ s.num (Od.SOL_DUTY ch) ≠ 0 then (s.setQ (Od.SOL_I_ACT ch) i).solFault ch 3 else s)

/-- Open load: duty at least 0.95, current below 0.1 A, set-point at least 0.2 A for OPEN_LOAD_ms. -/
def execSolenoidOpenLoad (dt : Nat) (ch : Fin 8) (s : State) : Res :=
  let s := s.elapse dt
  reply s (if (s.gbx.sols.get ch).openTb.any fun t => decide (t + ms (s.nat (Od.SOL_OPEN_LOAD_ms ch)) ≤ s.tb) then s.solFault ch 4
  else s)

/-- A deviation beyond DEV_LIM for 200 ms is marked and logged; the channel keeps running. -/
def execSolenoidDeviation (dt : Nat) (ch : Fin 8) (s : State) : Res :=
  let s := s.elapse dt
  let dev := |s.num (Od.SOL_I_ACT ch) - s.num (Od.SOL_I_SET ch)|
  reply s (if ¬ s.bit (Od.SOL_SOL_STATUS ch) 5 ∧ ((s.gbx.sols.get ch).devTb.any fun t => decide (t + ms 200 ≤ s.tb)) then
    (s.setBit (Od.SOL_SOL_STATUS ch) 5 true).gbxEvent 0x080E (0x60 + ch.val) (cent dev)
  else s)

/-- GBX is acknowledged: the latches of its channels clear (R275). -/
def State.ackSolenoids (s : State) : State :=
  s.each (List.range 8) fun i s => s.setField (Od.SOL_SOL_STATUS i) 3 2 0

/-- Where an actuator is held at RUN: the confirmed position of its fork or pawl, else where it stands (R272). -/
def State.heldPosition (s : State) (a : Fin 4) : Int :=
  let t := actSide a
  if isFork a then (if 2 ≤ s.gear t ∧ s.gear t ≤ 4 then s.gearPos t (s.gear t) else s.actPos a)
  else if s.park t = 1 ∨ s.park t = 2 then s.int (Od.PRK_POS_ENGAGED t) else s.actPos a

/-- RUN of GBX: LU4 to LU7 hold each fork and pawl (R272). -/
def State.runGbx (s : State) (trig : Nat) : State :=
  let s := s.each ([0, 1, 2, 3] : List (Fin 4)) fun a s => s.setRef a (s.heldPosition a)
  let s := s.goto .gbx .active trig
  s.each ([0, 1, 2, 3] : List (Fin 4)) fun a s => s.engageActuator a

/-! ### Park locks (R276) -/

/-- The release solenoid of a side takes a set-point; a lock that names no channel has none. -/
def State.parkSolenoid (s : State) (t : Fin 2) (q : Rat) : State :=
  let c := s.nat (Od.PRK_RELEASE_SOL t)
  if c < 8 then
    let s := s.setSolenoidI c q
    if q = 0 then s.setSolenoidDuty c 0 else s
  else s

/-- The pawl moves toward a position. -/
def State.movePawl (s : State) (t : Fin 2) (pos : Int) : State :=
  let s := { s with gbx := { s.gbx with push := upd s.gbx.push (pawlOf t) fun _ => none } }
  ((s.startMove (pawlOf t)).setRef (pawlOf t) pos).engageActuator (pawlOf t)

/-- The side's drive turns slowly enough to engage. -/
def State.parkSlow (s : State) (t : Nat) : Bool := decide (|s.num (Od.TR_SPEED t)| ≤ s.num Od.PRK_PARK_SPEED_MAX)

/-- PARK_CMD 1 (Table 10.8, Table 10.10). -/
def State.parkEngage (t : Fin 2) (s : State) : Except Nat State :=
  refuseIf (s.shifting t || s.park t == 0) 0x08000022 <|
  let s := s.setN (Od.PRK_PARK_CMD t) 1
  if s.park t = 1 ∨ s.park t = 2 then .ok s
  else refuseIf (!s.parkSlow t) 0x08000022 <|
    .ok (((s.setPark t 2).parkSolenoid t 0).movePawl t (s.int (Od.PRK_POS_ENGAGED t)))

/-- PARK_CMD 2. -/
def State.parkRelease (t : Fin 2) (s : State) : Except Nat State :=
  let may := s.gbxActive && (s.ds (sideDrive t) == .active || s.flag Od.PRK_TOW_RELEASE)
  refuseIf (s.park t == 0 || s.park t == 2) 0x08000022 <|
  refuseIf (s.park t == 1 && !may) 0x08000022 <|
  let s := s.setN (Od.PRK_PARK_CMD t) 2
  .ok (if s.park t = 1 then
    ((s.setPark t 3).parkSolenoid t (s.num (Od.PRK_HOLD_I t))).movePawl t (s.int (Od.PRK_POS_RELEASED t))
  else s)

def State.writePark (s : State) (who : Requester) (t : Fin 2) (v : Nat) : State :=
  s.request who (Od.PRK_PARK_CMD t) .operator fun s =>
    refuseIf (v != 1 && v != 2) 0x06090030 <|
    refuseIf (!s.owns who .gbx) 0x08000022 <|
    if v = 1 then State.parkEngage t s else State.parkRelease t s

def execParkEngageCmd (dt : Nat) (who : Requester) (t : Fin 2) (s : State) : Res := reply s ((s.elapse dt).writePark who t 1)
def execParkReleaseCmd (dt : Nat) (who : Requester) (t : Fin 2) (s : State) : Res := reply s ((s.elapse dt).writePark who t 2)

/-- The pawl has lain within PARK_WIN of its target for 10 ms: ENGAGED or RELEASED; the actuator coasts. -/
def State.parkConfirm (s : State) (t : Fin 2) : State :=
  if ¬ (s.side t).pawlTb.any fun b => decide (b + ms 10 ≤ s.tb) then s
  else if s.park t = 2 then
    let s := ((s.setPark t 1).coastActuator (pawlOf t)).confirm (pawlOf t) 1
    (s.count (ctrParkOps t)).gbxEvent 0x0809 t 1
  else if s.park t = 3 then
    let s := ((s.setPark t 4).coastActuator (pawlOf t)).confirm (pawlOf t) 4
    s.gbxEvent 0x080A t 4
  else s

def execParkPositionConfirm (dt : Nat) (t : Fin 2) (s : State) : Res := reply s ((s.elapse dt).parkConfirm t)

/-- The actuator has stalled short for 20 ms, the pawl rests on a tooth: it keeps pushing at ENGAGE_TQ. -/
def execPawlOnTooth (dt : Nat) (t : Fin 2) (s : State) : Res :=
  let s := s.elapse dt
  reply s (if s.park t = 2 ∧ ¬ s.pawlAt t (s.int (Od.PRK_POS_ENGAGED t)) ∧ s.gbxActive ∧
      s.stalled (pawlOf t) (s.side t).parkTb (ms 20) then
    (s.modSide t fun x => { x with tooth := true }).pushPawl t
  else s)

/-- RELEASE_TIME_ms has passed in RELEASING. -/
def State.parkTimeout (s : State) (t : Fin 2) : State :=
  if s.park t = 3 ∧ (s.side t).parkTb + ms (s.nat Od.PRK_RELEASE_TIME_ms) ≤ s.tb then
    let s := ((s.setPark t 2).parkSolenoid t 0).movePawl t (s.int (Od.PRK_POS_ENGAGED t))
    (s.count (ctrParkFails t)).gbxEvent 0x080B t 2
  else s

def execParkReleaseTimeout (dt : Nat) (t : Fin 2) (s : State) : Res := reply s ((s.elapse dt).parkTimeout t)

/-! ### Gear state recovery (R278, Table 10.9) -/

/-- Recovery may start: GBX is UNAVAILABLE and not yet recovered, link L trained, IB at 42 V, its pair released. -/
def State.recoveryDue (s : State) : Bool :=
  s.ds .gbx == .unavailable && !s.gbx.recovered && s.gbx.recovT0.isNone && (s.drv .gbx).arming == .none &&
  (s.drv .gbx).resetTb.isNone && (s.link .l).trained && decide (42 ≤ s.num Od.CNV_V_IB) && !(s.drv .gbx).tqo &&
  !(s.drv .gbx).tqoLink

def execGearStateRecoveryStart (dt : Nat) (s : State) : Res :=
  let s := s.elapse dt
  reply s (if s.recoveryDue then (s.startArming .gbx .recovery).count ctrRecoveries else s)

/-- The torque of a recovering actuator turns to the other direction. -/
def State.recTurn (s : State) (a : Fin 4) (tq : Rat) : State :=
  let r := s.recOf a
  (s.setRec a { r with dir := -r.dir, turned := true, pushTb := s.tb }).setQ (Od.AX_TQ_REF (actAxis a)) (-r.dir * tq)

/-- One actuator of a running recovery at an instance: the 30 ms of step 2, the sweep of step 3, the way back of
step 5. -/
def State.recAdvance (s : State) (a : Fin 4) : State :=
  let r := s.recOf a
  let t := actSide a
  let moved := s.actPos a - r.startPos
  if r.resolved then s
  else match r.step with
    | 2 =>
      if r.startTb + ms 30 ≤ s.tb then
        if moved.natAbs ≤ s.nat Od.SHF_CONFIRM_TOL then s.resolve a (s.record a).state 1 else s.recReference a
      else s
    | 3 =>
      let win : Int := s.nat (Od.SHF_NEUTRAL_WIN t)
      if r.turned then (if moved ≤ -win then s.recReference a else s)
      else if win ≤ moved then s.recTurn a (s.num Od.SHF_REF_TQ) else s
    | 5 =>
      if !r.turned && decide (2 * s.nat (Od.PRK_PARK_WIN t) ≤ moved.natAbs) then s.recTurn a (s.num (Od.PRK_ENGAGE_TQ t))
      else s
    | _ => s

/-- A stall of 20 ms: referencing turns back once, and fails after both stops; a sweep ends that way; a pawl that stalls
on its way back rests on a tooth. -/
def State.recStall (s : State) (a : Fin 4) : State :=
  let r := s.recOf a
  if s.gbx.recovT0.isNone ∨ r.resolved ∨ ¬ s.stalled a r.pushTb (ms 20) then s
  else match r.step with
    | 3 => if r.turned then s.recReference a else s.recTurn a (s.num Od.SHF_REF_TQ)
    | 4 => if r.turned then s.recoveryFail else s.recTurn a (s.num Od.SHF_REF_TQ)
    | 5 => if r.turned then (s.resolve a 2 2).setRec a { r with resolved := true, step := 0, stalledTb := some s.tb }
        else s.recTurn a (s.num (Od.PRK_ENGAGE_TQ (actSide a)))
    | _ => s

def execRecoveryStall (dt : Nat) (a : Fin 4) (s : State) : Res := reply s ((s.elapse dt).recStall a)

/-- Step 6: cells coast, RESOLVED, RECOVERY_TIME_ms, event 0x0802, GBX is ready. -/
def State.recDone (s : State) (t0 : Nat) : State :=
  let s := s.each ([0, 1, 2, 3] : List (Fin 4)) fun a s => s.coastActuator a
  let s := s.each sides fun t s => s.modSide t fun x => { x with resolved := true }
  let s := { s with gbx := { s.gbx with recovT0 := none, recovered := true } }
  let time := min ((s.tb - t0) / 100000) 0xFFFE
  ((s.setN Od.GBX_RECOVERY_TIME_ms time).gbxEvent 0x0802 2 time).becomeReady .gbx

/-- Steps 6 and 7. -/
def State.recEnd (s : State) : State :=
  match s.gbx.recovT0 with
  | none => s
  | some t0 =>
    if ([0, 1, 2, 3] : List (Fin 4)).all fun a => (s.recOf a).resolved then s.recDone t0
    else if t0 + ms 500 ≤ s.tb then s.recoveryFail
    else s

def execGearStateRecoveryEnd (dt : Nat) (s : State) : Res := reply s (s.elapse dt).recEnd

/-! ### The shift sequencer's task (R269) -/

/-- An instance of the shift sequencer, every 1 ms: output speeds, running and pending shifts, AXLE limits, recovery. -/
def State.shiftInstance (s : State) : State :=
  let s := s.each sides fun t s => (s.noteOutSpeed t).moveLimit t
  let s := s.each sides fun t s => (s.shiftAdvance t).forkSettle t
  let s := s.each sides fun t s => s.shiftPending t
  if s.gbx.recovT0.isSome then s.each ([0, 1, 2, 3] : List (Fin 4)) fun a s => s.recAdvance a else s

end Sys2Proof.Machine
end

