-- ==== Sys2Proof/Machine/Battery.lean ====
section
/-! DEFINITION. Chapter 13: the LV instance of the charge state machine, the battery switch, the hand-over of VR and the
attention line (R336 to R341, R345, R346, R351). -/
namespace Sys2Proof.Machine

/-! ### LV instance (R337 to R340) -/

/-- The switch takes a mode, but for one that an overcurrent or Peat mode has opened (R345). -/
def State.putBatSw (s : State) (m : Nat) : State := if s.batSw = 0 then s else s.setBatSw m

/-- Switch mode of a charge state (Table 13.13). -/
def lvSwitch (st : Nat) : Nat := if st = 2 ∨ st = 3 then 2 else if st = 4 ∨ st = 5 ∨ st = 7 then 1 else 3

/-- LV_CV_ACT: the smaller of LV_CV_V and the VR target of R309 (Table 13.8). -/
def State.lvCvAct (s : State) : Rat := min (s.num Od.LV_LV_CV_V) s.vrBase

/-- The instance enters a state with its switch mode; CC, CV and TOPOFF lower the VR target, DONE keeps it lowered. -/
def State.lvEnter (s : State) (st : Nat) : State :=
  let s := (s.setLvState st).putBatSw (lvSwitch st)
  let s := s.when (st == 1) fun s => s.setBit Od.LV_LV_STATUS 8 false
  let s := (s.modPath fun x => { x with testing := false }).modChg fun x => { x with lv := { x.lv with condKind := 0 } }
  if st = 4 ∨ st = 5 ∨ st = 7 then s.lowerVr (some s.lvCvAct) else if st = 6 then s else s.lowerVr none

/-- The safety timer is cleared (Table 13.9). -/
def State.lvTimerClear (s : State) : State :=
  (s.setQ Od.LV_LV_TIMER_min 0).modChg fun x => { x with lv := { x.lv with timer := 0, timerTb := s.tb } }

/-- CHECK with the safety timer cleared. -/
def State.lvCheck (s : State) : State := s.lvTimerClear.lvEnter 1

/-- An LV charge event: source 0x71, no drive changes state (Table 13.8). -/
def State.lvEvent (s : State) (code : Nat) : State := s.event code 0x71 s.lvDetail

/-- The LV instance resumes in its kept state, or in CHECK if it was charging or had not run (R346 step 5). -/
def State.lvResume (s : State) : State :=
  let k := s.chg.lv.kept
  if !s.flag Od.LV_LV_CHG_EN then s.putBatSw 3
  else if k = 0 then s.lvCheck
  else if charging k then s.lvEnter 1
  else s.lvEnter k

/-- Step 5 of Table 13.15: VR on the buck, logged, the LV instance goes on. -/
def State.vrBack (s : State) : State := ((s.setVrSource 1).lvEvent 0x0B13).lvResume

/-- LV_CHG_EN by the owner of AUX (R356). -/
def State.lvEnableEffect (who : Requester) (v : Nat) (s : State) : Except Nat State :=
  refuseIf (2 ≤ v) 0x06090030 <|
  refuseIf (!s.owns who .aux) 0x08000022 <|
  let s := s.setFlag Od.LV_LV_CHG_EN (v = 1)
  .ok (if v = 1 then (if s.auxMode = 3 ∧ s.nat Od.LV_LV_STATE = 0 then s.lvCheck else s)
    else
      let s := s.lvStop.modChg fun x => { x with lv := { x.lv with kept := 0 } }
      if s.vrSource = 1 then s.putBatSw 3 else s)

/-- Rail current limit of R305: the phases that take part, each at PH_I_MAX (derated) less half its ripple. -/
def State.railLimit (s : State) : Rat :=
  let ib := s.num Od.CNV_V_IB
  let vr := s.num Od.CNV_V_VR
  let ripple := if ib = 0 then 0 else (ib - vr) * vr / ib / (s.num Od.CNV_L_PH * s.nat Od.CNV_FSW_AUX)
  ((4 - s.aux.shed.length : Nat) : Rat) * (s.num Od.CNV_PH_I_MAX * s.num (Od.THM_DERATE 3) - ripple / 2)

/-- The state current of the instance (Tables 13.8, 13.9, R340). -/
def State.lvStateCurrent (s : State) : Rat :=
  match s.nat Od.LV_LV_STATE with
  | 1 => if s.path.testing then 3 / 2 else 0
  | 2 => s.num Od.LV_LV_TRICKLE_A
  | 3 => s.num Od.LV_LV_PRECHARGE_A
  | 7 => min (s.num Od.LV_LV_CC_A) (s.num Od.LV_LV_TAPER_A)
  | _ => s.num Od.LV_LV_CC_A

/-- LV_I_LIM_ACT. -/
def State.lvLimit (s : State) : Rat :=
  let headroom := s.railLimit - (s.num Od.CNV_I_VR - s.num Od.LV_I_BAT)
  min (min s.lvStateCurrent (max 0 headroom)) (s.num (Od.THM_DERATE 3) * s.num Od.LV_LV_CC_A)

/-- The timed condition of the instance's state that holds now: 0 none (Table 13.9). -/
def State.lvCond (s : State) : Nat :=
  let v := s.num Od.LV_V_BAT
  match s.nat Od.LV_LV_STATE with
  | 2 => if s.num Od.LV_LV_TRICKLE_V ≤ v then 1 else 0
  | 3 => if s.num Od.LV_LV_PRECHARGE_V ≤ v then 1 else if v < 2 ∧ 1 < s.num Od.LV_I_BAT then 2 else 0
  | 4 => if s.bit Od.LV_LV_STATUS 6 then 0 else 1
  | 5 => if s.num Od.LV_I_BAT < s.num Od.LV_LV_TAPER_A then 1 else 0
  | 9 => if 4 ≤ v then 1 else 0
  | _ => 0

/-- Since when the condition holds. -/
def ChargeInst.note (x : ChargeInst) (kind tb : Nat) : ChargeInst :=
  if kind = 0 then { x with condKind := 0, condTb := none }
  else if x.condKind = kind then x
  else { x with condKind := kind, condTb := some tb }

/-- The condition `kind` has held for a time. -/
def ChargeInst.held (x : ChargeInst) (kind tb ticks : Nat) : Bool :=
  x.condKind == kind && (match x.condTb with | some t => decide (t + ticks ≤ tb) | none => false)

/-- The safety timer's advance over an evaluation, at half speed below half the configured current (R339). -/
def ChargeInst.advance (x : ChargeInst) (tb : Nat) (runs half : Bool) : ChargeInst :=
  let d : Rat := (tb - x.timerTb : Nat)
  { x with timerTb := tb, timer := if runs then x.timer + (if half then d / 2 else d) else x.timer }

/-- By voltage after a battery has been found (Table 13.9). -/
def State.lvByVoltage (s : State) : State :=
  let v := s.num Od.LV_V_BAT
  if v < s.num Od.LV_LV_TRICKLE_V then s.lvEnter 2
  else if v < s.num Od.LV_LV_PRECHARGE_V then s.lvEnter 3 else s.lvEnter 4

/-- CHECK after 20 ms in DIODE: a battery of 4 V or more is present, otherwise the presence test runs (R340). -/
def State.lvCheckStep (s : State) : State :=
  if s.nat Od.LV_LV_STATE ≠ 1 ∨ s.path.testing ∨ s.tb < s.chg.lv.entryTb + ms 20 then s
  else if 4 ≤ s.num Od.LV_V_BAT then (s.setBit Od.LV_LV_STATUS 1 true).lvByVoltage
  else (s.putBatSw 2).modPath fun x => { x with testing := true, testTb := s.tb }

/-- Charge through the switch, in mA·s (R356). -/
def State.lvCount (s : State) : State :=
  let d : Rat := ((s.tb - s.chg.lv.timerTb : Nat) : Rat) / 100000000
  let i := s.num Od.LV_I_BAT
  let s := s.modChg fun x => { x with lvIn := x.lvIn + max 0 i * d, lvOut := x.lvOut + max 0 (-i) * d }
  (s.setN Od.LV_LV_CHARGE_mAs (s.chg.lvIn * 1000).floor.toNat).setN Od.LV_LV_DISCHARGE_mAs (s.chg.lvOut * 1000).floor.toNat

/-- An instance of the charge manager for the LV instance, every 1 ms (R338, R339): limits in force, safety timer,
conditions, CHECK and the recharge trigger. -/
def State.lvInstance (s : State) : State :=
  let s := s.lvCount
  let st := s.nat Od.LV_LV_STATE
  let lim := s.lvLimit
  let half := decide (lim < s.num Od.LV_LV_CC_A / 2)
  let s := s.modChg fun x => { x with lv := (x.lv.advance s.tb (charging st) half).note s.lvCond s.tb }
  let s := s.setQ Od.LV_LV_TIMER_min (s.chg.lv.timer / sec 60)
  if st = 0 then (s.setBit Od.LV_LV_STATUS 7 false).setBit Od.LV_LV_STATUS 10 false
  else
    let s := (s.setQ Od.LV_LV_I_LIM_ACT lim).setQ (Od.LU_REF 22) lim
    let s := (s.setBit Od.LV_LV_STATUS 9 (charging st && half)).setBit Od.LV_LV_STATUS 10 (decide (s.vrBase < s.num Od.LV_LV_CV_V))
    let s := s.setBit Od.LV_LV_STATUS 7 (s.batSw == 2 && decide (s.num Od.CNV_V_VR ≤ s.num Od.LV_VR_MIN_SYS))
    if st = 8 ∧ s.num Od.LV_V_BAT < s.num Od.LV_LV_RECHARGE_V then s.lvCheck.lvEvent 0x0B11
    else s.lvCheckStep

/-- A timed transition of the LV instance whose time has elapsed (Table 13.9). -/
def State.lvTimed (s : State) : State :=
  let x := s.chg.lv
  let inState (t : Nat) : Bool := decide (x.entryTb + t ≤ s.tb)
  match s.nat Od.LV_LV_STATE with
  | 2 => if inState (sec 3600) then (s.lvEnter 11).lvEvent 0x0B0A else if x.held 1 s.tb (sec 10) then s.lvEnter 3 else s
  | 3 =>
    if inState (sec 7200) then (s.lvEnter 11).lvEvent 0x0B0A
    else if x.held 2 s.tb (ms 200) then (s.lvEnter 10).lvEvent 0x0B0C
    else if x.held 1 s.tb (sec 10) then s.lvEnter 4 else s
  | 4 => if x.held 1 s.tb (sec 1) then s.lvEnter 5 else s
  | 5 =>
    if x.held 1 s.tb (sec 60) then
      (if s.flag Od.LV_LV_TOPOFF_EN then s.lvEnter 7 else (s.lvEnter 6).lvEvent 0x0B10)
    else s
  | 7 => if inState (sec (60 * s.nat Od.LV_LV_TOPOFF_min)) then (s.lvEnter 6).lvEvent 0x0B10 else s
  | 6 => if inState (sec 10) then s.lvEnter 8 else s
  | 9 => if x.held 1 s.tb (sec 5) then s.lvCheck else s
  | _ => s

/-- The LV safety timer has reached its limit (R339). -/
def State.lvExpired (s : State) : State :=
  if charging (s.nat Od.LV_LV_STATE) ∧ (sec (60 * s.nat Od.LV_LV_TIMER_LIMIT_min) : Rat) ≤ s.chg.lv.timer then
    (s.lvEnter 11).lvEvent 0x0B09
  else s

/-- The presence test ends after its 200 ms (R340). -/
def State.presenceDone (s : State) (v i : Rat) : State :=
  let s := (s.senseBat v).senseBatI i
  let s := s.modPath fun x => { x with testing := false, lastV := v, lastI := i }
  if i < 1 / 10 then ((s.setBit Od.LV_LV_STATUS 1 false).lvEnter 9).lvEvent 0x0B0B
  else if 1 < i ∧ v < 2 then ((s.setBit Od.LV_LV_STATUS 1 false).lvEnter 10).lvEvent 0x0B0C
  else (s.setBit Od.LV_LV_STATUS 1 true).lvEnter 2

def execLvPresenceTestComplete (dt : Nat) (v i : Rat) (s : State) : Res :=
  let s := s.elapse dt
  reply s (if s.nat Od.LV_LV_STATE = 1 ∧ s.path.testing ∧ s.path.testTb + ms 200 ≤ s.tb then s.presenceDone v i else s)

/-! ### Acknowledge and overcurrent (R338, R345) -/

/-- A tripped switch closes in DIODE mode, and VR that stood unsupplied is held by the battery; an instance in FAULT or
SHORTED goes to CHECK, also one that a hand-over keeps. -/
def State.lvAck (s : State) : State :=
  let s := if s.batTripped then
      let s := (s.setBatTrip false).setBatSw 3
      if s.vrSource = 0 then s.setVrSource 2 else s
    else s
  let st := s.nat Od.LV_LV_STATE
  if st = 10 ∨ st = 11 then s.lvEnter 1
  else if st = 0 ∧ (s.chg.lv.kept = 10 ∨ s.chg.lv.kept = 11) then
    s.modChg fun x => { x with lv := { x.lv with kept := 1 } }
  else s

def State.writeLvAck (s : State) (who : Requester) (v : Nat) : State :=
  s.request who Od.LV_LV_ACK .operator fun s => refuseIf (v != 1) 0x06090030 (.ok s.lvAck)

def execLvAckWrite (dt : Nat) (who : Requester) (value : BitVec 8) (s : State) : Res :=
  reply s ((s.elapse dt).writeLvAck who value.toNat)

/-- A measurement of the switch current: above 450 A for 10 ms, or above 800 A, the switch opens and BAT_SW_OC latches; VR on
the battery is then unsupplied; a hand-over that runs goes on at step 3 with the switch open (R346). -/
def State.batOvercurrent (s : State) (i : Rat) : State :=
  let s := s.senseBatI i
  if s.batSw ≠ 0 ∧ (heldFor s.path.ocTb (ms 10) s.tb ∨ 800 < |i|) then
    let s := (s.setBatSw 0).setBatTrip true
    let s := s.when (s.vrSource == 3) fun s => s.handBackWait
    let s := s.when (s.vrSource == 2 || s.vrSource == 3) fun s => s.setVrSource 0
    s.lvEvent 0x0B14
  else s

def execBatterySwitchOvercurrent (dt : Nat) (i : Rat) (s : State) : Res := reply s ((s.elapse dt).batOvercurrent i)

/-! ### Hand-over and hand-back (R346, Table 13.15) -/

/-- Step 2: the switch is ON, VR on the battery, and the count of step 3 starts. -/
def State.handoverOn (s : State) : State :=
  if s.vrSource = 3 ∧ s.path.handTb + ms 50 ≤ s.tb then ((s.putBatSw 1).setVrSource 2).handBackWait else s

def execHandoverSwitchOn (dt : Nat) (s : State) : Res := reply s (s.elapse dt).handoverOn

/-- Reference of LU17 during the IB soft start, from the IB it met at IB_SET / IB_SOFTSTART_ms (R307). -/
def State.ibRef (s : State) : Rat :=
  let set := s.num Od.CNV_IB_SET
  match s.aux.ibTb with
  | some t => approach s.aux.ibFrom set (set / s.nat Od.CNV_IB_SOFTSTART_ms * ((s.tb - t : Nat) : Rat) / 100000)
  | none => set

/-- The IB soft start is complete and IB stands at 42 V. -/
def State.ibUp (s : State) : Bool :=
  s.aux.ibTb.isSome && s.ibRef == s.num Od.CNV_IB_SET && decide (42 ≤ s.num Od.CNV_V_IB)

/-- Step 4: IB has stood for 200 ms and AUX is ACTIVE: the buck starts again. -/
def State.handbackDone (s : State) : State :=
  match s.path.countTb with
  | some t =>
    if s.bit Od.LV_LV_STATUS 5 ∧ t + ms 200 ≤ s.tb ∧ s.ds .aux = .active ∧ s.auxMode = 1 ∧ s.ibUp then
      ((s.setVrSource 4).setBit Od.LV_LV_STATUS 5 false).enterVrStart
    else s
  | none => s

def execHandbackCountComplete (dt : Nat) (s : State) : Res := reply s (s.elapse dt).handbackDone

/-! ### Attention line (R351) -/

/-- ATTN is asserted: from reset until step 7, and from there while an event has asserted it (R59, R351). -/
def State.attn (s : State) : Bool := !s.dictUp || s.bit Od.LV_LV_STATUS 4

/-- A logged event whose group is in ATTN_MASK and whose severity reaches ATTN_MIN_SEV asserts ATTN; ATTN_CODE takes the
first since the last clear. -/
def State.attention (s : State) (e : LogEntry) : State :=
  if s.dictUp ∧ s.bit Od.LV_ATTN_MASK (e.code / 256) ∧ s.nat Od.LV_ATTN_MIN_SEV ≤ e.sev.num then
    let s := s.when (!s.bit Od.LV_LV_STATUS 4) fun s => s.setN Od.LV_ATTN_CODE e.code
    s.setBit Od.LV_LV_STATUS 4 true
  else s

def State.writeAttnClear (s : State) (who : Requester) (v : Nat) : State :=
  s.request who Od.LV_ATTN_CLEAR .operator fun s =>
    refuseIf (v != 1) 0x06090030 (.ok ((s.setBit Od.LV_LV_STATUS 4 false).setN Od.LV_ATTN_CODE 0))

def execAttnClearWrite (dt : Nat) (who : Requester) (value : BitVec 8) (s : State) : Res :=
  reply s ((s.elapse dt).writeAttnClear who value.toNat)

end Sys2Proof.Machine
end

