-- ==== Sys2Proof/Machine/AuxConv.lean ====
section
/-! DEFINITION. Chapter 12: the auxiliary converter, its modes, set-points, synchronisation and protection, and the stage
modulators at a switching period's start (R301 to R322, R335, R336). -/
namespace Sys2Proof.Machine

def ctrVsel : Counter := ⟨Od.CNV_VSEL_CHANGES, 32, Od.CNV_AUX_CNT_STATUS, 0, 0x0A⟩
def ctrReleases : Counter := ⟨Od.CNV_RELEASES, 32, Od.CNV_AUX_CNT_STATUS, 1, 0x0A⟩
def ctrSyncLoss : Counter := ⟨Od.CNV_SYNC_LOSSES, 16, Od.CNV_AUX_CNT_STATUS, 2, 0x0A⟩

def State.auxActive (s : State) : Bool := s.ds .aux == .active

/-! ### DAB (R303, R304) -/

/-- A stage cell's leg switches at once: its pulse ends, or begins with the length planned. -/
def State.swapStage (s : State) (l : Leg) : State :=
  if (s.leg l).inPulse s.tb then s.modLeg l fun g => { g with offTb := s.tb }
  else s.modLeg l fun g => { g with edgeTb := max g.edgeTb (min g.offTb s.tb), onTb := s.tb, offTb := s.tb + (g.offTb - g.onTb) }

/-- DAB_LIMIT while the limit has acted in more than half of the half-periods of the last 10 ms; event 0x0A0B with the
transformer current as it begins. -/
def State.dabShare (s : State) (i : Rat) : State :=
  let s := s.modAux fun x => { x with peakTbs := x.peakTbs.filter fun t => decide (s.tb < t + ms 10) }
  let half := decide (s.nat Od.CNV_DAB_Hz < 100 * s.aux.peakTbs.length)
  let new := half && !s.bit Od.CNV_AUX_STATUS 12
  (s.setBit Od.CNV_AUX_STATUS 12 half).when new fun s => s.auxEvent 0x0A0B 9 (cent i)

/-- The transformer current, read at the shunt of the conducting C09 low side, has reached DAB_IPK: the C09 bridge switches
at once. -/
def State.dabPeak (s : State) (i : Rat) : State :=
  if (s.cell 9).mode = .switching ∧ s.num Od.CNV_DAB_IPK ≤ i then
    let s := s.each (cellLegList 9) fun l s => s.swapStage l
    (s.modAux fun x => { x with peakTbs := s.tb :: x.peakTbs }).dabShare i
  else s

def execDabPeakLimit (dt : Nat) (i : Rat) (s : State) : Res := reply s ((s.elapse dt).dabPeak i)

/-- What supplies AUX without the DC link: TOW if its conditions hold, else WAIT. -/
def State.auxNoLink (s : State) : State := (if s.towOk then s.enterTow else s.enterWait).aux48

/-- V_DC at or below DAB_STOP_V: DAB and buck off, VR to the battery, TOW or WAIT; an arming of the bridges is abandoned. -/
def State.dabLowLink (s : State) : State :=
  if s.auxActive ∧ 1 ≤ s.auxMode ∧ s.auxMode ≤ 3 ∧ s.vDc ≤ s.num Od.CNV_DAB_STOP_V then
    let s := s.auxEvent 0x0A04 8 (cent s.vDc)
    let s := if (s.drv .aux).arming = .dab then
        (s.each ([8, 9] : List Cell) fun c s => s.offCell c).modDrv .aux fun x => { x with arming := .none }
      else s
    s.buckStop.dabStop.auxNoLink
  else s

def execDabStopLowLink (dt : Nat) (s : State) : Res := reply s (s.elapse dt).dabLowLink

/-- V_DC has stood at 450 V for 100 ms: from TOW or WAIT to IB_START. -/
def State.dabRestart (s : State) : State :=
  if s.auxActive ∧ (s.auxMode = 4 ∨ s.auxMode = 5) ∧ heldFor s.dcl.okTb (ms 100) s.tb ∧ 450 ≤ s.vDc then
    s.towStop.enterIbStart.aux48
  else s

def execDabRestartLinkOk (dt : Nat) (s : State) : Res := reply s (s.elapse dt).dabRestart

/-- IB_START ends in VR_START, unless a hand-over runs or the hand-back counts; the first start after bring-up is a
hand-back without the count (R346). -/
def State.ibStartDone (s : State) : State :=
  if s.auxActive ∧ s.auxMode = 1 ∧ s.ibUp ∧ ¬ s.bit Od.LV_LV_STATUS 5 ∧ s.vrSource ≠ 3 then
    (s.setVrSource 4).enterVrStart
  else s

def execIbStartComplete (dt : Nat) (s : State) : Res := reply s (s.elapse dt).ibStartDone

/-! ### Buck (R308, R312) -/

/-- Valley current of a buck phase: the negative of its shunt's last sample (R101, R134). -/
def State.valley (s : State) (ph : Nat) : Rat := -(s.num (Od.SH_CURRENT (32 + ph)))

/-- The phases of the buck that are not shed. -/
def State.livePhases (s : State) : List Nat := (List.range 4).filter fun k => !s.aux.shed.contains k

/-- Difference of a phase's valley current from the mean of the phases that run (R308; DEDUCED, assumption 71). -/
def State.valleyDev (s : State) (ph : Nat) : Rat :=
  let l := s.livePhases
  s.valley ph - (l.map fun k => s.valley k).sum / l.length

/-- Since when each running phase differs by more than 20 A, judged in each period of the buck. -/
def State.noteValleys (s : State) : State :=
  let new (k : Fin 4) : Option Nat :=
    since (!s.aux.shed.contains k.val && decide (20 < |s.valleyDev k|)) s.aux.devTb[k] s.tb
  s.modAux fun x => { x with devTb := Vector.ofFn new }

/-- A phase that has differed for 10 ms, now by `dev`, is shed; the second takes AUX to FAULT. -/
def State.shedPhase (s : State) (ph : Fin 4) (dev : Rat) : State :=
  if s.bit Od.CNV_AUX_STATUS 0 ∧ heldFor s.aux.devTb[ph] (ms 10) s.tb ∧ ¬ s.aux.shed.contains ph.val ∧
      s.valleyDev ph = dev then
    let s := (s.modLeg (legOf (32 + ph.val)) fun g => { g with offTb := min g.offTb s.tb }).modAux fun x => { x with shed := ph.val :: x.shed }
    let s := (s.setBit Od.CNV_AUX_STATUS 13 true).auxEvent 0x0A0C 10 (cent dev)
    if 2 ≤ s.aux.shed.length then s.faultDrive .aux 0x0A0C else s
  else s

def execBuckPhaseShed (dt : Nat) (phase : Fin 4) (deviation : Rat) (s : State) : Res :=
  reply s ((s.elapse dt).shedPhase phase deviation)

/-- The buck regulates VR: VR_START or NORMAL. -/
def State.buckOn (s : State) : Bool := s.bit Od.CNV_AUX_STATUS 0 && (s.auxMode == 2 || s.auxMode == 3)

/-- Load release: every switch of C10 goes off, counted, logged first in each second; SYNC_OUT is low meanwhile. -/
def State.loadRelease (s : State) (v : Rat) : State :=
  if s.buckOn ∧ ¬ s.bit Od.CNV_AUX_STATUS 8 ∧ 103 / 100 * s.num Od.CNV_VR_REF < v then
    let s := ((s.senseVr v).stopLegs 10).setBit Od.CNV_AUX_STATUS 8 true
    let s := (s.count ctrReleases).modAux fun x => { x with syncOut := false }
    if s.aux.releaseSec = some (s.tb / sec 1) then s
    else (s.modAux fun x => { x with releaseSec := some (s.tb / sec 1) }).auxEvent 0x0A05 10 (cent v)
  else s

def execLoadReleaseEntry (dt : Nat) (v : Rat) (s : State) : Res := reply s ((s.elapse dt).loadRelease v)

def State.loadReleaseEnd (s : State) (v : Rat) : State :=
  if s.bit Od.CNV_AUX_STATUS 8 ∧ v ≤ 101 / 100 * s.num Od.CNV_VR_REF then
    (s.senseVr v).setBit Od.CNV_AUX_STATUS 8 false
  else s

def execLoadReleaseExit (dt : Nat) (v : Rat) (s : State) : Res := reply s ((s.elapse dt).loadReleaseEnd v)

/-! ### Set-points (R309 to R311) -/

/-- VSEL sampled every 1 ms: a code read four times in a row is accepted, and acts while VR_SRC is 0. -/
def State.vselTake (s : State) (pins : Nat) : State :=
  let run := if s.aux.vselRaw = pins then min 5 (s.aux.vselRun + 1) else 1
  let s := s.modAux fun x => { x with vselRaw := pins, vselRun := run, vselTb := s.tb }
  if run = 4 ∧ s.nat Od.CNV_VSEL_CODE ≠ pins then
    let s := (s.setN Od.CNV_VSEL_CODE pins).count ctrVsel
    let s := if s.nat Od.CNV_VR_SRC = 0 then s.newVrCommand else s
    s.auxEvent 0x0A03 10 (cent (s.num Od.CNV_VR_TARGET))
  else s

def execVselSample (dt : Nat) (pins : BitVec 2) (s : State) : Res :=
  let s := s.elapse dt
  reply s (if s.dictUp ∧ s.aux.vselTb + ms 1 ≤ s.tb then s.vselTake pins.toNat else s)

def State.vrSrcEffect (who : Requester) (v : Nat) (s : State) : Except Nat State :=
  refuseIf (2 ≤ v) 0x06090030 <|
  refuseIf (!s.owns who .aux) 0x08000022 (.ok (s.setN Od.CNV_VR_SRC v).newVrCommand)

def State.writeVrSrc (s : State) (who : Requester) (v : Nat) : State :=
  s.request who Od.CNV_VR_SRC .operator (State.vrSrcEffect who v)

def execVrSrcWrite (dt : Nat) (who : Requester) (value : BitVec 8) (s : State) : Res :=
  reply s ((s.elapse dt).writeVrSrc who value.toNat)

/-- A VR set-point lies between 24 and 30 V. -/
def vrInRange (q : Rat) : Bool := decide (24 ≤ q) && decide (q ≤ 30)

def State.vrCmdEffect (who : Requester) (q : Rat) (s : State) : Except Nat State :=
  refuseIf (!vrInRange q) 0x06090030 <|
  refuseIf (!s.owns who .aux) 0x08000022 (.ok (s.setQ Od.CNV_VR_CMD q).newVrCommand)

def State.writeVrCmd (s : State) (who : Requester) (value : BitVec 32) : State :=
  s.request who Od.CNV_VR_CMD .operator fun s =>
    match f32Decode value with
    | none => .error 0x06090030
    | some q => s.vrCmdEffect who q

def execVrCmdWrite (dt : Nat) (who : Requester) (value : BitVec 32) (s : State) : Res :=
  reply s ((s.elapse dt).writeVrCmd who value)

/-- VR_SET_xx may be written in any drive state (R311). -/
def State.writeVrSet (s : State) (who : Requester) (code : Fin 4) (value : BitVec 32) : State :=
  s.request who (Od.CNV_VR_SET code) .service fun s =>
    match f32Decode value with
    | none => .error 0x06090030
    | some q => refuseIf (!vrInRange q) 0x06090030 (.ok (s.setQ (Od.CNV_VR_SET code) q).newVrCommand)

def execVrSetWrite (dt : Nat) (who : Requester) (code : Fin 4) (value : BitVec 32) (s : State) : Res :=
  reply s ((s.elapse dt).writeVrSet who code value)

/-! ### Synchronisation (R313 to R315) -/

/-- A period of SYNC_IN lies within 120 to 180 kHz and at or below FSW_MAX of C10. -/
def State.syncOk (s : State) (hz : Rat) : Bool :=
  decide (120000 ≤ hz) && decide (hz ≤ 180000) && decide (hz ≤ s.nat (Od.CELL_FSW_MAX 10))

/-- An edge of SYNC_IN after eight consecutive periods within the window, given as frequencies, oldest first: it is valid and the
buck slews to its frequency; it is locked when the buck's frequency has come there and the rising edge of phase 0 lies within
5° of SYNC_IN's. The event holds 0: no voltage or current is concerned (DESIGN CHOICE, assumption 72). -/
def State.syncLock (s : State) (hz : Vector Rat 8) (phase : Rat) : State :=
  if hz.toList.all fun f => s.syncOk f then
    let s := (s.setBit Od.CNV_AUX_STATUS 3 true).setN Od.CNV_F_SYNC_IN hz[7].floor.toNat
    let s := s.modAux fun x => { x with syncHz := some hz[7], syncTb := s.tb }
    if |phase| ≤ 5 ∧ s.aux.fBuck = hz[7] ∧ ¬ s.bit Od.CNV_AUX_STATUS 4 then
      (s.setBit Od.CNV_AUX_STATUS 4 true).auxEvent 0x0A0D 10 0
    else s
  else s

def execSyncInLock (dt : Nat) (hz : Vector Rat 8) (phase : Rat) (s : State) : Res :=
  reply s ((s.elapse dt).syncLock hz phase)

/-- SYNC_IN is lost: a period given lies outside the window, or, with none, no edge has come within 1.5 × the last period. -/
def State.syncGone (s : State) (hz : Option Rat) : Bool :=
  match hz, s.aux.syncHz with
  | some f, _ => !s.syncOk f
  | none, some f => decide (150000000 ≤ ((s.tb - s.aux.syncTb : Nat) : Rat) * f)
  | none, none => false

/-- At the loss the buck keeps its frequency and phase, from which the manager's instances slew to FSW_AUX. -/
def State.syncLoss (s : State) (hz : Option Rat) : State :=
  if s.bit Od.CNV_AUX_STATUS 3 ∧ s.syncGone hz then
    let s := ((s.setBit Od.CNV_AUX_STATUS 3 false).setBit Od.CNV_AUX_STATUS 4 false).setN Od.CNV_F_SYNC_IN 0
    ((s.modAux fun x => { x with syncHz := none }).count ctrSyncLoss).auxEvent 0x0A0E 10 0
  else s

def execSyncInLoss (r : SyncReading) (s : State) : Res := reply s ((s.elapse r.dt).syncLoss r.hz)

/-! ### AUX48 (R317) -/

def State.aux48Effect (who : Requester) (v : Nat) (s : State) : Except Nat State :=
  refuseIf (2 ≤ v) 0x06090030 <|
  refuseIf (!s.owns who .aux) 0x08000022 <|
  .ok (((s.setFlag Od.CNV_AUX48_EN (v = 1)).setBit Od.CNV_AUX_STATUS 15 false).aux48)

def State.writeAux48 (s : State) (who : Requester) (v : Nat) : State :=
  s.request who Od.CNV_AUX48_EN .operator (State.aux48Effect who v)

def execAux48EnWrite (dt : Nat) (who : Requester) (value : BitVec 8) (s : State) : Res :=
  reply s ((s.elapse dt).writeAux48 who value.toNat)

/-- A measurement of the AUX48 current: above AUX48_I_MAX for 1 ms, it opens the switch and the trip is latched. -/
def State.aux48Current (s : State) (i : Rat) : State :=
  let s := s.senseAux48 i
  if s.bit Od.CNV_AUX_STATUS 14 ∧ heldFor s.aux.overTb (ms 1) s.tb then
    ((s.setBit Od.CNV_AUX_STATUS 14 false).setBit Od.CNV_AUX_STATUS 15 true).auxEvent 0x0A11 9 (cent i)
  else s

def execAux48Overcurrent (dt : Nat) (i : Rat) (s : State) : Res := reply s ((s.elapse dt).aux48Current i)

/-! ### Protection (R318, Table 12.3) -/

/-- IB above 58 V: the DAB pauses by normal turn-off, the buck continues. -/
def State.ibOver (s : State) (v : Rat) : State :=
  if s.bit Od.CNV_AUX_STATUS 1 ∧ ¬ s.aux.paused ∧ 58 < v then
    let s := (s.each ([8, 9] : List Cell) fun c s => if (s.cell c).mode = .switching then s.coastCell c else s).dropCmds [8, 9]
    let s := (s.senseIb v).modAux fun x => { x with paused := true }
    ((s.setBit Od.CNV_AUX_STATUS 1 false).setBit Od.CNV_AUX_STATUS 9 true).auxEvent 0x0A06 9 (cent v)
  else s

def execIbOvervoltagePause (dt : Nat) (v : Rat) (s : State) : Res := reply s ((s.elapse dt).ibOver v)

/-- The paused DAB resumes when IB has fallen below IB_SET. -/
def State.dabResume (s : State) : State :=
  if s.aux.paused ∧ s.num Od.CNV_V_IB < s.num Od.CNV_IB_SET then
    let s := s.sendTogether [.switch 8, .switch 9]
    (((s.setBit Od.CNV_AUX_STATUS 1 true).setBit Od.CNV_AUX_STATUS 9 false)).modAux fun x => { x with paused := false }
  else s

/-- A measurement of IB: above 60 V for 20 µs, AUX goes to FAULT. -/
def State.ibHigh (s : State) (v : Rat) : State :=
  let s := s.senseIb v
  if s.auxActive ∧ heldFor s.aux.ibHighTb (us 20) s.tb then s.raise 0x0A07 9 (cent v) [.aux] else s

def execIbOvervoltageTrip (dt : Nat) (v : Rat) (s : State) : Res := reply s ((s.elapse dt).ibHigh v)

/-- A measurement of IB: below 40 V for 1 ms in NORMAL or VR_START, the buck stops, VR passes to the battery, and the mode is
IB_START again. -/
def State.ibLost (s : State) (v : Rat) : State :=
  let s := s.senseIb v
  if s.buckOn ∧ heldFor s.aux.ibLowTb (ms 1) s.tb then (s.auxEvent 0x0A08 9 (cent v)).buckStop.enterIbStart.aux48 else s

def execIbLost (dt : Nat) (v : Rat) (s : State) : Res := reply s ((s.elapse dt).ibLost v)

/-- A measurement of VR: above 31.5 V for 100 µs, the buck goes off, VR_OV_LATCH is set and AUX goes to FAULT. -/
def State.vrHigh (s : State) (v : Rat) : State :=
  let s := s.senseVr v
  if s.auxActive ∧ heldFor s.aux.vrHighTb (us 100) s.tb then
    (s.setBit Od.CNV_AUX_STATUS 10 true).raise 0x0A09 10 (cent v) [.aux]
  else s

def execVrOvervoltage (dt : Nat) (v : Rat) (s : State) : Res := reply s ((s.elapse dt).vrHigh v)

/-- A measurement of V_BAT: below TOW_VBAT_MIN for 100 ms, TOW ends (R316). -/
def State.towLow (s : State) (v : Rat) : State :=
  let s := s.senseBat v
  if s.auxMode = 4 ∧ heldFor s.aux.batLowTb (ms 100) s.tb then
    ((s.towStop.auxEvent 0x0A10 10 (cent v)).setAuxMode 5).aux48
  else s

def execTowBatteryLow (dt : Nat) (v : Rat) (s : State) : Res := reply s ((s.elapse dt).towLow v)

/-! ### The manager's instance (R311, R320) -/

/-- F_BUCK slews toward SYNC_IN, or FSW_AUX without it (R313, R314). -/
def State.buckFreq (s : State) (d : Rat) : State :=
  let base : Rat := s.nat Od.CNV_FSW_AUX
  let f := approach s.aux.fBuck (s.aux.syncHz.getD base) (s.num Od.CNV_SYNC_SLEW / 100 * base * d)
  (s.setN Od.CNV_F_BUCK f.floor.toNat).modAux fun x => { x with fBuck := f }

/-- The power that the DAB may bring into IB: 10 kW, falling linearly to 0 between 450 V and DAB_STOP_V (R304), derated
(Table 14.4). -/
def State.dabPower (s : State) : Rat :=
  let v0 := s.num Od.CNV_DAB_STOP_V
  10000 * clampQ 0 1 ((s.vDc - v0) / (450 - v0)) * s.num (Od.THM_DERATE 3)

/-- I_VR from the buck's low-side shunts, P_IB, the energy into VR and the time in TOW. The manual gives no way to form P_IB
where a stage feeds IB: it is open between 0 and the stage's limit, 1.5 kW in TOW (R304, R316). -/
def State.auxMeasure (s : State) (ticks : Nat) : State :=
  let on := s.bit Od.CNV_AUX_STATUS 0
  let i : Rat := if on then ((List.range 4).map fun k => -(s.num (Od.SH_CURRENT (32 + k)))).sum else 0
  let feeds := s.bit Od.CNV_AUX_STATUS 1 || s.auxMode == 4
  let p : Rat := if feeds then clampQ 0 (if s.auxMode = 4 then 1500 * s.num (Od.THM_DERATE 3) else s.dabPower) (Config.freeRat s.fresh) else 0
  let s := (s.when feeds fun s => s.draw).setQ Od.CNV_P_IB p
  let s := (s.setQ Od.CNV_I_VR i).modAux fun x => { x with
    energy := if s.buckOn then x.energy + max 0 (i * s.num Od.CNV_V_VR) * ticks / 100000000 else x.energy
    towTicks := if s.auxMode = 4 then x.towTicks + ticks else x.towTicks }
  (s.setN Od.CNV_E_VR_J s.aux.energy.floor.toNat).setN Od.CNV_TOW_TIME_s (s.aux.towTicks / sec 1)

/-- VR_REF moves to VR_TARGET: at the soft-start rate in VR_START, which ends there in NORMAL, at VR_SLEW in NORMAL. -/
def State.vrMove (s : State) (d : Rat) : State :=
  let m := s.auxMode
  if m ≠ 2 ∧ m ≠ 3 then s
  else
    let r := approach (s.num Od.CNV_VR_REF) (s.num Od.CNV_VR_TARGET)
      ((if m = 2 then s.aux.vrRate else s.num Od.CNV_VR_SLEW) * d)
    let s := (s.setQ Od.CNV_VR_REF r).setQ (Od.LU_REF 16) r
    let s := if m = 2 ∧ r = s.num Od.CNV_VR_TARGET then
        (s.setAuxMode 3).vrBack
      else s
    s.noteSlewing

/-- An instance of the auxiliary converter manager, every 200 µs. -/
def State.auxInstance (s : State) : State :=
  let ticks := s.tb - s.aux.lastTb
  let d : Rat := (ticks : Rat) / 100000
  let s := ((s.modAux fun x => { x with lastTb := s.tb }).buckFreq d).auxMeasure ticks
  let s := (s.vrMove d).setQ (Od.LU_REF 17) s.ibRef
  let s := s.dabResume
  let s := if s.auxActive ∧ s.auxMode = 5 ∧ s.towOk ∧ s.vDc < 450 then s.enterTow else s
  s.aux48

/-! ### Stage modulators (R305, R306, R335, R336) -/

/-- The peak-current command of the buck: the smaller output of LU16 and LU22; the other counts as saturated (R336). -/
def State.buckCommand (s : State) : State × Rat :=
  let a := (s.lu 16).u
  let b := (s.lu 22).u
  if !(s.lu 16).running then (s, if (s.lu 22).running then b else 0)
  else if (s.lu 22).running then
    let gov := decide (b < a)
    let s := s.modLu (if gov then 16 else 22) fun x => { x with satHi := true, notSelected := true }
    let s := s.modLu (if gov then 22 else 16) fun x => { x with notSelected := false }
    (s.setBit Od.LV_LV_STATUS 6 gov, min a b)
  else (s.setBit Od.LV_LV_STATUS 6 false, a)

/-- In a phase's period PH_I_MAX turns the high side off before the compensated command does (R305). -/
def State.peakDecides (s : State) (ph : Nat) (cmd : Rat) : Bool :=
  let l := s.num Od.CNV_L_PH
  let a := (s.num Od.CNV_V_IB - s.num Od.CNV_V_VR) / l
  let b := s.num Od.CNV_V_VR / (2 * l)
  let lim := s.num Od.CNV_PH_I_MAX * s.num (Od.THM_DERATE 3)
  decide (0 < a) && decide ((lim - s.valley ph) * (a + b) < (cmd - s.valley ph) * a)

/-- The window of BUCK_LIMIT: 10 ms, more than half of any phase's periods. -/
def State.buckWindow (s : State) (hits : List Bool) : State :=
  let s := s.modAux fun x => { x with
    limN := x.limN + 1
    limHits := (List.range 4).map fun k => x.limHits.getD k 0 + if hits.getD k false then 1 else 0 }
  if s.tb < s.aux.limTb + ms 10 then s
  else
    let at_ := s.aux.limHits.any fun h => decide (s.aux.limN < 2 * h)
    let new := at_ && !s.bit Od.CNV_AUX_STATUS 11
    let s := s.setBit Od.CNV_AUX_STATUS 11 at_
    let s := s.modAux fun x => { x with limTb := s.tb, limN := 0, limHits := [0, 0, 0, 0] }
    s.when new fun s => s.auxEvent 0x0A0A 10 (cent (s.num Od.CNV_PH_I_MAX))

/-- A period of the buck: the phases are compared, but in load release, where no new valley is sampled; outside TOW, diode
emulation and the current limit; in NORMAL, SYNC_OUT runs from here on, unless a load release holds it low (R315). -/
def State.buckPeriod (s : State) : State :=
  let rel := s.bit Od.CNV_AUX_STATUS 8
  let s := if rel then s else s.noteValleys
  if s.buckOn then
    let s := s.modAux fun x => { x with syncOut := s.auxMode == 3 && !rel }
    let r := s.buckCommand
    let s := r.1
    let live := s.livePhases
    let s := s.setBit Od.CNV_AUX_STATUS 7 (live.any fun k => decide (s.valley k ≤ 0))
    s.buckWindow ((List.range 4).map fun k => live.contains k && s.peakDecides k r.2)
  else s

/-- Each leg of a modulating stage cell takes the pulse that its modulator asks for in the period, as a delay and a length in
ticks; a shed buck phase and the buck in load release take none (R308, R312), nor does a chopper leg at duty 0 or 1. -/
def State.stageCycles (s : State) (c : Cell) (pulses : List (Nat × Nat)) : State :=
  s.each (cellLegList c) fun l s =>
    match pulses[legPos l]? with
    | none => s
    | some p =>
      if (c.val = 10 ∧ (s.bit Od.CNV_AUX_STATUS 8 ∨ s.aux.shed.contains (legPos l))) ∨
          (c.val = 14 ∧ (s.num Od.DCL_CHOP_DUTY = 0 ∨ s.num Od.DCL_CHOP_DUTY = 1)) then s
      else s.stageLeg l (s.tb + p.1) (s.tb + p.1 + p.2)

/-- Switching time of a stage cell goes on (R95); its slowest period is 200 µs (Table 3.3). -/
def State.stageTime (s : State) (c : Cell) : State :=
  s.modCell c fun x => { x with
    swTicks := x.swTicks + (if s.tb - x.periodTb ≤ us 200 then s.tb - x.periodTb else 0), periodTb := s.tb }

/-- The shunt samples of a stage cell's legs taken at this instant (R98, R101, R127). -/
def State.stageSamples (s : State) (c : Cell) (raw : List Int) : State :=
  s.each (cellLegList c) fun l s =>
    match raw[legPos l]? with
    | some r => s.shuntSample l r (s.stageOk l) (s.dieTb (cellLink c))
    | none => s

/-- A period of C13: the phase shift commanded is compared with the last period's (R344), and while charging it is multiplied by
GEN_FACTOR, with GEN_SCALED while that is below 1 (R335). -/
def State.packPeriod (s : State) : State :=
  let q := s.stageIn.get 13
  let g := if s.bit Od.EXP_EXP_STATUS 2 then 1 else s.num Od.DCL_GEN_FACTOR
  let s := s.modChg fun x => { x with phaseKept := x.lastPhase == q, lastPhase := q, applied := q * g }
  s.setBit Od.CHR_CHG_STATUS 5 (s.bit Od.CHR_CHG_STATUS 6 && decide (g < 1))

/-- What a period of a stage cell begins with. -/
def State.stagePeriod (s : State) (c : Cell) (pulses : List (Nat × Nat)) : State :=
  let s := ((s.phaseStart c).stageTime c).stageCycles c pulses
  match c.val with
  | 9 => s.dabShare (s.num Od.CNV_DAB_IPK)
  | 10 => s.buckPeriod
  | 13 => s.packPeriod
  | _ => s

/-- The samples of a stage cell at this instant enter whether it modulates or not; a period starts while it does. -/
def State.stageStart (s : State) (c : Cell) (raw : List Int) (pulses : List (Nat × Nat)) : State :=
  if !s.bringup.islandOn || !stageCell c then s
  else
    let s := s.stageSamples c raw
    if (s.cell c).mode = .switching then (s.periodStart c).stagePeriod c pulses else s

def execStagePeriodStart (r : StageReading) (c : Cell) (s : State) : Res :=
  reply s ((s.elapse r.dt).stageStart c r.raw r.pulses)

end Sys2Proof.Machine
end

