-- ==== Sys2Proof/Machine/Charging.lean ====
section
/-! DEFINITION. Chapter 13: the AC port, the charge session, the HV instance of the charge state machine, the BMS
messages, pack loss and export (R326 to R335, R337 to R339, R342 to R344, R347, R348, R352). -/
namespace Sys2Proof.Machine

def ctrRelayMain : Counter := ⟨Od.CHR_RELAY_OPS_MAIN, 32, Od.CHR_CHG_CNT_STATUS, 0, 0x0B⟩
def ctrRelayPre : Counter := ⟨Od.CHR_RELAY_OPS_PRE, 32, Od.CHR_CHG_CNT_STATUS, 1, 0x0B⟩
def ctrPackLost : Counter := ⟨Od.HV_PACK_LOSTS, 16, Od.HV_HV_CNT_STATUS, 0, 0x0B⟩
def ctrBmsTimeout : Counter := ⟨Od.HV_BMS_TIMEOUTS, 16, Od.HV_HV_CNT_STATUS, 1, 0x0B⟩
def ctrExpTrip : Counter := ⟨Od.EXP_EXP_TRIPS, 16, Od.EXP_EXP_CNT_STATUS, 0, 0x0B⟩

/-- Bit `i` of CHG_STATUS. -/
def State.chgBit (s : State) (i : Nat) : Bool := s.bit Od.CHR_CHG_STATUS i
def State.setChg (s : State) (i : Nat) (b : Bool) : State := s.setBit Od.CHR_CHG_STATUS i b
def State.session (s : State) : Nat := s.nat Od.CHG_SESSION_STEP
/-- A step of the session begins now. -/
def State.setSession (s : State) (n : Nat) : State :=
  (s.setN Od.CHG_SESSION_STEP n).modChg fun x => { x with stepTb := s.tb }
def State.hvState (s : State) : Nat := s.nat Od.HV_HV_STATE

/-- Voltage in 0.1 V and current in 0.1 A of an event of CHG: of the pack side (R358). -/
def State.hvDetail (s : State) : Nat := low16 (s.num Od.DCL_V_DC * 10) + 65536 * low16 (s.num Od.CHR_PACK_I * 10)
/-- The same of the AC side. -/
def State.acDetail (s : State) : Nat := low16 (s.num (Od.CHR_V 0) * 10) + 65536 * low16 (s.num Od.CHR_I_AC * 10)

def State.chgEvent (s : State) (code detail : Nat) : State := (s.event code 4 detail).lastEvent .chg code

/-- CHG charges: ACTIVE or STOPPING in mode 1 with a session beyond step 0. -/
def State.sessionRuns (s : State) : Bool :=
  (s.ds .chg == .active || s.ds .chg == .stopping) && s.nat Od.CHG_CHG_MODE == 1 && s.session != 0

/-- Export's output is on. -/
def State.exporting (s : State) : Bool := s.bit Od.EXP_EXP_STATUS 2

/-! ### Limits (R329, R330, R334, R337) -/

/-- PILOT_I of a duty in percent (Table 13.3). -/
def pilotCurrent (duty : Rat) : Rat :=
  if duty < 8 ∨ 97 < duty then 0
  else if duty < 10 then 6
  else if duty ≤ 85 then duty * (6 / 10)
  else if duty ≤ 96 then (duty - 64) * (5 / 2)
  else 80

/-- AC_I_LIM_ACT, and the OUT_MAX of LU19 that follows it. -/
def State.acLimit (s : State) : State :=
  let i := min (min (s.num Od.CHR_PILOT_I) (s.num Od.CHR_PROX_I)) (s.num Od.CHR_AC_I_MAX)
  (s.setQ Od.CHR_AC_I_LIM_ACT i).setQ (Od.LU_OUT_MAX 19) (Config.sqrt 2 * i)

/-- Table 13.4: the rated current of a resistance, whether it is the export adapter; none outside every band. -/
def proxCode (ohm : Rat) : Option (Rat × Bool) :=
  if 1000 ≤ ohm ∧ ohm ≤ 2200 then some (13, false)
  else if 400 ≤ ohm ∧ ohm ≤ 936 then some (20, false)
  else if 164 ≤ ohm ∧ ohm ≤ 308 then some (32, false)
  else if 80 ≤ ohm ∧ ohm ≤ 140 then some (63, false)
  else if 2400 ≤ ohm ∧ ohm ≤ 3000 then some (0, true)
  else none

/-! ### Stops (R333, Table 13.6) -/

/-- The immediate stop of a session: event 0x0B1B (STOP), cells off, relays and S2 open. -/
def State.stopSession (s : State) : State :=
  if s.sessionRuns then s.raise 0x0B1B 4 s.acDetail [.chg] else s

/-- REF of LU20 begins its ramp to 0 within 100 ms. -/
def State.rampDown (s : State) : State :=
  if s.chg.stopFrom.isSome then s
  else s.modChg fun x => { x with stopFrom := some (x.ccRef, s.tb), go := false, expTb := s.tb, expDown := true }

/-- A normal stop of CHG, as a host's STOP gives it: STOPPING while the output ramps down; the HV instance is OFF. -/
def State.stopCharge (s : State) (trig : Nat) : State :=
  let s := (s.goto .chg .stopping trig).rampDown
  if 9 ≤ s.hvState then s else s.setHvState 0

/-- Nothing is connected to the port any more. -/
def State.cableGone (s : State) : State := (s.setSession 0).modChg fun x => { x with digitalLogged := false }

/-- Export ends at once (R352). -/
def State.stopExport (s : State) : State :=
  if s.ds .chg = .active ∧ s.nat Od.CHG_CHG_MODE = 2 then s.raise 0x0B1B 4 s.acDetail [.chg] else s

/-! ### Port (R328 to R331) -/

def pilotCode : PilotState → Nat
  | .a => 0 | .b => 1 | .c => 2 | .d => 3 | .e => 4 | .f => 5 | .invalid => 6

/-- A new pilot state: states other than B and C end a session at once, B while S2 is closed ends it normally, A means
that the cable is gone. -/
def State.pilotChange (s : State) (p : PilotState) : State :=
  let s := (s.setN Od.CHR_PILOT_STATE (pilotCode p)).setChg 11 (p = .b || p = .c)
  match p with
  | .a => s.stopSession.cableGone
  | .b => if s.sessionRuns ∧ s.chgBit 10 ∧ s.ds .chg = .active then s.stopCharge 0xFF else s
  | .c => s
  | _ => s.stopSession

/-- The class of a pilot period by its plateaus, or of a steady level given as both (Table 13.2); states B and C want the
negative plateau at or below −10.5 V, without which, as without oscillation, the pilot is invalid. -/
def pilotClass (pos neg : Rat) : PilotState :=
  if pos ≤ -21 / 2 then .f
  else if 21 / 2 ≤ pos then .a
  else if 9 / 2 ≤ pos then (if neg ≤ -21 / 2 then (if 15 / 2 ≤ pos then .b else .c) else .invalid)
  else if 3 / 2 ≤ pos then .d
  else if -3 / 2 ≤ pos then .e else .invalid

/-- A pilot period, or a reading without oscillation: a state seen in 10 periods in a row, or for 10 ms while there is no
oscillation, is accepted (R328). -/
def State.pilotTake (s : State) (pos neg : Rat) : State :=
  let p := pilotClass pos neg
  let osc := decide (neg < pos)
  let x := s.chg
  let same := decide (p = x.pilotSeen)
  let run := if osc then (if same then min 10 (x.pilotRun + 1) else 1) else 0
  let tb := if same && !osc && x.pilotRun == 0 then x.pilotTb else s.tb
  let s := s.modChg fun x => { x with pilotSeen := p, pilotRun := run, pilotTb := tb }
  let accepted := if osc then run == 10 else decide (tb + ms 10 ≤ s.tb)
  if accepted ∧ s.nat Od.CHR_PILOT_STATE ≠ pilotCode p then s.pilotChange p else s

def execPilotStateChange (dt : Nat) (p : PilotLevels) (s : State) : Res :=
  reply s ((s.elapse dt).pilotTake p.pos p.neg)

/-- A new pilot duty, in percent. -/
def State.pilotDuty (s : State) (duty : Rat) : State :=
  let s := ((s.setQ Od.CHR_PILOT_DUTY duty).setQ Od.CHR_PILOT_I (pilotCurrent duty)).acLimit
  let digital := decide (3 ≤ duty ∧ duty < 7)
  let s := s.setChg 0 digital
  if digital ∧ ¬ s.chg.digitalLogged then
    (s.modChg fun x => { x with digitalLogged := true }).chgEvent 0x0B04 s.acDetail
  else s

def execPilotDutyChange (dt : Nat) (duty : Rat) (s : State) : Res := reply s ((s.elapse dt).pilotDuty duty)

/-- A new proximity resistance. -/
def State.proximity (s : State) (ohm : Rat) : State :=
  let s := s.setQ Od.CHR_PROX_OHM ohm
  match proxCode ohm with
  | some (i, adapter) =>
    let s := ((s.setQ Od.CHR_PROX_I i).setChg 12 (!adapter)).setChg 1 adapter
    let s := (s.setBit Od.EXP_EXP_STATUS 1 adapter).acLimit
    if adapter then s.stopSession.cableGone else s.stopExport
  | none =>
    let s := ((s.setQ Od.CHR_PROX_I 0).setChg 12 false).setChg 1 false
    let s := ((s.setBit Od.EXP_EXP_STATUS 1 false).acLimit).chgEvent 0x0B05 s.acDetail
    s.stopSession.stopExport.cableGone

def execProximityChange (dt : Nat) (ohm : Rat) (s : State) : Res := reply s ((s.elapse dt).proximity ohm)

/-- A mean square lies between two rms voltages. -/
def msIn (q lo hi : Rat) : Bool := decide (lo * lo ≤ q ∧ q ≤ hi * hi)

/-- The last window of 20 ms read the classified supply outside ±10 % of its band's limits, or outside 45 to 65 Hz (R331). -/
def State.supplyOut (s : State) : Bool :=
  let v := s.chg.lineMs
  let f := s.num Od.CHR_F_LINE
  let three (q : Rat) : Bool := msIn q (1764 / 10) (3355 / 10)
  decide (f < 45) || decide (65 < f) || (match s.nat Od.CHR_AC_PHASES with
    | 3 => !(three v[0] && three v[1] && three v[2])
    | 1 => !msIn v[0] (765 / 10) (2915 / 10)
    | _ => false)

/-- The supply has been out of its window for 20 ms. -/
def State.supplyLost (s : State) : State :=
  if s.chgBit 13 ∧ s.supplyOut then ((s.setChg 13 false).chgEvent 0x0B06 s.acDetail).stopSession else s

def execSupplyOutOfWindow (dt : Nat) (s : State) : Res := reply s (s.elapse dt).supplyLost

/-! ### Session (R332, Table 13.5) -/

/-- Step 1: a cable code with the pilot in state B. -/
def State.openSession (s : State) : State :=
  if s.chgBit 12 ∧ s.nat Od.CHR_PILOT_STATE = 1 ∧ s.session = 0 then (s.acLimit.setSession 1).chgEvent 0x0B03 s.acDetail
  else s

def execChargeSessionOpen (dt : Nat) (s : State) : Res := reply s (s.elapse dt).openSession

/-- Step 2 by AUTO_CHARGE: CHG arms, unless a traction drive is armed or runs (R327) or UV_TRIP_LATCH is set (R288). -/
def State.autoCharge (s : State) : State :=
  let idle (d : Drive) : Bool := !(s.ds d == .armed || s.ds d == .active || s.ds d == .stopping)
  if s.flag Od.CHG_AUTO_CHARGE ∧ s.ds .chg = .standby ∧ s.session = 1 ∧ s.nat Od.CHG_CHG_MODE = 1 ∧ idle .tra ∧ idle .trb ∧
      ¬ s.bit Od.DCL_DCL_STATUS 12 ∧ ¬ (s.drv .chg).tqo ∧ ¬ (s.drv .chg).tqoLink ∧ (s.drv .chg).arming = .none then
    s.startArming .chg .auto
  else s

def execAutoChargeStart (dt : Nat) (s : State) : Res := reply s (s.elapse dt).autoCharge

/-- The phases of the supply: 3, 1, or 0 out of window (R331). -/
def State.supplyPhases (s : State) : Nat :=
  let v := s.chg.lineMs
  let f := s.num Od.CHR_F_LINE
  if f < 45 ∨ 65 < f then 0
  else if msIn v[0] 196 305 ∧ msIn v[1] 196 305 ∧ msIn v[2] 196 305 then 3
  else if msIn v[0] 85 265 ∧ v[1] < 900 ∧ v[2] < 900 then 1 else 0

/-- The square of the rectified line peak: line to line with three phases, line to neutral with one. -/
def State.peakSq (s : State) : Rat := (if s.nat Od.CHR_AC_PHASES = 3 then 6 else 2) * s.chg.lineMs[0]

/-- Set-point of the PFC bus, raised to 1.08 times the rectified line peak (Table 13.22). -/
def State.pfcSet (s : State) : Rat := max (s.num Od.CHR_PFC_BUS_SET) (108 / 100 * Config.sqrt s.peakSq)

/-- No supply seen within AC_WAIT_ms after step 3: S2 opens and the session is at step 1 again. -/
def State.acWaitOver (s : State) : State :=
  if s.session = 3 ∧ s.supplyPhases = 0 ∧ s.chg.stepTb + ms (s.nat Od.CHR_AC_WAIT_ms) ≤ s.tb then
    (((s.setChg 10 false).setSession 1).modChg fun x => { x with go := false }).chgEvent 0x0B06 s.acDetail
  else s

def execAcWaitTimeout (dt : Nat) (s : State) : Res := reply s (s.elapse dt).acWaitOver

/-- The PFC bus has reached 0.9 × the rectified line peak. -/
def State.busReached (s : State) : Bool := decide (81 / 100 * s.peakSq ≤ s.num Od.CHR_V_PFC * s.num Od.CHR_V_PFC)

/-- Step 5 has taken 500 ms without the bus. -/
def State.prechargeLate (s : State) : State :=
  if s.session = 5 ∧ ¬ s.busReached ∧ s.chg.stepTb + ms 500 ≤ s.tb then s.raise 0x0B08 4 s.acDetail [.chg] else s

def execPfcPrechargeTimeout (dt : Nat) (s : State) : Res := reply s (s.elapse dt).prechargeLate

/-- A cell modulates from now on. -/
def State.stageOn (s : State) (c : Cell) : State := s.modCell c fun x => { x with mode := .switching }

/-- Step 3: S2 closes. -/
def State.step3 (s : State) : State := (s.setChg 10 true).setSession 3

/-- Steps 4 and 5: the supply is classified, a welded relay found, and the pre-charge relay closes. -/
def State.step4 (s : State) : State :=
  let n := s.supplyPhases
  if n = 0 then s
  else
    let s := (s.setN Od.CHR_AC_PHASES n).setChg 13 true
    if 30 ≤ s.chg.outlet then ((s.setSession 4).setChg 14 true).raise 0x0B07 4 s.acDetail [.chg]
    else ((s.setChg 9 true).count ctrRelayPre).setSession 5

/-- Step 6: the main relays close. -/
def State.step6 (s : State) : State :=
  (((s.setChg 8 true).count ctrRelayMain).setSession 6).modChg fun x => { x with preOpenTb := some (s.tb + ms 20) }

/-- Step 7: the pre-charge relay is open again; C11 switches and the PFC bus ramps from its voltage. -/
def State.step7 (s : State) : State :=
  let v := s.num Od.CHR_V_PFC
  let s := (((s.setChg 9 false).setChg 7 true).stageOn 11).modChg fun x => { x with preOpenTb := none, pfcRef := v }
  (s.setQ (Od.LU_REF 18) v).setSession 7

/-- Step 8: C12 and C13 switch, the charge current ramps from 0, and the HV instance enters CC. -/
def State.step8 (s : State) : State :=
  let s := (((s.setChg 6 true).sendTogether [.switch 12, .switch 13]).setQ (Od.LU_REF 20) 0).modChg fun x => { x with ccRef := 0 }
  (s.setSession 8).setHvState 4

/-! ### Pack checks (R342) -/

/-- The pack reads as shorted, as missing. -/
def State.packShorted (s : State) : Bool := s.bit Od.HV_BMS_FLAGS 0 && decide (s.num Od.DCL_V_DC < 50)
def State.packMissing (s : State) : Bool :=
  let v := s.num Od.DCL_V_DC
  let p := s.num Od.HV_BMS_V_PACK
  !s.bit Od.HV_BMS_FLAGS 0 || decide (v < 450) || decide (3 / 100 * p + 5 < |v - p|)

/-- CHECK passes. -/
def State.packOk (s : State) : Bool := !s.packShorted && !s.packMissing && s.chgBit 2

/-- The pack goes missing: its stages off, the session rests at step 1 with CHG ACTIVE (Table 13.9). -/
def State.hvMissing (s : State) : State :=
  ((s.chargerOff.relaysOpen.modChg fun x => { x with go := false }).setHvState 9).chgEvent 0x0B0B s.hvDetail

/-- CHECK at an instance: shorted, missing, or the session goes on at step 3. -/
def State.hvCheckStep (s : State) : State :=
  if s.packShorted then (s.setHvState 10).raise 0x0B0C 4 s.hvDetail [.chg]
  else if s.packMissing then s.hvMissing
  else if s.session = 2 ∧ s.packOk ∧ s.bit Od.HV_BMS_FLAGS 1 ∧ 6 ≤ s.num Od.CHR_AC_I_LIM_ACT then s.step3
  else s

/-- A charge that is complete, or that the BMS no longer permits: DONE, a normal stop, CHG stays ACTIVE (R338, R333). -/
def State.hvDone (s : State) : State := (s.setHvState 6).rampDown.chgEvent 0x0B10 s.hvDetail

/-! ### Start and recharge (R327, R332, R347) -/

/-- Rated voltage, frequency, power and phases of an export mode (Table 13.17). -/
def exportRated (m : Nat) : Rat × Rat × Rat × Nat :=
  match m with
  | 2 => (2771 / 10, 60, 30000, 3)
  | 3 => (230, 50, 7400, 1)
  | _ => (2309 / 10, 50, 30000, 3)

/-- The start conditions of export. -/
def State.exportOk (s : State) : Bool :=
  s.flag Od.EXP_EXPORT_EN && s.nat Od.CHR_PILOT_STATE == 0 && s.chgBit 1 && decide (s.chg.outlet < 30) &&
    s.bit Od.HV_BMS_FLAGS 3

/-- Export starts: the main relays close at an output of 0 V, which then ramps (R348). -/
def State.runExport (s : State) (trig : Nat) : State :=
  let s := s.goto .chg .active trig
  let s := s.sendTogether [.switch 11, .switch 12, .switch 13]
  let s := (((s.setChg 8 true).setChg 7 true).setChg 6 true).count ctrRelayMain
  let s := ((s.setBit Od.EXP_EXP_STATUS 2 true).setBit Od.EXP_EXP_STATUS 3 true).chgEvent 0x0B18 s.acDetail
  s.modChg fun x => { x with expTb := s.tb, expDown := false, stopFrom := none }

/-- A traction drive is ARMED, ACTIVE or STOPPING: RUN of CHG is refused (R327). -/
def State.tractionLive (s : State) : Bool :=
  ([.tra, .trb] : List Drive).any fun d => s.ds d == .armed || s.ds d == .active || s.ds d == .stopping

/-- ARM of TRA and TRB is refused (R327). -/
def State.chargeInterlock (s : State) : Bool := s.chgBit 12 || s.chgBit 8

/-- RUN of an armed CHG in the mode of CHG_MODE; none where it is refused. -/
def State.runChg (s : State) (trig : Nat) : Option State :=
  if s.tractionLive then none
  else if s.nat Od.CHG_CHG_MODE = 2 then
    if s.exportOk then some (s.runExport trig) else none
  else some (s.runCharge trig)

/-! ### The HV instance (R337 to R339) -/

/-- HV_CV_ACT. -/
def State.hvCvAct (s : State) : Rat :=
  min (min (s.num Od.HV_HV_CV_V) (s.num Od.HV_BMS_CV_V)) (s.num Od.DCL_CHOP_START - 10)

/-- P_AC allowed (R337, R331). -/
def State.acPower (s : State) : Rat :=
  let i := s.num Od.CHR_AC_I_LIM_ACT
  if s.nat Od.CHR_AC_PHASES = 3 then min 44000 ((s.num (Od.CHR_V 0) + s.num (Od.CHR_V 1) + s.num (Od.CHR_V 2)) * i)
  else if s.nat Od.CHR_AC_PHASES = 1 then min 7400 (s.num (Od.CHR_V 0) * i) else 0

def State.hvAcCurrent (s : State) : Rat := 94 / 100 * s.acPower / s.num Od.DCL_V_DC

/-- The configured current limit, reduced to the taper current in TOPOFF. -/
def State.hvOwn (s : State) : Rat :=
  if s.hvState = 7 then min (s.num Od.HV_HV_CC_A) (s.num Od.HV_HV_TAPER_A) else s.num Od.HV_HV_CC_A

/-- HV_I_LIM_ACT. -/
def State.hvLimit (s : State) : Rat :=
  min (min s.hvOwn (s.num Od.HV_BMS_I_CHG)) (min s.hvAcCurrent (s.num (Od.THM_DERATE 4) * s.num Od.HV_HV_CC_A))

/-- Limits in force, the bits that name the smallest term, and the references of LU20 and LU21. -/
def State.hvLimits (s : State) : State :=
  let i := s.hvLimit
  let v := s.hvCvAct
  let d : Rat := (s.tb - s.chg.rampTb : Nat)
  let on := s.chgBit 6
  let ref := if on then (if s.chg.ccRef ≤ i then min i (s.chg.ccRef + 50 * d / 100000000) else i) else 0
  let s := ((s.setQ Od.HV_HV_CV_ACT v).setQ (Od.LU_REF 21) v).setQ Od.HV_HV_I_LIM_ACT i
  let s := s.setChg 4 (decide (s.hvAcCurrent ≤ i) && decide (i < s.hvOwn))
  let s := s.setChg 3 (decide (s.num Od.HV_BMS_I_CHG ≤ i) && decide (i < s.hvOwn))
  (s.setQ (Od.LU_REF 20) ref).modChg fun x => { x with ccRef := ref }

/-- LU18's reference ramps at 10 V/ms to the set-point of the PFC bus. -/
def State.pfcRamp (s : State) : State :=
  if s.chgBit 7 ∧ ¬ s.exporting then
    let d : Rat := ((s.tb - s.chg.rampTb : Nat) : Rat) / 100000
    let r := approach s.chg.pfcRef s.pfcSet (10 * d)
    (s.setQ (Od.LU_REF 18) r).modChg fun x => { x with pfcRef := r }
  else s

/-- The normal stop's ramp: LU20's reference falls to 0 within 100 ms; then the cells are off; with less than 1 A through the
relays, they and S2 open, and a STOPPING drive is in STANDBY (R333). -/
def State.stopRamp (s : State) : State :=
  match s.chg.stopFrom with
  | none => s
  | some (i, t) =>
    let past : Rat := (s.tb - t : Nat)
    let r := max 0 (i - i * past / 10000000)
    if s.tb < t + ms 100 then (s.setQ (Od.LU_REF 20) r).modChg fun x => { x with ccRef := r }
    else if s.chgBit 6 ∨ s.chgBit 7 then s.chargerOff.modChg fun x => { x with stopFrom := some (i, t) }
    else if 1 ≤ s.num Od.CHR_I_AC then s
    else if s.ds .chg = .stopping then s.goto .chg .standby 0xFF
    else s.chargerOff.relaysOpen

/-- The session's next step, when its condition is met. -/
def State.sessionStep (s : State) : State :=
  match s.session with
  | 1 => if s.chg.go ∧ s.hvState = 1 ∧ s.chgBit 12 ∧ s.chg.stopFrom.isNone then s.setSession 2 else s
  | 3 => s.step4
  | 5 => if s.busReached then s.step6 else s
  | 6 => (match s.chg.preOpenTb with
    | some t => if t ≤ s.tb then s.step7 else s
    | none => s)
  | 7 => if |s.num Od.CHR_V_PFC - s.pfcSet| ≤ 2 / 100 * s.pfcSet ∧ s.hvState = 1 ∧ s.packOk then s.step8 else s
  | _ => s

/-- The timed condition of the instance's state that holds now: 0 none (Table 13.9). -/
def State.hvCond (s : State) : Nat :=
  match s.hvState with
  | 4 => if s.chgBit 6 ∧ (s.lu 21).running ∧ ¬ (s.lu 21).notSelected then 1 else 0
  | 5 => if s.num Od.CHR_PACK_I < s.num Od.HV_HV_TAPER_A then 1 else 0
  | 9 => if s.packOk then 1 else 0
  | _ => 0

/-- The recharge trigger. -/
def State.recharge (s : State) : Bool :=
  decide (s.num Od.DCL_V_DC < s.hvCvAct - s.num Od.HV_HV_RECHARGE_DV) || s.bit Od.HV_BMS_FLAGS 2

/-- What the charge manager does in the present state of the instance. -/
def State.hvAct (s : State) : State :=
  match s.hvState with
  | 1 => s.hvCheckStep.sessionStep
  | 8 => if s.recharge then s.hvCheck.chgEvent 0x0B11 s.hvDetail else s
  | _ => s

/-- Currents and powers of the charger while it runs: the manual gives no way to form I_AC, P_AC and PACK_I from
converter inputs, so their values are open. -/
def State.chgMeasure (s : State) : State :=
  let k := s.fresh
  let on := s.chgBit 6
  let iPack : Rat := if on then Config.freeRat k else 0
  let pAc : Rat := if s.chgBit 7 then Config.freeRat (k + 1) else 0
  let iAc : Rat := if s.chgBit 7 then |Config.freeRat (k + 2)| else 0
  let s := s.when (on || s.chgBit 7) fun s => s.draw.draw.draw
  let s := ((s.setQ Od.CHR_PACK_I iPack).setQ Od.CHR_P_AC pAc).setQ Od.CHR_I_AC iAc
  s.setQ Od.CHR_P_DC (iPack * s.num Od.DCL_V_DC)

/-- Charge and energy counted since the last instance. -/
def State.chgCount (s : State) : State :=
  let d : Rat := ((s.tb - s.chg.countTb : Nat) : Rat) / 100000000
  let i := s.num Od.CHR_PACK_I
  let p := s.num Od.CHR_P_AC
  let s := s.modChg fun x => { x with
    countTb := s.tb, hvIn := x.hvIn + max 0 i * d, hvOut := x.hvOut + max 0 (-i) * d
    eIn := x.eIn + max 0 p * d, eOut := x.eOut + max 0 (-p) * d }
  let s := (s.setN Od.HV_HV_CHARGE_mAs (s.chg.hvIn * 1000).floor.toNat).setN Od.HV_HV_DISCHARGE_mAs
    (s.chg.hvOut * 1000).floor.toNat
  (s.setN Od.CHR_E_IMPORT_J s.chg.eIn.floor.toNat).setN Od.CHR_E_EXPORT_J s.chg.eOut.floor.toNat

/-! ### Export (R348) -/

/-- Rms voltage of an export phase, its load's wish `q` being open: within 3 % of its ramping rated voltage, down to 85 % in
droop. -/
def expVoltage (q target : Rat) (droop : Bool) : Rat :=
  clampQ ((if droop then 85 / 100 else 97 / 100) * target) (103 / 100 * target) q

/-- Rms current of an export phase: above 110 % of EXP_S_MAX at most 1.5 × rated (R348). -/
def expCurrent (q rated : Rat) (over_ : Bool) : Rat := if over_ then min q (3 / 2 * rated) else q

/-- Rated current per phase of an export mode (Table 13.17). -/
def exportAmps (m : Nat) : Rat :=
  match m with
  | 2 => 361 / 10 | 3 => 322 / 10 | _ => 433 / 10

/-- An instance of export: the ramp, the output's values, and the limits' bits. -/
def State.exportInstance (s : State) : State :=
  if ¬ s.exporting then s
  else
    let r := exportRated (s.nat Od.EXP_EXP_MODE)
    let past : Rat := (s.tb - s.chg.expTb : Nat)
    let full := if s.chg.expDown then ms 100 else ms (s.nat Od.EXP_EXP_RAMP_ms)
    let f : Rat := if s.chg.expDown then max 0 (1 - past / full) else min 1 (past / full)
    let target := f * r.1
    let phases := List.range r.2.2.2
    let k := s.fresh
    let p := Config.freeRat (k + 3)
    let va : Rat := |Config.freeRat (k + 4)|
    let droop := decide (s.num Od.HV_BMS_I_DIS * s.num Od.DCL_V_DC < p)
    let over_ := decide (11 / 10 * s.num Od.EXP_EXP_S_MAX * s.num (Od.THM_DERATE 4) < va)
    let amps := exportAmps (s.nat Od.EXP_EXP_MODE)
    let limited := over_ && phases.any fun i => decide (3 / 2 * amps ≤ |Config.freeRat (k + i)|)
    let deep := droop && phases.any fun i => decide (Config.freeRat (k + 5 + i) < 85 / 100 * target)
    let s := s.modChg fun x => { x with
      limTb := since limited x.limTb s.tb, overTb := since over_ x.overTb s.tb, deep := deep }
    let s := s.each phases fun i s => (s.setQ (Od.EXP_EXP_V i) (expVoltage (Config.freeRat (k + 5 + i)) target droop)).setQ
      (Od.EXP_EXP_I i) (expCurrent |Config.freeRat (k + i)| amps over_)
    let s := ((s.setQ Od.EXP_EXP_I_N |Config.freeRat (k + 8)|).setQ Od.EXP_EXP_P p).setQ Od.EXP_EXP_S va
    let s := { s with fresh := s.fresh + 9 }
    let s := (s.setBit Od.EXP_EXP_STATUS 6 droop).setBit Od.EXP_EXP_STATUS 5 limited
    let s := s.setBit Od.EXP_EXP_STATUS 3 (s.chg.expDown || decide (f < 1))
    if s.chg.expDown ∧ f = 0 ∧ s.ds .chg = .stopping then s.goto .chg .standby 0xFF else s

/-- An instance of the charge manager for CHG, every 1 ms. -/
def State.hvInstance (s : State) : State :=
  let s := s.chgMeasure.chgCount
  let s := s.setBit Od.EXP_EXP_STATUS 0 s.exportOk
  let st := s.hvState
  let half := decide (s.hvLimit < s.num Od.HV_HV_CC_A / 2)
  let s := s.modChg fun x => { x with hv := (x.hv.advance s.tb (charging st) half).note s.hvCond s.tb }
  let s := s.setQ Od.HV_HV_TIMER_min (s.chg.hv.timer / sec 60)
  let s := if st = 0 ∨ s.chg.stopFrom.isSome then (s.setChg 3 false).setChg 4 false else s.hvLimits
  let s := s.pfcRamp.stopRamp
  let s := if s.ds .chg = .active ∧ s.nat Od.CHG_CHG_MODE = 1 then s.hvAct else s
  s.exportInstance.modChg fun x => { x with rampTb := s.tb }

/-! ### Timers (R338, R339) -/

/-- A timed transition of the HV instance whose time has elapsed. -/
def State.hvTimed (s : State) : State :=
  let x := s.chg.hv
  match s.hvState with
  | 4 => if x.held 1 s.tb (sec 1) then s.setHvState 5 else s
  | 5 => if x.held 1 s.tb (sec 60) then (if s.flag Od.HV_HV_TOPOFF_EN then s.setHvState 7 else s.hvDone) else s
  | 7 => if x.entryTb + sec (60 * s.nat Od.HV_HV_TOPOFF_min) ≤ s.tb then s.hvDone else s
  | 6 => if x.entryTb + sec 10 ≤ s.tb then s.setHvState 8 else s
  | 9 => if x.held 1 s.tb (sec 5) ∧ s.ds .chg = .active then s.hvCheck else s
  | _ => s

def execChargeStateTimer (dt : Nat) (c : ChargeTarget) (s : State) : Res :=
  let s := s.elapse dt
  reply s (match c with | .hv => s.hvTimed | .lv => s.lvTimed)

/-- The safety timer of the HV instance has reached its limit. -/
def State.hvExpired (s : State) : State :=
  if charging s.hvState ∧ (sec (60 * s.nat Od.HV_HV_TIMER_LIMIT_min) : Rat) ≤ s.chg.hv.timer then
    (s.setHvState 11).raise 0x0B09 4 s.hvDetail [.chg]
  else s

def execSafetyTimerExpiry (dt : Nat) (c : ChargeTarget) (s : State) : Res :=
  let s := s.elapse dt
  reply s (match c with | .hv => s.hvExpired | .lv => s.lvExpired)

/-! ### BMS (R342, R343) -/

/-- Octets 0 to 7 of a frame, octet 0 in the low bits. -/
def octet (d : BitVec 64) (i : Nat) : Nat := d.toNat / 256 ^ i % 256
def octet16 (d : BitVec 64) (i : Nat) : Nat := octet d i + 256 * octet d (i + 1)

/-- The limits message: discarded as invalid with a reserved bit set or a voltage above 1,000 V. -/
def State.bmsLimits (s : State) (d : BitVec 64) : State :=
  let flags := octet d 6
  if 16 ≤ flags ∨ 10000 < octet16 d 0 then (s.setBit Od.HV_BMS_FLAGS 7 true).chgEvent 0x0B0F s.hvDetail
  else
    let alive := octet d 7
    let ok := s.chg.alive == some ((alive + 255) % 256)
    let s := ((s.setQ Od.HV_BMS_CV_V (octet16 d 0 / 10)).setQ Od.HV_BMS_I_CHG (octet16 d 2 / 10)).setQ Od.HV_BMS_I_DIS
      (octet16 d 4 / 10)
    let s := (s.setN Od.HV_BMS_FLAGS flags).setChg 2 ok
    let s := s.modChg fun x => { x with bmsTb := some s.tb, alive := some alive, aliveOk := ok }
    if ¬ flags.testBit 1 ∧ s.ds .chg = .active ∧ s.nat Od.CHG_CHG_MODE = 1 then
      if charging s.hvState then s.hvDone
      else if s.hvState = 1 ∧ 3 ≤ s.session then (s.chargerOff.relaysOpen)
      else s
    else s

/-- A frame of the BMS: the limits at BMS_RX_ID, or the pack voltage at BMS_RX_ID + 1. -/
def State.bmsFrame (s : State) (packFrame : Bool) (d : BitVec 64) : State :=
  if packFrame then (s.setQ Od.HV_BMS_V_PACK (octet16 d 0 / 10)).modChg fun x => { x with packTb := some s.tb }
  else s.bmsLimits d

def execBmsMessageReceive (dt : Nat) (packFrame : Bool) (data : BitVec 64) (s : State) : Res :=
  let s := s.elapse dt
  reply s ((s.rxTakeId 2 (s.nat Od.HV_BMS_RX_ID + if packFrame then 1 else 0) false).bmsFrame packFrame data)

/-- Neither frame's silence may last BMS_TIMEOUT_ms: BMS_OK is clear, and a session that runs, or export, stops. -/
def State.bmsSilent (s : State) : State :=
  let late (t : Option Nat) : Bool :=
    match t with | some t => decide (t + ms (s.nat Od.HV_BMS_TIMEOUT_ms) ≤ s.tb) | none => false
  if late s.chg.bmsTb || late s.chg.packTb then
    let s := (s.setChg 2 false).modChg fun x => { x with
      bmsTb := if late x.bmsTb then none else x.bmsTb, packTb := if late x.packTb then none else x.packTb
      alive := none, aliveOk := false }
    (s.count ctrBmsTimeout).raise 0x0B0E 4 s.hvDetail [.chg]
  else s

def execBmsTimeout (dt : Nat) (s : State) : Res := reply s (s.elapse dt).bmsSilent

/-- Flags octet of the status message (Table 13.12). -/
def State.statusFlags (s : State) : Nat :=
  let b (c : Bool) (i : Nat) : Nat := if c then 2 ^ i else 0
  b (s.bit Od.DCL_DCL_STATUS 9) 0 + b (s.bit Od.DCL_DCL_STATUS 4 || s.bit Od.DCL_DCL_STATUS 5) 1 + b s.chg.packLost 2 +
    b (charging s.hvState) 3 + b s.exporting 4 + b (s.bit Od.DCL_DCL_STATUS 14 || s.bit Od.DCL_DCL_STATUS 13) 5

/-- The module's status message on CAN-C, sent every 100 ms, and at once on a change of its flags. -/
def State.sendStatus (s : State) : State :=
  let i := roundNear (s.num Od.CHR_PACK_I * 10)
  let data := natLe 2 (low16 (s.num Od.DCL_V_DC * 10)) ++ natLe 2 (i % 65536).toNat ++
    natLe 1 s.hvState ++ natLe 1 s.statusFlags ++ natLe 1 s.chg.txAlive ++ [0]
  let s := s.slotWrite 2 8 ⟨s.nat Od.HV_MOD_TX_ID, false, false, false, data⟩ 0
  s.modChg fun x => { x with statusTb := s.tb, txAlive := (x.txAlive + 1) % 256, txFlags := s.statusFlags }

def execModuleStatusSend (dt : Nat) (s : State) : Res :=
  let s := s.elapse dt
  reply s (if s.dictUp ∧ (s.chg.statusTb + ms 100 ≤ s.tb ∨ s.statusFlags ≠ s.chg.txFlags) then s.sendStatus else s)

/-! ### Pack loss (R344) and export's faults (R347, R348) -/

/-- The signs of a lost pack: the link rises faster than DVDT_THR, in V/ms, or C13's output current changes by more than 30 %
and by 5 A or more between two periods with the same commanded phase shift. -/
def State.packGone (s : State) (rate i0 i1 : Rat) : Bool :=
  decide (s.num Od.CHR_DVDT_THR < rate) ||
    (s.chg.phaseKept && decide (3 / 10 * |i0| < |i1 - i0|) && decide (5 ≤ |i1 - i0|))

/-- The pack is lost while C13 switches: C13 stops at once, PACK_LOSTS counts, the instance is MISSING, CHG goes to FAULT. -/
def State.losePack (s : State) (rate i0 i1 : Rat) : State :=
  if (s.cell 13).mode = .switching ∧ s.packGone rate i0 i1 then
    let s := (s.coastCell 13).count ctrPackLost
    let s := s.modChg fun x => { x with packLost := true }
    let s := s.when (charging s.hvState) fun s => s.setHvState 9
    s.raise 0x0B0D 4 s.hvDetail [.chg]
  else s

def execPackLost (r : PackReading) (s : State) : Res := reply s ((s.elapse r.dt).losePack r.rate r.i0 r.i1)

/-- An outlet-side voltage of 30 V or more before or during export. -/
def State.backfed (s : State) (v : Rat) : State :=
  if s.nat Od.CHG_CHG_MODE = 2 ∧ s.flag Od.EXP_EXPORT_EN ∧ 30 ≤ v then
    (s.setBit Od.EXP_EXP_STATUS 7 true).raise 0x0B1A 4 (low16 (v * 10)) [.chg]
  else s

def execExportBackfeed (dt : Nat) (v : Rat) (s : State) : Res := reply s ((s.elapse dt).backfed v)

/-- Phase currents have been limited for 2 s, EXP_S has stood above 110 % of EXP_S_MAX for 60 s, or the pack limit would take
the voltage below 85 % (R348). -/
def State.exportLate (s : State) : Bool :=
  heldFor s.chg.limTb (sec 2) s.tb || heldFor s.chg.overTb (sec 60) s.tb || s.chg.deep

/-- The output trips. -/
def State.exportTrip (s : State) : State :=
  if s.exporting ∧ s.exportLate then
    ((s.setBit Od.EXP_EXP_STATUS 4 true).count ctrExpTrip).raise 0x0B19 4 s.acDetail [.chg]
  else s

def execExportOverloadTrip (dt : Nat) (s : State) : Res := reply s (s.elapse dt).exportTrip

/-! ### Acknowledge and writes (R338, R343, R353, R356, R357) -/

/-- ACK of CHG: SHORTED and FAULT go to CHECK, MISSING stays; the latches clear. -/
def State.chgAck (s : State) : State :=
  let s := s.modChg fun x => { x with packLost := false }
  let s := ((s.setChg 14 false).setBit Od.EXP_EXP_STATUS 7 false).setBit Od.EXP_EXP_STATUS 4 false
  if s.hvState = 10 ∨ s.hvState = 11 then s.setHvState 1 else s

/-- CHG_MODE and EXPORT_EN: by the owner of CHG while it is in STANDBY. -/
def State.chgModeEffect (who : Requester) (v : Nat) (s : State) : Except Nat State :=
  refuseIf (v != 1 && v != 2) 0x06090030 <|
  refuseIf (!s.owns who .chg || s.ds .chg != .standby) 0x08000022 <| .ok (s.setN Od.CHG_CHG_MODE v)

def State.exportEnEffect (who : Requester) (v : Nat) (s : State) : Except Nat State :=
  refuseIf (2 ≤ v) 0x06090030 <|
  refuseIf (!s.owns who .chg || s.ds .chg != .standby) 0x08000022 <| .ok (s.setFlag Od.EXP_EXPORT_EN (v = 1))

/-- EXP_MODE brings its rated voltage, frequency and power with it; the rating bounds EXP_S_MAX (Table 13.27). -/
def State.expModeEffect (m : Nat) (s : State) : State :=
  let r := exportRated m
  (((s.setN Od.EXP_EXP_MODE m).setQ Od.EXP_EXP_V_SET r.1).setQ Od.EXP_EXP_F r.2.1).setQ Od.EXP_EXP_S_MAX
    (min (s.num Od.EXP_EXP_S_MAX) r.2.2.1)

/-- LV_CHEM sets LV_CV_V (R356). -/
def State.lvChemEffect (v : Nat) (s : State) : State :=
  (s.setN Od.LV_LV_CHEM v).setQ Od.LV_LV_CV_V (if v = 0 then 288 / 10 else 284 / 10)

/-- MOD_TX_ID differs from BMS_RX_ID and from the identifier after it (R343). -/
def bmsIdsOk (rx tx : Nat) : Bool := tx != rx && tx != rx + 1

end Sys2Proof.Machine
end

