-- ==== Sys2Proof/Machine/Hash.lean ====
section
/-! DEFINITION. SHA-256 and HMAC (R480, R500): the manual names the algorithms and does not print them; they are written
from FIPS 180-4 and FIPS 198-1 (PRESUMED, assumption 58). -/
namespace Sys2Proof.Machine

/-- The 64 round constants. -/
def shaConstants : List (BitVec 32) :=
  [0x428a2f98, 0x71374491, 0xb5c0fbcf, 0xe9b5dba5, 0x3956c25b, 0x59f111f1, 0x923f82a4, 0xab1c5ed5] ++
  [0xd807aa98, 0x12835b01, 0x243185be, 0x550c7dc3, 0x72be5d74, 0x80deb1fe, 0x9bdc06a7, 0xc19bf174] ++
  [0xe49b69c1, 0xefbe4786, 0x0fc19dc6, 0x240ca1cc, 0x2de92c6f, 0x4a7484aa, 0x5cb0a9dc, 0x76f988da] ++
  [0x983e5152, 0xa831c66d, 0xb00327c8, 0xbf597fc7, 0xc6e00bf3, 0xd5a79147, 0x06ca6351, 0x14292967] ++
  [0x27b70a85, 0x2e1b2138, 0x4d2c6dfc, 0x53380d13, 0x650a7354, 0x766a0abb, 0x81c2c92e, 0x92722c85] ++
  [0xa2bfe8a1, 0xa81a664b, 0xc24b8b70, 0xc76c51a3, 0xd192e819, 0xd6990624, 0xf40e3585, 0x106aa070] ++
  [0x19a4c116, 0x1e376c08, 0x2748774c, 0x34b0bcb5, 0x391c0cb3, 0x4ed8aa4a, 0x5b9cca4f, 0x682e6ff3] ++
  [0x748f82ee, 0x78a5636f, 0x84c87814, 0x8cc70208, 0x90befffa, 0xa4506ceb, 0xbef9a3f7, 0xc67178f2]

/-- The hash value before the first block. -/
def shaInit : List (BitVec 32) :=
  [0x6a09e667, 0xbb67ae85, 0x3c6ef372, 0xa54ff53a, 0x510e527f, 0x9b05688c, 0x1f83d9ab, 0x5be0cd19]

/-- The message with its padding: a one bit, zeros, and the length in bits, most significant octet first. -/
def shaPad (m : List Byte) : List Byte :=
  let bits := 8 * m.length
  m ++ 0x80 :: List.replicate ((119 - m.length % 64) % 64) 0 ++
    (List.range 8).map fun i => BitVec.ofNat 8 (bits / 256 ^ (7 - i))

/-- Words of four octets, most significant first. -/
def shaWords : List Byte → List (BitVec 32)
  | a :: b :: c :: d :: l => BitVec.ofNat 32 (((a.toNat * 256 + b.toNat) * 256 + c.toNat) * 256 + d.toNat) :: shaWords l
  | _ => []

def shaSigma (r1 r2 r3 : Nat) (x : BitVec 32) : BitVec 32 := x.rotateRight r1 ^^^ x.rotateRight r2 ^^^ x.rotateRight r3
def shaShift (r1 r2 s : Nat) (x : BitVec 32) : BitVec 32 := x.rotateRight r1 ^^^ x.rotateRight r2 ^^^ x >>> s

/-- The message schedule of a block, from its newest word back: `n` more words are appended. -/
def shaSchedule : Nat → List (BitVec 32) → List (BitVec 32)
  | 0, w => w
  | n + 1, w =>
    shaSchedule n ((shaShift 17 19 10 (w.getD 1 0) + w.getD 6 0 + shaShift 7 18 3 (w.getD 14 0) + w.getD 15 0) :: w)

/-- One round with the sum of its constant and its word. -/
def shaRound (v : List (BitVec 32)) (kw : BitVec 32) : List (BitVec 32) :=
  match v with
  | [a, b, c, d, e, f, g, h] =>
    let t1 := h + shaSigma 6 11 25 e + ((e &&& f) ^^^ (~~~e &&& g)) + kw
    let t2 := shaSigma 2 13 22 a + ((a &&& b) ^^^ (a &&& c) ^^^ (b &&& c))
    [t1 + t2, a, b, c, d + t1, e, f, g]
  | _ => v

/-- One block of 16 words. -/
def shaBlock (v w : List (BitVec 32)) : List (BitVec 32) :=
  let s := (shaSchedule 48 w.reverse).reverse
  let r := (shaConstants.zipWith (· + ·) s).foldl shaRound v
  v.zipWith (· + ·) r

/-- The blocks of a padded message; `n` bounds their number. -/
def shaBlocks : Nat → List (BitVec 32) → List (BitVec 32) → List (BitVec 32)
  | 0, v, _ => v
  | n + 1, v, w => if w = [] then v else shaBlocks n (shaBlock v (w.take 16)) (w.drop 16)

/-- SHA-256 of a message. -/
def sha256 (m : List Byte) : List Byte :=
  let w := shaWords (shaPad m)
  let v := shaBlocks w.length shaInit w
  (List.range 32).map fun i => BitVec.ofNat 8 ((v.getD (i / 4) 0).toNat / 256 ^ (3 - i % 4))

/-- HMAC-SHA-256 of a message under a key. -/
def hmacSha256 (key m : List Byte) : List Byte :=
  let k := if 64 < key.length then sha256 key else key
  let k := k ++ List.replicate (64 - k.length) 0
  sha256 ((k.map fun b => b ^^^ 0x5c) ++ sha256 ((k.map fun b => b ^^^ 0x36) ++ m))

end Sys2Proof.Machine
end

