-- ==== Sys2Proof/Machine/Crc.lean ====
section
/-! DEFINITION. Chapter 17: the check-value units CRC0 to CRC3 (R443 to R445) and the CRC-32C that R418, R427, R500 and
R501 use. -/
namespace Sys2Proof.Machine

/-- The low `w` bits of a number in reverse order. -/
def reflectBits (w v : Nat) : Nat := (List.range w).foldl (fun a i => if v.testBit i then a + 2 ^ (w - 1 - i) else a) 0

/-- The parameters of a CRC (R443). -/
structure CrcCfg where
  width  : Nat
  poly   : Nat
  init   : Nat
  xorout : Nat
  refin  : Bool
  refout : Bool
  deriving DecidableEq, Repr

/-- One input byte through the register (R443). -/
def crcByte (c : CrcCfg) (reg b : Nat) : Nat :=
  (List.range 8).foldl (fun r _ =>
      if r.testBit (c.width - 1) then (2 * r ^^^ c.poly) % 2 ^ c.width else 2 * r % 2 ^ c.width)
    (reg ^^^ ((if c.refin then reflectBits 8 b else b) * 2 ^ (c.width - 8)))

def crcBytes (c : CrcCfg) (reg : Nat) (data : List Byte) : Nat := data.foldl (fun r b => crcByte c r b.toNat) reg

/-- The result that a register gives (R443). -/
def crcResult (c : CrcCfg) (reg : Nat) : Nat := (if c.refout then reflectBits c.width reg else reg) ^^^ c.xorout

/-- CRC-32C (R418). -/
def crc32cCfg : CrcCfg := ⟨32, 0x1EDC6F41, 0xFFFFFFFF, 0xFFFFFFFF, true, true⟩
def crc32c (data : List Byte) : Nat := crcResult crc32cCfg (crcBytes crc32cCfg 0xFFFFFFFF data)

/-! ### Units (R443 to R445) -/

def State.crcUnit (s : State) (n : Fin 4) : CrcUnit := s.crcs.get n
def State.modCrc (s : State) (n : Fin 4) (f : CrcUnit → CrcUnit) : State := { s with crcs := upd s.crcs n f }

/-- The configuration of a unit (Tables 17.9, 17.10). -/
def State.crcCfg (s : State) (n : Nat) : CrcCfg :=
  ⟨s.nat (Od.CRC_WIDTH n), s.nat (Od.CRC_POLY n), s.nat (Od.CRC_INIT n), s.nat (Od.CRC_XOROUT n),
    s.bit (Od.CRC_CRC_CTRL n) 0, s.bit (Od.CRC_CRC_CTRL n) 1⟩

/-- The session a unit is bound to: one that has touched it in the last 1,000 ms (R444). -/
def State.crcBound (s : State) (n : Fin 4) : Option Requester :=
  match (s.crcUnit n).bound with
  | some b => if s.tb < b.2 + ms 1000 then some b.1 else none
  | none => none

/-- A unit takes no write from a party: CRC0 and CRC1 are claimed, and a bound unit is its session's alone (R444). -/
def State.crcBusy (s : State) (who : Requester) (n : Fin 4) : Bool :=
  decide (n.val < 2) || (s.crcBound n).any fun b => b != who

/-- An access of the bound session starts the 1,000 ms again (R444). -/
def State.crcTouch (s : State) (n : Fin 4) : State :=
  s.modCrc n fun x => { x with bound := x.bound.map fun b => (b.1, s.tb) }

def State.crcShow (s : State) (n : Fin 4) : State :=
  s.setN (Od.CRC_RESULT n) (crcResult (s.crcCfg n) (s.crcUnit n).reg)

/-- START: INIT and the fold-in bytes; the unit is bound to the writer (R443, R444). -/
def State.crcStart (s : State) (who : Requester) (n : Fin 4) : State :=
  let c := s.crcCfg n
  let reg := crcBytes c (c.init % 2 ^ c.width) (natLe (s.field (Od.CRC_CRC_CTRL n) 4 4) (s.nat (Od.CRC_FOLD_VALUE n)))
  ((s.modCrc n fun _ => { reg := reg, bound := some (who, s.tb) }).crcShow n |>.setN (Od.CRC_BYTES n) 0).setBit
    (Od.CRC_CRC_STATUS n) 3 false

/-- DATA: its bytes in order; BYTES counts them up to its largest value (R443, R445). -/
def State.crcData (s : State) (n : Fin 4) (data : List Byte) : State :=
  let s := ((s.modCrc n fun x => { x with reg := crcBytes (s.crcCfg n) x.reg data }).crcTouch n).crcShow n
  let total := s.nat (Od.CRC_BYTES n) + data.length
  if total < 2 ^ 32 then s.setN (Od.CRC_BYTES n) total
  else (s.setN (Od.CRC_BYTES n) (2 ^ 32 - 1)).setBit (Od.CRC_CRC_STATUS n) 3 true

def State.writeCrcStart (s : State) (who : Requester) (n : Fin 4) : State :=
  s.request who (Od.CRC_START n) .operator fun s => refuseIf (s.crcBusy who n) 0x08000022 (.ok (s.crcStart who n))

def State.writeCrcData (s : State) (who : Requester) (n : Fin 4) (data : List Byte) : State :=
  s.request who (Od.CRC_DATA n) .operator fun s =>
    refuseIf (data.length = 0 || decide (256 < data.length)) 0x06070010 <|
    refuseIf (s.crcBusy who n) 0x08000022 (.ok (s.crcData n data))

/-- A configuration write: no bits above WIDTH − 1, a fold length of at most 8 (R443, Table 17.10). -/
def State.crcConfig (s : State) (who : Requester) (n : Fin 4) (sub v : Nat) : Except Nat State :=
  let k := Od.CRC_NUM_SUBS n + sub
  let wide : Bool := decide (sub = 3 ∨ sub = 4 ∨ sub = 5 ∨ sub = 7) && decide (2 ^ s.nat (Od.CRC_WIDTH n) ≤ v)
  refuseIf (wide || (sub == 6 && decide (8 < v / 16))) 0x06090030 <|
  refuseIf (s.crcBusy who n) 0x08000022 (.ok ((s.setN k v).crcTouch n))

/-- A read of RESULT by the bound session ends the binding (R444). -/
def State.crcRead (s : State) (who : Requester) (n : Fin 4) : State :=
  s.modCrc n fun x => match x.bound with
    | some b => if b.1 = who then { x with bound := none } else x
    | none => x

/-- A read of another object of a unit touches it where the reader holds it (R444). -/
def State.crcLook (s : State) (who : Requester) (n : Fin 4) : State :=
  if s.crcBound n = some who then s.crcTouch n else s

/-- The units bound to a session that closes are released (R483). -/
def State.crcRelease (s : State) (who : Requester) : State := s.each (List.finRange 4) fun n s => s.crcRead who n

def execCrcStartWrite (dt : Nat) (who : Requester) (n : Fin 4) (s : State) : Res :=
  reply s ((s.elapse dt).writeCrcStart who n)

def execCrcDataWrite (dt : Nat) (who : Requester) (n : Fin 4) (data : List Byte) (s : State) : Res :=
  reply s ((s.elapse dt).writeCrcData who n data)

/-- A unit untouched for 1,000 ms is released (R444). -/
def State.crcTimeout (s : State) (n : Fin 4) : State :=
  match (s.crcUnit n).bound with
  | some b => if b.2 + ms 1000 ≤ s.tb then s.modCrc n fun x => { x with bound := none } else s
  | none => s

def execCrcBindingTimeout (dt : Nat) (n : Fin 4) (s : State) : Res := reply s ((s.elapse dt).crcTimeout n)

end Sys2Proof.Machine
end

