-- ==== Sys2Proof/Machine/Engines.lean ====
section
/-! DEFINITION. Chapter 9: the engines, the task records, dispatch and stealing, admission, and engines out of service
(R236 to R256). -/
namespace Sys2Proof.Machine

def State.eng (s : State) (e : Fin 24) : EngSt := s.engines.get e
def State.modEng (s : State) (e : Fin 24) (f : EngSt → EngSt) : State := { s with engines := upd s.engines e f }
def State.task (s : State) (k : Fin 59) : TaskSt := s.tasks.get k
def State.modTask (s : State) (k : Fin 59) (f : TaskSt → TaskSt) : State := { s with tasks := upd s.tasks k f }
def State.modPool (s : State) (f : PoolSt → PoolSt) : State := { s with pool := f s.pool }
def engOf (n : Nat) : Option (Fin 24) := if h : n < 24 then some ⟨n, h⟩ else none

/-! ### Task records (R236, Table 9.2) -/

/-- 0 HARD, 1 FIRM, 2 SOFT. -/
def taskClass (k : Nat) : Nat := (taskParams (taskRow k).1).1
/-- C in ns. -/
def taskBudget (k : Nat) : Nat := (taskParams (taskRow k).1).2.2.1

/-- Owning drive of a task; none for a device task (DESIGN CHOICE, assumption 25: the managers that serve more than one
drive are device tasks). -/
def taskDrive (k : Nat) : Option Drive :=
  match taskRow k with
  | (0, i) => some (if i ≤ 1 then .tra else .trb)
  | (1, _) => some .gbx
  | (5, _) => some .aux
  | (7, _) => some .gbx
  | (8, i) => some (if i = 0 then .chg else .aux)
  | _ => none

/-- The tasks that run under PoDL alone (R248). -/
def podlTask (k : Nat) : Bool :=
  match taskRow k with
  | (2, _) => true | (3, i) => decide (i < 8) | (11, _) => true | (12, _) => true | (13, _) => true | (14, _) => true
  | (15, _) => true | _ => false

/-- HARD and FIRM tasks. -/
def periodicTasks : List (Fin 59) := (List.finRange 59).filter fun k => taskClass k != 2
def hardTasks : List (Fin 59) := (List.finRange 59).filter fun k => taskClass k == 0
def firmTasks : List (Fin 59) := (List.finRange 59).filter fun k => taskClass k == 1

/-- Period in force, in ticks; also D. -/
def State.period (s : State) (k : Nat) : Nat := us (s.nat (Od.TASK_PERIOD_ACT_us k))

/-- Absolute deadline of a waiting instance. -/
def State.deadline (s : State) (k : Fin 59) : Nat := (s.task k).waiting.getD 0 + s.period k

def engLive (x : EngSt) : Bool := x.state == .live
def engInService (x : EngSt) : Bool := x.state == .live || x.state == .thief

/-- The engine of a number exists and is LIVE. -/
def State.isLive (s : State) (n : Nat) : Bool :=
  match engOf n with | some e => engLive (s.eng e) | none => false

/-- m: LIVE plus THIEF. -/
def State.liveEngines (s : State) : Nat := ((List.finRange 24).filter fun e => engInService (s.eng e)).length

/-- QUEUE_LOAD_ns of an engine. -/
def State.queueLoad (s : State) (e : Nat) : Nat :=
  (firmTasks.filter fun k => (s.task k).waiting.isSome && (s.task k).queue == e).foldl (fun a k => a + taskBudget k) 0

/-! ### Bounds (R244) -/

/-- Start-latency bound in µs with m engines and given periods in µs. -/
def State.boundUs (s : State) (period : Nat → Nat) (m : Nat) (k : Fin 59) : Rat :=
  if taskClass k = 0 then
    25 + ((hardTasks.filter fun j => j != k && (s.task j).queue == (s.task k).queue).foldl (fun a j => a + taskBudget j) 0 : Nat) / 1000
  else if taskClass k = 1 then
    26 + ((periodicTasks.filter fun j => j != k).foldl
      (fun a j => a + (period k / period j + 1) * taskBudget j) 0 : Nat) / ((1000 * m : Nat) : Rat)
  else 0

def State.periodActUs (s : State) (k : Nat) : Nat := s.nat (Od.TASK_PERIOD_ACT_us k)

/-- A FIRM bound plus C exceeds D at the present m. -/
def State.firmAtRisk (s : State) : Option (Fin 59) :=
  firmTasks.find? fun (k : Fin 59) =>
    decide ((s.periodActUs k : Rat) < s.boundUs s.periodActUs s.liveEngines k + (taskBudget k : Rat) / 1000)

/-- Bounds at a new m: AT_RISK with event 0x0209, DEGRADED. -/
def State.recomputeBounds (s : State) : State :=
  let k := Od.POOL_POOL_STATUS
  let s := s.setBit k 3 (decide (s.liveEngines < s.nat Od.POOL_ADMIT_ENGINES))
  match s.firmAtRisk with
  | some t => (s.when (!s.bit k 4) fun s => s.event 0x0209 0xFF t).setBit k 4 true
  | none => s.setBit k 4 false

/-! ### Dispatch (R239 to R242) -/

def ctrEng (e : Nat) (key bit : Nat) (w : Nat) : Counter := ⟨key, w, Od.ENG_ENG_CNT_STATUS e, bit, 2⟩
def ctrTask (k : Nat) (key bit : Nat) : Counter := ⟨key, 32, Od.TASK_TASK_CNT_STATUS k, bit, 2⟩
def ctrConflicts : Counter := ⟨Od.POOL_CLAIM_CONFLICTS, 32, Od.POOL_POOL_CNT_STATUS, 0, 2⟩

/-- The waiting task of a list with the earliest deadline, ties to the lower number. -/
def State.earliest (s : State) (l : List (Fin 59)) : Option (Fin 59) :=
  (l.filter fun (k : Fin 59) => (s.task k).waiting.isSome).foldl (fun (a : Option (Fin 59)) (k : Fin 59) => match a with
    | none => some k
    | some b => if s.deadline k < s.deadline b then some k else a) none

/-- The waiting SOFT task of the oldest release. -/
def State.oldestSoft (s : State) : Option (Fin 59) :=
  ((List.finRange 59).filter fun (k : Fin 59) => taskClass k == 2 && (s.task k).waiting.isSome).foldl (fun (a : Option (Fin 59)) (k : Fin 59) => match a with
    | none => some k
    | some b => if (s.task k).waiting.getD 0 < (s.task b).waiting.getD 0 then some k else a) none

/-- Cost of a steal in ns: at most 1 µs, open within that (R241). -/
def stealCost (fresh : Nat) : Nat := Config.freeNat fresh % 1001

/-- An engine claims a waiting instance and starts it. -/
def State.startTask (s : State) (e : Fin 24) (k : Fin 59) (from_ : Option Nat) : State :=
  let rel := (s.task k).waiting.getD s.tb
  let lat : Rat := ((s.tb - rel : Nat) : Rat) / 100
  let s := s.modTask k fun x => { x with waiting := none, last := e }
  let s := (s.modEng e fun x => { x with running := some k, startTb := s.tb, relTb := rel, stolen := from_.isSome }).countWide
    (Od.ENG_DISPATCHES e)
  let s := s.setQ (Od.TASK_START_LAT_MAX_us k) (max lat (s.num (Od.TASK_START_LAT_MAX_us k)))
  match from_ with
  | none => s
  | some q =>
    let c := stealCost s.fresh
    let s := s.draw.count (ctrEng e (Od.ENG_STEALS e) 0 32)
    let s := s.count (ctrEng q (Od.ENG_STOLEN_FROM q) 1 32)
    let s := s.setN (Od.ENG_STEAL_TIME_MAX_ns e) (max c (s.nat (Od.ENG_STEAL_TIME_MAX_ns e)))
    s.setN Od.POOL_STEAL_COST_MAX_ns (max c (s.nat Od.POOL_STEAL_COST_MAX_ns))

/-- A free LIVE engine runs its own earliest HARD task, else its own earliest FIRM task. -/
def State.dispatchOwn (s : State) (e : Fin 24) : State :=
  if engLive (s.eng e) ∧ (s.eng e).running.isNone then
    match s.earliest (hardTasks.filter fun k => (s.task k).queue == e.val) with
    | some k => s.startTask e k none
    | none =>
      match s.earliest (firmTasks.filter fun k => (s.task k).queue == e.val) with
      | some k => s.startTask e k none
      | none => s
  else s

/-- The queue to steal from: that of an engine out of service, else the most loaded of a busy engine (R241). -/
def State.stealQueue (s : State) (claimed : Nat → Nat) : Option Nat :=
  let load (e : Fin 24) : Nat := s.queueLoad e + claimed e
  let best (l : List (Fin 24)) : Option Nat := (l.foldl (fun a e => match a with
    | none => if 0 < load e then some e else none
    | some b => if load b < load e then some e else a) none).map (·.val)
  match best ((List.finRange 24).filter fun e => !engInService (s.eng e)) with
  | some q => some q
  | none => best ((List.finRange 24).filter fun e => engInService (s.eng e) && (s.eng e).running.isSome)

/-- An idle engine steals, else takes the oldest SOFT step. Idle engines that re-evaluate together claim in one FAB cycle:
each after the first has lost a claim for the instance taken before it (R242; DESIGN CHOICE, assumption 26). -/
def State.dispatchIdle (s : State) (e : Fin 24) (stolen : Nat) : State × Nat :=
  if engInService (s.eng e) ∧ (s.eng e).running.isNone then
    let s := s.when (0 < stolen) fun s => s.count ctrConflicts
    match s.stealQueue fun _ => 0 with
    | some q =>
      match s.earliest (firmTasks.filter fun k => (s.task k).queue == q) with
      | some k => (s.startTask e k (some q), stolen + 1)
      | none => (s, stolen)
    | none =>
      match s.oldestSoft with
      | some k => (s.startTask e k none, stolen)
      | none => (s, stolen)
  else (s, stolen)

/-- Every free engine re-evaluates (R240); in an ENG clock fault the engines stand still (Table 1.11). -/
def State.dispatch (s : State) : State :=
  if s.clocks.faults.contains 8 then s
  else
  let s := s.each (List.finRange 24) fun e s => s.dispatchOwn e
  ((List.finRange 24).foldl (fun (a : State × Nat) e => a.1.dispatchIdle e a.2) (s, 0)).1

/-! ### Releases (R237, R238, R243) -/

/-- A drive runs its readiness checks of Table 2.6. -/
def State.checking (s : State) (d : Drive) : Bool :=
  (s.drv d).arming != .none || (d == .gbx && s.gbx.recovT0.isSome)

/-- Tasks of an UNAVAILABLE drive are not released, unless it runs its readiness checks; under PoDL alone only the device
tasks of R248 are. -/
def State.releasable (s : State) (k : Fin 59) : Bool :=
  s.bit Od.POOL_POOL_STATUS 0 && (!s.bringup.podlOnly || podlTask k) &&
    match taskDrive k with
    | none => true
    | some d => s.ds d != .unavailable || s.checking d

/-- TB is a multiple of the task's period since the configuration load, at which it has not been released yet; no multiple is
reached while TB stands (Table 1.11). -/
def State.periodDue (s : State) (k : Fin 59) : Bool :=
  taskClass k == 2 || (s.period k != 0 && (s.task k).relTb != some s.tb && s.clocks.stopTb.isNone &&
    decide ((s.tb - s.pool.loadTb) % s.period k = 0))

/-- The LIVE engine with the smallest key, ties to the lower number. -/
def State.leastEngine (s : State) (key : Fin 24 → Rat) : Nat :=
  match ((List.finRange 24).filter fun e => engLive (s.eng e)).foldl (fun (a : Option (Fin 24)) e => match a with
    | none => some e
    | some b => if key e < key b then some e else a) none with
  | some e => e
  | none => 0xFF

/-- Engine in whose queue an instance waits: the host of a HARD task, the home of a FIRM task or, with the home out of
service, the LIVE engine with the smallest load. -/
def State.releaseQueue (s : State) (k : Fin 59) : Nat :=
  if taskClass k ≠ 1 then (s.task k).queue
  else
    let h := s.nat (Od.TASK_HOME k)
    match engOf h with
    | some e => if engLive (s.eng e) then h else s.leastEngine fun e => (s.queueLoad e : Rat)
    | none => s.leastEngine fun e => (s.queueLoad e : Rat)

/-- A HARD task whose host is out of service is not released (R250). -/
def State.hosted (s : State) (k : Fin 59) : Bool :=
  taskClass k != 0 || s.isLive (s.task k).queue

/-- A release: queued, or merged with the waiting instance. -/
def State.releaseTask (s : State) (k : Fin 59) : State :=
  if ¬ s.releasable k ∨ ¬ s.periodDue k ∨ ¬ s.hosted k then s
  else
  let s := s.modTask k fun x => { x with relTb := some s.tb }
  if (s.task k).waiting.isSome then s.count (ctrTask k (Od.TASK_SKIPS k) 0)
  else
    let q := s.releaseQueue k
    ((s.modTask k fun x => { x with waiting := some s.tb, queue := q }).countWide (Od.TASK_RELEASES k)).dispatch

def execTaskRelease (dt : Nat) (k : Fin 59) (s : State) : Res := reply s ((s.elapse dt).releaseTask k)

/-! ### Out of service (R250, Table 9.4) -/

/-- Severity FAULT applied to the drive of a task; for a device task the event alone. -/
def State.raiseTask (s : State) (code source detail : Nat) (k : Fin 59) : State :=
  match taskDrive k with
  | some d => s.raise code source detail [d]
  | none => s.event code source detail

/-- HARD tasks of an engine move to their alternates; one without an alternate in service faults its drive. The engine's
own self-test slice has no alternate and is dropped. -/
def State.moveHard (s : State) (e : Fin 24) : State :=
  let s := s.each (hardTasks.filter fun k => (s.task k).queue == e.val && (taskRow k).1 == 3) fun k s =>
    s.modTask k fun x => { x with waiting := none }
  s.each (hardTasks.filter fun k => (s.task k).queue == e.val && (taskRow k).1 != 3) fun k s =>
    let alt := (taskHome k).2
    if alt ≠ e.val ∧ s.isLive alt then s.modTask k fun x => { x with queue := alt }
    else (s.modTask k fun x => { x with waiting := none }).raiseTask 0x0208 (0x20 + e) k.val k

/-- An execution ends, or is aborted: the engine is free. -/
def State.endExecution (s : State) (e : Fin 24) : State :=
  if (s.eng e).running.isNone then s
  else s.modEng e fun x => { x with
    running := none, execs := (x.startTb, s.tb) :: x.execs.filter fun p => decide (s.tb < p.2 + ms 100) }

/-- BUSY: the fraction of the last 100 ms spent executing (Table 9.6). -/
def State.engBusy (s : State) (e : Fin 24) : Rat :=
  let x := s.eng e
  let from_ := s.tb - ms 100
  let l := match x.running with | some _ => (x.startTb, s.tb) :: x.execs | none => x.execs
  ((l.map fun p => min p.2 s.tb - max p.1 from_).sum : Nat) / (ms 100 : Nat)

/-- Taking an engine out of service with its LAST_FAIL code. -/
def State.outOfService (s : State) (e : Fin 24) (fail : Nat) : State :=
  if ¬ engInService (s.eng e) then s
  else
    let s := s.count (ctrEng e (Od.ENG_OOS_COUNT e) 5 8)
    let st : EngineState := if 3 ≤ s.nat (Od.ENG_OOS_COUNT e) then .permanent else .outOfService
    let s := ((s.endExecution e).modEng e fun x => { x with state := st, slices := 0, oosTb := s.tb }).setN (Od.ENG_LAST_FAIL e) fail
    let s := s.event 0x0201 (0x20 + e) (65536 * fail)
    let s := (s.moveHard e).recomputeBounds
    let s := s.when (decide (s.liveEngines = 7)) fun s => s.raise 0x020A 0xFF 0 Drive.all
    s.dispatch

/-- The engine watchdog: an execution that has reached 100 µs is aborted (R249). -/
def State.watchdog (s : State) (e : Fin 24) : State :=
  match (s.eng e).running with
  | none => s
  | some k =>
    if s.tb < (s.eng e).startTb + us 100 then s
    else (s.raiseTask 0x0206 (0x20 + e) (k + 65536 * 5) k).outOfService e 5

def execEngineWatchdog (dt : Nat) (e : Fin 24) (s : State) : Res := reply s ((s.elapse dt).watchdog e)

/-- An engine out of service has passed a full self-test pass, which takes 100 ms, and rejoins as a thief (R251). -/
def State.rejoin (s : State) (e : Fin 24) : State :=
  if (s.eng e).state = .outOfService ∧ (s.eng e).oosTb + ms 100 ≤ s.tb then
    let s := (s.modEng e fun x => { x with state := .thief }).count (ctrEng e (Od.ENG_SELFTEST_PASSES e) 3 32)
    ((s.event 0x0202 (0x20 + e) (65536 * s.nat (Od.ENG_LAST_FAIL e))).recomputeBounds).dispatch
  else s

def execEngineRejoin (dt : Nat) (e : Fin 24) (s : State) : Res := reply s ((s.elapse dt).rejoin e)

/-! ### Completion of an instance (R249) -/

/-- An overrun is counted; the first in each second is logged. -/
def State.overrun (s : State) (e : Fin 24) (k : Fin 59) : State :=
  let s := (s.count (ctrTask k (Od.TASK_OVERRUNS k) 1)).count (ctrEng e (Od.ENG_OVERRUNS e) 2 32)
  if s.pool.overSec = some (s.tb / sec 1) then s
  else (s.event 0x0205 (0x20 + e) k).modPool fun x => { x with overSec := some (s.tb / sec 1) }

/-- A deadline miss is counted; the first in each second is logged; each that makes three in a row of a HARD task is a FAULT. -/
def State.missed (s : State) (e : Fin 24) (k : Fin 59) : State :=
  let s := (s.count (ctrTask k (Od.TASK_MISSES k) 2)).modTask k fun x => { x with misses := x.misses + 1 }
  let s := if s.pool.missSec = some (s.tb / sec 1) then s
    else (s.event 0x0207 (0x20 + e) k).modPool fun x => { x with missSec := some (s.tb / sec 1) }
  if taskClass k = 0 ∧ 3 ≤ (s.task k).misses then s.raiseTask 0x020B (0x20 + e) k.val k else s

/-- An execution ends: the engine is free, the execution is timed. -/
def State.timeExecution (s : State) (e : Fin 24) (k : Fin 59) : State :=
  let x := s.eng e
  let ticks := s.tb - x.startTb
  let s := s.endExecution e
  let s := s.setN (Od.TASK_EXEC_MAX_ns k) (max (10 * ticks) (s.nat (Od.TASK_EXEC_MAX_ns k)))
  let s := s.when (decide (taskBudget k < 10 * ticks)) fun s => s.overrun e k
  if taskClass k ≠ 2 ∧ x.relTb + s.period k < s.tb then s.missed e k else s.modTask k fun x => { x with misses := 0 }

/-- A self-test slice ends: ten passing slices make a pass; a failing one takes the engine out of service. -/
def State.sliceDone (s : State) (e : Fin 24) (r : SliceResult) : State :=
  match r with
  | .pass =>
    if (s.eng e).slices < 9 then s.modEng e fun x => { x with slices := x.slices + 1 }
    else (s.modEng e fun x => { x with slices := 0 }).count (ctrEng e (Od.ENG_SELFTEST_PASSES e) 3 32)
  | r =>
    let code : Nat := match r with | .core => 1 | .fpu => 2 | .memory => 3 | _ => 4
    (s.count (ctrEng e (Od.ENG_SELFTEST_FAILS e) 4 16)).outOfService e code

/-! ### Admission (R245 to R248) -/

/-- Total utilisation with given periods in µs. -/
def utilisation (period : Nat → Nat) : Rat :=
  periodicTasks.foldl (fun a k => a + (taskBudget k : Rat) / (1000 * period k : Nat)) 0

/-- Check 3: every engine holds the HARD budgets of its home and alternate tasks within their smallest deadline. -/
def hardLoadFail (period : Nat → Nat) : Option (Fin 59) :=
  hardTasks.find? fun k =>
    [(taskHome k).1, (taskHome k).2].any fun e => e != 0xFF &&
      decide (1000 * period k < 25000 + (hardTasks.filter fun j => (taskHome j).1 == e || (taskHome j).2 == e).foldl
        (fun a j => a + taskBudget j) 0)

/-- First failing check with its task (0xFFFF none); (0, 0xFFFF) when the load is admitted. -/
def State.admission (s : State) (period : Nat → Nat) : Nat × Nat :=
  let m := s.liveEngines
  if 7 / 10 * (m : Rat) < utilisation period then (1, 0xFFFF)
  else match hardTasks.find? fun k => (taskRow k).1 != 3 && (taskHome k).1 == (taskHome k).2 with
  | some k => (2, k)
  | none => match hardLoadFail period with
  | some k => (3, k)
  | none => match firmTasks.find? fun (k : Fin 59) =>
      decide ((period k : Rat) < s.boundUs period (m - 1) k + (taskBudget k : Rat) / 1000) with
  | some k => (4, k)
  | none => match (List.finRange 59).find? fun k =>
      !(decide ((taskParams (taskRow k).1).2.2.2.1 ≤ period k) && decide (period k ≤ (taskParams (taskRow k).1).2.2.2.2)) with
  | some k => (5, k)
  | none => (0, 0xFFFF)

def ctrLoads : Counter := ⟨Od.POOL_CONFIG_LOADS, 16, Od.POOL_POOL_CNT_STATUS, 1, 2⟩

/-- Puts a task in its place by period, after those of the same period. -/
def State.byPeriod (s : State) (k : Fin 59) : List (Fin 59) → List (Fin 59)
  | [] => [k]
  | j :: t => if s.periodActUs k < s.periodActUs j then k :: j :: t else j :: s.byPeriod k t

/-- Home of every FIRM task in ascending period order on the LIVE engine with the smallest utilisation (R243). -/
def State.placeFirm (s : State) : State :=
  let u0 (e : Nat) : Rat := (hardTasks.filter fun k => (s.task k).queue == e).foldl
    (fun a k => a + (taskBudget k : Rat) / (1000 * s.periodActUs k : Nat)) 0
  let order := firmTasks.foldl (fun l k => s.byPeriod k l) []
  (order.foldl (fun (a : State × (Nat → Rat)) k =>
    let e := a.1.leastEngine fun e => a.2 e
    let c := (taskBudget k : Rat) / (1000 * a.1.periodActUs k : Nat)
    (a.1.setN (Od.TASK_HOME k) e, fun n => if n = e then a.2 n + c else a.2 n)) (s, u0)).1

/-- An admitted load with its periods: HARD tasks on their homes, or on their alternates where the home is not in service,
thieves LIVE, FIRM tasks placed, releases restarted. -/
def State.loadPeriods (s : State) (period : Nat → Nat) : State :=
  let s := s.each (List.finRange 24) fun e s =>
    if (s.eng e).state = .thief then s.modEng e fun x => { x with state := .live } else s
  let s := s.each (List.finRange 59) fun k s => s.setN (Od.TASK_PERIOD_ACT_us k) (period k)
  let s := s.each hardTasks fun k s =>
    let h := (taskHome k).1
    s.modTask k fun x => { x with queue := if s.isLive h || (taskRow k).1 == 3 then h else (taskHome k).2 }
  let s := s.placeFirm.modPool fun x => { x with loadTb := s.tb }
  let s := ((s.setN Od.POOL_ADMIT_RESULT 0).setN Od.POOL_ADMIT_TASK 0xFFFF).setN Od.POOL_ADMIT_ENGINES s.liveEngines
  let s := ((s.setQ Od.POOL_U_TOTAL (utilisation period)).setBit Od.POOL_POOL_STATUS 0 true).count ctrLoads
  ((s.event 0x0203 0xFF 0).recomputeBounds).dispatch

def State.reject (s : State) (r : Nat × Nat) : State :=
  let s := (s.setN Od.POOL_ADMIT_RESULT r.1).setN Od.POOL_ADMIT_TASK r.2
  s.event 0x0204 0xFF (r.2 + 65536 * r.1)

def State.periodStored (s : State) (k : Nat) : Nat := s.nat (Od.TASK_PERIOD_us k)
def periodDefault (k : Nat) : Nat := (taskParams (taskRow k).1).2.1

/-- The admission check ends: admitted, or rejected; at bring-up the default periods then serve (R246). -/
def State.admissionDone (s : State) : State :=
  match s.pool.check with
  | none => s
  | some atBringup =>
    let s := (s.setBit Od.POOL_POOL_STATUS 1 false).modPool fun x => { x with check := none }
    let r := s.admission s.periodStored
    if r.1 = 0 then s.loadPeriods s.periodStored
    else
      let s := s.reject r
      if atBringup then (s.loadPeriods periodDefault).setBit Od.POOL_POOL_STATUS 2 true else s

def execConfigLoadAdmissionComplete (dt : Nat) (s : State) : Res := reply s (s.elapse dt).admissionDone

/-- CONFIG_LOAD: an admission check starts unless a drive is ARMED, ACTIVE, STOPPING or INHIBIT. -/
def State.configLoad (s : State) (atBringup : Bool) : State :=
  (s.setBit Od.POOL_POOL_STATUS 1 true).modPool fun x => { x with check := some atBringup }

def State.writeConfigLoad (s : State) (who : Requester) (v : Nat) : State :=
  s.request who Od.POOL_CONFIG_LOAD .service fun s =>
    refuseIf (v != 1) 0x06090030 <|
    refuseIf (!Drive.all.all fun d => s.paramState d) 0x08000022 <| .ok (s.configLoad false)

def execConfigLoadWrite (dt : Nat) (who : Requester) (value : BitVec 8) (s : State) : Res :=
  reply s ((s.elapse dt).writeConfigLoad who value.toNat)

/-- PERIOD_us of a tunable task within its range (R247); the write takes effect at the next admitted load. -/
def State.periodEffect (k : Nat) (v : Nat) (s : State) : Except Nat State :=
  let p := (taskParams (taskRow k).1).2.2.2
  refuseIf (p.1 == p.2 || decide (v < p.1 ∨ p.2 < v)) 0x06090030 (.ok (s.setN (Od.TASK_PERIOD_us k) v))

end Sys2Proof.Machine
end

