-- ==== Sys2Proof/Machine/SafetyBase.lean ====
section
/-! DEFINITION. Chapters 15 to 17, shared: Pyreri's state, the connections' starts and stops, the demands that input
pairs and connections make, SF_STATE, FLT_A and FLT_B, and the latched safe state (R380, R388, R390, R395, R401, R412,
R414, R434, R436). -/
namespace Sys2Proof.Machine

def State.safe (s : State) (d : Drive) : SafeDrive := s.safety.drives.get d.idx
def State.modSafety (s : State) (f : SafetySt → SafetySt) : State := { s with safety := f s.safety }
def State.modSafe (s : State) (d : Drive) (f : SafeDrive → SafeDrive) : State :=
  s.modSafety fun x => { x with drives := upd x.drives d.idx f }
def State.pair (s : State) (k : Fin 4) : SafePair := s.safety.pairs.get k
def State.modPair (s : State) (k : Fin 4) (f : SafePair → SafePair) : State :=
  s.modSafety fun x => { x with pairs := upd x.pairs k f }
def State.sout (s : State) (k : Fin 4) : SafeOut := s.safety.outs.get k
def State.modOut (s : State) (k : Fin 4) (f : SafeOut → SafeOut) : State :=
  s.modSafety fun x => { x with outs := upd x.outs k f }
def State.conn (s : State) (k : Fin 16) : ConnSt := s.conns.get k
def State.modConn (s : State) (k : Fin 16) (f : ConnSt → ConnSt) : State := { s with conns := upd s.conns k f }
def State.modPyr (s : State) (f : PyrSt → PyrSt) : State := { s with pyr := f s.pyr }

/-- A drive's safe speed and torque for a detail field (R423). -/
def State.speedDetail (s : State) (d : Drive) : Nat :=
  if d.isTraction then low16 (s.num (Od.SFS_SAFE_SPEED d.num)) else 0

/-! ### Configuration (Tables 15.1, 15.10) -/

def State.config (s : State) : Nat := s.nat Od.PYR_CONFIG_ACT
def State.pyrBit (s : State) (b : Nat) : Bool := s.bit Od.PYR_PYR_STATUS b
def State.setPyrBit (s : State) (b : Nat) (v : Bool) : State := s.setBit Od.PYR_PYR_STATUS b v

/-- Safety cycles run: TRIPLE, PAIR or TRIPLE_DEGRADED without a latched fault. -/
def State.cycling (s : State) : Bool := (s.config == 1 || s.config == 2 || s.config == 4) && !s.pyrBit 5

/-- The safety cycle in force in ticks (R389, R419). -/
def State.cyclePeriod (s : State) : Nat := us (s.nat Od.PYR_CYCLE_us)

/-- A lane takes part in the vote. -/
def State.voting (s : State) (l : Fin 3) : Bool := s.pyrBit (10 + l.val)

/-- Detail of a group 0x0D event: CONFIG_ACT, the lane or pair concerned (0 for none, assumption 32) and [31:16] (R398). -/
def State.pyrDetail (s : State) (x hi : Nat) : Nat := s.config + 256 * x + 65536 * hi

/-! ### Connections (R434) -/

def State.connState (s : State) (k : Fin 16) : Nat := s.nat (Od.HSF_CONN_STATE k)

/-- Detail of a connection's event (R446). -/
def State.connEvent (s : State) (code : Nat) (k : Fin 16) (cause : Nat) : State :=
  s.event code (0xA0 + k.val) (cause + 256 * s.connState k + 65536 * s.nat (Od.HSF_LAST_SEQ k))

/-- The next multiple of a connection's period. -/
def State.connDue (s : State) (k : Fin 16) : Nat :=
  let p := us (s.nat (Od.HSF_PERIOD_us k))
  (s.tb / p + 1) * p

/-- A connection enters START; a producer sends SEQ 0 at its next period. -/
def State.connStart (s : State) (k : Fin 16) : State :=
  (s.setN (Od.HSF_CONN_STATE k) 1).modConn k fun x => { x with
    seq0 := false, ptime := none, release := none, echoDue := [], echoSeq := 0, wrapLogged := false
    next := 0, sent := [], wdgTb := s.tb, dueTb := s.connDue k }

def State.connRun (s : State) (k : Fin 16) : State :=
  ((s.setN (Od.HSF_CONN_STATE k) 2).modConn k fun x => { x with wdgTb := s.tb }).connEvent 0x0E20 k 0

def State.connOff (s : State) (k : Fin 16) : State :=
  (s.setN (Od.HSF_CONN_STATE k) 0).modConn k fun x => { x with buffer := [], echoDue := [] }

/-- A counter of a connection with its bit of CONN_CNT_STATUS (Table 17.8). -/
def ctrConn (key : Nat → Nat) (width bit : Nat) (k : Fin 16) : Counter :=
  ⟨key k, width, Od.HSF_CONN_CNT_STATUS k, bit, 0x0E⟩

def State.connFault (s : State) (k : Fin 16) (cause : Nat) : State :=
  let s := (s.count (ctrConn Od.HSF_CONN_FAULTS 16 5 k)).setN (Od.HSF_CONN_STATE k) 3
  (s.modConn k fun x => { x with faultTb := s.tb, seq0 := false, echoDue := [] }).connEvent 0x0E22 k cause

def State.connsOff (s : State) : State := s.each (List.finRange 16) fun k s => s.connOff k

/-- OFF to START of every connection in use while safety cycles run. -/
def State.connsStart (s : State) : State :=
  s.each (List.finRange 16) fun k s =>
    if s.connState k = 0 ∧ s.nat (Od.HSF_CONN_ROLE k) ≠ 0 ∧ s.cycling then s.connStart k else s

/-! ### Demands (R390, R401, R412, R414, R436) -/

/-- The accepted level of a safety input. -/
def State.siHigh (s : State) (ch : Nat) : Bool := s.bit Od.SFS_SI_LEVELS ch

/-- The accepted level of each channel of a pair is its run level (R410). -/
def State.levelRun (s : State) (k : Fin 4) : Vector Bool 2 :=
  #v[s.siHigh (2 * k.val), s.siHigh (2 * k.val + 1) != (s.nat (Od.PAIR_PAIR_MODE k) == 2)]

/-- Each channel of a pair stands at its run level for every lane in the vote (R390, R410). -/
def State.atRun (s : State) (k : Fin 4) : Bool × Bool :=
  let ok (c : Fin 2) : Bool := (s.levelRun k).get c && !(s.pair k).apart.get c
  (ok 0, ok 1)

/-- Run is permitted by a pair. -/
def State.pairRun (s : State) (k : Fin 4) : Bool := (s.atRun k).1 && (s.atRun k).2 && !(s.pair k).fault

/-- What is demanded of one drive, and the source code of R423: 1 input pair, 2 safe frame. -/
structure Demand where
  sto  : Bool := false
  ss1  : Bool := false
  sls  : Option Nat := none
  slt  : Bool := false
  park : Bool := false
  src  : Nat := 0
  deriving DecidableEq, Repr

def Demand.any (x : Demand) : Bool := x.sto || x.ss1 || x.sls.isSome || x.slt || x.park

/-- SLS_LIMIT_1 to _4 of a traction drive. -/
def State.slsLimit (s : State) (d : Drive) (sel : Nat) : Rat := s.num (Od.SF_SLS_LIMIT d.num (sel - 1))

/-- Of two selections the smaller limit, an unused one being the smallest (DEDUCED from R390, assumption 33). -/
def State.strictSel (s : State) (d : Drive) (a b : Option Nat) : Option Nat :=
  match a, b with
  | none, b => b
  | a, none => a
  | some x, some y => if s.slsLimit d y < s.slsLimit d x then some y else some x

/-- Two demands on one drive combine by the AND of "run permitted" (R390). -/
def State.joinDemand (s : State) (d : Drive) (a b : Demand) : Demand :=
  { sto := a.sto || b.sto, ss1 := a.ss1 || b.ss1, sls := s.strictSel d a.sls b.sls, slt := a.slt || b.slt
    park := a.park || b.park, src := if a.any then a.src else b.src }

/-- The demand of an input pair on a drive (R412). -/
def State.pairDemand (s : State) (k : Fin 4) (d : Drive) : Demand :=
  let f := s.nat (Od.PAIR_PAIR_FUNC k)
  let named : Bool := if f = 5 then d == .tra || d == .trb || d == .gbx else (s.nat (Od.PAIR_PAIR_DRIVES k)).testBit d.num
  if s.nat (Od.PAIR_PAIR_MODE k) = 0 ∨ s.pairRun k ∨ !named then {}
  else match f with
    | 1 => { sto := true, src := 1 }
    | 2 => { ss1 := true, src := 1 }
    | 3 => if d.isTraction then { sls := some (s.nat (Od.PAIR_PAIR_SLS_SEL k)), src := 1 } else {}
    | 4 => if d.isTraction then { slt := true, src := 1 } else {}
    | 5 => { park := true, src := 1 }
    | _ => {}

/-- The demand word in force from a connection: the accepted command in RUN, else CONN_FAILSAFE (R414, R436); a consumer
of a status payload and a producer in RUN demand nothing. -/
def State.connWord (s : State) (k : Fin 16) : Option Nat :=
  if s.nat (Od.HSF_CONN_ROLE k) = 0 then none
  else if s.connState k ≠ 2 then some (s.nat (Od.HSF_CONN_FAILSAFE k))
  else if s.nat (Od.HSF_CONN_ROLE k) = 1 ∧ s.nat (Od.HSF_PAYLOAD_KIND k) = 1 then some (s.conn k).payload
  else none

/-- The demand of a command word on a drive of CONN_DRIVES (Table 16.5, R428). -/
def wordDemand (word drives : Nat) (d : Drive) : Demand :=
  let own := drives.testBit d.num
  let t := own && d.isTraction
  let park := !word.testBit 14 && (drives.testBit 0 || drives.testBit 1) && (d == .tra || d == .trb || d == .gbx)
  let x : Demand := {
    sto := own && !word.testBit d.num, ss1 := t && !word.testBit (6 + d.num)
    sls := if t && !word.testBit (8 + d.num) then some (word / 1024 % 4 + 1) else none
    slt := t && !word.testBit (12 + d.num), park := park }
  if x.any then { x with src := 2 } else x

def State.connDemand (s : State) (k : Fin 16) (d : Drive) : Demand :=
  match s.connWord k with
  | none => {}
  | some w => wordDemand w (s.nat (Od.HSF_CONN_DRIVES k)) d

/-- Pairs and connections together. -/
def State.ownDemand (s : State) (d : Drive) : Demand :=
  let x := (List.finRange 4).foldl (fun a k => s.joinDemand d a (s.pairDemand k d)) {}
  (List.finRange 16).foldl (fun a k => s.joinDemand d a (s.connDemand k d)) x

/-- What is demanded of a drive; in AXLE_MODE 1 to 3 an SS1, SLS or Safe Park demand on either traction drive applies to
both (R401). -/
def State.demand (s : State) (d : Drive) : Demand :=
  let x := s.ownDemand d
  if d.isTraction ∧ s.field Od.AXLE_AXLE_STATUS 0 2 ≠ 0 then
    let y := s.ownDemand (if d = .tra then .trb else .tra)
    s.joinDemand d x { y with sto := false, slt := false }
  else x

/-- The combined demand in the layout of Table 16.5. -/
def State.demandWord (s : State) : Nat :=
  let b (c : Bool) (i : Nat) : Nat := if c then 2 ^ i else 0
  let a := s.demand .tra
  let t := s.demand .trb
  let sto := Drive.all.foldl (fun n d => n + b (!(s.demand d).sto) d.num) 0
  let sel := match s.strictSel .tra a.sls t.sls with
    | some n => n - 1
    | none => 0
  sto + b (!a.ss1) 6 + b (!t.ss1) 7 + b a.sls.isNone 8 + b t.sls.isNone 9 + 1024 * sel + b (!a.slt) 12 + b (!t.slt) 13
    + b (!Drive.all.any fun d => (s.demand d).park) 14

/-! ### Releases blocked and SF_STATE (R413, Table 16.16) -/

/-- A latched fault of a pair or a safety output mapped to the drive. -/
def State.mappedFault (s : State) (d : Drive) : Bool :=
  (List.finRange 4).any fun k =>
    let f := s.nat (Od.PAIR_PAIR_FUNC k)
    let named : Bool := if f = 5 then d == .tra || d == .trb || d == .gbx else (s.nat (Od.PAIR_PAIR_DRIVES k)).testBit d.num
    ((s.pair k).fault && named) || ((s.sout k).fault && (s.nat (Od.SO_SO_DRIVES k)).testBit d.num)

/-- A clock fault of severity SAFE is present (Table 1.11, R38). -/
def State.safeClockFault (s : State) : Bool :=
  s.clocks.faults.any fun i => faultBit i ∈ [7, 8, 9, 10, 14, 15]

/-- A demand is present: an outside one, or the internal one of a plausibility fault (Table 16.1). -/
def State.demanded (s : State) (d : Drive) : Bool := (s.demand d).any || (s.safe d).plaus

/-- A condition of R413 holds for the drive; after failed start-up tests no pair is released (R384). -/
def State.releaseBlocked (s : State) (d : Drive) : Bool :=
  s.demanded d || s.mappedFault d || s.pyrBit 5 || s.pyrBit 18 || s.pyrBit 7 || s.pyrBit 19 || s.pyrBit 2 ||
    s.safeClockFault

/-- SF_STATE of a drive. -/
def State.sfWord (s : State) (d : Drive) : Nat :=
  let b (c : Bool) (i : Nat) : Nat := if c then 2 ^ i else 0
  let x := s.safe d
  let pk := d == .tra || d == .trb || d == .gbx
  b (s.demanded d) 0 + b x.sto 1 + b x.ss1.isSome 2 + b x.ss1Done 3 + b x.sls.isSome 4
    + 32 * (match x.sls with | some y => y.sel - 1 | none => 0) + b x.slt 7 + b (pk && s.safety.parkAct) 8
    + b (pk && s.safety.parked) 9 + b x.e2Valid 10 + b x.plaus 11 + b (s.releaseBlocked d) 12

/-- SF_STATE and DEMANDS as they stand. -/
def State.refreshSf (s : State) : State :=
  (s.each Drive.all fun d s => s.setN (Od.SFS_SF_STATE d.num) (s.sfWord d)).setN Od.SFS_DEMANDS s.demandWord

/-! ### FLT lines and safe states (R388, R395) -/

/-- Every condition for deasserting FLT_A and FLT_B holds (R395, R65). -/
def State.fltOk (s : State) : Bool :=
  s.dictUp && !s.diagOnly && s.cycling && s.pyrBit 1 && !s.pyrBit 2 && s.bringup.safetySetOk && !s.pyrBit 19 &&
    !s.pyr.fltClock

def State.refreshFlt (s : State) : State := s.setFlt (!s.fltOk)

/-- A resynchronisation and a hand-over end where they are. -/
def State.dropSequences (s : State) : State :=
  ((s.modPyr fun x => { x with rebuild := none, handOver := none, p2Halted := false }).setPyrBit 9 false).setPyrBit 16 false

/-- RESYNC_STATE from the sequence that runs (Table 15.9). -/
def State.showResync (s : State) : State :=
  s.setN Od.PYR_RESYNC_STATE (match s.pyr.rebuild with
    | some (_, .shadow) => 2
    | some _ => 1
    | none => if s.pyrBit 8 then 3 else 0)

def State.soOff (s : State) : State :=
  s.each (List.finRange 4) fun k s => s.modOut k fun x => { x with on := false, tb := if x.on then s.tb else x.tb }

/-- The latched safe state (Table 15.5). -/
def State.latchedSafe (s : State) (code lane clk : Nat) : State :=
  if s.pyrBit 5 then s else
  let detail := s.pyrDetail lane clk
  let s := ((s.setPyrBit 5 true).setPyrBit 0 false).setField Od.PYR_PYR_STATUS 10 3 0
  let s := (s.dropSequences.showResync.setFlt true).soOff.connsOff
  (s.raiseSafe code 0xFF detail Drive.all).refreshSf

/-- Pyreri enters a configuration: its lanes vote, safety cycles start at the next multiple of the cycle, connections
start (R381, R383, R389, R434). -/
def State.enterConfig (s : State) (c : Nat) : State :=
  let p := s.cyclePeriod
  let s := (s.setN Od.PYR_CONFIG_ACT c).setField Od.PYR_PYR_STATUS 10 3 (if c = 1 then 7 else 3)
  let s := (s.setPyrBit 17 (c == 2)).setPyrBit 0 true
  let s := s.modPyr fun x => { x with due := (s.tb / p + 1) * p, t0 := s.tb, exch := { x.exch with tb := s.tb }, written := none }
  s.connsStart.refreshFlt

end Sys2Proof.Machine
end

