-- ==== Sys2Proof/Machine/Hsf.lean ====
section
/-! DEFINITION. Chapter 17: Henmon safe frames (R424 to R442): forming, checking and accepting frames, the watchdogs and
the producers. -/
namespace Sys2Proof.Machine

/-! ### Frames (R424 to R428) -/

/-- Payload length of a kind (Table 17.2). -/
def kindLength (kind : Nat) : Nat := if kind = 1 then 4 else 20

/-- The connection identity: the sender's address, then the receiver's (R427). -/
def hsfIdentity (sender receiver : Nat) : List Byte := natLe 2 sender ++ natLe 2 receiver

/-- CRC of a frame: identity and bytes 0 to 7 + L (R427). -/
def hsfCrc (sender receiver : Nat) (body : List Byte) : Nat := crc32c (hsfIdentity sender receiver ++ body)

/-- Bytes `lo` to `lo + n − 1` of a frame as a number. -/
def fieldLe (data : List Byte) (lo n : Nat) : Nat := leNat ((data.drop lo).take n)

/-- A frame with its CRC; `kind` is the low half of KIND: 0 data, 1 echo (Table 17.1). -/
def hsfForm (sender receiver kind seq ptime : Nat) (payload : List Byte) : List Byte :=
  let body := natLe 1 (16 + kind) ++ natLe 1 payload.length ++ natLe 2 seq ++ natLe 4 ptime ++ payload
  body ++ natLe 4 (hsfCrc sender receiver body)

/-- What the form and CRC checks of a received frame find. -/
inductive FrameCheck where
  | good (seq ptime : Nat) (payload : List Byte)
  | malformed
  | crcError
  deriving DecidableEq, Repr

/-- The length at the port fits the medium: FRAME_BYTES on CAN FD, 12 + L on UDP (R425, R426). -/
def State.hsfLengthOk (s : State) (k : Fin 16) (data : List Byte) : Bool :=
  let l := fieldLe data 1 1
  decide (12 ≤ data.length) && decide (l ≤ 48) &&
    if s.nat (Od.HSF_CONN_MEDIUM k) = 0 then
      data.length == s.nat (Od.HSF_FRAME_BYTES k) && decide (12 + l ≤ data.length)
    else data.length == 12 + l

/-- Length, CRC, then padding, version, kind, payload length and the reserved bits of a command word (R425 to R428,
R414). -/
def State.hsfCheck (s : State) (k : Fin 16) (echo : Bool) (data : List Byte) : FrameCheck :=
  let l := fieldLe data 1 1
  if !s.hsfLengthOk k data then .malformed
  else if fieldLe data (8 + l) 4 ≠ hsfCrc (s.nat (Od.HSF_PEER_ADDR k)) (s.nat (Od.HSF_OWN_ADDR k)) (data.take (8 + l)) then
    .crcError
  else
    let pad := (data.drop (12 + l)).any fun b => b != 0
    let kind := fieldLe data 0 1
    let len := if echo then 4 else kindLength (s.nat (Od.HSF_PAYLOAD_KIND k))
    let word := fieldLe data 8 4
    let reserved := !echo && s.nat (Od.HSF_PAYLOAD_KIND k) == 1 && decide (65536 ≤ word)
    if pad || kind != 16 + (if echo then 1 else 0) || l != len || reserved then .malformed
    else .good (fieldLe data 2 2) (fieldLe data 4 4) ((data.drop 8).take l)

/-! ### Discards (R435) -/

/-- The first discard in each second logs event 0x0E24. -/
def State.hsfDiscard (s : State) (k : Fin 16) (cause : Nat) : State :=
  let sec := s.tb / 100000000
  if (s.conn k).discSec = some sec then s
  else (s.modConn k fun x => { x with discSec := some sec }).connEvent 0x0E24 k cause

/-- A CRC error: more than CRC_ERR_MAX within 1 s in RUN is a FAULT (R434). -/
def State.hsfCrcError (s : State) (k : Fin 16) : State :=
  let s := (s.count (ctrConn Od.HSF_CRC_ERRORS 32 0 k)).hsfDiscard k 3
  let times := s.tb :: (s.conn k).crcTimes.filter fun t => decide (s.tb < t + sec 1)
  let s := s.modConn k fun x => { x with crcTimes := times }
  if s.connState k = 2 ∧ s.nat (Od.HSF_CRC_ERR_MAX k) < times.length then s.connFault k 3 else s

def State.hsfMalformed (s : State) (k : Fin 16) : State :=
  (s.count (ctrConn Od.HSF_FORMAT_ERRORS 32 1 k)).hsfDiscard k 6

def State.hsfTimeError (s : State) (k : Fin 16) : State :=
  (s.count (ctrConn Od.HSF_TIME_ERRORS 32 4 k)).hsfDiscard k 6

/-! ### Acceptance (R429 to R432, R434, R437) -/

/-- A signed 32-bit difference. -/
def diff32 (a b : Nat) : Int := (BitVec.ofNat 32 a - BitVec.ofNat 32 b).toInt

/-- Age of a frame in µs in GLOBAL mode; none without synchronised time (R431). -/
def hsfAge (gt : Option Nat) (ptime : Nat) : Option Int := gt.map fun g => 10 * diff32 g ptime

/-- PTIME passes the time expectation; `last` is the PTIME that it may not lie before (R431, R432). -/
def State.hsfTimeOk (s : State) (k : Fin 16) (gt : Option Nat) (ptime : Nat) (last : Option Nat) : Bool :=
  (match last with
    | some p => decide (0 ≤ diff32 ptime p)
    | none => true) &&
  (s.nat (Od.HSF_TIME_MODE k) == 1 ||
    match hsfAge gt ptime with
    | some a => decide (a ≤ s.nat (Od.HSF_AGE_MAX_us k) ∧ -(s.nat (Od.HSF_SYNC_TOL_us k) : Int) ≤ a)
    | none => false)

/-- Distance of Table 17.3. -/
def seqDistance (seq last : Nat) : Nat := (seq + 65535 - last) % 65535

/-- A frame is accepted: its SEQ, PTIME and age are kept, an echo falls due in ROUNDTRIP. -/
def State.hsfAccept (s : State) (k : Fin 16) (seq ptime : Nat) (gt : Option Nat) : State :=
  let s := (s.countWide (Od.HSF_FRAMES_OK k)).setN (Od.HSF_LAST_SEQ k) seq
  let s := match s.nat (Od.HSF_TIME_MODE k), hsfAge gt ptime with
    | 0, some a => s.setI (Od.HSF_LAST_AGE_us k) a
    | _, _ => s
  s.modConn k fun x => { x with
    ptime := some ptime, wdgTb := s.tb
    echoDue := if s.nat (Od.HSF_TIME_MODE k) = 1 then x.echoDue ++ [seq] else x.echoDue }

/-- The accepted payload of a command; the first RELEASE value after an entry to RUN is the reference only (R437). Answers
whether RELEASE rises. -/
def State.hsfPayload (s : State) (k : Fin 16) (payload : List Byte) : State × Bool :=
  if s.nat (Od.HSF_PAYLOAD_KIND k) ≠ 1 then (s, false)
  else
    let w := leNat payload
    let rises := (s.conn k).release == some false && w.testBit 15
    (s.modConn k fun x => { x with payload := w, release := some (w.testBit 15) }, rises)

/-- A wrap of the sequence is counted, and logged the first time after a start (R429). -/
def State.hsfWrap (s : State) (k : Fin 16) : State :=
  let s := s.countWide (Od.HSF_SEQ_WRAPS k)
  if (s.conn k).wrapLogged then s
  else (s.modConn k fun x => { x with wrapLogged := true }).connEvent 0x0E23 k 0

/-- A frame that passed form and CRC checks, in the consumer's state (Tables 17.3, 17.4). Answers whether RELEASE rises. -/
def State.hsfFrame (s : State) (k : Fin 16) (seq ptime : Nat) (payload : List Byte) (gt : Option Nat) : State × Bool :=
  let restart : State :=
    let s := (s.setN (Od.HSF_CONN_STATE k) 1).modConn k fun x => { x with release := none, wrapLogged := false }
    (s.hsfAccept k 0 ptime gt).modConn k fun x => { x with seq0 := true }
  if seq = 0 then
    if !s.hsfTimeOk k gt ptime none then (s.hsfTimeError k, false)
    else if s.connState k = 2 then (restart.connEvent 0x0E21 k 5, false)
    else (restart, false)
  else match s.connState k with
  | 1 =>
    if seq ≠ 1 ∨ !(s.conn k).seq0 then (s.hsfDiscard k 6, false)
    else if !s.hsfTimeOk k gt ptime (s.conn k).ptime then (s.hsfTimeError k, false)
    else ((s.hsfAccept k 1 ptime gt).connRun k).hsfPayload k payload
  | 2 =>
    let d := seqDistance seq (s.nat (Od.HSF_LAST_SEQ k))
    if d = 0 then ((s.count (ctrConn Od.HSF_REPEATS 32 2 k)).hsfDiscard k 6, false)
    else if s.nat (Od.HSF_SEQ_WIN k) < d then ((s.hsfDiscard k 2).connFault k 2, false)
    else if !s.hsfTimeOk k gt ptime (s.conn k).ptime then (s.hsfTimeError k, false)
    else
      let wraps := seq < s.nat (Od.HSF_LAST_SEQ k)
      let s := s.when (decide (1 < d)) fun s => s.countBy (ctrConn Od.HSF_LOST 32 3 k) (d - 1)
      let s := s.hsfAccept k seq ptime gt
      (if wraps then s.hsfWrap k else s).hsfPayload k payload
  | _ => (s.hsfDiscard k 6, false)

/-- The frames that a consumer has received since the last latch, in arrival order (R438, R441); one that a lane in the vote
rejects is discarded. Answers whether RELEASE rises in the newest accepted one or one before it. -/
def State.hsfLatch (s : State) (k : Fin 16) (rejected : List Nat) : State × Bool :=
  let frames := (s.conn k).buffer.zipIdx
  let s := s.modConn k fun x => { x with buffer := [] }
  frames.foldl (fun (a : State × Bool) e =>
    let f := e.1
    if e.2 ∈ rejected then (a.1.hsfDiscard k 6, a.2) else
    match a.1.hsfCheck k false f.1 with
    | .malformed => (a.1.hsfMalformed k, a.2)
    | .crcError => (a.1.hsfCrcError k, a.2)
    | .good seq ptime payload =>
      let r := a.1.hsfFrame k seq ptime payload f.2
      (r.1, a.2 || r.2)) (s, false)

/-- A consumer connection that is not OFF keeps a received frame for the next latch with the global time at reception; a
ninth frame drops the oldest (R431, R438). -/
def State.hsfReceive (s : State) (k : Fin 16) (data : List Byte) : State :=
  if s.nat (Od.HSF_CONN_ROLE k) ≠ 1 ∨ s.connState k = 0 then s
  else s.modConn k fun x =>
    let b := x.buffer ++ [(data, if s.time.sync then some s.gt10us else none)]
    { x with buffer := if 8 < b.length then b.drop 1 else b }

/-! ### Sending (R425, R426, R429, R432, R450) -/

/-- The urgent slot of a connection on its channel: one per connection in use there, from slot 1 upward (Table 18.3). -/
def State.hsfSlot (s : State) (k : Fin 16) : Fin 16 :=
  let n := ((List.range k.val).filter fun j => s.nat (Od.HSF_CONN_ROLE j) != 0 && s.nat (Od.HSF_CONN_MEDIUM j) == 0 &&
    s.nat (Od.HSF_CONN_CHANNEL j) == s.nat (Od.HSF_CONN_CHANNEL k)).length
  if h : n < 7 then ⟨n + 1, by omega⟩ else 0

/-- A frame goes out on the connection's medium: padded to FRAME_BYTES into its urgent slot with a stale deadline, or as
one datagram. -/
def State.hsfSend (s : State) (k : Fin 16) (ident : Nat) (frame : List Byte) (staleUs : Nat) : State :=
  if s.nat (Od.HSF_CONN_MEDIUM k) = 0 then
    let c : Fin 4 := Fin.ofNat 4 (s.nat (Od.HSF_CONN_CHANNEL k))
    let data := frame ++ List.replicate (s.nat (Od.HSF_FRAME_BYTES k) - frame.length) 0
    s.slotWrite c (s.hsfSlot k) ⟨ident % 2 ^ 29, ident.testBit 31, true, s.nat (Od.CAN_DATA_kbps c) != 0, data⟩ staleUs
  else s.sendUdp 47812 (s.nat (Od.HSF_PEER_IP k)) 47812 frame

/-- The next sequence number: 0xFFFF is followed by 1 (R429). -/
def nextSeq (n : Nat) : Nat := if n = 65535 then 1 else n + 1

/-- One echo for each data frame accepted in this cycle's latch (R432). -/
def State.hsfEchoes (s : State) (k : Fin 16) : State :=
  let due := (s.conn k).echoDue
  let s := s.modConn k fun x => { x with echoDue := [] }
  s.each due fun seq s =>
    let frame := hsfForm (s.nat (Od.HSF_OWN_ADDR k)) (s.nat (Od.HSF_PEER_ADDR k)) 1 (s.conn k).echoSeq
      (s.tb / 1000 % 2 ^ 32) (natLe 2 seq ++ natLe 1 (s.connState k) ++ [0])
    (s.hsfSend k (s.nat (Od.HSF_ECHO_ID k)) frame (s.nat (Od.HSF_RT_MAX_us k))).modConn k fun x => { x with
      echoSeq := nextSeq x.echoSeq }

/-- SAFE_SPEED of a traction drive as I16, saturated (Table 17.2). -/
def State.statusSpeed (s : State) (t : Nat) : List Byte :=
  natLe 2 ((clampI (-32767) 32767 (roundNear (s.num (Od.SFS_SAFE_SPEED t)))) % 65536).toNat

/-- The payload a producer sends (Table 17.2). -/
def State.hsfStatus (s : State) (k : Fin 16) : List Byte :=
  if s.nat (Od.HSF_PAYLOAD_KIND k) = 1 then natLe 4 s.demandWord
  else
    let b (c : Bool) (i : Nat) : Nat := if c then 2 ^ i else 0
    Drive.all.foldl (fun l d => l ++ natLe 2 (s.sfWord d)) [] ++ s.statusSpeed 0 ++ s.statusSpeed 1 ++
      natLe 1 s.config ++ natLe 1 (b (s.pyrBit 3) 0 + b (s.pyrBit 4) 1 + b (s.pyrBit 5) 2 + b (s.pyrBit 18) 3) ++
      natLe 1 (s.nat Od.SFS_SI_LEVELS) ++ [0]

/-- A producer's period (R429, R431, R432, R434): the next data frame; in GLOBAL mode the first one starts RUN. -/
def State.hsfProduce (s : State) (k : Fin 16) : State :=
  let x := s.conn k
  if s.nat (Od.HSF_CONN_ROLE k) ≠ 2 ∨ (s.connState k ≠ 1 ∧ s.connState k ≠ 2) ∨ s.tb < x.dueTb then s
  else
    let ptime := if s.nat (Od.HSF_TIME_MODE k) = 0 then s.gt10us else s.tb / 1000 % 2 ^ 32
    let frame := hsfForm (s.nat (Od.HSF_OWN_ADDR k)) (s.nat (Od.HSF_PEER_ADDR k)) 0 x.next ptime (s.hsfStatus k)
    let s := s.hsfSend k (s.nat (Od.HSF_CONN_ID k)) frame (3 * s.nat (Od.HSF_PERIOD_us k) / 4)
    let s := (s.countWide (Od.HSF_FRAMES_OK k)).setN (Od.HSF_LAST_SEQ k) x.next
    let s := s.when (x.next == 1 && x.sent.any fun e => e.1 == 65535) fun s => s.hsfWrap k
    let s := s.modConn k fun y => { y with
      next := nextSeq x.next, sent := ((x.next, s.tb) :: y.sent).take 16, dueTb := s.connDue k }
    if s.connState k = 1 ∧ s.nat (Od.HSF_TIME_MODE k) = 0 then s.connRun k else s

/-- An echo at the producer (R432, R434): valid when it names one of the last 16 frames and its loop time is at most
RT_MAX_us. -/
def State.hsfEcho (s : State) (k : Fin 16) (data : List Byte) : State :=
  if s.nat (Od.HSF_CONN_ROLE k) ≠ 2 ∨ s.nat (Od.HSF_TIME_MODE k) ≠ 1 ∨ (s.connState k ≠ 1 ∧ s.connState k ≠ 2) then s
  else match s.hsfCheck k true data with
  | .malformed => s.hsfMalformed k
  | .crcError => s.hsfCrcError k
  | .good _ _ payload =>
    match (s.conn k).sent.find? fun e => e.1 == fieldLe payload 0 2 with
    | none => s.hsfTimeError k
    | some e =>
      if us (s.nat (Od.HSF_RT_MAX_us k)) < s.tb - e.2 then s.hsfTimeError k
      else
        let s := (s.setI (Od.HSF_LAST_AGE_us k) ((s.tb - e.2) / 100 : Nat)).modConn k fun x => { x with wdgTb := s.tb }
        if s.connState k = 1 then s.connRun k else s

/-- WDG_ms without an accepted frame, or in ROUNDTRIP without a valid echo (R433); frames that wait for the latch are
checked there first (R441). -/
def State.hsfSilent (s : State) (k : Fin 16) : State :=
  let x := s.conn k
  let due := x.wdgTb + ms (s.nat (Od.HSF_WDG_ms k)) ≤ s.tb
  if s.connState k ≠ 2 ∨ ¬ due then s
  else if s.nat (Od.HSF_CONN_ROLE k) = 1 then if x.buffer.isEmpty then (s.connFault k 1).refreshSf else s
  else if s.nat (Od.HSF_TIME_MODE k) = 1 then (s.connFault k 4).refreshSf
  else s

/-- A frame of a CAN FD connection leaves the channel's RXQ0; one over Ethernet is counted at the port. -/
def State.hsfTake (s : State) (k : Fin 16) (ident : Nat) : State :=
  if s.nat (Od.HSF_CONN_MEDIUM k) = 0 then
    s.rxTakeId (Fin.ofNat 4 (s.nat (Od.HSF_CONN_CHANNEL k))) (ident % 2 ^ 29) (ident.testBit 31)
  else s.ethReceived

def execHsfDataFrameReceive (dt : Nat) (k : Fin 16) (data : List Byte) (s : State) : Res :=
  let s := s.elapse dt
  reply s ((s.hsfTake k (s.nat (Od.HSF_CONN_ID k))).hsfReceive k data)

def execHsfEchoReceive (dt : Nat) (k : Fin 16) (data : List Byte) (s : State) : Res :=
  let s := s.elapse dt
  reply s ((s.hsfTake k (s.nat (Od.HSF_ECHO_ID k))).hsfEcho k data)

def execHsfProducerSend (dt : Nat) (k : Fin 16) (s : State) : Res := reply s ((s.elapse dt).hsfProduce k)

def execHsfWatchdog (dt : Nat) (k : Fin 16) (s : State) : Res := reply s ((s.elapse dt).hsfSilent k)

/-- 100 ms after its FAULT a producer starts again (R434). -/
def State.hsfRestart (s : State) (k : Fin 16) : State :=
  if s.nat (Od.HSF_CONN_ROLE k) = 2 ∧ s.connState k = 3 ∧ (s.conn k).faultTb + ms 100 ≤ s.tb then s.connStart k else s

def execHsfProducerRestart (dt : Nat) (k : Fin 16) (s : State) : Res := reply s ((s.elapse dt).hsfRestart k)

end Sys2Proof.Machine
end

