-- ==== Sys2Proof/Machine/Pyreri.lean ====
section
/-! DEFINITION. Chapter 15: lanes, comparators and configurations (R378 to R396), torque-off read-back and the safety data
exchange's age. -/
namespace Sys2Proof.Machine

/-! ### Start-up tests (R383, R384) -/

/-- The tests end with the failed bits of STARTUP_RESULT; at the end of a restart from SPLIT its hold is released (R384,
R393). -/
def State.startupTests (s : State) (failed : Nat) : State :=
  let s := s.setN Od.PYR_STARTUP_RESULT (2 ^ 15 + failed)
  let s := (s.modPyr fun x => { x with retest := false }).setPyrBit 19 false
  let s := { s with bringup := { s.bringup with startupDone := true, startupOk := failed == 0 } }
  if failed = 0 then
    ((s.setPyrBit 1 true).event 0x0D01 0xFF (s.pyrDetail 0 0)).enterConfig (s.nat Od.PYR_CONFIG_BOOT)
  else (s.setPyrBit 2 true).refreshFlt.raiseSafe 0x0D02 0xFF (s.pyrDetail 0 (2 ^ 15 + failed)) Drive.all

def execPyreriStartupTestsComplete (dt : Nat) (failed : BitVec 10) (s : State) : Res :=
  let s := s.elapse dt
  reply s (if s.pyr.retest || (decide (4 ≤ s.bringup.step) && !s.bringup.startupDone && !s.diagOnly) then
    s.startupTests failed.toNat else s)

/-! ### Lane differences (R379, R385 to R388, Table 15.8) -/

def ctrMismatch : Counter := ⟨Od.PYR_MISMATCHES, 32, Od.PYR_PYR_CNT_STATUS, 3, 0x0D⟩
def ctrResyncs (l : Fin 3) : Counter := ⟨Od.PYR_RESYNCS l, 16, Od.PYR_PYR_CNT_STATUS, l, 0x0D⟩
def ctrHandOvers : Counter := ⟨Od.PYR_HANDOVERS, 16, Od.PYR_PYR_CNT_STATUS, 4, 0x0D⟩
def ctrExchMisses : Counter := ⟨Od.PYR_EXCH_MISSES, 32, Od.PYR_PYR_CNT_STATUS, 5, 0x0D⟩
def ctrP2Blocked : Counter := ⟨Od.PYR_P2_BLOCKED, 32, Od.PYR_PYR_CNT_STATUS, 6, 0x0D⟩

/-- An event about a lane (R398). -/
def State.laneEvent (s : State) (code : Nat) (l : Fin 3) (clk : Nat) : State :=
  s.event code (0xD0 + l.val) (s.pyrDetail l.val clk)

/-- The odd lane is halted and leaves the vote (Table 15.3 step 1). -/
def State.excludeLane (s : State) (l : Fin 3) (clk : Nat) : State :=
  let s := (s.setN Od.PYR_LAST_ODD_CORE l.val).setPyrBit (10 + l.val) false
  (s.modPyr fun x => { x with oddCount := upd x.oddCount l (· + 1) }).laneEvent 0x0D03 l clk

/-- A hand-over is abandoned; PAIR goes on with P2 on its non-safety tasks (Table 15.7). -/
def State.abandonHandOver (s : State) : State :=
  let back := s.config == 2
  let s := (s.modPyr fun x => { x with handOver := none, p2Halted := false }).setPyrBit 16 false
  let s := s.when back fun s => (s.setPyrBit 12 false).setPyrBit 17 true
  s.event 0x0D08 0xFF (s.pyrDetail 0 0)

/-- An odd lane in TRIPLE: rebuilt, or retired at its third odd event (R385, R387). -/
def State.oddLane (s : State) (l : Fin 3) (clk : Nat) : State :=
  let s := s.excludeLane l clk
  if 3 ≤ s.pyr.oddCount.get l then
    let s := s.when s.pyr.handOver.isSome fun s => s.abandonHandOver
    let s := (s.setPyrBit (13 + l.val) true).setN Od.PYR_CONFIG_ACT 4
    (s.setPyrBit 17 false).laneEvent 0x0D09 l 0
  else
    let s := s.modPyr fun x => { x with rebuild := some (l, .copying), windowEnd := none, copyTb := s.tb }
    ((s.setPyrBit 9 true).setPyrBit 8 true).showResync

/-- A difference in the 2-of-3 vote (R385, R386). -/
def State.tripleDiff (s : State) (odd : Option (Fin 3)) (clk : Nat) : State :=
  match odd with
  | none => s.latchedSafe 0x0D05 0 clk
  | some l => if s.pyrBit 8 then s.latchedSafe 0x0D05 l.val clk else s.oddLane l clk

/-- Number of the lane concerned; 0 where none is (assumption 32). -/
def laneNum : Option (Fin 3) → Nat
  | some l => l.val
  | none => 0

/-- A comparator reports a difference, with the odd lane or no majority; outside a vote nothing is compared (R379). During
a hand-over the configuration whose vote is in force handles it (R392). -/
def State.laneDiff (s : State) (odd : Option (Fin 3)) (clk : Nat) : State :=
  let compared : Bool := match odd with
    | none => true
    | some l => s.voting l || s.pyr.rebuild.any (fun r => r.1 == l) || (s.pyr.handOver.isSome && l == 2 && !s.pyr.p2Halted)
  if !s.cycling || !compared then s
  else
    let s := s.count ctrMismatch
    match s.pyr.handOver with
    | some .toPairH2 => s.latchedSafe 0x0D06 (laneNum odd) clk
    | some .toPairH1 =>
      if odd = some 2 then (s.excludeLane 2 clk).modPyr fun x => { x with p2Halted := true }
      else s.abandonHandOver.tripleDiff odd clk
    | some .toPair => s.abandonHandOver.tripleDiff odd clk
    | some .toTripleH2 => s.tripleDiff odd clk
    | some _ => if odd = some 2 then s.abandonHandOver else s.latchedSafe 0x0D06 (laneNum odd) clk
    | none => if s.config = 1 then s.tripleDiff odd clk else s.latchedSafe 0x0D06 (laneNum odd) clk

def execLaneDifference (dt : Nat) (odd : Option (Fin 3)) (clk : Nat) (s : State) : Res :=
  reply s ((s.elapse dt).laneDiff odd clk)

/-- The copy of 320 KiB in 40,960 beats at 200 MHz. -/
def copyTicks : Nat := 20480

/-- The copy of 320 KiB is done: the lane waits for the cycle boundary (Table 15.3 step 2, Table 15.7). -/
def State.copyDone (s : State) : State :=
  if s.tb < s.pyr.copyTb + copyTicks then s else
  let s := match s.pyr.rebuild with
    | some (l, .copying) => s.modPyr fun x => { x with rebuild := some (l, .waiting) }
    | _ => s
  if s.pyr.handOver = some .copying then s.modPyr fun x => { x with handOver := some .toTriple } else s

def execResyncCopyComplete (dt : Nat) (s : State) : Res := reply s (s.elapse dt).copyDone

/-- RESYNC_WINDOW_ms after the lane rejoined, the window closes (R385). -/
def State.windowClose (s : State) : State :=
  match s.pyr.windowEnd with
  | some e => if e ≤ s.tb then ((s.modPyr fun x => { x with windowEnd := none }).setPyrBit 8 false).showResync else s
  | none => s

def execResyncWindowClose (dt : Nat) (s : State) : Res := reply s (s.elapse dt).windowClose

/-! ### Cycle boundary (Table 15.3 steps 3 and 4, Table 15.7) -/

/-- A rebuilt lane becomes the shadow lane, and after a clean shadow cycle rejoins the vote. -/
def State.boundaryLane (s : State) : State :=
  match s.pyr.rebuild with
  | some (l, .waiting) => (s.modPyr fun x => { x with rebuild := some (l, .shadow) }).showResync
  | some (l, .shadow) =>
    let s := s.modPyr fun x => { x with rebuild := none, windowEnd := some (s.tb + ms (s.nat Od.PYR_RESYNC_WINDOW_ms)) }
    let s := ((s.setPyrBit 9 false).setPyrBit (10 + l.val) true).count (ctrResyncs l)
    s.showResync.laneEvent 0x0D04 l 0
  | _ => s

/-- A hand-over is complete. -/
def State.handOverDone (s : State) (c : Nat) : State :=
  let s := (s.modPyr fun x => { x with handOver := none, p2Halted := false }).setPyrBit 16 false
  let s := ((s.setPyrBit 17 (c == 2 && !s.pyr.p2Halted)).setN Od.PYR_CONFIG_ACT c).count ctrHandOvers
  s.event 0x0D07 0xFF (s.pyrDetail 0 0)

def State.boundaryHandOver (s : State) : State :=
  let go (h : HandOver) (s : State) : State := s.modPyr fun x => { x with handOver := some h }
  match s.pyr.handOver with
  | some .toPair => go .toPairH1 s
  | some .toPairH1 => (go .toPairH2 s).setPyrBit 12 false
  | some .toPairH2 =>
    let halted := s.pyr.p2Halted
    (s.handOverDone 2).setPyrBit 17 (!halted)
  | some .toTriple => go .toTripleH1 s
  | some .toTripleH1 => (go .toTripleH2 s).setPyrBit 12 true
  | some .toTripleH2 => s.handOverDone 1
  | _ => s

/-! ### Watchdog and exchange (R389, R391) -/

/-- A cycle has not ended within 1.25 × PYR_CYCLE_us of its start. -/
def State.cycleHung (s : State) : State :=
  if s.cycling ∧ s.pyr.due + 5 * s.cyclePeriod / 4 ≤ s.tb then (s.setPyrBit 6 true).latchedSafe 0x0D0A 0 0 else s

def execCycleWatchdogExpiry (dt : Nat) (s : State) : Res := reply s (s.elapse dt).cycleHung

/-- A safety function of the drive uses an engine value: monitored SS1, SLS or SLT (R391). -/
def State.usesEngines (s : State) (d : Drive) : Bool :=
  (s.safe d).ss1.any (fun x => x.mode == 2) || (s.safe d).sls.isSome || (s.safe d).slt

/-- The drives that a stale exchange concerns and that it has not yet taken to torque off. -/
def State.staleDrives (s : State) : List Drive := Drive.all.filter fun d => s.usesEngines d && !(s.safe d).stale

/-- Each drive concerned goes to torque off. -/
def State.staleOff (s : State) : State :=
  s.each s.staleDrives fun d s =>
    ((s.modSafe d fun x => { x with stale := true }).raiseSafe 0x0D0B d.num (s.pyrDetail d.num 0) [d]).modSafe d fun x =>
      { x with ss1 := none, sls := none, slt := false, braking := false }

/-- The newest valid record is older than EXCH_AGE_MAX_us; with no drive concerned the event names none (DEDUCED,
assumption 34). -/
def State.exchangeStale (s : State) : State :=
  if s.cycling ∧ s.pyr.exch.tb + us (s.nat Od.PP_EXCH_AGE_MAX_us) < s.tb then
    let first := !s.pyrBit 18 && s.staleDrives.isEmpty
    let s := s.setPyrBit 18 true
    (if first then s.event 0x0D0B 0xFF (s.pyrDetail 0 0) else s.staleOff).refreshSf
  else s

def execExchangeStale (dt : Nat) (s : State) : Res := reply s (s.elapse dt).exchangeStale

/-! ### Configuration requests (R392, R393) -/

/-- CONFIG_REQ is aborted: a resynchronisation, its window or a hand-over, a latched fault, or START and
TRIPLE_DEGRADED. -/
def State.configBusy (s : State) : Bool :=
  s.pyr.rebuild.isSome || s.pyrBit 8 || s.pyr.handOver.isSome || s.pyrBit 5 || s.config == 0 || s.config == 4

/-- A request of 1, 2 or 3 is refused. -/
def State.configRefused (s : State) (c : Nat) : Bool :=
  s.configBusy || s.config == 3 || s.config == c || !(s.nat Od.PP_PYR_ALLOWED).testBit (c - 1)

/-- SPLIT (R393): the hardware latch asserts every pair, the lanes leave lockstep. -/
def State.enterSplit (s : State) : State :=
  let s := s.each Drive.all fun d s => s.torqueOff d
  let s := ((s.setPyrBit 19 true).setPyrBit 0 false).setPyrBit 17 false
  let s := ((s.setField Od.PYR_PYR_STATUS 10 3 0).setN Od.PYR_CONFIG_ACT 3).setFlt true
  (s.soOff.connsOff.event 0x0D0E 0xFF (s.pyrDetail 0 0)).refreshSf

/-- Leaving SPLIT restarts Pyreri: the lanes are reset together and tested again (R393). -/
def State.leaveSplit (s : State) : State :=
  let s := s.event 0x0D0E 0xFF (s.pyrDetail 0 0)
  let s := (s.setN Od.PYR_CONFIG_ACT 0).modPyr fun x => { x with retest := true, p2Halted := false }
  ((s.setPyrBit 1 false).setPyrBit 2 false).setN Od.PYR_STARTUP_RESULT 0

/-- The effect of CONFIG_REQ with a value. -/
def State.configEffect (v : Nat) (s : State) : Except Nat State :=
  match v with
  | 1 =>
    refuseIf (s.configRefused 1) 0x08000022 <|
    .ok (((s.modPyr fun x => { x with handOver := some .copying, copyTb := s.tb }).setPyrBit 16 true).setPyrBit 17 false)
  | 2 =>
    refuseIf (s.configRefused 2) 0x08000022 <|
    .ok ((s.modPyr fun x => { x with handOver := some .toPair }).setPyrBit 16 true)
  | 3 =>
    let free := Drive.all.all fun d => decide (s.ds d = .unavailable ∨ s.ds d = .standby ∨ s.ds d = .inhibit)
    refuseIf (s.configRefused 3 || !free) 0x08000022 (.ok s.enterSplit)
  | 4 => refuseIf (s.configBusy || s.config != 3) 0x08000022 (.ok s.leaveSplit)
  | _ => .error 0x06090030

def State.writeConfigReq (s : State) (who : Requester) (v : Nat) : State :=
  s.request who Od.PYR_CONFIG_REQ .safety (State.configEffect v)

def execConfigReqTriple (dt : Nat) (who : Requester) (s : State) : Res := reply s ((s.elapse dt).writeConfigReq who 1)
def execConfigReqPair (dt : Nat) (who : Requester) (s : State) : Res := reply s ((s.elapse dt).writeConfigReq who 2)
def execConfigReqSplit (dt : Nat) (who : Requester) (s : State) : Res := reply s ((s.elapse dt).writeConfigReq who 3)
def execConfigReqLeaveSplit (dt : Nat) (who : Requester) (s : State) : Res := reply s ((s.elapse dt).writeConfigReq who 4)

/-! ### Torque-off read-back (R394) -/

/-- Starts a time while a condition holds, and ends it with the condition. -/
def timeWhile (c : Bool) (since : Option Nat) (now : Nat) : Option Nat := if c then some (since.getD now) else none

/-- The channels of a pair whose report differs from the command, each with the time since when it does. -/
def State.readbackNote (s : State) (d : Drive) (channels : Nat) : State :=
  s.modSafe d fun x => { x with
    rbDiff := channels % 4
    rbTb := Vector.ofFn fun c => timeWhile (channels.testBit c.val) (x.rbTb.get c) s.tb }

/-- The channels of a pair that have differed from their command for 100 µs. -/
def State.readbackDue (s : State) (d : Drive) : Nat :=
  let due (c : Fin 2) : Nat := if ((s.safe d).rbTb.get c).any fun t => decide (t + us 100 ≤ s.tb) then 1 else 0
  due 0 + 2 * due 1

/-- A channel has differed from its command for 100 µs: the pair is asserted and held. -/
def State.readbackFault (s : State) (d : Drive) (channels : Nat) : State :=
  let s := s.readbackNote d channels
  let due := s.readbackDue d
  if due = 0 then s
  else if due &&& (s.safe d).rbHeld = due then s.modSafe d fun x => { x with rbHeld := due }
  else
  let s := (s.setPyrBit 7 true).modSafe d fun x => { x with rbHeld := due }
  (s.raiseSafe 0x0D0C d.num (s.pyrDetail d.num 0) [d]).refreshSf

def execTqoReadbackFault (dt : Nat) (d : Drive) (channels : BitVec 2) (s : State) : Res :=
  reply s ((s.elapse dt).readbackFault d channels.toNat)

/-- The comparison of every cycle: a held channel that agrees again no longer bars a release. -/
def State.readbackCompare (s : State) (differs : Nat) : State :=
  let s := s.each Drive.all fun d s =>
    if differs / 4 ^ d.num % 4 = 0 then (s.readbackNote d 0).modSafe d fun x => { x with rbHeld := 0 }
    else s.readbackFault d (differs / 4 ^ d.num % 4)
  s.setPyrBit 7 (Drive.all.any fun d => (s.safe d).rbHeld != 0)

end Sys2Proof.Machine
end

