-- ==== Sys2Proof/Machine/SafetySet.lean ====
section
/-! DEFINITION. The signed safety parameter set (R418 to R420, R422, R439, R450): image and check value, staging, the
checks of a commit, and activation. -/
namespace Sys2Proof.Machine

/-! ### Image (R418) -/

/-- Every SAFE parameter in ascending index and subindex order: its key and its row. -/
def safeRows : List (Nat × DictRow) :=
  dictTables.flatMap fun t => (List.range t.2.1).flatMap fun n => t.2.2.flatMap fun r =>
    if r.acc = .safe ∧ n < r.inst then (List.range (r.hi + 1 - r.lo)).map fun i => ((t.1 + n) * 256 + r.lo + i, r) else []

/-- The image of a set: each parameter in its type width, least significant octet first. -/
def setImage (f : Nat → Val) : List Byte := safeRows.flatMap fun r => encodeVal r.2.ty (f r.1)

def setCrc (f : Nat → Val) : Nat := crc32c (setImage f)

/-- A parameter of a staging image. -/
def stagedVal (l : List (Nat × Val)) (k : Nat) : Val := (storeFind k l).getD (dictDefault k)

/-- The active set as a staging image. -/
def State.activeSet (s : State) : List (Nat × Val) := safeRows.map fun r => (r.1, s.get r.1)

/-! ### Checks (R419, R422, R439, R442, R450, Table 16.8) -/

/-- A CAN identifier as Table 17.8 encodes it. -/
def connIdOk (v : Nat) : Bool := if 2 ^ 31 ≤ v then decide (v - 2 ^ 31 < 2 ^ 29) else decide (v ≤ 0x7FF)

/-- Every parameter lies in its range. -/
def setRangesOk (f : Nat → Val) : Bool :=
  (safeRows.all fun r => rngOk r.2.rng (f r.1)) && ((f Od.PP_PYR_CYCLE_us).toInt % 250 == 0) &&
    (List.range 16).all fun k =>
      connIdOk (f (Od.HSF_CONN_ID k)).toInt.toNat && connIdOk (f (Od.HSF_ECHO_ID k)).toInt.toNat

/-- The rules of Table 16.8 on Pyreri's configuration, pairs, SS1, SLS and outputs. -/
def setFunctionsOk (f : Nat → Val) : Bool :=
  let g (k : Nat) : Nat := (f k).toInt.toNat
  let boot := (g Od.PP_PYR_ALLOWED).testBit (g Od.PP_PYR_CONFIG_BOOT - 1)
  let pairOk (k : Nat) : Bool :=
    let fn := g (Od.PAIR_PAIR_FUNC k)
    let m := g (Od.PAIR_PAIR_DRIVES k)
    let lim (t : Nat) : Bool := !m.testBit t || (f (Od.SF_SLS_LIMIT t (g (Od.PAIR_PAIR_SLS_SEL k) - 1))).toRat != 0
    (!(decide (1 ≤ fn) && decide (fn ≤ 4)) || m != 0) && (fn != 3 || ((m.testBit 0 || m.testBit 1) && lim 0 && lim 1))
  let ss1Ok (d : Nat) : Bool :=
    (g (Od.SF_SS1_MODE d) != 2 || (decide (d < 2) && decide (0 < (f (Od.SF_SS1_DECEL d)).toRat) &&
      decide (0 < (f (Od.SF_SS1_BRAKE_TQ d)).toRat))) &&
    (!decide (d < 2) || g (Od.SF_SLS_REACTION d) != 2 || g (Od.SF_SS1_MODE d) != 0)
  let soOk (k : Nat) : Bool :=
    let fn := g (Od.SO_SO_FUNC k)
    ((fn != 1 && fn != 2) || g (Od.SO_SO_DRIVES k) != 0) && (g (Od.SO_SORREL_EN k) != 0 || fn == 2 || fn == 3)
  let quiet := (List.range 4).all fun k => g (Od.SO_SO_FUNC k) == 0 && g (Od.PAIR_PAIR_FUNC k) == 0
  let pulses := (List.range 4).all fun k =>
    (g (Od.PAIR_PAIR_MODE k) != 1 && g (Od.PAIR_PAIR_MODE k) != 2) || g (Od.PAIR_TEST_PULSE k) != 0
  boot && (List.range 4).all pairOk && (List.range 6).all ss1Ok && (List.range 4).all soOk && (quiet || pulses)

/-- The rules of R439 on one connection; those after the first two hold for connections in use. -/
def State.connRuleOk (s : State) (f : Nat → Val) (k : Nat) : Bool :=
  let g (k : Nat) : Nat := (f k).toInt.toNat
  let role := g (Od.HSF_CONN_ROLE k)
  let addr (a : Nat) : Bool := decide (1 ≤ a) && decide (a ≤ 0xFFFE)
  let unique := (List.range k).all fun j => g (Od.HSF_CONN_ROLE j) != role ||
    g (Od.HSF_OWN_ADDR j) != g (Od.HSF_OWN_ADDR k) || g (Od.HSF_PEER_ADDR j) != g (Od.HSF_PEER_ADDR k)
  let ch := g (Od.HSF_CONN_CHANNEL k)
  let canOk := g (Od.HSF_CONN_MEDIUM k) != 0 ||
    (decide (12 + (if g (Od.HSF_PAYLOAD_KIND k) = 1 then 4 else 20) ≤ g (Od.HSF_FRAME_BYTES k)) && ch != 0 &&
      s.fdOn (Fin.ofNat 4 ch))
  decide (g (Od.HSF_CONN_FAILSAFE k) < 2 ^ 15) &&
    (role == 0 || (addr (g (Od.HSF_OWN_ADDR k)) && addr (g (Od.HSF_PEER_ADDR k)) && unique &&
      g (Od.HSF_PERIOD_us k) % g Od.PP_PYR_CYCLE_us == 0 && canOk))

/-- At most as many CAN FD connections on a channel as it has free urgent slots: 8, on CAN-B 7 (R450). -/
def setSlotsOk (f : Nat → Val) : Bool :=
  let g (k : Nat) : Nat := (f k).toInt.toNat
  (List.range 4).all fun c =>
    decide (((List.range 16).filter fun k => g (Od.HSF_CONN_ROLE k) != 0 && g (Od.HSF_CONN_MEDIUM k) == 0 &&
      g (Od.HSF_CONN_CHANNEL k) == c).length ≤ if c = 1 then 7 else 8)

/-- Ranges, then cross-rules: 0, or the SET_REJECT code (R419). -/
def State.setCheck (s : State) (f : Nat → Val) : Nat :=
  if !setRangesOk f then 2
  else if !setFunctionsOk f || !(List.range 16).all (s.connRuleOk f) || !setSlotsOk f then 3 else 0

/-! ### Editing and commit (R418, R419) -/

def ctrSetCommits : Counter := ⟨Od.SET_SET_COMMITS, 16, Od.SFS_SF_CNT_STATUS, 10, 0x0E⟩

/-- SET_EDIT 1: the active set is copied to the session's staging image. -/
def State.setEdit (s : State) (who : Requester) (v : Nat) : State :=
  s.request who Od.SET_SET_EDIT .safety fun s =>
    match v with
    | 0 => .ok (s.modSess who fun x => { x with staging := none, setCrc := none })
    | 1 => .ok (s.modSess who fun x => { x with staging := some s.activeSet, setCrc := none })
    | _ => .error 0x06090030

def execSetEditOpen (dt : Nat) (who : Requester) (s : State) : Res := reply s ((s.elapse dt).setEdit who 1)
def execSetEditDiscard (dt : Nat) (who : Requester) (s : State) : Res := reply s ((s.elapse dt).setEdit who 0)

/-- A write of a SAFE parameter goes to the staging image of its session; its range is checked at the commit (R418,
R419). -/
def State.stageWrite (s : State) (who : Requester) (key : Nat) (v : Val) : State :=
  s.request who key .safety fun s =>
    match (s.sessOf who).staging with
    | none => .error 0x08000022
    | some l => .ok (s.modSess who fun x => { x with staging := some (storeInsert key v l) })

def State.writeSetCrc (s : State) (who : Requester) (v : Nat) : State :=
  s.request who Od.SET_SET_CRC .safety fun s =>
    refuseIf (s.sessOf who).staging.isNone 0x08000022 (.ok (s.modSess who fun x => { x with setCrc := some v }))

/-- The four checks of a commit in order: 0, or the SET_REJECT code. -/
def State.commitCode (s : State) (who : Requester) (l : List (Nat × Val)) (storeOk : Bool) : Nat :=
  if (s.sessOf who).setCrc ≠ some (setCrc (stagedVal l)) then 1
  else if s.setCheck (stagedVal l) ≠ 0 then s.setCheck (stagedVal l)
  else if storeOk then 0 else 4

/-- SET_COMMIT: a passing set is marked active in the store and takes effect at the end of the next safety cycle. -/
def State.setCommitEffect (who : Requester) (storeOk : Bool) (s : State) : Except Nat State :=
  match (s.sessOf who).staging with
  | none => .error 0x08000022
  | some l =>
    let moving := Drive.all.any fun d => decide (s.ds d = .armed ∨ s.ds d = .active ∨ s.ds d = .stopping)
    refuseIf moving 0x08000022 <|
    let code := s.commitCode who l storeOk
    let s := s.setN Od.SET_SET_REJECT code
    .ok (if code ≠ 0 then s.event 0x0E11 0xFF (3 + 65536 * code)
      else
        let s := (s.modSess who fun x => { x with staging := none, setCrc := none }).modSafety fun x => { x with
          newSet := some (l, 2), setCrc := some (setCrc (stagedVal l)) }
        (s.count ctrSetCommits).setN Od.SET_SET_COMMIT_TB s.tb)

def State.writeSetCommit (s : State) (who : Requester) (storeOk : Bool) : State :=
  s.request who Od.SET_SET_COMMIT .safety (State.setCommitEffect who storeOk)

def execSetCommit (dt : Nat) (who : Requester) (storeOk : Bool) (s : State) : Res :=
  reply s ((s.elapse dt).writeSetCommit who storeOk)

/-! ### Activation (R419, R434) -/

/-- An object of the safety parameter set (R418). -/
def safeKey (k : Nat) : Bool := match dictRow k with | some (_, r) => r.acc == .safe | none => false

/-- The values of a set come into force; a set holds objects of access SAFE and no others (R418). -/
def State.takeSet (s : State) (l : List (Nat × Val)) : State :=
  s.each l fun e s => if safeKey e.1 then s.set e.1 e.2 else s

/-- The committed set becomes the active set. -/
def State.installSet (s : State) (l : List (Nat × Val)) : State :=
  (s.takeSet l).modSafety fun x => { x with newSet := none }

/-- The new set is in force, all but the cycle and the boot configuration; every drive that is not UNAVAILABLE enters
INHIBIT, and the connections start again. -/
def State.activateSet (s : State) (l : List (Nat × Val)) : State :=
  let s := (s.installSet l).modSafety fun x => { x with invalid := false }
  let s := s.setN Od.PYR_RESYNC_WINDOW_ms (s.nat Od.PP_RESYNC_WINDOW_ms)
  let s := s.each Drive.all fun d s => if s.ds d = .unavailable then s else s.torqueOff d
  (s.event 0x0E10 0xFF 3).connsOff.connsStart

/-- A cycle boundary of a committed set: its next cycle starts, or has ended. -/
def State.boundarySet (s : State) : State :=
  match s.safety.newSet with
  | some (l, n) => if n ≤ 1 then s.activateSet l else s.modSafety fun x => { x with newSet := some (l, n - 1) }
  | none => s

end Sys2Proof.Machine
end

