-- ==== Sys2Proof/Machine/SafetyFn.lean ====
section
/-! DEFINITION. Chapter 16, the functions of one drive: safe speed and torque (R402 to R404), STO, SS1, SLS, SLT and Safe
Park (R405 to R409), safety inputs and test pulses (R410 to R412), releases (R413) and safety outputs (R415, R416). -/
namespace Sys2Proof.Machine

/-- Detail of a safety function's event: demand source in [7:0], a value in [31:16] (R423). -/
def sfDetail (src val : Nat) : Nat := src + 65536 * val

def State.safeSpeed (s : State) (t : Fin 2) : Rat := s.num (Od.SFS_SAFE_SPEED t)

/-! ### Safe speed and safe torque (R402 to R404) -/

/-- The two values of a side in what a cycle has latched. -/
def sideOf {α : Type} (t : Fin 2) (v : Vector α 4) : List α := if t = 0 then [v[0], v[1]] else [v[2], v[3]]

/-- The value of larger magnitude. -/
def largest (l : List Rat) : Rat := l.foldl (fun a x => if |a| < |x| then x else a) 0

/-- An electrical frequency as a speed; none without POLE_PAIRS. -/
def State.electricalRpm (s : State) (t : Fin 2) (f : Rat) : Option Rat :=
  let pp := s.nat (Od.AX_POLE_PAIRS (2 * t.val))
  if pp = 0 then none else some (60 * f / pp)

/-- E2 from the phase voltages while every set of the motor coasts (R402, source 3). -/
def State.e2Voltage (s : State) (t : Fin 2) (l : List (Axis × SetLatch)) : Option Rat :=
  let coasts := l.all fun p => (s.cell (cellOf p.1)).mode == .coast || (s.cell (cellOf p.1)).mode == .off
  let seen := l.filter fun p => decide (s.num (Od.OBS_BEMF_MIN_V p.1) ≤ p.2.peakV)
  if !coasts then none
  else match seen with
    | [] => some 0
    | l => s.electricalRpm t (largest (l.map fun p => p.2.freqV))

/-- The speed of the first position interface of a drive in NORMAL (R174). -/
def State.interfaceSpeed (s : State) (t : Fin 2) : Option Rat :=
  ([2 * t.val, 2 * t.val + 1].find? fun p => s.pifService p == 2).map fun p => s.num (Od.PIF_SPEED p)

/-- E2: the position interface, the current crossings of the deciding sets, or the phase voltages (R402). -/
def State.e2Of (s : State) (t : Fin 2) (x : Vector SetLatch 4) : Option Rat :=
  let l := (sideSets t).zip (sideOf t x)
  let pif := if (sideSets t).any fun n => s.nat (Od.OBS_START_MODE n) == 1 then s.interfaceSpeed t else none
  let deciding := l.filter fun p => s.deciding p.1
  let live := deciding.all fun p =>
    decide (p.2.ageI < ms (s.nat (Od.SF_E2_GAP_ms t))) && decide (s.num (Od.SF_ZC_I_MIN t) ≤ p.2.peakI)
  if pif.isSome then pif
  else if deciding.isEmpty then s.e2Voltage t l
  else if live then s.electricalRpm t (largest (deciding.map fun p => p.2.freqI))
  else none

/-- The larger of the estimated torque of the sets and the torque that their currents could make (R404). -/
def State.safeTorque (s : State) (t : Fin 2) (x : Vector SetLatch 4) : Rat :=
  let est := (sideOf t s.pyr.exch.tq).foldl (· + ·) 0
  let mag := (sideOf t x).foldl (fun a y => a + y.mag) 0
  max |est| (3 / 2 * s.nat (Od.AX_POLE_PAIRS (2 * t.val)) * s.num (Od.AX_PSI_PM (2 * t.val)) * mag)

/-- SAFE_SPEED, E2_SPEED and SAFE_TQ of a traction drive, and how long its estimates have disagreed or E2 has been
invalid under monitoring (R402 to R404). A plausibility fault's demand ends when the estimates no longer disagree
(DEDUCED, assumption 35). -/
def State.safeEstimate (s : State) (x : Vector SetLatch 4) (t : Fin 2) : State :=
  let d := sideDrive t
  let e1 := largest (sideOf t s.pyr.exch.speed)
  let e2 := s.e2Of t x
  let speed := max |e1| (match e2 with | some e => |e| | none => 0)
  let apart : Bool := match e2 with
    | some e => decide (max (s.num (Od.SF_SPEED_TOL_PCT t) / 100 * |e1|) (s.num (Od.SF_SPEED_TOL_rpm t)) < |e1 - e|)
    | none => false
  let s := (s.setQ (Od.SFS_SAFE_SPEED t) speed).setQ (Od.SFS_SAFE_TQ t) (s.safeTorque t x)
  let s := match e2 with
    | some e => s.setQ (Od.SFS_E2_SPEED t) e
    | none => s
  s.modSafe d fun y => { y with
    e1 := e1, e2Valid := e2.isSome, plausTb := timeWhile apart y.plausTb s.tb, plaus := y.plaus && apart
    e2Tb := timeWhile (e2.isNone && (y.sls.isSome || y.ss1.any fun z => z.mode == 2)) y.e2Tb s.tb }

/-! ### STO (R405) -/

/-- The running functions of a drive end. -/
def State.endFunctions (s : State) (d : Drive) : State :=
  let s := s.modSafe d fun x => { x with
    ss1 := none, sls := none, slt := false, braking := false, sltTb := none, e2Tb := none }
  s.when d.isTraction fun s => s.modTr d.side fun x => { x with brake := none }

/-- STO of a drive with its event: a running function ends (Table 16.9). -/
def State.stoNow (s : State) (d : Drive) (code src val : Nat) : State :=
  ((s.endFunctions d).modSafe d fun x => { x with sto := true }).raiseSafe code d.num (sfDetail src val) [d]

/-- A demand on the drive is recorded only: it is in INHIBIT, or STO has acted (Table 16.9). -/
def State.recordsOnly (s : State) (d : Drive) : Bool := s.ds d == .inhibit || (s.safe d).sto

/-! ### SS1 (R406, Table 16.3) -/

/-- SS1 of a drive: STO in mode 0, the drive's STOP in mode 1, braking or the coasting stop in mode 2. -/
def State.ss1Start (s : State) (d : Drive) (mode src : Nat) (stop : Rat) (park : Bool) : State :=
  if mode = 0 then s.stoNow d 0x0E01 src (s.speedDetail d)
  else
    let n0 := if d.isTraction then s.safeSpeed d.side else 0
    let s := s.modSafe d fun x => { x with ss1 := some ⟨s.tb, mode, src, n0, stop, park⟩ }
    let s := (s.event 0x0E02 d.num (sfDetail src (s.speedDetail d))).lastEvent d 0x0E02
    let tq := s.num (Od.SF_SS1_BRAKE_TQ d.num)
    if mode = 2 ∧ 0 < tq ∧ (s.ds d = .active ∨ s.ds d = .stopping) then
      (s.goto d .stopping 0xFF).modTr d.side fun x => { x with brake := some tq }
    else if d = .chg ∧ s.ds d = .active then s.stopCharge 0xFF
    else match s.ds d with
      | .active => s.stopDrive d 0xFF
      | .armed => s.goto d .standby 0xFF
      | _ => s

def State.ss1Demand (s : State) (d : Drive) (src : Nat) : State :=
  if s.recordsOnly d ∨ (s.safe d).ss1.isSome then s
  else s.ss1Start d (s.nat (Od.SF_SS1_MODE d.num)) src (s.num (Od.SF_STOP_SPEED d.num)) false

/-- SS1 ends in STO: SS1_DONE and event 0x0E04. -/
def State.ss1End (s : State) (d : Drive) (src : Nat) : State :=
  (s.stoNow d 0x0E04 src (s.speedDetail d)).modSafe d fun x => { x with ss1Done := true }

/-- Steps 2 to 4 of Table 16.3 in a cycle; the SS1 of a Safe Park ends for both drives together (Table 16.4). -/
def State.ss1Check (s : State) (d : Drive) : State :=
  match (s.safe d).ss1 with
  | none => s
  | some y =>
    if y.mode ≠ 2 then s
    else
      let after : Rat := ((s.tb - y.t0 - ms (s.nat (Od.SF_SS1_DELAY_ms d.num)) : Nat) : Rat) / 100000000
      let env := y.n0 + s.num (Od.SF_SS1_TOL d.num) - s.num (Od.SF_SS1_DECEL d.num) * after
      if env < s.safeSpeed d.side then s.stoNow d 0x0E03 y.src (s.speedDetail d)
      else if !y.park && decide (s.safeSpeed d.side ≤ y.stop) then s.ss1End d y.src
      else s

/-! ### SLS (R407) -/

/-- The envelope of an SLS selection. -/
def State.slsEnvelope (s : State) (d : Drive) (y : SlsSt) : Rat :=
  let ramp := ms (s.nat (Od.SF_SLS_RAMP_ms d.num))
  if s.tb - y.t0 < ramp then y.v0 + (y.lim - y.v0) * ((s.tb - y.t0 : Nat) : Rat) / ramp else y.lim

/-- An SLS demand: a new selection starts an envelope, an unused limit demands STO; without a demand SLS ends. -/
def State.slsSelect (s : State) (d : Drive) (dem : Option Nat) (src : Nat) : State :=
  match dem with
  | none => s.modSafe d fun x => { x with sls := none, slsViol := false, braking := false }
  | some sel =>
    let lim := s.slsLimit d sel
    if lim = 0 then s.stoNow d 0x0E05 src 0
    else match (s.safe d).sls with
      | none =>
        s.modSafe d fun x => { x with sls := some ⟨sel, lim, max (s.safeSpeed d.side) lim, s.tb, src⟩ }
      | some y =>
        if y.sel = sel then s
        else
          let ramps := s.tb - y.t0 < ms (s.nat (Od.SF_SLS_RAMP_ms d.num))
          let v0 := if ramps then s.slsEnvelope d y else max (s.safeSpeed d.side) lim
          s.modSafe d fun x => { x with sls := some ⟨sel, lim, v0, s.tb, src⟩ }

/-- SAFE_SPEED above the envelope starts SLS_REACTION; a running SS1 goes on (Table 16.9). -/
def State.slsCheck (s : State) (d : Drive) : State :=
  match (s.safe d).sls with
  | none => s
  | some y =>
    if s.safeSpeed d.side ≤ s.slsEnvelope d y ∨ (s.safe d).slsViol then s
    else if s.nat (Od.SF_SLS_REACTION d.num) = 2 then
      let s := (s.event 0x0E05 d.num (sfDetail y.src (s.speedDetail d))).lastEvent d 0x0E05
      (s.modSafe d fun x => { x with slsViol := true }).ss1Demand d y.src
    else s.stoNow d 0x0E05 y.src (s.speedDetail d)

/-- The engines' speed hold under SLS: braking above the limit less SLS_MARGIN, until below it less twice SLS_MARGIN. -/
def State.slsHold (s : State) (d : Drive) : State :=
  let v := |s.num (Od.TR_SPEED d.num)|
  let m := s.num (Od.SF_SLS_MARGIN d.num)
  let on : Bool := match (s.safe d).sls with
    | none => false
    | some y => decide (y.lim - m < v) || ((s.safe d).braking && decide (y.lim - 2 * m ≤ v))
  let s := s.modSafe d fun x => { x with braking := on }
  if (s.safe d).ss1.isSome then s
  else s.modTr d.side fun x => { x with
    brake := if on ∧ s.ds d = .active then some (s.num (Od.SF_SS1_BRAKE_TQ d.num)) else none }

/-! ### SLT (R408) -/

/-- SLT and since when SAFE_TQ has stood above 1.05 × SLT_LIMIT; an unused limit monitors nothing. -/
def State.sltSelect (s : State) (d : Drive) (on : Bool) (src : Nat) : State :=
  let lim := s.num (Od.SF_SLT_LIMIT d.num)
  let above := on && lim != 0 && decide (105 / 100 * lim < s.num (Od.SFS_SAFE_TQ d.num))
  s.modSafe d fun x => { x with slt := on, sltSrc := src, sltTb := timeWhile above x.sltTb s.tb }

/-! ### One drive in a cycle -/

/-- STO, SS1, SLS and SLT demands on one drive (R405 to R408); in torque-off no function goes on. -/
def State.evalDrive (s : State) (d : Drive) : State :=
  let x := s.demand d
  if s.recordsOnly d then s.endFunctions d
  else if x.sto then s.stoNow d 0x0E01 x.src (s.speedDetail d)
  else
    let s := if x.ss1 then s.ss1Demand d x.src else s
    if !d.isTraction || s.recordsOnly d then s
    else
      let s := s.slsSelect d x.sls x.src
      if s.recordsOnly d then s else s.sltSelect d x.slt x.src

/-- Envelopes and the speed hold of one drive. -/
def State.monitor (s : State) (d : Drive) : State :=
  let s := s.ss1Check d
  let s := if s.recordsOnly d then s else s.slsCheck d
  if d.isTraction then s.slsHold d else s

/-! ### Safe Park (R409, Table 16.4) -/

def parkDrives : List Drive := [.tra, .trb, .gbx]

/-- Step 2: the three pairs are asserted together. -/
def State.parkOff (s : State) : State :=
  let src := s.safety.parkSrc
  let s := s.each parkDrives fun d s =>
    if s.recordsOnly d then s.modSafe d fun x => { x with sto := true }
    else if (s.safe d).ss1.isSome then s.ss1End d src
    else ((s.endFunctions d).modSafe d fun x => { x with sto := true }).torqueOff d
  s.modSafety fun x => { x with parkBraking := false, parkTb := some s.tb }

def State.safeParkSlow (s : State) : Bool :=
  decide (s.safeSpeed 0 ≤ s.num Od.SP_SP_SPEED_MAX) && decide (s.safeSpeed 1 ≤ s.num Od.SP_SP_SPEED_MAX)

/-- Step 1. Events 0x0E07 and 0x0E08 name TRA for the three drives (DESIGN CHOICE, assumption 36). -/
def State.parkStart (s : State) (src : Nat) : State :=
  let s := (s.event 0x0E07 0 (sfDetail src (s.speedDetail .tra))).lastEvent .tra 0x0E07
  let s := s.modSafety fun x => { x with parkAct := true, parked := false, parkSrc := src, parkTb := none }
  if s.safeParkSlow then s.parkOff
  else
    let s := s.modSafety fun x => { x with parkBraking := true }
    s.each [Drive.tra, Drive.trb] fun d s =>
      if s.recordsOnly d then s
      else match (s.safe d).ss1 with
        | some y => s.modSafe d fun x => { x with ss1 := some { y with stop := s.num Od.SP_SP_SPEED_MAX, park := true } }
        | none => s.ss1Start d 2 src (s.num Od.SP_SP_SPEED_MAX) true

/-- SS1 runs on no traction drive any more, or has ended on one that it ran on. -/
def State.parkSs1Ended (s : State) : Bool :=
  ([Drive.tra, Drive.trb].all fun d => (s.safe d).ss1.isNone) ||
    [Drive.tra, Drive.trb].any fun d => (s.safe d).ss1.isNone && (s.safe d).sto

/-- Safe Park in a cycle: demand, step 2, and step 3's confirmation by both PARK_STATE. -/
def State.parkStep (s : State) : State :=
  let x := s.demand .gbx
  let idle := parkDrives.all fun d => s.ds d == .inhibit
  let s := if x.park ∧ ¬ s.safety.parkAct ∧ ¬ idle then s.parkStart x.src else s
  let s := if s.safety.parkBraking ∧ (s.safeParkSlow ∨ s.parkSs1Ended) then s.parkOff else s
  match s.safety.parkTb with
  | some t =>
    if s.tb ≤ t + ms (s.nat Od.SP_SP_CONFIRM_ms) ∧ s.pyr.exch.park.toList.all (· == 1) then
      s.modSafety fun x => { x with parked := true, parkTb := none }
    else s
  | none => s

/-! ### Releases (R413) -/

def ctrReleasesSf : Counter := ⟨Od.SFS_RELEASES, 32, Od.SFS_SF_CNT_STATUS, 8, 0x0E⟩
def ctrRefusals : Counter := ⟨Od.SFS_REFUSALS, 16, Od.SFS_SF_CNT_STATUS, 9, 0x0E⟩
def ctrSoFaults (k : Nat) : Counter := ⟨Od.SO_SO_FAULTS k, 16, Od.SFS_SF_CNT_STATUS, 4 + k, 0x0E⟩
def ctrPairFaults (k : Nat) : Counter := ⟨Od.PAIR_PAIR_FAULTS k, 16, Od.SFS_SF_CNT_STATUS, k, 0x0E⟩

/-- A latched output fault whose off-state read passes clears at a release (R416). -/
def State.clearOutFaults (s : State) (ds : List Drive) : State :=
  s.each (List.finRange 4) fun k s =>
    if (s.sout k).fault ∧ s.num (Od.SO_SO_V k) < 5 ∧ ds.any (fun d => (s.nat (Od.SO_SO_DRIVES k)).testBit d.num) then
      s.modOut k fun x => { x with fault := false, reads := 0, pulses := 0 }
    else s

/-- The release is refused for the drives that a condition of R413 blocks. -/
def State.refuseRelease (s : State) (ds : List Drive) (src : Nat) : State :=
  (s.count ctrRefusals).each (ds.filter s.releaseBlocked) fun d s =>
    (s.event 0x0E0F d.num (sfDetail src 0)).lastEvent d 0x0E0F

/-- An accepted release. -/
def State.acceptRelease (s : State) (ds : List Drive) (src : Nat) : State :=
  let s := s.each ds fun d s =>
    let s := s.modSafe d fun x => { x with
      sto := false, ss1Done := false, slsViol := false, stale := false, plaus := false }
    let s := s.when (d ∈ parkDrives) fun s => s.modSafety fun x => { x with
      parkAct := false, parkBraking := false, parked := false, parkTb := none }
    let s := s.modDrv d fun x => { x with tqo := false }
    let s := (s.event 0x0E0E d.num (sfDetail src 0)).lastEvent d 0x0E0E
    if s.ds d = .inhibit then s.goto d .standby 0xFF else s
  ((s.count ctrReleasesSf).modPyr fun x => { x with fltClock := false }).refreshFlt.refreshSf

/-- A safety release of drives: all of them, or none if one is blocked. -/
def State.release (s : State) (ds : List Drive) (src : Nat) : State :=
  let s := s.clearOutFaults ds
  if ds.isEmpty then s else if ds.any s.releaseBlocked then s.refuseRelease ds src else s.acceptRelease ds src

def maskDrives (m : Nat) : List Drive := Drive.all.filter fun d => m.testBit d.num

/-- SAFE_RELEASE: a refused one is aborted, counted and logged. -/
def State.writeSafeRelease (s : State) (who : Requester) (m : Nat) : State :=
  let u := s.clearOutFaults (maskDrives m)
  let blocked := (maskDrives m).any u.releaseBlocked
  let heard := !s.diagOnly && s.dictUp && s.roleOf who == .safety && decide (m < 64)
  let s := if heard && blocked then u.refuseRelease (maskDrives m) 3 else s
  s.request who Od.SFS_SAFE_RELEASE .safety fun s =>
    if 64 ≤ m then .error 0x06090030 else if blocked then .error 0x08000022 else .ok (s.release (maskDrives m) 3)

def execSafeReleaseWrite (dt : Nat) (who : Requester) (mask : BitVec 8) (s : State) : Res :=
  reply s ((s.elapse dt).writeSafeRelease who mask.toNat)

/-! ### Safety inputs (R410 to R412) -/

/-- PAIR_STATE (Table 16.11). -/
def State.pairState (s : State) (k : Fin 4) : Nat :=
  if s.nat (Od.PAIR_PAIR_MODE k) = 0 then 0
  else if (s.pair k).fault then 4
  else if (s.pair k).discTb.isSome then 3
  else if s.pairRun k then 1 else 2

/-- The pair's times from its two levels, its fault once both channels have stood at their demand level for FILTER_ms,
and PAIR_STATE. -/
def State.pairLevels (s : State) (k : Fin 4) : State :=
  let r := s.atRun k
  let used := s.nat (Od.PAIR_PAIR_MODE k) != 0
  let s := s.modPair k fun x =>
    let clr := timeWhile (used && !r.1 && !r.2) x.clrTb s.tb
    let fault := x.fault && !(clr.any fun t => decide (t + ms (s.nat (Od.PAIR_FILTER_ms k)) ≤ s.tb))
    { x with
      clrTb := clr, fault := fault, discTb := timeWhile (used && r.1 != r.2) x.discTb s.tb
      runTb := timeWhile (used && r.1 && r.2 && !fault) x.runTb s.tb
      overheld := x.overheld && r.1 && r.2 }
  s.setN (Od.PAIR_PAIR_STATE k) (s.pairState k)

/-- A release pair leaves its run level after 100 ms to 5 s at it (R412). -/
def State.releasePair (s : State) (k : Fin 4) (since : Option Nat) : State :=
  match since with
  | none => s
  | some t =>
    if s.nat (Od.PAIR_PAIR_FUNC k) = 6 ∧ ¬ s.pairRun k ∧ t + ms 100 ≤ s.tb ∧ s.tb ≤ t + sec 5 ∧ s.cycling then
      s.release (maskDrives (s.nat (Od.PAIR_PAIR_DRIVES k) % 64)) 1
    else s

/-- A sampled level that has persisted for FILTER_ms is accepted. -/
def State.acceptInput (s : State) (ch : Fin 8) : State :=
  let k : Fin 4 := ⟨ch.val / 2, by omega⟩
  let r := s.safety.siRaw.get ch
  if r.1 = s.siHigh ch ∨ s.tb < r.2 + ms (s.nat (Od.PAIR_FILTER_ms k)) then s
  else
    let held := (s.pair k).runTb
    (((s.setBit Od.SFS_SI_LEVELS ch r.1).pairLevels k).releasePair k held).refreshSf

/-- The sampled level of an input: a change starts its filter (R410). -/
def State.noteInput (s : State) (ch : Fin 8) (high : Bool) : State :=
  if (s.safety.siRaw.get ch).1 = high then s
  else s.modSafety fun x => { x with siRaw := upd x.siRaw ch fun _ => (high, s.tb) }

/-- An input stands at a level; it is accepted once it has persisted for FILTER_ms. -/
def State.inputChange (s : State) (ch : Fin 8) (high : Bool) : State := (s.noteInput ch high).acceptInput ch

def execSafetyInputChange (dt : Nat) (ch : Fin 8) (high : Bool) (s : State) : Res :=
  reply s ((s.elapse dt).inputChange ch high)

/-- PAIR_FAULT latches. -/
def State.pairFault (s : State) (k : Fin 4) (code : Nat) : State :=
  if (s.pair k).fault then s
  else
    let s := ((s.modPair k fun x => { x with fault := true, runTb := none }).count (ctrPairFaults k)).event code (0x90 + k.val)
      (sfDetail 1 0)
    (s.setN (Od.PAIR_PAIR_STATE k) (s.pairState k)).refreshSf

/-- The other channel has not followed within DISC_ms. -/
def State.discrepancy (s : State) (k : Fin 4) : State :=
  match (s.pair k).discTb with
  | some t => if t + ms (s.nat (Od.PAIR_DISC_ms k)) ≤ s.tb then s.pairFault k 0x0E0B else s
  | none => s

def execInputPairDiscrepancy (dt : Nat) (k : Fin 4) (s : State) : Res := reply s ((s.elapse dt).discrepancy k)

/-- A pulse of TO0 or TO1 at one pair: its own channel must read low, the other channel must not while its run level is
high and it stands at it (DEDUCED, assumption 37). -/
def State.pulsePair (s : State) (o : Fin 2) (low : Nat) (k : Fin 4) : State :=
  let mode := s.nat (Od.PAIR_PAIR_MODE k)
  if (mode ≠ 1 ∧ mode ≠ 2) ∨ ¬ s.flag (Od.PAIR_TEST_PULSE k) then s
  else
    let own := 2 * k.val + o.val
    let other := 2 * k.val + (1 - o.val)
    let highRun := other % 2 == 0 || mode == 1
    let ownFail := !low.testBit own
    let crossFail := highRun && s.siHigh other && low.testBit other
    let s := s.modPair k fun x => { x with
      ownFails := upd x.ownFails o fun n => if ownFail then n + 1 else 0
      crossFails := upd x.crossFails o fun n => if crossFail then n + 1 else 0 }
    if 2 ≤ (s.pair k).ownFails.get o ∨ 2 ≤ (s.pair k).crossFails.get o then s.pairFault k 0x0E0C else s

/-- A pulse of TO0 or TO1, one in each 50 ms, TO1 25 ms after TO0. -/
def State.testPulse (s : State) (o : Fin 2) (low : Nat) : State :=
  let no := (s.tb - ms (25 * o.val)) / ms 50 + 1
  if s.cycling ∧ no ≠ s.safety.pulseNo.get o then
    let s := (s.emit (.testPulse o)).modSafety fun x => { x with pulseNo := upd x.pulseNo o fun _ => no }
    s.each (List.finRange 4) fun k s => s.pulsePair o low k
  else s

def execTestPulse (dt : Nat) (o : Fin 2) (low : BitVec 8) (s : State) : Res := reply s ((s.elapse dt).testPulse o low.toNat)

/-- A release pair held at its run level beyond 5 s; the event names its first drive. -/
def State.overhold (s : State) (k : Fin 4) : State :=
  match (s.pair k).runTb with
  | some t =>
    if s.nat (Od.PAIR_PAIR_FUNC k) = 6 ∧ t + sec 5 < s.tb ∧ ¬ (s.pair k).overheld then
      let src := ((maskDrives (s.nat (Od.PAIR_PAIR_DRIVES k))).head?.map Drive.num).getD 0xFF
      (s.modPair k fun x => { x with overheld := true }).event 0x0E0F src (sfDetail 1 0)
    else s
  | none => s

def execReleasePairOverhold (dt : Nat) (k : Fin 4) (s : State) : Res := reply s ((s.elapse dt).overhold k)

/-! ### Timed violations -/

/-- SS1_TIME_ms after t0 (R406); the SS1 of a Safe Park ends in its step 2. -/
def State.ss1Timeout (s : State) (d : Drive) : State :=
  match (s.safe d).ss1 with
  | some y =>
    if y.t0 + ms (s.nat (Od.SF_SS1_TIME_ms d.num)) ≤ s.tb ∧ s.cycling then
      (if y.park then s.parkOff else s.ss1End d y.src).refreshSf
    else s
  | none => s

def execSs1TimeExpiry (dt : Nat) (d : Drive) (s : State) : Res := reply s ((s.elapse dt).ss1Timeout d)

def State.sltViolated (s : State) (t : Fin 2) : State :=
  let d := sideDrive t
  match (s.safe d).sltTb with
  | some b =>
    if b + ms (s.nat (Od.SF_SLT_TIME_ms t)) ≤ s.tb ∧ s.cycling then
      (s.stoNow d 0x0E06 (s.safe d).sltSrc (low16 (s.num (Od.SFS_SAFE_TQ t)))).refreshSf
    else s
  | none => s

def execSltViolation (dt : Nat) (t : Fin 2) (s : State) : Res := reply s ((s.elapse dt).sltViolated t)

def State.implausible (s : State) (t : Fin 2) : State :=
  let d := sideDrive t
  match (s.safe d).plausTb with
  | some b =>
    if b + ms 20 ≤ s.tb ∧ ¬ (s.safe d).plaus ∧ s.cycling then
      ((s.modSafe d fun x => { x with plaus := true }).stoNow d 0x0E09 0 (s.speedDetail d)).refreshSf
    else s
  | none => s

def execSpeedPlausibilityFault (dt : Nat) (t : Fin 2) (s : State) : Res := reply s ((s.elapse dt).implausible t)

def State.e2Lost (s : State) (t : Fin 2) : State :=
  let d := sideDrive t
  match (s.safe d).e2Tb with
  | some b =>
    if b + ms (s.nat (Od.SF_E2_GAP_ms t)) ≤ s.tb ∧ s.cycling then (s.stoNow d 0x0E0A 0 (s.speedDetail d)).refreshSf else s
  | none => s

def execE2GapExpiry (dt : Nat) (t : Fin 2) (s : State) : Res := reply s ((s.elapse dt).e2Lost t)

/-- Step 3 of Table 16.4 without both park locks ENGAGED. -/
def State.parkUnconfirmed (s : State) : State :=
  match s.safety.parkTb with
  | some t =>
    if t + ms (s.nat Od.SP_SP_CONFIRM_ms) < s.tb then
      ((s.modSafety fun x => { x with parkTb := none }).event 0x0E08 0 (sfDetail s.safety.parkSrc (s.speedDetail .tra))).lastEvent
        .tra 0x0E08
    else s
  | none => s

def execSafeParkConfirmTimeout (dt : Nat) (s : State) : Res := reply s (s.elapse dt).parkUnconfirmed

/-! ### Safety outputs (R415, R416, R532) -/

/-- SO_STATE: 0 off, 1 on, 2 fault. -/
def State.showOut (s : State) (k : Fin 4) : State :=
  s.setN (Od.SO_SO_STATE k) (if (s.sout k).fault then 2 else if (s.sout k).on then 1 else 0)

def State.setOut (s : State) (k : Fin 4) (on : Bool) : State :=
  if (s.sout k).on = on then s.showOut k
  else (s.modOut k fun x => { x with on := on, tb := s.tb, tripped := false, reads := 0, pulses := 0 }).showOut k

/-- SO_FUNC permits the output. -/
def State.outPermitted (s : State) (k : Fin 4) : Bool :=
  let ds := maskDrives (s.nat (Od.SO_SO_DRIVES k))
  s.dictUp && s.cycling && !(s.sout k).fault && match s.nat (Od.SO_SO_FUNC k) with
    | 1 => ds.all fun d => !(s.drv d).tqo && !(s.drv d).tqoLink
    | 2 => ds.all fun d => !s.demanded d && !s.mappedFault d
    | 3 => ds.any fun d => (s.safe d).sls.isSome
    | _ => false

/-- Two consecutive failures: the driver is disabled and the pairs of SO_DRIVES are asserted. -/
def State.outFault (s : State) (k : Fin 4) : State :=
  if (s.sout k).fault then s
  else
    let s := ((s.modOut k fun x => { x with fault := true }).setOut k false).count (ctrSoFaults k)
    (s.raiseSafe 0x0E0D (0x98 + k.val) 0 (maskDrives (s.nat (Od.SO_SO_DRIVES k)))).refreshSf

/-- The read-back of a cycle: below 5 V while off, from 0.5 ms on; at least VR − 2 V while on. -/
def State.outRead (s : State) (k : Fin 4) (v : Rat) : State :=
  let x := s.sout k
  let settled := x.tb + us 500 ≤ s.tb
  let fail := if x.on then settled ∧ (x.tripped ∨ v < s.num Od.CNV_V_VR - 2) else settled ∧ 5 ≤ v
  let s := (s.setQ (Od.SO_SO_V k) v).modOut k fun x => { x with reads := if fail then x.reads + 1 else 0 }
  if 2 ≤ (s.sout k).reads then s.outFault k else s

/-- A Sorrel pulse, one in each 100 ms, 25 ms apart from output to output. -/
def State.sorrel (s : State) (k : Fin 4) (v : Rat) : State :=
  let no := (s.tb - ms (25 * k.val)) / ms 100 + 1
  if (s.sout k).on ∧ s.flag (Od.SO_SORREL_EN k) ∧ no ≠ (s.sout k).pulseNo ∧ s.cycling then
    let s := s.modOut k fun x => { x with pulseNo := no, pulses := if v < 5 then 0 else x.pulses + 1 }
    if 2 ≤ (s.sout k).pulses then s.outFault k else s
  else s

def execSorrelPulse (dt : Nat) (k : Fin 4) (v : Rat) (s : State) : Res := reply s ((s.elapse dt).sorrel k v)

def execSoCurrentLimitOff (dt : Nat) (k : Fin 4) (s : State) : Res :=
  let s := s.elapse dt
  reply s (if (s.sout k).on then s.modOut k fun x => { x with tripped := true } else s)

end Sys2Proof.Machine
end

