-- ==== Sys2Proof/Machine/SafetyCycle.lean ====
section
/-! DEFINITION. The safety cycle (R389, Table 15.6): latch, exchange, torque-off evaluation, functions and end. -/
namespace Sys2Proof.Machine

/-! ### Latch and exchange (R390, R391) -/

/-- The newest exchange record is latched: a bad one counts as missing; while the newest valid one is young enough,
EXCH_STALE is clear. -/
def State.latchExchange (s : State) (bad : Bool) : State :=
  let s := match s.pyr.written with
    | none => s
    | some r =>
      if bad then (s.modPyr fun x => { x with written := none }).count ctrExchMisses
      else s.modPyr fun x => { x with written := none, exch := r }
  if s.pyr.exch.tb + us (s.nat Od.PP_EXCH_AGE_MAX_us) < s.tb then s
  else (s.setPyrBit 18 false).each Drive.all fun d s => s.modSafe d fun x => { x with stale := false }

/-- Of two lanes' values of a set the most restrictive one of each (R390): the larger speed, torque or age, the smaller peak
current (DEDUCED, assumption 73). -/
def strictLatch (a b : SetLatch) : SetLatch :=
  { freqI := largest [a.freqI, b.freqI], ageI := max a.ageI b.ageI, peakI := min a.peakI b.peakI
    freqV := largest [a.freqV, b.freqV], peakV := max a.peakV b.peakV, mag := max a.mag b.mag }

/-- The lanes in the vote. -/
def State.voters (s : State) : List (Fin 3) := (List.finRange 3).filter s.voting

/-- The agreed value of the four sets over the lanes in the vote (R390). -/
def State.agreed (s : State) (x : CycleInputs) : Vector SetLatch 4 :=
  let first := x.lanes.get (s.voters.headD 0)
  Vector.ofFn fun n => s.voters.foldl (fun a l => strictLatch a ((x.lanes.get l).get n)) (first.get n)

/-- The agreed level of each channel of the pairs: a lane in the vote that reads a demand makes it one (R390). -/
def State.agreeInputs (s : State) (x : CycleInputs) : State :=
  s.each (List.finRange 4) fun k s => s.modPair k fun y => { y with
    apart := Vector.ofFn fun c => s.voters.any fun l => (x.si.get l).toNat.testBit (2 * k.val + c.val) }

/-- The six values of a set that a lane latches. -/
def latchValues (a : SetLatch) : List Rat := [a.freqI, a.ageI, a.peakI, a.freqV, a.peakV, a.mag]

/-- What a lane latches, input by input: SI0 to SI7, the acceptance of each connection's frames, then the values of the four
sets. -/
def laneValues (x : CycleInputs) (l : Fin 3) : List Rat :=
  ((List.range 8).map fun i => if (x.si.get l).toNat.testBit i then 1 else 0) ++
    ((List.finRange 16).map fun k => if x.rejects.any fun e => e.1 == l && e.2.1 == k then 1 else 0) ++ (x.lanes.get l).toList.flatMap latchValues

/-- The lanes that latch: those in the vote and the shadow lane (Table 15.8). -/
def State.latchers (s : State) : List (Fin 3) :=
  (List.finRange 3).filter fun l => s.voting l || s.pyr.rebuild == some (l, .shadow)

/-- The lanes and inputs of a cycle whose value differs from every other lane's. -/
def State.lanesApart (s : State) (x : CycleInputs) : List (Fin 3 × Nat) :=
  s.latchers.flatMap fun l =>
    let others := s.latchers.filter fun m => m != l
    let value (m : Fin 3) (i : Nat) : Rat := (laneValues x m).getD i 0
    ((List.range 48).filter fun i => !others.isEmpty && others.all fun m => value m i != value l i).map fun i => (l, i)

/-- The lanes that latch, but for one, agree on an input. -/
def State.othersAgree (s : State) (x : CycleInputs) (l : Fin 3) (i : Nat) : Bool :=
  match (s.latchers.filter fun m => m != l).map fun m => (laneValues x m).getD i 0 with
  | v :: rest => rest.all fun w => w == v
  | [] => false

/-- A lane whose value of the same input differs from the others' in more than EXCH_PERSIST consecutive cycles is reported,
and in TRIPLE, where the other two agree, handled as an odd lane (R390). -/
def State.laneInputs (s : State) (x : CycleInputs) : State :=
  let runs := (s.lanesApart x).map fun e => (e, ((s.pyr.laneRuns.find? fun r => r.1 == e).map Prod.snd).getD 0 + 1)
  let n := s.nat Od.PP_EXCH_PERSIST + 1
  let due (l : Fin 3) : List Nat := (runs.filter fun r => r.1.1 == l && r.2 == n).map fun r => r.1.2
  let three := s.config == 1
  let base := s
  let s := s.modPyr fun y => { y with laneRuns := runs }
  s.each ((List.finRange 3).filter fun l => !(due l).isEmpty) fun l s =>
    let s := s.laneEvent 0x0D0D l 0
    if three && (due l).any (base.othersAgree x l) then s.laneDiff (some l) 0 else s

/-- Accesses of a lane outside the vote are blocked and counted; the first in each second is logged (R380). -/
def State.laneBlocked (s : State) (n : Nat) : State :=
  if n = 0 then s
  else
    let s := s.countBy ctrP2Blocked n
    let sc := s.tb / sec 1
    if s.pyr.blockedSec = some sc then s
    else (s.modPyr fun x => { x with blockedSec := some sc }).event 0x0D0F 0xFF (s.pyrDetail 0 0)

/-- Frames of every connection are checked; a rising RELEASE bit requests the release of every drive in INHIBIT (R414,
R437, R438). -/
def State.latchFrames (s : State) (x : CycleInputs) : State :=
  let bad (k : Fin 16) : List Nat := (x.rejects.filter fun e => s.voting e.1 && e.2.1 == k).map fun e => e.2.2
  let r := (List.finRange 16).foldl (fun (a : State × Bool) k =>
    let x := a.1.hsfLatch k (bad k)
    (x.1, a.2 || x.2)) (s, false)
  if r.2 then r.1.release (Drive.all.filter fun d => r.1.ds d == .inhibit) 2 else r.1

/-! ### Torque-off evaluation (R394, R405) -/

/-- A latched output fault asserts the pair (R416). -/
def State.outFaulted (s : State) (d : Drive) : Bool :=
  (List.finRange 4).any fun k => (s.sout k).fault && (s.nat (Od.SO_SO_DRIVES k)).testBit d.num

/-- A pair that nothing holds any more is released; one that a link loss has made due is asserted (R24, R28). -/
def State.writePairs (s : State) : State :=
  s.each Drive.all fun d s =>
    let x := s.safe d
    let held := x.sto || x.rbHeld != 0 || x.stale || s.outFaulted d || s.ds d == .inhibit || s.pyrBit 19
    let s := if held then s else s.modDrv d fun y => { y with tqo := false }
    if (s.drv d).tqoLinkDue then (s.torqueOffLink d).modDrv d fun y => { y with tqoLinkDue := false } else s

def State.evaluate (s : State) : State :=
  let s := s.each Drive.all fun d s => s.evalDrive d
  let s := s.parkStep
  let s := s.each Drive.all fun d s => s.monitor d
  let s := s.when (s.pyrBit 18) fun s => s.staleOff
  let s := s.writePairs
  s.each (List.finRange 16) fun k s => s.hsfEchoes k

/-! ### Functions and end -/

/-- Read-back first, then the commands of SO0 to SO3. -/
def State.writeOutputs (s : State) (v : Vector Rat 4) : State :=
  s.each (List.finRange 4) fun k s =>
    let s := s.outRead k (v.get k)
    s.setOut k (s.outPermitted k)

/-- CYCLE_LOAD: the largest fraction of the cycle used in the last second (R389). -/
def State.cycleLoad (s : State) (load : Rat) : State :=
  let l := (s.tb, load) :: s.pyr.loads.filter fun e => decide (s.tb < e.1 + sec 1) && decide (load < e.2)
  (s.modPyr fun x => { x with loads := l }).setQ Od.PYR_CYCLE_LOAD (l.foldl (fun a e => max a e.2) 0)

def State.cycleEnd (s : State) (load : Rat) : State :=
  let s := (s.countWide Od.PYR_CYCLES).cycleLoad load
  (s.modPyr fun x => { x with t0 := s.tb, due := (s.tb / s.cyclePeriod + 1) * s.cyclePeriod }).refreshFlt.refreshSf

/-- A cycle starts at its TB multiple: what the boundary completes, then the phases of Table 15.6. A difference in the
exchange may latch the safe state, which ends the cycle. -/
def State.safetyCycle (s : State) (x : CycleInputs) : State :=
  if !s.cycling ∨ s.tb < s.pyr.due then s
  else
    let s := s.boundaryLane.boundaryHandOver.boundarySet
    let s := ((s.latchExchange x.exchBad).readbackCompare x.differs.toNat).laneBlocked x.blocked
    let agreed := s.agreed x
    let s := (s.agreeInputs x).laneInputs x
    if !s.cycling then s
    else
      let s := s.each [(0 : Fin 2), 1] fun t s => s.safeEstimate agreed t
      let s := s.each (List.finRange 8) fun ch s => s.acceptInput ch
      let s := s.each (List.finRange 4) fun k s => s.pairLevels k
      let s := s.latchFrames x
      (s.evaluate.writeOutputs x.soV).cycleEnd x.load

def execSafetyCycle (dt : Nat) (x : CycleInputs) (s : State) : Res := reply s ((s.elapse dt).safetyCycle x)

end Sys2Proof.Machine
end

