-- ==== Sys2Proof/Machine/Thermal.lean ====
section
/-! DEFINITION. Chapter 14: the Fen round, sensors, junction estimates, thresholds, derates, bands, voltage and process
monitors (R359 to R377). -/
namespace Sys2Proof.Machine

def State.sensor (s : State) (n : Fin 64) : SensorSt := s.thermal.sensors.get n
def State.modThermal (s : State) (f : ThermalSt → ThermalSt) : State := { s with thermal := f s.thermal }
def State.modSensor (s : State) (n : Fin 64) (f : SensorSt → SensorSt) : State :=
  s.modThermal fun x => { x with sensors := upd x.sensors n f }
def State.est (s : State) (c : Cell) : EstimateSt := s.thermal.ests.get c
def State.modEst (s : State) (c : Cell) (f : EstimateSt → EstimateSt) : State :=
  s.modThermal fun x => { x with ests := upd x.ests c f }

def ctrThShut : Counter := ⟨Od.THM_TH_SHUTDOWNS, 16, Od.THM_TH_CNT_STATUS, 0, 0x0C⟩
def ctrRoundOver : Counter := ⟨Od.THM_ROUND_OVERRUNS, 16, Od.THM_TH_CNT_STATUS, 1, 0x0C⟩
def ctrShutdowns (n : Nat) : Counter := ⟨Od.SEN_SHUTDOWNS n, 16, Od.SEN_SENSOR_STATUS n, 7, 0x0C⟩
def ctrBroken (n : Nat) : Counter := ⟨Od.SEN_BROKEN_EVENTS n, 16, Od.SEN_SENSOR_STATUS n, 7, 0x0C⟩
def ctrExcursions (n : Nat) : Counter := ⟨Od.VMON_EXCURSIONS n, 32, Od.VMON_VMON_STATUS n, 2, 0x0C⟩

/-! ### Reach and results (R112, R359, R364) -/

/-- Can a converter's island be read: 0 yes, 1 not supplied, 2 its link is lost. -/
def State.reach (s : State) (g : Nat) : Nat :=
  let l : Link := match g with | 0 => .t | 1 => .g | _ => .l
  if g = 3 then 0
  else if !s.bringup.islandOn then 1
  else if (s.link l).trained then 0
  else if (s.link l).lost || (s.link l).dieLost then 2 else 1

/-- The sequencer and place of an input in a converter's sequences; the Fen round's sequencer first. -/
def State.findEntry (s : State) (g input : Nat) : Option (Fin 8 × Nat) :=
  let look (q : Fin 8) : Option (Fin 8 × Nat) :=
    ((List.range (s.nat (Od.SQ_LENGTH q))).find? fun i => s.entryInput q i == input).map fun i => (q, i)
  if h : 2 * g + 1 < 8 then (look ⟨2 * g + 1, h⟩).orElse fun _ => look ⟨2 * g, by omega⟩ else none

/-- Latest visible code of an input with its TB, none where it is invalid (R111) or in no sequence. -/
def State.inputCode (s : State) (g input : Nat) : Option (Nat × Nat) :=
  match s.findEntry g input with
  | some (q, i) => if s.bit (Od.SQ_SQ_STATUS q) 4 then none else some (s.nat (Od.SQ_RESULT q i), (s.seq q).shownTb)
  | none => none

/-! ### The round (R359, R360) -/

/-- The sequencers of the round that are supplied have each completed a run since the trigger. -/
def State.roundComplete (s : State) : Bool :=
  match s.thermal.roundTb with
  | none => false
  | some t => ([(0, 1), (1, 3), (2, 5), (3, 7)] : List (Nat × Fin 8)).all fun p =>
      s.reach p.1 != 0 || decide (t ≤ (s.seq p.2).shownTb)

/-- 10 ms have passed since the last trigger. -/
def State.roundDue (s : State) : Bool :=
  match s.thermal.roundTb with | some t => decide (t + ms 10 ≤ s.tb) | none => true

/-- A round is triggered, 10 ms after the one before. -/
def State.fenTrigger (s : State) : State :=
  if s.dictUp ∧ s.roundDue then
    let s := s.modThermal fun x => { x with roundTb := some s.tb, late := false }
    s.each ([1, 3, 5, 7] : List (Fin 8)) fun q s =>
      if s.reach (q.val / 2) = 0 then (s.modSeq q fun x => { x with baseTb := s.tb }).seqTrigger q else s
  else s

def execFenRoundTrigger (dt : Nat) (s : State) : Res := reply s (s.elapse dt).fenTrigger

/-! ### Conversion (R362) -/

/-- Conversion of a sensor: 0 NTC, 1 PTAT, 2 PT1000, 3 none. -/
def State.sensorKind (s : State) (n : Nat) : Nat :=
  if 46 ≤ n ∧ n ≤ 48 then 1
  else if 40 ≤ n ∧ n ≤ 43 then (match s.nat (Od.SEN_SENSOR_TYPE n) with | 0 => 3 | 1 => 2 | _ => 0)
  else 0

def codeInWindow (kind c : Nat) : Bool :=
  match kind with
  | 0 => decide (41 ≤ c ∧ c ≤ 4054)
  | 1 => decide (500000 ≤ c * 7324 ∧ c * 7324 ≤ 29500000)
  | _ => decide (c < 4096 ∧ 500 * (4096 - c) ≤ 2490 * c ∧ 2490 * c ≤ 2500 * (4096 - c))

/-- Temperature in 0.1 °C of a code inside its window. -/
def codeTemp (kind c : Nat) : Rat :=
  match kind with
  | 0 => 10 * (1 / (100 / 29815 + Config.ln ((c : Rat) / (4096 - c)) / 3435) - 27315 / 100)
  | 1 => 10 * (((c : Rat) * 7324 / 10000000 - 1 / 2) * 100)
  | _ => 10 * ((2490 * (c : Rat) / (4096 - c) / 1000 - 1) * 100000 / 385)

/-- A temperature in 0.1 °C as an I16 other than the code of a broken sensor. -/
def tempCode (q : Rat) : Int := clampI (-32768) 32766 (roundNear q)

/-- Detail of a thermal event: temperature in 0.1 °C, drive mask (R377). -/
def thermalDetail (t : Int) (mask : Nat) : Nat := (t % 65536).toNat + 65536 * mask

/-! ### Thresholds (R366, R367) -/

/-- The drives of the list that are in FAULT now: those that an acknowledge must clear. -/
def State.inFault (s : State) (l : List Drive) : List Drive := l.filter fun d => s.ds d == .fault

/-- k of R366. -/
def thermalFactor (t thr shut : Rat) : Rat := clampQ 0 1 ((shut - t) / (shut - thr))

/-- SHUT_LATCH of a sensor with its event, and FAULT for its drives. -/
def State.sensorShut (s : State) (n : Fin 64) (code : Nat) (t : Int) : State :=
  let mask := sensorDrives n
  let s := (s.setBit (Od.SEN_SENSOR_STATUS n) 3 true).count ctrThShut
  let s := s.count (if code = 0x0C04 then ctrBroken n else ctrShutdowns n)
  let s := s.raise code (0xC0 + n) (thermalDetail t mask) (Drive.ofMask mask)
  s.modSensor n fun x => { x with sent := s.inFault (Drive.ofMask mask) }

/-- A sensor becomes broken (R364). -/
def State.sensorBroken (s : State) (n : Fin 64) (quiet : Bool) : State :=
  let k := Od.SEN_SENSOR_STATUS n
  let was := s.bit k 4
  let s := ((s.setBit k 4 true).setBit k 0 false).setI (Od.SEN_TEMP n) 0x7FFF
  let s := s.setQ (Od.SEN_K_FACTOR n) 0
  if was || quiet then s
  else if n.val = 45 then (s.count (ctrBroken n)).event 0x0C04 (0xC0 + n) (thermalDetail 0x7FFF 0)
  else s.sensorShut n 0x0C04 0x7FFF

/-- A sensor that is not evaluated: not supplied, or of SENSOR_TYPE 0. -/
def State.sensorOff (s : State) (n : Fin 64) (bit : Nat) : State :=
  let k := Od.SEN_SENSOR_STATUS n
  let s := s.setN k (withField (withField (s.nat k) 0 3 0) 4 3 (2 ^ (bit - 4)))
  (s.setQ (Od.SEN_K_FACTOR n) 1).modSensor n fun x => { x with bad := 0, above := false }

/-- A temperature in 0.1 °C is evaluated against its thresholds. -/
def State.sensorTemp (s : State) (n : Fin 64) (t : Rat) : State :=
  let k := Od.SEN_SENSOR_STATUS n
  let v := tempCode t
  let s := (((s.setBit k 0 true).setBit k 4 false).setBit k 5 false).setBit k 6 false
  let s := (s.setI (Od.SEN_TEMP n) v).setI (Od.SEN_T_MAX n) (if (s.sensor n).seen then max v (s.int (Od.SEN_T_MAX n)) else v)
  let s := s.modSensor n fun x => { x with bad := 0, seen := true }
  if n.val = 45 then s
  else
    let w := s.num (Od.SEN_WARN_T n)
    let th := s.num (Od.SEN_THROTTLE_T n)
    let sh := s.num (Od.SEN_SHUTDOWN_T n)
    let hy := s.num (Od.SEN_HYST_K n)
    let d := thermalDetail v (sensorDrives n)
    let past := s.tb - s.thermal.evalTb
    let s := s.when (decide (w ≤ t)) fun s => s.modSensor n fun x => { x with ticks := x.ticks + past }
    let s := s.setN (Od.SEN_ABOVE_WARN_s n) ((s.sensor n).ticks / sec 1)
    let s := if w ≤ t then (s.when (!s.bit k 1) fun s => s.event 0x0C01 (0xC0 + n) d).setBit k 1 true
      else s.when (decide (t < w - hy)) fun s => s.setBit k 1 false
    let s := if th ≤ t then (s.when (!s.bit k 2) fun s => s.event 0x0C02 (0xC0 + n) d).setBit k 2 true
      else s.when (decide (t < th - hy)) fun s => s.setBit k 2 false
    let s := s.setQ (Od.SEN_K_FACTOR n) (thermalFactor t th sh)
    let fire := decide (sh ≤ t) && (!s.bit k 3 || !(s.sensor n).above)
    let s := s.modSensor n fun x => { x with above := decide (sh ≤ t) }
    s.when fire fun s => s.sensorShut n 0x0C03 v

/-- A sensor at the evaluation of a round (R362, R364). -/
def State.sensorRound (s : State) (n : Fin 64) : State :=
  let g := sensorSource n / 32
  let kind := s.sensorKind n
  if kind = 3 then s.sensorOff n 5
  else match s.reach g with
  | 1 => s.sensorOff n 6
  | 2 => s.sensorBroken n true
  | _ =>
    match s.inputCode g (sensorSource n % 32) with
    | none => s.sensorBroken n false
    | some (c, t) =>
      let s := s.setN (Od.SEN_RAW n) c
      if t + ms 30 < s.tb then s.sensorBroken n false
      else if codeInWindow kind c then s.sensorTemp n (codeTemp kind c)
      else
        let s := (s.modSensor n fun x => { x with bad := x.bad + 1 }).setBit (Od.SEN_SENSOR_STATUS n) 0 false
        if 2 ≤ (s.sensor n).bad then s.sensorBroken n false else s

/-! ### Junction estimates (R365, R366, R369) -/

/-- Baseplate sensor of a cell (Table 14.1). -/
def baseSensor (c : Cell) : Fin 64 :=
  match c.val with
  | 0 => 0 | 1 => 1 | 2 => 2 | 3 => 3 | 4 => 26 | 5 => 27 | 6 => 28 | 7 => 29 | 8 => 4 | 9 => 30 | 10 => 31
  | 11 => 18 | 12 => 19 | 13 => 5 | _ => 6

/-- Class of a cell's estimate: SJ on islands T and G, SIJ on island L. -/
def estClass (c : Cell) : Nat := if cellLink c = .l then 1 else 0

/-- Band of a temperature in 0.1 °C: rises at −10, +60 and +125 °C, falls 5 K below the boundary crossed (R369). -/
def bandOf (old : Option Nat) (t : Rat) : Nat :=
  let b (x : Rat) : Nat := if x < -100 then 0 else if x < 600 then 1 else if x < 1250 then 2 else 3
  match old with
  | none => b t
  | some o => if o ≤ b t then b t else min o (b (t + 50))

/-- The cell's band; a change is logged (R76, R97). -/
def State.setBand (s : State) (c : Cell) (b : Nat) : State :=
  if s.nat (Od.CELL_CELL_BAND c) = b then s
  else
    let s := s.setN (Od.CELL_CELL_BAND c) b
    s.event 0x030B c (0xFF + 65536 * b)

/-- The estimate is broken with its baseplate sensor. -/
def State.estBroken (s : State) (c : Cell) (quiet : Bool) : State :=
  let was := (s.est c).broken
  let d := cellDrive c
  let s := (s.modEst c fun x => { x with broken := true, valid := false, k := 0 }).setBand c 3
  if was || quiet then s
  else
    let s := (s.modEst c fun x => { x with latch := true }).count ctrThShut
    let s := s.raise 0x0C04 (0x2F + c) (thermalDetail 0x7FFF (2 ^ d.num)) [d]
    s.modEst c fun x => { x with sent := s.inFault [d] }

/-- T_J = T_BASE + ΔT; the thermal network and its losses come from factory trim, so ΔT is open (R365). -/
def State.estTemp (s : State) (c : Cell) : State :=
  let t : Rat := s.num (Od.SEN_TEMP (baseSensor c)) + 10 * Config.freeRat s.fresh
  let s := s.draw
  let th := classThresholds (estClass c)
  let v := tempCode t
  let d := cellDrive c
  let det := thermalDetail v (2 ^ d.num)
  let src := 0x2F + c.val
  let x := s.est c
  let first := !x.valid
  let s := s.setI (Od.CELL_CELL_TJ c) v
  let s := s.when (decide ((th.1 : Rat) ≤ t) && !x.warn) fun s => s.event 0x0C01 src det
  let s := s.when (decide ((th.2.1 : Rat) ≤ t) && !x.throttle) fun s => s.event 0x0C02 src det
  let hot := decide ((th.2.2.1 : Rat) ≤ t)
  let inAsc := c.val < 4 && (s.cell c).mode == .asc
  let s := s.when (hot && inAsc && !x.ascSeen) fun s => s.event 0x051F c (thermalDetail v 0)
  let s := s.modEst c fun x => { x with
    valid := true, broken := false, above := hot, ascSeen := hot && inAsc
    warn := if (th.1 : Rat) ≤ t then true else if t < th.1 - th.2.2.2 then false else x.warn
    throttle := if (th.2.1 : Rat) ≤ t then true else if t < th.2.1 - th.2.2.2 then false else x.throttle
    k := thermalFactor t th.2.1 th.2.2.1 }
  let s := s.setBand c (bandOf (if first ∧ s.nat Od.THM_ROUNDS = 0 then none else some (s.nat (Od.CELL_CELL_BAND c))) t)
  if hot && (!x.latch || !x.above) then
    let s := ((s.modEst c fun x => { x with latch := true }).count ctrThShut).raise 0x0C03 src det [d]
    s.modEst c fun x => { x with sent := s.inFault [d] }
  else s

/-- An estimate at the evaluation of a round. -/
def State.estRound (s : State) (c : Cell) : State :=
  let n := baseSensor c
  let k := Od.SEN_SENSOR_STATUS n
  if s.bit k 6 then s.modEst c fun x => { x with valid := false, broken := false, k := 1, above := false }
  else if s.bit k 4 then s.estBroken c (s.reach (sensorSource n / 32) == 2)
  else if s.bit k 0 then s.estTemp c
  else s

/-! ### Derates, flash band, coolant (R368 to R370) -/

/-- DERATE of a drive: the smallest k of its sensors and of the estimates of its stage cells. -/
def State.derateOf (s : State) (d : Drive) : Rat :=
  let a := (List.range 64).foldl (fun q n => if (sensorDrives n).testBit d.num then min q (s.num (Od.SEN_K_FACTOR n)) else q) 1
  d.cells.foldl (fun q c => if 8 ≤ c.val then min q (s.est c).k else q) a

/-- Highest of sensors 46 to 48 that are valid. -/
def State.dieMax (s : State) : Option Int :=
  ([46, 47, 48] : List Nat).foldl (fun a n =>
    if s.bit (Od.SEN_SENSOR_STATUS n) 0 then
      (match a with | none => some (s.int (Od.SEN_TEMP n)) | some v => some (max v (s.int (Od.SEN_TEMP n))))
    else a) none

/-- Length of a flash program pulse in µs (Table 14.8). -/
def flashPulse (b : Nat) : Nat := match b with | 0 => 40 | 1 => 25 | 2 => 30 | _ => 40

/-- Flash band; a change is logged (R369). With every die sensor broken it is B3. -/
def State.flashRound (s : State) (first : Bool) : State :=
  let t := s.dieMax
  let s := s.setI Od.THM_T_DIE_MAX (t.getD 0x7FFF)
  let old := s.nat Od.THM_FLASH_BAND
  let b := match t with | some v => bandOf (if first then none else some old) v | none => 3
  let s := (s.setN Od.THM_FLASH_BAND b).setN Od.THM_FLASH_PULSE_us (flashPulse b)
  if first ∨ b = old then s else s.event 0x0C06 0x7F (thermalDetail (t.getD 0x7FFF) 0)

/-- The coolant's rise stands above COOL_DT_MAX while a drive is ACTIVE, both its sensors being valid. -/
def State.coolantHigh (s : State) : Bool :=
  (Drive.all.any fun d => s.ds d == .active) && s.bit (Od.SEN_SENSOR_STATUS 45) 0 && s.bit (Od.SEN_SENSOR_STATUS 44) 0 &&
    decide (s.int Od.THM_COOL_DT_MAX < s.int (Od.SEN_TEMP 45) - s.int (Od.SEN_TEMP 44))

/-- The coolant's temperatures at the evaluation of a round, since when their rise is too high; COOL_FLOW_LOW clears 2 K below
COOL_DT_MAX. -/
def State.coolantRound (s : State) : State :=
  let s := (s.setI Od.THM_T_COOL_IN (s.int (Od.SEN_TEMP 44))).setI Od.THM_T_COOL_OUT (s.int (Od.SEN_TEMP 45))
  let high := s.coolantHigh
  let s := s.modThermal fun x => { x with coolTb := since high x.coolTb s.tb }
  if s.bit Od.THM_TH_STATUS 5 ∧ s.bit (Od.SEN_SENSOR_STATUS 45) 0 ∧ s.bit (Od.SEN_SENSOR_STATUS 44) 0 ∧
      s.int (Od.SEN_TEMP 45) - s.int (Od.SEN_TEMP 44) ≤ s.int Od.THM_COOL_DT_MAX - 20 then
    s.setBit Od.THM_TH_STATUS 5 false
  else s

/-- The coolant's rise has stood above COOL_DT_MAX for 1 s while a drive is ACTIVE. -/
def State.coolantLow (s : State) : State :=
  let rise := s.int (Od.SEN_TEMP 45) - s.int (Od.SEN_TEMP 44)
  if s.coolantHigh ∧ heldFor s.thermal.coolTb (sec 1) s.tb ∧ ¬ s.bit Od.THM_TH_STATUS 5 then
    (s.setBit Od.THM_TH_STATUS 5 true).event 0x0C0A 0x7F (thermalDetail rise 0)
  else s

def execCoolantFlowLow (dt : Nat) (s : State) : Res := reply s (s.elapse dt).coolantLow

/-! ### Voltage and process monitors (R371, R372) -/

/-- The latest value of an input, where its converter is reached and the result valid. -/
def State.inputNow (s : State) (g i : Nat) : Option Rat :=
  if s.reach g = 0 then (s.inputCode g i).map fun p => inputValue g i p.1 else none

/-- Lowest positive gate-supply rail of an island's cells that have their supplies on. -/
def State.gateRail (s : State) (l : Link) : Option Rat :=
  (l.cells.filter fun c => (s.cell c).supHi || (s.cell c).supLo).foldl (fun a c =>
    match a with
    | none => some (s.num (Od.CELL_VGS_SUP_POS c))
    | some q => some (min q (s.num (Od.CELL_VGS_SUP_POS c)))) none

/-- Value of a monitor in this round; none where it is not evaluated. The core rails of the island dies and the always-on
supply are read by monitors whose values are open. -/
def State.vmonValue (s : State) (n : Nat) : Option Rat :=
  let isl (l : Link) (v : Option Rat) : Option Rat := if s.bringup.islandOn ∧ (s.link l).trained then v else none
  match n with
  | 0 => s.inputNow 0 0 | 1 => s.inputNow 1 3 | 2 => s.inputNow 2 8 | 3 => s.inputNow 2 9 | 4 => s.inputNow 2 10
  | 5 => s.inputNow 2 11 | 13 => s.inputNow 0 31 | 14 => s.inputNow 1 31 | 15 => s.inputNow 2 31 | 16 => s.inputNow 3 31
  | 17 => isl .t (some (Config.freeRat s.fresh)) | 18 => isl .g (some (Config.freeRat s.fresh))
  | 19 => isl .l (some (Config.freeRat s.fresh))
  | 20 => isl .t (s.gateRail .t) | 21 => isl .g (s.gateRail .g) | 22 => isl .l (s.gateRail .l)
  | 23 => some (Config.freeRat s.fresh)
  | n => s.inputNow 3 (18 + n)

/-- The island of a monitor's converter or rail has no supply (R371, R112). -/
def State.vmonOff (s : State) (n : Nat) : Bool :=
  match n with
  | 0 => s.reach 0 == 1 | 1 => s.reach 1 == 1 | 2 => s.reach 2 == 1 | 3 => s.reach 2 == 1 | 4 => s.reach 2 == 1
  | 5 => s.reach 2 == 1 | 13 => s.reach 0 == 1 | 14 => s.reach 1 == 1 | 15 => s.reach 2 == 1
  | 17 => s.reach 0 == 1 | 18 => s.reach 1 == 1 | 19 => s.reach 2 == 1
  | 20 => s.reach 0 == 1 | 21 => s.reach 1 == 1 | 22 => s.reach 2 == 1
  | _ => false

/-- A monitor at the evaluation of a round; one without a value is not evaluated. -/
def State.vmonRound (s : State) (n : Fin 24) : State :=
  let st := Od.VMON_VMON_STATUS n
  let v := s.vmonValue n
  let s := s.when (n.val = 17 || n.val = 18 || n.val = 19 || n.val = 23) fun s => s.draw
  match v with
  | none => (s.setBit st 1 (s.vmonOff n)).modThermal fun x => { x with vmons := upd x.vmons n fun y => { y with bad := 0 } }
  | some q =>
    let y := s.thermal.vmons.get n
    let s := (s.setBit st 1 false).setQ (Od.VMON_VALUE n) q
    let s := s.setQ (Od.VMON_V_MIN n) (if y.seen then min q (s.num (Od.VMON_V_MIN n)) else q)
    let s := s.setQ (Od.VMON_V_MAX n) (if y.seen then max q (s.num (Od.VMON_V_MAX n)) else q)
    let out := decide (q < s.num (Od.VMON_LO_LIM n) ∨ s.num (Od.VMON_HI_LIM n) < q)
    let bad := if out then y.bad + 1 else 0
    let s := s.modThermal fun x => { x with vmons := upd x.vmons n fun _ => ⟨bad, true⟩ }
    if ¬ out then s.setBit st 0 false
    else if bad < 2 ∨ s.bit st 0 then s
    else ((s.setBit st 0 true).count (ctrExcursions n)).event 0x0C07 (0x80 + n) (low16 (q * 100))

/-- CORNER and DRIFT of each die: the oscillators' counts and RATIO_TRIM are not given, so both are open; AGED is logged
once for a die. -/
def State.processRound (s : State) : State :=
  s.each (List.range 4) fun i s =>
    let d := Config.freeRat (s.fresh + 1)
    let s := ((s.setQ (Od.PM_CORNER i) (Config.freeRat s.fresh)).setQ (Od.PM_DRIFT i) d).draw.draw
    if d < s.num Od.PM_AGE_WARN then
      let s := (s.setBit Od.PM_PM_STATUS i true).setBit Od.THM_TH_STATUS 6 true
      if i ∈ s.thermal.aged then s
      else (s.event 0x0C08 0x7F 0).modThermal fun x => { x with aged := i :: x.aged }
    else s

/-! ### Evaluation (R366) -/

/-- ANY_WARN, ANY_THROTTLE, ANY_SHUT and ANY_BROKEN, BROKEN_NOW. -/
def State.thermalSummary (s : State) : State :=
  let any (i : Nat) : Bool := (List.range 64).any fun n => s.bit (Od.SEN_SENSOR_STATUS n) i
  let anyE (f : EstimateSt → Bool) : Bool := (List.finRange 15).any fun c => f (s.est c)
  let k := Od.THM_TH_STATUS
  let broken := ((List.range 64).filter fun n => s.bit (Od.SEN_SENSOR_STATUS n) 4).length
  let b := [any 1 || anyE (·.warn), any 2 || anyE (·.throttle), any 3 || anyE (·.latch), any 4 || anyE (·.broken)]
  (((s.setBit k 0 (b.getD 0 false)).setBit k 1 (b.getD 1 false)).setBit k 2 (b.getD 2 false)).setBit k 3 (b.getD 3 false)
    |>.setN Od.THM_BROKEN_NOW broken

/-- Derates and summary follow the sensors and estimates. -/
def State.thermalFollow (s : State) : State :=
  (s.each Drive.all fun d s => s.setQ (Od.THM_DERATE d.num) (s.derateOf d)).thermalSummary

/-- A completed round is evaluated once, by the first thermal-model task to run after it. -/
def State.evaluateRound (s : State) : State :=
  match s.thermal.roundTb with
  | none => s
  | some t =>
    if ¬ s.roundComplete ∨ (t ≤ s.thermal.evalTb ∧ s.thermal.evalTb ≠ 0) then s
    else
      let first := s.nat Od.THM_ROUNDS == 0
      let s := s.each (List.finRange 64) fun n s => s.sensorRound n
      let s := s.each (List.finRange 15) fun c s => s.estRound c
      let s := (s.flashRound first).coolantRound
      let s := (s.each (List.finRange 24) fun n s => s.vmonRound n).processRound
      let s := (s.countWide Od.THM_ROUNDS).setN Od.THM_ROUND_TIME_us (min 65535 ((s.tb - t) / 100))
      let s := s.when (!s.thermal.late) fun s => s.setBit Od.THM_TH_STATUS 4 false
      let s := (s.modThermal fun x => { x with evalTb := s.tb }).thermalFollow
      s.when first fun s => s.each Drive.all fun d s => s.becomeReady d

/-- Temperature results older than 30 ms count as broken sensors, and the estimates on them are broken (R360, R364). -/
def State.ageSensors (s : State) : State :=
  let s := s.each (List.finRange 64) fun n s =>
    if s.reach (sensorSource n / 32) ≠ 0 ∨ s.sensorKind n = 3 then s
    else match s.inputCode (sensorSource n / 32) (sensorSource n % 32) with
      | some (_, t) => if t + ms 30 < s.tb then s.sensorBroken n false else s
      | none => s
  (s.each (List.finRange 15) fun c s =>
    if s.bit (Od.SEN_SENSOR_STATUS (baseSensor c)) 4 then
      s.estBroken c (s.reach (sensorSource (baseSensor c) / 32) == 2)
    else s).thermalFollow

/-- The round is not complete 10 ms after its trigger: each channel keeps its value while it is not too old. -/
def State.fenLate (s : State) : State :=
  match s.thermal.roundTb with
  | some t =>
    if t + ms 10 ≤ s.tb ∧ ¬ s.roundComplete ∧ ¬ s.thermal.late then
      let s := (((s.setBit Od.THM_TH_STATUS 4 true).count ctrRoundOver).modThermal fun x => { x with late := true }).ageSensors
      if s.thermal.lateMin = some (s.tb / sec 60) then s
      else (s.event 0x0C09 0x7F 0).modThermal fun x => { x with lateMin := some (s.tb / sec 60) }
    else s
  | none => s

def execFenRoundLate (dt : Nat) (s : State) : Res := reply s (s.elapse dt).fenLate

/-! ### Acknowledge and writes (R363, R367, R375) -/

/-- A sensor or estimate of the drive is broken, or reads at or above SHUTDOWN_T − HYST_K. -/
def State.thermalForbidsAck (s : State) (d : Drive) : Bool :=
  ((List.range 64).any fun n => (sensorDrives n).testBit d.num &&
    (s.bit (Od.SEN_SENSOR_STATUS n) 4 || (s.bit (Od.SEN_SENSOR_STATUS n) 0 &&
      decide (s.int (Od.SEN_SHUTDOWN_T n) - s.int (Od.SEN_HYST_K n) ≤ s.int (Od.SEN_TEMP n))))) ||
  d.cells.any fun c => (s.est c).broken || ((s.est c).valid &&
    decide ((classThresholds (estClass c)).2.2.1 - (classThresholds (estClass c)).2.2.2 ≤ s.int (Od.CELL_CELL_TJ c)))

/-- The accepted ACK of a drive: SHUT_LATCH clears where every drive sent to FAULT has been acknowledged. -/
def State.ackThermal (s : State) (d : Drive) : State :=
  let s := s.each (List.finRange 64) fun n s =>
    if s.bit (Od.SEN_SENSOR_STATUS n) 3 then
      let s := s.modSensor n fun x => { x with sent := x.sent.filter fun e => e != d }
      s.when (s.sensor n).sent.isEmpty fun s => s.setBit (Od.SEN_SENSOR_STATUS n) 3 false
    else s
  let s := s.each (List.finRange 15) fun c s =>
    if (s.est c).latch then s.modEst c fun x => { x with
      sent := x.sent.filter fun e => e != d, latch := !(x.sent.filter fun e => e != d).isEmpty }
    else s
  s.thermalSummary

/-- The drive of a MOTOR sensor is ARMED, ACTIVE, STOPPING or INHIBIT. -/
def State.motorBusy (s : State) (n : Nat) : Bool := (Drive.ofMask (sensorDrives n)).any fun d => !s.paramState d

/-- WARN_T, THROTTLE_T, SHUTDOWN_T and HYST_K of a MOTOR sensor, kept in order (R363); `sub` is 0x0A to 0x0D. -/
def State.thresholdWrite (n sub : Nat) (v : Int) (s : State) : Except Nat State :=
  let w := if sub = 0x0A then v else s.int (Od.SEN_WARN_T n)
  let t := if sub = 0x0B then v else s.int (Od.SEN_THROTTLE_T n)
  let h := if sub = 0x0C then v else s.int (Od.SEN_SHUTDOWN_T n)
  let bad := decide (sub = 0x0D ∧ (v < 10 ∨ 200 < v)) || !(decide (w < t ∧ t < h ∧ h ≤ 2200))
  refuseIf (sensorClass n != 7 || bad) 0x06090030 <|
  refuseIf (s.motorBusy n) 0x08000022 <|
  .ok (s.setI (Od.SEN_WARN_T n + (sub - 0x0A)) v)

/-- SENSOR_TYPE of sensors 40 to 43. -/
def State.sensorTypeWrite (n v : Nat) (s : State) : Except Nat State :=
  refuseIf (sensorClass n != 7 || decide (2 < v)) 0x06090030 <|
  refuseIf (s.motorBusy n) 0x08000022 <| .ok (s.setN (Od.SEN_SENSOR_TYPE n) v)

end Sys2Proof.Machine
end

