-- ==== Sys2Proof/Machine/TaskRuns.lean ====
section
/-! DEFINITION. What the completion of a task instance does (R248, R249): the managers' instances, the self-test slices,
the safety data exchange and the evaluation of the Fen round. The DC-link manager compares the senses (R286). Tasks whose work has commands of
its own (observers, network, dictionary, log) have no effect here. -/
namespace Sys2Proof.Machine

/-- The safety data exchange writes observer speeds, torque estimates and PARK_STATE (R391, R409). -/
def State.writeExchange (s : State) : State :=
  let r : ExchRecord := {
    tb := s.tb
    speed := Vector.ofFn fun n => s.num (Od.OBS_OBS_SPEED n)
    tq := Vector.ofFn fun n => s.num (Od.AX_TQ_EST n)
    park := Vector.ofFn fun t => s.nat (Od.PRK_PARK_STATE t) }
  s.modPyr fun x => { x with written := some r }

/-- The effect of an instance of a task in the row order of Table 9.2. -/
def State.taskEffect (s : State) (e : Fin 24) (k : Nat) (slice : SliceResult) : State :=
  if k = 8 then s.writeExchange
  else if 9 ≤ k ∧ k ≤ 32 then s.sliceDone e slice
  else if k = 33 then s.compareSenses
  else if k = 34 then s.auxInstance
  else if k = 35 then s.axleInstance
  else if k = 36 then s.shiftInstance
  else if k = 37 then s.hvInstance
  else if k = 38 then s.lvInstance
  else if 39 ≤ k ∧ k ≤ 46 then s.evaluateRound
  else s

/-- An engine completes its instance, which is timed, takes effect and leaves the engine free; one that has run for 100 µs is
the watchdog's (R249). -/
def State.taskComplete (s : State) (e : Fin 24) (slice : SliceResult) : State :=
  match (s.eng e).running with
  | none => s
  | some k =>
    if s.tb < (s.eng e).startTb + us 100 then ((s.timeExecution e k).taskEffect e k slice).dispatch
    else s.watchdog e

def execTaskExecutionComplete (dt : Nat) (e : Fin 24) (slice : SliceResult) (s : State) : Res :=
  reply s ((s.elapse dt).taskComplete e slice)

end Sys2Proof.Machine
end

