-- ==== Sys2Proof/Machine/Control.lean ====
section
/-! DEFINITION. CONTROL of every drive (R64, R75, R149, R157, R165, R173, R272, R290, R319, R332, R338): ARM, RUN, STOP,
DISARM and ACK, and the expiry of ARM_HOLD_ms. -/
namespace Sys2Proof.Machine

/-- The CONTROL object of a drive. -/
def controlKey : Drive → Nat
  | .tra => Od.TR_CONTROL 0 | .trb => Od.TR_CONTROL 1 | .gbx => Od.GBX_CONTROL | .brk => Od.BRK_CONTROL
  | .aux => Od.AUX_CONTROL | .chg => Od.CHG_CONTROL

/-! ### ARM (R64, R149, R157, R165, R173, R272, R327) -/

/-- The prerequisites of ARM besides the motor data. -/
def State.armAllowed (s : State) (d : Drive) : Bool :=
  s.ds d == .standby && (s.drv d).arming == .none && !(s.drv d).tqo && !(s.drv d).tqoLink && match d with
    | .tra | .trb =>
      (s.side d.side).resolved && !s.chargeInterlock && !s.bit Od.DCL_DCL_STATUS 12 && s.probePossible d.side
    | .chg => !s.bit Od.DCL_DCL_STATUS 12
    | .gbx => decide (42 ≤ s.num Od.CNV_V_IB)
    | _ => true

def State.arm (s : State) (d : Drive) : Except Nat State :=
  refuseIf (!s.armAllowed d || !(s.armDataFault d).isEmpty) 0x08000022 (.ok (s.startArming d .arm))

/-- What a refused ARM leaves: the events of the refusals (R149, R165). -/
def State.noteArmFault (s : State) (d : Drive) : State :=
  s.each (s.armDataFault d) fun e s => (s.event e.1 e.2 (s.armFaultDetail d e.1)).lastEvent d e.1

/-! ### RUN, STOP and DISARM -/

/-- An owner's RUN ends the hold of AUTO_RUN; STOP and DISARM begin it (R290, R319). -/
def State.holdAuto (s : State) (d : Drive) (on : Bool) : State :=
  if d = .brk ∨ d = .aux then s.modDrv d fun x => { x with autoHold := on } else s

/-- RUN of an armed drive; none where CHG's mode refuses it. -/
def State.runDrive (s : State) (d : Drive) : Option State :=
  match d with
  | .tra | .trb => some (s.runTraction d.side)
  | .gbx => some (s.runGbx 2)
  | .brk => some (s.runBrk 2)
  | .aux => some (s.runAux 2)
  | .chg => s.runChg 2

/-- RUN: from ARMED, from a zero-torque hold, and ignored during a reversal (R157, R159). -/
def State.run (s : State) (d : Drive) : Except Nat State :=
  match s.ds d with
  | .armed => match (s.holdAuto d false).runDrive d with
    | some t => .ok t
    | none => .error 0x08000022
  | .stopping => if d.isTraction ∧ (s.drv d).substate = 5 then .ok (s.resumeTraction d.side) else .error 0x08000022
  | .active => if d.isTraction ∧ (s.drv d).substate = 3 then .ok s else .error 0x08000022
  | _ => .error 0x08000022

/-- The stop of a drive that is ACTIVE (R155, R272, R319, R333). -/
def State.stopActive (s : State) (d : Drive) (trig : Nat) : State :=
  if d = .chg then s.stopCharge trig else s.stopDrive d trig

def State.stop (s : State) (d : Drive) : Except Nat State :=
  refuseIf (s.ds d != .active) 0x08000022 (.ok ((s.holdAuto d true).stopActive d 3))

def State.disarm (s : State) (d : Drive) : Except Nat State :=
  refuseIf (s.ds d != .armed) 0x08000022 (.ok ((s.holdAuto d true).goto d .standby 4))

/-! ### ACK (R24, R90, R157, R272, R286, R291, R294, R338, R367) -/

/-- The cause of a fault is still present (DEDUCED for each from its rule, assumption 38). -/
def State.causePresent (s : State) (d : Drive) : Bool :=
  !(s.drv d).causes.isEmpty || !(d.links.all fun l => (s.link l).trained) || s.linkForbidsAck d || s.thermalForbidsAck d ||
    (s.clocks.faults.any fun i => decide (faultBit i ≤ 5) && d.links.any fun l => l.num == faultBit i / 2) || decide (s.liveEngines < 8) ||
    (d == .gbx && (List.range 12).any fun p => decide (4 ≤ p) && s.pifService p == 3)

def State.lockedOut (s : State) (d : Drive) : Bool := d.cells.any fun c => s.flag (Od.CELL_SC_LOCKOUT c)

/-- The latches of a cell that its drive's acknowledge clears. -/
def State.ackCell (s : State) (c : Cell) : State :=
  let k := Od.CELL_CELL_STATUS c
  let s := ((s.setField k 20 4 0).setField k 12 4 0).setBit k 8 false
  let n := s.nat (Od.CELL_CELL_ACK_COUNT c)
  let s := if n < 65535 then s.setN (Od.CELL_CELL_ACK_COUNT c) (n + 1) else s.setBit Od.CNT_CNT_OVF_MAP 3 true
  s.each (cellLegList c) fun l s => s.setField (Od.SH_CH_STATUS l) 4 2 0

/-- LOST_LATCH of a link clears with the last of its drives' acknowledges (R39). -/
def State.ackLinks (s : State) (d : Drive) : State :=
  s.each [Link.t, .g, .l] fun l s => s.modLink l fun x =>
    let left := x.lostDrives.filter fun e => e != d
    { x with lostDrives := left, lost := x.lost && !left.isEmpty }

/-- The accepted ACK of a drive: STANDBY, or UNAVAILABLE while a prerequisite is unmet; GBX recovers its gear state and
BRK checks its resistors again first. -/
def State.ackDrive (s : State) (d : Drive) : State :=
  let s := ((s.each d.cells fun c s => s.ackCell c).ackLinks d).ackLinkLatches d
  let s := (s.ackThermal d).modDrv d fun x => { x with tqoLink := false, tqoLinkDue := false }
  let s := match d with
    | .gbx => { s.ackSolenoids with gbx := { s.ackSolenoids.gbx with recovered := false } }
    | .brk => s.modDcl fun x => { x with checkOk := false, checkWait := none }
    | .aux => s.setBit Od.CNV_AUX_STATUS 10 false
    | .chg => s.chgAck
    | _ => s
  s.goto d (if s.unmet d = 0 then .standby else .unavailable) 5

def State.ack (s : State) (d : Drive) : Except Nat State :=
  refuseIf (s.ds d != .fault || s.lockedOut d || s.causePresent d) 0x08000022 (.ok (s.ackDrive d))

/-! ### CONTROL -/

/-- A command of CONTROL by the drive's owner; during SS1 it is aborted (R406). -/
def State.controlEffect (who : Requester) (d : Drive) (v : Nat) (s : State) : Except Nat State :=
  refuseIf (v == 0 || decide (5 < v)) 0x06090030 <|
  refuseIf (!s.owns who d || (s.safe d).ss1.isSome) 0x08000022 <|
  match v with
  | 1 => s.arm d
  | 2 => s.run d
  | 3 => s.stop d
  | 4 => s.disarm d
  | _ => s.ack d

/-- An ARM that reaches its checks and that motor data, timing or disagreeing sets refuse. -/
def State.armRefusedByData (s : State) (who : Requester) (d : Drive) : Bool :=
  !s.diagOnly && s.dictUp && s.owns who d && (s.safe d).ss1.isNone && s.ds d == .standby && !(s.armDataFault d).isEmpty

def State.writeControl (s : State) (who : Requester) (d : Drive) (v : Nat) : State :=
  let s := s.when (v == 1 && s.armRefusedByData who d) fun s => s.noteArmFault d
  s.request who (controlKey d) .operator (State.controlEffect who d v)

/-- A write of CONTROL with its length: a U8 of another length is aborted (Table 19.3). -/
def State.writeControlSized (s : State) (who : Requester) (d : Drive) (size v : Nat) : State :=
  if size = 1 then s.writeControl who d v
  else s.request who (controlKey d) .operator fun _ => .error 0x06070010

def execDriveArm (dt : Nat) (who : Requester) (d : Drive) (s : State) : Res := reply s ((s.elapse dt).writeControl who d 1)
def execDriveRun (dt : Nat) (who : Requester) (d : Drive) (size : Nat) (s : State) : Res :=
  reply s ((s.elapse dt).writeControlSized who d size 2)
def execDriveStop (dt : Nat) (who : Requester) (d : Drive) (s : State) : Res := reply s ((s.elapse dt).writeControl who d 3)
def execDriveDisarm (dt : Nat) (who : Requester) (d : Drive) (s : State) : Res :=
  reply s ((s.elapse dt).writeControl who d 4)
def execDriveAck (dt : Nat) (who : Requester) (d : Drive) (s : State) : Res := reply s ((s.elapse dt).writeControl who d 5)

/-! ### ARM_HOLD_ms -/

def armHoldKey : Drive → Option Nat
  | .tra => some (Od.TR_ARM_HOLD_ms 0) | .trb => some (Od.TR_ARM_HOLD_ms 1) | .gbx => some Od.GBX_ARM_HOLD_ms | _ => none

/-- ARM_HOLD_ms without RUN (Table 5.10); the drives without the object hold no time. -/
def State.armHold (s : State) (d : Drive) : State :=
  match armHoldKey d with
  | some k =>
    if s.ds d = .armed ∧ (s.drv d).armedTb + ms (s.nat k) ≤ s.tb then
      ((s.goto d .standby 0xFF).event 0x0508 d.num (s.speedLow d)).lastEvent d 0x0508
    else s
  | none => s

def execArmHoldExpiry (dt : Nat) (d : Drive) (s : State) : Res := reply s ((s.elapse dt).armHold d)

end Sys2Proof.Machine
end

