-- ==== Sys2Proof/Machine/Commander.lean ====
section
/-! DEFINITION. Ownership of the drives, loss of a commander and the closing of sessions (R259, R483 to R485). -/
namespace Sys2Proof.Machine

/-! ### Loss of a commander (R485) -/

/-- LOSS_ACTION of a drive: keep, set-point 0, or STOP as its owner writes it. -/
def State.lossAction (s : State) (d : Drive) : State :=
  match s.nat (Od.OWN_LOSS_ACTION d.num) with
  | 1 =>
    if !d.isTraction then s
    else if s.axleRuns then s.setQ Od.AXLE_AXLE_TQ_SET 0 else s.setQ (Od.TR_TQ_SET d.num) 0
  | 2 => match s.stop d with
    | .ok t => if (s.safe d).ss1.isSome then s else t
    | .error _ => s
  | _ => s

/-- A drive loses its commander: OWNER_LOST, event 0x1008 and the loss action. -/
def State.commanderLost (s : State) (d : Drive) : State :=
  let s := s.setBit Od.OWN_OWN_STATUS d.num true
  ((s.event 0x1008 d.num (s.nat (Od.OWN_LOSS_ACTION d.num))).lastEvent d 0x1008).lossAction d

/-- CMD_LOST: every drive that CAN-A owns, which keeps its owner. -/
def State.canACommanderLost (s : State) : State :=
  s.each (Drive.all.filter fun d => s.owner d == 0x10) fun d s => s.commanderLost d

/-- A fresh command while CAN-A owns the drive. -/
def State.canACommanderBack (s : State) : State :=
  s.each (Drive.all.filter fun d => s.owner d == 0x10) fun d s => s.setBit Od.OWN_OWN_STATUS d.num false

/-! ### Closing a session (R444, R483) -/

/-- A session that is open closes: OPERATOR again with default selectors, its staged set and check-value units dropped,
its drives without an owner. -/
def State.closeSession (s : State) (who : Requester) : State :=
  if !(s.sessOf who).isOpen then s
  else
    let code := s.codeOf who
    let owned := Drive.all.filter fun d => s.owner d == code
    let s := (s.modSess who fun _ => {}).crcRelease who
    let s := s.each owned fun d s => (s.setN (Od.OWN_OWNER d.num) 0).commanderLost d
    s.event 0x1003 code 0

def ethPeers : List Requester := (List.finRange 4).map Requester.eth

/-! ### Reads that act (R451, R475, R476, R477) -/

/-- The objects that the diagnostic path of TRIM_FAULT and IMAGE_FAULT reads (R56, R503). -/
def State.diagRead (s : State) (key : Nat) : Bool :=
  let i := key / 256 % 65536
  i == 0x2000 || decide (0x2002 ≤ i ∧ i ≤ 0x2006) || (s.bringup.imageFault && i == 0x3100)

/-- A read of an object: nothing before step 7; 0x08000021 in TRIM_FAULT and IMAGE_FAULT for an object outside the
diagnostic path, and behind a closed wrapper; otherwise the value, or the abort code of the object's rule. -/
def State.readRequest (s : State) (who : Requester) (key : Nat)
    (effect : State → Except Nat (State × List Byte)) : State :=
  if who.sess.isNone ∨ (!s.dictUp ∧ !s.diagOnly) then s
  else
    let s := s.touch who
    if (s.diagOnly ∧ !s.diagRead key) ∨ s.walled key then s.emit (.response who 0x08000021 [])
    else match effect s with
    | .error c => s.emit (.response who c [])
    | .ok (t, data) => t.emit (.response who 0 data)

/-! ### OWNER_x (R259, R484) -/

/-- In an axle mode TRA and TRB keep one owner. -/
def State.ownersAgree (s : State) (d : Drive) (code : Nat) : Bool :=
  !d.isTraction || !s.axleRuns || s.owner (if d = .tra then .trb else .tra) == code

def State.ownerFree (s : State) (who : Requester) (d : Drive) : Bool :=
  s.owner d == 0 || s.owns who d || s.ds d == .unavailable || s.ds d == .standby || s.ds d == .fault ||
    s.roleOf who == .safety

/-- A drive given to CAN-A while CMD_LOST is set has lost its commander at once (R485; DEDUCED, assumption 74). -/
def State.ownerEffect (who : Requester) (d : Drive) (code : Nat) (s : State) : Except Nat State :=
  refuseIf (code != 0 && code != 0x10 && code != s.codeOf who) 0x06090030 <|
  refuseIf (!s.ownerFree who d || !s.ownersAgree d code) 0x08000022 <|
  let old := s.owner d
  let s := s.setN (Od.OWN_OWNER d.num) code
  let s := if code = 0 then s else s.setBit Od.OWN_OWN_STATUS d.num false
  let s := if old = code then s else (s.event 0x1006 d.num (old + 256 * code)).lastEvent d 0x1006
  .ok (if code = 0x10 ∧ s.canA.lost then s.commanderLost d else s)

def State.writeOwner (s : State) (who : Requester) (d : Drive) (code : Nat) : State :=
  s.request who (Od.OWN_OWNER d.num) .service (State.ownerEffect who d code)

def execOwnerWrite (dt : Nat) (who : Requester) (d : Drive) (code : Byte) (s : State) : Res :=
  reply s ((s.elapse dt).writeOwner who d code.toNat)

end Sys2Proof.Machine
end

