-- ==== Sys2Proof/Machine/Can.lean ====
section
/-! DEFINITION. Chapter 18: the CAN FD channels, their filters and queues, transmission, errors, bus-off, the bridge and
the causes that keep a channel off-line (R447 to R458). -/
namespace Sys2Proof.Machine

/-! ### Frames (R447, R452) -/

/-- Data lengths that a DLC encodes (R452). -/
def canLengthOk (fd : Bool) (n : Nat) : Bool := decide (n ≤ 8) || (fd && [12, 16, 20, 24, 32, 48, 64].contains n)

/-- A frame of ISO 11898-1: identifier of its format, data length of a DLC, a bit-rate switch in FD frames alone. -/
def canFormed (m : CanMsg) : Bool :=
  decide (m.ident < 2 ^ (if m.ide then 29 else 11)) && canLengthOk m.fd m.data.length && (m.fd || !m.brs)

/-- Frame layout of BRIDGE_RX and BRIDGE_TX (R452). -/
def bridgeFrame (m : CanMsg) (ts : Nat) : List Byte :=
  natLe 4 (m.ident + (if m.ide then 2 ^ 31 else 0) + (if m.fd then 2 ^ 30 else 0) + (if m.brs then 2 ^ 29 else 0)) ++
    natLe 4 ts ++ natLe 1 m.data.length ++ m.data

/-! ### Filters (R449, R450) -/

/-- A receive filter: FILTER_CTRL, FILTER_MATCH and FILTER_MASK (Table 18.9). TARGET: 1 RXQ0, 2 RXQ1. -/
structure CanFilter where
  enable : Bool
  ide    : Bool
  frame  : Nat
  target : Nat
  ident  : Nat
  mask   : Nat
  deriving DecidableEq, Repr

def CanFilter.takes (f : CanFilter) (m : CanMsg) : Bool :=
  f.enable && (m.ident ^^^ f.ident) &&& f.mask == 0 && m.ide == f.ide &&
    match f.frame with
    | 1 => !m.fd
    | 2 => m.fd
    | _ => true

/-- A claimed filter for one identifier, whose bit 31 is IDE. -/
def oneId (target ident : Nat) : CanFilter := ⟨true, ident.testBit 31, 0, target, ident % 2 ^ 29, 2 ^ 29 - 1⟩

/-- CONN_ID and ECHO_ID of each connection on the channel (Table 18.3). -/
def State.connFilters (s : State) (c : Fin 4) : List CanFilter :=
  (List.range 16).flatMap fun k =>
    if s.nat (Od.HSF_CONN_ROLE k) ≠ 0 ∧ s.nat (Od.HSF_CONN_MEDIUM k) = 0 ∧ s.nat (Od.HSF_CONN_CHANNEL k) = c.val then
      [oneId 1 (s.nat (Od.HSF_CONN_ID k)), oneId 1 (s.nat (Od.HSF_ECHO_ID k))]
    else []

/-- The claimed filters of a channel from filter 0 upward (Table 18.3): those of its connections, then those of its
function (DESIGN CHOICE, assumption 39). -/
def State.claimedFilters (s : State) (c : Fin 4) : List CanFilter :=
  s.connFilters c ++ match c with
  | 0 => [⟨true, true, 0, 2, 0x00EE0000, 0x03FF0000⟩, ⟨true, true, 0, 2, 0x00EA0000, 0x03FF0000⟩] ++
      (match s.canA.addr with
      | some a => [⟨true, true, 0, 2, 0x00EF0000 + 256 * a, 0x03FFFF00⟩]
      | none => [])
  | 1 => (List.range 15).map fun i => oneId 1 (s.nat Od.TIME_TIME_REF_ID + 1 + i)
  | 2 => [oneId 2 (s.nat Od.HV_BMS_RX_ID), oneId 2 (s.nat Od.HV_BMS_RX_ID + 1)]
  | 3 => [oneId 2 (0x600 + s.sessions.nodeId)]

/-- Filter `f` of 0 to 63: claimed below 32, the host's from 32 on. -/
def State.filter (s : State) (c : Fin 4) (f : Nat) : CanFilter :=
  if f < 32 then (s.claimedFilters c).getD f ⟨false, false, 0, 0, 0, 0⟩
  else
    let w := s.nat (Od.CAN_FILTER_CTRL c f)
    ⟨w.testBit 31, w.testBit 30, w / 2 ^ 28 % 4, w / 2 ^ 26 % 4, s.nat (Od.CAN_FILTER_MATCH c f) % 2 ^ 29,
      s.nat (Od.CAN_FILTER_MASK c f) % 2 ^ 29⟩

/-- The first matching enabled filter (R449). -/
def State.matching (s : State) (c : Fin 4) (m : CanMsg) : Option Nat :=
  (List.range 64).find? fun f => (s.filter c f).takes m

/-- A frame that a full queue cannot take is counted; the first in each second logs event 0x0F07 (R451). -/
def State.rxDrop (s : State) (c : Fin 4) (q : Nat) : State :=
  let s := if q = 0 then s.count (ctrCan Od.CAN_RXQ0_DROPS 32 2 c) else s.count (ctrCan Od.CAN_RXQ1_DROPS 32 3 c)
  if (s.chan c).dropSec = some (s.tb / 100000000) then s
  else (s.modChan c fun x => { x with dropSec := some (s.tb / 100000000) }).canEvent 0x0F07 c 0

/-- A received frame is filtered and queued, discarded by its filter, or counted in UNMATCHED (R449, R451). -/
def State.rxFilter (s : State) (c : Fin 4) (m : CanMsg) (ts : Nat) : State :=
  match s.matching c m with
  | none => s.count (ctrCan Od.CAN_UNMATCHED 32 4 c)
  | some f =>
    let k := Od.CAN_FILTER_HITS c f
    let s := s.setN k (min (s.nat k + 1) (2 ^ 32 - 1))
    let x := s.chan c
    match (s.filter c f).target with
    | 1 => if x.rxq0.length < 32 then s.modChan c fun x => { x with rxq0 := x.rxq0 ++ [⟨m, f, ts⟩] } else s.rxDrop c 0
    | 2 => if x.rxq1.length < 64 then s.modChan c fun x => { x with rxq1 := x.rxq1 ++ [⟨m, f, ts⟩] } else s.rxDrop c 1
    | _ => s

/-! ### Off-line and frame boundaries (R457, R458, R462) -/

/-- This module is time master no longer and follows R462 and R463 from now on. -/
def State.demoteTime (s : State) : State :=
  if s.time.master then
    State.setN { s with time := { s.time with
      master := false, prev := none, sentSof := none, used := 0, refTb := s.tb, lossTb := s.tb, applied := 0
      rejected := 0 } } Od.TIME_MASTER_RANK 0
  else s

/-- A channel goes off-line (R458): it drives recessive, its slots, FIFO and queues are emptied. The CAN-D session closes
(R483), the claimed address is held no longer, a time master sends no references. -/
def State.goOffline (s : State) (c : Fin 4) : State :=
  let s := s.modChan c fun x => { x with
    online := false, busOff := false, restricted := false, fifo := [], onBus := none, rxq0 := [], rxq1 := []
    slots := Vector.replicate 16 {} }
  match c with
  | 0 => { s with canA := { s.canA with addr := none, claimTb := none, cannot := false, taken := [] } }
  | 1 => s.demoteTime
  | 2 => s
  | 3 => s.closeSession .canD

/-- A cause has come that keeps the channel off-line: a transmission in progress completes first. -/
def State.offWhenIdle (s : State) (c : Fin 4) : State :=
  if s.offCause c && (s.chan c).online && (s.chan c).onBus.isNone then s.goOffline c else s

/-- A CAN clock fault (Table 1.11). -/
def State.canClockOff (s : State) (c : Fin 4) : State :=
  (s.modChan c fun x => { x with clockHold := true, freeTb := none }).offWhenIdle c

/-- A frame boundary on the bus: off-line when a cause asks for it, RESTRICTED as written, and the next arbitration. -/
def State.frameBoundary (s : State) (c : Fin 4) : State :=
  if s.offCause c then s.goOffline c
  else
    let r := s.bit (Od.CAN_CH_CTRL c) 1
    let was := (s.chan c).restricted
    let s := s.modChan c fun x => { x with restricted := r }
    let s := if c = 1 ∧ r ∧ !was then s.demoteTime
      else if c = 1 ∧ was ∧ !r then { s with time := { s.time with refTb := s.tb } } else s
    s.arbitrate c

/-- Takes part in traffic: on-line and not in bus-off (R456, R458). -/
def State.busLive (s : State) (c : Fin 4) : Bool := (s.chan c).online && !(s.chan c).busOff

/-! ### Error counters (R455, R456) -/

/-- TEC or REC has reached a level. -/
def ChanSt.atLevel (x : ChanSt) (n : Nat) : Bool := decide (n ≤ x.tec ∨ n ≤ x.rxErr)

/-- Bus-off: counted and logged, waiting urgent slots are held; a time master stops (Table 18.7). -/
def State.enterBusOff (s : State) (c : Fin 4) : State :=
  let s := (s.modChan c fun x => { x with busOff := true, onBus := none, busOffTb := s.tb }).count (ctrCan Od.CAN_BUS_OFFS 16 1 c)
  let s := s.canEvent 0x0F04 c 0
  let s := s.each (List.finRange 16) fun i s =>
    if i.val < 8 ∧ (s.slot c i).msg.isSome then s.modSlot c i fun x => { x with held := true } else s
  if c = 1 then s.demoteTime else s

/-- New error counters; each condition is logged once at its entry. -/
def State.setErr (s : State) (c : Fin 4) (tec rxErr : Nat) : State :=
  let old := s.chan c
  let s := s.modChan c fun x => { x with tec := tec, rxErr := min rxErr 255 }
  let new := s.chan c
  let s := s.when (!old.atLevel 96 && new.atLevel 96) fun s => s.canEvent 0x0F02 c 0
  let s := s.when (!old.atLevel 128 && new.atLevel 128) fun s => s.canEvent 0x0F03 c 0
  if 255 < tec then s.enterBusOff c else s

/-- REC after a good frame: one less, or below the error passive level again at a value from 119 to 127 that ISO 11898-1
leaves to the controller. -/
def State.recGood (s : State) (c : Fin 4) : State :=
  let x := s.chan c
  if x.restricted then s
  else if 127 < x.rxErr then (s.modChan c fun x => { x with rxErr := 119 + Config.freeNat s.fresh % 9 }).draw
  else s.modChan c fun x => { x with rxErr := x.rxErr - 1 }

/-- A bus error: ERR_FRAMES, the counters (none while RESTRICTED), and the end of the frame on the bus. -/
def State.canError (s : State) (c : Fin 4) (e : CanError) : State :=
  let s := s.count (ctrCan Od.CAN_ERR_FRAMES 32 0 c)
  let x := s.chan c
  let s := if x.restricted then s else match e with
    | .transmit => s.setErr c (x.tec + 8) x.rxErr
    | .receive => s.setErr c x.tec (x.rxErr + 1)
    | .receiveSevere => s.setErr c x.tec (x.rxErr + 8)
    | .seen => s
  if (s.chan c).busOff then s else s.frameBoundary c

def execCanErrorDetected (dt : Nat) (c : Fin 4) (e : CanError) (s : State) : Res :=
  let s := s.elapse dt
  reply s (if s.busLive c then s.canError c e else s)

/-- Bus-off recovery completes (R456). -/
def State.canRecover (s : State) (c : Fin 4) : State :=
  let s := s.modChan c fun x => { x with busOff := false, tec := 0, rxErr := 0 }
  let s := s.canEvent 0x0F05 c 0
  let s := if c = 1 then { s with time := { s.time with refTb := s.tb } } else s
  s.frameBoundary c

/-- 128 occurrences of 11 recessive bits can have passed since the bus-off (R456). -/
def State.busRecoveryDue (s : State) (c : Fin 4) : Bool :=
  (s.chan c).online && (s.chan c).busOff && !s.offCause c && decide ((s.chan c).busOffTb + s.canBits c 1408 ≤ s.tb)

def execCanBusOffRecovery (dt : Nat) (c : Fin 4) (s : State) : Res :=
  let s := s.elapse dt
  reply s (if s.busRecoveryDue c then s.canRecover c else s)

/-! ### Reception (R449, R451, R454) -/

/-- The timestamp of a frame whose start of frame lies `sofAgo` ticks back (R454). -/
def State.sofStamp (s : State) (sofAgo : Nat) : Nat := ((s.tb : Int) - sofAgo).toNat % 2 ^ 32

/-- A frame reaches the channel; on CAN-A an FD frame is an error (R448). -/
def State.canReceive (s : State) (c : Fin 4) (m : CanMsg) (sofAgo : Nat) : State :=
  if !s.busLive c || !canFormed m then s
  else if c = 0 ∧ m.fd then s.canError c .receive
  else
    let ts := s.sofStamp sofAgo
    let s := (s.countWide (Od.CAN_RX_FRAMES c)).setN (Od.CAN_LAST_RX_TS c) ts
    ((s.recGood c).rxFilter c m ts).frameBoundary c

def execCanFrameReceive (dt : Nat) (c : Fin 4) (m : CanMsg) (sofAgo : Nat) (s : State) : Res :=
  reply s ((s.elapse dt).canReceive c m sofAgo)

/-! ### Transmission (R453, R454) -/

/-- The message on the bus. -/
def State.offered (s : State) (c : Fin 4) : Option CanMsg :=
  match (s.chan c).onBus with
  | none => none
  | some n => if h : n < 16 then (s.slot c ⟨n, h⟩).msg else (s.chan c).fifo.head?

/-- Its slot or the FIFO's head becomes free. -/
def State.freeOffered (s : State) (c : Fin 4) : State :=
  match (s.chan c).onBus with
  | none => s
  | some n =>
    let s := if h : n < 16 then s.modSlot c ⟨n, h⟩ fun x => { x with msg := none, deadline := none, held := false }
      else s.modChan c fun x => { x with fifo := x.fifo.drop 1 }
    s.modChan c fun x => { x with onBus := none }

/-- Start of frame of the master's own reference, in global time (R460). -/
def State.noteReference (s : State) (sofAgo : Nat) : State :=
  if s.time.master then
    ({ s with time := { s.time with sentSof := some (((s.gt : Int) - sofAgo) % 2 ^ 64).toNat } }).countWide Od.TIME_REFS
  else s

/-- A frame has been sent; the next waiting message is offered. -/
def State.canSent (s : State) (c : Fin 4) (sofAgo : Nat) : State :=
  match s.offered c with
  | none => s
  | some m =>
    let ref := c = 1 ∧ (s.chan c).onBus = some 0
    let s := ((s.emit (.can c m)).countWide (Od.CAN_TX_FRAMES c)).freeOffered c
    let s := s.modChan c fun x => { x with tec := if x.restricted then x.tec else x.tec - 1 }
    let s := if ref then s.noteReference sofAgo else s
    s.frameBoundary c

def execCanFrameTransmitComplete (dt : Nat) (c : Fin 4) (sofAgo : Nat) (s : State) : Res :=
  let s := s.elapse dt
  reply s (if s.busLive c then s.canSent c sofAgo else s)

/-- A waiting message whose deadline has passed is dropped (R453), but not in bus-off (R456) nor on the bus. -/
def execCanSlotStale (dt : Nat) (c : Fin 4) (slot : Fin 16) (s : State) : Res :=
  let s := s.elapse dt
  reply s (if s.busLive c && (s.slot c slot).isStale s.tb && (s.chan c).onBus != some slot.val then s.dropStale c slot else s)

/-! ### The bridge (R452) -/

def RxEntry.ofHost (e : RxEntry) : Bool := decide (32 ≤ e.filter)

/-- The oldest frame that a host filter has queued, or 0 bytes. -/
def State.bridgeRead (c : Fin 4) (s : State) : Except Nat (State × List Byte) :=
  match (s.chan c).rxq1.find? RxEntry.ofHost with
  | none => .ok (s, [])
  | some e => .ok (s.modChan c fun x => { x with rxq1 := takeFirst RxEntry.ofHost x.rxq1 }, bridgeFrame e.msg e.ts)

def State.readBridge (s : State) (who : Requester) (c : Fin 4) : State := s.readRequest who (Od.CAN_BRIDGE_RX c) (State.bridgeRead c)

def execBridgeRxRead (dt : Nat) (who : Requester) (c : Fin 4) (s : State) : Res :=
  reply s ((s.elapse dt).readBridge who c)

/-- Identifiers that Table 18.3 claims for transmission: address claim and status PGNs of CAN-A, the module status of
CAN-C, and EMCY, SDO response and heartbeat of CAN-D. -/
def State.claimedTx (s : State) (c : Fin 4) (m : CanMsg) : Bool :=
  match c with
  | 0 => m.ide && (List.range 4).any fun i => m.ident / 256 % 2 ^ 18 == s.canA.pgnBase + i
  | 1 => false
  | 2 => m.ident + (if m.ide then 2 ^ 31 else 0) == s.nat Od.HV_MOD_TX_ID
  | 3 => !m.ide && [0x80, 0x580, 0x700].any fun b => m.ident == b + s.sessions.nodeId

/-- The message of a BRIDGE_TX write. -/
def bridgeMsg (data : List Byte) : CanMsg :=
  let w := leNat (data.take 4)
  ⟨w % 2 ^ 29, w.testBit 31, w.testBit 30, w.testBit 29, data.drop 9⟩

/-- The frame may be sent: formed, of the channel's identifier format (Table 18.1, DEDUCED, assumption 40), FD only
with FD_EN, of no claimed identifier. -/
def State.bridgeOk (s : State) (c : Fin 4) (m : CanMsg) : Bool :=
  canFormed { m with brs := false } && (!m.fd || s.fdOn c) && (c != 0 || m.ide) && (c != 3 || !m.ide) &&
    !(s.claimedFilters c).any (fun f => f.takes m) && !s.claimedTx c m

def State.bridgeWrite (who : Requester) (c : Fin 4) (data : List Byte) (s : State) : Except Nat State :=
  let m := bridgeMsg data
  refuseIf (data.length < 9 || data.length != 9 + leNat ((data.drop 8).take 1)) 0x06070010 <|
  refuseIf (!s.bridgeOk c m) 0x06090030 <|
  refuseIf (decide ((s.roleOf who).num < Role.service.num)) 0x08000022 <|
  match s.fifoWrite c { m with brs := m.brs && m.fd && (s.canRates c).2 != 0 } with
  | some t => .ok t
  | none => .error 0x08000022

def State.writeBridge (s : State) (who : Requester) (c : Fin 4) (data : List Byte) : State :=
  s.request who (Od.CAN_BRIDGE_TX c) .operator (State.bridgeWrite who c data)

def execBridgeTxWrite (dt : Nat) (who : Requester) (c : Fin 4) (data : List Byte) (s : State) : Res :=
  reply s ((s.elapse dt).writeBridge who c data)

/-! ### Off-line and back (R458), timestamps (R454) -/

def execCanChannelOffline (dt : Nat) (c : Fin 4) (s : State) : Res := reply s ((s.elapse dt).offWhenIdle c)

/-- The CAN domain has stayed in its window for 10 ms after a clock fault. -/
def State.clockHoldEnds (s : State) : Bool :=
  match s.clocks.canOkTb with
  | some t => decide (t + ms 10 ≤ s.tb)
  | none => false

/-- The hold of a clock fault ends once the domain has stayed in its window for 10 ms; the channel integrates from then
on. -/
def State.endClockHold (s : State) (c : Fin 4) : State :=
  if (s.chan c).clockHold && s.clockHoldEnds then
    (s.modChan c fun x => { x with clockHold := false }).trackFree c (s.clocks.canOkTb.getD s.tb + ms 10)
  else s

/-- 11 recessive bits have passed since the channel was let on-line. -/
def State.integrated (s : State) (c : Fin 4) : Bool :=
  match (s.chan c).freeTb with
  | some t => decide (t + s.canBits c 11 ≤ s.tb)
  | none => false

/-- The channel joins traffic (R458). -/
def State.canJoin (s : State) (c : Fin 4) : State :=
  let s := s.endClockHold c
  if (s.chan c).online || s.offCause c || !s.integrated c then s
  else
    let s := s.modChan c fun x => { x with
      online := true, freeTb := none, busOff := false, tec := 0, rxErr := 0, restricted := s.bit (Od.CAN_CH_CTRL c) 1 }
    let s := if c = 1 then { s with time := { s.time with refTb := s.tb } } else s
    (s.canEvent 0x0F08 c 0).arbitrate c

def execCanChannelRejoin (dt : Nat) (c : Fin 4) (s : State) : Res := reply s ((s.elapse dt).canJoin c)

/-- TB has passed a multiple of 2^32 ticks that is not yet counted (R454). -/
def State.tsWrap (s : State) : State :=
  let n := s.nat Od.TIME_TS_WRAPS
  if n < s.tb / 2 ^ 32 then
    let s := s.countWide Od.TIME_TS_WRAPS
    if n = 0 then s.event 0x0F01 0xFF ((s.canDetail 1 0) % 65536) else s
  else s

def execCanTimestampWrap (dt : Nat) (s : State) : Res := reply s ((s.elapse dt).tsWrap)

end Sys2Proof.Machine
end

