-- ==== Sys2Proof/Machine/Time.lean ====
section
/-! DEFINITION. Chapter 18: the global time, its references and its master (R459 to R463). -/
namespace Sys2Proof.Machine

def ctrTime (key bit width : Nat) : Counter := ⟨key, width, Od.TIME_TM_CNT_STATUS, bit, 0x0F⟩

def State.modTime (s : State) (f : TimeSt → TimeSt) : State := { s with time := f s.time }

/-- Time events carry the source byte 0xFF and CAN-B's error counters (R472). -/
def State.timeEvent (s : State) (code high : Nat) : State := s.event code 0xFF (s.canDetail 1 0 % 65536 + high)

/-- The waiting time of R462 for rank `r`: (r + 1) × 1,000 µs + 250 µs. -/
def rankWait (r : Nat) : Nat := us ((r + 1) * 1000 + 250)

/-- The module can send and receive on CAN-B. -/
def State.timeBus (s : State) : Bool := s.busLive 1 && !(s.chan 1).restricted && s.fdOn 1

/-! ### Master (R460, R462, R463) -/

/-- This module becomes the time master and keeps its own GT (R462). -/
def State.becomeMaster (s : State) : State :=
  let old := s.nat Od.TIME_MASTER_RANK
  let s := s.modTime fun t => { t with
    master := true, sync := true, sentSof := none, sentMs := s.gt / 100000, prev := none, applied := 0, rejected := 0, used := 0 }
  let s := (s.setN Od.TIME_MASTER_RANK s.time.rank).count (ctrTime Od.TIME_TAKEOVERS 1 16)
  s.timeEvent 0x0F0B (65536 * old + 16777216 * s.time.rank)

def State.takeOver (s : State) : State :=
  if s.time.rank ≠ 0 ∧ !s.time.master ∧ s.timeBus ∧ s.dictUp ∧ s.time.refTb + rankWait s.time.rank ≤ s.tb then
    s.becomeMaster
  else s

def execTimeMasterTakeover (dt : Nat) (s : State) : Res := reply s ((s.elapse dt).takeOver)

/-- The payload of a reference (R460): GT_PREV of a first reference is invalid and open. -/
def State.reference (s : State) : List Byte :=
  let prev := match s.time.sentSof with
    | some g => g
    | none => Config.freeNat s.fresh % 2 ^ 64
  natLe 8 prev ++ natLe 1 s.time.rank ++ natLe 1 (if s.time.sentSof.isNone then 1 else 0) ++ [0, 0]

/-- At each millisecond of GT the master writes a reference to slot 0 (R460; its period of 1 ms, assumption 41). -/
def State.sendReference (s : State) : State :=
  if s.time.master ∧ s.time.sentMs ≠ s.gt / 100000 then
    let m : CanMsg := ⟨s.nat Od.TIME_TIME_REF_ID + s.time.rank, false, true, s.nat (Od.CAN_DATA_kbps 1) != 0, s.reference⟩
    let s := if s.time.sentSof.isNone then s.draw else s
    (s.modTime fun t => { t with sentMs := s.gt / 100000 }).slotWrite 1 0 m 500
  else s

def execTimeReferenceSend (dt : Nat) (s : State) : Res := reply s ((s.elapse dt).sendReference)

/-! ### Synchronisation (R461) -/

/-- A rank heard at a TB. -/
def noteHeard (rank tb : Nat) (l : List (Nat × Nat)) : List (Nat × Nat) := (rank, tb) :: l.filter fun e => e.1 != rank

/-- The lowest rank heard within the module's own waiting time (DEDUCED, assumption 42). -/
def State.lowestHeard (s : State) : Nat :=
  s.time.heard.foldl (fun a e => if s.tb < e.2 + rankWait s.time.rank ∧ e.1 < a then e.1 else a) 16

/-- A change of offset is applied; the second in a row sets GT_SYNC. -/
def State.applyOffset (s : State) (change : Int) : State :=
  let t := s.time
  let s := s.modTime fun t => { t with
    offset := t.offset + change, applied := t.applied + 1, rejected := 0, used := t.used + 1 }
  let s := s.setI Od.TIME_LAST_CORR_ns (clampI (-2 ^ 31) (2 ^ 31 - 1) (10 * change))
  if t.sync ∨ t.applied = 0 then s else (s.modTime fun t => { t with sync := true }).timeEvent 0x0F0D 0

/-- GT_SYNC is cleared (R461). -/
def State.loseSync (s : State) : State :=
  (s.modTime fun t => { t with sync := false, applied := 0, rejected := 0, used := 0 }).timeEvent 0x0F0C 0

/-- A change beyond GT_STEP_MAX_us is not applied; the third in a row clears GT_SYNC. -/
def State.rejectOffset (s : State) : State :=
  let s := (s.modTime fun t => { t with rejected := t.rejected + 1, applied := 0 }).count
    (ctrTime Od.TIME_STEP_REJECTS 2 16)
  if 3 ≤ s.time.rejected then s.loseSync else s

/-- A reference whose predecessor, with start of frame `sof0`, has been timestamped. -/
def State.correct (s : State) (gtPrev sof0 : Nat) : State :=
  let new : Int := (gtPrev : Int) - sof0 + s.nat Od.TIME_GT_DELAY_ns / 10
  let change := (BitVec.ofInt 64 (new - s.time.offset)).toInt
  if s.time.sync ∧ us (s.nat Od.TIME_GT_STEP_MAX_us) < change.natAbs then s.rejectOffset else s.applyOffset change

/-- The module that is not master uses a reference of the lowest rank it hears: not one that says GT_PREV invalid, and not
the first one after a gap, whose predecessor it has not timestamped (DEDUCED, assumption 43). -/
def State.useReference (s : State) (rank gtPrev : Nat) (invalid : Bool) (sof : Nat) : State :=
  let prev := s.time.prev
  let s := (s.setN Od.TIME_MASTER_RANK rank).modTime fun t => { t with prev := some (rank, sof) }
  match prev with
  | some (r0, sof0) =>
    if r0 ≠ rank ∨ invalid then s.modTime fun t => { t with applied := 0, used := 0 }
    else if us 1500 < sof - sof0 then
      (s.modTime fun t => { t with applied := 0 }).countBy (ctrTime Od.TIME_REF_MISSES 0 32)
        ((sof - sof0 + us 500) / us 1000 - 1)
    else s.correct gtPrev sof0
  | none => s.modTime fun t => { t with applied := 0, used := 0 }

/-- After three references of a master of higher rank number, this module sends its own (R463). -/
def State.outrank (s : State) (rank : Nat) : State :=
  if s.time.rank ≠ 0 ∧ s.time.rank < rank ∧ 3 ≤ s.time.used ∧ s.timeBus ∧ s.dictUp then s.becomeMaster else s

/-- A time reference arrives (R461, R462, R463). -/
def State.hearReference (s : State) (data : List Byte) (sofAgo : Nat) : State :=
  let rank := leNat ((data.drop 8).take 1)
  if data.length ≠ 12 ∨ rank = 0 ∨ 15 < rank ∨ !s.busLive 1 then s
  else
    let s := s.rxTakeId 1 (s.nat Od.TIME_TIME_REF_ID + rank) false
    let s := (s.countWide Od.TIME_REFS).modTime fun t => { t with heard := noteHeard rank s.tb t.heard }
    let sof := s.tb - sofAgo
    let invalid := (leNat ((data.drop 9).take 1)).testBit 0
    if s.time.master then
      if rank < s.time.rank then
        let old := s.nat Od.TIME_MASTER_RANK
        (((s.demoteTime).modTime fun t => { t with prev := some (rank, sof) }).setN Od.TIME_MASTER_RANK rank).timeEvent
          0x0F0B (65536 * old + 16777216 * rank)
      else s
    else
      let s := s.modTime fun t => { t with refTb := s.tb, lossTb := s.tb }
      if rank ≠ s.lowestHeard then s
      else (s.useReference rank (leNat (data.take 8)) invalid sof).outrank rank

def execTimeReferenceReceive (dt : Nat) (data : List Byte) (sofAgo : Nat) (s : State) : Res :=
  reply s ((s.elapse dt).hearReference data sofAgo)

/-- No reference of any rank for 5 ms while the module is not the master (R461). -/
def State.syncSilence (s : State) : State :=
  if s.time.sync ∧ !s.time.master ∧ s.time.lossTb + ms 5 ≤ s.tb then
    (s.setN Od.TIME_MASTER_RANK 0).loseSync
  else s

def execGlobalTimeSyncLoss (dt : Nat) (s : State) : Res := reply s ((s.elapse dt).syncSilence)

end Sys2Proof.Machine
end

