-- ==== Sys2Proof/Machine/CanA.lean ====
section
/-! DEFINITION. Chapter 18: ISO 11783 on CAN-A: the address claim, commands and status messages (R464 to R467). -/
namespace Sys2Proof.Machine

def State.modCanA (s : State) (f : CanASt → CanASt) : State := { s with canA := f s.canA }

/-- ADDR_OK: an address is claimed and its 250 ms have passed without contention. -/
def State.addrOk (s : State) : Bool := s.canA.addr.isSome && s.canA.claimTb.isNone

/-! ### Address claim (R464) -/

/-- The module's NAME from the objects and the unit's data. -/
def State.canName (s : State) : Nat :=
  2 ^ 63 + 2 * 2 ^ 60 + s.nat (Od.CAN_DEV_CLASS_INST 0) % 16 * 2 ^ 56 + s.nat (Od.CAN_DEV_CLASS 0) % 128 * 2 ^ 49 +
    s.nat (Od.CAN_FUNCTION 0) % 256 * 2 ^ 40 + s.nat (Od.CAN_ECU_INSTANCE 0) % 8 * 2 ^ 32 +
    Config.manufacturerCode % 2 ^ 11 * 2 ^ 21 + Config.serial % 2 ^ 21

/-- A 29-bit identifier of ISO 11783: priority, PGN with the destination in its low msgOctet, source address. -/
def isoId (prio pgn source : Nat) : Nat := prio * 2 ^ 26 + pgn * 256 + source

def isoMsg (prio pgn source : Nat) (data : List Byte) : CanMsg := ⟨isoId prio pgn source, true, false, false, data⟩

/-- The address claim message, in slot 8. -/
def State.sendClaim (s : State) (source : Nat) : State :=
  s.slotWrite 0 8 (isoMsg 6 0xEEFF source (natLe 8 s.canA.name)) 0

/-- Claims an address; 250 ms without contention make it usable. -/
def State.claim (s : State) (a : Nat) : State :=
  (s.modCanA fun x => { x with addr := some a, claimTb := some s.tb }).sendClaim a

/-- At step 7 and at every rejoin PREF_ADDR is claimed, with NAME and STATUS_PGN_BASE as they stand. -/
def State.claimStart (s : State) : State :=
  if s.busLive 0 ∧ s.canA.addr.isNone ∧ !s.canA.cannot then
    let s := s.modCanA fun x => { x with name := s.canName, pgnBase := s.nat (Od.CAN_STATUS_PGN_BASE 0), taken := [] }
    s.claim (s.nat (Od.CAN_PREF_ADDR 0))
  else s

def execAddressClaimStart (dt : Nat) (s : State) : Res := reply s ((s.elapse dt).claimStart)

/-- The next free address after `a` in 0x80 to 0xF7, wrapping. -/
def State.nextFree (s : State) (a : Nat) : Option Nat :=
  ((List.range 120).map fun i => 0x80 + (a - 0x80 + i + 1) % 120).find? fun b => !s.canA.taken.any fun e => e.1 == b

/-- The address is lost to a lower NAME: the next free one is claimed, or none can be. -/
def State.loseAddress (s : State) (a : Nat) : State :=
  match s.nextFree a with
  | some b => s.claim b
  | none =>
    let s := (s.modCanA fun x => { x with addr := none, claimTb := none, cannot := true }).sendClaim 0xFE
    s.canEvent 0x0F0A 0 0xFE

/-- A claim message of another node: the lower NAME keeps a contended address. -/
def State.hearClaim (s : State) (source name : Nat) : State :=
  if !s.busLive 0 then s
  else
    let s := s.rxTakeId 0 (isoId 6 0xEEFF source) true
    let s := s.modCanA fun x =>
      { x with taken := if source < 0xFE then (source, name) :: x.taken.filter fun e => e.1 != source else x.taken }
    if s.canA.addr ≠ some source then s
    else if name < s.canA.name then s.loseAddress source
    else if s.canA.name < name then s.sendClaim source
    else s

def execAddressClaimReceive (dt : Nat) (source : Byte) (name : BitVec 64) (s : State) : Res :=
  reply s ((s.elapse dt).hearClaim source.toNat name.toNat)

/-- 250 ms without contention: ADDR_OK, CLAIMED_ADDR, event 0x0F09; status messages start. -/
def State.claimDone (s : State) : State :=
  match s.canA.addr, s.canA.claimTb with
  | some a, some t =>
    if t + ms 250 ≤ s.tb then
      (s.modCanA fun x => { x with claimTb := none, dueTb := s.tb }).canEvent 0x0F09 0 a
    else s
  | _, _ => s

def execAddressClaimTimer (dt : Nat) (s : State) : Res := reply s ((s.elapse dt).claimDone)

/-! ### Status messages (R467) -/

/-- A quantity in units of 1 / `k` as a signed and as an unsigned 16-bit field, saturated (DESIGN CHOICE, assumption 44). -/
def field16 (k q : Rat) : List Byte := natLe 2 (clampI (-32768) 32767 (roundNear (k * q)) % 65536).toNat
def fieldU16 (k q : Rat) : List Byte := natLe 2 (clampI 0 65535 (roundNear (k * q))).toNat

def State.stateNibbles (s : State) (lo hi : Drive) : List Byte := natLe 1 ((s.ds lo).code + 16 * (s.ds hi).code)

/-- Bytes 0 to 6 of status message `k` (Table 18.6). -/
def State.statusBody (s : State) (k : Fin 4) : List Byte :=
  match k with
  | 0 => s.stateNibbles .tra .trb ++ s.stateNibbles .gbx .aux ++ s.stateNibbles .chg .brk ++
      field16 10 (s.num (Od.TR_TQ_ACT 0)) ++ field16 10 (s.num (Od.TR_TQ_ACT 1))
  | 1 => field16 1 (s.num (Od.TR_SPEED 0)) ++ field16 1 (s.num (Od.TR_SPEED 1)) ++
      natLe 1 (s.gear 0 + 16 * s.gear 1) ++ natLe 1 (s.park 0 + 16 * s.park 1) ++
      natLe 1 (s.field Od.AXLE_AXLE_STATUS 0 2 + (if s.bit Od.AXLE_AXLE_STATUS 3 then 4 else 0) + 0xF8)
  | 2 => fieldU16 10 (s.num Od.DCL_V_DC) ++ fieldU16 100 (s.num Od.CNV_V_VR) ++ natLe 1 (s.nat Od.HV_HV_STATE) ++
      natLe 1 (s.nat Od.LV_LV_STATE) ++
      natLe 1 ((if s.pyrBit 3 then 1 else 0) + (if s.pyrBit 4 then 2 else 0) + (if s.attn then 4 else 0) +
        0xF8)
  | 3 => match s.log.newestWarn with
    | some (code, sev, source) => natLe 2 code ++ natLe 1 sev.num ++ natLe 1 source ++ natLe 3 0xFFFFFF
    | none => natLe 4 0 ++ natLe 3 0xFFFFFF

def statusSlot (k : Fin 4) : Fin 16 := ⟨9 + k.val, by omega⟩

/-- One status message with its alive value and the reject flag, in its slot; while the last one waits there, none is
formed. -/
def State.sendStatusPgn (s : State) (k : Fin 4) : State :=
  match s.canA.addr with
  | none => s
  | some a =>
    if (s.slot 0 (statusSlot k)).msg.isSome then s.count (ctrCan Od.CAN_SLOT_REFUSALS 32 6 0)
    else
      let rejects := s.nat (Od.CAN_A_REJECTS 0)
      let tail := s.canA.txAlive.get k % 16 + (if s.canA.rejects < rejects then 16 else 0) + 0xE0
      let s := s.slotWrite 0 (statusSlot k) (isoMsg 6 (s.canA.pgnBase + k.val) a (s.statusBody k ++ natLe 1 tail)) 0
      s.modCanA fun x => { x with
        txAlive := upd x.txAlive k fun n => (n + 1) % 16, rejects := if k = 0 then rejects else x.rejects }

def State.statusDue (s : State) : State :=
  if s.addrOk ∧ s.busLive 0 ∧ s.canA.dueTb ≤ s.tb then
    (s.each (List.finRange 4) fun k s => s.sendStatusPgn k).modCanA fun x => { x with
      dueTb := s.tb + ms (s.nat (Od.CAN_STATUS_PERIOD_ms 0)) }
  else s

def execCanAStatusSend (dt : Nat) (s : State) : Res := reply s ((s.elapse dt).statusDue)

/-- A request for the address claim or for a status message, to all or to the own address (R464, R467). -/
def State.answerRequest (s : State) (dest pgn source : Nat) : State :=
  if !s.busLive 0 then s
  else
    let s := s.rxTake 0 fun e => e.msg.ide && e.msg.ident % 2 ^ 26 == 0x00EA0000 + 256 * dest + source
    if dest ≠ 0xFF ∧ s.canA.addr ≠ some dest then s
    else if pgn = 0xEE00 then
      match s.canA.addr with
      | some a => s.sendClaim a
      | none => if s.canA.cannot then s.sendClaim 0xFE else s
    else if s.addrOk then
      s.each ((List.finRange 4).filter fun k => pgn == s.canA.pgnBase + k.val) fun k s => s.sendStatusPgn k
    else s

def execCanARequest (dt : Nat) (dest : Byte) (pgn : BitVec 24) (fromAddr : Byte) (s : State) : Res :=
  reply s ((s.elapse dt).answerRequest dest.toNat pgn.toNat fromAddr.toNat)

/-! ### Commands (R465, R466) -/

/-- A signed field of `n` octets. -/
def signedLe (n : Nat) (data : List Byte) : Int :=
  let v := leNat (data.take n)
  if v < 2 ^ (8 * n - 1) then v else (v : Int) - 2 ^ (8 * n)

/-- Octet `i` of a message. -/
def msgOctet (data : List Byte) (i : Nat) : Nat := (data.getD i 0).toNat

/-- Function 0x01: AXLE_TQ_SET, YAW_TQ_SET and AXLE_DIRECTION. -/
def State.axleCommand (s : State) (data : List Byte) : State :=
  let s := s.writeAxleTorque .canA Od.AXLE_AXLE_TQ_SET (f32Encode (signedLe 3 (data.drop 1)))
  let s := s.writeAxleTorque .canA Od.AXLE_YAW_TQ_SET (f32Encode (signedLe 2 (data.drop 4)))
  let d := msgOctet data 6 % 4
  if d = 0 ∨ d = 3 then s else s.writeAxleDirection .canA d

/-- Function 0x02: TQ_SET, DIRECTION and CONTROL of TRA or TRB. -/
def State.driveCommand (s : State) (t : Fin 2) (data : List Byte) : State :=
  let s := s.request .canA (Od.TR_TQ_SET t) .operator (State.tqSetEffect .canA t (mkRat (signedLe 2 (data.drop 2)) 10))
  let s := if msgOctet data 4 = 0xFF then s else s.writeDirection .canA t (msgOctet data 4)
  if msgOctet data 5 = 0 then s else s.writeControl .canA (sideDrive t) (msgOctet data 5)

/-- Function 0x03: SHIFT_CMD and PARK_CMD of a side. -/
def State.gearboxCommand (s : State) (t : Fin 2) (data : List Byte) : State :=
  let s := if msgOctet data 2 = 0xFF then s else s.writeShift .canA t (msgOctet data 2)
  if msgOctet data 3 = 0xFF then s else s.writePark .canA t (msgOctet data 3)

/-- The fields of a fresh command act as writes by CAN-A process data; an unknown function, drive or side counts as
rejected (DEDUCED, assumption 45). -/
def State.canAFields (s : State) (data : List Byte) : State :=
  let unit : Option (Fin 2) := if msgOctet data 1 = 0 then some 0 else if msgOctet data 1 = 1 then some 1 else none
  match msgOctet data 0, unit with
  | 1, _ => s.axleCommand data
  | 2, some t => s.driveCommand t data
  | 3, some t => s.gearboxCommand t data
  | _, _ => s.count ctrARejects

/-- A fresh command ends CMD_LOST; one of function 0x01 or 0x02 starts the timeout again (R466). -/
def State.freshCommand (s : State) (fn : Nat) : State :=
  let s := s.modCanA fun x => { x with cmdTb := if x.lost ∨ fn = 1 ∨ fn = 2 then s.tb else x.cmdTb, lost := false }
  s.canACommanderBack

/-- A Proprietary A message to the own address; its alive value becomes the last of its function, fresh or not (DEDUCED,
assumption 45). -/
def State.canACommand (s : State) (dest : Nat) (data : List Byte) : State :=
  if !s.busLive 0 then s
  else
    let s := s.rxTake 0 fun e => e.msg.ide && e.msg.ident / 256 % 2 ^ 18 == 0xEF00 + dest && e.msg.data == data
    if !s.addrOk ∨ s.canA.addr ≠ some dest then s
    else if data.length ≠ 8 then s.count ctrARejects
    else
      let fn := msgOctet data 0
      let alive := msgOctet data 7 % 16
      let last := (s.canA.alive.find? fun e => e.1 == fn).map fun e => e.2
      let s := s.modCanA fun x => { x with alive := (fn, alive) :: x.alive.filter fun e => e.1 != fn }
      match last with
      | some l => if alive = (l + 1) % 16 then (s.freshCommand fn).canAFields data else s.count ctrARejects
      | none => (s.freshCommand fn).canAFields data

def execCanACommand (dt : Nat) (dest : Byte) (data : List Byte) (s : State) : Res :=
  reply s ((s.elapse dt).canACommand dest.toNat data)

/-- A_CMD_TIMEOUT_ms without a fresh axle or drive command, timed from step 7 (R466, R485). -/
def State.canACommandSilence (s : State) : State :=
  if s.dictUp ∧ !s.canA.lost ∧ s.canA.cmdTb + ms (s.nat (Od.CAN_A_CMD_TIMEOUT_ms 0)) ≤ s.tb then
    ((s.modCanA fun x => { x with lost := true }).canEvent 0x0F0E 0 0).canACommanderLost
  else s

def execCanACommandTimeout (dt : Nat) (s : State) : Res := reply s ((s.elapse dt).canACommandSilence)

end Sys2Proof.Machine
end

