-- ==== Sys2Proof/Machine/Sessions.lean ====
section
/-! DEFINITION. Chapter 19: authentication, keys and the life of a session (R479 to R483), the Ethernet link (R496). -/
namespace Sys2Proof.Machine

def ctrAuth (key bit width : Nat) : Counter := ⟨key, width, Od.AUTH_AUTH_CNT_STATUS, bit, 0x10⟩
def ctrLinkDrops : Counter := ⟨Od.ETH_LINK_DROPS, 16, Od.ETH_ETH_STATUS, 5, 0x10⟩

/-! ### Paths and locks (R481) -/

/-- The path of a requester: CAN-D's, or Ethernet's. -/
def State.pathOf (s : State) (can : Bool) : PathSt := if can then s.sessions.canPath else s.sessions.ethPath

def State.modAuthPath (s : State) (can : Bool) (f : PathSt → PathSt) : State :=
  { s with sessions :=
    if can then { s.sessions with canPath := f s.sessions.canPath } else { s.sessions with ethPath := f s.sessions.ethPath } }

def onCanPath (who : Requester) : Bool := who == .canD

def State.pathLocked (s : State) (who : Requester) : Bool :=
  (s.pathOf (onCanPath who)).lockEnd.any fun t => decide (s.tb < t)

/-- The lockout ends with FAIL_RUN at 0. -/
def State.unlock (s : State) (can : Bool) : State :=
  match (s.pathOf can).lockEnd with
  | some t => if t ≤ s.tb then s.modAuthPath can fun p => { p with lockEnd := none, failRun := 0 } else s
  | none => s

def execAuthLockExpiry (dt : Nat) (can : Bool) (s : State) : Res := reply s ((s.elapse dt).unlock can)

/-- The fifth failure in a row locks the path for 60 s × 2^LOCK_LEVEL; FAIL_RUN, whose range ends at 4, starts again at 0
(DEDUCED, assumption 46). -/
def State.lockPath (s : State) (who : Requester) : State :=
  let can := onCanPath who
  let lock := 60 * 2 ^ (s.pathOf can).lockLevel
  let s := s.modAuthPath can fun p => { failRun := 0, lockLevel := min 6 (p.lockLevel + 1), lockEnd := some (s.tb + sec lock) }
  (s.count (ctrAuth Od.AUTH_LOCKOUTS 2 16)).event 0x1004 (s.codeOf who) lock

/-- A failed response: counted and logged; the nonce is used. -/
def State.authFailed (s : State) (who : Requester) : State :=
  let id := (s.sessOf who).clientId
  let s := s.modSess who fun x => { x with nonce := none }
  let s := (s.modAuthPath (onCanPath who) fun p => { p with failRun := p.failRun + 1 }).count (ctrAuth Od.AUTH_AUTH_FAILS 1 32)
  let s := s.event 0x1002 (s.codeOf who) id
  if 5 ≤ (s.pathOf (onCanPath who)).failRun then s.lockPath who else s

/-! ### The exchange (R479, R480) -/

/-- Another session holds the SAFETY role. -/
def State.safetyElsewhere (s : State) (who : Requester) : Bool :=
  (.canD :: ethPeers).any fun w => w != who && (s.sessOf w).isOpen && (s.sessOf w).role == .safety

/-- AUTH_OPEN: client id and role; a nonce is drawn, valid for 10 s. -/
def State.authOpenEffect (who : Requester) (data : List Byte) (s : State) : Except Nat State :=
  let role := leNat (data.drop 4)
  refuseIf (data.length != 5) 0x06070010 <|
  refuseIf (role != 1 && role != 2) 0x06090030 <|
  refuseIf (role == 2 && s.safetyElsewhere who) 0x08000022 <|
  refuseIf (s.pathLocked who) 0x08000020 <|
  .ok ((s.modSess who fun x => { x with
    clientId := leNat (data.take 4), reqRole := role, nonce := some ((Config.freeBytes s.fresh 16).take 16, s.tb) }).draw)

def State.writeAuthOpen (s : State) (who : Requester) (data : List Byte) : State :=
  s.request who Od.AUTH_AUTH_OPEN .operator (State.authOpenEffect who data)

def execAuthOpenWrite (dt : Nat) (who : Requester) (data : List Byte) (s : State) : Res :=
  reply s ((s.elapse dt).writeAuthOpen who data)

/-- The key of a role: the factory's until it is replaced (R482). -/
def State.roleKey (s : State) (role : Nat) : List Byte :=
  if role = 2 then s.sessions.keySafety.getD Config.keySafety else s.sessions.keyService.getD Config.keyService

/-- The response that R480 asks for to the session's nonce, while that is valid. -/
def State.expectedResponse (s : State) (who : Requester) : Option (List Byte) :=
  let x := s.sessOf who
  match x.nonce with
  | some (n, t) =>
    if s.tb < t + sec 10 then
      some ((hmacSha256 (s.roleKey x.reqRole) (n ++ natLe 4 x.clientId ++ natLe 1 x.reqRole)).take 16)
    else none
  | none => none

/-- A matching response: the session takes the role. -/
def State.authOk (s : State) (who : Requester) : State :=
  let x := s.sessOf who
  let s := s.modSess who fun y => { y with nonce := none, role := if y.reqRole = 2 then .safety else .service }
  let s := (s.modAuthPath (onCanPath who) fun p => { p with failRun := 0, lockLevel := 0 }).count (ctrAuth Od.AUTH_AUTH_OK 0 32)
  s.event 0x1001 (s.codeOf who) x.clientId

/-- A response for SAFETY while another session has the role: aborted, its nonce discarded, no failure (R479). -/
def State.responseTooLate (s : State) (who : Requester) (data : List Byte) : Bool :=
  data.length == 16 && (s.sessOf who).reqRole == 2 && (s.sessOf who).nonce.isSome && s.safetyElsewhere who

def State.authResponseEffect (who : Requester) (data : List Byte) (late : Bool) (s : State) : Except Nat State :=
  refuseIf (data.length != 16) 0x06070010 <|
  refuseIf late 0x08000022 <|
  refuseIf (s.pathLocked who) 0x08000020 <|
  .ok (if s.expectedResponse who = some data then s.authOk who else s.authFailed who)

def State.writeAuthResponse (s : State) (who : Requester) (data : List Byte) : State :=
  let late := s.dictUp && !s.diagOnly && s.responseTooLate who data
  let s := if late then s.modSess who fun x => { x with nonce := none } else s
  s.request who Od.AUTH_AUTH_RESPONSE .operator (State.authResponseEffect who data late)

def execAuthResponseWrite (dt : Nat) (who : Requester) (data : List Byte) (s : State) : Res :=
  reply s ((s.elapse dt).writeAuthResponse who data)

/-- A session record by its number: peers 0 to 3, CAN-D 4. -/
def State.modTable (s : State) (i : Fin 5) (f : SessionSt → SessionSt) : State :=
  { s with sessions := { s.sessions with table := upd s.sessions.table i f } }

/-- 10 s after its issue a nonce is invalid. -/
def State.expireNonce (s : State) (i : Fin 5) : State :=
  match (s.sessions.table.get i).nonce with
  | some (_, t) => if t + sec 10 ≤ s.tb then s.modTable i fun x => { x with nonce := none } else s
  | none => s

def execNonceExpiry (dt : Nat) (i : Fin 5) (s : State) : Res := reply s ((s.elapse dt).expireNonce i)

/-! ### Keys (R482) -/

def State.keyEffect (who : Requester) (safety : Bool) (data : List Byte) (s : State) : Except Nat State :=
  refuseIf (data.length != 32) 0x06070010 <|
  .ok (State.event { s with sessions :=
    if safety then { s.sessions with keySafety := some data } else { s.sessions with keyService := some data } }
    0x1009 (s.codeOf who) 0)

def State.writeKey (s : State) (who : Requester) (safety : Bool) (data : List Byte) : State :=
  s.request who (if safety then Od.AUTH_KEY_SAFETY else Od.AUTH_KEY_SERVICE) .safety (State.keyEffect who safety data)

def execKeyWrite (dt : Nat) (who : Requester) (safety : Bool) (data : List Byte) (s : State) : Res :=
  reply s ((s.elapse dt).writeKey who safety data)

/-! ### The end of a session (R483) -/

/-- SESSION_CLOSE 1 closes the writer's session. -/
def State.writeSessionClose (s : State) (who : Requester) (v : Nat) : State :=
  s.request who Od.SVC_SESSION_CLOSE .operator fun s => refuseIf (v != 1) 0x06090030 (.ok (s.closeSession who))

def execSessionCloseWrite (dt : Nat) (who : Requester) (s : State) : Res :=
  reply s ((s.elapse dt).writeSessionClose who 1)

def requesterOf (i : Fin 5) : Requester := if h : i.val < 4 then .eth ⟨i.val, h⟩ else .canD

/-- SESSION_IDLE_s without a request. -/
def State.sessionIdle (s : State) (i : Fin 5) : State :=
  let x := s.sessions.table.get i
  if x.isOpen ∧ x.lastTb + sec (s.nat Od.SVC_SESSION_IDLE_s) ≤ s.tb then s.closeSession (requesterOf i) else s

def execSessionIdleTimeout (dt : Nat) (i : Fin 5) (s : State) : Res := reply s ((s.elapse dt).sessionIdle i)

/-- The Ethernet link goes down: every Ethernet session closes (R483). -/
def State.ethernetDown (s : State) : State :=
  if s.sessions.linkUp then
    let s := (State.count { s with sessions := { s.sessions with linkUp := false } } ctrLinkDrops)
    s.each ethPeers fun w s => s.closeSession w
  else s

def execEthernetLinkDown (dt : Nat) (s : State) : Res := reply s ((s.elapse dt).ethernetDown)

/-- The PHY may hold a link: released from step 5 of bring-up or for the diagnostic path (R59, R62), with the NET clock in
its window (Table 1.11). -/
def State.phyReleased (s : State) : Bool :=
  (decide (5 ≤ s.bringup.step) || s.diagOnly) && !s.clocks.faults.contains 12

def execEthernetLinkUp (dt : Nat) (s : State) : Res :=
  let s := s.elapse dt
  reply s (if s.phyReleased then { s with sessions := { s.sessions with linkUp := true } } else s)

/-! ### Segmented transfers (R476) -/

/-- A segmented transfer that stalls for SDO_TIMEOUT_ms is aborted. -/
def State.sdoStall (s : State) : State :=
  match (s.sessOf .canD).sdo with
  | some x =>
    if x.lastTb + ms (s.nat Od.SVC_SDO_TIMEOUT_ms) ≤ s.tb then
      (s.modSess .canD fun y => { y with sdo := none }).emit (.response .canD 0x05040000 [])
    else s
  | none => s

def execSdoTimeout (dt : Nat) (s : State) : Res := reply s ((s.elapse dt).sdoStall)

end Sys2Proof.Machine
end

