-- ==== Sys2Proof/Machine/Links.lean ====
section
/-! DEFINITION. Chapter 01: isolation links, apply times, memory integrity and clock monitors (R19 to R39). -/
namespace Sys2Proof.Machine

/-! ### Link frames (R19 to R22) -/

/-- One bit through a left-shifting CRC register of `w` bits. -/
def crcShift (w poly : Nat) (reg : Nat) (b : Bool) : Nat :=
  let top := xor (reg.testBit (w - 1)) b
  let sh := reg * 2 % 2 ^ w
  if top then sh ^^^ poly else sh

/-- The CRC of R19 over header and payload, most significant bit first; the rule gives the polynomial alone (DESIGN CHOICE,
assumption 7). -/
def linkCrc (f : BitVec 96) : Nat :=
  (List.range 72).foldl (fun r i => crcShift 16 0x1021 r (f.getLsbD (87 - i))) Config.linkCrcInit.toNat

/-- A frame passes its CRC check. -/
def linkCrcOk (f : BitVec 96) : Bool := linkCrc f == f.toNat % 65536

/-- The 4-bit sequence number of a frame, the low half of its header (DESIGN CHOICE, assumption 7). -/
def frameSeq (f : BitVec 96) : Nat := f.toNat / 2 ^ 80 % 16

/-- The 64-bit payload of a frame. -/
def framePayload (f : BitVec 96) : BitVec 64 := BitVec.ofNat 64 (f.toNat / 65536)

def ctrReplays (l : Link) : Counter :=
  ⟨Od.SYS_LINK_T_REPLAYS + l.num, 32, Od.SYS_LINK_T_STATUS + l.num, 7, 1⟩

def LinkSt.dir (x : LinkSt) (toC : Bool) : LinkDir := if toC then x.toC else x.fromC
def LinkSt.setDir (x : LinkSt) (toC : Bool) (d : LinkDir) : LinkSt :=
  if toC then { x with toC := d } else { x with fromC := d }

/-- The sender keeps its last 8 frames; a replayed one is among them already (R21). -/
def LinkDir.keep (d : LinkDir) (f : BitVec 96) : LinkDir :=
  if f ∈ d.sent then d else { d with sent := (f :: d.sent).take 8 }

/-- A failed frame is discarded, its replay from the sender's last 8 frames is requested and counted (R21). -/
def State.linkReplayRequest (s : State) (l : Link) (toC : Bool) : State :=
  (s.count (ctrReplays l)).emit (.linkReplayRequest l toC ((s.link l).dir toC).sent)

/-- The frames held back that follow in sequence from number `n` on, up to the next gap. -/
def inSequence (n : Nat) : List (BitVec 96) → List (BitVec 96)
  | [] => []
  | f :: t => if frameSeq f = n then f :: inSequence ((n + 1) % 16) t else []

/-- A good frame: the one expected is delivered with those held back behind it, up to the next gap; one that follows a
failed frame not yet replayed is held back (R21). -/
def State.linkGood (s : State) (l : Link) (toC : Bool) (f : BitVec 96) : State :=
  let d := (s.link l).dir toC
  if frameSeq f ≠ d.expected then
    s.modLink l fun x => x.setDir toC { d with heldBack := d.heldBack ++ [f] }
  else
    let fs := f :: inSequence ((frameSeq f + 1) % 16) d.heldBack
    let rest := d.heldBack.drop (fs.length - 1)
    let s := s.modLink l fun x => x.setDir toC { d with
      expected := (frameSeq f + fs.length) % 16, heldBack := rest }
    s.each fs fun g s => s.emit (.linkPayload l toC (framePayload g))

/-- A frame in its slot, as sent and as it arrives (R21). The manual gives no frame type codes, so the payload of every
valid frame is delivered, an idle frame's too (DESIGN CHOICE, assumption 7). -/
def State.linkFrame (s : State) (l : Link) (toC : Bool) (sent f : BitVec 96) : State :=
  if !(s.link l).trained then s
  else
    let s := s.modLink l fun x => x.setDir toC ((x.dir toC).keep sent)
    if !linkCrcOk f then s.linkReplayRequest l toC else s.linkGood l toC f

def execLinkFrameReceive (dt : Nat) (l : Link) (toC : Bool) (f : LaneFrame) (s : State) : Res :=
  reply s ((s.elapse dt).linkFrame l toC f.sent f.arrived)

/-- One lane fails; the link goes on with the other (R22). The detail names island, lane and direction (R69). -/
def State.linkLane (s : State) (l : Link) (toC lane1 : Bool) : State :=
  let d := (s.link l).dir toC
  if !(if lane1 then d.lane1 else d.lane0) then s else
  let s := s.modLink l fun x => x.setDir toC (if lane1 then { d with lane1 := false } else { d with lane0 := false })
  s.event 0x0120 0xFF (l.num + (if lane1 then 256 else 0) + if toC then 65536 else 0)

def execLinkLaneFail (dt : Nat) (l : Link) (toC lane1 : Bool) (s : State) : Res :=
  reply s ((s.elapse dt).linkLane l toC lane1)

/-! ### Link loss (R23, R24) -/

/-- The island die takes every cell of its island to its protective state (Table 1.6): traction cells under R176,
other cells off by normal turn-off, solenoid channels de-energised. The cells stay so until their drive has been
acknowledged and armed again. -/
def State.dieProtect (s : State) (l : Link) : State :=
  let s := s.each l.cells fun c s => (s.protectCell c).modCell c fun x => { x with held := true }
  s.when (l == .l) fun s => s.solenoidsOff

/-- The die has lost its link: it protects its cells once per loss. -/
def State.dieLosesLink (s : State) (l : Link) : State := (s.dieProtect l).modLink l fun x => { x with dieLost := true }

/-- A link that is lost comes down and retrains; its drives' acknowledges clear LOST_LATCH (R24, Table 1.14). From now on
the die's copy of TB may run away from TB: by how much is open (R25). -/
def State.linkDown (s : State) (l : Link) (ds : List Drive) : State :=
  let s := (s.modLink l fun x => { x with
    trained := false, training := true, skewCal := false, lost := true, lostDrives := ds, pending := []
    fromC := {}, toC := {}, tbSkew := Config.freeInt s.fresh }).draw
  s.linkLossInterfaces l

/-- Under PoDL alone, and while its supply is off, a link that is down is not lost (R45). -/
def State.linkLive (s : State) : Bool := s.bringup.islandOn && !s.bringup.podlOnly

def execLinkLossIslandDie (dt : Nat) (l : Link) (s : State) : Res :=
  let s := s.elapse dt
  reply s (if s.linkLive && !(s.link l).dieLost then s.dieLosesLink l else s)

/-- Island C declares a link lost (R24): every drive with a cell on the island goes to FAULT, event 0x0121 names them,
their cells on the other islands turn off, and Pyreri is to assert their torque-off pairs. -/
def State.linkLost (s : State) (l : Link) : State :=
  let ds := l.drives.filter fun d => s.ds d != .inhibit
  let s := (s.linkDown l ds).event 0x0121 0xFF (l.num + 256 * Drive.mask ds)
  s.each ds fun d s => (s.faultDrive d 0x0121).modDrv d fun x => { x with tqoLinkDue := true }

def execLinkLossIslandC (dt : Nat) (l : Link) (s : State) : Res :=
  let s := s.elapse dt
  reply s (if s.linkLive && (s.link l).trained then s.linkLost l else s)

/-- P4 to P11 whose MODE is not zero enter CHECK when island L is back (Table 7.2; DEDUCED, assumption 49). -/
def State.islandInterfaces (s : State) : State :=
  s.each (List.finRange 12) fun p s =>
    if 4 ≤ p.val ∧ s.nat (Od.PIF_MODE p) ≠ 0 ∧ s.pifService p = 0 then s.pifCheck p else s

/-- A link is trained (R24, R25, R27): lanes up, the die's copy of TB aligned to within one tick, which of the three values
being open, skew calibrated, latency measured; sequence numbers start again. -/
def State.linkTrained (s : State) (l : Link) (latencyNs : Nat) : State :=
  let s := (s.modLink l fun x => { x with
    trained := true, training := false, skewCal := true, dieLost := false
    tbSkew := (Config.freeNat s.fresh % 3 : Nat) - 1
    fromC := { lane0 := true, lane1 := true }, toC := { lane0 := true, lane1 := true } }).draw
  (s.setN (Od.SYS_LINK_T_LAT_ns + l.num) (min latencyNs 65535)).when (l == .l) fun s => s.islandInterfaces

def execLinkTrainingComplete (dt : Nat) (l : Link) (latencyNs : Nat) (s : State) : Res :=
  let s := s.elapse dt
  reply s (if s.linkLive && !(s.link l).trained then s.linkTrained l latencyNs else s)

/-! ### Apply times (R26, R27) -/

/-- A command's apply time has come by the die's copy of TB; a change of phase shift waits for its switching period (R27). -/
def State.cmdDue (s : State) (l : Link) (p : Nat × LinkCmd) : Bool := decide (p.1 ≤ s.dieTb l) && !p.2.isPhase

/-- Every command of the link whose apply time has come is applied, in the order sent (R26). -/
def State.applyDue (s : State) (l : Link) : State :=
  let due := (s.link l).pending.filter fun p => s.cmdDue l p
  let s := s.modLink l fun x => { x with pending := x.pending.filter fun p => !s.cmdDue l p }
  s.each due fun p s => s.applyLinkCmd p.2

def execApplyTimeReached (dt : Nat) (l : Link) (s : State) : Res := reply s ((s.elapse dt).applyDue l)

/-! ### Memories (R32, R33) -/

def ctrEccCorrected : Counter := ⟨Od.SYS_ECC_CORRECTED, 32, Od.SYS_MEM_STATUS, 0, 1⟩
def ctrEccUncorrected : Counter := ⟨Od.SYS_ECC_UNCORRECTED, 32, Od.SYS_MEM_STATUS, 1, 1⟩

def execEccSingleBitCorrection (dt : Nat) (s : State) : Res := reply s ((s.elapse dt).count ctrEccCorrected)

/-- A pass of the scrubber is due: SCRUB_PERIOD_ms after the last one, counted from the release of reset (R33). -/
def State.scrubDue (s : State) : Bool :=
  decide (1 ≤ s.bringup.step ∧ s.clocks.scrubTb.getD s.bringup.releaseTb + ms (s.nat Od.SYS_SCRUB_PERIOD_ms) ≤ s.tb)

/-- The scrubber starts a pass over all RAM of island C (R33). -/
def State.scrub (s : State) : State :=
  if s.scrubDue then { s with clocks := { s.clocks with scrubTb := some s.tb } } else s

def execScrubPass (dt : Nat) (s : State) : Res := reply s (s.elapse dt).scrub

/-! ### Clock monitors (R36 to R38) -/

/-- Nominal frequency of a domain in Hz by its bit of Table 1.13 (Table 1.10). -/
def domainHz (bit : Nat) : Nat :=
  match bit with
  | 0 => 800000000 | 2 => 800000000 | 4 => 800000000
  | 1 => 100000000 | 3 => 100000000 | 5 => 100000000 | 7 => 100000000
  | 8 => 400000000 | 9 => 200000000 | 10 => 200000000 | 11 => 80000000 | 12 => 66666667
  | 13 => 32768 | 14 => 25000000 | 15 => 2400000000 | _ => 0

/-- Tolerance of a monitor in percent (R37). -/
def monitorTol : ClockMonitor → Nat
  | .domain b => if b.val = 13 ∨ b.val = 14 then 8 else 1
  | .forwarded _ => 8
  | .pyreriSafe => 4

/-- The bit of Table 1.13 a monitor decides; for an island die's check of its forwarded clock, which has none of its own, the
bit of the die's GATE clock (DESIGN CHOICE, assumption 60). -/
def monitorBit : ClockMonitor → Nat
  | .domain b => b.val
  | .forwarded l => 2 * l.num
  | .pyreriSafe => 9

/-- The key of a monitor's run of windows out of tolerance. -/
def monitorId : ClockMonitor → Nat
  | .domain b => b.val | .forwarded l => 16 + l.num | .pyreriSafe => 19

/-- A counted frequency lies within the monitor's tolerance. -/
def inWindow (m : ClockMonitor) (hz : Nat) : Bool :=
  let f := domainHz (monitorBit m)
  decide (f * (100 - monitorTol m) ≤ hz * 100 ∧ hz * 100 ≤ f * (100 + monitorTol m))

/-- The frequency objects of Table 1.12 by bit. -/
def freqKey (bit : Nat) : Option Nat :=
  match bit with
  | 8 => some Od.SYS_FREQ_ENG | 9 => some Od.SYS_FREQ_SAFE | 10 => some Od.SYS_FREQ_FAB | 7 => some Od.SYS_FREQ_CONV
  | 11 => some Od.SYS_FREQ_CAN | 12 => some Od.SYS_FREQ_NET | 13 => some Od.SYS_FREQ_AON | _ => none

/-- The event of a clock fault by bit (Table 1.11). -/
def clockEvent (bit : Nat) : Nat :=
  if bit ≤ 5 then 0x0131 else match bit with
  | 7 => 0x0132 | 8 => 0x0133 | 9 => 0x0134 | 10 => 0x0135 | 11 => 0x0136 | 12 => 0x0137 | 13 => 0x0138 | _ => 0x0130

/-- The island of a domain generated on an island die. -/
def domainLink (bit : Nat) : Link := if bit ≤ 1 then .t else if bit ≤ 3 then .g else .l

/-- TB stops while CONV of island C is in fault, and runs on from where it stood (R38). -/
def ClockSt.stopTimebase (x : ClockSt) (now : Nat) : ClockSt := { x with stopTb := some (x.stopTb.getD now) }
def ClockSt.runTimebase (x : ClockSt) (now : Nat) : ClockSt :=
  match x.stopTb with
  | some t => { x with stopTb := none, lag := x.lag + (now - t) }
  | none => x

/-- The reaction of Table 1.11 to a clock fault of a bit; it is latched, and no clock fault resets the device (R38). -/
def State.clockFault (s : State) (bit hz : Nat) : State :=
  let s := s.setBit Od.SYS_CLK_FAULT_LATCH bit true
  let detail := bit + 256 * (hz / 1000)
  match clockEvent bit with
  | 0x0131 =>
    let l := domainLink bit
    (s.dieProtect l).raise 0x0131 0xFF detail l.drives
  | 0x0136 =>
    let s := { s with clocks := { s.clocks with canOkTb := none } }
    (s.each [0, 1, 2, 3] fun c s => s.canClockOff c).event 0x0136 0xFF detail
  | 0x0137 => s.ethernetDown.event 0x0137 0xFF detail
  | 0x0138 => s.event 0x0138 0xFF detail
  | code =>
    let s := s.when (code = 0x0130) fun s => s.each [Link.t, .g, .l] fun l s =>
      if (s.link l).trained then (s.dieLosesLink l).linkDown l [] else s
    let s := s.when (code = 0x0132) fun s => { s with clocks := s.clocks.stopTimebase s.tb }
    let s := s.when (code = 0x0130 || code = 0x0134) fun s => s.dropSequences
    s.assertFlt.raiseSafe code 0xFF detail Drive.all

/-- A window in tolerance: the monitor's run and fault end; the domain's bit is set unless another monitor of it stands
in fault. -/
def State.clockGood (s : State) (m : ClockMonitor) : State :=
  let bit := monitorBit m
  let was := s.clockFaulty bit
  let s := { s with clocks := { s.clocks with
    outRuns := s.clocks.outRuns.filter fun e => e.1 != monitorId m
    faults := s.clocks.faults.filter fun i => i != monitorId m } }
  if s.clockFaulty bit then s
  else
    let s := s.when (was && bit == 11) fun s => { s with clocks := { s.clocks with canOkTb := some s.tb } }
    let s := s.when (bit == 7) fun s => { s with clocks := s.clocks.runTimebase s.tb }
    s.setBit Od.SYS_CLK_STATUS bit true

/-- A window out of tolerance: the second in a row is the monitor's fault, and clears the domain's bit; after one alone the
bit keeps its value (DESIGN CHOICE, assumption 60). A fault that another monitor of the domain has declared is reacted to
already. -/
def State.clockBad (s : State) (m : ClockMonitor) (hz : Nat) : State :=
  let bit := monitorBit m
  let n : Nat := ((s.clocks.outRuns.find? fun e => e.1 == monitorId m).map fun e => e.2).getD 0 + 1
  let was := s.clockFaulty bit
  let runs := s.clocks.outRuns.filter fun e => e.1 != monitorId m
  let s := { s with clocks := { s.clocks with outRuns := (monitorId m, min n 2) :: runs } }
  if n < 2 then s
  else
    let new : List Nat := monitorId m :: s.clocks.faults.filter fun i => i != monitorId m
    let s := ({ s with clocks := { s.clocks with faults := new } }).setBit Od.SYS_CLK_STATUS bit false
    if was then s else s.clockFault bit hz

/-- A counting window ends (R37): the frequency is recorded, and the monitor decides by its tolerance. -/
def State.clockWindow (s : State) (m : ClockMonitor) (hz : Nat) : State :=
  let bit := monitorBit m
  let s := match freqKey bit with
    | some k => s.setN k hz
    | none => s
  if inWindow m hz then s.clockGood m else s.clockBad m hz

/-- The monitors run from the lock of the root PLL on (Table 2.5). -/
def execClockMonitorWindow (dt : Nat) (m : ClockMonitor) (hz : Nat) (s : State) : Res :=
  let s := s.elapse dt
  reply s (if 3 ≤ s.bringup.step then s.clockWindow m hz else s)

/-- R39: a written 1 clears a latched bit whose domain is in window; other bits stay. -/
def State.clearClockLatch (s : State) (value : Nat) : State :=
  s.setN Od.SYS_CLK_FAULT_LATCH (s.nat Od.SYS_CLK_FAULT_LATCH &&& (0xFFFFFFFF ^^^ (value &&& s.nat Od.SYS_CLK_STATUS)))

def State.writeClkLatch (s : State) (who : Requester) (value : Nat) : State :=
  s.request who Od.SYS_CLK_FAULT_LATCH .operator fun s => .ok (s.clearClockLatch value)

def execClkFaultLatchWrite (dt : Nat) (who : Requester) (value : BitVec 32) (s : State) : Res :=
  reply s ((s.elapse dt).writeClkLatch who value.toNat)

end Sys2Proof.Machine
end

