-- ==== Sys2Proof/Machine/Images.lean ====
section
/-! DEFINITION. Chapter 20: image banks, the update over TFTP and the rollback (R500 to R510). -/
namespace Sys2Proof.Machine

def State.modImg (s : State) (f : ImgSt → ImgSt) : State := { s with img := f s.img }
def State.bank (s : State) (b : Fin 2) : BankSt := s.img.banks.get b
def State.modBank (s : State) (b : Fin 2) (f : BankSt → BankSt) : State :=
  s.modImg fun x => { x with banks := upd x.banks b f }

def otherBank (b : Fin 2) : Fin 2 := if b = 0 then 1 else 0
/-- The bank that is not active, which an update writes (R504). -/
def State.target (s : State) : Fin 2 := otherBank s.img.active

def ctrImg (key bit width : Nat) : Counter := ⟨key, width, Od.IMG_IMG_CNT_STATUS, bit, 0x11⟩

/-- Detail of an image event: bank, UPD_RESULT, FW_VERSION [23:8] (R518). -/
def State.imgEvent (s : State) (code : Nat) (b : Fin 2) : State :=
  s.event code 0xFF (b.val + 256 * s.nat Od.IMG_UPD_RESULT + 65536 * ((s.bank b).version / 256 % 65536))

/-- An update runs: UPD_STATE 1 to 4. -/
def State.updating (s : State) : Bool := 1 ≤ s.nat Od.IMG_UPD_STATE && s.nat Od.IMG_UPD_STATE ≤ 4

/-! ### Flash program pulses (R43, R51, R504) -/

/-- Program pulses start: their number, one after the other, of the flash band's length; while hold-up carries the
electronics none starts, and they are held back (R43). -/
def State.pulses (s : State) (n : Nat) : State :=
  if s.bringup.holdupTb.isSome then s.modImg fun x => { x with pulseHeld := x.pulseHeld + n }
  else s.modImg fun x => { x with pulseTb := s.tb, pulseN := n, pulseUs := flashPulse (s.nat Od.THM_FLASH_BAND) }

/-- No source is left: the pulse in progress completes, those behind it are held back (R43). -/
def State.holdPulses (s : State) : State :=
  s.modImg fun x =>
    let len := us x.pulseUs
    let begun := if len = 0 ∨ s.tb < x.pulseTb then 0 else (s.tb - x.pulseTb) / len + 1
    { x with pulseN := min x.pulseN begun, pulseHeld := x.pulseHeld + (x.pulseN - begun) }

/-- A source is back: the pulses held back start. -/
def State.resumePulses (s : State) : State :=
  if s.img.pulseHeld = 0 then s
  else
    let n := s.img.pulseHeld
    (s.modImg fun x => { x with pulseHeld := 0, markerHeld := none }).pulses n

/-- The end of the pulse in progress at a TB. -/
def State.pulseEnd (s : State) (tb : Nat) : Option Nat :=
  let x := s.img
  let len := us x.pulseUs
  if x.pulseTb ≤ tb ∧ tb < x.pulseTb + x.pulseN * len then some (x.pulseTb + ((tb - x.pulseTb) / len + 1) * len)
  else none

/-! ### Failure and abort (R504, R505) -/

/-- A failure leaves the target bank INVALID and sets UPD_RESULT. -/
def State.updateFail (s : State) (result : Nat) : State :=
  let b := s.target
  let s := (s.modBank b fun _ => {}).modImg fun x => { x with
    progress := false, tid := none, packet := [], resends := 0, marker := false, abort := false }
  let s := (s.setN Od.IMG_UPD_STATE 6).setN Od.IMG_UPD_RESULT result
  (s.count (ctrImg Od.IMG_UPD_FAILS 1 16)).imgEvent 0x1103 b

/-- UPD_CMD 0 from a SERVICE session aborts a running update; in the marker's pulse the pulse completes, the bank is
COMMITTED and UPD_RESULT reads 8 (Table 20.5); with none running it changes nothing. -/
def State.abortUpdate (s : State) : State :=
  if s.img.marker then s.modImg fun x => { x with abort := true }
  else if s.updating then s.updateFail 8 else s

def State.writeUpdateAbort (s : State) (who : Requester) : State :=
  s.request who Od.IMG_UPD_CMD .service fun s => .ok s.abortUpdate

def execUpdateAbort (dt : Nat) (who : Requester) (s : State) : Res := reply s ((s.elapse dt).writeUpdateAbort who)

/-! ### Start (R503, R504) -/

/-- Step 1: marker slots, then the image area of the target bank are erased. -/
def State.updateBegin (s : State) : State :=
  let b := s.target
  let s := (s.modBank b fun _ => {}).modImg fun x => { x with progress := true, tid := none, packet := [], resends := 0 }
  let s := ((s.setN Od.IMG_UPD_STATE 1).setN Od.IMG_UPD_RESULT 0).setN Od.IMG_UPD_BLOCK 0
  (s.setN Od.IMG_UPD_BYTES 0).imgEvent 0x1101 b

def State.updateStartEffect (s : State) : Except Nat State :=
  refuseIf (s.updating || s.nat Od.IMG_TFTP_SERVER == 0 || (s.get Od.IMG_FILE_NAME).toBytes.isEmpty) 0x08000022
    (.ok s.updateBegin)

/-- UPD_CMD 1: in a SERVICE session, and in IMAGE_FAULT without one. -/
def State.writeUpdateStart (s : State) (who : Requester) : State :=
  if s.bringup.imageFault ∧ who.sess.isSome then
    let s := s.touch who
    s.answer who s.updateStartEffect
  else s.request who Od.IMG_UPD_CMD .service State.updateStartEffect

def execUpdateStart (dt : Nat) (who : Requester) (s : State) : Res := reply s ((s.elapse dt).writeUpdateStart who)

/-! ### Transfer (R505) -/

/-- A number as two octets, most significant first (RFC 1350). -/
def be16 (n : Nat) : List Byte := natLe 1 (n / 256) ++ natLe 1 n

/-- "octet" between zero octets ends a read request. -/
def rrq (name : List Byte) : List Byte := be16 1 ++ name ++ [0, 0x6F, 0x63, 0x74, 0x65, 0x74, 0]

/-- A packet to the server, as far as the link carries it. -/
def State.tftpEmit (s : State) (port : Nat) (packet : List Byte) : State :=
  s.sendUdp 47811 (s.nat Od.IMG_TFTP_SERVER) port packet

/-- A packet that is resent until it is answered. -/
def State.tftpSend (s : State) (packet : List Byte) : State :=
  (s.modImg fun x => { x with packet := packet, sentTb := s.tb, resends := 0 }).tftpEmit (s.img.tid.getD 69) packet

/-- Step 2: the erase is complete and the read request is sent. -/
def State.eraseDone (s : State) : State :=
  if s.nat Od.IMG_UPD_STATE = 1 then
    ((s.modBank s.target fun b => { b with state := .erased }).setN Od.IMG_UPD_STATE 2).tftpSend
      (rrq (s.get Od.IMG_FILE_NAME).toBytes)
  else s

def execUpdateEraseComplete (dt : Nat) (s : State) : Res := reply s ((s.elapse dt).eraseDone)

/-- The transfer runs and its port is up. -/
def State.transferring (s : State) : Bool := s.nat Od.IMG_UPD_STATE == 2 && s.sessions.linkUp

/-- A packet of another transfer identifier than the server's. -/
def State.foreignTid (s : State) (tid : Nat) : Bool := s.img.tid.isSome && s.img.tid != some tid

/-- It is answered with ERROR code 5. -/
def State.rejectTid (s : State) (tid : Nat) : State := s.tftpEmit tid (be16 5 ++ be16 5 ++ [0])

/-- The next DATA block is programmed in 256-byte pulses, then acknowledged; a short one ends the transfer. -/
def State.takeBlock (s : State) (tid block : Nat) (data : List Byte) (programOk : Bool) : State :=
  if 6291456 < s.nat Od.IMG_UPD_BYTES + data.length then s.updateFail 4
  else if !programOk then s.updateFail 9
  else
    let b := s.target
    let s := (s.modBank b fun x => { x with state := .writing, image := x.image ++ data }).pulses ((data.length + 255) / 256)
    let s := (s.setN Od.IMG_UPD_BLOCK block).setN Od.IMG_UPD_BYTES (s.nat Od.IMG_UPD_BYTES + data.length)
    let s := (s.modImg fun x => { x with tid := some tid }).tftpSend (be16 4 ++ be16 block)
    if data.length < 512 then s.setN Od.IMG_UPD_STATE 3 else s

/-- A DATA packet. No new pulse starts while hold-up carries the electronics (R43): the block is then not taken. -/
def State.tftpData (s : State) (tid block : Nat) (data : List Byte) (programOk : Bool) : State :=
  if !s.transferring ∨ 512 < data.length then s
  else if s.foreignTid tid then s.rejectTid tid
  else if s.img.tid.isSome ∧ block = s.nat Od.IMG_UPD_BLOCK then s.tftpSend (be16 4 ++ be16 block)
  else if block = s.nat Od.IMG_UPD_BLOCK + 1 ∧ s.bringup.holdupTb.isNone then s.takeBlock tid block data programOk
  else s

def execTftpDataReceive (dt : Nat) (tid block : BitVec 16) (data : List Byte) (programOk : Bool) (s : State) : Res :=
  reply s ((s.elapse dt).ethReceived.tftpData tid.toNat block.toNat data programOk)

def State.tftpError (s : State) (tid : Nat) : State :=
  if !s.transferring then s else if s.foreignTid tid then s.rejectTid tid else s.updateFail 2

def execTftpErrorReceive (dt : Nat) (tid : BitVec 16) (s : State) : Res := reply s ((s.elapse dt).ethReceived.tftpError tid.toNat)

/-- TFTP_TIMEOUT_ms without the next packet: the last one is resent, at most TFTP_RETRIES times. -/
def State.tftpSilence (s : State) : State :=
  if s.nat Od.IMG_UPD_STATE = 2 ∧ s.img.sentTb + ms (s.nat Od.IMG_TFTP_TIMEOUT_ms) ≤ s.tb then
    if s.nat Od.IMG_TFTP_RETRIES ≤ s.img.resends then s.updateFail 3
    else
      (s.modImg fun x => { x with sentTb := s.tb, resends := x.resends + 1 }).tftpEmit (s.img.tid.getD 69) s.img.packet
  else s

def execTftpTimeout (dt : Nat) (s : State) : Res := reply s ((s.elapse dt).tftpSilence)

/-! ### Verification and commit (R500, R501, R504, R506) -/

/-- The header conditions of R506 and R500. -/
def headerOk (image : List Byte) : Bool :=
  decide (64 ≤ image.length) && fieldLe image 0 4 == 0x72000001 && fieldLe image 28 4 == crc32c (image.take 28) &&
    decide (fieldLe image 12 1 ≤ 0x43) && fieldLe image 13 2 == 1 && 64 + fieldLe image 4 4 == image.length

/-- The check of R502: HDR_ID, HDR_CRC and the payload CRC over what LENGTH names. The factory's image, which is not printed,
passes. -/
def imagePasses (image : List Byte) : Bool :=
  image.isEmpty || (decide (64 ≤ image.length) && fieldLe image 0 4 == 0x72000001 &&
    fieldLe image 28 4 == crc32c (image.take 28) && 64 + fieldLe image 4 4 == image.length &&
    fieldLe image 16 4 == crc32c (image.drop 64))

/-- UPD_RESULT of the checks of step 4: 7 header, 5 payload CRC, 6 signature; none when all pass. -/
def verifyResult (image : List Byte) (readOk : Bool) : Option Nat :=
  if !headerOk image then some 7
  else if !readOk || fieldLe image 16 4 != crc32c (image.drop 64) then some 5
  else if (image.drop 32).take 32 != hmacSha256 Config.imageKey (image.take 32 ++ image.drop 64) then some 6
  else none

/-- A bank with a valid marker of generation `gen`. -/
def BankSt.commit (x : BankSt) (gen : Nat) : BankSt :=
  { x with state := .committed, version := fieldLe x.image 8 4, gen := gen, markers := x.markers + 1 }

/-- Step 5: the checks have passed, and the pulse of the marker begins. -/
def State.markerBegin (s : State) : State :=
  let s := (s.modBank s.target fun x => { x with state := .verified }).setN Od.IMG_UPD_STATE 4
  (s.modImg fun x => { x with marker := true }).pulses 1

/-- Step 6: the marker of the next generation, read back, makes the bank COMMITTED; UPD_RESULT is 8 where UPD_CMD 0 met its
pulse (Table 20.5). -/
def State.commitImage (s : State) : State :=
  let b := s.target
  let result := if s.img.abort then 8 else 1
  let s := s.modBank b fun x => x.commit ((s.bank s.img.active).gen + 1)
  let s := s.modImg fun x => { x with progress := false, tid := none, packet := [], marker := false, abort := false }
  (((s.setN Od.IMG_UPD_STATE 5).setN Od.IMG_UPD_RESULT result).count (ctrImg Od.IMG_UPDATES 0 32)).imgEvent 0x1102 b

/-- The read-back of the payload succeeds or not; after the marker's pulse its own does. While hold-up carries the electronics
no marker pulse starts (R43), and the verification is not complete. -/
def State.verified (s : State) (readOk markerOk : Bool) : State :=
  match s.nat Od.IMG_UPD_STATE with
  | 3 =>
    if s.bringup.holdupTb.isSome then s
    else match verifyResult (s.bank s.target).image readOk with
      | some r => s.updateFail r
      | none => s.markerBegin
  | 4 => if (s.pulseEnd s.tb).isSome then s else if markerOk then s.commitImage else s.updateFail 9
  | _ => s

def execUpdateVerifyComplete (dt : Nat) (readOk markerOk : Bool) (s : State) : Res :=
  reply s ((s.elapse dt).verified readOk markerOk)

/-! ### Rollback (R509) -/

/-- UPD_CMD 2: the other bank reads back or not, and passes its check (R502). -/
def State.rollbackEffect (otherOk : Bool) (s : State) : Except Nat State :=
  let b := s.target
  refuseIf (s.updating || (s.bank b).state != .committed || !otherOk || !imagePasses (s.bank b).image ||
    decide (64 ≤ (s.bank b).markers)) 0x08000022 <|
  let gen := (s.bank s.img.active).gen + 1
  let old := (s.bank b).gen
  let s := (s.modBank b fun x => { x with gen := gen, markers := x.markers + 1 }).pulses 1
  let s := if s.img.pulseHeld = 0 then s else s.modImg fun x => { x with markerHeld := some old }
  .ok ((s.count (ctrImg Od.IMG_ROLLBACKS 2 16)).imgEvent 0x1107 b)

def State.writeRollback (s : State) (who : Requester) (otherOk : Bool) : State :=
  s.request who Od.IMG_UPD_CMD .service (State.rollbackEffect otherOk)

def execRollbackRequest (dt : Nat) (who : Requester) (otherOk : Bool) (s : State) : Res :=
  reply s ((s.elapse dt).writeRollback who otherOk)

end Sys2Proof.Machine
end

