-- ==== Sys2Proof/Machine/Capture.lean ====
section
/-! DEFINITION. Chapter 20: capture to memory and streaming (R511 to R514). -/
namespace Sys2Proof.Machine

def State.modCap (s : State) (f : CapSt → CapSt) : State := { s with cap := f s.cap }
def ctrCap (key bit : Nat) : Counter := ⟨key, 32, Od.CAP_CAP_CNT_STATUS, bit, 0x11⟩

/-- CAP_STATE (Table 20.8): 0 IDLE, 1 ARMED, 2 TRIGGERED, 3 DONE, 4 STREAMING, 5 INVALID. -/
def State.capState (s : State) : Nat := s.nat Od.CAP_CAP_STATE

/-- Rows that the memory holds for a number of channels (R511). -/
def capCapacity (channels : Nat) : Nat := 8388608 / (4 * channels)

/-- The captured values become readable: ROWS_STORED and FIRST_TB. -/
def State.capReport (s : State) : State :=
  (s.setN Od.CAP_ROWS_STORED s.cap.rows.length).setN Od.CAP_FIRST_TB ((s.cap.rows.getLast?.map (·.1)).getD 0)

def State.capDone (s : State) : State := (s.setN Od.CAP_CAP_STATE 3).capReport

/-- The trigger (R512): what precedes it is kept up to PRE_ROWS rows, and POST_ROWS rows follow. -/
def State.trigger (s : State) : State :=
  if s.capState ≠ 1 then s
  else
    let s := ((s.setN Od.CAP_CAP_STATE 2).setN Od.CAP_TRIG_TB s.tb).count (ctrCap Od.CAP_CAPTURES 1)
    let s := s.modCap fun x => { x with rows := x.rows.take (s.nat Od.CAP_PRE_ROWS), postLeft := s.nat Od.CAP_POST_ROWS }
    let s := s.event 0x1108 0xFF (s.nat Od.CAP_CAPTURES)
    if s.cap.postLeft = 0 then s.capDone else s

/-- Modes 4 and 5: the logging of an event (R512). -/
def State.triggerBy (s : State) (e : LogEntry) : State :=
  let mode := s.nat Od.CAP_TRIG_MODE
  let code := s.nat Od.CAP_TRIG_CODE
  if (mode = 4 ∧ e.code = code) ∨ (mode = 5 ∧ code ≤ e.sev.num) then s.trigger else s

/-! ### Commands (R512, R514) -/

/-- CAP_CMD 1 arms the capture, or starts streaming in CAP_MODE 1; the previous capture is discarded. -/
def State.capArm (s : State) : State :=
  let s := s.modCap fun x => { x with rows := [], postLeft := 0, fill := [] }
  (((s.setN Od.CAP_CAP_STATE (if s.nat Od.CAP_CAP_MODE = 1 then 4 else 1)).setN Od.CAP_ROWS_STORED 0).setN
    Od.CAP_FIRST_TB 0).setN Od.CAP_TRIG_TB 0

/-- CAP_CMD 3: a capture keeps the stored rows, streaming ends (the states it ends in: DEDUCED, assumption 47). -/
def State.capStop (s : State) : State :=
  match s.capState with
  | 1 => s.capDone
  | 2 => s.capDone
  | 4 => (s.setN Od.CAP_CAP_STATE 0).modCap fun x => { x with fill := [] }
  | _ => s

def State.writeCapCmd (s : State) (who : Requester) (v : Nat) : State :=
  s.request who Od.CAP_CAP_CMD .operator fun s =>
    match v with
    | 1 => .ok s.capArm
    | 2 => .ok s.trigger
    | 3 => .ok s.capStop
    | _ => .error 0x06090030

def execCaptureArm (dt : Nat) (who : Requester) (s : State) : Res := reply s ((s.elapse dt).writeCapCmd who 1)
def execCaptureForce (dt : Nat) (who : Requester) (s : State) : Res := reply s ((s.elapse dt).writeCapCmd who 2)
def execCaptureStop (dt : Nat) (who : Requester) (s : State) : Res := reply s ((s.elapse dt).writeCapCmd who 3)

/-! ### Rows (R511, R512, R514) -/

/-- A row: the value of each channel's source, 0x7FC00000 for an invalid one. -/
def State.capRow (s : State) : List (BitVec 32) :=
  (List.range (s.nat Od.CAP_CAP_CHANNELS)).map fun i =>
    match s.fbValue (s.nat (Od.CAP_CH_SRC i)) with
    | some v => f32Encode v
    | none => 0x7FC00000

/-- Channel TRIG_CH crosses TRIG_LEVEL between two rows; an invalid value crosses nothing. -/
def State.crosses (s : State) (old new : List (BitVec 32)) : Bool :=
  let ch := s.nat Od.CAP_TRIG_CH
  let level := s.num Od.CAP_TRIG_LEVEL
  match f32Decode (old.getD ch 0x7FC00000), f32Decode (new.getD ch 0x7FC00000) with
  | some a, some b =>
    let up := decide (a < level ∧ level ≤ b)
    let down := decide (level < a ∧ b ≤ level)
    match s.nat Od.CAP_TRIG_MODE with
    | 1 => up
    | 2 => down
    | 3 => up || down
    | _ => false
  | _, _ => false

/-- A row of a memory capture, stored circularly; TRIGGERED ends after POST_ROWS rows. -/
def State.storeRow (s : State) : State :=
  let row := s.capRow
  let hit := match s.cap.rows with
    | (_, old) :: _ => s.crosses old row
    | [] => false
  let s := s.modCap fun x => { x with
    rows := ((s.tb, row) :: x.rows).take (capCapacity (s.nat Od.CAP_CAP_CHANNELS)), postLeft := x.postLeft - 1 }
  if s.capState = 1 then (if hit then s.trigger else s)
  else if s.cap.postLeft = 0 then s.capDone else s

def rowBytes (row : List (BitVec 32)) : List Byte := row.flatMap fun w => natLe 4 w.toNat

/-- A datagram of rows (R514); one that the port cannot take is dropped and counted, logged first in each second. -/
def State.streamSend (s : State) (rows : List (Nat × List (BitVec 32))) (portTakes : Bool) : State :=
  let seq := s.nat Od.CAP_STREAM_SEQ
  let data := natLe 4 seq ++ natLe 8 ((rows.head?.map (·.1)).getD 0) ++ natLe 1 (s.nat Od.CAP_CAP_CHANNELS) ++ [0] ++
    natLe 2 rows.length ++ rows.flatMap fun r => rowBytes r.2
  let s := s.setN Od.CAP_STREAM_SEQ ((seq + 1) % 2 ^ 32)
  if portTakes && s.sessions.linkUp then s.sendUdp 47813 (s.nat Od.CAP_STREAM_IP) (s.nat Od.CAP_STREAM_PORT) data
  else
    let s := s.count (ctrCap Od.CAP_STREAM_DROPS 0)
    if s.cap.dropSec = some (s.tb / 100000000) then s
    else (s.modCap fun x => { x with dropSec := some (s.tb / 100000000) }).event 0x1109 0xFF (s.nat Od.CAP_STREAM_DROPS)

def State.streamRow (s : State) (portTakes : Bool) : State :=
  let rows := s.cap.fill ++ [(s.tb, s.capRow)]
  if 1024 / (4 * s.nat Od.CAP_CAP_CHANNELS) ≤ rows.length then
    (s.modCap fun x => { x with fill := [] }).streamSend rows portTakes
  else s.modCap fun x => { x with fill := rows }

/-- At TB multiples of CAP_PERIOD_us. -/
def State.captureRow (s : State) (portTakes : Bool) : State :=
  if s.tb % us (s.nat Od.CAP_CAP_PERIOD_us) ≠ 0 ∨ s.cap.rowTb = some s.tb then s
  else
    let s := s.modCap fun x => { x with rowTb := some s.tb }
    match s.capState with
  | 1 => s.storeRow
  | 2 => s.storeRow
  | 4 => s.streamRow portTakes
  | _ => s

def execCaptureRow (dt : Nat) (portTakes : Bool) (s : State) : Res := reply s ((s.elapse dt).captureRow portTakes)

/-! ### Reading (R513) -/

/-- READ_DATA of 4 to 1,024 octets at READ_OFFSET, oldest row first; READ_OFFSET advances by the octets read. -/
def State.readCapture (who : Requester) (len : Nat) (s : State) : Except Nat (State × List Byte) :=
  let off := (s.sessOf who).readOffset
  let total := 4 * s.nat Od.CAP_CAP_CHANNELS * s.nat Od.CAP_ROWS_STORED
  if len < 4 ∨ 1024 < len ∨ len % 4 ≠ 0 then .error 0x06070010
  else if off % 4 ≠ 0 ∨ total ≤ off then .error 0x08000024
  else
    let data := ((s.cap.rows.reverse.flatMap fun r => rowBytes r.2).drop off).take (min len (total - off))
    .ok (s.modSess who fun x => { x with readOffset := off + data.length }, data)

def execCaptureReadData (dt : Nat) (who : Requester) (len : Nat) (s : State) : Res :=
  reply s ((s.elapse dt).readRequest who Od.CAP_READ_DATA (State.readCapture who len))

end Sys2Proof.Machine
end

