-- ==== Sys2Proof/Machine/Log.lean ====
section
/-! DEFINITION. Chapter 19: the event log, EMCY frames, fault occurrence counters, operating times and the heartbeat (R473,
R488 to R490, R494). -/
namespace Sys2Proof.Machine

def State.modLog (s : State) (f : LogSt → LogSt) : State := { s with log := f s.log }

def ctrEmcySuppressed : Counter := ⟨Od.LOG_EMCY_SUPPRESSED, 32, Od.LOG_LOG_STATUS, 1, 0x10⟩

/-! ### Error register (Table 19.1) -/

/-- Object 0x1001: a drive in FAULT or INHIBIT; a CAN channel error passive or bus-off, or a safe frame connection in
use that is not in RUN; FLT_A or FLT_B asserted. -/
def State.errorRegister (s : State) : Nat :=
  let drive := Drive.all.any fun d => s.ds d == .fault || s.ds d == .inhibit
  let chan := (List.finRange 4).any fun c => (s.chan c).busOff || (s.chan c).atLevel 128
  let conn := (List.range 16).any fun k => s.nat (Od.HSF_CONN_ROLE k) != 0 && s.nat (Od.HSF_CONN_STATE k) != 2
  (if drive then 1 else 0) + (if chan || conn then 16 else 0) + (if s.pyrBit 3 || s.pyrBit 4 then 128 else 0)

/-! ### The ring (R488) -/

/-- An entry that no reader has acknowledged is overwritten: counted in LOST, the first in each second is logged. -/
def State.entryLost (s : State) (number : Nat) : State :=
  let s := s.modLog fun l => if l.lost < 65535 then { l with lost := l.lost + 1 } else { l with lostOvf := true }
  if s.log.overSec = some (s.tb / 100000000) then s
  else (s.modLog fun l => { l with overSec := some (s.tb / 100000000) }).event 0x100A 0xFF (number % 2 ^ 32)

/-- Entry into the ring of 256, numbered from 1. -/
def State.enterRing (s : State) (e : LogEntry) : State :=
  let old := s.log.ring
  let n := s.log.written + 1
  let s := s.modLog fun l => { l with
    written := n, ring := ((n, e) :: old).take 256
    newestWarn := if 1 ≤ e.sev.num then some (e.code, e.sev, e.source) else l.newestWarn }
  match old.getLast? with
  | some (k, _) => if 256 ≤ old.length ∧ s.nat Od.LOG_LOG_ACKED < k then s.entryLost k else s
  | none => s

/-! ### EMCY (R489) -/

def State.emcyFrame (s : State) (e : LogEntry) : List Byte :=
  natLe 2 (0xFF00 + e.sev.num) ++ natLe 1 s.errorRegister ++ natLe 2 e.code ++ natLe 1 e.source ++ natLe 2 e.detail

/-- A logged event of EMCY_MIN_SEV or above is mirrored; up to 16 frames wait. -/
def State.mirror (s : State) (e : LogEntry) : State :=
  if e.sev.num < s.nat Od.LOG_EMCY_MIN_SEV then s
  else if s.log.emcy.length < 16 then s.modLog fun l => { l with emcy := l.emcy ++ [s.emcyFrame e] }
  else s.count ctrEmcySuppressed

/-- The oldest frame goes to slot 8 of CAN-D when the inhibit time of 0x1015 has passed. -/
def State.sendEmcy (s : State) : State :=
  let due := match s.log.emcyTb with
    | some t => decide (t + us (100 * s.nat Od.COM_INHIBIT_TIME_EMCY) ≤ s.tb)
    | none => true
  match s.log.emcy with
  | f :: rest =>
    if due && !s.offCause 3 && (s.slot 3 8).msg.isNone then
      (s.modLog fun l => { l with emcy := rest, emcyTb := some s.tb }).slotWrite 3 8
        ⟨0x80 + s.sessions.nodeId, false, false, false, f⟩ 0
    else s
  | [] => s

def execEmcySend (dt : Nat) (s : State) : Res := reply s ((s.elapse dt).sendEmcy)

/-- Every 10 µs the log buffer enters one event into the ring (R488); there it can assert ATTN (R351), is mirrored as an
EMCY frame and can trigger a capture. -/
def State.logStep (s : State) : State :=
  match s.log.buffer with
  | [] => s
  | e :: rest =>
    if s.logReady ∧ (s.log.stepTb.all fun t => decide (t + us 10 ≤ s.tb)) then
      ((((s.modLog fun l => { l with buffer := rest, stepTb := some s.tb }).enterRing e).attention e).mirror e).triggerBy e
    else s

def execEventLogEntry (dt : Nat) (s : State) : Res := reply s ((s.elapse dt).logStep)

/-! ### Reading and clearing (R488, R490) -/

/-- The 16 octets of an entry (R488). -/
def entryBytes (e : LogEntry) : List Byte :=
  natLe 8 e.tb ++ natLe 2 e.code ++ natLe 1 e.source ++ natLe 1 e.sev.num ++ natLe 4 e.detail

/-- The entry of a number. -/
def State.logEntry (s : State) (n : Nat) : Except Nat (List Byte) :=
  match s.log.ring.find? fun x => x.1 == n with
  | some (_, e) => .ok (entryBytes e)
  | none => .error 0x08000024

/-- LOG_NEXT: the entry at LOG_SEL, which then advances by 1. -/
def State.logNext (who : Requester) (s : State) : Except Nat (State × List Byte) :=
  match s.logEntry (s.sessOf who).logSel with
  | .ok b => .ok (s.modSess who fun x => { x with logSel := x.logSel + 1 }, b)
  | .error c => .error c

def execLogNextRead (dt : Nat) (who : Requester) (s : State) : Res :=
  reply s ((s.elapse dt).readRequest who Od.LOG_LOG_NEXT (State.logNext who))

/-- LOG_CLEAR 1 in a SERVICE session. -/
def State.writeLogClear (s : State) (who : Requester) (v : Nat) : State :=
  s.request who Od.LOG_LOG_CLEAR .service fun s =>
    refuseIf (v != 1) 0x06090030 <|
    .ok (((s.setN Od.LOG_LOG_ACKED s.log.written).modLog fun l => { l with ring := [] }).event 0x100B (s.codeOf who) 0)

def execLogClearWrite (dt : Nat) (who : Requester) (s : State) : Res := reply s ((s.elapse dt).writeLogClear who 1)

/-- FAULT_OCC_CLEAR 1 in a SERVICE session. -/
def State.writeOccClear (s : State) (who : Requester) (v : Nat) : State :=
  s.request who Od.CNT_FAULT_OCC_CLEAR .service fun s =>
    refuseIf (v != 1) 0x06090030 (.ok ((s.modLog fun l => { l with faultOcc := [], occOvf := false }).event 0x100B (s.codeOf who) 0))

def execFaultOccClearWrite (dt : Nat) (who : Requester) (s : State) : Res := reply s ((s.elapse dt).writeOccClear who 1)

/-! ### Operating times (R494), heartbeat (Table 19.1) -/

def State.operatingTime (s : State) : Nat := s.log.opTicks / 100000000
def State.activeTime (s : State) : Nat := s.log.actTicks / 100000000

/-- Every 600 s both times go to the parameter store. -/
def State.saveTimes (s : State) : State :=
  if s.dictUp ∧ s.log.timeTb + sec 600 ≤ s.tb then
    State.modLog { s with store := { s.store with operatingTime := s.operatingTime, activeTime := s.activeTime } }
      fun l => { l with timeTb := s.tb }
  else s

def execOperatingTimeSave (dt : Nat) (s : State) : Res := reply s ((s.elapse dt).saveTimes)

/-- The heartbeat frame through CAN-D's FIFO. -/
def State.heartbeat (s : State) : State :=
  let t := s.nat Od.COM_HEARTBEAT_TIME
  if s.dictUp ∧ t ≠ 0 ∧ s.log.beatTb + ms t ≤ s.tb then
    let s := s.modLog fun l => { l with beatTb := s.tb }
    match s.fifoWrite 3 ⟨0x700 + s.sessions.nodeId, false, false, false, [5]⟩ with
    | some t => t
    | none => s
  else s

def execProducerHeartbeat (dt : Nat) (s : State) : Res := reply s ((s.elapse dt).heartbeat)

end Sys2Proof.Machine
end

