-- ==== Sys2Proof/Machine/Supply.lean ====
section
/-! DEFINITION. Chapter 02: the control supply's sources, hold-up and the power stage's supply (R40 to R47, R68, R69). -/
namespace Sys2Proof.Machine

def State.modBringup (s : State) (f : BringupSt → BringupSt) : State := { s with bringup := f s.bringup }

def ctrSourceChanges : Counter := ⟨Od.SUP_SOURCE_CHANGES, 32, Od.SUP_SUPPLY_STATUS, 8, 1⟩
def ctrHoldup : Counter := ⟨Od.SUP_HOLDUP_EVENTS, 32, Od.SUP_SUPPLY_STATUS, 9, 1⟩

/-! ### Sources (R40, Table 2.1) -/

/-- Flyback, PoDL sink and LV input path are inhibited by the always-on domain (R349, R350). -/
def State.inhibited (s : State) : Bool := s.path.sysTb.isSome || s.path.peat

/-- A source of priority 1 or 2 is valid. -/
def State.powerOk (s : State) : Bool := !s.inhibited && (s.bringup.lvOk || s.bringup.flyOk)

/-- The valid source of the highest priority: 1 LV input, 2 flyback, 3 PoDL, 0 none. -/
def State.bestSource (s : State) : Nat :=
  if s.inhibited then 0 else if s.bringup.lvOk then 1 else if s.bringup.flyOk then 2 else if s.bringup.podlOk then 3 else 0

/-- LV_OVP: set above 36.5 V; the input reconnects below 35.5 V. -/
def lvOverNow (ovp : Bool) (v : Rat) : Bool := if ovp then decide (71 / 2 ≤ v) else decide (73 / 2 < v)

/-- Validity of the LV input from a reading. -/
def lvValidNow (ok ovp : Bool) (v : Rat) : Bool :=
  if ok then decide (17 / 2 ≤ v ∧ v ≤ 73 / 2)
  else decide (9 ≤ v) && (if ovp then decide (v < 71 / 2) else decide (v ≤ 36))

/-- Validity of the flyback from the DC link. -/
def flyValidNow (ok : Bool) (vdc : Rat) : Bool := if ok then decide (330 ≤ vdc) else decide (350 < vdc)

/-- SUPPLY_STATUS [7:0] (Table 2.11). -/
def State.showSupply (s : State) : State :=
  let k := Od.SUP_SUPPLY_STATUS
  let b := s.bringup
  let s := ((s.setBit k 0 b.lvOk).setBit k 1 b.flyOk).setBit k 2 b.podlOk
  (((s.setBit k 4 b.islandOn).setBit k 5 b.islandOn).setBit k 6 b.islandOn).setBit k 7 b.podlOnly

/-- ACTIVE_SOURCE follows the sources; a change in operation is counted and logged. -/
def State.followSource (s : State) : State :=
  let old := s.nat Od.SUP_ACTIVE_SOURCE
  let new := s.bestSource
  if old = new then s
  else
    let s := s.setN Od.SUP_ACTIVE_SOURCE new
    if s.bringup.step = 0 then s else (s.count ctrSourceChanges).event 0x0102 0xFF (old + 256 * new)

/-- LV input lost or over-voltage, with V_LV_IN in 10 mV. -/
def State.noteLvLoss (s : State) (lost : Bool) : State :=
  s.when (lost && s.bringup.step != 0) fun s => s.event 0x0103 0xFF (cent (s.num Od.SUP_V_LV_IN))

/-- The battery feed of the always-on domain: present from 4.5 V rising, absent below 4.0 V falling (R48). -/
def feedNow (ok : Bool) (v : Rat) : Bool := if ok then decide (4 ≤ v) else decide (9 / 2 ≤ v)

def State.readFeed (s : State) (v : Rat) : State := s.modBringup fun b => { b with batFeed := feedNow b.batFeed v }

/-- What the PoDL sink may draw at the module, in W: the power of the control island, but 0.5 W while a source of priority 1
or 2 is valid; it keeps its maintain-power signature then, so the PSE keeps the pair powered (R41, Table 2.1). -/
def State.podlBudget (s : State) : Rat := if s.powerOk then 1 / 2 else 8

/-- P_CTRL: measured, and open, within what the source in use may give. -/
def State.drawnPower (s : State) (q : Rat) : Rat :=
  if s.nat Od.SUP_ACTIVE_SOURCE = 3 then clampQ 0 s.podlBudget q else max 0 q

/-- A measurement at one source. -/
def State.readSupply (s : State) : SupplyReading → State
  | .lv v =>
    let ok := s.bringup.lvOk
    let ovp := s.bit Od.SUP_SUPPLY_STATUS 3
    let ok' := lvValidNow ok ovp v
    let ovp' := lvOverNow ovp v
    let s := ((s.setQ Od.SUP_V_LV_IN v).setBit Od.SUP_SUPPLY_STATUS 3 ovp').modBringup fun b => { b with lvOk := ok' }
    s.noteLvLoss ((ok && !ok') || (ovp' && !ovp))
  | .flyback vdc => s.modBringup fun b => { b with flyOk := flyValidNow b.flyOk vdc }
  | .podl powered v =>
    let s := s.modPath fun p => { p with podlTb := if 20 < v then some (p.podlTb.getD s.tb) else none }
    (s.setQ Od.SUP_V_PODL v).modBringup fun b => { b with podlOk := powered }
  | .battery v => s.readFeed v

/-! ### Interruptions (R43) -/

/-- The starts of an interruption of all sources, and of those of priority 1 and 2, are kept; with no source left, program
pulses not yet started are held (R43). -/
def State.noteInterruption (s : State) : State :=
  let s := if s.bestSource = 0 then s.holdPulses else s
  s.modBringup fun b => { b with
    holdupTb := if s.bestSource = 0 then some (b.holdupTb.getD s.tb) else b.holdupTb
    powerLostTb := if s.powerOk then b.powerLostTb else some (b.powerLostTb.getD s.tb) }

/-- A bridged interruption is counted and logged with its duration in µs. -/
def State.bridged (s : State) (t0 : Nat) : State :=
  if s.bringup.step = 0 then s else (s.count ctrHoldup).event 0x0105 0xFF ((s.tb - t0) / 100)

/-- Start of the interruption that ends now: of all sources, or of the power stage's while it is still supplied. -/
def State.endedInterruption (s : State) : Option Nat :=
  match s.bringup.holdupTb with
  | some t => if s.bestSource = 0 then none else some t
  | none => match s.bringup.powerLostTb with
    | some t => if s.powerOk ∧ s.bringup.islandOn ∧ s.bringup.stageStopTb = none then some t else none
    | none => none

/-- A source is back: an interruption that ended before its hold-up is bridged. -/
def State.endInterruption (s : State) : State :=
  let s := match s.endedInterruption with
    | some t => s.bridged t
    | none => s
  let s := s.modBringup fun b => { b with
    holdupTb := if s.bestSource = 0 then b.holdupTb else none
    powerLostTb := if s.powerOk then none else b.powerLostTb }
  if s.bringup.holdupTb.isNone then s.resumePulses else s

/-! ### The power stage's supply (R45 to R47) -/

/-- Engines of a range of numbers start, or halt with the instances in their queues. -/
def State.startEngines (s : State) (lo n : Nat) : State :=
  let s := s.each (List.finRange 24) fun e s =>
    if lo ≤ e.val ∧ e.val < lo + n ∧ (s.eng e).state = .halted then s.modEng e fun x => { x with state := .live } else s
  s.each hardTasks fun k s =>
    if s.isLive (s.task k).queue then s
    else if s.isLive (taskHome k).1 then s.modTask k fun x => { x with queue := (taskHome k).1 } else s

def State.haltEngines (s : State) (lo n : Nat) : State :=
  let s := s.each (List.finRange 24) fun e s =>
    if lo ≤ e.val ∧ e.val < lo + n ∧ engInService (s.eng e) then
      s.modEng e fun x => { x with state := .halted, running := none, slices := 0 }
    else s
  s.each (List.finRange 59) fun k s =>
    let q := (s.task k).queue
    if lo ≤ q ∧ q < lo + n then s.modTask k fun x => { x with waiting := none } else s

/-- GC0 to GC2 stand still without their islands' supplies: results read 0 and are marked invalid (R112). -/
def State.stageSequencesOff (s : State) : State :=
  s.each [0, 1, 2, 3, 4, 5] fun n s =>
    let s := (s.seqAbandon n).setBit (Od.SQ_SQ_STATUS n) 4 true
    s.each (List.range 32) fun i s => s.setN (Od.SQ_RESULT n i) 0

/-- Running on PoDL alone begins (R45, R46). -/
def State.enterPodlOnly (s : State) : State :=
  if 7 ≤ s.bringup.step ∧ ¬ s.bringup.islandOn ∧ ¬ s.bringup.podlOnly ∧ s.bestSource = 3 then
    let s := s.modBringup fun b => { b with podlOnly := true }
    let s := (s.haltEngines 8 16).recomputeBounds
    (s.stageSequencesOff).event 0x0104 0xFF (cent (s.num Od.SUP_V_PODL))
  else s

/-- The island-die supplies come up, E08 to E23 start and the links train (R47, step 8 of Table 2.5). -/
def State.powerReturn (s : State) : State :=
  if 7 ≤ s.bringup.step ∧ ¬ s.bringup.islandOn ∧ s.powerOk then
    let s := s.modBringup fun b => { b with podlOnly := false, islandOn := true, step := max b.step 8 }
    let s := s.each [Link.t, .g, .l] fun l s => s.modLink l fun x => { x with training := true }
    (s.startEngines 8 16).recomputeBounds
  else s

/-- What a reading leads to: the source, interruptions, the power stage. -/
def State.settleSupply (s : State) : State :=
  s.followSource.noteInterruption.endInterruption.powerReturn.enterPodlOnly.showSupply

def State.supplyReading (s : State) (r : SupplyReading) : State := (s.readSupply r).settleSupply

def execSupplySourceChange (dt : Nat) (r : SupplyReading) (s : State) : Res := reply s ((s.elapse dt).supplyReading r)
def execHoldupInterruptionBridged (dt : Nat) (r : SupplyReading) (s : State) : Res := reply s ((s.elapse dt).supplyReading r)
def execPowerStageSupplyReturn (dt : Nat) (r : SupplyReading) (s : State) : Res := reply s ((s.elapse dt).supplyReading r)

/-- The last source becomes invalid: hold-up carries the electronics; no new program pulse starts (R43). -/
def State.allInvalid (s : State) : State :=
  let lost := s.bringup.lvOk
  let s := s.modBringup fun b => { b with lvOk := false, flyOk := false, podlOk := false }
  (s.noteLvLoss lost).settleSupply

def execAllSourcesInvalid (dt : Nat) (s : State) : Res := reply s ((s.elapse dt).allInvalid)

/-- No source of priority 1 or 2 has been valid for 5 ms: every drive stops as on loss of its links, without FAULT and
without event 0x0121 (R47). The torque-off pairs of R24 belong to that FAULT and are not asserted (DEDUCED,
assumption 48). -/
def State.stageLoss (s : State) : State :=
  let s := s.each [Link.t, .g, .l] fun l s =>
    (s.dieProtect l).modLink l fun x => { x with
      trained := false, skewCal := false, pending := [], fromC := {}, toC := {} }
  s.modBringup fun b => { b with stageStopTb := some s.tb }

/-- The 5 ms of R47 have passed. -/
def State.stageLossDue (s : State) : Bool :=
  s.bringup.islandOn && s.bringup.stageStopTb.isNone && !s.powerOk &&
    (match s.bringup.powerLostTb with | some t => decide (t + ms 5 ≤ s.tb) | none => false)

def execPowerStageSupplyLoss (dt : Nat) (s : State) : Res :=
  let s := s.elapse dt
  reply s (if s.stageLossDue then s.stageLoss else s)

/-- The island-die supplies go: every gate off, the drives UNAVAILABLE, E08 to E23 halted, the checks of Table 2.6 to be
made again (R45 to R47). -/
def State.removeIslands (s : State) : State :=
  let s := s.each Drive.all fun d s => (s.goto d .unavailable 0xFF).modDrv d fun x => { x with checks := false }
  let s := s.each (List.finRange 15) fun c s => s.offCell c
  let s := s.solenoidsOff.haltRecovery
  let s := s.modBringup fun b => { b with islandOn := false, stageStopTb := none }
  let s := s.each [Link.t, .g, .l] fun l s => s.modLink l fun _ => {}
  let s := s.linkLossInterfaces .l
  let s := { s with gbx := { s.gbx with recovered := false } }
  let s := s.modDcl fun x => { x with checkOk := false }
  (s.stageSequencesOff.haltEngines 8 16).recomputeBounds

/-- At most 1 ms after the stop; a source of priority 1 or 2 that is back by then starts the power stage again. -/
def State.islandRemoval (s : State) : State :=
  if s.bringup.stageStopTb.isSome then s.removeIslands.settleSupply else s

def execIslandSupplyRemoval (dt : Nat) (s : State) : Res := reply s ((s.elapse dt).islandRemoval)

end Sys2Proof.Machine
end

