-- ==== Sys2Proof/Machine/Reset.lean ====
section
/-! DEFINITION. Chapter 02: resets, what they keep, bring-up, the drive reset, and the service button and Peat mode that
reset the module (R44, R48 to R69, R349, R350, R352, R502, R503, R507, R508, R538). -/
namespace Sys2Proof.Machine

/-! ### What a device reset keeps (R57, R8) -/

/-- Parameters of the parameter store that no signature covers: retained or "kept", or in force only from the next device
reset on (R90, R185, R246, R462, R494 to R497). -/
def storedKeys : List Nat :=
  ((List.range 6).flatMap fun d => [Od.OWN_OWNER_DEFAULT d, Od.OWN_LOSS_ACTION d]) ++
    ((List.range 15).map fun c => Od.CELL_SC_LOCKOUT c) ++ ((List.range 8).map fun n => Od.OBS_SHUNT_FAILED n) ++
    ((List.range 59).map fun k => Od.TASK_PERIOD_us k) ++
    [Od.SVC_NODE_ID, Od.ETH_PHY_ROLE, Od.ETH_IP_ADDR, Od.ETH_IP_MASK, Od.ETH_IP_GATEWAY, Od.TIME_TIME_RANK,
      Od.CNT_POWER_ON_COUNT]

/-- Retained objects, and readings of the supplies (R57, R68). -/
def retainedKeys : List Nat :=
  ((List.range 16).map fun i => Od.BKP_REG i) ++
    [Od.RST_RESET_COUNT, Od.RST_RESET_HOLDOFFS, Od.SUP_V_LV_IN, Od.SUP_V_PODL, Od.SUP_ACTIVE_SOURCE]

/-- An object that stands through a device reset; every other one returns to its default (R8). -/
def keptKey (k : Nat) : Bool :=
  k ∈ storedKeys || k ∈ retainedKeys || safeKey k

/-- A time before the reset on the timebase that starts at it. -/
def before (tb : Nat) (t : Int) : Int := t - tb

/-- The always-on part of the service paths: failures, and the lock's remaining time (R481). -/
def PathSt.keep (p : PathSt) (tb : Nat) : PathSt := { p with lockEnd := p.lockEnd.map fun t => t - tb }

/-- The log of the retained store with what the buffer still held, and the stored counts (R57, R490, R494). -/
def LogSt.keep (l : LogSt) (st : StoreSt) : LogSt :=
  { held := l.held ++ l.buffer, ring := l.ring, written := l.written, lost := l.lost, lostOvf := l.lostOvf
    faultOcc := l.faultOcc, occOvf := l.occOvf, powerOvf := l.powerOvf
    opTicks := st.operatingTime * 100000000, actTicks := st.activeTime * 100000000 }

/-- Banks after a reset: an update that ran leaves its bank INVALID, or COMMITTED once its marker's pulse has begun (Table
20.3), and a marker whose pulse has not begun is
absent (R43, R501). -/
def ImgSt.keep (x : ImgSt) : ImgSt :=
  let other := otherBank x.active
  { active := x.active, progress := x.progress, marker := x.marker
    banks := if x.marker then upd x.banks other fun b => b.commit ((x.banks.get x.active).gen + 1)
      else if x.progress then upd x.banks other fun _ => {}
      else match x.markerHeld with
        | some gen => upd x.banks other fun b => { b with gen := gen, markers := b.markers - 1 }
        | none => x.banks }

/-- On a reset decision an island die that is powered turns off every conducting switch by the two-step soft turn-off, and
completes one that runs (R52, R89); ASC is not held. -/
def State.resetCell (s : State) (c : Cell) : CellSt :=
  let x := s.cell c
  let on := s.conducting c
  if on = [] then {} else { mode := .softOff, supHi := x.supHi, supLo := x.supLo, plateau := on }

def State.resetLeg (s : State) (l : Leg) : LegSt :=
  if (s.conducting (cellOf (legCell l))).contains (legPos l) then
    { level := (s.leg l).level, prev := (s.leg l).prev, edgeTb := 0 }
  else {}

/-- The service button and Peat mode are the always-on domain's (R349, R350). -/
def PathSwSt.keep (p : PathSwSt) (tb : Nat) : PathSwSt :=
  { svcTb := p.svcTb.map (before tb), svc8 := p.svc8, svc10 := p.svc10, svcUpTb := before tb p.svcUpTb
    peat := p.peat, sysTb := p.sysTb, podlTb := p.podlTb.map (before tb) }

/-- The island dies are powered at the reset decision: not at a main power-on reset, which comes of the lost supply (R44,
R52). -/
def State.diesPowered (s : State) (cause : Nat) : Bool := s.bringup.islandOn && cause != 1 && cause != 2

/-- The device after a reset decision, held in reset, the timebase starting again: every part but the always-on domain,
the stores, the supplies' hardware and the soft turn-off of the cells as after power-on. -/
def State.cleared (s : State) (cause : Nat) : State :=
  { od := s.od.filter fun e => keptKey e.1
    fresh := s.fresh, out := s.out, pending := s.pending, store := s.store, cust := s.cust
    log := s.log.keep s.store
    bringup := {
      cause := cause, retainedLost := s.bringup.retainedLost && cause == 1, deferredUs := s.bringup.deferredUs
      batFeed := s.bringup.batFeed, lvOk := s.bringup.lvOk, flyOk := s.bringup.flyOk, podlOk := s.bringup.podlOk }
    cells := if s.diesPowered cause then Vector.ofFn s.resetCell else Vector.replicate 15 {}
    legs := if s.diesPowered cause then Vector.ofFn s.resetLeg else Vector.replicate 50 {}
    gbx := { records := s.gbx.records }
    path := s.path.keep s.tb
    safety := { setCrc := s.safety.setCrc, siRaw := s.safety.siRaw.map fun r => (r.1, 0) }
    sessions := {
      ethPath := s.sessions.ethPath.keep s.tb, canPath := s.sessions.canPath.keep s.tb
      keyService := s.sessions.keyService, keySafety := s.sessions.keySafety }
    img := s.img.keep }

/-- A committed safety set that had not taken effect is in the store (R419). -/
def State.takeNewSet (s : State) (l : Option (List (Nat × Val) × Nat)) : State :=
  match l with
  | some (set, _) => s.takeSet set
  | none => s

/-- The flags of RESET_COUNT and RESET_HOLDOFFS outlive a reset (R68, R491); those of group 0x10 stand in the log. -/
def State.keepOverflows (s : State) (old : State) : State :=
  let count := old.bit Od.RST_BRINGUP_STATUS 2
  let hold := old.bit Od.RST_BRINGUP_STATUS 3
  let s := (s.setBit Od.RST_BRINGUP_STATUS 2 count).setBit Od.RST_BRINGUP_STATUS 3 hold
  s.setBit Od.CNT_CNT_OVF_MAP 1 (count || hold)

/-- The battery switch through a reset (R61, R345): fully on where it was closed, open where it was open or a Peat-mode
request is retained; a trip stays latched. VR rides on the battery, or is unsupplied. -/
def State.restoreSwitch (s : State) : State :=
  let closed := s.bit Od.BKP_BKP15 0 && !s.bit Od.BKP_BKP15 1
  let s := s.setBit Od.LV_LV_STATUS 11 (s.bit Od.BKP_BKP15 2)
  (s.setBatSw (if closed then 1 else 0)).setVrSource (if closed then 2 else 0)

/-- A retained Peat-mode request outside the system reset holds the module in Peat mode from the reset on (R350, R352). -/
def State.retainedPeat (s : State) : State :=
  if s.bit Od.BKP_BKP15 1 ∧ s.path.sysTb = none then s.modPath fun p => { p with peat := true } else s

/-- Every device reset but that of the always-on domain (R44, R50, R52, R57): the cells' soft turn-off begins, the upper half
of TB stands in BKP14. -/
def State.mainReset (s : State) (cause : Nat) : State :=
  let t := (s.cleared cause).takeNewSet s.safety.newSet
  let t := t.setN Od.BKP_BKP14 (s.timebase / 2 ^ 32 % 2 ^ 32)
  let t := t.keepOverflows s
  let t := (t.setBit Od.SUP_SUPPLY_STATUS 3 (s.bit Od.SUP_SUPPLY_STATUS 3)).setBit Od.LV_LV_STATUS 2 s.path.svcTb.isSome
  t.restoreSwitch.retainedPeat.showSupply

/-! ### Reset sources (R44, R48 to R51, R53) -/

/-- The control rail falls at the end of hold-up, 5 ms or more after the last source (R43, R44). -/
def State.railFalls (s : State) : Bool :=
  s.bestSource == 0 && !s.inhibited &&
    (match s.bringup.holdupTb with | some t => decide (t + ms 5 ≤ s.tb) | none => false)

def execMainPowerOnReset (dt : Nat) (s : State) : Res :=
  let s := s.elapse dt
  reply s (if s.railFalls then s.mainReset 2 else s)

/-- Both feeds of the always-on domain are absent (R48): the retained store, the backup registers, the locks and the
battery switch's state are lost with everything a main power-on reset clears; the switch closes as soon as the domain is
supplied again (R61), and no Peat mode is left. -/
def State.aonReset (s : State) : State :=
  let s := { s with
    cust := [], path := {}, gbx := {}
    bringup := { s.bringup with
      retainedLost := true, deferredUs := none, batFeed := false, lvOk := false, flyOk := false, podlOk := false }
    log := { s.log with ring := [], written := 0, lost := 0, lostOvf := false, held := [], buffer := [] }
    sessions := { s.sessions with ethPath := {}, canPath := {} } }
  let s := s.each (List.range 16) fun i s => s.setN (Od.BKP_REG i) 0
  let s := ((s.setN Od.RST_RESET_COUNT 0).setN Od.RST_RESET_HOLDOFFS 0).setN Od.RST_BRINGUP_STATUS 0
  let s := (s.setN Od.BKP_BKP15 1).setN Od.SUP_ACTIVE_SOURCE 0
  (s.mainReset 1).setN Od.BKP_BKP14 0

/-- The ORed feed of the always-on domain: a source is valid, or hold-up still carries the control rail (R48). -/
def State.orFeed (s : State) : Bool := s.bestSource != 0 || s.bringup.holdupTb.isSome

/-- The battery terminal's voltage is taken; both feeds absent is the always-on power-on reset (R48). -/
def State.feedCheck (s : State) (vBat : Rat) : State :=
  let s := s.readFeed vBat
  if !s.bringup.batFeed && !s.orFeed then s.aonReset else s

def execAonPowerOnReset (f : FeedReading) (s : State) : Res := reply s ((s.elapse f.dt).feedCheck f.vBat)

/-- A reset with what its cause does besides: the system reset opens the battery switch and inhibits flyback, PoDL sink and
LV input path for 2 s, so VR and the control supply collapse (Table 13.18). -/
def State.resetNow (s : State) (cause : Nat) : State :=
  if cause = 4 then
    let s := (s.modPath fun p => { p with sysTb := some 0 }).mainReset 4
    ((s.setBatSw 0).setVrSource 0).setN Od.SUP_ACTIVE_SOURCE 0
  else s.mainReset cause

/-- A reset decision: one that meets a flash program pulse is held off until the pulse ends (R51). -/
def State.resetDecision (s : State) (cause : Nat) : State :=
  if s.bringup.deferredTb.isSome then s
  else if (s.pulseEnd s.tb).isSome then s.modBringup fun b => { b with deferredTb := some s.tb, cause := cause }
  else s.resetNow cause

def ctrResets : Counter := ⟨Od.RST_RESET_COUNT, 32, Od.RST_BRINGUP_STATUS, 2, 1⟩
def ctrHoldoffs : Counter := ⟨Od.RST_RESET_HOLDOFFS, 32, Od.RST_BRINGUP_STATUS, 3, 1⟩

/-- The nRST filter (R50): below 1 µs ignored, from 5 µs a reset, in between either, an open value. A device that is held
in reset already stays so. -/
def State.nrst (s : State) (ns : Nat) : State :=
  if s.bringup.resetLatch ∨ ns < 1000 then s
  else if 5000 ≤ ns then s.resetDecision 3
  else if Config.freeBit s.fresh then s.draw.resetDecision 3 else s.draw

def execNrstAssert (dt : Nat) (ns : Nat) (s : State) : Res := reply s ((s.elapse dt).nrst ns)

/-- The pulse has ended: the deferral is counted and will be logged, and the reset proceeds (R51). -/
def State.deferredReset (s : State) : State :=
  match s.bringup.deferredTb with
  | some t =>
    match s.pulseEnd t with
    | some e =>
      if e ≤ s.tb then
        let c := s.bringup.cause
        ((s.count ctrHoldoffs).modBringup fun b => { b with deferredUs := some ((e - t) / 100) }).resetNow c
      else s
    | none => s
  | none => s

def execDeferredResetProceed (dt : Nat) (s : State) : Res := reply s (s.elapse dt).deferredReset

/-! ### Bring-up, steps 1 to 6 (Table 2.5) -/

/-- POWER_ON_COUNT, kept in the parameter store with its overflow (R494, R491). -/
def State.countPowerOn (s : State) : State :=
  let n := s.nat Od.CNT_POWER_ON_COUNT
  if n < 2 ^ 32 - 1 then s.setN Od.CNT_POWER_ON_COUNT (n + 1) else s.modLog fun l => { l with powerOvf := true }

/-- Step 1: the release of reset. The cells have turned off within 2 µs of the decision (R52). RESET_CAUSE is recorded, every
reset is counted, and the trim load starts, its attempts from 0, while BKP13 keeps the failures counted before (DESIGN
CHOICE, assumption 11). -/
def State.startBringup (s : State) : State :=
  let c := s.bringup.cause
  let defer := s.bringup.deferredUs
  let s := { s with cells := Vector.replicate 15 {}, legs := Vector.replicate 50 {} }
  let s := s.modBringup fun b => { b with
    step := 1, releaseTb := s.tb, resetLatch := false, deferredUs := none, trimAttempts := 0 }
  let s := (s.setN Od.RST_RESET_CAUSE c).setN Od.BKP_BKP12 ((s.nat Od.BKP_BKP12 * 256 + c) % 2 ^ 32)
  let s := (s.count ctrResets).when (c != 3) fun s => s.countPowerOn
  let s := s.when (c == 1) fun s => s.event 0x010A 0xFF 0
  match defer with
  | some d => s.event 0x0108 0xFF d
  | none => s

/-- Reset is released while a source supplies the module and no inhibit holds it off. -/
def State.nrstRelease (s : State) : State := if s.bringup.resetLatch ∧ s.bestSource ≠ 0 then s.startBringup else s

def execNrstRelease (dt : Nat) (s : State) : Res := reply s (s.elapse dt).nrstRelease

/-- An event held for the log enters the buffer (R69). -/
def LogSt.enterHeld (l : LogSt) (e : LogEntry) : LogSt :=
  if l.buffer.length < 32 then { l with buffer := l.buffer ++ [e] }
  else if l.lost < 65535 then { l with lost := l.lost + 1 } else { l with lostOvf := true }

/-- The events held for the log enter it, with their own TB (R69). -/
def State.flushHeld (s : State) : State :=
  s.modLog fun l => { l.held.foldl LogSt.enterHeld l with held := [] }

/-- Step 2: the trim load ends. The third failure in a row is TRIM_FAULT, left only by reset (R56). -/
def State.trimLoaded (s : State) (ok : Bool) : State :=
  if s.bringup.step ≠ 1 ∨ s.bringup.trimFault then s
  else if ok then
    ((s.setN Od.RST_TRIM_STATUS 1).setN Od.BKP_BKP13 0).modBringup fun b => { b with step := 2, trimAttempts := 0 }
  else
    let n := s.bringup.trimAttempts + 1
    let s := (s.setN Od.RST_TRIM_STATUS (2 * n)).setN Od.BKP_BKP13 n
    let s := (s.modBringup fun b => { b with trimAttempts := n }).event 0x0106 0xFF n
    if n < 3 then s
    else
      let s := (s.setBit Od.RST_TRIM_STATUS 3 true).modBringup fun b => { b with trimFault := true }
      let s := s.trackFree 3 s.tb
      s.flushHeld.event 0x0107 0xFF n

def execTrimLoadComplete (dt : Nat) (crcOk : Bool) (s : State) : Res := reply s ((s.elapse dt).trimLoaded crcOk)

/-- Step 3: the root PLL locks and the clock monitors run. -/
def State.pllLocked (s : State) : State :=
  if s.bringup.step = 2 then (s.setBit Od.SYS_CLK_STATUS 15 true).modBringup fun b => { b with step := 3 } else s

def execPllLock (dt : Nat) (s : State) : Res := reply s (s.elapse dt).pllLocked

/-- The COMMITTED bank of the highest generation (R502). -/
def State.newestBank (s : State) : Option (Fin 2) :=
  let ok (b : Fin 2) : Bool := (s.bank b).state == .committed
  if ok 0 && ok 1 then some (if (s.bank 0).gen < (s.bank 1).gen then 1 else 0)
  else if ok 0 then some 0 else if ok 1 then some 1 else none

/-- Steps 4 and 5: the image runs on the engines, Pyreri starts its tests with the cycle, window and configuration of the
active set (R380, R385, R419), and the Ethernet PHY is released. -/
def State.startImage (s : State) (b : Fin 2) : State :=
  let s := (s.modImg fun x => { x with active := b }).setN Od.ID_FW_VERSION (s.bank b).version
  let s := (s.setN Od.PYR_CYCLE_us (s.nat Od.PP_PYR_CYCLE_us)).setN Od.PYR_CONFIG_BOOT (s.nat Od.PP_PYR_CONFIG_BOOT)
  let s := (s.setN Od.PYR_RESYNC_WINDOW_ms (s.nat Od.PP_RESYNC_WINDOW_ms)).modBringup fun b => { b with step := 5 }
  (s.startEngines 0 (if s.powerOk then 24 else 8)).recomputeBounds

/-- No bank passes (R503). -/
def State.imageFault (s : State) : State :=
  let s := (s.setBit Od.IMG_IMG_STATUS 3 true).modBringup fun b => { b with imageFault := true }
  let s := s.trackFree 3 s.tb
  s.flushHeld.imgEvent 0x1106 s.img.active

/-- The check of the newest committed bank, and of the other where that fails: each reads back or not (R502). -/
def State.imageChecked (s : State) (newestOk otherOk : Bool) : State :=
  if s.bringup.step ≠ 3 ∨ s.bringup.imageFault then s
  else match s.newestBank with
  | none => s.imageFault
  | some b =>
    if newestOk && imagePasses (s.bank b).image then
      let old := s.img.active
      let s := s.startImage b
      if b = old then s else s.imgEvent 0x1104 b
    else if otherOk ∧ imagePasses (s.bank (otherBank b)).image ∧ (s.bank (otherBank b)).state = .committed then
      ((s.startImage (otherBank b)).setBit Od.IMG_IMG_STATUS 2 true).imgEvent 0x1105 (otherBank b)
    else s.imageFault

def execImageCheckComplete (dt : Nat) (newestOk otherOk : Bool) (s : State) : Res :=
  reply s ((s.elapse dt).imageChecked newestOk otherOk)

/-- A record of the parameter store is rejected: its default is used (Table 1.9). -/
def State.rejectRecord (s : State) (k : Nat) : State :=
  let s := if k ∈ storedKeys ∨ safeKey k then s.set k (dictDefault k)
    else if k = Od.CNT_OPERATING_TIME_s then State.modLog { s with store := { s.store with operatingTime := 0 } }
      fun l => { l with opTicks := 0 }
    else if k = Od.CNT_ACTIVE_TIME_s then State.modLog { s with store := { s.store with activeTime := 0 } }
      fun l => { l with actTicks := 0 }
    else if k = 0x200706 then s.modLog fun l => { l with faultOcc := [], occOvf := false }
    else s.each (List.finRange 50) fun l s =>
      if k = Od.CELL_LEG_SWITCHES (legCell l) (legPos l) then
        { s with store := { s.store with legSwitches := upd s.store.legSwitches l fun _ => 0 } }
      else s
  s.event 0x0145 0xFF 0

/-- Parameters that take effect at a device reset are in force (R462, R495 to R497), the leg switching counters read
their stored counts (R95), the resistor models start at half of RES_E_MAX (R292). -/
def State.applyStore (s : State) : State :=
  let s := s.each (List.range 6) fun d s => s.setN (Od.OWN_OWNER d) (s.nat (Od.OWN_OWNER_DEFAULT d))
  let s := { s with sessions := { s.sessions with
    nodeId := s.nat Od.SVC_NODE_ID, phyMaster := s.nat Od.ETH_PHY_ROLE == 1, ipAddr := s.nat Od.ETH_IP_ADDR
    ipMask := s.nat Od.ETH_IP_MASK, ipGateway := s.nat Od.ETH_IP_GATEWAY } }
  let s := { s with time := { s.time with rank := s.nat Od.TIME_TIME_RANK } }
  let s := s.each [0, 1] fun (leg : Nat) s => s.setQ (Od.DCL_RES_E_0 + leg) (s.num Od.DCL_RES_E_MAX / 2)
  s.each (List.finRange 50) fun l s => s.setN (Od.CELL_LEG_SWITCHES (legCell l) (legPos l)) (s.store.legSwitches.get l)

/-- The active set against its stored CRC-32C; that of the shipped set is its own (R420). -/
def State.setMatches (s : State) : Bool := setCrc s.get == s.safety.setCrc.getD (setCrc dictDefault)

/-- The outcome of the check: event 0x0E12 of severity SAFE, and READY_REASON 0x06 (R420, R65). -/
def State.setChecked (s : State) (ok : Bool) : State :=
  let s := (s.modBringup fun b => { b with safetySetOk := ok }).modSafety fun x => { x with invalid := !ok }
  if ok then s else s.raiseSafe 0x0E12 0xFF 0 Drive.all

/-- Step 6: the parameter store is loaded, record by record, the active safety set is checked, and the configuration load
begins (R246). -/
def State.storeLoaded (s : State) (rejected : List Nat) (setOk : Bool) : State :=
  if s.bringup.step ≠ 5 then s
  else
    let s := (s.each rejected fun k s => s.rejectRecord k).applyStore
    ((s.setChecked (setOk && s.setMatches)).configLoad true).modBringup fun b => { b with step := 6 }

def execParameterStoreLoaded (dt : Nat) (rejected : List Nat) (setOk : Bool) (s : State) : Res :=
  reply s ((s.elapse dt).storeLoaded rejected setOk)

/-! ### Bring-up, steps 7 to 9 -/

/-- An update that a reset ended counts as failed (R508). -/
def State.failProgress (s : State) : State :=
  if s.img.progress then
    let b := if s.img.marker then s.img.active else s.target
    let s := ((s.setN Od.IMG_UPD_STATE 6).setN Od.IMG_UPD_RESULT 10).modImg fun x => { x with progress := false, marker := false }
    (s.count (ctrImg Od.IMG_UPD_FAILS 1 16)).imgEvent 0x1103 b
  else s

/-- Timers that start with the control island: commands of CAN-A, the time reference, heartbeat, operating times. -/
def State.startTimers (s : State) : State :=
  let s := { s with canA := { s.canA with cmdTb := s.tb }, time := { s.time with refTb := s.tb, lossTb := s.tb } }
  s.modLog fun l => { l with beatTb := s.tb, timeTb := s.tb }

/-- Step 7: the dictionary answers, the held events enter the log, FLT_A and FLT_B are released if tests and set pass; then
step 8, or running on PoDL alone. -/
def State.islandUp (s : State) : State :=
  if s.bringup.step ≠ 6 then s
  else
    let t := min ((s.tb - s.bringup.releaseTb) / 100000) 65535
    let s := ((s.modBringup fun b => { b with step := 7 }).setN Od.RST_CTRL_READY_ms t).flushHeld
    let s := (s.event 0x0101 0xFF (s.bringup.cause + 65536 * t)).failProgress.startTimers
    let s := (s.setBit Od.RST_BRINGUP_STATUS 0 true).refreshFlt
    let s := s.each [0, 1, 2, 3] fun c s => s.trackFree c s.tb
    s.settleSupply

def execControlIslandUp (dt : Nat) (s : State) : Res := reply s (s.elapse dt).islandUp

/-- Step 9: a drive's own checks end; it reports STANDBY once Table 2.6 is met (R63). -/
def execDriveReadinessComplete (dt : Nat) (d : Drive) (checksOk : Bool) (s : State) : Res :=
  let s := s.elapse dt
  reply s (if s.ds d = .unavailable ∧ 8 ≤ s.bringup.step then
    (s.modDrv d fun x => { x with checks := checksOk }).becomeReady d else s)

/-! ### Drive reset (R66, R67, Table 2.9) -/

/-- The wrappers of a drive's blocks close: its sequencers close (R120), and its position interfaces go to CHECK
(Table 7.2). -/
def State.closeWrappers (s : State) (d : Drive) : State :=
  (s.closeSequencers d).each (List.finRange 12) fun p s => if pifDrive p = d ∧ s.nat (Od.PIF_MODE p) ≠ 0 ∧ s.pifSupplied p then s.pifCheck p else s

/-- The cells of a drive that hold ASC keep it, with their low-side supply, in the UNAVAILABLE drive. -/
def State.keepAsc (s : State) (cells : List Cell) : State :=
  s.each cells fun c s => (s.setLegs c .low).modCell c fun x => { x with mode := .asc, supLo := true, ascTb := s.tb }

/-- Step 1: the drive is UNAVAILABLE, its cells in the states of Table 1.6; step 2: its wrappers are closed. -/
def State.resetDrive (s : State) (rank : Nat) (d : Drive) : State :=
  let s := s.protectDrive d
  let asc := d.cells.filter fun c => (s.cell c).mode == .asc
  let s := (s.goto d .unavailable 0xFF).keepAsc asc
  (s.modDrv d fun x => { x with resetTb := some s.tb, resetRank := rank, causes := [] }).closeWrappers d

/-- DRIVE_RESET: every drive named must be the writer's own, unless Pyreri writes (R66); else the whole write is aborted
(DESIGN CHOICE, assumption 12). -/
def State.driveResetEffect (who : Requester) (mask : Nat) (s : State) : Except Nat State :=
  let ds := Drive.all.filter fun d => mask.testBit d.num
  refuseIf (who != .pyreri && !ds.all fun d => s.owns who d) 0x08000022 <|
  .ok (s.each ds fun d s => s.resetDrive (s.rankOf who / 8) d)

def State.writeDriveReset (s : State) (who : Requester) (mask : Nat) : State :=
  s.request who Od.RST_DRIVE_RESET .operator (State.driveResetEffect who mask)

def execDriveReset (dt : Nat) (who : Requester) (mask : BitVec 8) (s : State) : Res :=
  reply s ((s.elapse dt).writeDriveReset who mask.toNat)

/-- The blocks of a drive are held in reset, then released (Table 2.9 step 3): its axis units, loop units and the legs of
its cells start as after a reset, but for what holds ASC; what an identification has found stays. -/
def State.resetBlocks (s : State) (d : Drive) : State :=
  let s := s.each (List.finRange 24) fun n s => if s.luDrive n = d.num then s.modLu n fun _ => {} else s
  s.each d.cells fun c s =>
    let s := if h : c.val < 8 then s.modAx ⟨c.val, h⟩ fun x => { idValid := x.idValid } else s
    if (s.cell c).mode = .asc then s
    else (s.each (cellLegList c) fun l s => s.modLeg l fun _ => {}).modCell c fun x => { stoTimes := x.stoTimes }

/-- Steps 3 and 4: the blocks are reset and released and the drive runs its readiness checks (Table 2.6). -/
def State.releaseBlocks (s : State) (d : Drive) : State :=
  let s := (s.resetBlocks d).modDrv d fun x => { x with resetTb := none, checks := false }
  let s := match d with
    | .gbx => { s with gbx := { s.gbx with recovered := false } }
    | .brk => s.modDcl fun x => { x with checkOk := false }
    | _ => s
  s.event 0x0109 0xFF (2 ^ d.num + 256 * (s.drv d).resetRank)

/-- At least 10 µs after the wrappers closed. -/
def State.blockRelease (s : State) (d : Drive) : State :=
  match (s.drv d).resetTb with
  | some t => if t + us 10 ≤ s.tb then s.releaseBlocks d else s
  | none => s

def execDriveResetBlockRelease (dt : Nat) (d : Drive) (s : State) : Res := reply s ((s.elapse dt).blockRelease d)

/-! ### Service button (R349) -/

def ctrSvc : Counter := ⟨Od.LV_SVC_PRESSES, 16, Od.LV_LV_CNT_STATUS, 1, 0x0B⟩

/-- A Peat-mode entry that runs is abandoned (R350). -/
def State.abandonPeat (s : State) : State :=
  if s.path.peatTb.isSome then
    ((s.modPath fun p => { p with peatTb := none }).setBit Od.LV_LV_STATUS 3 false).setBit Od.BKP_BKP15 1 false
  else s

/-- A debounced press begins; a hold counts only after a release of at least 100 ms. -/
def State.svcPress (s : State) : State :=
  if s.path.svcTb.isSome then s
  else
    let early : Bool := decide ((s.tb : Int) < s.path.svcUpTb + ms 100)
    let s := s.modPath fun p => { p with svcTb := some s.tb, svc8 := early, svc10 := early }
    (s.setBit Od.LV_LV_STATUS 2 true).abandonPeat

def execSvcPressed (dt : Nat) (s : State) : Res := reply s (s.elapse dt).svcPress

/-- How long SVC has been held, in ticks. -/
def State.svcHeld (s : State) : Nat :=
  match s.path.svcTb with
  | some t => (s.tb - t).toNat
  | none => 0

/-- The release; after 20 ms to 10 s the press is logged with its duration while the device runs. -/
def State.svcRelease (s : State) : State :=
  if s.path.svcTb.isNone then s
  else
    let held := s.svcHeld
    let s := (s.modPath fun p => { p with svcTb := none, svcUpTb := s.tb }).setBit Od.LV_LV_STATUS 2 false
    if 1 ≤ s.bringup.step ∧ ms 20 ≤ held ∧ held ≤ sec 10 then
      ((s.count ctrSvc).setN Od.LV_SVC_LAST_ms (held / 100000)).event 0x0B15 0x71 (held / 100000)
    else s

def execSvcPressRelease (dt : Nat) (s : State) : Res := reply s (s.elapse dt).svcRelease

/-- 8 s of holding. -/
def State.svcWarn (s : State) : State :=
  if 1 ≤ s.bringup.step ∧ s.path.svcTb.isSome ∧ ¬ s.path.svc8 ∧ sec 8 ≤ s.svcHeld then
    (s.modPath fun p => { p with svc8 := true }).event 0x0B16 0x71 8000
  else s

def execSvcHold8s (dt : Nat) (s : State) : Res := reply s (s.elapse dt).svcWarn

/-- 10 s of holding: the system reset, also from within another reset (R538). A Peat-mode entry that runs keeps its request
(R352). -/
def State.svcReset (s : State) : State :=
  if s.path.svcTb.isSome ∧ ¬ s.path.svc10 ∧ sec 10 ≤ s.svcHeld ∧ ¬ s.inhibited then
    (s.modPath fun p => { p with svc8 := true, svc10 := true }).resetDecision 4
  else s

def execSvcHold10s (dt : Nat) (s : State) : Res := reply s (s.elapse dt).svcReset

/-- The battery switch closes unless its trip is latched; VR rides on the battery (R61). -/
def State.closeSwitch (s : State) : State :=
  if s.batTripped then s else (s.setBatSw 1).setVrSource 2

/-- 2 s after the system reset the inhibits are released and the switch closes; a retained Peat-mode request keeps it open
until wake (R349, R352). The release of reset follows. -/
def State.sysRestore (s : State) : State :=
  match s.path.sysTb with
  | some t =>
    if t + sec 2 ≤ s.tb then
      let s := s.modPath fun p => { p with sysTb := none }
      (if s.bit Od.BKP_BKP15 1 then s.modPath fun p => { p with peat := true } else s.closeSwitch).followSource.showSupply
    else s
  | none => s

def execSystemResetRestore (dt : Nat) (s : State) : Res := reply s (s.elapse dt).sysRestore

/-! ### Peat mode (R350) -/

/-- Every drive UNAVAILABLE or STANDBY, the pilot in state A, no export adapter. -/
def State.peatAllowed (s : State) : Bool :=
  (Drive.all.all fun d => s.ds d == .unavailable || s.ds d == .standby) && s.nat Od.CHR_PILOT_STATE == 0 &&
    !s.bit Od.EXP_EXP_STATUS 1

/-- The buffered events are entered in the ring. -/
def State.writeLog (s : State) : State := s.each (List.range s.log.buffer.length) fun _ s => s.logStep

/-- PEAT_CMD 1 in a SERVICE session: the entry begins. -/
def State.peatEffect (v : Nat) (s : State) : Except Nat State :=
  refuseIf (v != 1) 0x06090030 <|
  refuseIf (s.bit Od.LV_LV_STATUS 3 || !s.peatAllowed) 0x08000022 <|
  let s := ((s.setBit Od.BKP_BKP15 1 true).setBit Od.LV_LV_STATUS 3 true).modPath fun p => { p with peatTb := some s.tb }
  .ok (s.event 0x0B17 0x71 s.lvDetail).writeLog

def State.writePeat (s : State) (who : Requester) (v : Nat) : State :=
  s.request who Od.LV_PEAT_CMD .service (State.peatEffect v)

def execPeatCmdWrite (dt : Nat) (who : Requester) (value : BitVec 8) (s : State) : Res :=
  reply s ((s.elapse dt).writePeat who value.toNat)

/-- The switch opens and the supplies are inhibited: the control supply collapses, and only the always-on domain lives. -/
def State.peatEnter (s : State) : State :=
  if s.path.peatTb.isSome then
    let s := (s.modPath fun p => { p with peat := true }).mainReset 2
    s.setN Od.SUP_ACTIVE_SOURCE 0
  else s

def execPeatEntryComplete (dt : Nat) (s : State) : Res := reply s (s.elapse dt).peatEnter

/-- V_PODL has stood above 20 V for 10 ms. -/
def State.podlWakes (s : State) : Bool :=
  match s.path.podlTb with
  | some t => decide (t + ms 10 ≤ s.tb)
  | none => false

/-- A press of 1 s, or PoDL above 20 V for 10 ms, wakes the module: the switch closes, the inhibits end, the request is
cleared, and the main power-on reset ends in a bring-up with its cause. -/
def State.peatWake (s : State) (bySvc : Bool) : State :=
  if s.path.peat ∧ (if bySvc then decide (sec 1 ≤ s.svcHeld) else s.podlWakes) then
    let s := (s.modPath fun p => { p with peat := false }).setBit Od.BKP_BKP15 1 false
    let s := s.closeSwitch.modBringup fun b => { b with cause := if bySvc then 5 else 6 }
    s.followSource.showSupply
  else s

def execPeatWake (dt : Nat) (bySvc : Bool) (s : State) : Res := reply s ((s.elapse dt).peatWake bySvc)

/-! ### Uncorrectable memory errors (R32, Table 1.9) -/

def ctrDiscarded : Counter := ⟨Od.RET_DISCARDED, 16, Od.CNT_CNT_OVF_MAP, 1, 1⟩

/-- A 16-byte entry of the retained store is discarded: an entry of the log ring, a unit of the customer area, which then
reads zeros, or one of the vendor area, where a fork record becomes invalid (DESIGN CHOICE, assumption 50). -/
def State.discardUnit (s : State) (u : Nat) : State :=
  let s := if u < 256 then s.modLog fun l => { l with ring := l.ring.filter fun e => (e.1 - 1) % 256 != u }
    else if u < 768 then { s with cust := Memory.writeAll s.cust (16 * (u - 256)) (List.replicate 16 0) }
    else if h : u - 768 < 4 then s.setRecord ⟨u - 768, h⟩ {} else s
  (s.count ctrDiscarded).event 0x0144 0xFF 0

/-- The reaction of each memory; the errors of the RAMs are counted. -/
def State.eccError (s : State) (m : Memory) : State :=
  match m with
  | .engineLocal e => ((s.count ctrEccUncorrected).event 0x0141 0xFF e.val).outOfService e 6
  | .taskPool => (s.count ctrEccUncorrected).raise 0x0142 0xFF 0 Drive.all
  | .pyreri lane => (s.count ctrEccUncorrected).laneDiff (some lane) 0
  | .capture => (((s.count ctrEccUncorrected).setN Od.CAP_CAP_STATE 5)).event 0x0143 0xFF 0
  | .imageBank _ => s
  | .otp => s
  | .paramStore k => s.rejectRecord k
  | .retained u => (s.count ctrEccUncorrected).discardUnit u.val
  | .backup r => ((s.count ctrEccUncorrected).setN (Od.BKP_REG r.val) 0).event 0x0144 0xFF 0

def execEccUncorrectableError (dt : Nat) (m : Memory) (s : State) : Res := reply s ((s.elapse dt).eccError m)

end Sys2Proof.Machine
end

