-- ==== Sys2Proof/Machine/Flags.lean ====
section
/-! DEFINITION. What a read shows of state that the object dictionary's store does not hold: status words whose bits
mirror the chapters' state (CELL_STATUS, DRIVE_STATUS, OBS_STATUS, LINK_x_STATUS, CH_STATUS and the others), the error
register, and the objects that are formed at the read. -/
namespace Sys2Proof.Machine

/-- A stored status word with some of its bits as the state has them now. -/
def State.flagged (s : State) (k : Nat) (l : List (Nat × Bool)) : Val :=
  .int (l.foldl (fun n e => withBit n e.1 e.2) (s.nat k) : Nat)

def natVal (n : Nat) : Val := .int n
def boolVal (b : Bool) : Val := .int (if b then 1 else 0)

/-! ### Clocks, links, supplies, reset, retained store (Tables 1.14, 2.12 to 2.14) -/

/-- LINK_x_STATUS: a lane is up when it passes in both directions. -/
def State.linkStatus (s : State) (l : Link) : Nat :=
  let x := s.link l
  let l0 := x.fromC.lane0 && x.toC.lane0
  let l1 := x.fromC.lane1 && x.toC.lane1
  let mode := if x.training then 1 else if !x.trained then 0 else if l0 && l1 then 3 else 2
  let ovf := s.bit (Od.SYS_LINK_T_STATUS + l.num) 7
  [(2, l0), (3, l1), (4, x.trained), (5, x.skewCal), (6, x.lost), (7, ovf)].foldl (fun n e => withBit n e.1 e.2) mode

def State.viewSys (s : State) (sub : Nat) : Option Val :=
  match sub with
  | 0x10 => some (natVal (s.linkStatus .t)) | 0x11 => some (natVal (s.linkStatus .g))
  | 0x12 => some (natVal (s.linkStatus .l)) | _ => none

def State.viewReset (s : State) (sub : Nat) : Option Val :=
  let drv (i : Nat) : DriveSt := s.drives.get (Fin.ofNat 6 i)
  let name (i : Nat) : Drive := (Drive.all.find? fun d => d.num == i).getD .brk
  if sub = 7 then some (s.flagged Od.RST_BRINGUP_STATUS [(1, !s.bit Od.PYR_PYR_STATUS 3 && !s.bit Od.PYR_PYR_STATUS 4)])
  else if 0x10 ≤ sub ∧ sub ≤ 0x15 then some (natVal (s.readyReason (name (sub - 0x10))))
  else if 0x18 ≤ sub ∧ sub ≤ 0x1D then some (natVal (drv (sub - 0x18)).readyTime)
  else none

/-- VEND_DATA: 256 bytes from VEND_OFFSET, or fewer where the area ends; Druixen's contents are open. -/
def State.vendData (s : State) : List Byte :=
  let off := s.nat Od.RET_VEND_OFFSET
  (List.range (min 256 (4096 - off))).map fun i => Config.vendorData (off + i)

def State.viewRetained (s : State) (sub : Nat) : Option Val :=
  match sub with
  | 1 => some (boolVal (!s.bringup.retainedLost))
  | 3 => some (.bytes s.custData)
  | 5 => some (.bytes s.vendData)
  | _ => none

/-! ### Identity, log and counters (Tables 19.1, 19.8 to 19.10) -/

/-- IMAGE_CRC: the payload check value of the active image; the factory's is open (assumption 52). -/
def State.imageCrc (s : State) : Nat :=
  let b := s.bank s.img.active
  if b.image = [] then Config.imageCrc % 2 ^ 32 else fieldLe b.image 16 4

def State.viewId (s : State) (sub : Nat) : Option Val :=
  match sub with
  | 6 => some (natVal (Config.serial % 2 ^ 32)) | 8 => some (natVal (Config.mfgDate % 2 ^ 32))
  | 9 => some (natVal s.img.active) | 0xA => some (natVal s.imageCrc) | 0xB => some (natVal (Config.otpCrc % 2 ^ 32))
  | _ => none

def State.viewComm (s : State) (index sub : Nat) : Option Val :=
  if index = 0x1001 then some (natVal s.errorRegister)
  else if index = 0x1014 then some (natVal (0x80 + s.sessions.nodeId))
  else if index = 0x1018 ∧ sub = 4 then some (natVal (Config.serial % 2 ^ 32))
  else if index = 0x1200 ∧ sub = 1 then some (natVal (0x600 + s.sessions.nodeId))
  else if index = 0x1200 ∧ sub = 2 then some (natVal (0x580 + s.sessions.nodeId))
  else none

def State.viewLog (s : State) (who : Requester) (sub : Nat) : Option Val :=
  match sub with
  | 1 => some (s.flagged Od.LOG_LOG_STATUS [(0, s.log.lostOvf), (2, decide (s.nat Od.LOG_LOG_ACKED < s.log.written))])
  | 2 => some (natVal s.log.written)
  | 3 => some (natVal (s.sessOf who).logSel)
  | 7 => some (natVal s.log.lost)
  | _ => none

def State.viewCount (s : State) (who : Requester) (sub : Nat) : Option Val :=
  match sub with
  | 1 => some (s.flagged Od.CNT_CNT_OVF_MAP [(0x10, s.bit Od.CNT_CNT_OVF_MAP 0x10 || s.log.lostOvf || s.log.occOvf ||
      s.log.powerOvf)])
  | 2 => some (natVal s.operatingTime)
  | 3 => some (natVal s.activeTime)
  | 5 => some (natVal (s.sessOf who).occSel)
  | 6 => some (natVal (((s.log.faultOcc.find? fun e => e.1 == (s.sessOf who).occSel).map fun e => e.2).getD 0))
  | 8 => some (natVal s.log.faultOcc.length)
  | _ => none

/-! ### Engines, pool and tasks (Tables 9.6 to 9.10) -/

/-- A HARD task whose host is its alternate. -/
def State.onAlternate (s : State) (e : Fin 24) : Bool :=
  hardTasks.any fun k => (s.task k).queue == e.val && (taskHome k).2 == e.val

/-- A task of the row of self-test slices in Table 9.2. -/
def sliceTask (k : Nat) : Bool := (taskRow k).1 == 3

def State.engineStatus (s : State) (e : Fin 24) : Nat :=
  let x := s.eng e
  [(0, engLive x), (1, engInService x && x.running.isNone), (2, x.running.isSome), (3, x.stolen),
    (4, match x.running with | some k => sliceTask k | none => false), (5, s.onAlternate e)].foldl
    (fun n b => withBit n b.1 b.2) 0

def State.viewEngine (s : State) (n sub : Nat) : Option Val :=
  let e : Fin 24 := Fin.ofNat 24 n
  match sub with
  | 1 => some (natVal (s.engineStatus e))
  | 2 => some (natVal (s.eng e).state.code)
  | 3 => some (natVal (hardTasks.filter fun k => (s.task k).queue == e.val).length)
  | 4 => some (natVal (s.queueLoad e))
  | 5 => some (.num (s.engBusy e))
  | _ => none

def State.viewPool (s : State) (sub : Nat) : Option Val :=
  match sub with
  | 5 => some (natVal s.liveEngines)
  | 0x0F => some (natVal ((List.finRange 59).filter fun (k : Fin 59) => taskClass k == 2 && (s.task k).waiting.isSome).length)
  | _ => none

/-- Fields of the task record that are formed at the read; its name is open, at most 24 characters. -/
def State.viewTask (s : State) (k : Fin 59) (sub : Nat) : Option Val :=
  match sub with
  | 2 => some (.bytes ((Config.taskName k).take 24))
  | 4 => some (natVal (match taskDrive k with | some d => d.num | none => 0xFF))
  | 0x0C => some (natVal (if taskClass k = 0 then (s.task k).queue else (s.task k).last))
  | 0x0D => some (.num (s.boundUs s.periodActUs s.liveEngines k))
  | _ => none

/-! ### Cells, shunts, converters, sequencers, comparators (Tables 3.10, 4.9, 4.11, 4.12, 4.15, 4.18) -/

def State.cellStatus (s : State) (c : Cell) : Val :=
  let k := Od.CELL_CELL_STATUS c
  let x := s.cell c
  let n := withField (withField (s.nat k) 0 3 x.mode.code) 3 2 (s.nat (Od.CELL_CELL_BAND c))
  natVal (withBit (withBit (withBit n 7 x.precharged) 10 (s.flag (Od.CELL_SC_LOCKOUT c))) 6
    ((cellLegList c).any fun l => (s.leg l).deferred))

def State.gcStatus (s : State) (g : Fin 4) : Val :=
  let a := s.seq (Fin.ofNat 8 (2 * g.val))
  let b := s.seq (Fin.ofNat 8 (2 * g.val + 1))
  s.flagged (Od.GC_GC_STATUS g) [(0, a.run != .idle), (1, b.run != .idle), (2, a.pending), (3, b.pending)]

def State.viewConverter (s : State) (n sub : Nat) : Option Val :=
  let g : Fin 4 := Fin.ofNat 4 n
  match sub with
  | 1 => some (s.gcStatus g)
  | 3 => some (natVal (match s.seqRunning g with | some q => q.val | none => 0xFF))
  | _ => none

def State.viewSequencer (s : State) (n sub : Nat) : Option Val :=
  let q : Fin 8 := Fin.ofNat 8 n
  let x := s.seq q
  match sub with
  | 1 => some (s.flagged (Od.SQ_SQ_STATUS n) [(0, decide (n ≠ 6)), (1, x.run == .running), (2, x.pending),
      (3, x.run == .suspended), (4, s.bit (Od.SQ_SQ_STATUS n) 4 || !s.gcOn (n / 2))])
  | 2 => some (boolVal (decide (n ≠ 6)))
  | 3 => some (natVal (s.sqCtrl q))
  | _ => if 0x30 ≤ sub ∧ sub ≤ 0x4F ∧ ¬ s.gcOn (n / 2) then some (natVal 0) else none

/-- Physical value of a comparator's threshold code: in the input's unit, or in volts at the converter input where the
input has no scale (R121). -/
def State.gcpValue (s : State) (n code : Nat) : Rat :=
  let i := s.nat (Od.GCP_INPUT n)
  if (gcInput (n / 4) i).1 = 0 then mkRat (3 * (4 * code)) 4096 else inputValue (n / 4) i (4 * code)

def State.viewComparator (s : State) (n sub : Nat) : Option Val :=
  match sub with
  | 1 => some (s.flagged (Od.GCP_GCP_STATUS n) [(3, s.gcpBlanked n)])
  | 0x0C => some (.num (s.gcpValue n (s.nat (Od.GCP_HI_CODE n))))
  | 0x0D => some (.num (s.gcpValue n (s.nat (Od.GCP_LO_CODE n))))
  | _ => none

/-! ### Axes, observers, position interfaces, loop units (Tables 5.13, 6.10, 7.7, 8.9, 8.10) -/

/-- AXIS_STATUS: what belongs to a decision shows while the unit decides, and a vector while the cell switches. -/
def State.axisStatus (s : State) (n : Axis) : Val :=
  let k := s.nat (Od.AX_AXIS_STATUS n)
  let k := if s.deciding n then k else withField (withField k 10 4 0) 4 3 0
  let k := if (s.cell (cellOf n)).mode = .switching then k else withField k 1 3 7
  natVal (withBit (withBit (withBit k 0 (s.deciding n)) 14 (s.motorDataOk n)) 15 (!s.timingOk n))

def State.viewObserver (s : State) (n sub : Nat) : Option Val :=
  let a : Axis := Fin.ofNat 8 n
  if sub = 1 then
    some (s.flagged (Od.OBS_OBS_STATUS n) [(0, s.bit (Od.OBS_OBS_STATUS n) 0 && s.coasts (cellOf n)),
      (7, (s.ax a).lossRun && s.deciding a), (11, (s.cell (cellOf n)).mode == .asc),
      (14, s.nat (Od.OBS_SHUNT_FAILED n) != 0xFF)])
  else none

def State.viewPosition (s : State) (n sub : Nat) : Option Val :=
  if sub = 1 then some (natVal (s.pifStatus (Fin.ofNat 12 n)))
  else if sub = 5 ∧ s.nat (Od.PIF_MODE n) = 2 then some (natVal (2 ^ s.nat (Od.PIF_SSI_TURN_BITS n)))
  else none

/-- LU_STATUS. -/
def State.luStatus (s : State) (n : Fin 24) : Nat :=
  let x := s.lu n
  let held : List (Nat × Bool) := (List.range 8).map fun i => (8 + i, s.bit (Od.LU_SEC_CTRL n i) 0)
  ([(0, !x.queue.isEmpty), (1, x.commit.isSome), (2, x.stale), (3, x.inSat), (4, x.notSelected), (5, x.satLo),
    (6, x.satHi), (7, x.running), (16, decide (16 ≤ n.val)), (17, x.configErr)] ++ held : List (Nat × Bool)).foldl
    (fun a e => withBit a e.1 e.2) 0

/-- The source of a feedback code lies on an island die: shunts, axis senses, converters but GC3, the interfaces P4 to
P11, the link sense and the charger. -/
def srcOnIsland (src : Nat) : Bool :=
  match src / 256 with
  | 1 => true | 2 => decide (src % 256 / 32 < 3) | 3 => false | 4 => decide (4 ≤ src % 256)
  | 5 => decide (4 ≤ src % 256) | 6 => true | 7 => true | 8 => true | _ => false

/-- A destination on an island die: the drive ramps, actuator axes, solenoid channels, stage cells, the buck. -/
def destOnIsland (d : Nat) : Bool :=
  match d / 256 with
  | 1 => true | 2 => true | 3 => true | 4 => true | 5 => true | 7 => true | _ => false

def State.viewLoop (s : State) (n sub : Nat) : Option Val :=
  let u : Fin 24 := Fin.ofNat 24 n
  match sub with
  | 1 => some (natVal (s.luStatus u))
  | 0x13 => if (s.lu u).running then none else some (.num (s.num (Od.LU_INIT_OUT n)))
  | 0x15 => some (natVal (100 + 40 * s.nat (Od.LU_SECTIONS n) +
      if srcOnIsland (s.nat (Od.LU_FB_SRC n)) || destOnIsland (s.nat (Od.LU_OUT_DEST n)) then 120 else 0))
  | _ => none

/-! ### Drives (Tables 5.15, 10.12, 11.10, 12.8, 13.21) -/

def State.tqoAsserted (s : State) (d : Drive) : Bool := (s.drv d).tqo || (s.drv d).tqoLink

/-- Torque opposes speed, both in the frame of the drive. -/
def State.regenerating (s : State) (t : Fin 2) : Bool := decide (s.num (Od.TR_TQ_ACT t) * s.driveSpeed t < 0)

def State.driveStatus (s : State) (d : Drive) : Val :=
  let x := s.drv d
  let base (k : Nat) (l : List (Nat × Bool)) : Val :=
    .int (withField (l.foldl (fun n e => withBit n e.1 e.2) (s.nat k)) 0 8 (s.readyReason d) : Nat)
  match d with
  | .tra | .trb =>
    let k := Od.TR_DRIVE_STATUS d.num
    let sets := d.cells
    let fw := sets.any fun c => s.bit (Od.AX_AXIS_STATUS c) 13
    let data := (sets.all fun c => s.motorDataOk c) && s.num (Od.TR_BASE_SPEED d.num) != 0
    let n := [(11, s.tqoAsserted d), (12, (s.side d.side).resolved), (13, data), (14, fw), (15, s.regenerating d.side),
      (19, (s.tr d.side).reverse)].foldl (fun n e => withBit n e.1 e.2) (s.nat k)
    natVal (withField (withField n 20 4 x.substate) 0 8 (s.readyReason d))
  | .gbx =>
    let step (t : Nat) : Bool := decide (1 ≤ s.nat (Od.SHF_SHIFT_STEP t) ∧ s.nat (Od.SHF_SHIFT_STEP t) ≤ 6)
    let sol := (List.range 8).any fun c => s.bit (Od.SOL_SOL_STATUS c) 3 || s.bit (Od.SOL_SOL_STATUS c) 4
    base Od.GBX_DRIVE_STATUS [(8, sol), (9, step 0), (10, step 1), (11, s.tqoAsserted d), (12, s.gbx.recovT0.isSome),
      (13, (s.side 0).resolved), (14, (s.side 1).resolved)]
  | .brk => base Od.BRK_DRIVE_STATUS [(8, s.bit Od.DCL_DCL_STATUS 9), (9, s.dcl.resPassed), (10, s.bit Od.DCL_DCL_STATUS 15),
      (11, s.tqoAsserted d)]
  | .aux => base Od.AUX_DRIVE_STATUS [(9, decide (450 ≤ s.num Od.DCL_V_DC)),
      (10, s.flag Od.CNV_TOW_EN && decide (s.num Od.CNV_TOW_VBAT_MIN ≤ s.num Od.LV_V_BAT)), (11, s.tqoAsserted d)]
  | .chg => base Od.CHG_DRIVE_STATUS [(8, s.chgBit 8), (9, decide (8 ≤ s.nat Od.CHG_SESSION_STEP)), (10, s.exporting),
      (11, s.tqoAsserted d), (12, s.chargeInterlock)]

/-- LAST_EVENT of a drive. -/
def State.driveLast (s : State) (d : Drive) : Nat :=
  ((s.log.lastEvent.find? fun e => e.1 == d.num).map fun e => e.2).getD 0

/-- DRIVE_STATE, DRIVE_STATUS and LAST_EVENT of a drive, the last at its own subindex. -/
def State.viewDrive (s : State) (d : Drive) (last sub : Nat) : Option Val :=
  if sub = 1 then some (natVal (s.ds d).code)
  else if sub = 2 then some (s.driveStatus d)
  else if sub = last then some (natVal (s.driveLast d))
  else none

/-- GBX: copies of the sides' gear and park states (Table 10.11). -/
def State.viewGbx (s : State) (sub : Nat) : Option Val :=
  match sub with
  | 4 => some (s.get (Od.SHF_GEAR_STATE 0)) | 5 => some (s.get (Od.SHF_GEAR_STATE 1))
  | 6 => some (s.get (Od.PRK_PARK_STATE 0)) | 7 => some (s.get (Od.PRK_PARK_STATE 1))
  | _ => s.viewDrive .gbx 0x0B sub

def State.viewAxle (s : State) (sub : Nat) : Option Val :=
  if sub = 1 then some (s.flagged Od.AXLE_AXLE_STATUS [(2, s.owner .tra != s.owner .trb)]) else none

/-- SOL_STATUS: CLAIMED by a park lock, DITHERING, ENERGISED, ENABLED; FUNCTION as the park locks name it; ON_TIME_s
(Tables 10.7, 10.15, 10.16). -/
def State.viewSolenoid (s : State) (n sub : Nat) : Option Val :=
  if sub = 1 then
    let on : Bool := s.num (Od.SOL_DUTY n) != 0
    some (s.flagged (Od.SOL_SOL_STATUS n) [(0, s.solEnabled), (1, on),
      (2, on && s.nat (Od.SOL_DITHER_Hz n) != 0 && s.num (Od.SOL_DITHER_A n) != 0), (6, (s.solSide n).isSome)])
  else if sub = 2 then some (natVal (match s.solSide n with
    | some t => 3 + t.val
    | none => if n < 4 then 0 else if n < 6 then 1 else 2))
  else if sub = 0x0B then
    let x := s.gbx.sols.get (Fin.ofNat 8 n)
    some (natVal ((x.ticks + if s.num (Od.SOL_DUTY n) = 0 then 0 else s.tb - x.lastTb) / sec 1))
  else none

/-- FORK_RECORD of a side, and OUT_SPEED in use where it is known. -/
def State.viewShift (s : State) (sub : Nat) : Option Val :=
  let record (t : Fin 2) : Val :=
    let r := s.gbx.records.get (forkOf t)
    natVal (r.state % 16 + (if r.moving then 16 else 0) + (if r.valid then 32 else 0))
  if sub = 0x1F then some (record 0) else if sub = 0x2F then some (record 1)
  else if sub = 0x1B then (s.outSpeed 0).map .num else if sub = 0x2B then (s.outSpeed 1).map .num else none

/-! ### Sensors and monitors (Tables 14.12, 14.6) -/

def viewSensor (n sub : Nat) : Option Val :=
  if sub = 2 then some (.bytes ((Config.sensorName n).take 24)) else none

def viewMonitor (n sub : Nat) : Option Val :=
  if sub = 2 then some (.bytes ((Config.monitorName n).take 24)) else none

/-! ### Check-value units, CAN, time (Tables 17.11, 18.8 to 18.11) -/

def State.viewCrc (s : State) (n sub : Nat) : Option Val :=
  if sub = 1 then
    some (s.flagged (Od.CRC_CRC_STATUS n) [(0, decide (n < 2)), (2, (s.crcBound (Fin.ofNat 4 n)).isSome)])
  else none

/-- CH_STATUS: a channel that nothing keeps off-line and that does not take part is integrating (R458); one in bus-off is
recovering (R456). -/
def State.chanStatus (s : State) (c : Fin 4) : Nat :=
  let x := s.chan c
  let off := s.offCause c
  let err := if x.busOff then 2 else if !x.online then 3 else if x.atLevel 128 then 1 else 0
  let held := (List.finRange 16).any fun i => (s.slot c i).held && (s.slot c i).msg.isSome
  [(0, s.bit (Od.CAN_CH_CTRL c) 0), (1, x.online && !x.busOff), (2, x.atLevel 96), (5, x.clockHold), (6, s.fdOn c),
    (7, s.fdOn c && decide (2000 ≤ (s.canRates c).2)), (8, x.restricted), (9, !off && !x.online),
    (10, x.busOff), (11, held), (12, c == 0 && s.addrOk), (13, c == 0 && s.canA.lost)].foldl
    (fun n e => withBit n e.1 e.2) (8 * err)

/-- The transmit slots of Table 18.3 that firmware 4.2 claims. -/
def State.slotClaimed (s : State) (c : Fin 4) (i : Nat) : Bool :=
  let conns := ((List.range 16).filter fun k => s.nat (Od.HSF_CONN_ROLE k) != 0 && s.nat (Od.HSF_CONN_MEDIUM k) == 0 &&
    s.nat (Od.HSF_CONN_CHANNEL k) == c.val).length
  decide (1 ≤ i ∧ i ≤ min conns 7) || match c with
    | 0 => decide (8 ≤ i ∧ i ≤ 12)
    | 1 => i == 0
    | _ => i == 8

/-- FILTER_CTRL of a claimed filter, with CLAIMED. -/
def filterWord (f : CanFilter) : Nat :=
  (if f.enable then 2 ^ 31 else 0) + (if f.ide then 2 ^ 30 else 0) + 2 ^ 28 * f.frame + 2 ^ 26 * f.target + 2 ^ 25

/-- A filter and a slot, as the session's selectors choose them. -/
def State.viewFilter (s : State) (c : Fin 4) (f sub : Nat) : Option Val :=
  if f < 32 then
    match sub with
    | 0x15 => some (natVal (filterWord (s.filter c f)))
    | 0x16 => some (natVal (s.filter c f).ident)
    | 0x17 => some (natVal (s.filter c f).mask)
    | _ => none
  else none

def State.viewSlot (s : State) (c : Fin 4) (i : Fin 16) (sub : Nat) : Option Val :=
  let x := s.slot c i
  match sub with
  | 0x1A => some (natVal ((if x.msg.isNone then 0 else if x.held then 2 else 1) + (if i.val < 8 then 64 else 0)
      + if s.slotClaimed c i then 128 else 0))
  | 0x1B => some (natVal (match x.msg with | some m => m.ident + (if m.ide then 2 ^ 31 else 0) | none => 0))
  | 0x1C => some (natVal x.staleUs)
  | _ => none

def State.viewChannel (s : State) (who : Requester) (n sub : Nat) : Option Val :=
  let c : Fin 4 := Fin.ofNat 4 n
  let x := s.chan c
  let sess := s.sessOf who
  match sub with
  | 1 => some (natVal (s.chanStatus c))
  | 5 => some (natVal (min x.tec 255))
  | 6 => some (natVal (min x.rxErr 255))
  | 7 => some (natVal x.rxq0.length)
  | 8 => some (natVal x.rxq1.length)
  | 9 => some (natVal x.fifo.length)
  | 0x14 => some (natVal (sess.filterSel.get c))
  | 0x19 => some (natVal (sess.slotSel.get c))
  | 0x21 => some (natVal (if s.addrOk then s.canA.addr.getD 0xFE else 0xFE))
  | 0x22 => some (natVal s.canA.name)
  | _ => (s.viewFilter c (sess.filterSel.get c) sub).orElse fun _ => s.viewSlot c (Fin.ofNat 16 (sess.slotSel.get c)) sub

/-- LISTENING: a module that can be the master and has none of a better rank listens before it sends (R463; DEDUCED,
assumption 53). -/
def State.listening (s : State) : Bool :=
  s.time.rank != 0 && !s.time.master && s.timeBus && s.dictUp &&
    (s.nat Od.TIME_MASTER_RANK == 0 || decide (s.time.rank < s.nat Od.TIME_MASTER_RANK))

def State.viewTime (s : State) (sub : Nat) : Option Val :=
  match sub with
  | 1 => some (natVal ((if s.time.sync then 1 else 0) + (if s.time.master then 2 else 0) + if s.listening then 4 else 0))
  | 4 => some (natVal s.gt)
  | 5 => some (natVal s.gt10us)
  | _ => none

/-! ### Ethernet, service paths, authentication (Tables 19.12 to 19.15) -/

def State.viewEth (s : State) (sub : Nat) : Option Val :=
  match sub with
  | 1 => some (s.flagged Od.ETH_ETH_STATUS [(0, s.sessions.linkUp), (1, s.sessions.phyMaster), (2, s.bringup.podlOk),
      (3, (List.finRange 4).any fun i => (s.sessOf (.eth i)).isOpen && (s.sessOf (.eth i)).localSvc)])
  | 2 => some (natVal (Config.macAddr % 2 ^ 48))
  | _ => none

/-- SESSIONS_OPEN: the Ethernet sessions above OPERATOR, and the CAN-D session. -/
def State.sessionsOpen (s : State) : Nat :=
  1 + ((List.finRange 4).filter fun i => (s.sessOf (.eth i)).isOpen && (s.sessOf (.eth i)).role != .operator).length

def State.viewService (s : State) (who : Requester) (sub : Nat) : Option Val :=
  match sub with
  | 6 => some (natVal s.sessionsOpen)
  | 7 => some (natVal (s.codeOf who))
  | 8 => some (natVal (s.sessOf who).role.num)
  | _ => none

/-- The nonce of a session while it is valid (R480). -/
def State.liveNonce (s : State) (who : Requester) : List Byte :=
  match (s.sessOf who).nonce with
  | some (b, t) => if s.tb < t + sec 10 then b else []
  | none => []

def State.viewAuth (s : State) (who : Requester) (sub : Nat) : Option Val :=
  let p := s.pathOf (onCanPath who)
  let left : Nat := match p.lockEnd with
    | some t => (t - s.tb + 99999999) / 100000000
    | none => 0
  match sub with
  | 2 => some (.bytes (s.liveNonce who))
  | 4 => some (natVal (if s.pathLocked who then 2 else if s.liveNonce who ≠ [] then 1 else 0))
  | 5 => some (natVal left)
  | 6 => some (natVal p.lockLevel)
  | 7 => some (natVal p.failRun)
  | _ => none

/-! ### Images, safety set, Pyreri (Tables 15.9, 16.10, 20.6, 20.7) -/

def State.viewImage (s : State) (sub : Nat) : Option Val :=
  let act := s.bank s.img.active
  let other := s.bank (otherBank s.img.active)
  match sub with
  | 1 => some (s.flagged Od.IMG_IMG_STATUS [(0, s.updating), (1, other.state == .committed && decide (act.gen < other.gen))])
  | 2 => some (natVal s.img.active)
  | 3 => some (natVal (s.bank 0).state.code) | 4 => some (natVal (s.bank 1).state.code)
  | 5 => some (natVal (s.bank 0).version) | 6 => some (natVal (s.bank 1).version)
  | 7 => some (natVal (s.bank 0).gen) | 8 => some (natVal (s.bank 1).gen)
  | _ => none

/-- SET_CRC_ACT: the check value stored with the active set; the shipped set's is computed. -/
def State.activeCrc (s : State) : Nat :=
  match s.safety.setCrc with
  | some c => c
  | none => setCrc dictDefault

/-- LV_STATUS with the line ATTN. -/
def State.viewPath (s : State) (sub : Nat) : Option Val :=
  if sub = 1 then some (s.flagged Od.LV_LV_STATUS [(4, s.attn)]) else none

def State.viewSet (s : State) (sub : Nat) : Option Val :=
  match sub with
  | 1 =>
    let editing := [Requester.eth 0, .eth 1, .eth 2, .eth 3, .canD].any fun w => (s.sessOf w).staging.isSome
    some (natVal (if s.safety.newSet.isSome then 3 else if editing then 2 else if s.safety.invalid then 0 else 1))
  | 6 => some (natVal s.activeCrc)
  | _ => none

/-- TQO_STATE: both channels of every pair (Table 15.11). -/
def State.tqoState (s : State) : Nat :=
  Drive.all.foldl (fun a d => a + if s.tqoAsserted d then 3 * 4 ^ d.num else 0) 0

/-- TQO_READBACK: the command but for the channels whose report differs (R394). -/
def State.tqoReadback (s : State) : Nat :=
  Drive.all.foldl (fun a d => a + ((if s.tqoAsserted d then 3 else 0) ^^^ (s.safe d).rbDiff % 4) * 4 ^ d.num) 0

def State.viewPyr (s : State) (sub : Nat) : Option Val :=
  match sub with
  | 7 => some (natVal s.tqoState)
  | 8 => some (natVal s.tqoReadback)
  | 0x12 => some (natVal ((s.tb - s.pyr.exch.tb) / 100))
  | 0x1D => some (natVal (Config.laneFwCrc (s.bank s.img.active).gen % 2 ^ 32))
  | _ => none

/-- CAL_RUNNING: a recalibration collects samples, or step 3 of an arming sequence takes them (R104, R105). -/
def State.calRunning (s : State) (n : Nat) : Bool :=
  s.bit (Od.SH_CH_STATUS n) 6 ||
    ((s.cell (cellOf (legCell n))).armStep == 3 && (s.drv (cellDrive (legCell n))).arming != .none)

/-! ### All of them -/

/-- What a read shows in place of the stored value; none where the store holds it. -/
def State.view (s : State) (who : Requester) (index sub : Nat) : Option Val :=
  if index < 0x2000 then s.viewComm index sub
  else if index = 0x2000 then s.viewId sub
  else if index = 0x2001 then s.viewSys sub
  else if index = 0x2002 then (if sub = 6 then some (natVal (8 + Config.podlClass % 2)) else none)
  else if index = 0x2003 then s.viewReset sub
  else if index = 0x2004 then s.viewRetained sub
  else if index = 0x2006 then s.viewLog who sub
  else if index = 0x2007 then s.viewCount who sub
  else if 0x2100 ≤ index ∧ index ≤ 0x2117 then s.viewEngine (index - 0x2100) sub
  else if index = 0x2120 then s.viewPool sub
  else if index = 0x2121 then
    if sub = 1 then some (natVal (s.sessOf who).taskSel) else s.viewTask (Fin.ofNat 59 (s.sessOf who).taskSel) sub
  else if 0x2400 ≤ index ∧ index ≤ 0x240E ∧ sub = 1 then some (s.cellStatus (cellOf (index - 0x2400)))
  else if 0x2500 ≤ index ∧ index ≤ 0x2531 ∧ sub = 1 then
    some (s.flagged (Od.SH_CH_STATUS (index - 0x2500)) [(0, s.bringup.islandOn), (6, s.calRunning (index - 0x2500))])
  else if 0x2540 ≤ index ∧ index ≤ 0x2543 then s.viewConverter (index - 0x2540) sub
  else if 0x2548 ≤ index ∧ index ≤ 0x254F then s.viewSequencer (index - 0x2548) sub
  else if 0x2560 ≤ index ∧ index ≤ 0x256F then s.viewComparator (index - 0x2560) sub
  else if 0x2600 ≤ index ∧ index ≤ 0x2607 ∧ sub = 1 then
    some (s.axisStatus (Fin.ofNat 8 (index - 0x2600)))
  else if 0x2620 ≤ index ∧ index ≤ 0x2627 then s.viewObserver (index - 0x2620) sub
  else if 0x2640 ≤ index ∧ index ≤ 0x264B then s.viewPosition (index - 0x2640) sub
  else if 0x2700 ≤ index ∧ index ≤ 0x2717 then s.viewLoop (index - 0x2700) sub
  else if index = 0x2800 then s.viewDrive .tra 0x15 sub
  else if index = 0x2801 then s.viewDrive .trb 0x15 sub
  else if index = 0x2802 then s.viewGbx sub
  else if index = 0x2803 then s.viewDrive .aux 5 sub
  else if index = 0x2804 then s.viewDrive .chg 7 sub
  else if index = 0x2805 then s.viewDrive .brk 5 sub
  else if index = 0x2810 then s.viewAxle sub
  else if 0x2820 ≤ index ∧ index ≤ 0x2827 then s.viewSolenoid (index - 0x2820) sub
  else if index = 0x2830 then s.viewShift sub
  else if index = 0x2B40 then s.viewPath sub
  else if index = 0x2C10 then
    if sub = 1 then some (natVal (s.sessOf who).sensorSel) else viewSensor (s.sessOf who).sensorSel sub
  else if index = 0x2C80 then
    if sub = 1 then some (natVal (s.sessOf who).vmonSel) else viewMonitor (s.sessOf who).vmonSel sub
  else if 0x2E00 ≤ index ∧ index ≤ 0x2E03 then s.viewCrc (index - 0x2E00) sub
  else if 0x2F00 ≤ index ∧ index ≤ 0x2F03 then s.viewChannel who (index - 0x2F00) sub
  else if index = 0x2F10 then s.viewTime sub
  else if index = 0x3000 then s.viewEth sub
  else if index = 0x3010 then s.viewService who sub
  else if index = 0x3020 then s.viewAuth who sub
  else if index = 0x3100 then s.viewImage sub
  else if index = 0x3110 ∧ sub = 0x0F then some (natVal (s.sessOf who).readOffset)
  else if index = 0x4000 then s.viewSet sub
  else if index = 0x4100 then s.viewPyr sub
  else none

end Sys2Proof.Machine
end

