-- ==== Sys2Proof/Machine/Access.lean ====
section
/-! DEFINITION. Every object's read and write: the checks of Table 19.3 in their order, the value and state rules the
object tables and their chapters state, and the paths an access comes on, the SDO server, the service protocol and a
plain register write (R473 to R477). -/
namespace Sys2Proof.Machine

/-! ### Keys, rows, roles -/

/-- The key of an object, with the instance that the session's selectors choose (R255, R375, R376, R470). -/
def State.objKey (s : State) (who : Requester) (index sub : Nat) : Nat :=
  let k := 256 * index + sub
  let x := s.sessOf who
  let bank (b : Nat) : Nat := k + 16777216 * (b + 1)
  if index = 0x2121 ∧ 2 ≤ sub then bank x.taskSel
  else if index = 0x2C10 ∧ 2 ≤ sub then bank x.sensorSel
  else if index = 0x2C80 ∧ 2 ≤ sub then bank x.vmonSel
  else if 0x2F00 ≤ index ∧ index ≤ 0x2F03 ∧ 0x15 ≤ sub ∧ sub ≤ 0x18 then
    bank (x.filterSel.get (Fin.ofNat 4 (index - 0x2F00)))
  else k

/-- The object exists: its row, or the abort code. -/
def objRow (index sub : Nat) : Except Nat DictRow :=
  match dictTable index with
  | none => .error 0x06020000
  | some _ => match dictRow (256 * index + sub) with
    | some r => .ok r.2
    | none => .error 0x06090011

/-- The access code; the limits of monitor channels 8 to 23 are read-only (R376). -/
def State.accessOf (s : State) (who : Requester) (index sub : Nat) (r : DictRow) : Access :=
  if index = 0x2C80 ∧ (sub = 6 ∨ sub = 7) ∧ 8 ≤ (s.sessOf who).vmonSel then .ro else r.acc

/-- The write-only objects that ask for a session: SELFTEST, CONFIG_LOAD, COMMIT, LOG_CLEAR, FAULT_OCC_CLEAR, PEAT_CMD,
UPD_CMD; the safety set, SAFE_RELEASE, CONFIG_REQ and the keys. -/
def commandRole (index sub : Nat) : Role :=
  if (index = 0x4000 ∧ sub ≠ 3) ∨ index = 0x4080 ∨ index = 0x4100 ∨ (index = 0x3020 ∧ 8 ≤ sub) then .safety
  else if (0x2400 ≤ index ∧ index ≤ 0x240E) ∨ index = 0x2120 ∨ (0x2700 ≤ index ∧ index ≤ 0x2717) ∨
      (index = 0x2006 ∧ sub = 8) ∨ (index = 0x2007 ∧ sub = 7) ∨ (index = 0x2B40 ∧ sub = 0x19) ∨ index = 0x3100 then .service
  else .operator

/-- The role a write needs (Table 19.2). -/
def writeRole (a : Access) (index sub : Nat) : Role :=
  match a with
  | .rws => .service | .safe => .safety | .wo => commandRole index sub | _ => .operator

/-! ### Ranges (R475) -/

/-- The range a value is held to: the row's, or that of its cell, axis, interface or mode (Table 3.3, Table 6.9, Table
7.5, Table 13.24, Table 13.27, Table 11.7). -/
def State.rangeOf (s : State) (index sub : Nat) (r : DictRow) : Rng :=
  let part (n lo hi : Nat) : Rng := .num (lo * fullScale (3 * n) / 100) (hi * fullScale (3 * n) / 100)
  if 0x2400 ≤ index ∧ index ≤ 0x240E then
    let c := index - 0x2400
    if sub = 0x0E then .num (ocTripRange c).1 (ocTripRange c).2
    else if sub = 0x0F then .int (fswRange c).1 (fswRange c).2
    else if 8 ≤ sub ∧ sub ≤ 0x0B then .int 160 (s.int (Od.CELL_BLANK_MAX c))
    else r.rng
  else if 0x2620 ≤ index ∧ index ≤ 0x2627 then
    let n := index - 0x2620
    match sub with
    | 6 => part n 2 50 | 9 => part n 1 10 | 0x0A => part n 5 50 | 0x0B => part n 2 20 | _ => r.rng
  else if 0x2640 ≤ index ∧ index ≤ 0x264B ∧ sub = 4 then
    (if 0x2644 ≤ index ∧ index ≤ 0x2647 then .int 200 20000 else .int 20 500)
  else if index = 0x2900 ∧ 5 ≤ sub ∧ sub ≤ 0x0B then .any
  else if index = 0x2900 ∧ sub = 0x0E then .int 1000 (s.int (Od.CELL_FSW_MAX 14))
  else if index = 0x2B20 ∧ sub = 2 then .num 450 (s.num Od.DCL_CHOP_START - 10)
  else if index = 0x2B60 ∧ sub = 6 then .num 1000 (exportRated (s.nat Od.EXP_EXP_MODE)).2.2.1
  else r.rng

/-! ### Codes of Tables 8.1 and 8.2 -/

def sourceOk (src : Nat) : Bool :=
  let i := src % 256
  match src / 256 with
  | 0 => i == 0 | 1 => decide (i < 50) | 2 => decide (i < 128) | 3 => decide (i < 8) | 4 => decide (i < 12)
  | 5 => decide (i < 12) | 6 => decide (i < 8) | 7 => i == 0 | 8 => i == 0 | 9 => decide (i < 24) | _ => false

/-- The drive of a destination; none where the code names nothing. -/
def State.destDrive (s : State) (dest : Nat) : Option Nat :=
  let i := dest % 256
  match dest / 256 with
  | 1 => if i < 2 then some i else none
  | 2 => if i < 2 then some i else none
  | 3 => if 4 ≤ i ∧ i ≤ 7 then some 2 else none
  | 4 => if i < 8 then some 2 else none
  | 5 => if 8 ≤ i ∧ i ≤ 14 then some (cellDrive i).num else none
  | 6 => if i < 24 then some (s.nat (Od.LU_DRIVE i)) else none
  | 7 => if i = 0 then some 3 else none
  | _ => none

/-! ### Value rules beyond the range (0x06090030) -/

/-- Every band keeps DWELL_MIN_ns ≥ DT + BLANK + 100 ns; a GATE step is 1.25 ns (R73, R75). -/
def State.dwellOk (s : State) (c : Nat) : Bool :=
  (List.range 4).all fun b =>
    decide (5 * (s.nat (Od.CELL_DT_B c b) + s.nat (Od.CELL_BLANK c b)) + 400 ≤ 4 * s.nat (Od.CELL_DWELL_MIN_ns c))

/-- Cells: the dwell condition, and the limits that DAB_IPK, PH_I_MAX and FSW_AUX hang on (R303, R305,
R313). `t` holds the new value. -/
def State.cellValueOk (t : State) (c sub : Nat) : Bool :=
  (!(decide (4 ≤ sub ∧ sub ≤ 0x0B) || sub == 0x10) || t.dwellOk c) &&
  (!(c == 9 && sub == 0x0E) || decide (t.num Od.CNV_DAB_IPK + 20 ≤ t.num (Od.CELL_OC_TRIP 9))) &&
  (!(c == 10 && sub == 0x0E) || decide (t.num Od.CNV_PH_I_MAX + 20 ≤ t.num (Od.CELL_OC_TRIP 10))) &&
  (!(c == 10 && sub == 0x0F) || decide (t.nat Od.CNV_FSW_AUX ≤ t.nat (Od.CELL_FSW_MAX 10))) &&
  (sub != 0x0F || t.luRatesOk 1 c)

/-- Sequencers: an entry's fields (Table 4.14). -/
def entryOk (v : Nat) : Bool :=
  decide (4 ≤ v / 2 ^ 16 % 256) && decide (v / 2 ^ 8 % 16 ≤ 4) && v / 2 ^ 24 == 0 && v / 2 ^ 12 % 16 == 0 &&
  v / 2 ^ 5 % 8 == 0

/-- Comparators: LO below HI in the window modes, 10 ns steps, the blanking cell on the island, a stage cell with PERIOD
(R121 to R124, Table 4.17). -/
def State.comparatorOk (t : State) (n sub : Nat) : Bool :=
  let w := t.nat (Od.GCP_GCP_CTRL n)
  let cell := t.nat (Od.GCP_BLANK_CELL n)
  (w % 2 ^ 27 == 0) &&
  (!(2 ≤ w / 2 ^ 29 % 4 : Bool) || decide (t.nat (Od.GCP_LO_CODE n) < t.nat (Od.GCP_HI_CODE n))) &&
  (sub != 7 || t.nat (Od.GCP_FILTER_ns n) % 10 == 0) && (sub != 9 || t.nat (Od.GCP_BLANK_ns n) % 10 == 0) &&
  (cell == 255 || (decide (cell < 15) && (cellLink cell).num == n / 4)) &&
  (!w.testBit 28 || decide (8 ≤ cell ∧ cell ≤ 14))

/-- Interfaces: PIF_CTRL, COUNTS_PER_REV and the SSI timing (R200, R202, R207, Tables 7.5, 7.6). -/
def State.interfaceOk (t : State) (n sub : Nat) : Bool :=
  let w := t.nat (Od.PIF_PIF_CTRL n)
  let mode := t.nat (Od.PIF_MODE n)
  let cpr := t.nat (Od.PIF_COUNTS_PER_REV n)
  let bits := t.nat (Od.PIF_SSI_BITS n)
  let posBits := bits - (if (t.nat (Od.PIF_SSI_FORMAT n)).testBit 1 then 1 else 0)
  match sub with
  | 3 => w / 2 ^ 8 == 0 && w / 2 ^ 4 % 4 != 3 && (w / 2 ^ 4 % 4 == 0 || !(mode == 2 || mode == 3))
  | 5 => mode != 2 && (mode != 3 || cpr == 0 || cpr == 6 * t.nat (Od.AX_POLE_PAIRS n))
  | k => decide (k < 0x13 ∨ 0x17 < k) ||
    (decide ((bits + 1) * 1000 + 20 * t.nat (Od.PIF_SSI_CLK_kHz n) ≤ t.nat (Od.PIF_SSI_PERIOD_us n) * t.nat (Od.PIF_SSI_CLK_kHz n)) &&
      decide (t.nat (Od.PIF_SSI_TURN_BITS n) ≤ posBits))

/-- The trigger of a unit: selection, and the period, the cell and divider, or the sequencer (R216). -/
def State.luTrigger (s : State) (n : Nat) : List Nat :=
  let sel := s.field (Od.LU_LU_CTRL n) 29 2
  match sel with
  | 0 => [0, s.nat (Od.LU_TRIG_PERIOD_us n)]
  | 1 => [1, s.nat (Od.LU_TRIG_UNIT n), s.nat (Od.LU_TRIG_DIV n)]
  | _ => [sel, s.nat (Od.LU_TRIG_UNIT n)]

/-- A unit and the one it is paired with have one drive and one trigger (R224). -/
def State.luPairOk (t : State) (n : Nat) : Bool :=
  let m := t.nat (Od.LU_MINSEL n)
  decide (24 ≤ m) || t.nat (Od.LU_MINSEL m) != n ||
    (t.nat (Od.LU_DRIVE m) == t.nat (Od.LU_DRIVE n) && t.luTrigger m == t.luTrigger n)

/-- Loop units: the control word, the trigger and its rate, sources, destinations and pairing (R216 to R224, Table 8.9,
Table 8.11). -/
def State.unitOk (t : State) (n sub : Nat) : Bool :=
  let w := t.nat (Od.LU_LU_CTRL n)
  let sel := w / 2 ^ 29 % 4
  let unit := t.nat (Od.LU_TRIG_UNIT n)
  let trigger := decide (t.luRate n ≤ 200000) && (sel != 1 || decide (8 ≤ unit ∧ unit ≤ 14)) && (sel != 2 || decide (unit < 8))
  let m := t.nat (Od.LU_MINSEL n)
  let source := t.nat (Od.LU_FB_SRC n) != 0 || w / 2 ^ 27 % 4 == 2
  match sub with
  | 2 => w % 2 ^ 27 == 0 && w / 2 ^ 27 % 4 != 3 && sel != 3 && trigger && source && t.luPairOk n
  | 3 => t.luPairOk n
  | 5 => trigger && t.luPairOk n
  | 6 => decide (unit ≤ 14) && trigger && t.luPairOk n
  | 7 => trigger && t.luPairOk n
  | 8 => sourceOk (t.nat (Od.LU_FB_SRC n)) && source
  | 0x0D => decide (t.num (Od.LU_OUT_MIN n) < t.num (Od.LU_OUT_MAX n))
  | 0x0E => decide (t.num (Od.LU_OUT_MIN n) < t.num (Od.LU_OUT_MAX n))
  | 0x10 => t.nat (Od.LU_OUT_DEST n) == 0 || t.destDrive (t.nat (Od.LU_OUT_DEST n)) == some (t.nat (Od.LU_DRIVE n))
  | 0x11 => m == 255 || (decide (m < 24) && m != n && t.nat (Od.LU_DRIVE m) == t.nat (Od.LU_DRIVE n) &&
      t.luTrigger m == t.luTrigger n)
  | 0x24 => decide (1 / 2 ≤ t.num (Od.LU_NOTCH_WIDTH n) ∧ t.num (Od.LU_NOTCH_WIDTH n) ≤ 2 * t.num (Od.LU_NOTCH_F0 n))
  | _ => true

/-- The auxiliary converter (R303, R305, R313). -/
def State.converterOk (t : State) (sub : Nat) : Bool :=
  match sub with
  | 0x15 => decide (t.nat Od.CNV_FSW_AUX ≤ t.nat (Od.CELL_FSW_MAX 10))
  | 0x19 => decide (t.nat Od.CNV_DAB_Hz ≤ t.nat (Od.CELL_FSW_MAX 8) ∧ t.nat Od.CNV_DAB_Hz ≤ t.nat (Od.CELL_FSW_MAX 9))
  | 0x1A => decide (t.num Od.CNV_DAB_IPK + 20 ≤ t.num (Od.CELL_OC_TRIP 9))
  | 0x24 => decide (t.num Od.CNV_PH_I_MAX + 20 ≤ t.num (Od.CELL_OC_TRIP 10))
  | _ => true

/-- CAN channels: DATA_kbps at least NOM_kbps, FD off on CAN-A, the fields of a filter (R448, R450, Table 18.9). -/
def State.channelOk (t : State) (c sub v : Nat) : Bool :=
  match sub with
  | 2 => c != 0 || !v.testBit 2
  | 3 => t.nat (Od.CAN_DATA_kbps c) == 0 || decide (v ≤ t.nat (Od.CAN_DATA_kbps c))
  | 4 => v == 0 || decide (t.nat (Od.CAN_NOM_kbps c) ≤ v)
  | 0x15 => v % 2 ^ 26 == 0 && v / 2 ^ 28 % 4 != 3 && v / 2 ^ 26 % 4 != 1 && v / 2 ^ 26 % 4 != 3
  | _ => true

/-- Capture: the memory's rows, the stream's rate, the trigger's channel and code, the sources (R511, R512, R514). -/
def State.captureOk (t : State) (sub v : Nat) : Bool :=
  let ch := t.nat Od.CAP_CAP_CHANNELS
  if 0x20 ≤ sub then sourceOk v
  else if sub = 8 then decide (v < ch)
  else if sub = 0x0A ∨ sub = 7 then t.nat Od.CAP_TRIG_MODE != 5 || decide (t.nat Od.CAP_TRIG_CODE ≤ 5)
  else decide (t.nat Od.CAP_PRE_ROWS + t.nat Od.CAP_POST_ROWS ≤ capCapacity ch) &&
    (t.nat Od.CAP_CAP_MODE != 1 || decide (ch * 32000000 ≤ 60000000 * t.nat Od.CAP_CAP_PERIOD_us))

/-- The value rules of every other object; `t` is the state with the value written, `v` the value as an integer. -/
def State.valueOk (t : State) (index sub : Nat) (v : Nat) : Bool :=
  if 0x2400 ≤ index ∧ index ≤ 0x240E then t.cellValueOk (index - 0x2400) sub
  else if 0x2500 ≤ index ∧ index ≤ 0x2531 then sub != 9 || v % 10 == 0
  else if 0x2548 ≤ index ∧ index ≤ 0x254F then
    (if sub = 5 then t.luRatesOk 2 (index - 0x2548) else decide (sub < 0x10) || entryOk v)
  else if 0x2560 ≤ index ∧ index ≤ 0x256F then t.comparatorOk (index - 0x2560) sub
  else if 0x2640 ≤ index ∧ index ≤ 0x264B then t.interfaceOk (index - 0x2640) sub
  else if 0x2700 ≤ index ∧ index ≤ 0x2717 then t.unitOk (index - 0x2700) sub
  else if index = 0x2004 then sub != 4 || v % 16 == 0
  else if index = 0x2006 then sub != 6 || decide (v ≤ t.log.written)
  else if index = 0x2007 then eventSeverity v == .fault || eventSeverity v == .safe
  else if index = 0x2121 then sub != 1 || decide (v < taskCount)
  else if index = 0x2200 then !(decide (0x0F ≤ sub ∧ sub ≤ 0x12) && v == 1)
  else if index = 0x2A00 then t.converterOk sub
  else if index = 0x2B20 then
    !(sub == 0x11 || sub == 0x12) || bmsIdsOk (t.nat Od.HV_BMS_RX_ID) (t.nat Od.HV_MOD_TX_ID)
  else if index = 0x2B40 then
    (sub != 0x0C || decide (t.num Od.LV_LV_RECHARGE_V < t.num Od.LV_LV_CV_V)) &&
    (sub != 0x1A || (!v.testBit 0 && decide (v < 2 ^ 18)))
  else if 0x2F00 ≤ index ∧ index ≤ 0x2F03 then t.channelOk (index - 0x2F00) sub v
  else if index = 0x3110 then (if sub = 0x0F then v % 4 == 0 else t.captureOk sub v)
  else true

/-! ### State rules (0x08000022) -/

/-- Loop units: what is fixed in LU16 to LU23, DRIVE between two free drives, DRIVE and MINSEL of a unit that does not
run, REF by the owner of the unit's drive (R220, R221, R234, Table 8.7). -/
def State.unitState (s : State) (who : Requester) (n sub v : Nat) : Bool :=
  let u := s.lu (Fin.ofNat 24 n)
  let claimed := decide (16 ≤ n)
  match sub with
  | 2 => !claimed || v / 2 ^ 29 % 4 == s.field (Od.LU_LU_CTRL n) 29 2
  | 3 => !claimed && !u.running && s.paramState (driveOf (s.nat (Od.LU_DRIVE n))) && s.paramState (driveOf v)
  | 5 => !claimed | 6 => !claimed | 7 => !claimed | 8 => !claimed | 0x10 => !claimed
  | 9 => s.owns who (driveOf (s.nat (Od.LU_DRIVE n)))
  | 0x11 => !claimed && !u.running
  | _ => true

/-- CAN channels: rates and FD_EN with ENABLE 0, FD_EN of a safe connection's channel, claimed filters (R439, R448,
R450). -/
def State.channelState (s : State) (who : Requester) (c sub v : Nat) : Bool :=
  let old := s.nat (Od.CAN_CH_CTRL c)
  let safe := (List.range 16).any fun k => s.nat (Od.HSF_CONN_ROLE k) != 0 && s.nat (Od.HSF_CONN_MEDIUM k) == 0 &&
    s.nat (Od.HSF_CONN_CHANNEL k) == c
  match sub with
  | 2 => (old.testBit 2 == v.testBit 2 || !old.testBit 0) && (v.testBit 2 || !safe)
  | 3 => !old.testBit 0
  | 4 => !old.testBit 0
  | k => !(decide (0x15 ≤ k ∧ k ≤ 0x17)) || decide (32 ≤ (s.sessOf who).filterSel.get (Fin.ofNat 4 c))

/-- The drive whose parameter states a block's parameters keep to (R75, R103, R160, R192, R210, R280, R283, R284, R299,
R323, R324, R353, R355 to R357); none where no such rule is stated. -/
def ruleDrive (index sub : Nat) : Option Drive :=
  if 0x2400 ≤ index ∧ index ≤ 0x240E then some (cellDrive (index - 0x2400))
  else if 0x2500 ≤ index ∧ index ≤ 0x2531 then
    (if sub = 9 ∨ sub = 0x0E then some (cellDrive (legCell (index - 0x2500))) else none)
  else if 0x2600 ≤ index ∧ index ≤ 0x2607 then some (cellDrive (index - 0x2600))
  else if 0x2620 ≤ index ∧ index ≤ 0x2627 then some (cellDrive (index - 0x2620))
  else if 0x2640 ≤ index ∧ index ≤ 0x264B then some (pifDrive (index - 0x2640))
  else if index = 0x2800 then some .tra
  else if index = 0x2801 then some .trb
  else if index = 0x2802 then some .gbx
  else if index = 0x2804 then some .chg
  else if index = 0x2830 ∧ sub ≠ 0x1B ∧ sub ≠ 0x2B then some .gbx
  else if index = 0x2838 then some .gbx
  else if index = 0x2A00 then some .aux
  else if index = 0x2B20 ∨ index = 0x2B60 then some .chg
  else if index = 0x2B40 ∧ sub < 0x19 then some .aux
  else none

/-- The state rules of an object. -/
def State.stateOk (s : State) (who : Requester) (index sub v : Nat) : Bool :=
  (match ruleDrive index sub with | some d => s.paramState d | none => true) &&
  if 0x2548 ≤ index ∧ index ≤ 0x254F then index == 0x254E && !s.bit (Od.SQ_SQ_CTRL 6) 31
  else if 0x2700 ≤ index ∧ index ≤ 0x2717 then s.unitState who (index - 0x2700) sub v
  else if 0x2F00 ≤ index ∧ index ≤ 0x2F03 then s.channelState who (index - 0x2F00) sub v
  else if index = 0x3110 ∧ sub ≠ 0x0F then !(s.capState == 1 || s.capState == 2 || s.capState == 4)
  else true

/-! ### Effects -/

/-- A session's selector: TASK_SEL, SENSOR_SEL, VMON_SEL, FAULT_OCC_SEL, LOG_SEL, FILTER_SEL, SLOT_SEL, READ_OFFSET. -/
def State.writeSelector (s : State) (who : Requester) (index sub v : Nat) : Option State :=
  if index = 0x2121 ∧ sub = 1 then some (s.modSess who fun x => { x with taskSel := v })
  else if index = 0x2C10 ∧ sub = 1 then some (s.modSess who fun x => { x with sensorSel := v })
  else if index = 0x2C80 ∧ sub = 1 then some (s.modSess who fun x => { x with vmonSel := v })
  else if index = 0x2007 ∧ sub = 5 then some (s.modSess who fun x => { x with occSel := v })
  else if index = 0x2006 ∧ sub = 3 then some (s.modSess who fun x => { x with logSel := v })
  else if index = 0x3110 ∧ sub = 0x0F then some (s.modSess who fun x => { x with readOffset := v })
  else if 0x2F00 ≤ index ∧ index ≤ 0x2F03 then
    let c : Fin 4 := Fin.ofNat 4 (index - 0x2F00)
    if sub = 0x14 then some (s.modSess who fun x => { x with filterSel := x.filterSel.set c v })
    else if sub = 0x19 then some (s.modSess who fun x => { x with slotSel := x.slotSel.set c v })
    else none
  else none

/-- What follows a stored parameter: threshold codes of OC_TRIP, a unit that starts or stops, OUT_DEST of a reassigned
unit, the channel's state on the bus, the export mode's ratings, the chemistry's voltage, the
AC current in force. -/
def State.follow (s : State) (index sub v : Nat) : State :=
  if 0x2400 ≤ index ∧ index ≤ 0x240E ∧ sub = 0x0E then s.thresholdCodes (cellOf (index - 0x2400))
  else if 0x2700 ≤ index ∧ index ≤ 0x2717 then
    let u : Fin 24 := Fin.ofNat 24 (index - 0x2700)
    if sub = 2 then s.luSettle u else if sub = 3 then s.setN (Od.LU_OUT_DEST u) 0 else s
  else if 0x2820 ≤ index ∧ index ≤ 0x2827 ∧ sub = 0x0A then s.solTrack (index - 0x2820)
  else if 0x2F00 ≤ index ∧ index ≤ 0x2F03 ∧ sub = 2 then
    let c : Fin 4 := Fin.ofNat 4 (index - 0x2F00)
    if (s.chan c).online then s.when (s.chan c).onBus.isNone fun s => s.frameBoundary c else s.trackFree c s.tb
  else if index = 0x2B60 ∧ sub = 3 then s.expModeEffect v
  else if index = 0x2B40 ∧ sub = 4 then s.lvChemEffect v
  else if index = 0x2B00 ∧ sub = 7 then s.acLimit
  else s

/-- The effect of a parameter's write by its value and state rules. -/
def State.storeEffect (who : Requester) (index sub key : Nat) (v : Val) (s : State) : Except Nat State :=
  let n := v.toInt.toNat
  refuseIf (index == 0x2004 && sub == 2 && n % 16 != 0) 0x06070010 <|
  refuseIf (index == 0x3100 && sub == 0x0A && (v.toBytes.isEmpty || decide (64 < v.toBytes.length))) 0x06070010 <|
  refuseIf (!(s.set key v).valueOk index sub n) 0x06090030 <|
  refuseIf (!s.stateOk who index sub n) 0x08000022 <|
  .ok (match s.writeSelector who index sub n with
    | some t => t
    | none => (s.set key v).follow index sub n)

/-- Objects whose chapters give the write an effect of its own, as a step within the request. -/
def State.ownEffect (who : Requester) (index sub : Nat) (v : Val) : Option (State → Except Nat State) :=
  let n := v.toInt.toNat
  if index = 0x2900 ∧ 5 ≤ sub ∧ sub ≤ 0x0B then some (State.thresholdEffect (256 * index + sub) v.toRat)
  else if index = 0x2121 ∧ sub = 5 then some fun s => s.periodEffect (s.sessOf who).taskSel n
  else if index = 0x2C10 ∧ sub = 6 then some fun s => s.sensorTypeWrite (s.sessOf who).sensorSel n
  else if index = 0x2C10 ∧ 0x0A ≤ sub ∧ sub ≤ 0x0D then some fun s => s.thresholdWrite (s.sessOf who).sensorSel sub v.toInt
  else if 0x2E00 ≤ index ∧ index ≤ 0x2E03 ∧ sub ≤ 7 then some fun s => s.crcConfig who (Fin.ofNat 4 (index - 0x2E00)) sub n
  else if index = 0x2804 ∧ sub = 4 then some (State.chgModeEffect who n)
  else if index = 0x2B60 ∧ sub = 2 then some (State.exportEnEffect who n)
  else if index = 0x2B40 ∧ sub = 3 then some (State.lvEnableEffect who n)
  else if index = 0x2830 ∧ (sub = 0x1B ∨ sub = 0x2B) then
    some (State.outSpeedEffect who (if sub = 0x1B then 0 else 1) v.toRat)
  else none

/-- ID_CMD of a traction set with the preconditions of Table 6.8. -/
def State.writeIdent (s : State) (who : Requester) (n : TSet) (v : Nat) : State :=
  match v with
  | 1 => s.writeIdCmd who n 1 fun s => s.emfLow n
  | 2 => s.writeIdCmd who n 2 fun s => decide (50 ≤ s.num (Od.AX_BEMF_LL_PK n))
  | 3 => s.writeIdCmd who n 3 fun s => s.nat (Od.OBS_START_MODE n) == 1 && s.emfLow n
  | _ => s.writeIdAbort who n

/-- UPD_CMD; whether the other bank still verifies, a plain write leaves open. -/
def State.writeUpdate (s : State) (who : Requester) (v : Nat) : State :=
  match v with
  | 0 => s.writeUpdateAbort who
  | 1 => s.writeUpdateStart who
  | _ => s.draw.writeRollback who (Config.freeBit s.fresh)

/-- Commands of chapters 1 to 8 (indices below 0x2800). -/
def State.writeLow (s : State) (who : Requester) (index sub : Nat) (v : Val) (data : List Byte) : Option State :=
  let n := v.toInt.toNat
  let w : BitVec 32 := BitVec.ofNat 32 (leNat data)
  if index = 0x2001 ∧ sub = 2 then some (s.writeClkLatch who n)
  else if index = 0x2003 ∧ sub = 5 then some (s.writeDriveReset who n)
  else if index = 0x2004 ∧ sub = 3 then some (s.writeCust who data)
  else if index = 0x2006 ∧ sub = 8 then some (s.writeLogClear who n)
  else if index = 0x2007 ∧ sub = 7 then some (s.writeOccClear who n)
  else if index = 0x2120 ∧ sub = 9 then some (s.writeConfigLoad who n)
  else if index = 0x2200 ∧ 1 ≤ sub ∧ sub ≤ 6 then some (s.writeOwner who (driveOf (sub - 1)) n)
  else if 0x2400 ≤ index ∧ index ≤ 0x240E ∧ sub = 0x15 then some (s.writeSelftest who (cellOf (index - 0x2400)) n)
  else if 0x2400 ≤ index ∧ index ≤ 0x240E ∧ sub = 0x1E then some (s.writeScLockout who (cellOf (index - 0x2400)) n)
  else if 0x2548 ≤ index ∧ index ≤ 0x254F ∧ sub = 3 then some (s.writeSqCtrl who (Fin.ofNat 8 (index - 0x2548)) n)
  else if 0x2548 ≤ index ∧ index ≤ 0x254F ∧ sub = 6 then some (s.writeSwTrigger who (Fin.ofNat 8 (index - 0x2548)) n)
  else if 0x2560 ≤ index ∧ index ≤ 0x256F ∧ sub = 0x0A then some (s.writeGcpClear who (Fin.ofNat 16 (index - 0x2560)) n)
  else if 0x2620 ≤ index ∧ index ≤ 0x2623 ∧ sub = 0x21 then some (s.writeIdent who (Fin.ofNat 4 (index - 0x2620)) n)
  else if 0x2620 ≤ index ∧ index ≤ 0x2623 ∧ sub = 0x28 then some (s.writeIdApply who (Fin.ofNat 4 (index - 0x2620)))
  else if 0x2640 ≤ index ∧ index ≤ 0x264B then
    let p : Fin 12 := Fin.ofNat 12 (index - 0x2640)
    if sub = 2 then some (s.writePifMode who p n)
    else if sub = 7 then some (s.writePreset who p v.toInt)
    else if sub = 0x0A then some (s.writeArmIndex who p n)
    else if sub = 0x10 then some (s.writeCheckCmd who p n)
    else none
  else if 0x2700 ≤ index ∧ index ≤ 0x2717 then
    let u : Fin 24 := Fin.ofNat 24 (index - 0x2700)
    if sub = 0x25 then some (s.writeCommit who u n)
    else if 0x28 ≤ sub ∧ sub ≤ 0x2F then some (s.writeSecCtrl who u (sub - 0x28) n)
    else if luQueued sub then some (s.writeLuQueue who u sub w)
    else none
  else none

/-- Commands of the drives, the gearbox, the DC link and the converters (0x2800 to 0x2BFF). -/
def State.writeDrives (s : State) (who : Requester) (index sub : Nat) (v : Val) (data : List Byte) : Option State :=
  let n := v.toInt.toNat
  let w : BitVec 32 := BitVec.ofNat 32 (leNat data)
  if (index = 0x2800 ∨ index = 0x2801) ∧ sub = 4 then some (s.writeTqSet who (Fin.ofNat 2 index) w)
  else if (index = 0x2800 ∨ index = 0x2801) ∧ sub = 5 then some (s.writeDirection who (Fin.ofNat 2 index) n)
  else if 0x2800 ≤ index ∧ index ≤ 0x2805 ∧ sub = 3 then some (s.writeControl who (driveOf (index - 0x2800)) n)
  else if index = 0x2803 ∧ sub = 4 then some (s.writeAutoRun who .aux n)
  else if index = 0x2805 ∧ sub = 4 then some (s.writeAutoRun who .brk n)
  else if index = 0x2810 ∧ sub = 2 then some (s.writeAxleMode who n)
  else if index = 0x2810 ∧ (sub = 4 ∨ sub = 5) then some (s.writeAxleTorque who (256 * index + sub) w)
  else if index = 0x2810 ∧ sub = 6 then some (s.writeAxleDirection who n)
  else if 0x2820 ≤ index ∧ index ≤ 0x2827 ∧ sub = 3 then some (s.writeISet who (Fin.ofNat 8 (index - 0x2820)) w)
  else if index = 0x2830 ∧ (sub = 0x10 ∨ sub = 0x20) then some (s.writeShift who (if sub = 0x10 then 0 else 1) n)
  else if index = 0x2838 ∧ (sub = 0x10 ∨ sub = 0x20) then some (s.writePark who (if sub = 0x10 then 0 else 1) n)
  else if index = 0x2900 ∧ (sub = 0x0F ∨ sub = 0x10) then some (s.writeResOhm who (if sub = 0x0F then 0 else 1) w)
  else if index = 0x2900 ∧ sub = 0x19 then some (s.writeDischarge who n)
  else if index = 0x2A00 ∧ sub = 0x0A then some (s.writeVrSrc who n)
  else if index = 0x2A00 ∧ sub = 0x0B then some (s.writeVrCmd who w)
  else if index = 0x2A00 ∧ 0x0C ≤ sub ∧ sub ≤ 0x0F then some (s.writeVrSet who (Fin.ofNat 4 (sub - 0x0C)) w)
  else if index = 0x2A00 ∧ sub = 0x20 then some (s.writeAux48 who n)
  else if index = 0x2B40 ∧ sub = 0x17 then some (s.writeLvAck who n)
  else if index = 0x2B40 ∧ sub = 0x19 then some (s.writePeat who n)
  else if index = 0x2B40 ∧ sub = 0x1C then some (s.writeAttnClear who n)
  else none

/-- Commands of the check-value units, CAN, the service paths, images, capture and safety (from 0x2E00). -/
def State.writeHigh (s : State) (who : Requester) (index sub : Nat) (v : Val) (data : List Byte) : Option State :=
  let n := v.toInt.toNat
  if 0x2E00 ≤ index ∧ index ≤ 0x2E03 ∧ sub = 8 then some (s.writeCrcStart who (Fin.ofNat 4 (index - 0x2E00)))
  else if 0x2E00 ≤ index ∧ index ≤ 0x2E03 ∧ sub = 9 then some (s.writeCrcData who (Fin.ofNat 4 (index - 0x2E00)) data)
  else if 0x2F00 ≤ index ∧ index ≤ 0x2F03 ∧ sub = 0x1E then some (s.writeBridge who (Fin.ofNat 4 (index - 0x2F00)) data)
  else if index = 0x3010 ∧ sub = 9 then some (s.writeSessionClose who n)
  else if index = 0x3020 ∧ sub = 1 then some (s.writeAuthOpen who data)
  else if index = 0x3020 ∧ sub = 3 then some (s.writeAuthResponse who data)
  else if index = 0x3020 ∧ sub = 8 then some (s.writeKey who false data)
  else if index = 0x3020 ∧ sub = 9 then some (s.writeKey who true data)
  else if index = 0x3100 ∧ sub = 0x0B then some (s.writeUpdate who n)
  else if index = 0x3110 ∧ sub = 0x0B then some (s.writeCapCmd who n)
  else if index = 0x4000 ∧ sub = 2 then some (s.setEdit who n)
  else if index = 0x4000 ∧ sub = 4 then some (s.writeSetCrc who n)
  else if index = 0x4000 ∧ sub = 5 then some (s.draw.writeSetCommit who (Config.freeBit s.fresh))
  else if index = 0x4080 ∧ sub = 0x0F then some (s.writeSafeRelease who n)
  else if index = 0x4100 ∧ sub = 3 then some (s.writeConfigReq who n)
  else none

/-! ### Writes -/

/-- The accesses that IMAGE_FAULT takes without a session: TFTP_SERVER, FILE_NAME and UPD_CMD 1 (R503). -/
def State.bootWrite (s : State) (index sub : Nat) (data : List Byte) : Bool :=
  s.bringup.imageFault && index == 0x3100 && (sub == 9 || sub == 0x0A || (sub == 0x0B && data == [1]))

/-- The checks of Table 19.3 that need no more than the object's row: the value, or the code that governs. -/
def State.writeCheck (s : State) (who : Requester) (index sub : Nat) (data : List Byte) : Except Nat (DictRow × Val) :=
  match objRow index sub with
  | .error c => .error c
  | .ok r =>
    let a := s.accessOf who index sub r
    if s.diagOnly ∧ !s.bootWrite index sub data then .error 0x08000021
    else if !s.bootWrite index sub data ∧ (s.roleOf who).num < (writeRole a index sub).num then .error 0x06010000
    else if a = .ro then .error 0x06010002
    else match decodeVal r.ty data with
      | .error c => .error c
      | .ok v => if a = .safe ∨ rngOk (s.rangeOf index sub r) v then .ok (r, v) else .error 0x06090030

/-- An access that is refused before its object's own rules. -/
def State.refuse (s : State) (who : Requester) (code : Nat) : State :=
  if !s.dictUp ∧ !s.diagOnly then s else (s.touch who).answer who (.error code)

/-- The write of an object whose row and value have passed. -/
def State.writeValue (s : State) (who : Requester) (index sub : Nat) (data : List Byte) (a : Access) (v : Val) : State :=
  let key := s.objKey who index sub
  if a = .safe then s.stageWrite who key v
  else if s.bringup.imageFault ∧ index = 0x3100 ∧ sub ≠ 0x0B then
    let s := s.touch who
    s.answer who (State.storeEffect who index sub key v s)
  else
    match ((s.writeLow who index sub v data).orElse fun _ => s.writeDrives who index sub v data).orElse fun _ =>
      s.writeHigh who index sub v data with
    | some t => t
    | none => s.request who key (writeRole a index sub) ((State.ownEffect who index sub v).getD (State.storeEffect who index sub key v))

/-- A write of an object by any path (R474 to R477). -/
def State.writeObject (s : State) (who : Requester) (index sub : Nat) (data : List Byte) : State :=
  match s.writeCheck who index sub data with
  | .error c => s.refuse who c
  | .ok (r, v) => s.writeValue who index sub data (s.accessOf who index sub r) v

def execRegisterWrite (dt : Nat) (who : Requester) (index : BitVec 16) (sub : BitVec 8) (data : List Byte) (s : State) :
    Res :=
  reply s ((s.elapse dt).writeObject who index.toNat sub.toNat data)

/-! ### Reads -/

/-- The value a read shows: what is formed at the read, the session's staged value of a SAFE parameter, the stored
value. -/
def State.shown (s : State) (who : Requester) (index sub : Nat) (r : DictRow) : Val :=
  match s.view who index sub with
  | some v => v
  | none =>
    match r.acc, (s.sessOf who).staging with
    | .safe, some l => stagedVal l (256 * index + sub)
    | _, _ => s.get (s.objKey who index sub)

/-- Reads that do more than show: LOG_ENTRY and LOG_NEXT, BRIDGE_RX, READ_DATA, objects of a check-value unit that a
session holds; P_CTRL and POOL_USED are measured, and RESULT and BYTES of the firmware's own units CRC0 and CRC1 are its
own: open. -/
def State.readEffect (who : Requester) (index sub : Nat) (r : DictRow) (s : State) : Except Nat (State × List Byte) :=
  if index = 0x2006 ∧ sub = 4 then (s.logEntry (s.sessOf who).logSel).map fun b => (s, b)
  else if index = 0x2006 ∧ sub = 5 then State.logNext who s
  else if 0x2F00 ≤ index ∧ index ≤ 0x2F03 ∧ sub = 0x1D then State.bridgeRead (Fin.ofNat 4 (index - 0x2F00)) s
  else if index = 0x3110 ∧ sub = 0x10 then State.readCapture who 1024 s
  else if (index = 0x2E02 ∨ index = 0x2E03) ∧ sub = 0x0A then
    .ok (s.crcRead who (Fin.ofNat 4 (index - 0x2E00)), encodeVal r.ty (s.shown who index sub r))
  else if (index = 0x2E02 ∨ index = 0x2E03) then
    .ok (s.crcLook who (Fin.ofNat 4 (index - 0x2E00)), encodeVal r.ty (s.shown who index sub r))
  else if (index = 0x2002 ∧ sub = 5) ∨ (index = 0x2120 ∧ sub = 3) ∨
      ((index = 0x2E00 ∨ index = 0x2E01) ∧ (sub = 0x0A ∨ sub = 0x0B)) then
    .ok (s.draw, encodeVal r.ty
      (if r.ty = .f32 then .num (s.drawnPower (Config.freeRat s.fresh)) else .int (Config.freeNat s.fresh)))
  else .ok (s, encodeVal r.ty (s.shown who index sub r))

/-- A read of an object by a service path: existence, the diagnostic path, access, wrapper, then the value. -/
def State.readObject (s : State) (who : Requester) (index sub : Nat) : State :=
  let key := s.objKey who index sub
  match objRow index sub with
  | .error c => s.refuse who c
  | .ok r =>
    if s.diagOnly ∧ !s.diagRead key then s.refuse who 0x08000021
    else if r.acc = .wo then s.refuse who 0x06010001
    else s.readRequest who key (State.readEffect who index sub r)

/-! ### SDO server on CAN-D (R476) -/

/-- The octets of an expedited transfer and of a segment (PRESUMED, assumption 30). -/
def sdoExpedited : Nat := 4
def sdoSegment : Nat := 7

/-- The answer that the last access left in the outputs. -/
def State.lastAnswer (s : State) : Option (Nat × List Byte) :=
  match s.out.getLast? with
  | some (.response _ c data) => some (c, data)
  | _ => none

def State.modSdo (s : State) (x : Option SdoSt) : State := s.modSess .canD fun y => { y with sdo := x }

/-- A read whose value exceeds an expedited transfer goes on in segments. -/
def State.sdoUpload (s : State) (index sub : Nat) : State :=
  let t := (s.modSdo none).readObject .canD index sub
  match t.lastAnswer with
  | some (0, data) =>
    if data.length ≤ sdoExpedited then t
    else { (t.modSdo (some { write := false, key := 256 * index + sub, data := data, lastTb := t.tb })) with
      out := t.out.dropLast ++ [.response .canD 0 (natLe 4 data.length)] }
  | _ => t

/-- A transfer is dropped with an abort code. -/
def State.sdoFail (s : State) (code : Nat) : State := ((s.modSdo none).touch .canD).answer .canD (.error code)

/-- A segment of a write: the object is written when the last one is received. -/
def State.sdoSegmentIn (s : State) (toggle : Bool) (data : List Byte) (last : Bool) : State :=
  match (s.sessOf .canD).sdo with
  | some x =>
    if !x.write ∨ x.toggle ≠ toggle then s.sdoFail 0x05040001
    else if last then (s.modSdo none).writeObject .canD (x.key / 256) (x.key % 256) (x.data ++ data)
    else ((s.modSdo (some { x with data := x.data ++ data, toggle := !toggle, lastTb := s.tb })).touch .canD).emit
      (.response .canD 0 [])
  | none => s.sdoFail 0x05040001

/-- A segment of a read is asked for. -/
def State.sdoSegmentOut (s : State) (toggle : Bool) : State :=
  match (s.sessOf .canD).sdo with
  | some x =>
    if x.write ∨ x.toggle ≠ toggle then s.sdoFail 0x05040001
    else
      let rest := x.data.drop sdoSegment
      let next := if rest = [] then none else some { x with data := rest, toggle := !toggle, lastTb := s.tb }
      ((s.modSdo next).touch .canD).emit (.response .canD 0 (x.data.take sdoSegment))
  | none => s.sdoFail 0x05040001

/-- A request of the SDO server, while CAN-D takes part in traffic and the dictionary answers. -/
def State.sdo (s : State) (r : SdoRequest) : State :=
  if !s.busLive 3 ∨ (!s.dictUp ∧ !s.diagOnly) then s
  else match r with
  | .upload index sub => s.sdoUpload index.toNat sub.toNat
  | .download index sub data => (s.modSdo none).writeObject .canD index.toNat sub.toNat data
  | .downloadStart index sub =>
    ((s.modSdo (some { write := true, key := 256 * index.toNat + sub.toNat, lastTb := s.tb })).touch .canD).emit
      (.response .canD 0 [])
  | .downloadSegment toggle data last => s.sdoSegmentIn toggle data last
  | .uploadSegment toggle => s.sdoSegmentOut toggle
  | .abort => (s.modSdo none).touch .canD
  | .invalid => s.sdoFail 0x05040001

def execSdoRequest (dt : Nat) (r : SdoRequest) (s : State) : Res := reply s ((s.elapse dt).sdo r)

/-! ### Henmon service protocol (R477, Table 19.4) -/

def ctrRxDiscarded : Counter := ⟨Od.ETH_RX_DISCARDED, 32, Od.ETH_ETH_STATUS, 4, 0x10⟩
def ctrRxErrors : Counter := ⟨Od.ETH_RX_ERRORS, 32, Od.ETH_ETH_STATUS, 6, 0x10⟩
def ctrDupRequests : Counter := ⟨Od.SVC_DUP_REQUESTS, 32, Od.SVC_SP_CNT_STATUS, 0, 0x10⟩

/-- A field of a datagram, least significant octet first. -/
def dgField (dg : List Byte) (at_ n : Nat) : Nat := leNat ((dg.drop at_).take n)

/-- A datagram that is taken: version 1, its length 16 + LENGTH, at most 1,024 data octets. -/
def hspFormed (dg : List Byte) : Bool :=
  decide (16 ≤ dg.length) && dgField dg 0 1 == 1 && dg.length == 16 + dgField dg 12 2 && decide (dgField dg 12 2 ≤ 1024)

/-- The response to a datagram. -/
def hspResponse (dg : List Byte) (status : Nat) (data : List Byte) : List Byte :=
  [1, BitVec.ofNat 8 (dgField dg 1 1 % 128 + 128)] ++ (dg.drop 2).take 5 ++ [0] ++ natLe 4 status ++ natLe 2 data.length ++
    [0, 0] ++ data

/-- The slot of a peer: the one it holds, else the first that is free. -/
def State.peerSlot (s : State) (ip port : Nat) : Option (Fin 4) :=
  let x (i : Fin 4) : SessionSt := s.sessOf (.eth i)
  match (List.finRange 4).find? fun i => (x i).isOpen && (x i).ip == ip && (x i).port == port with
  | some i => some i
  | none => (List.finRange 4).find? fun i => !(x i).isOpen

/-- The operations of Table 19.4 on the peer's session. -/
def State.hspExecute (s : State) (i : Fin 4) (dg : List Byte) : State :=
  let who : Requester := .eth i
  let index := dgField dg 4 2
  let sub := dgField dg 6 1
  match dgField dg 1 1 with
  | 1 => s.readObject who index sub
  | 2 => s.writeObject who index sub (dg.drop 16)
  | 3 => ((s.touch who).closeSession who).emit (.response who 0 [])
  | 4 => (s.touch who).emit (.response who 0 [])
  | _ => s

/-- The request is executed and answered to its peer; the answer is kept while the session lives. -/
def State.hspAnswer (s : State) (i : Fin 4) (ip port : Nat) (dg : List Byte) : State :=
  let t := s.hspExecute i dg
  match t.lastAnswer with
  | some (c, data) =>
    let resp := hspResponse dg c data
    let t := { t with out := t.out.dropLast }
    let t := if (t.sessOf (.eth i)).isOpen then
      t.modSess (.eth i) fun x => { x with ip := ip, port := port, cached := some (dgField dg 2 2, resp) } else t
    t.sendUdp 47810 ip port resp
  | none => t

/-- A datagram reaches port 47810. -/
def State.hspTake (s : State) (ip port : Nat) (dg : List Byte) : State :=
  let s := s.ethReceived
  if !s.sessions.linkUp ∨ (!s.dictUp ∧ !s.diagOnly) then s
  else if !hspFormed dg then s.count ctrRxDiscarded
  else if dgField dg 1 1 = 0 ∨ 4 < dgField dg 1 1 then s.sendUdp 47810 ip port (hspResponse dg 0x05040001 [])
  else match s.peerSlot ip port with
  | none => s.sendUdp 47810 ip port (hspResponse dg 0x08000020 [])
  | some i =>
    let x := s.sessOf (.eth i)
    match x.isOpen, x.cached with
    | true, some (req, resp) =>
      if req = dgField dg 2 2 then
        ((s.count ctrDupRequests).modSess (.eth i) fun x => { x with lastTb := s.tb }).sendUdp 47810 ip port resp
      else s.hspAnswer i ip port dg
    | _, _ => s.hspAnswer i ip port dg

def execHspRead (dt : Nat) (ip : BitVec 32) (port : BitVec 16) (dg : List Byte) (s : State) : Res :=
  reply s ((s.elapse dt).hspTake ip.toNat port.toNat dg)
def execHspWrite (dt : Nat) (ip : BitVec 32) (port : BitVec 16) (dg : List Byte) (s : State) : Res :=
  reply s ((s.elapse dt).hspTake ip.toNat port.toNat dg)
def execHspClose (dt : Nat) (ip : BitVec 32) (port : BitVec 16) (dg : List Byte) (s : State) : Res :=
  reply s ((s.elapse dt).hspTake ip.toNat port.toNat dg)
def execHspKeepalive (dt : Nat) (ip : BitVec 32) (port : BitVec 16) (dg : List Byte) (s : State) : Res :=
  reply s ((s.elapse dt).hspTake ip.toNat port.toNat dg)
/-- The IPv4 port answers: the dictionary's paths are up. -/
def State.portAnswers (s : State) : Bool := s.dictUp || s.diagOnly

/-- ARP answers who holds the address in force, ICMP echo sends the request's data back, other protocols are discarded, a
frame that fails its check is an error (R496). The sender's address is `ip`; only a datagram has a port. -/
def State.portTake (s : State) (ip : BitVec 32) (port : BitVec 16) (f : PortFrame) : State :=
  if !s.sessions.linkUp then s
  else match f with
    | .datagram dg => s.hspTake ip.toNat port.toNat dg
    | .arpRequest mac target =>
      let s := s.ethReceived
      if s.portAnswers ∧ target.toNat = s.sessions.ipAddr then
        (s.emit (.arpReply mac.toNat ip.toNat)).countWide Od.ETH_TX_FRAMES
      else s
    | .echoRequest target data =>
      let s := s.ethReceived
      if s.portAnswers ∧ target.toNat = s.sessions.ipAddr then
        (s.emit (.echoReply ip.toNat data)).countWide Od.ETH_TX_FRAMES
      else s
    | .other => s.ethReceived.count ctrRxDiscarded
    | .damaged => s.count ctrRxErrors

def execHspInvalidOp (dt : Nat) (ip : BitVec 32) (port : BitVec 16) (f : PortFrame) (s : State) : Res :=
  reply s ((s.elapse dt).portTake ip port f)

end Sys2Proof.Machine
end

