-- ==== Sys2Proof/Machine/Dispatch.lean ====
section
/-! DEFINITION. The meaning of every command, one arm each. -/
namespace Sys2Proof.Machine
open Sys2Proof

def exec (i : Instr) (s : State) : Host.Outcome State Fault Refusal :=
  match i with
  | .linkFrameReceive dt l toC f => Sys2Proof.Machine.execLinkFrameReceive dt l toC f s
  | .linkLaneFail dt l toC lane1 => Sys2Proof.Machine.execLinkLaneFail dt l toC lane1 s
  | .linkLossIslandDie dt l => Sys2Proof.Machine.execLinkLossIslandDie dt l s
  | .linkLossIslandC dt l => Sys2Proof.Machine.execLinkLossIslandC dt l s
  | .linkTrainingComplete dt l latencyNs => Sys2Proof.Machine.execLinkTrainingComplete dt l latencyNs s
  | .applyTimeReached dt l => Sys2Proof.Machine.execApplyTimeReached dt l s
  | .eccUncorrectableError dt m => Sys2Proof.Machine.execEccUncorrectableError dt m s
  | .eccSingleBitCorrection dt => Sys2Proof.Machine.execEccSingleBitCorrection dt s
  | .scrubPass dt => Sys2Proof.Machine.execScrubPass dt s
  | .clockMonitorWindow dt m hz => Sys2Proof.Machine.execClockMonitorWindow dt m hz s
  | .clkFaultLatchWrite dt who value => Sys2Proof.Machine.execClkFaultLatchWrite dt who value s
  | .supplySourceChange dt r => Sys2Proof.Machine.execSupplySourceChange dt r s
  | .allSourcesInvalid dt => Sys2Proof.Machine.execAllSourcesInvalid dt s
  | .holdupInterruptionBridged dt r => Sys2Proof.Machine.execHoldupInterruptionBridged dt r s
  | .mainPowerOnReset dt => Sys2Proof.Machine.execMainPowerOnReset dt s
  | .powerStageSupplyLoss dt => Sys2Proof.Machine.execPowerStageSupplyLoss dt s
  | .islandSupplyRemoval dt => Sys2Proof.Machine.execIslandSupplyRemoval dt s
  | .powerStageSupplyReturn dt r => Sys2Proof.Machine.execPowerStageSupplyReturn dt r s
  | .aonPowerOnReset f => Sys2Proof.Machine.execAonPowerOnReset f s
  | .nrstAssert dt ns => Sys2Proof.Machine.execNrstAssert dt ns s
  | .deferredResetProceed dt => Sys2Proof.Machine.execDeferredResetProceed dt s
  | .nrstRelease dt => Sys2Proof.Machine.execNrstRelease dt s
  | .trimLoadComplete dt crcOk => Sys2Proof.Machine.execTrimLoadComplete dt crcOk s
  | .pllLock dt => Sys2Proof.Machine.execPllLock dt s
  | .imageCheckComplete dt newestOk otherOk => Sys2Proof.Machine.execImageCheckComplete dt newestOk otherOk s
  | .parameterStoreLoaded dt rejected setOk => Sys2Proof.Machine.execParameterStoreLoaded dt rejected setOk s
  | .controlIslandUp dt => Sys2Proof.Machine.execControlIslandUp dt s
  | .driveReadinessComplete dt d checksOk => Sys2Proof.Machine.execDriveReadinessComplete dt d checksOk s
  | .custDataWrite dt who data => Sys2Proof.Machine.execCustDataWrite dt who data s
  | .driveReset dt who mask => Sys2Proof.Machine.execDriveReset dt who mask s
  | .driveResetBlockRelease dt d => Sys2Proof.Machine.execDriveResetBlockRelease dt d s
  | .gateSupplyUndervoltage dt c pos neg => Sys2Proof.Machine.execGateSupplyUndervoltage dt c pos neg s
  | .bothOnCommand dt l => Sys2Proof.Machine.execBothOnCommand dt l s
  | .bootstrapUndervoltage dt l v => Sys2Proof.Machine.execBootstrapUndervoltage dt l v s
  | .armingStepComplete dt c r => Sys2Proof.Machine.execArmingStepComplete dt c r s
  | .shortDetectVds dt l high simultaneous => Sys2Proof.Machine.execShortDetectVds dt l high simultaneous s
  | .shortDetectShunt dt l positive simultaneous => Sys2Proof.Machine.execShortDetectShunt dt l positive simultaneous s
  | .softTurnOffPlateauEnd dt c => Sys2Proof.Machine.execSoftTurnOffPlateauEnd dt c s
  | .scLockoutWrite dt who c value => Sys2Proof.Machine.execScLockoutWrite dt who c value s
  | .selftestStart dt who c value => Sys2Proof.Machine.execSelftestStart dt who c value s
  | .selftestComplete dt c vdsFail shuntFail => Sys2Proof.Machine.execSelftestComplete dt c vdsFail shuntFail s
  | .tokenRefill dt l => Sys2Proof.Machine.execTokenRefill dt l s
  | .dwellEnd dt l => Sys2Proof.Machine.execDwellEnd dt l s
  | .legCounterSave dt c => Sys2Proof.Machine.execLegCounterSave dt c s
  | .offsetRecalibrationDue dt l => Sys2Proof.Machine.execOffsetRecalibrationDue dt l s
  | .offsetRecalibrationComplete dt l zero full => Sys2Proof.Machine.execOffsetRecalibrationComplete dt l zero full s
  | .recalibrationLate dt l => Sys2Proof.Machine.execRecalibrationLate dt l s
  | .stagePeriodStart r c => Sys2Proof.Machine.execStagePeriodStart r c s
  | .sequencerTrigger dt n => Sys2Proof.Machine.execSequencerTrigger dt n s
  | .swTriggerWrite dt who n value => Sys2Proof.Machine.execSwTriggerWrite dt who n value s
  | .conversionComplete dt g code => Sys2Proof.Machine.execConversionComplete dt g code s
  | .sqCtrlWrite dt who n value => Sys2Proof.Machine.execSqCtrlWrite dt who n value s
  | .generalComparatorCrossing dt n x => Sys2Proof.Machine.execGeneralComparatorCrossing dt n x s
  | .gcpClearWrite dt who n value => Sys2Proof.Machine.execGcpClearWrite dt who n value s
  | .axisDecision dt n raw odd vBus => Sys2Proof.Machine.execAxisDecision dt n raw odd vBus s
  | .unmeasuredTimeExceeded dt n => Sys2Proof.Machine.execUnmeasuredTimeExceeded dt n s
  | .tqSetWrite dt who t value => Sys2Proof.Machine.execTqSetWrite dt who t value s
  | .directionWrite dt who t value => Sys2Proof.Machine.execDirectionWrite dt who t value s
  | .reversalReengage dt t => Sys2Proof.Machine.execReversalReengage dt t s
  | .driveArm dt who d => Sys2Proof.Machine.execDriveArm dt who d s
  | .driveRun dt who d size => Sys2Proof.Machine.execDriveRun dt who d size s
  | .driveStop dt who d => Sys2Proof.Machine.execDriveStop dt who d s
  | .driveDisarm dt who d => Sys2Proof.Machine.execDriveDisarm dt who d s
  | .driveAck dt who d => Sys2Proof.Machine.execDriveAck dt who d s
  | .stopSetCoast dt n => Sys2Proof.Machine.execStopSetCoast dt n s
  | .armHoldExpiry dt d => Sys2Proof.Machine.execArmHoldExpiry dt d s
  | .crossSetDisagreement dt t => Sys2Proof.Machine.execCrossSetDisagreement dt t s
  | .trackingValid dt n => Sys2Proof.Machine.execTrackingValid dt n s
  | .sedgeProbeComplete dt t rises => Sys2Proof.Machine.execSedgeProbeComplete dt t rises s
  | .probeAssistPeriod dt n m v => Sys2Proof.Machine.execProbeAssistPeriod dt n m v s
  | .observerLoss dt n => Sys2Proof.Machine.execObserverLoss dt n s
  | .ascExit dt n bemf => Sys2Proof.Machine.execAscExit dt n bemf s
  | .recoveryAngleFound dt n => Sys2Proof.Machine.execRecoveryAngleFound dt n s
  | .recoveryTimeout dt n => Sys2Proof.Machine.execRecoveryTimeout dt n s
  | .phaseOpenDeclared dt n phase kcl => Sys2Proof.Machine.execPhaseOpenDeclared dt n phase kcl s
  | .shuntAttributionFail dt n phase => Sys2Proof.Machine.execShuntAttributionFail dt n phase s
  | .shuntSaturationFail dt n phase => Sys2Proof.Machine.execShuntSaturationFail dt n phase s
  | .idStatic dt who n => Sys2Proof.Machine.execIdStatic dt who n s
  | .idRotating dt who n => Sys2Proof.Machine.execIdRotating dt who n s
  | .idEncoderOffset dt who n => Sys2Proof.Machine.execIdEncoderOffset dt who n s
  | .idAbort dt who n => Sys2Proof.Machine.execIdAbort dt who n s
  | .idProcedureComplete dt n r => Sys2Proof.Machine.execIdProcedureComplete dt n r s
  | .idApply dt who n => Sys2Proof.Machine.execIdApply dt who n s
  | .positionLineChange dt p lines => Sys2Proof.Machine.execPositionLineChange dt p lines s
  | .wireFault dt p pairs => Sys2Proof.Machine.execWireFault dt p pairs s
  | .ssiFrameRead dt p idleHigh monoLow frame => Sys2Proof.Machine.execSsiFrameRead dt p idleHigh monoLow frame s
  | .presetWrite dt who p value => Sys2Proof.Machine.execPresetWrite dt who p value s
  | .armIndexWrite dt who p value => Sys2Proof.Machine.execArmIndexWrite dt who p value s
  | .checkPass dt p => Sys2Proof.Machine.execCheckPass dt p s
  | .checkTimeout dt p => Sys2Proof.Machine.execCheckTimeout dt p s
  | .interfaceFaultClear dt p => Sys2Proof.Machine.execInterfaceFaultClear dt p s
  | .checkCmdWrite dt who p value => Sys2Proof.Machine.execCheckCmdWrite dt who p value s
  | .pifModeWrite dt who p value => Sys2Proof.Machine.execPifModeWrite dt who p value s
  | .speedUpdate dt p => Sys2Proof.Machine.execSpeedUpdate dt p s
  | .loopUnitSample dt n => Sys2Proof.Machine.execLoopUnitSample dt n s
  | .coefficientQueueWrite dt who n sub value => Sys2Proof.Machine.execCoefficientQueueWrite dt who n sub value s
  | .commitStaged dt who n => Sys2Proof.Machine.execCommitStaged dt who n s
  | .commitNotch dt who n => Sys2Proof.Machine.execCommitNotch dt who n s
  | .commitComputed dt n => Sys2Proof.Machine.execCommitComputed dt n s
  | .secCtrlWrite dt who n sec value => Sys2Proof.Machine.execSecCtrlWrite dt who n sec value s
  | .holdMaxExpiry dt n sec => Sys2Proof.Machine.execHoldMaxExpiry dt n sec s
  | .taskRelease dt k => Sys2Proof.Machine.execTaskRelease dt k s
  | .taskExecutionComplete dt e slice => Sys2Proof.Machine.execTaskExecutionComplete dt e slice s
  | .engineWatchdog dt e => Sys2Proof.Machine.execEngineWatchdog dt e s
  | .engineRejoin dt e => Sys2Proof.Machine.execEngineRejoin dt e s
  | .configLoadWrite dt who value => Sys2Proof.Machine.execConfigLoadWrite dt who value s
  | .configLoadAdmissionComplete dt => Sys2Proof.Machine.execConfigLoadAdmissionComplete dt s
  | .axleModeWrite dt who value => Sys2Proof.Machine.execAxleModeWrite dt who value s
  | .axleTqSetWrite dt who value => Sys2Proof.Machine.execAxleTqSetWrite dt who value s
  | .yawTqSetWrite dt who value => Sys2Proof.Machine.execYawTqSetWrite dt who value s
  | .axleDirectionWrite dt who value => Sys2Proof.Machine.execAxleDirectionWrite dt who value s
  | .shiftCmdWrite dt who t value => Sys2Proof.Machine.execShiftCmdWrite dt who t value s
  | .shiftStepLimit dt t => Sys2Proof.Machine.execShiftStepLimit dt t s
  | .actuatorAxisFault dt a => Sys2Proof.Machine.execActuatorAxisFault dt a s
  | .iSetWrite dt who ch value => Sys2Proof.Machine.execISetWrite dt who ch value s
  | .ibBelow38V dt v => Sys2Proof.Machine.execIbBelow38V dt v s
  | .solenoidOvercurrent dt ch j => Sys2Proof.Machine.execSolenoidOvercurrent dt ch j s
  | .solenoidOpenLoad dt ch => Sys2Proof.Machine.execSolenoidOpenLoad dt ch s
  | .solenoidDeviation dt ch => Sys2Proof.Machine.execSolenoidDeviation dt ch s
  | .parkEngageCmd dt who t => Sys2Proof.Machine.execParkEngageCmd dt who t s
  | .parkReleaseCmd dt who t => Sys2Proof.Machine.execParkReleaseCmd dt who t s
  | .parkPositionConfirm dt t => Sys2Proof.Machine.execParkPositionConfirm dt t s
  | .pawlOnTooth dt t => Sys2Proof.Machine.execPawlOnTooth dt t s
  | .parkReleaseTimeout dt t => Sys2Proof.Machine.execParkReleaseTimeout dt t s
  | .gearStateRecoveryStart dt => Sys2Proof.Machine.execGearStateRecoveryStart dt s
  | .recoveryStall dt a => Sys2Proof.Machine.execRecoveryStall dt a s
  | .gearStateRecoveryEnd dt => Sys2Proof.Machine.execGearStateRecoveryEnd dt s
  | .dcLinkSenseMismatch dt => Sys2Proof.Machine.execDcLinkSenseMismatch dt s
  | .uvTripRelease dt => Sys2Proof.Machine.execUvTripRelease dt s
  | .resOhmWrite dt who leg value => Sys2Proof.Machine.execResOhmWrite dt who leg value s
  | .brkResistorCheckComplete dt i0 i1 => Sys2Proof.Machine.execBrkResistorCheckComplete dt i0 i1 s
  | .brkCheckRetry dt => Sys2Proof.Machine.execBrkCheckRetry dt s
  | .autoRunWrite dt who d value => Sys2Proof.Machine.execAutoRunWrite dt who d value s
  | .chopperOpenResistor dt leg i1 i2 => Sys2Proof.Machine.execChopperOpenResistor dt leg i1 i2 s
  | .chopperShortedSwitch dt leg j => Sys2Proof.Machine.execChopperShortedSwitch dt leg j s
  | .resistorModelUpdate dt => Sys2Proof.Machine.execResistorModelUpdate dt s
  | .firmwareDcLinkTrip dt => Sys2Proof.Machine.execFirmwareDcLinkTrip dt s
  | .hardwareDcLinkTrip dt => Sys2Proof.Machine.execHardwareDcLinkTrip dt s
  | .dischargeStart dt who => Sys2Proof.Machine.execDischargeStart dt who s
  | .dischargeEnd dt who => Sys2Proof.Machine.execDischargeEnd dt who s
  | .dischargeLinkSupplied dt => Sys2Proof.Machine.execDischargeLinkSupplied dt s
  | .dischargeComplete dt => Sys2Proof.Machine.execDischargeComplete dt s
  | .dischargeTimeout dt => Sys2Proof.Machine.execDischargeTimeout dt s
  | .dabPeakLimit dt j => Sys2Proof.Machine.execDabPeakLimit dt j s
  | .dabStopLowLink dt => Sys2Proof.Machine.execDabStopLowLink dt s
  | .dabRestartLinkOk dt => Sys2Proof.Machine.execDabRestartLinkOk dt s
  | .ibStartComplete dt => Sys2Proof.Machine.execIbStartComplete dt s
  | .buckPhaseShed dt phase deviation => Sys2Proof.Machine.execBuckPhaseShed dt phase deviation s
  | .vselSample dt pins => Sys2Proof.Machine.execVselSample dt pins s
  | .vrSrcWrite dt who value => Sys2Proof.Machine.execVrSrcWrite dt who value s
  | .vrCmdWrite dt who value => Sys2Proof.Machine.execVrCmdWrite dt who value s
  | .vrSetWrite dt who code value => Sys2Proof.Machine.execVrSetWrite dt who code value s
  | .loadReleaseEntry dt v => Sys2Proof.Machine.execLoadReleaseEntry dt v s
  | .loadReleaseExit dt v => Sys2Proof.Machine.execLoadReleaseExit dt v s
  | .syncInLock dt hz phase => Sys2Proof.Machine.execSyncInLock dt hz phase s
  | .syncInLoss r => Sys2Proof.Machine.execSyncInLoss r s
  | .aux48EnWrite dt who value => Sys2Proof.Machine.execAux48EnWrite dt who value s
  | .aux48Overcurrent dt j => Sys2Proof.Machine.execAux48Overcurrent dt j s
  | .ibOvervoltagePause dt v => Sys2Proof.Machine.execIbOvervoltagePause dt v s
  | .ibOvervoltageTrip dt v => Sys2Proof.Machine.execIbOvervoltageTrip dt v s
  | .ibLost dt v => Sys2Proof.Machine.execIbLost dt v s
  | .vrOvervoltage dt v => Sys2Proof.Machine.execVrOvervoltage dt v s
  | .towBatteryLow dt v => Sys2Proof.Machine.execTowBatteryLow dt v s
  | .pilotStateChange dt p => Sys2Proof.Machine.execPilotStateChange dt p s
  | .pilotDutyChange dt duty => Sys2Proof.Machine.execPilotDutyChange dt duty s
  | .proximityChange dt ohm => Sys2Proof.Machine.execProximityChange dt ohm s
  | .supplyOutOfWindow dt => Sys2Proof.Machine.execSupplyOutOfWindow dt s
  | .chargeSessionOpen dt => Sys2Proof.Machine.execChargeSessionOpen dt s
  | .autoChargeStart dt => Sys2Proof.Machine.execAutoChargeStart dt s
  | .acWaitTimeout dt => Sys2Proof.Machine.execAcWaitTimeout dt s
  | .pfcPrechargeTimeout dt => Sys2Proof.Machine.execPfcPrechargeTimeout dt s
  | .bmsMessageReceive dt packFrame data => Sys2Proof.Machine.execBmsMessageReceive dt packFrame data s
  | .bmsTimeout dt => Sys2Proof.Machine.execBmsTimeout dt s
  | .moduleStatusSend dt => Sys2Proof.Machine.execModuleStatusSend dt s
  | .packLost r => Sys2Proof.Machine.execPackLost r s
  | .safetyTimerExpiry dt c => Sys2Proof.Machine.execSafetyTimerExpiry dt c s
  | .chargeStateTimer dt c => Sys2Proof.Machine.execChargeStateTimer dt c s
  | .lvPresenceTestComplete dt v j => Sys2Proof.Machine.execLvPresenceTestComplete dt v j s
  | .lvAckWrite dt who value => Sys2Proof.Machine.execLvAckWrite dt who value s
  | .batterySwitchOvercurrent dt j => Sys2Proof.Machine.execBatterySwitchOvercurrent dt j s
  | .handoverSwitchOn dt => Sys2Proof.Machine.execHandoverSwitchOn dt s
  | .handbackCountComplete dt => Sys2Proof.Machine.execHandbackCountComplete dt s
  | .exportBackfeed dt v => Sys2Proof.Machine.execExportBackfeed dt v s
  | .exportOverloadTrip dt => Sys2Proof.Machine.execExportOverloadTrip dt s
  | .svcPressRelease dt => Sys2Proof.Machine.execSvcPressRelease dt s
  | .svcHold8s dt => Sys2Proof.Machine.execSvcHold8s dt s
  | .svcHold10s dt => Sys2Proof.Machine.execSvcHold10s dt s
  | .systemResetRestore dt => Sys2Proof.Machine.execSystemResetRestore dt s
  | .peatCmdWrite dt who value => Sys2Proof.Machine.execPeatCmdWrite dt who value s
  | .peatEntryComplete dt => Sys2Proof.Machine.execPeatEntryComplete dt s
  | .peatWake dt bySvc => Sys2Proof.Machine.execPeatWake dt bySvc s
  | .attnClearWrite dt who value => Sys2Proof.Machine.execAttnClearWrite dt who value s
  | .fenRoundTrigger dt => Sys2Proof.Machine.execFenRoundTrigger dt s
  | .fenRoundLate dt => Sys2Proof.Machine.execFenRoundLate dt s
  | .coolantFlowLow dt => Sys2Proof.Machine.execCoolantFlowLow dt s
  | .pyreriStartupTestsComplete dt failed => Sys2Proof.Machine.execPyreriStartupTestsComplete dt failed s
  | .laneDifference dt odd clk => Sys2Proof.Machine.execLaneDifference dt odd clk s
  | .resyncCopyComplete dt => Sys2Proof.Machine.execResyncCopyComplete dt s
  | .resyncWindowClose dt => Sys2Proof.Machine.execResyncWindowClose dt s
  | .safetyCycle dt x => Sys2Proof.Machine.execSafetyCycle dt x s
  | .cycleWatchdogExpiry dt => Sys2Proof.Machine.execCycleWatchdogExpiry dt s
  | .exchangeStale dt => Sys2Proof.Machine.execExchangeStale dt s
  | .configReqTriple dt who => Sys2Proof.Machine.execConfigReqTriple dt who s
  | .configReqPair dt who => Sys2Proof.Machine.execConfigReqPair dt who s
  | .configReqSplit dt who => Sys2Proof.Machine.execConfigReqSplit dt who s
  | .configReqLeaveSplit dt who => Sys2Proof.Machine.execConfigReqLeaveSplit dt who s
  | .tqoReadbackFault dt d channels => Sys2Proof.Machine.execTqoReadbackFault dt d channels s
  | .safetyInputChange dt ch high => Sys2Proof.Machine.execSafetyInputChange dt ch high s
  | .inputPairDiscrepancy dt k => Sys2Proof.Machine.execInputPairDiscrepancy dt k s
  | .testPulse dt o low => Sys2Proof.Machine.execTestPulse dt o low s
  | .releasePairOverhold dt k => Sys2Proof.Machine.execReleasePairOverhold dt k s
  | .safeReleaseWrite dt who mask => Sys2Proof.Machine.execSafeReleaseWrite dt who mask s
  | .ss1TimeExpiry dt d => Sys2Proof.Machine.execSs1TimeExpiry dt d s
  | .sltViolation dt t => Sys2Proof.Machine.execSltViolation dt t s
  | .speedPlausibilityFault dt t => Sys2Proof.Machine.execSpeedPlausibilityFault dt t s
  | .e2GapExpiry dt t => Sys2Proof.Machine.execE2GapExpiry dt t s
  | .safeParkConfirmTimeout dt => Sys2Proof.Machine.execSafeParkConfirmTimeout dt s
  | .sorrelPulse dt k v => Sys2Proof.Machine.execSorrelPulse dt k v s
  | .setEditOpen dt who => Sys2Proof.Machine.execSetEditOpen dt who s
  | .setEditDiscard dt who => Sys2Proof.Machine.execSetEditDiscard dt who s
  | .setCommit dt who storeOk => Sys2Proof.Machine.execSetCommit dt who storeOk s
  | .hsfDataFrameReceive dt k data => Sys2Proof.Machine.execHsfDataFrameReceive dt k data s
  | .hsfEchoReceive dt k data => Sys2Proof.Machine.execHsfEchoReceive dt k data s
  | .hsfProducerSend dt k => Sys2Proof.Machine.execHsfProducerSend dt k s
  | .hsfWatchdog dt k => Sys2Proof.Machine.execHsfWatchdog dt k s
  | .hsfProducerRestart dt k => Sys2Proof.Machine.execHsfProducerRestart dt k s
  | .crcStartWrite dt who n => Sys2Proof.Machine.execCrcStartWrite dt who n s
  | .crcDataWrite dt who n data => Sys2Proof.Machine.execCrcDataWrite dt who n data s
  | .crcBindingTimeout dt n => Sys2Proof.Machine.execCrcBindingTimeout dt n s
  | .canFrameReceive dt c m sofAgo => Sys2Proof.Machine.execCanFrameReceive dt c m sofAgo s
  | .canFrameTransmitComplete dt c sofAgo => Sys2Proof.Machine.execCanFrameTransmitComplete dt c sofAgo s
  | .canErrorDetected dt c e => Sys2Proof.Machine.execCanErrorDetected dt c e s
  | .canBusOffRecovery dt c => Sys2Proof.Machine.execCanBusOffRecovery dt c s
  | .canSlotStale dt c slot => Sys2Proof.Machine.execCanSlotStale dt c slot s
  | .bridgeRxRead dt who c => Sys2Proof.Machine.execBridgeRxRead dt who c s
  | .bridgeTxWrite dt who c data => Sys2Proof.Machine.execBridgeTxWrite dt who c data s
  | .canChannelOffline dt c => Sys2Proof.Machine.execCanChannelOffline dt c s
  | .canChannelRejoin dt c => Sys2Proof.Machine.execCanChannelRejoin dt c s
  | .canTimestampWrap dt => Sys2Proof.Machine.execCanTimestampWrap dt s
  | .timeReferenceSend dt => Sys2Proof.Machine.execTimeReferenceSend dt s
  | .timeReferenceReceive dt data sofAgo => Sys2Proof.Machine.execTimeReferenceReceive dt data sofAgo s
  | .timeMasterTakeover dt => Sys2Proof.Machine.execTimeMasterTakeover dt s
  | .globalTimeSyncLoss dt => Sys2Proof.Machine.execGlobalTimeSyncLoss dt s
  | .addressClaimStart dt => Sys2Proof.Machine.execAddressClaimStart dt s
  | .addressClaimReceive dt source name => Sys2Proof.Machine.execAddressClaimReceive dt source name s
  | .addressClaimTimer dt => Sys2Proof.Machine.execAddressClaimTimer dt s
  | .canACommand dt dest data => Sys2Proof.Machine.execCanACommand dt dest data s
  | .canARequest dt dest pgn fromAddr => Sys2Proof.Machine.execCanARequest dt dest pgn fromAddr s
  | .canACommandTimeout dt => Sys2Proof.Machine.execCanACommandTimeout dt s
  | .canAStatusSend dt => Sys2Proof.Machine.execCanAStatusSend dt s
  | .emcySend dt => Sys2Proof.Machine.execEmcySend dt s
  | .sdoRequest dt r => Sys2Proof.Machine.execSdoRequest dt r s
  | .sdoTimeout dt => Sys2Proof.Machine.execSdoTimeout dt s
  | .hspRead dt ip port dg => Sys2Proof.Machine.execHspRead dt ip port dg s
  | .hspWrite dt ip port dg => Sys2Proof.Machine.execHspWrite dt ip port dg s
  | .hspClose dt ip port dg => Sys2Proof.Machine.execHspClose dt ip port dg s
  | .hspKeepalive dt ip port dg => Sys2Proof.Machine.execHspKeepalive dt ip port dg s
  | .hspInvalidOp dt ip port f => Sys2Proof.Machine.execHspInvalidOp dt ip port f s
  | .authOpenWrite dt who data => Sys2Proof.Machine.execAuthOpenWrite dt who data s
  | .authResponseWrite dt who data => Sys2Proof.Machine.execAuthResponseWrite dt who data s
  | .nonceExpiry dt j => Sys2Proof.Machine.execNonceExpiry dt j s
  | .authLockExpiry dt can => Sys2Proof.Machine.execAuthLockExpiry dt can s
  | .keyWrite dt who safety data => Sys2Proof.Machine.execKeyWrite dt who safety data s
  | .sessionCloseWrite dt who => Sys2Proof.Machine.execSessionCloseWrite dt who s
  | .sessionIdleTimeout dt j => Sys2Proof.Machine.execSessionIdleTimeout dt j s
  | .ethernetLinkDown dt => Sys2Proof.Machine.execEthernetLinkDown dt s
  | .ownerWrite dt who d code => Sys2Proof.Machine.execOwnerWrite dt who d code s
  | .eventLogEntry dt => Sys2Proof.Machine.execEventLogEntry dt s
  | .logNextRead dt who => Sys2Proof.Machine.execLogNextRead dt who s
  | .logClearWrite dt who => Sys2Proof.Machine.execLogClearWrite dt who s
  | .faultOccClearWrite dt who => Sys2Proof.Machine.execFaultOccClearWrite dt who s
  | .operatingTimeSave dt => Sys2Proof.Machine.execOperatingTimeSave dt s
  | .updateStart dt who => Sys2Proof.Machine.execUpdateStart dt who s
  | .updateAbort dt who => Sys2Proof.Machine.execUpdateAbort dt who s
  | .rollbackRequest dt who otherOk => Sys2Proof.Machine.execRollbackRequest dt who otherOk s
  | .updateEraseComplete dt => Sys2Proof.Machine.execUpdateEraseComplete dt s
  | .tftpDataReceive dt tid block data programOk => Sys2Proof.Machine.execTftpDataReceive dt tid block data programOk s
  | .tftpErrorReceive dt tid => Sys2Proof.Machine.execTftpErrorReceive dt tid s
  | .tftpTimeout dt => Sys2Proof.Machine.execTftpTimeout dt s
  | .updateVerifyComplete dt readOk markerOk => Sys2Proof.Machine.execUpdateVerifyComplete dt readOk markerOk s
  | .captureArm dt who => Sys2Proof.Machine.execCaptureArm dt who s
  | .captureForce dt who => Sys2Proof.Machine.execCaptureForce dt who s
  | .captureStop dt who => Sys2Proof.Machine.execCaptureStop dt who s
  | .captureRow dt portTakes => Sys2Proof.Machine.execCaptureRow dt portTakes s
  | .captureReadData dt who len => Sys2Proof.Machine.execCaptureReadData dt who len s
  | .registerWrite dt who index sub data => Sys2Proof.Machine.execRegisterWrite dt who index sub data s
  | .svcPressed dt => Sys2Proof.Machine.execSvcPressed dt s
  | .producerHeartbeat dt => Sys2Proof.Machine.execProducerHeartbeat dt s
  | .ethernetLinkUp dt => Sys2Proof.Machine.execEthernetLinkUp dt s
  | .soCurrentLimitOff dt k => Sys2Proof.Machine.execSoCurrentLimitOff dt k s

end Sys2Proof.Machine
end

