-- ==== Sys2Proof/Safety.lean ====
section
/-! DEFINITION. The terms the statements use: when a write is accepted, what an event leaves in the log, the canonical
form of the two stores, what a command leaves as it was, and what a safe run is. -/
namespace Sys2Proof.Machine
open Sys2Proof

/-! ### Accesses -/

/-- The state in which an access is decided: its time has come, and its session is open. -/
def State.begun (s : State) (dt : Nat) (who : Requester) : State := (s.elapse dt).touch who

/-- A write of an object by a session is admitted (R56, R62, R67, R474, R475, R486): the dictionary answers, the session
has the role, the object is behind no closed wrapper, and no other source wrote it in the same tick. What the object's
own rule asks for comes on top. -/
def State.accepts (s : State) (dt : Nat) (who : Requester) (key : Nat) (role : Role) : Bool :=
  s.dictUp && !s.diagOnly && who != .canA && decide (role.num ≤ ((s.begun dt who).roleOf who).num) &&
    !(s.begun dt who).walled key && !(s.sessions.writes.any fun w => w.1 == key && w.2.1 == s.tb + dt)

/-- The last command answered an access of a requester without error. -/
def State.answered (t : State) (who : Requester) : Bool :=
  match t.out.getLast? with
  | some (.response w status _) => w == who && status == 0
  | _ => false

/-- The last command refused an access of a requester with an abort code (Table 19.3). -/
def State.refusedWith (t : State) (who : Requester) (code : Nat) : Bool := t.out == [.response who code []]

/-- A write of an object is no command and has no effect of its own: the object's rules pass and the value is stored
(R475). -/
def State.storesPlainly (s : State) (who : Requester) (index sub : Nat) (v : Val) (data : List Byte) : Bool :=
  let n := v.toInt.toNat
  (s.writeLow who index sub v data).isNone && (s.writeDrives who index sub v data).isNone &&
    (s.writeHigh who index sub v data).isNone && (State.ownEffect who index sub v).isNone &&
    (s.writeSelector who index sub n).isNone && index != 0x2004 && index != 0x3100 &&
    (s.set (s.objKey who index sub) v).valueOk index sub n && s.stateOk who index sub n

/-- A read of an object shows its stored value and does nothing else (R475). -/
def State.readsPlainly (s : State) (who : Requester) (index sub : Nat) (r : DictRow) : Bool :=
  r.acc != .wo && r.acc != .safe && (s.view who index sub).isNone && !(index == 0x2006 && (sub == 4 || sub == 5)) &&
    !(decide (0x2F00 ≤ index) && decide (index ≤ 0x2F03) && sub == 0x1D) && !(index == 0x3110 && sub == 0x10) &&
    !(decide (0x2E00 ≤ index) && decide (index ≤ 0x2E03) && sub == 0x0A) && !(index == 0x2002 && sub == 5) &&
    !(index == 0x2120 && sub == 3)

/-- A datagram of the service protocol reaches slot `i` and is not a repeat (R477). -/
def State.hspReaches (s : State) (i : Fin 4) (ip port : Nat) (dg : List Byte) : Bool :=
  s.sessions.linkUp && s.dictUp && !s.diagOnly && hspFormed dg && s.peerSlot ip port == some i &&
    (s.sessOf (.eth i)).isOpen && (s.sessOf (.eth i)).cached.isNone

/-- INDEX and SUB of a datagram (Table 19.4). -/
def hspIndex (dg : List Byte) : Nat := dgField dg 4 2
def hspSub (dg : List Byte) : Nat := dgField dg 6 1

/-! ### The log -/

/-- The newest event, in the buffer or held until step 7. -/
def State.newestEvent (s : State) : Option LogEntry :=
  if s.logReady then s.log.buffer.getLast? else s.log.held.getLast?

/-- The log buffer has room. -/
def State.logRoom (s : State) : Bool := decide (s.log.buffer.length < 32)

/-- The newest event has this code, source and detail, and the timebase of the die it comes from (R25, R488). -/
def State.logged (s : State) (code source detail : Nat) : Bool :=
  s.newestEvent == some ⟨s.stampOf (eventDie code source detail), code, source, eventSeverity code, detail⟩

/-! ### Canonical form and frames -/

/-- Both stores are in their canonical form: equal contents are equal data. -/
def State.canonical (s : State) : Bool := storeWf s.od && Memory.wf s.cust

/-- Every object outside a list of keys reads as before. -/
def State.sameBut (s t : State) (keys : List Nat) : Prop := ∀ k, k ∉ keys → t.get k = s.get k

/-- Every octet of the customer area reads as before. -/
def State.sameCust (s t : State) : Prop := ∀ a, Memory.read t.cust a = Memory.read s.cust a

/-- Every drive but those listed is as before. -/
def State.sameDrives (s t : State) (ds : List Drive) : Prop := ∀ d, d ∉ ds → t.drv d = s.drv d

/-- No stage cell switches. -/
def State.quiet (s : State) : Prop := ∀ c : Cell, (s.cell c).mode ≠ .switching

/-- The invariant of the machine: both stores in canonical form, the customer area within its 8,192 bytes (R58). -/
def State.inv (s : State) : Prop := s.canonical = true ∧ ∀ e ∈ s.cust, e.1 < custSize

/-! ### The trim load (R55) -/

/-- The trim load of the state before is aborted: the device is held in reset, no failed load is counted, and the release
of reset starts the load from its beginning. -/
def State.trimAborted (s t : State) : Prop :=
  t.bringup.step = 0 ∧ t.nat Od.BKP_BKP13 = s.nat Od.BKP_BKP13 ∧
    ∀ dt, t.bestSource ≠ 0 → ∃ u, exec (.nrstRelease dt) t = .next u ∧ u.bringup.step = 1 ∧ u.bringup.trimAttempts = 0 ∧
      u.nat Od.BKP_BKP13 = s.nat Od.BKP_BKP13

/-! ### Parts of the state, and what a command leaves as it was -/

/-- The parts of the state, one for each field. -/
inductive Part where
  | od | tb | fresh | out | log | bringup | clocks | links | drives | cells
  | legs | store | cust | shunts | seqs | axes | traction | pifs | lus | stageIn
  | lvCommand | engines | tasks | pool | gbx | dcl | aux | chg | path | thermal
  | gcps | pyr | safety | conns | crcs | chans | time | canA | sessions | img | cap
  | pending
  deriving DecidableEq, Repr

/-- Two states agree on a part. -/
def Part.same (s t : State) : Part → Prop
  | .od => t.od = s.od
  | .tb => t.tb = s.tb
  | .fresh => t.fresh = s.fresh
  | .out => t.out = s.out
  | .log => t.log = s.log
  | .bringup => t.bringup = s.bringup
  | .clocks => t.clocks = s.clocks
  | .links => t.links = s.links
  | .drives => t.drives = s.drives
  | .cells => t.cells = s.cells
  | .legs => t.legs = s.legs
  | .store => t.store = s.store
  | .cust => t.cust = s.cust
  | .shunts => t.shunts = s.shunts
  | .gcps => t.gcps = s.gcps
  | .seqs => t.seqs = s.seqs
  | .axes => t.axes = s.axes
  | .traction => t.traction = s.traction
  | .pifs => t.pifs = s.pifs
  | .lus => t.lus = s.lus
  | .stageIn => t.stageIn = s.stageIn
  | .lvCommand => t.lvCommand = s.lvCommand
  | .engines => t.engines = s.engines
  | .tasks => t.tasks = s.tasks
  | .pool => t.pool = s.pool
  | .gbx => t.gbx = s.gbx
  | .dcl => t.dcl = s.dcl
  | .aux => t.aux = s.aux
  | .chg => t.chg = s.chg
  | .path => t.path = s.path
  | .thermal => t.thermal = s.thermal
  | .pyr => t.pyr = s.pyr
  | .safety => t.safety = s.safety
  | .conns => t.conns = s.conns
  | .crcs => t.crcs = s.crcs
  | .chans => t.chans = s.chans
  | .time => t.time = s.time
  | .canA => t.canA = s.canA
  | .sessions => t.sessions = s.sessions
  | .img => t.img = s.img
  | .cap => t.cap = s.cap
  | .pending => t.pending = s.pending

/-- No part but those listed differs. -/
def State.changesOnly (s t : State) (ps : List Part) : Prop := ∀ p, p ∉ ps → p.same s t

/-- The parts listed are the same. -/
def State.keepsParts (s t : State) (ps : List Part) : Prop := ∀ p, p ∈ ps → p.same s t

/-- Not an object that any access moves: the requests and rejects counted, and their overflow flags. -/
def noAccess (k : Nat) : Prop :=
  k ≠ Od.SVC_REQUESTS ∧ k ≠ Od.CNT_CNT_OVF_MAP ∧ k ≠ Od.CAN_A_REJECTS 0 ∧ k ≠ Od.CAN_CAN_CNT_STATUS 0 ∧
    k ≠ Od.OWN_OWN_STATUS ∧ k ≠ Od.OWN_ARB_ABORTS

/-- Not an object that a drive which leaves its state moves: set-points and estimates of its cells, states of its
gearbox, charger or converter, coefficients of its loop units, and the counts of it. -/
def noReaction (k : Nat) : Prop :=
  (∀ i, i < 2 → k ≠ Od.AXLE_LIMIT_AXLE_A + i) ∧
    (∀ x, x < 8 → k ≠ Od.AX_AXIS_STATUS x) ∧
    (∀ x, x < 8 → k ≠ Od.AX_I_ALPHA x) ∧
    (∀ x, x < 8 → k ≠ Od.AX_I_BETA x) ∧
    (∀ x, x < 8 → k ≠ Od.AX_PSI_ALPHA x) ∧
    (∀ x, x < 8 → k ≠ Od.AX_PSI_BETA x) ∧
    (∀ x, x < 8 → k ≠ Od.AX_TQ_REF x) ∧
    k ≠ Od.BKP_BKP15 ∧
    k ≠ Od.CHG_SESSION_STEP ∧
    k ≠ Od.CHR_AC_PHASES ∧
    k ≠ Od.CHR_CHG_STATUS ∧
    k ≠ Od.CNT_CNT_OVF_MAP ∧
    k ≠ Od.CNV_AUX_MODE ∧
    k ≠ Od.CNV_AUX_STATUS ∧
    k ≠ Od.CNV_DAB_PHASE ∧
    k ≠ Od.CNV_VR_TARGET ∧
    k ≠ Od.DCL_CHOP_DUTY ∧
    k ≠ Od.DCL_DCL_STATUS ∧
    k ≠ Od.DCL_DISCH_STATE ∧
    (∀ x, x < 3 → k ≠ Od.EXP_EXP_I x) ∧
    k ≠ Od.EXP_EXP_I_N ∧
    k ≠ Od.EXP_EXP_P ∧
    k ≠ Od.EXP_EXP_S ∧
    k ≠ Od.EXP_EXP_STATUS ∧
    (∀ x, x < 3 → k ≠ Od.EXP_EXP_V x) ∧
    k ≠ Od.GBX_RECOVERY_PATH ∧
    (∀ x, x < 4 → k ≠ Od.GC_GC_STATUS x) ∧
    (∀ x, x < 4 → k ≠ Od.GC_SUSPENDS x) ∧
    k ≠ Od.HV_HV_STATE ∧
    (∀ x y, x < 24 → y < 8 → k ≠ Od.LU_A1 x y) ∧
    (∀ x y, x < 24 → y < 8 → k ≠ Od.LU_A2 x y) ∧
    (∀ x y, x < 24 → y < 8 → k ≠ Od.LU_B0 x y) ∧
    (∀ x y, x < 24 → y < 8 → k ≠ Od.LU_B1 x y) ∧
    (∀ x y, x < 24 → y < 8 → k ≠ Od.LU_B2 x y) ∧
    (∀ x, x < 24 → k ≠ Od.LU_COMMITS x) ∧
    (∀ x, x < 24 → k ≠ Od.LU_DIR_SIGNS x) ∧
    (∀ x, x < 24 → k ≠ Od.LU_LU_CNT_STATUS x) ∧
    (∀ x, x < 24 → k ≠ Od.LU_REF x) ∧
    (∀ x y, x < 24 → y < 8 → k ≠ Od.LU_SEC_CTRL x y) ∧
    k ≠ Od.LV_BAT_SW_MODE ∧
    k ≠ Od.LV_HANDOVERS ∧
    k ≠ Od.LV_LV_CNT_STATUS ∧
    k ≠ Od.LV_LV_STATE ∧
    k ≠ Od.LV_LV_STATUS ∧
    k ≠ Od.LV_VR_SOURCE ∧
    (∀ x, x < 15 → k ≠ Od.OBS_ASC_TIME_ms x) ∧
    (∀ x, x < 8 → k ≠ Od.OBS_ID_CMD x) ∧
    (∀ x, x < 8 → k ≠ Od.OBS_ID_STATUS x) ∧
    (∀ x, x < 15 → k ≠ Od.OBS_OBS_CNT_STATUS x) ∧
    (∀ x, x < 8 → k ≠ Od.OBS_OBS_STATUS x) ∧
    (∀ x, x < 2 → k ≠ Od.PRK_PARK_CNT_STATUS x) ∧
    (∀ x, x < 2 → k ≠ Od.PRK_PARK_STATE x) ∧
    (∀ x, x < 2 → k ≠ Od.PRK_UNCOMMANDED x) ∧
    (∀ x, x < 2 → k ≠ Od.SHF_GEAR_STATE x) ∧
    k ≠ Od.SHF_SHIFT_CNT_STATUS ∧
    (∀ x, x < 2 → k ≠ Od.SHF_SHIFT_FAILS x) ∧
    (∀ x, x < 2 → k ≠ Od.SHF_SHIFT_STEP x) ∧
    (∀ x, x < 50 → k ≠ Od.SH_CH_STATUS x) ∧
    (∀ x, x < 8 → k ≠ Od.SOL_DUTY x) ∧
    (∀ x, x < 8 → k ≠ Od.SOL_ENERGISATIONS x) ∧
    (∀ x, x < 8 → k ≠ Od.SOL_I_SET x) ∧
    (∀ x, x < 8 → k ≠ Od.SOL_SOL_CNT_STATUS x) ∧
    (∀ x, x < 8 → k ≠ Od.SOL_SOL_STATUS x) ∧
    (∀ x, x < 8 → k ≠ Od.SQ_SQ_STATUS x) ∧
    (∀ x, x < 8 → k ≠ Od.SQ_TRIG_OVERRUNS x) ∧
    (∀ x, x < 2 → k ≠ Od.TR_TQ_RAMP x) ∧
    (∀ x, x < 2 → k ≠ Od.TR_TQ_SET x)

/-- Not an object that a device reset sets. -/
def noReset (k : Nat) : Prop :=
  k ≠ Od.BKP_BKP14 ∧ k ≠ Od.BKP_BKP15 ∧ k ≠ Od.CNT_CNT_OVF_MAP ∧ k ≠ Od.LV_BAT_SW_MODE ∧ k ≠ Od.LV_LV_STATUS ∧
    k ≠ Od.LV_VR_SOURCE ∧ k ≠ Od.RST_BRINGUP_STATUS ∧ k ≠ Od.SUP_ACTIVE_SOURCE ∧ k ≠ Od.SUP_SUPPLY_STATUS

/-- No loop unit holds a queued write of this object. -/
def State.unqueued (s : State) (k : Nat) : Prop := ∀ n : Fin 24, ∀ e ∈ (s.lu n).queue, e.1 ≠ k

/-! ### Safe runs -/

/-- A state is safe if a drive whose torque-off pair is asserted by any demand but a link loss is not ACTIVE, ARMED or
STOPPING (R28, Table 5.10). -/
def State.torqueSafe (s : State) : Prop :=
  ∀ d : Drive, (s.drv d).tqo = true → s.ds d = .unavailable ∨ s.ds d = .inhibit

/-- A run is safe if it stops at no fault and no refusal and keeps the canonical form. -/
def SafeRun (k : Nat) (s : State) : Prop :=
  ∃ t, Host.Core.run Sys2Proof.core k s = .next t ∧ State.canonical t = true

end Sys2Proof.Machine
end

