-- ==== Sys2Proof/Certificates/Slice0/Obligations.lean ====
section
/-! DEFINITION. The statements about the machine. A statement that groups several commands says of each, for every state and
operands that meet its conditions, that the command completes and what the next state holds. -/
open Sys2Proof Sys2Proof.Machine

/-- What the isolation links' frames, lanes, losses and apply times do. States the completion of: linkFrameReceive,
linkLaneFail, linkLossIslandDie, linkLossIslandC, linkTrainingComplete, applyTimeReached. -/
def Obligations.LinkCommandsComplete : Prop :=
  (∀ (s : State) (dt : Nat) (l : Link) (toC : Bool) (sent f : BitVec 96),
    (s.link l).trained = true →
    linkCrcOk f = true →
    frameSeq f = ((s.link l).dir toC).expected →
    ∃ t, exec (.linkFrameReceive dt l toC ⟨sent, f⟩) s = .next t ∧
      (t.out = (f :: inSequence ((frameSeq f + 1) % 16) ((s.link l).dir toC).heldBack).map fun g => Output.linkPayload
        l toC (framePayload g)) ∧
      ((t.link l).dir toC).heldBack = ((s.link l).dir toC).heldBack.drop (inSequence ((frameSeq f + 1) % 16) ((s.link
        l).dir toC).heldBack).length) ∧
  (∀ (s : State) (dt : Nat) (l : Link) (toC : Bool) (sent f : BitVec 96),
    (s.link l).trained = true →
    linkCrcOk f = true →
    frameSeq f ≠ ((s.link l).dir toC).expected →
    ∃ t, exec (.linkFrameReceive dt l toC ⟨sent, f⟩) s = .next t ∧
      t.out = [] ∧
      ((t.link l).dir toC).heldBack = ((s.link l).dir toC).heldBack ++ [f] ∧
      ((t.link l).dir toC).expected = ((s.link l).dir toC).expected) ∧
  (∀ (s : State) (dt : Nat) (l : Link) (toC : Bool) (sent f : BitVec 96),
    (s.link l).trained = true →
    linkCrcOk f = false →
    ∃ t, exec (.linkFrameReceive dt l toC ⟨sent, f⟩) s = .next t ∧
      t.out = [.linkReplayRequest l toC (((s.link l).dir toC).keep sent).sent] ∧
      ((t.link l).dir toC).expected = ((s.link l).dir toC).expected ∧
      ((t.link l).dir toC).heldBack = ((s.link l).dir toC).heldBack) ∧
  (∀ (s : State) (dt : Nat) (l : Link) (toC lane1 : Bool),
    ((if lane1 then ((s.link l).dir toC).lane1 else ((s.link l).dir toC).lane0) = true) →
    s.logRoom = true →
    ∃ t, exec (.linkLaneFail dt l toC lane1) s = .next t ∧
      ((t.link l).dir toC).lane1 = (!lane1 && ((s.link l).dir toC).lane1) ∧
      ((t.link l).dir toC).lane0 = (lane1 && ((s.link l).dir toC).lane0) ∧
      (t.logged 0x0120 0xFF (l.num + (if lane1 then 256 else 0) + if toC then 65536 else 0) = true)) ∧
  (∀ (s : State) (dt : Nat) (l : Link),
    s.linkLive = true →
    (s.link l).dieLost = false →
    ∃ t, exec (.linkLossIslandDie dt l) s = .next t ∧
      (t.link l).dieLost = true ∧
      (∀ c ∈ l.cells, (t.cell c).held = true)) ∧
  (∀ (s : State) (dt : Nat) (l : Link),
    s.linkLive = true →
    (s.link l).trained = true →
    ∃ t, exec (.linkLossIslandC dt l) s = .next t ∧
      (t.link l).trained = false ∧
      (t.link l).lost = true ∧
      (t.link l).pending = [] ∧
      (∀ d ∈ l.drives, s.ds d ≠ .inhibit → (t.drv d).tqoLinkDue = true)) ∧
  (∀ (s : State) (dt : Nat) (l : Link) (lat : Nat),
    s.linkLive = true →
    (s.link l).trained = false →
    ∃ t, exec (.linkTrainingComplete dt l lat) s = .next t ∧
      (t.link l).trained = true ∧
      (t.link l).skewCal = true ∧
      (t.link l).training = false) ∧
  (∀ (s : State) (dt : Nat) (l : Link) (a : Nat) (c : Cell),
    (s.link l).pending = [(a, .switch c)] →
    a ≤ (s.elapse dt).dieTb l →
    ((s.cell c).mode = .coast ∧ (s.cell c).supHi = true) →
    ∃ t, exec (.applyTimeReached dt l) s = .next t ∧
      (t.cell c).mode = .switching ∧
      (∀ c', c' ≠ c → t.cell c' = s.cell c') ∧
      (t.link l).pending = []) ∧
  (∀ (s : State) (dt : Nat) (l : Link),
    (∀ p ∈ (s.link l).pending, (s.elapse dt).dieTb l < p.1 ∨ p.2.isPhase = true) →
    ∃ t, exec (.applyTimeReached dt l) s = .next t ∧
      (t.link l).pending = (s.link l).pending ∧
      t.od = s.od)

/-- What memory errors, the scrubber and the clock monitors do. States the completion of: eccUncorrectableError,
eccSingleBitCorrection, scrubPass, clockMonitorWindow, clkFaultLatchWrite. -/
def Obligations.MemoryAndClockCommandsComplete : Prop :=
  (∀ (s : State) (dt : Nat) (r : Fin 16),
    s.logRoom = true →
    ∃ t, exec (.eccUncorrectableError dt (.backup r)) s = .next t ∧
      t.nat (Od.BKP_REG r.val) = 0 ∧
      t.logged 0x0144 0xFF 0 = true) ∧
  (∀ (s : State) (dt : Nat),
    s.logRoom = true →
    ∃ t, exec (.eccUncorrectableError dt .capture) s = .next t ∧
      t.nat Od.CAP_CAP_STATE = 5 ∧
      t.logged 0x0143 0xFF 0 = true) ∧
  (∀ (s : State) (dt : Nat) (u : Fin 1024) (a : Nat),
    (256 ≤ u.val ∧ u.val < 768) →
    (16 * (u.val - 256) ≤ a ∧ a < 16 * (u.val - 256) + 16) →
    ∃ t, exec (.eccUncorrectableError dt (.retained u)) s = .next t ∧
      Memory.read t.cust a = 0) ∧
  (∀ (s : State) (dt : Nat) (u : Fin 1024) (a : Nat),
    (a < 16 * (u.val - 256) ∨ 16 * (u.val - 256) + 16 ≤ a) →
    ∃ t, exec (.eccUncorrectableError dt (.retained u)) s = .next t ∧
      Memory.read t.cust a = Memory.read s.cust a) ∧
  (∀ (s : State) (dt : Nat),
    s.nat Od.SYS_ECC_CORRECTED < 2 ^ 32 →
    ∃ t, exec (.eccSingleBitCorrection dt) s = .next t ∧
      t.nat Od.SYS_ECC_CORRECTED = min (s.nat Od.SYS_ECC_CORRECTED + 1) (2 ^ 32 - 1)) ∧
  (∀ (s : State) (dt t0 : Nat),
    1 ≤ s.bringup.step →
    s.clocks.scrubTb = some t0 →
    t0 + ms (s.nat Od.SYS_SCRUB_PERIOD_ms) ≤ s.tb + dt →
    ∃ t, exec (.scrubPass dt) s = .next t ∧
      t.clocks.scrubTb = some (s.tb + dt)) ∧
  (∀ (s : State) (dt : Nat) (m : ClockMonitor) (hz : Nat),
    3 ≤ s.bringup.step →
    inWindow m hz = true →
    (∀ i ∈ s.clocks.faults, i = monitorId m ∨ faultBit i ≠ monitorBit m) →
    ∃ t, exec (.clockMonitorWindow dt m hz) s = .next t ∧
      t.bit Od.SYS_CLK_STATUS (monitorBit m) = true ∧
      monitorId m ∉ t.clocks.faults) ∧
  (∀ (s : State) (dt : Nat) (hz n : Nat),
    3 ≤ s.bringup.step →
    inWindow (.domain 13) hz = false →
    (s.clocks.outRuns.find? (fun e => e.1 == 13) = some (13, n)) →
    (1 ≤ n ∧ 13 ∉ s.clocks.faults) →
    s.logRoom = true →
    ∃ t, exec (.clockMonitorWindow dt (.domain 13) hz) s = .next t ∧
      t.bit Od.SYS_CLK_STATUS 13 = false ∧
      t.bit Od.SYS_CLK_FAULT_LATCH 13 = true ∧
      t.logged 0x0138 0xFF (13 + 256 * (hz / 1000)) = true) ∧
  (∀ (s : State) (dt : Nat) (who : Requester) (v : BitVec 32),
    s.accepts dt who Od.SYS_CLK_FAULT_LATCH .operator = true →
    ∃ t, exec (.clkFaultLatchWrite dt who v) s = .next t ∧
      t.nat Od.SYS_CLK_FAULT_LATCH = s.nat Od.SYS_CLK_FAULT_LATCH &&& (0xFFFFFFFF ^^^ (v.toNat &&& s.nat
        Od.SYS_CLK_STATUS)) ∧
      t.answered who = true)

/-- What the control supply's sources do. States the completion of: supplySourceChange, allSourcesInvalid,
holdupInterruptionBridged, powerStageSupplyLoss, islandSupplyRemoval, powerStageSupplyReturn. -/
def Obligations.SupplyCommandsComplete : Prop :=
  (∀ (s : State) (dt : Nat) (r : SupplyReading),
    ∃ t, exec (.supplySourceChange dt r) s = .next t ∧
      t.nat Od.SUP_ACTIVE_SOURCE = t.bestSource) ∧
  (∀ (s : State) (dt : Nat) (v : Rat),
    ∃ t, exec (.supplySourceChange dt (.lv v)) s = .next t ∧
      t.bringup.lvOk = lvValidNow s.bringup.lvOk (s.bit Od.SUP_SUPPLY_STATUS 3) v ∧
      t.num Od.SUP_V_LV_IN = v) ∧
  (∀ (s : State) (dt : Nat),
    ∃ t, exec (.allSourcesInvalid dt) s = .next t ∧
      t.bestSource = 0 ∧
      t.bringup.holdupTb = some (s.bringup.holdupTb.getD (s.tb + dt))) ∧
  (∀ (s : State) (dt : Nat) (r : SupplyReading) (t0 : Nat),
    s.bringup.holdupTb = some t0 →
    ((s.elapse dt).readSupply r).bestSource ≠ 0 →
    s.bringup.step ≠ 0 →
    s.nat Od.SUP_HOLDUP_EVENTS < 2 ^ 32 →
    ∃ t, exec (.holdupInterruptionBridged dt r) s = .next t ∧
      t.bringup.holdupTb = none ∧
      t.nat Od.SUP_HOLDUP_EVENTS = min (s.nat Od.SUP_HOLDUP_EVENTS + 1) (2 ^ 32 - 1)) ∧
  (∀ (s : State) (dt : Nat),
    (s.elapse dt).stageLossDue = true →
    ∃ t, exec (.powerStageSupplyLoss dt) s = .next t ∧
      t.bringup.stageStopTb = some (s.tb + dt) ∧
      (∀ l : Link, (t.link l).trained = false) ∧
      (∀ l : Link, ∀ c ∈ l.cells, (t.cell c).held = true)) ∧
  (∀ (s : State) (dt : Nat),
    s.bringup.stageStopTb.isSome = true →
    s.powerOk = false →
    ∃ t, exec (.islandSupplyRemoval dt) s = .next t ∧
      t.bringup.islandOn = false ∧
      t.bringup.stageStopTb = none ∧
      (∀ d : Drive, t.ds d = .unavailable)) ∧
  (∀ (s : State) (dt : Nat) (r : SupplyReading),
    7 ≤ s.bringup.step →
    s.bringup.islandOn = false →
    ((s.elapse dt).readSupply r).powerOk = true →
    ∃ t, exec (.powerStageSupplyReturn dt r) s = .next t ∧
      t.bringup.islandOn = true ∧
      t.bringup.podlOnly = false ∧
      8 ≤ t.bringup.step ∧
      (∀ l : Link, (t.link l).training = true))

/-- What the resets do. States the completion of: mainPowerOnReset, aonPowerOnReset, nrstAssert, deferredResetProceed,
nrstRelease. -/
def Obligations.ResetCommandsComplete : Prop :=
  (∀ (s : State) (dt : Nat),
    (s.elapse dt).railFalls = true →
    ∃ t, exec (.mainPowerOnReset dt) s = .next t ∧
      (t.bringup.step = 0 ∧ t.bringup.resetLatch = true) ∧
      t.bringup.cause = 2 ∧
      (∀ d : Drive, t.ds d = .unavailable)) ∧
  (∀ (s : State) (dt : Nat) (vBat : Rat),
    s.bestSource = 0 →
    s.bringup.holdupTb = none →
    feedNow s.bringup.batFeed vBat = false →
    ∃ t, exec (.aonPowerOnReset ⟨dt, vBat⟩) s = .next t ∧
      t.cust = [] ∧
      t.log.ring = [] ∧
      (t.bringup.cause = 1 ∧ t.bringup.step = 0 ∧ t.bringup.resetLatch = true) ∧
      t.bringup.batFeed = false ∧
      t.nat Od.RST_RESET_COUNT = 0 ∧
      (∀ d : Drive, t.ds d = .unavailable)) ∧
  (∀ (s : State) (dt : Nat) (vBat : Rat),
    s.bestSource ≠ 0 →
    ∃ t, exec (.aonPowerOnReset ⟨dt, vBat⟩) s = .next t ∧
      t.bringup.batFeed = feedNow s.bringup.batFeed vBat ∧
      t.od = s.od ∧
      t.bringup.step = s.bringup.step) ∧
  (∀ (s : State) (dt ns : Nat),
    s.bringup.resetLatch = false →
    5000 ≤ ns →
    s.bringup.deferredTb = none →
    s.pulseEnd (s.tb + dt) = none →
    ∃ t, exec (.nrstAssert dt ns) s = .next t ∧
      (t.bringup.step = 0 ∧ t.bringup.resetLatch = true) ∧
      t.bringup.cause = 3) ∧
  (∀ (s : State) (dt ns : Nat),
    ns < 1000 →
    ∃ t, exec (.nrstAssert dt ns) s = .next t ∧
      t = s.elapse dt) ∧
  (∀ (s : State) (dt t0 e : Nat),
    s.bringup.deferredTb = some t0 →
    s.pulseEnd t0 = some e →
    e ≤ s.tb + dt →
    ∃ t, exec (.deferredResetProceed dt) s = .next t ∧
      (t.bringup.step = 0 ∧ t.bringup.resetLatch = true) ∧
      t.bringup.cause = s.bringup.cause) ∧
  (∀ (s : State) (dt : Nat),
    s.bringup.resetLatch = true →
    s.bestSource ≠ 0 →
    ∃ t, exec (.nrstRelease dt) s = .next t ∧
      (t.bringup.step = 1 ∧ t.bringup.resetLatch = false) ∧
      t.bringup.trimAttempts = 0 ∧
      t.bringup.releaseTb = s.tb + dt ∧
      t.nat Od.RST_RESET_CAUSE = s.bringup.cause ∧
      (s.nat Od.RST_RESET_COUNT < 2 ^ 32 - 1 → t.nat Od.RST_RESET_COUNT = s.nat Od.RST_RESET_COUNT + 1))

/-- What each step of bring-up does. States the completion of: trimLoadComplete, pllLock, imageCheckComplete,
parameterStoreLoaded, controlIslandUp, driveReadinessComplete, custDataWrite, driveReset, driveResetBlockRelease. -/
def Obligations.BringUpCommandsComplete : Prop :=
  (∀ (s : State) (dt : Nat),
    s.bringup.step = 1 →
    s.bringup.trimFault = false →
    ∃ t, exec (.trimLoadComplete dt true) s = .next t ∧
      t.bringup.step = 2 ∧
      t.nat Od.RST_TRIM_STATUS = 1) ∧
  (∀ (s : State) (dt : Nat),
    s.bringup.step = 1 →
    s.bringup.trimFault = false →
    ∃ t, exec (.trimLoadComplete dt false) s = .next t ∧
      t.bringup.step = 1 ∧
      t.bringup.trimAttempts = s.bringup.trimAttempts + 1 ∧
      t.bringup.trimFault = decide (3 ≤ s.bringup.trimAttempts + 1)) ∧
  (∀ (s : State) (dt : Nat),
    s.bringup.step = 2 →
    ∃ t, exec (.pllLock dt) s = .next t ∧
      t.bringup.step = 3 ∧
      t.bit Od.SYS_CLK_STATUS 15 = true) ∧
  (∀ (s : State) (dt : Nat) (o : Bool) (b : Fin 2),
    s.bringup.step = 3 →
    s.bringup.imageFault = false →
    s.newestBank = some b →
    imagePasses (s.bank b).image = true →
    ∃ t, exec (.imageCheckComplete dt true o) s = .next t ∧
      t.bringup.step = 5 ∧
      t.img.active = b) ∧
  (∀ (s : State) (dt : Nat),
    s.bringup.step = 3 →
    s.bringup.imageFault = false →
    ∃ t, exec (.imageCheckComplete dt false false) s = .next t ∧
      t.bringup.imageFault = true ∧
      t.bit Od.IMG_IMG_STATUS 3 = true) ∧
  (∀ (s : State) (dt : Nat) (rej : List Nat) (ok : Bool),
    s.bringup.step = 5 →
    ∃ t, exec (.parameterStoreLoaded dt rej ok) s = .next t ∧
      t.bringup.step = 6 ∧
      (ok = false → t.safety.invalid = true)) ∧
  (∀ (s : State) (dt : Nat),
    s.bringup.step = 6 →
    ∃ t, exec (.controlIslandUp dt) s = .next t ∧
      t.dictUp = true ∧
      t.nat Od.RST_CTRL_READY_ms = min ((s.tb + dt - s.bringup.releaseTb) / 100000) 65535) ∧
  (∀ (s : State) (dt : Nat) (d : Drive),
    s.ds d = .unavailable →
    8 ≤ s.bringup.step →
    ((s.modDrv d fun x => { x with checks := true }).unmet d = 0) →
    (s.drv d).tqo = false →
    ∃ t, exec (.driveReadinessComplete dt d true) s = .next t ∧
      t.ds d = .standby) ∧
  (∀ (s : State) (dt : Nat) (who : Requester) (data : List Byte) (i : Nat),
    s.accepts dt who Od.RET_CUST_DATA .operator = true →
    custWriteOk (s.nat Od.RET_CUST_OFFSET) data.length = true →
    i < data.length →
    ∃ t, exec (.custDataWrite dt who data) s = .next t ∧
      Memory.read t.cust (s.nat Od.RET_CUST_OFFSET + i) = data.getD i 0 ∧
      t.answered who = true) ∧
  (∀ (s : State) (dt : Nat) (who : Requester) (data : List Byte) (a : Nat),
    s.accepts dt who Od.RET_CUST_DATA .operator = true →
    (a < s.nat Od.RET_CUST_OFFSET ∨ s.nat Od.RET_CUST_OFFSET + data.length ≤ a) →
    ∃ t, exec (.custDataWrite dt who data) s = .next t ∧
      Memory.read t.cust a = Memory.read s.cust a) ∧
  (∀ (s : State) (dt : Nat) (who : Requester) (data : List Byte),
    s.accepts dt who Od.RET_CUST_DATA .operator = true →
    custWriteOk (s.nat Od.RET_CUST_OFFSET) data.length = false →
    ∃ t, exec (.custDataWrite dt who data) s = .next t ∧
      t.cust = s.cust ∧
      t.refusedWith who 0x06070010 = true) ∧
  (∀ (s : State) (dt : Nat) (who : Requester) (mask : BitVec 8) (d : Drive),
    s.accepts dt who Od.RST_DRIVE_RESET .operator = true →
    (who = .pyreri ∨ ∀ d ∈ Drive.all, mask.toNat.testBit d.num = true → (s.begun dt who).owns who d = true) →
    mask.toNat.testBit d.num = true →
    ∃ t, exec (.driveReset dt who mask) s = .next t ∧
      t.ds d = .unavailable ∧
      (t.drv d).resetTb = some (s.tb + dt)) ∧
  (∀ (s : State) (dt : Nat) (d : Drive) (t0 : Nat),
    (s.drv d).resetTb = some t0 →
    t0 + 1000 ≤ s.tb + dt →
    s.logRoom = true →
    ∃ t, exec (.driveResetBlockRelease dt d) s = .next t ∧
      (t.drv d).resetTb = none ∧
      t.logged 0x0109 0xFF (2 ^ d.num + 256 * (s.drv d).resetRank) = true)

/-- What gate supplies, interlock and bootstrap supplies do. States the completion of: gateSupplyUndervoltage,
bothOnCommand, bootstrapUndervoltage. -/
def Obligations.GateAndBootstrapCommandsComplete : Prop :=
  (∀ (s : State) (dt : Nat) (c : Cell) (p n : Rat),
    (s.cell c).supLo = true →
    gateUv c p n = true →
    ∃ t, exec (.gateSupplyUndervoltage dt c p n) s = .next t ∧
      (t.cell c).heldOff = true ∧
      t.bit (Od.CELL_CELL_STATUS c) 8 = true ∧
      (t.ds (cellDrive c) = if s.ds (cellDrive c) = .inhibit then .inhibit else .fault)) ∧
  (∀ (s : State) (dt : Nat) (l : Leg),
    s.nat (Od.CELL_BOTH_ON_COUNT (legCell l)) < 2 ^ 32 →
    ∃ t, exec (.bothOnCommand dt l) s = .next t ∧
      (t.leg l).level = .off ∧
      t.nat (Od.CELL_BOTH_ON_COUNT (legCell l)) = min (s.nat (Od.CELL_BOTH_ON_COUNT (legCell l)) + 1) (2 ^ 32 - 1)) ∧
  (∀ (s : State) (dt : Nat) (l : Leg) (v : Rat),
    cellOf (legCell l) ≠ 14 →
    (s.cell (cellOf (legCell l))).supHi = true →
    v < s.num (Od.CELL_BOOT_UV_THR (cellOf (legCell l))) →
    ∃ t, exec (.bootstrapUndervoltage dt l v) s = .next t ∧
      (t.leg l).bootBlocked = true ∧
      ((s.cell (cellOf (legCell l))).mode ≠ .softOff → (t.leg l).level ≠ .high)) ∧
  (∀ (s : State) (dt : Nat) (l : Leg) (v : Rat),
    cellOf (legCell l) ≠ 14 →
    (s.cell (cellOf (legCell l))).supHi = true →
    s.num (Od.CELL_BOOT_UV_THR (cellOf (legCell l))) ≤ v →
    bootRelease (cellOf (legCell l)) ≤ v →
    ∃ t, exec (.bootstrapUndervoltage dt l v) s = .next t ∧
      (t.leg l).bootBlocked = false)

/-- What each step of the arming sequence leaves (Table 3.4). States the completion of: armingStepComplete. -/
def Obligations.ArmingStepsComplete : Prop :=
  (∀ (s : State) (dt : Nat) (c : Cell) (p n : Rat),
    (s.drv (cellDrive c)).arming ≠ .none →
    (s.cell c).armStep = 2 →
    gateUv c p n = false →
    ∃ t, exec (.armingStepComplete dt c (.supplies p n)) s = .next t ∧
      (t.cell c).armStep = 3 ∧
      t.num (Od.CELL_VGS_SUP_POS c) = p) ∧
  (∀ (s : State) (dt : Nat) (c : Cell) (ch : List (List Int × List Int)) (l : Leg),
    (s.drv (cellDrive c)).arming ≠ .none →
    (s.cell c).armStep = 3 →
    s.calOutcome c ch = .ok →
    l ∈ cellLegList c →
    ∃ t, exec (.armingStepComplete dt c (.offsets ch)) s = .next t ∧
      (t.cell c).armStep = 4 ∧
      t.int (Od.SH_OFFSET l) = meanRound (ch.getD (legPos l) ([], [])).1) ∧
  (∀ (s : State) (dt : Nat) (c : Cell),
    (s.drv (cellDrive c)).arming ≠ .none →
    (s.cell c).armStep = 4 →
    c ≠ 14 →
    ∃ t, exec (.armingStepComplete dt c (.selftest 0 0)) s = .next t ∧
      (t.cell c).armStep = 5 ∧
      t.nat (Od.CELL_SELFTEST_RESULT c) = 0x8000) ∧
  (∀ (s : State) (dt : Nat) (c : Cell),
    (s.drv (cellDrive c)).arming ≠ .none →
    ((s.cell c).armStep = 5 ∧ (s.cell c).mode = .precharge) →
    (s.cell c).pulseTb + us 142 ≤ s.tb + dt →
    ∃ t, exec (.armingStepComplete dt c .pulsesDone) s = .next t ∧
      (t.cell c).armStep = 6 ∧
      (t.cell c).mode = .coast) ∧
  (∀ (s : State) (dt : Nat) (c e : Cell) (b : List Rat) (cur : List (List Rat)),
    (s.drv (cellDrive c)).arming ≠ .none →
    (s.cell c).armStep = 6 →
    (∀ i, i < cellLegs c → bootTarget c ≤ b.getD i 0) →
    (e ∈ (cellDrive c).cells ∧ e ≠ c ∧ (s.cell e).armStep ≠ 7 ∧ (s.cell e).armStep ≠ 0) →
    ∃ t, exec (.armingStepComplete dt c (.bootstraps b cur)) s = .next t ∧
      ((t.cell c).armStep = 7 ∧ (t.cell c).mode = .coast) ∧
      (t.cell c).precharged = true ∧
      t.ds (cellDrive c) = s.ds (cellDrive c)) ∧
  (∀ (s : State) (dt : Nat) (c : Cell) (b : List Rat) (cur : List (List Rat)),
    (s.drv (cellDrive c)).arming = .arm →
    (s.cell c).armStep = 6 →
    (∀ i, i < cellLegs c → bootTarget c ≤ b.getD i 0) →
    (∀ e ∈ (cellDrive c).cells, e ≠ c → (s.cell e).armStep = 7 ∨ (s.cell e).armStep = 0) →
    ∃ t, exec (.armingStepComplete dt c (.bootstraps b cur)) s = .next t ∧
      t.ds (cellDrive c) = .armed ∧
      (t.cell c).precharged = true ∧
      (t.drv (cellDrive c)).armedTb = s.tb + dt) ∧
  (∀ (s : State) (dt : Nat) (c e : Cell) (p n : Rat),
    (s.drv (cellDrive c)).arming = .arm →
    (s.cell c).armStep = 2 →
    gateUv c p n = true →
    s.ds (cellDrive c) = .standby →
    (e ∈ (cellDrive c).cells ∧ (s.cell e).mode ≠ .softOff) →
    ∃ t, exec (.armingStepComplete dt c (.supplies p n)) s = .next t ∧
      t.ds (cellDrive c) = .fault ∧
      (t.drv (cellDrive c)).arming = .none ∧
      (t.cell e).mode = .off) ∧
  (∀ (s : State) (dt : Nat),
    (s.cell 14).armStep = 4 →
    (s.drv .brk).arming = .arm →
    ∃ t, exec (.armingStepComplete dt 14 (.selftest 0 0)) s = .next t ∧
      t.ds .brk = .armed ∧
      (t.cell 14).precharged = true)

/-- What short-circuit detections and the soft turn-off do. States the completion of: shortDetectVds, shortDetectShunt,
softTurnOffPlateauEnd, scLockoutWrite, selftestStart, selftestComplete. -/
def Obligations.ShortCircuitCommandsComplete : Prop :=
  (∀ (s : State) (dt : Nat) (l : Leg) (h m : Bool),
    (s.elapse dt).vdsEnabled l h = true →
    s.nat (Od.CELL_SC_COUNT (legCell l)) < 65535 →
    ∃ t, exec (.shortDetectVds dt l h m) s = .next t ∧
      t.nat (Od.CELL_SC_COUNT (legCell l)) = s.nat (Od.CELL_SC_COUNT (legCell l)) + 1 ∧
      t.nat (Od.CELL_LAST_FAULT_LEG (legCell l)) = l.val ∧
      (t.cell (cellOf (legCell l))).heldOff = true ∧
      (t.ds (cellDrive (legCell l)) = if s.ds (cellDrive (legCell l)) = .inhibit then .inhibit else .fault)) ∧
  (∀ (s : State) (dt : Nat) (l : Leg) (p m : Bool),
    (s.elapse dt).shuntArmed l = true →
    ((s.cell (cellOf (legCell l))).mode ≠ .asc ∧ (s.cell (cellOf (legCell l))).mode ≠ .softOff) →
    ∃ t, exec (.shortDetectShunt dt l p m) s = .next t ∧
      t.nat (Od.CELL_LAST_FAULT_LEG (legCell l)) = l.val ∧
      (t.bit (Od.SH_CH_STATUS l) (if p then 4 else 5) = true) ∧
      (t.cell (cellOf (legCell l))).heldOff = true ∧
      (t.ds (cellDrive (legCell l)) = if s.ds (cellDrive (legCell l)) = .inhibit then .inhibit else .fault)) ∧
  (∀ (s : State) (dt : Nat) (l : Leg) (p m : Bool),
    (s.elapse dt).shuntArmed l = true →
    (s.cell (cellOf (legCell l))).mode = .asc →
    ∃ t, exec (.shortDetectShunt dt l p m) s = .next t ∧
      (t.cell (cellOf (legCell l))).mode = .asc ∧
      t.drives = s.drives ∧
      (t.bit (Od.SH_CH_STATUS l) (if p then 4 else 5) = true)) ∧
  (∀ (s : State) (dt : Nat) (c : Cell) (l : Leg),
    (s.cell c).mode = .softOff →
    s.bringup.resetLatch = false →
    l ∈ cellLegList c →
    ∃ t, exec (.softTurnOffPlateauEnd dt c) s = .next t ∧
      (t.leg l).level = .off ∧
      (t.cell c).plateau = [] ∧
      ((t.cell c).mode = if (s.cell c).supLo then .coast else .off)) ∧
  (∀ (s : State) (dt : Nat) (who : Requester) (c : Cell),
    s.accepts dt who (Od.CELL_SC_LOCKOUT c) .service = true →
    ∃ t, exec (.scLockoutWrite dt who c 0) s = .next t ∧
      t.flag (Od.CELL_SC_LOCKOUT c) = false ∧
      t.answered who = true) ∧
  (∀ (s : State) (dt : Nat) (who : Requester) (c : Cell),
    s.accepts dt who (Od.CELL_SELFTEST c) .service = true →
    (s.ds (cellDrive c) = .standby ∨ s.ds (cellDrive c) = .fault) →
    ∃ t, exec (.selftestStart dt who c 1) s = .next t ∧
      (t.cell c).selftest = true ∧
      ((t.cell c).mode = if (s.cell c).mode = .asc ∨ (s.cell c).mode = .softOff then (s.cell c).mode else .selftest)) ∧
  (∀ (s : State) (dt : Nat) (c : Cell) (v i : BitVec 4),
    (s.cell c).selftest = true →
    s.ds (cellDrive c) = .standby →
    ∃ t, exec (.selftestComplete dt c v i) s = .next t ∧
      t.nat (Od.CELL_SELFTEST_RESULT c) = 0x8000 + 16 * (i.toNat &&& (2 ^ cellLegs c - 1)) + (v.toNat &&& (2 ^
        cellLegs c - 1)) ∧
      (t.cell c).selftest = false ∧
      (t.ds (cellDrive c) = if selftestFailed c v.toNat i.toNat then .fault else .standby))

/-- What tokens, dwell times and counter saves do. States the completion of: tokenRefill, dwellEnd, legCounterSave. -/
def Obligations.LegCommandsComplete : Prop :=
  (∀ (s : State) (dt : Nat) (l : Leg),
    sec 1 ≤ (s.tb + dt - (s.leg l).refillTb) * s.nat (Od.CELL_FSW_MAX (legCell l)) →
    (s.leg l).deferred = false →
    ∃ t, exec (.tokenRefill dt l) s = .next t ∧
      (t.leg l).tokens = min 4 ((s.leg l).tokens + 1) ∧
      (t.leg l).refillTb = s.tb + dt ∧
      (t.leg l).level = (s.leg l).level) ∧
  (∀ (s : State) (dt : Nat) (l : Leg) (a b : Nat),
    sec 1 ≤ (s.tb + dt - (s.leg l).refillTb) * s.nat (Od.CELL_FSW_MAX (legCell l)) →
    ((s.leg l).deferred = true ∧ (s.leg l).want = (a, b)) →
    (stageCell (cellOf (legCell l)) = true ∧ (s.cell (cellOf (legCell l))).mode = .switching) →
    (s.leg l).offTb + s.dwellTicks l ≤ max (s.tb + dt) a →
    max (s.tb + dt) a + s.dwellTicks l ≤ b →
    ∃ t, exec (.tokenRefill dt l) s = .next t ∧
      ((t.leg l).onTb = max (s.tb + dt) a ∧ (t.leg l).offTb = b) ∧
      (t.leg l).deferred = false ∧
      (t.leg l).tokens = min 4 ((s.leg l).tokens + 1) - 1) ∧
  (∀ (s : State) (dt : Nat) (l : Leg) (v alt p : Nat),
    (l.val < 24 ∧ p < 3) →
    (s.ax (axisOf (legCell l))).waitVec = some (v, alt) →
    s.deciding (axisOf (legCell l)) = true →
    (s.elapse dt).dwelling (cellOf (axisOf (legCell l))) = false →
    (s.ax (axisOf (legCell l))).subst = none →
    ((s.elapse dt).measureDue (axisOf (legCell l)) = false ∨ s.measurable (axisOf (legCell l)) v = true) →
    s.vectorBlocked (axisOf (legCell l)) v = false →
    ∃ t, exec (.dwellEnd dt l) s = .next t ∧
      ((t.leg (legOf (cellFirstLeg (axisOf (legCell l)) + p))).level = if vectorBit v p then .high else .low) ∧
      (t.ax (axisOf (legCell l))).waitVec = none) ∧
  (∀ (s : State) (dt : Nat) (c : Cell) (l : Leg),
    l ∈ cellLegList c →
    sec 600 ≤ (s.cell c).swTicks →
    ∃ t, exec (.legCounterSave dt c) s = .next t ∧
      t.store.legSwitches.get l = s.nat (Od.CELL_LEG_SWITCHES c (legPos l)) ∧
      (t.cell c).swTicks = 0)

/-- What recalibrations of a shunt channel do. States the completion of: offsetRecalibrationDue,
offsetRecalibrationComplete, recalibrationLate. -/
def Obligations.ShuntCommandsComplete : Prop :=
  (∀ (s : State) (dt : Nat) (l : Leg),
    (s.elapse dt).calDue l = true →
    (s.shunts.get l).collecting = false →
    ∃ t, exec (.offsetRecalibrationDue dt l) s = .next t ∧
      (t.shunts.get l).collecting = true ∧
      t.bit (Od.SH_CH_STATUS l) 6 = true) ∧
  (∀ (s : State) (dt : Nat) (l : Leg) (z f : List Int),
    (s.shunts.get l).collecting = true →
    (s.ds (cellDrive (legCell l)) = .armed ∨ s.ds (cellDrive (legCell l)) = .active) →
    (s.elapse dt).lowWasOff l = true →
    (∀ m ∈ cellLegList (cellOf (legCell l)), m ≠ l → (s.shunts.get m).collecting = false) →
    ∃ t, exec (.offsetRecalibrationComplete dt l z f) s = .next t ∧
      t.int (Od.SH_OFFSET l) = roundNear (s.int (Od.SH_OFFSET_ARM l) + (meanRat z - (s.shunts.get l).zArm)) ∧
      (t.shunts.get l).collecting = false ∧
      (t.shunts.get l).base = s.tb + dt) ∧
  (∀ (s : State) (dt : Nat) (l m : Leg) (z f : List Int),
    (s.shunts.get l).collecting = true →
    (s.ds (cellDrive (legCell l)) = .armed ∨ s.ds (cellDrive (legCell l)) = .active) →
    (s.elapse dt).lowWasOff l = true →
    (m ∈ cellLegList (cellOf (legCell l)) ∧ m ≠ l ∧ (s.shunts.get m).collecting = true) →
    ∃ t, exec (.offsetRecalibrationComplete dt l z f) s = .next t ∧
      (t.shunts.get l).next = some (roundNear (s.int (Od.SH_OFFSET_ARM l) + (meanRat z - (s.shunts.get l).zArm))) ∧
      (t.shunts.get l).collecting = false ∧
      t.od = s.od) ∧
  (∀ (s : State) (dt : Nat) (l : Leg) (z f : List Int),
    (s.shunts.get l).collecting = true →
    s.calFull l = true →
    (f ≠ [] ∧ spread f ≤ 32) →
    (∀ m ∈ cellLegList (cellOf (legCell l)), m ≠ l → (s.shunts.get m).collecting = false) →
    ∃ t, exec (.offsetRecalibrationComplete dt l z f) s = .next t ∧
      t.int (Od.SH_OFFSET l) = meanRound f ∧
      t.int (Od.SH_OFFSET_ARM l) = meanRound f ∧
      (t.shunts.get l).collecting = false) ∧
  (∀ (s : State) (dt : Nat) (l : Leg) (z f : List Int),
    (s.shunts.get l).collecting = true →
    s.calFull l = true →
    32 < spread f →
    ∃ t, exec (.offsetRecalibrationComplete dt l z f) s = .next t ∧
      t.int (Od.SH_OFFSET l) = s.int (Od.SH_OFFSET l) ∧
      (t.shunts.get l).collecting = false ∧
      (t.shunts.get l).base = s.tb + dt) ∧
  (∀ (s : State) (dt : Nat) (l : Leg),
    (s.shunts.get l).collecting = true →
    (s.shunts.get l).lateLogged = false →
    (s.shunts.get l).base + 2 * s.calInterval l ≤ s.tb + dt →
    s.logRoom = true →
    ∃ t, exec (.recalibrationLate dt l) s = .next t ∧
      (t.shunts.get l).lateLogged = true ∧
      t.logged 0x0404 (legCell l) (s.shuntDetail l) = true)

/-- What triggers, conversions and comparators do. States the completion of: stagePeriodStart, sequencerTrigger,
swTriggerWrite, conversionComplete, sqCtrlWrite, generalComparatorCrossing, gcpClearWrite. -/
def Obligations.SequencerCommandsComplete : Prop :=
  (∀ (s : State) (dt : Nat) (c : Cell) (raw : List Int) (p : List (Nat × Nat)) (n : Fin 16),
    (8 ≤ c.val ∧ s.bringup.islandOn = true) →
    (s.cell c).mode = .switching →
    s.bit (Od.GCP_GCP_CTRL n) 28 = true →
    s.nat (Od.GCP_BLANK_CELL n) = c.val →
    (cellLink c).num = n.val / 4 →
    (s.gcps.get n).crossTb ≠ some (s.tb + dt) →
    ∃ t, exec (.stagePeriodStart ⟨dt, raw, p⟩ c) s = .next t ∧
      t.bit (Od.GCP_GCP_STATUS n) 2 = false ∧
      (t.cell c).periodTb = s.tb + dt) ∧
  (∀ (s : State) (dt : Nat) (c : Cell) (raw : List Int) (p : List (Nat × Nat)) (l : Leg) (r : Int),
    (8 ≤ c.val ∧ s.bringup.islandOn = true) →
    l ∈ cellLegList c →
    raw[legPos l]? = some r →
    ∃ t, exec (.stagePeriodStart ⟨dt, raw, p⟩ c) s = .next t ∧
      t.int (Od.SH_RAW l) = r ∧
      t.int (Od.SH_CORR l) = (correctSample r (s.int (Od.SH_OFFSET l)) (s.nat (Od.SH_GAIN l))).1) ∧
  (∀ (s : State) (dt : Nat) (n : Fin 8),
    (s.elapse dt).seqPeriodDue n = true →
    s.gcOn (n.val / 2) = true →
    ((s.seq n).closedFor = [] ∧ (s.seq n).run = .idle ∧ (s.seq n).pending = false) →
    (s.seq (seqPartner n)).run ≠ .running →
    ∃ t, exec (.sequencerTrigger dt n) s = .next t ∧
      (t.seq n).run = .running ∧
      ((t.seq n).startTb = s.tb + dt ∧ (t.seq n).entry = 0)) ∧
  (∀ (s : State) (dt : Nat) (n : Fin 8),
    (s.elapse dt).seqPeriodDue n = true →
    s.gcOn (n.val / 2) = true →
    ((s.seq n).closedFor = [] ∧ (s.seq n).run ≠ .idle) →
    s.nat (Od.SQ_TRIG_OVERRUNS n) < 65535 →
    ∃ t, exec (.sequencerTrigger dt n) s = .next t ∧
      t.nat (Od.SQ_TRIG_OVERRUNS n) = s.nat (Od.SQ_TRIG_OVERRUNS n) + 1 ∧
      (t.seq n).run = (s.seq n).run) ∧
  (∀ (s : State) (dt : Nat) (who : Requester) (n : Fin 8),
    s.accepts dt who (Od.SQ_SW_TRIGGER n) .operator = true →
    s.trigSel n = 0 →
    (s.seqEnabled n = true ∧ s.gcOn (n.val / 2) = true) →
    ((s.seq n).closedFor = [] ∧ (s.seq n).run = .idle ∧ (s.seq n).pending = false) →
    (s.seq (seqPartner n)).run ≠ .running →
    ∃ t, exec (.swTriggerWrite dt who n 1) s = .next t ∧
      (t.seq n).run = .running ∧
      t.answered who = true) ∧
  (∀ (s : State) (dt : Nat) (g : Fin 4) (code : BitVec 12) (n : Fin 8),
    s.seqRunning g = some n →
    (s.seq n).samples.length + 1 < 2 ^ s.entryAvg n (s.seq n).entry →
    ∃ t, exec (.conversionComplete dt g code) s = .next t ∧
      (t.seq n).samples = (s.seq n).samples ++ [code.toNat] ∧
      (t.seq n).entry = (s.seq n).entry) ∧
  (∀ (s : State) (dt : Nat) (g : Fin 4) (code : BitVec 12) (n : Fin 8),
    s.seqRunning g = some n →
    2 ^ s.entryAvg n (s.seq n).entry ≤ (s.seq n).samples.length + 1 →
    (s.seq n).entry + 1 < s.nat (Od.SQ_LENGTH n) →
    (s.seq (seqPartner n)).yielding = false →
    ∃ t, exec (.conversionComplete dt g code) s = .next t ∧
      (t.seq n).hidden = (s.seq n).hidden ++ [entryMean ((s.seq n).samples ++ [code.toNat]) (s.entryAvg n (s.seq
        n).entry)] ∧
      (t.seq n).entry = (s.seq n).entry + 1) ∧
  (∀ (s : State) (dt : Nat) (who : Requester) (v : BitVec 32),
    s.accepts dt who (Od.SQ_SQ_CTRL 6) .service = true →
    sqCtrlOk 6 v.toNat = true →
    ((s.nat (Od.SQ_SQ_CTRL 6)).testBit 31 = true → v.toNat % 2 ^ 31 = s.nat (Od.SQ_SQ_CTRL 6) % 2 ^ 31) →
    ((s.begun dt who).setN (Od.SQ_SQ_CTRL 6) v.toNat).luRatesOk 2 6 = true →
    ∃ t, exec (.sqCtrlWrite dt who 6 v) s = .next t ∧
      t.nat (Od.SQ_SQ_CTRL 6) = v.toNat ∧
      (v.toNat.testBit 31 = false → (t.seq 6).run = .idle)) ∧
  (∀ (s : State) (dt : Nat) (who : Requester) (n : Fin 8) (v : BitVec 32),
    s.accepts dt who (Od.SQ_SQ_CTRL n) .service = true →
    sqCtrlOk n v.toNat = true →
    n ≠ 6 →
    ∃ t, exec (.sqCtrlWrite dt who n v) s = .next t ∧
      t.refusedWith who 0x08000022 = true ∧
      t.seqs = s.seqs) ∧
  (∀ (s : State) (dt : Nat) (n : Fin 16) (code : BitVec 12) (held : Nat),
    (s.bit (Od.GCP_GCP_CTRL n) 31 = true ∧ s.gcOn (n.val / 4) = true) →
    (s.elapse dt).gcpBlanked n = false →
    s.nat (Od.GCP_FILTER_ns n) ≤ 10 * held →
    gcpCondition (s.field (Od.GCP_GCP_CTRL n) 29 2) (s.gcpOut n code.toNat) = true →
    gcpCondition (s.field (Od.GCP_GCP_CTRL n) 29 2) (s.bit (Od.GCP_GCP_STATUS n) 0, s.bit (Od.GCP_GCP_STATUS n) 1) =
      false →
    s.nat (Od.GCP_CROSS_COUNT n) < 2 ^ 32 - 1 →
    ∃ t, exec (.generalComparatorCrossing dt n ⟨code, held⟩) s = .next t ∧
      t.bit (Od.GCP_GCP_STATUS n) 2 = true ∧
      t.nat (Od.GCP_CROSS_COUNT n) = s.nat (Od.GCP_CROSS_COUNT n) + 1 ∧
      t.nat (Od.GCP_LAST_CROSS_TB n) = (s.elapse dt).stampOf (gcLink (n.val / 4))) ∧
  (∀ (s : State) (dt : Nat) (n : Fin 16) (code : BitVec 12) (held : Nat),
    (10 * held < s.nat (Od.GCP_FILTER_ns n) ∨ (s.elapse dt).gcpBlanked n = true) →
    ∃ t, exec (.generalComparatorCrossing dt n ⟨code, held⟩) s = .next t ∧
      t = s.elapse dt) ∧
  (∀ (s : State) (dt : Nat) (who : Requester) (n : Fin 16),
    s.accepts dt who (Od.GCP_CLEAR n) .operator = true →
    (s.gcps.get n).crossTb ≠ some (s.tb + dt) →
    ∃ t, exec (.gcpClearWrite dt who n 1) s = .next t ∧
      t.bit (Od.GCP_GCP_STATUS n) 2 = false ∧
      t.answered who = true) ∧
  (∀ (s : State) (dt : Nat) (who : Requester) (n : Fin 16),
    s.accepts dt who (Od.GCP_CLEAR n) .operator = true →
    (s.gcps.get n).crossTb = some (s.tb + dt) →
    ∃ t, exec (.gcpClearWrite dt who n 1) s = .next t ∧
      t.bit (Od.GCP_GCP_STATUS n) 2 = s.bit (Od.GCP_GCP_STATUS n) 2 ∧
      (t.gcps.get n).fired = true ∧
      t.answered who = true)

/-- What decisions of an axis unit, losses and recoveries do. States the completion of: axisDecision,
unmeasuredTimeExceeded, observerLoss, crossSetDisagreement, trackingValid, probeAssistPeriod, recoveryAngleFound,
recoveryTimeout, ascExit, stopSetCoast. -/
def Obligations.AxisUnitCommandsComplete : Prop :=
  (∀ (s : State) (dt : Nat) (n : Axis) (raw odd : List Int) (v : Rat),
    (s.elapse dt).decisionDue n = true →
    ∃ t, exec (.axisDecision dt n raw odd v) s = .next t ∧
      t.num (Od.AX_V_BUS n) = v ∧
      (t.ax n).decTb = some (s.tb + dt)) ∧
  (∀ (s : State) (dt : Nat) (n : Axis) (raw odd : List Int) (v : Rat),
    (s.elapse dt).decisionDue n = true →
    4 ≤ n.val →
    s.deciding n = true →
    s.nat (Od.AX_DECISIONS n) < 2 ^ 64 - 1 →
    ∃ t, exec (.axisDecision dt n raw odd v) s = .next t ∧
      t.bit (Od.AX_AXIS_STATUS n) 0 = true ∧
      t.nat (Od.AX_DECISIONS n) = s.nat (Od.AX_DECISIONS n) + 1) ∧
  (∀ (s : State) (dt : Nat) (n : Axis) (raw odd : List Int) (v : Rat),
    (s.elapse dt).decisionDue n = true →
    n.val < 4 →
    ((((((s.elapse dt).modAx n fun x => { x with decTb := some (s.tb + dt) }).setQ (Od.AX_V_BUS n)
      v).linkDecision.stopDue n).driveStep n).deciding n = true) →
    ∃ t, exec (.axisDecision dt n raw odd v) s = .next t ∧
      t.bit (Od.AX_AXIS_STATUS n) 0 = true) ∧
  (∀ (s : State) (dt : Nat) (n : Axis) (raw odd : List Int) (v : Rat),
    (s.elapse dt).decisionDue n = true →
    4 ≤ n.val →
    ((s.cell (cellOf n)).mode ≠ .switching ∧ (s.cell (cellOf n)).mode ≠ .asc) →
    ∃ t, exec (.axisDecision dt n raw odd v) s = .next t ∧
      t.bit (Od.AX_AXIS_STATUS n) 0 = false ∧
      (t.num (Od.AX_TQ_EST n) = 0 ∧ t.num (Od.AX_I_ALPHA n) = 0 ∧ t.num (Od.AX_I_BETA n) = 0)) ∧
  (∀ (s : State) (dt : Nat) (n : Axis) (raw odd : List Int) (v : Rat),
    (s.elapse dt).decisionDue n = false →
    ∃ t, exec (.axisDecision dt n raw odd v) s = .next t ∧
      t = s.elapse dt) ∧
  (∀ (s : State) (dt : Nat) (n : Axis),
    s.deciding n = true →
    s.nat (Od.AX_MEAS_MAX_ns n) + 1000 < 10 * (s.tb + dt - (s.ax n).lastFull) →
    ∃ t, exec (.unmeasuredTimeExceeded dt n) s = .next t ∧
      t.deciding n = false ∧
      (t.ds (cellDrive n) = if s.ds (cellDrive n) = .inhibit then .inhibit else .fault)) ∧
  (∀ (s : State) (dt : Nat) (n : Axis),
    (s.elapse dt).lossDue n = true →
    s.nat (Od.OBS_LOSS_COUNT n) < 2 ^ 32 - 1 →
    ∃ t, exec (.observerLoss dt n) s = .next t ∧
      t.nat (Od.OBS_LOSS_COUNT n) = s.nat (Od.OBS_LOSS_COUNT n) + 1 ∧
      ((t.ax n).lossRun = false ∧ (t.ax n).lossTicks = 0)) ∧
  (∀ (s : State) (dt : Nat) (n : Axis),
    (s.elapse dt).lossDue n = true →
    (n.val < 4 ∧ (s.tr (setSide n)).losses = []) →
    ∃ t, exec (.observerLoss dt n) s = .next t ∧
      (t.ax n).recover = some (s.tb + dt) ∧
      t.bit (Od.OBS_OBS_STATUS n) 10 = true ∧
      t.deciding n = false) ∧
  (∀ (s : State) (dt : Nat) (m : Fin 2) (a b : Axis),
    sideSets m = [a, b] →
    (s.elapse dt).crossDue m = true →
    ((s.ax a).resid < 81 / 100 * (s.ax b).resid ∧ 0 ≤ (s.ax a).resid) →
    s.nat (Od.OBS_LOSS_COUNT b) < 2 ^ 32 - 1 →
    ∃ t, exec (.crossSetDisagreement dt m) s = .next t ∧
      t.nat (Od.OBS_LOSS_COUNT b) = s.nat (Od.OBS_LOSS_COUNT b) + 1 ∧
      ((s.tr m).losses = [] → t.deciding b = false)) ∧
  (∀ (s : State) (dt : Nat) (m : Fin 2) (a b : Axis),
    sideSets m = [a, b] →
    (s.elapse dt).crossDue m = true →
    (81 / 100 * (s.ax a).resid ≤ (s.ax b).resid ∧ 81 / 100 * (s.ax b).resid ≤ (s.ax a).resid) →
    (0 ≤ (s.ax a).resid ∧ 0 ≤ (s.ax b).resid) →
    (s.nat (Od.OBS_LOSS_COUNT a) < 2 ^ 32 - 1 ∧ s.nat (Od.OBS_LOSS_COUNT b) < 2 ^ 32 - 1) →
    ∃ t, exec (.crossSetDisagreement dt m) s = .next t ∧
      t.nat (Od.OBS_LOSS_COUNT a) = s.nat (Od.OBS_LOSS_COUNT a) + 1 ∧
      t.nat (Od.OBS_LOSS_COUNT b) = s.nat (Od.OBS_LOSS_COUNT b) + 1) ∧
  (∀ (s : State) (dt t0 : Nat) (n : TSet) (a : Axis),
    a.val = n.val →
    (s.ax a).trackSince = some t0 →
    (s.cell (cellOf n)).mode = .coast →
    t0 + 200000 ≤ s.tb + dt →
    ∃ t, exec (.trackingValid dt n) s = .next t ∧
      t.bit (Od.OBS_OBS_STATUS n) 0 = true ∧
      t.bit (Od.OBS_OBS_STATUS n) 1 = true) ∧
  (∀ (s : State) (dt : Nat) (n : TSet) (a : Axis),
    a.val = n.val →
    (s.deciding a = true ∧ s.bit (Od.OBS_OBS_STATUS n) 8 = true) →
    (s.ax a).assist = none →
    (s.ax a).assistTb + us (s.nat (Od.OBS_ASSIST_PERIOD_us n)) ≤ s.tb + dt →
    ∃ t, exec (.probeAssistPeriod dt n (s.assistPhase a ((s.elapse dt).assistNew a) 0).1 (s.assistPhase a ((s.elapse
      dt).assistNew a) 0).2) s = .next t ∧
      ((t.ax a).assist.isSome = true ∧ (t.ax a).assistTb = s.tb + dt) ∧
      (let e := s.assistPhase a ((s.elapse dt).assistNew a) 0; t.field (Od.AX_AXIS_STATUS e.1) 1 3 = e.2)) ∧
  (∀ (s : State) (dt t0 : Nat) (n : TSet) (a : Axis) (r : Nat × Rat × Rat),
    a.val = n.val →
    (s.ax a).recover = some t0 →
    (s.elapse dt).firstSource a = some r →
    ∃ t, exec (.recoveryAngleFound dt n) s = .next t ∧
      (t.ax a).recover = none ∧
      t.deciding a = true ∧
      t.nat (Od.OBS_CATCH_TIME_us n) = (s.tb + dt - t0) / 100) ∧
  (∀ (s : State) (dt t0 : Nat) (n : TSet) (a : Axis),
    a.val = n.val →
    (s.ax a).recover = some t0 →
    t0 + 1000000 ≤ s.tb + dt →
    s.nat (Od.OBS_LOSS_COUNT n) < 2 ^ 32 →
    ∃ t, exec (.recoveryTimeout dt n) s = .next t ∧
      t.nat (Od.OBS_LOSS_COUNT n) = min (s.nat (Od.OBS_LOSS_COUNT n) + 1) (2 ^ 32 - 1)) ∧
  (∀ (s : State) (dt : Nat) (n : TSet) (a : Axis) (e : Rat),
    a.val = n.val →
    s.ascExitDue a = true →
    s.num (Od.AX_BEMF_LL_PK n) = e →
    ∃ t, exec (.ascExit dt n e) s = .next t ∧
      ((t.cell (cellOf n)).mode = .coast ∨ (t.cell (cellOf n)).mode = .off) ∧
      ((s.drv (cellDrive n)).tqo = true ∨ (s.drv (cellDrive n)).tqoLink = true → (t.cell (cellOf n)).mode = .off)) ∧
  (∀ (s : State) (dt : Nat) (n : TSet) (a : Axis),
    a.val = n.val →
    ((s.ds (cellDrive n) = .stopping ∧ (s.drv (cellDrive n)).substate = 5) ∨ (s.ds (cellDrive n) = .active ∧ (s.drv
      (cellDrive n)).substate = 3)) →
    (s.tr (setSide n)).brake = none →
    s.deciding a = true →
    s.num (Od.AX_BEMF_LL_PK n) < s.num (Od.TR_STOP_EMF_EXIT (setSide n)) * s.num Od.DCL_V_DC →
    ∃ t, exec (.stopSetCoast dt n) s = .next t ∧
      (t.cell (cellOf n)).mode ≠ .switching)

/-- What phase and shunt faults and the Sedge probe do. States the completion of: phaseOpenDeclared,
shuntAttributionFail, shuntSaturationFail, sedgeProbeComplete. -/
def Obligations.ShuntAndProbeCommandsComplete : Prop :=
  (∀ (s : State) (dt : Nat) (n : Axis) (p : Fin 3) (k : Rat),
    (s.deciding n = true ∧ s.openReached n p = true ∧ s.openPhases n < 2) →
    (s.ax n).kcl.getD p.val none = some k →
    (n.val < 4 ∧ s.twoShunt n = false ∧ s.oneSet (setSide n) = false) →
    s.num (Od.OBS_KCL_LIM n) < |k| →
    ∃ t, exec (.phaseOpenDeclared dt n p k) s = .next t ∧
      t.nat (Od.OBS_SHUNT_FAILED n) = p.val) ∧
  (∀ (s : State) (dt : Nat) (n : Axis) (p : Fin 3) (k : Rat),
    (s.deciding n = true ∧ s.openReached n p = true ∧ s.openPhases n < 2) →
    (s.ax n).kcl.getD p.val none = some k →
    (n.val < 4 ∧ s.oneSet (setSide n) = false) →
    |k| ≤ s.num (Od.OBS_KCL_LIM n) →
    ∃ t, exec (.phaseOpenDeclared dt n p k) s = .next t ∧
      t.bit (Od.OBS_OBS_STATUS n) 12 = true ∧
      t.bit (Od.OBS_OBS_STATUS n) 13 = true ∧
      t.field (Od.OBS_OBS_STATUS n) 2 2 = p.val ∧
      t.deciding n = false) ∧
  (∀ (s : State) (dt : Nat) (n : Axis) (p : Fin 3) (k : Rat),
    (s.deciding n = true ∧ s.openReached n p = true ∧ 2 ≤ s.openPhases n) →
    ∃ t, exec (.phaseOpenDeclared dt n p k) s = .next t ∧
      (t.ax n).openAcc = [0, 0, 0] ∧
      t.deciding n = true) ∧
  (∀ (s : State) (dt : Nat) (n : Axis) (p : Fin 3),
    s.deciding n = true →
    8 ≤ (s.ax n).attr.getD p.val 0 →
    (n.val < 4 ∧ s.twoShunt n = false ∧ s.oneSet (setSide n) = false) →
    ∃ t, exec (.shuntAttributionFail dt n (some p)) s = .next t ∧
      t.nat (Od.OBS_SHUNT_FAILED n) = p.val) ∧
  (∀ (s : State) (dt : Nat) (n : Axis),
    s.deciding n = true →
    16 ≤ (s.ax n).unattrib →
    (n.val < 4 ∧ s.oneSet (setSide n) = false) →
    ∃ t, exec (.shuntAttributionFail dt n none) s = .next t ∧
      t.bit (Od.OBS_OBS_STATUS n) 12 = true ∧
      t.deciding n = false) ∧
  (∀ (s : State) (dt : Nat) (n : Axis) (p : Fin 3),
    (s.elapse dt).saturated n p = true →
    (n.val < 4 ∧ s.twoShunt n = false ∧ s.oneSet (setSide n) = false) →
    ∃ t, exec (.shuntSaturationFail dt n p) s = .next t ∧
      t.nat (Od.OBS_SHUNT_FAILED n) = p.val) ∧
  (∀ (s : State) (dt : Nat) (m : Fin 2) (n : Axis) (p : ProbeSt) (ts : List (Option Nat)),
    ((s.tr m).probe = some p ∧ p.purpose.sedge = true ∧ p.purpose ≠ .ident) →
    ((s.elapse dt).trainOver p = true ∧ ts = p.rises) →
    n ∈ sideSets m →
    ∃ t, exec (.sedgeProbeComplete dt m ts) s = .next t ∧
      (t.tr m).probe = none ∧
      t.bit (Od.OBS_OBS_STATUS n) 9 = false) ∧
  (∀ (s : State) (dt : Nat) (m : Fin 2) (n : Axis) (p : ProbeSt) (ts : List (Option Nat)),
    ((s.tr m).probe = some p ∧ p.purpose = .start ∧ n ∈ sideSets m) →
    ((s.elapse dt).trainOver p = true ∧ ts = p.rises) →
    (∀ e ∈ p.pulses, s.canProbe e.1.1 = true ∧ (probeTime e.2).isSome = true) →
    (∀ a ∈ sideSets m, p.pulses.any (fun e => e.1.1 == a) = true) →
    (∀ a ∈ sideSets m, s.num (Od.OBS_PROBE_CONF_MIN a) ≤ (probeResult (p.pulses.map fun e => probeDir e.1.1 e.1.2)
      (p.pulses.map fun e => (probeTime e.2).getD 0)).2) →
    ∃ t, exec (.sedgeProbeComplete dt m ts) s = .next t ∧
      (t.num (Od.OBS_PROBE_CONF n) = (probeResult (p.pulses.map fun e => probeDir e.1.1 e.1.2) (p.pulses.map fun e =>
        (probeTime e.2).getD 0)).2) ∧
      t.deciding n = true)

/-- What ARM, RUN, STOP, DISARM and ACK of a drive and its hold times do. States the completion of: driveArm, driveRun,
driveStop, driveDisarm, driveAck, armHoldExpiry. -/
def Obligations.DriveControlCommandsComplete : Prop :=
  (∀ (s : State) (dt : Nat) (who : Requester) (d : Drive),
    s.accepts dt who (controlKey d) .operator = true →
    (s.begun dt who).owns who d = true →
    (s.safe d).ss1 = none →
    s.armAllowed d = true →
    s.armDataFault d = [] →
    ∃ t, exec (.driveArm dt who d) s = .next t ∧
      (t.drv d).arming = .arm ∧
      (d ≠ .aux → ∀ c ∈ d.cells, (t.cell c).armStep = 2 ∧ (t.cell c).supLo = true) ∧
      t.answered who = true) ∧
  (∀ (s : State) (dt : Nat) (who : Requester) (d : Drive),
    s.accepts dt who (controlKey d) .operator = true →
    (s.begun dt who).owns who d = true →
    (s.safe d).ss1 = none →
    s.ds d = .armed →
    (d = .chg → (((s.begun dt who).holdAuto d false).runDrive d).isSome = true) →
    ∃ t, exec (.driveRun dt who d 1) s = .next t ∧
      t.ds d = .active ∧
      t.answered who = true) ∧
  (∀ (s : State) (dt : Nat) (who : Requester) (d : Drive) (size : Nat),
    (s.diagOnly = false ∧ s.dictUp = true ∧ who ≠ .canA) →
    size ≠ 1 →
    ∃ t, exec (.driveRun dt who d size) s = .next t ∧
      (t.refusedWith who (if (s.roleOf who).num < Role.operator.num then 0x06010000 else 0x06070010) = true) ∧
      t.ds d = s.ds d) ∧
  (∀ (s : State) (dt : Nat) (who : Requester) (d : Drive),
    s.accepts dt who (controlKey d) .operator = true →
    (s.begun dt who).owns who d = true →
    (s.safe d).ss1 = none →
    s.ds d = .active →
    ∃ t, exec (.driveStop dt who d) s = .next t ∧
      (t.ds d = .standby ∨ t.ds d = .stopping) ∧
      t.answered who = true) ∧
  (∀ (s : State) (dt : Nat) (who : Requester) (d : Drive),
    s.accepts dt who (controlKey d) .operator = true →
    (s.begun dt who).owns who d = true →
    (s.safe d).ss1 = none →
    s.ds d = .armed →
    ∃ t, exec (.driveDisarm dt who d) s = .next t ∧
      t.ds d = .standby ∧
      (∀ c ∈ d.cells, (t.cell c).supLo = false) ∧
      t.answered who = true) ∧
  (∀ (s : State) (dt : Nat) (who : Requester) (d : Drive),
    s.accepts dt who (controlKey d) .operator = true →
    (s.begun dt who).owns who d = true →
    (s.safe d).ss1 = none →
    s.ds d = .fault →
    s.lockedOut d = false →
    s.causePresent d = false →
    ∃ t, exec (.driveAck dt who d) s = .next t ∧
      (t.ds d = .standby ∨ t.ds d = .unavailable) ∧
      t.answered who = true) ∧
  (∀ (s : State) (dt : Nat) (d : Drive) (k : Nat),
    armHoldKey d = some k →
    s.ds d = .armed →
    (s.drv d).armedTb + ms (s.nat k) ≤ s.tb + dt →
    s.log.buffer.length < 16 →
    ∃ t, exec (.armHoldExpiry dt d) s = .next t ∧
      t.ds d = .standby)

/-- What set-point, direction and identification commands do. States the completion of: tqSetWrite, directionWrite,
reversalReengage, idStatic, idRotating, idEncoderOffset, idAbort, idProcedureComplete, idApply. -/
def Obligations.TorqueCommandsComplete : Prop :=
  (∀ (s : State) (dt : Nat) (who : Requester) (m : Fin 2) (v : BitVec 32) (q : Rat),
    s.accepts dt who (Od.TR_TQ_SET m) .operator = true →
    (s.begun dt who).owns who (sideDrive m) = true →
    (s.axleRuns = false ∧ s.ss1Locks m = false) →
    f32Decode v = some q →
    (((s.drv (sideDrive m)).tqoTb.any fun b => sameDecision b (s.tb + dt)) = false) →
    ∃ t, exec (.tqSetWrite dt who m v) s = .next t ∧
      t.num (Od.TR_TQ_SET m) = q ∧
      t.answered who = true) ∧
  (∀ (s : State) (dt : Nat) (who : Requester) (m : Fin 2) (v : BitVec 8),
    s.accepts dt who (Od.TR_DIRECTION m) .operator = true →
    (s.begun dt who).owns who (sideDrive m) = true →
    (s.axleRuns = false ∧ s.ss1Locks m = false) →
    (v = 1 ∨ v = 2) →
    s.nat (Od.TR_DIRECTION m) ≠ v.toNat →
    ∃ t, exec (.directionWrite dt who m v) s = .next t ∧
      t.nat (Od.TR_DIRECTION m) = v.toNat ∧
      (t.tr m).reverse = (v == 2) ∧
      (s.ds (sideDrive m) = .active → (t.drv (sideDrive m)).substate = 3)) ∧
  (∀ (s : State) (dt : Nat) (m : Fin 2),
    s.ds (sideDrive m) = .active →
    ((s.drv (sideDrive m)).substate = 3 ∧ (s.tr m).revPending = false) →
    s.reverseSlow m = true →
    (∀ n ∈ s.liveSets m, s.deciding n = true) →
    ∃ t, exec (.reversalReengage dt m) s = .next t ∧
      (t.drv (sideDrive m)).substate ≠ 3 ∧
      (t.tr m).revPending = false ∧
      t.num (Od.TR_TQ_RAMP m) = 0) ∧
  (∀ (s : State) (dt : Nat) (m : Fin 2) (n : Axis),
    s.ds (sideDrive m) = .active →
    ((s.drv (sideDrive m)).substate = 3 ∧ (s.tr m).revPending = false) →
    s.reverseSlow m = true →
    (n ∈ s.liveSets m ∧ s.deciding n = false) →
    ((s.elapse dt).motorSource m).isSome = true →
    ∃ t, exec (.reversalReengage dt m) s = .next t ∧
      t.deciding n = true ∧
      (t.drv (sideDrive m)).substate ≠ 3 ∧
      t.num (Od.TR_TQ_RAMP m) = 0) ∧
  (∀ (s : State) (dt : Nat) (who : Requester) (n : TSet),
    s.accepts dt who (Od.OBS_ID_CMD n) .service = true →
    (s.ds (cellDrive n) = .standby ∧ (s.drv (cellDrive n)).arming = .none) →
    ((s.drv (cellDrive n)).tqo = false ∧ (s.drv (cellDrive n)).tqoLink = false) →
    s.emfLow n = true →
    ∃ t, exec (.idStatic dt who n) s = .next t ∧
      (t.nat (Od.OBS_ID_CMD n) = 1 ∧ t.nat (Od.OBS_ID_STATUS n) = 1) ∧
      t.bit (Od.OBS_OBS_STATUS n) 16 = true ∧
      (t.drv (cellDrive n)).arming = .ident) ∧
  (∀ (s : State) (dt : Nat) (who : Requester) (n : TSet),
    s.accepts dt who (Od.OBS_ID_CMD n) .service = true →
    (s.ds (cellDrive n) = .standby ∧ (s.drv (cellDrive n)).arming = .none) →
    ((s.drv (cellDrive n)).tqo = false ∧ (s.drv (cellDrive n)).tqoLink = false) →
    50 ≤ s.num (Od.AX_BEMF_LL_PK n) →
    ∃ t, exec (.idRotating dt who n) s = .next t ∧
      (t.nat (Od.OBS_ID_CMD n) = 2 ∧ t.nat (Od.OBS_ID_STATUS n) = 1) ∧
      (t.drv (cellDrive n)).arming = .ident) ∧
  (∀ (s : State) (dt : Nat) (who : Requester) (n : TSet),
    s.accepts dt who (Od.OBS_ID_CMD n) .service = true →
    (s.ds (cellDrive n) = .standby ∧ (s.drv (cellDrive n)).arming = .none) →
    ((s.drv (cellDrive n)).tqo = false ∧ (s.drv (cellDrive n)).tqoLink = false) →
    (s.nat (Od.OBS_START_MODE n) = 1 ∧ s.emfLow n = true) →
    ∃ t, exec (.idEncoderOffset dt who n) s = .next t ∧
      (t.nat (Od.OBS_ID_CMD n) = 3 ∧ t.nat (Od.OBS_ID_STATUS n) = 1) ∧
      (t.drv (cellDrive n)).arming = .ident) ∧
  (∀ (s : State) (dt : Nat) (who : Requester) (n : TSet),
    s.accepts dt who (Od.OBS_ID_CMD n) .service = true →
    s.bit (Od.OBS_OBS_STATUS n) 16 = true →
    ∃ t, exec (.idAbort dt who n) s = .next t ∧
      t.bit (Od.OBS_OBS_STATUS n) 16 = false ∧
      (t.nat (Od.OBS_ID_STATUS n) = 3 ∧ t.nat (Od.OBS_ID_CMD n) = 0)) ∧
  (∀ (s : State) (dt : Nat) (n : TSet) (a : Axis) (rs ld lq : Rat),
    a.val = n.val →
    s.bit (Od.OBS_OBS_STATUS n) 16 = true →
    s.ds (cellDrive n) = .armed →
    s.nat (Od.OBS_ID_CMD n) = 2 →
    ((s.ax a).ident.phase = 1 ∧ (s.ax a).ident.count ≠ 0 ∧ (s.ax a).ident.tb + sec 1 ≤ s.tb + dt) →
    ∃ t, exec (.idProcedureComplete dt n ⟨rs, ld, lq⟩) s = .next t ∧
      t.num (Od.OBS_ID_PSI_PM n) = (s.ax a).ident.sum / (s.ax a).ident.count ∧
      (t.nat (Od.OBS_ID_STATUS n) = 2 ∧ (t.ax a).idValid.testBit 1 = true) ∧
      t.ds (cellDrive n) = .standby) ∧
  (∀ (s : State) (dt : Nat) (n : TSet) (a : Axis) (rs ld lq : Rat),
    a.val = n.val →
    s.bit (Od.OBS_OBS_STATUS n) 16 = true →
    s.ds (cellDrive n) = .armed →
    s.nat (Od.OBS_ID_CMD n) = 1 →
    (s.ax a).ident.phase = 4 →
    ∃ t, exec (.idProcedureComplete dt n ⟨rs, ld, lq⟩) s = .next t ∧
      (t.num (Od.OBS_ID_RS n) = rs ∧ t.num (Od.OBS_ID_LD n) = ld ∧ t.num (Od.OBS_ID_LQ n) = lq) ∧
      (t.nat (Od.OBS_ID_STATUS n) = 2 ∧ (t.ax a).idValid.testBit 0 = true) ∧
      t.ds (cellDrive n) = .standby) ∧
  (∀ (s : State) (dt : Nat) (n : TSet) (a : Axis) (rs ld lq : Rat),
    a.val = n.val →
    s.bit (Od.OBS_OBS_STATUS n) 16 = true →
    s.ds (cellDrive n) = .armed →
    s.nat (Od.OBS_ID_CMD n) = 3 →
    (s.ax a).ident.phase = 4 →
    ∃ t, exec (.idProcedureComplete dt n ⟨rs, ld, lq⟩) s = .next t ∧
      t.num (Od.OBS_ID_ENC_OFFSET n) = meanAngle (s.ax a).ident.diffs ∧
      (t.nat (Od.OBS_ID_STATUS n) = 2 ∧ (t.ax a).idValid.testBit 2 = true) ∧
      t.ds (cellDrive n) = .standby) ∧
  (∀ (s : State) (dt : Nat) (who : Requester) (n : TSet) (a : Axis),
    a.val = n.val →
    s.accepts dt who (Od.OBS_ID_APPLY n) .service = true →
    s.ds (cellDrive n) = .standby →
    (s.ax a).idValid.testBit 1 = true →
    ∃ t, exec (.idApply dt who n) s = .next t ∧
      t.num (Od.AX_PSI_PM n) = s.num (Od.OBS_ID_PSI_PM n) ∧
      t.answered who = true)

/-- What line changes, wire faults, SSI frames and speed updates of a position interface do. States the completion of:
positionLineChange, wireFault, ssiFrameRead, speedUpdate. -/
def Obligations.PositionLinesComplete : Prop :=
  (∀ (s : State) (dt : Nat) (p : Fin 12) (v : BitVec 3) (d : Int),
    s.pifSupplied p = true →
    (s.pifService p ≠ 0 ∧ s.pifMode p = 1) →
    ((s.pif p).raw = (s.pif p).lines ∧ (s.pif p).lines < 8 ∧ (s.pif p).held = 0) →
    v.toNat / 4 = (s.pif p).lines / 4 →
    (abStep ((s.pif p).lines % 4) (v.toNat % 4) = some d ∧ d ≠ 0) →
    (((s.pif p).edgeTb.all fun e => decide (e + s.edgeMin p ≤ s.tb + dt)) = true) →
    s.loadedAt p (s.tb + dt) = false →
    s.wireBits p = 0 →
    ∃ t, exec (.positionLineChange dt p v) s = .next t ∧
      (t.int (Od.PIF_POSITION p) = wrap32 (s.int (Od.PIF_POSITION p) + (if s.pifCtrl p 7 then -d else d))) ∧
      t.nat (Od.PIF_LAST_EDGE_TB p) = (s.elapse dt).pifStamp p (s.tb + dt) ∧
      (t.pif p).edgeTb = some (s.tb + dt) ∧
      (t.pif p).lines = v.toNat) ∧
  (∀ (s : State) (dt : Nat) (p : Fin 12) (v : BitVec 3),
    s.pifSupplied p = true →
    (s.pifService p ≠ 0 ∧ s.pifMode p = 1) →
    ((s.pif p).raw = (s.pif p).lines ∧ (s.pif p).lines < 8 ∧ (s.pif p).held = 0) →
    v.toNat ^^^ (s.pif p).lines = 1 →
    (((s.pif p).edgeTb.any fun e => decide (s.tb + dt < e + s.edgeMin p)) = true) →
    s.nat (Od.PIF_EDGE_FAULTS p) < 4294967295 →
    ∃ t, exec (.positionLineChange dt p v) s = .next t ∧
      t.nat (Od.PIF_EDGE_FAULTS p) = s.nat (Od.PIF_EDGE_FAULTS p) + 1 ∧
      t.int (Od.PIF_POSITION p) = s.int (Od.PIF_POSITION p) ∧
      (t.pif p).held = 1 ∧
      (t.pif p).lines = (s.pif p).lines) ∧
  (∀ (s : State) (dt : Nat) (p : Fin 12) (v : BitVec 3),
    s.pifSupplied p = true →
    s.pifService p = 0 →
    ∃ t, exec (.positionLineChange dt p v) s = .next t ∧
      (t.pif p).lines = v.toNat ∧
      t.int (Od.PIF_POSITION p) = s.int (Od.PIF_POSITION p)) ∧
  (∀ (s : State) (dt : Nat) (p : Fin 12) (v : BitVec 3) (n : Nat),
    (s.pifService p ≠ 0 ∧ s.pifMode p = 1) →
    (s.pif p).held = 0 →
    (n = ([0, 1, 2].filter fun i => v.toNat.testBit i && !(s.wireBits p).testBit i).length ∧ n ≠ 0) →
    s.nat (Od.PIF_WIRE_FAULTS p) + n < 4294967295 →
    ∃ t, exec (.wireFault dt p v) s = .next t ∧
      t.nat (Od.PIF_WIRE_FAULTS p) = s.nat (Od.PIF_WIRE_FAULTS p) + n ∧
      t.wireBits p = v.toNat ∧
      t.bit (Od.PIF_PIF_STATUS p) 17 = true ∧
      (s.pifService p = 2 → t.pifService p = 3)) ∧
  (∀ (s : State) (dt : Nat) (p : Fin 4) (q : Fin 12) (f : BitVec 32) (old : Nat),
    q.val = p.val →
    (s.pifMode p = 2 ∧ s.pifService p ≠ 0) →
    s.nat (Od.PIF_SSI_FORMAT p) = 0 →
    (s.pif q).ssiLast = some old →
    (shortDiff (f.toNat % 2 ^ s.nat (Od.PIF_SSI_BITS p)) old (s.nat (Od.PIF_SSI_BITS p))).natAbs ≤ s.nat
      (Od.PIF_SSI_JUMP_MAX p) →
    (s.wireBits p = 0 ∧ s.pifCtrl p 7 = false) →
    (s.elapse dt).ssiDue q = true →
    s.loadedAt q (s.tb + dt) = false →
    ∃ t, exec (.ssiFrameRead dt p true true f) s = .next t ∧
      t.int (Od.PIF_POSITION p) = wrap32 (s.int (Od.PIF_POSITION p) + shortDiff (f.toNat % 2 ^ s.nat (Od.PIF_SSI_BITS
        p)) old (s.nat (Od.PIF_SSI_BITS p))) ∧
      (t.pif q).ssiLast = some (f.toNat % 2 ^ s.nat (Od.PIF_SSI_BITS p))) ∧
  (∀ (s : State) (dt : Nat) (p : Fin 12) (c0 c1 : Int) (t0 t1 : Nat),
    (s.pif p).held = 0 →
    (s.countsPerRev p ≠ 0 ∧ s.pifService p ≠ 0) →
    (((s.pif p).speedTb.all fun e => decide (e + us (s.nat (Od.PIF_SPEED_PERIOD_us p)) ≤ s.tb + dt)) = true) →
    (s.pif p).edge0 = some (c0, t0) →
    (s.pif p).edge1 = some (c1, t1) →
    s.tb + dt < t1 + ms (s.nat (Od.PIF_SPEED_ZERO_ms p)) →
    ∃ t, exec (.speedUpdate dt p) s = .next t ∧
      t.num (Od.PIF_SPEED p) = 6000000000 * (wrap32 (c1 - c0) : Rat) / (s.countsPerRev p * ((t1 : Rat) - t0)) ∧
      ((t.pif p).edge0 = some (c1, t1) ∧ (t.pif p).edge1 = none))

/-- What writes and service states of a position interface do. States the completion of: presetWrite, armIndexWrite,
checkPass, checkTimeout, interfaceFaultClear, checkCmdWrite, pifModeWrite. -/
def Obligations.PositionServiceComplete : Prop :=
  (∀ (s : State) (dt : Nat) (who : Requester) (p : Fin 12) (v : BitVec 32),
    s.accepts dt who (Od.PIF_PRESET p) .operator = true →
    (s.begun dt who).owns who (pifDrive p) = true →
    (s.pif p).held = 0 →
    ∃ t, exec (.presetWrite dt who p v) s = .next t ∧
      t.int (Od.PIF_POSITION p) = v.toInt ∧
      t.bit (Od.PIF_PIF_STATUS p) 17 = false ∧
      t.answered who = true) ∧
  (∀ (s : State) (dt : Nat) (who : Requester) (p : Fin 12),
    s.accepts dt who (Od.PIF_ARM_INDEX p) .operator = true →
    (s.pif p).held = 0 →
    ∃ t, exec (.armIndexWrite dt who p 1) s = .next t ∧
      t.bit (Od.PIF_PIF_STATUS p) 19 = true ∧
      t.bit (Od.PIF_PIF_STATUS p) 18 = false) ∧
  (∀ (s : State) (dt : Nat) (p : Fin 12),
    (s.pifService p = 1 ∧ s.wireBits p = 0 ∧ (s.pif p).held = 0) →
    (s.pif p).since + ms (s.nat (Od.PIF_CHECK_TIME_ms p)) ≤ s.tb + dt →
    (s.pifMode p = 2 → 16 ≤ (s.pif p).ssiGood) →
    ∃ t, exec (.checkPass dt p) s = .next t ∧
      t.pifService p = 2 ∧
      t.bit (Od.PIF_PIF_STATUS p) 16 = true) ∧
  (∀ (s : State) (dt : Nat) (p : Fin 12),
    (s.pifService p = 1 ∧ (s.pif p).held = 0) →
    (s.pif p).late = false →
    (s.pif p).entry + 100000000 ≤ s.tb + dt →
    ∃ t, exec (.checkTimeout dt p) s = .next t ∧
      (t.pif p).late = true ∧
      t.pifService p = 1) ∧
  (∀ (s : State) (dt : Nat) (p : Fin 12),
    (s.pifService p = 3 ∧ s.wireBits p = 0 ∧ (s.pif p).held = 0) →
    (s.pif p).since + 100000 ≤ s.tb + dt →
    ∃ t, exec (.interfaceFaultClear dt p) s = .next t ∧
      t.pifService p = 1 ∧
      t.wireBits p = 0) ∧
  (∀ (s : State) (dt : Nat) (who : Requester) (p : Fin 12),
    s.accepts dt who (Od.PIF_CHECK_CMD p) .operator = true →
    (s.ds (pifDrive p) = .standby ∨ s.ds (pifDrive p) = .fault) →
    (s.pifService p = 2 ∨ s.pifService p = 3) →
    ∃ t, exec (.checkCmdWrite dt who p 1) s = .next t ∧
      t.pifService p = 1 ∧
      t.answered who = true) ∧
  (∀ (s : State) (dt : Nat) (who : Requester) (p : Fin 12) (v : BitVec 8),
    s.accepts dt who (Od.PIF_MODE p) .service = true →
    pifModeOk p v.toNat = true →
    s.paramState (pifDrive p) = true →
    s.pifSupplied p = true →
    ∃ t, exec (.pifModeWrite dt who p v) s = .next t ∧
      t.nat (Od.PIF_MODE p) = v.toNat ∧
      (t.pifService p = if v = 0 then 0 else 1))

/-- What samples, HOLD and computed commits of a loop unit do. States the completion of: loopUnitSample,
coefficientQueueWrite, commitComputed, holdMaxExpiry. -/
def Obligations.LoopUnitSamplesComplete : Prop :=
  (∀ (s : State) (dt : Nat) (n : Fin 24) (fb : Rat),
    (s.lu n).running = true →
    ((s.lu n).queue = [] ∧ (s.lu n).commit = none) →
    s.nat (Od.LU_SECTIONS n) ≠ 0 →
    s.fbValue (s.nat (Od.LU_FB_SRC n)) = some fb →
    ((s.elapse dt).luDue n = true ∧ s.clocks.faults.contains 7 = false) →
    ∃ t, exec (.loopUnitSample dt n) s = .next t ∧
      (t.lu n).sampleTb = some (s.tb + dt) ∧
      ((t.lu n).skips = 0 ∧ (t.lu n).stale = false) ∧
      t.num (Od.LU_FB_VALUE n) = fb) ∧
  (∀ (s : State) (dt : Nat) (n : Fin 24),
    (s.lu n).running = true →
    ((s.lu n).queue = [] ∧ (s.lu n).commit = none) →
    s.nat (Od.LU_SECTIONS n) ≠ 0 →
    s.fbValue (s.nat (Od.LU_FB_SRC n)) = none →
    ((s.elapse dt).luDue n = true ∧ s.clocks.faults.contains 7 = false) →
    (s.lu n).skips ≠ 7 →
    ∃ t, exec (.loopUnitSample dt n) s = .next t ∧
      ((t.lu n).skips = (s.lu n).skips + 1 ∧ (t.lu n).stale = true) ∧
      (t.lu n).sampleTb = some (s.tb + dt) ∧
      ((t.lu n).y = (s.lu n).y ∧ (t.lu n).s1 = (s.lu n).s1 ∧ (t.lu n).s2 = (s.lu n).s2)) ∧
  (∀ (s : State) (dt : Nat) (who : Requester) (n : Fin 24) (sub : BitVec 8) (w : BitVec 32) (v : Val),
    s.accepts dt who (Od.LU_NUM_SUBS n + sub.toNat) .service = true →
    luQueued sub.toNat = true →
    luWord sub.toNat w = .ok v →
    ((s.lu n).running = true ∧ (s.lu n).queue.length < 8) →
    ((s.lu n).commit = none ∧ s.rawRefused n sub.toNat v = false) →
    ∃ t, exec (.coefficientQueueWrite dt who n sub w) s = .next t ∧
      (t.lu n).queue = (s.lu n).queue ++ [(Od.LU_NUM_SUBS n + sub.toNat, v)] ∧
      t.get (Od.LU_NUM_SUBS n + sub.toNat) = s.get (Od.LU_NUM_SUBS n + sub.toNat)) ∧
  (∀ (s : State) (dt : Nat) (who : Requester) (n : Fin 24) (sub : BitVec 8) (w : BitVec 32) (v : Val),
    s.accepts dt who (Od.LU_NUM_SUBS n + sub.toNat) .service = true →
    luQueued sub.toNat = true →
    luWord sub.toNat w = .ok v →
    ((s.lu n).running = false ∧ (s.lu n).commit = none) →
    ∃ t, exec (.coefficientQueueWrite dt who n sub w) s = .next t ∧
      t.get (Od.LU_NUM_SUBS n + sub.toNat) = v ∧
      t.answered who = true) ∧
  (∀ (s : State) (dt : Nat) (n : Fin 24) (c : CommitSt),
    ((s.lu n).commit = some c ∧ c.step = 0) →
    (s.lu n).running = true →
    ∃ t, exec (.commitComputed dt n) s = .next t ∧
      (t.lu n).commit = some { c with step := 1 }) ∧
  (∀ (s : State) (dt : Nat) (n : Fin 24) (c : CommitSt),
    ((s.lu n).commit = some c ∧ c.step = 0) →
    (s.lu n).running = false →
    ∃ t, exec (.commitComputed dt n) s = .next t ∧
      (t.lu n).commit = none) ∧
  (∀ (s : State) (dt : Nat) (n : Fin 24) (i : Fin 8),
    ((s.lu n).running = true ∧ s.secHeld n i = true ∧ (s.lu n).commit = none) →
    ((s.lu n).holdLogged.getD i false = false ∧ i.val < (s.lu n).holdLogged.length) →
    (s.lu n).holdTb.getD i 0 + ms (s.nat (Od.LU_HOLD_MAX_ms n)) < s.tb + dt →
    ∃ t, exec (.holdMaxExpiry dt n i) s = .next t ∧
      (t.lu n).holdLogged.getD i false = true ∧
      t.ds (driveOf (s.luDrive n)) ≠ .active ∧
      t.secHeld n i = true)

/-- What COMMIT and SEC_CTRL of a loop unit do. States the completion of: commitStaged, commitNotch, secCtrlWrite. -/
def Obligations.LoopUnitCommitsComplete : Prop :=
  (∀ (s : State) (dt : Nat) (who : Requester) (n : Fin 24),
    s.accepts dt who (Od.LU_COMMIT n) .service = true →
    s.integSec n (Fin.ofNat 8 (s.nat (Od.LU_STAGE_SEC n))) = false →
    stable ((s.stagedSet n).getD 3 0) ((s.stagedSet n).getD 4 0) = true →
    ((s.lu n).commit = none ∧ (s.lu n).queue = []) →
    ∃ t, exec (.commitStaged dt who n) s = .next t ∧
      ((t.lu n).commit = if (s.lu n).running then some { sec := Fin.ofNat 8 (s.nat (Od.LU_STAGE_SEC n)), coefs := s.stagedSet n }
        else none) ∧
      ((s.lu n).running = false → t.int (Od.LU_A1 n (Fin.ofNat 8 (s.nat (Od.LU_STAGE_SEC n))).val) = (s.stagedSet
        n).getD 3 0) ∧
      t.answered who = true) ∧
  (∀ (s : State) (dt : Nat) (who : Requester) (n : Fin 24),
    s.accepts dt who (Od.LU_COMMIT n) .service = true →
    s.notchOk n = true →
    s.integSec n (Fin.ofNat 8 (s.nat (Od.LU_STAGE_SEC n))) = false →
    ((s.lu n).commit = none ∧ (s.lu n).queue = []) →
    ∃ t, exec (.commitNotch dt who n) s = .next t ∧
      (stable ((s.notchSet n).getD 3 0) ((s.notchSet n).getD 4 0) = true → (t.lu n).commit = if (s.lu n).running then
        some { sec := Fin.ofNat 8 (s.nat (Od.LU_STAGE_SEC n)), coefs := s.notchSet n } else none) ∧
      (stable ((s.notchSet n).getD 3 0) ((s.notchSet n).getD 4 0) = false → t.refusedWith who 0x06090030 = true)) ∧
  (∀ (s : State) (dt : Nat) (who : Requester) (n : Fin 24) (i : Fin 8) (v : BitVec 8),
    s.accepts dt who (Od.LU_SEC_CTRL n i) .service = true →
    v.toNat < 4 →
    ((s.lu n).running = true → v.toNat / 2 = s.nat (Od.LU_SEC_CTRL n i) / 2) →
    (s.lu n).commit = none →
    ∃ t, exec (.secCtrlWrite dt who n i v) s = .next t ∧
      t.nat (Od.LU_SEC_CTRL n i) = v.toNat ∧
      t.answered who = true)

/-- What releases, completions, watchdogs and configuration loads of the engines do. States the completion of:
taskRelease, taskExecutionComplete, engineWatchdog, engineRejoin, configLoadWrite, configLoadAdmissionComplete. -/
def Obligations.TaskCommandsComplete : Prop :=
  (∀ (s : State) (dt : Nat) (k : Fin 59),
    s.releasable k = true →
    (s.elapse dt).periodDue k = true →
    s.hosted k = true →
    (s.task k).waiting = none →
    ∃ t, exec (.taskRelease dt k) s = .next t ∧
      t.nat (Od.TASK_RELEASES k) = s.nat (Od.TASK_RELEASES k) + 1) ∧
  (∀ (s : State) (dt : Nat) (k : Fin 59),
    s.releasable k = true →
    (s.elapse dt).periodDue k = true →
    s.hosted k = true →
    (s.task k).waiting ≠ none →
    s.nat (Od.TASK_SKIPS k) < 2 ^ 32 →
    ∃ t, exec (.taskRelease dt k) s = .next t ∧
      t.nat (Od.TASK_SKIPS k) = min (s.nat (Od.TASK_SKIPS k) + 1) (2 ^ 32 - 1) ∧
      (t.task k).waiting = (s.task k).waiting ∧
      (t.task k).relTb = some (s.tb + dt)) ∧
  (∀ (s : State) (dt : Nat) (e : Fin 24) (r : SliceResult) (k : Fin 59),
    (s.eng e).running = some k →
    k.val ≤ 7 →
    s.tb + dt < (s.eng e).startTb + us 100 →
    ∃ t, exec (.taskExecutionComplete dt e r) s = .next t ∧
      t.nat (Od.TASK_EXEC_MAX_ns k) = max (10 * (s.tb + dt - (s.eng e).startTb)) (s.nat (Od.TASK_EXEC_MAX_ns k))) ∧
  (∀ (s : State) (dt : Nat) (e : Fin 24) (r : SliceResult),
    (s.eng e).running = some 8 →
    s.tb + dt < (s.eng e).startTb + us 100 →
    ∃ t, exec (.taskExecutionComplete dt e r) s = .next t ∧
      t.pyr.written.isSome = true) ∧
  (∀ (s : State) (dt : Nat) (e : Fin 24) (k : Fin 59),
    (s.eng e).running = some k →
    (s.eng e).startTb + 10000 ≤ s.tb + dt →
    engInService (s.eng e) = true →
    ∃ t, exec (.engineWatchdog dt e) s = .next t ∧
      engInService (t.eng e) = false ∧
      t.nat (Od.ENG_LAST_FAIL e) = 5) ∧
  (∀ (s : State) (dt : Nat) (e : Fin 24),
    (s.eng e).state = .outOfService →
    (s.eng e).oosTb + ms 100 ≤ s.tb + dt →
    ∃ t, exec (.engineRejoin dt e) s = .next t ∧
      (t.eng e).state = .thief) ∧
  (∀ (s : State) (dt : Nat) (who : Requester),
    s.accepts dt who Od.POOL_CONFIG_LOAD .service = true →
    (∀ d ∈ Drive.all, s.paramState d = true) →
    ∃ t, exec (.configLoadWrite dt who 1) s = .next t ∧
      t.pool.check = some false ∧
      t.bit Od.POOL_POOL_STATUS 1 = true) ∧
  (∀ (s : State) (dt : Nat),
    s.pool.check = some false →
    ∃ t, exec (.configLoadAdmissionComplete dt) s = .next t ∧
      t.pool.check = none ∧
      t.nat Od.POOL_ADMIT_RESULT = (s.admission s.periodStored).1 ∧
      t.bit Od.POOL_POOL_STATUS 1 = false)

/-- What shifts and the axle manager's writes do. States the completion of: shiftCmdWrite, shiftStepLimit,
axleModeWrite, axleTqSetWrite, yawTqSetWrite, axleDirectionWrite. -/
def Obligations.ShiftAndAxleCommandsComplete : Prop :=
  (∀ (s : State) (dt : Nat) (who : Requester) (m : Fin 2) (v : BitVec 8),
    s.accepts dt who (Od.SHF_SHIFT_CMD m) .operator = true →
    v.toNat ≤ 2 →
    (s.begun dt who).owns who .gbx = true →
    (s.begun dt who).sameGear m v.toNat = false →
    (s.begun dt who).shiftRefusal m v.toNat = 0 →
    s.shifting (otherSide m).val = false →
    ∃ t, exec (.shiftCmdWrite dt who m v) s = .next t ∧
      (t.gear m = 5 ∧ t.shiftStep m = 1) ∧
      t.nat (Od.SHF_SHIFT_CMD m) = v.toNat ∧
      t.answered who = true) ∧
  (∀ (s : State) (dt : Nat) (m : Fin 2),
    s.shiftStep m = 1 →
    (s.side m).stepTb + 5000000 ≤ s.tb + dt →
    s.nat (Od.SHF_SHIFT_FAILS m) < 2 ^ 32 →
    ∃ t, exec (.shiftStepLimit dt m) s = .next t ∧
      t.gear m = (s.side m).oldGear ∧
      t.nat (Od.SHF_SHIFT_FAILS m) = min (s.nat (Od.SHF_SHIFT_FAILS m) + 1) (2 ^ 32 - 1)) ∧
  (∀ (s : State) (dt : Nat) (who : Requester) (v : BitVec 8),
    s.accepts dt who Od.AXLE_AXLE_MODE .operator = true →
    v.toNat ≤ 3 →
    (s.begun dt who).ownsAxle who = true →
    (v ≠ 0 → s.ratiosSet = true) →
    (s.axleMode = 0 ∨ v = 0) →
    (∀ d ∈ [Drive.tra, .trb], s.ds d ≠ .active ∧ s.ds d ≠ .stopping) →
    ∃ t, exec (.axleModeWrite dt who v) s = .next t ∧
      t.nat Od.AXLE_AXLE_MODE = v.toNat ∧
      t.axleMode = v.toNat) ∧
  (∀ (s : State) (dt : Nat) (who : Requester) (v : BitVec 32) (q : Rat),
    s.accepts dt who Od.AXLE_AXLE_TQ_SET .operator = true →
    (s.begun dt who).ownsAxle who = true →
    f32Decode v = some q →
    ∃ t, exec (.axleTqSetWrite dt who v) s = .next t ∧
      t.num Od.AXLE_AXLE_TQ_SET = q ∧
      t.answered who = true) ∧
  (∀ (s : State) (dt : Nat) (who : Requester) (v : BitVec 32) (q : Rat),
    s.accepts dt who Od.AXLE_YAW_TQ_SET .operator = true →
    (s.begun dt who).ownsAxle who = true →
    f32Decode v = some q →
    ∃ t, exec (.yawTqSetWrite dt who v) s = .next t ∧
      t.num Od.AXLE_YAW_TQ_SET = q ∧
      t.answered who = true) ∧
  (∀ (s : State) (dt : Nat) (who : Requester) (v : BitVec 8),
    s.accepts dt who Od.AXLE_AXLE_DIRECTION .operator = true →
    (v = 1 ∨ v = 2) →
    (s.begun dt who).ownsAxle who = true →
    (s.axleMode ≠ 0 ∧ s.shiftHoldsDirection = false) →
    ∃ t, exec (.axleDirectionWrite dt who v) s = .next t ∧
      t.nat Od.AXLE_AXLE_DIRECTION = v.toNat ∧
      t.nat (Od.TR_DIRECTION 0) = v.toNat ∧
      (t.nat (Od.TR_DIRECTION 1) = if s.bit Od.AXLE_AXLE_CTRL 1 then 3 - v.toNat else v.toNat))

/-- What actuator faults, solenoid channels and gear state recovery do. States the completion of: actuatorAxisFault,
iSetWrite, ibBelow38V, solenoidOvercurrent, solenoidOpenLoad, solenoidDeviation, gearStateRecoveryStart,
recoveryStall, gearStateRecoveryEnd. -/
def Obligations.ActuatorCommandsComplete : Prop :=
  (∀ (s : State) (dt : Nat) (a : Fin 4),
    s.pifService (4 + a) = 3 →
    ∃ t, exec (.actuatorAxisFault dt a) s = .next t ∧
      t.deciding (actAxis a) = false ∧
      (t.ds .gbx = if s.ds .gbx = .inhibit then .inhibit else .fault)) ∧
  (∀ (s : State) (dt : Nat) (who : Requester) (c : Fin 8) (v : BitVec 32) (q : Rat),
    s.accepts dt who (Od.SOL_I_SET c) .operator = true →
    f32Decode v = some q →
    (0 ≤ q ∧ q ≤ 4) →
    (s.begun dt who).owns who .gbx = true →
    s.solSide c = none →
    ∃ t, exec (.iSetWrite dt who c v) s = .next t ∧
      t.num (Od.SOL_I_SET c) = q ∧
      t.answered who = true) ∧
  (∀ (s : State) (dt : Nat) (v : Rat) (c : Fin 8),
    v < 38 →
    ∃ t, exec (.ibBelow38V dt v) s = .next t ∧
      t.num Od.CNV_V_IB = v ∧
      t.num (Od.SOL_DUTY c) = 0) ∧
  (∀ (s : State) (dt : Nat) (c : Fin 8) (i : Rat),
    6 < i →
    s.num (Od.SOL_DUTY c) ≠ 0 →
    ∃ t, exec (.solenoidOvercurrent dt c i) s = .next t ∧
      t.bit (Od.SOL_SOL_STATUS c) 3 = true ∧
      t.num (Od.SOL_DUTY c) = 0) ∧
  (∀ (s : State) (dt : Nat) (c : Fin 8),
    ((((s.elapse dt).gbx.sols.get c).openTb.any fun e => decide (e + ms (s.nat (Od.SOL_OPEN_LOAD_ms c)) ≤ s.tb + dt))
      = true) →
    ∃ t, exec (.solenoidOpenLoad dt c) s = .next t ∧
      t.bit (Od.SOL_SOL_STATUS c) 4 = true ∧
      t.num (Od.SOL_DUTY c) = 0) ∧
  (∀ (s : State) (dt : Nat) (c : Fin 8),
    ((((s.elapse dt).gbx.sols.get c).devTb.any fun e => decide (e + ms 200 ≤ s.tb + dt)) = true) →
    ∃ t, exec (.solenoidDeviation dt c) s = .next t ∧
      t.bit (Od.SOL_SOL_STATUS c) 5 = true ∧
      t.num (Od.SOL_DUTY c) = s.num (Od.SOL_DUTY c)) ∧
  (∀ (s : State) (dt : Nat),
    s.recoveryDue = true →
    ∃ t, exec (.gearStateRecoveryStart dt) s = .next t ∧
      (t.drv .gbx).arming = .recovery ∧
      (∀ c ∈ Drive.cells .gbx, (t.cell c).armStep = 2)) ∧
  (∀ (s : State) (dt : Nat) (a : Fin 4),
    s.gbx.recovT0.isSome = true →
    ((s.recOf a).resolved = false ∧ (s.recOf a).step = 4 ∧ (s.recOf a).turned = false) →
    (s.elapse dt).stalled a (s.recOf a).pushTb (ms 20) = true →
    ∃ t, exec (.recoveryStall dt a) s = .next t ∧
      (t.recOf a).turned = true ∧
      (t.recOf a).dir = -(s.recOf a).dir) ∧
  (∀ (s : State) (dt t0 : Nat),
    s.gbx.recovT0 = some t0 →
    (∀ a ∈ ([0, 1, 2, 3] : List (Fin 4)), (s.recOf a).resolved = true) →
    ∃ t, exec (.gearStateRecoveryEnd dt) s = .next t ∧
      t.gbx.recovered = true ∧
      t.gbx.recovT0 = none)

/-- What the park locks' commands do. States the completion of: parkEngageCmd, parkReleaseCmd, parkPositionConfirm,
pawlOnTooth, parkReleaseTimeout. -/
def Obligations.ParkCommandsComplete : Prop :=
  (∀ (s : State) (dt : Nat) (who : Requester) (m : Fin 2),
    s.accepts dt who (Od.PRK_PARK_CMD m) .operator = true →
    (s.begun dt who).owns who .gbx = true →
    (s.shifting m = false ∧ s.parkSlow m = true) →
    (s.park m = 3 ∨ s.park m = 4) →
    ∃ t, exec (.parkEngageCmd dt who m) s = .next t ∧
      t.park m = 2 ∧
      t.nat (Od.PRK_PARK_CMD m) = 1 ∧
      t.answered who = true) ∧
  (∀ (s : State) (dt : Nat) (who : Requester) (m : Fin 2),
    s.accepts dt who (Od.PRK_PARK_CMD m) .operator = true →
    (s.begun dt who).owns who .gbx = true →
    s.park m = 1 →
    s.gbxActive = true →
    (s.ds (sideDrive m) = .active ∨ s.flag Od.PRK_TOW_RELEASE = true) →
    ∃ t, exec (.parkReleaseCmd dt who m) s = .next t ∧
      t.park m = 3 ∧
      t.nat (Od.PRK_PARK_CMD m) = 2) ∧
  (∀ (s : State) (dt : Nat) (m : Fin 2),
    s.park m = 2 →
    ((((s.elapse dt).side m).pawlTb.any fun b => decide (b + ms 10 ≤ s.tb + dt)) = true) →
    ∃ t, exec (.parkPositionConfirm dt m) s = .next t ∧
      t.park m = 1) ∧
  (∀ (s : State) (dt : Nat) (m : Fin 2),
    s.park m = 3 →
    ((((s.elapse dt).side m).pawlTb.any fun b => decide (b + ms 10 ≤ s.tb + dt)) = true) →
    ∃ t, exec (.parkPositionConfirm dt m) s = .next t ∧
      t.park m = 4) ∧
  (∀ (s : State) (dt : Nat) (m : Fin 2),
    (s.park m = 2 ∧ s.gbxActive = true) →
    s.pawlAt m (s.int (Od.PRK_POS_ENGAGED m)) = false →
    (s.elapse dt).stalled (pawlOf m) (s.side m).parkTb (ms 20) = true →
    ∃ t, exec (.pawlOnTooth dt m) s = .next t ∧
      (t.side m).tooth = true ∧
      t.park m = 2) ∧
  (∀ (s : State) (dt : Nat) (m : Fin 2),
    s.park m = 3 →
    (s.side m).parkTb + ms (s.nat Od.PRK_RELEASE_TIME_ms) ≤ s.tb + dt →
    s.nat (Od.PRK_PARK_FAILS m) < 65535 →
    ∃ t, exec (.parkReleaseTimeout dt m) s = .next t ∧
      t.park m = 2 ∧
      t.nat (Od.PRK_PARK_FAILS m) = s.nat (Od.PRK_PARK_FAILS m) + 1)

/-- What sense, threshold and trip events of the DC link and what AUTO_RUN do. States the completion of:
dcLinkSenseMismatch, uvTripRelease, resistorModelUpdate, firmwareDcLinkTrip, hardwareDcLinkTrip, autoRunWrite. -/
def Obligations.DcLinkCommandsComplete : Prop :=
  (∀ (s : State) (dt : Nat),
    (s.elapse dt).differDue = true →
    s.bit Od.DCL_DCL_STATUS 1 = false →
    s.ds .brk ≠ .inhibit →
    ∃ t, exec (.dcLinkSenseMismatch dt) s = .next t ∧
      t.bit Od.DCL_DCL_STATUS 1 = true ∧
      t.ds .brk = .fault ∧
      t.dcl.mismatchOf = s.notInhibit [.tra, .trb, .chg, .brk]) ∧
  (∀ (s : State) (dt : Nat) (since : Nat),
    s.dcl.uvSince = some since →
    since + ms 100 ≤ s.tb + dt →
    s.num Od.DCL_UV_DERATE + 10 ≤ s.vDc →
    ∃ t, exec (.uvTripRelease dt) s = .next t ∧
      t.bit Od.DCL_DCL_STATUS 12 = false) ∧
  (∀ (s : State) (dt : Nat) (v0 : Rat),
    (s.num Od.DCL_RES_MEAS_0 ≠ 0 ∧ s.num Od.DCL_RES_MEAS_1 ≠ 0) →
    s.dcl.vHist[9]? = some v0 →
    s.dcl.resTb + us 10 ≤ s.tb + dt →
    ∃ t, exec (.resistorModelUpdate dt) s = .next t ∧
      t.num Od.DCL_RES_E_0 = s.num Od.DCL_RES_E_0 + (s.num Od.DCL_V_DC * s.num Od.DCL_V_DC * s.num Od.DCL_CHOP_DUTY /
        s.num Od.DCL_RES_MEAS_0 - s.num Od.DCL_RES_E_0 / s.num Od.DCL_RES_TAU_s) / 100000 ∧
      t.num Od.DCL_DV_DT = (s.num Od.DCL_V_DC - v0) * 10) ∧
  (∀ (s : State) (dt : Nat),
    (s.num Od.DCL_FW_TRIP ≤ s.num Od.DCL_V_DC ∧ s.dcl.fwHigh = false) →
    s.nat Od.DCL_FW_TRIPS < 65535 →
    s.ds .chg ≠ .inhibit →
    ∃ t, exec (.firmwareDcLinkTrip dt) s = .next t ∧
      t.bit Od.DCL_DCL_STATUS 13 = true ∧
      t.nat Od.DCL_FW_TRIPS = s.nat Od.DCL_FW_TRIPS + 1 ∧
      t.ds .chg = .fault) ∧
  (∀ (s : State) (dt : Nat),
    (s.nat Od.DCL_HW_TRIPS < 65535 ∧ s.bringup.islandOn = true) →
    s.ds .brk ≠ .inhibit →
    ∃ t, exec (.hardwareDcLinkTrip dt) s = .next t ∧
      t.bit Od.DCL_DCL_STATUS 14 = true ∧
      t.nat Od.DCL_HW_TRIPS = s.nat Od.DCL_HW_TRIPS + 1 ∧
      t.ds .brk = .fault ∧
      t.dcl.disch = none ∧
      t.ds .gbx = s.ds .gbx) ∧
  (∀ (s : State) (dt : Nat) (who : Requester) (v : BitVec 8),
    s.accepts dt who Od.BRK_AUTO_RUN .service = true →
    v.toNat < 2 →
    ∃ t, exec (.autoRunWrite dt who .brk v) s = .next t ∧
      t.flag Od.BRK_AUTO_RUN = (v.toNat == 1) ∧
      t.answered who = true ∧
      (v.toNat = 1 ∧ s.ds .brk = .standby → (t.drv .brk).autoHold = false)) ∧
  (∀ (s : State) (dt : Nat) (who : Requester) (v : BitVec 8),
    s.accepts dt who Od.AUX_AUTO_RUN .service = true →
    v.toNat < 2 →
    ∃ t, exec (.autoRunWrite dt who .aux v) s = .next t ∧
      t.flag Od.AUX_AUTO_RUN = (v.toNat == 1) ∧
      t.answered who = true)

/-- What the resistor check, chopper faults and the active discharge do. States the completion of: resOhmWrite,
brkResistorCheckComplete, brkCheckRetry, chopperOpenResistor, chopperShortedSwitch, dischargeStart, dischargeEnd,
dischargeLinkSupplied, dischargeComplete, dischargeTimeout. -/
def Obligations.ChopperCommandsComplete : Prop :=
  (∀ (s : State) (dt : Nat) (who : Requester) (leg : Fin 2) (q : Rat) (v : BitVec 32),
    s.accepts dt who (Od.DCL_RES_OHM_0 + leg) .service = true →
    f32Decode v = some q →
    (q = 0 ∨ (f32Val (31 / 10) ≤ q ∧ q ≤ 20)) →
    (s.ds .brk = .unavailable ∨ s.ds .brk = .standby ∨ s.ds .brk = .fault) →
    ∃ t, exec (.resOhmWrite dt who leg v) s = .next t ∧
      t.num (Od.DCL_RES_OHM_0 + leg) = q ∧
      (s.ds .brk = .unavailable → t.dcl.checkOk = false) ∧
      t.answered who = true) ∧
  (∀ (s : State) (dt : Nat) (i0 i1 : Rat),
    s.resCheckRuns = true →
    resFits (s.num Od.DCL_RES_OHM_0) (resMeas s.vDc i0) = true →
    resFits (s.num Od.DCL_RES_OHM_1) (resMeas s.vDc i1) = true →
    ∃ t, exec (.brkResistorCheckComplete dt i0 i1) s = .next t ∧
      t.num Od.DCL_RES_MEAS_0 = resMeas s.vDc i0 ∧
      t.dcl.checkOk = true ∧
      t.bit Od.DCL_DCL_STATUS 9 = false) ∧
  (∀ (s : State) (dt : Nat) (i0 i1 : Rat),
    s.resCheckRuns = true →
    (resFits (s.num Od.DCL_RES_OHM_0) (resMeas s.vDc i0) && resFits (s.num Od.DCL_RES_OHM_1) (resMeas s.vDc i1)) =
      false →
    s.logRoom = true →
    ∃ t, exec (.brkResistorCheckComplete dt i0 i1) s = .next t ∧
      t.dcl.checkFailed = true ∧
      t.dcl.checkWait = some (s.tb + dt) ∧
      (t.logged 0x090D (if resFits (s.num Od.DCL_RES_OHM_0) (resMeas s.vDc i0) then 0x0F else 0x0E) s.linkDetail =
        true)) ∧
  (∀ (s : State) (dt : Nat) (t0 : Nat),
    s.dcl.checkWait = some t0 →
    t0 + sec 10 ≤ s.tb + dt →
    450 ≤ s.num Od.DCL_V_DC →
    ∃ t, exec (.brkCheckRetry dt) s = .next t ∧
      t.dcl.checkWait = none) ∧
  (∀ (s : State) (dt : Nat) (leg : Fin 2) (i1 i2 : Rat),
    s.openCheckOn = true →
    (s.elapse dt).switchOn (legOf (48 + leg)) false = true →
    (s.elapse dt).lastEdge (legOf (48 + leg)) + us 2 ≤ s.tb + dt →
    s.num (Od.DCL_RES_OHM_0 + leg) ≠ 0 →
    (i1 < s.vDc / (4 * s.num (Od.DCL_RES_OHM_0 + leg)) ∧ i2 < s.vDc / (4 * s.num (Od.DCL_RES_OHM_0 + leg))) →
    s.bit Od.DCL_DCL_STATUS (2 + leg) = false →
    s.ds .brk ≠ .inhibit →
    ∃ t, exec (.chopperOpenResistor dt leg i1 i2) s = .next t ∧
      t.bit Od.DCL_DCL_STATUS (2 + leg) = true ∧
      t.bit Od.DCL_DCL_STATUS 9 = true ∧
      t.num Od.DCL_GEN_FACTOR = 0 ∧
      t.ds .brk = .fault) ∧
  (∀ (s : State) (dt : Nat) (leg : Fin 2) (i : Rat),
    (s.num Od.DCL_SHORT_I_THR < i ∧ s.bringup.islandOn = true) →
    (s.elapse dt).switchOn (legOf (48 + leg)) false = false →
    (s.elapse dt).lastEdge (legOf (48 + leg)) + us 2 ≤ s.tb + dt →
    s.bit Od.DCL_DCL_STATUS (4 + leg) = false →
    s.ds .brk ≠ .inhibit →
    ∃ t, exec (.chopperShortedSwitch dt leg i) s = .next t ∧
      t.bit Od.DCL_DCL_STATUS (4 + leg) = true ∧
      t.bit Od.DCL_DCL_STATUS 9 = true ∧
      t.num Od.DCL_GEN_FACTOR = 0 ∧
      t.ds .brk = .fault) ∧
  (∀ (s : State) (dt : Nat) (who : Requester),
    s.accepts dt who Od.DCL_DISCHARGE_CMD .operator = true →
    (who = .pyreri ∨ (s.begun dt who).owns who .brk = true) →
    s.dischargeRefused = false →
    s.nat Od.DCL_DISCHARGES < 4294967295 →
    (s.ds .brk = .active ∨ s.ds .brk = .armed) →
    ∃ t, exec (.dischargeStart dt who) s = .next t ∧
      t.nat Od.DCL_DISCH_STATE = 1 ∧
      t.bit Od.DCL_DCL_STATUS 15 = true ∧
      t.dcl.disch = some (s.tb + dt) ∧
      t.dcl.dischOn = true ∧
      t.nat Od.DCL_DISCHARGES = s.nat Od.DCL_DISCHARGES + 1 ∧
      t.answered who = true) ∧
  (∀ (s : State) (dt : Nat) (who : Requester),
    s.accepts dt who Od.DCL_DISCHARGE_CMD .operator = true →
    s.dischargeRefused = true →
    ∃ t, exec (.dischargeStart dt who) s = .next t ∧
      t.refusedWith who 0x08000022 = true ∧
      t.dcl.disch = s.dcl.disch) ∧
  (∀ (s : State) (dt : Nat) (who : Requester) (t0 : Nat),
    s.accepts dt who Od.DCL_DISCHARGE_CMD .operator = true →
    (who = .pyreri ∨ (s.begun dt who).owns who .brk = true) →
    s.dcl.disch = some t0 →
    ∃ t, exec (.dischargeEnd dt who) s = .next t ∧
      t.nat Od.DCL_DISCH_STATE = 5 ∧
      t.bit Od.DCL_DCL_STATUS 15 = false ∧
      t.dcl.disch = none ∧
      t.answered who = true) ∧
  (∀ (s : State) (dt : Nat) (t0 : Nat),
    (s.dcl.disch = some t0 ∧ s.dcl.dischOn = true) →
    t0 + ms 50 ≤ s.tb + dt →
    s.dcl.dischV0 / 2 < s.vDc →
    ∃ t, exec (.dischargeLinkSupplied dt) s = .next t ∧
      t.nat Od.DCL_DISCH_STATE = 3 ∧
      t.dcl.disch = none) ∧
  (∀ (s : State) (dt : Nat) (t0 : Nat),
    (s.dcl.disch = some t0 ∧ s.dcl.dischOn = true) →
    t0 ≤ s.tb + dt →
    s.vDc < 20 →
    ∃ t, exec (.dischargeComplete dt) s = .next t ∧
      t.nat Od.DCL_DISCH_STATE = 2 ∧
      t.nat Od.DCL_DISCH_TIME_ms = min ((s.tb + dt - t0) / 100000) 65535 ∧
      t.dcl.disch = none) ∧
  (∀ (s : State) (dt : Nat) (t0 : Nat),
    (s.dcl.disch = some t0 ∧ s.dcl.dischOn = true) →
    t0 + sec 3 ≤ s.tb + dt →
    60 ≤ s.vDc →
    s.ds .brk ≠ .inhibit →
    ∃ t, exec (.dischargeTimeout dt) s = .next t ∧
      t.nat Od.DCL_DISCH_STATE = 4 ∧
      t.dcl.disch = none ∧
      t.ds .brk = .fault)

/-- What the DAB, the buck, set-points and synchronisation of AUX do. States the completion of: dabPeakLimit,
dabStopLowLink, dabRestartLinkOk, ibStartComplete, buckPhaseShed, vselSample, vrSrcWrite, vrCmdWrite, vrSetWrite,
loadReleaseEntry, loadReleaseExit, syncInLock, syncInLoss. -/
def Obligations.AuxConverterCommandsComplete : Prop :=
  (∀ (s : State) (dt : Nat) (i : Rat),
    (s.cell 9).mode = .switching →
    s.num Od.CNV_DAB_IPK ≤ i →
    ∃ t, exec (.dabPeakLimit dt i) s = .next t ∧
      (t.aux.peakTbs = (s.tb + dt) :: s.aux.peakTbs.filter fun e => decide (s.tb + dt < e + ms 10)) ∧
      t.bit Od.CNV_AUX_STATUS 12 = decide (s.nat Od.CNV_DAB_Hz < 100 * t.aux.peakTbs.length) ∧
      (∀ l ∈ cellLegList 9, (t.leg l).inPulse (s.tb + dt) = !(s.leg l).inPulse (s.tb + dt) ∨ (s.leg l).offTb ≤ (s.leg
        l).onTb)) ∧
  (∀ (s : State) (dt : Nat),
    s.ds .aux = .active →
    (1 ≤ s.auxMode ∧ s.auxMode ≤ 3) →
    s.num Od.DCL_V_DC ≤ s.num Od.CNV_DAB_STOP_V →
    ∃ t, exec (.dabStopLowLink dt) s = .next t ∧
      (t.auxMode = if s.towOk then 4 else 5) ∧
      t.bit Od.CNV_AUX_STATUS 1 = false) ∧
  (∀ (s : State) (dt : Nat),
    s.ds .aux = .active →
    (s.auxMode = 4 ∨ s.auxMode = 5) →
    450 ≤ s.num Od.DCL_V_DC →
    heldFor s.dcl.okTb (ms 100) (s.tb + dt) = true →
    ∃ t, exec (.dabRestartLinkOk dt) s = .next t ∧
      t.auxMode = 1) ∧
  (∀ (s : State) (dt : Nat),
    s.ds .aux = .active →
    s.auxMode = 1 →
    (s.num Od.CNV_V_IB ≥ 42 ∧ s.num Od.CNV_V_IB ≤ 58) →
    (s.elapse dt).ibUp = true →
    s.bit Od.LV_LV_STATUS 5 = false →
    s.vrSource ≠ 3 →
    ∃ t, exec (.ibStartComplete dt) s = .next t ∧
      t.auxMode = 2 ∧
      t.num Od.CNV_VR_REF = 0 ∧
      t.bit Od.CNV_AUX_STATUS 0 = true) ∧
  (∀ (s : State) (dt : Nat) (ph : Fin 4) (dev : Rat),
    s.bit Od.CNV_AUX_STATUS 0 = true →
    heldFor s.aux.devTb[ph] (ms 10) (s.tb + dt) = true →
    ph.val ∉ s.aux.shed →
    s.valleyDev ph = dev →
    s.ds .aux = .active →
    ∃ t, exec (.buckPhaseShed dt ph dev) s = .next t ∧
      t.bit Od.CNV_AUX_STATUS 13 = true ∧
      t.aux.shed = ph.val :: s.aux.shed ∧
      (1 ≤ s.aux.shed.length → t.ds .aux = .fault) ∧
      (s.aux.shed = [] → t.ds .aux = .active)) ∧
  (∀ (s : State) (dt : Nat) (v : BitVec 2),
    s.dictUp = true →
    s.aux.vselTb + ms 1 ≤ s.tb + dt →
    (s.aux.vselRaw = v.toNat ∧ s.aux.vselRun = 3) →
    s.nat Od.CNV_VSEL_CODE ≠ v.toNat →
    s.nat Od.CNV_VSEL_CHANGES < 4294967295 →
    ∃ t, exec (.vselSample dt v) s = .next t ∧
      t.nat Od.CNV_VSEL_CODE = v.toNat ∧
      t.nat Od.CNV_VSEL_CHANGES = s.nat Od.CNV_VSEL_CHANGES + 1) ∧
  (∀ (s : State) (dt : Nat) (who : Requester) (v : BitVec 8),
    s.accepts dt who Od.CNV_VR_SRC .operator = true →
    (s.begun dt who).owns who .aux = true →
    v.toNat < 2 →
    ∃ t, exec (.vrSrcWrite dt who v) s = .next t ∧
      t.nat Od.CNV_VR_SRC = v.toNat ∧
      t.answered who = true ∧
      (s.aux.lowered = none → t.num Od.CNV_VR_TARGET = t.vrBase)) ∧
  (∀ (s : State) (dt : Nat) (who : Requester) (q : Rat) (v : BitVec 32),
    s.accepts dt who Od.CNV_VR_CMD .operator = true →
    (s.begun dt who).owns who .aux = true →
    f32Decode v = some q →
    (24 ≤ q ∧ q ≤ 30) →
    ∃ t, exec (.vrCmdWrite dt who v) s = .next t ∧
      t.num Od.CNV_VR_CMD = q ∧
      t.answered who = true) ∧
  (∀ (s : State) (dt : Nat) (who : Requester) (code : Fin 4) (q : Rat) (v : BitVec 32),
    s.accepts dt who (Od.CNV_VR_SET code) .service = true →
    f32Decode v = some q →
    (24 ≤ q ∧ q ≤ 30) →
    ∃ t, exec (.vrSetWrite dt who code v) s = .next t ∧
      t.num (Od.CNV_VR_SET code) = q ∧
      t.answered who = true) ∧
  (∀ (s : State) (dt : Nat) (v : Rat),
    s.buckOn = true →
    s.bit Od.CNV_AUX_STATUS 8 = false →
    103 / 100 * s.num Od.CNV_VR_REF < v →
    s.nat Od.CNV_RELEASES < 4294967295 →
    ∃ t, exec (.loadReleaseEntry dt v) s = .next t ∧
      t.bit Od.CNV_AUX_STATUS 8 = true ∧
      t.num Od.CNV_V_VR = v ∧
      t.nat Od.CNV_RELEASES = s.nat Od.CNV_RELEASES + 1 ∧
      t.aux.syncOut = false) ∧
  (∀ (s : State) (dt : Nat) (v : Rat),
    s.bit Od.CNV_AUX_STATUS 8 = true →
    v ≤ 101 / 100 * s.num Od.CNV_VR_REF →
    ∃ t, exec (.loadReleaseExit dt v) s = .next t ∧
      t.bit Od.CNV_AUX_STATUS 8 = false ∧
      t.num Od.CNV_V_VR = v ∧
      t.aux.syncOut = s.aux.syncOut) ∧
  (∀ (s : State) (dt : Nat) (hz : Vector Rat 8) (phase : Rat),
    ((hz.toList.all fun f => s.syncOk f) = true) →
    ∃ t, exec (.syncInLock dt hz phase) s = .next t ∧
      t.bit Od.CNV_AUX_STATUS 3 = true ∧
      t.nat Od.CNV_F_SYNC_IN = hz[7].floor.toNat ∧
      (t.aux.syncHz = some hz[7] ∧ t.aux.syncTb = s.tb + dt) ∧
      t.bit Od.CNV_AUX_STATUS 4 = (s.bit Od.CNV_AUX_STATUS 4 || (decide (|phase| ≤ 5) && s.aux.fBuck == hz[7]))) ∧
  (∀ (s : State) (dt : Nat) (hz : Option Rat),
    s.bit Od.CNV_AUX_STATUS 3 = true →
    (s.elapse dt).syncGone hz = true →
    s.nat Od.CNV_SYNC_LOSSES < 65535 →
    ∃ t, exec (.syncInLoss ⟨dt, hz⟩) s = .next t ∧
      t.bit Od.CNV_AUX_STATUS 3 = false ∧
      t.bit Od.CNV_AUX_STATUS 4 = false ∧
      t.nat Od.CNV_F_SYNC_IN = 0 ∧
      t.nat Od.CNV_SYNC_LOSSES = s.nat Od.CNV_SYNC_LOSSES + 1)

/-- What AUX48 and the protection of IB, VR and TOW do. States the completion of: aux48EnWrite, aux48Overcurrent,
ibOvervoltagePause, ibOvervoltageTrip, ibLost, vrOvervoltage, towBatteryLow. -/
def Obligations.AuxProtectionCommandsComplete : Prop :=
  (∀ (s : State) (dt : Nat) (who : Requester) (v : BitVec 8),
    s.accepts dt who Od.CNV_AUX48_EN .operator = true →
    (s.begun dt who).owns who .aux = true →
    v.toNat < 2 →
    ∃ t, exec (.aux48EnWrite dt who v) s = .next t ∧
      t.flag Od.CNV_AUX48_EN = (v.toNat == 1) ∧
      t.bit Od.CNV_AUX_STATUS 15 = false ∧
      t.answered who = true) ∧
  (∀ (s : State) (dt : Nat) (i : Rat),
    s.bit Od.CNV_AUX_STATUS 14 = true →
    heldFor s.aux.overTb (ms 1) (s.tb + dt) = true →
    s.num Od.CNV_AUX48_I_MAX < i →
    ∃ t, exec (.aux48Overcurrent dt i) s = .next t ∧
      t.bit Od.CNV_AUX_STATUS 14 = false ∧
      t.bit Od.CNV_AUX_STATUS 15 = true) ∧
  (∀ (s : State) (dt : Nat) (v : Rat),
    s.bit Od.CNV_AUX_STATUS 1 = true →
    s.aux.paused = false →
    58 < v →
    ∃ t, exec (.ibOvervoltagePause dt v) s = .next t ∧
      t.aux.paused = true ∧
      t.bit Od.CNV_AUX_STATUS 1 = false ∧
      t.bit Od.CNV_AUX_STATUS 9 = true ∧
      t.num Od.CNV_V_IB = v ∧
      t.auxMode = s.auxMode) ∧
  (∀ (s : State) (dt : Nat) (v : Rat),
    s.ds .aux = .active →
    60 < v →
    heldFor s.aux.ibHighTb (us 20) (s.tb + dt) = true →
    ∃ t, exec (.ibOvervoltageTrip dt v) s = .next t ∧
      t.ds .aux = .fault ∧
      t.num Od.CNV_V_IB = v) ∧
  (∀ (s : State) (dt : Nat) (v : Rat),
    s.buckOn = true →
    v < 40 →
    heldFor s.aux.ibLowTb (ms 1) (s.tb + dt) = true →
    ∃ t, exec (.ibLost dt v) s = .next t ∧
      t.auxMode = 1 ∧
      t.bit Od.CNV_AUX_STATUS 0 = false ∧
      t.num Od.CNV_V_IB = v) ∧
  (∀ (s : State) (dt : Nat) (v : Rat),
    s.ds .aux = .active →
    63 / 2 < v →
    heldFor s.aux.vrHighTb (us 100) (s.tb + dt) = true →
    ∃ t, exec (.vrOvervoltage dt v) s = .next t ∧
      t.ds .aux = .fault ∧
      t.bit Od.CNV_AUX_STATUS 10 = true) ∧
  (∀ (s : State) (dt : Nat) (v : Rat),
    s.auxMode = 4 →
    v < s.num Od.CNV_TOW_VBAT_MIN →
    heldFor s.aux.batLowTb (ms 100) (s.tb + dt) = true →
    ∃ t, exec (.towBatteryLow dt v) s = .next t ∧
      t.auxMode = 5 ∧
      t.num Od.LV_V_BAT = v ∧
      t.bit Od.CNV_AUX_STATUS 0 = false)

/-- What the charging port and the charge session do. States the completion of: pilotStateChange, pilotDutyChange,
proximityChange, supplyOutOfWindow, chargeSessionOpen, autoChargeStart, acWaitTimeout, pfcPrechargeTimeout,
packLost, exportBackfeed, exportOverloadTrip. -/
def Obligations.ChargePortCommandsComplete : Prop :=
  (∀ (s : State) (dt : Nat) (pos neg : Rat),
    pilotClass pos neg = .c →
    (s.chg.pilotSeen = .c ∧ 9 ≤ s.chg.pilotRun) →
    s.nat Od.CHR_PILOT_STATE ≠ 2 →
    ∃ t, exec (.pilotStateChange dt ⟨pos, neg⟩) s = .next t ∧
      t.nat Od.CHR_PILOT_STATE = 2 ∧
      t.chgBit 11 = true ∧
      (t.hvState = s.hvState ∧ t.session = s.session ∧ t.ds .chg = s.ds .chg)) ∧
  (∀ (s : State) (dt : Nat) (pos neg : Rat),
    (pilotClass pos neg = .a ∧ pos ≤ neg) →
    (s.chg.pilotSeen = .a ∧ s.chg.pilotRun = 0 ∧ s.chg.pilotTb + ms 10 ≤ s.tb + dt) →
    s.nat Od.CHR_PILOT_STATE ≠ 0 →
    ∃ t, exec (.pilotStateChange dt ⟨pos, neg⟩) s = .next t ∧
      t.nat Od.CHR_PILOT_STATE = 0 ∧
      t.session = 0) ∧
  (∀ (s : State) (dt : Nat) (pos neg : Rat),
    pilotClass pos neg = .b →
    (s.chg.pilotSeen = .b ∧ 9 ≤ s.chg.pilotRun) →
    s.nat Od.CHR_PILOT_STATE ≠ 1 →
    ∃ t, exec (.pilotStateChange dt ⟨pos, neg⟩) s = .next t ∧
      t.nat Od.CHR_PILOT_STATE = 1 ∧
      t.chgBit 11 = true) ∧
  (∀ (s : State) (dt : Nat) (pos neg : Rat) (p : PilotState),
    (pilotClass pos neg = p ∧ neg < pos) →
    (p = .d ∨ p = .e ∨ p = .f ∨ p = .invalid) →
    (s.chg.pilotSeen = p ∧ 9 ≤ s.chg.pilotRun) →
    s.nat Od.CHR_PILOT_STATE ≠ pilotCode p →
    ∃ t, exec (.pilotStateChange dt ⟨pos, neg⟩) s = .next t ∧
      t.nat Od.CHR_PILOT_STATE = pilotCode p ∧
      t.chgBit 11 = false ∧
      (s.sessionRuns = true → t.ds .chg = .fault ∨ t.ds .chg = .stopping ∨ t.ds .chg = .standby)) ∧
  (∀ (s : State) (dt : Nat) (pos neg : Rat),
    neg < pos →
    s.chg.pilotSeen ≠ pilotClass pos neg →
    ∃ t, exec (.pilotStateChange dt ⟨pos, neg⟩) s = .next t ∧
      (t.chg.pilotSeen = pilotClass pos neg ∧ t.chg.pilotRun = 1) ∧
      t.nat Od.CHR_PILOT_STATE = s.nat Od.CHR_PILOT_STATE) ∧
  (∀ (s : State) (dt : Nat) (duty : Rat),
    ∃ t, exec (.pilotDutyChange dt duty) s = .next t ∧
      t.num Od.CHR_PILOT_DUTY = duty ∧
      t.num Od.CHR_PILOT_I = pilotCurrent duty ∧
      t.num Od.CHR_AC_I_LIM_ACT = min (min (pilotCurrent duty) (s.num Od.CHR_PROX_I)) (s.num Od.CHR_AC_I_MAX)) ∧
  (∀ (s : State) (dt : Nat) (ohm i : Rat),
    proxCode ohm = some (i, false) →
    ∃ t, exec (.proximityChange dt ohm) s = .next t ∧
      t.num Od.CHR_PROX_OHM = ohm ∧
      t.num Od.CHR_PROX_I = i ∧
      t.chgBit 12 = true) ∧
  (∀ (s : State) (dt : Nat) (ohm : Rat),
    proxCode ohm = some (0, true) →
    ∃ t, exec (.proximityChange dt ohm) s = .next t ∧
      (t.chgBit 1 = true ∧ t.chgBit 12 = false) ∧
      t.session = 0) ∧
  (∀ (s : State) (dt : Nat) (ohm : Rat),
    proxCode ohm = none →
    ∃ t, exec (.proximityChange dt ohm) s = .next t ∧
      (t.chgBit 1 = false ∧ t.chgBit 12 = false) ∧
      t.num Od.CHR_PROX_I = 0 ∧
      t.session = 0) ∧
  (∀ (s : State) (dt : Nat),
    (s.chgBit 13 = true ∧ s.supplyOut = true) →
    ∃ t, exec (.supplyOutOfWindow dt) s = .next t ∧
      t.chgBit 13 = false) ∧
  (∀ (s : State) (dt : Nat),
    (s.chgBit 12 = true ∧ s.nat Od.CHR_PILOT_STATE = 1 ∧ s.session = 0) →
    s.logRoom = true →
    ∃ t, exec (.chargeSessionOpen dt) s = .next t ∧
      t.session = 1 ∧
      t.newestEvent.map LogEntry.code = some 0x0B03) ∧
  (∀ (s : State) (dt : Nat),
    (s.flag Od.CHG_AUTO_CHARGE = true ∧ s.ds .chg = .standby ∧ s.session = 1 ∧ s.nat Od.CHG_CHG_MODE = 1) →
    ((s.ds .tra = .standby ∨ s.ds .tra = .unavailable) ∧ (s.ds .trb = .standby ∨ s.ds .trb = .unavailable)) →
    s.bit Od.DCL_DCL_STATUS 12 = false →
    ((s.drv .chg).tqo = false ∧ (s.drv .chg).tqoLink = false ∧ (s.drv .chg).arming = .none) →
    ∃ t, exec (.autoChargeStart dt) s = .next t ∧
      (t.drv .chg).arming = .auto ∧
      t.ds .chg = .standby) ∧
  (∀ (s : State) (dt : Nat),
    (s.session = 3 ∧ s.supplyPhases = 0) →
    s.chg.stepTb + ms (s.nat Od.CHR_AC_WAIT_ms) ≤ s.tb + dt →
    ∃ t, exec (.acWaitTimeout dt) s = .next t ∧
      t.session = 1 ∧
      t.chgBit 10 = false) ∧
  (∀ (s : State) (dt : Nat),
    (s.session = 5 ∧ s.busReached = false) →
    s.chg.stepTb + ms 500 ≤ s.tb + dt →
    s.ds .chg ≠ .inhibit →
    ∃ t, exec (.pfcPrechargeTimeout dt) s = .next t ∧
      t.ds .chg = .fault) ∧
  (∀ (s : State) (dt : Nat) (rate i0 i1 : Rat),
    (s.cell 13).mode = .switching →
    s.num Od.CHR_DVDT_THR < rate →
    s.ds .chg ≠ .inhibit →
    s.nat Od.HV_PACK_LOSTS < 65535 →
    ∃ t, exec (.packLost ⟨dt, rate, i0, i1⟩) s = .next t ∧
      t.chg.packLost = true ∧
      t.nat Od.HV_PACK_LOSTS = s.nat Od.HV_PACK_LOSTS + 1 ∧
      t.ds .chg = .fault) ∧
  (∀ (s : State) (dt : Nat) (v : Rat),
    (s.nat Od.CHG_CHG_MODE = 2 ∧ s.flag Od.EXP_EXPORT_EN = true) →
    30 ≤ v →
    s.ds .chg ≠ .inhibit →
    ∃ t, exec (.exportBackfeed dt v) s = .next t ∧
      t.bit Od.EXP_EXP_STATUS 7 = true ∧
      t.ds .chg = .fault) ∧
  (∀ (s : State) (dt : Nat),
    (s.exporting = true ∧ (s.elapse dt).exportLate = true) →
    s.nat Od.EXP_EXP_TRIPS < 65535 →
    s.ds .chg ≠ .inhibit →
    ∃ t, exec (.exportOverloadTrip dt) s = .next t ∧
      t.bit Od.EXP_EXP_STATUS 4 = true ∧
      t.nat Od.EXP_EXP_TRIPS = s.nat Od.EXP_EXP_TRIPS + 1 ∧
      t.ds .chg = .fault)

/-- What the BMS messages and the timers of the charge state machine do. States the completion of: bmsMessageReceive,
bmsTimeout, moduleStatusSend, safetyTimerExpiry, chargeStateTimer. -/
def Obligations.ChargeInstanceCommandsComplete : Prop :=
  (∀ (s : State) (dt : Nat) (d : BitVec 64),
    ∃ t, exec (.bmsMessageReceive dt true d) s = .next t ∧
      t.num Od.HV_BMS_V_PACK = octet16 d 0 / 10 ∧
      t.chg.packTb = some (s.tb + dt)) ∧
  (∀ (s : State) (dt : Nat) (d : BitVec 64),
    (16 ≤ octet d 6 ∨ 10000 < octet16 d 0) →
    ∃ t, exec (.bmsMessageReceive dt false d) s = .next t ∧
      t.bit Od.HV_BMS_FLAGS 7 = true ∧
      (t.num Od.HV_BMS_CV_V = s.num Od.HV_BMS_CV_V ∧ t.num Od.HV_BMS_I_CHG = s.num Od.HV_BMS_I_CHG ∧ t.num
        Od.HV_BMS_I_DIS = s.num Od.HV_BMS_I_DIS)) ∧
  (∀ (s : State) (dt : Nat) (d : BitVec 64),
    (octet d 6 < 16 ∧ octet16 d 0 ≤ 10000) →
    (octet d 6).testBit 1 = true →
    ∃ t, exec (.bmsMessageReceive dt false d) s = .next t ∧
      t.num Od.HV_BMS_CV_V = octet16 d 0 / 10 ∧
      t.num Od.HV_BMS_I_CHG = octet16 d 2 / 10 ∧
      t.num Od.HV_BMS_I_DIS = octet16 d 4 / 10 ∧
      t.nat Od.HV_BMS_FLAGS = octet d 6 ∧
      t.chgBit 2 = (s.chg.alive == some ((octet d 7 + 255) % 256)) ∧
      t.chg.bmsTb = some (s.tb + dt)) ∧
  (∀ (s : State) (dt t0 : Nat),
    s.chg.bmsTb = some t0 →
    t0 + ms (s.nat Od.HV_BMS_TIMEOUT_ms) ≤ s.tb + dt →
    s.nat Od.HV_BMS_TIMEOUTS < 65535 →
    ∃ t, exec (.bmsTimeout dt) s = .next t ∧
      t.chgBit 2 = false ∧
      t.chg.bmsTb = none ∧
      t.nat Od.HV_BMS_TIMEOUTS = s.nat Od.HV_BMS_TIMEOUTS + 1) ∧
  (∀ (s : State) (dt : Nat),
    s.dictUp = true →
    s.chg.statusTb + ms 100 ≤ s.tb + dt →
    ∃ t, exec (.moduleStatusSend dt) s = .next t ∧
      t.chg.statusTb = s.tb + dt ∧
      t.chg.txAlive = (s.chg.txAlive + 1) % 256 ∧
      t.chg.txFlags = s.statusFlags) ∧
  (∀ (s : State) (dt : Nat),
    s.dictUp = true →
    s.statusFlags ≠ s.chg.txFlags →
    ∃ t, exec (.moduleStatusSend dt) s = .next t ∧
      t.chg.statusTb = s.tb + dt ∧
      t.chg.txAlive = (s.chg.txAlive + 1) % 256 ∧
      t.chg.txFlags = s.statusFlags) ∧
  (∀ (s : State) (dt : Nat),
    charging s.hvState = true →
    (sec (60 * s.nat Od.HV_HV_TIMER_LIMIT_min) : Rat) ≤ s.chg.hv.timer →
    s.ds .chg ≠ .inhibit →
    ∃ t, exec (.safetyTimerExpiry dt .hv) s = .next t ∧
      t.hvState = 11 ∧
      t.ds .chg = .fault) ∧
  (∀ (s : State) (dt : Nat),
    charging (s.nat Od.LV_LV_STATE) = true →
    (sec (60 * s.nat Od.LV_LV_TIMER_LIMIT_min) : Rat) ≤ s.chg.lv.timer →
    ∃ t, exec (.safetyTimerExpiry dt .lv) s = .next t ∧
      t.nat Od.LV_LV_STATE = 11 ∧
      (∀ d : Drive, t.ds d = s.ds d)) ∧
  (∀ (s : State) (dt : Nat),
    s.hvState = 4 →
    s.chg.hv.held 1 (s.tb + dt) (sec 1) = true →
    ∃ t, exec (.chargeStateTimer dt .hv) s = .next t ∧
      t.hvState = 5) ∧
  (∀ (s : State) (dt : Nat),
    s.nat Od.LV_LV_STATE = 4 →
    s.chg.lv.held 1 (s.tb + dt) (sec 1) = true →
    ∃ t, exec (.chargeStateTimer dt .lv) s = .next t ∧
      t.nat Od.LV_LV_STATE = 5) ∧
  (∀ (s : State) (dt : Nat),
    s.hvState = 6 →
    s.chg.hv.entryTb + sec 10 ≤ s.tb + dt →
    ∃ t, exec (.chargeStateTimer dt .hv) s = .next t ∧
      t.hvState = 8)

/-- What the LV battery, its switch, the hand-over of VR and the attention line do. States the completion of:
lvPresenceTestComplete, lvAckWrite, batterySwitchOvercurrent, handoverSwitchOn, handbackCountComplete,
attnClearWrite. -/
def Obligations.BatteryCommandsComplete : Prop :=
  (∀ (s : State) (dt : Nat) (v i : Rat),
    (s.nat Od.LV_LV_STATE = 1 ∧ s.path.testing = true ∧ s.path.testTb + ms 200 ≤ s.tb + dt) →
    i < 1 / 10 →
    ∃ t, exec (.lvPresenceTestComplete dt v i) s = .next t ∧
      t.nat Od.LV_LV_STATE = 9 ∧
      t.bit Od.LV_LV_STATUS 1 = false ∧
      (t.num Od.LV_V_BAT = v ∧ t.num Od.LV_I_BAT = i) ∧
      t.path.testing = false) ∧
  (∀ (s : State) (dt : Nat) (v i : Rat),
    (s.nat Od.LV_LV_STATE = 1 ∧ s.path.testing = true ∧ s.path.testTb + ms 200 ≤ s.tb + dt) →
    (1 < i ∧ v < 2) →
    ∃ t, exec (.lvPresenceTestComplete dt v i) s = .next t ∧
      t.nat Od.LV_LV_STATE = 10 ∧
      t.bit Od.LV_LV_STATUS 1 = false) ∧
  (∀ (s : State) (dt : Nat) (v i : Rat),
    (s.nat Od.LV_LV_STATE = 1 ∧ s.path.testing = true ∧ s.path.testTb + ms 200 ≤ s.tb + dt) →
    (1 / 10 ≤ i ∧ (i ≤ 1 ∨ 2 ≤ v)) →
    ∃ t, exec (.lvPresenceTestComplete dt v i) s = .next t ∧
      t.nat Od.LV_LV_STATE = 2 ∧
      t.bit Od.LV_LV_STATUS 1 = true) ∧
  (∀ (s : State) (dt : Nat) (who : Requester),
    s.accepts dt who Od.LV_LV_ACK .operator = true →
    (s.nat Od.LV_LV_STATE = 10 ∨ s.nat Od.LV_LV_STATE = 11) →
    ∃ t, exec (.lvAckWrite dt who 1) s = .next t ∧
      t.nat Od.LV_LV_STATE = 1 ∧
      t.batTripped = false ∧
      t.answered who = true) ∧
  (∀ (s : State) (dt : Nat) (i : Rat),
    (s.batSw ≠ 0 ∧ 450 < |i|) →
    (heldFor s.path.ocTb (ms 10) (s.tb + dt) = true ∨ 800 < |i|) →
    ∃ t, exec (.batterySwitchOvercurrent dt i) s = .next t ∧
      t.batSw = 0 ∧
      t.batTripped = true ∧
      t.num Od.LV_I_BAT = i) ∧
  (∀ (s : State) (dt : Nat),
    s.vrSource = 3 →
    s.path.handTb + ms 50 ≤ s.tb + dt →
    ∃ t, exec (.handoverSwitchOn dt) s = .next t ∧
      t.vrSource = 2 ∧
      (t.batSw = if s.batSw = 0 then 0 else 1) ∧
      t.bit Od.LV_LV_STATUS 5 = true) ∧
  (∀ (s : State) (dt t0 : Nat),
    (s.path.countTb = some t0 ∧ s.bit Od.LV_LV_STATUS 5 = true) →
    t0 + ms 200 ≤ s.tb + dt →
    (s.ds .aux = .active ∧ s.auxMode = 1) →
    (s.elapse dt).ibUp = true →
    ∃ t, exec (.handbackCountComplete dt) s = .next t ∧
      t.vrSource = 4 ∧
      t.bit Od.LV_LV_STATUS 5 = false ∧
      t.auxMode = 2) ∧
  (∀ (s : State) (dt : Nat) (who : Requester),
    s.accepts dt who Od.LV_ATTN_CLEAR .operator = true →
    ∃ t, exec (.attnClearWrite dt who 1) s = .next t ∧
      t.bit Od.LV_LV_STATUS 4 = false ∧
      t.nat Od.LV_ATTN_CODE = 0 ∧
      t.answered who = true)

/-- What the service button, the system reset and Peat mode do. States the completion of: svcPressed, svcPressRelease,
svcHold8s, svcHold10s, systemResetRestore, peatCmdWrite, peatEntryComplete, peatWake. -/
def Obligations.ServiceButtonAndPeatComplete : Prop :=
  (∀ (s : State) (dt : Nat),
    s.path.svcTb = none →
    ∃ t, exec (.svcPressed dt) s = .next t ∧
      t.path.svcTb = some (s.tb + dt) ∧
      t.bit Od.LV_LV_STATUS 2 = true) ∧
  (∀ (s : State) (dt : Nat),
    s.path.svcTb.isSome = true →
    1 ≤ s.bringup.step →
    (ms 20 ≤ (s.elapse dt).svcHeld ∧ (s.elapse dt).svcHeld ≤ sec 10) →
    ∃ t, exec (.svcPressRelease dt) s = .next t ∧
      t.path.svcTb = none ∧
      t.bit Od.LV_LV_STATUS 2 = false ∧
      t.nat Od.LV_SVC_LAST_ms = (s.elapse dt).svcHeld / 100000) ∧
  (∀ (s : State) (dt : Nat),
    (1 ≤ s.bringup.step ∧ s.path.svcTb.isSome = true) →
    s.path.svc8 = false →
    sec 8 ≤ (s.elapse dt).svcHeld →
    s.logRoom = true →
    ∃ t, exec (.svcHold8s dt) s = .next t ∧
      t.path.svc8 = true ∧
      t.logged 0x0B16 0x71 8000 = true) ∧
  (∀ (s : State) (dt : Nat),
    s.path.svcTb.isSome = true →
    s.path.svc10 = false →
    sec 10 ≤ (s.elapse dt).svcHeld →
    s.inhibited = false →
    s.bringup.deferredTb = none →
    s.pulseEnd (s.tb + dt) = none →
    ∃ t, exec (.svcHold10s dt) s = .next t ∧
      (t.bringup.step = 0 ∧ t.bringup.resetLatch = true) ∧
      t.bringup.cause = 4) ∧
  (∀ (s : State) (dt t0 : Nat),
    s.path.sysTb = some t0 →
    t0 + sec 2 ≤ s.tb + dt →
    s.bit Od.BKP_BKP15 1 = false →
    ∃ t, exec (.systemResetRestore dt) s = .next t ∧
      t.path.sysTb = none ∧
      (s.batTripped = false → t.batSw = 1 ∧ t.vrSource = 2)) ∧
  (∀ (s : State) (dt : Nat) (who : Requester),
    s.accepts dt who Od.LV_PEAT_CMD .service = true →
    s.bit Od.LV_LV_STATUS 3 = false →
    s.peatAllowed = true →
    ∃ t, exec (.peatCmdWrite dt who 1) s = .next t ∧
      t.bit Od.BKP_BKP15 1 = true ∧
      t.bit Od.LV_LV_STATUS 3 = true ∧
      t.path.peatTb = some (s.tb + dt) ∧
      t.answered who = true) ∧
  (∀ (s : State) (dt : Nat),
    s.path.peatTb.isSome = true →
    ∃ t, exec (.peatEntryComplete dt) s = .next t ∧
      t.path.peat = true ∧
      (t.bringup.step = 0 ∧ t.bringup.resetLatch = true) ∧
      t.nat Od.SUP_ACTIVE_SOURCE = 0) ∧
  (∀ (s : State) (dt : Nat),
    (s.path.peat = true ∧ (s.elapse dt).podlWakes = true) →
    ∃ t, exec (.peatWake dt false) s = .next t ∧
      t.path.peat = false ∧
      t.bit Od.BKP_BKP15 1 = false ∧
      t.bringup.cause = 6) ∧
  (∀ (s : State) (dt : Nat),
    s.path.peat = true →
    sec 1 ≤ (s.elapse dt).svcHeld →
    ∃ t, exec (.peatWake dt true) s = .next t ∧
      t.path.peat = false ∧
      t.bit Od.BKP_BKP15 1 = false ∧
      t.bringup.cause = 5)

/-- What rounds and the coolant monitor do. States the completion of: fenRoundTrigger, fenRoundLate, coolantFlowLow. -/
def Obligations.ThermalCommandsComplete : Prop :=
  (∀ (s : State) (dt : Nat),
    s.dictUp = true →
    (s.elapse dt).roundDue = true →
    ∃ t, exec (.fenRoundTrigger dt) s = .next t ∧
      t.thermal.roundTb = some (s.tb + dt) ∧
      t.thermal.late = false) ∧
  (∀ (s : State) (dt t0 : Nat),
    s.thermal.roundTb = some t0 →
    t0 + ms 10 ≤ s.tb + dt →
    (s.roundComplete = false ∧ s.thermal.late = false) →
    s.nat Od.THM_ROUND_OVERRUNS < 65535 →
    ∃ t, exec (.fenRoundLate dt) s = .next t ∧
      t.bit Od.THM_TH_STATUS 4 = true ∧
      t.thermal.late = true ∧
      t.nat Od.THM_ROUND_OVERRUNS = s.nat Od.THM_ROUND_OVERRUNS + 1) ∧
  (∀ (s : State) (dt : Nat),
    s.ds .aux = .active →
    (s.bit (Od.SEN_SENSOR_STATUS 45) 0 = true ∧ s.bit (Od.SEN_SENSOR_STATUS 44) 0 = true) →
    s.int Od.THM_COOL_DT_MAX < s.int (Od.SEN_TEMP 45) - s.int (Od.SEN_TEMP 44) →
    s.bit Od.THM_TH_STATUS 5 = false →
    heldFor s.thermal.coolTb (sec 1) (s.tb + dt) = true →
    s.logRoom = true →
    ∃ t, exec (.coolantFlowLow dt) s = .next t ∧
      t.bit Od.THM_TH_STATUS 5 = true ∧
      t.newestEvent.map LogEntry.code = some 0x0C0A)

/-- What start-up tests, lane differences, resynchronisation and the safety cycle do. States the completion of:
pyreriStartupTestsComplete, laneDifference, resyncCopyComplete, resyncWindowClose, safetyCycle, cycleWatchdogExpiry,
exchangeStale, tqoReadbackFault. -/
def Obligations.LockstepCommandsComplete : Prop :=
  (∀ (s : State) (dt : Nat),
    (4 ≤ s.bringup.step ∧ s.bringup.startupDone = false ∧ s.diagOnly = false) →
    ∃ t, exec (.pyreriStartupTestsComplete dt 0) s = .next t ∧
      t.nat Od.PYR_STARTUP_RESULT = 2 ^ 15 ∧
      (t.bringup.startupOk = true ∧ t.bringup.startupDone = true) ∧
      t.config = s.nat Od.PYR_CONFIG_BOOT ∧
      t.pyrBit 1 = true) ∧
  (∀ (s : State) (dt : Nat) (f : BitVec 10),
    f ≠ 0 →
    (4 ≤ s.bringup.step ∧ s.bringup.startupDone = false ∧ s.diagOnly = false) →
    ∃ t, exec (.pyreriStartupTestsComplete dt f) s = .next t ∧
      t.nat Od.PYR_STARTUP_RESULT = 2 ^ 15 + f.toNat ∧
      t.pyrBit 2 = true ∧
      (∀ d : Drive, (t.drv d).tqo = true) ∧
      t.config = s.config) ∧
  (∀ (s : State) (dt clk : Nat) (l : Fin 3),
    (s.cycling = true ∧ s.config = 1 ∧ s.pyr.handOver = none) →
    (s.voting l = true ∧ s.pyrBit 8 = false) →
    s.pyr.oddCount.get l < 2 →
    ∃ t, exec (.laneDifference dt (some l) clk) s = .next t ∧
      t.voting l = false ∧
      t.nat Od.PYR_LAST_ODD_CORE = l.val ∧
      t.pyr.rebuild = some (l, .copying) ∧
      t.pyrBit 9 = true) ∧
  (∀ (s : State) (dt clk : Nat) (l : Fin 3),
    (s.cycling = true ∧ s.config = 1 ∧ s.pyr.handOver = none) →
    (s.voting l = true ∧ s.pyrBit 8 = false) →
    s.pyr.oddCount.get l = 2 →
    ∃ t, exec (.laneDifference dt (some l) clk) s = .next t ∧
      t.voting l = false ∧
      t.config = 4 ∧
      t.pyrBit (13 + l.val) = true) ∧
  (∀ (s : State) (dt clk : Nat) (odd : Option (Fin 3)),
    (s.cycling = true ∧ s.pyr.handOver = none) →
    (odd = none ∨ (s.config = 2 ∧ odd = some 0 ∧ s.voting 0 = true)) →
    ∃ t, exec (.laneDifference dt odd clk) s = .next t ∧
      t.pyrBit 5 = true ∧
      (∀ d : Drive, (t.drv d).tqo = true) ∧
      (∀ d : Drive, t.ds d = .unavailable ∨ t.ds d = .inhibit)) ∧
  (∀ (s : State) (dt : Nat) (l : Fin 3),
    s.pyr.rebuild = some (l, .copying) →
    s.pyr.copyTb + copyTicks ≤ s.tb + dt →
    ∃ t, exec (.resyncCopyComplete dt) s = .next t ∧
      t.pyr.rebuild = some (l, .waiting)) ∧
  (∀ (s : State) (dt e : Nat),
    (s.pyr.windowEnd = some e ∧ e ≤ s.tb + dt) →
    ∃ t, exec (.resyncWindowClose dt) s = .next t ∧
      t.pyr.windowEnd = none ∧
      t.pyrBit 8 = false) ∧
  (∀ (s : State) (dt : Nat) (x : CycleInputs) (l : Vector SetLatch 4) (i : BitVec 8),
    s.cycling = true →
    s.pyr.due ≤ s.tb + dt →
    (x.lanes = Vector.replicate 3 l ∧ x.si = Vector.replicate 3 i ∧ x.rejects = []) →
    ∃ t, exec (.safetyCycle dt x) s = .next t ∧
      t.pyr.t0 = s.tb + dt ∧
      t.pyr.due = ((s.tb + dt) / s.cyclePeriod + 1) * s.cyclePeriod ∧
      t.nat Od.PYR_CYCLES = s.nat Od.PYR_CYCLES + 1) ∧
  (∀ (s : State) (dt : Nat),
    s.cycling = true →
    s.pyr.due + 5 * s.cyclePeriod / 4 ≤ s.tb + dt →
    ∃ t, exec (.cycleWatchdogExpiry dt) s = .next t ∧
      (t.pyrBit 6 = true ∧ t.pyrBit 5 = true) ∧
      (∀ d : Drive, (t.drv d).tqo = true)) ∧
  (∀ (s : State) (dt : Nat),
    s.cycling = true →
    s.pyr.exch.tb + us (s.nat Od.PP_EXCH_AGE_MAX_us) < s.tb + dt →
    ∃ t, exec (.exchangeStale dt) s = .next t ∧
      t.pyrBit 18 = true ∧
      (∀ d : Drive, (s.safe d).slt = true → (s.safe d).stale = false → (t.drv d).tqo = true)) ∧
  (∀ (s : State) (dt : Nat) (d : Drive) (ch : BitVec 2) (c : Fin 2) (t0 : Nat),
    (ch.getLsbD c = true ∧ (s.safe d).rbTb.get c = some t0) →
    t0 + us 100 ≤ s.tb + dt →
    (s.safe d).rbHeld = 0 →
    ∃ t, exec (.tqoReadbackFault dt d ch) s = .next t ∧
      t.pyrBit 7 = true ∧
      (t.safe d).rbHeld.testBit c = true ∧
      (t.drv d).tqo = true ∧
      (t.ds d = .unavailable ∨ t.ds d = .inhibit))

/-- What CONFIG_REQ does. States the completion of: configReqTriple, configReqPair, configReqSplit, configReqLeaveSplit. -/
def Obligations.ConfigurationCommandsComplete : Prop :=
  (∀ (s : State) (dt : Nat) (who : Requester),
    s.accepts dt who Od.PYR_CONFIG_REQ .safety = true →
    s.configRefused 1 = false →
    ∃ t, exec (.configReqTriple dt who) s = .next t ∧
      t.pyr.handOver = some .copying ∧
      (t.pyrBit 16 = true ∧ t.pyrBit 17 = false) ∧
      t.config = s.config ∧
      t.answered who = true) ∧
  (∀ (s : State) (dt : Nat) (who : Requester),
    s.accepts dt who Od.PYR_CONFIG_REQ .safety = true →
    s.configRefused 2 = false →
    ∃ t, exec (.configReqPair dt who) s = .next t ∧
      t.pyr.handOver = some .toPair ∧
      t.pyrBit 16 = true ∧
      t.config = s.config ∧
      t.answered who = true) ∧
  (∀ (s : State) (dt : Nat) (who : Requester),
    s.accepts dt who Od.PYR_CONFIG_REQ .safety = true →
    s.configRefused 3 = false →
    (∀ d ∈ Drive.all, s.ds d = .unavailable ∨ s.ds d = .standby ∨ s.ds d = .inhibit) →
    ∃ t, exec (.configReqSplit dt who) s = .next t ∧
      t.config = 3 ∧
      t.pyrBit 19 = true ∧
      (∀ d : Drive, (t.drv d).tqo = true) ∧
      t.answered who = true) ∧
  (∀ (s : State) (dt : Nat) (who : Requester),
    s.accepts dt who Od.PYR_CONFIG_REQ .safety = true →
    (s.configBusy = false ∧ s.config = 3) →
    ∃ t, exec (.configReqLeaveSplit dt who) s = .next t ∧
      t.config = 0 ∧
      t.pyr.retest = true ∧
      (t.pyrBit 1 = false ∧ t.pyrBit 2 = false) ∧
      t.answered who = true)

/-- What safety inputs, test pulses, releases and outputs do. States the completion of: safetyInputChange,
inputPairDiscrepancy, testPulse, releasePairOverhold, safeReleaseWrite, sorrelPulse, soCurrentLimitOff. -/
def Obligations.SafetyInputCommandsComplete : Prop :=
  (∀ (s : State) (dt : Nat) (ch : Fin 8) (high : Bool),
    (s.safety.siRaw.get ch).1 ≠ high →
    0 < s.nat (Od.PAIR_FILTER_ms (ch.val / 2)) →
    ∃ t, exec (.safetyInputChange dt ch high) s = .next t ∧
      t.safety.siRaw.get ch = (high, s.tb + dt) ∧
      t.siHigh ch = s.siHigh ch) ∧
  (∀ (s : State) (dt t0 : Nat) (ch : Fin 8) (high : Bool),
    s.safety.siRaw.get ch = (high, t0) →
    t0 + ms (s.nat (Od.PAIR_FILTER_ms (ch.val / 2))) ≤ s.tb + dt →
    (s.cycling = false ∨ s.nat (Od.PAIR_PAIR_FUNC (ch.val / 2)) ≠ 6) →
    ∃ t, exec (.safetyInputChange dt ch high) s = .next t ∧
      t.siHigh ch = high ∧
      (∀ d : Drive, (t.safe d).sto = (s.safe d).sto)) ∧
  (∀ (s : State) (dt t0 : Nat) (k : Fin 4),
    ((s.pair k).discTb = some t0 ∧ (s.pair k).fault = false) →
    t0 + ms (s.nat (Od.PAIR_DISC_ms k)) ≤ s.tb + dt →
    s.nat (Od.PAIR_PAIR_FAULTS k) < 65535 →
    ∃ t, exec (.inputPairDiscrepancy dt k) s = .next t ∧
      (t.pair k).fault = true ∧
      t.nat (Od.PAIR_PAIR_FAULTS k) = s.nat (Od.PAIR_PAIR_FAULTS k) + 1 ∧
      (t.nat (Od.PAIR_PAIR_STATE k) = if s.nat (Od.PAIR_PAIR_MODE k) = 0 then 0 else 4)) ∧
  (∀ (s : State) (dt : Nat) (o : Fin 2) (low : BitVec 8),
    s.cycling = true →
    (∀ k : Fin 4, s.flag (Od.PAIR_TEST_PULSE k) = false) →
    ∃ t, exec (.testPulse dt o low) s = .next t ∧
      t.out = [.testPulse o] ∧
      (∀ k : Fin 4, t.pair k = s.pair k)) ∧
  (∀ (s : State) (dt : Nat),
    s.cycling = true →
    (s.nat (Od.PAIR_PAIR_MODE 0) = 1 ∧ s.flag (Od.PAIR_TEST_PULSE 0) = true) →
    ((s.pair 0).ownFails[0] = 1 ∧ (s.pair 0).fault = false) →
    ∃ t, exec (.testPulse dt 0 0xFE) s = .next t ∧
      (t.pair 0).fault = true) ∧
  (∀ (s : State) (dt t0 : Nat) (k : Fin 4),
    ((s.pair k).runTb = some t0 ∧ (s.pair k).overheld = false) →
    s.nat (Od.PAIR_PAIR_FUNC k) = 6 →
    t0 + sec 5 < s.tb + dt →
    s.logRoom = true →
    ∃ t, exec (.releasePairOverhold dt k) s = .next t ∧
      (t.pair k).overheld = true ∧
      t.newestEvent.map LogEntry.code = some 0x0E0F) ∧
  (∀ (s : State) (dt : Nat) (who : Requester) (m : BitVec 8),
    s.accepts dt who Od.SFS_SAFE_RELEASE .safety = true →
    (m.toNat < 64 ∧ m ≠ 0) →
    (∀ d ∈ Drive.all, s.releaseBlocked d = false) →
    ∃ t, exec (.safeReleaseWrite dt who m) s = .next t ∧
      (∀ d ∈ maskDrives m.toNat, (t.drv d).tqo = false ∧ (t.safe d).sto = false) ∧
      (∀ d ∈ maskDrives m.toNat, s.ds d = .inhibit → t.ds d = .standby) ∧
      t.answered who = true) ∧
  (∀ (s : State) (dt : Nat) (who : Requester) (m : BitVec 8),
    s.accepts dt who Od.SFS_SAFE_RELEASE .safety = true →
    64 ≤ m.toNat →
    ∃ t, exec (.safeReleaseWrite dt who m) s = .next t ∧
      t.refusedWith who 0x06090030 = true ∧
      (∀ d : Drive, t.drv d = s.drv d)) ∧
  (∀ (s : State) (dt : Nat) (k : Fin 4) (v : Rat),
    ((s.sout k).on = true ∧ s.flag (Od.SO_SORREL_EN k) = true ∧ s.cycling = true) →
    (s.tb + dt - ms (25 * k.val)) / ms 100 + 1 ≠ (s.sout k).pulseNo →
    5 ≤ v →
    ((s.sout k).pulses = 1 ∧ (s.sout k).fault = false) →
    ∃ t, exec (.sorrelPulse dt k v) s = .next t ∧
      (t.sout k).fault = true ∧
      (t.sout k).on = false ∧
      (∀ d ∈ maskDrives (s.nat (Od.SO_SO_DRIVES k)), (t.drv d).tqo = true)) ∧
  (∀ (s : State) (dt : Nat) (k : Fin 4) (v : Rat),
    ((s.sout k).on = true ∧ s.flag (Od.SO_SORREL_EN k) = true ∧ s.cycling = true) →
    (s.tb + dt - ms (25 * k.val)) / ms 100 + 1 ≠ (s.sout k).pulseNo →
    v < 5 →
    ∃ t, exec (.sorrelPulse dt k v) s = .next t ∧
      (t.sout k).pulses = 0 ∧
      (t.sout k).on = true ∧
      (t.sout k).pulseNo = (s.tb + dt - ms (25 * k.val)) / ms 100 + 1) ∧
  (∀ (s : State) (dt : Nat) (k : Fin 4),
    (s.sout k).on = true →
    ∃ t, exec (.soCurrentLimitOff dt k) s = .next t ∧
      (t.sout k).tripped = true ∧
      (t.sout k).on = true)

/-- What the time limits of the safety functions and the safety set's commands do. States the completion of:
ss1TimeExpiry, sltViolation, speedPlausibilityFault, e2GapExpiry, safeParkConfirmTimeout, setEditOpen,
setEditDiscard, setCommit. -/
def Obligations.SafetyFunctionCommandsComplete : Prop :=
  (∀ (s : State) (dt : Nat) (d : Drive) (y : Ss1St),
    ((s.safe d).ss1 = some y ∧ y.park = false) →
    (y.t0 + ms (s.nat (Od.SF_SS1_TIME_ms d.num)) ≤ s.tb + dt ∧ s.cycling = true) →
    ∃ t, exec (.ss1TimeExpiry dt d) s = .next t ∧
      ((t.safe d).sto = true ∧ (t.safe d).ss1Done = true ∧ (t.safe d).ss1 = none) ∧
      (t.drv d).tqo = true ∧
      (t.ds d = .unavailable ∨ t.ds d = .inhibit)) ∧
  (∀ (s : State) (dt b : Nat) (m : Fin 2),
    (s.safe (sideDrive m)).sltTb = some b →
    (b + ms (s.nat (Od.SF_SLT_TIME_ms m)) ≤ s.tb + dt ∧ s.cycling = true) →
    ∃ t, exec (.sltViolation dt m) s = .next t ∧
      (t.safe (sideDrive m)).sto = true ∧
      (t.drv (sideDrive m)).tqo = true) ∧
  (∀ (s : State) (dt b : Nat) (m : Fin 2),
    ((s.safe (sideDrive m)).plausTb = some b ∧ (s.safe (sideDrive m)).plaus = false) →
    (b + ms 20 ≤ s.tb + dt ∧ s.cycling = true) →
    ∃ t, exec (.speedPlausibilityFault dt m) s = .next t ∧
      ((t.safe (sideDrive m)).sto = true ∧ (t.safe (sideDrive m)).plaus = true) ∧
      (t.drv (sideDrive m)).tqo = true) ∧
  (∀ (s : State) (dt b : Nat) (m : Fin 2),
    (s.safe (sideDrive m)).e2Tb = some b →
    (b + ms (s.nat (Od.SF_E2_GAP_ms m)) ≤ s.tb + dt ∧ s.cycling = true) →
    ∃ t, exec (.e2GapExpiry dt m) s = .next t ∧
      (t.safe (sideDrive m)).sto = true ∧
      (t.drv (sideDrive m)).tqo = true) ∧
  (∀ (s : State) (dt b : Nat),
    s.safety.parkTb = some b →
    b + ms (s.nat Od.SP_SP_CONFIRM_ms) < s.tb + dt →
    s.logRoom = true →
    ∃ t, exec (.safeParkConfirmTimeout dt) s = .next t ∧
      t.safety.parkTb = none ∧
      t.safety.parked = s.safety.parked ∧
      t.newestEvent.map LogEntry.code = some 0x0E08) ∧
  (∀ (s : State) (dt : Nat) (who : Requester),
    s.accepts dt who Od.SET_SET_EDIT .safety = true →
    who ≠ .pyreri →
    ∃ t, exec (.setEditOpen dt who) s = .next t ∧
      (t.sessOf who).staging = some s.activeSet ∧
      t.answered who = true) ∧
  (∀ (s : State) (dt : Nat) (who : Requester),
    s.accepts dt who Od.SET_SET_EDIT .safety = true →
    who ≠ .pyreri →
    ∃ t, exec (.setEditDiscard dt who) s = .next t ∧
      (t.sessOf who).staging = none ∧
      t.answered who = true) ∧
  (∀ (s : State) (dt : Nat) (who : Requester) (l : List (Nat × Val)),
    s.accepts dt who Od.SET_SET_COMMIT .safety = true →
    ((s.sessOf who).staging = some l ∧ (s.sessOf who).setCrc = some (setCrc (stagedVal l))) →
    s.setCheck (stagedVal l) = 0 →
    (∀ d ∈ Drive.all, s.ds d ≠ .armed ∧ s.ds d ≠ .active ∧ s.ds d ≠ .stopping) →
    s.nat Od.SET_SET_COMMITS < 65535 →
    ∃ t, exec (.setCommit dt who true) s = .next t ∧
      t.safety.newSet = some (l, 2) ∧
      t.nat Od.SET_SET_REJECT = 0 ∧
      t.nat Od.SET_SET_COMMITS = s.nat Od.SET_SET_COMMITS + 1 ∧
      (t.sessOf who).staging = none ∧
      t.answered who = true) ∧
  (∀ (s : State) (dt : Nat) (who : Requester) (l : List (Nat × Val)) (ok : Bool),
    s.accepts dt who Od.SET_SET_COMMIT .safety = true →
    ((s.sessOf who).staging = some l ∧ (s.sessOf who).setCrc ≠ some (setCrc (stagedVal l))) →
    (∀ d ∈ Drive.all, s.ds d ≠ .armed ∧ s.ds d ≠ .active ∧ s.ds d ≠ .stopping) →
    ∃ t, exec (.setCommit dt who ok) s = .next t ∧
      t.safety.newSet = s.safety.newSet ∧
      t.nat Od.SET_SET_REJECT = 1)

/-- What received, echoed and produced safe frames and a connection's watchdog do. States the completion of:
hsfDataFrameReceive, hsfEchoReceive, hsfProducerSend, hsfWatchdog, hsfProducerRestart. -/
def Obligations.SafeFrameCommandsComplete : Prop :=
  (∀ (s : State) (dt : Nat) (k : Fin 16) (data : List Byte),
    (s.nat (Od.HSF_CONN_ROLE k) = 1 ∧ s.connState k ≠ 0) →
    ∃ t, exec (.hsfDataFrameReceive dt k data) s = .next t ∧
      ((s.conn k).buffer.length ≤ 8 → (t.conn k).buffer.length = min 8 ((s.conn k).buffer.length + 1)) ∧
      (t.conn k).buffer.getLast?.map Prod.fst = some data ∧
      t.connState k = s.connState k) ∧
  (∀ (s : State) (dt : Nat) (k : Fin 16) (data : List Byte),
    (s.nat (Od.HSF_CONN_ROLE k) ≠ 1 ∨ s.connState k = 0) →
    ∃ t, exec (.hsfDataFrameReceive dt k data) s = .next t ∧
      t.conn k = s.conn k) ∧
  (∀ (s : State) (dt : Nat) (k : Fin 16) (data payload : List Byte) (q p : Nat) (e : Nat × Nat),
    (s.nat (Od.HSF_CONN_ROLE k) = 2 ∧ s.nat (Od.HSF_TIME_MODE k) = 1) →
    (s.connState k = 1 ∨ s.connState k = 2) →
    s.hsfCheck k true data = .good q p payload →
    ((s.conn k).sent.find? (fun e => e.1 == fieldLe payload 0 2) = some e) →
    s.tb + dt - e.2 ≤ us (s.nat (Od.HSF_RT_MAX_us k)) →
    ∃ t, exec (.hsfEchoReceive dt k data) s = .next t ∧
      t.connState k = 2 ∧
      t.int (Od.HSF_LAST_AGE_us k) = ((s.tb + dt - e.2) / 100 : Nat) ∧
      (t.conn k).wdgTb = s.tb + dt) ∧
  (∀ (s : State) (dt : Nat) (k : Fin 16) (data : List Byte),
    (s.nat (Od.HSF_CONN_ROLE k) = 2 ∧ s.nat (Od.HSF_TIME_MODE k) = 1) →
    (s.connState k = 1 ∨ s.connState k = 2) →
    s.hsfCheck k true data = .crcError →
    s.nat (Od.HSF_CRC_ERRORS k) < 4294967295 →
    ((s.conn k).crcTimes = [] ∧ 1 ≤ s.nat (Od.HSF_CRC_ERR_MAX k)) →
    ∃ t, exec (.hsfEchoReceive dt k data) s = .next t ∧
      t.nat (Od.HSF_CRC_ERRORS k) = s.nat (Od.HSF_CRC_ERRORS k) + 1 ∧
      t.connState k = s.connState k) ∧
  (∀ (s : State) (dt : Nat) (k : Fin 16),
    s.nat (Od.HSF_CONN_ROLE k) = 2 →
    (s.connState k = 1 ∨ s.connState k = 2) →
    (s.conn k).dueTb ≤ s.tb + dt →
    ∃ t, exec (.hsfProducerSend dt k) s = .next t ∧
      (t.conn k).next = nextSeq (s.conn k).next ∧
      t.nat (Od.HSF_LAST_SEQ k) = (s.conn k).next ∧
      (t.conn k).dueTb = ((s.tb + dt) / us (s.nat (Od.HSF_PERIOD_us k)) + 1) * us (s.nat (Od.HSF_PERIOD_us k)) ∧
      (t.connState k = if s.nat (Od.HSF_TIME_MODE k) = 0 then 2 else s.connState k)) ∧
  (∀ (s : State) (dt : Nat) (k : Fin 16),
    s.connState k = 2 →
    (s.conn k).wdgTb + ms (s.nat (Od.HSF_WDG_ms k)) ≤ s.tb + dt →
    ((s.nat (Od.HSF_CONN_ROLE k) = 1 ∧ (s.conn k).buffer = []) ∨ (s.nat (Od.HSF_CONN_ROLE k) = 2 ∧ s.nat
      (Od.HSF_TIME_MODE k) = 1)) →
    ∃ t, exec (.hsfWatchdog dt k) s = .next t ∧
      t.connState k = 3 ∧
      (t.conn k).faultTb = s.tb + dt) ∧
  (∀ (s : State) (dt : Nat) (k : Fin 16),
    (s.nat (Od.HSF_CONN_ROLE k) = 2 ∧ s.connState k = 3) →
    (s.conn k).faultTb + ms 100 ≤ s.tb + dt →
    ∃ t, exec (.hsfProducerRestart dt k) s = .next t ∧
      t.connState k = 1 ∧
      ((t.conn k).next = 0 ∧ (t.conn k).sent = []))

/-- What START and DATA of the check-value units do, and when a unit is released. States the completion of:
crcStartWrite, crcDataWrite, crcBindingTimeout. -/
def Obligations.CrcUnitCommandsComplete : Prop :=
  (∀ (s : State) (dt : Nat) (who : Requester) (n : Fin 4),
    s.accepts dt who (Od.CRC_START n) .operator = true →
    s.crcBusy who n = false →
    ∃ t, exec (.crcStartWrite dt who n) s = .next t ∧
      (t.crcUnit n).bound = some (who, s.tb + dt) ∧
      (t.crcUnit n).reg = crcBytes (s.crcCfg n) ((s.crcCfg n).init % 2 ^ (s.crcCfg n).width) (natLe (s.field
        (Od.CRC_CRC_CTRL n) 4 4) (s.nat (Od.CRC_FOLD_VALUE n))) ∧
      t.nat (Od.CRC_BYTES n) = 0 ∧
      t.answered who = true) ∧
  (∀ (s : State) (dt : Nat) (who : Requester) (n : Fin 4),
    s.accepts dt who (Od.CRC_START n) .operator = true →
    s.crcBusy who n = true →
    ∃ t, exec (.crcStartWrite dt who n) s = .next t ∧
      t.refusedWith who 0x08000022 = true ∧
      t.crcs = s.crcs) ∧
  (∀ (s : State) (dt : Nat) (who : Requester) (n : Fin 4) (data : List Byte),
    s.accepts dt who (Od.CRC_DATA n) .operator = true →
    s.crcBusy who n = false →
    (1 ≤ data.length ∧ data.length ≤ 256) →
    s.nat (Od.CRC_BYTES n) + data.length < 2 ^ 32 →
    ∃ t, exec (.crcDataWrite dt who n data) s = .next t ∧
      (t.crcUnit n).reg = crcBytes (s.crcCfg n) (s.crcUnit n).reg data ∧
      t.nat (Od.CRC_RESULT n) = crcResult (s.crcCfg n) (crcBytes (s.crcCfg n) (s.crcUnit n).reg data) ∧
      t.nat (Od.CRC_BYTES n) = s.nat (Od.CRC_BYTES n) + data.length ∧
      t.answered who = true) ∧
  (∀ (s : State) (dt : Nat) (n : Fin 4) (b : Requester × Nat),
    ((s.crcUnit n).bound = some b ∧ b.2 + ms 1000 ≤ s.tb + dt) →
    ∃ t, exec (.crcBindingTimeout dt n) s = .next t ∧
      (t.crcUnit n).bound = none)

/-- What frames, errors, bus-off and the off-line causes of a CAN channel do. States the completion of: canFrameReceive,
canFrameTransmitComplete, canErrorDetected, canBusOffRecovery, canSlotStale, bridgeRxRead, bridgeTxWrite,
canChannelOffline, canChannelRejoin, canTimestampWrap. -/
def Obligations.CanChannelCommandsComplete : Prop :=
  (∀ (s : State) (dt : Nat) (c : Fin 4) (m : CanMsg) (ago f : Nat),
    (s.busLive c = true ∧ canFormed m = true ∧ (c ≠ 0 ∨ m.fd = false)) →
    (s.matching c m = some f ∧ (s.filter c f).target = 2) →
    (s.chan c).rxq1.length < 64 →
    s.offCause c = false →
    ∃ t, exec (.canFrameReceive dt c m ago) s = .next t ∧
      t.nat (Od.CAN_RX_FRAMES c) = s.nat (Od.CAN_RX_FRAMES c) + 1 ∧
      t.nat (Od.CAN_LAST_RX_TS c) = (s.elapse dt).sofStamp ago ∧
      (t.chan c).rxq1 = (s.chan c).rxq1 ++ [⟨m, f, (s.elapse dt).sofStamp ago⟩]) ∧
  (∀ (s : State) (dt : Nat) (c : Fin 4) (m : CanMsg) (ago : Nat),
    (s.busLive c = true ∧ canFormed m = true ∧ (c ≠ 0 ∨ m.fd = false)) →
    s.matching c m = none →
    s.nat (Od.CAN_UNMATCHED c) < 4294967295 →
    ∃ t, exec (.canFrameReceive dt c m ago) s = .next t ∧
      t.nat (Od.CAN_UNMATCHED c) = s.nat (Od.CAN_UNMATCHED c) + 1 ∧
      t.nat (Od.CAN_RX_FRAMES c) = s.nat (Od.CAN_RX_FRAMES c) + 1) ∧
  (∀ (s : State) (dt ago : Nat) (c : Fin 4) (m : CanMsg) (n : Fin 16),
    s.busLive c = true →
    ((s.chan c).onBus = some n.val ∧ (s.slot c n).msg = some m) →
    ∃ t, exec (.canFrameTransmitComplete dt c ago) s = .next t ∧
      Output.can c m ∈ t.out ∧
      (t.slot c n).msg = none ∧
      t.nat (Od.CAN_TX_FRAMES c) = s.nat (Od.CAN_TX_FRAMES c) + 1) ∧
  (∀ (s : State) (dt : Nat) (c : Fin 4),
    (s.busLive c = true ∧ (s.chan c).restricted = false) →
    (s.chan c).tec + 8 ≤ 255 →
    s.offCause c = false →
    s.nat (Od.CAN_ERR_FRAMES c) < 4294967295 →
    ∃ t, exec (.canErrorDetected dt c .transmit) s = .next t ∧
      (t.chan c).tec = (s.chan c).tec + 8 ∧
      t.nat (Od.CAN_ERR_FRAMES c) = s.nat (Od.CAN_ERR_FRAMES c) + 1 ∧
      (t.chan c).busOff = false) ∧
  (∀ (s : State) (dt : Nat) (c : Fin 4),
    (s.busLive c = true ∧ (s.chan c).restricted = false) →
    255 < (s.chan c).tec + 8 →
    s.nat (Od.CAN_BUS_OFFS c) < 65535 →
    ∃ t, exec (.canErrorDetected dt c .transmit) s = .next t ∧
      ((t.chan c).busOff = true ∧ (t.chan c).onBus = none) ∧
      t.nat (Od.CAN_BUS_OFFS c) = s.nat (Od.CAN_BUS_OFFS c) + 1) ∧
  (∀ (s : State) (dt : Nat) (c : Fin 4),
    (s.elapse dt).busRecoveryDue c = true →
    ∃ t, exec (.canBusOffRecovery dt c) s = .next t ∧
      (t.chan c).busOff = false ∧
      ((t.chan c).tec = 0 ∧ (t.chan c).rxErr = 0)) ∧
  (∀ (s : State) (dt : Nat) (c : Fin 4) (n : Fin 16),
    (s.busLive c = true ∧ (s.chan c).onBus ≠ some n.val) →
    (s.slot c n).isStale (s.tb + dt) = true →
    s.nat (Od.CAN_STALE_DROPS c) < 65535 →
    ∃ t, exec (.canSlotStale dt c n) s = .next t ∧
      (t.slot c n).msg = none ∧
      t.nat (Od.CAN_STALE_DROPS c) = s.nat (Od.CAN_STALE_DROPS c) + 1) ∧
  (∀ (s : State) (dt : Nat) (who : Requester) (c : Fin 4) (e : RxEntry) (l : List RxEntry),
    (s.dictUp = true ∧ s.diagOnly = false ∧ who.sess.isSome = true) →
    (s.begun dt who).walled (Od.CAN_BRIDGE_RX c) = false →
    ((s.chan c).rxq1 = e :: l ∧ e.ofHost = true) →
    ∃ t, exec (.bridgeRxRead dt who c) s = .next t ∧
      t.out = [.response who 0 (bridgeFrame e.msg e.ts)] ∧
      (t.chan c).rxq1 = l) ∧
  (∀ (s : State) (dt : Nat) (who : Requester) (c : Fin 4) (data : List Byte),
    s.accepts dt who (Od.CAN_BRIDGE_TX c) .service = true →
    (9 ≤ data.length ∧ data.length = 9 + leNat ((data.drop 8).take 1)) →
    s.bridgeOk c (bridgeMsg data) = true →
    (s.offCause c = false ∧ (s.chan c).fifo.length < 32) →
    ∃ t, exec (.bridgeTxWrite dt who c data) s = .next t ∧
      (t.chan c).fifo.length = (s.chan c).fifo.length + 1 ∧
      t.answered who = true) ∧
  (∀ (s : State) (dt : Nat) (c : Fin 4),
    ((s.chan c).online = true ∧ s.offCause c = true ∧ (s.chan c).onBus = none) →
    ∃ t, exec (.canChannelOffline dt c) s = .next t ∧
      ((t.chan c).online = false ∧ (t.chan c).onBus = none) ∧
      ((t.chan c).fifo = [] ∧ (t.chan c).rxq0 = [] ∧ (t.chan c).rxq1 = []) ∧
      (∀ n : Fin 16, (t.slot c n).msg = none)) ∧
  (∀ (s : State) (dt : Nat) (c : Fin 4),
    ((s.chan c).online = false ∧ s.offCause c = false) →
    ((s.chan c).clockHold = false ∧ (s.elapse dt).integrated c = true) →
    ∃ t, exec (.canChannelRejoin dt c) s = .next t ∧
      ((t.chan c).online = true ∧ (t.chan c).busOff = false) ∧
      ((t.chan c).tec = 0 ∧ (t.chan c).rxErr = 0)) ∧
  (∀ (s : State) (dt : Nat),
    s.nat Od.TIME_TS_WRAPS < (s.tb + dt) / 2 ^ 32 →
    ∃ t, exec (.canTimestampWrap dt) s = .next t ∧
      t.nat Od.TIME_TS_WRAPS = s.nat Od.TIME_TS_WRAPS + 1)

/-- What references, the take-over and the silence of the time master do. States the completion of: timeReferenceSend,
timeReferenceReceive, timeMasterTakeover, globalTimeSyncLoss. -/
def Obligations.GlobalTimeCommandsComplete : Prop :=
  (∀ (s : State) (dt : Nat),
    s.time.master = true →
    s.time.sentMs ≠ (s.elapse dt).gt / 100000 →
    ∃ t, exec (.timeReferenceSend dt) s = .next t ∧
      t.time.sentMs = (s.elapse dt).gt / 100000 ∧
      t.time.master = true) ∧
  (∀ (s : State) (dt ago : Nat) (data : List Byte),
    data.length = 12 →
    (1 ≤ leNat ((data.drop 8).take 1) ∧ leNat ((data.drop 8).take 1) ≤ 15) →
    s.busLive 1 = true →
    (s.time.master = false ∧ s.time.rank = 0) →
    ∃ t, exec (.timeReferenceReceive dt data ago) s = .next t ∧
      t.nat Od.TIME_REFS = s.nat Od.TIME_REFS + 1 ∧
      t.time.lossTb = s.tb + dt ∧
      (leNat ((data.drop 8).take 1), s.tb + dt) ∈ t.time.heard) ∧
  (∀ (s : State) (dt : Nat),
    (s.time.rank ≠ 0 ∧ s.time.master = false) →
    (s.timeBus = true ∧ s.dictUp = true) →
    s.time.refTb + rankWait s.time.rank ≤ s.tb + dt →
    ∃ t, exec (.timeMasterTakeover dt) s = .next t ∧
      (t.time.master = true ∧ t.time.sync = true) ∧
      t.nat Od.TIME_MASTER_RANK = s.time.rank) ∧
  (∀ (s : State) (dt : Nat),
    (s.time.sync = true ∧ s.time.master = false) →
    s.time.lossTb + ms 5 ≤ s.tb + dt →
    ∃ t, exec (.globalTimeSyncLoss dt) s = .next t ∧
      t.time.sync = false ∧
      t.nat Od.TIME_MASTER_RANK = 0)

/-- What the address claim, commands, requests and status messages of CAN-A do. States the completion of:
addressClaimStart, addressClaimReceive, addressClaimTimer, canACommand, canARequest, canACommandTimeout,
canAStatusSend. -/
def Obligations.CanACommandsComplete : Prop :=
  (∀ (s : State) (dt : Nat),
    (s.busLive 0 = true ∧ s.canA.addr = none ∧ s.canA.cannot = false) →
    ∃ t, exec (.addressClaimStart dt) s = .next t ∧
      t.canA.addr = some (s.nat (Od.CAN_PREF_ADDR 0)) ∧
      t.canA.claimTb = some (s.tb + dt) ∧
      t.canA.name = s.canName) ∧
  (∀ (s : State) (dt : Nat) (src : Byte) (name : BitVec 64),
    (s.busLive 0 = true ∧ s.canA.addr = some src.toNat) →
    s.canA.name < name.toNat →
    ∃ t, exec (.addressClaimReceive dt src name) s = .next t ∧
      (t.canA.addr = s.canA.addr ∧ t.canA.claimTb = s.canA.claimTb)) ∧
  (∀ (s : State) (dt : Nat) (src : Byte) (name : BitVec 64),
    (s.busLive 0 = true ∧ s.canA.addr = some src.toNat) →
    name.toNat < s.canA.name →
    (s.canA.taken = [] ∧ src = 0x80) →
    ∃ t, exec (.addressClaimReceive dt src name) s = .next t ∧
      t.canA.addr = some 0x81 ∧
      t.canA.claimTb = some (s.tb + dt)) ∧
  (∀ (s : State) (dt a t0 : Nat),
    (s.canA.addr = some a ∧ s.canA.claimTb = some t0) →
    t0 + ms 250 ≤ s.tb + dt →
    ∃ t, exec (.addressClaimTimer dt) s = .next t ∧
      t.addrOk = true ∧
      t.canA.addr = some a) ∧
  (∀ (s : State) (dt : Nat) (dest : Byte) (data : List Byte),
    (s.busLive 0 = true ∧ s.addrOk = true ∧ s.canA.addr = some dest.toNat) →
    data.length ≠ 8 →
    s.nat (Od.CAN_A_REJECTS 0) < 65535 →
    ∃ t, exec (.canACommand dt dest data) s = .next t ∧
      t.nat (Od.CAN_A_REJECTS 0) = s.nat (Od.CAN_A_REJECTS 0) + 1) ∧
  (∀ (s : State) (dt : Nat) (dest : Byte) (a b c d e f g : Byte),
    (s.busLive 0 = true ∧ s.addrOk = true ∧ s.canA.addr = some dest.toNat) →
    s.canA.alive = [] →
    ∃ t, exec (.canACommand dt dest [1, a, b, c, d, e, f, g]) s = .next t ∧
      (t.canA.cmdTb = s.tb + dt ∧ t.canA.lost = false) ∧
      t.canA.alive = [(1, g.toNat % 16)]) ∧
  (∀ (s : State) (dt a : Nat) (src : Byte),
    (s.busLive 0 = true ∧ s.offCause 0 = false) →
    s.canA.addr = some a →
    (s.slot 0 8).msg = none →
    ∃ t, exec (.canARequest dt 0xFF 0xEE00 src) s = .next t ∧
      (t.slot 0 8).msg = some (isoMsg 6 0xEEFF a (natLe 8 s.canA.name))) ∧
  (∀ (s : State) (dt : Nat),
    (s.dictUp = true ∧ s.canA.lost = false) →
    s.canA.cmdTb + ms (s.nat (Od.CAN_A_CMD_TIMEOUT_ms 0)) ≤ s.tb + dt →
    ∃ t, exec (.canACommandTimeout dt) s = .next t ∧
      t.canA.lost = true) ∧
  (∀ (s : State) (dt : Nat),
    (s.addrOk = true ∧ s.busLive 0 = true) →
    s.canA.dueTb ≤ s.tb + dt →
    ∃ t, exec (.canAStatusSend dt) s = .next t ∧
      t.canA.dueTb = s.tb + dt + ms (s.nat (Od.CAN_STATUS_PERIOD_ms 0)))

/-- What reads and writes of objects over the SDO server, the service protocol and the registers do. States the
completion of: registerWrite, sdoRequest, sdoTimeout, hspRead, hspWrite, hspClose, hspKeepalive, hspInvalidOp. -/
def Obligations.ObjectAccessCommandsComplete : Prop :=
  (∀ (s : State) (dt : Nat) (who : Requester) (index : BitVec 16) (sub : BitVec 8) (data : List Byte) (r : DictRow) (v :
      Val),
    s.writeCheck who index.toNat sub.toNat data = .ok (r, v) →
    s.accessOf who index.toNat sub.toNat r ≠ .safe →
    s.accepts dt who (s.objKey who index.toNat sub.toNat) (writeRole (s.accessOf who index.toNat sub.toNat r)
      index.toNat sub.toNat) = true →
    (s.begun dt who).storesPlainly who index.toNat sub.toNat v data = true →
    ∃ t, exec (.registerWrite dt who index sub data) s = .next t ∧
      t.get (s.objKey who index.toNat sub.toNat) = v ∧
      t.answered who = true) ∧
  (∀ (s : State) (dt code : Nat) (who : Requester) (index : BitVec 16) (sub : BitVec 8) (data : List Byte),
    s.writeCheck who index.toNat sub.toNat data = .error code →
    (s.dictUp = true ∧ who ≠ .canA) →
    ∃ t, exec (.registerWrite dt who index sub data) s = .next t ∧
      t.refusedWith who code = true ∧
      s.sameBut t [Od.SVC_REQUESTS]) ∧
  (∀ (s : State) (dt : Nat) (index : BitVec 16) (sub : BitVec 8) (data : List Byte) (r : DictRow) (v : Val),
    s.busLive 3 = true →
    s.writeCheck .canD index.toNat sub.toNat data = .ok (r, v) →
    s.accessOf .canD index.toNat sub.toNat r ≠ .safe →
    s.accepts dt .canD (s.objKey .canD index.toNat sub.toNat) (writeRole (s.accessOf .canD index.toNat sub.toNat r)
      index.toNat sub.toNat) = true →
    (s.begun dt .canD).storesPlainly .canD index.toNat sub.toNat v data = true →
    ∃ t, exec (.sdoRequest dt (.download index sub data)) s = .next t ∧
      t.get (s.objKey .canD index.toNat sub.toNat) = v ∧
      t.answered .canD = true) ∧
  (∀ (s : State) (dt : Nat) (index : BitVec 16) (sub : BitVec 8) (r : DictRow),
    (s.busLive 3 = true ∧ s.dictUp = true ∧ s.diagOnly = false) →
    objRow index.toNat sub.toNat = .ok r →
    ((s.begun dt .canD).modSdo none).readsPlainly .canD index.toNat sub.toNat r = true →
    s.walled (s.objKey .canD index.toNat sub.toNat) = false →
    (encodeVal r.ty ((s.begun dt .canD).get (s.objKey .canD index.toNat sub.toNat))).length ≤ 4 →
    ∃ t, exec (.sdoRequest dt (.upload index sub)) s = .next t ∧
      t.out = [.response .canD 0 (encodeVal r.ty (t.get (s.objKey .canD index.toNat sub.toNat)))]) ∧
  (∀ (s : State) (dt : Nat) (index : BitVec 16) (sub : BitVec 8),
    (s.busLive 3 = true ∧ s.dictUp = true) →
    ∃ t, exec (.sdoRequest dt (.downloadStart index sub)) s = .next t ∧
      t.out = [.response .canD 0 []] ∧
      (t.sessOf .canD).sdo.map SdoSt.key = some (256 * index.toNat + sub.toNat)) ∧
  (∀ (s : State) (dt : Nat) (x : SdoSt),
    (s.sessOf .canD).sdo = some x →
    x.lastTb + ms (s.nat Od.SVC_SDO_TIMEOUT_ms) ≤ s.tb + dt →
    ∃ t, exec (.sdoTimeout dt) s = .next t ∧
      (t.sessOf .canD).sdo = none ∧
      t.out = [.response .canD 0x05040000 []]) ∧
  (∀ (s : State) (dt : Nat) (i : Fin 4) (ip : BitVec 32) (port : BitVec 16) (dg : List Byte) (r : DictRow),
    s.hspReaches i ip.toNat port.toNat dg = true →
    dgField dg 1 1 = 1 →
    objRow (hspIndex dg) (hspSub dg) = .ok r →
    ((s.elapse dt).ethReceived.touch (.eth i)).readsPlainly (.eth i) (hspIndex dg) (hspSub dg) r = true →
    s.walled (s.objKey (.eth i) (hspIndex dg) (hspSub dg)) = false →
    s.objKey (.eth i) (hspIndex dg) (hspSub dg) ≠ Od.ETH_TX_FRAMES →
    ∃ t, exec (.hspRead dt ip port dg) s = .next t ∧
      t.out = [.udp 47810 ip.toNat port.toNat (hspResponse dg 0 (encodeVal r.ty (t.get (s.objKey (.eth i) (hspIndex
        dg) (hspSub dg)))))]) ∧
  (∀ (s : State) (dt : Nat) (i : Fin 4) (ip : BitVec 32) (port : BitVec 16) (dg : List Byte) (r : DictRow) (v : Val),
    s.hspReaches i ip.toNat port.toNat dg = true →
    dgField dg 1 1 = 2 →
    s.writeCheck (.eth i) (hspIndex dg) (hspSub dg) (dg.drop 16) = .ok (r, v) →
    s.accessOf (.eth i) (hspIndex dg) (hspSub dg) r ≠ .safe →
    s.accepts dt (.eth i) (s.objKey (.eth i) (hspIndex dg) (hspSub dg)) (writeRole (s.accessOf (.eth i) (hspIndex dg)
      (hspSub dg) r) (hspIndex dg) (hspSub dg)) = true →
    ((s.elapse dt).ethReceived.touch (.eth i)).storesPlainly (.eth i) (hspIndex dg) (hspSub dg) v (dg.drop 16) = true
      →
    ∃ t, exec (.hspWrite dt ip port dg) s = .next t ∧
      t.get (s.objKey (.eth i) (hspIndex dg) (hspSub dg)) = v ∧
      t.out = [.udp 47810 ip.toNat port.toNat (hspResponse dg 0 [])]) ∧
  (∀ (s : State) (dt : Nat) (i : Fin 4) (ip : BitVec 32) (port : BitVec 16) (dg : List Byte),
    s.hspReaches i ip.toNat port.toNat dg = true →
    dgField dg 1 1 = 3 →
    ∃ t, exec (.hspClose dt ip port dg) s = .next t ∧
      (t.sessOf (.eth i)).isOpen = false ∧
      t.out = [.udp 47810 ip.toNat port.toNat (hspResponse dg 0 [])]) ∧
  (∀ (s : State) (dt : Nat) (i : Fin 4) (ip : BitVec 32) (port : BitVec 16) (dg : List Byte),
    s.hspReaches i ip.toNat port.toNat dg = true →
    dgField dg 1 1 = 4 →
    ∃ t, exec (.hspKeepalive dt ip port dg) s = .next t ∧
      (t.sessOf (.eth i)).isOpen = true ∧
      (t.sessOf (.eth i)).lastTb = s.tb + dt ∧
      t.out = [.udp 47810 ip.toNat port.toNat (hspResponse dg 0 [])]) ∧
  (∀ (s : State) (dt : Nat) (ip : BitVec 32) (port : BitVec 16) (dg : List Byte),
    (s.sessions.linkUp = true ∧ s.dictUp = true) →
    hspFormed dg = true →
    (dgField dg 1 1 = 0 ∨ 4 < dgField dg 1 1) →
    ∃ t, exec (.hspInvalidOp dt ip port (.datagram dg)) s = .next t ∧
      t.out = [.udp 47810 ip.toNat port.toNat (hspResponse dg 0x05040001 [])] ∧
      t.sessions = s.sessions) ∧
  (∀ (s : State) (dt : Nat) (mac : BitVec 48) (ip target : BitVec 32) (port : BitVec 16),
    (s.sessions.linkUp = true ∧ s.portAnswers = true) →
    target.toNat = s.sessions.ipAddr →
    (s.nat Od.ETH_RX_FRAMES < 4294967295 ∧ s.nat Od.ETH_TX_FRAMES < 4294967295) →
    ∃ t, exec (.hspInvalidOp dt ip port (.arpRequest mac target)) s = .next t ∧
      t.out = [.arpReply mac.toNat ip.toNat] ∧
      (t.nat Od.ETH_RX_FRAMES = s.nat Od.ETH_RX_FRAMES + 1 ∧ t.nat Od.ETH_TX_FRAMES = s.nat Od.ETH_TX_FRAMES + 1)) ∧
  (∀ (s : State) (dt : Nat) (ip target : BitVec 32) (port : BitVec 16) (data : List Byte),
    (s.sessions.linkUp = true ∧ s.portAnswers = true) →
    target.toNat = s.sessions.ipAddr →
    ∃ t, exec (.hspInvalidOp dt ip port (.echoRequest target data)) s = .next t ∧
      t.out = [.echoReply ip.toNat data]) ∧
  (∀ (s : State) (dt : Nat) (ip : BitVec 32) (port : BitVec 16),
    s.sessions.linkUp = true →
    (s.nat Od.ETH_RX_FRAMES < 4294967295 ∧ s.nat Od.ETH_RX_DISCARDED < 4294967295) →
    ∃ t, exec (.hspInvalidOp dt ip port .other) s = .next t ∧
      t.out = [] ∧
      (t.nat Od.ETH_RX_FRAMES = s.nat Od.ETH_RX_FRAMES + 1 ∧ t.nat Od.ETH_RX_DISCARDED = s.nat Od.ETH_RX_DISCARDED +
        1)) ∧
  (∀ (s : State) (dt : Nat) (ip : BitVec 32) (port : BitVec 16),
    s.sessions.linkUp = true →
    s.nat Od.ETH_RX_ERRORS < 4294967295 →
    ∃ t, exec (.hspInvalidOp dt ip port .damaged) s = .next t ∧
      t.nat Od.ETH_RX_ERRORS = s.nat Od.ETH_RX_ERRORS + 1 ∧
      t.nat Od.ETH_RX_FRAMES = s.nat Od.ETH_RX_FRAMES)

/-- What authentication, keys, owners and the ends of sessions do. States the completion of: authOpenWrite,
authResponseWrite, nonceExpiry, authLockExpiry, keyWrite, sessionCloseWrite, sessionIdleTimeout, ethernetLinkDown,
ethernetLinkUp, ownerWrite. -/
def Obligations.SessionCommandsComplete : Prop :=
  (∀ (s : State) (dt : Nat) (who : Requester) (data : List Byte),
    s.accepts dt who Od.AUTH_AUTH_OPEN .operator = true →
    (data.length = 5 ∧ leNat (data.drop 4) = 1) →
    (s.pathLocked who = false ∧ who ≠ .pyreri) →
    ∃ t, exec (.authOpenWrite dt who data) s = .next t ∧
      (t.sessOf who).clientId = leNat (data.take 4) ∧
      (t.sessOf who).reqRole = 1 ∧
      (t.sessOf who).nonce = some ((Config.freeBytes s.fresh 16).take 16, s.tb + dt) ∧
      t.answered who = true) ∧
  (∀ (s : State) (dt : Nat) (who : Requester) (data : List Byte),
    s.accepts dt who Od.AUTH_AUTH_RESPONSE .operator = true →
    (data.length = 16 ∧ (s.sessOf who).reqRole = 1) →
    (s.pathLocked who = false ∧ who ≠ .pyreri) →
    (s.elapse dt).expectedResponse who = some data →
    ∃ t, exec (.authResponseWrite dt who data) s = .next t ∧
      (t.sessOf who).role = .service ∧
      (t.sessOf who).nonce = none ∧
      t.answered who = true) ∧
  (∀ (s : State) (dt : Nat) (who : Requester) (data : List Byte),
    s.accepts dt who Od.AUTH_AUTH_RESPONSE .operator = true →
    (data.length = 16 ∧ (s.sessOf who).reqRole ≠ 2) →
    (s.pathLocked who = false ∧ who ≠ .pyreri) →
    (s.sessOf who).nonce = none →
    s.nat Od.AUTH_AUTH_FAILS < 4294967295 →
    ∃ t, exec (.authResponseWrite dt who data) s = .next t ∧
      (t.sessOf who).role = (s.sessOf who).role ∧
      (t.sessOf who).nonce = none ∧
      t.nat Od.AUTH_AUTH_FAILS = s.nat Od.AUTH_AUTH_FAILS + 1 ∧
      t.answered who = true) ∧
  (∀ (s : State) (dt : Nat) (i : Fin 5) (n : List Byte × Nat),
    ((s.sessions.table.get i).nonce = some n ∧ n.2 + sec 10 ≤ s.tb + dt) →
    ∃ t, exec (.nonceExpiry dt i) s = .next t ∧
      (t.sessions.table.get i).nonce = none) ∧
  (∀ (s : State) (dt e : Nat) (can : Bool),
    ((s.pathOf can).lockEnd = some e ∧ e ≤ s.tb + dt) →
    ∃ t, exec (.authLockExpiry dt can) s = .next t ∧
      (t.pathOf can).lockEnd = none ∧
      (t.pathOf can).failRun = 0) ∧
  (∀ (s : State) (dt : Nat) (who : Requester) (data : List Byte),
    s.accepts dt who Od.AUTH_KEY_SAFETY .safety = true →
    data.length = 32 →
    ∃ t, exec (.keyWrite dt who true data) s = .next t ∧
      t.roleKey 2 = data ∧
      t.roleKey 1 = s.roleKey 1 ∧
      t.answered who = true) ∧
  (∀ (s : State) (dt : Nat) (who : Requester) (data : List Byte),
    s.accepts dt who Od.AUTH_KEY_SERVICE .safety = true →
    data.length = 32 →
    ∃ t, exec (.keyWrite dt who false data) s = .next t ∧
      t.roleKey 1 = data ∧
      t.roleKey 2 = s.roleKey 2 ∧
      t.answered who = true) ∧
  (∀ (s : State) (dt : Nat) (who : Requester),
    s.accepts dt who Od.SVC_SESSION_CLOSE .operator = true →
    who ≠ .pyreri →
    ∃ t, exec (.sessionCloseWrite dt who) s = .next t ∧
      ((t.sessOf who).isOpen = false ∧ (t.sessOf who).role = .operator) ∧
      (∀ d : Drive, (s.begun dt who).owns who d = true → t.owner d = 0) ∧
      t.answered who = true) ∧
  (∀ (s : State) (dt : Nat) (i : Fin 5),
    (s.sessions.table.get i).isOpen = true →
    (s.sessions.table.get i).lastTb + sec (s.nat Od.SVC_SESSION_IDLE_s) ≤ s.tb + dt →
    ∃ t, exec (.sessionIdleTimeout dt i) s = .next t ∧
      (t.sessions.table.get i).isOpen = false ∧
      (t.sessions.table.get i).role = .operator) ∧
  (∀ (s : State) (dt : Nat),
    s.sessions.linkUp = true →
    s.nat Od.ETH_LINK_DROPS < 65535 →
    ∃ t, exec (.ethernetLinkDown dt) s = .next t ∧
      t.sessions.linkUp = false ∧
      (∀ i : Fin 4, (t.sessOf (.eth i)).isOpen = false) ∧
      t.nat Od.ETH_LINK_DROPS = s.nat Od.ETH_LINK_DROPS + 1) ∧
  (∀ (s : State) (dt : Nat),
    s.phyReleased = true →
    ∃ t, exec (.ethernetLinkUp dt) s = .next t ∧
      t.sessions.linkUp = true) ∧
  (∀ (s : State) (dt : Nat) (who : Requester) (d : Drive) (code : Byte),
    s.accepts dt who (Od.OWN_OWNER d.num) .service = true →
    (code = 0 ∨ code = 0x10 ∨ code.toNat = (s.begun dt who).codeOf who) →
    ((s.begun dt who).ownerFree who d = true ∧ s.ownersAgree d code.toNat = true) →
    ∃ t, exec (.ownerWrite dt who d code) s = .next t ∧
      t.owner d = code.toNat ∧
      t.answered who = true)

/-- What the event log, EMCY frames, operating times and the heartbeat do. States the completion of: eventLogEntry,
logNextRead, logClearWrite, faultOccClearWrite, operatingTimeSave, emcySend, producerHeartbeat. -/
def Obligations.LogCommandsComplete : Prop :=
  (∀ (s : State) (dt : Nat) (e : LogEntry) (l : List LogEntry),
    (s.log.buffer = e :: l ∧ s.logReady = true) →
    s.log.ring.length < 256 →
    ((s.log.stepTb.all fun e => decide (e + us 10 ≤ s.tb + dt)) = true) →
    ∃ t, exec (.eventLogEntry dt) s = .next t ∧
      t.log.written = s.log.written + 1 ∧
      t.log.ring = (s.log.written + 1, e) :: s.log.ring) ∧
  (∀ (s : State) (dt : Nat) (who : Requester) (e : LogEntry),
    (s.dictUp = true ∧ s.diagOnly = false) →
    (who.sess.isSome = true ∧ (s.sessOf who).isOpen = true) →
    (s.log.ring.find? (fun x => x.1 == (s.sessOf who).logSel) = some ((s.sessOf who).logSel, e)) →
    ∃ t, exec (.logNextRead dt who) s = .next t ∧
      t.out = [.response who 0 (entryBytes e)] ∧
      (t.sessOf who).logSel = (s.sessOf who).logSel + 1) ∧
  (∀ (s : State) (dt : Nat) (who : Requester),
    s.accepts dt who Od.LOG_LOG_CLEAR .service = true →
    ∃ t, exec (.logClearWrite dt who) s = .next t ∧
      t.log.ring = [] ∧
      t.nat Od.LOG_LOG_ACKED = s.log.written ∧
      t.answered who = true) ∧
  (∀ (s : State) (dt : Nat) (who : Requester),
    s.accepts dt who Od.CNT_FAULT_OCC_CLEAR .service = true →
    ∃ t, exec (.faultOccClearWrite dt who) s = .next t ∧
      t.log.faultOcc = [] ∧
      t.answered who = true) ∧
  (∀ (s : State) (dt : Nat),
    s.dictUp = true →
    s.log.timeTb + sec 600 ≤ s.tb + dt →
    ∃ t, exec (.operatingTimeSave dt) s = .next t ∧
      (t.store.operatingTime = t.operatingTime ∧ t.store.activeTime = t.activeTime) ∧
      t.log.timeTb = s.tb + dt) ∧
  (∀ (s : State) (dt : Nat) (f : List Byte) (l : List (List Byte)),
    (s.log.emcy = f :: l ∧ s.log.emcyTb = none) →
    (s.offCause 3 = false ∧ (s.slot 3 8).msg = none) →
    ∃ t, exec (.emcySend dt) s = .next t ∧
      t.log.emcy = l ∧
      t.log.emcyTb = some (s.tb + dt) ∧
      (t.slot 3 8).msg = some ⟨0x80 + s.sessions.nodeId, false, false, false, f⟩) ∧
  (∀ (s : State) (dt : Nat),
    (s.dictUp = true ∧ s.nat Od.COM_HEARTBEAT_TIME ≠ 0) →
    s.log.beatTb + ms (s.nat Od.COM_HEARTBEAT_TIME) ≤ s.tb + dt →
    (s.offCause 3 = false ∧ (s.chan 3).fifo.length < 32) →
    ∃ t, exec (.producerHeartbeat dt) s = .next t ∧
      t.log.beatTb = s.tb + dt ∧
      (t.chan 3).fifo = (s.chan 3).fifo ++ [⟨0x700 + s.sessions.nodeId, false, false, false, [5]⟩])

/-- What the update over TFTP and the rollback do. States the completion of: updateStart, updateAbort, rollbackRequest,
updateEraseComplete, tftpDataReceive, tftpErrorReceive, tftpTimeout, updateVerifyComplete. -/
def Obligations.ImageCommandsComplete : Prop :=
  (∀ (s : State) (dt : Nat) (who : Requester),
    s.accepts dt who Od.IMG_UPD_CMD .service = true →
    (s.updating = false ∧ s.bringup.imageFault = false) →
    (s.nat Od.IMG_TFTP_SERVER ≠ 0 ∧ (s.get Od.IMG_FILE_NAME).toBytes ≠ []) →
    ∃ t, exec (.updateStart dt who) s = .next t ∧
      (t.nat Od.IMG_UPD_STATE = 1 ∧ t.nat Od.IMG_UPD_BYTES = 0) ∧
      t.bank s.target = {} ∧
      t.bank s.img.active = s.bank s.img.active ∧
      t.answered who = true) ∧
  (∀ (s : State) (dt : Nat) (who : Requester),
    s.accepts dt who Od.IMG_UPD_CMD .service = true →
    (s.updating = true ∧ s.img.marker = false) →
    ∃ t, exec (.updateAbort dt who) s = .next t ∧
      (t.nat Od.IMG_UPD_STATE = 6 ∧ t.nat Od.IMG_UPD_RESULT = 8) ∧
      t.bank s.target = {} ∧
      t.answered who = true) ∧
  (∀ (s : State) (dt : Nat) (who : Requester),
    s.accepts dt who Od.IMG_UPD_CMD .service = true →
    s.img.marker = true →
    ∃ t, exec (.updateAbort dt who) s = .next t ∧
      t.img.abort = true ∧
      t.nat Od.IMG_UPD_STATE = s.nat Od.IMG_UPD_STATE ∧
      t.answered who = true) ∧
  (∀ (s : State) (dt : Nat) (who : Requester),
    s.accepts dt who Od.IMG_UPD_CMD .service = true →
    s.updating = false →
    ((s.bank s.target).state = .committed ∧ (s.bank s.target).markers < 64) →
    s.nat Od.IMG_ROLLBACKS < 65535 →
    ∃ t, exec (.rollbackRequest dt who true) s = .next t ∧
      (t.bank s.target).gen = (s.bank s.img.active).gen + 1 ∧
      t.img.active = s.img.active ∧
      t.nat Od.IMG_ROLLBACKS = s.nat Od.IMG_ROLLBACKS + 1 ∧
      t.answered who = true) ∧
  (∀ (s : State) (dt : Nat),
    (s.nat Od.IMG_UPD_STATE = 1 ∧ s.img.tid = none) →
    s.sessions.linkUp = true →
    ∃ t, exec (.updateEraseComplete dt) s = .next t ∧
      t.nat Od.IMG_UPD_STATE = 2 ∧
      (t.bank s.target).state = .erased ∧
      t.out = [.udp 47811 (s.nat Od.IMG_TFTP_SERVER) 69 (rrq (s.get Od.IMG_FILE_NAME).toBytes)]) ∧
  (∀ (s : State) (dt : Nat) (tid block : BitVec 16) (data : List Byte),
    s.transferring = true →
    s.foreignTid tid.toNat = false →
    (data.length = 512 ∧ s.nat Od.IMG_UPD_BYTES + 512 ≤ 6291456) →
    block.toNat = s.nat Od.IMG_UPD_BLOCK + 1 →
    s.bringup.holdupTb = none →
    ∃ t, exec (.tftpDataReceive dt tid block data true) s = .next t ∧
      (t.bank s.target).image = (s.bank s.target).image ++ data ∧
      t.nat Od.IMG_UPD_BLOCK = block.toNat ∧
      t.nat Od.IMG_UPD_BYTES = s.nat Od.IMG_UPD_BYTES + 512 ∧
      t.nat Od.IMG_UPD_STATE = 2 ∧
      t.out = [.udp 47811 (s.nat Od.IMG_TFTP_SERVER) tid.toNat (be16 4 ++ be16 block.toNat)]) ∧
  (∀ (s : State) (dt : Nat) (tid block : BitVec 16) (data : List Byte),
    s.transferring = true →
    s.foreignTid tid.toNat = false →
    (data.length < 512 ∧ s.nat Od.IMG_UPD_BYTES + data.length ≤ 6291456) →
    block.toNat = s.nat Od.IMG_UPD_BLOCK + 1 →
    s.bringup.holdupTb = none →
    ∃ t, exec (.tftpDataReceive dt tid block data true) s = .next t ∧
      (t.bank s.target).image = (s.bank s.target).image ++ data ∧
      t.nat Od.IMG_UPD_STATE = 3) ∧
  (∀ (s : State) (dt : Nat) (tid : BitVec 16),
    s.transferring = true →
    s.foreignTid tid.toNat = false →
    ∃ t, exec (.tftpErrorReceive dt tid) s = .next t ∧
      (t.nat Od.IMG_UPD_STATE = 6 ∧ t.nat Od.IMG_UPD_RESULT = 2) ∧
      t.bank s.target = {}) ∧
  (∀ (s : State) (dt : Nat),
    s.nat Od.IMG_UPD_STATE = 2 →
    s.img.sentTb + ms (s.nat Od.IMG_TFTP_TIMEOUT_ms) ≤ s.tb + dt →
    s.img.resends < s.nat Od.IMG_TFTP_RETRIES →
    ∃ t, exec (.tftpTimeout dt) s = .next t ∧
      t.img.resends = s.img.resends + 1 ∧
      t.img.sentTb = s.tb + dt ∧
      t.nat Od.IMG_UPD_STATE = 2) ∧
  (∀ (s : State) (dt : Nat),
    s.nat Od.IMG_UPD_STATE = 2 →
    s.img.sentTb + ms (s.nat Od.IMG_TFTP_TIMEOUT_ms) ≤ s.tb + dt →
    s.nat Od.IMG_TFTP_RETRIES ≤ s.img.resends →
    ∃ t, exec (.tftpTimeout dt) s = .next t ∧
      (t.nat Od.IMG_UPD_STATE = 6 ∧ t.nat Od.IMG_UPD_RESULT = 3)) ∧
  (∀ (s : State) (dt : Nat),
    (s.nat Od.IMG_UPD_STATE = 3 ∧ s.bringup.holdupTb = none) →
    verifyResult (s.bank s.target).image true = none →
    ∃ t, exec (.updateVerifyComplete dt true true) s = .next t ∧
      t.nat Od.IMG_UPD_STATE = 4 ∧
      (t.bank s.target).state = .verified ∧
      t.img.marker = true) ∧
  (∀ (s : State) (dt : Nat) (readOk : Bool),
    (s.nat Od.IMG_UPD_STATE = 4 ∧ s.pulseEnd (s.tb + dt) = none) →
    s.nat Od.IMG_UPDATES < 4294967295 →
    ∃ t, exec (.updateVerifyComplete dt readOk true) s = .next t ∧
      (t.nat Od.IMG_UPD_STATE = 5 ∧ t.nat Od.IMG_UPD_RESULT = (if s.img.abort then 8 else 1)) ∧
      (t.bank s.target).state = .committed ∧
      (t.bank s.target).gen = (s.bank s.img.active).gen + 1 ∧
      t.nat Od.IMG_UPDATES = s.nat Od.IMG_UPDATES + 1) ∧
  (∀ (s : State) (dt : Nat) (readOk : Bool),
    (s.nat Od.IMG_UPD_STATE = 4 ∧ s.pulseEnd (s.tb + dt) = none) →
    ∃ t, exec (.updateVerifyComplete dt readOk false) s = .next t ∧
      (t.nat Od.IMG_UPD_STATE = 6 ∧ t.nat Od.IMG_UPD_RESULT = 9) ∧
      t.bank s.target = {}) ∧
  (∀ (s : State) (dt r : Nat) (readOk markerOk : Bool),
    (s.nat Od.IMG_UPD_STATE = 3 ∧ s.bringup.holdupTb = none) →
    verifyResult (s.bank s.target).image readOk = some r →
    ∃ t, exec (.updateVerifyComplete dt readOk markerOk) s = .next t ∧
      (t.nat Od.IMG_UPD_STATE = 6 ∧ t.nat Od.IMG_UPD_RESULT = r) ∧
      t.bank s.target = {})

/-- What the commands, rows and reads of the capture do. States the completion of: captureArm, captureForce,
captureStop, captureRow, captureReadData. -/
def Obligations.CaptureCommandsComplete : Prop :=
  (∀ (s : State) (dt : Nat) (who : Requester),
    s.accepts dt who Od.CAP_CAP_CMD .operator = true →
    ∃ t, exec (.captureArm dt who) s = .next t ∧
      (t.capState = if s.nat Od.CAP_CAP_MODE = 1 then 4 else 1) ∧
      (t.cap.rows = [] ∧ t.nat Od.CAP_ROWS_STORED = 0) ∧
      t.answered who = true) ∧
  (∀ (s : State) (dt : Nat) (who : Requester),
    s.accepts dt who Od.CAP_CAP_CMD .operator = true →
    (s.capState = 1 ∧ s.nat Od.CAP_POST_ROWS ≠ 0) →
    ∃ t, exec (.captureForce dt who) s = .next t ∧
      t.capState = 2 ∧
      t.nat Od.CAP_TRIG_TB = s.tb + dt ∧
      t.cap.rows = s.cap.rows.take (s.nat Od.CAP_PRE_ROWS) ∧
      t.answered who = true) ∧
  (∀ (s : State) (dt : Nat) (who : Requester),
    s.accepts dt who Od.CAP_CAP_CMD .operator = true →
    (s.capState = 1 ∨ s.capState = 2 ∨ s.capState = 4) →
    ∃ t, exec (.captureStop dt who) s = .next t ∧
      (t.capState = if s.capState = 4 then 0 else 3) ∧
      (s.capState ≠ 4 → t.nat Od.CAP_ROWS_STORED = s.cap.rows.length) ∧
      t.answered who = true) ∧
  (∀ (s : State) (dt : Nat) (ok : Bool),
    (s.capState = 1 ∧ s.cap.rows = []) →
    (s.tb + dt) % us (s.nat Od.CAP_CAP_PERIOD_us) = 0 →
    (1 ≤ s.nat Od.CAP_CAP_CHANNELS ∧ s.nat Od.CAP_CAP_CHANNELS ≤ 16) →
    ∃ t, exec (.captureRow dt ok) s = .next t ∧
      t.cap.rows = [(s.tb + dt, (s.elapse dt).capRow)] ∧
      t.capState = 1) ∧
  (∀ (s : State) (dt : Nat) (ok : Bool),
    s.capState = 4 →
    (s.tb + dt) % us (s.nat Od.CAP_CAP_PERIOD_us) = 0 →
    s.cap.fill.length + 1 < 1024 / (4 * s.nat Od.CAP_CAP_CHANNELS) →
    ∃ t, exec (.captureRow dt ok) s = .next t ∧
      t.cap.fill = s.cap.fill ++ [(s.tb + dt, (s.elapse dt).capRow)] ∧
      t.cap.rows = s.cap.rows) ∧
  (∀ (s : State) (dt len : Nat) (who : Requester),
    (s.dictUp = true ∧ s.diagOnly = false ∧ who.sess.isSome = true ∧ (s.sessOf who).isOpen = true) →
    (4 ≤ len ∧ len ≤ 1024 ∧ len % 4 = 0) →
    ((s.sessOf who).readOffset % 4 = 0 ∧ (s.sessOf who).readOffset + len ≤ 4 * s.nat Od.CAP_CAP_CHANNELS * s.nat
      Od.CAP_ROWS_STORED) →
    ((s.cap.rows.reverse.flatMap fun r => rowBytes r.2).length = 4 * s.nat Od.CAP_CAP_CHANNELS * s.nat
      Od.CAP_ROWS_STORED) →
    ∃ t, exec (.captureReadData dt who len) s = .next t ∧
      (t.out = [.response who 0 (((s.cap.rows.reverse.flatMap fun r => rowBytes r.2).drop (s.sessOf
        who).readOffset).take len)]) ∧
      (t.sessOf who).readOffset = (s.sessOf who).readOffset + len)

/-- A step runs the command at the front of the queue. -/
def Obligations.AStepRunsTheFront : Prop :=
  ∀ (s : State) (c : Instr) (rest : List Instr), s.pending = c :: rest →
    step s = exec c { s with pending := rest }

/-- With no command waiting the block idles. -/
def Obligations.AnEmptyQueueIdles : Prop :=
  ∀ s : State, s.pending = [] → step s = .next s

/-- The state after reset. -/
def Obligations.TheStateAfterReset : Prop :=
  State.reset.tb = 0 ∧ State.reset.bringup.step = 0 ∧ State.reset.bringup.resetLatch = true ∧
  State.reset.bringup.cause = 1 ∧ (∀ d : Drive, State.reset.ds d = .unavailable ∧ (State.reset.drv d).tqo = true) ∧
  (∀ l : Link, (State.reset.link l).trained = false) ∧ (∀ l : Leg, (State.reset.leg l).level = .off) ∧
  (∀ w : Requester, (State.reset.sessOf w).isOpen = false) ∧ State.reset.log.ring = [] ∧ State.reset.pending = [] ∧
  (∀ a, Memory.read State.reset.cust a = 0) ∧
  State.reset.nat Od.BKP_BKP15 = 1 ∧ (∀ k, k ≠ Od.BKP_BKP15 → State.reset.get k = dictDefault k)

/-- The invariant holds after reset. -/
def Obligations.TheInvariantHoldsAtReset : Prop :=
  State.reset.inv

/-- Every step keeps the canonical form of both stores and the customer area's bounds. -/
def Obligations.EveryStepKeepsTheInvariant : Prop :=
  ∀ s t : State, s.inv → step s = .next t → t.inv

/-- Every command of every form completes in every state, and every queue drains. -/
def Obligations.EveryQueueDrains : Prop :=
  (∀ (i : Instr) (s : State), ∃ t, exec i s = .next t ∧ t.pending = s.pending) ∧
  (∀ s : State, ∃ t, Host.Core.run Sys2Proof.core s.pending.length s = .next t ∧ State.pending t = [])

/-- Sequence acceptance of a consumer in RUN. Formalises R430. -/
def Obligations.SequenceAcceptanceInRun : Prop :=
  ∀ (s : State) (c : Fin 16) (seq p ptime : Nat) (payload : List Byte) (gt : Option Nat),
  s.connState c = 2 → seq ≤ 65535 → s.nat (Od.HSF_LAST_SEQ c) = p → p ≤ 65535 →
  (seq = 0 → s.hsfTimeOk c gt ptime none = true → (s.hsfFrame c seq ptime payload gt).1.connState c = 1) ∧
  (∀ k : Nat, seq ≠ 0 → p ≠ 0 → (k : Int) = ((seq : Int) - (p : Int)) % 65535 →
    (k = 0 → (s.hsfFrame c seq ptime payload gt).1.connState c = 2 ∧
      (s.hsfFrame c seq ptime payload gt).1.nat (Od.HSF_LAST_SEQ c) = p ∧
      (s.hsfFrame c seq ptime payload gt).2 = false ∧
      (s.nat (Od.HSF_REPEATS c) + 1 < 2 ^ 32 →
        (s.hsfFrame c seq ptime payload gt).1.nat (Od.HSF_REPEATS c) = s.nat (Od.HSF_REPEATS c) + 1)) ∧
    (1 ≤ k → k ≤ s.nat (Od.HSF_SEQ_WIN c) → s.hsfTimeOk c gt ptime (s.conn c).ptime = true →
      (s.hsfFrame c seq ptime payload gt).1.connState c = 2 ∧
      (s.hsfFrame c seq ptime payload gt).1.nat (Od.HSF_LAST_SEQ c) = seq ∧
      (s.nat (Od.HSF_LOST c) + (k - 1) < 2 ^ 32 →
        (s.hsfFrame c seq ptime payload gt).1.nat (Od.HSF_LOST c) = s.nat (Od.HSF_LOST c) + (k - 1))) ∧
    (s.nat (Od.HSF_SEQ_WIN c) < k → (s.hsfFrame c seq ptime payload gt).1.connState c = 3 ∧
      (s.hsfFrame c seq ptime payload gt).1.nat (Od.HSF_LAST_SEQ c) = p ∧
      (s.hsfFrame c seq ptime payload gt).2 = false))

/-- A reset that arrives during the trim load. Formalises R55. -/
def Obligations.AResetAbortsTheTrimLoad : Prop :=
  ∀ (s : State) (dt : Nat), s.bringup.step = 1 → s.bringup.trimFault = false →
  (∀ ns, 5000 ≤ ns → s.bringup.resetLatch = false → s.bringup.deferredTb = none → s.pulseEnd (s.tb + dt) = none →
    ∃ t, exec (.nrstAssert dt ns) s = .next t ∧ s.trimAborted t) ∧
  (∀ t0 e, s.bringup.deferredTb = some t0 → s.pulseEnd t0 = some e → e ≤ s.tb + dt →
    ∃ t, exec (.deferredResetProceed dt) s = .next t ∧ s.trimAborted t) ∧
  ((s.elapse dt).railFalls = true → ∃ t, exec (.mainPowerOnReset dt) s = .next t ∧ s.trimAborted t)

/-- A command that takes effect changes no part of the state but those listed with it, and no object but those listed
with it: every byte of the customer area outside a listed part reads as before. -/
def Obligations.FramesOfLinksSupplyAndLegs : Prop :=
  (∀ (s t : State) (dt : Nat) (l : Link) (toC : Bool) (f : LaneFrame),
    exec (.linkFrameReceive dt l toC f) s = .next t →
      s.changesOnly t [.od, .tb, .out, .log, .links] ∧
      ∀ k, k ≠ Od.CNT_CNT_OVF_MAP → k ≠ Od.SYS_LINK_T_REPLAYS + l.num → k ≠ Od.SYS_LINK_T_STATUS + l.num →
        t.get k = s.get k) ∧
  (∀ (s t : State) (dt : Nat) (l : Link) (toC : Bool) (lane1 : Bool),
    exec (.linkLaneFail dt l toC lane1) s = .next t →
      s.changesOnly t [.tb, .out, .log, .links]) ∧
  (∀ (s t : State) (dt : Nat) (l : Link),
    exec (.linkLossIslandDie dt l) s = .next t →
      s.changesOnly t [.od, .tb, .out, .log, .links, .cells, .legs, .axes, .gbx] ∧
      ∀ k, (∀ x, x < 8 → k ≠ Od.AX_AXIS_STATUS x) → (∀ x, x < 8 → k ≠ Od.AX_I_ALPHA x) →
        (∀ x, x < 8 → k ≠ Od.AX_I_BETA x) → (∀ x, x < 8 → k ≠ Od.AX_PSI_ALPHA x) →
        (∀ x, x < 8 → k ≠ Od.AX_PSI_BETA x) → (∀ x, x < 8 → k ≠ Od.AX_TQ_REF x) → k ≠ Od.CNT_CNT_OVF_MAP →
        (∀ x, x < 24 → k ≠ Od.LU_REF x) → (∀ x, x < 15 → k ≠ Od.OBS_ASC_COUNT x) →
        (∀ x, x < 15 → k ≠ Od.OBS_ASC_TIME_ms x) → (∀ x, x < 15 → k ≠ Od.OBS_OBS_CNT_STATUS x) →
        (∀ x, x < 8 → k ≠ Od.OBS_OBS_STATUS x) → (∀ x, x < 2 → k ≠ Od.PRK_PARK_CNT_STATUS x) →
        (∀ x, x < 2 → k ≠ Od.PRK_PARK_STATE x) → (∀ x, x < 2 → k ≠ Od.PRK_UNCOMMANDED x) →
        (∀ x, x < 50 → k ≠ Od.SH_CH_STATUS x) → (∀ x, x < 8 → k ≠ Od.SOL_DUTY x) →
        (∀ x, x < 8 → k ≠ Od.SOL_ENERGISATIONS x) → (∀ x, x < 8 → k ≠ Od.SOL_I_SET x) →
        (∀ x, x < 8 → k ≠ Od.SOL_SOL_CNT_STATUS x) → (∀ x, x < 8 → k ≠ Od.SOL_SOL_STATUS x) → t.get k = s.get k) ∧
  (∀ (s t : State) (dt : Nat) (l : Link) (latencyNs : Nat),
    exec (.linkTrainingComplete dt l latencyNs) s = .next t →
      s.changesOnly t [.od, .tb, .fresh, .out, .log, .links, .pifs] ∧
      ∀ k, (∀ x, x < 12 → k ≠ Od.PIF_PIF_STATUS x) → k ≠ Od.SYS_LINK_T_LAT_ns + l.num → t.get k = s.get k) ∧
  (∀ (s t : State) (dt : Nat) (l : Link),
    exec (.applyTimeReached dt l) s = .next t →
      s.changesOnly t [.od, .tb, .out, .log, .links, .cells, .stageIn] ∧
      ∀ k, k ≠ Od.CNV_DAB_PHASE → t.get k = s.get k) ∧
  (∀ (s t : State) (dt : Nat),
    exec (.eccSingleBitCorrection dt) s = .next t →
      s.changesOnly t [.od, .tb, .out, .log] ∧
      ∀ k, k ≠ Od.CNT_CNT_OVF_MAP → k ≠ Od.SYS_ECC_CORRECTED → k ≠ Od.SYS_MEM_STATUS → t.get k = s.get k) ∧
  (∀ (s t : State) (dt : Nat),
    exec (.scrubPass dt) s = .next t →
      s.changesOnly t [.tb, .out, .log, .clocks]) ∧
  (∀ (s t : State) (dt : Nat) (who : Requester) (value : BitVec 32),
    exec (.clkFaultLatchWrite dt who value) s = .next t →
      s.changesOnly t [.od, .tb, .out, .log, .sessions] ∧
      ∀ k, noAccess k → k ≠ Od.SYS_CLK_FAULT_LATCH → t.get k = s.get k) ∧
  (∀ (s t : State) (dt : Nat) (r : SupplyReading),
    exec (.supplySourceChange dt r) s = .next t →
      s.changesOnly t [.od, .tb, .out, .log, .bringup, .links, .seqs, .engines, .tasks, .path, .img] ∧
      ∀ k, k ≠ Od.CNT_CNT_OVF_MAP → k ≠ Od.POOL_POOL_STATUS → (∀ x y, x < 8 → y < 32 → k ≠ Od.SQ_RESULT x y) →
        (∀ x, x < 8 → k ≠ Od.SQ_SQ_STATUS x) → k ≠ Od.SUP_ACTIVE_SOURCE → k ≠ Od.SUP_HOLDUP_EVENTS →
        k ≠ Od.SUP_SOURCE_CHANGES → k ≠ Od.SUP_SUPPLY_STATUS → k ≠ Od.SUP_V_LV_IN → k ≠ Od.SUP_V_PODL →
        t.get k = s.get k) ∧
  (∀ (s t : State) (dt : Nat),
    exec (.allSourcesInvalid dt) s = .next t →
      s.changesOnly t [.od, .tb, .out, .log, .bringup, .links, .seqs, .engines, .tasks, .img] ∧
      ∀ k, k ≠ Od.CNT_CNT_OVF_MAP → k ≠ Od.POOL_POOL_STATUS → (∀ x y, x < 8 → y < 32 → k ≠ Od.SQ_RESULT x y) →
        (∀ x, x < 8 → k ≠ Od.SQ_SQ_STATUS x) → k ≠ Od.SUP_ACTIVE_SOURCE → k ≠ Od.SUP_HOLDUP_EVENTS →
        k ≠ Od.SUP_SOURCE_CHANGES → k ≠ Od.SUP_SUPPLY_STATUS → t.get k = s.get k) ∧
  (∀ (s t : State) (dt : Nat) (r : SupplyReading),
    exec (.holdupInterruptionBridged dt r) s = .next t →
      s.changesOnly t [.od, .tb, .out, .log, .bringup, .links, .seqs, .engines, .tasks, .path, .img] ∧
      ∀ k, k ≠ Od.CNT_CNT_OVF_MAP → k ≠ Od.POOL_POOL_STATUS → (∀ x y, x < 8 → y < 32 → k ≠ Od.SQ_RESULT x y) →
        (∀ x, x < 8 → k ≠ Od.SQ_SQ_STATUS x) → k ≠ Od.SUP_ACTIVE_SOURCE → k ≠ Od.SUP_HOLDUP_EVENTS →
        k ≠ Od.SUP_SOURCE_CHANGES → k ≠ Od.SUP_SUPPLY_STATUS → k ≠ Od.SUP_V_LV_IN → k ≠ Od.SUP_V_PODL →
        t.get k = s.get k) ∧
  (∀ (s t : State) (dt : Nat),
    exec (.powerStageSupplyLoss dt) s = .next t →
      s.changesOnly t [.od, .tb, .out, .log, .bringup, .links, .cells, .legs, .axes, .gbx] ∧
      ∀ k, (∀ x, x < 8 → k ≠ Od.AX_AXIS_STATUS x) → (∀ x, x < 8 → k ≠ Od.AX_I_ALPHA x) →
        (∀ x, x < 8 → k ≠ Od.AX_I_BETA x) → (∀ x, x < 8 → k ≠ Od.AX_PSI_ALPHA x) →
        (∀ x, x < 8 → k ≠ Od.AX_PSI_BETA x) → (∀ x, x < 8 → k ≠ Od.AX_TQ_REF x) → k ≠ Od.CNT_CNT_OVF_MAP →
        (∀ x, x < 24 → k ≠ Od.LU_REF x) → (∀ x, x < 15 → k ≠ Od.OBS_ASC_COUNT x) →
        (∀ x, x < 15 → k ≠ Od.OBS_ASC_TIME_ms x) → (∀ x, x < 15 → k ≠ Od.OBS_OBS_CNT_STATUS x) →
        (∀ x, x < 8 → k ≠ Od.OBS_OBS_STATUS x) → (∀ x, x < 2 → k ≠ Od.PRK_PARK_CNT_STATUS x) →
        (∀ x, x < 2 → k ≠ Od.PRK_PARK_STATE x) → (∀ x, x < 2 → k ≠ Od.PRK_UNCOMMANDED x) →
        (∀ x, x < 50 → k ≠ Od.SH_CH_STATUS x) → (∀ x, x < 8 → k ≠ Od.SOL_DUTY x) →
        (∀ x, x < 8 → k ≠ Od.SOL_ENERGISATIONS x) → (∀ x, x < 8 → k ≠ Od.SOL_I_SET x) →
        (∀ x, x < 8 → k ≠ Od.SOL_SOL_CNT_STATUS x) → (∀ x, x < 8 → k ≠ Od.SOL_SOL_STATUS x) → t.get k = s.get k) ∧
  (∀ (s t : State) (dt : Nat) (r : SupplyReading),
    exec (.powerStageSupplyReturn dt r) s = .next t →
      s.changesOnly t [.od, .tb, .out, .log, .bringup, .links, .seqs, .engines, .tasks, .path, .img] ∧
      ∀ k, k ≠ Od.CNT_CNT_OVF_MAP → k ≠ Od.POOL_POOL_STATUS → (∀ x y, x < 8 → y < 32 → k ≠ Od.SQ_RESULT x y) →
        (∀ x, x < 8 → k ≠ Od.SQ_SQ_STATUS x) → k ≠ Od.SUP_ACTIVE_SOURCE → k ≠ Od.SUP_HOLDUP_EVENTS →
        k ≠ Od.SUP_SOURCE_CHANGES → k ≠ Od.SUP_SUPPLY_STATUS → k ≠ Od.SUP_V_LV_IN → k ≠ Od.SUP_V_PODL →
        t.get k = s.get k) ∧
  (∀ (s t : State) (dt : Nat),
    exec (.nrstRelease dt) s = .next t →
      s.changesOnly t [.od, .tb, .out, .log, .bringup, .cells, .legs] ∧
      ∀ k, k ≠ Od.BKP_BKP12 → k ≠ Od.CNT_CNT_OVF_MAP → k ≠ Od.CNT_POWER_ON_COUNT → k ≠ Od.RST_BRINGUP_STATUS →
        k ≠ Od.RST_RESET_CAUSE → k ≠ Od.RST_RESET_COUNT → t.get k = s.get k) ∧
  (∀ (s t : State) (dt : Nat) (crcOk : Bool),
    exec (.trimLoadComplete dt crcOk) s = .next t →
      s.changesOnly t [.od, .tb, .out, .log, .bringup, .chans] ∧
      ∀ k, k ≠ Od.BKP_BKP13 → k ≠ Od.RST_TRIM_STATUS → t.get k = s.get k) ∧
  (∀ (s t : State) (dt : Nat),
    exec (.pllLock dt) s = .next t →
      s.changesOnly t [.od, .tb, .out, .log, .bringup] ∧
      ∀ k, k ≠ Od.SYS_CLK_STATUS → t.get k = s.get k) ∧
  (∀ (s t : State) (dt : Nat) (newestOk : Bool) (otherOk : Bool),
    exec (.imageCheckComplete dt newestOk otherOk) s = .next t →
      s.changesOnly t [.od, .tb, .out, .log, .bringup, .engines, .tasks, .chans, .img] ∧
      ∀ k, k ≠ Od.ID_FW_VERSION → k ≠ Od.IMG_IMG_STATUS → k ≠ Od.POOL_POOL_STATUS → k ≠ Od.PYR_CONFIG_BOOT →
        k ≠ Od.PYR_CYCLE_us → k ≠ Od.PYR_RESYNC_WINDOW_ms → t.get k = s.get k) ∧
  (∀ (s t : State) (dt : Nat),
    exec (.controlIslandUp dt) s = .next t →
      s.changesOnly t [.od, .tb, .out, .log, .bringup, .links, .seqs, .engines, .tasks, .chans, .time, .canA, .img] ∧
      ∀ k, k ≠ Od.CNT_CNT_OVF_MAP → k ≠ Od.IMG_IMG_CNT_STATUS → k ≠ Od.IMG_UPD_FAILS → k ≠ Od.IMG_UPD_RESULT →
        k ≠ Od.IMG_UPD_STATE → k ≠ Od.POOL_POOL_STATUS → k ≠ Od.PYR_PYR_STATUS → k ≠ Od.RST_BRINGUP_STATUS →
        k ≠ Od.RST_CTRL_READY_ms → (∀ x y, x < 8 → y < 32 → k ≠ Od.SQ_RESULT x y) →
        (∀ x, x < 8 → k ≠ Od.SQ_SQ_STATUS x) → k ≠ Od.SUP_ACTIVE_SOURCE → k ≠ Od.SUP_HOLDUP_EVENTS →
        k ≠ Od.SUP_SOURCE_CHANGES → k ≠ Od.SUP_SUPPLY_STATUS → t.get k = s.get k) ∧
  (∀ (s t : State) (dt : Nat) (who : Requester) (data : List Byte),
    exec (.custDataWrite dt who data) s = .next t →
      s.changesOnly t [.od, .tb, .out, .log, .cust, .sessions] ∧
      ∀ k, noAccess k → t.get k = s.get k) ∧
  (∀ (s t : State) (dt : Nat) (d : Drive),
    exec (.driveResetBlockRelease dt d) s = .next t →
      s.changesOnly t [.tb, .out, .log, .drives, .cells, .legs, .axes, .lus, .gbx, .dcl]) ∧
  (∀ (s t : State) (dt : Nat) (c : Cell),
    exec (.softTurnOffPlateauEnd dt c) s = .next t →
      s.changesOnly t [.od, .tb, .out, .log, .cells, .legs] ∧
      ∀ k, k ≠ Od.CNT_CNT_OVF_MAP → k ≠ Od.OBS_ASC_TIME_ms c → k ≠ Od.OBS_OBS_CNT_STATUS c →
        (∀ x, x < 50 → k ≠ Od.SH_CH_STATUS x) → t.get k = s.get k) ∧
  (∀ (s t : State) (dt : Nat) (who : Requester) (c : Cell) (value : BitVec 8),
    exec (.scLockoutWrite dt who c value) s = .next t →
      s.changesOnly t [.od, .tb, .out, .log, .sessions] ∧
      ∀ k, noAccess k → k ≠ Od.CELL_SC_LOCKOUT c → t.get k = s.get k) ∧
  (∀ (s t : State) (dt : Nat) (who : Requester) (c : Cell) (value : BitVec 8),
    exec (.selftestStart dt who c value) s = .next t →
      s.changesOnly t [.od, .tb, .out, .log, .cells, .sessions] ∧
      ∀ k, noAccess k → t.get k = s.get k) ∧
  (∀ (s t : State) (dt : Nat) (l : Leg),
    exec (.tokenRefill dt l) s = .next t →
      s.changesOnly t [.od, .tb, .out, .log, .legs] ∧
      ∀ k, (∀ x y, x < 15 → y < 4 → k ≠ Od.CELL_LEG_SWITCHES x y) → t.get k = s.get k) ∧
  (∀ (s t : State) (dt : Nat) (l : Leg),
    exec (.dwellEnd dt l) s = .next t →
      s.changesOnly t [.od, .tb, .out, .log, .legs, .axes] ∧
      ∀ k, (∀ x, x < 8 → k ≠ Od.AX_AXIS_CNT_STATUS x) → (∀ x, x < 8 → k ≠ Od.AX_AXIS_STATUS x) →
        (∀ x, x < 8 → k ≠ Od.AX_FALLBACKS x) → (∀ x, x < 8 → k ≠ Od.AX_SUBSTITUTIONS x) →
        (∀ x, x < 15 → k ≠ Od.CELL_COUNTER_STATUS x) → (∀ x, x < 15 → k ≠ Od.CELL_FSW_DEFERRALS x) →
        (∀ x y, x < 15 → y < 4 → k ≠ Od.CELL_LEG_SWITCHES x y) → k ≠ Od.CNT_CNT_OVF_MAP →
        (∀ x, x < 50 → k ≠ Od.SH_CH_STATUS x) → t.get k = s.get k) ∧
  (∀ (s t : State) (dt : Nat) (c : Cell),
    exec (.legCounterSave dt c) s = .next t →
      s.changesOnly t [.tb, .out, .log, .cells, .store]) ∧
  (∀ (s t : State) (dt : Nat) (l : Leg),
    exec (.offsetRecalibrationDue dt l) s = .next t →
      s.changesOnly t [.od, .tb, .out, .log, .shunts] ∧
      ∀ k, k ≠ Od.SH_CH_STATUS l → t.get k = s.get k) ∧
  (∀ (s t : State) (dt : Nat) (l : Leg) (zero : List Int) (full : List Int),
    exec (.offsetRecalibrationComplete dt l zero full) s = .next t →
      s.changesOnly t [.od, .tb, .out, .log, .shunts] ∧
      ∀ k, k ≠ Od.CNT_CNT_OVF_MAP → (∀ x, x < 50 → k ≠ Od.SH_CAL_COUNT x) → (∀ x, x < 50 → k ≠ Od.SH_CH_STATUS x) →
        (∀ x, x < 50 → k ≠ Od.SH_LAST_CAL_TB x) → (∀ x, x < 50 → k ≠ Od.SH_OFFSET x) →
        (∀ x, x < 50 → k ≠ Od.SH_OFFSET_ARM x) → t.get k = s.get k) ∧
  (∀ (s t : State) (dt : Nat) (l : Leg),
    exec (.recalibrationLate dt l) s = .next t →
      s.changesOnly t [.od, .tb, .out, .log, .shunts] ∧
      ∀ k, k ≠ Od.SH_CH_STATUS l → t.get k = s.get k) ∧
  (∀ (s t : State) (dt : Nat) (n : Fin 8),
    exec (.sequencerTrigger dt n) s = .next t →
      s.changesOnly t [.od, .tb, .out, .log, .seqs] ∧
      ∀ k, k ≠ Od.CNT_CNT_OVF_MAP → (∀ x, x < 4 → k ≠ Od.GC_GC_STATUS x) → (∀ x, x < 4 → k ≠ Od.GC_SUSPENDS x) →
        k ≠ Od.SQ_SQ_STATUS n → k ≠ Od.SQ_TRIG_OVERRUNS n → t.get k = s.get k) ∧
  (∀ (s t : State) (dt : Nat) (who : Requester) (n : Fin 8) (value : BitVec 8),
    exec (.swTriggerWrite dt who n value) s = .next t →
      s.changesOnly t [.od, .tb, .out, .log, .seqs, .sessions] ∧
      ∀ k, noAccess k → (∀ x, x < 4 → k ≠ Od.GC_GC_STATUS x) → (∀ x, x < 4 → k ≠ Od.GC_SUSPENDS x) →
        k ≠ Od.SQ_SQ_STATUS n → k ≠ Od.SQ_TRIG_OVERRUNS n → t.get k = s.get k) ∧
  (∀ (s t : State) (dt : Nat) (who : Requester) (n : Fin 8) (value : BitVec 32),
    exec (.sqCtrlWrite dt who n value) s = .next t →
      s.changesOnly t [.od, .tb, .out, .log, .seqs, .sessions] ∧
      ∀ k, noAccess k → (∀ x, x < 4 → k ≠ Od.GC_GC_STATUS x) → (∀ x, x < 4 → k ≠ Od.GC_SUSPENDS x) →
        k ≠ Od.SQ_SQ_CTRL n → k ≠ Od.SQ_SQ_STATUS n → k ≠ Od.SQ_TRIG_OVERRUNS n → t.get k = s.get k) ∧
  (∀ (s t : State) (dt : Nat) (n : Fin 16) (x : HeldCode),
    exec (.generalComparatorCrossing dt n x) s = .next t →
      s.changesOnly t [.od, .tb, .out, .log, .seqs, .gcps] ∧
      ∀ k, k ≠ Od.CNT_CNT_OVF_MAP → k ≠ Od.GCP_CROSS_COUNT n → k ≠ Od.GCP_GCP_STATUS n → k ≠ Od.GCP_LAST_CROSS_TB n →
        (∀ x, x < 4 → k ≠ Od.GC_GC_STATUS x) → (∀ x, x < 4 → k ≠ Od.GC_SUSPENDS x) →
        (∀ x, x < 8 → k ≠ Od.SQ_SQ_STATUS x) → (∀ x, x < 8 → k ≠ Od.SQ_TRIG_OVERRUNS x) → t.get k = s.get k) ∧
  (∀ (s t : State) (dt : Nat) (who : Requester) (n : Fin 16) (value : BitVec 8),
    exec (.gcpClearWrite dt who n value) s = .next t →
      s.changesOnly t [.od, .tb, .out, .log, .seqs, .gcps, .sessions] ∧
      ∀ k, noAccess k → k ≠ Od.GCP_GCP_STATUS n → (∀ x, x < 4 → k ≠ Od.GC_GC_STATUS x) →
        (∀ x, x < 4 → k ≠ Od.GC_SUSPENDS x) → (∀ x, x < 8 → k ≠ Od.SQ_SQ_STATUS x) →
        (∀ x, x < 8 → k ≠ Od.SQ_TRIG_OVERRUNS x) → t.get k = s.get k)

/-- A command that takes effect changes no part of the state but those listed with it, and no object but those listed
with it: every byte of the customer area outside a listed part reads as before. -/
def Obligations.FramesOfControlAndEngines : Prop :=
  (∀ (s t : State) (dt : Nat) (who : Requester) (t0 : Fin 2) (value : BitVec 32),
    exec (.tqSetWrite dt who t0 value) s = .next t →
      s.changesOnly t [.od, .tb, .out, .log, .sessions] ∧
      ∀ k, noAccess k → k ≠ Od.TR_TQ_SET t0 → t.get k = s.get k) ∧
  (∀ (s t : State) (dt : Nat) (who : Requester) (t0 : Fin 2) (value : BitVec 8),
    exec (.directionWrite dt who t0 value) s = .next t →
      s.changesOnly t [.od, .tb, .out, .log, .drives, .cells, .legs, .axes, .traction, .sessions] ∧
      ∀ k, noAccess k → (∀ x, x < 8 → k ≠ Od.AX_TQ_REF x) → (∀ x, x < 15 → k ≠ Od.OBS_ASC_TIME_ms x) →
        (∀ x, x < 15 → k ≠ Od.OBS_OBS_CNT_STATUS x) → (∀ x, x < 8 → k ≠ Od.OBS_OBS_STATUS x) →
        (∀ x, x < 50 → k ≠ Od.SH_CH_STATUS x) → k ≠ Od.TR_DIRECTION t0 → k ≠ Od.TR_DIR_CHANGES t0 →
        k ≠ Od.TR_DRIVE_STATUS t0 → (∀ x, x < 2 → k ≠ Od.TR_TQ_RAMP x) → t.get k = s.get k) ∧
  (∀ (s t : State) (dt : Nat) (t0 : Fin 2),
    exec (.reversalReengage dt t0) s = .next t →
      s.changesOnly t [.od, .tb, .out, .log, .drives, .cells, .axes, .traction] ∧
      ∀ k, (∀ x, x < 8 → k ≠ Od.AX_AXIS_STATUS x) → (∀ x, x < 8 → k ≠ Od.AX_BEMF_LL_PK x) →
        (∀ x, x < 8 → k ≠ Od.AX_I_ALPHA x) → (∀ x, x < 8 → k ≠ Od.AX_I_BETA x) →
        (∀ x, x < 8 → k ≠ Od.AX_PSI_ALPHA x) → (∀ x, x < 8 → k ≠ Od.AX_PSI_BETA x) →
        (∀ x, x < 8 → k ≠ Od.AX_SPEED_EL x) → (∀ x, x < 8 → k ≠ Od.AX_TQ_REF x) → k ≠ Od.CNT_CNT_OVF_MAP →
        (∀ x, x < 15 → k ≠ Od.OBS_ASC_TIME_ms x) → (∀ x, x < 8 → k ≠ Od.OBS_CATCH_COUNT x) →
        (∀ x, x < 8 → k ≠ Od.OBS_OBS_ANGLE x) → (∀ x, x < 15 → k ≠ Od.OBS_OBS_CNT_STATUS x) →
        (∀ x, x < 8 → k ≠ Od.OBS_OBS_SPEED x) → (∀ x, x < 8 → k ≠ Od.OBS_OBS_STATUS x) →
        (∀ x, x < 8 → k ≠ Od.OBS_OPEN_ACC_us x) → (∀ x, x < 8 → k ≠ Od.OBS_PROBE_COUNT x) →
        (∀ x, x < 2 → k ≠ Od.TR_SPEED x) → k ≠ Od.TR_TQ_RAMP t0 → t.get k = s.get k) ∧
  (∀ (s t : State) (dt : Nat) (n : TSet),
    exec (.trackingValid dt n) s = .next t →
      s.changesOnly t [.od, .tb, .out, .log] ∧
      ∀ k, (∀ x, x < 8 → k ≠ Od.AX_BEMF_LL_PK x) → (∀ x, x < 8 → k ≠ Od.AX_SPEED_EL x) →
        (∀ x, x < 8 → k ≠ Od.OBS_OBS_ANGLE x) → (∀ x, x < 8 → k ≠ Od.OBS_OBS_SPEED x) →
        (∀ x, x < 8 → k ≠ Od.OBS_OBS_STATUS x) → (∀ x, x < 2 → k ≠ Od.TR_SPEED x) → t.get k = s.get k) ∧
  (∀ (s t : State) (dt : Nat) (n : TSet) (m : Axis) (v : Nat),
    exec (.probeAssistPeriod dt n m v) s = .next t →
      s.changesOnly t [.od, .tb, .out, .log, .legs, .axes] ∧
      ∀ k, (∀ x, x < 8 → k ≠ Od.AX_AXIS_STATUS x) → (∀ x y, x < 15 → y < 4 → k ≠ Od.CELL_LEG_SWITCHES x y) →
        (∀ x, x < 50 → k ≠ Od.SH_CH_STATUS x) → t.get k = s.get k) ∧
  (∀ (s t : State) (dt : Nat) (n : TSet),
    exec (.recoveryAngleFound dt n) s = .next t →
      s.changesOnly t [.od, .tb, .out, .log, .drives, .cells, .axes] ∧
      ∀ k, (∀ x, x < 8 → k ≠ Od.AX_AXIS_STATUS x) → (∀ x, x < 8 → k ≠ Od.AX_BEMF_LL_PK x) →
        (∀ x, x < 8 → k ≠ Od.AX_I_ALPHA x) → (∀ x, x < 8 → k ≠ Od.AX_I_BETA x) →
        (∀ x, x < 8 → k ≠ Od.AX_PSI_ALPHA x) → (∀ x, x < 8 → k ≠ Od.AX_PSI_BETA x) →
        (∀ x, x < 8 → k ≠ Od.AX_SPEED_EL x) → (∀ x, x < 8 → k ≠ Od.AX_TQ_REF x) → k ≠ Od.CNT_CNT_OVF_MAP →
        (∀ x, x < 15 → k ≠ Od.OBS_ASC_TIME_ms x) → (∀ x, x < 8 → k ≠ Od.OBS_CATCH_COUNT x) →
        (∀ x, x < 8 → k ≠ Od.OBS_CATCH_TIME_us x) → (∀ x, x < 8 → k ≠ Od.OBS_OBS_ANGLE x) →
        (∀ x, x < 15 → k ≠ Od.OBS_OBS_CNT_STATUS x) → (∀ x, x < 8 → k ≠ Od.OBS_OBS_SPEED x) →
        (∀ x, x < 8 → k ≠ Od.OBS_OBS_STATUS x) → (∀ x, x < 8 → k ≠ Od.OBS_OPEN_ACC_us x) →
        (∀ x, x < 2 → k ≠ Od.TR_SPEED x) → t.get k = s.get k) ∧
  (∀ (s t : State) (dt : Nat) (who : Requester) (n : TSet),
    exec (.idStatic dt who n) s = .next t →
      s.changesOnly t [.od, .tb, .out, .log, .drives, .cells, .axes, .sessions] ∧
      ∀ k, noAccess k → k ≠ Od.OBS_ID_CMD n → k ≠ Od.OBS_ID_STATUS n → k ≠ Od.OBS_OBS_STATUS n → t.get k = s.get k) ∧
  (∀ (s t : State) (dt : Nat) (who : Requester) (n : TSet),
    exec (.idRotating dt who n) s = .next t →
      s.changesOnly t [.od, .tb, .out, .log, .drives, .cells, .axes, .sessions] ∧
      ∀ k, noAccess k → k ≠ Od.OBS_ID_CMD n → k ≠ Od.OBS_ID_STATUS n → k ≠ Od.OBS_OBS_STATUS n → t.get k = s.get k) ∧
  (∀ (s t : State) (dt : Nat) (who : Requester) (n : TSet),
    exec (.idEncoderOffset dt who n) s = .next t →
      s.changesOnly t [.od, .tb, .out, .log, .drives, .cells, .axes, .sessions] ∧
      ∀ k, noAccess k → k ≠ Od.OBS_ID_CMD n → k ≠ Od.OBS_ID_STATUS n → k ≠ Od.OBS_OBS_STATUS n → t.get k = s.get k) ∧
  (∀ (s t : State) (dt : Nat) (who : Requester) (n : TSet),
    exec (.idApply dt who n) s = .next t →
      s.changesOnly t [.od, .tb, .out, .log, .sessions] ∧
      ∀ k, noAccess k → k ≠ Od.AX_LD n → k ≠ Od.AX_LQ n → k ≠ Od.AX_PSI_PM n → k ≠ Od.AX_RS n →
        k ≠ Od.OBS_ENC_OFFSET n → t.get k = s.get k) ∧
  (∀ (s t : State) (dt : Nat) (who : Requester) (p : Fin 12) (value : BitVec 8),
    exec (.checkCmdWrite dt who p value) s = .next t →
      s.changesOnly t [.od, .tb, .out, .log, .pifs, .sessions] ∧
      ∀ k, noAccess k → k ≠ Od.PIF_PIF_STATUS p → t.get k = s.get k) ∧
  (∀ (s t : State) (dt : Nat) (who : Requester) (p : Fin 12) (value : BitVec 8),
    exec (.pifModeWrite dt who p value) s = .next t →
      s.changesOnly t [.od, .tb, .out, .log, .pifs, .sessions] ∧
      ∀ k, noAccess k → k ≠ Od.PIF_MODE p → k ≠ Od.PIF_PIF_STATUS p → t.get k = s.get k) ∧
  (∀ (s t : State) (dt : Nat) (who : Requester) (n : Fin 24) (sec : Fin 8) (value : BitVec 8),
    exec (.secCtrlWrite dt who n sec value) s = .next t →
      s.changesOnly t [.od, .tb, .out, .log, .lus, .sessions] ∧
      ∀ k, noAccess k → k ≠ Od.LU_SEC_CTRL n sec → t.get k = s.get k) ∧
  (∀ (s t : State) (dt : Nat) (k0 : Fin 59),
    exec (.taskRelease dt k0) s = .next t →
      s.changesOnly t [.od, .tb, .fresh, .out, .log, .engines, .tasks] ∧
      ∀ k, k ≠ Od.CNT_CNT_OVF_MAP → (∀ x, x < 24 → k ≠ Od.ENG_DISPATCHES x) →
        (∀ x, x < 24 → k ≠ Od.ENG_ENG_CNT_STATUS x) → (∀ x, x < 24 → k ≠ Od.ENG_STEALS x) →
        (∀ x, x < 24 → k ≠ Od.ENG_STEAL_TIME_MAX_ns x) → (∀ x, x < 24 → k ≠ Od.ENG_STOLEN_FROM x) →
        k ≠ Od.POOL_CLAIM_CONFLICTS → k ≠ Od.POOL_POOL_CNT_STATUS → k ≠ Od.POOL_STEAL_COST_MAX_ns →
        k ≠ Od.TASK_RELEASES k0 → k ≠ Od.TASK_SKIPS k0 → (∀ x, x < 59 → k ≠ Od.TASK_START_LAT_MAX_us x) →
        k ≠ Od.TASK_TASK_CNT_STATUS k0 → t.get k = s.get k) ∧
  (∀ (s t : State) (dt : Nat) (e : Fin 24),
    exec (.engineRejoin dt e) s = .next t →
      s.changesOnly t [.od, .tb, .fresh, .out, .log, .engines, .tasks] ∧
      ∀ k, k ≠ Od.CNT_CNT_OVF_MAP → (∀ x, x < 24 → k ≠ Od.ENG_DISPATCHES x) →
        (∀ x, x < 24 → k ≠ Od.ENG_ENG_CNT_STATUS x) → k ≠ Od.ENG_SELFTEST_PASSES e →
        (∀ x, x < 24 → k ≠ Od.ENG_STEALS x) → (∀ x, x < 24 → k ≠ Od.ENG_STEAL_TIME_MAX_ns x) →
        (∀ x, x < 24 → k ≠ Od.ENG_STOLEN_FROM x) → k ≠ Od.POOL_CLAIM_CONFLICTS → k ≠ Od.POOL_POOL_CNT_STATUS →
        k ≠ Od.POOL_POOL_STATUS → k ≠ Od.POOL_STEAL_COST_MAX_ns → (∀ x, x < 59 → k ≠ Od.TASK_START_LAT_MAX_us x) →
        t.get k = s.get k) ∧
  (∀ (s t : State) (dt : Nat) (who : Requester) (value : BitVec 8),
    exec (.configLoadWrite dt who value) s = .next t →
      s.changesOnly t [.od, .tb, .out, .log, .pool, .sessions] ∧
      ∀ k, noAccess k → k ≠ Od.POOL_POOL_STATUS → t.get k = s.get k) ∧
  (∀ (s t : State) (dt : Nat),
    exec (.configLoadAdmissionComplete dt) s = .next t →
      s.changesOnly t [.od, .tb, .fresh, .out, .log, .engines, .tasks, .pool] ∧
      ∀ k, k ≠ Od.CNT_CNT_OVF_MAP → (∀ x, x < 24 → k ≠ Od.ENG_DISPATCHES x) →
        (∀ x, x < 24 → k ≠ Od.ENG_ENG_CNT_STATUS x) → (∀ x, x < 24 → k ≠ Od.ENG_STEALS x) →
        (∀ x, x < 24 → k ≠ Od.ENG_STEAL_TIME_MAX_ns x) → (∀ x, x < 24 → k ≠ Od.ENG_STOLEN_FROM x) →
        k ≠ Od.POOL_ADMIT_ENGINES → k ≠ Od.POOL_ADMIT_RESULT → k ≠ Od.POOL_ADMIT_TASK → k ≠ Od.POOL_CLAIM_CONFLICTS →
        k ≠ Od.POOL_CONFIG_LOADS → k ≠ Od.POOL_POOL_CNT_STATUS → k ≠ Od.POOL_POOL_STATUS →
        k ≠ Od.POOL_STEAL_COST_MAX_ns → k ≠ Od.POOL_U_TOTAL → (∀ x, x < 59 → k ≠ Od.TASK_HOME x) →
        (∀ x, x < 59 → k ≠ Od.TASK_PERIOD_ACT_us x) → (∀ x, x < 59 → k ≠ Od.TASK_START_LAT_MAX_us x) →
        t.get k = s.get k)

/-- A command that takes effect changes no part of the state but those listed with it, and no object but those listed
with it: every byte of the customer area outside a listed part reads as before. -/
def Obligations.FramesOfGearboxPowerAndSafety : Prop :=
  (∀ (s t : State) (dt : Nat) (who : Requester) (value : BitVec 8),
    exec (.axleModeWrite dt who value) s = .next t →
      s.changesOnly t [.od, .tb, .out, .log, .drives, .cells, .legs, .axes, .traction, .gbx, .sessions] ∧
      ∀ k, noAccess k → k ≠ Od.AXLE_AXLE_CNT_STATUS → k ≠ Od.AXLE_AXLE_MODE → k ≠ Od.AXLE_AXLE_STATUS →
        k ≠ Od.AXLE_MODE_CHANGES → k ≠ Od.AXLE_SHORTFALL → k ≠ Od.AXLE_WHEEL_TQ_A → k ≠ Od.AXLE_WHEEL_TQ_B →
        (∀ x, x < 8 → k ≠ Od.AX_TQ_REF x) → (∀ x, x < 15 → k ≠ Od.OBS_ASC_TIME_ms x) →
        (∀ x, x < 15 → k ≠ Od.OBS_OBS_CNT_STATUS x) → (∀ x, x < 8 → k ≠ Od.OBS_OBS_STATUS x) →
        (∀ x, x < 50 → k ≠ Od.SH_CH_STATUS x) → k ≠ Od.TR_DIRECTION 0 → k ≠ Od.TR_DIRECTION 1 →
        k ≠ Od.TR_DIR_CHANGES 0 → k ≠ Od.TR_DIR_CHANGES 1 → k ≠ Od.TR_DRIVE_STATUS 0 → k ≠ Od.TR_DRIVE_STATUS 1 →
        (∀ x, x < 2 → k ≠ Od.TR_TQ_RAMP x) → t.get k = s.get k) ∧
  (∀ (s t : State) (dt : Nat) (who : Requester) (value : BitVec 32),
    exec (.axleTqSetWrite dt who value) s = .next t →
      s.changesOnly t [.od, .tb, .out, .log, .sessions] ∧
      ∀ k, noAccess k → k ≠ Od.AXLE_AXLE_TQ_SET → t.get k = s.get k) ∧
  (∀ (s t : State) (dt : Nat) (who : Requester) (value : BitVec 32),
    exec (.yawTqSetWrite dt who value) s = .next t →
      s.changesOnly t [.od, .tb, .out, .log, .sessions] ∧
      ∀ k, noAccess k → k ≠ Od.AXLE_YAW_TQ_SET → t.get k = s.get k) ∧
  (∀ (s t : State) (dt : Nat) (who : Requester) (value : BitVec 8),
    exec (.axleDirectionWrite dt who value) s = .next t →
      s.changesOnly t [.od, .tb, .out, .log, .drives, .cells, .legs, .axes, .traction, .gbx, .sessions] ∧
      ∀ k, noAccess k → k ≠ Od.AXLE_AXLE_DIRECTION → (∀ x, x < 8 → k ≠ Od.AX_TQ_REF x) →
        (∀ x, x < 15 → k ≠ Od.OBS_ASC_TIME_ms x) → (∀ x, x < 15 → k ≠ Od.OBS_OBS_CNT_STATUS x) →
        (∀ x, x < 8 → k ≠ Od.OBS_OBS_STATUS x) → (∀ x, x < 50 → k ≠ Od.SH_CH_STATUS x) → k ≠ Od.TR_DIRECTION 0 →
        k ≠ Od.TR_DIRECTION 1 → k ≠ Od.TR_DIR_CHANGES 0 → k ≠ Od.TR_DIR_CHANGES 1 → k ≠ Od.TR_DRIVE_STATUS 0 →
        k ≠ Od.TR_DRIVE_STATUS 1 → (∀ x, x < 2 → k ≠ Od.TR_TQ_RAMP x) → t.get k = s.get k) ∧
  (∀ (s t : State) (dt : Nat) (who : Requester) (t0 : Fin 2) (value : BitVec 8),
    exec (.shiftCmdWrite dt who t0 value) s = .next t →
      s.changesOnly t [.od, .tb, .out, .log, .gbx, .sessions] ∧
      ∀ k, noAccess k → k ≠ Od.SHF_GEAR_STATE t0 → k ≠ Od.SHF_LAST_REFUSAL → k ≠ Od.SHF_SHIFT_CMD t0 →
        k ≠ Od.SHF_SHIFT_STEP t0 → t.get k = s.get k) ∧
  (∀ (s t : State) (dt : Nat) (t0 : Fin 2),
    exec (.shiftStepLimit dt t0) s = .next t →
      s.changesOnly t [.od, .tb, .out, .log, .cells, .axes, .traction, .gbx] ∧
      ∀ k, (∀ i, i < 2 → k ≠ Od.AXLE_LIMIT_AXLE_A + i) → (∀ x, x < 8 → k ≠ Od.AX_AXIS_STATUS x) →
        (∀ x, x < 8 → k ≠ Od.AX_I_ALPHA x) → (∀ x, x < 8 → k ≠ Od.AX_I_BETA x) →
        (∀ x, x < 8 → k ≠ Od.AX_PSI_ALPHA x) → (∀ x, x < 8 → k ≠ Od.AX_PSI_BETA x) →
        (∀ x, x < 8 → k ≠ Od.AX_TQ_REF x) → k ≠ Od.CNT_CNT_OVF_MAP → (∀ x, x < 24 → k ≠ Od.LU_REF x) →
        (∀ x, x < 8 → k ≠ Od.OBS_OBS_STATUS x) → k ≠ Od.SHF_GEAR_STATE t0 → k ≠ Od.SHF_SHIFTS t0 →
        k ≠ Od.SHF_SHIFT_CNT_STATUS → k ≠ Od.SHF_SHIFT_FAILS t0 → k ≠ Od.SHF_SHIFT_STEP t0 →
        k ≠ Od.SHF_SHIFT_TIME_ms t0 → t.get k = s.get k) ∧
  (∀ (s t : State) (dt : Nat) (who : Requester) (ch : Fin 8) (value : BitVec 32),
    exec (.iSetWrite dt who ch value) s = .next t →
      s.changesOnly t [.od, .tb, .out, .log, .gbx, .sessions] ∧
      ∀ k, noAccess k → (∀ x, x < 24 → k ≠ Od.LU_REF x) → k ≠ Od.SOL_I_SET ch → k ≠ Od.SOL_SOL_STATUS ch →
        t.get k = s.get k) ∧
  (∀ (s t : State) (dt : Nat) (v : Rat),
    exec (.ibBelow38V dt v) s = .next t →
      s.changesOnly t [.od, .tb, .out, .log, .cells, .legs, .axes, .gbx, .aux] ∧
      ∀ k, (∀ x, x < 8 → k ≠ Od.AX_AXIS_STATUS x) → (∀ x, x < 8 → k ≠ Od.AX_I_ALPHA x) →
        (∀ x, x < 8 → k ≠ Od.AX_I_BETA x) → (∀ x, x < 8 → k ≠ Od.AX_PSI_ALPHA x) →
        (∀ x, x < 8 → k ≠ Od.AX_PSI_BETA x) → (∀ x, x < 8 → k ≠ Od.AX_TQ_REF x) → k ≠ Od.CNT_CNT_OVF_MAP →
        k ≠ Od.CNV_V_IB → (∀ x, x < 24 → k ≠ Od.LU_REF x) → (∀ x, x < 15 → k ≠ Od.OBS_ASC_TIME_ms x) →
        (∀ x, x < 15 → k ≠ Od.OBS_OBS_CNT_STATUS x) → (∀ x, x < 8 → k ≠ Od.OBS_OBS_STATUS x) →
        (∀ x, x < 2 → k ≠ Od.PRK_PARK_CNT_STATUS x) → (∀ x, x < 2 → k ≠ Od.PRK_PARK_STATE x) →
        (∀ x, x < 2 → k ≠ Od.PRK_UNCOMMANDED x) → (∀ x, x < 50 → k ≠ Od.SH_CH_STATUS x) →
        (∀ x, x < 8 → k ≠ Od.SOL_DUTY x) → (∀ x, x < 8 → k ≠ Od.SOL_ENERGISATIONS x) →
        (∀ x, x < 8 → k ≠ Od.SOL_I_SET x) → (∀ x, x < 8 → k ≠ Od.SOL_SOL_CNT_STATUS x) →
        (∀ x, x < 8 → k ≠ Od.SOL_SOL_STATUS x) → t.get k = s.get k) ∧
  (∀ (s t : State) (dt : Nat) (ch : Fin 8) (i : Rat),
    exec (.solenoidOvercurrent dt ch i) s = .next t →
      s.changesOnly t [.od, .tb, .out, .log, .cells, .legs, .axes, .gbx] ∧
      ∀ k, (∀ x, x < 8 → k ≠ Od.AX_AXIS_STATUS x) → (∀ x, x < 8 → k ≠ Od.AX_I_ALPHA x) →
        (∀ x, x < 8 → k ≠ Od.AX_I_BETA x) → (∀ x, x < 8 → k ≠ Od.AX_PSI_ALPHA x) →
        (∀ x, x < 8 → k ≠ Od.AX_PSI_BETA x) → (∀ x, x < 8 → k ≠ Od.AX_TQ_REF x) → k ≠ Od.CNT_CNT_OVF_MAP →
        (∀ x, x < 24 → k ≠ Od.LU_REF x) → (∀ x, x < 15 → k ≠ Od.OBS_ASC_TIME_ms x) →
        (∀ x, x < 15 → k ≠ Od.OBS_OBS_CNT_STATUS x) → (∀ x, x < 8 → k ≠ Od.OBS_OBS_STATUS x) →
        (∀ x, x < 2 → k ≠ Od.PRK_PARK_CNT_STATUS x) → (∀ x, x < 2 → k ≠ Od.PRK_PARK_STATE x) →
        (∀ x, x < 2 → k ≠ Od.PRK_UNCOMMANDED x) → (∀ x, x < 50 → k ≠ Od.SH_CH_STATUS x) → k ≠ Od.SOL_DUTY ch →
        k ≠ Od.SOL_ENERGISATIONS ch → k ≠ Od.SOL_I_ACT ch → (∀ x, x < 8 → k ≠ Od.SOL_I_SET x) →
        k ≠ Od.SOL_SOL_CNT_STATUS ch → k ≠ Od.SOL_SOL_FAULTS ch → (∀ x, x < 8 → k ≠ Od.SOL_SOL_STATUS x) →
        t.get k = s.get k) ∧
  (∀ (s t : State) (dt : Nat) (ch : Fin 8),
    exec (.solenoidOpenLoad dt ch) s = .next t →
      s.changesOnly t [.od, .tb, .out, .log, .cells, .legs, .axes, .gbx] ∧
      ∀ k, (∀ x, x < 8 → k ≠ Od.AX_AXIS_STATUS x) → (∀ x, x < 8 → k ≠ Od.AX_I_ALPHA x) →
        (∀ x, x < 8 → k ≠ Od.AX_I_BETA x) → (∀ x, x < 8 → k ≠ Od.AX_PSI_ALPHA x) →
        (∀ x, x < 8 → k ≠ Od.AX_PSI_BETA x) → (∀ x, x < 8 → k ≠ Od.AX_TQ_REF x) → k ≠ Od.CNT_CNT_OVF_MAP →
        (∀ x, x < 24 → k ≠ Od.LU_REF x) → (∀ x, x < 15 → k ≠ Od.OBS_ASC_TIME_ms x) →
        (∀ x, x < 15 → k ≠ Od.OBS_OBS_CNT_STATUS x) → (∀ x, x < 8 → k ≠ Od.OBS_OBS_STATUS x) →
        (∀ x, x < 2 → k ≠ Od.PRK_PARK_CNT_STATUS x) → (∀ x, x < 2 → k ≠ Od.PRK_PARK_STATE x) →
        (∀ x, x < 2 → k ≠ Od.PRK_UNCOMMANDED x) → (∀ x, x < 50 → k ≠ Od.SH_CH_STATUS x) → k ≠ Od.SOL_DUTY ch →
        k ≠ Od.SOL_ENERGISATIONS ch → (∀ x, x < 8 → k ≠ Od.SOL_I_SET x) → k ≠ Od.SOL_SOL_CNT_STATUS ch →
        k ≠ Od.SOL_SOL_FAULTS ch → (∀ x, x < 8 → k ≠ Od.SOL_SOL_STATUS x) → t.get k = s.get k) ∧
  (∀ (s t : State) (dt : Nat) (ch : Fin 8),
    exec (.solenoidDeviation dt ch) s = .next t →
      s.changesOnly t [.od, .tb, .out, .log] ∧
      ∀ k, k ≠ Od.SOL_SOL_STATUS ch → t.get k = s.get k) ∧
  (∀ (s t : State) (dt : Nat) (who : Requester) (t0 : Fin 2),
    exec (.parkEngageCmd dt who t0) s = .next t →
      s.changesOnly t [.od, .tb, .out, .log, .cells, .axes, .gbx, .sessions] ∧
      ∀ k, noAccess k → (∀ x, x < 8 → k ≠ Od.AX_AXIS_STATUS x) → (∀ x, x < 8 → k ≠ Od.AX_I_ALPHA x) →
        (∀ x, x < 8 → k ≠ Od.AX_I_BETA x) → (∀ x, x < 8 → k ≠ Od.AX_PSI_ALPHA x) →
        (∀ x, x < 8 → k ≠ Od.AX_PSI_BETA x) → (∀ x, x < 8 → k ≠ Od.AX_TQ_REF x) → (∀ x, x < 24 → k ≠ Od.LU_REF x) →
        (∀ x, x < 8 → k ≠ Od.OBS_OBS_STATUS x) → k ≠ Od.PRK_PARK_CMD t0 → k ≠ Od.PRK_PARK_STATE t0 →
        (∀ x, x < 8 → k ≠ Od.SOL_DUTY x) → (∀ x, x < 8 → k ≠ Od.SOL_ENERGISATIONS x) →
        (∀ x, x < 8 → k ≠ Od.SOL_I_SET x) → (∀ x, x < 8 → k ≠ Od.SOL_SOL_CNT_STATUS x) →
        (∀ x, x < 8 → k ≠ Od.SOL_SOL_STATUS x) → t.get k = s.get k) ∧
  (∀ (s t : State) (dt : Nat) (who : Requester) (t0 : Fin 2),
    exec (.parkReleaseCmd dt who t0) s = .next t →
      s.changesOnly t [.od, .tb, .out, .log, .cells, .axes, .gbx, .sessions] ∧
      ∀ k, noAccess k → (∀ x, x < 8 → k ≠ Od.AX_AXIS_STATUS x) → (∀ x, x < 8 → k ≠ Od.AX_I_ALPHA x) →
        (∀ x, x < 8 → k ≠ Od.AX_I_BETA x) → (∀ x, x < 8 → k ≠ Od.AX_PSI_ALPHA x) →
        (∀ x, x < 8 → k ≠ Od.AX_PSI_BETA x) → (∀ x, x < 8 → k ≠ Od.AX_TQ_REF x) → (∀ x, x < 24 → k ≠ Od.LU_REF x) →
        (∀ x, x < 8 → k ≠ Od.OBS_OBS_STATUS x) → k ≠ Od.PRK_PARK_CMD t0 → k ≠ Od.PRK_PARK_STATE t0 →
        (∀ x, x < 8 → k ≠ Od.SOL_DUTY x) → (∀ x, x < 8 → k ≠ Od.SOL_ENERGISATIONS x) →
        (∀ x, x < 8 → k ≠ Od.SOL_I_SET x) → (∀ x, x < 8 → k ≠ Od.SOL_SOL_CNT_STATUS x) →
        (∀ x, x < 8 → k ≠ Od.SOL_SOL_STATUS x) → t.get k = s.get k) ∧
  (∀ (s t : State) (dt : Nat) (t0 : Fin 2),
    exec (.parkPositionConfirm dt t0) s = .next t →
      s.changesOnly t [.od, .tb, .out, .log, .cells, .legs, .gbx] ∧
      ∀ k, k ≠ Od.CNT_CNT_OVF_MAP → (∀ x, x < 15 → k ≠ Od.OBS_ASC_TIME_ms x) →
        (∀ x, x < 15 → k ≠ Od.OBS_OBS_CNT_STATUS x) → k ≠ Od.PRK_PARK_CNT_STATUS t0 → k ≠ Od.PRK_PARK_OPS t0 →
        k ≠ Od.PRK_PARK_STATE t0 → (∀ x, x < 50 → k ≠ Od.SH_CH_STATUS x) → t.get k = s.get k) ∧
  (∀ (s t : State) (dt : Nat) (t0 : Fin 2),
    exec (.pawlOnTooth dt t0) s = .next t →
      s.changesOnly t [.od, .tb, .out, .log, .gbx] ∧
      ∀ k, (∀ x, x < 8 → k ≠ Od.AX_TQ_REF x) → t.get k = s.get k) ∧
  (∀ (s t : State) (dt : Nat) (t0 : Fin 2),
    exec (.parkReleaseTimeout dt t0) s = .next t →
      s.changesOnly t [.od, .tb, .out, .log, .cells, .axes, .gbx] ∧
      ∀ k, (∀ x, x < 8 → k ≠ Od.AX_AXIS_STATUS x) → (∀ x, x < 8 → k ≠ Od.AX_I_ALPHA x) →
        (∀ x, x < 8 → k ≠ Od.AX_I_BETA x) → (∀ x, x < 8 → k ≠ Od.AX_PSI_ALPHA x) →
        (∀ x, x < 8 → k ≠ Od.AX_PSI_BETA x) → (∀ x, x < 8 → k ≠ Od.AX_TQ_REF x) → k ≠ Od.CNT_CNT_OVF_MAP →
        (∀ x, x < 24 → k ≠ Od.LU_REF x) → (∀ x, x < 8 → k ≠ Od.OBS_OBS_STATUS x) → k ≠ Od.PRK_PARK_CNT_STATUS t0 →
        k ≠ Od.PRK_PARK_FAILS t0 → k ≠ Od.PRK_PARK_STATE t0 → (∀ x, x < 8 → k ≠ Od.SOL_DUTY x) →
        (∀ x, x < 8 → k ≠ Od.SOL_ENERGISATIONS x) → (∀ x, x < 8 → k ≠ Od.SOL_I_SET x) →
        (∀ x, x < 8 → k ≠ Od.SOL_SOL_CNT_STATUS x) → (∀ x, x < 8 → k ≠ Od.SOL_SOL_STATUS x) → t.get k = s.get k) ∧
  (∀ (s t : State) (dt : Nat),
    exec (.gearStateRecoveryStart dt) s = .next t →
      s.changesOnly t [.od, .tb, .out, .log, .drives, .cells] ∧
      ∀ k, k ≠ Od.CNT_CNT_OVF_MAP → k ≠ Od.GBX_DRIVE_STATUS → k ≠ Od.GBX_RECOVERIES → t.get k = s.get k) ∧
  (∀ (s t : State) (dt : Nat),
    exec (.uvTripRelease dt) s = .next t →
      s.changesOnly t [.od, .tb, .out, .log] ∧
      ∀ k, k ≠ Od.DCL_DCL_STATUS → t.get k = s.get k) ∧
  (∀ (s t : State) (dt : Nat) (who : Requester) (leg : Fin 2) (value : BitVec 32),
    exec (.resOhmWrite dt who leg value) s = .next t →
      s.changesOnly t [.od, .tb, .out, .log, .dcl, .sessions] ∧
      ∀ k, noAccess k → k ≠ Od.DCL_RES_OHM_0 + leg → t.get k = s.get k) ∧
  (∀ (s t : State) (dt : Nat),
    exec (.brkCheckRetry dt) s = .next t →
      s.changesOnly t [.tb, .out, .log, .dcl]) ∧
  (∀ (s t : State) (dt : Nat) (who : Requester) (d : SelfRun) (value : BitVec 8),
    exec (.autoRunWrite dt who d value) s = .next t →
      s.changesOnly t [.od, .tb, .out, .log, .drives, .cells, .sessions] ∧
      ∀ k, noAccess k → k ≠ Od.AUX_AUTO_RUN → k ≠ Od.BRK_AUTO_RUN → t.get k = s.get k) ∧
  (∀ (s t : State) (dt : Nat),
    exec (.dischargeLinkSupplied dt) s = .next t →
      s.changesOnly t [.od, .tb, .out, .log, .drives, .cells, .legs, .dcl] ∧
      ∀ k, k ≠ Od.CNT_CNT_OVF_MAP → k ≠ Od.DCL_CHOP_DUTY → k ≠ Od.DCL_DCL_STATUS → k ≠ Od.DCL_DISCH_STATE →
        k ≠ Od.OBS_ASC_TIME_ms 14 → k ≠ Od.OBS_OBS_CNT_STATUS 14 → (∀ x, x < 50 → k ≠ Od.SH_CH_STATUS x) →
        t.get k = s.get k) ∧
  (∀ (s t : State) (dt : Nat),
    exec (.dischargeComplete dt) s = .next t →
      s.changesOnly t [.od, .tb, .out, .log, .drives, .cells, .legs, .dcl] ∧
      ∀ k, k ≠ Od.CNT_CNT_OVF_MAP → k ≠ Od.DCL_CHOP_DUTY → k ≠ Od.DCL_DCL_STATUS → k ≠ Od.DCL_DISCH_STATE →
        k ≠ Od.DCL_DISCH_TIME_ms → k ≠ Od.OBS_ASC_TIME_ms 14 → k ≠ Od.OBS_OBS_CNT_STATUS 14 →
        (∀ x, x < 50 → k ≠ Od.SH_CH_STATUS x) → t.get k = s.get k) ∧
  (∀ (s t : State) (dt : Nat) (i : Rat),
    exec (.dabPeakLimit dt i) s = .next t →
      s.changesOnly t [.od, .tb, .out, .log, .legs, .aux] ∧
      ∀ k, k ≠ Od.CNV_AUX_STATUS → t.get k = s.get k) ∧
  (∀ (s t : State) (dt : Nat) (pins : BitVec 2),
    exec (.vselSample dt pins) s = .next t →
      s.changesOnly t [.od, .tb, .out, .log, .aux] ∧
      ∀ k, k ≠ Od.CNT_CNT_OVF_MAP → k ≠ Od.CNV_AUX_CNT_STATUS → k ≠ Od.CNV_AUX_STATUS → k ≠ Od.CNV_VR_TARGET →
        k ≠ Od.CNV_VSEL_CHANGES → k ≠ Od.CNV_VSEL_CODE → t.get k = s.get k) ∧
  (∀ (s t : State) (dt : Nat) (who : Requester) (value : BitVec 8),
    exec (.vrSrcWrite dt who value) s = .next t →
      s.changesOnly t [.od, .tb, .out, .log, .sessions] ∧
      ∀ k, noAccess k → k ≠ Od.CNV_AUX_STATUS → k ≠ Od.CNV_VR_SRC → k ≠ Od.CNV_VR_TARGET → t.get k = s.get k) ∧
  (∀ (s t : State) (dt : Nat) (who : Requester) (value : BitVec 32),
    exec (.vrCmdWrite dt who value) s = .next t →
      s.changesOnly t [.od, .tb, .out, .log, .sessions] ∧
      ∀ k, noAccess k → k ≠ Od.CNV_AUX_STATUS → k ≠ Od.CNV_VR_CMD → k ≠ Od.CNV_VR_TARGET → t.get k = s.get k) ∧
  (∀ (s t : State) (dt : Nat) (who : Requester) (code : Fin 4) (value : BitVec 32),
    exec (.vrSetWrite dt who code value) s = .next t →
      s.changesOnly t [.od, .tb, .out, .log, .sessions] ∧
      ∀ k, noAccess k → k ≠ Od.CNV_AUX_STATUS → k ≠ Od.CNV_VR_SET code → k ≠ Od.CNV_VR_TARGET → t.get k = s.get k) ∧
  (∀ (s t : State) (dt : Nat) (v : Rat),
    exec (.loadReleaseEntry dt v) s = .next t →
      s.changesOnly t [.od, .tb, .out, .log, .legs, .aux] ∧
      ∀ k, k ≠ Od.CNT_CNT_OVF_MAP → k ≠ Od.CNV_AUX_CNT_STATUS → k ≠ Od.CNV_AUX_STATUS → k ≠ Od.CNV_RELEASES →
        k ≠ Od.CNV_V_VR → (∀ x, x < 50 → k ≠ Od.SH_CH_STATUS x) → t.get k = s.get k) ∧
  (∀ (s t : State) (dt : Nat) (v : Rat),
    exec (.loadReleaseExit dt v) s = .next t →
      s.changesOnly t [.od, .tb, .out, .log, .aux] ∧
      ∀ k, k ≠ Od.CNV_AUX_STATUS → k ≠ Od.CNV_V_VR → t.get k = s.get k) ∧
  (∀ (s t : State) (dt : Nat) (hz : Vector Rat 8) (phase : Rat),
    exec (.syncInLock dt hz phase) s = .next t →
      s.changesOnly t [.od, .tb, .out, .log, .aux] ∧
      ∀ k, k ≠ Od.CNV_AUX_STATUS → k ≠ Od.CNV_F_SYNC_IN → t.get k = s.get k) ∧
  (∀ (s t : State) (r : SyncReading),
    exec (.syncInLoss r) s = .next t →
      s.changesOnly t [.od, .tb, .out, .log, .aux] ∧
      ∀ k, k ≠ Od.CNT_CNT_OVF_MAP → k ≠ Od.CNV_AUX_CNT_STATUS → k ≠ Od.CNV_AUX_STATUS → k ≠ Od.CNV_F_SYNC_IN →
        k ≠ Od.CNV_SYNC_LOSSES → t.get k = s.get k) ∧
  (∀ (s t : State) (dt : Nat) (who : Requester) (value : BitVec 8),
    exec (.aux48EnWrite dt who value) s = .next t →
      s.changesOnly t [.od, .tb, .out, .log, .sessions] ∧
      ∀ k, noAccess k → k ≠ Od.CNV_AUX48_EN → k ≠ Od.CNV_AUX_STATUS → t.get k = s.get k) ∧
  (∀ (s t : State) (dt : Nat) (i : Rat),
    exec (.aux48Overcurrent dt i) s = .next t →
      s.changesOnly t [.od, .tb, .out, .log, .aux] ∧
      ∀ k, k ≠ Od.CNV_AUX_STATUS → k ≠ Od.CNV_I_AUX48 → t.get k = s.get k) ∧
  (∀ (s t : State) (dt : Nat) (v : Rat),
    exec (.ibOvervoltagePause dt v) s = .next t →
      s.changesOnly t [.od, .tb, .out, .log, .links, .cells, .legs, .aux] ∧
      ∀ k, k ≠ Od.CNT_CNT_OVF_MAP → k ≠ Od.CNV_AUX_STATUS → k ≠ Od.CNV_V_IB →
        (∀ x, x < 15 → k ≠ Od.OBS_ASC_TIME_ms x) → (∀ x, x < 15 → k ≠ Od.OBS_OBS_CNT_STATUS x) →
        (∀ x, x < 50 → k ≠ Od.SH_CH_STATUS x) → t.get k = s.get k) ∧
  (∀ (s t : State) (dt : Nat) (duty : Rat),
    exec (.pilotDutyChange dt duty) s = .next t →
      s.changesOnly t [.od, .tb, .out, .log, .chg] ∧
      ∀ k, k ≠ Od.CHR_AC_I_LIM_ACT → k ≠ Od.CHR_CHG_STATUS → k ≠ Od.CHR_PILOT_DUTY → k ≠ Od.CHR_PILOT_I →
        k ≠ Od.LU_OUT_MAX 19 → t.get k = s.get k) ∧
  (∀ (s t : State) (dt : Nat),
    exec (.chargeSessionOpen dt) s = .next t →
      s.changesOnly t [.od, .tb, .out, .log, .chg] ∧
      ∀ k, k ≠ Od.CHG_SESSION_STEP → k ≠ Od.CHR_AC_I_LIM_ACT → k ≠ Od.LU_OUT_MAX 19 → t.get k = s.get k) ∧
  (∀ (s t : State) (dt : Nat),
    exec (.autoChargeStart dt) s = .next t →
      s.changesOnly t [.tb, .out, .log, .drives, .cells]) ∧
  (∀ (s t : State) (dt : Nat),
    exec (.acWaitTimeout dt) s = .next t →
      s.changesOnly t [.od, .tb, .out, .log, .chg] ∧
      ∀ k, k ≠ Od.CHG_SESSION_STEP → k ≠ Od.CHR_CHG_STATUS → t.get k = s.get k) ∧
  (∀ (s t : State) (dt : Nat) (packFrame : Bool) (data : BitVec 64),
    exec (.bmsMessageReceive dt packFrame data) s = .next t →
      s.changesOnly t [.od, .tb, .out, .log, .links, .cells, .legs, .stageIn, .chg, .chans] ∧
      ∀ k, k ≠ Od.CHG_SESSION_STEP → k ≠ Od.CHR_AC_PHASES → k ≠ Od.CHR_CHG_STATUS → k ≠ Od.CNT_CNT_OVF_MAP →
        k ≠ Od.CNV_DAB_PHASE → k ≠ Od.HV_BMS_CV_V → k ≠ Od.HV_BMS_FLAGS → k ≠ Od.HV_BMS_I_CHG → k ≠ Od.HV_BMS_I_DIS →
        k ≠ Od.HV_BMS_V_PACK → k ≠ Od.HV_HV_STATE → (∀ x, x < 15 → k ≠ Od.OBS_ASC_TIME_ms x) →
        (∀ x, x < 15 → k ≠ Od.OBS_OBS_CNT_STATUS x) → (∀ x, x < 50 → k ≠ Od.SH_CH_STATUS x) → t.get k = s.get k) ∧
  (∀ (s t : State) (dt : Nat),
    exec (.moduleStatusSend dt) s = .next t →
      s.changesOnly t [.od, .tb, .out, .log, .chg, .chans] ∧
      ∀ k, k ≠ Od.CAN_CAN_CNT_STATUS 2 → (∀ x, x < 4 → k ≠ Od.CAN_SLOT_REFUSALS x) →
        (∀ x, x < 4 → k ≠ Od.CAN_STALE_DROPS x) → k ≠ Od.CNT_CNT_OVF_MAP → t.get k = s.get k) ∧
  (∀ (s t : State) (dt : Nat),
    exec (.svcPressRelease dt) s = .next t →
      s.changesOnly t [.od, .tb, .out, .log, .path] ∧
      ∀ k, k ≠ Od.CNT_CNT_OVF_MAP → k ≠ Od.LV_LV_CNT_STATUS → k ≠ Od.LV_LV_STATUS → k ≠ Od.LV_SVC_LAST_ms →
        k ≠ Od.LV_SVC_PRESSES → t.get k = s.get k) ∧
  (∀ (s t : State) (dt : Nat),
    exec (.svcHold8s dt) s = .next t →
      s.changesOnly t [.tb, .out, .log, .path]) ∧
  (∀ (s t : State) (dt : Nat) (who : Requester) (value : BitVec 8),
    exec (.peatCmdWrite dt who value) s = .next t →
      s.changesOnly t [.od, .tb, .out, .log, .path, .sessions, .cap] ∧
      ∀ k, noAccess k → k ≠ Od.BKP_BKP15 → k ≠ Od.CAP_CAPTURES → k ≠ Od.CAP_CAP_CNT_STATUS → k ≠ Od.CAP_CAP_STATE →
        k ≠ Od.CAP_FIRST_TB → k ≠ Od.CAP_ROWS_STORED → k ≠ Od.CAP_TRIG_TB → k ≠ Od.LOG_EMCY_SUPPRESSED →
        k ≠ Od.LOG_LOG_STATUS → k ≠ Od.LV_ATTN_CODE → k ≠ Od.LV_LV_STATUS → t.get k = s.get k) ∧
  (∀ (s t : State) (dt : Nat) (who : Requester) (value : BitVec 8),
    exec (.attnClearWrite dt who value) s = .next t →
      s.changesOnly t [.od, .tb, .out, .log, .sessions] ∧
      ∀ k, noAccess k → k ≠ Od.LV_ATTN_CODE → k ≠ Od.LV_LV_STATUS → t.get k = s.get k) ∧
  (∀ (s t : State) (dt : Nat),
    exec (.fenRoundTrigger dt) s = .next t →
      s.changesOnly t [.od, .tb, .out, .log, .seqs, .thermal] ∧
      ∀ k, k ≠ Od.CNT_CNT_OVF_MAP → (∀ x, x < 4 → k ≠ Od.GC_GC_STATUS x) → (∀ x, x < 4 → k ≠ Od.GC_SUSPENDS x) →
        (∀ x, x < 8 → k ≠ Od.SQ_SQ_STATUS x) → (∀ x, x < 8 → k ≠ Od.SQ_TRIG_OVERRUNS x) → t.get k = s.get k) ∧
  (∀ (s t : State) (dt : Nat),
    exec (.coolantFlowLow dt) s = .next t →
      s.changesOnly t [.od, .tb, .out, .log] ∧
      ∀ k, k ≠ Od.THM_TH_STATUS → t.get k = s.get k) ∧
  (∀ (s t : State) (dt : Nat),
    exec (.resyncCopyComplete dt) s = .next t →
      s.changesOnly t [.tb, .out, .log, .pyr]) ∧
  (∀ (s t : State) (dt : Nat),
    exec (.resyncWindowClose dt) s = .next t →
      s.changesOnly t [.od, .tb, .out, .log, .pyr] ∧
      ∀ k, k ≠ Od.PYR_PYR_STATUS → k ≠ Od.PYR_RESYNC_STATE → t.get k = s.get k) ∧
  (∀ (s t : State) (dt : Nat) (k0 : Fin 4),
    exec (.inputPairDiscrepancy dt k0) s = .next t →
      s.changesOnly t [.od, .tb, .out, .log, .safety] ∧
      ∀ k, k ≠ Od.CNT_CNT_OVF_MAP → k ≠ Od.PAIR_PAIR_FAULTS k0 → k ≠ Od.PAIR_PAIR_STATE k0 → k ≠ Od.SFS_DEMANDS →
        k ≠ Od.SFS_SF_CNT_STATUS → (∀ x, x < 6 → k ≠ Od.SFS_SF_STATE x) → t.get k = s.get k) ∧
  (∀ (s t : State) (dt : Nat) (o : Fin 2) (low : BitVec 8),
    exec (.testPulse dt o low) s = .next t →
      s.changesOnly t [.od, .tb, .out, .log, .safety] ∧
      ∀ k, k ≠ Od.CNT_CNT_OVF_MAP → (∀ x, x < 4 → k ≠ Od.PAIR_PAIR_FAULTS x) →
        (∀ x, x < 4 → k ≠ Od.PAIR_PAIR_STATE x) → k ≠ Od.SFS_DEMANDS → k ≠ Od.SFS_SF_CNT_STATUS →
        (∀ x, x < 6 → k ≠ Od.SFS_SF_STATE x) → t.get k = s.get k) ∧
  (∀ (s t : State) (dt : Nat) (k0 : Fin 4),
    exec (.releasePairOverhold dt k0) s = .next t →
      s.changesOnly t [.tb, .out, .log, .safety]) ∧
  (∀ (s t : State) (dt : Nat),
    exec (.safeParkConfirmTimeout dt) s = .next t →
      s.changesOnly t [.tb, .out, .log, .safety]) ∧
  (∀ (s t : State) (dt : Nat) (who : Requester),
    exec (.setEditOpen dt who) s = .next t →
      s.changesOnly t [.od, .tb, .out, .log, .sessions] ∧
      ∀ k, noAccess k → t.get k = s.get k) ∧
  (∀ (s t : State) (dt : Nat) (who : Requester),
    exec (.setEditDiscard dt who) s = .next t →
      s.changesOnly t [.od, .tb, .out, .log, .sessions] ∧
      ∀ k, noAccess k → t.get k = s.get k) ∧
  (∀ (s t : State) (dt : Nat) (who : Requester) (storeOk : Bool),
    exec (.setCommit dt who storeOk) s = .next t →
      s.changesOnly t [.od, .tb, .out, .log, .safety, .sessions] ∧
      ∀ k, noAccess k → k ≠ Od.SET_SET_COMMITS → k ≠ Od.SET_SET_COMMIT_TB → k ≠ Od.SET_SET_REJECT →
        k ≠ Od.SFS_SF_CNT_STATUS → t.get k = s.get k) ∧
  (∀ (s t : State) (dt : Nat) (k0 : Fin 16) (data : List Byte),
    exec (.hsfDataFrameReceive dt k0 data) s = .next t →
      s.changesOnly t [.od, .tb, .out, .log, .conns, .chans] ∧
      ∀ k, k ≠ Od.ETH_RX_FRAMES → t.get k = s.get k) ∧
  (∀ (s t : State) (dt : Nat) (k0 : Fin 16) (data : List Byte),
    exec (.hsfEchoReceive dt k0 data) s = .next t →
      s.changesOnly t [.od, .tb, .out, .log, .conns, .chans] ∧
      ∀ k, k ≠ Od.CNT_CNT_OVF_MAP → k ≠ Od.ETH_RX_FRAMES → k ≠ Od.HSF_CONN_CNT_STATUS k0 →
        (∀ x, x < 16 → k ≠ Od.HSF_CONN_FAULTS x) → k ≠ Od.HSF_CONN_STATE k0 →
        (∀ x, x < 16 → k ≠ Od.HSF_CRC_ERRORS x) → (∀ x, x < 16 → k ≠ Od.HSF_FORMAT_ERRORS x) →
        k ≠ Od.HSF_LAST_AGE_us k0 → (∀ x, x < 16 → k ≠ Od.HSF_TIME_ERRORS x) → t.get k = s.get k) ∧
  (∀ (s t : State) (dt : Nat) (k0 : Fin 16),
    exec (.hsfProducerSend dt k0) s = .next t →
      s.changesOnly t [.od, .tb, .out, .log, .conns, .chans] ∧
      ∀ k, (∀ x, x < 4 → k ≠ Od.CAN_CAN_CNT_STATUS x) → (∀ x, x < 4 → k ≠ Od.CAN_SLOT_REFUSALS x) →
        (∀ x, x < 4 → k ≠ Od.CAN_STALE_DROPS x) → k ≠ Od.CNT_CNT_OVF_MAP → k ≠ Od.ETH_TX_FRAMES →
        k ≠ Od.HSF_CONN_STATE k0 → k ≠ Od.HSF_FRAMES_OK k0 → k ≠ Od.HSF_LAST_SEQ k0 → k ≠ Od.HSF_SEQ_WRAPS k0 →
        t.get k = s.get k) ∧
  (∀ (s t : State) (dt : Nat) (k0 : Fin 16),
    exec (.hsfWatchdog dt k0) s = .next t →
      s.changesOnly t [.od, .tb, .out, .log, .conns] ∧
      ∀ k, k ≠ Od.CNT_CNT_OVF_MAP → k ≠ Od.HSF_CONN_CNT_STATUS k0 → (∀ x, x < 16 → k ≠ Od.HSF_CONN_FAULTS x) →
        k ≠ Od.HSF_CONN_STATE k0 → k ≠ Od.SFS_DEMANDS → (∀ x, x < 6 → k ≠ Od.SFS_SF_STATE x) → t.get k = s.get k) ∧
  (∀ (s t : State) (dt : Nat) (k0 : Fin 16),
    exec (.hsfProducerRestart dt k0) s = .next t →
      s.changesOnly t [.od, .tb, .out, .log, .conns] ∧
      ∀ k, k ≠ Od.HSF_CONN_STATE k0 → t.get k = s.get k) ∧
  (∀ (s t : State) (dt : Nat) (who : Requester) (n : Fin 4),
    exec (.crcStartWrite dt who n) s = .next t →
      s.changesOnly t [.od, .tb, .out, .log, .crcs, .sessions] ∧
      ∀ k, noAccess k → k ≠ Od.CRC_BYTES n → k ≠ Od.CRC_CRC_STATUS n → k ≠ Od.CRC_RESULT n → t.get k = s.get k) ∧
  (∀ (s t : State) (dt : Nat) (who : Requester) (n : Fin 4) (data : List Byte),
    exec (.crcDataWrite dt who n data) s = .next t →
      s.changesOnly t [.od, .tb, .out, .log, .crcs, .sessions] ∧
      ∀ k, noAccess k → k ≠ Od.CRC_BYTES n → k ≠ Od.CRC_CRC_STATUS n → k ≠ Od.CRC_RESULT n → t.get k = s.get k) ∧
  (∀ (s t : State) (dt : Nat) (n : Fin 4),
    exec (.crcBindingTimeout dt n) s = .next t →
      s.changesOnly t [.tb, .out, .log, .crcs]) ∧
  (∀ (s t : State) (dt : Nat),
    exec (.svcPressed dt) s = .next t →
      s.changesOnly t [.od, .tb, .out, .log, .path] ∧
      ∀ k, k ≠ Od.BKP_BKP15 → k ≠ Od.LV_LV_STATUS → t.get k = s.get k) ∧
  (∀ (s t : State) (dt : Nat) (k0 : Fin 4),
    exec (.soCurrentLimitOff dt k0) s = .next t →
      s.changesOnly t [.tb, .out, .log, .safety])

/-- A command that takes effect changes no part of the state but those listed with it, and no object but those listed
with it: every byte of the customer area outside a listed part reads as before. -/
def Obligations.FramesOfNetworksAndImages : Prop :=
  (∀ (s t : State) (dt : Nat) (c : Fin 4) (slot : Fin 16),
    exec (.canSlotStale dt c slot) s = .next t →
      s.changesOnly t [.od, .tb, .out, .log, .chans] ∧
      ∀ k, k ≠ Od.CAN_CAN_CNT_STATUS c → (∀ x, x < 4 → k ≠ Od.CAN_STALE_DROPS x) → k ≠ Od.CNT_CNT_OVF_MAP →
        t.get k = s.get k) ∧
  (∀ (s t : State) (dt : Nat) (who : Requester) (c : Fin 4),
    exec (.bridgeRxRead dt who c) s = .next t →
      s.changesOnly t [.od, .tb, .out, .log, .chans, .sessions] ∧
      ∀ k, k ≠ Od.SVC_REQUESTS → t.get k = s.get k) ∧
  (∀ (s t : State) (dt : Nat) (who : Requester) (c : Fin 4) (data : List Byte),
    exec (.bridgeTxWrite dt who c data) s = .next t →
      s.changesOnly t [.od, .tb, .out, .log, .chans, .sessions] ∧
      ∀ k, noAccess k → k ≠ Od.CAN_CAN_CNT_STATUS c → k ≠ Od.CAN_CAN_CNT_STATUS 0 →
        (∀ x, x < 4 → k ≠ Od.CAN_STALE_DROPS x) → t.get k = s.get k) ∧
  (∀ (s t : State) (dt : Nat) (c : Fin 4),
    exec (.canChannelRejoin dt c) s = .next t →
      s.changesOnly t [.od, .tb, .out, .log, .chans, .time] ∧
      ∀ k, k ≠ Od.CAN_CAN_CNT_STATUS c → (∀ x, x < 4 → k ≠ Od.CAN_STALE_DROPS x) → k ≠ Od.CNT_CNT_OVF_MAP →
        t.get k = s.get k) ∧
  (∀ (s t : State) (dt : Nat),
    exec (.canTimestampWrap dt) s = .next t →
      s.changesOnly t [.od, .tb, .out, .log] ∧
      ∀ k, k ≠ Od.TIME_TS_WRAPS → t.get k = s.get k) ∧
  (∀ (s t : State) (dt : Nat),
    exec (.timeReferenceSend dt) s = .next t →
      s.changesOnly t [.od, .tb, .fresh, .out, .log, .chans, .time] ∧
      ∀ k, k ≠ Od.CAN_CAN_CNT_STATUS 1 → (∀ x, x < 4 → k ≠ Od.CAN_SLOT_REFUSALS x) →
        (∀ x, x < 4 → k ≠ Od.CAN_STALE_DROPS x) → k ≠ Od.CNT_CNT_OVF_MAP → t.get k = s.get k) ∧
  (∀ (s t : State) (dt : Nat) (data : List Byte) (sofAgo : Nat),
    exec (.timeReferenceReceive dt data sofAgo) s = .next t →
      s.changesOnly t [.od, .tb, .out, .log, .chans, .time] ∧
      ∀ k, k ≠ Od.CNT_CNT_OVF_MAP → k ≠ Od.TIME_LAST_CORR_ns → k ≠ Od.TIME_MASTER_RANK → k ≠ Od.TIME_REFS →
        k ≠ Od.TIME_REF_MISSES → k ≠ Od.TIME_STEP_REJECTS → k ≠ Od.TIME_TAKEOVERS → k ≠ Od.TIME_TM_CNT_STATUS →
        t.get k = s.get k) ∧
  (∀ (s t : State) (dt : Nat),
    exec (.timeMasterTakeover dt) s = .next t →
      s.changesOnly t [.od, .tb, .out, .log, .time] ∧
      ∀ k, k ≠ Od.CNT_CNT_OVF_MAP → k ≠ Od.TIME_MASTER_RANK → k ≠ Od.TIME_TAKEOVERS → k ≠ Od.TIME_TM_CNT_STATUS →
        t.get k = s.get k) ∧
  (∀ (s t : State) (dt : Nat),
    exec (.globalTimeSyncLoss dt) s = .next t →
      s.changesOnly t [.od, .tb, .out, .log, .time] ∧
      ∀ k, k ≠ Od.TIME_MASTER_RANK → t.get k = s.get k) ∧
  (∀ (s t : State) (dt : Nat),
    exec (.addressClaimStart dt) s = .next t →
      s.changesOnly t [.od, .tb, .out, .log, .chans, .canA] ∧
      ∀ k, k ≠ Od.CAN_CAN_CNT_STATUS 0 → (∀ x, x < 4 → k ≠ Od.CAN_SLOT_REFUSALS x) →
        (∀ x, x < 4 → k ≠ Od.CAN_STALE_DROPS x) → k ≠ Od.CNT_CNT_OVF_MAP → t.get k = s.get k) ∧
  (∀ (s t : State) (dt : Nat) (source : Byte) (name : BitVec 64),
    exec (.addressClaimReceive dt source name) s = .next t →
      s.changesOnly t [.od, .tb, .out, .log, .chans, .canA] ∧
      ∀ k, k ≠ Od.CAN_CAN_CNT_STATUS 0 → (∀ x, x < 4 → k ≠ Od.CAN_SLOT_REFUSALS x) →
        (∀ x, x < 4 → k ≠ Od.CAN_STALE_DROPS x) → k ≠ Od.CNT_CNT_OVF_MAP → t.get k = s.get k) ∧
  (∀ (s t : State) (dt : Nat),
    exec (.addressClaimTimer dt) s = .next t →
      s.changesOnly t [.tb, .out, .log, .canA]) ∧
  (∀ (s t : State) (dt : Nat) (dest : Byte) (pgn : BitVec 24) (fromAddr : Byte),
    exec (.canARequest dt dest pgn fromAddr) s = .next t →
      s.changesOnly t [.od, .tb, .out, .log, .chans, .canA] ∧
      ∀ k, k ≠ Od.CAN_CAN_CNT_STATUS 0 → (∀ x, x < 4 → k ≠ Od.CAN_SLOT_REFUSALS x) →
        (∀ x, x < 4 → k ≠ Od.CAN_STALE_DROPS x) → k ≠ Od.CNT_CNT_OVF_MAP → t.get k = s.get k) ∧
  (∀ (s t : State) (dt : Nat),
    exec (.canAStatusSend dt) s = .next t →
      s.changesOnly t [.od, .tb, .out, .log, .chans, .canA] ∧
      ∀ k, k ≠ Od.CAN_CAN_CNT_STATUS 0 → (∀ x, x < 4 → k ≠ Od.CAN_SLOT_REFUSALS x) →
        (∀ x, x < 4 → k ≠ Od.CAN_STALE_DROPS x) → k ≠ Od.CNT_CNT_OVF_MAP → t.get k = s.get k) ∧
  (∀ (s t : State) (dt : Nat),
    exec (.emcySend dt) s = .next t →
      s.changesOnly t [.od, .tb, .out, .log, .chans] ∧
      ∀ k, k ≠ Od.CAN_CAN_CNT_STATUS 3 → (∀ x, x < 4 → k ≠ Od.CAN_SLOT_REFUSALS x) →
        (∀ x, x < 4 → k ≠ Od.CAN_STALE_DROPS x) → k ≠ Od.CNT_CNT_OVF_MAP → t.get k = s.get k) ∧
  (∀ (s t : State) (dt : Nat),
    exec (.sdoTimeout dt) s = .next t →
      s.changesOnly t [.tb, .out, .log, .sessions]) ∧
  (∀ (s t : State) (dt : Nat) (who : Requester) (data : List Byte),
    exec (.authOpenWrite dt who data) s = .next t →
      s.changesOnly t [.od, .tb, .fresh, .out, .log, .sessions] ∧
      ∀ k, noAccess k → t.get k = s.get k) ∧
  (∀ (s t : State) (dt : Nat) (who : Requester) (data : List Byte),
    exec (.authResponseWrite dt who data) s = .next t →
      s.changesOnly t [.od, .tb, .out, .log, .sessions] ∧
      ∀ k, noAccess k → k ≠ Od.AUTH_AUTH_CNT_STATUS → k ≠ Od.AUTH_AUTH_FAILS → k ≠ Od.AUTH_AUTH_OK →
        k ≠ Od.AUTH_LOCKOUTS → t.get k = s.get k) ∧
  (∀ (s t : State) (dt : Nat) (i : Fin 5),
    exec (.nonceExpiry dt i) s = .next t →
      s.changesOnly t [.tb, .out, .log, .sessions]) ∧
  (∀ (s t : State) (dt : Nat) (can : Bool),
    exec (.authLockExpiry dt can) s = .next t →
      s.changesOnly t [.tb, .out, .log, .sessions]) ∧
  (∀ (s t : State) (dt : Nat) (who : Requester) (safety : Bool) (data : List Byte),
    exec (.keyWrite dt who safety data) s = .next t →
      s.changesOnly t [.od, .tb, .out, .log, .sessions] ∧
      ∀ k, noAccess k → t.get k = s.get k) ∧
  (∀ (s t : State) (dt : Nat),
    exec (.eventLogEntry dt) s = .next t →
      s.changesOnly t [.od, .tb, .out, .log, .cap] ∧
      ∀ k, k ≠ Od.CAP_CAPTURES → k ≠ Od.CAP_CAP_CNT_STATUS → k ≠ Od.CAP_CAP_STATE → k ≠ Od.CAP_FIRST_TB →
        k ≠ Od.CAP_ROWS_STORED → k ≠ Od.CAP_TRIG_TB → k ≠ Od.CNT_CNT_OVF_MAP → k ≠ Od.LOG_EMCY_SUPPRESSED →
        k ≠ Od.LOG_LOG_STATUS → k ≠ Od.LV_ATTN_CODE → k ≠ Od.LV_LV_STATUS → t.get k = s.get k) ∧
  (∀ (s t : State) (dt : Nat) (who : Requester),
    exec (.logNextRead dt who) s = .next t →
      s.changesOnly t [.od, .tb, .out, .log, .sessions] ∧
      ∀ k, k ≠ Od.SVC_REQUESTS → t.get k = s.get k) ∧
  (∀ (s t : State) (dt : Nat) (who : Requester),
    exec (.logClearWrite dt who) s = .next t →
      s.changesOnly t [.od, .tb, .out, .log, .sessions] ∧
      ∀ k, noAccess k → k ≠ Od.LOG_LOG_ACKED → t.get k = s.get k) ∧
  (∀ (s t : State) (dt : Nat) (who : Requester),
    exec (.faultOccClearWrite dt who) s = .next t →
      s.changesOnly t [.od, .tb, .out, .log, .sessions] ∧
      ∀ k, noAccess k → t.get k = s.get k) ∧
  (∀ (s t : State) (dt : Nat),
    exec (.operatingTimeSave dt) s = .next t →
      s.changesOnly t [.tb, .out, .log, .store]) ∧
  (∀ (s t : State) (dt : Nat) (who : Requester),
    exec (.updateStart dt who) s = .next t →
      s.changesOnly t [.od, .tb, .out, .log, .sessions, .img] ∧
      ∀ k, noAccess k → k ≠ Od.IMG_UPD_BLOCK → k ≠ Od.IMG_UPD_BYTES → k ≠ Od.IMG_UPD_RESULT → k ≠ Od.IMG_UPD_STATE →
        t.get k = s.get k) ∧
  (∀ (s t : State) (dt : Nat) (who : Requester),
    exec (.updateAbort dt who) s = .next t →
      s.changesOnly t [.od, .tb, .out, .log, .sessions, .img] ∧
      ∀ k, noAccess k → k ≠ Od.IMG_IMG_CNT_STATUS → k ≠ Od.IMG_UPD_FAILS → k ≠ Od.IMG_UPD_RESULT →
        k ≠ Od.IMG_UPD_STATE → t.get k = s.get k) ∧
  (∀ (s t : State) (dt : Nat) (who : Requester) (otherOk : Bool),
    exec (.rollbackRequest dt who otherOk) s = .next t →
      s.changesOnly t [.od, .tb, .out, .log, .sessions, .img] ∧
      ∀ k, noAccess k → k ≠ Od.IMG_IMG_CNT_STATUS → k ≠ Od.IMG_ROLLBACKS → t.get k = s.get k) ∧
  (∀ (s t : State) (dt : Nat),
    exec (.updateEraseComplete dt) s = .next t →
      s.changesOnly t [.od, .tb, .out, .log, .img] ∧
      ∀ k, k ≠ Od.ETH_TX_FRAMES → k ≠ Od.IMG_UPD_STATE → t.get k = s.get k) ∧
  (∀ (s t : State) (dt : Nat) (tid : BitVec 16) (block : BitVec 16) (data : List Byte) (programOk : Bool),
    exec (.tftpDataReceive dt tid block data programOk) s = .next t →
      s.changesOnly t [.od, .tb, .out, .log, .img] ∧
      ∀ k, k ≠ Od.CNT_CNT_OVF_MAP → k ≠ Od.ETH_RX_FRAMES → k ≠ Od.ETH_TX_FRAMES → k ≠ Od.IMG_IMG_CNT_STATUS →
        k ≠ Od.IMG_UPD_BLOCK → k ≠ Od.IMG_UPD_BYTES → k ≠ Od.IMG_UPD_FAILS → k ≠ Od.IMG_UPD_RESULT →
        k ≠ Od.IMG_UPD_STATE → t.get k = s.get k) ∧
  (∀ (s t : State) (dt : Nat) (tid : BitVec 16),
    exec (.tftpErrorReceive dt tid) s = .next t →
      s.changesOnly t [.od, .tb, .out, .log, .img] ∧
      ∀ k, k ≠ Od.CNT_CNT_OVF_MAP → k ≠ Od.ETH_RX_FRAMES → k ≠ Od.ETH_TX_FRAMES → k ≠ Od.IMG_IMG_CNT_STATUS →
        k ≠ Od.IMG_UPD_FAILS → k ≠ Od.IMG_UPD_RESULT → k ≠ Od.IMG_UPD_STATE → t.get k = s.get k) ∧
  (∀ (s t : State) (dt : Nat),
    exec (.tftpTimeout dt) s = .next t →
      s.changesOnly t [.od, .tb, .out, .log, .img] ∧
      ∀ k, k ≠ Od.CNT_CNT_OVF_MAP → k ≠ Od.ETH_TX_FRAMES → k ≠ Od.IMG_IMG_CNT_STATUS → k ≠ Od.IMG_UPD_FAILS →
        k ≠ Od.IMG_UPD_RESULT → k ≠ Od.IMG_UPD_STATE → t.get k = s.get k) ∧
  (∀ (s t : State) (dt : Nat) (readOk : Bool) (markerOk : Bool),
    exec (.updateVerifyComplete dt readOk markerOk) s = .next t →
      s.changesOnly t [.od, .tb, .out, .log, .img] ∧
      ∀ k, k ≠ Od.CNT_CNT_OVF_MAP → k ≠ Od.IMG_IMG_CNT_STATUS → k ≠ Od.IMG_UPDATES → k ≠ Od.IMG_UPD_FAILS →
        k ≠ Od.IMG_UPD_RESULT → k ≠ Od.IMG_UPD_STATE → t.get k = s.get k) ∧
  (∀ (s t : State) (dt : Nat) (who : Requester),
    exec (.captureArm dt who) s = .next t →
      s.changesOnly t [.od, .tb, .out, .log, .sessions, .cap] ∧
      ∀ k, noAccess k → k ≠ Od.CAP_CAPTURES → k ≠ Od.CAP_CAP_CNT_STATUS → k ≠ Od.CAP_CAP_STATE → k ≠ Od.CAP_FIRST_TB →
        k ≠ Od.CAP_ROWS_STORED → k ≠ Od.CAP_TRIG_TB → t.get k = s.get k) ∧
  (∀ (s t : State) (dt : Nat) (who : Requester),
    exec (.captureForce dt who) s = .next t →
      s.changesOnly t [.od, .tb, .out, .log, .sessions, .cap] ∧
      ∀ k, noAccess k → k ≠ Od.CAP_CAPTURES → k ≠ Od.CAP_CAP_CNT_STATUS → k ≠ Od.CAP_CAP_STATE → k ≠ Od.CAP_FIRST_TB →
        k ≠ Od.CAP_ROWS_STORED → k ≠ Od.CAP_TRIG_TB → t.get k = s.get k) ∧
  (∀ (s t : State) (dt : Nat) (who : Requester),
    exec (.captureStop dt who) s = .next t →
      s.changesOnly t [.od, .tb, .out, .log, .sessions, .cap] ∧
      ∀ k, noAccess k → k ≠ Od.CAP_CAPTURES → k ≠ Od.CAP_CAP_CNT_STATUS → k ≠ Od.CAP_CAP_STATE → k ≠ Od.CAP_FIRST_TB →
        k ≠ Od.CAP_ROWS_STORED → k ≠ Od.CAP_TRIG_TB → t.get k = s.get k) ∧
  (∀ (s t : State) (dt : Nat) (portTakes : Bool),
    exec (.captureRow dt portTakes) s = .next t →
      s.changesOnly t [.od, .tb, .out, .log, .cap] ∧
      ∀ k, k ≠ Od.CAP_CAPTURES → k ≠ Od.CAP_CAP_CNT_STATUS → k ≠ Od.CAP_CAP_STATE → k ≠ Od.CAP_FIRST_TB →
        k ≠ Od.CAP_ROWS_STORED → k ≠ Od.CAP_STREAM_DROPS → k ≠ Od.CAP_STREAM_SEQ → k ≠ Od.CAP_TRIG_TB →
        k ≠ Od.CNT_CNT_OVF_MAP → k ≠ Od.ETH_TX_FRAMES → t.get k = s.get k) ∧
  (∀ (s t : State) (dt : Nat) (who : Requester) (len : Nat),
    exec (.captureReadData dt who len) s = .next t →
      s.changesOnly t [.od, .tb, .out, .log, .sessions] ∧
      ∀ k, k ≠ Od.SVC_REQUESTS → t.get k = s.get k) ∧
  (∀ (s t : State) (dt : Nat),
    exec (.producerHeartbeat dt) s = .next t →
      s.changesOnly t [.od, .tb, .out, .log, .chans] ∧
      ∀ k, k ≠ Od.CAN_CAN_CNT_STATUS 3 → (∀ x, x < 4 → k ≠ Od.CAN_STALE_DROPS x) → k ≠ Od.CNT_CNT_OVF_MAP →
        t.get k = s.get k) ∧
  (∀ (s t : State) (dt : Nat),
    exec (.ethernetLinkUp dt) s = .next t →
      s.changesOnly t [.tb, .out, .log, .sessions])

/-- What a reaction of a drive leaves alone: the parts not listed, and every object outside the reaction, the command's
own objects and the queued writes of the loop units. A device reset leaves every kept object and sets the others to
their defaults. -/
def Obligations.FramesOfReactionsPowertrain : Prop :=
  (∀ (s t : State) (dt : Nat) (l : Link),
    exec (.linkLossIslandC dt l) s = .next t →
      s.changesOnly t [.od, .tb, .fresh, .out, .log, .links, .drives, .cells, .legs, .store, .seqs, .axes, .traction, .pifs, .lus, .stageIn, .lvCommand, .gbx, .dcl, .aux, .chg, .path] ∧
      ∀ k, noReaction k → (∀ x, x < 15 → k ≠ Od.OBS_ASC_COUNT x) → (∀ x, x < 12 → k ≠ Od.PIF_PIF_STATUS x) →
        (∀ x, x < 12 → k ≠ Od.PIF_POSITION x) → s.unqueued k → t.get k = s.get k) ∧
  (∀ (s t : State) (dt : Nat) (m : Memory),
    exec (.eccUncorrectableError dt m) s = .next t →
      s.keepsParts t [.bringup, .clocks, .shunts, .gcps, .pifs, .pool, .thermal, .crcs, .chans, .time, .canA, .sessions, .img, .cap, .pending] ∧
      ∀ k, noReaction k → (∀ x, x < 16 → k ≠ Od.BKP_REG x) → k ≠ Od.CAP_CAP_STATE →
        (∀ x, x < 15 → k ≠ Od.CELL_SELFTEST_RESULT x) → (∀ x, x < 24 → k ≠ Od.ENG_DISPATCHES x) →
        (∀ x, x < 24 → k ≠ Od.ENG_ENG_CNT_STATUS x) → (∀ x, x < 24 → k ≠ Od.ENG_LAST_FAIL x) →
        (∀ x, x < 24 → k ≠ Od.ENG_OOS_COUNT x) → (∀ x, x < 24 → k ≠ Od.ENG_STEALS x) →
        (∀ x, x < 24 → k ≠ Od.ENG_STEAL_TIME_MAX_ns x) → (∀ x, x < 24 → k ≠ Od.ENG_STOLEN_FROM x) →
        (∀ x, x < 16 → k ≠ Od.HSF_CONN_STATE x) → (∀ x, x < 15 → k ≠ Od.OBS_ASC_COUNT x) →
        k ≠ Od.POOL_CLAIM_CONFLICTS → k ≠ Od.POOL_POOL_CNT_STATUS → k ≠ Od.POOL_POOL_STATUS →
        k ≠ Od.POOL_STEAL_COST_MAX_ns → k ≠ Od.PYR_CONFIG_ACT → k ≠ Od.PYR_LAST_ODD_CORE → k ≠ Od.PYR_MISMATCHES →
        k ≠ Od.PYR_PYR_CNT_STATUS → k ≠ Od.PYR_PYR_STATUS → k ≠ Od.PYR_RESYNC_STATE →
        (∀ x, x < 6 → k ≠ Od.PYR_TQO_ASSERTIONS x) → k ≠ Od.RET_DISCARDED → k ≠ Od.SFS_DEMANDS →
        (∀ x, x < 6 → k ≠ Od.SFS_SF_STATE x) → k ≠ Od.SYS_ECC_UNCORRECTED → k ≠ Od.SYS_MEM_STATUS →
        (∀ x, x < 59 → k ≠ Od.TASK_START_LAT_MAX_us x) → s.unqueued k → m ≠ .paramStore k → t.get k = s.get k) ∧
  (∀ (s t : State) (dt : Nat) (m : ClockMonitor) (hz : Nat),
    exec (.clockMonitorWindow dt m hz) s = .next t →
      s.keepsParts t [.bringup, .cust, .shunts, .gcps, .engines, .tasks, .pool, .thermal, .safety, .conns, .img, .cap, .pending] ∧
      ∀ k, noReaction k → k ≠ Od.AXLE_AXLE_TQ_SET → (∀ x, x < 15 → k ≠ Od.CELL_SELFTEST_RESULT x) →
        k ≠ Od.ETH_ETH_STATUS → k ≠ Od.ETH_LINK_DROPS → (∀ x, x < 15 → k ≠ Od.OBS_ASC_COUNT x) →
        (∀ x, x < 6 → k ≠ Od.OWN_OWNER x) → k ≠ Od.OWN_OWN_STATUS → (∀ x, x < 12 → k ≠ Od.PIF_PIF_STATUS x) →
        (∀ x, x < 12 → k ≠ Od.PIF_POSITION x) → k ≠ Od.PYR_PYR_CNT_STATUS → k ≠ Od.PYR_PYR_STATUS →
        (∀ x, x < 6 → k ≠ Od.PYR_TQO_ASSERTIONS x) → k ≠ Od.SYS_CLK_FAULT_LATCH → k ≠ Od.SYS_CLK_STATUS →
        k ≠ Od.TIME_MASTER_RANK → s.unqueued k → freqKey (monitorBit m) ≠ some k → t.get k = s.get k) ∧
  (∀ (s t : State) (dt : Nat),
    exec (.mainPowerOnReset dt) s = .next t →
      s.keepsParts t [.fresh, .store, .cust, .pending] ∧
      ∀ k, noReset k → safeKey k = false → t.get k = s.get k ∨ keptKey k = false ∧ t.get k = dictDefault k) ∧
  (∀ (s t : State) (dt : Nat),
    exec (.islandSupplyRemoval dt) s = .next t →
      s.keepsParts t [.fresh, .clocks, .cust, .shunts, .gcps, .pool, .thermal, .pyr, .safety, .conns, .crcs, .chans, .time, .canA, .sessions, .cap, .pending] ∧
      ∀ k, noReaction k → (∀ x, x < 12 → k ≠ Od.PIF_PIF_STATUS x) → (∀ x, x < 12 → k ≠ Od.PIF_POSITION x) →
        k ≠ Od.POOL_POOL_STATUS → (∀ x y, x < 8 → y < 32 → k ≠ Od.SQ_RESULT x y) → k ≠ Od.SUP_ACTIVE_SOURCE →
        k ≠ Od.SUP_HOLDUP_EVENTS → k ≠ Od.SUP_SOURCE_CHANGES → k ≠ Od.SUP_SUPPLY_STATUS → s.unqueued k →
        t.get k = s.get k) ∧
  (∀ (s t : State) (f : FeedReading),
    exec (.aonPowerOnReset f) s = .next t →
      s.keepsParts t [.fresh, .store, .pending] ∧
      ∀ k, noReset k → safeKey k = false → (∀ x, k ≠ Od.BKP_REG x) → k ≠ Od.RST_RESET_COUNT →
        k ≠ Od.RST_RESET_HOLDOFFS → k ≠ Od.SUP_ACTIVE_SOURCE → t.get k = s.get k ∨ keptKey k = false ∧
        t.get k = dictDefault k) ∧
  (∀ (s t : State) (dt : Nat) (ns : Nat),
    exec (.nrstAssert dt ns) s = .next t →
      s.keepsParts t [.store, .cust, .pending] ∧
      ∀ k, noReset k → safeKey k = false → t.get k = s.get k ∨ keptKey k = false ∧ t.get k = dictDefault k) ∧
  (∀ (s t : State) (dt : Nat),
    exec (.deferredResetProceed dt) s = .next t →
      s.keepsParts t [.fresh, .store, .cust, .pending] ∧
      ∀ k, noReset k → safeKey k = false → k ≠ Od.RST_RESET_HOLDOFFS → t.get k = s.get k ∨ keptKey k = false ∧
        t.get k = dictDefault k) ∧
  (∀ (s t : State) (dt : Nat) (rejected : List Nat) (setOk : Bool),
    exec (.parameterStoreLoaded dt rejected setOk) s = .next t →
      s.keepsParts t [.fresh, .clocks, .cust, .shunts, .gcps, .pifs, .engines, .tasks, .thermal, .pyr, .conns, .crcs, .chans, .canA, .img, .cap, .pending]) ∧
  (∀ (s t : State) (dt : Nat) (d : Drive) (checksOk : Bool),
    exec (.driveReadinessComplete dt d checksOk) s = .next t →
      s.changesOnly t [.od, .tb, .out, .log, .links, .drives, .cells, .legs, .store, .seqs, .axes, .traction, .lus, .stageIn, .lvCommand, .gbx, .dcl, .aux, .chg, .path] ∧
      ∀ k, noReaction k → s.unqueued k → t.get k = s.get k) ∧
  (∀ (s t : State) (dt : Nat) (who : Requester) (mask : BitVec 8),
    exec (.driveReset dt who mask) s = .next t →
      s.changesOnly t [.od, .tb, .out, .log, .links, .drives, .cells, .legs, .store, .seqs, .axes, .traction, .pifs, .lus, .stageIn, .lvCommand, .gbx, .dcl, .aux, .chg, .path, .sessions] ∧
      ∀ k, noReaction k → noAccess k → (∀ x, x < 15 → k ≠ Od.OBS_ASC_COUNT x) →
        (∀ x, x < 12 → k ≠ Od.PIF_PIF_STATUS x) → s.unqueued k → t.get k = s.get k) ∧
  (∀ (s t : State) (dt : Nat) (c : Cell) (pos : Rat) (neg : Rat),
    exec (.gateSupplyUndervoltage dt c pos neg) s = .next t →
      s.changesOnly t [.od, .tb, .out, .log, .links, .drives, .cells, .legs, .store, .seqs, .axes, .traction, .lus, .stageIn, .lvCommand, .gbx, .dcl, .aux, .chg, .path] ∧
      ∀ k, noReaction k → k ≠ Od.CELL_CELL_STATUS c → k ≠ Od.CELL_VGS_SUP_NEG c → k ≠ Od.CELL_VGS_SUP_POS c →
        (∀ x, x < 15 → k ≠ Od.OBS_ASC_COUNT x) → s.unqueued k → t.get k = s.get k) ∧
  (∀ (s t : State) (dt : Nat) (l : Leg),
    exec (.bothOnCommand dt l) s = .next t →
      s.changesOnly t [.od, .tb, .out, .log, .links, .drives, .cells, .legs, .store, .seqs, .axes, .traction, .lus, .stageIn, .lvCommand, .gbx, .dcl, .aux, .chg, .path] ∧
      ∀ k, noReaction k → (∀ x, x < 15 → k ≠ Od.CELL_BOTH_ON_COUNT x) → (∀ x, x < 15 → k ≠ Od.CELL_CELL_STATUS x) →
        (∀ x, x < 15 → k ≠ Od.CELL_COUNTER_STATUS x) → (∀ x, x < 15 → k ≠ Od.OBS_ASC_COUNT x) → s.unqueued k →
        t.get k = s.get k) ∧
  (∀ (s t : State) (dt : Nat) (l : Leg) (v : Rat),
    exec (.bootstrapUndervoltage dt l v) s = .next t →
      s.changesOnly t [.od, .tb, .out, .log, .links, .drives, .cells, .legs, .store, .seqs, .axes, .traction, .lus, .stageIn, .lvCommand, .gbx, .dcl, .aux, .chg, .path] ∧
      ∀ k, noReaction k → (∀ x, x < 15 → k ≠ Od.CELL_BOOT_V_MIN x) → (∀ x, x < 15 → k ≠ Od.CELL_CELL_STATUS x) →
        (∀ x, x < 15 → k ≠ Od.OBS_ASC_COUNT x) → s.unqueued k → t.get k = s.get k) ∧
  (∀ (s t : State) (dt : Nat) (c : Cell) (r : ArmReport),
    exec (.armingStepComplete dt c r) s = .next t →
      s.changesOnly t [.od, .tb, .out, .log, .links, .drives, .cells, .legs, .store, .shunts, .seqs, .axes, .traction, .pifs, .lus, .stageIn, .lvCommand, .gbx, .dcl, .aux, .chg, .path] ∧
      ∀ k, noReaction k → k ≠ Od.CELL_BOOT_V_MIN c → k ≠ Od.CELL_CELL_STATUS c → k ≠ Od.CELL_SELFTEST_RESULT c →
        k ≠ Od.CELL_VGS_SUP_NEG c → k ≠ Od.CELL_VGS_SUP_POS c → k ≠ Od.CNV_AUX_CNT_STATUS → k ≠ Od.CNV_TOW_ENTRIES →
        k ≠ Od.HV_HV_TIMER_min → (∀ x, x < 15 → k ≠ Od.OBS_ASC_COUNT x) → (∀ x, x < 12 → k ≠ Od.PIF_PIF_STATUS x) →
        (∀ x, x < 12 → k ≠ Od.PIF_POSITION x) → (∀ x, x < 50 → k ≠ Od.SH_CAL_COUNT x) →
        (∀ x, x < 50 → k ≠ Od.SH_LAST_CAL_TB x) → (∀ x, x < 50 → k ≠ Od.SH_OFFSET x) →
        (∀ x, x < 50 → k ≠ Od.SH_OFFSET_ARM x) → s.unqueued k → t.get k = s.get k) ∧
  (∀ (s t : State) (dt : Nat) (l : Leg) (high : Bool) (simultaneous : Bool),
    exec (.shortDetectVds dt l high simultaneous) s = .next t →
      s.changesOnly t [.od, .tb, .out, .log, .links, .drives, .cells, .legs, .store, .seqs, .axes, .traction, .lus, .stageIn, .lvCommand, .gbx, .dcl, .aux, .chg, .path] ∧
      ∀ k, noReaction k → (∀ x, x < 15 → k ≠ Od.CELL_CELL_STATUS x) → (∀ x, x < 15 → k ≠ Od.CELL_COUNTER_STATUS x) →
        (∀ x, x < 15 → k ≠ Od.CELL_LAST_FAULT_LEG x) → (∀ x, x < 15 → k ≠ Od.CELL_LAST_FAULT_TB x) →
        (∀ x, x < 15 → k ≠ Od.CELL_SC_COUNT x) → (∀ x, x < 15 → k ≠ Od.CELL_SC_LOCKOUT x) → k ≠ Od.DCL_CHOP_FAULTS →
        k ≠ Od.DCL_DCL_CNT_STATUS → k ≠ Od.DCL_GEN_FACTOR → (∀ x, x < 15 → k ≠ Od.OBS_ASC_COUNT x) → s.unqueued k →
        t.get k = s.get k) ∧
  (∀ (s t : State) (dt : Nat) (l : Leg) (positive : Bool) (simultaneous : Bool),
    exec (.shortDetectShunt dt l positive simultaneous) s = .next t →
      s.changesOnly t [.od, .tb, .out, .log, .links, .drives, .cells, .legs, .store, .seqs, .axes, .traction, .lus, .stageIn, .lvCommand, .gbx, .dcl, .aux, .chg, .path] ∧
      ∀ k, noReaction k → (∀ x, x < 15 → k ≠ Od.CELL_CELL_STATUS x) → (∀ x, x < 15 → k ≠ Od.CELL_COUNTER_STATUS x) →
        (∀ x, x < 15 → k ≠ Od.CELL_LAST_FAULT_LEG x) → (∀ x, x < 15 → k ≠ Od.CELL_LAST_FAULT_TB x) →
        (∀ x, x < 15 → k ≠ Od.CELL_SC_COUNT x) → (∀ x, x < 15 → k ≠ Od.CELL_SC_LOCKOUT x) → k ≠ Od.DCL_CHOP_FAULTS →
        k ≠ Od.DCL_DCL_CNT_STATUS → k ≠ Od.DCL_GEN_FACTOR → (∀ x, x < 15 → k ≠ Od.OBS_ASC_COUNT x) → s.unqueued k →
        t.get k = s.get k) ∧
  (∀ (s t : State) (dt : Nat) (c : Cell) (vdsFail : BitVec 4) (shuntFail : BitVec 4),
    exec (.selftestComplete dt c vdsFail shuntFail) s = .next t →
      s.changesOnly t [.od, .tb, .out, .log, .links, .drives, .cells, .legs, .store, .seqs, .axes, .traction, .lus, .stageIn, .lvCommand, .gbx, .dcl, .aux, .chg, .path] ∧
      ∀ k, noReaction k → k ≠ Od.CELL_CELL_STATUS c → k ≠ Od.CELL_SELFTEST_RESULT c →
        (∀ x, x < 15 → k ≠ Od.OBS_ASC_COUNT x) → s.unqueued k → t.get k = s.get k) ∧
  (∀ (s t : State) (r : StageReading) (c : Cell),
    exec (.stagePeriodStart r c) s = .next t →
      s.changesOnly t [.od, .tb, .out, .log, .links, .drives, .cells, .legs, .store, .seqs, .gcps, .axes, .traction, .lus, .stageIn, .lvCommand, .gbx, .dcl, .aux, .chg, .path] ∧
      ∀ k, noReaction k → k ≠ Od.CELL_BOOT_REFRESHES c → (∀ x, x < 15 → k ≠ Od.CELL_COUNTER_STATUS x) →
        (∀ x, x < 15 → k ≠ Od.CELL_FSW_DEFERRALS x) → (∀ x y, x < 15 → y < 4 → k ≠ Od.CELL_LEG_SWITCHES x y) →
        (∀ x, x < 16 → k ≠ Od.GCP_GCP_STATUS x) → (∀ x, x < 15 → k ≠ Od.OBS_ASC_COUNT x) →
        (∀ x, x < 50 → k ≠ Od.SH_CORR x) → (∀ x, x < 50 → k ≠ Od.SH_CURRENT x) →
        (∀ x, x < 50 → k ≠ Od.SH_OVR_COUNT x) → (∀ x, x < 50 → k ≠ Od.SH_RAW x) →
        (∀ x, x < 50 → k ≠ Od.SH_SAMPLE_TB x) → s.unqueued k → t.get k = s.get k) ∧
  (∀ (s t : State) (dt : Nat) (g : Fin 4) (code : BitVec 12),
    exec (.conversionComplete dt g code) s = .next t →
      s.changesOnly t [.od, .tb, .out, .log, .links, .drives, .cells, .legs, .store, .seqs, .axes, .traction, .lus, .stageIn, .lvCommand, .gbx, .dcl, .aux, .chg, .path] ∧
      ∀ k, noReaction k → k ≠ Od.CHR_F_LINE → (∀ x, x < 3 → k ≠ Od.CHR_V x) → k ≠ Od.CHR_V_PFC → k ≠ Od.CNV_V_AUX48 →
        k ≠ Od.CNV_V_IB → k ≠ Od.CNV_V_VR → k ≠ Od.DCL_V_DC_GC → (∀ x, x < 4 → k ≠ Od.GC_REF_CODE x) →
        k ≠ Od.LV_I_BAT → k ≠ Od.LV_V_BAT → (∀ x, x < 8 → k ≠ Od.SOL_I_ACT x) →
        (∀ x y, x < 8 → y < 32 → k ≠ Od.SQ_RESULT x y) → (∀ x, x < 8 → k ≠ Od.SQ_SEQ_COUNT x) →
        (∀ x, x < 8 → k ≠ Od.SQ_SEQ_TB x) → s.unqueued k → t.get k = s.get k) ∧
  (∀ (s t : State) (dt : Nat) (n : Axis) (raw : List Int) (odd : List Int) (vBus : Rat),
    exec (.axisDecision dt n raw odd vBus) s = .next t →
      s.changesOnly t [.od, .tb, .fresh, .out, .log, .links, .drives, .cells, .legs, .store, .seqs, .axes, .traction, .lus, .stageIn, .lvCommand, .gbx, .dcl, .aux, .chg, .path] ∧
      ∀ k, noReaction k → k ≠ Od.AX_AXIS_CNT_STATUS n → (∀ x, x < 8 → k ≠ Od.AX_BEMF_LL_PK x) →
        k ≠ Od.AX_DECISIONS n → k ≠ Od.AX_FALLBACKS n → k ≠ Od.AX_FSW_LEG_AVG n → k ≠ Od.AX_INNOV_MAX n →
        k ≠ Od.AX_KCL_RES n → k ≠ Od.AX_PSI_REF_ACT n → (∀ x, x < 8 → k ≠ Od.AX_SPEED_EL x) →
        k ≠ Od.AX_SUBSTITUTIONS n → k ≠ Od.AX_TQ_EST n → k ≠ Od.AX_UNMEAS_MAX_ns n → k ≠ Od.AX_V_BUS n →
        (∀ x, x < 15 → k ≠ Od.CELL_BOOT_REFRESHES x) → (∀ x, x < 15 → k ≠ Od.CELL_COUNTER_STATUS x) →
        (∀ x, x < 15 → k ≠ Od.CELL_FSW_DEFERRALS x) → (∀ x y, x < 15 → y < 4 → k ≠ Od.CELL_LEG_SWITCHES x y) →
        k ≠ Od.DCL_GEN_FACTOR → k ≠ Od.DCL_MOT_FACTOR → k ≠ Od.DCL_V_DC → k ≠ Od.DCL_V_DC_MAX →
        (∀ x, x < 15 → k ≠ Od.OBS_ASC_COUNT x) → (∀ x, x < 8 → k ≠ Od.OBS_CATCH_COUNT x) →
        (∀ x, x < 8 → k ≠ Od.OBS_OBS_ANGLE x) → (∀ x, x < 8 → k ≠ Od.OBS_OBS_SPEED x) →
        (∀ x, x < 8 → k ≠ Od.OBS_OPEN_ACC_us x) → (∀ x, x < 8 → k ≠ Od.OBS_PROBE_COUNT x) → k ≠ Od.OBS_RESID n →
        k ≠ Od.OBS_SET_TQ_MAX_ACT n → (∀ x, x < 8 → k ≠ Od.OBS_XSET_ANGLE x) → (∀ x, x < 50 → k ≠ Od.SH_CORR x) →
        (∀ x, x < 50 → k ≠ Od.SH_CURRENT x) → (∀ x, x < 50 → k ≠ Od.SH_OVR_COUNT x) →
        (∀ x, x < 50 → k ≠ Od.SH_RAW x) → (∀ x, x < 50 → k ≠ Od.SH_SAMPLE_TB x) →
        (∀ x, x < 2 → k ≠ Od.TR_DRIVE_STATUS x) → (∀ x, x < 2 → k ≠ Od.TR_LIMIT_SRC x) →
        (∀ x, x < 2 → k ≠ Od.TR_SPEED x) → (∀ x, x < 2 → k ≠ Od.TR_TQ_ACT x) →
        (∀ x, x < 2 → k ≠ Od.TR_TQ_LIM_GEN_ACT x) → (∀ x, x < 2 → k ≠ Od.TR_TQ_LIM_MOT_ACT x) → s.unqueued k →
        t.get k = s.get k) ∧
  (∀ (s t : State) (dt : Nat) (n : Axis),
    exec (.unmeasuredTimeExceeded dt n) s = .next t →
      s.changesOnly t [.od, .tb, .out, .log, .links, .drives, .cells, .legs, .store, .seqs, .axes, .traction, .lus, .stageIn, .lvCommand, .gbx, .dcl, .aux, .chg, .path] ∧
      ∀ k, noReaction k → (∀ x, x < 15 → k ≠ Od.OBS_ASC_COUNT x) → s.unqueued k → t.get k = s.get k) ∧
  (∀ (s t : State) (dt : Nat) (who : Requester) (d : Drive),
    exec (.driveArm dt who d) s = .next t →
      s.changesOnly t [.od, .tb, .out, .log, .links, .drives, .cells, .legs, .store, .seqs, .axes, .traction, .lus, .stageIn, .lvCommand, .gbx, .dcl, .aux, .chg, .path, .thermal, .sessions] ∧
      ∀ k, noReaction k → noAccess k → (∀ x, x < 8 → k ≠ Od.AX_BEMF_LL_PK x) → (∀ x, x < 8 → k ≠ Od.AX_SPEED_EL x) →
        (∀ x, x < 15 → k ≠ Od.CELL_CELL_ACK_COUNT x) → (∀ x, x < 15 → k ≠ Od.CELL_CELL_STATUS x) →
        k ≠ Od.CHR_CHG_CNT_STATUS → k ≠ Od.CHR_RELAY_OPS_MAIN → k ≠ Od.CNV_AUX_CNT_STATUS → k ≠ Od.CNV_TOW_ENTRIES →
        k ≠ Od.HV_HV_TIMER_min → (∀ x, x < 8 → k ≠ Od.OBS_CATCH_COUNT x) → (∀ x, x < 8 → k ≠ Od.OBS_OBS_ANGLE x) →
        (∀ x, x < 8 → k ≠ Od.OBS_OBS_SPEED x) → (∀ x, x < 8 → k ≠ Od.OBS_OPEN_ACC_us x) →
        (∀ x, x < 8 → k ≠ Od.OBS_PROBE_COUNT x) → (∀ x, x < 64 → k ≠ Od.SEN_SENSOR_STATUS x) → k ≠ Od.THM_BROKEN_NOW →
        k ≠ Od.THM_TH_STATUS → (∀ x, x < 2 → k ≠ Od.TR_SPEED x) → s.unqueued k → t.get k = s.get k) ∧
  (∀ (s t : State) (dt : Nat) (who : Requester) (d : Drive) (size : Nat),
    exec (.driveRun dt who d size) s = .next t →
      s.changesOnly t [.od, .tb, .out, .log, .links, .drives, .cells, .legs, .store, .seqs, .axes, .traction, .lus, .stageIn, .lvCommand, .gbx, .dcl, .aux, .chg, .path, .thermal, .sessions] ∧
      ∀ k, noReaction k → noAccess k → (∀ x, x < 8 → k ≠ Od.AX_BEMF_LL_PK x) → (∀ x, x < 8 → k ≠ Od.AX_SPEED_EL x) →
        (∀ x, x < 15 → k ≠ Od.CELL_CELL_ACK_COUNT x) → (∀ x, x < 15 → k ≠ Od.CELL_CELL_STATUS x) →
        k ≠ Od.CHR_CHG_CNT_STATUS → k ≠ Od.CHR_RELAY_OPS_MAIN → k ≠ Od.CNV_AUX_CNT_STATUS → k ≠ Od.CNV_TOW_ENTRIES →
        k ≠ Od.HV_HV_TIMER_min → (∀ x, x < 8 → k ≠ Od.OBS_CATCH_COUNT x) → (∀ x, x < 8 → k ≠ Od.OBS_OBS_ANGLE x) →
        (∀ x, x < 8 → k ≠ Od.OBS_OBS_SPEED x) → (∀ x, x < 8 → k ≠ Od.OBS_OPEN_ACC_us x) →
        (∀ x, x < 8 → k ≠ Od.OBS_PROBE_COUNT x) → (∀ x, x < 64 → k ≠ Od.SEN_SENSOR_STATUS x) → k ≠ Od.THM_BROKEN_NOW →
        k ≠ Od.THM_TH_STATUS → (∀ x, x < 2 → k ≠ Od.TR_SPEED x) → s.unqueued k → t.get k = s.get k) ∧
  (∀ (s t : State) (dt : Nat) (who : Requester) (d : Drive),
    exec (.driveStop dt who d) s = .next t →
      s.changesOnly t [.od, .tb, .out, .log, .links, .drives, .cells, .legs, .store, .seqs, .axes, .traction, .lus, .stageIn, .lvCommand, .gbx, .dcl, .aux, .chg, .path, .thermal, .sessions] ∧
      ∀ k, noReaction k → noAccess k → (∀ x, x < 8 → k ≠ Od.AX_BEMF_LL_PK x) → (∀ x, x < 8 → k ≠ Od.AX_SPEED_EL x) →
        (∀ x, x < 15 → k ≠ Od.CELL_CELL_ACK_COUNT x) → (∀ x, x < 15 → k ≠ Od.CELL_CELL_STATUS x) →
        k ≠ Od.CHR_CHG_CNT_STATUS → k ≠ Od.CHR_RELAY_OPS_MAIN → k ≠ Od.CNV_AUX_CNT_STATUS → k ≠ Od.CNV_TOW_ENTRIES →
        k ≠ Od.HV_HV_TIMER_min → (∀ x, x < 8 → k ≠ Od.OBS_CATCH_COUNT x) → (∀ x, x < 8 → k ≠ Od.OBS_OBS_ANGLE x) →
        (∀ x, x < 8 → k ≠ Od.OBS_OBS_SPEED x) → (∀ x, x < 8 → k ≠ Od.OBS_OPEN_ACC_us x) →
        (∀ x, x < 8 → k ≠ Od.OBS_PROBE_COUNT x) → (∀ x, x < 64 → k ≠ Od.SEN_SENSOR_STATUS x) → k ≠ Od.THM_BROKEN_NOW →
        k ≠ Od.THM_TH_STATUS → (∀ x, x < 2 → k ≠ Od.TR_SPEED x) → s.unqueued k → t.get k = s.get k) ∧
  (∀ (s t : State) (dt : Nat) (who : Requester) (d : Drive),
    exec (.driveDisarm dt who d) s = .next t →
      s.changesOnly t [.od, .tb, .out, .log, .links, .drives, .cells, .legs, .store, .seqs, .axes, .traction, .lus, .stageIn, .lvCommand, .gbx, .dcl, .aux, .chg, .path, .thermal, .sessions] ∧
      ∀ k, noReaction k → noAccess k → (∀ x, x < 8 → k ≠ Od.AX_BEMF_LL_PK x) → (∀ x, x < 8 → k ≠ Od.AX_SPEED_EL x) →
        (∀ x, x < 15 → k ≠ Od.CELL_CELL_ACK_COUNT x) → (∀ x, x < 15 → k ≠ Od.CELL_CELL_STATUS x) →
        k ≠ Od.CHR_CHG_CNT_STATUS → k ≠ Od.CHR_RELAY_OPS_MAIN → k ≠ Od.CNV_AUX_CNT_STATUS → k ≠ Od.CNV_TOW_ENTRIES →
        k ≠ Od.HV_HV_TIMER_min → (∀ x, x < 8 → k ≠ Od.OBS_CATCH_COUNT x) → (∀ x, x < 8 → k ≠ Od.OBS_OBS_ANGLE x) →
        (∀ x, x < 8 → k ≠ Od.OBS_OBS_SPEED x) → (∀ x, x < 8 → k ≠ Od.OBS_OPEN_ACC_us x) →
        (∀ x, x < 8 → k ≠ Od.OBS_PROBE_COUNT x) → (∀ x, x < 64 → k ≠ Od.SEN_SENSOR_STATUS x) → k ≠ Od.THM_BROKEN_NOW →
        k ≠ Od.THM_TH_STATUS → (∀ x, x < 2 → k ≠ Od.TR_SPEED x) → s.unqueued k → t.get k = s.get k) ∧
  (∀ (s t : State) (dt : Nat) (who : Requester) (d : Drive),
    exec (.driveAck dt who d) s = .next t →
      s.changesOnly t [.od, .tb, .out, .log, .links, .drives, .cells, .legs, .store, .seqs, .axes, .traction, .lus, .stageIn, .lvCommand, .gbx, .dcl, .aux, .chg, .path, .thermal, .sessions] ∧
      ∀ k, noReaction k → noAccess k → (∀ x, x < 8 → k ≠ Od.AX_BEMF_LL_PK x) → (∀ x, x < 8 → k ≠ Od.AX_SPEED_EL x) →
        (∀ x, x < 15 → k ≠ Od.CELL_CELL_ACK_COUNT x) → (∀ x, x < 15 → k ≠ Od.CELL_CELL_STATUS x) →
        k ≠ Od.CHR_CHG_CNT_STATUS → k ≠ Od.CHR_RELAY_OPS_MAIN → k ≠ Od.CNV_AUX_CNT_STATUS → k ≠ Od.CNV_TOW_ENTRIES →
        k ≠ Od.HV_HV_TIMER_min → (∀ x, x < 8 → k ≠ Od.OBS_CATCH_COUNT x) → (∀ x, x < 8 → k ≠ Od.OBS_OBS_ANGLE x) →
        (∀ x, x < 8 → k ≠ Od.OBS_OBS_SPEED x) → (∀ x, x < 8 → k ≠ Od.OBS_OPEN_ACC_us x) →
        (∀ x, x < 8 → k ≠ Od.OBS_PROBE_COUNT x) → (∀ x, x < 64 → k ≠ Od.SEN_SENSOR_STATUS x) → k ≠ Od.THM_BROKEN_NOW →
        k ≠ Od.THM_TH_STATUS → (∀ x, x < 2 → k ≠ Od.TR_SPEED x) → s.unqueued k → t.get k = s.get k) ∧
  (∀ (s t : State) (dt : Nat) (n : TSet),
    exec (.stopSetCoast dt n) s = .next t →
      s.changesOnly t [.od, .tb, .out, .log, .links, .drives, .cells, .legs, .store, .seqs, .axes, .traction, .lus, .stageIn, .lvCommand, .gbx, .dcl, .aux, .chg, .path] ∧
      ∀ k, noReaction k → s.unqueued k → t.get k = s.get k) ∧
  (∀ (s t : State) (dt : Nat) (d : Drive),
    exec (.armHoldExpiry dt d) s = .next t →
      s.changesOnly t [.od, .tb, .out, .log, .links, .drives, .cells, .legs, .store, .seqs, .axes, .traction, .lus, .stageIn, .lvCommand, .gbx, .dcl, .aux, .chg, .path] ∧
      ∀ k, noReaction k → s.unqueued k → t.get k = s.get k) ∧
  (∀ (s t : State) (dt : Nat) (t0 : Fin 2),
    exec (.crossSetDisagreement dt t0) s = .next t →
      s.changesOnly t [.od, .tb, .out, .log, .links, .drives, .cells, .legs, .store, .seqs, .axes, .traction, .lus, .stageIn, .lvCommand, .gbx, .dcl, .aux, .chg, .path] ∧
      ∀ k, noReaction k → (∀ x, x < 15 → k ≠ Od.OBS_ASC_COUNT x) → (∀ x, x < 8 → k ≠ Od.OBS_LOSS_COUNT x) →
        s.unqueued k → t.get k = s.get k) ∧
  (∀ (s t : State) (dt : Nat) (t0 : Fin 2) (rises : List (Option Nat)),
    exec (.sedgeProbeComplete dt t0 rises) s = .next t →
      s.changesOnly t [.od, .tb, .fresh, .out, .log, .links, .drives, .cells, .legs, .store, .seqs, .axes, .traction, .lus, .stageIn, .lvCommand, .gbx, .dcl, .aux, .chg, .path] ∧
      ∀ k, noReaction k → k ≠ Od.AXLE_AXLE_CNT_STATUS → k ≠ Od.AXLE_AXLE_STATUS → k ≠ Od.AXLE_CROSSFEEDS →
        k ≠ Od.AXLE_SHORTFALL → (∀ x, x < 8 → k ≠ Od.AX_BEMF_LL_PK x) → (∀ x, x < 8 → k ≠ Od.AX_SPEED_EL x) →
        (∀ x, x < 15 → k ≠ Od.OBS_ASC_COUNT x) → (∀ x, x < 8 → k ≠ Od.OBS_CATCH_COUNT x) →
        (∀ x, x < 8 → k ≠ Od.OBS_OBS_ANGLE x) → (∀ x, x < 8 → k ≠ Od.OBS_OBS_SPEED x) →
        (∀ x, x < 8 → k ≠ Od.OBS_OPEN_ACC_us x) → (∀ x, x < 8 → k ≠ Od.OBS_PROBE_ANGLE x) →
        (∀ x, x < 8 → k ≠ Od.OBS_PROBE_CONF x) → (∀ x, x < 8 → k ≠ Od.OBS_PROBE_COUNT x) →
        (∀ x, x < 2 → k ≠ Od.TR_SPEED x) → s.unqueued k → t.get k = s.get k) ∧
  (∀ (s t : State) (dt : Nat) (n : Axis),
    exec (.observerLoss dt n) s = .next t →
      s.changesOnly t [.od, .tb, .out, .log, .links, .drives, .cells, .legs, .store, .seqs, .axes, .traction, .lus, .stageIn, .lvCommand, .gbx, .dcl, .aux, .chg, .path] ∧
      ∀ k, noReaction k → (∀ x, x < 15 → k ≠ Od.OBS_ASC_COUNT x) → k ≠ Od.OBS_LOSS_COUNT n → s.unqueued k →
        t.get k = s.get k) ∧
  (∀ (s t : State) (dt : Nat) (n : TSet) (bemf : Rat),
    exec (.ascExit dt n bemf) s = .next t →
      s.changesOnly t [.od, .tb, .out, .log, .links, .drives, .cells, .legs, .store, .seqs, .axes, .traction, .lus, .stageIn, .lvCommand, .gbx, .dcl, .aux, .chg, .path] ∧
      ∀ k, noReaction k → s.unqueued k → t.get k = s.get k) ∧
  (∀ (s t : State) (dt : Nat) (n : TSet),
    exec (.recoveryTimeout dt n) s = .next t →
      s.changesOnly t [.od, .tb, .out, .log, .links, .drives, .cells, .legs, .store, .seqs, .axes, .traction, .lus, .stageIn, .lvCommand, .gbx, .dcl, .aux, .chg, .path] ∧
      ∀ k, noReaction k → (∀ x, x < 15 → k ≠ Od.OBS_ASC_COUNT x) → (∀ x, x < 8 → k ≠ Od.OBS_LOSS_COUNT x) →
        s.unqueued k → t.get k = s.get k) ∧
  (∀ (s t : State) (dt : Nat) (n : Axis) (phase : Fin 3) (kcl : Rat),
    exec (.phaseOpenDeclared dt n phase kcl) s = .next t →
      s.changesOnly t [.od, .tb, .out, .log, .links, .drives, .cells, .legs, .store, .seqs, .axes, .traction, .lus, .stageIn, .lvCommand, .gbx, .dcl, .aux, .chg, .path] ∧
      ∀ k, noReaction k → k ≠ Od.AXLE_AXLE_CNT_STATUS → k ≠ Od.AXLE_AXLE_STATUS → k ≠ Od.AXLE_CROSSFEEDS →
        k ≠ Od.AXLE_SHORTFALL → (∀ x, x < 15 → k ≠ Od.OBS_ASC_COUNT x) → k ≠ Od.OBS_OPEN_ACC_us n →
        k ≠ Od.OBS_SHUNT_FAILED n → s.unqueued k → t.get k = s.get k) ∧
  (∀ (s t : State) (dt : Nat) (n : Axis) (phase : Option (Fin 3)),
    exec (.shuntAttributionFail dt n phase) s = .next t →
      s.changesOnly t [.od, .tb, .out, .log, .links, .drives, .cells, .legs, .store, .seqs, .axes, .traction, .lus, .stageIn, .lvCommand, .gbx, .dcl, .aux, .chg, .path] ∧
      ∀ k, noReaction k → k ≠ Od.AXLE_AXLE_CNT_STATUS → k ≠ Od.AXLE_AXLE_STATUS → k ≠ Od.AXLE_CROSSFEEDS →
        k ≠ Od.AXLE_SHORTFALL → (∀ x, x < 15 → k ≠ Od.OBS_ASC_COUNT x) → k ≠ Od.OBS_OPEN_ACC_us n →
        k ≠ Od.OBS_SHUNT_FAILED n → s.unqueued k → t.get k = s.get k) ∧
  (∀ (s t : State) (dt : Nat) (n : Axis) (phase : Fin 3),
    exec (.shuntSaturationFail dt n phase) s = .next t →
      s.changesOnly t [.od, .tb, .out, .log, .links, .drives, .cells, .legs, .store, .seqs, .axes, .traction, .lus, .stageIn, .lvCommand, .gbx, .dcl, .aux, .chg, .path] ∧
      ∀ k, noReaction k → (∀ x, x < 15 → k ≠ Od.OBS_ASC_COUNT x) → k ≠ Od.OBS_OPEN_ACC_us n →
        k ≠ Od.OBS_SHUNT_FAILED n → s.unqueued k → t.get k = s.get k) ∧
  (∀ (s t : State) (dt : Nat) (who : Requester) (n : TSet),
    exec (.idAbort dt who n) s = .next t →
      s.changesOnly t [.od, .tb, .out, .log, .links, .drives, .cells, .legs, .store, .seqs, .axes, .traction, .lus, .stageIn, .lvCommand, .gbx, .dcl, .aux, .chg, .path, .sessions] ∧
      ∀ k, noReaction k → noAccess k → s.unqueued k → t.get k = s.get k) ∧
  (∀ (s t : State) (dt : Nat) (n : TSet) (r : StaticResult),
    exec (.idProcedureComplete dt n r) s = .next t →
      s.changesOnly t [.od, .tb, .out, .log, .links, .drives, .cells, .legs, .store, .seqs, .axes, .traction, .lus, .stageIn, .lvCommand, .gbx, .dcl, .aux, .chg, .path] ∧
      ∀ k, noReaction k → (∀ x, x < 8 → k ≠ Od.OBS_ID_ENC_OFFSET x) → (∀ x, x < 8 → k ≠ Od.OBS_ID_LD x) →
        (∀ x, x < 8 → k ≠ Od.OBS_ID_LQ x) → (∀ x, x < 8 → k ≠ Od.OBS_ID_PSI_PM x) →
        (∀ x, x < 8 → k ≠ Od.OBS_ID_RS x) → s.unqueued k → t.get k = s.get k) ∧
  (∀ (s t : State) (dt : Nat) (p : Fin 12) (lines : BitVec 3),
    exec (.positionLineChange dt p lines) s = .next t →
      s.changesOnly t [.od, .tb, .out, .log, .links, .drives, .cells, .legs, .store, .seqs, .axes, .traction, .pifs, .lus, .stageIn, .lvCommand, .gbx, .dcl, .aux, .chg, .path] ∧
      ∀ k, noReaction k → (∀ x, x < 15 → k ≠ Od.OBS_ASC_COUNT x) → (∀ x, x < 8 → k ≠ Od.OBS_LOSS_COUNT x) →
        k ≠ Od.PIF_CNT_STATUS p → k ≠ Od.PIF_EDGE_FAULTS p → k ≠ Od.PIF_ILLEGAL_COUNT p → k ≠ Od.PIF_INDEX_ERRORS p →
        k ≠ Od.PIF_INDEX_POS p → k ≠ Od.PIF_LAST_EDGE_TB p → k ≠ Od.PIF_PIF_STATUS p → k ≠ Od.PIF_POSITION p →
        s.unqueued k → t.get k = s.get k) ∧
  (∀ (s t : State) (dt : Nat) (p : Fin 12) (pairs : BitVec 3),
    exec (.wireFault dt p pairs) s = .next t →
      s.changesOnly t [.od, .tb, .out, .log, .links, .drives, .cells, .legs, .store, .seqs, .axes, .traction, .pifs, .lus, .stageIn, .lvCommand, .gbx, .dcl, .aux, .chg, .path] ∧
      ∀ k, noReaction k → (∀ x, x < 15 → k ≠ Od.OBS_ASC_COUNT x) → (∀ x, x < 8 → k ≠ Od.OBS_LOSS_COUNT x) →
        k ≠ Od.PIF_CNT_STATUS p → k ≠ Od.PIF_ILLEGAL_COUNT p → k ≠ Od.PIF_INDEX_ERRORS p → k ≠ Od.PIF_INDEX_POS p →
        k ≠ Od.PIF_LAST_EDGE_TB p → k ≠ Od.PIF_PIF_STATUS p → k ≠ Od.PIF_POSITION p → k ≠ Od.PIF_WIRE_FAULTS p →
        s.unqueued k → t.get k = s.get k) ∧
  (∀ (s t : State) (dt : Nat) (p : Fin 4) (idleHigh : Bool) (monoLow : Bool) (frame : BitVec 32),
    exec (.ssiFrameRead dt p idleHigh monoLow frame) s = .next t →
      s.changesOnly t [.od, .tb, .out, .log, .links, .drives, .cells, .legs, .store, .seqs, .axes, .traction, .pifs, .lus, .stageIn, .lvCommand, .gbx, .dcl, .aux, .chg, .path] ∧
      ∀ k, noReaction k → (∀ x, x < 15 → k ≠ Od.OBS_ASC_COUNT x) → (∀ x, x < 8 → k ≠ Od.OBS_LOSS_COUNT x) →
        (∀ x, x < 12 → k ≠ Od.PIF_CNT_STATUS x) → (∀ x, x < 12 → k ≠ Od.PIF_ILLEGAL_COUNT x) →
        (∀ x, x < 12 → k ≠ Od.PIF_LAST_EDGE_TB x) → (∀ x, x < 12 → k ≠ Od.PIF_PIF_STATUS x) →
        (∀ x, x < 12 → k ≠ Od.PIF_POSITION x) → (∀ x, x < 12 → k ≠ Od.PIF_SSI_ERRORS x) → s.unqueued k →
        t.get k = s.get k) ∧
  (∀ (s t : State) (dt : Nat) (who : Requester) (p : Fin 12) (value : BitVec 32),
    exec (.presetWrite dt who p value) s = .next t →
      s.changesOnly t [.od, .tb, .out, .log, .links, .drives, .cells, .legs, .store, .seqs, .axes, .traction, .pifs, .lus, .stageIn, .lvCommand, .gbx, .dcl, .aux, .chg, .path, .sessions] ∧
      ∀ k, noReaction k → noAccess k → (∀ x, x < 15 → k ≠ Od.OBS_ASC_COUNT x) →
        (∀ x, x < 8 → k ≠ Od.OBS_LOSS_COUNT x) → k ≠ Od.PIF_CNT_STATUS p → k ≠ Od.PIF_ILLEGAL_COUNT p →
        k ≠ Od.PIF_INDEX_ERRORS p → k ≠ Od.PIF_INDEX_POS p → k ≠ Od.PIF_LAST_EDGE_TB p → k ≠ Od.PIF_PIF_STATUS p →
        k ≠ Od.PIF_POSITION p → s.unqueued k → t.get k = s.get k) ∧
  (∀ (s t : State) (dt : Nat) (who : Requester) (p : Fin 12) (value : BitVec 8),
    exec (.armIndexWrite dt who p value) s = .next t →
      s.changesOnly t [.od, .tb, .out, .log, .links, .drives, .cells, .legs, .store, .seqs, .axes, .traction, .pifs, .lus, .stageIn, .lvCommand, .gbx, .dcl, .aux, .chg, .path, .sessions] ∧
      ∀ k, noReaction k → noAccess k → (∀ x, x < 15 → k ≠ Od.OBS_ASC_COUNT x) →
        (∀ x, x < 8 → k ≠ Od.OBS_LOSS_COUNT x) → k ≠ Od.PIF_CNT_STATUS p → k ≠ Od.PIF_ILLEGAL_COUNT p →
        k ≠ Od.PIF_INDEX_ERRORS p → k ≠ Od.PIF_INDEX_POS p → k ≠ Od.PIF_LAST_EDGE_TB p → k ≠ Od.PIF_PIF_STATUS p →
        k ≠ Od.PIF_POSITION p → s.unqueued k → t.get k = s.get k) ∧
  (∀ (s t : State) (dt : Nat) (p : Fin 12),
    exec (.checkPass dt p) s = .next t →
      s.changesOnly t [.od, .tb, .out, .log, .links, .drives, .cells, .legs, .store, .seqs, .axes, .traction, .pifs, .lus, .stageIn, .lvCommand, .gbx, .dcl, .aux, .chg, .path] ∧
      ∀ k, noReaction k → (∀ x, x < 15 → k ≠ Od.OBS_ASC_COUNT x) → (∀ x, x < 8 → k ≠ Od.OBS_LOSS_COUNT x) →
        k ≠ Od.PIF_CNT_STATUS p → k ≠ Od.PIF_ILLEGAL_COUNT p → k ≠ Od.PIF_INDEX_ERRORS p → k ≠ Od.PIF_INDEX_POS p →
        k ≠ Od.PIF_LAST_EDGE_TB p → k ≠ Od.PIF_PIF_STATUS p → k ≠ Od.PIF_POSITION p → s.unqueued k →
        t.get k = s.get k) ∧
  (∀ (s t : State) (dt : Nat) (p : Fin 12),
    exec (.checkTimeout dt p) s = .next t →
      s.changesOnly t [.od, .tb, .out, .log, .links, .drives, .cells, .legs, .store, .seqs, .axes, .traction, .pifs, .lus, .stageIn, .lvCommand, .gbx, .dcl, .aux, .chg, .path] ∧
      ∀ k, noReaction k → (∀ x, x < 15 → k ≠ Od.OBS_ASC_COUNT x) → (∀ x, x < 8 → k ≠ Od.OBS_LOSS_COUNT x) →
        k ≠ Od.PIF_CNT_STATUS p → k ≠ Od.PIF_ILLEGAL_COUNT p → k ≠ Od.PIF_INDEX_ERRORS p → k ≠ Od.PIF_INDEX_POS p →
        k ≠ Od.PIF_LAST_EDGE_TB p → k ≠ Od.PIF_PIF_STATUS p → k ≠ Od.PIF_POSITION p → s.unqueued k →
        t.get k = s.get k) ∧
  (∀ (s t : State) (dt : Nat) (p : Fin 12),
    exec (.interfaceFaultClear dt p) s = .next t →
      s.changesOnly t [.od, .tb, .out, .log, .links, .drives, .cells, .legs, .store, .seqs, .axes, .traction, .pifs, .lus, .stageIn, .lvCommand, .gbx, .dcl, .aux, .chg, .path] ∧
      ∀ k, noReaction k → (∀ x, x < 15 → k ≠ Od.OBS_ASC_COUNT x) → (∀ x, x < 8 → k ≠ Od.OBS_LOSS_COUNT x) →
        k ≠ Od.PIF_CNT_STATUS p → k ≠ Od.PIF_ILLEGAL_COUNT p → k ≠ Od.PIF_INDEX_ERRORS p → k ≠ Od.PIF_INDEX_POS p →
        k ≠ Od.PIF_LAST_EDGE_TB p → k ≠ Od.PIF_PIF_STATUS p → k ≠ Od.PIF_POSITION p → s.unqueued k →
        t.get k = s.get k) ∧
  (∀ (s t : State) (dt : Nat) (p : Fin 12),
    exec (.speedUpdate dt p) s = .next t →
      s.changesOnly t [.od, .tb, .out, .log, .links, .drives, .cells, .legs, .store, .seqs, .axes, .traction, .pifs, .lus, .stageIn, .lvCommand, .gbx, .dcl, .aux, .chg, .path] ∧
      ∀ k, noReaction k → (∀ x, x < 15 → k ≠ Od.OBS_ASC_COUNT x) → (∀ x, x < 8 → k ≠ Od.OBS_LOSS_COUNT x) →
        k ≠ Od.PIF_CNT_STATUS p → k ≠ Od.PIF_ILLEGAL_COUNT p → k ≠ Od.PIF_INDEX_ERRORS p → k ≠ Od.PIF_INDEX_POS p →
        k ≠ Od.PIF_LAST_EDGE_TB p → k ≠ Od.PIF_PIF_STATUS p → k ≠ Od.PIF_POSITION p → k ≠ Od.PIF_SPEED p →
        s.unqueued k → t.get k = s.get k) ∧
  (∀ (s t : State) (dt : Nat) (n : Fin 24),
    exec (.loopUnitSample dt n) s = .next t →
      s.changesOnly t [.od, .tb, .out, .log, .links, .drives, .cells, .legs, .store, .seqs, .axes, .traction, .lus, .stageIn, .lvCommand, .gbx, .dcl, .aux, .chg, .path] ∧
      ∀ k, noReaction k → k ≠ Od.LU_FB_VALUE n → k ≠ Od.LU_OUTPUT n → k ≠ Od.LU_OVF_COUNT n → k ≠ Od.LU_SAMPLES n →
        (∀ x, x < 24 → k ≠ Od.LU_SAT_SAMPLES x) → (∀ y, y < 8 → k ≠ Od.LU_SEC_OUT n y) → k ≠ Od.LU_STALE_COUNT n →
        (∀ x, x < 15 → k ≠ Od.OBS_ASC_COUNT x) → s.unqueued k → t.get k = s.get k) ∧
  (∀ (s t : State) (dt : Nat) (who : Requester) (n : Fin 24) (sub : BitVec 8) (value : BitVec 32),
    exec (.coefficientQueueWrite dt who n sub value) s = .next t →
      s.changesOnly t [.od, .tb, .out, .log, .links, .legs, .traction, .lus, .stageIn, .lvCommand, .gbx, .sessions] ∧
      ∀ k, noAccess k → k ≠ Od.LU_NUM_SUBS n + sub.toNat → (∀ x, x < 8 → k ≠ Od.AX_TQ_REF x) → k ≠ Od.DCL_CHOP_DUTY →
        k ≠ Od.DCL_DCL_STATUS → k ≠ Od.LU_COMMITS n → k ≠ Od.LU_DIR_SIGNS n → k ≠ Od.LU_LU_CNT_STATUS n →
        (∀ x, x < 24 → k ≠ Od.LU_REF x) → (∀ y, y < 8 → k ≠ Od.LU_SEC_CTRL n y) → (∀ x, x < 8 → k ≠ Od.SOL_DUTY x) →
        (∀ x, x < 8 → k ≠ Od.SOL_ENERGISATIONS x) → (∀ x, x < 8 → k ≠ Od.SOL_SOL_CNT_STATUS x) →
        (∀ x, x < 8 → k ≠ Od.SOL_SOL_STATUS x) → s.unqueued k → (∀ y, y < 8 → k ∉ coefKeys n y) → t.get k = s.get k) ∧
  (∀ (s t : State) (dt : Nat) (who : Requester) (n : Fin 24),
    exec (.commitStaged dt who n) s = .next t →
      s.changesOnly t [.od, .tb, .out, .log, .lus, .sessions] ∧
      ∀ k, noAccess k → k ≠ Od.LU_COMMITS n → k ≠ Od.LU_DIR_SIGNS n → k ≠ Od.LU_LU_CNT_STATUS n →
        (∀ y, y < 8 → k ≠ Od.LU_SEC_CTRL n y) → k ≠ Od.LU_STAGE_SEC n → (∀ y, y < 8 → k ∉ coefKeys n y) →
        t.get k = s.get k) ∧
  (∀ (s t : State) (dt : Nat) (who : Requester) (n : Fin 24),
    exec (.commitNotch dt who n) s = .next t →
      s.changesOnly t [.od, .tb, .out, .log, .lus, .sessions] ∧
      ∀ k, noAccess k → k ≠ Od.LU_COMMITS n → k ≠ Od.LU_DIR_SIGNS n → k ≠ Od.LU_LU_CNT_STATUS n →
        (∀ y, y < 8 → k ≠ Od.LU_SEC_CTRL n y) → k ≠ Od.LU_STAGE_SEC n → (∀ y, y < 8 → k ∉ coefKeys n y) →
        t.get k = s.get k) ∧
  (∀ (s t : State) (dt : Nat) (n : Fin 24),
    exec (.commitComputed dt n) s = .next t →
      s.changesOnly t [.od, .tb, .out, .log, .lus] ∧
      ∀ k, k ≠ Od.CNT_CNT_OVF_MAP → k ≠ Od.LU_COMMITS n → k ≠ Od.LU_DIR_SIGNS n → k ≠ Od.LU_LU_CNT_STATUS n →
        (∀ y, y < 8 → k ≠ Od.LU_SEC_CTRL n y) → (∀ y, y < 8 → k ∉ coefKeys n y) → t.get k = s.get k) ∧
  (∀ (s t : State) (dt : Nat) (n : Fin 24) (sec : Fin 8),
    exec (.holdMaxExpiry dt n sec) s = .next t →
      s.changesOnly t [.od, .tb, .out, .log, .links, .drives, .cells, .legs, .store, .seqs, .axes, .traction, .lus, .stageIn, .lvCommand, .gbx, .dcl, .aux, .chg, .path] ∧
      ∀ k, noReaction k → (∀ x, x < 15 → k ≠ Od.OBS_ASC_COUNT x) → s.unqueued k → t.get k = s.get k) ∧
  (∀ (s t : State) (dt : Nat) (e : Fin 24) (slice : SliceResult),
    exec (.taskExecutionComplete dt e slice) s = .next t →
      s.keepsParts t [.bringup, .clocks, .cust, .shunts, .gcps, .pifs, .safety, .conns, .crcs, .chans, .time, .canA, .sessions, .img, .cap, .pending] ∧
      ∀ k, noReaction k → k ≠ Od.AXLE_AXLE_CNT_STATUS → k ≠ Od.AXLE_AXLE_STATUS → k ≠ Od.AXLE_MODE_CHANGES →
        k ≠ Od.AXLE_SHORTFALL → k ≠ Od.AXLE_TRANSFERS → k ≠ Od.AXLE_WHEEL_SPEED_A → k ≠ Od.AXLE_WHEEL_SPEED_B →
        k ≠ Od.AXLE_WHEEL_TQ_A → k ≠ Od.AXLE_WHEEL_TQ_B → (∀ x, x < 15 → k ≠ Od.CELL_CELL_BAND x) →
        (∀ x, x < 15 → k ≠ Od.CELL_CELL_TJ x) → k ≠ Od.CHR_CHG_CNT_STATUS → k ≠ Od.CHR_E_EXPORT_J →
        k ≠ Od.CHR_E_IMPORT_J → k ≠ Od.CHR_I_AC → k ≠ Od.CHR_PACK_I → k ≠ Od.CHR_P_AC → k ≠ Od.CHR_P_DC →
        k ≠ Od.CHR_RELAY_OPS_MAIN → k ≠ Od.CHR_RELAY_OPS_PRE → k ≠ Od.CNV_AUX_CNT_STATUS → k ≠ Od.CNV_E_VR_J →
        k ≠ Od.CNV_F_BUCK → k ≠ Od.CNV_I_VR → k ≠ Od.CNV_P_IB → k ≠ Od.CNV_TOW_ENTRIES → k ≠ Od.CNV_TOW_TIME_s →
        k ≠ Od.CNV_VR_REF → (∀ x, x < 24 → k ≠ Od.ENG_DISPATCHES x) → (∀ x, x < 24 → k ≠ Od.ENG_ENG_CNT_STATUS x) →
        k ≠ Od.ENG_LAST_FAIL e → k ≠ Od.ENG_OOS_COUNT e → k ≠ Od.ENG_OVERRUNS e → k ≠ Od.ENG_SELFTEST_FAILS e →
        k ≠ Od.ENG_SELFTEST_PASSES e → (∀ x, x < 24 → k ≠ Od.ENG_STEALS x) →
        (∀ x, x < 24 → k ≠ Od.ENG_STEAL_TIME_MAX_ns x) → (∀ x, x < 24 → k ≠ Od.ENG_STOLEN_FROM x) →
        k ≠ Od.HV_HV_CHARGE_mAs → k ≠ Od.HV_HV_CV_ACT → k ≠ Od.HV_HV_DISCHARGE_mAs → k ≠ Od.HV_HV_I_LIM_ACT →
        k ≠ Od.HV_HV_TIMER_min → k ≠ Od.LV_LV_CHARGE_mAs → k ≠ Od.LV_LV_DISCHARGE_mAs → k ≠ Od.LV_LV_I_LIM_ACT →
        k ≠ Od.LV_LV_TIMER_min → (∀ x, x < 15 → k ≠ Od.OBS_ASC_COUNT x) → (∀ x, x < 12 → k ≠ Od.PIF_PIF_STATUS x) →
        (∀ x, x < 4 → k ≠ Od.PM_CORNER x) → (∀ x, x < 4 → k ≠ Od.PM_DRIFT x) → k ≠ Od.PM_PM_STATUS →
        k ≠ Od.POOL_CLAIM_CONFLICTS → k ≠ Od.POOL_POOL_CNT_STATUS → k ≠ Od.POOL_POOL_STATUS →
        k ≠ Od.POOL_STEAL_COST_MAX_ns → (∀ x, x < 64 → k ≠ Od.SEN_ABOVE_WARN_s x) →
        (∀ x, x < 64 → k ≠ Od.SEN_BROKEN_EVENTS x) → (∀ x, x < 64 → k ≠ Od.SEN_K_FACTOR x) →
        (∀ x, x < 64 → k ≠ Od.SEN_RAW x) → (∀ x, x < 64 → k ≠ Od.SEN_SENSOR_STATUS x) →
        (∀ x, x < 64 → k ≠ Od.SEN_SHUTDOWNS x) → (∀ x, x < 64 → k ≠ Od.SEN_TEMP x) →
        (∀ x, x < 64 → k ≠ Od.SEN_T_MAX x) → (∀ x, x < 2 → k ≠ Od.SHF_SHIFTS x) →
        (∀ x, x < 2 → k ≠ Od.SHF_SHIFT_TIME_ms x) → (∀ x, x < 59 → k ≠ Od.TASK_EXEC_MAX_ns x) →
        (∀ x, x < 59 → k ≠ Od.TASK_MISSES x) → (∀ x, x < 59 → k ≠ Od.TASK_OVERRUNS x) →
        (∀ x, x < 59 → k ≠ Od.TASK_START_LAT_MAX_us x) → (∀ x, x < 59 → k ≠ Od.TASK_TASK_CNT_STATUS x) →
        k ≠ Od.THM_BROKEN_NOW → (∀ x, x < 6 → k ≠ Od.THM_DERATE x) → k ≠ Od.THM_FLASH_BAND →
        k ≠ Od.THM_FLASH_PULSE_us → k ≠ Od.THM_ROUNDS → k ≠ Od.THM_ROUND_TIME_us → k ≠ Od.THM_TH_CNT_STATUS →
        k ≠ Od.THM_TH_SHUTDOWNS → k ≠ Od.THM_TH_STATUS → k ≠ Od.THM_T_COOL_IN → k ≠ Od.THM_T_COOL_OUT →
        k ≠ Od.THM_T_DIE_MAX → k ≠ Od.TR_DIRECTION 0 → k ≠ Od.TR_DIRECTION 1 → k ≠ Od.TR_DIR_CHANGES 0 →
        k ≠ Od.TR_DIR_CHANGES 1 → k ≠ Od.TR_DRIVE_STATUS 0 → k ≠ Od.TR_DRIVE_STATUS 1 →
        (∀ x, x < 24 → k ≠ Od.VMON_EXCURSIONS x) → (∀ x, x < 24 → k ≠ Od.VMON_VALUE x) →
        (∀ x, x < 24 → k ≠ Od.VMON_VMON_STATUS x) → (∀ x, x < 24 → k ≠ Od.VMON_V_MAX x) →
        (∀ x, x < 24 → k ≠ Od.VMON_V_MIN x) → s.unqueued k → t.get k = s.get k) ∧
  (∀ (s t : State) (dt : Nat) (e : Fin 24),
    exec (.engineWatchdog dt e) s = .next t →
      s.changesOnly t [.od, .tb, .fresh, .out, .log, .links, .drives, .cells, .legs, .store, .seqs, .axes, .traction, .lus, .stageIn, .lvCommand, .engines, .tasks, .gbx, .dcl, .aux, .chg, .path] ∧
      ∀ k, noReaction k → (∀ x, x < 24 → k ≠ Od.ENG_DISPATCHES x) → (∀ x, x < 24 → k ≠ Od.ENG_ENG_CNT_STATUS x) →
        k ≠ Od.ENG_LAST_FAIL e → k ≠ Od.ENG_OOS_COUNT e → (∀ x, x < 24 → k ≠ Od.ENG_STEALS x) →
        (∀ x, x < 24 → k ≠ Od.ENG_STEAL_TIME_MAX_ns x) → (∀ x, x < 24 → k ≠ Od.ENG_STOLEN_FROM x) →
        (∀ x, x < 15 → k ≠ Od.OBS_ASC_COUNT x) → k ≠ Od.POOL_CLAIM_CONFLICTS → k ≠ Od.POOL_POOL_CNT_STATUS →
        k ≠ Od.POOL_POOL_STATUS → k ≠ Od.POOL_STEAL_COST_MAX_ns → (∀ x, x < 59 → k ≠ Od.TASK_START_LAT_MAX_us x) →
        s.unqueued k → t.get k = s.get k) ∧
  (∀ (s t : State) (dt : Nat) (a : Fin 4),
    exec (.actuatorAxisFault dt a) s = .next t →
      s.changesOnly t [.od, .tb, .out, .log, .links, .drives, .cells, .legs, .store, .seqs, .axes, .traction, .lus, .stageIn, .lvCommand, .gbx, .dcl, .aux, .chg, .path] ∧
      ∀ k, noReaction k → (∀ x, x < 15 → k ≠ Od.OBS_ASC_COUNT x) → s.unqueued k → t.get k = s.get k) ∧
  (∀ (s t : State) (dt : Nat) (a : Fin 4),
    exec (.recoveryStall dt a) s = .next t →
      s.changesOnly t [.od, .tb, .out, .log, .links, .drives, .cells, .legs, .store, .seqs, .axes, .traction, .lus, .stageIn, .lvCommand, .gbx, .dcl, .aux, .chg, .path] ∧
      ∀ k, noReaction k → (∀ x, x < 15 → k ≠ Od.OBS_ASC_COUNT x) → (∀ x, x < 12 → k ≠ Od.PIF_PIF_STATUS x) →
        s.unqueued k → t.get k = s.get k) ∧
  (∀ (s t : State) (dt : Nat),
    exec (.gearStateRecoveryEnd dt) s = .next t →
      s.changesOnly t [.od, .tb, .out, .log, .links, .drives, .cells, .legs, .store, .seqs, .axes, .traction, .lus, .stageIn, .lvCommand, .gbx, .dcl, .aux, .chg, .path] ∧
      ∀ k, noReaction k → k ≠ Od.GBX_RECOVERY_TIME_ms → (∀ x, x < 15 → k ≠ Od.OBS_ASC_COUNT x) → s.unqueued k →
        t.get k = s.get k) ∧
  (∀ (s t : State) (dt : Nat),
    exec (.dcLinkSenseMismatch dt) s = .next t →
      s.changesOnly t [.od, .tb, .out, .log, .links, .drives, .cells, .legs, .store, .seqs, .axes, .traction, .lus, .stageIn, .lvCommand, .gbx, .dcl, .aux, .chg, .path] ∧
      ∀ k, noReaction k → (∀ x, x < 15 → k ≠ Od.OBS_ASC_COUNT x) → s.unqueued k → t.get k = s.get k) ∧
  (∀ (s t : State) (dt : Nat) (i0 : Rat) (i1 : Rat),
    exec (.brkResistorCheckComplete dt i0 i1) s = .next t →
      s.changesOnly t [.od, .tb, .out, .log, .links, .drives, .cells, .legs, .store, .seqs, .axes, .traction, .lus, .stageIn, .lvCommand, .gbx, .dcl, .aux, .chg, .path] ∧
      ∀ k, noReaction k → k ≠ Od.DCL_RES_MEAS_0 → k ≠ Od.DCL_RES_MEAS_1 → s.unqueued k → t.get k = s.get k) ∧
  (∀ (s t : State) (dt : Nat) (leg : Fin 2) (i1 : Rat) (i2 : Rat),
    exec (.chopperOpenResistor dt leg i1 i2) s = .next t →
      s.changesOnly t [.od, .tb, .out, .log, .links, .drives, .cells, .legs, .store, .seqs, .axes, .traction, .lus, .stageIn, .lvCommand, .gbx, .dcl, .aux, .chg, .path] ∧
      ∀ k, noReaction k → k ≠ Od.DCL_CHOP_FAULTS → k ≠ Od.DCL_DCL_CNT_STATUS → k ≠ Od.DCL_GEN_FACTOR →
        (∀ x, x < 15 → k ≠ Od.OBS_ASC_COUNT x) → s.unqueued k → t.get k = s.get k) ∧
  (∀ (s t : State) (dt : Nat) (leg : Fin 2) (i : Rat),
    exec (.chopperShortedSwitch dt leg i) s = .next t →
      s.changesOnly t [.od, .tb, .out, .log, .links, .drives, .cells, .legs, .store, .seqs, .axes, .traction, .lus, .stageIn, .lvCommand, .gbx, .dcl, .aux, .chg, .path] ∧
      ∀ k, noReaction k → k ≠ Od.DCL_CHOP_FAULTS → k ≠ Od.DCL_DCL_CNT_STATUS → k ≠ Od.DCL_GEN_FACTOR →
        (∀ x, x < 15 → k ≠ Od.OBS_ASC_COUNT x) → s.unqueued k → t.get k = s.get k) ∧
  (∀ (s t : State) (dt : Nat),
    exec (.resistorModelUpdate dt) s = .next t →
      s.changesOnly t [.od, .tb, .fresh, .out, .log, .links, .drives, .cells, .legs, .store, .seqs, .axes, .traction, .lus, .stageIn, .lvCommand, .gbx, .dcl, .aux, .chg, .path] ∧
      ∀ k, noReaction k → k ≠ Od.DCL_CHOP_ENERGY_J → k ≠ Od.DCL_CHOP_FAULTS → k ≠ Od.DCL_DCL_CNT_STATUS →
        k ≠ Od.DCL_DV_DT → k ≠ Od.DCL_GEN_FACTOR → (∀ i, i < 2 → k ≠ Od.DCL_RES_E_0 + i) →
        (∀ x, x < 15 → k ≠ Od.OBS_ASC_COUNT x) → s.unqueued k → t.get k = s.get k) ∧
  (∀ (s t : State) (dt : Nat),
    exec (.firmwareDcLinkTrip dt) s = .next t →
      s.changesOnly t [.od, .tb, .out, .log, .links, .drives, .cells, .legs, .store, .seqs, .axes, .traction, .lus, .stageIn, .lvCommand, .gbx, .dcl, .aux, .chg, .path] ∧
      ∀ k, noReaction k → k ≠ Od.DCL_DCL_CNT_STATUS → k ≠ Od.DCL_FW_TRIPS → (∀ x, x < 15 → k ≠ Od.OBS_ASC_COUNT x) →
        s.unqueued k → t.get k = s.get k) ∧
  (∀ (s t : State) (dt : Nat),
    exec (.hardwareDcLinkTrip dt) s = .next t →
      s.changesOnly t [.od, .tb, .out, .log, .links, .drives, .cells, .legs, .store, .seqs, .axes, .traction, .lus, .stageIn, .lvCommand, .gbx, .dcl, .aux, .chg, .path] ∧
      ∀ k, noReaction k → (∀ x, x < 15 → k ≠ Od.CELL_SC_LOCKOUT x) → k ≠ Od.DCL_DCL_CNT_STATUS → k ≠ Od.DCL_HW_TRIPS →
        (∀ x, x < 15 → k ≠ Od.OBS_ASC_COUNT x) → s.unqueued k → t.get k = s.get k) ∧
  (∀ (s t : State) (dt : Nat) (who : Requester),
    exec (.dischargeStart dt who) s = .next t →
      s.changesOnly t [.od, .tb, .out, .log, .links, .drives, .cells, .legs, .store, .seqs, .axes, .traction, .lus, .stageIn, .lvCommand, .gbx, .dcl, .aux, .chg, .path, .sessions] ∧
      ∀ k, noReaction k → noAccess k → k ≠ Od.DCL_DCL_CNT_STATUS → k ≠ Od.DCL_DISCHARGES → s.unqueued k →
        t.get k = s.get k) ∧
  (∀ (s t : State) (dt : Nat) (who : Requester),
    exec (.dischargeEnd dt who) s = .next t →
      s.changesOnly t [.od, .tb, .out, .log, .links, .drives, .cells, .legs, .store, .seqs, .axes, .traction, .lus, .stageIn, .lvCommand, .gbx, .dcl, .aux, .chg, .path, .sessions] ∧
      ∀ k, noReaction k → noAccess k → k ≠ Od.DCL_DCL_CNT_STATUS → k ≠ Od.DCL_DISCHARGES → s.unqueued k →
        t.get k = s.get k) ∧
  (∀ (s t : State) (dt : Nat),
    exec (.dischargeTimeout dt) s = .next t →
      s.changesOnly t [.od, .tb, .out, .log, .links, .drives, .cells, .legs, .store, .seqs, .axes, .traction, .lus, .stageIn, .lvCommand, .gbx, .dcl, .aux, .chg, .path] ∧
      ∀ k, noReaction k → (∀ x, x < 15 → k ≠ Od.OBS_ASC_COUNT x) → s.unqueued k → t.get k = s.get k)

/-- What a reaction of a drive leaves alone: the parts not listed, and every object outside the reaction, the command's
own objects and the queued writes of the loop units. An access to an arbitrary object leaves the parts not listed. -/
def Obligations.FramesOfReactionsVehicle : Prop :=
  (∀ (s t : State) (dt : Nat),
    exec (.dabStopLowLink dt) s = .next t →
      s.changesOnly t [.od, .tb, .out, .log, .links, .drives, .cells, .legs, .traction, .lus, .stageIn, .lvCommand, .gbx, .aux, .chg, .path] ∧
      ∀ k, (∀ x, x < 8 → k ≠ Od.AX_TQ_REF x) → k ≠ Od.BKP_BKP15 → k ≠ Od.CNT_CNT_OVF_MAP → k ≠ Od.CNV_AUX_CNT_STATUS →
        k ≠ Od.CNV_AUX_MODE → k ≠ Od.CNV_AUX_STATUS → k ≠ Od.CNV_DAB_PHASE → k ≠ Od.CNV_TOW_ENTRIES →
        k ≠ Od.CNV_VR_TARGET → k ≠ Od.DCL_CHOP_DUTY → k ≠ Od.DCL_DCL_STATUS →
        (∀ x y, x < 24 → y < 8 → k ≠ Od.LU_A1 x y) → (∀ x y, x < 24 → y < 8 → k ≠ Od.LU_A2 x y) →
        (∀ x y, x < 24 → y < 8 → k ≠ Od.LU_B0 x y) → (∀ x y, x < 24 → y < 8 → k ≠ Od.LU_B1 x y) →
        (∀ x y, x < 24 → y < 8 → k ≠ Od.LU_B2 x y) → k ≠ Od.LU_COMMITS 16 → k ≠ Od.LU_COMMITS 17 →
        k ≠ Od.LU_COMMITS 22 → k ≠ Od.LU_DIR_SIGNS 16 → k ≠ Od.LU_DIR_SIGNS 17 → k ≠ Od.LU_DIR_SIGNS 22 →
        k ≠ Od.LU_LU_CNT_STATUS 16 → k ≠ Od.LU_LU_CNT_STATUS 17 → k ≠ Od.LU_LU_CNT_STATUS 22 →
        (∀ x, x < 24 → k ≠ Od.LU_REF x) → (∀ y, y < 8 → k ≠ Od.LU_SEC_CTRL 16 y) →
        (∀ y, y < 8 → k ≠ Od.LU_SEC_CTRL 17 y) → (∀ y, y < 8 → k ≠ Od.LU_SEC_CTRL 22 y) → k ≠ Od.LV_BAT_SW_MODE →
        k ≠ Od.LV_HANDOVERS → k ≠ Od.LV_LV_CNT_STATUS → k ≠ Od.LV_LV_STATE → k ≠ Od.LV_LV_STATUS →
        k ≠ Od.LV_VR_SOURCE → (∀ x, x < 15 → k ≠ Od.OBS_ASC_TIME_ms x) → (∀ x, x < 15 → k ≠ Od.OBS_OBS_CNT_STATUS x) →
        (∀ x, x < 50 → k ≠ Od.SH_CH_STATUS x) → (∀ x, x < 8 → k ≠ Od.SOL_DUTY x) →
        (∀ x, x < 8 → k ≠ Od.SOL_ENERGISATIONS x) → (∀ x, x < 8 → k ≠ Od.SOL_SOL_CNT_STATUS x) →
        (∀ x, x < 8 → k ≠ Od.SOL_SOL_STATUS x) → s.unqueued k → t.get k = s.get k) ∧
  (∀ (s t : State) (dt : Nat),
    exec (.dabRestartLinkOk dt) s = .next t →
      s.changesOnly t [.od, .tb, .out, .log, .links, .drives, .cells, .legs, .traction, .lus, .stageIn, .lvCommand, .gbx, .aux] ∧
      ∀ k, (∀ x, x < 8 → k ≠ Od.AX_TQ_REF x) → k ≠ Od.CNT_CNT_OVF_MAP → k ≠ Od.CNV_AUX_MODE → k ≠ Od.CNV_AUX_STATUS →
        k ≠ Od.CNV_DAB_PHASE → k ≠ Od.DCL_CHOP_DUTY → k ≠ Od.DCL_DCL_STATUS →
        (∀ x y, x < 24 → y < 8 → k ≠ Od.LU_A1 x y) → (∀ x y, x < 24 → y < 8 → k ≠ Od.LU_A2 x y) →
        (∀ x y, x < 24 → y < 8 → k ≠ Od.LU_B0 x y) → (∀ x y, x < 24 → y < 8 → k ≠ Od.LU_B1 x y) →
        (∀ x y, x < 24 → y < 8 → k ≠ Od.LU_B2 x y) → k ≠ Od.LU_COMMITS 16 → k ≠ Od.LU_COMMITS 17 →
        k ≠ Od.LU_COMMITS 22 → k ≠ Od.LU_DIR_SIGNS 16 → k ≠ Od.LU_DIR_SIGNS 17 → k ≠ Od.LU_DIR_SIGNS 22 →
        k ≠ Od.LU_LU_CNT_STATUS 16 → k ≠ Od.LU_LU_CNT_STATUS 17 → k ≠ Od.LU_LU_CNT_STATUS 22 →
        (∀ x, x < 24 → k ≠ Od.LU_REF x) → (∀ y, y < 8 → k ≠ Od.LU_SEC_CTRL 16 y) →
        (∀ y, y < 8 → k ≠ Od.LU_SEC_CTRL 17 y) → (∀ y, y < 8 → k ≠ Od.LU_SEC_CTRL 22 y) → k ≠ Od.LV_LV_STATUS →
        k ≠ Od.OBS_ASC_TIME_ms 10 → k ≠ Od.OBS_OBS_CNT_STATUS 10 → (∀ x, x < 50 → k ≠ Od.SH_CH_STATUS x) →
        (∀ x, x < 8 → k ≠ Od.SOL_DUTY x) → (∀ x, x < 8 → k ≠ Od.SOL_ENERGISATIONS x) →
        (∀ x, x < 8 → k ≠ Od.SOL_SOL_CNT_STATUS x) → (∀ x, x < 8 → k ≠ Od.SOL_SOL_STATUS x) → s.unqueued k →
        t.get k = s.get k) ∧
  (∀ (s t : State) (dt : Nat),
    exec (.ibStartComplete dt) s = .next t →
      s.changesOnly t [.od, .tb, .out, .log, .links, .cells, .legs, .traction, .lus, .stageIn, .lvCommand, .gbx, .aux] ∧
      ∀ k, (∀ x, x < 8 → k ≠ Od.AX_TQ_REF x) → k ≠ Od.CNT_CNT_OVF_MAP → k ≠ Od.CNV_AUX_MODE → k ≠ Od.CNV_AUX_STATUS →
        k ≠ Od.CNV_VR_REF → k ≠ Od.DCL_CHOP_DUTY → k ≠ Od.DCL_DCL_STATUS →
        (∀ x y, x < 24 → y < 8 → k ≠ Od.LU_A1 x y) → (∀ x y, x < 24 → y < 8 → k ≠ Od.LU_A2 x y) →
        (∀ x y, x < 24 → y < 8 → k ≠ Od.LU_B0 x y) → (∀ x y, x < 24 → y < 8 → k ≠ Od.LU_B1 x y) →
        (∀ x y, x < 24 → y < 8 → k ≠ Od.LU_B2 x y) → k ≠ Od.LU_COMMITS 16 → k ≠ Od.LU_COMMITS 17 →
        k ≠ Od.LU_COMMITS 22 → k ≠ Od.LU_DIR_SIGNS 16 → k ≠ Od.LU_DIR_SIGNS 17 → k ≠ Od.LU_DIR_SIGNS 22 →
        k ≠ Od.LU_LU_CNT_STATUS 16 → k ≠ Od.LU_LU_CNT_STATUS 17 → k ≠ Od.LU_LU_CNT_STATUS 22 →
        (∀ x, x < 24 → k ≠ Od.LU_REF x) → (∀ y, y < 8 → k ≠ Od.LU_SEC_CTRL 16 y) →
        (∀ y, y < 8 → k ≠ Od.LU_SEC_CTRL 17 y) → (∀ y, y < 8 → k ≠ Od.LU_SEC_CTRL 22 y) → k ≠ Od.LV_LV_STATUS →
        k ≠ Od.LV_VR_SOURCE → (∀ x, x < 8 → k ≠ Od.SOL_DUTY x) → (∀ x, x < 8 → k ≠ Od.SOL_ENERGISATIONS x) →
        (∀ x, x < 8 → k ≠ Od.SOL_SOL_CNT_STATUS x) → (∀ x, x < 8 → k ≠ Od.SOL_SOL_STATUS x) → s.unqueued k →
        t.get k = s.get k) ∧
  (∀ (s t : State) (dt : Nat) (phase : Fin 4) (deviation : Rat),
    exec (.buckPhaseShed dt phase deviation) s = .next t →
      s.changesOnly t [.od, .tb, .out, .log, .links, .drives, .cells, .legs, .store, .seqs, .axes, .traction, .lus, .stageIn, .lvCommand, .gbx, .dcl, .aux, .chg, .path] ∧
      ∀ k, noReaction k → (∀ x, x < 15 → k ≠ Od.OBS_ASC_COUNT x) → s.unqueued k → t.get k = s.get k) ∧
  (∀ (s t : State) (dt : Nat) (v : Rat),
    exec (.ibOvervoltageTrip dt v) s = .next t →
      s.changesOnly t [.od, .tb, .out, .log, .links, .drives, .cells, .legs, .store, .seqs, .axes, .traction, .lus, .stageIn, .lvCommand, .gbx, .dcl, .aux, .chg, .path] ∧
      ∀ k, noReaction k → k ≠ Od.CNV_V_IB → (∀ x, x < 15 → k ≠ Od.OBS_ASC_COUNT x) → s.unqueued k → t.get k = s.get k) ∧
  (∀ (s t : State) (dt : Nat) (v : Rat),
    exec (.ibLost dt v) s = .next t →
      s.changesOnly t [.od, .tb, .out, .log, .links, .drives, .cells, .legs, .traction, .lus, .stageIn, .lvCommand, .gbx, .aux, .chg, .path] ∧
      ∀ k, (∀ x, x < 8 → k ≠ Od.AX_TQ_REF x) → k ≠ Od.BKP_BKP15 → k ≠ Od.CNT_CNT_OVF_MAP → k ≠ Od.CNV_AUX_MODE →
        k ≠ Od.CNV_AUX_STATUS → k ≠ Od.CNV_DAB_PHASE → k ≠ Od.CNV_VR_TARGET → k ≠ Od.CNV_V_IB → k ≠ Od.DCL_CHOP_DUTY →
        k ≠ Od.DCL_DCL_STATUS → (∀ x y, x < 24 → y < 8 → k ≠ Od.LU_A1 x y) →
        (∀ x y, x < 24 → y < 8 → k ≠ Od.LU_A2 x y) → (∀ x y, x < 24 → y < 8 → k ≠ Od.LU_B0 x y) →
        (∀ x y, x < 24 → y < 8 → k ≠ Od.LU_B1 x y) → (∀ x y, x < 24 → y < 8 → k ≠ Od.LU_B2 x y) →
        k ≠ Od.LU_COMMITS 16 → k ≠ Od.LU_COMMITS 17 → k ≠ Od.LU_COMMITS 22 → k ≠ Od.LU_DIR_SIGNS 16 →
        k ≠ Od.LU_DIR_SIGNS 17 → k ≠ Od.LU_DIR_SIGNS 22 → k ≠ Od.LU_LU_CNT_STATUS 16 → k ≠ Od.LU_LU_CNT_STATUS 17 →
        k ≠ Od.LU_LU_CNT_STATUS 22 → (∀ x, x < 24 → k ≠ Od.LU_REF x) → (∀ y, y < 8 → k ≠ Od.LU_SEC_CTRL 16 y) →
        (∀ y, y < 8 → k ≠ Od.LU_SEC_CTRL 17 y) → (∀ y, y < 8 → k ≠ Od.LU_SEC_CTRL 22 y) → k ≠ Od.LV_BAT_SW_MODE →
        k ≠ Od.LV_HANDOVERS → k ≠ Od.LV_LV_CNT_STATUS → k ≠ Od.LV_LV_STATE → k ≠ Od.LV_LV_STATUS →
        k ≠ Od.LV_VR_SOURCE → k ≠ Od.OBS_ASC_TIME_ms 10 → k ≠ Od.OBS_OBS_CNT_STATUS 10 →
        (∀ x, x < 50 → k ≠ Od.SH_CH_STATUS x) → (∀ x, x < 8 → k ≠ Od.SOL_DUTY x) →
        (∀ x, x < 8 → k ≠ Od.SOL_ENERGISATIONS x) → (∀ x, x < 8 → k ≠ Od.SOL_SOL_CNT_STATUS x) →
        (∀ x, x < 8 → k ≠ Od.SOL_SOL_STATUS x) → s.unqueued k → t.get k = s.get k) ∧
  (∀ (s t : State) (dt : Nat) (v : Rat),
    exec (.vrOvervoltage dt v) s = .next t →
      s.changesOnly t [.od, .tb, .out, .log, .links, .drives, .cells, .legs, .store, .seqs, .axes, .traction, .lus, .stageIn, .lvCommand, .gbx, .dcl, .aux, .chg, .path] ∧
      ∀ k, noReaction k → k ≠ Od.CNV_V_VR → (∀ x, x < 15 → k ≠ Od.OBS_ASC_COUNT x) → s.unqueued k → t.get k = s.get k) ∧
  (∀ (s t : State) (dt : Nat) (v : Rat),
    exec (.towBatteryLow dt v) s = .next t →
      s.changesOnly t [.od, .tb, .out, .log, .links, .cells, .legs, .traction, .lus, .stageIn, .lvCommand, .gbx, .aux] ∧
      ∀ k, (∀ x, x < 8 → k ≠ Od.AX_TQ_REF x) → k ≠ Od.CNT_CNT_OVF_MAP → k ≠ Od.CNV_AUX_MODE → k ≠ Od.CNV_AUX_STATUS →
        k ≠ Od.DCL_CHOP_DUTY → k ≠ Od.DCL_DCL_STATUS → (∀ x y, x < 24 → y < 8 → k ≠ Od.LU_A1 x y) →
        (∀ x y, x < 24 → y < 8 → k ≠ Od.LU_A2 x y) → (∀ x y, x < 24 → y < 8 → k ≠ Od.LU_B0 x y) →
        (∀ x y, x < 24 → y < 8 → k ≠ Od.LU_B1 x y) → (∀ x y, x < 24 → y < 8 → k ≠ Od.LU_B2 x y) →
        k ≠ Od.LU_COMMITS 16 → k ≠ Od.LU_COMMITS 17 → k ≠ Od.LU_COMMITS 22 → k ≠ Od.LU_DIR_SIGNS 16 →
        k ≠ Od.LU_DIR_SIGNS 17 → k ≠ Od.LU_DIR_SIGNS 22 → k ≠ Od.LU_LU_CNT_STATUS 16 → k ≠ Od.LU_LU_CNT_STATUS 17 →
        k ≠ Od.LU_LU_CNT_STATUS 22 → (∀ x, x < 24 → k ≠ Od.LU_REF x) → (∀ y, y < 8 → k ≠ Od.LU_SEC_CTRL 16 y) →
        (∀ y, y < 8 → k ≠ Od.LU_SEC_CTRL 17 y) → (∀ y, y < 8 → k ≠ Od.LU_SEC_CTRL 22 y) → k ≠ Od.LV_LV_STATUS →
        k ≠ Od.LV_V_BAT → k ≠ Od.OBS_ASC_TIME_ms 10 → k ≠ Od.OBS_OBS_CNT_STATUS 10 →
        (∀ x, x < 50 → k ≠ Od.SH_CH_STATUS x) → (∀ x, x < 8 → k ≠ Od.SOL_DUTY x) →
        (∀ x, x < 8 → k ≠ Od.SOL_ENERGISATIONS x) → (∀ x, x < 8 → k ≠ Od.SOL_SOL_CNT_STATUS x) →
        (∀ x, x < 8 → k ≠ Od.SOL_SOL_STATUS x) → s.unqueued k → t.get k = s.get k) ∧
  (∀ (s t : State) (dt : Nat) (p : PilotLevels),
    exec (.pilotStateChange dt p) s = .next t →
      s.changesOnly t [.od, .tb, .out, .log, .links, .drives, .cells, .legs, .store, .seqs, .axes, .traction, .lus, .stageIn, .lvCommand, .gbx, .dcl, .aux, .chg, .path] ∧
      ∀ k, noReaction k → k ≠ Od.CHR_PILOT_STATE → (∀ x, x < 15 → k ≠ Od.OBS_ASC_COUNT x) → s.unqueued k →
        t.get k = s.get k) ∧
  (∀ (s t : State) (dt : Nat) (ohm : Rat),
    exec (.proximityChange dt ohm) s = .next t →
      s.changesOnly t [.od, .tb, .out, .log, .links, .drives, .cells, .legs, .store, .seqs, .axes, .traction, .lus, .stageIn, .lvCommand, .gbx, .dcl, .aux, .chg, .path] ∧
      ∀ k, noReaction k → k ≠ Od.CHR_AC_I_LIM_ACT → k ≠ Od.CHR_PROX_I → k ≠ Od.CHR_PROX_OHM → k ≠ Od.LU_OUT_MAX 19 →
        (∀ x, x < 15 → k ≠ Od.OBS_ASC_COUNT x) → s.unqueued k → t.get k = s.get k) ∧
  (∀ (s t : State) (dt : Nat),
    exec (.supplyOutOfWindow dt) s = .next t →
      s.changesOnly t [.od, .tb, .out, .log, .links, .drives, .cells, .legs, .store, .seqs, .axes, .traction, .lus, .stageIn, .lvCommand, .gbx, .dcl, .aux, .chg, .path] ∧
      ∀ k, noReaction k → (∀ x, x < 15 → k ≠ Od.OBS_ASC_COUNT x) → s.unqueued k → t.get k = s.get k) ∧
  (∀ (s t : State) (dt : Nat),
    exec (.pfcPrechargeTimeout dt) s = .next t →
      s.changesOnly t [.od, .tb, .out, .log, .links, .drives, .cells, .legs, .store, .seqs, .axes, .traction, .lus, .stageIn, .lvCommand, .gbx, .dcl, .aux, .chg, .path] ∧
      ∀ k, noReaction k → (∀ x, x < 15 → k ≠ Od.OBS_ASC_COUNT x) → s.unqueued k → t.get k = s.get k) ∧
  (∀ (s t : State) (dt : Nat),
    exec (.bmsTimeout dt) s = .next t →
      s.changesOnly t [.od, .tb, .out, .log, .links, .drives, .cells, .legs, .store, .seqs, .axes, .traction, .lus, .stageIn, .lvCommand, .gbx, .dcl, .aux, .chg, .path] ∧
      ∀ k, noReaction k → k ≠ Od.HV_BMS_TIMEOUTS → k ≠ Od.HV_HV_CNT_STATUS → (∀ x, x < 15 → k ≠ Od.OBS_ASC_COUNT x) →
        s.unqueued k → t.get k = s.get k) ∧
  (∀ (s t : State) (r : PackReading),
    exec (.packLost r) s = .next t →
      s.changesOnly t [.od, .tb, .out, .log, .links, .drives, .cells, .legs, .store, .seqs, .axes, .traction, .lus, .stageIn, .lvCommand, .gbx, .dcl, .aux, .chg, .path] ∧
      ∀ k, noReaction k → k ≠ Od.HV_HV_CNT_STATUS → k ≠ Od.HV_PACK_LOSTS → (∀ x, x < 15 → k ≠ Od.OBS_ASC_COUNT x) →
        s.unqueued k → t.get k = s.get k) ∧
  (∀ (s t : State) (dt : Nat) (c : ChargeTarget),
    exec (.safetyTimerExpiry dt c) s = .next t →
      s.changesOnly t [.od, .tb, .out, .log, .links, .drives, .cells, .legs, .store, .seqs, .axes, .traction, .lus, .stageIn, .lvCommand, .gbx, .dcl, .aux, .chg, .path] ∧
      ∀ k, noReaction k → (∀ x, x < 15 → k ≠ Od.OBS_ASC_COUNT x) → s.unqueued k → t.get k = s.get k) ∧
  (∀ (s t : State) (dt : Nat) (c : ChargeTarget),
    exec (.chargeStateTimer dt c) s = .next t →
      s.changesOnly t [.od, .tb, .out, .log, .links, .legs, .traction, .lus, .stageIn, .lvCommand, .gbx, .aux, .chg, .path] ∧
      ∀ k, (∀ x, x < 8 → k ≠ Od.AX_TQ_REF x) → k ≠ Od.BKP_BKP15 → k ≠ Od.CNT_CNT_OVF_MAP → k ≠ Od.CNV_AUX_STATUS →
        k ≠ Od.CNV_VR_TARGET → k ≠ Od.DCL_CHOP_DUTY → k ≠ Od.DCL_DCL_STATUS → k ≠ Od.HV_HV_STATE →
        k ≠ Od.HV_HV_TIMER_min → (∀ x y, x < 24 → y < 8 → k ≠ Od.LU_A1 x y) →
        (∀ x y, x < 24 → y < 8 → k ≠ Od.LU_A2 x y) → (∀ x y, x < 24 → y < 8 → k ≠ Od.LU_B0 x y) →
        (∀ x y, x < 24 → y < 8 → k ≠ Od.LU_B1 x y) → (∀ x y, x < 24 → y < 8 → k ≠ Od.LU_B2 x y) →
        k ≠ Od.LU_COMMITS 16 → k ≠ Od.LU_COMMITS 17 → k ≠ Od.LU_COMMITS 22 → k ≠ Od.LU_DIR_SIGNS 16 →
        k ≠ Od.LU_DIR_SIGNS 17 → k ≠ Od.LU_DIR_SIGNS 22 → k ≠ Od.LU_LU_CNT_STATUS 16 → k ≠ Od.LU_LU_CNT_STATUS 17 →
        k ≠ Od.LU_LU_CNT_STATUS 22 → (∀ x, x < 24 → k ≠ Od.LU_REF x) → (∀ y, y < 8 → k ≠ Od.LU_SEC_CTRL 16 y) →
        (∀ y, y < 8 → k ≠ Od.LU_SEC_CTRL 17 y) → (∀ y, y < 8 → k ≠ Od.LU_SEC_CTRL 22 y) → k ≠ Od.LV_BAT_SW_MODE →
        k ≠ Od.LV_LV_STATE → k ≠ Od.LV_LV_STATUS → k ≠ Od.LV_LV_TIMER_min → (∀ x, x < 8 → k ≠ Od.SOL_DUTY x) →
        (∀ x, x < 8 → k ≠ Od.SOL_ENERGISATIONS x) → (∀ x, x < 8 → k ≠ Od.SOL_SOL_CNT_STATUS x) →
        (∀ x, x < 8 → k ≠ Od.SOL_SOL_STATUS x) → s.unqueued k → t.get k = s.get k) ∧
  (∀ (s t : State) (dt : Nat) (v : Rat) (i : Rat),
    exec (.lvPresenceTestComplete dt v i) s = .next t →
      s.changesOnly t [.od, .tb, .out, .log, .links, .legs, .traction, .lus, .stageIn, .lvCommand, .gbx, .aux, .chg, .path] ∧
      ∀ k, (∀ x, x < 8 → k ≠ Od.AX_TQ_REF x) → k ≠ Od.BKP_BKP15 → k ≠ Od.CNT_CNT_OVF_MAP → k ≠ Od.CNV_AUX_STATUS →
        k ≠ Od.CNV_VR_TARGET → k ≠ Od.DCL_CHOP_DUTY → k ≠ Od.DCL_DCL_STATUS →
        (∀ x y, x < 24 → y < 8 → k ≠ Od.LU_A1 x y) → (∀ x y, x < 24 → y < 8 → k ≠ Od.LU_A2 x y) →
        (∀ x y, x < 24 → y < 8 → k ≠ Od.LU_B0 x y) → (∀ x y, x < 24 → y < 8 → k ≠ Od.LU_B1 x y) →
        (∀ x y, x < 24 → y < 8 → k ≠ Od.LU_B2 x y) → k ≠ Od.LU_COMMITS 16 → k ≠ Od.LU_COMMITS 17 →
        k ≠ Od.LU_COMMITS 22 → k ≠ Od.LU_DIR_SIGNS 16 → k ≠ Od.LU_DIR_SIGNS 17 → k ≠ Od.LU_DIR_SIGNS 22 →
        k ≠ Od.LU_LU_CNT_STATUS 16 → k ≠ Od.LU_LU_CNT_STATUS 17 → k ≠ Od.LU_LU_CNT_STATUS 22 →
        (∀ x, x < 24 → k ≠ Od.LU_REF x) → (∀ y, y < 8 → k ≠ Od.LU_SEC_CTRL 16 y) →
        (∀ y, y < 8 → k ≠ Od.LU_SEC_CTRL 17 y) → (∀ y, y < 8 → k ≠ Od.LU_SEC_CTRL 22 y) → k ≠ Od.LV_BAT_SW_MODE →
        k ≠ Od.LV_I_BAT → k ≠ Od.LV_LV_STATE → k ≠ Od.LV_LV_STATUS → k ≠ Od.LV_V_BAT →
        (∀ x, x < 8 → k ≠ Od.SOL_DUTY x) → (∀ x, x < 8 → k ≠ Od.SOL_ENERGISATIONS x) →
        (∀ x, x < 8 → k ≠ Od.SOL_SOL_CNT_STATUS x) → (∀ x, x < 8 → k ≠ Od.SOL_SOL_STATUS x) → s.unqueued k →
        t.get k = s.get k) ∧
  (∀ (s t : State) (dt : Nat) (who : Requester) (value : BitVec 8),
    exec (.lvAckWrite dt who value) s = .next t →
      s.changesOnly t [.od, .tb, .out, .log, .links, .legs, .traction, .lus, .stageIn, .lvCommand, .gbx, .aux, .chg, .path, .sessions] ∧
      ∀ k, noAccess k → (∀ x, x < 8 → k ≠ Od.AX_TQ_REF x) → k ≠ Od.BKP_BKP15 → k ≠ Od.CNV_AUX_STATUS →
        k ≠ Od.CNV_VR_TARGET → k ≠ Od.DCL_CHOP_DUTY → k ≠ Od.DCL_DCL_STATUS →
        (∀ x y, x < 24 → y < 8 → k ≠ Od.LU_A1 x y) → (∀ x y, x < 24 → y < 8 → k ≠ Od.LU_A2 x y) →
        (∀ x y, x < 24 → y < 8 → k ≠ Od.LU_B0 x y) → (∀ x y, x < 24 → y < 8 → k ≠ Od.LU_B1 x y) →
        (∀ x y, x < 24 → y < 8 → k ≠ Od.LU_B2 x y) → k ≠ Od.LU_COMMITS 16 → k ≠ Od.LU_COMMITS 17 →
        k ≠ Od.LU_COMMITS 22 → k ≠ Od.LU_DIR_SIGNS 16 → k ≠ Od.LU_DIR_SIGNS 17 → k ≠ Od.LU_DIR_SIGNS 22 →
        k ≠ Od.LU_LU_CNT_STATUS 16 → k ≠ Od.LU_LU_CNT_STATUS 17 → k ≠ Od.LU_LU_CNT_STATUS 22 →
        (∀ x, x < 24 → k ≠ Od.LU_REF x) → (∀ y, y < 8 → k ≠ Od.LU_SEC_CTRL 16 y) →
        (∀ y, y < 8 → k ≠ Od.LU_SEC_CTRL 17 y) → (∀ y, y < 8 → k ≠ Od.LU_SEC_CTRL 22 y) → k ≠ Od.LV_BAT_SW_MODE →
        k ≠ Od.LV_LV_STATE → k ≠ Od.LV_LV_STATUS → k ≠ Od.LV_VR_SOURCE → (∀ x, x < 8 → k ≠ Od.SOL_DUTY x) →
        (∀ x, x < 8 → k ≠ Od.SOL_ENERGISATIONS x) → (∀ x, x < 8 → k ≠ Od.SOL_SOL_CNT_STATUS x) →
        (∀ x, x < 8 → k ≠ Od.SOL_SOL_STATUS x) → s.unqueued k → t.get k = s.get k) ∧
  (∀ (s t : State) (dt : Nat) (i : Rat),
    exec (.batterySwitchOvercurrent dt i) s = .next t →
      s.changesOnly t [.od, .tb, .out, .log, .links, .legs, .traction, .lus, .stageIn, .lvCommand, .gbx, .path] ∧
      ∀ k, (∀ x, x < 8 → k ≠ Od.AX_TQ_REF x) → k ≠ Od.BKP_BKP15 → k ≠ Od.CNT_CNT_OVF_MAP → k ≠ Od.DCL_CHOP_DUTY →
        k ≠ Od.DCL_DCL_STATUS → (∀ x y, x < 24 → y < 8 → k ≠ Od.LU_A1 x y) →
        (∀ x y, x < 24 → y < 8 → k ≠ Od.LU_A2 x y) → (∀ x y, x < 24 → y < 8 → k ≠ Od.LU_B0 x y) →
        (∀ x y, x < 24 → y < 8 → k ≠ Od.LU_B1 x y) → (∀ x y, x < 24 → y < 8 → k ≠ Od.LU_B2 x y) →
        k ≠ Od.LU_COMMITS 16 → k ≠ Od.LU_COMMITS 17 → k ≠ Od.LU_COMMITS 22 → k ≠ Od.LU_DIR_SIGNS 16 →
        k ≠ Od.LU_DIR_SIGNS 17 → k ≠ Od.LU_DIR_SIGNS 22 → k ≠ Od.LU_LU_CNT_STATUS 16 → k ≠ Od.LU_LU_CNT_STATUS 17 →
        k ≠ Od.LU_LU_CNT_STATUS 22 → (∀ x, x < 24 → k ≠ Od.LU_REF x) → (∀ y, y < 8 → k ≠ Od.LU_SEC_CTRL 16 y) →
        (∀ y, y < 8 → k ≠ Od.LU_SEC_CTRL 17 y) → (∀ y, y < 8 → k ≠ Od.LU_SEC_CTRL 22 y) → k ≠ Od.LV_BAT_SW_MODE →
        k ≠ Od.LV_I_BAT → k ≠ Od.LV_LV_STATUS → k ≠ Od.LV_VR_SOURCE → (∀ x, x < 8 → k ≠ Od.SOL_DUTY x) →
        (∀ x, x < 8 → k ≠ Od.SOL_ENERGISATIONS x) → (∀ x, x < 8 → k ≠ Od.SOL_SOL_CNT_STATUS x) →
        (∀ x, x < 8 → k ≠ Od.SOL_SOL_STATUS x) → s.unqueued k → t.get k = s.get k) ∧
  (∀ (s t : State) (dt : Nat),
    exec (.handoverSwitchOn dt) s = .next t →
      s.changesOnly t [.od, .tb, .out, .log, .links, .legs, .traction, .lus, .stageIn, .lvCommand, .gbx, .path] ∧
      ∀ k, (∀ x, x < 8 → k ≠ Od.AX_TQ_REF x) → k ≠ Od.BKP_BKP15 → k ≠ Od.CNT_CNT_OVF_MAP → k ≠ Od.DCL_CHOP_DUTY →
        k ≠ Od.DCL_DCL_STATUS → (∀ x y, x < 24 → y < 8 → k ≠ Od.LU_A1 x y) →
        (∀ x y, x < 24 → y < 8 → k ≠ Od.LU_A2 x y) → (∀ x y, x < 24 → y < 8 → k ≠ Od.LU_B0 x y) →
        (∀ x y, x < 24 → y < 8 → k ≠ Od.LU_B1 x y) → (∀ x y, x < 24 → y < 8 → k ≠ Od.LU_B2 x y) →
        k ≠ Od.LU_COMMITS 16 → k ≠ Od.LU_COMMITS 17 → k ≠ Od.LU_COMMITS 22 → k ≠ Od.LU_DIR_SIGNS 16 →
        k ≠ Od.LU_DIR_SIGNS 17 → k ≠ Od.LU_DIR_SIGNS 22 → k ≠ Od.LU_LU_CNT_STATUS 16 → k ≠ Od.LU_LU_CNT_STATUS 17 →
        k ≠ Od.LU_LU_CNT_STATUS 22 → (∀ x, x < 24 → k ≠ Od.LU_REF x) → (∀ y, y < 8 → k ≠ Od.LU_SEC_CTRL 16 y) →
        (∀ y, y < 8 → k ≠ Od.LU_SEC_CTRL 17 y) → (∀ y, y < 8 → k ≠ Od.LU_SEC_CTRL 22 y) → k ≠ Od.LV_BAT_SW_MODE →
        k ≠ Od.LV_LV_STATUS → k ≠ Od.LV_VR_SOURCE → (∀ x, x < 8 → k ≠ Od.SOL_DUTY x) →
        (∀ x, x < 8 → k ≠ Od.SOL_ENERGISATIONS x) → (∀ x, x < 8 → k ≠ Od.SOL_SOL_CNT_STATUS x) →
        (∀ x, x < 8 → k ≠ Od.SOL_SOL_STATUS x) → s.unqueued k → t.get k = s.get k) ∧
  (∀ (s t : State) (dt : Nat),
    exec (.handbackCountComplete dt) s = .next t →
      s.changesOnly t [.od, .tb, .out, .log, .links, .cells, .legs, .traction, .lus, .stageIn, .lvCommand, .gbx, .aux] ∧
      ∀ k, (∀ x, x < 8 → k ≠ Od.AX_TQ_REF x) → k ≠ Od.CNT_CNT_OVF_MAP → k ≠ Od.CNV_AUX_MODE → k ≠ Od.CNV_AUX_STATUS →
        k ≠ Od.CNV_VR_REF → k ≠ Od.DCL_CHOP_DUTY → k ≠ Od.DCL_DCL_STATUS →
        (∀ x y, x < 24 → y < 8 → k ≠ Od.LU_A1 x y) → (∀ x y, x < 24 → y < 8 → k ≠ Od.LU_A2 x y) →
        (∀ x y, x < 24 → y < 8 → k ≠ Od.LU_B0 x y) → (∀ x y, x < 24 → y < 8 → k ≠ Od.LU_B1 x y) →
        (∀ x y, x < 24 → y < 8 → k ≠ Od.LU_B2 x y) → k ≠ Od.LU_COMMITS 16 → k ≠ Od.LU_COMMITS 17 →
        k ≠ Od.LU_COMMITS 22 → k ≠ Od.LU_DIR_SIGNS 16 → k ≠ Od.LU_DIR_SIGNS 17 → k ≠ Od.LU_DIR_SIGNS 22 →
        k ≠ Od.LU_LU_CNT_STATUS 16 → k ≠ Od.LU_LU_CNT_STATUS 17 → k ≠ Od.LU_LU_CNT_STATUS 22 →
        (∀ x, x < 24 → k ≠ Od.LU_REF x) → (∀ y, y < 8 → k ≠ Od.LU_SEC_CTRL 16 y) →
        (∀ y, y < 8 → k ≠ Od.LU_SEC_CTRL 17 y) → (∀ y, y < 8 → k ≠ Od.LU_SEC_CTRL 22 y) → k ≠ Od.LV_LV_STATUS →
        k ≠ Od.LV_VR_SOURCE → (∀ x, x < 8 → k ≠ Od.SOL_DUTY x) → (∀ x, x < 8 → k ≠ Od.SOL_ENERGISATIONS x) →
        (∀ x, x < 8 → k ≠ Od.SOL_SOL_CNT_STATUS x) → (∀ x, x < 8 → k ≠ Od.SOL_SOL_STATUS x) → s.unqueued k →
        t.get k = s.get k) ∧
  (∀ (s t : State) (dt : Nat) (v : Rat),
    exec (.exportBackfeed dt v) s = .next t →
      s.changesOnly t [.od, .tb, .out, .log, .links, .drives, .cells, .legs, .store, .seqs, .axes, .traction, .lus, .stageIn, .lvCommand, .gbx, .dcl, .aux, .chg, .path] ∧
      ∀ k, noReaction k → (∀ x, x < 15 → k ≠ Od.OBS_ASC_COUNT x) → s.unqueued k → t.get k = s.get k) ∧
  (∀ (s t : State) (dt : Nat),
    exec (.exportOverloadTrip dt) s = .next t →
      s.changesOnly t [.od, .tb, .out, .log, .links, .drives, .cells, .legs, .store, .seqs, .axes, .traction, .lus, .stageIn, .lvCommand, .gbx, .dcl, .aux, .chg, .path] ∧
      ∀ k, noReaction k → k ≠ Od.EXP_EXP_CNT_STATUS → k ≠ Od.EXP_EXP_TRIPS → (∀ x, x < 15 → k ≠ Od.OBS_ASC_COUNT x) →
        s.unqueued k → t.get k = s.get k) ∧
  (∀ (s t : State) (dt : Nat),
    exec (.svcHold10s dt) s = .next t →
      s.keepsParts t [.fresh, .store, .cust, .pending] ∧
      ∀ k, noReset k → safeKey k = false → t.get k = s.get k ∨ keptKey k = false ∧ t.get k = dictDefault k) ∧
  (∀ (s t : State) (dt : Nat),
    exec (.systemResetRestore dt) s = .next t →
      s.changesOnly t [.od, .tb, .out, .log, .links, .legs, .traction, .lus, .stageIn, .lvCommand, .gbx, .path] ∧
      ∀ k, (∀ x, x < 8 → k ≠ Od.AX_TQ_REF x) → k ≠ Od.BKP_BKP15 → k ≠ Od.CNT_CNT_OVF_MAP → k ≠ Od.DCL_CHOP_DUTY →
        k ≠ Od.DCL_DCL_STATUS → (∀ x y, x < 24 → y < 8 → k ≠ Od.LU_A1 x y) →
        (∀ x y, x < 24 → y < 8 → k ≠ Od.LU_A2 x y) → (∀ x y, x < 24 → y < 8 → k ≠ Od.LU_B0 x y) →
        (∀ x y, x < 24 → y < 8 → k ≠ Od.LU_B1 x y) → (∀ x y, x < 24 → y < 8 → k ≠ Od.LU_B2 x y) →
        k ≠ Od.LU_COMMITS 16 → k ≠ Od.LU_COMMITS 17 → k ≠ Od.LU_COMMITS 22 → k ≠ Od.LU_DIR_SIGNS 16 →
        k ≠ Od.LU_DIR_SIGNS 17 → k ≠ Od.LU_DIR_SIGNS 22 → k ≠ Od.LU_LU_CNT_STATUS 16 → k ≠ Od.LU_LU_CNT_STATUS 17 →
        k ≠ Od.LU_LU_CNT_STATUS 22 → (∀ x, x < 24 → k ≠ Od.LU_REF x) → (∀ y, y < 8 → k ≠ Od.LU_SEC_CTRL 16 y) →
        (∀ y, y < 8 → k ≠ Od.LU_SEC_CTRL 17 y) → (∀ y, y < 8 → k ≠ Od.LU_SEC_CTRL 22 y) → k ≠ Od.LV_BAT_SW_MODE →
        k ≠ Od.LV_LV_STATUS → k ≠ Od.LV_VR_SOURCE → (∀ x, x < 8 → k ≠ Od.SOL_DUTY x) →
        (∀ x, x < 8 → k ≠ Od.SOL_ENERGISATIONS x) → (∀ x, x < 8 → k ≠ Od.SOL_SOL_CNT_STATUS x) →
        (∀ x, x < 8 → k ≠ Od.SOL_SOL_STATUS x) → k ≠ Od.SUP_ACTIVE_SOURCE → k ≠ Od.SUP_SOURCE_CHANGES →
        k ≠ Od.SUP_SUPPLY_STATUS → s.unqueued k → t.get k = s.get k) ∧
  (∀ (s t : State) (dt : Nat),
    exec (.peatEntryComplete dt) s = .next t →
      s.keepsParts t [.fresh, .store, .cust, .pending] ∧
      ∀ k, noReset k → safeKey k = false → t.get k = s.get k ∨ keptKey k = false ∧ t.get k = dictDefault k) ∧
  (∀ (s t : State) (dt : Nat) (bySvc : Bool),
    exec (.peatWake dt bySvc) s = .next t →
      s.changesOnly t [.od, .tb, .out, .log, .bringup, .links, .legs, .traction, .lus, .stageIn, .lvCommand, .gbx, .path] ∧
      ∀ k, (∀ x, x < 8 → k ≠ Od.AX_TQ_REF x) → k ≠ Od.BKP_BKP15 → k ≠ Od.CNT_CNT_OVF_MAP → k ≠ Od.DCL_CHOP_DUTY →
        k ≠ Od.DCL_DCL_STATUS → (∀ x y, x < 24 → y < 8 → k ≠ Od.LU_A1 x y) →
        (∀ x y, x < 24 → y < 8 → k ≠ Od.LU_A2 x y) → (∀ x y, x < 24 → y < 8 → k ≠ Od.LU_B0 x y) →
        (∀ x y, x < 24 → y < 8 → k ≠ Od.LU_B1 x y) → (∀ x y, x < 24 → y < 8 → k ≠ Od.LU_B2 x y) →
        k ≠ Od.LU_COMMITS 16 → k ≠ Od.LU_COMMITS 17 → k ≠ Od.LU_COMMITS 22 → k ≠ Od.LU_DIR_SIGNS 16 →
        k ≠ Od.LU_DIR_SIGNS 17 → k ≠ Od.LU_DIR_SIGNS 22 → k ≠ Od.LU_LU_CNT_STATUS 16 → k ≠ Od.LU_LU_CNT_STATUS 17 →
        k ≠ Od.LU_LU_CNT_STATUS 22 → (∀ x, x < 24 → k ≠ Od.LU_REF x) → (∀ y, y < 8 → k ≠ Od.LU_SEC_CTRL 16 y) →
        (∀ y, y < 8 → k ≠ Od.LU_SEC_CTRL 17 y) → (∀ y, y < 8 → k ≠ Od.LU_SEC_CTRL 22 y) → k ≠ Od.LV_BAT_SW_MODE →
        k ≠ Od.LV_LV_STATUS → k ≠ Od.LV_VR_SOURCE → (∀ x, x < 8 → k ≠ Od.SOL_DUTY x) →
        (∀ x, x < 8 → k ≠ Od.SOL_ENERGISATIONS x) → (∀ x, x < 8 → k ≠ Od.SOL_SOL_CNT_STATUS x) →
        (∀ x, x < 8 → k ≠ Od.SOL_SOL_STATUS x) → k ≠ Od.SUP_ACTIVE_SOURCE → k ≠ Od.SUP_SOURCE_CHANGES →
        k ≠ Od.SUP_SUPPLY_STATUS → s.unqueued k → t.get k = s.get k) ∧
  (∀ (s t : State) (dt : Nat),
    exec (.fenRoundLate dt) s = .next t →
      s.changesOnly t [.od, .tb, .out, .log, .links, .drives, .cells, .legs, .store, .seqs, .axes, .traction, .lus, .stageIn, .lvCommand, .gbx, .dcl, .aux, .chg, .path, .thermal] ∧
      ∀ k, noReaction k → (∀ x, x < 15 → k ≠ Od.CELL_CELL_BAND x) → (∀ x, x < 15 → k ≠ Od.OBS_ASC_COUNT x) →
        (∀ x, x < 64 → k ≠ Od.SEN_BROKEN_EVENTS x) → (∀ x, x < 64 → k ≠ Od.SEN_K_FACTOR x) →
        (∀ x, x < 64 → k ≠ Od.SEN_SENSOR_STATUS x) → (∀ x, x < 64 → k ≠ Od.SEN_SHUTDOWNS x) →
        (∀ x, x < 64 → k ≠ Od.SEN_TEMP x) → k ≠ Od.THM_BROKEN_NOW → (∀ x, x < 6 → k ≠ Od.THM_DERATE x) →
        k ≠ Od.THM_ROUND_OVERRUNS → k ≠ Od.THM_TH_CNT_STATUS → k ≠ Od.THM_TH_SHUTDOWNS → k ≠ Od.THM_TH_STATUS →
        s.unqueued k → t.get k = s.get k) ∧
  (∀ (s t : State) (dt : Nat) (failed : BitVec 10),
    exec (.pyreriStartupTestsComplete dt failed) s = .next t →
      s.changesOnly t [.od, .tb, .out, .log, .bringup, .links, .drives, .cells, .legs, .store, .seqs, .axes, .traction, .lus, .stageIn, .lvCommand, .gbx, .dcl, .aux, .chg, .path, .pyr, .conns] ∧
      ∀ k, noReaction k → (∀ x, x < 15 → k ≠ Od.CELL_SELFTEST_RESULT x) → (∀ x, x < 16 → k ≠ Od.HSF_CONN_STATE x) →
        (∀ x, x < 15 → k ≠ Od.OBS_ASC_COUNT x) → k ≠ Od.PYR_CONFIG_ACT → k ≠ Od.PYR_PYR_CNT_STATUS →
        k ≠ Od.PYR_PYR_STATUS → k ≠ Od.PYR_STARTUP_RESULT → (∀ x, x < 6 → k ≠ Od.PYR_TQO_ASSERTIONS x) →
        s.unqueued k → t.get k = s.get k) ∧
  (∀ (s t : State) (dt : Nat) (odd : Option (Fin 3)) (clk : Nat),
    exec (.laneDifference dt odd clk) s = .next t →
      s.changesOnly t [.od, .tb, .out, .log, .links, .drives, .cells, .legs, .store, .seqs, .axes, .traction, .lus, .stageIn, .lvCommand, .gbx, .dcl, .aux, .chg, .path, .pyr, .safety, .conns] ∧
      ∀ k, noReaction k → (∀ x, x < 15 → k ≠ Od.CELL_SELFTEST_RESULT x) → (∀ x, x < 16 → k ≠ Od.HSF_CONN_STATE x) →
        (∀ x, x < 15 → k ≠ Od.OBS_ASC_COUNT x) → k ≠ Od.PYR_CONFIG_ACT → k ≠ Od.PYR_LAST_ODD_CORE →
        k ≠ Od.PYR_MISMATCHES → k ≠ Od.PYR_PYR_CNT_STATUS → k ≠ Od.PYR_PYR_STATUS → k ≠ Od.PYR_RESYNC_STATE →
        (∀ x, x < 6 → k ≠ Od.PYR_TQO_ASSERTIONS x) → k ≠ Od.SFS_DEMANDS → (∀ x, x < 6 → k ≠ Od.SFS_SF_STATE x) →
        s.unqueued k → t.get k = s.get k) ∧
  (∀ (s t : State) (dt : Nat) (x : CycleInputs),
    exec (.safetyCycle dt x) s = .next t →
      s.keepsParts t [.fresh, .bringup, .clocks, .cust, .shunts, .gcps, .pifs, .engines, .tasks, .pool, .thermal, .crcs, .time, .canA, .sessions, .img, .cap, .pending] ∧
      ∀ k, noReaction k → (∀ x, x < 4 → k ≠ Od.CAN_CAN_CNT_STATUS x) → (∀ x, x < 4 → k ≠ Od.CAN_SLOT_REFUSALS x) →
        (∀ x, x < 4 → k ≠ Od.CAN_STALE_DROPS x) → (∀ x, x < 15 → k ≠ Od.CELL_SELFTEST_RESULT x) →
        k ≠ Od.ETH_TX_FRAMES → (∀ x, x < 16 → k ≠ Od.HSF_CONN_CNT_STATUS x) →
        (∀ x, x < 16 → k ≠ Od.HSF_CONN_FAULTS x) → (∀ x, x < 16 → k ≠ Od.HSF_CONN_STATE x) →
        (∀ x, x < 16 → k ≠ Od.HSF_CRC_ERRORS x) → (∀ x, x < 16 → k ≠ Od.HSF_FORMAT_ERRORS x) →
        (∀ x, x < 16 → k ≠ Od.HSF_FRAMES_OK x) → (∀ x, x < 16 → k ≠ Od.HSF_LAST_AGE_us x) →
        (∀ x, x < 16 → k ≠ Od.HSF_LAST_SEQ x) → (∀ x, x < 16 → k ≠ Od.HSF_LOST x) →
        (∀ x, x < 16 → k ≠ Od.HSF_REPEATS x) → (∀ x, x < 16 → k ≠ Od.HSF_SEQ_WRAPS x) →
        (∀ x, x < 16 → k ≠ Od.HSF_TIME_ERRORS x) → (∀ x, x < 15 → k ≠ Od.OBS_ASC_COUNT x) →
        (∀ x, x < 4 → k ≠ Od.PAIR_PAIR_STATE x) → k ≠ Od.PYR_CONFIG_ACT → k ≠ Od.PYR_CYCLES → k ≠ Od.PYR_CYCLE_LOAD →
        k ≠ Od.PYR_EXCH_MISSES → k ≠ Od.PYR_HANDOVERS → k ≠ Od.PYR_LAST_ODD_CORE → k ≠ Od.PYR_MISMATCHES →
        k ≠ Od.PYR_P2_BLOCKED → k ≠ Od.PYR_PYR_CNT_STATUS → k ≠ Od.PYR_PYR_STATUS →
        (∀ x, x < 3 → k ≠ Od.PYR_RESYNCS x) → k ≠ Od.PYR_RESYNC_STATE → k ≠ Od.PYR_RESYNC_WINDOW_ms →
        (∀ x, x < 6 → k ≠ Od.PYR_TQO_ASSERTIONS x) → k ≠ Od.SFS_DEMANDS → (∀ x, x < 2 → k ≠ Od.SFS_E2_SPEED x) →
        k ≠ Od.SFS_REFUSALS → k ≠ Od.SFS_RELEASES → (∀ x, x < 2 → k ≠ Od.SFS_SAFE_SPEED x) →
        (∀ x, x < 2 → k ≠ Od.SFS_SAFE_TQ x) → k ≠ Od.SFS_SF_CNT_STATUS → (∀ x, x < 6 → k ≠ Od.SFS_SF_STATE x) →
        k ≠ Od.SFS_SI_LEVELS → (∀ x, x < 4 → k ≠ Od.SO_SO_FAULTS x) → (∀ x, x < 4 → k ≠ Od.SO_SO_STATE x) →
        (∀ x, x < 4 → k ≠ Od.SO_SO_V x) → s.unqueued k → safeKey k = false → t.get k = s.get k) ∧
  (∀ (s t : State) (dt : Nat),
    exec (.cycleWatchdogExpiry dt) s = .next t →
      s.changesOnly t [.od, .tb, .out, .log, .links, .drives, .cells, .legs, .store, .seqs, .axes, .traction, .lus, .stageIn, .lvCommand, .gbx, .dcl, .aux, .chg, .path, .pyr, .safety, .conns] ∧
      ∀ k, noReaction k → (∀ x, x < 15 → k ≠ Od.CELL_SELFTEST_RESULT x) → (∀ x, x < 16 → k ≠ Od.HSF_CONN_STATE x) →
        (∀ x, x < 15 → k ≠ Od.OBS_ASC_COUNT x) → k ≠ Od.PYR_PYR_CNT_STATUS → k ≠ Od.PYR_PYR_STATUS →
        k ≠ Od.PYR_RESYNC_STATE → (∀ x, x < 6 → k ≠ Od.PYR_TQO_ASSERTIONS x) → k ≠ Od.SFS_DEMANDS →
        (∀ x, x < 6 → k ≠ Od.SFS_SF_STATE x) → s.unqueued k → t.get k = s.get k) ∧
  (∀ (s t : State) (dt : Nat),
    exec (.exchangeStale dt) s = .next t →
      s.changesOnly t [.od, .tb, .out, .log, .links, .drives, .cells, .legs, .store, .seqs, .axes, .traction, .lus, .stageIn, .lvCommand, .gbx, .dcl, .aux, .chg, .path, .safety] ∧
      ∀ k, noReaction k → (∀ x, x < 15 → k ≠ Od.CELL_SELFTEST_RESULT x) → (∀ x, x < 15 → k ≠ Od.OBS_ASC_COUNT x) →
        k ≠ Od.PYR_PYR_CNT_STATUS → k ≠ Od.PYR_PYR_STATUS → (∀ x, x < 6 → k ≠ Od.PYR_TQO_ASSERTIONS x) →
        k ≠ Od.SFS_DEMANDS → (∀ x, x < 6 → k ≠ Od.SFS_SF_STATE x) → s.unqueued k → t.get k = s.get k) ∧
  (∀ (s t : State) (dt : Nat) (who : Requester),
    exec (.configReqTriple dt who) s = .next t →
      s.keepsParts t [.fresh, .bringup, .clocks, .cust, .shunts, .gcps, .pifs, .engines, .tasks, .pool, .thermal, .crcs, .chans, .time, .canA, .img, .cap, .pending] ∧
      ∀ k, noReaction k → noAccess k → (∀ x, x < 15 → k ≠ Od.CELL_SELFTEST_RESULT x) →
        (∀ x, x < 16 → k ≠ Od.HSF_CONN_STATE x) → (∀ x, x < 15 → k ≠ Od.OBS_ASC_COUNT x) → k ≠ Od.PYR_CONFIG_ACT →
        k ≠ Od.PYR_PYR_CNT_STATUS → k ≠ Od.PYR_PYR_STATUS → k ≠ Od.PYR_STARTUP_RESULT →
        (∀ x, x < 6 → k ≠ Od.PYR_TQO_ASSERTIONS x) → k ≠ Od.SFS_DEMANDS → (∀ x, x < 6 → k ≠ Od.SFS_SF_STATE x) →
        s.unqueued k → t.get k = s.get k) ∧
  (∀ (s t : State) (dt : Nat) (who : Requester),
    exec (.configReqPair dt who) s = .next t →
      s.keepsParts t [.fresh, .bringup, .clocks, .cust, .shunts, .gcps, .pifs, .engines, .tasks, .pool, .thermal, .crcs, .chans, .time, .canA, .img, .cap, .pending] ∧
      ∀ k, noReaction k → noAccess k → (∀ x, x < 15 → k ≠ Od.CELL_SELFTEST_RESULT x) →
        (∀ x, x < 16 → k ≠ Od.HSF_CONN_STATE x) → (∀ x, x < 15 → k ≠ Od.OBS_ASC_COUNT x) → k ≠ Od.PYR_CONFIG_ACT →
        k ≠ Od.PYR_PYR_CNT_STATUS → k ≠ Od.PYR_PYR_STATUS → k ≠ Od.PYR_STARTUP_RESULT →
        (∀ x, x < 6 → k ≠ Od.PYR_TQO_ASSERTIONS x) → k ≠ Od.SFS_DEMANDS → (∀ x, x < 6 → k ≠ Od.SFS_SF_STATE x) →
        s.unqueued k → t.get k = s.get k) ∧
  (∀ (s t : State) (dt : Nat) (who : Requester),
    exec (.configReqSplit dt who) s = .next t →
      s.keepsParts t [.fresh, .bringup, .clocks, .cust, .shunts, .gcps, .pifs, .engines, .tasks, .pool, .thermal, .crcs, .chans, .time, .canA, .img, .cap, .pending] ∧
      ∀ k, noReaction k → noAccess k → (∀ x, x < 15 → k ≠ Od.CELL_SELFTEST_RESULT x) →
        (∀ x, x < 16 → k ≠ Od.HSF_CONN_STATE x) → (∀ x, x < 15 → k ≠ Od.OBS_ASC_COUNT x) → k ≠ Od.PYR_CONFIG_ACT →
        k ≠ Od.PYR_PYR_CNT_STATUS → k ≠ Od.PYR_PYR_STATUS → k ≠ Od.PYR_STARTUP_RESULT →
        (∀ x, x < 6 → k ≠ Od.PYR_TQO_ASSERTIONS x) → k ≠ Od.SFS_DEMANDS → (∀ x, x < 6 → k ≠ Od.SFS_SF_STATE x) →
        s.unqueued k → t.get k = s.get k) ∧
  (∀ (s t : State) (dt : Nat) (who : Requester),
    exec (.configReqLeaveSplit dt who) s = .next t →
      s.keepsParts t [.fresh, .bringup, .clocks, .cust, .shunts, .gcps, .pifs, .engines, .tasks, .pool, .thermal, .crcs, .chans, .time, .canA, .img, .cap, .pending] ∧
      ∀ k, noReaction k → noAccess k → (∀ x, x < 15 → k ≠ Od.CELL_SELFTEST_RESULT x) →
        (∀ x, x < 16 → k ≠ Od.HSF_CONN_STATE x) → (∀ x, x < 15 → k ≠ Od.OBS_ASC_COUNT x) → k ≠ Od.PYR_CONFIG_ACT →
        k ≠ Od.PYR_PYR_CNT_STATUS → k ≠ Od.PYR_PYR_STATUS → k ≠ Od.PYR_STARTUP_RESULT →
        (∀ x, x < 6 → k ≠ Od.PYR_TQO_ASSERTIONS x) → k ≠ Od.SFS_DEMANDS → (∀ x, x < 6 → k ≠ Od.SFS_SF_STATE x) →
        s.unqueued k → t.get k = s.get k) ∧
  (∀ (s t : State) (dt : Nat) (d : Drive) (channels : BitVec 2),
    exec (.tqoReadbackFault dt d channels) s = .next t →
      s.changesOnly t [.od, .tb, .out, .log, .links, .drives, .cells, .legs, .store, .seqs, .axes, .traction, .lus, .stageIn, .lvCommand, .gbx, .dcl, .aux, .chg, .path, .safety] ∧
      ∀ k, noReaction k → (∀ x, x < 15 → k ≠ Od.CELL_SELFTEST_RESULT x) → (∀ x, x < 15 → k ≠ Od.OBS_ASC_COUNT x) →
        k ≠ Od.PYR_PYR_CNT_STATUS → k ≠ Od.PYR_PYR_STATUS → (∀ x, x < 6 → k ≠ Od.PYR_TQO_ASSERTIONS x) →
        k ≠ Od.SFS_DEMANDS → (∀ x, x < 6 → k ≠ Od.SFS_SF_STATE x) → s.unqueued k → t.get k = s.get k) ∧
  (∀ (s t : State) (dt : Nat) (ch : Fin 8) (high : Bool),
    exec (.safetyInputChange dt ch high) s = .next t →
      s.changesOnly t [.od, .tb, .out, .log, .links, .drives, .cells, .legs, .store, .seqs, .axes, .traction, .lus, .stageIn, .lvCommand, .gbx, .dcl, .aux, .chg, .path, .pyr, .safety] ∧
      ∀ k, noReaction k → (∀ x, x < 4 → k ≠ Od.PAIR_PAIR_STATE x) → k ≠ Od.PYR_PYR_STATUS → k ≠ Od.SFS_DEMANDS →
        k ≠ Od.SFS_REFUSALS → k ≠ Od.SFS_RELEASES → k ≠ Od.SFS_SF_CNT_STATUS → (∀ x, x < 6 → k ≠ Od.SFS_SF_STATE x) →
        k ≠ Od.SFS_SI_LEVELS → s.unqueued k → t.get k = s.get k) ∧
  (∀ (s t : State) (dt : Nat) (who : Requester) (mask : BitVec 8),
    exec (.safeReleaseWrite dt who mask) s = .next t →
      s.changesOnly t [.od, .tb, .out, .log, .links, .drives, .cells, .legs, .store, .seqs, .axes, .traction, .lus, .stageIn, .lvCommand, .gbx, .dcl, .aux, .chg, .path, .pyr, .safety, .sessions] ∧
      ∀ k, noReaction k → noAccess k → k ≠ Od.PYR_PYR_STATUS → k ≠ Od.SFS_DEMANDS → k ≠ Od.SFS_REFUSALS →
        k ≠ Od.SFS_RELEASES → k ≠ Od.SFS_SF_CNT_STATUS → (∀ x, x < 6 → k ≠ Od.SFS_SF_STATE x) → s.unqueued k →
        t.get k = s.get k) ∧
  (∀ (s t : State) (dt : Nat) (d : Drive),
    exec (.ss1TimeExpiry dt d) s = .next t →
      s.changesOnly t [.od, .tb, .out, .log, .links, .drives, .cells, .legs, .store, .seqs, .axes, .traction, .lus, .stageIn, .lvCommand, .gbx, .dcl, .aux, .chg, .path, .safety] ∧
      ∀ k, noReaction k → (∀ x, x < 15 → k ≠ Od.CELL_SELFTEST_RESULT x) → (∀ x, x < 15 → k ≠ Od.OBS_ASC_COUNT x) →
        k ≠ Od.PYR_PYR_CNT_STATUS → (∀ x, x < 6 → k ≠ Od.PYR_TQO_ASSERTIONS x) → k ≠ Od.SFS_DEMANDS →
        (∀ x, x < 6 → k ≠ Od.SFS_SF_STATE x) → s.unqueued k → t.get k = s.get k) ∧
  (∀ (s t : State) (dt : Nat) (t0 : Fin 2),
    exec (.sltViolation dt t0) s = .next t →
      s.changesOnly t [.od, .tb, .out, .log, .links, .drives, .cells, .legs, .store, .seqs, .axes, .traction, .lus, .stageIn, .lvCommand, .gbx, .dcl, .aux, .chg, .path, .safety] ∧
      ∀ k, noReaction k → (∀ x, x < 15 → k ≠ Od.CELL_SELFTEST_RESULT x) → (∀ x, x < 15 → k ≠ Od.OBS_ASC_COUNT x) →
        k ≠ Od.PYR_PYR_CNT_STATUS → (∀ x, x < 6 → k ≠ Od.PYR_TQO_ASSERTIONS x) → k ≠ Od.SFS_DEMANDS →
        (∀ x, x < 6 → k ≠ Od.SFS_SF_STATE x) → s.unqueued k → t.get k = s.get k) ∧
  (∀ (s t : State) (dt : Nat) (t0 : Fin 2),
    exec (.speedPlausibilityFault dt t0) s = .next t →
      s.changesOnly t [.od, .tb, .out, .log, .links, .drives, .cells, .legs, .store, .seqs, .axes, .traction, .lus, .stageIn, .lvCommand, .gbx, .dcl, .aux, .chg, .path, .safety] ∧
      ∀ k, noReaction k → (∀ x, x < 15 → k ≠ Od.CELL_SELFTEST_RESULT x) → (∀ x, x < 15 → k ≠ Od.OBS_ASC_COUNT x) →
        k ≠ Od.PYR_PYR_CNT_STATUS → (∀ x, x < 6 → k ≠ Od.PYR_TQO_ASSERTIONS x) → k ≠ Od.SFS_DEMANDS →
        (∀ x, x < 6 → k ≠ Od.SFS_SF_STATE x) → s.unqueued k → t.get k = s.get k) ∧
  (∀ (s t : State) (dt : Nat) (t0 : Fin 2),
    exec (.e2GapExpiry dt t0) s = .next t →
      s.changesOnly t [.od, .tb, .out, .log, .links, .drives, .cells, .legs, .store, .seqs, .axes, .traction, .lus, .stageIn, .lvCommand, .gbx, .dcl, .aux, .chg, .path, .safety] ∧
      ∀ k, noReaction k → (∀ x, x < 15 → k ≠ Od.CELL_SELFTEST_RESULT x) → (∀ x, x < 15 → k ≠ Od.OBS_ASC_COUNT x) →
        k ≠ Od.PYR_PYR_CNT_STATUS → (∀ x, x < 6 → k ≠ Od.PYR_TQO_ASSERTIONS x) → k ≠ Od.SFS_DEMANDS →
        (∀ x, x < 6 → k ≠ Od.SFS_SF_STATE x) → s.unqueued k → t.get k = s.get k) ∧
  (∀ (s t : State) (dt : Nat) (k0 : Fin 4) (v : Rat),
    exec (.sorrelPulse dt k0 v) s = .next t →
      s.changesOnly t [.od, .tb, .out, .log, .links, .drives, .cells, .legs, .store, .seqs, .axes, .traction, .lus, .stageIn, .lvCommand, .gbx, .dcl, .aux, .chg, .path, .safety] ∧
      ∀ k, noReaction k → (∀ x, x < 15 → k ≠ Od.CELL_SELFTEST_RESULT x) → (∀ x, x < 15 → k ≠ Od.OBS_ASC_COUNT x) →
        k ≠ Od.PYR_PYR_CNT_STATUS → (∀ x, x < 6 → k ≠ Od.PYR_TQO_ASSERTIONS x) → k ≠ Od.SFS_DEMANDS →
        k ≠ Od.SFS_SF_CNT_STATUS → (∀ x, x < 6 → k ≠ Od.SFS_SF_STATE x) → k ≠ Od.SO_SO_FAULTS k0 →
        k ≠ Od.SO_SO_STATE k0 → s.unqueued k → t.get k = s.get k) ∧
  (∀ (s t : State) (dt : Nat) (c : Fin 4) (m : CanMsg) (sofAgo : Nat),
    exec (.canFrameReceive dt c m sofAgo) s = .next t →
      s.keepsParts t [.bringup, .clocks, .cust, .shunts, .gcps, .pifs, .engines, .tasks, .pool, .thermal, .pyr, .safety, .conns, .img, .cap, .pending] ∧
      ∀ k, noReaction k → k ≠ Od.AXLE_AXLE_TQ_SET → (∀ x, x < 4 → k ≠ Od.CAN_BUS_OFFS x) →
        k ≠ Od.CAN_CAN_CNT_STATUS c → (∀ x, x < 4 → k ≠ Od.CAN_ERR_FRAMES x) →
        (∀ y, y < 64 → k ≠ Od.CAN_FILTER_HITS c y) → k ≠ Od.CAN_LAST_RX_TS c →
        (∀ x, x < 4 → k ≠ Od.CAN_RXQ0_DROPS x) → (∀ x, x < 4 → k ≠ Od.CAN_RXQ1_DROPS x) → k ≠ Od.CAN_RX_FRAMES c →
        (∀ x, x < 4 → k ≠ Od.CAN_STALE_DROPS x) → (∀ x, x < 4 → k ≠ Od.CAN_UNMATCHED x) →
        (∀ x, x < 6 → k ≠ Od.OWN_OWNER x) → k ≠ Od.OWN_OWN_STATUS → k ≠ Od.TIME_MASTER_RANK → s.unqueued k →
        t.get k = s.get k) ∧
  (∀ (s t : State) (dt : Nat) (c : Fin 4) (sofAgo : Nat),
    exec (.canFrameTransmitComplete dt c sofAgo) s = .next t →
      s.keepsParts t [.fresh, .bringup, .clocks, .cust, .shunts, .gcps, .pifs, .engines, .tasks, .pool, .thermal, .pyr, .safety, .conns, .img, .cap, .pending] ∧
      ∀ k, noReaction k → k ≠ Od.AXLE_AXLE_TQ_SET → k ≠ Od.CAN_CAN_CNT_STATUS c →
        (∀ x, x < 4 → k ≠ Od.CAN_STALE_DROPS x) → k ≠ Od.CAN_TX_FRAMES c → (∀ x, x < 6 → k ≠ Od.OWN_OWNER x) →
        k ≠ Od.OWN_OWN_STATUS → k ≠ Od.TIME_MASTER_RANK → k ≠ Od.TIME_REFS → s.unqueued k → t.get k = s.get k) ∧
  (∀ (s t : State) (dt : Nat) (c : Fin 4) (e : CanError),
    exec (.canErrorDetected dt c e) s = .next t →
      s.keepsParts t [.fresh, .bringup, .clocks, .cust, .shunts, .gcps, .pifs, .engines, .tasks, .pool, .thermal, .pyr, .safety, .conns, .img, .cap, .pending] ∧
      ∀ k, noReaction k → k ≠ Od.AXLE_AXLE_TQ_SET → (∀ x, x < 4 → k ≠ Od.CAN_BUS_OFFS x) →
        k ≠ Od.CAN_CAN_CNT_STATUS c → (∀ x, x < 4 → k ≠ Od.CAN_ERR_FRAMES x) →
        (∀ x, x < 4 → k ≠ Od.CAN_STALE_DROPS x) → (∀ x, x < 6 → k ≠ Od.OWN_OWNER x) → k ≠ Od.OWN_OWN_STATUS →
        k ≠ Od.TIME_MASTER_RANK → s.unqueued k → t.get k = s.get k) ∧
  (∀ (s t : State) (dt : Nat) (c : Fin 4),
    exec (.canBusOffRecovery dt c) s = .next t →
      s.keepsParts t [.fresh, .bringup, .clocks, .cust, .shunts, .gcps, .pifs, .engines, .tasks, .pool, .thermal, .pyr, .safety, .conns, .img, .cap, .pending] ∧
      ∀ k, noReaction k → k ≠ Od.AXLE_AXLE_TQ_SET → k ≠ Od.CAN_CAN_CNT_STATUS c →
        (∀ x, x < 4 → k ≠ Od.CAN_STALE_DROPS x) → (∀ x, x < 6 → k ≠ Od.OWN_OWNER x) → k ≠ Od.OWN_OWN_STATUS →
        k ≠ Od.TIME_MASTER_RANK → s.unqueued k → t.get k = s.get k) ∧
  (∀ (s t : State) (dt : Nat) (c : Fin 4),
    exec (.canChannelOffline dt c) s = .next t →
      s.keepsParts t [.fresh, .bringup, .clocks, .cust, .shunts, .gcps, .pifs, .engines, .tasks, .pool, .thermal, .pyr, .safety, .conns, .img, .cap, .pending] ∧
      ∀ k, noReaction k → k ≠ Od.AXLE_AXLE_TQ_SET → (∀ x, x < 6 → k ≠ Od.OWN_OWNER x) → k ≠ Od.OWN_OWN_STATUS →
        k ≠ Od.TIME_MASTER_RANK → s.unqueued k → t.get k = s.get k) ∧
  (∀ (s t : State) (dt : Nat) (dest : Byte) (data : List Byte),
    exec (.canACommand dt dest data) s = .next t →
      s.keepsParts t [.fresh, .bringup, .clocks, .cust, .shunts, .gcps, .pifs, .engines, .tasks, .pool, .pyr, .safety, .conns, .crcs, .time, .img, .cap, .pending] ∧
      ∀ k, noReaction k → noAccess k → k ≠ Od.AXLE_AXLE_DIRECTION → k ≠ Od.AXLE_AXLE_TQ_SET → k ≠ Od.AXLE_YAW_TQ_SET →
        (∀ x, x < 8 → k ≠ Od.AX_BEMF_LL_PK x) → (∀ x, x < 8 → k ≠ Od.AX_SPEED_EL x) →
        (∀ x, x < 15 → k ≠ Od.CELL_CELL_ACK_COUNT x) → (∀ x, x < 15 → k ≠ Od.CELL_CELL_STATUS x) →
        k ≠ Od.CHR_CHG_CNT_STATUS → k ≠ Od.CHR_RELAY_OPS_MAIN → k ≠ Od.CNV_AUX_CNT_STATUS → k ≠ Od.CNV_TOW_ENTRIES →
        k ≠ Od.HV_HV_TIMER_min → (∀ x, x < 8 → k ≠ Od.OBS_CATCH_COUNT x) → (∀ x, x < 8 → k ≠ Od.OBS_OBS_ANGLE x) →
        (∀ x, x < 8 → k ≠ Od.OBS_OBS_SPEED x) → (∀ x, x < 8 → k ≠ Od.OBS_OPEN_ACC_us x) →
        (∀ x, x < 8 → k ≠ Od.OBS_PROBE_COUNT x) → (∀ x, x < 2 → k ≠ Od.PRK_PARK_CMD x) →
        (∀ x, x < 64 → k ≠ Od.SEN_SENSOR_STATUS x) → k ≠ Od.SHF_LAST_REFUSAL → (∀ x, x < 2 → k ≠ Od.SHF_SHIFT_CMD x) →
        k ≠ Od.THM_BROKEN_NOW → k ≠ Od.THM_TH_STATUS → (∀ x, x < 2 → k ≠ Od.TR_DIRECTION x) →
        (∀ x, x < 2 → k ≠ Od.TR_DIR_CHANGES x) → (∀ x, x < 2 → k ≠ Od.TR_DRIVE_STATUS x) →
        (∀ x, x < 2 → k ≠ Od.TR_SPEED x) → s.unqueued k → t.get k = s.get k) ∧
  (∀ (s t : State) (dt : Nat),
    exec (.canACommandTimeout dt) s = .next t →
      s.changesOnly t [.od, .tb, .out, .log, .links, .drives, .cells, .legs, .store, .seqs, .axes, .traction, .lus, .stageIn, .lvCommand, .gbx, .dcl, .aux, .chg, .path, .canA] ∧
      ∀ k, noReaction k → k ≠ Od.AXLE_AXLE_TQ_SET → k ≠ Od.OWN_OWN_STATUS → s.unqueued k → t.get k = s.get k) ∧
  (∀ (s t : State) (dt : Nat) (r : SdoRequest),
    exec (.sdoRequest dt r) s = .next t →
      s.keepsParts t [.bringup, .clocks, .shunts, .engines, .tasks, .pending]) ∧
  (∀ (s t : State) (dt : Nat) (ip : BitVec 32) (port : BitVec 16) (dg : List Byte),
    exec (.hspRead dt ip port dg) s = .next t →
      s.keepsParts t [.bringup, .clocks, .shunts, .engines, .tasks, .pending]) ∧
  (∀ (s t : State) (dt : Nat) (ip : BitVec 32) (port : BitVec 16) (dg : List Byte),
    exec (.hspWrite dt ip port dg) s = .next t →
      s.keepsParts t [.bringup, .clocks, .shunts, .engines, .tasks, .pending]) ∧
  (∀ (s t : State) (dt : Nat) (ip : BitVec 32) (port : BitVec 16) (dg : List Byte),
    exec (.hspClose dt ip port dg) s = .next t →
      s.keepsParts t [.bringup, .clocks, .shunts, .engines, .tasks, .pending]) ∧
  (∀ (s t : State) (dt : Nat) (ip : BitVec 32) (port : BitVec 16) (dg : List Byte),
    exec (.hspKeepalive dt ip port dg) s = .next t →
      s.keepsParts t [.bringup, .clocks, .shunts, .engines, .tasks, .pending]) ∧
  (∀ (s t : State) (dt : Nat) (ip : BitVec 32) (port : BitVec 16) (f : PortFrame),
    exec (.hspInvalidOp dt ip port f) s = .next t →
      s.keepsParts t [.bringup, .clocks, .shunts, .engines, .tasks, .pending]) ∧
  (∀ (s t : State) (dt : Nat) (who : Requester),
    exec (.sessionCloseWrite dt who) s = .next t →
      s.changesOnly t [.od, .tb, .out, .log, .links, .drives, .cells, .legs, .store, .seqs, .axes, .traction, .lus, .stageIn, .lvCommand, .gbx, .dcl, .aux, .chg, .path, .crcs, .sessions] ∧
      ∀ k, noReaction k → noAccess k → k ≠ Od.AXLE_AXLE_TQ_SET → (∀ x, x < 6 → k ≠ Od.OWN_OWNER x) → s.unqueued k →
        t.get k = s.get k) ∧
  (∀ (s t : State) (dt : Nat) (i : Fin 5),
    exec (.sessionIdleTimeout dt i) s = .next t →
      s.changesOnly t [.od, .tb, .out, .log, .links, .drives, .cells, .legs, .store, .seqs, .axes, .traction, .lus, .stageIn, .lvCommand, .gbx, .dcl, .aux, .chg, .path, .crcs, .sessions] ∧
      ∀ k, noReaction k → k ≠ Od.AXLE_AXLE_TQ_SET → (∀ x, x < 6 → k ≠ Od.OWN_OWNER x) → k ≠ Od.OWN_OWN_STATUS →
        s.unqueued k → t.get k = s.get k) ∧
  (∀ (s t : State) (dt : Nat),
    exec (.ethernetLinkDown dt) s = .next t →
      s.changesOnly t [.od, .tb, .out, .log, .links, .drives, .cells, .legs, .store, .seqs, .axes, .traction, .lus, .stageIn, .lvCommand, .gbx, .dcl, .aux, .chg, .path, .crcs, .sessions] ∧
      ∀ k, noReaction k → k ≠ Od.AXLE_AXLE_TQ_SET → k ≠ Od.ETH_ETH_STATUS → k ≠ Od.ETH_LINK_DROPS →
        (∀ x, x < 6 → k ≠ Od.OWN_OWNER x) → k ≠ Od.OWN_OWN_STATUS → s.unqueued k → t.get k = s.get k) ∧
  (∀ (s t : State) (dt : Nat) (who : Requester) (d : Drive) (code : Byte),
    exec (.ownerWrite dt who d code) s = .next t →
      s.changesOnly t [.od, .tb, .out, .log, .links, .drives, .cells, .legs, .store, .seqs, .axes, .traction, .lus, .stageIn, .lvCommand, .gbx, .dcl, .aux, .chg, .path, .sessions] ∧
      ∀ k, noReaction k → noAccess k → k ≠ Od.AXLE_AXLE_TQ_SET → k ≠ Od.OWN_OWNER d.num → s.unqueued k →
        t.get k = s.get k) ∧
  (∀ (s t : State) (dt : Nat) (who : Requester) (index : BitVec 16) (sub : BitVec 8) (data : List Byte),
    exec (.registerWrite dt who index sub data) s = .next t →
      s.keepsParts t [.bringup, .clocks, .shunts, .engines, .tasks, .pending])
end

