-- ==== Sys2Proof/Laws/State.lean ====
section
/-! SUPPORT. What each elementary update of the state leaves as it was: one lemma per field and update. -/
namespace Sys2Proof.Machine
open Sys2Proof

/-! `State.elapse` -/

@[simp] theorem State.elapse_od (s : State) (dt : Nat) : (s.elapse dt).od = s.od := rfl
@[simp] theorem State.elapse_fresh (s : State) (dt : Nat) : (s.elapse dt).fresh = s.fresh := rfl
@[simp] theorem State.elapse_bringup (s : State) (dt : Nat) : (s.elapse dt).bringup = s.bringup := rfl
@[simp] theorem State.elapse_clocks (s : State) (dt : Nat) : (s.elapse dt).clocks = s.clocks := rfl
@[simp] theorem State.elapse_links (s : State) (dt : Nat) : (s.elapse dt).links = s.links := rfl
@[simp] theorem State.elapse_drives (s : State) (dt : Nat) : (s.elapse dt).drives = s.drives := rfl
@[simp] theorem State.elapse_cells (s : State) (dt : Nat) : (s.elapse dt).cells = s.cells := rfl
@[simp] theorem State.elapse_legs (s : State) (dt : Nat) : (s.elapse dt).legs = s.legs := rfl
@[simp] theorem State.elapse_store (s : State) (dt : Nat) : (s.elapse dt).store = s.store := rfl
@[simp] theorem State.elapse_cust (s : State) (dt : Nat) : (s.elapse dt).cust = s.cust := rfl
@[simp] theorem State.elapse_shunts (s : State) (dt : Nat) : (s.elapse dt).shunts = s.shunts := rfl
@[simp] theorem State.elapse_seqs (s : State) (dt : Nat) : (s.elapse dt).seqs = s.seqs := rfl
@[simp] theorem State.elapse_gcps (s : State) (dt : Nat) : (s.elapse dt).gcps = s.gcps := rfl
@[simp] theorem State.elapse_axes (s : State) (dt : Nat) : (s.elapse dt).axes = s.axes := rfl
@[simp] theorem State.elapse_traction (s : State) (dt : Nat) : (s.elapse dt).traction = s.traction := rfl
@[simp] theorem State.elapse_pifs (s : State) (dt : Nat) : (s.elapse dt).pifs = s.pifs := rfl
@[simp] theorem State.elapse_lus (s : State) (dt : Nat) : (s.elapse dt).lus = s.lus := rfl
@[simp] theorem State.elapse_stageIn (s : State) (dt : Nat) : (s.elapse dt).stageIn = s.stageIn := rfl
@[simp] theorem State.elapse_lvCommand (s : State) (dt : Nat) : (s.elapse dt).lvCommand = s.lvCommand := rfl
@[simp] theorem State.elapse_engines (s : State) (dt : Nat) : (s.elapse dt).engines = s.engines := rfl
@[simp] theorem State.elapse_tasks (s : State) (dt : Nat) : (s.elapse dt).tasks = s.tasks := rfl
@[simp] theorem State.elapse_pool (s : State) (dt : Nat) : (s.elapse dt).pool = s.pool := rfl
@[simp] theorem State.elapse_gbx (s : State) (dt : Nat) : (s.elapse dt).gbx = s.gbx := rfl
@[simp] theorem State.elapse_dcl (s : State) (dt : Nat) : (s.elapse dt).dcl = s.dcl := rfl
@[simp] theorem State.elapse_aux (s : State) (dt : Nat) : (s.elapse dt).aux = s.aux := rfl
@[simp] theorem State.elapse_chg (s : State) (dt : Nat) : (s.elapse dt).chg = s.chg := rfl
@[simp] theorem State.elapse_path (s : State) (dt : Nat) : (s.elapse dt).path = s.path := rfl
@[simp] theorem State.elapse_thermal (s : State) (dt : Nat) : (s.elapse dt).thermal = s.thermal := rfl
@[simp] theorem State.elapse_pyr (s : State) (dt : Nat) : (s.elapse dt).pyr = s.pyr := rfl
@[simp] theorem State.elapse_safety (s : State) (dt : Nat) : (s.elapse dt).safety = s.safety := rfl
@[simp] theorem State.elapse_conns (s : State) (dt : Nat) : (s.elapse dt).conns = s.conns := rfl
@[simp] theorem State.elapse_crcs (s : State) (dt : Nat) : (s.elapse dt).crcs = s.crcs := rfl
@[simp] theorem State.elapse_chans (s : State) (dt : Nat) : (s.elapse dt).chans = s.chans := rfl
@[simp] theorem State.elapse_time (s : State) (dt : Nat) : (s.elapse dt).time = s.time := rfl
@[simp] theorem State.elapse_canA (s : State) (dt : Nat) : (s.elapse dt).canA = s.canA := rfl
@[simp] theorem State.elapse_sessions (s : State) (dt : Nat) : (s.elapse dt).sessions = s.sessions := rfl
@[simp] theorem State.elapse_img (s : State) (dt : Nat) : (s.elapse dt).img = s.img := rfl
@[simp] theorem State.elapse_cap (s : State) (dt : Nat) : (s.elapse dt).cap = s.cap := rfl
@[simp] theorem State.elapse_pending (s : State) (dt : Nat) : (s.elapse dt).pending = s.pending := rfl

/-! `State.set` -/

@[simp] theorem State.set_tb (s : State) (k : Nat) (v : Val) : (s.set k v).tb = s.tb := rfl
@[simp] theorem State.set_fresh (s : State) (k : Nat) (v : Val) : (s.set k v).fresh = s.fresh := rfl
@[simp] theorem State.set_out (s : State) (k : Nat) (v : Val) : (s.set k v).out = s.out := rfl
@[simp] theorem State.set_log (s : State) (k : Nat) (v : Val) : (s.set k v).log = s.log := rfl
@[simp] theorem State.set_bringup (s : State) (k : Nat) (v : Val) : (s.set k v).bringup = s.bringup := rfl
@[simp] theorem State.set_clocks (s : State) (k : Nat) (v : Val) : (s.set k v).clocks = s.clocks := rfl
@[simp] theorem State.set_links (s : State) (k : Nat) (v : Val) : (s.set k v).links = s.links := rfl
@[simp] theorem State.set_drives (s : State) (k : Nat) (v : Val) : (s.set k v).drives = s.drives := rfl
@[simp] theorem State.set_cells (s : State) (k : Nat) (v : Val) : (s.set k v).cells = s.cells := rfl
@[simp] theorem State.set_legs (s : State) (k : Nat) (v : Val) : (s.set k v).legs = s.legs := rfl
@[simp] theorem State.set_store (s : State) (k : Nat) (v : Val) : (s.set k v).store = s.store := rfl
@[simp] theorem State.set_cust (s : State) (k : Nat) (v : Val) : (s.set k v).cust = s.cust := rfl
@[simp] theorem State.set_shunts (s : State) (k : Nat) (v : Val) : (s.set k v).shunts = s.shunts := rfl
@[simp] theorem State.set_seqs (s : State) (k : Nat) (v : Val) : (s.set k v).seqs = s.seqs := rfl
@[simp] theorem State.set_gcps (s : State) (k : Nat) (v : Val) : (s.set k v).gcps = s.gcps := rfl
@[simp] theorem State.set_axes (s : State) (k : Nat) (v : Val) : (s.set k v).axes = s.axes := rfl
@[simp] theorem State.set_traction (s : State) (k : Nat) (v : Val) : (s.set k v).traction = s.traction := rfl
@[simp] theorem State.set_pifs (s : State) (k : Nat) (v : Val) : (s.set k v).pifs = s.pifs := rfl
@[simp] theorem State.set_lus (s : State) (k : Nat) (v : Val) : (s.set k v).lus = s.lus := rfl
@[simp] theorem State.set_stageIn (s : State) (k : Nat) (v : Val) : (s.set k v).stageIn = s.stageIn := rfl
@[simp] theorem State.set_lvCommand (s : State) (k : Nat) (v : Val) : (s.set k v).lvCommand = s.lvCommand := rfl
@[simp] theorem State.set_engines (s : State) (k : Nat) (v : Val) : (s.set k v).engines = s.engines := rfl
@[simp] theorem State.set_tasks (s : State) (k : Nat) (v : Val) : (s.set k v).tasks = s.tasks := rfl
@[simp] theorem State.set_pool (s : State) (k : Nat) (v : Val) : (s.set k v).pool = s.pool := rfl
@[simp] theorem State.set_gbx (s : State) (k : Nat) (v : Val) : (s.set k v).gbx = s.gbx := rfl
@[simp] theorem State.set_dcl (s : State) (k : Nat) (v : Val) : (s.set k v).dcl = s.dcl := rfl
@[simp] theorem State.set_aux (s : State) (k : Nat) (v : Val) : (s.set k v).aux = s.aux := rfl
@[simp] theorem State.set_chg (s : State) (k : Nat) (v : Val) : (s.set k v).chg = s.chg := rfl
@[simp] theorem State.set_path (s : State) (k : Nat) (v : Val) : (s.set k v).path = s.path := rfl
@[simp] theorem State.set_thermal (s : State) (k : Nat) (v : Val) : (s.set k v).thermal = s.thermal := rfl
@[simp] theorem State.set_pyr (s : State) (k : Nat) (v : Val) : (s.set k v).pyr = s.pyr := rfl
@[simp] theorem State.set_safety (s : State) (k : Nat) (v : Val) : (s.set k v).safety = s.safety := rfl
@[simp] theorem State.set_conns (s : State) (k : Nat) (v : Val) : (s.set k v).conns = s.conns := rfl
@[simp] theorem State.set_crcs (s : State) (k : Nat) (v : Val) : (s.set k v).crcs = s.crcs := rfl
@[simp] theorem State.set_chans (s : State) (k : Nat) (v : Val) : (s.set k v).chans = s.chans := rfl
@[simp] theorem State.set_time (s : State) (k : Nat) (v : Val) : (s.set k v).time = s.time := rfl
@[simp] theorem State.set_canA (s : State) (k : Nat) (v : Val) : (s.set k v).canA = s.canA := rfl
@[simp] theorem State.set_sessions (s : State) (k : Nat) (v : Val) : (s.set k v).sessions = s.sessions := rfl
@[simp] theorem State.set_img (s : State) (k : Nat) (v : Val) : (s.set k v).img = s.img := rfl
@[simp] theorem State.set_cap (s : State) (k : Nat) (v : Val) : (s.set k v).cap = s.cap := rfl
@[simp] theorem State.set_pending (s : State) (k : Nat) (v : Val) : (s.set k v).pending = s.pending := rfl

/-! `State.setI` -/

@[simp] theorem State.setI_tb (s : State) (k : Nat) (v : Int) : (s.setI k v).tb = s.tb := rfl
@[simp] theorem State.setI_fresh (s : State) (k : Nat) (v : Int) : (s.setI k v).fresh = s.fresh := rfl
@[simp] theorem State.setI_out (s : State) (k : Nat) (v : Int) : (s.setI k v).out = s.out := rfl
@[simp] theorem State.setI_log (s : State) (k : Nat) (v : Int) : (s.setI k v).log = s.log := rfl
@[simp] theorem State.setI_bringup (s : State) (k : Nat) (v : Int) : (s.setI k v).bringup = s.bringup := rfl
@[simp] theorem State.setI_clocks (s : State) (k : Nat) (v : Int) : (s.setI k v).clocks = s.clocks := rfl
@[simp] theorem State.setI_links (s : State) (k : Nat) (v : Int) : (s.setI k v).links = s.links := rfl
@[simp] theorem State.setI_drives (s : State) (k : Nat) (v : Int) : (s.setI k v).drives = s.drives := rfl
@[simp] theorem State.setI_cells (s : State) (k : Nat) (v : Int) : (s.setI k v).cells = s.cells := rfl
@[simp] theorem State.setI_legs (s : State) (k : Nat) (v : Int) : (s.setI k v).legs = s.legs := rfl
@[simp] theorem State.setI_store (s : State) (k : Nat) (v : Int) : (s.setI k v).store = s.store := rfl
@[simp] theorem State.setI_cust (s : State) (k : Nat) (v : Int) : (s.setI k v).cust = s.cust := rfl
@[simp] theorem State.setI_shunts (s : State) (k : Nat) (v : Int) : (s.setI k v).shunts = s.shunts := rfl
@[simp] theorem State.setI_seqs (s : State) (k : Nat) (v : Int) : (s.setI k v).seqs = s.seqs := rfl
@[simp] theorem State.setI_gcps (s : State) (k : Nat) (v : Int) : (s.setI k v).gcps = s.gcps := rfl
@[simp] theorem State.setI_axes (s : State) (k : Nat) (v : Int) : (s.setI k v).axes = s.axes := rfl
@[simp] theorem State.setI_traction (s : State) (k : Nat) (v : Int) : (s.setI k v).traction = s.traction := rfl
@[simp] theorem State.setI_pifs (s : State) (k : Nat) (v : Int) : (s.setI k v).pifs = s.pifs := rfl
@[simp] theorem State.setI_lus (s : State) (k : Nat) (v : Int) : (s.setI k v).lus = s.lus := rfl
@[simp] theorem State.setI_stageIn (s : State) (k : Nat) (v : Int) : (s.setI k v).stageIn = s.stageIn := rfl
@[simp] theorem State.setI_lvCommand (s : State) (k : Nat) (v : Int) : (s.setI k v).lvCommand = s.lvCommand := rfl
@[simp] theorem State.setI_engines (s : State) (k : Nat) (v : Int) : (s.setI k v).engines = s.engines := rfl
@[simp] theorem State.setI_tasks (s : State) (k : Nat) (v : Int) : (s.setI k v).tasks = s.tasks := rfl
@[simp] theorem State.setI_pool (s : State) (k : Nat) (v : Int) : (s.setI k v).pool = s.pool := rfl
@[simp] theorem State.setI_gbx (s : State) (k : Nat) (v : Int) : (s.setI k v).gbx = s.gbx := rfl
@[simp] theorem State.setI_dcl (s : State) (k : Nat) (v : Int) : (s.setI k v).dcl = s.dcl := rfl
@[simp] theorem State.setI_aux (s : State) (k : Nat) (v : Int) : (s.setI k v).aux = s.aux := rfl
@[simp] theorem State.setI_chg (s : State) (k : Nat) (v : Int) : (s.setI k v).chg = s.chg := rfl
@[simp] theorem State.setI_path (s : State) (k : Nat) (v : Int) : (s.setI k v).path = s.path := rfl
@[simp] theorem State.setI_thermal (s : State) (k : Nat) (v : Int) : (s.setI k v).thermal = s.thermal := rfl
@[simp] theorem State.setI_pyr (s : State) (k : Nat) (v : Int) : (s.setI k v).pyr = s.pyr := rfl
@[simp] theorem State.setI_safety (s : State) (k : Nat) (v : Int) : (s.setI k v).safety = s.safety := rfl
@[simp] theorem State.setI_conns (s : State) (k : Nat) (v : Int) : (s.setI k v).conns = s.conns := rfl
@[simp] theorem State.setI_crcs (s : State) (k : Nat) (v : Int) : (s.setI k v).crcs = s.crcs := rfl
@[simp] theorem State.setI_chans (s : State) (k : Nat) (v : Int) : (s.setI k v).chans = s.chans := rfl
@[simp] theorem State.setI_time (s : State) (k : Nat) (v : Int) : (s.setI k v).time = s.time := rfl
@[simp] theorem State.setI_canA (s : State) (k : Nat) (v : Int) : (s.setI k v).canA = s.canA := rfl
@[simp] theorem State.setI_sessions (s : State) (k : Nat) (v : Int) : (s.setI k v).sessions = s.sessions := rfl
@[simp] theorem State.setI_img (s : State) (k : Nat) (v : Int) : (s.setI k v).img = s.img := rfl
@[simp] theorem State.setI_cap (s : State) (k : Nat) (v : Int) : (s.setI k v).cap = s.cap := rfl
@[simp] theorem State.setI_pending (s : State) (k : Nat) (v : Int) : (s.setI k v).pending = s.pending := rfl

/-! `State.setN` -/

@[simp] theorem State.setN_tb (s : State) (k v : Nat) : (s.setN k v).tb = s.tb := rfl
@[simp] theorem State.setN_fresh (s : State) (k v : Nat) : (s.setN k v).fresh = s.fresh := rfl
@[simp] theorem State.setN_out (s : State) (k v : Nat) : (s.setN k v).out = s.out := rfl
@[simp] theorem State.setN_log (s : State) (k v : Nat) : (s.setN k v).log = s.log := rfl
@[simp] theorem State.setN_bringup (s : State) (k v : Nat) : (s.setN k v).bringup = s.bringup := rfl
@[simp] theorem State.setN_clocks (s : State) (k v : Nat) : (s.setN k v).clocks = s.clocks := rfl
@[simp] theorem State.setN_links (s : State) (k v : Nat) : (s.setN k v).links = s.links := rfl
@[simp] theorem State.setN_drives (s : State) (k v : Nat) : (s.setN k v).drives = s.drives := rfl
@[simp] theorem State.setN_cells (s : State) (k v : Nat) : (s.setN k v).cells = s.cells := rfl
@[simp] theorem State.setN_legs (s : State) (k v : Nat) : (s.setN k v).legs = s.legs := rfl
@[simp] theorem State.setN_store (s : State) (k v : Nat) : (s.setN k v).store = s.store := rfl
@[simp] theorem State.setN_cust (s : State) (k v : Nat) : (s.setN k v).cust = s.cust := rfl
@[simp] theorem State.setN_shunts (s : State) (k v : Nat) : (s.setN k v).shunts = s.shunts := rfl
@[simp] theorem State.setN_seqs (s : State) (k v : Nat) : (s.setN k v).seqs = s.seqs := rfl
@[simp] theorem State.setN_gcps (s : State) (k v : Nat) : (s.setN k v).gcps = s.gcps := rfl
@[simp] theorem State.setN_axes (s : State) (k v : Nat) : (s.setN k v).axes = s.axes := rfl
@[simp] theorem State.setN_traction (s : State) (k v : Nat) : (s.setN k v).traction = s.traction := rfl
@[simp] theorem State.setN_pifs (s : State) (k v : Nat) : (s.setN k v).pifs = s.pifs := rfl
@[simp] theorem State.setN_lus (s : State) (k v : Nat) : (s.setN k v).lus = s.lus := rfl
@[simp] theorem State.setN_stageIn (s : State) (k v : Nat) : (s.setN k v).stageIn = s.stageIn := rfl
@[simp] theorem State.setN_lvCommand (s : State) (k v : Nat) : (s.setN k v).lvCommand = s.lvCommand := rfl
@[simp] theorem State.setN_engines (s : State) (k v : Nat) : (s.setN k v).engines = s.engines := rfl
@[simp] theorem State.setN_tasks (s : State) (k v : Nat) : (s.setN k v).tasks = s.tasks := rfl
@[simp] theorem State.setN_pool (s : State) (k v : Nat) : (s.setN k v).pool = s.pool := rfl
@[simp] theorem State.setN_gbx (s : State) (k v : Nat) : (s.setN k v).gbx = s.gbx := rfl
@[simp] theorem State.setN_dcl (s : State) (k v : Nat) : (s.setN k v).dcl = s.dcl := rfl
@[simp] theorem State.setN_aux (s : State) (k v : Nat) : (s.setN k v).aux = s.aux := rfl
@[simp] theorem State.setN_chg (s : State) (k v : Nat) : (s.setN k v).chg = s.chg := rfl
@[simp] theorem State.setN_path (s : State) (k v : Nat) : (s.setN k v).path = s.path := rfl
@[simp] theorem State.setN_thermal (s : State) (k v : Nat) : (s.setN k v).thermal = s.thermal := rfl
@[simp] theorem State.setN_pyr (s : State) (k v : Nat) : (s.setN k v).pyr = s.pyr := rfl
@[simp] theorem State.setN_safety (s : State) (k v : Nat) : (s.setN k v).safety = s.safety := rfl
@[simp] theorem State.setN_conns (s : State) (k v : Nat) : (s.setN k v).conns = s.conns := rfl
@[simp] theorem State.setN_crcs (s : State) (k v : Nat) : (s.setN k v).crcs = s.crcs := rfl
@[simp] theorem State.setN_chans (s : State) (k v : Nat) : (s.setN k v).chans = s.chans := rfl
@[simp] theorem State.setN_time (s : State) (k v : Nat) : (s.setN k v).time = s.time := rfl
@[simp] theorem State.setN_canA (s : State) (k v : Nat) : (s.setN k v).canA = s.canA := rfl
@[simp] theorem State.setN_sessions (s : State) (k v : Nat) : (s.setN k v).sessions = s.sessions := rfl
@[simp] theorem State.setN_img (s : State) (k v : Nat) : (s.setN k v).img = s.img := rfl
@[simp] theorem State.setN_cap (s : State) (k v : Nat) : (s.setN k v).cap = s.cap := rfl
@[simp] theorem State.setN_pending (s : State) (k v : Nat) : (s.setN k v).pending = s.pending := rfl

/-! `State.setQ` -/

@[simp] theorem State.setQ_tb (s : State) (k : Nat) (q : Rat) : (s.setQ k q).tb = s.tb := rfl
@[simp] theorem State.setQ_fresh (s : State) (k : Nat) (q : Rat) : (s.setQ k q).fresh = s.fresh := rfl
@[simp] theorem State.setQ_out (s : State) (k : Nat) (q : Rat) : (s.setQ k q).out = s.out := rfl
@[simp] theorem State.setQ_log (s : State) (k : Nat) (q : Rat) : (s.setQ k q).log = s.log := rfl
@[simp] theorem State.setQ_bringup (s : State) (k : Nat) (q : Rat) : (s.setQ k q).bringup = s.bringup := rfl
@[simp] theorem State.setQ_clocks (s : State) (k : Nat) (q : Rat) : (s.setQ k q).clocks = s.clocks := rfl
@[simp] theorem State.setQ_links (s : State) (k : Nat) (q : Rat) : (s.setQ k q).links = s.links := rfl
@[simp] theorem State.setQ_drives (s : State) (k : Nat) (q : Rat) : (s.setQ k q).drives = s.drives := rfl
@[simp] theorem State.setQ_cells (s : State) (k : Nat) (q : Rat) : (s.setQ k q).cells = s.cells := rfl
@[simp] theorem State.setQ_legs (s : State) (k : Nat) (q : Rat) : (s.setQ k q).legs = s.legs := rfl
@[simp] theorem State.setQ_store (s : State) (k : Nat) (q : Rat) : (s.setQ k q).store = s.store := rfl
@[simp] theorem State.setQ_cust (s : State) (k : Nat) (q : Rat) : (s.setQ k q).cust = s.cust := rfl
@[simp] theorem State.setQ_shunts (s : State) (k : Nat) (q : Rat) : (s.setQ k q).shunts = s.shunts := rfl
@[simp] theorem State.setQ_seqs (s : State) (k : Nat) (q : Rat) : (s.setQ k q).seqs = s.seqs := rfl
@[simp] theorem State.setQ_gcps (s : State) (k : Nat) (q : Rat) : (s.setQ k q).gcps = s.gcps := rfl
@[simp] theorem State.setQ_axes (s : State) (k : Nat) (q : Rat) : (s.setQ k q).axes = s.axes := rfl
@[simp] theorem State.setQ_traction (s : State) (k : Nat) (q : Rat) : (s.setQ k q).traction = s.traction := rfl
@[simp] theorem State.setQ_pifs (s : State) (k : Nat) (q : Rat) : (s.setQ k q).pifs = s.pifs := rfl
@[simp] theorem State.setQ_lus (s : State) (k : Nat) (q : Rat) : (s.setQ k q).lus = s.lus := rfl
@[simp] theorem State.setQ_stageIn (s : State) (k : Nat) (q : Rat) : (s.setQ k q).stageIn = s.stageIn := rfl
@[simp] theorem State.setQ_lvCommand (s : State) (k : Nat) (q : Rat) : (s.setQ k q).lvCommand = s.lvCommand := rfl
@[simp] theorem State.setQ_engines (s : State) (k : Nat) (q : Rat) : (s.setQ k q).engines = s.engines := rfl
@[simp] theorem State.setQ_tasks (s : State) (k : Nat) (q : Rat) : (s.setQ k q).tasks = s.tasks := rfl
@[simp] theorem State.setQ_pool (s : State) (k : Nat) (q : Rat) : (s.setQ k q).pool = s.pool := rfl
@[simp] theorem State.setQ_gbx (s : State) (k : Nat) (q : Rat) : (s.setQ k q).gbx = s.gbx := rfl
@[simp] theorem State.setQ_dcl (s : State) (k : Nat) (q : Rat) : (s.setQ k q).dcl = s.dcl := rfl
@[simp] theorem State.setQ_aux (s : State) (k : Nat) (q : Rat) : (s.setQ k q).aux = s.aux := rfl
@[simp] theorem State.setQ_chg (s : State) (k : Nat) (q : Rat) : (s.setQ k q).chg = s.chg := rfl
@[simp] theorem State.setQ_path (s : State) (k : Nat) (q : Rat) : (s.setQ k q).path = s.path := rfl
@[simp] theorem State.setQ_thermal (s : State) (k : Nat) (q : Rat) : (s.setQ k q).thermal = s.thermal := rfl
@[simp] theorem State.setQ_pyr (s : State) (k : Nat) (q : Rat) : (s.setQ k q).pyr = s.pyr := rfl
@[simp] theorem State.setQ_safety (s : State) (k : Nat) (q : Rat) : (s.setQ k q).safety = s.safety := rfl
@[simp] theorem State.setQ_conns (s : State) (k : Nat) (q : Rat) : (s.setQ k q).conns = s.conns := rfl
@[simp] theorem State.setQ_crcs (s : State) (k : Nat) (q : Rat) : (s.setQ k q).crcs = s.crcs := rfl
@[simp] theorem State.setQ_chans (s : State) (k : Nat) (q : Rat) : (s.setQ k q).chans = s.chans := rfl
@[simp] theorem State.setQ_time (s : State) (k : Nat) (q : Rat) : (s.setQ k q).time = s.time := rfl
@[simp] theorem State.setQ_canA (s : State) (k : Nat) (q : Rat) : (s.setQ k q).canA = s.canA := rfl
@[simp] theorem State.setQ_sessions (s : State) (k : Nat) (q : Rat) : (s.setQ k q).sessions = s.sessions := rfl
@[simp] theorem State.setQ_img (s : State) (k : Nat) (q : Rat) : (s.setQ k q).img = s.img := rfl
@[simp] theorem State.setQ_cap (s : State) (k : Nat) (q : Rat) : (s.setQ k q).cap = s.cap := rfl
@[simp] theorem State.setQ_pending (s : State) (k : Nat) (q : Rat) : (s.setQ k q).pending = s.pending := rfl

/-! `State.setFlag` -/

@[simp] theorem State.setFlag_tb (s : State) (k : Nat) (b : Bool) : (s.setFlag k b).tb = s.tb := rfl
@[simp] theorem State.setFlag_fresh (s : State) (k : Nat) (b : Bool) : (s.setFlag k b).fresh = s.fresh := rfl
@[simp] theorem State.setFlag_out (s : State) (k : Nat) (b : Bool) : (s.setFlag k b).out = s.out := rfl
@[simp] theorem State.setFlag_log (s : State) (k : Nat) (b : Bool) : (s.setFlag k b).log = s.log := rfl
@[simp] theorem State.setFlag_bringup (s : State) (k : Nat) (b : Bool) : (s.setFlag k b).bringup = s.bringup := rfl
@[simp] theorem State.setFlag_clocks (s : State) (k : Nat) (b : Bool) : (s.setFlag k b).clocks = s.clocks := rfl
@[simp] theorem State.setFlag_links (s : State) (k : Nat) (b : Bool) : (s.setFlag k b).links = s.links := rfl
@[simp] theorem State.setFlag_drives (s : State) (k : Nat) (b : Bool) : (s.setFlag k b).drives = s.drives := rfl
@[simp] theorem State.setFlag_cells (s : State) (k : Nat) (b : Bool) : (s.setFlag k b).cells = s.cells := rfl
@[simp] theorem State.setFlag_legs (s : State) (k : Nat) (b : Bool) : (s.setFlag k b).legs = s.legs := rfl
@[simp] theorem State.setFlag_store (s : State) (k : Nat) (b : Bool) : (s.setFlag k b).store = s.store := rfl
@[simp] theorem State.setFlag_cust (s : State) (k : Nat) (b : Bool) : (s.setFlag k b).cust = s.cust := rfl
@[simp] theorem State.setFlag_shunts (s : State) (k : Nat) (b : Bool) : (s.setFlag k b).shunts = s.shunts := rfl
@[simp] theorem State.setFlag_seqs (s : State) (k : Nat) (b : Bool) : (s.setFlag k b).seqs = s.seqs := rfl
@[simp] theorem State.setFlag_gcps (s : State) (k : Nat) (b : Bool) : (s.setFlag k b).gcps = s.gcps := rfl
@[simp] theorem State.setFlag_axes (s : State) (k : Nat) (b : Bool) : (s.setFlag k b).axes = s.axes := rfl
@[simp] theorem State.setFlag_traction (s : State) (k : Nat) (b : Bool) : (s.setFlag k b).traction = s.traction := rfl
@[simp] theorem State.setFlag_pifs (s : State) (k : Nat) (b : Bool) : (s.setFlag k b).pifs = s.pifs := rfl
@[simp] theorem State.setFlag_lus (s : State) (k : Nat) (b : Bool) : (s.setFlag k b).lus = s.lus := rfl
@[simp] theorem State.setFlag_stageIn (s : State) (k : Nat) (b : Bool) : (s.setFlag k b).stageIn = s.stageIn := rfl
@[simp] theorem State.setFlag_lvCommand (s : State) (k : Nat) (b : Bool) : (s.setFlag k b).lvCommand = s.lvCommand := rfl
@[simp] theorem State.setFlag_engines (s : State) (k : Nat) (b : Bool) : (s.setFlag k b).engines = s.engines := rfl
@[simp] theorem State.setFlag_tasks (s : State) (k : Nat) (b : Bool) : (s.setFlag k b).tasks = s.tasks := rfl
@[simp] theorem State.setFlag_pool (s : State) (k : Nat) (b : Bool) : (s.setFlag k b).pool = s.pool := rfl
@[simp] theorem State.setFlag_gbx (s : State) (k : Nat) (b : Bool) : (s.setFlag k b).gbx = s.gbx := rfl
@[simp] theorem State.setFlag_dcl (s : State) (k : Nat) (b : Bool) : (s.setFlag k b).dcl = s.dcl := rfl
@[simp] theorem State.setFlag_aux (s : State) (k : Nat) (b : Bool) : (s.setFlag k b).aux = s.aux := rfl
@[simp] theorem State.setFlag_chg (s : State) (k : Nat) (b : Bool) : (s.setFlag k b).chg = s.chg := rfl
@[simp] theorem State.setFlag_path (s : State) (k : Nat) (b : Bool) : (s.setFlag k b).path = s.path := rfl
@[simp] theorem State.setFlag_thermal (s : State) (k : Nat) (b : Bool) : (s.setFlag k b).thermal = s.thermal := rfl
@[simp] theorem State.setFlag_pyr (s : State) (k : Nat) (b : Bool) : (s.setFlag k b).pyr = s.pyr := rfl
@[simp] theorem State.setFlag_safety (s : State) (k : Nat) (b : Bool) : (s.setFlag k b).safety = s.safety := rfl
@[simp] theorem State.setFlag_conns (s : State) (k : Nat) (b : Bool) : (s.setFlag k b).conns = s.conns := rfl
@[simp] theorem State.setFlag_crcs (s : State) (k : Nat) (b : Bool) : (s.setFlag k b).crcs = s.crcs := rfl
@[simp] theorem State.setFlag_chans (s : State) (k : Nat) (b : Bool) : (s.setFlag k b).chans = s.chans := rfl
@[simp] theorem State.setFlag_time (s : State) (k : Nat) (b : Bool) : (s.setFlag k b).time = s.time := rfl
@[simp] theorem State.setFlag_canA (s : State) (k : Nat) (b : Bool) : (s.setFlag k b).canA = s.canA := rfl
@[simp] theorem State.setFlag_sessions (s : State) (k : Nat) (b : Bool) : (s.setFlag k b).sessions = s.sessions := rfl
@[simp] theorem State.setFlag_img (s : State) (k : Nat) (b : Bool) : (s.setFlag k b).img = s.img := rfl
@[simp] theorem State.setFlag_cap (s : State) (k : Nat) (b : Bool) : (s.setFlag k b).cap = s.cap := rfl
@[simp] theorem State.setFlag_pending (s : State) (k : Nat) (b : Bool) : (s.setFlag k b).pending = s.pending := rfl

/-! `State.setBit` -/

@[simp] theorem State.setBit_tb (s : State) (k i : Nat) (b : Bool) : (s.setBit k i b).tb = s.tb := rfl
@[simp] theorem State.setBit_fresh (s : State) (k i : Nat) (b : Bool) : (s.setBit k i b).fresh = s.fresh := rfl
@[simp] theorem State.setBit_out (s : State) (k i : Nat) (b : Bool) : (s.setBit k i b).out = s.out := rfl
@[simp] theorem State.setBit_log (s : State) (k i : Nat) (b : Bool) : (s.setBit k i b).log = s.log := rfl
@[simp] theorem State.setBit_bringup (s : State) (k i : Nat) (b : Bool) : (s.setBit k i b).bringup = s.bringup := rfl
@[simp] theorem State.setBit_clocks (s : State) (k i : Nat) (b : Bool) : (s.setBit k i b).clocks = s.clocks := rfl
@[simp] theorem State.setBit_links (s : State) (k i : Nat) (b : Bool) : (s.setBit k i b).links = s.links := rfl
@[simp] theorem State.setBit_drives (s : State) (k i : Nat) (b : Bool) : (s.setBit k i b).drives = s.drives := rfl
@[simp] theorem State.setBit_cells (s : State) (k i : Nat) (b : Bool) : (s.setBit k i b).cells = s.cells := rfl
@[simp] theorem State.setBit_legs (s : State) (k i : Nat) (b : Bool) : (s.setBit k i b).legs = s.legs := rfl
@[simp] theorem State.setBit_store (s : State) (k i : Nat) (b : Bool) : (s.setBit k i b).store = s.store := rfl
@[simp] theorem State.setBit_cust (s : State) (k i : Nat) (b : Bool) : (s.setBit k i b).cust = s.cust := rfl
@[simp] theorem State.setBit_shunts (s : State) (k i : Nat) (b : Bool) : (s.setBit k i b).shunts = s.shunts := rfl
@[simp] theorem State.setBit_seqs (s : State) (k i : Nat) (b : Bool) : (s.setBit k i b).seqs = s.seqs := rfl
@[simp] theorem State.setBit_gcps (s : State) (k i : Nat) (b : Bool) : (s.setBit k i b).gcps = s.gcps := rfl
@[simp] theorem State.setBit_axes (s : State) (k i : Nat) (b : Bool) : (s.setBit k i b).axes = s.axes := rfl
@[simp] theorem State.setBit_traction (s : State) (k i : Nat) (b : Bool) : (s.setBit k i b).traction = s.traction := rfl
@[simp] theorem State.setBit_pifs (s : State) (k i : Nat) (b : Bool) : (s.setBit k i b).pifs = s.pifs := rfl
@[simp] theorem State.setBit_lus (s : State) (k i : Nat) (b : Bool) : (s.setBit k i b).lus = s.lus := rfl
@[simp] theorem State.setBit_stageIn (s : State) (k i : Nat) (b : Bool) : (s.setBit k i b).stageIn = s.stageIn := rfl
@[simp] theorem State.setBit_lvCommand (s : State) (k i : Nat) (b : Bool) : (s.setBit k i b).lvCommand = s.lvCommand := rfl
@[simp] theorem State.setBit_engines (s : State) (k i : Nat) (b : Bool) : (s.setBit k i b).engines = s.engines := rfl
@[simp] theorem State.setBit_tasks (s : State) (k i : Nat) (b : Bool) : (s.setBit k i b).tasks = s.tasks := rfl
@[simp] theorem State.setBit_pool (s : State) (k i : Nat) (b : Bool) : (s.setBit k i b).pool = s.pool := rfl
@[simp] theorem State.setBit_gbx (s : State) (k i : Nat) (b : Bool) : (s.setBit k i b).gbx = s.gbx := rfl
@[simp] theorem State.setBit_dcl (s : State) (k i : Nat) (b : Bool) : (s.setBit k i b).dcl = s.dcl := rfl
@[simp] theorem State.setBit_aux (s : State) (k i : Nat) (b : Bool) : (s.setBit k i b).aux = s.aux := rfl
@[simp] theorem State.setBit_chg (s : State) (k i : Nat) (b : Bool) : (s.setBit k i b).chg = s.chg := rfl
@[simp] theorem State.setBit_path (s : State) (k i : Nat) (b : Bool) : (s.setBit k i b).path = s.path := rfl
@[simp] theorem State.setBit_thermal (s : State) (k i : Nat) (b : Bool) : (s.setBit k i b).thermal = s.thermal := rfl
@[simp] theorem State.setBit_pyr (s : State) (k i : Nat) (b : Bool) : (s.setBit k i b).pyr = s.pyr := rfl
@[simp] theorem State.setBit_safety (s : State) (k i : Nat) (b : Bool) : (s.setBit k i b).safety = s.safety := rfl
@[simp] theorem State.setBit_conns (s : State) (k i : Nat) (b : Bool) : (s.setBit k i b).conns = s.conns := rfl
@[simp] theorem State.setBit_crcs (s : State) (k i : Nat) (b : Bool) : (s.setBit k i b).crcs = s.crcs := rfl
@[simp] theorem State.setBit_chans (s : State) (k i : Nat) (b : Bool) : (s.setBit k i b).chans = s.chans := rfl
@[simp] theorem State.setBit_time (s : State) (k i : Nat) (b : Bool) : (s.setBit k i b).time = s.time := rfl
@[simp] theorem State.setBit_canA (s : State) (k i : Nat) (b : Bool) : (s.setBit k i b).canA = s.canA := rfl
@[simp] theorem State.setBit_sessions (s : State) (k i : Nat) (b : Bool) : (s.setBit k i b).sessions = s.sessions := rfl
@[simp] theorem State.setBit_img (s : State) (k i : Nat) (b : Bool) : (s.setBit k i b).img = s.img := rfl
@[simp] theorem State.setBit_cap (s : State) (k i : Nat) (b : Bool) : (s.setBit k i b).cap = s.cap := rfl
@[simp] theorem State.setBit_pending (s : State) (k i : Nat) (b : Bool) : (s.setBit k i b).pending = s.pending := rfl

/-! `State.setField` -/

@[simp] theorem State.setField_tb (s : State) (k lo w v : Nat) : (s.setField k lo w v).tb = s.tb := rfl
@[simp] theorem State.setField_fresh (s : State) (k lo w v : Nat) : (s.setField k lo w v).fresh = s.fresh := rfl
@[simp] theorem State.setField_out (s : State) (k lo w v : Nat) : (s.setField k lo w v).out = s.out := rfl
@[simp] theorem State.setField_log (s : State) (k lo w v : Nat) : (s.setField k lo w v).log = s.log := rfl
@[simp] theorem State.setField_bringup (s : State) (k lo w v : Nat) : (s.setField k lo w v).bringup = s.bringup := rfl
@[simp] theorem State.setField_clocks (s : State) (k lo w v : Nat) : (s.setField k lo w v).clocks = s.clocks := rfl
@[simp] theorem State.setField_links (s : State) (k lo w v : Nat) : (s.setField k lo w v).links = s.links := rfl
@[simp] theorem State.setField_drives (s : State) (k lo w v : Nat) : (s.setField k lo w v).drives = s.drives := rfl
@[simp] theorem State.setField_cells (s : State) (k lo w v : Nat) : (s.setField k lo w v).cells = s.cells := rfl
@[simp] theorem State.setField_legs (s : State) (k lo w v : Nat) : (s.setField k lo w v).legs = s.legs := rfl
@[simp] theorem State.setField_store (s : State) (k lo w v : Nat) : (s.setField k lo w v).store = s.store := rfl
@[simp] theorem State.setField_cust (s : State) (k lo w v : Nat) : (s.setField k lo w v).cust = s.cust := rfl
@[simp] theorem State.setField_shunts (s : State) (k lo w v : Nat) : (s.setField k lo w v).shunts = s.shunts := rfl
@[simp] theorem State.setField_seqs (s : State) (k lo w v : Nat) : (s.setField k lo w v).seqs = s.seqs := rfl
@[simp] theorem State.setField_gcps (s : State) (k lo w v : Nat) : (s.setField k lo w v).gcps = s.gcps := rfl
@[simp] theorem State.setField_axes (s : State) (k lo w v : Nat) : (s.setField k lo w v).axes = s.axes := rfl
@[simp] theorem State.setField_traction (s : State) (k lo w v : Nat) : (s.setField k lo w v).traction = s.traction := rfl
@[simp] theorem State.setField_pifs (s : State) (k lo w v : Nat) : (s.setField k lo w v).pifs = s.pifs := rfl
@[simp] theorem State.setField_lus (s : State) (k lo w v : Nat) : (s.setField k lo w v).lus = s.lus := rfl
@[simp] theorem State.setField_stageIn (s : State) (k lo w v : Nat) : (s.setField k lo w v).stageIn = s.stageIn := rfl
@[simp] theorem State.setField_lvCommand (s : State) (k lo w v : Nat) : (s.setField k lo w v).lvCommand = s.lvCommand := rfl
@[simp] theorem State.setField_engines (s : State) (k lo w v : Nat) : (s.setField k lo w v).engines = s.engines := rfl
@[simp] theorem State.setField_tasks (s : State) (k lo w v : Nat) : (s.setField k lo w v).tasks = s.tasks := rfl
@[simp] theorem State.setField_pool (s : State) (k lo w v : Nat) : (s.setField k lo w v).pool = s.pool := rfl
@[simp] theorem State.setField_gbx (s : State) (k lo w v : Nat) : (s.setField k lo w v).gbx = s.gbx := rfl
@[simp] theorem State.setField_dcl (s : State) (k lo w v : Nat) : (s.setField k lo w v).dcl = s.dcl := rfl
@[simp] theorem State.setField_aux (s : State) (k lo w v : Nat) : (s.setField k lo w v).aux = s.aux := rfl
@[simp] theorem State.setField_chg (s : State) (k lo w v : Nat) : (s.setField k lo w v).chg = s.chg := rfl
@[simp] theorem State.setField_path (s : State) (k lo w v : Nat) : (s.setField k lo w v).path = s.path := rfl
@[simp] theorem State.setField_thermal (s : State) (k lo w v : Nat) : (s.setField k lo w v).thermal = s.thermal := rfl
@[simp] theorem State.setField_pyr (s : State) (k lo w v : Nat) : (s.setField k lo w v).pyr = s.pyr := rfl
@[simp] theorem State.setField_safety (s : State) (k lo w v : Nat) : (s.setField k lo w v).safety = s.safety := rfl
@[simp] theorem State.setField_conns (s : State) (k lo w v : Nat) : (s.setField k lo w v).conns = s.conns := rfl
@[simp] theorem State.setField_crcs (s : State) (k lo w v : Nat) : (s.setField k lo w v).crcs = s.crcs := rfl
@[simp] theorem State.setField_chans (s : State) (k lo w v : Nat) : (s.setField k lo w v).chans = s.chans := rfl
@[simp] theorem State.setField_time (s : State) (k lo w v : Nat) : (s.setField k lo w v).time = s.time := rfl
@[simp] theorem State.setField_canA (s : State) (k lo w v : Nat) : (s.setField k lo w v).canA = s.canA := rfl
@[simp] theorem State.setField_sessions (s : State) (k lo w v : Nat) : (s.setField k lo w v).sessions = s.sessions := rfl
@[simp] theorem State.setField_img (s : State) (k lo w v : Nat) : (s.setField k lo w v).img = s.img := rfl
@[simp] theorem State.setField_cap (s : State) (k lo w v : Nat) : (s.setField k lo w v).cap = s.cap := rfl
@[simp] theorem State.setField_pending (s : State) (k lo w v : Nat) : (s.setField k lo w v).pending = s.pending := rfl

/-! `State.countWide` -/

@[simp] theorem State.countWide_tb (s : State) (k : Nat) : (s.countWide k).tb = s.tb := rfl
@[simp] theorem State.countWide_fresh (s : State) (k : Nat) : (s.countWide k).fresh = s.fresh := rfl
@[simp] theorem State.countWide_out (s : State) (k : Nat) : (s.countWide k).out = s.out := rfl
@[simp] theorem State.countWide_log (s : State) (k : Nat) : (s.countWide k).log = s.log := rfl
@[simp] theorem State.countWide_bringup (s : State) (k : Nat) : (s.countWide k).bringup = s.bringup := rfl
@[simp] theorem State.countWide_clocks (s : State) (k : Nat) : (s.countWide k).clocks = s.clocks := rfl
@[simp] theorem State.countWide_links (s : State) (k : Nat) : (s.countWide k).links = s.links := rfl
@[simp] theorem State.countWide_drives (s : State) (k : Nat) : (s.countWide k).drives = s.drives := rfl
@[simp] theorem State.countWide_cells (s : State) (k : Nat) : (s.countWide k).cells = s.cells := rfl
@[simp] theorem State.countWide_legs (s : State) (k : Nat) : (s.countWide k).legs = s.legs := rfl
@[simp] theorem State.countWide_store (s : State) (k : Nat) : (s.countWide k).store = s.store := rfl
@[simp] theorem State.countWide_cust (s : State) (k : Nat) : (s.countWide k).cust = s.cust := rfl
@[simp] theorem State.countWide_shunts (s : State) (k : Nat) : (s.countWide k).shunts = s.shunts := rfl
@[simp] theorem State.countWide_seqs (s : State) (k : Nat) : (s.countWide k).seqs = s.seqs := rfl
@[simp] theorem State.countWide_gcps (s : State) (k : Nat) : (s.countWide k).gcps = s.gcps := rfl
@[simp] theorem State.countWide_axes (s : State) (k : Nat) : (s.countWide k).axes = s.axes := rfl
@[simp] theorem State.countWide_traction (s : State) (k : Nat) : (s.countWide k).traction = s.traction := rfl
@[simp] theorem State.countWide_pifs (s : State) (k : Nat) : (s.countWide k).pifs = s.pifs := rfl
@[simp] theorem State.countWide_lus (s : State) (k : Nat) : (s.countWide k).lus = s.lus := rfl
@[simp] theorem State.countWide_stageIn (s : State) (k : Nat) : (s.countWide k).stageIn = s.stageIn := rfl
@[simp] theorem State.countWide_lvCommand (s : State) (k : Nat) : (s.countWide k).lvCommand = s.lvCommand := rfl
@[simp] theorem State.countWide_engines (s : State) (k : Nat) : (s.countWide k).engines = s.engines := rfl
@[simp] theorem State.countWide_tasks (s : State) (k : Nat) : (s.countWide k).tasks = s.tasks := rfl
@[simp] theorem State.countWide_pool (s : State) (k : Nat) : (s.countWide k).pool = s.pool := rfl
@[simp] theorem State.countWide_gbx (s : State) (k : Nat) : (s.countWide k).gbx = s.gbx := rfl
@[simp] theorem State.countWide_dcl (s : State) (k : Nat) : (s.countWide k).dcl = s.dcl := rfl
@[simp] theorem State.countWide_aux (s : State) (k : Nat) : (s.countWide k).aux = s.aux := rfl
@[simp] theorem State.countWide_chg (s : State) (k : Nat) : (s.countWide k).chg = s.chg := rfl
@[simp] theorem State.countWide_path (s : State) (k : Nat) : (s.countWide k).path = s.path := rfl
@[simp] theorem State.countWide_thermal (s : State) (k : Nat) : (s.countWide k).thermal = s.thermal := rfl
@[simp] theorem State.countWide_pyr (s : State) (k : Nat) : (s.countWide k).pyr = s.pyr := rfl
@[simp] theorem State.countWide_safety (s : State) (k : Nat) : (s.countWide k).safety = s.safety := rfl
@[simp] theorem State.countWide_conns (s : State) (k : Nat) : (s.countWide k).conns = s.conns := rfl
@[simp] theorem State.countWide_crcs (s : State) (k : Nat) : (s.countWide k).crcs = s.crcs := rfl
@[simp] theorem State.countWide_chans (s : State) (k : Nat) : (s.countWide k).chans = s.chans := rfl
@[simp] theorem State.countWide_time (s : State) (k : Nat) : (s.countWide k).time = s.time := rfl
@[simp] theorem State.countWide_canA (s : State) (k : Nat) : (s.countWide k).canA = s.canA := rfl
@[simp] theorem State.countWide_sessions (s : State) (k : Nat) : (s.countWide k).sessions = s.sessions := rfl
@[simp] theorem State.countWide_img (s : State) (k : Nat) : (s.countWide k).img = s.img := rfl
@[simp] theorem State.countWide_cap (s : State) (k : Nat) : (s.countWide k).cap = s.cap := rfl
@[simp] theorem State.countWide_pending (s : State) (k : Nat) : (s.countWide k).pending = s.pending := rfl

/-! `State.emit` -/

@[simp] theorem State.emit_od (s : State) (o : Output) : (s.emit o).od = s.od := rfl
@[simp] theorem State.emit_tb (s : State) (o : Output) : (s.emit o).tb = s.tb := rfl
@[simp] theorem State.emit_fresh (s : State) (o : Output) : (s.emit o).fresh = s.fresh := rfl
@[simp] theorem State.emit_log (s : State) (o : Output) : (s.emit o).log = s.log := rfl
@[simp] theorem State.emit_bringup (s : State) (o : Output) : (s.emit o).bringup = s.bringup := rfl
@[simp] theorem State.emit_clocks (s : State) (o : Output) : (s.emit o).clocks = s.clocks := rfl
@[simp] theorem State.emit_links (s : State) (o : Output) : (s.emit o).links = s.links := rfl
@[simp] theorem State.emit_drives (s : State) (o : Output) : (s.emit o).drives = s.drives := rfl
@[simp] theorem State.emit_cells (s : State) (o : Output) : (s.emit o).cells = s.cells := rfl
@[simp] theorem State.emit_legs (s : State) (o : Output) : (s.emit o).legs = s.legs := rfl
@[simp] theorem State.emit_store (s : State) (o : Output) : (s.emit o).store = s.store := rfl
@[simp] theorem State.emit_cust (s : State) (o : Output) : (s.emit o).cust = s.cust := rfl
@[simp] theorem State.emit_shunts (s : State) (o : Output) : (s.emit o).shunts = s.shunts := rfl
@[simp] theorem State.emit_seqs (s : State) (o : Output) : (s.emit o).seqs = s.seqs := rfl
@[simp] theorem State.emit_gcps (s : State) (o : Output) : (s.emit o).gcps = s.gcps := rfl
@[simp] theorem State.emit_axes (s : State) (o : Output) : (s.emit o).axes = s.axes := rfl
@[simp] theorem State.emit_traction (s : State) (o : Output) : (s.emit o).traction = s.traction := rfl
@[simp] theorem State.emit_pifs (s : State) (o : Output) : (s.emit o).pifs = s.pifs := rfl
@[simp] theorem State.emit_lus (s : State) (o : Output) : (s.emit o).lus = s.lus := rfl
@[simp] theorem State.emit_stageIn (s : State) (o : Output) : (s.emit o).stageIn = s.stageIn := rfl
@[simp] theorem State.emit_lvCommand (s : State) (o : Output) : (s.emit o).lvCommand = s.lvCommand := rfl
@[simp] theorem State.emit_engines (s : State) (o : Output) : (s.emit o).engines = s.engines := rfl
@[simp] theorem State.emit_tasks (s : State) (o : Output) : (s.emit o).tasks = s.tasks := rfl
@[simp] theorem State.emit_pool (s : State) (o : Output) : (s.emit o).pool = s.pool := rfl
@[simp] theorem State.emit_gbx (s : State) (o : Output) : (s.emit o).gbx = s.gbx := rfl
@[simp] theorem State.emit_dcl (s : State) (o : Output) : (s.emit o).dcl = s.dcl := rfl
@[simp] theorem State.emit_aux (s : State) (o : Output) : (s.emit o).aux = s.aux := rfl
@[simp] theorem State.emit_chg (s : State) (o : Output) : (s.emit o).chg = s.chg := rfl
@[simp] theorem State.emit_path (s : State) (o : Output) : (s.emit o).path = s.path := rfl
@[simp] theorem State.emit_thermal (s : State) (o : Output) : (s.emit o).thermal = s.thermal := rfl
@[simp] theorem State.emit_pyr (s : State) (o : Output) : (s.emit o).pyr = s.pyr := rfl
@[simp] theorem State.emit_safety (s : State) (o : Output) : (s.emit o).safety = s.safety := rfl
@[simp] theorem State.emit_conns (s : State) (o : Output) : (s.emit o).conns = s.conns := rfl
@[simp] theorem State.emit_crcs (s : State) (o : Output) : (s.emit o).crcs = s.crcs := rfl
@[simp] theorem State.emit_chans (s : State) (o : Output) : (s.emit o).chans = s.chans := rfl
@[simp] theorem State.emit_time (s : State) (o : Output) : (s.emit o).time = s.time := rfl
@[simp] theorem State.emit_canA (s : State) (o : Output) : (s.emit o).canA = s.canA := rfl
@[simp] theorem State.emit_sessions (s : State) (o : Output) : (s.emit o).sessions = s.sessions := rfl
@[simp] theorem State.emit_img (s : State) (o : Output) : (s.emit o).img = s.img := rfl
@[simp] theorem State.emit_cap (s : State) (o : Output) : (s.emit o).cap = s.cap := rfl
@[simp] theorem State.emit_pending (s : State) (o : Output) : (s.emit o).pending = s.pending := rfl

/-! `State.draw` -/

@[simp] theorem State.draw_od (s : State)  : (s.draw).od = s.od := rfl
@[simp] theorem State.draw_tb (s : State)  : (s.draw).tb = s.tb := rfl
@[simp] theorem State.draw_out (s : State)  : (s.draw).out = s.out := rfl
@[simp] theorem State.draw_log (s : State)  : (s.draw).log = s.log := rfl
@[simp] theorem State.draw_bringup (s : State)  : (s.draw).bringup = s.bringup := rfl
@[simp] theorem State.draw_clocks (s : State)  : (s.draw).clocks = s.clocks := rfl
@[simp] theorem State.draw_links (s : State)  : (s.draw).links = s.links := rfl
@[simp] theorem State.draw_drives (s : State)  : (s.draw).drives = s.drives := rfl
@[simp] theorem State.draw_cells (s : State)  : (s.draw).cells = s.cells := rfl
@[simp] theorem State.draw_legs (s : State)  : (s.draw).legs = s.legs := rfl
@[simp] theorem State.draw_store (s : State)  : (s.draw).store = s.store := rfl
@[simp] theorem State.draw_cust (s : State)  : (s.draw).cust = s.cust := rfl
@[simp] theorem State.draw_shunts (s : State)  : (s.draw).shunts = s.shunts := rfl
@[simp] theorem State.draw_seqs (s : State)  : (s.draw).seqs = s.seqs := rfl
@[simp] theorem State.draw_gcps (s : State)  : (s.draw).gcps = s.gcps := rfl
@[simp] theorem State.draw_axes (s : State)  : (s.draw).axes = s.axes := rfl
@[simp] theorem State.draw_traction (s : State)  : (s.draw).traction = s.traction := rfl
@[simp] theorem State.draw_pifs (s : State)  : (s.draw).pifs = s.pifs := rfl
@[simp] theorem State.draw_lus (s : State)  : (s.draw).lus = s.lus := rfl
@[simp] theorem State.draw_stageIn (s : State)  : (s.draw).stageIn = s.stageIn := rfl
@[simp] theorem State.draw_lvCommand (s : State)  : (s.draw).lvCommand = s.lvCommand := rfl
@[simp] theorem State.draw_engines (s : State)  : (s.draw).engines = s.engines := rfl
@[simp] theorem State.draw_tasks (s : State)  : (s.draw).tasks = s.tasks := rfl
@[simp] theorem State.draw_pool (s : State)  : (s.draw).pool = s.pool := rfl
@[simp] theorem State.draw_gbx (s : State)  : (s.draw).gbx = s.gbx := rfl
@[simp] theorem State.draw_dcl (s : State)  : (s.draw).dcl = s.dcl := rfl
@[simp] theorem State.draw_aux (s : State)  : (s.draw).aux = s.aux := rfl
@[simp] theorem State.draw_chg (s : State)  : (s.draw).chg = s.chg := rfl
@[simp] theorem State.draw_path (s : State)  : (s.draw).path = s.path := rfl
@[simp] theorem State.draw_thermal (s : State)  : (s.draw).thermal = s.thermal := rfl
@[simp] theorem State.draw_pyr (s : State)  : (s.draw).pyr = s.pyr := rfl
@[simp] theorem State.draw_safety (s : State)  : (s.draw).safety = s.safety := rfl
@[simp] theorem State.draw_conns (s : State)  : (s.draw).conns = s.conns := rfl
@[simp] theorem State.draw_crcs (s : State)  : (s.draw).crcs = s.crcs := rfl
@[simp] theorem State.draw_chans (s : State)  : (s.draw).chans = s.chans := rfl
@[simp] theorem State.draw_time (s : State)  : (s.draw).time = s.time := rfl
@[simp] theorem State.draw_canA (s : State)  : (s.draw).canA = s.canA := rfl
@[simp] theorem State.draw_sessions (s : State)  : (s.draw).sessions = s.sessions := rfl
@[simp] theorem State.draw_img (s : State)  : (s.draw).img = s.img := rfl
@[simp] theorem State.draw_cap (s : State)  : (s.draw).cap = s.cap := rfl
@[simp] theorem State.draw_pending (s : State)  : (s.draw).pending = s.pending := rfl

/-! `State.event` -/

@[simp] theorem State.event_od (s : State) (c o d : Nat) : (s.event c o d).od = s.od := rfl
@[simp] theorem State.event_tb (s : State) (c o d : Nat) : (s.event c o d).tb = s.tb := rfl
@[simp] theorem State.event_fresh (s : State) (c o d : Nat) : (s.event c o d).fresh = s.fresh := rfl
@[simp] theorem State.event_out (s : State) (c o d : Nat) : (s.event c o d).out = s.out := rfl
@[simp] theorem State.event_bringup (s : State) (c o d : Nat) : (s.event c o d).bringup = s.bringup := rfl
@[simp] theorem State.event_clocks (s : State) (c o d : Nat) : (s.event c o d).clocks = s.clocks := rfl
@[simp] theorem State.event_links (s : State) (c o d : Nat) : (s.event c o d).links = s.links := rfl
@[simp] theorem State.event_drives (s : State) (c o d : Nat) : (s.event c o d).drives = s.drives := rfl
@[simp] theorem State.event_cells (s : State) (c o d : Nat) : (s.event c o d).cells = s.cells := rfl
@[simp] theorem State.event_legs (s : State) (c o d : Nat) : (s.event c o d).legs = s.legs := rfl
@[simp] theorem State.event_store (s : State) (c o d : Nat) : (s.event c o d).store = s.store := rfl
@[simp] theorem State.event_cust (s : State) (c o d : Nat) : (s.event c o d).cust = s.cust := rfl
@[simp] theorem State.event_shunts (s : State) (c o d : Nat) : (s.event c o d).shunts = s.shunts := rfl
@[simp] theorem State.event_seqs (s : State) (c o d : Nat) : (s.event c o d).seqs = s.seqs := rfl
@[simp] theorem State.event_gcps (s : State) (c o d : Nat) : (s.event c o d).gcps = s.gcps := rfl
@[simp] theorem State.event_axes (s : State) (c o d : Nat) : (s.event c o d).axes = s.axes := rfl
@[simp] theorem State.event_traction (s : State) (c o d : Nat) : (s.event c o d).traction = s.traction := rfl
@[simp] theorem State.event_pifs (s : State) (c o d : Nat) : (s.event c o d).pifs = s.pifs := rfl
@[simp] theorem State.event_lus (s : State) (c o d : Nat) : (s.event c o d).lus = s.lus := rfl
@[simp] theorem State.event_stageIn (s : State) (c o d : Nat) : (s.event c o d).stageIn = s.stageIn := rfl
@[simp] theorem State.event_lvCommand (s : State) (c o d : Nat) : (s.event c o d).lvCommand = s.lvCommand := rfl
@[simp] theorem State.event_engines (s : State) (c o d : Nat) : (s.event c o d).engines = s.engines := rfl
@[simp] theorem State.event_tasks (s : State) (c o d : Nat) : (s.event c o d).tasks = s.tasks := rfl
@[simp] theorem State.event_pool (s : State) (c o d : Nat) : (s.event c o d).pool = s.pool := rfl
@[simp] theorem State.event_gbx (s : State) (c o d : Nat) : (s.event c o d).gbx = s.gbx := rfl
@[simp] theorem State.event_dcl (s : State) (c o d : Nat) : (s.event c o d).dcl = s.dcl := rfl
@[simp] theorem State.event_aux (s : State) (c o d : Nat) : (s.event c o d).aux = s.aux := rfl
@[simp] theorem State.event_chg (s : State) (c o d : Nat) : (s.event c o d).chg = s.chg := rfl
@[simp] theorem State.event_path (s : State) (c o d : Nat) : (s.event c o d).path = s.path := rfl
@[simp] theorem State.event_thermal (s : State) (c o d : Nat) : (s.event c o d).thermal = s.thermal := rfl
@[simp] theorem State.event_pyr (s : State) (c o d : Nat) : (s.event c o d).pyr = s.pyr := rfl
@[simp] theorem State.event_safety (s : State) (c o d : Nat) : (s.event c o d).safety = s.safety := rfl
@[simp] theorem State.event_conns (s : State) (c o d : Nat) : (s.event c o d).conns = s.conns := rfl
@[simp] theorem State.event_crcs (s : State) (c o d : Nat) : (s.event c o d).crcs = s.crcs := rfl
@[simp] theorem State.event_chans (s : State) (c o d : Nat) : (s.event c o d).chans = s.chans := rfl
@[simp] theorem State.event_time (s : State) (c o d : Nat) : (s.event c o d).time = s.time := rfl
@[simp] theorem State.event_canA (s : State) (c o d : Nat) : (s.event c o d).canA = s.canA := rfl
@[simp] theorem State.event_sessions (s : State) (c o d : Nat) : (s.event c o d).sessions = s.sessions := rfl
@[simp] theorem State.event_img (s : State) (c o d : Nat) : (s.event c o d).img = s.img := rfl
@[simp] theorem State.event_cap (s : State) (c o d : Nat) : (s.event c o d).cap = s.cap := rfl
@[simp] theorem State.event_pending (s : State) (c o d : Nat) : (s.event c o d).pending = s.pending := rfl

/-! `State.lastEvent` -/

@[simp] theorem State.lastEvent_od (s : State) (d : Drive) (c : Nat) : (s.lastEvent d c).od = s.od := rfl
@[simp] theorem State.lastEvent_tb (s : State) (d : Drive) (c : Nat) : (s.lastEvent d c).tb = s.tb := rfl
@[simp] theorem State.lastEvent_fresh (s : State) (d : Drive) (c : Nat) : (s.lastEvent d c).fresh = s.fresh := rfl
@[simp] theorem State.lastEvent_out (s : State) (d : Drive) (c : Nat) : (s.lastEvent d c).out = s.out := rfl
@[simp] theorem State.lastEvent_bringup (s : State) (d : Drive) (c : Nat) : (s.lastEvent d c).bringup = s.bringup := rfl
@[simp] theorem State.lastEvent_clocks (s : State) (d : Drive) (c : Nat) : (s.lastEvent d c).clocks = s.clocks := rfl
@[simp] theorem State.lastEvent_links (s : State) (d : Drive) (c : Nat) : (s.lastEvent d c).links = s.links := rfl
@[simp] theorem State.lastEvent_drives (s : State) (d : Drive) (c : Nat) : (s.lastEvent d c).drives = s.drives := rfl
@[simp] theorem State.lastEvent_cells (s : State) (d : Drive) (c : Nat) : (s.lastEvent d c).cells = s.cells := rfl
@[simp] theorem State.lastEvent_legs (s : State) (d : Drive) (c : Nat) : (s.lastEvent d c).legs = s.legs := rfl
@[simp] theorem State.lastEvent_store (s : State) (d : Drive) (c : Nat) : (s.lastEvent d c).store = s.store := rfl
@[simp] theorem State.lastEvent_cust (s : State) (d : Drive) (c : Nat) : (s.lastEvent d c).cust = s.cust := rfl
@[simp] theorem State.lastEvent_shunts (s : State) (d : Drive) (c : Nat) : (s.lastEvent d c).shunts = s.shunts := rfl
@[simp] theorem State.lastEvent_seqs (s : State) (d : Drive) (c : Nat) : (s.lastEvent d c).seqs = s.seqs := rfl
@[simp] theorem State.lastEvent_gcps (s : State) (d : Drive) (c : Nat) : (s.lastEvent d c).gcps = s.gcps := rfl
@[simp] theorem State.lastEvent_axes (s : State) (d : Drive) (c : Nat) : (s.lastEvent d c).axes = s.axes := rfl
@[simp] theorem State.lastEvent_traction (s : State) (d : Drive) (c : Nat) : (s.lastEvent d c).traction = s.traction := rfl
@[simp] theorem State.lastEvent_pifs (s : State) (d : Drive) (c : Nat) : (s.lastEvent d c).pifs = s.pifs := rfl
@[simp] theorem State.lastEvent_lus (s : State) (d : Drive) (c : Nat) : (s.lastEvent d c).lus = s.lus := rfl
@[simp] theorem State.lastEvent_stageIn (s : State) (d : Drive) (c : Nat) : (s.lastEvent d c).stageIn = s.stageIn := rfl
@[simp] theorem State.lastEvent_lvCommand (s : State) (d : Drive) (c : Nat) : (s.lastEvent d c).lvCommand = s.lvCommand := rfl
@[simp] theorem State.lastEvent_engines (s : State) (d : Drive) (c : Nat) : (s.lastEvent d c).engines = s.engines := rfl
@[simp] theorem State.lastEvent_tasks (s : State) (d : Drive) (c : Nat) : (s.lastEvent d c).tasks = s.tasks := rfl
@[simp] theorem State.lastEvent_pool (s : State) (d : Drive) (c : Nat) : (s.lastEvent d c).pool = s.pool := rfl
@[simp] theorem State.lastEvent_gbx (s : State) (d : Drive) (c : Nat) : (s.lastEvent d c).gbx = s.gbx := rfl
@[simp] theorem State.lastEvent_dcl (s : State) (d : Drive) (c : Nat) : (s.lastEvent d c).dcl = s.dcl := rfl
@[simp] theorem State.lastEvent_aux (s : State) (d : Drive) (c : Nat) : (s.lastEvent d c).aux = s.aux := rfl
@[simp] theorem State.lastEvent_chg (s : State) (d : Drive) (c : Nat) : (s.lastEvent d c).chg = s.chg := rfl
@[simp] theorem State.lastEvent_path (s : State) (d : Drive) (c : Nat) : (s.lastEvent d c).path = s.path := rfl
@[simp] theorem State.lastEvent_thermal (s : State) (d : Drive) (c : Nat) : (s.lastEvent d c).thermal = s.thermal := rfl
@[simp] theorem State.lastEvent_pyr (s : State) (d : Drive) (c : Nat) : (s.lastEvent d c).pyr = s.pyr := rfl
@[simp] theorem State.lastEvent_safety (s : State) (d : Drive) (c : Nat) : (s.lastEvent d c).safety = s.safety := rfl
@[simp] theorem State.lastEvent_conns (s : State) (d : Drive) (c : Nat) : (s.lastEvent d c).conns = s.conns := rfl
@[simp] theorem State.lastEvent_crcs (s : State) (d : Drive) (c : Nat) : (s.lastEvent d c).crcs = s.crcs := rfl
@[simp] theorem State.lastEvent_chans (s : State) (d : Drive) (c : Nat) : (s.lastEvent d c).chans = s.chans := rfl
@[simp] theorem State.lastEvent_time (s : State) (d : Drive) (c : Nat) : (s.lastEvent d c).time = s.time := rfl
@[simp] theorem State.lastEvent_canA (s : State) (d : Drive) (c : Nat) : (s.lastEvent d c).canA = s.canA := rfl
@[simp] theorem State.lastEvent_sessions (s : State) (d : Drive) (c : Nat) : (s.lastEvent d c).sessions = s.sessions := rfl
@[simp] theorem State.lastEvent_img (s : State) (d : Drive) (c : Nat) : (s.lastEvent d c).img = s.img := rfl
@[simp] theorem State.lastEvent_cap (s : State) (d : Drive) (c : Nat) : (s.lastEvent d c).cap = s.cap := rfl
@[simp] theorem State.lastEvent_pending (s : State) (d : Drive) (c : Nat) : (s.lastEvent d c).pending = s.pending := rfl

/-! `State.noteWrite` -/

@[simp] theorem State.noteWrite_od (s : State) (w : Requester) (k : Nat) : (s.noteWrite w k).od = s.od := rfl
@[simp] theorem State.noteWrite_tb (s : State) (w : Requester) (k : Nat) : (s.noteWrite w k).tb = s.tb := rfl
@[simp] theorem State.noteWrite_fresh (s : State) (w : Requester) (k : Nat) : (s.noteWrite w k).fresh = s.fresh := rfl
@[simp] theorem State.noteWrite_out (s : State) (w : Requester) (k : Nat) : (s.noteWrite w k).out = s.out := rfl
@[simp] theorem State.noteWrite_log (s : State) (w : Requester) (k : Nat) : (s.noteWrite w k).log = s.log := rfl
@[simp] theorem State.noteWrite_bringup (s : State) (w : Requester) (k : Nat) : (s.noteWrite w k).bringup = s.bringup := rfl
@[simp] theorem State.noteWrite_clocks (s : State) (w : Requester) (k : Nat) : (s.noteWrite w k).clocks = s.clocks := rfl
@[simp] theorem State.noteWrite_links (s : State) (w : Requester) (k : Nat) : (s.noteWrite w k).links = s.links := rfl
@[simp] theorem State.noteWrite_drives (s : State) (w : Requester) (k : Nat) : (s.noteWrite w k).drives = s.drives := rfl
@[simp] theorem State.noteWrite_cells (s : State) (w : Requester) (k : Nat) : (s.noteWrite w k).cells = s.cells := rfl
@[simp] theorem State.noteWrite_legs (s : State) (w : Requester) (k : Nat) : (s.noteWrite w k).legs = s.legs := rfl
@[simp] theorem State.noteWrite_store (s : State) (w : Requester) (k : Nat) : (s.noteWrite w k).store = s.store := rfl
@[simp] theorem State.noteWrite_cust (s : State) (w : Requester) (k : Nat) : (s.noteWrite w k).cust = s.cust := rfl
@[simp] theorem State.noteWrite_shunts (s : State) (w : Requester) (k : Nat) : (s.noteWrite w k).shunts = s.shunts := rfl
@[simp] theorem State.noteWrite_seqs (s : State) (w : Requester) (k : Nat) : (s.noteWrite w k).seqs = s.seqs := rfl
@[simp] theorem State.noteWrite_gcps (s : State) (w : Requester) (k : Nat) : (s.noteWrite w k).gcps = s.gcps := rfl
@[simp] theorem State.noteWrite_axes (s : State) (w : Requester) (k : Nat) : (s.noteWrite w k).axes = s.axes := rfl
@[simp] theorem State.noteWrite_traction (s : State) (w : Requester) (k : Nat) : (s.noteWrite w k).traction = s.traction := rfl
@[simp] theorem State.noteWrite_pifs (s : State) (w : Requester) (k : Nat) : (s.noteWrite w k).pifs = s.pifs := rfl
@[simp] theorem State.noteWrite_lus (s : State) (w : Requester) (k : Nat) : (s.noteWrite w k).lus = s.lus := rfl
@[simp] theorem State.noteWrite_stageIn (s : State) (w : Requester) (k : Nat) : (s.noteWrite w k).stageIn = s.stageIn := rfl
@[simp] theorem State.noteWrite_lvCommand (s : State) (w : Requester) (k : Nat) : (s.noteWrite w k).lvCommand = s.lvCommand := rfl
@[simp] theorem State.noteWrite_engines (s : State) (w : Requester) (k : Nat) : (s.noteWrite w k).engines = s.engines := rfl
@[simp] theorem State.noteWrite_tasks (s : State) (w : Requester) (k : Nat) : (s.noteWrite w k).tasks = s.tasks := rfl
@[simp] theorem State.noteWrite_pool (s : State) (w : Requester) (k : Nat) : (s.noteWrite w k).pool = s.pool := rfl
@[simp] theorem State.noteWrite_gbx (s : State) (w : Requester) (k : Nat) : (s.noteWrite w k).gbx = s.gbx := rfl
@[simp] theorem State.noteWrite_dcl (s : State) (w : Requester) (k : Nat) : (s.noteWrite w k).dcl = s.dcl := rfl
@[simp] theorem State.noteWrite_aux (s : State) (w : Requester) (k : Nat) : (s.noteWrite w k).aux = s.aux := rfl
@[simp] theorem State.noteWrite_chg (s : State) (w : Requester) (k : Nat) : (s.noteWrite w k).chg = s.chg := rfl
@[simp] theorem State.noteWrite_path (s : State) (w : Requester) (k : Nat) : (s.noteWrite w k).path = s.path := rfl
@[simp] theorem State.noteWrite_thermal (s : State) (w : Requester) (k : Nat) : (s.noteWrite w k).thermal = s.thermal := rfl
@[simp] theorem State.noteWrite_pyr (s : State) (w : Requester) (k : Nat) : (s.noteWrite w k).pyr = s.pyr := rfl
@[simp] theorem State.noteWrite_safety (s : State) (w : Requester) (k : Nat) : (s.noteWrite w k).safety = s.safety := rfl
@[simp] theorem State.noteWrite_conns (s : State) (w : Requester) (k : Nat) : (s.noteWrite w k).conns = s.conns := rfl
@[simp] theorem State.noteWrite_crcs (s : State) (w : Requester) (k : Nat) : (s.noteWrite w k).crcs = s.crcs := rfl
@[simp] theorem State.noteWrite_chans (s : State) (w : Requester) (k : Nat) : (s.noteWrite w k).chans = s.chans := rfl
@[simp] theorem State.noteWrite_time (s : State) (w : Requester) (k : Nat) : (s.noteWrite w k).time = s.time := rfl
@[simp] theorem State.noteWrite_canA (s : State) (w : Requester) (k : Nat) : (s.noteWrite w k).canA = s.canA := rfl
@[simp] theorem State.noteWrite_img (s : State) (w : Requester) (k : Nat) : (s.noteWrite w k).img = s.img := rfl
@[simp] theorem State.noteWrite_cap (s : State) (w : Requester) (k : Nat) : (s.noteWrite w k).cap = s.cap := rfl
@[simp] theorem State.noteWrite_pending (s : State) (w : Requester) (k : Nat) : (s.noteWrite w k).pending = s.pending := rfl

/-! `State.modCanA` -/

@[simp] theorem State.modCanA_od (s : State) (f : CanASt → CanASt) : (s.modCanA f).od = s.od := rfl
@[simp] theorem State.modCanA_tb (s : State) (f : CanASt → CanASt) : (s.modCanA f).tb = s.tb := rfl
@[simp] theorem State.modCanA_fresh (s : State) (f : CanASt → CanASt) : (s.modCanA f).fresh = s.fresh := rfl
@[simp] theorem State.modCanA_out (s : State) (f : CanASt → CanASt) : (s.modCanA f).out = s.out := rfl
@[simp] theorem State.modCanA_log (s : State) (f : CanASt → CanASt) : (s.modCanA f).log = s.log := rfl
@[simp] theorem State.modCanA_bringup (s : State) (f : CanASt → CanASt) : (s.modCanA f).bringup = s.bringup := rfl
@[simp] theorem State.modCanA_clocks (s : State) (f : CanASt → CanASt) : (s.modCanA f).clocks = s.clocks := rfl
@[simp] theorem State.modCanA_links (s : State) (f : CanASt → CanASt) : (s.modCanA f).links = s.links := rfl
@[simp] theorem State.modCanA_drives (s : State) (f : CanASt → CanASt) : (s.modCanA f).drives = s.drives := rfl
@[simp] theorem State.modCanA_cells (s : State) (f : CanASt → CanASt) : (s.modCanA f).cells = s.cells := rfl
@[simp] theorem State.modCanA_legs (s : State) (f : CanASt → CanASt) : (s.modCanA f).legs = s.legs := rfl
@[simp] theorem State.modCanA_store (s : State) (f : CanASt → CanASt) : (s.modCanA f).store = s.store := rfl
@[simp] theorem State.modCanA_cust (s : State) (f : CanASt → CanASt) : (s.modCanA f).cust = s.cust := rfl
@[simp] theorem State.modCanA_shunts (s : State) (f : CanASt → CanASt) : (s.modCanA f).shunts = s.shunts := rfl
@[simp] theorem State.modCanA_seqs (s : State) (f : CanASt → CanASt) : (s.modCanA f).seqs = s.seqs := rfl
@[simp] theorem State.modCanA_gcps (s : State) (f : CanASt → CanASt) : (s.modCanA f).gcps = s.gcps := rfl
@[simp] theorem State.modCanA_axes (s : State) (f : CanASt → CanASt) : (s.modCanA f).axes = s.axes := rfl
@[simp] theorem State.modCanA_traction (s : State) (f : CanASt → CanASt) : (s.modCanA f).traction = s.traction := rfl
@[simp] theorem State.modCanA_pifs (s : State) (f : CanASt → CanASt) : (s.modCanA f).pifs = s.pifs := rfl
@[simp] theorem State.modCanA_lus (s : State) (f : CanASt → CanASt) : (s.modCanA f).lus = s.lus := rfl
@[simp] theorem State.modCanA_stageIn (s : State) (f : CanASt → CanASt) : (s.modCanA f).stageIn = s.stageIn := rfl
@[simp] theorem State.modCanA_lvCommand (s : State) (f : CanASt → CanASt) : (s.modCanA f).lvCommand = s.lvCommand := rfl
@[simp] theorem State.modCanA_engines (s : State) (f : CanASt → CanASt) : (s.modCanA f).engines = s.engines := rfl
@[simp] theorem State.modCanA_tasks (s : State) (f : CanASt → CanASt) : (s.modCanA f).tasks = s.tasks := rfl
@[simp] theorem State.modCanA_pool (s : State) (f : CanASt → CanASt) : (s.modCanA f).pool = s.pool := rfl
@[simp] theorem State.modCanA_gbx (s : State) (f : CanASt → CanASt) : (s.modCanA f).gbx = s.gbx := rfl
@[simp] theorem State.modCanA_dcl (s : State) (f : CanASt → CanASt) : (s.modCanA f).dcl = s.dcl := rfl
@[simp] theorem State.modCanA_aux (s : State) (f : CanASt → CanASt) : (s.modCanA f).aux = s.aux := rfl
@[simp] theorem State.modCanA_chg (s : State) (f : CanASt → CanASt) : (s.modCanA f).chg = s.chg := rfl
@[simp] theorem State.modCanA_path (s : State) (f : CanASt → CanASt) : (s.modCanA f).path = s.path := rfl
@[simp] theorem State.modCanA_thermal (s : State) (f : CanASt → CanASt) : (s.modCanA f).thermal = s.thermal := rfl
@[simp] theorem State.modCanA_pyr (s : State) (f : CanASt → CanASt) : (s.modCanA f).pyr = s.pyr := rfl
@[simp] theorem State.modCanA_safety (s : State) (f : CanASt → CanASt) : (s.modCanA f).safety = s.safety := rfl
@[simp] theorem State.modCanA_conns (s : State) (f : CanASt → CanASt) : (s.modCanA f).conns = s.conns := rfl
@[simp] theorem State.modCanA_crcs (s : State) (f : CanASt → CanASt) : (s.modCanA f).crcs = s.crcs := rfl
@[simp] theorem State.modCanA_chans (s : State) (f : CanASt → CanASt) : (s.modCanA f).chans = s.chans := rfl
@[simp] theorem State.modCanA_time (s : State) (f : CanASt → CanASt) : (s.modCanA f).time = s.time := rfl
@[simp] theorem State.modCanA_sessions (s : State) (f : CanASt → CanASt) : (s.modCanA f).sessions = s.sessions := rfl
@[simp] theorem State.modCanA_img (s : State) (f : CanASt → CanASt) : (s.modCanA f).img = s.img := rfl
@[simp] theorem State.modCanA_cap (s : State) (f : CanASt → CanASt) : (s.modCanA f).cap = s.cap := rfl
@[simp] theorem State.modCanA_pending (s : State) (f : CanASt → CanASt) : (s.modCanA f).pending = s.pending := rfl

/-! `State.modChan` -/

@[simp] theorem State.modChan_od (s : State) (c : Fin 4) (f : ChanSt → ChanSt) : (s.modChan c f).od = s.od := rfl
@[simp] theorem State.modChan_tb (s : State) (c : Fin 4) (f : ChanSt → ChanSt) : (s.modChan c f).tb = s.tb := rfl
@[simp] theorem State.modChan_fresh (s : State) (c : Fin 4) (f : ChanSt → ChanSt) : (s.modChan c f).fresh = s.fresh := rfl
@[simp] theorem State.modChan_out (s : State) (c : Fin 4) (f : ChanSt → ChanSt) : (s.modChan c f).out = s.out := rfl
@[simp] theorem State.modChan_log (s : State) (c : Fin 4) (f : ChanSt → ChanSt) : (s.modChan c f).log = s.log := rfl
@[simp] theorem State.modChan_bringup (s : State) (c : Fin 4) (f : ChanSt → ChanSt) : (s.modChan c f).bringup = s.bringup := rfl
@[simp] theorem State.modChan_clocks (s : State) (c : Fin 4) (f : ChanSt → ChanSt) : (s.modChan c f).clocks = s.clocks := rfl
@[simp] theorem State.modChan_links (s : State) (c : Fin 4) (f : ChanSt → ChanSt) : (s.modChan c f).links = s.links := rfl
@[simp] theorem State.modChan_drives (s : State) (c : Fin 4) (f : ChanSt → ChanSt) : (s.modChan c f).drives = s.drives := rfl
@[simp] theorem State.modChan_cells (s : State) (c : Fin 4) (f : ChanSt → ChanSt) : (s.modChan c f).cells = s.cells := rfl
@[simp] theorem State.modChan_legs (s : State) (c : Fin 4) (f : ChanSt → ChanSt) : (s.modChan c f).legs = s.legs := rfl
@[simp] theorem State.modChan_store (s : State) (c : Fin 4) (f : ChanSt → ChanSt) : (s.modChan c f).store = s.store := rfl
@[simp] theorem State.modChan_cust (s : State) (c : Fin 4) (f : ChanSt → ChanSt) : (s.modChan c f).cust = s.cust := rfl
@[simp] theorem State.modChan_shunts (s : State) (c : Fin 4) (f : ChanSt → ChanSt) : (s.modChan c f).shunts = s.shunts := rfl
@[simp] theorem State.modChan_seqs (s : State) (c : Fin 4) (f : ChanSt → ChanSt) : (s.modChan c f).seqs = s.seqs := rfl
@[simp] theorem State.modChan_gcps (s : State) (c : Fin 4) (f : ChanSt → ChanSt) : (s.modChan c f).gcps = s.gcps := rfl
@[simp] theorem State.modChan_axes (s : State) (c : Fin 4) (f : ChanSt → ChanSt) : (s.modChan c f).axes = s.axes := rfl
@[simp] theorem State.modChan_traction (s : State) (c : Fin 4) (f : ChanSt → ChanSt) : (s.modChan c f).traction = s.traction := rfl
@[simp] theorem State.modChan_pifs (s : State) (c : Fin 4) (f : ChanSt → ChanSt) : (s.modChan c f).pifs = s.pifs := rfl
@[simp] theorem State.modChan_lus (s : State) (c : Fin 4) (f : ChanSt → ChanSt) : (s.modChan c f).lus = s.lus := rfl
@[simp] theorem State.modChan_stageIn (s : State) (c : Fin 4) (f : ChanSt → ChanSt) : (s.modChan c f).stageIn = s.stageIn := rfl
@[simp] theorem State.modChan_lvCommand (s : State) (c : Fin 4) (f : ChanSt → ChanSt) : (s.modChan c f).lvCommand = s.lvCommand := rfl
@[simp] theorem State.modChan_engines (s : State) (c : Fin 4) (f : ChanSt → ChanSt) : (s.modChan c f).engines = s.engines := rfl
@[simp] theorem State.modChan_tasks (s : State) (c : Fin 4) (f : ChanSt → ChanSt) : (s.modChan c f).tasks = s.tasks := rfl
@[simp] theorem State.modChan_pool (s : State) (c : Fin 4) (f : ChanSt → ChanSt) : (s.modChan c f).pool = s.pool := rfl
@[simp] theorem State.modChan_gbx (s : State) (c : Fin 4) (f : ChanSt → ChanSt) : (s.modChan c f).gbx = s.gbx := rfl
@[simp] theorem State.modChan_dcl (s : State) (c : Fin 4) (f : ChanSt → ChanSt) : (s.modChan c f).dcl = s.dcl := rfl
@[simp] theorem State.modChan_aux (s : State) (c : Fin 4) (f : ChanSt → ChanSt) : (s.modChan c f).aux = s.aux := rfl
@[simp] theorem State.modChan_chg (s : State) (c : Fin 4) (f : ChanSt → ChanSt) : (s.modChan c f).chg = s.chg := rfl
@[simp] theorem State.modChan_path (s : State) (c : Fin 4) (f : ChanSt → ChanSt) : (s.modChan c f).path = s.path := rfl
@[simp] theorem State.modChan_thermal (s : State) (c : Fin 4) (f : ChanSt → ChanSt) : (s.modChan c f).thermal = s.thermal := rfl
@[simp] theorem State.modChan_pyr (s : State) (c : Fin 4) (f : ChanSt → ChanSt) : (s.modChan c f).pyr = s.pyr := rfl
@[simp] theorem State.modChan_safety (s : State) (c : Fin 4) (f : ChanSt → ChanSt) : (s.modChan c f).safety = s.safety := rfl
@[simp] theorem State.modChan_conns (s : State) (c : Fin 4) (f : ChanSt → ChanSt) : (s.modChan c f).conns = s.conns := rfl
@[simp] theorem State.modChan_crcs (s : State) (c : Fin 4) (f : ChanSt → ChanSt) : (s.modChan c f).crcs = s.crcs := rfl
@[simp] theorem State.modChan_time (s : State) (c : Fin 4) (f : ChanSt → ChanSt) : (s.modChan c f).time = s.time := rfl
@[simp] theorem State.modChan_canA (s : State) (c : Fin 4) (f : ChanSt → ChanSt) : (s.modChan c f).canA = s.canA := rfl
@[simp] theorem State.modChan_sessions (s : State) (c : Fin 4) (f : ChanSt → ChanSt) : (s.modChan c f).sessions = s.sessions := rfl
@[simp] theorem State.modChan_img (s : State) (c : Fin 4) (f : ChanSt → ChanSt) : (s.modChan c f).img = s.img := rfl
@[simp] theorem State.modChan_cap (s : State) (c : Fin 4) (f : ChanSt → ChanSt) : (s.modChan c f).cap = s.cap := rfl
@[simp] theorem State.modChan_pending (s : State) (c : Fin 4) (f : ChanSt → ChanSt) : (s.modChan c f).pending = s.pending := rfl

/-! `State.modCap` -/

@[simp] theorem State.modCap_od (s : State) (f : CapSt → CapSt) : (s.modCap f).od = s.od := rfl
@[simp] theorem State.modCap_tb (s : State) (f : CapSt → CapSt) : (s.modCap f).tb = s.tb := rfl
@[simp] theorem State.modCap_fresh (s : State) (f : CapSt → CapSt) : (s.modCap f).fresh = s.fresh := rfl
@[simp] theorem State.modCap_out (s : State) (f : CapSt → CapSt) : (s.modCap f).out = s.out := rfl
@[simp] theorem State.modCap_log (s : State) (f : CapSt → CapSt) : (s.modCap f).log = s.log := rfl
@[simp] theorem State.modCap_bringup (s : State) (f : CapSt → CapSt) : (s.modCap f).bringup = s.bringup := rfl
@[simp] theorem State.modCap_clocks (s : State) (f : CapSt → CapSt) : (s.modCap f).clocks = s.clocks := rfl
@[simp] theorem State.modCap_links (s : State) (f : CapSt → CapSt) : (s.modCap f).links = s.links := rfl
@[simp] theorem State.modCap_drives (s : State) (f : CapSt → CapSt) : (s.modCap f).drives = s.drives := rfl
@[simp] theorem State.modCap_cells (s : State) (f : CapSt → CapSt) : (s.modCap f).cells = s.cells := rfl
@[simp] theorem State.modCap_legs (s : State) (f : CapSt → CapSt) : (s.modCap f).legs = s.legs := rfl
@[simp] theorem State.modCap_store (s : State) (f : CapSt → CapSt) : (s.modCap f).store = s.store := rfl
@[simp] theorem State.modCap_cust (s : State) (f : CapSt → CapSt) : (s.modCap f).cust = s.cust := rfl
@[simp] theorem State.modCap_shunts (s : State) (f : CapSt → CapSt) : (s.modCap f).shunts = s.shunts := rfl
@[simp] theorem State.modCap_seqs (s : State) (f : CapSt → CapSt) : (s.modCap f).seqs = s.seqs := rfl
@[simp] theorem State.modCap_gcps (s : State) (f : CapSt → CapSt) : (s.modCap f).gcps = s.gcps := rfl
@[simp] theorem State.modCap_axes (s : State) (f : CapSt → CapSt) : (s.modCap f).axes = s.axes := rfl
@[simp] theorem State.modCap_traction (s : State) (f : CapSt → CapSt) : (s.modCap f).traction = s.traction := rfl
@[simp] theorem State.modCap_pifs (s : State) (f : CapSt → CapSt) : (s.modCap f).pifs = s.pifs := rfl
@[simp] theorem State.modCap_lus (s : State) (f : CapSt → CapSt) : (s.modCap f).lus = s.lus := rfl
@[simp] theorem State.modCap_stageIn (s : State) (f : CapSt → CapSt) : (s.modCap f).stageIn = s.stageIn := rfl
@[simp] theorem State.modCap_lvCommand (s : State) (f : CapSt → CapSt) : (s.modCap f).lvCommand = s.lvCommand := rfl
@[simp] theorem State.modCap_engines (s : State) (f : CapSt → CapSt) : (s.modCap f).engines = s.engines := rfl
@[simp] theorem State.modCap_tasks (s : State) (f : CapSt → CapSt) : (s.modCap f).tasks = s.tasks := rfl
@[simp] theorem State.modCap_pool (s : State) (f : CapSt → CapSt) : (s.modCap f).pool = s.pool := rfl
@[simp] theorem State.modCap_gbx (s : State) (f : CapSt → CapSt) : (s.modCap f).gbx = s.gbx := rfl
@[simp] theorem State.modCap_dcl (s : State) (f : CapSt → CapSt) : (s.modCap f).dcl = s.dcl := rfl
@[simp] theorem State.modCap_aux (s : State) (f : CapSt → CapSt) : (s.modCap f).aux = s.aux := rfl
@[simp] theorem State.modCap_chg (s : State) (f : CapSt → CapSt) : (s.modCap f).chg = s.chg := rfl
@[simp] theorem State.modCap_path (s : State) (f : CapSt → CapSt) : (s.modCap f).path = s.path := rfl
@[simp] theorem State.modCap_thermal (s : State) (f : CapSt → CapSt) : (s.modCap f).thermal = s.thermal := rfl
@[simp] theorem State.modCap_pyr (s : State) (f : CapSt → CapSt) : (s.modCap f).pyr = s.pyr := rfl
@[simp] theorem State.modCap_safety (s : State) (f : CapSt → CapSt) : (s.modCap f).safety = s.safety := rfl
@[simp] theorem State.modCap_conns (s : State) (f : CapSt → CapSt) : (s.modCap f).conns = s.conns := rfl
@[simp] theorem State.modCap_crcs (s : State) (f : CapSt → CapSt) : (s.modCap f).crcs = s.crcs := rfl
@[simp] theorem State.modCap_chans (s : State) (f : CapSt → CapSt) : (s.modCap f).chans = s.chans := rfl
@[simp] theorem State.modCap_time (s : State) (f : CapSt → CapSt) : (s.modCap f).time = s.time := rfl
@[simp] theorem State.modCap_canA (s : State) (f : CapSt → CapSt) : (s.modCap f).canA = s.canA := rfl
@[simp] theorem State.modCap_sessions (s : State) (f : CapSt → CapSt) : (s.modCap f).sessions = s.sessions := rfl
@[simp] theorem State.modCap_img (s : State) (f : CapSt → CapSt) : (s.modCap f).img = s.img := rfl
@[simp] theorem State.modCap_pending (s : State) (f : CapSt → CapSt) : (s.modCap f).pending = s.pending := rfl

/-! `State.modCrc` -/

@[simp] theorem State.modCrc_od (s : State) (n : Fin 4) (f : CrcUnit → CrcUnit) : (s.modCrc n f).od = s.od := rfl
@[simp] theorem State.modCrc_tb (s : State) (n : Fin 4) (f : CrcUnit → CrcUnit) : (s.modCrc n f).tb = s.tb := rfl
@[simp] theorem State.modCrc_fresh (s : State) (n : Fin 4) (f : CrcUnit → CrcUnit) : (s.modCrc n f).fresh = s.fresh := rfl
@[simp] theorem State.modCrc_out (s : State) (n : Fin 4) (f : CrcUnit → CrcUnit) : (s.modCrc n f).out = s.out := rfl
@[simp] theorem State.modCrc_log (s : State) (n : Fin 4) (f : CrcUnit → CrcUnit) : (s.modCrc n f).log = s.log := rfl
@[simp] theorem State.modCrc_bringup (s : State) (n : Fin 4) (f : CrcUnit → CrcUnit) : (s.modCrc n f).bringup = s.bringup := rfl
@[simp] theorem State.modCrc_clocks (s : State) (n : Fin 4) (f : CrcUnit → CrcUnit) : (s.modCrc n f).clocks = s.clocks := rfl
@[simp] theorem State.modCrc_links (s : State) (n : Fin 4) (f : CrcUnit → CrcUnit) : (s.modCrc n f).links = s.links := rfl
@[simp] theorem State.modCrc_drives (s : State) (n : Fin 4) (f : CrcUnit → CrcUnit) : (s.modCrc n f).drives = s.drives := rfl
@[simp] theorem State.modCrc_cells (s : State) (n : Fin 4) (f : CrcUnit → CrcUnit) : (s.modCrc n f).cells = s.cells := rfl
@[simp] theorem State.modCrc_legs (s : State) (n : Fin 4) (f : CrcUnit → CrcUnit) : (s.modCrc n f).legs = s.legs := rfl
@[simp] theorem State.modCrc_store (s : State) (n : Fin 4) (f : CrcUnit → CrcUnit) : (s.modCrc n f).store = s.store := rfl
@[simp] theorem State.modCrc_cust (s : State) (n : Fin 4) (f : CrcUnit → CrcUnit) : (s.modCrc n f).cust = s.cust := rfl
@[simp] theorem State.modCrc_shunts (s : State) (n : Fin 4) (f : CrcUnit → CrcUnit) : (s.modCrc n f).shunts = s.shunts := rfl
@[simp] theorem State.modCrc_seqs (s : State) (n : Fin 4) (f : CrcUnit → CrcUnit) : (s.modCrc n f).seqs = s.seqs := rfl
@[simp] theorem State.modCrc_gcps (s : State) (n : Fin 4) (f : CrcUnit → CrcUnit) : (s.modCrc n f).gcps = s.gcps := rfl
@[simp] theorem State.modCrc_axes (s : State) (n : Fin 4) (f : CrcUnit → CrcUnit) : (s.modCrc n f).axes = s.axes := rfl
@[simp] theorem State.modCrc_traction (s : State) (n : Fin 4) (f : CrcUnit → CrcUnit) : (s.modCrc n f).traction = s.traction := rfl
@[simp] theorem State.modCrc_pifs (s : State) (n : Fin 4) (f : CrcUnit → CrcUnit) : (s.modCrc n f).pifs = s.pifs := rfl
@[simp] theorem State.modCrc_lus (s : State) (n : Fin 4) (f : CrcUnit → CrcUnit) : (s.modCrc n f).lus = s.lus := rfl
@[simp] theorem State.modCrc_stageIn (s : State) (n : Fin 4) (f : CrcUnit → CrcUnit) : (s.modCrc n f).stageIn = s.stageIn := rfl
@[simp] theorem State.modCrc_lvCommand (s : State) (n : Fin 4) (f : CrcUnit → CrcUnit) : (s.modCrc n f).lvCommand = s.lvCommand := rfl
@[simp] theorem State.modCrc_engines (s : State) (n : Fin 4) (f : CrcUnit → CrcUnit) : (s.modCrc n f).engines = s.engines := rfl
@[simp] theorem State.modCrc_tasks (s : State) (n : Fin 4) (f : CrcUnit → CrcUnit) : (s.modCrc n f).tasks = s.tasks := rfl
@[simp] theorem State.modCrc_pool (s : State) (n : Fin 4) (f : CrcUnit → CrcUnit) : (s.modCrc n f).pool = s.pool := rfl
@[simp] theorem State.modCrc_gbx (s : State) (n : Fin 4) (f : CrcUnit → CrcUnit) : (s.modCrc n f).gbx = s.gbx := rfl
@[simp] theorem State.modCrc_dcl (s : State) (n : Fin 4) (f : CrcUnit → CrcUnit) : (s.modCrc n f).dcl = s.dcl := rfl
@[simp] theorem State.modCrc_aux (s : State) (n : Fin 4) (f : CrcUnit → CrcUnit) : (s.modCrc n f).aux = s.aux := rfl
@[simp] theorem State.modCrc_chg (s : State) (n : Fin 4) (f : CrcUnit → CrcUnit) : (s.modCrc n f).chg = s.chg := rfl
@[simp] theorem State.modCrc_path (s : State) (n : Fin 4) (f : CrcUnit → CrcUnit) : (s.modCrc n f).path = s.path := rfl
@[simp] theorem State.modCrc_thermal (s : State) (n : Fin 4) (f : CrcUnit → CrcUnit) : (s.modCrc n f).thermal = s.thermal := rfl
@[simp] theorem State.modCrc_pyr (s : State) (n : Fin 4) (f : CrcUnit → CrcUnit) : (s.modCrc n f).pyr = s.pyr := rfl
@[simp] theorem State.modCrc_safety (s : State) (n : Fin 4) (f : CrcUnit → CrcUnit) : (s.modCrc n f).safety = s.safety := rfl
@[simp] theorem State.modCrc_conns (s : State) (n : Fin 4) (f : CrcUnit → CrcUnit) : (s.modCrc n f).conns = s.conns := rfl
@[simp] theorem State.modCrc_chans (s : State) (n : Fin 4) (f : CrcUnit → CrcUnit) : (s.modCrc n f).chans = s.chans := rfl
@[simp] theorem State.modCrc_time (s : State) (n : Fin 4) (f : CrcUnit → CrcUnit) : (s.modCrc n f).time = s.time := rfl
@[simp] theorem State.modCrc_canA (s : State) (n : Fin 4) (f : CrcUnit → CrcUnit) : (s.modCrc n f).canA = s.canA := rfl
@[simp] theorem State.modCrc_sessions (s : State) (n : Fin 4) (f : CrcUnit → CrcUnit) : (s.modCrc n f).sessions = s.sessions := rfl
@[simp] theorem State.modCrc_img (s : State) (n : Fin 4) (f : CrcUnit → CrcUnit) : (s.modCrc n f).img = s.img := rfl
@[simp] theorem State.modCrc_cap (s : State) (n : Fin 4) (f : CrcUnit → CrcUnit) : (s.modCrc n f).cap = s.cap := rfl
@[simp] theorem State.modCrc_pending (s : State) (n : Fin 4) (f : CrcUnit → CrcUnit) : (s.modCrc n f).pending = s.pending := rfl

/-! `State.modEng` -/

@[simp] theorem State.modEng_od (s : State) (e : Fin 24) (f : EngSt → EngSt) : (s.modEng e f).od = s.od := rfl
@[simp] theorem State.modEng_tb (s : State) (e : Fin 24) (f : EngSt → EngSt) : (s.modEng e f).tb = s.tb := rfl
@[simp] theorem State.modEng_fresh (s : State) (e : Fin 24) (f : EngSt → EngSt) : (s.modEng e f).fresh = s.fresh := rfl
@[simp] theorem State.modEng_out (s : State) (e : Fin 24) (f : EngSt → EngSt) : (s.modEng e f).out = s.out := rfl
@[simp] theorem State.modEng_log (s : State) (e : Fin 24) (f : EngSt → EngSt) : (s.modEng e f).log = s.log := rfl
@[simp] theorem State.modEng_bringup (s : State) (e : Fin 24) (f : EngSt → EngSt) : (s.modEng e f).bringup = s.bringup := rfl
@[simp] theorem State.modEng_clocks (s : State) (e : Fin 24) (f : EngSt → EngSt) : (s.modEng e f).clocks = s.clocks := rfl
@[simp] theorem State.modEng_links (s : State) (e : Fin 24) (f : EngSt → EngSt) : (s.modEng e f).links = s.links := rfl
@[simp] theorem State.modEng_drives (s : State) (e : Fin 24) (f : EngSt → EngSt) : (s.modEng e f).drives = s.drives := rfl
@[simp] theorem State.modEng_cells (s : State) (e : Fin 24) (f : EngSt → EngSt) : (s.modEng e f).cells = s.cells := rfl
@[simp] theorem State.modEng_legs (s : State) (e : Fin 24) (f : EngSt → EngSt) : (s.modEng e f).legs = s.legs := rfl
@[simp] theorem State.modEng_store (s : State) (e : Fin 24) (f : EngSt → EngSt) : (s.modEng e f).store = s.store := rfl
@[simp] theorem State.modEng_cust (s : State) (e : Fin 24) (f : EngSt → EngSt) : (s.modEng e f).cust = s.cust := rfl
@[simp] theorem State.modEng_shunts (s : State) (e : Fin 24) (f : EngSt → EngSt) : (s.modEng e f).shunts = s.shunts := rfl
@[simp] theorem State.modEng_seqs (s : State) (e : Fin 24) (f : EngSt → EngSt) : (s.modEng e f).seqs = s.seqs := rfl
@[simp] theorem State.modEng_gcps (s : State) (e : Fin 24) (f : EngSt → EngSt) : (s.modEng e f).gcps = s.gcps := rfl
@[simp] theorem State.modEng_axes (s : State) (e : Fin 24) (f : EngSt → EngSt) : (s.modEng e f).axes = s.axes := rfl
@[simp] theorem State.modEng_traction (s : State) (e : Fin 24) (f : EngSt → EngSt) : (s.modEng e f).traction = s.traction := rfl
@[simp] theorem State.modEng_pifs (s : State) (e : Fin 24) (f : EngSt → EngSt) : (s.modEng e f).pifs = s.pifs := rfl
@[simp] theorem State.modEng_lus (s : State) (e : Fin 24) (f : EngSt → EngSt) : (s.modEng e f).lus = s.lus := rfl
@[simp] theorem State.modEng_stageIn (s : State) (e : Fin 24) (f : EngSt → EngSt) : (s.modEng e f).stageIn = s.stageIn := rfl
@[simp] theorem State.modEng_lvCommand (s : State) (e : Fin 24) (f : EngSt → EngSt) : (s.modEng e f).lvCommand = s.lvCommand := rfl
@[simp] theorem State.modEng_tasks (s : State) (e : Fin 24) (f : EngSt → EngSt) : (s.modEng e f).tasks = s.tasks := rfl
@[simp] theorem State.modEng_pool (s : State) (e : Fin 24) (f : EngSt → EngSt) : (s.modEng e f).pool = s.pool := rfl
@[simp] theorem State.modEng_gbx (s : State) (e : Fin 24) (f : EngSt → EngSt) : (s.modEng e f).gbx = s.gbx := rfl
@[simp] theorem State.modEng_dcl (s : State) (e : Fin 24) (f : EngSt → EngSt) : (s.modEng e f).dcl = s.dcl := rfl
@[simp] theorem State.modEng_aux (s : State) (e : Fin 24) (f : EngSt → EngSt) : (s.modEng e f).aux = s.aux := rfl
@[simp] theorem State.modEng_chg (s : State) (e : Fin 24) (f : EngSt → EngSt) : (s.modEng e f).chg = s.chg := rfl
@[simp] theorem State.modEng_path (s : State) (e : Fin 24) (f : EngSt → EngSt) : (s.modEng e f).path = s.path := rfl
@[simp] theorem State.modEng_thermal (s : State) (e : Fin 24) (f : EngSt → EngSt) : (s.modEng e f).thermal = s.thermal := rfl
@[simp] theorem State.modEng_pyr (s : State) (e : Fin 24) (f : EngSt → EngSt) : (s.modEng e f).pyr = s.pyr := rfl
@[simp] theorem State.modEng_safety (s : State) (e : Fin 24) (f : EngSt → EngSt) : (s.modEng e f).safety = s.safety := rfl
@[simp] theorem State.modEng_conns (s : State) (e : Fin 24) (f : EngSt → EngSt) : (s.modEng e f).conns = s.conns := rfl
@[simp] theorem State.modEng_crcs (s : State) (e : Fin 24) (f : EngSt → EngSt) : (s.modEng e f).crcs = s.crcs := rfl
@[simp] theorem State.modEng_chans (s : State) (e : Fin 24) (f : EngSt → EngSt) : (s.modEng e f).chans = s.chans := rfl
@[simp] theorem State.modEng_time (s : State) (e : Fin 24) (f : EngSt → EngSt) : (s.modEng e f).time = s.time := rfl
@[simp] theorem State.modEng_canA (s : State) (e : Fin 24) (f : EngSt → EngSt) : (s.modEng e f).canA = s.canA := rfl
@[simp] theorem State.modEng_sessions (s : State) (e : Fin 24) (f : EngSt → EngSt) : (s.modEng e f).sessions = s.sessions := rfl
@[simp] theorem State.modEng_img (s : State) (e : Fin 24) (f : EngSt → EngSt) : (s.modEng e f).img = s.img := rfl
@[simp] theorem State.modEng_cap (s : State) (e : Fin 24) (f : EngSt → EngSt) : (s.modEng e f).cap = s.cap := rfl
@[simp] theorem State.modEng_pending (s : State) (e : Fin 24) (f : EngSt → EngSt) : (s.modEng e f).pending = s.pending := rfl

/-! `State.modTask` -/

@[simp] theorem State.modTask_od (s : State) (k : Fin 59) (f : TaskSt → TaskSt) : (s.modTask k f).od = s.od := rfl
@[simp] theorem State.modTask_tb (s : State) (k : Fin 59) (f : TaskSt → TaskSt) : (s.modTask k f).tb = s.tb := rfl
@[simp] theorem State.modTask_fresh (s : State) (k : Fin 59) (f : TaskSt → TaskSt) : (s.modTask k f).fresh = s.fresh := rfl
@[simp] theorem State.modTask_out (s : State) (k : Fin 59) (f : TaskSt → TaskSt) : (s.modTask k f).out = s.out := rfl
@[simp] theorem State.modTask_log (s : State) (k : Fin 59) (f : TaskSt → TaskSt) : (s.modTask k f).log = s.log := rfl
@[simp] theorem State.modTask_bringup (s : State) (k : Fin 59) (f : TaskSt → TaskSt) : (s.modTask k f).bringup = s.bringup := rfl
@[simp] theorem State.modTask_clocks (s : State) (k : Fin 59) (f : TaskSt → TaskSt) : (s.modTask k f).clocks = s.clocks := rfl
@[simp] theorem State.modTask_links (s : State) (k : Fin 59) (f : TaskSt → TaskSt) : (s.modTask k f).links = s.links := rfl
@[simp] theorem State.modTask_drives (s : State) (k : Fin 59) (f : TaskSt → TaskSt) : (s.modTask k f).drives = s.drives := rfl
@[simp] theorem State.modTask_cells (s : State) (k : Fin 59) (f : TaskSt → TaskSt) : (s.modTask k f).cells = s.cells := rfl
@[simp] theorem State.modTask_legs (s : State) (k : Fin 59) (f : TaskSt → TaskSt) : (s.modTask k f).legs = s.legs := rfl
@[simp] theorem State.modTask_store (s : State) (k : Fin 59) (f : TaskSt → TaskSt) : (s.modTask k f).store = s.store := rfl
@[simp] theorem State.modTask_cust (s : State) (k : Fin 59) (f : TaskSt → TaskSt) : (s.modTask k f).cust = s.cust := rfl
@[simp] theorem State.modTask_shunts (s : State) (k : Fin 59) (f : TaskSt → TaskSt) : (s.modTask k f).shunts = s.shunts := rfl
@[simp] theorem State.modTask_seqs (s : State) (k : Fin 59) (f : TaskSt → TaskSt) : (s.modTask k f).seqs = s.seqs := rfl
@[simp] theorem State.modTask_gcps (s : State) (k : Fin 59) (f : TaskSt → TaskSt) : (s.modTask k f).gcps = s.gcps := rfl
@[simp] theorem State.modTask_axes (s : State) (k : Fin 59) (f : TaskSt → TaskSt) : (s.modTask k f).axes = s.axes := rfl
@[simp] theorem State.modTask_traction (s : State) (k : Fin 59) (f : TaskSt → TaskSt) : (s.modTask k f).traction = s.traction := rfl
@[simp] theorem State.modTask_pifs (s : State) (k : Fin 59) (f : TaskSt → TaskSt) : (s.modTask k f).pifs = s.pifs := rfl
@[simp] theorem State.modTask_lus (s : State) (k : Fin 59) (f : TaskSt → TaskSt) : (s.modTask k f).lus = s.lus := rfl
@[simp] theorem State.modTask_stageIn (s : State) (k : Fin 59) (f : TaskSt → TaskSt) : (s.modTask k f).stageIn = s.stageIn := rfl
@[simp] theorem State.modTask_lvCommand (s : State) (k : Fin 59) (f : TaskSt → TaskSt) : (s.modTask k f).lvCommand = s.lvCommand := rfl
@[simp] theorem State.modTask_engines (s : State) (k : Fin 59) (f : TaskSt → TaskSt) : (s.modTask k f).engines = s.engines := rfl
@[simp] theorem State.modTask_pool (s : State) (k : Fin 59) (f : TaskSt → TaskSt) : (s.modTask k f).pool = s.pool := rfl
@[simp] theorem State.modTask_gbx (s : State) (k : Fin 59) (f : TaskSt → TaskSt) : (s.modTask k f).gbx = s.gbx := rfl
@[simp] theorem State.modTask_dcl (s : State) (k : Fin 59) (f : TaskSt → TaskSt) : (s.modTask k f).dcl = s.dcl := rfl
@[simp] theorem State.modTask_aux (s : State) (k : Fin 59) (f : TaskSt → TaskSt) : (s.modTask k f).aux = s.aux := rfl
@[simp] theorem State.modTask_chg (s : State) (k : Fin 59) (f : TaskSt → TaskSt) : (s.modTask k f).chg = s.chg := rfl
@[simp] theorem State.modTask_path (s : State) (k : Fin 59) (f : TaskSt → TaskSt) : (s.modTask k f).path = s.path := rfl
@[simp] theorem State.modTask_thermal (s : State) (k : Fin 59) (f : TaskSt → TaskSt) : (s.modTask k f).thermal = s.thermal := rfl
@[simp] theorem State.modTask_pyr (s : State) (k : Fin 59) (f : TaskSt → TaskSt) : (s.modTask k f).pyr = s.pyr := rfl
@[simp] theorem State.modTask_safety (s : State) (k : Fin 59) (f : TaskSt → TaskSt) : (s.modTask k f).safety = s.safety := rfl
@[simp] theorem State.modTask_conns (s : State) (k : Fin 59) (f : TaskSt → TaskSt) : (s.modTask k f).conns = s.conns := rfl
@[simp] theorem State.modTask_crcs (s : State) (k : Fin 59) (f : TaskSt → TaskSt) : (s.modTask k f).crcs = s.crcs := rfl
@[simp] theorem State.modTask_chans (s : State) (k : Fin 59) (f : TaskSt → TaskSt) : (s.modTask k f).chans = s.chans := rfl
@[simp] theorem State.modTask_time (s : State) (k : Fin 59) (f : TaskSt → TaskSt) : (s.modTask k f).time = s.time := rfl
@[simp] theorem State.modTask_canA (s : State) (k : Fin 59) (f : TaskSt → TaskSt) : (s.modTask k f).canA = s.canA := rfl
@[simp] theorem State.modTask_sessions (s : State) (k : Fin 59) (f : TaskSt → TaskSt) : (s.modTask k f).sessions = s.sessions := rfl
@[simp] theorem State.modTask_img (s : State) (k : Fin 59) (f : TaskSt → TaskSt) : (s.modTask k f).img = s.img := rfl
@[simp] theorem State.modTask_cap (s : State) (k : Fin 59) (f : TaskSt → TaskSt) : (s.modTask k f).cap = s.cap := rfl
@[simp] theorem State.modTask_pending (s : State) (k : Fin 59) (f : TaskSt → TaskSt) : (s.modTask k f).pending = s.pending := rfl

/-! `State.modPool` -/

@[simp] theorem State.modPool_od (s : State) (f : PoolSt → PoolSt) : (s.modPool f).od = s.od := rfl
@[simp] theorem State.modPool_tb (s : State) (f : PoolSt → PoolSt) : (s.modPool f).tb = s.tb := rfl
@[simp] theorem State.modPool_fresh (s : State) (f : PoolSt → PoolSt) : (s.modPool f).fresh = s.fresh := rfl
@[simp] theorem State.modPool_out (s : State) (f : PoolSt → PoolSt) : (s.modPool f).out = s.out := rfl
@[simp] theorem State.modPool_log (s : State) (f : PoolSt → PoolSt) : (s.modPool f).log = s.log := rfl
@[simp] theorem State.modPool_bringup (s : State) (f : PoolSt → PoolSt) : (s.modPool f).bringup = s.bringup := rfl
@[simp] theorem State.modPool_clocks (s : State) (f : PoolSt → PoolSt) : (s.modPool f).clocks = s.clocks := rfl
@[simp] theorem State.modPool_links (s : State) (f : PoolSt → PoolSt) : (s.modPool f).links = s.links := rfl
@[simp] theorem State.modPool_drives (s : State) (f : PoolSt → PoolSt) : (s.modPool f).drives = s.drives := rfl
@[simp] theorem State.modPool_cells (s : State) (f : PoolSt → PoolSt) : (s.modPool f).cells = s.cells := rfl
@[simp] theorem State.modPool_legs (s : State) (f : PoolSt → PoolSt) : (s.modPool f).legs = s.legs := rfl
@[simp] theorem State.modPool_store (s : State) (f : PoolSt → PoolSt) : (s.modPool f).store = s.store := rfl
@[simp] theorem State.modPool_cust (s : State) (f : PoolSt → PoolSt) : (s.modPool f).cust = s.cust := rfl
@[simp] theorem State.modPool_shunts (s : State) (f : PoolSt → PoolSt) : (s.modPool f).shunts = s.shunts := rfl
@[simp] theorem State.modPool_seqs (s : State) (f : PoolSt → PoolSt) : (s.modPool f).seqs = s.seqs := rfl
@[simp] theorem State.modPool_gcps (s : State) (f : PoolSt → PoolSt) : (s.modPool f).gcps = s.gcps := rfl
@[simp] theorem State.modPool_axes (s : State) (f : PoolSt → PoolSt) : (s.modPool f).axes = s.axes := rfl
@[simp] theorem State.modPool_traction (s : State) (f : PoolSt → PoolSt) : (s.modPool f).traction = s.traction := rfl
@[simp] theorem State.modPool_pifs (s : State) (f : PoolSt → PoolSt) : (s.modPool f).pifs = s.pifs := rfl
@[simp] theorem State.modPool_lus (s : State) (f : PoolSt → PoolSt) : (s.modPool f).lus = s.lus := rfl
@[simp] theorem State.modPool_stageIn (s : State) (f : PoolSt → PoolSt) : (s.modPool f).stageIn = s.stageIn := rfl
@[simp] theorem State.modPool_lvCommand (s : State) (f : PoolSt → PoolSt) : (s.modPool f).lvCommand = s.lvCommand := rfl
@[simp] theorem State.modPool_engines (s : State) (f : PoolSt → PoolSt) : (s.modPool f).engines = s.engines := rfl
@[simp] theorem State.modPool_tasks (s : State) (f : PoolSt → PoolSt) : (s.modPool f).tasks = s.tasks := rfl
@[simp] theorem State.modPool_gbx (s : State) (f : PoolSt → PoolSt) : (s.modPool f).gbx = s.gbx := rfl
@[simp] theorem State.modPool_dcl (s : State) (f : PoolSt → PoolSt) : (s.modPool f).dcl = s.dcl := rfl
@[simp] theorem State.modPool_aux (s : State) (f : PoolSt → PoolSt) : (s.modPool f).aux = s.aux := rfl
@[simp] theorem State.modPool_chg (s : State) (f : PoolSt → PoolSt) : (s.modPool f).chg = s.chg := rfl
@[simp] theorem State.modPool_path (s : State) (f : PoolSt → PoolSt) : (s.modPool f).path = s.path := rfl
@[simp] theorem State.modPool_thermal (s : State) (f : PoolSt → PoolSt) : (s.modPool f).thermal = s.thermal := rfl
@[simp] theorem State.modPool_pyr (s : State) (f : PoolSt → PoolSt) : (s.modPool f).pyr = s.pyr := rfl
@[simp] theorem State.modPool_safety (s : State) (f : PoolSt → PoolSt) : (s.modPool f).safety = s.safety := rfl
@[simp] theorem State.modPool_conns (s : State) (f : PoolSt → PoolSt) : (s.modPool f).conns = s.conns := rfl
@[simp] theorem State.modPool_crcs (s : State) (f : PoolSt → PoolSt) : (s.modPool f).crcs = s.crcs := rfl
@[simp] theorem State.modPool_chans (s : State) (f : PoolSt → PoolSt) : (s.modPool f).chans = s.chans := rfl
@[simp] theorem State.modPool_time (s : State) (f : PoolSt → PoolSt) : (s.modPool f).time = s.time := rfl
@[simp] theorem State.modPool_canA (s : State) (f : PoolSt → PoolSt) : (s.modPool f).canA = s.canA := rfl
@[simp] theorem State.modPool_sessions (s : State) (f : PoolSt → PoolSt) : (s.modPool f).sessions = s.sessions := rfl
@[simp] theorem State.modPool_img (s : State) (f : PoolSt → PoolSt) : (s.modPool f).img = s.img := rfl
@[simp] theorem State.modPool_cap (s : State) (f : PoolSt → PoolSt) : (s.modPool f).cap = s.cap := rfl
@[simp] theorem State.modPool_pending (s : State) (f : PoolSt → PoolSt) : (s.modPool f).pending = s.pending := rfl

/-! `State.modSide` -/

@[simp] theorem State.modSide_od (s : State) (t : Fin 2) (f : SideSt → SideSt) : (s.modSide t f).od = s.od := rfl
@[simp] theorem State.modSide_tb (s : State) (t : Fin 2) (f : SideSt → SideSt) : (s.modSide t f).tb = s.tb := rfl
@[simp] theorem State.modSide_fresh (s : State) (t : Fin 2) (f : SideSt → SideSt) : (s.modSide t f).fresh = s.fresh := rfl
@[simp] theorem State.modSide_out (s : State) (t : Fin 2) (f : SideSt → SideSt) : (s.modSide t f).out = s.out := rfl
@[simp] theorem State.modSide_log (s : State) (t : Fin 2) (f : SideSt → SideSt) : (s.modSide t f).log = s.log := rfl
@[simp] theorem State.modSide_bringup (s : State) (t : Fin 2) (f : SideSt → SideSt) : (s.modSide t f).bringup = s.bringup := rfl
@[simp] theorem State.modSide_clocks (s : State) (t : Fin 2) (f : SideSt → SideSt) : (s.modSide t f).clocks = s.clocks := rfl
@[simp] theorem State.modSide_links (s : State) (t : Fin 2) (f : SideSt → SideSt) : (s.modSide t f).links = s.links := rfl
@[simp] theorem State.modSide_drives (s : State) (t : Fin 2) (f : SideSt → SideSt) : (s.modSide t f).drives = s.drives := rfl
@[simp] theorem State.modSide_cells (s : State) (t : Fin 2) (f : SideSt → SideSt) : (s.modSide t f).cells = s.cells := rfl
@[simp] theorem State.modSide_legs (s : State) (t : Fin 2) (f : SideSt → SideSt) : (s.modSide t f).legs = s.legs := rfl
@[simp] theorem State.modSide_store (s : State) (t : Fin 2) (f : SideSt → SideSt) : (s.modSide t f).store = s.store := rfl
@[simp] theorem State.modSide_cust (s : State) (t : Fin 2) (f : SideSt → SideSt) : (s.modSide t f).cust = s.cust := rfl
@[simp] theorem State.modSide_shunts (s : State) (t : Fin 2) (f : SideSt → SideSt) : (s.modSide t f).shunts = s.shunts := rfl
@[simp] theorem State.modSide_seqs (s : State) (t : Fin 2) (f : SideSt → SideSt) : (s.modSide t f).seqs = s.seqs := rfl
@[simp] theorem State.modSide_gcps (s : State) (t : Fin 2) (f : SideSt → SideSt) : (s.modSide t f).gcps = s.gcps := rfl
@[simp] theorem State.modSide_axes (s : State) (t : Fin 2) (f : SideSt → SideSt) : (s.modSide t f).axes = s.axes := rfl
@[simp] theorem State.modSide_traction (s : State) (t : Fin 2) (f : SideSt → SideSt) : (s.modSide t f).traction = s.traction := rfl
@[simp] theorem State.modSide_pifs (s : State) (t : Fin 2) (f : SideSt → SideSt) : (s.modSide t f).pifs = s.pifs := rfl
@[simp] theorem State.modSide_lus (s : State) (t : Fin 2) (f : SideSt → SideSt) : (s.modSide t f).lus = s.lus := rfl
@[simp] theorem State.modSide_stageIn (s : State) (t : Fin 2) (f : SideSt → SideSt) : (s.modSide t f).stageIn = s.stageIn := rfl
@[simp] theorem State.modSide_lvCommand (s : State) (t : Fin 2) (f : SideSt → SideSt) : (s.modSide t f).lvCommand = s.lvCommand := rfl
@[simp] theorem State.modSide_engines (s : State) (t : Fin 2) (f : SideSt → SideSt) : (s.modSide t f).engines = s.engines := rfl
@[simp] theorem State.modSide_tasks (s : State) (t : Fin 2) (f : SideSt → SideSt) : (s.modSide t f).tasks = s.tasks := rfl
@[simp] theorem State.modSide_pool (s : State) (t : Fin 2) (f : SideSt → SideSt) : (s.modSide t f).pool = s.pool := rfl
@[simp] theorem State.modSide_dcl (s : State) (t : Fin 2) (f : SideSt → SideSt) : (s.modSide t f).dcl = s.dcl := rfl
@[simp] theorem State.modSide_aux (s : State) (t : Fin 2) (f : SideSt → SideSt) : (s.modSide t f).aux = s.aux := rfl
@[simp] theorem State.modSide_chg (s : State) (t : Fin 2) (f : SideSt → SideSt) : (s.modSide t f).chg = s.chg := rfl
@[simp] theorem State.modSide_path (s : State) (t : Fin 2) (f : SideSt → SideSt) : (s.modSide t f).path = s.path := rfl
@[simp] theorem State.modSide_thermal (s : State) (t : Fin 2) (f : SideSt → SideSt) : (s.modSide t f).thermal = s.thermal := rfl
@[simp] theorem State.modSide_pyr (s : State) (t : Fin 2) (f : SideSt → SideSt) : (s.modSide t f).pyr = s.pyr := rfl
@[simp] theorem State.modSide_safety (s : State) (t : Fin 2) (f : SideSt → SideSt) : (s.modSide t f).safety = s.safety := rfl
@[simp] theorem State.modSide_conns (s : State) (t : Fin 2) (f : SideSt → SideSt) : (s.modSide t f).conns = s.conns := rfl
@[simp] theorem State.modSide_crcs (s : State) (t : Fin 2) (f : SideSt → SideSt) : (s.modSide t f).crcs = s.crcs := rfl
@[simp] theorem State.modSide_chans (s : State) (t : Fin 2) (f : SideSt → SideSt) : (s.modSide t f).chans = s.chans := rfl
@[simp] theorem State.modSide_time (s : State) (t : Fin 2) (f : SideSt → SideSt) : (s.modSide t f).time = s.time := rfl
@[simp] theorem State.modSide_canA (s : State) (t : Fin 2) (f : SideSt → SideSt) : (s.modSide t f).canA = s.canA := rfl
@[simp] theorem State.modSide_sessions (s : State) (t : Fin 2) (f : SideSt → SideSt) : (s.modSide t f).sessions = s.sessions := rfl
@[simp] theorem State.modSide_img (s : State) (t : Fin 2) (f : SideSt → SideSt) : (s.modSide t f).img = s.img := rfl
@[simp] theorem State.modSide_cap (s : State) (t : Fin 2) (f : SideSt → SideSt) : (s.modSide t f).cap = s.cap := rfl
@[simp] theorem State.modSide_pending (s : State) (t : Fin 2) (f : SideSt → SideSt) : (s.modSide t f).pending = s.pending := rfl

/-! `State.modPif` -/

@[simp] theorem State.modPif_od (s : State) (p : Fin 12) (f : PifSt → PifSt) : (s.modPif p f).od = s.od := rfl
@[simp] theorem State.modPif_tb (s : State) (p : Fin 12) (f : PifSt → PifSt) : (s.modPif p f).tb = s.tb := rfl
@[simp] theorem State.modPif_fresh (s : State) (p : Fin 12) (f : PifSt → PifSt) : (s.modPif p f).fresh = s.fresh := rfl
@[simp] theorem State.modPif_out (s : State) (p : Fin 12) (f : PifSt → PifSt) : (s.modPif p f).out = s.out := rfl
@[simp] theorem State.modPif_log (s : State) (p : Fin 12) (f : PifSt → PifSt) : (s.modPif p f).log = s.log := rfl
@[simp] theorem State.modPif_bringup (s : State) (p : Fin 12) (f : PifSt → PifSt) : (s.modPif p f).bringup = s.bringup := rfl
@[simp] theorem State.modPif_clocks (s : State) (p : Fin 12) (f : PifSt → PifSt) : (s.modPif p f).clocks = s.clocks := rfl
@[simp] theorem State.modPif_links (s : State) (p : Fin 12) (f : PifSt → PifSt) : (s.modPif p f).links = s.links := rfl
@[simp] theorem State.modPif_drives (s : State) (p : Fin 12) (f : PifSt → PifSt) : (s.modPif p f).drives = s.drives := rfl
@[simp] theorem State.modPif_cells (s : State) (p : Fin 12) (f : PifSt → PifSt) : (s.modPif p f).cells = s.cells := rfl
@[simp] theorem State.modPif_legs (s : State) (p : Fin 12) (f : PifSt → PifSt) : (s.modPif p f).legs = s.legs := rfl
@[simp] theorem State.modPif_store (s : State) (p : Fin 12) (f : PifSt → PifSt) : (s.modPif p f).store = s.store := rfl
@[simp] theorem State.modPif_cust (s : State) (p : Fin 12) (f : PifSt → PifSt) : (s.modPif p f).cust = s.cust := rfl
@[simp] theorem State.modPif_shunts (s : State) (p : Fin 12) (f : PifSt → PifSt) : (s.modPif p f).shunts = s.shunts := rfl
@[simp] theorem State.modPif_seqs (s : State) (p : Fin 12) (f : PifSt → PifSt) : (s.modPif p f).seqs = s.seqs := rfl
@[simp] theorem State.modPif_gcps (s : State) (p : Fin 12) (f : PifSt → PifSt) : (s.modPif p f).gcps = s.gcps := rfl
@[simp] theorem State.modPif_axes (s : State) (p : Fin 12) (f : PifSt → PifSt) : (s.modPif p f).axes = s.axes := rfl
@[simp] theorem State.modPif_traction (s : State) (p : Fin 12) (f : PifSt → PifSt) : (s.modPif p f).traction = s.traction := rfl
@[simp] theorem State.modPif_lus (s : State) (p : Fin 12) (f : PifSt → PifSt) : (s.modPif p f).lus = s.lus := rfl
@[simp] theorem State.modPif_stageIn (s : State) (p : Fin 12) (f : PifSt → PifSt) : (s.modPif p f).stageIn = s.stageIn := rfl
@[simp] theorem State.modPif_lvCommand (s : State) (p : Fin 12) (f : PifSt → PifSt) : (s.modPif p f).lvCommand = s.lvCommand := rfl
@[simp] theorem State.modPif_engines (s : State) (p : Fin 12) (f : PifSt → PifSt) : (s.modPif p f).engines = s.engines := rfl
@[simp] theorem State.modPif_tasks (s : State) (p : Fin 12) (f : PifSt → PifSt) : (s.modPif p f).tasks = s.tasks := rfl
@[simp] theorem State.modPif_pool (s : State) (p : Fin 12) (f : PifSt → PifSt) : (s.modPif p f).pool = s.pool := rfl
@[simp] theorem State.modPif_gbx (s : State) (p : Fin 12) (f : PifSt → PifSt) : (s.modPif p f).gbx = s.gbx := rfl
@[simp] theorem State.modPif_dcl (s : State) (p : Fin 12) (f : PifSt → PifSt) : (s.modPif p f).dcl = s.dcl := rfl
@[simp] theorem State.modPif_aux (s : State) (p : Fin 12) (f : PifSt → PifSt) : (s.modPif p f).aux = s.aux := rfl
@[simp] theorem State.modPif_chg (s : State) (p : Fin 12) (f : PifSt → PifSt) : (s.modPif p f).chg = s.chg := rfl
@[simp] theorem State.modPif_path (s : State) (p : Fin 12) (f : PifSt → PifSt) : (s.modPif p f).path = s.path := rfl
@[simp] theorem State.modPif_thermal (s : State) (p : Fin 12) (f : PifSt → PifSt) : (s.modPif p f).thermal = s.thermal := rfl
@[simp] theorem State.modPif_pyr (s : State) (p : Fin 12) (f : PifSt → PifSt) : (s.modPif p f).pyr = s.pyr := rfl
@[simp] theorem State.modPif_safety (s : State) (p : Fin 12) (f : PifSt → PifSt) : (s.modPif p f).safety = s.safety := rfl
@[simp] theorem State.modPif_conns (s : State) (p : Fin 12) (f : PifSt → PifSt) : (s.modPif p f).conns = s.conns := rfl
@[simp] theorem State.modPif_crcs (s : State) (p : Fin 12) (f : PifSt → PifSt) : (s.modPif p f).crcs = s.crcs := rfl
@[simp] theorem State.modPif_chans (s : State) (p : Fin 12) (f : PifSt → PifSt) : (s.modPif p f).chans = s.chans := rfl
@[simp] theorem State.modPif_time (s : State) (p : Fin 12) (f : PifSt → PifSt) : (s.modPif p f).time = s.time := rfl
@[simp] theorem State.modPif_canA (s : State) (p : Fin 12) (f : PifSt → PifSt) : (s.modPif p f).canA = s.canA := rfl
@[simp] theorem State.modPif_sessions (s : State) (p : Fin 12) (f : PifSt → PifSt) : (s.modPif p f).sessions = s.sessions := rfl
@[simp] theorem State.modPif_img (s : State) (p : Fin 12) (f : PifSt → PifSt) : (s.modPif p f).img = s.img := rfl
@[simp] theorem State.modPif_cap (s : State) (p : Fin 12) (f : PifSt → PifSt) : (s.modPif p f).cap = s.cap := rfl
@[simp] theorem State.modPif_pending (s : State) (p : Fin 12) (f : PifSt → PifSt) : (s.modPif p f).pending = s.pending := rfl

/-! `State.modLu` -/

@[simp] theorem State.modLu_od (s : State) (n : Fin 24) (f : LuSt → LuSt) : (s.modLu n f).od = s.od := rfl
@[simp] theorem State.modLu_tb (s : State) (n : Fin 24) (f : LuSt → LuSt) : (s.modLu n f).tb = s.tb := rfl
@[simp] theorem State.modLu_fresh (s : State) (n : Fin 24) (f : LuSt → LuSt) : (s.modLu n f).fresh = s.fresh := rfl
@[simp] theorem State.modLu_out (s : State) (n : Fin 24) (f : LuSt → LuSt) : (s.modLu n f).out = s.out := rfl
@[simp] theorem State.modLu_log (s : State) (n : Fin 24) (f : LuSt → LuSt) : (s.modLu n f).log = s.log := rfl
@[simp] theorem State.modLu_bringup (s : State) (n : Fin 24) (f : LuSt → LuSt) : (s.modLu n f).bringup = s.bringup := rfl
@[simp] theorem State.modLu_clocks (s : State) (n : Fin 24) (f : LuSt → LuSt) : (s.modLu n f).clocks = s.clocks := rfl
@[simp] theorem State.modLu_links (s : State) (n : Fin 24) (f : LuSt → LuSt) : (s.modLu n f).links = s.links := rfl
@[simp] theorem State.modLu_drives (s : State) (n : Fin 24) (f : LuSt → LuSt) : (s.modLu n f).drives = s.drives := rfl
@[simp] theorem State.modLu_cells (s : State) (n : Fin 24) (f : LuSt → LuSt) : (s.modLu n f).cells = s.cells := rfl
@[simp] theorem State.modLu_legs (s : State) (n : Fin 24) (f : LuSt → LuSt) : (s.modLu n f).legs = s.legs := rfl
@[simp] theorem State.modLu_store (s : State) (n : Fin 24) (f : LuSt → LuSt) : (s.modLu n f).store = s.store := rfl
@[simp] theorem State.modLu_cust (s : State) (n : Fin 24) (f : LuSt → LuSt) : (s.modLu n f).cust = s.cust := rfl
@[simp] theorem State.modLu_shunts (s : State) (n : Fin 24) (f : LuSt → LuSt) : (s.modLu n f).shunts = s.shunts := rfl
@[simp] theorem State.modLu_seqs (s : State) (n : Fin 24) (f : LuSt → LuSt) : (s.modLu n f).seqs = s.seqs := rfl
@[simp] theorem State.modLu_gcps (s : State) (n : Fin 24) (f : LuSt → LuSt) : (s.modLu n f).gcps = s.gcps := rfl
@[simp] theorem State.modLu_axes (s : State) (n : Fin 24) (f : LuSt → LuSt) : (s.modLu n f).axes = s.axes := rfl
@[simp] theorem State.modLu_traction (s : State) (n : Fin 24) (f : LuSt → LuSt) : (s.modLu n f).traction = s.traction := rfl
@[simp] theorem State.modLu_pifs (s : State) (n : Fin 24) (f : LuSt → LuSt) : (s.modLu n f).pifs = s.pifs := rfl
@[simp] theorem State.modLu_stageIn (s : State) (n : Fin 24) (f : LuSt → LuSt) : (s.modLu n f).stageIn = s.stageIn := rfl
@[simp] theorem State.modLu_lvCommand (s : State) (n : Fin 24) (f : LuSt → LuSt) : (s.modLu n f).lvCommand = s.lvCommand := rfl
@[simp] theorem State.modLu_engines (s : State) (n : Fin 24) (f : LuSt → LuSt) : (s.modLu n f).engines = s.engines := rfl
@[simp] theorem State.modLu_tasks (s : State) (n : Fin 24) (f : LuSt → LuSt) : (s.modLu n f).tasks = s.tasks := rfl
@[simp] theorem State.modLu_pool (s : State) (n : Fin 24) (f : LuSt → LuSt) : (s.modLu n f).pool = s.pool := rfl
@[simp] theorem State.modLu_gbx (s : State) (n : Fin 24) (f : LuSt → LuSt) : (s.modLu n f).gbx = s.gbx := rfl
@[simp] theorem State.modLu_dcl (s : State) (n : Fin 24) (f : LuSt → LuSt) : (s.modLu n f).dcl = s.dcl := rfl
@[simp] theorem State.modLu_aux (s : State) (n : Fin 24) (f : LuSt → LuSt) : (s.modLu n f).aux = s.aux := rfl
@[simp] theorem State.modLu_chg (s : State) (n : Fin 24) (f : LuSt → LuSt) : (s.modLu n f).chg = s.chg := rfl
@[simp] theorem State.modLu_path (s : State) (n : Fin 24) (f : LuSt → LuSt) : (s.modLu n f).path = s.path := rfl
@[simp] theorem State.modLu_thermal (s : State) (n : Fin 24) (f : LuSt → LuSt) : (s.modLu n f).thermal = s.thermal := rfl
@[simp] theorem State.modLu_pyr (s : State) (n : Fin 24) (f : LuSt → LuSt) : (s.modLu n f).pyr = s.pyr := rfl
@[simp] theorem State.modLu_safety (s : State) (n : Fin 24) (f : LuSt → LuSt) : (s.modLu n f).safety = s.safety := rfl
@[simp] theorem State.modLu_conns (s : State) (n : Fin 24) (f : LuSt → LuSt) : (s.modLu n f).conns = s.conns := rfl
@[simp] theorem State.modLu_crcs (s : State) (n : Fin 24) (f : LuSt → LuSt) : (s.modLu n f).crcs = s.crcs := rfl
@[simp] theorem State.modLu_chans (s : State) (n : Fin 24) (f : LuSt → LuSt) : (s.modLu n f).chans = s.chans := rfl
@[simp] theorem State.modLu_time (s : State) (n : Fin 24) (f : LuSt → LuSt) : (s.modLu n f).time = s.time := rfl
@[simp] theorem State.modLu_canA (s : State) (n : Fin 24) (f : LuSt → LuSt) : (s.modLu n f).canA = s.canA := rfl
@[simp] theorem State.modLu_sessions (s : State) (n : Fin 24) (f : LuSt → LuSt) : (s.modLu n f).sessions = s.sessions := rfl
@[simp] theorem State.modLu_img (s : State) (n : Fin 24) (f : LuSt → LuSt) : (s.modLu n f).img = s.img := rfl
@[simp] theorem State.modLu_cap (s : State) (n : Fin 24) (f : LuSt → LuSt) : (s.modLu n f).cap = s.cap := rfl
@[simp] theorem State.modLu_pending (s : State) (n : Fin 24) (f : LuSt → LuSt) : (s.modLu n f).pending = s.pending := rfl

/-! `State.modAx` -/

@[simp] theorem State.modAx_od (s : State) (n : Axis) (f : AxisSt → AxisSt) : (s.modAx n f).od = s.od := rfl
@[simp] theorem State.modAx_tb (s : State) (n : Axis) (f : AxisSt → AxisSt) : (s.modAx n f).tb = s.tb := rfl
@[simp] theorem State.modAx_fresh (s : State) (n : Axis) (f : AxisSt → AxisSt) : (s.modAx n f).fresh = s.fresh := rfl
@[simp] theorem State.modAx_out (s : State) (n : Axis) (f : AxisSt → AxisSt) : (s.modAx n f).out = s.out := rfl
@[simp] theorem State.modAx_log (s : State) (n : Axis) (f : AxisSt → AxisSt) : (s.modAx n f).log = s.log := rfl
@[simp] theorem State.modAx_bringup (s : State) (n : Axis) (f : AxisSt → AxisSt) : (s.modAx n f).bringup = s.bringup := rfl
@[simp] theorem State.modAx_clocks (s : State) (n : Axis) (f : AxisSt → AxisSt) : (s.modAx n f).clocks = s.clocks := rfl
@[simp] theorem State.modAx_links (s : State) (n : Axis) (f : AxisSt → AxisSt) : (s.modAx n f).links = s.links := rfl
@[simp] theorem State.modAx_drives (s : State) (n : Axis) (f : AxisSt → AxisSt) : (s.modAx n f).drives = s.drives := rfl
@[simp] theorem State.modAx_cells (s : State) (n : Axis) (f : AxisSt → AxisSt) : (s.modAx n f).cells = s.cells := rfl
@[simp] theorem State.modAx_legs (s : State) (n : Axis) (f : AxisSt → AxisSt) : (s.modAx n f).legs = s.legs := rfl
@[simp] theorem State.modAx_store (s : State) (n : Axis) (f : AxisSt → AxisSt) : (s.modAx n f).store = s.store := rfl
@[simp] theorem State.modAx_cust (s : State) (n : Axis) (f : AxisSt → AxisSt) : (s.modAx n f).cust = s.cust := rfl
@[simp] theorem State.modAx_shunts (s : State) (n : Axis) (f : AxisSt → AxisSt) : (s.modAx n f).shunts = s.shunts := rfl
@[simp] theorem State.modAx_seqs (s : State) (n : Axis) (f : AxisSt → AxisSt) : (s.modAx n f).seqs = s.seqs := rfl
@[simp] theorem State.modAx_gcps (s : State) (n : Axis) (f : AxisSt → AxisSt) : (s.modAx n f).gcps = s.gcps := rfl
@[simp] theorem State.modAx_traction (s : State) (n : Axis) (f : AxisSt → AxisSt) : (s.modAx n f).traction = s.traction := rfl
@[simp] theorem State.modAx_pifs (s : State) (n : Axis) (f : AxisSt → AxisSt) : (s.modAx n f).pifs = s.pifs := rfl
@[simp] theorem State.modAx_lus (s : State) (n : Axis) (f : AxisSt → AxisSt) : (s.modAx n f).lus = s.lus := rfl
@[simp] theorem State.modAx_stageIn (s : State) (n : Axis) (f : AxisSt → AxisSt) : (s.modAx n f).stageIn = s.stageIn := rfl
@[simp] theorem State.modAx_lvCommand (s : State) (n : Axis) (f : AxisSt → AxisSt) : (s.modAx n f).lvCommand = s.lvCommand := rfl
@[simp] theorem State.modAx_engines (s : State) (n : Axis) (f : AxisSt → AxisSt) : (s.modAx n f).engines = s.engines := rfl
@[simp] theorem State.modAx_tasks (s : State) (n : Axis) (f : AxisSt → AxisSt) : (s.modAx n f).tasks = s.tasks := rfl
@[simp] theorem State.modAx_pool (s : State) (n : Axis) (f : AxisSt → AxisSt) : (s.modAx n f).pool = s.pool := rfl
@[simp] theorem State.modAx_gbx (s : State) (n : Axis) (f : AxisSt → AxisSt) : (s.modAx n f).gbx = s.gbx := rfl
@[simp] theorem State.modAx_dcl (s : State) (n : Axis) (f : AxisSt → AxisSt) : (s.modAx n f).dcl = s.dcl := rfl
@[simp] theorem State.modAx_aux (s : State) (n : Axis) (f : AxisSt → AxisSt) : (s.modAx n f).aux = s.aux := rfl
@[simp] theorem State.modAx_chg (s : State) (n : Axis) (f : AxisSt → AxisSt) : (s.modAx n f).chg = s.chg := rfl
@[simp] theorem State.modAx_path (s : State) (n : Axis) (f : AxisSt → AxisSt) : (s.modAx n f).path = s.path := rfl
@[simp] theorem State.modAx_thermal (s : State) (n : Axis) (f : AxisSt → AxisSt) : (s.modAx n f).thermal = s.thermal := rfl
@[simp] theorem State.modAx_pyr (s : State) (n : Axis) (f : AxisSt → AxisSt) : (s.modAx n f).pyr = s.pyr := rfl
@[simp] theorem State.modAx_safety (s : State) (n : Axis) (f : AxisSt → AxisSt) : (s.modAx n f).safety = s.safety := rfl
@[simp] theorem State.modAx_conns (s : State) (n : Axis) (f : AxisSt → AxisSt) : (s.modAx n f).conns = s.conns := rfl
@[simp] theorem State.modAx_crcs (s : State) (n : Axis) (f : AxisSt → AxisSt) : (s.modAx n f).crcs = s.crcs := rfl
@[simp] theorem State.modAx_chans (s : State) (n : Axis) (f : AxisSt → AxisSt) : (s.modAx n f).chans = s.chans := rfl
@[simp] theorem State.modAx_time (s : State) (n : Axis) (f : AxisSt → AxisSt) : (s.modAx n f).time = s.time := rfl
@[simp] theorem State.modAx_canA (s : State) (n : Axis) (f : AxisSt → AxisSt) : (s.modAx n f).canA = s.canA := rfl
@[simp] theorem State.modAx_sessions (s : State) (n : Axis) (f : AxisSt → AxisSt) : (s.modAx n f).sessions = s.sessions := rfl
@[simp] theorem State.modAx_img (s : State) (n : Axis) (f : AxisSt → AxisSt) : (s.modAx n f).img = s.img := rfl
@[simp] theorem State.modAx_cap (s : State) (n : Axis) (f : AxisSt → AxisSt) : (s.modAx n f).cap = s.cap := rfl
@[simp] theorem State.modAx_pending (s : State) (n : Axis) (f : AxisSt → AxisSt) : (s.modAx n f).pending = s.pending := rfl

/-! `State.modTr` -/

@[simp] theorem State.modTr_od (s : State) (t : Fin 2) (f : TractionSt → TractionSt) : (s.modTr t f).od = s.od := rfl
@[simp] theorem State.modTr_tb (s : State) (t : Fin 2) (f : TractionSt → TractionSt) : (s.modTr t f).tb = s.tb := rfl
@[simp] theorem State.modTr_fresh (s : State) (t : Fin 2) (f : TractionSt → TractionSt) : (s.modTr t f).fresh = s.fresh := rfl
@[simp] theorem State.modTr_out (s : State) (t : Fin 2) (f : TractionSt → TractionSt) : (s.modTr t f).out = s.out := rfl
@[simp] theorem State.modTr_log (s : State) (t : Fin 2) (f : TractionSt → TractionSt) : (s.modTr t f).log = s.log := rfl
@[simp] theorem State.modTr_bringup (s : State) (t : Fin 2) (f : TractionSt → TractionSt) : (s.modTr t f).bringup = s.bringup := rfl
@[simp] theorem State.modTr_clocks (s : State) (t : Fin 2) (f : TractionSt → TractionSt) : (s.modTr t f).clocks = s.clocks := rfl
@[simp] theorem State.modTr_links (s : State) (t : Fin 2) (f : TractionSt → TractionSt) : (s.modTr t f).links = s.links := rfl
@[simp] theorem State.modTr_drives (s : State) (t : Fin 2) (f : TractionSt → TractionSt) : (s.modTr t f).drives = s.drives := rfl
@[simp] theorem State.modTr_cells (s : State) (t : Fin 2) (f : TractionSt → TractionSt) : (s.modTr t f).cells = s.cells := rfl
@[simp] theorem State.modTr_legs (s : State) (t : Fin 2) (f : TractionSt → TractionSt) : (s.modTr t f).legs = s.legs := rfl
@[simp] theorem State.modTr_store (s : State) (t : Fin 2) (f : TractionSt → TractionSt) : (s.modTr t f).store = s.store := rfl
@[simp] theorem State.modTr_cust (s : State) (t : Fin 2) (f : TractionSt → TractionSt) : (s.modTr t f).cust = s.cust := rfl
@[simp] theorem State.modTr_shunts (s : State) (t : Fin 2) (f : TractionSt → TractionSt) : (s.modTr t f).shunts = s.shunts := rfl
@[simp] theorem State.modTr_seqs (s : State) (t : Fin 2) (f : TractionSt → TractionSt) : (s.modTr t f).seqs = s.seqs := rfl
@[simp] theorem State.modTr_gcps (s : State) (t : Fin 2) (f : TractionSt → TractionSt) : (s.modTr t f).gcps = s.gcps := rfl
@[simp] theorem State.modTr_axes (s : State) (t : Fin 2) (f : TractionSt → TractionSt) : (s.modTr t f).axes = s.axes := rfl
@[simp] theorem State.modTr_pifs (s : State) (t : Fin 2) (f : TractionSt → TractionSt) : (s.modTr t f).pifs = s.pifs := rfl
@[simp] theorem State.modTr_lus (s : State) (t : Fin 2) (f : TractionSt → TractionSt) : (s.modTr t f).lus = s.lus := rfl
@[simp] theorem State.modTr_stageIn (s : State) (t : Fin 2) (f : TractionSt → TractionSt) : (s.modTr t f).stageIn = s.stageIn := rfl
@[simp] theorem State.modTr_lvCommand (s : State) (t : Fin 2) (f : TractionSt → TractionSt) : (s.modTr t f).lvCommand = s.lvCommand := rfl
@[simp] theorem State.modTr_engines (s : State) (t : Fin 2) (f : TractionSt → TractionSt) : (s.modTr t f).engines = s.engines := rfl
@[simp] theorem State.modTr_tasks (s : State) (t : Fin 2) (f : TractionSt → TractionSt) : (s.modTr t f).tasks = s.tasks := rfl
@[simp] theorem State.modTr_pool (s : State) (t : Fin 2) (f : TractionSt → TractionSt) : (s.modTr t f).pool = s.pool := rfl
@[simp] theorem State.modTr_gbx (s : State) (t : Fin 2) (f : TractionSt → TractionSt) : (s.modTr t f).gbx = s.gbx := rfl
@[simp] theorem State.modTr_dcl (s : State) (t : Fin 2) (f : TractionSt → TractionSt) : (s.modTr t f).dcl = s.dcl := rfl
@[simp] theorem State.modTr_aux (s : State) (t : Fin 2) (f : TractionSt → TractionSt) : (s.modTr t f).aux = s.aux := rfl
@[simp] theorem State.modTr_chg (s : State) (t : Fin 2) (f : TractionSt → TractionSt) : (s.modTr t f).chg = s.chg := rfl
@[simp] theorem State.modTr_path (s : State) (t : Fin 2) (f : TractionSt → TractionSt) : (s.modTr t f).path = s.path := rfl
@[simp] theorem State.modTr_thermal (s : State) (t : Fin 2) (f : TractionSt → TractionSt) : (s.modTr t f).thermal = s.thermal := rfl
@[simp] theorem State.modTr_pyr (s : State) (t : Fin 2) (f : TractionSt → TractionSt) : (s.modTr t f).pyr = s.pyr := rfl
@[simp] theorem State.modTr_safety (s : State) (t : Fin 2) (f : TractionSt → TractionSt) : (s.modTr t f).safety = s.safety := rfl
@[simp] theorem State.modTr_conns (s : State) (t : Fin 2) (f : TractionSt → TractionSt) : (s.modTr t f).conns = s.conns := rfl
@[simp] theorem State.modTr_crcs (s : State) (t : Fin 2) (f : TractionSt → TractionSt) : (s.modTr t f).crcs = s.crcs := rfl
@[simp] theorem State.modTr_chans (s : State) (t : Fin 2) (f : TractionSt → TractionSt) : (s.modTr t f).chans = s.chans := rfl
@[simp] theorem State.modTr_time (s : State) (t : Fin 2) (f : TractionSt → TractionSt) : (s.modTr t f).time = s.time := rfl
@[simp] theorem State.modTr_canA (s : State) (t : Fin 2) (f : TractionSt → TractionSt) : (s.modTr t f).canA = s.canA := rfl
@[simp] theorem State.modTr_sessions (s : State) (t : Fin 2) (f : TractionSt → TractionSt) : (s.modTr t f).sessions = s.sessions := rfl
@[simp] theorem State.modTr_img (s : State) (t : Fin 2) (f : TractionSt → TractionSt) : (s.modTr t f).img = s.img := rfl
@[simp] theorem State.modTr_cap (s : State) (t : Fin 2) (f : TractionSt → TractionSt) : (s.modTr t f).cap = s.cap := rfl
@[simp] theorem State.modTr_pending (s : State) (t : Fin 2) (f : TractionSt → TractionSt) : (s.modTr t f).pending = s.pending := rfl

/-! `State.modImg` -/

@[simp] theorem State.modImg_od (s : State) (f : ImgSt → ImgSt) : (s.modImg f).od = s.od := rfl
@[simp] theorem State.modImg_tb (s : State) (f : ImgSt → ImgSt) : (s.modImg f).tb = s.tb := rfl
@[simp] theorem State.modImg_fresh (s : State) (f : ImgSt → ImgSt) : (s.modImg f).fresh = s.fresh := rfl
@[simp] theorem State.modImg_out (s : State) (f : ImgSt → ImgSt) : (s.modImg f).out = s.out := rfl
@[simp] theorem State.modImg_log (s : State) (f : ImgSt → ImgSt) : (s.modImg f).log = s.log := rfl
@[simp] theorem State.modImg_bringup (s : State) (f : ImgSt → ImgSt) : (s.modImg f).bringup = s.bringup := rfl
@[simp] theorem State.modImg_clocks (s : State) (f : ImgSt → ImgSt) : (s.modImg f).clocks = s.clocks := rfl
@[simp] theorem State.modImg_links (s : State) (f : ImgSt → ImgSt) : (s.modImg f).links = s.links := rfl
@[simp] theorem State.modImg_drives (s : State) (f : ImgSt → ImgSt) : (s.modImg f).drives = s.drives := rfl
@[simp] theorem State.modImg_cells (s : State) (f : ImgSt → ImgSt) : (s.modImg f).cells = s.cells := rfl
@[simp] theorem State.modImg_legs (s : State) (f : ImgSt → ImgSt) : (s.modImg f).legs = s.legs := rfl
@[simp] theorem State.modImg_store (s : State) (f : ImgSt → ImgSt) : (s.modImg f).store = s.store := rfl
@[simp] theorem State.modImg_cust (s : State) (f : ImgSt → ImgSt) : (s.modImg f).cust = s.cust := rfl
@[simp] theorem State.modImg_shunts (s : State) (f : ImgSt → ImgSt) : (s.modImg f).shunts = s.shunts := rfl
@[simp] theorem State.modImg_seqs (s : State) (f : ImgSt → ImgSt) : (s.modImg f).seqs = s.seqs := rfl
@[simp] theorem State.modImg_gcps (s : State) (f : ImgSt → ImgSt) : (s.modImg f).gcps = s.gcps := rfl
@[simp] theorem State.modImg_axes (s : State) (f : ImgSt → ImgSt) : (s.modImg f).axes = s.axes := rfl
@[simp] theorem State.modImg_traction (s : State) (f : ImgSt → ImgSt) : (s.modImg f).traction = s.traction := rfl
@[simp] theorem State.modImg_pifs (s : State) (f : ImgSt → ImgSt) : (s.modImg f).pifs = s.pifs := rfl
@[simp] theorem State.modImg_lus (s : State) (f : ImgSt → ImgSt) : (s.modImg f).lus = s.lus := rfl
@[simp] theorem State.modImg_stageIn (s : State) (f : ImgSt → ImgSt) : (s.modImg f).stageIn = s.stageIn := rfl
@[simp] theorem State.modImg_lvCommand (s : State) (f : ImgSt → ImgSt) : (s.modImg f).lvCommand = s.lvCommand := rfl
@[simp] theorem State.modImg_engines (s : State) (f : ImgSt → ImgSt) : (s.modImg f).engines = s.engines := rfl
@[simp] theorem State.modImg_tasks (s : State) (f : ImgSt → ImgSt) : (s.modImg f).tasks = s.tasks := rfl
@[simp] theorem State.modImg_pool (s : State) (f : ImgSt → ImgSt) : (s.modImg f).pool = s.pool := rfl
@[simp] theorem State.modImg_gbx (s : State) (f : ImgSt → ImgSt) : (s.modImg f).gbx = s.gbx := rfl
@[simp] theorem State.modImg_dcl (s : State) (f : ImgSt → ImgSt) : (s.modImg f).dcl = s.dcl := rfl
@[simp] theorem State.modImg_aux (s : State) (f : ImgSt → ImgSt) : (s.modImg f).aux = s.aux := rfl
@[simp] theorem State.modImg_chg (s : State) (f : ImgSt → ImgSt) : (s.modImg f).chg = s.chg := rfl
@[simp] theorem State.modImg_path (s : State) (f : ImgSt → ImgSt) : (s.modImg f).path = s.path := rfl
@[simp] theorem State.modImg_thermal (s : State) (f : ImgSt → ImgSt) : (s.modImg f).thermal = s.thermal := rfl
@[simp] theorem State.modImg_pyr (s : State) (f : ImgSt → ImgSt) : (s.modImg f).pyr = s.pyr := rfl
@[simp] theorem State.modImg_safety (s : State) (f : ImgSt → ImgSt) : (s.modImg f).safety = s.safety := rfl
@[simp] theorem State.modImg_conns (s : State) (f : ImgSt → ImgSt) : (s.modImg f).conns = s.conns := rfl
@[simp] theorem State.modImg_crcs (s : State) (f : ImgSt → ImgSt) : (s.modImg f).crcs = s.crcs := rfl
@[simp] theorem State.modImg_chans (s : State) (f : ImgSt → ImgSt) : (s.modImg f).chans = s.chans := rfl
@[simp] theorem State.modImg_time (s : State) (f : ImgSt → ImgSt) : (s.modImg f).time = s.time := rfl
@[simp] theorem State.modImg_canA (s : State) (f : ImgSt → ImgSt) : (s.modImg f).canA = s.canA := rfl
@[simp] theorem State.modImg_sessions (s : State) (f : ImgSt → ImgSt) : (s.modImg f).sessions = s.sessions := rfl
@[simp] theorem State.modImg_cap (s : State) (f : ImgSt → ImgSt) : (s.modImg f).cap = s.cap := rfl
@[simp] theorem State.modImg_pending (s : State) (f : ImgSt → ImgSt) : (s.modImg f).pending = s.pending := rfl

/-! `State.modShunt` -/

@[simp] theorem State.modShunt_od (s : State) (n : Leg) (f : ShuntSt → ShuntSt) : (s.modShunt n f).od = s.od := rfl
@[simp] theorem State.modShunt_tb (s : State) (n : Leg) (f : ShuntSt → ShuntSt) : (s.modShunt n f).tb = s.tb := rfl
@[simp] theorem State.modShunt_fresh (s : State) (n : Leg) (f : ShuntSt → ShuntSt) : (s.modShunt n f).fresh = s.fresh := rfl
@[simp] theorem State.modShunt_out (s : State) (n : Leg) (f : ShuntSt → ShuntSt) : (s.modShunt n f).out = s.out := rfl
@[simp] theorem State.modShunt_log (s : State) (n : Leg) (f : ShuntSt → ShuntSt) : (s.modShunt n f).log = s.log := rfl
@[simp] theorem State.modShunt_bringup (s : State) (n : Leg) (f : ShuntSt → ShuntSt) : (s.modShunt n f).bringup = s.bringup := rfl
@[simp] theorem State.modShunt_clocks (s : State) (n : Leg) (f : ShuntSt → ShuntSt) : (s.modShunt n f).clocks = s.clocks := rfl
@[simp] theorem State.modShunt_links (s : State) (n : Leg) (f : ShuntSt → ShuntSt) : (s.modShunt n f).links = s.links := rfl
@[simp] theorem State.modShunt_drives (s : State) (n : Leg) (f : ShuntSt → ShuntSt) : (s.modShunt n f).drives = s.drives := rfl
@[simp] theorem State.modShunt_cells (s : State) (n : Leg) (f : ShuntSt → ShuntSt) : (s.modShunt n f).cells = s.cells := rfl
@[simp] theorem State.modShunt_legs (s : State) (n : Leg) (f : ShuntSt → ShuntSt) : (s.modShunt n f).legs = s.legs := rfl
@[simp] theorem State.modShunt_store (s : State) (n : Leg) (f : ShuntSt → ShuntSt) : (s.modShunt n f).store = s.store := rfl
@[simp] theorem State.modShunt_cust (s : State) (n : Leg) (f : ShuntSt → ShuntSt) : (s.modShunt n f).cust = s.cust := rfl
@[simp] theorem State.modShunt_seqs (s : State) (n : Leg) (f : ShuntSt → ShuntSt) : (s.modShunt n f).seqs = s.seqs := rfl
@[simp] theorem State.modShunt_gcps (s : State) (n : Leg) (f : ShuntSt → ShuntSt) : (s.modShunt n f).gcps = s.gcps := rfl
@[simp] theorem State.modShunt_axes (s : State) (n : Leg) (f : ShuntSt → ShuntSt) : (s.modShunt n f).axes = s.axes := rfl
@[simp] theorem State.modShunt_traction (s : State) (n : Leg) (f : ShuntSt → ShuntSt) : (s.modShunt n f).traction = s.traction := rfl
@[simp] theorem State.modShunt_pifs (s : State) (n : Leg) (f : ShuntSt → ShuntSt) : (s.modShunt n f).pifs = s.pifs := rfl
@[simp] theorem State.modShunt_lus (s : State) (n : Leg) (f : ShuntSt → ShuntSt) : (s.modShunt n f).lus = s.lus := rfl
@[simp] theorem State.modShunt_stageIn (s : State) (n : Leg) (f : ShuntSt → ShuntSt) : (s.modShunt n f).stageIn = s.stageIn := rfl
@[simp] theorem State.modShunt_lvCommand (s : State) (n : Leg) (f : ShuntSt → ShuntSt) : (s.modShunt n f).lvCommand = s.lvCommand := rfl
@[simp] theorem State.modShunt_engines (s : State) (n : Leg) (f : ShuntSt → ShuntSt) : (s.modShunt n f).engines = s.engines := rfl
@[simp] theorem State.modShunt_tasks (s : State) (n : Leg) (f : ShuntSt → ShuntSt) : (s.modShunt n f).tasks = s.tasks := rfl
@[simp] theorem State.modShunt_pool (s : State) (n : Leg) (f : ShuntSt → ShuntSt) : (s.modShunt n f).pool = s.pool := rfl
@[simp] theorem State.modShunt_gbx (s : State) (n : Leg) (f : ShuntSt → ShuntSt) : (s.modShunt n f).gbx = s.gbx := rfl
@[simp] theorem State.modShunt_dcl (s : State) (n : Leg) (f : ShuntSt → ShuntSt) : (s.modShunt n f).dcl = s.dcl := rfl
@[simp] theorem State.modShunt_aux (s : State) (n : Leg) (f : ShuntSt → ShuntSt) : (s.modShunt n f).aux = s.aux := rfl
@[simp] theorem State.modShunt_chg (s : State) (n : Leg) (f : ShuntSt → ShuntSt) : (s.modShunt n f).chg = s.chg := rfl
@[simp] theorem State.modShunt_path (s : State) (n : Leg) (f : ShuntSt → ShuntSt) : (s.modShunt n f).path = s.path := rfl
@[simp] theorem State.modShunt_thermal (s : State) (n : Leg) (f : ShuntSt → ShuntSt) : (s.modShunt n f).thermal = s.thermal := rfl
@[simp] theorem State.modShunt_pyr (s : State) (n : Leg) (f : ShuntSt → ShuntSt) : (s.modShunt n f).pyr = s.pyr := rfl
@[simp] theorem State.modShunt_safety (s : State) (n : Leg) (f : ShuntSt → ShuntSt) : (s.modShunt n f).safety = s.safety := rfl
@[simp] theorem State.modShunt_conns (s : State) (n : Leg) (f : ShuntSt → ShuntSt) : (s.modShunt n f).conns = s.conns := rfl
@[simp] theorem State.modShunt_crcs (s : State) (n : Leg) (f : ShuntSt → ShuntSt) : (s.modShunt n f).crcs = s.crcs := rfl
@[simp] theorem State.modShunt_chans (s : State) (n : Leg) (f : ShuntSt → ShuntSt) : (s.modShunt n f).chans = s.chans := rfl
@[simp] theorem State.modShunt_time (s : State) (n : Leg) (f : ShuntSt → ShuntSt) : (s.modShunt n f).time = s.time := rfl
@[simp] theorem State.modShunt_canA (s : State) (n : Leg) (f : ShuntSt → ShuntSt) : (s.modShunt n f).canA = s.canA := rfl
@[simp] theorem State.modShunt_sessions (s : State) (n : Leg) (f : ShuntSt → ShuntSt) : (s.modShunt n f).sessions = s.sessions := rfl
@[simp] theorem State.modShunt_img (s : State) (n : Leg) (f : ShuntSt → ShuntSt) : (s.modShunt n f).img = s.img := rfl
@[simp] theorem State.modShunt_cap (s : State) (n : Leg) (f : ShuntSt → ShuntSt) : (s.modShunt n f).cap = s.cap := rfl
@[simp] theorem State.modShunt_pending (s : State) (n : Leg) (f : ShuntSt → ShuntSt) : (s.modShunt n f).pending = s.pending := rfl

/-! `State.modLog` -/

@[simp] theorem State.modLog_od (s : State) (f : LogSt → LogSt) : (s.modLog f).od = s.od := rfl
@[simp] theorem State.modLog_tb (s : State) (f : LogSt → LogSt) : (s.modLog f).tb = s.tb := rfl
@[simp] theorem State.modLog_fresh (s : State) (f : LogSt → LogSt) : (s.modLog f).fresh = s.fresh := rfl
@[simp] theorem State.modLog_out (s : State) (f : LogSt → LogSt) : (s.modLog f).out = s.out := rfl
@[simp] theorem State.modLog_bringup (s : State) (f : LogSt → LogSt) : (s.modLog f).bringup = s.bringup := rfl
@[simp] theorem State.modLog_clocks (s : State) (f : LogSt → LogSt) : (s.modLog f).clocks = s.clocks := rfl
@[simp] theorem State.modLog_links (s : State) (f : LogSt → LogSt) : (s.modLog f).links = s.links := rfl
@[simp] theorem State.modLog_drives (s : State) (f : LogSt → LogSt) : (s.modLog f).drives = s.drives := rfl
@[simp] theorem State.modLog_cells (s : State) (f : LogSt → LogSt) : (s.modLog f).cells = s.cells := rfl
@[simp] theorem State.modLog_legs (s : State) (f : LogSt → LogSt) : (s.modLog f).legs = s.legs := rfl
@[simp] theorem State.modLog_store (s : State) (f : LogSt → LogSt) : (s.modLog f).store = s.store := rfl
@[simp] theorem State.modLog_cust (s : State) (f : LogSt → LogSt) : (s.modLog f).cust = s.cust := rfl
@[simp] theorem State.modLog_shunts (s : State) (f : LogSt → LogSt) : (s.modLog f).shunts = s.shunts := rfl
@[simp] theorem State.modLog_seqs (s : State) (f : LogSt → LogSt) : (s.modLog f).seqs = s.seqs := rfl
@[simp] theorem State.modLog_gcps (s : State) (f : LogSt → LogSt) : (s.modLog f).gcps = s.gcps := rfl
@[simp] theorem State.modLog_axes (s : State) (f : LogSt → LogSt) : (s.modLog f).axes = s.axes := rfl
@[simp] theorem State.modLog_traction (s : State) (f : LogSt → LogSt) : (s.modLog f).traction = s.traction := rfl
@[simp] theorem State.modLog_pifs (s : State) (f : LogSt → LogSt) : (s.modLog f).pifs = s.pifs := rfl
@[simp] theorem State.modLog_lus (s : State) (f : LogSt → LogSt) : (s.modLog f).lus = s.lus := rfl
@[simp] theorem State.modLog_stageIn (s : State) (f : LogSt → LogSt) : (s.modLog f).stageIn = s.stageIn := rfl
@[simp] theorem State.modLog_lvCommand (s : State) (f : LogSt → LogSt) : (s.modLog f).lvCommand = s.lvCommand := rfl
@[simp] theorem State.modLog_engines (s : State) (f : LogSt → LogSt) : (s.modLog f).engines = s.engines := rfl
@[simp] theorem State.modLog_tasks (s : State) (f : LogSt → LogSt) : (s.modLog f).tasks = s.tasks := rfl
@[simp] theorem State.modLog_pool (s : State) (f : LogSt → LogSt) : (s.modLog f).pool = s.pool := rfl
@[simp] theorem State.modLog_gbx (s : State) (f : LogSt → LogSt) : (s.modLog f).gbx = s.gbx := rfl
@[simp] theorem State.modLog_dcl (s : State) (f : LogSt → LogSt) : (s.modLog f).dcl = s.dcl := rfl
@[simp] theorem State.modLog_aux (s : State) (f : LogSt → LogSt) : (s.modLog f).aux = s.aux := rfl
@[simp] theorem State.modLog_chg (s : State) (f : LogSt → LogSt) : (s.modLog f).chg = s.chg := rfl
@[simp] theorem State.modLog_path (s : State) (f : LogSt → LogSt) : (s.modLog f).path = s.path := rfl
@[simp] theorem State.modLog_thermal (s : State) (f : LogSt → LogSt) : (s.modLog f).thermal = s.thermal := rfl
@[simp] theorem State.modLog_pyr (s : State) (f : LogSt → LogSt) : (s.modLog f).pyr = s.pyr := rfl
@[simp] theorem State.modLog_safety (s : State) (f : LogSt → LogSt) : (s.modLog f).safety = s.safety := rfl
@[simp] theorem State.modLog_conns (s : State) (f : LogSt → LogSt) : (s.modLog f).conns = s.conns := rfl
@[simp] theorem State.modLog_crcs (s : State) (f : LogSt → LogSt) : (s.modLog f).crcs = s.crcs := rfl
@[simp] theorem State.modLog_chans (s : State) (f : LogSt → LogSt) : (s.modLog f).chans = s.chans := rfl
@[simp] theorem State.modLog_time (s : State) (f : LogSt → LogSt) : (s.modLog f).time = s.time := rfl
@[simp] theorem State.modLog_canA (s : State) (f : LogSt → LogSt) : (s.modLog f).canA = s.canA := rfl
@[simp] theorem State.modLog_sessions (s : State) (f : LogSt → LogSt) : (s.modLog f).sessions = s.sessions := rfl
@[simp] theorem State.modLog_img (s : State) (f : LogSt → LogSt) : (s.modLog f).img = s.img := rfl
@[simp] theorem State.modLog_cap (s : State) (f : LogSt → LogSt) : (s.modLog f).cap = s.cap := rfl
@[simp] theorem State.modLog_pending (s : State) (f : LogSt → LogSt) : (s.modLog f).pending = s.pending := rfl

/-! `State.modDrv` -/

@[simp] theorem State.modDrv_od (s : State) (d : Drive) (f : DriveSt → DriveSt) : (s.modDrv d f).od = s.od := rfl
@[simp] theorem State.modDrv_tb (s : State) (d : Drive) (f : DriveSt → DriveSt) : (s.modDrv d f).tb = s.tb := rfl
@[simp] theorem State.modDrv_fresh (s : State) (d : Drive) (f : DriveSt → DriveSt) : (s.modDrv d f).fresh = s.fresh := rfl
@[simp] theorem State.modDrv_out (s : State) (d : Drive) (f : DriveSt → DriveSt) : (s.modDrv d f).out = s.out := rfl
@[simp] theorem State.modDrv_log (s : State) (d : Drive) (f : DriveSt → DriveSt) : (s.modDrv d f).log = s.log := rfl
@[simp] theorem State.modDrv_bringup (s : State) (d : Drive) (f : DriveSt → DriveSt) : (s.modDrv d f).bringup = s.bringup := rfl
@[simp] theorem State.modDrv_clocks (s : State) (d : Drive) (f : DriveSt → DriveSt) : (s.modDrv d f).clocks = s.clocks := rfl
@[simp] theorem State.modDrv_links (s : State) (d : Drive) (f : DriveSt → DriveSt) : (s.modDrv d f).links = s.links := rfl
@[simp] theorem State.modDrv_cells (s : State) (d : Drive) (f : DriveSt → DriveSt) : (s.modDrv d f).cells = s.cells := rfl
@[simp] theorem State.modDrv_legs (s : State) (d : Drive) (f : DriveSt → DriveSt) : (s.modDrv d f).legs = s.legs := rfl
@[simp] theorem State.modDrv_store (s : State) (d : Drive) (f : DriveSt → DriveSt) : (s.modDrv d f).store = s.store := rfl
@[simp] theorem State.modDrv_cust (s : State) (d : Drive) (f : DriveSt → DriveSt) : (s.modDrv d f).cust = s.cust := rfl
@[simp] theorem State.modDrv_shunts (s : State) (d : Drive) (f : DriveSt → DriveSt) : (s.modDrv d f).shunts = s.shunts := rfl
@[simp] theorem State.modDrv_seqs (s : State) (d : Drive) (f : DriveSt → DriveSt) : (s.modDrv d f).seqs = s.seqs := rfl
@[simp] theorem State.modDrv_gcps (s : State) (d : Drive) (f : DriveSt → DriveSt) : (s.modDrv d f).gcps = s.gcps := rfl
@[simp] theorem State.modDrv_axes (s : State) (d : Drive) (f : DriveSt → DriveSt) : (s.modDrv d f).axes = s.axes := rfl
@[simp] theorem State.modDrv_traction (s : State) (d : Drive) (f : DriveSt → DriveSt) : (s.modDrv d f).traction = s.traction := rfl
@[simp] theorem State.modDrv_pifs (s : State) (d : Drive) (f : DriveSt → DriveSt) : (s.modDrv d f).pifs = s.pifs := rfl
@[simp] theorem State.modDrv_lus (s : State) (d : Drive) (f : DriveSt → DriveSt) : (s.modDrv d f).lus = s.lus := rfl
@[simp] theorem State.modDrv_stageIn (s : State) (d : Drive) (f : DriveSt → DriveSt) : (s.modDrv d f).stageIn = s.stageIn := rfl
@[simp] theorem State.modDrv_lvCommand (s : State) (d : Drive) (f : DriveSt → DriveSt) : (s.modDrv d f).lvCommand = s.lvCommand := rfl
@[simp] theorem State.modDrv_engines (s : State) (d : Drive) (f : DriveSt → DriveSt) : (s.modDrv d f).engines = s.engines := rfl
@[simp] theorem State.modDrv_tasks (s : State) (d : Drive) (f : DriveSt → DriveSt) : (s.modDrv d f).tasks = s.tasks := rfl
@[simp] theorem State.modDrv_pool (s : State) (d : Drive) (f : DriveSt → DriveSt) : (s.modDrv d f).pool = s.pool := rfl
@[simp] theorem State.modDrv_gbx (s : State) (d : Drive) (f : DriveSt → DriveSt) : (s.modDrv d f).gbx = s.gbx := rfl
@[simp] theorem State.modDrv_dcl (s : State) (d : Drive) (f : DriveSt → DriveSt) : (s.modDrv d f).dcl = s.dcl := rfl
@[simp] theorem State.modDrv_aux (s : State) (d : Drive) (f : DriveSt → DriveSt) : (s.modDrv d f).aux = s.aux := rfl
@[simp] theorem State.modDrv_chg (s : State) (d : Drive) (f : DriveSt → DriveSt) : (s.modDrv d f).chg = s.chg := rfl
@[simp] theorem State.modDrv_path (s : State) (d : Drive) (f : DriveSt → DriveSt) : (s.modDrv d f).path = s.path := rfl
@[simp] theorem State.modDrv_thermal (s : State) (d : Drive) (f : DriveSt → DriveSt) : (s.modDrv d f).thermal = s.thermal := rfl
@[simp] theorem State.modDrv_pyr (s : State) (d : Drive) (f : DriveSt → DriveSt) : (s.modDrv d f).pyr = s.pyr := rfl
@[simp] theorem State.modDrv_safety (s : State) (d : Drive) (f : DriveSt → DriveSt) : (s.modDrv d f).safety = s.safety := rfl
@[simp] theorem State.modDrv_conns (s : State) (d : Drive) (f : DriveSt → DriveSt) : (s.modDrv d f).conns = s.conns := rfl
@[simp] theorem State.modDrv_crcs (s : State) (d : Drive) (f : DriveSt → DriveSt) : (s.modDrv d f).crcs = s.crcs := rfl
@[simp] theorem State.modDrv_chans (s : State) (d : Drive) (f : DriveSt → DriveSt) : (s.modDrv d f).chans = s.chans := rfl
@[simp] theorem State.modDrv_time (s : State) (d : Drive) (f : DriveSt → DriveSt) : (s.modDrv d f).time = s.time := rfl
@[simp] theorem State.modDrv_canA (s : State) (d : Drive) (f : DriveSt → DriveSt) : (s.modDrv d f).canA = s.canA := rfl
@[simp] theorem State.modDrv_sessions (s : State) (d : Drive) (f : DriveSt → DriveSt) : (s.modDrv d f).sessions = s.sessions := rfl
@[simp] theorem State.modDrv_img (s : State) (d : Drive) (f : DriveSt → DriveSt) : (s.modDrv d f).img = s.img := rfl
@[simp] theorem State.modDrv_cap (s : State) (d : Drive) (f : DriveSt → DriveSt) : (s.modDrv d f).cap = s.cap := rfl
@[simp] theorem State.modDrv_pending (s : State) (d : Drive) (f : DriveSt → DriveSt) : (s.modDrv d f).pending = s.pending := rfl

/-! `State.modCell` -/

@[simp] theorem State.modCell_od (s : State) (c : Cell) (f : CellSt → CellSt) : (s.modCell c f).od = s.od := rfl
@[simp] theorem State.modCell_tb (s : State) (c : Cell) (f : CellSt → CellSt) : (s.modCell c f).tb = s.tb := rfl
@[simp] theorem State.modCell_fresh (s : State) (c : Cell) (f : CellSt → CellSt) : (s.modCell c f).fresh = s.fresh := rfl
@[simp] theorem State.modCell_out (s : State) (c : Cell) (f : CellSt → CellSt) : (s.modCell c f).out = s.out := rfl
@[simp] theorem State.modCell_log (s : State) (c : Cell) (f : CellSt → CellSt) : (s.modCell c f).log = s.log := rfl
@[simp] theorem State.modCell_bringup (s : State) (c : Cell) (f : CellSt → CellSt) : (s.modCell c f).bringup = s.bringup := rfl
@[simp] theorem State.modCell_clocks (s : State) (c : Cell) (f : CellSt → CellSt) : (s.modCell c f).clocks = s.clocks := rfl
@[simp] theorem State.modCell_links (s : State) (c : Cell) (f : CellSt → CellSt) : (s.modCell c f).links = s.links := rfl
@[simp] theorem State.modCell_drives (s : State) (c : Cell) (f : CellSt → CellSt) : (s.modCell c f).drives = s.drives := rfl
@[simp] theorem State.modCell_legs (s : State) (c : Cell) (f : CellSt → CellSt) : (s.modCell c f).legs = s.legs := rfl
@[simp] theorem State.modCell_store (s : State) (c : Cell) (f : CellSt → CellSt) : (s.modCell c f).store = s.store := rfl
@[simp] theorem State.modCell_cust (s : State) (c : Cell) (f : CellSt → CellSt) : (s.modCell c f).cust = s.cust := rfl
@[simp] theorem State.modCell_shunts (s : State) (c : Cell) (f : CellSt → CellSt) : (s.modCell c f).shunts = s.shunts := rfl
@[simp] theorem State.modCell_seqs (s : State) (c : Cell) (f : CellSt → CellSt) : (s.modCell c f).seqs = s.seqs := rfl
@[simp] theorem State.modCell_gcps (s : State) (c : Cell) (f : CellSt → CellSt) : (s.modCell c f).gcps = s.gcps := rfl
@[simp] theorem State.modCell_axes (s : State) (c : Cell) (f : CellSt → CellSt) : (s.modCell c f).axes = s.axes := rfl
@[simp] theorem State.modCell_traction (s : State) (c : Cell) (f : CellSt → CellSt) : (s.modCell c f).traction = s.traction := rfl
@[simp] theorem State.modCell_pifs (s : State) (c : Cell) (f : CellSt → CellSt) : (s.modCell c f).pifs = s.pifs := rfl
@[simp] theorem State.modCell_lus (s : State) (c : Cell) (f : CellSt → CellSt) : (s.modCell c f).lus = s.lus := rfl
@[simp] theorem State.modCell_stageIn (s : State) (c : Cell) (f : CellSt → CellSt) : (s.modCell c f).stageIn = s.stageIn := rfl
@[simp] theorem State.modCell_lvCommand (s : State) (c : Cell) (f : CellSt → CellSt) : (s.modCell c f).lvCommand = s.lvCommand := rfl
@[simp] theorem State.modCell_engines (s : State) (c : Cell) (f : CellSt → CellSt) : (s.modCell c f).engines = s.engines := rfl
@[simp] theorem State.modCell_tasks (s : State) (c : Cell) (f : CellSt → CellSt) : (s.modCell c f).tasks = s.tasks := rfl
@[simp] theorem State.modCell_pool (s : State) (c : Cell) (f : CellSt → CellSt) : (s.modCell c f).pool = s.pool := rfl
@[simp] theorem State.modCell_gbx (s : State) (c : Cell) (f : CellSt → CellSt) : (s.modCell c f).gbx = s.gbx := rfl
@[simp] theorem State.modCell_dcl (s : State) (c : Cell) (f : CellSt → CellSt) : (s.modCell c f).dcl = s.dcl := rfl
@[simp] theorem State.modCell_aux (s : State) (c : Cell) (f : CellSt → CellSt) : (s.modCell c f).aux = s.aux := rfl
@[simp] theorem State.modCell_chg (s : State) (c : Cell) (f : CellSt → CellSt) : (s.modCell c f).chg = s.chg := rfl
@[simp] theorem State.modCell_path (s : State) (c : Cell) (f : CellSt → CellSt) : (s.modCell c f).path = s.path := rfl
@[simp] theorem State.modCell_thermal (s : State) (c : Cell) (f : CellSt → CellSt) : (s.modCell c f).thermal = s.thermal := rfl
@[simp] theorem State.modCell_pyr (s : State) (c : Cell) (f : CellSt → CellSt) : (s.modCell c f).pyr = s.pyr := rfl
@[simp] theorem State.modCell_safety (s : State) (c : Cell) (f : CellSt → CellSt) : (s.modCell c f).safety = s.safety := rfl
@[simp] theorem State.modCell_conns (s : State) (c : Cell) (f : CellSt → CellSt) : (s.modCell c f).conns = s.conns := rfl
@[simp] theorem State.modCell_crcs (s : State) (c : Cell) (f : CellSt → CellSt) : (s.modCell c f).crcs = s.crcs := rfl
@[simp] theorem State.modCell_chans (s : State) (c : Cell) (f : CellSt → CellSt) : (s.modCell c f).chans = s.chans := rfl
@[simp] theorem State.modCell_time (s : State) (c : Cell) (f : CellSt → CellSt) : (s.modCell c f).time = s.time := rfl
@[simp] theorem State.modCell_canA (s : State) (c : Cell) (f : CellSt → CellSt) : (s.modCell c f).canA = s.canA := rfl
@[simp] theorem State.modCell_sessions (s : State) (c : Cell) (f : CellSt → CellSt) : (s.modCell c f).sessions = s.sessions := rfl
@[simp] theorem State.modCell_img (s : State) (c : Cell) (f : CellSt → CellSt) : (s.modCell c f).img = s.img := rfl
@[simp] theorem State.modCell_cap (s : State) (c : Cell) (f : CellSt → CellSt) : (s.modCell c f).cap = s.cap := rfl
@[simp] theorem State.modCell_pending (s : State) (c : Cell) (f : CellSt → CellSt) : (s.modCell c f).pending = s.pending := rfl

/-! `State.modLeg` -/

@[simp] theorem State.modLeg_od (s : State) (l : Leg) (f : LegSt → LegSt) : (s.modLeg l f).od = s.od := rfl
@[simp] theorem State.modLeg_tb (s : State) (l : Leg) (f : LegSt → LegSt) : (s.modLeg l f).tb = s.tb := rfl
@[simp] theorem State.modLeg_fresh (s : State) (l : Leg) (f : LegSt → LegSt) : (s.modLeg l f).fresh = s.fresh := rfl
@[simp] theorem State.modLeg_out (s : State) (l : Leg) (f : LegSt → LegSt) : (s.modLeg l f).out = s.out := rfl
@[simp] theorem State.modLeg_log (s : State) (l : Leg) (f : LegSt → LegSt) : (s.modLeg l f).log = s.log := rfl
@[simp] theorem State.modLeg_bringup (s : State) (l : Leg) (f : LegSt → LegSt) : (s.modLeg l f).bringup = s.bringup := rfl
@[simp] theorem State.modLeg_clocks (s : State) (l : Leg) (f : LegSt → LegSt) : (s.modLeg l f).clocks = s.clocks := rfl
@[simp] theorem State.modLeg_links (s : State) (l : Leg) (f : LegSt → LegSt) : (s.modLeg l f).links = s.links := rfl
@[simp] theorem State.modLeg_drives (s : State) (l : Leg) (f : LegSt → LegSt) : (s.modLeg l f).drives = s.drives := rfl
@[simp] theorem State.modLeg_cells (s : State) (l : Leg) (f : LegSt → LegSt) : (s.modLeg l f).cells = s.cells := rfl
@[simp] theorem State.modLeg_store (s : State) (l : Leg) (f : LegSt → LegSt) : (s.modLeg l f).store = s.store := rfl
@[simp] theorem State.modLeg_cust (s : State) (l : Leg) (f : LegSt → LegSt) : (s.modLeg l f).cust = s.cust := rfl
@[simp] theorem State.modLeg_shunts (s : State) (l : Leg) (f : LegSt → LegSt) : (s.modLeg l f).shunts = s.shunts := rfl
@[simp] theorem State.modLeg_seqs (s : State) (l : Leg) (f : LegSt → LegSt) : (s.modLeg l f).seqs = s.seqs := rfl
@[simp] theorem State.modLeg_gcps (s : State) (l : Leg) (f : LegSt → LegSt) : (s.modLeg l f).gcps = s.gcps := rfl
@[simp] theorem State.modLeg_axes (s : State) (l : Leg) (f : LegSt → LegSt) : (s.modLeg l f).axes = s.axes := rfl
@[simp] theorem State.modLeg_traction (s : State) (l : Leg) (f : LegSt → LegSt) : (s.modLeg l f).traction = s.traction := rfl
@[simp] theorem State.modLeg_pifs (s : State) (l : Leg) (f : LegSt → LegSt) : (s.modLeg l f).pifs = s.pifs := rfl
@[simp] theorem State.modLeg_lus (s : State) (l : Leg) (f : LegSt → LegSt) : (s.modLeg l f).lus = s.lus := rfl
@[simp] theorem State.modLeg_stageIn (s : State) (l : Leg) (f : LegSt → LegSt) : (s.modLeg l f).stageIn = s.stageIn := rfl
@[simp] theorem State.modLeg_lvCommand (s : State) (l : Leg) (f : LegSt → LegSt) : (s.modLeg l f).lvCommand = s.lvCommand := rfl
@[simp] theorem State.modLeg_engines (s : State) (l : Leg) (f : LegSt → LegSt) : (s.modLeg l f).engines = s.engines := rfl
@[simp] theorem State.modLeg_tasks (s : State) (l : Leg) (f : LegSt → LegSt) : (s.modLeg l f).tasks = s.tasks := rfl
@[simp] theorem State.modLeg_pool (s : State) (l : Leg) (f : LegSt → LegSt) : (s.modLeg l f).pool = s.pool := rfl
@[simp] theorem State.modLeg_gbx (s : State) (l : Leg) (f : LegSt → LegSt) : (s.modLeg l f).gbx = s.gbx := rfl
@[simp] theorem State.modLeg_dcl (s : State) (l : Leg) (f : LegSt → LegSt) : (s.modLeg l f).dcl = s.dcl := rfl
@[simp] theorem State.modLeg_aux (s : State) (l : Leg) (f : LegSt → LegSt) : (s.modLeg l f).aux = s.aux := rfl
@[simp] theorem State.modLeg_chg (s : State) (l : Leg) (f : LegSt → LegSt) : (s.modLeg l f).chg = s.chg := rfl
@[simp] theorem State.modLeg_path (s : State) (l : Leg) (f : LegSt → LegSt) : (s.modLeg l f).path = s.path := rfl
@[simp] theorem State.modLeg_thermal (s : State) (l : Leg) (f : LegSt → LegSt) : (s.modLeg l f).thermal = s.thermal := rfl
@[simp] theorem State.modLeg_pyr (s : State) (l : Leg) (f : LegSt → LegSt) : (s.modLeg l f).pyr = s.pyr := rfl
@[simp] theorem State.modLeg_safety (s : State) (l : Leg) (f : LegSt → LegSt) : (s.modLeg l f).safety = s.safety := rfl
@[simp] theorem State.modLeg_conns (s : State) (l : Leg) (f : LegSt → LegSt) : (s.modLeg l f).conns = s.conns := rfl
@[simp] theorem State.modLeg_crcs (s : State) (l : Leg) (f : LegSt → LegSt) : (s.modLeg l f).crcs = s.crcs := rfl
@[simp] theorem State.modLeg_chans (s : State) (l : Leg) (f : LegSt → LegSt) : (s.modLeg l f).chans = s.chans := rfl
@[simp] theorem State.modLeg_time (s : State) (l : Leg) (f : LegSt → LegSt) : (s.modLeg l f).time = s.time := rfl
@[simp] theorem State.modLeg_canA (s : State) (l : Leg) (f : LegSt → LegSt) : (s.modLeg l f).canA = s.canA := rfl
@[simp] theorem State.modLeg_sessions (s : State) (l : Leg) (f : LegSt → LegSt) : (s.modLeg l f).sessions = s.sessions := rfl
@[simp] theorem State.modLeg_img (s : State) (l : Leg) (f : LegSt → LegSt) : (s.modLeg l f).img = s.img := rfl
@[simp] theorem State.modLeg_cap (s : State) (l : Leg) (f : LegSt → LegSt) : (s.modLeg l f).cap = s.cap := rfl
@[simp] theorem State.modLeg_pending (s : State) (l : Leg) (f : LegSt → LegSt) : (s.modLeg l f).pending = s.pending := rfl

/-! `State.modLink` -/

@[simp] theorem State.modLink_od (s : State) (l : Link) (f : LinkSt → LinkSt) : (s.modLink l f).od = s.od := rfl
@[simp] theorem State.modLink_tb (s : State) (l : Link) (f : LinkSt → LinkSt) : (s.modLink l f).tb = s.tb := rfl
@[simp] theorem State.modLink_fresh (s : State) (l : Link) (f : LinkSt → LinkSt) : (s.modLink l f).fresh = s.fresh := rfl
@[simp] theorem State.modLink_out (s : State) (l : Link) (f : LinkSt → LinkSt) : (s.modLink l f).out = s.out := rfl
@[simp] theorem State.modLink_log (s : State) (l : Link) (f : LinkSt → LinkSt) : (s.modLink l f).log = s.log := rfl
@[simp] theorem State.modLink_bringup (s : State) (l : Link) (f : LinkSt → LinkSt) : (s.modLink l f).bringup = s.bringup := rfl
@[simp] theorem State.modLink_clocks (s : State) (l : Link) (f : LinkSt → LinkSt) : (s.modLink l f).clocks = s.clocks := rfl
@[simp] theorem State.modLink_drives (s : State) (l : Link) (f : LinkSt → LinkSt) : (s.modLink l f).drives = s.drives := rfl
@[simp] theorem State.modLink_cells (s : State) (l : Link) (f : LinkSt → LinkSt) : (s.modLink l f).cells = s.cells := rfl
@[simp] theorem State.modLink_legs (s : State) (l : Link) (f : LinkSt → LinkSt) : (s.modLink l f).legs = s.legs := rfl
@[simp] theorem State.modLink_store (s : State) (l : Link) (f : LinkSt → LinkSt) : (s.modLink l f).store = s.store := rfl
@[simp] theorem State.modLink_cust (s : State) (l : Link) (f : LinkSt → LinkSt) : (s.modLink l f).cust = s.cust := rfl
@[simp] theorem State.modLink_shunts (s : State) (l : Link) (f : LinkSt → LinkSt) : (s.modLink l f).shunts = s.shunts := rfl
@[simp] theorem State.modLink_seqs (s : State) (l : Link) (f : LinkSt → LinkSt) : (s.modLink l f).seqs = s.seqs := rfl
@[simp] theorem State.modLink_gcps (s : State) (l : Link) (f : LinkSt → LinkSt) : (s.modLink l f).gcps = s.gcps := rfl
@[simp] theorem State.modLink_axes (s : State) (l : Link) (f : LinkSt → LinkSt) : (s.modLink l f).axes = s.axes := rfl
@[simp] theorem State.modLink_traction (s : State) (l : Link) (f : LinkSt → LinkSt) : (s.modLink l f).traction = s.traction := rfl
@[simp] theorem State.modLink_pifs (s : State) (l : Link) (f : LinkSt → LinkSt) : (s.modLink l f).pifs = s.pifs := rfl
@[simp] theorem State.modLink_lus (s : State) (l : Link) (f : LinkSt → LinkSt) : (s.modLink l f).lus = s.lus := rfl
@[simp] theorem State.modLink_stageIn (s : State) (l : Link) (f : LinkSt → LinkSt) : (s.modLink l f).stageIn = s.stageIn := rfl
@[simp] theorem State.modLink_lvCommand (s : State) (l : Link) (f : LinkSt → LinkSt) : (s.modLink l f).lvCommand = s.lvCommand := rfl
@[simp] theorem State.modLink_engines (s : State) (l : Link) (f : LinkSt → LinkSt) : (s.modLink l f).engines = s.engines := rfl
@[simp] theorem State.modLink_tasks (s : State) (l : Link) (f : LinkSt → LinkSt) : (s.modLink l f).tasks = s.tasks := rfl
@[simp] theorem State.modLink_pool (s : State) (l : Link) (f : LinkSt → LinkSt) : (s.modLink l f).pool = s.pool := rfl
@[simp] theorem State.modLink_gbx (s : State) (l : Link) (f : LinkSt → LinkSt) : (s.modLink l f).gbx = s.gbx := rfl
@[simp] theorem State.modLink_dcl (s : State) (l : Link) (f : LinkSt → LinkSt) : (s.modLink l f).dcl = s.dcl := rfl
@[simp] theorem State.modLink_aux (s : State) (l : Link) (f : LinkSt → LinkSt) : (s.modLink l f).aux = s.aux := rfl
@[simp] theorem State.modLink_chg (s : State) (l : Link) (f : LinkSt → LinkSt) : (s.modLink l f).chg = s.chg := rfl
@[simp] theorem State.modLink_path (s : State) (l : Link) (f : LinkSt → LinkSt) : (s.modLink l f).path = s.path := rfl
@[simp] theorem State.modLink_thermal (s : State) (l : Link) (f : LinkSt → LinkSt) : (s.modLink l f).thermal = s.thermal := rfl
@[simp] theorem State.modLink_pyr (s : State) (l : Link) (f : LinkSt → LinkSt) : (s.modLink l f).pyr = s.pyr := rfl
@[simp] theorem State.modLink_safety (s : State) (l : Link) (f : LinkSt → LinkSt) : (s.modLink l f).safety = s.safety := rfl
@[simp] theorem State.modLink_conns (s : State) (l : Link) (f : LinkSt → LinkSt) : (s.modLink l f).conns = s.conns := rfl
@[simp] theorem State.modLink_crcs (s : State) (l : Link) (f : LinkSt → LinkSt) : (s.modLink l f).crcs = s.crcs := rfl
@[simp] theorem State.modLink_chans (s : State) (l : Link) (f : LinkSt → LinkSt) : (s.modLink l f).chans = s.chans := rfl
@[simp] theorem State.modLink_time (s : State) (l : Link) (f : LinkSt → LinkSt) : (s.modLink l f).time = s.time := rfl
@[simp] theorem State.modLink_canA (s : State) (l : Link) (f : LinkSt → LinkSt) : (s.modLink l f).canA = s.canA := rfl
@[simp] theorem State.modLink_sessions (s : State) (l : Link) (f : LinkSt → LinkSt) : (s.modLink l f).sessions = s.sessions := rfl
@[simp] theorem State.modLink_img (s : State) (l : Link) (f : LinkSt → LinkSt) : (s.modLink l f).img = s.img := rfl
@[simp] theorem State.modLink_cap (s : State) (l : Link) (f : LinkSt → LinkSt) : (s.modLink l f).cap = s.cap := rfl
@[simp] theorem State.modLink_pending (s : State) (l : Link) (f : LinkSt → LinkSt) : (s.modLink l f).pending = s.pending := rfl

/-! `State.modDcl` -/

@[simp] theorem State.modDcl_od (s : State) (f : DclSt → DclSt) : (s.modDcl f).od = s.od := rfl
@[simp] theorem State.modDcl_tb (s : State) (f : DclSt → DclSt) : (s.modDcl f).tb = s.tb := rfl
@[simp] theorem State.modDcl_fresh (s : State) (f : DclSt → DclSt) : (s.modDcl f).fresh = s.fresh := rfl
@[simp] theorem State.modDcl_out (s : State) (f : DclSt → DclSt) : (s.modDcl f).out = s.out := rfl
@[simp] theorem State.modDcl_log (s : State) (f : DclSt → DclSt) : (s.modDcl f).log = s.log := rfl
@[simp] theorem State.modDcl_bringup (s : State) (f : DclSt → DclSt) : (s.modDcl f).bringup = s.bringup := rfl
@[simp] theorem State.modDcl_clocks (s : State) (f : DclSt → DclSt) : (s.modDcl f).clocks = s.clocks := rfl
@[simp] theorem State.modDcl_links (s : State) (f : DclSt → DclSt) : (s.modDcl f).links = s.links := rfl
@[simp] theorem State.modDcl_drives (s : State) (f : DclSt → DclSt) : (s.modDcl f).drives = s.drives := rfl
@[simp] theorem State.modDcl_cells (s : State) (f : DclSt → DclSt) : (s.modDcl f).cells = s.cells := rfl
@[simp] theorem State.modDcl_legs (s : State) (f : DclSt → DclSt) : (s.modDcl f).legs = s.legs := rfl
@[simp] theorem State.modDcl_store (s : State) (f : DclSt → DclSt) : (s.modDcl f).store = s.store := rfl
@[simp] theorem State.modDcl_cust (s : State) (f : DclSt → DclSt) : (s.modDcl f).cust = s.cust := rfl
@[simp] theorem State.modDcl_shunts (s : State) (f : DclSt → DclSt) : (s.modDcl f).shunts = s.shunts := rfl
@[simp] theorem State.modDcl_seqs (s : State) (f : DclSt → DclSt) : (s.modDcl f).seqs = s.seqs := rfl
@[simp] theorem State.modDcl_gcps (s : State) (f : DclSt → DclSt) : (s.modDcl f).gcps = s.gcps := rfl
@[simp] theorem State.modDcl_axes (s : State) (f : DclSt → DclSt) : (s.modDcl f).axes = s.axes := rfl
@[simp] theorem State.modDcl_traction (s : State) (f : DclSt → DclSt) : (s.modDcl f).traction = s.traction := rfl
@[simp] theorem State.modDcl_pifs (s : State) (f : DclSt → DclSt) : (s.modDcl f).pifs = s.pifs := rfl
@[simp] theorem State.modDcl_lus (s : State) (f : DclSt → DclSt) : (s.modDcl f).lus = s.lus := rfl
@[simp] theorem State.modDcl_stageIn (s : State) (f : DclSt → DclSt) : (s.modDcl f).stageIn = s.stageIn := rfl
@[simp] theorem State.modDcl_lvCommand (s : State) (f : DclSt → DclSt) : (s.modDcl f).lvCommand = s.lvCommand := rfl
@[simp] theorem State.modDcl_engines (s : State) (f : DclSt → DclSt) : (s.modDcl f).engines = s.engines := rfl
@[simp] theorem State.modDcl_tasks (s : State) (f : DclSt → DclSt) : (s.modDcl f).tasks = s.tasks := rfl
@[simp] theorem State.modDcl_pool (s : State) (f : DclSt → DclSt) : (s.modDcl f).pool = s.pool := rfl
@[simp] theorem State.modDcl_gbx (s : State) (f : DclSt → DclSt) : (s.modDcl f).gbx = s.gbx := rfl
@[simp] theorem State.modDcl_aux (s : State) (f : DclSt → DclSt) : (s.modDcl f).aux = s.aux := rfl
@[simp] theorem State.modDcl_chg (s : State) (f : DclSt → DclSt) : (s.modDcl f).chg = s.chg := rfl
@[simp] theorem State.modDcl_path (s : State) (f : DclSt → DclSt) : (s.modDcl f).path = s.path := rfl
@[simp] theorem State.modDcl_thermal (s : State) (f : DclSt → DclSt) : (s.modDcl f).thermal = s.thermal := rfl
@[simp] theorem State.modDcl_pyr (s : State) (f : DclSt → DclSt) : (s.modDcl f).pyr = s.pyr := rfl
@[simp] theorem State.modDcl_safety (s : State) (f : DclSt → DclSt) : (s.modDcl f).safety = s.safety := rfl
@[simp] theorem State.modDcl_conns (s : State) (f : DclSt → DclSt) : (s.modDcl f).conns = s.conns := rfl
@[simp] theorem State.modDcl_crcs (s : State) (f : DclSt → DclSt) : (s.modDcl f).crcs = s.crcs := rfl
@[simp] theorem State.modDcl_chans (s : State) (f : DclSt → DclSt) : (s.modDcl f).chans = s.chans := rfl
@[simp] theorem State.modDcl_time (s : State) (f : DclSt → DclSt) : (s.modDcl f).time = s.time := rfl
@[simp] theorem State.modDcl_canA (s : State) (f : DclSt → DclSt) : (s.modDcl f).canA = s.canA := rfl
@[simp] theorem State.modDcl_sessions (s : State) (f : DclSt → DclSt) : (s.modDcl f).sessions = s.sessions := rfl
@[simp] theorem State.modDcl_img (s : State) (f : DclSt → DclSt) : (s.modDcl f).img = s.img := rfl
@[simp] theorem State.modDcl_cap (s : State) (f : DclSt → DclSt) : (s.modDcl f).cap = s.cap := rfl
@[simp] theorem State.modDcl_pending (s : State) (f : DclSt → DclSt) : (s.modDcl f).pending = s.pending := rfl

/-! `State.modAux` -/

@[simp] theorem State.modAux_od (s : State) (f : AuxSt → AuxSt) : (s.modAux f).od = s.od := rfl
@[simp] theorem State.modAux_tb (s : State) (f : AuxSt → AuxSt) : (s.modAux f).tb = s.tb := rfl
@[simp] theorem State.modAux_fresh (s : State) (f : AuxSt → AuxSt) : (s.modAux f).fresh = s.fresh := rfl
@[simp] theorem State.modAux_out (s : State) (f : AuxSt → AuxSt) : (s.modAux f).out = s.out := rfl
@[simp] theorem State.modAux_log (s : State) (f : AuxSt → AuxSt) : (s.modAux f).log = s.log := rfl
@[simp] theorem State.modAux_bringup (s : State) (f : AuxSt → AuxSt) : (s.modAux f).bringup = s.bringup := rfl
@[simp] theorem State.modAux_clocks (s : State) (f : AuxSt → AuxSt) : (s.modAux f).clocks = s.clocks := rfl
@[simp] theorem State.modAux_links (s : State) (f : AuxSt → AuxSt) : (s.modAux f).links = s.links := rfl
@[simp] theorem State.modAux_drives (s : State) (f : AuxSt → AuxSt) : (s.modAux f).drives = s.drives := rfl
@[simp] theorem State.modAux_cells (s : State) (f : AuxSt → AuxSt) : (s.modAux f).cells = s.cells := rfl
@[simp] theorem State.modAux_legs (s : State) (f : AuxSt → AuxSt) : (s.modAux f).legs = s.legs := rfl
@[simp] theorem State.modAux_store (s : State) (f : AuxSt → AuxSt) : (s.modAux f).store = s.store := rfl
@[simp] theorem State.modAux_cust (s : State) (f : AuxSt → AuxSt) : (s.modAux f).cust = s.cust := rfl
@[simp] theorem State.modAux_shunts (s : State) (f : AuxSt → AuxSt) : (s.modAux f).shunts = s.shunts := rfl
@[simp] theorem State.modAux_seqs (s : State) (f : AuxSt → AuxSt) : (s.modAux f).seqs = s.seqs := rfl
@[simp] theorem State.modAux_gcps (s : State) (f : AuxSt → AuxSt) : (s.modAux f).gcps = s.gcps := rfl
@[simp] theorem State.modAux_axes (s : State) (f : AuxSt → AuxSt) : (s.modAux f).axes = s.axes := rfl
@[simp] theorem State.modAux_traction (s : State) (f : AuxSt → AuxSt) : (s.modAux f).traction = s.traction := rfl
@[simp] theorem State.modAux_pifs (s : State) (f : AuxSt → AuxSt) : (s.modAux f).pifs = s.pifs := rfl
@[simp] theorem State.modAux_lus (s : State) (f : AuxSt → AuxSt) : (s.modAux f).lus = s.lus := rfl
@[simp] theorem State.modAux_stageIn (s : State) (f : AuxSt → AuxSt) : (s.modAux f).stageIn = s.stageIn := rfl
@[simp] theorem State.modAux_lvCommand (s : State) (f : AuxSt → AuxSt) : (s.modAux f).lvCommand = s.lvCommand := rfl
@[simp] theorem State.modAux_engines (s : State) (f : AuxSt → AuxSt) : (s.modAux f).engines = s.engines := rfl
@[simp] theorem State.modAux_tasks (s : State) (f : AuxSt → AuxSt) : (s.modAux f).tasks = s.tasks := rfl
@[simp] theorem State.modAux_pool (s : State) (f : AuxSt → AuxSt) : (s.modAux f).pool = s.pool := rfl
@[simp] theorem State.modAux_gbx (s : State) (f : AuxSt → AuxSt) : (s.modAux f).gbx = s.gbx := rfl
@[simp] theorem State.modAux_dcl (s : State) (f : AuxSt → AuxSt) : (s.modAux f).dcl = s.dcl := rfl
@[simp] theorem State.modAux_chg (s : State) (f : AuxSt → AuxSt) : (s.modAux f).chg = s.chg := rfl
@[simp] theorem State.modAux_path (s : State) (f : AuxSt → AuxSt) : (s.modAux f).path = s.path := rfl
@[simp] theorem State.modAux_thermal (s : State) (f : AuxSt → AuxSt) : (s.modAux f).thermal = s.thermal := rfl
@[simp] theorem State.modAux_pyr (s : State) (f : AuxSt → AuxSt) : (s.modAux f).pyr = s.pyr := rfl
@[simp] theorem State.modAux_safety (s : State) (f : AuxSt → AuxSt) : (s.modAux f).safety = s.safety := rfl
@[simp] theorem State.modAux_conns (s : State) (f : AuxSt → AuxSt) : (s.modAux f).conns = s.conns := rfl
@[simp] theorem State.modAux_crcs (s : State) (f : AuxSt → AuxSt) : (s.modAux f).crcs = s.crcs := rfl
@[simp] theorem State.modAux_chans (s : State) (f : AuxSt → AuxSt) : (s.modAux f).chans = s.chans := rfl
@[simp] theorem State.modAux_time (s : State) (f : AuxSt → AuxSt) : (s.modAux f).time = s.time := rfl
@[simp] theorem State.modAux_canA (s : State) (f : AuxSt → AuxSt) : (s.modAux f).canA = s.canA := rfl
@[simp] theorem State.modAux_sessions (s : State) (f : AuxSt → AuxSt) : (s.modAux f).sessions = s.sessions := rfl
@[simp] theorem State.modAux_img (s : State) (f : AuxSt → AuxSt) : (s.modAux f).img = s.img := rfl
@[simp] theorem State.modAux_cap (s : State) (f : AuxSt → AuxSt) : (s.modAux f).cap = s.cap := rfl
@[simp] theorem State.modAux_pending (s : State) (f : AuxSt → AuxSt) : (s.modAux f).pending = s.pending := rfl

/-! `State.modPath` -/

@[simp] theorem State.modPath_od (s : State) (f : PathSwSt → PathSwSt) : (s.modPath f).od = s.od := rfl
@[simp] theorem State.modPath_tb (s : State) (f : PathSwSt → PathSwSt) : (s.modPath f).tb = s.tb := rfl
@[simp] theorem State.modPath_fresh (s : State) (f : PathSwSt → PathSwSt) : (s.modPath f).fresh = s.fresh := rfl
@[simp] theorem State.modPath_out (s : State) (f : PathSwSt → PathSwSt) : (s.modPath f).out = s.out := rfl
@[simp] theorem State.modPath_log (s : State) (f : PathSwSt → PathSwSt) : (s.modPath f).log = s.log := rfl
@[simp] theorem State.modPath_bringup (s : State) (f : PathSwSt → PathSwSt) : (s.modPath f).bringup = s.bringup := rfl
@[simp] theorem State.modPath_clocks (s : State) (f : PathSwSt → PathSwSt) : (s.modPath f).clocks = s.clocks := rfl
@[simp] theorem State.modPath_links (s : State) (f : PathSwSt → PathSwSt) : (s.modPath f).links = s.links := rfl
@[simp] theorem State.modPath_drives (s : State) (f : PathSwSt → PathSwSt) : (s.modPath f).drives = s.drives := rfl
@[simp] theorem State.modPath_cells (s : State) (f : PathSwSt → PathSwSt) : (s.modPath f).cells = s.cells := rfl
@[simp] theorem State.modPath_legs (s : State) (f : PathSwSt → PathSwSt) : (s.modPath f).legs = s.legs := rfl
@[simp] theorem State.modPath_store (s : State) (f : PathSwSt → PathSwSt) : (s.modPath f).store = s.store := rfl
@[simp] theorem State.modPath_cust (s : State) (f : PathSwSt → PathSwSt) : (s.modPath f).cust = s.cust := rfl
@[simp] theorem State.modPath_shunts (s : State) (f : PathSwSt → PathSwSt) : (s.modPath f).shunts = s.shunts := rfl
@[simp] theorem State.modPath_seqs (s : State) (f : PathSwSt → PathSwSt) : (s.modPath f).seqs = s.seqs := rfl
@[simp] theorem State.modPath_gcps (s : State) (f : PathSwSt → PathSwSt) : (s.modPath f).gcps = s.gcps := rfl
@[simp] theorem State.modPath_axes (s : State) (f : PathSwSt → PathSwSt) : (s.modPath f).axes = s.axes := rfl
@[simp] theorem State.modPath_traction (s : State) (f : PathSwSt → PathSwSt) : (s.modPath f).traction = s.traction := rfl
@[simp] theorem State.modPath_pifs (s : State) (f : PathSwSt → PathSwSt) : (s.modPath f).pifs = s.pifs := rfl
@[simp] theorem State.modPath_lus (s : State) (f : PathSwSt → PathSwSt) : (s.modPath f).lus = s.lus := rfl
@[simp] theorem State.modPath_stageIn (s : State) (f : PathSwSt → PathSwSt) : (s.modPath f).stageIn = s.stageIn := rfl
@[simp] theorem State.modPath_lvCommand (s : State) (f : PathSwSt → PathSwSt) : (s.modPath f).lvCommand = s.lvCommand := rfl
@[simp] theorem State.modPath_engines (s : State) (f : PathSwSt → PathSwSt) : (s.modPath f).engines = s.engines := rfl
@[simp] theorem State.modPath_tasks (s : State) (f : PathSwSt → PathSwSt) : (s.modPath f).tasks = s.tasks := rfl
@[simp] theorem State.modPath_pool (s : State) (f : PathSwSt → PathSwSt) : (s.modPath f).pool = s.pool := rfl
@[simp] theorem State.modPath_gbx (s : State) (f : PathSwSt → PathSwSt) : (s.modPath f).gbx = s.gbx := rfl
@[simp] theorem State.modPath_dcl (s : State) (f : PathSwSt → PathSwSt) : (s.modPath f).dcl = s.dcl := rfl
@[simp] theorem State.modPath_aux (s : State) (f : PathSwSt → PathSwSt) : (s.modPath f).aux = s.aux := rfl
@[simp] theorem State.modPath_chg (s : State) (f : PathSwSt → PathSwSt) : (s.modPath f).chg = s.chg := rfl
@[simp] theorem State.modPath_thermal (s : State) (f : PathSwSt → PathSwSt) : (s.modPath f).thermal = s.thermal := rfl
@[simp] theorem State.modPath_pyr (s : State) (f : PathSwSt → PathSwSt) : (s.modPath f).pyr = s.pyr := rfl
@[simp] theorem State.modPath_safety (s : State) (f : PathSwSt → PathSwSt) : (s.modPath f).safety = s.safety := rfl
@[simp] theorem State.modPath_conns (s : State) (f : PathSwSt → PathSwSt) : (s.modPath f).conns = s.conns := rfl
@[simp] theorem State.modPath_crcs (s : State) (f : PathSwSt → PathSwSt) : (s.modPath f).crcs = s.crcs := rfl
@[simp] theorem State.modPath_chans (s : State) (f : PathSwSt → PathSwSt) : (s.modPath f).chans = s.chans := rfl
@[simp] theorem State.modPath_time (s : State) (f : PathSwSt → PathSwSt) : (s.modPath f).time = s.time := rfl
@[simp] theorem State.modPath_canA (s : State) (f : PathSwSt → PathSwSt) : (s.modPath f).canA = s.canA := rfl
@[simp] theorem State.modPath_sessions (s : State) (f : PathSwSt → PathSwSt) : (s.modPath f).sessions = s.sessions := rfl
@[simp] theorem State.modPath_img (s : State) (f : PathSwSt → PathSwSt) : (s.modPath f).img = s.img := rfl
@[simp] theorem State.modPath_cap (s : State) (f : PathSwSt → PathSwSt) : (s.modPath f).cap = s.cap := rfl
@[simp] theorem State.modPath_pending (s : State) (f : PathSwSt → PathSwSt) : (s.modPath f).pending = s.pending := rfl

/-! `State.modChg` -/

@[simp] theorem State.modChg_od (s : State) (f : ChgSt → ChgSt) : (s.modChg f).od = s.od := rfl
@[simp] theorem State.modChg_tb (s : State) (f : ChgSt → ChgSt) : (s.modChg f).tb = s.tb := rfl
@[simp] theorem State.modChg_fresh (s : State) (f : ChgSt → ChgSt) : (s.modChg f).fresh = s.fresh := rfl
@[simp] theorem State.modChg_out (s : State) (f : ChgSt → ChgSt) : (s.modChg f).out = s.out := rfl
@[simp] theorem State.modChg_log (s : State) (f : ChgSt → ChgSt) : (s.modChg f).log = s.log := rfl
@[simp] theorem State.modChg_bringup (s : State) (f : ChgSt → ChgSt) : (s.modChg f).bringup = s.bringup := rfl
@[simp] theorem State.modChg_clocks (s : State) (f : ChgSt → ChgSt) : (s.modChg f).clocks = s.clocks := rfl
@[simp] theorem State.modChg_links (s : State) (f : ChgSt → ChgSt) : (s.modChg f).links = s.links := rfl
@[simp] theorem State.modChg_drives (s : State) (f : ChgSt → ChgSt) : (s.modChg f).drives = s.drives := rfl
@[simp] theorem State.modChg_cells (s : State) (f : ChgSt → ChgSt) : (s.modChg f).cells = s.cells := rfl
@[simp] theorem State.modChg_legs (s : State) (f : ChgSt → ChgSt) : (s.modChg f).legs = s.legs := rfl
@[simp] theorem State.modChg_store (s : State) (f : ChgSt → ChgSt) : (s.modChg f).store = s.store := rfl
@[simp] theorem State.modChg_cust (s : State) (f : ChgSt → ChgSt) : (s.modChg f).cust = s.cust := rfl
@[simp] theorem State.modChg_shunts (s : State) (f : ChgSt → ChgSt) : (s.modChg f).shunts = s.shunts := rfl
@[simp] theorem State.modChg_seqs (s : State) (f : ChgSt → ChgSt) : (s.modChg f).seqs = s.seqs := rfl
@[simp] theorem State.modChg_gcps (s : State) (f : ChgSt → ChgSt) : (s.modChg f).gcps = s.gcps := rfl
@[simp] theorem State.modChg_axes (s : State) (f : ChgSt → ChgSt) : (s.modChg f).axes = s.axes := rfl
@[simp] theorem State.modChg_traction (s : State) (f : ChgSt → ChgSt) : (s.modChg f).traction = s.traction := rfl
@[simp] theorem State.modChg_pifs (s : State) (f : ChgSt → ChgSt) : (s.modChg f).pifs = s.pifs := rfl
@[simp] theorem State.modChg_lus (s : State) (f : ChgSt → ChgSt) : (s.modChg f).lus = s.lus := rfl
@[simp] theorem State.modChg_stageIn (s : State) (f : ChgSt → ChgSt) : (s.modChg f).stageIn = s.stageIn := rfl
@[simp] theorem State.modChg_lvCommand (s : State) (f : ChgSt → ChgSt) : (s.modChg f).lvCommand = s.lvCommand := rfl
@[simp] theorem State.modChg_engines (s : State) (f : ChgSt → ChgSt) : (s.modChg f).engines = s.engines := rfl
@[simp] theorem State.modChg_tasks (s : State) (f : ChgSt → ChgSt) : (s.modChg f).tasks = s.tasks := rfl
@[simp] theorem State.modChg_pool (s : State) (f : ChgSt → ChgSt) : (s.modChg f).pool = s.pool := rfl
@[simp] theorem State.modChg_gbx (s : State) (f : ChgSt → ChgSt) : (s.modChg f).gbx = s.gbx := rfl
@[simp] theorem State.modChg_dcl (s : State) (f : ChgSt → ChgSt) : (s.modChg f).dcl = s.dcl := rfl
@[simp] theorem State.modChg_aux (s : State) (f : ChgSt → ChgSt) : (s.modChg f).aux = s.aux := rfl
@[simp] theorem State.modChg_path (s : State) (f : ChgSt → ChgSt) : (s.modChg f).path = s.path := rfl
@[simp] theorem State.modChg_thermal (s : State) (f : ChgSt → ChgSt) : (s.modChg f).thermal = s.thermal := rfl
@[simp] theorem State.modChg_pyr (s : State) (f : ChgSt → ChgSt) : (s.modChg f).pyr = s.pyr := rfl
@[simp] theorem State.modChg_safety (s : State) (f : ChgSt → ChgSt) : (s.modChg f).safety = s.safety := rfl
@[simp] theorem State.modChg_conns (s : State) (f : ChgSt → ChgSt) : (s.modChg f).conns = s.conns := rfl
@[simp] theorem State.modChg_crcs (s : State) (f : ChgSt → ChgSt) : (s.modChg f).crcs = s.crcs := rfl
@[simp] theorem State.modChg_chans (s : State) (f : ChgSt → ChgSt) : (s.modChg f).chans = s.chans := rfl
@[simp] theorem State.modChg_time (s : State) (f : ChgSt → ChgSt) : (s.modChg f).time = s.time := rfl
@[simp] theorem State.modChg_canA (s : State) (f : ChgSt → ChgSt) : (s.modChg f).canA = s.canA := rfl
@[simp] theorem State.modChg_sessions (s : State) (f : ChgSt → ChgSt) : (s.modChg f).sessions = s.sessions := rfl
@[simp] theorem State.modChg_img (s : State) (f : ChgSt → ChgSt) : (s.modChg f).img = s.img := rfl
@[simp] theorem State.modChg_cap (s : State) (f : ChgSt → ChgSt) : (s.modChg f).cap = s.cap := rfl
@[simp] theorem State.modChg_pending (s : State) (f : ChgSt → ChgSt) : (s.modChg f).pending = s.pending := rfl

/-! `State.modSafety` -/

@[simp] theorem State.modSafety_od (s : State) (f : SafetySt → SafetySt) : (s.modSafety f).od = s.od := rfl
@[simp] theorem State.modSafety_tb (s : State) (f : SafetySt → SafetySt) : (s.modSafety f).tb = s.tb := rfl
@[simp] theorem State.modSafety_fresh (s : State) (f : SafetySt → SafetySt) : (s.modSafety f).fresh = s.fresh := rfl
@[simp] theorem State.modSafety_out (s : State) (f : SafetySt → SafetySt) : (s.modSafety f).out = s.out := rfl
@[simp] theorem State.modSafety_log (s : State) (f : SafetySt → SafetySt) : (s.modSafety f).log = s.log := rfl
@[simp] theorem State.modSafety_bringup (s : State) (f : SafetySt → SafetySt) : (s.modSafety f).bringup = s.bringup := rfl
@[simp] theorem State.modSafety_clocks (s : State) (f : SafetySt → SafetySt) : (s.modSafety f).clocks = s.clocks := rfl
@[simp] theorem State.modSafety_links (s : State) (f : SafetySt → SafetySt) : (s.modSafety f).links = s.links := rfl
@[simp] theorem State.modSafety_drives (s : State) (f : SafetySt → SafetySt) : (s.modSafety f).drives = s.drives := rfl
@[simp] theorem State.modSafety_cells (s : State) (f : SafetySt → SafetySt) : (s.modSafety f).cells = s.cells := rfl
@[simp] theorem State.modSafety_legs (s : State) (f : SafetySt → SafetySt) : (s.modSafety f).legs = s.legs := rfl
@[simp] theorem State.modSafety_store (s : State) (f : SafetySt → SafetySt) : (s.modSafety f).store = s.store := rfl
@[simp] theorem State.modSafety_cust (s : State) (f : SafetySt → SafetySt) : (s.modSafety f).cust = s.cust := rfl
@[simp] theorem State.modSafety_shunts (s : State) (f : SafetySt → SafetySt) : (s.modSafety f).shunts = s.shunts := rfl
@[simp] theorem State.modSafety_seqs (s : State) (f : SafetySt → SafetySt) : (s.modSafety f).seqs = s.seqs := rfl
@[simp] theorem State.modSafety_gcps (s : State) (f : SafetySt → SafetySt) : (s.modSafety f).gcps = s.gcps := rfl
@[simp] theorem State.modSafety_axes (s : State) (f : SafetySt → SafetySt) : (s.modSafety f).axes = s.axes := rfl
@[simp] theorem State.modSafety_traction (s : State) (f : SafetySt → SafetySt) : (s.modSafety f).traction = s.traction := rfl
@[simp] theorem State.modSafety_pifs (s : State) (f : SafetySt → SafetySt) : (s.modSafety f).pifs = s.pifs := rfl
@[simp] theorem State.modSafety_lus (s : State) (f : SafetySt → SafetySt) : (s.modSafety f).lus = s.lus := rfl
@[simp] theorem State.modSafety_stageIn (s : State) (f : SafetySt → SafetySt) : (s.modSafety f).stageIn = s.stageIn := rfl
@[simp] theorem State.modSafety_lvCommand (s : State) (f : SafetySt → SafetySt) : (s.modSafety f).lvCommand = s.lvCommand := rfl
@[simp] theorem State.modSafety_engines (s : State) (f : SafetySt → SafetySt) : (s.modSafety f).engines = s.engines := rfl
@[simp] theorem State.modSafety_tasks (s : State) (f : SafetySt → SafetySt) : (s.modSafety f).tasks = s.tasks := rfl
@[simp] theorem State.modSafety_pool (s : State) (f : SafetySt → SafetySt) : (s.modSafety f).pool = s.pool := rfl
@[simp] theorem State.modSafety_gbx (s : State) (f : SafetySt → SafetySt) : (s.modSafety f).gbx = s.gbx := rfl
@[simp] theorem State.modSafety_dcl (s : State) (f : SafetySt → SafetySt) : (s.modSafety f).dcl = s.dcl := rfl
@[simp] theorem State.modSafety_aux (s : State) (f : SafetySt → SafetySt) : (s.modSafety f).aux = s.aux := rfl
@[simp] theorem State.modSafety_chg (s : State) (f : SafetySt → SafetySt) : (s.modSafety f).chg = s.chg := rfl
@[simp] theorem State.modSafety_path (s : State) (f : SafetySt → SafetySt) : (s.modSafety f).path = s.path := rfl
@[simp] theorem State.modSafety_thermal (s : State) (f : SafetySt → SafetySt) : (s.modSafety f).thermal = s.thermal := rfl
@[simp] theorem State.modSafety_pyr (s : State) (f : SafetySt → SafetySt) : (s.modSafety f).pyr = s.pyr := rfl
@[simp] theorem State.modSafety_conns (s : State) (f : SafetySt → SafetySt) : (s.modSafety f).conns = s.conns := rfl
@[simp] theorem State.modSafety_crcs (s : State) (f : SafetySt → SafetySt) : (s.modSafety f).crcs = s.crcs := rfl
@[simp] theorem State.modSafety_chans (s : State) (f : SafetySt → SafetySt) : (s.modSafety f).chans = s.chans := rfl
@[simp] theorem State.modSafety_time (s : State) (f : SafetySt → SafetySt) : (s.modSafety f).time = s.time := rfl
@[simp] theorem State.modSafety_canA (s : State) (f : SafetySt → SafetySt) : (s.modSafety f).canA = s.canA := rfl
@[simp] theorem State.modSafety_sessions (s : State) (f : SafetySt → SafetySt) : (s.modSafety f).sessions = s.sessions := rfl
@[simp] theorem State.modSafety_img (s : State) (f : SafetySt → SafetySt) : (s.modSafety f).img = s.img := rfl
@[simp] theorem State.modSafety_cap (s : State) (f : SafetySt → SafetySt) : (s.modSafety f).cap = s.cap := rfl
@[simp] theorem State.modSafety_pending (s : State) (f : SafetySt → SafetySt) : (s.modSafety f).pending = s.pending := rfl

/-! `State.modConn` -/

@[simp] theorem State.modConn_od (s : State) (k : Fin 16) (f : ConnSt → ConnSt) : (s.modConn k f).od = s.od := rfl
@[simp] theorem State.modConn_tb (s : State) (k : Fin 16) (f : ConnSt → ConnSt) : (s.modConn k f).tb = s.tb := rfl
@[simp] theorem State.modConn_fresh (s : State) (k : Fin 16) (f : ConnSt → ConnSt) : (s.modConn k f).fresh = s.fresh := rfl
@[simp] theorem State.modConn_out (s : State) (k : Fin 16) (f : ConnSt → ConnSt) : (s.modConn k f).out = s.out := rfl
@[simp] theorem State.modConn_log (s : State) (k : Fin 16) (f : ConnSt → ConnSt) : (s.modConn k f).log = s.log := rfl
@[simp] theorem State.modConn_bringup (s : State) (k : Fin 16) (f : ConnSt → ConnSt) : (s.modConn k f).bringup = s.bringup := rfl
@[simp] theorem State.modConn_clocks (s : State) (k : Fin 16) (f : ConnSt → ConnSt) : (s.modConn k f).clocks = s.clocks := rfl
@[simp] theorem State.modConn_links (s : State) (k : Fin 16) (f : ConnSt → ConnSt) : (s.modConn k f).links = s.links := rfl
@[simp] theorem State.modConn_drives (s : State) (k : Fin 16) (f : ConnSt → ConnSt) : (s.modConn k f).drives = s.drives := rfl
@[simp] theorem State.modConn_cells (s : State) (k : Fin 16) (f : ConnSt → ConnSt) : (s.modConn k f).cells = s.cells := rfl
@[simp] theorem State.modConn_legs (s : State) (k : Fin 16) (f : ConnSt → ConnSt) : (s.modConn k f).legs = s.legs := rfl
@[simp] theorem State.modConn_store (s : State) (k : Fin 16) (f : ConnSt → ConnSt) : (s.modConn k f).store = s.store := rfl
@[simp] theorem State.modConn_cust (s : State) (k : Fin 16) (f : ConnSt → ConnSt) : (s.modConn k f).cust = s.cust := rfl
@[simp] theorem State.modConn_shunts (s : State) (k : Fin 16) (f : ConnSt → ConnSt) : (s.modConn k f).shunts = s.shunts := rfl
@[simp] theorem State.modConn_seqs (s : State) (k : Fin 16) (f : ConnSt → ConnSt) : (s.modConn k f).seqs = s.seqs := rfl
@[simp] theorem State.modConn_gcps (s : State) (k : Fin 16) (f : ConnSt → ConnSt) : (s.modConn k f).gcps = s.gcps := rfl
@[simp] theorem State.modConn_axes (s : State) (k : Fin 16) (f : ConnSt → ConnSt) : (s.modConn k f).axes = s.axes := rfl
@[simp] theorem State.modConn_traction (s : State) (k : Fin 16) (f : ConnSt → ConnSt) : (s.modConn k f).traction = s.traction := rfl
@[simp] theorem State.modConn_pifs (s : State) (k : Fin 16) (f : ConnSt → ConnSt) : (s.modConn k f).pifs = s.pifs := rfl
@[simp] theorem State.modConn_lus (s : State) (k : Fin 16) (f : ConnSt → ConnSt) : (s.modConn k f).lus = s.lus := rfl
@[simp] theorem State.modConn_stageIn (s : State) (k : Fin 16) (f : ConnSt → ConnSt) : (s.modConn k f).stageIn = s.stageIn := rfl
@[simp] theorem State.modConn_lvCommand (s : State) (k : Fin 16) (f : ConnSt → ConnSt) : (s.modConn k f).lvCommand = s.lvCommand := rfl
@[simp] theorem State.modConn_engines (s : State) (k : Fin 16) (f : ConnSt → ConnSt) : (s.modConn k f).engines = s.engines := rfl
@[simp] theorem State.modConn_tasks (s : State) (k : Fin 16) (f : ConnSt → ConnSt) : (s.modConn k f).tasks = s.tasks := rfl
@[simp] theorem State.modConn_pool (s : State) (k : Fin 16) (f : ConnSt → ConnSt) : (s.modConn k f).pool = s.pool := rfl
@[simp] theorem State.modConn_gbx (s : State) (k : Fin 16) (f : ConnSt → ConnSt) : (s.modConn k f).gbx = s.gbx := rfl
@[simp] theorem State.modConn_dcl (s : State) (k : Fin 16) (f : ConnSt → ConnSt) : (s.modConn k f).dcl = s.dcl := rfl
@[simp] theorem State.modConn_aux (s : State) (k : Fin 16) (f : ConnSt → ConnSt) : (s.modConn k f).aux = s.aux := rfl
@[simp] theorem State.modConn_chg (s : State) (k : Fin 16) (f : ConnSt → ConnSt) : (s.modConn k f).chg = s.chg := rfl
@[simp] theorem State.modConn_path (s : State) (k : Fin 16) (f : ConnSt → ConnSt) : (s.modConn k f).path = s.path := rfl
@[simp] theorem State.modConn_thermal (s : State) (k : Fin 16) (f : ConnSt → ConnSt) : (s.modConn k f).thermal = s.thermal := rfl
@[simp] theorem State.modConn_pyr (s : State) (k : Fin 16) (f : ConnSt → ConnSt) : (s.modConn k f).pyr = s.pyr := rfl
@[simp] theorem State.modConn_safety (s : State) (k : Fin 16) (f : ConnSt → ConnSt) : (s.modConn k f).safety = s.safety := rfl
@[simp] theorem State.modConn_crcs (s : State) (k : Fin 16) (f : ConnSt → ConnSt) : (s.modConn k f).crcs = s.crcs := rfl
@[simp] theorem State.modConn_chans (s : State) (k : Fin 16) (f : ConnSt → ConnSt) : (s.modConn k f).chans = s.chans := rfl
@[simp] theorem State.modConn_time (s : State) (k : Fin 16) (f : ConnSt → ConnSt) : (s.modConn k f).time = s.time := rfl
@[simp] theorem State.modConn_canA (s : State) (k : Fin 16) (f : ConnSt → ConnSt) : (s.modConn k f).canA = s.canA := rfl
@[simp] theorem State.modConn_sessions (s : State) (k : Fin 16) (f : ConnSt → ConnSt) : (s.modConn k f).sessions = s.sessions := rfl
@[simp] theorem State.modConn_img (s : State) (k : Fin 16) (f : ConnSt → ConnSt) : (s.modConn k f).img = s.img := rfl
@[simp] theorem State.modConn_cap (s : State) (k : Fin 16) (f : ConnSt → ConnSt) : (s.modConn k f).cap = s.cap := rfl
@[simp] theorem State.modConn_pending (s : State) (k : Fin 16) (f : ConnSt → ConnSt) : (s.modConn k f).pending = s.pending := rfl

/-! `State.modPyr` -/

@[simp] theorem State.modPyr_od (s : State) (f : PyrSt → PyrSt) : (s.modPyr f).od = s.od := rfl
@[simp] theorem State.modPyr_tb (s : State) (f : PyrSt → PyrSt) : (s.modPyr f).tb = s.tb := rfl
@[simp] theorem State.modPyr_fresh (s : State) (f : PyrSt → PyrSt) : (s.modPyr f).fresh = s.fresh := rfl
@[simp] theorem State.modPyr_out (s : State) (f : PyrSt → PyrSt) : (s.modPyr f).out = s.out := rfl
@[simp] theorem State.modPyr_log (s : State) (f : PyrSt → PyrSt) : (s.modPyr f).log = s.log := rfl
@[simp] theorem State.modPyr_bringup (s : State) (f : PyrSt → PyrSt) : (s.modPyr f).bringup = s.bringup := rfl
@[simp] theorem State.modPyr_clocks (s : State) (f : PyrSt → PyrSt) : (s.modPyr f).clocks = s.clocks := rfl
@[simp] theorem State.modPyr_links (s : State) (f : PyrSt → PyrSt) : (s.modPyr f).links = s.links := rfl
@[simp] theorem State.modPyr_drives (s : State) (f : PyrSt → PyrSt) : (s.modPyr f).drives = s.drives := rfl
@[simp] theorem State.modPyr_cells (s : State) (f : PyrSt → PyrSt) : (s.modPyr f).cells = s.cells := rfl
@[simp] theorem State.modPyr_legs (s : State) (f : PyrSt → PyrSt) : (s.modPyr f).legs = s.legs := rfl
@[simp] theorem State.modPyr_store (s : State) (f : PyrSt → PyrSt) : (s.modPyr f).store = s.store := rfl
@[simp] theorem State.modPyr_cust (s : State) (f : PyrSt → PyrSt) : (s.modPyr f).cust = s.cust := rfl
@[simp] theorem State.modPyr_shunts (s : State) (f : PyrSt → PyrSt) : (s.modPyr f).shunts = s.shunts := rfl
@[simp] theorem State.modPyr_seqs (s : State) (f : PyrSt → PyrSt) : (s.modPyr f).seqs = s.seqs := rfl
@[simp] theorem State.modPyr_gcps (s : State) (f : PyrSt → PyrSt) : (s.modPyr f).gcps = s.gcps := rfl
@[simp] theorem State.modPyr_axes (s : State) (f : PyrSt → PyrSt) : (s.modPyr f).axes = s.axes := rfl
@[simp] theorem State.modPyr_traction (s : State) (f : PyrSt → PyrSt) : (s.modPyr f).traction = s.traction := rfl
@[simp] theorem State.modPyr_pifs (s : State) (f : PyrSt → PyrSt) : (s.modPyr f).pifs = s.pifs := rfl
@[simp] theorem State.modPyr_lus (s : State) (f : PyrSt → PyrSt) : (s.modPyr f).lus = s.lus := rfl
@[simp] theorem State.modPyr_stageIn (s : State) (f : PyrSt → PyrSt) : (s.modPyr f).stageIn = s.stageIn := rfl
@[simp] theorem State.modPyr_lvCommand (s : State) (f : PyrSt → PyrSt) : (s.modPyr f).lvCommand = s.lvCommand := rfl
@[simp] theorem State.modPyr_engines (s : State) (f : PyrSt → PyrSt) : (s.modPyr f).engines = s.engines := rfl
@[simp] theorem State.modPyr_tasks (s : State) (f : PyrSt → PyrSt) : (s.modPyr f).tasks = s.tasks := rfl
@[simp] theorem State.modPyr_pool (s : State) (f : PyrSt → PyrSt) : (s.modPyr f).pool = s.pool := rfl
@[simp] theorem State.modPyr_gbx (s : State) (f : PyrSt → PyrSt) : (s.modPyr f).gbx = s.gbx := rfl
@[simp] theorem State.modPyr_dcl (s : State) (f : PyrSt → PyrSt) : (s.modPyr f).dcl = s.dcl := rfl
@[simp] theorem State.modPyr_aux (s : State) (f : PyrSt → PyrSt) : (s.modPyr f).aux = s.aux := rfl
@[simp] theorem State.modPyr_chg (s : State) (f : PyrSt → PyrSt) : (s.modPyr f).chg = s.chg := rfl
@[simp] theorem State.modPyr_path (s : State) (f : PyrSt → PyrSt) : (s.modPyr f).path = s.path := rfl
@[simp] theorem State.modPyr_thermal (s : State) (f : PyrSt → PyrSt) : (s.modPyr f).thermal = s.thermal := rfl
@[simp] theorem State.modPyr_safety (s : State) (f : PyrSt → PyrSt) : (s.modPyr f).safety = s.safety := rfl
@[simp] theorem State.modPyr_conns (s : State) (f : PyrSt → PyrSt) : (s.modPyr f).conns = s.conns := rfl
@[simp] theorem State.modPyr_crcs (s : State) (f : PyrSt → PyrSt) : (s.modPyr f).crcs = s.crcs := rfl
@[simp] theorem State.modPyr_chans (s : State) (f : PyrSt → PyrSt) : (s.modPyr f).chans = s.chans := rfl
@[simp] theorem State.modPyr_time (s : State) (f : PyrSt → PyrSt) : (s.modPyr f).time = s.time := rfl
@[simp] theorem State.modPyr_canA (s : State) (f : PyrSt → PyrSt) : (s.modPyr f).canA = s.canA := rfl
@[simp] theorem State.modPyr_sessions (s : State) (f : PyrSt → PyrSt) : (s.modPyr f).sessions = s.sessions := rfl
@[simp] theorem State.modPyr_img (s : State) (f : PyrSt → PyrSt) : (s.modPyr f).img = s.img := rfl
@[simp] theorem State.modPyr_cap (s : State) (f : PyrSt → PyrSt) : (s.modPyr f).cap = s.cap := rfl
@[simp] theorem State.modPyr_pending (s : State) (f : PyrSt → PyrSt) : (s.modPyr f).pending = s.pending := rfl

/-! `State.modGcp` -/

@[simp] theorem State.modGcp_od (s : State) (n : Fin 16) (f : GcpSt → GcpSt) : (s.modGcp n f).od = s.od := rfl
@[simp] theorem State.modGcp_tb (s : State) (n : Fin 16) (f : GcpSt → GcpSt) : (s.modGcp n f).tb = s.tb := rfl
@[simp] theorem State.modGcp_fresh (s : State) (n : Fin 16) (f : GcpSt → GcpSt) : (s.modGcp n f).fresh = s.fresh := rfl
@[simp] theorem State.modGcp_out (s : State) (n : Fin 16) (f : GcpSt → GcpSt) : (s.modGcp n f).out = s.out := rfl
@[simp] theorem State.modGcp_log (s : State) (n : Fin 16) (f : GcpSt → GcpSt) : (s.modGcp n f).log = s.log := rfl
@[simp] theorem State.modGcp_bringup (s : State) (n : Fin 16) (f : GcpSt → GcpSt) : (s.modGcp n f).bringup = s.bringup := rfl
@[simp] theorem State.modGcp_clocks (s : State) (n : Fin 16) (f : GcpSt → GcpSt) : (s.modGcp n f).clocks = s.clocks := rfl
@[simp] theorem State.modGcp_links (s : State) (n : Fin 16) (f : GcpSt → GcpSt) : (s.modGcp n f).links = s.links := rfl
@[simp] theorem State.modGcp_drives (s : State) (n : Fin 16) (f : GcpSt → GcpSt) : (s.modGcp n f).drives = s.drives := rfl
@[simp] theorem State.modGcp_cells (s : State) (n : Fin 16) (f : GcpSt → GcpSt) : (s.modGcp n f).cells = s.cells := rfl
@[simp] theorem State.modGcp_legs (s : State) (n : Fin 16) (f : GcpSt → GcpSt) : (s.modGcp n f).legs = s.legs := rfl
@[simp] theorem State.modGcp_store (s : State) (n : Fin 16) (f : GcpSt → GcpSt) : (s.modGcp n f).store = s.store := rfl
@[simp] theorem State.modGcp_cust (s : State) (n : Fin 16) (f : GcpSt → GcpSt) : (s.modGcp n f).cust = s.cust := rfl
@[simp] theorem State.modGcp_shunts (s : State) (n : Fin 16) (f : GcpSt → GcpSt) : (s.modGcp n f).shunts = s.shunts := rfl
@[simp] theorem State.modGcp_seqs (s : State) (n : Fin 16) (f : GcpSt → GcpSt) : (s.modGcp n f).seqs = s.seqs := rfl
@[simp] theorem State.modGcp_axes (s : State) (n : Fin 16) (f : GcpSt → GcpSt) : (s.modGcp n f).axes = s.axes := rfl
@[simp] theorem State.modGcp_traction (s : State) (n : Fin 16) (f : GcpSt → GcpSt) : (s.modGcp n f).traction = s.traction := rfl
@[simp] theorem State.modGcp_pifs (s : State) (n : Fin 16) (f : GcpSt → GcpSt) : (s.modGcp n f).pifs = s.pifs := rfl
@[simp] theorem State.modGcp_lus (s : State) (n : Fin 16) (f : GcpSt → GcpSt) : (s.modGcp n f).lus = s.lus := rfl
@[simp] theorem State.modGcp_stageIn (s : State) (n : Fin 16) (f : GcpSt → GcpSt) : (s.modGcp n f).stageIn = s.stageIn := rfl
@[simp] theorem State.modGcp_lvCommand (s : State) (n : Fin 16) (f : GcpSt → GcpSt) : (s.modGcp n f).lvCommand = s.lvCommand := rfl
@[simp] theorem State.modGcp_engines (s : State) (n : Fin 16) (f : GcpSt → GcpSt) : (s.modGcp n f).engines = s.engines := rfl
@[simp] theorem State.modGcp_tasks (s : State) (n : Fin 16) (f : GcpSt → GcpSt) : (s.modGcp n f).tasks = s.tasks := rfl
@[simp] theorem State.modGcp_pool (s : State) (n : Fin 16) (f : GcpSt → GcpSt) : (s.modGcp n f).pool = s.pool := rfl
@[simp] theorem State.modGcp_gbx (s : State) (n : Fin 16) (f : GcpSt → GcpSt) : (s.modGcp n f).gbx = s.gbx := rfl
@[simp] theorem State.modGcp_dcl (s : State) (n : Fin 16) (f : GcpSt → GcpSt) : (s.modGcp n f).dcl = s.dcl := rfl
@[simp] theorem State.modGcp_aux (s : State) (n : Fin 16) (f : GcpSt → GcpSt) : (s.modGcp n f).aux = s.aux := rfl
@[simp] theorem State.modGcp_chg (s : State) (n : Fin 16) (f : GcpSt → GcpSt) : (s.modGcp n f).chg = s.chg := rfl
@[simp] theorem State.modGcp_path (s : State) (n : Fin 16) (f : GcpSt → GcpSt) : (s.modGcp n f).path = s.path := rfl
@[simp] theorem State.modGcp_thermal (s : State) (n : Fin 16) (f : GcpSt → GcpSt) : (s.modGcp n f).thermal = s.thermal := rfl
@[simp] theorem State.modGcp_pyr (s : State) (n : Fin 16) (f : GcpSt → GcpSt) : (s.modGcp n f).pyr = s.pyr := rfl
@[simp] theorem State.modGcp_safety (s : State) (n : Fin 16) (f : GcpSt → GcpSt) : (s.modGcp n f).safety = s.safety := rfl
@[simp] theorem State.modGcp_conns (s : State) (n : Fin 16) (f : GcpSt → GcpSt) : (s.modGcp n f).conns = s.conns := rfl
@[simp] theorem State.modGcp_crcs (s : State) (n : Fin 16) (f : GcpSt → GcpSt) : (s.modGcp n f).crcs = s.crcs := rfl
@[simp] theorem State.modGcp_chans (s : State) (n : Fin 16) (f : GcpSt → GcpSt) : (s.modGcp n f).chans = s.chans := rfl
@[simp] theorem State.modGcp_time (s : State) (n : Fin 16) (f : GcpSt → GcpSt) : (s.modGcp n f).time = s.time := rfl
@[simp] theorem State.modGcp_canA (s : State) (n : Fin 16) (f : GcpSt → GcpSt) : (s.modGcp n f).canA = s.canA := rfl
@[simp] theorem State.modGcp_sessions (s : State) (n : Fin 16) (f : GcpSt → GcpSt) : (s.modGcp n f).sessions = s.sessions := rfl
@[simp] theorem State.modGcp_img (s : State) (n : Fin 16) (f : GcpSt → GcpSt) : (s.modGcp n f).img = s.img := rfl
@[simp] theorem State.modGcp_cap (s : State) (n : Fin 16) (f : GcpSt → GcpSt) : (s.modGcp n f).cap = s.cap := rfl
@[simp] theorem State.modGcp_pending (s : State) (n : Fin 16) (f : GcpSt → GcpSt) : (s.modGcp n f).pending = s.pending := rfl

/-! `State.modSeq` -/

@[simp] theorem State.modSeq_od (s : State) (n : Fin 8) (f : SeqSt → SeqSt) : (s.modSeq n f).od = s.od := rfl
@[simp] theorem State.modSeq_tb (s : State) (n : Fin 8) (f : SeqSt → SeqSt) : (s.modSeq n f).tb = s.tb := rfl
@[simp] theorem State.modSeq_fresh (s : State) (n : Fin 8) (f : SeqSt → SeqSt) : (s.modSeq n f).fresh = s.fresh := rfl
@[simp] theorem State.modSeq_out (s : State) (n : Fin 8) (f : SeqSt → SeqSt) : (s.modSeq n f).out = s.out := rfl
@[simp] theorem State.modSeq_log (s : State) (n : Fin 8) (f : SeqSt → SeqSt) : (s.modSeq n f).log = s.log := rfl
@[simp] theorem State.modSeq_bringup (s : State) (n : Fin 8) (f : SeqSt → SeqSt) : (s.modSeq n f).bringup = s.bringup := rfl
@[simp] theorem State.modSeq_clocks (s : State) (n : Fin 8) (f : SeqSt → SeqSt) : (s.modSeq n f).clocks = s.clocks := rfl
@[simp] theorem State.modSeq_links (s : State) (n : Fin 8) (f : SeqSt → SeqSt) : (s.modSeq n f).links = s.links := rfl
@[simp] theorem State.modSeq_drives (s : State) (n : Fin 8) (f : SeqSt → SeqSt) : (s.modSeq n f).drives = s.drives := rfl
@[simp] theorem State.modSeq_cells (s : State) (n : Fin 8) (f : SeqSt → SeqSt) : (s.modSeq n f).cells = s.cells := rfl
@[simp] theorem State.modSeq_legs (s : State) (n : Fin 8) (f : SeqSt → SeqSt) : (s.modSeq n f).legs = s.legs := rfl
@[simp] theorem State.modSeq_store (s : State) (n : Fin 8) (f : SeqSt → SeqSt) : (s.modSeq n f).store = s.store := rfl
@[simp] theorem State.modSeq_cust (s : State) (n : Fin 8) (f : SeqSt → SeqSt) : (s.modSeq n f).cust = s.cust := rfl
@[simp] theorem State.modSeq_shunts (s : State) (n : Fin 8) (f : SeqSt → SeqSt) : (s.modSeq n f).shunts = s.shunts := rfl
@[simp] theorem State.modSeq_gcps (s : State) (n : Fin 8) (f : SeqSt → SeqSt) : (s.modSeq n f).gcps = s.gcps := rfl
@[simp] theorem State.modSeq_axes (s : State) (n : Fin 8) (f : SeqSt → SeqSt) : (s.modSeq n f).axes = s.axes := rfl
@[simp] theorem State.modSeq_traction (s : State) (n : Fin 8) (f : SeqSt → SeqSt) : (s.modSeq n f).traction = s.traction := rfl
@[simp] theorem State.modSeq_pifs (s : State) (n : Fin 8) (f : SeqSt → SeqSt) : (s.modSeq n f).pifs = s.pifs := rfl
@[simp] theorem State.modSeq_lus (s : State) (n : Fin 8) (f : SeqSt → SeqSt) : (s.modSeq n f).lus = s.lus := rfl
@[simp] theorem State.modSeq_stageIn (s : State) (n : Fin 8) (f : SeqSt → SeqSt) : (s.modSeq n f).stageIn = s.stageIn := rfl
@[simp] theorem State.modSeq_lvCommand (s : State) (n : Fin 8) (f : SeqSt → SeqSt) : (s.modSeq n f).lvCommand = s.lvCommand := rfl
@[simp] theorem State.modSeq_engines (s : State) (n : Fin 8) (f : SeqSt → SeqSt) : (s.modSeq n f).engines = s.engines := rfl
@[simp] theorem State.modSeq_tasks (s : State) (n : Fin 8) (f : SeqSt → SeqSt) : (s.modSeq n f).tasks = s.tasks := rfl
@[simp] theorem State.modSeq_pool (s : State) (n : Fin 8) (f : SeqSt → SeqSt) : (s.modSeq n f).pool = s.pool := rfl
@[simp] theorem State.modSeq_gbx (s : State) (n : Fin 8) (f : SeqSt → SeqSt) : (s.modSeq n f).gbx = s.gbx := rfl
@[simp] theorem State.modSeq_dcl (s : State) (n : Fin 8) (f : SeqSt → SeqSt) : (s.modSeq n f).dcl = s.dcl := rfl
@[simp] theorem State.modSeq_aux (s : State) (n : Fin 8) (f : SeqSt → SeqSt) : (s.modSeq n f).aux = s.aux := rfl
@[simp] theorem State.modSeq_chg (s : State) (n : Fin 8) (f : SeqSt → SeqSt) : (s.modSeq n f).chg = s.chg := rfl
@[simp] theorem State.modSeq_path (s : State) (n : Fin 8) (f : SeqSt → SeqSt) : (s.modSeq n f).path = s.path := rfl
@[simp] theorem State.modSeq_thermal (s : State) (n : Fin 8) (f : SeqSt → SeqSt) : (s.modSeq n f).thermal = s.thermal := rfl
@[simp] theorem State.modSeq_pyr (s : State) (n : Fin 8) (f : SeqSt → SeqSt) : (s.modSeq n f).pyr = s.pyr := rfl
@[simp] theorem State.modSeq_safety (s : State) (n : Fin 8) (f : SeqSt → SeqSt) : (s.modSeq n f).safety = s.safety := rfl
@[simp] theorem State.modSeq_conns (s : State) (n : Fin 8) (f : SeqSt → SeqSt) : (s.modSeq n f).conns = s.conns := rfl
@[simp] theorem State.modSeq_crcs (s : State) (n : Fin 8) (f : SeqSt → SeqSt) : (s.modSeq n f).crcs = s.crcs := rfl
@[simp] theorem State.modSeq_chans (s : State) (n : Fin 8) (f : SeqSt → SeqSt) : (s.modSeq n f).chans = s.chans := rfl
@[simp] theorem State.modSeq_time (s : State) (n : Fin 8) (f : SeqSt → SeqSt) : (s.modSeq n f).time = s.time := rfl
@[simp] theorem State.modSeq_canA (s : State) (n : Fin 8) (f : SeqSt → SeqSt) : (s.modSeq n f).canA = s.canA := rfl
@[simp] theorem State.modSeq_sessions (s : State) (n : Fin 8) (f : SeqSt → SeqSt) : (s.modSeq n f).sessions = s.sessions := rfl
@[simp] theorem State.modSeq_img (s : State) (n : Fin 8) (f : SeqSt → SeqSt) : (s.modSeq n f).img = s.img := rfl
@[simp] theorem State.modSeq_cap (s : State) (n : Fin 8) (f : SeqSt → SeqSt) : (s.modSeq n f).cap = s.cap := rfl
@[simp] theorem State.modSeq_pending (s : State) (n : Fin 8) (f : SeqSt → SeqSt) : (s.modSeq n f).pending = s.pending := rfl

/-! `State.modTable` -/

@[simp] theorem State.modTable_od (s : State) (i : Fin 5) (f : SessionSt → SessionSt) : (s.modTable i f).od = s.od := rfl
@[simp] theorem State.modTable_tb (s : State) (i : Fin 5) (f : SessionSt → SessionSt) : (s.modTable i f).tb = s.tb := rfl
@[simp] theorem State.modTable_fresh (s : State) (i : Fin 5) (f : SessionSt → SessionSt) : (s.modTable i f).fresh = s.fresh := rfl
@[simp] theorem State.modTable_out (s : State) (i : Fin 5) (f : SessionSt → SessionSt) : (s.modTable i f).out = s.out := rfl
@[simp] theorem State.modTable_log (s : State) (i : Fin 5) (f : SessionSt → SessionSt) : (s.modTable i f).log = s.log := rfl
@[simp] theorem State.modTable_bringup (s : State) (i : Fin 5) (f : SessionSt → SessionSt) : (s.modTable i f).bringup = s.bringup := rfl
@[simp] theorem State.modTable_clocks (s : State) (i : Fin 5) (f : SessionSt → SessionSt) : (s.modTable i f).clocks = s.clocks := rfl
@[simp] theorem State.modTable_links (s : State) (i : Fin 5) (f : SessionSt → SessionSt) : (s.modTable i f).links = s.links := rfl
@[simp] theorem State.modTable_drives (s : State) (i : Fin 5) (f : SessionSt → SessionSt) : (s.modTable i f).drives = s.drives := rfl
@[simp] theorem State.modTable_cells (s : State) (i : Fin 5) (f : SessionSt → SessionSt) : (s.modTable i f).cells = s.cells := rfl
@[simp] theorem State.modTable_legs (s : State) (i : Fin 5) (f : SessionSt → SessionSt) : (s.modTable i f).legs = s.legs := rfl
@[simp] theorem State.modTable_store (s : State) (i : Fin 5) (f : SessionSt → SessionSt) : (s.modTable i f).store = s.store := rfl
@[simp] theorem State.modTable_cust (s : State) (i : Fin 5) (f : SessionSt → SessionSt) : (s.modTable i f).cust = s.cust := rfl
@[simp] theorem State.modTable_shunts (s : State) (i : Fin 5) (f : SessionSt → SessionSt) : (s.modTable i f).shunts = s.shunts := rfl
@[simp] theorem State.modTable_seqs (s : State) (i : Fin 5) (f : SessionSt → SessionSt) : (s.modTable i f).seqs = s.seqs := rfl
@[simp] theorem State.modTable_gcps (s : State) (i : Fin 5) (f : SessionSt → SessionSt) : (s.modTable i f).gcps = s.gcps := rfl
@[simp] theorem State.modTable_axes (s : State) (i : Fin 5) (f : SessionSt → SessionSt) : (s.modTable i f).axes = s.axes := rfl
@[simp] theorem State.modTable_traction (s : State) (i : Fin 5) (f : SessionSt → SessionSt) : (s.modTable i f).traction = s.traction := rfl
@[simp] theorem State.modTable_pifs (s : State) (i : Fin 5) (f : SessionSt → SessionSt) : (s.modTable i f).pifs = s.pifs := rfl
@[simp] theorem State.modTable_lus (s : State) (i : Fin 5) (f : SessionSt → SessionSt) : (s.modTable i f).lus = s.lus := rfl
@[simp] theorem State.modTable_stageIn (s : State) (i : Fin 5) (f : SessionSt → SessionSt) : (s.modTable i f).stageIn = s.stageIn := rfl
@[simp] theorem State.modTable_lvCommand (s : State) (i : Fin 5) (f : SessionSt → SessionSt) : (s.modTable i f).lvCommand = s.lvCommand := rfl
@[simp] theorem State.modTable_engines (s : State) (i : Fin 5) (f : SessionSt → SessionSt) : (s.modTable i f).engines = s.engines := rfl
@[simp] theorem State.modTable_tasks (s : State) (i : Fin 5) (f : SessionSt → SessionSt) : (s.modTable i f).tasks = s.tasks := rfl
@[simp] theorem State.modTable_pool (s : State) (i : Fin 5) (f : SessionSt → SessionSt) : (s.modTable i f).pool = s.pool := rfl
@[simp] theorem State.modTable_gbx (s : State) (i : Fin 5) (f : SessionSt → SessionSt) : (s.modTable i f).gbx = s.gbx := rfl
@[simp] theorem State.modTable_dcl (s : State) (i : Fin 5) (f : SessionSt → SessionSt) : (s.modTable i f).dcl = s.dcl := rfl
@[simp] theorem State.modTable_aux (s : State) (i : Fin 5) (f : SessionSt → SessionSt) : (s.modTable i f).aux = s.aux := rfl
@[simp] theorem State.modTable_chg (s : State) (i : Fin 5) (f : SessionSt → SessionSt) : (s.modTable i f).chg = s.chg := rfl
@[simp] theorem State.modTable_path (s : State) (i : Fin 5) (f : SessionSt → SessionSt) : (s.modTable i f).path = s.path := rfl
@[simp] theorem State.modTable_thermal (s : State) (i : Fin 5) (f : SessionSt → SessionSt) : (s.modTable i f).thermal = s.thermal := rfl
@[simp] theorem State.modTable_pyr (s : State) (i : Fin 5) (f : SessionSt → SessionSt) : (s.modTable i f).pyr = s.pyr := rfl
@[simp] theorem State.modTable_safety (s : State) (i : Fin 5) (f : SessionSt → SessionSt) : (s.modTable i f).safety = s.safety := rfl
@[simp] theorem State.modTable_conns (s : State) (i : Fin 5) (f : SessionSt → SessionSt) : (s.modTable i f).conns = s.conns := rfl
@[simp] theorem State.modTable_crcs (s : State) (i : Fin 5) (f : SessionSt → SessionSt) : (s.modTable i f).crcs = s.crcs := rfl
@[simp] theorem State.modTable_chans (s : State) (i : Fin 5) (f : SessionSt → SessionSt) : (s.modTable i f).chans = s.chans := rfl
@[simp] theorem State.modTable_time (s : State) (i : Fin 5) (f : SessionSt → SessionSt) : (s.modTable i f).time = s.time := rfl
@[simp] theorem State.modTable_canA (s : State) (i : Fin 5) (f : SessionSt → SessionSt) : (s.modTable i f).canA = s.canA := rfl
@[simp] theorem State.modTable_img (s : State) (i : Fin 5) (f : SessionSt → SessionSt) : (s.modTable i f).img = s.img := rfl
@[simp] theorem State.modTable_cap (s : State) (i : Fin 5) (f : SessionSt → SessionSt) : (s.modTable i f).cap = s.cap := rfl
@[simp] theorem State.modTable_pending (s : State) (i : Fin 5) (f : SessionSt → SessionSt) : (s.modTable i f).pending = s.pending := rfl

/-! `State.modBringup` -/

@[simp] theorem State.modBringup_od (s : State) (f : BringupSt → BringupSt) : (s.modBringup f).od = s.od := rfl
@[simp] theorem State.modBringup_tb (s : State) (f : BringupSt → BringupSt) : (s.modBringup f).tb = s.tb := rfl
@[simp] theorem State.modBringup_fresh (s : State) (f : BringupSt → BringupSt) : (s.modBringup f).fresh = s.fresh := rfl
@[simp] theorem State.modBringup_out (s : State) (f : BringupSt → BringupSt) : (s.modBringup f).out = s.out := rfl
@[simp] theorem State.modBringup_log (s : State) (f : BringupSt → BringupSt) : (s.modBringup f).log = s.log := rfl
@[simp] theorem State.modBringup_clocks (s : State) (f : BringupSt → BringupSt) : (s.modBringup f).clocks = s.clocks := rfl
@[simp] theorem State.modBringup_links (s : State) (f : BringupSt → BringupSt) : (s.modBringup f).links = s.links := rfl
@[simp] theorem State.modBringup_drives (s : State) (f : BringupSt → BringupSt) : (s.modBringup f).drives = s.drives := rfl
@[simp] theorem State.modBringup_cells (s : State) (f : BringupSt → BringupSt) : (s.modBringup f).cells = s.cells := rfl
@[simp] theorem State.modBringup_legs (s : State) (f : BringupSt → BringupSt) : (s.modBringup f).legs = s.legs := rfl
@[simp] theorem State.modBringup_store (s : State) (f : BringupSt → BringupSt) : (s.modBringup f).store = s.store := rfl
@[simp] theorem State.modBringup_cust (s : State) (f : BringupSt → BringupSt) : (s.modBringup f).cust = s.cust := rfl
@[simp] theorem State.modBringup_shunts (s : State) (f : BringupSt → BringupSt) : (s.modBringup f).shunts = s.shunts := rfl
@[simp] theorem State.modBringup_seqs (s : State) (f : BringupSt → BringupSt) : (s.modBringup f).seqs = s.seqs := rfl
@[simp] theorem State.modBringup_gcps (s : State) (f : BringupSt → BringupSt) : (s.modBringup f).gcps = s.gcps := rfl
@[simp] theorem State.modBringup_axes (s : State) (f : BringupSt → BringupSt) : (s.modBringup f).axes = s.axes := rfl
@[simp] theorem State.modBringup_traction (s : State) (f : BringupSt → BringupSt) : (s.modBringup f).traction = s.traction := rfl
@[simp] theorem State.modBringup_pifs (s : State) (f : BringupSt → BringupSt) : (s.modBringup f).pifs = s.pifs := rfl
@[simp] theorem State.modBringup_lus (s : State) (f : BringupSt → BringupSt) : (s.modBringup f).lus = s.lus := rfl
@[simp] theorem State.modBringup_stageIn (s : State) (f : BringupSt → BringupSt) : (s.modBringup f).stageIn = s.stageIn := rfl
@[simp] theorem State.modBringup_lvCommand (s : State) (f : BringupSt → BringupSt) : (s.modBringup f).lvCommand = s.lvCommand := rfl
@[simp] theorem State.modBringup_engines (s : State) (f : BringupSt → BringupSt) : (s.modBringup f).engines = s.engines := rfl
@[simp] theorem State.modBringup_tasks (s : State) (f : BringupSt → BringupSt) : (s.modBringup f).tasks = s.tasks := rfl
@[simp] theorem State.modBringup_pool (s : State) (f : BringupSt → BringupSt) : (s.modBringup f).pool = s.pool := rfl
@[simp] theorem State.modBringup_gbx (s : State) (f : BringupSt → BringupSt) : (s.modBringup f).gbx = s.gbx := rfl
@[simp] theorem State.modBringup_dcl (s : State) (f : BringupSt → BringupSt) : (s.modBringup f).dcl = s.dcl := rfl
@[simp] theorem State.modBringup_aux (s : State) (f : BringupSt → BringupSt) : (s.modBringup f).aux = s.aux := rfl
@[simp] theorem State.modBringup_chg (s : State) (f : BringupSt → BringupSt) : (s.modBringup f).chg = s.chg := rfl
@[simp] theorem State.modBringup_path (s : State) (f : BringupSt → BringupSt) : (s.modBringup f).path = s.path := rfl
@[simp] theorem State.modBringup_thermal (s : State) (f : BringupSt → BringupSt) : (s.modBringup f).thermal = s.thermal := rfl
@[simp] theorem State.modBringup_pyr (s : State) (f : BringupSt → BringupSt) : (s.modBringup f).pyr = s.pyr := rfl
@[simp] theorem State.modBringup_safety (s : State) (f : BringupSt → BringupSt) : (s.modBringup f).safety = s.safety := rfl
@[simp] theorem State.modBringup_conns (s : State) (f : BringupSt → BringupSt) : (s.modBringup f).conns = s.conns := rfl
@[simp] theorem State.modBringup_crcs (s : State) (f : BringupSt → BringupSt) : (s.modBringup f).crcs = s.crcs := rfl
@[simp] theorem State.modBringup_chans (s : State) (f : BringupSt → BringupSt) : (s.modBringup f).chans = s.chans := rfl
@[simp] theorem State.modBringup_time (s : State) (f : BringupSt → BringupSt) : (s.modBringup f).time = s.time := rfl
@[simp] theorem State.modBringup_canA (s : State) (f : BringupSt → BringupSt) : (s.modBringup f).canA = s.canA := rfl
@[simp] theorem State.modBringup_sessions (s : State) (f : BringupSt → BringupSt) : (s.modBringup f).sessions = s.sessions := rfl
@[simp] theorem State.modBringup_img (s : State) (f : BringupSt → BringupSt) : (s.modBringup f).img = s.img := rfl
@[simp] theorem State.modBringup_cap (s : State) (f : BringupSt → BringupSt) : (s.modBringup f).cap = s.cap := rfl
@[simp] theorem State.modBringup_pending (s : State) (f : BringupSt → BringupSt) : (s.modBringup f).pending = s.pending := rfl

/-! `State.modThermal` -/

@[simp] theorem State.modThermal_od (s : State) (f : ThermalSt → ThermalSt) : (s.modThermal f).od = s.od := rfl
@[simp] theorem State.modThermal_tb (s : State) (f : ThermalSt → ThermalSt) : (s.modThermal f).tb = s.tb := rfl
@[simp] theorem State.modThermal_fresh (s : State) (f : ThermalSt → ThermalSt) : (s.modThermal f).fresh = s.fresh := rfl
@[simp] theorem State.modThermal_out (s : State) (f : ThermalSt → ThermalSt) : (s.modThermal f).out = s.out := rfl
@[simp] theorem State.modThermal_log (s : State) (f : ThermalSt → ThermalSt) : (s.modThermal f).log = s.log := rfl
@[simp] theorem State.modThermal_bringup (s : State) (f : ThermalSt → ThermalSt) : (s.modThermal f).bringup = s.bringup := rfl
@[simp] theorem State.modThermal_clocks (s : State) (f : ThermalSt → ThermalSt) : (s.modThermal f).clocks = s.clocks := rfl
@[simp] theorem State.modThermal_links (s : State) (f : ThermalSt → ThermalSt) : (s.modThermal f).links = s.links := rfl
@[simp] theorem State.modThermal_drives (s : State) (f : ThermalSt → ThermalSt) : (s.modThermal f).drives = s.drives := rfl
@[simp] theorem State.modThermal_cells (s : State) (f : ThermalSt → ThermalSt) : (s.modThermal f).cells = s.cells := rfl
@[simp] theorem State.modThermal_legs (s : State) (f : ThermalSt → ThermalSt) : (s.modThermal f).legs = s.legs := rfl
@[simp] theorem State.modThermal_store (s : State) (f : ThermalSt → ThermalSt) : (s.modThermal f).store = s.store := rfl
@[simp] theorem State.modThermal_cust (s : State) (f : ThermalSt → ThermalSt) : (s.modThermal f).cust = s.cust := rfl
@[simp] theorem State.modThermal_shunts (s : State) (f : ThermalSt → ThermalSt) : (s.modThermal f).shunts = s.shunts := rfl
@[simp] theorem State.modThermal_seqs (s : State) (f : ThermalSt → ThermalSt) : (s.modThermal f).seqs = s.seqs := rfl
@[simp] theorem State.modThermal_gcps (s : State) (f : ThermalSt → ThermalSt) : (s.modThermal f).gcps = s.gcps := rfl
@[simp] theorem State.modThermal_axes (s : State) (f : ThermalSt → ThermalSt) : (s.modThermal f).axes = s.axes := rfl
@[simp] theorem State.modThermal_traction (s : State) (f : ThermalSt → ThermalSt) : (s.modThermal f).traction = s.traction := rfl
@[simp] theorem State.modThermal_pifs (s : State) (f : ThermalSt → ThermalSt) : (s.modThermal f).pifs = s.pifs := rfl
@[simp] theorem State.modThermal_lus (s : State) (f : ThermalSt → ThermalSt) : (s.modThermal f).lus = s.lus := rfl
@[simp] theorem State.modThermal_stageIn (s : State) (f : ThermalSt → ThermalSt) : (s.modThermal f).stageIn = s.stageIn := rfl
@[simp] theorem State.modThermal_lvCommand (s : State) (f : ThermalSt → ThermalSt) : (s.modThermal f).lvCommand = s.lvCommand := rfl
@[simp] theorem State.modThermal_engines (s : State) (f : ThermalSt → ThermalSt) : (s.modThermal f).engines = s.engines := rfl
@[simp] theorem State.modThermal_tasks (s : State) (f : ThermalSt → ThermalSt) : (s.modThermal f).tasks = s.tasks := rfl
@[simp] theorem State.modThermal_pool (s : State) (f : ThermalSt → ThermalSt) : (s.modThermal f).pool = s.pool := rfl
@[simp] theorem State.modThermal_gbx (s : State) (f : ThermalSt → ThermalSt) : (s.modThermal f).gbx = s.gbx := rfl
@[simp] theorem State.modThermal_dcl (s : State) (f : ThermalSt → ThermalSt) : (s.modThermal f).dcl = s.dcl := rfl
@[simp] theorem State.modThermal_aux (s : State) (f : ThermalSt → ThermalSt) : (s.modThermal f).aux = s.aux := rfl
@[simp] theorem State.modThermal_chg (s : State) (f : ThermalSt → ThermalSt) : (s.modThermal f).chg = s.chg := rfl
@[simp] theorem State.modThermal_path (s : State) (f : ThermalSt → ThermalSt) : (s.modThermal f).path = s.path := rfl
@[simp] theorem State.modThermal_pyr (s : State) (f : ThermalSt → ThermalSt) : (s.modThermal f).pyr = s.pyr := rfl
@[simp] theorem State.modThermal_safety (s : State) (f : ThermalSt → ThermalSt) : (s.modThermal f).safety = s.safety := rfl
@[simp] theorem State.modThermal_conns (s : State) (f : ThermalSt → ThermalSt) : (s.modThermal f).conns = s.conns := rfl
@[simp] theorem State.modThermal_crcs (s : State) (f : ThermalSt → ThermalSt) : (s.modThermal f).crcs = s.crcs := rfl
@[simp] theorem State.modThermal_chans (s : State) (f : ThermalSt → ThermalSt) : (s.modThermal f).chans = s.chans := rfl
@[simp] theorem State.modThermal_time (s : State) (f : ThermalSt → ThermalSt) : (s.modThermal f).time = s.time := rfl
@[simp] theorem State.modThermal_canA (s : State) (f : ThermalSt → ThermalSt) : (s.modThermal f).canA = s.canA := rfl
@[simp] theorem State.modThermal_sessions (s : State) (f : ThermalSt → ThermalSt) : (s.modThermal f).sessions = s.sessions := rfl
@[simp] theorem State.modThermal_img (s : State) (f : ThermalSt → ThermalSt) : (s.modThermal f).img = s.img := rfl
@[simp] theorem State.modThermal_cap (s : State) (f : ThermalSt → ThermalSt) : (s.modThermal f).cap = s.cap := rfl
@[simp] theorem State.modThermal_pending (s : State) (f : ThermalSt → ThermalSt) : (s.modThermal f).pending = s.pending := rfl

/-! `State.modTime` -/

@[simp] theorem State.modTime_od (s : State) (f : TimeSt → TimeSt) : (s.modTime f).od = s.od := rfl
@[simp] theorem State.modTime_tb (s : State) (f : TimeSt → TimeSt) : (s.modTime f).tb = s.tb := rfl
@[simp] theorem State.modTime_fresh (s : State) (f : TimeSt → TimeSt) : (s.modTime f).fresh = s.fresh := rfl
@[simp] theorem State.modTime_out (s : State) (f : TimeSt → TimeSt) : (s.modTime f).out = s.out := rfl
@[simp] theorem State.modTime_log (s : State) (f : TimeSt → TimeSt) : (s.modTime f).log = s.log := rfl
@[simp] theorem State.modTime_bringup (s : State) (f : TimeSt → TimeSt) : (s.modTime f).bringup = s.bringup := rfl
@[simp] theorem State.modTime_clocks (s : State) (f : TimeSt → TimeSt) : (s.modTime f).clocks = s.clocks := rfl
@[simp] theorem State.modTime_links (s : State) (f : TimeSt → TimeSt) : (s.modTime f).links = s.links := rfl
@[simp] theorem State.modTime_drives (s : State) (f : TimeSt → TimeSt) : (s.modTime f).drives = s.drives := rfl
@[simp] theorem State.modTime_cells (s : State) (f : TimeSt → TimeSt) : (s.modTime f).cells = s.cells := rfl
@[simp] theorem State.modTime_legs (s : State) (f : TimeSt → TimeSt) : (s.modTime f).legs = s.legs := rfl
@[simp] theorem State.modTime_store (s : State) (f : TimeSt → TimeSt) : (s.modTime f).store = s.store := rfl
@[simp] theorem State.modTime_cust (s : State) (f : TimeSt → TimeSt) : (s.modTime f).cust = s.cust := rfl
@[simp] theorem State.modTime_shunts (s : State) (f : TimeSt → TimeSt) : (s.modTime f).shunts = s.shunts := rfl
@[simp] theorem State.modTime_seqs (s : State) (f : TimeSt → TimeSt) : (s.modTime f).seqs = s.seqs := rfl
@[simp] theorem State.modTime_gcps (s : State) (f : TimeSt → TimeSt) : (s.modTime f).gcps = s.gcps := rfl
@[simp] theorem State.modTime_axes (s : State) (f : TimeSt → TimeSt) : (s.modTime f).axes = s.axes := rfl
@[simp] theorem State.modTime_traction (s : State) (f : TimeSt → TimeSt) : (s.modTime f).traction = s.traction := rfl
@[simp] theorem State.modTime_pifs (s : State) (f : TimeSt → TimeSt) : (s.modTime f).pifs = s.pifs := rfl
@[simp] theorem State.modTime_lus (s : State) (f : TimeSt → TimeSt) : (s.modTime f).lus = s.lus := rfl
@[simp] theorem State.modTime_stageIn (s : State) (f : TimeSt → TimeSt) : (s.modTime f).stageIn = s.stageIn := rfl
@[simp] theorem State.modTime_lvCommand (s : State) (f : TimeSt → TimeSt) : (s.modTime f).lvCommand = s.lvCommand := rfl
@[simp] theorem State.modTime_engines (s : State) (f : TimeSt → TimeSt) : (s.modTime f).engines = s.engines := rfl
@[simp] theorem State.modTime_tasks (s : State) (f : TimeSt → TimeSt) : (s.modTime f).tasks = s.tasks := rfl
@[simp] theorem State.modTime_pool (s : State) (f : TimeSt → TimeSt) : (s.modTime f).pool = s.pool := rfl
@[simp] theorem State.modTime_gbx (s : State) (f : TimeSt → TimeSt) : (s.modTime f).gbx = s.gbx := rfl
@[simp] theorem State.modTime_dcl (s : State) (f : TimeSt → TimeSt) : (s.modTime f).dcl = s.dcl := rfl
@[simp] theorem State.modTime_aux (s : State) (f : TimeSt → TimeSt) : (s.modTime f).aux = s.aux := rfl
@[simp] theorem State.modTime_chg (s : State) (f : TimeSt → TimeSt) : (s.modTime f).chg = s.chg := rfl
@[simp] theorem State.modTime_path (s : State) (f : TimeSt → TimeSt) : (s.modTime f).path = s.path := rfl
@[simp] theorem State.modTime_thermal (s : State) (f : TimeSt → TimeSt) : (s.modTime f).thermal = s.thermal := rfl
@[simp] theorem State.modTime_pyr (s : State) (f : TimeSt → TimeSt) : (s.modTime f).pyr = s.pyr := rfl
@[simp] theorem State.modTime_safety (s : State) (f : TimeSt → TimeSt) : (s.modTime f).safety = s.safety := rfl
@[simp] theorem State.modTime_conns (s : State) (f : TimeSt → TimeSt) : (s.modTime f).conns = s.conns := rfl
@[simp] theorem State.modTime_crcs (s : State) (f : TimeSt → TimeSt) : (s.modTime f).crcs = s.crcs := rfl
@[simp] theorem State.modTime_chans (s : State) (f : TimeSt → TimeSt) : (s.modTime f).chans = s.chans := rfl
@[simp] theorem State.modTime_canA (s : State) (f : TimeSt → TimeSt) : (s.modTime f).canA = s.canA := rfl
@[simp] theorem State.modTime_sessions (s : State) (f : TimeSt → TimeSt) : (s.modTime f).sessions = s.sessions := rfl
@[simp] theorem State.modTime_img (s : State) (f : TimeSt → TimeSt) : (s.modTime f).img = s.img := rfl
@[simp] theorem State.modTime_cap (s : State) (f : TimeSt → TimeSt) : (s.modTime f).cap = s.cap := rfl
@[simp] theorem State.modTime_pending (s : State) (f : TimeSt → TimeSt) : (s.modTime f).pending = s.pending := rfl

@[simp] theorem State.elapse_tb (s : State) (dt : Nat) : (s.elapse dt).tb = s.tb + dt := rfl
@[simp] theorem State.elapse_out (s : State) (dt : Nat) : (s.elapse dt).out = [] := rfl
@[simp] theorem State.emit_out (s : State) (o : Output) : (s.emit o).out = s.out ++ [o] := rfl
@[simp] theorem State.modCanA_canA (s : State) (f : CanASt → CanASt) : (s.modCanA f).canA = f s.canA := rfl
@[simp] theorem State.modCap_cap (s : State) (f : CapSt → CapSt) : (s.modCap f).cap = f s.cap := rfl
@[simp] theorem State.modPool_pool (s : State) (f : PoolSt → PoolSt) : (s.modPool f).pool = f s.pool := rfl
@[simp] theorem State.modImg_img (s : State) (f : ImgSt → ImgSt) : (s.modImg f).img = f s.img := rfl
@[simp] theorem State.modLog_log (s : State) (f : LogSt → LogSt) : (s.modLog f).log = f s.log := rfl
@[simp] theorem State.modDcl_dcl (s : State) (f : DclSt → DclSt) : (s.modDcl f).dcl = f s.dcl := rfl
@[simp] theorem State.modAux_aux (s : State) (f : AuxSt → AuxSt) : (s.modAux f).aux = f s.aux := rfl
@[simp] theorem State.modPath_path (s : State) (f : PathSwSt → PathSwSt) : (s.modPath f).path = f s.path := rfl
@[simp] theorem State.modChg_chg (s : State) (f : ChgSt → ChgSt) : (s.modChg f).chg = f s.chg := rfl
@[simp] theorem State.modSafety_safety (s : State) (f : SafetySt → SafetySt) : (s.modSafety f).safety = f s.safety := rfl
@[simp] theorem State.modPyr_pyr (s : State) (f : PyrSt → PyrSt) : (s.modPyr f).pyr = f s.pyr := rfl
@[simp] theorem State.modBringup_bringup (s : State) (f : BringupSt → BringupSt) : (s.modBringup f).bringup = f s.bringup := rfl
@[simp] theorem State.modThermal_thermal (s : State) (f : ThermalSt → ThermalSt) : (s.modThermal f).thermal = f s.thermal := rfl
@[simp] theorem State.modTime_time (s : State) (f : TimeSt → TimeSt) : (s.modTime f).time = f s.time := rfl

end Sys2Proof.Machine
end

