-- ==== Sys2Proof/Laws/Store.lean ====
section
/-! SUPPORT. The two stores: a read after a write, what a write leaves alone, and the canonical form that every write
keeps; status bits and fields. -/
namespace Sys2Proof.Machine
open Sys2Proof

/-! ### The object dictionary's list -/

theorem storeFind_erase (k j : Nat) (l : List (Nat × Val)) :
    storeFind j (storeErase k l) = if j = k then none else storeFind j l := by
  induction l with
  | nil => simp [storeErase, storeFind]
  | cons e t ih =>
    obtain ⟨a, v⟩ := e
    by_cases h : a = k <;> by_cases h' : j = k <;> by_cases h'' : a = j <;>
      simp_all [storeErase, storeFind]

theorem storeErase_all (k b : Nat) (l : List (Nat × Val)) (h : (l.all fun e => decide (b < e.1)) = true) :
    ((storeErase k l).all fun e => decide (b < e.1)) = true := by
  induction l with
  | nil => rfl
  | cons e t ih =>
    obtain ⟨a, w⟩ := e
    simp only [List.all_cons, Bool.and_eq_true] at h
    unfold storeErase
    split
    · exact ih h.2
    · simp only [List.all_cons, Bool.and_eq_true]; exact ⟨h.1, ih h.2⟩

theorem storeErase_wf (k : Nat) (l : List (Nat × Val)) (h : storeWf l = true) : storeWf (storeErase k l) = true := by
  induction l with
  | nil => rfl
  | cons e t ih =>
    obtain ⟨a, w⟩ := e
    simp only [storeWf, Bool.and_eq_true] at h
    unfold storeErase
    split
    · exact ih h.2
    · simp only [storeWf, Bool.and_eq_true]; exact ⟨⟨h.1.1, storeErase_all k a t h.1.2⟩, ih h.2⟩

theorem storeInsert_all (k b : Nat) (v : Val) (l : List (Nat × Val)) (hb : b < k)
    (h : (l.all fun e => decide (b < e.1)) = true) :
    ((storeInsert k v l).all fun e => decide (b < e.1)) = true := by
  induction l with
  | nil => simp [storeInsert, hb]
  | cons e t ih =>
    obtain ⟨a, w⟩ := e
    simp only [List.all_cons, Bool.and_eq_true, decide_eq_true_eq] at h
    unfold storeInsert
    split
    · simp only [List.all_cons, Bool.and_eq_true, decide_eq_true_eq]; exact ⟨hb, h.1, h.2⟩
    · split
      · simp only [List.all_cons, Bool.and_eq_true, decide_eq_true_eq]; exact ⟨hb, h.2⟩
      · simp only [List.all_cons, Bool.and_eq_true, decide_eq_true_eq]; exact ⟨h.1, ih h.2⟩

theorem storeInsert_wf (k : Nat) (v : Val) (l : List (Nat × Val)) (hv : v ≠ dictDefault k) (h : storeWf l = true) :
    storeWf (storeInsert k v l) = true := by
  induction l with
  | nil => simp [storeInsert, storeWf, hv]
  | cons e t ih =>
    obtain ⟨a, w⟩ := e
    have h0 := h
    simp only [storeWf, Bool.and_eq_true] at h
    unfold storeInsert
    split
    next hk =>
      rw [storeWf, h0]
      simp only [Bool.and_eq_true, bne_iff_ne, ne_eq, hv, not_false_eq_true, true_and, and_true, List.all_cons,
        decide_eq_true_eq, hk]
      refine List.all_eq_true.mpr fun e he => ?_
      have := List.all_eq_true.mp h.1.2 e he
      simp only [decide_eq_true_eq] at this ⊢; omega
    next hk =>
      split
      next he =>
        subst he
        simp only [storeWf, Bool.and_eq_true, bne_iff_ne, ne_eq]
        exact ⟨⟨hv, h.1.2⟩, h.2⟩
      next he =>
        simp only [storeWf, Bool.and_eq_true]
        exact ⟨⟨h.1.1, storeInsert_all k a v t (by omega) h.1.2⟩, ih h.2⟩

/-- Writes keep the canonical form of the dictionary. -/
theorem State.set_wf (s : State) (k : Nat) (v : Val) (h : storeWf s.od = true) : storeWf (s.set k v).od = true := by
  unfold State.set
  dsimp only
  split
  · exact storeErase_wf k _ h
  · next hv => exact storeInsert_wf k v _ hv h

/-! ### Reading after a write -/

theorem storeFind_insert_same (k : Nat) (v : Val) (l : List (Nat × Val)) : storeFind k (storeInsert k v l) = some v := by
  induction l with
  | nil => simp [storeInsert, storeFind]
  | cons e t ih =>
    obtain ⟨a, w⟩ := e
    unfold storeInsert
    split
    · simp [storeFind]
    · split
      · simp [storeFind]
      · next h => simp only [storeFind, h, if_false]; exact ih

theorem storeFind_insert_ne (k j : Nat) (v : Val) (l : List (Nat × Val)) (h : j ≠ k) :
    storeFind j (storeInsert k v l) = storeFind j l := by
  induction l with
  | nil => simp [storeInsert, storeFind, h.symm]
  | cons e t ih =>
    obtain ⟨a, w⟩ := e
    unfold storeInsert
    split
    · simp [storeFind, h.symm]
    · split
      · next he => subst he; simp [storeFind, h.symm]
      · simp only [storeFind, ih]

/-- A read after a write of the same object gives the value written, in every state. -/
@[simp] theorem State.get_set_same (s : State) (k : Nat) (v : Val) : (s.set k v).get k = v := by
  unfold State.set State.get
  dsimp only
  split
  · next h => rw [storeFind_erase]; simp [h]
  · rw [storeFind_insert_same]; rfl

/-- A write leaves every other object alone. -/
theorem State.get_set_ne (s : State) (k j : Nat) (v : Val) (h : j ≠ k) : (s.set k v).get j = s.get j := by
  unfold State.set State.get
  dsimp only
  split
  · rw [storeFind_erase, if_neg h]
  · rw [storeFind_insert_ne k j v _ h]

theorem State.get_set (s : State) (k j : Nat) (v : Val) : (s.set k v).get j = if j = k then v else s.get j := by
  split
  · next h => subst h; simp
  · next h => exact s.get_set_ne k j v h

/-- An object is read from the dictionary's list alone. -/
theorem State.get_of_od {s t : State} (h : t.od = s.od) (k : Nat) : t.get k = s.get k := by
  unfold State.get; rw [h]
theorem State.int_of_od {s t : State} (h : t.od = s.od) (k : Nat) : t.int k = s.int k := by
  unfold State.int; rw [State.get_of_od h]
theorem State.nat_of_od {s t : State} (h : t.od = s.od) (k : Nat) : t.nat k = s.nat k := by
  unfold State.nat; rw [State.get_of_od h]
theorem State.num_of_od {s t : State} (h : t.od = s.od) (k : Nat) : t.num k = s.num k := by
  unfold State.num; rw [State.get_of_od h]
theorem State.bit_of_od {s t : State} (h : t.od = s.od) (k i : Nat) : t.bit k i = s.bit k i := by
  unfold State.bit; rw [State.nat_of_od h]
theorem State.flag_of_od {s t : State} (h : t.od = s.od) (k : Nat) : t.flag k = s.flag k := by
  unfold State.flag; rw [State.get_of_od h]

theorem State.int_set (s : State) (k j : Nat) (v : Val) : (s.set k v).int j = if j = k then v.toInt else s.int j := by
  simp only [State.int, State.get_set]; split <;> rfl
theorem State.nat_set (s : State) (k j : Nat) (v : Val) :
    (s.set k v).nat j = if j = k then v.toInt.toNat else s.nat j := by
  simp only [State.nat, State.get_set]; split <;> rfl
theorem State.num_set (s : State) (k j : Nat) (v : Val) : (s.set k v).num j = if j = k then v.toRat else s.num j := by
  simp only [State.num, State.get_set]; split <;> rfl

theorem State.nat_setN (s : State) (k j v : Nat) : (s.setN k v).nat j = if j = k then v else s.nat j := by
  simp [State.setN, State.nat_set, Val.toInt]
theorem State.int_setI (s : State) (k j : Nat) (v : Int) : (s.setI k v).int j = if j = k then v else s.int j := by
  simp [State.setI, State.int_set, Val.toInt]
theorem State.num_setQ (s : State) (k j : Nat) (q : Rat) : (s.setQ k q).num j = if j = k then q else s.num j := by
  simp [State.setQ, State.num_set, Val.toRat]

/-! ### Bits and fields of a status word -/

theorem withBit_same (n i : Nat) (b : Bool) : (withBit n i b).testBit i = b := by
  unfold withBit
  split
  · assumption
  · next h =>
    cases b
    · simp only [Bool.not_eq_false] at h
      simp only [Bool.false_eq_true, if_false]
      have h1 : n / 2 ^ i % 2 = 1 := by simpa [Nat.testBit_eq_decide_div_mod_eq] using h
      have h2 : 2 ^ i ≤ n := by
        by_contra hc
        rw [Nat.div_eq_of_lt (by omega)] at h1; omega
      have h3 : (n - 2 ^ i) / 2 ^ i = n / 2 ^ i - 1 := by
        have := Nat.sub_mul_div n (2 ^ i) 1
        simpa using this
      rw [Nat.testBit_eq_decide_div_mod_eq, h3]
      simp; omega
    · simp only [if_true]
      have h1 : n / 2 ^ i % 2 = 0 := by
        simpa [Nat.testBit_eq_decide_div_mod_eq] using h
      rw [Nat.testBit_eq_decide_div_mod_eq, Nat.add_div_right _ (Nat.two_pow_pos i)]
      simp; omega

theorem State.bit_setBit_same (s : State) (k i : Nat) (b : Bool) : (s.setBit k i b).bit k i = b := by
  unfold State.bit State.setBit
  rw [State.nat_setN, if_pos rfl, withBit_same]

theorem State.bit_setBit_ne (s : State) (k j i m : Nat) (b : Bool) (h : j ≠ k) :
    (s.setBit k i b).bit j m = s.bit j m := by
  unfold State.bit State.setBit
  rw [State.nat_setN, if_neg h]

theorem State.get_setBit_ne (s : State) (k j i : Nat) (b : Bool) (h : j ≠ k) : (s.setBit k i b).get j = s.get j :=
  s.get_set_ne k j _ h

theorem State.nat_setBit_ne (s : State) (k j i : Nat) (b : Bool) (h : j ≠ k) : (s.setBit k i b).nat j = s.nat j := by
  unfold State.nat; rw [State.get_setBit_ne s k j i b h]

/-! ### The customer area -/

theorem Memory.read_erase (m : List Host.Cell) (a b : Nat) :
    Memory.read (Memory.erase a m) b = if b = a then Memory.unlisted else Memory.read m b := by
  induction m with
  | nil => simp [Memory.erase, Memory.read]
  | cons e t ih =>
    obtain ⟨c, v⟩ := e
    by_cases h : c = a <;> by_cases h' : b = a <;> by_cases h'' : c = b <;> simp_all [Memory.erase, Memory.read]

theorem Memory.read_insert (m : List Host.Cell) (a b : Nat) (v : Byte) :
    Memory.read (Memory.insert a v m) b = if b = a then v else Memory.read m b := by
  induction m with
  | nil => simp [Memory.insert, Memory.read, eq_comm]
  | cons e t ih =>
    obtain ⟨c, w⟩ := e
    unfold Memory.insert
    split
    · simp only [Memory.read, eq_comm]
    · split
      · next h => subst h; simp only [Memory.read, eq_comm]; split <;> rfl
      · next h => simp only [Memory.read, ih]; split <;> simp_all

/-- A read after a write of one octet: the octet written at its address, every other one as before. -/
theorem Memory.read_write (m : List Host.Cell) (a b : Nat) (v : Byte) :
    Memory.read (Memory.write m a v) b = if b = a then v else Memory.read m b := by
  unfold Memory.write
  split
  · next h => rw [Memory.read_erase, h]
  · exact Memory.read_insert m a b v

theorem Memory.erase_all (a b : Nat) (m : List Host.Cell) (h : (m.all fun e => decide (b < e.1)) = true) :
    ((Memory.erase a m).all fun e => decide (b < e.1)) = true := by
  induction m with
  | nil => rfl
  | cons e t ih =>
    obtain ⟨c, w⟩ := e
    simp only [List.all_cons, Bool.and_eq_true] at h
    unfold Memory.erase
    split
    · exact ih h.2
    · simp only [List.all_cons, Bool.and_eq_true]; exact ⟨h.1, ih h.2⟩

theorem Memory.insert_all (a b : Nat) (v : Byte) (m : List Host.Cell) (hb : b < a)
    (h : (m.all fun e => decide (b < e.1)) = true) :
    ((Memory.insert a v m).all fun e => decide (b < e.1)) = true := by
  induction m with
  | nil => simp [Memory.insert, hb]
  | cons e t ih =>
    obtain ⟨c, w⟩ := e
    simp only [List.all_cons, Bool.and_eq_true, decide_eq_true_eq] at h
    unfold Memory.insert
    split
    · simp only [List.all_cons, Bool.and_eq_true, decide_eq_true_eq]; exact ⟨hb, h.1, h.2⟩
    · split
      · simp only [List.all_cons, Bool.and_eq_true, decide_eq_true_eq]; exact ⟨hb, h.2⟩
      · simp only [List.all_cons, Bool.and_eq_true, decide_eq_true_eq]; exact ⟨h.1, ih h.2⟩

/-- Every write keeps the canonical form of the customer area. -/
theorem Memory.write_wf (m : List Host.Cell) (a : Nat) (v : Byte) (h : Memory.wf m = true) :
    Memory.wf (Memory.write m a v) = true := by
  unfold Memory.write
  split
  · induction m with
    | nil => rfl
    | cons e t ih =>
      obtain ⟨c, w⟩ := e
      simp only [Memory.wf, Bool.and_eq_true] at h
      unfold Memory.erase
      split
      · exact ih h.2
      · simp only [Memory.wf, Bool.and_eq_true]; exact ⟨⟨h.1.1, Memory.erase_all a c t h.1.2⟩, ih h.2⟩
  · next hv =>
    induction m with
    | nil => simp [Memory.insert, Memory.wf, hv]
    | cons e t ih =>
      obtain ⟨c, w⟩ := e
      have h0 := h
      simp only [Memory.wf, Bool.and_eq_true] at h
      unfold Memory.insert
      split
      next hk =>
        rw [Memory.wf, h0]
        simp only [Bool.and_eq_true, bne_iff_ne, ne_eq, hv, not_false_eq_true, true_and, and_true, List.all_cons,
          decide_eq_true_eq, hk]
        refine List.all_eq_true.mpr fun e he => ?_
        have := List.all_eq_true.mp h.1.2 e he
        simp only [decide_eq_true_eq] at this ⊢; omega
      next hk =>
        split
        next he =>
          subst he
          simp only [Memory.wf, Bool.and_eq_true, bne_iff_ne, ne_eq]
          exact ⟨⟨hv, h.1.2⟩, h.2⟩
        next he =>
          simp only [Memory.wf, Bool.and_eq_true]
          exact ⟨⟨h.1.1, Memory.insert_all a c v t (by omega) h.1.2⟩, ih h.2⟩

theorem Memory.writeAll_wf (l : List Byte) (m : List Host.Cell) (a : Nat) (h : Memory.wf m = true) :
    Memory.wf (Memory.writeAll m a l) = true := by
  induction l generalizing m a with
  | nil => exact h
  | cons v t ih => exact ih _ _ (Memory.write_wf m a v h)

/-- A write of a run of octets leaves every octet outside the run alone. -/
theorem Memory.read_writeAll_ne (l : List Byte) (m : List Host.Cell) (a b : Nat) (h : b < a ∨ a + l.length ≤ b) :
    Memory.read (Memory.writeAll m a l) b = Memory.read m b := by
  induction l generalizing m a with
  | nil => rfl
  | cons v t ih =>
    simp only [List.length_cons] at h
    rw [Memory.writeAll, ih _ _ (by omega), Memory.read_write, if_neg (by omega)]

end Sys2Proof.Machine
end

