-- ==== Sys2Proof/Laws/Ops.lean ====
section
/-! SUPPORT. What each shared operation can do, said once: folds over units, reads of a unit after an update of one,
counters, the event log, an object write, and the answer of a command. -/
namespace Sys2Proof.Machine
open Sys2Proof

/-! ### Updates of one unit of many -/

theorem get_upd {α : Type} {n : Nat} (v : Vector α n) (i j : Fin n) (f : α → α) :
    (upd v i f).get j = if j = i then f (v.get i) else v.get j := by
  have hi := Vector.get_eq_getElem v i
  have hj := Vector.get_eq_getElem v j
  by_cases h : j = i
  · subst h; simp [upd, Vector.get_eq_getElem]
  · have : i.val ≠ j.val := fun e => h (Fin.ext e.symm)
    simp [upd, Vector.get_eq_getElem, h, Vector.getElem_set_ne, this]

@[simp] theorem get_upd_same {α : Type} {n : Nat} (v : Vector α n) (i : Fin n) (f : α → α) :
    (upd v i f).get i = f (v.get i) := by rw [get_upd, if_pos rfl]
theorem get_upd_ne {α : Type} {n : Nat} (v : Vector α n) {i j : Fin n} (h : j ≠ i) (f : α → α) :
    (upd v i f).get j = v.get j := by rw [get_upd, if_neg h]

theorem Drive.idx_inj {d e : Drive} (h : d.idx = e.idx) : d = e := by
  cases d <;> cases e <;> first | rfl | exact absurd h (by decide)

theorem State.drv_modDrv (s : State) (d e : Drive) (f : DriveSt → DriveSt) :
    (s.modDrv d f).drv e = if e = d then f (s.drv d) else s.drv e := by
  by_cases h : e = d
  · subst h; simp [State.drv, State.modDrv]
  · rw [if_neg h]; exact get_upd_ne _ (fun x => h (Drive.idx_inj x)) f
@[simp] theorem State.drv_modDrv_same (s : State) (d : Drive) (f : DriveSt → DriveSt) :
    (s.modDrv d f).drv d = f (s.drv d) := by rw [State.drv_modDrv, if_pos rfl]
theorem State.ds_modDrv_ne (s : State) {d e : Drive} (h : e ≠ d) (f : DriveSt → DriveSt) :
    (s.modDrv d f).ds e = s.ds e := by simp [State.ds, State.drv_modDrv, h]

theorem State.cell_modCell (s : State) (c b : Cell) (f : CellSt → CellSt) :
    (s.modCell c f).cell b = if b = c then f (s.cell c) else s.cell b := get_upd _ _ _ _
@[simp] theorem State.cell_modCell_same (s : State) (c : Cell) (f : CellSt → CellSt) :
    (s.modCell c f).cell c = f (s.cell c) := get_upd_same _ _ _

theorem State.leg_modLeg (s : State) (l m : Leg) (f : LegSt → LegSt) :
    (s.modLeg l f).leg m = if m = l then f (s.leg l) else s.leg m := get_upd _ _ _ _
@[simp] theorem State.leg_modLeg_same (s : State) (l : Leg) (f : LegSt → LegSt) :
    (s.modLeg l f).leg l = f (s.leg l) := get_upd_same _ _ _

theorem Link.idx_inj {l m : Link} (h : l.idx = m.idx) : l = m := by
  cases l <;> cases m <;> first | rfl | exact absurd h (by decide)
theorem State.link_modLink (s : State) (l m : Link) (f : LinkSt → LinkSt) :
    (s.modLink l f).link m = if m = l then f (s.link l) else s.link m := by
  by_cases h : m = l
  · subst h; simp [State.link, State.modLink]
  · rw [if_neg h]; exact get_upd_ne _ (fun x => h (Link.idx_inj x)) f

/-! ### Conditional and repeated updates -/

@[simp] theorem State.when_true (s : State) (f : State → State) : s.when true f = f s := rfl
@[simp] theorem State.when_false (s : State) (f : State → State) : s.when false f = s := rfl

/-- What an update keeps, it keeps when it is applied under a condition. -/
theorem State.when_keeps {P : State → Prop} {f : State → State} (c : Bool) (hf : ∀ s, P s → P (f s)) (s : State) (h : P s) :
    P (s.when c f) := by
  cases c
  · exact h
  · exact hf s h

/-- What every single update keeps, the updates of a whole list keep. -/
theorem State.each_keeps {α : Type} {P : State → Prop} {f : α → State → State} (l : List α)
    (hf : ∀ a ∈ l, ∀ s, P s → P (f a s)) (s : State) (h : P s) : P (s.each l f) := by
  induction l generalizing s with
  | nil => exact h
  | cons a l ih =>
    exact ih (fun b hb => hf b (List.mem_cons_of_mem _ hb)) _ (hf a (List.mem_cons_self ..) s h)

@[simp] theorem State.each_nil {α : Type} (s : State) (f : α → State → State) : s.each [] f = s := rfl
@[simp] theorem State.each_cons {α : Type} (s : State) (a : α) (l : List α) (f : α → State → State) :
    s.each (a :: l) f = (f a s).each l f := rfl

/-- A function of the state that no single update changes is not changed by the updates of a list. -/
theorem State.each_same {α β : Type} (g : State → β) {f : α → State → State} (l : List α)
    (hf : ∀ a s, g (f a s) = g s) (s : State) : g (s.each l f) = g s :=
  State.each_keeps (P := fun t => g t = g s) l (fun a _ t h => (hf a t).trans h) s rfl
theorem State.when_same {β : Type} (g : State → β) {f : State → State} (c : Bool) (hf : ∀ s, g (f s) = g s) (s : State) :
    g (s.when c f) = g s := State.when_keeps (P := fun t => g t = g s) c (fun t h => (hf t).trans h) s rfl

/-! ### Counters (R13, R491) -/

/-- A counter below its largest value counts; its flag stays. -/
theorem State.countBy_of_lt (s : State) (c : Counter) (n : Nat) (h : s.nat c.key + n < 2 ^ c.width) :
    s.countBy c n = s.setN c.key (s.nat c.key + n) := by rw [State.countBy, if_pos h]

theorem State.nat_count (s : State) (c : Counter) (h : s.nat c.key + 1 < 2 ^ c.width) :
    (s.count c).nat c.key = s.nat c.key + 1 := by
  rw [State.count, State.countBy_of_lt s c 1 h, State.nat_setN, if_pos rfl]

/-- A count changes its object, its flag word and the overflow map alone. -/
theorem State.get_countBy_ne (s : State) (c : Counter) (n k : Nat) (h1 : k ≠ c.key) (h2 : k ≠ c.flag)
    (h3 : k ≠ Od.CNT_CNT_OVF_MAP) : (s.countBy c n).get k = s.get k := by
  unfold State.countBy
  split
  · exact State.get_set_ne _ _ _ _ h1
  · rw [State.get_setBit_ne _ _ _ _ _ h3, State.get_setBit_ne _ _ _ _ _ h2]
    exact State.get_set_ne _ _ _ _ h1

theorem State.get_count_ne (s : State) (c : Counter) (k : Nat) (h1 : k ≠ c.key) (h2 : k ≠ c.flag)
    (h3 : k ≠ Od.CNT_CNT_OVF_MAP) : (s.count c).get k = s.get k := State.get_countBy_ne s c 1 k h1 h2 h3

/-- A count keeps every part of the state but the object store. -/
theorem State.countBy_parts (s : State) (c : Counter) (n : Nat) : { s.countBy c n with od := s.od } = s := by
  unfold State.countBy
  split <;> rfl

/-! ### The event log (R69, R488, R490) -/

@[simp] theorem State.event_get (s : State) (code source detail k : Nat) : (s.event code source detail).get k = s.get k := rfl

/-- An event that finds room is the newest one. -/
theorem State.newestEvent_event (s : State) (code source detail : Nat) (h : s.logRoom = true) :
    (s.event code source detail).newestEvent = some ⟨s.stampOf (eventDie code source detail), code, source, eventSeverity code, detail⟩ := by
  have h32 : s.log.buffer.length < 32 := of_decide_eq_true h
  have hr : (s.event code source detail).logReady = s.logReady := rfl
  unfold State.newestEvent
  rw [hr]
  cases hu : s.logReady
  · by_cases hf : eventSeverity code = .fault ∨ eventSeverity code = .safe <;> simp [State.event, LogSt.push, hu, hf]
  · by_cases hf : eventSeverity code = .fault ∨ eventSeverity code = .safe <;> simp [State.event, LogSt.push, hu, hf, h32]

theorem State.logged_event (s : State) (code source detail : Nat) (h : s.logRoom = true) :
    (s.event code source detail).logged code source detail = true := by
  unfold State.logged
  rw [State.newestEvent_event s code source detail h]
  have hs : (s.event code source detail).stampOf (eventDie code source detail) = s.stampOf (eventDie code source detail) := rfl
  simp [hs]

/-! ### Object writes (R474, R475, R486) -/

/-- A session's write is answered as its effect says: none before the dictionary answers; aborted on the diagnostic path
and without the role; else refused with the effect's code, or 0x08000021 behind a closed wrapper; else aborted or done by
arbitration. -/
theorem State.request_ok (s : State) (who : Requester) (key : Nat) (role : Role) (effect : State → Except Nat State)
    (t : State) (hup : s.dictUp = true) (hd : (s.touch who).diagOnly = false)
    (hr : role.num ≤ ((s.touch who).roleOf who).num) (ha : who = .canA → key ∈ canAKeys)
    (hw : (s.touch who).walled key = false) (hl : (s.touch who).arbLost who key = false)
    (he : effect (s.touch who) = .ok t) :
    s.request who key role effect =
      (s.touch who).answer who (.ok ((t.when ((s.touch who).arbWon who key) fun t => t.arbCount who key).noteWrite who key)) := by
  have hn : ¬ (((s.touch who).roleOf who).num < role.num ∨ (who = .canA ∧ key ∉ canAKeys)) := by
    rintro (h | ⟨h, h'⟩)
    · omega
    · exact h' (ha h)
  unfold State.request
  simp only [hup, hd, he, hw, hl, if_neg hn]
  rfl

theorem State.request_error (s : State) (who : Requester) (key : Nat) (role : Role) (effect : State → Except Nat State)
    (c : Nat) (hup : s.dictUp = true) (hd : (s.touch who).diagOnly = false)
    (hr : role.num ≤ ((s.touch who).roleOf who).num) (ha : who = .canA → key ∈ canAKeys)
    (hw : (s.touch who).walled key = false) (he : effect (s.touch who) = .error c) :
    s.request who key role effect = (s.touch who).answer who (.error c) := by
  have hn : ¬ (((s.touch who).roleOf who).num < role.num ∨ (who = .canA ∧ key ∉ canAKeys)) := by
    rintro (h | ⟨h, h'⟩)
    · omega
    · exact h' (ha h)
  unfold State.request
  simp only [hup, hd, he, hw, if_neg hn]
  rfl

/-- Without the role a write is aborted with 0x06010000 and has no effect of its own. -/
theorem State.request_role (s : State) (who : Requester) (key : Nat) (role : Role) (effect : State → Except Nat State)
    (hup : s.dictUp = true) (hd : (s.touch who).diagOnly = false) (hr : ((s.touch who).roleOf who).num < role.num) :
    s.request who key role effect = (s.touch who).answer who (.error 0x06010000) := by
  unfold State.request
  simp only [hup, hd, if_pos (Or.inl hr : _ ∨ (who = .canA ∧ key ∉ canAKeys))]
  rfl

/-- A write before the dictionary answers has no effect at all. -/
theorem State.request_down (s : State) (who : Requester) (key : Nat) (role : Role) (effect : State → Except Nat State)
    (hup : s.dictUp = false) (hd : s.diagOnly = false) : s.request who key role effect = s := by
  unfold State.request
  simp [hup, hd]

/-! ### Drives (Table 0.8) -/

theorem State.goto_of_eq (s : State) (d : Drive) (new : DriveState) (trig : Nat) (h : s.ds d = new) :
    s.goto d new trig = s := by rw [State.goto, if_pos h]

/-! ### The answer of a command -/

@[simp] theorem reply_eq (s t : State) : reply s t = .next { t with pending := s.pending } := rfl

/-- Every command answers a next state, in every state: no command of the block faults or is refused. -/
theorem exec_next (i : Instr) (s : State) : ∃ t, exec i s = .next t := by
  cases i <;> exact ⟨_, rfl⟩

end Sys2Proof.Machine
end

