-- ==== Sys2Proof/Tests/States.lean ====
section
/-! SUPPORT. States for the tests: a module in operation and what departs from it. -/
namespace Sys2Proof.Tests
open Sys2Proof Sys2Proof.Machine

/-- A module in operation on the LV input: bring-up done, island supplies on, links trained, no torque-off pair asserted. -/
def up : State := { State.reset with
  bringup := { State.reset.bringup with
    step := 9, resetLatch := false, lvOk := true, islandOn := true, startupDone := true, startupOk := true, safetySetOk := true }
  links := Vector.replicate 3 { trained := true, skewCal := true, fromC := { lane0 := true, lane1 := true }, toC := { lane0 := true, lane1 := true } }
  drives := Vector.replicate 6 { state := .standby, tqo := false } }
/-- The links not yet trained. -/
def upUntrained : State := { up with links := Vector.replicate 3 { training := true } }
/-- Bring-up at a step. -/
def atStep (n : Nat) : State := { State.reset with
  bringup := { State.reset.bringup with step := n, resetLatch := false, lvOk := true } }
/-- Every drive UNAVAILABLE with its prerequisites met but its own checks. -/
def readyToReady : State := State.setN { up with drives := Vector.replicate 6 { tqo := false } } Od.THM_ROUNDS 1
/-- A SAFETY session on Ethernet slot 0. -/
def safetyOpen (s : State) : State := s.modSess (.eth 0) fun x => { x with isOpen := true, role := .safety }
/-- Pyreri in TRIPLE with its three lanes in the vote. -/
def triple : State :=
  ((safetyOpen up).setN Od.PYR_CONFIG_ACT 1).setN Od.PYR_PYR_STATUS 0x1C03
/-- A channel on-line with FD_EN. -/
def onLine (c : Fin 4) : State :=
  (up.setN (Od.CAN_CH_CTRL c) 5).modChan c fun x => { x with online := true }
/-- The Ethernet link up, with a session of the peer 1:2 in a role. -/
def peer (r : Role) : State :=
  ({ up with sessions := { up.sessions with linkUp := true } }).modSess (.eth 0) fun x => { x with
    isOpen := true, role := r, ip := 1, port := 2 }
/-- The same for the SDO server on CAN-D. -/
def sdoPeer : State := (onLine 3).modSess .canD fun x => { x with isOpen := true, role := .service }
/-- A start's probe of TRA in which every pulse has risen. -/
def probe0 : ProbeSt :=
  { purpose := .start, startTb := 0, slots := (List.range 12).map fun k => (if k % 2 = 0 then 0 else 1, k / 2 + 1)
    done := (List.range 12).map fun k => .rise (if k = 3 then 500 else 1000) }

end Sys2Proof.Tests
end

