-- ==== Sys2Proof/WellFormed.lean ====
section
/-! DEFINITION. The commands whose operands a real requester, bus or converter can deliver. No meaning asks for it: a
command outside it has its effect as written, and statements name the check where they need it. -/
namespace Sys2Proof

/-- The data lengths of a CAN frame: at most eight octets, or one of the lengths of CAN FD (ISO 11898-1). -/
def canLengthWf (fd : Bool) (n : Nat) : Bool := decide (n ≤ 8) || (fd && [12, 16, 20, 24, 32, 48, 64].contains n)

/-- A frame a bus can carry: its identifier has 11 or 29 bits, its length exists, BRS is used in CAN FD frames alone. -/
def canMsgWf (m : CanMsg) : Bool :=
  decide (m.ident < 2 ^ (if m.ide then 29 else 11)) && canLengthWf m.fd m.data.length && (m.fd || !m.brs)

/-- Codes of a 14-bit shunt converter (R98, R99). -/
def codesWf (l : List Int) : Bool := l.all fun c => decide (-8192 ≤ c ∧ c ≤ 8191)

/-- A report of an arming step speaks of the legs its cell has. -/
def armReportWf (c : Cell) : ArmReport → Bool
  | .supplies _ _ => true
  | .offsets l => decide (l.length = cellLegs c) && l.all fun p => codesWf p.1 && codesWf p.2
  | .selftest v i => decide (v.toNat < 2 ^ cellLegs c ∧ i.toNat < 2 ^ cellLegs c)
  | .pulsesDone => true
  | .bootstraps v i => decide (v.length = cellLegs c ∧ i.length = 8)

/-- The largest UDP payload of an Ethernet frame (1,500 octets less 28 of IPv4 and UDP header). -/
def maxDatagram : Nat := 1472

/-- A frame that fits an Ethernet frame. -/
def portFrameWf : PortFrame → Bool
  | .datagram dg => decide (dg.length ≤ maxDatagram)
  | .echoRequest _ data => decide (data.length ≤ maxDatagram)
  | _ => true

/-- The largest read of capture data over a service path (R520). -/
def maxRead : Nat := 1024

/-- An expedited SDO write carries one to four octets, a segment at most seven (assumption 30). -/
def sdoWf : SdoRequest → Bool
  | .download _ _ data => decide (1 ≤ data.length ∧ data.length ≤ 4)
  | .downloadSegment _ data _ => decide (data.length ≤ 7)
  | .upload _ _ | .downloadStart _ _ | .uploadSegment _ | .abort | .invalid => true

/-- The operands of a command can occur. -/
def Instr.wf : Instr → Bool
  | .linkFrameReceive .. => true
  | .linkLaneFail .. => true
  | .linkLossIslandDie .. => true
  | .linkLossIslandC .. => true
  | .linkTrainingComplete .. => true
  | .applyTimeReached .. => true
  | .eccUncorrectableError .. => true
  | .eccSingleBitCorrection .. => true
  | .scrubPass .. => true
  | .clockMonitorWindow .. => true
  | .clkFaultLatchWrite .. => true
  | .supplySourceChange .. => true
  | .allSourcesInvalid .. => true
  | .holdupInterruptionBridged .. => true
  | .mainPowerOnReset .. => true
  | .powerStageSupplyLoss .. => true
  | .islandSupplyRemoval .. => true
  | .powerStageSupplyReturn .. => true
  | .aonPowerOnReset .. => true
  | .nrstAssert .. => true
  | .deferredResetProceed .. => true
  | .nrstRelease .. => true
  | .trimLoadComplete .. => true
  | .pllLock .. => true
  | .imageCheckComplete .. => true
  | .parameterStoreLoaded .. => true
  | .controlIslandUp .. => true
  | .driveReadinessComplete .. => true
  | .custDataWrite .. => true
  | .driveReset .. => true
  | .driveResetBlockRelease .. => true
  | .gateSupplyUndervoltage .. => true
  | .bothOnCommand .. => true
  | .bootstrapUndervoltage .. => true
  | .armingStepComplete _ c r => armReportWf c r
  | .shortDetectVds .. => true
  | .shortDetectShunt .. => true
  | .softTurnOffPlateauEnd .. => true
  | .scLockoutWrite .. => true
  | .selftestStart .. => true
  | .selftestComplete _ c v i => decide (v.toNat < 2 ^ cellLegs c ∧ i.toNat < 2 ^ cellLegs c)
  | .tokenRefill .. => true
  | .dwellEnd .. => true
  | .legCounterSave .. => true
  | .offsetRecalibrationDue .. => true
  | .offsetRecalibrationComplete _ _ zero full => decide (zero.length = 16 ∧ (full = [] ∨ full.length = 256)) && codesWf zero && codesWf full
  | .recalibrationLate .. => true
  | .stagePeriodStart r c => decide (r.raw.length = cellLegs c ∧ r.pulses.length = cellLegs c) && codesWf r.raw
  | .sequencerTrigger .. => true
  | .swTriggerWrite .. => true
  | .conversionComplete .. => true
  | .sqCtrlWrite .. => true
  | .generalComparatorCrossing .. => true
  | .gcpClearWrite .. => true
  | .axisDecision _ _ raw odd _ => decide (raw.length = 3 ∧ odd.length = 3) && codesWf raw && codesWf odd
  | .unmeasuredTimeExceeded .. => true
  | .tqSetWrite .. => true
  | .directionWrite .. => true
  | .reversalReengage .. => true
  | .driveArm .. => true
  | .driveRun .. => true
  | .driveStop .. => true
  | .driveDisarm .. => true
  | .driveAck .. => true
  | .stopSetCoast .. => true
  | .armHoldExpiry .. => true
  | .crossSetDisagreement .. => true
  | .trackingValid .. => true
  | .sedgeProbeComplete .. => true
  | .probeAssistPeriod .. => true
  | .observerLoss .. => true
  | .ascExit .. => true
  | .recoveryAngleFound .. => true
  | .recoveryTimeout .. => true
  | .phaseOpenDeclared .. => true
  | .shuntAttributionFail .. => true
  | .shuntSaturationFail .. => true
  | .idStatic .. => true
  | .idRotating .. => true
  | .idEncoderOffset .. => true
  | .idAbort .. => true
  | .idProcedureComplete .. => true
  | .idApply .. => true
  | .positionLineChange .. => true
  | .wireFault .. => true
  | .ssiFrameRead .. => true
  | .presetWrite .. => true
  | .armIndexWrite .. => true
  | .checkPass .. => true
  | .checkTimeout .. => true
  | .interfaceFaultClear .. => true
  | .checkCmdWrite .. => true
  | .pifModeWrite .. => true
  | .speedUpdate .. => true
  | .loopUnitSample .. => true
  | .coefficientQueueWrite .. => true
  | .commitStaged .. => true
  | .commitNotch .. => true
  | .commitComputed .. => true
  | .secCtrlWrite .. => true
  | .holdMaxExpiry .. => true
  | .taskRelease .. => true
  | .taskExecutionComplete .. => true
  | .engineWatchdog .. => true
  | .engineRejoin .. => true
  | .configLoadWrite .. => true
  | .configLoadAdmissionComplete .. => true
  | .axleModeWrite .. => true
  | .axleTqSetWrite .. => true
  | .yawTqSetWrite .. => true
  | .axleDirectionWrite .. => true
  | .shiftCmdWrite .. => true
  | .shiftStepLimit .. => true
  | .actuatorAxisFault .. => true
  | .iSetWrite .. => true
  | .ibBelow38V .. => true
  | .solenoidOvercurrent .. => true
  | .solenoidOpenLoad .. => true
  | .solenoidDeviation .. => true
  | .parkEngageCmd .. => true
  | .parkReleaseCmd .. => true
  | .parkPositionConfirm .. => true
  | .pawlOnTooth .. => true
  | .parkReleaseTimeout .. => true
  | .gearStateRecoveryStart .. => true
  | .recoveryStall .. => true
  | .gearStateRecoveryEnd .. => true
  | .dcLinkSenseMismatch .. => true
  | .uvTripRelease .. => true
  | .resOhmWrite .. => true
  | .brkResistorCheckComplete .. => true
  | .brkCheckRetry .. => true
  | .autoRunWrite .. => true
  | .chopperOpenResistor .. => true
  | .chopperShortedSwitch .. => true
  | .resistorModelUpdate .. => true
  | .firmwareDcLinkTrip .. => true
  | .hardwareDcLinkTrip .. => true
  | .dischargeStart .. => true
  | .dischargeEnd .. => true
  | .dischargeLinkSupplied .. => true
  | .dischargeComplete .. => true
  | .dischargeTimeout .. => true
  | .dabPeakLimit .. => true
  | .dabStopLowLink .. => true
  | .dabRestartLinkOk .. => true
  | .ibStartComplete .. => true
  | .buckPhaseShed .. => true
  | .vselSample .. => true
  | .vrSrcWrite .. => true
  | .vrCmdWrite .. => true
  | .vrSetWrite .. => true
  | .loadReleaseEntry .. => true
  | .loadReleaseExit .. => true
  | .syncInLock .. => true
  | .syncInLoss .. => true
  | .aux48EnWrite .. => true
  | .aux48Overcurrent .. => true
  | .ibOvervoltagePause .. => true
  | .ibOvervoltageTrip .. => true
  | .ibLost .. => true
  | .vrOvervoltage .. => true
  | .towBatteryLow .. => true
  | .pilotStateChange .. => true
  | .pilotDutyChange .. => true
  | .proximityChange .. => true
  | .supplyOutOfWindow .. => true
  | .chargeSessionOpen .. => true
  | .autoChargeStart .. => true
  | .acWaitTimeout .. => true
  | .pfcPrechargeTimeout .. => true
  | .bmsMessageReceive .. => true
  | .bmsTimeout .. => true
  | .moduleStatusSend .. => true
  | .packLost .. => true
  | .safetyTimerExpiry .. => true
  | .chargeStateTimer .. => true
  | .lvPresenceTestComplete .. => true
  | .lvAckWrite .. => true
  | .batterySwitchOvercurrent .. => true
  | .handoverSwitchOn .. => true
  | .handbackCountComplete .. => true
  | .exportBackfeed .. => true
  | .exportOverloadTrip .. => true
  | .svcPressRelease .. => true
  | .svcHold8s .. => true
  | .svcHold10s .. => true
  | .systemResetRestore .. => true
  | .peatCmdWrite .. => true
  | .peatEntryComplete .. => true
  | .peatWake .. => true
  | .attnClearWrite .. => true
  | .fenRoundTrigger .. => true
  | .fenRoundLate .. => true
  | .coolantFlowLow .. => true
  | .pyreriStartupTestsComplete .. => true
  | .laneDifference .. => true
  | .resyncCopyComplete .. => true
  | .resyncWindowClose .. => true
  | .safetyCycle .. => true
  | .cycleWatchdogExpiry .. => true
  | .exchangeStale .. => true
  | .configReqTriple .. => true
  | .configReqPair .. => true
  | .configReqSplit .. => true
  | .configReqLeaveSplit .. => true
  | .tqoReadbackFault .. => true
  | .safetyInputChange .. => true
  | .inputPairDiscrepancy .. => true
  | .testPulse .. => true
  | .releasePairOverhold .. => true
  | .safeReleaseWrite .. => true
  | .ss1TimeExpiry .. => true
  | .sltViolation .. => true
  | .speedPlausibilityFault .. => true
  | .e2GapExpiry .. => true
  | .safeParkConfirmTimeout .. => true
  | .sorrelPulse .. => true
  | .setEditOpen .. => true
  | .setEditDiscard .. => true
  | .setCommit .. => true
  | .hsfDataFrameReceive _ _ data => decide (data.length ≤ maxDatagram)
  | .hsfEchoReceive _ _ data => decide (data.length ≤ maxDatagram)
  | .hsfProducerSend .. => true
  | .hsfWatchdog .. => true
  | .hsfProducerRestart .. => true
  | .crcStartWrite .. => true
  | .crcDataWrite .. => true
  | .crcBindingTimeout .. => true
  | .canFrameReceive _ _ m _ => canMsgWf m
  | .canFrameTransmitComplete .. => true
  | .canErrorDetected .. => true
  | .canBusOffRecovery .. => true
  | .canSlotStale .. => true
  | .bridgeRxRead .. => true
  | .bridgeTxWrite .. => true
  | .canChannelOffline .. => true
  | .canChannelRejoin .. => true
  | .canTimestampWrap .. => true
  | .timeReferenceSend .. => true
  | .timeReferenceReceive _ data _ => canLengthWf true data.length
  | .timeMasterTakeover .. => true
  | .globalTimeSyncLoss .. => true
  | .addressClaimStart .. => true
  | .addressClaimReceive .. => true
  | .addressClaimTimer .. => true
  | .canACommand _ _ data => decide (data.length ≤ 8)
  | .canARequest .. => true
  | .canACommandTimeout .. => true
  | .canAStatusSend .. => true
  | .emcySend .. => true
  | .sdoRequest _ r => sdoWf r
  | .sdoTimeout .. => true
  | .hspRead _ _ _ dg => decide (dg.length ≤ maxDatagram)
  | .hspWrite _ _ _ dg => decide (dg.length ≤ maxDatagram)
  | .hspClose _ _ _ dg => decide (dg.length ≤ maxDatagram)
  | .hspKeepalive _ _ _ dg => decide (dg.length ≤ maxDatagram)
  | .hspInvalidOp _ _ _ f => portFrameWf f
  | .authOpenWrite .. => true
  | .authResponseWrite .. => true
  | .nonceExpiry .. => true
  | .authLockExpiry .. => true
  | .keyWrite .. => true
  | .sessionCloseWrite .. => true
  | .sessionIdleTimeout .. => true
  | .ethernetLinkDown .. => true
  | .ownerWrite .. => true
  | .eventLogEntry .. => true
  | .logNextRead .. => true
  | .logClearWrite .. => true
  | .faultOccClearWrite .. => true
  | .operatingTimeSave .. => true
  | .updateStart .. => true
  | .updateAbort .. => true
  | .rollbackRequest .. => true
  | .updateEraseComplete .. => true
  | .tftpDataReceive _ _ _ data _ => decide (data.length ≤ maxDatagram)
  | .tftpErrorReceive .. => true
  | .tftpTimeout .. => true
  | .updateVerifyComplete .. => true
  | .captureArm .. => true
  | .captureForce .. => true
  | .captureStop .. => true
  | .captureRow .. => true
  | .captureReadData _ _ len => decide (len ≤ maxRead)
  | .registerWrite .. => true
  | .svcPressed .. => true
  | .producerHeartbeat .. => true
  | .ethernetLinkUp .. => true
  | .soCurrentLimitOff .. => true

end Sys2Proof
end

