-- ==== Sys2Proof/Tests/Slice0.lean ====
section
/-! SUPPORT. Tests: a witness for the conditions of every statement, the refusals of WellFormed, and worked values of the
manual. -/
namespace Sys2Proof.Tests
open Sys2Proof Sys2Proof.Machine
set_option Elab.async false
set_option linter.unusedVariables false

/-! ### Values that a witness needs and that are not computed -/

theorem crcShift_lt (r : Nat) (b : Bool) : crcShift 16 0x1021 r b < 65536 := by
  simp only [crcShift]
  have h : r * 2 % 2 ^ 16 < 2 ^ 16 := Nat.mod_lt _ (by decide)
  split
  · exact Nat.xor_lt_two_pow h (by decide)
  · exact h

theorem linkCrc_lt (f : BitVec 96) : linkCrc f < 65536 := by
  have h (l : List Nat) (r : Nat) (hr : r < 65536) :
      l.foldl (fun r i => crcShift 16 0x1021 r (f.getLsbD (87 - i))) r < 65536 := by
    induction l generalizing r with
    | nil => exact hr
    | cons a l ih => exact ih _ (crcShift_lt _ _)
  exact h _ _ Config.linkCrcInit.isLt

/-- The check value depends on header and payload alone. -/
theorem linkCrc_low (n : Nat) (h : n < 65536) : linkCrc (BitVec.ofNat 96 n) = linkCrc 0#96 := by
  have e (l : List Nat) (hl : ∀ i ∈ l, i < 72) (r : Nat) :
      l.foldl (fun r i => crcShift 16 0x1021 r ((BitVec.ofNat 96 n).getLsbD (87 - i))) r =
        l.foldl (fun r i => crcShift 16 0x1021 r ((0#96).getLsbD (87 - i))) r := by
    induction l generalizing r with
    | nil => rfl
    | cons a l ih =>
      have ha : a < 72 := hl a (by simp)
      have hz : (BitVec.ofNat 96 n).getLsbD (87 - a) = (0#96).getLsbD (87 - a) := by
        have : n.testBit (87 - a) = false :=
          Nat.testBit_lt_two_pow (Nat.lt_of_lt_of_le h (Nat.pow_le_pow_right (n := 2) (i := 16) (by decide) (by omega)))
        simp [BitVec.getLsbD_ofNat, this]
      rw [List.foldl_cons, List.foldl_cons, hz]
      exact ih (fun i hi => hl i (by simp [hi])) _
  exact e _ (by simp) _

/-- A frame of zeros with its check value. -/
def goodFrame : BitVec 96 := BitVec.ofNat 96 (linkCrc 0#96)

theorem goodFrame_ok : linkCrcOk goodFrame = true := by
  have h := linkCrc_lt 0#96
  unfold linkCrcOk goodFrame
  rw [linkCrc_low _ h]
  simp only [BitVec.toNat_ofNat, beq_iff_eq]
  omega

theorem goodFrame_seq : frameSeq goodFrame = 0 := by
  have h := linkCrc_lt 0#96
  unfold frameSeq goodFrame
  simp only [BitVec.toNat_ofNat]
  omega

/-- A direction that expects another number than that frame's. -/
def expecting : State := up.modLink .t fun x => x.setDir true { x.toC with expected := 3 }

/-- Of two frames that differ in the check value alone one fails. -/
theorem badFrame : ∃ f : BitVec 96, linkCrcOk f = false := by
  by_cases h : linkCrc 0#96 = 0
  · refine ⟨BitVec.ofNat 96 1, ?_⟩
    have e := linkCrc_low 1 (by decide)
    simp only [linkCrcOk, e, h]
    decide
  · refine ⟨0#96, ?_⟩
    simp only [linkCrcOk, beq_eq_false_iff_ne]
    exact fun e => h e

/-- The response to a nonce of zeros under a service key of zeros. -/
def response0 : List Byte :=
  (hmacSha256 (List.replicate 32 0) (List.replicate 16 0 ++ natLe 4 0 ++ natLe 1 1)).take 16

/-- A session that waits for that response. -/
def challenged : State :=
  State.modSess { up with sessions := { up.sessions with keyService := some (List.replicate 32 0) } } (.eth 1) fun x => { x with
    nonce := some (List.replicate 16 0, 0), reqRole := 1 }

/-- The first 32 octets of an image with an empty payload. -/
def header0 : List Byte :=
  let h := natLe 4 0x72000001 ++ natLe 4 0 ++ natLe 4 0x100 ++ [0] ++ natLe 2 1 ++ [0] ++ natLe 4 (crc32c []) ++ List.replicate 8 0
  h ++ natLe 4 (crc32c h)

/-- The image with its signature. -/
def image0 : List Byte := header0 ++ hmacSha256 Config.imageKey header0

theorem hmacSha256_length (k m : List Byte) : (hmacSha256 k m).length = 32 := by simp [hmacSha256, sha256]

theorem image0_ok : verifyResult image0 true = none := by
  have hl : header0.length = 32 := by decide +kernel
  have hm := hmacSha256_length Config.imageKey header0
  have hi : image0.length = 64 := by rw [image0, List.length_append, hl, hm]
  have ht (n : Nat) (h : n ≤ 32) : image0.take n = header0.take n := List.take_append_of_le_length (by omega)
  have hd : image0.drop 64 = [] := List.drop_eq_nil_of_le (by omega)
  have hd32 : image0.drop 32 = hmacSha256 Config.imageKey header0 := by rw [image0, ← hl, List.drop_left]
  have hf (lo n : Nat) (h : lo + n ≤ 32) : fieldLe image0 lo n = fieldLe header0 lo n := by
    unfold Machine.fieldLe
    rw [image0, List.drop_append_of_le_length (by omega), List.take_append_of_le_length (by rw [List.length_drop]; omega)]
  have h32 : image0.take 32 = header0 := by rw [ht 32 (by decide), List.take_of_length_le (by omega)]
  have hs : (hmacSha256 Config.imageKey header0).take 32 = hmacSha256 Config.imageKey header0 := List.take_of_length_le (by omega)
  have hh : headerOk image0 = true := by
    unfold headerOk
    rw [hi, hf 0 4 (by decide), hf 28 4 (by decide), hf 12 1 (by decide), hf 13 2 (by decide), hf 4 4 (by decide), ht 28 (by decide)]
    decide +kernel
  unfold verifyResult
  rw [hh, hf 16 4 (by decide), hd, h32, hd32, hs, List.append_nil]
  have hc : (fieldLe header0 16 4 != crc32c []) = false := by decide +kernel
  simp [hc]

/-- An update at its check with that image in the target bank. -/
def verifying : State :=
  State.setN (up.modBank up.target fun x => { x with image := image0 }) Od.IMG_UPD_STATE 3

/-- A commit asked for with the check value of the staging image. -/
def committing : State :=
  triple.modSess (.eth 0) fun x => { x with staging := some [], setCrc := some (setCrc (stagedVal [])) }

/-! ### Every statement's conditions can be met: one state and its operands for each clause -/

theorem witness_LinkCommandsComplete :
  (∃ (s : State) (dt : Nat) (l : Link) (toC : Bool) (sent : BitVec 96) (f : BitVec 96), (s.link l).trained = true ∧
      linkCrcOk f = true ∧ frameSeq f = ((s.link l).dir toC).expected) ∧
  (∃ (s : State) (dt : Nat) (l : Link) (toC : Bool) (sent : BitVec 96) (f : BitVec 96), (s.link l).trained = true ∧
      linkCrcOk f = true ∧ frameSeq f ≠ ((s.link l).dir toC).expected) ∧
  (∃ (s : State) (dt : Nat) (l : Link) (toC : Bool) (sent : BitVec 96) (f : BitVec 96), (s.link l).trained = true ∧
      linkCrcOk f = false) ∧
  (∃ (s : State) (dt : Nat) (l : Link) (toC : Bool) (lane1 : Bool), ((if lane1 then ((s.link l).dir toC).lane1 else
      ((s.link l).dir toC).lane0) = true) ∧ s.logRoom = true) ∧
  (∃ (s : State) (dt : Nat) (l : Link), s.linkLive = true ∧ (s.link l).dieLost = false) ∧
  (∃ (s : State) (dt : Nat) (l : Link), s.linkLive = true ∧ (s.link l).trained = true) ∧
  (∃ (s : State) (dt : Nat) (l : Link) (lat : Nat), s.linkLive = true ∧ (s.link l).trained = false) ∧
  (∃ (s : State) (dt : Nat) (l : Link) (a : Nat) (c : Cell), (s.link l).pending = [(a, .switch c)] ∧ a ≤ (s.elapse
      dt).dieTb l ∧ ((s.cell c).mode = .coast ∧ (s.cell c).supHi = true)) ∧
  (∃ (s : State) (dt : Nat) (l : Link), ∀ p ∈ (s.link l).pending, (s.elapse dt).dieTb l < p.1 ∨ p.2.isPhase = true) :=
  ⟨⟨up, 5, .t, true, goodFrame, goodFrame, by decide +kernel, goodFrame_ok, by rw [goodFrame_seq]; decide +kernel⟩,
    ⟨expecting, 5, .t, true, goodFrame, goodFrame, by decide +kernel, goodFrame_ok, by rw [goodFrame_seq]; decide +kernel⟩,
    badFrame.elim fun f h => ⟨up, 5, .t, true, f, f, by decide +kernel, h⟩,
    ⟨up, 5, .g, true, false, by decide +kernel⟩,
    ⟨up, 1, .t, by decide +kernel⟩,
    ⟨up, 1, .l, by decide +kernel⟩,
    ⟨upUntrained, 0, .l, 400, by decide +kernel⟩,
    ⟨State.modCell { up with links := up.links.set 0 { (up.links.get 0) with pending := [(7, .switch 0)] } } 0 fun x => { x with mode := .coast, supHi := true },
    9, .t, 7, 0, by decide +kernel⟩,
    ⟨{ up with links := up.links.set 0 { (up.links.get 0) with pending := [(7, .dabPhase 8 3), (11, .switch 0)] } }, 9,
    .t, by decide +kernel⟩⟩

theorem witness_MemoryAndClockCommandsComplete :
  (∃ (s : State) (dt : Nat) (r : Fin 16), s.logRoom = true) ∧
  (∃ (s : State) (dt : Nat), s.logRoom = true) ∧
  (∃ (s : State) (dt : Nat) (u : Fin 1024) (a : Nat), (256 ≤ u.val ∧ u.val < 768) ∧ (16 * (u.val - 256) ≤ a ∧ a < 16 *
      (u.val - 256) + 16)) ∧
  (∃ (s : State) (dt : Nat) (u : Fin 1024) (a : Nat), a < 16 * (u.val - 256) ∨ 16 * (u.val - 256) + 16 ≤ a) ∧
  (∃ (s : State) (dt : Nat), s.nat Od.SYS_ECC_CORRECTED < 2 ^ 32) ∧
  (∃ (s : State) (dt : Nat) (t0 : Nat), 1 ≤ s.bringup.step ∧ s.clocks.scrubTb = some t0 ∧ t0 + ms (s.nat
      Od.SYS_SCRUB_PERIOD_ms) ≤ s.tb + dt) ∧
  (∃ (s : State) (dt : Nat) (m : ClockMonitor) (hz : Nat), 3 ≤ s.bringup.step ∧ inWindow m hz = true ∧ (∀ i ∈
      s.clocks.faults, i = monitorId m ∨ faultBit i ≠ monitorBit m)) ∧
  (∃ (s : State) (dt : Nat) (hz : Nat) (n : Nat), 3 ≤ s.bringup.step ∧ inWindow (.domain 13) hz = false ∧
      (s.clocks.outRuns.find? (fun e => e.1 == 13) = some (13, n)) ∧ (1 ≤ n ∧ 13 ∉ s.clocks.faults) ∧ s.logRoom =
      true) ∧
  (∃ (s : State) (dt : Nat) (who : Requester) (v : BitVec 32), s.accepts dt who Od.SYS_CLK_FAULT_LATCH .operator = true) :=
  ⟨⟨up, 1, 3, by decide +kernel⟩,
    ⟨up, 1, by decide +kernel⟩,
    ⟨{ up with cust := [(17, 5)] }, 1, 257, 17, by decide +kernel⟩,
    ⟨{ up with cust := [(17, 5), (40, 6)] }, 1, 257, 40, by decide +kernel⟩,
    ⟨up, 1, by decide +kernel⟩,
    ⟨{ up with clocks := { up.clocks with scrubTb := some 0 } }, 1000000000, 0, by decide +kernel⟩,
    ⟨up, 1, .domain 9, 200000001, by decide +kernel⟩,
    ⟨{ up with clocks := { up.clocks with outRuns := [(13, 1)] } }, 1, 20000, 1, by decide +kernel⟩,
    ⟨up.setN Od.SYS_CLK_FAULT_LATCH 5, 1, .eth 0, 5, by decide +kernel⟩⟩

theorem witness_SupplyCommandsComplete :
  (∃ (s : State) (dt : Nat) (r : SupplyReading) (t0 : Nat), s.bringup.holdupTb = some t0 ∧ ((s.elapse dt).readSupply
      r).bestSource ≠ 0 ∧ s.bringup.step ≠ 0 ∧ s.nat Od.SUP_HOLDUP_EVENTS < 2 ^ 32) ∧
  (∃ (s : State) (dt : Nat), (s.elapse dt).stageLossDue = true) ∧
  (∃ (s : State) (dt : Nat), s.bringup.stageStopTb.isSome = true ∧ s.powerOk = false) ∧
  (∃ (s : State) (dt : Nat) (r : SupplyReading), 7 ≤ s.bringup.step ∧ s.bringup.islandOn = false ∧ ((s.elapse
      dt).readSupply r).powerOk = true) :=
  ⟨⟨{ up with bringup := { up.bringup with lvOk := false, holdupTb := some 3 } }, 9, .podl true 30, 3, by decide +kernel⟩,
    ⟨{ up with bringup := { up.bringup with lvOk := false, powerLostTb := some 0 } }, 500000, by decide +kernel⟩,
    ⟨{ up with bringup := { up.bringup with lvOk := false, stageStopTb := some 0 } }, 100, by decide +kernel⟩,
    ⟨{ up with bringup := { up.bringup with lvOk := false, podlOk := true, islandOn := false } }, 1, .lv 24,
    by decide +kernel⟩⟩

theorem witness_ResetCommandsComplete :
  (∃ (s : State) (dt : Nat), (s.elapse dt).railFalls = true) ∧
  (∃ (s : State) (dt : Nat) (vBat : Rat), s.bestSource = 0 ∧ s.bringup.holdupTb = none ∧ feedNow s.bringup.batFeed vBat
      = false) ∧
  (∃ (s : State) (dt : Nat) (vBat : Rat), s.bestSource ≠ 0) ∧
  (∃ (s : State) (dt : Nat) (ns : Nat), s.bringup.resetLatch = false ∧ 5000 ≤ ns ∧ s.bringup.deferredTb = none ∧
      s.pulseEnd (s.tb + dt) = none) ∧
  (∃ (s : State) (dt : Nat) (ns : Nat), ns < 1000) ∧
  (∃ (s : State) (dt : Nat) (t0 : Nat) (e : Nat), s.bringup.deferredTb = some t0 ∧ s.pulseEnd t0 = some e ∧ e ≤ s.tb +
      dt) ∧
  (∃ (s : State) (dt : Nat), s.bringup.resetLatch = true ∧ s.bestSource ≠ 0) :=
  ⟨⟨{ up with bringup := { up.bringup with lvOk := false, holdupTb := some 0 } }, 600000, by decide +kernel⟩,
    ⟨{ up with cust := [(3, 4)], bringup := { up.bringup with lvOk := false } }, 10, 3, by decide +kernel⟩,
    ⟨up, 10, 3, by decide +kernel⟩,
    ⟨up, 1, 5000, by decide +kernel⟩,
    ⟨up, 1, 999, by decide +kernel⟩,
    ⟨{ up with bringup := { up.bringup with deferredTb := some 3, cause := 3 }, img := { up.img with pulseTb := 0, pulseN := 1, pulseUs := 50 } },
    5000, 3, 5000, by decide +kernel⟩,
    ⟨{ State.reset with bringup := { State.reset.bringup with lvOk := true } }, 1, by decide +kernel⟩⟩

theorem witness_BringUpCommandsComplete :
  (∃ (s : State) (dt : Nat), s.bringup.step = 1 ∧ s.bringup.trimFault = false) ∧
  (∃ (s : State) (dt : Nat), s.bringup.step = 1 ∧ s.bringup.trimFault = false) ∧
  (∃ (s : State) (dt : Nat), s.bringup.step = 2) ∧
  (∃ (s : State) (dt : Nat) (o : Bool) (b : Fin 2), s.bringup.step = 3 ∧ s.bringup.imageFault = false ∧ s.newestBank =
      some b ∧ imagePasses (s.bank b).image = true) ∧
  (∃ (s : State) (dt : Nat), s.bringup.step = 3 ∧ s.bringup.imageFault = false) ∧
  (∃ (s : State) (dt : Nat) (rej : List Nat) (ok : Bool), s.bringup.step = 5) ∧
  (∃ (s : State) (dt : Nat), s.bringup.step = 6) ∧
  (∃ (s : State) (dt : Nat) (d : Drive), s.ds d = .unavailable ∧ 8 ≤ s.bringup.step ∧ ((s.modDrv d fun x => { x with checks := true }).unmet
      d = 0) ∧ (s.drv d).tqo = false) ∧
  (∃ (s : State) (dt : Nat) (who : Requester) (data : List Byte) (i : Nat), s.accepts dt who Od.RET_CUST_DATA .operator
      = true ∧ custWriteOk (s.nat Od.RET_CUST_OFFSET) data.length = true ∧ i < data.length) ∧
  (∃ (s : State) (dt : Nat) (who : Requester) (data : List Byte) (a : Nat), s.accepts dt who Od.RET_CUST_DATA .operator
      = true ∧ (a < s.nat Od.RET_CUST_OFFSET ∨ s.nat Od.RET_CUST_OFFSET + data.length ≤ a)) ∧
  (∃ (s : State) (dt : Nat) (who : Requester) (data : List Byte), s.accepts dt who Od.RET_CUST_DATA .operator = true ∧
      custWriteOk (s.nat Od.RET_CUST_OFFSET) data.length = false) ∧
  (∃ (s : State) (dt : Nat) (who : Requester) (mask : BitVec 8) (d : Drive), s.accepts dt who Od.RST_DRIVE_RESET
      .operator = true ∧ (who = .pyreri ∨ ∀ d ∈ Drive.all, mask.toNat.testBit d.num = true → (s.begun dt who).owns who
      d = true) ∧ mask.toNat.testBit d.num = true) ∧
  (∃ (s : State) (dt : Nat) (d : Drive) (t0 : Nat), (s.drv d).resetTb = some t0 ∧ t0 + 1000 ≤ s.tb + dt ∧ s.logRoom =
      true) :=
  ⟨⟨atStep 1, 4, by decide +kernel⟩,
    ⟨atStep 1, 4, by decide +kernel⟩,
    ⟨atStep 2, 4, by decide +kernel⟩,
    ⟨atStep 3, 4, false, 0, by decide +kernel⟩,
    ⟨atStep 3, 4, by decide +kernel⟩,
    ⟨atStep 5, 4, [], false, by decide +kernel⟩,
    ⟨atStep 6, 200000, by decide +kernel⟩,
    ⟨readyToReady, 5, .chg, by decide +kernel⟩,
    ⟨up, 1, .eth 0, List.replicate 16 7, 3, by decide +kernel⟩,
    ⟨{ up with cust := [(20, 5)] }, 1, .eth 0, List.replicate 16 7, 20, by decide +kernel⟩,
    ⟨up, 1, .eth 0, [7], by decide +kernel⟩,
    ⟨up, 1, .pyreri, 3, .trb, by decide +kernel⟩,
    ⟨up.modDrv .chg fun x => { x with resetTb := some 0, resetRank := 2 }, 1000, .chg, 0, by decide +kernel⟩⟩

theorem witness_GateAndBootstrapCommandsComplete :
  (∃ (s : State) (dt : Nat) (c : Cell) (p : Rat) (n : Rat), (s.cell c).supLo = true ∧ gateUv c p n = true) ∧
  (∃ (s : State) (dt : Nat) (l : Leg), s.nat (Od.CELL_BOTH_ON_COUNT (legCell l)) < 2 ^ 32) ∧
  (∃ (s : State) (dt : Nat) (l : Leg) (v : Rat), cellOf (legCell l) ≠ 14 ∧ (s.cell (cellOf (legCell l))).supHi = true ∧
      v < s.num (Od.CELL_BOOT_UV_THR (cellOf (legCell l)))) ∧
  (∃ (s : State) (dt : Nat) (l : Leg) (v : Rat), cellOf (legCell l) ≠ 14 ∧ (s.cell (cellOf (legCell l))).supHi = true ∧
      s.num (Od.CELL_BOOT_UV_THR (cellOf (legCell l))) ≤ v ∧ bootRelease (cellOf (legCell l)) ≤ v) :=
  ⟨⟨up.modCell 11 fun x => { x with supLo := true, supHi := true }, 1, 11, 15, -4, by decide +kernel⟩,
    ⟨up, 1, 30, by decide +kernel⟩,
    ⟨up.modCell 4 fun x => { x with supHi := true }, 1, 12, 1, by decide +kernel⟩,
    ⟨up.modCell 4 fun x => { x with supHi := true }, 1, 12, 20, by decide +kernel⟩⟩

theorem witness_ArmingStepsComplete :
  (∃ (s : State) (dt : Nat) (c : Cell) (p : Rat) (n : Rat), (s.drv (cellDrive c)).arming ≠ .none ∧ (s.cell c).armStep =
      2 ∧ gateUv c p n = false) ∧
  (∃ (s : State) (dt : Nat) (c : Cell) (ch : List (List Int × List Int)) (l : Leg), (s.drv (cellDrive c)).arming ≠ .none
      ∧ (s.cell c).armStep = 3 ∧ s.calOutcome c ch = .ok ∧ l ∈ cellLegList c) ∧
  (∃ (s : State) (dt : Nat) (c : Cell), (s.drv (cellDrive c)).arming ≠ .none ∧ (s.cell c).armStep = 4 ∧ c ≠ 14) ∧
  (∃ (s : State) (dt : Nat) (c : Cell), (s.drv (cellDrive c)).arming ≠ .none ∧ ((s.cell c).armStep = 5 ∧ (s.cell c).mode
      = .precharge) ∧ (s.cell c).pulseTb + us 142 ≤ s.tb + dt) ∧
  (∃ (s : State) (dt : Nat) (c : Cell) (e : Cell) (b : List Rat) (cur : List (List Rat)), (s.drv (cellDrive c)).arming ≠
      .none ∧ (s.cell c).armStep = 6 ∧ (∀ i, i < cellLegs c → bootTarget c ≤ b.getD i 0) ∧ (e ∈ (cellDrive c).cells ∧
      e ≠ c ∧ (s.cell e).armStep ≠ 7 ∧ (s.cell e).armStep ≠ 0)) ∧
  (∃ (s : State) (dt : Nat) (c : Cell) (b : List Rat) (cur : List (List Rat)), (s.drv (cellDrive c)).arming = .arm ∧
      (s.cell c).armStep = 6 ∧ (∀ i, i < cellLegs c → bootTarget c ≤ b.getD i 0) ∧ (∀ e ∈ (cellDrive c).cells, e ≠ c →
      (s.cell e).armStep = 7 ∨ (s.cell e).armStep = 0)) ∧
  (∃ (s : State) (dt : Nat) (c : Cell) (e : Cell) (p : Rat) (n : Rat), (s.drv (cellDrive c)).arming = .arm ∧ (s.cell
      c).armStep = 2 ∧ gateUv c p n = true ∧ s.ds (cellDrive c) = .standby ∧ (e ∈ (cellDrive c).cells ∧ (s.cell
      e).mode ≠ .softOff)) ∧
  (∃ (s : State) (dt : Nat), (s.cell 14).armStep = 4 ∧ (s.drv .brk).arming = .arm) :=
  ⟨⟨(up.modDrv .chg fun x => { x with arming := .arm }).modCell 11 fun x => { x with armStep := 2 }, 1, 11, 18, -4,
    by decide +kernel⟩,
    ⟨(up.modDrv .brk fun x => { x with arming := .arm }).modCell 14 fun x => { x with armStep := 3 }, 1, 14, [([3, 4],
    [5]), ([2], [2])], 49, by decide +kernel⟩,
    ⟨(up.modDrv .chg fun x => { x with arming := .arm }).modCell 11 fun x => { x with armStep := 4 }, 1, 11,
    by decide +kernel⟩,
    ⟨(up.modDrv .chg fun x => { x with arming := .arm }).modCell 11 fun x => { x with armStep := 5, mode := .precharge },
    14200, 11, by decide +kernel⟩,
    ⟨((up.modDrv .chg fun x => { x with arming := .arm }).modCell 11 fun x => { x with armStep := 6 }).modCell 12 fun x =>
    { x with armStep := 5 }, 1, 11, 12, [20, 20, 20, 20], [], by decide +kernel⟩,
    ⟨(up.modDrv .chg fun x => { x with arming := .arm }).modCell 11 fun x => { x with armStep := 6 }, 1, 11, [20, 20, 20,
    20], [], by decide +kernel⟩,
    ⟨(up.modDrv .chg fun x => { x with arming := .arm }).modCell 11 fun x => { x with armStep := 2 }, 1, 11, 12, 15, -4,
    by decide +kernel⟩,
    ⟨(up.modDrv .brk fun x => { x with arming := .arm }).modCell 14 fun x => { x with armStep := 4 }, 1,
    by decide +kernel⟩⟩

theorem witness_ShortCircuitCommandsComplete :
  (∃ (s : State) (dt : Nat) (l : Leg) (h : Bool) (m : Bool), (s.elapse dt).vdsEnabled l h = true ∧ s.nat
      (Od.CELL_SC_COUNT (legCell l)) < 65535) ∧
  (∃ (s : State) (dt : Nat) (l : Leg) (p : Bool) (m : Bool), (s.elapse dt).shuntArmed l = true ∧ ((s.cell (cellOf
      (legCell l))).mode ≠ .asc ∧ (s.cell (cellOf (legCell l))).mode ≠ .softOff)) ∧
  (∃ (s : State) (dt : Nat) (l : Leg) (p : Bool) (m : Bool), (s.elapse dt).shuntArmed l = true ∧ (s.cell (cellOf
      (legCell l))).mode = .asc) ∧
  (∃ (s : State) (dt : Nat) (c : Cell) (l : Leg), (s.cell c).mode = .softOff ∧ s.bringup.resetLatch = false ∧ l ∈
      cellLegList c) ∧
  (∃ (s : State) (dt : Nat) (who : Requester) (c : Cell), s.accepts dt who (Od.CELL_SC_LOCKOUT c) .service = true) ∧
  (∃ (s : State) (dt : Nat) (who : Requester) (c : Cell), s.accepts dt who (Od.CELL_SELFTEST c) .service = true ∧ (s.ds
      (cellDrive c) = .standby ∨ s.ds (cellDrive c) = .fault)) ∧
  (∃ (s : State) (dt : Nat) (c : Cell) (v : BitVec 4) (i : BitVec 4), (s.cell c).selftest = true ∧ s.ds (cellDrive c) =
      .standby) :=
  ⟨⟨(up.modCell 11 fun x => { x with supLo := true, supHi := true, mode := .switching }).modLeg 37 fun x => { x with onTb := 0, offTb := 0 },
    1000, 37, false, false, by decide +kernel⟩,
    ⟨up.modCell 14 fun x => { x with supLo := true, supHi := true }, 100, 48, true, false, by decide +kernel⟩,
    ⟨up.modCell 2 fun x => { x with supLo := true, mode := .asc }, 100, 7, true, false, by decide +kernel⟩,
    ⟨up.modCell 11 fun x => { x with supLo := true, mode := .softOff }, 1, 11, 37, by decide +kernel⟩,
    ⟨up.setFlag (Od.CELL_SC_LOCKOUT 3) true, 1, .pyreri, 3, by decide +kernel⟩,
    ⟨up, 1, .pyreri, 8, by decide +kernel⟩,
    ⟨up.modCell 8 fun x => { x with selftest := true }, 1, 8, 2, 0, by decide +kernel⟩⟩

theorem witness_LegCommandsComplete :
  (∃ (s : State) (dt : Nat) (l : Leg), sec 1 ≤ (s.tb + dt - (s.leg l).refillTb) * s.nat (Od.CELL_FSW_MAX (legCell l)) ∧
      (s.leg l).deferred = false) ∧
  (∃ (s : State) (dt : Nat) (l : Leg) (a : Nat) (b : Nat), sec 1 ≤ (s.tb + dt - (s.leg l).refillTb) * s.nat
      (Od.CELL_FSW_MAX (legCell l)) ∧ ((s.leg l).deferred = true ∧ (s.leg l).want = (a, b)) ∧ (stageCell (cellOf
      (legCell l)) = true ∧ (s.cell (cellOf (legCell l))).mode = .switching) ∧ (s.leg l).offTb + s.dwellTicks l ≤ max
      (s.tb + dt) a ∧ max (s.tb + dt) a + s.dwellTicks l ≤ b) ∧
  (∃ (s : State) (dt : Nat) (l : Leg) (v : Nat) (alt : Nat) (p : Nat), (l.val < 24 ∧ p < 3) ∧ (s.ax (axisOf (legCell
      l))).waitVec = some (v, alt) ∧ s.deciding (axisOf (legCell l)) = true ∧ (s.elapse dt).dwelling (cellOf (axisOf
      (legCell l))) = false ∧ (s.ax (axisOf (legCell l))).subst = none ∧ ((s.elapse dt).measureDue (axisOf (legCell
      l)) = false ∨ s.measurable (axisOf (legCell l)) v = true) ∧ s.vectorBlocked (axisOf (legCell l)) v = false) ∧
  (∃ (s : State) (dt : Nat) (c : Cell) (l : Leg), l ∈ cellLegList c ∧ sec 600 ≤ (s.cell c).swTicks) :=
  ⟨⟨up.modLeg 5 fun x => { x with tokens := 2 }, 100000, 5, by decide +kernel⟩,
    ⟨(up.modCell 11 fun x => { x with mode := .switching }).modLeg 37 fun x => { x with tokens := 0, deferred := true, want := (100500, 200000) },
    100000, 37, 100500, 200000, by decide +kernel⟩,
    ⟨(up.modCell 1 fun x => { x with mode := .switching }).modAx 1 fun x => { x with waitVec := some (3, 4) }, 5, 4, 3, 4,
    1, by decide +kernel⟩,
    ⟨State.modCell (up.setN (Od.CELL_LEG_SWITCHES 4 1) 77) 4 fun x => { x with swTicks := 60000000000 }, 1, 4, 13,
    by decide +kernel⟩⟩

theorem witness_ShuntCommandsComplete :
  (∃ (s : State) (dt : Nat) (l : Leg), (s.elapse dt).calDue l = true ∧ (s.shunts.get l).collecting = false) ∧
  (∃ (s : State) (dt : Nat) (l : Leg) (z : List Int) (f : List Int), (s.shunts.get l).collecting = true ∧ (s.ds
      (cellDrive (legCell l)) = .armed ∨ s.ds (cellDrive (legCell l)) = .active) ∧ (s.elapse dt).lowWasOff l = true ∧
      (∀ m ∈ cellLegList (cellOf (legCell l)), m ≠ l → (s.shunts.get m).collecting = false)) ∧
  (∃ (s : State) (dt : Nat) (l : Leg) (m : Leg) (z : List Int) (f : List Int), (s.shunts.get l).collecting = true ∧
      (s.ds (cellDrive (legCell l)) = .armed ∨ s.ds (cellDrive (legCell l)) = .active) ∧ (s.elapse dt).lowWasOff l =
      true ∧ (m ∈ cellLegList (cellOf (legCell l)) ∧ m ≠ l ∧ (s.shunts.get m).collecting = true)) ∧
  (∃ (s : State) (dt : Nat) (l : Leg) (z : List Int) (f : List Int), (s.shunts.get l).collecting = true ∧ s.calFull l =
      true ∧ (f ≠ [] ∧ spread f ≤ 32) ∧ (∀ m ∈ cellLegList (cellOf (legCell l)), m ≠ l → (s.shunts.get m).collecting =
      false)) ∧
  (∃ (s : State) (dt : Nat) (l : Leg) (z : List Int) (f : List Int), (s.shunts.get l).collecting = true ∧ s.calFull l =
      true ∧ 32 < spread f) ∧
  (∃ (s : State) (dt : Nat) (l : Leg), (s.shunts.get l).collecting = true ∧ (s.shunts.get l).lateLogged = false ∧
      (s.shunts.get l).base + 2 * s.calInterval l ≤ s.tb + dt ∧ s.logRoom = true) :=
  ⟨⟨up, 9999999999, 12, by decide +kernel⟩,
    ⟨(up.modDrv .chg fun x => { x with state := .armed }).modShunt 37 fun x => { x with collecting := true }, 1, 37, [2,
    3], [], by decide +kernel⟩,
    ⟨((up.modDrv .chg fun x => { x with state := .armed }).modShunt 37 fun x => { x with collecting := true }).modShunt 36
    fun x => { x with collecting := true }, 1, 37, 36, [2, 3], [], by decide +kernel⟩,
    ⟨up.modShunt 37 fun x => { x with collecting := true }, 1, 37, [2, 3], [5, 6], by decide +kernel⟩,
    ⟨up.modShunt 37 fun x => { x with collecting := true }, 1, 37, [2, 3], [5, 600], by decide +kernel⟩,
    ⟨up.modShunt 37 fun x => { x with collecting := true }, 9999999999, 37, by decide +kernel⟩⟩

theorem witness_SequencerCommandsComplete :
  (∃ (s : State) (dt : Nat) (c : Cell) (raw : List Int) (p : List (Nat × Nat)) (n : Fin 16), (8 ≤ c.val ∧
      s.bringup.islandOn = true) ∧ (s.cell c).mode = .switching ∧ s.bit (Od.GCP_GCP_CTRL n) 28 = true ∧ s.nat
      (Od.GCP_BLANK_CELL n) = c.val ∧ (cellLink c).num = n.val / 4 ∧ (s.gcps.get n).crossTb ≠ some (s.tb + dt)) ∧
  (∃ (s : State) (dt : Nat) (c : Cell) (raw : List Int) (p : List (Nat × Nat)) (l : Leg) (r : Int), (8 ≤ c.val ∧
      s.bringup.islandOn = true) ∧ l ∈ cellLegList c ∧ raw[legPos l]? = some r) ∧
  (∃ (s : State) (dt : Nat) (n : Fin 8), (s.elapse dt).seqPeriodDue n = true ∧ s.gcOn (n.val / 2) = true ∧ ((s.seq
      n).closedFor = [] ∧ (s.seq n).run = .idle ∧ (s.seq n).pending = false) ∧ (s.seq (seqPartner n)).run ≠ .running) ∧
  (∃ (s : State) (dt : Nat) (n : Fin 8), (s.elapse dt).seqPeriodDue n = true ∧ s.gcOn (n.val / 2) = true ∧ ((s.seq
      n).closedFor = [] ∧ (s.seq n).run ≠ .idle) ∧ s.nat (Od.SQ_TRIG_OVERRUNS n) < 65535) ∧
  (∃ (s : State) (dt : Nat) (who : Requester) (n : Fin 8), s.accepts dt who (Od.SQ_SW_TRIGGER n) .operator = true ∧
      s.trigSel n = 0 ∧ (s.seqEnabled n = true ∧ s.gcOn (n.val / 2) = true) ∧ ((s.seq n).closedFor = [] ∧ (s.seq
      n).run = .idle ∧ (s.seq n).pending = false) ∧ (s.seq (seqPartner n)).run ≠ .running) ∧
  (∃ (s : State) (dt : Nat) (g : Fin 4) (code : BitVec 12) (n : Fin 8), s.seqRunning g = some n ∧ (s.seq
      n).samples.length + 1 < 2 ^ s.entryAvg n (s.seq n).entry) ∧
  (∃ (s : State) (dt : Nat) (g : Fin 4) (code : BitVec 12) (n : Fin 8), s.seqRunning g = some n ∧ 2 ^ s.entryAvg n
      (s.seq n).entry ≤ (s.seq n).samples.length + 1 ∧ (s.seq n).entry + 1 < s.nat (Od.SQ_LENGTH n) ∧ (s.seq
      (seqPartner n)).yielding = false) ∧
  (∃ (s : State) (dt : Nat) (who : Requester) (v : BitVec 32), s.accepts dt who (Od.SQ_SQ_CTRL 6) .service = true ∧
      sqCtrlOk 6 v.toNat = true ∧ ((s.nat (Od.SQ_SQ_CTRL 6)).testBit 31 = true → v.toNat % 2 ^ 31 = s.nat
      (Od.SQ_SQ_CTRL 6) % 2 ^ 31) ∧ ((s.begun dt who).setN (Od.SQ_SQ_CTRL 6) v.toNat).luRatesOk 2 6 = true) ∧
  (∃ (s : State) (dt : Nat) (who : Requester) (n : Fin 8) (v : BitVec 32), s.accepts dt who (Od.SQ_SQ_CTRL n) .service =
      true ∧ sqCtrlOk n v.toNat = true ∧ n ≠ 6) ∧
  (∃ (s : State) (dt : Nat) (n : Fin 16) (code : BitVec 12) (held : Nat), (s.bit (Od.GCP_GCP_CTRL n) 31 = true ∧ s.gcOn
      (n.val / 4) = true) ∧ (s.elapse dt).gcpBlanked n = false ∧ s.nat (Od.GCP_FILTER_ns n) ≤ 10 * held ∧ gcpCondition
      (s.field (Od.GCP_GCP_CTRL n) 29 2) (s.gcpOut n code.toNat) = true ∧ gcpCondition (s.field (Od.GCP_GCP_CTRL n) 29
      2) (s.bit (Od.GCP_GCP_STATUS n) 0, s.bit (Od.GCP_GCP_STATUS n) 1) = false ∧ s.nat (Od.GCP_CROSS_COUNT n) < 2 ^
      32 - 1) ∧
  (∃ (s : State) (dt : Nat) (n : Fin 16) (code : BitVec 12) (held : Nat), 10 * held < s.nat (Od.GCP_FILTER_ns n) ∨
      (s.elapse dt).gcpBlanked n = true) ∧
  (∃ (s : State) (dt : Nat) (who : Requester) (n : Fin 16), s.accepts dt who (Od.GCP_CLEAR n) .operator = true ∧
      (s.gcps.get n).crossTb ≠ some (s.tb + dt)) ∧
  (∃ (s : State) (dt : Nat) (who : Requester) (n : Fin 16), s.accepts dt who (Od.GCP_CLEAR n) .operator = true ∧
      (s.gcps.get n).crossTb = some (s.tb + dt)) :=
  ⟨⟨((up.modCell 8 fun x => { x with mode := .switching }).setBit (Od.GCP_GCP_CTRL 1) 28 true).setN (Od.GCP_BLANK_CELL 1)
    8, 1, 8, [], [], 1, by decide +kernel⟩,
    ⟨up.modCell 8 fun x => { x with mode := .switching, supLo := true }, 1, 8, [100, 200, 300, 400], [], 25, 200,
    by decide +kernel⟩,
    ⟨(up.setN (Od.SQ_SQ_CTRL 6) 0x81000000).setN (Od.SQ_TRIG_PERIOD 6) 50, 5000, 6, by decide +kernel⟩,
    ⟨((up.setN (Od.SQ_SQ_CTRL 6) 0x81000000).setN (Od.SQ_TRIG_PERIOD 6) 50).modSeq 6 fun x => { x with run := .running },
    5000, 6, by decide +kernel⟩,
    ⟨up.setBit (Od.SQ_SQ_CTRL 6) 31 true, 1, .eth 1, 6, by decide +kernel⟩,
    ⟨(up.setN (Od.SQ_ENTRY 6 0) 0x200).modSeq 6 fun x => { x with run := .running }, 1, 3, 5, 6, by decide +kernel⟩,
    ⟨(up.setN (Od.SQ_LENGTH 6) 3).modSeq 6 fun x => { x with run := .running }, 1, 3, 5, 6, by decide +kernel⟩,
    ⟨up, 1, .pyreri, 0x80000000, by decide +kernel⟩,
    ⟨up, 1, .pyreri, 2, 0, by decide +kernel⟩,
    ⟨up.setBit (Od.GCP_GCP_CTRL 13) 31 true, 1, 13, 4095, 100, by decide +kernel⟩,
    ⟨(up.setBit (Od.GCP_GCP_CTRL 13) 31 true).setN (Od.GCP_FILTER_ns 13) 100, 1, 13, 4095, 9, by decide +kernel⟩,
    ⟨up.setBit (Od.GCP_GCP_STATUS 3) 2 true, 1, .eth 2, 3, by decide +kernel⟩,
    ⟨(up.setBit (Od.GCP_GCP_STATUS 3) 2 true).modGcp 3 fun x => { x with crossTb := some 1 }, 1, .eth 2, 3,
    by decide +kernel⟩⟩

theorem witness_AxisUnitCommandsComplete :
  (∃ (s : State) (dt : Nat) (n : Axis) (raw : List Int) (odd : List Int) (v : Rat), (s.elapse dt).decisionDue n = true) ∧
  (∃ (s : State) (dt : Nat) (n : Axis) (raw : List Int) (odd : List Int) (v : Rat), (s.elapse dt).decisionDue n = true ∧
      4 ≤ n.val ∧ s.deciding n = true ∧ s.nat (Od.AX_DECISIONS n) < 2 ^ 64 - 1) ∧
  (∃ (s : State) (dt : Nat) (n : Axis) (raw : List Int) (odd : List Int) (v : Rat), (s.elapse dt).decisionDue n = true ∧
      n.val < 4 ∧ ((((((s.elapse dt).modAx n fun x => { x with decTb := some (s.tb + dt) }).setQ (Od.AX_V_BUS n)
      v).linkDecision.stopDue n).driveStep n).deciding n = true)) ∧
  (∃ (s : State) (dt : Nat) (n : Axis) (raw : List Int) (odd : List Int) (v : Rat), (s.elapse dt).decisionDue n = true ∧
      4 ≤ n.val ∧ ((s.cell (cellOf n)).mode ≠ .switching ∧ (s.cell (cellOf n)).mode ≠ .asc)) ∧
  (∃ (s : State) (dt : Nat) (n : Axis) (raw : List Int) (odd : List Int) (v : Rat), (s.elapse dt).decisionDue n = false) ∧
  (∃ (s : State) (dt : Nat) (n : Axis), s.deciding n = true ∧ s.nat (Od.AX_MEAS_MAX_ns n) + 1000 < 10 * (s.tb + dt -
      (s.ax n).lastFull)) ∧
  (∃ (s : State) (dt : Nat) (n : Axis), (s.elapse dt).lossDue n = true ∧ s.nat (Od.OBS_LOSS_COUNT n) < 2 ^ 32 - 1) ∧
  (∃ (s : State) (dt : Nat) (n : Axis), (s.elapse dt).lossDue n = true ∧ (n.val < 4 ∧ (s.tr (setSide n)).losses = [])) ∧
  (∃ (s : State) (dt : Nat) (m : Fin 2) (a : Axis) (b : Axis), sideSets m = [a, b] ∧ (s.elapse dt).crossDue m = true ∧
      ((s.ax a).resid < 81 / 100 * (s.ax b).resid ∧ 0 ≤ (s.ax a).resid) ∧ s.nat (Od.OBS_LOSS_COUNT b) < 2 ^ 32 - 1) ∧
  (∃ (s : State) (dt : Nat) (m : Fin 2) (a : Axis) (b : Axis), sideSets m = [a, b] ∧ (s.elapse dt).crossDue m = true ∧
      (81 / 100 * (s.ax a).resid ≤ (s.ax b).resid ∧ 81 / 100 * (s.ax b).resid ≤ (s.ax a).resid) ∧ (0 ≤ (s.ax a).resid
      ∧ 0 ≤ (s.ax b).resid) ∧ (s.nat (Od.OBS_LOSS_COUNT a) < 2 ^ 32 - 1 ∧ s.nat (Od.OBS_LOSS_COUNT b) < 2 ^ 32 - 1)) ∧
  (∃ (s : State) (dt : Nat) (t0 : Nat) (n : TSet) (a : Axis), a.val = n.val ∧ (s.ax a).trackSince = some t0 ∧ (s.cell
      (cellOf n)).mode = .coast ∧ t0 + 200000 ≤ s.tb + dt) ∧
  (∃ (s : State) (dt : Nat) (n : TSet) (a : Axis), a.val = n.val ∧ (s.deciding a = true ∧ s.bit (Od.OBS_OBS_STATUS n) 8
      = true) ∧ (s.ax a).assist = none ∧ (s.ax a).assistTb + us (s.nat (Od.OBS_ASSIST_PERIOD_us n)) ≤ s.tb + dt) ∧
  (∃ (s : State) (dt : Nat) (t0 : Nat) (n : TSet) (a : Axis) (r : Nat × Rat × Rat), a.val = n.val ∧ (s.ax a).recover =
      some t0 ∧ (s.elapse dt).firstSource a = some r) ∧
  (∃ (s : State) (dt : Nat) (t0 : Nat) (n : TSet) (a : Axis), a.val = n.val ∧ (s.ax a).recover = some t0 ∧ t0 + 1000000
      ≤ s.tb + dt ∧ s.nat (Od.OBS_LOSS_COUNT n) < 2 ^ 32) ∧
  (∃ (s : State) (dt : Nat) (n : TSet) (a : Axis) (e : Rat), a.val = n.val ∧ s.ascExitDue a = true ∧ s.num
      (Od.AX_BEMF_LL_PK n) = e) ∧
  (∃ (s : State) (dt : Nat) (n : TSet) (a : Axis), a.val = n.val ∧ ((s.ds (cellDrive n) = .stopping ∧ (s.drv (cellDrive
      n)).substate = 5) ∨ (s.ds (cellDrive n) = .active ∧ (s.drv (cellDrive n)).substate = 3)) ∧ (s.tr (setSide
      n)).brake = none ∧ s.deciding a = true ∧ s.num (Od.AX_BEMF_LL_PK n) < s.num (Od.TR_STOP_EMF_EXIT (setSide n)) *
      s.num Od.DCL_V_DC) :=
  ⟨⟨up.modCell 5 fun x => { x with mode := .switching }, 10, 5, [0, 0, 0], [], 48, by decide +kernel⟩,
    ⟨up.modCell 5 fun x => { x with mode := .switching }, 10, 5, [0, 0, 0], [], 48, by decide +kernel⟩,
    ⟨(up.modCell 1 fun x => { x with mode := .switching }).setQ Od.DCL_V_DC 800, 10, 1, [0, 0, 0], [], 800,
    by decide +kernel⟩,
    ⟨up, 10, 5, [0, 0, 0], [], 48, by decide +kernel⟩,
    ⟨up, 7, 5, [0, 0, 0], [], 48, by decide +kernel⟩,
    ⟨up.modCell 5 fun x => { x with mode := .switching }, 99999, 5, by decide +kernel⟩,
    ⟨(up.modCell 2 fun x => { x with mode := .switching }).modAx 2 fun x => { x with lossRun := true }, 1000000, 2,
    by decide +kernel⟩,
    ⟨(up.modCell 2 fun x => { x with mode := .switching }).modAx 2 fun x => { x with lossRun := true }, 1000000, 2,
    by decide +kernel⟩,
    ⟨(((up.modCell 2 fun x => { x with mode := .switching }).modCell 3 fun x => { x with mode := .switching }).modAx 3 fun
    x => { x with resid := 9 }).modTr 1 fun x => { x with xsetTb := some 0 }, 20000, 1, 2, 3, by decide +kernel⟩,
    ⟨((up.modCell 2 fun x => { x with mode := .switching }).modCell 3 fun x => { x with mode := .switching }).modTr 1 fun
    x => { x with xsetTb := some 0 }, 20000, 1, 2, 3, by decide +kernel⟩,
    ⟨(up.modCell 1 fun x => { x with mode := .coast }).modAx 1 fun x => { x with trackSince := some 0 }, 200000, 0, 1, 1,
    by decide +kernel⟩,
    ⟨(up.modCell 1 fun x => { x with mode := .switching }).setBit (Od.OBS_OBS_STATUS 1) 8 true, 1000000, 1, 1,
    by decide +kernel⟩,
    ⟨up.modAx 1 fun x => { x with recover := some 0, probe := some 5 }, 900, 0, 1, 1, (4, 5, 0), by decide +kernel⟩,
    ⟨up.modAx 1 fun x => { x with recover := some 0 }, 1000000, 0, 1, 1, by decide +kernel⟩,
    ⟨State.setBit ((up.setQ Od.DCL_V_DC 600).modCell 1 fun x => { x with mode := .asc, supLo := true }) (Od.OBS_OBS_STATUS
    1) 1 true, 5, 1, 1, 0, by decide +kernel⟩,
    ⟨((up.setQ Od.DCL_V_DC 600).modDrv .tra fun x => { x with state := .stopping, substate := 5 }).modCell 1 fun x => { x with mode := .switching },
    5, 1, 1, by decide +kernel⟩⟩

theorem witness_ShuntAndProbeCommandsComplete :
  (∃ (s : State) (dt : Nat) (n : Axis) (p : Fin 3) (k : Rat), (s.deciding n = true ∧ s.openReached n p = true ∧
      s.openPhases n < 2) ∧ (s.ax n).kcl.getD p.val none = some k ∧ (n.val < 4 ∧ s.twoShunt n = false ∧ s.oneSet
      (setSide n) = false) ∧ s.num (Od.OBS_KCL_LIM n) < |k|) ∧
  (∃ (s : State) (dt : Nat) (n : Axis) (p : Fin 3) (k : Rat), (s.deciding n = true ∧ s.openReached n p = true ∧
      s.openPhases n < 2) ∧ (s.ax n).kcl.getD p.val none = some k ∧ (n.val < 4 ∧ s.oneSet (setSide n) = false) ∧ |k| ≤
      s.num (Od.OBS_KCL_LIM n)) ∧
  (∃ (s : State) (dt : Nat) (n : Axis) (p : Fin 3) (k : Rat), s.deciding n = true ∧ s.openReached n p = true ∧ 2 ≤
      s.openPhases n) ∧
  (∃ (s : State) (dt : Nat) (n : Axis) (p : Fin 3), s.deciding n = true ∧ 8 ≤ (s.ax n).attr.getD p.val 0 ∧ (n.val < 4 ∧
      s.twoShunt n = false ∧ s.oneSet (setSide n) = false)) ∧
  (∃ (s : State) (dt : Nat) (n : Axis), s.deciding n = true ∧ 16 ≤ (s.ax n).unattrib ∧ (n.val < 4 ∧ s.oneSet (setSide n)
      = false)) ∧
  (∃ (s : State) (dt : Nat) (n : Axis) (p : Fin 3), (s.elapse dt).saturated n p = true ∧ (n.val < 4 ∧ s.twoShunt n =
      false ∧ s.oneSet (setSide n) = false)) ∧
  (∃ (s : State) (dt : Nat) (m : Fin 2) (n : Axis) (p : ProbeSt) (ts : List (Option Nat)), ((s.tr m).probe = some p ∧
      p.purpose.sedge = true ∧ p.purpose ≠ .ident) ∧ ((s.elapse dt).trainOver p = true ∧ ts = p.rises) ∧ n ∈ sideSets
      m) ∧
  (∃ (s : State) (dt : Nat) (m : Fin 2) (n : Axis) (p : ProbeSt) (ts : List (Option Nat)), ((s.tr m).probe = some p ∧
      p.purpose = .start ∧ n ∈ sideSets m) ∧ ((s.elapse dt).trainOver p = true ∧ ts = p.rises) ∧ (∀ e ∈ p.pulses,
      s.canProbe e.1.1 = true ∧ (probeTime e.2).isSome = true) ∧ (∀ a ∈ sideSets m, p.pulses.any (fun e => e.1.1 == a)
      = true) ∧ (∀ a ∈ sideSets m, s.num (Od.OBS_PROBE_CONF_MIN a) ≤ (probeResult (p.pulses.map fun e => probeDir
      e.1.1 e.1.2) (p.pulses.map fun e => (probeTime e.2).getD 0)).2)) :=
  ⟨⟨(up.modCell 1 fun x => { x with mode := .switching }).modAx 1 fun x => { x with openAcc := [0, 0, 1000000], kcl := [none, none, some 9999] },
    5, 1, 2, 9999, by decide +kernel⟩,
    ⟨(up.modCell 1 fun x => { x with mode := .switching }).modAx 1 fun x => { x with openAcc := [0, 0, 1000000], kcl := [none, none, some 0] },
    5, 1, 2, 0, by decide +kernel⟩,
    ⟨(up.modCell 1 fun x => { x with mode := .switching }).modAx 1 fun x => { x with openAcc := [0, 1000000, 1000000] },
    5, 1, 2, 0, by decide +kernel⟩,
    ⟨(up.modCell 1 fun x => { x with mode := .switching }).modAx 1 fun x => { x with attr := [0, 0, 8] }, 5, 1, 2,
    by decide +kernel⟩,
    ⟨(up.modCell 1 fun x => { x with mode := .switching }).modAx 1 fun x => { x with unattrib := 16 }, 5, 1,
    by decide +kernel⟩,
    ⟨(up.modCell 1 fun x => { x with mode := .switching }).modAx 1 fun x => { x with ovrSince := [some 0, none, none] },
    100000, 1, 0, by decide +kernel⟩,
    ⟨up.modTr 0 fun x => { x with probe := some { purpose := .start, startTb := 0, slots := [(0, 1)], done := [.missed 3] } },
    24000, 0, 1, { purpose := .start, startTb := 0, slots := [(0, 1)], done := [.missed 3] }, [none],
    by decide +kernel⟩,
    ⟨up.modTr 0 fun x => { x with probe := some probe0 }, 288000, 0, 1, probe0, probe0.rises, by decide +kernel⟩⟩

theorem witness_DriveControlCommandsComplete :
  (∃ (s : State) (dt : Nat) (who : Requester) (d : Drive), s.accepts dt who (controlKey d) .operator = true ∧ (s.begun
      dt who).owns who d = true ∧ (s.safe d).ss1 = none ∧ s.armAllowed d = true ∧ s.armDataFault d = []) ∧
  (∃ (s : State) (dt : Nat) (who : Requester) (d : Drive), s.accepts dt who (controlKey d) .operator = true ∧ (s.begun
      dt who).owns who d = true ∧ (s.safe d).ss1 = none ∧ s.ds d = .armed ∧ (d = .chg → (((s.begun dt who).holdAuto d
      false).runDrive d).isSome = true)) ∧
  (∃ (s : State) (dt : Nat) (who : Requester) (d : Drive) (size : Nat), (s.diagOnly = false ∧ s.dictUp = true ∧ who ≠
      .canA) ∧ size ≠ 1) ∧
  (∃ (s : State) (dt : Nat) (who : Requester) (d : Drive), s.accepts dt who (controlKey d) .operator = true ∧ (s.begun
      dt who).owns who d = true ∧ (s.safe d).ss1 = none ∧ s.ds d = .active) ∧
  (∃ (s : State) (dt : Nat) (who : Requester) (d : Drive), s.accepts dt who (controlKey d) .operator = true ∧ (s.begun
      dt who).owns who d = true ∧ (s.safe d).ss1 = none ∧ s.ds d = .armed) ∧
  (∃ (s : State) (dt : Nat) (who : Requester) (d : Drive), s.accepts dt who (controlKey d) .operator = true ∧ (s.begun
      dt who).owns who d = true ∧ (s.safe d).ss1 = none ∧ s.ds d = .fault ∧ s.lockedOut d = false ∧ s.causePresent d =
      false) ∧
  (∃ (s : State) (dt : Nat) (d : Drive) (k : Nat), armHoldKey d = some k ∧ s.ds d = .armed ∧ (s.drv d).armedTb + ms
      (s.nat k) ≤ s.tb + dt ∧ s.log.buffer.length < 16) :=
  ⟨⟨up.setN (Od.OWN_OWNER 4) 0x31, 5, .eth 1, .chg, by decide +kernel⟩,
    ⟨(up.modDrv .brk fun x => { x with state := .armed }).setN (Od.OWN_OWNER 5) 0x31, 5, .eth 1, .brk, by decide +kernel⟩,
    ⟨up, 5, .pyreri, .brk, 2, by decide +kernel⟩,
    ⟨(up.modDrv .brk fun x => { x with state := .active }).setN (Od.OWN_OWNER 5) 0x31, 5, .eth 1, .brk, by decide +kernel⟩,
    ⟨(up.modDrv .chg fun x => { x with state := .armed }).setN (Od.OWN_OWNER 4) 0x31, 5, .eth 1, .chg, by decide +kernel⟩,
    ⟨({ up with engines := Vector.replicate 24 { state := .live } }.modDrv .chg fun x => { x with state := .fault }).setN
    (Od.OWN_OWNER 4) 0x31, 5, .eth 1, .chg, by decide +kernel⟩,
    ⟨up.modDrv .gbx fun x => { x with state := .armed }, 9999999999, .gbx, Od.GBX_ARM_HOLD_ms, by decide +kernel⟩⟩

theorem witness_TorqueCommandsComplete :
  (∃ (s : State) (dt : Nat) (who : Requester) (m : Fin 2) (v : BitVec 32) (q : Rat), s.accepts dt who (Od.TR_TQ_SET m)
      .operator = true ∧ (s.begun dt who).owns who (sideDrive m) = true ∧ (s.axleRuns = false ∧ s.ss1Locks m = false)
      ∧ f32Decode v = some q ∧ (((s.drv (sideDrive m)).tqoTb.any fun b => sameDecision b (s.tb + dt)) = false)) ∧
  (∃ (s : State) (dt : Nat) (who : Requester) (m : Fin 2) (v : BitVec 8), s.accepts dt who (Od.TR_DIRECTION m) .operator
      = true ∧ (s.begun dt who).owns who (sideDrive m) = true ∧ (s.axleRuns = false ∧ s.ss1Locks m = false) ∧ (v = 1 ∨
      v = 2) ∧ s.nat (Od.TR_DIRECTION m) ≠ v.toNat) ∧
  (∃ (s : State) (dt : Nat) (m : Fin 2), s.ds (sideDrive m) = .active ∧ ((s.drv (sideDrive m)).substate = 3 ∧ (s.tr
      m).revPending = false) ∧ s.reverseSlow m = true ∧ (∀ n ∈ s.liveSets m, s.deciding n = true)) ∧
  (∃ (s : State) (dt : Nat) (m : Fin 2) (n : Axis), s.ds (sideDrive m) = .active ∧ ((s.drv (sideDrive m)).substate = 3 ∧
      (s.tr m).revPending = false) ∧ s.reverseSlow m = true ∧ (n ∈ s.liveSets m ∧ s.deciding n = false) ∧ ((s.elapse
      dt).motorSource m).isSome = true) ∧
  (∃ (s : State) (dt : Nat) (who : Requester) (n : TSet), s.accepts dt who (Od.OBS_ID_CMD n) .service = true ∧ (s.ds
      (cellDrive n) = .standby ∧ (s.drv (cellDrive n)).arming = .none) ∧ ((s.drv (cellDrive n)).tqo = false ∧ (s.drv
      (cellDrive n)).tqoLink = false) ∧ s.emfLow n = true) ∧
  (∃ (s : State) (dt : Nat) (who : Requester) (n : TSet), s.accepts dt who (Od.OBS_ID_CMD n) .service = true ∧ (s.ds
      (cellDrive n) = .standby ∧ (s.drv (cellDrive n)).arming = .none) ∧ ((s.drv (cellDrive n)).tqo = false ∧ (s.drv
      (cellDrive n)).tqoLink = false) ∧ 50 ≤ s.num (Od.AX_BEMF_LL_PK n)) ∧
  (∃ (s : State) (dt : Nat) (who : Requester) (n : TSet), s.accepts dt who (Od.OBS_ID_CMD n) .service = true ∧ (s.ds
      (cellDrive n) = .standby ∧ (s.drv (cellDrive n)).arming = .none) ∧ ((s.drv (cellDrive n)).tqo = false ∧ (s.drv
      (cellDrive n)).tqoLink = false) ∧ (s.nat (Od.OBS_START_MODE n) = 1 ∧ s.emfLow n = true)) ∧
  (∃ (s : State) (dt : Nat) (who : Requester) (n : TSet), s.accepts dt who (Od.OBS_ID_CMD n) .service = true ∧ s.bit
      (Od.OBS_OBS_STATUS n) 16 = true) ∧
  (∃ (s : State) (dt : Nat) (n : TSet) (a : Axis) (rs : Rat) (ld : Rat) (lq : Rat), a.val = n.val ∧ s.bit
      (Od.OBS_OBS_STATUS n) 16 = true ∧ s.ds (cellDrive n) = .armed ∧ s.nat (Od.OBS_ID_CMD n) = 2 ∧ ((s.ax
      a).ident.phase = 1 ∧ (s.ax a).ident.count ≠ 0 ∧ (s.ax a).ident.tb + sec 1 ≤ s.tb + dt)) ∧
  (∃ (s : State) (dt : Nat) (n : TSet) (a : Axis) (rs : Rat) (ld : Rat) (lq : Rat), a.val = n.val ∧ s.bit
      (Od.OBS_OBS_STATUS n) 16 = true ∧ s.ds (cellDrive n) = .armed ∧ s.nat (Od.OBS_ID_CMD n) = 1 ∧ (s.ax
      a).ident.phase = 4) ∧
  (∃ (s : State) (dt : Nat) (n : TSet) (a : Axis) (rs : Rat) (ld : Rat) (lq : Rat), a.val = n.val ∧ s.bit
      (Od.OBS_OBS_STATUS n) 16 = true ∧ s.ds (cellDrive n) = .armed ∧ s.nat (Od.OBS_ID_CMD n) = 3 ∧ (s.ax
      a).ident.phase = 4) ∧
  (∃ (s : State) (dt : Nat) (who : Requester) (n : TSet) (a : Axis), a.val = n.val ∧ s.accepts dt who (Od.OBS_ID_APPLY
      n) .service = true ∧ s.ds (cellDrive n) = .standby ∧ (s.ax a).idValid.testBit 1 = true) :=
  ⟨⟨up.setN (Od.OWN_OWNER 1) 0x31, 5, .eth 1, 1, 0x40000000, 2, by decide +kernel⟩,
    ⟨(up.modDrv .trb fun x => { x with state := .active }).setN (Od.OWN_OWNER 1) 0x31, 5, .eth 1, 1, 2, by decide +kernel⟩,
    ⟨((up.modDrv .trb fun x => { x with state := .active, substate := 3 }).modCell 2 fun x => { x with mode := .switching }).modCell
    3 fun x => { x with mode := .switching }, 5, 1, by decide +kernel⟩,
    ⟨(up.modDrv .trb fun x => { x with state := .active, substate := 3, armedTb := 4 }).modAx 2 fun x => { x with pulse := some (0, 0, 4) },
    5, 1, 2, by decide +kernel⟩,
    ⟨up, 5, .pyreri, 2, by decide +kernel⟩,
    ⟨up.setQ (Od.AX_BEMF_LL_PK 2) 60, 5, .pyreri, 2, by decide +kernel⟩,
    ⟨up.setN (Od.OBS_START_MODE 2) 1, 5, .pyreri, 2, by decide +kernel⟩,
    ⟨up.setBit (Od.OBS_OBS_STATUS 2) 16 true, 5, .pyreri, 2, by decide +kernel⟩,
    ⟨(((up.setBit (Od.OBS_OBS_STATUS 2) 16 true).setN (Od.OBS_ID_CMD 2) 2).modDrv .trb fun x => { x with state := .armed }).modAx
    2 fun x => { x with ident := { phase := 1, tb := 0, sum := 3, count := 9 } }, 100000000, 2, 2, 0, 0, 0,
    by decide +kernel⟩,
    ⟨(((up.setBit (Od.OBS_OBS_STATUS 2) 16 true).setN (Od.OBS_ID_CMD 2) 1).modDrv .trb fun x => { x with state := .armed }).modAx
    2 fun x => { x with ident := { phase := 4 } }, 5, 2, 2, 1, 2, 3, by decide +kernel⟩,
    ⟨(((up.setBit (Od.OBS_OBS_STATUS 2) 16 true).setN (Od.OBS_ID_CMD 2) 3).modDrv .trb fun x => { x with state := .armed }).modAx
    2 fun x => { x with ident := { phase := 4 } }, 5, 2, 2, 1, 2, 3, by decide +kernel⟩,
    ⟨(up.setQ (Od.OBS_ID_PSI_PM 2) 3).modAx 2 fun x => { x with idValid := 2 }, 5, .pyreri, 2, 2, by decide +kernel⟩⟩

theorem witness_PositionLinesComplete :
  (∃ (s : State) (dt : Nat) (p : Fin 12) (v : BitVec 3) (d : Int), s.pifSupplied p = true ∧ (s.pifService p ≠ 0 ∧
      s.pifMode p = 1) ∧ ((s.pif p).raw = (s.pif p).lines ∧ (s.pif p).lines < 8 ∧ (s.pif p).held = 0) ∧ v.toNat / 4 =
      (s.pif p).lines / 4 ∧ (abStep ((s.pif p).lines % 4) (v.toNat % 4) = some d ∧ d ≠ 0) ∧ (((s.pif p).edgeTb.all fun
      e => decide (e + s.edgeMin p ≤ s.tb + dt)) = true) ∧ s.loadedAt p (s.tb + dt) = false ∧ s.wireBits p = 0) ∧
  (∃ (s : State) (dt : Nat) (p : Fin 12) (v : BitVec 3), s.pifSupplied p = true ∧ (s.pifService p ≠ 0 ∧ s.pifMode p = 1)
      ∧ ((s.pif p).raw = (s.pif p).lines ∧ (s.pif p).lines < 8 ∧ (s.pif p).held = 0) ∧ v.toNat ^^^ (s.pif p).lines = 1
      ∧ (((s.pif p).edgeTb.any fun e => decide (s.tb + dt < e + s.edgeMin p)) = true) ∧ s.nat (Od.PIF_EDGE_FAULTS p) <
      4294967295) ∧
  (∃ (s : State) (dt : Nat) (p : Fin 12) (v : BitVec 3), s.pifSupplied p = true ∧ s.pifService p = 0) ∧
  (∃ (s : State) (dt : Nat) (p : Fin 12) (v : BitVec 3) (n : Nat), (s.pifService p ≠ 0 ∧ s.pifMode p = 1) ∧ (s.pif
      p).held = 0 ∧ (n = ([0, 1, 2].filter fun i => v.toNat.testBit i && !(s.wireBits p).testBit i).length ∧ n ≠ 0) ∧
      s.nat (Od.PIF_WIRE_FAULTS p) + n < 4294967295) ∧
  (∃ (s : State) (dt : Nat) (p : Fin 4) (q : Fin 12) (f : BitVec 32) (old : Nat), q.val = p.val ∧ (s.pifMode p = 2 ∧
      s.pifService p ≠ 0) ∧ s.nat (Od.PIF_SSI_FORMAT p) = 0 ∧ (s.pif q).ssiLast = some old ∧ (shortDiff (f.toNat % 2 ^
      s.nat (Od.PIF_SSI_BITS p)) old (s.nat (Od.PIF_SSI_BITS p))).natAbs ≤ s.nat (Od.PIF_SSI_JUMP_MAX p) ∧ (s.wireBits
      p = 0 ∧ s.pifCtrl p 7 = false) ∧ (s.elapse dt).ssiDue q = true ∧ s.loadedAt q (s.tb + dt) = false) ∧
  (∃ (s : State) (dt : Nat) (p : Fin 12) (c0 : Int) (c1 : Int) (t0 : Nat) (t1 : Nat), (s.pif p).held = 0 ∧
      (s.countsPerRev p ≠ 0 ∧ s.pifService p ≠ 0) ∧ (((s.pif p).speedTb.all fun e => decide (e + us (s.nat
      (Od.PIF_SPEED_PERIOD_us p)) ≤ s.tb + dt)) = true) ∧ (s.pif p).edge0 = some (c0, t0) ∧ (s.pif p).edge1 = some
      (c1, t1) ∧ s.tb + dt < t1 + ms (s.nat (Od.PIF_SPEED_ZERO_ms p))) :=
  ⟨⟨(up.setField (Od.PIF_PIF_STATUS 3) 0 3 2).setN (Od.PIF_MODE 3) 1, 99999, 3, 1, 1, by decide +kernel⟩,
    ⟨((up.setField (Od.PIF_PIF_STATUS 3) 0 3 2).setN (Od.PIF_MODE 3) 1).modPif 3 fun x => { x with edgeTb := some up.tb },
    1, 3, 1, by decide +kernel⟩,
    ⟨up, 5, 3, 1, by decide +kernel⟩,
    ⟨(up.setField (Od.PIF_PIF_STATUS 3) 0 3 2).setN (Od.PIF_MODE 3) 1, 99999, 3, 3, 2, by decide +kernel⟩,
    ⟨((up.setField (Od.PIF_PIF_STATUS 1) 0 3 2).setN (Od.PIF_MODE 1) 2).modPif 1 fun x => { x with ssiLast := some 5 }, 9,
    1, 1, 7, 5, by decide +kernel⟩,
    ⟨((up.setField (Od.PIF_PIF_STATUS 1) 0 3 2).setN (Od.PIF_COUNTS_PER_REV 1) 1024).modPif 1 fun x => { x with edge0 := some (0, 0), edge1 := some (1, 900) },
    950, 1, 0, 1, 0, 900, by decide +kernel⟩⟩

theorem witness_PositionServiceComplete :
  (∃ (s : State) (dt : Nat) (who : Requester) (p : Fin 12) (v : BitVec 32), s.accepts dt who (Od.PIF_PRESET p) .operator
      = true ∧ (s.begun dt who).owns who (pifDrive p) = true ∧ (s.pif p).held = 0) ∧
  (∃ (s : State) (dt : Nat) (who : Requester) (p : Fin 12), s.accepts dt who (Od.PIF_ARM_INDEX p) .operator = true ∧
      (s.pif p).held = 0) ∧
  (∃ (s : State) (dt : Nat) (p : Fin 12), (s.pifService p = 1 ∧ s.wireBits p = 0 ∧ (s.pif p).held = 0) ∧ (s.pif p).since
      + ms (s.nat (Od.PIF_CHECK_TIME_ms p)) ≤ s.tb + dt ∧ (s.pifMode p = 2 → 16 ≤ (s.pif p).ssiGood)) ∧
  (∃ (s : State) (dt : Nat) (p : Fin 12), (s.pifService p = 1 ∧ (s.pif p).held = 0) ∧ (s.pif p).late = false ∧ (s.pif
      p).entry + 100000000 ≤ s.tb + dt) ∧
  (∃ (s : State) (dt : Nat) (p : Fin 12), (s.pifService p = 3 ∧ s.wireBits p = 0 ∧ (s.pif p).held = 0) ∧ (s.pif p).since
      + 100000 ≤ s.tb + dt) ∧
  (∃ (s : State) (dt : Nat) (who : Requester) (p : Fin 12), s.accepts dt who (Od.PIF_CHECK_CMD p) .operator = true ∧
      (s.ds (pifDrive p) = .standby ∨ s.ds (pifDrive p) = .fault) ∧ (s.pifService p = 2 ∨ s.pifService p = 3)) ∧
  (∃ (s : State) (dt : Nat) (who : Requester) (p : Fin 12) (v : BitVec 8), s.accepts dt who (Od.PIF_MODE p) .service =
      true ∧ pifModeOk p v.toNat = true ∧ s.paramState (pifDrive p) = true ∧ s.pifSupplied p = true) :=
  ⟨⟨up.setN (Od.OWN_OWNER 1) 0x30, 5, .eth 0, 3, 0xFFFFFFFE, by decide +kernel⟩,
    ⟨up, 5, .eth 0, 3, by decide +kernel⟩,
    ⟨up.setField (Od.PIF_PIF_STATUS 3) 0 3 1, 99999999, 3, by decide +kernel⟩,
    ⟨up.setField (Od.PIF_PIF_STATUS 3) 0 3 1, 999999999, 3, by decide +kernel⟩,
    ⟨up.setField (Od.PIF_PIF_STATUS 3) 0 3 3, 999999999, 3, by decide +kernel⟩,
    ⟨up.setField (Od.PIF_PIF_STATUS 3) 0 3 2, 5, .eth 0, 3, by decide +kernel⟩,
    ⟨up, 5, .pyreri, 3, 2, by decide +kernel⟩⟩

theorem witness_LoopUnitSamplesComplete :
  (∃ (s : State) (dt : Nat) (n : Fin 24) (fb : Rat), (s.lu n).running = true ∧ ((s.lu n).queue = [] ∧ (s.lu n).commit =
      none) ∧ s.nat (Od.LU_SECTIONS n) ≠ 0 ∧ s.fbValue (s.nat (Od.LU_FB_SRC n)) = some fb ∧ ((s.elapse dt).luDue n =
      true ∧ s.clocks.faults.contains 7 = false)) ∧
  (∃ (s : State) (dt : Nat) (n : Fin 24), (s.lu n).running = true ∧ ((s.lu n).queue = [] ∧ (s.lu n).commit = none) ∧
      s.nat (Od.LU_SECTIONS n) ≠ 0 ∧ s.fbValue (s.nat (Od.LU_FB_SRC n)) = none ∧ ((s.elapse dt).luDue n = true ∧
      s.clocks.faults.contains 7 = false) ∧ (s.lu n).skips ≠ 7) ∧
  (∃ (s : State) (dt : Nat) (who : Requester) (n : Fin 24) (sub : BitVec 8) (w : BitVec 32) (v : Val), s.accepts dt who
      (Od.LU_NUM_SUBS n + sub.toNat) .service = true ∧ luQueued sub.toNat = true ∧ luWord sub.toNat w = .ok v ∧ ((s.lu
      n).running = true ∧ (s.lu n).queue.length < 8) ∧ ((s.lu n).commit = none ∧ s.rawRefused n sub.toNat v = false)) ∧
  (∃ (s : State) (dt : Nat) (who : Requester) (n : Fin 24) (sub : BitVec 8) (w : BitVec 32) (v : Val), s.accepts dt who
      (Od.LU_NUM_SUBS n + sub.toNat) .service = true ∧ luQueued sub.toNat = true ∧ luWord sub.toNat w = .ok v ∧ ((s.lu
      n).running = false ∧ (s.lu n).commit = none)) ∧
  (∃ (s : State) (dt : Nat) (n : Fin 24) (c : CommitSt), ((s.lu n).commit = some c ∧ c.step = 0) ∧ (s.lu n).running =
      true) ∧
  (∃ (s : State) (dt : Nat) (n : Fin 24) (c : CommitSt), ((s.lu n).commit = some c ∧ c.step = 0) ∧ (s.lu n).running =
      false) ∧
  (∃ (s : State) (dt : Nat) (n : Fin 24) (i : Fin 8), ((s.lu n).running = true ∧ s.secHeld n i = true ∧ (s.lu n).commit
      = none) ∧ ((s.lu n).holdLogged.getD i false = false ∧ i.val < (s.lu n).holdLogged.length) ∧ (s.lu n).holdTb.getD
      i 0 + ms (s.nat (Od.LU_HOLD_MAX_ms n)) < s.tb + dt) :=
  ⟨⟨(up.setN (Od.LU_SECTIONS 3) 1).modLu 3 fun x => { x with running := true }, 5, 3, 0, by decide +kernel⟩,
    ⟨((up.setN (Od.LU_SECTIONS 3) 1).setN (Od.LU_FB_SRC 3) 0x100).modLu 3 fun x => { x with running := true }, 5, 3,
    by decide +kernel⟩,
    ⟨(up.setN (Od.LU_SECTIONS 3) 1).modLu 3 fun x => { x with running := true }, 5, .pyreri, 3, 0x30, 77, .int 77,
    by decide +kernel⟩,
    ⟨up, 5, .pyreri, 3, 0x30, 77, .int 77, by decide +kernel⟩,
    ⟨up.modLu 3 fun x => { x with running := true, commit := some { sec := 2, coefs := [1, 2, 3, 4, 5] } }, 5, 3, { sec := 2, coefs := [1, 2, 3, 4, 5] },
    by decide +kernel⟩,
    ⟨up.modLu 3 fun x => { x with commit := some { sec := 2, coefs := [1, 2, 3, 4, 5] } }, 5, 3, { sec := 2, coefs := [1, 2, 3, 4, 5] },
    by decide +kernel⟩,
    ⟨(up.setBit (Od.LU_SEC_CTRL 3 2) 0 true).modLu 3 fun x => { x with running := true }, 99999999999, 3, 2,
    by decide +kernel⟩⟩

theorem witness_LoopUnitCommitsComplete :
  (∃ (s : State) (dt : Nat) (who : Requester) (n : Fin 24), s.accepts dt who (Od.LU_COMMIT n) .service = true ∧
      s.integSec n (Fin.ofNat 8 (s.nat (Od.LU_STAGE_SEC n))) = false ∧ stable ((s.stagedSet n).getD 3 0) ((s.stagedSet
      n).getD 4 0) = true ∧ ((s.lu n).commit = none ∧ (s.lu n).queue = [])) ∧
  (∃ (s : State) (dt : Nat) (who : Requester) (n : Fin 24), s.accepts dt who (Od.LU_COMMIT n) .service = true ∧
      s.notchOk n = true ∧ s.integSec n (Fin.ofNat 8 (s.nat (Od.LU_STAGE_SEC n))) = false ∧ ((s.lu n).commit = none ∧
      (s.lu n).queue = [])) ∧
  (∃ (s : State) (dt : Nat) (who : Requester) (n : Fin 24) (i : Fin 8) (v : BitVec 8), s.accepts dt who (Od.LU_SEC_CTRL
      n i) .service = true ∧ v.toNat < 4 ∧ ((s.lu n).running = true → v.toNat / 2 = s.nat (Od.LU_SEC_CTRL n i) / 2) ∧
      (s.lu n).commit = none) :=
  ⟨⟨up.setI (Od.LU_STAGE 3 0) 5, 5, .pyreri, 3, by decide +kernel⟩,
    ⟨((up.setQ (Od.LU_NOTCH_F0 3) 200).setQ (Od.LU_NOTCH_WIDTH 3) 20).setN (Od.LU_TRIG_PERIOD_us 3) 100, 5, .pyreri, 3,
    by decide +kernel⟩,
    ⟨up, 5, .pyreri, 3, 1, 3, by decide +kernel⟩⟩

theorem witness_TaskCommandsComplete :
  (∃ (s : State) (dt : Nat) (k : Fin 59), s.releasable k = true ∧ (s.elapse dt).periodDue k = true ∧ s.hosted k = true ∧
      (s.task k).waiting = none) ∧
  (∃ (s : State) (dt : Nat) (k : Fin 59), s.releasable k = true ∧ (s.elapse dt).periodDue k = true ∧ s.hosted k = true ∧
      (s.task k).waiting ≠ none ∧ s.nat (Od.TASK_SKIPS k) < 2 ^ 32) ∧
  (∃ (s : State) (dt : Nat) (e : Fin 24) (r : SliceResult) (k : Fin 59), (s.eng e).running = some k ∧ k.val ≤ 7 ∧ s.tb +
      dt < (s.eng e).startTb + us 100) ∧
  (∃ (s : State) (dt : Nat) (e : Fin 24) (r : SliceResult), (s.eng e).running = some 8 ∧ s.tb + dt < (s.eng e).startTb +
      us 100) ∧
  (∃ (s : State) (dt : Nat) (e : Fin 24) (k : Fin 59), (s.eng e).running = some k ∧ (s.eng e).startTb + 10000 ≤ s.tb +
      dt ∧ engInService (s.eng e) = true) ∧
  (∃ (s : State) (dt : Nat) (e : Fin 24), (s.eng e).state = .outOfService ∧ (s.eng e).oosTb + ms 100 ≤ s.tb + dt) ∧
  (∃ (s : State) (dt : Nat) (who : Requester), s.accepts dt who Od.POOL_CONFIG_LOAD .service = true ∧ (∀ d ∈ Drive.all,
      s.paramState d = true)) ∧
  (∃ (s : State) (dt : Nat), s.pool.check = some false) :=
  ⟨⟨({ up with engines := Vector.replicate 24 { state := .live } }.setBit Od.POOL_POOL_STATUS 0 true).setN
    (Od.TASK_PERIOD_ACT_us 33) 1, 100, 33, by decide +kernel⟩,
    ⟨(({ up with engines := Vector.replicate 24 { state := .live } }.setBit Od.POOL_POOL_STATUS 0 true).setN
    (Od.TASK_PERIOD_ACT_us 33) 1).modTask 33 fun x => { x with waiting := some 0 }, 100, 33, by decide +kernel⟩,
    ⟨{ up with engines := Vector.replicate 24 { state := .live, running := some 2 } }, 100, 5, .pass, 2,
    by decide +kernel⟩,
    ⟨{ up with engines := Vector.replicate 24 { state := .live, running := some 8 } }, 100, 5, .pass, by decide +kernel⟩,
    ⟨{ up with engines := Vector.replicate 24 { state := .live, running := some 8 } }, 10000, 5, 8, by decide +kernel⟩,
    ⟨{ up with engines := Vector.replicate 24 { state := .outOfService } }, 10000000, 5, by decide +kernel⟩,
    ⟨up, 1, .pyreri, by decide +kernel⟩,
    ⟨up.modPool fun x => { x with check := some false }, 1, by decide +kernel⟩⟩

theorem witness_ShiftAndAxleCommandsComplete :
  (∃ (s : State) (dt : Nat) (who : Requester) (m : Fin 2) (v : BitVec 8), s.accepts dt who (Od.SHF_SHIFT_CMD m)
      .operator = true ∧ v.toNat ≤ 2 ∧ (s.begun dt who).owns who .gbx = true ∧ (s.begun dt who).sameGear m v.toNat =
      false ∧ (s.begun dt who).shiftRefusal m v.toNat = 0 ∧ s.shifting (otherSide m).val = false) ∧
  (∃ (s : State) (dt : Nat) (m : Fin 2), s.shiftStep m = 1 ∧ (s.side m).stepTb + 5000000 ≤ s.tb + dt ∧ s.nat
      (Od.SHF_SHIFT_FAILS m) < 2 ^ 32) ∧
  (∃ (s : State) (dt : Nat) (who : Requester) (v : BitVec 8), s.accepts dt who Od.AXLE_AXLE_MODE .operator = true ∧
      v.toNat ≤ 3 ∧ (s.begun dt who).ownsAxle who = true ∧ (v ≠ 0 → s.ratiosSet = true) ∧ (s.axleMode = 0 ∨ v = 0) ∧
      (∀ d ∈ [Drive.tra, .trb], s.ds d ≠ .active ∧ s.ds d ≠ .stopping)) ∧
  (∃ (s : State) (dt : Nat) (who : Requester) (v : BitVec 32) (q : Rat), s.accepts dt who Od.AXLE_AXLE_TQ_SET .operator
      = true ∧ (s.begun dt who).ownsAxle who = true ∧ f32Decode v = some q) ∧
  (∃ (s : State) (dt : Nat) (who : Requester) (v : BitVec 32) (q : Rat), s.accepts dt who Od.AXLE_YAW_TQ_SET .operator =
      true ∧ (s.begun dt who).ownsAxle who = true ∧ f32Decode v = some q) ∧
  (∃ (s : State) (dt : Nat) (who : Requester) (v : BitVec 8), s.accepts dt who Od.AXLE_AXLE_DIRECTION .operator = true ∧
      (v = 1 ∨ v = 2) ∧ (s.begun dt who).ownsAxle who = true ∧ (s.axleMode ≠ 0 ∧ s.shiftHoldsDirection = false)) :=
  ⟨⟨((((((up.modDrv .gbx fun x => { x with state := .active }).setN (Od.OWN_OWNER 2) 0x30).setN (Od.PRK_PARK_STATE 1)
    1).setN (Od.SHF_GEAR_STATE 1) 3).setQ (Od.SHF_RATIO_1 1) 8).setQ (Od.SHF_RATIO_2 1) 4).setI (Od.SHF_POS_G1 1) 50,
    5, .eth 0, 1, 2, by decide +kernel⟩,
    ⟨(up.setN (Od.SHF_SHIFT_STEP 1) 1).setN (Od.SHF_GEAR_STATE 1) 5, 5000000, 1, by decide +kernel⟩,
    ⟨((((((up.setN (Od.OWN_OWNER 0) 0x30).setN (Od.OWN_OWNER 1) 0x30).setQ (Od.SHF_RATIO_1 1) 8).setQ (Od.SHF_RATIO_2 1)
    4).setQ (Od.SHF_RATIO_1 0) 8).setQ (Od.SHF_RATIO_2 0) 4), 5, .eth 0, 3, by decide +kernel⟩,
    ⟨(up.setN (Od.OWN_OWNER 0) 0x30).setN (Od.OWN_OWNER 1) 0x30, 5, .eth 0, 0x40000000, 2, by decide +kernel⟩,
    ⟨(up.setN (Od.OWN_OWNER 0) 0x30).setN (Od.OWN_OWNER 1) 0x30, 5, .eth 0, 0x40000000, 2, by decide +kernel⟩,
    ⟨((up.setN (Od.OWN_OWNER 0) 0x30).setN (Od.OWN_OWNER 1) 0x30).setField Od.AXLE_AXLE_STATUS 0 2 2, 5, .eth 0, 2,
    by decide +kernel⟩⟩

theorem witness_ActuatorCommandsComplete :
  (∃ (s : State) (dt : Nat) (a : Fin 4), s.pifService (4 + a) = 3) ∧
  (∃ (s : State) (dt : Nat) (who : Requester) (c : Fin 8) (v : BitVec 32) (q : Rat), s.accepts dt who (Od.SOL_I_SET c)
      .operator = true ∧ f32Decode v = some q ∧ (0 ≤ q ∧ q ≤ 4) ∧ (s.begun dt who).owns who .gbx = true ∧ s.solSide c
      = none) ∧
  (∃ (s : State) (dt : Nat) (v : Rat) (c : Fin 8), v < 38) ∧
  (∃ (s : State) (dt : Nat) (c : Fin 8) (i : Rat), 6 < i ∧ s.num (Od.SOL_DUTY c) ≠ 0) ∧
  (∃ (s : State) (dt : Nat) (c : Fin 8), (((s.elapse dt).gbx.sols.get c).openTb.any fun e => decide (e + ms (s.nat
      (Od.SOL_OPEN_LOAD_ms c)) ≤ s.tb + dt)) = true) ∧
  (∃ (s : State) (dt : Nat) (c : Fin 8), (((s.elapse dt).gbx.sols.get c).devTb.any fun e => decide (e + ms 200 ≤ s.tb +
      dt)) = true) ∧
  (∃ (s : State) (dt : Nat), s.recoveryDue = true) ∧
  (∃ (s : State) (dt : Nat) (a : Fin 4), s.gbx.recovT0.isSome = true ∧ ((s.recOf a).resolved = false ∧ (s.recOf a).step
      = 4 ∧ (s.recOf a).turned = false) ∧ (s.elapse dt).stalled a (s.recOf a).pushTb (ms 20) = true) ∧
  (∃ (s : State) (dt : Nat) (t0 : Nat), s.gbx.recovT0 = some t0 ∧ (∀ a ∈ ([0, 1, 2, 3] : List (Fin 4)), (s.recOf
      a).resolved = true)) :=
  ⟨⟨(up.modDrv .gbx fun x => { x with state := .active }).setField (Od.PIF_PIF_STATUS 6) 0 3 3, 5, 2, by decide +kernel⟩,
    ⟨(up.setN (Od.OWN_OWNER 2) 0x30).modDrv .gbx fun x => { x with state := .active }, 5, .eth 0, 5, 0x40000000, 2,
    by decide +kernel⟩,
    ⟨up.setQ (Od.SOL_DUTY 3) 1, 5, 37, 3, by decide +kernel⟩,
    ⟨up.setQ (Od.SOL_DUTY 3) 1, 5, 3, 7, by decide +kernel⟩,
    ⟨{ up with gbx := { up.gbx with sols := Vector.replicate 8 { openTb := some 0 } } }, 99999999, 3, by decide +kernel⟩,
    ⟨{ up with gbx := { up.gbx with sols := Vector.replicate 8 { devTb := some 0 } } }, 99999999, 3, by decide +kernel⟩,
    ⟨(up.setQ Od.CNV_V_IB 48).modDrv .gbx fun x => { x with state := .unavailable }, 5, by decide +kernel⟩,
    ⟨{ up with gbx := { up.gbx with recovT0 := some 0, recs := Vector.replicate 4 { step := 4, dir := 1 } } }, 9999999, 2,
    by decide +kernel⟩,
    ⟨{ up with gbx := { up.gbx with recovT0 := some 0, recs := Vector.replicate 4 { resolved := true } } }, 5, 0,
    by decide +kernel⟩⟩

theorem witness_ParkCommandsComplete :
  (∃ (s : State) (dt : Nat) (who : Requester) (m : Fin 2), s.accepts dt who (Od.PRK_PARK_CMD m) .operator = true ∧
      (s.begun dt who).owns who .gbx = true ∧ (s.shifting m = false ∧ s.parkSlow m = true) ∧ (s.park m = 3 ∨ s.park m
      = 4)) ∧
  (∃ (s : State) (dt : Nat) (who : Requester) (m : Fin 2), s.accepts dt who (Od.PRK_PARK_CMD m) .operator = true ∧
      (s.begun dt who).owns who .gbx = true ∧ s.park m = 1 ∧ s.gbxActive = true ∧ (s.ds (sideDrive m) = .active ∨
      s.flag Od.PRK_TOW_RELEASE = true)) ∧
  (∃ (s : State) (dt : Nat) (m : Fin 2), s.park m = 2 ∧ ((((s.elapse dt).side m).pawlTb.any fun b => decide (b + ms 10 ≤
      s.tb + dt)) = true)) ∧
  (∃ (s : State) (dt : Nat) (m : Fin 2), s.park m = 3 ∧ ((((s.elapse dt).side m).pawlTb.any fun b => decide (b + ms 10 ≤
      s.tb + dt)) = true)) ∧
  (∃ (s : State) (dt : Nat) (m : Fin 2), (s.park m = 2 ∧ s.gbxActive = true) ∧ s.pawlAt m (s.int (Od.PRK_POS_ENGAGED m))
      = false ∧ (s.elapse dt).stalled (pawlOf m) (s.side m).parkTb (ms 20) = true) ∧
  (∃ (s : State) (dt : Nat) (m : Fin 2), s.park m = 3 ∧ (s.side m).parkTb + ms (s.nat Od.PRK_RELEASE_TIME_ms) ≤ s.tb +
      dt ∧ s.nat (Od.PRK_PARK_FAILS m) < 65535) :=
  ⟨⟨(up.setN (Od.OWN_OWNER 2) 0x30).setN (Od.PRK_PARK_STATE 1) 4, 5, .eth 0, 1, by decide +kernel⟩,
    ⟨(((up.modDrv .gbx fun x => { x with state := .active }).modDrv .trb fun x => { x with state := .active }).setN
    (Od.OWN_OWNER 2) 0x30).setN (Od.PRK_PARK_STATE 1) 1, 5, .eth 0, 1, by decide +kernel⟩,
    ⟨(up.setN (Od.PRK_PARK_STATE 1) 2).modSide 1 fun x => { x with pawlTb := some 0 }, 9999999, 1, by decide +kernel⟩,
    ⟨(up.setN (Od.PRK_PARK_STATE 1) 3).modSide 1 fun x => { x with pawlTb := some 0 }, 9999999, 1, by decide +kernel⟩,
    ⟨((up.modDrv .gbx fun x => { x with state := .active }).setN (Od.PRK_PARK_STATE 1) 2).setI (Od.PRK_POS_ENGAGED 1) 500,
    9999999, 1, by decide +kernel⟩,
    ⟨up.setN (Od.PRK_PARK_STATE 1) 3, 999999999, 1, by decide +kernel⟩⟩

theorem witness_DcLinkCommandsComplete :
  (∃ (s : State) (dt : Nat), (s.elapse dt).differDue = true ∧ s.bit Od.DCL_DCL_STATUS 1 = false ∧ s.ds .brk ≠ .inhibit) ∧
  (∃ (s : State) (dt : Nat) (since : Nat), s.dcl.uvSince = some since ∧ since + ms 100 ≤ s.tb + dt ∧ s.num
      Od.DCL_UV_DERATE + 10 ≤ s.vDc) ∧
  (∃ (s : State) (dt : Nat) (v0 : Rat), (s.num Od.DCL_RES_MEAS_0 ≠ 0 ∧ s.num Od.DCL_RES_MEAS_1 ≠ 0) ∧ s.dcl.vHist[9]? =
      some v0 ∧ s.dcl.resTb + us 10 ≤ s.tb + dt) ∧
  (∃ (s : State) (dt : Nat), (s.num Od.DCL_FW_TRIP ≤ s.num Od.DCL_V_DC ∧ s.dcl.fwHigh = false) ∧ s.nat Od.DCL_FW_TRIPS <
      65535 ∧ s.ds .chg ≠ .inhibit) ∧
  (∃ (s : State) (dt : Nat), (s.nat Od.DCL_HW_TRIPS < 65535 ∧ s.bringup.islandOn = true) ∧ s.ds .brk ≠ .inhibit) ∧
  (∃ (s : State) (dt : Nat) (who : Requester) (v : BitVec 8), s.accepts dt who Od.BRK_AUTO_RUN .service = true ∧ v.toNat
      < 2) ∧
  (∃ (s : State) (dt : Nat) (who : Requester) (v : BitVec 8), s.accepts dt who Od.AUX_AUTO_RUN .service = true ∧ v.toNat
      < 2) :=
  ⟨⟨up.modDcl fun x => { x with differTb := some 0 }, 9999999, by decide +kernel⟩,
    ⟨((up.setBit Od.DCL_DCL_STATUS 12 true).setQ Od.DCL_V_DC 600).modDcl fun x => { x with uvSince := some 0 }, ms 100, 0,
    by decide +kernel⟩,
    ⟨((((up.setQ Od.DCL_RES_MEAS_0 4).setQ Od.DCL_RES_MEAS_1 4).setQ Od.DCL_V_DC 800).setQ Od.DCL_CHOP_DUTY (1/2)).modDcl
    fun x => { x with vHist := List.replicate 10 790 }, 1000, 790, by decide +kernel⟩,
    ⟨up.setQ Od.DCL_V_DC 990, 5, by decide +kernel⟩,
    ⟨up.setQ Od.DCL_V_DC 1010, 5, by decide +kernel⟩,
    ⟨up, 5, .pyreri, 1, by decide +kernel⟩,
    ⟨up, 5, .pyreri, 1, by decide +kernel⟩⟩

theorem witness_ChopperCommandsComplete :
  (∃ (s : State) (dt : Nat) (who : Requester) (leg : Fin 2) (q : Rat) (v : BitVec 32), s.accepts dt who
      (Od.DCL_RES_OHM_0 + leg) .service = true ∧ f32Decode v = some q ∧ (q = 0 ∨ (f32Val (31 / 10) ≤ q ∧ q ≤ 20)) ∧
      (s.ds .brk = .unavailable ∨ s.ds .brk = .standby ∨ s.ds .brk = .fault)) ∧
  (∃ (s : State) (dt : Nat) (i0 : Rat) (i1 : Rat), s.resCheckRuns = true ∧ resFits (s.num Od.DCL_RES_OHM_0) (resMeas
      s.vDc i0) = true ∧ resFits (s.num Od.DCL_RES_OHM_1) (resMeas s.vDc i1) = true) ∧
  (∃ (s : State) (dt : Nat) (i0 : Rat) (i1 : Rat), s.resCheckRuns = true ∧ (resFits (s.num Od.DCL_RES_OHM_0) (resMeas
      s.vDc i0) && resFits (s.num Od.DCL_RES_OHM_1) (resMeas s.vDc i1)) = false ∧ s.logRoom = true) ∧
  (∃ (s : State) (dt : Nat) (t0 : Nat), s.dcl.checkWait = some t0 ∧ t0 + sec 10 ≤ s.tb + dt ∧ 450 ≤ s.num Od.DCL_V_DC) ∧
  (∃ (s : State) (dt : Nat) (leg : Fin 2) (i1 : Rat) (i2 : Rat), s.openCheckOn = true ∧ (s.elapse dt).switchOn (legOf
      (48 + leg)) false = true ∧ (s.elapse dt).lastEdge (legOf (48 + leg)) + us 2 ≤ s.tb + dt ∧ s.num
      (Od.DCL_RES_OHM_0 + leg) ≠ 0 ∧ (i1 < s.vDc / (4 * s.num (Od.DCL_RES_OHM_0 + leg)) ∧ i2 < s.vDc / (4 * s.num
      (Od.DCL_RES_OHM_0 + leg))) ∧ s.bit Od.DCL_DCL_STATUS (2 + leg) = false ∧ s.ds .brk ≠ .inhibit) ∧
  (∃ (s : State) (dt : Nat) (leg : Fin 2) (i : Rat), (s.num Od.DCL_SHORT_I_THR < i ∧ s.bringup.islandOn = true) ∧
      (s.elapse dt).switchOn (legOf (48 + leg)) false = false ∧ (s.elapse dt).lastEdge (legOf (48 + leg)) + us 2 ≤
      s.tb + dt ∧ s.bit Od.DCL_DCL_STATUS (4 + leg) = false ∧ s.ds .brk ≠ .inhibit) ∧
  (∃ (s : State) (dt : Nat) (who : Requester), s.accepts dt who Od.DCL_DISCHARGE_CMD .operator = true ∧ (who = .pyreri ∨
      (s.begun dt who).owns who .brk = true) ∧ s.dischargeRefused = false ∧ s.nat Od.DCL_DISCHARGES < 4294967295 ∧
      (s.ds .brk = .active ∨ s.ds .brk = .armed)) ∧
  (∃ (s : State) (dt : Nat) (who : Requester), s.accepts dt who Od.DCL_DISCHARGE_CMD .operator = true ∧
      s.dischargeRefused = true) ∧
  (∃ (s : State) (dt : Nat) (who : Requester) (t0 : Nat), s.accepts dt who Od.DCL_DISCHARGE_CMD .operator = true ∧ (who
      = .pyreri ∨ (s.begun dt who).owns who .brk = true) ∧ s.dcl.disch = some t0) ∧
  (∃ (s : State) (dt : Nat) (t0 : Nat), (s.dcl.disch = some t0 ∧ s.dcl.dischOn = true) ∧ t0 + ms 50 ≤ s.tb + dt ∧
      s.dcl.dischV0 / 2 < s.vDc) ∧
  (∃ (s : State) (dt : Nat) (t0 : Nat), (s.dcl.disch = some t0 ∧ s.dcl.dischOn = true) ∧ t0 ≤ s.tb + dt ∧ s.vDc < 20) ∧
  (∃ (s : State) (dt : Nat) (t0 : Nat), (s.dcl.disch = some t0 ∧ s.dcl.dischOn = true) ∧ t0 + sec 3 ≤ s.tb + dt ∧ 60 ≤
      s.vDc ∧ s.ds .brk ≠ .inhibit) :=
  ⟨⟨up, 5, .pyreri, 1, 4, 0x40800000, by decide +kernel⟩,
    ⟨(((up.modDrv .brk fun x => { x with state := .unavailable }).setQ Od.DCL_RES_OHM_0 5).setQ Od.DCL_RES_OHM_1 5).setQ
    Od.DCL_V_DC 500, 5, 100, 99, by decide +kernel⟩,
    ⟨(((up.modDrv .brk fun x => { x with state := .unavailable }).setQ Od.DCL_RES_OHM_0 5).setQ Od.DCL_RES_OHM_1 5).setQ
    Od.DCL_V_DC 500, 5, 100, 9, by decide +kernel⟩,
    ⟨(up.setQ Od.DCL_V_DC 500).modDcl fun x => { x with checkWait := some 0 }, sec 10, 0, by decide +kernel⟩,
    ⟨(((up.setQ Od.DCL_RES_OHM_1 5).setQ Od.DCL_V_DC 500).modCell 14 fun x => { x with mode := .switching }).modLeg 49 fun
    x => { x with offTb := 9999999 }, 500, 1, 1, 2, by decide +kernel⟩,
    ⟨up, 500, 1, 500, by decide +kernel⟩,
    ⟨((up.modDrv .brk fun x => { x with state := .active }).setQ Od.DCL_RES_OHM_0 5).setQ Od.DCL_RES_OHM_1 5, 5, .pyreri,
    by decide +kernel⟩,
    ⟨up, 5, .pyreri, by decide +kernel⟩,
    ⟨up.modDcl fun x => { x with disch := some 3 }, 5, .pyreri, 3, by decide +kernel⟩,
    ⟨(up.setQ Od.DCL_V_DC 500).modDcl fun x => { x with disch := some 0, dischOn := true, dischV0 := 600 }, ms 50, 0,
    by decide +kernel⟩,
    ⟨(up.setQ Od.DCL_V_DC 19).modDcl fun x => { x with disch := some 0, dischOn := true, dischV0 := 600 }, ms 50, 0,
    by decide +kernel⟩,
    ⟨(up.setQ Od.DCL_V_DC 190).modDcl fun x => { x with disch := some 0, dischOn := true, dischV0 := 600 }, sec 3, 0,
    by decide +kernel⟩⟩

theorem witness_AuxConverterCommandsComplete :
  (∃ (s : State) (dt : Nat) (i : Rat), (s.cell 9).mode = .switching ∧ s.num Od.CNV_DAB_IPK ≤ i) ∧
  (∃ (s : State) (dt : Nat), s.ds .aux = .active ∧ (1 ≤ s.auxMode ∧ s.auxMode ≤ 3) ∧ s.num Od.DCL_V_DC ≤ s.num
      Od.CNV_DAB_STOP_V) ∧
  (∃ (s : State) (dt : Nat), s.ds .aux = .active ∧ (s.auxMode = 4 ∨ s.auxMode = 5) ∧ 450 ≤ s.num Od.DCL_V_DC ∧ heldFor
      s.dcl.okTb (ms 100) (s.tb + dt) = true) ∧
  (∃ (s : State) (dt : Nat), s.ds .aux = .active ∧ s.auxMode = 1 ∧ (s.num Od.CNV_V_IB ≥ 42 ∧ s.num Od.CNV_V_IB ≤ 58) ∧
      (s.elapse dt).ibUp = true ∧ s.bit Od.LV_LV_STATUS 5 = false ∧ s.vrSource ≠ 3) ∧
  (∃ (s : State) (dt : Nat) (ph : Fin 4) (dev : Rat), s.bit Od.CNV_AUX_STATUS 0 = true ∧ heldFor s.aux.devTb[ph] (ms 10)
      (s.tb + dt) = true ∧ ph.val ∉ s.aux.shed ∧ s.valleyDev ph = dev ∧ s.ds .aux = .active) ∧
  (∃ (s : State) (dt : Nat) (v : BitVec 2), s.dictUp = true ∧ s.aux.vselTb + ms 1 ≤ s.tb + dt ∧ (s.aux.vselRaw = v.toNat
      ∧ s.aux.vselRun = 3) ∧ s.nat Od.CNV_VSEL_CODE ≠ v.toNat ∧ s.nat Od.CNV_VSEL_CHANGES < 4294967295) ∧
  (∃ (s : State) (dt : Nat) (who : Requester) (v : BitVec 8), s.accepts dt who Od.CNV_VR_SRC .operator = true ∧ (s.begun
      dt who).owns who .aux = true ∧ v.toNat < 2) ∧
  (∃ (s : State) (dt : Nat) (who : Requester) (q : Rat) (v : BitVec 32), s.accepts dt who Od.CNV_VR_CMD .operator = true
      ∧ (s.begun dt who).owns who .aux = true ∧ f32Decode v = some q ∧ (24 ≤ q ∧ q ≤ 30)) ∧
  (∃ (s : State) (dt : Nat) (who : Requester) (code : Fin 4) (q : Rat) (v : BitVec 32), s.accepts dt who (Od.CNV_VR_SET
      code) .service = true ∧ f32Decode v = some q ∧ (24 ≤ q ∧ q ≤ 30)) ∧
  (∃ (s : State) (dt : Nat) (v : Rat), s.buckOn = true ∧ s.bit Od.CNV_AUX_STATUS 8 = false ∧ 103 / 100 * s.num
      Od.CNV_VR_REF < v ∧ s.nat Od.CNV_RELEASES < 4294967295) ∧
  (∃ (s : State) (dt : Nat) (v : Rat), s.bit Od.CNV_AUX_STATUS 8 = true ∧ v ≤ 101 / 100 * s.num Od.CNV_VR_REF) ∧
  (∃ (s : State) (dt : Nat) (hz : Vector Rat 8) (phase : Rat), (hz.toList.all fun f => s.syncOk f) = true) ∧
  (∃ (s : State) (dt : Nat) (hz : Option Rat), s.bit Od.CNV_AUX_STATUS 3 = true ∧ (s.elapse dt).syncGone hz = true ∧
      s.nat Od.CNV_SYNC_LOSSES < 65535) :=
  ⟨⟨up.modCell 9 fun x => { x with mode := .switching }, 5, 500, by decide +kernel⟩,
    ⟨((up.modDrv .aux fun x => { x with state := .active }).setN Od.CNV_AUX_MODE 3).setQ Od.DCL_V_DC 100, 5,
    by decide +kernel⟩,
    ⟨(((up.modDrv .aux fun x => { x with state := .active }).setN Od.CNV_AUX_MODE 5).setQ Od.DCL_V_DC 600).modDcl fun x =>
    { x with okTb := some 0 }, 99999999, by decide +kernel⟩,
    ⟨(((up.modDrv .aux fun x => { x with state := .active }).setN Od.CNV_AUX_MODE 1).setQ Od.CNV_V_IB 48).modAux fun x =>
    { x with ibTb := some 0, ibFrom := 48 }, sec 10, by decide +kernel⟩,
    ⟨((up.setBit Od.CNV_AUX_STATUS 0 true).modDrv .aux fun x => { x with state := .active }).modAux fun x => { x with devTb := Vector.replicate 4 (some 0) },
    9999999, 2, 0, by decide +kernel⟩,
    ⟨up.modAux fun x => { x with vselRaw := 2, vselRun := 3 }, 100000, 2, by decide +kernel⟩,
    ⟨up.setN (Od.OWN_OWNER 3) 0x30, 5, .eth 0, 1, by decide +kernel⟩,
    ⟨up.setN (Od.OWN_OWNER 3) 0x30, 5, .eth 0, 26, 0x41D00000, by decide +kernel⟩,
    ⟨up, 5, .pyreri, 2, 26, 0x41D00000, by decide +kernel⟩,
    ⟨(up.setBit Od.CNV_AUX_STATUS 0 true).setN Od.CNV_AUX_MODE 3, 5, 33, by decide +kernel⟩,
    ⟨(up.setBit Od.CNV_AUX_STATUS 8 true).setQ Od.CNV_VR_REF 28, 5, 28, by decide +kernel⟩,
    ⟨up.modAux fun x => { x with fBuck := 150000 }, 5, Vector.replicate 8 150000, 3, by decide +kernel⟩,
    ⟨up.setBit Od.CNV_AUX_STATUS 3 true, 5, some 100000, by decide +kernel⟩⟩

theorem witness_AuxProtectionCommandsComplete :
  (∃ (s : State) (dt : Nat) (who : Requester) (v : BitVec 8), s.accepts dt who Od.CNV_AUX48_EN .operator = true ∧
      (s.begun dt who).owns who .aux = true ∧ v.toNat < 2) ∧
  (∃ (s : State) (dt : Nat) (i : Rat), s.bit Od.CNV_AUX_STATUS 14 = true ∧ heldFor s.aux.overTb (ms 1) (s.tb + dt) =
      true ∧ s.num Od.CNV_AUX48_I_MAX < i) ∧
  (∃ (s : State) (dt : Nat) (v : Rat), s.bit Od.CNV_AUX_STATUS 1 = true ∧ s.aux.paused = false ∧ 58 < v) ∧
  (∃ (s : State) (dt : Nat) (v : Rat), s.ds .aux = .active ∧ 60 < v ∧ heldFor s.aux.ibHighTb (us 20) (s.tb + dt) = true) ∧
  (∃ (s : State) (dt : Nat) (v : Rat), s.buckOn = true ∧ v < 40 ∧ heldFor s.aux.ibLowTb (ms 1) (s.tb + dt) = true) ∧
  (∃ (s : State) (dt : Nat) (v : Rat), s.ds .aux = .active ∧ 63 / 2 < v ∧ heldFor s.aux.vrHighTb (us 100) (s.tb + dt) =
      true) ∧
  (∃ (s : State) (dt : Nat) (v : Rat), s.auxMode = 4 ∧ v < s.num Od.CNV_TOW_VBAT_MIN ∧ heldFor s.aux.batLowTb (ms 100)
      (s.tb + dt) = true) :=
  ⟨⟨up.setN (Od.OWN_OWNER 3) 0x30, 5, .eth 0, 1, by decide +kernel⟩,
    ⟨(up.setBit Od.CNV_AUX_STATUS 14 true).modAux fun x => { x with overTb := some 0 }, 999999, 5000, by decide +kernel⟩,
    ⟨up.setBit Od.CNV_AUX_STATUS 1 true, 5, 59, by decide +kernel⟩,
    ⟨(up.modDrv .aux fun x => { x with state := .active }).modAux fun x => { x with ibHighTb := some 0 }, 99999, 61,
    by decide +kernel⟩,
    ⟨((up.setBit Od.CNV_AUX_STATUS 0 true).setN Od.CNV_AUX_MODE 3).modAux fun x => { x with ibLowTb := some 0 }, 999999,
    33, by decide +kernel⟩,
    ⟨(up.modDrv .aux fun x => { x with state := .active }).modAux fun x => { x with vrHighTb := some 0 }, 999999, 32,
    by decide +kernel⟩,
    ⟨(up.setN Od.CNV_AUX_MODE 4).modAux fun x => { x with batLowTb := some 0 }, 99999999, 9, by decide +kernel⟩⟩

theorem witness_ChargePortCommandsComplete :
  (∃ (s : State) (dt : Nat) (pos : Rat) (neg : Rat), pilotClass pos neg = .c ∧ (s.chg.pilotSeen = .c ∧ 9 ≤
      s.chg.pilotRun) ∧ s.nat Od.CHR_PILOT_STATE ≠ 2) ∧
  (∃ (s : State) (dt : Nat) (pos : Rat) (neg : Rat), (pilotClass pos neg = .a ∧ pos ≤ neg) ∧ (s.chg.pilotSeen = .a ∧
      s.chg.pilotRun = 0 ∧ s.chg.pilotTb + ms 10 ≤ s.tb + dt) ∧ s.nat Od.CHR_PILOT_STATE ≠ 0) ∧
  (∃ (s : State) (dt : Nat) (pos : Rat) (neg : Rat), pilotClass pos neg = .b ∧ (s.chg.pilotSeen = .b ∧ 9 ≤
      s.chg.pilotRun) ∧ s.nat Od.CHR_PILOT_STATE ≠ 1) ∧
  (∃ (s : State) (dt : Nat) (pos : Rat) (neg : Rat) (p : PilotState), (pilotClass pos neg = p ∧ neg < pos) ∧ (p = .d ∨ p
      = .e ∨ p = .f ∨ p = .invalid) ∧ (s.chg.pilotSeen = p ∧ 9 ≤ s.chg.pilotRun) ∧ s.nat Od.CHR_PILOT_STATE ≠
      pilotCode p) ∧
  (∃ (s : State) (dt : Nat) (pos : Rat) (neg : Rat), neg < pos ∧ s.chg.pilotSeen ≠ pilotClass pos neg) ∧
  (∃ (s : State) (dt : Nat) (ohm : Rat) (i : Rat), proxCode ohm = some (i, false)) ∧
  (∃ (s : State) (dt : Nat) (ohm : Rat), proxCode ohm = some (0, true)) ∧
  (∃ (s : State) (dt : Nat) (ohm : Rat), proxCode ohm = none) ∧
  (∃ (s : State) (dt : Nat), s.chgBit 13 = true ∧ s.supplyOut = true) ∧
  (∃ (s : State) (dt : Nat), (s.chgBit 12 = true ∧ s.nat Od.CHR_PILOT_STATE = 1 ∧ s.session = 0) ∧ s.logRoom = true) ∧
  (∃ (s : State) (dt : Nat), (s.flag Od.CHG_AUTO_CHARGE = true ∧ s.ds .chg = .standby ∧ s.session = 1 ∧ s.nat
      Od.CHG_CHG_MODE = 1) ∧ ((s.ds .tra = .standby ∨ s.ds .tra = .unavailable) ∧ (s.ds .trb = .standby ∨ s.ds .trb =
      .unavailable)) ∧ s.bit Od.DCL_DCL_STATUS 12 = false ∧ ((s.drv .chg).tqo = false ∧ (s.drv .chg).tqoLink = false ∧
      (s.drv .chg).arming = .none)) ∧
  (∃ (s : State) (dt : Nat), (s.session = 3 ∧ s.supplyPhases = 0) ∧ s.chg.stepTb + ms (s.nat Od.CHR_AC_WAIT_ms) ≤ s.tb +
      dt) ∧
  (∃ (s : State) (dt : Nat), (s.session = 5 ∧ s.busReached = false) ∧ s.chg.stepTb + ms 500 ≤ s.tb + dt ∧ s.ds .chg ≠
      .inhibit) ∧
  (∃ (s : State) (dt : Nat) (rate : Rat) (i0 : Rat) (i1 : Rat), (s.cell 13).mode = .switching ∧ s.num Od.CHR_DVDT_THR <
      rate ∧ s.ds .chg ≠ .inhibit ∧ s.nat Od.HV_PACK_LOSTS < 65535) ∧
  (∃ (s : State) (dt : Nat) (v : Rat), (s.nat Od.CHG_CHG_MODE = 2 ∧ s.flag Od.EXP_EXPORT_EN = true) ∧ 30 ≤ v ∧ s.ds .chg
      ≠ .inhibit) ∧
  (∃ (s : State) (dt : Nat), (s.exporting = true ∧ (s.elapse dt).exportLate = true) ∧ s.nat Od.EXP_EXP_TRIPS < 65535 ∧
      s.ds .chg ≠ .inhibit) :=
  ⟨⟨up.modChg fun x => { x with pilotSeen := .c, pilotRun := 9 }, 5, 6, -12, by decide +kernel⟩,
    ⟨((up.setN Od.CHG_SESSION_STEP 1).setN Od.CHR_PILOT_STATE 1).modChg fun x => { x with pilotSeen := .a, pilotRun := 0 },
    9999999, 12, 12, by decide +kernel⟩,
    ⟨up.modChg fun x => { x with pilotSeen := .b, pilotRun := 9 }, 5, 9, -12, by decide +kernel⟩,
    ⟨up.modChg fun x => { x with pilotSeen := .e, pilotRun := 9 }, 5, 0, -12, .e, by decide +kernel⟩,
    ⟨up, 5, 9, -12, by decide +kernel⟩,
    ⟨up, 5, 1500, 13, by decide +kernel⟩,
    ⟨up, 5, 2700, by decide +kernel⟩,
    ⟨up, 5, 5, by decide +kernel⟩,
    ⟨up.setBit Od.CHR_CHG_STATUS 13 true, 5, by decide +kernel⟩,
    ⟨(up.setBit Od.CHR_CHG_STATUS 12 true).setN Od.CHR_PILOT_STATE 1, 5, by decide +kernel⟩,
    ⟨((up.setFlag Od.CHG_AUTO_CHARGE true).setN Od.CHG_SESSION_STEP 1).setN Od.CHG_CHG_MODE 1, 5, by decide +kernel⟩,
    ⟨up.setN Od.CHG_SESSION_STEP 3, 999999999, by decide +kernel⟩,
    ⟨(up.setN Od.CHG_SESSION_STEP 5).modChg fun x => { x with lineMs := Vector.replicate 3 50000 }, 999999999,
    by decide +kernel⟩,
    ⟨up.modCell 13 fun x => { x with mode := .switching }, 5, 999999, 0, 0, by decide +kernel⟩,
    ⟨(up.setN Od.CHG_CHG_MODE 2).setFlag Od.EXP_EXPORT_EN true, 5, 30, by decide +kernel⟩,
    ⟨(up.setBit Od.EXP_EXP_STATUS 2 true).modChg fun x => { x with deep := true }, 5, by decide +kernel⟩⟩

theorem witness_ChargeInstanceCommandsComplete :
  (∃ (s : State) (dt : Nat) (d : BitVec 64), 16 ≤ octet d 6 ∨ 10000 < octet16 d 0) ∧
  (∃ (s : State) (dt : Nat) (d : BitVec 64), (octet d 6 < 16 ∧ octet16 d 0 ≤ 10000) ∧ (octet d 6).testBit 1 = true) ∧
  (∃ (s : State) (dt : Nat) (t0 : Nat), s.chg.bmsTb = some t0 ∧ t0 + ms (s.nat Od.HV_BMS_TIMEOUT_ms) ≤ s.tb + dt ∧ s.nat
      Od.HV_BMS_TIMEOUTS < 65535) ∧
  (∃ (s : State) (dt : Nat), s.dictUp = true ∧ s.chg.statusTb + ms 100 ≤ s.tb + dt) ∧
  (∃ (s : State) (dt : Nat), s.dictUp = true ∧ s.statusFlags ≠ s.chg.txFlags) ∧
  (∃ (s : State) (dt : Nat), charging s.hvState = true ∧ (sec (60 * s.nat Od.HV_HV_TIMER_LIMIT_min) : Rat) ≤
      s.chg.hv.timer ∧ s.ds .chg ≠ .inhibit) ∧
  (∃ (s : State) (dt : Nat), charging (s.nat Od.LV_LV_STATE) = true ∧ (sec (60 * s.nat Od.LV_LV_TIMER_LIMIT_min) : Rat)
      ≤ s.chg.lv.timer) ∧
  (∃ (s : State) (dt : Nat), s.hvState = 4 ∧ s.chg.hv.held 1 (s.tb + dt) (sec 1) = true) ∧
  (∃ (s : State) (dt : Nat), s.nat Od.LV_LV_STATE = 4 ∧ s.chg.lv.held 1 (s.tb + dt) (sec 1) = true) ∧
  (∃ (s : State) (dt : Nat), s.hvState = 6 ∧ s.chg.hv.entryTb + sec 10 ≤ s.tb + dt) :=
  ⟨⟨up, 5, 0xFFFF, by decide +kernel⟩,
    ⟨up.modChg fun x => { x with alive := some 4 }, 5, 0x0502000000000123, by decide +kernel⟩,
    ⟨up.modChg fun x => { x with bmsTb := some 0 }, 999999999, 0, by decide +kernel⟩,
    ⟨up, 99999999, by decide +kernel⟩,
    ⟨up.modChg fun x => { x with txFlags := 63 }, 5, by decide +kernel⟩,
    ⟨(up.setN Od.HV_HV_STATE 4).modChg fun x => { x with hv := { x.hv with timer := 999999999999999 } }, 5,
    by decide +kernel⟩,
    ⟨(up.setN Od.LV_LV_STATE 4).modChg fun x => { x with lv := { x.lv with timer := 999999999999999 } }, 5,
    by decide +kernel⟩,
    ⟨(up.setN Od.HV_HV_STATE 4).modChg fun x => { x with hv := { x.hv with condKind := 1, condTb := some 0 } }, 999999999,
    by decide +kernel⟩,
    ⟨(up.setN Od.LV_LV_STATE 4).modChg fun x => { x with lv := { x.lv with condKind := 1, condTb := some 0 } }, 999999999,
    by decide +kernel⟩,
    ⟨up.setN Od.HV_HV_STATE 6, 1999999999, by decide +kernel⟩⟩

theorem witness_BatteryCommandsComplete :
  (∃ (s : State) (dt : Nat) (v : Rat) (i : Rat), (s.nat Od.LV_LV_STATE = 1 ∧ s.path.testing = true ∧ s.path.testTb + ms
      200 ≤ s.tb + dt) ∧ i < 1 / 10) ∧
  (∃ (s : State) (dt : Nat) (v : Rat) (i : Rat), (s.nat Od.LV_LV_STATE = 1 ∧ s.path.testing = true ∧ s.path.testTb + ms
      200 ≤ s.tb + dt) ∧ (1 < i ∧ v < 2)) ∧
  (∃ (s : State) (dt : Nat) (v : Rat) (i : Rat), (s.nat Od.LV_LV_STATE = 1 ∧ s.path.testing = true ∧ s.path.testTb + ms
      200 ≤ s.tb + dt) ∧ (1 / 10 ≤ i ∧ (i ≤ 1 ∨ 2 ≤ v))) ∧
  (∃ (s : State) (dt : Nat) (who : Requester), s.accepts dt who Od.LV_LV_ACK .operator = true ∧ (s.nat Od.LV_LV_STATE =
      10 ∨ s.nat Od.LV_LV_STATE = 11)) ∧
  (∃ (s : State) (dt : Nat) (i : Rat), (s.batSw ≠ 0 ∧ 450 < |i|) ∧ (heldFor s.path.ocTb (ms 10) (s.tb + dt) = true ∨ 800
      < |i|)) ∧
  (∃ (s : State) (dt : Nat), s.vrSource = 3 ∧ s.path.handTb + ms 50 ≤ s.tb + dt) ∧
  (∃ (s : State) (dt : Nat) (t0 : Nat), (s.path.countTb = some t0 ∧ s.bit Od.LV_LV_STATUS 5 = true) ∧ t0 + ms 200 ≤ s.tb
      + dt ∧ (s.ds .aux = .active ∧ s.auxMode = 1) ∧ (s.elapse dt).ibUp = true) ∧
  (∃ (s : State) (dt : Nat) (who : Requester), s.accepts dt who Od.LV_ATTN_CLEAR .operator = true) :=
  ⟨⟨(up.setN Od.LV_LV_STATE 1).modPath fun x => { x with testing := true }, 99999999, 3, 0, by decide +kernel⟩,
    ⟨(up.setN Od.LV_LV_STATE 1).modPath fun x => { x with testing := true }, 99999999, 1, 2, by decide +kernel⟩,
    ⟨(up.setN Od.LV_LV_STATE 1).modPath fun x => { x with testing := true }, 99999999, 3, 1, by decide +kernel⟩,
    ⟨up.setN Od.LV_LV_STATE 11, 5, .eth 0, by decide +kernel⟩,
    ⟨up.modPath fun x => { x with ocTb := some 0 }, 9999999, -451, by decide +kernel⟩,
    ⟨(up.setN Od.LV_VR_SOURCE 3).setN Od.LV_BAT_SW_MODE 4, 999999999, by decide +kernel⟩,
    ⟨((((up.modDrv .aux fun x => { x with state := .active }).setN Od.CNV_AUX_MODE 1).setQ Od.CNV_V_IB 48).setBit
    Od.LV_LV_STATUS 5 true).modAux (fun x => { x with ibTb := some 0, ibFrom := 48 }) |>.modPath fun x => { x with countTb := some 0 },
    999999999, 0, by decide +kernel⟩,
    ⟨up.setBit Od.LV_LV_STATUS 4 true, 5, .eth 0, by decide +kernel⟩⟩

theorem witness_ServiceButtonAndPeatComplete :
  (∃ (s : State) (dt : Nat), s.path.svcTb = none) ∧
  (∃ (s : State) (dt : Nat), s.path.svcTb.isSome = true ∧ 1 ≤ s.bringup.step ∧ (ms 20 ≤ (s.elapse dt).svcHeld ∧
      (s.elapse dt).svcHeld ≤ sec 10)) ∧
  (∃ (s : State) (dt : Nat), (1 ≤ s.bringup.step ∧ s.path.svcTb.isSome = true) ∧ s.path.svc8 = false ∧ sec 8 ≤ (s.elapse
      dt).svcHeld ∧ s.logRoom = true) ∧
  (∃ (s : State) (dt : Nat), s.path.svcTb.isSome = true ∧ s.path.svc10 = false ∧ sec 10 ≤ (s.elapse dt).svcHeld ∧
      s.inhibited = false ∧ s.bringup.deferredTb = none ∧ s.pulseEnd (s.tb + dt) = none) ∧
  (∃ (s : State) (dt : Nat) (t0 : Nat), s.path.sysTb = some t0 ∧ t0 + sec 2 ≤ s.tb + dt ∧ s.bit Od.BKP_BKP15 1 = false) ∧
  (∃ (s : State) (dt : Nat) (who : Requester), s.accepts dt who Od.LV_PEAT_CMD .service = true ∧ s.bit Od.LV_LV_STATUS 3
      = false ∧ s.peatAllowed = true) ∧
  (∃ (s : State) (dt : Nat), s.path.peatTb.isSome = true) ∧
  (∃ (s : State) (dt : Nat), s.path.peat = true ∧ (s.elapse dt).podlWakes = true) ∧
  (∃ (s : State) (dt : Nat), s.path.peat = true ∧ sec 1 ≤ (s.elapse dt).svcHeld) :=
  ⟨⟨up, 5, by decide +kernel⟩,
    ⟨up.modPath fun x => { x with svcTb := some 0 }, 99999999, by decide +kernel⟩,
    ⟨up.modPath fun x => { x with svcTb := some 0 }, sec 8, by decide +kernel⟩,
    ⟨up.modPath fun x => { x with svcTb := some 0 }, sec 10, by decide +kernel⟩,
    ⟨(up.setBit Od.BKP_BKP15 1 false).modPath fun x => { x with sysTb := some 0 }, sec 3, 0, by decide +kernel⟩,
    ⟨up, 5, .pyreri, by decide +kernel⟩,
    ⟨up.modPath fun x => { x with peatTb := some 0 }, 5, by decide +kernel⟩,
    ⟨up.modPath fun x => { x with peat := true, podlTb := some 0 }, 9999999, by decide +kernel⟩,
    ⟨up.modPath fun x => { x with peat := true, svcTb := some 0 }, sec 1, by decide +kernel⟩⟩

theorem witness_ThermalCommandsComplete :
  (∃ (s : State) (dt : Nat), s.dictUp = true ∧ (s.elapse dt).roundDue = true) ∧
  (∃ (s : State) (dt : Nat) (t0 : Nat), s.thermal.roundTb = some t0 ∧ t0 + ms 10 ≤ s.tb + dt ∧ (s.roundComplete = false
      ∧ s.thermal.late = false) ∧ s.nat Od.THM_ROUND_OVERRUNS < 65535) ∧
  (∃ (s : State) (dt : Nat), s.ds .aux = .active ∧ (s.bit (Od.SEN_SENSOR_STATUS 45) 0 = true ∧ s.bit
      (Od.SEN_SENSOR_STATUS 44) 0 = true) ∧ s.int Od.THM_COOL_DT_MAX < s.int (Od.SEN_TEMP 45) - s.int (Od.SEN_TEMP 44)
      ∧ s.bit Od.THM_TH_STATUS 5 = false ∧ heldFor s.thermal.coolTb (sec 1) (s.tb + dt) = true ∧ s.logRoom = true) :=
  ⟨⟨up, 5, by decide +kernel⟩,
    ⟨up.modThermal fun x => { x with roundTb := some 1 }, ms 11, 1, by decide +kernel⟩,
    ⟨((((up.modDrv .aux fun x => { x with state := .active }).setBit (Od.SEN_SENSOR_STATUS 45) 0 true).setBit
    (Od.SEN_SENSOR_STATUS 44) 0 true).setI (Od.SEN_TEMP 45) 1500).modThermal fun x => { x with coolTb := some 0 }, sec
    1, by decide +kernel⟩⟩

theorem witness_LockstepCommandsComplete :
  (∃ (s : State) (dt : Nat), 4 ≤ s.bringup.step ∧ s.bringup.startupDone = false ∧ s.diagOnly = false) ∧
  (∃ (s : State) (dt : Nat) (f : BitVec 10), f ≠ 0 ∧ (4 ≤ s.bringup.step ∧ s.bringup.startupDone = false ∧ s.diagOnly =
      false)) ∧
  (∃ (s : State) (dt : Nat) (clk : Nat) (l : Fin 3), (s.cycling = true ∧ s.config = 1 ∧ s.pyr.handOver = none) ∧
      (s.voting l = true ∧ s.pyrBit 8 = false) ∧ s.pyr.oddCount.get l < 2) ∧
  (∃ (s : State) (dt : Nat) (clk : Nat) (l : Fin 3), (s.cycling = true ∧ s.config = 1 ∧ s.pyr.handOver = none) ∧
      (s.voting l = true ∧ s.pyrBit 8 = false) ∧ s.pyr.oddCount.get l = 2) ∧
  (∃ (s : State) (dt : Nat) (clk : Nat) (odd : Option (Fin 3)), (s.cycling = true ∧ s.pyr.handOver = none) ∧ (odd = none
      ∨ (s.config = 2 ∧ odd = some 0 ∧ s.voting 0 = true))) ∧
  (∃ (s : State) (dt : Nat) (l : Fin 3), s.pyr.rebuild = some (l, .copying) ∧ s.pyr.copyTb + copyTicks ≤ s.tb + dt) ∧
  (∃ (s : State) (dt : Nat) (e : Nat), s.pyr.windowEnd = some e ∧ e ≤ s.tb + dt) ∧
  (∃ (s : State) (dt : Nat) (x : CycleInputs) (l : Vector SetLatch 4) (i : BitVec 8), s.cycling = true ∧ s.pyr.due ≤
      s.tb + dt ∧ (x.lanes = Vector.replicate 3 l ∧ x.si = Vector.replicate 3 i ∧ x.rejects = [])) ∧
  (∃ (s : State) (dt : Nat), s.cycling = true ∧ s.pyr.due + 5 * s.cyclePeriod / 4 ≤ s.tb + dt) ∧
  (∃ (s : State) (dt : Nat), s.cycling = true ∧ s.pyr.exch.tb + us (s.nat Od.PP_EXCH_AGE_MAX_us) < s.tb + dt) ∧
  (∃ (s : State) (dt : Nat) (d : Drive) (ch : BitVec 2) (c : Fin 2) (t0 : Nat), (ch.getLsbD c = true ∧ (s.safe
      d).rbTb.get c = some t0) ∧ t0 + us 100 ≤ s.tb + dt ∧ (s.safe d).rbHeld = 0) :=
  ⟨⟨{ up with bringup := { up.bringup with startupDone := false } }, 5, by decide +kernel⟩,
    ⟨{ up with bringup := { up.bringup with startupDone := false } }, 5, 3, by decide +kernel⟩,
    ⟨triple, 5, 7, 1, by decide +kernel⟩,
    ⟨triple.modPyr fun x => { x with oddCount := Vector.replicate 3 2 }, 5, 7, 1, by decide +kernel⟩,
    ⟨triple, 5, 7, none, by decide +kernel⟩,
    ⟨triple.modPyr fun x => { x with rebuild := some (1, .copying) }, 20480, 1, by decide +kernel⟩,
    ⟨(triple.setBit Od.PYR_PYR_STATUS 8 true).modPyr fun x => { x with windowEnd := some 3 }, 5, 3, by decide +kernel⟩,
    ⟨triple, 5, ⟨false, Vector.replicate 3 (Vector.replicate 4 ⟨0, 0, 0, 0, 0, 0⟩), Vector.replicate 3 0, [],
    Vector.replicate 4 0, 1/2, 0, 0⟩, Vector.replicate 4 ⟨0, 0, 0, 0, 0, 0⟩, 0, by decide +kernel⟩,
    ⟨triple, 99999999, by decide +kernel⟩,
    ⟨triple, 99999999, by decide +kernel⟩,
    ⟨triple.modSafe .chg fun x => { x with rbTb := Vector.replicate 2 (some 0) }, 99999, .chg, 2, 1, 0, by decide +kernel⟩⟩

theorem witness_ConfigurationCommandsComplete :
  (∃ (s : State) (dt : Nat) (who : Requester), s.accepts dt who Od.PYR_CONFIG_REQ .safety = true ∧ s.configRefused 1 =
      false) ∧
  (∃ (s : State) (dt : Nat) (who : Requester), s.accepts dt who Od.PYR_CONFIG_REQ .safety = true ∧ s.configRefused 2 =
      false) ∧
  (∃ (s : State) (dt : Nat) (who : Requester), s.accepts dt who Od.PYR_CONFIG_REQ .safety = true ∧ s.configRefused 3 =
      false ∧ (∀ d ∈ Drive.all, s.ds d = .unavailable ∨ s.ds d = .standby ∨ s.ds d = .inhibit)) ∧
  (∃ (s : State) (dt : Nat) (who : Requester), s.accepts dt who Od.PYR_CONFIG_REQ .safety = true ∧ (s.configBusy = false
      ∧ s.config = 3)) :=
  ⟨⟨((safetyOpen up).setN Od.PYR_CONFIG_ACT 2).setN Od.PYR_PYR_STATUS 0x20C03, 5, .eth 0, by decide +kernel⟩,
    ⟨triple, 5, .eth 0, by decide +kernel⟩,
    ⟨triple.setN Od.PP_PYR_ALLOWED 7, 5, .eth 0, by decide +kernel⟩,
    ⟨(safetyOpen up).setN Od.PYR_CONFIG_ACT 3, 5, .eth 0, by decide +kernel⟩⟩

theorem witness_SafetyInputCommandsComplete :
  (∃ (s : State) (dt : Nat) (ch : Fin 8) (high : Bool), (s.safety.siRaw.get ch).1 ≠ high ∧ 0 < s.nat (Od.PAIR_FILTER_ms
      (ch.val / 2))) ∧
  (∃ (s : State) (dt : Nat) (t0 : Nat) (ch : Fin 8) (high : Bool), s.safety.siRaw.get ch = (high, t0) ∧ t0 + ms (s.nat
      (Od.PAIR_FILTER_ms (ch.val / 2))) ≤ s.tb + dt ∧ (s.cycling = false ∨ s.nat (Od.PAIR_PAIR_FUNC (ch.val / 2)) ≠
      6)) ∧
  (∃ (s : State) (dt : Nat) (t0 : Nat) (k : Fin 4), ((s.pair k).discTb = some t0 ∧ (s.pair k).fault = false) ∧ t0 + ms
      (s.nat (Od.PAIR_DISC_ms k)) ≤ s.tb + dt ∧ s.nat (Od.PAIR_PAIR_FAULTS k) < 65535) ∧
  (∃ (s : State) (dt : Nat) (o : Fin 2) (low : BitVec 8), s.cycling = true ∧ (∀ k : Fin 4, s.flag (Od.PAIR_TEST_PULSE k)
      = false)) ∧
  (∃ (s : State) (dt : Nat), s.cycling = true ∧ (s.nat (Od.PAIR_PAIR_MODE 0) = 1 ∧ s.flag (Od.PAIR_TEST_PULSE 0) = true)
      ∧ ((s.pair 0).ownFails[0] = 1 ∧ (s.pair 0).fault = false)) ∧
  (∃ (s : State) (dt : Nat) (t0 : Nat) (k : Fin 4), ((s.pair k).runTb = some t0 ∧ (s.pair k).overheld = false) ∧ s.nat
      (Od.PAIR_PAIR_FUNC k) = 6 ∧ t0 + sec 5 < s.tb + dt ∧ s.logRoom = true) ∧
  (∃ (s : State) (dt : Nat) (who : Requester) (m : BitVec 8), s.accepts dt who Od.SFS_SAFE_RELEASE .safety = true ∧
      (m.toNat < 64 ∧ m ≠ 0) ∧ (∀ d ∈ Drive.all, s.releaseBlocked d = false)) ∧
  (∃ (s : State) (dt : Nat) (who : Requester) (m : BitVec 8), s.accepts dt who Od.SFS_SAFE_RELEASE .safety = true ∧ 64 ≤
      m.toNat) ∧
  (∃ (s : State) (dt : Nat) (k : Fin 4) (v : Rat), ((s.sout k).on = true ∧ s.flag (Od.SO_SORREL_EN k) = true ∧ s.cycling
      = true) ∧ (s.tb + dt - ms (25 * k.val)) / ms 100 + 1 ≠ (s.sout k).pulseNo ∧ 5 ≤ v ∧ ((s.sout k).pulses = 1 ∧
      (s.sout k).fault = false)) ∧
  (∃ (s : State) (dt : Nat) (k : Fin 4) (v : Rat), ((s.sout k).on = true ∧ s.flag (Od.SO_SORREL_EN k) = true ∧ s.cycling
      = true) ∧ (s.tb + dt - ms (25 * k.val)) / ms 100 + 1 ≠ (s.sout k).pulseNo ∧ v < 5) ∧
  (∃ (s : State) (dt : Nat) (k : Fin 4), (s.sout k).on = true) :=
  ⟨⟨triple, 5, 3, true, by decide +kernel⟩,
    ⟨triple.modSafety fun x => { x with siRaw := Vector.replicate 8 (true, 0) }, 99999999, 0, 3, true, by decide +kernel⟩,
    ⟨triple.modPair 2 fun x => { x with discTb := some 0 }, 999999999, 0, 2, by decide +kernel⟩,
    ⟨(List.range 4).foldl (fun s k => s.setFlag (Od.PAIR_TEST_PULSE k) false) triple, 5, 1, 0, by decide +kernel⟩,
    ⟨((triple.setN (Od.PAIR_PAIR_MODE 0) 1).setFlag (Od.PAIR_TEST_PULSE 0) true).modPair 0 fun x => { x with ownFails := #v[1, 0] },
    5, by decide +kernel⟩,
    ⟨(triple.setN (Od.PAIR_PAIR_FUNC 1) 6).modPair 1 fun x => { x with runTb := some 0 }, sec 6, 0, 1, by decide +kernel⟩,
    ⟨(triple.modSafe .chg fun x => { x with sto := true }).modDrv .chg fun x => { x with tqo := true, state := .inhibit },
    5, .eth 0, 16, by decide +kernel⟩,
    ⟨triple, 5, .eth 0, 64, by decide +kernel⟩,
    ⟨(triple.setFlag (Od.SO_SORREL_EN 2) true).modOut 2 fun x => { x with on := true, pulses := 1, pulseNo := 9 }, 5, 2,
    6, by decide +kernel⟩,
    ⟨(triple.setFlag (Od.SO_SORREL_EN 2) true).modOut 2 fun x => { x with on := true, pulses := 1, pulseNo := 9 }, 5, 2,
    4, by decide +kernel⟩,
    ⟨triple.modOut 2 fun x => { x with on := true }, 5, 2, by decide +kernel⟩⟩

theorem witness_SafetyFunctionCommandsComplete :
  (∃ (s : State) (dt : Nat) (d : Drive) (y : Ss1St), ((s.safe d).ss1 = some y ∧ y.park = false) ∧ (y.t0 + ms (s.nat
      (Od.SF_SS1_TIME_ms d.num)) ≤ s.tb + dt ∧ s.cycling = true)) ∧
  (∃ (s : State) (dt : Nat) (b : Nat) (m : Fin 2), (s.safe (sideDrive m)).sltTb = some b ∧ (b + ms (s.nat
      (Od.SF_SLT_TIME_ms m)) ≤ s.tb + dt ∧ s.cycling = true)) ∧
  (∃ (s : State) (dt : Nat) (b : Nat) (m : Fin 2), ((s.safe (sideDrive m)).plausTb = some b ∧ (s.safe (sideDrive
      m)).plaus = false) ∧ (b + ms 20 ≤ s.tb + dt ∧ s.cycling = true)) ∧
  (∃ (s : State) (dt : Nat) (b : Nat) (m : Fin 2), (s.safe (sideDrive m)).e2Tb = some b ∧ (b + ms (s.nat
      (Od.SF_E2_GAP_ms m)) ≤ s.tb + dt ∧ s.cycling = true)) ∧
  (∃ (s : State) (dt : Nat) (b : Nat), s.safety.parkTb = some b ∧ b + ms (s.nat Od.SP_SP_CONFIRM_ms) < s.tb + dt ∧
      s.logRoom = true) ∧
  (∃ (s : State) (dt : Nat) (who : Requester), s.accepts dt who Od.SET_SET_EDIT .safety = true ∧ who ≠ .pyreri) ∧
  (∃ (s : State) (dt : Nat) (who : Requester), s.accepts dt who Od.SET_SET_EDIT .safety = true ∧ who ≠ .pyreri) ∧
  (∃ (s : State) (dt : Nat) (who : Requester) (l : List (Nat × Val)), s.accepts dt who Od.SET_SET_COMMIT .safety = true
      ∧ ((s.sessOf who).staging = some l ∧ (s.sessOf who).setCrc = some (setCrc (stagedVal l))) ∧ s.setCheck
      (stagedVal l) = 0 ∧ (∀ d ∈ Drive.all, s.ds d ≠ .armed ∧ s.ds d ≠ .active ∧ s.ds d ≠ .stopping) ∧ s.nat
      Od.SET_SET_COMMITS < 65535) ∧
  (∃ (s : State) (dt : Nat) (who : Requester) (l : List (Nat × Val)) (ok : Bool), s.accepts dt who Od.SET_SET_COMMIT
      .safety = true ∧ ((s.sessOf who).staging = some l ∧ (s.sessOf who).setCrc ≠ some (setCrc (stagedVal l))) ∧ (∀ d
      ∈ Drive.all, s.ds d ≠ .armed ∧ s.ds d ≠ .active ∧ s.ds d ≠ .stopping)) :=
  ⟨⟨triple.modSafe .trb fun x => { x with ss1 := some ⟨0, 1, 1, 0, 0, false⟩ }, 999999999, .trb, ⟨0, 1, 1, 0, 0, false⟩,
    by decide +kernel⟩,
    ⟨triple.modSafe .trb fun x => { x with sltTb := some 0 }, 999999999, 0, 1, by decide +kernel⟩,
    ⟨triple.modSafe .trb fun x => { x with plausTb := some 0 }, 999999999, 0, 1, by decide +kernel⟩,
    ⟨triple.modSafe .trb fun x => { x with e2Tb := some 0 }, 999999999, 0, 1, by decide +kernel⟩,
    ⟨triple.modSafety fun x => { x with parkTb := some 0 }, 999999999, 0, by decide +kernel⟩,
    ⟨triple, 5, .eth 0, by decide +kernel⟩,
    ⟨triple, 5, .eth 0, by decide +kernel⟩,
    ⟨committing, 5, .eth 0, [], by decide +kernel, ⟨by decide +kernel, by rfl⟩, by decide +kernel, by decide +kernel⟩,
    ⟨triple.modSess (.eth 0) fun x => { x with staging := some [], setCrc := none }, 5, .eth 0, [], true,
    by decide +kernel⟩⟩

theorem witness_SafeFrameCommandsComplete :
  (∃ (s : State) (dt : Nat) (k : Fin 16) (data : List Byte), s.nat (Od.HSF_CONN_ROLE k) = 1 ∧ s.connState k ≠ 0) ∧
  (∃ (s : State) (dt : Nat) (k : Fin 16) (data : List Byte), s.nat (Od.HSF_CONN_ROLE k) ≠ 1 ∨ s.connState k = 0) ∧
  (∃ (s : State) (dt : Nat) (k : Fin 16) (data : List Byte) (payload : List Byte) (q : Nat) (p : Nat) (e : Nat × Nat),
      (s.nat (Od.HSF_CONN_ROLE k) = 2 ∧ s.nat (Od.HSF_TIME_MODE k) = 1) ∧ (s.connState k = 1 ∨ s.connState k = 2) ∧
      s.hsfCheck k true data = .good q p payload ∧ ((s.conn k).sent.find? (fun e => e.1 == fieldLe payload 0 2) = some
      e) ∧ s.tb + dt - e.2 ≤ us (s.nat (Od.HSF_RT_MAX_us k))) ∧
  (∃ (s : State) (dt : Nat) (k : Fin 16) (data : List Byte), (s.nat (Od.HSF_CONN_ROLE k) = 2 ∧ s.nat (Od.HSF_TIME_MODE
      k) = 1) ∧ (s.connState k = 1 ∨ s.connState k = 2) ∧ s.hsfCheck k true data = .crcError ∧ s.nat
      (Od.HSF_CRC_ERRORS k) < 4294967295 ∧ ((s.conn k).crcTimes = [] ∧ 1 ≤ s.nat (Od.HSF_CRC_ERR_MAX k))) ∧
  (∃ (s : State) (dt : Nat) (k : Fin 16), s.nat (Od.HSF_CONN_ROLE k) = 2 ∧ (s.connState k = 1 ∨ s.connState k = 2) ∧
      (s.conn k).dueTb ≤ s.tb + dt) ∧
  (∃ (s : State) (dt : Nat) (k : Fin 16), s.connState k = 2 ∧ (s.conn k).wdgTb + ms (s.nat (Od.HSF_WDG_ms k)) ≤ s.tb +
      dt ∧ ((s.nat (Od.HSF_CONN_ROLE k) = 1 ∧ (s.conn k).buffer = []) ∨ (s.nat (Od.HSF_CONN_ROLE k) = 2 ∧ s.nat
      (Od.HSF_TIME_MODE k) = 1))) ∧
  (∃ (s : State) (dt : Nat) (k : Fin 16), (s.nat (Od.HSF_CONN_ROLE k) = 2 ∧ s.connState k = 3) ∧ (s.conn k).faultTb + ms
      100 ≤ s.tb + dt) :=
  ⟨⟨(triple.setN (Od.HSF_CONN_ROLE 3) 1).setN (Od.HSF_CONN_STATE 3) 2, 5, 3, [1, 2], by decide +kernel⟩,
    ⟨triple, 5, 3, [1, 2], by decide +kernel⟩,
    ⟨((((triple.setN (Od.HSF_CONN_ROLE 3) 2).setN (Od.HSF_TIME_MODE 3) 1).setN (Od.HSF_CONN_MEDIUM 3) 1).setN
    (Od.HSF_CONN_STATE 3) 1).modConn 3 fun x => { x with sent := [(7, 0)] }, 500, 3, hsfForm 0 0 1 0 0 [7, 0, 2, 0],
    [7, 0, 2, 0], 0, 0, (7, 0), by decide +kernel⟩,
    ⟨(((triple.setN (Od.HSF_CONN_ROLE 3) 2).setN (Od.HSF_TIME_MODE 3) 1).setN (Od.HSF_CONN_MEDIUM 3) 1).setN
    (Od.HSF_CONN_STATE 3) 1, 500, 3, [0x11, 4, 0, 0, 0, 0, 0, 0, 7, 0, 2, 0, 0, 0, 0, 0], by decide +kernel⟩,
    ⟨((triple.setN (Od.HSF_CONN_ROLE 3) 2).setN (Od.HSF_CONN_MEDIUM 3) 1).setN (Od.HSF_CONN_STATE 3) 1, 500, 3,
    by decide +kernel⟩,
    ⟨(triple.setN (Od.HSF_CONN_ROLE 3) 1).setN (Od.HSF_CONN_STATE 3) 2, 999999999, 3, by decide +kernel⟩,
    ⟨(triple.setN (Od.HSF_CONN_ROLE 3) 2).setN (Od.HSF_CONN_STATE 3) 3, 999999999, 3, by decide +kernel⟩⟩

theorem witness_CrcUnitCommandsComplete :
  (∃ (s : State) (dt : Nat) (who : Requester) (n : Fin 4), s.accepts dt who (Od.CRC_START n) .operator = true ∧
      s.crcBusy who n = false) ∧
  (∃ (s : State) (dt : Nat) (who : Requester) (n : Fin 4), s.accepts dt who (Od.CRC_START n) .operator = true ∧
      s.crcBusy who n = true) ∧
  (∃ (s : State) (dt : Nat) (who : Requester) (n : Fin 4) (data : List Byte), s.accepts dt who (Od.CRC_DATA n) .operator
      = true ∧ s.crcBusy who n = false ∧ (1 ≤ data.length ∧ data.length ≤ 256) ∧ s.nat (Od.CRC_BYTES n) + data.length
      < 2 ^ 32) ∧
  (∃ (s : State) (dt : Nat) (n : Fin 4) (b : Requester × Nat), (s.crcUnit n).bound = some b ∧ b.2 + ms 1000 ≤ s.tb + dt) :=
  ⟨⟨up, 5, .eth 0, 2, by decide +kernel⟩,
    ⟨up, 5, .eth 0, 1, by decide +kernel⟩,
    ⟨up, 5, .eth 0, 2, [1, 2, 3], by decide +kernel⟩,
    ⟨up.modCrc 2 fun x => { x with bound := some (.canD, 0) }, 999999999, 2, (.canD, 0), by decide +kernel⟩⟩

theorem witness_CanChannelCommandsComplete :
  (∃ (s : State) (dt : Nat) (c : Fin 4) (m : CanMsg) (ago : Nat) (f : Nat), (s.busLive c = true ∧ canFormed m = true ∧
      (c ≠ 0 ∨ m.fd = false)) ∧ (s.matching c m = some f ∧ (s.filter c f).target = 2) ∧ (s.chan c).rxq1.length < 64 ∧
      s.offCause c = false) ∧
  (∃ (s : State) (dt : Nat) (c : Fin 4) (m : CanMsg) (ago : Nat), (s.busLive c = true ∧ canFormed m = true ∧ (c ≠ 0 ∨
      m.fd = false)) ∧ s.matching c m = none ∧ s.nat (Od.CAN_UNMATCHED c) < 4294967295) ∧
  (∃ (s : State) (dt : Nat) (ago : Nat) (c : Fin 4) (m : CanMsg) (n : Fin 16), s.busLive c = true ∧ ((s.chan c).onBus =
      some n.val ∧ (s.slot c n).msg = some m)) ∧
  (∃ (s : State) (dt : Nat) (c : Fin 4), (s.busLive c = true ∧ (s.chan c).restricted = false) ∧ (s.chan c).tec + 8 ≤ 255
      ∧ s.offCause c = false ∧ s.nat (Od.CAN_ERR_FRAMES c) < 4294967295) ∧
  (∃ (s : State) (dt : Nat) (c : Fin 4), (s.busLive c = true ∧ (s.chan c).restricted = false) ∧ 255 < (s.chan c).tec + 8
      ∧ s.nat (Od.CAN_BUS_OFFS c) < 65535) ∧
  (∃ (s : State) (dt : Nat) (c : Fin 4), (s.elapse dt).busRecoveryDue c = true) ∧
  (∃ (s : State) (dt : Nat) (c : Fin 4) (n : Fin 16), (s.busLive c = true ∧ (s.chan c).onBus ≠ some n.val) ∧ (s.slot c
      n).isStale (s.tb + dt) = true ∧ s.nat (Od.CAN_STALE_DROPS c) < 65535) ∧
  (∃ (s : State) (dt : Nat) (who : Requester) (c : Fin 4) (e : RxEntry) (l : List RxEntry), (s.dictUp = true ∧
      s.diagOnly = false ∧ who.sess.isSome = true) ∧ (s.begun dt who).walled (Od.CAN_BRIDGE_RX c) = false ∧ ((s.chan
      c).rxq1 = e :: l ∧ e.ofHost = true)) ∧
  (∃ (s : State) (dt : Nat) (who : Requester) (c : Fin 4) (data : List Byte), s.accepts dt who (Od.CAN_BRIDGE_TX c)
      .service = true ∧ (9 ≤ data.length ∧ data.length = 9 + leNat ((data.drop 8).take 1)) ∧ s.bridgeOk c (bridgeMsg
      data) = true ∧ (s.offCause c = false ∧ (s.chan c).fifo.length < 32)) ∧
  (∃ (s : State) (dt : Nat) (c : Fin 4), (s.chan c).online = true ∧ s.offCause c = true ∧ (s.chan c).onBus = none) ∧
  (∃ (s : State) (dt : Nat) (c : Fin 4), ((s.chan c).online = false ∧ s.offCause c = false) ∧ ((s.chan c).clockHold =
      false ∧ (s.elapse dt).integrated c = true)) ∧
  (∃ (s : State) (dt : Nat), s.nat Od.TIME_TS_WRAPS < (s.tb + dt) / 2 ^ 32) :=
  ⟨⟨(onLine 2).setN Od.HV_BMS_RX_ID 5, 500, 2, ⟨5, false, true, false, [1]⟩, 3, 0, by decide +kernel⟩,
    ⟨onLine 2, 500, 2, ⟨6, false, true, false, [1]⟩, 3, by decide +kernel⟩,
    ⟨(onLine 2).modChan 2 fun x => { x with onBus := some 3, slots := Vector.replicate 16 { msg := some ⟨5, false, true, false, [1]⟩ } },
    5, 5, 2, ⟨5, false, true, false, [1]⟩, 3, by decide +kernel⟩,
    ⟨onLine 2, 5, 2, by decide +kernel⟩,
    ⟨(onLine 2).modChan 2 fun x => { x with tec := 250 }, 5, 2, by decide +kernel⟩,
    ⟨(onLine 2).modChan 2 fun x => { x with busOff := true }, 99999999, 2, by decide +kernel⟩,
    ⟨(onLine 2).modChan 2 fun x => { x with slots := Vector.replicate 16 { msg := some ⟨5, false, true, false, [1]⟩, deadline := some 0 } },
    5, 2, 3, by decide +kernel⟩,
    ⟨(onLine 2).modChan 2 fun x => { x with rxq1 := [⟨⟨5, false, true, false, [1]⟩, 32, 7⟩] }, 5, .eth 0, 2, ⟨⟨5, false,
    true, false, [1]⟩, 32, 7⟩, [], by decide +kernel⟩,
    ⟨onLine 2, 5, .pyreri, 2, [5, 0, 0, 0, 0, 0, 0, 0, 1, 7], by decide +kernel⟩,
    ⟨(onLine 2).setN (Od.CAN_CH_CTRL 2) 4, 5, 2, by decide +kernel⟩,
    ⟨(onLine 2).modChan 2 fun x => { x with online := false, freeTb := some 0 }, 99999999, 2, by decide +kernel⟩,
    ⟨up, 2^33, by decide +kernel⟩⟩

theorem witness_GlobalTimeCommandsComplete :
  (∃ (s : State) (dt : Nat), s.time.master = true ∧ s.time.sentMs ≠ (s.elapse dt).gt / 100000) ∧
  (∃ (s : State) (dt : Nat) (ago : Nat) (data : List Byte), data.length = 12 ∧ (1 ≤ leNat ((data.drop 8).take 1) ∧ leNat
      ((data.drop 8).take 1) ≤ 15) ∧ s.busLive 1 = true ∧ (s.time.master = false ∧ s.time.rank = 0)) ∧
  (∃ (s : State) (dt : Nat), (s.time.rank ≠ 0 ∧ s.time.master = false) ∧ (s.timeBus = true ∧ s.dictUp = true) ∧
      s.time.refTb + rankWait s.time.rank ≤ s.tb + dt) ∧
  (∃ (s : State) (dt : Nat), (s.time.sync = true ∧ s.time.master = false) ∧ s.time.lossTb + ms 5 ≤ s.tb + dt) :=
  ⟨⟨{ onLine 1 with time := { (onLine 1).time with master := true, rank := 1 } }, 9999999, by decide +kernel⟩,
    ⟨onLine 1, 500, 5, [1, 2, 3, 4, 5, 6, 7, 8, 2, 0, 0, 0], by decide +kernel⟩,
    ⟨{ onLine 1 with time := { (onLine 1).time with rank := 3 } }, 9999999, by decide +kernel⟩,
    ⟨{ onLine 1 with time := { (onLine 1).time with sync := true } }, 9999999, by decide +kernel⟩⟩

theorem witness_CanACommandsComplete :
  (∃ (s : State) (dt : Nat), s.busLive 0 = true ∧ s.canA.addr = none ∧ s.canA.cannot = false) ∧
  (∃ (s : State) (dt : Nat) (src : Byte) (name : BitVec 64), (s.busLive 0 = true ∧ s.canA.addr = some src.toNat) ∧
      s.canA.name < name.toNat) ∧
  (∃ (s : State) (dt : Nat) (src : Byte) (name : BitVec 64), (s.busLive 0 = true ∧ s.canA.addr = some src.toNat) ∧
      name.toNat < s.canA.name ∧ (s.canA.taken = [] ∧ src = 0x80)) ∧
  (∃ (s : State) (dt : Nat) (a : Nat) (t0 : Nat), (s.canA.addr = some a ∧ s.canA.claimTb = some t0) ∧ t0 + ms 250 ≤ s.tb
      + dt) ∧
  (∃ (s : State) (dt : Nat) (dest : Byte) (data : List Byte), (s.busLive 0 = true ∧ s.addrOk = true ∧ s.canA.addr = some
      dest.toNat) ∧ data.length ≠ 8 ∧ s.nat (Od.CAN_A_REJECTS 0) < 65535) ∧
  (∃ (s : State) (dt : Nat) (dest : Byte) (a : Byte) (b : Byte) (c : Byte) (d : Byte) (e : Byte) (f : Byte) (g : Byte),
      (s.busLive 0 = true ∧ s.addrOk = true ∧ s.canA.addr = some dest.toNat) ∧ s.canA.alive = []) ∧
  (∃ (s : State) (dt : Nat) (a : Nat) (src : Byte), (s.busLive 0 = true ∧ s.offCause 0 = false) ∧ s.canA.addr = some a ∧
      (s.slot 0 8).msg = none) ∧
  (∃ (s : State) (dt : Nat), (s.dictUp = true ∧ s.canA.lost = false) ∧ s.canA.cmdTb + ms (s.nat (Od.CAN_A_CMD_TIMEOUT_ms
      0)) ≤ s.tb + dt) ∧
  (∃ (s : State) (dt : Nat), (s.addrOk = true ∧ s.busLive 0 = true) ∧ s.canA.dueTb ≤ s.tb + dt) :=
  ⟨⟨onLine 0, 5, by decide +kernel⟩,
    ⟨{ onLine 0 with canA := { (onLine 0).canA with addr := some 0x80 } }, 5, 0x80, 7, by decide +kernel⟩,
    ⟨{ onLine 0 with canA := { (onLine 0).canA with addr := some 0x80, name := 9 } }, 5, 0x80, 7, by decide +kernel⟩,
    ⟨{ onLine 0 with canA := { (onLine 0).canA with addr := some 0x80, claimTb := some 0 } }, 99999999, 0x80, 0,
    by decide +kernel⟩,
    ⟨{ onLine 0 with canA := { (onLine 0).canA with addr := some 0x80 } }, 5, 0x80, [], by decide +kernel⟩,
    ⟨{ onLine 0 with canA := { (onLine 0).canA with addr := some 0x80 } }, 5, 0x80, 0, 0, 0, 0, 0, 0, 4,
    by decide +kernel⟩,
    ⟨{ onLine 0 with canA := { (onLine 0).canA with addr := some 0x80 } }, 5, 0x80, 9, by decide +kernel⟩,
    ⟨onLine 0, 99999999, by decide +kernel⟩,
    ⟨{ onLine 0 with canA := { (onLine 0).canA with addr := some 0x80 } }, 99999999, by decide +kernel⟩⟩

theorem witness_ObjectAccessCommandsComplete :
  (∃ (s : State) (dt : Nat) (who : Requester) (index : BitVec 16) (sub : BitVec 8) (data : List Byte) (r : DictRow) (v :
      Val), s.writeCheck who index.toNat sub.toNat data = .ok (r, v) ∧ s.accessOf who index.toNat sub.toNat r ≠ .safe
      ∧ s.accepts dt who (s.objKey who index.toNat sub.toNat) (writeRole (s.accessOf who index.toNat sub.toNat r)
      index.toNat sub.toNat) = true ∧ (s.begun dt who).storesPlainly who index.toNat sub.toNat v data = true) ∧
  (∃ (s : State) (dt : Nat) (code : Nat) (who : Requester) (index : BitVec 16) (sub : BitVec 8) (data : List Byte),
      s.writeCheck who index.toNat sub.toNat data = .error code ∧ (s.dictUp = true ∧ who ≠ .canA)) ∧
  (∃ (s : State) (dt : Nat) (index : BitVec 16) (sub : BitVec 8) (data : List Byte) (r : DictRow) (v : Val), s.busLive 3
      = true ∧ s.writeCheck .canD index.toNat sub.toNat data = .ok (r, v) ∧ s.accessOf .canD index.toNat sub.toNat r ≠
      .safe ∧ s.accepts dt .canD (s.objKey .canD index.toNat sub.toNat) (writeRole (s.accessOf .canD index.toNat
      sub.toNat r) index.toNat sub.toNat) = true ∧ (s.begun dt .canD).storesPlainly .canD index.toNat sub.toNat v data
      = true) ∧
  (∃ (s : State) (dt : Nat) (index : BitVec 16) (sub : BitVec 8) (r : DictRow), (s.busLive 3 = true ∧ s.dictUp = true ∧
      s.diagOnly = false) ∧ objRow index.toNat sub.toNat = .ok r ∧ ((s.begun dt .canD).modSdo none).readsPlainly .canD
      index.toNat sub.toNat r = true ∧ s.walled (s.objKey .canD index.toNat sub.toNat) = false ∧ (encodeVal r.ty
      ((s.begun dt .canD).get (s.objKey .canD index.toNat sub.toNat))).length ≤ 4) ∧
  (∃ (s : State) (dt : Nat) (index : BitVec 16) (sub : BitVec 8), s.busLive 3 = true ∧ s.dictUp = true) ∧
  (∃ (s : State) (dt : Nat) (x : SdoSt), (s.sessOf .canD).sdo = some x ∧ x.lastTb + ms (s.nat Od.SVC_SDO_TIMEOUT_ms) ≤
      s.tb + dt) ∧
  (∃ (s : State) (dt : Nat) (i : Fin 4) (ip : BitVec 32) (port : BitVec 16) (dg : List Byte) (r : DictRow), s.hspReaches
      i ip.toNat port.toNat dg = true ∧ dgField dg 1 1 = 1 ∧ objRow (hspIndex dg) (hspSub dg) = .ok r ∧ ((s.elapse
      dt).ethReceived.touch (.eth i)).readsPlainly (.eth i) (hspIndex dg) (hspSub dg) r = true ∧ s.walled (s.objKey
      (.eth i) (hspIndex dg) (hspSub dg)) = false ∧ s.objKey (.eth i) (hspIndex dg) (hspSub dg) ≠ Od.ETH_TX_FRAMES) ∧
  (∃ (s : State) (dt : Nat) (i : Fin 4) (ip : BitVec 32) (port : BitVec 16) (dg : List Byte) (r : DictRow) (v : Val),
      s.hspReaches i ip.toNat port.toNat dg = true ∧ dgField dg 1 1 = 2 ∧ s.writeCheck (.eth i) (hspIndex dg) (hspSub
      dg) (dg.drop 16) = .ok (r, v) ∧ s.accessOf (.eth i) (hspIndex dg) (hspSub dg) r ≠ .safe ∧ s.accepts dt (.eth i)
      (s.objKey (.eth i) (hspIndex dg) (hspSub dg)) (writeRole (s.accessOf (.eth i) (hspIndex dg) (hspSub dg) r)
      (hspIndex dg) (hspSub dg)) = true ∧ ((s.elapse dt).ethReceived.touch (.eth i)).storesPlainly (.eth i) (hspIndex
      dg) (hspSub dg) v (dg.drop 16) = true) ∧
  (∃ (s : State) (dt : Nat) (i : Fin 4) (ip : BitVec 32) (port : BitVec 16) (dg : List Byte), s.hspReaches i ip.toNat
      port.toNat dg = true ∧ dgField dg 1 1 = 3) ∧
  (∃ (s : State) (dt : Nat) (i : Fin 4) (ip : BitVec 32) (port : BitVec 16) (dg : List Byte), s.hspReaches i ip.toNat
      port.toNat dg = true ∧ dgField dg 1 1 = 4) ∧
  (∃ (s : State) (dt : Nat) (ip : BitVec 32) (port : BitVec 16) (dg : List Byte), (s.sessions.linkUp = true ∧ s.dictUp =
      true) ∧ hspFormed dg = true ∧ (dgField dg 1 1 = 0 ∨ 4 < dgField dg 1 1)) ∧
  (∃ (s : State) (dt : Nat) (mac : BitVec 48) (ip : BitVec 32) (target : BitVec 32) (port : BitVec 16),
      (s.sessions.linkUp = true ∧ s.portAnswers = true) ∧ target.toNat = s.sessions.ipAddr ∧ (s.nat Od.ETH_RX_FRAMES <
      4294967295 ∧ s.nat Od.ETH_TX_FRAMES < 4294967295)) ∧
  (∃ (s : State) (dt : Nat) (ip : BitVec 32) (target : BitVec 32) (port : BitVec 16) (data : List Byte),
      (s.sessions.linkUp = true ∧ s.portAnswers = true) ∧ target.toNat = s.sessions.ipAddr) ∧
  (∃ (s : State) (dt : Nat) (ip : BitVec 32) (port : BitVec 16), s.sessions.linkUp = true ∧ (s.nat Od.ETH_RX_FRAMES <
      4294967295 ∧ s.nat Od.ETH_RX_DISCARDED < 4294967295)) ∧
  (∃ (s : State) (dt : Nat) (ip : BitVec 32) (port : BitVec 16), s.sessions.linkUp = true ∧ s.nat Od.ETH_RX_ERRORS <
      4294967295) :=
  ⟨⟨up, 5, .pyreri, 0x3110, 5, [1, 2, 0, 0], ⟨5, 5, "PRE_ROWS", .u32, .rws, .int 0, .any, 1⟩, .int 513,
    by decide +kernel⟩,
    ⟨up, 5, 0x06020000, .eth 0, 0xFFFF, 5, [1], by decide +kernel⟩,
    ⟨sdoPeer, 5, 0x3110, 5, [1, 2, 0, 0], ⟨5, 5, "PRE_ROWS", .u32, .rws, .int 0, .any, 1⟩, .int 513, by decide +kernel⟩,
    ⟨sdoPeer, 5, 0x3010, 1, ⟨1, 1, "SP_PORT", .u16, .ro, .int 47810, .any, 1⟩, by decide +kernel⟩,
    ⟨sdoPeer, 5, 0x3110, 5, by decide +kernel⟩,
    ⟨sdoPeer.modSess .canD fun x => { x with sdo := some {} }, 999999999, {}, by decide +kernel⟩,
    ⟨peer .operator, 5, 0, 1, 2, [1, 1, 9, 0, 0x10, 0x30, 1, 0, 0, 0, 0, 0, 0, 0, 0, 0], ⟨1, 1, "SP_PORT", .u16, .ro, .int
    47810, .any, 1⟩, by decide +kernel⟩,
    ⟨peer .service, 5, 0, 1, 2, [1, 2, 9, 0, 0x10, 0x31, 5, 0, 0, 0, 0, 0, 4, 0, 0, 0, 1, 2, 0, 0], ⟨5, 5, "PRE_ROWS",
    .u32, .rws, .int 0, .any, 1⟩, .int 513, by decide +kernel⟩,
    ⟨peer .service, 5, 0, 1, 2, [1, 3, 9, 0, 0, 0, 0, 0, 0, 0, 0, 0, 0, 0, 0, 0], by decide +kernel⟩,
    ⟨peer .service, 5, 0, 1, 2, [1, 4, 9, 0, 0, 0, 0, 0, 0, 0, 0, 0, 0, 0, 0, 0], by decide +kernel⟩,
    ⟨peer .service, 5, 1, 2, [1, 5, 9, 0, 0, 0, 0, 0, 0, 0, 0, 0, 0, 0, 0, 0], by decide +kernel⟩,
    ⟨{ peer .service with sessions := { (peer .service).sessions with ipAddr := 0xC0A80001 } }, 5, 7, 1, 0xC0A80001, 2,
    by decide +kernel⟩,
    ⟨{ peer .service with sessions := { (peer .service).sessions with ipAddr := 0xC0A80001 } }, 5, 1, 0xC0A80001, 2, [1,
    2], by decide +kernel⟩,
    ⟨peer .service, 5, 1, 2, by decide +kernel⟩,
    ⟨peer .service, 5, 1, 2, by decide +kernel⟩⟩

theorem witness_SessionCommandsComplete :
  (∃ (s : State) (dt : Nat) (who : Requester) (data : List Byte), s.accepts dt who Od.AUTH_AUTH_OPEN .operator = true ∧
      (data.length = 5 ∧ leNat (data.drop 4) = 1) ∧ (s.pathLocked who = false ∧ who ≠ .pyreri)) ∧
  (∃ (s : State) (dt : Nat) (who : Requester) (data : List Byte), s.accepts dt who Od.AUTH_AUTH_RESPONSE .operator =
      true ∧ (data.length = 16 ∧ (s.sessOf who).reqRole = 1) ∧ (s.pathLocked who = false ∧ who ≠ .pyreri) ∧ (s.elapse
      dt).expectedResponse who = some data) ∧
  (∃ (s : State) (dt : Nat) (who : Requester) (data : List Byte), s.accepts dt who Od.AUTH_AUTH_RESPONSE .operator =
      true ∧ (data.length = 16 ∧ (s.sessOf who).reqRole ≠ 2) ∧ (s.pathLocked who = false ∧ who ≠ .pyreri) ∧ (s.sessOf
      who).nonce = none ∧ s.nat Od.AUTH_AUTH_FAILS < 4294967295) ∧
  (∃ (s : State) (dt : Nat) (i : Fin 5) (n : List Byte × Nat), (s.sessions.table.get i).nonce = some n ∧ n.2 + sec 10 ≤
      s.tb + dt) ∧
  (∃ (s : State) (dt : Nat) (e : Nat) (can : Bool), (s.pathOf can).lockEnd = some e ∧ e ≤ s.tb + dt) ∧
  (∃ (s : State) (dt : Nat) (who : Requester) (data : List Byte), s.accepts dt who Od.AUTH_KEY_SAFETY .safety = true ∧
      data.length = 32) ∧
  (∃ (s : State) (dt : Nat) (who : Requester) (data : List Byte), s.accepts dt who Od.AUTH_KEY_SERVICE .safety = true ∧
      data.length = 32) ∧
  (∃ (s : State) (dt : Nat) (who : Requester), s.accepts dt who Od.SVC_SESSION_CLOSE .operator = true ∧ who ≠ .pyreri) ∧
  (∃ (s : State) (dt : Nat) (i : Fin 5), (s.sessions.table.get i).isOpen = true ∧ (s.sessions.table.get i).lastTb + sec
      (s.nat Od.SVC_SESSION_IDLE_s) ≤ s.tb + dt) ∧
  (∃ (s : State) (dt : Nat), s.sessions.linkUp = true ∧ s.nat Od.ETH_LINK_DROPS < 65535) ∧
  (∃ (s : State) (dt : Nat), s.phyReleased = true) ∧
  (∃ (s : State) (dt : Nat) (who : Requester) (d : Drive) (code : Byte), s.accepts dt who (Od.OWN_OWNER d.num) .service
      = true ∧ (code = 0 ∨ code = 0x10 ∨ code.toNat = (s.begun dt who).codeOf who) ∧ ((s.begun dt who).ownerFree who d
      = true ∧ s.ownersAgree d code.toNat = true)) :=
  ⟨⟨up, 5, .eth 1, [1, 2, 3, 4, 1], by decide +kernel⟩,
    ⟨challenged, 5, .eth 1, response0, by decide +kernel⟩,
    ⟨up, 5, .eth 1, List.replicate 16 7, by decide +kernel⟩,
    ⟨up.modTable 2 fun x => { x with nonce := some ([], 0) }, 1999999999, 2, ([], 0), by decide +kernel⟩,
    ⟨up.modAuthPath true fun x => { x with lockEnd := some 9, failRun := 5 }, 999, 9, true, by decide +kernel⟩,
    ⟨triple, 5, .eth 0, List.replicate 32 7, by decide +kernel⟩,
    ⟨triple, 5, .eth 0, List.replicate 32 7, by decide +kernel⟩,
    ⟨triple.setN (Od.OWN_OWNER 3) 0x30, 5, .eth 0, by decide +kernel⟩,
    ⟨triple, sec 9999, 0, by decide +kernel⟩,
    ⟨peer .service, 5, by decide +kernel⟩,
    ⟨up, 5, by decide +kernel⟩,
    ⟨triple, 5, .eth 0, .chg, 0x30, by decide +kernel⟩⟩

theorem witness_LogCommandsComplete :
  (∃ (s : State) (dt : Nat) (e : LogEntry) (l : List LogEntry), (s.log.buffer = e :: l ∧ s.logReady = true) ∧
      s.log.ring.length < 256 ∧ ((s.log.stepTb.all fun e => decide (e + us 10 ≤ s.tb + dt)) = true)) ∧
  (∃ (s : State) (dt : Nat) (who : Requester) (e : LogEntry), (s.dictUp = true ∧ s.diagOnly = false) ∧ (who.sess.isSome
      = true ∧ (s.sessOf who).isOpen = true) ∧ (s.log.ring.find? (fun x => x.1 == (s.sessOf who).logSel) = some
      ((s.sessOf who).logSel, e))) ∧
  (∃ (s : State) (dt : Nat) (who : Requester), s.accepts dt who Od.LOG_LOG_CLEAR .service = true) ∧
  (∃ (s : State) (dt : Nat) (who : Requester), s.accepts dt who Od.CNT_FAULT_OCC_CLEAR .service = true) ∧
  (∃ (s : State) (dt : Nat), s.dictUp = true ∧ s.log.timeTb + sec 600 ≤ s.tb + dt) ∧
  (∃ (s : State) (dt : Nat) (f : List Byte) (l : List (List Byte)), (s.log.emcy = f :: l ∧ s.log.emcyTb = none) ∧
      (s.offCause 3 = false ∧ (s.slot 3 8).msg = none)) ∧
  (∃ (s : State) (dt : Nat), (s.dictUp = true ∧ s.nat Od.COM_HEARTBEAT_TIME ≠ 0) ∧ s.log.beatTb + ms (s.nat
      Od.COM_HEARTBEAT_TIME) ≤ s.tb + dt ∧ (s.offCause 3 = false ∧ (s.chan 3).fifo.length < 32)) :=
  ⟨⟨{ up with log := { up.log with buffer := [⟨4, 0x0109, 255, .info, 0⟩] } }, 5, ⟨4, 0x0109, 255, .info, 0⟩, [],
    by decide +kernel⟩,
    ⟨({ up with log := { up.log with ring := [(1, ⟨4, 0x0109, 255, .info, 0⟩)] } }).modSess (.eth 1) fun x => { x with isOpen := true, logSel := 1 },
    5, .eth 1, ⟨4, 0x0109, 255, .info, 0⟩, by decide +kernel⟩,
    ⟨{ up with log := { up.log with ring := [(1, ⟨4, 0x0109, 255, .info, 0⟩)], written := 1 } }, 5, .pyreri,
    by decide +kernel⟩,
    ⟨{ up with log := { up.log with faultOcc := [(0x0903, 2)] } }, 5, .pyreri, by decide +kernel⟩,
    ⟨up, sec 600, by decide +kernel⟩,
    ⟨{ onLine 3 with log := { up.log with emcy := [[1, 2, 3, 4, 5, 6, 7, 8]] } }, 5, [1, 2, 3, 4, 5, 6, 7, 8], [],
    by decide +kernel⟩,
    ⟨(onLine 3).setN Od.COM_HEARTBEAT_TIME 100, 999999999, by decide +kernel⟩⟩

theorem witness_ImageCommandsComplete :
  (∃ (s : State) (dt : Nat) (who : Requester), s.accepts dt who Od.IMG_UPD_CMD .service = true ∧ (s.updating = false ∧
      s.bringup.imageFault = false) ∧ (s.nat Od.IMG_TFTP_SERVER ≠ 0 ∧ (s.get Od.IMG_FILE_NAME).toBytes ≠ [])) ∧
  (∃ (s : State) (dt : Nat) (who : Requester), s.accepts dt who Od.IMG_UPD_CMD .service = true ∧ (s.updating = true ∧
      s.img.marker = false)) ∧
  (∃ (s : State) (dt : Nat) (who : Requester), s.accepts dt who Od.IMG_UPD_CMD .service = true ∧ s.img.marker = true) ∧
  (∃ (s : State) (dt : Nat) (who : Requester), s.accepts dt who Od.IMG_UPD_CMD .service = true ∧ s.updating = false ∧
      ((s.bank s.target).state = .committed ∧ (s.bank s.target).markers < 64) ∧ s.nat Od.IMG_ROLLBACKS < 65535) ∧
  (∃ (s : State) (dt : Nat), (s.nat Od.IMG_UPD_STATE = 1 ∧ s.img.tid = none) ∧ s.sessions.linkUp = true) ∧
  (∃ (s : State) (dt : Nat) (tid : BitVec 16) (block : BitVec 16) (data : List Byte), s.transferring = true ∧
      s.foreignTid tid.toNat = false ∧ (data.length = 512 ∧ s.nat Od.IMG_UPD_BYTES + 512 ≤ 6291456) ∧ block.toNat =
      s.nat Od.IMG_UPD_BLOCK + 1 ∧ s.bringup.holdupTb = none) ∧
  (∃ (s : State) (dt : Nat) (tid : BitVec 16) (block : BitVec 16) (data : List Byte), s.transferring = true ∧
      s.foreignTid tid.toNat = false ∧ (data.length < 512 ∧ s.nat Od.IMG_UPD_BYTES + data.length ≤ 6291456) ∧
      block.toNat = s.nat Od.IMG_UPD_BLOCK + 1 ∧ s.bringup.holdupTb = none) ∧
  (∃ (s : State) (dt : Nat) (tid : BitVec 16), s.transferring = true ∧ s.foreignTid tid.toNat = false) ∧
  (∃ (s : State) (dt : Nat), s.nat Od.IMG_UPD_STATE = 2 ∧ s.img.sentTb + ms (s.nat Od.IMG_TFTP_TIMEOUT_ms) ≤ s.tb + dt ∧
      s.img.resends < s.nat Od.IMG_TFTP_RETRIES) ∧
  (∃ (s : State) (dt : Nat), s.nat Od.IMG_UPD_STATE = 2 ∧ s.img.sentTb + ms (s.nat Od.IMG_TFTP_TIMEOUT_ms) ≤ s.tb + dt ∧
      s.nat Od.IMG_TFTP_RETRIES ≤ s.img.resends) ∧
  (∃ (s : State) (dt : Nat), (s.nat Od.IMG_UPD_STATE = 3 ∧ s.bringup.holdupTb = none) ∧ verifyResult (s.bank
      s.target).image true = none) ∧
  (∃ (s : State) (dt : Nat) (readOk : Bool), (s.nat Od.IMG_UPD_STATE = 4 ∧ s.pulseEnd (s.tb + dt) = none) ∧ s.nat
      Od.IMG_UPDATES < 4294967295) ∧
  (∃ (s : State) (dt : Nat) (readOk : Bool), s.nat Od.IMG_UPD_STATE = 4 ∧ s.pulseEnd (s.tb + dt) = none) ∧
  (∃ (s : State) (dt : Nat) (r : Nat) (readOk : Bool) (markerOk : Bool), (s.nat Od.IMG_UPD_STATE = 3 ∧
      s.bringup.holdupTb = none) ∧ verifyResult (s.bank s.target).image readOk = some r) :=
  ⟨⟨(up.setN Od.IMG_TFTP_SERVER 9).set Od.IMG_FILE_NAME (.bytes [65]), 5, .pyreri, by decide +kernel⟩,
    ⟨up.setN Od.IMG_UPD_STATE 2, 5, .pyreri, by decide +kernel⟩,
    ⟨(up.setN Od.IMG_UPD_STATE 4).modImg fun x => { x with marker := true }, 5, .pyreri, by decide +kernel⟩,
    ⟨up.modBank 1 fun x => { x with state := .committed }, 5, .pyreri, by decide +kernel⟩,
    ⟨(peer .service).setN Od.IMG_UPD_STATE 1, 5, by decide +kernel⟩,
    ⟨(peer .service).setN Od.IMG_UPD_STATE 2, 5, 7, 1, List.replicate 512 3, by decide +kernel⟩,
    ⟨(peer .service).setN Od.IMG_UPD_STATE 2, 5, 7, 1, [3], by decide +kernel⟩,
    ⟨(peer .service).setN Od.IMG_UPD_STATE 2, 5, 7, by decide +kernel⟩,
    ⟨(peer .service).setN Od.IMG_UPD_STATE 2, 999999999, by decide +kernel⟩,
    ⟨((peer .service).setN Od.IMG_UPD_STATE 2).modImg fun x => { x with resends := 99 }, 999999999, by decide +kernel⟩,
    ⟨verifying, 5, by decide +kernel, image0_ok⟩,
    ⟨up.setN Od.IMG_UPD_STATE 4, 5, true, by decide +kernel⟩,
    ⟨up.setN Od.IMG_UPD_STATE 4, 5, true, by decide +kernel⟩,
    ⟨up.setN Od.IMG_UPD_STATE 3, 5, 7, true, true, by decide +kernel⟩⟩

theorem witness_CaptureCommandsComplete :
  (∃ (s : State) (dt : Nat) (who : Requester), s.accepts dt who Od.CAP_CAP_CMD .operator = true) ∧
  (∃ (s : State) (dt : Nat) (who : Requester), s.accepts dt who Od.CAP_CAP_CMD .operator = true ∧ (s.capState = 1 ∧
      s.nat Od.CAP_POST_ROWS ≠ 0)) ∧
  (∃ (s : State) (dt : Nat) (who : Requester), s.accepts dt who Od.CAP_CAP_CMD .operator = true ∧ (s.capState = 1 ∨
      s.capState = 2 ∨ s.capState = 4)) ∧
  (∃ (s : State) (dt : Nat) (ok : Bool), (s.capState = 1 ∧ s.cap.rows = []) ∧ (s.tb + dt) % us (s.nat
      Od.CAP_CAP_PERIOD_us) = 0 ∧ (1 ≤ s.nat Od.CAP_CAP_CHANNELS ∧ s.nat Od.CAP_CAP_CHANNELS ≤ 16)) ∧
  (∃ (s : State) (dt : Nat) (ok : Bool), s.capState = 4 ∧ (s.tb + dt) % us (s.nat Od.CAP_CAP_PERIOD_us) = 0 ∧
      s.cap.fill.length + 1 < 1024 / (4 * s.nat Od.CAP_CAP_CHANNELS)) ∧
  (∃ (s : State) (dt : Nat) (len : Nat) (who : Requester), (s.dictUp = true ∧ s.diagOnly = false ∧ who.sess.isSome =
      true ∧ (s.sessOf who).isOpen = true) ∧ (4 ≤ len ∧ len ≤ 1024 ∧ len % 4 = 0) ∧ ((s.sessOf who).readOffset % 4 = 0
      ∧ (s.sessOf who).readOffset + len ≤ 4 * s.nat Od.CAP_CAP_CHANNELS * s.nat Od.CAP_ROWS_STORED) ∧
      ((s.cap.rows.reverse.flatMap fun r => rowBytes r.2).length = 4 * s.nat Od.CAP_CAP_CHANNELS * s.nat
      Od.CAP_ROWS_STORED)) :=
  ⟨⟨up, 5, .eth 1, by decide +kernel⟩,
    ⟨(up.setN Od.CAP_CAP_STATE 1).setN Od.CAP_POST_ROWS 5, 5, .eth 1, by decide +kernel⟩,
    ⟨up.setN Od.CAP_CAP_STATE 1, 5, .eth 1, by decide +kernel⟩,
    ⟨(up.setN Od.CAP_CAP_STATE 1).setN Od.CAP_CAP_CHANNELS 1, 0, true, by decide +kernel⟩,
    ⟨(up.setN Od.CAP_CAP_STATE 4).setN Od.CAP_CAP_CHANNELS 1, 0, true, by decide +kernel⟩,
    ⟨(((up.setN Od.CAP_ROWS_STORED 1).setN Od.CAP_CAP_CHANNELS 1).modCap fun x => { x with rows := [(4, [7])] }).modSess
    (.eth 1) fun x => { x with isOpen := true }, 5, 4, .eth 1, by decide +kernel⟩⟩

/-! ### The conditions of the statements that stand alone -/

theorem witness_AStepRunsTheFront :
    ∃ (s : State) (c : Instr) (rest : List Instr), s.pending = c :: rest :=
  ⟨{ up with pending := [.captureForce 5 (.eth 1)] }, .captureForce 5 (.eth 1), [], rfl⟩

theorem witness_AnEmptyQueueIdles : ∃ s : State, s.pending = [] := ⟨up, rfl⟩

theorem witness_EveryStepKeepsTheInvariant : ∃ s t : State, s.inv ∧ step s = .next t :=
  ⟨State.reset, State.reset, ⟨by decide +kernel, by simp [State.reset]⟩, rfl⟩

/-- A consumer in RUN that follows the peer's time, its last accepted value and window given (Table 17.6). -/
def inRun (p : Nat) : State :=
  (((up.setN (Od.HSF_CONN_STATE 3) 2).setN (Od.HSF_LAST_SEQ 3) p).setN (Od.HSF_TIME_MODE 3) 1).setN (Od.HSF_SEQ_WIN 3) 3

/-- Each clause at a boundary: 0, the same value again, distances 1 and SEQ_WIN across the wrap, SEQ_WIN + 1. -/
theorem witness_SequenceAcceptanceInRun :
    (∀ p, p = 65533 ∨ p = 65535 ∨ p = 1 → (inRun p).connState 3 = 2 ∧ (inRun p).nat (Od.HSF_LAST_SEQ 3) = p) ∧
    (inRun 65533).hsfTimeOk 3 none 0 none = true ∧ (inRun 65533).hsfTimeOk 3 none 0 ((inRun 65533).conn 3).ptime = true ∧
    (inRun 65533).nat (Od.HSF_SEQ_WIN 3) = 3 ∧ (inRun 65533).nat (Od.HSF_LOST 3) + 2 < 2 ^ 32 ∧
    ((0 : Nat) : Int) = ((1 : Nat) - (1 : Nat) : Int) % 65535 ∧ ((1 : Nat) : Int) = ((1 : Nat) - (65535 : Nat) : Int) % 65535 ∧
    ((3 : Nat) : Int) = ((1 : Nat) - (65533 : Nat) : Int) % 65535 ∧ ((4 : Nat) : Int) = ((2 : Nat) - (65533 : Nat) : Int) % 65535 :=
  ⟨by rintro p (rfl | rfl | rfl) <;> decide +kernel, by decide +kernel⟩

theorem witness_AResetAbortsTheTrimLoad :
    (∃ (s : State) (dt ns : Nat), (s.bringup.step = 1 ∧ s.bringup.trimFault = false) ∧ 5000 ≤ ns ∧
      s.bringup.resetLatch = false ∧ s.bringup.deferredTb = none ∧ s.pulseEnd (s.tb + dt) = none) ∧
    (∃ (s : State) (dt t0 e : Nat), (s.bringup.step = 1 ∧ s.bringup.trimFault = false) ∧
      s.bringup.deferredTb = some t0 ∧ s.pulseEnd t0 = some e ∧ e ≤ s.tb + dt) ∧
    (∃ (s : State) (dt : Nat), (s.bringup.step = 1 ∧ s.bringup.trimFault = false) ∧ (s.elapse dt).railFalls = true) ∧
    (∃ (t : State), t.bestSource ≠ 0) :=
  ⟨⟨atStep 1, 0, 5000, by decide +kernel⟩,
    ⟨{ (atStep 1).modImg fun x => { x with pulseN := 1, pulseUs := 50 } with
        bringup := { (atStep 1).bringup with deferredTb := some 3 } }, 5000, 3, 5000, by decide +kernel⟩,
    ⟨{ atStep 1 with bringup := { (atStep 1).bringup with lvOk := false, holdupTb := some 0 } }, 500000, by decide +kernel⟩,
    ⟨up, by decide +kernel⟩⟩

/-! The frame statements ask that the command answers a next state; every command does, in every state. -/

theorem witness_FramesOfLinksSupplyAndLegs :
    ∃ (s t : State) (dt : Nat) (l : Link) (toC lane1 : Bool), exec (.linkLaneFail dt l toC lane1) s = .next t :=
  ⟨up, _, 5, .t, true, false, rfl⟩
theorem witness_FramesOfControlAndEngines :
    ∃ (s t : State) (dt : Nat) (who : Requester) (t0 : Fin 2) (v : BitVec 32), exec (.tqSetWrite dt who t0 v) s = .next t :=
  ⟨up, _, 5, .eth 1, 0, 0, rfl⟩
theorem witness_FramesOfGearboxPowerAndSafety :
    ∃ (s t : State) (dt : Nat) (who : Requester) (v : BitVec 8), exec (.axleModeWrite dt who v) s = .next t :=
  ⟨up, _, 5, .eth 1, 0, rfl⟩
theorem witness_FramesOfNetworksAndImages :
    ∃ (s t : State) (dt : Nat) (c : Fin 4) (slot : Fin 16), exec (.canSlotStale dt c slot) s = .next t :=
  ⟨up, _, 5, 1, 3, rfl⟩
theorem witness_FramesOfReactionsPowertrain :
    ∃ (s t : State) (dt : Nat) (l : Link), exec (.linkLossIslandC dt l) s = .next t := ⟨up, _, 5, .t, rfl⟩
theorem witness_FramesOfReactionsVehicle :
    ∃ (s t : State) (dt : Nat), exec (.dabStopLowLink dt) s = .next t := ⟨up, _, 5, rfl⟩

/-! ### WellFormed refuses what cannot occur -/

theorem test_wf_arming_offsets : Instr.wf (.armingStepComplete 5 0 (.offsets [([8192], [0])])) = false := by decide +kernel
theorem test_wf_arming_bootstraps : Instr.wf (.armingStepComplete 5 0 (.bootstraps [] [])) = false := by decide +kernel
theorem test_wf_selftest : Instr.wf (.selftestComplete 5 4 15 0) = false := by decide +kernel
theorem test_wf_recalibration : Instr.wf (.offsetRecalibrationComplete 5 0 [] []) = false := by decide +kernel
theorem test_wf_axis : Instr.wf (.axisDecision 5 0 [0, 0] [] 0) = false := by decide +kernel
theorem test_wf_axis_codes : Instr.wf (.axisDecision 5 0 [8192, 0, 0] [0, 0, 0] 0) = false := by decide +kernel
theorem test_wf_recalibration_full : Instr.wf (.offsetRecalibrationComplete 5 0 (List.replicate 16 0) [0]) = false := by
  decide +kernel
theorem test_wf_stage : Instr.wf (.stagePeriodStart ⟨5, [], []⟩ 8) = false := by decide +kernel
theorem test_wf_port_datagram : Instr.wf (.hspInvalidOp 5 0 0 (.datagram (List.replicate 1473 0))) = false := by decide +kernel
theorem test_wf_port_echo : Instr.wf (.hspInvalidOp 5 0 0 (.echoRequest 0 (List.replicate 1473 0))) = false := by decide +kernel
theorem test_wf_hsf : Instr.wf (.hsfDataFrameReceive 5 0 (List.replicate 1473 0)) = false := by decide +kernel
theorem test_wf_hsf_echo : Instr.wf (.hsfEchoReceive 5 0 (List.replicate 1473 0)) = false := by decide +kernel
theorem test_wf_can_identifier : Instr.wf (.canFrameReceive 5 0 ⟨0x800, false, false, false, []⟩ 0) = false := by decide +kernel
theorem test_wf_can_length : Instr.wf (.canFrameReceive 5 0 ⟨0, false, true, false, List.replicate 9 0⟩ 0) = false := by decide +kernel
theorem test_wf_can_brs : Instr.wf (.canFrameReceive 5 0 ⟨0, false, false, true, []⟩ 0) = false := by decide +kernel
theorem test_wf_time_reference : Instr.wf (.timeReferenceReceive 5 (List.replicate 9 0) 0) = false := by decide +kernel
theorem test_wf_can_a : Instr.wf (.canACommand 5 0 (List.replicate 9 0)) = false := by decide +kernel
theorem test_wf_sdo : Instr.wf (.sdoRequest 5 (.download 0x2600 3 [])) = false := by decide +kernel
theorem test_wf_sdo_segment : Instr.wf (.sdoRequest 5 (.downloadSegment false (List.replicate 8 0) true)) = false := by
  decide +kernel
theorem test_wf_hsp : Instr.wf (.hspRead 5 0 0 (List.replicate 1473 0)) = false := by decide +kernel
theorem test_wf_tftp : Instr.wf (.tftpDataReceive 5 0 0 (List.replicate 1473 0) true) = false := by decide +kernel
theorem test_wf_capture : Instr.wf (.captureReadData 5 (.eth 0) 1025) = false := by decide +kernel
theorem test_wf_accepts : Instr.wf (.canFrameReceive 5 0 ⟨0x7FF, false, true, true, List.replicate 64 0⟩ 0) = true := by
  decide +kernel

/-! ### Worked values -/

/-- FIPS 180-4's message "abc". -/
theorem test_sha256_abc : (sha256 [0x61, 0x62, 0x63]).take 8 = [0xba, 0x78, 0x16, 0xbf, 0x8f, 0x01, 0xcf, 0xea] := by
  decide +kernel
/-- RFC 4231, test case 2. -/
theorem test_hmac_rfc4231 :
    (hmacSha256 [0x4a, 0x65, 0x66, 0x65] ("what do ya want for nothing?".toList.map fun c => BitVec.ofNat 8 c.toNat)).take 4 =
      [0x5b, 0xdc, 0xc1, 0x46] := by
  decide +kernel
/-- The check value of CRC-32C over "123456789". -/
theorem test_crc32c : crc32c ((List.range 9).map fun i => BitVec.ofNat 8 (0x31 + i)) = 0xE3069283 := by decide +kernel
/-- The example after R102. -/
theorem test_correctSample : correctSample 2517 13 0x80A4 = (2517, false) := by decide +kernel
/-- The example after R444: fold-in byte 0x5A, then 0x01 and 0x02. -/
theorem test_crc_fold :
    let c : CrcCfg := ⟨8, 7, 0, 0, false, false⟩
    crcBytes c 0 [0x5A] = 0x81 ∧ crcBytes c 0x81 [1] = 0x89 ∧ crcBytes c 0x81 [1, 2] = 0xB8 ∧ crcBytes c 0 [1, 2] = 0x1B := by
  decide +kernel
/-- Table 17.6: SEQ 0x0001 after 0xFFFD is accepted with two lost, the same value again is a repeat. -/
theorem test_table_17_6 :
    ((inRun 0xFFFD).hsfFrame 3 1 0 [] none).1.nat (Od.HSF_LOST 3) = 2 ∧
    (((inRun 0xFFFD).hsfFrame 3 1 0 [] none).1.hsfFrame 3 1 0 [] none).1.nat (Od.HSF_REPEATS 3) = 1 := by
  decide +kernel
/-- R99: the single of value 1.5. -/
theorem test_single : f32Decode 0x3FC00000#32 = some (3 / 2) := by decide +kernel

end Sys2Proof.Tests
end

section
/-! PROOFS. A device reset and the release of reset (R44, R50, R51, R55): what a reset leaves of the objects and of bring-up,
what the release does to them, and that every reset aborts the trim load without counting it as failed. -/
namespace Sys2Proof.Machine
open Sys2Proof

/-! ### A device held in reset -/

/-- Held in reset: bring-up has not begun, no drive has left UNAVAILABLE and no loop unit runs. -/
structure State.heldInReset (s : State) : Prop where
  step : s.bringup.step = 0
  latch : s.bringup.resetLatch = true
  drives : s.drives = Vector.replicate 6 {}
  lus : s.lus = Vector.replicate 24 {}

/-- An update of objects or of the service paths leaves the device held. -/
theorem State.heldInReset.of_parts {s t : State} (h : s.heldInReset) (hb : t.bringup = s.bringup) (hd : t.drives = s.drives)
    (hl : t.lus = s.lus) : t.heldInReset :=
  ⟨hb ▸ h.step, hb ▸ h.latch, hd ▸ h.drives, hl ▸ h.lus⟩

theorem State.heldInReset.setN {s : State} (h : s.heldInReset) (k v : Nat) : (s.setN k v).heldInReset :=
  h.of_parts rfl rfl rfl

theorem State.heldInReset.setBit {s : State} (h : s.heldInReset) (k i : Nat) (b : Bool) : (s.setBit k i b).heldInReset :=
  h.of_parts rfl rfl rfl

theorem State.heldInReset.ds {s : State} (h : s.heldInReset) (d : Drive) : s.ds d = .unavailable := by
  rw [State.ds, State.drv, h.drives, Vector.get_eq_getElem, Vector.getElem_replicate]

theorem State.heldInReset.lu {s : State} (h : s.heldInReset) (n : Fin 24) : s.lu n = {} := by
  rw [State.lu, h.lus, Vector.get_eq_getElem, Vector.getElem_replicate]

/-- A unit that neither runs nor may run settles as it is. -/
theorem State.heldInReset.luSettle {s : State} (h : s.heldInReset) (n : Fin 24) : s.luSettle n = s := by
  have hrun : s.luCanRun n = false := by simp [State.luCanRun, h.ds]
  simp [State.luSettle, State.stopUnit, hrun, h.lu]

theorem State.heldInReset.auxUnits {s : State} (h : s.heldInReset) : s.auxUnits = s.setBit Od.LV_LV_STATUS 6 false := by
  simp [State.auxUnits, h.luSettle, h.lu]

/-- With no unit to stop or start, the battery switch takes a mode in three objects alone. -/
theorem State.heldInReset.setBatSw {s : State} (h : s.heldInReset) (m : Nat) :
    s.setBatSw m = ((s.setN Od.LV_BAT_SW_MODE m).setBit Od.BKP_BKP15 0 (decide (m ≠ 0))).setBit Od.LV_LV_STATUS 6 false :=
  ((h.setN Od.LV_BAT_SW_MODE m).setBit Od.BKP_BKP15 0 (decide (m ≠ 0))).auxUnits

/-! ### What a reset leaves of the objects (R8, R57) -/

theorem State.nat_of_get {s t : State} {k : Nat} (h : t.get k = s.get k) : t.nat k = s.nat k := by
  rw [State.nat, State.nat, h]

theorem State.get_setN_ne (s : State) (k j v : Nat) (h : j ≠ k) : (s.setN k v).get j = s.get j := s.get_set_ne k j _ h

/-- Removing entries of other keys leaves the first entry of a key. -/
theorem storeFind_filter (p : Nat → Bool) (k : Nat) (l : List (Nat × Val)) :
    storeFind k (l.filter fun e => p e.1) = if p k then storeFind k l else none := by
  induction l with
  | nil => simp [storeFind]
  | cons e t ih =>
    obtain ⟨a, v⟩ := e
    by_cases hak : a = k
    · subst hak
      cases hp : p a <;> simp [storeFind, hp, ih]
    · cases hp : p a <;> simp [storeFind, hp, hak, ih]

theorem State.cleared_heldInReset (s : State) (cause : Nat) : (s.cleared cause).heldInReset := ⟨rfl, rfl, rfl, rfl⟩

theorem State.get_cleared (s : State) (cause k : Nat) :
    (s.cleared cause).get k = if keptKey k then s.get k else dictDefault k := by
  show (storeFind k (s.od.filter fun e => keptKey e.1)).getD (dictDefault k) = _
  rw [storeFind_filter]
  split <;> rfl

/-- A safety set moves objects of access SAFE alone (R418). -/
theorem State.get_takeNewSet (s : State) (o : Option (List (Nat × Val) × Nat)) {k : Nat} (hk : safeKey k = false) :
    (s.takeNewSet o).get k = s.get k := by
  cases o with
  | none => rfl
  | some x =>
    refine State.each_same (fun t => t.get k) x.1 (fun e t => ?_) s
    split
    · next he => exact t.get_set_ne _ _ _ fun h => by simp [h, he] at hk
    · rfl

theorem State.heldInReset.takeNewSet {s : State} (h : s.heldInReset) (o : Option (List (Nat × Val) × Nat)) :
    (s.takeNewSet o).heldInReset := by
  cases o with
  | none => exact h
  | some x =>
    refine State.each_keeps x.1 (fun e _ t ht => ?_) s h
    split
    · exact ht.of_parts rfl rfl rfl
    · exact ht

theorem State.heldInReset.keepOverflows {s : State} (h : s.heldInReset) (old : State) : (s.keepOverflows old).heldInReset :=
  h.of_parts rfl rfl rfl

theorem State.get_keepOverflows (s old : State) {k : Nat} (hk : noReset k) : (s.keepOverflows old).get k = s.get k := by
  obtain ⟨-, -, hmap, -, -, -, hbring, -⟩ := hk
  simp only [State.keepOverflows, State.get_setBit_ne _ _ _ _ _ hmap, State.get_setBit_ne _ _ _ _ _ hbring]

/-- The battery switch and the supply of VR take a state while the device is held. -/
theorem State.heldInReset.batSw_vrSource {s : State} (h : s.heldInReset) (m v : Nat) :
    ((s.setBatSw m).setVrSource v).heldInReset ∧
      ∀ k, noReset k → ((s.setBatSw m).setVrSource v).get k = s.get k := by
  rw [h.setBatSw]
  refine ⟨h.of_parts rfl rfl rfl, fun k hk => ?_⟩
  obtain ⟨-, h15, -, hmode, hlv, hvr, -⟩ := hk
  simp only [State.setVrSource, State.get_setN_ne _ _ _ _ hvr, State.get_setBit_ne _ _ _ _ _ hlv,
    State.get_setBit_ne _ _ _ _ _ h15, State.get_setN_ne _ _ _ _ hmode]

theorem State.heldInReset.restoreSwitch {s : State} (h : s.heldInReset) :
    s.restoreSwitch.heldInReset ∧ ∀ k, noReset k → s.restoreSwitch.get k = s.get k := by
  obtain ⟨hheld, hget⟩ := (h.setBit Od.LV_LV_STATUS 11 (s.bit Od.BKP_BKP15 2)).batSw_vrSource _ _
  refine ⟨hheld, fun k hk => (hget k hk).trans ?_⟩
  obtain ⟨-, -, -, -, hlv, -⟩ := hk
  exact s.get_setBit_ne _ _ _ _ hlv

theorem State.heldInReset.retainedPeat {s : State} (h : s.heldInReset) : s.retainedPeat.heldInReset := by
  unfold State.retainedPeat
  split
  · exact h.of_parts rfl rfl rfl
  · exact h

theorem State.get_retainedPeat (s : State) (k : Nat) : s.retainedPeat.get k = s.get k := by
  unfold State.retainedPeat
  split <;> rfl

theorem State.heldInReset.showSupply {s : State} (h : s.heldInReset) : s.showSupply.heldInReset := h.of_parts rfl rfl rfl

theorem State.get_showSupply (s : State) {k : Nat} (hk : k ≠ Od.SUP_SUPPLY_STATUS) : s.showSupply.get k = s.get k := by
  simp only [State.showSupply, State.get_setBit_ne _ _ _ _ _ hk]

/-- A device reset leaves the device held; an object that it does not set itself is kept, or has its default again. -/
theorem State.mainReset_spec (s : State) (cause : Nat) :
    (s.mainReset cause).heldInReset ∧ ∀ k, noReset k → safeKey k = false →
      (s.mainReset cause).get k = if keptKey k then s.get k else dictDefault k := by
  have h0 := (((s.cleared_heldInReset cause).takeNewSet s.safety.newSet).setN Od.BKP_BKP14
    (s.timebase / 2 ^ 32 % 2 ^ 32)).keepOverflows s
  obtain ⟨hheld, hget⟩ := ((h0.setBit Od.SUP_SUPPLY_STATUS 3 (s.bit Od.SUP_SUPPLY_STATUS 3)).setBit Od.LV_LV_STATUS 2
    s.path.svcTb.isSome).restoreSwitch
  refine ⟨hheld.retainedPeat.showSupply, fun k hk hsafe => ?_⟩
  obtain ⟨h14, -, -, -, hlv, -, -, -, hsup⟩ := id hk
  rw [State.mainReset, State.get_showSupply _ hsup, State.get_retainedPeat, hget k hk, State.get_setBit_ne _ _ _ _ _ hlv,
    State.get_setBit_ne _ _ _ _ _ hsup, State.get_keepOverflows _ _ hk, State.get_setN_ne _ _ _ _ h14,
    State.get_takeNewSet _ _ hsafe, State.get_cleared]

/-- The same of every cause: the system reset moves the battery switch and the sources besides (Table 13.18). -/
theorem State.resetNow_spec (s : State) (cause : Nat) :
    (s.resetNow cause).heldInReset ∧ ∀ k, noReset k → safeKey k = false →
      (s.resetNow cause).get k = if keptKey k then s.get k else dictDefault k := by
  unfold State.resetNow
  split
  · obtain ⟨hheld, hget⟩ := (s.modPath fun p => { p with sysTb := some 0 }).mainReset_spec 4
    obtain ⟨hheld', hget'⟩ := hheld.batSw_vrSource 0 0
    refine ⟨hheld'.setN _ _, fun k hk hsafe => ?_⟩
    obtain ⟨-, -, -, -, -, -, -, hsrc, -⟩ := id hk
    rw [State.get_setN_ne _ _ _ _ hsrc, hget' k hk, hget k hk hsafe]
    rfl
  · exact s.mainReset_spec cause

/-! ### The release of reset (R55) -/

/-- An object that the release of reset does not set: it records RESET_CAUSE and counts the reset, and the power-on. -/
def noRelease (k : Nat) : Prop :=
  k ≠ Od.BKP_BKP12 ∧ k ≠ Od.CNT_CNT_OVF_MAP ∧ k ≠ Od.CNT_POWER_ON_COUNT ∧ k ≠ Od.RST_BRINGUP_STATUS ∧
    k ≠ Od.RST_RESET_CAUSE ∧ k ≠ Od.RST_RESET_COUNT

/-- What the release of reset from a state makes of bring-up, and the objects that it leaves: the trim load has started, and
no attempt of it has failed. -/
structure State.released (s t : State) : Prop where
  bringup : t.bringup =
    { s.bringup with step := 1, releaseTb := s.tb, resetLatch := false, deferredUs := none, trimAttempts := 0 }
  get : ∀ k, noRelease k → t.get k = s.get k

theorem State.released.setN {s t : State} (h : s.released t) {k : Nat} (hk : ¬ noRelease k) (v : Nat) :
    s.released (t.setN k v) where
  bringup := h.bringup
  get j hj := (t.get_setN_ne k j v fun e => hk (e ▸ hj)).trans (h.get j hj)

theorem State.released.event {s t : State} (h : s.released t) (code source detail : Nat) :
    s.released (t.event code source detail) := ⟨h.bringup, h.get⟩

theorem State.count_bringup (s : State) (c : Counter) : (s.count c).bringup = s.bringup :=
  congrArg State.bringup (a₁ := { s.count c with od := s.od }) (s.countBy_parts c 1)

theorem State.released.countReset {s t : State} (h : s.released t) : s.released (t.count ctrResets) where
  bringup := (t.count_bringup _).trans h.bringup
  get k hk := by
    obtain ⟨-, hmap, -, hflag, -, hkey⟩ := id hk
    exact (t.get_count_ne ctrResets k hkey hflag hmap).trans (h.get k hk)

theorem State.released.countPowerOn {s t : State} (h : s.released t) : s.released t.countPowerOn := by
  unfold State.countPowerOn
  dsimp only
  split
  · exact h.setN (k := Od.CNT_POWER_ON_COUNT) (by simp [noRelease]) _
  · exact ⟨h.bringup, h.get⟩

/-- The reset is counted, the power-on too, and a reset of the always-on domain is logged. -/
theorem State.released.counted {s t : State} (h : s.released t) (power aon : Bool) :
    s.released (((t.count ctrResets).when power fun t => t.countPowerOn).when aon fun t => t.event 0x010A 0xFF 0) :=
  State.when_keeps aon (fun _ ht => ht.event _ _ _) _ (State.when_keeps power (fun _ ht => ht.countPowerOn) _ h.countReset)

theorem State.startBringup_released (s : State) : s.released s.startBringup := by
  have hcause : ¬ noRelease Od.RST_RESET_CAUSE := by simp [noRelease]
  have h12 : ¬ noRelease Od.BKP_BKP12 := by simp [noRelease]
  have hbase : s.released ({ s with cells := Vector.replicate 15 {}, legs := Vector.replicate 50 {} }.modBringup fun b =>
      { b with step := 1, releaseTb := s.tb, resetLatch := false, deferredUs := none, trimAttempts := 0 }) :=
    ⟨rfl, fun _ _ => rfl⟩
  unfold State.startBringup
  dsimp only
  split
  · exact (((hbase.setN hcause _).setN h12 _).counted _ _).event _ _ _
  · exact ((hbase.setN hcause _).setN h12 _).counted _ _

/-- A source supplies the held device: the release of reset begins bring-up. -/
theorem State.exec_nrstRelease_heldInReset {s : State} (h : s.heldInReset) (hs : s.bestSource ≠ 0) (dt : Nat) :
    exec (.nrstRelease dt) s = .next { (s.elapse dt).startBringup with pending := s.pending } := by
  have hrel : (s.elapse dt).nrstRelease = (s.elapse dt).startBringup := if_pos ⟨h.latch, hs⟩
  exact congrArg (reply s) hrel

/-! ### A reset during the trim load (R50, R51, R55) -/

theorem noReset_bkp13 : noReset Od.BKP_BKP13 := by simp [noReset]
theorem noRelease_bkp13 : noRelease Od.BKP_BKP13 := by simp [noRelease]
theorem safeKey_bkp13 : safeKey Od.BKP_BKP13 = false := by decide
theorem keptKey_bkp13 : keptKey Od.BKP_BKP13 = true := by decide

/-- The reset of a state whose failure count is that of `s` aborts the load of `s`. -/
theorem State.trimAborted_resetNow {s r : State} (hr : r.get Od.BKP_BKP13 = s.get Od.BKP_BKP13) (cause : Nat)
    (queue : List Instr) : s.trimAborted { r.resetNow cause with pending := queue } := by
  obtain ⟨hheld, hget⟩ := r.resetNow_spec cause
  have hkept : (r.resetNow cause).get Od.BKP_BKP13 = s.get Od.BKP_BKP13 := by
    rw [hget _ noReset_bkp13 safeKey_bkp13, if_pos keptKey_bkp13, hr]
  have hheld' : State.heldInReset { r.resetNow cause with pending := queue } := hheld.of_parts rfl rfl rfl
  refine ⟨hheld.step, State.nat_of_get hkept, fun dt hs => ?_⟩
  obtain ⟨hb, hg⟩ := (State.elapse { r.resetNow cause with pending := queue } dt).startBringup_released
  refine ⟨_, State.exec_nrstRelease_heldInReset hheld' hs dt, ?_, ?_, ?_⟩
  · exact congrArg BringupSt.step hb
  · exact congrArg BringupSt.trimAttempts hb
  · exact State.nat_of_get ((hg _ noRelease_bkp13).trans hkept)

/-- nRST low for 5 µs or more, with no reset held or deferred and no program pulse in progress, resets at once (R50). -/
theorem State.nrst_resetNow {s : State} {ns : Nat} (hns : 5000 ≤ ns) (hlatch : s.bringup.resetLatch = false)
    (hdef : s.bringup.deferredTb = none) (hpulse : s.pulseEnd s.tb = none) : s.nrst ns = s.resetNow 3 := by
  have h1000 : ¬ ns < 1000 := by omega
  simp [State.nrst, State.resetDecision, hlatch, h1000, hns, hdef, hpulse]

/-- A deferred reset whose program pulse has ended is counted and proceeds, with the cause it came with (R51). -/
theorem State.deferredReset_resetNow {s : State} {t0 e : Nat} (hdef : s.bringup.deferredTb = some t0)
    (hend : s.pulseEnd t0 = some e) (he : e ≤ s.tb) :
    s.deferredReset = ((s.count ctrHoldoffs).modBringup fun b => { b with deferredUs := some ((e - t0) / 100) }).resetNow
      s.bringup.cause := by
  simp only [State.deferredReset, hdef, hend, if_pos he]

theorem State.get_countHoldoffs_bkp13 (s : State) (f : BringupSt → BringupSt) :
    ((s.count ctrHoldoffs).modBringup f).get Od.BKP_BKP13 = s.get Od.BKP_BKP13 :=
  (State.get_of_od (State.modBringup_od _ f) _).trans
    (s.get_count_ne ctrHoldoffs Od.BKP_BKP13 (by decide) (by decide) (by decide))

/-- Settles O54: each of the three resets comes to `State.resetNow`, which keeps BKP13 and holds the device for a release
that starts the trim load again. -/
theorem aResetAbortsTheTrimLoad : Obligations.AResetAbortsTheTrimLoad := by
  unfold Obligations.AResetAbortsTheTrimLoad
  intro s dt _ _
  refine ⟨fun ns hns hlatch hdef hpulse => ?_, fun t0 e hdef hend he => ?_, fun hrail => ?_⟩
  · have hreset : (s.elapse dt).nrst ns = (s.elapse dt).resetNow 3 := State.nrst_resetNow hns hlatch hdef hpulse
    exact ⟨_, congrArg (reply s) hreset, State.trimAborted_resetNow rfl 3 _⟩
  · have hreset := State.deferredReset_resetNow (s := s.elapse dt) hdef hend he
    have hkept := (State.get_countHoldoffs_bkp13 (s.elapse dt) fun b => { b with
      deferredUs := some ((e - t0) / 100) }).trans (State.get_of_od (s.elapse_od dt) _)
    exact ⟨_, congrArg (reply s) hreset, State.trimAborted_resetNow hkept _ _⟩
  · have hreset : (if (s.elapse dt).railFalls then (s.elapse dt).mainReset 2 else s.elapse dt) = (s.elapse dt).resetNow 2 :=
      if_pos hrail
    exact ⟨_, congrArg (reply s) hreset, State.trimAborted_resetNow rfl 2 _⟩

end Sys2Proof.Machine
end

section
/-! PROOFS. Sequence acceptance of a consumer in RUN (R430, Tables 17.3 and 17.4): the objects that each part of an
acceptance changes, and what a frame comes to by the distance of its sequence value. -/
namespace Sys2Proof.Machine
open Sys2Proof

/-! ### The objects that a connection's operations change -/

/-- Two different objects of one connection. -/
theorem connObject_ne {a b : Nat} (n : Nat) (h : a ≠ b) : a + 256 * n ≠ b + 256 * n := by omega

theorem connObject_ne_ovfMap {a : Nat} (n : Nat) (h : Od.CNT_CNT_OVF_MAP < a) : a + 256 * n ≠ Od.CNT_CNT_OVF_MAP := by omega

theorem State.get_modConn (s : State) (c : Fin 16) (f : ConnSt → ConnSt) (j : Nat) : (s.modConn c f).get j = s.get j := rfl

theorem State.get_connEvent (s : State) (code : Nat) (c : Fin 16) (cause j : Nat) :
    (s.connEvent code c cause).get j = s.get j := rfl

/-- A discard is kept with the connection and logged; it changes no object. -/
theorem State.get_hsfDiscard (s : State) (c : Fin 16) (cause j : Nat) : (s.hsfDiscard c cause).get j = s.get j := by
  unfold State.hsfDiscard
  dsimp only
  split
  · rfl
  · rw [State.get_connEvent, State.get_modConn]

theorem State.connState_connFault (s : State) (c : Fin 16) (cause : Nat) : (s.connFault c cause).connState c = 3 :=
  (State.nat_setN _ _ _ _).trans (if_pos rfl)

theorem State.get_connFault_ne (s : State) (c : Fin 16) (cause : Nat) {j : Nat} (hcount : j ≠ Od.HSF_CONN_FAULTS c)
    (hflag : j ≠ Od.HSF_CONN_CNT_STATUS c) (hmap : j ≠ Od.CNT_CNT_OVF_MAP) (hstate : j ≠ Od.HSF_CONN_STATE c) :
    (s.connFault c cause).get j = s.get j :=
  (State.get_setN_ne _ _ _ _ hstate).trans (State.get_count_ne s _ j hcount hflag hmap)

/-- An acceptance changes three objects: the frames accepted, the last value and, in GLOBAL mode, the last age. -/
theorem State.get_hsfAccept_ne (s : State) (c : Fin 16) (seq ptime : Nat) (gt : Option Nat) {j : Nat}
    (hok : j ≠ Od.HSF_FRAMES_OK c) (hseq : j ≠ Od.HSF_LAST_SEQ c) (hage : j ≠ Od.HSF_LAST_AGE_us c) :
    (s.hsfAccept c seq ptime gt).get j = s.get j := by
  have hkept : ((s.countWide (Od.HSF_FRAMES_OK c)).setN (Od.HSF_LAST_SEQ c) seq).get j = s.get j :=
    (State.get_setN_ne _ _ _ _ hseq).trans (State.get_setN_ne _ _ _ _ hok)
  unfold State.hsfAccept
  dsimp only
  rw [State.get_modConn]
  split
  · exact (State.get_set_ne _ _ _ _ hage).trans hkept
  · exact hkept

theorem State.nat_hsfAccept_lastSeq (s : State) (c : Fin 16) (seq ptime : Nat) (gt : Option Nat) :
    (s.hsfAccept c seq ptime gt).nat (Od.HSF_LAST_SEQ c) = seq := by
  have hset : ((s.countWide (Od.HSF_FRAMES_OK c)).setN (Od.HSF_LAST_SEQ c) seq).nat (Od.HSF_LAST_SEQ c) = seq :=
    (State.nat_setN _ _ _ _).trans (if_pos rfl)
  unfold State.hsfAccept
  dsimp only
  rw [State.nat_of_get (State.get_modConn _ _ _ _)]
  split
  · exact (State.nat_of_get (State.get_set_ne _ _ _ _ (connObject_ne c (by decide)))).trans hset
  · exact hset

theorem State.get_hsfWrap_ne (s : State) (c : Fin 16) {j : Nat} (hwraps : j ≠ Od.HSF_SEQ_WRAPS c) :
    (s.hsfWrap c).get j = s.get j := by
  have hkept : (s.countWide (Od.HSF_SEQ_WRAPS c)).get j = s.get j := State.get_setN_ne _ _ _ _ hwraps
  unfold State.hsfWrap
  dsimp only
  split
  · exact hkept
  · rw [State.get_connEvent, State.get_modConn, hkept]

theorem State.get_hsfPayload (s : State) (c : Fin 16) (payload : List Byte) (j : Nat) :
    (s.hsfPayload c payload).1.get j = s.get j := by
  unfold State.hsfPayload
  dsimp only
  split <;> rfl

/-! ### A frame in RUN by its distance (Table 17.3) -/

/-- The model's distance is R430's k = (s − p) mod 65,535. -/
theorem seqDistance_eq {seq p k : Nat} (hp : p ≤ 65535) (hk : (k : Int) = ((seq : Int) - (p : Int)) % 65535) :
    seqDistance seq p = k := by
  unfold seqDistance
  omega

theorem State.nat_countBy (s : State) (c : Counter) (n : Nat) (h : s.nat c.key + n < 2 ^ c.width) :
    (s.countBy c n).nat c.key = s.nat c.key + n := by
  rw [State.countBy_of_lt s c n h, State.nat_setN, if_pos rfl]

/-- The frames that a span of `d` passes over are counted as lost. -/
def State.countLost (s : State) (c : Fin 16) (d : Nat) : State :=
  s.when (decide (1 < d)) fun s => s.countBy (ctrConn Od.HSF_LOST 32 3 c) (d - 1)

theorem State.get_countLost_ne (s : State) (c : Fin 16) (d : Nat) {j : Nat} (hlost : j ≠ Od.HSF_LOST c)
    (hflag : j ≠ Od.HSF_CONN_CNT_STATUS c) (hmap : j ≠ Od.CNT_CNT_OVF_MAP) : (s.countLost c d).get j = s.get j :=
  State.when_same (fun t => t.get j) _ (fun t => t.get_countBy_ne _ _ j hlost hflag hmap) s

theorem State.nat_countLost (s : State) (c : Fin 16) {d : Nat} (h : s.nat (Od.HSF_LOST c) + (d - 1) < 2 ^ 32) :
    (s.countLost c d).nat (Od.HSF_LOST c) = s.nat (Od.HSF_LOST c) + (d - 1) := by
  unfold State.countLost
  by_cases hd : 1 < d
  · rw [decide_eq_true hd, State.when_true]
    exact s.nat_countBy (ctrConn Od.HSF_LOST 32 3 c) (d - 1) h
  · rw [decide_eq_false hd, State.when_false]
    omega

section
variable {s : State} {c : Fin 16} (hrun : s.connState c = 2)
include hrun

theorem State.connState_hsfFrame_restart {ptime : Nat} {gt : Option Nat} (hok : s.hsfTimeOk c gt ptime none = true)
    (payload : List Byte) : (s.hsfFrame c 0 ptime payload gt).1.connState c = 1 := by
  have hget : (s.hsfFrame c 0 ptime payload gt).1.get (Od.HSF_CONN_STATE c) =
      (s.setN (Od.HSF_CONN_STATE c) 1).get (Od.HSF_CONN_STATE c) := by
    simp only [State.hsfFrame, hok, hrun, Bool.not_true, Bool.false_eq_true, if_true, if_false]
    rw [State.get_connEvent, State.get_modConn, State.get_hsfAccept_ne _ c 0 ptime gt (connObject_ne c (by decide))
      (connObject_ne c (by decide)) (connObject_ne c (by decide)), State.get_modConn]
  exact (State.nat_of_get hget).trans ((State.nat_setN _ _ _ _).trans (if_pos rfl))

variable {seq : Nat} (hseq : seq ≠ 0)
include hseq

theorem State.hsfFrame_repetition (hd : seqDistance seq (s.nat (Od.HSF_LAST_SEQ c)) = 0) (ptime : Nat) (payload : List Byte)
    (gt : Option Nat) :
    s.hsfFrame c seq ptime payload gt = ((s.count (ctrConn Od.HSF_REPEATS 32 2 c)).hsfDiscard c 6, false) := by
  simp only [State.hsfFrame, hseq, hrun, hd, if_true, if_false]

theorem State.hsfFrame_beyond_window
    (hd : s.nat (Od.HSF_SEQ_WIN c) < seqDistance seq (s.nat (Od.HSF_LAST_SEQ c))) (ptime : Nat) (payload : List Byte)
    (gt : Option Nat) : s.hsfFrame c seq ptime payload gt = ((s.hsfDiscard c 2).connFault c 2, false) := by
  have hpos : seqDistance seq (s.nat (Od.HSF_LAST_SEQ c)) ≠ 0 := by omega
  simp only [State.hsfFrame, hseq, hrun, hpos, hd, if_true, if_false]

/-- Within the window the loss is counted and the frame accepted; a wrap and the payload change no object but SEQ_WRAPS. -/
theorem State.get_hsfFrame_within_window {d ptime : Nat} {gt : Option Nat}
    (hd : seqDistance seq (s.nat (Od.HSF_LAST_SEQ c)) = d) (hpos : 1 ≤ d) (hwin : d ≤ s.nat (Od.HSF_SEQ_WIN c))
    (hok : s.hsfTimeOk c gt ptime (s.conn c).ptime = true) (payload : List Byte) {j : Nat} (hwraps : j ≠ Od.HSF_SEQ_WRAPS c) :
    (s.hsfFrame c seq ptime payload gt).1.get j = ((s.countLost c d).hsfAccept c seq ptime gt).get j := by
  have hne : d ≠ 0 := by omega
  have hin : ¬ s.nat (Od.HSF_SEQ_WIN c) < d := by omega
  simp only [State.hsfFrame, hseq, hrun, hd, hne, hin, hok, Bool.not_true, Bool.false_eq_true, if_false,
    State.get_hsfPayload]
  split
  · exact State.get_hsfWrap_ne _ c hwraps
  · rfl

end

/-! ### The rows of Table 17.3 -/

section
variable {s : State} {c : Fin 16} (hrun : s.connState c = 2) {seq : Nat} (hseq : seq ≠ 0)
include hrun hseq

/-- A repetition changes nothing of the acceptance but REPEATS and is no fault. -/
theorem State.hsfFrame_repetition_outcome (hd : seqDistance seq (s.nat (Od.HSF_LAST_SEQ c)) = 0) (ptime : Nat)
    (payload : List Byte) (gt : Option Nat) :
    (s.hsfFrame c seq ptime payload gt).1.connState c = 2 ∧
      (s.hsfFrame c seq ptime payload gt).1.nat (Od.HSF_LAST_SEQ c) = s.nat (Od.HSF_LAST_SEQ c) ∧
      (s.hsfFrame c seq ptime payload gt).2 = false ∧
      (s.nat (Od.HSF_REPEATS c) + 1 < 2 ^ 32 →
        (s.hsfFrame c seq ptime payload gt).1.nat (Od.HSF_REPEATS c) = s.nat (Od.HSF_REPEATS c) + 1) := by
  rw [State.hsfFrame_repetition hrun hseq hd]
  have hdiscard : ∀ j, ((s.count (ctrConn Od.HSF_REPEATS 32 2 c)).hsfDiscard c 6).nat j =
      (s.count (ctrConn Od.HSF_REPEATS 32 2 c)).nat j := fun j => State.nat_of_get (State.get_hsfDiscard _ c 6 j)
  have hstate := s.get_count_ne (ctrConn Od.HSF_REPEATS 32 2 c) (Od.HSF_CONN_STATE c) (connObject_ne c (by decide))
    (connObject_ne c (by decide)) (connObject_ne_ovfMap c (by decide))
  have hlast := s.get_count_ne (ctrConn Od.HSF_REPEATS 32 2 c) (Od.HSF_LAST_SEQ c) (connObject_ne c (by decide))
    (connObject_ne c (by decide)) (connObject_ne_ovfMap c (by decide))
  exact ⟨((hdiscard _).trans (State.nat_of_get hstate)).trans hrun, (hdiscard _).trans (State.nat_of_get hlast), rfl,
    fun hroom => (hdiscard _).trans (s.nat_count (ctrConn Od.HSF_REPEATS 32 2 c) hroom)⟩

/-- A frame within the window becomes the last accepted one, and the values passed over count as lost. -/
theorem State.hsfFrame_within_window_outcome {d ptime : Nat} {gt : Option Nat}
    (hd : seqDistance seq (s.nat (Od.HSF_LAST_SEQ c)) = d) (hpos : 1 ≤ d) (hwin : d ≤ s.nat (Od.HSF_SEQ_WIN c))
    (hok : s.hsfTimeOk c gt ptime (s.conn c).ptime = true) (payload : List Byte) :
    (s.hsfFrame c seq ptime payload gt).1.connState c = 2 ∧
      (s.hsfFrame c seq ptime payload gt).1.nat (Od.HSF_LAST_SEQ c) = seq ∧
      (s.nat (Od.HSF_LOST c) + (d - 1) < 2 ^ 32 →
        (s.hsfFrame c seq ptime payload gt).1.nat (Od.HSF_LOST c) = s.nat (Od.HSF_LOST c) + (d - 1)) := by
  have hframe : ∀ j, j ≠ Od.HSF_SEQ_WRAPS c → (s.hsfFrame c seq ptime payload gt).1.nat j =
      ((s.countLost c d).hsfAccept c seq ptime gt).nat j := fun j hwraps =>
    State.nat_of_get (State.get_hsfFrame_within_window hrun hseq hd hpos hwin hok payload hwraps)
  have haccept : ∀ j, j ≠ Od.HSF_FRAMES_OK c → j ≠ Od.HSF_LAST_SEQ c → j ≠ Od.HSF_LAST_AGE_us c →
      ((s.countLost c d).hsfAccept c seq ptime gt).nat j = (s.countLost c d).nat j := fun j hframes hlast hage =>
    State.nat_of_get (State.get_hsfAccept_ne _ c seq ptime gt hframes hlast hage)
  have hstate := s.get_countLost_ne c d (j := Od.HSF_CONN_STATE c) (connObject_ne c (by decide)) (connObject_ne c (by decide))
    (connObject_ne_ovfMap c (by decide))
  refine ⟨?_, ?_, fun hroom => ?_⟩
  · calc (s.hsfFrame c seq ptime payload gt).1.nat (Od.HSF_CONN_STATE c)
      _ = ((s.countLost c d).hsfAccept c seq ptime gt).nat (Od.HSF_CONN_STATE c) := hframe _ (connObject_ne c (by decide))
      _ = (s.countLost c d).nat (Od.HSF_CONN_STATE c) :=
        haccept _ (connObject_ne c (by decide)) (connObject_ne c (by decide)) (connObject_ne c (by decide))
      _ = s.nat (Od.HSF_CONN_STATE c) := State.nat_of_get hstate
      _ = 2 := hrun
  · exact (hframe _ (connObject_ne c (by decide))).trans (State.nat_hsfAccept_lastSeq _ c seq ptime gt)
  · calc (s.hsfFrame c seq ptime payload gt).1.nat (Od.HSF_LOST c)
      _ = ((s.countLost c d).hsfAccept c seq ptime gt).nat (Od.HSF_LOST c) := hframe _ (connObject_ne c (by decide))
      _ = (s.countLost c d).nat (Od.HSF_LOST c) :=
        haccept _ (connObject_ne c (by decide)) (connObject_ne c (by decide)) (connObject_ne c (by decide))
      _ = s.nat (Od.HSF_LOST c) + (d - 1) := s.nat_countLost c hroom

/-- A frame beyond the window faults the connection, and the last accepted value stays. -/
theorem State.hsfFrame_beyond_window_outcome
    (hd : s.nat (Od.HSF_SEQ_WIN c) < seqDistance seq (s.nat (Od.HSF_LAST_SEQ c))) (ptime : Nat) (payload : List Byte)
    (gt : Option Nat) :
    (s.hsfFrame c seq ptime payload gt).1.connState c = 3 ∧
      (s.hsfFrame c seq ptime payload gt).1.nat (Od.HSF_LAST_SEQ c) = s.nat (Od.HSF_LAST_SEQ c) ∧
      (s.hsfFrame c seq ptime payload gt).2 = false := by
  rw [State.hsfFrame_beyond_window hrun hseq hd]
  have hlast := (s.hsfDiscard c 2).get_connFault_ne c 2 (j := Od.HSF_LAST_SEQ c) (connObject_ne c (by decide))
    (connObject_ne c (by decide)) (connObject_ne_ovfMap c (by decide)) (connObject_ne c (by decide))
  exact ⟨State.connState_connFault _ c 2, State.nat_of_get (hlast.trans (s.get_hsfDiscard c 2 _)), rfl⟩

end

/-- Settles O53: a SEQ of 0 restarts the connection; else the model's distance is R430's k, and k picks the row. -/
theorem sequenceAcceptanceInRun : Obligations.SequenceAcceptanceInRun := by
  unfold Obligations.SequenceAcceptanceInRun
  rintro s c seq _ ptime payload gt hrun - rfl hp
  refine ⟨fun hzero hok => ?_, fun k hseq _ hk => ?_⟩
  · subst hzero
    exact State.connState_hsfFrame_restart hrun hok payload
  · have hd := seqDistance_eq hp hk
    refine ⟨fun hsame => ?_, fun hpos hwin hok => ?_, fun hbeyond => ?_⟩
    · exact State.hsfFrame_repetition_outcome hrun hseq (hd.trans hsame) ptime payload gt
    · exact State.hsfFrame_within_window_outcome hrun hseq hd hpos hwin hok payload
    · exact State.hsfFrame_beyond_window_outcome hrun hseq (hd ▸ hbeyond) ptime payload gt

end Sys2Proof.Machine
end

section
/-! PROOFS. What an operation leaves alone: one relation between the state before and the state after, with the parts it may
change, the objects it leaves as they were, and whether it applies the queued writes of the loop units. -/
namespace Sys2Proof.Machine
open Sys2Proof
set_option Elab.async false

/-! ### The relation -/

/-- From `s` to `t` no part but those listed has changed, the objects in `free` read as before (with `q`: those that no loop
unit has queued), nothing has entered the queues of the loop units for them, and the invariant is kept. -/
structure State.Leaves (ps : List Part) (free : Nat → Prop) (q : Bool) (s t : State) : Prop where
  parts : s.changesOnly t ps
  objects : ∀ j, free j → (q = true → s.unqueued j) → t.get j = s.get j
  queue : ∀ j, free j → s.unqueued j → t.unqueued j
  inv : s.inv → t.inv

/-- The same of an effect that may refuse. -/
def OkLeaves (ps : List Part) (free : Nat → Prop) (q : Bool) (s : State) (r : Except Nat State) : Prop :=
  ∀ t, r = .ok t → State.Leaves ps free q s t

/-- The same of an effect that may refuse and also answers octets. -/
def OkPairLeaves {α : Type} (ps : List Part) (free : Nat → Prop) (q : Bool) (s : State) (r : Except Nat (State × α)) : Prop :=
  ∀ t, r = .ok t → State.Leaves ps free q s t.1

/-- The same of an effect that may be absent. -/
def SomeLeaves (ps : List Part) (free : Nat → Prop) (q : Bool) (s : State) (r : Option State) : Prop :=
  ∀ t, r = some t → State.Leaves ps free q s t

/-- The same of an effect that may be absent, on every state. -/
def FnLeaves (ps : List Part) (free : Nat → Prop) (q : Bool) (o : Option (State → Except Nat State)) : Prop :=
  ∀ f, o = some f → ∀ s, OkLeaves ps free q s (f s)

/-- The same of a command's answer. -/
def ResLeaves (ps : List Part) (free : Nat → Prop) (q : Bool) (s : State) (r : Res) : Prop :=
  ∀ t, r = .next t → State.Leaves ps free q s t

/-! Where the places of drives, legs and halves of a pair lie -/

theorem Drive.num_lt (d : Drive) : d.num < 6 := by cases d <;> decide
theorem Drive.num_lt_two {d : Drive} (h : d.isTraction = true) : d.num < 2 := by cases d <;> revert h <;> decide
theorem sideDrive_num (t : Fin 2) : (sideDrive t).num = t := by revert t; decide
theorem legCell_lt (l : Fin 50) : legCell l < 15 := by revert l; decide
theorem legPos_lt (l : Fin 50) : legPos l < 4 := by revert l; decide
theorem forall_lt_two {p : Nat → Prop} : (∀ x, x < 2 → p x) ↔ p 0 ∧ p 1 :=
  ⟨fun h => ⟨h 0 (by decide), h 1 (by decide)⟩, fun ⟨h0, h1⟩ x hx => by
    obtain rfl | rfl : x = 0 ∨ x = 1 := by omega
    · exact h0
    · exact h1⟩
theorem half_lt (n : Fin 8) : n.val / 2 < 4 := by omega

/-! What a write leaves of the bounds of the customer area, and a selection of the canonical form of the store -/

theorem Memory.erase_lt {N : Nat} (a : Nat) (m : List Host.Cell) (h : ∀ e ∈ m, e.1 < N) : ∀ e ∈ Memory.erase a m, e.1 < N := by
  induction m with
  | nil => exact h
  | cons c m ih =>
    obtain ⟨hc, hm⟩ := List.forall_mem_cons.1 h
    unfold Memory.erase
    split
    · exact ih hm
    · exact List.forall_mem_cons.2 ⟨hc, ih hm⟩

theorem Memory.insert_lt {N a : Nat} (v : Byte) (m : List Host.Cell) (ha : a < N) (h : ∀ e ∈ m, e.1 < N) :
    ∀ e ∈ Memory.insert a v m, e.1 < N := by
  induction m with
  | nil => exact List.forall_mem_cons.2 ⟨ha, nofun⟩
  | cons c m ih =>
    obtain ⟨hc, hm⟩ := List.forall_mem_cons.1 h
    unfold Memory.insert
    split
    · exact List.forall_mem_cons.2 ⟨ha, h⟩
    · split
      · exact List.forall_mem_cons.2 ⟨ha, hm⟩
      · exact List.forall_mem_cons.2 ⟨hc, ih hm⟩

theorem Memory.writeAll_lt {N : Nat} (l : List Byte) (m : List Host.Cell) (a : Nat) (ha : a + l.length ≤ N)
    (h : ∀ e ∈ m, e.1 < N) : ∀ e ∈ Memory.writeAll m a l, e.1 < N := by
  induction l generalizing m a with
  | nil => exact h
  | cons v l ih =>
    rw [List.length_cons] at ha
    refine ih _ _ (by omega) ?_
    unfold Memory.write
    split
    · exact Memory.erase_lt a m h
    · exact Memory.insert_lt v m (by omega) h

theorem storeWf_filter (p : Nat × Val → Bool) (l : List (Nat × Val)) (h : storeWf l = true) :
    storeWf (l.filter p) = true := by
  induction l with
  | nil => rfl
  | cons e l ih =>
    obtain ⟨k, v⟩ := e
    simp only [storeWf, Bool.and_eq_true] at h
    obtain ⟨⟨hv, hlt⟩, hl⟩ := h
    rw [List.filter_cons]
    split
    · simp only [storeWf, Bool.and_eq_true]
      exact ⟨⟨hv, List.all_eq_true.2 fun e he => List.all_eq_true.1 hlt e (List.mem_filter.1 he).1⟩, ih hl⟩
    · exact ih hl

theorem Part.same_refl (s : State) (p : Part) : p.same s s := by cases p <;> rfl
theorem Part.same_trans {s t u : State} {p : Part} (h : p.same s t) (g : p.same t u) : p.same s u := by
  cases p <;> exact Eq.trans g h

namespace State.Leaves
variable {ps ps' : List Part} {free free' : Nat → Prop} {q q' : Bool} {s t u : State}

theorem refl : Leaves ps free q s s := ⟨fun p _ => p.same_refl s, fun _ _ _ => rfl, fun _ _ h => h, fun h => h⟩

theorem trans (h : Leaves ps free q s t) (g : Leaves ps free q t u) : Leaves ps free q s u where
  parts p hn := Part.same_trans (h.parts p hn) (g.parts p hn)
  objects j hf hu := (g.objects j hf fun e => h.queue j hf (hu e)).trans (h.objects j hf hu)
  queue j hf hu := g.queue j hf (h.queue j hf hu)
  inv hi := g.inv (h.inv hi)

theorem mono (h : Leaves ps' free' q' s t) (hk : ∀ j, free j → free' j) (hp : ps' ⊆ ps) (hq : q' = true → q = true) :
    Leaves ps free q s t where
  parts p hn := h.parts p fun hm => hn (hp hm)
  objects j hf hu := h.objects j (hk j hf) fun e => hu (hq e)
  queue j hf hu := h.queue j (hk j hf) hu
  inv := h.inv

/-- One more operation, within the footprint of the whole. -/
theorem step (g : Leaves ps' free' q' t u) (h : Leaves ps free q s t)
    (hk : ∀ j, free j → free' j := by
      simp +contextual only [noAccess, ne_eq, not_false_eq_true, and_self, implies_true, false_implies,
        Fin.val_lt_of_le, Nat.reduceLeDiff, Nat.reduceLT, Drive.num_lt, Drive.num_lt_two, sideDrive_num, legCell_lt, legPos_lt, half_lt])
    (hp : ps' ⊆ ps := by decide) (hq : q' = true → q = true := by decide) : Leaves ps free q s u :=
  h.trans (g.mono hk hp hq)

/-- One more operation that moves objects of the reaction, within a footprint that leaves the reaction's objects open. -/
theorem stepR (g : Leaves ps' free' q' t u) (h : Leaves ps free q s t)
    (hk : ∀ j, free j → free' j := by
      simp +contextual only [noReaction, noAccess, ne_eq, not_false_eq_true, and_self, implies_true, false_implies,
        Fin.val_lt_of_le, Nat.reduceLeDiff, Nat.reduceLT, Drive.num_lt, Drive.num_lt_two, sideDrive_num, legCell_lt, legPos_lt, half_lt])
    (hp : ps' ⊆ ps := by decide) (hq : q' = true → q = true := by decide) : Leaves ps free q s u :=
  h.trans (g.mono hk hp hq)

theorem ite {c : Prop} [Decidable c] (ht : Leaves ps free q s t) (hu : Leaves ps free q s u) :
    Leaves ps free q s (if c then t else u) := by split <;> assumption

theorem dite {c : Prop} [Decidable c] {t : c → State} {u : ¬ c → State} (ht : ∀ h, Leaves ps free q s (t h))
    (hu : ∀ h, Leaves ps free q s (u h)) : Leaves ps free q s (if h : c then t h else u h) := by
  split
  · exact ht _
  · exact hu _

theorem iteOf {c : Prop} [Decidable c] (ht : c → Leaves ps free q s t) (hu : ¬ c → Leaves ps free q s u) :
    Leaves ps free q s (if c then t else u) := by
  split
  · exact ht ‹_›
  · exact hu ‹_›

theorem when {c : Bool} {f : State → State} (hf : ∀ u, Leaves ps free q u (f u)) (h : Leaves ps free q s t) :
    Leaves ps free q s (t.when c f) := by
  cases c
  · exact h
  · exact h.trans (hf t)

theorem each {α : Type} {l : List α} {f : α → State → State} (hf : ∀ a ∈ l, ∀ u, Leaves ps free q u (f a u))
    (h : Leaves ps free q s t) : Leaves ps free q s (t.each l f) :=
  State.each_keeps (P := fun u => Leaves ps free q s u) l (fun a ha _ hu => hu.trans (hf a ha _)) t h

theorem foldl {α β : Type} (g : β → State) {f : β → α → β} {l : List α} {b : β}
    (hf : ∀ a ∈ l, ∀ b, Leaves ps free q (g b) (g (f b a))) (h : Leaves ps free q s (g b)) :
    Leaves ps free q s (g (l.foldl f b)) := by
  induction l generalizing b with
  | nil => exact h
  | cons a l ih =>
    exact ih (fun a' ha' => hf a' (List.mem_cons_of_mem _ ha')) (h.trans (hf a (List.mem_cons_self ..) b))

/-- An operation that rewrites parts other than the stores and the loop units moves no object. -/
theorem raw (hp : s.changesOnly t ps := by intro p hn; cases p <;> first | rfl | exact absurd (by decide) hn) (hod : Part.od ∉ ps := by decide) (hlus : Part.lus ∉ ps := by decide)
    (hcust : Part.cust ∉ ps := by decide) : Leaves ps (fun _ => True) false s t := by
  have hod : t.od = s.od := hp .od hod
  have hlus : t.lus = s.lus := hp .lus hlus
  have hcust : t.cust = s.cust := hp .cust hcust
  refine ⟨hp, fun j _ _ => ?_, fun j _ h => ?_, fun h => ?_⟩
  · rw [State.get, State.get, hod]
  · rw [State.unqueued] at h ⊢
    simpa only [State.lu, hlus] using h
  · simpa only [State.inv, State.canonical, hod, hcust] using h

/-! ### The elementary updates -/

theorem set {k : Nat} {v : Val} : Leaves [.od] (fun j => j ≠ k) false s (s.set k v) where
  parts p hn := by cases p <;> first | rfl | exact absurd (by decide) hn
  objects j hj _ := s.get_set_ne k j v hj
  queue _ _ h := h
  inv h := by
    obtain ⟨hwf, hcust⟩ := h
    simp only [State.canonical, Bool.and_eq_true] at hwf
    exact ⟨by simp only [State.canonical, s.set_wf k v hwf.1, State.set_cust, hwf.2, Bool.and_self], hcust⟩

theorem with_fresh {x : Nat} : Leaves [.fresh] (fun _ => True) false s { s with fresh := x } := .raw
theorem with_out {x : List Output} : Leaves [.out] (fun _ => True) false s { s with out := x } := .raw
theorem with_log {x : LogSt} : Leaves [.log] (fun _ => True) false s { s with log := x } := .raw
theorem with_bringup {x : BringupSt} : Leaves [.bringup] (fun _ => True) false s { s with bringup := x } := .raw
theorem with_clocks {x : ClockSt} : Leaves [.clocks] (fun _ => True) false s { s with clocks := x } := .raw
theorem with_links {x : Vector LinkSt 3} : Leaves [.links] (fun _ => True) false s { s with links := x } := .raw
theorem with_drives {x : Vector DriveSt 6} : Leaves [.drives] (fun _ => True) false s { s with drives := x } := .raw
theorem with_cells {x : Vector CellSt 15} : Leaves [.cells] (fun _ => True) false s { s with cells := x } := .raw
theorem with_legs {x : Vector LegSt 50} : Leaves [.legs] (fun _ => True) false s { s with legs := x } := .raw
theorem with_store {x : StoreSt} : Leaves [.store] (fun _ => True) false s { s with store := x } := .raw
theorem with_shunts {x : Vector ShuntSt 50} : Leaves [.shunts] (fun _ => True) false s { s with shunts := x } := .raw
theorem with_seqs {x : Vector SeqSt 8} : Leaves [.seqs] (fun _ => True) false s { s with seqs := x } := .raw
theorem with_axes {x : Vector AxisSt 8} : Leaves [.axes] (fun _ => True) false s { s with axes := x } := .raw
theorem with_traction {x : Vector TractionSt 2} : Leaves [.traction] (fun _ => True) false s { s with traction := x } := .raw
theorem with_pifs {x : Vector PifSt 12} : Leaves [.pifs] (fun _ => True) false s { s with pifs := x } := .raw
theorem with_stageIn {x : Vector Rat 15} : Leaves [.stageIn] (fun _ => True) false s { s with stageIn := x } := .raw
theorem with_lvCommand {x : Rat} : Leaves [.lvCommand] (fun _ => True) false s { s with lvCommand := x } := .raw
theorem with_engines {x : Vector EngSt 24} : Leaves [.engines] (fun _ => True) false s { s with engines := x } := .raw
theorem with_tasks {x : Vector TaskSt 59} : Leaves [.tasks] (fun _ => True) false s { s with tasks := x } := .raw
theorem with_pool {x : PoolSt} : Leaves [.pool] (fun _ => True) false s { s with pool := x } := .raw
theorem with_gbx {x : GbxSt} : Leaves [.gbx] (fun _ => True) false s { s with gbx := x } := .raw
theorem with_dcl {x : DclSt} : Leaves [.dcl] (fun _ => True) false s { s with dcl := x } := .raw
theorem with_aux {x : AuxSt} : Leaves [.aux] (fun _ => True) false s { s with aux := x } := .raw
theorem with_chg {x : ChgSt} : Leaves [.chg] (fun _ => True) false s { s with chg := x } := .raw
theorem with_path {x : PathSwSt} : Leaves [.path] (fun _ => True) false s { s with path := x } := .raw
theorem with_thermal {x : ThermalSt} : Leaves [.thermal] (fun _ => True) false s { s with thermal := x } := .raw
theorem with_gcps {x : Vector GcpSt 16} : Leaves [.gcps] (fun _ => True) false s { s with gcps := x } := .raw
theorem with_pyr {x : PyrSt} : Leaves [.pyr] (fun _ => True) false s { s with pyr := x } := .raw
theorem with_safety {x : SafetySt} : Leaves [.safety] (fun _ => True) false s { s with safety := x } := .raw
theorem with_conns {x : Vector ConnSt 16} : Leaves [.conns] (fun _ => True) false s { s with conns := x } := .raw
theorem with_crcs {x : Vector CrcUnit 4} : Leaves [.crcs] (fun _ => True) false s { s with crcs := x } := .raw
theorem with_chans {x : Vector ChanSt 4} : Leaves [.chans] (fun _ => True) false s { s with chans := x } := .raw
theorem with_time {x : TimeSt} : Leaves [.time] (fun _ => True) false s { s with time := x } := .raw
theorem with_canA {x : CanASt} : Leaves [.canA] (fun _ => True) false s { s with canA := x } := .raw
theorem with_sessions {x : SessionsSt} : Leaves [.sessions] (fun _ => True) false s { s with sessions := x } := .raw
theorem with_img {x : ImgSt} : Leaves [.img] (fun _ => True) false s { s with img := x } := .raw
theorem with_cap {x : CapSt} : Leaves [.cap] (fun _ => True) false s { s with cap := x } := .raw
theorem with_tb_out_log {x0 : Nat} {x1 : List Output} {x2 : LogSt} :
    Leaves [.tb, .out, .log] (fun _ => True) false s { s with tb := x0, out := x1, log := x2 } := .raw
theorem with_time_canA {x0 : TimeSt} {x1 : CanASt} :
    Leaves [.time, .canA] (fun _ => True) false s { s with time := x0, canA := x1 } := .raw
theorem with_cells_legs {x0 : Vector CellSt 15} {x1 : Vector LegSt 50} :
    Leaves [.cells, .legs] (fun _ => True) false s { s with cells := x0, legs := x1 } := .raw

/-- A loop unit changes; nothing enters its queue. -/
theorem modLu {n : Fin 24} {f : LuSt → LuSt} (hf : ∀ e ∈ (f (s.lu n)).queue, e ∈ (s.lu n).queue := by intro _ h; exact h) :
    Leaves [.lus] (fun _ => True) false s (s.modLu n f) where
  parts p hn := by cases p <;> first | rfl | exact absurd (by decide) hn
  objects _ _ _ := rfl
  queue j _ h m e he := by
    have hget := get_upd s.lus n m f
    simp only [State.lu, State.modLu, hget] at he hf
    split at he
    · next hm => subst hm; exact h m e (hf e he)
    · exact h m e he
  inv h := h

/-- Objects that stand in a unit's queue may move, if the queue is applied. -/
theorem applied {n : Fin 24} (h : Leaves ps (fun j => ∀ e ∈ (s.lu n).queue, e.1 ≠ j) false s t) :
    Leaves ps (fun _ => True) true s t where
  parts := h.parts
  objects j _ hu := h.objects j (hu rfl n) nofun
  queue j _ hu := h.queue j (hu n) hu
  inv := h.inv

/-- A write enters a unit's queue. -/
theorem enqueue {n : Fin 24} {k : Nat} {v : Val} :
    Leaves [.lus] (fun j => j ≠ k) false s (s.modLu n fun u => { u with queue := u.queue ++ [(k, v)] }) where
  parts p hn := by cases p <;> first | rfl | exact absurd (by decide) hn
  objects _ _ _ := rfl
  queue j hj h m e he := by
    simp only [State.lu, State.modLu, get_upd] at he
    split at he
    · next hm =>
      subst hm
      rcases List.mem_append.1 he with he | he
      · exact h m e he
      · rw [List.mem_singleton.1 he]; exact hj.symm
    · exact h m e he
  inv h := h

/-- A write inside the customer area. -/
theorem with_cust {a : Nat} {data : List Byte} (h : a + data.length ≤ custSize) :
    Leaves [.cust] (fun _ => True) false s { s with cust := Memory.writeAll s.cust a data } where
  parts p hn := by cases p <;> first | rfl | exact absurd (by decide) hn
  objects _ _ _ := rfl
  queue _ _ h := h
  inv hs := by
    obtain ⟨hwf, hcust⟩ := hs
    simp only [State.canonical, Bool.and_eq_true] at hwf
    exact ⟨by simp only [State.canonical, hwf.1, Memory.writeAll_wf _ _ _ hwf.2, Bool.and_self],
      Memory.writeAll_lt _ _ _ h hcust⟩

/-- The customer area and the parts that the battery terminal keeps are lost. -/
theorem with_retained_lost {b : BringupSt} {l : LogSt} {x : SessionsSt} {p : PathSwSt} {g : GbxSt} :
    Leaves [.log, .bringup, .cust, .gbx, .path, .sessions] (fun _ => True) false s
      { s with cust := [], path := p, gbx := g, bringup := b, log := l, sessions := x } where
  parts p hn := by cases p <;> first | rfl | exact absurd (by decide) hn
  objects _ _ _ := rfl
  queue _ _ h := h
  inv hs := by
    obtain ⟨hwf, _⟩ := hs
    simp only [State.canonical, Bool.and_eq_true] at hwf
    exact ⟨by simp only [State.canonical, hwf.1, Memory.wf, Bool.and_self], nofun⟩

end State.Leaves

/-! ### Effects that may refuse, be absent, or answer -/

section
variable {ps ps' : List Part} {free free' : Nat → Prop} {q q' : Bool} {s t u : State}

theorem OkLeaves.ok (h : State.Leaves ps free q s t) : OkLeaves ps free q s (.ok t) := by
  rintro _ ⟨⟩; exact h
theorem OkLeaves.error {c : Nat} : OkLeaves ps free q s (.error c) := by rintro _ ⟨⟩
theorem OkLeaves.ite {c : Prop} [Decidable c] {r r' : Except Nat State} (h : OkLeaves ps free q s r)
    (h' : OkLeaves ps free q s r') : OkLeaves ps free q s (if c then r else r') := by split <;> assumption
theorem OkLeaves.dite {c : Prop} [Decidable c] {r : c → Except Nat State} {r' : ¬ c → Except Nat State}
    (h : ∀ x, OkLeaves ps free q s (r x)) (h' : ∀ x, OkLeaves ps free q s (r' x)) :
    OkLeaves ps free q s (if x : c then r x else r' x) := by
  split
  · exact h _
  · exact h' _
theorem OkLeaves.refuseIfOf {c : Bool} {n : Nat} {r : Except Nat State} (h : c = false → OkLeaves ps free q s r) :
    OkLeaves ps free q s (Machine.refuseIf c n r) := by
  cases c
  · exact h rfl
  · exact .error
theorem OkLeaves.refuseIf {c : Bool} {n : Nat} {r : Except Nat State} (h : OkLeaves ps free q s r) :
    OkLeaves ps free q s (Machine.refuseIf c n r) := by
  cases c
  · exact h
  · exact .error
/-- An effect after operations within the same footprint. -/
theorem OkLeaves.after {r : Except Nat State} (g : OkLeaves ps' free' q' t r) (h : State.Leaves ps free q s t)
    (hk : ∀ j, free j → free' j := by
      simp +contextual only [noAccess, ne_eq, not_false_eq_true, and_self, implies_true, false_implies,
        Fin.val_lt_of_le, Nat.reduceLeDiff, Nat.reduceLT, Drive.num_lt, Drive.num_lt_two, sideDrive_num, legCell_lt, legPos_lt, half_lt])
    (hp : ps' ⊆ ps := by decide) (hq : q' = true → q = true := by decide) : OkLeaves ps free q s r :=
  fun u hu => h.trans ((g u hu).mono hk hp hq)
theorem OkLeaves.afterR {r : Except Nat State} (g : OkLeaves ps' free' q' t r) (h : State.Leaves ps free q s t)
    (hk : ∀ j, free j → free' j := by
      simp +contextual only [noReaction, noAccess, ne_eq, not_false_eq_true, and_self, implies_true, false_implies,
        Fin.val_lt_of_le, Nat.reduceLeDiff, Nat.reduceLT, Drive.num_lt, Drive.num_lt_two, sideDrive_num, legCell_lt, legPos_lt, half_lt])
    (hp : ps' ⊆ ps := by decide) (hq : q' = true → q = true := by decide) : OkLeaves ps free q s r :=
  fun u hu => h.trans ((g u hu).mono hk hp hq)

theorem OkPairLeaves.ok {α : Type} {a : α} (h : State.Leaves ps free q s t) : OkPairLeaves ps free q s (.ok (t, a)) := by
  rintro _ ⟨⟩; exact h
theorem OkPairLeaves.error {α : Type} {c : Nat} : OkPairLeaves (α := α) ps free q s (.error c) := by rintro _ ⟨⟩
theorem OkPairLeaves.ite {α : Type} {c : Prop} [Decidable c] {r r' : Except Nat (State × α)} (h : OkPairLeaves ps free q s r)
    (h' : OkPairLeaves ps free q s r') : OkPairLeaves ps free q s (if c then r else r') := by split <;> assumption

theorem OkPairLeaves.mono {α : Type} {r : Except Nat (State × α)} (h : OkPairLeaves ps' free' q' s r) (hk : ∀ j, free j → free' j)
    (hp : ps' ⊆ ps) (hq : q' = true → q = true) : OkPairLeaves ps free q s r := fun t ht => (h t ht).mono hk hp hq

theorem SomeLeaves.some (h : State.Leaves ps free q s t) : SomeLeaves ps free q s (.some t) := by
  rintro _ ⟨⟩; exact h
theorem SomeLeaves.mono {r : Option State} (h : SomeLeaves ps' free' q' s r) (hk : ∀ j, free j → free' j) (hp : ps' ⊆ ps)
    (hq : q' = true → q = true) : SomeLeaves ps free q s r := fun t ht => (h t ht).mono hk hp hq
theorem SomeLeaves.orElse {r : Option State} {r' : Unit → Option State} (h : SomeLeaves ps free q s r)
    (h' : SomeLeaves ps free q s (r' ())) : SomeLeaves ps free q s (r.orElse r') := by
  cases r with
  | none => exact h'
  | some t => exact h
theorem SomeLeaves.none : SomeLeaves ps free q s none := by rintro _ ⟨⟩
theorem SomeLeaves.after {r : Option State} (g : SomeLeaves ps' free' q' t r) (h : State.Leaves ps free q s t)
    (hk : ∀ j, free j → free' j := by
      simp +contextual only [noAccess, ne_eq, not_false_eq_true, and_self, implies_true, false_implies,
        Fin.val_lt_of_le, Nat.reduceLeDiff, Nat.reduceLT, Drive.num_lt, Drive.num_lt_two, sideDrive_num, legCell_lt, legPos_lt, half_lt])
    (hp : ps' ⊆ ps := by decide) (hq : q' = true → q = true := by decide) : SomeLeaves ps free q s r :=
  fun u hu => h.trans ((g u hu).mono hk hp hq)
theorem SomeLeaves.ite {c : Prop} [Decidable c] {r r' : Option State} (h : SomeLeaves ps free q s r)
    (h' : SomeLeaves ps free q s r') : SomeLeaves ps free q s (if c then r else r') := by split <;> assumption

theorem FnLeaves.some {f : State → Except Nat State} (h : ∀ s, OkLeaves ps free q s (f s)) : FnLeaves ps free q (some f) := by
  rintro _ ⟨⟩; exact h
theorem FnLeaves.none : FnLeaves ps free q none := by rintro _ ⟨⟩
theorem FnLeaves.ite {c : Prop} [Decidable c] {r r' : Option (State → Except Nat State)} (h : FnLeaves ps free q r)
    (h' : FnLeaves ps free q r') : FnLeaves ps free q (if c then r else r') := by split <;> assumption

theorem ResLeaves.next (h : State.Leaves ps free q s t) : ResLeaves ps free q s (.next t) := by
  rintro _ ⟨⟩; exact h
/-- A command's answer has the queue as it stood before. -/
theorem ResLeaves.reply {s' : State} (h : State.Leaves ps free q s t) (hs : s'.pending = s.pending := by rfl) :
    ResLeaves ps free q s (Machine.reply s' t) := by
  rintro _ ⟨⟩
  have hpending : ∀ p, p ∉ ps → p.same t { t with pending := s'.pending } := fun p hn => by
    cases p with
    | pending => exact hs.trans (h.parts .pending hn).symm
    | _ => rfl
  exact h.trans ⟨hpending, fun _ _ _ => rfl, fun _ _ h => h, fun h => h⟩
/-- A command changes no part but those of a list that holds its own. -/
theorem ResLeaves.changes {ps₀ : List Part} {r : Res} (g : ResLeaves ps free q s r) (h : r = .next t) (hp : ps ⊆ ps₀ := by decide) :
    s.changesOnly t ps₀ := fun p hn => (g t h).parts p fun hm => hn (hp hm)
/-- A command keeps every part of a list that holds none of its own. -/
theorem ResLeaves.keeps {ps₀ : List Part} {r : Res} (g : ResLeaves ps free q s r) (h : r = .next t)
    (hp : ∀ p ∈ ps₀, p ∉ ps := by decide) : s.keepsParts t ps₀ := fun p hm => (g t h).parts p (hp p hm)
/-- A command leaves an object outside its footprint as it was; what the context says of the object puts it outside. -/
theorem ResLeaves.get {r : Res} (g : ResLeaves ps free q s r) (h : r = .next t) (k : Nat)
    (hk : free k := by
      simp_all +contextual only [noReaction, noAccess, forall_lt_two, ne_eq, not_false_eq_true, and_self, implies_true,
        Fin.val_lt_of_le, Fin.coe_ofNat_eq_mod, Nat.reduceMod, Nat.reduceLeDiff, Nat.reduceLT])
    (hq : q = true → s.unqueued k := by simp only [*, reduceCtorEq, false_implies, implies_true]) : t.get k = s.get k :=
  (g t h).objects k hk hq
theorem ResLeaves.ite {c : Prop} [Decidable c] {r r' : Res} (h : ResLeaves ps free q s r)
    (h' : ResLeaves ps free q s r') : ResLeaves ps free q s (if c then r else r') := by split <;> assumption
end

/-! ### The shared operations (R13, R474, R475, R486) -/

namespace State.Leaves
variable {ps ps' : List Part} {free free' : Nat → Prop} {q q' : Bool} {s t u : State}

theorem setN {k v : Nat} : Leaves [.od] (fun j => j ≠ k) false s (s.setN k v) := set
theorem setBit {k i : Nat} {b : Bool} : Leaves [.od] (fun j => j ≠ k) false s (s.setBit k i b) := set

theorem countBy {key width flag bit group n : Nat} :
    Leaves [.od] (fun j => j ≠ key ∧ j ≠ flag ∧ j ≠ Od.CNT_CNT_OVF_MAP) false s
      (s.countBy ⟨key, width, flag, bit, group⟩ n) := by
  unfold State.countBy
  exact .ite (.step .setN .refl) (.step .setBit (.step .setBit (.step .setN .refl)))
theorem count {key width flag bit group : Nat} :
    Leaves [.od] (fun j => j ≠ key ∧ j ≠ flag ∧ j ≠ Od.CNT_CNT_OVF_MAP) false s (s.count ⟨key, width, flag, bit, group⟩) :=
  countBy
theorem emit {o : Output} : Leaves [.out] (fun _ => True) false s (s.emit o) := .raw
theorem event {code source detail : Nat} : Leaves [.log] (fun _ => True) false s (s.event code source detail) := .raw
theorem noteWrite {who : Requester} {key : Nat} : Leaves [.sessions] (fun _ => True) false s (s.noteWrite who key) := .raw

theorem modSess {who : Requester} {f : SessionSt → SessionSt} :
    Leaves [.sessions] (fun _ => True) false s (s.modSess who f) := by
  unfold State.modSess
  split
  · exact .raw
  · exact .refl

theorem touch {who : Requester} : Leaves [.od, .sessions] (fun j => j ≠ Od.SVC_REQUESTS) false s (s.touch who) := by
  unfold State.touch
  exact .step .modSess (.when (fun _ => .step .setN .refl) .refl)

theorem arbCount {who : Requester} {key : Nat} :
    Leaves [.od, .log, .sessions] (fun j => j ≠ Od.CNT_CNT_OVF_MAP ∧ j ≠ Od.OWN_ARB_ABORTS ∧ j ≠ Od.OWN_OWN_STATUS) false s
      (s.arbCount who key) := by
  unfold State.arbCount
  exact .ite (.step .count .refl) (.step .event (.step .with_sessions (.step .count .refl)))

/-- The answer of an access changes what the access changed, the outputs, and the count of refused commands of CAN-A. -/
theorem answer {who : Requester} {r : Except Nat State} (hr : OkLeaves ps free q s r) (h : Leaves ps free q s t)
    (hk : ∀ j, free j → j ≠ Od.CAN_A_REJECTS 0 ∧ j ≠ Od.CAN_CAN_CNT_STATUS 0 ∧ j ≠ Od.CNT_CNT_OVF_MAP := by
      simp +contextual only [noAccess, ne_eq, not_false_eq_true, and_self, implies_true, false_implies,
        Fin.val_lt_of_le, Nat.reduceLeDiff, Nat.reduceLT, Drive.num_lt, Drive.num_lt_two, sideDrive_num, legCell_lt, legPos_lt, half_lt])
    (hp : [.od, .out] ⊆ ps := by decide) : Leaves ps free q s (t.answer who r) := by
  have hout : [.out] ⊆ ps := fun _ h => hp (List.mem_cons_of_mem _ h)
  have hod : [.od] ⊆ ps := fun _ h => hp (by simp only [List.mem_singleton] at h; simp [h])
  cases r with
  | ok u => exact .ite (hr u rfl) (.step .emit (hr u rfl) (fun _ _ => trivial) hout nofun)
  | error c => exact .ite (.step .count h hk hod nofun) (.step .emit h (fun _ _ => trivial) hout nofun)

/-- A request changes what its effect changes, and what every access moves. -/
theorem request {who : Requester} {key : Nat} {role : Role} {effect : State → Except Nat State}
    (he : ∀ u, OkLeaves ps free q u (effect u)) (h : Leaves ps free q s t)
    (hk : ∀ j, free j → noAccess j := by
      simp +contextual only [noAccess, ne_eq, not_false_eq_true, and_self, implies_true, false_implies,
        Fin.val_lt_of_le, Nat.reduceLeDiff, Nat.reduceLT, Drive.num_lt, Drive.num_lt_two, sideDrive_num, legCell_lt, legPos_lt, half_lt])
    (hp : [.od, .out, .log, .sessions] ⊆ ps := by decide) : Leaves ps free q s (t.request who key role effect) := by
  have hod : [.od, .out] ⊆ ps := List.Subset.trans (by decide) hp
  have hlog : [.od, .log, .sessions] ⊆ ps := List.Subset.trans (by decide) hp
  have hsess : [.od, .sessions] ⊆ ps := List.Subset.trans (by decide) hlog
  have hwrites : [.sessions] ⊆ ps := fun _ h => hsess (List.mem_cons_of_mem _ h)
  have hreject : ∀ j, free j → j ≠ Od.CAN_A_REJECTS 0 ∧ j ≠ Od.CAN_CAN_CNT_STATUS 0 ∧ j ≠ Od.CNT_CNT_OVF_MAP :=
    fun j hj => by
      obtain ⟨_, hovf, hrejects, hstatus, _, _⟩ := hk j hj
      exact ⟨hrejects, hstatus, hovf⟩
  have harb : ∀ j, free j → j ≠ Od.CNT_CNT_OVF_MAP ∧ j ≠ Od.OWN_ARB_ABORTS ∧ j ≠ Od.OWN_OWN_STATUS :=
    fun j hj => by
      obtain ⟨_, hovf, _, _, hown, haborts⟩ := hk j hj
      exact ⟨hovf, haborts, hown⟩
  have htouch : Leaves ps free q s (t.touch who) := .step .touch h (fun j hj => (hk j hj).1) hsess nofun
  have hlost : Leaves ps free q s ((t.touch who).arbCount who key) := .step .arbCount htouch harb hlog nofun
  unfold State.request
  refine .ite h (.ite (.answer .error htouch hreject hod) (.ite (.answer .error htouch hreject hod) ?_))
  split
  · exact .answer .error htouch hreject hod
  · next v hv =>
    have heff : Leaves ps free q s v := htouch.trans (he _ v hv)
    have hwon : Leaves ps free q s (v.when ((t.touch who).arbWon who key) fun t => t.arbCount who key) :=
      heff.trans (.when (fun _ => .step .arbCount .refl harb hlog nofun) .refl)
    exact .ite (.answer .error htouch hreject hod) (.ite (.answer .error hlost hreject hod)
      (.answer (.ok (.step .noteWrite hwon (fun _ _ => trivial) hwrites nofun)) htouch hreject hod))

/-- A read changes what answering it changes, the outputs, and the record of the access. -/
theorem readRequest {who : Requester} {key : Nat} {effect : State → Except Nat (State × List Byte)}
    (he : ∀ u, OkPairLeaves ps free q u (effect u)) (h : Leaves ps free q s t)
    (hk : ∀ j, free j → j ≠ Od.SVC_REQUESTS := by
      simp +contextual only [noAccess, ne_eq, not_false_eq_true, implies_true, false_implies])
    (hp : [.od, .out, .sessions] ⊆ ps := by decide) : Leaves ps free q s (t.readRequest who key effect) := by
  have hout : [.out] ⊆ ps := List.Subset.trans (by decide) hp
  have htouch : Leaves ps free q s (t.touch who) := .step .touch h hk (List.Subset.trans (by decide) hp) nofun
  unfold State.readRequest
  refine .ite h (.ite (.step .emit htouch (fun _ _ => trivial) hout nofun) ?_)
  split
  · exact .step .emit htouch (fun _ _ => trivial) hout nofun
  · next u data hu => exact .step .emit (htouch.trans (he _ _ hu)) (fun _ _ => trivial) hout nofun

end State.Leaves

end Sys2Proof.Machine
end

section
/-! PROOFS. The footprint of every operation of the model and of every command, one lemma per function in the order in which
they build on each other: each is read off the function's body with the rules for updates, branches and loops above. -/
namespace Sys2Proof.Machine
open Sys2Proof
set_option Elab.async false
theorem State.Leaves.modSafety {s : State} {f : SafetySt → SafetySt} : State.Leaves [.safety] (fun _ => True) false s
    (s.modSafety f) := by
  unfold State.modSafety
  exact .step .with_safety .refl
theorem State.Leaves.modOut {s : State} {k : Fin 4} {f : SafeOut → SafeOut} : State.Leaves [.safety] (fun _ => True)
    false s (s.modOut k f) := by
  unfold State.modOut
  exact .step .modSafety .refl
theorem State.Leaves.elapse {s : State} {dt : Nat} : State.Leaves [.tb, .out, .log] (fun _ => True) false s (s.elapse
    dt) := by
  unfold State.elapse
  exact .step .with_tb_out_log .refl
theorem ResLeaves.execSoCurrentLimitOff {dt : Nat} {k : Fin 4} {s : State} : ResLeaves [.tb, .out, .log, .safety] (fun _
    => True) false s (execSoCurrentLimitOff dt k s) := by
  unfold Machine.execSoCurrentLimitOff
  exact .reply (.ite (.step .modOut (.step .elapse .refl)) (.step .elapse .refl))
theorem ResLeaves.execEthernetLinkUp {dt : Nat} {s : State} : ResLeaves [.tb, .out, .log, .sessions] (fun _ => True)
    false s (execEthernetLinkUp dt s) := by
  unfold Machine.execEthernetLinkUp
  exact .reply (.ite (.step .with_sessions (.step .elapse .refl)) (.step .elapse .refl))
theorem State.Leaves.modChan {s : State} {c : Fin 4} {f : ChanSt → ChanSt} : State.Leaves [.chans] (fun _ => True)
    false s (s.modChan c f) := by
  unfold State.modChan
  exact .step .with_chans .refl
theorem State.Leaves.modSlot {s : State} {c : Fin 4} {i : Fin 16} {f : SlotSt → SlotSt} : State.Leaves [.chans] (fun _
    => True) false s (s.modSlot c i f) := by
  unfold State.modSlot
  exact .step .modChan .refl
theorem State.Leaves.canEvent {s : State} {code : Nat} {c : Fin 4} {n : Nat} : State.Leaves [.log] (fun _ => True) false s
    (s.canEvent code c n) := by
  unfold State.canEvent
  exact .step .event .refl
theorem State.Leaves.dropStale {s : State} {c : Fin 4} {i : Fin 16} : State.Leaves [.od, .log, .chans] (fun j => j ≠
    Od.CAN_CAN_CNT_STATUS c ∧ j ≠ Od.CAN_STALE_DROPS c ∧ j ≠ Od.CNT_CNT_OVF_MAP) false s (s.dropStale c i) := by
  unfold State.dropStale
  exact .step .modSlot (.step .canEvent (.step .count .refl))
theorem State.Leaves.arbitrate {s : State} {c : Fin 4} : State.Leaves [.od, .log, .chans] (fun j => j ≠
    Od.CAN_CAN_CNT_STATUS c ∧ j ≠ Od.CAN_STALE_DROPS c ∧ j ≠ Od.CNT_CNT_OVF_MAP) false s (s.arbitrate c) := by
  unfold State.arbitrate
  exact .ite (.step .modChan (.each (fun _ _ _ => (.ite (.step .dropStale .refl) .refl)) .refl)) (.step .modChan
    (.each (fun _ _ _ => (.ite (.step .dropStale .refl) .refl)) .refl))
theorem State.Leaves.offer {s : State} {c : Fin 4} : State.Leaves [.od, .log, .chans] (fun j => j ≠
    Od.CAN_CAN_CNT_STATUS c ∧ j ≠ Od.CAN_STALE_DROPS c ∧ j ≠ Od.CNT_CNT_OVF_MAP) false s (s.offer c) := by
  unfold State.offer
  exact .ite (.step .arbitrate .refl) .refl
theorem SomeLeaves.fifoWrite {s : State} {c : Fin 4} {m : CanMsg} : SomeLeaves [.od, .log, .chans] (fun j => j ≠
    Od.CAN_CAN_CNT_STATUS c ∧ j ≠ Od.CAN_STALE_DROPS c ∧ j ≠ Od.CNT_CNT_OVF_MAP) false s (s.fifoWrite c m) := by
  unfold State.fifoWrite
  exact .ite .none (.some (.step .offer (.step .modChan .refl)))
theorem State.Leaves.modLog {s : State} {f : LogSt → LogSt} : State.Leaves [.log] (fun _ => True) false s (s.modLog f)
    := by
  unfold State.modLog
  exact .step .with_log .refl
theorem State.Leaves.heartbeat {s : State} : State.Leaves [.od, .log, .chans] (fun j => j ≠ Od.CAN_CAN_CNT_STATUS (3 :
    Fin 4) ∧ j ≠ Od.CAN_STALE_DROPS (3 : Fin 4) ∧ j ≠ Od.CNT_CNT_OVF_MAP) false s (s.heartbeat) := by
  unfold State.heartbeat
  refine .ite ?_ .refl
  dsimp only
  split
  · next t ht => exact .step (SomeLeaves.fifoWrite _ ht) (.step .modLog .refl)
  · exact .step .modLog .refl
theorem ResLeaves.execProducerHeartbeat {dt : Nat} {s : State} : ResLeaves [.od, .tb, .out, .log, .chans] (fun j => j ≠
    Od.CAN_CAN_CNT_STATUS (3 : Fin 4) ∧ j ≠ Od.CAN_STALE_DROPS (3 : Fin 4) ∧ j ≠ Od.CNT_CNT_OVF_MAP) false s
    (execProducerHeartbeat dt s) := by
  unfold Machine.execProducerHeartbeat
  exact .reply (.step .heartbeat (.step .elapse .refl))
theorem State.Leaves.modPath {s : State} {f : PathSwSt → PathSwSt} : State.Leaves [.path] (fun _ => True) false s
    (s.modPath f) := by
  unfold State.modPath
  exact .step .with_path .refl
theorem State.Leaves.abandonPeat {s : State} : State.Leaves [.od, .path] (fun j => j ≠ Od.BKP_BKP15 ∧ j ≠
    Od.LV_LV_STATUS) false s (s.abandonPeat) := by
  unfold State.abandonPeat
  exact .ite (.step .setBit (.step .setBit (.step .modPath .refl))) .refl
theorem State.Leaves.svcPress {s : State} : State.Leaves [.od, .path] (fun j => j ≠ Od.BKP_BKP15 ∧ j ≠
    Od.LV_LV_STATUS) false s (s.svcPress) := by
  unfold State.svcPress
  exact .ite .refl (.step .abandonPeat (.step .setBit (.step .modPath .refl)))
theorem ResLeaves.execSvcPressed {dt : Nat} {s : State} : ResLeaves [.od, .tb, .out, .log, .path] (fun j => j ≠
    Od.BKP_BKP15 ∧ j ≠ Od.LV_LV_STATUS) false s (execSvcPressed dt s) := by
  unfold Machine.execSvcPressed
  exact .reply (.step .svcPress (.step .elapse .refl))
theorem State.Leaves.setQ {s : State} {k : Nat} {q : Rat} : State.Leaves [.od] (fun j => j ≠ k) false s (s.setQ k q) := by
  unfold State.setQ
  exact .step .set .refl
theorem State.Leaves.modSide {s : State} {t : Fin 2} {f : SideSt → SideSt} : State.Leaves [.gbx] (fun _ => True) false
    s (s.modSide t f) := by
  unfold State.modSide
  exact .step .with_gbx .refl
theorem OkLeaves.outSpeedEffect {who : Requester} {t : Fin 2} {q : Rat} {s : State} : OkLeaves [.od, .gbx] (fun _ =>
    False) false s (State.outSpeedEffect who t q s) := by
  unfold State.outSpeedEffect
  exact .refuseIf (.ok (.step .modSide (.step .setQ .refl)))
theorem State.Leaves.modLeg {s : State} {l : Leg} {f : LegSt → LegSt} : State.Leaves [.legs] (fun _ => True) false s
    (s.modLeg l f) := by
  unfold State.modLeg
  exact .step .with_legs .refl
theorem State.Leaves.setDuty {s : State} {d : Rat} : State.Leaves [.od, .legs] (fun j => j ≠ Od.DCL_CHOP_DUTY ∧ j ≠
    Od.DCL_DCL_STATUS) false s (s.setDuty d) := by
  unfold State.setDuty
  exact .step .setBit (.step .setQ (.ite .refl (.each (fun _ _ _ => (.step .modLeg .refl)) .refl)))
theorem State.Leaves.modLink {s : State} {l : Link} {f : LinkSt → LinkSt} : State.Leaves [.links] (fun _ => True)
    false s (s.modLink l f) := by
  unfold State.modLink
  exact .step .with_links .refl
theorem State.Leaves.sendPhase {s : State} {a : Cell} {b : Cell} {q : Rat} : State.Leaves [.links] (fun _ => True) false
    s (s.sendPhase a b q) := by
  unfold State.sendPhase
  exact .each (fun _ _ _ => (.step .modLink .refl)) .refl
theorem State.Leaves.solTrack {s : State} {i : Nat} : State.Leaves [.od, .gbx] (fun j => (i < 8 → j ≠ Od.SOL_SOL_STATUS
    i)) false s (s.solTrack i) := by
  unfold State.solTrack
  exact .dite (fun hi => .when (fun _ => .step .setBit .refl (by simp +contextual only [hi, ne_eq, not_false_eq_true, and_self, implies_true, Fin.val_lt_of_le, Nat.reduceLeDiff, Nat.reduceLT])) (.step .with_gbx .refl)) fun _ => .refl
theorem State.Leaves.setSolenoidDuty {s : State} {i : Nat} {u : Rat} : State.Leaves [.od, .gbx] (fun j => j ≠
    Od.CNT_CNT_OVF_MAP ∧ (i < 8 → j ≠ Od.SOL_DUTY i) ∧ (i < 8 → j ≠ Od.SOL_ENERGISATIONS i) ∧ (i < 8 → j ≠
    Od.SOL_SOL_CNT_STATUS i) ∧ (i < 8 → j ≠ Od.SOL_SOL_STATUS i)) false s (s.setSolenoidDuty i u) := by
  unfold State.setSolenoidDuty
  exact .dite (fun hi => .when (fun _ => .step .count .refl (by simp +contextual only [hi, ne_eq, not_false_eq_true, and_self, implies_true, Fin.val_lt_of_le, Nat.reduceLeDiff, Nat.reduceLT]))
    (.step .solTrack (.step .setQ (.step .with_gbx .refl) (by simp +contextual only [hi, ne_eq, not_false_eq_true, and_self, implies_true, Fin.val_lt_of_le, Nat.reduceLeDiff, Nat.reduceLT])))) fun _ => .refl
theorem State.Leaves.sideTr {s : State} {i : Nat} {f : TractionSt → TractionSt} : State.Leaves [.traction] (fun _ =>
    True) false s (s.sideTr i f) := by
  unfold State.sideTr
  exact .step .with_traction .refl
theorem State.Leaves.deliver {s : State} {dest : Nat} {u : Rat} : State.Leaves [.od, .links, .legs, .traction, .stageIn,
    .lvCommand, .gbx] (fun j => (∀ x, x < 8 → j ≠ Od.AX_TQ_REF x) ∧ j ≠ Od.CNT_CNT_OVF_MAP ∧ j ≠ Od.DCL_CHOP_DUTY ∧ j
    ≠ Od.DCL_DCL_STATUS ∧ (∀ x, x < 24 → j ≠ Od.LU_REF x) ∧ (∀ x, x < 8 → j ≠ Od.SOL_DUTY x) ∧ (∀ x, x < 8 → j ≠
    Od.SOL_ENERGISATIONS x) ∧ (∀ x, x < 8 → j ≠ Od.SOL_SOL_CNT_STATUS x) ∧ (∀ x, x < 8 → j ≠ Od.SOL_SOL_STATUS x))
    false s (s.deliver dest u) := by
  unfold State.deliver
  dsimp only
  split
  · exact .step .sideTr .refl
  · exact .step .sideTr .refl
  · exact .dite (fun hi => .step .setQ .refl fun _ hj => hj.1 _ (by omega)) fun _ => .refl
  · exact .step .setSolenoidDuty .refl
  · exact .ite (.step .sendPhase .refl) (.ite (.step .sendPhase .refl) (.ite
      (.step .setDuty (.dite (fun _ => .step .with_stageIn .refl) fun _ => .refl))
      (.dite (fun _ => .step .with_stageIn .refl) fun _ => .refl)))
  · exact .iteOf (fun hi => .step .setQ .refl (by simp +contextual only [hi, ne_eq, not_false_eq_true, and_self, implies_true, Fin.val_lt_of_le, Nat.reduceLeDiff, Nat.reduceLT])) fun _ => .refl
  · exact .step .with_lvCommand .refl
  · exact .refl
theorem State.Leaves.ignoreUnit {s : State} {n : Fin 24} : State.Leaves [.od, .links, .legs, .traction, .stageIn,
    .lvCommand, .gbx] (fun j => (∀ x, x < 8 → j ≠ Od.AX_TQ_REF x) ∧ j ≠ Od.CNT_CNT_OVF_MAP ∧ j ≠ Od.DCL_CHOP_DUTY ∧ j
    ≠ Od.DCL_DCL_STATUS ∧ (∀ x, x < 24 → j ≠ Od.LU_REF x) ∧ (∀ x, x < 8 → j ≠ Od.SOL_DUTY x) ∧ (∀ x, x < 8 → j ≠
    Od.SOL_ENERGISATIONS x) ∧ (∀ x, x < 8 → j ≠ Od.SOL_SOL_CNT_STATUS x) ∧ (∀ x, x < 8 → j ≠ Od.SOL_SOL_STATUS x))
    false s (s.ignoreUnit n) := by
  unfold State.ignoreUnit
  exact .ite .refl (.step .deliver .refl)
theorem State.Leaves.luFlush {s : State} {n : Fin 24} : State.Leaves [.od, .lus] (fun _ => True) true s (s.luFlush n)
    := by
  unfold State.luFlush
  exact .applied (.step (.modLu fun _ h => nomatch h)
    (.each (fun e he _ => .step .set .refl fun _ hj => (hj e he).symm) .refl) fun _ _ => trivial)
theorem State.Leaves.setI {s : State} {k : Nat} {v : Int} : State.Leaves [.od] (fun j => j ≠ k) false s (s.setI k v) := by
  unfold State.setI
  exact .step .set .refl
theorem State.Leaves.setDirSigns {s : State} {n : Nat} : State.Leaves [.od] (fun j => j ≠ Od.LU_DIR_SIGNS n) false s
    (s.setDirSigns n) := by
  unfold State.setDirSigns
  exact .step .setN .refl
theorem State.Leaves.commitDone {s : State} {n : Fin 24} {c : CommitSt} : State.Leaves [.od, .log, .lus] (fun j => j ≠
    Od.CNT_CNT_OVF_MAP ∧ j ≠ Od.LU_COMMITS n ∧ j ≠ Od.LU_DIR_SIGNS n ∧ j ≠ Od.LU_LU_CNT_STATUS n ∧ (∀ x, x < 8 → j ≠
    Od.LU_SEC_CTRL n x)) false s (s.commitDone n c) := by
  unfold State.commitDone
  exact .step .setDirSigns (.step .event (.step .count (.step .modLu (.step .setBit .refl))))
/-- A coefficient of a section is one of five objects. -/
theorem State.Leaves.coefficient {s : State} {n i k : Nat} {v : Int} (hk : k < 5) : State.Leaves [.od]
    (fun j => j ≠ Od.LU_A1 n i ∧ j ≠ Od.LU_A2 n i ∧ j ≠ Od.LU_B0 n i ∧ j ≠ Od.LU_B1 n i ∧ j ≠ Od.LU_B2 n i) false s
    (s.setI ((coefKeys n i).getD k 0) v) := by
  match k, hk with
  | 0, _ => exact .step .setI .refl fun _ ⟨_, _, h, _, _⟩ => h
  | 1, _ => exact .step .setI .refl fun _ ⟨_, _, _, h, _⟩ => h
  | 2, _ => exact .step .setI .refl fun _ ⟨_, _, _, _, h⟩ => h
  | 3, _ => exact .step .setI .refl fun _ ⟨h, _, _, _, _⟩ => h
  | 4, _ => exact .step .setI .refl fun _ ⟨_, h, _, _, _⟩ => h
theorem State.Leaves.commitAtOnce {s : State} {n : Fin 24} {c : CommitSt} : State.Leaves [.od, .log, .lus] (fun j => j
    ≠ Od.CNT_CNT_OVF_MAP ∧ (∀ x, x < 8 → j ≠ Od.LU_A1 n x) ∧ (∀ x, x < 8 → j ≠ Od.LU_A2 n x) ∧ (∀ x, x < 8 → j ≠
    Od.LU_B0 n x) ∧ (∀ x, x < 8 → j ≠ Od.LU_B1 n x) ∧ (∀ x, x < 8 → j ≠ Od.LU_B2 n x) ∧ j ≠ Od.LU_COMMITS n ∧ j ≠
    Od.LU_DIR_SIGNS n ∧ j ≠ Od.LU_LU_CNT_STATUS n ∧ (∀ x, x < 8 → j ≠ Od.LU_SEC_CTRL n x)) false s (s.commitAtOnce n
    c) := by
  unfold State.commitAtOnce
  exact .step .commitDone (.each (fun _ hi _ => .step (.coefficient (List.mem_range.1 hi)) .refl) .refl)
theorem State.Leaves.stopUnit {s : State} {n : Fin 24} : State.Leaves [.od, .log, .links, .legs, .traction, .lus,
    .stageIn, .lvCommand, .gbx] (fun j => (∀ x, x < 8 → j ≠ Od.AX_TQ_REF x) ∧ j ≠ Od.CNT_CNT_OVF_MAP ∧ j ≠
    Od.DCL_CHOP_DUTY ∧ j ≠ Od.DCL_DCL_STATUS ∧ (∀ x, x < 8 → j ≠ Od.LU_A1 n x) ∧ (∀ x, x < 8 → j ≠ Od.LU_A2 n x) ∧ (∀
    x, x < 8 → j ≠ Od.LU_B0 n x) ∧ (∀ x, x < 8 → j ≠ Od.LU_B1 n x) ∧ (∀ x, x < 8 → j ≠ Od.LU_B2 n x) ∧ j ≠
    Od.LU_COMMITS n ∧ j ≠ Od.LU_DIR_SIGNS n ∧ j ≠ Od.LU_LU_CNT_STATUS n ∧ (∀ x, x < 24 → j ≠ Od.LU_REF x) ∧ (∀ x, x <
    8 → j ≠ Od.LU_SEC_CTRL n x) ∧ (∀ x, x < 8 → j ≠ Od.SOL_DUTY x) ∧ (∀ x, x < 8 → j ≠ Od.SOL_ENERGISATIONS x) ∧ (∀ x,
    x < 8 → j ≠ Od.SOL_SOL_CNT_STATUS x) ∧ (∀ x, x < 8 → j ≠ Od.SOL_SOL_STATUS x)) true s (s.stopUnit n) := by
  have hcommit (c : Option CommitSt) : State.Leaves [.od, .log, .lus] (fun j => j ≠ Od.CNT_CNT_OVF_MAP ∧
      (∀ x, x < 8 → j ≠ Od.LU_A1 n x) ∧ (∀ x, x < 8 → j ≠ Od.LU_A2 n x) ∧
      (∀ x, x < 8 → j ≠ Od.LU_B0 n x) ∧ (∀ x, x < 8 → j ≠ Od.LU_B1 n x) ∧
      (∀ x, x < 8 → j ≠ Od.LU_B2 n x) ∧ j ≠ Od.LU_COMMITS n ∧ j ≠ Od.LU_DIR_SIGNS n ∧
      j ≠ Od.LU_LU_CNT_STATUS n ∧ (∀ x, x < 8 → j ≠ Od.LU_SEC_CTRL n x)) true s
      (match c with | none => s | some c => s.commitAtOnce n c) := by
    cases c with
    | none => exact .refl
    | some c => exact .step .commitAtOnce .refl
  unfold State.stopUnit
  refine .ite .refl ?_
  dsimp only
  split
  · exact .step .deliver (.step .modLu (.step .luFlush (.step .modLu (.step (hcommit _) .refl))))
  · exact .step .ignoreUnit (.step .luFlush (.step .modLu (.step (hcommit _) .refl)))
theorem State.Leaves.luInit {s : State} {n : Fin 24} : State.Leaves [.lus] (fun _ => True) false s (s.luInit n) := by
  unfold State.luInit
  refine .modLu fun e he => ?_
  dsimp only at he
  split at he
  · exact he
  · exact he
theorem State.Leaves.startUnit {s : State} {n : Fin 24} : State.Leaves [.od, .lus] (fun j => j ≠ Od.LU_DIR_SIGNS n)
    false s (s.startUnit n) := by
  unfold State.startUnit
  exact .ite .refl (.ite (.step .modLu .refl) (.step .setDirSigns (.step .modLu (.step .luInit .refl))))
theorem State.Leaves.luSettle {s : State} {n : Fin 24} : State.Leaves [.od, .log, .links, .legs, .traction, .lus,
    .stageIn, .lvCommand, .gbx] (fun j => (∀ x, x < 8 → j ≠ Od.AX_TQ_REF x) ∧ j ≠ Od.CNT_CNT_OVF_MAP ∧ j ≠
    Od.DCL_CHOP_DUTY ∧ j ≠ Od.DCL_DCL_STATUS ∧ (∀ x, x < 8 → j ≠ Od.LU_A1 n x) ∧ (∀ x, x < 8 → j ≠ Od.LU_A2 n x) ∧ (∀
    x, x < 8 → j ≠ Od.LU_B0 n x) ∧ (∀ x, x < 8 → j ≠ Od.LU_B1 n x) ∧ (∀ x, x < 8 → j ≠ Od.LU_B2 n x) ∧ j ≠
    Od.LU_COMMITS n ∧ j ≠ Od.LU_DIR_SIGNS n ∧ j ≠ Od.LU_LU_CNT_STATUS n ∧ (∀ x, x < 24 → j ≠ Od.LU_REF x) ∧ (∀ x, x <
    8 → j ≠ Od.LU_SEC_CTRL n x) ∧ (∀ x, x < 8 → j ≠ Od.SOL_DUTY x) ∧ (∀ x, x < 8 → j ≠ Od.SOL_ENERGISATIONS x) ∧ (∀ x,
    x < 8 → j ≠ Od.SOL_SOL_CNT_STATUS x) ∧ (∀ x, x < 8 → j ≠ Od.SOL_SOL_STATUS x)) true s (s.luSettle n) := by
  unfold State.luSettle
  exact .ite (.step .startUnit .refl) (.step .stopUnit .refl)
theorem State.Leaves.auxUnits {s : State} : State.Leaves [.od, .log, .links, .legs, .traction, .lus, .stageIn,
    .lvCommand, .gbx] (fun j => (∀ x, x < 8 → j ≠ Od.AX_TQ_REF x) ∧ j ≠ Od.CNT_CNT_OVF_MAP ∧ j ≠ Od.DCL_CHOP_DUTY ∧ j
    ≠ Od.DCL_DCL_STATUS ∧ (∀ x y, x < 24 → y < 8 → j ≠ Od.LU_A1 x y) ∧ (∀ x y, x < 24 → y < 8 → j ≠ Od.LU_A2 x y) ∧ (∀
    x y, x < 24 → y < 8 → j ≠ Od.LU_B0 x y) ∧ (∀ x y, x < 24 → y < 8 → j ≠ Od.LU_B1 x y) ∧ (∀ x y, x < 24 → y < 8 → j
    ≠ Od.LU_B2 x y) ∧ j ≠ Od.LU_COMMITS (16 : Fin 24) ∧ j ≠ Od.LU_COMMITS (17 : Fin 24) ∧ j ≠ Od.LU_COMMITS (22 : Fin
    24) ∧ j ≠ Od.LU_DIR_SIGNS (16 : Fin 24) ∧ j ≠ Od.LU_DIR_SIGNS (17 : Fin 24) ∧ j ≠ Od.LU_DIR_SIGNS (22 : Fin 24) ∧
    j ≠ Od.LU_LU_CNT_STATUS (16 : Fin 24) ∧ j ≠ Od.LU_LU_CNT_STATUS (17 : Fin 24) ∧ j ≠ Od.LU_LU_CNT_STATUS (22 : Fin
    24) ∧ (∀ x, x < 24 → j ≠ Od.LU_REF x) ∧ (∀ x, x < 8 → j ≠ Od.LU_SEC_CTRL (16 : Fin 24) x) ∧ (∀ x, x < 8 → j ≠
    Od.LU_SEC_CTRL (17 : Fin 24) x) ∧ (∀ x, x < 8 → j ≠ Od.LU_SEC_CTRL (22 : Fin 24) x) ∧ j ≠ Od.LV_LV_STATUS ∧ (∀ x,
    x < 8 → j ≠ Od.SOL_DUTY x) ∧ (∀ x, x < 8 → j ≠ Od.SOL_ENERGISATIONS x) ∧ (∀ x, x < 8 → j ≠ Od.SOL_SOL_CNT_STATUS
    x) ∧ (∀ x, x < 8 → j ≠ Od.SOL_SOL_STATUS x)) true s (s.auxUnits) := by
  unfold State.auxUnits
  exact .when (fun _ => (.step .setBit .refl)) (.step .luSettle (.step .luSettle (.step .luSettle .refl)))
theorem State.Leaves.setBatSw {s : State} {m : Nat} : State.Leaves [.od, .log, .links, .legs, .traction, .lus, .stageIn,
    .lvCommand, .gbx] (fun j => (∀ x, x < 8 → j ≠ Od.AX_TQ_REF x) ∧ j ≠ Od.BKP_BKP15 ∧ j ≠ Od.CNT_CNT_OVF_MAP ∧ j ≠
    Od.DCL_CHOP_DUTY ∧ j ≠ Od.DCL_DCL_STATUS ∧ (∀ x y, x < 24 → y < 8 → j ≠ Od.LU_A1 x y) ∧ (∀ x y, x < 24 → y < 8 → j
    ≠ Od.LU_A2 x y) ∧ (∀ x y, x < 24 → y < 8 → j ≠ Od.LU_B0 x y) ∧ (∀ x y, x < 24 → y < 8 → j ≠ Od.LU_B1 x y) ∧ (∀ x
    y, x < 24 → y < 8 → j ≠ Od.LU_B2 x y) ∧ j ≠ Od.LU_COMMITS (16 : Fin 24) ∧ j ≠ Od.LU_COMMITS (17 : Fin 24) ∧ j ≠
    Od.LU_COMMITS (22 : Fin 24) ∧ j ≠ Od.LU_DIR_SIGNS (16 : Fin 24) ∧ j ≠ Od.LU_DIR_SIGNS (17 : Fin 24) ∧ j ≠
    Od.LU_DIR_SIGNS (22 : Fin 24) ∧ j ≠ Od.LU_LU_CNT_STATUS (16 : Fin 24) ∧ j ≠ Od.LU_LU_CNT_STATUS (17 : Fin 24) ∧ j
    ≠ Od.LU_LU_CNT_STATUS (22 : Fin 24) ∧ (∀ x, x < 24 → j ≠ Od.LU_REF x) ∧ (∀ x, x < 8 → j ≠ Od.LU_SEC_CTRL (16 : Fin
    24) x) ∧ (∀ x, x < 8 → j ≠ Od.LU_SEC_CTRL (17 : Fin 24) x) ∧ (∀ x, x < 8 → j ≠ Od.LU_SEC_CTRL (22 : Fin 24) x) ∧ j
    ≠ Od.LV_BAT_SW_MODE ∧ j ≠ Od.LV_LV_STATUS ∧ (∀ x, x < 8 → j ≠ Od.SOL_DUTY x) ∧ (∀ x, x < 8 → j ≠
    Od.SOL_ENERGISATIONS x) ∧ (∀ x, x < 8 → j ≠ Od.SOL_SOL_CNT_STATUS x) ∧ (∀ x, x < 8 → j ≠ Od.SOL_SOL_STATUS x))
    true s (s.setBatSw m) := by
  unfold State.setBatSw
  exact .step .auxUnits (.step .setBit (.step .setN .refl))
theorem State.Leaves.putBatSw {s : State} {m : Nat} : State.Leaves [.od, .log, .links, .legs, .traction, .lus, .stageIn,
    .lvCommand, .gbx] (fun j => (∀ x, x < 8 → j ≠ Od.AX_TQ_REF x) ∧ j ≠ Od.BKP_BKP15 ∧ j ≠ Od.CNT_CNT_OVF_MAP ∧ j ≠
    Od.DCL_CHOP_DUTY ∧ j ≠ Od.DCL_DCL_STATUS ∧ (∀ x y, x < 24 → y < 8 → j ≠ Od.LU_A1 x y) ∧ (∀ x y, x < 24 → y < 8 → j
    ≠ Od.LU_A2 x y) ∧ (∀ x y, x < 24 → y < 8 → j ≠ Od.LU_B0 x y) ∧ (∀ x y, x < 24 → y < 8 → j ≠ Od.LU_B1 x y) ∧ (∀ x
    y, x < 24 → y < 8 → j ≠ Od.LU_B2 x y) ∧ j ≠ Od.LU_COMMITS (16 : Fin 24) ∧ j ≠ Od.LU_COMMITS (17 : Fin 24) ∧ j ≠
    Od.LU_COMMITS (22 : Fin 24) ∧ j ≠ Od.LU_DIR_SIGNS (16 : Fin 24) ∧ j ≠ Od.LU_DIR_SIGNS (17 : Fin 24) ∧ j ≠
    Od.LU_DIR_SIGNS (22 : Fin 24) ∧ j ≠ Od.LU_LU_CNT_STATUS (16 : Fin 24) ∧ j ≠ Od.LU_LU_CNT_STATUS (17 : Fin 24) ∧ j
    ≠ Od.LU_LU_CNT_STATUS (22 : Fin 24) ∧ (∀ x, x < 24 → j ≠ Od.LU_REF x) ∧ (∀ x, x < 8 → j ≠ Od.LU_SEC_CTRL (16 : Fin
    24) x) ∧ (∀ x, x < 8 → j ≠ Od.LU_SEC_CTRL (17 : Fin 24) x) ∧ (∀ x, x < 8 → j ≠ Od.LU_SEC_CTRL (22 : Fin 24) x) ∧ j
    ≠ Od.LV_BAT_SW_MODE ∧ j ≠ Od.LV_LV_STATUS ∧ (∀ x, x < 8 → j ≠ Od.SOL_DUTY x) ∧ (∀ x, x < 8 → j ≠
    Od.SOL_ENERGISATIONS x) ∧ (∀ x, x < 8 → j ≠ Od.SOL_SOL_CNT_STATUS x) ∧ (∀ x, x < 8 → j ≠ Od.SOL_SOL_STATUS x))
    true s (s.putBatSw m) := by
  unfold State.putBatSw
  exact .ite .refl (.step .setBatSw .refl)
theorem State.Leaves.modAux {s : State} {f : AuxSt → AuxSt} : State.Leaves [.aux] (fun _ => True) false s (s.modAux f)
    := by
  unfold State.modAux
  exact .step .with_aux .refl
theorem State.Leaves.noteSlewing {s : State} : State.Leaves [.od] (fun j => j ≠ Od.CNV_AUX_STATUS) false s
    (s.noteSlewing) := by
  unfold State.noteSlewing
  exact .step .setBit .refl
theorem State.Leaves.newVrCommand {s : State} : State.Leaves [.od] (fun j => j ≠ Od.CNV_AUX_STATUS ∧ j ≠
    Od.CNV_VR_TARGET) false s (s.newVrCommand) := by
  unfold State.newVrCommand
  exact .step .noteSlewing (.step .setQ .refl)
theorem State.Leaves.lowerVr {s : State} {v : Option Rat} : State.Leaves [.od, .aux] (fun j => j ≠ Od.CNV_AUX_STATUS ∧ j
    ≠ Od.CNV_VR_TARGET) false s (s.lowerVr v) := by
  unfold State.lowerVr
  exact .step .newVrCommand (.step .modAux .refl)
theorem State.Leaves.modChg {s : State} {f : ChgSt → ChgSt} : State.Leaves [.chg] (fun _ => True) false s (s.modChg f)
    := by
  unfold State.modChg
  exact .step .with_chg .refl
theorem State.Leaves.setLvState {s : State} {v : Nat} : State.Leaves [.od, .log, .chg] (fun j => j ≠ Od.LV_LV_STATE ∧ j
    ≠ Od.LV_LV_STATUS) false s (s.setLvState v) := by
  unfold State.setLvState
  exact .ite .refl (.step .modChg (.step .setBit (.step .setBit (.step .event (.step .setN .refl)))))
theorem State.Leaves.lvStop {s : State} : State.Leaves [.od, .log, .aux, .chg, .path] (fun j => j ≠ Od.CNV_AUX_STATUS
    ∧ j ≠ Od.CNV_VR_TARGET ∧ j ≠ Od.LV_LV_STATE ∧ j ≠ Od.LV_LV_STATUS) false s (s.lvStop) := by
  unfold State.lvStop
  exact .ite .refl (.step .modPath (.step .lowerVr (.step .modChg (.step .setLvState .refl))))
theorem State.Leaves.lvTimerClear {s : State} : State.Leaves [.od, .chg] (fun j => j ≠ Od.LV_LV_TIMER_min) false s
    (s.lvTimerClear) := by
  unfold State.lvTimerClear
  exact .step .modChg (.step .setQ .refl)
theorem State.Leaves.lvEnter {s : State} {st : Nat} : State.Leaves [.od, .log, .links, .legs, .traction, .lus, .stageIn,
    .lvCommand, .gbx, .aux, .chg, .path] (fun j => (∀ x, x < 8 → j ≠ Od.AX_TQ_REF x) ∧ j ≠ Od.BKP_BKP15 ∧ j ≠
    Od.CNT_CNT_OVF_MAP ∧ j ≠ Od.CNV_AUX_STATUS ∧ j ≠ Od.CNV_VR_TARGET ∧ j ≠ Od.DCL_CHOP_DUTY ∧ j ≠ Od.DCL_DCL_STATUS ∧
    (∀ x y, x < 24 → y < 8 → j ≠ Od.LU_A1 x y) ∧ (∀ x y, x < 24 → y < 8 → j ≠ Od.LU_A2 x y) ∧ (∀ x y, x < 24 → y < 8 →
    j ≠ Od.LU_B0 x y) ∧ (∀ x y, x < 24 → y < 8 → j ≠ Od.LU_B1 x y) ∧ (∀ x y, x < 24 → y < 8 → j ≠ Od.LU_B2 x y) ∧ j ≠
    Od.LU_COMMITS (16 : Fin 24) ∧ j ≠ Od.LU_COMMITS (17 : Fin 24) ∧ j ≠ Od.LU_COMMITS (22 : Fin 24) ∧ j ≠
    Od.LU_DIR_SIGNS (16 : Fin 24) ∧ j ≠ Od.LU_DIR_SIGNS (17 : Fin 24) ∧ j ≠ Od.LU_DIR_SIGNS (22 : Fin 24) ∧ j ≠
    Od.LU_LU_CNT_STATUS (16 : Fin 24) ∧ j ≠ Od.LU_LU_CNT_STATUS (17 : Fin 24) ∧ j ≠ Od.LU_LU_CNT_STATUS (22 : Fin 24)
    ∧ (∀ x, x < 24 → j ≠ Od.LU_REF x) ∧ (∀ x, x < 8 → j ≠ Od.LU_SEC_CTRL (16 : Fin 24) x) ∧ (∀ x, x < 8 → j ≠
    Od.LU_SEC_CTRL (17 : Fin 24) x) ∧ (∀ x, x < 8 → j ≠ Od.LU_SEC_CTRL (22 : Fin 24) x) ∧ j ≠ Od.LV_BAT_SW_MODE ∧ j ≠
    Od.LV_LV_STATE ∧ j ≠ Od.LV_LV_STATUS ∧ (∀ x, x < 8 → j ≠ Od.SOL_DUTY x) ∧ (∀ x, x < 8 → j ≠ Od.SOL_ENERGISATIONS
    x) ∧ (∀ x, x < 8 → j ≠ Od.SOL_SOL_CNT_STATUS x) ∧ (∀ x, x < 8 → j ≠ Od.SOL_SOL_STATUS x)) true s (s.lvEnter st) :=
    by
  unfold State.lvEnter
  exact .ite (.step .lowerVr (.step .modChg (.step .modPath (.when (fun _ => (.step .setBit .refl)) (.step .putBatSw
    (.step .setLvState .refl)))))) (.ite (.step .modChg (.step .modPath (.when (fun _ => (.step .setBit .refl)) (.step
    .putBatSw (.step .setLvState .refl))))) (.step .lowerVr (.step .modChg (.step .modPath (.when (fun _ => (.step
    .setBit .refl)) (.step .putBatSw (.step .setLvState .refl)))))))
theorem State.Leaves.lvCheck {s : State} : State.Leaves [.od, .log, .links, .legs, .traction, .lus, .stageIn,
    .lvCommand, .gbx, .aux, .chg, .path] (fun j => (∀ x, x < 8 → j ≠ Od.AX_TQ_REF x) ∧ j ≠ Od.BKP_BKP15 ∧ j ≠
    Od.CNT_CNT_OVF_MAP ∧ j ≠ Od.CNV_AUX_STATUS ∧ j ≠ Od.CNV_VR_TARGET ∧ j ≠ Od.DCL_CHOP_DUTY ∧ j ≠ Od.DCL_DCL_STATUS ∧
    (∀ x y, x < 24 → y < 8 → j ≠ Od.LU_A1 x y) ∧ (∀ x y, x < 24 → y < 8 → j ≠ Od.LU_A2 x y) ∧ (∀ x y, x < 24 → y < 8 →
    j ≠ Od.LU_B0 x y) ∧ (∀ x y, x < 24 → y < 8 → j ≠ Od.LU_B1 x y) ∧ (∀ x y, x < 24 → y < 8 → j ≠ Od.LU_B2 x y) ∧ j ≠
    Od.LU_COMMITS (16 : Fin 24) ∧ j ≠ Od.LU_COMMITS (17 : Fin 24) ∧ j ≠ Od.LU_COMMITS (22 : Fin 24) ∧ j ≠
    Od.LU_DIR_SIGNS (16 : Fin 24) ∧ j ≠ Od.LU_DIR_SIGNS (17 : Fin 24) ∧ j ≠ Od.LU_DIR_SIGNS (22 : Fin 24) ∧ j ≠
    Od.LU_LU_CNT_STATUS (16 : Fin 24) ∧ j ≠ Od.LU_LU_CNT_STATUS (17 : Fin 24) ∧ j ≠ Od.LU_LU_CNT_STATUS (22 : Fin 24)
    ∧ (∀ x, x < 24 → j ≠ Od.LU_REF x) ∧ (∀ x, x < 8 → j ≠ Od.LU_SEC_CTRL (16 : Fin 24) x) ∧ (∀ x, x < 8 → j ≠
    Od.LU_SEC_CTRL (17 : Fin 24) x) ∧ (∀ x, x < 8 → j ≠ Od.LU_SEC_CTRL (22 : Fin 24) x) ∧ j ≠ Od.LV_BAT_SW_MODE ∧ j ≠
    Od.LV_LV_STATE ∧ j ≠ Od.LV_LV_STATUS ∧ j ≠ Od.LV_LV_TIMER_min ∧ (∀ x, x < 8 → j ≠ Od.SOL_DUTY x) ∧ (∀ x, x < 8 → j
    ≠ Od.SOL_ENERGISATIONS x) ∧ (∀ x, x < 8 → j ≠ Od.SOL_SOL_CNT_STATUS x) ∧ (∀ x, x < 8 → j ≠ Od.SOL_SOL_STATUS x))
    true s (s.lvCheck) := by
  unfold State.lvCheck
  exact .step .lvEnter (.step .lvTimerClear .refl)
theorem State.Leaves.setFlag {s : State} {k : Nat} {b : Bool} : State.Leaves [.od] (fun j => j ≠ k) false s (s.setFlag k
    b) := by
  unfold State.setFlag
  exact .step .set .refl
theorem OkLeaves.lvEnableEffect {who : Requester} {v : Nat} {s : State} : OkLeaves [.od, .log, .links, .legs, .traction,
    .lus, .stageIn, .lvCommand, .gbx, .aux, .chg, .path] (fun _ => False) true s (State.lvEnableEffect who v s) := by
  unfold State.lvEnableEffect
  exact .refuseIf (.refuseIf (.ok (.ite (.ite (.step .lvCheck (.step .setFlag .refl)) (.step .setFlag .refl)) (.ite
    (.step .putBatSw (.step .modChg (.step .lvStop (.step .setFlag .refl)))) (.step .modChg (.step .lvStop (.step
    .setFlag .refl)))))))
theorem OkLeaves.exportEnEffect {who : Requester} {v : Nat} {s : State} : OkLeaves [.od] (fun _ => False) false s
    (State.exportEnEffect who v s) := by
  unfold State.exportEnEffect
  exact .refuseIf (.refuseIf (.ok (.step .setFlag .refl)))
theorem OkLeaves.chgModeEffect {who : Requester} {v : Nat} {s : State} : OkLeaves [.od] (fun _ => False) false s
    (State.chgModeEffect who v s) := by
  unfold State.chgModeEffect
  exact .refuseIf (.refuseIf (.ok (.step .setN .refl)))
theorem State.Leaves.modCrc {s : State} {n : Fin 4} {f : CrcUnit → CrcUnit} : State.Leaves [.crcs] (fun _ => True)
    false s (s.modCrc n f) := by
  unfold State.modCrc
  exact .step .with_crcs .refl
theorem State.Leaves.crcTouch {s : State} {n : Fin 4} : State.Leaves [.crcs] (fun _ => True) false s (s.crcTouch n) :=
    by
  unfold State.crcTouch
  exact .step .modCrc .refl
theorem OkLeaves.crcConfig {s : State} {who : Requester} {n : Fin 4} {sub : Nat} {v : Nat} : OkLeaves [.od, .crcs] (fun _
    => False) false s (s.crcConfig who n sub v) := by
  unfold State.crcConfig
  exact .refuseIf (.refuseIf (.ok (.step .crcTouch (.step .setN .refl))))
theorem OkLeaves.thresholdWrite {n : Nat} {sub : Nat} {v : Int} {s : State} : OkLeaves [.od] (fun _ => False) false s
    (State.thresholdWrite n sub v s) := by
  unfold State.thresholdWrite
  exact .refuseIf (.refuseIf (.ok (.step .setI .refl)))
theorem OkLeaves.sensorTypeWrite {n : Nat} {v : Nat} {s : State} : OkLeaves [.od] (fun _ => False) false s
    (State.sensorTypeWrite n v s) := by
  unfold State.sensorTypeWrite
  exact .refuseIf (.refuseIf (.ok (.step .setN .refl)))
theorem OkLeaves.periodEffect {k : Nat} {v : Nat} {s : State} : OkLeaves [.od] (fun _ => False) false s
    (State.periodEffect k v s) := by
  unfold State.periodEffect
  exact .refuseIf (.ok (.step .setN .refl))
theorem State.Leaves.chopperUnit {s : State} {k : Nat} : State.Leaves [.od] (fun _ => False) false s (s.chopperUnit k)
    := by
  unfold State.chopperUnit
  exact .when (fun _ => (.step .setQ .refl)) (.when (fun _ => (.step .setQ .refl)) .refl)
theorem OkLeaves.thresholdEffect {k : Nat} {v : Rat} {s : State} : OkLeaves [.od] (fun _ => False) false s
    (State.thresholdEffect k v s) := by
  unfold State.thresholdEffect
  exact .refuseIf (.refuseIf (.ok (.step .chopperUnit (.step .setQ .refl))))
theorem FnLeaves.ownEffect {who : Requester} {index sub : Nat} {v : Val} : FnLeaves [.od, .log, .links, .legs, .traction,
    .lus, .stageIn, .lvCommand, .gbx, .aux, .chg, .path, .crcs] (fun _ => False) true
    (Machine.State.ownEffect who index sub v) := by
  unfold State.ownEffect
  exact .ite (.some fun _ => .after .thresholdEffect .refl) (.ite (.some fun _ => .after .periodEffect .refl)
    (.ite (.some fun _ => .after .sensorTypeWrite .refl) (.ite (.some fun _ => .after .thresholdWrite .refl)
    (.ite (.some fun _ => .after .crcConfig .refl) (.ite (.some fun _ => .after .chgModeEffect .refl)
    (.ite (.some fun _ => .after .exportEnEffect .refl) (.ite (.some fun _ => .after .lvEnableEffect .refl)
    (.ite (.some fun _ => .after .outSpeedEffect .refl) .none))))))))
theorem State.Leaves.countWide {s : State} {k : Nat} : State.Leaves [.od] (fun j => j ≠ k) false s (s.countWide k) := by
  unfold State.countWide
  exact .step .setN .refl
theorem State.Leaves.setPyrBit {s : State} {b : Nat} {v : Bool} : State.Leaves [.od] (fun j => j ≠ Od.PYR_PYR_STATUS)
    false s (s.setPyrBit b v) := by
  unfold State.setPyrBit
  exact .step .setBit .refl
theorem State.Leaves.modPyr {s : State} {f : PyrSt → PyrSt} : State.Leaves [.pyr] (fun _ => True) false s (s.modPyr f)
    := by
  unfold State.modPyr
  exact .step .with_pyr .refl
theorem State.Leaves.leaveSplit {s : State} : State.Leaves [.od, .log, .pyr] (fun j => j ≠ Od.PYR_CONFIG_ACT ∧ j ≠
    Od.PYR_PYR_STATUS ∧ j ≠ Od.PYR_STARTUP_RESULT) false s (s.leaveSplit) := by
  unfold State.leaveSplit
  exact .step .setN (.step .setPyrBit (.step .setPyrBit (.step .modPyr (.step .setN (.step .event .refl)))))
theorem State.Leaves.soOff {s : State} : State.Leaves [.safety] (fun _ => True) false s (s.soOff) := by
  unfold State.soOff
  exact .each (fun _ _ _ => (.step .modOut .refl)) .refl
theorem State.Leaves.modConn {s : State} {k : Fin 16} {f : ConnSt → ConnSt} : State.Leaves [.conns] (fun _ => True)
    false s (s.modConn k f) := by
  unfold State.modConn
  exact .step .with_conns .refl
theorem State.Leaves.connOff {s : State} {k : Fin 16} : State.Leaves [.od, .conns] (fun j => j ≠ Od.HSF_CONN_STATE k)
    false s (s.connOff k) := by
  unfold State.connOff
  exact .step .modConn (.step .setN .refl)
theorem State.Leaves.connsOff {s : State} : State.Leaves [.od, .conns] (fun j => (∀ x, x < 16 → j ≠ Od.HSF_CONN_STATE
    x)) false s (s.connsOff) := by
  unfold State.connsOff
  exact .each (fun _ _ _ => (.step .connOff .refl)) .refl
theorem State.Leaves.refreshSf {s : State} : State.Leaves [.od] (fun j => j ≠ Od.SFS_DEMANDS ∧ (∀ x, x < 6 → j ≠
    Od.SFS_SF_STATE x)) false s (s.refreshSf) := by
  unfold State.refreshSf
  exact .step .setN (.each (fun _ _ _ => (.step .setN .refl)) .refl)
theorem State.Leaves.setField {s : State} {k : Nat} {lo : Nat} {w : Nat} {v : Nat} : State.Leaves [.od] (fun j => j ≠ k) false
    s (s.setField k lo w v) := by
  unfold State.setField
  exact .step .setN .refl
theorem State.Leaves.setFlt {s : State} {on : Bool} : State.Leaves [.od] (fun j => j ≠ Od.PYR_PYR_STATUS) false s
    (s.setFlt on) := by
  unfold State.setFlt
  exact .step .setBit (.step .setBit .refl)
theorem State.Leaves.modCell {s : State} {c : Cell} {f : CellSt → CellSt} : State.Leaves [.cells] (fun _ => True)
    false s (s.modCell c f) := by
  unfold State.modCell
  exact .step .with_cells .refl
theorem State.Leaves.modDrv {s : State} {d : Drive} {f : DriveSt → DriveSt} : State.Leaves [.drives] (fun _ => True)
    false s (s.modDrv d f) := by
  unfold State.modDrv
  exact .step .with_drives .refl
theorem State.Leaves.startArming {s : State} {d : Drive} {for_ : ArmFor} : State.Leaves [.drives, .cells] (fun _ =>
    True) false s (s.startArming d for_) := by
  unfold State.startArming
  exact .each (fun _ _ _ => (.step .modCell .refl)) (.step .modDrv .refl)
theorem State.Leaves.autoArm {s : State} {d : Drive} : State.Leaves [.drives, .cells] (fun _ => True) false s
    (s.autoArm d) := by
  unfold State.autoArm
  exact .ite (.step .startArming .refl) .refl
theorem State.Leaves.modSeq {s : State} {n : Fin 8} {f : SeqSt → SeqSt} : State.Leaves [.seqs] (fun _ => True) false s
    (s.modSeq n f) := by
  unfold State.modSeq
  exact .step .with_seqs .refl
theorem State.Leaves.seqSuspend {s : State} {n : Fin 8} : State.Leaves [.od, .seqs] (fun j => j ≠ Od.CNT_CNT_OVF_MAP ∧
    (∀ x, x < 4 → j ≠ Od.GC_GC_STATUS x) ∧ (∀ x, x < 4 → j ≠ Od.GC_SUSPENDS x)) false s (s.seqSuspend n) := by
  unfold State.seqSuspend
  exact .step .count (.step .modSeq .refl)
theorem State.Leaves.seqStart {s : State} {n : Fin 8} : State.Leaves [.seqs] (fun _ => True) false s (s.seqStart n) :=
    by
  unfold State.seqStart
  exact .step .modSeq .refl
theorem State.Leaves.seqLaunch {s : State} {n : Fin 8} : State.Leaves [.seqs] (fun _ => True) false s (s.seqLaunch n)
    := by
  unfold State.seqLaunch
  exact .step .modSeq (.step .seqStart .refl)
theorem State.Leaves.seqOverrun {s : State} {n : Fin 8} : State.Leaves [.od, .log, .seqs] (fun j => j ≠
    Od.CNT_CNT_OVF_MAP ∧ j ≠ Od.SQ_SQ_STATUS n ∧ j ≠ Od.SQ_TRIG_OVERRUNS n) false s (s.seqOverrun n) := by
  unfold State.seqOverrun
  exact .ite (.step .count .refl) (.step .event (.step .modSeq (.step .count .refl)))
theorem State.Leaves.seqTrigger {s : State} {n : Fin 8} : State.Leaves [.od, .log, .seqs] (fun j => j ≠
    Od.CNT_CNT_OVF_MAP ∧ (∀ x, x < 4 → j ≠ Od.GC_GC_STATUS x) ∧ (∀ x, x < 4 → j ≠ Od.GC_SUSPENDS x) ∧ j ≠
    Od.SQ_SQ_STATUS n ∧ j ≠ Od.SQ_TRIG_OVERRUNS n) false s (s.seqTrigger n) := by
  unfold State.seqTrigger
  exact .ite .refl (.ite (.step .seqOverrun .refl) (.ite (.ite (.step .seqLaunch (.step .modSeq .refl)) (.ite (.step
    .seqLaunch (.step .seqSuspend .refl)) (.step .modSeq .refl))) (.step .seqLaunch .refl)))
theorem State.Leaves.seqResume {s : State} {n : Fin 8} : State.Leaves [.od, .log, .seqs] (fun j => j ≠
    Od.CNT_CNT_OVF_MAP ∧ (∀ x, x < 4 → j ≠ Od.GC_GC_STATUS x) ∧ (∀ x, x < 4 → j ≠ Od.GC_SUSPENDS x) ∧ j ≠
    Od.SQ_SQ_STATUS n ∧ j ≠ Od.SQ_TRIG_OVERRUNS n) false s (s.seqResume n) := by
  unfold State.seqResume
  exact .ite (.step .seqTrigger .refl) .refl
theorem State.Leaves.startUnits {s : State} {d : Drive} : State.Leaves [.od, .lus] (fun j => (∀ x, x < 24 → j ≠
    Od.LU_DIR_SIGNS x)) false s (s.startUnits d) := by
  unfold State.startUnits
  exact .each (fun _ _ _ => (.ite (.step .startUnit .refl) .refl)) .refl
theorem State.Leaves.countAsc {s : State} {c : Cell} : State.Leaves [.od, .cells] (fun j => j ≠ Od.CNT_CNT_OVF_MAP ∧ j
    ≠ Od.OBS_ASC_TIME_ms c ∧ j ≠ Od.OBS_OBS_CNT_STATUS c) false s (s.countAsc c) := by
  unfold State.countAsc
  exact .ite (.step .modCell (.step .countBy .refl)) .refl
theorem State.Leaves.spoilSample {s : State} {l : Leg} : State.Leaves [.od] (fun j => j ≠ Od.SH_CH_STATUS l) false s
    (s.spoilSample l) := by
  unfold State.spoilSample
  exact by split; exacts [(.ite (.step .setBit .refl) .refl), .refl]
theorem State.Leaves.setLeg {s : State} {l : Leg} {lv : LegLevel} : State.Leaves [.od, .legs] (fun j => j ≠
    Od.SH_CH_STATUS l) false s (s.setLeg l lv) := by
  unfold State.setLeg
  exact .ite .refl (.step .modLeg (.step .spoilSample .refl))
theorem State.Leaves.setLegs {s : State} {c : Cell} {lv : LegLevel} : State.Leaves [.od, .legs] (fun j => (∀ x, x < 50
    → j ≠ Od.SH_CH_STATUS x)) false s (s.setLegs c lv) := by
  unfold State.setLegs
  exact .each (fun _ _ _ => (.step .setLeg .refl)) .refl
theorem State.Leaves.stopLegs {s : State} {c : Cell} : State.Leaves [.od, .legs] (fun j => (∀ x, x < 50 → j ≠
    Od.SH_CH_STATUS x)) false s (s.stopLegs c) := by
  unfold State.stopLegs
  exact .each (fun _ _ _ => (.step .modLeg .refl)) (.step .setLegs .refl)
theorem State.Leaves.offCell {s : State} {c : Cell} : State.Leaves [.od, .cells, .legs] (fun j => j ≠
    Od.CNT_CNT_OVF_MAP ∧ j ≠ Od.OBS_ASC_TIME_ms c ∧ j ≠ Od.OBS_OBS_CNT_STATUS c ∧ (∀ x, x < 50 → j ≠ Od.SH_CH_STATUS
    x)) false s (s.offCell c) := by
  unfold State.offCell
  exact .step .modCell (.step .stopLegs (.step .countAsc .refl))
theorem State.Leaves.saveLegs {s : State} {c : Cell} : State.Leaves [.store] (fun _ => True) false s (s.saveLegs c) :=
    by
  unfold State.saveLegs
  exact .step .with_store .refl
theorem State.Leaves.clearTorque {s : State} {d : Drive} : State.Leaves [.od] (fun j => (d.isTraction = true → j ≠
    Od.TR_TQ_RAMP d.num) ∧ (d.isTraction = true → j ≠ Od.TR_TQ_SET d.num)) false s (s.clearTorque d) := by
  unfold State.clearTorque
  exact .iteOf (fun hd => .step .setQ (.step .setQ .refl (by simp +contextual only [hd, ne_eq, not_false_eq_true, and_self, implies_true, Fin.val_lt_of_le, Nat.reduceLeDiff, Nat.reduceLT])) (by simp +contextual only [hd, ne_eq, not_false_eq_true, and_self, implies_true, Fin.val_lt_of_le, Nat.reduceLeDiff, Nat.reduceLT])) fun _ => .refl
theorem State.Leaves.lastEvent {s : State} {d : Drive} {code : Nat} : State.Leaves [.log] (fun _ => True) false s
    (s.lastEvent d code) := by
  unfold State.lastEvent
  exact .step .with_log .refl
theorem State.Leaves.modAx {s : State} {n : Axis} {f : AxisSt → AxisSt} : State.Leaves [.axes] (fun _ => True) false s
    (s.modAx n f) := by
  unfold State.modAx
  exact .step .with_axes .refl
theorem State.Leaves.coastCell {s : State} {c : Cell} : State.Leaves [.od, .cells, .legs] (fun j => j ≠
    Od.CNT_CNT_OVF_MAP ∧ j ≠ Od.OBS_ASC_TIME_ms c ∧ j ≠ Od.OBS_OBS_CNT_STATUS c ∧ (∀ x, x < 50 → j ≠ Od.SH_CH_STATUS
    x)) false s (s.coastCell c) := by
  unfold State.coastCell
  exact .ite .refl (.step .modCell (.step .stopLegs (.step .countAsc .refl)))
theorem State.Leaves.endTest {s : State} {n : Axis} : State.Leaves [.od, .cells, .legs, .axes] (fun j => j ≠
    Od.CNT_CNT_OVF_MAP ∧ (∀ x, x < 15 → j ≠ Od.OBS_ASC_TIME_ms x) ∧ (∀ x, x < 15 → j ≠ Od.OBS_OBS_CNT_STATUS x) ∧ j ≠
    Od.OBS_OBS_STATUS n ∧ (∀ x, x < 50 → j ≠ Od.SH_CH_STATUS x)) false s (s.endTest n) := by
  unfold State.endTest
  exact .step .setBit (.step .modAx (.when (fun _ => (.step .coastCell .refl)) .refl))
theorem State.Leaves.modTr {s : State} {t : Fin 2} {f : TractionSt → TractionSt} : State.Leaves [.traction] (fun _ =>
    True) false s (s.modTr t f) := by
  unfold State.modTr
  exact .step .with_traction .refl
theorem State.Leaves.endProbe {s : State} {t : Fin 2} : State.Leaves [.od, .cells, .legs, .axes, .traction] (fun j =>
    j ≠ Od.CNT_CNT_OVF_MAP ∧ (∀ x, x < 15 → j ≠ Od.OBS_ASC_TIME_ms x) ∧ (∀ x, x < 15 → j ≠ Od.OBS_OBS_CNT_STATUS x) ∧
    (∀ x, x < 8 → j ≠ Od.OBS_OBS_STATUS x) ∧ (∀ x, x < 50 → j ≠ Od.SH_CH_STATUS x)) false s (s.endProbe t) := by
  unfold State.endProbe
  exact .step .modTr (.each (fun _ _ _ => (.step .endTest .refl)) .refl)
theorem State.Leaves.abortIdent {s : State} {d : Drive} : State.Leaves [.od, .log, .cells, .legs, .axes, .traction]
    (fun j => j ≠ Od.CNT_CNT_OVF_MAP ∧ (∀ x, x < 15 → j ≠ Od.OBS_ASC_TIME_ms x) ∧ (∀ x, x < 8 → j ≠ Od.OBS_ID_CMD x) ∧
    (∀ x, x < 8 → j ≠ Od.OBS_ID_STATUS x) ∧ (∀ x, x < 15 → j ≠ Od.OBS_OBS_CNT_STATUS x) ∧ (∀ x, x < 8 → j ≠
    Od.OBS_OBS_STATUS x) ∧ (∀ x, x < 50 → j ≠ Od.SH_CH_STATUS x)) false s (s.abortIdent d) := by
  unfold State.abortIdent
  exact .ite (.each (fun _ _ _ => (.ite (.step .event (.step .setN (.step .setN (.step .setBit (.step .modAx (.step
    .endTest (.step .endProbe .refl))))))) .refl)) .refl) .refl
theorem State.Leaves.stopUnits {s : State} {d : Drive} : State.Leaves [.od, .log, .links, .legs, .traction, .lus,
    .stageIn, .lvCommand, .gbx] (fun j => noReaction j) true s (s.stopUnits d) := by
  unfold State.stopUnits
  exact .each (fun _ _ _ => (.ite (.stepR .stopUnit .refl) .refl)) .refl
theorem State.Leaves.modDcl {s : State} {f : DclSt → DclSt} : State.Leaves [.dcl] (fun _ => True) false s (s.modDcl f)
    := by
  unfold State.modDcl
  exact .step .with_dcl .refl
theorem State.Leaves.dischargeStop {s : State} {st : Nat} : State.Leaves [.od, .drives, .cells, .legs, .dcl] (fun j => j
    ≠ Od.CNT_CNT_OVF_MAP ∧ j ≠ Od.DCL_CHOP_DUTY ∧ j ≠ Od.DCL_DCL_STATUS ∧ j ≠ Od.DCL_DISCH_STATE ∧ j ≠
    Od.OBS_ASC_TIME_ms (14 : Fin 15) ∧ j ≠ Od.OBS_OBS_CNT_STATUS (14 : Fin 15) ∧ (∀ x, x < 50 → j ≠ Od.SH_CH_STATUS
    x)) false s (s.dischargeStop st) := by
  unfold State.dischargeStop
  exact .ite .refl (.ite (.step .setDuty (.ite (.step .modDcl (.step .setBit (.step .setN (.ite (.step .modDrv .refl)
    .refl)))) (.step .offCell (.step .modDcl (.step .setBit (.step .setN (.ite (.step .modDrv .refl) .refl)))))))
    (.step .setDuty (.step .modDcl (.step .setBit (.step .setN (.ite (.step .modDrv .refl) .refl))))))
theorem State.Leaves.pawlTrack {s : State} {t : Fin 2} : State.Leaves [.gbx] (fun _ => True) false s (s.pawlTrack t)
    := by
  unfold State.pawlTrack
  exact .step .modSide .refl
theorem State.Leaves.setPark {s : State} {t : Fin 2} {p : Nat} : State.Leaves [.od, .gbx] (fun j => j ≠
    Od.PRK_PARK_STATE t) false s (s.setPark t p) := by
  unfold State.setPark
  exact .step .pawlTrack (.step .modSide (.step .setN .refl))
theorem State.Leaves.setGear {s : State} {t : Nat} {g : Nat} : State.Leaves [.od] (fun j => j ≠ Od.SHF_GEAR_STATE t) false
    s (s.setGear t g) := by
  unfold State.setGear
  exact .step .setN .refl
theorem State.Leaves.moveLimit {s : State} {t : Fin 2} : State.Leaves [.od, .gbx] (fun j => j ≠ Od.AXLE_LIMIT_AXLE_A +
    t) false s (s.moveLimit t) := by
  unfold State.moveLimit
  exact .step .modSide (.step .setQ .refl)
theorem State.Leaves.setPath {s : State} {a : Fin 4} {p : Nat} : State.Leaves [.od] (fun j => j ≠ Od.GBX_RECOVERY_PATH)
    false s (s.setPath a p) := by
  unfold State.setPath
  exact .step .setField .refl
theorem State.Leaves.setRec {s : State} {a : Fin 4} {r : RecSt} : State.Leaves [.gbx] (fun _ => True) false s
    (s.setRec a r) := by
  unfold State.setRec
  exact .step .with_gbx .refl
theorem State.Leaves.recAbort {s : State} : State.Leaves [.od, .gbx] (fun j => (∀ x, x < 2 → j ≠ Od.AXLE_LIMIT_AXLE_A
    + x) ∧ (∀ x, x < 8 → j ≠ Od.AX_TQ_REF x) ∧ j ≠ Od.GBX_RECOVERY_PATH ∧ (∀ x, x < 2 → j ≠ Od.PRK_PARK_STATE x) ∧ (∀
    x, x < 2 → j ≠ Od.SHF_GEAR_STATE x)) false s (s.recAbort) := by
  unfold State.recAbort
  exact .step .with_gbx (.each (fun _ _ _ => (.ite .refl (.ite (.step .moveLimit (.step .setGear (.step .setQ (.step
    .setRec (.step .setPath .refl))))) (.step .setPark (.step .setQ (.step .setRec (.step .setPath .refl))))))) .refl)
theorem State.Leaves.haltRecovery {s : State} : State.Leaves [.od, .gbx] (fun j => (∀ x, x < 2 → j ≠
    Od.AXLE_LIMIT_AXLE_A + x) ∧ (∀ x, x < 8 → j ≠ Od.AX_TQ_REF x) ∧ j ≠ Od.GBX_RECOVERY_PATH ∧ (∀ x, x < 2 → j ≠
    Od.PRK_PARK_STATE x) ∧ (∀ x, x < 2 → j ≠ Od.SHF_GEAR_STATE x)) false s (s.haltRecovery) := by
  unfold State.haltRecovery
  exact .ite (.step .recAbort .refl) .refl
theorem State.Leaves.haltSequences {s : State} {d : Drive} : State.Leaves [.od, .drives, .cells, .legs, .gbx, .dcl]
    (fun j => noReaction j) false s (s.haltSequences d) := by
  unfold State.haltSequences
  exact by split; exacts [(.stepR .haltRecovery .refl), (.stepR .dischargeStop .refl), .refl]
theorem State.Leaves.setRef {s : State} {a : Fin 4} {q : Rat} : State.Leaves [.od] (fun j => (∀ x, x < 24 → j ≠
    Od.LU_REF x)) false s (s.setRef a q) := by
  unfold State.setRef
  exact .ite (.step .setQ .refl fun _ hj => hj _ (by omega)) .refl
theorem State.Leaves.shiftIdle {s : State} {t : Fin 2} : State.Leaves [.od, .traction, .gbx] (fun j => j ≠
    Od.SHF_SHIFT_STEP t) false s (s.shiftIdle t) := by
  unfold State.shiftIdle
  exact .step .modSide (.step .modTr (.step .setN .refl))
theorem State.Leaves.shiftFail {s : State} {t : Fin 2} {gear : Nat} {code : Nat} : State.Leaves [.od, .log, .traction,
    .gbx] (fun j => j ≠ Od.CNT_CNT_OVF_MAP ∧ j ≠ Od.SHF_GEAR_STATE t ∧ j ≠ Od.SHF_SHIFT_CNT_STATUS ∧ j ≠
    Od.SHF_SHIFT_FAILS t ∧ j ≠ Od.SHF_SHIFT_STEP t) false s (s.shiftFail t gear code) := by
  unfold State.shiftFail
  exact .step .shiftIdle (.when (fun _ => (.step .lastEvent (.step .event .refl))) (.step .count (.step .setGear
    .refl)))
theorem State.Leaves.leaveShift {s : State} {t : Fin 2} : State.Leaves [.od, .log, .traction, .gbx] (fun j => j ≠
    Od.CNT_CNT_OVF_MAP ∧ (∀ x, x < 24 → j ≠ Od.LU_REF x) ∧ j ≠ Od.SHF_GEAR_STATE t ∧ j ≠ Od.SHF_SHIFT_CNT_STATUS ∧ j ≠
    Od.SHF_SHIFT_FAILS t ∧ j ≠ Od.SHF_SHIFT_STEP t) false s (s.leaveShift t) := by
  unfold State.leaveShift
  exact .ite (.step .shiftFail (.step .setRef .refl)) .refl
theorem State.Leaves.setHvState {s : State} {v : Nat} : State.Leaves [.od, .log, .chg] (fun j => j ≠ Od.HV_HV_STATE)
    false s (s.setHvState v) := by
  unfold State.setHvState
  exact .ite .refl (.step .modChg (.step .lastEvent (.step .event (.step .setN .refl))))
theorem State.Leaves.applyPhase {s : State} {c : Cell} {q : Rat} : State.Leaves [.od, .stageIn] (fun j => j ≠
    Od.CNV_DAB_PHASE) false s (s.applyPhase c q) := by
  unfold State.applyPhase
  exact .when (fun _ => (.step .setQ .refl)) (.step .with_stageIn .refl)
theorem State.Leaves.dropCmds {s : State} {cs : List Cell} : State.Leaves [.links] (fun _ => True) false s (s.dropCmds
    cs) := by
  unfold State.dropCmds
  exact .each (fun _ _ _ => (.step .modLink .refl)) .refl
theorem State.Leaves.chargerOff {s : State} : State.Leaves [.od, .links, .cells, .legs, .stageIn, .chg] (fun j => j ≠
    Od.CHR_CHG_STATUS ∧ j ≠ Od.CNT_CNT_OVF_MAP ∧ j ≠ Od.CNV_DAB_PHASE ∧ (∀ x, x < 15 → j ≠ Od.OBS_ASC_TIME_ms x) ∧ (∀
    x, x < 15 → j ≠ Od.OBS_OBS_CNT_STATUS x) ∧ (∀ x, x < 50 → j ≠ Od.SH_CH_STATUS x)) false s (s.chargerOff) := by
  unfold State.chargerOff
  exact .step .modChg (.step .setBit (.step .setBit (.step .setBit (.step .applyPhase (.step .applyPhase (.step
    .applyPhase (.step .dropCmds (.each (fun _ _ _ => (.ite (.step .coastCell .refl) .refl)) .refl))))))))
theorem State.Leaves.exportOff {s : State} : State.Leaves [.od, .log, .chg] (fun j => (∀ x, x < 3 → j ≠ Od.EXP_EXP_I
    x) ∧ j ≠ Od.EXP_EXP_I_N ∧ j ≠ Od.EXP_EXP_P ∧ j ≠ Od.EXP_EXP_S ∧ j ≠ Od.EXP_EXP_STATUS ∧ (∀ x, x < 3 → j ≠
    Od.EXP_EXP_V x)) false s (s.exportOff) := by
  unfold State.exportOff
  exact .when (fun _ => .step .lastEvent (.step .event .refl)) (.step .setQ (.step .setQ (.step .setQ (.each
    (fun i hi _ => .step .setQ (.step .setQ .refl (by simp +contextual only [List.mem_range.1 hi, ne_eq, not_false_eq_true, and_self, implies_true, Fin.val_lt_of_le, Nat.reduceLeDiff, Nat.reduceLT])) (by simp +contextual only [List.mem_range.1 hi, ne_eq, not_false_eq_true, and_self, implies_true, Fin.val_lt_of_le, Nat.reduceLeDiff, Nat.reduceLT]))
    (.step .modChg (.step .setBit (.step .setBit (.step .setBit (.step .setBit .refl)))))))))
theorem State.Leaves.relaysOpen {s : State} : State.Leaves [.od, .chg] (fun j => j ≠ Od.CHG_SESSION_STEP ∧ j ≠
    Od.CHR_AC_PHASES ∧ j ≠ Od.CHR_CHG_STATUS) false s (s.relaysOpen) := by
  unfold State.relaysOpen
  exact .step .setN (.step .setN (.step .setBit (.step .modChg (.step .setBit (.step .setBit (.step .setBit
    .refl))))))
theorem State.Leaves.leaveCharge {s : State} : State.Leaves [.od, .log, .links, .cells, .legs, .stageIn, .chg] (fun j
    => noReaction j) false s (s.leaveCharge) := by
  unfold State.leaveCharge
  exact .ite (.stepR .relaysOpen (.stepR .exportOff (.stepR .chargerOff .refl))) (.stepR .setHvState (.stepR
    .relaysOpen (.stepR .exportOff (.stepR .chargerOff .refl))))
theorem State.Leaves.setAuxMode {s : State} {m : Nat} : State.Leaves [.od, .log, .links, .legs, .traction, .lus,
    .stageIn, .lvCommand, .gbx, .aux] (fun j => (∀ x, x < 8 → j ≠ Od.AX_TQ_REF x) ∧ j ≠ Od.CNT_CNT_OVF_MAP ∧ j ≠
    Od.CNV_AUX_MODE ∧ j ≠ Od.CNV_AUX_STATUS ∧ j ≠ Od.DCL_CHOP_DUTY ∧ j ≠ Od.DCL_DCL_STATUS ∧ (∀ x y, x < 24 → y < 8 →
    j ≠ Od.LU_A1 x y) ∧ (∀ x y, x < 24 → y < 8 → j ≠ Od.LU_A2 x y) ∧ (∀ x y, x < 24 → y < 8 → j ≠ Od.LU_B0 x y) ∧ (∀ x
    y, x < 24 → y < 8 → j ≠ Od.LU_B1 x y) ∧ (∀ x y, x < 24 → y < 8 → j ≠ Od.LU_B2 x y) ∧ j ≠ Od.LU_COMMITS (16 : Fin
    24) ∧ j ≠ Od.LU_COMMITS (17 : Fin 24) ∧ j ≠ Od.LU_COMMITS (22 : Fin 24) ∧ j ≠ Od.LU_DIR_SIGNS (16 : Fin 24) ∧ j ≠
    Od.LU_DIR_SIGNS (17 : Fin 24) ∧ j ≠ Od.LU_DIR_SIGNS (22 : Fin 24) ∧ j ≠ Od.LU_LU_CNT_STATUS (16 : Fin 24) ∧ j ≠
    Od.LU_LU_CNT_STATUS (17 : Fin 24) ∧ j ≠ Od.LU_LU_CNT_STATUS (22 : Fin 24) ∧ (∀ x, x < 24 → j ≠ Od.LU_REF x) ∧ (∀
    x, x < 8 → j ≠ Od.LU_SEC_CTRL (16 : Fin 24) x) ∧ (∀ x, x < 8 → j ≠ Od.LU_SEC_CTRL (17 : Fin 24) x) ∧ (∀ x, x < 8 →
    j ≠ Od.LU_SEC_CTRL (22 : Fin 24) x) ∧ j ≠ Od.LV_LV_STATUS ∧ (∀ x, x < 8 → j ≠ Od.SOL_DUTY x) ∧ (∀ x, x < 8 → j ≠
    Od.SOL_ENERGISATIONS x) ∧ (∀ x, x < 8 → j ≠ Od.SOL_SOL_CNT_STATUS x) ∧ (∀ x, x < 8 → j ≠ Od.SOL_SOL_STATUS x))
    true s (s.setAuxMode m) := by
  unfold State.setAuxMode
  exact .ite .refl (.step .auxUnits (.step .modAux (.step .setBit (.step .lastEvent (.step .event (.step .setN
    .refl))))))
theorem State.Leaves.dabStop {s : State} : State.Leaves [.od, .links, .cells, .legs, .stageIn, .aux] (fun j => j ≠
    Od.CNT_CNT_OVF_MAP ∧ j ≠ Od.CNV_AUX_STATUS ∧ j ≠ Od.CNV_DAB_PHASE ∧ (∀ x, x < 15 → j ≠ Od.OBS_ASC_TIME_ms x) ∧ (∀
    x, x < 15 → j ≠ Od.OBS_OBS_CNT_STATUS x) ∧ (∀ x, x < 50 → j ≠ Od.SH_CH_STATUS x)) false s (s.dabStop) := by
  unfold State.dabStop
  exact .step .modAux (.step .applyPhase (.step .applyPhase (.step .setBit (.step .setBit (.step .dropCmds (.each (fun
    _ _ _ => (.ite (.step .coastCell .refl) .refl)) .refl))))))
theorem State.Leaves.towStop {s : State} : State.Leaves [.od, .cells, .legs] (fun j => j ≠ Od.CNT_CNT_OVF_MAP ∧ j ≠
    Od.CNV_AUX_STATUS ∧ j ≠ Od.OBS_ASC_TIME_ms (10 : Fin 15) ∧ j ≠ Od.OBS_OBS_CNT_STATUS (10 : Fin 15) ∧ (∀ x, x < 50
    → j ≠ Od.SH_CH_STATUS x)) false s (s.towStop) := by
  unfold State.towStop
  exact .ite (.step .setBit (.step .coastCell .refl)) .refl
theorem State.Leaves.setVrSource {s : State} {v : Nat} : State.Leaves [.od] (fun j => j ≠ Od.LV_VR_SOURCE) false s
    (s.setVrSource v) := by
  unfold State.setVrSource
  exact .step .setN .refl
theorem State.Leaves.handOver {s : State} : State.Leaves [.od, .log, .links, .legs, .traction, .lus, .stageIn,
    .lvCommand, .gbx, .aux, .chg, .path] (fun j => (∀ x, x < 8 → j ≠ Od.AX_TQ_REF x) ∧ j ≠ Od.BKP_BKP15 ∧ j ≠
    Od.CNT_CNT_OVF_MAP ∧ j ≠ Od.CNV_AUX_STATUS ∧ j ≠ Od.CNV_VR_TARGET ∧ j ≠ Od.DCL_CHOP_DUTY ∧ j ≠ Od.DCL_DCL_STATUS ∧
    (∀ x y, x < 24 → y < 8 → j ≠ Od.LU_A1 x y) ∧ (∀ x y, x < 24 → y < 8 → j ≠ Od.LU_A2 x y) ∧ (∀ x y, x < 24 → y < 8 →
    j ≠ Od.LU_B0 x y) ∧ (∀ x y, x < 24 → y < 8 → j ≠ Od.LU_B1 x y) ∧ (∀ x y, x < 24 → y < 8 → j ≠ Od.LU_B2 x y) ∧ j ≠
    Od.LU_COMMITS (16 : Fin 24) ∧ j ≠ Od.LU_COMMITS (17 : Fin 24) ∧ j ≠ Od.LU_COMMITS (22 : Fin 24) ∧ j ≠
    Od.LU_DIR_SIGNS (16 : Fin 24) ∧ j ≠ Od.LU_DIR_SIGNS (17 : Fin 24) ∧ j ≠ Od.LU_DIR_SIGNS (22 : Fin 24) ∧ j ≠
    Od.LU_LU_CNT_STATUS (16 : Fin 24) ∧ j ≠ Od.LU_LU_CNT_STATUS (17 : Fin 24) ∧ j ≠ Od.LU_LU_CNT_STATUS (22 : Fin 24)
    ∧ (∀ x, x < 24 → j ≠ Od.LU_REF x) ∧ (∀ x, x < 8 → j ≠ Od.LU_SEC_CTRL (16 : Fin 24) x) ∧ (∀ x, x < 8 → j ≠
    Od.LU_SEC_CTRL (17 : Fin 24) x) ∧ (∀ x, x < 8 → j ≠ Od.LU_SEC_CTRL (22 : Fin 24) x) ∧ j ≠ Od.LV_BAT_SW_MODE ∧ j ≠
    Od.LV_HANDOVERS ∧ j ≠ Od.LV_LV_CNT_STATUS ∧ j ≠ Od.LV_LV_STATE ∧ j ≠ Od.LV_LV_STATUS ∧ j ≠ Od.LV_VR_SOURCE ∧ (∀ x,
    x < 8 → j ≠ Od.SOL_DUTY x) ∧ (∀ x, x < 8 → j ≠ Od.SOL_ENERGISATIONS x) ∧ (∀ x, x < 8 → j ≠ Od.SOL_SOL_CNT_STATUS
    x) ∧ (∀ x, x < 8 → j ≠ Od.SOL_SOL_STATUS x)) true s (s.handOver) := by
  unfold State.handOver
  exact .ite (.step .modPath (.step .setVrSource (.step .lvStop .refl))) (.step .modPath (.step .event (.step .count
    (.step .setVrSource (.step .setBatSw (.step .lvStop .refl))))))
theorem State.Leaves.handBackWait {s : State} : State.Leaves [.od, .path] (fun j => j ≠ Od.LV_LV_STATUS) false s
    (s.handBackWait) := by
  unfold State.handBackWait
  exact .step .modPath (.step .setBit .refl)
theorem State.Leaves.buckLost {s : State} : State.Leaves [.od, .log, .links, .legs, .traction, .lus, .stageIn,
    .lvCommand, .gbx, .aux, .chg, .path] (fun j => (∀ x, x < 8 → j ≠ Od.AX_TQ_REF x) ∧ j ≠ Od.BKP_BKP15 ∧ j ≠
    Od.CNT_CNT_OVF_MAP ∧ j ≠ Od.CNV_AUX_STATUS ∧ j ≠ Od.CNV_VR_TARGET ∧ j ≠ Od.DCL_CHOP_DUTY ∧ j ≠ Od.DCL_DCL_STATUS ∧
    (∀ x y, x < 24 → y < 8 → j ≠ Od.LU_A1 x y) ∧ (∀ x y, x < 24 → y < 8 → j ≠ Od.LU_A2 x y) ∧ (∀ x y, x < 24 → y < 8 →
    j ≠ Od.LU_B0 x y) ∧ (∀ x y, x < 24 → y < 8 → j ≠ Od.LU_B1 x y) ∧ (∀ x y, x < 24 → y < 8 → j ≠ Od.LU_B2 x y) ∧ j ≠
    Od.LU_COMMITS (16 : Fin 24) ∧ j ≠ Od.LU_COMMITS (17 : Fin 24) ∧ j ≠ Od.LU_COMMITS (22 : Fin 24) ∧ j ≠
    Od.LU_DIR_SIGNS (16 : Fin 24) ∧ j ≠ Od.LU_DIR_SIGNS (17 : Fin 24) ∧ j ≠ Od.LU_DIR_SIGNS (22 : Fin 24) ∧ j ≠
    Od.LU_LU_CNT_STATUS (16 : Fin 24) ∧ j ≠ Od.LU_LU_CNT_STATUS (17 : Fin 24) ∧ j ≠ Od.LU_LU_CNT_STATUS (22 : Fin 24)
    ∧ (∀ x, x < 24 → j ≠ Od.LU_REF x) ∧ (∀ x, x < 8 → j ≠ Od.LU_SEC_CTRL (16 : Fin 24) x) ∧ (∀ x, x < 8 → j ≠
    Od.LU_SEC_CTRL (17 : Fin 24) x) ∧ (∀ x, x < 8 → j ≠ Od.LU_SEC_CTRL (22 : Fin 24) x) ∧ j ≠ Od.LV_BAT_SW_MODE ∧ j ≠
    Od.LV_HANDOVERS ∧ j ≠ Od.LV_LV_CNT_STATUS ∧ j ≠ Od.LV_LV_STATE ∧ j ≠ Od.LV_LV_STATUS ∧ j ≠ Od.LV_VR_SOURCE ∧ (∀ x,
    x < 8 → j ≠ Od.SOL_DUTY x) ∧ (∀ x, x < 8 → j ≠ Od.SOL_ENERGISATIONS x) ∧ (∀ x, x < 8 → j ≠ Od.SOL_SOL_CNT_STATUS
    x) ∧ (∀ x, x < 8 → j ≠ Od.SOL_SOL_STATUS x)) true s (s.buckLost) := by
  unfold State.buckLost
  exact by split; exacts [(.ite (.step .handBackWait (.step .handOver .refl)) (.step .handOver .refl)), (.step
    .handBackWait (.step .setVrSource .refl)), .refl]
theorem State.Leaves.buckStop {s : State} : State.Leaves [.od, .log, .links, .cells, .legs, .traction, .lus, .stageIn,
    .lvCommand, .gbx, .aux, .chg, .path] (fun j => (∀ x, x < 8 → j ≠ Od.AX_TQ_REF x) ∧ j ≠ Od.BKP_BKP15 ∧ j ≠
    Od.CNT_CNT_OVF_MAP ∧ j ≠ Od.CNV_AUX_STATUS ∧ j ≠ Od.CNV_VR_TARGET ∧ j ≠ Od.DCL_CHOP_DUTY ∧ j ≠ Od.DCL_DCL_STATUS ∧
    (∀ x y, x < 24 → y < 8 → j ≠ Od.LU_A1 x y) ∧ (∀ x y, x < 24 → y < 8 → j ≠ Od.LU_A2 x y) ∧ (∀ x y, x < 24 → y < 8 →
    j ≠ Od.LU_B0 x y) ∧ (∀ x y, x < 24 → y < 8 → j ≠ Od.LU_B1 x y) ∧ (∀ x y, x < 24 → y < 8 → j ≠ Od.LU_B2 x y) ∧ j ≠
    Od.LU_COMMITS (16 : Fin 24) ∧ j ≠ Od.LU_COMMITS (17 : Fin 24) ∧ j ≠ Od.LU_COMMITS (22 : Fin 24) ∧ j ≠
    Od.LU_DIR_SIGNS (16 : Fin 24) ∧ j ≠ Od.LU_DIR_SIGNS (17 : Fin 24) ∧ j ≠ Od.LU_DIR_SIGNS (22 : Fin 24) ∧ j ≠
    Od.LU_LU_CNT_STATUS (16 : Fin 24) ∧ j ≠ Od.LU_LU_CNT_STATUS (17 : Fin 24) ∧ j ≠ Od.LU_LU_CNT_STATUS (22 : Fin 24)
    ∧ (∀ x, x < 24 → j ≠ Od.LU_REF x) ∧ (∀ x, x < 8 → j ≠ Od.LU_SEC_CTRL (16 : Fin 24) x) ∧ (∀ x, x < 8 → j ≠
    Od.LU_SEC_CTRL (17 : Fin 24) x) ∧ (∀ x, x < 8 → j ≠ Od.LU_SEC_CTRL (22 : Fin 24) x) ∧ j ≠ Od.LV_BAT_SW_MODE ∧ j ≠
    Od.LV_HANDOVERS ∧ j ≠ Od.LV_LV_CNT_STATUS ∧ j ≠ Od.LV_LV_STATE ∧ j ≠ Od.LV_LV_STATUS ∧ j ≠ Od.LV_VR_SOURCE ∧ j ≠
    Od.OBS_ASC_TIME_ms (10 : Fin 15) ∧ j ≠ Od.OBS_OBS_CNT_STATUS (10 : Fin 15) ∧ (∀ x, x < 50 → j ≠ Od.SH_CH_STATUS x)
    ∧ (∀ x, x < 8 → j ≠ Od.SOL_DUTY x) ∧ (∀ x, x < 8 → j ≠ Od.SOL_ENERGISATIONS x) ∧ (∀ x, x < 8 → j ≠
    Od.SOL_SOL_CNT_STATUS x) ∧ (∀ x, x < 8 → j ≠ Od.SOL_SOL_STATUS x)) true s (s.buckStop) := by
  unfold State.buckStop
  exact .ite (.step .buckLost (.step .setBit (.step .setBit (.step .setBit (.step .setBit (.step .setBit (.ite (.step
    .coastCell .refl) .refl))))))) .refl
theorem State.Leaves.leaveAux {s : State} : State.Leaves [.od, .log, .links, .cells, .legs, .traction, .lus, .stageIn,
    .lvCommand, .gbx, .aux, .chg, .path] (fun j => noReaction j) true s (s.leaveAux) := by
  unfold State.leaveAux
  exact .stepR .setAuxMode (.stepR .dabStop (.stepR .setBit (.stepR .buckStop (.stepR .towStop .refl))))
theorem State.Leaves.forkLost {s : State} {t : Fin 2} : State.Leaves [.od, .log, .traction, .gbx] (fun j => j ≠
    Od.AXLE_LIMIT_AXLE_A + t ∧ j ≠ Od.CNT_CNT_OVF_MAP ∧ j ≠ Od.SHF_GEAR_STATE t ∧ j ≠ Od.SHF_SHIFT_CNT_STATUS ∧ j ≠
    Od.SHF_SHIFT_FAILS t ∧ j ≠ Od.SHF_SHIFT_STEP t) false s (s.forkLost t) := by
  unfold State.forkLost
  exact .step .moveLimit (.ite (.step .shiftFail .refl) (.ite (.step .setGear (.step .shiftIdle .refl)) (.ite (.step
    .shiftIdle .refl) .refl)))
theorem State.Leaves.coastActuator {s : State} {a : Fin 4} : State.Leaves [.od, .cells, .legs, .gbx] (fun j => j ≠
    Od.CNT_CNT_OVF_MAP ∧ (∀ x, x < 15 → j ≠ Od.OBS_ASC_TIME_ms x) ∧ (∀ x, x < 15 → j ≠ Od.OBS_OBS_CNT_STATUS x) ∧ (∀
    x, x < 50 → j ≠ Od.SH_CH_STATUS x)) false s (s.coastActuator a) := by
  unfold State.coastActuator
  exact .ite (.step .coastCell (.step .with_gbx .refl)) (.step .with_gbx .refl)
theorem State.Leaves.engageActuator {s : State} {a : Fin 4} : State.Leaves [.od, .cells, .axes] (fun j => (∀ x, x < 8
    → j ≠ Od.AX_AXIS_STATUS x) ∧ (∀ x, x < 8 → j ≠ Od.AX_I_ALPHA x) ∧ (∀ x, x < 8 → j ≠ Od.AX_I_BETA x) ∧ (∀ x, x < 8
    → j ≠ Od.AX_PSI_ALPHA x) ∧ (∀ x, x < 8 → j ≠ Od.AX_PSI_BETA x) ∧ (∀ x, x < 8 → j ≠ Od.AX_TQ_REF x) ∧ (∀ x, x < 8 →
    j ≠ Od.OBS_OBS_STATUS x)) false s (s.engageActuator a) := by
  unfold State.engageActuator
  exact .ite .refl (.step .modAx (.step .setBit (.step .setField (.step .setBit (.step .setQ (.step .setQ (.step .setQ
    (.step .setQ (.step .setQ (.step .modCell .refl))))))))))
theorem State.Leaves.setSolenoidI {s : State} {i : Nat} {q : Rat} : State.Leaves [.od, .gbx] (fun j => (∀ x, x < 24 → j ≠
    Od.LU_REF x) ∧ (i < 8 → j ≠ Od.SOL_I_SET i) ∧ (i < 8 → j ≠ Od.SOL_SOL_STATUS i)) false s (s.setSolenoidI i q) :=
    by
  unfold State.setSolenoidI
  exact .iteOf (fun hi => .step .solTrack (.when (fun _ => .step .setQ .refl fun _ hj => hj.1 _ (by omega))
    (.step .setQ .refl (by simp +contextual only [hi, ne_eq, not_false_eq_true, and_self, implies_true, Fin.val_lt_of_le, Nat.reduceLeDiff, Nat.reduceLT])))) fun _ => .refl
theorem State.Leaves.setRecord {s : State} {a : Fin 4} {r : ForkRec} : State.Leaves [.gbx] (fun _ => True) false s
    (s.setRecord a r) := by
  unfold State.setRecord
  exact .step .with_gbx .refl
theorem State.Leaves.startMove {s : State} {a : Fin 4} : State.Leaves [.gbx] (fun _ => True) false s (s.startMove a)
    := by
  unfold State.startMove
  exact .step .setRecord .refl
theorem State.Leaves.parkUncommanded {s : State} {t : Fin 2} : State.Leaves [.od, .log, .cells, .legs, .axes, .gbx]
    (fun j => (∀ x, x < 8 → j ≠ Od.AX_AXIS_STATUS x) ∧ (∀ x, x < 8 → j ≠ Od.AX_I_ALPHA x) ∧ (∀ x, x < 8 → j ≠
    Od.AX_I_BETA x) ∧ (∀ x, x < 8 → j ≠ Od.AX_PSI_ALPHA x) ∧ (∀ x, x < 8 → j ≠ Od.AX_PSI_BETA x) ∧ (∀ x, x < 8 → j ≠
    Od.AX_TQ_REF x) ∧ j ≠ Od.CNT_CNT_OVF_MAP ∧ (∀ x, x < 24 → j ≠ Od.LU_REF x) ∧ (∀ x, x < 15 → j ≠ Od.OBS_ASC_TIME_ms
    x) ∧ (∀ x, x < 15 → j ≠ Od.OBS_OBS_CNT_STATUS x) ∧ (∀ x, x < 8 → j ≠ Od.OBS_OBS_STATUS x) ∧ j ≠
    Od.PRK_PARK_CNT_STATUS t ∧ j ≠ Od.PRK_PARK_STATE t ∧ j ≠ Od.PRK_UNCOMMANDED t ∧ (∀ x, x < 50 → j ≠ Od.SH_CH_STATUS
    x) ∧ (∀ x, x < 8 → j ≠ Od.SOL_I_SET x) ∧ (∀ x, x < 8 → j ≠ Od.SOL_SOL_STATUS x)) false s (s.parkUncommanded t) :=
    by
  unfold State.parkUncommanded
  exact .ite (.ite (.step .engageActuator (.step .setRef (.step .lastEvent (.step .event (.step .setSolenoidI (.step
    .startMove (.step .count (.step .setPark .refl)))))))) (.step .coastActuator (.step .lastEvent (.step .event
    (.step .setSolenoidI (.step .startMove (.step .count (.step .setPark .refl)))))))) .refl
theorem State.Leaves.solenoidOff {s : State} {i : Nat} : State.Leaves [.od, .log, .cells, .legs, .axes, .gbx] (fun j =>
    (∀ x, x < 8 → j ≠ Od.AX_AXIS_STATUS x) ∧ (∀ x, x < 8 → j ≠ Od.AX_I_ALPHA x) ∧ (∀ x, x < 8 → j ≠ Od.AX_I_BETA x) ∧
    (∀ x, x < 8 → j ≠ Od.AX_PSI_ALPHA x) ∧ (∀ x, x < 8 → j ≠ Od.AX_PSI_BETA x) ∧ (∀ x, x < 8 → j ≠ Od.AX_TQ_REF x) ∧ j
    ≠ Od.CNT_CNT_OVF_MAP ∧ (∀ x, x < 24 → j ≠ Od.LU_REF x) ∧ (∀ x, x < 15 → j ≠ Od.OBS_ASC_TIME_ms x) ∧ (∀ x, x < 15 →
    j ≠ Od.OBS_OBS_CNT_STATUS x) ∧ (∀ x, x < 8 → j ≠ Od.OBS_OBS_STATUS x) ∧ (∀ x, x < 2 → j ≠ Od.PRK_PARK_CNT_STATUS
    x) ∧ (∀ x, x < 2 → j ≠ Od.PRK_PARK_STATE x) ∧ (∀ x, x < 2 → j ≠ Od.PRK_UNCOMMANDED x) ∧ (∀ x, x < 50 → j ≠
    Od.SH_CH_STATUS x) ∧ (i < 8 → j ≠ Od.SOL_DUTY i) ∧ (i < 8 → j ≠ Od.SOL_ENERGISATIONS i) ∧ (∀ x, x < 8 → j ≠
    Od.SOL_I_SET x) ∧ (i < 8 → j ≠ Od.SOL_SOL_CNT_STATUS i) ∧ (∀ x, x < 8 → j ≠ Od.SOL_SOL_STATUS x)) false s
    (s.solenoidOff i) := by
  unfold State.solenoidOff
  exact by dsimp only; split; exacts [(.step .parkUncommanded (.step .setSolenoidDuty .refl)), (.step .setSolenoidDuty .refl)]
theorem State.Leaves.solenoidsOff {s : State} : State.Leaves [.od, .log, .cells, .legs, .axes, .gbx] (fun j => (∀ x, x
    < 8 → j ≠ Od.AX_AXIS_STATUS x) ∧ (∀ x, x < 8 → j ≠ Od.AX_I_ALPHA x) ∧ (∀ x, x < 8 → j ≠ Od.AX_I_BETA x) ∧ (∀ x, x
    < 8 → j ≠ Od.AX_PSI_ALPHA x) ∧ (∀ x, x < 8 → j ≠ Od.AX_PSI_BETA x) ∧ (∀ x, x < 8 → j ≠ Od.AX_TQ_REF x) ∧ j ≠
    Od.CNT_CNT_OVF_MAP ∧ (∀ x, x < 24 → j ≠ Od.LU_REF x) ∧ (∀ x, x < 15 → j ≠ Od.OBS_ASC_TIME_ms x) ∧ (∀ x, x < 15 → j
    ≠ Od.OBS_OBS_CNT_STATUS x) ∧ (∀ x, x < 8 → j ≠ Od.OBS_OBS_STATUS x) ∧ (∀ x, x < 2 → j ≠ Od.PRK_PARK_CNT_STATUS x)
    ∧ (∀ x, x < 2 → j ≠ Od.PRK_PARK_STATE x) ∧ (∀ x, x < 2 → j ≠ Od.PRK_UNCOMMANDED x) ∧ (∀ x, x < 50 → j ≠
    Od.SH_CH_STATUS x) ∧ (∀ x, x < 8 → j ≠ Od.SOL_DUTY x) ∧ (∀ x, x < 8 → j ≠ Od.SOL_ENERGISATIONS x) ∧ (∀ x, x < 8 →
    j ≠ Od.SOL_I_SET x) ∧ (∀ x, x < 8 → j ≠ Od.SOL_SOL_CNT_STATUS x) ∧ (∀ x, x < 8 → j ≠ Od.SOL_SOL_STATUS x)) false s
    (s.solenoidsOff) := by
  unfold State.solenoidsOff
  exact .each (fun i hi _ => .step .solenoidOff .refl (by simp +contextual only [List.mem_range.1 hi, ne_eq, not_false_eq_true, and_self, implies_true, Fin.val_lt_of_le, Nat.reduceLeDiff, Nat.reduceLT])) .refl
theorem State.Leaves.leaveGearbox {s : State} : State.Leaves [.od, .log, .cells, .legs, .axes, .traction, .gbx] (fun j
    => noReaction j) false s (s.leaveGearbox) := by
  unfold State.leaveGearbox
  exact .each (fun _ _ _ => (.stepR .forkLost .refl)) (.stepR .solenoidsOff (.each (fun _ _ _ => (.stepR
    .coastActuator .refl)) .refl))
theorem State.Leaves.leaveTraction {s : State} {t : Fin 2} : State.Leaves [.od, .cells, .legs, .axes, .traction] (fun
    j => j ≠ Od.CNT_CNT_OVF_MAP ∧ (∀ x, x < 15 → j ≠ Od.OBS_ASC_TIME_ms x) ∧ (∀ x, x < 15 → j ≠ Od.OBS_OBS_CNT_STATUS
    x) ∧ (∀ x, x < 8 → j ≠ Od.OBS_OBS_STATUS x) ∧ (∀ x, x < 50 → j ≠ Od.SH_CH_STATUS x)) false s (s.leaveTraction t)
    := by
  unfold State.leaveTraction
  exact .each (fun _ _ _ => (.step .setBit (.step .setBit (.step .modAx .refl)))) (.step .modTr (.step .endProbe
    .refl))
theorem State.Leaves.leaveActive {s : State} {d : Drive} : State.Leaves [.od, .log, .links, .cells, .legs, .axes,
    .traction, .lus, .stageIn, .lvCommand, .gbx, .aux, .chg, .path] (fun j => noReaction j) true s (s.leaveActive d)
    := by
  unfold State.leaveActive
  exact by split; exacts [(.stepR .leaveTraction (.stepR .leaveShift .refl)), (.stepR .leaveTraction (.stepR
    .leaveShift .refl)), (.step .leaveGearbox .refl), (.step .leaveAux .refl), (.step .leaveCharge .refl), (.stepR
    .setDuty .refl)]
theorem State.Leaves.goto {s : State} {d : Drive} {new : DriveState} {trig : Nat} : State.Leaves [.od, .log, .links,
    .drives, .cells, .legs, .store, .seqs, .axes, .traction, .lus, .stageIn, .lvCommand, .gbx, .dcl, .aux, .chg,
    .path] (fun j => noReaction j) true s (s.goto d new trig) := by
  unfold State.goto
  exact .ite .refl (.ite (.step .autoArm (.when (fun _ => (.stepR .seqResume .refl)) (.when (fun _ => (.stepR
    .startUnits .refl)) (.when (fun _ => (.each (fun _ _ _ => (.stepR .offCell .refl)) .refl)) (.when (fun _ => (.each
    (fun _ _ _ => (.step .saveLegs .refl)) .refl)) (.when (fun _ => (.stepR .clearTorque .refl)) (.step .lastEvent
    (.step .event (.when (fun _ => (.stepR .abortIdent .refl)) (.when (fun _ => (.step .stopUnits .refl)) (.when (fun
    _ => (.step .haltSequences .refl)) (.when (fun _ => (.stepR .leaveShift .refl)) (.when (fun _ => (.step
    .leaveActive .refl)) (.when (fun _ => (.each (fun _ _ _ => (.step .modCell .refl)) .refl)) (.step .modDrv
    .refl))))))))))))))) (.when (fun _ => (.stepR .seqResume .refl)) (.when (fun _ => (.stepR .startUnits .refl))
    (.when (fun _ => (.each (fun _ _ _ => (.stepR .offCell .refl)) .refl)) (.when (fun _ => (.each (fun _ _ _ =>
    (.step .saveLegs .refl)) .refl)) (.when (fun _ => (.stepR .clearTorque .refl)) (.step .lastEvent (.step .event
    (.when (fun _ => (.stepR .abortIdent .refl)) (.when (fun _ => (.step .stopUnits .refl)) (.when (fun _ => (.step
    .haltSequences .refl)) (.when (fun _ => (.stepR .leaveShift .refl)) (.when (fun _ => (.step .leaveActive .refl))
    (.when (fun _ => (.each (fun _ _ _ => (.step .modCell .refl)) .refl)) (.step .modDrv .refl)))))))))))))))
theorem State.Leaves.enterAsc {s : State} {c : Cell} : State.Leaves [.od, .log, .cells, .legs, .axes] (fun j => j ≠
    Od.CNT_CNT_OVF_MAP ∧ j ≠ Od.OBS_ASC_COUNT c ∧ j ≠ Od.OBS_OBS_CNT_STATUS c ∧ j ≠ Od.OBS_OBS_STATUS c ∧ (∀ x, x < 50
    → j ≠ Od.SH_CH_STATUS x)) false s (s.enterAsc c) := by
  unfold State.enterAsc
  exact .ite .refl (.step .event (.step .count (.step .setBit (.step .modAx (.step .modCell (.step .setLegs
    .refl))))))
theorem State.Leaves.removeSupplies {s : State} {d : Drive} : State.Leaves [.od, .log, .drives, .cells, .legs, .axes,
    .gbx, .dcl] (fun j => noReaction j ∧ (∀ x, x < 15 → j ≠ Od.CELL_SELFTEST_RESULT x) ∧ (∀ x, x < 15 → j ≠
    Od.OBS_ASC_COUNT x)) false s (s.removeSupplies d) := by
  unfold State.removeSupplies
  refine .each (fun c _ u => ?_) (.step .modDrv (.step .haltSequences .refl))
  have htest (b : Bool) : State.Leaves [.od] (fun j => ∀ x, x < 15 → j ≠ Od.CELL_SELFTEST_RESULT x) false u
      (u.when b fun s => s.setBit (Od.CELL_SELFTEST_RESULT c) 14 true) := .when (fun _ => .step .setBit .refl) .refl
  refine .iteOf (fun hc => .step .modCell ?_) fun _ => .stepR .offCell (.step (htest _) .refl)
  rcases hc with hasc | ⟨hlt, _⟩
  · rw [State.enterAsc, if_pos hasc]
    exact .step (htest _) .refl
  · have hlt' : c.val < 8 := by omega
    exact .step .enterAsc (.step (htest _) .refl) (by simp +contextual only [hlt', noReaction, ne_eq, not_false_eq_true, and_self, implies_true, Fin.val_lt_of_le, Nat.reduceLeDiff])
theorem State.Leaves.torqueOff {s : State} {d : Drive} : State.Leaves [.od, .log, .links, .drives, .cells, .legs,
    .store, .seqs, .axes, .traction, .lus, .stageIn, .lvCommand, .gbx, .dcl, .aux, .chg, .path] (fun j => noReaction j
    ∧ (∀ x, x < 15 → j ≠ Od.CELL_SELFTEST_RESULT x) ∧ (∀ x, x < 15 → j ≠ Od.OBS_ASC_COUNT x) ∧ j ≠
    Od.PYR_PYR_CNT_STATUS ∧ j ≠ Od.PYR_TQO_ASSERTIONS d.num) true s (s.torqueOff d) := by
  unfold State.torqueOff
  exact .ite (.step .removeSupplies (.step .modDrv (.when (fun _ => (.stepR .count .refl)) .refl))) (.step .goto
    (.step .removeSupplies (.step .modDrv (.when (fun _ => (.stepR .count .refl)) .refl))))
theorem State.Leaves.enterSplit {s : State} : State.Leaves [.od, .log, .links, .drives, .cells, .legs, .store, .seqs,
    .axes, .traction, .lus, .stageIn, .lvCommand, .gbx, .dcl, .aux, .chg, .path, .safety, .conns] (fun j => noReaction
    j ∧ (∀ x, x < 15 → j ≠ Od.CELL_SELFTEST_RESULT x) ∧ (∀ x, x < 16 → j ≠ Od.HSF_CONN_STATE x) ∧ (∀ x, x < 15 → j ≠
    Od.OBS_ASC_COUNT x) ∧ j ≠ Od.PYR_CONFIG_ACT ∧ j ≠ Od.PYR_PYR_CNT_STATUS ∧ j ≠ Od.PYR_PYR_STATUS ∧ (∀ x, x < 6 → j
    ≠ Od.PYR_TQO_ASSERTIONS x) ∧ j ≠ Od.SFS_DEMANDS ∧ (∀ x, x < 6 → j ≠ Od.SFS_SF_STATE x)) true s (s.enterSplit) :=
    by
  unfold State.enterSplit
  exact .stepR .refreshSf (.step .event (.stepR .connsOff (.step .soOff (.stepR .setFlt (.stepR .setN (.stepR
    .setField (.stepR .setPyrBit (.stepR .setPyrBit (.stepR .setPyrBit (.each (fun _ _ _ => (.step .torqueOff .refl))
    .refl))))))))))
theorem OkLeaves.configEffect {v : Nat} {s : State} : OkLeaves [.od, .log, .links, .drives, .cells, .legs, .store,
    .seqs, .axes, .traction, .lus, .stageIn, .lvCommand, .gbx, .dcl, .aux, .chg, .path, .pyr, .safety, .conns] (fun j
    => noReaction j ∧ (∀ x, x < 15 → j ≠ Od.CELL_SELFTEST_RESULT x) ∧ (∀ x, x < 16 → j ≠ Od.HSF_CONN_STATE x) ∧ (∀ x,
    x < 15 → j ≠ Od.OBS_ASC_COUNT x) ∧ j ≠ Od.PYR_CONFIG_ACT ∧ j ≠ Od.PYR_PYR_CNT_STATUS ∧ j ≠ Od.PYR_PYR_STATUS ∧ j ≠
    Od.PYR_STARTUP_RESULT ∧ (∀ x, x < 6 → j ≠ Od.PYR_TQO_ASSERTIONS x) ∧ j ≠ Od.SFS_DEMANDS ∧ (∀ x, x < 6 → j ≠
    Od.SFS_SF_STATE x)) true s (State.configEffect v s) := by
  unfold State.configEffect
  exact by split; exacts [(.refuseIf (.ok (.stepR .setPyrBit (.stepR .setPyrBit (.step .modPyr .refl))))), (.refuseIf
    (.ok (.stepR .setPyrBit (.step .modPyr .refl)))), (.refuseIf (.ok (.step .enterSplit .refl))), (.refuseIf (.ok
    (.stepR .leaveSplit .refl))), .error]
theorem State.Leaves.writeConfigReq {s : State} {who : Requester} {v : Nat} : State.Leaves [.od, .out, .log, .links,
    .drives, .cells, .legs, .store, .seqs, .axes, .traction, .lus, .stageIn, .lvCommand, .gbx, .dcl, .aux, .chg,
    .path, .pyr, .safety, .conns, .sessions] (fun j => noReaction j ∧ noAccess j ∧ (∀ x, x < 15 → j ≠
    Od.CELL_SELFTEST_RESULT x) ∧ (∀ x, x < 16 → j ≠ Od.HSF_CONN_STATE x) ∧ (∀ x, x < 15 → j ≠ Od.OBS_ASC_COUNT x) ∧ j
    ≠ Od.PYR_CONFIG_ACT ∧ j ≠ Od.PYR_PYR_CNT_STATUS ∧ j ≠ Od.PYR_PYR_STATUS ∧ j ≠ Od.PYR_STARTUP_RESULT ∧ (∀ x, x < 6
    → j ≠ Od.PYR_TQO_ASSERTIONS x) ∧ j ≠ Od.SFS_DEMANDS ∧ (∀ x, x < 6 → j ≠ Od.SFS_SF_STATE x)) true s
    (s.writeConfigReq who v) := by
  unfold State.writeConfigReq
  exact .request (fun _ => (.after .configEffect .refl)) .refl
theorem State.Leaves.refreshFlt {s : State} : State.Leaves [.od] (fun j => j ≠ Od.PYR_PYR_STATUS) false s
    (s.refreshFlt) := by
  unfold State.refreshFlt
  exact .step .setFlt .refl
theorem State.Leaves.modSafe {s : State} {d : Drive} {f : SafeDrive → SafeDrive} : State.Leaves [.safety] (fun _ =>
    True) false s (s.modSafe d f) := by
  unfold State.modSafe
  exact .step .modSafety .refl
theorem State.Leaves.acceptRelease {s : State} {ds : List Drive} {src : Nat} : State.Leaves [.od, .log, .links, .drives,
    .cells, .legs, .store, .seqs, .axes, .traction, .lus, .stageIn, .lvCommand, .gbx, .dcl, .aux, .chg, .path, .pyr,
    .safety] (fun j => noReaction j ∧ j ≠ Od.PYR_PYR_STATUS ∧ j ≠ Od.SFS_DEMANDS ∧ j ≠ Od.SFS_RELEASES ∧ j ≠
    Od.SFS_SF_CNT_STATUS ∧ (∀ x, x < 6 → j ≠ Od.SFS_SF_STATE x)) true s (s.acceptRelease ds src) := by
  unfold State.acceptRelease
  exact .stepR .refreshSf (.stepR .refreshFlt (.step .modPyr (.stepR .count (.each (fun _ _ _ => (.ite (.step .goto
    (.step .lastEvent (.step .event (.step .modDrv (.when (fun _ => (.step .modSafety .refl)) (.step .modSafe
    .refl)))))) (.step .lastEvent (.step .event (.step .modDrv (.when (fun _ => (.step .modSafety .refl)) (.step
    .modSafe .refl))))))) .refl))))
theorem State.Leaves.refuseRelease {s : State} {ds : List Drive} {src : Nat} : State.Leaves [.od, .log] (fun j => j ≠
    Od.CNT_CNT_OVF_MAP ∧ j ≠ Od.SFS_REFUSALS ∧ j ≠ Od.SFS_SF_CNT_STATUS) false s (s.refuseRelease ds src) := by
  unfold State.refuseRelease
  exact .each (fun _ _ _ => (.step .lastEvent (.step .event .refl))) (.step .count .refl)
theorem State.Leaves.clearOutFaults {s : State} {ds : List Drive} : State.Leaves [.safety] (fun _ => True) false s
    (s.clearOutFaults ds) := by
  unfold State.clearOutFaults
  exact .each (fun _ _ _ => (.ite (.step .modOut .refl) .refl)) .refl
theorem State.Leaves.release {s : State} {ds : List Drive} {src : Nat} : State.Leaves [.od, .log, .links, .drives,
    .cells, .legs, .store, .seqs, .axes, .traction, .lus, .stageIn, .lvCommand, .gbx, .dcl, .aux, .chg, .path, .pyr,
    .safety] (fun j => noReaction j ∧ j ≠ Od.PYR_PYR_STATUS ∧ j ≠ Od.SFS_DEMANDS ∧ j ≠ Od.SFS_REFUSALS ∧ j ≠
    Od.SFS_RELEASES ∧ j ≠ Od.SFS_SF_CNT_STATUS ∧ (∀ x, x < 6 → j ≠ Od.SFS_SF_STATE x)) true s (s.release ds src) := by
  unfold State.release
  exact .ite (.step .clearOutFaults .refl) (.ite (.stepR .refuseRelease (.step .clearOutFaults .refl)) (.step
    .acceptRelease (.step .clearOutFaults .refl)))
theorem State.Leaves.writeSafeRelease {s : State} {who : Requester} {m : Nat} : State.Leaves [.od, .out, .log, .links,
    .drives, .cells, .legs, .store, .seqs, .axes, .traction, .lus, .stageIn, .lvCommand, .gbx, .dcl, .aux, .chg,
    .path, .pyr, .safety, .sessions] (fun j => noReaction j ∧ noAccess j ∧ j ≠ Od.PYR_PYR_STATUS ∧ j ≠ Od.SFS_DEMANDS
    ∧ j ≠ Od.SFS_REFUSALS ∧ j ≠ Od.SFS_RELEASES ∧ j ≠ Od.SFS_SF_CNT_STATUS ∧ (∀ x, x < 6 → j ≠ Od.SFS_SF_STATE x))
    true s (s.writeSafeRelease who m) := by
  unfold State.writeSafeRelease
  exact .request (fun _ => (.ite .error (.ite .error (.ok (.step .release .refl))))) (.ite (.stepR .refuseRelease
    (.step .clearOutFaults .refl)) .refl)
theorem State.Leaves.draw {s : State} : State.Leaves [.fresh] (fun _ => True) false s (s.draw) := by
  unfold State.draw
  exact .step .with_fresh .refl
theorem OkLeaves.setCommitEffect {who : Requester} {storeOk : Bool} {s : State} : OkLeaves [.od, .log, .safety,
    .sessions] (fun j => j ≠ Od.CNT_CNT_OVF_MAP ∧ j ≠ Od.SET_SET_COMMITS ∧ j ≠ Od.SET_SET_COMMIT_TB ∧ j ≠
    Od.SET_SET_REJECT ∧ j ≠ Od.SFS_SF_CNT_STATUS) false s (State.setCommitEffect who storeOk s) := by
  unfold State.setCommitEffect
  exact by split; exacts [.error, (.refuseIf (.ok (.ite (.step .event (.step .setN .refl)) (.step .setN (.step .count
    (.step .modSafety (.step .modSess (.step .setN .refl))))))))]
theorem State.Leaves.writeSetCommit {s : State} {who : Requester} {storeOk : Bool} : State.Leaves [.od, .out, .log,
    .safety, .sessions] (fun j => noAccess j ∧ j ≠ Od.SET_SET_COMMITS ∧ j ≠ Od.SET_SET_COMMIT_TB ∧ j ≠
    Od.SET_SET_REJECT ∧ j ≠ Od.SFS_SF_CNT_STATUS) false s (s.writeSetCommit who storeOk) := by
  unfold State.writeSetCommit
  exact .request (fun _ => (.after .setCommitEffect .refl)) .refl
theorem State.Leaves.writeSetCrc {s : State} {who : Requester} {v : Nat} : State.Leaves [.od, .out, .log, .sessions]
    (fun _ => False) false s (s.writeSetCrc who v) := by
  unfold State.writeSetCrc
  exact .request (fun _ => (.refuseIf (.ok (.step .modSess .refl)))) .refl
theorem State.Leaves.setEdit {s : State} {who : Requester} {v : Nat} : State.Leaves [.od, .out, .log, .sessions] (fun j
    => noAccess j) false s (s.setEdit who v) := by
  unfold State.setEdit
  exact .request (fun _ => (by split; exacts [(.ok (.step .modSess .refl)), (.ok (.step .modSess .refl)), .error]))
    .refl
theorem State.Leaves.modCap {s : State} {f : CapSt → CapSt} : State.Leaves [.cap] (fun _ => True) false s (s.modCap f)
    := by
  unfold State.modCap
  exact .step .with_cap .refl
theorem State.Leaves.capReport {s : State} : State.Leaves [.od] (fun j => j ≠ Od.CAP_FIRST_TB ∧ j ≠
    Od.CAP_ROWS_STORED) false s (s.capReport) := by
  unfold State.capReport
  exact .step .setN (.step .setN .refl)
theorem State.Leaves.capDone {s : State} : State.Leaves [.od] (fun j => j ≠ Od.CAP_CAP_STATE ∧ j ≠ Od.CAP_FIRST_TB ∧ j
    ≠ Od.CAP_ROWS_STORED) false s (s.capDone) := by
  unfold State.capDone
  exact .step .capReport (.step .setN .refl)
theorem State.Leaves.capStop {s : State} : State.Leaves [.od, .cap] (fun j => j ≠ Od.CAP_CAP_STATE ∧ j ≠
    Od.CAP_FIRST_TB ∧ j ≠ Od.CAP_ROWS_STORED) false s (s.capStop) := by
  unfold State.capStop
  exact by split; exacts [(.step .capDone .refl), (.step .capDone .refl), (.step .modCap (.step .setN .refl)), .refl]
theorem State.Leaves.trigger {s : State} : State.Leaves [.od, .log, .cap] (fun j => j ≠ Od.CAP_CAPTURES ∧ j ≠
    Od.CAP_CAP_CNT_STATUS ∧ j ≠ Od.CAP_CAP_STATE ∧ j ≠ Od.CAP_FIRST_TB ∧ j ≠ Od.CAP_ROWS_STORED ∧ j ≠ Od.CAP_TRIG_TB ∧
    j ≠ Od.CNT_CNT_OVF_MAP) false s (s.trigger) := by
  unfold State.trigger
  exact .ite .refl (.ite (.step .capDone (.step .event (.step .modCap (.step .count (.step .setN (.step .setN
    .refl)))))) (.step .event (.step .modCap (.step .count (.step .setN (.step .setN .refl))))))
theorem State.Leaves.capArm {s : State} : State.Leaves [.od, .cap] (fun j => j ≠ Od.CAP_CAP_STATE ∧ j ≠
    Od.CAP_FIRST_TB ∧ j ≠ Od.CAP_ROWS_STORED ∧ j ≠ Od.CAP_TRIG_TB) false s (s.capArm) := by
  unfold State.capArm
  exact .step .setN (.step .setN (.step .setN (.step .setN (.step .modCap .refl))))
theorem State.Leaves.writeCapCmd {s : State} {who : Requester} {v : Nat} : State.Leaves [.od, .out, .log, .sessions,
    .cap] (fun j => noAccess j ∧ j ≠ Od.CAP_CAPTURES ∧ j ≠ Od.CAP_CAP_CNT_STATUS ∧ j ≠ Od.CAP_CAP_STATE ∧ j ≠
    Od.CAP_FIRST_TB ∧ j ≠ Od.CAP_ROWS_STORED ∧ j ≠ Od.CAP_TRIG_TB) false s (s.writeCapCmd who v) := by
  unfold State.writeCapCmd
  exact .request (fun _ => (by split; exacts [(.ok (.step .capArm .refl)), (.ok (.step .trigger .refl)), (.ok (.step
    .capStop .refl)), .error])) .refl
theorem State.Leaves.imgEvent {s : State} {code : Nat} {b : Fin 2} : State.Leaves [.log] (fun _ => True) false s
    (s.imgEvent code b) := by
  unfold State.imgEvent
  exact .step .event .refl
theorem State.Leaves.modImg {s : State} {f : ImgSt → ImgSt} : State.Leaves [.img] (fun _ => True) false s (s.modImg f)
    := by
  unfold State.modImg
  exact .step .with_img .refl
theorem State.Leaves.modBank {s : State} {b : Fin 2} {f : BankSt → BankSt} : State.Leaves [.img] (fun _ => True) false
    s (s.modBank b f) := by
  unfold State.modBank
  exact .step .modImg .refl
theorem State.Leaves.pulses {s : State} {n : Nat} : State.Leaves [.img] (fun _ => True) false s (s.pulses n) := by
  unfold State.pulses
  exact .ite (.step .modImg .refl) (.step .modImg .refl)
theorem OkLeaves.rollbackEffect {otherOk : Bool} {s : State} : OkLeaves [.od, .log, .img] (fun j => j ≠
    Od.CNT_CNT_OVF_MAP ∧ j ≠ Od.IMG_IMG_CNT_STATUS ∧ j ≠ Od.IMG_ROLLBACKS) false s (State.rollbackEffect otherOk s) :=
    by
  unfold State.rollbackEffect
  exact .refuseIf (.ok (.step .imgEvent (.step .count (.ite (.step .pulses (.step .modBank .refl)) (.step .modImg
    (.step .pulses (.step .modBank .refl)))))))
theorem State.Leaves.writeRollback {s : State} {who : Requester} {otherOk : Bool} : State.Leaves [.od, .out, .log,
    .sessions, .img] (fun j => noAccess j ∧ j ≠ Od.IMG_IMG_CNT_STATUS ∧ j ≠ Od.IMG_ROLLBACKS) false s (s.writeRollback
    who otherOk) := by
  unfold State.writeRollback
  exact .request (fun _ => (.after .rollbackEffect .refl)) .refl
theorem State.Leaves.updateBegin {s : State} : State.Leaves [.od, .log, .img] (fun j => j ≠ Od.IMG_UPD_BLOCK ∧ j ≠
    Od.IMG_UPD_BYTES ∧ j ≠ Od.IMG_UPD_RESULT ∧ j ≠ Od.IMG_UPD_STATE) false s (s.updateBegin) := by
  unfold State.updateBegin
  exact .step .imgEvent (.step .setN (.step .setN (.step .setN (.step .setN (.step .modImg (.step .modBank .refl))))))
theorem OkLeaves.updateStartEffect {s : State} : OkLeaves [.od, .log, .img] (fun j => j ≠ Od.IMG_UPD_BLOCK ∧ j ≠
    Od.IMG_UPD_BYTES ∧ j ≠ Od.IMG_UPD_RESULT ∧ j ≠ Od.IMG_UPD_STATE) false s (s.updateStartEffect) := by
  unfold State.updateStartEffect
  exact .refuseIf (.ok (.step .updateBegin .refl))
theorem State.Leaves.writeUpdateStart {s : State} {who : Requester} : State.Leaves [.od, .out, .log, .sessions, .img]
    (fun j => noAccess j ∧ j ≠ Od.IMG_UPD_BLOCK ∧ j ≠ Od.IMG_UPD_BYTES ∧ j ≠ Od.IMG_UPD_RESULT ∧ j ≠ Od.IMG_UPD_STATE)
    false s (s.writeUpdateStart who) := by
  unfold State.writeUpdateStart
  exact .ite (.answer (.after .updateStartEffect (.step .touch .refl)) (.step .touch .refl)) (.request (fun _ =>
    (.after .updateStartEffect .refl)) .refl)
theorem State.Leaves.updateFail {s : State} {result : Nat} : State.Leaves [.od, .log, .img] (fun j => j ≠
    Od.CNT_CNT_OVF_MAP ∧ j ≠ Od.IMG_IMG_CNT_STATUS ∧ j ≠ Od.IMG_UPD_FAILS ∧ j ≠ Od.IMG_UPD_RESULT ∧ j ≠
    Od.IMG_UPD_STATE) false s (s.updateFail result) := by
  unfold State.updateFail
  exact .step .imgEvent (.step .count (.step .setN (.step .setN (.step .modImg (.step .modBank .refl)))))
theorem State.Leaves.abortUpdate {s : State} : State.Leaves [.od, .log, .img] (fun j => j ≠ Od.CNT_CNT_OVF_MAP ∧ j ≠
    Od.IMG_IMG_CNT_STATUS ∧ j ≠ Od.IMG_UPD_FAILS ∧ j ≠ Od.IMG_UPD_RESULT ∧ j ≠ Od.IMG_UPD_STATE) false s
    (s.abortUpdate) := by
  unfold State.abortUpdate
  exact .ite (.step .modImg .refl) (.ite (.step .updateFail .refl) .refl)
theorem State.Leaves.writeUpdateAbort {s : State} {who : Requester} : State.Leaves [.od, .out, .log, .sessions, .img]
    (fun j => noAccess j ∧ j ≠ Od.IMG_IMG_CNT_STATUS ∧ j ≠ Od.IMG_UPD_FAILS ∧ j ≠ Od.IMG_UPD_RESULT ∧ j ≠
    Od.IMG_UPD_STATE) false s (s.writeUpdateAbort who) := by
  unfold State.writeUpdateAbort
  exact .request (fun _ => (.ok (.step .abortUpdate .refl))) .refl
theorem State.Leaves.writeUpdate {s : State} {who : Requester} {v : Nat} : State.Leaves [.od, .fresh, .out, .log,
    .sessions, .img] (fun _ => False) false s (s.writeUpdate who v) := by
  unfold State.writeUpdate
  exact by split; exacts [(.step .writeUpdateAbort .refl), (.step .writeUpdateStart .refl), (.step .writeRollback
    (.step .draw .refl))]
theorem OkLeaves.keyEffect {who : Requester} {safety : Bool} {data : List Byte} {s : State} : OkLeaves [.log,
    .sessions] (fun _ => True) false s (State.keyEffect who safety data s) := by
  unfold State.keyEffect
  exact .refuseIf (.ok (.step .event (.step .with_sessions .refl)))
theorem State.Leaves.writeKey {s : State} {who : Requester} {safety : Bool} {data : List Byte} : State.Leaves [.od,
    .out, .log, .sessions] (fun j => noAccess j) false s (s.writeKey who safety data) := by
  unfold State.writeKey
  exact .request (fun _ => (.after .keyEffect .refl)) .refl
theorem State.Leaves.modAuthPath {s : State} {can : Bool} {f : PathSt → PathSt} : State.Leaves [.sessions] (fun _ =>
    True) false s (s.modAuthPath can f) := by
  unfold State.modAuthPath
  exact .step .with_sessions .refl
theorem State.Leaves.lockPath {s : State} {who : Requester} : State.Leaves [.od, .log, .sessions] (fun j => j ≠
    Od.AUTH_AUTH_CNT_STATUS ∧ j ≠ Od.AUTH_LOCKOUTS ∧ j ≠ Od.CNT_CNT_OVF_MAP) false s (s.lockPath who) := by
  unfold State.lockPath
  exact .step .event (.step .count (.step .modAuthPath .refl))
theorem State.Leaves.authFailed {s : State} {who : Requester} : State.Leaves [.od, .log, .sessions] (fun j => j ≠
    Od.AUTH_AUTH_CNT_STATUS ∧ j ≠ Od.AUTH_AUTH_FAILS ∧ j ≠ Od.AUTH_LOCKOUTS ∧ j ≠ Od.CNT_CNT_OVF_MAP) false s
    (s.authFailed who) := by
  unfold State.authFailed
  exact .ite (.step .lockPath (.step .event (.step .count (.step .modAuthPath (.step .modSess .refl))))) (.step .event
    (.step .count (.step .modAuthPath (.step .modSess .refl))))
theorem State.Leaves.authOk {s : State} {who : Requester} : State.Leaves [.od, .log, .sessions] (fun j => j ≠
    Od.AUTH_AUTH_CNT_STATUS ∧ j ≠ Od.AUTH_AUTH_OK ∧ j ≠ Od.CNT_CNT_OVF_MAP) false s (s.authOk who) := by
  unfold State.authOk
  exact .step .event (.step .count (.step .modAuthPath (.step .modSess .refl)))
theorem OkLeaves.authResponseEffect {who : Requester} {data : List Byte} {late : Bool} {s : State} : OkLeaves [.od,
    .log, .sessions] (fun j => j ≠ Od.AUTH_AUTH_CNT_STATUS ∧ j ≠ Od.AUTH_AUTH_FAILS ∧ j ≠ Od.AUTH_AUTH_OK ∧ j ≠
    Od.AUTH_LOCKOUTS ∧ j ≠ Od.CNT_CNT_OVF_MAP) false s (State.authResponseEffect who data late s) := by
  unfold State.authResponseEffect
  exact .refuseIf (.refuseIf (.refuseIf (.ok (.ite (.step .authOk .refl) (.step .authFailed .refl)))))
theorem State.Leaves.writeAuthResponse {s : State} {who : Requester} {data : List Byte} : State.Leaves [.od, .out,
    .log, .sessions] (fun j => noAccess j ∧ j ≠ Od.AUTH_AUTH_CNT_STATUS ∧ j ≠ Od.AUTH_AUTH_FAILS ∧ j ≠ Od.AUTH_AUTH_OK
    ∧ j ≠ Od.AUTH_LOCKOUTS) false s (s.writeAuthResponse who data) := by
  unfold State.writeAuthResponse
  exact .request (fun _ => (.after .authResponseEffect .refl)) (.ite (.step .modSess .refl) .refl)
theorem OkLeaves.authOpenEffect {who : Requester} {data : List Byte} {s : State} : OkLeaves [.fresh, .sessions] (fun _
    => True) false s (State.authOpenEffect who data s) := by
  unfold State.authOpenEffect
  exact .refuseIf (.refuseIf (.refuseIf (.refuseIf (.ok (.step .draw (.step .modSess .refl))))))
theorem State.Leaves.writeAuthOpen {s : State} {who : Requester} {data : List Byte} : State.Leaves [.od, .fresh, .out,
    .log, .sessions] (fun j => noAccess j) false s (s.writeAuthOpen who data) := by
  unfold State.writeAuthOpen
  exact .request (fun _ => (.after .authOpenEffect .refl)) .refl
theorem State.Leaves.holdAuto {s : State} {d : Drive} {on : Bool} : State.Leaves [.drives] (fun _ => True) false s
    (s.holdAuto d on) := by
  unfold State.holdAuto
  exact .ite (.step .modDrv .refl) .refl
theorem State.Leaves.stoppedIfCoasting {s : State} {d : Drive} : State.Leaves [.od, .log, .links, .drives, .cells,
    .legs, .store, .seqs, .axes, .traction, .lus, .stageIn, .lvCommand, .gbx, .dcl, .aux, .chg, .path] (fun j =>
    noReaction j) true s (s.stoppedIfCoasting d) := by
  unfold State.stoppedIfCoasting
  exact .ite (.step .goto .refl) .refl
theorem State.Leaves.zeroRefs {s : State} {t : Fin 2} : State.Leaves [.od, .axes] (fun j => (∀ x, x < 8 → j ≠
    Od.AX_TQ_REF x)) false s (s.zeroRefs t) := by
  unfold State.zeroRefs
  exact .each (fun _ _ _ => (.ite (.step .modAx (.step .setQ .refl)) .refl)) .refl
theorem State.Leaves.stopTraction {s : State} {d : Drive} : State.Leaves [.od, .log, .links, .drives, .cells, .legs,
    .store, .seqs, .axes, .traction, .lus, .stageIn, .lvCommand, .gbx, .dcl, .aux, .chg, .path] (fun j => noReaction
    j) true s (s.stopTraction d) := by
  unfold State.stopTraction
  exact .ite (.ite (.step .modTr (.stepR .clearTorque .refl)) (.step .lastEvent (.step .event (.step .modDrv (.stepR
    .zeroRefs (.stepR .clearTorque .refl)))))) (.step .stoppedIfCoasting (.stepR .clearTorque .refl))
theorem State.Leaves.stopDrive {s : State} {d : Drive} {trig : Nat} : State.Leaves [.od, .log, .links, .drives, .cells,
    .legs, .store, .seqs, .axes, .traction, .lus, .stageIn, .lvCommand, .gbx, .dcl, .aux, .chg, .path] (fun j =>
    noReaction j) true s (s.stopDrive d trig) := by
  unfold State.stopDrive
  exact .ite (.step .stopTraction (.step .goto .refl)) (.step .goto (.each (fun _ _ _ => (.stepR .coastCell .refl))
    (.step .goto .refl)))
theorem State.Leaves.rampDown {s : State} : State.Leaves [.chg] (fun _ => True) false s (s.rampDown) := by
  unfold State.rampDown
  exact .ite .refl (.step .modChg .refl)
theorem State.Leaves.stopCharge {s : State} {trig : Nat} : State.Leaves [.od, .log, .links, .drives, .cells, .legs,
    .store, .seqs, .axes, .traction, .lus, .stageIn, .lvCommand, .gbx, .dcl, .aux, .chg, .path] (fun j => noReaction
    j) true s (s.stopCharge trig) := by
  unfold State.stopCharge
  exact .ite (.step .rampDown (.step .goto .refl)) (.stepR .setHvState (.step .rampDown (.step .goto .refl)))
theorem State.Leaves.stopActive {s : State} {d : Drive} {trig : Nat} : State.Leaves [.od, .log, .links, .drives, .cells,
    .legs, .store, .seqs, .axes, .traction, .lus, .stageIn, .lvCommand, .gbx, .dcl, .aux, .chg, .path] (fun j =>
    noReaction j) true s (s.stopActive d trig) := by
  unfold State.stopActive
  exact .ite (.step .stopCharge .refl) (.step .stopDrive .refl)
theorem OkLeaves.stop {s : State} {d : Drive} : OkLeaves [.od, .log, .links, .drives, .cells, .legs, .store, .seqs,
    .axes, .traction, .lus, .stageIn, .lvCommand, .gbx, .dcl, .aux, .chg, .path] (fun j => noReaction j) true s
    (s.stop d) := by
  unfold State.stop
  exact .refuseIf (.ok (.step .stopActive (.step .holdAuto .refl)))
theorem State.Leaves.lossAction {s : State} {d : Drive} : State.Leaves [.od, .log, .links, .drives, .cells, .legs,
    .store, .seqs, .axes, .traction, .lus, .stageIn, .lvCommand, .gbx, .dcl, .aux, .chg, .path] (fun j => noReaction j
    ∧ j ≠ Od.AXLE_AXLE_TQ_SET) true s (s.lossAction d) := by
  unfold State.lossAction
  split
  · refine .iteOf (fun _ => .refl) fun hd => ?_
    have hlt := Drive.num_lt_two (by simpa using hd)
    exact .ite (.stepR .setQ .refl) (.step .setQ .refl (by simp +contextual only [hlt, noReaction, ne_eq, not_false_eq_true, and_self, implies_true, Fin.val_lt_of_le, Nat.reduceLeDiff, Nat.reduceLT]))
  · split
    · next t ht => exact .ite .refl ((OkLeaves.stop _ ht).mono (fun _ h => h.1) (by decide) (by decide))
    · exact .refl
  · exact .refl
theorem State.Leaves.commanderLost {s : State} {d : Drive} : State.Leaves [.od, .log, .links, .drives, .cells, .legs,
    .store, .seqs, .axes, .traction, .lus, .stageIn, .lvCommand, .gbx, .dcl, .aux, .chg, .path] (fun j => noReaction j
    ∧ j ≠ Od.AXLE_AXLE_TQ_SET ∧ j ≠ Od.OWN_OWN_STATUS) true s (s.commanderLost d) := by
  unfold State.commanderLost
  exact .step .lossAction (.step .lastEvent (.step .event (.stepR .setBit .refl)))
theorem State.Leaves.crcRead {s : State} {who : Requester} {n : Fin 4} : State.Leaves [.crcs] (fun _ => True) false s
    (s.crcRead who n) := by
  unfold State.crcRead
  exact .step .modCrc .refl
theorem State.Leaves.crcRelease {s : State} {who : Requester} : State.Leaves [.crcs] (fun _ => True) false s
    (s.crcRelease who) := by
  unfold State.crcRelease
  exact .each (fun _ _ _ => (.step .crcRead .refl)) .refl
theorem State.Leaves.closeSession {s : State} {who : Requester} : State.Leaves [.od, .log, .links, .drives, .cells,
    .legs, .store, .seqs, .axes, .traction, .lus, .stageIn, .lvCommand, .gbx, .dcl, .aux, .chg, .path, .crcs,
    .sessions] (fun j => noReaction j ∧ j ≠ Od.AXLE_AXLE_TQ_SET ∧ (∀ x, x < 6 → j ≠ Od.OWN_OWNER x) ∧ j ≠
    Od.OWN_OWN_STATUS) true s (s.closeSession who) := by
  unfold State.closeSession
  exact .ite .refl (.step .event (.each (fun _ _ _ => (.step .commanderLost (.stepR .setN .refl))) (.step .crcRelease
    (.step .modSess .refl))))
theorem State.Leaves.writeSessionClose {s : State} {who : Requester} {v : Nat} : State.Leaves [.od, .out, .log, .links,
    .drives, .cells, .legs, .store, .seqs, .axes, .traction, .lus, .stageIn, .lvCommand, .gbx, .dcl, .aux, .chg,
    .path, .crcs, .sessions] (fun j => noReaction j ∧ noAccess j ∧ j ≠ Od.AXLE_AXLE_TQ_SET ∧ (∀ x, x < 6 → j ≠
    Od.OWN_OWNER x)) true s (s.writeSessionClose who v) := by
  unfold State.writeSessionClose
  exact .request (fun _ => (.refuseIf (.ok (.step .closeSession .refl)))) .refl
theorem OkLeaves.bridgeWrite {who : Requester} {c : Fin 4} {data : List Byte} {s : State} : OkLeaves [.od, .log,
    .chans] (fun j => j ≠ Od.CAN_CAN_CNT_STATUS c ∧ j ≠ Od.CAN_STALE_DROPS c ∧ j ≠ Od.CNT_CNT_OVF_MAP) false s
    (State.bridgeWrite who c data s) := by
  unfold State.bridgeWrite
  refine .refuseIf (.refuseIf (.refuseIf ?_))
  split
  · next t ht => exact .ok (.step (SomeLeaves.fifoWrite _ ht) .refl)
  · exact .error
theorem State.Leaves.writeBridge {s : State} {who : Requester} {c : Fin 4} {data : List Byte} : State.Leaves [.od,
    .out, .log, .chans, .sessions] (fun j => noAccess j ∧ j ≠ Od.CAN_CAN_CNT_STATUS c ∧ j ≠ Od.CAN_STALE_DROPS c)
    false s (s.writeBridge who c data) := by
  unfold State.writeBridge
  exact .request (fun _ => (.after .bridgeWrite .refl)) .refl
theorem State.Leaves.crcShow {s : State} {n : Fin 4} : State.Leaves [.od] (fun j => j ≠ Od.CRC_RESULT n) false s
    (s.crcShow n) := by
  unfold State.crcShow
  exact .step .setN .refl
theorem State.Leaves.crcData {s : State} {n : Fin 4} {data : List Byte} : State.Leaves [.od, .crcs] (fun j => j ≠
    Od.CRC_BYTES n ∧ j ≠ Od.CRC_CRC_STATUS n ∧ j ≠ Od.CRC_RESULT n) false s (s.crcData n data) := by
  unfold State.crcData
  exact .ite (.step .setN (.step .crcShow (.step .crcTouch (.step .modCrc .refl)))) (.step .setBit (.step .setN (.step
    .crcShow (.step .crcTouch (.step .modCrc .refl)))))
theorem State.Leaves.writeCrcData {s : State} {who : Requester} {n : Fin 4} {data : List Byte} : State.Leaves [.od,
    .out, .log, .crcs, .sessions] (fun j => noAccess j ∧ j ≠ Od.CRC_BYTES n ∧ j ≠ Od.CRC_CRC_STATUS n ∧ j ≠
    Od.CRC_RESULT n) false s (s.writeCrcData who n data) := by
  unfold State.writeCrcData
  exact .request (fun _ => (.refuseIf (.refuseIf (.ok (.step .crcData .refl))))) .refl
theorem State.Leaves.crcStart {s : State} {who : Requester} {n : Fin 4} : State.Leaves [.od, .crcs] (fun j => j ≠
    Od.CRC_BYTES n ∧ j ≠ Od.CRC_CRC_STATUS n ∧ j ≠ Od.CRC_RESULT n) false s (s.crcStart who n) := by
  unfold State.crcStart
  exact .step .setBit (.step .setN (.step .crcShow (.step .modCrc .refl)))
theorem State.Leaves.writeCrcStart {s : State} {who : Requester} {n : Fin 4} : State.Leaves [.od, .out, .log, .crcs,
    .sessions] (fun j => noAccess j ∧ j ≠ Od.CRC_BYTES n ∧ j ≠ Od.CRC_CRC_STATUS n ∧ j ≠ Od.CRC_RESULT n) false s
    (s.writeCrcStart who n) := by
  unfold State.writeCrcStart
  exact .request (fun _ => (.refuseIf (.ok (.step .crcStart .refl)))) .refl
theorem SomeLeaves.writeHigh {s : State} {who : Requester} {index : Nat} {sub : Nat} {v : Val} {data : List Byte} :
    SomeLeaves [.od, .fresh, .out, .log, .links, .drives, .cells, .legs, .store, .seqs, .axes, .traction, .lus,
    .stageIn, .lvCommand, .gbx, .dcl, .aux, .chg, .path, .pyr, .safety, .conns, .crcs, .chans, .sessions, .img, .cap]
    (fun _ => False) true s (s.writeHigh who index sub v data) := by
  unfold State.writeHigh
  exact .ite (.some (.step .writeCrcStart .refl)) (.ite (.some (.step .writeCrcData .refl)) (.ite (.some (.step
    .writeBridge .refl)) (.ite (.some (.step .writeSessionClose .refl)) (.ite (.some (.step .writeAuthOpen .refl))
    (.ite (.some (.step .writeAuthResponse .refl)) (.ite (.some (.step .writeKey .refl)) (.ite (.some (.step .writeKey
    .refl)) (.ite (.some (.step .writeUpdate .refl)) (.ite (.some (.step .writeCapCmd .refl)) (.ite (.some (.step
    .setEdit .refl)) (.ite (.some (.step .writeSetCrc .refl)) (.ite (.some (.step .writeSetCommit (.step .draw
    .refl))) (.ite (.some (.step .writeSafeRelease .refl)) (.ite (.some (.step .writeConfigReq .refl))
    .none))))))))))))))
theorem State.Leaves.writeAttnClear {s : State} {who : Requester} {v : Nat} : State.Leaves [.od, .out, .log, .sessions]
    (fun j => noAccess j ∧ j ≠ Od.LV_ATTN_CODE ∧ j ≠ Od.LV_LV_STATUS) false s (s.writeAttnClear who v) := by
  unfold State.writeAttnClear
  exact .request (fun _ => (.refuseIf (.ok (.step .setN (.step .setBit .refl))))) .refl
theorem State.Leaves.entryLost {s : State} {number : Nat} : State.Leaves [.log] (fun _ => True) false s (s.entryLost
    number) := by
  unfold State.entryLost
  exact .ite (.step .modLog .refl) (.step .event (.step .modLog (.step .modLog .refl)))
theorem State.Leaves.enterRing {s : State} {e : LogEntry} : State.Leaves [.log] (fun _ => True) false s (s.enterRing
    e) := by
  unfold State.enterRing
  dsimp only
  split
  · exact .ite (.step .entryLost (.step .modLog .refl)) (.step .modLog .refl)
  · exact .step .modLog .refl
theorem State.Leaves.attention {s : State} {e : LogEntry} : State.Leaves [.od] (fun j => j ≠ Od.LV_ATTN_CODE ∧ j ≠
    Od.LV_LV_STATUS) false s (s.attention e) := by
  unfold State.attention
  exact .ite (.step .setBit (.when (fun _ => (.step .setN .refl)) .refl)) .refl
theorem State.Leaves.mirror {s : State} {e : LogEntry} : State.Leaves [.od, .log] (fun j => j ≠ Od.CNT_CNT_OVF_MAP ∧ j
    ≠ Od.LOG_EMCY_SUPPRESSED ∧ j ≠ Od.LOG_LOG_STATUS) false s (s.mirror e) := by
  unfold State.mirror
  exact .ite .refl (.ite (.step .modLog .refl) (.step .count .refl))
theorem State.Leaves.triggerBy {s : State} {e : LogEntry} : State.Leaves [.od, .log, .cap] (fun j => j ≠
    Od.CAP_CAPTURES ∧ j ≠ Od.CAP_CAP_CNT_STATUS ∧ j ≠ Od.CAP_CAP_STATE ∧ j ≠ Od.CAP_FIRST_TB ∧ j ≠ Od.CAP_ROWS_STORED
    ∧ j ≠ Od.CAP_TRIG_TB ∧ j ≠ Od.CNT_CNT_OVF_MAP) false s (s.triggerBy e) := by
  unfold State.triggerBy
  exact .ite (.step .trigger .refl) .refl
theorem State.Leaves.logStep {s : State} : State.Leaves [.od, .log, .cap] (fun j => j ≠ Od.CAP_CAPTURES ∧ j ≠
    Od.CAP_CAP_CNT_STATUS ∧ j ≠ Od.CAP_CAP_STATE ∧ j ≠ Od.CAP_FIRST_TB ∧ j ≠ Od.CAP_ROWS_STORED ∧ j ≠ Od.CAP_TRIG_TB ∧
    j ≠ Od.CNT_CNT_OVF_MAP ∧ j ≠ Od.LOG_EMCY_SUPPRESSED ∧ j ≠ Od.LOG_LOG_STATUS ∧ j ≠ Od.LV_ATTN_CODE ∧ j ≠
    Od.LV_LV_STATUS) false s (s.logStep) := by
  unfold State.logStep
  exact by split; exacts [.refl, (.ite (.step .triggerBy (.step .mirror (.step .attention (.step .enterRing (.step
    .modLog .refl))))) .refl)]
theorem State.Leaves.writeLog {s : State} : State.Leaves [.od, .log, .cap] (fun j => j ≠ Od.CAP_CAPTURES ∧ j ≠
    Od.CAP_CAP_CNT_STATUS ∧ j ≠ Od.CAP_CAP_STATE ∧ j ≠ Od.CAP_FIRST_TB ∧ j ≠ Od.CAP_ROWS_STORED ∧ j ≠ Od.CAP_TRIG_TB ∧
    j ≠ Od.CNT_CNT_OVF_MAP ∧ j ≠ Od.LOG_EMCY_SUPPRESSED ∧ j ≠ Od.LOG_LOG_STATUS ∧ j ≠ Od.LV_ATTN_CODE ∧ j ≠
    Od.LV_LV_STATUS) false s (s.writeLog) := by
  unfold State.writeLog
  exact .each (fun _ _ _ => (.step .logStep .refl)) .refl
theorem OkLeaves.peatEffect {v : Nat} {s : State} : OkLeaves [.od, .log, .path, .cap] (fun j => j ≠ Od.BKP_BKP15 ∧ j ≠
    Od.CAP_CAPTURES ∧ j ≠ Od.CAP_CAP_CNT_STATUS ∧ j ≠ Od.CAP_CAP_STATE ∧ j ≠ Od.CAP_FIRST_TB ∧ j ≠ Od.CAP_ROWS_STORED
    ∧ j ≠ Od.CAP_TRIG_TB ∧ j ≠ Od.CNT_CNT_OVF_MAP ∧ j ≠ Od.LOG_EMCY_SUPPRESSED ∧ j ≠ Od.LOG_LOG_STATUS ∧ j ≠
    Od.LV_ATTN_CODE ∧ j ≠ Od.LV_LV_STATUS) false s (State.peatEffect v s) := by
  unfold State.peatEffect
  exact .refuseIf (.refuseIf (.ok (.step .writeLog (.step .event (.step .modPath (.step .setBit (.step .setBit
    .refl)))))))
theorem State.Leaves.writePeat {s : State} {who : Requester} {v : Nat} : State.Leaves [.od, .out, .log, .path,
    .sessions, .cap] (fun j => noAccess j ∧ j ≠ Od.BKP_BKP15 ∧ j ≠ Od.CAP_CAPTURES ∧ j ≠ Od.CAP_CAP_CNT_STATUS ∧ j ≠
    Od.CAP_CAP_STATE ∧ j ≠ Od.CAP_FIRST_TB ∧ j ≠ Od.CAP_ROWS_STORED ∧ j ≠ Od.CAP_TRIG_TB ∧ j ≠ Od.LOG_EMCY_SUPPRESSED
    ∧ j ≠ Od.LOG_LOG_STATUS ∧ j ≠ Od.LV_ATTN_CODE ∧ j ≠ Od.LV_LV_STATUS) false s (s.writePeat who v) := by
  unfold State.writePeat
  exact .request (fun _ => (.after .peatEffect .refl)) .refl
theorem State.Leaves.setBatTrip {s : State} {b : Bool} : State.Leaves [.od] (fun j => j ≠ Od.BKP_BKP15 ∧ j ≠
    Od.LV_LV_STATUS) false s (s.setBatTrip b) := by
  unfold State.setBatTrip
  exact .step .setBit (.step .setBit .refl)
theorem State.Leaves.lvAck {s : State} : State.Leaves [.od, .log, .links, .legs, .traction, .lus, .stageIn,
    .lvCommand, .gbx, .aux, .chg, .path] (fun j => (∀ x, x < 8 → j ≠ Od.AX_TQ_REF x) ∧ j ≠ Od.BKP_BKP15 ∧ j ≠
    Od.CNT_CNT_OVF_MAP ∧ j ≠ Od.CNV_AUX_STATUS ∧ j ≠ Od.CNV_VR_TARGET ∧ j ≠ Od.DCL_CHOP_DUTY ∧ j ≠ Od.DCL_DCL_STATUS ∧
    (∀ x y, x < 24 → y < 8 → j ≠ Od.LU_A1 x y) ∧ (∀ x y, x < 24 → y < 8 → j ≠ Od.LU_A2 x y) ∧ (∀ x y, x < 24 → y < 8 →
    j ≠ Od.LU_B0 x y) ∧ (∀ x y, x < 24 → y < 8 → j ≠ Od.LU_B1 x y) ∧ (∀ x y, x < 24 → y < 8 → j ≠ Od.LU_B2 x y) ∧ j ≠
    Od.LU_COMMITS (16 : Fin 24) ∧ j ≠ Od.LU_COMMITS (17 : Fin 24) ∧ j ≠ Od.LU_COMMITS (22 : Fin 24) ∧ j ≠
    Od.LU_DIR_SIGNS (16 : Fin 24) ∧ j ≠ Od.LU_DIR_SIGNS (17 : Fin 24) ∧ j ≠ Od.LU_DIR_SIGNS (22 : Fin 24) ∧ j ≠
    Od.LU_LU_CNT_STATUS (16 : Fin 24) ∧ j ≠ Od.LU_LU_CNT_STATUS (17 : Fin 24) ∧ j ≠ Od.LU_LU_CNT_STATUS (22 : Fin 24)
    ∧ (∀ x, x < 24 → j ≠ Od.LU_REF x) ∧ (∀ x, x < 8 → j ≠ Od.LU_SEC_CTRL (16 : Fin 24) x) ∧ (∀ x, x < 8 → j ≠
    Od.LU_SEC_CTRL (17 : Fin 24) x) ∧ (∀ x, x < 8 → j ≠ Od.LU_SEC_CTRL (22 : Fin 24) x) ∧ j ≠ Od.LV_BAT_SW_MODE ∧ j ≠
    Od.LV_LV_STATE ∧ j ≠ Od.LV_LV_STATUS ∧ j ≠ Od.LV_VR_SOURCE ∧ (∀ x, x < 8 → j ≠ Od.SOL_DUTY x) ∧ (∀ x, x < 8 → j ≠
    Od.SOL_ENERGISATIONS x) ∧ (∀ x, x < 8 → j ≠ Od.SOL_SOL_CNT_STATUS x) ∧ (∀ x, x < 8 → j ≠ Od.SOL_SOL_STATUS x))
    true s (s.lvAck) := by
  unfold State.lvAck
  exact .ite (.step .lvEnter (.ite (.ite (.step .setVrSource (.step .setBatSw (.step .setBatTrip .refl))) (.step
    .setBatSw (.step .setBatTrip .refl))) .refl)) (.ite (.step .modChg (.ite (.ite (.step .setVrSource (.step
    .setBatSw (.step .setBatTrip .refl))) (.step .setBatSw (.step .setBatTrip .refl))) .refl)) (.ite (.ite (.step
    .setVrSource (.step .setBatSw (.step .setBatTrip .refl))) (.step .setBatSw (.step .setBatTrip .refl))) .refl))
theorem State.Leaves.writeLvAck {s : State} {who : Requester} {v : Nat} : State.Leaves [.od, .out, .log, .links, .legs,
    .traction, .lus, .stageIn, .lvCommand, .gbx, .aux, .chg, .path, .sessions] (fun j => noAccess j ∧ (∀ x, x < 8 → j
    ≠ Od.AX_TQ_REF x) ∧ j ≠ Od.BKP_BKP15 ∧ j ≠ Od.CNV_AUX_STATUS ∧ j ≠ Od.CNV_VR_TARGET ∧ j ≠ Od.DCL_CHOP_DUTY ∧ j ≠
    Od.DCL_DCL_STATUS ∧ (∀ x y, x < 24 → y < 8 → j ≠ Od.LU_A1 x y) ∧ (∀ x y, x < 24 → y < 8 → j ≠ Od.LU_A2 x y) ∧ (∀ x
    y, x < 24 → y < 8 → j ≠ Od.LU_B0 x y) ∧ (∀ x y, x < 24 → y < 8 → j ≠ Od.LU_B1 x y) ∧ (∀ x y, x < 24 → y < 8 → j ≠
    Od.LU_B2 x y) ∧ j ≠ Od.LU_COMMITS (16 : Fin 24) ∧ j ≠ Od.LU_COMMITS (17 : Fin 24) ∧ j ≠ Od.LU_COMMITS (22 : Fin
    24) ∧ j ≠ Od.LU_DIR_SIGNS (16 : Fin 24) ∧ j ≠ Od.LU_DIR_SIGNS (17 : Fin 24) ∧ j ≠ Od.LU_DIR_SIGNS (22 : Fin 24) ∧
    j ≠ Od.LU_LU_CNT_STATUS (16 : Fin 24) ∧ j ≠ Od.LU_LU_CNT_STATUS (17 : Fin 24) ∧ j ≠ Od.LU_LU_CNT_STATUS (22 : Fin
    24) ∧ (∀ x, x < 24 → j ≠ Od.LU_REF x) ∧ (∀ x, x < 8 → j ≠ Od.LU_SEC_CTRL (16 : Fin 24) x) ∧ (∀ x, x < 8 → j ≠
    Od.LU_SEC_CTRL (17 : Fin 24) x) ∧ (∀ x, x < 8 → j ≠ Od.LU_SEC_CTRL (22 : Fin 24) x) ∧ j ≠ Od.LV_BAT_SW_MODE ∧ j ≠
    Od.LV_LV_STATE ∧ j ≠ Od.LV_LV_STATUS ∧ j ≠ Od.LV_VR_SOURCE ∧ (∀ x, x < 8 → j ≠ Od.SOL_DUTY x) ∧ (∀ x, x < 8 → j ≠
    Od.SOL_ENERGISATIONS x) ∧ (∀ x, x < 8 → j ≠ Od.SOL_SOL_CNT_STATUS x) ∧ (∀ x, x < 8 → j ≠ Od.SOL_SOL_STATUS x))
    true s (s.writeLvAck who v) := by
  unfold State.writeLvAck
  exact .request (fun _ => (.refuseIf (.ok (.step .lvAck .refl)))) .refl
theorem State.Leaves.aux48 {s : State} : State.Leaves [.od] (fun j => j ≠ Od.CNV_AUX_STATUS) false s (s.aux48) := by
  unfold State.aux48
  exact .step .setBit .refl
theorem OkLeaves.aux48Effect {who : Requester} {v : Nat} {s : State} : OkLeaves [.od] (fun j => j ≠ Od.CNV_AUX48_EN ∧ j
    ≠ Od.CNV_AUX_STATUS) false s (State.aux48Effect who v s) := by
  unfold State.aux48Effect
  exact .refuseIf (.refuseIf (.ok (.step .aux48 (.step .setBit (.step .setFlag .refl)))))
theorem State.Leaves.writeAux48 {s : State} {who : Requester} {v : Nat} : State.Leaves [.od, .out, .log, .sessions] (fun
    j => noAccess j ∧ j ≠ Od.CNV_AUX48_EN ∧ j ≠ Od.CNV_AUX_STATUS) false s (s.writeAux48 who v) := by
  unfold State.writeAux48
  exact .request (fun _ => (.after .aux48Effect .refl)) .refl
theorem State.Leaves.writeVrSet {s : State} {who : Requester} {code : Fin 4} {value : BitVec 32} : State.Leaves [.od,
    .out, .log, .sessions] (fun j => noAccess j ∧ j ≠ Od.CNV_AUX_STATUS ∧ j ≠ Od.CNV_VR_SET code ∧ j ≠
    Od.CNV_VR_TARGET) false s (s.writeVrSet who code value) := by
  unfold State.writeVrSet
  exact .request (fun _ => (by split; exacts [.error, (.refuseIf (.ok (.step .newVrCommand (.step .setQ .refl))))]))
    .refl
theorem OkLeaves.vrCmdEffect {who : Requester} {q : Rat} {s : State} : OkLeaves [.od] (fun j => j ≠ Od.CNV_AUX_STATUS ∧
    j ≠ Od.CNV_VR_CMD ∧ j ≠ Od.CNV_VR_TARGET) false s (State.vrCmdEffect who q s) := by
  unfold State.vrCmdEffect
  exact .refuseIf (.refuseIf (.ok (.step .newVrCommand (.step .setQ .refl))))
theorem State.Leaves.writeVrCmd {s : State} {who : Requester} {value : BitVec 32} : State.Leaves [.od, .out, .log,
    .sessions] (fun j => noAccess j ∧ j ≠ Od.CNV_AUX_STATUS ∧ j ≠ Od.CNV_VR_CMD ∧ j ≠ Od.CNV_VR_TARGET) false s
    (s.writeVrCmd who value) := by
  unfold State.writeVrCmd
  exact .request (fun _ => (by split; exacts [.error, (.after .vrCmdEffect .refl)])) .refl
theorem OkLeaves.vrSrcEffect {who : Requester} {v : Nat} {s : State} : OkLeaves [.od] (fun j => j ≠ Od.CNV_AUX_STATUS ∧
    j ≠ Od.CNV_VR_SRC ∧ j ≠ Od.CNV_VR_TARGET) false s (State.vrSrcEffect who v s) := by
  unfold State.vrSrcEffect
  exact .refuseIf (.refuseIf (.ok (.step .newVrCommand (.step .setN .refl))))
theorem State.Leaves.writeVrSrc {s : State} {who : Requester} {v : Nat} : State.Leaves [.od, .out, .log, .sessions] (fun
    j => noAccess j ∧ j ≠ Od.CNV_AUX_STATUS ∧ j ≠ Od.CNV_VR_SRC ∧ j ≠ Od.CNV_VR_TARGET) false s (s.writeVrSrc who v)
    := by
  unfold State.writeVrSrc
  exact .request (fun _ => (.after .vrSrcEffect .refl)) .refl
theorem State.Leaves.runBrk {s : State} {trig : Nat} : State.Leaves [.od, .log, .links, .drives, .cells, .legs, .store,
    .seqs, .axes, .traction, .lus, .stageIn, .lvCommand, .gbx, .dcl, .aux, .chg, .path] (fun j => noReaction j) true s
    (s.runBrk trig) := by
  unfold State.runBrk
  exact .step .modCell (.step .goto .refl)
theorem State.Leaves.dischargeOn {s : State} : State.Leaves [.od, .legs, .dcl] (fun j => j ≠ Od.DCL_CHOP_DUTY ∧ j ≠
    Od.DCL_DCL_STATUS) false s (s.dischargeOn) := by
  unfold State.dischargeOn
  exact .step .setDuty (.step .modDcl .refl)
theorem State.Leaves.dischargeBegin {s : State} : State.Leaves [.od, .log, .links, .drives, .cells, .legs, .store,
    .seqs, .axes, .traction, .lus, .stageIn, .lvCommand, .gbx, .dcl, .aux, .chg, .path] (fun j => noReaction j ∧ j ≠
    Od.DCL_DCL_CNT_STATUS ∧ j ≠ Od.DCL_DISCHARGES) true s (s.dischargeBegin) := by
  unfold State.dischargeBegin
  exact by dsimp only; split; exacts [(.stepR .dischargeOn (.step .modDcl (.stepR .setBit (.stepR .setN (.stepR .count .refl))))),
    (.stepR .dischargeOn (.step .runBrk (.step .modDcl (.stepR .setBit (.stepR .setN (.stepR .count .refl)))))), (.ite
    (.step .startArming (.step .modDcl (.stepR .setBit (.stepR .setN (.stepR .count .refl))))) (.step .modDrv (.step
    .modDcl (.stepR .setBit (.stepR .setN (.stepR .count .refl))))))]
theorem OkLeaves.dischargeEffect {who : Requester} {v : Nat} {s : State} : OkLeaves [.od, .log, .links, .drives, .cells,
    .legs, .store, .seqs, .axes, .traction, .lus, .stageIn, .lvCommand, .gbx, .dcl, .aux, .chg, .path] (fun j =>
    noReaction j ∧ j ≠ Od.DCL_DCL_CNT_STATUS ∧ j ≠ Od.DCL_DISCHARGES) true s (State.dischargeEffect who v s) := by
  unfold State.dischargeEffect
  exact .refuseIf (.refuseIf (.ite (.refuseIf (.ok (.step .dischargeBegin .refl))) (.ok (.stepR .dischargeStop
    .refl))))
theorem State.Leaves.writeDischarge {s : State} {who : Requester} {v : Nat} : State.Leaves [.od, .out, .log, .links,
    .drives, .cells, .legs, .store, .seqs, .axes, .traction, .lus, .stageIn, .lvCommand, .gbx, .dcl, .aux, .chg,
    .path, .sessions] (fun j => noReaction j ∧ noAccess j ∧ j ≠ Od.DCL_DCL_CNT_STATUS ∧ j ≠ Od.DCL_DISCHARGES) true s
    (s.writeDischarge who v) := by
  unfold State.writeDischarge
  exact .request (fun _ => (.after .dischargeEffect .refl)) .refl
theorem OkLeaves.resOhmEffect {leg : Fin 2} {q : Rat} {s : State} : OkLeaves [.od, .dcl] (fun j => j ≠ Od.DCL_RES_OHM_0
    + leg) false s (State.resOhmEffect leg q s) := by
  unfold State.resOhmEffect
  exact .refuseIf (.refuseIf (.ok (.ite (.step .modDcl (.step .setQ .refl)) (.step .setQ .refl))))
theorem State.Leaves.writeResOhm {s : State} {who : Requester} {leg : Fin 2} {value : BitVec 32} : State.Leaves [.od,
    .out, .log, .dcl, .sessions] (fun j => noAccess j ∧ j ≠ Od.DCL_RES_OHM_0 + leg) false s (s.writeResOhm who leg
    value) := by
  unfold State.writeResOhm
  exact .request (fun _ => (by split; exacts [.error, (.after .resOhmEffect .refl)])) .refl
theorem State.Leaves.parkSolenoid {s : State} {t : Fin 2} {q : Rat} : State.Leaves [.od, .gbx] (fun j => j ≠
    Od.CNT_CNT_OVF_MAP ∧ (∀ x, x < 24 → j ≠ Od.LU_REF x) ∧ (∀ x, x < 8 → j ≠ Od.SOL_DUTY x) ∧ (∀ x, x < 8 → j ≠
    Od.SOL_ENERGISATIONS x) ∧ (∀ x, x < 8 → j ≠ Od.SOL_I_SET x) ∧ (∀ x, x < 8 → j ≠ Od.SOL_SOL_CNT_STATUS x) ∧ (∀ x, x
    < 8 → j ≠ Od.SOL_SOL_STATUS x)) false s (s.parkSolenoid t q) := by
  unfold State.parkSolenoid
  exact .ite (.ite (.step .setSolenoidDuty (.step .setSolenoidI .refl)) (.step .setSolenoidI .refl)) .refl
theorem State.Leaves.movePawl {s : State} {t : Fin 2} {pos : Int} : State.Leaves [.od, .cells, .axes, .gbx] (fun j => (∀
    x, x < 8 → j ≠ Od.AX_AXIS_STATUS x) ∧ (∀ x, x < 8 → j ≠ Od.AX_I_ALPHA x) ∧ (∀ x, x < 8 → j ≠ Od.AX_I_BETA x) ∧ (∀
    x, x < 8 → j ≠ Od.AX_PSI_ALPHA x) ∧ (∀ x, x < 8 → j ≠ Od.AX_PSI_BETA x) ∧ (∀ x, x < 8 → j ≠ Od.AX_TQ_REF x) ∧ (∀
    x, x < 24 → j ≠ Od.LU_REF x) ∧ (∀ x, x < 8 → j ≠ Od.OBS_OBS_STATUS x)) false s (s.movePawl t pos) := by
  unfold State.movePawl
  exact .step .engageActuator (.step .setRef (.step .startMove (.step .with_gbx .refl)))
theorem OkLeaves.parkRelease {t : Fin 2} {s : State} : OkLeaves [.od, .cells, .axes, .gbx] (fun j => (∀ x, x < 8 → j ≠
    Od.AX_AXIS_STATUS x) ∧ (∀ x, x < 8 → j ≠ Od.AX_I_ALPHA x) ∧ (∀ x, x < 8 → j ≠ Od.AX_I_BETA x) ∧ (∀ x, x < 8 → j ≠
    Od.AX_PSI_ALPHA x) ∧ (∀ x, x < 8 → j ≠ Od.AX_PSI_BETA x) ∧ (∀ x, x < 8 → j ≠ Od.AX_TQ_REF x) ∧ j ≠
    Od.CNT_CNT_OVF_MAP ∧ (∀ x, x < 24 → j ≠ Od.LU_REF x) ∧ (∀ x, x < 8 → j ≠ Od.OBS_OBS_STATUS x) ∧ j ≠
    Od.PRK_PARK_CMD t ∧ j ≠ Od.PRK_PARK_STATE t ∧ (∀ x, x < 8 → j ≠ Od.SOL_DUTY x) ∧ (∀ x, x < 8 → j ≠
    Od.SOL_ENERGISATIONS x) ∧ (∀ x, x < 8 → j ≠ Od.SOL_I_SET x) ∧ (∀ x, x < 8 → j ≠ Od.SOL_SOL_CNT_STATUS x) ∧ (∀ x, x
    < 8 → j ≠ Od.SOL_SOL_STATUS x)) false s (State.parkRelease t s) := by
  unfold State.parkRelease
  exact .refuseIf (.refuseIf (.ok (.ite (.step .movePawl (.step .parkSolenoid (.step .setPark (.step .setN .refl))))
    (.step .setN .refl))))
theorem OkLeaves.parkEngage {t : Fin 2} {s : State} : OkLeaves [.od, .cells, .axes, .gbx] (fun j => (∀ x, x < 8 → j ≠
    Od.AX_AXIS_STATUS x) ∧ (∀ x, x < 8 → j ≠ Od.AX_I_ALPHA x) ∧ (∀ x, x < 8 → j ≠ Od.AX_I_BETA x) ∧ (∀ x, x < 8 → j ≠
    Od.AX_PSI_ALPHA x) ∧ (∀ x, x < 8 → j ≠ Od.AX_PSI_BETA x) ∧ (∀ x, x < 8 → j ≠ Od.AX_TQ_REF x) ∧ j ≠
    Od.CNT_CNT_OVF_MAP ∧ (∀ x, x < 24 → j ≠ Od.LU_REF x) ∧ (∀ x, x < 8 → j ≠ Od.OBS_OBS_STATUS x) ∧ j ≠
    Od.PRK_PARK_CMD t ∧ j ≠ Od.PRK_PARK_STATE t ∧ (∀ x, x < 8 → j ≠ Od.SOL_DUTY x) ∧ (∀ x, x < 8 → j ≠
    Od.SOL_ENERGISATIONS x) ∧ (∀ x, x < 8 → j ≠ Od.SOL_I_SET x) ∧ (∀ x, x < 8 → j ≠ Od.SOL_SOL_CNT_STATUS x) ∧ (∀ x, x
    < 8 → j ≠ Od.SOL_SOL_STATUS x)) false s (State.parkEngage t s) := by
  unfold State.parkEngage
  exact .refuseIf (.ite (.ok (.step .setN .refl)) (.refuseIf (.ok (.step .movePawl (.step .parkSolenoid (.step
    .setPark (.step .setN .refl)))))))
theorem State.Leaves.writePark {s : State} {who : Requester} {t : Fin 2} {v : Nat} : State.Leaves [.od, .out, .log,
    .cells, .axes, .gbx, .sessions] (fun j => noAccess j ∧ (∀ x, x < 8 → j ≠ Od.AX_AXIS_STATUS x) ∧ (∀ x, x < 8 → j ≠
    Od.AX_I_ALPHA x) ∧ (∀ x, x < 8 → j ≠ Od.AX_I_BETA x) ∧ (∀ x, x < 8 → j ≠ Od.AX_PSI_ALPHA x) ∧ (∀ x, x < 8 → j ≠
    Od.AX_PSI_BETA x) ∧ (∀ x, x < 8 → j ≠ Od.AX_TQ_REF x) ∧ (∀ x, x < 24 → j ≠ Od.LU_REF x) ∧ (∀ x, x < 8 → j ≠
    Od.OBS_OBS_STATUS x) ∧ j ≠ Od.PRK_PARK_CMD t ∧ j ≠ Od.PRK_PARK_STATE t ∧ (∀ x, x < 8 → j ≠ Od.SOL_DUTY x) ∧ (∀ x,
    x < 8 → j ≠ Od.SOL_ENERGISATIONS x) ∧ (∀ x, x < 8 → j ≠ Od.SOL_I_SET x) ∧ (∀ x, x < 8 → j ≠ Od.SOL_SOL_CNT_STATUS
    x) ∧ (∀ x, x < 8 → j ≠ Od.SOL_SOL_STATUS x)) false s (s.writePark who t v) := by
  unfold State.writePark
  exact .request (fun _ => (.refuseIf (.refuseIf (.ite (.after .parkEngage .refl) (.after .parkRelease .refl)))))
    .refl
theorem State.Leaves.shiftTo {s : State} {t : Fin 2} {step : Nat} : State.Leaves [.od, .gbx] (fun j => j ≠
    Od.SHF_SHIFT_STEP t) false s (s.shiftTo t step) := by
  unfold State.shiftTo
  exact .step .modSide (.step .setN .refl)
theorem State.Leaves.shiftStart {s : State} {t : Fin 2} {v : Nat} : State.Leaves [.od, .gbx] (fun j => j ≠
    Od.SHF_GEAR_STATE t ∧ j ≠ Od.SHF_SHIFT_STEP t) false s (s.shiftStart t v) := by
  unfold State.shiftStart
  exact .step .shiftTo (.step .setGear (.step .modSide .refl))
theorem State.Leaves.shiftAccept {s : State} {t : Fin 2} {v : Nat} : State.Leaves [.od, .gbx] (fun j => j ≠
    Od.SHF_GEAR_STATE t ∧ j ≠ Od.SHF_SHIFT_CMD t ∧ j ≠ Od.SHF_SHIFT_STEP t) false s (s.shiftAccept t v) := by
  unfold State.shiftAccept
  exact .ite (.when (fun _ => (.step .setN .refl)) (.step .setN .refl)) (.ite (.step .modSide (.step .setN (.step
    .setN .refl))) (.step .shiftStart (.step .setN .refl)))
theorem OkLeaves.shiftEffect {who : Requester} {t : Fin 2} {v : Nat} {s : State} : OkLeaves [.od, .gbx] (fun j => j ≠
    Od.SHF_GEAR_STATE t ∧ j ≠ Od.SHF_SHIFT_CMD t ∧ j ≠ Od.SHF_SHIFT_STEP t) false s (State.shiftEffect who t v s) :=
    by
  unfold State.shiftEffect
  exact .refuseIf (.refuseIf (.refuseIf (.ok (.step .shiftAccept .refl))))
theorem State.Leaves.noteRefusal {s : State} {who : Requester} {t : Fin 2} {v : Nat} : State.Leaves [.od] (fun j => j ≠
    Od.SHF_LAST_REFUSAL) false s (s.noteRefusal who t v) := by
  unfold State.noteRefusal
  exact .ite (.step .setN .refl) .refl
theorem State.Leaves.writeShift {s : State} {who : Requester} {t : Fin 2} {v : Nat} : State.Leaves [.od, .out, .log,
    .gbx, .sessions] (fun j => noAccess j ∧ j ≠ Od.SHF_GEAR_STATE t ∧ j ≠ Od.SHF_LAST_REFUSAL ∧ j ≠ Od.SHF_SHIFT_CMD t
    ∧ j ≠ Od.SHF_SHIFT_STEP t) false s (s.writeShift who t v) := by
  unfold State.writeShift
  exact .request (fun _ => (.after .shiftEffect .refl)) (.step .noteRefusal .refl)
theorem OkLeaves.iSetEffect {who : Requester} {ch : Fin 8} {q : Rat} {s : State} : OkLeaves [.od, .gbx] (fun j => (∀ x,
    x < 24 → j ≠ Od.LU_REF x) ∧ j ≠ Od.SOL_I_SET ch ∧ j ≠ Od.SOL_SOL_STATUS ch) false s (State.iSetEffect who ch q s)
    := by
  unfold State.iSetEffect
  exact .refuseIf (.refuseIf (.ok (.step .setSolenoidI .refl)))
theorem State.Leaves.writeISet {s : State} {who : Requester} {ch : Fin 8} {value : BitVec 32} : State.Leaves [.od,
    .out, .log, .gbx, .sessions] (fun j => noAccess j ∧ (∀ x, x < 24 → j ≠ Od.LU_REF x) ∧ j ≠ Od.SOL_I_SET ch ∧ j ≠
    Od.SOL_SOL_STATUS ch) false s (s.writeISet who ch value) := by
  unfold State.writeISet
  exact .request (fun _ => (by split; exacts [.error, (.after .iSetEffect .refl)])) .refl
theorem State.Leaves.startReversal {s : State} {d : Drive} : State.Leaves [.od, .log, .drives, .cells, .legs, .axes,
    .traction] (fun j => (∀ x, x < 8 → j ≠ Od.AX_TQ_REF x) ∧ j ≠ Od.CNT_CNT_OVF_MAP ∧ (∀ x, x < 15 → j ≠
    Od.OBS_ASC_TIME_ms x) ∧ (∀ x, x < 15 → j ≠ Od.OBS_OBS_CNT_STATUS x) ∧ (∀ x, x < 8 → j ≠ Od.OBS_OBS_STATUS x) ∧ (∀
    x, x < 50 → j ≠ Od.SH_CH_STATUS x) ∧ j ≠ Od.TR_TQ_RAMP d.num) false s (s.startReversal d) := by
  unfold State.startReversal
  exact .ite .refl (.ite (.each (fun _ _ _ => (.ite (.step .coastCell .refl) .refl)) (.each (fun _ _ _ => (.step
    .setBit (.step .modAx .refl))) (.step .lastEvent (.step .event (.step .modDrv (.step .setQ (.step .endProbe
    .refl))))))) (.step .zeroRefs (.each (fun _ _ _ => (.step .setBit (.step .modAx .refl))) (.step .lastEvent (.step
    .event (.step .modDrv (.step .setQ (.step .endProbe .refl))))))))
theorem State.Leaves.setDirection {s : State} {t : Fin 2} {v : Nat} : State.Leaves [.od, .log, .drives, .cells, .legs,
    .axes, .traction] (fun j => (∀ x, x < 8 → j ≠ Od.AX_TQ_REF x) ∧ j ≠ Od.CNT_CNT_OVF_MAP ∧ (∀ x, x < 15 → j ≠
    Od.OBS_ASC_TIME_ms x) ∧ (∀ x, x < 15 → j ≠ Od.OBS_OBS_CNT_STATUS x) ∧ (∀ x, x < 8 → j ≠ Od.OBS_OBS_STATUS x) ∧ (∀
    x, x < 50 → j ≠ Od.SH_CH_STATUS x) ∧ j ≠ Od.TR_DIRECTION t ∧ j ≠ Od.TR_DIR_CHANGES t ∧ j ≠ Od.TR_DRIVE_STATUS t ∧
    (∀ x, x < 2 → j ≠ Od.TR_TQ_RAMP x)) false s (s.setDirection t v) := by
  unfold State.setDirection
  exact .ite .refl (.ite (.step .modTr (.step .startReversal (.step .count (.step .setN .refl)))) (.step .modTr (.step
    .count (.step .setN .refl))))
theorem State.Leaves.axleDirection {s : State} : State.Leaves [.od, .log, .drives, .cells, .legs, .axes, .traction]
    (fun j => (∀ x, x < 8 → j ≠ Od.AX_TQ_REF x) ∧ j ≠ Od.CNT_CNT_OVF_MAP ∧ (∀ x, x < 15 → j ≠ Od.OBS_ASC_TIME_ms x) ∧
    (∀ x, x < 15 → j ≠ Od.OBS_OBS_CNT_STATUS x) ∧ (∀ x, x < 8 → j ≠ Od.OBS_OBS_STATUS x) ∧ (∀ x, x < 50 → j ≠
    Od.SH_CH_STATUS x) ∧ (∀ x, x < 2 → j ≠ Od.TR_DIRECTION x) ∧ (∀ x, x < 2 → j ≠ Od.TR_DIR_CHANGES x) ∧ (∀ x, x < 2 →
    j ≠ Od.TR_DRIVE_STATUS x) ∧ (∀ x, x < 2 → j ≠ Od.TR_TQ_RAMP x)) false s (s.axleDirection) := by
  unfold State.axleDirection
  exact .step .setDirection (.step .setDirection .refl)
theorem OkLeaves.axleDirectionEffect {who : Requester} {v : Nat} {s : State} : OkLeaves [.od, .log, .drives, .cells,
    .legs, .axes, .traction, .gbx] (fun j => j ≠ Od.AXLE_AXLE_DIRECTION ∧ (∀ x, x < 8 → j ≠ Od.AX_TQ_REF x) ∧ j ≠
    Od.CNT_CNT_OVF_MAP ∧ (∀ x, x < 15 → j ≠ Od.OBS_ASC_TIME_ms x) ∧ (∀ x, x < 15 → j ≠ Od.OBS_OBS_CNT_STATUS x) ∧ (∀
    x, x < 8 → j ≠ Od.OBS_OBS_STATUS x) ∧ (∀ x, x < 50 → j ≠ Od.SH_CH_STATUS x) ∧ (∀ x, x < 2 → j ≠ Od.TR_DIRECTION x)
    ∧ (∀ x, x < 2 → j ≠ Od.TR_DIR_CHANGES x) ∧ (∀ x, x < 2 → j ≠ Od.TR_DRIVE_STATUS x) ∧ (∀ x, x < 2 → j ≠
    Od.TR_TQ_RAMP x)) false s (State.axleDirectionEffect who v s) := by
  unfold State.axleDirectionEffect
  exact .refuseIf (.refuseIf (.ok (.ite (.step .setN .refl) (.ite (.step .with_gbx (.step .setN .refl)) (.step
    .axleDirection (.step .setN .refl))))))
theorem State.Leaves.writeAxleDirection {s : State} {who : Requester} {v : Nat} : State.Leaves [.od, .out, .log,
    .drives, .cells, .legs, .axes, .traction, .gbx, .sessions] (fun j => noAccess j ∧ j ≠ Od.AXLE_AXLE_DIRECTION ∧ (∀
    x, x < 8 → j ≠ Od.AX_TQ_REF x) ∧ (∀ x, x < 15 → j ≠ Od.OBS_ASC_TIME_ms x) ∧ (∀ x, x < 15 → j ≠
    Od.OBS_OBS_CNT_STATUS x) ∧ (∀ x, x < 8 → j ≠ Od.OBS_OBS_STATUS x) ∧ (∀ x, x < 50 → j ≠ Od.SH_CH_STATUS x) ∧ (∀ x,
    x < 2 → j ≠ Od.TR_DIRECTION x) ∧ (∀ x, x < 2 → j ≠ Od.TR_DIR_CHANGES x) ∧ (∀ x, x < 2 → j ≠ Od.TR_DRIVE_STATUS x)
    ∧ (∀ x, x < 2 → j ≠ Od.TR_TQ_RAMP x)) false s (s.writeAxleDirection who v) := by
  unfold State.writeAxleDirection
  exact .request (fun _ => (.after .axleDirectionEffect .refl)) .refl
theorem State.Leaves.writeAxleTorque {s : State} {who : Requester} {key : Nat} {value : BitVec 32} : State.Leaves [.od,
    .out, .log, .sessions] (fun j => noAccess j ∧ j ≠ key) false s (s.writeAxleTorque who key value) := by
  unfold State.writeAxleTorque
  exact .request (fun _ => (by split; exacts [.error, (.refuseIf (.ok (.step .setQ .refl)))])) .refl
theorem State.Leaves.setShortfall {s : State} {t : Fin 2} {v : Rat} : State.Leaves [.od, .log] (fun j => j ≠
    Od.AXLE_AXLE_STATUS ∧ j ≠ Od.AXLE_SHORTFALL) false s (s.setShortfall t v) := by
  unfold State.setShortfall
  exact .ite (.step .lastEvent (.step .event (.step .setBit (.step .setQ .refl)))) (.step .setBit (.step .setQ .refl))
theorem State.Leaves.axleModeNow {s : State} {m : Nat} : State.Leaves [.od, .log, .drives, .cells, .legs, .axes,
    .traction, .gbx] (fun j => j ≠ Od.AXLE_AXLE_CNT_STATUS ∧ j ≠ Od.AXLE_AXLE_STATUS ∧ j ≠ Od.AXLE_MODE_CHANGES ∧ j ≠
    Od.AXLE_SHORTFALL ∧ j ≠ Od.AXLE_WHEEL_TQ_A ∧ j ≠ Od.AXLE_WHEEL_TQ_B ∧ (∀ x, x < 8 → j ≠ Od.AX_TQ_REF x) ∧ j ≠
    Od.CNT_CNT_OVF_MAP ∧ (∀ x, x < 15 → j ≠ Od.OBS_ASC_TIME_ms x) ∧ (∀ x, x < 15 → j ≠ Od.OBS_OBS_CNT_STATUS x) ∧ (∀
    x, x < 8 → j ≠ Od.OBS_OBS_STATUS x) ∧ (∀ x, x < 50 → j ≠ Od.SH_CH_STATUS x) ∧ (∀ x, x < 2 → j ≠ Od.TR_DIRECTION x)
    ∧ (∀ x, x < 2 → j ≠ Od.TR_DIR_CHANGES x) ∧ (∀ x, x < 2 → j ≠ Od.TR_DRIVE_STATUS x) ∧ (∀ x, x < 2 → j ≠
    Od.TR_TQ_RAMP x)) false s (s.axleModeNow m) := by
  unfold State.axleModeNow
  exact .ite (.step .setBit (.step .setBit (.step .setShortfall (.step .setQ (.step .setQ (.step .event (.step .count
    (.step .with_gbx (.step .setField (.step .setBit .refl)))))))))) (.step .axleDirection (.step .event (.step .count
    (.step .with_gbx (.step .setField (.step .setBit .refl))))))
theorem OkLeaves.axleModeEffect {who : Requester} {v : Nat} {s : State} : OkLeaves [.od, .log, .drives, .cells, .legs,
    .axes, .traction, .gbx] (fun j => j ≠ Od.AXLE_AXLE_CNT_STATUS ∧ j ≠ Od.AXLE_AXLE_MODE ∧ j ≠ Od.AXLE_AXLE_STATUS ∧
    j ≠ Od.AXLE_MODE_CHANGES ∧ j ≠ Od.AXLE_SHORTFALL ∧ j ≠ Od.AXLE_WHEEL_TQ_A ∧ j ≠ Od.AXLE_WHEEL_TQ_B ∧ (∀ x, x < 8 →
    j ≠ Od.AX_TQ_REF x) ∧ j ≠ Od.CNT_CNT_OVF_MAP ∧ (∀ x, x < 15 → j ≠ Od.OBS_ASC_TIME_ms x) ∧ (∀ x, x < 15 → j ≠
    Od.OBS_OBS_CNT_STATUS x) ∧ (∀ x, x < 8 → j ≠ Od.OBS_OBS_STATUS x) ∧ (∀ x, x < 50 → j ≠ Od.SH_CH_STATUS x) ∧ (∀ x,
    x < 2 → j ≠ Od.TR_DIRECTION x) ∧ (∀ x, x < 2 → j ≠ Od.TR_DIR_CHANGES x) ∧ (∀ x, x < 2 → j ≠ Od.TR_DRIVE_STATUS x)
    ∧ (∀ x, x < 2 → j ≠ Od.TR_TQ_RAMP x)) false s (State.axleModeEffect who v s) := by
  unfold State.axleModeEffect
  exact .refuseIf (.refuseIf (.refuseIf (.ok (.ite (.step .setBit (.step .with_gbx (.step .setN .refl))) (.ite (.step
    .axleModeNow (.step .setN .refl)) (.step .setBit (.step .with_gbx (.step .setN .refl))))))))
theorem State.Leaves.writeAxleMode {s : State} {who : Requester} {v : Nat} : State.Leaves [.od, .out, .log, .drives,
    .cells, .legs, .axes, .traction, .gbx, .sessions] (fun j => noAccess j ∧ j ≠ Od.AXLE_AXLE_CNT_STATUS ∧ j ≠
    Od.AXLE_AXLE_MODE ∧ j ≠ Od.AXLE_AXLE_STATUS ∧ j ≠ Od.AXLE_MODE_CHANGES ∧ j ≠ Od.AXLE_SHORTFALL ∧ j ≠
    Od.AXLE_WHEEL_TQ_A ∧ j ≠ Od.AXLE_WHEEL_TQ_B ∧ (∀ x, x < 8 → j ≠ Od.AX_TQ_REF x) ∧ (∀ x, x < 15 → j ≠
    Od.OBS_ASC_TIME_ms x) ∧ (∀ x, x < 15 → j ≠ Od.OBS_OBS_CNT_STATUS x) ∧ (∀ x, x < 8 → j ≠ Od.OBS_OBS_STATUS x) ∧ (∀
    x, x < 50 → j ≠ Od.SH_CH_STATUS x) ∧ (∀ x, x < 2 → j ≠ Od.TR_DIRECTION x) ∧ (∀ x, x < 2 → j ≠ Od.TR_DIR_CHANGES x)
    ∧ (∀ x, x < 2 → j ≠ Od.TR_DRIVE_STATUS x) ∧ (∀ x, x < 2 → j ≠ Od.TR_TQ_RAMP x)) false s (s.writeAxleMode who v) :=
    by
  unfold State.writeAxleMode
  exact .request (fun _ => (.after .axleModeEffect .refl)) .refl
theorem OkLeaves.autoRunEffect {d : SelfRun} {v : Nat} {s : State} : OkLeaves [.od, .drives, .cells] (fun j => j ≠
    SelfRun.key d) false s (State.autoRunEffect d v s) := by
  unfold State.autoRunEffect
  exact .refuseIf (.ok (.ite (.step .autoArm (.step .modDrv (.step .setFlag .refl))) (.step .setFlag .refl)))
theorem State.Leaves.writeAutoRun {s : State} {who : Requester} {d : SelfRun} {v : Nat} : State.Leaves [.od, .out, .log,
    .drives, .cells, .sessions] (fun j => noAccess j ∧ j ≠ SelfRun.key d) false s (s.writeAutoRun who d v) := by
  unfold State.writeAutoRun
  exact .request (fun _ => (.after .autoRunEffect .refl)) .refl
theorem State.Leaves.setChg {s : State} {i : Nat} {b : Bool} : State.Leaves [.od] (fun j => j ≠ Od.CHR_CHG_STATUS) false
    s (s.setChg i b) := by
  unfold State.setChg
  exact .step .setBit .refl
theorem State.Leaves.chgAck {s : State} : State.Leaves [.od, .log, .chg] (fun j => j ≠ Od.CHR_CHG_STATUS ∧ j ≠
    Od.EXP_EXP_STATUS ∧ j ≠ Od.HV_HV_STATE) false s (s.chgAck) := by
  unfold State.chgAck
  exact .ite (.step .setHvState (.step .setBit (.step .setBit (.step .setChg (.step .modChg .refl))))) (.step .setBit
    (.step .setBit (.step .setChg (.step .modChg .refl))))
theorem State.Leaves.ackSolenoids {s : State} : State.Leaves [.od] (fun j => (∀ x, x < 8 → j ≠ Od.SOL_SOL_STATUS x))
    false s (s.ackSolenoids) := by
  unfold State.ackSolenoids
  exact .each (fun i hi _ => .step .setField .refl (by simp +contextual only [List.mem_range.1 hi, ne_eq, not_false_eq_true, and_self, implies_true, Fin.val_lt_of_le, Nat.reduceLeDiff, Nat.reduceLT])) .refl
theorem State.Leaves.thermalSummary {s : State} : State.Leaves [.od] (fun j => j ≠ Od.THM_BROKEN_NOW ∧ j ≠
    Od.THM_TH_STATUS) false s (s.thermalSummary) := by
  unfold State.thermalSummary
  exact .step .setN (.step .setBit (.step .setBit (.step .setBit (.step .setBit .refl))))
theorem State.Leaves.modThermal {s : State} {f : ThermalSt → ThermalSt} : State.Leaves [.thermal] (fun _ => True)
    false s (s.modThermal f) := by
  unfold State.modThermal
  exact .step .with_thermal .refl
theorem State.Leaves.modEst {s : State} {c : Cell} {f : EstimateSt → EstimateSt} : State.Leaves [.thermal] (fun _ =>
    True) false s (s.modEst c f) := by
  unfold State.modEst
  exact .step .modThermal .refl
theorem State.Leaves.modSensor {s : State} {n : Fin 64} {f : SensorSt → SensorSt} : State.Leaves [.thermal] (fun _ =>
    True) false s (s.modSensor n f) := by
  unfold State.modSensor
  exact .step .modThermal .refl
theorem State.Leaves.ackThermal {s : State} {d : Drive} : State.Leaves [.od, .thermal] (fun j => (∀ x, x < 64 → j ≠
    Od.SEN_SENSOR_STATUS x) ∧ j ≠ Od.THM_BROKEN_NOW ∧ j ≠ Od.THM_TH_STATUS) false s (s.ackThermal d) := by
  unfold State.ackThermal
  exact .step .thermalSummary (.each (fun _ _ _ => (.ite (.step .modEst .refl) .refl)) (.each (fun _ _ _ => (.ite
    (.when (fun _ => (.step .setBit .refl)) (.step .modSensor .refl)) .refl)) .refl))
theorem State.Leaves.ackCell {s : State} {c : Cell} : State.Leaves [.od] (fun j => j ≠ Od.CELL_CELL_ACK_COUNT c ∧ j ≠
    Od.CELL_CELL_STATUS c ∧ j ≠ Od.CNT_CNT_OVF_MAP ∧ (∀ x, x < 50 → j ≠ Od.SH_CH_STATUS x)) false s (s.ackCell c) :=
    by
  unfold State.ackCell
  exact .each (fun _ _ _ => (.step .setField .refl)) (.ite (.step .setN (.step .setBit (.step .setField (.step
    .setField .refl)))) (.step .setBit (.step .setBit (.step .setField (.step .setField .refl)))))
theorem State.Leaves.ackLinks {s : State} {d : Drive} : State.Leaves [.links] (fun _ => True) false s (s.ackLinks d)
    := by
  unfold State.ackLinks
  exact .each (fun _ _ _ => (.step .modLink .refl)) .refl
theorem State.Leaves.ackLinkLatches {s : State} {d : Drive} : State.Leaves [.od, .dcl] (fun j => j ≠
    Od.DCL_DCL_STATUS) false s (s.ackLinkLatches d) := by
  unfold State.ackLinkLatches
  exact .when (fun _ => (.step .setBit .refl)) (.when (fun _ => (.step .setBit .refl)) (.when (fun _ => (.step .setBit
    .refl)) (.step .modDcl .refl)))
theorem State.Leaves.ackDrive {s : State} {d : Drive} : State.Leaves [.od, .log, .links, .drives, .cells, .legs,
    .store, .seqs, .axes, .traction, .lus, .stageIn, .lvCommand, .gbx, .dcl, .aux, .chg, .path, .thermal] (fun j =>
    noReaction j ∧ (∀ x, x < 15 → j ≠ Od.CELL_CELL_ACK_COUNT x) ∧ (∀ x, x < 15 → j ≠ Od.CELL_CELL_STATUS x) ∧ (∀ x, x
    < 64 → j ≠ Od.SEN_SENSOR_STATUS x) ∧ j ≠ Od.THM_BROKEN_NOW ∧ j ≠ Od.THM_TH_STATUS) true s (s.ackDrive d) := by
  unfold State.ackDrive
  exact .step .goto (by split; exacts [(.step .with_gbx (.stepR .ackSolenoids (.step .modDrv (.stepR .ackThermal
    (.stepR .ackLinkLatches (.step .ackLinks (.each (fun _ _ _ => (.stepR .ackCell .refl)) .refl))))))), (.step
    .modDcl (.step .modDrv (.stepR .ackThermal (.stepR .ackLinkLatches (.step .ackLinks (.each (fun _ _ _ => (.stepR
    .ackCell .refl)) .refl)))))), (.stepR .setBit (.step .modDrv (.stepR .ackThermal (.stepR .ackLinkLatches (.step
    .ackLinks (.each (fun _ _ _ => (.stepR .ackCell .refl)) .refl)))))), (.stepR .chgAck (.step .modDrv (.stepR
    .ackThermal (.stepR .ackLinkLatches (.step .ackLinks (.each (fun _ _ _ => (.stepR .ackCell .refl)) .refl)))))),
    (.step .modDrv (.stepR .ackThermal (.stepR .ackLinkLatches (.step .ackLinks (.each (fun _ _ _ => (.stepR .ackCell
    .refl)) .refl)))))])
theorem OkLeaves.ack {s : State} {d : Drive} : OkLeaves [.od, .log, .links, .drives, .cells, .legs, .store, .seqs,
    .axes, .traction, .lus, .stageIn, .lvCommand, .gbx, .dcl, .aux, .chg, .path, .thermal] (fun j => noReaction j ∧ (∀
    x, x < 15 → j ≠ Od.CELL_CELL_ACK_COUNT x) ∧ (∀ x, x < 15 → j ≠ Od.CELL_CELL_STATUS x) ∧ (∀ x, x < 64 → j ≠
    Od.SEN_SENSOR_STATUS x) ∧ j ≠ Od.THM_BROKEN_NOW ∧ j ≠ Od.THM_TH_STATUS) true s (s.ack d) := by
  unfold State.ack
  exact .refuseIf (.ok (.step .ackDrive .refl))
theorem OkLeaves.disarm {s : State} {d : Drive} : OkLeaves [.od, .log, .links, .drives, .cells, .legs, .store, .seqs,
    .axes, .traction, .lus, .stageIn, .lvCommand, .gbx, .dcl, .aux, .chg, .path] (fun j => noReaction j) true s
    (s.disarm d) := by
  unfold State.disarm
  exact .refuseIf (.ok (.step .goto (.step .holdAuto .refl)))
theorem State.Leaves.startTrain {s : State} {t : Fin 2} {purpose : ProbeFor} {slots : List (Axis × Nat)} : State.Leaves
    [.od, .axes, .traction] (fun j => j ≠ Od.CNT_CNT_OVF_MAP ∧ (∀ x, x < 15 → j ≠ Od.OBS_OBS_CNT_STATUS x) ∧ (∀ x, x <
    8 → j ≠ Od.OBS_OBS_STATUS x) ∧ (∀ x, x < 8 → j ≠ Od.OBS_PROBE_COUNT x)) false s (s.startTrain t purpose slots) :=
    by
  unfold State.startTrain
  exact .step .modTr (.each (fun _ _ _ => (.when (fun _ => (.step .setBit (.step .count .refl))) (.step .modAx
    .refl))) .refl)
theorem State.Leaves.startProbe {s : State} {t : Fin 2} {purpose : ProbeFor} : State.Leaves [.od, .axes, .traction]
    (fun j => j ≠ Od.CNT_CNT_OVF_MAP ∧ (∀ x, x < 15 → j ≠ Od.OBS_OBS_CNT_STATUS x) ∧ (∀ x, x < 8 → j ≠
    Od.OBS_OBS_STATUS x) ∧ (∀ x, x < 8 → j ≠ Od.OBS_PROBE_COUNT x)) false s (s.startProbe t purpose) := by
  unfold State.startProbe
  exact .ite .refl (.step .startTrain .refl)
theorem State.Leaves.setSpeed {s : State} {n : Nat} {w : Rat} : State.Leaves [.od] (fun j => j ≠ Od.AX_BEMF_LL_PK n ∧ j ≠
    Od.AX_SPEED_EL n ∧ j ≠ Od.OBS_OBS_SPEED n ∧ (∀ x, x < 2 → j ≠ Od.TR_SPEED x)) false s (s.setSpeed n w) := by
  unfold State.setSpeed
  exact .when (fun _ => (.step .setQ .refl)) (.step .setQ (.step .setQ (.step .setQ .refl)))
theorem State.Leaves.initFlux {s : State} {n : Axis} {theta : Rat} {w : Rat} : State.Leaves [.od, .cells, .axes] (fun j =>
    j ≠ Od.AX_AXIS_STATUS n ∧ j ≠ Od.AX_BEMF_LL_PK n ∧ j ≠ Od.AX_I_ALPHA n ∧ j ≠ Od.AX_I_BETA n ∧ j ≠ Od.AX_PSI_ALPHA
    n ∧ j ≠ Od.AX_PSI_BETA n ∧ j ≠ Od.AX_SPEED_EL n ∧ j ≠ Od.AX_TQ_REF n ∧ j ≠ Od.CNT_CNT_OVF_MAP ∧ (∀ x, x < 15 → j ≠
    Od.OBS_ASC_TIME_ms x) ∧ j ≠ Od.OBS_OBS_ANGLE n ∧ (∀ x, x < 15 → j ≠ Od.OBS_OBS_CNT_STATUS x) ∧ j ≠
    Od.OBS_OBS_SPEED n ∧ j ≠ Od.OBS_OPEN_ACC_us n ∧ (∀ x, x < 2 → j ≠ Od.TR_SPEED x)) false s (s.initFlux n theta w)
    := by
  unfold State.initFlux
  exact .step .setN (.step .setSpeed (.step .setQ (.step .modAx (.step .setBit (.step .setField (.step .setQ (.step
    .setQ (.step .setQ (.step .setQ (.step .setQ (.step .modCell (.step .countAsc .refl))))))))))))
theorem State.Leaves.engage {s : State} {n : Axis} {src : Nat} {theta : Rat} {w : Rat} : State.Leaves [.od, .log, .cells,
    .axes] (fun j => j ≠ Od.AX_AXIS_STATUS n ∧ j ≠ Od.AX_BEMF_LL_PK n ∧ j ≠ Od.AX_I_ALPHA n ∧ j ≠ Od.AX_I_BETA n ∧ j ≠
    Od.AX_PSI_ALPHA n ∧ j ≠ Od.AX_PSI_BETA n ∧ j ≠ Od.AX_SPEED_EL n ∧ j ≠ Od.AX_TQ_REF n ∧ j ≠ Od.CNT_CNT_OVF_MAP ∧ (∀
    x, x < 15 → j ≠ Od.OBS_ASC_TIME_ms x) ∧ j ≠ Od.OBS_CATCH_COUNT n ∧ j ≠ Od.OBS_OBS_ANGLE n ∧ (∀ x, x < 15 → j ≠
    Od.OBS_OBS_CNT_STATUS x) ∧ j ≠ Od.OBS_OBS_SPEED n ∧ j ≠ Od.OBS_OBS_STATUS n ∧ j ≠ Od.OBS_OPEN_ACC_us n ∧ (∀ x, x <
    2 → j ≠ Od.TR_SPEED x)) false s (s.engage n src theta w) := by
  unfold State.engage
  exact .step .event (.step .setField (.step .setBit (.step .setBit (.step .count (.step .initFlux .refl)))))
theorem State.Leaves.motorRuns {s : State} {t : Fin 2} : State.Leaves [.od, .log, .drives, .traction] (fun j => j ≠
    Od.TR_TQ_RAMP t) false s (s.motorRuns t) := by
  unfold State.motorRuns
  exact .ite (.step .lastEvent (.step .event (.step .setQ (.step .modTr (.step .modDrv .refl))))) (.step .modDrv
    .refl)
theorem State.Leaves.engageAll {s : State} {t : Fin 2} {m : Axis} {src : Nat} {theta : Rat} {w : Rat} : State.Leaves [.od,
    .log, .drives, .cells, .axes, .traction] (fun j => (∀ x, x < 8 → j ≠ Od.AX_AXIS_STATUS x) ∧ (∀ x, x < 8 → j ≠
    Od.AX_BEMF_LL_PK x) ∧ (∀ x, x < 8 → j ≠ Od.AX_I_ALPHA x) ∧ (∀ x, x < 8 → j ≠ Od.AX_I_BETA x) ∧ (∀ x, x < 8 → j ≠
    Od.AX_PSI_ALPHA x) ∧ (∀ x, x < 8 → j ≠ Od.AX_PSI_BETA x) ∧ (∀ x, x < 8 → j ≠ Od.AX_SPEED_EL x) ∧ (∀ x, x < 8 → j ≠
    Od.AX_TQ_REF x) ∧ j ≠ Od.CNT_CNT_OVF_MAP ∧ (∀ x, x < 15 → j ≠ Od.OBS_ASC_TIME_ms x) ∧ (∀ x, x < 8 → j ≠
    Od.OBS_CATCH_COUNT x) ∧ (∀ x, x < 8 → j ≠ Od.OBS_OBS_ANGLE x) ∧ (∀ x, x < 15 → j ≠ Od.OBS_OBS_CNT_STATUS x) ∧ (∀
    x, x < 8 → j ≠ Od.OBS_OBS_SPEED x) ∧ (∀ x, x < 8 → j ≠ Od.OBS_OBS_STATUS x) ∧ (∀ x, x < 8 → j ≠ Od.OBS_OPEN_ACC_us
    x) ∧ (∀ x, x < 2 → j ≠ Od.TR_SPEED x) ∧ j ≠ Od.TR_TQ_RAMP t) false s (s.engageAll t m src theta w) := by
  unfold State.engageAll
  exact .step .motorRuns (.each (fun _ _ _ => (.step .engage .refl)) .refl)
theorem State.Leaves.startSets {s : State} {t : Fin 2} : State.Leaves [.od, .log, .drives, .cells, .axes, .traction]
    (fun j => (∀ x, x < 8 → j ≠ Od.AX_AXIS_STATUS x) ∧ (∀ x, x < 8 → j ≠ Od.AX_BEMF_LL_PK x) ∧ (∀ x, x < 8 → j ≠
    Od.AX_I_ALPHA x) ∧ (∀ x, x < 8 → j ≠ Od.AX_I_BETA x) ∧ (∀ x, x < 8 → j ≠ Od.AX_PSI_ALPHA x) ∧ (∀ x, x < 8 → j ≠
    Od.AX_PSI_BETA x) ∧ (∀ x, x < 8 → j ≠ Od.AX_SPEED_EL x) ∧ (∀ x, x < 8 → j ≠ Od.AX_TQ_REF x) ∧ j ≠
    Od.CNT_CNT_OVF_MAP ∧ (∀ x, x < 15 → j ≠ Od.OBS_ASC_TIME_ms x) ∧ (∀ x, x < 8 → j ≠ Od.OBS_CATCH_COUNT x) ∧ (∀ x, x
    < 8 → j ≠ Od.OBS_OBS_ANGLE x) ∧ (∀ x, x < 15 → j ≠ Od.OBS_OBS_CNT_STATUS x) ∧ (∀ x, x < 8 → j ≠ Od.OBS_OBS_SPEED
    x) ∧ (∀ x, x < 8 → j ≠ Od.OBS_OBS_STATUS x) ∧ (∀ x, x < 8 → j ≠ Od.OBS_OPEN_ACC_us x) ∧ (∀ x, x < 8 → j ≠
    Od.OBS_PROBE_COUNT x) ∧ (∀ x, x < 2 → j ≠ Od.TR_SPEED x) ∧ j ≠ Od.TR_TQ_RAMP t) false s (s.startSets t) := by
  unfold State.startSets
  exact by split; exacts [(.step .engageAll .refl), (.step .startProbe .refl)]
theorem State.Leaves.resumeTraction {s : State} {t : Fin 2} : State.Leaves [.od, .log, .links, .drives, .cells, .legs,
    .store, .seqs, .axes, .traction, .lus, .stageIn, .lvCommand, .gbx, .dcl, .aux, .chg, .path] (fun j => noReaction j
    ∧ (∀ x, x < 8 → j ≠ Od.AX_BEMF_LL_PK x) ∧ (∀ x, x < 8 → j ≠ Od.AX_SPEED_EL x) ∧ (∀ x, x < 8 → j ≠
    Od.OBS_CATCH_COUNT x) ∧ (∀ x, x < 8 → j ≠ Od.OBS_OBS_ANGLE x) ∧ (∀ x, x < 8 → j ≠ Od.OBS_OBS_SPEED x) ∧ (∀ x, x <
    8 → j ≠ Od.OBS_OPEN_ACC_us x) ∧ (∀ x, x < 8 → j ≠ Od.OBS_PROBE_COUNT x) ∧ (∀ x, x < 2 → j ≠ Od.TR_SPEED x)) true s
    (s.resumeTraction t) := by
  unfold State.resumeTraction
  exact .ite (.stepR .motorRuns (.step .modDrv (.stepR .setQ (.step .goto .refl)))) (.stepR .startSets (.stepR
    .zeroRefs (.step .modDrv (.stepR .setQ (.step .goto .refl)))))
theorem State.Leaves.hvCheck {s : State} : State.Leaves [.od, .log, .chg] (fun j => j ≠ Od.HV_HV_STATE ∧ j ≠
    Od.HV_HV_TIMER_min) false s (s.hvCheck) := by
  unfold State.hvCheck
  exact .step .modChg (.step .setHvState (.step .setQ .refl))
theorem State.Leaves.runCharge {s : State} {trig : Nat} : State.Leaves [.od, .log, .links, .drives, .cells, .legs,
    .store, .seqs, .axes, .traction, .lus, .stageIn, .lvCommand, .gbx, .dcl, .aux, .chg, .path] (fun j => noReaction j
    ∧ j ≠ Od.HV_HV_TIMER_min) true s (s.runCharge trig) := by
  unfold State.runCharge
  exact .ite (.step .modChg (.step .goto .refl)) (.stepR .hvCheck (.step .modChg (.step .goto .refl)))
theorem State.Leaves.chgEvent {s : State} {code : Nat} {detail : Nat} : State.Leaves [.log] (fun _ => True) false s
    (s.chgEvent code detail) := by
  unfold State.chgEvent
  exact .step .lastEvent (.step .event .refl)
theorem State.Leaves.applyLinkCmd {s : State} {k : LinkCmd} : State.Leaves [.od, .cells, .stageIn]
    (fun j => j ≠ Od.CNV_DAB_PHASE) false s (s.applyLinkCmd k) := by
  cases k with
  | precharge c => exact .ite (.step .modCell .refl) .refl
  | switch c => exact .ite (.step .modCell .refl) .refl
  | dabPhase c q => exact .step .applyPhase .refl
theorem State.Leaves.sendTogether {s : State} {cmds : List LinkCmd} : State.Leaves [.od, .links, .cells, .stageIn]
    (fun j => j ≠ Od.CNV_DAB_PHASE) false s (s.sendTogether cmds) := by
  unfold State.sendTogether
  exact .ite (.each (fun _ _ _ => .step .applyLinkCmd .refl) .refl) (.each (fun _ _ _ => .step .modLink .refl) .refl)
theorem State.Leaves.runExport {s : State} {trig : Nat} : State.Leaves [.od, .log, .links, .drives, .cells, .legs,
    .store, .seqs, .axes, .traction, .lus, .stageIn, .lvCommand, .gbx, .dcl, .aux, .chg, .path] (fun j => noReaction j
    ∧ j ≠ Od.CHR_CHG_CNT_STATUS ∧ j ≠ Od.CHR_RELAY_OPS_MAIN) true s (s.runExport trig) := by
  unfold State.runExport
  exact .step .modChg (.step .chgEvent (.stepR .setBit (.stepR .setBit (.stepR .count (.stepR .setChg (.stepR .setChg
    (.stepR .setChg (.stepR .sendTogether (.step .goto .refl)))))))))
theorem SomeLeaves.runChg {s : State} {trig : Nat} : SomeLeaves [.od, .log, .links, .drives, .cells, .legs, .store,
    .seqs, .axes, .traction, .lus, .stageIn, .lvCommand, .gbx, .dcl, .aux, .chg, .path] (fun j => noReaction j ∧ j ≠
    Od.CHR_CHG_CNT_STATUS ∧ j ≠ Od.CHR_RELAY_OPS_MAIN ∧ j ≠ Od.HV_HV_TIMER_min) true s (s.runChg trig) := by
  unfold State.runChg
  exact .ite .none (.ite (.ite (.some (.step .runExport .refl)) .none) (.some (.step .runCharge .refl)))
theorem State.Leaves.enterWait {s : State} : State.Leaves [.od, .log, .links, .legs, .traction, .lus, .stageIn,
    .lvCommand, .gbx, .aux] (fun j => (∀ x, x < 8 → j ≠ Od.AX_TQ_REF x) ∧ j ≠ Od.CNT_CNT_OVF_MAP ∧ j ≠ Od.CNV_AUX_MODE
    ∧ j ≠ Od.CNV_AUX_STATUS ∧ j ≠ Od.DCL_CHOP_DUTY ∧ j ≠ Od.DCL_DCL_STATUS ∧ (∀ x y, x < 24 → y < 8 → j ≠ Od.LU_A1 x
    y) ∧ (∀ x y, x < 24 → y < 8 → j ≠ Od.LU_A2 x y) ∧ (∀ x y, x < 24 → y < 8 → j ≠ Od.LU_B0 x y) ∧ (∀ x y, x < 24 → y
    < 8 → j ≠ Od.LU_B1 x y) ∧ (∀ x y, x < 24 → y < 8 → j ≠ Od.LU_B2 x y) ∧ j ≠ Od.LU_COMMITS (16 : Fin 24) ∧ j ≠
    Od.LU_COMMITS (17 : Fin 24) ∧ j ≠ Od.LU_COMMITS (22 : Fin 24) ∧ j ≠ Od.LU_DIR_SIGNS (16 : Fin 24) ∧ j ≠
    Od.LU_DIR_SIGNS (17 : Fin 24) ∧ j ≠ Od.LU_DIR_SIGNS (22 : Fin 24) ∧ j ≠ Od.LU_LU_CNT_STATUS (16 : Fin 24) ∧ j ≠
    Od.LU_LU_CNT_STATUS (17 : Fin 24) ∧ j ≠ Od.LU_LU_CNT_STATUS (22 : Fin 24) ∧ (∀ x, x < 24 → j ≠ Od.LU_REF x) ∧ (∀
    x, x < 8 → j ≠ Od.LU_SEC_CTRL (16 : Fin 24) x) ∧ (∀ x, x < 8 → j ≠ Od.LU_SEC_CTRL (17 : Fin 24) x) ∧ (∀ x, x < 8 →
    j ≠ Od.LU_SEC_CTRL (22 : Fin 24) x) ∧ j ≠ Od.LV_LV_STATUS ∧ (∀ x, x < 8 → j ≠ Od.SOL_DUTY x) ∧ (∀ x, x < 8 → j ≠
    Od.SOL_ENERGISATIONS x) ∧ (∀ x, x < 8 → j ≠ Od.SOL_SOL_CNT_STATUS x) ∧ (∀ x, x < 8 → j ≠ Od.SOL_SOL_STATUS x))
    true s (s.enterWait) := by
  unfold State.enterWait
  exact .step .setAuxMode .refl
theorem State.Leaves.auxEvent {s : State} {code : Nat} {cell : Nat} {detail : Nat} : State.Leaves [.log] (fun _ => True)
    false s (s.auxEvent code cell detail) := by
  unfold State.auxEvent
  exact .step .lastEvent (.step .event .refl)
theorem State.Leaves.enterTow {s : State} : State.Leaves [.od, .log, .links, .cells, .legs, .traction, .lus, .stageIn,
    .lvCommand, .gbx, .aux] (fun j => (∀ x, x < 8 → j ≠ Od.AX_TQ_REF x) ∧ j ≠ Od.CNT_CNT_OVF_MAP ∧ j ≠
    Od.CNV_AUX_CNT_STATUS ∧ j ≠ Od.CNV_AUX_MODE ∧ j ≠ Od.CNV_AUX_STATUS ∧ j ≠ Od.CNV_TOW_ENTRIES ∧ j ≠
    Od.DCL_CHOP_DUTY ∧ j ≠ Od.DCL_DCL_STATUS ∧ (∀ x y, x < 24 → y < 8 → j ≠ Od.LU_A1 x y) ∧ (∀ x y, x < 24 → y < 8 → j
    ≠ Od.LU_A2 x y) ∧ (∀ x y, x < 24 → y < 8 → j ≠ Od.LU_B0 x y) ∧ (∀ x y, x < 24 → y < 8 → j ≠ Od.LU_B1 x y) ∧ (∀ x
    y, x < 24 → y < 8 → j ≠ Od.LU_B2 x y) ∧ j ≠ Od.LU_COMMITS (16 : Fin 24) ∧ j ≠ Od.LU_COMMITS (17 : Fin 24) ∧ j ≠
    Od.LU_COMMITS (22 : Fin 24) ∧ j ≠ Od.LU_DIR_SIGNS (16 : Fin 24) ∧ j ≠ Od.LU_DIR_SIGNS (17 : Fin 24) ∧ j ≠
    Od.LU_DIR_SIGNS (22 : Fin 24) ∧ j ≠ Od.LU_LU_CNT_STATUS (16 : Fin 24) ∧ j ≠ Od.LU_LU_CNT_STATUS (17 : Fin 24) ∧ j
    ≠ Od.LU_LU_CNT_STATUS (22 : Fin 24) ∧ (∀ x, x < 24 → j ≠ Od.LU_REF x) ∧ (∀ x, x < 8 → j ≠ Od.LU_SEC_CTRL (16 : Fin
    24) x) ∧ (∀ x, x < 8 → j ≠ Od.LU_SEC_CTRL (17 : Fin 24) x) ∧ (∀ x, x < 8 → j ≠ Od.LU_SEC_CTRL (22 : Fin 24) x) ∧ j
    ≠ Od.LV_LV_STATUS ∧ (∀ x, x < 8 → j ≠ Od.SOL_DUTY x) ∧ (∀ x, x < 8 → j ≠ Od.SOL_ENERGISATIONS x) ∧ (∀ x, x < 8 → j
    ≠ Od.SOL_SOL_CNT_STATUS x) ∧ (∀ x, x < 8 → j ≠ Od.SOL_SOL_STATUS x)) true s (s.enterTow) := by
  unfold State.enterTow
  exact .step .aux48 (.step .auxEvent (.step .setBit (.step .modCell (.step .count (.step .setAuxMode .refl)))))
theorem State.Leaves.dabStart {s : State} : State.Leaves [.od, .links, .cells, .stageIn, .aux] (fun j => j ≠
    Od.CNV_AUX_STATUS ∧ j ≠ Od.CNV_DAB_PHASE ∧ j ≠ Od.LU_REF 17) false s (s.dabStart) := by
  unfold State.dabStart
  exact .step .setQ (.step .modAux (.step .setBit (.step .sendTogether .refl)))
theorem State.Leaves.enterIbStart {s : State} : State.Leaves [.od, .log, .links, .drives, .cells, .legs, .traction,
    .lus, .stageIn, .lvCommand, .gbx, .aux] (fun j => (∀ x, x < 8 → j ≠ Od.AX_TQ_REF x) ∧ j ≠ Od.CNT_CNT_OVF_MAP ∧ j ≠
    Od.CNV_AUX_MODE ∧ j ≠ Od.CNV_AUX_STATUS ∧ j ≠ Od.CNV_DAB_PHASE ∧ j ≠ Od.DCL_CHOP_DUTY ∧ j ≠ Od.DCL_DCL_STATUS ∧ (∀
    x y, x < 24 → y < 8 → j ≠ Od.LU_A1 x y) ∧ (∀ x y, x < 24 → y < 8 → j ≠ Od.LU_A2 x y) ∧ (∀ x y, x < 24 → y < 8 → j
    ≠ Od.LU_B0 x y) ∧ (∀ x y, x < 24 → y < 8 → j ≠ Od.LU_B1 x y) ∧ (∀ x y, x < 24 → y < 8 → j ≠ Od.LU_B2 x y) ∧ j ≠
    Od.LU_COMMITS (16 : Fin 24) ∧ j ≠ Od.LU_COMMITS (17 : Fin 24) ∧ j ≠ Od.LU_COMMITS (22 : Fin 24) ∧ j ≠
    Od.LU_DIR_SIGNS (16 : Fin 24) ∧ j ≠ Od.LU_DIR_SIGNS (17 : Fin 24) ∧ j ≠ Od.LU_DIR_SIGNS (22 : Fin 24) ∧ j ≠
    Od.LU_LU_CNT_STATUS (16 : Fin 24) ∧ j ≠ Od.LU_LU_CNT_STATUS (17 : Fin 24) ∧ j ≠ Od.LU_LU_CNT_STATUS (22 : Fin 24)
    ∧ (∀ x, x < 24 → j ≠ Od.LU_REF x) ∧ (∀ x, x < 8 → j ≠ Od.LU_SEC_CTRL (16 : Fin 24) x) ∧ (∀ x, x < 8 → j ≠
    Od.LU_SEC_CTRL (17 : Fin 24) x) ∧ (∀ x, x < 8 → j ≠ Od.LU_SEC_CTRL (22 : Fin 24) x) ∧ j ≠ Od.LV_LV_STATUS ∧ (∀ x,
    x < 8 → j ≠ Od.SOL_DUTY x) ∧ (∀ x, x < 8 → j ≠ Od.SOL_ENERGISATIONS x) ∧ (∀ x, x < 8 → j ≠ Od.SOL_SOL_CNT_STATUS
    x) ∧ (∀ x, x < 8 → j ≠ Od.SOL_SOL_STATUS x)) true s (s.enterIbStart) := by
  unfold State.enterIbStart
  exact .ite (.step .dabStart (.step .setAuxMode .refl)) (.each (fun _ _ _ => (.step .modCell .refl)) (.step .modDrv
    (.step .setAuxMode .refl)))
theorem State.Leaves.auxSource {s : State} : State.Leaves [.od, .log, .links, .drives, .cells, .legs, .traction, .lus,
    .stageIn, .lvCommand, .gbx, .aux] (fun j => noReaction j ∧ j ≠ Od.CNV_AUX_CNT_STATUS ∧ j ≠ Od.CNV_TOW_ENTRIES)
    true s (s.auxSource) := by
  unfold State.auxSource
  exact .ite (.stepR .enterIbStart .refl) (.ite (.stepR .enterTow .refl) (.stepR .enterWait .refl))
theorem State.Leaves.runAux {s : State} {trig : Nat} : State.Leaves [.od, .log, .links, .drives, .cells, .legs, .store,
    .seqs, .axes, .traction, .lus, .stageIn, .lvCommand, .gbx, .dcl, .aux, .chg, .path] (fun j => noReaction j ∧ j ≠
    Od.CNV_AUX_CNT_STATUS ∧ j ≠ Od.CNV_TOW_ENTRIES) true s (s.runAux trig) := by
  unfold State.runAux
  exact .step .auxSource (.stepR .setBit (.step .modAux (.step .goto .refl)))
theorem State.Leaves.runGbx {s : State} {trig : Nat} : State.Leaves [.od, .log, .links, .drives, .cells, .legs, .store,
    .seqs, .axes, .traction, .lus, .stageIn, .lvCommand, .gbx, .dcl, .aux, .chg, .path] (fun j => noReaction j) true s
    (s.runGbx trig) := by
  unfold State.runGbx
  exact .each (fun _ _ _ => (.stepR .engageActuator .refl)) (.step .goto (.each (fun _ _ _ => (.stepR .setRef .refl))
    .refl))
theorem State.Leaves.startCheck {s : State} {t : Fin 2} : State.Leaves [.od, .log, .drives, .cells, .axes, .traction]
    (fun j => noReaction j ∧ (∀ x, x < 8 → j ≠ Od.AX_BEMF_LL_PK x) ∧ (∀ x, x < 8 → j ≠ Od.AX_SPEED_EL x) ∧ (∀ x, x < 8
    → j ≠ Od.OBS_CATCH_COUNT x) ∧ (∀ x, x < 8 → j ≠ Od.OBS_OBS_ANGLE x) ∧ (∀ x, x < 8 → j ≠ Od.OBS_OBS_SPEED x) ∧ (∀
    x, x < 8 → j ≠ Od.OBS_OPEN_ACC_us x) ∧ (∀ x, x < 8 → j ≠ Od.OBS_PROBE_COUNT x) ∧ (∀ x, x < 2 → j ≠ Od.TR_SPEED x))
    false s (s.startCheck t) := by
  unfold State.startCheck
  exact .ite (.stepR .startSets .refl) (.stepR .startTrain .refl)
theorem State.Leaves.runTraction {s : State} {t : Fin 2} : State.Leaves [.od, .log, .links, .drives, .cells, .legs,
    .store, .seqs, .axes, .traction, .lus, .stageIn, .lvCommand, .gbx, .dcl, .aux, .chg, .path] (fun j => noReaction j
    ∧ (∀ x, x < 8 → j ≠ Od.AX_BEMF_LL_PK x) ∧ (∀ x, x < 8 → j ≠ Od.AX_SPEED_EL x) ∧ (∀ x, x < 8 → j ≠
    Od.OBS_CATCH_COUNT x) ∧ (∀ x, x < 8 → j ≠ Od.OBS_OBS_ANGLE x) ∧ (∀ x, x < 8 → j ≠ Od.OBS_OBS_SPEED x) ∧ (∀ x, x <
    8 → j ≠ Od.OBS_OPEN_ACC_us x) ∧ (∀ x, x < 8 → j ≠ Od.OBS_PROBE_COUNT x) ∧ (∀ x, x < 2 → j ≠ Od.TR_SPEED x)) true s
    (s.runTraction t) := by
  unfold State.runTraction
  exact .step .startCheck (.step .modDrv (.stepR .setQ (.step .goto .refl)))
theorem SomeLeaves.runDrive {s : State} {d : Drive} : SomeLeaves [.od, .log, .links, .drives, .cells, .legs, .store,
    .seqs, .axes, .traction, .lus, .stageIn, .lvCommand, .gbx, .dcl, .aux, .chg, .path] (fun j => noReaction j ∧ (∀ x,
    x < 8 → j ≠ Od.AX_BEMF_LL_PK x) ∧ (∀ x, x < 8 → j ≠ Od.AX_SPEED_EL x) ∧ j ≠ Od.CHR_CHG_CNT_STATUS ∧ j ≠
    Od.CHR_RELAY_OPS_MAIN ∧ j ≠ Od.CNV_AUX_CNT_STATUS ∧ j ≠ Od.CNV_TOW_ENTRIES ∧ j ≠ Od.HV_HV_TIMER_min ∧ (∀ x, x < 8
    → j ≠ Od.OBS_CATCH_COUNT x) ∧ (∀ x, x < 8 → j ≠ Od.OBS_OBS_ANGLE x) ∧ (∀ x, x < 8 → j ≠ Od.OBS_OBS_SPEED x) ∧ (∀
    x, x < 8 → j ≠ Od.OBS_OPEN_ACC_us x) ∧ (∀ x, x < 8 → j ≠ Od.OBS_PROBE_COUNT x) ∧ (∀ x, x < 2 → j ≠ Od.TR_SPEED x))
    true s (s.runDrive d) := by
  unfold State.runDrive
  exact by split; exacts [(.some (.step .runTraction .refl)), (.some (.step .runTraction .refl)), (.some (.step
    .runGbx .refl)), (.some (.step .runBrk .refl)), (.some (.step .runAux .refl)), (.after .runChg .refl)]
theorem OkLeaves.run {s : State} {d : Drive} : OkLeaves [.od, .log, .links, .drives, .cells, .legs, .store, .seqs,
    .axes, .traction, .lus, .stageIn, .lvCommand, .gbx, .dcl, .aux, .chg, .path] (fun j => noReaction j ∧ (∀ x, x < 8
    → j ≠ Od.AX_BEMF_LL_PK x) ∧ (∀ x, x < 8 → j ≠ Od.AX_SPEED_EL x) ∧ j ≠ Od.CHR_CHG_CNT_STATUS ∧ j ≠
    Od.CHR_RELAY_OPS_MAIN ∧ j ≠ Od.CNV_AUX_CNT_STATUS ∧ j ≠ Od.CNV_TOW_ENTRIES ∧ j ≠ Od.HV_HV_TIMER_min ∧ (∀ x, x < 8
    → j ≠ Od.OBS_CATCH_COUNT x) ∧ (∀ x, x < 8 → j ≠ Od.OBS_OBS_ANGLE x) ∧ (∀ x, x < 8 → j ≠ Od.OBS_OBS_SPEED x) ∧ (∀
    x, x < 8 → j ≠ Od.OBS_OPEN_ACC_us x) ∧ (∀ x, x < 8 → j ≠ Od.OBS_PROBE_COUNT x) ∧ (∀ x, x < 2 → j ≠ Od.TR_SPEED x))
    true s (s.run d) := by
  unfold State.run
  split
  · split
    · next t ht => exact .ok ((State.Leaves.step .holdAuto .refl).trans (SomeLeaves.runDrive _ ht))
    · exact .error
  · exact .ite (.ok (.stepR .resumeTraction .refl)) .error
  · exact .ite (.ok .refl) .error
  · exact .error
theorem OkLeaves.arm {s : State} {d : Drive} : OkLeaves [.drives, .cells] (fun _ => True) false s (s.arm d) := by
  unfold State.arm
  exact .refuseIf (.ok (.step .startArming .refl))
theorem OkLeaves.controlEffect {who : Requester} {d : Drive} {v : Nat} {s : State} : OkLeaves [.od, .log, .links,
    .drives, .cells, .legs, .store, .seqs, .axes, .traction, .lus, .stageIn, .lvCommand, .gbx, .dcl, .aux, .chg,
    .path, .thermal] (fun j => noReaction j ∧ (∀ x, x < 8 → j ≠ Od.AX_BEMF_LL_PK x) ∧ (∀ x, x < 8 → j ≠ Od.AX_SPEED_EL
    x) ∧ (∀ x, x < 15 → j ≠ Od.CELL_CELL_ACK_COUNT x) ∧ (∀ x, x < 15 → j ≠ Od.CELL_CELL_STATUS x) ∧ j ≠
    Od.CHR_CHG_CNT_STATUS ∧ j ≠ Od.CHR_RELAY_OPS_MAIN ∧ j ≠ Od.CNV_AUX_CNT_STATUS ∧ j ≠ Od.CNV_TOW_ENTRIES ∧ j ≠
    Od.HV_HV_TIMER_min ∧ (∀ x, x < 8 → j ≠ Od.OBS_CATCH_COUNT x) ∧ (∀ x, x < 8 → j ≠ Od.OBS_OBS_ANGLE x) ∧ (∀ x, x < 8
    → j ≠ Od.OBS_OBS_SPEED x) ∧ (∀ x, x < 8 → j ≠ Od.OBS_OPEN_ACC_us x) ∧ (∀ x, x < 8 → j ≠ Od.OBS_PROBE_COUNT x) ∧ (∀
    x, x < 64 → j ≠ Od.SEN_SENSOR_STATUS x) ∧ j ≠ Od.THM_BROKEN_NOW ∧ j ≠ Od.THM_TH_STATUS ∧ (∀ x, x < 2 → j ≠
    Od.TR_SPEED x)) true s (State.controlEffect who d v s) := by
  unfold State.controlEffect
  exact .refuseIf (.refuseIf (by split; exacts [(.after .arm .refl), (.after .run .refl), (.after .stop .refl),
    (.after .disarm .refl), (.after .ack .refl)]))
theorem State.Leaves.noteArmFault {s : State} {d : Drive} : State.Leaves [.log] (fun _ => True) false s
    (s.noteArmFault d) := by
  unfold State.noteArmFault
  exact .each (fun _ _ _ => (.step .lastEvent (.step .event .refl))) .refl
theorem State.Leaves.writeControl {s : State} {who : Requester} {d : Drive} {v : Nat} : State.Leaves [.od, .out, .log,
    .links, .drives, .cells, .legs, .store, .seqs, .axes, .traction, .lus, .stageIn, .lvCommand, .gbx, .dcl, .aux,
    .chg, .path, .thermal, .sessions] (fun j => noReaction j ∧ noAccess j ∧ (∀ x, x < 8 → j ≠ Od.AX_BEMF_LL_PK x) ∧ (∀
    x, x < 8 → j ≠ Od.AX_SPEED_EL x) ∧ (∀ x, x < 15 → j ≠ Od.CELL_CELL_ACK_COUNT x) ∧ (∀ x, x < 15 → j ≠
    Od.CELL_CELL_STATUS x) ∧ j ≠ Od.CHR_CHG_CNT_STATUS ∧ j ≠ Od.CHR_RELAY_OPS_MAIN ∧ j ≠ Od.CNV_AUX_CNT_STATUS ∧ j ≠
    Od.CNV_TOW_ENTRIES ∧ j ≠ Od.HV_HV_TIMER_min ∧ (∀ x, x < 8 → j ≠ Od.OBS_CATCH_COUNT x) ∧ (∀ x, x < 8 → j ≠
    Od.OBS_OBS_ANGLE x) ∧ (∀ x, x < 8 → j ≠ Od.OBS_OBS_SPEED x) ∧ (∀ x, x < 8 → j ≠ Od.OBS_OPEN_ACC_us x) ∧ (∀ x, x <
    8 → j ≠ Od.OBS_PROBE_COUNT x) ∧ (∀ x, x < 64 → j ≠ Od.SEN_SENSOR_STATUS x) ∧ j ≠ Od.THM_BROKEN_NOW ∧ j ≠
    Od.THM_TH_STATUS ∧ (∀ x, x < 2 → j ≠ Od.TR_SPEED x)) true s (s.writeControl who d v) := by
  unfold State.writeControl
  exact .request (fun _ => (.after .controlEffect .refl)) (.when (fun _ => (.step .noteArmFault .refl)) .refl)
theorem OkLeaves.directionEffect {who : Requester} {t : Fin 2} {v : Nat} {s : State} : OkLeaves [.od, .log, .drives,
    .cells, .legs, .axes, .traction] (fun j => (∀ x, x < 8 → j ≠ Od.AX_TQ_REF x) ∧ j ≠ Od.CNT_CNT_OVF_MAP ∧ (∀ x, x <
    15 → j ≠ Od.OBS_ASC_TIME_ms x) ∧ (∀ x, x < 15 → j ≠ Od.OBS_OBS_CNT_STATUS x) ∧ (∀ x, x < 8 → j ≠ Od.OBS_OBS_STATUS
    x) ∧ (∀ x, x < 50 → j ≠ Od.SH_CH_STATUS x) ∧ j ≠ Od.TR_DIRECTION t ∧ j ≠ Od.TR_DIR_CHANGES t ∧ j ≠
    Od.TR_DRIVE_STATUS t ∧ (∀ x, x < 2 → j ≠ Od.TR_TQ_RAMP x)) false s (State.directionEffect who t v s) := by
  unfold State.directionEffect
  exact .refuseIf (.refuseIf (.ok (.step .setDirection .refl)))
theorem State.Leaves.writeDirection {s : State} {who : Requester} {t : Fin 2} {v : Nat} : State.Leaves [.od, .out, .log,
    .drives, .cells, .legs, .axes, .traction, .sessions] (fun j => noAccess j ∧ (∀ x, x < 8 → j ≠ Od.AX_TQ_REF x) ∧ (∀
    x, x < 15 → j ≠ Od.OBS_ASC_TIME_ms x) ∧ (∀ x, x < 15 → j ≠ Od.OBS_OBS_CNT_STATUS x) ∧ (∀ x, x < 8 → j ≠
    Od.OBS_OBS_STATUS x) ∧ (∀ x, x < 50 → j ≠ Od.SH_CH_STATUS x) ∧ j ≠ Od.TR_DIRECTION t ∧ j ≠ Od.TR_DIR_CHANGES t ∧ j
    ≠ Od.TR_DRIVE_STATUS t ∧ (∀ x, x < 2 → j ≠ Od.TR_TQ_RAMP x)) false s (s.writeDirection who t v) := by
  unfold State.writeDirection
  exact .request (fun _ => (.after .directionEffect .refl)) .refl
theorem OkLeaves.tqSetEffect {who : Requester} {t : Fin 2} {q : Rat} {s : State} : OkLeaves [.od] (fun j => j ≠
    Od.TR_TQ_SET t) false s (State.tqSetEffect who t q s) := by
  unfold State.tqSetEffect
  exact .refuseIf (.ok (.ite .refl (.step .setQ .refl)))
theorem State.Leaves.writeTqSet {s : State} {who : Requester} {t : Fin 2} {value : BitVec 32} : State.Leaves [.od,
    .out, .log, .sessions] (fun j => noAccess j ∧ j ≠ Od.TR_TQ_SET t) false s (s.writeTqSet who t value) := by
  unfold State.writeTqSet
  exact .request (fun _ => (by split; exacts [.error, (.after .tqSetEffect .refl)])) .refl
theorem SomeLeaves.writeDrives {s : State} {who : Requester} {index : Nat} {sub : Nat} {v : Val} {data : List Byte} :
    SomeLeaves [.od, .out, .log, .links, .drives, .cells, .legs, .store, .seqs, .axes, .traction, .lus, .stageIn,
    .lvCommand, .gbx, .dcl, .aux, .chg, .path, .thermal, .sessions, .cap] (fun _ => False) true s (s.writeDrives who
    index sub v data) := by
  unfold State.writeDrives
  exact .ite (.some (.step .writeTqSet .refl)) (.ite (.some (.step .writeDirection .refl)) (.ite (.some (.step
    .writeControl .refl)) (.ite (.some (.step .writeAutoRun .refl)) (.ite (.some (.step .writeAutoRun .refl)) (.ite
    (.some (.step .writeAxleMode .refl)) (.ite (.some (.step .writeAxleTorque .refl)) (.ite (.some (.step
    .writeAxleDirection .refl)) (.ite (.some (.step .writeISet .refl)) (.ite (.some (.step .writeShift .refl)) (.ite
    (.some (.step .writePark .refl)) (.ite (.some (.step .writeResOhm .refl)) (.ite (.some (.step .writeDischarge
    .refl)) (.ite (.some (.step .writeVrSrc .refl)) (.ite (.some (.step .writeVrCmd .refl)) (.ite (.some (.step
    .writeVrSet .refl)) (.ite (.some (.step .writeAux48 .refl)) (.ite (.some (.step .writeLvAck .refl)) (.ite (.some
    (.step .writePeat .refl)) (.ite (.some (.step .writeAttnClear .refl)) .none)))))))))))))))))))
theorem OkLeaves.queueEffect {n : Fin 24} {sub : Nat} {v : Val} {s : State} : OkLeaves [.od, .log, .links, .legs,
    .traction, .lus, .stageIn, .lvCommand, .gbx] (fun j => (∀ x, x < 8 → j ≠ Od.AX_TQ_REF x) ∧ j ≠ Od.CNT_CNT_OVF_MAP
    ∧ j ≠ Od.DCL_CHOP_DUTY ∧ j ≠ Od.DCL_DCL_STATUS ∧ (∀ x, x < 8 → j ≠ Od.LU_A1 n x) ∧ (∀ x, x < 8 → j ≠ Od.LU_A2 n x)
    ∧ (∀ x, x < 8 → j ≠ Od.LU_B0 n x) ∧ (∀ x, x < 8 → j ≠ Od.LU_B1 n x) ∧ (∀ x, x < 8 → j ≠ Od.LU_B2 n x) ∧ j ≠
    Od.LU_COMMITS n ∧ j ≠ Od.LU_DIR_SIGNS n ∧ j ≠ Od.LU_LU_CNT_STATUS n ∧ j ≠ Od.LU_NUM_SUBS ↑n + sub ∧ (∀ x, x < 24 →
    j ≠ Od.LU_REF x) ∧ (∀ x, x < 8 → j ≠ Od.LU_SEC_CTRL n x) ∧ (∀ x, x < 8 → j ≠ Od.SOL_DUTY x) ∧ (∀ x, x < 8 → j ≠
    Od.SOL_ENERGISATIONS x) ∧ (∀ x, x < 8 → j ≠ Od.SOL_SOL_CNT_STATUS x) ∧ (∀ x, x < 8 → j ≠ Od.SOL_SOL_STATUS x))
    true s (State.queueEffect n sub v s) := by
  unfold State.queueEffect
  exact .refuseIf (.ite (.refuseIf (.ok (.step .enqueue .refl))) (.ok (.step .luSettle (.step .set .refl))))
theorem State.Leaves.writeLuQueue {s : State} {who : Requester} {n : Fin 24} {sub : Nat} {w : BitVec 32} : State.Leaves
    [.od, .out, .log, .links, .legs, .traction, .lus, .stageIn, .lvCommand, .gbx, .sessions] (fun j => noAccess j ∧ (∀
    x, x < 8 → j ≠ Od.AX_TQ_REF x) ∧ j ≠ Od.DCL_CHOP_DUTY ∧ j ≠ Od.DCL_DCL_STATUS ∧ (∀ x, x < 8 → j ≠ Od.LU_A1 n x) ∧
    (∀ x, x < 8 → j ≠ Od.LU_A2 n x) ∧ (∀ x, x < 8 → j ≠ Od.LU_B0 n x) ∧ (∀ x, x < 8 → j ≠ Od.LU_B1 n x) ∧ (∀ x, x < 8
    → j ≠ Od.LU_B2 n x) ∧ j ≠ Od.LU_COMMITS n ∧ j ≠ Od.LU_DIR_SIGNS n ∧ j ≠ Od.LU_LU_CNT_STATUS n ∧ j ≠ Od.LU_NUM_SUBS
    ↑n + sub ∧ (∀ x, x < 24 → j ≠ Od.LU_REF x) ∧ (∀ x, x < 8 → j ≠ Od.LU_SEC_CTRL n x) ∧ (∀ x, x < 8 → j ≠ Od.SOL_DUTY
    x) ∧ (∀ x, x < 8 → j ≠ Od.SOL_ENERGISATIONS x) ∧ (∀ x, x < 8 → j ≠ Od.SOL_SOL_CNT_STATUS x) ∧ (∀ x, x < 8 → j ≠
    Od.SOL_SOL_STATUS x)) true s (s.writeLuQueue who n sub w) := by
  unfold State.writeLuQueue
  exact .request (fun _ => (.ite .error (by split; exacts [.error, (.after .queueEffect .refl)]))) .refl
theorem State.Leaves.holdStarts {s : State} {n : Fin 24} {i : Nat} : State.Leaves [.lus] (fun _ => True) false s
    (s.holdStarts n i) := by
  unfold State.holdStarts
  exact .step .modLu .refl
theorem OkLeaves.secCtrlEffect {n : Fin 24} {i : Nat} {v : Nat} {s : State} : OkLeaves [.od, .lus] (fun j => j ≠
    Od.LU_SEC_CTRL n i) false s (State.secCtrlEffect n i v s) := by
  unfold State.secCtrlEffect
  exact .refuseIf (.refuseIf (.refuseIf (.ok (.when (fun _ => (.step .holdStarts .refl)) (.step .setN .refl)))))
theorem State.Leaves.writeSecCtrl {s : State} {who : Requester} {n : Fin 24} {i : Nat} {v : Nat} : State.Leaves [.od,
    .out, .log, .lus, .sessions] (fun j => noAccess j ∧ j ≠ Od.LU_SEC_CTRL n i) false s (s.writeSecCtrl who n i v) :=
    by
  unfold State.writeSecCtrl
  exact .request (fun _ => (.after .secCtrlEffect .refl)) .refl
theorem OkLeaves.commitEffect {n : Fin 24} {coefs : List Int} {ok : Bool} {s : State} : OkLeaves [.od, .log, .lus] (fun
    j => j ≠ Od.CNT_CNT_OVF_MAP ∧ (∀ x, x < 8 → j ≠ Od.LU_A1 n x) ∧ (∀ x, x < 8 → j ≠ Od.LU_A2 n x) ∧ (∀ x, x < 8 → j
    ≠ Od.LU_B0 n x) ∧ (∀ x, x < 8 → j ≠ Od.LU_B1 n x) ∧ (∀ x, x < 8 → j ≠ Od.LU_B2 n x) ∧ j ≠ Od.LU_COMMITS n ∧ j ≠
    Od.LU_DIR_SIGNS n ∧ j ≠ Od.LU_LU_CNT_STATUS n ∧ (∀ x, x < 8 → j ≠ Od.LU_SEC_CTRL n x)) false s (State.commitEffect
    n coefs ok s) := by
  unfold State.commitEffect
  exact .refuseIf (.refuseIf (.refuseIf (.ok (.ite (.step .modLu .refl) (.step .commitAtOnce .refl)))))
theorem State.Leaves.writeCommit {s : State} {who : Requester} {n : Fin 24} {v : Nat} : State.Leaves [.od, .out, .log,
    .lus, .sessions] (fun j => noAccess j ∧ (∀ x, x < 8 → j ≠ Od.LU_A1 n x) ∧ (∀ x, x < 8 → j ≠ Od.LU_A2 n x) ∧ (∀ x,
    x < 8 → j ≠ Od.LU_B0 n x) ∧ (∀ x, x < 8 → j ≠ Od.LU_B1 n x) ∧ (∀ x, x < 8 → j ≠ Od.LU_B2 n x) ∧ j ≠ Od.LU_COMMITS
    n ∧ j ≠ Od.LU_DIR_SIGNS n ∧ j ≠ Od.LU_LU_CNT_STATUS n ∧ (∀ x, x < 8 → j ≠ Od.LU_SEC_CTRL n x)) false s
    (s.writeCommit who n v) := by
  unfold State.writeCommit
  exact .request (fun _ => (by split; exacts [(.after .commitEffect .refl), (.after .commitEffect .refl), .error]))
    .refl
theorem State.Leaves.modPif {s : State} {p : Fin 12} {f : PifSt → PifSt} : State.Leaves [.pifs] (fun _ => True) false
    s (s.modPif p f) := by
  unfold State.modPif
  exact .step .with_pifs .refl
theorem State.Leaves.pifCheck {s : State} {p : Fin 12} : State.Leaves [.od, .pifs] (fun j => j ≠ Od.PIF_PIF_STATUS p)
    false s (s.pifCheck p) := by
  unfold State.pifCheck
  exact .step .modPif (.when (fun _ => (.step .setBit .refl)) (.step .setBit (.step .setBit (.step .setField .refl))))
theorem State.Leaves.writeCheckCmd {s : State} {who : Requester} {p : Fin 12} {value : Nat} : State.Leaves [.od, .out,
    .log, .pifs, .sessions] (fun j => noAccess j ∧ j ≠ Od.PIF_PIF_STATUS p) false s (s.writeCheckCmd who p value) :=
    by
  unfold State.writeCheckCmd
  exact .request (fun _ => (.refuseIf (.refuseIf (.ok (.ite (.step .pifCheck .refl) .refl))))) .refl
theorem State.Leaves.pawlMoved {s : State} {p : Fin 12} : State.Leaves [.gbx] (fun _ => True) false s (s.pawlMoved p)
    := by
  unfold State.pawlMoved
  exact .ite (.step .pawlTrack .refl) (.ite (.step .pawlTrack .refl) .refl)
theorem State.Leaves.advance {s : State} {p : Fin 12} {d : Int} {t : Nat} : State.Leaves [.od, .log, .pifs, .gbx] (fun j
    => j ≠ Od.PIF_POSITION p) false s (s.advance p d t) := by
  unfold State.advance
  exact .ite .refl (.ite (.step .pawlMoved (.step .modPif (.step .setI .refl))) (.step .event (.step .pawlMoved (.step
    .modPif (.step .setI .refl)))))
theorem State.Leaves.speedRestart {s : State} {p : Fin 12} : State.Leaves [.pifs] (fun _ => True) false s
    (s.speedRestart p) := by
  unfold State.speedRestart
  exact .step .modPif .refl
theorem State.Leaves.protectCell {s : State} {c : Cell} : State.Leaves [.od, .log, .cells, .legs, .axes] (fun j => j ≠
    Od.CNT_CNT_OVF_MAP ∧ j ≠ Od.OBS_ASC_COUNT c ∧ j ≠ Od.OBS_ASC_TIME_ms c ∧ j ≠ Od.OBS_OBS_CNT_STATUS c ∧ (c.val < 8
    → j ≠ Od.OBS_OBS_STATUS c) ∧ (∀ x, x < 50 → j ≠ Od.SH_CH_STATUS x)) false s (s.protectCell c) := by
  unfold State.protectCell
  exact .ite .refl (.iteOf (fun hc => .step .enterAsc .refl (by
    obtain ⟨hlt, _⟩ := hc
    simp +contextual only [show c.val < 8 by omega, ne_eq, not_false_eq_true, and_self, implies_true])) fun _ =>
    .step .coastCell .refl)
theorem State.Leaves.protectDrive {s : State} {d : Drive} : State.Leaves [.od, .log, .cells, .legs, .axes] (fun j => j
    ≠ Od.CNT_CNT_OVF_MAP ∧ (∀ x, x < 15 → j ≠ Od.OBS_ASC_COUNT x) ∧ (∀ x, x < 15 → j ≠ Od.OBS_ASC_TIME_ms x) ∧ (∀ x, x
    < 15 → j ≠ Od.OBS_OBS_CNT_STATUS x) ∧ (∀ x, x < 8 → j ≠ Od.OBS_OBS_STATUS x) ∧ (∀ x, x < 50 → j ≠ Od.SH_CH_STATUS
    x)) false s (s.protectDrive d) := by
  unfold State.protectDrive
  exact .each (fun _ _ _ => .step .protectCell .refl) .refl
theorem State.Leaves.faultState {s : State} {d : Drive} {code : Nat} : State.Leaves [.od, .log, .links, .drives, .cells,
    .legs, .store, .seqs, .axes, .traction, .lus, .stageIn, .lvCommand, .gbx, .dcl, .aux, .chg, .path] (fun j =>
    noReaction j) true s (s.faultState d code) := by
  unfold State.faultState
  exact .step .lastEvent (.ite .refl (.step .goto .refl))
theorem State.Leaves.faultDrive {s : State} {d : Drive} {code : Nat} : State.Leaves [.od, .log, .links, .drives, .cells,
    .legs, .store, .seqs, .axes, .traction, .lus, .stageIn, .lvCommand, .gbx, .dcl, .aux, .chg, .path] (fun j =>
    noReaction j ∧ (∀ x, x < 15 → j ≠ Od.OBS_ASC_COUNT x)) true s (s.faultDrive d code) := by
  unfold State.faultDrive
  exact .ite (.step .lastEvent .refl) (.step .faultState (.stepR .protectDrive .refl))
theorem State.Leaves.applySeverity {s : State} {sev : Severity} {code : Nat} {d : Drive} : State.Leaves [.od, .log,
    .links, .drives, .cells, .legs, .store, .seqs, .axes, .traction, .lus, .stageIn, .lvCommand, .gbx, .dcl, .aux,
    .chg, .path] (fun j => noReaction j ∧ (∀ x, x < 15 → j ≠ Od.OBS_ASC_COUNT x)) true s (s.applySeverity sev code d)
    := by
  unfold State.applySeverity
  exact by split; exacts [(by split; exacts [(.step .lastEvent (.step .stopDrive .refl)), (.step .lastEvent (.step
    .goto .refl)), (.step .lastEvent .refl)]), (.step .faultDrive .refl), (.step .lastEvent .refl)]
theorem State.Leaves.raise {s : State} {code : Nat} {source : Nat} {detail : Nat} {ds : List Drive} : State.Leaves [.od,
    .log, .links, .drives, .cells, .legs, .store, .seqs, .axes, .traction, .lus, .stageIn, .lvCommand, .gbx, .dcl,
    .aux, .chg, .path] (fun j => noReaction j ∧ (∀ x, x < 15 → j ≠ Od.OBS_ASC_COUNT x)) true s (s.raise code source
    detail ds) := by
  unfold State.raise
  exact .each (fun _ _ _ => (.step .applySeverity .refl)) (.step .event .refl)
theorem State.Leaves.actuatorFault {s : State} {n : Axis} : State.Leaves [.od, .log, .links, .drives, .cells, .legs,
    .store, .seqs, .axes, .traction, .lus, .stageIn, .lvCommand, .gbx, .dcl, .aux, .chg, .path] (fun j => noReaction j
    ∧ (∀ x, x < 15 → j ≠ Od.OBS_ASC_COUNT x)) true s (s.actuatorFault n) := by
  unfold State.actuatorFault
  exact .stepR .haltRecovery (.step .raise (.ite (.stepR .coastCell .refl) .refl))
theorem State.Leaves.declareLoss {s : State} {n : Axis} : State.Leaves [.od, .log, .links, .drives, .cells, .legs,
    .store, .seqs, .axes, .traction, .lus, .stageIn, .lvCommand, .gbx, .dcl, .aux, .chg, .path] (fun j => noReaction j
    ∧ (∀ x, x < 15 → j ≠ Od.OBS_ASC_COUNT x) ∧ j ≠ Od.OBS_LOSS_COUNT n) true s (s.declareLoss n) := by
  unfold State.declareLoss
  exact .ite (.step .actuatorFault (.step .event (.step .modAx (.stepR .count .refl)))) (.ite (.step .lastEvent (.step
    .modTr (.step .event (.step .modAx (.stepR .count .refl))))) (.ite (.step .raise (.step .lastEvent (.step .modTr
    (.step .event (.step .modAx (.stepR .count .refl)))))) (.ite (.step .modDrv (.step .modAx (.stepR .setBit (.stepR
    .protectCell (.stepR .setQ (.when (fun _ => (.stepR .endProbe .refl)) (.step .lastEvent (.step .modTr (.step
    .event (.step .modAx (.stepR .count .refl))))))))))) (.stepR .setQ (.step .modDrv (.step .modAx (.stepR .setBit
    (.stepR .protectCell (.stepR .setQ (.when (fun _ => (.stepR .endProbe .refl)) (.step .lastEvent (.step .modTr
    (.step .event (.step .modAx (.stepR .count .refl)))))))))))))))
theorem State.Leaves.pifEvent {s : State} {p : Fin 12} {code : Nat} : State.Leaves [.log] (fun _ => True) false s
    (s.pifEvent p code) := by
  unfold State.pifEvent
  exact .step .event .refl
theorem State.Leaves.pifFault {s : State} {p : Fin 12} : State.Leaves [.od, .log, .links, .drives, .cells, .legs,
    .store, .seqs, .axes, .traction, .pifs, .lus, .stageIn, .lvCommand, .gbx, .dcl, .aux, .chg, .path] (fun j =>
    noReaction j ∧ (∀ x, x < 15 → j ≠ Od.OBS_ASC_COUNT x) ∧ (∀ x, x < 8 → j ≠ Od.OBS_LOSS_COUNT x) ∧ j ≠
    Od.PIF_PIF_STATUS p) true s (s.pifFault p) := by
  unfold State.pifFault
  exact .ite (.step .actuatorFault (.step .pifEvent (.step .modPif (.stepR .setBit (.stepR .setField .refl))))) (.each
    (fun _ _ _ => (.ite (.step .declareLoss .refl) .refl)) (.step .pifEvent (.step .modPif (.stepR .setBit (.stepR
    .setField .refl)))))
theorem State.Leaves.pifError {s : State} {p : Fin 12} : State.Leaves [.od, .log, .links, .drives, .cells, .legs,
    .store, .seqs, .axes, .traction, .pifs, .lus, .stageIn, .lvCommand, .gbx, .dcl, .aux, .chg, .path] (fun j =>
    noReaction j ∧ (∀ x, x < 15 → j ≠ Od.OBS_ASC_COUNT x) ∧ (∀ x, x < 8 → j ≠ Od.OBS_LOSS_COUNT x) ∧ j ≠
    Od.PIF_PIF_STATUS p) true s (s.pifError p) := by
  unfold State.pifError
  exact .ite (.step .pifFault (.step .modPif .refl)) (.step .modPif .refl)
theorem State.Leaves.illegal {s : State} {p : Fin 12} : State.Leaves [.od, .log, .links, .drives, .cells, .legs,
    .store, .seqs, .axes, .traction, .pifs, .lus, .stageIn, .lvCommand, .gbx, .dcl, .aux, .chg, .path] (fun j =>
    noReaction j ∧ (∀ x, x < 15 → j ≠ Od.OBS_ASC_COUNT x) ∧ (∀ x, x < 8 → j ≠ Od.OBS_LOSS_COUNT x) ∧ j ≠
    Od.PIF_CNT_STATUS p ∧ j ≠ Od.PIF_ILLEGAL_COUNT p ∧ j ≠ Od.PIF_PIF_STATUS p) true s (s.illegal p) := by
  unfold State.illegal
  exact .step .pifError (.step .speedRestart (.stepR .count (.stepR .setBit (.stepR .setBit .refl))))
theorem State.Leaves.countLines {s : State} {p : Fin 12} {old : Nat} {new : Nat} {t : Nat} : State.Leaves [.od, .log,
    .links, .drives, .cells, .legs, .store, .seqs, .axes, .traction, .pifs, .lus, .stageIn, .lvCommand, .gbx, .dcl,
    .aux, .chg, .path] (fun j => noReaction j ∧ (∀ x, x < 15 → j ≠ Od.OBS_ASC_COUNT x) ∧ (∀ x, x < 8 → j ≠
    Od.OBS_LOSS_COUNT x) ∧ j ≠ Od.PIF_CNT_STATUS p ∧ j ≠ Od.PIF_ILLEGAL_COUNT p ∧ j ≠ Od.PIF_LAST_EDGE_TB p ∧ j ≠
    Od.PIF_PIF_STATUS p ∧ j ≠ Od.PIF_POSITION p) true s (s.countLines p old new t) := by
  unfold State.countLines
  dsimp only
  split
  · exact .stepR .illegal (.step .modPif (.stepR .setN .refl))
  · exact .stepR .advance (.step .modPif (.stepR .setN .refl))
theorem State.Leaves.loadCount {s : State} {p : Fin 12} {v : Int} {t : Nat} {preset : Bool} : State.Leaves [.od, .pifs,
    .gbx] (fun j => j ≠ Od.PIF_PIF_STATUS p ∧ j ≠ Od.PIF_POSITION p) false s (s.loadCount p v t preset) := by
  unfold State.loadCount
  exact .step .pawlMoved (.step .modPif (.step .speedRestart (.step .setBit (.step .setI .refl))))
theorem State.Leaves.confirm {s : State} {a : Fin 4} {state : Nat} : State.Leaves [.gbx] (fun _ => True) false s
    (s.confirm a state) := by
  unfold State.confirm
  exact .step .setRecord .refl
theorem State.Leaves.resolve {s : State} {a : Fin 4} {state : Nat} {path : Nat} : State.Leaves [.od, .gbx] (fun j => (∀ x,
    x < 8 → j ≠ Od.AX_TQ_REF x) ∧ j ≠ Od.GBX_RECOVERY_PATH ∧ (∀ x, x < 24 → j ≠ Od.LU_REF x) ∧ (∀ x, x < 2 → j ≠
    Od.PRK_PARK_STATE x) ∧ (∀ x, x < 2 → j ≠ Od.SHF_GEAR_STATE x)) false s (s.resolve a state path) := by
  unfold State.resolve
  exact .ite (.when (fun _ => (.step .setRef .refl)) (.step .confirm (.step .setGear (.step .setQ (.step .setPath
    (.step .setRec .refl)))))) (.step .setRecord (.step .setPark (.step .setQ (.step .setPath (.step .setRec
    .refl)))))
theorem State.Leaves.forkIndex {s : State} {p : Fin 12} {now : Nat} : State.Leaves [.od, .pifs, .gbx] (fun j => (∀ x, x
    < 8 → j ≠ Od.AX_TQ_REF x) ∧ j ≠ Od.GBX_RECOVERY_PATH ∧ (∀ x, x < 24 → j ≠ Od.LU_REF x) ∧ j ≠ Od.PIF_PIF_STATUS p ∧
    j ≠ Od.PIF_POSITION p ∧ (∀ x, x < 2 → j ≠ Od.PRK_PARK_STATE x) ∧ (∀ x, x < 2 → j ≠ Od.SHF_GEAR_STATE x)) false s
    (s.forkIndex p now) := by
  unfold State.forkIndex
  exact .dite (fun _ => (.ite (by split; exacts [(.step .resolve (.step .loadCount .refl)), (.step .resolve (.step
    .loadCount .refl)), (.step .resolve (.step .loadCount .refl)), .refl]) (.ite (.step .resolve (.step .loadCount
    .refl)) (.ite (.step .loadCount .refl) .refl)))) (fun _ => .refl)
theorem State.Leaves.indexError {s : State} {p : Fin 12} {d : Int} : State.Leaves [.od, .log, .links, .drives, .cells,
    .legs, .store, .seqs, .axes, .traction, .pifs, .lus, .stageIn, .lvCommand, .gbx, .dcl, .aux, .chg, .path] (fun j
    => noReaction j ∧ (∀ x, x < 15 → j ≠ Od.OBS_ASC_COUNT x) ∧ (∀ x, x < 8 → j ≠ Od.OBS_LOSS_COUNT x) ∧ j ≠
    Od.PIF_CNT_STATUS p ∧ j ≠ Od.PIF_INDEX_ERRORS p ∧ j ≠ Od.PIF_PIF_STATUS p) true s (s.indexError p d) := by
  unfold State.indexError
  exact .step .pifError (.step .modPif (.step .event (.stepR .setBit (.stepR .count .refl))))
theorem State.Leaves.takeIndex {s : State} {p : Fin 12} {t : Nat} {always : Bool} {once : Bool} : State.Leaves [.od,
    .log, .links, .drives, .cells, .legs, .store, .seqs, .axes, .traction, .pifs, .lus, .stageIn, .lvCommand, .gbx,
    .dcl, .aux, .chg, .path] (fun j => noReaction j ∧ (∀ x, x < 15 → j ≠ Od.OBS_ASC_COUNT x) ∧ (∀ x, x < 8 → j ≠
    Od.OBS_LOSS_COUNT x) ∧ j ≠ Od.PIF_CNT_STATUS p ∧ j ≠ Od.PIF_INDEX_ERRORS p ∧ j ≠ Od.PIF_INDEX_POS p ∧ j ≠
    Od.PIF_PIF_STATUS p ∧ j ≠ Od.PIF_POSITION p) true s (s.takeIndex p t always once) := by
  unfold State.takeIndex
  exact .when (fun _ => (.step .event (.stepR .setBit (.stepR .setBit .refl)))) (.step .modPif (.when (fun _ =>
    (.stepR .forkIndex (.when (fun _ => (.stepR .loadCount .refl)) .refl))) (by split; exacts [(.step .indexError
    (.stepR .setI .refl)), (.stepR .setI .refl)])))
theorem State.Leaves.zEdge {s : State} {p : Fin 12} {t : Nat} : State.Leaves [.od, .log, .links, .drives, .cells, .legs,
    .store, .seqs, .axes, .traction, .pifs, .lus, .stageIn, .lvCommand, .gbx, .dcl, .aux, .chg, .path] (fun j =>
    noReaction j ∧ (∀ x, x < 15 → j ≠ Od.OBS_ASC_COUNT x) ∧ (∀ x, x < 8 → j ≠ Od.OBS_LOSS_COUNT x) ∧ j ≠
    Od.PIF_CNT_STATUS p ∧ j ≠ Od.PIF_INDEX_ERRORS p ∧ j ≠ Od.PIF_INDEX_POS p ∧ j ≠ Od.PIF_PIF_STATUS p ∧ j ≠
    Od.PIF_POSITION p) true s (s.zEdge p t) := by
  unfold State.zEdge
  exact .ite (.step .takeIndex .refl) .refl
theorem State.Leaves.takeLines {s : State} {p : Fin 12} {new : Nat} {t : Nat} : State.Leaves [.od, .log, .links, .drives,
    .cells, .legs, .store, .seqs, .axes, .traction, .pifs, .lus, .stageIn, .lvCommand, .gbx, .dcl, .aux, .chg, .path]
    (fun j => noReaction j ∧ (∀ x, x < 15 → j ≠ Od.OBS_ASC_COUNT x) ∧ (∀ x, x < 8 → j ≠ Od.OBS_LOSS_COUNT x) ∧ j ≠
    Od.PIF_CNT_STATUS p ∧ j ≠ Od.PIF_ILLEGAL_COUNT p ∧ j ≠ Od.PIF_INDEX_ERRORS p ∧ j ≠ Od.PIF_INDEX_POS p ∧ j ≠
    Od.PIF_LAST_EDGE_TB p ∧ j ≠ Od.PIF_PIF_STATUS p ∧ j ≠ Od.PIF_POSITION p) true s (s.takeLines p new t) := by
  unfold State.takeLines
  exact .ite (.when (fun _ => (.when (fun _ => (.step .zEdge .refl)) (.step .modPif .refl))) (.step .modPif .refl))
    (.step .countLines (.when (fun _ => (.when (fun _ => (.step .zEdge .refl)) (.step .modPif .refl))) (.step .modPif
    .refl)))
theorem State.Leaves.settleFirst {s : State} {p : Fin 12} : State.Leaves [.od, .log, .links, .drives, .cells, .legs,
    .store, .seqs, .axes, .traction, .pifs, .lus, .stageIn, .lvCommand, .gbx, .dcl, .aux, .chg, .path] (fun j =>
    noReaction j ∧ (∀ x, x < 15 → j ≠ Od.OBS_ASC_COUNT x) ∧ (∀ x, x < 8 → j ≠ Od.OBS_LOSS_COUNT x) ∧ j ≠
    Od.PIF_CNT_STATUS p ∧ j ≠ Od.PIF_ILLEGAL_COUNT p ∧ j ≠ Od.PIF_INDEX_ERRORS p ∧ j ≠ Od.PIF_INDEX_POS p ∧ j ≠
    Od.PIF_LAST_EDGE_TB p ∧ j ≠ Od.PIF_PIF_STATUS p ∧ j ≠ Od.PIF_POSITION p) true s (s.settleFirst p) := by
  unfold State.settleFirst
  exact by split; exacts [.refl, (.ite (.step .modPif .refl) (.step .takeLines (.step .modPif .refl)))]
theorem State.Leaves.settle {s : State} {p : Fin 12} : State.Leaves [.od, .log, .links, .drives, .cells, .legs,
    .store, .seqs, .axes, .traction, .pifs, .lus, .stageIn, .lvCommand, .gbx, .dcl, .aux, .chg, .path] (fun j =>
    noReaction j ∧ (∀ x, x < 15 → j ≠ Od.OBS_ASC_COUNT x) ∧ (∀ x, x < 8 → j ≠ Od.OBS_LOSS_COUNT x) ∧ j ≠
    Od.PIF_CNT_STATUS p ∧ j ≠ Od.PIF_ILLEGAL_COUNT p ∧ j ≠ Od.PIF_INDEX_ERRORS p ∧ j ≠ Od.PIF_INDEX_POS p ∧ j ≠
    Od.PIF_LAST_EDGE_TB p ∧ j ≠ Od.PIF_PIF_STATUS p ∧ j ≠ Od.PIF_POSITION p) true s (s.settle p) := by
  unfold State.settle
  exact .step .settleFirst (.step .settleFirst (.step .settleFirst .refl))
theorem State.Leaves.writeArmIndex {s : State} {who : Requester} {p : Fin 12} {value : Nat} : State.Leaves [.od, .out,
    .log, .links, .drives, .cells, .legs, .store, .seqs, .axes, .traction, .pifs, .lus, .stageIn, .lvCommand, .gbx,
    .dcl, .aux, .chg, .path, .sessions] (fun j => noReaction j ∧ noAccess j ∧ (∀ x, x < 15 → j ≠ Od.OBS_ASC_COUNT x) ∧
    (∀ x, x < 8 → j ≠ Od.OBS_LOSS_COUNT x) ∧ j ≠ Od.PIF_CNT_STATUS p ∧ j ≠ Od.PIF_ILLEGAL_COUNT p ∧ j ≠
    Od.PIF_INDEX_ERRORS p ∧ j ≠ Od.PIF_INDEX_POS p ∧ j ≠ Od.PIF_LAST_EDGE_TB p ∧ j ≠ Od.PIF_PIF_STATUS p ∧ j ≠
    Od.PIF_POSITION p) true s (s.writeArmIndex who p value) := by
  unfold State.writeArmIndex
  exact .request (fun _ => (.refuseIf (.ok (.step .modPif (.stepR .setBit (.stepR .setBit .refl)))))) (.step .settle
    .refl)
theorem State.Leaves.presetCount {s : State} {p : Fin 12} {v : Int} : State.Leaves [.od, .pifs, .gbx] (fun j => j ≠
    Od.PIF_PIF_STATUS p ∧ j ≠ Od.PIF_POSITION p) false s (s.presetCount p v) := by
  unfold State.presetCount
  exact .step .modPif (.step .loadCount .refl)
theorem State.Leaves.writePreset {s : State} {who : Requester} {p : Fin 12} {v : Int} : State.Leaves [.od, .out, .log,
    .links, .drives, .cells, .legs, .store, .seqs, .axes, .traction, .pifs, .lus, .stageIn, .lvCommand, .gbx, .dcl,
    .aux, .chg, .path, .sessions] (fun j => noReaction j ∧ noAccess j ∧ (∀ x, x < 15 → j ≠ Od.OBS_ASC_COUNT x) ∧ (∀ x,
    x < 8 → j ≠ Od.OBS_LOSS_COUNT x) ∧ j ≠ Od.PIF_CNT_STATUS p ∧ j ≠ Od.PIF_ILLEGAL_COUNT p ∧ j ≠ Od.PIF_INDEX_ERRORS
    p ∧ j ≠ Od.PIF_INDEX_POS p ∧ j ≠ Od.PIF_LAST_EDGE_TB p ∧ j ≠ Od.PIF_PIF_STATUS p ∧ j ≠ Od.PIF_POSITION p) true s
    (s.writePreset who p v) := by
  unfold State.writePreset
  exact .request (fun _ => (.refuseIf (.ok (.stepR .presetCount .refl)))) (.step .settle .refl)
theorem State.Leaves.pifOff {s : State} {p : Fin 12} : State.Leaves [.od, .pifs] (fun j => j ≠ Od.PIF_PIF_STATUS p)
    false s (s.pifOff p) := by
  unfold State.pifOff
  exact .step .modPif (.step .setField (.step .setBit (.step .setBit (.step .setField .refl))))
theorem State.Leaves.writePifMode {s : State} {who : Requester} {p : Fin 12} {v : Nat} : State.Leaves [.od, .out, .log,
    .pifs, .sessions] (fun j => noAccess j ∧ j ≠ Od.PIF_MODE p ∧ j ≠ Od.PIF_PIF_STATUS p) false s (s.writePifMode who
    p v) := by
  unfold State.writePifMode
  exact .request (fun _ => (.refuseIf (.refuseIf (.ok (.ite (.step .pifOff (.step .modPif (.step .setN .refl))) (.ite
    (.step .pifCheck (.step .modPif (.step .setN .refl))) (.step .modPif (.step .setN .refl)))))))) .refl
theorem State.Leaves.writeIdApply {s : State} {who : Requester} {n : TSet} : State.Leaves [.od, .out, .log, .sessions]
    (fun j => noAccess j ∧ j ≠ Od.AX_LD n ∧ j ≠ Od.AX_LQ n ∧ j ≠ Od.AX_PSI_PM n ∧ j ≠ Od.AX_RS n ∧ j ≠
    Od.OBS_ENC_OFFSET n) false s (s.writeIdApply who n) := by
  unfold State.writeIdApply
  exact .request (fun _ => (.refuseIf (.ok (.when (fun _ => (.step .setQ .refl)) (.when (fun _ => (.step .setQ .refl))
    (.when (fun _ => (.step .setQ (.step .setQ (.step .setQ .refl)))) .refl)))))) .refl
theorem State.Leaves.identEnd {s : State} {d : Drive} : State.Leaves [.od, .log, .links, .drives, .cells, .legs,
    .store, .seqs, .axes, .traction, .lus, .stageIn, .lvCommand, .gbx, .dcl, .aux, .chg, .path] (fun j => noReaction
    j) true s (s.identEnd d) := by
  unfold State.identEnd
  exact .ite (.step .goto (.step .modDrv .refl)) (.each (fun _ _ _ => (.stepR .offCell .refl)) (.step .modDrv .refl))
theorem State.Leaves.writeIdAbort {s : State} {who : Requester} {n : TSet} : State.Leaves [.od, .out, .log, .links,
    .drives, .cells, .legs, .store, .seqs, .axes, .traction, .lus, .stageIn, .lvCommand, .gbx, .dcl, .aux, .chg,
    .path, .sessions] (fun j => noReaction j ∧ noAccess j) true s (s.writeIdAbort who n) := by
  unfold State.writeIdAbort
  exact .request (fun _ => (.ok (.ite (.step .identEnd (.stepR .abortIdent .refl)) .refl))) .refl
theorem State.Leaves.writeIdCmd {s : State} {who : Requester} {n : TSet} {cmd : Nat} {pre : State → Bool} : State.Leaves
    [.od, .out, .log, .drives, .cells, .axes, .sessions] (fun j => noAccess j ∧ j ≠ Od.OBS_ID_CMD n ∧ j ≠
    Od.OBS_ID_STATUS n ∧ j ≠ Od.OBS_OBS_STATUS n) false s (s.writeIdCmd who n cmd pre) := by
  unfold State.writeIdCmd
  exact .request (fun _ => (.refuseIf (.ok (.step .startArming (.step .setBit (.step .setN (.step .setN (.step .modAx
    .refl)))))))) .refl
theorem State.Leaves.writeIdent {s : State} {who : Requester} {n : TSet} {v : Nat} : State.Leaves [.od, .out, .log,
    .links, .drives, .cells, .legs, .store, .seqs, .axes, .traction, .lus, .stageIn, .lvCommand, .gbx, .dcl, .aux,
    .chg, .path, .sessions] (fun _ => False) true s (s.writeIdent who n v) := by
  unfold State.writeIdent
  exact by split; exacts [(.step .writeIdCmd .refl), (.step .writeIdCmd .refl), (.step .writeIdCmd .refl), (.step
    .writeIdAbort .refl)]
theorem State.Leaves.modGcp {s : State} {n : Fin 16} {f : GcpSt → GcpSt} : State.Leaves [.gcps] (fun _ => True) false
    s (s.modGcp n f) := by
  unfold State.modGcp
  exact .step .with_gcps .refl
theorem State.Leaves.gcpFire {s : State} {n : Fin 16} : State.Leaves [.od, .log, .seqs, .gcps] (fun j => j ≠
    Od.CNT_CNT_OVF_MAP ∧ (∀ x, x < 4 → j ≠ Od.GC_GC_STATUS x) ∧ (∀ x, x < 4 → j ≠ Od.GC_SUSPENDS x) ∧ (∀ x, x < 8 → j
    ≠ Od.SQ_SQ_STATUS x) ∧ (∀ x, x < 8 → j ≠ Od.SQ_TRIG_OVERRUNS x)) false s (s.gcpFire n) := by
  unfold State.gcpFire
  exact .each (fun _ _ _ => (.step .seqTrigger .refl)) (.step .modGcp .refl)
theorem State.Leaves.gcpClear {s : State} {n : Fin 16} : State.Leaves [.od, .log, .seqs, .gcps] (fun j => j ≠
    Od.CNT_CNT_OVF_MAP ∧ j ≠ Od.GCP_GCP_STATUS n ∧ (∀ x, x < 4 → j ≠ Od.GC_GC_STATUS x) ∧ (∀ x, x < 4 → j ≠
    Od.GC_SUSPENDS x) ∧ (∀ x, x < 8 → j ≠ Od.SQ_SQ_STATUS x) ∧ (∀ x, x < 8 → j ≠ Od.SQ_TRIG_OVERRUNS x)) false s
    (s.gcpClear n) := by
  unfold State.gcpClear
  exact .ite (.ite .refl (.step .gcpFire .refl)) (.step .setBit .refl)
theorem State.Leaves.writeGcpClear {s : State} {who : Requester} {n : Fin 16} {value : Nat} : State.Leaves [.od, .out,
    .log, .seqs, .gcps, .sessions] (fun j => noAccess j ∧ j ≠ Od.GCP_GCP_STATUS n ∧ (∀ x, x < 4 → j ≠ Od.GC_GC_STATUS
    x) ∧ (∀ x, x < 4 → j ≠ Od.GC_SUSPENDS x) ∧ (∀ x, x < 8 → j ≠ Od.SQ_SQ_STATUS x) ∧ (∀ x, x < 8 → j ≠
    Od.SQ_TRIG_OVERRUNS x)) false s (s.writeGcpClear who n value) := by
  unfold State.writeGcpClear
  exact .request (fun _ => (.refuseIf (.ok (.step .gcpClear .refl)))) .refl
theorem State.Leaves.writeSwTrigger {s : State} {who : Requester} {n : Fin 8} {value : Nat} : State.Leaves [.od, .out,
    .log, .seqs, .sessions] (fun j => noAccess j ∧ (∀ x, x < 4 → j ≠ Od.GC_GC_STATUS x) ∧ (∀ x, x < 4 → j ≠
    Od.GC_SUSPENDS x) ∧ j ≠ Od.SQ_SQ_STATUS n ∧ j ≠ Od.SQ_TRIG_OVERRUNS n) false s (s.writeSwTrigger who n value) :=
    by
  unfold State.writeSwTrigger
  exact .request (fun _ => (.refuseIf (.ok (.ite (.step .seqTrigger .refl) .refl)))) .refl
theorem State.Leaves.seqAbandon {s : State} {n : Fin 8} : State.Leaves [.seqs] (fun _ => True) false s (s.seqAbandon
    n) := by
  unfold State.seqAbandon
  exact .ite (.step .modSeq (.step .modSeq .refl)) (.ite (.step .seqStart (.step .modSeq .refl)) (.step .modSeq
    .refl))
theorem State.Leaves.writeSqCtrl {s : State} {who : Requester} {n : Fin 8} {value : Nat} : State.Leaves [.od, .out,
    .log, .seqs, .sessions] (fun j => noAccess j ∧ (∀ x, x < 4 → j ≠ Od.GC_GC_STATUS x) ∧ (∀ x, x < 4 → j ≠
    Od.GC_SUSPENDS x) ∧ j ≠ Od.SQ_SQ_CTRL n ∧ j ≠ Od.SQ_SQ_STATUS n ∧ j ≠ Od.SQ_TRIG_OVERRUNS n) false s
    (s.writeSqCtrl who n value) := by
  unfold State.writeSqCtrl
  exact .request (fun _ => (.refuseIf (.refuseIf (.refuseIf (.refuseIf (.ok (.ite (.when (fun _ => (.step .seqResume
    (.step .modSeq .refl))) (.step .setN .refl)) (.step .seqAbandon (.step .setN .refl))))))))) .refl
theorem State.Leaves.writeScLockout {s : State} {who : Requester} {c : Cell} {value : Nat} : State.Leaves [.od, .out,
    .log, .sessions] (fun j => noAccess j ∧ j ≠ Od.CELL_SC_LOCKOUT c) false s (s.writeScLockout who c value) := by
  unfold State.writeScLockout
  exact .request (fun _ => (.refuseIf (.ok (.step .setFlag .refl)))) .refl
theorem State.Leaves.writeSelftest {s : State} {who : Requester} {c : Cell} {value : Nat} : State.Leaves [.od, .out,
    .log, .cells, .sessions] (fun j => noAccess j) false s (s.writeSelftest who c value) := by
  unfold State.writeSelftest
  exact .request (fun _ => (.refuseIf (.refuseIf (.ok (.step .modCell .refl))))) .refl
theorem OkLeaves.ownerEffect {who : Requester} {d : Drive} {code : Nat} {s : State} : OkLeaves [.od, .log, .links,
    .drives, .cells, .legs, .store, .seqs, .axes, .traction, .lus, .stageIn, .lvCommand, .gbx, .dcl, .aux, .chg,
    .path] (fun j => noReaction j ∧ j ≠ Od.AXLE_AXLE_TQ_SET ∧ j ≠ Od.OWN_OWNER d.num ∧ j ≠ Od.OWN_OWN_STATUS) true s
    (State.ownerEffect who d code s) := by
  unfold State.ownerEffect
  exact .refuseIf (.refuseIf (.ok (.ite (.step .commanderLost (.ite (.ite (.stepR .setN .refl) (.stepR .setBit (.stepR
    .setN .refl))) (.step .lastEvent (.step .event (.ite (.stepR .setN .refl) (.stepR .setBit (.stepR .setN
    .refl))))))) (.ite (.ite (.stepR .setN .refl) (.stepR .setBit (.stepR .setN .refl))) (.step .lastEvent (.step
    .event (.ite (.stepR .setN .refl) (.stepR .setBit (.stepR .setN .refl)))))))))
theorem State.Leaves.writeOwner {s : State} {who : Requester} {d : Drive} {code : Nat} : State.Leaves [.od, .out, .log,
    .links, .drives, .cells, .legs, .store, .seqs, .axes, .traction, .lus, .stageIn, .lvCommand, .gbx, .dcl, .aux,
    .chg, .path, .sessions] (fun j => noReaction j ∧ noAccess j ∧ j ≠ Od.AXLE_AXLE_TQ_SET ∧ j ≠ Od.OWN_OWNER d.num)
    true s (s.writeOwner who d code) := by
  unfold State.writeOwner
  exact .request (fun _ => (.after .ownerEffect .refl)) .refl
theorem State.Leaves.modPool {s : State} {f : PoolSt → PoolSt} : State.Leaves [.pool] (fun _ => True) false s
    (s.modPool f) := by
  unfold State.modPool
  exact .step .with_pool .refl
theorem State.Leaves.configLoad {s : State} {atBringup : Bool} : State.Leaves [.od, .pool] (fun j => j ≠
    Od.POOL_POOL_STATUS) false s (s.configLoad atBringup) := by
  unfold State.configLoad
  exact .step .modPool (.step .setBit .refl)
theorem State.Leaves.writeConfigLoad {s : State} {who : Requester} {v : Nat} : State.Leaves [.od, .out, .log, .pool,
    .sessions] (fun j => noAccess j ∧ j ≠ Od.POOL_POOL_STATUS) false s (s.writeConfigLoad who v) := by
  unfold State.writeConfigLoad
  exact .request (fun _ => (.refuseIf (.refuseIf (.ok (.step .configLoad .refl))))) .refl
theorem State.Leaves.writeOccClear {s : State} {who : Requester} {v : Nat} : State.Leaves [.od, .out, .log, .sessions]
    (fun j => noAccess j) false s (s.writeOccClear who v) := by
  unfold State.writeOccClear
  exact .request (fun _ => (.refuseIf (.ok (.step .event (.step .modLog .refl))))) .refl
theorem State.Leaves.writeLogClear {s : State} {who : Requester} {v : Nat} : State.Leaves [.od, .out, .log, .sessions]
    (fun j => noAccess j ∧ j ≠ Od.LOG_LOG_ACKED) false s (s.writeLogClear who v) := by
  unfold State.writeLogClear
  exact .request (fun _ => (.refuseIf (.ok (.step .event (.step .modLog (.step .setN .refl)))))) .refl
theorem OkLeaves.custEffect {data : List Byte} {s : State} : OkLeaves [.cust] (fun _ => True) false s
    (State.custEffect data s) := by
  unfold State.custEffect
  refine .refuseIfOf fun hok => .ok (.with_cust ?_)
  simp only [custWriteOk, Bool.not_eq_false', Bool.and_eq_true, decide_eq_true_eq] at hok
  exact hok.2.2.2
theorem State.Leaves.writeCust {s : State} {who : Requester} {data : List Byte} : State.Leaves [.od, .out, .log,
    .cust, .sessions] (fun j => noAccess j) false s (s.writeCust who data) := by
  unfold State.writeCust
  exact .request (fun _ => (.after .custEffect .refl)) .refl
theorem State.Leaves.closeSequencers {s : State} {d : Drive} : State.Leaves [.od, .seqs] (fun j => (∀ x, x < 8 → j ≠
    Od.SQ_SQ_STATUS x)) false s (s.closeSequencers d) := by
  unfold State.closeSequencers
  exact .each (fun _ _ _ => (.step .modSeq (.step .setBit (.step .seqAbandon .refl)))) .refl
theorem State.Leaves.closeWrappers {s : State} {d : Drive} : State.Leaves [.od, .seqs, .pifs] (fun j => (∀ x, x < 12 →
    j ≠ Od.PIF_PIF_STATUS x) ∧ (∀ x, x < 8 → j ≠ Od.SQ_SQ_STATUS x)) false s (s.closeWrappers d) := by
  unfold State.closeWrappers
  exact .each (fun _ _ _ => (.ite (.step .pifCheck .refl) .refl)) (.step .closeSequencers .refl)
theorem State.Leaves.keepAsc {s : State} {cells : List Cell} : State.Leaves [.od, .cells, .legs] (fun j => (∀ x, x <
    50 → j ≠ Od.SH_CH_STATUS x)) false s (s.keepAsc cells) := by
  unfold State.keepAsc
  exact .each (fun _ _ _ => (.step .modCell (.step .setLegs .refl))) .refl
theorem State.Leaves.resetDrive {s : State} {rank : Nat} {d : Drive} : State.Leaves [.od, .log, .links, .drives, .cells,
    .legs, .store, .seqs, .axes, .traction, .pifs, .lus, .stageIn, .lvCommand, .gbx, .dcl, .aux, .chg, .path] (fun j
    => noReaction j ∧ (∀ x, x < 15 → j ≠ Od.OBS_ASC_COUNT x) ∧ (∀ x, x < 12 → j ≠ Od.PIF_PIF_STATUS x)) true s
    (s.resetDrive rank d) := by
  unfold State.resetDrive
  exact .stepR .closeWrappers (.step .modDrv (.stepR .keepAsc (.step .goto (.stepR .protectDrive .refl))))
theorem OkLeaves.driveResetEffect {who : Requester} {mask : Nat} {s : State} : OkLeaves [.od, .log, .links, .drives,
    .cells, .legs, .store, .seqs, .axes, .traction, .pifs, .lus, .stageIn, .lvCommand, .gbx, .dcl, .aux, .chg, .path]
    (fun j => noReaction j ∧ (∀ x, x < 15 → j ≠ Od.OBS_ASC_COUNT x) ∧ (∀ x, x < 12 → j ≠ Od.PIF_PIF_STATUS x)) true s
    (State.driveResetEffect who mask s) := by
  unfold State.driveResetEffect
  exact .refuseIf (.ok (.each (fun _ _ _ => (.step .resetDrive .refl)) .refl))
theorem State.Leaves.writeDriveReset {s : State} {who : Requester} {mask : Nat} : State.Leaves [.od, .out, .log, .links,
    .drives, .cells, .legs, .store, .seqs, .axes, .traction, .pifs, .lus, .stageIn, .lvCommand, .gbx, .dcl, .aux,
    .chg, .path, .sessions] (fun j => noReaction j ∧ noAccess j ∧ (∀ x, x < 15 → j ≠ Od.OBS_ASC_COUNT x) ∧ (∀ x, x <
    12 → j ≠ Od.PIF_PIF_STATUS x)) true s (s.writeDriveReset who mask) := by
  unfold State.writeDriveReset
  exact .request (fun _ => (.after .driveResetEffect .refl)) .refl
theorem State.Leaves.clearClockLatch {s : State} {value : Nat} : State.Leaves [.od] (fun j => j ≠
    Od.SYS_CLK_FAULT_LATCH) false s (s.clearClockLatch value) := by
  unfold State.clearClockLatch
  exact .step .setN .refl
theorem State.Leaves.writeClkLatch {s : State} {who : Requester} {value : Nat} : State.Leaves [.od, .out, .log,
    .sessions] (fun j => noAccess j ∧ j ≠ Od.SYS_CLK_FAULT_LATCH) false s (s.writeClkLatch who value) := by
  unfold State.writeClkLatch
  exact .request (fun _ => (.ok (.step .clearClockLatch .refl))) .refl
theorem SomeLeaves.writeLow {s : State} {who : Requester} {index : Nat} {sub : Nat} {v : Val} {data : List Byte} :
    SomeLeaves [.od, .out, .log, .links, .drives, .cells, .legs, .store, .cust, .seqs, .gcps, .axes, .traction, .pifs,
    .lus, .stageIn, .lvCommand, .pool, .gbx, .dcl, .aux, .chg, .path, .sessions] (fun _ => False) true s (s.writeLow
    who index sub v data) := by
  unfold State.writeLow
  exact .ite (.some (.step .writeClkLatch .refl)) (.ite (.some (.step .writeDriveReset .refl)) (.ite (.some (.step
    .writeCust .refl)) (.ite (.some (.step .writeLogClear .refl)) (.ite (.some (.step .writeOccClear .refl)) (.ite
    (.some (.step .writeConfigLoad .refl)) (.ite (.some (.step .writeOwner .refl)) (.ite (.some (.step .writeSelftest
    .refl)) (.ite (.some (.step .writeScLockout .refl)) (.ite (.some (.step .writeSqCtrl .refl)) (.ite (.some (.step
    .writeSwTrigger .refl)) (.ite (.some (.step .writeGcpClear .refl)) (.ite (.some (.step .writeIdent .refl)) (.ite
    (.some (.step .writeIdApply .refl)) (.ite (.ite (.some (.step .writePifMode .refl)) (.ite (.some (.step
    .writePreset .refl)) (.ite (.some (.step .writeArmIndex .refl)) (.ite (.some (.step .writeCheckCmd .refl))
    .none)))) (.ite (.ite (.some (.step .writeCommit .refl)) (.ite (.some (.step .writeSecCtrl .refl)) (.ite (.some
    (.step .writeLuQueue .refl)) .none))) .none)))))))))))))))
theorem State.Leaves.acLimit {s : State} : State.Leaves [.od] (fun j => j ≠ Od.CHR_AC_I_LIM_ACT ∧ j ≠ Od.LU_OUT_MAX
    19) false s (s.acLimit) := by
  unfold State.acLimit
  exact .step .setQ (.step .setQ .refl)
theorem State.Leaves.lvChemEffect {v : Nat} {s : State} : State.Leaves [.od] (fun _ => False) false s
    (State.lvChemEffect v s) := by
  unfold State.lvChemEffect
  exact .step .setQ (.step .setN .refl)
theorem State.Leaves.expModeEffect {m : Nat} {s : State} : State.Leaves [.od] (fun _ => False) false s
    (State.expModeEffect m s) := by
  unfold State.expModeEffect
  exact .step .setQ (.step .setQ (.step .setQ (.step .setN .refl)))
theorem State.Leaves.trackFree {s : State} {c : Fin 4} {t : Nat} : State.Leaves [.chans] (fun _ => True) false s
    (s.trackFree c t) := by
  unfold State.trackFree
  exact .step .modChan .refl
theorem State.Leaves.demoteTime {s : State} : State.Leaves [.od, .time] (fun j => j ≠ Od.TIME_MASTER_RANK) false s
    (s.demoteTime) := by
  unfold State.demoteTime
  exact .ite (.step .setN (.step .with_time .refl)) .refl
theorem State.Leaves.goOffline {s : State} {c : Fin 4} : State.Leaves [.od, .log, .links, .drives, .cells, .legs,
    .store, .seqs, .axes, .traction, .lus, .stageIn, .lvCommand, .gbx, .dcl, .aux, .chg, .path, .crcs, .chans, .time,
    .canA, .sessions] (fun j => noReaction j ∧ j ≠ Od.AXLE_AXLE_TQ_SET ∧ (∀ x, x < 6 → j ≠ Od.OWN_OWNER x) ∧ j ≠
    Od.OWN_OWN_STATUS ∧ j ≠ Od.TIME_MASTER_RANK) true s (s.goOffline c) := by
  unfold State.goOffline
  exact by split; exacts [(.step .with_canA (.step .modChan .refl)), (.stepR .demoteTime (.step .modChan .refl)),
    (.step .modChan .refl), (.step .closeSession (.step .modChan .refl))]
theorem State.Leaves.frameBoundary {s : State} {c : Fin 4} : State.Leaves [.od, .log, .links, .drives, .cells, .legs,
    .store, .seqs, .axes, .traction, .lus, .stageIn, .lvCommand, .gbx, .dcl, .aux, .chg, .path, .crcs, .chans, .time,
    .canA, .sessions] (fun j => noReaction j ∧ j ≠ Od.AXLE_AXLE_TQ_SET ∧ j ≠ Od.CAN_CAN_CNT_STATUS c ∧ j ≠
    Od.CAN_STALE_DROPS c ∧ (∀ x, x < 6 → j ≠ Od.OWN_OWNER x) ∧ j ≠ Od.OWN_OWN_STATUS ∧ j ≠ Od.TIME_MASTER_RANK) true s
    (s.frameBoundary c) := by
  unfold State.frameBoundary
  exact .ite (.step .goOffline .refl) (.stepR .arbitrate (.ite (.stepR .demoteTime (.step .modChan .refl)) (.ite
    (.step .with_time (.step .modChan .refl)) (.step .modChan .refl))))
theorem State.Leaves.thresholdCodes {s : State} {c : Cell} : State.Leaves [.od] (fun _ => False) false s
    (s.thresholdCodes c) := by
  unfold State.thresholdCodes
  exact .each (fun _ _ _ => (.step .setI (.step .setI .refl))) .refl
theorem State.Leaves.follow {s : State} {index : Nat} {sub : Nat} {v : Nat} : State.Leaves [.od, .log, .links, .drives,
    .cells, .legs, .store, .seqs, .axes, .traction, .lus, .stageIn, .lvCommand, .gbx, .dcl, .aux, .chg, .path, .crcs,
    .chans, .time, .canA, .sessions] (fun _ => False) true s (s.follow index sub v) := by
  unfold State.follow
  exact .ite (.step .thresholdCodes .refl) (.ite (.ite (.step .luSettle .refl) (.ite (.step .setN .refl) .refl)) (.ite
    (.step .solTrack .refl) (.ite (.ite (.when (fun _ => (.step .frameBoundary .refl)) .refl) (.step .trackFree
    .refl)) (.ite (.step .expModeEffect .refl) (.ite (.step .lvChemEffect .refl) (.ite (.step .acLimit .refl)
    .refl))))))
theorem SomeLeaves.writeSelector {s : State} {who : Requester} {index : Nat} {sub : Nat} {v : Nat} : SomeLeaves [.sessions]
    (fun _ => False) false s (s.writeSelector who index sub v) := by
  unfold State.writeSelector
  exact .ite (.some (.step .modSess .refl)) (.ite (.some (.step .modSess .refl)) (.ite (.some (.step .modSess .refl))
    (.ite (.some (.step .modSess .refl)) (.ite (.some (.step .modSess .refl)) (.ite (.some (.step .modSess .refl))
    (.ite (.ite (.some (.step .modSess .refl)) (.ite (.some (.step .modSess .refl)) .none)) .none))))))
theorem OkLeaves.storeEffect {who : Requester} {index : Nat} {sub : Nat} {key : Nat} {v : Val} {s : State} : OkLeaves [.od,
    .log, .links, .drives, .cells, .legs, .store, .seqs, .axes, .traction, .lus, .stageIn, .lvCommand, .gbx, .dcl,
    .aux, .chg, .path, .crcs, .chans, .time, .canA, .sessions] (fun _ => False) true s (State.storeEffect who index
    sub key v s) := by
  unfold State.storeEffect
  refine .refuseIf (.refuseIf (.refuseIf (.refuseIf (.ok ?_))))
  split
  · next t ht => exact .step (SomeLeaves.writeSelector _ ht) .refl
  · exact .step .follow (.step .set .refl)
theorem State.Leaves.stageWrite {s : State} {who : Requester} {key : Nat} {v : Val} : State.Leaves [.od, .out, .log,
    .sessions] (fun _ => False) false s (s.stageWrite who key v) := by
  unfold State.stageWrite
  exact .request (fun _ => (by split; exacts [.error, (.ok (.step .modSess .refl))])) .refl
theorem State.Leaves.writeValue {s : State} {who : Requester} {index : Nat} {sub : Nat} {data : List Byte} {a : Access} {v
    : Val} : State.Leaves [.od, .fresh, .out, .log, .links, .drives, .cells, .legs, .store, .cust, .seqs, .gcps,
    .axes, .traction, .pifs, .lus, .stageIn, .lvCommand, .pool, .gbx, .dcl, .aux, .chg, .path, .thermal, .pyr,
    .safety, .conns, .crcs, .chans, .time, .canA, .sessions, .img, .cap] (fun _ => False) true s (s.writeValue who
    index sub data a v) := by
  unfold State.writeValue
  dsimp only
  refine .ite (.step .stageWrite .refl) (.ite (.answer (.after .storeEffect (.step .touch .refl)) (.step .touch .refl)) ?_)
  split
  · next t ht =>
    exact SomeLeaves.orElse (.orElse (SomeLeaves.writeLow.mono nofun (by decide) (by decide))
      (SomeLeaves.writeDrives.mono nofun (by decide) (by decide))) (SomeLeaves.writeHigh.mono nofun (by decide) (by decide)) t ht
  · refine .request (fun u => ?_) .refl
    cases hown : State.ownEffect who index sub v with
    | none => exact .after .storeEffect .refl
    | some f => exact .after (FnLeaves.ownEffect f hown _) .refl
theorem State.Leaves.refuse {s : State} {who : Requester} {code : Nat} : State.Leaves [.od, .out, .sessions] (fun _ =>
    False) false s (s.refuse who code) := by
  unfold State.refuse
  exact .ite .refl (.answer .error (.step .touch .refl))
theorem State.Leaves.writeObject {s : State} {who : Requester} {index : Nat} {sub : Nat} {data : List Byte} : State.Leaves
    [.od, .fresh, .out, .log, .links, .drives, .cells, .legs, .store, .cust, .seqs, .gcps, .axes, .traction, .pifs,
    .lus, .stageIn, .lvCommand, .pool, .gbx, .dcl, .aux, .chg, .path, .thermal, .pyr, .safety, .conns, .crcs, .chans,
    .time, .canA, .sessions, .img, .cap] (fun _ => False) true s (s.writeObject who index sub data) := by
  unfold State.writeObject
  exact by split; exacts [(.step .refuse .refl), (.step .writeValue .refl)]
theorem ResLeaves.execRegisterWrite {dt : Nat} {who : Requester} {index : BitVec 16} {sub : BitVec 8} {data : List Byte}
    {s : State} : ResLeaves [.od, .tb, .fresh, .out, .log, .links, .drives, .cells, .legs, .store, .cust, .seqs,
    .gcps, .axes, .traction, .pifs, .lus, .stageIn, .lvCommand, .pool, .gbx, .dcl, .aux, .chg, .path, .thermal, .pyr,
    .safety, .conns, .crcs, .chans, .time, .canA, .sessions, .img, .cap] (fun _ => False) true s (execRegisterWrite dt
    who index sub data s) := by
  unfold Machine.execRegisterWrite
  exact .reply (.step .writeObject (.step .elapse .refl))
theorem OkPairLeaves.readCapture {who : Requester} {len : Nat} {s : State} : OkPairLeaves [.sessions] (fun _ => True)
    false s (State.readCapture who len s) := by
  unfold State.readCapture
  exact .ite .error (.ite .error (.ok (.step .modSess .refl)))
theorem ResLeaves.execCaptureReadData {dt : Nat} {who : Requester} {len : Nat} {s : State} : ResLeaves [.od, .tb, .out,
    .log, .sessions] (fun j => j ≠ Od.SVC_REQUESTS) false s (execCaptureReadData dt who len s) := by
  unfold Machine.execCaptureReadData
  exact .reply (.readRequest (fun _ => OkPairLeaves.readCapture.mono (fun _ _ => trivial) (by decide) (by decide)) (.step .elapse .refl))
theorem State.Leaves.sendUdp {s : State} {src : Nat} {dst : Nat} {port : Nat} {data : List Byte} : State.Leaves [.od, .out]
    (fun j => j ≠ Od.ETH_TX_FRAMES) false s (s.sendUdp src dst port data) := by
  unfold State.sendUdp
  exact .ite (.step .countWide (.step .emit .refl)) .refl
theorem State.Leaves.streamSend {s : State} {rows : List (Nat × List (BitVec 32))} {portTakes : Bool} : State.Leaves
    [.od, .out, .log, .cap] (fun j => j ≠ Od.CAP_CAP_CNT_STATUS ∧ j ≠ Od.CAP_STREAM_DROPS ∧ j ≠ Od.CAP_STREAM_SEQ ∧ j
    ≠ Od.CNT_CNT_OVF_MAP ∧ j ≠ Od.ETH_TX_FRAMES) false s (s.streamSend rows portTakes) := by
  unfold State.streamSend
  exact .ite (.step .sendUdp (.step .setN .refl)) (.ite (.step .count (.step .setN .refl)) (.step .event (.step
    .modCap (.step .count (.step .setN .refl)))))
theorem State.Leaves.streamRow {s : State} {portTakes : Bool} : State.Leaves [.od, .out, .log, .cap] (fun j => j ≠
    Od.CAP_CAP_CNT_STATUS ∧ j ≠ Od.CAP_STREAM_DROPS ∧ j ≠ Od.CAP_STREAM_SEQ ∧ j ≠ Od.CNT_CNT_OVF_MAP ∧ j ≠
    Od.ETH_TX_FRAMES) false s (s.streamRow portTakes) := by
  unfold State.streamRow
  exact .ite (.step .streamSend (.step .modCap .refl)) (.step .modCap .refl)
theorem State.Leaves.storeRow {s : State} : State.Leaves [.od, .log, .cap] (fun j => j ≠ Od.CAP_CAPTURES ∧ j ≠
    Od.CAP_CAP_CNT_STATUS ∧ j ≠ Od.CAP_CAP_STATE ∧ j ≠ Od.CAP_FIRST_TB ∧ j ≠ Od.CAP_ROWS_STORED ∧ j ≠ Od.CAP_TRIG_TB ∧
    j ≠ Od.CNT_CNT_OVF_MAP) false s (s.storeRow) := by
  unfold State.storeRow
  exact .ite (.ite (.step .trigger (.step .modCap .refl)) (.step .modCap .refl)) (.ite (.step .capDone (.step .modCap
    .refl)) (.step .modCap .refl))
theorem State.Leaves.captureRow {s : State} {portTakes : Bool} : State.Leaves [.od, .out, .log, .cap] (fun j => j ≠
    Od.CAP_CAPTURES ∧ j ≠ Od.CAP_CAP_CNT_STATUS ∧ j ≠ Od.CAP_CAP_STATE ∧ j ≠ Od.CAP_FIRST_TB ∧ j ≠ Od.CAP_ROWS_STORED
    ∧ j ≠ Od.CAP_STREAM_DROPS ∧ j ≠ Od.CAP_STREAM_SEQ ∧ j ≠ Od.CAP_TRIG_TB ∧ j ≠ Od.CNT_CNT_OVF_MAP ∧ j ≠
    Od.ETH_TX_FRAMES) false s (s.captureRow portTakes) := by
  unfold State.captureRow
  exact .ite .refl (by dsimp only; split; exacts [(.step .storeRow (.step .modCap .refl)), (.step .storeRow (.step .modCap
    .refl)), (.step .streamRow (.step .modCap .refl)), (.step .modCap .refl)])
theorem ResLeaves.execCaptureRow {dt : Nat} {portTakes : Bool} {s : State} : ResLeaves [.od, .tb, .out, .log, .cap] (fun
    j => j ≠ Od.CAP_CAPTURES ∧ j ≠ Od.CAP_CAP_CNT_STATUS ∧ j ≠ Od.CAP_CAP_STATE ∧ j ≠ Od.CAP_FIRST_TB ∧ j ≠
    Od.CAP_ROWS_STORED ∧ j ≠ Od.CAP_STREAM_DROPS ∧ j ≠ Od.CAP_STREAM_SEQ ∧ j ≠ Od.CAP_TRIG_TB ∧ j ≠ Od.CNT_CNT_OVF_MAP
    ∧ j ≠ Od.ETH_TX_FRAMES) false s (execCaptureRow dt portTakes s) := by
  unfold Machine.execCaptureRow
  exact .reply (.step .captureRow (.step .elapse .refl))
theorem ResLeaves.execCaptureStop {dt : Nat} {who : Requester} {s : State} : ResLeaves [.od, .tb, .out, .log, .sessions,
    .cap] (fun j => noAccess j ∧ j ≠ Od.CAP_CAPTURES ∧ j ≠ Od.CAP_CAP_CNT_STATUS ∧ j ≠ Od.CAP_CAP_STATE ∧ j ≠
    Od.CAP_FIRST_TB ∧ j ≠ Od.CAP_ROWS_STORED ∧ j ≠ Od.CAP_TRIG_TB) false s (execCaptureStop dt who s) := by
  unfold Machine.execCaptureStop
  exact .reply (.step .writeCapCmd (.step .elapse .refl))
theorem ResLeaves.execCaptureForce {dt : Nat} {who : Requester} {s : State} : ResLeaves [.od, .tb, .out, .log,
    .sessions, .cap] (fun j => noAccess j ∧ j ≠ Od.CAP_CAPTURES ∧ j ≠ Od.CAP_CAP_CNT_STATUS ∧ j ≠ Od.CAP_CAP_STATE ∧ j
    ≠ Od.CAP_FIRST_TB ∧ j ≠ Od.CAP_ROWS_STORED ∧ j ≠ Od.CAP_TRIG_TB) false s (execCaptureForce dt who s) := by
  unfold Machine.execCaptureForce
  exact .reply (.step .writeCapCmd (.step .elapse .refl))
theorem ResLeaves.execCaptureArm {dt : Nat} {who : Requester} {s : State} : ResLeaves [.od, .tb, .out, .log, .sessions,
    .cap] (fun j => noAccess j ∧ j ≠ Od.CAP_CAPTURES ∧ j ≠ Od.CAP_CAP_CNT_STATUS ∧ j ≠ Od.CAP_CAP_STATE ∧ j ≠
    Od.CAP_FIRST_TB ∧ j ≠ Od.CAP_ROWS_STORED ∧ j ≠ Od.CAP_TRIG_TB) false s (execCaptureArm dt who s) := by
  unfold Machine.execCaptureArm
  exact .reply (.step .writeCapCmd (.step .elapse .refl))
theorem State.Leaves.commitImage {s : State} : State.Leaves [.od, .log, .img] (fun j => j ≠ Od.CNT_CNT_OVF_MAP ∧ j ≠
    Od.IMG_IMG_CNT_STATUS ∧ j ≠ Od.IMG_UPDATES ∧ j ≠ Od.IMG_UPD_RESULT ∧ j ≠ Od.IMG_UPD_STATE) false s (s.commitImage)
    := by
  unfold State.commitImage
  exact .step .imgEvent (.step .count (.step .setN (.step .setN (.step .modImg (.step .modBank .refl)))))
theorem State.Leaves.markerBegin {s : State} : State.Leaves [.od, .img] (fun j => j ≠ Od.IMG_UPD_STATE) false s
    (s.markerBegin) := by
  unfold State.markerBegin
  exact .step .pulses (.step .modImg (.step .setN (.step .modBank .refl)))
theorem State.Leaves.verified {s : State} {readOk : Bool} {markerOk : Bool} : State.Leaves [.od, .log, .img] (fun j =>
    j ≠ Od.CNT_CNT_OVF_MAP ∧ j ≠ Od.IMG_IMG_CNT_STATUS ∧ j ≠ Od.IMG_UPDATES ∧ j ≠ Od.IMG_UPD_FAILS ∧ j ≠
    Od.IMG_UPD_RESULT ∧ j ≠ Od.IMG_UPD_STATE) false s (s.verified readOk markerOk) := by
  unfold State.verified
  exact by split; exacts [(.ite .refl (by split; exacts [(.step .updateFail .refl), (.step .markerBegin .refl)])),
    (.ite .refl (.ite (.step .commitImage .refl) (.step .updateFail .refl))), .refl]
theorem ResLeaves.execUpdateVerifyComplete {dt : Nat} {readOk : Bool} {markerOk : Bool} {s : State} : ResLeaves [.od,
    .tb, .out, .log, .img] (fun j => j ≠ Od.CNT_CNT_OVF_MAP ∧ j ≠ Od.IMG_IMG_CNT_STATUS ∧ j ≠ Od.IMG_UPDATES ∧ j ≠
    Od.IMG_UPD_FAILS ∧ j ≠ Od.IMG_UPD_RESULT ∧ j ≠ Od.IMG_UPD_STATE) false s (execUpdateVerifyComplete dt readOk
    markerOk s) := by
  unfold Machine.execUpdateVerifyComplete
  exact .reply (.step .verified (.step .elapse .refl))
theorem State.Leaves.tftpEmit {s : State} {port : Nat} {packet : List Byte} : State.Leaves [.od, .out] (fun j => j ≠
    Od.ETH_TX_FRAMES) false s (s.tftpEmit port packet) := by
  unfold State.tftpEmit
  exact .step .sendUdp .refl
theorem State.Leaves.tftpSilence {s : State} : State.Leaves [.od, .out, .log, .img] (fun j => j ≠ Od.CNT_CNT_OVF_MAP ∧
    j ≠ Od.ETH_TX_FRAMES ∧ j ≠ Od.IMG_IMG_CNT_STATUS ∧ j ≠ Od.IMG_UPD_FAILS ∧ j ≠ Od.IMG_UPD_RESULT ∧ j ≠
    Od.IMG_UPD_STATE) false s (s.tftpSilence) := by
  unfold State.tftpSilence
  exact .ite (.ite (.step .updateFail .refl) (.step .tftpEmit (.step .modImg .refl))) .refl
theorem ResLeaves.execTftpTimeout {dt : Nat} {s : State} : ResLeaves [.od, .tb, .out, .log, .img] (fun j => j ≠
    Od.CNT_CNT_OVF_MAP ∧ j ≠ Od.ETH_TX_FRAMES ∧ j ≠ Od.IMG_IMG_CNT_STATUS ∧ j ≠ Od.IMG_UPD_FAILS ∧ j ≠
    Od.IMG_UPD_RESULT ∧ j ≠ Od.IMG_UPD_STATE) false s (execTftpTimeout dt s) := by
  unfold Machine.execTftpTimeout
  exact .reply (.step .tftpSilence (.step .elapse .refl))
theorem State.Leaves.ethReceived {s : State} : State.Leaves [.od] (fun j => j ≠ Od.ETH_RX_FRAMES) false s
    (s.ethReceived) := by
  unfold State.ethReceived
  exact .ite (.step .countWide .refl) .refl
theorem State.Leaves.rejectTid {s : State} {tid : Nat} : State.Leaves [.od, .out] (fun j => j ≠ Od.ETH_TX_FRAMES) false
    s (s.rejectTid tid) := by
  unfold State.rejectTid
  exact .step .tftpEmit .refl
theorem State.Leaves.tftpError {s : State} {tid : Nat} : State.Leaves [.od, .out, .log, .img] (fun j => j ≠
    Od.CNT_CNT_OVF_MAP ∧ j ≠ Od.ETH_TX_FRAMES ∧ j ≠ Od.IMG_IMG_CNT_STATUS ∧ j ≠ Od.IMG_UPD_FAILS ∧ j ≠
    Od.IMG_UPD_RESULT ∧ j ≠ Od.IMG_UPD_STATE) false s (s.tftpError tid) := by
  unfold State.tftpError
  exact .ite .refl (.ite (.step .rejectTid .refl) (.step .updateFail .refl))
theorem ResLeaves.execTftpErrorReceive {dt : Nat} {tid : BitVec 16} {s : State} : ResLeaves [.od, .tb, .out, .log, .img]
    (fun j => j ≠ Od.CNT_CNT_OVF_MAP ∧ j ≠ Od.ETH_RX_FRAMES ∧ j ≠ Od.ETH_TX_FRAMES ∧ j ≠ Od.IMG_IMG_CNT_STATUS ∧ j ≠
    Od.IMG_UPD_FAILS ∧ j ≠ Od.IMG_UPD_RESULT ∧ j ≠ Od.IMG_UPD_STATE) false s (execTftpErrorReceive dt tid s) := by
  unfold Machine.execTftpErrorReceive
  exact .reply (.step .tftpError (.step .ethReceived (.step .elapse .refl)))
theorem State.Leaves.tftpSend {s : State} {packet : List Byte} : State.Leaves [.od, .out, .img] (fun j => j ≠
    Od.ETH_TX_FRAMES) false s (s.tftpSend packet) := by
  unfold State.tftpSend
  exact .step .tftpEmit (.step .modImg .refl)
theorem State.Leaves.takeBlock {s : State} {tid : Nat} {block : Nat} {data : List Byte} {programOk : Bool} : State.Leaves
    [.od, .out, .log, .img] (fun j => j ≠ Od.CNT_CNT_OVF_MAP ∧ j ≠ Od.ETH_TX_FRAMES ∧ j ≠ Od.IMG_IMG_CNT_STATUS ∧ j ≠
    Od.IMG_UPD_BLOCK ∧ j ≠ Od.IMG_UPD_BYTES ∧ j ≠ Od.IMG_UPD_FAILS ∧ j ≠ Od.IMG_UPD_RESULT ∧ j ≠ Od.IMG_UPD_STATE)
    false s (s.takeBlock tid block data programOk) := by
  unfold State.takeBlock
  exact .ite (.step .updateFail .refl) (.ite (.step .updateFail .refl) (.ite (.step .setN (.step .tftpSend (.step
    .modImg (.step .setN (.step .setN (.step .pulses (.step .modBank .refl))))))) (.step .tftpSend (.step .modImg
    (.step .setN (.step .setN (.step .pulses (.step .modBank .refl))))))))
theorem State.Leaves.tftpData {s : State} {tid : Nat} {block : Nat} {data : List Byte} {programOk : Bool} : State.Leaves
    [.od, .out, .log, .img] (fun j => j ≠ Od.CNT_CNT_OVF_MAP ∧ j ≠ Od.ETH_TX_FRAMES ∧ j ≠ Od.IMG_IMG_CNT_STATUS ∧ j ≠
    Od.IMG_UPD_BLOCK ∧ j ≠ Od.IMG_UPD_BYTES ∧ j ≠ Od.IMG_UPD_FAILS ∧ j ≠ Od.IMG_UPD_RESULT ∧ j ≠ Od.IMG_UPD_STATE)
    false s (s.tftpData tid block data programOk) := by
  unfold State.tftpData
  exact .ite .refl (.ite (.step .rejectTid .refl) (.ite (.step .tftpSend .refl) (.ite (.step .takeBlock .refl)
    .refl)))
theorem ResLeaves.execTftpDataReceive {dt : Nat} {tid : BitVec 16} {block : BitVec 16} {data : List Byte} {programOk :
    Bool} {s : State} : ResLeaves [.od, .tb, .out, .log, .img] (fun j => j ≠ Od.CNT_CNT_OVF_MAP ∧ j ≠ Od.ETH_RX_FRAMES
    ∧ j ≠ Od.ETH_TX_FRAMES ∧ j ≠ Od.IMG_IMG_CNT_STATUS ∧ j ≠ Od.IMG_UPD_BLOCK ∧ j ≠ Od.IMG_UPD_BYTES ∧ j ≠
    Od.IMG_UPD_FAILS ∧ j ≠ Od.IMG_UPD_RESULT ∧ j ≠ Od.IMG_UPD_STATE) false s (execTftpDataReceive dt tid block data
    programOk s) := by
  unfold Machine.execTftpDataReceive
  exact .reply (.step .tftpData (.step .ethReceived (.step .elapse .refl)))
theorem State.Leaves.eraseDone {s : State} : State.Leaves [.od, .out, .img] (fun j => j ≠ Od.ETH_TX_FRAMES ∧ j ≠
    Od.IMG_UPD_STATE) false s (s.eraseDone) := by
  unfold State.eraseDone
  exact .ite (.step .tftpSend (.step .setN (.step .modBank .refl))) .refl
theorem ResLeaves.execUpdateEraseComplete {dt : Nat} {s : State} : ResLeaves [.od, .tb, .out, .log, .img] (fun j => j ≠
    Od.ETH_TX_FRAMES ∧ j ≠ Od.IMG_UPD_STATE) false s (execUpdateEraseComplete dt s) := by
  unfold Machine.execUpdateEraseComplete
  exact .reply (.step .eraseDone (.step .elapse .refl))
theorem ResLeaves.execRollbackRequest {dt : Nat} {who : Requester} {otherOk : Bool} {s : State} : ResLeaves [.od, .tb,
    .out, .log, .sessions, .img] (fun j => noAccess j ∧ j ≠ Od.IMG_IMG_CNT_STATUS ∧ j ≠ Od.IMG_ROLLBACKS) false s
    (execRollbackRequest dt who otherOk s) := by
  unfold Machine.execRollbackRequest
  exact .reply (.step .writeRollback (.step .elapse .refl))
theorem ResLeaves.execUpdateAbort {dt : Nat} {who : Requester} {s : State} : ResLeaves [.od, .tb, .out, .log, .sessions,
    .img] (fun j => noAccess j ∧ j ≠ Od.IMG_IMG_CNT_STATUS ∧ j ≠ Od.IMG_UPD_FAILS ∧ j ≠ Od.IMG_UPD_RESULT ∧ j ≠
    Od.IMG_UPD_STATE) false s (execUpdateAbort dt who s) := by
  unfold Machine.execUpdateAbort
  exact .reply (.step .writeUpdateAbort (.step .elapse .refl))
theorem ResLeaves.execUpdateStart {dt : Nat} {who : Requester} {s : State} : ResLeaves [.od, .tb, .out, .log, .sessions,
    .img] (fun j => noAccess j ∧ j ≠ Od.IMG_UPD_BLOCK ∧ j ≠ Od.IMG_UPD_BYTES ∧ j ≠ Od.IMG_UPD_RESULT ∧ j ≠
    Od.IMG_UPD_STATE) false s (execUpdateStart dt who s) := by
  unfold Machine.execUpdateStart
  exact .reply (.step .writeUpdateStart (.step .elapse .refl))
theorem State.Leaves.saveTimes {s : State} : State.Leaves [.log, .store] (fun _ => True) false s (s.saveTimes) := by
  unfold State.saveTimes
  exact .ite (.step .modLog (.step .with_store .refl)) .refl
theorem ResLeaves.execOperatingTimeSave {dt : Nat} {s : State} : ResLeaves [.tb, .out, .log, .store] (fun _ => True)
    false s (execOperatingTimeSave dt s) := by
  unfold Machine.execOperatingTimeSave
  exact .reply (.step .saveTimes (.step .elapse .refl))
theorem ResLeaves.execFaultOccClearWrite {dt : Nat} {who : Requester} {s : State} : ResLeaves [.od, .tb, .out, .log,
    .sessions] (fun j => noAccess j) false s (execFaultOccClearWrite dt who s) := by
  unfold Machine.execFaultOccClearWrite
  exact .reply (.step .writeOccClear (.step .elapse .refl))
theorem ResLeaves.execLogClearWrite {dt : Nat} {who : Requester} {s : State} : ResLeaves [.od, .tb, .out, .log,
    .sessions] (fun j => noAccess j ∧ j ≠ Od.LOG_LOG_ACKED) false s (execLogClearWrite dt who s) := by
  unfold Machine.execLogClearWrite
  exact .reply (.step .writeLogClear (.step .elapse .refl))
theorem OkPairLeaves.logNext {who : Requester} {s : State} : OkPairLeaves [.sessions] (fun _ => True) false s
    (State.logNext who s) := by
  unfold State.logNext
  exact by split; exacts [(.ok (.step .modSess .refl)), .error]
theorem ResLeaves.execLogNextRead {dt : Nat} {who : Requester} {s : State} : ResLeaves [.od, .tb, .out, .log, .sessions]
    (fun j => j ≠ Od.SVC_REQUESTS) false s (execLogNextRead dt who s) := by
  unfold Machine.execLogNextRead
  exact .reply (.readRequest (fun _ => OkPairLeaves.logNext.mono (fun _ _ => trivial) (by decide) (by decide)) (.step .elapse .refl))
theorem ResLeaves.execEventLogEntry {dt : Nat} {s : State} : ResLeaves [.od, .tb, .out, .log, .cap] (fun j => j ≠
    Od.CAP_CAPTURES ∧ j ≠ Od.CAP_CAP_CNT_STATUS ∧ j ≠ Od.CAP_CAP_STATE ∧ j ≠ Od.CAP_FIRST_TB ∧ j ≠ Od.CAP_ROWS_STORED
    ∧ j ≠ Od.CAP_TRIG_TB ∧ j ≠ Od.CNT_CNT_OVF_MAP ∧ j ≠ Od.LOG_EMCY_SUPPRESSED ∧ j ≠ Od.LOG_LOG_STATUS ∧ j ≠
    Od.LV_ATTN_CODE ∧ j ≠ Od.LV_LV_STATUS) false s (execEventLogEntry dt s) := by
  unfold Machine.execEventLogEntry
  exact .reply (.step .logStep (.step .elapse .refl))
theorem ResLeaves.execOwnerWrite {dt : Nat} {who : Requester} {d : Drive} {code : Byte} {s : State} : ResLeaves [.od,
    .tb, .out, .log, .links, .drives, .cells, .legs, .store, .seqs, .axes, .traction, .lus, .stageIn, .lvCommand,
    .gbx, .dcl, .aux, .chg, .path, .sessions] (fun j => noReaction j ∧ noAccess j ∧ j ≠ Od.AXLE_AXLE_TQ_SET ∧ j ≠
    Od.OWN_OWNER d.num) true s (execOwnerWrite dt who d code s) := by
  unfold Machine.execOwnerWrite
  exact .reply (.step .writeOwner (.step .elapse .refl))
theorem State.Leaves.ethernetDown {s : State} : State.Leaves [.od, .log, .links, .drives, .cells, .legs, .store,
    .seqs, .axes, .traction, .lus, .stageIn, .lvCommand, .gbx, .dcl, .aux, .chg, .path, .crcs, .sessions] (fun j =>
    noReaction j ∧ j ≠ Od.AXLE_AXLE_TQ_SET ∧ j ≠ Od.ETH_ETH_STATUS ∧ j ≠ Od.ETH_LINK_DROPS ∧ (∀ x, x < 6 → j ≠
    Od.OWN_OWNER x) ∧ j ≠ Od.OWN_OWN_STATUS) true s (s.ethernetDown) := by
  unfold State.ethernetDown
  exact .ite (.each (fun _ _ _ => (.step .closeSession .refl)) (.stepR .count (.step .with_sessions .refl))) .refl
theorem ResLeaves.execEthernetLinkDown {dt : Nat} {s : State} : ResLeaves [.od, .tb, .out, .log, .links, .drives,
    .cells, .legs, .store, .seqs, .axes, .traction, .lus, .stageIn, .lvCommand, .gbx, .dcl, .aux, .chg, .path, .crcs,
    .sessions] (fun j => noReaction j ∧ j ≠ Od.AXLE_AXLE_TQ_SET ∧ j ≠ Od.ETH_ETH_STATUS ∧ j ≠ Od.ETH_LINK_DROPS ∧ (∀
    x, x < 6 → j ≠ Od.OWN_OWNER x) ∧ j ≠ Od.OWN_OWN_STATUS) true s (execEthernetLinkDown dt s) := by
  unfold Machine.execEthernetLinkDown
  exact .reply (.step .ethernetDown (.step .elapse .refl))
theorem State.Leaves.sessionIdle {s : State} {i : Fin 5} : State.Leaves [.od, .log, .links, .drives, .cells, .legs,
    .store, .seqs, .axes, .traction, .lus, .stageIn, .lvCommand, .gbx, .dcl, .aux, .chg, .path, .crcs, .sessions] (fun
    j => noReaction j ∧ j ≠ Od.AXLE_AXLE_TQ_SET ∧ (∀ x, x < 6 → j ≠ Od.OWN_OWNER x) ∧ j ≠ Od.OWN_OWN_STATUS) true s
    (s.sessionIdle i) := by
  unfold State.sessionIdle
  exact .ite (.step .closeSession .refl) .refl
theorem ResLeaves.execSessionIdleTimeout {dt : Nat} {i : Fin 5} {s : State} : ResLeaves [.od, .tb, .out, .log, .links,
    .drives, .cells, .legs, .store, .seqs, .axes, .traction, .lus, .stageIn, .lvCommand, .gbx, .dcl, .aux, .chg,
    .path, .crcs, .sessions] (fun j => noReaction j ∧ j ≠ Od.AXLE_AXLE_TQ_SET ∧ (∀ x, x < 6 → j ≠ Od.OWN_OWNER x) ∧ j
    ≠ Od.OWN_OWN_STATUS) true s (execSessionIdleTimeout dt i s) := by
  unfold Machine.execSessionIdleTimeout
  exact .reply (.step .sessionIdle (.step .elapse .refl))
theorem ResLeaves.execSessionCloseWrite {dt : Nat} {who : Requester} {s : State} : ResLeaves [.od, .tb, .out, .log,
    .links, .drives, .cells, .legs, .store, .seqs, .axes, .traction, .lus, .stageIn, .lvCommand, .gbx, .dcl, .aux,
    .chg, .path, .crcs, .sessions] (fun j => noReaction j ∧ noAccess j ∧ j ≠ Od.AXLE_AXLE_TQ_SET ∧ (∀ x, x < 6 → j ≠
    Od.OWN_OWNER x)) true s (execSessionCloseWrite dt who s) := by
  unfold Machine.execSessionCloseWrite
  exact .reply (.step .writeSessionClose (.step .elapse .refl))
theorem ResLeaves.execKeyWrite {dt : Nat} {who : Requester} {safety : Bool} {data : List Byte} {s : State} : ResLeaves
    [.od, .tb, .out, .log, .sessions] (fun j => noAccess j) false s (execKeyWrite dt who safety data s) := by
  unfold Machine.execKeyWrite
  exact .reply (.step .writeKey (.step .elapse .refl))
theorem State.Leaves.unlock {s : State} {can : Bool} : State.Leaves [.sessions] (fun _ => True) false s (s.unlock can)
    := by
  unfold State.unlock
  exact by split; exacts [(.ite (.step .modAuthPath .refl) .refl), .refl]
theorem ResLeaves.execAuthLockExpiry {dt : Nat} {can : Bool} {s : State} : ResLeaves [.tb, .out, .log, .sessions] (fun _
    => True) false s (execAuthLockExpiry dt can s) := by
  unfold Machine.execAuthLockExpiry
  exact .reply (.step .unlock (.step .elapse .refl))
theorem State.Leaves.modTable {s : State} {i : Fin 5} {f : SessionSt → SessionSt} : State.Leaves [.sessions] (fun _ =>
    True) false s (s.modTable i f) := by
  unfold State.modTable
  exact .step .with_sessions .refl
theorem State.Leaves.expireNonce {s : State} {i : Fin 5} : State.Leaves [.sessions] (fun _ => True) false s
    (s.expireNonce i) := by
  unfold State.expireNonce
  exact by split; exacts [(.ite (.step .modTable .refl) .refl), .refl]
theorem ResLeaves.execNonceExpiry {dt : Nat} {i : Fin 5} {s : State} : ResLeaves [.tb, .out, .log, .sessions] (fun _ =>
    True) false s (execNonceExpiry dt i s) := by
  unfold Machine.execNonceExpiry
  exact .reply (.step .expireNonce (.step .elapse .refl))
theorem ResLeaves.execAuthResponseWrite {dt : Nat} {who : Requester} {data : List Byte} {s : State} : ResLeaves [.od,
    .tb, .out, .log, .sessions] (fun j => noAccess j ∧ j ≠ Od.AUTH_AUTH_CNT_STATUS ∧ j ≠ Od.AUTH_AUTH_FAILS ∧ j ≠
    Od.AUTH_AUTH_OK ∧ j ≠ Od.AUTH_LOCKOUTS) false s (execAuthResponseWrite dt who data s) := by
  unfold Machine.execAuthResponseWrite
  exact .reply (.step .writeAuthResponse (.step .elapse .refl))
theorem ResLeaves.execAuthOpenWrite {dt : Nat} {who : Requester} {data : List Byte} {s : State} : ResLeaves [.od, .tb,
    .fresh, .out, .log, .sessions] (fun j => noAccess j) false s (execAuthOpenWrite dt who data s) := by
  unfold Machine.execAuthOpenWrite
  exact .reply (.step .writeAuthOpen (.step .elapse .refl))
theorem State.Leaves.crcLook {s : State} {who : Requester} {n : Fin 4} : State.Leaves [.crcs] (fun _ => False) false s
    (s.crcLook who n) := by
  unfold State.crcLook
  exact .ite (.step .crcTouch .refl) .refl
theorem OkPairLeaves.bridgeRead {c : Fin 4} {s : State} : OkPairLeaves [.chans] (fun _ => True) false s
    (State.bridgeRead c s) := by
  unfold State.bridgeRead
  exact by split; exacts [(.ok .refl), (.ok (.step .modChan .refl))]
theorem OkPairLeaves.readEffect {who : Requester} {index : Nat} {sub : Nat} {r : DictRow} {s : State} : OkPairLeaves
    [.fresh, .crcs, .chans, .sessions] (fun _ => False) false s (State.readEffect who index sub r s) := by
  unfold State.readEffect
  refine .ite ?_ (.ite (OkPairLeaves.logNext.mono nofun (by decide) nofun) (.ite
    (OkPairLeaves.bridgeRead.mono nofun (by decide) nofun) (.ite (OkPairLeaves.readCapture.mono nofun (by decide) nofun) (.ite
    (.ok (.step .crcRead .refl)) (.ite (.ok (.step .crcLook .refl)) (.ite (.ok (.step .draw .refl)) (.ok .refl)))))))
  intro t ht
  cases hentry : s.logEntry (s.sessOf who).logSel with
  | error c => rw [hentry] at ht; nomatch ht
  | ok b => rw [hentry] at ht; obtain rfl := Except.ok.inj ht; exact .refl
theorem State.Leaves.readObject {s : State} {who : Requester} {index : Nat} {sub : Nat} : State.Leaves [.od, .fresh, .out,
    .crcs, .chans, .sessions] (fun _ => False) false s (s.readObject who index sub) := by
  unfold State.readObject
  dsimp only
  split
  · exact .step .refuse .refl
  · exact .ite (.step .refuse .refl) (.ite (.step .refuse .refl) (.readRequest (fun _ =>
      OkPairLeaves.readEffect.mono (fun _ h => h) (by decide) (by decide)) .refl))
theorem State.Leaves.hspExecute {s : State} {i : Fin 4} {dg : List Byte} : State.Leaves [.od, .fresh, .out, .log,
    .links, .drives, .cells, .legs, .store, .cust, .seqs, .gcps, .axes, .traction, .pifs, .lus, .stageIn, .lvCommand,
    .pool, .gbx, .dcl, .aux, .chg, .path, .thermal, .pyr, .safety, .conns, .crcs, .chans, .time, .canA, .sessions,
    .img, .cap] (fun _ => False) true s (s.hspExecute i dg) := by
  unfold State.hspExecute
  exact by split; exacts [(.step .readObject .refl), (.step .writeObject .refl), (.step .emit (.step .closeSession
    (.step .touch .refl))), (.step .emit (.step .touch .refl)), .refl]
theorem State.Leaves.hspAnswer {s : State} {i : Fin 4} {ip : Nat} {port : Nat} {dg : List Byte} : State.Leaves [.od,
    .fresh, .out, .log, .links, .drives, .cells, .legs, .store, .cust, .seqs, .gcps, .axes, .traction, .pifs, .lus,
    .stageIn, .lvCommand, .pool, .gbx, .dcl, .aux, .chg, .path, .thermal, .pyr, .safety, .conns, .crcs, .chans, .time,
    .canA, .sessions, .img, .cap] (fun _ => False) true s (s.hspAnswer i ip port dg) := by
  unfold State.hspAnswer
  exact by dsimp only; split; exacts [(.step .sendUdp (.ite (.step .modSess (.step .with_out (.step .hspExecute .refl))) (.step
    .with_out (.step .hspExecute .refl)))), (.step .hspExecute .refl)]
theorem State.Leaves.hspTake {s : State} {ip : Nat} {port : Nat} {dg : List Byte} : State.Leaves [.od, .fresh, .out, .log,
    .links, .drives, .cells, .legs, .store, .cust, .seqs, .gcps, .axes, .traction, .pifs, .lus, .stageIn, .lvCommand,
    .pool, .gbx, .dcl, .aux, .chg, .path, .thermal, .pyr, .safety, .conns, .crcs, .chans, .time, .canA, .sessions,
    .img, .cap] (fun _ => False) true s (s.hspTake ip port dg) := by
  unfold State.hspTake
  exact .ite (.step .ethReceived .refl) (.ite (.step .count (.step .ethReceived .refl)) (.ite (.step .sendUdp (.step
    .ethReceived .refl)) (by dsimp only; split; exacts [(.step .sendUdp (.step .ethReceived .refl)), (by split; exacts [(.ite
    (.step .sendUdp (.step .modSess (.step .count (.step .ethReceived .refl)))) (.step .hspAnswer (.step .ethReceived
    .refl))), (.step .hspAnswer (.step .ethReceived .refl))])])))
theorem State.Leaves.portTake {s : State} {ip : BitVec 32} {port : BitVec 16} {f : PortFrame} : State.Leaves [.od,
    .fresh, .out, .log, .links, .drives, .cells, .legs, .store, .cust, .seqs, .gcps, .axes, .traction, .pifs, .lus,
    .stageIn, .lvCommand, .pool, .gbx, .dcl, .aux, .chg, .path, .thermal, .pyr, .safety, .conns, .crcs, .chans, .time,
    .canA, .sessions, .img, .cap] (fun _ => False) true s (s.portTake ip port f) := by
  unfold State.portTake
  exact .ite .refl (by split; exacts [(.step .hspTake .refl), (.ite (.step .countWide (.step .emit (.step .ethReceived
    .refl))) (.step .ethReceived .refl)), (.ite (.step .countWide (.step .emit (.step .ethReceived .refl))) (.step
    .ethReceived .refl)), (.step .count (.step .ethReceived .refl)), (.step .count .refl)])
theorem ResLeaves.execHspInvalidOp {dt : Nat} {ip : BitVec 32} {port : BitVec 16} {f : PortFrame} {s : State} :
    ResLeaves [.od, .tb, .fresh, .out, .log, .links, .drives, .cells, .legs, .store, .cust, .seqs, .gcps, .axes,
    .traction, .pifs, .lus, .stageIn, .lvCommand, .pool, .gbx, .dcl, .aux, .chg, .path, .thermal, .pyr, .safety,
    .conns, .crcs, .chans, .time, .canA, .sessions, .img, .cap] (fun _ => False) true s (execHspInvalidOp dt ip port f
    s) := by
  unfold Machine.execHspInvalidOp
  exact .reply (.step .portTake (.step .elapse .refl))
theorem ResLeaves.execHspKeepalive {dt : Nat} {ip : BitVec 32} {port : BitVec 16} {dg : List Byte} {s : State} :
    ResLeaves [.od, .tb, .fresh, .out, .log, .links, .drives, .cells, .legs, .store, .cust, .seqs, .gcps, .axes,
    .traction, .pifs, .lus, .stageIn, .lvCommand, .pool, .gbx, .dcl, .aux, .chg, .path, .thermal, .pyr, .safety,
    .conns, .crcs, .chans, .time, .canA, .sessions, .img, .cap] (fun _ => False) true s (execHspKeepalive dt ip port
    dg s) := by
  unfold Machine.execHspKeepalive
  exact .reply (.step .hspTake (.step .elapse .refl))
theorem ResLeaves.execHspClose {dt : Nat} {ip : BitVec 32} {port : BitVec 16} {dg : List Byte} {s : State} : ResLeaves
    [.od, .tb, .fresh, .out, .log, .links, .drives, .cells, .legs, .store, .cust, .seqs, .gcps, .axes, .traction,
    .pifs, .lus, .stageIn, .lvCommand, .pool, .gbx, .dcl, .aux, .chg, .path, .thermal, .pyr, .safety, .conns, .crcs,
    .chans, .time, .canA, .sessions, .img, .cap] (fun _ => False) true s (execHspClose dt ip port dg s) := by
  unfold Machine.execHspClose
  exact .reply (.step .hspTake (.step .elapse .refl))
theorem ResLeaves.execHspWrite {dt : Nat} {ip : BitVec 32} {port : BitVec 16} {dg : List Byte} {s : State} : ResLeaves
    [.od, .tb, .fresh, .out, .log, .links, .drives, .cells, .legs, .store, .cust, .seqs, .gcps, .axes, .traction,
    .pifs, .lus, .stageIn, .lvCommand, .pool, .gbx, .dcl, .aux, .chg, .path, .thermal, .pyr, .safety, .conns, .crcs,
    .chans, .time, .canA, .sessions, .img, .cap] (fun _ => False) true s (execHspWrite dt ip port dg s) := by
  unfold Machine.execHspWrite
  exact .reply (.step .hspTake (.step .elapse .refl))
theorem ResLeaves.execHspRead {dt : Nat} {ip : BitVec 32} {port : BitVec 16} {dg : List Byte} {s : State} : ResLeaves
    [.od, .tb, .fresh, .out, .log, .links, .drives, .cells, .legs, .store, .cust, .seqs, .gcps, .axes, .traction,
    .pifs, .lus, .stageIn, .lvCommand, .pool, .gbx, .dcl, .aux, .chg, .path, .thermal, .pyr, .safety, .conns, .crcs,
    .chans, .time, .canA, .sessions, .img, .cap] (fun _ => False) true s (execHspRead dt ip port dg s) := by
  unfold Machine.execHspRead
  exact .reply (.step .hspTake (.step .elapse .refl))
theorem State.Leaves.sdoStall {s : State} : State.Leaves [.out, .sessions] (fun _ => True) false s (s.sdoStall) := by
  unfold State.sdoStall
  exact by split; exacts [(.ite (.step .emit (.step .modSess .refl)) .refl), .refl]
theorem ResLeaves.execSdoTimeout {dt : Nat} {s : State} : ResLeaves [.tb, .out, .log, .sessions] (fun _ => True) false s
    (execSdoTimeout dt s) := by
  unfold Machine.execSdoTimeout
  exact .reply (.step .sdoStall (.step .elapse .refl))
theorem State.Leaves.modSdo {s : State} {x : Option SdoSt} : State.Leaves [.sessions] (fun _ => False) false s
    (s.modSdo x) := by
  unfold State.modSdo
  exact .step .modSess .refl
theorem State.Leaves.sdoFail {s : State} {code : Nat} : State.Leaves [.od, .out, .sessions] (fun _ => False) false s
    (s.sdoFail code) := by
  unfold State.sdoFail
  exact .answer .error (.step .touch (.step .modSdo .refl))
theorem State.Leaves.sdoSegmentOut {s : State} {toggle : Bool} : State.Leaves [.od, .out, .sessions] (fun _ => False)
    false s (s.sdoSegmentOut toggle) := by
  unfold State.sdoSegmentOut
  exact by split; exacts [(.ite (.step .sdoFail .refl) (.step .emit (.step .touch (.step .modSdo .refl)))), (.step
    .sdoFail .refl)]
theorem State.Leaves.sdoSegmentIn {s : State} {toggle : Bool} {data : List Byte} {last : Bool} : State.Leaves [.od,
    .fresh, .out, .log, .links, .drives, .cells, .legs, .store, .cust, .seqs, .gcps, .axes, .traction, .pifs, .lus,
    .stageIn, .lvCommand, .pool, .gbx, .dcl, .aux, .chg, .path, .thermal, .pyr, .safety, .conns, .crcs, .chans, .time,
    .canA, .sessions, .img, .cap] (fun _ => False) true s (s.sdoSegmentIn toggle data last) := by
  unfold State.sdoSegmentIn
  exact by split; exacts [(.ite (.step .sdoFail .refl) (.ite (.step .writeObject (.step .modSdo .refl)) (.step .emit
    (.step .touch (.step .modSdo .refl))))), (.step .sdoFail .refl)]
theorem State.Leaves.sdoUpload {s : State} {index : Nat} {sub : Nat} : State.Leaves [.od, .fresh, .out, .crcs, .chans,
    .sessions] (fun _ => False) false s (s.sdoUpload index sub) := by
  unfold State.sdoUpload
  exact by dsimp only; split; exacts [(.ite (.step .readObject (.step .modSdo .refl)) (.step .with_out (.step .modSdo (.step
    .readObject (.step .modSdo .refl))))), (.step .readObject (.step .modSdo .refl))]
theorem State.Leaves.sdo {s : State} {r : SdoRequest} : State.Leaves [.od, .fresh, .out, .log, .links, .drives,
    .cells, .legs, .store, .cust, .seqs, .gcps, .axes, .traction, .pifs, .lus, .stageIn, .lvCommand, .pool, .gbx,
    .dcl, .aux, .chg, .path, .thermal, .pyr, .safety, .conns, .crcs, .chans, .time, .canA, .sessions, .img, .cap] (fun
    _ => False) true s (s.sdo r) := by
  unfold State.sdo
  exact .ite .refl (by split; exacts [(.step .sdoUpload .refl), (.step .writeObject (.step .modSdo .refl)), (.step
    .emit (.step .touch (.step .modSdo .refl))), (.step .sdoSegmentIn .refl), (.step .sdoSegmentOut .refl), (.step
    .touch (.step .modSdo .refl)), (.step .sdoFail .refl)])
theorem ResLeaves.execSdoRequest {dt : Nat} {r : SdoRequest} {s : State} : ResLeaves [.od, .tb, .fresh, .out, .log,
    .links, .drives, .cells, .legs, .store, .cust, .seqs, .gcps, .axes, .traction, .pifs, .lus, .stageIn, .lvCommand,
    .pool, .gbx, .dcl, .aux, .chg, .path, .thermal, .pyr, .safety, .conns, .crcs, .chans, .time, .canA, .sessions,
    .img, .cap] (fun _ => False) true s (execSdoRequest dt r s) := by
  unfold Machine.execSdoRequest
  exact .reply (.step .sdo (.step .elapse .refl))
theorem State.Leaves.slotWrite {s : State} {c : Fin 4} {i : Fin 16} {m : CanMsg} {staleUs : Nat} : State.Leaves [.od,
    .log, .chans] (fun j => j ≠ Od.CAN_CAN_CNT_STATUS c ∧ j ≠ Od.CAN_SLOT_REFUSALS c ∧ j ≠ Od.CAN_STALE_DROPS c ∧ j ≠
    Od.CNT_CNT_OVF_MAP) false s (s.slotWrite c i m staleUs) := by
  unfold State.slotWrite
  exact .ite .refl (.ite (.step .count .refl) (.step .offer (.step .modSlot .refl)))
theorem State.Leaves.sendEmcy {s : State} : State.Leaves [.od, .log, .chans] (fun j => j ≠ Od.CAN_CAN_CNT_STATUS (3 :
    Fin 4) ∧ j ≠ Od.CAN_SLOT_REFUSALS (3 : Fin 4) ∧ j ≠ Od.CAN_STALE_DROPS (3 : Fin 4) ∧ j ≠ Od.CNT_CNT_OVF_MAP) false
    s (s.sendEmcy) := by
  unfold State.sendEmcy
  dsimp only
  split
  · exact .ite (.step .slotWrite (.step .modLog .refl)) .refl
  · exact .refl
theorem ResLeaves.execEmcySend {dt : Nat} {s : State} : ResLeaves [.od, .tb, .out, .log, .chans] (fun j => j ≠
    Od.CAN_CAN_CNT_STATUS (3 : Fin 4) ∧ j ≠ Od.CAN_SLOT_REFUSALS (3 : Fin 4) ∧ j ≠ Od.CAN_STALE_DROPS (3 : Fin 4) ∧ j
    ≠ Od.CNT_CNT_OVF_MAP) false s (execEmcySend dt s) := by
  unfold Machine.execEmcySend
  exact .reply (.step .sendEmcy (.step .elapse .refl))
theorem State.Leaves.modCanA {s : State} {f : CanASt → CanASt} : State.Leaves [.canA] (fun _ => True) false s
    (s.modCanA f) := by
  unfold State.modCanA
  exact .step .with_canA .refl
theorem State.Leaves.sendStatusPgn {s : State} {k : Fin 4} : State.Leaves [.od, .log, .chans, .canA] (fun j => j ≠
    Od.CAN_CAN_CNT_STATUS (0 : Fin 4) ∧ j ≠ Od.CAN_SLOT_REFUSALS (0 : Fin 4) ∧ j ≠ Od.CAN_STALE_DROPS (0 : Fin 4) ∧ j
    ≠ Od.CNT_CNT_OVF_MAP) false s (s.sendStatusPgn k) := by
  unfold State.sendStatusPgn
  exact by split; exacts [.refl, (.ite (.step .count .refl) (.step .modCanA (.step .slotWrite .refl)))]
theorem State.Leaves.statusDue {s : State} : State.Leaves [.od, .log, .chans, .canA] (fun j => j ≠
    Od.CAN_CAN_CNT_STATUS (0 : Fin 4) ∧ j ≠ Od.CAN_SLOT_REFUSALS (0 : Fin 4) ∧ j ≠ Od.CAN_STALE_DROPS (0 : Fin 4) ∧ j
    ≠ Od.CNT_CNT_OVF_MAP) false s (s.statusDue) := by
  unfold State.statusDue
  exact .ite (.step .modCanA (.each (fun _ _ _ => (.step .sendStatusPgn .refl)) .refl)) .refl
theorem ResLeaves.execCanAStatusSend {dt : Nat} {s : State} : ResLeaves [.od, .tb, .out, .log, .chans, .canA] (fun j =>
    j ≠ Od.CAN_CAN_CNT_STATUS (0 : Fin 4) ∧ j ≠ Od.CAN_SLOT_REFUSALS (0 : Fin 4) ∧ j ≠ Od.CAN_STALE_DROPS (0 : Fin 4)
    ∧ j ≠ Od.CNT_CNT_OVF_MAP) false s (execCanAStatusSend dt s) := by
  unfold Machine.execCanAStatusSend
  exact .reply (.step .statusDue (.step .elapse .refl))
theorem State.Leaves.canACommanderLost {s : State} : State.Leaves [.od, .log, .links, .drives, .cells, .legs, .store,
    .seqs, .axes, .traction, .lus, .stageIn, .lvCommand, .gbx, .dcl, .aux, .chg, .path] (fun j => noReaction j ∧ j ≠
    Od.AXLE_AXLE_TQ_SET ∧ j ≠ Od.OWN_OWN_STATUS) true s (s.canACommanderLost) := by
  unfold State.canACommanderLost
  exact .each (fun _ _ _ => (.step .commanderLost .refl)) .refl
theorem State.Leaves.canACommandSilence {s : State} : State.Leaves [.od, .log, .links, .drives, .cells, .legs, .store,
    .seqs, .axes, .traction, .lus, .stageIn, .lvCommand, .gbx, .dcl, .aux, .chg, .path, .canA] (fun j => noReaction j
    ∧ j ≠ Od.AXLE_AXLE_TQ_SET ∧ j ≠ Od.OWN_OWN_STATUS) true s (s.canACommandSilence) := by
  unfold State.canACommandSilence
  exact .ite (.step .canACommanderLost (.step .canEvent (.step .modCanA .refl))) .refl
theorem ResLeaves.execCanACommandTimeout {dt : Nat} {s : State} : ResLeaves [.od, .tb, .out, .log, .links, .drives,
    .cells, .legs, .store, .seqs, .axes, .traction, .lus, .stageIn, .lvCommand, .gbx, .dcl, .aux, .chg, .path, .canA]
    (fun j => noReaction j ∧ j ≠ Od.AXLE_AXLE_TQ_SET ∧ j ≠ Od.OWN_OWN_STATUS) true s (execCanACommandTimeout dt s) :=
    by
  unfold Machine.execCanACommandTimeout
  exact .reply (.step .canACommandSilence (.step .elapse .refl))
theorem State.Leaves.sendClaim {s : State} {source : Nat} : State.Leaves [.od, .log, .chans] (fun j => j ≠
    Od.CAN_CAN_CNT_STATUS (0 : Fin 4) ∧ j ≠ Od.CAN_SLOT_REFUSALS (0 : Fin 4) ∧ j ≠ Od.CAN_STALE_DROPS (0 : Fin 4) ∧ j
    ≠ Od.CNT_CNT_OVF_MAP) false s (s.sendClaim source) := by
  unfold State.sendClaim
  exact .step .slotWrite .refl
theorem State.Leaves.rxTake {s : State} {c : Fin 4} {p : RxEntry → Bool} : State.Leaves [.chans] (fun _ => True) false
    s (s.rxTake c p) := by
  unfold State.rxTake
  exact .step .modChan .refl
theorem State.Leaves.answerRequest {s : State} {dest : Nat} {pgn : Nat} {source : Nat} : State.Leaves [.od, .log, .chans,
    .canA] (fun j => j ≠ Od.CAN_CAN_CNT_STATUS (0 : Fin 4) ∧ j ≠ Od.CAN_SLOT_REFUSALS (0 : Fin 4) ∧ j ≠
    Od.CAN_STALE_DROPS (0 : Fin 4) ∧ j ≠ Od.CNT_CNT_OVF_MAP) false s (s.answerRequest dest pgn source) := by
  unfold State.answerRequest
  exact .ite .refl (.ite (.step .rxTake .refl) (.ite (by split; exacts [(.step .sendClaim (.step .rxTake .refl)),
    (.ite (.step .sendClaim (.step .rxTake .refl)) (.step .rxTake .refl))]) (.ite (.each (fun _ _ _ => (.step
    .sendStatusPgn .refl)) (.step .rxTake .refl)) (.step .rxTake .refl))))
theorem ResLeaves.execCanARequest {dt : Nat} {dest : Byte} {pgn : BitVec 24} {fromAddr : Byte} {s : State} : ResLeaves
    [.od, .tb, .out, .log, .chans, .canA] (fun j => j ≠ Od.CAN_CAN_CNT_STATUS (0 : Fin 4) ∧ j ≠ Od.CAN_SLOT_REFUSALS
    (0 : Fin 4) ∧ j ≠ Od.CAN_STALE_DROPS (0 : Fin 4) ∧ j ≠ Od.CNT_CNT_OVF_MAP) false s (execCanARequest dt dest pgn
    fromAddr s) := by
  unfold Machine.execCanARequest
  exact .reply (.step .answerRequest (.step .elapse .refl))
theorem State.Leaves.canACommanderBack {s : State} : State.Leaves [.od] (fun j => j ≠ Od.OWN_OWN_STATUS) false s
    (s.canACommanderBack) := by
  unfold State.canACommanderBack
  exact .each (fun _ _ _ => (.step .setBit .refl)) .refl
theorem State.Leaves.freshCommand {s : State} {fn : Nat} : State.Leaves [.od, .canA] (fun j => j ≠ Od.OWN_OWN_STATUS)
    false s (s.freshCommand fn) := by
  unfold State.freshCommand
  exact .step .canACommanderBack (.step .modCanA .refl)
theorem State.Leaves.gearboxCommand {s : State} {t : Fin 2} {data : List Byte} : State.Leaves [.od, .out, .log,
    .cells, .axes, .gbx, .sessions] (fun j => noReaction j ∧ noAccess j ∧ j ≠ Od.PRK_PARK_CMD t ∧ j ≠
    Od.SHF_LAST_REFUSAL ∧ j ≠ Od.SHF_SHIFT_CMD t) false s (s.gearboxCommand t data) := by
  unfold State.gearboxCommand
  exact .ite (.ite .refl (.stepR .writeShift .refl)) (.stepR .writePark (.ite .refl (.stepR .writeShift .refl)))
theorem State.Leaves.driveCommand {s : State} {t : Fin 2} {data : List Byte} : State.Leaves [.od, .out, .log, .links,
    .drives, .cells, .legs, .store, .seqs, .axes, .traction, .lus, .stageIn, .lvCommand, .gbx, .dcl, .aux, .chg,
    .path, .thermal, .sessions] (fun j => noReaction j ∧ noAccess j ∧ (∀ x, x < 8 → j ≠ Od.AX_BEMF_LL_PK x) ∧ (∀ x, x
    < 8 → j ≠ Od.AX_SPEED_EL x) ∧ (∀ x, x < 15 → j ≠ Od.CELL_CELL_ACK_COUNT x) ∧ (∀ x, x < 15 → j ≠
    Od.CELL_CELL_STATUS x) ∧ j ≠ Od.CHR_CHG_CNT_STATUS ∧ j ≠ Od.CHR_RELAY_OPS_MAIN ∧ j ≠ Od.CNV_AUX_CNT_STATUS ∧ j ≠
    Od.CNV_TOW_ENTRIES ∧ j ≠ Od.HV_HV_TIMER_min ∧ (∀ x, x < 8 → j ≠ Od.OBS_CATCH_COUNT x) ∧ (∀ x, x < 8 → j ≠
    Od.OBS_OBS_ANGLE x) ∧ (∀ x, x < 8 → j ≠ Od.OBS_OBS_SPEED x) ∧ (∀ x, x < 8 → j ≠ Od.OBS_OPEN_ACC_us x) ∧ (∀ x, x <
    8 → j ≠ Od.OBS_PROBE_COUNT x) ∧ (∀ x, x < 64 → j ≠ Od.SEN_SENSOR_STATUS x) ∧ j ≠ Od.THM_BROKEN_NOW ∧ j ≠
    Od.THM_TH_STATUS ∧ j ≠ Od.TR_DIRECTION t ∧ j ≠ Od.TR_DIR_CHANGES t ∧ j ≠ Od.TR_DRIVE_STATUS t ∧ (∀ x, x < 2 → j ≠
    Od.TR_SPEED x)) true s (s.driveCommand t data) := by
  unfold State.driveCommand
  exact .ite (.ite (.request (fun _ => (.afterR .tqSetEffect .refl)) .refl) (.stepR .writeDirection (.request (fun _
    => (.afterR .tqSetEffect .refl)) .refl))) (.step .writeControl (.ite (.request (fun _ => (.afterR .tqSetEffect
    .refl)) .refl) (.stepR .writeDirection (.request (fun _ => (.afterR .tqSetEffect .refl)) .refl))))
theorem State.Leaves.axleCommand {s : State} {data : List Byte} : State.Leaves [.od, .out, .log, .drives, .cells,
    .legs, .axes, .traction, .gbx, .sessions] (fun j => noAccess j ∧ j ≠ Od.AXLE_AXLE_DIRECTION ∧ j ≠
    Od.AXLE_AXLE_TQ_SET ∧ j ≠ Od.AXLE_YAW_TQ_SET ∧ (∀ x, x < 8 → j ≠ Od.AX_TQ_REF x) ∧ (∀ x, x < 15 → j ≠
    Od.OBS_ASC_TIME_ms x) ∧ (∀ x, x < 15 → j ≠ Od.OBS_OBS_CNT_STATUS x) ∧ (∀ x, x < 8 → j ≠ Od.OBS_OBS_STATUS x) ∧ (∀
    x, x < 50 → j ≠ Od.SH_CH_STATUS x) ∧ (∀ x, x < 2 → j ≠ Od.TR_DIRECTION x) ∧ (∀ x, x < 2 → j ≠ Od.TR_DIR_CHANGES x)
    ∧ (∀ x, x < 2 → j ≠ Od.TR_DRIVE_STATUS x) ∧ (∀ x, x < 2 → j ≠ Od.TR_TQ_RAMP x)) false s (s.axleCommand data) := by
  unfold State.axleCommand
  exact .ite (.step .writeAxleTorque (.step .writeAxleTorque .refl)) (.step .writeAxleDirection (.step
    .writeAxleTorque (.step .writeAxleTorque .refl)))
theorem State.Leaves.canAFields {s : State} {data : List Byte} : State.Leaves [.od, .out, .log, .links, .drives,
    .cells, .legs, .store, .seqs, .axes, .traction, .lus, .stageIn, .lvCommand, .gbx, .dcl, .aux, .chg, .path,
    .thermal, .sessions] (fun j => noReaction j ∧ noAccess j ∧ j ≠ Od.AXLE_AXLE_DIRECTION ∧ j ≠ Od.AXLE_AXLE_TQ_SET ∧
    j ≠ Od.AXLE_YAW_TQ_SET ∧ (∀ x, x < 8 → j ≠ Od.AX_BEMF_LL_PK x) ∧ (∀ x, x < 8 → j ≠ Od.AX_SPEED_EL x) ∧ (∀ x, x <
    15 → j ≠ Od.CELL_CELL_ACK_COUNT x) ∧ (∀ x, x < 15 → j ≠ Od.CELL_CELL_STATUS x) ∧ j ≠ Od.CHR_CHG_CNT_STATUS ∧ j ≠
    Od.CHR_RELAY_OPS_MAIN ∧ j ≠ Od.CNV_AUX_CNT_STATUS ∧ j ≠ Od.CNV_TOW_ENTRIES ∧ j ≠ Od.HV_HV_TIMER_min ∧ (∀ x, x < 8
    → j ≠ Od.OBS_CATCH_COUNT x) ∧ (∀ x, x < 8 → j ≠ Od.OBS_OBS_ANGLE x) ∧ (∀ x, x < 8 → j ≠ Od.OBS_OBS_SPEED x) ∧ (∀
    x, x < 8 → j ≠ Od.OBS_OPEN_ACC_us x) ∧ (∀ x, x < 8 → j ≠ Od.OBS_PROBE_COUNT x) ∧ (∀ x, x < 2 → j ≠ Od.PRK_PARK_CMD
    x) ∧ (∀ x, x < 64 → j ≠ Od.SEN_SENSOR_STATUS x) ∧ j ≠ Od.SHF_LAST_REFUSAL ∧ (∀ x, x < 2 → j ≠ Od.SHF_SHIFT_CMD x)
    ∧ j ≠ Od.THM_BROKEN_NOW ∧ j ≠ Od.THM_TH_STATUS ∧ (∀ x, x < 2 → j ≠ Od.TR_DIRECTION x) ∧ (∀ x, x < 2 → j ≠
    Od.TR_DIR_CHANGES x) ∧ (∀ x, x < 2 → j ≠ Od.TR_DRIVE_STATUS x) ∧ (∀ x, x < 2 → j ≠ Od.TR_SPEED x)) true s
    (s.canAFields data) := by
  unfold State.canAFields
  dsimp only
  split
  · exact .stepR .axleCommand .refl
  · exact .stepR .driveCommand .refl
  · exact .stepR .gearboxCommand .refl
  · exact .stepR .count .refl
theorem State.Leaves.canACommand {s : State} {dest : Nat} {data : List Byte} : State.Leaves [.od, .out, .log, .links,
    .drives, .cells, .legs, .store, .seqs, .axes, .traction, .lus, .stageIn, .lvCommand, .gbx, .dcl, .aux, .chg,
    .path, .thermal, .chans, .canA, .sessions] (fun j => noReaction j ∧ noAccess j ∧ j ≠ Od.AXLE_AXLE_DIRECTION ∧ j ≠
    Od.AXLE_AXLE_TQ_SET ∧ j ≠ Od.AXLE_YAW_TQ_SET ∧ (∀ x, x < 8 → j ≠ Od.AX_BEMF_LL_PK x) ∧ (∀ x, x < 8 → j ≠
    Od.AX_SPEED_EL x) ∧ (∀ x, x < 15 → j ≠ Od.CELL_CELL_ACK_COUNT x) ∧ (∀ x, x < 15 → j ≠ Od.CELL_CELL_STATUS x) ∧ j ≠
    Od.CHR_CHG_CNT_STATUS ∧ j ≠ Od.CHR_RELAY_OPS_MAIN ∧ j ≠ Od.CNV_AUX_CNT_STATUS ∧ j ≠ Od.CNV_TOW_ENTRIES ∧ j ≠
    Od.HV_HV_TIMER_min ∧ (∀ x, x < 8 → j ≠ Od.OBS_CATCH_COUNT x) ∧ (∀ x, x < 8 → j ≠ Od.OBS_OBS_ANGLE x) ∧ (∀ x, x < 8
    → j ≠ Od.OBS_OBS_SPEED x) ∧ (∀ x, x < 8 → j ≠ Od.OBS_OPEN_ACC_us x) ∧ (∀ x, x < 8 → j ≠ Od.OBS_PROBE_COUNT x) ∧ (∀
    x, x < 2 → j ≠ Od.PRK_PARK_CMD x) ∧ (∀ x, x < 64 → j ≠ Od.SEN_SENSOR_STATUS x) ∧ j ≠ Od.SHF_LAST_REFUSAL ∧ (∀ x, x
    < 2 → j ≠ Od.SHF_SHIFT_CMD x) ∧ j ≠ Od.THM_BROKEN_NOW ∧ j ≠ Od.THM_TH_STATUS ∧ (∀ x, x < 2 → j ≠ Od.TR_DIRECTION
    x) ∧ (∀ x, x < 2 → j ≠ Od.TR_DIR_CHANGES x) ∧ (∀ x, x < 2 → j ≠ Od.TR_DRIVE_STATUS x) ∧ (∀ x, x < 2 → j ≠
    Od.TR_SPEED x)) true s (s.canACommand dest data) := by
  unfold State.canACommand
  refine .ite .refl (.ite (.step .rxTake .refl) (.ite (.stepR .count (.step .rxTake .refl)) ?_))
  dsimp only
  split
  · exact .ite (.step .canAFields (.stepR .freshCommand (.step .modCanA (.step .rxTake .refl))))
      (.stepR .count (.step .modCanA (.step .rxTake .refl)))
  · exact .step .canAFields (.stepR .freshCommand (.step .modCanA (.step .rxTake .refl)))
theorem ResLeaves.execCanACommand {dt : Nat} {dest : Byte} {data : List Byte} {s : State} : ResLeaves [.od, .tb, .out,
    .log, .links, .drives, .cells, .legs, .store, .seqs, .axes, .traction, .lus, .stageIn, .lvCommand, .gbx, .dcl,
    .aux, .chg, .path, .thermal, .chans, .canA, .sessions] (fun j => noReaction j ∧ noAccess j ∧ j ≠
    Od.AXLE_AXLE_DIRECTION ∧ j ≠ Od.AXLE_AXLE_TQ_SET ∧ j ≠ Od.AXLE_YAW_TQ_SET ∧ (∀ x, x < 8 → j ≠ Od.AX_BEMF_LL_PK x)
    ∧ (∀ x, x < 8 → j ≠ Od.AX_SPEED_EL x) ∧ (∀ x, x < 15 → j ≠ Od.CELL_CELL_ACK_COUNT x) ∧ (∀ x, x < 15 → j ≠
    Od.CELL_CELL_STATUS x) ∧ j ≠ Od.CHR_CHG_CNT_STATUS ∧ j ≠ Od.CHR_RELAY_OPS_MAIN ∧ j ≠ Od.CNV_AUX_CNT_STATUS ∧ j ≠
    Od.CNV_TOW_ENTRIES ∧ j ≠ Od.HV_HV_TIMER_min ∧ (∀ x, x < 8 → j ≠ Od.OBS_CATCH_COUNT x) ∧ (∀ x, x < 8 → j ≠
    Od.OBS_OBS_ANGLE x) ∧ (∀ x, x < 8 → j ≠ Od.OBS_OBS_SPEED x) ∧ (∀ x, x < 8 → j ≠ Od.OBS_OPEN_ACC_us x) ∧ (∀ x, x <
    8 → j ≠ Od.OBS_PROBE_COUNT x) ∧ (∀ x, x < 2 → j ≠ Od.PRK_PARK_CMD x) ∧ (∀ x, x < 64 → j ≠ Od.SEN_SENSOR_STATUS x)
    ∧ j ≠ Od.SHF_LAST_REFUSAL ∧ (∀ x, x < 2 → j ≠ Od.SHF_SHIFT_CMD x) ∧ j ≠ Od.THM_BROKEN_NOW ∧ j ≠ Od.THM_TH_STATUS ∧
    (∀ x, x < 2 → j ≠ Od.TR_DIRECTION x) ∧ (∀ x, x < 2 → j ≠ Od.TR_DIR_CHANGES x) ∧ (∀ x, x < 2 → j ≠
    Od.TR_DRIVE_STATUS x) ∧ (∀ x, x < 2 → j ≠ Od.TR_SPEED x)) true s (execCanACommand dt dest data s) := by
  unfold Machine.execCanACommand
  exact .reply (.step .canACommand (.step .elapse .refl))
theorem State.Leaves.claimDone {s : State} : State.Leaves [.log, .canA] (fun _ => True) false s (s.claimDone) := by
  unfold State.claimDone
  exact by split; exacts [(.ite (.step .canEvent (.step .modCanA .refl)) .refl), .refl]
theorem ResLeaves.execAddressClaimTimer {dt : Nat} {s : State} : ResLeaves [.tb, .out, .log, .canA] (fun _ => True)
    false s (execAddressClaimTimer dt s) := by
  unfold Machine.execAddressClaimTimer
  exact .reply (.step .claimDone (.step .elapse .refl))
theorem State.Leaves.claim {s : State} {a : Nat} : State.Leaves [.od, .log, .chans, .canA] (fun j => j ≠
    Od.CAN_CAN_CNT_STATUS (0 : Fin 4) ∧ j ≠ Od.CAN_SLOT_REFUSALS (0 : Fin 4) ∧ j ≠ Od.CAN_STALE_DROPS (0 : Fin 4) ∧ j
    ≠ Od.CNT_CNT_OVF_MAP) false s (s.claim a) := by
  unfold State.claim
  exact .step .sendClaim (.step .modCanA .refl)
theorem State.Leaves.loseAddress {s : State} {a : Nat} : State.Leaves [.od, .log, .chans, .canA] (fun j => j ≠
    Od.CAN_CAN_CNT_STATUS (0 : Fin 4) ∧ j ≠ Od.CAN_SLOT_REFUSALS (0 : Fin 4) ∧ j ≠ Od.CAN_STALE_DROPS (0 : Fin 4) ∧ j
    ≠ Od.CNT_CNT_OVF_MAP) false s (s.loseAddress a) := by
  unfold State.loseAddress
  exact by split; exacts [(.step .claim .refl), (.step .canEvent (.step .sendClaim (.step .modCanA .refl)))]
theorem State.Leaves.rxTakeId {s : State} {c : Fin 4} {ident : Nat} {ide : Bool} : State.Leaves [.chans] (fun _ => True)
    false s (s.rxTakeId c ident ide) := by
  unfold State.rxTakeId
  exact .step .rxTake .refl
theorem State.Leaves.hearClaim {s : State} {source : Nat} {name : Nat} : State.Leaves [.od, .log, .chans, .canA] (fun j =>
    j ≠ Od.CAN_CAN_CNT_STATUS (0 : Fin 4) ∧ j ≠ Od.CAN_SLOT_REFUSALS (0 : Fin 4) ∧ j ≠ Od.CAN_STALE_DROPS (0 : Fin 4)
    ∧ j ≠ Od.CNT_CNT_OVF_MAP) false s (s.hearClaim source name) := by
  unfold State.hearClaim
  exact .ite .refl (.ite (.step .modCanA (.step .rxTakeId .refl)) (.ite (.step .loseAddress (.step .modCanA (.step
    .rxTakeId .refl))) (.ite (.step .sendClaim (.step .modCanA (.step .rxTakeId .refl))) (.step .modCanA (.step
    .rxTakeId .refl)))))
theorem ResLeaves.execAddressClaimReceive {dt : Nat} {source : Byte} {name : BitVec 64} {s : State} : ResLeaves [.od,
    .tb, .out, .log, .chans, .canA] (fun j => j ≠ Od.CAN_CAN_CNT_STATUS (0 : Fin 4) ∧ j ≠ Od.CAN_SLOT_REFUSALS (0 :
    Fin 4) ∧ j ≠ Od.CAN_STALE_DROPS (0 : Fin 4) ∧ j ≠ Od.CNT_CNT_OVF_MAP) false s (execAddressClaimReceive dt source
    name s) := by
  unfold Machine.execAddressClaimReceive
  exact .reply (.step .hearClaim (.step .elapse .refl))
theorem State.Leaves.claimStart {s : State} : State.Leaves [.od, .log, .chans, .canA] (fun j => j ≠
    Od.CAN_CAN_CNT_STATUS (0 : Fin 4) ∧ j ≠ Od.CAN_SLOT_REFUSALS (0 : Fin 4) ∧ j ≠ Od.CAN_STALE_DROPS (0 : Fin 4) ∧ j
    ≠ Od.CNT_CNT_OVF_MAP) false s (s.claimStart) := by
  unfold State.claimStart
  exact .ite (.step .claim (.step .modCanA .refl)) .refl
theorem ResLeaves.execAddressClaimStart {dt : Nat} {s : State} : ResLeaves [.od, .tb, .out, .log, .chans, .canA] (fun j
    => j ≠ Od.CAN_CAN_CNT_STATUS (0 : Fin 4) ∧ j ≠ Od.CAN_SLOT_REFUSALS (0 : Fin 4) ∧ j ≠ Od.CAN_STALE_DROPS (0 : Fin
    4) ∧ j ≠ Od.CNT_CNT_OVF_MAP) false s (execAddressClaimStart dt s) := by
  unfold Machine.execAddressClaimStart
  exact .reply (.step .claimStart (.step .elapse .refl))
theorem State.Leaves.modTime {s : State} {f : TimeSt → TimeSt} : State.Leaves [.time] (fun _ => True) false s
    (s.modTime f) := by
  unfold State.modTime
  exact .step .with_time .refl
theorem State.Leaves.timeEvent {s : State} {code : Nat} {high : Nat} : State.Leaves [.log] (fun _ => True) false s
    (s.timeEvent code high) := by
  unfold State.timeEvent
  exact .step .event .refl
theorem State.Leaves.loseSync {s : State} : State.Leaves [.log, .time] (fun _ => True) false s (s.loseSync) := by
  unfold State.loseSync
  exact .step .timeEvent (.step .modTime .refl)
theorem State.Leaves.syncSilence {s : State} : State.Leaves [.od, .log, .time] (fun j => j ≠ Od.TIME_MASTER_RANK)
    false s (s.syncSilence) := by
  unfold State.syncSilence
  exact .ite (.step .loseSync (.step .setN .refl)) .refl
theorem ResLeaves.execGlobalTimeSyncLoss {dt : Nat} {s : State} : ResLeaves [.od, .tb, .out, .log, .time] (fun j => j ≠
    Od.TIME_MASTER_RANK) false s (execGlobalTimeSyncLoss dt s) := by
  unfold Machine.execGlobalTimeSyncLoss
  exact .reply (.step .syncSilence (.step .elapse .refl))
theorem State.Leaves.becomeMaster {s : State} : State.Leaves [.od, .log, .time] (fun j => j ≠ Od.CNT_CNT_OVF_MAP ∧ j ≠
    Od.TIME_MASTER_RANK ∧ j ≠ Od.TIME_TAKEOVERS ∧ j ≠ Od.TIME_TM_CNT_STATUS) false s (s.becomeMaster) := by
  unfold State.becomeMaster
  exact .step .timeEvent (.step .count (.step .setN (.step .modTime .refl)))
theorem State.Leaves.takeOver {s : State} : State.Leaves [.od, .log, .time] (fun j => j ≠ Od.CNT_CNT_OVF_MAP ∧ j ≠
    Od.TIME_MASTER_RANK ∧ j ≠ Od.TIME_TAKEOVERS ∧ j ≠ Od.TIME_TM_CNT_STATUS) false s (s.takeOver) := by
  unfold State.takeOver
  exact .ite (.step .becomeMaster .refl) .refl
theorem ResLeaves.execTimeMasterTakeover {dt : Nat} {s : State} : ResLeaves [.od, .tb, .out, .log, .time] (fun j => j ≠
    Od.CNT_CNT_OVF_MAP ∧ j ≠ Od.TIME_MASTER_RANK ∧ j ≠ Od.TIME_TAKEOVERS ∧ j ≠ Od.TIME_TM_CNT_STATUS) false s
    (execTimeMasterTakeover dt s) := by
  unfold Machine.execTimeMasterTakeover
  exact .reply (.step .takeOver (.step .elapse .refl))
theorem State.Leaves.applyOffset {s : State} {change : Int} : State.Leaves [.od, .log, .time] (fun j => j ≠
    Od.TIME_LAST_CORR_ns) false s (s.applyOffset change) := by
  unfold State.applyOffset
  exact .ite (.step .setI (.step .modTime .refl)) (.step .timeEvent (.step .modTime (.step .setI (.step .modTime
    .refl))))
theorem State.Leaves.rejectOffset {s : State} : State.Leaves [.od, .log, .time] (fun j => j ≠ Od.CNT_CNT_OVF_MAP ∧ j ≠
    Od.TIME_STEP_REJECTS ∧ j ≠ Od.TIME_TM_CNT_STATUS) false s (s.rejectOffset) := by
  unfold State.rejectOffset
  exact .ite (.step .loseSync (.step .count (.step .modTime .refl))) (.step .count (.step .modTime .refl))
theorem State.Leaves.correct {s : State} {gtPrev : Nat} {sof0 : Nat} : State.Leaves [.od, .log, .time] (fun j => j ≠
    Od.CNT_CNT_OVF_MAP ∧ j ≠ Od.TIME_LAST_CORR_ns ∧ j ≠ Od.TIME_STEP_REJECTS ∧ j ≠ Od.TIME_TM_CNT_STATUS) false s
    (s.correct gtPrev sof0) := by
  unfold State.correct
  exact .ite (.step .rejectOffset .refl) (.step .applyOffset .refl)
theorem State.Leaves.useReference {s : State} {rank : Nat} {gtPrev : Nat} {invalid : Bool} {sof : Nat} : State.Leaves [.od,
    .log, .time] (fun j => j ≠ Od.CNT_CNT_OVF_MAP ∧ j ≠ Od.TIME_LAST_CORR_ns ∧ j ≠ Od.TIME_MASTER_RANK ∧ j ≠
    Od.TIME_REF_MISSES ∧ j ≠ Od.TIME_STEP_REJECTS ∧ j ≠ Od.TIME_TM_CNT_STATUS) false s (s.useReference rank gtPrev
    invalid sof) := by
  unfold State.useReference
  exact by dsimp only; split; exacts [(.ite (.step .modTime (.step .modTime (.step .setN .refl))) (.ite (.step .countBy (.step
    .modTime (.step .modTime (.step .setN .refl)))) (.step .correct (.step .modTime (.step .setN .refl))))), (.step
    .modTime (.step .modTime (.step .setN .refl)))]
theorem State.Leaves.outrank {s : State} {rank : Nat} : State.Leaves [.od, .log, .time] (fun j => j ≠ Od.CNT_CNT_OVF_MAP
    ∧ j ≠ Od.TIME_MASTER_RANK ∧ j ≠ Od.TIME_TAKEOVERS ∧ j ≠ Od.TIME_TM_CNT_STATUS) false s (s.outrank rank) := by
  unfold State.outrank
  exact .ite (.step .becomeMaster .refl) .refl
theorem State.Leaves.hearReference {s : State} {data : List Byte} {sofAgo : Nat} : State.Leaves [.od, .log, .chans,
    .time] (fun j => j ≠ Od.CNT_CNT_OVF_MAP ∧ j ≠ Od.TIME_LAST_CORR_ns ∧ j ≠ Od.TIME_MASTER_RANK ∧ j ≠ Od.TIME_REFS ∧
    j ≠ Od.TIME_REF_MISSES ∧ j ≠ Od.TIME_STEP_REJECTS ∧ j ≠ Od.TIME_TAKEOVERS ∧ j ≠ Od.TIME_TM_CNT_STATUS) false s
    (s.hearReference data sofAgo) := by
  unfold State.hearReference
  exact .ite .refl (.ite (.ite (.step .timeEvent (.step .setN (.step .modTime (.step .demoteTime (.step .modTime
    (.step .countWide (.step .rxTakeId .refl))))))) (.step .modTime (.step .countWide (.step .rxTakeId .refl)))) (.ite
    (.step .modTime (.step .modTime (.step .countWide (.step .rxTakeId .refl)))) (.step .outrank (.step .useReference
    (.step .modTime (.step .modTime (.step .countWide (.step .rxTakeId .refl))))))))
theorem ResLeaves.execTimeReferenceReceive {dt : Nat} {data : List Byte} {sofAgo : Nat} {s : State} : ResLeaves [.od, .tb,
    .out, .log, .chans, .time] (fun j => j ≠ Od.CNT_CNT_OVF_MAP ∧ j ≠ Od.TIME_LAST_CORR_ns ∧ j ≠ Od.TIME_MASTER_RANK ∧
    j ≠ Od.TIME_REFS ∧ j ≠ Od.TIME_REF_MISSES ∧ j ≠ Od.TIME_STEP_REJECTS ∧ j ≠ Od.TIME_TAKEOVERS ∧ j ≠
    Od.TIME_TM_CNT_STATUS) false s (execTimeReferenceReceive dt data sofAgo s) := by
  unfold Machine.execTimeReferenceReceive
  exact .reply (.step .hearReference (.step .elapse .refl))
theorem State.Leaves.sendReference {s : State} : State.Leaves [.od, .fresh, .log, .chans, .time] (fun j => j ≠
    Od.CAN_CAN_CNT_STATUS (1 : Fin 4) ∧ j ≠ Od.CAN_SLOT_REFUSALS (1 : Fin 4) ∧ j ≠ Od.CAN_STALE_DROPS (1 : Fin 4) ∧ j
    ≠ Od.CNT_CNT_OVF_MAP) false s (s.sendReference) := by
  unfold State.sendReference
  exact .ite (.step .slotWrite (.step .modTime (.ite (.step .draw .refl) .refl))) .refl
theorem ResLeaves.execTimeReferenceSend {dt : Nat} {s : State} : ResLeaves [.od, .tb, .fresh, .out, .log, .chans, .time]
    (fun j => j ≠ Od.CAN_CAN_CNT_STATUS (1 : Fin 4) ∧ j ≠ Od.CAN_SLOT_REFUSALS (1 : Fin 4) ∧ j ≠ Od.CAN_STALE_DROPS (1
    : Fin 4) ∧ j ≠ Od.CNT_CNT_OVF_MAP) false s (execTimeReferenceSend dt s) := by
  unfold Machine.execTimeReferenceSend
  exact .reply (.step .sendReference (.step .elapse .refl))
theorem State.Leaves.tsWrap {s : State} : State.Leaves [.od, .log] (fun j => j ≠ Od.TIME_TS_WRAPS) false s (s.tsWrap)
    := by
  unfold State.tsWrap
  exact .ite (.ite (.step .event (.step .countWide .refl)) (.step .countWide .refl)) .refl
theorem ResLeaves.execCanTimestampWrap {dt : Nat} {s : State} : ResLeaves [.od, .tb, .out, .log] (fun j => j ≠
    Od.TIME_TS_WRAPS) false s (execCanTimestampWrap dt s) := by
  unfold Machine.execCanTimestampWrap
  exact .reply (.step .tsWrap (.step .elapse .refl))
theorem State.Leaves.endClockHold {s : State} {c : Fin 4} : State.Leaves [.chans] (fun _ => True) false s
    (s.endClockHold c) := by
  unfold State.endClockHold
  exact .ite (.step .trackFree (.step .modChan .refl)) .refl
theorem State.Leaves.canJoin {s : State} {c : Fin 4} : State.Leaves [.od, .log, .chans, .time] (fun j => j ≠
    Od.CAN_CAN_CNT_STATUS c ∧ j ≠ Od.CAN_STALE_DROPS c ∧ j ≠ Od.CNT_CNT_OVF_MAP) false s (s.canJoin c) := by
  unfold State.canJoin
  exact .ite (.step .endClockHold .refl) (.step .arbitrate (.step .canEvent (.ite (.step .with_time (.step .modChan
    (.step .endClockHold .refl))) (.step .modChan (.step .endClockHold .refl)))))
theorem ResLeaves.execCanChannelRejoin {dt : Nat} {c : Fin 4} {s : State} : ResLeaves [.od, .tb, .out, .log, .chans,
    .time] (fun j => j ≠ Od.CAN_CAN_CNT_STATUS c ∧ j ≠ Od.CAN_STALE_DROPS c ∧ j ≠ Od.CNT_CNT_OVF_MAP) false s
    (execCanChannelRejoin dt c s) := by
  unfold Machine.execCanChannelRejoin
  exact .reply (.step .canJoin (.step .elapse .refl))
theorem State.Leaves.offWhenIdle {s : State} {c : Fin 4} : State.Leaves [.od, .log, .links, .drives, .cells, .legs,
    .store, .seqs, .axes, .traction, .lus, .stageIn, .lvCommand, .gbx, .dcl, .aux, .chg, .path, .crcs, .chans, .time,
    .canA, .sessions] (fun j => noReaction j ∧ j ≠ Od.AXLE_AXLE_TQ_SET ∧ (∀ x, x < 6 → j ≠ Od.OWN_OWNER x) ∧ j ≠
    Od.OWN_OWN_STATUS ∧ j ≠ Od.TIME_MASTER_RANK) true s (s.offWhenIdle c) := by
  unfold State.offWhenIdle
  exact .ite (.step .goOffline .refl) .refl
theorem ResLeaves.execCanChannelOffline {dt : Nat} {c : Fin 4} {s : State} : ResLeaves [.od, .tb, .out, .log, .links,
    .drives, .cells, .legs, .store, .seqs, .axes, .traction, .lus, .stageIn, .lvCommand, .gbx, .dcl, .aux, .chg,
    .path, .crcs, .chans, .time, .canA, .sessions] (fun j => noReaction j ∧ j ≠ Od.AXLE_AXLE_TQ_SET ∧ (∀ x, x < 6 → j
    ≠ Od.OWN_OWNER x) ∧ j ≠ Od.OWN_OWN_STATUS ∧ j ≠ Od.TIME_MASTER_RANK) true s (execCanChannelOffline dt c s) := by
  unfold Machine.execCanChannelOffline
  exact .reply (.step .offWhenIdle (.step .elapse .refl))
theorem ResLeaves.execBridgeTxWrite {dt : Nat} {who : Requester} {c : Fin 4} {data : List Byte} {s : State} : ResLeaves
    [.od, .tb, .out, .log, .chans, .sessions] (fun j => noAccess j ∧ j ≠ Od.CAN_CAN_CNT_STATUS c ∧ j ≠
    Od.CAN_STALE_DROPS c) false s (execBridgeTxWrite dt who c data s) := by
  unfold Machine.execBridgeTxWrite
  exact .reply (.step .writeBridge (.step .elapse .refl))
theorem State.Leaves.readBridge {s : State} {who : Requester} {c : Fin 4} : State.Leaves [.od, .out, .chans,
    .sessions] (fun j => j ≠ Od.SVC_REQUESTS) false s (s.readBridge who c) := by
  unfold State.readBridge
  exact .readRequest (fun _ => OkPairLeaves.bridgeRead.mono (fun _ _ => trivial) (by decide) (by decide)) .refl
theorem ResLeaves.execBridgeRxRead {dt : Nat} {who : Requester} {c : Fin 4} {s : State} : ResLeaves [.od, .tb, .out,
    .log, .chans, .sessions] (fun j => j ≠ Od.SVC_REQUESTS) false s (execBridgeRxRead dt who c s) := by
  unfold Machine.execBridgeRxRead
  exact .reply (.step .readBridge (.step .elapse .refl))
theorem ResLeaves.execCanSlotStale {dt : Nat} {c : Fin 4} {slot : Fin 16} {s : State} : ResLeaves [.od, .tb, .out, .log,
    .chans] (fun j => j ≠ Od.CAN_CAN_CNT_STATUS c ∧ j ≠ Od.CAN_STALE_DROPS c ∧ j ≠ Od.CNT_CNT_OVF_MAP) false s
    (execCanSlotStale dt c slot s) := by
  unfold Machine.execCanSlotStale
  exact .reply (.ite (.step .dropStale (.step .elapse .refl)) (.step .elapse .refl))
theorem State.Leaves.canRecover {s : State} {c : Fin 4} : State.Leaves [.od, .log, .links, .drives, .cells, .legs,
    .store, .seqs, .axes, .traction, .lus, .stageIn, .lvCommand, .gbx, .dcl, .aux, .chg, .path, .crcs, .chans, .time,
    .canA, .sessions] (fun j => noReaction j ∧ j ≠ Od.AXLE_AXLE_TQ_SET ∧ j ≠ Od.CAN_CAN_CNT_STATUS c ∧ j ≠
    Od.CAN_STALE_DROPS c ∧ (∀ x, x < 6 → j ≠ Od.OWN_OWNER x) ∧ j ≠ Od.OWN_OWN_STATUS ∧ j ≠ Od.TIME_MASTER_RANK) true s
    (s.canRecover c) := by
  unfold State.canRecover
  exact .step .frameBoundary (.ite (.step .with_time (.step .canEvent (.step .modChan .refl))) (.step .canEvent (.step
    .modChan .refl)))
theorem ResLeaves.execCanBusOffRecovery {dt : Nat} {c : Fin 4} {s : State} : ResLeaves [.od, .tb, .out, .log, .links,
    .drives, .cells, .legs, .store, .seqs, .axes, .traction, .lus, .stageIn, .lvCommand, .gbx, .dcl, .aux, .chg,
    .path, .crcs, .chans, .time, .canA, .sessions] (fun j => noReaction j ∧ j ≠ Od.AXLE_AXLE_TQ_SET ∧ j ≠
    Od.CAN_CAN_CNT_STATUS c ∧ j ≠ Od.CAN_STALE_DROPS c ∧ (∀ x, x < 6 → j ≠ Od.OWN_OWNER x) ∧ j ≠ Od.OWN_OWN_STATUS ∧ j
    ≠ Od.TIME_MASTER_RANK) true s (execCanBusOffRecovery dt c s) := by
  unfold Machine.execCanBusOffRecovery
  exact .reply (.ite (.step .canRecover (.step .elapse .refl)) (.step .elapse .refl))
theorem State.Leaves.enterBusOff {s : State} {c : Fin 4} : State.Leaves [.od, .log, .chans, .time] (fun j => j ≠
    Od.CAN_BUS_OFFS c ∧ j ≠ Od.CAN_CAN_CNT_STATUS c ∧ j ≠ Od.CNT_CNT_OVF_MAP ∧ j ≠ Od.TIME_MASTER_RANK) false s
    (s.enterBusOff c) := by
  unfold State.enterBusOff
  exact .ite (.step .demoteTime (.each (fun _ _ _ => (.ite (.step .modSlot .refl) .refl)) (.step .canEvent (.step
    .count (.step .modChan .refl))))) (.each (fun _ _ _ => (.ite (.step .modSlot .refl) .refl)) (.step .canEvent
    (.step .count (.step .modChan .refl))))
theorem State.Leaves.setErr {s : State} {c : Fin 4} {tec : Nat} {rxErr : Nat} : State.Leaves [.od, .log, .chans, .time]
    (fun j => j ≠ Od.CAN_BUS_OFFS c ∧ j ≠ Od.CAN_CAN_CNT_STATUS c ∧ j ≠ Od.CNT_CNT_OVF_MAP ∧ j ≠ Od.TIME_MASTER_RANK)
    false s (s.setErr c tec rxErr) := by
  unfold State.setErr
  exact .ite (.step .enterBusOff (.when (fun _ => (.step .canEvent .refl)) (.when (fun _ => (.step .canEvent .refl))
    (.step .modChan .refl)))) (.when (fun _ => (.step .canEvent .refl)) (.when (fun _ => (.step .canEvent .refl))
    (.step .modChan .refl)))
theorem State.Leaves.canError {s : State} {c : Fin 4} {e : CanError} : State.Leaves [.od, .log, .links, .drives,
    .cells, .legs, .store, .seqs, .axes, .traction, .lus, .stageIn, .lvCommand, .gbx, .dcl, .aux, .chg, .path, .crcs,
    .chans, .time, .canA, .sessions] (fun j => noReaction j ∧ j ≠ Od.AXLE_AXLE_TQ_SET ∧ j ≠ Od.CAN_BUS_OFFS c ∧ j ≠
    Od.CAN_CAN_CNT_STATUS c ∧ j ≠ Od.CAN_ERR_FRAMES c ∧ j ≠ Od.CAN_STALE_DROPS c ∧ (∀ x, x < 6 → j ≠ Od.OWN_OWNER x) ∧
    j ≠ Od.OWN_OWN_STATUS ∧ j ≠ Od.TIME_MASTER_RANK) true s (s.canError c e) := by
  unfold State.canError
  exact .ite (.ite (.stepR .count .refl) (by split; exacts [(.stepR .setErr (.stepR .count .refl)), (.stepR .setErr
    (.stepR .count .refl)), (.stepR .setErr (.stepR .count .refl)), (.stepR .count .refl)])) (.step .frameBoundary
    (.ite (.stepR .count .refl) (by split; exacts [(.stepR .setErr (.stepR .count .refl)), (.stepR .setErr (.stepR
    .count .refl)), (.stepR .setErr (.stepR .count .refl)), (.stepR .count .refl)])))
theorem ResLeaves.execCanErrorDetected {dt : Nat} {c : Fin 4} {e : CanError} {s : State} : ResLeaves [.od, .tb, .out,
    .log, .links, .drives, .cells, .legs, .store, .seqs, .axes, .traction, .lus, .stageIn, .lvCommand, .gbx, .dcl,
    .aux, .chg, .path, .crcs, .chans, .time, .canA, .sessions] (fun j => noReaction j ∧ j ≠ Od.AXLE_AXLE_TQ_SET ∧ j ≠
    Od.CAN_BUS_OFFS c ∧ j ≠ Od.CAN_CAN_CNT_STATUS c ∧ j ≠ Od.CAN_ERR_FRAMES c ∧ j ≠ Od.CAN_STALE_DROPS c ∧ (∀ x, x < 6
    → j ≠ Od.OWN_OWNER x) ∧ j ≠ Od.OWN_OWN_STATUS ∧ j ≠ Od.TIME_MASTER_RANK) true s (execCanErrorDetected dt c e s) :=
    by
  unfold Machine.execCanErrorDetected
  exact .reply (.ite (.step .canError (.step .elapse .refl)) (.step .elapse .refl))
theorem State.Leaves.noteReference {s : State} {sofAgo : Nat} : State.Leaves [.od, .time] (fun j => j ≠ Od.TIME_REFS)
    false s (s.noteReference sofAgo) := by
  unfold State.noteReference
  exact .ite (.step .countWide (.step .with_time .refl)) .refl
theorem State.Leaves.freeOffered {s : State} {c : Fin 4} : State.Leaves [.chans] (fun _ => True) false s
    (s.freeOffered c) := by
  unfold State.freeOffered
  exact by split; exacts [.refl, (.step .modChan (.dite (fun _ => (.step .modSlot .refl)) (fun _ => (.step .modChan
    .refl))))]
theorem State.Leaves.canSent {s : State} {c : Fin 4} {sofAgo : Nat} : State.Leaves [.od, .out, .log, .links, .drives,
    .cells, .legs, .store, .seqs, .axes, .traction, .lus, .stageIn, .lvCommand, .gbx, .dcl, .aux, .chg, .path, .crcs,
    .chans, .time, .canA, .sessions] (fun j => noReaction j ∧ j ≠ Od.AXLE_AXLE_TQ_SET ∧ j ≠ Od.CAN_CAN_CNT_STATUS c ∧
    j ≠ Od.CAN_STALE_DROPS c ∧ j ≠ Od.CAN_TX_FRAMES c ∧ (∀ x, x < 6 → j ≠ Od.OWN_OWNER x) ∧ j ≠ Od.OWN_OWN_STATUS ∧ j
    ≠ Od.TIME_MASTER_RANK ∧ j ≠ Od.TIME_REFS) true s (s.canSent c sofAgo) := by
  unfold State.canSent
  exact by split; exacts [.refl, (.step .frameBoundary (.ite (.stepR .noteReference (.step .modChan (.step
    .freeOffered (.stepR .countWide (.step .emit .refl))))) (.step .modChan (.step .freeOffered (.stepR .countWide
    (.step .emit .refl))))))]
theorem ResLeaves.execCanFrameTransmitComplete {dt : Nat} {c : Fin 4} {sofAgo : Nat} {s : State} : ResLeaves [.od, .tb,
    .out, .log, .links, .drives, .cells, .legs, .store, .seqs, .axes, .traction, .lus, .stageIn, .lvCommand, .gbx,
    .dcl, .aux, .chg, .path, .crcs, .chans, .time, .canA, .sessions] (fun j => noReaction j ∧ j ≠ Od.AXLE_AXLE_TQ_SET
    ∧ j ≠ Od.CAN_CAN_CNT_STATUS c ∧ j ≠ Od.CAN_STALE_DROPS c ∧ j ≠ Od.CAN_TX_FRAMES c ∧ (∀ x, x < 6 → j ≠ Od.OWN_OWNER
    x) ∧ j ≠ Od.OWN_OWN_STATUS ∧ j ≠ Od.TIME_MASTER_RANK ∧ j ≠ Od.TIME_REFS) true s (execCanFrameTransmitComplete dt c
    sofAgo s) := by
  unfold Machine.execCanFrameTransmitComplete
  exact .reply (.ite (.step .canSent (.step .elapse .refl)) (.step .elapse .refl))
theorem State.Leaves.recGood {s : State} {c : Fin 4} : State.Leaves [.fresh, .chans] (fun _ => True) false s
    (s.recGood c) := by
  unfold State.recGood
  exact .ite .refl (.ite (.step .draw (.step .modChan .refl)) (.step .modChan .refl))
theorem State.Leaves.rxDrop {s : State} {c : Fin 4} {q : Nat} : State.Leaves [.od, .log, .chans] (fun j => j ≠
    Od.CAN_CAN_CNT_STATUS c ∧ j ≠ Od.CAN_RXQ0_DROPS c ∧ j ≠ Od.CAN_RXQ1_DROPS c ∧ j ≠ Od.CNT_CNT_OVF_MAP) false s
    (s.rxDrop c q) := by
  unfold State.rxDrop
  exact .ite (.ite (.step .count .refl) (.step .count .refl)) (.step .canEvent (.step .modChan (.ite (.step .count
    .refl) (.step .count .refl))))
theorem State.Leaves.rxFilter {s : State} {c : Fin 4} {m : CanMsg} {ts : Nat} : State.Leaves [.od, .log, .chans] (fun j
    => j ≠ Od.CAN_CAN_CNT_STATUS c ∧ (∀ x, x < 64 → j ≠ Od.CAN_FILTER_HITS c x) ∧ j ≠ Od.CAN_RXQ0_DROPS c ∧ j ≠
    Od.CAN_RXQ1_DROPS c ∧ j ≠ Od.CAN_UNMATCHED c ∧ j ≠ Od.CNT_CNT_OVF_MAP) false s (s.rxFilter c m ts) := by
  unfold State.rxFilter
  split
  · exact .step .count .refl
  · next f hf =>
    have hlt : f < 64 := List.mem_range.1 (List.mem_of_find?_eq_some hf)
    have hset (v : Nat) : State.Leaves [.od] (fun j => ∀ x, x < 64 → j ≠ Od.CAN_FILTER_HITS c x) false s
      (s.setN (Od.CAN_FILTER_HITS c f) v) := .step .setN .refl fun _ hj => hj _ hlt
    dsimp only
    split
    · exact .ite (.step .modChan (.step (hset _) .refl)) (.step .rxDrop (.step (hset _) .refl))
    · exact .ite (.step .modChan (.step (hset _) .refl)) (.step .rxDrop (.step (hset _) .refl))
    · exact .step (hset _) .refl
theorem State.Leaves.canReceive {s : State} {c : Fin 4} {m : CanMsg} {sofAgo : Nat} : State.Leaves [.od, .fresh, .log,
    .links, .drives, .cells, .legs, .store, .seqs, .axes, .traction, .lus, .stageIn, .lvCommand, .gbx, .dcl, .aux,
    .chg, .path, .crcs, .chans, .time, .canA, .sessions] (fun j => noReaction j ∧ j ≠ Od.AXLE_AXLE_TQ_SET ∧ j ≠
    Od.CAN_BUS_OFFS c ∧ j ≠ Od.CAN_CAN_CNT_STATUS c ∧ j ≠ Od.CAN_ERR_FRAMES c ∧ (∀ x, x < 64 → j ≠ Od.CAN_FILTER_HITS
    c x) ∧ j ≠ Od.CAN_LAST_RX_TS c ∧ j ≠ Od.CAN_RXQ0_DROPS c ∧ j ≠ Od.CAN_RXQ1_DROPS c ∧ j ≠ Od.CAN_RX_FRAMES c ∧ j ≠
    Od.CAN_STALE_DROPS c ∧ j ≠ Od.CAN_UNMATCHED c ∧ (∀ x, x < 6 → j ≠ Od.OWN_OWNER x) ∧ j ≠ Od.OWN_OWN_STATUS ∧ j ≠
    Od.TIME_MASTER_RANK) true s (s.canReceive c m sofAgo) := by
  unfold State.canReceive
  exact .ite .refl (.ite (.step .canError .refl) (.step .frameBoundary (.stepR .rxFilter (.step .recGood (.stepR .setN
    (.stepR .countWide .refl))))))
theorem ResLeaves.execCanFrameReceive {dt : Nat} {c : Fin 4} {m : CanMsg} {sofAgo : Nat} {s : State} : ResLeaves [.od,
    .tb, .fresh, .out, .log, .links, .drives, .cells, .legs, .store, .seqs, .axes, .traction, .lus, .stageIn,
    .lvCommand, .gbx, .dcl, .aux, .chg, .path, .crcs, .chans, .time, .canA, .sessions] (fun j => noReaction j ∧ j ≠
    Od.AXLE_AXLE_TQ_SET ∧ j ≠ Od.CAN_BUS_OFFS c ∧ j ≠ Od.CAN_CAN_CNT_STATUS c ∧ j ≠ Od.CAN_ERR_FRAMES c ∧ (∀ x, x < 64
    → j ≠ Od.CAN_FILTER_HITS c x) ∧ j ≠ Od.CAN_LAST_RX_TS c ∧ j ≠ Od.CAN_RXQ0_DROPS c ∧ j ≠ Od.CAN_RXQ1_DROPS c ∧ j ≠
    Od.CAN_RX_FRAMES c ∧ j ≠ Od.CAN_STALE_DROPS c ∧ j ≠ Od.CAN_UNMATCHED c ∧ (∀ x, x < 6 → j ≠ Od.OWN_OWNER x) ∧ j ≠
    Od.OWN_OWN_STATUS ∧ j ≠ Od.TIME_MASTER_RANK) true s (execCanFrameReceive dt c m sofAgo s) := by
  unfold Machine.execCanFrameReceive
  exact .reply (.step .canReceive (.step .elapse .refl))
theorem State.Leaves.crcTimeout {s : State} {n : Fin 4} : State.Leaves [.crcs] (fun _ => True) false s (s.crcTimeout
    n) := by
  unfold State.crcTimeout
  exact by split; exacts [(.ite (.step .modCrc .refl) .refl), .refl]
theorem ResLeaves.execCrcBindingTimeout {dt : Nat} {n : Fin 4} {s : State} : ResLeaves [.tb, .out, .log, .crcs] (fun _
    => True) false s (execCrcBindingTimeout dt n s) := by
  unfold Machine.execCrcBindingTimeout
  exact .reply (.step .crcTimeout (.step .elapse .refl))
theorem ResLeaves.execCrcDataWrite {dt : Nat} {who : Requester} {n : Fin 4} {data : List Byte} {s : State} : ResLeaves
    [.od, .tb, .out, .log, .crcs, .sessions] (fun j => noAccess j ∧ j ≠ Od.CRC_BYTES n ∧ j ≠ Od.CRC_CRC_STATUS n ∧ j ≠
    Od.CRC_RESULT n) false s (execCrcDataWrite dt who n data s) := by
  unfold Machine.execCrcDataWrite
  exact .reply (.step .writeCrcData (.step .elapse .refl))
theorem ResLeaves.execCrcStartWrite {dt : Nat} {who : Requester} {n : Fin 4} {s : State} : ResLeaves [.od, .tb, .out,
    .log, .crcs, .sessions] (fun j => noAccess j ∧ j ≠ Od.CRC_BYTES n ∧ j ≠ Od.CRC_CRC_STATUS n ∧ j ≠ Od.CRC_RESULT n)
    false s (execCrcStartWrite dt who n s) := by
  unfold Machine.execCrcStartWrite
  exact .reply (.step .writeCrcStart (.step .elapse .refl))
theorem State.Leaves.connStart {s : State} {k : Fin 16} : State.Leaves [.od, .conns] (fun j => j ≠ Od.HSF_CONN_STATE
    k) false s (s.connStart k) := by
  unfold State.connStart
  exact .step .modConn (.step .setN .refl)
theorem State.Leaves.hsfRestart {s : State} {k : Fin 16} : State.Leaves [.od, .conns] (fun j => j ≠ Od.HSF_CONN_STATE
    k) false s (s.hsfRestart k) := by
  unfold State.hsfRestart
  exact .ite (.step .connStart .refl) .refl
theorem ResLeaves.execHsfProducerRestart {dt : Nat} {k : Fin 16} {s : State} : ResLeaves [.od, .tb, .out, .log, .conns]
    (fun j => j ≠ Od.HSF_CONN_STATE k) false s (execHsfProducerRestart dt k s) := by
  unfold Machine.execHsfProducerRestart
  exact .reply (.step .hsfRestart (.step .elapse .refl))
theorem State.Leaves.connEvent {s : State} {code : Nat} {k : Fin 16} {cause : Nat} : State.Leaves [.log] (fun _ => True)
    false s (s.connEvent code k cause) := by
  unfold State.connEvent
  exact .step .event .refl
theorem State.Leaves.connFault {s : State} {k : Fin 16} {cause : Nat} : State.Leaves [.od, .log, .conns] (fun j => j ≠
    Od.CNT_CNT_OVF_MAP ∧ j ≠ Od.HSF_CONN_CNT_STATUS k ∧ j ≠ Od.HSF_CONN_FAULTS k ∧ j ≠ Od.HSF_CONN_STATE k) false s
    (s.connFault k cause) := by
  unfold State.connFault
  exact .step .connEvent (.step .modConn (.step .setN (.step .count .refl)))
theorem State.Leaves.hsfSilent {s : State} {k : Fin 16} : State.Leaves [.od, .log, .conns] (fun j => j ≠
    Od.CNT_CNT_OVF_MAP ∧ j ≠ Od.HSF_CONN_CNT_STATUS k ∧ j ≠ Od.HSF_CONN_FAULTS k ∧ j ≠ Od.HSF_CONN_STATE k ∧ j ≠
    Od.SFS_DEMANDS ∧ (∀ x, x < 6 → j ≠ Od.SFS_SF_STATE x)) false s (s.hsfSilent k) := by
  unfold State.hsfSilent
  exact .ite .refl (.ite (.ite (.step .refreshSf (.step .connFault .refl)) .refl) (.ite (.step .refreshSf (.step
    .connFault .refl)) .refl))
theorem ResLeaves.execHsfWatchdog {dt : Nat} {k : Fin 16} {s : State} : ResLeaves [.od, .tb, .out, .log, .conns] (fun j
    => j ≠ Od.CNT_CNT_OVF_MAP ∧ j ≠ Od.HSF_CONN_CNT_STATUS k ∧ j ≠ Od.HSF_CONN_FAULTS k ∧ j ≠ Od.HSF_CONN_STATE k ∧ j
    ≠ Od.SFS_DEMANDS ∧ (∀ x, x < 6 → j ≠ Od.SFS_SF_STATE x)) false s (execHsfWatchdog dt k s) := by
  unfold Machine.execHsfWatchdog
  exact .reply (.step .hsfSilent (.step .elapse .refl))
theorem State.Leaves.connRun {s : State} {k : Fin 16} : State.Leaves [.od, .log, .conns] (fun j => j ≠
    Od.HSF_CONN_STATE k) false s (s.connRun k) := by
  unfold State.connRun
  exact .step .connEvent (.step .modConn (.step .setN .refl))
theorem State.Leaves.hsfWrap {s : State} {k : Fin 16} : State.Leaves [.od, .log, .conns] (fun j => j ≠
    Od.HSF_SEQ_WRAPS k) false s (s.hsfWrap k) := by
  unfold State.hsfWrap
  exact .ite (.step .countWide .refl) (.step .connEvent (.step .modConn (.step .countWide .refl)))
theorem State.Leaves.hsfSend {s : State} {k : Fin 16} {ident : Nat} {frame : List Byte} {staleUs : Nat} : State.Leaves
    [.od, .out, .log, .chans] (fun j => (∀ x, x < 4 → j ≠ Od.CAN_CAN_CNT_STATUS x) ∧ (∀ x, x < 4 → j ≠
    Od.CAN_SLOT_REFUSALS x) ∧ (∀ x, x < 4 → j ≠ Od.CAN_STALE_DROPS x) ∧ j ≠ Od.CNT_CNT_OVF_MAP ∧ j ≠ Od.ETH_TX_FRAMES)
    false s (s.hsfSend k ident frame staleUs) := by
  unfold State.hsfSend
  exact .ite (.step .slotWrite .refl) (.step .sendUdp .refl)
theorem State.Leaves.hsfProduce {s : State} {k : Fin 16} : State.Leaves [.od, .out, .log, .conns, .chans] (fun j => (∀
    x, x < 4 → j ≠ Od.CAN_CAN_CNT_STATUS x) ∧ (∀ x, x < 4 → j ≠ Od.CAN_SLOT_REFUSALS x) ∧ (∀ x, x < 4 → j ≠
    Od.CAN_STALE_DROPS x) ∧ j ≠ Od.CNT_CNT_OVF_MAP ∧ j ≠ Od.ETH_TX_FRAMES ∧ j ≠ Od.HSF_CONN_STATE k ∧ j ≠
    Od.HSF_FRAMES_OK k ∧ j ≠ Od.HSF_LAST_SEQ k ∧ j ≠ Od.HSF_SEQ_WRAPS k) false s (s.hsfProduce k) := by
  unfold State.hsfProduce
  exact .ite .refl (.ite (.step .connRun (.step .modConn (.when (fun _ => (.step .hsfWrap .refl)) (.step .setN (.step
    .countWide (.step .hsfSend .refl)))))) (.step .modConn (.when (fun _ => (.step .hsfWrap .refl)) (.step .setN
    (.step .countWide (.step .hsfSend .refl))))))
theorem ResLeaves.execHsfProducerSend {dt : Nat} {k : Fin 16} {s : State} : ResLeaves [.od, .tb, .out, .log, .conns,
    .chans] (fun j => (∀ x, x < 4 → j ≠ Od.CAN_CAN_CNT_STATUS x) ∧ (∀ x, x < 4 → j ≠ Od.CAN_SLOT_REFUSALS x) ∧ (∀ x, x
    < 4 → j ≠ Od.CAN_STALE_DROPS x) ∧ j ≠ Od.CNT_CNT_OVF_MAP ∧ j ≠ Od.ETH_TX_FRAMES ∧ j ≠ Od.HSF_CONN_STATE k ∧ j ≠
    Od.HSF_FRAMES_OK k ∧ j ≠ Od.HSF_LAST_SEQ k ∧ j ≠ Od.HSF_SEQ_WRAPS k) false s (execHsfProducerSend dt k s) := by
  unfold Machine.execHsfProducerSend
  exact .reply (.step .hsfProduce (.step .elapse .refl))
theorem State.Leaves.hsfTake {s : State} {k : Fin 16} {ident : Nat} : State.Leaves [.od, .chans] (fun j => j ≠
    Od.ETH_RX_FRAMES) false s (s.hsfTake k ident) := by
  unfold State.hsfTake
  exact .ite (.step .rxTakeId .refl) (.step .ethReceived .refl)
theorem State.Leaves.hsfDiscard {s : State} {k : Fin 16} {cause : Nat} : State.Leaves [.log, .conns] (fun _ => True)
    false s (s.hsfDiscard k cause) := by
  unfold State.hsfDiscard
  exact .ite .refl (.step .connEvent (.step .modConn .refl))
theorem State.Leaves.hsfTimeError {s : State} {k : Fin 16} : State.Leaves [.od, .log, .conns] (fun j => j ≠
    Od.CNT_CNT_OVF_MAP ∧ j ≠ Od.HSF_CONN_CNT_STATUS k ∧ j ≠ Od.HSF_TIME_ERRORS k) false s (s.hsfTimeError k) := by
  unfold State.hsfTimeError
  exact .step .hsfDiscard (.step .count .refl)
theorem State.Leaves.hsfCrcError {s : State} {k : Fin 16} : State.Leaves [.od, .log, .conns] (fun j => j ≠
    Od.CNT_CNT_OVF_MAP ∧ j ≠ Od.HSF_CONN_CNT_STATUS k ∧ j ≠ Od.HSF_CONN_FAULTS k ∧ j ≠ Od.HSF_CONN_STATE k ∧ j ≠
    Od.HSF_CRC_ERRORS k) false s (s.hsfCrcError k) := by
  unfold State.hsfCrcError
  exact .ite (.step .connFault (.step .modConn (.step .hsfDiscard (.step .count .refl)))) (.step .modConn (.step
    .hsfDiscard (.step .count .refl)))
theorem State.Leaves.hsfMalformed {s : State} {k : Fin 16} : State.Leaves [.od, .log, .conns] (fun j => j ≠
    Od.CNT_CNT_OVF_MAP ∧ j ≠ Od.HSF_CONN_CNT_STATUS k ∧ j ≠ Od.HSF_FORMAT_ERRORS k) false s (s.hsfMalformed k) := by
  unfold State.hsfMalformed
  exact .step .hsfDiscard (.step .count .refl)
theorem State.Leaves.hsfEcho {s : State} {k : Fin 16} {data : List Byte} : State.Leaves [.od, .log, .conns] (fun j =>
    j ≠ Od.CNT_CNT_OVF_MAP ∧ j ≠ Od.HSF_CONN_CNT_STATUS k ∧ j ≠ Od.HSF_CONN_FAULTS k ∧ j ≠ Od.HSF_CONN_STATE k ∧ j ≠
    Od.HSF_CRC_ERRORS k ∧ j ≠ Od.HSF_FORMAT_ERRORS k ∧ j ≠ Od.HSF_LAST_AGE_us k ∧ j ≠ Od.HSF_TIME_ERRORS k) false s
    (s.hsfEcho k data) := by
  unfold State.hsfEcho
  exact .ite .refl (by split; exacts [(.step .hsfMalformed .refl), (.step .hsfCrcError .refl), (by split; exacts
    [(.step .hsfTimeError .refl), (.ite (.step .hsfTimeError .refl) (.ite (.step .connRun (.step .modConn (.step .setI
    .refl))) (.step .modConn (.step .setI .refl))))])])
theorem ResLeaves.execHsfEchoReceive {dt : Nat} {k : Fin 16} {data : List Byte} {s : State} : ResLeaves [.od, .tb, .out,
    .log, .conns, .chans] (fun j => j ≠ Od.CNT_CNT_OVF_MAP ∧ j ≠ Od.ETH_RX_FRAMES ∧ j ≠ Od.HSF_CONN_CNT_STATUS k ∧ j ≠
    Od.HSF_CONN_FAULTS k ∧ j ≠ Od.HSF_CONN_STATE k ∧ j ≠ Od.HSF_CRC_ERRORS k ∧ j ≠ Od.HSF_FORMAT_ERRORS k ∧ j ≠
    Od.HSF_LAST_AGE_us k ∧ j ≠ Od.HSF_TIME_ERRORS k) false s (execHsfEchoReceive dt k data s) := by
  unfold Machine.execHsfEchoReceive
  exact .reply (.step .hsfEcho (.step .hsfTake (.step .elapse .refl)))
theorem State.Leaves.hsfReceive {s : State} {k : Fin 16} {data : List Byte} : State.Leaves [.conns] (fun _ => True)
    false s (s.hsfReceive k data) := by
  unfold State.hsfReceive
  exact .ite .refl (.step .modConn .refl)
theorem ResLeaves.execHsfDataFrameReceive {dt : Nat} {k : Fin 16} {data : List Byte} {s : State} : ResLeaves [.od, .tb,
    .out, .log, .conns, .chans] (fun j => j ≠ Od.ETH_RX_FRAMES) false s (execHsfDataFrameReceive dt k data s) := by
  unfold Machine.execHsfDataFrameReceive
  exact .reply (.step .hsfReceive (.step .hsfTake (.step .elapse .refl)))
theorem ResLeaves.execSetCommit {dt : Nat} {who : Requester} {storeOk : Bool} {s : State} : ResLeaves [.od, .tb, .out,
    .log, .safety, .sessions] (fun j => noAccess j ∧ j ≠ Od.SET_SET_COMMITS ∧ j ≠ Od.SET_SET_COMMIT_TB ∧ j ≠
    Od.SET_SET_REJECT ∧ j ≠ Od.SFS_SF_CNT_STATUS) false s (execSetCommit dt who storeOk s) := by
  unfold Machine.execSetCommit
  exact .reply (.step .writeSetCommit (.step .elapse .refl))
theorem ResLeaves.execSetEditDiscard {dt : Nat} {who : Requester} {s : State} : ResLeaves [.od, .tb, .out, .log,
    .sessions] (fun j => noAccess j) false s (execSetEditDiscard dt who s) := by
  unfold Machine.execSetEditDiscard
  exact .reply (.step .setEdit (.step .elapse .refl))
theorem ResLeaves.execSetEditOpen {dt : Nat} {who : Requester} {s : State} : ResLeaves [.od, .tb, .out, .log, .sessions]
    (fun j => noAccess j) false s (execSetEditOpen dt who s) := by
  unfold Machine.execSetEditOpen
  exact .reply (.step .setEdit (.step .elapse .refl))
theorem State.Leaves.raiseSafe {s : State} {code : Nat} {source : Nat} {detail : Nat} {ds : List Drive} : State.Leaves [.od,
    .log, .links, .drives, .cells, .legs, .store, .seqs, .axes, .traction, .lus, .stageIn, .lvCommand, .gbx, .dcl,
    .aux, .chg, .path] (fun j => noReaction j ∧ (∀ x, x < 15 → j ≠ Od.CELL_SELFTEST_RESULT x) ∧ (∀ x, x < 15 → j ≠
    Od.OBS_ASC_COUNT x) ∧ j ≠ Od.PYR_PYR_CNT_STATUS ∧ (∀ x, x < 6 → j ≠ Od.PYR_TQO_ASSERTIONS x)) true s (s.raiseSafe
    code source detail ds) := by
  unfold State.raiseSafe
  exact .each (fun _ _ _ => (.step .lastEvent (.step .torqueOff .refl))) (.step .event .refl)
theorem State.Leaves.showOut {s : State} {k : Fin 4} : State.Leaves [.od] (fun j => j ≠ Od.SO_SO_STATE k) false s
    (s.showOut k) := by
  unfold State.showOut
  exact .step .setN .refl
theorem State.Leaves.setOut {s : State} {k : Fin 4} {on : Bool} : State.Leaves [.od, .safety] (fun j => j ≠
    Od.SO_SO_STATE k) false s (s.setOut k on) := by
  unfold State.setOut
  exact .ite (.step .showOut .refl) (.step .showOut (.step .modOut .refl))
theorem State.Leaves.outFault {s : State} {k : Fin 4} : State.Leaves [.od, .log, .links, .drives, .cells, .legs,
    .store, .seqs, .axes, .traction, .lus, .stageIn, .lvCommand, .gbx, .dcl, .aux, .chg, .path, .safety] (fun j =>
    noReaction j ∧ (∀ x, x < 15 → j ≠ Od.CELL_SELFTEST_RESULT x) ∧ (∀ x, x < 15 → j ≠ Od.OBS_ASC_COUNT x) ∧ j ≠
    Od.PYR_PYR_CNT_STATUS ∧ (∀ x, x < 6 → j ≠ Od.PYR_TQO_ASSERTIONS x) ∧ j ≠ Od.SFS_DEMANDS ∧ j ≠ Od.SFS_SF_CNT_STATUS
    ∧ (∀ x, x < 6 → j ≠ Od.SFS_SF_STATE x) ∧ j ≠ Od.SO_SO_FAULTS k ∧ j ≠ Od.SO_SO_STATE k) true s (s.outFault k) := by
  unfold State.outFault
  exact .ite .refl (.stepR .refreshSf (.step .raiseSafe (.stepR .count (.stepR .setOut (.step .modOut .refl)))))
theorem State.Leaves.sorrel {s : State} {k : Fin 4} {v : Rat} : State.Leaves [.od, .log, .links, .drives, .cells, .legs,
    .store, .seqs, .axes, .traction, .lus, .stageIn, .lvCommand, .gbx, .dcl, .aux, .chg, .path, .safety] (fun j =>
    noReaction j ∧ (∀ x, x < 15 → j ≠ Od.CELL_SELFTEST_RESULT x) ∧ (∀ x, x < 15 → j ≠ Od.OBS_ASC_COUNT x) ∧ j ≠
    Od.PYR_PYR_CNT_STATUS ∧ (∀ x, x < 6 → j ≠ Od.PYR_TQO_ASSERTIONS x) ∧ j ≠ Od.SFS_DEMANDS ∧ j ≠ Od.SFS_SF_CNT_STATUS
    ∧ (∀ x, x < 6 → j ≠ Od.SFS_SF_STATE x) ∧ j ≠ Od.SO_SO_FAULTS k ∧ j ≠ Od.SO_SO_STATE k) true s (s.sorrel k v) := by
  unfold State.sorrel
  exact .ite (.ite (.step .outFault (.step .modOut .refl)) (.step .modOut .refl)) .refl
theorem ResLeaves.execSorrelPulse {dt : Nat} {k : Fin 4} {v : Rat} {s : State} : ResLeaves [.od, .tb, .out, .log, .links,
    .drives, .cells, .legs, .store, .seqs, .axes, .traction, .lus, .stageIn, .lvCommand, .gbx, .dcl, .aux, .chg,
    .path, .safety] (fun j => noReaction j ∧ (∀ x, x < 15 → j ≠ Od.CELL_SELFTEST_RESULT x) ∧ (∀ x, x < 15 → j ≠
    Od.OBS_ASC_COUNT x) ∧ j ≠ Od.PYR_PYR_CNT_STATUS ∧ (∀ x, x < 6 → j ≠ Od.PYR_TQO_ASSERTIONS x) ∧ j ≠ Od.SFS_DEMANDS
    ∧ j ≠ Od.SFS_SF_CNT_STATUS ∧ (∀ x, x < 6 → j ≠ Od.SFS_SF_STATE x) ∧ j ≠ Od.SO_SO_FAULTS k ∧ j ≠ Od.SO_SO_STATE k)
    true s (execSorrelPulse dt k v s) := by
  unfold Machine.execSorrelPulse
  exact .reply (.step .sorrel (.step .elapse .refl))
theorem State.Leaves.parkUnconfirmed {s : State} : State.Leaves [.log, .safety] (fun _ => True) false s
    (s.parkUnconfirmed) := by
  unfold State.parkUnconfirmed
  exact by split; exacts [(.ite (.step .lastEvent (.step .event (.step .modSafety .refl))) .refl), .refl]
theorem ResLeaves.execSafeParkConfirmTimeout {dt : Nat} {s : State} : ResLeaves [.tb, .out, .log, .safety] (fun _ =>
    True) false s (execSafeParkConfirmTimeout dt s) := by
  unfold Machine.execSafeParkConfirmTimeout
  exact .reply (.step .parkUnconfirmed (.step .elapse .refl))
theorem State.Leaves.endFunctions {s : State} {d : Drive} : State.Leaves [.traction, .safety] (fun _ => True) false s
    (s.endFunctions d) := by
  unfold State.endFunctions
  exact .when (fun _ => (.step .modTr .refl)) (.step .modSafe .refl)
theorem State.Leaves.stoNow {s : State} {d : Drive} {code : Nat} {src : Nat} {val : Nat} : State.Leaves [.od, .log, .links,
    .drives, .cells, .legs, .store, .seqs, .axes, .traction, .lus, .stageIn, .lvCommand, .gbx, .dcl, .aux, .chg,
    .path, .safety] (fun j => noReaction j ∧ (∀ x, x < 15 → j ≠ Od.CELL_SELFTEST_RESULT x) ∧ (∀ x, x < 15 → j ≠
    Od.OBS_ASC_COUNT x) ∧ j ≠ Od.PYR_PYR_CNT_STATUS ∧ (∀ x, x < 6 → j ≠ Od.PYR_TQO_ASSERTIONS x)) true s (s.stoNow d
    code src val) := by
  unfold State.stoNow
  exact .step .raiseSafe (.step .modSafe (.step .endFunctions .refl))
theorem State.Leaves.e2Lost {s : State} {t : Fin 2} : State.Leaves [.od, .log, .links, .drives, .cells, .legs, .store,
    .seqs, .axes, .traction, .lus, .stageIn, .lvCommand, .gbx, .dcl, .aux, .chg, .path, .safety] (fun j => noReaction
    j ∧ (∀ x, x < 15 → j ≠ Od.CELL_SELFTEST_RESULT x) ∧ (∀ x, x < 15 → j ≠ Od.OBS_ASC_COUNT x) ∧ j ≠
    Od.PYR_PYR_CNT_STATUS ∧ (∀ x, x < 6 → j ≠ Od.PYR_TQO_ASSERTIONS x) ∧ j ≠ Od.SFS_DEMANDS ∧ (∀ x, x < 6 → j ≠
    Od.SFS_SF_STATE x)) true s (s.e2Lost t) := by
  unfold State.e2Lost
  exact by dsimp only; split; exacts [(.ite (.stepR .refreshSf (.step .stoNow .refl)) .refl), .refl]
theorem ResLeaves.execE2GapExpiry {dt : Nat} {t : Fin 2} {s : State} : ResLeaves [.od, .tb, .out, .log, .links, .drives,
    .cells, .legs, .store, .seqs, .axes, .traction, .lus, .stageIn, .lvCommand, .gbx, .dcl, .aux, .chg, .path,
    .safety] (fun j => noReaction j ∧ (∀ x, x < 15 → j ≠ Od.CELL_SELFTEST_RESULT x) ∧ (∀ x, x < 15 → j ≠
    Od.OBS_ASC_COUNT x) ∧ j ≠ Od.PYR_PYR_CNT_STATUS ∧ (∀ x, x < 6 → j ≠ Od.PYR_TQO_ASSERTIONS x) ∧ j ≠ Od.SFS_DEMANDS
    ∧ (∀ x, x < 6 → j ≠ Od.SFS_SF_STATE x)) true s (execE2GapExpiry dt t s) := by
  unfold Machine.execE2GapExpiry
  exact .reply (.step .e2Lost (.step .elapse .refl))
theorem State.Leaves.implausible {s : State} {t : Fin 2} : State.Leaves [.od, .log, .links, .drives, .cells, .legs,
    .store, .seqs, .axes, .traction, .lus, .stageIn, .lvCommand, .gbx, .dcl, .aux, .chg, .path, .safety] (fun j =>
    noReaction j ∧ (∀ x, x < 15 → j ≠ Od.CELL_SELFTEST_RESULT x) ∧ (∀ x, x < 15 → j ≠ Od.OBS_ASC_COUNT x) ∧ j ≠
    Od.PYR_PYR_CNT_STATUS ∧ (∀ x, x < 6 → j ≠ Od.PYR_TQO_ASSERTIONS x) ∧ j ≠ Od.SFS_DEMANDS ∧ (∀ x, x < 6 → j ≠
    Od.SFS_SF_STATE x)) true s (s.implausible t) := by
  unfold State.implausible
  exact by dsimp only; split; exacts [(.ite (.stepR .refreshSf (.step .stoNow (.step .modSafe .refl))) .refl), .refl]
theorem ResLeaves.execSpeedPlausibilityFault {dt : Nat} {t : Fin 2} {s : State} : ResLeaves [.od, .tb, .out, .log,
    .links, .drives, .cells, .legs, .store, .seqs, .axes, .traction, .lus, .stageIn, .lvCommand, .gbx, .dcl, .aux,
    .chg, .path, .safety] (fun j => noReaction j ∧ (∀ x, x < 15 → j ≠ Od.CELL_SELFTEST_RESULT x) ∧ (∀ x, x < 15 → j ≠
    Od.OBS_ASC_COUNT x) ∧ j ≠ Od.PYR_PYR_CNT_STATUS ∧ (∀ x, x < 6 → j ≠ Od.PYR_TQO_ASSERTIONS x) ∧ j ≠ Od.SFS_DEMANDS
    ∧ (∀ x, x < 6 → j ≠ Od.SFS_SF_STATE x)) true s (execSpeedPlausibilityFault dt t s) := by
  unfold Machine.execSpeedPlausibilityFault
  exact .reply (.step .implausible (.step .elapse .refl))
theorem State.Leaves.sltViolated {s : State} {t : Fin 2} : State.Leaves [.od, .log, .links, .drives, .cells, .legs,
    .store, .seqs, .axes, .traction, .lus, .stageIn, .lvCommand, .gbx, .dcl, .aux, .chg, .path, .safety] (fun j =>
    noReaction j ∧ (∀ x, x < 15 → j ≠ Od.CELL_SELFTEST_RESULT x) ∧ (∀ x, x < 15 → j ≠ Od.OBS_ASC_COUNT x) ∧ j ≠
    Od.PYR_PYR_CNT_STATUS ∧ (∀ x, x < 6 → j ≠ Od.PYR_TQO_ASSERTIONS x) ∧ j ≠ Od.SFS_DEMANDS ∧ (∀ x, x < 6 → j ≠
    Od.SFS_SF_STATE x)) true s (s.sltViolated t) := by
  unfold State.sltViolated
  exact by dsimp only; split; exacts [(.ite (.stepR .refreshSf (.step .stoNow .refl)) .refl), .refl]
theorem ResLeaves.execSltViolation {dt : Nat} {t : Fin 2} {s : State} : ResLeaves [.od, .tb, .out, .log, .links,
    .drives, .cells, .legs, .store, .seqs, .axes, .traction, .lus, .stageIn, .lvCommand, .gbx, .dcl, .aux, .chg,
    .path, .safety] (fun j => noReaction j ∧ (∀ x, x < 15 → j ≠ Od.CELL_SELFTEST_RESULT x) ∧ (∀ x, x < 15 → j ≠
    Od.OBS_ASC_COUNT x) ∧ j ≠ Od.PYR_PYR_CNT_STATUS ∧ (∀ x, x < 6 → j ≠ Od.PYR_TQO_ASSERTIONS x) ∧ j ≠ Od.SFS_DEMANDS
    ∧ (∀ x, x < 6 → j ≠ Od.SFS_SF_STATE x)) true s (execSltViolation dt t s) := by
  unfold Machine.execSltViolation
  exact .reply (.step .sltViolated (.step .elapse .refl))
theorem State.Leaves.ss1End {s : State} {d : Drive} {src : Nat} : State.Leaves [.od, .log, .links, .drives, .cells,
    .legs, .store, .seqs, .axes, .traction, .lus, .stageIn, .lvCommand, .gbx, .dcl, .aux, .chg, .path, .safety] (fun j
    => noReaction j ∧ (∀ x, x < 15 → j ≠ Od.CELL_SELFTEST_RESULT x) ∧ (∀ x, x < 15 → j ≠ Od.OBS_ASC_COUNT x) ∧ j ≠
    Od.PYR_PYR_CNT_STATUS ∧ (∀ x, x < 6 → j ≠ Od.PYR_TQO_ASSERTIONS x)) true s (s.ss1End d src) := by
  unfold State.ss1End
  exact .step .modSafe (.step .stoNow .refl)
theorem State.Leaves.parkOff {s : State} : State.Leaves [.od, .log, .links, .drives, .cells, .legs, .store, .seqs,
    .axes, .traction, .lus, .stageIn, .lvCommand, .gbx, .dcl, .aux, .chg, .path, .safety] (fun j => noReaction j ∧ (∀
    x, x < 15 → j ≠ Od.CELL_SELFTEST_RESULT x) ∧ (∀ x, x < 15 → j ≠ Od.OBS_ASC_COUNT x) ∧ j ≠ Od.PYR_PYR_CNT_STATUS ∧
    (∀ x, x < 6 → j ≠ Od.PYR_TQO_ASSERTIONS x)) true s (s.parkOff) := by
  unfold State.parkOff
  exact .step .modSafety (.each (fun _ _ _ => (.ite (.step .modSafe .refl) (.ite (.step .ss1End .refl) (.step
    .torqueOff (.step .modSafe (.step .endFunctions .refl)))))) .refl)
theorem State.Leaves.ss1Timeout {s : State} {d : Drive} : State.Leaves [.od, .log, .links, .drives, .cells, .legs,
    .store, .seqs, .axes, .traction, .lus, .stageIn, .lvCommand, .gbx, .dcl, .aux, .chg, .path, .safety] (fun j =>
    noReaction j ∧ (∀ x, x < 15 → j ≠ Od.CELL_SELFTEST_RESULT x) ∧ (∀ x, x < 15 → j ≠ Od.OBS_ASC_COUNT x) ∧ j ≠
    Od.PYR_PYR_CNT_STATUS ∧ (∀ x, x < 6 → j ≠ Od.PYR_TQO_ASSERTIONS x) ∧ j ≠ Od.SFS_DEMANDS ∧ (∀ x, x < 6 → j ≠
    Od.SFS_SF_STATE x)) true s (s.ss1Timeout d) := by
  unfold State.ss1Timeout
  exact by split; exacts [(.ite (.stepR .refreshSf (.ite (.step .parkOff .refl) (.step .ss1End .refl))) .refl), .refl]
theorem ResLeaves.execSs1TimeExpiry {dt : Nat} {d : Drive} {s : State} : ResLeaves [.od, .tb, .out, .log, .links,
    .drives, .cells, .legs, .store, .seqs, .axes, .traction, .lus, .stageIn, .lvCommand, .gbx, .dcl, .aux, .chg,
    .path, .safety] (fun j => noReaction j ∧ (∀ x, x < 15 → j ≠ Od.CELL_SELFTEST_RESULT x) ∧ (∀ x, x < 15 → j ≠
    Od.OBS_ASC_COUNT x) ∧ j ≠ Od.PYR_PYR_CNT_STATUS ∧ (∀ x, x < 6 → j ≠ Od.PYR_TQO_ASSERTIONS x) ∧ j ≠ Od.SFS_DEMANDS
    ∧ (∀ x, x < 6 → j ≠ Od.SFS_SF_STATE x)) true s (execSs1TimeExpiry dt d s) := by
  unfold Machine.execSs1TimeExpiry
  exact .reply (.step .ss1Timeout (.step .elapse .refl))
theorem ResLeaves.execSafeReleaseWrite {dt : Nat} {who : Requester} {mask : BitVec 8} {s : State} : ResLeaves [.od, .tb,
    .out, .log, .links, .drives, .cells, .legs, .store, .seqs, .axes, .traction, .lus, .stageIn, .lvCommand, .gbx,
    .dcl, .aux, .chg, .path, .pyr, .safety, .sessions] (fun j => noReaction j ∧ noAccess j ∧ j ≠ Od.PYR_PYR_STATUS ∧ j
    ≠ Od.SFS_DEMANDS ∧ j ≠ Od.SFS_REFUSALS ∧ j ≠ Od.SFS_RELEASES ∧ j ≠ Od.SFS_SF_CNT_STATUS ∧ (∀ x, x < 6 → j ≠
    Od.SFS_SF_STATE x)) true s (execSafeReleaseWrite dt who mask s) := by
  unfold Machine.execSafeReleaseWrite
  exact .reply (.step .writeSafeRelease (.step .elapse .refl))
theorem State.Leaves.modPair {s : State} {k : Fin 4} {f : SafePair → SafePair} : State.Leaves [.safety] (fun _ =>
    True) false s (s.modPair k f) := by
  unfold State.modPair
  exact .step .modSafety .refl
theorem State.Leaves.overhold {s : State} {k : Fin 4} : State.Leaves [.log, .safety] (fun _ => True) false s
    (s.overhold k) := by
  unfold State.overhold
  exact by split; exacts [(.ite (.step .event (.step .modPair .refl)) .refl), .refl]
theorem ResLeaves.execReleasePairOverhold {dt : Nat} {k : Fin 4} {s : State} : ResLeaves [.tb, .out, .log, .safety] (fun
    _ => True) false s (execReleasePairOverhold dt k s) := by
  unfold Machine.execReleasePairOverhold
  exact .reply (.step .overhold (.step .elapse .refl))
theorem State.Leaves.pairFault {s : State} {k : Fin 4} {code : Nat} : State.Leaves [.od, .log, .safety] (fun j => j ≠
    Od.CNT_CNT_OVF_MAP ∧ j ≠ Od.PAIR_PAIR_FAULTS k ∧ j ≠ Od.PAIR_PAIR_STATE k ∧ j ≠ Od.SFS_DEMANDS ∧ j ≠
    Od.SFS_SF_CNT_STATUS ∧ (∀ x, x < 6 → j ≠ Od.SFS_SF_STATE x)) false s (s.pairFault k code) := by
  unfold State.pairFault
  exact .ite .refl (.step .refreshSf (.step .setN (.step .event (.step .count (.step .modPair .refl)))))
theorem State.Leaves.pulsePair {s : State} {o : Fin 2} {low : Nat} {k : Fin 4} : State.Leaves [.od, .log, .safety] (fun
    j => j ≠ Od.CNT_CNT_OVF_MAP ∧ j ≠ Od.PAIR_PAIR_FAULTS k ∧ j ≠ Od.PAIR_PAIR_STATE k ∧ j ≠ Od.SFS_DEMANDS ∧ j ≠
    Od.SFS_SF_CNT_STATUS ∧ (∀ x, x < 6 → j ≠ Od.SFS_SF_STATE x)) false s (s.pulsePair o low k) := by
  unfold State.pulsePair
  exact .ite .refl (.ite (.step .pairFault (.step .modPair .refl)) (.step .modPair .refl))
theorem State.Leaves.testPulse {s : State} {o : Fin 2} {low : Nat} : State.Leaves [.od, .out, .log, .safety] (fun j => j
    ≠ Od.CNT_CNT_OVF_MAP ∧ (∀ x, x < 4 → j ≠ Od.PAIR_PAIR_FAULTS x) ∧ (∀ x, x < 4 → j ≠ Od.PAIR_PAIR_STATE x) ∧ j ≠
    Od.SFS_DEMANDS ∧ j ≠ Od.SFS_SF_CNT_STATUS ∧ (∀ x, x < 6 → j ≠ Od.SFS_SF_STATE x)) false s (s.testPulse o low) :=
    by
  unfold State.testPulse
  exact .ite (.each (fun _ _ _ => (.step .pulsePair .refl)) (.step .modSafety (.step .emit .refl))) .refl
theorem ResLeaves.execTestPulse {dt : Nat} {o : Fin 2} {low : BitVec 8} {s : State} : ResLeaves [.od, .tb, .out, .log,
    .safety] (fun j => j ≠ Od.CNT_CNT_OVF_MAP ∧ (∀ x, x < 4 → j ≠ Od.PAIR_PAIR_FAULTS x) ∧ (∀ x, x < 4 → j ≠
    Od.PAIR_PAIR_STATE x) ∧ j ≠ Od.SFS_DEMANDS ∧ j ≠ Od.SFS_SF_CNT_STATUS ∧ (∀ x, x < 6 → j ≠ Od.SFS_SF_STATE x))
    false s (execTestPulse dt o low s) := by
  unfold Machine.execTestPulse
  exact .reply (.step .testPulse (.step .elapse .refl))
theorem State.Leaves.discrepancy {s : State} {k : Fin 4} : State.Leaves [.od, .log, .safety] (fun j => j ≠
    Od.CNT_CNT_OVF_MAP ∧ j ≠ Od.PAIR_PAIR_FAULTS k ∧ j ≠ Od.PAIR_PAIR_STATE k ∧ j ≠ Od.SFS_DEMANDS ∧ j ≠
    Od.SFS_SF_CNT_STATUS ∧ (∀ x, x < 6 → j ≠ Od.SFS_SF_STATE x)) false s (s.discrepancy k) := by
  unfold State.discrepancy
  exact by split; exacts [(.ite (.step .pairFault .refl) .refl), .refl]
theorem ResLeaves.execInputPairDiscrepancy {dt : Nat} {k : Fin 4} {s : State} : ResLeaves [.od, .tb, .out, .log,
    .safety] (fun j => j ≠ Od.CNT_CNT_OVF_MAP ∧ j ≠ Od.PAIR_PAIR_FAULTS k ∧ j ≠ Od.PAIR_PAIR_STATE k ∧ j ≠
    Od.SFS_DEMANDS ∧ j ≠ Od.SFS_SF_CNT_STATUS ∧ (∀ x, x < 6 → j ≠ Od.SFS_SF_STATE x)) false s
    (execInputPairDiscrepancy dt k s) := by
  unfold Machine.execInputPairDiscrepancy
  exact .reply (.step .discrepancy (.step .elapse .refl))
theorem State.Leaves.noteInput {s : State} {ch : Fin 8} {high : Bool} : State.Leaves [.safety] (fun _ => True) false s
    (s.noteInput ch high) := by
  unfold State.noteInput
  exact .ite .refl (.step .modSafety .refl)
theorem State.Leaves.pairLevels {s : State} {k : Fin 4} : State.Leaves [.od, .safety] (fun j => j ≠ Od.PAIR_PAIR_STATE
    k) false s (s.pairLevels k) := by
  unfold State.pairLevels
  exact .step .setN (.step .modPair .refl)
theorem State.Leaves.releasePair {s : State} {k : Fin 4} {since : Option Nat} : State.Leaves [.od, .log, .links,
    .drives, .cells, .legs, .store, .seqs, .axes, .traction, .lus, .stageIn, .lvCommand, .gbx, .dcl, .aux, .chg,
    .path, .pyr, .safety] (fun j => noReaction j ∧ j ≠ Od.PYR_PYR_STATUS ∧ j ≠ Od.SFS_DEMANDS ∧ j ≠ Od.SFS_REFUSALS ∧
    j ≠ Od.SFS_RELEASES ∧ j ≠ Od.SFS_SF_CNT_STATUS ∧ (∀ x, x < 6 → j ≠ Od.SFS_SF_STATE x)) true s (s.releasePair k
    since) := by
  unfold State.releasePair
  exact by split; exacts [.refl, (.ite (.step .release .refl) .refl)]
theorem State.Leaves.acceptInput {s : State} {ch : Fin 8} : State.Leaves [.od, .log, .links, .drives, .cells, .legs,
    .store, .seqs, .axes, .traction, .lus, .stageIn, .lvCommand, .gbx, .dcl, .aux, .chg, .path, .pyr, .safety] (fun j
    => noReaction j ∧ (∀ x, x < 4 → j ≠ Od.PAIR_PAIR_STATE x) ∧ j ≠ Od.PYR_PYR_STATUS ∧ j ≠ Od.SFS_DEMANDS ∧ j ≠
    Od.SFS_REFUSALS ∧ j ≠ Od.SFS_RELEASES ∧ j ≠ Od.SFS_SF_CNT_STATUS ∧ (∀ x, x < 6 → j ≠ Od.SFS_SF_STATE x) ∧ j ≠
    Od.SFS_SI_LEVELS) true s (s.acceptInput ch) := by
  unfold State.acceptInput
  exact .ite .refl (.stepR .refreshSf (.step .releasePair (.stepR .pairLevels (.stepR .setBit .refl))))
theorem State.Leaves.inputChange {s : State} {ch : Fin 8} {high : Bool} : State.Leaves [.od, .log, .links, .drives,
    .cells, .legs, .store, .seqs, .axes, .traction, .lus, .stageIn, .lvCommand, .gbx, .dcl, .aux, .chg, .path, .pyr,
    .safety] (fun j => noReaction j ∧ (∀ x, x < 4 → j ≠ Od.PAIR_PAIR_STATE x) ∧ j ≠ Od.PYR_PYR_STATUS ∧ j ≠
    Od.SFS_DEMANDS ∧ j ≠ Od.SFS_REFUSALS ∧ j ≠ Od.SFS_RELEASES ∧ j ≠ Od.SFS_SF_CNT_STATUS ∧ (∀ x, x < 6 → j ≠
    Od.SFS_SF_STATE x) ∧ j ≠ Od.SFS_SI_LEVELS) true s (s.inputChange ch high) := by
  unfold State.inputChange
  exact .step .acceptInput (.step .noteInput .refl)
theorem ResLeaves.execSafetyInputChange {dt : Nat} {ch : Fin 8} {high : Bool} {s : State} : ResLeaves [.od, .tb, .out,
    .log, .links, .drives, .cells, .legs, .store, .seqs, .axes, .traction, .lus, .stageIn, .lvCommand, .gbx, .dcl,
    .aux, .chg, .path, .pyr, .safety] (fun j => noReaction j ∧ (∀ x, x < 4 → j ≠ Od.PAIR_PAIR_STATE x) ∧ j ≠
    Od.PYR_PYR_STATUS ∧ j ≠ Od.SFS_DEMANDS ∧ j ≠ Od.SFS_REFUSALS ∧ j ≠ Od.SFS_RELEASES ∧ j ≠ Od.SFS_SF_CNT_STATUS ∧ (∀
    x, x < 6 → j ≠ Od.SFS_SF_STATE x) ∧ j ≠ Od.SFS_SI_LEVELS) true s (execSafetyInputChange dt ch high s) := by
  unfold Machine.execSafetyInputChange
  exact .reply (.step .inputChange (.step .elapse .refl))
theorem State.Leaves.readbackNote {s : State} {d : Drive} {channels : Nat} : State.Leaves [.safety] (fun _ => True)
    false s (s.readbackNote d channels) := by
  unfold State.readbackNote
  exact .step .modSafe .refl
theorem State.Leaves.readbackFault {s : State} {d : Drive} {channels : Nat} : State.Leaves [.od, .log, .links, .drives,
    .cells, .legs, .store, .seqs, .axes, .traction, .lus, .stageIn, .lvCommand, .gbx, .dcl, .aux, .chg, .path,
    .safety] (fun j => noReaction j ∧ (∀ x, x < 15 → j ≠ Od.CELL_SELFTEST_RESULT x) ∧ (∀ x, x < 15 → j ≠
    Od.OBS_ASC_COUNT x) ∧ j ≠ Od.PYR_PYR_CNT_STATUS ∧ j ≠ Od.PYR_PYR_STATUS ∧ (∀ x, x < 6 → j ≠ Od.PYR_TQO_ASSERTIONS
    x) ∧ j ≠ Od.SFS_DEMANDS ∧ (∀ x, x < 6 → j ≠ Od.SFS_SF_STATE x)) true s (s.readbackFault d channels) := by
  unfold State.readbackFault
  exact .ite (.step .readbackNote .refl) (.ite (.step .modSafe (.step .readbackNote .refl)) (.stepR .refreshSf (.step
    .raiseSafe (.step .modSafe (.stepR .setPyrBit (.step .readbackNote .refl))))))
theorem ResLeaves.execTqoReadbackFault {dt : Nat} {d : Drive} {channels : BitVec 2} {s : State} : ResLeaves [.od, .tb,
    .out, .log, .links, .drives, .cells, .legs, .store, .seqs, .axes, .traction, .lus, .stageIn, .lvCommand, .gbx,
    .dcl, .aux, .chg, .path, .safety] (fun j => noReaction j ∧ (∀ x, x < 15 → j ≠ Od.CELL_SELFTEST_RESULT x) ∧ (∀ x, x
    < 15 → j ≠ Od.OBS_ASC_COUNT x) ∧ j ≠ Od.PYR_PYR_CNT_STATUS ∧ j ≠ Od.PYR_PYR_STATUS ∧ (∀ x, x < 6 → j ≠
    Od.PYR_TQO_ASSERTIONS x) ∧ j ≠ Od.SFS_DEMANDS ∧ (∀ x, x < 6 → j ≠ Od.SFS_SF_STATE x)) true s (execTqoReadbackFault
    dt d channels s) := by
  unfold Machine.execTqoReadbackFault
  exact .reply (.step .readbackFault (.step .elapse .refl))
theorem ResLeaves.execConfigReqLeaveSplit {dt : Nat} {who : Requester} {s : State} : ResLeaves [.od, .tb, .out, .log,
    .links, .drives, .cells, .legs, .store, .seqs, .axes, .traction, .lus, .stageIn, .lvCommand, .gbx, .dcl, .aux,
    .chg, .path, .pyr, .safety, .conns, .sessions] (fun j => noReaction j ∧ noAccess j ∧ (∀ x, x < 15 → j ≠
    Od.CELL_SELFTEST_RESULT x) ∧ (∀ x, x < 16 → j ≠ Od.HSF_CONN_STATE x) ∧ (∀ x, x < 15 → j ≠ Od.OBS_ASC_COUNT x) ∧ j
    ≠ Od.PYR_CONFIG_ACT ∧ j ≠ Od.PYR_PYR_CNT_STATUS ∧ j ≠ Od.PYR_PYR_STATUS ∧ j ≠ Od.PYR_STARTUP_RESULT ∧ (∀ x, x < 6
    → j ≠ Od.PYR_TQO_ASSERTIONS x) ∧ j ≠ Od.SFS_DEMANDS ∧ (∀ x, x < 6 → j ≠ Od.SFS_SF_STATE x)) true s
    (execConfigReqLeaveSplit dt who s) := by
  unfold Machine.execConfigReqLeaveSplit
  exact .reply (.step .writeConfigReq (.step .elapse .refl))
theorem ResLeaves.execConfigReqSplit {dt : Nat} {who : Requester} {s : State} : ResLeaves [.od, .tb, .out, .log, .links,
    .drives, .cells, .legs, .store, .seqs, .axes, .traction, .lus, .stageIn, .lvCommand, .gbx, .dcl, .aux, .chg,
    .path, .pyr, .safety, .conns, .sessions] (fun j => noReaction j ∧ noAccess j ∧ (∀ x, x < 15 → j ≠
    Od.CELL_SELFTEST_RESULT x) ∧ (∀ x, x < 16 → j ≠ Od.HSF_CONN_STATE x) ∧ (∀ x, x < 15 → j ≠ Od.OBS_ASC_COUNT x) ∧ j
    ≠ Od.PYR_CONFIG_ACT ∧ j ≠ Od.PYR_PYR_CNT_STATUS ∧ j ≠ Od.PYR_PYR_STATUS ∧ j ≠ Od.PYR_STARTUP_RESULT ∧ (∀ x, x < 6
    → j ≠ Od.PYR_TQO_ASSERTIONS x) ∧ j ≠ Od.SFS_DEMANDS ∧ (∀ x, x < 6 → j ≠ Od.SFS_SF_STATE x)) true s
    (execConfigReqSplit dt who s) := by
  unfold Machine.execConfigReqSplit
  exact .reply (.step .writeConfigReq (.step .elapse .refl))
theorem ResLeaves.execConfigReqPair {dt : Nat} {who : Requester} {s : State} : ResLeaves [.od, .tb, .out, .log, .links,
    .drives, .cells, .legs, .store, .seqs, .axes, .traction, .lus, .stageIn, .lvCommand, .gbx, .dcl, .aux, .chg,
    .path, .pyr, .safety, .conns, .sessions] (fun j => noReaction j ∧ noAccess j ∧ (∀ x, x < 15 → j ≠
    Od.CELL_SELFTEST_RESULT x) ∧ (∀ x, x < 16 → j ≠ Od.HSF_CONN_STATE x) ∧ (∀ x, x < 15 → j ≠ Od.OBS_ASC_COUNT x) ∧ j
    ≠ Od.PYR_CONFIG_ACT ∧ j ≠ Od.PYR_PYR_CNT_STATUS ∧ j ≠ Od.PYR_PYR_STATUS ∧ j ≠ Od.PYR_STARTUP_RESULT ∧ (∀ x, x < 6
    → j ≠ Od.PYR_TQO_ASSERTIONS x) ∧ j ≠ Od.SFS_DEMANDS ∧ (∀ x, x < 6 → j ≠ Od.SFS_SF_STATE x)) true s
    (execConfigReqPair dt who s) := by
  unfold Machine.execConfigReqPair
  exact .reply (.step .writeConfigReq (.step .elapse .refl))
theorem ResLeaves.execConfigReqTriple {dt : Nat} {who : Requester} {s : State} : ResLeaves [.od, .tb, .out, .log,
    .links, .drives, .cells, .legs, .store, .seqs, .axes, .traction, .lus, .stageIn, .lvCommand, .gbx, .dcl, .aux,
    .chg, .path, .pyr, .safety, .conns, .sessions] (fun j => noReaction j ∧ noAccess j ∧ (∀ x, x < 15 → j ≠
    Od.CELL_SELFTEST_RESULT x) ∧ (∀ x, x < 16 → j ≠ Od.HSF_CONN_STATE x) ∧ (∀ x, x < 15 → j ≠ Od.OBS_ASC_COUNT x) ∧ j
    ≠ Od.PYR_CONFIG_ACT ∧ j ≠ Od.PYR_PYR_CNT_STATUS ∧ j ≠ Od.PYR_PYR_STATUS ∧ j ≠ Od.PYR_STARTUP_RESULT ∧ (∀ x, x < 6
    → j ≠ Od.PYR_TQO_ASSERTIONS x) ∧ j ≠ Od.SFS_DEMANDS ∧ (∀ x, x < 6 → j ≠ Od.SFS_SF_STATE x)) true s
    (execConfigReqTriple dt who s) := by
  unfold Machine.execConfigReqTriple
  exact .reply (.step .writeConfigReq (.step .elapse .refl))
theorem State.Leaves.staleOff {s : State} : State.Leaves [.od, .log, .links, .drives, .cells, .legs, .store, .seqs,
    .axes, .traction, .lus, .stageIn, .lvCommand, .gbx, .dcl, .aux, .chg, .path, .safety] (fun j => noReaction j ∧ (∀
    x, x < 15 → j ≠ Od.CELL_SELFTEST_RESULT x) ∧ (∀ x, x < 15 → j ≠ Od.OBS_ASC_COUNT x) ∧ j ≠ Od.PYR_PYR_CNT_STATUS ∧
    (∀ x, x < 6 → j ≠ Od.PYR_TQO_ASSERTIONS x)) true s (s.staleOff) := by
  unfold State.staleOff
  exact .each (fun _ _ _ => (.step .modSafe (.step .raiseSafe (.step .modSafe .refl)))) .refl
theorem State.Leaves.exchangeStale {s : State} : State.Leaves [.od, .log, .links, .drives, .cells, .legs, .store,
    .seqs, .axes, .traction, .lus, .stageIn, .lvCommand, .gbx, .dcl, .aux, .chg, .path, .safety] (fun j => noReaction
    j ∧ (∀ x, x < 15 → j ≠ Od.CELL_SELFTEST_RESULT x) ∧ (∀ x, x < 15 → j ≠ Od.OBS_ASC_COUNT x) ∧ j ≠
    Od.PYR_PYR_CNT_STATUS ∧ j ≠ Od.PYR_PYR_STATUS ∧ (∀ x, x < 6 → j ≠ Od.PYR_TQO_ASSERTIONS x) ∧ j ≠ Od.SFS_DEMANDS ∧
    (∀ x, x < 6 → j ≠ Od.SFS_SF_STATE x)) true s (s.exchangeStale) := by
  unfold State.exchangeStale
  exact .ite (.stepR .refreshSf (.ite (.step .event (.stepR .setPyrBit .refl)) (.step .staleOff (.stepR .setPyrBit
    .refl)))) .refl
theorem ResLeaves.execExchangeStale {dt : Nat} {s : State} : ResLeaves [.od, .tb, .out, .log, .links, .drives, .cells,
    .legs, .store, .seqs, .axes, .traction, .lus, .stageIn, .lvCommand, .gbx, .dcl, .aux, .chg, .path, .safety] (fun j
    => noReaction j ∧ (∀ x, x < 15 → j ≠ Od.CELL_SELFTEST_RESULT x) ∧ (∀ x, x < 15 → j ≠ Od.OBS_ASC_COUNT x) ∧ j ≠
    Od.PYR_PYR_CNT_STATUS ∧ j ≠ Od.PYR_PYR_STATUS ∧ (∀ x, x < 6 → j ≠ Od.PYR_TQO_ASSERTIONS x) ∧ j ≠ Od.SFS_DEMANDS ∧
    (∀ x, x < 6 → j ≠ Od.SFS_SF_STATE x)) true s (execExchangeStale dt s) := by
  unfold Machine.execExchangeStale
  exact .reply (.step .exchangeStale (.step .elapse .refl))
theorem State.Leaves.dropSequences {s : State} : State.Leaves [.od, .pyr] (fun j => j ≠ Od.PYR_PYR_STATUS) false s
    (s.dropSequences) := by
  unfold State.dropSequences
  exact .step .setPyrBit (.step .setPyrBit (.step .modPyr .refl))
theorem State.Leaves.showResync {s : State} : State.Leaves [.od] (fun j => j ≠ Od.PYR_RESYNC_STATE) false s
    (s.showResync) := by
  unfold State.showResync
  exact .step .setN .refl
theorem State.Leaves.latchedSafe {s : State} {code : Nat} {lane : Nat} {clk : Nat} : State.Leaves [.od, .log, .links,
    .drives, .cells, .legs, .store, .seqs, .axes, .traction, .lus, .stageIn, .lvCommand, .gbx, .dcl, .aux, .chg,
    .path, .pyr, .safety, .conns] (fun j => noReaction j ∧ (∀ x, x < 15 → j ≠ Od.CELL_SELFTEST_RESULT x) ∧ (∀ x, x <
    16 → j ≠ Od.HSF_CONN_STATE x) ∧ (∀ x, x < 15 → j ≠ Od.OBS_ASC_COUNT x) ∧ j ≠ Od.PYR_PYR_CNT_STATUS ∧ j ≠
    Od.PYR_PYR_STATUS ∧ j ≠ Od.PYR_RESYNC_STATE ∧ (∀ x, x < 6 → j ≠ Od.PYR_TQO_ASSERTIONS x) ∧ j ≠ Od.SFS_DEMANDS ∧ (∀
    x, x < 6 → j ≠ Od.SFS_SF_STATE x)) true s (s.latchedSafe code lane clk) := by
  unfold State.latchedSafe
  exact .ite .refl (.stepR .refreshSf (.step .raiseSafe (.stepR .connsOff (.step .soOff (.stepR .setFlt (.stepR
    .showResync (.stepR .dropSequences (.stepR .setField (.stepR .setPyrBit (.stepR .setPyrBit .refl))))))))))
theorem State.Leaves.cycleHung {s : State} : State.Leaves [.od, .log, .links, .drives, .cells, .legs, .store, .seqs,
    .axes, .traction, .lus, .stageIn, .lvCommand, .gbx, .dcl, .aux, .chg, .path, .pyr, .safety, .conns] (fun j =>
    noReaction j ∧ (∀ x, x < 15 → j ≠ Od.CELL_SELFTEST_RESULT x) ∧ (∀ x, x < 16 → j ≠ Od.HSF_CONN_STATE x) ∧ (∀ x, x <
    15 → j ≠ Od.OBS_ASC_COUNT x) ∧ j ≠ Od.PYR_PYR_CNT_STATUS ∧ j ≠ Od.PYR_PYR_STATUS ∧ j ≠ Od.PYR_RESYNC_STATE ∧ (∀ x,
    x < 6 → j ≠ Od.PYR_TQO_ASSERTIONS x) ∧ j ≠ Od.SFS_DEMANDS ∧ (∀ x, x < 6 → j ≠ Od.SFS_SF_STATE x)) true s
    (s.cycleHung) := by
  unfold State.cycleHung
  exact .ite (.step .latchedSafe (.stepR .setPyrBit .refl)) .refl
theorem ResLeaves.execCycleWatchdogExpiry {dt : Nat} {s : State} : ResLeaves [.od, .tb, .out, .log, .links, .drives,
    .cells, .legs, .store, .seqs, .axes, .traction, .lus, .stageIn, .lvCommand, .gbx, .dcl, .aux, .chg, .path, .pyr,
    .safety, .conns] (fun j => noReaction j ∧ (∀ x, x < 15 → j ≠ Od.CELL_SELFTEST_RESULT x) ∧ (∀ x, x < 16 → j ≠
    Od.HSF_CONN_STATE x) ∧ (∀ x, x < 15 → j ≠ Od.OBS_ASC_COUNT x) ∧ j ≠ Od.PYR_PYR_CNT_STATUS ∧ j ≠ Od.PYR_PYR_STATUS
    ∧ j ≠ Od.PYR_RESYNC_STATE ∧ (∀ x, x < 6 → j ≠ Od.PYR_TQO_ASSERTIONS x) ∧ j ≠ Od.SFS_DEMANDS ∧ (∀ x, x < 6 → j ≠
    Od.SFS_SF_STATE x)) true s (execCycleWatchdogExpiry dt s) := by
  unfold Machine.execCycleWatchdogExpiry
  exact .reply (.step .cycleHung (.step .elapse .refl))
theorem State.Leaves.hsfEchoes {s : State} {k : Fin 16} : State.Leaves [.od, .out, .log, .conns, .chans] (fun j => (∀
    x, x < 4 → j ≠ Od.CAN_CAN_CNT_STATUS x) ∧ (∀ x, x < 4 → j ≠ Od.CAN_SLOT_REFUSALS x) ∧ (∀ x, x < 4 → j ≠
    Od.CAN_STALE_DROPS x) ∧ j ≠ Od.CNT_CNT_OVF_MAP ∧ j ≠ Od.ETH_TX_FRAMES) false s (s.hsfEchoes k) := by
  unfold State.hsfEchoes
  exact .each (fun _ _ _ => (.step .modConn (.step .hsfSend .refl))) (.step .modConn .refl)
theorem State.Leaves.torqueOffLink {s : State} {d : Drive} : State.Leaves [.od, .log, .drives, .cells, .legs, .axes,
    .gbx, .dcl] (fun j => noReaction j ∧ (∀ x, x < 15 → j ≠ Od.CELL_SELFTEST_RESULT x) ∧ (∀ x, x < 15 → j ≠
    Od.OBS_ASC_COUNT x) ∧ j ≠ Od.PYR_PYR_CNT_STATUS ∧ j ≠ Od.PYR_TQO_ASSERTIONS d.num) false s (s.torqueOffLink d) :=
    by
  unfold State.torqueOffLink
  exact .step .removeSupplies (.step .modDrv (.when (fun _ => (.stepR .count .refl)) .refl))
theorem State.Leaves.writePairs {s : State} : State.Leaves [.od, .log, .drives, .cells, .legs, .axes, .gbx, .dcl] (fun
    j => noReaction j ∧ (∀ x, x < 15 → j ≠ Od.CELL_SELFTEST_RESULT x) ∧ (∀ x, x < 15 → j ≠ Od.OBS_ASC_COUNT x) ∧ j ≠
    Od.PYR_PYR_CNT_STATUS ∧ (∀ x, x < 6 → j ≠ Od.PYR_TQO_ASSERTIONS x)) false s (s.writePairs) := by
  unfold State.writePairs
  exact .each (fun _ _ _ => (.ite (.step .modDrv (.step .torqueOffLink (.ite .refl (.step .modDrv .refl)))) (.ite
    .refl (.step .modDrv .refl)))) .refl
theorem State.Leaves.slsHold {s : State} {d : Drive} : State.Leaves [.traction, .safety] (fun _ => True) false s
    (s.slsHold d) := by
  unfold State.slsHold
  exact .ite (.step .modSafe .refl) (.step .modTr (.step .modSafe .refl))
theorem State.Leaves.ss1Start {s : State} {d : Drive} {mode : Nat} {src : Nat} {stop : Rat} {park : Bool} : State.Leaves
    [.od, .log, .links, .drives, .cells, .legs, .store, .seqs, .axes, .traction, .lus, .stageIn, .lvCommand, .gbx,
    .dcl, .aux, .chg, .path, .safety] (fun j => noReaction j ∧ (∀ x, x < 15 → j ≠ Od.CELL_SELFTEST_RESULT x) ∧ (∀ x, x
    < 15 → j ≠ Od.OBS_ASC_COUNT x) ∧ j ≠ Od.PYR_PYR_CNT_STATUS ∧ (∀ x, x < 6 → j ≠ Od.PYR_TQO_ASSERTIONS x)) true s
    (s.ss1Start d mode src stop park) := by
  unfold State.ss1Start
  exact .ite (.step .stoNow .refl) (.ite (.step .modTr (.step .goto (.step .lastEvent (.step .event (.step .modSafe
    .refl))))) (.ite (.step .stopCharge (.step .lastEvent (.step .event (.step .modSafe .refl)))) (by split; exacts
    [(.step .stopDrive (.step .lastEvent (.step .event (.step .modSafe .refl)))), (.step .goto (.step .lastEvent
    (.step .event (.step .modSafe .refl)))), (.step .lastEvent (.step .event (.step .modSafe .refl)))])))
theorem State.Leaves.ss1Demand {s : State} {d : Drive} {src : Nat} : State.Leaves [.od, .log, .links, .drives, .cells,
    .legs, .store, .seqs, .axes, .traction, .lus, .stageIn, .lvCommand, .gbx, .dcl, .aux, .chg, .path, .safety] (fun j
    => noReaction j ∧ (∀ x, x < 15 → j ≠ Od.CELL_SELFTEST_RESULT x) ∧ (∀ x, x < 15 → j ≠ Od.OBS_ASC_COUNT x) ∧ j ≠
    Od.PYR_PYR_CNT_STATUS ∧ (∀ x, x < 6 → j ≠ Od.PYR_TQO_ASSERTIONS x)) true s (s.ss1Demand d src) := by
  unfold State.ss1Demand
  exact .ite .refl (.step .ss1Start .refl)
theorem State.Leaves.slsCheck {s : State} {d : Drive} : State.Leaves [.od, .log, .links, .drives, .cells, .legs,
    .store, .seqs, .axes, .traction, .lus, .stageIn, .lvCommand, .gbx, .dcl, .aux, .chg, .path, .safety] (fun j =>
    noReaction j ∧ (∀ x, x < 15 → j ≠ Od.CELL_SELFTEST_RESULT x) ∧ (∀ x, x < 15 → j ≠ Od.OBS_ASC_COUNT x) ∧ j ≠
    Od.PYR_PYR_CNT_STATUS ∧ (∀ x, x < 6 → j ≠ Od.PYR_TQO_ASSERTIONS x)) true s (s.slsCheck d) := by
  unfold State.slsCheck
  exact by split; exacts [.refl, (.ite .refl (.ite (.step .ss1Demand (.step .modSafe (.step .lastEvent (.step .event
    .refl)))) (.step .stoNow .refl)))]
theorem State.Leaves.ss1Check {s : State} {d : Drive} : State.Leaves [.od, .log, .links, .drives, .cells, .legs,
    .store, .seqs, .axes, .traction, .lus, .stageIn, .lvCommand, .gbx, .dcl, .aux, .chg, .path, .safety] (fun j =>
    noReaction j ∧ (∀ x, x < 15 → j ≠ Od.CELL_SELFTEST_RESULT x) ∧ (∀ x, x < 15 → j ≠ Od.OBS_ASC_COUNT x) ∧ j ≠
    Od.PYR_PYR_CNT_STATUS ∧ (∀ x, x < 6 → j ≠ Od.PYR_TQO_ASSERTIONS x)) true s (s.ss1Check d) := by
  unfold State.ss1Check
  exact by split; exacts [.refl, (.ite .refl (.ite (.step .stoNow .refl) (.ite (.step .ss1End .refl) .refl)))]
theorem State.Leaves.monitor {s : State} {d : Drive} : State.Leaves [.od, .log, .links, .drives, .cells, .legs,
    .store, .seqs, .axes, .traction, .lus, .stageIn, .lvCommand, .gbx, .dcl, .aux, .chg, .path, .safety] (fun j =>
    noReaction j ∧ (∀ x, x < 15 → j ≠ Od.CELL_SELFTEST_RESULT x) ∧ (∀ x, x < 15 → j ≠ Od.OBS_ASC_COUNT x) ∧ j ≠
    Od.PYR_PYR_CNT_STATUS ∧ (∀ x, x < 6 → j ≠ Od.PYR_TQO_ASSERTIONS x)) true s (s.monitor d) := by
  unfold State.monitor
  exact .ite (.step .slsHold (.ite (.step .ss1Check .refl) (.step .slsCheck (.step .ss1Check .refl)))) (.ite (.step
    .ss1Check .refl) (.step .slsCheck (.step .ss1Check .refl)))
theorem State.Leaves.parkStart {s : State} {src : Nat} : State.Leaves [.od, .log, .links, .drives, .cells, .legs,
    .store, .seqs, .axes, .traction, .lus, .stageIn, .lvCommand, .gbx, .dcl, .aux, .chg, .path, .safety] (fun j =>
    noReaction j ∧ (∀ x, x < 15 → j ≠ Od.CELL_SELFTEST_RESULT x) ∧ (∀ x, x < 15 → j ≠ Od.OBS_ASC_COUNT x) ∧ j ≠
    Od.PYR_PYR_CNT_STATUS ∧ (∀ x, x < 6 → j ≠ Od.PYR_TQO_ASSERTIONS x)) true s (s.parkStart src) := by
  unfold State.parkStart
  exact .ite (.step .parkOff (.step .modSafety (.step .lastEvent (.step .event .refl)))) (.each (fun _ _ _ => (.ite
    .refl (by split; exacts [(.step .modSafe .refl), (.step .ss1Start .refl)]))) (.step .modSafety (.step .modSafety
    (.step .lastEvent (.step .event .refl)))))
theorem State.Leaves.parkStep {s : State} : State.Leaves [.od, .log, .links, .drives, .cells, .legs, .store, .seqs,
    .axes, .traction, .lus, .stageIn, .lvCommand, .gbx, .dcl, .aux, .chg, .path, .safety] (fun j => noReaction j ∧ (∀
    x, x < 15 → j ≠ Od.CELL_SELFTEST_RESULT x) ∧ (∀ x, x < 15 → j ≠ Od.OBS_ASC_COUNT x) ∧ j ≠ Od.PYR_PYR_CNT_STATUS ∧
    (∀ x, x < 6 → j ≠ Od.PYR_TQO_ASSERTIONS x)) true s (s.parkStep) := by
  unfold State.parkStep
  exact by dsimp only; split; exacts [(.ite (.step .modSafety (.ite (.step .parkOff (.ite (.step .parkStart .refl) .refl)) (.ite
    (.step .parkStart .refl) .refl))) (.ite (.step .parkOff (.ite (.step .parkStart .refl) .refl)) (.ite (.step
    .parkStart .refl) .refl))), (.ite (.step .parkOff (.ite (.step .parkStart .refl) .refl)) (.ite (.step .parkStart
    .refl) .refl))]
theorem State.Leaves.sltSelect {s : State} {d : Drive} {on : Bool} {src : Nat} : State.Leaves [.safety] (fun _ => True)
    false s (s.sltSelect d on src) := by
  unfold State.sltSelect
  exact .step .modSafe .refl
theorem State.Leaves.slsSelect {s : State} {d : Drive} {dem : Option Nat} {src : Nat} : State.Leaves [.od, .log, .links,
    .drives, .cells, .legs, .store, .seqs, .axes, .traction, .lus, .stageIn, .lvCommand, .gbx, .dcl, .aux, .chg,
    .path, .safety] (fun j => noReaction j ∧ (∀ x, x < 15 → j ≠ Od.CELL_SELFTEST_RESULT x) ∧ (∀ x, x < 15 → j ≠
    Od.OBS_ASC_COUNT x) ∧ j ≠ Od.PYR_PYR_CNT_STATUS ∧ (∀ x, x < 6 → j ≠ Od.PYR_TQO_ASSERTIONS x)) true s (s.slsSelect
    d dem src) := by
  unfold State.slsSelect
  exact by split; exacts [(.step .modSafe .refl), (.ite (.step .stoNow .refl) (by split; exacts [(.step .modSafe
    .refl), (.ite .refl (.step .modSafe .refl))]))]
theorem State.Leaves.evalDrive {s : State} {d : Drive} : State.Leaves [.od, .log, .links, .drives, .cells, .legs,
    .store, .seqs, .axes, .traction, .lus, .stageIn, .lvCommand, .gbx, .dcl, .aux, .chg, .path, .safety] (fun j =>
    noReaction j ∧ (∀ x, x < 15 → j ≠ Od.CELL_SELFTEST_RESULT x) ∧ (∀ x, x < 15 → j ≠ Od.OBS_ASC_COUNT x) ∧ j ≠
    Od.PYR_PYR_CNT_STATUS ∧ (∀ x, x < 6 → j ≠ Od.PYR_TQO_ASSERTIONS x)) true s (s.evalDrive d) := by
  unfold State.evalDrive
  exact .ite (.step .endFunctions .refl) (.ite (.step .stoNow .refl) (.ite (.ite (.step .ss1Demand .refl) .refl) (.ite
    (.step .slsSelect (.ite (.step .ss1Demand .refl) .refl)) (.step .sltSelect (.step .slsSelect (.ite (.step
    .ss1Demand .refl) .refl))))))
theorem State.Leaves.evaluate {s : State} : State.Leaves [.od, .out, .log, .links, .drives, .cells, .legs, .store,
    .seqs, .axes, .traction, .lus, .stageIn, .lvCommand, .gbx, .dcl, .aux, .chg, .path, .safety, .conns, .chans] (fun
    j => noReaction j ∧ (∀ x, x < 4 → j ≠ Od.CAN_CAN_CNT_STATUS x) ∧ (∀ x, x < 4 → j ≠ Od.CAN_SLOT_REFUSALS x) ∧ (∀ x,
    x < 4 → j ≠ Od.CAN_STALE_DROPS x) ∧ (∀ x, x < 15 → j ≠ Od.CELL_SELFTEST_RESULT x) ∧ j ≠ Od.ETH_TX_FRAMES ∧ (∀ x, x
    < 15 → j ≠ Od.OBS_ASC_COUNT x) ∧ j ≠ Od.PYR_PYR_CNT_STATUS ∧ (∀ x, x < 6 → j ≠ Od.PYR_TQO_ASSERTIONS x)) true s
    (s.evaluate) := by
  unfold State.evaluate
  exact .each (fun _ _ _ => (.stepR .hsfEchoes .refl)) (.step .writePairs (.when (fun _ => (.step .staleOff .refl))
    (.each (fun _ _ _ => (.step .monitor .refl)) (.step .parkStep (.each (fun _ _ _ => (.step .evalDrive .refl))
    .refl)))))
theorem State.Leaves.outRead {s : State} {k : Fin 4} {v : Rat} : State.Leaves [.od, .log, .links, .drives, .cells,
    .legs, .store, .seqs, .axes, .traction, .lus, .stageIn, .lvCommand, .gbx, .dcl, .aux, .chg, .path, .safety] (fun j
    => noReaction j ∧ (∀ x, x < 15 → j ≠ Od.CELL_SELFTEST_RESULT x) ∧ (∀ x, x < 15 → j ≠ Od.OBS_ASC_COUNT x) ∧ j ≠
    Od.PYR_PYR_CNT_STATUS ∧ (∀ x, x < 6 → j ≠ Od.PYR_TQO_ASSERTIONS x) ∧ j ≠ Od.SFS_DEMANDS ∧ j ≠ Od.SFS_SF_CNT_STATUS
    ∧ (∀ x, x < 6 → j ≠ Od.SFS_SF_STATE x) ∧ j ≠ Od.SO_SO_FAULTS k ∧ j ≠ Od.SO_SO_STATE k ∧ j ≠ Od.SO_SO_V k) true s
    (s.outRead k v) := by
  unfold State.outRead
  exact .ite (.step .outFault (.step .modOut (.stepR .setQ .refl))) (.step .modOut (.stepR .setQ .refl))
theorem State.Leaves.writeOutputs {s : State} {v : Vector Rat 4} : State.Leaves [.od, .log, .links, .drives, .cells,
    .legs, .store, .seqs, .axes, .traction, .lus, .stageIn, .lvCommand, .gbx, .dcl, .aux, .chg, .path, .safety] (fun j
    => noReaction j ∧ (∀ x, x < 15 → j ≠ Od.CELL_SELFTEST_RESULT x) ∧ (∀ x, x < 15 → j ≠ Od.OBS_ASC_COUNT x) ∧ j ≠
    Od.PYR_PYR_CNT_STATUS ∧ (∀ x, x < 6 → j ≠ Od.PYR_TQO_ASSERTIONS x) ∧ j ≠ Od.SFS_DEMANDS ∧ j ≠ Od.SFS_SF_CNT_STATUS
    ∧ (∀ x, x < 6 → j ≠ Od.SFS_SF_STATE x) ∧ (∀ x, x < 4 → j ≠ Od.SO_SO_FAULTS x) ∧ (∀ x, x < 4 → j ≠ Od.SO_SO_STATE
    x) ∧ (∀ x, x < 4 → j ≠ Od.SO_SO_V x)) true s (s.writeOutputs v) := by
  unfold State.writeOutputs
  exact .each (fun _ _ _ => (.stepR .setOut (.step .outRead .refl))) .refl
theorem State.Leaves.cycleLoad {s : State} {load : Rat} : State.Leaves [.od, .pyr] (fun j => j ≠ Od.PYR_CYCLE_LOAD)
    false s (s.cycleLoad load) := by
  unfold State.cycleLoad
  exact .step .setQ (.step .modPyr .refl)
theorem State.Leaves.cycleEnd {s : State} {load : Rat} : State.Leaves [.od, .pyr] (fun j => j ≠ Od.PYR_CYCLES ∧ j ≠
    Od.PYR_CYCLE_LOAD ∧ j ≠ Od.PYR_PYR_STATUS ∧ j ≠ Od.SFS_DEMANDS ∧ (∀ x, x < 6 → j ≠ Od.SFS_SF_STATE x)) false s
    (s.cycleEnd load) := by
  unfold State.cycleEnd
  exact .step .refreshSf (.step .refreshFlt (.step .modPyr (.step .cycleLoad (.step .countWide .refl))))
theorem State.Leaves.hsfPayload {s : State} {k : Fin 16} {payload : List Byte} : State.Leaves [.conns] (fun _ => True)
    false s (s.hsfPayload k payload).1 := by
  unfold State.hsfPayload
  rw [apply_ite Prod.fst]
  exact .ite .refl (.step .modConn .refl)
theorem State.Leaves.hsfAccept {s : State} {k : Fin 16} {seq : Nat} {ptime : Nat} {gt : Option Nat} : State.Leaves [.od,
    .conns] (fun j => j ≠ Od.HSF_FRAMES_OK k ∧ j ≠ Od.HSF_LAST_AGE_us k ∧ j ≠ Od.HSF_LAST_SEQ k) false s (s.hsfAccept
    k seq ptime gt) := by
  unfold State.hsfAccept
  exact .step .modConn (by split; exacts [(.step .setI (.step .setN (.step .countWide .refl))), (.step .setN (.step
    .countWide .refl))])
theorem State.Leaves.hsfFrame {s : State} {k : Fin 16} {seq : Nat} {ptime : Nat} {payload : List Byte} {gt : Option Nat} :
    State.Leaves [.od, .log, .conns] (fun j => j ≠ Od.CNT_CNT_OVF_MAP ∧ j ≠ Od.HSF_CONN_CNT_STATUS k ∧ j ≠
    Od.HSF_CONN_FAULTS k ∧ j ≠ Od.HSF_CONN_STATE k ∧ j ≠ Od.HSF_FRAMES_OK k ∧ j ≠ Od.HSF_LAST_AGE_us k ∧ j ≠
    Od.HSF_LAST_SEQ k ∧ j ≠ Od.HSF_LOST k ∧ j ≠ Od.HSF_REPEATS k ∧ j ≠ Od.HSF_SEQ_WRAPS k ∧ j ≠ Od.HSF_TIME_ERRORS k)
    false s (s.hsfFrame k seq ptime payload gt).1 := by
  have hrestart : State.Leaves [.od, .conns] (fun j => j ≠ Od.HSF_CONN_STATE k ∧ j ≠ Od.HSF_FRAMES_OK k ∧
      j ≠ Od.HSF_LAST_AGE_us k ∧ j ≠ Od.HSF_LAST_SEQ k) false s
      ((((s.setN (Od.HSF_CONN_STATE k) 1).modConn k fun x => { x with release := none, wrapLogged := false }).hsfAccept k 0
        ptime gt).modConn k fun x => { x with seq0 := true }) :=
    .step .modConn (.step .hsfAccept (.step .modConn (.step .setN .refl)))
  unfold State.hsfFrame
  dsimp only
  split
  · split
    · exact .step .hsfTimeError .refl
    · split
      · exact .step .connEvent (.step hrestart .refl)
      · exact .step hrestart .refl
  · split
    · split
      · exact .step .hsfDiscard .refl
      · split
        · exact .step .hsfTimeError .refl
        · exact .step .hsfPayload (.step .connRun (.step .hsfAccept .refl))
    · split
      · exact .step .hsfDiscard (.step .count .refl)
      · split
        · exact .step .connFault (.step .hsfDiscard .refl)
        · split
          · exact .step .hsfTimeError .refl
          · exact .step .hsfPayload (.ite (.step .hsfWrap (.step .hsfAccept (.when (fun _ => .step .countBy .refl) .refl)))
              (.step .hsfAccept (.when (fun _ => .step .countBy .refl) .refl)))
    · exact .step .hsfDiscard .refl
theorem State.Leaves.hsfLatch {s : State} {k : Fin 16} {rejected : List Nat} : State.Leaves [.od, .log, .conns] (fun j
    => j ≠ Od.CNT_CNT_OVF_MAP ∧ j ≠ Od.HSF_CONN_CNT_STATUS k ∧ j ≠ Od.HSF_CONN_FAULTS k ∧ j ≠ Od.HSF_CONN_STATE k ∧ j
    ≠ Od.HSF_CRC_ERRORS k ∧ j ≠ Od.HSF_FORMAT_ERRORS k ∧ j ≠ Od.HSF_FRAMES_OK k ∧ j ≠ Od.HSF_LAST_AGE_us k ∧ j ≠
    Od.HSF_LAST_SEQ k ∧ j ≠ Od.HSF_LOST k ∧ j ≠ Od.HSF_REPEATS k ∧ j ≠ Od.HSF_SEQ_WRAPS k ∧ j ≠ Od.HSF_TIME_ERRORS k)
    false s (s.hsfLatch k rejected).1 := by
  unfold State.hsfLatch
  refine .foldl Prod.fst (fun e _ a => ?_) (.step .modConn .refl)
  dsimp only
  split
  · exact .step .hsfDiscard .refl
  · split
    · exact .step .hsfMalformed .refl
    · exact .step .hsfCrcError .refl
    · exact .step .hsfFrame .refl
theorem State.Leaves.latchFrames {s : State} {x : CycleInputs} : State.Leaves [.od, .log, .links, .drives, .cells,
    .legs, .store, .seqs, .axes, .traction, .lus, .stageIn, .lvCommand, .gbx, .dcl, .aux, .chg, .path, .pyr, .safety,
    .conns] (fun j => noReaction j ∧ (∀ x, x < 16 → j ≠ Od.HSF_CONN_CNT_STATUS x) ∧ (∀ x, x < 16 → j ≠
    Od.HSF_CONN_FAULTS x) ∧ (∀ x, x < 16 → j ≠ Od.HSF_CONN_STATE x) ∧ (∀ x, x < 16 → j ≠ Od.HSF_CRC_ERRORS x) ∧ (∀ x,
    x < 16 → j ≠ Od.HSF_FORMAT_ERRORS x) ∧ (∀ x, x < 16 → j ≠ Od.HSF_FRAMES_OK x) ∧ (∀ x, x < 16 → j ≠
    Od.HSF_LAST_AGE_us x) ∧ (∀ x, x < 16 → j ≠ Od.HSF_LAST_SEQ x) ∧ (∀ x, x < 16 → j ≠ Od.HSF_LOST x) ∧ (∀ x, x < 16 →
    j ≠ Od.HSF_REPEATS x) ∧ (∀ x, x < 16 → j ≠ Od.HSF_SEQ_WRAPS x) ∧ (∀ x, x < 16 → j ≠ Od.HSF_TIME_ERRORS x) ∧ j ≠
    Od.PYR_PYR_STATUS ∧ j ≠ Od.SFS_DEMANDS ∧ j ≠ Od.SFS_REFUSALS ∧ j ≠ Od.SFS_RELEASES ∧ j ≠ Od.SFS_SF_CNT_STATUS ∧ (∀
    x, x < 6 → j ≠ Od.SFS_SF_STATE x)) true s (s.latchFrames x) := by
  unfold State.latchFrames
  exact .ite (.stepR .release (.foldl Prod.fst (fun _ _ _ => .stepR .hsfLatch .refl) .refl))
    (.foldl Prod.fst (fun _ _ _ => .stepR .hsfLatch .refl) .refl)
theorem State.Leaves.safeEstimate {s : State} {x : Vector SetLatch 4} {t : Fin 2} : State.Leaves [.od, .safety] (fun j
    => j ≠ Od.SFS_E2_SPEED t ∧ j ≠ Od.SFS_SAFE_SPEED t ∧ j ≠ Od.SFS_SAFE_TQ t) false s (s.safeEstimate x t) := by
  unfold State.safeEstimate
  exact .step .modSafe (by split; exacts [(.step .setQ (.step .setQ (.step .setQ .refl))), (.step .setQ (.step .setQ
    .refl))])
theorem State.Leaves.agreeInputs {s : State} {x : CycleInputs} : State.Leaves [.safety] (fun _ => True) false s
    (s.agreeInputs x) := by
  unfold State.agreeInputs
  exact .each (fun _ _ _ => (.step .modPair .refl)) .refl
theorem State.Leaves.abandonHandOver {s : State} : State.Leaves [.od, .log, .pyr] (fun j => j ≠ Od.PYR_PYR_STATUS)
    false s (s.abandonHandOver) := by
  unfold State.abandonHandOver
  exact .step .event (.when (fun _ => (.step .setPyrBit (.step .setPyrBit .refl))) (.step .setPyrBit (.step .modPyr
    .refl)))
theorem State.Leaves.laneEvent {s : State} {code : Nat} {l : Fin 3} {clk : Nat} : State.Leaves [.log] (fun _ => True)
    false s (s.laneEvent code l clk) := by
  unfold State.laneEvent
  exact .step .event .refl
theorem State.Leaves.excludeLane {s : State} {l : Fin 3} {clk : Nat} : State.Leaves [.od, .log, .pyr] (fun j => j ≠
    Od.PYR_LAST_ODD_CORE ∧ j ≠ Od.PYR_PYR_STATUS) false s (s.excludeLane l clk) := by
  unfold State.excludeLane
  exact .step .laneEvent (.step .modPyr (.step .setPyrBit (.step .setN .refl)))
theorem State.Leaves.oddLane {s : State} {l : Fin 3} {clk : Nat} : State.Leaves [.od, .log, .pyr] (fun j => j ≠
    Od.PYR_CONFIG_ACT ∧ j ≠ Od.PYR_LAST_ODD_CORE ∧ j ≠ Od.PYR_PYR_STATUS ∧ j ≠ Od.PYR_RESYNC_STATE) false s (s.oddLane
    l clk) := by
  unfold State.oddLane
  exact .ite (.step .laneEvent (.step .setPyrBit (.step .setN (.step .setPyrBit (.when (fun _ => (.step
    .abandonHandOver .refl)) (.step .excludeLane .refl)))))) (.step .showResync (.step .setPyrBit (.step .setPyrBit
    (.step .modPyr (.step .excludeLane .refl)))))
theorem State.Leaves.tripleDiff {s : State} {odd : Option (Fin 3)} {clk : Nat} : State.Leaves [.od, .log, .links,
    .drives, .cells, .legs, .store, .seqs, .axes, .traction, .lus, .stageIn, .lvCommand, .gbx, .dcl, .aux, .chg,
    .path, .pyr, .safety, .conns] (fun j => noReaction j ∧ (∀ x, x < 15 → j ≠ Od.CELL_SELFTEST_RESULT x) ∧ (∀ x, x <
    16 → j ≠ Od.HSF_CONN_STATE x) ∧ (∀ x, x < 15 → j ≠ Od.OBS_ASC_COUNT x) ∧ j ≠ Od.PYR_CONFIG_ACT ∧ j ≠
    Od.PYR_LAST_ODD_CORE ∧ j ≠ Od.PYR_PYR_CNT_STATUS ∧ j ≠ Od.PYR_PYR_STATUS ∧ j ≠ Od.PYR_RESYNC_STATE ∧ (∀ x, x < 6 →
    j ≠ Od.PYR_TQO_ASSERTIONS x) ∧ j ≠ Od.SFS_DEMANDS ∧ (∀ x, x < 6 → j ≠ Od.SFS_SF_STATE x)) true s (s.tripleDiff odd
    clk) := by
  unfold State.tripleDiff
  exact by split; exacts [(.step .latchedSafe .refl), (.ite (.step .latchedSafe .refl) (.stepR .oddLane .refl))]
theorem State.Leaves.laneDiff {s : State} {odd : Option (Fin 3)} {clk : Nat} : State.Leaves [.od, .log, .links, .drives,
    .cells, .legs, .store, .seqs, .axes, .traction, .lus, .stageIn, .lvCommand, .gbx, .dcl, .aux, .chg, .path, .pyr,
    .safety, .conns] (fun j => noReaction j ∧ (∀ x, x < 15 → j ≠ Od.CELL_SELFTEST_RESULT x) ∧ (∀ x, x < 16 → j ≠
    Od.HSF_CONN_STATE x) ∧ (∀ x, x < 15 → j ≠ Od.OBS_ASC_COUNT x) ∧ j ≠ Od.PYR_CONFIG_ACT ∧ j ≠ Od.PYR_LAST_ODD_CORE ∧
    j ≠ Od.PYR_MISMATCHES ∧ j ≠ Od.PYR_PYR_CNT_STATUS ∧ j ≠ Od.PYR_PYR_STATUS ∧ j ≠ Od.PYR_RESYNC_STATE ∧ (∀ x, x < 6
    → j ≠ Od.PYR_TQO_ASSERTIONS x) ∧ j ≠ Od.SFS_DEMANDS ∧ (∀ x, x < 6 → j ≠ Od.SFS_SF_STATE x)) true s (s.laneDiff odd
    clk) := by
  unfold State.laneDiff
  refine .ite .refl ?_
  dsimp only
  split
  · exact .step .latchedSafe (.stepR .count .refl)
  · exact .ite (.step .modPyr (.stepR .excludeLane (.stepR .count .refl)))
      (.step .tripleDiff (.stepR .abandonHandOver (.stepR .count .refl)))
  · exact .step .tripleDiff (.stepR .abandonHandOver (.stepR .count .refl))
  · exact .step .tripleDiff (.stepR .count .refl)
  · exact .ite (.stepR .abandonHandOver (.stepR .count .refl)) (.step .latchedSafe (.stepR .count .refl))
  · exact .ite (.step .tripleDiff (.stepR .count .refl)) (.step .latchedSafe (.stepR .count .refl))
theorem State.Leaves.laneInputs {s : State} {x : CycleInputs} : State.Leaves [.od, .log, .links, .drives, .cells,
    .legs, .store, .seqs, .axes, .traction, .lus, .stageIn, .lvCommand, .gbx, .dcl, .aux, .chg, .path, .pyr, .safety,
    .conns] (fun j => noReaction j ∧ (∀ x, x < 15 → j ≠ Od.CELL_SELFTEST_RESULT x) ∧ (∀ x, x < 16 → j ≠
    Od.HSF_CONN_STATE x) ∧ (∀ x, x < 15 → j ≠ Od.OBS_ASC_COUNT x) ∧ j ≠ Od.PYR_CONFIG_ACT ∧ j ≠ Od.PYR_LAST_ODD_CORE ∧
    j ≠ Od.PYR_MISMATCHES ∧ j ≠ Od.PYR_PYR_CNT_STATUS ∧ j ≠ Od.PYR_PYR_STATUS ∧ j ≠ Od.PYR_RESYNC_STATE ∧ (∀ x, x < 6
    → j ≠ Od.PYR_TQO_ASSERTIONS x) ∧ j ≠ Od.SFS_DEMANDS ∧ (∀ x, x < 6 → j ≠ Od.SFS_SF_STATE x)) true s (s.laneInputs
    x) := by
  unfold State.laneInputs
  exact .each (fun _ _ _ => (.ite (.step .laneDiff (.step .laneEvent .refl)) (.step .laneEvent .refl))) (.step .modPyr
    .refl)
theorem State.Leaves.latchExchange {s : State} {bad : Bool} : State.Leaves [.od, .pyr, .safety] (fun j => j ≠
    Od.CNT_CNT_OVF_MAP ∧ j ≠ Od.PYR_EXCH_MISSES ∧ j ≠ Od.PYR_PYR_CNT_STATUS ∧ j ≠ Od.PYR_PYR_STATUS) false s
    (s.latchExchange bad) := by
  unfold State.latchExchange
  exact .ite (by split; exacts [.refl, (.ite (.step .count (.step .modPyr .refl)) (.step .modPyr .refl))]) (.each (fun
    _ _ _ => (.step .modSafe .refl)) (.step .setPyrBit (by split; exacts [.refl, (.ite (.step .count (.step .modPyr
    .refl)) (.step .modPyr .refl))])))
theorem State.Leaves.readbackCompare {s : State} {differs : Nat} : State.Leaves [.od, .log, .links, .drives, .cells,
    .legs, .store, .seqs, .axes, .traction, .lus, .stageIn, .lvCommand, .gbx, .dcl, .aux, .chg, .path, .safety] (fun j
    => noReaction j ∧ (∀ x, x < 15 → j ≠ Od.CELL_SELFTEST_RESULT x) ∧ (∀ x, x < 15 → j ≠ Od.OBS_ASC_COUNT x) ∧ j ≠
    Od.PYR_PYR_CNT_STATUS ∧ j ≠ Od.PYR_PYR_STATUS ∧ (∀ x, x < 6 → j ≠ Od.PYR_TQO_ASSERTIONS x) ∧ j ≠ Od.SFS_DEMANDS ∧
    (∀ x, x < 6 → j ≠ Od.SFS_SF_STATE x)) true s (s.readbackCompare differs) := by
  unfold State.readbackCompare
  exact .stepR .setPyrBit (.each (fun _ _ _ => (.ite (.step .modSafe (.step .readbackNote .refl)) (.step
    .readbackFault .refl))) .refl)
theorem State.Leaves.laneBlocked {s : State} {n : Nat} : State.Leaves [.od, .log, .pyr] (fun j => j ≠ Od.CNT_CNT_OVF_MAP
    ∧ j ≠ Od.PYR_P2_BLOCKED ∧ j ≠ Od.PYR_PYR_CNT_STATUS) false s (s.laneBlocked n) := by
  unfold State.laneBlocked
  exact .ite .refl (.ite (.step .countBy .refl) (.step .event (.step .modPyr (.step .countBy .refl))))
theorem State.Leaves.boundaryLane {s : State} : State.Leaves [.od, .log, .pyr] (fun j => j ≠ Od.CNT_CNT_OVF_MAP ∧ j ≠
    Od.PYR_PYR_CNT_STATUS ∧ j ≠ Od.PYR_PYR_STATUS ∧ (∀ x, x < 3 → j ≠ Od.PYR_RESYNCS x) ∧ j ≠ Od.PYR_RESYNC_STATE)
    false s (s.boundaryLane) := by
  unfold State.boundaryLane
  exact by split; exacts [(.step .showResync (.step .modPyr .refl)), (.step .laneEvent (.step .showResync (.step
    .count (.step .setPyrBit (.step .setPyrBit (.step .modPyr .refl)))))), .refl]
theorem State.Leaves.handOverDone {s : State} {c : Nat} : State.Leaves [.od, .log, .pyr] (fun j => j ≠
    Od.CNT_CNT_OVF_MAP ∧ j ≠ Od.PYR_CONFIG_ACT ∧ j ≠ Od.PYR_HANDOVERS ∧ j ≠ Od.PYR_PYR_CNT_STATUS ∧ j ≠
    Od.PYR_PYR_STATUS) false s (s.handOverDone c) := by
  unfold State.handOverDone
  exact .step .event (.step .count (.step .setN (.step .setPyrBit (.step .setPyrBit (.step .modPyr .refl)))))
theorem State.Leaves.boundaryHandOver {s : State} : State.Leaves [.od, .log, .pyr] (fun j => j ≠ Od.CNT_CNT_OVF_MAP ∧
    j ≠ Od.PYR_CONFIG_ACT ∧ j ≠ Od.PYR_HANDOVERS ∧ j ≠ Od.PYR_PYR_CNT_STATUS ∧ j ≠ Od.PYR_PYR_STATUS) false s
    (s.boundaryHandOver) := by
  unfold State.boundaryHandOver
  exact by split; exacts [(.step .modPyr .refl), (.step .setPyrBit (.step .modPyr .refl)), (.step .setPyrBit (.step
    .handOverDone .refl)), (.step .modPyr .refl), (.step .setPyrBit (.step .modPyr .refl)), (.step .handOverDone
    .refl), .refl]
theorem State.Leaves.connsStart {s : State} : State.Leaves [.od, .conns] (fun j => (∀ x, x < 16 → j ≠
    Od.HSF_CONN_STATE x)) false s (s.connsStart) := by
  unfold State.connsStart
  exact .each (fun _ _ _ => (.ite (.step .connStart .refl) .refl)) .refl
theorem State.Leaves.takeSet {s : State} {l : List (Nat × Val)} : State.Leaves [.od] (fun j => safeKey j = false) false
    s (s.takeSet l) := by
  unfold State.takeSet
  exact .each (fun _ _ _ => .iteOf (fun hsafe => .step .set .refl fun _ hj he => by simp [he, hsafe] at hj) fun _ => .refl) .refl
theorem State.Leaves.installSet {s : State} {l : List (Nat × Val)} : State.Leaves [.od, .safety] (fun j => safeKey j =
    false) false s (s.installSet l) := by
  unfold State.installSet
  exact .step .modSafety (.step .takeSet .refl)
theorem State.Leaves.activateSet {s : State} {l : List (Nat × Val)} : State.Leaves [.od, .log, .links, .drives, .cells,
    .legs, .store, .seqs, .axes, .traction, .lus, .stageIn, .lvCommand, .gbx, .dcl, .aux, .chg, .path, .safety,
    .conns] (fun j => noReaction j ∧ safeKey j = false ∧ (∀ x, x < 15 → j ≠ Od.CELL_SELFTEST_RESULT x) ∧ (∀ x, x < 16
    → j ≠ Od.HSF_CONN_STATE x) ∧ (∀ x, x < 15 → j ≠ Od.OBS_ASC_COUNT x) ∧ j ≠ Od.PYR_PYR_CNT_STATUS ∧ j ≠
    Od.PYR_RESYNC_WINDOW_ms ∧ (∀ x, x < 6 → j ≠ Od.PYR_TQO_ASSERTIONS x)) true s (s.activateSet l) := by
  unfold State.activateSet
  exact .stepR .connsStart (.stepR .connsOff (.step .event (.each (fun _ _ _ => (.ite .refl (.step .torqueOff .refl)))
    (.stepR .setN (.step .modSafety (.stepR .installSet .refl))))))
theorem State.Leaves.boundarySet {s : State} : State.Leaves [.od, .log, .links, .drives, .cells, .legs, .store, .seqs,
    .axes, .traction, .lus, .stageIn, .lvCommand, .gbx, .dcl, .aux, .chg, .path, .safety, .conns] (fun j => noReaction
    j ∧ safeKey j = false ∧ (∀ x, x < 15 → j ≠ Od.CELL_SELFTEST_RESULT x) ∧ (∀ x, x < 16 → j ≠ Od.HSF_CONN_STATE x) ∧
    (∀ x, x < 15 → j ≠ Od.OBS_ASC_COUNT x) ∧ j ≠ Od.PYR_PYR_CNT_STATUS ∧ j ≠ Od.PYR_RESYNC_WINDOW_ms ∧ (∀ x, x < 6 → j
    ≠ Od.PYR_TQO_ASSERTIONS x)) true s (s.boundarySet) := by
  unfold State.boundarySet
  exact by split; exacts [(.ite (.step .activateSet .refl) (.step .modSafety .refl)), .refl]
theorem State.Leaves.safetyCycle {s : State} {x : CycleInputs} : State.Leaves [.od, .out, .log, .links, .drives,
    .cells, .legs, .store, .seqs, .axes, .traction, .lus, .stageIn, .lvCommand, .gbx, .dcl, .aux, .chg, .path, .pyr,
    .safety, .conns, .chans] (fun j => noReaction j ∧ safeKey j = false ∧ (∀ x, x < 4 → j ≠ Od.CAN_CAN_CNT_STATUS x) ∧
    (∀ x, x < 4 → j ≠ Od.CAN_SLOT_REFUSALS x) ∧ (∀ x, x < 4 → j ≠ Od.CAN_STALE_DROPS x) ∧ (∀ x, x < 15 → j ≠
    Od.CELL_SELFTEST_RESULT x) ∧ j ≠ Od.ETH_TX_FRAMES ∧ (∀ x, x < 16 → j ≠ Od.HSF_CONN_CNT_STATUS x) ∧ (∀ x, x < 16 →
    j ≠ Od.HSF_CONN_FAULTS x) ∧ (∀ x, x < 16 → j ≠ Od.HSF_CONN_STATE x) ∧ (∀ x, x < 16 → j ≠ Od.HSF_CRC_ERRORS x) ∧ (∀
    x, x < 16 → j ≠ Od.HSF_FORMAT_ERRORS x) ∧ (∀ x, x < 16 → j ≠ Od.HSF_FRAMES_OK x) ∧ (∀ x, x < 16 → j ≠
    Od.HSF_LAST_AGE_us x) ∧ (∀ x, x < 16 → j ≠ Od.HSF_LAST_SEQ x) ∧ (∀ x, x < 16 → j ≠ Od.HSF_LOST x) ∧ (∀ x, x < 16 →
    j ≠ Od.HSF_REPEATS x) ∧ (∀ x, x < 16 → j ≠ Od.HSF_SEQ_WRAPS x) ∧ (∀ x, x < 16 → j ≠ Od.HSF_TIME_ERRORS x) ∧ (∀ x,
    x < 15 → j ≠ Od.OBS_ASC_COUNT x) ∧ (∀ x, x < 4 → j ≠ Od.PAIR_PAIR_STATE x) ∧ j ≠ Od.PYR_CONFIG_ACT ∧ j ≠
    Od.PYR_CYCLES ∧ j ≠ Od.PYR_CYCLE_LOAD ∧ j ≠ Od.PYR_EXCH_MISSES ∧ j ≠ Od.PYR_HANDOVERS ∧ j ≠ Od.PYR_LAST_ODD_CORE ∧
    j ≠ Od.PYR_MISMATCHES ∧ j ≠ Od.PYR_P2_BLOCKED ∧ j ≠ Od.PYR_PYR_CNT_STATUS ∧ j ≠ Od.PYR_PYR_STATUS ∧ (∀ x, x < 3 →
    j ≠ Od.PYR_RESYNCS x) ∧ j ≠ Od.PYR_RESYNC_STATE ∧ j ≠ Od.PYR_RESYNC_WINDOW_ms ∧ (∀ x, x < 6 → j ≠
    Od.PYR_TQO_ASSERTIONS x) ∧ j ≠ Od.SFS_DEMANDS ∧ (∀ x, x < 2 → j ≠ Od.SFS_E2_SPEED x) ∧ j ≠ Od.SFS_REFUSALS ∧ j ≠
    Od.SFS_RELEASES ∧ (∀ x, x < 2 → j ≠ Od.SFS_SAFE_SPEED x) ∧ (∀ x, x < 2 → j ≠ Od.SFS_SAFE_TQ x) ∧ j ≠
    Od.SFS_SF_CNT_STATUS ∧ (∀ x, x < 6 → j ≠ Od.SFS_SF_STATE x) ∧ j ≠ Od.SFS_SI_LEVELS ∧ (∀ x, x < 4 → j ≠
    Od.SO_SO_FAULTS x) ∧ (∀ x, x < 4 → j ≠ Od.SO_SO_STATE x) ∧ (∀ x, x < 4 → j ≠ Od.SO_SO_V x)) true s (s.safetyCycle
    x) := by
  unfold State.safetyCycle
  exact .ite .refl (.ite (.step .laneInputs (.step .agreeInputs (.stepR .laneBlocked (.step .readbackCompare (.stepR
    .latchExchange (.step .boundarySet (.stepR .boundaryHandOver (.stepR .boundaryLane .refl)))))))) (.stepR .cycleEnd
    (.step .writeOutputs (.step .evaluate (.step .latchFrames (.each (fun _ _ _ => (.stepR .pairLevels .refl)) (.each
    (fun _ _ _ => (.step .acceptInput .refl)) (.each (fun _ _ _ => (.stepR .safeEstimate .refl)) (.step .laneInputs
    (.step .agreeInputs (.stepR .laneBlocked (.step .readbackCompare (.stepR .latchExchange (.step .boundarySet
    (.stepR .boundaryHandOver (.stepR .boundaryLane .refl))))))))))))))))
theorem ResLeaves.execSafetyCycle {dt : Nat} {x : CycleInputs} {s : State} : ResLeaves [.od, .tb, .out, .log, .links,
    .drives, .cells, .legs, .store, .seqs, .axes, .traction, .lus, .stageIn, .lvCommand, .gbx, .dcl, .aux, .chg,
    .path, .pyr, .safety, .conns, .chans] (fun j => noReaction j ∧ safeKey j = false ∧ (∀ x, x < 4 → j ≠
    Od.CAN_CAN_CNT_STATUS x) ∧ (∀ x, x < 4 → j ≠ Od.CAN_SLOT_REFUSALS x) ∧ (∀ x, x < 4 → j ≠ Od.CAN_STALE_DROPS x) ∧
    (∀ x, x < 15 → j ≠ Od.CELL_SELFTEST_RESULT x) ∧ j ≠ Od.ETH_TX_FRAMES ∧ (∀ x, x < 16 → j ≠ Od.HSF_CONN_CNT_STATUS
    x) ∧ (∀ x, x < 16 → j ≠ Od.HSF_CONN_FAULTS x) ∧ (∀ x, x < 16 → j ≠ Od.HSF_CONN_STATE x) ∧ (∀ x, x < 16 → j ≠
    Od.HSF_CRC_ERRORS x) ∧ (∀ x, x < 16 → j ≠ Od.HSF_FORMAT_ERRORS x) ∧ (∀ x, x < 16 → j ≠ Od.HSF_FRAMES_OK x) ∧ (∀ x,
    x < 16 → j ≠ Od.HSF_LAST_AGE_us x) ∧ (∀ x, x < 16 → j ≠ Od.HSF_LAST_SEQ x) ∧ (∀ x, x < 16 → j ≠ Od.HSF_LOST x) ∧
    (∀ x, x < 16 → j ≠ Od.HSF_REPEATS x) ∧ (∀ x, x < 16 → j ≠ Od.HSF_SEQ_WRAPS x) ∧ (∀ x, x < 16 → j ≠
    Od.HSF_TIME_ERRORS x) ∧ (∀ x, x < 15 → j ≠ Od.OBS_ASC_COUNT x) ∧ (∀ x, x < 4 → j ≠ Od.PAIR_PAIR_STATE x) ∧ j ≠
    Od.PYR_CONFIG_ACT ∧ j ≠ Od.PYR_CYCLES ∧ j ≠ Od.PYR_CYCLE_LOAD ∧ j ≠ Od.PYR_EXCH_MISSES ∧ j ≠ Od.PYR_HANDOVERS ∧ j
    ≠ Od.PYR_LAST_ODD_CORE ∧ j ≠ Od.PYR_MISMATCHES ∧ j ≠ Od.PYR_P2_BLOCKED ∧ j ≠ Od.PYR_PYR_CNT_STATUS ∧ j ≠
    Od.PYR_PYR_STATUS ∧ (∀ x, x < 3 → j ≠ Od.PYR_RESYNCS x) ∧ j ≠ Od.PYR_RESYNC_STATE ∧ j ≠ Od.PYR_RESYNC_WINDOW_ms ∧
    (∀ x, x < 6 → j ≠ Od.PYR_TQO_ASSERTIONS x) ∧ j ≠ Od.SFS_DEMANDS ∧ (∀ x, x < 2 → j ≠ Od.SFS_E2_SPEED x) ∧ j ≠
    Od.SFS_REFUSALS ∧ j ≠ Od.SFS_RELEASES ∧ (∀ x, x < 2 → j ≠ Od.SFS_SAFE_SPEED x) ∧ (∀ x, x < 2 → j ≠ Od.SFS_SAFE_TQ
    x) ∧ j ≠ Od.SFS_SF_CNT_STATUS ∧ (∀ x, x < 6 → j ≠ Od.SFS_SF_STATE x) ∧ j ≠ Od.SFS_SI_LEVELS ∧ (∀ x, x < 4 → j ≠
    Od.SO_SO_FAULTS x) ∧ (∀ x, x < 4 → j ≠ Od.SO_SO_STATE x) ∧ (∀ x, x < 4 → j ≠ Od.SO_SO_V x)) true s
    (execSafetyCycle dt x s) := by
  unfold Machine.execSafetyCycle
  exact .reply (.step .safetyCycle (.step .elapse .refl))
theorem State.Leaves.windowClose {s : State} : State.Leaves [.od, .pyr] (fun j => j ≠ Od.PYR_PYR_STATUS ∧ j ≠
    Od.PYR_RESYNC_STATE) false s (s.windowClose) := by
  unfold State.windowClose
  exact by split; exacts [(.ite (.step .showResync (.step .setPyrBit (.step .modPyr .refl))) .refl), .refl]
theorem ResLeaves.execResyncWindowClose {dt : Nat} {s : State} : ResLeaves [.od, .tb, .out, .log, .pyr] (fun j => j ≠
    Od.PYR_PYR_STATUS ∧ j ≠ Od.PYR_RESYNC_STATE) false s (execResyncWindowClose dt s) := by
  unfold Machine.execResyncWindowClose
  exact .reply (.step .windowClose (.step .elapse .refl))
theorem State.Leaves.copyDone {s : State} : State.Leaves [.pyr] (fun _ => True) false s (s.copyDone) := by
  unfold State.copyDone
  exact .ite .refl (.ite (.step .modPyr (by split; exacts [(.step .modPyr .refl), .refl])) (by split; exacts [(.step
    .modPyr .refl), .refl]))
theorem ResLeaves.execResyncCopyComplete {dt : Nat} {s : State} : ResLeaves [.tb, .out, .log, .pyr] (fun _ => True)
    false s (execResyncCopyComplete dt s) := by
  unfold Machine.execResyncCopyComplete
  exact .reply (.step .copyDone (.step .elapse .refl))
theorem ResLeaves.execLaneDifference {dt : Nat} {odd : Option (Fin 3)} {clk : Nat} {s : State} : ResLeaves [.od, .tb,
    .out, .log, .links, .drives, .cells, .legs, .store, .seqs, .axes, .traction, .lus, .stageIn, .lvCommand, .gbx,
    .dcl, .aux, .chg, .path, .pyr, .safety, .conns] (fun j => noReaction j ∧ (∀ x, x < 15 → j ≠
    Od.CELL_SELFTEST_RESULT x) ∧ (∀ x, x < 16 → j ≠ Od.HSF_CONN_STATE x) ∧ (∀ x, x < 15 → j ≠ Od.OBS_ASC_COUNT x) ∧ j
    ≠ Od.PYR_CONFIG_ACT ∧ j ≠ Od.PYR_LAST_ODD_CORE ∧ j ≠ Od.PYR_MISMATCHES ∧ j ≠ Od.PYR_PYR_CNT_STATUS ∧ j ≠
    Od.PYR_PYR_STATUS ∧ j ≠ Od.PYR_RESYNC_STATE ∧ (∀ x, x < 6 → j ≠ Od.PYR_TQO_ASSERTIONS x) ∧ j ≠ Od.SFS_DEMANDS ∧ (∀
    x, x < 6 → j ≠ Od.SFS_SF_STATE x)) true s (execLaneDifference dt odd clk s) := by
  unfold Machine.execLaneDifference
  exact .reply (.step .laneDiff (.step .elapse .refl))
theorem State.Leaves.enterConfig {s : State} {c : Nat} : State.Leaves [.od, .pyr, .conns] (fun j => (∀ x, x < 16 → j ≠
    Od.HSF_CONN_STATE x) ∧ j ≠ Od.PYR_CONFIG_ACT ∧ j ≠ Od.PYR_PYR_STATUS) false s (s.enterConfig c) := by
  unfold State.enterConfig
  exact .step .refreshFlt (.step .connsStart (.step .modPyr (.step .setPyrBit (.step .setPyrBit (.step .setField
    (.step .setN .refl))))))
theorem State.Leaves.startupTests {s : State} {failed : Nat} : State.Leaves [.od, .log, .bringup, .links, .drives,
    .cells, .legs, .store, .seqs, .axes, .traction, .lus, .stageIn, .lvCommand, .gbx, .dcl, .aux, .chg, .path, .pyr,
    .conns] (fun j => noReaction j ∧ (∀ x, x < 15 → j ≠ Od.CELL_SELFTEST_RESULT x) ∧ (∀ x, x < 16 → j ≠
    Od.HSF_CONN_STATE x) ∧ (∀ x, x < 15 → j ≠ Od.OBS_ASC_COUNT x) ∧ j ≠ Od.PYR_CONFIG_ACT ∧ j ≠ Od.PYR_PYR_CNT_STATUS
    ∧ j ≠ Od.PYR_PYR_STATUS ∧ j ≠ Od.PYR_STARTUP_RESULT ∧ (∀ x, x < 6 → j ≠ Od.PYR_TQO_ASSERTIONS x)) true s
    (s.startupTests failed) := by
  unfold State.startupTests
  exact .ite (.stepR .enterConfig (.step .event (.stepR .setPyrBit (.step .with_bringup (.stepR .setPyrBit (.step
    .modPyr (.stepR .setN .refl))))))) (.step .raiseSafe (.stepR .refreshFlt (.stepR .setPyrBit (.step .with_bringup
    (.stepR .setPyrBit (.step .modPyr (.stepR .setN .refl)))))))
theorem ResLeaves.execPyreriStartupTestsComplete {dt : Nat} {failed : BitVec 10} {s : State} : ResLeaves [.od, .tb,
    .out, .log, .bringup, .links, .drives, .cells, .legs, .store, .seqs, .axes, .traction, .lus, .stageIn, .lvCommand,
    .gbx, .dcl, .aux, .chg, .path, .pyr, .conns] (fun j => noReaction j ∧ (∀ x, x < 15 → j ≠ Od.CELL_SELFTEST_RESULT
    x) ∧ (∀ x, x < 16 → j ≠ Od.HSF_CONN_STATE x) ∧ (∀ x, x < 15 → j ≠ Od.OBS_ASC_COUNT x) ∧ j ≠ Od.PYR_CONFIG_ACT ∧ j
    ≠ Od.PYR_PYR_CNT_STATUS ∧ j ≠ Od.PYR_PYR_STATUS ∧ j ≠ Od.PYR_STARTUP_RESULT ∧ (∀ x, x < 6 → j ≠
    Od.PYR_TQO_ASSERTIONS x)) true s (execPyreriStartupTestsComplete dt failed s) := by
  unfold Machine.execPyreriStartupTestsComplete
  exact .reply (.ite (.step .startupTests (.step .elapse .refl)) (.step .elapse .refl))
theorem State.Leaves.coolantLow {s : State} : State.Leaves [.od, .log] (fun j => j ≠ Od.THM_TH_STATUS) false s
    (s.coolantLow) := by
  unfold State.coolantLow
  exact .ite (.step .event (.step .setBit .refl)) .refl
theorem ResLeaves.execCoolantFlowLow {dt : Nat} {s : State} : ResLeaves [.od, .tb, .out, .log] (fun j => j ≠
    Od.THM_TH_STATUS) false s (execCoolantFlowLow dt s) := by
  unfold Machine.execCoolantFlowLow
  exact .reply (.step .coolantLow (.step .elapse .refl))
theorem State.Leaves.setBand {s : State} {c : Cell} {b : Nat} : State.Leaves [.od, .log] (fun j => j ≠ Od.CELL_CELL_BAND
    c) false s (s.setBand c b) := by
  unfold State.setBand
  exact .ite .refl (.step .event (.step .setN .refl))
theorem State.Leaves.estBroken {s : State} {c : Cell} {quiet : Bool} : State.Leaves [.od, .log, .links, .drives,
    .cells, .legs, .store, .seqs, .axes, .traction, .lus, .stageIn, .lvCommand, .gbx, .dcl, .aux, .chg, .path,
    .thermal] (fun j => noReaction j ∧ j ≠ Od.CELL_CELL_BAND c ∧ (∀ x, x < 15 → j ≠ Od.OBS_ASC_COUNT x) ∧ j ≠
    Od.THM_TH_CNT_STATUS ∧ j ≠ Od.THM_TH_SHUTDOWNS) true s (s.estBroken c quiet) := by
  unfold State.estBroken
  exact .ite (.stepR .setBand (.step .modEst .refl)) (.step .modEst (.step .raise (.stepR .count (.step .modEst
    (.stepR .setBand (.step .modEst .refl))))))
theorem State.Leaves.thermalFollow {s : State} : State.Leaves [.od] (fun j => j ≠ Od.THM_BROKEN_NOW ∧ (∀ x, x < 6 → j
    ≠ Od.THM_DERATE x) ∧ j ≠ Od.THM_TH_STATUS) false s (s.thermalFollow) := by
  unfold State.thermalFollow
  exact .step .thermalSummary (.each (fun _ _ _ => (.step .setQ .refl)) .refl)
theorem State.Leaves.sensorShut {s : State} {n : Fin 64} {code : Nat} {t : Int} : State.Leaves [.od, .log, .links,
    .drives, .cells, .legs, .store, .seqs, .axes, .traction, .lus, .stageIn, .lvCommand, .gbx, .dcl, .aux, .chg,
    .path, .thermal] (fun j => noReaction j ∧ (∀ x, x < 15 → j ≠ Od.OBS_ASC_COUNT x) ∧ (∀ x, x < 64 → j ≠
    Od.SEN_BROKEN_EVENTS x) ∧ (∀ x, x < 64 → j ≠ Od.SEN_SENSOR_STATUS x) ∧ (∀ x, x < 64 → j ≠ Od.SEN_SHUTDOWNS x) ∧ j
    ≠ Od.THM_TH_CNT_STATUS ∧ j ≠ Od.THM_TH_SHUTDOWNS) true s (s.sensorShut n code t) := by
  have hcount (u : State) (b : Prop) [Decidable b] : State.Leaves [.od] (fun j => j ≠ Od.CNT_CNT_OVF_MAP ∧
      j ≠ Od.SEN_BROKEN_EVENTS n ∧ j ≠ Od.SEN_SENSOR_STATUS n ∧ j ≠ Od.SEN_SHUTDOWNS n) false u
      (u.count (if b then ctrBroken n else ctrShutdowns n)) := by
    split
    · exact .step .count .refl
    · exact .step .count .refl
  unfold State.sensorShut
  exact .step .modSensor (.step .raise (.stepR (hcount _ _) (.stepR .count (.stepR .setBit .refl))))
theorem State.Leaves.sensorBroken {s : State} {n : Fin 64} {quiet : Bool} : State.Leaves [.od, .log, .links, .drives,
    .cells, .legs, .store, .seqs, .axes, .traction, .lus, .stageIn, .lvCommand, .gbx, .dcl, .aux, .chg, .path,
    .thermal] (fun j => noReaction j ∧ (∀ x, x < 15 → j ≠ Od.OBS_ASC_COUNT x) ∧ (∀ x, x < 64 → j ≠
    Od.SEN_BROKEN_EVENTS x) ∧ j ≠ Od.SEN_K_FACTOR n ∧ (∀ x, x < 64 → j ≠ Od.SEN_SENSOR_STATUS x) ∧ (∀ x, x < 64 → j ≠
    Od.SEN_SHUTDOWNS x) ∧ j ≠ Od.SEN_TEMP n ∧ j ≠ Od.THM_TH_CNT_STATUS ∧ j ≠ Od.THM_TH_SHUTDOWNS) true s
    (s.sensorBroken n quiet) := by
  unfold State.sensorBroken
  exact .ite (.stepR .setQ (.stepR .setI (.stepR .setBit (.stepR .setBit .refl)))) (.ite (.step .event (.stepR .count
    (.stepR .setQ (.stepR .setI (.stepR .setBit (.stepR .setBit .refl)))))) (.step .sensorShut (.stepR .setQ (.stepR
    .setI (.stepR .setBit (.stepR .setBit .refl))))))
theorem State.Leaves.ageSensors {s : State} : State.Leaves [.od, .log, .links, .drives, .cells, .legs, .store, .seqs,
    .axes, .traction, .lus, .stageIn, .lvCommand, .gbx, .dcl, .aux, .chg, .path, .thermal] (fun j => noReaction j ∧ (∀
    x, x < 15 → j ≠ Od.CELL_CELL_BAND x) ∧ (∀ x, x < 15 → j ≠ Od.OBS_ASC_COUNT x) ∧ (∀ x, x < 64 → j ≠
    Od.SEN_BROKEN_EVENTS x) ∧ (∀ x, x < 64 → j ≠ Od.SEN_K_FACTOR x) ∧ (∀ x, x < 64 → j ≠ Od.SEN_SENSOR_STATUS x) ∧ (∀
    x, x < 64 → j ≠ Od.SEN_SHUTDOWNS x) ∧ (∀ x, x < 64 → j ≠ Od.SEN_TEMP x) ∧ j ≠ Od.THM_BROKEN_NOW ∧ (∀ x, x < 6 → j
    ≠ Od.THM_DERATE x) ∧ j ≠ Od.THM_TH_CNT_STATUS ∧ j ≠ Od.THM_TH_SHUTDOWNS ∧ j ≠ Od.THM_TH_STATUS) true s
    (s.ageSensors) := by
  unfold State.ageSensors
  exact .stepR .thermalFollow (.each (fun _ _ _ => (.ite (.step .estBroken .refl) .refl)) (.each (fun _ _ _ => (.ite
    .refl (by split; exacts [(.ite (.step .sensorBroken .refl) .refl), .refl]))) .refl))
theorem State.Leaves.fenLate {s : State} : State.Leaves [.od, .log, .links, .drives, .cells, .legs, .store, .seqs,
    .axes, .traction, .lus, .stageIn, .lvCommand, .gbx, .dcl, .aux, .chg, .path, .thermal] (fun j => noReaction j ∧ (∀
    x, x < 15 → j ≠ Od.CELL_CELL_BAND x) ∧ (∀ x, x < 15 → j ≠ Od.OBS_ASC_COUNT x) ∧ (∀ x, x < 64 → j ≠
    Od.SEN_BROKEN_EVENTS x) ∧ (∀ x, x < 64 → j ≠ Od.SEN_K_FACTOR x) ∧ (∀ x, x < 64 → j ≠ Od.SEN_SENSOR_STATUS x) ∧ (∀
    x, x < 64 → j ≠ Od.SEN_SHUTDOWNS x) ∧ (∀ x, x < 64 → j ≠ Od.SEN_TEMP x) ∧ j ≠ Od.THM_BROKEN_NOW ∧ (∀ x, x < 6 → j
    ≠ Od.THM_DERATE x) ∧ j ≠ Od.THM_ROUND_OVERRUNS ∧ j ≠ Od.THM_TH_CNT_STATUS ∧ j ≠ Od.THM_TH_SHUTDOWNS ∧ j ≠
    Od.THM_TH_STATUS) true s (s.fenLate) := by
  unfold State.fenLate
  exact by split; exacts [(.ite (.ite (.step .ageSensors (.step .modThermal (.stepR .count (.stepR .setBit .refl))))
    (.step .modThermal (.step .event (.step .ageSensors (.step .modThermal (.stepR .count (.stepR .setBit .refl)))))))
    .refl), .refl]
theorem ResLeaves.execFenRoundLate {dt : Nat} {s : State} : ResLeaves [.od, .tb, .out, .log, .links, .drives, .cells,
    .legs, .store, .seqs, .axes, .traction, .lus, .stageIn, .lvCommand, .gbx, .dcl, .aux, .chg, .path, .thermal] (fun
    j => noReaction j ∧ (∀ x, x < 15 → j ≠ Od.CELL_CELL_BAND x) ∧ (∀ x, x < 15 → j ≠ Od.OBS_ASC_COUNT x) ∧ (∀ x, x <
    64 → j ≠ Od.SEN_BROKEN_EVENTS x) ∧ (∀ x, x < 64 → j ≠ Od.SEN_K_FACTOR x) ∧ (∀ x, x < 64 → j ≠ Od.SEN_SENSOR_STATUS
    x) ∧ (∀ x, x < 64 → j ≠ Od.SEN_SHUTDOWNS x) ∧ (∀ x, x < 64 → j ≠ Od.SEN_TEMP x) ∧ j ≠ Od.THM_BROKEN_NOW ∧ (∀ x, x
    < 6 → j ≠ Od.THM_DERATE x) ∧ j ≠ Od.THM_ROUND_OVERRUNS ∧ j ≠ Od.THM_TH_CNT_STATUS ∧ j ≠ Od.THM_TH_SHUTDOWNS ∧ j ≠
    Od.THM_TH_STATUS) true s (execFenRoundLate dt s) := by
  unfold Machine.execFenRoundLate
  exact .reply (.step .fenLate (.step .elapse .refl))
theorem State.Leaves.fenTrigger {s : State} : State.Leaves [.od, .log, .seqs, .thermal] (fun j => j ≠
    Od.CNT_CNT_OVF_MAP ∧ (∀ x, x < 4 → j ≠ Od.GC_GC_STATUS x) ∧ (∀ x, x < 4 → j ≠ Od.GC_SUSPENDS x) ∧ (∀ x, x < 8 → j
    ≠ Od.SQ_SQ_STATUS x) ∧ (∀ x, x < 8 → j ≠ Od.SQ_TRIG_OVERRUNS x)) false s (s.fenTrigger) := by
  unfold State.fenTrigger
  exact .ite (.each (fun _ _ _ => (.ite (.step .seqTrigger (.step .modSeq .refl)) .refl)) (.step .modThermal .refl))
    .refl
theorem ResLeaves.execFenRoundTrigger {dt : Nat} {s : State} : ResLeaves [.od, .tb, .out, .log, .seqs, .thermal] (fun j
    => j ≠ Od.CNT_CNT_OVF_MAP ∧ (∀ x, x < 4 → j ≠ Od.GC_GC_STATUS x) ∧ (∀ x, x < 4 → j ≠ Od.GC_SUSPENDS x) ∧ (∀ x, x <
    8 → j ≠ Od.SQ_SQ_STATUS x) ∧ (∀ x, x < 8 → j ≠ Od.SQ_TRIG_OVERRUNS x)) false s (execFenRoundTrigger dt s) := by
  unfold Machine.execFenRoundTrigger
  exact .reply (.step .fenTrigger (.step .elapse .refl))
theorem ResLeaves.execAttnClearWrite {dt : Nat} {who : Requester} {value : BitVec 8} {s : State} : ResLeaves [.od, .tb,
    .out, .log, .sessions] (fun j => noAccess j ∧ j ≠ Od.LV_ATTN_CODE ∧ j ≠ Od.LV_LV_STATUS) false s
    (execAttnClearWrite dt who value s) := by
  unfold Machine.execAttnClearWrite
  exact .reply (.step .writeAttnClear (.step .elapse .refl))
theorem State.Leaves.followSource {s : State} : State.Leaves [.od, .log] (fun j => j ≠ Od.CNT_CNT_OVF_MAP ∧ j ≠
    Od.SUP_ACTIVE_SOURCE ∧ j ≠ Od.SUP_SOURCE_CHANGES ∧ j ≠ Od.SUP_SUPPLY_STATUS) false s (s.followSource) := by
  unfold State.followSource
  exact .ite .refl (.ite (.step .setN .refl) (.step .event (.step .count (.step .setN .refl))))
theorem State.Leaves.showSupply {s : State} : State.Leaves [.od] (fun j => j ≠ Od.SUP_SUPPLY_STATUS) false s
    (s.showSupply) := by
  unfold State.showSupply
  exact .step .setBit (.step .setBit (.step .setBit (.step .setBit (.step .setBit (.step .setBit (.step .setBit
    .refl))))))
theorem State.Leaves.closeSwitch {s : State} : State.Leaves [.od, .log, .links, .legs, .traction, .lus, .stageIn,
    .lvCommand, .gbx] (fun j => (∀ x, x < 8 → j ≠ Od.AX_TQ_REF x) ∧ j ≠ Od.BKP_BKP15 ∧ j ≠ Od.CNT_CNT_OVF_MAP ∧ j ≠
    Od.DCL_CHOP_DUTY ∧ j ≠ Od.DCL_DCL_STATUS ∧ (∀ x y, x < 24 → y < 8 → j ≠ Od.LU_A1 x y) ∧ (∀ x y, x < 24 → y < 8 → j
    ≠ Od.LU_A2 x y) ∧ (∀ x y, x < 24 → y < 8 → j ≠ Od.LU_B0 x y) ∧ (∀ x y, x < 24 → y < 8 → j ≠ Od.LU_B1 x y) ∧ (∀ x
    y, x < 24 → y < 8 → j ≠ Od.LU_B2 x y) ∧ j ≠ Od.LU_COMMITS (16 : Fin 24) ∧ j ≠ Od.LU_COMMITS (17 : Fin 24) ∧ j ≠
    Od.LU_COMMITS (22 : Fin 24) ∧ j ≠ Od.LU_DIR_SIGNS (16 : Fin 24) ∧ j ≠ Od.LU_DIR_SIGNS (17 : Fin 24) ∧ j ≠
    Od.LU_DIR_SIGNS (22 : Fin 24) ∧ j ≠ Od.LU_LU_CNT_STATUS (16 : Fin 24) ∧ j ≠ Od.LU_LU_CNT_STATUS (17 : Fin 24) ∧ j
    ≠ Od.LU_LU_CNT_STATUS (22 : Fin 24) ∧ (∀ x, x < 24 → j ≠ Od.LU_REF x) ∧ (∀ x, x < 8 → j ≠ Od.LU_SEC_CTRL (16 : Fin
    24) x) ∧ (∀ x, x < 8 → j ≠ Od.LU_SEC_CTRL (17 : Fin 24) x) ∧ (∀ x, x < 8 → j ≠ Od.LU_SEC_CTRL (22 : Fin 24) x) ∧ j
    ≠ Od.LV_BAT_SW_MODE ∧ j ≠ Od.LV_LV_STATUS ∧ j ≠ Od.LV_VR_SOURCE ∧ (∀ x, x < 8 → j ≠ Od.SOL_DUTY x) ∧ (∀ x, x < 8 →
    j ≠ Od.SOL_ENERGISATIONS x) ∧ (∀ x, x < 8 → j ≠ Od.SOL_SOL_CNT_STATUS x) ∧ (∀ x, x < 8 → j ≠ Od.SOL_SOL_STATUS x))
    true s (s.closeSwitch) := by
  unfold State.closeSwitch
  exact .ite .refl (.step .setVrSource (.step .setBatSw .refl))
theorem State.Leaves.modBringup {s : State} {f : BringupSt → BringupSt} : State.Leaves [.bringup] (fun _ => True)
    false s (s.modBringup f) := by
  unfold State.modBringup
  exact .step .with_bringup .refl
theorem State.Leaves.peatWake {s : State} {bySvc : Bool} : State.Leaves [.od, .log, .bringup, .links, .legs,
    .traction, .lus, .stageIn, .lvCommand, .gbx, .path] (fun j => (∀ x, x < 8 → j ≠ Od.AX_TQ_REF x) ∧ j ≠ Od.BKP_BKP15
    ∧ j ≠ Od.CNT_CNT_OVF_MAP ∧ j ≠ Od.DCL_CHOP_DUTY ∧ j ≠ Od.DCL_DCL_STATUS ∧ (∀ x y, x < 24 → y < 8 → j ≠ Od.LU_A1 x
    y) ∧ (∀ x y, x < 24 → y < 8 → j ≠ Od.LU_A2 x y) ∧ (∀ x y, x < 24 → y < 8 → j ≠ Od.LU_B0 x y) ∧ (∀ x y, x < 24 → y
    < 8 → j ≠ Od.LU_B1 x y) ∧ (∀ x y, x < 24 → y < 8 → j ≠ Od.LU_B2 x y) ∧ j ≠ Od.LU_COMMITS (16 : Fin 24) ∧ j ≠
    Od.LU_COMMITS (17 : Fin 24) ∧ j ≠ Od.LU_COMMITS (22 : Fin 24) ∧ j ≠ Od.LU_DIR_SIGNS (16 : Fin 24) ∧ j ≠
    Od.LU_DIR_SIGNS (17 : Fin 24) ∧ j ≠ Od.LU_DIR_SIGNS (22 : Fin 24) ∧ j ≠ Od.LU_LU_CNT_STATUS (16 : Fin 24) ∧ j ≠
    Od.LU_LU_CNT_STATUS (17 : Fin 24) ∧ j ≠ Od.LU_LU_CNT_STATUS (22 : Fin 24) ∧ (∀ x, x < 24 → j ≠ Od.LU_REF x) ∧ (∀
    x, x < 8 → j ≠ Od.LU_SEC_CTRL (16 : Fin 24) x) ∧ (∀ x, x < 8 → j ≠ Od.LU_SEC_CTRL (17 : Fin 24) x) ∧ (∀ x, x < 8 →
    j ≠ Od.LU_SEC_CTRL (22 : Fin 24) x) ∧ j ≠ Od.LV_BAT_SW_MODE ∧ j ≠ Od.LV_LV_STATUS ∧ j ≠ Od.LV_VR_SOURCE ∧ (∀ x, x
    < 8 → j ≠ Od.SOL_DUTY x) ∧ (∀ x, x < 8 → j ≠ Od.SOL_ENERGISATIONS x) ∧ (∀ x, x < 8 → j ≠ Od.SOL_SOL_CNT_STATUS x)
    ∧ (∀ x, x < 8 → j ≠ Od.SOL_SOL_STATUS x) ∧ j ≠ Od.SUP_ACTIVE_SOURCE ∧ j ≠ Od.SUP_SOURCE_CHANGES ∧ j ≠
    Od.SUP_SUPPLY_STATUS) true s (s.peatWake bySvc) := by
  unfold State.peatWake
  exact .ite (.step .showSupply (.step .followSource (.step .modBringup (.step .closeSwitch (.step .setBit (.step
    .modPath .refl)))))) .refl
theorem ResLeaves.execPeatWake {dt : Nat} {bySvc : Bool} {s : State} : ResLeaves [.od, .tb, .out, .log, .bringup,
    .links, .legs, .traction, .lus, .stageIn, .lvCommand, .gbx, .path] (fun j => (∀ x, x < 8 → j ≠ Od.AX_TQ_REF x) ∧ j
    ≠ Od.BKP_BKP15 ∧ j ≠ Od.CNT_CNT_OVF_MAP ∧ j ≠ Od.DCL_CHOP_DUTY ∧ j ≠ Od.DCL_DCL_STATUS ∧ (∀ x y, x < 24 → y < 8 →
    j ≠ Od.LU_A1 x y) ∧ (∀ x y, x < 24 → y < 8 → j ≠ Od.LU_A2 x y) ∧ (∀ x y, x < 24 → y < 8 → j ≠ Od.LU_B0 x y) ∧ (∀ x
    y, x < 24 → y < 8 → j ≠ Od.LU_B1 x y) ∧ (∀ x y, x < 24 → y < 8 → j ≠ Od.LU_B2 x y) ∧ j ≠ Od.LU_COMMITS (16 : Fin
    24) ∧ j ≠ Od.LU_COMMITS (17 : Fin 24) ∧ j ≠ Od.LU_COMMITS (22 : Fin 24) ∧ j ≠ Od.LU_DIR_SIGNS (16 : Fin 24) ∧ j ≠
    Od.LU_DIR_SIGNS (17 : Fin 24) ∧ j ≠ Od.LU_DIR_SIGNS (22 : Fin 24) ∧ j ≠ Od.LU_LU_CNT_STATUS (16 : Fin 24) ∧ j ≠
    Od.LU_LU_CNT_STATUS (17 : Fin 24) ∧ j ≠ Od.LU_LU_CNT_STATUS (22 : Fin 24) ∧ (∀ x, x < 24 → j ≠ Od.LU_REF x) ∧ (∀
    x, x < 8 → j ≠ Od.LU_SEC_CTRL (16 : Fin 24) x) ∧ (∀ x, x < 8 → j ≠ Od.LU_SEC_CTRL (17 : Fin 24) x) ∧ (∀ x, x < 8 →
    j ≠ Od.LU_SEC_CTRL (22 : Fin 24) x) ∧ j ≠ Od.LV_BAT_SW_MODE ∧ j ≠ Od.LV_LV_STATUS ∧ j ≠ Od.LV_VR_SOURCE ∧ (∀ x, x
    < 8 → j ≠ Od.SOL_DUTY x) ∧ (∀ x, x < 8 → j ≠ Od.SOL_ENERGISATIONS x) ∧ (∀ x, x < 8 → j ≠ Od.SOL_SOL_CNT_STATUS x)
    ∧ (∀ x, x < 8 → j ≠ Od.SOL_SOL_STATUS x) ∧ j ≠ Od.SUP_ACTIVE_SOURCE ∧ j ≠ Od.SUP_SOURCE_CHANGES ∧ j ≠
    Od.SUP_SUPPLY_STATUS) true s (execPeatWake dt bySvc s) := by
  unfold Machine.execPeatWake
  exact .reply (.step .peatWake (.step .elapse .refl))
theorem State.Leaves.restoreSwitch {s : State} : State.Leaves [.od, .log, .links, .legs, .traction, .lus, .stageIn,
    .lvCommand, .gbx] (fun j => (∀ x, x < 8 → j ≠ Od.AX_TQ_REF x) ∧ j ≠ Od.BKP_BKP15 ∧ j ≠ Od.CNT_CNT_OVF_MAP ∧ j ≠
    Od.DCL_CHOP_DUTY ∧ j ≠ Od.DCL_DCL_STATUS ∧ (∀ x y, x < 24 → y < 8 → j ≠ Od.LU_A1 x y) ∧ (∀ x y, x < 24 → y < 8 → j
    ≠ Od.LU_A2 x y) ∧ (∀ x y, x < 24 → y < 8 → j ≠ Od.LU_B0 x y) ∧ (∀ x y, x < 24 → y < 8 → j ≠ Od.LU_B1 x y) ∧ (∀ x
    y, x < 24 → y < 8 → j ≠ Od.LU_B2 x y) ∧ j ≠ Od.LU_COMMITS (16 : Fin 24) ∧ j ≠ Od.LU_COMMITS (17 : Fin 24) ∧ j ≠
    Od.LU_COMMITS (22 : Fin 24) ∧ j ≠ Od.LU_DIR_SIGNS (16 : Fin 24) ∧ j ≠ Od.LU_DIR_SIGNS (17 : Fin 24) ∧ j ≠
    Od.LU_DIR_SIGNS (22 : Fin 24) ∧ j ≠ Od.LU_LU_CNT_STATUS (16 : Fin 24) ∧ j ≠ Od.LU_LU_CNT_STATUS (17 : Fin 24) ∧ j
    ≠ Od.LU_LU_CNT_STATUS (22 : Fin 24) ∧ (∀ x, x < 24 → j ≠ Od.LU_REF x) ∧ (∀ x, x < 8 → j ≠ Od.LU_SEC_CTRL (16 : Fin
    24) x) ∧ (∀ x, x < 8 → j ≠ Od.LU_SEC_CTRL (17 : Fin 24) x) ∧ (∀ x, x < 8 → j ≠ Od.LU_SEC_CTRL (22 : Fin 24) x) ∧ j
    ≠ Od.LV_BAT_SW_MODE ∧ j ≠ Od.LV_LV_STATUS ∧ j ≠ Od.LV_VR_SOURCE ∧ (∀ x, x < 8 → j ≠ Od.SOL_DUTY x) ∧ (∀ x, x < 8 →
    j ≠ Od.SOL_ENERGISATIONS x) ∧ (∀ x, x < 8 → j ≠ Od.SOL_SOL_CNT_STATUS x) ∧ (∀ x, x < 8 → j ≠ Od.SOL_SOL_STATUS x))
    true s (s.restoreSwitch) := by
  unfold State.restoreSwitch
  exact .step .setVrSource (.step .setBatSw (.step .setBit .refl))
theorem State.Leaves.retainedPeat {s : State} : State.Leaves [.path] (fun _ => True) false s (s.retainedPeat) := by
  unfold State.retainedPeat
  exact .ite (.step .modPath .refl) .refl
theorem State.Leaves.keepOverflows {s old : State} : State.Leaves [.od] (fun j => j ≠ Od.CNT_CNT_OVF_MAP ∧ j ≠
    Od.RST_BRINGUP_STATUS) false s (s.keepOverflows old) := by
  unfold State.keepOverflows
  exact .step .setBit (.step .setBit (.step .setBit .refl))
theorem State.Leaves.cleared {s : State} {cause : Nat} : State.Leaves [.od, .tb, .log, .bringup, .clocks, .links,
    .drives, .cells, .legs, .shunts, .seqs, .gcps, .axes, .traction, .pifs, .lus, .stageIn, .lvCommand, .engines,
    .tasks, .pool, .gbx, .dcl, .aux, .chg, .path, .thermal, .pyr, .safety, .conns, .crcs, .chans, .time, .canA,
    .sessions, .img, .cap] (fun _ => False) false s (s.cleared cause) := by
  refine ⟨fun p hp => ?_, nofun, nofun, fun hs => ?_⟩
  · cases p <;> first | rfl | exact absurd (by decide) hp
  · obtain ⟨hwf, hcust⟩ := hs
    simp only [State.canonical, Bool.and_eq_true] at hwf
    exact ⟨by simp only [State.canonical, State.cleared, storeWf_filter _ _ hwf.1, hwf.2, Bool.and_self], hcust⟩
theorem State.Leaves.takeNewSet {s : State} {l : Option (List (Nat × Val) × Nat)} : State.Leaves [.od] (fun j => safeKey j
    = false) false s (s.takeNewSet l) := by
  unfold State.takeNewSet
  exact by split; exacts [(.step .takeSet .refl), .refl]
theorem State.Leaves.mainReset {s : State} {cause : Nat} : State.Leaves [.od, .tb, .log, .bringup, .clocks, .links,
    .drives, .cells, .legs, .shunts, .seqs, .gcps, .axes, .traction, .pifs, .lus, .stageIn, .lvCommand, .engines,
    .tasks, .pool, .gbx, .dcl, .aux, .chg, .path, .thermal, .pyr, .safety, .conns, .crcs, .chans, .time, .canA,
    .sessions, .img, .cap] (fun _ => False) true s (s.mainReset cause) := by
  unfold State.mainReset
  exact .step .showSupply (.step .retainedPeat (.step .restoreSwitch (.step .setBit (.step .setBit (.step .keepOverflows
    (.step .setN (.step .takeNewSet (.step .cleared .refl))))))))
theorem State.Leaves.peatEnter {s : State} : State.Leaves [.od, .tb, .log, .bringup, .clocks, .links, .drives, .cells,
    .legs, .shunts, .seqs, .gcps, .axes, .traction, .pifs, .lus, .stageIn, .lvCommand, .engines, .tasks, .pool, .gbx,
    .dcl, .aux, .chg, .path, .thermal, .pyr, .safety, .conns, .crcs, .chans, .time, .canA, .sessions, .img, .cap] (fun
    _ => False) true s (s.peatEnter) := by
  unfold State.peatEnter
  exact .ite (.step .setN (.step .mainReset (.step .modPath .refl))) .refl
theorem ResLeaves.execPeatEntryComplete {dt : Nat} {s : State} : ResLeaves [.od, .tb, .out, .log, .bringup, .clocks,
    .links, .drives, .cells, .legs, .shunts, .seqs, .gcps, .axes, .traction, .pifs, .lus, .stageIn, .lvCommand,
    .engines, .tasks, .pool, .gbx, .dcl, .aux, .chg, .path, .thermal, .pyr, .safety, .conns, .crcs, .chans, .time,
    .canA, .sessions, .img, .cap] (fun _ => False) true s (execPeatEntryComplete dt s) := by
  unfold Machine.execPeatEntryComplete
  exact .reply (.step .peatEnter (.step .elapse .refl))
theorem ResLeaves.execPeatCmdWrite {dt : Nat} {who : Requester} {value : BitVec 8} {s : State} : ResLeaves [.od, .tb,
    .out, .log, .path, .sessions, .cap] (fun j => noAccess j ∧ j ≠ Od.BKP_BKP15 ∧ j ≠ Od.CAP_CAPTURES ∧ j ≠
    Od.CAP_CAP_CNT_STATUS ∧ j ≠ Od.CAP_CAP_STATE ∧ j ≠ Od.CAP_FIRST_TB ∧ j ≠ Od.CAP_ROWS_STORED ∧ j ≠ Od.CAP_TRIG_TB ∧
    j ≠ Od.LOG_EMCY_SUPPRESSED ∧ j ≠ Od.LOG_LOG_STATUS ∧ j ≠ Od.LV_ATTN_CODE ∧ j ≠ Od.LV_LV_STATUS) false s
    (execPeatCmdWrite dt who value s) := by
  unfold Machine.execPeatCmdWrite
  exact .reply (.step .writePeat (.step .elapse .refl))
theorem State.Leaves.sysRestore {s : State} : State.Leaves [.od, .log, .links, .legs, .traction, .lus, .stageIn,
    .lvCommand, .gbx, .path] (fun j => (∀ x, x < 8 → j ≠ Od.AX_TQ_REF x) ∧ j ≠ Od.BKP_BKP15 ∧ j ≠ Od.CNT_CNT_OVF_MAP ∧
    j ≠ Od.DCL_CHOP_DUTY ∧ j ≠ Od.DCL_DCL_STATUS ∧ (∀ x y, x < 24 → y < 8 → j ≠ Od.LU_A1 x y) ∧ (∀ x y, x < 24 → y < 8
    → j ≠ Od.LU_A2 x y) ∧ (∀ x y, x < 24 → y < 8 → j ≠ Od.LU_B0 x y) ∧ (∀ x y, x < 24 → y < 8 → j ≠ Od.LU_B1 x y) ∧ (∀
    x y, x < 24 → y < 8 → j ≠ Od.LU_B2 x y) ∧ j ≠ Od.LU_COMMITS (16 : Fin 24) ∧ j ≠ Od.LU_COMMITS (17 : Fin 24) ∧ j ≠
    Od.LU_COMMITS (22 : Fin 24) ∧ j ≠ Od.LU_DIR_SIGNS (16 : Fin 24) ∧ j ≠ Od.LU_DIR_SIGNS (17 : Fin 24) ∧ j ≠
    Od.LU_DIR_SIGNS (22 : Fin 24) ∧ j ≠ Od.LU_LU_CNT_STATUS (16 : Fin 24) ∧ j ≠ Od.LU_LU_CNT_STATUS (17 : Fin 24) ∧ j
    ≠ Od.LU_LU_CNT_STATUS (22 : Fin 24) ∧ (∀ x, x < 24 → j ≠ Od.LU_REF x) ∧ (∀ x, x < 8 → j ≠ Od.LU_SEC_CTRL (16 : Fin
    24) x) ∧ (∀ x, x < 8 → j ≠ Od.LU_SEC_CTRL (17 : Fin 24) x) ∧ (∀ x, x < 8 → j ≠ Od.LU_SEC_CTRL (22 : Fin 24) x) ∧ j
    ≠ Od.LV_BAT_SW_MODE ∧ j ≠ Od.LV_LV_STATUS ∧ j ≠ Od.LV_VR_SOURCE ∧ (∀ x, x < 8 → j ≠ Od.SOL_DUTY x) ∧ (∀ x, x < 8 →
    j ≠ Od.SOL_ENERGISATIONS x) ∧ (∀ x, x < 8 → j ≠ Od.SOL_SOL_CNT_STATUS x) ∧ (∀ x, x < 8 → j ≠ Od.SOL_SOL_STATUS x)
    ∧ j ≠ Od.SUP_ACTIVE_SOURCE ∧ j ≠ Od.SUP_SOURCE_CHANGES ∧ j ≠ Od.SUP_SUPPLY_STATUS) true s (s.sysRestore) := by
  unfold State.sysRestore
  exact by split; exacts [(.ite (.step .showSupply (.step .followSource (.ite (.step .modPath (.step .modPath .refl))
    (.step .closeSwitch (.step .modPath .refl))))) .refl), .refl]
theorem ResLeaves.execSystemResetRestore {dt : Nat} {s : State} : ResLeaves [.od, .tb, .out, .log, .links, .legs,
    .traction, .lus, .stageIn, .lvCommand, .gbx, .path] (fun j => (∀ x, x < 8 → j ≠ Od.AX_TQ_REF x) ∧ j ≠ Od.BKP_BKP15
    ∧ j ≠ Od.CNT_CNT_OVF_MAP ∧ j ≠ Od.DCL_CHOP_DUTY ∧ j ≠ Od.DCL_DCL_STATUS ∧ (∀ x y, x < 24 → y < 8 → j ≠ Od.LU_A1 x
    y) ∧ (∀ x y, x < 24 → y < 8 → j ≠ Od.LU_A2 x y) ∧ (∀ x y, x < 24 → y < 8 → j ≠ Od.LU_B0 x y) ∧ (∀ x y, x < 24 → y
    < 8 → j ≠ Od.LU_B1 x y) ∧ (∀ x y, x < 24 → y < 8 → j ≠ Od.LU_B2 x y) ∧ j ≠ Od.LU_COMMITS (16 : Fin 24) ∧ j ≠
    Od.LU_COMMITS (17 : Fin 24) ∧ j ≠ Od.LU_COMMITS (22 : Fin 24) ∧ j ≠ Od.LU_DIR_SIGNS (16 : Fin 24) ∧ j ≠
    Od.LU_DIR_SIGNS (17 : Fin 24) ∧ j ≠ Od.LU_DIR_SIGNS (22 : Fin 24) ∧ j ≠ Od.LU_LU_CNT_STATUS (16 : Fin 24) ∧ j ≠
    Od.LU_LU_CNT_STATUS (17 : Fin 24) ∧ j ≠ Od.LU_LU_CNT_STATUS (22 : Fin 24) ∧ (∀ x, x < 24 → j ≠ Od.LU_REF x) ∧ (∀
    x, x < 8 → j ≠ Od.LU_SEC_CTRL (16 : Fin 24) x) ∧ (∀ x, x < 8 → j ≠ Od.LU_SEC_CTRL (17 : Fin 24) x) ∧ (∀ x, x < 8 →
    j ≠ Od.LU_SEC_CTRL (22 : Fin 24) x) ∧ j ≠ Od.LV_BAT_SW_MODE ∧ j ≠ Od.LV_LV_STATUS ∧ j ≠ Od.LV_VR_SOURCE ∧ (∀ x, x
    < 8 → j ≠ Od.SOL_DUTY x) ∧ (∀ x, x < 8 → j ≠ Od.SOL_ENERGISATIONS x) ∧ (∀ x, x < 8 → j ≠ Od.SOL_SOL_CNT_STATUS x)
    ∧ (∀ x, x < 8 → j ≠ Od.SOL_SOL_STATUS x) ∧ j ≠ Od.SUP_ACTIVE_SOURCE ∧ j ≠ Od.SUP_SOURCE_CHANGES ∧ j ≠
    Od.SUP_SUPPLY_STATUS) true s (execSystemResetRestore dt s) := by
  unfold Machine.execSystemResetRestore
  exact .reply (.step .sysRestore (.step .elapse .refl))
theorem State.Leaves.resetNow {s : State} {cause : Nat} : State.Leaves [.od, .tb, .log, .bringup, .clocks, .links,
    .drives, .cells, .legs, .shunts, .seqs, .gcps, .axes, .traction, .pifs, .lus, .stageIn, .lvCommand, .engines,
    .tasks, .pool, .gbx, .dcl, .aux, .chg, .path, .thermal, .pyr, .safety, .conns, .crcs, .chans, .time, .canA,
    .sessions, .img, .cap] (fun _ => False) true s (s.resetNow cause) := by
  unfold State.resetNow
  exact .ite (.step .setN (.step .setVrSource (.step .setBatSw (.step .mainReset (.step .modPath .refl))))) (.step
    .mainReset .refl)
theorem State.Leaves.resetDecision {s : State} {cause : Nat} : State.Leaves [.od, .tb, .log, .bringup, .clocks, .links,
    .drives, .cells, .legs, .shunts, .seqs, .gcps, .axes, .traction, .pifs, .lus, .stageIn, .lvCommand, .engines,
    .tasks, .pool, .gbx, .dcl, .aux, .chg, .path, .thermal, .pyr, .safety, .conns, .crcs, .chans, .time, .canA,
    .sessions, .img, .cap] (fun _ => False) true s (s.resetDecision cause) := by
  unfold State.resetDecision
  exact .ite .refl (.ite (.step .modBringup .refl) (.step .resetNow .refl))
theorem State.Leaves.svcReset {s : State} : State.Leaves [.od, .tb, .log, .bringup, .clocks, .links, .drives, .cells,
    .legs, .shunts, .seqs, .gcps, .axes, .traction, .pifs, .lus, .stageIn, .lvCommand, .engines, .tasks, .pool, .gbx,
    .dcl, .aux, .chg, .path, .thermal, .pyr, .safety, .conns, .crcs, .chans, .time, .canA, .sessions, .img, .cap] (fun
    _ => False) true s (s.svcReset) := by
  unfold State.svcReset
  exact .ite (.step .resetDecision (.step .modPath .refl)) .refl
theorem ResLeaves.execSvcHold10s {dt : Nat} {s : State} : ResLeaves [.od, .tb, .out, .log, .bringup, .clocks, .links,
    .drives, .cells, .legs, .shunts, .seqs, .gcps, .axes, .traction, .pifs, .lus, .stageIn, .lvCommand, .engines,
    .tasks, .pool, .gbx, .dcl, .aux, .chg, .path, .thermal, .pyr, .safety, .conns, .crcs, .chans, .time, .canA,
    .sessions, .img, .cap] (fun _ => False) true s (execSvcHold10s dt s) := by
  unfold Machine.execSvcHold10s
  exact .reply (.step .svcReset (.step .elapse .refl))
theorem State.Leaves.svcWarn {s : State} : State.Leaves [.log, .path] (fun _ => True) false s (s.svcWarn) := by
  unfold State.svcWarn
  exact .ite (.step .event (.step .modPath .refl)) .refl
theorem ResLeaves.execSvcHold8s {dt : Nat} {s : State} : ResLeaves [.tb, .out, .log, .path] (fun _ => True) false s
    (execSvcHold8s dt s) := by
  unfold Machine.execSvcHold8s
  exact .reply (.step .svcWarn (.step .elapse .refl))
theorem State.Leaves.svcRelease {s : State} : State.Leaves [.od, .log, .path] (fun j => j ≠ Od.CNT_CNT_OVF_MAP ∧ j ≠
    Od.LV_LV_CNT_STATUS ∧ j ≠ Od.LV_LV_STATUS ∧ j ≠ Od.LV_SVC_LAST_ms ∧ j ≠ Od.LV_SVC_PRESSES) false s (s.svcRelease)
    := by
  unfold State.svcRelease
  exact .ite .refl (.ite (.step .event (.step .setN (.step .count (.step .setBit (.step .modPath .refl))))) (.step
    .setBit (.step .modPath .refl)))
theorem ResLeaves.execSvcPressRelease {dt : Nat} {s : State} : ResLeaves [.od, .tb, .out, .log, .path] (fun j => j ≠
    Od.CNT_CNT_OVF_MAP ∧ j ≠ Od.LV_LV_CNT_STATUS ∧ j ≠ Od.LV_LV_STATUS ∧ j ≠ Od.LV_SVC_LAST_ms ∧ j ≠
    Od.LV_SVC_PRESSES) false s (execSvcPressRelease dt s) := by
  unfold Machine.execSvcPressRelease
  exact .reply (.step .svcRelease (.step .elapse .refl))
theorem State.Leaves.exportTrip {s : State} : State.Leaves [.od, .log, .links, .drives, .cells, .legs, .store, .seqs,
    .axes, .traction, .lus, .stageIn, .lvCommand, .gbx, .dcl, .aux, .chg, .path] (fun j => noReaction j ∧ j ≠
    Od.EXP_EXP_CNT_STATUS ∧ j ≠ Od.EXP_EXP_TRIPS ∧ (∀ x, x < 15 → j ≠ Od.OBS_ASC_COUNT x)) true s (s.exportTrip) := by
  unfold State.exportTrip
  exact .ite (.step .raise (.stepR .count (.stepR .setBit .refl))) .refl
theorem ResLeaves.execExportOverloadTrip {dt : Nat} {s : State} : ResLeaves [.od, .tb, .out, .log, .links, .drives,
    .cells, .legs, .store, .seqs, .axes, .traction, .lus, .stageIn, .lvCommand, .gbx, .dcl, .aux, .chg, .path] (fun j
    => noReaction j ∧ j ≠ Od.EXP_EXP_CNT_STATUS ∧ j ≠ Od.EXP_EXP_TRIPS ∧ (∀ x, x < 15 → j ≠ Od.OBS_ASC_COUNT x)) true
    s (execExportOverloadTrip dt s) := by
  unfold Machine.execExportOverloadTrip
  exact .reply (.step .exportTrip (.step .elapse .refl))
theorem State.Leaves.backfed {s : State} {v : Rat} : State.Leaves [.od, .log, .links, .drives, .cells, .legs, .store,
    .seqs, .axes, .traction, .lus, .stageIn, .lvCommand, .gbx, .dcl, .aux, .chg, .path] (fun j => noReaction j ∧ (∀ x,
    x < 15 → j ≠ Od.OBS_ASC_COUNT x)) true s (s.backfed v) := by
  unfold State.backfed
  exact .ite (.step .raise (.stepR .setBit .refl)) .refl
theorem ResLeaves.execExportBackfeed {dt : Nat} {v : Rat} {s : State} : ResLeaves [.od, .tb, .out, .log, .links, .drives,
    .cells, .legs, .store, .seqs, .axes, .traction, .lus, .stageIn, .lvCommand, .gbx, .dcl, .aux, .chg, .path] (fun j
    => noReaction j ∧ (∀ x, x < 15 → j ≠ Od.OBS_ASC_COUNT x)) true s (execExportBackfeed dt v s) := by
  unfold Machine.execExportBackfeed
  exact .reply (.step .backfed (.step .elapse .refl))
theorem State.Leaves.enterVrStart {s : State} : State.Leaves [.od, .log, .links, .cells, .legs, .traction, .lus,
    .stageIn, .lvCommand, .gbx, .aux] (fun j => (∀ x, x < 8 → j ≠ Od.AX_TQ_REF x) ∧ j ≠ Od.CNT_CNT_OVF_MAP ∧ j ≠
    Od.CNV_AUX_MODE ∧ j ≠ Od.CNV_AUX_STATUS ∧ j ≠ Od.CNV_VR_REF ∧ j ≠ Od.DCL_CHOP_DUTY ∧ j ≠ Od.DCL_DCL_STATUS ∧ (∀ x
    y, x < 24 → y < 8 → j ≠ Od.LU_A1 x y) ∧ (∀ x y, x < 24 → y < 8 → j ≠ Od.LU_A2 x y) ∧ (∀ x y, x < 24 → y < 8 → j ≠
    Od.LU_B0 x y) ∧ (∀ x y, x < 24 → y < 8 → j ≠ Od.LU_B1 x y) ∧ (∀ x y, x < 24 → y < 8 → j ≠ Od.LU_B2 x y) ∧ j ≠
    Od.LU_COMMITS (16 : Fin 24) ∧ j ≠ Od.LU_COMMITS (17 : Fin 24) ∧ j ≠ Od.LU_COMMITS (22 : Fin 24) ∧ j ≠
    Od.LU_DIR_SIGNS (16 : Fin 24) ∧ j ≠ Od.LU_DIR_SIGNS (17 : Fin 24) ∧ j ≠ Od.LU_DIR_SIGNS (22 : Fin 24) ∧ j ≠
    Od.LU_LU_CNT_STATUS (16 : Fin 24) ∧ j ≠ Od.LU_LU_CNT_STATUS (17 : Fin 24) ∧ j ≠ Od.LU_LU_CNT_STATUS (22 : Fin 24)
    ∧ (∀ x, x < 24 → j ≠ Od.LU_REF x) ∧ (∀ x, x < 8 → j ≠ Od.LU_SEC_CTRL (16 : Fin 24) x) ∧ (∀ x, x < 8 → j ≠
    Od.LU_SEC_CTRL (17 : Fin 24) x) ∧ (∀ x, x < 8 → j ≠ Od.LU_SEC_CTRL (22 : Fin 24) x) ∧ j ≠ Od.LV_LV_STATUS ∧ (∀ x,
    x < 8 → j ≠ Od.SOL_DUTY x) ∧ (∀ x, x < 8 → j ≠ Od.SOL_ENERGISATIONS x) ∧ (∀ x, x < 8 → j ≠ Od.SOL_SOL_CNT_STATUS
    x) ∧ (∀ x, x < 8 → j ≠ Od.SOL_SOL_STATUS x)) true s (s.enterVrStart) := by
  unfold State.enterVrStart
  exact .step .modAux (.step .setQ (.step .setQ (.step .setBit (.step .modCell (.step .setAuxMode .refl)))))
theorem State.Leaves.handbackDone {s : State} : State.Leaves [.od, .log, .links, .cells, .legs, .traction, .lus,
    .stageIn, .lvCommand, .gbx, .aux] (fun j => (∀ x, x < 8 → j ≠ Od.AX_TQ_REF x) ∧ j ≠ Od.CNT_CNT_OVF_MAP ∧ j ≠
    Od.CNV_AUX_MODE ∧ j ≠ Od.CNV_AUX_STATUS ∧ j ≠ Od.CNV_VR_REF ∧ j ≠ Od.DCL_CHOP_DUTY ∧ j ≠ Od.DCL_DCL_STATUS ∧ (∀ x
    y, x < 24 → y < 8 → j ≠ Od.LU_A1 x y) ∧ (∀ x y, x < 24 → y < 8 → j ≠ Od.LU_A2 x y) ∧ (∀ x y, x < 24 → y < 8 → j ≠
    Od.LU_B0 x y) ∧ (∀ x y, x < 24 → y < 8 → j ≠ Od.LU_B1 x y) ∧ (∀ x y, x < 24 → y < 8 → j ≠ Od.LU_B2 x y) ∧ j ≠
    Od.LU_COMMITS (16 : Fin 24) ∧ j ≠ Od.LU_COMMITS (17 : Fin 24) ∧ j ≠ Od.LU_COMMITS (22 : Fin 24) ∧ j ≠
    Od.LU_DIR_SIGNS (16 : Fin 24) ∧ j ≠ Od.LU_DIR_SIGNS (17 : Fin 24) ∧ j ≠ Od.LU_DIR_SIGNS (22 : Fin 24) ∧ j ≠
    Od.LU_LU_CNT_STATUS (16 : Fin 24) ∧ j ≠ Od.LU_LU_CNT_STATUS (17 : Fin 24) ∧ j ≠ Od.LU_LU_CNT_STATUS (22 : Fin 24)
    ∧ (∀ x, x < 24 → j ≠ Od.LU_REF x) ∧ (∀ x, x < 8 → j ≠ Od.LU_SEC_CTRL (16 : Fin 24) x) ∧ (∀ x, x < 8 → j ≠
    Od.LU_SEC_CTRL (17 : Fin 24) x) ∧ (∀ x, x < 8 → j ≠ Od.LU_SEC_CTRL (22 : Fin 24) x) ∧ j ≠ Od.LV_LV_STATUS ∧ j ≠
    Od.LV_VR_SOURCE ∧ (∀ x, x < 8 → j ≠ Od.SOL_DUTY x) ∧ (∀ x, x < 8 → j ≠ Od.SOL_ENERGISATIONS x) ∧ (∀ x, x < 8 → j ≠
    Od.SOL_SOL_CNT_STATUS x) ∧ (∀ x, x < 8 → j ≠ Od.SOL_SOL_STATUS x)) true s (s.handbackDone) := by
  unfold State.handbackDone
  exact by split; exacts [(.ite (.step .enterVrStart (.step .setBit (.step .setVrSource .refl))) .refl), .refl]
theorem ResLeaves.execHandbackCountComplete {dt : Nat} {s : State} : ResLeaves [.od, .tb, .out, .log, .links, .cells,
    .legs, .traction, .lus, .stageIn, .lvCommand, .gbx, .aux] (fun j => (∀ x, x < 8 → j ≠ Od.AX_TQ_REF x) ∧ j ≠
    Od.CNT_CNT_OVF_MAP ∧ j ≠ Od.CNV_AUX_MODE ∧ j ≠ Od.CNV_AUX_STATUS ∧ j ≠ Od.CNV_VR_REF ∧ j ≠ Od.DCL_CHOP_DUTY ∧ j ≠
    Od.DCL_DCL_STATUS ∧ (∀ x y, x < 24 → y < 8 → j ≠ Od.LU_A1 x y) ∧ (∀ x y, x < 24 → y < 8 → j ≠ Od.LU_A2 x y) ∧ (∀ x
    y, x < 24 → y < 8 → j ≠ Od.LU_B0 x y) ∧ (∀ x y, x < 24 → y < 8 → j ≠ Od.LU_B1 x y) ∧ (∀ x y, x < 24 → y < 8 → j ≠
    Od.LU_B2 x y) ∧ j ≠ Od.LU_COMMITS (16 : Fin 24) ∧ j ≠ Od.LU_COMMITS (17 : Fin 24) ∧ j ≠ Od.LU_COMMITS (22 : Fin
    24) ∧ j ≠ Od.LU_DIR_SIGNS (16 : Fin 24) ∧ j ≠ Od.LU_DIR_SIGNS (17 : Fin 24) ∧ j ≠ Od.LU_DIR_SIGNS (22 : Fin 24) ∧
    j ≠ Od.LU_LU_CNT_STATUS (16 : Fin 24) ∧ j ≠ Od.LU_LU_CNT_STATUS (17 : Fin 24) ∧ j ≠ Od.LU_LU_CNT_STATUS (22 : Fin
    24) ∧ (∀ x, x < 24 → j ≠ Od.LU_REF x) ∧ (∀ x, x < 8 → j ≠ Od.LU_SEC_CTRL (16 : Fin 24) x) ∧ (∀ x, x < 8 → j ≠
    Od.LU_SEC_CTRL (17 : Fin 24) x) ∧ (∀ x, x < 8 → j ≠ Od.LU_SEC_CTRL (22 : Fin 24) x) ∧ j ≠ Od.LV_LV_STATUS ∧ j ≠
    Od.LV_VR_SOURCE ∧ (∀ x, x < 8 → j ≠ Od.SOL_DUTY x) ∧ (∀ x, x < 8 → j ≠ Od.SOL_ENERGISATIONS x) ∧ (∀ x, x < 8 → j ≠
    Od.SOL_SOL_CNT_STATUS x) ∧ (∀ x, x < 8 → j ≠ Od.SOL_SOL_STATUS x)) true s (execHandbackCountComplete dt s) := by
  unfold Machine.execHandbackCountComplete
  exact .reply (.step .handbackDone (.step .elapse .refl))
theorem State.Leaves.handoverOn {s : State} : State.Leaves [.od, .log, .links, .legs, .traction, .lus, .stageIn,
    .lvCommand, .gbx, .path] (fun j => (∀ x, x < 8 → j ≠ Od.AX_TQ_REF x) ∧ j ≠ Od.BKP_BKP15 ∧ j ≠ Od.CNT_CNT_OVF_MAP ∧
    j ≠ Od.DCL_CHOP_DUTY ∧ j ≠ Od.DCL_DCL_STATUS ∧ (∀ x y, x < 24 → y < 8 → j ≠ Od.LU_A1 x y) ∧ (∀ x y, x < 24 → y < 8
    → j ≠ Od.LU_A2 x y) ∧ (∀ x y, x < 24 → y < 8 → j ≠ Od.LU_B0 x y) ∧ (∀ x y, x < 24 → y < 8 → j ≠ Od.LU_B1 x y) ∧ (∀
    x y, x < 24 → y < 8 → j ≠ Od.LU_B2 x y) ∧ j ≠ Od.LU_COMMITS (16 : Fin 24) ∧ j ≠ Od.LU_COMMITS (17 : Fin 24) ∧ j ≠
    Od.LU_COMMITS (22 : Fin 24) ∧ j ≠ Od.LU_DIR_SIGNS (16 : Fin 24) ∧ j ≠ Od.LU_DIR_SIGNS (17 : Fin 24) ∧ j ≠
    Od.LU_DIR_SIGNS (22 : Fin 24) ∧ j ≠ Od.LU_LU_CNT_STATUS (16 : Fin 24) ∧ j ≠ Od.LU_LU_CNT_STATUS (17 : Fin 24) ∧ j
    ≠ Od.LU_LU_CNT_STATUS (22 : Fin 24) ∧ (∀ x, x < 24 → j ≠ Od.LU_REF x) ∧ (∀ x, x < 8 → j ≠ Od.LU_SEC_CTRL (16 : Fin
    24) x) ∧ (∀ x, x < 8 → j ≠ Od.LU_SEC_CTRL (17 : Fin 24) x) ∧ (∀ x, x < 8 → j ≠ Od.LU_SEC_CTRL (22 : Fin 24) x) ∧ j
    ≠ Od.LV_BAT_SW_MODE ∧ j ≠ Od.LV_LV_STATUS ∧ j ≠ Od.LV_VR_SOURCE ∧ (∀ x, x < 8 → j ≠ Od.SOL_DUTY x) ∧ (∀ x, x < 8 →
    j ≠ Od.SOL_ENERGISATIONS x) ∧ (∀ x, x < 8 → j ≠ Od.SOL_SOL_CNT_STATUS x) ∧ (∀ x, x < 8 → j ≠ Od.SOL_SOL_STATUS x))
    true s (s.handoverOn) := by
  unfold State.handoverOn
  exact .ite (.step .handBackWait (.step .setVrSource (.step .putBatSw .refl))) .refl
theorem ResLeaves.execHandoverSwitchOn {dt : Nat} {s : State} : ResLeaves [.od, .tb, .out, .log, .links, .legs,
    .traction, .lus, .stageIn, .lvCommand, .gbx, .path] (fun j => (∀ x, x < 8 → j ≠ Od.AX_TQ_REF x) ∧ j ≠ Od.BKP_BKP15
    ∧ j ≠ Od.CNT_CNT_OVF_MAP ∧ j ≠ Od.DCL_CHOP_DUTY ∧ j ≠ Od.DCL_DCL_STATUS ∧ (∀ x y, x < 24 → y < 8 → j ≠ Od.LU_A1 x
    y) ∧ (∀ x y, x < 24 → y < 8 → j ≠ Od.LU_A2 x y) ∧ (∀ x y, x < 24 → y < 8 → j ≠ Od.LU_B0 x y) ∧ (∀ x y, x < 24 → y
    < 8 → j ≠ Od.LU_B1 x y) ∧ (∀ x y, x < 24 → y < 8 → j ≠ Od.LU_B2 x y) ∧ j ≠ Od.LU_COMMITS (16 : Fin 24) ∧ j ≠
    Od.LU_COMMITS (17 : Fin 24) ∧ j ≠ Od.LU_COMMITS (22 : Fin 24) ∧ j ≠ Od.LU_DIR_SIGNS (16 : Fin 24) ∧ j ≠
    Od.LU_DIR_SIGNS (17 : Fin 24) ∧ j ≠ Od.LU_DIR_SIGNS (22 : Fin 24) ∧ j ≠ Od.LU_LU_CNT_STATUS (16 : Fin 24) ∧ j ≠
    Od.LU_LU_CNT_STATUS (17 : Fin 24) ∧ j ≠ Od.LU_LU_CNT_STATUS (22 : Fin 24) ∧ (∀ x, x < 24 → j ≠ Od.LU_REF x) ∧ (∀
    x, x < 8 → j ≠ Od.LU_SEC_CTRL (16 : Fin 24) x) ∧ (∀ x, x < 8 → j ≠ Od.LU_SEC_CTRL (17 : Fin 24) x) ∧ (∀ x, x < 8 →
    j ≠ Od.LU_SEC_CTRL (22 : Fin 24) x) ∧ j ≠ Od.LV_BAT_SW_MODE ∧ j ≠ Od.LV_LV_STATUS ∧ j ≠ Od.LV_VR_SOURCE ∧ (∀ x, x
    < 8 → j ≠ Od.SOL_DUTY x) ∧ (∀ x, x < 8 → j ≠ Od.SOL_ENERGISATIONS x) ∧ (∀ x, x < 8 → j ≠ Od.SOL_SOL_CNT_STATUS x)
    ∧ (∀ x, x < 8 → j ≠ Od.SOL_SOL_STATUS x)) true s (execHandoverSwitchOn dt s) := by
  unfold Machine.execHandoverSwitchOn
  exact .reply (.step .handoverOn (.step .elapse .refl))
theorem State.Leaves.lvEvent {s : State} {code : Nat} : State.Leaves [.log] (fun _ => True) false s (s.lvEvent code) :=
    by
  unfold State.lvEvent
  exact .step .event .refl
theorem State.Leaves.senseBatI {s : State} {i : Rat} : State.Leaves [.od, .path] (fun j => j ≠ Od.LV_I_BAT) false s
    (s.senseBatI i) := by
  unfold State.senseBatI
  exact .step .modPath (.step .setQ .refl)
theorem State.Leaves.batOvercurrent {s : State} {i : Rat} : State.Leaves [.od, .log, .links, .legs, .traction, .lus,
    .stageIn, .lvCommand, .gbx, .path] (fun j => (∀ x, x < 8 → j ≠ Od.AX_TQ_REF x) ∧ j ≠ Od.BKP_BKP15 ∧ j ≠
    Od.CNT_CNT_OVF_MAP ∧ j ≠ Od.DCL_CHOP_DUTY ∧ j ≠ Od.DCL_DCL_STATUS ∧ (∀ x y, x < 24 → y < 8 → j ≠ Od.LU_A1 x y) ∧
    (∀ x y, x < 24 → y < 8 → j ≠ Od.LU_A2 x y) ∧ (∀ x y, x < 24 → y < 8 → j ≠ Od.LU_B0 x y) ∧ (∀ x y, x < 24 → y < 8 →
    j ≠ Od.LU_B1 x y) ∧ (∀ x y, x < 24 → y < 8 → j ≠ Od.LU_B2 x y) ∧ j ≠ Od.LU_COMMITS (16 : Fin 24) ∧ j ≠
    Od.LU_COMMITS (17 : Fin 24) ∧ j ≠ Od.LU_COMMITS (22 : Fin 24) ∧ j ≠ Od.LU_DIR_SIGNS (16 : Fin 24) ∧ j ≠
    Od.LU_DIR_SIGNS (17 : Fin 24) ∧ j ≠ Od.LU_DIR_SIGNS (22 : Fin 24) ∧ j ≠ Od.LU_LU_CNT_STATUS (16 : Fin 24) ∧ j ≠
    Od.LU_LU_CNT_STATUS (17 : Fin 24) ∧ j ≠ Od.LU_LU_CNT_STATUS (22 : Fin 24) ∧ (∀ x, x < 24 → j ≠ Od.LU_REF x) ∧ (∀
    x, x < 8 → j ≠ Od.LU_SEC_CTRL (16 : Fin 24) x) ∧ (∀ x, x < 8 → j ≠ Od.LU_SEC_CTRL (17 : Fin 24) x) ∧ (∀ x, x < 8 →
    j ≠ Od.LU_SEC_CTRL (22 : Fin 24) x) ∧ j ≠ Od.LV_BAT_SW_MODE ∧ j ≠ Od.LV_I_BAT ∧ j ≠ Od.LV_LV_STATUS ∧ j ≠
    Od.LV_VR_SOURCE ∧ (∀ x, x < 8 → j ≠ Od.SOL_DUTY x) ∧ (∀ x, x < 8 → j ≠ Od.SOL_ENERGISATIONS x) ∧ (∀ x, x < 8 → j ≠
    Od.SOL_SOL_CNT_STATUS x) ∧ (∀ x, x < 8 → j ≠ Od.SOL_SOL_STATUS x)) true s (s.batOvercurrent i) := by
  unfold State.batOvercurrent
  exact .ite (.step .lvEvent (.when (fun _ => (.step .setVrSource .refl)) (.when (fun _ => (.step .handBackWait
    .refl)) (.step .setBatTrip (.step .setBatSw (.step .senseBatI .refl)))))) (.step .senseBatI .refl)
theorem ResLeaves.execBatterySwitchOvercurrent {dt : Nat} {i : Rat} {s : State} : ResLeaves [.od, .tb, .out, .log, .links,
    .legs, .traction, .lus, .stageIn, .lvCommand, .gbx, .path] (fun j => (∀ x, x < 8 → j ≠ Od.AX_TQ_REF x) ∧ j ≠
    Od.BKP_BKP15 ∧ j ≠ Od.CNT_CNT_OVF_MAP ∧ j ≠ Od.DCL_CHOP_DUTY ∧ j ≠ Od.DCL_DCL_STATUS ∧ (∀ x y, x < 24 → y < 8 → j
    ≠ Od.LU_A1 x y) ∧ (∀ x y, x < 24 → y < 8 → j ≠ Od.LU_A2 x y) ∧ (∀ x y, x < 24 → y < 8 → j ≠ Od.LU_B0 x y) ∧ (∀ x
    y, x < 24 → y < 8 → j ≠ Od.LU_B1 x y) ∧ (∀ x y, x < 24 → y < 8 → j ≠ Od.LU_B2 x y) ∧ j ≠ Od.LU_COMMITS (16 : Fin
    24) ∧ j ≠ Od.LU_COMMITS (17 : Fin 24) ∧ j ≠ Od.LU_COMMITS (22 : Fin 24) ∧ j ≠ Od.LU_DIR_SIGNS (16 : Fin 24) ∧ j ≠
    Od.LU_DIR_SIGNS (17 : Fin 24) ∧ j ≠ Od.LU_DIR_SIGNS (22 : Fin 24) ∧ j ≠ Od.LU_LU_CNT_STATUS (16 : Fin 24) ∧ j ≠
    Od.LU_LU_CNT_STATUS (17 : Fin 24) ∧ j ≠ Od.LU_LU_CNT_STATUS (22 : Fin 24) ∧ (∀ x, x < 24 → j ≠ Od.LU_REF x) ∧ (∀
    x, x < 8 → j ≠ Od.LU_SEC_CTRL (16 : Fin 24) x) ∧ (∀ x, x < 8 → j ≠ Od.LU_SEC_CTRL (17 : Fin 24) x) ∧ (∀ x, x < 8 →
    j ≠ Od.LU_SEC_CTRL (22 : Fin 24) x) ∧ j ≠ Od.LV_BAT_SW_MODE ∧ j ≠ Od.LV_I_BAT ∧ j ≠ Od.LV_LV_STATUS ∧ j ≠
    Od.LV_VR_SOURCE ∧ (∀ x, x < 8 → j ≠ Od.SOL_DUTY x) ∧ (∀ x, x < 8 → j ≠ Od.SOL_ENERGISATIONS x) ∧ (∀ x, x < 8 → j ≠
    Od.SOL_SOL_CNT_STATUS x) ∧ (∀ x, x < 8 → j ≠ Od.SOL_SOL_STATUS x)) true s (execBatterySwitchOvercurrent dt i s) :=
    by
  unfold Machine.execBatterySwitchOvercurrent
  exact .reply (.step .batOvercurrent (.step .elapse .refl))
theorem ResLeaves.execLvAckWrite {dt : Nat} {who : Requester} {value : BitVec 8} {s : State} : ResLeaves [.od, .tb,
    .out, .log, .links, .legs, .traction, .lus, .stageIn, .lvCommand, .gbx, .aux, .chg, .path, .sessions] (fun j =>
    noAccess j ∧ (∀ x, x < 8 → j ≠ Od.AX_TQ_REF x) ∧ j ≠ Od.BKP_BKP15 ∧ j ≠ Od.CNV_AUX_STATUS ∧ j ≠ Od.CNV_VR_TARGET ∧
    j ≠ Od.DCL_CHOP_DUTY ∧ j ≠ Od.DCL_DCL_STATUS ∧ (∀ x y, x < 24 → y < 8 → j ≠ Od.LU_A1 x y) ∧ (∀ x y, x < 24 → y < 8
    → j ≠ Od.LU_A2 x y) ∧ (∀ x y, x < 24 → y < 8 → j ≠ Od.LU_B0 x y) ∧ (∀ x y, x < 24 → y < 8 → j ≠ Od.LU_B1 x y) ∧ (∀
    x y, x < 24 → y < 8 → j ≠ Od.LU_B2 x y) ∧ j ≠ Od.LU_COMMITS (16 : Fin 24) ∧ j ≠ Od.LU_COMMITS (17 : Fin 24) ∧ j ≠
    Od.LU_COMMITS (22 : Fin 24) ∧ j ≠ Od.LU_DIR_SIGNS (16 : Fin 24) ∧ j ≠ Od.LU_DIR_SIGNS (17 : Fin 24) ∧ j ≠
    Od.LU_DIR_SIGNS (22 : Fin 24) ∧ j ≠ Od.LU_LU_CNT_STATUS (16 : Fin 24) ∧ j ≠ Od.LU_LU_CNT_STATUS (17 : Fin 24) ∧ j
    ≠ Od.LU_LU_CNT_STATUS (22 : Fin 24) ∧ (∀ x, x < 24 → j ≠ Od.LU_REF x) ∧ (∀ x, x < 8 → j ≠ Od.LU_SEC_CTRL (16 : Fin
    24) x) ∧ (∀ x, x < 8 → j ≠ Od.LU_SEC_CTRL (17 : Fin 24) x) ∧ (∀ x, x < 8 → j ≠ Od.LU_SEC_CTRL (22 : Fin 24) x) ∧ j
    ≠ Od.LV_BAT_SW_MODE ∧ j ≠ Od.LV_LV_STATE ∧ j ≠ Od.LV_LV_STATUS ∧ j ≠ Od.LV_VR_SOURCE ∧ (∀ x, x < 8 → j ≠
    Od.SOL_DUTY x) ∧ (∀ x, x < 8 → j ≠ Od.SOL_ENERGISATIONS x) ∧ (∀ x, x < 8 → j ≠ Od.SOL_SOL_CNT_STATUS x) ∧ (∀ x, x
    < 8 → j ≠ Od.SOL_SOL_STATUS x)) true s (execLvAckWrite dt who value s) := by
  unfold Machine.execLvAckWrite
  exact .reply (.step .writeLvAck (.step .elapse .refl))
theorem State.Leaves.senseBat {s : State} {v : Rat} : State.Leaves [.od, .aux] (fun j => j ≠ Od.LV_V_BAT) false s
    (s.senseBat v) := by
  unfold State.senseBat
  exact .step .modAux (.step .setQ .refl)
theorem State.Leaves.presenceDone {s : State} {v : Rat} {i : Rat} : State.Leaves [.od, .log, .links, .legs, .traction,
    .lus, .stageIn, .lvCommand, .gbx, .aux, .chg, .path] (fun j => (∀ x, x < 8 → j ≠ Od.AX_TQ_REF x) ∧ j ≠
    Od.BKP_BKP15 ∧ j ≠ Od.CNT_CNT_OVF_MAP ∧ j ≠ Od.CNV_AUX_STATUS ∧ j ≠ Od.CNV_VR_TARGET ∧ j ≠ Od.DCL_CHOP_DUTY ∧ j ≠
    Od.DCL_DCL_STATUS ∧ (∀ x y, x < 24 → y < 8 → j ≠ Od.LU_A1 x y) ∧ (∀ x y, x < 24 → y < 8 → j ≠ Od.LU_A2 x y) ∧ (∀ x
    y, x < 24 → y < 8 → j ≠ Od.LU_B0 x y) ∧ (∀ x y, x < 24 → y < 8 → j ≠ Od.LU_B1 x y) ∧ (∀ x y, x < 24 → y < 8 → j ≠
    Od.LU_B2 x y) ∧ j ≠ Od.LU_COMMITS (16 : Fin 24) ∧ j ≠ Od.LU_COMMITS (17 : Fin 24) ∧ j ≠ Od.LU_COMMITS (22 : Fin
    24) ∧ j ≠ Od.LU_DIR_SIGNS (16 : Fin 24) ∧ j ≠ Od.LU_DIR_SIGNS (17 : Fin 24) ∧ j ≠ Od.LU_DIR_SIGNS (22 : Fin 24) ∧
    j ≠ Od.LU_LU_CNT_STATUS (16 : Fin 24) ∧ j ≠ Od.LU_LU_CNT_STATUS (17 : Fin 24) ∧ j ≠ Od.LU_LU_CNT_STATUS (22 : Fin
    24) ∧ (∀ x, x < 24 → j ≠ Od.LU_REF x) ∧ (∀ x, x < 8 → j ≠ Od.LU_SEC_CTRL (16 : Fin 24) x) ∧ (∀ x, x < 8 → j ≠
    Od.LU_SEC_CTRL (17 : Fin 24) x) ∧ (∀ x, x < 8 → j ≠ Od.LU_SEC_CTRL (22 : Fin 24) x) ∧ j ≠ Od.LV_BAT_SW_MODE ∧ j ≠
    Od.LV_I_BAT ∧ j ≠ Od.LV_LV_STATE ∧ j ≠ Od.LV_LV_STATUS ∧ j ≠ Od.LV_V_BAT ∧ (∀ x, x < 8 → j ≠ Od.SOL_DUTY x) ∧ (∀
    x, x < 8 → j ≠ Od.SOL_ENERGISATIONS x) ∧ (∀ x, x < 8 → j ≠ Od.SOL_SOL_CNT_STATUS x) ∧ (∀ x, x < 8 → j ≠
    Od.SOL_SOL_STATUS x)) true s (s.presenceDone v i) := by
  unfold State.presenceDone
  exact .ite (.step .lvEvent (.step .lvEnter (.step .setBit (.step .modPath (.step .senseBatI (.step .senseBat
    .refl)))))) (.ite (.step .lvEvent (.step .lvEnter (.step .setBit (.step .modPath (.step .senseBatI (.step
    .senseBat .refl)))))) (.step .lvEnter (.step .setBit (.step .modPath (.step .senseBatI (.step .senseBat
    .refl))))))
theorem ResLeaves.execLvPresenceTestComplete {dt : Nat} {v : Rat} {i : Rat} {s : State} : ResLeaves [.od, .tb, .out, .log,
    .links, .legs, .traction, .lus, .stageIn, .lvCommand, .gbx, .aux, .chg, .path] (fun j => (∀ x, x < 8 → j ≠
    Od.AX_TQ_REF x) ∧ j ≠ Od.BKP_BKP15 ∧ j ≠ Od.CNT_CNT_OVF_MAP ∧ j ≠ Od.CNV_AUX_STATUS ∧ j ≠ Od.CNV_VR_TARGET ∧ j ≠
    Od.DCL_CHOP_DUTY ∧ j ≠ Od.DCL_DCL_STATUS ∧ (∀ x y, x < 24 → y < 8 → j ≠ Od.LU_A1 x y) ∧ (∀ x y, x < 24 → y < 8 → j
    ≠ Od.LU_A2 x y) ∧ (∀ x y, x < 24 → y < 8 → j ≠ Od.LU_B0 x y) ∧ (∀ x y, x < 24 → y < 8 → j ≠ Od.LU_B1 x y) ∧ (∀ x
    y, x < 24 → y < 8 → j ≠ Od.LU_B2 x y) ∧ j ≠ Od.LU_COMMITS (16 : Fin 24) ∧ j ≠ Od.LU_COMMITS (17 : Fin 24) ∧ j ≠
    Od.LU_COMMITS (22 : Fin 24) ∧ j ≠ Od.LU_DIR_SIGNS (16 : Fin 24) ∧ j ≠ Od.LU_DIR_SIGNS (17 : Fin 24) ∧ j ≠
    Od.LU_DIR_SIGNS (22 : Fin 24) ∧ j ≠ Od.LU_LU_CNT_STATUS (16 : Fin 24) ∧ j ≠ Od.LU_LU_CNT_STATUS (17 : Fin 24) ∧ j
    ≠ Od.LU_LU_CNT_STATUS (22 : Fin 24) ∧ (∀ x, x < 24 → j ≠ Od.LU_REF x) ∧ (∀ x, x < 8 → j ≠ Od.LU_SEC_CTRL (16 : Fin
    24) x) ∧ (∀ x, x < 8 → j ≠ Od.LU_SEC_CTRL (17 : Fin 24) x) ∧ (∀ x, x < 8 → j ≠ Od.LU_SEC_CTRL (22 : Fin 24) x) ∧ j
    ≠ Od.LV_BAT_SW_MODE ∧ j ≠ Od.LV_I_BAT ∧ j ≠ Od.LV_LV_STATE ∧ j ≠ Od.LV_LV_STATUS ∧ j ≠ Od.LV_V_BAT ∧ (∀ x, x < 8 →
    j ≠ Od.SOL_DUTY x) ∧ (∀ x, x < 8 → j ≠ Od.SOL_ENERGISATIONS x) ∧ (∀ x, x < 8 → j ≠ Od.SOL_SOL_CNT_STATUS x) ∧ (∀
    x, x < 8 → j ≠ Od.SOL_SOL_STATUS x)) true s (execLvPresenceTestComplete dt v i s) := by
  unfold Machine.execLvPresenceTestComplete
  exact .reply (.ite (.step .presenceDone (.step .elapse .refl)) (.step .elapse .refl))
theorem State.Leaves.lvTimed {s : State} : State.Leaves [.od, .log, .links, .legs, .traction, .lus, .stageIn,
    .lvCommand, .gbx, .aux, .chg, .path] (fun j => (∀ x, x < 8 → j ≠ Od.AX_TQ_REF x) ∧ j ≠ Od.BKP_BKP15 ∧ j ≠
    Od.CNT_CNT_OVF_MAP ∧ j ≠ Od.CNV_AUX_STATUS ∧ j ≠ Od.CNV_VR_TARGET ∧ j ≠ Od.DCL_CHOP_DUTY ∧ j ≠ Od.DCL_DCL_STATUS ∧
    (∀ x y, x < 24 → y < 8 → j ≠ Od.LU_A1 x y) ∧ (∀ x y, x < 24 → y < 8 → j ≠ Od.LU_A2 x y) ∧ (∀ x y, x < 24 → y < 8 →
    j ≠ Od.LU_B0 x y) ∧ (∀ x y, x < 24 → y < 8 → j ≠ Od.LU_B1 x y) ∧ (∀ x y, x < 24 → y < 8 → j ≠ Od.LU_B2 x y) ∧ j ≠
    Od.LU_COMMITS (16 : Fin 24) ∧ j ≠ Od.LU_COMMITS (17 : Fin 24) ∧ j ≠ Od.LU_COMMITS (22 : Fin 24) ∧ j ≠
    Od.LU_DIR_SIGNS (16 : Fin 24) ∧ j ≠ Od.LU_DIR_SIGNS (17 : Fin 24) ∧ j ≠ Od.LU_DIR_SIGNS (22 : Fin 24) ∧ j ≠
    Od.LU_LU_CNT_STATUS (16 : Fin 24) ∧ j ≠ Od.LU_LU_CNT_STATUS (17 : Fin 24) ∧ j ≠ Od.LU_LU_CNT_STATUS (22 : Fin 24)
    ∧ (∀ x, x < 24 → j ≠ Od.LU_REF x) ∧ (∀ x, x < 8 → j ≠ Od.LU_SEC_CTRL (16 : Fin 24) x) ∧ (∀ x, x < 8 → j ≠
    Od.LU_SEC_CTRL (17 : Fin 24) x) ∧ (∀ x, x < 8 → j ≠ Od.LU_SEC_CTRL (22 : Fin 24) x) ∧ j ≠ Od.LV_BAT_SW_MODE ∧ j ≠
    Od.LV_LV_STATE ∧ j ≠ Od.LV_LV_STATUS ∧ j ≠ Od.LV_LV_TIMER_min ∧ (∀ x, x < 8 → j ≠ Od.SOL_DUTY x) ∧ (∀ x, x < 8 → j
    ≠ Od.SOL_ENERGISATIONS x) ∧ (∀ x, x < 8 → j ≠ Od.SOL_SOL_CNT_STATUS x) ∧ (∀ x, x < 8 → j ≠ Od.SOL_SOL_STATUS x))
    true s (s.lvTimed) := by
  unfold State.lvTimed
  exact by split; exacts [(.ite (.step .lvEvent (.step .lvEnter .refl)) (.ite (.step .lvEnter .refl) .refl)), (.ite
    (.step .lvEvent (.step .lvEnter .refl)) (.ite (.step .lvEvent (.step .lvEnter .refl)) (.ite (.step .lvEnter .refl)
    .refl))), (.ite (.step .lvEnter .refl) .refl), (.ite (.ite (.step .lvEnter .refl) (.step .lvEvent (.step .lvEnter
    .refl))) .refl), (.ite (.step .lvEvent (.step .lvEnter .refl)) .refl), (.ite (.step .lvEnter .refl) .refl), (.ite
    (.step .lvCheck .refl) .refl), .refl]
theorem State.Leaves.hvDone {s : State} : State.Leaves [.od, .log, .chg] (fun j => j ≠ Od.HV_HV_STATE) false s
    (s.hvDone) := by
  unfold State.hvDone
  exact .step .chgEvent (.step .rampDown (.step .setHvState .refl))
theorem State.Leaves.hvTimed {s : State} : State.Leaves [.od, .log, .chg] (fun j => j ≠ Od.HV_HV_STATE ∧ j ≠
    Od.HV_HV_TIMER_min) false s (s.hvTimed) := by
  unfold State.hvTimed
  exact by split; exacts [(.ite (.step .setHvState .refl) .refl), (.ite (.ite (.step .setHvState .refl) (.step .hvDone
    .refl)) .refl), (.ite (.step .hvDone .refl) .refl), (.ite (.step .setHvState .refl) .refl), (.ite (.step .hvCheck
    .refl) .refl), .refl]
theorem ResLeaves.execChargeStateTimer {dt : Nat} {c : ChargeTarget} {s : State} : ResLeaves [.od, .tb, .out, .log,
    .links, .legs, .traction, .lus, .stageIn, .lvCommand, .gbx, .aux, .chg, .path] (fun j => (∀ x, x < 8 → j ≠
    Od.AX_TQ_REF x) ∧ j ≠ Od.BKP_BKP15 ∧ j ≠ Od.CNT_CNT_OVF_MAP ∧ j ≠ Od.CNV_AUX_STATUS ∧ j ≠ Od.CNV_VR_TARGET ∧ j ≠
    Od.DCL_CHOP_DUTY ∧ j ≠ Od.DCL_DCL_STATUS ∧ j ≠ Od.HV_HV_STATE ∧ j ≠ Od.HV_HV_TIMER_min ∧ (∀ x y, x < 24 → y < 8 →
    j ≠ Od.LU_A1 x y) ∧ (∀ x y, x < 24 → y < 8 → j ≠ Od.LU_A2 x y) ∧ (∀ x y, x < 24 → y < 8 → j ≠ Od.LU_B0 x y) ∧ (∀ x
    y, x < 24 → y < 8 → j ≠ Od.LU_B1 x y) ∧ (∀ x y, x < 24 → y < 8 → j ≠ Od.LU_B2 x y) ∧ j ≠ Od.LU_COMMITS (16 : Fin
    24) ∧ j ≠ Od.LU_COMMITS (17 : Fin 24) ∧ j ≠ Od.LU_COMMITS (22 : Fin 24) ∧ j ≠ Od.LU_DIR_SIGNS (16 : Fin 24) ∧ j ≠
    Od.LU_DIR_SIGNS (17 : Fin 24) ∧ j ≠ Od.LU_DIR_SIGNS (22 : Fin 24) ∧ j ≠ Od.LU_LU_CNT_STATUS (16 : Fin 24) ∧ j ≠
    Od.LU_LU_CNT_STATUS (17 : Fin 24) ∧ j ≠ Od.LU_LU_CNT_STATUS (22 : Fin 24) ∧ (∀ x, x < 24 → j ≠ Od.LU_REF x) ∧ (∀
    x, x < 8 → j ≠ Od.LU_SEC_CTRL (16 : Fin 24) x) ∧ (∀ x, x < 8 → j ≠ Od.LU_SEC_CTRL (17 : Fin 24) x) ∧ (∀ x, x < 8 →
    j ≠ Od.LU_SEC_CTRL (22 : Fin 24) x) ∧ j ≠ Od.LV_BAT_SW_MODE ∧ j ≠ Od.LV_LV_STATE ∧ j ≠ Od.LV_LV_STATUS ∧ j ≠
    Od.LV_LV_TIMER_min ∧ (∀ x, x < 8 → j ≠ Od.SOL_DUTY x) ∧ (∀ x, x < 8 → j ≠ Od.SOL_ENERGISATIONS x) ∧ (∀ x, x < 8 →
    j ≠ Od.SOL_SOL_CNT_STATUS x) ∧ (∀ x, x < 8 → j ≠ Od.SOL_SOL_STATUS x)) true s (execChargeStateTimer dt c s) := by
  unfold Machine.execChargeStateTimer
  exact .reply (by split; exacts [(.step .hvTimed (.step .elapse .refl)), (.step .lvTimed (.step .elapse .refl))])
theorem State.Leaves.lvExpired {s : State} : State.Leaves [.od, .log, .links, .legs, .traction, .lus, .stageIn,
    .lvCommand, .gbx, .aux, .chg, .path] (fun j => noReaction j) true s (s.lvExpired) := by
  unfold State.lvExpired
  exact .ite (.step .lvEvent (.stepR .lvEnter .refl)) .refl
theorem State.Leaves.hvExpired {s : State} : State.Leaves [.od, .log, .links, .drives, .cells, .legs, .store, .seqs,
    .axes, .traction, .lus, .stageIn, .lvCommand, .gbx, .dcl, .aux, .chg, .path] (fun j => noReaction j ∧ (∀ x, x < 15
    → j ≠ Od.OBS_ASC_COUNT x)) true s (s.hvExpired) := by
  unfold State.hvExpired
  exact .ite (.step .raise (.stepR .setHvState .refl)) .refl
theorem ResLeaves.execSafetyTimerExpiry {dt : Nat} {c : ChargeTarget} {s : State} : ResLeaves [.od, .tb, .out, .log,
    .links, .drives, .cells, .legs, .store, .seqs, .axes, .traction, .lus, .stageIn, .lvCommand, .gbx, .dcl, .aux,
    .chg, .path] (fun j => noReaction j ∧ (∀ x, x < 15 → j ≠ Od.OBS_ASC_COUNT x)) true s (execSafetyTimerExpiry dt c
    s) := by
  unfold Machine.execSafetyTimerExpiry
  exact .reply (by split; exacts [(.step .hvExpired (.step .elapse .refl)), (.step .lvExpired (.step .elapse .refl))])
theorem State.Leaves.losePack {s : State} {rate : Rat} {i0 : Rat} {i1 : Rat} : State.Leaves [.od, .log, .links, .drives,
    .cells, .legs, .store, .seqs, .axes, .traction, .lus, .stageIn, .lvCommand, .gbx, .dcl, .aux, .chg, .path] (fun j
    => noReaction j ∧ j ≠ Od.HV_HV_CNT_STATUS ∧ j ≠ Od.HV_PACK_LOSTS ∧ (∀ x, x < 15 → j ≠ Od.OBS_ASC_COUNT x)) true s
    (s.losePack rate i0 i1) := by
  unfold State.losePack
  exact .ite (.step .raise (.when (fun _ => (.stepR .setHvState .refl)) (.step .modChg (.stepR .count (.stepR
    .coastCell .refl))))) .refl
theorem ResLeaves.execPackLost {r : PackReading} {s : State} : ResLeaves [.od, .tb, .out, .log, .links, .drives,
    .cells, .legs, .store, .seqs, .axes, .traction, .lus, .stageIn, .lvCommand, .gbx, .dcl, .aux, .chg, .path] (fun j
    => noReaction j ∧ j ≠ Od.HV_HV_CNT_STATUS ∧ j ≠ Od.HV_PACK_LOSTS ∧ (∀ x, x < 15 → j ≠ Od.OBS_ASC_COUNT x)) true s
    (execPackLost r s) := by
  unfold Machine.execPackLost
  exact .reply (.step .losePack (.step .elapse .refl))
theorem State.Leaves.sendStatus {s : State} : State.Leaves [.od, .log, .chg, .chans] (fun j => j ≠
    Od.CAN_CAN_CNT_STATUS (2 : Fin 4) ∧ j ≠ Od.CAN_SLOT_REFUSALS (2 : Fin 4) ∧ j ≠ Od.CAN_STALE_DROPS (2 : Fin 4) ∧ j
    ≠ Od.CNT_CNT_OVF_MAP) false s (s.sendStatus) := by
  unfold State.sendStatus
  exact .step .modChg (.step .slotWrite .refl)
theorem ResLeaves.execModuleStatusSend {dt : Nat} {s : State} : ResLeaves [.od, .tb, .out, .log, .chg, .chans] (fun j =>
    j ≠ Od.CAN_CAN_CNT_STATUS (2 : Fin 4) ∧ j ≠ Od.CAN_SLOT_REFUSALS (2 : Fin 4) ∧ j ≠ Od.CAN_STALE_DROPS (2 : Fin 4)
    ∧ j ≠ Od.CNT_CNT_OVF_MAP) false s (execModuleStatusSend dt s) := by
  unfold Machine.execModuleStatusSend
  exact .reply (.ite (.step .sendStatus (.step .elapse .refl)) (.step .elapse .refl))
theorem State.Leaves.bmsSilent {s : State} : State.Leaves [.od, .log, .links, .drives, .cells, .legs, .store, .seqs,
    .axes, .traction, .lus, .stageIn, .lvCommand, .gbx, .dcl, .aux, .chg, .path] (fun j => noReaction j ∧ j ≠
    Od.HV_BMS_TIMEOUTS ∧ j ≠ Od.HV_HV_CNT_STATUS ∧ (∀ x, x < 15 → j ≠ Od.OBS_ASC_COUNT x)) true s (s.bmsSilent) := by
  unfold State.bmsSilent
  exact .ite (.step .raise (.stepR .count (.step .modChg (.stepR .setChg .refl)))) .refl
theorem ResLeaves.execBmsTimeout {dt : Nat} {s : State} : ResLeaves [.od, .tb, .out, .log, .links, .drives, .cells,
    .legs, .store, .seqs, .axes, .traction, .lus, .stageIn, .lvCommand, .gbx, .dcl, .aux, .chg, .path] (fun j =>
    noReaction j ∧ j ≠ Od.HV_BMS_TIMEOUTS ∧ j ≠ Od.HV_HV_CNT_STATUS ∧ (∀ x, x < 15 → j ≠ Od.OBS_ASC_COUNT x)) true s
    (execBmsTimeout dt s) := by
  unfold Machine.execBmsTimeout
  exact .reply (.step .bmsSilent (.step .elapse .refl))
theorem State.Leaves.bmsLimits {s : State} {d : BitVec 64} : State.Leaves [.od, .log, .links, .cells, .legs, .stageIn,
    .chg] (fun j => j ≠ Od.CHG_SESSION_STEP ∧ j ≠ Od.CHR_AC_PHASES ∧ j ≠ Od.CHR_CHG_STATUS ∧ j ≠ Od.CNT_CNT_OVF_MAP ∧
    j ≠ Od.CNV_DAB_PHASE ∧ j ≠ Od.HV_BMS_CV_V ∧ j ≠ Od.HV_BMS_FLAGS ∧ j ≠ Od.HV_BMS_I_CHG ∧ j ≠ Od.HV_BMS_I_DIS ∧ j ≠
    Od.HV_HV_STATE ∧ (∀ x, x < 15 → j ≠ Od.OBS_ASC_TIME_ms x) ∧ (∀ x, x < 15 → j ≠ Od.OBS_OBS_CNT_STATUS x) ∧ (∀ x, x
    < 50 → j ≠ Od.SH_CH_STATUS x)) false s (s.bmsLimits d) := by
  unfold State.bmsLimits
  exact .ite (.step .chgEvent (.step .setBit .refl)) (.ite (.ite (.step .hvDone (.step .modChg (.step .setChg (.step
    .setN (.step .setQ (.step .setQ (.step .setQ .refl))))))) (.ite (.step .relaysOpen (.step .chargerOff (.step
    .modChg (.step .setChg (.step .setN (.step .setQ (.step .setQ (.step .setQ .refl)))))))) (.step .modChg (.step
    .setChg (.step .setN (.step .setQ (.step .setQ (.step .setQ .refl)))))))) (.step .modChg (.step .setChg (.step
    .setN (.step .setQ (.step .setQ (.step .setQ .refl)))))))
theorem State.Leaves.bmsFrame {s : State} {packFrame : Bool} {d : BitVec 64} : State.Leaves [.od, .log, .links,
    .cells, .legs, .stageIn, .chg] (fun j => j ≠ Od.CHG_SESSION_STEP ∧ j ≠ Od.CHR_AC_PHASES ∧ j ≠ Od.CHR_CHG_STATUS ∧
    j ≠ Od.CNT_CNT_OVF_MAP ∧ j ≠ Od.CNV_DAB_PHASE ∧ j ≠ Od.HV_BMS_CV_V ∧ j ≠ Od.HV_BMS_FLAGS ∧ j ≠ Od.HV_BMS_I_CHG ∧ j
    ≠ Od.HV_BMS_I_DIS ∧ j ≠ Od.HV_BMS_V_PACK ∧ j ≠ Od.HV_HV_STATE ∧ (∀ x, x < 15 → j ≠ Od.OBS_ASC_TIME_ms x) ∧ (∀ x, x
    < 15 → j ≠ Od.OBS_OBS_CNT_STATUS x) ∧ (∀ x, x < 50 → j ≠ Od.SH_CH_STATUS x)) false s (s.bmsFrame packFrame d) :=
    by
  unfold State.bmsFrame
  exact .ite (.step .modChg (.step .setQ .refl)) (.step .bmsLimits .refl)
theorem ResLeaves.execBmsMessageReceive {dt : Nat} {packFrame : Bool} {data : BitVec 64} {s : State} : ResLeaves [.od,
    .tb, .out, .log, .links, .cells, .legs, .stageIn, .chg, .chans] (fun j => j ≠ Od.CHG_SESSION_STEP ∧ j ≠
    Od.CHR_AC_PHASES ∧ j ≠ Od.CHR_CHG_STATUS ∧ j ≠ Od.CNT_CNT_OVF_MAP ∧ j ≠ Od.CNV_DAB_PHASE ∧ j ≠ Od.HV_BMS_CV_V ∧ j
    ≠ Od.HV_BMS_FLAGS ∧ j ≠ Od.HV_BMS_I_CHG ∧ j ≠ Od.HV_BMS_I_DIS ∧ j ≠ Od.HV_BMS_V_PACK ∧ j ≠ Od.HV_HV_STATE ∧ (∀ x,
    x < 15 → j ≠ Od.OBS_ASC_TIME_ms x) ∧ (∀ x, x < 15 → j ≠ Od.OBS_OBS_CNT_STATUS x) ∧ (∀ x, x < 50 → j ≠
    Od.SH_CH_STATUS x)) false s (execBmsMessageReceive dt packFrame data s) := by
  unfold Machine.execBmsMessageReceive
  exact .reply (.step .bmsFrame (.step .rxTakeId (.step .elapse .refl)))
theorem State.Leaves.prechargeLate {s : State} : State.Leaves [.od, .log, .links, .drives, .cells, .legs, .store,
    .seqs, .axes, .traction, .lus, .stageIn, .lvCommand, .gbx, .dcl, .aux, .chg, .path] (fun j => noReaction j ∧ (∀ x,
    x < 15 → j ≠ Od.OBS_ASC_COUNT x)) true s (s.prechargeLate) := by
  unfold State.prechargeLate
  exact .ite (.step .raise .refl) .refl
theorem ResLeaves.execPfcPrechargeTimeout {dt : Nat} {s : State} : ResLeaves [.od, .tb, .out, .log, .links, .drives,
    .cells, .legs, .store, .seqs, .axes, .traction, .lus, .stageIn, .lvCommand, .gbx, .dcl, .aux, .chg, .path] (fun j
    => noReaction j ∧ (∀ x, x < 15 → j ≠ Od.OBS_ASC_COUNT x)) true s (execPfcPrechargeTimeout dt s) := by
  unfold Machine.execPfcPrechargeTimeout
  exact .reply (.step .prechargeLate (.step .elapse .refl))
theorem State.Leaves.setSession {s : State} {n : Nat} : State.Leaves [.od, .chg] (fun j => j ≠ Od.CHG_SESSION_STEP)
    false s (s.setSession n) := by
  unfold State.setSession
  exact .step .modChg (.step .setN .refl)
theorem State.Leaves.acWaitOver {s : State} : State.Leaves [.od, .log, .chg] (fun j => j ≠ Od.CHG_SESSION_STEP ∧ j ≠
    Od.CHR_CHG_STATUS) false s (s.acWaitOver) := by
  unfold State.acWaitOver
  exact .ite (.step .chgEvent (.step .modChg (.step .setSession (.step .setChg .refl)))) .refl
theorem ResLeaves.execAcWaitTimeout {dt : Nat} {s : State} : ResLeaves [.od, .tb, .out, .log, .chg] (fun j => j ≠
    Od.CHG_SESSION_STEP ∧ j ≠ Od.CHR_CHG_STATUS) false s (execAcWaitTimeout dt s) := by
  unfold Machine.execAcWaitTimeout
  exact .reply (.step .acWaitOver (.step .elapse .refl))
theorem State.Leaves.autoCharge {s : State} : State.Leaves [.drives, .cells] (fun _ => True) false s (s.autoCharge) :=
    by
  unfold State.autoCharge
  exact .ite (.step .startArming .refl) .refl
theorem ResLeaves.execAutoChargeStart {dt : Nat} {s : State} : ResLeaves [.tb, .out, .log, .drives, .cells] (fun _ =>
    True) false s (execAutoChargeStart dt s) := by
  unfold Machine.execAutoChargeStart
  exact .reply (.step .autoCharge (.step .elapse .refl))
theorem State.Leaves.openSession {s : State} : State.Leaves [.od, .log, .chg] (fun j => j ≠ Od.CHG_SESSION_STEP ∧ j ≠
    Od.CHR_AC_I_LIM_ACT ∧ j ≠ Od.LU_OUT_MAX 19) false s (s.openSession) := by
  unfold State.openSession
  exact .ite (.step .chgEvent (.step .setSession (.step .acLimit .refl))) .refl
theorem ResLeaves.execChargeSessionOpen {dt : Nat} {s : State} : ResLeaves [.od, .tb, .out, .log, .chg] (fun j => j ≠
    Od.CHG_SESSION_STEP ∧ j ≠ Od.CHR_AC_I_LIM_ACT ∧ j ≠ Od.LU_OUT_MAX 19) false s (execChargeSessionOpen dt s) := by
  unfold Machine.execChargeSessionOpen
  exact .reply (.step .openSession (.step .elapse .refl))
theorem State.Leaves.stopSession {s : State} : State.Leaves [.od, .log, .links, .drives, .cells, .legs, .store, .seqs,
    .axes, .traction, .lus, .stageIn, .lvCommand, .gbx, .dcl, .aux, .chg, .path] (fun j => noReaction j ∧ (∀ x, x < 15
    → j ≠ Od.OBS_ASC_COUNT x)) true s (s.stopSession) := by
  unfold State.stopSession
  exact .ite (.step .raise .refl) .refl
theorem State.Leaves.supplyLost {s : State} : State.Leaves [.od, .log, .links, .drives, .cells, .legs, .store, .seqs,
    .axes, .traction, .lus, .stageIn, .lvCommand, .gbx, .dcl, .aux, .chg, .path] (fun j => noReaction j ∧ (∀ x, x < 15
    → j ≠ Od.OBS_ASC_COUNT x)) true s (s.supplyLost) := by
  unfold State.supplyLost
  exact .ite (.step .stopSession (.step .chgEvent (.stepR .setChg .refl))) .refl
theorem ResLeaves.execSupplyOutOfWindow {dt : Nat} {s : State} : ResLeaves [.od, .tb, .out, .log, .links, .drives,
    .cells, .legs, .store, .seqs, .axes, .traction, .lus, .stageIn, .lvCommand, .gbx, .dcl, .aux, .chg, .path] (fun j
    => noReaction j ∧ (∀ x, x < 15 → j ≠ Od.OBS_ASC_COUNT x)) true s (execSupplyOutOfWindow dt s) := by
  unfold Machine.execSupplyOutOfWindow
  exact .reply (.step .supplyLost (.step .elapse .refl))
theorem State.Leaves.stopExport {s : State} : State.Leaves [.od, .log, .links, .drives, .cells, .legs, .store, .seqs,
    .axes, .traction, .lus, .stageIn, .lvCommand, .gbx, .dcl, .aux, .chg, .path] (fun j => noReaction j ∧ (∀ x, x < 15
    → j ≠ Od.OBS_ASC_COUNT x)) true s (s.stopExport) := by
  unfold State.stopExport
  exact .ite (.step .raise .refl) .refl
theorem State.Leaves.cableGone {s : State} : State.Leaves [.od, .chg] (fun j => j ≠ Od.CHG_SESSION_STEP) false s
    (s.cableGone) := by
  unfold State.cableGone
  exact .step .modChg (.step .setSession .refl)
theorem State.Leaves.proximity {s : State} {ohm : Rat} : State.Leaves [.od, .log, .links, .drives, .cells, .legs,
    .store, .seqs, .axes, .traction, .lus, .stageIn, .lvCommand, .gbx, .dcl, .aux, .chg, .path] (fun j => noReaction j
    ∧ j ≠ Od.CHR_AC_I_LIM_ACT ∧ j ≠ Od.CHR_PROX_I ∧ j ≠ Od.CHR_PROX_OHM ∧ j ≠ Od.LU_OUT_MAX 19 ∧ (∀ x, x < 15 → j ≠
    Od.OBS_ASC_COUNT x)) true s (s.proximity ohm) := by
  unfold State.proximity
  exact by split; exacts [(.ite (.stepR .cableGone (.step .stopSession (.stepR .acLimit (.stepR .setBit (.stepR
    .setChg (.stepR .setChg (.stepR .setQ (.stepR .setQ .refl)))))))) (.step .stopExport (.stepR .acLimit (.stepR
    .setBit (.stepR .setChg (.stepR .setChg (.stepR .setQ (.stepR .setQ .refl)))))))), (.stepR .cableGone (.step
    .stopExport (.step .stopSession (.step .chgEvent (.stepR .acLimit (.stepR .setBit (.stepR .setChg (.stepR .setChg
    (.stepR .setQ (.stepR .setQ .refl))))))))))]
theorem ResLeaves.execProximityChange {dt : Nat} {ohm : Rat} {s : State} : ResLeaves [.od, .tb, .out, .log, .links,
    .drives, .cells, .legs, .store, .seqs, .axes, .traction, .lus, .stageIn, .lvCommand, .gbx, .dcl, .aux, .chg,
    .path] (fun j => noReaction j ∧ j ≠ Od.CHR_AC_I_LIM_ACT ∧ j ≠ Od.CHR_PROX_I ∧ j ≠ Od.CHR_PROX_OHM ∧ j ≠
    Od.LU_OUT_MAX 19 ∧ (∀ x, x < 15 → j ≠ Od.OBS_ASC_COUNT x)) true s (execProximityChange dt ohm s) := by
  unfold Machine.execProximityChange
  exact .reply (.step .proximity (.step .elapse .refl))
theorem State.Leaves.pilotDuty {s : State} {duty : Rat} : State.Leaves [.od, .log, .chg] (fun j => j ≠
    Od.CHR_AC_I_LIM_ACT ∧ j ≠ Od.CHR_CHG_STATUS ∧ j ≠ Od.CHR_PILOT_DUTY ∧ j ≠ Od.CHR_PILOT_I ∧ j ≠ Od.LU_OUT_MAX 19)
    false s (s.pilotDuty duty) := by
  unfold State.pilotDuty
  exact .ite (.step .chgEvent (.step .modChg (.step .setChg (.step .acLimit (.step .setQ (.step .setQ .refl))))))
    (.step .setChg (.step .acLimit (.step .setQ (.step .setQ .refl))))
theorem ResLeaves.execPilotDutyChange {dt : Nat} {duty : Rat} {s : State} : ResLeaves [.od, .tb, .out, .log, .chg] (fun j
    => j ≠ Od.CHR_AC_I_LIM_ACT ∧ j ≠ Od.CHR_CHG_STATUS ∧ j ≠ Od.CHR_PILOT_DUTY ∧ j ≠ Od.CHR_PILOT_I ∧ j ≠
    Od.LU_OUT_MAX 19) false s (execPilotDutyChange dt duty s) := by
  unfold Machine.execPilotDutyChange
  exact .reply (.step .pilotDuty (.step .elapse .refl))
theorem State.Leaves.pilotChange {s : State} {p : PilotState} : State.Leaves [.od, .log, .links, .drives, .cells,
    .legs, .store, .seqs, .axes, .traction, .lus, .stageIn, .lvCommand, .gbx, .dcl, .aux, .chg, .path] (fun j =>
    noReaction j ∧ j ≠ Od.CHR_PILOT_STATE ∧ (∀ x, x < 15 → j ≠ Od.OBS_ASC_COUNT x)) true s (s.pilotChange p) := by
  unfold State.pilotChange
  exact by split; exacts [(.stepR .cableGone (.step .stopSession (.stepR .setChg (.stepR .setN .refl)))), (.ite (.step
    .stopCharge (.stepR .setChg (.stepR .setN .refl))) (.stepR .setChg (.stepR .setN .refl))), (.stepR .setChg (.stepR
    .setN .refl)), (.step .stopSession (.stepR .setChg (.stepR .setN .refl)))]
theorem State.Leaves.pilotTake {s : State} {pos : Rat} {neg : Rat} : State.Leaves [.od, .log, .links, .drives, .cells,
    .legs, .store, .seqs, .axes, .traction, .lus, .stageIn, .lvCommand, .gbx, .dcl, .aux, .chg, .path] (fun j =>
    noReaction j ∧ j ≠ Od.CHR_PILOT_STATE ∧ (∀ x, x < 15 → j ≠ Od.OBS_ASC_COUNT x)) true s (s.pilotTake pos neg) := by
  unfold State.pilotTake
  exact .ite (.step .pilotChange (.step .modChg .refl)) (.step .modChg .refl)
theorem ResLeaves.execPilotStateChange {dt : Nat} {p : PilotLevels} {s : State} : ResLeaves [.od, .tb, .out, .log,
    .links, .drives, .cells, .legs, .store, .seqs, .axes, .traction, .lus, .stageIn, .lvCommand, .gbx, .dcl, .aux,
    .chg, .path] (fun j => noReaction j ∧ j ≠ Od.CHR_PILOT_STATE ∧ (∀ x, x < 15 → j ≠ Od.OBS_ASC_COUNT x)) true s
    (execPilotStateChange dt p s) := by
  unfold Machine.execPilotStateChange
  exact .reply (.step .pilotTake (.step .elapse .refl))
theorem State.Leaves.towLow {s : State} {v : Rat} : State.Leaves [.od, .log, .links, .cells, .legs, .traction, .lus,
    .stageIn, .lvCommand, .gbx, .aux] (fun j => (∀ x, x < 8 → j ≠ Od.AX_TQ_REF x) ∧ j ≠ Od.CNT_CNT_OVF_MAP ∧ j ≠
    Od.CNV_AUX_MODE ∧ j ≠ Od.CNV_AUX_STATUS ∧ j ≠ Od.DCL_CHOP_DUTY ∧ j ≠ Od.DCL_DCL_STATUS ∧ (∀ x y, x < 24 → y < 8 →
    j ≠ Od.LU_A1 x y) ∧ (∀ x y, x < 24 → y < 8 → j ≠ Od.LU_A2 x y) ∧ (∀ x y, x < 24 → y < 8 → j ≠ Od.LU_B0 x y) ∧ (∀ x
    y, x < 24 → y < 8 → j ≠ Od.LU_B1 x y) ∧ (∀ x y, x < 24 → y < 8 → j ≠ Od.LU_B2 x y) ∧ j ≠ Od.LU_COMMITS (16 : Fin
    24) ∧ j ≠ Od.LU_COMMITS (17 : Fin 24) ∧ j ≠ Od.LU_COMMITS (22 : Fin 24) ∧ j ≠ Od.LU_DIR_SIGNS (16 : Fin 24) ∧ j ≠
    Od.LU_DIR_SIGNS (17 : Fin 24) ∧ j ≠ Od.LU_DIR_SIGNS (22 : Fin 24) ∧ j ≠ Od.LU_LU_CNT_STATUS (16 : Fin 24) ∧ j ≠
    Od.LU_LU_CNT_STATUS (17 : Fin 24) ∧ j ≠ Od.LU_LU_CNT_STATUS (22 : Fin 24) ∧ (∀ x, x < 24 → j ≠ Od.LU_REF x) ∧ (∀
    x, x < 8 → j ≠ Od.LU_SEC_CTRL (16 : Fin 24) x) ∧ (∀ x, x < 8 → j ≠ Od.LU_SEC_CTRL (17 : Fin 24) x) ∧ (∀ x, x < 8 →
    j ≠ Od.LU_SEC_CTRL (22 : Fin 24) x) ∧ j ≠ Od.LV_LV_STATUS ∧ j ≠ Od.LV_V_BAT ∧ j ≠ Od.OBS_ASC_TIME_ms (10 : Fin 15)
    ∧ j ≠ Od.OBS_OBS_CNT_STATUS (10 : Fin 15) ∧ (∀ x, x < 50 → j ≠ Od.SH_CH_STATUS x) ∧ (∀ x, x < 8 → j ≠ Od.SOL_DUTY
    x) ∧ (∀ x, x < 8 → j ≠ Od.SOL_ENERGISATIONS x) ∧ (∀ x, x < 8 → j ≠ Od.SOL_SOL_CNT_STATUS x) ∧ (∀ x, x < 8 → j ≠
    Od.SOL_SOL_STATUS x)) true s (s.towLow v) := by
  unfold State.towLow
  exact .ite (.step .aux48 (.step .setAuxMode (.step .auxEvent (.step .towStop (.step .senseBat .refl))))) (.step
    .senseBat .refl)
theorem ResLeaves.execTowBatteryLow {dt : Nat} {v : Rat} {s : State} : ResLeaves [.od, .tb, .out, .log, .links, .cells,
    .legs, .traction, .lus, .stageIn, .lvCommand, .gbx, .aux] (fun j => (∀ x, x < 8 → j ≠ Od.AX_TQ_REF x) ∧ j ≠
    Od.CNT_CNT_OVF_MAP ∧ j ≠ Od.CNV_AUX_MODE ∧ j ≠ Od.CNV_AUX_STATUS ∧ j ≠ Od.DCL_CHOP_DUTY ∧ j ≠ Od.DCL_DCL_STATUS ∧
    (∀ x y, x < 24 → y < 8 → j ≠ Od.LU_A1 x y) ∧ (∀ x y, x < 24 → y < 8 → j ≠ Od.LU_A2 x y) ∧ (∀ x y, x < 24 → y < 8 →
    j ≠ Od.LU_B0 x y) ∧ (∀ x y, x < 24 → y < 8 → j ≠ Od.LU_B1 x y) ∧ (∀ x y, x < 24 → y < 8 → j ≠ Od.LU_B2 x y) ∧ j ≠
    Od.LU_COMMITS (16 : Fin 24) ∧ j ≠ Od.LU_COMMITS (17 : Fin 24) ∧ j ≠ Od.LU_COMMITS (22 : Fin 24) ∧ j ≠
    Od.LU_DIR_SIGNS (16 : Fin 24) ∧ j ≠ Od.LU_DIR_SIGNS (17 : Fin 24) ∧ j ≠ Od.LU_DIR_SIGNS (22 : Fin 24) ∧ j ≠
    Od.LU_LU_CNT_STATUS (16 : Fin 24) ∧ j ≠ Od.LU_LU_CNT_STATUS (17 : Fin 24) ∧ j ≠ Od.LU_LU_CNT_STATUS (22 : Fin 24)
    ∧ (∀ x, x < 24 → j ≠ Od.LU_REF x) ∧ (∀ x, x < 8 → j ≠ Od.LU_SEC_CTRL (16 : Fin 24) x) ∧ (∀ x, x < 8 → j ≠
    Od.LU_SEC_CTRL (17 : Fin 24) x) ∧ (∀ x, x < 8 → j ≠ Od.LU_SEC_CTRL (22 : Fin 24) x) ∧ j ≠ Od.LV_LV_STATUS ∧ j ≠
    Od.LV_V_BAT ∧ j ≠ Od.OBS_ASC_TIME_ms (10 : Fin 15) ∧ j ≠ Od.OBS_OBS_CNT_STATUS (10 : Fin 15) ∧ (∀ x, x < 50 → j ≠
    Od.SH_CH_STATUS x) ∧ (∀ x, x < 8 → j ≠ Od.SOL_DUTY x) ∧ (∀ x, x < 8 → j ≠ Od.SOL_ENERGISATIONS x) ∧ (∀ x, x < 8 →
    j ≠ Od.SOL_SOL_CNT_STATUS x) ∧ (∀ x, x < 8 → j ≠ Od.SOL_SOL_STATUS x)) true s (execTowBatteryLow dt v s) := by
  unfold Machine.execTowBatteryLow
  exact .reply (.step .towLow (.step .elapse .refl))
theorem State.Leaves.senseVr {s : State} {v : Rat} : State.Leaves [.od, .aux] (fun j => j ≠ Od.CNV_V_VR) false s
    (s.senseVr v) := by
  unfold State.senseVr
  exact .step .modAux (.step .setQ .refl)
theorem State.Leaves.vrHigh {s : State} {v : Rat} : State.Leaves [.od, .log, .links, .drives, .cells, .legs, .store,
    .seqs, .axes, .traction, .lus, .stageIn, .lvCommand, .gbx, .dcl, .aux, .chg, .path] (fun j => noReaction j ∧ j ≠
    Od.CNV_V_VR ∧ (∀ x, x < 15 → j ≠ Od.OBS_ASC_COUNT x)) true s (s.vrHigh v) := by
  unfold State.vrHigh
  exact .ite (.step .raise (.stepR .setBit (.stepR .senseVr .refl))) (.stepR .senseVr .refl)
theorem ResLeaves.execVrOvervoltage {dt : Nat} {v : Rat} {s : State} : ResLeaves [.od, .tb, .out, .log, .links, .drives,
    .cells, .legs, .store, .seqs, .axes, .traction, .lus, .stageIn, .lvCommand, .gbx, .dcl, .aux, .chg, .path] (fun j
    => noReaction j ∧ j ≠ Od.CNV_V_VR ∧ (∀ x, x < 15 → j ≠ Od.OBS_ASC_COUNT x)) true s (execVrOvervoltage dt v s) :=
    by
  unfold Machine.execVrOvervoltage
  exact .reply (.step .vrHigh (.step .elapse .refl))
theorem State.Leaves.senseIb {s : State} {v : Rat} : State.Leaves [.od, .aux] (fun j => j ≠ Od.CNV_V_IB) false s
    (s.senseIb v) := by
  unfold State.senseIb
  exact .step .modAux (.step .setQ .refl)
theorem State.Leaves.ibLost {s : State} {v : Rat} : State.Leaves [.od, .log, .links, .drives, .cells, .legs, .traction,
    .lus, .stageIn, .lvCommand, .gbx, .aux, .chg, .path] (fun j => (∀ x, x < 8 → j ≠ Od.AX_TQ_REF x) ∧ j ≠
    Od.BKP_BKP15 ∧ j ≠ Od.CNT_CNT_OVF_MAP ∧ j ≠ Od.CNV_AUX_MODE ∧ j ≠ Od.CNV_AUX_STATUS ∧ j ≠ Od.CNV_DAB_PHASE ∧ j ≠
    Od.CNV_VR_TARGET ∧ j ≠ Od.CNV_V_IB ∧ j ≠ Od.DCL_CHOP_DUTY ∧ j ≠ Od.DCL_DCL_STATUS ∧ (∀ x y, x < 24 → y < 8 → j ≠
    Od.LU_A1 x y) ∧ (∀ x y, x < 24 → y < 8 → j ≠ Od.LU_A2 x y) ∧ (∀ x y, x < 24 → y < 8 → j ≠ Od.LU_B0 x y) ∧ (∀ x y,
    x < 24 → y < 8 → j ≠ Od.LU_B1 x y) ∧ (∀ x y, x < 24 → y < 8 → j ≠ Od.LU_B2 x y) ∧ j ≠ Od.LU_COMMITS (16 : Fin 24)
    ∧ j ≠ Od.LU_COMMITS (17 : Fin 24) ∧ j ≠ Od.LU_COMMITS (22 : Fin 24) ∧ j ≠ Od.LU_DIR_SIGNS (16 : Fin 24) ∧ j ≠
    Od.LU_DIR_SIGNS (17 : Fin 24) ∧ j ≠ Od.LU_DIR_SIGNS (22 : Fin 24) ∧ j ≠ Od.LU_LU_CNT_STATUS (16 : Fin 24) ∧ j ≠
    Od.LU_LU_CNT_STATUS (17 : Fin 24) ∧ j ≠ Od.LU_LU_CNT_STATUS (22 : Fin 24) ∧ (∀ x, x < 24 → j ≠ Od.LU_REF x) ∧ (∀
    x, x < 8 → j ≠ Od.LU_SEC_CTRL (16 : Fin 24) x) ∧ (∀ x, x < 8 → j ≠ Od.LU_SEC_CTRL (17 : Fin 24) x) ∧ (∀ x, x < 8 →
    j ≠ Od.LU_SEC_CTRL (22 : Fin 24) x) ∧ j ≠ Od.LV_BAT_SW_MODE ∧ j ≠ Od.LV_HANDOVERS ∧ j ≠ Od.LV_LV_CNT_STATUS ∧ j ≠
    Od.LV_LV_STATE ∧ j ≠ Od.LV_LV_STATUS ∧ j ≠ Od.LV_VR_SOURCE ∧ j ≠ Od.OBS_ASC_TIME_ms (10 : Fin 15) ∧ j ≠
    Od.OBS_OBS_CNT_STATUS (10 : Fin 15) ∧ (∀ x, x < 50 → j ≠ Od.SH_CH_STATUS x) ∧ (∀ x, x < 8 → j ≠ Od.SOL_DUTY x) ∧
    (∀ x, x < 8 → j ≠ Od.SOL_ENERGISATIONS x) ∧ (∀ x, x < 8 → j ≠ Od.SOL_SOL_CNT_STATUS x) ∧ (∀ x, x < 8 → j ≠
    Od.SOL_SOL_STATUS x)) true s (s.ibLost v) := by
  unfold State.ibLost
  exact .ite (.step .aux48 (.step .enterIbStart (.step .buckStop (.step .auxEvent (.step .senseIb .refl))))) (.step
    .senseIb .refl)
theorem ResLeaves.execIbLost {dt : Nat} {v : Rat} {s : State} : ResLeaves [.od, .tb, .out, .log, .links, .drives, .cells,
    .legs, .traction, .lus, .stageIn, .lvCommand, .gbx, .aux, .chg, .path] (fun j => (∀ x, x < 8 → j ≠ Od.AX_TQ_REF x)
    ∧ j ≠ Od.BKP_BKP15 ∧ j ≠ Od.CNT_CNT_OVF_MAP ∧ j ≠ Od.CNV_AUX_MODE ∧ j ≠ Od.CNV_AUX_STATUS ∧ j ≠ Od.CNV_DAB_PHASE ∧
    j ≠ Od.CNV_VR_TARGET ∧ j ≠ Od.CNV_V_IB ∧ j ≠ Od.DCL_CHOP_DUTY ∧ j ≠ Od.DCL_DCL_STATUS ∧ (∀ x y, x < 24 → y < 8 → j
    ≠ Od.LU_A1 x y) ∧ (∀ x y, x < 24 → y < 8 → j ≠ Od.LU_A2 x y) ∧ (∀ x y, x < 24 → y < 8 → j ≠ Od.LU_B0 x y) ∧ (∀ x
    y, x < 24 → y < 8 → j ≠ Od.LU_B1 x y) ∧ (∀ x y, x < 24 → y < 8 → j ≠ Od.LU_B2 x y) ∧ j ≠ Od.LU_COMMITS (16 : Fin
    24) ∧ j ≠ Od.LU_COMMITS (17 : Fin 24) ∧ j ≠ Od.LU_COMMITS (22 : Fin 24) ∧ j ≠ Od.LU_DIR_SIGNS (16 : Fin 24) ∧ j ≠
    Od.LU_DIR_SIGNS (17 : Fin 24) ∧ j ≠ Od.LU_DIR_SIGNS (22 : Fin 24) ∧ j ≠ Od.LU_LU_CNT_STATUS (16 : Fin 24) ∧ j ≠
    Od.LU_LU_CNT_STATUS (17 : Fin 24) ∧ j ≠ Od.LU_LU_CNT_STATUS (22 : Fin 24) ∧ (∀ x, x < 24 → j ≠ Od.LU_REF x) ∧ (∀
    x, x < 8 → j ≠ Od.LU_SEC_CTRL (16 : Fin 24) x) ∧ (∀ x, x < 8 → j ≠ Od.LU_SEC_CTRL (17 : Fin 24) x) ∧ (∀ x, x < 8 →
    j ≠ Od.LU_SEC_CTRL (22 : Fin 24) x) ∧ j ≠ Od.LV_BAT_SW_MODE ∧ j ≠ Od.LV_HANDOVERS ∧ j ≠ Od.LV_LV_CNT_STATUS ∧ j ≠
    Od.LV_LV_STATE ∧ j ≠ Od.LV_LV_STATUS ∧ j ≠ Od.LV_VR_SOURCE ∧ j ≠ Od.OBS_ASC_TIME_ms (10 : Fin 15) ∧ j ≠
    Od.OBS_OBS_CNT_STATUS (10 : Fin 15) ∧ (∀ x, x < 50 → j ≠ Od.SH_CH_STATUS x) ∧ (∀ x, x < 8 → j ≠ Od.SOL_DUTY x) ∧
    (∀ x, x < 8 → j ≠ Od.SOL_ENERGISATIONS x) ∧ (∀ x, x < 8 → j ≠ Od.SOL_SOL_CNT_STATUS x) ∧ (∀ x, x < 8 → j ≠
    Od.SOL_SOL_STATUS x)) true s (execIbLost dt v s) := by
  unfold Machine.execIbLost
  exact .reply (.step .ibLost (.step .elapse .refl))
theorem State.Leaves.ibHigh {s : State} {v : Rat} : State.Leaves [.od, .log, .links, .drives, .cells, .legs, .store,
    .seqs, .axes, .traction, .lus, .stageIn, .lvCommand, .gbx, .dcl, .aux, .chg, .path] (fun j => noReaction j ∧ j ≠
    Od.CNV_V_IB ∧ (∀ x, x < 15 → j ≠ Od.OBS_ASC_COUNT x)) true s (s.ibHigh v) := by
  unfold State.ibHigh
  exact .ite (.step .raise (.stepR .senseIb .refl)) (.stepR .senseIb .refl)
theorem ResLeaves.execIbOvervoltageTrip {dt : Nat} {v : Rat} {s : State} : ResLeaves [.od, .tb, .out, .log, .links,
    .drives, .cells, .legs, .store, .seqs, .axes, .traction, .lus, .stageIn, .lvCommand, .gbx, .dcl, .aux, .chg,
    .path] (fun j => noReaction j ∧ j ≠ Od.CNV_V_IB ∧ (∀ x, x < 15 → j ≠ Od.OBS_ASC_COUNT x)) true s
    (execIbOvervoltageTrip dt v s) := by
  unfold Machine.execIbOvervoltageTrip
  exact .reply (.step .ibHigh (.step .elapse .refl))
theorem State.Leaves.ibOver {s : State} {v : Rat} : State.Leaves [.od, .log, .links, .cells, .legs, .aux] (fun j => j ≠
    Od.CNT_CNT_OVF_MAP ∧ j ≠ Od.CNV_AUX_STATUS ∧ j ≠ Od.CNV_V_IB ∧ (∀ x, x < 15 → j ≠ Od.OBS_ASC_TIME_ms x) ∧ (∀ x, x
    < 15 → j ≠ Od.OBS_OBS_CNT_STATUS x) ∧ (∀ x, x < 50 → j ≠ Od.SH_CH_STATUS x)) false s (s.ibOver v) := by
  unfold State.ibOver
  exact .ite (.step .auxEvent (.step .setBit (.step .setBit (.step .modAux (.step .senseIb (.step .dropCmds (.each
    (fun _ _ _ => (.ite (.step .coastCell .refl) .refl)) .refl))))))) .refl
theorem ResLeaves.execIbOvervoltagePause {dt : Nat} {v : Rat} {s : State} : ResLeaves [.od, .tb, .out, .log, .links,
    .cells, .legs, .aux] (fun j => j ≠ Od.CNT_CNT_OVF_MAP ∧ j ≠ Od.CNV_AUX_STATUS ∧ j ≠ Od.CNV_V_IB ∧ (∀ x, x < 15 → j
    ≠ Od.OBS_ASC_TIME_ms x) ∧ (∀ x, x < 15 → j ≠ Od.OBS_OBS_CNT_STATUS x) ∧ (∀ x, x < 50 → j ≠ Od.SH_CH_STATUS x))
    false s (execIbOvervoltagePause dt v s) := by
  unfold Machine.execIbOvervoltagePause
  exact .reply (.step .ibOver (.step .elapse .refl))
theorem State.Leaves.senseAux48 {s : State} {i : Rat} : State.Leaves [.od, .aux] (fun j => j ≠ Od.CNV_I_AUX48) false s
    (s.senseAux48 i) := by
  unfold State.senseAux48
  exact .step .modAux (.step .setQ .refl)
theorem State.Leaves.aux48Current {s : State} {i : Rat} : State.Leaves [.od, .log, .aux] (fun j => j ≠ Od.CNV_AUX_STATUS
    ∧ j ≠ Od.CNV_I_AUX48) false s (s.aux48Current i) := by
  unfold State.aux48Current
  exact .ite (.step .auxEvent (.step .setBit (.step .setBit (.step .senseAux48 .refl)))) (.step .senseAux48 .refl)
theorem ResLeaves.execAux48Overcurrent {dt : Nat} {i : Rat} {s : State} : ResLeaves [.od, .tb, .out, .log, .aux] (fun j =>
    j ≠ Od.CNV_AUX_STATUS ∧ j ≠ Od.CNV_I_AUX48) false s (execAux48Overcurrent dt i s) := by
  unfold Machine.execAux48Overcurrent
  exact .reply (.step .aux48Current (.step .elapse .refl))
theorem ResLeaves.execAux48EnWrite {dt : Nat} {who : Requester} {value : BitVec 8} {s : State} : ResLeaves [.od, .tb,
    .out, .log, .sessions] (fun j => noAccess j ∧ j ≠ Od.CNV_AUX48_EN ∧ j ≠ Od.CNV_AUX_STATUS) false s
    (execAux48EnWrite dt who value s) := by
  unfold Machine.execAux48EnWrite
  exact .reply (.step .writeAux48 (.step .elapse .refl))
theorem State.Leaves.syncLoss {s : State} {hz : Option Rat} : State.Leaves [.od, .log, .aux] (fun j => j ≠
    Od.CNT_CNT_OVF_MAP ∧ j ≠ Od.CNV_AUX_CNT_STATUS ∧ j ≠ Od.CNV_AUX_STATUS ∧ j ≠ Od.CNV_F_SYNC_IN ∧ j ≠
    Od.CNV_SYNC_LOSSES) false s (s.syncLoss hz) := by
  unfold State.syncLoss
  exact .ite (.step .auxEvent (.step .count (.step .modAux (.step .setN (.step .setBit (.step .setBit .refl))))))
    .refl
theorem ResLeaves.execSyncInLoss {r : SyncReading} {s : State} : ResLeaves [.od, .tb, .out, .log, .aux] (fun j => j ≠
    Od.CNT_CNT_OVF_MAP ∧ j ≠ Od.CNV_AUX_CNT_STATUS ∧ j ≠ Od.CNV_AUX_STATUS ∧ j ≠ Od.CNV_F_SYNC_IN ∧ j ≠
    Od.CNV_SYNC_LOSSES) false s (execSyncInLoss r s) := by
  unfold Machine.execSyncInLoss
  exact .reply (.step .syncLoss (.step .elapse .refl))
theorem State.Leaves.syncLock {s : State} {hz : Vector Rat 8} {phase : Rat} : State.Leaves [.od, .log, .aux] (fun j => j ≠
    Od.CNV_AUX_STATUS ∧ j ≠ Od.CNV_F_SYNC_IN) false s (s.syncLock hz phase) := by
  unfold State.syncLock
  exact .ite (.ite (.step .auxEvent (.step .setBit (.step .modAux (.step .setN (.step .setBit .refl))))) (.step
    .modAux (.step .setN (.step .setBit .refl)))) .refl
theorem ResLeaves.execSyncInLock {dt : Nat} {hz : Vector Rat 8} {phase : Rat} {s : State} : ResLeaves [.od, .tb, .out, .log,
    .aux] (fun j => j ≠ Od.CNV_AUX_STATUS ∧ j ≠ Od.CNV_F_SYNC_IN) false s (execSyncInLock dt hz phase s) := by
  unfold Machine.execSyncInLock
  exact .reply (.step .syncLock (.step .elapse .refl))
theorem State.Leaves.loadReleaseEnd {s : State} {v : Rat} : State.Leaves [.od, .aux] (fun j => j ≠ Od.CNV_AUX_STATUS ∧ j
    ≠ Od.CNV_V_VR) false s (s.loadReleaseEnd v) := by
  unfold State.loadReleaseEnd
  exact .ite (.step .setBit (.step .senseVr .refl)) .refl
theorem ResLeaves.execLoadReleaseExit {dt : Nat} {v : Rat} {s : State} : ResLeaves [.od, .tb, .out, .log, .aux] (fun j =>
    j ≠ Od.CNV_AUX_STATUS ∧ j ≠ Od.CNV_V_VR) false s (execLoadReleaseExit dt v s) := by
  unfold Machine.execLoadReleaseExit
  exact .reply (.step .loadReleaseEnd (.step .elapse .refl))
theorem State.Leaves.loadRelease {s : State} {v : Rat} : State.Leaves [.od, .log, .legs, .aux] (fun j => j ≠
    Od.CNT_CNT_OVF_MAP ∧ j ≠ Od.CNV_AUX_CNT_STATUS ∧ j ≠ Od.CNV_AUX_STATUS ∧ j ≠ Od.CNV_RELEASES ∧ j ≠ Od.CNV_V_VR ∧
    (∀ x, x < 50 → j ≠ Od.SH_CH_STATUS x)) false s (s.loadRelease v) := by
  unfold State.loadRelease
  exact .ite (.ite (.step .modAux (.step .count (.step .setBit (.step .stopLegs (.step .senseVr .refl))))) (.step
    .auxEvent (.step .modAux (.step .modAux (.step .count (.step .setBit (.step .stopLegs (.step .senseVr
    .refl)))))))) .refl
theorem ResLeaves.execLoadReleaseEntry {dt : Nat} {v : Rat} {s : State} : ResLeaves [.od, .tb, .out, .log, .legs, .aux]
    (fun j => j ≠ Od.CNT_CNT_OVF_MAP ∧ j ≠ Od.CNV_AUX_CNT_STATUS ∧ j ≠ Od.CNV_AUX_STATUS ∧ j ≠ Od.CNV_RELEASES ∧ j ≠
    Od.CNV_V_VR ∧ (∀ x, x < 50 → j ≠ Od.SH_CH_STATUS x)) false s (execLoadReleaseEntry dt v s) := by
  unfold Machine.execLoadReleaseEntry
  exact .reply (.step .loadRelease (.step .elapse .refl))
theorem ResLeaves.execVrSetWrite {dt : Nat} {who : Requester} {code : Fin 4} {value : BitVec 32} {s : State} : ResLeaves
    [.od, .tb, .out, .log, .sessions] (fun j => noAccess j ∧ j ≠ Od.CNV_AUX_STATUS ∧ j ≠ Od.CNV_VR_SET code ∧ j ≠
    Od.CNV_VR_TARGET) false s (execVrSetWrite dt who code value s) := by
  unfold Machine.execVrSetWrite
  exact .reply (.step .writeVrSet (.step .elapse .refl))
theorem ResLeaves.execVrCmdWrite {dt : Nat} {who : Requester} {value : BitVec 32} {s : State} : ResLeaves [.od, .tb,
    .out, .log, .sessions] (fun j => noAccess j ∧ j ≠ Od.CNV_AUX_STATUS ∧ j ≠ Od.CNV_VR_CMD ∧ j ≠ Od.CNV_VR_TARGET)
    false s (execVrCmdWrite dt who value s) := by
  unfold Machine.execVrCmdWrite
  exact .reply (.step .writeVrCmd (.step .elapse .refl))
theorem ResLeaves.execVrSrcWrite {dt : Nat} {who : Requester} {value : BitVec 8} {s : State} : ResLeaves [.od, .tb,
    .out, .log, .sessions] (fun j => noAccess j ∧ j ≠ Od.CNV_AUX_STATUS ∧ j ≠ Od.CNV_VR_SRC ∧ j ≠ Od.CNV_VR_TARGET)
    false s (execVrSrcWrite dt who value s) := by
  unfold Machine.execVrSrcWrite
  exact .reply (.step .writeVrSrc (.step .elapse .refl))
theorem State.Leaves.vselTake {s : State} {pins : Nat} : State.Leaves [.od, .log, .aux] (fun j => j ≠ Od.CNT_CNT_OVF_MAP
    ∧ j ≠ Od.CNV_AUX_CNT_STATUS ∧ j ≠ Od.CNV_AUX_STATUS ∧ j ≠ Od.CNV_VR_TARGET ∧ j ≠ Od.CNV_VSEL_CHANGES ∧ j ≠
    Od.CNV_VSEL_CODE) false s (s.vselTake pins) := by
  unfold State.vselTake
  exact .ite (.step .auxEvent (.ite (.step .newVrCommand (.step .count (.step .setN (.step .modAux .refl)))) (.step
    .count (.step .setN (.step .modAux .refl))))) (.step .modAux .refl)
theorem ResLeaves.execVselSample {dt : Nat} {pins : BitVec 2} {s : State} : ResLeaves [.od, .tb, .out, .log, .aux] (fun
    j => j ≠ Od.CNT_CNT_OVF_MAP ∧ j ≠ Od.CNV_AUX_CNT_STATUS ∧ j ≠ Od.CNV_AUX_STATUS ∧ j ≠ Od.CNV_VR_TARGET ∧ j ≠
    Od.CNV_VSEL_CHANGES ∧ j ≠ Od.CNV_VSEL_CODE) false s (execVselSample dt pins s) := by
  unfold Machine.execVselSample
  exact .reply (.ite (.step .vselTake (.step .elapse .refl)) (.step .elapse .refl))
theorem State.Leaves.shedPhase {s : State} {ph : Fin 4} {dev : Rat} : State.Leaves [.od, .log, .links, .drives, .cells,
    .legs, .store, .seqs, .axes, .traction, .lus, .stageIn, .lvCommand, .gbx, .dcl, .aux, .chg, .path] (fun j =>
    noReaction j ∧ (∀ x, x < 15 → j ≠ Od.OBS_ASC_COUNT x)) true s (s.shedPhase ph dev) := by
  unfold State.shedPhase
  exact .ite (.ite (.step .faultDrive (.step .auxEvent (.stepR .setBit (.step .modAux (.step .modLeg .refl))))) (.step
    .auxEvent (.stepR .setBit (.step .modAux (.step .modLeg .refl))))) .refl
theorem ResLeaves.execBuckPhaseShed {dt : Nat} {phase : Fin 4} {deviation : Rat} {s : State} : ResLeaves [.od, .tb, .out,
    .log, .links, .drives, .cells, .legs, .store, .seqs, .axes, .traction, .lus, .stageIn, .lvCommand, .gbx, .dcl,
    .aux, .chg, .path] (fun j => noReaction j ∧ (∀ x, x < 15 → j ≠ Od.OBS_ASC_COUNT x)) true s (execBuckPhaseShed dt
    phase deviation s) := by
  unfold Machine.execBuckPhaseShed
  exact .reply (.step .shedPhase (.step .elapse .refl))
theorem State.Leaves.ibStartDone {s : State} : State.Leaves [.od, .log, .links, .cells, .legs, .traction, .lus,
    .stageIn, .lvCommand, .gbx, .aux] (fun j => (∀ x, x < 8 → j ≠ Od.AX_TQ_REF x) ∧ j ≠ Od.CNT_CNT_OVF_MAP ∧ j ≠
    Od.CNV_AUX_MODE ∧ j ≠ Od.CNV_AUX_STATUS ∧ j ≠ Od.CNV_VR_REF ∧ j ≠ Od.DCL_CHOP_DUTY ∧ j ≠ Od.DCL_DCL_STATUS ∧ (∀ x
    y, x < 24 → y < 8 → j ≠ Od.LU_A1 x y) ∧ (∀ x y, x < 24 → y < 8 → j ≠ Od.LU_A2 x y) ∧ (∀ x y, x < 24 → y < 8 → j ≠
    Od.LU_B0 x y) ∧ (∀ x y, x < 24 → y < 8 → j ≠ Od.LU_B1 x y) ∧ (∀ x y, x < 24 → y < 8 → j ≠ Od.LU_B2 x y) ∧ j ≠
    Od.LU_COMMITS (16 : Fin 24) ∧ j ≠ Od.LU_COMMITS (17 : Fin 24) ∧ j ≠ Od.LU_COMMITS (22 : Fin 24) ∧ j ≠
    Od.LU_DIR_SIGNS (16 : Fin 24) ∧ j ≠ Od.LU_DIR_SIGNS (17 : Fin 24) ∧ j ≠ Od.LU_DIR_SIGNS (22 : Fin 24) ∧ j ≠
    Od.LU_LU_CNT_STATUS (16 : Fin 24) ∧ j ≠ Od.LU_LU_CNT_STATUS (17 : Fin 24) ∧ j ≠ Od.LU_LU_CNT_STATUS (22 : Fin 24)
    ∧ (∀ x, x < 24 → j ≠ Od.LU_REF x) ∧ (∀ x, x < 8 → j ≠ Od.LU_SEC_CTRL (16 : Fin 24) x) ∧ (∀ x, x < 8 → j ≠
    Od.LU_SEC_CTRL (17 : Fin 24) x) ∧ (∀ x, x < 8 → j ≠ Od.LU_SEC_CTRL (22 : Fin 24) x) ∧ j ≠ Od.LV_LV_STATUS ∧ j ≠
    Od.LV_VR_SOURCE ∧ (∀ x, x < 8 → j ≠ Od.SOL_DUTY x) ∧ (∀ x, x < 8 → j ≠ Od.SOL_ENERGISATIONS x) ∧ (∀ x, x < 8 → j ≠
    Od.SOL_SOL_CNT_STATUS x) ∧ (∀ x, x < 8 → j ≠ Od.SOL_SOL_STATUS x)) true s (s.ibStartDone) := by
  unfold State.ibStartDone
  exact .ite (.step .enterVrStart (.step .setVrSource .refl)) .refl
theorem ResLeaves.execIbStartComplete {dt : Nat} {s : State} : ResLeaves [.od, .tb, .out, .log, .links, .cells, .legs,
    .traction, .lus, .stageIn, .lvCommand, .gbx, .aux] (fun j => (∀ x, x < 8 → j ≠ Od.AX_TQ_REF x) ∧ j ≠
    Od.CNT_CNT_OVF_MAP ∧ j ≠ Od.CNV_AUX_MODE ∧ j ≠ Od.CNV_AUX_STATUS ∧ j ≠ Od.CNV_VR_REF ∧ j ≠ Od.DCL_CHOP_DUTY ∧ j ≠
    Od.DCL_DCL_STATUS ∧ (∀ x y, x < 24 → y < 8 → j ≠ Od.LU_A1 x y) ∧ (∀ x y, x < 24 → y < 8 → j ≠ Od.LU_A2 x y) ∧ (∀ x
    y, x < 24 → y < 8 → j ≠ Od.LU_B0 x y) ∧ (∀ x y, x < 24 → y < 8 → j ≠ Od.LU_B1 x y) ∧ (∀ x y, x < 24 → y < 8 → j ≠
    Od.LU_B2 x y) ∧ j ≠ Od.LU_COMMITS (16 : Fin 24) ∧ j ≠ Od.LU_COMMITS (17 : Fin 24) ∧ j ≠ Od.LU_COMMITS (22 : Fin
    24) ∧ j ≠ Od.LU_DIR_SIGNS (16 : Fin 24) ∧ j ≠ Od.LU_DIR_SIGNS (17 : Fin 24) ∧ j ≠ Od.LU_DIR_SIGNS (22 : Fin 24) ∧
    j ≠ Od.LU_LU_CNT_STATUS (16 : Fin 24) ∧ j ≠ Od.LU_LU_CNT_STATUS (17 : Fin 24) ∧ j ≠ Od.LU_LU_CNT_STATUS (22 : Fin
    24) ∧ (∀ x, x < 24 → j ≠ Od.LU_REF x) ∧ (∀ x, x < 8 → j ≠ Od.LU_SEC_CTRL (16 : Fin 24) x) ∧ (∀ x, x < 8 → j ≠
    Od.LU_SEC_CTRL (17 : Fin 24) x) ∧ (∀ x, x < 8 → j ≠ Od.LU_SEC_CTRL (22 : Fin 24) x) ∧ j ≠ Od.LV_LV_STATUS ∧ j ≠
    Od.LV_VR_SOURCE ∧ (∀ x, x < 8 → j ≠ Od.SOL_DUTY x) ∧ (∀ x, x < 8 → j ≠ Od.SOL_ENERGISATIONS x) ∧ (∀ x, x < 8 → j ≠
    Od.SOL_SOL_CNT_STATUS x) ∧ (∀ x, x < 8 → j ≠ Od.SOL_SOL_STATUS x)) true s (execIbStartComplete dt s) := by
  unfold Machine.execIbStartComplete
  exact .reply (.step .ibStartDone (.step .elapse .refl))
theorem State.Leaves.dabRestart {s : State} : State.Leaves [.od, .log, .links, .drives, .cells, .legs, .traction,
    .lus, .stageIn, .lvCommand, .gbx, .aux] (fun j => (∀ x, x < 8 → j ≠ Od.AX_TQ_REF x) ∧ j ≠ Od.CNT_CNT_OVF_MAP ∧ j ≠
    Od.CNV_AUX_MODE ∧ j ≠ Od.CNV_AUX_STATUS ∧ j ≠ Od.CNV_DAB_PHASE ∧ j ≠ Od.DCL_CHOP_DUTY ∧ j ≠ Od.DCL_DCL_STATUS ∧ (∀
    x y, x < 24 → y < 8 → j ≠ Od.LU_A1 x y) ∧ (∀ x y, x < 24 → y < 8 → j ≠ Od.LU_A2 x y) ∧ (∀ x y, x < 24 → y < 8 → j
    ≠ Od.LU_B0 x y) ∧ (∀ x y, x < 24 → y < 8 → j ≠ Od.LU_B1 x y) ∧ (∀ x y, x < 24 → y < 8 → j ≠ Od.LU_B2 x y) ∧ j ≠
    Od.LU_COMMITS (16 : Fin 24) ∧ j ≠ Od.LU_COMMITS (17 : Fin 24) ∧ j ≠ Od.LU_COMMITS (22 : Fin 24) ∧ j ≠
    Od.LU_DIR_SIGNS (16 : Fin 24) ∧ j ≠ Od.LU_DIR_SIGNS (17 : Fin 24) ∧ j ≠ Od.LU_DIR_SIGNS (22 : Fin 24) ∧ j ≠
    Od.LU_LU_CNT_STATUS (16 : Fin 24) ∧ j ≠ Od.LU_LU_CNT_STATUS (17 : Fin 24) ∧ j ≠ Od.LU_LU_CNT_STATUS (22 : Fin 24)
    ∧ (∀ x, x < 24 → j ≠ Od.LU_REF x) ∧ (∀ x, x < 8 → j ≠ Od.LU_SEC_CTRL (16 : Fin 24) x) ∧ (∀ x, x < 8 → j ≠
    Od.LU_SEC_CTRL (17 : Fin 24) x) ∧ (∀ x, x < 8 → j ≠ Od.LU_SEC_CTRL (22 : Fin 24) x) ∧ j ≠ Od.LV_LV_STATUS ∧ j ≠
    Od.OBS_ASC_TIME_ms (10 : Fin 15) ∧ j ≠ Od.OBS_OBS_CNT_STATUS (10 : Fin 15) ∧ (∀ x, x < 50 → j ≠ Od.SH_CH_STATUS x)
    ∧ (∀ x, x < 8 → j ≠ Od.SOL_DUTY x) ∧ (∀ x, x < 8 → j ≠ Od.SOL_ENERGISATIONS x) ∧ (∀ x, x < 8 → j ≠
    Od.SOL_SOL_CNT_STATUS x) ∧ (∀ x, x < 8 → j ≠ Od.SOL_SOL_STATUS x)) true s (s.dabRestart) := by
  unfold State.dabRestart
  exact .ite (.step .aux48 (.step .enterIbStart (.step .towStop .refl))) .refl
theorem ResLeaves.execDabRestartLinkOk {dt : Nat} {s : State} : ResLeaves [.od, .tb, .out, .log, .links, .drives,
    .cells, .legs, .traction, .lus, .stageIn, .lvCommand, .gbx, .aux] (fun j => (∀ x, x < 8 → j ≠ Od.AX_TQ_REF x) ∧ j
    ≠ Od.CNT_CNT_OVF_MAP ∧ j ≠ Od.CNV_AUX_MODE ∧ j ≠ Od.CNV_AUX_STATUS ∧ j ≠ Od.CNV_DAB_PHASE ∧ j ≠ Od.DCL_CHOP_DUTY ∧
    j ≠ Od.DCL_DCL_STATUS ∧ (∀ x y, x < 24 → y < 8 → j ≠ Od.LU_A1 x y) ∧ (∀ x y, x < 24 → y < 8 → j ≠ Od.LU_A2 x y) ∧
    (∀ x y, x < 24 → y < 8 → j ≠ Od.LU_B0 x y) ∧ (∀ x y, x < 24 → y < 8 → j ≠ Od.LU_B1 x y) ∧ (∀ x y, x < 24 → y < 8 →
    j ≠ Od.LU_B2 x y) ∧ j ≠ Od.LU_COMMITS (16 : Fin 24) ∧ j ≠ Od.LU_COMMITS (17 : Fin 24) ∧ j ≠ Od.LU_COMMITS (22 :
    Fin 24) ∧ j ≠ Od.LU_DIR_SIGNS (16 : Fin 24) ∧ j ≠ Od.LU_DIR_SIGNS (17 : Fin 24) ∧ j ≠ Od.LU_DIR_SIGNS (22 : Fin
    24) ∧ j ≠ Od.LU_LU_CNT_STATUS (16 : Fin 24) ∧ j ≠ Od.LU_LU_CNT_STATUS (17 : Fin 24) ∧ j ≠ Od.LU_LU_CNT_STATUS (22
    : Fin 24) ∧ (∀ x, x < 24 → j ≠ Od.LU_REF x) ∧ (∀ x, x < 8 → j ≠ Od.LU_SEC_CTRL (16 : Fin 24) x) ∧ (∀ x, x < 8 → j
    ≠ Od.LU_SEC_CTRL (17 : Fin 24) x) ∧ (∀ x, x < 8 → j ≠ Od.LU_SEC_CTRL (22 : Fin 24) x) ∧ j ≠ Od.LV_LV_STATUS ∧ j ≠
    Od.OBS_ASC_TIME_ms (10 : Fin 15) ∧ j ≠ Od.OBS_OBS_CNT_STATUS (10 : Fin 15) ∧ (∀ x, x < 50 → j ≠ Od.SH_CH_STATUS x)
    ∧ (∀ x, x < 8 → j ≠ Od.SOL_DUTY x) ∧ (∀ x, x < 8 → j ≠ Od.SOL_ENERGISATIONS x) ∧ (∀ x, x < 8 → j ≠
    Od.SOL_SOL_CNT_STATUS x) ∧ (∀ x, x < 8 → j ≠ Od.SOL_SOL_STATUS x)) true s (execDabRestartLinkOk dt s) := by
  unfold Machine.execDabRestartLinkOk
  exact .reply (.step .dabRestart (.step .elapse .refl))
theorem State.Leaves.auxNoLink {s : State} : State.Leaves [.od, .log, .links, .cells, .legs, .traction, .lus,
    .stageIn, .lvCommand, .gbx, .aux] (fun j => (∀ x, x < 8 → j ≠ Od.AX_TQ_REF x) ∧ j ≠ Od.CNT_CNT_OVF_MAP ∧ j ≠
    Od.CNV_AUX_CNT_STATUS ∧ j ≠ Od.CNV_AUX_MODE ∧ j ≠ Od.CNV_AUX_STATUS ∧ j ≠ Od.CNV_TOW_ENTRIES ∧ j ≠
    Od.DCL_CHOP_DUTY ∧ j ≠ Od.DCL_DCL_STATUS ∧ (∀ x y, x < 24 → y < 8 → j ≠ Od.LU_A1 x y) ∧ (∀ x y, x < 24 → y < 8 → j
    ≠ Od.LU_A2 x y) ∧ (∀ x y, x < 24 → y < 8 → j ≠ Od.LU_B0 x y) ∧ (∀ x y, x < 24 → y < 8 → j ≠ Od.LU_B1 x y) ∧ (∀ x
    y, x < 24 → y < 8 → j ≠ Od.LU_B2 x y) ∧ j ≠ Od.LU_COMMITS (16 : Fin 24) ∧ j ≠ Od.LU_COMMITS (17 : Fin 24) ∧ j ≠
    Od.LU_COMMITS (22 : Fin 24) ∧ j ≠ Od.LU_DIR_SIGNS (16 : Fin 24) ∧ j ≠ Od.LU_DIR_SIGNS (17 : Fin 24) ∧ j ≠
    Od.LU_DIR_SIGNS (22 : Fin 24) ∧ j ≠ Od.LU_LU_CNT_STATUS (16 : Fin 24) ∧ j ≠ Od.LU_LU_CNT_STATUS (17 : Fin 24) ∧ j
    ≠ Od.LU_LU_CNT_STATUS (22 : Fin 24) ∧ (∀ x, x < 24 → j ≠ Od.LU_REF x) ∧ (∀ x, x < 8 → j ≠ Od.LU_SEC_CTRL (16 : Fin
    24) x) ∧ (∀ x, x < 8 → j ≠ Od.LU_SEC_CTRL (17 : Fin 24) x) ∧ (∀ x, x < 8 → j ≠ Od.LU_SEC_CTRL (22 : Fin 24) x) ∧ j
    ≠ Od.LV_LV_STATUS ∧ (∀ x, x < 8 → j ≠ Od.SOL_DUTY x) ∧ (∀ x, x < 8 → j ≠ Od.SOL_ENERGISATIONS x) ∧ (∀ x, x < 8 → j
    ≠ Od.SOL_SOL_CNT_STATUS x) ∧ (∀ x, x < 8 → j ≠ Od.SOL_SOL_STATUS x)) true s (s.auxNoLink) := by
  unfold State.auxNoLink
  exact .step .aux48 (.ite (.step .enterTow .refl) (.step .enterWait .refl))
theorem State.Leaves.dabLowLink {s : State} : State.Leaves [.od, .log, .links, .drives, .cells, .legs, .traction,
    .lus, .stageIn, .lvCommand, .gbx, .aux, .chg, .path] (fun j => (∀ x, x < 8 → j ≠ Od.AX_TQ_REF x) ∧ j ≠
    Od.BKP_BKP15 ∧ j ≠ Od.CNT_CNT_OVF_MAP ∧ j ≠ Od.CNV_AUX_CNT_STATUS ∧ j ≠ Od.CNV_AUX_MODE ∧ j ≠ Od.CNV_AUX_STATUS ∧
    j ≠ Od.CNV_DAB_PHASE ∧ j ≠ Od.CNV_TOW_ENTRIES ∧ j ≠ Od.CNV_VR_TARGET ∧ j ≠ Od.DCL_CHOP_DUTY ∧ j ≠
    Od.DCL_DCL_STATUS ∧ (∀ x y, x < 24 → y < 8 → j ≠ Od.LU_A1 x y) ∧ (∀ x y, x < 24 → y < 8 → j ≠ Od.LU_A2 x y) ∧ (∀ x
    y, x < 24 → y < 8 → j ≠ Od.LU_B0 x y) ∧ (∀ x y, x < 24 → y < 8 → j ≠ Od.LU_B1 x y) ∧ (∀ x y, x < 24 → y < 8 → j ≠
    Od.LU_B2 x y) ∧ j ≠ Od.LU_COMMITS (16 : Fin 24) ∧ j ≠ Od.LU_COMMITS (17 : Fin 24) ∧ j ≠ Od.LU_COMMITS (22 : Fin
    24) ∧ j ≠ Od.LU_DIR_SIGNS (16 : Fin 24) ∧ j ≠ Od.LU_DIR_SIGNS (17 : Fin 24) ∧ j ≠ Od.LU_DIR_SIGNS (22 : Fin 24) ∧
    j ≠ Od.LU_LU_CNT_STATUS (16 : Fin 24) ∧ j ≠ Od.LU_LU_CNT_STATUS (17 : Fin 24) ∧ j ≠ Od.LU_LU_CNT_STATUS (22 : Fin
    24) ∧ (∀ x, x < 24 → j ≠ Od.LU_REF x) ∧ (∀ x, x < 8 → j ≠ Od.LU_SEC_CTRL (16 : Fin 24) x) ∧ (∀ x, x < 8 → j ≠
    Od.LU_SEC_CTRL (17 : Fin 24) x) ∧ (∀ x, x < 8 → j ≠ Od.LU_SEC_CTRL (22 : Fin 24) x) ∧ j ≠ Od.LV_BAT_SW_MODE ∧ j ≠
    Od.LV_HANDOVERS ∧ j ≠ Od.LV_LV_CNT_STATUS ∧ j ≠ Od.LV_LV_STATE ∧ j ≠ Od.LV_LV_STATUS ∧ j ≠ Od.LV_VR_SOURCE ∧ (∀ x,
    x < 15 → j ≠ Od.OBS_ASC_TIME_ms x) ∧ (∀ x, x < 15 → j ≠ Od.OBS_OBS_CNT_STATUS x) ∧ (∀ x, x < 50 → j ≠
    Od.SH_CH_STATUS x) ∧ (∀ x, x < 8 → j ≠ Od.SOL_DUTY x) ∧ (∀ x, x < 8 → j ≠ Od.SOL_ENERGISATIONS x) ∧ (∀ x, x < 8 →
    j ≠ Od.SOL_SOL_CNT_STATUS x) ∧ (∀ x, x < 8 → j ≠ Od.SOL_SOL_STATUS x)) true s (s.dabLowLink) := by
  unfold State.dabLowLink
  exact .ite (.step .auxNoLink (.step .dabStop (.step .buckStop (.ite (.step .modDrv (.each (fun _ _ _ => (.step
    .offCell .refl)) (.step .auxEvent .refl))) (.step .auxEvent .refl))))) .refl
theorem ResLeaves.execDabStopLowLink {dt : Nat} {s : State} : ResLeaves [.od, .tb, .out, .log, .links, .drives, .cells,
    .legs, .traction, .lus, .stageIn, .lvCommand, .gbx, .aux, .chg, .path] (fun j => (∀ x, x < 8 → j ≠ Od.AX_TQ_REF x)
    ∧ j ≠ Od.BKP_BKP15 ∧ j ≠ Od.CNT_CNT_OVF_MAP ∧ j ≠ Od.CNV_AUX_CNT_STATUS ∧ j ≠ Od.CNV_AUX_MODE ∧ j ≠
    Od.CNV_AUX_STATUS ∧ j ≠ Od.CNV_DAB_PHASE ∧ j ≠ Od.CNV_TOW_ENTRIES ∧ j ≠ Od.CNV_VR_TARGET ∧ j ≠ Od.DCL_CHOP_DUTY ∧
    j ≠ Od.DCL_DCL_STATUS ∧ (∀ x y, x < 24 → y < 8 → j ≠ Od.LU_A1 x y) ∧ (∀ x y, x < 24 → y < 8 → j ≠ Od.LU_A2 x y) ∧
    (∀ x y, x < 24 → y < 8 → j ≠ Od.LU_B0 x y) ∧ (∀ x y, x < 24 → y < 8 → j ≠ Od.LU_B1 x y) ∧ (∀ x y, x < 24 → y < 8 →
    j ≠ Od.LU_B2 x y) ∧ j ≠ Od.LU_COMMITS (16 : Fin 24) ∧ j ≠ Od.LU_COMMITS (17 : Fin 24) ∧ j ≠ Od.LU_COMMITS (22 :
    Fin 24) ∧ j ≠ Od.LU_DIR_SIGNS (16 : Fin 24) ∧ j ≠ Od.LU_DIR_SIGNS (17 : Fin 24) ∧ j ≠ Od.LU_DIR_SIGNS (22 : Fin
    24) ∧ j ≠ Od.LU_LU_CNT_STATUS (16 : Fin 24) ∧ j ≠ Od.LU_LU_CNT_STATUS (17 : Fin 24) ∧ j ≠ Od.LU_LU_CNT_STATUS (22
    : Fin 24) ∧ (∀ x, x < 24 → j ≠ Od.LU_REF x) ∧ (∀ x, x < 8 → j ≠ Od.LU_SEC_CTRL (16 : Fin 24) x) ∧ (∀ x, x < 8 → j
    ≠ Od.LU_SEC_CTRL (17 : Fin 24) x) ∧ (∀ x, x < 8 → j ≠ Od.LU_SEC_CTRL (22 : Fin 24) x) ∧ j ≠ Od.LV_BAT_SW_MODE ∧ j
    ≠ Od.LV_HANDOVERS ∧ j ≠ Od.LV_LV_CNT_STATUS ∧ j ≠ Od.LV_LV_STATE ∧ j ≠ Od.LV_LV_STATUS ∧ j ≠ Od.LV_VR_SOURCE ∧ (∀
    x, x < 15 → j ≠ Od.OBS_ASC_TIME_ms x) ∧ (∀ x, x < 15 → j ≠ Od.OBS_OBS_CNT_STATUS x) ∧ (∀ x, x < 50 → j ≠
    Od.SH_CH_STATUS x) ∧ (∀ x, x < 8 → j ≠ Od.SOL_DUTY x) ∧ (∀ x, x < 8 → j ≠ Od.SOL_ENERGISATIONS x) ∧ (∀ x, x < 8 →
    j ≠ Od.SOL_SOL_CNT_STATUS x) ∧ (∀ x, x < 8 → j ≠ Od.SOL_SOL_STATUS x)) true s (execDabStopLowLink dt s) := by
  unfold Machine.execDabStopLowLink
  exact .reply (.step .dabLowLink (.step .elapse .refl))
theorem State.Leaves.dabShare {s : State} {i : Rat} : State.Leaves [.od, .log, .aux] (fun j => j ≠ Od.CNV_AUX_STATUS)
    false s (s.dabShare i) := by
  unfold State.dabShare
  exact .when (fun _ => (.step .auxEvent .refl)) (.step .setBit (.step .modAux .refl))
theorem State.Leaves.swapStage {s : State} {l : Leg} : State.Leaves [.legs] (fun _ => True) false s (s.swapStage l) :=
    by
  unfold State.swapStage
  exact .ite (.step .modLeg .refl) (.step .modLeg .refl)
theorem State.Leaves.dabPeak {s : State} {i : Rat} : State.Leaves [.od, .log, .legs, .aux] (fun j => j ≠
    Od.CNV_AUX_STATUS) false s (s.dabPeak i) := by
  unfold State.dabPeak
  exact .ite (.step .dabShare (.step .modAux (.each (fun _ _ _ => (.step .swapStage .refl)) .refl))) .refl
theorem ResLeaves.execDabPeakLimit {dt : Nat} {i : Rat} {s : State} : ResLeaves [.od, .tb, .out, .log, .legs, .aux] (fun j
    => j ≠ Od.CNV_AUX_STATUS) false s (execDabPeakLimit dt i s) := by
  unfold Machine.execDabPeakLimit
  exact .reply (.step .dabPeak (.step .elapse .refl))
theorem State.Leaves.dischargeLate {s : State} : State.Leaves [.od, .log, .links, .drives, .cells, .legs, .store,
    .seqs, .axes, .traction, .lus, .stageIn, .lvCommand, .gbx, .dcl, .aux, .chg, .path] (fun j => noReaction j ∧ (∀ x,
    x < 15 → j ≠ Od.OBS_ASC_COUNT x)) true s (s.dischargeLate) := by
  unfold State.dischargeLate
  exact .ite (.step .raise (.stepR .dischargeStop .refl)) .refl
theorem ResLeaves.execDischargeTimeout {dt : Nat} {s : State} : ResLeaves [.od, .tb, .out, .log, .links, .drives,
    .cells, .legs, .store, .seqs, .axes, .traction, .lus, .stageIn, .lvCommand, .gbx, .dcl, .aux, .chg, .path] (fun j
    => noReaction j ∧ (∀ x, x < 15 → j ≠ Od.OBS_ASC_COUNT x)) true s (execDischargeTimeout dt s) := by
  unfold Machine.execDischargeTimeout
  exact .reply (.step .dischargeLate (.step .elapse .refl))
theorem State.Leaves.dischargeDone {s : State} : State.Leaves [.od, .log, .drives, .cells, .legs, .dcl] (fun j => j ≠
    Od.CNT_CNT_OVF_MAP ∧ j ≠ Od.DCL_CHOP_DUTY ∧ j ≠ Od.DCL_DCL_STATUS ∧ j ≠ Od.DCL_DISCH_STATE ∧ j ≠
    Od.DCL_DISCH_TIME_ms ∧ j ≠ Od.OBS_ASC_TIME_ms (14 : Fin 15) ∧ j ≠ Od.OBS_OBS_CNT_STATUS (14 : Fin 15) ∧ (∀ x, x <
    50 → j ≠ Od.SH_CH_STATUS x)) false s (s.dischargeDone) := by
  unfold State.dischargeDone
  exact .ite (.step .lastEvent (.step .event (.step .dischargeStop (.step .setN .refl)))) .refl
theorem ResLeaves.execDischargeComplete {dt : Nat} {s : State} : ResLeaves [.od, .tb, .out, .log, .drives, .cells,
    .legs, .dcl] (fun j => j ≠ Od.CNT_CNT_OVF_MAP ∧ j ≠ Od.DCL_CHOP_DUTY ∧ j ≠ Od.DCL_DCL_STATUS ∧ j ≠
    Od.DCL_DISCH_STATE ∧ j ≠ Od.DCL_DISCH_TIME_ms ∧ j ≠ Od.OBS_ASC_TIME_ms (14 : Fin 15) ∧ j ≠ Od.OBS_OBS_CNT_STATUS
    (14 : Fin 15) ∧ (∀ x, x < 50 → j ≠ Od.SH_CH_STATUS x)) false s (execDischargeComplete dt s) := by
  unfold Machine.execDischargeComplete
  exact .reply (.step .dischargeDone (.step .elapse .refl))
theorem State.Leaves.dischargeSupplied {s : State} : State.Leaves [.od, .log, .drives, .cells, .legs, .dcl] (fun j =>
    j ≠ Od.CNT_CNT_OVF_MAP ∧ j ≠ Od.DCL_CHOP_DUTY ∧ j ≠ Od.DCL_DCL_STATUS ∧ j ≠ Od.DCL_DISCH_STATE ∧ j ≠
    Od.OBS_ASC_TIME_ms (14 : Fin 15) ∧ j ≠ Od.OBS_OBS_CNT_STATUS (14 : Fin 15) ∧ (∀ x, x < 50 → j ≠ Od.SH_CH_STATUS
    x)) false s (s.dischargeSupplied) := by
  unfold State.dischargeSupplied
  exact .ite (.step .lastEvent (.step .event (.step .dischargeStop .refl))) .refl
theorem ResLeaves.execDischargeLinkSupplied {dt : Nat} {s : State} : ResLeaves [.od, .tb, .out, .log, .drives, .cells,
    .legs, .dcl] (fun j => j ≠ Od.CNT_CNT_OVF_MAP ∧ j ≠ Od.DCL_CHOP_DUTY ∧ j ≠ Od.DCL_DCL_STATUS ∧ j ≠
    Od.DCL_DISCH_STATE ∧ j ≠ Od.OBS_ASC_TIME_ms (14 : Fin 15) ∧ j ≠ Od.OBS_OBS_CNT_STATUS (14 : Fin 15) ∧ (∀ x, x < 50
    → j ≠ Od.SH_CH_STATUS x)) false s (execDischargeLinkSupplied dt s) := by
  unfold Machine.execDischargeLinkSupplied
  exact .reply (.step .dischargeSupplied (.step .elapse .refl))
theorem ResLeaves.execDischargeEnd {dt : Nat} {who : Requester} {s : State} : ResLeaves [.od, .tb, .out, .log, .links,
    .drives, .cells, .legs, .store, .seqs, .axes, .traction, .lus, .stageIn, .lvCommand, .gbx, .dcl, .aux, .chg,
    .path, .sessions] (fun j => noReaction j ∧ noAccess j ∧ j ≠ Od.DCL_DCL_CNT_STATUS ∧ j ≠ Od.DCL_DISCHARGES) true s
    (execDischargeEnd dt who s) := by
  unfold Machine.execDischargeEnd
  exact .reply (.step .writeDischarge (.step .elapse .refl))
theorem ResLeaves.execDischargeStart {dt : Nat} {who : Requester} {s : State} : ResLeaves [.od, .tb, .out, .log, .links,
    .drives, .cells, .legs, .store, .seqs, .axes, .traction, .lus, .stageIn, .lvCommand, .gbx, .dcl, .aux, .chg,
    .path, .sessions] (fun j => noReaction j ∧ noAccess j ∧ j ≠ Od.DCL_DCL_CNT_STATUS ∧ j ≠ Od.DCL_DISCHARGES) true s
    (execDischargeStart dt who s) := by
  unfold Machine.execDischargeStart
  exact .reply (.step .writeDischarge (.step .elapse .refl))
theorem State.Leaves.cellEvent {s : State} {c : Cell} {code : Nat} : State.Leaves [.log] (fun _ => True) false s
    (s.cellEvent c code) := by
  unfold State.cellEvent
  exact .step .event .refl
theorem State.Leaves.beginSoftOff {s : State} {c : Cell} : State.Leaves [.od, .log, .cells, .legs] (fun j => j ≠
    Od.CELL_SC_LOCKOUT c ∧ j ≠ Od.CNT_CNT_OVF_MAP ∧ j ≠ Od.OBS_ASC_TIME_ms c ∧ j ≠ Od.OBS_OBS_CNT_STATUS c) false s
    (s.beginSoftOff c) := by
  unfold State.beginSoftOff
  exact .ite (.step .cellEvent (.step .setFlag (.step .modCell (.step .countAsc (.each (fun _ _ _ => (.step .modLeg
    .refl)) .refl))))) (.step .modCell (.step .countAsc (.each (fun _ _ _ => (.step .modLeg .refl)) .refl)))
theorem State.Leaves.hwTurnOff {s : State} {c : Cell} : State.Leaves [.od, .log, .cells, .legs, .axes] (fun j => j ≠
    Od.CELL_SC_LOCKOUT c ∧ j ≠ Od.CNT_CNT_OVF_MAP ∧ j ≠ Od.OBS_ASC_COUNT c ∧ j ≠ Od.OBS_ASC_TIME_ms c ∧ j ≠
    Od.OBS_OBS_CNT_STATUS c ∧ (c.val < 8 → j ≠ Od.OBS_OBS_STATUS c) ∧ (∀ x, x < 50 → j ≠ Od.SH_CH_STATUS x)) false s
    (s.hwTurnOff c) := by
  unfold State.hwTurnOff
  exact .ite .refl (.iteOf (fun hc => .step .enterAsc .refl (by
    obtain ⟨hlt, _⟩ := hc
    simp +contextual only [show c.val < 8 by omega, ne_eq, not_false_eq_true, and_self, implies_true])) fun _ =>
    .ite (.step .beginSoftOff .refl) .refl)
theorem State.Leaves.hwTrip {s : State} : State.Leaves [.od, .log, .links, .drives, .cells, .legs, .store, .seqs,
    .axes, .traction, .lus, .stageIn, .lvCommand, .gbx, .dcl, .aux, .chg, .path] (fun j => noReaction j ∧ (∀ x, x < 15
    → j ≠ Od.CELL_SC_LOCKOUT x) ∧ j ≠ Od.DCL_DCL_CNT_STATUS ∧ j ≠ Od.DCL_HW_TRIPS ∧ (∀ x, x < 15 → j ≠
    Od.OBS_ASC_COUNT x)) true s (s.hwTrip) := by
  unfold State.hwTrip
  exact .ite .refl (.step .raise (.stepR .dischargeStop (.step .modDcl (.stepR .count (.stepR .setBit (.each (fun _ _
    _ => (.ite (.stepR .coastCell .refl) .refl)) (.each (fun _ _ _ => (.stepR .hwTurnOff .refl)) .refl)))))))
theorem ResLeaves.execHardwareDcLinkTrip {dt : Nat} {s : State} : ResLeaves [.od, .tb, .out, .log, .links, .drives,
    .cells, .legs, .store, .seqs, .axes, .traction, .lus, .stageIn, .lvCommand, .gbx, .dcl, .aux, .chg, .path] (fun j
    => noReaction j ∧ (∀ x, x < 15 → j ≠ Od.CELL_SC_LOCKOUT x) ∧ j ≠ Od.DCL_DCL_CNT_STATUS ∧ j ≠ Od.DCL_HW_TRIPS ∧ (∀
    x, x < 15 → j ≠ Od.OBS_ASC_COUNT x)) true s (execHardwareDcLinkTrip dt s) := by
  unfold Machine.execHardwareDcLinkTrip
  exact .reply (.step .hwTrip (.step .elapse .refl))
theorem State.Leaves.fwTrip {s : State} : State.Leaves [.od, .log, .links, .drives, .cells, .legs, .store, .seqs,
    .axes, .traction, .lus, .stageIn, .lvCommand, .gbx, .dcl, .aux, .chg, .path] (fun j => noReaction j ∧ j ≠
    Od.DCL_DCL_CNT_STATUS ∧ j ≠ Od.DCL_FW_TRIPS ∧ (∀ x, x < 15 → j ≠ Od.OBS_ASC_COUNT x)) true s (s.fwTrip) := by
  unfold State.fwTrip
  exact .ite .refl (.step .raise (.step .modDcl (.stepR .count (.stepR .setBit .refl))))
theorem ResLeaves.execFirmwareDcLinkTrip {dt : Nat} {s : State} : ResLeaves [.od, .tb, .out, .log, .links, .drives,
    .cells, .legs, .store, .seqs, .axes, .traction, .lus, .stageIn, .lvCommand, .gbx, .dcl, .aux, .chg, .path] (fun j
    => noReaction j ∧ j ≠ Od.DCL_DCL_CNT_STATUS ∧ j ≠ Od.DCL_FW_TRIPS ∧ (∀ x, x < 15 → j ≠ Od.OBS_ASC_COUNT x)) true s
    (execFirmwareDcLinkTrip dt s) := by
  unfold Machine.execFirmwareDcLinkTrip
  exact .reply (.step .fwTrip (.step .elapse .refl))
theorem State.Leaves.chopperFault {s : State} {bit : Nat} {leg : Nat} : State.Leaves [.od, .log, .links, .drives, .cells,
    .legs, .store, .seqs, .axes, .traction, .lus, .stageIn, .lvCommand, .gbx, .dcl, .aux, .chg, .path] (fun j =>
    noReaction j ∧ j ≠ Od.DCL_CHOP_FAULTS ∧ j ≠ Od.DCL_DCL_CNT_STATUS ∧ j ≠ Od.DCL_GEN_FACTOR ∧ (∀ x, x < 15 → j ≠
    Od.OBS_ASC_COUNT x)) true s (s.chopperFault bit leg) := by
  unfold State.chopperFault
  exact .ite .refl (.step .raise (.ite (.stepR .setDuty (.stepR .dischargeStop (.stepR .setBit (.stepR .setQ (.stepR
    .count (.stepR .setBit (.stepR .setBit .refl))))))) (.stepR .coastCell (.stepR .setDuty (.stepR .dischargeStop
    (.stepR .setBit (.stepR .setQ (.stepR .count (.stepR .setBit (.stepR .setBit .refl))))))))))
theorem State.Leaves.resWarm {s : State} : State.Leaves [.od, .log] (fun j => j ≠ Od.DCL_DCL_STATUS) false s
    (s.resWarm) := by
  unfold State.resWarm
  exact .ite (.ite (.step .setBit .refl) .refl) (.ite (.step .lastEvent (.step .event (.step .setBit .refl))) .refl)
theorem State.Leaves.resStep {s : State} {leg : Fin 2} : State.Leaves [.od, .fresh, .dcl] (fun j => j ≠ Od.DCL_RES_E_0
    + leg) false s (s.resStep leg) := by
  unfold State.resStep
  exact .step .setQ (.step .modDcl (.ite (.step .draw .refl) .refl))
theorem State.Leaves.linkSlope {s : State} : State.Leaves [.od, .dcl] (fun j => j ≠ Od.DCL_DV_DT) false s
    (s.linkSlope) := by
  unfold State.linkSlope
  exact .step .modDcl (.step .setQ .refl)
theorem State.Leaves.resUpdate {s : State} : State.Leaves [.od, .fresh, .log, .links, .drives, .cells, .legs, .store,
    .seqs, .axes, .traction, .lus, .stageIn, .lvCommand, .gbx, .dcl, .aux, .chg, .path] (fun j => noReaction j ∧ j ≠
    Od.DCL_CHOP_ENERGY_J ∧ j ≠ Od.DCL_CHOP_FAULTS ∧ j ≠ Od.DCL_DCL_CNT_STATUS ∧ j ≠ Od.DCL_DV_DT ∧ j ≠
    Od.DCL_GEN_FACTOR ∧ (∀ x, x < 2 → j ≠ Od.DCL_RES_E_0 + x) ∧ (∀ x, x < 15 → j ≠ Od.OBS_ASC_COUNT x)) true s
    (s.resUpdate) := by
  unfold State.resUpdate
  exact .ite .refl (.each (fun _ _ _ => (.ite (.step .chopperFault .refl) .refl)) (.stepR .resWarm (.stepR .setN
    (.stepR .linkSlope (.stepR .resStep (.stepR .resStep (.step .modDcl .refl)))))))
theorem ResLeaves.execResistorModelUpdate {dt : Nat} {s : State} : ResLeaves [.od, .tb, .fresh, .out, .log, .links,
    .drives, .cells, .legs, .store, .seqs, .axes, .traction, .lus, .stageIn, .lvCommand, .gbx, .dcl, .aux, .chg,
    .path] (fun j => noReaction j ∧ j ≠ Od.DCL_CHOP_ENERGY_J ∧ j ≠ Od.DCL_CHOP_FAULTS ∧ j ≠ Od.DCL_DCL_CNT_STATUS ∧ j
    ≠ Od.DCL_DV_DT ∧ j ≠ Od.DCL_GEN_FACTOR ∧ (∀ x, x < 2 → j ≠ Od.DCL_RES_E_0 + x) ∧ (∀ x, x < 15 → j ≠
    Od.OBS_ASC_COUNT x)) true s (execResistorModelUpdate dt s) := by
  unfold Machine.execResistorModelUpdate
  exact .reply (.step .resUpdate (.step .elapse .refl))
theorem State.Leaves.shortedSwitch {s : State} {leg : Fin 2} {i : Rat} : State.Leaves [.od, .log, .links, .drives,
    .cells, .legs, .store, .seqs, .axes, .traction, .lus, .stageIn, .lvCommand, .gbx, .dcl, .aux, .chg, .path] (fun j
    => noReaction j ∧ j ≠ Od.DCL_CHOP_FAULTS ∧ j ≠ Od.DCL_DCL_CNT_STATUS ∧ j ≠ Od.DCL_GEN_FACTOR ∧ (∀ x, x < 15 → j ≠
    Od.OBS_ASC_COUNT x)) true s (s.shortedSwitch leg i) := by
  unfold State.shortedSwitch
  exact .ite (.step .chopperFault .refl) .refl
theorem ResLeaves.execChopperShortedSwitch {dt : Nat} {leg : Fin 2} {i : Rat} {s : State} : ResLeaves [.od, .tb, .out,
    .log, .links, .drives, .cells, .legs, .store, .seqs, .axes, .traction, .lus, .stageIn, .lvCommand, .gbx, .dcl,
    .aux, .chg, .path] (fun j => noReaction j ∧ j ≠ Od.DCL_CHOP_FAULTS ∧ j ≠ Od.DCL_DCL_CNT_STATUS ∧ j ≠
    Od.DCL_GEN_FACTOR ∧ (∀ x, x < 15 → j ≠ Od.OBS_ASC_COUNT x)) true s (execChopperShortedSwitch dt leg i s) := by
  unfold Machine.execChopperShortedSwitch
  exact .reply (.step .shortedSwitch (.step .elapse .refl))
theorem State.Leaves.openResistor {s : State} {leg : Fin 2} {i1 : Rat} {i2 : Rat} : State.Leaves [.od, .log, .links,
    .drives, .cells, .legs, .store, .seqs, .axes, .traction, .lus, .stageIn, .lvCommand, .gbx, .dcl, .aux, .chg,
    .path] (fun j => noReaction j ∧ j ≠ Od.DCL_CHOP_FAULTS ∧ j ≠ Od.DCL_DCL_CNT_STATUS ∧ j ≠ Od.DCL_GEN_FACTOR ∧ (∀ x,
    x < 15 → j ≠ Od.OBS_ASC_COUNT x)) true s (s.openResistor leg i1 i2) := by
  unfold State.openResistor
  exact .ite (.step .chopperFault .refl) .refl
theorem ResLeaves.execChopperOpenResistor {dt : Nat} {leg : Fin 2} {i1 : Rat} {i2 : Rat} {s : State} : ResLeaves [.od, .tb,
    .out, .log, .links, .drives, .cells, .legs, .store, .seqs, .axes, .traction, .lus, .stageIn, .lvCommand, .gbx,
    .dcl, .aux, .chg, .path] (fun j => noReaction j ∧ j ≠ Od.DCL_CHOP_FAULTS ∧ j ≠ Od.DCL_DCL_CNT_STATUS ∧ j ≠
    Od.DCL_GEN_FACTOR ∧ (∀ x, x < 15 → j ≠ Od.OBS_ASC_COUNT x)) true s (execChopperOpenResistor dt leg i1 i2 s) := by
  unfold Machine.execChopperOpenResistor
  exact .reply (.step .openResistor (.step .elapse .refl))
theorem ResLeaves.execAutoRunWrite {dt : Nat} {who : Requester} {d : SelfRun} {value : BitVec 8} {s : State} : ResLeaves
    [.od, .tb, .out, .log, .drives, .cells, .sessions] (fun j => noAccess j ∧ j ≠ SelfRun.key d) false s
    (execAutoRunWrite dt who d value s) := by
  unfold Machine.execAutoRunWrite
  exact .reply (.step .writeAutoRun (.step .elapse .refl))
theorem State.Leaves.resCheckRetry {s : State} : State.Leaves [.dcl] (fun _ => True) false s (s.resCheckRetry) := by
  unfold State.resCheckRetry
  exact by split; exacts [(.ite (.step .modDcl .refl) .refl), .refl]
theorem ResLeaves.execBrkCheckRetry {dt : Nat} {s : State} : ResLeaves [.tb, .out, .log, .dcl] (fun _ => True) false s
    (execBrkCheckRetry dt s) := by
  unfold Machine.execBrkCheckRetry
  exact .reply (.step .resCheckRetry (.step .elapse .refl))
theorem State.Leaves.openSequencers {s : State} {d : Drive} : State.Leaves [.od, .log, .seqs] (fun j => j ≠
    Od.CNT_CNT_OVF_MAP ∧ (∀ x, x < 4 → j ≠ Od.GC_GC_STATUS x) ∧ (∀ x, x < 4 → j ≠ Od.GC_SUSPENDS x) ∧ (∀ x, x < 8 → j
    ≠ Od.SQ_SQ_STATUS x) ∧ (∀ x, x < 8 → j ≠ Od.SQ_TRIG_OVERRUNS x)) false s (s.openSequencers d) := by
  unfold State.openSequencers
  exact .each (fun _ _ _ => (.ite (.step .seqResume (.step .modSeq .refl)) .refl)) .refl
theorem State.Leaves.becomeReady {s : State} {d : Drive} : State.Leaves [.od, .log, .links, .drives, .cells, .legs,
    .store, .seqs, .axes, .traction, .lus, .stageIn, .lvCommand, .gbx, .dcl, .aux, .chg, .path] (fun j => noReaction
    j) true s (s.becomeReady d) := by
  unfold State.becomeReady
  exact .ite (.ite (.step .goto (.step .goto (.stepR .openSequencers .refl))) (.step .goto (.stepR .openSequencers
    .refl))) .refl
theorem State.Leaves.resChecked {s : State} {i0 : Rat} {i1 : Rat} : State.Leaves [.od, .log, .links, .drives, .cells,
    .legs, .store, .seqs, .axes, .traction, .lus, .stageIn, .lvCommand, .gbx, .dcl, .aux, .chg, .path] (fun j =>
    noReaction j ∧ j ≠ Od.DCL_RES_MEAS_0 ∧ j ≠ Od.DCL_RES_MEAS_1) true s (s.resChecked i0 i1) := by
  unfold State.resChecked
  exact .ite (.step .becomeReady (.stepR .setBit (.stepR .setField (.step .modDcl (.stepR .setQ (.stepR .setQ
    .refl)))))) (.step .lastEvent (.step .event (.step .modDcl (.stepR .setQ (.stepR .setQ .refl)))))
theorem ResLeaves.execBrkResistorCheckComplete {dt : Nat} {i0 : Rat} {i1 : Rat} {s : State} : ResLeaves [.od, .tb, .out,
    .log, .links, .drives, .cells, .legs, .store, .seqs, .axes, .traction, .lus, .stageIn, .lvCommand, .gbx, .dcl,
    .aux, .chg, .path] (fun j => noReaction j ∧ j ≠ Od.DCL_RES_MEAS_0 ∧ j ≠ Od.DCL_RES_MEAS_1) true s
    (execBrkResistorCheckComplete dt i0 i1 s) := by
  unfold Machine.execBrkResistorCheckComplete
  exact .reply (.ite (.step .resChecked (.step .elapse .refl)) (.step .elapse .refl))
theorem ResLeaves.execResOhmWrite {dt : Nat} {who : Requester} {leg : Fin 2} {value : BitVec 32} {s : State} : ResLeaves
    [.od, .tb, .out, .log, .dcl, .sessions] (fun j => noAccess j ∧ j ≠ Od.DCL_RES_OHM_0 + leg) false s
    (execResOhmWrite dt who leg value s) := by
  unfold Machine.execResOhmWrite
  exact .reply (.step .writeResOhm (.step .elapse .refl))
theorem State.Leaves.uvRelease {s : State} : State.Leaves [.od] (fun j => j ≠ Od.DCL_DCL_STATUS) false s (s.uvRelease)
    := by
  unfold State.uvRelease
  exact by split; exacts [(.ite (.step .setBit .refl) .refl), .refl]
theorem ResLeaves.execUvTripRelease {dt : Nat} {s : State} : ResLeaves [.od, .tb, .out, .log] (fun j => j ≠
    Od.DCL_DCL_STATUS) false s (execUvTripRelease dt s) := by
  unfold Machine.execUvTripRelease
  exact .reply (.step .uvRelease (.step .elapse .refl))
theorem State.Leaves.senseMismatch {s : State} : State.Leaves [.od, .log, .links, .drives, .cells, .legs, .store,
    .seqs, .axes, .traction, .lus, .stageIn, .lvCommand, .gbx, .dcl, .aux, .chg, .path] (fun j => noReaction j ∧ (∀ x,
    x < 15 → j ≠ Od.OBS_ASC_COUNT x)) true s (s.senseMismatch) := by
  unfold State.senseMismatch
  exact .ite (.step .raise (.step .modDcl (.stepR .setBit .refl))) .refl
theorem ResLeaves.execDcLinkSenseMismatch {dt : Nat} {s : State} : ResLeaves [.od, .tb, .out, .log, .links, .drives,
    .cells, .legs, .store, .seqs, .axes, .traction, .lus, .stageIn, .lvCommand, .gbx, .dcl, .aux, .chg, .path] (fun j
    => noReaction j ∧ (∀ x, x < 15 → j ≠ Od.OBS_ASC_COUNT x)) true s (execDcLinkSenseMismatch dt s) := by
  unfold Machine.execDcLinkSenseMismatch
  exact .reply (.step .senseMismatch (.step .elapse .refl))
theorem State.Leaves.recoveryFail {s : State} : State.Leaves [.od, .log, .links, .drives, .cells, .legs, .store,
    .seqs, .axes, .traction, .lus, .stageIn, .lvCommand, .gbx, .dcl, .aux, .chg, .path] (fun j => noReaction j ∧ (∀ x,
    x < 15 → j ≠ Od.OBS_ASC_COUNT x)) true s (s.recoveryFail) := by
  unfold State.recoveryFail
  exact .step .raise (.stepR .recAbort .refl)
theorem State.Leaves.gbxEvent {s : State} {code : Nat} {source : Nat} {detail : Nat} : State.Leaves [.log] (fun _ => True)
    false s (s.gbxEvent code source detail) := by
  unfold State.gbxEvent
  exact .step .lastEvent (.step .event .refl)
theorem State.Leaves.recDone {s : State} {t0 : Nat} : State.Leaves [.od, .log, .links, .drives, .cells, .legs, .store,
    .seqs, .axes, .traction, .lus, .stageIn, .lvCommand, .gbx, .dcl, .aux, .chg, .path] (fun j => noReaction j ∧ j ≠
    Od.GBX_RECOVERY_TIME_ms) true s (s.recDone t0) := by
  unfold State.recDone
  exact .step .becomeReady (.step .gbxEvent (.stepR .setN (.step .with_gbx (.each (fun _ _ _ => (.step .modSide
    .refl)) (.each (fun _ _ _ => (.stepR .coastActuator .refl)) .refl)))))
theorem State.Leaves.recEnd {s : State} : State.Leaves [.od, .log, .links, .drives, .cells, .legs, .store, .seqs,
    .axes, .traction, .lus, .stageIn, .lvCommand, .gbx, .dcl, .aux, .chg, .path] (fun j => noReaction j ∧ j ≠
    Od.GBX_RECOVERY_TIME_ms ∧ (∀ x, x < 15 → j ≠ Od.OBS_ASC_COUNT x)) true s (s.recEnd) := by
  unfold State.recEnd
  exact by split; exacts [.refl, (.ite (.step .recDone .refl) (.ite (.step .recoveryFail .refl) .refl))]
theorem ResLeaves.execGearStateRecoveryEnd {dt : Nat} {s : State} : ResLeaves [.od, .tb, .out, .log, .links, .drives,
    .cells, .legs, .store, .seqs, .axes, .traction, .lus, .stageIn, .lvCommand, .gbx, .dcl, .aux, .chg, .path] (fun j
    => noReaction j ∧ j ≠ Od.GBX_RECOVERY_TIME_ms ∧ (∀ x, x < 15 → j ≠ Od.OBS_ASC_COUNT x)) true s
    (execGearStateRecoveryEnd dt s) := by
  unfold Machine.execGearStateRecoveryEnd
  exact .reply (.step .recEnd (.step .elapse .refl))
theorem State.Leaves.recTurn {s : State} {a : Fin 4} {tq : Rat} : State.Leaves [.od, .gbx] (fun j => (∀ x, x < 8 → j ≠
    Od.AX_TQ_REF x)) false s (s.recTurn a tq) := by
  unfold State.recTurn
  exact .step .setQ (.step .setRec .refl)
theorem State.Leaves.armOnce {s : State} {a : Fin 4} : State.Leaves [.od] (fun j => (∀ x, x < 12 → j ≠
    Od.PIF_PIF_STATUS x)) false s (s.armOnce a) := by
  unfold State.armOnce
  exact .step .setBit (.step .setBit .refl)
theorem State.Leaves.recStep {s : State} {a : Fin 4} {step : Nat} {dir : Int} {tq : Rat} : State.Leaves [.od, .gbx] (fun j
    => (∀ x, x < 8 → j ≠ Od.AX_TQ_REF x)) false s (s.recStep a step dir tq) := by
  unfold State.recStep
  exact .step .setQ (.step .setRec .refl)
theorem State.Leaves.recReference {s : State} {a : Fin 4} : State.Leaves [.od, .gbx] (fun j => (∀ x, x < 8 → j ≠
    Od.AX_TQ_REF x) ∧ (∀ x, x < 12 → j ≠ Od.PIF_PIF_STATUS x)) false s (s.recReference a) := by
  unfold State.recReference
  exact .step .recStep (.step .startMove (.step .armOnce .refl))
theorem State.Leaves.recStall {s : State} {a : Fin 4} : State.Leaves [.od, .log, .links, .drives, .cells, .legs,
    .store, .seqs, .axes, .traction, .lus, .stageIn, .lvCommand, .gbx, .dcl, .aux, .chg, .path] (fun j => noReaction j
    ∧ (∀ x, x < 15 → j ≠ Od.OBS_ASC_COUNT x) ∧ (∀ x, x < 12 → j ≠ Od.PIF_PIF_STATUS x)) true s (s.recStall a) := by
  unfold State.recStall
  exact .ite .refl (by split; exacts [(.ite (.stepR .recReference .refl) (.stepR .recTurn .refl)), (.ite (.step
    .recoveryFail .refl) (.stepR .recTurn .refl)), (.ite (.step .setRec (.stepR .resolve .refl)) (.stepR .recTurn
    .refl)), .refl])
theorem ResLeaves.execRecoveryStall {dt : Nat} {a : Fin 4} {s : State} : ResLeaves [.od, .tb, .out, .log, .links,
    .drives, .cells, .legs, .store, .seqs, .axes, .traction, .lus, .stageIn, .lvCommand, .gbx, .dcl, .aux, .chg,
    .path] (fun j => noReaction j ∧ (∀ x, x < 15 → j ≠ Od.OBS_ASC_COUNT x) ∧ (∀ x, x < 12 → j ≠ Od.PIF_PIF_STATUS x))
    true s (execRecoveryStall dt a s) := by
  unfold Machine.execRecoveryStall
  exact .reply (.step .recStall (.step .elapse .refl))
theorem ResLeaves.execGearStateRecoveryStart {dt : Nat} {s : State} : ResLeaves [.od, .tb, .out, .log, .drives, .cells]
    (fun j => j ≠ Od.CNT_CNT_OVF_MAP ∧ j ≠ Od.GBX_DRIVE_STATUS ∧ j ≠ Od.GBX_RECOVERIES) false s
    (execGearStateRecoveryStart dt s) := by
  unfold Machine.execGearStateRecoveryStart
  exact .reply (.ite (.step .count (.step .startArming (.step .elapse .refl))) (.step .elapse .refl))
theorem State.Leaves.parkTimeout {s : State} {t : Fin 2} : State.Leaves [.od, .log, .cells, .axes, .gbx] (fun j => (∀
    x, x < 8 → j ≠ Od.AX_AXIS_STATUS x) ∧ (∀ x, x < 8 → j ≠ Od.AX_I_ALPHA x) ∧ (∀ x, x < 8 → j ≠ Od.AX_I_BETA x) ∧ (∀
    x, x < 8 → j ≠ Od.AX_PSI_ALPHA x) ∧ (∀ x, x < 8 → j ≠ Od.AX_PSI_BETA x) ∧ (∀ x, x < 8 → j ≠ Od.AX_TQ_REF x) ∧ j ≠
    Od.CNT_CNT_OVF_MAP ∧ (∀ x, x < 24 → j ≠ Od.LU_REF x) ∧ (∀ x, x < 8 → j ≠ Od.OBS_OBS_STATUS x) ∧ j ≠
    Od.PRK_PARK_CNT_STATUS t ∧ j ≠ Od.PRK_PARK_FAILS t ∧ j ≠ Od.PRK_PARK_STATE t ∧ (∀ x, x < 8 → j ≠ Od.SOL_DUTY x) ∧
    (∀ x, x < 8 → j ≠ Od.SOL_ENERGISATIONS x) ∧ (∀ x, x < 8 → j ≠ Od.SOL_I_SET x) ∧ (∀ x, x < 8 → j ≠
    Od.SOL_SOL_CNT_STATUS x) ∧ (∀ x, x < 8 → j ≠ Od.SOL_SOL_STATUS x)) false s (s.parkTimeout t) := by
  unfold State.parkTimeout
  exact .ite (.step .gbxEvent (.step .count (.step .movePawl (.step .parkSolenoid (.step .setPark .refl))))) .refl
theorem ResLeaves.execParkReleaseTimeout {dt : Nat} {t : Fin 2} {s : State} : ResLeaves [.od, .tb, .out, .log, .cells,
    .axes, .gbx] (fun j => (∀ x, x < 8 → j ≠ Od.AX_AXIS_STATUS x) ∧ (∀ x, x < 8 → j ≠ Od.AX_I_ALPHA x) ∧ (∀ x, x < 8 →
    j ≠ Od.AX_I_BETA x) ∧ (∀ x, x < 8 → j ≠ Od.AX_PSI_ALPHA x) ∧ (∀ x, x < 8 → j ≠ Od.AX_PSI_BETA x) ∧ (∀ x, x < 8 → j
    ≠ Od.AX_TQ_REF x) ∧ j ≠ Od.CNT_CNT_OVF_MAP ∧ (∀ x, x < 24 → j ≠ Od.LU_REF x) ∧ (∀ x, x < 8 → j ≠ Od.OBS_OBS_STATUS
    x) ∧ j ≠ Od.PRK_PARK_CNT_STATUS t ∧ j ≠ Od.PRK_PARK_FAILS t ∧ j ≠ Od.PRK_PARK_STATE t ∧ (∀ x, x < 8 → j ≠
    Od.SOL_DUTY x) ∧ (∀ x, x < 8 → j ≠ Od.SOL_ENERGISATIONS x) ∧ (∀ x, x < 8 → j ≠ Od.SOL_I_SET x) ∧ (∀ x, x < 8 → j ≠
    Od.SOL_SOL_CNT_STATUS x) ∧ (∀ x, x < 8 → j ≠ Od.SOL_SOL_STATUS x)) false s (execParkReleaseTimeout dt t s) := by
  unfold Machine.execParkReleaseTimeout
  exact .reply (.step .parkTimeout (.step .elapse .refl))
theorem State.Leaves.pushPawl {s : State} {t : Fin 2} : State.Leaves [.od, .gbx] (fun j => (∀ x, x < 8 → j ≠
    Od.AX_TQ_REF x)) false s (s.pushPawl t) := by
  unfold State.pushPawl
  exact .step .setQ (.step .with_gbx .refl)
theorem ResLeaves.execPawlOnTooth {dt : Nat} {t : Fin 2} {s : State} : ResLeaves [.od, .tb, .out, .log, .gbx] (fun j =>
    (∀ x, x < 8 → j ≠ Od.AX_TQ_REF x)) false s (execPawlOnTooth dt t s) := by
  unfold Machine.execPawlOnTooth
  exact .reply (.ite (.step .pushPawl (.step .modSide (.step .elapse .refl))) (.step .elapse .refl))
theorem State.Leaves.parkConfirm {s : State} {t : Fin 2} : State.Leaves [.od, .log, .cells, .legs, .gbx] (fun j => j ≠
    Od.CNT_CNT_OVF_MAP ∧ (∀ x, x < 15 → j ≠ Od.OBS_ASC_TIME_ms x) ∧ (∀ x, x < 15 → j ≠ Od.OBS_OBS_CNT_STATUS x) ∧ j ≠
    Od.PRK_PARK_CNT_STATUS t ∧ j ≠ Od.PRK_PARK_OPS t ∧ j ≠ Od.PRK_PARK_STATE t ∧ (∀ x, x < 50 → j ≠ Od.SH_CH_STATUS
    x)) false s (s.parkConfirm t) := by
  unfold State.parkConfirm
  exact .ite .refl (.ite (.step .gbxEvent (.step .count (.step .confirm (.step .coastActuator (.step .setPark
    .refl))))) (.ite (.step .gbxEvent (.step .confirm (.step .coastActuator (.step .setPark .refl)))) .refl))
theorem ResLeaves.execParkPositionConfirm {dt : Nat} {t : Fin 2} {s : State} : ResLeaves [.od, .tb, .out, .log, .cells,
    .legs, .gbx] (fun j => j ≠ Od.CNT_CNT_OVF_MAP ∧ (∀ x, x < 15 → j ≠ Od.OBS_ASC_TIME_ms x) ∧ (∀ x, x < 15 → j ≠
    Od.OBS_OBS_CNT_STATUS x) ∧ j ≠ Od.PRK_PARK_CNT_STATUS t ∧ j ≠ Od.PRK_PARK_OPS t ∧ j ≠ Od.PRK_PARK_STATE t ∧ (∀ x,
    x < 50 → j ≠ Od.SH_CH_STATUS x)) false s (execParkPositionConfirm dt t s) := by
  unfold Machine.execParkPositionConfirm
  exact .reply (.step .parkConfirm (.step .elapse .refl))
theorem ResLeaves.execParkReleaseCmd {dt : Nat} {who : Requester} {t : Fin 2} {s : State} : ResLeaves [.od, .tb, .out,
    .log, .cells, .axes, .gbx, .sessions] (fun j => noAccess j ∧ (∀ x, x < 8 → j ≠ Od.AX_AXIS_STATUS x) ∧ (∀ x, x < 8
    → j ≠ Od.AX_I_ALPHA x) ∧ (∀ x, x < 8 → j ≠ Od.AX_I_BETA x) ∧ (∀ x, x < 8 → j ≠ Od.AX_PSI_ALPHA x) ∧ (∀ x, x < 8 →
    j ≠ Od.AX_PSI_BETA x) ∧ (∀ x, x < 8 → j ≠ Od.AX_TQ_REF x) ∧ (∀ x, x < 24 → j ≠ Od.LU_REF x) ∧ (∀ x, x < 8 → j ≠
    Od.OBS_OBS_STATUS x) ∧ j ≠ Od.PRK_PARK_CMD t ∧ j ≠ Od.PRK_PARK_STATE t ∧ (∀ x, x < 8 → j ≠ Od.SOL_DUTY x) ∧ (∀ x,
    x < 8 → j ≠ Od.SOL_ENERGISATIONS x) ∧ (∀ x, x < 8 → j ≠ Od.SOL_I_SET x) ∧ (∀ x, x < 8 → j ≠ Od.SOL_SOL_CNT_STATUS
    x) ∧ (∀ x, x < 8 → j ≠ Od.SOL_SOL_STATUS x)) false s (execParkReleaseCmd dt who t s) := by
  unfold Machine.execParkReleaseCmd
  exact .reply (.step .writePark (.step .elapse .refl))
theorem ResLeaves.execParkEngageCmd {dt : Nat} {who : Requester} {t : Fin 2} {s : State} : ResLeaves [.od, .tb, .out,
    .log, .cells, .axes, .gbx, .sessions] (fun j => noAccess j ∧ (∀ x, x < 8 → j ≠ Od.AX_AXIS_STATUS x) ∧ (∀ x, x < 8
    → j ≠ Od.AX_I_ALPHA x) ∧ (∀ x, x < 8 → j ≠ Od.AX_I_BETA x) ∧ (∀ x, x < 8 → j ≠ Od.AX_PSI_ALPHA x) ∧ (∀ x, x < 8 →
    j ≠ Od.AX_PSI_BETA x) ∧ (∀ x, x < 8 → j ≠ Od.AX_TQ_REF x) ∧ (∀ x, x < 24 → j ≠ Od.LU_REF x) ∧ (∀ x, x < 8 → j ≠
    Od.OBS_OBS_STATUS x) ∧ j ≠ Od.PRK_PARK_CMD t ∧ j ≠ Od.PRK_PARK_STATE t ∧ (∀ x, x < 8 → j ≠ Od.SOL_DUTY x) ∧ (∀ x,
    x < 8 → j ≠ Od.SOL_ENERGISATIONS x) ∧ (∀ x, x < 8 → j ≠ Od.SOL_I_SET x) ∧ (∀ x, x < 8 → j ≠ Od.SOL_SOL_CNT_STATUS
    x) ∧ (∀ x, x < 8 → j ≠ Od.SOL_SOL_STATUS x)) false s (execParkEngageCmd dt who t s) := by
  unfold Machine.execParkEngageCmd
  exact .reply (.step .writePark (.step .elapse .refl))
theorem ResLeaves.execSolenoidDeviation {dt : Nat} {ch : Fin 8} {s : State} : ResLeaves [.od, .tb, .out, .log] (fun j =>
    j ≠ Od.SOL_SOL_STATUS ch) false s (execSolenoidDeviation dt ch s) := by
  unfold Machine.execSolenoidDeviation
  exact .reply (.ite (.step .gbxEvent (.step .setBit (.step .elapse .refl))) (.step .elapse .refl))
theorem State.Leaves.solFault {s : State} {ch : Fin 8} {bit : Nat} : State.Leaves [.od, .log, .cells, .legs, .axes,
    .gbx] (fun j => (∀ x, x < 8 → j ≠ Od.AX_AXIS_STATUS x) ∧ (∀ x, x < 8 → j ≠ Od.AX_I_ALPHA x) ∧ (∀ x, x < 8 → j ≠
    Od.AX_I_BETA x) ∧ (∀ x, x < 8 → j ≠ Od.AX_PSI_ALPHA x) ∧ (∀ x, x < 8 → j ≠ Od.AX_PSI_BETA x) ∧ (∀ x, x < 8 → j ≠
    Od.AX_TQ_REF x) ∧ j ≠ Od.CNT_CNT_OVF_MAP ∧ (∀ x, x < 24 → j ≠ Od.LU_REF x) ∧ (∀ x, x < 15 → j ≠ Od.OBS_ASC_TIME_ms
    x) ∧ (∀ x, x < 15 → j ≠ Od.OBS_OBS_CNT_STATUS x) ∧ (∀ x, x < 8 → j ≠ Od.OBS_OBS_STATUS x) ∧ (∀ x, x < 2 → j ≠
    Od.PRK_PARK_CNT_STATUS x) ∧ (∀ x, x < 2 → j ≠ Od.PRK_PARK_STATE x) ∧ (∀ x, x < 2 → j ≠ Od.PRK_UNCOMMANDED x) ∧ (∀
    x, x < 50 → j ≠ Od.SH_CH_STATUS x) ∧ j ≠ Od.SOL_DUTY ch ∧ j ≠ Od.SOL_ENERGISATIONS ch ∧ (∀ x, x < 8 → j ≠
    Od.SOL_I_SET x) ∧ j ≠ Od.SOL_SOL_CNT_STATUS ch ∧ j ≠ Od.SOL_SOL_FAULTS ch ∧ (∀ x, x < 8 → j ≠ Od.SOL_SOL_STATUS
    x)) false s (s.solFault ch bit) := by
  unfold State.solFault
  exact .step .gbxEvent (.step .solenoidOff (.step .count (.step .setBit .refl)))
theorem ResLeaves.execSolenoidOpenLoad {dt : Nat} {ch : Fin 8} {s : State} : ResLeaves [.od, .tb, .out, .log, .cells,
    .legs, .axes, .gbx] (fun j => (∀ x, x < 8 → j ≠ Od.AX_AXIS_STATUS x) ∧ (∀ x, x < 8 → j ≠ Od.AX_I_ALPHA x) ∧ (∀ x,
    x < 8 → j ≠ Od.AX_I_BETA x) ∧ (∀ x, x < 8 → j ≠ Od.AX_PSI_ALPHA x) ∧ (∀ x, x < 8 → j ≠ Od.AX_PSI_BETA x) ∧ (∀ x, x
    < 8 → j ≠ Od.AX_TQ_REF x) ∧ j ≠ Od.CNT_CNT_OVF_MAP ∧ (∀ x, x < 24 → j ≠ Od.LU_REF x) ∧ (∀ x, x < 15 → j ≠
    Od.OBS_ASC_TIME_ms x) ∧ (∀ x, x < 15 → j ≠ Od.OBS_OBS_CNT_STATUS x) ∧ (∀ x, x < 8 → j ≠ Od.OBS_OBS_STATUS x) ∧ (∀
    x, x < 2 → j ≠ Od.PRK_PARK_CNT_STATUS x) ∧ (∀ x, x < 2 → j ≠ Od.PRK_PARK_STATE x) ∧ (∀ x, x < 2 → j ≠
    Od.PRK_UNCOMMANDED x) ∧ (∀ x, x < 50 → j ≠ Od.SH_CH_STATUS x) ∧ j ≠ Od.SOL_DUTY ch ∧ j ≠ Od.SOL_ENERGISATIONS ch ∧
    (∀ x, x < 8 → j ≠ Od.SOL_I_SET x) ∧ j ≠ Od.SOL_SOL_CNT_STATUS ch ∧ j ≠ Od.SOL_SOL_FAULTS ch ∧ (∀ x, x < 8 → j ≠
    Od.SOL_SOL_STATUS x)) false s (execSolenoidOpenLoad dt ch s) := by
  unfold Machine.execSolenoidOpenLoad
  exact .reply (.ite (.step .solFault (.step .elapse .refl)) (.step .elapse .refl))
theorem ResLeaves.execSolenoidOvercurrent {dt : Nat} {ch : Fin 8} {i : Rat} {s : State} : ResLeaves [.od, .tb, .out, .log,
    .cells, .legs, .axes, .gbx] (fun j => (∀ x, x < 8 → j ≠ Od.AX_AXIS_STATUS x) ∧ (∀ x, x < 8 → j ≠ Od.AX_I_ALPHA x)
    ∧ (∀ x, x < 8 → j ≠ Od.AX_I_BETA x) ∧ (∀ x, x < 8 → j ≠ Od.AX_PSI_ALPHA x) ∧ (∀ x, x < 8 → j ≠ Od.AX_PSI_BETA x) ∧
    (∀ x, x < 8 → j ≠ Od.AX_TQ_REF x) ∧ j ≠ Od.CNT_CNT_OVF_MAP ∧ (∀ x, x < 24 → j ≠ Od.LU_REF x) ∧ (∀ x, x < 15 → j ≠
    Od.OBS_ASC_TIME_ms x) ∧ (∀ x, x < 15 → j ≠ Od.OBS_OBS_CNT_STATUS x) ∧ (∀ x, x < 8 → j ≠ Od.OBS_OBS_STATUS x) ∧ (∀
    x, x < 2 → j ≠ Od.PRK_PARK_CNT_STATUS x) ∧ (∀ x, x < 2 → j ≠ Od.PRK_PARK_STATE x) ∧ (∀ x, x < 2 → j ≠
    Od.PRK_UNCOMMANDED x) ∧ (∀ x, x < 50 → j ≠ Od.SH_CH_STATUS x) ∧ j ≠ Od.SOL_DUTY ch ∧ j ≠ Od.SOL_ENERGISATIONS ch ∧
    j ≠ Od.SOL_I_ACT ch ∧ (∀ x, x < 8 → j ≠ Od.SOL_I_SET x) ∧ j ≠ Od.SOL_SOL_CNT_STATUS ch ∧ j ≠ Od.SOL_SOL_FAULTS ch
    ∧ (∀ x, x < 8 → j ≠ Od.SOL_SOL_STATUS x)) false s (execSolenoidOvercurrent dt ch i s) := by
  unfold Machine.execSolenoidOvercurrent
  exact .reply (.ite (.step .solFault (.step .setQ (.step .elapse .refl))) (.step .elapse .refl))
theorem ResLeaves.execIbBelow38V {dt : Nat} {v : Rat} {s : State} : ResLeaves [.od, .tb, .out, .log, .cells, .legs, .axes,
    .gbx, .aux] (fun j => (∀ x, x < 8 → j ≠ Od.AX_AXIS_STATUS x) ∧ (∀ x, x < 8 → j ≠ Od.AX_I_ALPHA x) ∧ (∀ x, x < 8 →
    j ≠ Od.AX_I_BETA x) ∧ (∀ x, x < 8 → j ≠ Od.AX_PSI_ALPHA x) ∧ (∀ x, x < 8 → j ≠ Od.AX_PSI_BETA x) ∧ (∀ x, x < 8 → j
    ≠ Od.AX_TQ_REF x) ∧ j ≠ Od.CNT_CNT_OVF_MAP ∧ j ≠ Od.CNV_V_IB ∧ (∀ x, x < 24 → j ≠ Od.LU_REF x) ∧ (∀ x, x < 15 → j
    ≠ Od.OBS_ASC_TIME_ms x) ∧ (∀ x, x < 15 → j ≠ Od.OBS_OBS_CNT_STATUS x) ∧ (∀ x, x < 8 → j ≠ Od.OBS_OBS_STATUS x) ∧
    (∀ x, x < 2 → j ≠ Od.PRK_PARK_CNT_STATUS x) ∧ (∀ x, x < 2 → j ≠ Od.PRK_PARK_STATE x) ∧ (∀ x, x < 2 → j ≠
    Od.PRK_UNCOMMANDED x) ∧ (∀ x, x < 50 → j ≠ Od.SH_CH_STATUS x) ∧ (∀ x, x < 8 → j ≠ Od.SOL_DUTY x) ∧ (∀ x, x < 8 → j
    ≠ Od.SOL_ENERGISATIONS x) ∧ (∀ x, x < 8 → j ≠ Od.SOL_I_SET x) ∧ (∀ x, x < 8 → j ≠ Od.SOL_SOL_CNT_STATUS x) ∧ (∀ x,
    x < 8 → j ≠ Od.SOL_SOL_STATUS x)) false s (execIbBelow38V dt v s) := by
  unfold Machine.execIbBelow38V
  exact .reply (.ite (.step .solenoidsOff (.step .senseIb (.step .elapse .refl))) (.step .elapse .refl))
theorem ResLeaves.execISetWrite {dt : Nat} {who : Requester} {ch : Fin 8} {value : BitVec 32} {s : State} : ResLeaves
    [.od, .tb, .out, .log, .gbx, .sessions] (fun j => noAccess j ∧ (∀ x, x < 24 → j ≠ Od.LU_REF x) ∧ j ≠ Od.SOL_I_SET
    ch ∧ j ≠ Od.SOL_SOL_STATUS ch) false s (execISetWrite dt who ch value s) := by
  unfold Machine.execISetWrite
  exact .reply (.step .writeISet (.step .elapse .refl))
theorem ResLeaves.execActuatorAxisFault {dt : Nat} {a : Fin 4} {s : State} : ResLeaves [.od, .tb, .out, .log, .links,
    .drives, .cells, .legs, .store, .seqs, .axes, .traction, .lus, .stageIn, .lvCommand, .gbx, .dcl, .aux, .chg,
    .path] (fun j => noReaction j ∧ (∀ x, x < 15 → j ≠ Od.OBS_ASC_COUNT x)) true s (execActuatorAxisFault dt a s) :=
    by
  unfold Machine.execActuatorAxisFault
  exact .reply (.ite (.step .actuatorFault (.step .elapse .refl)) (.step .elapse .refl))
theorem State.Leaves.shiftDone {s : State} {t : Fin 2} : State.Leaves [.od, .log, .traction, .gbx] (fun j => j ≠
    Od.CNT_CNT_OVF_MAP ∧ j ≠ Od.SHF_SHIFTS t ∧ j ≠ Od.SHF_SHIFT_CNT_STATUS ∧ j ≠ Od.SHF_SHIFT_STEP t ∧ j ≠
    Od.SHF_SHIFT_TIME_ms t) false s (s.shiftDone t) := by
  unfold State.shiftDone
  exact .step .shiftIdle (.step .lastEvent (.step .event (.step .setN (.step .count .refl))))
theorem State.Leaves.setSpeedRef {s : State} {t : Fin 2} {q : Rat} : State.Leaves [.od] (fun j => (∀ x, x < 24 → j ≠
    Od.LU_REF x)) false s (s.setSpeedRef t q) := by
  unfold State.setSpeedRef
  exact .when (fun _ => .step .setQ .refl fun _ hj => hj _ (by omega)) .refl
theorem State.Leaves.shiftSync {s : State} {t : Fin 2} : State.Leaves [.od, .traction, .gbx] (fun j => j ≠
    Od.AXLE_LIMIT_AXLE_A + t ∧ (∀ x, x < 24 → j ≠ Od.LU_REF x) ∧ j ≠ Od.SHF_SHIFT_STEP t) false s (s.shiftSync t) :=
    by
  unfold State.shiftSync
  exact .step .moveLimit (.step .setSpeedRef (.step .modTr (.step .modSide (.step .shiftTo .refl))))
theorem State.Leaves.moveFork {s : State} {t : Fin 2} {pos : Int} : State.Leaves [.od, .cells, .axes, .gbx] (fun j => (∀
    x, x < 8 → j ≠ Od.AX_AXIS_STATUS x) ∧ (∀ x, x < 8 → j ≠ Od.AX_I_ALPHA x) ∧ (∀ x, x < 8 → j ≠ Od.AX_I_BETA x) ∧ (∀
    x, x < 8 → j ≠ Od.AX_PSI_ALPHA x) ∧ (∀ x, x < 8 → j ≠ Od.AX_PSI_BETA x) ∧ (∀ x, x < 8 → j ≠ Od.AX_TQ_REF x) ∧ (∀
    x, x < 24 → j ≠ Od.LU_REF x) ∧ (∀ x, x < 8 → j ≠ Od.OBS_OBS_STATUS x)) false s (s.moveFork t pos) := by
  unfold State.moveFork
  exact .step .engageActuator (.step .setRef (.step .startMove .refl))
theorem State.Leaves.shiftBlocked {s : State} {t : Fin 2} : State.Leaves [.od, .log, .cells, .axes, .traction, .gbx]
    (fun j => j ≠ Od.AXLE_LIMIT_AXLE_A + t ∧ (∀ x, x < 8 → j ≠ Od.AX_AXIS_STATUS x) ∧ (∀ x, x < 8 → j ≠ Od.AX_I_ALPHA
    x) ∧ (∀ x, x < 8 → j ≠ Od.AX_I_BETA x) ∧ (∀ x, x < 8 → j ≠ Od.AX_PSI_ALPHA x) ∧ (∀ x, x < 8 → j ≠ Od.AX_PSI_BETA
    x) ∧ (∀ x, x < 8 → j ≠ Od.AX_TQ_REF x) ∧ j ≠ Od.CNT_CNT_OVF_MAP ∧ (∀ x, x < 24 → j ≠ Od.LU_REF x) ∧ (∀ x, x < 8 →
    j ≠ Od.OBS_OBS_STATUS x) ∧ j ≠ Od.SHF_GEAR_STATE t ∧ j ≠ Od.SHF_SHIFT_CNT_STATUS ∧ j ≠ Od.SHF_SHIFT_FAILS t ∧ j ≠
    Od.SHF_SHIFT_STEP t) false s (s.shiftBlocked t) := by
  unfold State.shiftBlocked
  exact .ite (.step .shiftSync (.step .modSide (.step .moveFork .refl))) (.step .shiftFail (.step .moveFork .refl))
theorem State.Leaves.shiftLimit {s : State} {t : Fin 2} : State.Leaves [.od, .log, .cells, .axes, .traction, .gbx]
    (fun j => j ≠ Od.AXLE_LIMIT_AXLE_A + t ∧ (∀ x, x < 8 → j ≠ Od.AX_AXIS_STATUS x) ∧ (∀ x, x < 8 → j ≠ Od.AX_I_ALPHA
    x) ∧ (∀ x, x < 8 → j ≠ Od.AX_I_BETA x) ∧ (∀ x, x < 8 → j ≠ Od.AX_PSI_ALPHA x) ∧ (∀ x, x < 8 → j ≠ Od.AX_PSI_BETA
    x) ∧ (∀ x, x < 8 → j ≠ Od.AX_TQ_REF x) ∧ j ≠ Od.CNT_CNT_OVF_MAP ∧ (∀ x, x < 24 → j ≠ Od.LU_REF x) ∧ (∀ x, x < 8 →
    j ≠ Od.OBS_OBS_STATUS x) ∧ j ≠ Od.SHF_GEAR_STATE t ∧ j ≠ Od.SHF_SHIFTS t ∧ j ≠ Od.SHF_SHIFT_CNT_STATUS ∧ j ≠
    Od.SHF_SHIFT_FAILS t ∧ j ≠ Od.SHF_SHIFT_STEP t ∧ j ≠ Od.SHF_SHIFT_TIME_ms t) false s (s.shiftLimit t) := by
  unfold State.shiftLimit
  exact .ite (by split; exacts [(.step .shiftFail .refl), (.step .shiftFail (.step .moveFork .refl)), (.step
    .shiftFail .refl), (.step .shiftBlocked .refl), (.step .shiftFail (.step .moveFork .refl)), (.step .shiftDone
    .refl)]) .refl
theorem ResLeaves.execShiftStepLimit {dt : Nat} {t : Fin 2} {s : State} : ResLeaves [.od, .tb, .out, .log, .cells,
    .axes, .traction, .gbx] (fun j => j ≠ Od.AXLE_LIMIT_AXLE_A + t ∧ (∀ x, x < 8 → j ≠ Od.AX_AXIS_STATUS x) ∧ (∀ x, x
    < 8 → j ≠ Od.AX_I_ALPHA x) ∧ (∀ x, x < 8 → j ≠ Od.AX_I_BETA x) ∧ (∀ x, x < 8 → j ≠ Od.AX_PSI_ALPHA x) ∧ (∀ x, x <
    8 → j ≠ Od.AX_PSI_BETA x) ∧ (∀ x, x < 8 → j ≠ Od.AX_TQ_REF x) ∧ j ≠ Od.CNT_CNT_OVF_MAP ∧ (∀ x, x < 24 → j ≠
    Od.LU_REF x) ∧ (∀ x, x < 8 → j ≠ Od.OBS_OBS_STATUS x) ∧ j ≠ Od.SHF_GEAR_STATE t ∧ j ≠ Od.SHF_SHIFTS t ∧ j ≠
    Od.SHF_SHIFT_CNT_STATUS ∧ j ≠ Od.SHF_SHIFT_FAILS t ∧ j ≠ Od.SHF_SHIFT_STEP t ∧ j ≠ Od.SHF_SHIFT_TIME_ms t) false s
    (execShiftStepLimit dt t s) := by
  unfold Machine.execShiftStepLimit
  exact .reply (.step .shiftLimit (.step .elapse .refl))
theorem ResLeaves.execShiftCmdWrite {dt : Nat} {who : Requester} {t : Fin 2} {value : BitVec 8} {s : State} : ResLeaves
    [.od, .tb, .out, .log, .gbx, .sessions] (fun j => noAccess j ∧ j ≠ Od.SHF_GEAR_STATE t ∧ j ≠ Od.SHF_LAST_REFUSAL ∧
    j ≠ Od.SHF_SHIFT_CMD t ∧ j ≠ Od.SHF_SHIFT_STEP t) false s (execShiftCmdWrite dt who t value s) := by
  unfold Machine.execShiftCmdWrite
  exact .reply (.step .writeShift (.step .elapse .refl))
theorem ResLeaves.execAxleDirectionWrite {dt : Nat} {who : Requester} {value : BitVec 8} {s : State} : ResLeaves [.od,
    .tb, .out, .log, .drives, .cells, .legs, .axes, .traction, .gbx, .sessions] (fun j => noAccess j ∧ j ≠
    Od.AXLE_AXLE_DIRECTION ∧ (∀ x, x < 8 → j ≠ Od.AX_TQ_REF x) ∧ (∀ x, x < 15 → j ≠ Od.OBS_ASC_TIME_ms x) ∧ (∀ x, x <
    15 → j ≠ Od.OBS_OBS_CNT_STATUS x) ∧ (∀ x, x < 8 → j ≠ Od.OBS_OBS_STATUS x) ∧ (∀ x, x < 50 → j ≠ Od.SH_CH_STATUS x)
    ∧ (∀ x, x < 2 → j ≠ Od.TR_DIRECTION x) ∧ (∀ x, x < 2 → j ≠ Od.TR_DIR_CHANGES x) ∧ (∀ x, x < 2 → j ≠
    Od.TR_DRIVE_STATUS x) ∧ (∀ x, x < 2 → j ≠ Od.TR_TQ_RAMP x)) false s (execAxleDirectionWrite dt who value s) := by
  unfold Machine.execAxleDirectionWrite
  exact .reply (.step .writeAxleDirection (.step .elapse .refl))
theorem ResLeaves.execYawTqSetWrite {dt : Nat} {who : Requester} {value : BitVec 32} {s : State} : ResLeaves [.od, .tb,
    .out, .log, .sessions] (fun j => noAccess j ∧ j ≠ Od.AXLE_YAW_TQ_SET) false s (execYawTqSetWrite dt who value s)
    := by
  unfold Machine.execYawTqSetWrite
  exact .reply (.step .writeAxleTorque (.step .elapse .refl))
theorem ResLeaves.execAxleTqSetWrite {dt : Nat} {who : Requester} {value : BitVec 32} {s : State} : ResLeaves [.od, .tb,
    .out, .log, .sessions] (fun j => noAccess j ∧ j ≠ Od.AXLE_AXLE_TQ_SET) false s (execAxleTqSetWrite dt who value s)
    := by
  unfold Machine.execAxleTqSetWrite
  exact .reply (.step .writeAxleTorque (.step .elapse .refl))
theorem ResLeaves.execAxleModeWrite {dt : Nat} {who : Requester} {value : BitVec 8} {s : State} : ResLeaves [.od, .tb,
    .out, .log, .drives, .cells, .legs, .axes, .traction, .gbx, .sessions] (fun j => noAccess j ∧ j ≠
    Od.AXLE_AXLE_CNT_STATUS ∧ j ≠ Od.AXLE_AXLE_MODE ∧ j ≠ Od.AXLE_AXLE_STATUS ∧ j ≠ Od.AXLE_MODE_CHANGES ∧ j ≠
    Od.AXLE_SHORTFALL ∧ j ≠ Od.AXLE_WHEEL_TQ_A ∧ j ≠ Od.AXLE_WHEEL_TQ_B ∧ (∀ x, x < 8 → j ≠ Od.AX_TQ_REF x) ∧ (∀ x, x
    < 15 → j ≠ Od.OBS_ASC_TIME_ms x) ∧ (∀ x, x < 15 → j ≠ Od.OBS_OBS_CNT_STATUS x) ∧ (∀ x, x < 8 → j ≠
    Od.OBS_OBS_STATUS x) ∧ (∀ x, x < 50 → j ≠ Od.SH_CH_STATUS x) ∧ (∀ x, x < 2 → j ≠ Od.TR_DIRECTION x) ∧ (∀ x, x < 2
    → j ≠ Od.TR_DIR_CHANGES x) ∧ (∀ x, x < 2 → j ≠ Od.TR_DRIVE_STATUS x) ∧ (∀ x, x < 2 → j ≠ Od.TR_TQ_RAMP x)) false s
    (execAxleModeWrite dt who value s) := by
  unfold Machine.execAxleModeWrite
  exact .reply (.step .writeAxleMode (.step .elapse .refl))
theorem State.Leaves.reject {s : State} {r : Nat × Nat} : State.Leaves [.od, .log] (fun j => j ≠ Od.POOL_ADMIT_RESULT ∧ j
    ≠ Od.POOL_ADMIT_TASK) false s (s.reject r) := by
  unfold State.reject
  exact .step .event (.step .setN (.step .setN .refl))
theorem State.Leaves.recomputeBounds {s : State} : State.Leaves [.od, .log] (fun j => j ≠ Od.POOL_POOL_STATUS) false s
    (s.recomputeBounds) := by
  unfold State.recomputeBounds
  exact by dsimp only; split; exacts [(.step .setBit (.when (fun _ => (.step .event .refl)) (.step .setBit .refl))), (.step
    .setBit (.step .setBit .refl))]
theorem State.Leaves.modEng {s : State} {e : Fin 24} {f : EngSt → EngSt} : State.Leaves [.engines] (fun _ => True)
    false s (s.modEng e f) := by
  unfold State.modEng
  exact .step .with_engines .refl
theorem State.Leaves.modTask {s : State} {k : Fin 59} {f : TaskSt → TaskSt} : State.Leaves [.tasks] (fun _ => True)
    false s (s.modTask k f) := by
  unfold State.modTask
  exact .step .with_tasks .refl
theorem State.Leaves.startTask {s : State} {e : Fin 24} {k : Fin 59} {from_ : Option Nat} : State.Leaves [.od, .fresh,
    .engines, .tasks] (fun j => j ≠ Od.CNT_CNT_OVF_MAP ∧ j ≠ Od.ENG_DISPATCHES e ∧ j ≠ Od.ENG_ENG_CNT_STATUS e ∧ j ≠
    Od.ENG_STEALS e ∧ j ≠ Od.ENG_STEAL_TIME_MAX_ns e ∧ j ≠ Od.POOL_STEAL_COST_MAX_ns ∧ j ≠ Od.TASK_START_LAT_MAX_us k ∧
    (∀ q, from_ = some q → j ≠ Od.ENG_STOLEN_FROM q ∧ j ≠ Od.ENG_ENG_CNT_STATUS q)) false s (s.startTask e k from_) := by
  unfold State.startTask
  dsimp only
  split
  · exact .step .setQ (.step .countWide (.step .modEng (.step .modTask .refl)))
  · exact .step .setN (.step .setN (.step .count (.step .count (.step .draw (.step .setQ (.step .countWide (.step .modEng
      (.step .modTask .refl))))))))
/-- The queue that a thief takes from is an engine's. -/
theorem State.stealQueue_lt {s : State} {f : Nat → Nat} {q : Nat} (h : s.stealQueue f = some q) : q < 24 := by
  have hlt (o : Option (Fin 24)) (h : o.map (·.val) = some q) : q < 24 := by
    obtain ⟨e, _, rfl⟩ := Option.map_eq_some_iff.1 h
    exact e.isLt
  unfold State.stealQueue at h
  dsimp only at h
  split at h
  · next heq =>
    obtain rfl := Option.some.inj h
    exact hlt _ heq
  · exact hlt _ h
theorem State.Leaves.dispatchIdle {s : State} {e : Fin 24} {stolen : Nat} : State.Leaves [.od, .fresh, .engines, .tasks]
    (fun j => j ≠ Od.CNT_CNT_OVF_MAP ∧ j ≠ Od.ENG_DISPATCHES e ∧ (∀ x, x < 24 → j ≠ Od.ENG_ENG_CNT_STATUS x) ∧ j ≠
    Od.ENG_STEALS e ∧ j ≠ Od.ENG_STEAL_TIME_MAX_ns e ∧ (∀ x, x < 24 → j ≠ Od.ENG_STOLEN_FROM x) ∧ j ≠
    Od.POOL_CLAIM_CONFLICTS ∧ j ≠ Od.POOL_POOL_CNT_STATUS ∧ j ≠ Od.POOL_STEAL_COST_MAX_ns ∧ (∀ x, x < 59 → j ≠
    Od.TASK_START_LAT_MAX_us x)) false s (s.dispatchIdle e stolen).1 := by
  unfold State.dispatchIdle
  split
  · dsimp only
    split
    · next q hq =>
      have hlt := State.stealQueue_lt hq
      split
      · dsimp only
        refine .step .startTask (.when (fun _ => .step .count .refl) .refl) ?_
        rintro j ⟨hovf, hdisp, hcnt, hsteals, htime, hfrom, _, _, hcost, hlat⟩
        refine ⟨hovf, hdisp, hcnt _ e.isLt, hsteals, htime, hcost, hlat _ (Fin.isLt _), fun p hp => ?_⟩
        obtain rfl := Option.some.inj hp
        exact ⟨hfrom _ hlt, hcnt _ hlt⟩
      · exact .when (fun _ => .step .count .refl) .refl
    · split
      · dsimp only
        exact .step .startTask (.when (fun _ => .step .count .refl) .refl) (by simp +contextual only [reduceCtorEq, false_implies, ne_eq, not_false_eq_true, and_self, implies_true, Fin.val_lt_of_le, Nat.reduceLeDiff, Nat.reduceLT])
      · exact .when (fun _ => .step .count .refl) .refl
  · exact .refl
theorem State.Leaves.dispatchOwn {s : State} {e : Fin 24} : State.Leaves [.od, .fresh, .engines, .tasks] (fun j => j ≠
    Od.CNT_CNT_OVF_MAP ∧ j ≠ Od.ENG_DISPATCHES e ∧ (∀ x, x < 24 → j ≠ Od.ENG_ENG_CNT_STATUS x) ∧ j ≠ Od.ENG_STEALS e ∧
    j ≠ Od.ENG_STEAL_TIME_MAX_ns e ∧ (∀ x, x < 24 → j ≠ Od.ENG_STOLEN_FROM x) ∧ j ≠ Od.POOL_STEAL_COST_MAX_ns ∧ (∀ x,
    x < 59 → j ≠ Od.TASK_START_LAT_MAX_us x)) false s (s.dispatchOwn e) := by
  unfold State.dispatchOwn
  refine .ite ?_ .refl
  split
  · exact .step .startTask .refl (by simp +contextual only [reduceCtorEq, false_implies, ne_eq, not_false_eq_true, and_self, implies_true, Fin.val_lt_of_le, Nat.reduceLeDiff, Nat.reduceLT])
  · split
    · exact .step .startTask .refl (by simp +contextual only [reduceCtorEq, false_implies, ne_eq, not_false_eq_true, and_self, implies_true, Fin.val_lt_of_le, Nat.reduceLeDiff, Nat.reduceLT])
    · exact .refl
theorem State.Leaves.dispatch {s : State} : State.Leaves [.od, .fresh, .engines, .tasks] (fun j => j ≠
    Od.CNT_CNT_OVF_MAP ∧ (∀ x, x < 24 → j ≠ Od.ENG_DISPATCHES x) ∧ (∀ x, x < 24 → j ≠ Od.ENG_ENG_CNT_STATUS x) ∧ (∀ x,
    x < 24 → j ≠ Od.ENG_STEALS x) ∧ (∀ x, x < 24 → j ≠ Od.ENG_STEAL_TIME_MAX_ns x) ∧ (∀ x, x < 24 → j ≠
    Od.ENG_STOLEN_FROM x) ∧ j ≠ Od.POOL_CLAIM_CONFLICTS ∧ j ≠ Od.POOL_POOL_CNT_STATUS ∧ j ≠ Od.POOL_STEAL_COST_MAX_ns
    ∧ (∀ x, x < 59 → j ≠ Od.TASK_START_LAT_MAX_us x)) false s (s.dispatch) := by
  unfold State.dispatch
  refine .ite .refl (.foldl Prod.fst (b := (s.each (List.finRange 24) fun e s => s.dispatchOwn e, 0))
    (fun _ _ _ => .step .dispatchIdle .refl) ?_)
  dsimp only
  exact .each (fun _ _ _ => .step .dispatchOwn .refl) .refl
theorem State.Leaves.placeFirm {s : State} : State.Leaves [.od] (fun j => (∀ x, x < 59 → j ≠ Od.TASK_HOME x)) false s
    (s.placeFirm) := by
  unfold State.placeFirm
  refine .foldl Prod.fst (fun k hk _ => ?_) .refl
  simp only [List.bind_eq_flatMap, List.mem_flatMap, List.pure_def, List.mem_singleton] at hk
  obtain ⟨i, -, rfl⟩ := hk
  exact .step .setN .refl fun _ hj => hj _ i.isLt
theorem State.Leaves.loadPeriods {s : State} {period : Nat → Nat} : State.Leaves [.od, .fresh, .log, .engines, .tasks,
    .pool] (fun j => j ≠ Od.CNT_CNT_OVF_MAP ∧ (∀ x, x < 24 → j ≠ Od.ENG_DISPATCHES x) ∧ (∀ x, x < 24 → j ≠
    Od.ENG_ENG_CNT_STATUS x) ∧ (∀ x, x < 24 → j ≠ Od.ENG_STEALS x) ∧ (∀ x, x < 24 → j ≠ Od.ENG_STEAL_TIME_MAX_ns x) ∧
    (∀ x, x < 24 → j ≠ Od.ENG_STOLEN_FROM x) ∧ j ≠ Od.POOL_ADMIT_ENGINES ∧ j ≠ Od.POOL_ADMIT_RESULT ∧ j ≠
    Od.POOL_ADMIT_TASK ∧ j ≠ Od.POOL_CLAIM_CONFLICTS ∧ j ≠ Od.POOL_CONFIG_LOADS ∧ j ≠ Od.POOL_POOL_CNT_STATUS ∧ j ≠
    Od.POOL_POOL_STATUS ∧ j ≠ Od.POOL_STEAL_COST_MAX_ns ∧ j ≠ Od.POOL_U_TOTAL ∧ (∀ x, x < 59 → j ≠ Od.TASK_HOME x) ∧
    (∀ x, x < 59 → j ≠ Od.TASK_PERIOD_ACT_us x) ∧ (∀ x, x < 59 → j ≠ Od.TASK_START_LAT_MAX_us x)) false s
    (s.loadPeriods period) := by
  unfold State.loadPeriods
  exact .step .dispatch (.step .recomputeBounds (.step .event (.step .count (.step .setBit (.step .setQ (.step .setN
    (.step .setN (.step .setN (.step .modPool (.step .placeFirm (.each (fun _ _ _ => (.step .modTask .refl)) (.each
    (fun _ _ _ => (.step .setN .refl)) (.each (fun _ _ _ => (.ite (.step .modEng .refl) .refl)) .refl)))))))))))))
theorem State.Leaves.admissionDone {s : State} : State.Leaves [.od, .fresh, .log, .engines, .tasks, .pool] (fun j => j
    ≠ Od.CNT_CNT_OVF_MAP ∧ (∀ x, x < 24 → j ≠ Od.ENG_DISPATCHES x) ∧ (∀ x, x < 24 → j ≠ Od.ENG_ENG_CNT_STATUS x) ∧ (∀
    x, x < 24 → j ≠ Od.ENG_STEALS x) ∧ (∀ x, x < 24 → j ≠ Od.ENG_STEAL_TIME_MAX_ns x) ∧ (∀ x, x < 24 → j ≠
    Od.ENG_STOLEN_FROM x) ∧ j ≠ Od.POOL_ADMIT_ENGINES ∧ j ≠ Od.POOL_ADMIT_RESULT ∧ j ≠ Od.POOL_ADMIT_TASK ∧ j ≠
    Od.POOL_CLAIM_CONFLICTS ∧ j ≠ Od.POOL_CONFIG_LOADS ∧ j ≠ Od.POOL_POOL_CNT_STATUS ∧ j ≠ Od.POOL_POOL_STATUS ∧ j ≠
    Od.POOL_STEAL_COST_MAX_ns ∧ j ≠ Od.POOL_U_TOTAL ∧ (∀ x, x < 59 → j ≠ Od.TASK_HOME x) ∧ (∀ x, x < 59 → j ≠
    Od.TASK_PERIOD_ACT_us x) ∧ (∀ x, x < 59 → j ≠ Od.TASK_START_LAT_MAX_us x)) false s (s.admissionDone) := by
  unfold State.admissionDone
  exact by split; exacts [.refl, (.ite (.step .loadPeriods (.step .modPool (.step .setBit .refl))) (.ite (.step
    .setBit (.step .loadPeriods (.step .reject (.step .modPool (.step .setBit .refl))))) (.step .reject (.step
    .modPool (.step .setBit .refl)))))]
theorem ResLeaves.execConfigLoadAdmissionComplete {dt : Nat} {s : State} : ResLeaves [.od, .tb, .fresh, .out, .log,
    .engines, .tasks, .pool] (fun j => j ≠ Od.CNT_CNT_OVF_MAP ∧ (∀ x, x < 24 → j ≠ Od.ENG_DISPATCHES x) ∧ (∀ x, x < 24
    → j ≠ Od.ENG_ENG_CNT_STATUS x) ∧ (∀ x, x < 24 → j ≠ Od.ENG_STEALS x) ∧ (∀ x, x < 24 → j ≠ Od.ENG_STEAL_TIME_MAX_ns
    x) ∧ (∀ x, x < 24 → j ≠ Od.ENG_STOLEN_FROM x) ∧ j ≠ Od.POOL_ADMIT_ENGINES ∧ j ≠ Od.POOL_ADMIT_RESULT ∧ j ≠
    Od.POOL_ADMIT_TASK ∧ j ≠ Od.POOL_CLAIM_CONFLICTS ∧ j ≠ Od.POOL_CONFIG_LOADS ∧ j ≠ Od.POOL_POOL_CNT_STATUS ∧ j ≠
    Od.POOL_POOL_STATUS ∧ j ≠ Od.POOL_STEAL_COST_MAX_ns ∧ j ≠ Od.POOL_U_TOTAL ∧ (∀ x, x < 59 → j ≠ Od.TASK_HOME x) ∧
    (∀ x, x < 59 → j ≠ Od.TASK_PERIOD_ACT_us x) ∧ (∀ x, x < 59 → j ≠ Od.TASK_START_LAT_MAX_us x)) false s
    (execConfigLoadAdmissionComplete dt s) := by
  unfold Machine.execConfigLoadAdmissionComplete
  exact .reply (.step .admissionDone (.step .elapse .refl))
theorem ResLeaves.execConfigLoadWrite {dt : Nat} {who : Requester} {value : BitVec 8} {s : State} : ResLeaves [.od, .tb,
    .out, .log, .pool, .sessions] (fun j => noAccess j ∧ j ≠ Od.POOL_POOL_STATUS) false s (execConfigLoadWrite dt who
    value s) := by
  unfold Machine.execConfigLoadWrite
  exact .reply (.step .writeConfigLoad (.step .elapse .refl))
theorem State.Leaves.rejoin {s : State} {e : Fin 24} : State.Leaves [.od, .fresh, .log, .engines, .tasks] (fun j => j
    ≠ Od.CNT_CNT_OVF_MAP ∧ (∀ x, x < 24 → j ≠ Od.ENG_DISPATCHES x) ∧ (∀ x, x < 24 → j ≠ Od.ENG_ENG_CNT_STATUS x) ∧ j ≠
    Od.ENG_SELFTEST_PASSES e ∧ (∀ x, x < 24 → j ≠ Od.ENG_STEALS x) ∧ (∀ x, x < 24 → j ≠ Od.ENG_STEAL_TIME_MAX_ns x) ∧
    (∀ x, x < 24 → j ≠ Od.ENG_STOLEN_FROM x) ∧ j ≠ Od.POOL_CLAIM_CONFLICTS ∧ j ≠ Od.POOL_POOL_CNT_STATUS ∧ j ≠
    Od.POOL_POOL_STATUS ∧ j ≠ Od.POOL_STEAL_COST_MAX_ns ∧ (∀ x, x < 59 → j ≠ Od.TASK_START_LAT_MAX_us x)) false s
    (s.rejoin e) := by
  unfold State.rejoin
  exact .ite (.step .dispatch (.step .recomputeBounds (.step .event (.step .count (.step .modEng .refl))))) .refl
theorem ResLeaves.execEngineRejoin {dt : Nat} {e : Fin 24} {s : State} : ResLeaves [.od, .tb, .fresh, .out, .log,
    .engines, .tasks] (fun j => j ≠ Od.CNT_CNT_OVF_MAP ∧ (∀ x, x < 24 → j ≠ Od.ENG_DISPATCHES x) ∧ (∀ x, x < 24 → j ≠
    Od.ENG_ENG_CNT_STATUS x) ∧ j ≠ Od.ENG_SELFTEST_PASSES e ∧ (∀ x, x < 24 → j ≠ Od.ENG_STEALS x) ∧ (∀ x, x < 24 → j ≠
    Od.ENG_STEAL_TIME_MAX_ns x) ∧ (∀ x, x < 24 → j ≠ Od.ENG_STOLEN_FROM x) ∧ j ≠ Od.POOL_CLAIM_CONFLICTS ∧ j ≠
    Od.POOL_POOL_CNT_STATUS ∧ j ≠ Od.POOL_POOL_STATUS ∧ j ≠ Od.POOL_STEAL_COST_MAX_ns ∧ (∀ x, x < 59 → j ≠
    Od.TASK_START_LAT_MAX_us x)) false s (execEngineRejoin dt e s) := by
  unfold Machine.execEngineRejoin
  exact .reply (.step .rejoin (.step .elapse .refl))
theorem State.Leaves.raiseTask {s : State} {code : Nat} {source : Nat} {detail : Nat} {k : Fin 59} : State.Leaves [.od,
    .log, .links, .drives, .cells, .legs, .store, .seqs, .axes, .traction, .lus, .stageIn, .lvCommand, .gbx, .dcl,
    .aux, .chg, .path] (fun j => noReaction j ∧ (∀ x, x < 15 → j ≠ Od.OBS_ASC_COUNT x)) true s (s.raiseTask code
    source detail k) := by
  unfold State.raiseTask
  exact by split; exacts [(.step .raise .refl), (.step .event .refl)]
theorem State.Leaves.moveHard {s : State} {e : Fin 24} : State.Leaves [.od, .log, .links, .drives, .cells, .legs,
    .store, .seqs, .axes, .traction, .lus, .stageIn, .lvCommand, .tasks, .gbx, .dcl, .aux, .chg, .path] (fun j =>
    noReaction j ∧ (∀ x, x < 15 → j ≠ Od.OBS_ASC_COUNT x)) true s (s.moveHard e) := by
  unfold State.moveHard
  exact .each (fun _ _ _ => (.ite (.step .modTask .refl) (.step .raiseTask (.step .modTask .refl)))) (.each (fun _ _ _
    => (.step .modTask .refl)) .refl)
theorem State.Leaves.endExecution {s : State} {e : Fin 24} : State.Leaves [.engines] (fun _ => True) false s
    (s.endExecution e) := by
  unfold State.endExecution
  exact .ite .refl (.step .modEng .refl)
theorem State.Leaves.outOfService {s : State} {e : Fin 24} {fail : Nat} : State.Leaves [.od, .fresh, .log, .links,
    .drives, .cells, .legs, .store, .seqs, .axes, .traction, .lus, .stageIn, .lvCommand, .engines, .tasks, .gbx, .dcl,
    .aux, .chg, .path] (fun j => noReaction j ∧ (∀ x, x < 24 → j ≠ Od.ENG_DISPATCHES x) ∧ (∀ x, x < 24 → j ≠
    Od.ENG_ENG_CNT_STATUS x) ∧ j ≠ Od.ENG_LAST_FAIL e ∧ j ≠ Od.ENG_OOS_COUNT e ∧ (∀ x, x < 24 → j ≠ Od.ENG_STEALS x) ∧
    (∀ x, x < 24 → j ≠ Od.ENG_STEAL_TIME_MAX_ns x) ∧ (∀ x, x < 24 → j ≠ Od.ENG_STOLEN_FROM x) ∧ (∀ x, x < 15 → j ≠
    Od.OBS_ASC_COUNT x) ∧ j ≠ Od.POOL_CLAIM_CONFLICTS ∧ j ≠ Od.POOL_POOL_CNT_STATUS ∧ j ≠ Od.POOL_POOL_STATUS ∧ j ≠
    Od.POOL_STEAL_COST_MAX_ns ∧ (∀ x, x < 59 → j ≠ Od.TASK_START_LAT_MAX_us x)) true s (s.outOfService e fail) := by
  unfold State.outOfService
  exact .ite .refl (.stepR .dispatch (.when (fun _ => (.step .raise .refl)) (.stepR .recomputeBounds (.step .moveHard
    (.step .event (.stepR .setN (.step .modEng (.step .endExecution (.stepR .count .refl)))))))))
theorem State.Leaves.watchdog {s : State} {e : Fin 24} : State.Leaves [.od, .fresh, .log, .links, .drives, .cells,
    .legs, .store, .seqs, .axes, .traction, .lus, .stageIn, .lvCommand, .engines, .tasks, .gbx, .dcl, .aux, .chg,
    .path] (fun j => noReaction j ∧ (∀ x, x < 24 → j ≠ Od.ENG_DISPATCHES x) ∧ (∀ x, x < 24 → j ≠ Od.ENG_ENG_CNT_STATUS
    x) ∧ j ≠ Od.ENG_LAST_FAIL e ∧ j ≠ Od.ENG_OOS_COUNT e ∧ (∀ x, x < 24 → j ≠ Od.ENG_STEALS x) ∧ (∀ x, x < 24 → j ≠
    Od.ENG_STEAL_TIME_MAX_ns x) ∧ (∀ x, x < 24 → j ≠ Od.ENG_STOLEN_FROM x) ∧ (∀ x, x < 15 → j ≠ Od.OBS_ASC_COUNT x) ∧
    j ≠ Od.POOL_CLAIM_CONFLICTS ∧ j ≠ Od.POOL_POOL_CNT_STATUS ∧ j ≠ Od.POOL_POOL_STATUS ∧ j ≠
    Od.POOL_STEAL_COST_MAX_ns ∧ (∀ x, x < 59 → j ≠ Od.TASK_START_LAT_MAX_us x)) true s (s.watchdog e) := by
  unfold State.watchdog
  exact by split; exacts [.refl, (.ite .refl (.step .outOfService (.step .raiseTask .refl)))]
theorem ResLeaves.execEngineWatchdog {dt : Nat} {e : Fin 24} {s : State} : ResLeaves [.od, .tb, .fresh, .out, .log,
    .links, .drives, .cells, .legs, .store, .seqs, .axes, .traction, .lus, .stageIn, .lvCommand, .engines, .tasks,
    .gbx, .dcl, .aux, .chg, .path] (fun j => noReaction j ∧ (∀ x, x < 24 → j ≠ Od.ENG_DISPATCHES x) ∧ (∀ x, x < 24 → j
    ≠ Od.ENG_ENG_CNT_STATUS x) ∧ j ≠ Od.ENG_LAST_FAIL e ∧ j ≠ Od.ENG_OOS_COUNT e ∧ (∀ x, x < 24 → j ≠ Od.ENG_STEALS x)
    ∧ (∀ x, x < 24 → j ≠ Od.ENG_STEAL_TIME_MAX_ns x) ∧ (∀ x, x < 24 → j ≠ Od.ENG_STOLEN_FROM x) ∧ (∀ x, x < 15 → j ≠
    Od.OBS_ASC_COUNT x) ∧ j ≠ Od.POOL_CLAIM_CONFLICTS ∧ j ≠ Od.POOL_POOL_CNT_STATUS ∧ j ≠ Od.POOL_POOL_STATUS ∧ j ≠
    Od.POOL_STEAL_COST_MAX_ns ∧ (∀ x, x < 59 → j ≠ Od.TASK_START_LAT_MAX_us x)) true s (execEngineWatchdog dt e s) :=
    by
  unfold Machine.execEngineWatchdog
  exact .reply (.step .watchdog (.step .elapse .refl))
theorem State.Leaves.missed {s : State} {e : Fin 24} {k : Fin 59} : State.Leaves [.od, .log, .links, .drives, .cells,
    .legs, .store, .seqs, .axes, .traction, .lus, .stageIn, .lvCommand, .tasks, .pool, .gbx, .dcl, .aux, .chg, .path]
    (fun j => noReaction j ∧ (∀ x, x < 15 → j ≠ Od.OBS_ASC_COUNT x) ∧ j ≠ Od.TASK_MISSES k ∧ j ≠
    Od.TASK_TASK_CNT_STATUS k) true s (s.missed e k) := by
  unfold State.missed
  exact .ite (.step .raiseTask (.ite (.step .modTask (.stepR .count .refl)) (.step .modPool (.step .event (.step
    .modTask (.stepR .count .refl)))))) (.ite (.step .modTask (.stepR .count .refl)) (.step .modPool (.step .event
    (.step .modTask (.stepR .count .refl)))))
theorem State.Leaves.overrun {s : State} {e : Fin 24} {k : Fin 59} : State.Leaves [.od, .log, .pool] (fun j => j ≠
    Od.CNT_CNT_OVF_MAP ∧ j ≠ Od.ENG_ENG_CNT_STATUS e ∧ j ≠ Od.ENG_OVERRUNS e ∧ j ≠ Od.TASK_OVERRUNS k ∧ j ≠
    Od.TASK_TASK_CNT_STATUS k) false s (s.overrun e k) := by
  unfold State.overrun
  exact .ite (.step .count (.step .count .refl)) (.step .modPool (.step .event (.step .count (.step .count .refl))))
theorem State.Leaves.timeExecution {s : State} {e : Fin 24} {k : Fin 59} : State.Leaves [.od, .log, .links, .drives,
    .cells, .legs, .store, .seqs, .axes, .traction, .lus, .stageIn, .lvCommand, .engines, .tasks, .pool, .gbx, .dcl,
    .aux, .chg, .path] (fun j => noReaction j ∧ j ≠ Od.ENG_ENG_CNT_STATUS e ∧ j ≠ Od.ENG_OVERRUNS e ∧ (∀ x, x < 15 → j
    ≠ Od.OBS_ASC_COUNT x) ∧ j ≠ Od.TASK_EXEC_MAX_ns k ∧ j ≠ Od.TASK_MISSES k ∧ j ≠ Od.TASK_OVERRUNS k ∧ j ≠
    Od.TASK_TASK_CNT_STATUS k) true s (s.timeExecution e k) := by
  unfold State.timeExecution
  exact .ite (.step .missed (.when (fun _ => (.stepR .overrun .refl)) (.stepR .setN (.step .endExecution .refl))))
    (.step .modTask (.when (fun _ => (.stepR .overrun .refl)) (.stepR .setN (.step .endExecution .refl))))
theorem State.Leaves.vmonRound {s : State} {n : Fin 24} : State.Leaves [.od, .fresh, .log, .thermal] (fun j => j ≠
    Od.CNT_CNT_OVF_MAP ∧ j ≠ Od.VMON_EXCURSIONS n ∧ j ≠ Od.VMON_VALUE n ∧ j ≠ Od.VMON_VMON_STATUS n ∧ j ≠
    Od.VMON_V_MAX n ∧ j ≠ Od.VMON_V_MIN n) false s (s.vmonRound n) := by
  unfold State.vmonRound
  exact by dsimp only; split; exacts [(.step .modThermal (.step .setBit (.when (fun _ => (.step .draw .refl)) .refl))), (.ite
    (.step .setBit (.step .modThermal (.step .setQ (.step .setQ (.step .setQ (.step .setBit (.when (fun _ => (.step
    .draw .refl)) .refl))))))) (.ite (.step .modThermal (.step .setQ (.step .setQ (.step .setQ (.step .setBit (.when
    (fun _ => (.step .draw .refl)) .refl)))))) (.step .event (.step .count (.step .setBit (.step .modThermal (.step
    .setQ (.step .setQ (.step .setQ (.step .setBit (.when (fun _ => (.step .draw .refl)) .refl)))))))))))]
theorem State.Leaves.processRound {s : State} : State.Leaves [.od, .fresh, .log, .thermal] (fun j => (∀ x, x < 4 → j ≠
    Od.PM_CORNER x) ∧ (∀ x, x < 4 → j ≠ Od.PM_DRIFT x) ∧ j ≠ Od.PM_PM_STATUS ∧ j ≠ Od.THM_TH_STATUS) false s
    (s.processRound) := by
  unfold State.processRound
  refine .each (fun i hi u => ?_) .refl
  have hset (d : Rat) : State.Leaves [.od, .fresh] (fun j => (∀ x, x < 4 → j ≠ Od.PM_CORNER x) ∧
      ∀ x, x < 4 → j ≠ Od.PM_DRIFT x) false u
      ((u.setQ (Od.PM_CORNER i) (Config.freeRat u.fresh)).setQ (Od.PM_DRIFT i) d).draw.draw :=
    .step .draw (.step .draw (.step .setQ (.step .setQ .refl (by simp +contextual only [List.mem_range.1 hi, ne_eq, not_false_eq_true, and_self, implies_true, Fin.val_lt_of_le, Nat.reduceLeDiff, Nat.reduceLT])) (by simp +contextual only [List.mem_range.1 hi, ne_eq, not_false_eq_true, and_self, implies_true, Fin.val_lt_of_le, Nat.reduceLeDiff, Nat.reduceLT])))
  exact .ite (.ite (.step .setBit (.step .setBit (.step (hset _) .refl)))
    (.step .modThermal (.step .event (.step .setBit (.step .setBit (.step (hset _) .refl)))))) (.step (hset _) .refl)
theorem State.Leaves.flashRound {s : State} {first : Bool} : State.Leaves [.od, .log] (fun j => j ≠ Od.THM_FLASH_BAND
    ∧ j ≠ Od.THM_FLASH_PULSE_us ∧ j ≠ Od.THM_T_DIE_MAX) false s (s.flashRound first) := by
  unfold State.flashRound
  exact .ite (.step .setN (.step .setN (.step .setI .refl))) (.step .event (.step .setN (.step .setN (.step .setI
    .refl))))
theorem State.Leaves.coolantRound {s : State} : State.Leaves [.od, .thermal] (fun j => j ≠ Od.THM_TH_STATUS ∧ j ≠
    Od.THM_T_COOL_IN ∧ j ≠ Od.THM_T_COOL_OUT) false s (s.coolantRound) := by
  unfold State.coolantRound
  exact .ite (.step .setBit (.step .modThermal (.step .setI (.step .setI .refl)))) (.step .modThermal (.step .setI
    (.step .setI .refl)))
theorem State.Leaves.estTemp {s : State} {c : Cell} : State.Leaves [.od, .fresh, .log, .links, .drives, .cells, .legs,
    .store, .seqs, .axes, .traction, .lus, .stageIn, .lvCommand, .gbx, .dcl, .aux, .chg, .path, .thermal] (fun j =>
    noReaction j ∧ j ≠ Od.CELL_CELL_BAND c ∧ j ≠ Od.CELL_CELL_TJ c ∧ (∀ x, x < 15 → j ≠ Od.OBS_ASC_COUNT x) ∧ j ≠
    Od.THM_TH_CNT_STATUS ∧ j ≠ Od.THM_TH_SHUTDOWNS) true s (s.estTemp c) := by
  unfold State.estTemp
  exact .ite (.step .modEst (.step .raise (.stepR .count (.step .modEst (.stepR .setBand (.step .modEst (.when (fun _
    => (.step .event .refl)) (.when (fun _ => (.step .event .refl)) (.when (fun _ => (.step .event .refl)) (.stepR
    .setI (.step .draw .refl))))))))))) (.stepR .setBand (.step .modEst (.when (fun _ => (.step .event .refl)) (.when
    (fun _ => (.step .event .refl)) (.when (fun _ => (.step .event .refl)) (.stepR .setI (.step .draw .refl)))))))
theorem State.Leaves.estRound {s : State} {c : Cell} : State.Leaves [.od, .fresh, .log, .links, .drives, .cells,
    .legs, .store, .seqs, .axes, .traction, .lus, .stageIn, .lvCommand, .gbx, .dcl, .aux, .chg, .path, .thermal] (fun
    j => noReaction j ∧ j ≠ Od.CELL_CELL_BAND c ∧ j ≠ Od.CELL_CELL_TJ c ∧ (∀ x, x < 15 → j ≠ Od.OBS_ASC_COUNT x) ∧ j ≠
    Od.THM_TH_CNT_STATUS ∧ j ≠ Od.THM_TH_SHUTDOWNS) true s (s.estRound c) := by
  unfold State.estRound
  exact .ite (.step .modEst .refl) (.ite (.step .estBroken .refl) (.ite (.step .estTemp .refl) .refl))
theorem State.Leaves.sensorTemp {s : State} {n : Fin 64} {t : Rat} : State.Leaves [.od, .log, .links, .drives, .cells,
    .legs, .store, .seqs, .axes, .traction, .lus, .stageIn, .lvCommand, .gbx, .dcl, .aux, .chg, .path, .thermal] (fun
    j => noReaction j ∧ (∀ x, x < 15 → j ≠ Od.OBS_ASC_COUNT x) ∧ j ≠ Od.SEN_ABOVE_WARN_s n ∧ (∀ x, x < 64 → j ≠
    Od.SEN_BROKEN_EVENTS x) ∧ j ≠ Od.SEN_K_FACTOR n ∧ (∀ x, x < 64 → j ≠ Od.SEN_SENSOR_STATUS x) ∧ (∀ x, x < 64 → j ≠
    Od.SEN_SHUTDOWNS x) ∧ j ≠ Od.SEN_TEMP n ∧ j ≠ Od.SEN_T_MAX n ∧ j ≠ Od.THM_TH_CNT_STATUS ∧ j ≠ Od.THM_TH_SHUTDOWNS)
    true s (s.sensorTemp n t) := by
  unfold State.sensorTemp
  exact .ite (.step .modSensor (.stepR .setI (.stepR .setI (.stepR .setBit (.stepR .setBit (.stepR .setBit (.stepR
    .setBit .refl))))))) (.when (fun _ => (.step .sensorShut .refl)) (.step .modSensor (.stepR .setQ (.ite (.stepR
    .setBit (.when (fun _ => (.step .event .refl)) (.ite (.stepR .setBit (.when (fun _ => (.step .event .refl))
    (.stepR .setN (.when (fun _ => (.step .modSensor .refl)) (.step .modSensor (.stepR .setI (.stepR .setI (.stepR
    .setBit (.stepR .setBit (.stepR .setBit (.stepR .setBit .refl))))))))))) (.when (fun _ => (.stepR .setBit .refl))
    (.stepR .setN (.when (fun _ => (.step .modSensor .refl)) (.step .modSensor (.stepR .setI (.stepR .setI (.stepR
    .setBit (.stepR .setBit (.stepR .setBit (.stepR .setBit .refl))))))))))))) (.when (fun _ => (.stepR .setBit
    .refl)) (.ite (.stepR .setBit (.when (fun _ => (.step .event .refl)) (.stepR .setN (.when (fun _ => (.step
    .modSensor .refl)) (.step .modSensor (.stepR .setI (.stepR .setI (.stepR .setBit (.stepR .setBit (.stepR .setBit
    (.stepR .setBit .refl))))))))))) (.when (fun _ => (.stepR .setBit .refl)) (.stepR .setN (.when (fun _ => (.step
    .modSensor .refl)) (.step .modSensor (.stepR .setI (.stepR .setI (.stepR .setBit (.stepR .setBit (.stepR .setBit
    (.stepR .setBit .refl))))))))))))))))
theorem State.Leaves.sensorOff {s : State} {n : Fin 64} {bit : Nat} : State.Leaves [.od, .thermal] (fun j => j ≠
    Od.SEN_K_FACTOR n ∧ j ≠ Od.SEN_SENSOR_STATUS n) false s (s.sensorOff n bit) := by
  unfold State.sensorOff
  exact .step .modSensor (.step .setQ (.step .setN .refl))
theorem State.Leaves.sensorRound {s : State} {n : Fin 64} : State.Leaves [.od, .log, .links, .drives, .cells, .legs,
    .store, .seqs, .axes, .traction, .lus, .stageIn, .lvCommand, .gbx, .dcl, .aux, .chg, .path, .thermal] (fun j =>
    noReaction j ∧ (∀ x, x < 15 → j ≠ Od.OBS_ASC_COUNT x) ∧ j ≠ Od.SEN_ABOVE_WARN_s n ∧ (∀ x, x < 64 → j ≠
    Od.SEN_BROKEN_EVENTS x) ∧ j ≠ Od.SEN_K_FACTOR n ∧ j ≠ Od.SEN_RAW n ∧ (∀ x, x < 64 → j ≠ Od.SEN_SENSOR_STATUS x) ∧
    (∀ x, x < 64 → j ≠ Od.SEN_SHUTDOWNS x) ∧ j ≠ Od.SEN_TEMP n ∧ j ≠ Od.SEN_T_MAX n ∧ j ≠ Od.THM_TH_CNT_STATUS ∧ j ≠
    Od.THM_TH_SHUTDOWNS) true s (s.sensorRound n) := by
  unfold State.sensorRound
  exact .ite (.stepR .sensorOff .refl) (by split; exacts [(.stepR .sensorOff .refl), (.step .sensorBroken .refl), (by
    split; exacts [(.step .sensorBroken .refl), (.ite (.step .sensorBroken (.stepR .setN .refl)) (.ite (.step
    .sensorTemp (.stepR .setN .refl)) (.ite (.step .sensorBroken (.stepR .setBit (.step .modSensor (.stepR .setN
    .refl)))) (.stepR .setBit (.step .modSensor (.stepR .setN .refl))))))])])
theorem State.Leaves.evaluateRound {s : State} : State.Leaves [.od, .fresh, .log, .links, .drives, .cells, .legs,
    .store, .seqs, .axes, .traction, .lus, .stageIn, .lvCommand, .gbx, .dcl, .aux, .chg, .path, .thermal] (fun j =>
    noReaction j ∧ (∀ x, x < 15 → j ≠ Od.CELL_CELL_BAND x) ∧ (∀ x, x < 15 → j ≠ Od.CELL_CELL_TJ x) ∧ (∀ x, x < 15 → j
    ≠ Od.OBS_ASC_COUNT x) ∧ (∀ x, x < 4 → j ≠ Od.PM_CORNER x) ∧ (∀ x, x < 4 → j ≠ Od.PM_DRIFT x) ∧ j ≠ Od.PM_PM_STATUS
    ∧ (∀ x, x < 64 → j ≠ Od.SEN_ABOVE_WARN_s x) ∧ (∀ x, x < 64 → j ≠ Od.SEN_BROKEN_EVENTS x) ∧ (∀ x, x < 64 → j ≠
    Od.SEN_K_FACTOR x) ∧ (∀ x, x < 64 → j ≠ Od.SEN_RAW x) ∧ (∀ x, x < 64 → j ≠ Od.SEN_SENSOR_STATUS x) ∧ (∀ x, x < 64
    → j ≠ Od.SEN_SHUTDOWNS x) ∧ (∀ x, x < 64 → j ≠ Od.SEN_TEMP x) ∧ (∀ x, x < 64 → j ≠ Od.SEN_T_MAX x) ∧ j ≠
    Od.THM_BROKEN_NOW ∧ (∀ x, x < 6 → j ≠ Od.THM_DERATE x) ∧ j ≠ Od.THM_FLASH_BAND ∧ j ≠ Od.THM_FLASH_PULSE_us ∧ j ≠
    Od.THM_ROUNDS ∧ j ≠ Od.THM_ROUND_TIME_us ∧ j ≠ Od.THM_TH_CNT_STATUS ∧ j ≠ Od.THM_TH_SHUTDOWNS ∧ j ≠
    Od.THM_TH_STATUS ∧ j ≠ Od.THM_T_COOL_IN ∧ j ≠ Od.THM_T_COOL_OUT ∧ j ≠ Od.THM_T_DIE_MAX ∧ (∀ x, x < 24 → j ≠
    Od.VMON_EXCURSIONS x) ∧ (∀ x, x < 24 → j ≠ Od.VMON_VALUE x) ∧ (∀ x, x < 24 → j ≠ Od.VMON_VMON_STATUS x) ∧ (∀ x, x
    < 24 → j ≠ Od.VMON_V_MAX x) ∧ (∀ x, x < 24 → j ≠ Od.VMON_V_MIN x)) true s (s.evaluateRound) := by
  unfold State.evaluateRound
  exact by split; exacts [.refl, (.ite .refl (.when (fun _ => (.each (fun _ _ _ => (.step .becomeReady .refl)) .refl))
    (.stepR .thermalFollow (.step .modThermal (.when (fun _ => (.stepR .setBit .refl)) (.stepR .setN (.stepR
    .countWide (.stepR .processRound (.each (fun _ _ _ => (.stepR .vmonRound .refl)) (.stepR .coolantRound (.stepR
    .flashRound (.each (fun _ _ _ => (.step .estRound .refl)) (.each (fun _ _ _ => (.step .sensorRound .refl))
    .refl)))))))))))))]
theorem State.Leaves.lvByVoltage {s : State} : State.Leaves [.od, .log, .links, .legs, .traction, .lus, .stageIn,
    .lvCommand, .gbx, .aux, .chg, .path] (fun j => noReaction j) true s (s.lvByVoltage) := by
  unfold State.lvByVoltage
  exact .ite (.stepR .lvEnter .refl) (.ite (.stepR .lvEnter .refl) (.stepR .lvEnter .refl))
theorem State.Leaves.lvCheckStep {s : State} : State.Leaves [.od, .log, .links, .legs, .traction, .lus, .stageIn,
    .lvCommand, .gbx, .aux, .chg, .path] (fun j => noReaction j) true s (s.lvCheckStep) := by
  unfold State.lvCheckStep
  exact .ite .refl (.ite (.step .lvByVoltage (.stepR .setBit .refl)) (.step .modPath (.stepR .putBatSw .refl)))
theorem State.Leaves.lvCount {s : State} : State.Leaves [.od, .chg] (fun j => j ≠ Od.LV_LV_CHARGE_mAs ∧ j ≠
    Od.LV_LV_DISCHARGE_mAs) false s (s.lvCount) := by
  unfold State.lvCount
  exact .step .setN (.step .setN (.step .modChg .refl))
theorem State.Leaves.lvInstance {s : State} : State.Leaves [.od, .log, .links, .legs, .traction, .lus, .stageIn,
    .lvCommand, .gbx, .aux, .chg, .path] (fun j => noReaction j ∧ j ≠ Od.LV_LV_CHARGE_mAs ∧ j ≠ Od.LV_LV_DISCHARGE_mAs
    ∧ j ≠ Od.LV_LV_I_LIM_ACT ∧ j ≠ Od.LV_LV_TIMER_min) true s (s.lvInstance) := by
  unfold State.lvInstance
  exact .ite (.stepR .setBit (.stepR .setBit (.stepR .setQ (.step .modChg (.stepR .lvCount .refl))))) (.ite (.step
    .lvEvent (.stepR .lvCheck (.stepR .setBit (.stepR .setBit (.stepR .setBit (.stepR .setQ (.stepR .setQ (.stepR
    .setQ (.step .modChg (.stepR .lvCount .refl)))))))))) (.step .lvCheckStep (.stepR .setBit (.stepR .setBit (.stepR
    .setBit (.stepR .setQ (.stepR .setQ (.stepR .setQ (.step .modChg (.stepR .lvCount .refl))))))))))
theorem State.Leaves.exportInstance {s : State} : State.Leaves [.od, .fresh, .log, .links, .drives, .cells, .legs,
    .store, .seqs, .axes, .traction, .lus, .stageIn, .lvCommand, .gbx, .dcl, .aux, .chg, .path] (fun j => noReaction
    j) true s (s.exportInstance) := by
  have hphases (u : State) (f g : Nat → Rat) : State.Leaves [.od] (fun j => (∀ x, x < 3 → j ≠ Od.EXP_EXP_V x) ∧
      ∀ x, x < 3 → j ≠ Od.EXP_EXP_I x) false u (u.each (List.range (exportRated (s.nat Od.EXP_EXP_MODE)).2.2.2)
        fun i s => (s.setQ (Od.EXP_EXP_V i) (f i)).setQ (Od.EXP_EXP_I i) (g i)) := by
    refine .each (fun i hi _ => ?_) .refl
    have hlt : i < 3 := by
      have := List.mem_range.1 hi
      unfold exportRated at this
      split at this <;> simp only at this <;> omega
    exact .step .setQ (.step .setQ .refl (by simp +contextual only [hlt, ne_eq, not_false_eq_true, and_self, implies_true, Fin.val_lt_of_le, Nat.reduceLeDiff, Nat.reduceLT])) (by simp +contextual only [hlt, ne_eq, not_false_eq_true, and_self, implies_true, Fin.val_lt_of_le, Nat.reduceLeDiff, Nat.reduceLT])
  unfold State.exportInstance
  exact .ite .refl (.ite (.step .goto (.stepR .setBit (.stepR .setBit (.stepR .setBit (.step .with_fresh (.stepR .setQ
    (.stepR .setQ (.stepR .setQ (.stepR (hphases _ _ _) (.step .modChg .refl)))))))))) (.stepR .setBit (.stepR .setBit
    (.stepR .setBit (.step .with_fresh (.stepR .setQ (.stepR .setQ (.stepR .setQ (.stepR (hphases _ _ _) (.step .modChg
    .refl))))))))))
theorem State.Leaves.step3 {s : State} : State.Leaves [.od, .chg] (fun j => j ≠ Od.CHG_SESSION_STEP ∧ j ≠
    Od.CHR_CHG_STATUS) false s (s.step3) := by
  unfold State.step3
  exact .step .setSession (.step .setChg .refl)
theorem State.Leaves.hvMissing {s : State} : State.Leaves [.od, .log, .links, .cells, .legs, .stageIn, .chg] (fun j =>
    noReaction j) false s (s.hvMissing) := by
  unfold State.hvMissing
  exact .step .chgEvent (.stepR .setHvState (.step .modChg (.stepR .relaysOpen (.stepR .chargerOff .refl))))
theorem State.Leaves.hvCheckStep {s : State} : State.Leaves [.od, .log, .links, .drives, .cells, .legs, .store, .seqs,
    .axes, .traction, .lus, .stageIn, .lvCommand, .gbx, .dcl, .aux, .chg, .path] (fun j => noReaction j ∧ (∀ x, x < 15
    → j ≠ Od.OBS_ASC_COUNT x)) true s (s.hvCheckStep) := by
  unfold State.hvCheckStep
  exact .ite (.step .raise (.stepR .setHvState .refl)) (.ite (.step .hvMissing .refl) (.ite (.stepR .step3 .refl)
    .refl))
theorem State.Leaves.step8 {s : State} : State.Leaves [.od, .log, .links, .cells, .stageIn, .chg] (fun j => j ≠
    Od.CHG_SESSION_STEP ∧ j ≠ Od.CHR_CHG_STATUS ∧ j ≠ Od.CNV_DAB_PHASE ∧ j ≠ Od.HV_HV_STATE ∧ j ≠ Od.LU_REF 20) false
    s (s.step8) := by
  unfold State.step8
  exact .step .setHvState (.step .setSession (.step .modChg (.step .setQ (.step .sendTogether (.step .setChg
    .refl)))))
theorem State.Leaves.stageOn {s : State} {c : Cell} : State.Leaves [.cells] (fun _ => True) false s (s.stageOn c) :=
    by
  unfold State.stageOn
  exact .step .modCell .refl
theorem State.Leaves.step7 {s : State} : State.Leaves [.od, .cells, .chg] (fun j => j ≠ Od.CHG_SESSION_STEP ∧ j ≠
    Od.CHR_CHG_STATUS ∧ j ≠ Od.LU_REF 18) false s (s.step7) := by
  unfold State.step7
  exact .step .setSession (.step .setQ (.step .modChg (.step .stageOn (.step .setChg (.step .setChg .refl)))))
theorem State.Leaves.step6 {s : State} : State.Leaves [.od, .chg] (fun j => j ≠ Od.CHG_SESSION_STEP ∧ j ≠
    Od.CHR_CHG_CNT_STATUS ∧ j ≠ Od.CHR_CHG_STATUS ∧ j ≠ Od.CHR_RELAY_OPS_MAIN ∧ j ≠ Od.CNT_CNT_OVF_MAP) false s
    (s.step6) := by
  unfold State.step6
  exact .step .modChg (.step .setSession (.step .count (.step .setChg .refl)))
theorem State.Leaves.step4 {s : State} : State.Leaves [.od, .log, .links, .drives, .cells, .legs, .store, .seqs,
    .axes, .traction, .lus, .stageIn, .lvCommand, .gbx, .dcl, .aux, .chg, .path] (fun j => noReaction j ∧ j ≠
    Od.CHR_CHG_CNT_STATUS ∧ j ≠ Od.CHR_RELAY_OPS_PRE ∧ (∀ x, x < 15 → j ≠ Od.OBS_ASC_COUNT x)) true s (s.step4) := by
  unfold State.step4
  exact .ite .refl (.ite (.step .raise (.stepR .setChg (.stepR .setSession (.stepR .setChg (.stepR .setN .refl)))))
    (.stepR .setSession (.stepR .count (.stepR .setChg (.stepR .setChg (.stepR .setN .refl))))))
theorem State.Leaves.sessionStep {s : State} : State.Leaves [.od, .log, .links, .drives, .cells, .legs, .store, .seqs,
    .axes, .traction, .lus, .stageIn, .lvCommand, .gbx, .dcl, .aux, .chg, .path] (fun j => noReaction j ∧ j ≠
    Od.CHR_CHG_CNT_STATUS ∧ j ≠ Od.CHR_RELAY_OPS_MAIN ∧ j ≠ Od.CHR_RELAY_OPS_PRE ∧ (∀ x, x < 15 → j ≠ Od.OBS_ASC_COUNT
    x)) true s (s.sessionStep) := by
  unfold State.sessionStep
  exact by split; exacts [(.ite (.stepR .setSession .refl) .refl), (.step .step4 .refl), (.ite (.stepR .step6 .refl)
    .refl), (by split; exacts [(.ite (.stepR .step7 .refl) .refl), .refl]), (.ite (.stepR .step8 .refl) .refl), .refl]
theorem State.Leaves.hvAct {s : State} : State.Leaves [.od, .log, .links, .drives, .cells, .legs, .store, .seqs,
    .axes, .traction, .lus, .stageIn, .lvCommand, .gbx, .dcl, .aux, .chg, .path] (fun j => noReaction j ∧ j ≠
    Od.CHR_CHG_CNT_STATUS ∧ j ≠ Od.CHR_RELAY_OPS_MAIN ∧ j ≠ Od.CHR_RELAY_OPS_PRE ∧ j ≠ Od.HV_HV_TIMER_min ∧ (∀ x, x <
    15 → j ≠ Od.OBS_ASC_COUNT x)) true s (s.hvAct) := by
  unfold State.hvAct
  exact by split; exacts [(.step .sessionStep (.step .hvCheckStep .refl)), (.ite (.step .chgEvent (.stepR .hvCheck
    .refl)) .refl), .refl]
theorem State.Leaves.pfcRamp {s : State} : State.Leaves [.od, .chg] (fun j => j ≠ Od.LU_REF 18) false s (s.pfcRamp) :=
    by
  unfold State.pfcRamp
  exact .ite (.step .modChg (.step .setQ .refl)) .refl
theorem State.Leaves.stopRamp {s : State} : State.Leaves [.od, .log, .links, .drives, .cells, .legs, .store, .seqs,
    .axes, .traction, .lus, .stageIn, .lvCommand, .gbx, .dcl, .aux, .chg, .path] (fun j => noReaction j) true s
    (s.stopRamp) := by
  unfold State.stopRamp
  exact by split; exacts [.refl, (.ite (.step .modChg (.stepR .setQ .refl)) (.ite (.step .modChg (.stepR .chargerOff
    .refl)) (.ite .refl (.ite (.step .goto .refl) (.stepR .relaysOpen (.stepR .chargerOff .refl))))))]
theorem State.Leaves.hvLimits {s : State} : State.Leaves [.od, .chg] (fun j => j ≠ Od.CHR_CHG_STATUS ∧ j ≠
    Od.HV_HV_CV_ACT ∧ j ≠ Od.HV_HV_I_LIM_ACT ∧ j ≠ Od.LU_REF 20 ∧ j ≠ Od.LU_REF 21) false s (s.hvLimits) := by
  unfold State.hvLimits
  exact .step .modChg (.step .setQ (.step .setChg (.step .setChg (.step .setQ (.step .setQ (.step .setQ .refl))))))
theorem State.Leaves.chgMeasure {s : State} : State.Leaves [.od, .fresh] (fun j => j ≠ Od.CHR_I_AC ∧ j ≠ Od.CHR_PACK_I
    ∧ j ≠ Od.CHR_P_AC ∧ j ≠ Od.CHR_P_DC) false s (s.chgMeasure) := by
  unfold State.chgMeasure
  exact .step .setQ (.step .setQ (.step .setQ (.step .setQ (.when (fun _ => (.step .draw (.step .draw (.step .draw
    .refl)))) .refl))))
theorem State.Leaves.chgCount {s : State} : State.Leaves [.od, .chg] (fun j => j ≠ Od.CHR_E_EXPORT_J ∧ j ≠
    Od.CHR_E_IMPORT_J ∧ j ≠ Od.HV_HV_CHARGE_mAs ∧ j ≠ Od.HV_HV_DISCHARGE_mAs) false s (s.chgCount) := by
  unfold State.chgCount
  exact .step .setN (.step .setN (.step .setN (.step .setN (.step .modChg .refl))))
theorem State.Leaves.hvInstance {s : State} : State.Leaves [.od, .fresh, .log, .links, .drives, .cells, .legs, .store,
    .seqs, .axes, .traction, .lus, .stageIn, .lvCommand, .gbx, .dcl, .aux, .chg, .path] (fun j => noReaction j ∧ j ≠
    Od.CHR_CHG_CNT_STATUS ∧ j ≠ Od.CHR_E_EXPORT_J ∧ j ≠ Od.CHR_E_IMPORT_J ∧ j ≠ Od.CHR_I_AC ∧ j ≠ Od.CHR_PACK_I ∧ j ≠
    Od.CHR_P_AC ∧ j ≠ Od.CHR_P_DC ∧ j ≠ Od.CHR_RELAY_OPS_MAIN ∧ j ≠ Od.CHR_RELAY_OPS_PRE ∧ j ≠ Od.HV_HV_CHARGE_mAs ∧ j
    ≠ Od.HV_HV_CV_ACT ∧ j ≠ Od.HV_HV_DISCHARGE_mAs ∧ j ≠ Od.HV_HV_I_LIM_ACT ∧ j ≠ Od.HV_HV_TIMER_min ∧ (∀ x, x < 15 →
    j ≠ Od.OBS_ASC_COUNT x)) true s (s.hvInstance) := by
  unfold State.hvInstance
  exact .step .modChg (.step .exportInstance (.ite (.step .hvAct (.step .stopRamp (.stepR .pfcRamp (.ite (.stepR
    .setChg (.stepR .setChg (.stepR .setQ (.step .modChg (.stepR .setBit (.stepR .chgCount (.stepR .chgMeasure
    .refl))))))) (.stepR .hvLimits (.stepR .setQ (.step .modChg (.stepR .setBit (.stepR .chgCount (.stepR .chgMeasure
    .refl)))))))))) (.step .stopRamp (.stepR .pfcRamp (.ite (.stepR .setChg (.stepR .setChg (.stepR .setQ (.step
    .modChg (.stepR .setBit (.stepR .chgCount (.stepR .chgMeasure .refl))))))) (.stepR .hvLimits (.stepR .setQ (.step
    .modChg (.stepR .setBit (.stepR .chgCount (.stepR .chgMeasure .refl)))))))))))
theorem State.Leaves.recAdvance {s : State} {a : Fin 4} : State.Leaves [.od, .gbx] (fun j => (∀ x, x < 8 → j ≠
    Od.AX_TQ_REF x) ∧ j ≠ Od.GBX_RECOVERY_PATH ∧ (∀ x, x < 24 → j ≠ Od.LU_REF x) ∧ (∀ x, x < 12 → j ≠
    Od.PIF_PIF_STATUS x) ∧ (∀ x, x < 2 → j ≠ Od.PRK_PARK_STATE x) ∧ (∀ x, x < 2 → j ≠ Od.SHF_GEAR_STATE x)) false s
    (s.recAdvance a) := by
  unfold State.recAdvance
  exact .ite .refl (by split; exacts [(.ite (.ite (.step .resolve .refl) (.step .recReference .refl)) .refl), (.ite
    (.ite (.step .recReference .refl) .refl) (.ite (.step .recTurn .refl) .refl)), (.ite (.step .recTurn .refl)
    .refl), .refl])
theorem State.Leaves.shiftPending {s : State} {t : Fin 2} : State.Leaves [.od, .gbx] (fun j => j ≠ Od.SHF_GEAR_STATE t
    ∧ j ≠ Od.SHF_SHIFT_STEP t) false s (s.shiftPending t) := by
  unfold State.shiftPending
  exact .ite (.ite (.step .setN .refl) (.step .shiftStart .refl)) .refl
theorem State.Leaves.shiftConfirmed {s : State} {t : Fin 2} : State.Leaves [.od, .cells, .legs, .traction, .gbx] (fun
    j => j ≠ Od.CNT_CNT_OVF_MAP ∧ (∀ x, x < 15 → j ≠ Od.OBS_ASC_TIME_ms x) ∧ (∀ x, x < 15 → j ≠ Od.OBS_OBS_CNT_STATUS
    x) ∧ j ≠ Od.SHF_GEAR_STATE t ∧ j ≠ Od.SHF_SHIFT_STEP t ∧ (∀ x, x < 50 → j ≠ Od.SH_CH_STATUS x)) false s
    (s.shiftConfirmed t) := by
  unfold State.shiftConfirmed
  exact .step .shiftTo (.step .modSide (.step .modTr (.step .setGear (.step .coastActuator (.step .confirm .refl)))))
theorem State.Leaves.shiftEngage {s : State} {t : Fin 2} : State.Leaves [.od, .cells, .axes, .gbx] (fun j =>
    noReaction j) false s (s.shiftEngage t) := by
  unfold State.shiftEngage
  exact .stepR .moveLimit (.stepR .moveFork (.stepR .shiftTo .refl))
theorem State.Leaves.keepOutSpeed {s : State} {t : Fin 2} : State.Leaves [.gbx] (fun _ => True) false s
    (s.keepOutSpeed t) := by
  unfold State.keepOutSpeed
  exact .ite .refl (.step .modSide .refl)
theorem State.Leaves.holdFor {s : State} {t : Fin 2} {ok : Bool} {ticks : Nat} : State.Leaves [.gbx] (fun _ => True)
    false s (s.holdFor t ok ticks).1 := by
  unfold State.holdFor
  rw [apply_ite Prod.fst]
  exact .ite (.step .modSide .refl) (.step .modSide .refl)
theorem State.Leaves.shiftAdvance {s : State} {t : Fin 2} : State.Leaves [.od, .log, .cells, .legs, .axes, .traction,
    .gbx] (fun j => noReaction j ∧ j ≠ Od.SHF_SHIFTS t ∧ j ≠ Od.SHF_SHIFT_TIME_ms t) false s (s.shiftAdvance t) := by
  unfold State.shiftAdvance
  exact by split; exacts [(.ite (.stepR .moveFork (.stepR .shiftTo (.step .keepOutSpeed (.step .holdFor .refl))))
    (.step .holdFor .refl)), (.ite (.ite (.stepR .shiftTo (.step .holdFor .refl)) (.stepR .shiftSync (.step .holdFor
    .refl))) (.step .holdFor .refl)), (.ite (.step .shiftEngage (.step .holdFor (.stepR .setSpeedRef .refl))) (.step
    .holdFor (.stepR .setSpeedRef .refl))), (.ite (.stepR .shiftTo (.stepR .setSpeedRef .refl)) (.ite (.stepR
    .shiftBlocked (.stepR .setSpeedRef .refl)) (.stepR .setSpeedRef .refl))), (.ite (.stepR .shiftConfirmed (.step
    .holdFor .refl)) (.step .holdFor .refl)), (.ite (.stepR .shiftDone .refl) .refl), .refl]
theorem State.Leaves.forkSettle {s : State} {t : Fin 2} : State.Leaves [.od, .cells, .legs, .gbx] (fun j => j ≠
    Od.CNT_CNT_OVF_MAP ∧ (∀ x, x < 15 → j ≠ Od.OBS_ASC_TIME_ms x) ∧ (∀ x, x < 15 → j ≠ Od.OBS_OBS_CNT_STATUS x) ∧ (∀
    x, x < 50 → j ≠ Od.SH_CH_STATUS x)) false s (s.forkSettle t) := by
  unfold State.forkSettle
  exact .ite (.ite (.step .modSide (.step .coastActuator (.step .confirm (.step .holdFor .refl)))) (.step .holdFor
    .refl)) .refl
theorem State.Leaves.noteOutSpeed {s : State} {t : Fin 2} : State.Leaves [.gbx] (fun _ => True) false s
    (s.noteOutSpeed t) := by
  unfold State.noteOutSpeed
  exact .step .modSide .refl
theorem State.Leaves.shiftInstance {s : State} : State.Leaves [.od, .log, .cells, .legs, .axes, .traction, .gbx] (fun
    j => noReaction j ∧ (∀ x, x < 12 → j ≠ Od.PIF_PIF_STATUS x) ∧ (∀ x, x < 2 → j ≠ Od.SHF_SHIFTS x) ∧ (∀ x, x < 2 → j
    ≠ Od.SHF_SHIFT_TIME_ms x)) false s (s.shiftInstance) := by
  unfold State.shiftInstance
  exact .ite (.each (fun _ _ _ => (.stepR .recAdvance .refl)) (.each (fun _ _ _ => (.stepR .shiftPending .refl))
    (.each (fun _ _ _ => (.stepR .forkSettle (.step .shiftAdvance .refl))) (.each (fun _ _ _ => (.stepR .moveLimit
    (.step .noteOutSpeed .refl))) .refl)))) (.each (fun _ _ _ => (.stepR .shiftPending .refl)) (.each (fun _ _ _ =>
    (.stepR .forkSettle (.step .shiftAdvance .refl))) (.each (fun _ _ _ => (.stepR .moveLimit (.step .noteOutSpeed
    .refl))) .refl)))
theorem State.Leaves.axleTqSet {s : State} {t : Fin 2} {wheel : Rat} : State.Leaves [.od] (fun j => j ≠ Od.TR_TQ_SET t)
    false s (s.axleTqSet t wheel) := by
  unfold State.axleTqSet
  exact .ite .refl (.step .setQ .refl)
theorem State.Leaves.axleTorques {s : State} : State.Leaves [.od, .log] (fun j => j ≠ Od.AXLE_AXLE_CNT_STATUS ∧ j ≠
    Od.AXLE_AXLE_STATUS ∧ j ≠ Od.AXLE_SHORTFALL ∧ j ≠ Od.AXLE_TRANSFERS ∧ j ≠ Od.AXLE_WHEEL_TQ_A ∧ j ≠
    Od.AXLE_WHEEL_TQ_B ∧ j ≠ Od.CNT_CNT_OVF_MAP ∧ (∀ x, x < 2 → j ≠ Od.TR_TQ_SET x)) false s (s.axleTorques) := by
  unfold State.axleTorques
  exact .step .axleTqSet (.step .axleTqSet (.step .setShortfall (.step .setQ (.step .setQ (.step .setBit (.step
    .setBit (.when (fun _ => (.step .count .refl)) .refl)))))))
theorem State.Leaves.axleInstance {s : State} : State.Leaves [.od, .log, .drives, .cells, .legs, .axes, .traction,
    .gbx] (fun j => noReaction j ∧ j ≠ Od.AXLE_AXLE_CNT_STATUS ∧ j ≠ Od.AXLE_AXLE_STATUS ∧ j ≠ Od.AXLE_MODE_CHANGES ∧
    j ≠ Od.AXLE_SHORTFALL ∧ j ≠ Od.AXLE_TRANSFERS ∧ j ≠ Od.AXLE_WHEEL_SPEED_A ∧ j ≠ Od.AXLE_WHEEL_SPEED_B ∧ j ≠
    Od.AXLE_WHEEL_TQ_A ∧ j ≠ Od.AXLE_WHEEL_TQ_B ∧ (∀ x, x < 2 → j ≠ Od.TR_DIRECTION x) ∧ (∀ x, x < 2 → j ≠
    Od.TR_DIR_CHANGES x) ∧ (∀ x, x < 2 → j ≠ Od.TR_DRIVE_STATUS x)) false s (s.axleInstance) := by
  unfold State.axleInstance
  exact .ite (.stepR .setQ (.stepR .setQ (.ite (.when (fun _ => (.stepR .axleDirection .refl)) (.step .with_gbx (by
    split; exacts [(.ite (.stepR .setBit (.each (fun _ _ _ => (.stepR .moveLimit (.step .modTr .refl))) .refl))
    (.stepR .axleModeNow (.stepR .setBit (.each (fun _ _ _ => (.stepR .moveLimit (.step .modTr .refl))) .refl)))),
    (.stepR .setBit (.each (fun _ _ _ => (.stepR .moveLimit (.step .modTr .refl))) .refl))]))) (by split; exacts
    [(.ite (.stepR .setBit (.each (fun _ _ _ => (.stepR .moveLimit (.step .modTr .refl))) .refl)) (.stepR .axleModeNow
    (.stepR .setBit (.each (fun _ _ _ => (.stepR .moveLimit (.step .modTr .refl))) .refl)))), (.stepR .setBit (.each
    (fun _ _ _ => (.stepR .moveLimit (.step .modTr .refl))) .refl))])))) (.stepR .axleTorques (.stepR .setQ (.stepR
    .setQ (.ite (.when (fun _ => (.stepR .axleDirection .refl)) (.step .with_gbx (by split; exacts [(.ite (.stepR
    .setBit (.each (fun _ _ _ => (.stepR .moveLimit (.step .modTr .refl))) .refl)) (.stepR .axleModeNow (.stepR
    .setBit (.each (fun _ _ _ => (.stepR .moveLimit (.step .modTr .refl))) .refl)))), (.stepR .setBit (.each (fun _ _
    _ => (.stepR .moveLimit (.step .modTr .refl))) .refl))]))) (by split; exacts [(.ite (.stepR .setBit (.each (fun _
    _ _ => (.stepR .moveLimit (.step .modTr .refl))) .refl)) (.stepR .axleModeNow (.stepR .setBit (.each (fun _ _ _ =>
    (.stepR .moveLimit (.step .modTr .refl))) .refl)))), (.stepR .setBit (.each (fun _ _ _ => (.stepR .moveLimit
    (.step .modTr .refl))) .refl))])))))
theorem State.Leaves.dabResume {s : State} : State.Leaves [.od, .links, .cells, .stageIn, .aux] (fun j => j ≠
    Od.CNV_AUX_STATUS ∧ j ≠ Od.CNV_DAB_PHASE) false s (s.dabResume) := by
  unfold State.dabResume
  exact .ite (.step .modAux (.step .setBit (.step .setBit (.step .sendTogether .refl)))) .refl
theorem State.Leaves.lvResume {s : State} : State.Leaves [.od, .log, .links, .legs, .traction, .lus, .stageIn,
    .lvCommand, .gbx, .aux, .chg, .path] (fun j => noReaction j ∧ j ≠ Od.LV_LV_TIMER_min) true s (s.lvResume) := by
  unfold State.lvResume
  exact .ite (.stepR .putBatSw .refl) (.ite (.stepR .lvCheck .refl) (.ite (.stepR .lvEnter .refl) (.stepR .lvEnter
    .refl)))
theorem State.Leaves.vrBack {s : State} : State.Leaves [.od, .log, .links, .legs, .traction, .lus, .stageIn,
    .lvCommand, .gbx, .aux, .chg, .path] (fun j => noReaction j ∧ j ≠ Od.LV_LV_TIMER_min) true s (s.vrBack) := by
  unfold State.vrBack
  exact .step .lvResume (.step .lvEvent (.stepR .setVrSource .refl))
theorem State.Leaves.vrMove {s : State} {d : Rat} : State.Leaves [.od, .log, .links, .legs, .traction, .lus, .stageIn,
    .lvCommand, .gbx, .aux, .chg, .path] (fun j => noReaction j ∧ j ≠ Od.CNV_VR_REF ∧ j ≠ Od.LV_LV_TIMER_min) true s
    (s.vrMove d) := by
  unfold State.vrMove
  exact .ite .refl (.stepR .noteSlewing (.ite (.step .vrBack (.stepR .setAuxMode (.stepR .setQ (.stepR .setQ .refl))))
    (.stepR .setQ (.stepR .setQ .refl))))
theorem State.Leaves.buckFreq {s : State} {d : Rat} : State.Leaves [.od, .aux] (fun j => j ≠ Od.CNV_F_BUCK) false s
    (s.buckFreq d) := by
  unfold State.buckFreq
  exact .step .modAux (.step .setN .refl)
theorem State.Leaves.auxMeasure {s : State} {ticks : Nat} : State.Leaves [.od, .fresh, .aux] (fun j => j ≠ Od.CNV_E_VR_J
    ∧ j ≠ Od.CNV_I_VR ∧ j ≠ Od.CNV_P_IB ∧ j ≠ Od.CNV_TOW_TIME_s) false s (s.auxMeasure ticks) := by
  unfold State.auxMeasure
  exact .step .setN (.step .setN (.step .modAux (.step .setQ (.step .setQ (.when (fun _ => (.step .draw .refl))
    .refl)))))
theorem State.Leaves.auxInstance {s : State} : State.Leaves [.od, .fresh, .log, .links, .cells, .legs, .traction,
    .lus, .stageIn, .lvCommand, .gbx, .aux, .chg, .path] (fun j => noReaction j ∧ j ≠ Od.CNV_AUX_CNT_STATUS ∧ j ≠
    Od.CNV_E_VR_J ∧ j ≠ Od.CNV_F_BUCK ∧ j ≠ Od.CNV_I_VR ∧ j ≠ Od.CNV_P_IB ∧ j ≠ Od.CNV_TOW_ENTRIES ∧ j ≠
    Od.CNV_TOW_TIME_s ∧ j ≠ Od.CNV_VR_REF ∧ j ≠ Od.LV_LV_TIMER_min) true s (s.auxInstance) := by
  unfold State.auxInstance
  exact .stepR .aux48 (.ite (.stepR .enterTow (.stepR .dabResume (.stepR .setQ (.step .vrMove (.stepR .auxMeasure
    (.stepR .buckFreq (.step .modAux .refl))))))) (.stepR .dabResume (.stepR .setQ (.step .vrMove (.stepR .auxMeasure
    (.stepR .buckFreq (.step .modAux .refl)))))))
theorem State.Leaves.compareSenses {s : State} : State.Leaves [.dcl] (fun _ => True) false s (s.compareSenses) := by
  unfold State.compareSenses
  exact .step .modDcl .refl
theorem State.Leaves.sliceDone {s : State} {e : Fin 24} {r : SliceResult} : State.Leaves [.od, .fresh, .log, .links,
    .drives, .cells, .legs, .store, .seqs, .axes, .traction, .lus, .stageIn, .lvCommand, .engines, .tasks, .gbx, .dcl,
    .aux, .chg, .path] (fun j => noReaction j ∧ (∀ x, x < 24 → j ≠ Od.ENG_DISPATCHES x) ∧ (∀ x, x < 24 → j ≠
    Od.ENG_ENG_CNT_STATUS x) ∧ j ≠ Od.ENG_LAST_FAIL e ∧ j ≠ Od.ENG_OOS_COUNT e ∧ j ≠ Od.ENG_SELFTEST_FAILS e ∧ j ≠
    Od.ENG_SELFTEST_PASSES e ∧ (∀ x, x < 24 → j ≠ Od.ENG_STEALS x) ∧ (∀ x, x < 24 → j ≠ Od.ENG_STEAL_TIME_MAX_ns x) ∧
    (∀ x, x < 24 → j ≠ Od.ENG_STOLEN_FROM x) ∧ (∀ x, x < 15 → j ≠ Od.OBS_ASC_COUNT x) ∧ j ≠ Od.POOL_CLAIM_CONFLICTS ∧
    j ≠ Od.POOL_POOL_CNT_STATUS ∧ j ≠ Od.POOL_POOL_STATUS ∧ j ≠ Od.POOL_STEAL_COST_MAX_ns ∧ (∀ x, x < 59 → j ≠
    Od.TASK_START_LAT_MAX_us x)) true s (s.sliceDone e r) := by
  unfold State.sliceDone
  exact by split; exacts [(.ite (.step .modEng .refl) (.stepR .count (.step .modEng .refl))), (.step .outOfService
    (.stepR .count .refl))]
theorem State.Leaves.writeExchange {s : State} : State.Leaves [.pyr] (fun _ => True) false s (s.writeExchange) := by
  unfold State.writeExchange
  exact .step .modPyr .refl
theorem State.Leaves.taskEffect {s : State} {e : Fin 24} {k : Nat} {slice : SliceResult} : State.Leaves [.od, .fresh,
    .log, .links, .drives, .cells, .legs, .store, .seqs, .axes, .traction, .lus, .stageIn, .lvCommand, .engines,
    .tasks, .gbx, .dcl, .aux, .chg, .path, .thermal, .pyr] (fun j => noReaction j ∧ j ≠ Od.AXLE_AXLE_CNT_STATUS ∧ j ≠
    Od.AXLE_AXLE_STATUS ∧ j ≠ Od.AXLE_MODE_CHANGES ∧ j ≠ Od.AXLE_SHORTFALL ∧ j ≠ Od.AXLE_TRANSFERS ∧ j ≠
    Od.AXLE_WHEEL_SPEED_A ∧ j ≠ Od.AXLE_WHEEL_SPEED_B ∧ j ≠ Od.AXLE_WHEEL_TQ_A ∧ j ≠ Od.AXLE_WHEEL_TQ_B ∧ (∀ x, x < 15
    → j ≠ Od.CELL_CELL_BAND x) ∧ (∀ x, x < 15 → j ≠ Od.CELL_CELL_TJ x) ∧ j ≠ Od.CHR_CHG_CNT_STATUS ∧ j ≠
    Od.CHR_E_EXPORT_J ∧ j ≠ Od.CHR_E_IMPORT_J ∧ j ≠ Od.CHR_I_AC ∧ j ≠ Od.CHR_PACK_I ∧ j ≠ Od.CHR_P_AC ∧ j ≠
    Od.CHR_P_DC ∧ j ≠ Od.CHR_RELAY_OPS_MAIN ∧ j ≠ Od.CHR_RELAY_OPS_PRE ∧ j ≠ Od.CNV_AUX_CNT_STATUS ∧ j ≠ Od.CNV_E_VR_J
    ∧ j ≠ Od.CNV_F_BUCK ∧ j ≠ Od.CNV_I_VR ∧ j ≠ Od.CNV_P_IB ∧ j ≠ Od.CNV_TOW_ENTRIES ∧ j ≠ Od.CNV_TOW_TIME_s ∧ j ≠
    Od.CNV_VR_REF ∧ (∀ x, x < 24 → j ≠ Od.ENG_DISPATCHES x) ∧ (∀ x, x < 24 → j ≠ Od.ENG_ENG_CNT_STATUS x) ∧ j ≠
    Od.ENG_LAST_FAIL e ∧ j ≠ Od.ENG_OOS_COUNT e ∧ j ≠ Od.ENG_SELFTEST_FAILS e ∧ j ≠ Od.ENG_SELFTEST_PASSES e ∧ (∀ x, x
    < 24 → j ≠ Od.ENG_STEALS x) ∧ (∀ x, x < 24 → j ≠ Od.ENG_STEAL_TIME_MAX_ns x) ∧ (∀ x, x < 24 → j ≠
    Od.ENG_STOLEN_FROM x) ∧ j ≠ Od.HV_HV_CHARGE_mAs ∧ j ≠ Od.HV_HV_CV_ACT ∧ j ≠ Od.HV_HV_DISCHARGE_mAs ∧ j ≠
    Od.HV_HV_I_LIM_ACT ∧ j ≠ Od.HV_HV_TIMER_min ∧ j ≠ Od.LV_LV_CHARGE_mAs ∧ j ≠ Od.LV_LV_DISCHARGE_mAs ∧ j ≠
    Od.LV_LV_I_LIM_ACT ∧ j ≠ Od.LV_LV_TIMER_min ∧ (∀ x, x < 15 → j ≠ Od.OBS_ASC_COUNT x) ∧ (∀ x, x < 12 → j ≠
    Od.PIF_PIF_STATUS x) ∧ (∀ x, x < 4 → j ≠ Od.PM_CORNER x) ∧ (∀ x, x < 4 → j ≠ Od.PM_DRIFT x) ∧ j ≠ Od.PM_PM_STATUS
    ∧ j ≠ Od.POOL_CLAIM_CONFLICTS ∧ j ≠ Od.POOL_POOL_CNT_STATUS ∧ j ≠ Od.POOL_POOL_STATUS ∧ j ≠
    Od.POOL_STEAL_COST_MAX_ns ∧ (∀ x, x < 64 → j ≠ Od.SEN_ABOVE_WARN_s x) ∧ (∀ x, x < 64 → j ≠ Od.SEN_BROKEN_EVENTS x)
    ∧ (∀ x, x < 64 → j ≠ Od.SEN_K_FACTOR x) ∧ (∀ x, x < 64 → j ≠ Od.SEN_RAW x) ∧ (∀ x, x < 64 → j ≠
    Od.SEN_SENSOR_STATUS x) ∧ (∀ x, x < 64 → j ≠ Od.SEN_SHUTDOWNS x) ∧ (∀ x, x < 64 → j ≠ Od.SEN_TEMP x) ∧ (∀ x, x <
    64 → j ≠ Od.SEN_T_MAX x) ∧ (∀ x, x < 2 → j ≠ Od.SHF_SHIFTS x) ∧ (∀ x, x < 2 → j ≠ Od.SHF_SHIFT_TIME_ms x) ∧ (∀ x,
    x < 59 → j ≠ Od.TASK_START_LAT_MAX_us x) ∧ j ≠ Od.THM_BROKEN_NOW ∧ (∀ x, x < 6 → j ≠ Od.THM_DERATE x) ∧ j ≠
    Od.THM_FLASH_BAND ∧ j ≠ Od.THM_FLASH_PULSE_us ∧ j ≠ Od.THM_ROUNDS ∧ j ≠ Od.THM_ROUND_TIME_us ∧ j ≠
    Od.THM_TH_CNT_STATUS ∧ j ≠ Od.THM_TH_SHUTDOWNS ∧ j ≠ Od.THM_TH_STATUS ∧ j ≠ Od.THM_T_COOL_IN ∧ j ≠
    Od.THM_T_COOL_OUT ∧ j ≠ Od.THM_T_DIE_MAX ∧ (∀ x, x < 2 → j ≠ Od.TR_DIRECTION x) ∧ (∀ x, x < 2 → j ≠
    Od.TR_DIR_CHANGES x) ∧ (∀ x, x < 2 → j ≠ Od.TR_DRIVE_STATUS x) ∧ (∀ x, x < 24 → j ≠ Od.VMON_EXCURSIONS x) ∧ (∀ x,
    x < 24 → j ≠ Od.VMON_VALUE x) ∧ (∀ x, x < 24 → j ≠ Od.VMON_VMON_STATUS x) ∧ (∀ x, x < 24 → j ≠ Od.VMON_V_MAX x) ∧
    (∀ x, x < 24 → j ≠ Od.VMON_V_MIN x)) true s (s.taskEffect e k slice) := by
  unfold State.taskEffect
  exact .ite (.step .writeExchange .refl) (.ite (.step .sliceDone .refl) (.ite (.step .compareSenses .refl) (.ite
    (.step .auxInstance .refl) (.ite (.step .axleInstance .refl) (.ite (.step .shiftInstance .refl) (.ite (.step
    .hvInstance .refl) (.ite (.step .lvInstance .refl) (.ite (.step .evaluateRound .refl) .refl))))))))
theorem State.Leaves.taskComplete {s : State} {e : Fin 24} {slice : SliceResult} : State.Leaves [.od, .fresh, .log,
    .links, .drives, .cells, .legs, .store, .seqs, .axes, .traction, .lus, .stageIn, .lvCommand, .engines, .tasks,
    .pool, .gbx, .dcl, .aux, .chg, .path, .thermal, .pyr] (fun j => noReaction j ∧ j ≠ Od.AXLE_AXLE_CNT_STATUS ∧ j ≠
    Od.AXLE_AXLE_STATUS ∧ j ≠ Od.AXLE_MODE_CHANGES ∧ j ≠ Od.AXLE_SHORTFALL ∧ j ≠ Od.AXLE_TRANSFERS ∧ j ≠
    Od.AXLE_WHEEL_SPEED_A ∧ j ≠ Od.AXLE_WHEEL_SPEED_B ∧ j ≠ Od.AXLE_WHEEL_TQ_A ∧ j ≠ Od.AXLE_WHEEL_TQ_B ∧ (∀ x, x < 15
    → j ≠ Od.CELL_CELL_BAND x) ∧ (∀ x, x < 15 → j ≠ Od.CELL_CELL_TJ x) ∧ j ≠ Od.CHR_CHG_CNT_STATUS ∧ j ≠
    Od.CHR_E_EXPORT_J ∧ j ≠ Od.CHR_E_IMPORT_J ∧ j ≠ Od.CHR_I_AC ∧ j ≠ Od.CHR_PACK_I ∧ j ≠ Od.CHR_P_AC ∧ j ≠
    Od.CHR_P_DC ∧ j ≠ Od.CHR_RELAY_OPS_MAIN ∧ j ≠ Od.CHR_RELAY_OPS_PRE ∧ j ≠ Od.CNV_AUX_CNT_STATUS ∧ j ≠ Od.CNV_E_VR_J
    ∧ j ≠ Od.CNV_F_BUCK ∧ j ≠ Od.CNV_I_VR ∧ j ≠ Od.CNV_P_IB ∧ j ≠ Od.CNV_TOW_ENTRIES ∧ j ≠ Od.CNV_TOW_TIME_s ∧ j ≠
    Od.CNV_VR_REF ∧ (∀ x, x < 24 → j ≠ Od.ENG_DISPATCHES x) ∧ (∀ x, x < 24 → j ≠ Od.ENG_ENG_CNT_STATUS x) ∧ j ≠
    Od.ENG_LAST_FAIL e ∧ j ≠ Od.ENG_OOS_COUNT e ∧ j ≠ Od.ENG_OVERRUNS e ∧ j ≠ Od.ENG_SELFTEST_FAILS e ∧ j ≠
    Od.ENG_SELFTEST_PASSES e ∧ (∀ x, x < 24 → j ≠ Od.ENG_STEALS x) ∧ (∀ x, x < 24 → j ≠ Od.ENG_STEAL_TIME_MAX_ns x) ∧
    (∀ x, x < 24 → j ≠ Od.ENG_STOLEN_FROM x) ∧ j ≠ Od.HV_HV_CHARGE_mAs ∧ j ≠ Od.HV_HV_CV_ACT ∧ j ≠
    Od.HV_HV_DISCHARGE_mAs ∧ j ≠ Od.HV_HV_I_LIM_ACT ∧ j ≠ Od.HV_HV_TIMER_min ∧ j ≠ Od.LV_LV_CHARGE_mAs ∧ j ≠
    Od.LV_LV_DISCHARGE_mAs ∧ j ≠ Od.LV_LV_I_LIM_ACT ∧ j ≠ Od.LV_LV_TIMER_min ∧ (∀ x, x < 15 → j ≠ Od.OBS_ASC_COUNT x)
    ∧ (∀ x, x < 12 → j ≠ Od.PIF_PIF_STATUS x) ∧ (∀ x, x < 4 → j ≠ Od.PM_CORNER x) ∧ (∀ x, x < 4 → j ≠ Od.PM_DRIFT x) ∧
    j ≠ Od.PM_PM_STATUS ∧ j ≠ Od.POOL_CLAIM_CONFLICTS ∧ j ≠ Od.POOL_POOL_CNT_STATUS ∧ j ≠ Od.POOL_POOL_STATUS ∧ j ≠
    Od.POOL_STEAL_COST_MAX_ns ∧ (∀ x, x < 64 → j ≠ Od.SEN_ABOVE_WARN_s x) ∧ (∀ x, x < 64 → j ≠ Od.SEN_BROKEN_EVENTS x)
    ∧ (∀ x, x < 64 → j ≠ Od.SEN_K_FACTOR x) ∧ (∀ x, x < 64 → j ≠ Od.SEN_RAW x) ∧ (∀ x, x < 64 → j ≠
    Od.SEN_SENSOR_STATUS x) ∧ (∀ x, x < 64 → j ≠ Od.SEN_SHUTDOWNS x) ∧ (∀ x, x < 64 → j ≠ Od.SEN_TEMP x) ∧ (∀ x, x <
    64 → j ≠ Od.SEN_T_MAX x) ∧ (∀ x, x < 2 → j ≠ Od.SHF_SHIFTS x) ∧ (∀ x, x < 2 → j ≠ Od.SHF_SHIFT_TIME_ms x) ∧ (∀ x,
    x < 59 → j ≠ Od.TASK_EXEC_MAX_ns x) ∧ (∀ x, x < 59 → j ≠ Od.TASK_MISSES x) ∧ (∀ x, x < 59 → j ≠ Od.TASK_OVERRUNS
    x) ∧ (∀ x, x < 59 → j ≠ Od.TASK_START_LAT_MAX_us x) ∧ (∀ x, x < 59 → j ≠ Od.TASK_TASK_CNT_STATUS x) ∧ j ≠
    Od.THM_BROKEN_NOW ∧ (∀ x, x < 6 → j ≠ Od.THM_DERATE x) ∧ j ≠ Od.THM_FLASH_BAND ∧ j ≠ Od.THM_FLASH_PULSE_us ∧ j ≠
    Od.THM_ROUNDS ∧ j ≠ Od.THM_ROUND_TIME_us ∧ j ≠ Od.THM_TH_CNT_STATUS ∧ j ≠ Od.THM_TH_SHUTDOWNS ∧ j ≠
    Od.THM_TH_STATUS ∧ j ≠ Od.THM_T_COOL_IN ∧ j ≠ Od.THM_T_COOL_OUT ∧ j ≠ Od.THM_T_DIE_MAX ∧ (∀ x, x < 2 → j ≠
    Od.TR_DIRECTION x) ∧ (∀ x, x < 2 → j ≠ Od.TR_DIR_CHANGES x) ∧ (∀ x, x < 2 → j ≠ Od.TR_DRIVE_STATUS x) ∧ (∀ x, x <
    24 → j ≠ Od.VMON_EXCURSIONS x) ∧ (∀ x, x < 24 → j ≠ Od.VMON_VALUE x) ∧ (∀ x, x < 24 → j ≠ Od.VMON_VMON_STATUS x) ∧
    (∀ x, x < 24 → j ≠ Od.VMON_V_MAX x) ∧ (∀ x, x < 24 → j ≠ Od.VMON_V_MIN x)) true s (s.taskComplete e slice) := by
  unfold State.taskComplete
  exact by split; exacts [.refl, (.ite (.stepR .dispatch (.step .taskEffect (.step .timeExecution .refl))) (.step
    .watchdog .refl))]
theorem ResLeaves.execTaskExecutionComplete {dt : Nat} {e : Fin 24} {slice : SliceResult} {s : State} : ResLeaves [.od,
    .tb, .fresh, .out, .log, .links, .drives, .cells, .legs, .store, .seqs, .axes, .traction, .lus, .stageIn,
    .lvCommand, .engines, .tasks, .pool, .gbx, .dcl, .aux, .chg, .path, .thermal, .pyr] (fun j => noReaction j ∧ j ≠
    Od.AXLE_AXLE_CNT_STATUS ∧ j ≠ Od.AXLE_AXLE_STATUS ∧ j ≠ Od.AXLE_MODE_CHANGES ∧ j ≠ Od.AXLE_SHORTFALL ∧ j ≠
    Od.AXLE_TRANSFERS ∧ j ≠ Od.AXLE_WHEEL_SPEED_A ∧ j ≠ Od.AXLE_WHEEL_SPEED_B ∧ j ≠ Od.AXLE_WHEEL_TQ_A ∧ j ≠
    Od.AXLE_WHEEL_TQ_B ∧ (∀ x, x < 15 → j ≠ Od.CELL_CELL_BAND x) ∧ (∀ x, x < 15 → j ≠ Od.CELL_CELL_TJ x) ∧ j ≠
    Od.CHR_CHG_CNT_STATUS ∧ j ≠ Od.CHR_E_EXPORT_J ∧ j ≠ Od.CHR_E_IMPORT_J ∧ j ≠ Od.CHR_I_AC ∧ j ≠ Od.CHR_PACK_I ∧ j ≠
    Od.CHR_P_AC ∧ j ≠ Od.CHR_P_DC ∧ j ≠ Od.CHR_RELAY_OPS_MAIN ∧ j ≠ Od.CHR_RELAY_OPS_PRE ∧ j ≠ Od.CNV_AUX_CNT_STATUS ∧
    j ≠ Od.CNV_E_VR_J ∧ j ≠ Od.CNV_F_BUCK ∧ j ≠ Od.CNV_I_VR ∧ j ≠ Od.CNV_P_IB ∧ j ≠ Od.CNV_TOW_ENTRIES ∧ j ≠
    Od.CNV_TOW_TIME_s ∧ j ≠ Od.CNV_VR_REF ∧ (∀ x, x < 24 → j ≠ Od.ENG_DISPATCHES x) ∧ (∀ x, x < 24 → j ≠
    Od.ENG_ENG_CNT_STATUS x) ∧ j ≠ Od.ENG_LAST_FAIL e ∧ j ≠ Od.ENG_OOS_COUNT e ∧ j ≠ Od.ENG_OVERRUNS e ∧ j ≠
    Od.ENG_SELFTEST_FAILS e ∧ j ≠ Od.ENG_SELFTEST_PASSES e ∧ (∀ x, x < 24 → j ≠ Od.ENG_STEALS x) ∧ (∀ x, x < 24 → j ≠
    Od.ENG_STEAL_TIME_MAX_ns x) ∧ (∀ x, x < 24 → j ≠ Od.ENG_STOLEN_FROM x) ∧ j ≠ Od.HV_HV_CHARGE_mAs ∧ j ≠
    Od.HV_HV_CV_ACT ∧ j ≠ Od.HV_HV_DISCHARGE_mAs ∧ j ≠ Od.HV_HV_I_LIM_ACT ∧ j ≠ Od.HV_HV_TIMER_min ∧ j ≠
    Od.LV_LV_CHARGE_mAs ∧ j ≠ Od.LV_LV_DISCHARGE_mAs ∧ j ≠ Od.LV_LV_I_LIM_ACT ∧ j ≠ Od.LV_LV_TIMER_min ∧ (∀ x, x < 15
    → j ≠ Od.OBS_ASC_COUNT x) ∧ (∀ x, x < 12 → j ≠ Od.PIF_PIF_STATUS x) ∧ (∀ x, x < 4 → j ≠ Od.PM_CORNER x) ∧ (∀ x, x
    < 4 → j ≠ Od.PM_DRIFT x) ∧ j ≠ Od.PM_PM_STATUS ∧ j ≠ Od.POOL_CLAIM_CONFLICTS ∧ j ≠ Od.POOL_POOL_CNT_STATUS ∧ j ≠
    Od.POOL_POOL_STATUS ∧ j ≠ Od.POOL_STEAL_COST_MAX_ns ∧ (∀ x, x < 64 → j ≠ Od.SEN_ABOVE_WARN_s x) ∧ (∀ x, x < 64 → j
    ≠ Od.SEN_BROKEN_EVENTS x) ∧ (∀ x, x < 64 → j ≠ Od.SEN_K_FACTOR x) ∧ (∀ x, x < 64 → j ≠ Od.SEN_RAW x) ∧ (∀ x, x <
    64 → j ≠ Od.SEN_SENSOR_STATUS x) ∧ (∀ x, x < 64 → j ≠ Od.SEN_SHUTDOWNS x) ∧ (∀ x, x < 64 → j ≠ Od.SEN_TEMP x) ∧ (∀
    x, x < 64 → j ≠ Od.SEN_T_MAX x) ∧ (∀ x, x < 2 → j ≠ Od.SHF_SHIFTS x) ∧ (∀ x, x < 2 → j ≠ Od.SHF_SHIFT_TIME_ms x) ∧
    (∀ x, x < 59 → j ≠ Od.TASK_EXEC_MAX_ns x) ∧ (∀ x, x < 59 → j ≠ Od.TASK_MISSES x) ∧ (∀ x, x < 59 → j ≠
    Od.TASK_OVERRUNS x) ∧ (∀ x, x < 59 → j ≠ Od.TASK_START_LAT_MAX_us x) ∧ (∀ x, x < 59 → j ≠ Od.TASK_TASK_CNT_STATUS
    x) ∧ j ≠ Od.THM_BROKEN_NOW ∧ (∀ x, x < 6 → j ≠ Od.THM_DERATE x) ∧ j ≠ Od.THM_FLASH_BAND ∧ j ≠
    Od.THM_FLASH_PULSE_us ∧ j ≠ Od.THM_ROUNDS ∧ j ≠ Od.THM_ROUND_TIME_us ∧ j ≠ Od.THM_TH_CNT_STATUS ∧ j ≠
    Od.THM_TH_SHUTDOWNS ∧ j ≠ Od.THM_TH_STATUS ∧ j ≠ Od.THM_T_COOL_IN ∧ j ≠ Od.THM_T_COOL_OUT ∧ j ≠ Od.THM_T_DIE_MAX ∧
    (∀ x, x < 2 → j ≠ Od.TR_DIRECTION x) ∧ (∀ x, x < 2 → j ≠ Od.TR_DIR_CHANGES x) ∧ (∀ x, x < 2 → j ≠
    Od.TR_DRIVE_STATUS x) ∧ (∀ x, x < 24 → j ≠ Od.VMON_EXCURSIONS x) ∧ (∀ x, x < 24 → j ≠ Od.VMON_VALUE x) ∧ (∀ x, x <
    24 → j ≠ Od.VMON_VMON_STATUS x) ∧ (∀ x, x < 24 → j ≠ Od.VMON_V_MAX x) ∧ (∀ x, x < 24 → j ≠ Od.VMON_V_MIN x)) true
    s (execTaskExecutionComplete dt e slice s) := by
  unfold Machine.execTaskExecutionComplete
  exact .reply (.step .taskComplete (.step .elapse .refl))
theorem State.Leaves.releaseTask {s : State} {k : Fin 59} : State.Leaves [.od, .fresh, .engines, .tasks] (fun j => j ≠
    Od.CNT_CNT_OVF_MAP ∧ (∀ x, x < 24 → j ≠ Od.ENG_DISPATCHES x) ∧ (∀ x, x < 24 → j ≠ Od.ENG_ENG_CNT_STATUS x) ∧ (∀ x,
    x < 24 → j ≠ Od.ENG_STEALS x) ∧ (∀ x, x < 24 → j ≠ Od.ENG_STEAL_TIME_MAX_ns x) ∧ (∀ x, x < 24 → j ≠
    Od.ENG_STOLEN_FROM x) ∧ j ≠ Od.POOL_CLAIM_CONFLICTS ∧ j ≠ Od.POOL_POOL_CNT_STATUS ∧ j ≠ Od.POOL_STEAL_COST_MAX_ns
    ∧ j ≠ Od.TASK_RELEASES k ∧ j ≠ Od.TASK_SKIPS k ∧ (∀ x, x < 59 → j ≠ Od.TASK_START_LAT_MAX_us x) ∧ j ≠
    Od.TASK_TASK_CNT_STATUS k) false s (s.releaseTask k) := by
  unfold State.releaseTask
  exact .ite .refl (.ite (.step .count (.step .modTask .refl)) (.step .dispatch (.step .countWide (.step .modTask
    (.step .modTask .refl)))))
theorem ResLeaves.execTaskRelease {dt : Nat} {k : Fin 59} {s : State} : ResLeaves [.od, .tb, .fresh, .out, .log,
    .engines, .tasks] (fun j => j ≠ Od.CNT_CNT_OVF_MAP ∧ (∀ x, x < 24 → j ≠ Od.ENG_DISPATCHES x) ∧ (∀ x, x < 24 → j ≠
    Od.ENG_ENG_CNT_STATUS x) ∧ (∀ x, x < 24 → j ≠ Od.ENG_STEALS x) ∧ (∀ x, x < 24 → j ≠ Od.ENG_STEAL_TIME_MAX_ns x) ∧
    (∀ x, x < 24 → j ≠ Od.ENG_STOLEN_FROM x) ∧ j ≠ Od.POOL_CLAIM_CONFLICTS ∧ j ≠ Od.POOL_POOL_CNT_STATUS ∧ j ≠
    Od.POOL_STEAL_COST_MAX_ns ∧ j ≠ Od.TASK_RELEASES k ∧ j ≠ Od.TASK_SKIPS k ∧ (∀ x, x < 59 → j ≠
    Od.TASK_START_LAT_MAX_us x) ∧ j ≠ Od.TASK_TASK_CNT_STATUS k) false s (execTaskRelease dt k s) := by
  unfold Machine.execTaskRelease
  exact .reply (.step .releaseTask (.step .elapse .refl))
theorem State.Leaves.holdExpired {s : State} {n : Fin 24} {i : Nat} : State.Leaves [.od, .log, .links, .drives, .cells,
    .legs, .store, .seqs, .axes, .traction, .lus, .stageIn, .lvCommand, .gbx, .dcl, .aux, .chg, .path] (fun j =>
    noReaction j ∧ (∀ x, x < 15 → j ≠ Od.OBS_ASC_COUNT x)) true s (s.holdExpired n i) := by
  unfold State.holdExpired
  exact .ite (.step .raise (.step .modLu .refl)) .refl
theorem ResLeaves.execHoldMaxExpiry {dt : Nat} {n : Fin 24} {sec : Fin 8} {s : State} : ResLeaves [.od, .tb, .out, .log,
    .links, .drives, .cells, .legs, .store, .seqs, .axes, .traction, .lus, .stageIn, .lvCommand, .gbx, .dcl, .aux,
    .chg, .path] (fun j => noReaction j ∧ (∀ x, x < 15 → j ≠ Od.OBS_ASC_COUNT x)) true s (execHoldMaxExpiry dt n sec
    s) := by
  unfold Machine.execHoldMaxExpiry
  exact .reply (.step .holdExpired (.step .elapse .refl))
theorem ResLeaves.execSecCtrlWrite {dt : Nat} {who : Requester} {n : Fin 24} {sec : Fin 8} {value : BitVec 8} {s :
    State} : ResLeaves [.od, .tb, .out, .log, .lus, .sessions] (fun j => noAccess j ∧ j ≠ Od.LU_SEC_CTRL n sec) false
    s (execSecCtrlWrite dt who n sec value s) := by
  unfold Machine.execSecCtrlWrite
  exact .reply (.step .writeSecCtrl (.step .elapse .refl))
theorem State.Leaves.commitComputed {s : State} {n : Fin 24} : State.Leaves [.od, .log, .lus] (fun j => j ≠
    Od.CNT_CNT_OVF_MAP ∧ (∀ x, x < 8 → j ≠ Od.LU_A1 n x) ∧ (∀ x, x < 8 → j ≠ Od.LU_A2 n x) ∧ (∀ x, x < 8 → j ≠
    Od.LU_B0 n x) ∧ (∀ x, x < 8 → j ≠ Od.LU_B1 n x) ∧ (∀ x, x < 8 → j ≠ Od.LU_B2 n x) ∧ j ≠ Od.LU_COMMITS n ∧ j ≠
    Od.LU_DIR_SIGNS n ∧ j ≠ Od.LU_LU_CNT_STATUS n ∧ (∀ x, x < 8 → j ≠ Od.LU_SEC_CTRL n x)) false s (s.commitComputed
    n) := by
  unfold State.commitComputed
  exact by split; exacts [(.ite .refl (.ite (.step .modLu .refl) (.step .commitAtOnce .refl))), .refl]
theorem ResLeaves.execCommitComputed {dt : Nat} {n : Fin 24} {s : State} : ResLeaves [.od, .tb, .out, .log, .lus] (fun j
    => j ≠ Od.CNT_CNT_OVF_MAP ∧ (∀ x, x < 8 → j ≠ Od.LU_A1 n x) ∧ (∀ x, x < 8 → j ≠ Od.LU_A2 n x) ∧ (∀ x, x < 8 → j ≠
    Od.LU_B0 n x) ∧ (∀ x, x < 8 → j ≠ Od.LU_B1 n x) ∧ (∀ x, x < 8 → j ≠ Od.LU_B2 n x) ∧ j ≠ Od.LU_COMMITS n ∧ j ≠
    Od.LU_DIR_SIGNS n ∧ j ≠ Od.LU_LU_CNT_STATUS n ∧ (∀ x, x < 8 → j ≠ Od.LU_SEC_CTRL n x)) false s (execCommitComputed
    dt n s) := by
  unfold Machine.execCommitComputed
  exact .reply (.step .commitComputed (.step .elapse .refl))
theorem ResLeaves.execCommitNotch {dt : Nat} {who : Requester} {n : Fin 24} {s : State} : ResLeaves [.od, .tb, .out,
    .log, .lus, .sessions] (fun j => noAccess j ∧ (∀ x, x < 8 → j ≠ Od.LU_A1 n x) ∧ (∀ x, x < 8 → j ≠ Od.LU_A2 n x) ∧
    (∀ x, x < 8 → j ≠ Od.LU_B0 n x) ∧ (∀ x, x < 8 → j ≠ Od.LU_B1 n x) ∧ (∀ x, x < 8 → j ≠ Od.LU_B2 n x) ∧ j ≠
    Od.LU_COMMITS n ∧ j ≠ Od.LU_DIR_SIGNS n ∧ j ≠ Od.LU_LU_CNT_STATUS n ∧ (∀ x, x < 8 → j ≠ Od.LU_SEC_CTRL n x)) false
    s (execCommitNotch dt who n s) := by
  unfold Machine.execCommitNotch
  exact .reply (.step .writeCommit (.step .elapse .refl))
theorem ResLeaves.execCommitStaged {dt : Nat} {who : Requester} {n : Fin 24} {s : State} : ResLeaves [.od, .tb, .out,
    .log, .lus, .sessions] (fun j => noAccess j ∧ (∀ x, x < 8 → j ≠ Od.LU_A1 n x) ∧ (∀ x, x < 8 → j ≠ Od.LU_A2 n x) ∧
    (∀ x, x < 8 → j ≠ Od.LU_B0 n x) ∧ (∀ x, x < 8 → j ≠ Od.LU_B1 n x) ∧ (∀ x, x < 8 → j ≠ Od.LU_B2 n x) ∧ j ≠
    Od.LU_COMMITS n ∧ j ≠ Od.LU_DIR_SIGNS n ∧ j ≠ Od.LU_LU_CNT_STATUS n ∧ (∀ x, x < 8 → j ≠ Od.LU_SEC_CTRL n x)) false
    s (execCommitStaged dt who n s) := by
  unfold Machine.execCommitStaged
  exact .reply (.step .writeCommit (.step .elapse .refl))
theorem ResLeaves.execCoefficientQueueWrite {dt : Nat} {who : Requester} {n : Fin 24} {sub : BitVec 8} {value : BitVec
    32} {s : State} : ResLeaves [.od, .tb, .out, .log, .links, .legs, .traction, .lus, .stageIn, .lvCommand, .gbx,
    .sessions] (fun j => noAccess j ∧ (∀ x, x < 8 → j ≠ Od.AX_TQ_REF x) ∧ j ≠ Od.DCL_CHOP_DUTY ∧ j ≠ Od.DCL_DCL_STATUS
    ∧ (∀ x, x < 8 → j ≠ Od.LU_A1 n x) ∧ (∀ x, x < 8 → j ≠ Od.LU_A2 n x) ∧ (∀ x, x < 8 → j ≠ Od.LU_B0 n x) ∧ (∀ x, x <
    8 → j ≠ Od.LU_B1 n x) ∧ (∀ x, x < 8 → j ≠ Od.LU_B2 n x) ∧ j ≠ Od.LU_COMMITS n ∧ j ≠ Od.LU_DIR_SIGNS n ∧ j ≠
    Od.LU_LU_CNT_STATUS n ∧ (∀ x, x < 24 → j ≠ Od.LU_REF x) ∧ (∀ x, x < 8 → j ≠ Od.LU_SEC_CTRL n x) ∧ (∀ x, x < 8 → j
    ≠ Od.SOL_DUTY x) ∧ (∀ x, x < 8 → j ≠ Od.SOL_ENERGISATIONS x) ∧ (∀ x, x < 8 → j ≠ Od.SOL_SOL_CNT_STATUS x) ∧ (∀ x,
    x < 8 → j ≠ Od.SOL_SOL_STATUS x) ∧ j ≠ Od.LU_NUM_SUBS n + sub.toNat) true s (execCoefficientQueueWrite dt who n
    sub value s) := by
  unfold Machine.execCoefficientQueueWrite
  exact .reply (.step .writeLuQueue (.step .elapse .refl))
theorem State.Leaves.selectMin {s : State} {n : Fin 24} {m : Fin 24} : State.Leaves [.od, .links, .legs, .traction,
    .lus, .stageIn, .lvCommand, .gbx] (fun j => noReaction j ∧ (∀ x, x < 24 → j ≠ Od.LU_SAT_SAMPLES x)) false s
    (s.selectMin n m) := by
  unfold State.selectMin
  exact .ite .refl (.stepR .deliver (.step .modLu (.step .modLu (.when (fun _ => (.stepR .count .refl)) .refl))))
theorem State.Leaves.luOutput {s : State} {n : Fin 24} {u : Rat} : State.Leaves [.od, .links, .legs, .traction, .lus,
    .stageIn, .lvCommand, .gbx] (fun j => noReaction j ∧ (∀ x, x < 24 → j ≠ Od.LU_SAT_SAMPLES x)) false s (s.luOutput
    n u) := by
  unfold State.luOutput
  exact by split; exacts [(.step .selectMin .refl), (.stepR .deliver .refl)]
theorem State.Leaves.luOverflow {s : State} {n : Fin 24} {l : List Nat} : State.Leaves [.od, .log, .lus] (fun j => j ≠
    Od.CNT_CNT_OVF_MAP ∧ j ≠ Od.LU_LU_CNT_STATUS n ∧ j ≠ Od.LU_OVF_COUNT n) false s (s.luOverflow n l) := by
  unfold State.luOverflow
  exact by split; exacts [.refl, (.ite (.step .countBy .refl) (.step .event (.step .modLu (.step .countBy .refl))))]
theorem State.Leaves.cascade {s : State} {n : Fin 24} {x0 : Int} : State.Leaves [.od, .lus] (fun j => (∀ x, x < 8 → j ≠
    Od.LU_SEC_OUT n x)) false s (s.cascade n x0).1 := by
  unfold State.cascade
  refine .foldl Prod.fst (fun i hi a => ?_) .refl
  have hlt := List.mem_range.1 hi
  dsimp only
  split
  · exact .step .modLu .refl
  · split
    · exact .step .modLu .refl
    · exact .step .setQ (.step .modLu .refl) fun _ hj => hj _ (by omega)
theorem State.Leaves.luSkip {s : State} {n : Fin 24} : State.Leaves [.od, .log, .links, .drives, .cells, .legs,
    .store, .seqs, .axes, .traction, .lus, .stageIn, .lvCommand, .gbx, .dcl, .aux, .chg, .path] (fun j => noReaction j
    ∧ (∀ x, x < 24 → j ≠ Od.LU_SAT_SAMPLES x) ∧ j ≠ Od.LU_STALE_COUNT n ∧ (∀ x, x < 15 → j ≠ Od.OBS_ASC_COUNT x)) true
    s (s.luSkip n) := by
  unfold State.luSkip
  exact .ite (.step .raise (by split; exacts [(.step .selectMin (.step .modLu (.stepR .count .refl))), (.step .modLu
    (.stepR .count .refl))])) (by split; exacts [(.step .selectMin (.step .modLu (.stepR .count .refl))), (.step
    .modLu (.stepR .count .refl))])
theorem State.Leaves.luDequeue {s : State} {n : Fin 24} : State.Leaves [.od, .lus] (fun _ => True) true s (s.luDequeue
    n) := by
  unfold State.luDequeue
  split
  · exact .refl
  · next e q hq =>
    have hset : State.Leaves [.od, .lus] (fun j => ∀ e ∈ (s.lu n).queue, e.1 ≠ j) false s (s.set e.1 e.2) :=
      .step .set .refl fun _ hj => (hj e (hq ▸ List.mem_cons_self ..)).symm
    exact .applied (.step (.modLu fun _ h => hq ▸ List.mem_cons_of_mem _ h) hset fun _ _ => trivial)
theorem State.Leaves.commitStep {s : State} {n : Fin 24} : State.Leaves [.od, .log, .lus] (fun j => noReaction j)
    false s (s.commitStep n) := by
  unfold State.commitStep
  split
  · exact .refl
  · next c _ =>
    split
    · exact .refl
    · exact .when (fun _ => .step .holdStarts .refl) (.step .modLu (.stepR .setBit .refl))
    · exact .stepR .commitDone .refl
    · have hlt : (if c.a2First then [4, 3, 0, 1, 2] else [3, 4, 0, 1, 2]).getD (c.step - 2) 0 < 5 := by
        rw [List.getD_eq_getElem?_getD]
        split <;> rcases c.step - 2 with _ | _ | _ | _ | _ | _ <;> simp
      exact .step .modLu (.stepR (.coefficient hlt) .refl)
theorem State.Leaves.commitAt {s : State} {n : Fin 24} : State.Leaves [.od, .log, .lus] (fun j => noReaction j) false
    s (s.commitAt n) := by
  unfold State.commitAt
  exact .ite .refl (.step .commitStep .refl)
theorem State.Leaves.luSample {s : State} {n : Fin 24} : State.Leaves [.od, .log, .links, .drives, .cells, .legs,
    .store, .seqs, .axes, .traction, .lus, .stageIn, .lvCommand, .gbx, .dcl, .aux, .chg, .path] (fun j => noReaction j
    ∧ j ≠ Od.LU_FB_VALUE n ∧ j ≠ Od.LU_OUTPUT n ∧ j ≠ Od.LU_OVF_COUNT n ∧ j ≠ Od.LU_SAMPLES n ∧ (∀ x, x < 24 → j ≠
    Od.LU_SAT_SAMPLES x) ∧ (∀ x, x < 8 → j ≠ Od.LU_SEC_OUT n x) ∧ j ≠ Od.LU_STALE_COUNT n ∧ (∀ x, x < 15 → j ≠
    Od.OBS_ASC_COUNT x)) true s (s.luSample n) := by
  unfold State.luSample
  exact .ite (.stepR .stopUnit (.step .commitAt (.step .luDequeue (.step .modLu .refl)))) (by split; exacts [(.step
    .luSkip (.step .commitAt (.step .luDequeue (.step .modLu .refl)))), (.step .luOutput (.when (fun _ => (.stepR
    .count .refl)) (.stepR .countWide (.stepR .setQ (.stepR .setQ (.step .modLu (.stepR .luOverflow (.stepR .cascade
    (.step .commitAt (.step .luDequeue (.step .modLu .refl)))))))))))])
theorem ResLeaves.execLoopUnitSample {dt : Nat} {n : Fin 24} {s : State} : ResLeaves [.od, .tb, .out, .log, .links,
    .drives, .cells, .legs, .store, .seqs, .axes, .traction, .lus, .stageIn, .lvCommand, .gbx, .dcl, .aux, .chg,
    .path] (fun j => noReaction j ∧ j ≠ Od.LU_FB_VALUE n ∧ j ≠ Od.LU_OUTPUT n ∧ j ≠ Od.LU_OVF_COUNT n ∧ j ≠
    Od.LU_SAMPLES n ∧ (∀ x, x < 24 → j ≠ Od.LU_SAT_SAMPLES x) ∧ (∀ x, x < 8 → j ≠ Od.LU_SEC_OUT n x) ∧ j ≠
    Od.LU_STALE_COUNT n ∧ (∀ x, x < 15 → j ≠ Od.OBS_ASC_COUNT x)) true s (execLoopUnitSample dt n s) := by
  unfold Machine.execLoopUnitSample
  exact .reply (.ite (.step .luSample (.step .elapse .refl)) (.step .elapse .refl))
theorem State.Leaves.speedCompute {s : State} {p : Fin 12} {c0 : Int} {t0 : Nat} : State.Leaves [.od, .pifs] (fun j => j ≠
    Od.PIF_SPEED p) false s (s.speedCompute p c0 t0) := by
  unfold State.speedCompute
  exact .ite (.step .setQ (by split; exacts [(.step .modPif (.step .setQ .refl)), (.ite .refl (.step .setQ .refl))]))
    (by split; exacts [(.step .modPif (.step .setQ .refl)), (.ite .refl (.step .setQ .refl))])
theorem State.Leaves.speedUpdate {s : State} {p : Fin 12} : State.Leaves [.od, .log, .links, .drives, .cells, .legs,
    .store, .seqs, .axes, .traction, .pifs, .lus, .stageIn, .lvCommand, .gbx, .dcl, .aux, .chg, .path] (fun j =>
    noReaction j ∧ (∀ x, x < 15 → j ≠ Od.OBS_ASC_COUNT x) ∧ (∀ x, x < 8 → j ≠ Od.OBS_LOSS_COUNT x) ∧ j ≠
    Od.PIF_CNT_STATUS p ∧ j ≠ Od.PIF_ILLEGAL_COUNT p ∧ j ≠ Od.PIF_INDEX_ERRORS p ∧ j ≠ Od.PIF_INDEX_POS p ∧ j ≠
    Od.PIF_LAST_EDGE_TB p ∧ j ≠ Od.PIF_PIF_STATUS p ∧ j ≠ Od.PIF_POSITION p ∧ j ≠ Od.PIF_SPEED p) true s
    (s.speedUpdate p) := by
  unfold State.speedUpdate
  exact .ite (.step .settle .refl) (by split; exacts [(.step .modPif (.step .settle .refl)), (.stepR .speedCompute
    (.step .modPif (.step .settle .refl)))])
theorem ResLeaves.execSpeedUpdate {dt : Nat} {p : Fin 12} {s : State} : ResLeaves [.od, .tb, .out, .log, .links,
    .drives, .cells, .legs, .store, .seqs, .axes, .traction, .pifs, .lus, .stageIn, .lvCommand, .gbx, .dcl, .aux,
    .chg, .path] (fun j => noReaction j ∧ (∀ x, x < 15 → j ≠ Od.OBS_ASC_COUNT x) ∧ (∀ x, x < 8 → j ≠ Od.OBS_LOSS_COUNT
    x) ∧ j ≠ Od.PIF_CNT_STATUS p ∧ j ≠ Od.PIF_ILLEGAL_COUNT p ∧ j ≠ Od.PIF_INDEX_ERRORS p ∧ j ≠ Od.PIF_INDEX_POS p ∧ j
    ≠ Od.PIF_LAST_EDGE_TB p ∧ j ≠ Od.PIF_PIF_STATUS p ∧ j ≠ Od.PIF_POSITION p ∧ j ≠ Od.PIF_SPEED p) true s
    (execSpeedUpdate dt p s) := by
  unfold Machine.execSpeedUpdate
  exact .reply (.step .speedUpdate (.step .elapse .refl))
theorem ResLeaves.execPifModeWrite {dt : Nat} {who : Requester} {p : Fin 12} {value : BitVec 8} {s : State} : ResLeaves
    [.od, .tb, .out, .log, .pifs, .sessions] (fun j => noAccess j ∧ j ≠ Od.PIF_MODE p ∧ j ≠ Od.PIF_PIF_STATUS p) false
    s (execPifModeWrite dt who p value s) := by
  unfold Machine.execPifModeWrite
  exact .reply (.step .writePifMode (.step .elapse .refl))
theorem ResLeaves.execCheckCmdWrite {dt : Nat} {who : Requester} {p : Fin 12} {value : BitVec 8} {s : State} : ResLeaves
    [.od, .tb, .out, .log, .pifs, .sessions] (fun j => noAccess j ∧ j ≠ Od.PIF_PIF_STATUS p) false s
    (execCheckCmdWrite dt who p value s) := by
  unfold Machine.execCheckCmdWrite
  exact .reply (.step .writeCheckCmd (.step .elapse .refl))
theorem State.Leaves.faultClear {s : State} {p : Fin 12} : State.Leaves [.od, .log, .links, .drives, .cells, .legs,
    .store, .seqs, .axes, .traction, .pifs, .lus, .stageIn, .lvCommand, .gbx, .dcl, .aux, .chg, .path] (fun j =>
    noReaction j ∧ (∀ x, x < 15 → j ≠ Od.OBS_ASC_COUNT x) ∧ (∀ x, x < 8 → j ≠ Od.OBS_LOSS_COUNT x) ∧ j ≠
    Od.PIF_CNT_STATUS p ∧ j ≠ Od.PIF_ILLEGAL_COUNT p ∧ j ≠ Od.PIF_INDEX_ERRORS p ∧ j ≠ Od.PIF_INDEX_POS p ∧ j ≠
    Od.PIF_LAST_EDGE_TB p ∧ j ≠ Od.PIF_PIF_STATUS p ∧ j ≠ Od.PIF_POSITION p) true s (s.faultClear p) := by
  unfold State.faultClear
  exact .ite (.stepR .pifCheck (.step .settle .refl)) (.step .settle .refl)
theorem ResLeaves.execInterfaceFaultClear {dt : Nat} {p : Fin 12} {s : State} : ResLeaves [.od, .tb, .out, .log, .links,
    .drives, .cells, .legs, .store, .seqs, .axes, .traction, .pifs, .lus, .stageIn, .lvCommand, .gbx, .dcl, .aux,
    .chg, .path] (fun j => noReaction j ∧ (∀ x, x < 15 → j ≠ Od.OBS_ASC_COUNT x) ∧ (∀ x, x < 8 → j ≠ Od.OBS_LOSS_COUNT
    x) ∧ j ≠ Od.PIF_CNT_STATUS p ∧ j ≠ Od.PIF_ILLEGAL_COUNT p ∧ j ≠ Od.PIF_INDEX_ERRORS p ∧ j ≠ Od.PIF_INDEX_POS p ∧ j
    ≠ Od.PIF_LAST_EDGE_TB p ∧ j ≠ Od.PIF_PIF_STATUS p ∧ j ≠ Od.PIF_POSITION p) true s (execInterfaceFaultClear dt p s)
    := by
  unfold Machine.execInterfaceFaultClear
  exact .reply (.step .faultClear (.step .elapse .refl))
theorem ResLeaves.execCheckTimeout {dt : Nat} {p : Fin 12} {s : State} : ResLeaves [.od, .tb, .out, .log, .links,
    .drives, .cells, .legs, .store, .seqs, .axes, .traction, .pifs, .lus, .stageIn, .lvCommand, .gbx, .dcl, .aux,
    .chg, .path] (fun j => noReaction j ∧ (∀ x, x < 15 → j ≠ Od.OBS_ASC_COUNT x) ∧ (∀ x, x < 8 → j ≠ Od.OBS_LOSS_COUNT
    x) ∧ j ≠ Od.PIF_CNT_STATUS p ∧ j ≠ Od.PIF_ILLEGAL_COUNT p ∧ j ≠ Od.PIF_INDEX_ERRORS p ∧ j ≠ Od.PIF_INDEX_POS p ∧ j
    ≠ Od.PIF_LAST_EDGE_TB p ∧ j ≠ Od.PIF_PIF_STATUS p ∧ j ≠ Od.PIF_POSITION p) true s (execCheckTimeout dt p s) := by
  have hpending : ((s.elapse dt).settle p).pending = s.pending :=
    ((State.Leaves.settle (s := s.elapse dt)).parts .pending (by decide)).trans rfl
  unfold Machine.execCheckTimeout
  exact .reply (.ite (.step .pifEvent (.step .modPif (.step .settle (.step .elapse .refl))))
    (.step .settle (.step .elapse .refl))) hpending
theorem State.Leaves.checkPass {s : State} {p : Fin 12} : State.Leaves [.od, .log, .links, .drives, .cells, .legs,
    .store, .seqs, .axes, .traction, .pifs, .lus, .stageIn, .lvCommand, .gbx, .dcl, .aux, .chg, .path] (fun j =>
    noReaction j ∧ (∀ x, x < 15 → j ≠ Od.OBS_ASC_COUNT x) ∧ (∀ x, x < 8 → j ≠ Od.OBS_LOSS_COUNT x) ∧ j ≠
    Od.PIF_CNT_STATUS p ∧ j ≠ Od.PIF_ILLEGAL_COUNT p ∧ j ≠ Od.PIF_INDEX_ERRORS p ∧ j ≠ Od.PIF_INDEX_POS p ∧ j ≠
    Od.PIF_LAST_EDGE_TB p ∧ j ≠ Od.PIF_PIF_STATUS p ∧ j ≠ Od.PIF_POSITION p) true s (s.checkPass p) := by
  unfold State.checkPass
  exact .ite (.step .pifEvent (.stepR .setBit (.stepR .setBit (.stepR .setField (.step .settle .refl))))) (.step
    .settle .refl)
theorem ResLeaves.execCheckPass {dt : Nat} {p : Fin 12} {s : State} : ResLeaves [.od, .tb, .out, .log, .links, .drives,
    .cells, .legs, .store, .seqs, .axes, .traction, .pifs, .lus, .stageIn, .lvCommand, .gbx, .dcl, .aux, .chg, .path]
    (fun j => noReaction j ∧ (∀ x, x < 15 → j ≠ Od.OBS_ASC_COUNT x) ∧ (∀ x, x < 8 → j ≠ Od.OBS_LOSS_COUNT x) ∧ j ≠
    Od.PIF_CNT_STATUS p ∧ j ≠ Od.PIF_ILLEGAL_COUNT p ∧ j ≠ Od.PIF_INDEX_ERRORS p ∧ j ≠ Od.PIF_INDEX_POS p ∧ j ≠
    Od.PIF_LAST_EDGE_TB p ∧ j ≠ Od.PIF_PIF_STATUS p ∧ j ≠ Od.PIF_POSITION p) true s (execCheckPass dt p s) := by
  unfold Machine.execCheckPass
  exact .reply (.step .checkPass (.step .elapse .refl))
theorem ResLeaves.execArmIndexWrite {dt : Nat} {who : Requester} {p : Fin 12} {value : BitVec 8} {s : State} : ResLeaves
    [.od, .tb, .out, .log, .links, .drives, .cells, .legs, .store, .seqs, .axes, .traction, .pifs, .lus, .stageIn,
    .lvCommand, .gbx, .dcl, .aux, .chg, .path, .sessions] (fun j => noReaction j ∧ noAccess j ∧ (∀ x, x < 15 → j ≠
    Od.OBS_ASC_COUNT x) ∧ (∀ x, x < 8 → j ≠ Od.OBS_LOSS_COUNT x) ∧ j ≠ Od.PIF_CNT_STATUS p ∧ j ≠ Od.PIF_ILLEGAL_COUNT
    p ∧ j ≠ Od.PIF_INDEX_ERRORS p ∧ j ≠ Od.PIF_INDEX_POS p ∧ j ≠ Od.PIF_LAST_EDGE_TB p ∧ j ≠ Od.PIF_PIF_STATUS p ∧ j ≠
    Od.PIF_POSITION p) true s (execArmIndexWrite dt who p value s) := by
  unfold Machine.execArmIndexWrite
  exact .reply (.step .writeArmIndex (.step .elapse .refl))
theorem ResLeaves.execPresetWrite {dt : Nat} {who : Requester} {p : Fin 12} {value : BitVec 32} {s : State} : ResLeaves
    [.od, .tb, .out, .log, .links, .drives, .cells, .legs, .store, .seqs, .axes, .traction, .pifs, .lus, .stageIn,
    .lvCommand, .gbx, .dcl, .aux, .chg, .path, .sessions] (fun j => noReaction j ∧ noAccess j ∧ (∀ x, x < 15 → j ≠
    Od.OBS_ASC_COUNT x) ∧ (∀ x, x < 8 → j ≠ Od.OBS_LOSS_COUNT x) ∧ j ≠ Od.PIF_CNT_STATUS p ∧ j ≠ Od.PIF_ILLEGAL_COUNT
    p ∧ j ≠ Od.PIF_INDEX_ERRORS p ∧ j ≠ Od.PIF_INDEX_POS p ∧ j ≠ Od.PIF_LAST_EDGE_TB p ∧ j ≠ Od.PIF_PIF_STATUS p ∧ j ≠
    Od.PIF_POSITION p) true s (execPresetWrite dt who p value s) := by
  unfold Machine.execPresetWrite
  exact .reply (.step .writePreset (.step .elapse .refl))
theorem State.Leaves.ssiValue {s : State} {p : Fin 12} {v : Nat} {bits : Nat} : State.Leaves [.od, .log, .links, .drives,
    .cells, .legs, .store, .seqs, .axes, .traction, .pifs, .lus, .stageIn, .lvCommand, .gbx, .dcl, .aux, .chg, .path]
    (fun j => noReaction j ∧ (∀ x, x < 15 → j ≠ Od.OBS_ASC_COUNT x) ∧ (∀ x, x < 8 → j ≠ Od.OBS_LOSS_COUNT x) ∧ j ≠
    Od.PIF_CNT_STATUS p ∧ j ≠ Od.PIF_ILLEGAL_COUNT p ∧ j ≠ Od.PIF_LAST_EDGE_TB p ∧ j ≠ Od.PIF_PIF_STATUS p ∧ j ≠
    Od.PIF_POSITION p) true s (s.ssiValue p v bits) := by
  unfold State.ssiValue
  exact .ite (.step .illegal (.step .modPif .refl)) (.stepR .advance (.step .modPif (.stepR .setN (.step .modPif
    .refl))))
theorem State.Leaves.ssiError {s : State} {p : Fin 12} : State.Leaves [.od, .log, .links, .drives, .cells, .legs,
    .store, .seqs, .axes, .traction, .pifs, .lus, .stageIn, .lvCommand, .gbx, .dcl, .aux, .chg, .path] (fun j =>
    noReaction j ∧ (∀ x, x < 15 → j ≠ Od.OBS_ASC_COUNT x) ∧ (∀ x, x < 8 → j ≠ Od.OBS_LOSS_COUNT x) ∧ j ≠
    Od.PIF_CNT_STATUS p ∧ j ≠ Od.PIF_PIF_STATUS p ∧ j ≠ Od.PIF_SSI_ERRORS p) true s (s.ssiError p) := by
  unfold State.ssiError
  exact .step .pifError (.step .modPif (.stepR .count .refl))
theorem State.Leaves.ssiFrame {s : State} {p : Fin 12} {idleHigh : Bool} {monoLow : Bool} {frame : Nat} : State.Leaves
    [.od, .log, .links, .drives, .cells, .legs, .store, .seqs, .axes, .traction, .pifs, .lus, .stageIn, .lvCommand,
    .gbx, .dcl, .aux, .chg, .path] (fun j => noReaction j ∧ (∀ x, x < 15 → j ≠ Od.OBS_ASC_COUNT x) ∧ (∀ x, x < 8 → j ≠
    Od.OBS_LOSS_COUNT x) ∧ j ≠ Od.PIF_CNT_STATUS p ∧ j ≠ Od.PIF_ILLEGAL_COUNT p ∧ j ≠ Od.PIF_LAST_EDGE_TB p ∧ j ≠
    Od.PIF_PIF_STATUS p ∧ j ≠ Od.PIF_POSITION p ∧ j ≠ Od.PIF_SSI_ERRORS p) true s (s.ssiFrame p idleHigh monoLow
    frame) := by
  unfold State.ssiFrame
  exact .ite (.step .ssiError (.step .modPif .refl)) (.step .ssiValue (.step .modPif .refl))
theorem ResLeaves.execSsiFrameRead {dt : Nat} {p : Fin 4} {idleHigh : Bool} {monoLow : Bool} {frame : BitVec 32} {s :
    State} : ResLeaves [.od, .tb, .out, .log, .links, .drives, .cells, .legs, .store, .seqs, .axes, .traction, .pifs,
    .lus, .stageIn, .lvCommand, .gbx, .dcl, .aux, .chg, .path] (fun j => noReaction j ∧ (∀ x, x < 15 → j ≠
    Od.OBS_ASC_COUNT x) ∧ (∀ x, x < 8 → j ≠ Od.OBS_LOSS_COUNT x) ∧ (∀ x, x < 12 → j ≠ Od.PIF_CNT_STATUS x) ∧ (∀ x, x <
    12 → j ≠ Od.PIF_ILLEGAL_COUNT x) ∧ (∀ x, x < 12 → j ≠ Od.PIF_LAST_EDGE_TB x) ∧ (∀ x, x < 12 → j ≠
    Od.PIF_PIF_STATUS x) ∧ (∀ x, x < 12 → j ≠ Od.PIF_POSITION x) ∧ (∀ x, x < 12 → j ≠ Od.PIF_SSI_ERRORS x)) true s
    (execSsiFrameRead dt p idleHigh monoLow frame s) := by
  unfold Machine.execSsiFrameRead
  exact .reply (.ite (.step .ssiFrame (.step .elapse .refl)) (.step .elapse .refl))
theorem State.Leaves.wireBitsTo {s : State} {p : Fin 12} {pairs : Nat} : State.Leaves [.od, .pifs] (fun j => j ≠
    Od.PIF_PIF_STATUS p) false s (s.wireBitsTo p pairs) := by
  unfold State.wireBitsTo
  exact .ite .refl (.step .modPif (.step .setField .refl))
theorem State.Leaves.wireChange {s : State} {p : Fin 12} {pairs : Nat} : State.Leaves [.od, .log, .links, .drives,
    .cells, .legs, .store, .seqs, .axes, .traction, .pifs, .lus, .stageIn, .lvCommand, .gbx, .dcl, .aux, .chg, .path]
    (fun j => noReaction j ∧ (∀ x, x < 15 → j ≠ Od.OBS_ASC_COUNT x) ∧ (∀ x, x < 8 → j ≠ Od.OBS_LOSS_COUNT x) ∧ j ≠
    Od.PIF_CNT_STATUS p ∧ j ≠ Od.PIF_ILLEGAL_COUNT p ∧ j ≠ Od.PIF_INDEX_ERRORS p ∧ j ≠ Od.PIF_INDEX_POS p ∧ j ≠
    Od.PIF_LAST_EDGE_TB p ∧ j ≠ Od.PIF_PIF_STATUS p ∧ j ≠ Od.PIF_POSITION p ∧ j ≠ Od.PIF_WIRE_FAULTS p) true s
    (s.wireChange p pairs) := by
  unfold State.wireChange
  exact .ite (.stepR .wireBitsTo (.step .settle .refl)) (.ite (.step .pifFault (.step .speedRestart (.stepR .setBit
    (.stepR .countBy (.stepR .wireBitsTo (.step .settle .refl)))))) (.step .speedRestart (.stepR .setBit (.stepR
    .countBy (.stepR .wireBitsTo (.step .settle .refl))))))
theorem ResLeaves.execWireFault {dt : Nat} {p : Fin 12} {pairs : BitVec 3} {s : State} : ResLeaves [.od, .tb, .out,
    .log, .links, .drives, .cells, .legs, .store, .seqs, .axes, .traction, .pifs, .lus, .stageIn, .lvCommand, .gbx,
    .dcl, .aux, .chg, .path] (fun j => noReaction j ∧ (∀ x, x < 15 → j ≠ Od.OBS_ASC_COUNT x) ∧ (∀ x, x < 8 → j ≠
    Od.OBS_LOSS_COUNT x) ∧ j ≠ Od.PIF_CNT_STATUS p ∧ j ≠ Od.PIF_ILLEGAL_COUNT p ∧ j ≠ Od.PIF_INDEX_ERRORS p ∧ j ≠
    Od.PIF_INDEX_POS p ∧ j ≠ Od.PIF_LAST_EDGE_TB p ∧ j ≠ Od.PIF_PIF_STATUS p ∧ j ≠ Od.PIF_POSITION p ∧ j ≠
    Od.PIF_WIRE_FAULTS p) true s (execWireFault dt p pairs s) := by
  unfold Machine.execWireFault
  exact .reply (.ite (.step .wireChange (.step .elapse .refl)) (.step .elapse .refl))
theorem State.Leaves.edgeFault {s : State} {p : Fin 12} : State.Leaves [.od, .log, .links, .drives, .cells, .legs,
    .store, .seqs, .axes, .traction, .pifs, .lus, .stageIn, .lvCommand, .gbx, .dcl, .aux, .chg, .path] (fun j =>
    noReaction j ∧ (∀ x, x < 15 → j ≠ Od.OBS_ASC_COUNT x) ∧ (∀ x, x < 8 → j ≠ Od.OBS_LOSS_COUNT x) ∧ j ≠
    Od.PIF_CNT_STATUS p ∧ j ≠ Od.PIF_EDGE_FAULTS p ∧ j ≠ Od.PIF_PIF_STATUS p) true s (s.edgeFault p) := by
  unfold State.edgeFault
  exact .step .pifError (.step .modPif (.stepR .count .refl))
theorem State.Leaves.lineChange {s : State} {p : Fin 12} {new : Nat} : State.Leaves [.od, .log, .links, .drives, .cells,
    .legs, .store, .seqs, .axes, .traction, .pifs, .lus, .stageIn, .lvCommand, .gbx, .dcl, .aux, .chg, .path] (fun j
    => noReaction j ∧ (∀ x, x < 15 → j ≠ Od.OBS_ASC_COUNT x) ∧ (∀ x, x < 8 → j ≠ Od.OBS_LOSS_COUNT x) ∧ j ≠
    Od.PIF_CNT_STATUS p ∧ j ≠ Od.PIF_EDGE_FAULTS p ∧ j ≠ Od.PIF_ILLEGAL_COUNT p ∧ j ≠ Od.PIF_INDEX_ERRORS p ∧ j ≠
    Od.PIF_INDEX_POS p ∧ j ≠ Od.PIF_LAST_EDGE_TB p ∧ j ≠ Od.PIF_PIF_STATUS p ∧ j ≠ Od.PIF_POSITION p) true s
    (s.lineChange p new) := by
  unfold State.lineChange
  exact .ite (.step .modPif (.step .modPif (.step .settle .refl))) (.ite (.each (fun _ _ _ => (.step .edgeFault
    .refl)) (.step .modPif (.when (fun _ => (.stepR .wireBitsTo .refl)) (.step .modPif (.step .settle .refl)))))
    (.step .takeLines (.each (fun _ _ _ => (.step .edgeFault .refl)) (.step .modPif (.when (fun _ => (.stepR
    .wireBitsTo .refl)) (.step .modPif (.step .settle .refl)))))))
theorem ResLeaves.execPositionLineChange {dt : Nat} {p : Fin 12} {lines : BitVec 3} {s : State} : ResLeaves [.od, .tb,
    .out, .log, .links, .drives, .cells, .legs, .store, .seqs, .axes, .traction, .pifs, .lus, .stageIn, .lvCommand,
    .gbx, .dcl, .aux, .chg, .path] (fun j => noReaction j ∧ (∀ x, x < 15 → j ≠ Od.OBS_ASC_COUNT x) ∧ (∀ x, x < 8 → j ≠
    Od.OBS_LOSS_COUNT x) ∧ j ≠ Od.PIF_CNT_STATUS p ∧ j ≠ Od.PIF_EDGE_FAULTS p ∧ j ≠ Od.PIF_ILLEGAL_COUNT p ∧ j ≠
    Od.PIF_INDEX_ERRORS p ∧ j ≠ Od.PIF_INDEX_POS p ∧ j ≠ Od.PIF_LAST_EDGE_TB p ∧ j ≠ Od.PIF_PIF_STATUS p ∧ j ≠
    Od.PIF_POSITION p) true s (execPositionLineChange dt p lines s) := by
  unfold Machine.execPositionLineChange
  exact .reply (.ite (.step .lineChange (.step .elapse .refl)) (.step .elapse .refl))
theorem ResLeaves.execIdApply {dt : Nat} {who : Requester} {n : TSet} {s : State} : ResLeaves [.od, .tb, .out, .log,
    .sessions] (fun j => noAccess j ∧ j ≠ Od.AX_LD n ∧ j ≠ Od.AX_LQ n ∧ j ≠ Od.AX_PSI_PM n ∧ j ≠ Od.AX_RS n ∧ j ≠
    Od.OBS_ENC_OFFSET n) false s (execIdApply dt who n s) := by
  unfold Machine.execIdApply
  exact .reply (.step .writeIdApply (.step .elapse .refl))
theorem SomeLeaves.identStore {s : State} {n : Axis} {rs : Rat} {ld : Rat} {lq : Rat} : SomeLeaves [.od, .axes] (fun j => j
    ≠ Od.OBS_ID_ENC_OFFSET n ∧ j ≠ Od.OBS_ID_LD n ∧ j ≠ Od.OBS_ID_LQ n ∧ j ≠ Od.OBS_ID_PSI_PM n ∧ j ≠ Od.OBS_ID_RS n)
    false s (s.identStore n rs ld lq) := by
  unfold State.identStore
  exact by split; exacts [(.ite (.some (.step .modAx (.step .setQ (.step .setQ (.step .setQ .refl))))) .none), (.ite
    (.some (.step .modAx (.step .setQ .refl))) .none), (.ite (.some (.step .modAx (.step .setQ .refl))) .none), .none]
theorem State.Leaves.identComplete {s : State} {n : Axis} {rs : Rat} {ld : Rat} {lq : Rat} : State.Leaves [.od, .log,
    .links, .drives, .cells, .legs, .store, .seqs, .axes, .traction, .lus, .stageIn, .lvCommand, .gbx, .dcl, .aux,
    .chg, .path] (fun j => noReaction j ∧ j ≠ Od.OBS_ID_ENC_OFFSET n ∧ j ≠ Od.OBS_ID_LD n ∧ j ≠ Od.OBS_ID_LQ n ∧ j ≠
    Od.OBS_ID_PSI_PM n ∧ j ≠ Od.OBS_ID_RS n) true s (s.identComplete n rs ld lq) := by
  unfold State.identComplete
  refine .ite ?_ .refl
  split
  · next t ht => exact .stepR .identEnd (.step .event (.stepR .setN (.stepR .setN (.stepR .setBit (.stepR (SomeLeaves.identStore _ ht) .refl)))))
  · exact .refl
theorem ResLeaves.execIdProcedureComplete {dt : Nat} {n : TSet} {r : StaticResult} {s : State} : ResLeaves [.od, .tb,
    .out, .log, .links, .drives, .cells, .legs, .store, .seqs, .axes, .traction, .lus, .stageIn, .lvCommand, .gbx,
    .dcl, .aux, .chg, .path] (fun j => noReaction j ∧ (∀ x, x < 8 → j ≠ Od.OBS_ID_ENC_OFFSET x) ∧ (∀ x, x < 8 → j ≠
    Od.OBS_ID_LD x) ∧ (∀ x, x < 8 → j ≠ Od.OBS_ID_LQ x) ∧ (∀ x, x < 8 → j ≠ Od.OBS_ID_PSI_PM x) ∧ (∀ x, x < 8 → j ≠
    Od.OBS_ID_RS x)) true s (execIdProcedureComplete dt n r s) := by
  unfold Machine.execIdProcedureComplete
  exact .reply (.step .identComplete (.step .elapse .refl))
theorem ResLeaves.execIdAbort {dt : Nat} {who : Requester} {n : TSet} {s : State} : ResLeaves [.od, .tb, .out, .log,
    .links, .drives, .cells, .legs, .store, .seqs, .axes, .traction, .lus, .stageIn, .lvCommand, .gbx, .dcl, .aux,
    .chg, .path, .sessions] (fun j => noReaction j ∧ noAccess j) true s (execIdAbort dt who n s) := by
  unfold Machine.execIdAbort
  exact .reply (.step .writeIdAbort (.step .elapse .refl))
theorem ResLeaves.execIdEncoderOffset {dt : Nat} {who : Requester} {n : TSet} {s : State} : ResLeaves [.od, .tb, .out,
    .log, .drives, .cells, .axes, .sessions] (fun j => noAccess j ∧ j ≠ Od.OBS_ID_CMD n ∧ j ≠ Od.OBS_ID_STATUS n ∧ j ≠
    Od.OBS_OBS_STATUS n) false s (execIdEncoderOffset dt who n s) := by
  unfold Machine.execIdEncoderOffset
  exact .reply (.step .writeIdCmd (.step .elapse .refl))
theorem ResLeaves.execIdRotating {dt : Nat} {who : Requester} {n : TSet} {s : State} : ResLeaves [.od, .tb, .out, .log,
    .drives, .cells, .axes, .sessions] (fun j => noAccess j ∧ j ≠ Od.OBS_ID_CMD n ∧ j ≠ Od.OBS_ID_STATUS n ∧ j ≠
    Od.OBS_OBS_STATUS n) false s (execIdRotating dt who n s) := by
  unfold Machine.execIdRotating
  exact .reply (.step .writeIdCmd (.step .elapse .refl))
theorem ResLeaves.execIdStatic {dt : Nat} {who : Requester} {n : TSet} {s : State} : ResLeaves [.od, .tb, .out, .log,
    .drives, .cells, .axes, .sessions] (fun j => noAccess j ∧ j ≠ Od.OBS_ID_CMD n ∧ j ≠ Od.OBS_ID_STATUS n ∧ j ≠
    Od.OBS_OBS_STATUS n) false s (execIdStatic dt who n s) := by
  unfold Machine.execIdStatic
  exact .reply (.step .writeIdCmd (.step .elapse .refl))
theorem State.Leaves.secondSetLost {s : State} {t : Fin 2} {n : Axis} : State.Leaves [.od, .log, .links, .drives,
    .cells, .legs, .store, .seqs, .axes, .traction, .lus, .stageIn, .lvCommand, .gbx, .dcl, .aux, .chg, .path] (fun j
    => noReaction j ∧ (∀ x, x < 15 → j ≠ Od.OBS_ASC_COUNT x)) true s (s.secondSetLost t n) := by
  unfold State.secondSetLost
  exact .step .raise .refl
theorem State.Leaves.clearOpen {s : State} {n : Axis} : State.Leaves [.od, .axes] (fun j => j ≠ Od.OBS_OPEN_ACC_us n)
    false s (s.clearOpen n) := by
  unfold State.clearOpen
  exact .step .setN (.step .modAx .refl)
theorem State.Leaves.clearFaultTimers {s : State} {n : Axis} : State.Leaves [.od, .axes] (fun j => j ≠
    Od.OBS_OPEN_ACC_us n) false s (s.clearFaultTimers n) := by
  unfold State.clearFaultTimers
  exact .step .modAx (.step .clearOpen .refl)
theorem State.Leaves.shuntFailed {s : State} {n : Axis} {phase : Nat} : State.Leaves [.od, .log, .links, .drives,
    .cells, .legs, .store, .seqs, .axes, .traction, .lus, .stageIn, .lvCommand, .gbx, .dcl, .aux, .chg, .path] (fun j
    => noReaction j ∧ (∀ x, x < 15 → j ≠ Od.OBS_ASC_COUNT x) ∧ j ≠ Od.OBS_OPEN_ACC_us n ∧ j ≠ Od.OBS_SHUNT_FAILED n)
    true s (s.shuntFailed n phase) := by
  unfold State.shuntFailed
  exact .ite (.step .actuatorFault (.stepR .setN (.stepR .clearFaultTimers .refl))) (.ite (.step .secondSetLost
    (.stepR .clearFaultTimers .refl)) (.step .lastEvent (.step .event (.stepR .setN (.stepR .clearFaultTimers
    .refl)))))
theorem ResLeaves.execShuntSaturationFail {dt : Nat} {n : Axis} {phase : Fin 3} {s : State} : ResLeaves [.od, .tb, .out,
    .log, .links, .drives, .cells, .legs, .store, .seqs, .axes, .traction, .lus, .stageIn, .lvCommand, .gbx, .dcl,
    .aux, .chg, .path] (fun j => noReaction j ∧ (∀ x, x < 15 → j ≠ Od.OBS_ASC_COUNT x) ∧ j ≠ Od.OBS_OPEN_ACC_us n ∧ j
    ≠ Od.OBS_SHUNT_FAILED n) true s (execShuntSaturationFail dt n phase s) := by
  unfold Machine.execShuntSaturationFail
  exact .reply (.ite (.step .shuntFailed (.step .elapse .refl)) (.step .elapse .refl))
theorem State.Leaves.crossfeed {s : State} {t : Fin 2} : State.Leaves [.od, .log, .traction] (fun j => j ≠
    Od.AXLE_AXLE_CNT_STATUS ∧ j ≠ Od.AXLE_AXLE_STATUS ∧ j ≠ Od.AXLE_CROSSFEEDS ∧ j ≠ Od.AXLE_SHORTFALL ∧ j ≠
    Od.CNT_CNT_OVF_MAP) false s (s.crossfeed t) := by
  unfold State.crossfeed
  exact .ite (.ite (.step .count (.step .setBit (.step .modTr .refl))) .refl) (.step .setShortfall .refl)
theorem State.Leaves.loseSet {s : State} {n : Axis} {code : Nat} {detail : Nat} : State.Leaves [.od, .log, .links,
    .drives, .cells, .legs, .store, .seqs, .axes, .traction, .lus, .stageIn, .lvCommand, .gbx, .dcl, .aux, .chg,
    .path] (fun j => noReaction j ∧ j ≠ Od.AXLE_AXLE_CNT_STATUS ∧ j ≠ Od.AXLE_AXLE_STATUS ∧ j ≠ Od.AXLE_CROSSFEEDS ∧ j
    ≠ Od.AXLE_SHORTFALL ∧ (∀ x, x < 15 → j ≠ Od.OBS_ASC_COUNT x) ∧ j ≠ Od.OBS_OPEN_ACC_us n) true s (s.loseSet n code
    detail) := by
  unfold State.loseSet
  exact .ite (.step .actuatorFault (.stepR .clearFaultTimers .refl)) (.ite (.step .secondSetLost (.stepR
    .clearFaultTimers .refl)) (.stepR .crossfeed (.each (fun _ _ _ => (.step .modAx .refl)) (.step .modDrv (.step
    .lastEvent (.stepR .setQ (.stepR .protectCell (.step .modAx (.stepR .setBit (.step .event (.stepR .setBit (.stepR
    .clearFaultTimers .refl))))))))))))
theorem State.Leaves.attribution {s : State} {n : Axis} {phase : Option (Fin 3)} : State.Leaves [.od, .log, .links,
    .drives, .cells, .legs, .store, .seqs, .axes, .traction, .lus, .stageIn, .lvCommand, .gbx, .dcl, .aux, .chg,
    .path] (fun j => noReaction j ∧ j ≠ Od.AXLE_AXLE_CNT_STATUS ∧ j ≠ Od.AXLE_AXLE_STATUS ∧ j ≠ Od.AXLE_CROSSFEEDS ∧ j
    ≠ Od.AXLE_SHORTFALL ∧ (∀ x, x < 15 → j ≠ Od.OBS_ASC_COUNT x) ∧ j ≠ Od.OBS_OPEN_ACC_us n ∧ j ≠ Od.OBS_SHUNT_FAILED
    n) true s (s.attribution n phase) := by
  unfold State.attribution
  exact .ite .refl (by split; exacts [(.ite (.step .shuntFailed .refl) .refl), (.ite (.step .loseSet .refl) .refl)])
theorem ResLeaves.execShuntAttributionFail {dt : Nat} {n : Axis} {phase : Option (Fin 3)} {s : State} : ResLeaves [.od,
    .tb, .out, .log, .links, .drives, .cells, .legs, .store, .seqs, .axes, .traction, .lus, .stageIn, .lvCommand,
    .gbx, .dcl, .aux, .chg, .path] (fun j => noReaction j ∧ j ≠ Od.AXLE_AXLE_CNT_STATUS ∧ j ≠ Od.AXLE_AXLE_STATUS ∧ j
    ≠ Od.AXLE_CROSSFEEDS ∧ j ≠ Od.AXLE_SHORTFALL ∧ (∀ x, x < 15 → j ≠ Od.OBS_ASC_COUNT x) ∧ j ≠ Od.OBS_OPEN_ACC_us n ∧
    j ≠ Od.OBS_SHUNT_FAILED n) true s (execShuntAttributionFail dt n phase s) := by
  unfold Machine.execShuntAttributionFail
  exact .reply (.step .attribution (.step .elapse .refl))
theorem State.Leaves.declareOpen {s : State} {n : Axis} {phase : Nat} : State.Leaves [.od, .log, .links, .drives,
    .cells, .legs, .store, .seqs, .axes, .traction, .lus, .stageIn, .lvCommand, .gbx, .dcl, .aux, .chg, .path] (fun j
    => noReaction j ∧ j ≠ Od.AXLE_AXLE_CNT_STATUS ∧ j ≠ Od.AXLE_AXLE_STATUS ∧ j ≠ Od.AXLE_CROSSFEEDS ∧ j ≠
    Od.AXLE_SHORTFALL ∧ (∀ x, x < 15 → j ≠ Od.OBS_ASC_COUNT x) ∧ j ≠ Od.OBS_OPEN_ACC_us n) true s (s.declareOpen n
    phase) := by
  unfold State.declareOpen
  exact .step .loseSet (.when (fun _ => (.stepR .setField (.stepR .setBit .refl))) .refl)
theorem State.Leaves.resolveOpen {s : State} {n : Axis} {phase : Fin 3} {kcl : Rat} : State.Leaves [.od, .log, .links,
    .drives, .cells, .legs, .store, .seqs, .axes, .traction, .lus, .stageIn, .lvCommand, .gbx, .dcl, .aux, .chg,
    .path] (fun j => noReaction j ∧ j ≠ Od.AXLE_AXLE_CNT_STATUS ∧ j ≠ Od.AXLE_AXLE_STATUS ∧ j ≠ Od.AXLE_CROSSFEEDS ∧ j
    ≠ Od.AXLE_SHORTFALL ∧ (∀ x, x < 15 → j ≠ Od.OBS_ASC_COUNT x) ∧ j ≠ Od.OBS_OPEN_ACC_us n ∧ j ≠ Od.OBS_SHUNT_FAILED
    n) true s (s.resolveOpen n phase kcl) := by
  unfold State.resolveOpen
  exact .ite .refl (.ite (.stepR .clearOpen .refl) (.ite .refl (.ite (.step .declareOpen .refl) (.step .shuntFailed
    .refl))))
theorem ResLeaves.execPhaseOpenDeclared {dt : Nat} {n : Axis} {phase : Fin 3} {kcl : Rat} {s : State} : ResLeaves [.od,
    .tb, .out, .log, .links, .drives, .cells, .legs, .store, .seqs, .axes, .traction, .lus, .stageIn, .lvCommand,
    .gbx, .dcl, .aux, .chg, .path] (fun j => noReaction j ∧ j ≠ Od.AXLE_AXLE_CNT_STATUS ∧ j ≠ Od.AXLE_AXLE_STATUS ∧ j
    ≠ Od.AXLE_CROSSFEEDS ∧ j ≠ Od.AXLE_SHORTFALL ∧ (∀ x, x < 15 → j ≠ Od.OBS_ASC_COUNT x) ∧ j ≠ Od.OBS_OPEN_ACC_us n ∧
    j ≠ Od.OBS_SHUNT_FAILED n) true s (execPhaseOpenDeclared dt n phase kcl s) := by
  unfold Machine.execPhaseOpenDeclared
  exact .reply (.step .resolveOpen (.step .elapse .refl))
theorem ResLeaves.execRecoveryTimeout {dt : Nat} {n : TSet} {s : State} : ResLeaves [.od, .tb, .out, .log, .links,
    .drives, .cells, .legs, .store, .seqs, .axes, .traction, .lus, .stageIn, .lvCommand, .gbx, .dcl, .aux, .chg,
    .path] (fun j => noReaction j ∧ (∀ x, x < 15 → j ≠ Od.OBS_ASC_COUNT x) ∧ (∀ x, x < 8 → j ≠ Od.OBS_LOSS_COUNT x))
    true s (execRecoveryTimeout dt n s) := by
  unfold Machine.execRecoveryTimeout
  exact .reply (by split; exacts [(.ite (.step .declareLoss (.step .elapse .refl)) (.step .elapse .refl)), (.step
    .elapse .refl)])
theorem State.Leaves.recovered {s : State} {n : Axis} : State.Leaves [.od, .log, .drives, .cells, .axes] (fun j => j ≠
    Od.AX_AXIS_STATUS n ∧ j ≠ Od.AX_BEMF_LL_PK n ∧ j ≠ Od.AX_I_ALPHA n ∧ j ≠ Od.AX_I_BETA n ∧ j ≠ Od.AX_PSI_ALPHA n ∧
    j ≠ Od.AX_PSI_BETA n ∧ j ≠ Od.AX_SPEED_EL n ∧ j ≠ Od.AX_TQ_REF n ∧ j ≠ Od.CNT_CNT_OVF_MAP ∧ (∀ x, x < 15 → j ≠
    Od.OBS_ASC_TIME_ms x) ∧ j ≠ Od.OBS_CATCH_COUNT n ∧ j ≠ Od.OBS_CATCH_TIME_us n ∧ j ≠ Od.OBS_OBS_ANGLE n ∧ (∀ x, x <
    15 → j ≠ Od.OBS_OBS_CNT_STATUS x) ∧ j ≠ Od.OBS_OBS_SPEED n ∧ j ≠ Od.OBS_OBS_STATUS n ∧ j ≠ Od.OBS_OPEN_ACC_us n ∧
    (∀ x, x < 2 → j ≠ Od.TR_SPEED x)) false s (s.recovered n) := by
  unfold State.recovered
  exact by split; exacts [(.step .modDrv (.step .event (.step .setN (.step .setBit (.step .modAx (.step .engage
    .refl)))))), .refl]
theorem ResLeaves.execRecoveryAngleFound {dt : Nat} {n : TSet} {s : State} : ResLeaves [.od, .tb, .out, .log, .drives,
    .cells, .axes] (fun j => (∀ x, x < 8 → j ≠ Od.AX_AXIS_STATUS x) ∧ (∀ x, x < 8 → j ≠ Od.AX_BEMF_LL_PK x) ∧ (∀ x, x
    < 8 → j ≠ Od.AX_I_ALPHA x) ∧ (∀ x, x < 8 → j ≠ Od.AX_I_BETA x) ∧ (∀ x, x < 8 → j ≠ Od.AX_PSI_ALPHA x) ∧ (∀ x, x <
    8 → j ≠ Od.AX_PSI_BETA x) ∧ (∀ x, x < 8 → j ≠ Od.AX_SPEED_EL x) ∧ (∀ x, x < 8 → j ≠ Od.AX_TQ_REF x) ∧ j ≠
    Od.CNT_CNT_OVF_MAP ∧ (∀ x, x < 15 → j ≠ Od.OBS_ASC_TIME_ms x) ∧ (∀ x, x < 8 → j ≠ Od.OBS_CATCH_COUNT x) ∧ (∀ x, x
    < 8 → j ≠ Od.OBS_CATCH_TIME_us x) ∧ (∀ x, x < 8 → j ≠ Od.OBS_OBS_ANGLE x) ∧ (∀ x, x < 15 → j ≠
    Od.OBS_OBS_CNT_STATUS x) ∧ (∀ x, x < 8 → j ≠ Od.OBS_OBS_SPEED x) ∧ (∀ x, x < 8 → j ≠ Od.OBS_OBS_STATUS x) ∧ (∀ x,
    x < 8 → j ≠ Od.OBS_OPEN_ACC_us x) ∧ (∀ x, x < 2 → j ≠ Od.TR_SPEED x)) false s (execRecoveryAngleFound dt n s) :=
    by
  unfold Machine.execRecoveryAngleFound
  exact .reply (.step .recovered (.step .elapse .refl))
theorem State.Leaves.ascExit {s : State} {n : Axis} {bemf : Rat} : State.Leaves [.od, .log, .links, .drives, .cells,
    .legs, .store, .seqs, .axes, .traction, .lus, .stageIn, .lvCommand, .gbx, .dcl, .aux, .chg, .path] (fun j =>
    noReaction j) true s (s.ascExit n bemf) := by
  unfold State.ascExit
  exact .ite (.step .stoppedIfCoasting (.step .event (.ite (.stepR .offCell .refl) (.stepR .coastCell .refl)))) .refl
theorem ResLeaves.execAscExit {dt : Nat} {n : TSet} {bemf : Rat} {s : State} : ResLeaves [.od, .tb, .out, .log, .links,
    .drives, .cells, .legs, .store, .seqs, .axes, .traction, .lus, .stageIn, .lvCommand, .gbx, .dcl, .aux, .chg,
    .path] (fun j => noReaction j) true s (execAscExit dt n bemf s) := by
  unfold Machine.execAscExit
  exact .reply (.step .ascExit (.step .elapse .refl))
theorem ResLeaves.execObserverLoss {dt : Nat} {n : Axis} {s : State} : ResLeaves [.od, .tb, .out, .log, .links, .drives,
    .cells, .legs, .store, .seqs, .axes, .traction, .lus, .stageIn, .lvCommand, .gbx, .dcl, .aux, .chg, .path] (fun j
    => noReaction j ∧ (∀ x, x < 15 → j ≠ Od.OBS_ASC_COUNT x) ∧ j ≠ Od.OBS_LOSS_COUNT n) true s (execObserverLoss dt n
    s) := by
  unfold Machine.execObserverLoss
  exact .reply (.ite (.step .declareLoss (.step .elapse .refl)) (.step .elapse .refl))
theorem State.Leaves.forceVector {s : State} {n : Axis} {v : Nat} : State.Leaves [.od, .legs] (fun j => j ≠
    Od.AX_AXIS_STATUS n ∧ (∀ x y, x < 15 → y < 4 → j ≠ Od.CELL_LEG_SWITCHES x y) ∧ (∀ x, x < 50 → j ≠ Od.SH_CH_STATUS
    x)) false s (s.forceVector n v) := by
  unfold State.forceVector
  exact .step .setField (.each (fun _ _ _ => (.step .setLeg (.when (fun _ => (.step .countWide .refl)) .refl))) .refl)
theorem State.Leaves.assistStart {s : State} {n : Axis} {e : Axis × Nat} : State.Leaves [.od, .legs, .axes] (fun j => (∀
    x, x < 8 → j ≠ Od.AX_AXIS_STATUS x) ∧ (∀ x y, x < 15 → y < 4 → j ≠ Od.CELL_LEG_SWITCHES x y) ∧ (∀ x, x < 50 → j ≠
    Od.SH_CH_STATUS x)) false s (s.assistStart n e) := by
  unfold State.assistStart
  exact .ite (.step .forceVector (.step .modAx .refl)) .refl
theorem ResLeaves.execProbeAssistPeriod {dt : Nat} {n : TSet} {m : Axis} {v : Nat} {s : State} : ResLeaves [.od, .tb,
    .out, .log, .legs, .axes] (fun j => (∀ x, x < 8 → j ≠ Od.AX_AXIS_STATUS x) ∧ (∀ x y, x < 15 → y < 4 → j ≠
    Od.CELL_LEG_SWITCHES x y) ∧ (∀ x, x < 50 → j ≠ Od.SH_CH_STATUS x)) false s (execProbeAssistPeriod dt n m v s) :=
    by
  unfold Machine.execProbeAssistPeriod
  exact .reply (.step .assistStart (.step .elapse .refl))
theorem State.Leaves.identProbed {s : State} {t : Fin 2} {n : Axis} : State.Leaves [.od, .fresh, .axes, .traction]
    (fun j => j ≠ Od.CNT_CNT_OVF_MAP ∧ (∀ x, x < 15 → j ≠ Od.OBS_OBS_CNT_STATUS x) ∧ (∀ x, x < 8 → j ≠
    Od.OBS_OBS_STATUS x) ∧ (∀ x, x < 8 → j ≠ Od.OBS_PROBE_COUNT x)) false s (s.identProbed t n) := by
  unfold State.identProbed
  exact by split; exacts [(.step .modAx .refl), (.ite (.step .modAx (.step .modAx (.when (fun _ => (.step .draw
    .refl)) .refl))) (.step .startProbe (.step .modAx (.when (fun _ => (.step .draw .refl)) .refl)))), .refl]
theorem State.Leaves.probeRecovered {s : State} {sets : List Axis} {a : Rat} : State.Leaves [.axes] (fun _ => True)
    false s (s.probeRecovered sets a) := by
  unfold State.probeRecovered
  exact .each (fun _ _ _ => (.step .modAx .refl)) .refl
theorem State.Leaves.rejoinSets {s : State} {t : Fin 2} {p : ProbeSt} : State.Leaves [.od] (fun j => (∀ x, x < 8 → j ≠
    Od.OBS_OBS_STATUS x)) false s (s.rejoinSets t p) := by
  unfold State.rejoinSets
  exact .each (fun _ _ _ => (.ite (.step .setBit (.step .setBit .refl)) .refl)) .refl
theorem State.Leaves.probeFailed {s : State} {t : Fin 2} {n : Axis} : State.Leaves [.od, .log, .links, .drives,
    .cells, .legs, .store, .seqs, .axes, .traction, .lus, .stageIn, .lvCommand, .gbx, .dcl, .aux, .chg, .path] (fun j
    => noReaction j ∧ (∀ x, x < 15 → j ≠ Od.OBS_ASC_COUNT x)) true s (s.probeFailed t n) := by
  unfold State.probeFailed
  exact .step .raise .refl
theorem State.Leaves.probeOpen {s : State} {l : List ((Axis × Nat) × ProbePulse)} : State.Leaves [.od, .log, .links,
    .drives, .cells, .legs, .store, .seqs, .axes, .traction, .lus, .stageIn, .lvCommand, .gbx, .dcl, .aux, .chg,
    .path] (fun j => noReaction j ∧ j ≠ Od.AXLE_AXLE_CNT_STATUS ∧ j ≠ Od.AXLE_AXLE_STATUS ∧ j ≠ Od.AXLE_CROSSFEEDS ∧ j
    ≠ Od.AXLE_SHORTFALL ∧ (∀ x, x < 15 → j ≠ Od.OBS_ASC_COUNT x) ∧ (∀ x, x < 8 → j ≠ Od.OBS_OPEN_ACC_us x)) true s
    (s.probeOpen l) := by
  unfold State.probeOpen
  exact by split; exacts [(.step .declareOpen .refl), .refl]
theorem State.Leaves.probeDone {s : State} {t : Fin 2} {p : ProbeSt} : State.Leaves [.od, .fresh, .log, .links,
    .drives, .cells, .legs, .store, .seqs, .axes, .traction, .lus, .stageIn, .lvCommand, .gbx, .dcl, .aux, .chg,
    .path] (fun j => noReaction j ∧ j ≠ Od.AXLE_AXLE_CNT_STATUS ∧ j ≠ Od.AXLE_AXLE_STATUS ∧ j ≠ Od.AXLE_CROSSFEEDS ∧ j
    ≠ Od.AXLE_SHORTFALL ∧ (∀ x, x < 8 → j ≠ Od.AX_BEMF_LL_PK x) ∧ (∀ x, x < 8 → j ≠ Od.AX_SPEED_EL x) ∧ (∀ x, x < 15 →
    j ≠ Od.OBS_ASC_COUNT x) ∧ (∀ x, x < 8 → j ≠ Od.OBS_CATCH_COUNT x) ∧ (∀ x, x < 8 → j ≠ Od.OBS_OBS_ANGLE x) ∧ (∀ x,
    x < 8 → j ≠ Od.OBS_OBS_SPEED x) ∧ (∀ x, x < 8 → j ≠ Od.OBS_OPEN_ACC_us x) ∧ (∀ x, x < 8 → j ≠ Od.OBS_PROBE_ANGLE
    x) ∧ (∀ x, x < 8 → j ≠ Od.OBS_PROBE_CONF x) ∧ (∀ x, x < 8 → j ≠ Od.OBS_PROBE_COUNT x) ∧ (∀ x, x < 2 → j ≠
    Od.TR_SPEED x)) true s (s.probeDone t p) := by
  unfold State.probeDone
  exact .ite (.step .probeOpen (.step .probeFailed (.stepR .endProbe .refl))) (.ite (.step .probeFailed (.each (fun _
    _ _ => (.stepR .setQ (.stepR .setQ .refl))) (.stepR .endProbe .refl))) (by split; exacts [(.stepR .engageAll
    (.stepR .rejoinSets (.each (fun _ _ _ => (.stepR .setQ (.stepR .setQ .refl))) (.stepR .endProbe .refl)))), (.step
    .probeRecovered (.each (fun _ _ _ => (.stepR .setQ (.stepR .setQ .refl))) (.stepR .endProbe .refl))), (.each (fun
    _ _ _ => (.stepR .identProbed .refl)) (.each (fun _ _ _ => (.stepR .setQ (.stepR .setQ .refl))) (.stepR .endProbe
    .refl)))]))
theorem State.Leaves.sedgeComplete {s : State} {t : Fin 2} {rises : List (Option Nat)} : State.Leaves [.od, .fresh,
    .log, .links, .drives, .cells, .legs, .store, .seqs, .axes, .traction, .lus, .stageIn, .lvCommand, .gbx, .dcl,
    .aux, .chg, .path] (fun j => noReaction j ∧ j ≠ Od.AXLE_AXLE_CNT_STATUS ∧ j ≠ Od.AXLE_AXLE_STATUS ∧ j ≠
    Od.AXLE_CROSSFEEDS ∧ j ≠ Od.AXLE_SHORTFALL ∧ (∀ x, x < 8 → j ≠ Od.AX_BEMF_LL_PK x) ∧ (∀ x, x < 8 → j ≠
    Od.AX_SPEED_EL x) ∧ (∀ x, x < 15 → j ≠ Od.OBS_ASC_COUNT x) ∧ (∀ x, x < 8 → j ≠ Od.OBS_CATCH_COUNT x) ∧ (∀ x, x < 8
    → j ≠ Od.OBS_OBS_ANGLE x) ∧ (∀ x, x < 8 → j ≠ Od.OBS_OBS_SPEED x) ∧ (∀ x, x < 8 → j ≠ Od.OBS_OPEN_ACC_us x) ∧ (∀
    x, x < 8 → j ≠ Od.OBS_PROBE_ANGLE x) ∧ (∀ x, x < 8 → j ≠ Od.OBS_PROBE_CONF x) ∧ (∀ x, x < 8 → j ≠
    Od.OBS_PROBE_COUNT x) ∧ (∀ x, x < 2 → j ≠ Od.TR_SPEED x)) true s (s.sedgeComplete t rises) := by
  unfold State.sedgeComplete
  exact by split; exacts [(.ite (.step .probeDone .refl) .refl), .refl]
theorem ResLeaves.execSedgeProbeComplete {dt : Nat} {t : Fin 2} {rises : List (Option Nat)} {s : State} : ResLeaves [.od,
    .tb, .fresh, .out, .log, .links, .drives, .cells, .legs, .store, .seqs, .axes, .traction, .lus, .stageIn,
    .lvCommand, .gbx, .dcl, .aux, .chg, .path] (fun j => noReaction j ∧ j ≠ Od.AXLE_AXLE_CNT_STATUS ∧ j ≠
    Od.AXLE_AXLE_STATUS ∧ j ≠ Od.AXLE_CROSSFEEDS ∧ j ≠ Od.AXLE_SHORTFALL ∧ (∀ x, x < 8 → j ≠ Od.AX_BEMF_LL_PK x) ∧ (∀
    x, x < 8 → j ≠ Od.AX_SPEED_EL x) ∧ (∀ x, x < 15 → j ≠ Od.OBS_ASC_COUNT x) ∧ (∀ x, x < 8 → j ≠ Od.OBS_CATCH_COUNT
    x) ∧ (∀ x, x < 8 → j ≠ Od.OBS_OBS_ANGLE x) ∧ (∀ x, x < 8 → j ≠ Od.OBS_OBS_SPEED x) ∧ (∀ x, x < 8 → j ≠
    Od.OBS_OPEN_ACC_us x) ∧ (∀ x, x < 8 → j ≠ Od.OBS_PROBE_ANGLE x) ∧ (∀ x, x < 8 → j ≠ Od.OBS_PROBE_CONF x) ∧ (∀ x, x
    < 8 → j ≠ Od.OBS_PROBE_COUNT x) ∧ (∀ x, x < 2 → j ≠ Od.TR_SPEED x)) true s (execSedgeProbeComplete dt t rises s)
    := by
  unfold Machine.execSedgeProbeComplete
  exact .reply (.step .sedgeComplete (.step .elapse .refl))
theorem State.Leaves.trackingValid {s : State} {n : Axis} : State.Leaves [.od] (fun j => j ≠ Od.AX_BEMF_LL_PK n ∧ j ≠
    Od.AX_SPEED_EL n ∧ j ≠ Od.OBS_OBS_ANGLE n ∧ j ≠ Od.OBS_OBS_SPEED n ∧ j ≠ Od.OBS_OBS_STATUS n ∧ (∀ x, x < 2 → j ≠
    Od.TR_SPEED x)) false s (s.trackingValid n) := by
  unfold State.trackingValid
  exact by dsimp only; split; exacts [(.ite (by split; exacts [(.step .setSpeed (.step .setQ (.step .setBit (.step .setBit
    .refl)))), (.step .setBit (.step .setBit .refl))]) .refl), .refl]
theorem ResLeaves.execTrackingValid {dt : Nat} {n : TSet} {s : State} : ResLeaves [.od, .tb, .out, .log] (fun j => (∀ x,
    x < 8 → j ≠ Od.AX_BEMF_LL_PK x) ∧ (∀ x, x < 8 → j ≠ Od.AX_SPEED_EL x) ∧ (∀ x, x < 8 → j ≠ Od.OBS_OBS_ANGLE x) ∧ (∀
    x, x < 8 → j ≠ Od.OBS_OBS_SPEED x) ∧ (∀ x, x < 8 → j ≠ Od.OBS_OBS_STATUS x) ∧ (∀ x, x < 2 → j ≠ Od.TR_SPEED x))
    false s (execTrackingValid dt n s) := by
  unfold Machine.execTrackingValid
  exact .reply (.step .trackingValid (.step .elapse .refl))
theorem State.Leaves.crossSet {s : State} {t : Fin 2} : State.Leaves [.od, .log, .links, .drives, .cells, .legs,
    .store, .seqs, .axes, .traction, .lus, .stageIn, .lvCommand, .gbx, .dcl, .aux, .chg, .path] (fun j => noReaction j
    ∧ (∀ x, x < 15 → j ≠ Od.OBS_ASC_COUNT x) ∧ (∀ x, x < 8 → j ≠ Od.OBS_LOSS_COUNT x)) true s (s.crossSet t) := by
  unfold State.crossSet
  exact .ite (.step .declareLoss (.step .declareLoss (.step .modTr (.step .event .refl)))) (.step .declareLoss (.step
    .modTr (.step .event .refl)))
theorem ResLeaves.execCrossSetDisagreement {dt : Nat} {t : Fin 2} {s : State} : ResLeaves [.od, .tb, .out, .log, .links,
    .drives, .cells, .legs, .store, .seqs, .axes, .traction, .lus, .stageIn, .lvCommand, .gbx, .dcl, .aux, .chg,
    .path] (fun j => noReaction j ∧ (∀ x, x < 15 → j ≠ Od.OBS_ASC_COUNT x) ∧ (∀ x, x < 8 → j ≠ Od.OBS_LOSS_COUNT x))
    true s (execCrossSetDisagreement dt t s) := by
  unfold Machine.execCrossSetDisagreement
  exact .reply (.ite (.step .crossSet (.step .elapse .refl)) (.step .elapse .refl))
theorem State.Leaves.armHold {s : State} {d : Drive} : State.Leaves [.od, .log, .links, .drives, .cells, .legs,
    .store, .seqs, .axes, .traction, .lus, .stageIn, .lvCommand, .gbx, .dcl, .aux, .chg, .path] (fun j => noReaction
    j) true s (s.armHold d) := by
  unfold State.armHold
  exact by split; exacts [(.ite (.step .lastEvent (.step .event (.step .goto .refl))) .refl), .refl]
theorem ResLeaves.execArmHoldExpiry {dt : Nat} {d : Drive} {s : State} : ResLeaves [.od, .tb, .out, .log, .links,
    .drives, .cells, .legs, .store, .seqs, .axes, .traction, .lus, .stageIn, .lvCommand, .gbx, .dcl, .aux, .chg,
    .path] (fun j => noReaction j) true s (execArmHoldExpiry dt d s) := by
  unfold Machine.execArmHoldExpiry
  exact .reply (.step .armHold (.step .elapse .refl))
theorem State.Leaves.stopSetCoast {s : State} {n : Axis} : State.Leaves [.od, .log, .links, .drives, .cells, .legs,
    .store, .seqs, .axes, .traction, .lus, .stageIn, .lvCommand, .gbx, .dcl, .aux, .chg, .path] (fun j => noReaction
    j) true s (s.stopSetCoast n) := by
  unfold State.stopSetCoast
  exact .ite (.step .stoppedIfCoasting (.stepR .coastCell .refl)) .refl
theorem ResLeaves.execStopSetCoast {dt : Nat} {n : TSet} {s : State} : ResLeaves [.od, .tb, .out, .log, .links, .drives,
    .cells, .legs, .store, .seqs, .axes, .traction, .lus, .stageIn, .lvCommand, .gbx, .dcl, .aux, .chg, .path] (fun j
    => noReaction j) true s (execStopSetCoast dt n s) := by
  unfold Machine.execStopSetCoast
  exact .reply (.step .stopSetCoast (.step .elapse .refl))
theorem ResLeaves.execDriveAck {dt : Nat} {who : Requester} {d : Drive} {s : State} : ResLeaves [.od, .tb, .out, .log,
    .links, .drives, .cells, .legs, .store, .seqs, .axes, .traction, .lus, .stageIn, .lvCommand, .gbx, .dcl, .aux,
    .chg, .path, .thermal, .sessions] (fun j => noReaction j ∧ noAccess j ∧ (∀ x, x < 8 → j ≠ Od.AX_BEMF_LL_PK x) ∧ (∀
    x, x < 8 → j ≠ Od.AX_SPEED_EL x) ∧ (∀ x, x < 15 → j ≠ Od.CELL_CELL_ACK_COUNT x) ∧ (∀ x, x < 15 → j ≠
    Od.CELL_CELL_STATUS x) ∧ j ≠ Od.CHR_CHG_CNT_STATUS ∧ j ≠ Od.CHR_RELAY_OPS_MAIN ∧ j ≠ Od.CNV_AUX_CNT_STATUS ∧ j ≠
    Od.CNV_TOW_ENTRIES ∧ j ≠ Od.HV_HV_TIMER_min ∧ (∀ x, x < 8 → j ≠ Od.OBS_CATCH_COUNT x) ∧ (∀ x, x < 8 → j ≠
    Od.OBS_OBS_ANGLE x) ∧ (∀ x, x < 8 → j ≠ Od.OBS_OBS_SPEED x) ∧ (∀ x, x < 8 → j ≠ Od.OBS_OPEN_ACC_us x) ∧ (∀ x, x <
    8 → j ≠ Od.OBS_PROBE_COUNT x) ∧ (∀ x, x < 64 → j ≠ Od.SEN_SENSOR_STATUS x) ∧ j ≠ Od.THM_BROKEN_NOW ∧ j ≠
    Od.THM_TH_STATUS ∧ (∀ x, x < 2 → j ≠ Od.TR_SPEED x)) true s (execDriveAck dt who d s) := by
  unfold Machine.execDriveAck
  exact .reply (.step .writeControl (.step .elapse .refl))
theorem ResLeaves.execDriveDisarm {dt : Nat} {who : Requester} {d : Drive} {s : State} : ResLeaves [.od, .tb, .out,
    .log, .links, .drives, .cells, .legs, .store, .seqs, .axes, .traction, .lus, .stageIn, .lvCommand, .gbx, .dcl,
    .aux, .chg, .path, .thermal, .sessions] (fun j => noReaction j ∧ noAccess j ∧ (∀ x, x < 8 → j ≠ Od.AX_BEMF_LL_PK
    x) ∧ (∀ x, x < 8 → j ≠ Od.AX_SPEED_EL x) ∧ (∀ x, x < 15 → j ≠ Od.CELL_CELL_ACK_COUNT x) ∧ (∀ x, x < 15 → j ≠
    Od.CELL_CELL_STATUS x) ∧ j ≠ Od.CHR_CHG_CNT_STATUS ∧ j ≠ Od.CHR_RELAY_OPS_MAIN ∧ j ≠ Od.CNV_AUX_CNT_STATUS ∧ j ≠
    Od.CNV_TOW_ENTRIES ∧ j ≠ Od.HV_HV_TIMER_min ∧ (∀ x, x < 8 → j ≠ Od.OBS_CATCH_COUNT x) ∧ (∀ x, x < 8 → j ≠
    Od.OBS_OBS_ANGLE x) ∧ (∀ x, x < 8 → j ≠ Od.OBS_OBS_SPEED x) ∧ (∀ x, x < 8 → j ≠ Od.OBS_OPEN_ACC_us x) ∧ (∀ x, x <
    8 → j ≠ Od.OBS_PROBE_COUNT x) ∧ (∀ x, x < 64 → j ≠ Od.SEN_SENSOR_STATUS x) ∧ j ≠ Od.THM_BROKEN_NOW ∧ j ≠
    Od.THM_TH_STATUS ∧ (∀ x, x < 2 → j ≠ Od.TR_SPEED x)) true s (execDriveDisarm dt who d s) := by
  unfold Machine.execDriveDisarm
  exact .reply (.step .writeControl (.step .elapse .refl))
theorem ResLeaves.execDriveStop {dt : Nat} {who : Requester} {d : Drive} {s : State} : ResLeaves [.od, .tb, .out, .log,
    .links, .drives, .cells, .legs, .store, .seqs, .axes, .traction, .lus, .stageIn, .lvCommand, .gbx, .dcl, .aux,
    .chg, .path, .thermal, .sessions] (fun j => noReaction j ∧ noAccess j ∧ (∀ x, x < 8 → j ≠ Od.AX_BEMF_LL_PK x) ∧ (∀
    x, x < 8 → j ≠ Od.AX_SPEED_EL x) ∧ (∀ x, x < 15 → j ≠ Od.CELL_CELL_ACK_COUNT x) ∧ (∀ x, x < 15 → j ≠
    Od.CELL_CELL_STATUS x) ∧ j ≠ Od.CHR_CHG_CNT_STATUS ∧ j ≠ Od.CHR_RELAY_OPS_MAIN ∧ j ≠ Od.CNV_AUX_CNT_STATUS ∧ j ≠
    Od.CNV_TOW_ENTRIES ∧ j ≠ Od.HV_HV_TIMER_min ∧ (∀ x, x < 8 → j ≠ Od.OBS_CATCH_COUNT x) ∧ (∀ x, x < 8 → j ≠
    Od.OBS_OBS_ANGLE x) ∧ (∀ x, x < 8 → j ≠ Od.OBS_OBS_SPEED x) ∧ (∀ x, x < 8 → j ≠ Od.OBS_OPEN_ACC_us x) ∧ (∀ x, x <
    8 → j ≠ Od.OBS_PROBE_COUNT x) ∧ (∀ x, x < 64 → j ≠ Od.SEN_SENSOR_STATUS x) ∧ j ≠ Od.THM_BROKEN_NOW ∧ j ≠
    Od.THM_TH_STATUS ∧ (∀ x, x < 2 → j ≠ Od.TR_SPEED x)) true s (execDriveStop dt who d s) := by
  unfold Machine.execDriveStop
  exact .reply (.step .writeControl (.step .elapse .refl))
theorem State.Leaves.writeControlSized {s : State} {who : Requester} {d : Drive} {size : Nat} {v : Nat} : State.Leaves
    [.od, .out, .log, .links, .drives, .cells, .legs, .store, .seqs, .axes, .traction, .lus, .stageIn, .lvCommand,
    .gbx, .dcl, .aux, .chg, .path, .thermal, .sessions] (fun j => noReaction j ∧ noAccess j ∧ (∀ x, x < 8 → j ≠
    Od.AX_BEMF_LL_PK x) ∧ (∀ x, x < 8 → j ≠ Od.AX_SPEED_EL x) ∧ (∀ x, x < 15 → j ≠ Od.CELL_CELL_ACK_COUNT x) ∧ (∀ x, x
    < 15 → j ≠ Od.CELL_CELL_STATUS x) ∧ j ≠ Od.CHR_CHG_CNT_STATUS ∧ j ≠ Od.CHR_RELAY_OPS_MAIN ∧ j ≠
    Od.CNV_AUX_CNT_STATUS ∧ j ≠ Od.CNV_TOW_ENTRIES ∧ j ≠ Od.HV_HV_TIMER_min ∧ (∀ x, x < 8 → j ≠ Od.OBS_CATCH_COUNT x)
    ∧ (∀ x, x < 8 → j ≠ Od.OBS_OBS_ANGLE x) ∧ (∀ x, x < 8 → j ≠ Od.OBS_OBS_SPEED x) ∧ (∀ x, x < 8 → j ≠
    Od.OBS_OPEN_ACC_us x) ∧ (∀ x, x < 8 → j ≠ Od.OBS_PROBE_COUNT x) ∧ (∀ x, x < 64 → j ≠ Od.SEN_SENSOR_STATUS x) ∧ j ≠
    Od.THM_BROKEN_NOW ∧ j ≠ Od.THM_TH_STATUS ∧ (∀ x, x < 2 → j ≠ Od.TR_SPEED x)) true s (s.writeControlSized who d
    size v) := by
  unfold State.writeControlSized
  exact .ite (.step .writeControl .refl) (.request (fun _ => .error) .refl)
theorem ResLeaves.execDriveRun {dt : Nat} {who : Requester} {d : Drive} {size : Nat} {s : State} : ResLeaves [.od, .tb,
    .out, .log, .links, .drives, .cells, .legs, .store, .seqs, .axes, .traction, .lus, .stageIn, .lvCommand, .gbx,
    .dcl, .aux, .chg, .path, .thermal, .sessions] (fun j => noReaction j ∧ noAccess j ∧ (∀ x, x < 8 → j ≠
    Od.AX_BEMF_LL_PK x) ∧ (∀ x, x < 8 → j ≠ Od.AX_SPEED_EL x) ∧ (∀ x, x < 15 → j ≠ Od.CELL_CELL_ACK_COUNT x) ∧ (∀ x, x
    < 15 → j ≠ Od.CELL_CELL_STATUS x) ∧ j ≠ Od.CHR_CHG_CNT_STATUS ∧ j ≠ Od.CHR_RELAY_OPS_MAIN ∧ j ≠
    Od.CNV_AUX_CNT_STATUS ∧ j ≠ Od.CNV_TOW_ENTRIES ∧ j ≠ Od.HV_HV_TIMER_min ∧ (∀ x, x < 8 → j ≠ Od.OBS_CATCH_COUNT x)
    ∧ (∀ x, x < 8 → j ≠ Od.OBS_OBS_ANGLE x) ∧ (∀ x, x < 8 → j ≠ Od.OBS_OBS_SPEED x) ∧ (∀ x, x < 8 → j ≠
    Od.OBS_OPEN_ACC_us x) ∧ (∀ x, x < 8 → j ≠ Od.OBS_PROBE_COUNT x) ∧ (∀ x, x < 64 → j ≠ Od.SEN_SENSOR_STATUS x) ∧ j ≠
    Od.THM_BROKEN_NOW ∧ j ≠ Od.THM_TH_STATUS ∧ (∀ x, x < 2 → j ≠ Od.TR_SPEED x)) true s (execDriveRun dt who d size s)
    := by
  unfold Machine.execDriveRun
  exact .reply (.step .writeControlSized (.step .elapse .refl))
theorem ResLeaves.execDriveArm {dt : Nat} {who : Requester} {d : Drive} {s : State} : ResLeaves [.od, .tb, .out, .log,
    .links, .drives, .cells, .legs, .store, .seqs, .axes, .traction, .lus, .stageIn, .lvCommand, .gbx, .dcl, .aux,
    .chg, .path, .thermal, .sessions] (fun j => noReaction j ∧ noAccess j ∧ (∀ x, x < 8 → j ≠ Od.AX_BEMF_LL_PK x) ∧ (∀
    x, x < 8 → j ≠ Od.AX_SPEED_EL x) ∧ (∀ x, x < 15 → j ≠ Od.CELL_CELL_ACK_COUNT x) ∧ (∀ x, x < 15 → j ≠
    Od.CELL_CELL_STATUS x) ∧ j ≠ Od.CHR_CHG_CNT_STATUS ∧ j ≠ Od.CHR_RELAY_OPS_MAIN ∧ j ≠ Od.CNV_AUX_CNT_STATUS ∧ j ≠
    Od.CNV_TOW_ENTRIES ∧ j ≠ Od.HV_HV_TIMER_min ∧ (∀ x, x < 8 → j ≠ Od.OBS_CATCH_COUNT x) ∧ (∀ x, x < 8 → j ≠
    Od.OBS_OBS_ANGLE x) ∧ (∀ x, x < 8 → j ≠ Od.OBS_OBS_SPEED x) ∧ (∀ x, x < 8 → j ≠ Od.OBS_OPEN_ACC_us x) ∧ (∀ x, x <
    8 → j ≠ Od.OBS_PROBE_COUNT x) ∧ (∀ x, x < 64 → j ≠ Od.SEN_SENSOR_STATUS x) ∧ j ≠ Od.THM_BROKEN_NOW ∧ j ≠
    Od.THM_TH_STATUS ∧ (∀ x, x < 2 → j ≠ Od.TR_SPEED x)) true s (execDriveArm dt who d s) := by
  unfold Machine.execDriveArm
  exact .reply (.step .writeControl (.step .elapse .refl))
theorem State.Leaves.reengage {s : State} {t : Fin 2} : State.Leaves [.od, .log, .drives, .cells, .axes, .traction]
    (fun j => (∀ x, x < 8 → j ≠ Od.AX_AXIS_STATUS x) ∧ (∀ x, x < 8 → j ≠ Od.AX_BEMF_LL_PK x) ∧ (∀ x, x < 8 → j ≠
    Od.AX_I_ALPHA x) ∧ (∀ x, x < 8 → j ≠ Od.AX_I_BETA x) ∧ (∀ x, x < 8 → j ≠ Od.AX_PSI_ALPHA x) ∧ (∀ x, x < 8 → j ≠
    Od.AX_PSI_BETA x) ∧ (∀ x, x < 8 → j ≠ Od.AX_SPEED_EL x) ∧ (∀ x, x < 8 → j ≠ Od.AX_TQ_REF x) ∧ j ≠
    Od.CNT_CNT_OVF_MAP ∧ (∀ x, x < 15 → j ≠ Od.OBS_ASC_TIME_ms x) ∧ (∀ x, x < 8 → j ≠ Od.OBS_CATCH_COUNT x) ∧ (∀ x, x
    < 8 → j ≠ Od.OBS_OBS_ANGLE x) ∧ (∀ x, x < 15 → j ≠ Od.OBS_OBS_CNT_STATUS x) ∧ (∀ x, x < 8 → j ≠ Od.OBS_OBS_SPEED
    x) ∧ (∀ x, x < 8 → j ≠ Od.OBS_OBS_STATUS x) ∧ (∀ x, x < 8 → j ≠ Od.OBS_OPEN_ACC_us x) ∧ (∀ x, x < 8 → j ≠
    Od.OBS_PROBE_COUNT x) ∧ (∀ x, x < 2 → j ≠ Od.TR_SPEED x) ∧ j ≠ Od.TR_TQ_RAMP t) false s (s.reengage t) := by
  unfold State.reengage
  exact .ite (.ite (.step .motorRuns (.each (fun _ _ _ => (.step .initFlux .refl)) (.step .modTr .refl))) (.step
    .startSets (.step .modTr .refl))) .refl
theorem ResLeaves.execReversalReengage {dt : Nat} {t : Fin 2} {s : State} : ResLeaves [.od, .tb, .out, .log, .drives,
    .cells, .axes, .traction] (fun j => (∀ x, x < 8 → j ≠ Od.AX_AXIS_STATUS x) ∧ (∀ x, x < 8 → j ≠ Od.AX_BEMF_LL_PK x)
    ∧ (∀ x, x < 8 → j ≠ Od.AX_I_ALPHA x) ∧ (∀ x, x < 8 → j ≠ Od.AX_I_BETA x) ∧ (∀ x, x < 8 → j ≠ Od.AX_PSI_ALPHA x) ∧
    (∀ x, x < 8 → j ≠ Od.AX_PSI_BETA x) ∧ (∀ x, x < 8 → j ≠ Od.AX_SPEED_EL x) ∧ (∀ x, x < 8 → j ≠ Od.AX_TQ_REF x) ∧ j
    ≠ Od.CNT_CNT_OVF_MAP ∧ (∀ x, x < 15 → j ≠ Od.OBS_ASC_TIME_ms x) ∧ (∀ x, x < 8 → j ≠ Od.OBS_CATCH_COUNT x) ∧ (∀ x,
    x < 8 → j ≠ Od.OBS_OBS_ANGLE x) ∧ (∀ x, x < 15 → j ≠ Od.OBS_OBS_CNT_STATUS x) ∧ (∀ x, x < 8 → j ≠ Od.OBS_OBS_SPEED
    x) ∧ (∀ x, x < 8 → j ≠ Od.OBS_OBS_STATUS x) ∧ (∀ x, x < 8 → j ≠ Od.OBS_OPEN_ACC_us x) ∧ (∀ x, x < 8 → j ≠
    Od.OBS_PROBE_COUNT x) ∧ (∀ x, x < 2 → j ≠ Od.TR_SPEED x) ∧ j ≠ Od.TR_TQ_RAMP t) false s (execReversalReengage dt t
    s) := by
  unfold Machine.execReversalReengage
  exact .reply (.step .reengage (.step .elapse .refl))
theorem ResLeaves.execDirectionWrite {dt : Nat} {who : Requester} {t : Fin 2} {value : BitVec 8} {s : State} : ResLeaves
    [.od, .tb, .out, .log, .drives, .cells, .legs, .axes, .traction, .sessions] (fun j => noAccess j ∧ (∀ x, x < 8 → j
    ≠ Od.AX_TQ_REF x) ∧ (∀ x, x < 15 → j ≠ Od.OBS_ASC_TIME_ms x) ∧ (∀ x, x < 15 → j ≠ Od.OBS_OBS_CNT_STATUS x) ∧ (∀ x,
    x < 8 → j ≠ Od.OBS_OBS_STATUS x) ∧ (∀ x, x < 50 → j ≠ Od.SH_CH_STATUS x) ∧ j ≠ Od.TR_DIRECTION t ∧ j ≠
    Od.TR_DIR_CHANGES t ∧ j ≠ Od.TR_DRIVE_STATUS t ∧ (∀ x, x < 2 → j ≠ Od.TR_TQ_RAMP x)) false s (execDirectionWrite
    dt who t value s) := by
  unfold Machine.execDirectionWrite
  exact .reply (.step .writeDirection (.step .elapse .refl))
theorem ResLeaves.execTqSetWrite {dt : Nat} {who : Requester} {t : Fin 2} {value : BitVec 32} {s : State} : ResLeaves
    [.od, .tb, .out, .log, .sessions] (fun j => noAccess j ∧ j ≠ Od.TR_TQ_SET t) false s (execTqSetWrite dt who t
    value s) := by
  unfold Machine.execTqSetWrite
  exact .reply (.step .writeTqSet (.step .elapse .refl))
theorem State.Leaves.unmeasured {s : State} {n : Axis} : State.Leaves [.od, .log, .links, .drives, .cells, .legs,
    .store, .seqs, .axes, .traction, .lus, .stageIn, .lvCommand, .gbx, .dcl, .aux, .chg, .path] (fun j => noReaction j
    ∧ (∀ x, x < 15 → j ≠ Od.OBS_ASC_COUNT x)) true s (s.unmeasured n) := by
  unfold State.unmeasured
  exact .ite (.step .faultDrive (.step .event (.stepR .coastCell .refl))) (.step .faultState (.each (fun _ _ _ =>
    (.stepR .protectCell .refl)) (.step .event (.stepR .coastCell .refl))))
theorem ResLeaves.execUnmeasuredTimeExceeded {dt : Nat} {n : Axis} {s : State} : ResLeaves [.od, .tb, .out, .log,
    .links, .drives, .cells, .legs, .store, .seqs, .axes, .traction, .lus, .stageIn, .lvCommand, .gbx, .dcl, .aux,
    .chg, .path] (fun j => noReaction j ∧ (∀ x, x < 15 → j ≠ Od.OBS_ASC_COUNT x)) true s (execUnmeasuredTimeExceeded
    dt n s) := by
  unfold Machine.execUnmeasuredTimeExceeded
  exact .reply (.ite (.step .unmeasured (.step .elapse .refl)) (.step .elapse .refl))
theorem State.Leaves.tqAct {s : State} {t : Fin 2} : State.Leaves [.od] (fun j => j ≠ Od.TR_TQ_ACT t) false s (s.tqAct
    t) := by
  unfold State.tqAct
  exact .step .setQ .refl
theorem State.Leaves.axisWindow {s : State} {n : Axis} : State.Leaves [.od, .axes] (fun j => j ≠ Od.AX_FSW_LEG_AVG n ∧
    j ≠ Od.AX_INNOV_MAX n ∧ j ≠ Od.AX_UNMEAS_MAX_ns n ∧ j ≠ Od.OBS_RESID n) false s (s.axisWindow n) := by
  unfold State.axisWindow
  exact .ite .refl (.step .modAx (.step .setQ (.step .setN (.step .setQ (.step .setQ .refl)))))
theorem State.Leaves.switchLeg {s : State} {l : Leg} {lv : LegLevel} : State.Leaves [.od, .legs] (fun j => (∀ x y, x <
    15 → y < 4 → j ≠ Od.CELL_LEG_SWITCHES x y) ∧ j ≠ Od.SH_CH_STATUS l) false s (s.switchLeg l lv) := by
  unfold State.switchLeg
  exact .ite (.step .countWide (.step .setLeg (.step .modLeg .refl))) (.step .setLeg (.step .modLeg .refl))
theorem State.Leaves.applyVector {s : State} {n : Axis} {v : Nat} : State.Leaves [.od, .legs] (fun j => j ≠
    Od.AX_AXIS_STATUS n ∧ (∀ x y, x < 15 → y < 4 → j ≠ Od.CELL_LEG_SWITCHES x y) ∧ (∀ x, x < 50 → j ≠ Od.SH_CH_STATUS
    x)) false s (s.applyVector n v) := by
  unfold State.applyVector
  exact .step .setField (.each (fun _ _ _ => (.step .switchLeg .refl)) .refl)
theorem State.Leaves.identHold {s : State} {n : Axis} : State.Leaves [.od, .cells, .legs, .axes, .traction] (fun j =>
    j ≠ Od.AX_AXIS_STATUS n ∧ (∀ x y, x < 15 → y < 4 → j ≠ Od.CELL_LEG_SWITCHES x y) ∧ j ≠ Od.CNT_CNT_OVF_MAP ∧ (∀ x,
    x < 15 → j ≠ Od.OBS_OBS_CNT_STATUS x) ∧ (∀ x, x < 8 → j ≠ Od.OBS_OBS_STATUS x) ∧ (∀ x, x < 8 → j ≠
    Od.OBS_PROBE_COUNT x) ∧ (∀ x, x < 50 → j ≠ Od.SH_CH_STATUS x)) false s (s.identHold n) := by
  unfold State.identHold
  exact .ite (.step .startTrain (.step .modAx .refl)) (.step .applyVector (.step .modCell (.step .modAx .refl)))
theorem State.Leaves.identStep {s : State} {n : Axis} : State.Leaves [.od, .log, .links, .drives, .cells, .legs,
    .store, .seqs, .axes, .traction, .lus, .stageIn, .lvCommand, .gbx, .dcl, .aux, .chg, .path] (fun j => noReaction j
    ∧ (∀ x y, x < 15 → y < 4 → j ≠ Od.CELL_LEG_SWITCHES x y) ∧ (∀ x, x < 15 → j ≠ Od.OBS_ASC_COUNT x) ∧ (∀ x, x < 8 →
    j ≠ Od.OBS_PROBE_COUNT x)) true s (s.identStep n) := by
  unfold State.identStep
  exact by split; exacts [(.step .modAx .refl), (.ite (.step .probeFailed .refl) (.stepR .startProbe (.step .modAx
    .refl))), (.ite (.step .probeFailed .refl) (.stepR .startProbe (.step .modAx .refl))), (.stepR .identHold .refl),
    .refl]
theorem State.Leaves.refreshFailed {s : State} {c : Cell} : State.Leaves [.od, .log, .links, .drives, .cells, .legs,
    .store, .seqs, .axes, .traction, .lus, .stageIn, .lvCommand, .gbx, .dcl, .aux, .chg, .path] (fun j => noReaction j
    ∧ (∀ x, x < 15 → j ≠ Od.OBS_ASC_COUNT x)) true s (s.refreshFailed c) := by
  unfold State.refreshFailed
  exact .step .raise (.step .modCell (.stepR .coastCell .refl))
theorem State.Leaves.forcedRefresh {s : State} {c : Cell} : State.Leaves [.od, .log, .links, .drives, .cells, .legs,
    .store, .seqs, .axes, .traction, .lus, .stageIn, .lvCommand, .gbx, .dcl, .aux, .chg, .path] (fun j => noReaction j
    ∧ j ≠ Od.CELL_BOOT_REFRESHES c ∧ j ≠ Od.CELL_COUNTER_STATUS c ∧ (∀ x, x < 15 → j ≠ Od.OBS_ASC_COUNT x)) true s
    (s.forcedRefresh c) := by
  unfold State.forcedRefresh
  exact .ite (.step .refreshFailed .refl) (.when (fun _ => (.step .event .refl)) (.step .modCell (.stepR .count (.each
    (fun _ _ _ => (.step .modLeg .refl)) (.stepR .setLegs .refl)))))
theorem State.Leaves.pulseRest {s : State} {n : Axis} : State.Leaves [.od, .log, .links, .drives, .cells, .legs,
    .store, .seqs, .axes, .traction, .lus, .stageIn, .lvCommand, .gbx, .dcl, .aux, .chg, .path] (fun j => noReaction j
    ∧ (∀ x, x < 15 → j ≠ Od.CELL_BOOT_REFRESHES x) ∧ (∀ x, x < 15 → j ≠ Od.CELL_COUNTER_STATUS x) ∧ (∀ x y, x < 15 → y
    < 4 → j ≠ Od.CELL_LEG_SWITCHES x y) ∧ (∀ x, x < 15 → j ≠ Od.OBS_ASC_COUNT x)) true s (s.pulseRest n) := by
  unfold State.pulseRest
  exact .when (fun _ => (.step .forcedRefresh .refl)) (.ite .refl (.stepR .applyVector .refl))
theorem State.Leaves.testPulseEnd {s : State} {t : Fin 2} {p : ProbeSt} {n : Axis} {v : Nat} {r : ProbePulse} {len : Nat}
    : State.Leaves [.od, .legs, .traction] (fun j => j ≠ Od.AX_AXIS_STATUS n ∧ (∀ x y, x < 15 → y < 4 → j ≠
    Od.CELL_LEG_SWITCHES x y) ∧ (∀ x, x < 50 → j ≠ Od.SH_CH_STATUS x)) false s (s.testPulseEnd t p n v r len) := by
  unfold State.testPulseEnd
  exact .step .modTr (.step .applyVector .refl)
theorem State.Leaves.pulseHeld {s : State} {t : Fin 2} {p : ProbeSt} {n : Axis} {v : Nat} {valid : Bool} : State.Leaves
    [.od, .legs, .traction] (fun j => j ≠ Od.AX_AXIS_STATUS n ∧ (∀ x y, x < 15 → y < 4 → j ≠ Od.CELL_LEG_SWITCHES x y)
    ∧ (∀ x, x < 50 → j ≠ Od.SH_CH_STATUS x)) false s (s.pulseHeld t p n v valid) := by
  unfold State.pulseHeld
  dsimp only
  split
  · exact .ite (.step .testPulseEnd .refl) (.step .modTr .refl)
  · exact .ite (.step .testPulseEnd .refl) (.step .modTr .refl)
theorem State.Leaves.pulseBegin {s : State} {t : Fin 2} {p : ProbeSt} {k : Nat} {n : Axis} {v : Nat} : State.Leaves [.od,
    .cells, .legs, .traction] (fun j => j ≠ Od.AX_AXIS_STATUS n ∧ (∀ x y, x < 15 → y < 4 → j ≠ Od.CELL_LEG_SWITCHES x
    y) ∧ (∀ x, x < 50 → j ≠ Od.SH_CH_STATUS x)) false s (s.pulseBegin t p k n v) := by
  unfold State.pulseBegin
  exact .step .modTr (.step .applyVector (.step .modCell .refl))
theorem State.Leaves.pulseCoast {s : State} {n : Axis} : State.Leaves [.od, .cells, .legs] (fun j => j ≠
    Od.AX_AXIS_STATUS n ∧ j ≠ Od.CNT_CNT_OVF_MAP ∧ (∀ x, x < 15 → j ≠ Od.OBS_ASC_TIME_ms x) ∧ (∀ x, x < 15 → j ≠
    Od.OBS_OBS_CNT_STATUS x) ∧ (∀ x, x < 50 → j ≠ Od.SH_CH_STATUS x)) false s (s.pulseCoast n) := by
  unfold State.pulseCoast
  exact .ite (.step .setField (.step .coastCell .refl)) .refl
theorem State.Leaves.trainStep {s : State} {t : Fin 2} {p : ProbeSt} {n : Axis} {valid : Bool} : State.Leaves [.od,
    .log, .links, .drives, .cells, .legs, .store, .seqs, .axes, .traction, .lus, .stageIn, .lvCommand, .gbx, .dcl,
    .aux, .chg, .path] (fun j => noReaction j ∧ (∀ x, x < 15 → j ≠ Od.CELL_BOOT_REFRESHES x) ∧ (∀ x, x < 15 → j ≠
    Od.CELL_COUNTER_STATUS x) ∧ (∀ x y, x < 15 → y < 4 → j ≠ Od.CELL_LEG_SWITCHES x y) ∧ (∀ x, x < 15 → j ≠
    Od.OBS_ASC_COUNT x)) true s (s.trainStep t p n valid) := by
  unfold State.trainStep
  dsimp only
  split
  · exact .stepR .pulseCoast .refl
  · refine .ite (.stepR .pulseCoast .refl) (.ite (.stepR .pulseBegin .refl) ?_)
    split
    · exact .stepR .pulseHeld .refl
    · exact .ite .refl (.stepR .pulseRest .refl)
theorem State.Leaves.trainEnd {s : State} {t : Fin 2} {p : ProbeSt} : State.Leaves [.od, .log, .drives, .cells, .legs,
    .axes, .traction] (fun j => noReaction j ∧ (∀ x, x < 8 → j ≠ Od.AX_BEMF_LL_PK x) ∧ (∀ x, x < 8 → j ≠
    Od.AX_SPEED_EL x) ∧ (∀ x, x < 8 → j ≠ Od.OBS_CATCH_COUNT x) ∧ (∀ x, x < 8 → j ≠ Od.OBS_OBS_ANGLE x) ∧ (∀ x, x < 8
    → j ≠ Od.OBS_OBS_SPEED x) ∧ (∀ x, x < 8 → j ≠ Od.OBS_OPEN_ACC_us x) ∧ (∀ x, x < 8 → j ≠ Od.OBS_PROBE_COUNT x) ∧ (∀
    x, x < 2 → j ≠ Od.TR_SPEED x)) false s (s.trainEnd t p) := by
  unfold State.trainEnd
  exact by split; exacts [(.stepR .startSets (.stepR .rejoinSets (.stepR .endProbe .refl))), (.each (fun _ _ _ =>
    (.ite (.step .modAx .refl) .refl)) (.stepR .endProbe .refl)), .refl]
theorem State.Leaves.testStep {s : State} {n : Axis} {valid : Bool} : State.Leaves [.od, .log, .links, .drives,
    .cells, .legs, .store, .seqs, .axes, .traction, .lus, .stageIn, .lvCommand, .gbx, .dcl, .aux, .chg, .path] (fun j
    => noReaction j ∧ (∀ x, x < 8 → j ≠ Od.AX_BEMF_LL_PK x) ∧ (∀ x, x < 8 → j ≠ Od.AX_SPEED_EL x) ∧ (∀ x, x < 15 → j ≠
    Od.CELL_BOOT_REFRESHES x) ∧ (∀ x, x < 15 → j ≠ Od.CELL_COUNTER_STATUS x) ∧ (∀ x y, x < 15 → y < 4 → j ≠
    Od.CELL_LEG_SWITCHES x y) ∧ (∀ x, x < 15 → j ≠ Od.OBS_ASC_COUNT x) ∧ (∀ x, x < 8 → j ≠ Od.OBS_CATCH_COUNT x) ∧ (∀
    x, x < 8 → j ≠ Od.OBS_OBS_ANGLE x) ∧ (∀ x, x < 8 → j ≠ Od.OBS_OBS_SPEED x) ∧ (∀ x, x < 8 → j ≠ Od.OBS_OPEN_ACC_us
    x) ∧ (∀ x, x < 8 → j ≠ Od.OBS_PROBE_COUNT x) ∧ (∀ x, x < 2 → j ≠ Od.TR_SPEED x)) true s (s.testStep n valid) := by
  unfold State.testStep
  dsimp only
  split
  · exact .ite .refl (.ite (.stepR .trainEnd .refl) (.stepR .trainStep .refl))
  · exact .ite (.stepR .identStep .refl) .refl
theorem State.Leaves.recoverProbe {s : State} {n : Axis} : State.Leaves [.od, .axes, .traction] (fun j => j ≠
    Od.CNT_CNT_OVF_MAP ∧ (∀ x, x < 15 → j ≠ Od.OBS_OBS_CNT_STATUS x) ∧ (∀ x, x < 8 → j ≠ Od.OBS_OBS_STATUS x) ∧ (∀ x,
    x < 8 → j ≠ Od.OBS_PROBE_COUNT x)) false s (s.recoverProbe n) := by
  unfold State.recoverProbe
  exact by split; exacts [(.ite (.step .startProbe .refl) .refl), .refl]
theorem State.Leaves.startWaiting {s : State} {t : Fin 2} : State.Leaves [.od, .log, .drives, .cells, .axes,
    .traction] (fun j => noReaction j ∧ (∀ x, x < 8 → j ≠ Od.AX_BEMF_LL_PK x) ∧ (∀ x, x < 8 → j ≠ Od.AX_SPEED_EL x) ∧
    (∀ x, x < 8 → j ≠ Od.OBS_CATCH_COUNT x) ∧ (∀ x, x < 8 → j ≠ Od.OBS_OBS_ANGLE x) ∧ (∀ x, x < 8 → j ≠
    Od.OBS_OBS_SPEED x) ∧ (∀ x, x < 8 → j ≠ Od.OBS_OPEN_ACC_us x) ∧ (∀ x, x < 8 → j ≠ Od.OBS_PROBE_COUNT x) ∧ (∀ x, x
    < 2 → j ≠ Od.TR_SPEED x)) false s (s.startWaiting t) := by
  unfold State.startWaiting
  exact .ite (.stepR .startSets .refl) .refl
theorem State.Leaves.noteSource {s : State} {n : Axis} : State.Leaves [.od] (fun j => j ≠ Od.AX_BEMF_LL_PK n ∧ j ≠
    Od.AX_SPEED_EL n ∧ j ≠ Od.OBS_OBS_ANGLE n ∧ j ≠ Od.OBS_OBS_SPEED n ∧ j ≠ Od.OBS_OBS_STATUS n ∧ (∀ x, x < 2 → j ≠
    Od.TR_SPEED x)) false s (s.noteSource n) := by
  unfold State.noteSource
  exact by split; exacts [(.step .setSpeed (.step .setQ (.step .setBit .refl))), (.step .setBit .refl)]
theorem State.Leaves.idleStatus {s : State} {n : Axis} : State.Leaves [.od, .axes] (fun j => j ≠ Od.AX_AXIS_STATUS n ∧
    j ≠ Od.AX_BEMF_LL_PK n ∧ j ≠ Od.AX_SPEED_EL n ∧ j ≠ Od.AX_TQ_EST n ∧ j ≠ Od.OBS_OBS_ANGLE n ∧ j ≠ Od.OBS_OBS_SPEED
    n ∧ j ≠ Od.OBS_OBS_STATUS n ∧ (∀ x, x < 2 → j ≠ Od.TR_SPEED x)) false s (s.idleStatus n) := by
  unfold State.idleStatus
  exact .when (fun _ => (.step .noteSource .refl)) (.when (fun _ => (.step .setBit (.step .modAx .refl))) (.step
    .setBit (.step .setQ (.when (fun _ => (.step .setField .refl)) (.step .setField (.step .setField (.step .setBit
    .refl)))))))
theorem State.Leaves.ascResult {s : State} {n : Axis} {i0 : Rat × Rat} {i : Rat × Rat} {ticks : Nat} : State.Leaves [.axes] (fun
    _ => True) false s (s.ascResult n i0 i ticks) := by
  unfold State.ascResult
  exact .ite (.step .modAx .refl) (.step .modAx .refl)
theorem State.Leaves.ascStep {s : State} {n : Axis} {r : Recon} : State.Leaves [.od, .cells, .axes] (fun j => j ≠
    Od.AX_I_ALPHA n ∧ j ≠ Od.AX_I_BETA n ∧ j ≠ Od.CNT_CNT_OVF_MAP ∧ (∀ x, x < 15 → j ≠ Od.OBS_ASC_TIME_ms x) ∧ (∀ x, x
    < 15 → j ≠ Od.OBS_OBS_CNT_STATUS x)) false s (s.ascStep n r) := by
  unfold State.ascStep
  exact .ite (.step .countAsc .refl) (by dsimp only; split; exacts [(.step .modAx (.step .setQ (.step .setQ (.step .countAsc
    .refl)))), (.ite (.step .ascResult (.step .setQ (.step .setQ (.step .countAsc .refl)))) (.step .setQ (.step .setQ
    (.step .countAsc .refl))))])
theorem State.Leaves.shuntSample {s : State} {n : Leg} {raw : Int} {valid : Bool} {stamp : Nat} : State.Leaves [.od] (fun
    j => j ≠ Od.CNT_CNT_OVF_MAP ∧ j ≠ Od.SH_CH_STATUS n ∧ j ≠ Od.SH_CORR n ∧ j ≠ Od.SH_CURRENT n ∧ j ≠ Od.SH_OVR_COUNT
    n ∧ j ≠ Od.SH_RAW n ∧ j ≠ Od.SH_SAMPLE_TB n) false s (s.shuntSample n raw valid stamp) := by
  unfold State.shuntSample
  exact .when (fun _ => (.step .count .refl)) (.step .setBit (.when (fun _ => (.step .setN (.step .setQ .refl)))
    (.step .setBit (.step .setI (.step .setI .refl)))))
theorem State.Leaves.takeSamples {s : State} {n : Axis} {raw : List Int} {ago : Nat} : State.Leaves [.od, .legs] (fun j =>
    j ≠ Od.CNT_CNT_OVF_MAP ∧ (∀ x, x < 50 → j ≠ Od.SH_CH_STATUS x) ∧ (∀ x, x < 50 → j ≠ Od.SH_CORR x) ∧ (∀ x, x < 50 →
    j ≠ Od.SH_CURRENT x) ∧ (∀ x, x < 50 → j ≠ Od.SH_OVR_COUNT x) ∧ (∀ x, x < 50 → j ≠ Od.SH_RAW x) ∧ (∀ x, x < 50 → j
    ≠ Od.SH_SAMPLE_TB x)) false s (s.takeSamples n raw ago) := by
  unfold State.takeSamples
  exact .each (fun _ _ _ => (.step .modLeg (.step .shuntSample .refl))) .refl
theorem State.Leaves.idle {s : State} {n : Axis} {raw : List Int} {odd : List Int} : State.Leaves [.od, .log, .links,
    .drives, .cells, .legs, .store, .seqs, .axes, .traction, .lus, .stageIn, .lvCommand, .gbx, .dcl, .aux, .chg,
    .path] (fun j => noReaction j ∧ (∀ x, x < 8 → j ≠ Od.AX_BEMF_LL_PK x) ∧ (∀ x, x < 8 → j ≠ Od.AX_SPEED_EL x) ∧ j ≠
    Od.AX_TQ_EST n ∧ (∀ x, x < 15 → j ≠ Od.CELL_BOOT_REFRESHES x) ∧ (∀ x, x < 15 → j ≠ Od.CELL_COUNTER_STATUS x) ∧ (∀
    x y, x < 15 → y < 4 → j ≠ Od.CELL_LEG_SWITCHES x y) ∧ (∀ x, x < 15 → j ≠ Od.OBS_ASC_COUNT x) ∧ (∀ x, x < 8 → j ≠
    Od.OBS_CATCH_COUNT x) ∧ (∀ x, x < 8 → j ≠ Od.OBS_OBS_ANGLE x) ∧ (∀ x, x < 8 → j ≠ Od.OBS_OBS_SPEED x) ∧ (∀ x, x <
    8 → j ≠ Od.OBS_OPEN_ACC_us x) ∧ (∀ x, x < 8 → j ≠ Od.OBS_PROBE_COUNT x) ∧ (∀ x, x < 50 → j ≠ Od.SH_CORR x) ∧ (∀ x,
    x < 50 → j ≠ Od.SH_CURRENT x) ∧ (∀ x, x < 50 → j ≠ Od.SH_OVR_COUNT x) ∧ (∀ x, x < 50 → j ≠ Od.SH_RAW x) ∧ (∀ x, x
    < 50 → j ≠ Od.SH_SAMPLE_TB x) ∧ (∀ x, x < 2 → j ≠ Od.TR_SPEED x)) true s (s.idle n raw odd) := by
  unfold State.idle
  exact .ite (.stepR .idleStatus (.ite (.stepR .ascStep (.stepR .takeSamples (.stepR .takeSamples .refl))) (.ite
    (.stepR .setQ (.stepR .setQ (.stepR .takeSamples (.stepR .takeSamples .refl)))) (.ite (.stepR .setQ (.stepR .setQ
    (.stepR .takeSamples (.stepR .takeSamples .refl)))) (.stepR .takeSamples (.stepR .takeSamples .refl)))))) (.step
    .startWaiting (.stepR .recoverProbe (.stepR .idleStatus (.step .testStep (.ite (.stepR .ascStep (.stepR
    .takeSamples (.stepR .takeSamples .refl))) (.ite (.stepR .setQ (.stepR .setQ (.stepR .takeSamples (.stepR
    .takeSamples .refl)))) (.ite (.stepR .setQ (.stepR .setQ (.stepR .takeSamples (.stepR .takeSamples .refl))))
    (.stepR .takeSamples (.stepR .takeSamples .refl)))))))))
theorem State.Leaves.deferLeg {s : State} {l : Leg} : State.Leaves [.od, .legs] (fun j => (∀ x, x < 15 → j ≠
    Od.CELL_COUNTER_STATUS x) ∧ (∀ x, x < 15 → j ≠ Od.CELL_FSW_DEFERRALS x) ∧ j ≠ Od.CNT_CNT_OVF_MAP) false s
    (s.deferLeg l) := by
  unfold State.deferLeg
  exact .ite .refl (.step .count (.step .modLeg .refl))
theorem State.Leaves.deferVector {s : State} {n : Axis} {v : Nat} : State.Leaves [.od, .legs] (fun j => (∀ x, x < 15 → j
    ≠ Od.CELL_COUNTER_STATUS x) ∧ (∀ x, x < 15 → j ≠ Od.CELL_FSW_DEFERRALS x) ∧ j ≠ Od.CNT_CNT_OVF_MAP) false s
    (s.deferVector n v) := by
  unfold State.deferVector
  exact .each (fun _ _ _ => (.ite (.step .deferLeg .refl) .refl)) .refl
theorem State.Leaves.chooseVector {s : State} {n : Axis} {v : Nat} {alt : Nat} {due : Bool} : State.Leaves [.od, .legs]
    (fun j => j ≠ Od.AX_AXIS_CNT_STATUS n ∧ j ≠ Od.AX_AXIS_STATUS n ∧ j ≠ Od.AX_FALLBACKS n ∧ (∀ x, x < 15 → j ≠
    Od.CELL_COUNTER_STATUS x) ∧ (∀ x, x < 15 → j ≠ Od.CELL_FSW_DEFERRALS x) ∧ (∀ x y, x < 15 → y < 4 → j ≠
    Od.CELL_LEG_SWITCHES x y) ∧ j ≠ Od.CNT_CNT_OVF_MAP ∧ (∀ x, x < 50 → j ≠ Od.SH_CH_STATUS x)) false s
    (s.chooseVector n v alt due) := by
  unfold State.chooseVector
  exact .ite (.step .applyVector .refl) (.step .applyVector (.step .setBit (.step .count (.step .deferVector .refl))))
theorem State.Leaves.substitute {s : State} {n : Axis} {alt : Nat} : State.Leaves [.od, .legs, .axes] (fun j => j ≠
    Od.AX_AXIS_CNT_STATUS n ∧ j ≠ Od.AX_AXIS_STATUS n ∧ j ≠ Od.AX_SUBSTITUTIONS n ∧ (∀ x y, x < 15 → y < 4 → j ≠
    Od.CELL_LEG_SWITCHES x y) ∧ j ≠ Od.CNT_CNT_OVF_MAP ∧ (∀ x, x < 50 → j ≠ Od.SH_CH_STATUS x)) false s (s.substitute
    n alt) := by
  unfold State.substitute
  exact .step .applyVector (.step .setBit (.step .modAx (.step .count .refl)))
theorem State.Leaves.pickVector {s : State} {n : Axis} {v : Nat} {alt : Nat} : State.Leaves [.od, .legs, .axes] (fun j =>
    j ≠ Od.AX_AXIS_CNT_STATUS n ∧ j ≠ Od.AX_AXIS_STATUS n ∧ j ≠ Od.AX_FALLBACKS n ∧ j ≠ Od.AX_SUBSTITUTIONS n ∧ (∀ x,
    x < 15 → j ≠ Od.CELL_COUNTER_STATUS x) ∧ (∀ x, x < 15 → j ≠ Od.CELL_FSW_DEFERRALS x) ∧ (∀ x y, x < 15 → y < 4 → j
    ≠ Od.CELL_LEG_SWITCHES x y) ∧ j ≠ Od.CNT_CNT_OVF_MAP ∧ (∀ x, x < 50 → j ≠ Od.SH_CH_STATUS x)) false s
    (s.pickVector n v alt) := by
  unfold State.pickVector
  exact .ite (.step .substitute (.step .modAx .refl)) (.step .chooseVector (.step .modAx .refl))
theorem State.Leaves.openForce {s : State} {n : Axis} : State.Leaves [.od, .legs, .axes] (fun j => j ≠
    Od.AX_AXIS_STATUS n ∧ (∀ x y, x < 15 → y < 4 → j ≠ Od.CELL_LEG_SWITCHES x y) ∧ (∀ x, x < 50 → j ≠ Od.SH_CH_STATUS
    x)) false s (s.openForce n) := by
  unfold State.openForce
  exact .step .modAx (.step .forceVector .refl)
theorem State.Leaves.substEnd {s : State} {n : Axis} {full : Bool} : State.Leaves [.od, .axes] (fun j => j ≠
    Od.AX_AXIS_STATUS n) false s (s.substEnd n full) := by
  unfold State.substEnd
  exact .ite (.step .setBit (.step .modAx .refl)) .refl
theorem State.Leaves.selectVector {s : State} {n : Axis} {phi : Bool} {tau : Int} {sector : Nat} {full : Bool} :
    State.Leaves [.od, .log, .links, .drives, .cells, .legs, .store, .seqs, .axes, .traction, .lus, .stageIn,
    .lvCommand, .gbx, .dcl, .aux, .chg, .path] (fun j => noReaction j ∧ j ≠ Od.AX_AXIS_CNT_STATUS n ∧ j ≠
    Od.AX_FALLBACKS n ∧ j ≠ Od.AX_SUBSTITUTIONS n ∧ (∀ x, x < 15 → j ≠ Od.CELL_BOOT_REFRESHES x) ∧ (∀ x, x < 15 → j ≠
    Od.CELL_COUNTER_STATUS x) ∧ (∀ x, x < 15 → j ≠ Od.CELL_FSW_DEFERRALS x) ∧ (∀ x y, x < 15 → y < 4 → j ≠
    Od.CELL_LEG_SWITCHES x y) ∧ (∀ x, x < 15 → j ≠ Od.OBS_ASC_COUNT x)) true s (s.selectVector n phi tau sector full)
    := by
  unfold State.selectVector
  exact .ite (.stepR .setField (.step .forcedRefresh (.stepR .substEnd .refl))) (.ite (.stepR .openForce (.stepR
    .substEnd .refl)) (.ite (.stepR .substEnd .refl) (.ite (.step .modAx (.step .modAx (.stepR .substEnd .refl)))
    (.ite (.step .modAx (.stepR .substEnd .refl)) (.stepR .pickVector (.step .modAx (.stepR .substEnd .refl)))))))
theorem State.Leaves.compare {s : State} {n : Axis} {full : Bool} : State.Leaves [.od, .log, .links, .drives, .cells,
    .legs, .store, .seqs, .axes, .traction, .lus, .stageIn, .lvCommand, .gbx, .dcl, .aux, .chg, .path] (fun j =>
    noReaction j ∧ j ≠ Od.AX_AXIS_CNT_STATUS n ∧ j ≠ Od.AX_FALLBACKS n ∧ j ≠ Od.AX_SUBSTITUTIONS n ∧ (∀ x, x < 15 → j
    ≠ Od.CELL_BOOT_REFRESHES x) ∧ (∀ x, x < 15 → j ≠ Od.CELL_COUNTER_STATUS x) ∧ (∀ x, x < 15 → j ≠
    Od.CELL_FSW_DEFERRALS x) ∧ (∀ x y, x < 15 → y < 4 → j ≠ Od.CELL_LEG_SWITCHES x y) ∧ (∀ x, x < 15 → j ≠
    Od.OBS_ASC_COUNT x)) true s (s.compare n full) := by
  unfold State.compare
  dsimp only
  split
  · exact .step .modAx (.stepR .forceVector (.stepR .setField (.stepR .setField (.stepR .setBit .refl))))
  · exact .stepR .selectVector (.stepR .setField (.stepR .setField (.stepR .setBit .refl)))
theorem State.Leaves.assistCorrect {s : State} {n : Axis} {plus : Rat} {minus : Rat} : State.Leaves [.od, .fresh, .axes]
    (fun j => j ≠ Od.AX_PSI_ALPHA n ∧ j ≠ Od.AX_PSI_BETA n) false s (s.assistCorrect n plus minus) := by
  unfold State.assistCorrect
  exact .step .modAx (.step .setQ (.step .setQ (.when (fun _ => (.step .draw .refl)) .refl)))
theorem State.Leaves.assistStep {s : State} {n : Axis} : State.Leaves [.od, .fresh, .axes] (fun j => j ≠
    Od.AX_PSI_ALPHA n ∧ j ≠ Od.AX_PSI_BETA n) false s (s.assistStep n) := by
  unfold State.assistStep
  exact by split; exacts [.refl, (.ite .refl (by split; exacts [(.step .modAx .refl), (.step .modAx .refl), (.step
    .modAx .refl), (.step .assistCorrect .refl)]))]
theorem State.Leaves.setReference {s : State} {n : Axis} : State.Leaves [.od, .axes] (fun j => j ≠ Od.AX_TQ_REF n)
    false s (s.setReference n) := by
  unfold State.setReference
  exact .ite (.step .modAx (.step .setQ .refl)) (.step .setQ .refl)
theorem State.Leaves.assistMode {s : State} {n : Axis} : State.Leaves [.od] (fun j => j ≠ Od.OBS_OBS_STATUS n) false s
    (s.assistMode n) := by
  unfold State.assistMode
  exact .ite (.ite (.step .setBit .refl) (.ite (.step .setBit .refl) .refl)) (.step .setBit .refl)
theorem State.Leaves.fluxStep {s : State} {n : Axis} {v : Rat × Rat} {i : Rat × Rat} : State.Leaves [.od, .fresh] (fun j => j
    ≠ Od.AX_PSI_ALPHA n ∧ j ≠ Od.AX_PSI_BETA n) false s (s.fluxStep n v i) := by
  unfold State.fluxStep
  exact .step .setQ (.step .setQ (.when (fun _ => (.step .draw (.step .draw .refl))) .refl))
theorem State.Leaves.evalResidual {s : State} {n : Axis} {r2 : Rat} {t : Nat} : State.Leaves [.axes] (fun _ => True) false
    s (s.evalResidual n r2 t) := by
  unfold State.evalResidual
  exact .step .modAx .refl
theorem State.Leaves.openAccumulate {s : State} {n : Axis} {r : Recon} {v : Nat} {pred : Rat × Rat} {gap : Nat} : State.Leaves
    [.od, .axes] (fun j => j ≠ Od.OBS_OPEN_ACC_us n) false s (s.openAccumulate n r v pred gap) := by
  unfold State.openAccumulate
  exact .step .setN (.step .modAx .refl)
theorem State.Leaves.noteSaturation {s : State} {n : Axis} {pred : Rat × Rat} : State.Leaves [.axes] (fun _ => True) false
    s (s.noteSaturation n pred) := by
  unfold State.noteSaturation
  exact .step .modAx .refl
theorem State.Leaves.oddSamples {s : State} {n : Axis} {odd : List Int} {v : Rat × Rat} : State.Leaves [.od, .legs, .axes]
    (fun j => j ≠ Od.CNT_CNT_OVF_MAP ∧ (∀ x, x < 50 → j ≠ Od.SH_CH_STATUS x) ∧ (∀ x, x < 50 → j ≠ Od.SH_CORR x) ∧ (∀
    x, x < 50 → j ≠ Od.SH_CURRENT x) ∧ (∀ x, x < 50 → j ≠ Od.SH_OVR_COUNT x) ∧ (∀ x, x < 50 → j ≠ Od.SH_RAW x) ∧ (∀ x,
    x < 50 → j ≠ Od.SH_SAMPLE_TB x)) false s (s.oddSamples n odd v) := by
  unfold State.oddSamples
  exact .when (fun _ => (.step .evalResidual .refl)) (.step .takeSamples .refl)
theorem State.Leaves.measure {s : State} {n : Axis} {raw : List Int} {odd : List Int} {v : Rat × Rat} : State.Leaves [.od,
    .legs, .axes] (fun j => j ≠ Od.AX_AXIS_STATUS n ∧ j ≠ Od.AX_KCL_RES n ∧ j ≠ Od.CNT_CNT_OVF_MAP ∧ j ≠
    Od.OBS_OPEN_ACC_us n ∧ (∀ x, x < 50 → j ≠ Od.SH_CH_STATUS x) ∧ (∀ x, x < 50 → j ≠ Od.SH_CORR x) ∧ (∀ x, x < 50 → j
    ≠ Od.SH_CURRENT x) ∧ (∀ x, x < 50 → j ≠ Od.SH_OVR_COUNT x) ∧ (∀ x, x < 50 → j ≠ Od.SH_RAW x) ∧ (∀ x, x < 50 → j ≠
    Od.SH_SAMPLE_TB x)) false s (s.measure n raw odd v).1 := by
  unfold State.measure
  refine .step .modAx (.when (fun _ => (.step .modAx (.step .evalResidual .refl))) (.step .openAccumulate (.when (fun _
    => .step (?_ : State.Leaves [.od, .axes] (fun j => j ≠ Od.AX_KCL_RES n) false _ _) .refl) (.step .noteSaturation
    (.step .setBit (.step .takeSamples (.step .oddSamples .refl)))))))
  generalize Recon.meas _ = meas
  rcases meas with _ | ⟨_ | a, _ | ⟨_ | b, _ | ⟨_ | c, _ | ⟨d, l⟩⟩⟩⟩
  case cons.some.cons.some.cons.some.nil =>
    have kclWritten {u : State} (q : Rat) : State.Leaves [.od, .axes] (fun j => j ≠ Od.AX_KCL_RES n) false u
        (u.setQ (Od.AX_KCL_RES n) q) := .step .setQ .refl
    refine State.Leaves.ite (.step .modAx (kclWritten _)) (.ite (.step .modAx (kclWritten _)) ?_)
    split
    · exact .step .modAx (kclWritten _)
    · exact .step .modAx (kclWritten _)
  all_goals exact .refl
theorem State.Leaves.estimate {s : State} {n : Axis} {raw : List Int} {odd : List Int} : State.Leaves [.od, .fresh, .legs,
    .axes] (fun j => j ≠ Od.AX_AXIS_STATUS n ∧ j ≠ Od.AX_BEMF_LL_PK n ∧ j ≠ Od.AX_I_ALPHA n ∧ j ≠ Od.AX_I_BETA n ∧ j ≠
    Od.AX_KCL_RES n ∧ j ≠ Od.AX_PSI_ALPHA n ∧ j ≠ Od.AX_PSI_BETA n ∧ j ≠ Od.AX_PSI_REF_ACT n ∧ j ≠ Od.AX_SPEED_EL n ∧
    j ≠ Od.AX_TQ_EST n ∧ j ≠ Od.CNT_CNT_OVF_MAP ∧ j ≠ Od.OBS_OBS_ANGLE n ∧ j ≠ Od.OBS_OBS_SPEED n ∧ j ≠
    Od.OBS_OPEN_ACC_us n ∧ (∀ x, x < 50 → j ≠ Od.SH_CH_STATUS x) ∧ (∀ x, x < 50 → j ≠ Od.SH_CORR x) ∧ (∀ x, x < 50 → j
    ≠ Od.SH_CURRENT x) ∧ (∀ x, x < 50 → j ≠ Od.SH_OVR_COUNT x) ∧ (∀ x, x < 50 → j ≠ Od.SH_RAW x) ∧ (∀ x, x < 50 → j ≠
    Od.SH_SAMPLE_TB x) ∧ (∀ x, x < 2 → j ≠ Od.TR_SPEED x)) false s (s.estimate n raw odd).1 := by
  unfold State.estimate
  exact .step .modAx (.step .setQ (.ite (.step .setQ (.step .setQ (.step .setQ (.ite (.step .setBit (.step .setQ
    (.step .measure .refl))) (.step .fluxStep (.step .setBit (.step .setQ (.step .measure .refl)))))))) (.step
    .setSpeed (.step .setQ (.step .setQ (.step .setQ (.ite (.step .setBit (.step .setQ (.step .measure .refl))) (.step
    .fluxStep (.step .setBit (.step .setQ (.step .measure .refl)))))))))))
theorem State.Leaves.decide_ {s : State} {n : Axis} {raw : List Int} {odd : List Int} : State.Leaves [.od, .fresh, .log,
    .links, .drives, .cells, .legs, .store, .seqs, .axes, .traction, .lus, .stageIn, .lvCommand, .gbx, .dcl, .aux,
    .chg, .path] (fun j => noReaction j ∧ j ≠ Od.AX_AXIS_CNT_STATUS n ∧ j ≠ Od.AX_BEMF_LL_PK n ∧ j ≠ Od.AX_DECISIONS n
    ∧ j ≠ Od.AX_FALLBACKS n ∧ j ≠ Od.AX_KCL_RES n ∧ j ≠ Od.AX_PSI_REF_ACT n ∧ j ≠ Od.AX_SPEED_EL n ∧ j ≠
    Od.AX_SUBSTITUTIONS n ∧ j ≠ Od.AX_TQ_EST n ∧ (∀ x, x < 15 → j ≠ Od.CELL_BOOT_REFRESHES x) ∧ (∀ x, x < 15 → j ≠
    Od.CELL_COUNTER_STATUS x) ∧ (∀ x, x < 15 → j ≠ Od.CELL_FSW_DEFERRALS x) ∧ (∀ x y, x < 15 → y < 4 → j ≠
    Od.CELL_LEG_SWITCHES x y) ∧ (∀ x, x < 15 → j ≠ Od.OBS_ASC_COUNT x) ∧ j ≠ Od.OBS_OBS_ANGLE n ∧ j ≠ Od.OBS_OBS_SPEED
    n ∧ j ≠ Od.OBS_OPEN_ACC_us n ∧ (∀ x, x < 50 → j ≠ Od.SH_CORR x) ∧ (∀ x, x < 50 → j ≠ Od.SH_CURRENT x) ∧ (∀ x, x <
    50 → j ≠ Od.SH_OVR_COUNT x) ∧ (∀ x, x < 50 → j ≠ Od.SH_RAW x) ∧ (∀ x, x < 50 → j ≠ Od.SH_SAMPLE_TB x) ∧ (∀ x, x <
    2 → j ≠ Od.TR_SPEED x)) true s (s.decide_ n raw odd) := by
  unfold State.decide_
  exact .stepR .setBit (.stepR .countWide (.step .modCell (.step .modAx (.step .compare (.when (fun _ => (.stepR
    .setReference (.stepR .assistStep .refl))) (.stepR .setBit (.stepR .assistMode (.stepR .estimate .refl))))))))
theorem State.Leaves.factorEvent {s : State} {low : Bool} {last : Option Nat} {code : Nat}
    {mark : State → Option Nat → State} (hm : ∀ u o, State.Leaves [.dcl] (fun _ => True) false u (mark u o)) :
    State.Leaves [.log, .dcl] (fun _ => True) false s (s.factorEvent low last code mark) := by
  unfold State.factorEvent
  exact .ite (.step (hm _ _) (.step .lastEvent (.step .event .refl))) .refl
theorem State.Leaves.linkFactors {s : State} {g : Rat} {m : Rat} : State.Leaves [.od, .log, .dcl] (fun j => j ≠
    Od.DCL_DCL_STATUS ∧ j ≠ Od.DCL_GEN_FACTOR ∧ j ≠ Od.DCL_MOT_FACTOR) false s (s.linkFactors g m) := by
  unfold State.linkFactors
  exact .step (.factorEvent fun _ _ => .step .modDcl .refl) (.step (.factorEvent fun _ _ => .step .modDcl .refl)
    (.step .setBit (.step .setBit (.step .setQ (.step .setQ .refl)))))
theorem State.Leaves.uvHold {s : State} {v : Rat} : State.Leaves [.dcl] (fun _ => True) false s (s.uvHold v) := by
  unfold State.uvHold
  exact .step .modDcl .refl
theorem State.Leaves.linkDecision {s : State} : State.Leaves [.od, .log, .links, .drives, .cells, .legs, .store,
    .seqs, .axes, .traction, .lus, .stageIn, .lvCommand, .gbx, .dcl, .aux, .chg, .path] (fun j => noReaction j ∧ j ≠
    Od.DCL_GEN_FACTOR ∧ j ≠ Od.DCL_MOT_FACTOR ∧ j ≠ Od.DCL_V_DC ∧ j ≠ Od.DCL_V_DC_MAX ∧ (∀ x, x < 15 → j ≠
    Od.OBS_ASC_COUNT x)) true s (s.linkDecision) := by
  unfold State.linkDecision
  exact .ite (.step .raise (.stepR .setBit (.step .uvHold (.stepR .linkFactors (.when (fun _ => (.stepR .setQ .refl))
    (.stepR .setQ .refl)))))) (.step .uvHold (.stepR .linkFactors (.when (fun _ => (.stepR .setQ .refl)) (.stepR .setQ
    .refl))))
theorem State.Leaves.stopDue {s : State} {n : Axis} : State.Leaves [.od, .log, .links, .drives, .cells, .legs, .store,
    .seqs, .axes, .traction, .lus, .stageIn, .lvCommand, .gbx, .dcl, .aux, .chg, .path] (fun j => noReaction j) true s
    (s.stopDue n) := by
  unfold State.stopDue
  exact .ite (.step .stoppedIfCoasting (.stepR .coastCell .refl)) .refl
theorem State.Leaves.noteLimits {s : State} {t : Fin 2} : State.Leaves [.od] (fun j => j ≠ Od.TR_DRIVE_STATUS t ∧ j ≠
    Od.TR_LIMIT_SRC t ∧ j ≠ Od.TR_TQ_LIM_GEN_ACT t ∧ j ≠ Od.TR_TQ_LIM_MOT_ACT t) false s (s.noteLimits t) := by
  unfold State.noteLimits
  exact .step .setBit (.step .setBit (.step .setBit (.step .setN (.step .setQ (.step .setQ .refl)))))
theorem State.Leaves.rampStep {s : State} {t : Fin 2} : State.Leaves [.od, .gbx] (fun j => j ≠ Od.AXLE_LIMIT_AXLE_A +
    t ∧ j ≠ Od.TR_DRIVE_STATUS t ∧ j ≠ Od.TR_LIMIT_SRC t ∧ j ≠ Od.TR_TQ_LIM_GEN_ACT t ∧ j ≠ Od.TR_TQ_LIM_MOT_ACT t ∧ j
    ≠ Od.TR_TQ_RAMP t) false s (s.rampStep t) := by
  unfold State.rampStep
  exact .step .noteLimits (.when (fun _ => (.step .setQ .refl)) (.step .moveLimit .refl))
theorem State.Leaves.crossAngle {s : State} {t : Fin 2} : State.Leaves [.od, .traction] (fun j => (∀ x, x < 8 → j ≠
    Od.OBS_OBS_STATUS x) ∧ (∀ x, x < 8 → j ≠ Od.OBS_XSET_ANGLE x)) false s (s.crossAngle t) := by
  unfold State.crossAngle
  exact .ite (.step .modTr (.each (fun _ _ _ => (.step .setBit (.step .setQ .refl))) .refl)) (.step .modTr (.each (fun
    _ _ _ => (.step .setBit .refl)) .refl))
theorem State.Leaves.driveStep {s : State} {n : Axis} : State.Leaves [.od, .traction, .gbx] (fun j => (∀ x, x < 2 → j
    ≠ Od.AXLE_LIMIT_AXLE_A + x) ∧ (∀ x, x < 8 → j ≠ Od.OBS_OBS_STATUS x) ∧ j ≠ Od.OBS_SET_TQ_MAX_ACT n ∧ (∀ x, x < 8 →
    j ≠ Od.OBS_XSET_ANGLE x) ∧ (∀ x, x < 2 → j ≠ Od.TR_DRIVE_STATUS x) ∧ (∀ x, x < 2 → j ≠ Od.TR_LIMIT_SRC x) ∧ (∀ x,
    x < 2 → j ≠ Od.TR_TQ_LIM_GEN_ACT x) ∧ (∀ x, x < 2 → j ≠ Od.TR_TQ_LIM_MOT_ACT x) ∧ (∀ x, x < 2 → j ≠ Od.TR_TQ_RAMP
    x)) false s (s.driveStep n) := by
  unfold State.driveStep
  exact .step .setQ (.when (fun _ => (.step .crossAngle (.step .rampStep .refl))) .refl)
theorem State.Leaves.axisDecision {s : State} {n : Axis} {raw : List Int} {odd : List Int} {vBus : Rat} : State.Leaves [.od,
    .fresh, .log, .links, .drives, .cells, .legs, .store, .seqs, .axes, .traction, .lus, .stageIn, .lvCommand, .gbx,
    .dcl, .aux, .chg, .path] (fun j => noReaction j ∧ j ≠ Od.AX_AXIS_CNT_STATUS n ∧ (∀ x, x < 8 → j ≠ Od.AX_BEMF_LL_PK
    x) ∧ j ≠ Od.AX_DECISIONS n ∧ j ≠ Od.AX_FALLBACKS n ∧ j ≠ Od.AX_FSW_LEG_AVG n ∧ j ≠ Od.AX_INNOV_MAX n ∧ j ≠
    Od.AX_KCL_RES n ∧ j ≠ Od.AX_PSI_REF_ACT n ∧ (∀ x, x < 8 → j ≠ Od.AX_SPEED_EL x) ∧ j ≠ Od.AX_SUBSTITUTIONS n ∧ j ≠
    Od.AX_TQ_EST n ∧ j ≠ Od.AX_UNMEAS_MAX_ns n ∧ j ≠ Od.AX_V_BUS n ∧ (∀ x, x < 15 → j ≠ Od.CELL_BOOT_REFRESHES x) ∧ (∀
    x, x < 15 → j ≠ Od.CELL_COUNTER_STATUS x) ∧ (∀ x, x < 15 → j ≠ Od.CELL_FSW_DEFERRALS x) ∧ (∀ x y, x < 15 → y < 4 →
    j ≠ Od.CELL_LEG_SWITCHES x y) ∧ j ≠ Od.DCL_GEN_FACTOR ∧ j ≠ Od.DCL_MOT_FACTOR ∧ j ≠ Od.DCL_V_DC ∧ j ≠
    Od.DCL_V_DC_MAX ∧ (∀ x, x < 15 → j ≠ Od.OBS_ASC_COUNT x) ∧ (∀ x, x < 8 → j ≠ Od.OBS_CATCH_COUNT x) ∧ (∀ x, x < 8 →
    j ≠ Od.OBS_OBS_ANGLE x) ∧ (∀ x, x < 8 → j ≠ Od.OBS_OBS_SPEED x) ∧ (∀ x, x < 8 → j ≠ Od.OBS_OPEN_ACC_us x) ∧ (∀ x,
    x < 8 → j ≠ Od.OBS_PROBE_COUNT x) ∧ j ≠ Od.OBS_RESID n ∧ j ≠ Od.OBS_SET_TQ_MAX_ACT n ∧ (∀ x, x < 8 → j ≠
    Od.OBS_XSET_ANGLE x) ∧ (∀ x, x < 50 → j ≠ Od.SH_CORR x) ∧ (∀ x, x < 50 → j ≠ Od.SH_CURRENT x) ∧ (∀ x, x < 50 → j ≠
    Od.SH_OVR_COUNT x) ∧ (∀ x, x < 50 → j ≠ Od.SH_RAW x) ∧ (∀ x, x < 50 → j ≠ Od.SH_SAMPLE_TB x) ∧ (∀ x, x < 2 → j ≠
    Od.TR_DRIVE_STATUS x) ∧ (∀ x, x < 2 → j ≠ Od.TR_LIMIT_SRC x) ∧ (∀ x, x < 2 → j ≠ Od.TR_SPEED x) ∧ (∀ x, x < 2 → j
    ≠ Od.TR_TQ_ACT x) ∧ (∀ x, x < 2 → j ≠ Od.TR_TQ_LIM_GEN_ACT x) ∧ (∀ x, x < 2 → j ≠ Od.TR_TQ_LIM_MOT_ACT x)) true s
    (s.axisDecision n raw odd vBus) := by
  unfold State.axisDecision
  exact .ite .refl (.when (fun _ => (.stepR .tqAct .refl)) (.stepR .axisWindow (.ite (.step .decide_ (.when (fun _ =>
    (.stepR .driveStep (.step .stopDue (.step .linkDecision .refl)))) (.stepR .setQ (.step .modAx .refl)))) (.step
    .idle (.when (fun _ => (.stepR .driveStep (.step .stopDue (.step .linkDecision .refl)))) (.stepR .setQ (.step
    .modAx .refl)))))))
theorem ResLeaves.execAxisDecision {dt : Nat} {n : Axis} {raw : List Int} {odd : List Int} {vBus : Rat} {s : State} :
    ResLeaves [.od, .tb, .fresh, .out, .log, .links, .drives, .cells, .legs, .store, .seqs, .axes, .traction, .lus,
    .stageIn, .lvCommand, .gbx, .dcl, .aux, .chg, .path] (fun j => noReaction j ∧ j ≠ Od.AX_AXIS_CNT_STATUS n ∧ (∀ x,
    x < 8 → j ≠ Od.AX_BEMF_LL_PK x) ∧ j ≠ Od.AX_DECISIONS n ∧ j ≠ Od.AX_FALLBACKS n ∧ j ≠ Od.AX_FSW_LEG_AVG n ∧ j ≠
    Od.AX_INNOV_MAX n ∧ j ≠ Od.AX_KCL_RES n ∧ j ≠ Od.AX_PSI_REF_ACT n ∧ (∀ x, x < 8 → j ≠ Od.AX_SPEED_EL x) ∧ j ≠
    Od.AX_SUBSTITUTIONS n ∧ j ≠ Od.AX_TQ_EST n ∧ j ≠ Od.AX_UNMEAS_MAX_ns n ∧ j ≠ Od.AX_V_BUS n ∧ (∀ x, x < 15 → j ≠
    Od.CELL_BOOT_REFRESHES x) ∧ (∀ x, x < 15 → j ≠ Od.CELL_COUNTER_STATUS x) ∧ (∀ x, x < 15 → j ≠
    Od.CELL_FSW_DEFERRALS x) ∧ (∀ x y, x < 15 → y < 4 → j ≠ Od.CELL_LEG_SWITCHES x y) ∧ j ≠ Od.DCL_GEN_FACTOR ∧ j ≠
    Od.DCL_MOT_FACTOR ∧ j ≠ Od.DCL_V_DC ∧ j ≠ Od.DCL_V_DC_MAX ∧ (∀ x, x < 15 → j ≠ Od.OBS_ASC_COUNT x) ∧ (∀ x, x < 8 →
    j ≠ Od.OBS_CATCH_COUNT x) ∧ (∀ x, x < 8 → j ≠ Od.OBS_OBS_ANGLE x) ∧ (∀ x, x < 8 → j ≠ Od.OBS_OBS_SPEED x) ∧ (∀ x,
    x < 8 → j ≠ Od.OBS_OPEN_ACC_us x) ∧ (∀ x, x < 8 → j ≠ Od.OBS_PROBE_COUNT x) ∧ j ≠ Od.OBS_RESID n ∧ j ≠
    Od.OBS_SET_TQ_MAX_ACT n ∧ (∀ x, x < 8 → j ≠ Od.OBS_XSET_ANGLE x) ∧ (∀ x, x < 50 → j ≠ Od.SH_CORR x) ∧ (∀ x, x < 50
    → j ≠ Od.SH_CURRENT x) ∧ (∀ x, x < 50 → j ≠ Od.SH_OVR_COUNT x) ∧ (∀ x, x < 50 → j ≠ Od.SH_RAW x) ∧ (∀ x, x < 50 →
    j ≠ Od.SH_SAMPLE_TB x) ∧ (∀ x, x < 2 → j ≠ Od.TR_DRIVE_STATUS x) ∧ (∀ x, x < 2 → j ≠ Od.TR_LIMIT_SRC x) ∧ (∀ x, x
    < 2 → j ≠ Od.TR_SPEED x) ∧ (∀ x, x < 2 → j ≠ Od.TR_TQ_ACT x) ∧ (∀ x, x < 2 → j ≠ Od.TR_TQ_LIM_GEN_ACT x) ∧ (∀ x, x
    < 2 → j ≠ Od.TR_TQ_LIM_MOT_ACT x)) true s (execAxisDecision dt n raw odd vBus s) := by
  unfold Machine.execAxisDecision
  exact .reply (.step .axisDecision (.step .elapse .refl))
theorem ResLeaves.execGcpClearWrite {dt : Nat} {who : Requester} {n : Fin 16} {value : BitVec 8} {s : State} : ResLeaves
    [.od, .tb, .out, .log, .seqs, .gcps, .sessions] (fun j => noAccess j ∧ j ≠ Od.GCP_GCP_STATUS n ∧ (∀ x, x < 4 → j ≠
    Od.GC_GC_STATUS x) ∧ (∀ x, x < 4 → j ≠ Od.GC_SUSPENDS x) ∧ (∀ x, x < 8 → j ≠ Od.SQ_SQ_STATUS x) ∧ (∀ x, x < 8 → j
    ≠ Od.SQ_TRIG_OVERRUNS x)) false s (execGcpClearWrite dt who n value s) := by
  unfold Machine.execGcpClearWrite
  exact .reply (.step .writeGcpClear (.step .elapse .refl))
theorem State.Leaves.gcpCross {s : State} {n : Fin 16} {code : Nat} : State.Leaves [.od, .log, .seqs, .gcps] (fun j => j
    ≠ Od.CNT_CNT_OVF_MAP ∧ j ≠ Od.GCP_CROSS_COUNT n ∧ j ≠ Od.GCP_GCP_STATUS n ∧ j ≠ Od.GCP_LAST_CROSS_TB n ∧ (∀ x, x <
    4 → j ≠ Od.GC_GC_STATUS x) ∧ (∀ x, x < 4 → j ≠ Od.GC_SUSPENDS x) ∧ (∀ x, x < 8 → j ≠ Od.SQ_SQ_STATUS x) ∧ (∀ x, x
    < 8 → j ≠ Od.SQ_TRIG_OVERRUNS x)) false s (s.gcpCross n code) := by
  unfold State.gcpCross
  exact .ite (.when (fun _ => (.step .gcpFire .refl)) (.when (fun _ => (.step .event .refl)) (.step .modGcp (.step
    .setN (.step .count (.step .setBit (.step .setBit (.step .setBit .refl)))))))) (.step .setBit (.step .setBit
    .refl))
theorem State.Leaves.gcpInput {s : State} {n : Fin 16} {code : Nat} {held : Nat} : State.Leaves [.od, .log, .seqs, .gcps]
    (fun j => j ≠ Od.CNT_CNT_OVF_MAP ∧ j ≠ Od.GCP_CROSS_COUNT n ∧ j ≠ Od.GCP_GCP_STATUS n ∧ j ≠ Od.GCP_LAST_CROSS_TB n
    ∧ (∀ x, x < 4 → j ≠ Od.GC_GC_STATUS x) ∧ (∀ x, x < 4 → j ≠ Od.GC_SUSPENDS x) ∧ (∀ x, x < 8 → j ≠ Od.SQ_SQ_STATUS
    x) ∧ (∀ x, x < 8 → j ≠ Od.SQ_TRIG_OVERRUNS x)) false s (s.gcpInput n code held) := by
  unfold State.gcpInput
  exact .ite (.step .gcpCross .refl) .refl
theorem ResLeaves.execGeneralComparatorCrossing {dt : Nat} {n : Fin 16} {x : HeldCode} {s : State} : ResLeaves [.od,
    .tb, .out, .log, .seqs, .gcps] (fun j => j ≠ Od.CNT_CNT_OVF_MAP ∧ j ≠ Od.GCP_CROSS_COUNT n ∧ j ≠ Od.GCP_GCP_STATUS
    n ∧ j ≠ Od.GCP_LAST_CROSS_TB n ∧ (∀ x, x < 4 → j ≠ Od.GC_GC_STATUS x) ∧ (∀ x, x < 4 → j ≠ Od.GC_SUSPENDS x) ∧ (∀
    x, x < 8 → j ≠ Od.SQ_SQ_STATUS x) ∧ (∀ x, x < 8 → j ≠ Od.SQ_TRIG_OVERRUNS x)) false s
    (execGeneralComparatorCrossing dt n x s) := by
  unfold Machine.execGeneralComparatorCrossing
  exact .reply (.step .gcpInput (.step .elapse .refl))
theorem ResLeaves.execSqCtrlWrite {dt : Nat} {who : Requester} {n : Fin 8} {value : BitVec 32} {s : State} : ResLeaves
    [.od, .tb, .out, .log, .seqs, .sessions] (fun j => noAccess j ∧ (∀ x, x < 4 → j ≠ Od.GC_GC_STATUS x) ∧ (∀ x, x < 4
    → j ≠ Od.GC_SUSPENDS x) ∧ j ≠ Od.SQ_SQ_CTRL n ∧ j ≠ Od.SQ_SQ_STATUS n ∧ j ≠ Od.SQ_TRIG_OVERRUNS n) false s
    (execSqCtrlWrite dt who n value s) := by
  unfold Machine.execSqCtrlWrite
  exact .reply (.step .writeSqCtrl (.step .elapse .refl))
theorem State.Leaves.seqNext {s : State} {n : Fin 8} : State.Leaves [.od, .log, .seqs] (fun j => j ≠
    Od.CNT_CNT_OVF_MAP ∧ (∀ x, x < 4 → j ≠ Od.GC_GC_STATUS x) ∧ (∀ x, x < 4 → j ≠ Od.GC_SUSPENDS x) ∧ j ≠
    Od.SQ_SQ_STATUS n ∧ j ≠ Od.SQ_TRIG_OVERRUNS n) false s (s.seqNext n) := by
  unfold State.seqNext
  exact .when (fun _ => (.step .seqTrigger .refl)) (.ite (.step .modSeq (.when (fun _ => (.step .modSeq .refl))
    .refl)) (.ite (.step .seqStart (.when (fun _ => (.step .modSeq .refl)) .refl)) (.when (fun _ => (.step .modSeq
    .refl)) .refl)))
theorem State.Leaves.luSeqTrigger {s : State} {q : Fin 8} : State.Leaves [.lus] (fun _ => True) false s
    (s.luSeqTrigger q) := by
  unfold State.luSeqTrigger
  exact .each (fun _ _ _ => (.ite (.step .modLu .refl) .refl)) .refl
theorem State.Leaves.batteryResult {s : State} {v : Rat} {i : Rat} : State.Leaves [.od, .log, .links, .legs, .traction,
    .lus, .stageIn, .lvCommand, .gbx, .aux, .chg, .path] (fun j => noReaction j ∧ j ≠ Od.LV_I_BAT ∧ j ≠ Od.LV_V_BAT)
    true s (s.batteryResult v i) := by
  unfold State.batteryResult
  exact .ite (.step .event (.stepR .setLvState (.stepR .setBit (.stepR .setBit (.stepR .setBit (.stepR .lowerVr
    (.stepR .setBatSw (.stepR .setBit (.step .modPath (.stepR .senseBatI (.stepR .senseBat .refl))))))))))) (.stepR
    .setBit (.step .modPath (.stepR .senseBatI (.stepR .senseBat .refl))))
theorem State.Leaves.lineResult {s : State} {v : List Rat} : State.Leaves [.od, .chg] (fun j => j ≠ Od.CHR_F_LINE ∧ (∀
    x, x < 3 → j ≠ Od.CHR_V x)) false s (s.lineResult v) := by
  unfold State.lineResult
  exact .ite (.step .modChg (.ite (.step .modChg (by split; exacts [(.step .setQ .refl), .refl])) .refl)) (.step
    .modChg (.each (fun _ _ _ => (.step .setQ .refl)) (.ite (.step .modChg (by split; exacts [(.step .setQ .refl),
    .refl])) .refl)))
theorem State.Leaves.identEmf {s : State} {n : Axis} {e2 : Rat} {w : Rat} : State.Leaves [.od, .log, .links, .drives,
    .cells, .legs, .store, .seqs, .axes, .traction, .lus, .stageIn, .lvCommand, .gbx, .dcl, .aux, .chg, .path] (fun j
    => noReaction j) true s (s.identEmf n e2 w) := by
  unfold State.identEmf
  exact .ite (.step .identEnd (.stepR .abortIdent .refl)) (.ite (.step .modAx .refl) .refl)
theorem State.Leaves.trackSet {s : State} {n : Axis} {va : Rat} {vb : Rat} {vc : Rat} : State.Leaves [.od, .log, .links,
    .drives, .cells, .legs, .store, .seqs, .axes, .traction, .lus, .stageIn, .lvCommand, .gbx, .dcl, .aux, .chg,
    .path] (fun j => noReaction j) true s (s.trackSet n va vb vc) := by
  unfold State.trackSet
  exact .ite (.step .identEmf (.step .modAx .refl)) (.stepR .setBit (.step .modAx .refl))
theorem State.Leaves.trackSets {s : State} {v : Nat → Rat} : State.Leaves [.od, .log, .links, .drives, .cells, .legs,
    .store, .seqs, .axes, .traction, .lus, .stageIn, .lvCommand, .gbx, .dcl, .aux, .chg, .path] (fun j => noReaction
    j) true s (s.trackSets v) := by
  unfold State.trackSets
  exact .each (fun _ _ _ => (.step .trackSet .refl)) .refl
theorem State.Leaves.publish {s : State} {n : Fin 8} {results : List Nat} : State.Leaves [.od, .log, .links, .drives,
    .cells, .legs, .store, .seqs, .axes, .traction, .lus, .stageIn, .lvCommand, .gbx, .dcl, .aux, .chg, .path] (fun j
    => noReaction j ∧ j ≠ Od.CHR_F_LINE ∧ (∀ x, x < 3 → j ≠ Od.CHR_V x) ∧ j ≠ Od.CHR_V_PFC ∧ j ≠ Od.CNV_V_AUX48 ∧ j ≠
    Od.CNV_V_IB ∧ j ≠ Od.CNV_V_VR ∧ j ≠ Od.DCL_V_DC_GC ∧ j ≠ Od.LV_I_BAT ∧ j ≠ Od.LV_V_BAT ∧ (∀ x, x < 8 → j ≠
    Od.SOL_I_ACT x)) true s (s.publish n results) := by
  unfold State.publish
  dsimp only
  split
  · exact .step .trackSets (.step .setQ .refl)
  · exact .step .modChg (.step .setQ (.step .lineResult .refl))
  · exact .step .batteryResult (.when (fun _ => .stepR .solenoidsOff .refl) (.step .senseVr (.step .setQ (.step .senseIb
      (.each (fun i hi _ => .step .solTrack (.step .setQ .refl (by simp +contextual only [List.mem_range.1 hi, ne_eq, not_false_eq_true, and_self, implies_true, Fin.val_lt_of_le, Nat.reduceLeDiff, Nat.reduceLT])) (by simp +contextual only [List.mem_range.1 hi, noReaction, ne_eq, not_false_eq_true, and_self, implies_true, Fin.val_lt_of_le, Nat.reduceLeDiff, Nat.reduceLT])) .refl)))))
  · exact .refl
theorem State.Leaves.referenceCheck {s : State} {n : Fin 8} {results : List Nat} : State.Leaves [.od, .log] (fun j => (∀
    x, x < 4 → j ≠ Od.GC_GC_STATUS x) ∧ (∀ x, x < 4 → j ≠ Od.GC_REF_CODE x) ∧ (∀ x, x < 8 → j ≠ Od.SQ_SQ_STATUS x))
    false s (s.referenceCheck n results) := by
  unfold State.referenceCheck
  exact by dsimp only; split; exacts [.refl, (.when (fun _ => (.step .event .refl)) (.each (fun _ _ _ => (.step .setBit .refl))
    (.step .setBit (.step .setN .refl))))]
theorem State.Leaves.seqComplete {s : State} {n : Fin 8} : State.Leaves [.od, .log, .links, .drives, .cells, .legs,
    .store, .seqs, .axes, .traction, .lus, .stageIn, .lvCommand, .gbx, .dcl, .aux, .chg, .path] (fun j => noReaction j
    ∧ j ≠ Od.CHR_F_LINE ∧ (∀ x, x < 3 → j ≠ Od.CHR_V x) ∧ j ≠ Od.CHR_V_PFC ∧ j ≠ Od.CNV_V_AUX48 ∧ j ≠ Od.CNV_V_IB ∧ j
    ≠ Od.CNV_V_VR ∧ j ≠ Od.DCL_V_DC_GC ∧ (∀ x, x < 4 → j ≠ Od.GC_REF_CODE x) ∧ j ≠ Od.LV_I_BAT ∧ j ≠ Od.LV_V_BAT ∧ (∀
    x, x < 8 → j ≠ Od.SOL_I_ACT x) ∧ (∀ x, x < 32 → j ≠ Od.SQ_RESULT n x) ∧ j ≠ Od.SQ_SEQ_COUNT n ∧ j ≠ Od.SQ_SEQ_TB
    n) true s (s.seqComplete n) := by
  have hresults (x : SeqSt) : State.Leaves [.od] (fun j => ∀ x, x < 32 → j ≠ Od.SQ_RESULT n x) false s
      (s.each (List.range (min 32 x.hidden.length)) fun i s => s.setN (Od.SQ_RESULT n i) (x.hidden.getD i 0)) :=
    .each (fun i hi _ => .step .setN .refl fun _ hj => hj _ (by have := List.mem_range.1 hi; omega)) .refl
  unfold State.seqComplete
  exact .step .luSeqTrigger (.step .modSeq (.when (fun _ => .step .publish .refl) (.stepR .referenceCheck (.stepR .setBit
    (.ite (.stepR .setN (.step .modSeq (.stepR .setN (.step (hresults _) .refl))))
      (.step .event (.stepR .setN (.step .modSeq (.stepR .setN (.step (hresults _) .refl))))))))))
theorem State.Leaves.seqYieldBack {s : State} {n : Fin 8} : State.Leaves [.od, .seqs] (fun j => j ≠ Od.CNT_CNT_OVF_MAP
    ∧ (∀ x, x < 4 → j ≠ Od.GC_GC_STATUS x) ∧ (∀ x, x < 4 → j ≠ Od.GC_SUSPENDS x)) false s (s.seqYieldBack n) := by
  unfold State.seqYieldBack
  exact .ite (.ite (.step .seqStart (.ite (.step .seqSuspend .refl) .refl)) (.step .modSeq (.ite (.step .seqSuspend
    .refl) .refl))) .refl
theorem State.Leaves.seqSample {s : State} {n : Fin 8} {code : Nat} : State.Leaves [.od, .log, .links, .drives, .cells,
    .legs, .store, .seqs, .axes, .traction, .lus, .stageIn, .lvCommand, .gbx, .dcl, .aux, .chg, .path] (fun j =>
    noReaction j ∧ j ≠ Od.CHR_F_LINE ∧ (∀ x, x < 3 → j ≠ Od.CHR_V x) ∧ j ≠ Od.CHR_V_PFC ∧ j ≠ Od.CNV_V_AUX48 ∧ j ≠
    Od.CNV_V_IB ∧ j ≠ Od.CNV_V_VR ∧ j ≠ Od.DCL_V_DC_GC ∧ (∀ x, x < 4 → j ≠ Od.GC_REF_CODE x) ∧ j ≠ Od.LV_I_BAT ∧ j ≠
    Od.LV_V_BAT ∧ (∀ x, x < 8 → j ≠ Od.SOL_I_ACT x) ∧ (∀ x, x < 32 → j ≠ Od.SQ_RESULT n x) ∧ j ≠ Od.SQ_SEQ_COUNT n ∧ j
    ≠ Od.SQ_SEQ_TB n) true s (s.seqSample n code) := by
  unfold State.seqSample
  exact .ite (.step .modSeq .refl) (.ite (.stepR .seqYieldBack (.step .modSeq .refl)) (.ite (.stepR .seqYieldBack
    (.step .seqComplete (.step .modSeq .refl))) (.stepR .seqNext (.step .seqComplete (.step .modSeq .refl)))))
theorem ResLeaves.execConversionComplete {dt : Nat} {g : Fin 4} {code : BitVec 12} {s : State} : ResLeaves [.od, .tb,
    .out, .log, .links, .drives, .cells, .legs, .store, .seqs, .axes, .traction, .lus, .stageIn, .lvCommand, .gbx,
    .dcl, .aux, .chg, .path] (fun j => noReaction j ∧ j ≠ Od.CHR_F_LINE ∧ (∀ x, x < 3 → j ≠ Od.CHR_V x) ∧ j ≠
    Od.CHR_V_PFC ∧ j ≠ Od.CNV_V_AUX48 ∧ j ≠ Od.CNV_V_IB ∧ j ≠ Od.CNV_V_VR ∧ j ≠ Od.DCL_V_DC_GC ∧ (∀ x, x < 4 → j ≠
    Od.GC_REF_CODE x) ∧ j ≠ Od.LV_I_BAT ∧ j ≠ Od.LV_V_BAT ∧ (∀ x, x < 8 → j ≠ Od.SOL_I_ACT x) ∧ (∀ x y, x < 8 → y < 32
    → j ≠ Od.SQ_RESULT x y) ∧ (∀ x, x < 8 → j ≠ Od.SQ_SEQ_COUNT x) ∧ (∀ x, x < 8 → j ≠ Od.SQ_SEQ_TB x)) true s
    (execConversionComplete dt g code s) := by
  unfold Machine.execConversionComplete
  exact .reply (by split; exacts [(.step .seqSample (.step .elapse .refl)), (.step .elapse .refl)])
theorem ResLeaves.execSwTriggerWrite {dt : Nat} {who : Requester} {n : Fin 8} {value : BitVec 8} {s : State} : ResLeaves
    [.od, .tb, .out, .log, .seqs, .sessions] (fun j => noAccess j ∧ (∀ x, x < 4 → j ≠ Od.GC_GC_STATUS x) ∧ (∀ x, x < 4
    → j ≠ Od.GC_SUSPENDS x) ∧ j ≠ Od.SQ_SQ_STATUS n ∧ j ≠ Od.SQ_TRIG_OVERRUNS n) false s (execSwTriggerWrite dt who n
    value s) := by
  unfold Machine.execSwTriggerWrite
  exact .reply (.step .writeSwTrigger (.step .elapse .refl))
theorem State.Leaves.seqPeriodic {s : State} {n : Fin 8} : State.Leaves [.od, .log, .seqs] (fun j => j ≠
    Od.CNT_CNT_OVF_MAP ∧ (∀ x, x < 4 → j ≠ Od.GC_GC_STATUS x) ∧ (∀ x, x < 4 → j ≠ Od.GC_SUSPENDS x) ∧ j ≠
    Od.SQ_SQ_STATUS n ∧ j ≠ Od.SQ_TRIG_OVERRUNS n) false s (s.seqPeriodic n) := by
  unfold State.seqPeriodic
  exact .ite (.step .seqTrigger (.step .modSeq .refl)) .refl
theorem ResLeaves.execSequencerTrigger {dt : Nat} {n : Fin 8} {s : State} : ResLeaves [.od, .tb, .out, .log, .seqs] (fun
    j => j ≠ Od.CNT_CNT_OVF_MAP ∧ (∀ x, x < 4 → j ≠ Od.GC_GC_STATUS x) ∧ (∀ x, x < 4 → j ≠ Od.GC_SUSPENDS x) ∧ j ≠
    Od.SQ_SQ_STATUS n ∧ j ≠ Od.SQ_TRIG_OVERRUNS n) false s (execSequencerTrigger dt n s) := by
  unfold Machine.execSequencerTrigger
  exact .reply (.step .seqPeriodic (.step .elapse .refl))
theorem State.Leaves.luCellTrigger {s : State} {c : Cell} : State.Leaves [.lus] (fun _ => True) false s
    (s.luCellTrigger c) := by
  unfold State.luCellTrigger
  exact .each (fun _ _ _ => (.ite (.ite (.step .modLu .refl) (.step .modLu .refl)) .refl)) .refl
theorem State.Leaves.periodStart {s : State} {c : Cell} : State.Leaves [.od, .log, .links, .drives, .cells, .legs,
    .store, .seqs, .gcps, .axes, .traction, .lus, .stageIn, .lvCommand, .gbx, .dcl, .aux, .chg, .path] (fun j =>
    noReaction j ∧ j ≠ Od.CELL_BOOT_REFRESHES c ∧ j ≠ Od.CELL_COUNTER_STATUS c ∧ (∀ x, x < 16 → j ≠ Od.GCP_GCP_STATUS
    x) ∧ (∀ x, x < 15 → j ≠ Od.OBS_ASC_COUNT x)) true s (s.periodStart c) := by
  unfold State.periodStart
  exact .when (fun _ => (.step .forcedRefresh .refl)) (.step .luCellTrigger (.each (fun _ _ _ => (.ite (.stepR
    .seqTrigger .refl) .refl)) (.each (fun _ _ _ => (.ite (.stepR .gcpClear .refl) .refl)) .refl)))
theorem State.Leaves.packPeriod {s : State} : State.Leaves [.od, .chg] (fun j => j ≠ Od.CHR_CHG_STATUS) false s
    (s.packPeriod) := by
  unfold State.packPeriod
  exact .step .setBit (.step .modChg .refl)
theorem State.Leaves.buckWindow {s : State} {hits : List Bool} : State.Leaves [.od, .log, .aux] (fun j => j ≠
    Od.CNV_AUX_STATUS) false s (s.buckWindow hits) := by
  unfold State.buckWindow
  exact .ite (.step .modAux .refl) (.when (fun _ => (.step .auxEvent .refl)) (.step .modAux (.step .setBit (.step
    .modAux .refl))))
theorem State.Leaves.buckCommand {s : State} : State.Leaves [.od, .lus] (fun j => j ≠ Od.LV_LV_STATUS) false s
    (s.buckCommand).1 := by
  unfold State.buckCommand
  rw [apply_ite Prod.fst, apply_ite Prod.fst]
  exact .ite .refl (.ite (.step .setBit (.step .modLu (.step .modLu .refl))) (.step .setBit .refl))
theorem State.Leaves.noteValleys {s : State} : State.Leaves [.aux] (fun _ => True) false s (s.noteValleys) := by
  unfold State.noteValleys
  exact .step .modAux .refl
theorem State.Leaves.buckPeriod {s : State} : State.Leaves [.od, .log, .lus, .aux] (fun j => j ≠ Od.CNV_AUX_STATUS ∧ j
    ≠ Od.LV_LV_STATUS) false s (s.buckPeriod) := by
  unfold State.buckPeriod
  exact .ite (.step .buckWindow (.step .setBit (.step .buckCommand (.step .modAux (.ite .refl (.step .noteValleys
    .refl)))))) (.ite .refl (.step .noteValleys .refl))
theorem State.Leaves.phaseStart {s : State} {c : Cell} : State.Leaves [.od, .links, .cells, .stageIn] (fun j => j ≠
    Od.CNV_DAB_PHASE) false s (s.phaseStart c) := by
  unfold State.phaseStart
  exact .each (fun _ _ _ => .each (fun _ _ _ => .step .applyLinkCmd .refl) (.step .modLink .refl)) .refl
theorem State.Leaves.stageTime {s : State} {c : Cell} : State.Leaves [.cells] (fun _ => True) false s (s.stageTime c)
    := by
  unfold State.stageTime
  exact .step .modCell .refl
theorem State.Leaves.stagePulse {s : State} {l : Leg} {a : Nat} {b : Nat} : State.Leaves [.od, .legs] (fun j => (∀ x y, x
    < 15 → y < 4 → j ≠ Od.CELL_LEG_SWITCHES x y)) false s (s.stagePulse l a b) := by
  unfold State.stagePulse
  exact .ite (.step .modLeg .refl) (.ite (.step .modLeg .refl) (.step .countWide (.step .modLeg .refl)))
theorem State.Leaves.stageLeg {s : State} {l : Leg} {a : Nat} {b : Nat} : State.Leaves [.od, .legs] (fun j => (∀ x, x < 15
    → j ≠ Od.CELL_COUNTER_STATUS x) ∧ (∀ x, x < 15 → j ≠ Od.CELL_FSW_DEFERRALS x) ∧ (∀ x y, x < 15 → y < 4 → j ≠
    Od.CELL_LEG_SWITCHES x y) ∧ j ≠ Od.CNT_CNT_OVF_MAP) false s (s.stageLeg l a b) := by
  unfold State.stageLeg
  exact .ite (.step .stagePulse .refl) (.step .count (.step .modLeg .refl))
theorem State.Leaves.stageCycles {s : State} {c : Cell} {pulses : List (Nat × Nat)} : State.Leaves [.od, .legs] (fun j =>
    (∀ x, x < 15 → j ≠ Od.CELL_COUNTER_STATUS x) ∧ (∀ x, x < 15 → j ≠ Od.CELL_FSW_DEFERRALS x) ∧ (∀ x y, x < 15 → y <
    4 → j ≠ Od.CELL_LEG_SWITCHES x y) ∧ j ≠ Od.CNT_CNT_OVF_MAP) false s (s.stageCycles c pulses) := by
  unfold State.stageCycles
  exact .each (fun _ _ _ => (by split; exacts [.refl, (.ite .refl (.step .stageLeg .refl))])) .refl
theorem State.Leaves.stagePeriod {s : State} {c : Cell} {pulses : List (Nat × Nat)} : State.Leaves [.od, .log, .links,
    .cells, .legs, .lus, .stageIn, .aux, .chg] (fun j => (∀ x, x < 15 → j ≠ Od.CELL_COUNTER_STATUS x) ∧ (∀ x, x < 15 →
    j ≠ Od.CELL_FSW_DEFERRALS x) ∧ (∀ x y, x < 15 → y < 4 → j ≠ Od.CELL_LEG_SWITCHES x y) ∧ j ≠ Od.CHR_CHG_STATUS ∧ j
    ≠ Od.CNT_CNT_OVF_MAP ∧ j ≠ Od.CNV_AUX_STATUS ∧ j ≠ Od.CNV_DAB_PHASE ∧ j ≠ Od.LV_LV_STATUS) false s (s.stagePeriod
    c pulses) := by
  unfold State.stagePeriod
  exact by split; exacts [(.step .dabShare (.step .stageCycles (.step .stageTime (.step .phaseStart .refl)))), (.step
    .buckPeriod (.step .stageCycles (.step .stageTime (.step .phaseStart .refl)))), (.step .packPeriod (.step
    .stageCycles (.step .stageTime (.step .phaseStart .refl)))), (.step .stageCycles (.step .stageTime (.step
    .phaseStart .refl)))]
theorem State.Leaves.stageSamples {s : State} {c : Cell} {raw : List Int} : State.Leaves [.od] (fun j => j ≠
    Od.CNT_CNT_OVF_MAP ∧ (∀ x, x < 50 → j ≠ Od.SH_CH_STATUS x) ∧ (∀ x, x < 50 → j ≠ Od.SH_CORR x) ∧ (∀ x, x < 50 → j ≠
    Od.SH_CURRENT x) ∧ (∀ x, x < 50 → j ≠ Od.SH_OVR_COUNT x) ∧ (∀ x, x < 50 → j ≠ Od.SH_RAW x) ∧ (∀ x, x < 50 → j ≠
    Od.SH_SAMPLE_TB x)) false s (s.stageSamples c raw) := by
  unfold State.stageSamples
  exact .each (fun _ _ _ => (by split; exacts [(.step .shuntSample .refl), .refl])) .refl
theorem State.Leaves.stageStart {s : State} {c : Cell} {raw : List Int} {pulses : List (Nat × Nat)} : State.Leaves [.od,
    .log, .links, .drives, .cells, .legs, .store, .seqs, .gcps, .axes, .traction, .lus, .stageIn, .lvCommand, .gbx,
    .dcl, .aux, .chg, .path] (fun j => noReaction j ∧ j ≠ Od.CELL_BOOT_REFRESHES c ∧ (∀ x, x < 15 → j ≠
    Od.CELL_COUNTER_STATUS x) ∧ (∀ x, x < 15 → j ≠ Od.CELL_FSW_DEFERRALS x) ∧ (∀ x y, x < 15 → y < 4 → j ≠
    Od.CELL_LEG_SWITCHES x y) ∧ (∀ x, x < 16 → j ≠ Od.GCP_GCP_STATUS x) ∧ (∀ x, x < 15 → j ≠ Od.OBS_ASC_COUNT x) ∧ (∀
    x, x < 50 → j ≠ Od.SH_CORR x) ∧ (∀ x, x < 50 → j ≠ Od.SH_CURRENT x) ∧ (∀ x, x < 50 → j ≠ Od.SH_OVR_COUNT x) ∧ (∀
    x, x < 50 → j ≠ Od.SH_RAW x) ∧ (∀ x, x < 50 → j ≠ Od.SH_SAMPLE_TB x)) true s (s.stageStart c raw pulses) := by
  unfold State.stageStart
  exact .ite .refl (.ite (.stepR .stagePeriod (.step .periodStart (.stepR .stageSamples .refl))) (.stepR .stageSamples
    .refl))
theorem ResLeaves.execStagePeriodStart {r : StageReading} {c : Cell} {s : State} : ResLeaves [.od, .tb, .out, .log,
    .links, .drives, .cells, .legs, .store, .seqs, .gcps, .axes, .traction, .lus, .stageIn, .lvCommand, .gbx, .dcl,
    .aux, .chg, .path] (fun j => noReaction j ∧ j ≠ Od.CELL_BOOT_REFRESHES c ∧ (∀ x, x < 15 → j ≠
    Od.CELL_COUNTER_STATUS x) ∧ (∀ x, x < 15 → j ≠ Od.CELL_FSW_DEFERRALS x) ∧ (∀ x y, x < 15 → y < 4 → j ≠
    Od.CELL_LEG_SWITCHES x y) ∧ (∀ x, x < 16 → j ≠ Od.GCP_GCP_STATUS x) ∧ (∀ x, x < 15 → j ≠ Od.OBS_ASC_COUNT x) ∧ (∀
    x, x < 50 → j ≠ Od.SH_CORR x) ∧ (∀ x, x < 50 → j ≠ Od.SH_CURRENT x) ∧ (∀ x, x < 50 → j ≠ Od.SH_OVR_COUNT x) ∧ (∀
    x, x < 50 → j ≠ Od.SH_RAW x) ∧ (∀ x, x < 50 → j ≠ Od.SH_SAMPLE_TB x)) true s (execStagePeriodStart r c s) := by
  unfold Machine.execStagePeriodStart
  exact .reply (.step .stageStart (.step .elapse .refl))
theorem State.Leaves.modShunt {s : State} {n : Leg} {f : ShuntSt → ShuntSt} : State.Leaves [.shunts] (fun _ => True)
    false s (s.modShunt n f) := by
  unfold State.modShunt
  exact .step .with_shunts .refl
theorem ResLeaves.execRecalibrationLate {dt : Nat} {l : Leg} {s : State} : ResLeaves [.od, .tb, .out, .log, .shunts]
    (fun j => j ≠ Od.SH_CH_STATUS l) false s (execRecalibrationLate dt l s) := by
  unfold Machine.execRecalibrationLate
  exact .reply (.ite (.step .event (.step .setBit (.step .modShunt (.step .elapse .refl)))) (.step .elapse .refl))
theorem State.Leaves.calRepeat {s : State} {c : Cell} : State.Leaves [.od, .shunts] (fun j => (∀ x, x < 50 → j ≠
    Od.SH_CH_STATUS x)) false s (s.calRepeat c) := by
  unfold State.calRepeat
  exact .each (fun _ _ _ => (.ite (.step .setBit (.step .setBit (.step .modShunt .refl))) .refl)) .refl
theorem State.Leaves.newOffset {s : State} {l : Leg} {v : Int} : State.Leaves [.od, .log] (fun j => j ≠ Od.SH_CH_STATUS
    l ∧ j ≠ Od.SH_OFFSET l) false s (s.newOffset l v) := by
  unfold State.newOffset
  exact .ite (.step .event (.step .setBit (.step .setI .refl))) (.step .setI .refl)
theorem State.Leaves.calEnd {s : State} {l : Leg} : State.Leaves [.od, .shunts] (fun j => j ≠ Od.CNT_CNT_OVF_MAP ∧ j ≠
    Od.SH_CAL_COUNT l ∧ j ≠ Od.SH_CH_STATUS l ∧ j ≠ Od.SH_LAST_CAL_TB l) false s (s.calEnd l) := by
  unfold State.calEnd
  exact .step .setBit (.step .setN (.step .count (.step .modShunt .refl)))
theorem State.Leaves.takeOffset {s : State} {l : Leg} : State.Leaves [.od, .log, .shunts] (fun j => j ≠
    Od.CNT_CNT_OVF_MAP ∧ j ≠ Od.SH_CAL_COUNT l ∧ j ≠ Od.SH_CH_STATUS l ∧ j ≠ Od.SH_LAST_CAL_TB l ∧ j ≠ Od.SH_OFFSET l
    ∧ j ≠ Od.SH_OFFSET_ARM l) false s (s.takeOffset l) := by
  unfold State.takeOffset
  exact by dsimp only; split; exacts [.refl, (.step .setBit (.step .calEnd (.step .newOffset (.step .modShunt (by split; exacts
    [(.step .modShunt (.step .setI .refl)), .refl])))))]
theorem State.Leaves.takeOffsets {s : State} {c : Cell} : State.Leaves [.od, .log, .shunts] (fun j => j ≠
    Od.CNT_CNT_OVF_MAP ∧ (∀ x, x < 50 → j ≠ Od.SH_CAL_COUNT x) ∧ (∀ x, x < 50 → j ≠ Od.SH_CH_STATUS x) ∧ (∀ x, x < 50
    → j ≠ Od.SH_LAST_CAL_TB x) ∧ (∀ x, x < 50 → j ≠ Od.SH_OFFSET x) ∧ (∀ x, x < 50 → j ≠ Od.SH_OFFSET_ARM x)) false s
    (s.takeOffsets c) := by
  unfold State.takeOffsets
  exact .ite .refl (.each (fun _ _ _ => (.step .takeOffset .refl)) .refl)
theorem State.Leaves.found {s : State} {l : Leg} {v : Int} {arm : Option (Int × Rat)} : State.Leaves [.od, .log, .shunts]
    (fun j => j ≠ Od.CNT_CNT_OVF_MAP ∧ (∀ x, x < 50 → j ≠ Od.SH_CAL_COUNT x) ∧ (∀ x, x < 50 → j ≠ Od.SH_CH_STATUS x) ∧
    (∀ x, x < 50 → j ≠ Od.SH_LAST_CAL_TB x) ∧ (∀ x, x < 50 → j ≠ Od.SH_OFFSET x) ∧ (∀ x, x < 50 → j ≠ Od.SH_OFFSET_ARM
    x)) false s (s.found l v arm) := by
  unfold State.found
  exact .step .takeOffsets (.step .modShunt .refl)
theorem State.Leaves.recalibrate {s : State} {l : Leg} {zero : List Int} {full : List Int} : State.Leaves [.od, .log,
    .shunts] (fun j => j ≠ Od.CNT_CNT_OVF_MAP ∧ (∀ x, x < 50 → j ≠ Od.SH_CAL_COUNT x) ∧ (∀ x, x < 50 → j ≠
    Od.SH_CH_STATUS x) ∧ (∀ x, x < 50 → j ≠ Od.SH_LAST_CAL_TB x) ∧ (∀ x, x < 50 → j ≠ Od.SH_OFFSET x) ∧ (∀ x, x < 50 →
    j ≠ Od.SH_OFFSET_ARM x)) false s (s.recalibrate l zero full) := by
  unfold State.recalibrate
  exact .ite (.ite (.step .found .refl) .refl) (.ite (.ite (.step .calRepeat .refl) (.step .found .refl)) .refl)
theorem ResLeaves.execOffsetRecalibrationComplete {dt : Nat} {l : Leg} {zero : List Int} {full : List Int} {s : State} :
    ResLeaves [.od, .tb, .out, .log, .shunts] (fun j => j ≠ Od.CNT_CNT_OVF_MAP ∧ (∀ x, x < 50 → j ≠ Od.SH_CAL_COUNT x)
    ∧ (∀ x, x < 50 → j ≠ Od.SH_CH_STATUS x) ∧ (∀ x, x < 50 → j ≠ Od.SH_LAST_CAL_TB x) ∧ (∀ x, x < 50 → j ≠
    Od.SH_OFFSET x) ∧ (∀ x, x < 50 → j ≠ Od.SH_OFFSET_ARM x)) false s (execOffsetRecalibrationComplete dt l zero full
    s) := by
  unfold Machine.execOffsetRecalibrationComplete
  exact .reply (.ite (.step .recalibrate (.step .elapse .refl)) (.step .elapse .refl))
theorem ResLeaves.execOffsetRecalibrationDue {dt : Nat} {l : Leg} {s : State} : ResLeaves [.od, .tb, .out, .log,
    .shunts] (fun j => j ≠ Od.SH_CH_STATUS l) false s (execOffsetRecalibrationDue dt l s) := by
  unfold Machine.execOffsetRecalibrationDue
  exact .reply (.ite (.step .setBit (.step .modShunt (.step .elapse .refl))) (.step .elapse .refl))
theorem State.Leaves.counterSave {s : State} {c : Cell} : State.Leaves [.cells, .store] (fun _ => True) false s
    (s.counterSave c) := by
  unfold State.counterSave
  exact .ite (.step .modCell (.step .saveLegs .refl)) .refl
theorem ResLeaves.execLegCounterSave {dt : Nat} {c : Cell} {s : State} : ResLeaves [.tb, .out, .log, .cells, .store]
    (fun _ => True) false s (execLegCounterSave dt c s) := by
  unfold Machine.execLegCounterSave
  exact .reply (.step .counterSave (.step .elapse .refl))
theorem State.Leaves.dwellOver {s : State} {l : Leg} : State.Leaves [.od, .legs, .axes] (fun j => (∀ x, x < 8 → j ≠
    Od.AX_AXIS_CNT_STATUS x) ∧ (∀ x, x < 8 → j ≠ Od.AX_AXIS_STATUS x) ∧ (∀ x, x < 8 → j ≠ Od.AX_FALLBACKS x) ∧ (∀ x, x
    < 8 → j ≠ Od.AX_SUBSTITUTIONS x) ∧ (∀ x, x < 15 → j ≠ Od.CELL_COUNTER_STATUS x) ∧ (∀ x, x < 15 → j ≠
    Od.CELL_FSW_DEFERRALS x) ∧ (∀ x y, x < 15 → y < 4 → j ≠ Od.CELL_LEG_SWITCHES x y) ∧ j ≠ Od.CNT_CNT_OVF_MAP ∧ (∀ x,
    x < 50 → j ≠ Od.SH_CH_STATUS x)) false s (s.dwellOver l) := by
  unfold State.dwellOver
  exact .ite .refl (by dsimp only; split; exacts [(.ite (.step .pickVector .refl) .refl), .refl])
theorem ResLeaves.execDwellEnd {dt : Nat} {l : Leg} {s : State} : ResLeaves [.od, .tb, .out, .log, .legs, .axes] (fun j
    => (∀ x, x < 8 → j ≠ Od.AX_AXIS_CNT_STATUS x) ∧ (∀ x, x < 8 → j ≠ Od.AX_AXIS_STATUS x) ∧ (∀ x, x < 8 → j ≠
    Od.AX_FALLBACKS x) ∧ (∀ x, x < 8 → j ≠ Od.AX_SUBSTITUTIONS x) ∧ (∀ x, x < 15 → j ≠ Od.CELL_COUNTER_STATUS x) ∧ (∀
    x, x < 15 → j ≠ Od.CELL_FSW_DEFERRALS x) ∧ (∀ x y, x < 15 → y < 4 → j ≠ Od.CELL_LEG_SWITCHES x y) ∧ j ≠
    Od.CNT_CNT_OVF_MAP ∧ (∀ x, x < 50 → j ≠ Od.SH_CH_STATUS x)) false s (execDwellEnd dt l s) := by
  unfold Machine.execDwellEnd
  exact .reply (.step .dwellOver (.step .elapse .refl))
theorem State.Leaves.refillToken {s : State} {l : Leg} : State.Leaves [.od, .legs] (fun j => (∀ x y, x < 15 → y < 4 →
    j ≠ Od.CELL_LEG_SWITCHES x y)) false s (s.refillToken l) := by
  unfold State.refillToken
  exact .ite .refl (.ite (.step .stagePulse (.step .modLeg .refl)) (.step .modLeg .refl))
theorem ResLeaves.execTokenRefill {dt : Nat} {l : Leg} {s : State} : ResLeaves [.od, .tb, .out, .log, .legs] (fun j =>
    (∀ x y, x < 15 → y < 4 → j ≠ Od.CELL_LEG_SWITCHES x y)) false s (execTokenRefill dt l s) := by
  unfold Machine.execTokenRefill
  exact .reply (.step .refillToken (.step .elapse .refl))
theorem State.Leaves.addCause {s : State} {d : Drive} {code : Nat} : State.Leaves [.drives] (fun _ => True) false s
    (s.addCause d code) := by
  unfold State.addCause
  exact .step .modDrv .refl
theorem State.Leaves.selftestResult {s : State} {c : Cell} {vds : Nat} {shunt : Nat} : State.Leaves [.od] (fun j => j ≠
    Od.CELL_SELFTEST_RESULT c) false s (s.selftestResult c vds shunt) := by
  unfold State.selftestResult
  exact .step .setN .refl
theorem State.Leaves.selftestDone {s : State} {c : Cell} {vds : Nat} {shunt : Nat} : State.Leaves [.od, .log, .links,
    .drives, .cells, .legs, .store, .seqs, .axes, .traction, .lus, .stageIn, .lvCommand, .gbx, .dcl, .aux, .chg,
    .path] (fun j => noReaction j ∧ j ≠ Od.CELL_CELL_STATUS c ∧ j ≠ Od.CELL_SELFTEST_RESULT c ∧ (∀ x, x < 15 → j ≠
    Od.OBS_ASC_COUNT x)) true s (s.selftestDone c vds shunt) := by
  unfold State.selftestDone
  exact .ite (.step .addCause (.step .raise (.stepR .setBit (.step .modCell (.stepR .selftestResult .refl))))) (.ite
    (.step .modDrv (.step .cellEvent (.stepR .setBit (.step .modCell (.stepR .selftestResult .refl))))) (.step
    .cellEvent (.stepR .setBit (.step .modCell (.stepR .selftestResult .refl)))))
theorem ResLeaves.execSelftestComplete {dt : Nat} {c : Cell} {vdsFail : BitVec 4} {shuntFail : BitVec 4} {s : State} :
    ResLeaves [.od, .tb, .out, .log, .links, .drives, .cells, .legs, .store, .seqs, .axes, .traction, .lus, .stageIn,
    .lvCommand, .gbx, .dcl, .aux, .chg, .path] (fun j => noReaction j ∧ j ≠ Od.CELL_CELL_STATUS c ∧ j ≠
    Od.CELL_SELFTEST_RESULT c ∧ (∀ x, x < 15 → j ≠ Od.OBS_ASC_COUNT x)) true s (execSelftestComplete dt c vdsFail
    shuntFail s) := by
  unfold Machine.execSelftestComplete
  exact .reply (.ite (.step .selftestDone (.step .elapse .refl)) (.step .elapse .refl))
theorem ResLeaves.execSelftestStart {dt : Nat} {who : Requester} {c : Cell} {value : BitVec 8} {s : State} : ResLeaves
    [.od, .tb, .out, .log, .cells, .sessions] (fun j => noAccess j) false s (execSelftestStart dt who c value s) := by
  unfold Machine.execSelftestStart
  exact .reply (.step .writeSelftest (.step .elapse .refl))
theorem ResLeaves.execScLockoutWrite {dt : Nat} {who : Requester} {c : Cell} {value : BitVec 8} {s : State} : ResLeaves
    [.od, .tb, .out, .log, .sessions] (fun j => noAccess j ∧ j ≠ Od.CELL_SC_LOCKOUT c) false s (execScLockoutWrite dt
    who c value s) := by
  unfold Machine.execScLockoutWrite
  exact .reply (.step .writeScLockout (.step .elapse .refl))
theorem State.Leaves.plateauEnd {s : State} {c : Cell} : State.Leaves [.od, .cells, .legs] (fun j => j ≠
    Od.CNT_CNT_OVF_MAP ∧ j ≠ Od.OBS_ASC_TIME_ms c ∧ j ≠ Od.OBS_OBS_CNT_STATUS c ∧ (∀ x, x < 50 → j ≠ Od.SH_CH_STATUS
    x)) false s (s.plateauEnd c) := by
  unfold State.plateauEnd
  exact .ite .refl (.ite (.step .offCell (.step .modCell (.step .setLegs .refl))) (.step .modCell (.step .setLegs
    .refl)))
theorem ResLeaves.execSoftTurnOffPlateauEnd {dt : Nat} {c : Cell} {s : State} : ResLeaves [.od, .tb, .out, .log, .cells,
    .legs] (fun j => j ≠ Od.CNT_CNT_OVF_MAP ∧ j ≠ Od.OBS_ASC_TIME_ms c ∧ j ≠ Od.OBS_OBS_CNT_STATUS c ∧ (∀ x, x < 50 →
    j ≠ Od.SH_CH_STATUS x)) false s (execSoftTurnOffPlateauEnd dt c s) := by
  unfold Machine.execSoftTurnOffPlateauEnd
  exact .reply (.step .plateauEnd (.step .elapse .refl))
theorem State.Leaves.softTurnOff {s : State} {c : Cell} : State.Leaves [.od, .log, .cells, .legs] (fun j => j ≠
    Od.CELL_SC_LOCKOUT c ∧ j ≠ Od.CNT_CNT_OVF_MAP ∧ (∀ x, x < 15 → j ≠ Od.OBS_ASC_TIME_ms x) ∧ (∀ x, x < 15 → j ≠
    Od.OBS_OBS_CNT_STATUS x) ∧ (∀ x, x < 50 → j ≠ Od.SH_CH_STATUS x)) false s (s.softTurnOff c) := by
  unfold State.softTurnOff
  exact .each (fun _ _ _ => (.ite .refl (.step .coastCell .refl))) (.step .beginSoftOff .refl)
theorem State.Leaves.noteShort {s : State} {l : Leg} : State.Leaves [.od] (fun j => (∀ x, x < 15 → j ≠
    Od.CELL_CELL_STATUS x) ∧ (∀ x, x < 15 → j ≠ Od.CELL_COUNTER_STATUS x) ∧ (∀ x, x < 15 → j ≠ Od.CELL_LAST_FAULT_LEG
    x) ∧ (∀ x, x < 15 → j ≠ Od.CELL_LAST_FAULT_TB x) ∧ (∀ x, x < 15 → j ≠ Od.CELL_SC_COUNT x) ∧ j ≠
    Od.CNT_CNT_OVF_MAP) false s (s.noteShort l) := by
  unfold State.noteShort
  exact .step .setN (.step .setN (.step .setBit (.step .count .refl)))
theorem State.Leaves.shortDetected {s : State} {l : Leg} {code : Nat} {high : Bool} {simul : Bool} : State.Leaves [.od,
    .log, .links, .drives, .cells, .legs, .store, .seqs, .axes, .traction, .lus, .stageIn, .lvCommand, .gbx, .dcl,
    .aux, .chg, .path] (fun j => noReaction j ∧ (∀ x, x < 15 → j ≠ Od.CELL_CELL_STATUS x) ∧ (∀ x, x < 15 → j ≠
    Od.CELL_COUNTER_STATUS x) ∧ (∀ x, x < 15 → j ≠ Od.CELL_LAST_FAULT_LEG x) ∧ (∀ x, x < 15 → j ≠
    Od.CELL_LAST_FAULT_TB x) ∧ (∀ x, x < 15 → j ≠ Od.CELL_SC_COUNT x) ∧ (∀ x, x < 15 → j ≠ Od.CELL_SC_LOCKOUT x) ∧ j ≠
    Od.DCL_CHOP_FAULTS ∧ j ≠ Od.DCL_DCL_CNT_STATUS ∧ j ≠ Od.DCL_GEN_FACTOR ∧ (∀ x, x < 15 → j ≠ Od.OBS_ASC_COUNT x))
    true s (s.shortDetected l code high simul) := by
  unfold State.shortDetected
  exact .ite (.step .chopperFault (.step .faultState (.ite (.step .event (.stepR .noteShort .refl)) (.stepR
    .softTurnOff (.step .event (.stepR .noteShort .refl)))))) (.step .faultState (.ite (.step .event (.stepR
    .noteShort .refl)) (.stepR .softTurnOff (.step .event (.stepR .noteShort .refl)))))
theorem State.Leaves.shuntCrossing {s : State} {l : Leg} {positive : Bool} {simul : Bool} : State.Leaves [.od, .log,
    .links, .drives, .cells, .legs, .store, .seqs, .axes, .traction, .lus, .stageIn, .lvCommand, .gbx, .dcl, .aux,
    .chg, .path] (fun j => noReaction j ∧ (∀ x, x < 15 → j ≠ Od.CELL_CELL_STATUS x) ∧ (∀ x, x < 15 → j ≠
    Od.CELL_COUNTER_STATUS x) ∧ (∀ x, x < 15 → j ≠ Od.CELL_LAST_FAULT_LEG x) ∧ (∀ x, x < 15 → j ≠
    Od.CELL_LAST_FAULT_TB x) ∧ (∀ x, x < 15 → j ≠ Od.CELL_SC_COUNT x) ∧ (∀ x, x < 15 → j ≠ Od.CELL_SC_LOCKOUT x) ∧ j ≠
    Od.DCL_CHOP_FAULTS ∧ j ≠ Od.DCL_DCL_CNT_STATUS ∧ j ≠ Od.DCL_GEN_FACTOR ∧ (∀ x, x < 15 → j ≠ Od.OBS_ASC_COUNT x))
    true s (s.shuntCrossing l positive simul) := by
  unfold State.shuntCrossing
  exact .ite .refl (.ite (.step .event (.stepR .setBit .refl)) (.step .shortDetected (.stepR .setBit .refl)))
theorem ResLeaves.execShortDetectShunt {dt : Nat} {l : Leg} {positive : Bool} {simultaneous : Bool} {s : State} :
    ResLeaves [.od, .tb, .out, .log, .links, .drives, .cells, .legs, .store, .seqs, .axes, .traction, .lus, .stageIn,
    .lvCommand, .gbx, .dcl, .aux, .chg, .path] (fun j => noReaction j ∧ (∀ x, x < 15 → j ≠ Od.CELL_CELL_STATUS x) ∧ (∀
    x, x < 15 → j ≠ Od.CELL_COUNTER_STATUS x) ∧ (∀ x, x < 15 → j ≠ Od.CELL_LAST_FAULT_LEG x) ∧ (∀ x, x < 15 → j ≠
    Od.CELL_LAST_FAULT_TB x) ∧ (∀ x, x < 15 → j ≠ Od.CELL_SC_COUNT x) ∧ (∀ x, x < 15 → j ≠ Od.CELL_SC_LOCKOUT x) ∧ j ≠
    Od.DCL_CHOP_FAULTS ∧ j ≠ Od.DCL_DCL_CNT_STATUS ∧ j ≠ Od.DCL_GEN_FACTOR ∧ (∀ x, x < 15 → j ≠ Od.OBS_ASC_COUNT x))
    true s (execShortDetectShunt dt l positive simultaneous s) := by
  unfold Machine.execShortDetectShunt
  exact .reply (.step .shuntCrossing (.step .elapse .refl))
theorem State.Leaves.vdsCrossing {s : State} {l : Leg} {high : Bool} {simul : Bool} : State.Leaves [.od, .log, .links,
    .drives, .cells, .legs, .store, .seqs, .axes, .traction, .lus, .stageIn, .lvCommand, .gbx, .dcl, .aux, .chg,
    .path] (fun j => noReaction j ∧ (∀ x, x < 15 → j ≠ Od.CELL_CELL_STATUS x) ∧ (∀ x, x < 15 → j ≠
    Od.CELL_COUNTER_STATUS x) ∧ (∀ x, x < 15 → j ≠ Od.CELL_LAST_FAULT_LEG x) ∧ (∀ x, x < 15 → j ≠
    Od.CELL_LAST_FAULT_TB x) ∧ (∀ x, x < 15 → j ≠ Od.CELL_SC_COUNT x) ∧ (∀ x, x < 15 → j ≠ Od.CELL_SC_LOCKOUT x) ∧ j ≠
    Od.DCL_CHOP_FAULTS ∧ j ≠ Od.DCL_DCL_CNT_STATUS ∧ j ≠ Od.DCL_GEN_FACTOR ∧ (∀ x, x < 15 → j ≠ Od.OBS_ASC_COUNT x))
    true s (s.vdsCrossing l high simul) := by
  unfold State.vdsCrossing
  exact .ite (.step .shortDetected .refl) .refl
theorem ResLeaves.execShortDetectVds {dt : Nat} {l : Leg} {high : Bool} {simultaneous : Bool} {s : State} : ResLeaves
    [.od, .tb, .out, .log, .links, .drives, .cells, .legs, .store, .seqs, .axes, .traction, .lus, .stageIn,
    .lvCommand, .gbx, .dcl, .aux, .chg, .path] (fun j => noReaction j ∧ (∀ x, x < 15 → j ≠ Od.CELL_CELL_STATUS x) ∧ (∀
    x, x < 15 → j ≠ Od.CELL_COUNTER_STATUS x) ∧ (∀ x, x < 15 → j ≠ Od.CELL_LAST_FAULT_LEG x) ∧ (∀ x, x < 15 → j ≠
    Od.CELL_LAST_FAULT_TB x) ∧ (∀ x, x < 15 → j ≠ Od.CELL_SC_COUNT x) ∧ (∀ x, x < 15 → j ≠ Od.CELL_SC_LOCKOUT x) ∧ j ≠
    Od.DCL_CHOP_FAULTS ∧ j ≠ Od.DCL_DCL_CNT_STATUS ∧ j ≠ Od.DCL_GEN_FACTOR ∧ (∀ x, x < 15 → j ≠ Od.OBS_ASC_COUNT x))
    true s (execShortDetectVds dt l high simultaneous s) := by
  unfold Machine.execShortDetectVds
  exact .reply (.step .vdsCrossing (.step .elapse .refl))
theorem State.Leaves.catchCurrents {s : State} {c : Cell} {pulses : List (List Rat)} : State.Leaves [.axes] (fun _ =>
    True) false s (s.catchCurrents c pulses) := by
  unfold State.catchCurrents
  exact .dite (fun _ => (.ite (.step .modAx .refl) (.step .modAx .refl))) (fun _ => .refl)
theorem State.Leaves.noteBoot {s : State} {c : Cell} {v : List Rat} : State.Leaves [.od, .cells] (fun j => j ≠
    Od.CELL_BOOT_V_MIN c) false s (s.noteBoot c v) := by
  unfold State.noteBoot
  exact by dsimp only; split; exacts [(.step .modCell .refl), (.step .setQ (.step .modCell .refl))]
theorem State.Leaves.startPulses {s : State} {d : Drive} : State.Leaves [.od, .links, .cells, .stageIn] (fun j => j ≠
    Od.CNV_DAB_PHASE) false s (s.startPulses d) := by
  unfold State.startPulses
  exact .ite .refl (.step .sendTogether .refl)
theorem State.Leaves.dischargeArmed {s : State} : State.Leaves [.od, .log, .links, .drives, .cells, .legs, .store,
    .seqs, .axes, .traction, .lus, .stageIn, .lvCommand, .gbx, .dcl, .aux, .chg, .path] (fun j => noReaction j) true s
    (s.dischargeArmed) := by
  unfold State.dischargeArmed
  exact .ite (.stepR .dischargeOn (.step .modCell .refl)) (.stepR .dischargeOn (.step .runBrk (.step .goto .refl)))
theorem State.Leaves.recBegin {s : State} {a : Fin 4} : State.Leaves [.od, .pifs, .gbx] (fun j => (∀ x, x < 2 → j ≠
    Od.AXLE_LIMIT_AXLE_A + x) ∧ (∀ x, x < 8 → j ≠ Od.AX_TQ_REF x) ∧ j ≠ Od.GBX_RECOVERY_PATH ∧ (∀ x, x < 12 → j ≠
    Od.PIF_PIF_STATUS x) ∧ (∀ x, x < 12 → j ≠ Od.PIF_POSITION x) ∧ (∀ x, x < 2 → j ≠ Od.PRK_PARK_STATE x) ∧ (∀ x, x <
    2 → j ≠ Od.SHF_GEAR_STATE x)) false s (s.recBegin a) := by
  unfold State.recBegin
  exact .ite (.ite (.step .recStep (.step .presetCount (.step .moveLimit (.step .setGear (.step .setPath (.step
    .setRec (.step .armOnce .refl))))))) (.ite (.step .recStep (.step .moveLimit (.step .setGear (.step .setPath
    (.step .setRec (.step .armOnce .refl)))))) (.step .recReference (.step .moveLimit (.step .setGear (.step .setPath
    (.step .setRec (.step .armOnce .refl)))))))) (.step .recStep (.step .setPark (.step .setPath (.step .setRec (.step
    .armOnce .refl)))))
theorem State.Leaves.recoveryArmed {s : State} : State.Leaves [.od, .cells, .axes, .pifs, .gbx] (fun j => noReaction j
    ∧ (∀ x, x < 12 → j ≠ Od.PIF_PIF_STATUS x) ∧ (∀ x, x < 12 → j ≠ Od.PIF_POSITION x)) false s (s.recoveryArmed) := by
  unfold State.recoveryArmed
  exact .each (fun _ _ _ => (.stepR .recBegin .refl)) (.each (fun _ _ _ => (.stepR .engageActuator .refl)) (.step
    .with_gbx .refl))
theorem State.Leaves.runAuto {s : State} {d : Drive} : State.Leaves [.od, .log, .links, .drives, .cells, .legs,
    .store, .seqs, .axes, .traction, .lus, .stageIn, .lvCommand, .gbx, .dcl, .aux, .chg, .path] (fun j => noReaction j
    ∧ j ≠ Od.CNV_AUX_CNT_STATUS ∧ j ≠ Od.CNV_TOW_ENTRIES ∧ j ≠ Od.HV_HV_TIMER_min) true s (s.runAuto d) := by
  unfold State.runAuto
  exact by split; exacts [(.step .runAux .refl), (.step .runBrk .refl), (.step .runCharge .refl), .refl]
theorem State.Leaves.armingDone {s : State} {d : Drive} : State.Leaves [.od, .log, .links, .drives, .cells, .legs,
    .store, .seqs, .axes, .traction, .pifs, .lus, .stageIn, .lvCommand, .gbx, .dcl, .aux, .chg, .path] (fun j =>
    noReaction j ∧ j ≠ Od.CNV_AUX_CNT_STATUS ∧ j ≠ Od.CNV_TOW_ENTRIES ∧ j ≠ Od.HV_HV_TIMER_min ∧ (∀ x, x < 12 → j ≠
    Od.PIF_PIF_STATUS x) ∧ (∀ x, x < 12 → j ≠ Od.PIF_POSITION x)) true s (s.armingDone d) := by
  unfold State.armingDone
  exact .ite (by split; exacts [(.step .modDrv (.step .goto .refl)), (.step .runAuto (.step .goto .refl)), (.step
    .modDrv (.step .goto .refl)), (.step .recoveryArmed (.step .modDrv .refl)), (.step .dischargeArmed (.step .modDrv
    .refl)), (.stepR .dabStart (.step .modDrv .refl)), .refl]) .refl
theorem State.Leaves.calApply {s : State} {c : Cell} : State.Leaves [.od, .shunts] (fun j => j ≠ Od.CNT_CNT_OVF_MAP ∧
    (∀ x, x < 50 → j ≠ Od.SH_CAL_COUNT x) ∧ (∀ x, x < 50 → j ≠ Od.SH_CH_STATUS x) ∧ (∀ x, x < 50 → j ≠
    Od.SH_LAST_CAL_TB x) ∧ (∀ x, x < 50 → j ≠ Od.SH_OFFSET x)) false s (s.calApply c) := by
  unfold State.calApply
  exact .each (fun _ _ _ => (.step .calEnd (.step .setI .refl))) .refl
theorem State.Leaves.calChannels {s : State} {c : Cell} {chans : List (List Int × List Int)} : State.Leaves [.od, .shunts]
    (fun j => (∀ x, x < 50 → j ≠ Od.SH_OFFSET_ARM x)) false s (s.calChannels c chans) := by
  unfold State.calChannels
  exact .each (fun _ _ _ => (.step .modShunt (.step .setI .refl))) .refl
theorem State.Leaves.calAbandon {s : State} {n : Leg} : State.Leaves [.od, .shunts] (fun j => j ≠ Od.SH_CH_STATUS n)
    false s (s.calAbandon n) := by
  unfold State.calAbandon
  exact .step .setBit (.step .setBit (.step .modShunt .refl))
theorem State.Leaves.armStepTo {s : State} {c : Cell} {n : Nat} {m : CellMode} : State.Leaves [.cells] (fun _ => True)
    false s (s.armStepTo c n m) := by
  unfold State.armStepTo
  exact .step .modCell .refl
theorem State.Leaves.dischargeFailed {s : State} : State.Leaves [.od, .drives, .cells, .legs, .dcl] (fun j => j ≠
    Od.CNT_CNT_OVF_MAP ∧ j ≠ Od.DCL_CHOP_DUTY ∧ j ≠ Od.DCL_DCL_STATUS ∧ j ≠ Od.DCL_DISCH_STATE ∧ j ≠
    Od.OBS_ASC_TIME_ms (14 : Fin 15) ∧ j ≠ Od.OBS_OBS_CNT_STATUS (14 : Fin 15) ∧ (∀ x, x < 50 → j ≠ Od.SH_CH_STATUS
    x)) false s (s.dischargeFailed) := by
  unfold State.dischargeFailed
  exact .step .setN (.step .dischargeStop .refl)
theorem State.Leaves.recoveryArmFailed {s : State} : State.Leaves [.od, .log, .links, .drives, .cells, .legs, .store,
    .seqs, .axes, .traction, .lus, .stageIn, .lvCommand, .gbx, .dcl, .aux, .chg, .path] (fun j => noReaction j ∧ (∀ x,
    x < 15 → j ≠ Od.OBS_ASC_COUNT x)) true s (s.recoveryArmFailed) := by
  unfold State.recoveryArmFailed
  exact .step .recoveryFail .refl
theorem State.Leaves.armingFailed {s : State} {d : Drive} {c : Cell} {code : Nat} {detail : Nat} : State.Leaves [.od,
    .log, .links, .drives, .cells, .legs, .store, .seqs, .axes, .traction, .lus, .stageIn, .lvCommand, .gbx, .dcl,
    .aux, .chg, .path] (fun j => noReaction j ∧ (∀ x, x < 15 → j ≠ Od.OBS_ASC_COUNT x)) true s (s.armingFailed d c
    code detail) := by
  unfold State.armingFailed
  exact .ite (.step .raise (.step .modDrv (.each (fun _ _ _ => (.stepR .offCell .refl)) .refl))) (by split; exacts
    [(.step .recoveryArmFailed (.ite (.step .faultState (.step .modDrv (.each (fun _ _ _ => (.stepR .offCell .refl))
    (.step .event .refl)))) (.step .lastEvent (.step .modDrv (.each (fun _ _ _ => (.stepR .offCell .refl)) (.step
    .event .refl)))))), (.stepR .dischargeFailed (.ite (.step .faultState (.step .modDrv (.each (fun _ _ _ => (.stepR
    .offCell .refl)) (.step .event .refl)))) (.step .lastEvent (.step .modDrv (.each (fun _ _ _ => (.stepR .offCell
    .refl)) (.step .event .refl)))))), (.stepR .abortIdent (.ite (.step .faultState (.step .modDrv (.each (fun _ _ _
    => (.stepR .offCell .refl)) (.step .event .refl)))) (.step .lastEvent (.step .modDrv (.each (fun _ _ _ => (.stepR
    .offCell .refl)) (.step .event .refl)))))), (.ite (.step .faultState (.step .modDrv (.each (fun _ _ _ => (.stepR
    .offCell .refl)) (.step .event .refl)))) (.step .lastEvent (.step .modDrv (.each (fun _ _ _ => (.stepR .offCell
    .refl)) (.step .event .refl)))))])
theorem State.Leaves.noteRails {s : State} {c : Cell} {pos : Rat} {neg : Rat} : State.Leaves [.od] (fun j => j ≠
    Od.CELL_VGS_SUP_NEG c ∧ j ≠ Od.CELL_VGS_SUP_POS c) false s (s.noteRails c pos neg) := by
  unfold State.noteRails
  exact .step .setQ (.step .setQ .refl)
theorem State.Leaves.armStep {s : State} {c : Cell} {r : ArmReport} : State.Leaves [.od, .log, .links, .drives,
    .cells, .legs, .store, .shunts, .seqs, .axes, .traction, .pifs, .lus, .stageIn, .lvCommand, .gbx, .dcl, .aux,
    .chg, .path] (fun j => noReaction j ∧ j ≠ Od.CELL_BOOT_V_MIN c ∧ j ≠ Od.CELL_CELL_STATUS c ∧ j ≠
    Od.CELL_SELFTEST_RESULT c ∧ j ≠ Od.CELL_VGS_SUP_NEG c ∧ j ≠ Od.CELL_VGS_SUP_POS c ∧ j ≠ Od.CNV_AUX_CNT_STATUS ∧ j
    ≠ Od.CNV_TOW_ENTRIES ∧ j ≠ Od.HV_HV_TIMER_min ∧ (∀ x, x < 15 → j ≠ Od.OBS_ASC_COUNT x) ∧ (∀ x, x < 12 → j ≠
    Od.PIF_PIF_STATUS x) ∧ (∀ x, x < 12 → j ≠ Od.PIF_POSITION x) ∧ (∀ x, x < 50 → j ≠ Od.SH_CAL_COUNT x) ∧ (∀ x, x <
    50 → j ≠ Od.SH_LAST_CAL_TB x) ∧ (∀ x, x < 50 → j ≠ Od.SH_OFFSET x) ∧ (∀ x, x < 50 → j ≠ Od.SH_OFFSET_ARM x)) true
    s (s.armStep c r) := by
  unfold State.armStep
  exact .ite .refl (by split; exacts [(.ite (.step .armingFailed (.stepR .setBit (.stepR .noteRails .refl))) (.step
    .armStepTo (.each (fun _ _ _ => (.stepR .calAbandon .refl)) (.stepR .noteRails .refl)))), (by split; exacts
    [(.step .armingFailed (.stepR .calChannels .refl)), (.step .armingFailed (.stepR .calApply (.stepR .calChannels
    .refl))), (.step .armStepTo (.each (fun _ _ _ => (.stepR .setBit .refl)) (.stepR .calApply (.stepR .calChannels
    .refl))))]), (.ite (.step .addCause (.step .armingFailed (.stepR .setBit (.stepR .selftestResult .refl)))) (.ite
    (.step .armingDone (.step .armStepTo (.step .modCell (.stepR .setBit (.stepR .selftestResult .refl))))) (.stepR
    .startPulses (.step .armStepTo (.stepR .setBit (.stepR .selftestResult .refl)))))), (.ite (.step .armStepTo .refl)
    .refl), (by split; exacts [(.step .armingFailed (.stepR .noteBoot .refl)), (.step .armingDone (.step .armStepTo
    (.when (fun _ => (.step .catchCurrents .refl)) (.step .modCell (.stepR .noteBoot .refl)))))]), .refl])
theorem ResLeaves.execArmingStepComplete {dt : Nat} {c : Cell} {r : ArmReport} {s : State} : ResLeaves [.od, .tb, .out,
    .log, .links, .drives, .cells, .legs, .store, .shunts, .seqs, .axes, .traction, .pifs, .lus, .stageIn, .lvCommand,
    .gbx, .dcl, .aux, .chg, .path] (fun j => noReaction j ∧ j ≠ Od.CELL_BOOT_V_MIN c ∧ j ≠ Od.CELL_CELL_STATUS c ∧ j ≠
    Od.CELL_SELFTEST_RESULT c ∧ j ≠ Od.CELL_VGS_SUP_NEG c ∧ j ≠ Od.CELL_VGS_SUP_POS c ∧ j ≠ Od.CNV_AUX_CNT_STATUS ∧ j
    ≠ Od.CNV_TOW_ENTRIES ∧ j ≠ Od.HV_HV_TIMER_min ∧ (∀ x, x < 15 → j ≠ Od.OBS_ASC_COUNT x) ∧ (∀ x, x < 12 → j ≠
    Od.PIF_PIF_STATUS x) ∧ (∀ x, x < 12 → j ≠ Od.PIF_POSITION x) ∧ (∀ x, x < 50 → j ≠ Od.SH_CAL_COUNT x) ∧ (∀ x, x <
    50 → j ≠ Od.SH_LAST_CAL_TB x) ∧ (∀ x, x < 50 → j ≠ Od.SH_OFFSET x) ∧ (∀ x, x < 50 → j ≠ Od.SH_OFFSET_ARM x)) true
    s (execArmingStepComplete dt c r s) := by
  unfold Machine.execArmingStepComplete
  exact .reply (.step .armStep (.step .elapse .refl))
theorem State.Leaves.bootReleased {s : State} {c : Cell} {l : Leg} : State.Leaves [.od, .cells, .legs] (fun j => j ≠
    Od.CELL_CELL_STATUS c) false s (s.bootReleased c l) := by
  unfold State.bootReleased
  exact .ite (.step .setBit (.step .modLeg .refl)) (.step .modCell (.step .setBit (.step .modLeg .refl)))
theorem State.Leaves.bootstrap {s : State} {l : Leg} {v : Rat} : State.Leaves [.od, .log, .links, .drives, .cells,
    .legs, .store, .seqs, .axes, .traction, .lus, .stageIn, .lvCommand, .gbx, .dcl, .aux, .chg, .path] (fun j =>
    noReaction j ∧ (∀ x, x < 15 → j ≠ Od.CELL_BOOT_V_MIN x) ∧ (∀ x, x < 15 → j ≠ Od.CELL_CELL_STATUS x) ∧ (∀ x, x < 15
    → j ≠ Od.OBS_ASC_COUNT x)) true s (s.bootstrap l v) := by
  unfold State.bootstrap
  exact .ite .refl (.ite (.ite (.stepR .setBit (.step .modLeg (.stepR .noteBoot .refl))) (.ite (.step .refreshFailed
    (.when (fun _ => (.stepR .setLeg .refl)) (.stepR .setBit (.step .modLeg (.stepR .noteBoot .refl))))) (.step
    .modCell (.when (fun _ => (.stepR .setLeg .refl)) (.stepR .setBit (.step .modLeg (.stepR .noteBoot .refl)))))))
    (.ite (.stepR .bootReleased (.stepR .noteBoot .refl)) (.stepR .noteBoot .refl)))
theorem ResLeaves.execBootstrapUndervoltage {dt : Nat} {l : Leg} {v : Rat} {s : State} : ResLeaves [.od, .tb, .out, .log,
    .links, .drives, .cells, .legs, .store, .seqs, .axes, .traction, .lus, .stageIn, .lvCommand, .gbx, .dcl, .aux,
    .chg, .path] (fun j => noReaction j ∧ (∀ x, x < 15 → j ≠ Od.CELL_BOOT_V_MIN x) ∧ (∀ x, x < 15 → j ≠
    Od.CELL_CELL_STATUS x) ∧ (∀ x, x < 15 → j ≠ Od.OBS_ASC_COUNT x)) true s (execBootstrapUndervoltage dt l v s) := by
  unfold Machine.execBootstrapUndervoltage
  exact .reply (.step .bootstrap (.step .elapse .refl))
theorem State.Leaves.bothOn {s : State} {l : Leg} : State.Leaves [.od, .log, .links, .drives, .cells, .legs, .store,
    .seqs, .axes, .traction, .lus, .stageIn, .lvCommand, .gbx, .dcl, .aux, .chg, .path] (fun j => noReaction j ∧ (∀ x,
    x < 15 → j ≠ Od.CELL_BOTH_ON_COUNT x) ∧ (∀ x, x < 15 → j ≠ Od.CELL_CELL_STATUS x) ∧ (∀ x, x < 15 → j ≠
    Od.CELL_COUNTER_STATUS x) ∧ (∀ x, x < 15 → j ≠ Od.OBS_ASC_COUNT x)) true s (s.bothOn l) := by
  unfold State.bothOn
  exact .ite (.step .modCell (.step .event (.stepR .setBit (.stepR .count (.stepR .setLeg .refl))))) (.step .raise
    (.step .modCell (.stepR .coastCell (.step .event (.stepR .setBit (.stepR .count (.stepR .setLeg .refl)))))))
theorem ResLeaves.execBothOnCommand {dt : Nat} {l : Leg} {s : State} : ResLeaves [.od, .tb, .out, .log, .links, .drives,
    .cells, .legs, .store, .seqs, .axes, .traction, .lus, .stageIn, .lvCommand, .gbx, .dcl, .aux, .chg, .path] (fun j
    => noReaction j ∧ (∀ x, x < 15 → j ≠ Od.CELL_BOTH_ON_COUNT x) ∧ (∀ x, x < 15 → j ≠ Od.CELL_CELL_STATUS x) ∧ (∀ x,
    x < 15 → j ≠ Od.CELL_COUNTER_STATUS x) ∧ (∀ x, x < 15 → j ≠ Od.OBS_ASC_COUNT x)) true s (execBothOnCommand dt l s)
    := by
  unfold Machine.execBothOnCommand
  exact .reply (.step .bothOn (.step .elapse .refl))
theorem State.Leaves.gateSupplyUv {s : State} {c : Cell} {pos : Rat} {neg : Rat} : State.Leaves [.od, .log, .links,
    .drives, .cells, .legs, .store, .seqs, .axes, .traction, .lus, .stageIn, .lvCommand, .gbx, .dcl, .aux, .chg,
    .path] (fun j => noReaction j ∧ j ≠ Od.CELL_CELL_STATUS c ∧ j ≠ Od.CELL_VGS_SUP_NEG c ∧ j ≠ Od.CELL_VGS_SUP_POS c
    ∧ (∀ x, x < 15 → j ≠ Od.OBS_ASC_COUNT x)) true s (s.gateSupplyUv c pos neg) := by
  unfold State.gateSupplyUv
  exact .ite (.step .raise (.stepR .setBit (.step .modCell (.stepR .coastCell (.stepR .noteRails .refl))))) (.stepR
    .noteRails .refl)
theorem ResLeaves.execGateSupplyUndervoltage {dt : Nat} {c : Cell} {pos : Rat} {neg : Rat} {s : State} : ResLeaves [.od,
    .tb, .out, .log, .links, .drives, .cells, .legs, .store, .seqs, .axes, .traction, .lus, .stageIn, .lvCommand,
    .gbx, .dcl, .aux, .chg, .path] (fun j => noReaction j ∧ j ≠ Od.CELL_CELL_STATUS c ∧ j ≠ Od.CELL_VGS_SUP_NEG c ∧ j
    ≠ Od.CELL_VGS_SUP_POS c ∧ (∀ x, x < 15 → j ≠ Od.OBS_ASC_COUNT x)) true s (execGateSupplyUndervoltage dt c pos neg
    s) := by
  unfold Machine.execGateSupplyUndervoltage
  exact .reply (.step .gateSupplyUv (.step .elapse .refl))
theorem State.Leaves.resetBlocks {s : State} {d : Drive} : State.Leaves [.cells, .legs, .axes, .lus] (fun _ => True)
    false s (s.resetBlocks d) := by
  unfold State.resetBlocks
  exact .each (fun _ _ _ => .ite (.dite (fun _ => .step .modAx .refl) fun _ => .refl) (.step .modCell
    (.each (fun _ _ _ => .step .modLeg .refl) (.dite (fun _ => .step .modAx .refl) fun _ => .refl))))
    (.each (fun _ _ _ => .ite (.step (.modLu fun _ h => nomatch h) .refl) .refl) .refl)
theorem State.Leaves.releaseBlocks {s : State} {d : Drive} : State.Leaves [.log, .drives, .cells, .legs, .axes, .lus,
    .gbx, .dcl] (fun _ => True) false s (s.releaseBlocks d) := by
  unfold State.releaseBlocks
  exact .step .event (by split; exacts [(.step .with_gbx (.step .modDrv (.step .resetBlocks .refl))), (.step .modDcl
    (.step .modDrv (.step .resetBlocks .refl))), (.step .modDrv (.step .resetBlocks .refl))])
theorem State.Leaves.blockRelease {s : State} {d : Drive} : State.Leaves [.log, .drives, .cells, .legs, .axes, .lus,
    .gbx, .dcl] (fun _ => True) false s (s.blockRelease d) := by
  unfold State.blockRelease
  exact by split; exacts [(.ite (.step .releaseBlocks .refl) .refl), .refl]
theorem ResLeaves.execDriveResetBlockRelease {dt : Nat} {d : Drive} {s : State} : ResLeaves [.tb, .out, .log, .drives,
    .cells, .legs, .axes, .lus, .gbx, .dcl] (fun _ => True) false s (execDriveResetBlockRelease dt d s) := by
  unfold Machine.execDriveResetBlockRelease
  exact .reply (.step .blockRelease (.step .elapse .refl))
theorem ResLeaves.execDriveReset {dt : Nat} {who : Requester} {mask : BitVec 8} {s : State} : ResLeaves [.od, .tb, .out,
    .log, .links, .drives, .cells, .legs, .store, .seqs, .axes, .traction, .pifs, .lus, .stageIn, .lvCommand, .gbx,
    .dcl, .aux, .chg, .path, .sessions] (fun j => noReaction j ∧ noAccess j ∧ (∀ x, x < 15 → j ≠ Od.OBS_ASC_COUNT x) ∧
    (∀ x, x < 12 → j ≠ Od.PIF_PIF_STATUS x)) true s (execDriveReset dt who mask s) := by
  unfold Machine.execDriveReset
  exact .reply (.step .writeDriveReset (.step .elapse .refl))
theorem ResLeaves.execCustDataWrite {dt : Nat} {who : Requester} {data : List Byte} {s : State} : ResLeaves [.od, .tb,
    .out, .log, .cust, .sessions] (fun j => noAccess j) false s (execCustDataWrite dt who data s) := by
  unfold Machine.execCustDataWrite
  exact .reply (.step .writeCust (.step .elapse .refl))
theorem ResLeaves.execDriveReadinessComplete {dt : Nat} {d : Drive} {checksOk : Bool} {s : State} : ResLeaves [.od, .tb,
    .out, .log, .links, .drives, .cells, .legs, .store, .seqs, .axes, .traction, .lus, .stageIn, .lvCommand, .gbx,
    .dcl, .aux, .chg, .path] (fun j => noReaction j) true s (execDriveReadinessComplete dt d checksOk s) := by
  unfold Machine.execDriveReadinessComplete
  exact .reply (.ite (.step .becomeReady (.step .modDrv (.step .elapse .refl))) (.step .elapse .refl))
theorem State.Leaves.holdPulses {s : State} : State.Leaves [.img] (fun _ => True) false s (s.holdPulses) := by
  unfold State.holdPulses
  exact .step .modImg .refl
theorem State.Leaves.noteInterruption {s : State} : State.Leaves [.bringup, .img] (fun _ => True) false s
    (s.noteInterruption) := by
  unfold State.noteInterruption
  exact .step .modBringup (.ite (.step .holdPulses .refl) .refl)
theorem State.Leaves.resumePulses {s : State} : State.Leaves [.img] (fun _ => True) false s (s.resumePulses) := by
  unfold State.resumePulses
  exact .ite .refl (.step .pulses (.step .modImg .refl))
theorem State.Leaves.bridged {s : State} {t0 : Nat} : State.Leaves [.od, .log] (fun j => j ≠ Od.CNT_CNT_OVF_MAP ∧ j ≠
    Od.SUP_HOLDUP_EVENTS ∧ j ≠ Od.SUP_SUPPLY_STATUS) false s (s.bridged t0) := by
  unfold State.bridged
  exact .ite .refl (.step .event (.step .count .refl))
theorem State.Leaves.endInterruption {s : State} : State.Leaves [.od, .log, .bringup, .img] (fun j => j ≠
    Od.CNT_CNT_OVF_MAP ∧ j ≠ Od.SUP_HOLDUP_EVENTS ∧ j ≠ Od.SUP_SUPPLY_STATUS) false s (s.endInterruption) := by
  unfold State.endInterruption
  exact .ite (.step .resumePulses (.step .modBringup (by split; exacts [(.step .bridged .refl), .refl]))) (.step
    .modBringup (by split; exacts [(.step .bridged .refl), .refl]))
theorem State.Leaves.startEngines {s : State} {lo : Nat} {n : Nat} : State.Leaves [.engines, .tasks] (fun _ => True) false
    s (s.startEngines lo n) := by
  unfold State.startEngines
  exact .each (fun _ _ _ => (.ite .refl (.ite (.step .modTask .refl) .refl))) (.each (fun _ _ _ => (.ite (.step
    .modEng .refl) .refl)) .refl)
theorem State.Leaves.powerReturn {s : State} : State.Leaves [.od, .log, .bringup, .links, .engines, .tasks] (fun j =>
    j ≠ Od.POOL_POOL_STATUS) false s (s.powerReturn) := by
  unfold State.powerReturn
  exact .ite (.step .recomputeBounds (.step .startEngines (.each (fun _ _ _ => (.step .modLink .refl)) (.step
    .modBringup .refl)))) .refl
theorem State.Leaves.stageSequencesOff {s : State} : State.Leaves [.od, .seqs] (fun j => (∀ x y, x < 8 → y < 32 → j ≠
    Od.SQ_RESULT x y) ∧ (∀ x, x < 8 → j ≠ Od.SQ_SQ_STATUS x)) false s (s.stageSequencesOff) := by
  unfold State.stageSequencesOff
  exact .each (fun _ _ _ => .each (fun i hi _ => .step .setN .refl (by simp +contextual only [List.mem_range.1 hi, ne_eq, not_false_eq_true, and_self, implies_true, Fin.val_lt_of_le, Nat.reduceLeDiff, Nat.reduceLT]))
    (.step .setBit (.step .seqAbandon .refl))) .refl
theorem State.Leaves.haltEngines {s : State} {lo : Nat} {n : Nat} : State.Leaves [.engines, .tasks] (fun _ => True) false
    s (s.haltEngines lo n) := by
  unfold State.haltEngines
  exact .each (fun _ _ _ => (.ite (.step .modTask .refl) .refl)) (.each (fun _ _ _ => (.ite (.step .modEng .refl)
    .refl)) .refl)
theorem State.Leaves.enterPodlOnly {s : State} : State.Leaves [.od, .log, .bringup, .seqs, .engines, .tasks] (fun j =>
    j ≠ Od.POOL_POOL_STATUS ∧ (∀ x y, x < 8 → y < 32 → j ≠ Od.SQ_RESULT x y) ∧ (∀ x, x < 8 → j ≠ Od.SQ_SQ_STATUS x))
    false s (s.enterPodlOnly) := by
  unfold State.enterPodlOnly
  exact .ite (.step .event (.step .stageSequencesOff (.step .recomputeBounds (.step .haltEngines (.step .modBringup
    .refl))))) .refl
theorem State.Leaves.settleSupply {s : State} : State.Leaves [.od, .log, .bringup, .links, .seqs, .engines, .tasks,
    .img] (fun j => j ≠ Od.CNT_CNT_OVF_MAP ∧ j ≠ Od.POOL_POOL_STATUS ∧ (∀ x y, x < 8 → y < 32 → j ≠ Od.SQ_RESULT x y)
    ∧ (∀ x, x < 8 → j ≠ Od.SQ_SQ_STATUS x) ∧ j ≠ Od.SUP_ACTIVE_SOURCE ∧ j ≠ Od.SUP_HOLDUP_EVENTS ∧ j ≠
    Od.SUP_SOURCE_CHANGES ∧ j ≠ Od.SUP_SUPPLY_STATUS) false s (s.settleSupply) := by
  unfold State.settleSupply
  exact .step .showSupply (.step .enterPodlOnly (.step .powerReturn (.step .endInterruption (.step .noteInterruption
    (.step .followSource .refl)))))
theorem State.Leaves.failProgress {s : State} : State.Leaves [.od, .log, .img] (fun j => j ≠ Od.CNT_CNT_OVF_MAP ∧ j ≠
    Od.IMG_IMG_CNT_STATUS ∧ j ≠ Od.IMG_UPD_FAILS ∧ j ≠ Od.IMG_UPD_RESULT ∧ j ≠ Od.IMG_UPD_STATE) false s
    (s.failProgress) := by
  unfold State.failProgress
  exact .ite (.step .imgEvent (.step .count (.step .modImg (.step .setN (.step .setN .refl))))) .refl
theorem State.Leaves.startTimers {s : State} : State.Leaves [.log, .time, .canA] (fun _ => True) false s
    (s.startTimers) := by
  unfold State.startTimers
  exact .step .modLog (.step .with_time_canA .refl)
theorem State.Leaves.flushHeld {s : State} : State.Leaves [.log] (fun _ => True) false s (s.flushHeld) := by
  unfold State.flushHeld
  exact .step .modLog .refl
theorem State.Leaves.islandUp {s : State} : State.Leaves [.od, .log, .bringup, .links, .seqs, .engines, .tasks,
    .chans, .time, .canA, .img] (fun j => j ≠ Od.CNT_CNT_OVF_MAP ∧ j ≠ Od.IMG_IMG_CNT_STATUS ∧ j ≠ Od.IMG_UPD_FAILS ∧
    j ≠ Od.IMG_UPD_RESULT ∧ j ≠ Od.IMG_UPD_STATE ∧ j ≠ Od.POOL_POOL_STATUS ∧ j ≠ Od.PYR_PYR_STATUS ∧ j ≠
    Od.RST_BRINGUP_STATUS ∧ j ≠ Od.RST_CTRL_READY_ms ∧ (∀ x y, x < 8 → y < 32 → j ≠ Od.SQ_RESULT x y) ∧ (∀ x, x < 8 →
    j ≠ Od.SQ_SQ_STATUS x) ∧ j ≠ Od.SUP_ACTIVE_SOURCE ∧ j ≠ Od.SUP_HOLDUP_EVENTS ∧ j ≠ Od.SUP_SOURCE_CHANGES ∧ j ≠
    Od.SUP_SUPPLY_STATUS) false s (s.islandUp) := by
  unfold State.islandUp
  exact .ite .refl (.step .settleSupply (.each (fun _ _ _ => (.step .trackFree .refl)) (.step .refreshFlt (.step
    .setBit (.step .startTimers (.step .failProgress (.step .event (.step .flushHeld (.step .setN (.step .modBringup
    .refl))))))))))
theorem ResLeaves.execControlIslandUp {dt : Nat} {s : State} : ResLeaves [.od, .tb, .out, .log, .bringup, .links, .seqs,
    .engines, .tasks, .chans, .time, .canA, .img] (fun j => j ≠ Od.CNT_CNT_OVF_MAP ∧ j ≠ Od.IMG_IMG_CNT_STATUS ∧ j ≠
    Od.IMG_UPD_FAILS ∧ j ≠ Od.IMG_UPD_RESULT ∧ j ≠ Od.IMG_UPD_STATE ∧ j ≠ Od.POOL_POOL_STATUS ∧ j ≠ Od.PYR_PYR_STATUS
    ∧ j ≠ Od.RST_BRINGUP_STATUS ∧ j ≠ Od.RST_CTRL_READY_ms ∧ (∀ x y, x < 8 → y < 32 → j ≠ Od.SQ_RESULT x y) ∧ (∀ x, x
    < 8 → j ≠ Od.SQ_SQ_STATUS x) ∧ j ≠ Od.SUP_ACTIVE_SOURCE ∧ j ≠ Od.SUP_HOLDUP_EVENTS ∧ j ≠ Od.SUP_SOURCE_CHANGES ∧ j
    ≠ Od.SUP_SUPPLY_STATUS) false s (execControlIslandUp dt s) := by
  unfold Machine.execControlIslandUp
  exact .reply (.step .islandUp (.step .elapse .refl))
theorem State.Leaves.setChecked {s : State} {ok : Bool} : State.Leaves [.od, .log, .bringup, .links, .drives, .cells,
    .legs, .store, .seqs, .axes, .traction, .lus, .stageIn, .lvCommand, .gbx, .dcl, .aux, .chg, .path, .safety] (fun _
    => False) true s (s.setChecked ok) := by
  unfold State.setChecked
  exact .ite (.step .modSafety (.step .modBringup .refl)) (.step .raiseSafe (.step .modSafety (.step .modBringup
    .refl)))
theorem State.Leaves.rejectRecord {s : State} {k : Nat} : State.Leaves [.od, .log, .store] (fun j => j ≠ k) false s
    (s.rejectRecord k) := by
  unfold State.rejectRecord
  exact .step .event (.ite (.step .set .refl) (.ite (.step .modLog (.step .with_store .refl)) (.ite (.step .modLog
    (.step .with_store .refl)) (.ite (.step .modLog .refl) (.each (fun _ _ _ => (.ite (.step .with_store .refl)
    .refl)) .refl)))))
theorem State.Leaves.applyStore {s : State} : State.Leaves [.od, .time, .sessions] (fun _ => False) false s
    (s.applyStore) := by
  unfold State.applyStore
  exact .each (fun _ _ _ => (.step .setN .refl)) (.each (fun _ _ _ => (.step .setQ .refl)) (.step .with_time (.step
    .with_sessions (.each (fun _ _ _ => (.step .setN .refl)) .refl))))
theorem State.Leaves.storeLoaded {s : State} {rejected : List Nat} {setOk : Bool} : State.Leaves [.od, .log, .bringup,
    .links, .drives, .cells, .legs, .store, .seqs, .axes, .traction, .lus, .stageIn, .lvCommand, .pool, .gbx, .dcl,
    .aux, .chg, .path, .safety, .time, .sessions] (fun _ => False) true s (s.storeLoaded rejected setOk) := by
  unfold State.storeLoaded
  exact .ite .refl (.step .modBringup (.step .configLoad (.step .setChecked (.step .applyStore (.each (fun _ _ _ =>
    (.step .rejectRecord .refl)) .refl)))))
theorem ResLeaves.execParameterStoreLoaded {dt : Nat} {rejected : List Nat} {setOk : Bool} {s : State} : ResLeaves [.od,
    .tb, .out, .log, .bringup, .links, .drives, .cells, .legs, .store, .seqs, .axes, .traction, .lus, .stageIn,
    .lvCommand, .pool, .gbx, .dcl, .aux, .chg, .path, .safety, .time, .sessions] (fun _ => False) true s
    (execParameterStoreLoaded dt rejected setOk s) := by
  unfold Machine.execParameterStoreLoaded
  exact .reply (.step .storeLoaded (.step .elapse .refl))
theorem State.Leaves.startImage {s : State} {b : Fin 2} : State.Leaves [.od, .log, .bringup, .engines, .tasks, .img]
    (fun j => j ≠ Od.ID_FW_VERSION ∧ j ≠ Od.POOL_POOL_STATUS ∧ j ≠ Od.PYR_CONFIG_BOOT ∧ j ≠ Od.PYR_CYCLE_us ∧ j ≠
    Od.PYR_RESYNC_WINDOW_ms) false s (s.startImage b) := by
  unfold State.startImage
  exact .step .recomputeBounds (.step .startEngines (.step .modBringup (.step .setN (.step .setN (.step .setN (.step
    .setN (.step .modImg .refl)))))))
theorem State.Leaves.imageFault {s : State} : State.Leaves [.od, .log, .bringup, .chans] (fun j => j ≠
    Od.IMG_IMG_STATUS) false s (s.imageFault) := by
  unfold State.imageFault
  exact .step .imgEvent (.step .flushHeld (.step .trackFree (.step .modBringup (.step .setBit .refl))))
theorem State.Leaves.imageChecked {s : State} {newestOk : Bool} {otherOk : Bool} : State.Leaves [.od, .log, .bringup,
    .engines, .tasks, .chans, .img] (fun j => j ≠ Od.ID_FW_VERSION ∧ j ≠ Od.IMG_IMG_STATUS ∧ j ≠ Od.POOL_POOL_STATUS ∧
    j ≠ Od.PYR_CONFIG_BOOT ∧ j ≠ Od.PYR_CYCLE_us ∧ j ≠ Od.PYR_RESYNC_WINDOW_ms) false s (s.imageChecked newestOk
    otherOk) := by
  unfold State.imageChecked
  exact .ite .refl (by split; exacts [(.step .imageFault .refl), (.ite (.ite (.step .startImage .refl) (.step
    .imgEvent (.step .startImage .refl))) (.ite (.step .imgEvent (.step .setBit (.step .startImage .refl))) (.step
    .imageFault .refl)))])
theorem ResLeaves.execImageCheckComplete {dt : Nat} {newestOk : Bool} {otherOk : Bool} {s : State} : ResLeaves [.od,
    .tb, .out, .log, .bringup, .engines, .tasks, .chans, .img] (fun j => j ≠ Od.ID_FW_VERSION ∧ j ≠ Od.IMG_IMG_STATUS
    ∧ j ≠ Od.POOL_POOL_STATUS ∧ j ≠ Od.PYR_CONFIG_BOOT ∧ j ≠ Od.PYR_CYCLE_us ∧ j ≠ Od.PYR_RESYNC_WINDOW_ms) false s
    (execImageCheckComplete dt newestOk otherOk s) := by
  unfold Machine.execImageCheckComplete
  exact .reply (.step .imageChecked (.step .elapse .refl))
theorem State.Leaves.pllLocked {s : State} : State.Leaves [.od, .bringup] (fun j => j ≠ Od.SYS_CLK_STATUS) false s
    (s.pllLocked) := by
  unfold State.pllLocked
  exact .ite (.step .modBringup (.step .setBit .refl)) .refl
theorem ResLeaves.execPllLock {dt : Nat} {s : State} : ResLeaves [.od, .tb, .out, .log, .bringup] (fun j => j ≠
    Od.SYS_CLK_STATUS) false s (execPllLock dt s) := by
  unfold Machine.execPllLock
  exact .reply (.step .pllLocked (.step .elapse .refl))
theorem State.Leaves.trimLoaded {s : State} {ok : Bool} : State.Leaves [.od, .log, .bringup, .chans] (fun j => j ≠
    Od.BKP_BKP13 ∧ j ≠ Od.RST_TRIM_STATUS) false s (s.trimLoaded ok) := by
  unfold State.trimLoaded
  exact .ite .refl (.ite (.step .modBringup (.step .setN (.step .setN .refl))) (.ite (.step .event (.step .modBringup
    (.step .setN (.step .setN .refl)))) (.step .event (.step .flushHeld (.step .trackFree (.step .modBringup (.step
    .setBit (.step .event (.step .modBringup (.step .setN (.step .setN .refl)))))))))))
theorem ResLeaves.execTrimLoadComplete {dt : Nat} {crcOk : Bool} {s : State} : ResLeaves [.od, .tb, .out, .log,
    .bringup, .chans] (fun j => j ≠ Od.BKP_BKP13 ∧ j ≠ Od.RST_TRIM_STATUS) false s (execTrimLoadComplete dt crcOk s)
    := by
  unfold Machine.execTrimLoadComplete
  exact .reply (.step .trimLoaded (.step .elapse .refl))
theorem State.Leaves.countPowerOn {s : State} : State.Leaves [.od, .log] (fun j => j ≠ Od.CNT_POWER_ON_COUNT) false s
    (s.countPowerOn) := by
  unfold State.countPowerOn
  exact .ite (.step .setN .refl) (.step .modLog .refl)
theorem State.Leaves.startBringup {s : State} : State.Leaves [.od, .log, .bringup, .cells, .legs] (fun j => j ≠
    Od.BKP_BKP12 ∧ j ≠ Od.CNT_CNT_OVF_MAP ∧ j ≠ Od.CNT_POWER_ON_COUNT ∧ j ≠ Od.RST_BRINGUP_STATUS ∧ j ≠
    Od.RST_RESET_CAUSE ∧ j ≠ Od.RST_RESET_COUNT) false s (s.startBringup) := by
  unfold State.startBringup
  exact by dsimp only; split; exacts [(.step .event (.when (fun _ => (.step .event .refl)) (.when (fun _ => (.step .countPowerOn
    .refl)) (.step .count (.step .setN (.step .setN (.step .modBringup (.step .with_cells_legs .refl)))))))), (.when
    (fun _ => (.step .event .refl)) (.when (fun _ => (.step .countPowerOn .refl)) (.step .count (.step .setN (.step
    .setN (.step .modBringup (.step .with_cells_legs .refl)))))))]
theorem State.Leaves.nrstRelease {s : State} : State.Leaves [.od, .log, .bringup, .cells, .legs] (fun j => j ≠
    Od.BKP_BKP12 ∧ j ≠ Od.CNT_CNT_OVF_MAP ∧ j ≠ Od.CNT_POWER_ON_COUNT ∧ j ≠ Od.RST_BRINGUP_STATUS ∧ j ≠
    Od.RST_RESET_CAUSE ∧ j ≠ Od.RST_RESET_COUNT) false s (s.nrstRelease) := by
  unfold State.nrstRelease
  exact .ite (.step .startBringup .refl) .refl
theorem ResLeaves.execNrstRelease {dt : Nat} {s : State} : ResLeaves [.od, .tb, .out, .log, .bringup, .cells, .legs]
    (fun j => j ≠ Od.BKP_BKP12 ∧ j ≠ Od.CNT_CNT_OVF_MAP ∧ j ≠ Od.CNT_POWER_ON_COUNT ∧ j ≠ Od.RST_BRINGUP_STATUS ∧ j ≠
    Od.RST_RESET_CAUSE ∧ j ≠ Od.RST_RESET_COUNT) false s (execNrstRelease dt s) := by
  unfold Machine.execNrstRelease
  exact .reply (.step .nrstRelease (.step .elapse .refl))
theorem State.Leaves.deferredReset {s : State} : State.Leaves [.od, .tb, .log, .bringup, .clocks, .links, .drives,
    .cells, .legs, .shunts, .seqs, .gcps, .axes, .traction, .pifs, .lus, .stageIn, .lvCommand, .engines, .tasks,
    .pool, .gbx, .dcl, .aux, .chg, .path, .thermal, .pyr, .safety, .conns, .crcs, .chans, .time, .canA, .sessions,
    .img, .cap] (fun _ => False) true s (s.deferredReset) := by
  unfold State.deferredReset
  exact by split; exacts [(by split; exacts [(.ite (.step .resetNow (.step .modBringup (.step .count .refl))) .refl),
    .refl]), .refl]
theorem ResLeaves.execDeferredResetProceed {dt : Nat} {s : State} : ResLeaves [.od, .tb, .out, .log, .bringup, .clocks,
    .links, .drives, .cells, .legs, .shunts, .seqs, .gcps, .axes, .traction, .pifs, .lus, .stageIn, .lvCommand,
    .engines, .tasks, .pool, .gbx, .dcl, .aux, .chg, .path, .thermal, .pyr, .safety, .conns, .crcs, .chans, .time,
    .canA, .sessions, .img, .cap] (fun _ => False) true s (execDeferredResetProceed dt s) := by
  unfold Machine.execDeferredResetProceed
  exact .reply (.step .deferredReset (.step .elapse .refl))
theorem State.Leaves.nrst {s : State} {ns : Nat} : State.Leaves [.od, .tb, .fresh, .log, .bringup, .clocks, .links,
    .drives, .cells, .legs, .shunts, .seqs, .gcps, .axes, .traction, .pifs, .lus, .stageIn, .lvCommand, .engines,
    .tasks, .pool, .gbx, .dcl, .aux, .chg, .path, .thermal, .pyr, .safety, .conns, .crcs, .chans, .time, .canA,
    .sessions, .img, .cap] (fun _ => False) true s (s.nrst ns) := by
  unfold State.nrst
  exact .ite .refl (.ite (.step .resetDecision .refl) (.ite (.step .resetDecision (.step .draw .refl)) (.step .draw
    .refl)))
theorem ResLeaves.execNrstAssert {dt : Nat} {ns : Nat} {s : State} : ResLeaves [.od, .tb, .fresh, .out, .log, .bringup,
    .clocks, .links, .drives, .cells, .legs, .shunts, .seqs, .gcps, .axes, .traction, .pifs, .lus, .stageIn,
    .lvCommand, .engines, .tasks, .pool, .gbx, .dcl, .aux, .chg, .path, .thermal, .pyr, .safety, .conns, .crcs,
    .chans, .time, .canA, .sessions, .img, .cap] (fun _ => False) true s (execNrstAssert dt ns s) := by
  unfold Machine.execNrstAssert
  exact .reply (.step .nrst (.step .elapse .refl))
theorem State.Leaves.aonReset {s : State} : State.Leaves [.od, .tb, .log, .bringup, .clocks, .links, .drives, .cells,
    .legs, .cust, .shunts, .seqs, .gcps, .axes, .traction, .pifs, .lus, .stageIn, .lvCommand, .engines, .tasks, .pool,
    .gbx, .dcl, .aux, .chg, .path, .thermal, .pyr, .safety, .conns, .crcs, .chans, .time, .canA, .sessions, .img,
    .cap] (fun _ => False) true s (s.aonReset) := by
  unfold State.aonReset
  exact .step .setN (.step .mainReset (.step .setN (.step .setN (.step .setN (.step .setN (.step .setN
    (.each (fun _ _ _ => .step .setN .refl) (.step .with_retained_lost .refl))))))))
theorem State.Leaves.readFeed {s : State} {v : Rat} : State.Leaves [.bringup] (fun _ => True) false s (s.readFeed v) :=
    by
  unfold State.readFeed
  exact .step .modBringup .refl
theorem State.Leaves.feedCheck {s : State} {vBat : Rat} : State.Leaves [.od, .tb, .log, .bringup, .clocks, .links,
    .drives, .cells, .legs, .cust, .shunts, .seqs, .gcps, .axes, .traction, .pifs, .lus, .stageIn, .lvCommand,
    .engines, .tasks, .pool, .gbx, .dcl, .aux, .chg, .path, .thermal, .pyr, .safety, .conns, .crcs, .chans, .time,
    .canA, .sessions, .img, .cap] (fun _ => False) true s (s.feedCheck vBat) := by
  unfold State.feedCheck
  exact .ite (.step .aonReset (.step .readFeed .refl)) (.step .readFeed .refl)
theorem ResLeaves.execAonPowerOnReset {f : FeedReading} {s : State} : ResLeaves [.od, .tb, .out, .log, .bringup,
    .clocks, .links, .drives, .cells, .legs, .cust, .shunts, .seqs, .gcps, .axes, .traction, .pifs, .lus, .stageIn,
    .lvCommand, .engines, .tasks, .pool, .gbx, .dcl, .aux, .chg, .path, .thermal, .pyr, .safety, .conns, .crcs,
    .chans, .time, .canA, .sessions, .img, .cap] (fun _ => False) true s (execAonPowerOnReset f s) := by
  unfold Machine.execAonPowerOnReset
  exact .reply (.step .feedCheck (.step .elapse .refl))
theorem State.Leaves.noteLvLoss {s : State} {lost : Bool} : State.Leaves [.log] (fun _ => True) false s (s.noteLvLoss
    lost) := by
  unfold State.noteLvLoss
  exact .when (fun _ => (.step .event .refl)) .refl
theorem State.Leaves.readSupply {s : State} {r : SupplyReading} : State.Leaves [.od, .log, .bringup, .path]
    (fun j => j ≠ Od.SUP_SUPPLY_STATUS ∧ j ≠ Od.SUP_V_LV_IN ∧ j ≠ Od.SUP_V_PODL) false s (s.readSupply r) := by
  unfold State.readSupply
  split
  · exact .step .noteLvLoss (.step .modBringup (.step .setBit (.step .setQ .refl)))
  · exact .step .modBringup .refl
  · exact .step .modBringup (.step .setQ (.step .modPath .refl))
  · exact .step .readFeed .refl
theorem State.Leaves.supplyReading {s : State} {r : SupplyReading} : State.Leaves [.od, .log, .bringup, .links, .seqs,
    .engines, .tasks, .path, .img] (fun j => j ≠ Od.CNT_CNT_OVF_MAP ∧ j ≠ Od.POOL_POOL_STATUS ∧ (∀ x y, x < 8 → y < 32
    → j ≠ Od.SQ_RESULT x y) ∧ (∀ x, x < 8 → j ≠ Od.SQ_SQ_STATUS x) ∧ j ≠ Od.SUP_ACTIVE_SOURCE ∧ j ≠
    Od.SUP_HOLDUP_EVENTS ∧ j ≠ Od.SUP_SOURCE_CHANGES ∧ j ≠ Od.SUP_SUPPLY_STATUS ∧ j ≠ Od.SUP_V_LV_IN ∧ j ≠
    Od.SUP_V_PODL) false s (s.supplyReading r) := by
  unfold State.supplyReading
  exact .step .settleSupply (.step .readSupply .refl)
theorem ResLeaves.execPowerStageSupplyReturn {dt : Nat} {r : SupplyReading} {s : State} : ResLeaves [.od, .tb, .out,
    .log, .bringup, .links, .seqs, .engines, .tasks, .path, .img] (fun j => j ≠ Od.CNT_CNT_OVF_MAP ∧ j ≠
    Od.POOL_POOL_STATUS ∧ (∀ x y, x < 8 → y < 32 → j ≠ Od.SQ_RESULT x y) ∧ (∀ x, x < 8 → j ≠ Od.SQ_SQ_STATUS x) ∧ j ≠
    Od.SUP_ACTIVE_SOURCE ∧ j ≠ Od.SUP_HOLDUP_EVENTS ∧ j ≠ Od.SUP_SOURCE_CHANGES ∧ j ≠ Od.SUP_SUPPLY_STATUS ∧ j ≠
    Od.SUP_V_LV_IN ∧ j ≠ Od.SUP_V_PODL) false s (execPowerStageSupplyReturn dt r s) := by
  unfold Machine.execPowerStageSupplyReturn
  exact .reply (.step .supplyReading (.step .elapse .refl))
theorem State.Leaves.linkLossInterfaces {s : State} {l : Link} : State.Leaves [.od, .pifs] (fun j => (∀ x, x < 12 → j
    ≠ Od.PIF_PIF_STATUS x) ∧ (∀ x, x < 12 → j ≠ Od.PIF_POSITION x)) false s (s.linkLossInterfaces l) := by
  unfold State.linkLossInterfaces
  exact .ite (.foldl id (fun _ _ _ => .ite .refl (.step .setBit (.step .setI (.step .pifOff .refl)))) .refl) .refl
theorem State.Leaves.removeIslands {s : State} : State.Leaves [.od, .log, .bringup, .links, .drives, .cells, .legs,
    .store, .seqs, .axes, .traction, .pifs, .lus, .stageIn, .lvCommand, .engines, .tasks, .gbx, .dcl, .aux, .chg,
    .path] (fun j => noReaction j ∧ (∀ x, x < 12 → j ≠ Od.PIF_PIF_STATUS x) ∧ (∀ x, x < 12 → j ≠ Od.PIF_POSITION x) ∧
    j ≠ Od.POOL_POOL_STATUS ∧ (∀ x y, x < 8 → y < 32 → j ≠ Od.SQ_RESULT x y)) true s (s.removeIslands) := by
  unfold State.removeIslands
  exact .stepR .recomputeBounds (.step .haltEngines (.stepR .stageSequencesOff (.step .modDcl (.step .with_gbx (.stepR
    .linkLossInterfaces (.each (fun _ _ _ => (.step .modLink .refl)) (.step .modBringup (.stepR .haltRecovery (.stepR
    .solenoidsOff (.each (fun _ _ _ => (.stepR .offCell .refl)) (.each (fun _ _ _ => (.step .modDrv (.step .goto
    .refl))) .refl)))))))))))
theorem State.Leaves.islandRemoval {s : State} : State.Leaves [.od, .log, .bringup, .links, .drives, .cells, .legs,
    .store, .seqs, .axes, .traction, .pifs, .lus, .stageIn, .lvCommand, .engines, .tasks, .gbx, .dcl, .aux, .chg,
    .path, .img] (fun j => noReaction j ∧ (∀ x, x < 12 → j ≠ Od.PIF_PIF_STATUS x) ∧ (∀ x, x < 12 → j ≠ Od.PIF_POSITION
    x) ∧ j ≠ Od.POOL_POOL_STATUS ∧ (∀ x y, x < 8 → y < 32 → j ≠ Od.SQ_RESULT x y) ∧ j ≠ Od.SUP_ACTIVE_SOURCE ∧ j ≠
    Od.SUP_HOLDUP_EVENTS ∧ j ≠ Od.SUP_SOURCE_CHANGES ∧ j ≠ Od.SUP_SUPPLY_STATUS) true s (s.islandRemoval) := by
  unfold State.islandRemoval
  exact .ite (.stepR .settleSupply (.step .removeIslands .refl)) .refl
theorem ResLeaves.execIslandSupplyRemoval {dt : Nat} {s : State} : ResLeaves [.od, .tb, .out, .log, .bringup, .links,
    .drives, .cells, .legs, .store, .seqs, .axes, .traction, .pifs, .lus, .stageIn, .lvCommand, .engines, .tasks,
    .gbx, .dcl, .aux, .chg, .path, .img] (fun j => noReaction j ∧ (∀ x, x < 12 → j ≠ Od.PIF_PIF_STATUS x) ∧ (∀ x, x <
    12 → j ≠ Od.PIF_POSITION x) ∧ j ≠ Od.POOL_POOL_STATUS ∧ (∀ x y, x < 8 → y < 32 → j ≠ Od.SQ_RESULT x y) ∧ j ≠
    Od.SUP_ACTIVE_SOURCE ∧ j ≠ Od.SUP_HOLDUP_EVENTS ∧ j ≠ Od.SUP_SOURCE_CHANGES ∧ j ≠ Od.SUP_SUPPLY_STATUS) true s
    (execIslandSupplyRemoval dt s) := by
  unfold Machine.execIslandSupplyRemoval
  exact .reply (.step .islandRemoval (.step .elapse .refl))
theorem State.Leaves.dieProtect {s : State} {l : Link} : State.Leaves [.od, .log, .cells, .legs, .axes, .gbx] (fun j
    => (∀ x, x < 8 → j ≠ Od.AX_AXIS_STATUS x) ∧ (∀ x, x < 8 → j ≠ Od.AX_I_ALPHA x) ∧ (∀ x, x < 8 → j ≠ Od.AX_I_BETA x)
    ∧ (∀ x, x < 8 → j ≠ Od.AX_PSI_ALPHA x) ∧ (∀ x, x < 8 → j ≠ Od.AX_PSI_BETA x) ∧ (∀ x, x < 8 → j ≠ Od.AX_TQ_REF x) ∧
    j ≠ Od.CNT_CNT_OVF_MAP ∧ (∀ x, x < 24 → j ≠ Od.LU_REF x) ∧ (∀ x, x < 15 → j ≠ Od.OBS_ASC_COUNT x) ∧ (∀ x, x < 15 →
    j ≠ Od.OBS_ASC_TIME_ms x) ∧ (∀ x, x < 15 → j ≠ Od.OBS_OBS_CNT_STATUS x) ∧ (∀ x, x < 8 → j ≠ Od.OBS_OBS_STATUS x) ∧
    (∀ x, x < 2 → j ≠ Od.PRK_PARK_CNT_STATUS x) ∧ (∀ x, x < 2 → j ≠ Od.PRK_PARK_STATE x) ∧ (∀ x, x < 2 → j ≠
    Od.PRK_UNCOMMANDED x) ∧ (∀ x, x < 50 → j ≠ Od.SH_CH_STATUS x) ∧ (∀ x, x < 8 → j ≠ Od.SOL_DUTY x) ∧ (∀ x, x < 8 → j
    ≠ Od.SOL_ENERGISATIONS x) ∧ (∀ x, x < 8 → j ≠ Od.SOL_I_SET x) ∧ (∀ x, x < 8 → j ≠ Od.SOL_SOL_CNT_STATUS x) ∧ (∀ x,
    x < 8 → j ≠ Od.SOL_SOL_STATUS x)) false s (s.dieProtect l) := by
  unfold State.dieProtect
  exact .when (fun _ => (.step .solenoidsOff .refl)) (.each (fun _ _ _ => (.step .modCell (.step .protectCell .refl)))
    .refl)
theorem State.Leaves.stageLoss {s : State} : State.Leaves [.od, .log, .bringup, .links, .cells, .legs, .axes, .gbx]
    (fun j => (∀ x, x < 8 → j ≠ Od.AX_AXIS_STATUS x) ∧ (∀ x, x < 8 → j ≠ Od.AX_I_ALPHA x) ∧ (∀ x, x < 8 → j ≠
    Od.AX_I_BETA x) ∧ (∀ x, x < 8 → j ≠ Od.AX_PSI_ALPHA x) ∧ (∀ x, x < 8 → j ≠ Od.AX_PSI_BETA x) ∧ (∀ x, x < 8 → j ≠
    Od.AX_TQ_REF x) ∧ j ≠ Od.CNT_CNT_OVF_MAP ∧ (∀ x, x < 24 → j ≠ Od.LU_REF x) ∧ (∀ x, x < 15 → j ≠ Od.OBS_ASC_COUNT
    x) ∧ (∀ x, x < 15 → j ≠ Od.OBS_ASC_TIME_ms x) ∧ (∀ x, x < 15 → j ≠ Od.OBS_OBS_CNT_STATUS x) ∧ (∀ x, x < 8 → j ≠
    Od.OBS_OBS_STATUS x) ∧ (∀ x, x < 2 → j ≠ Od.PRK_PARK_CNT_STATUS x) ∧ (∀ x, x < 2 → j ≠ Od.PRK_PARK_STATE x) ∧ (∀
    x, x < 2 → j ≠ Od.PRK_UNCOMMANDED x) ∧ (∀ x, x < 50 → j ≠ Od.SH_CH_STATUS x) ∧ (∀ x, x < 8 → j ≠ Od.SOL_DUTY x) ∧
    (∀ x, x < 8 → j ≠ Od.SOL_ENERGISATIONS x) ∧ (∀ x, x < 8 → j ≠ Od.SOL_I_SET x) ∧ (∀ x, x < 8 → j ≠
    Od.SOL_SOL_CNT_STATUS x) ∧ (∀ x, x < 8 → j ≠ Od.SOL_SOL_STATUS x)) false s (s.stageLoss) := by
  unfold State.stageLoss
  exact .step .modBringup (.each (fun _ _ _ => (.step .modLink (.step .dieProtect .refl))) .refl)
theorem ResLeaves.execPowerStageSupplyLoss {dt : Nat} {s : State} : ResLeaves [.od, .tb, .out, .log, .bringup, .links,
    .cells, .legs, .axes, .gbx] (fun j => (∀ x, x < 8 → j ≠ Od.AX_AXIS_STATUS x) ∧ (∀ x, x < 8 → j ≠ Od.AX_I_ALPHA x)
    ∧ (∀ x, x < 8 → j ≠ Od.AX_I_BETA x) ∧ (∀ x, x < 8 → j ≠ Od.AX_PSI_ALPHA x) ∧ (∀ x, x < 8 → j ≠ Od.AX_PSI_BETA x) ∧
    (∀ x, x < 8 → j ≠ Od.AX_TQ_REF x) ∧ j ≠ Od.CNT_CNT_OVF_MAP ∧ (∀ x, x < 24 → j ≠ Od.LU_REF x) ∧ (∀ x, x < 15 → j ≠
    Od.OBS_ASC_COUNT x) ∧ (∀ x, x < 15 → j ≠ Od.OBS_ASC_TIME_ms x) ∧ (∀ x, x < 15 → j ≠ Od.OBS_OBS_CNT_STATUS x) ∧ (∀
    x, x < 8 → j ≠ Od.OBS_OBS_STATUS x) ∧ (∀ x, x < 2 → j ≠ Od.PRK_PARK_CNT_STATUS x) ∧ (∀ x, x < 2 → j ≠
    Od.PRK_PARK_STATE x) ∧ (∀ x, x < 2 → j ≠ Od.PRK_UNCOMMANDED x) ∧ (∀ x, x < 50 → j ≠ Od.SH_CH_STATUS x) ∧ (∀ x, x <
    8 → j ≠ Od.SOL_DUTY x) ∧ (∀ x, x < 8 → j ≠ Od.SOL_ENERGISATIONS x) ∧ (∀ x, x < 8 → j ≠ Od.SOL_I_SET x) ∧ (∀ x, x <
    8 → j ≠ Od.SOL_SOL_CNT_STATUS x) ∧ (∀ x, x < 8 → j ≠ Od.SOL_SOL_STATUS x)) false s (execPowerStageSupplyLoss dt s)
    := by
  unfold Machine.execPowerStageSupplyLoss
  exact .reply (.ite (.step .stageLoss (.step .elapse .refl)) (.step .elapse .refl))
theorem ResLeaves.execMainPowerOnReset {dt : Nat} {s : State} : ResLeaves [.od, .tb, .out, .log, .bringup, .clocks,
    .links, .drives, .cells, .legs, .shunts, .seqs, .gcps, .axes, .traction, .pifs, .lus, .stageIn, .lvCommand,
    .engines, .tasks, .pool, .gbx, .dcl, .aux, .chg, .path, .thermal, .pyr, .safety, .conns, .crcs, .chans, .time,
    .canA, .sessions, .img, .cap] (fun _ => False) true s (execMainPowerOnReset dt s) := by
  unfold Machine.execMainPowerOnReset
  exact .reply (.ite (.step .mainReset (.step .elapse .refl)) (.step .elapse .refl))
theorem ResLeaves.execHoldupInterruptionBridged {dt : Nat} {r : SupplyReading} {s : State} : ResLeaves [.od, .tb, .out,
    .log, .bringup, .links, .seqs, .engines, .tasks, .path, .img] (fun j => j ≠ Od.CNT_CNT_OVF_MAP ∧ j ≠
    Od.POOL_POOL_STATUS ∧ (∀ x y, x < 8 → y < 32 → j ≠ Od.SQ_RESULT x y) ∧ (∀ x, x < 8 → j ≠ Od.SQ_SQ_STATUS x) ∧ j ≠
    Od.SUP_ACTIVE_SOURCE ∧ j ≠ Od.SUP_HOLDUP_EVENTS ∧ j ≠ Od.SUP_SOURCE_CHANGES ∧ j ≠ Od.SUP_SUPPLY_STATUS ∧ j ≠
    Od.SUP_V_LV_IN ∧ j ≠ Od.SUP_V_PODL) false s (execHoldupInterruptionBridged dt r s) := by
  unfold Machine.execHoldupInterruptionBridged
  exact .reply (.step .supplyReading (.step .elapse .refl))
theorem State.Leaves.allInvalid {s : State} : State.Leaves [.od, .log, .bringup, .links, .seqs, .engines, .tasks,
    .img] (fun j => j ≠ Od.CNT_CNT_OVF_MAP ∧ j ≠ Od.POOL_POOL_STATUS ∧ (∀ x y, x < 8 → y < 32 → j ≠ Od.SQ_RESULT x y)
    ∧ (∀ x, x < 8 → j ≠ Od.SQ_SQ_STATUS x) ∧ j ≠ Od.SUP_ACTIVE_SOURCE ∧ j ≠ Od.SUP_HOLDUP_EVENTS ∧ j ≠
    Od.SUP_SOURCE_CHANGES ∧ j ≠ Od.SUP_SUPPLY_STATUS) false s (s.allInvalid) := by
  unfold State.allInvalid
  exact .step .settleSupply (.step .noteLvLoss (.step .modBringup .refl))
theorem ResLeaves.execAllSourcesInvalid {dt : Nat} {s : State} : ResLeaves [.od, .tb, .out, .log, .bringup, .links,
    .seqs, .engines, .tasks, .img] (fun j => j ≠ Od.CNT_CNT_OVF_MAP ∧ j ≠ Od.POOL_POOL_STATUS ∧ (∀ x y, x < 8 → y < 32
    → j ≠ Od.SQ_RESULT x y) ∧ (∀ x, x < 8 → j ≠ Od.SQ_SQ_STATUS x) ∧ j ≠ Od.SUP_ACTIVE_SOURCE ∧ j ≠
    Od.SUP_HOLDUP_EVENTS ∧ j ≠ Od.SUP_SOURCE_CHANGES ∧ j ≠ Od.SUP_SUPPLY_STATUS) false s (execAllSourcesInvalid dt s)
    := by
  unfold Machine.execAllSourcesInvalid
  exact .reply (.step .allInvalid (.step .elapse .refl))
theorem ResLeaves.execSupplySourceChange {dt : Nat} {r : SupplyReading} {s : State} : ResLeaves [.od, .tb, .out, .log,
    .bringup, .links, .seqs, .engines, .tasks, .path, .img] (fun j => j ≠ Od.CNT_CNT_OVF_MAP ∧ j ≠ Od.POOL_POOL_STATUS
    ∧ (∀ x y, x < 8 → y < 32 → j ≠ Od.SQ_RESULT x y) ∧ (∀ x, x < 8 → j ≠ Od.SQ_SQ_STATUS x) ∧ j ≠ Od.SUP_ACTIVE_SOURCE
    ∧ j ≠ Od.SUP_HOLDUP_EVENTS ∧ j ≠ Od.SUP_SOURCE_CHANGES ∧ j ≠ Od.SUP_SUPPLY_STATUS ∧ j ≠ Od.SUP_V_LV_IN ∧ j ≠
    Od.SUP_V_PODL) false s (execSupplySourceChange dt r s) := by
  unfold Machine.execSupplySourceChange
  exact .reply (.step .supplyReading (.step .elapse .refl))
theorem ResLeaves.execClkFaultLatchWrite {dt : Nat} {who : Requester} {value : BitVec 32} {s : State} : ResLeaves [.od,
    .tb, .out, .log, .sessions] (fun j => noAccess j ∧ j ≠ Od.SYS_CLK_FAULT_LATCH) false s (execClkFaultLatchWrite dt
    who value s) := by
  unfold Machine.execClkFaultLatchWrite
  exact .reply (.step .writeClkLatch (.step .elapse .refl))
theorem State.Leaves.assertFlt {s : State} : State.Leaves [.od, .pyr] (fun j => j ≠ Od.PYR_PYR_STATUS) false s
    (s.assertFlt) := by
  unfold State.assertFlt
  exact .step .with_pyr (.step .setFlt .refl)
theorem State.Leaves.dieLosesLink {s : State} {l : Link} : State.Leaves [.od, .log, .links, .cells, .legs, .axes,
    .gbx] (fun j => (∀ x, x < 8 → j ≠ Od.AX_AXIS_STATUS x) ∧ (∀ x, x < 8 → j ≠ Od.AX_I_ALPHA x) ∧ (∀ x, x < 8 → j ≠
    Od.AX_I_BETA x) ∧ (∀ x, x < 8 → j ≠ Od.AX_PSI_ALPHA x) ∧ (∀ x, x < 8 → j ≠ Od.AX_PSI_BETA x) ∧ (∀ x, x < 8 → j ≠
    Od.AX_TQ_REF x) ∧ j ≠ Od.CNT_CNT_OVF_MAP ∧ (∀ x, x < 24 → j ≠ Od.LU_REF x) ∧ (∀ x, x < 15 → j ≠ Od.OBS_ASC_COUNT
    x) ∧ (∀ x, x < 15 → j ≠ Od.OBS_ASC_TIME_ms x) ∧ (∀ x, x < 15 → j ≠ Od.OBS_OBS_CNT_STATUS x) ∧ (∀ x, x < 8 → j ≠
    Od.OBS_OBS_STATUS x) ∧ (∀ x, x < 2 → j ≠ Od.PRK_PARK_CNT_STATUS x) ∧ (∀ x, x < 2 → j ≠ Od.PRK_PARK_STATE x) ∧ (∀
    x, x < 2 → j ≠ Od.PRK_UNCOMMANDED x) ∧ (∀ x, x < 50 → j ≠ Od.SH_CH_STATUS x) ∧ (∀ x, x < 8 → j ≠ Od.SOL_DUTY x) ∧
    (∀ x, x < 8 → j ≠ Od.SOL_ENERGISATIONS x) ∧ (∀ x, x < 8 → j ≠ Od.SOL_I_SET x) ∧ (∀ x, x < 8 → j ≠
    Od.SOL_SOL_CNT_STATUS x) ∧ (∀ x, x < 8 → j ≠ Od.SOL_SOL_STATUS x)) false s (s.dieLosesLink l) := by
  unfold State.dieLosesLink
  exact .step .modLink (.step .dieProtect .refl)
theorem State.Leaves.linkDown {s : State} {l : Link} {ds : List Drive} : State.Leaves [.od, .fresh, .links, .pifs]
    (fun j => (∀ x, x < 12 → j ≠ Od.PIF_PIF_STATUS x) ∧ (∀ x, x < 12 → j ≠ Od.PIF_POSITION x)) false s (s.linkDown l
    ds) := by
  unfold State.linkDown
  exact .step .linkLossInterfaces (.step .draw (.step .modLink .refl))
theorem State.Leaves.canClockOff {s : State} {c : Fin 4} : State.Leaves [.od, .log, .links, .drives, .cells, .legs,
    .store, .seqs, .axes, .traction, .lus, .stageIn, .lvCommand, .gbx, .dcl, .aux, .chg, .path, .crcs, .chans, .time,
    .canA, .sessions] (fun j => noReaction j ∧ j ≠ Od.AXLE_AXLE_TQ_SET ∧ (∀ x, x < 6 → j ≠ Od.OWN_OWNER x) ∧ j ≠
    Od.OWN_OWN_STATUS ∧ j ≠ Od.TIME_MASTER_RANK) true s (s.canClockOff c) := by
  unfold State.canClockOff
  exact .step .offWhenIdle (.step .modChan .refl)
theorem State.Leaves.clockFault {s : State} {bit : Nat} {hz : Nat} : State.Leaves [.od, .fresh, .log, .clocks, .links,
    .drives, .cells, .legs, .store, .seqs, .axes, .traction, .pifs, .lus, .stageIn, .lvCommand, .gbx, .dcl, .aux,
    .chg, .path, .pyr, .crcs, .chans, .time, .canA, .sessions] (fun j => noReaction j ∧ j ≠ Od.AXLE_AXLE_TQ_SET ∧ (∀
    x, x < 15 → j ≠ Od.CELL_SELFTEST_RESULT x) ∧ j ≠ Od.ETH_ETH_STATUS ∧ j ≠ Od.ETH_LINK_DROPS ∧ (∀ x, x < 15 → j ≠
    Od.OBS_ASC_COUNT x) ∧ (∀ x, x < 6 → j ≠ Od.OWN_OWNER x) ∧ j ≠ Od.OWN_OWN_STATUS ∧ (∀ x, x < 12 → j ≠
    Od.PIF_PIF_STATUS x) ∧ (∀ x, x < 12 → j ≠ Od.PIF_POSITION x) ∧ j ≠ Od.PYR_PYR_CNT_STATUS ∧ j ≠ Od.PYR_PYR_STATUS ∧
    (∀ x, x < 6 → j ≠ Od.PYR_TQO_ASSERTIONS x) ∧ j ≠ Od.SYS_CLK_FAULT_LATCH ∧ j ≠ Od.TIME_MASTER_RANK) true s
    (s.clockFault bit hz) := by
  unfold State.clockFault
  exact by split; exacts [(.step .raise (.stepR .dieProtect (.stepR .setBit .refl))), (.step .event (.each (fun _ _ _
    => (.step .canClockOff .refl)) (.step .with_clocks (.stepR .setBit .refl)))), (.step .event (.step .ethernetDown
    (.stepR .setBit .refl))), (.step .event (.stepR .setBit .refl)), (.step .raiseSafe (.stepR .assertFlt (.when (fun
    _ => (.stepR .dropSequences .refl)) (.when (fun _ => (.step .with_clocks .refl)) (.when (fun _ => (.each (fun _ _
    _ => (.ite (.stepR .linkDown (.stepR .dieLosesLink .refl)) .refl)) .refl)) (.stepR .setBit .refl))))))]
theorem State.Leaves.clockBad {s : State} {m : ClockMonitor} {hz : Nat} : State.Leaves [.od, .fresh, .log, .clocks,
    .links, .drives, .cells, .legs, .store, .seqs, .axes, .traction, .pifs, .lus, .stageIn, .lvCommand, .gbx, .dcl,
    .aux, .chg, .path, .pyr, .crcs, .chans, .time, .canA, .sessions] (fun j => noReaction j ∧ j ≠ Od.AXLE_AXLE_TQ_SET
    ∧ (∀ x, x < 15 → j ≠ Od.CELL_SELFTEST_RESULT x) ∧ j ≠ Od.ETH_ETH_STATUS ∧ j ≠ Od.ETH_LINK_DROPS ∧ (∀ x, x < 15 → j
    ≠ Od.OBS_ASC_COUNT x) ∧ (∀ x, x < 6 → j ≠ Od.OWN_OWNER x) ∧ j ≠ Od.OWN_OWN_STATUS ∧ (∀ x, x < 12 → j ≠
    Od.PIF_PIF_STATUS x) ∧ (∀ x, x < 12 → j ≠ Od.PIF_POSITION x) ∧ j ≠ Od.PYR_PYR_CNT_STATUS ∧ j ≠ Od.PYR_PYR_STATUS ∧
    (∀ x, x < 6 → j ≠ Od.PYR_TQO_ASSERTIONS x) ∧ j ≠ Od.SYS_CLK_FAULT_LATCH ∧ j ≠ Od.SYS_CLK_STATUS ∧ j ≠
    Od.TIME_MASTER_RANK) true s (s.clockBad m hz) := by
  unfold State.clockBad
  exact .ite (.step .with_clocks .refl) (.ite (.stepR .setBit (.step .with_clocks (.step .with_clocks .refl))) (.step
    .clockFault (.stepR .setBit (.step .with_clocks (.step .with_clocks .refl)))))
theorem State.Leaves.clockGood {s : State} {m : ClockMonitor} : State.Leaves [.od, .clocks] (fun j => j ≠
    Od.SYS_CLK_STATUS) false s (s.clockGood m) := by
  unfold State.clockGood
  exact .ite (.step .with_clocks .refl) (.step .setBit (.when (fun _ => (.step .with_clocks .refl)) (.when (fun _ =>
    (.step .with_clocks .refl)) (.step .with_clocks .refl))))
theorem State.Leaves.clockWindow {s : State} {m : ClockMonitor} {hz : Nat} : State.Leaves [.od, .fresh, .log, .clocks,
    .links, .drives, .cells, .legs, .store, .seqs, .axes, .traction, .pifs, .lus, .stageIn, .lvCommand, .gbx, .dcl,
    .aux, .chg, .path, .pyr, .crcs, .chans, .time, .canA, .sessions] (fun j => noReaction j ∧ j ≠ Od.AXLE_AXLE_TQ_SET
    ∧ (∀ x, x < 15 → j ≠ Od.CELL_SELFTEST_RESULT x) ∧ j ≠ Od.ETH_ETH_STATUS ∧ j ≠ Od.ETH_LINK_DROPS ∧ (∀ x, x < 15 → j
    ≠ Od.OBS_ASC_COUNT x) ∧ (∀ x, x < 6 → j ≠ Od.OWN_OWNER x) ∧ j ≠ Od.OWN_OWN_STATUS ∧ (∀ x, x < 12 → j ≠
    Od.PIF_PIF_STATUS x) ∧ (∀ x, x < 12 → j ≠ Od.PIF_POSITION x) ∧ j ≠ Od.PYR_PYR_CNT_STATUS ∧ j ≠ Od.PYR_PYR_STATUS ∧
    (∀ x, x < 6 → j ≠ Od.PYR_TQO_ASSERTIONS x) ∧ j ≠ Od.SYS_CLK_FAULT_LATCH ∧ j ≠ Od.SYS_CLK_STATUS ∧ j ≠
    Od.TIME_MASTER_RANK ∧ freqKey (monitorBit m) ≠ some j) true s (s.clockWindow m hz) := by
  have hfreq : State.Leaves [.od] (fun j => freqKey (monitorBit m) ≠ some j) false s
      (match freqKey (monitorBit m) with | some k => s.setN k hz | none => s) := by
    split
    · next k hk => exact .step .setN .refl fun j hj he => hj (by rw [hk, he])
    · exact .refl
  unfold State.clockWindow
  exact .ite (.stepR .clockGood (.step hfreq .refl)) (.step .clockBad (.step hfreq .refl))
theorem ResLeaves.execClockMonitorWindow {dt : Nat} {m : ClockMonitor} {hz : Nat} {s : State} : ResLeaves [.od, .tb,
    .fresh, .out, .log, .clocks, .links, .drives, .cells, .legs, .store, .seqs, .axes, .traction, .pifs, .lus,
    .stageIn, .lvCommand, .gbx, .dcl, .aux, .chg, .path, .pyr, .crcs, .chans, .time, .canA, .sessions] (fun j =>
    noReaction j ∧ j ≠ Od.AXLE_AXLE_TQ_SET ∧ (∀ x, x < 15 → j ≠ Od.CELL_SELFTEST_RESULT x) ∧ j ≠ Od.ETH_ETH_STATUS ∧ j
    ≠ Od.ETH_LINK_DROPS ∧ (∀ x, x < 15 → j ≠ Od.OBS_ASC_COUNT x) ∧ (∀ x, x < 6 → j ≠ Od.OWN_OWNER x) ∧ j ≠
    Od.OWN_OWN_STATUS ∧ (∀ x, x < 12 → j ≠ Od.PIF_PIF_STATUS x) ∧ (∀ x, x < 12 → j ≠ Od.PIF_POSITION x) ∧ j ≠
    Od.PYR_PYR_CNT_STATUS ∧ j ≠ Od.PYR_PYR_STATUS ∧ (∀ x, x < 6 → j ≠ Od.PYR_TQO_ASSERTIONS x) ∧ j ≠
    Od.SYS_CLK_FAULT_LATCH ∧ j ≠ Od.SYS_CLK_STATUS ∧ j ≠ Od.TIME_MASTER_RANK ∧ freqKey (monitorBit m) ≠ some j) true s
    (execClockMonitorWindow dt m hz s) := by
  unfold Machine.execClockMonitorWindow
  exact .reply (.ite (.step .clockWindow (.step .elapse .refl)) (.step .elapse .refl))
theorem State.Leaves.scrub {s : State} : State.Leaves [.clocks] (fun _ => True) false s (s.scrub) := by
  unfold State.scrub
  exact .ite (.step .with_clocks .refl) .refl
theorem ResLeaves.execScrubPass {dt : Nat} {s : State} : ResLeaves [.tb, .out, .log, .clocks] (fun _ => True) false s
    (execScrubPass dt s) := by
  unfold Machine.execScrubPass
  exact .reply (.step .scrub (.step .elapse .refl))
theorem ResLeaves.execEccSingleBitCorrection {dt : Nat} {s : State} : ResLeaves [.od, .tb, .out, .log] (fun j => j ≠
    Od.CNT_CNT_OVF_MAP ∧ j ≠ Od.SYS_ECC_CORRECTED ∧ j ≠ Od.SYS_MEM_STATUS) false s (execEccSingleBitCorrection dt s)
    := by
  unfold Machine.execEccSingleBitCorrection
  exact .reply (.step .count (.step .elapse .refl))
theorem State.Leaves.discardUnit {s : State} {u : Nat} : State.Leaves [.od, .log, .cust, .gbx] (fun j => j ≠
    Od.CNT_CNT_OVF_MAP ∧ j ≠ Od.RET_DISCARDED) false s (s.discardUnit u) := by
  unfold State.discardUnit
  exact .step .event (.step .count (.ite (.step .modLog .refl) (.iteOf (fun hu => .step (.with_cust (by
    simp only [List.length_replicate, custSize]; omega)) .refl) fun _ => .dite (fun _ => .step .setRecord .refl) fun _ => .refl)))
theorem State.Leaves.eccError {s : State} {m : Memory} : State.Leaves [.od, .fresh, .log, .links, .drives, .cells,
    .legs, .store, .cust, .seqs, .axes, .traction, .lus, .stageIn, .lvCommand, .engines, .tasks, .gbx, .dcl, .aux,
    .chg, .path, .pyr, .safety, .conns] (fun j => noReaction j ∧ (∀ x, x < 16 → j ≠ Od.BKP_REG x) ∧ j ≠
    Od.CAP_CAP_STATE ∧ (∀ x, x < 15 → j ≠ Od.CELL_SELFTEST_RESULT x) ∧ (∀ x, x < 24 → j ≠ Od.ENG_DISPATCHES x) ∧ (∀ x,
    x < 24 → j ≠ Od.ENG_ENG_CNT_STATUS x) ∧ (∀ x, x < 24 → j ≠ Od.ENG_LAST_FAIL x) ∧ (∀ x, x < 24 → j ≠
    Od.ENG_OOS_COUNT x) ∧ (∀ x, x < 24 → j ≠ Od.ENG_STEALS x) ∧ (∀ x, x < 24 → j ≠ Od.ENG_STEAL_TIME_MAX_ns x) ∧ (∀ x,
    x < 24 → j ≠ Od.ENG_STOLEN_FROM x) ∧ (∀ x, x < 16 → j ≠ Od.HSF_CONN_STATE x) ∧ (∀ x, x < 15 → j ≠ Od.OBS_ASC_COUNT
    x) ∧ j ≠ Od.POOL_CLAIM_CONFLICTS ∧ j ≠ Od.POOL_POOL_CNT_STATUS ∧ j ≠ Od.POOL_POOL_STATUS ∧ j ≠
    Od.POOL_STEAL_COST_MAX_ns ∧ j ≠ Od.PYR_CONFIG_ACT ∧ j ≠ Od.PYR_LAST_ODD_CORE ∧ j ≠ Od.PYR_MISMATCHES ∧ j ≠
    Od.PYR_PYR_CNT_STATUS ∧ j ≠ Od.PYR_PYR_STATUS ∧ j ≠ Od.PYR_RESYNC_STATE ∧ (∀ x, x < 6 → j ≠ Od.PYR_TQO_ASSERTIONS
    x) ∧ j ≠ Od.RET_DISCARDED ∧ j ≠ Od.SFS_DEMANDS ∧ (∀ x, x < 6 → j ≠ Od.SFS_SF_STATE x) ∧ j ≠ Od.SYS_ECC_UNCORRECTED
    ∧ j ≠ Od.SYS_MEM_STATUS ∧ (∀ x, x < 59 → j ≠ Od.TASK_START_LAT_MAX_us x) ∧ m ≠ .paramStore j) true s (s.eccError
    m) := by
  unfold State.eccError
  split
  · exact .step .outOfService (.step .event (.stepR .count .refl))
  · exact .step .raise (.stepR .count .refl)
  · exact .step .laneDiff (.stepR .count .refl)
  · exact .step .event (.stepR .setN (.stepR .count .refl))
  · exact .refl
  · exact .refl
  · exact .step .rejectRecord .refl (by
      intro j hj he
      simp only [he, ne_eq, not_true_eq_false, and_false] at hj)
  · exact .stepR .discardUnit (.stepR .count .refl)
  · exact .step .event (.stepR .setN (.stepR .count .refl))
theorem ResLeaves.execEccUncorrectableError {dt : Nat} {m : Memory} {s : State} : ResLeaves [.od, .tb, .fresh, .out,
    .log, .links, .drives, .cells, .legs, .store, .cust, .seqs, .axes, .traction, .lus, .stageIn, .lvCommand,
    .engines, .tasks, .gbx, .dcl, .aux, .chg, .path, .pyr, .safety, .conns] (fun j => noReaction j ∧ (∀ x, x < 16 → j
    ≠ Od.BKP_REG x) ∧ j ≠ Od.CAP_CAP_STATE ∧ (∀ x, x < 15 → j ≠ Od.CELL_SELFTEST_RESULT x) ∧ (∀ x, x < 24 → j ≠
    Od.ENG_DISPATCHES x) ∧ (∀ x, x < 24 → j ≠ Od.ENG_ENG_CNT_STATUS x) ∧ (∀ x, x < 24 → j ≠ Od.ENG_LAST_FAIL x) ∧ (∀
    x, x < 24 → j ≠ Od.ENG_OOS_COUNT x) ∧ (∀ x, x < 24 → j ≠ Od.ENG_STEALS x) ∧ (∀ x, x < 24 → j ≠
    Od.ENG_STEAL_TIME_MAX_ns x) ∧ (∀ x, x < 24 → j ≠ Od.ENG_STOLEN_FROM x) ∧ (∀ x, x < 16 → j ≠ Od.HSF_CONN_STATE x) ∧
    (∀ x, x < 15 → j ≠ Od.OBS_ASC_COUNT x) ∧ j ≠ Od.POOL_CLAIM_CONFLICTS ∧ j ≠ Od.POOL_POOL_CNT_STATUS ∧ j ≠
    Od.POOL_POOL_STATUS ∧ j ≠ Od.POOL_STEAL_COST_MAX_ns ∧ j ≠ Od.PYR_CONFIG_ACT ∧ j ≠ Od.PYR_LAST_ODD_CORE ∧ j ≠
    Od.PYR_MISMATCHES ∧ j ≠ Od.PYR_PYR_CNT_STATUS ∧ j ≠ Od.PYR_PYR_STATUS ∧ j ≠ Od.PYR_RESYNC_STATE ∧ (∀ x, x < 6 → j
    ≠ Od.PYR_TQO_ASSERTIONS x) ∧ j ≠ Od.RET_DISCARDED ∧ j ≠ Od.SFS_DEMANDS ∧ (∀ x, x < 6 → j ≠ Od.SFS_SF_STATE x) ∧ j
    ≠ Od.SYS_ECC_UNCORRECTED ∧ j ≠ Od.SYS_MEM_STATUS ∧ (∀ x, x < 59 → j ≠ Od.TASK_START_LAT_MAX_us x) ∧ m ≠
    .paramStore j) true s (execEccUncorrectableError dt m s) := by
  unfold Machine.execEccUncorrectableError
  exact .reply (.step .eccError (.step .elapse .refl))
theorem State.Leaves.applyDue {s : State} {l : Link} : State.Leaves [.od, .links, .cells, .stageIn] (fun j => j ≠
    Od.CNV_DAB_PHASE) false s (s.applyDue l) := by
  unfold State.applyDue
  exact .each (fun _ _ _ => .step .applyLinkCmd .refl) (.step .modLink .refl)
theorem ResLeaves.execApplyTimeReached {dt : Nat} {l : Link} {s : State} : ResLeaves [.od, .tb, .out, .log, .links,
    .cells, .stageIn] (fun j => j ≠ Od.CNV_DAB_PHASE) false s (execApplyTimeReached dt l s) := by
  unfold Machine.execApplyTimeReached
  exact .reply (.step .applyDue (.step .elapse .refl))
theorem State.Leaves.islandInterfaces {s : State} : State.Leaves [.od, .pifs] (fun j => (∀ x, x < 12 → j ≠
    Od.PIF_PIF_STATUS x)) false s (s.islandInterfaces) := by
  unfold State.islandInterfaces
  exact .each (fun _ _ _ => (.ite (.step .pifCheck .refl) .refl)) .refl
theorem State.Leaves.linkTrained {s : State} {l : Link} {latencyNs : Nat} : State.Leaves [.od, .fresh, .links, .pifs]
    (fun j => (∀ x, x < 12 → j ≠ Od.PIF_PIF_STATUS x) ∧ j ≠ Od.SYS_LINK_T_LAT_ns + l.num) false s (s.linkTrained l
    latencyNs) := by
  unfold State.linkTrained
  exact .when (fun _ => (.step .islandInterfaces .refl)) (.step .setN (.step .draw (.step .modLink .refl)))
theorem ResLeaves.execLinkTrainingComplete {dt : Nat} {l : Link} {latencyNs : Nat} {s : State} : ResLeaves [.od, .tb,
    .fresh, .out, .log, .links, .pifs] (fun j => (∀ x, x < 12 → j ≠ Od.PIF_PIF_STATUS x) ∧ j ≠ Od.SYS_LINK_T_LAT_ns +
    l.num) false s (execLinkTrainingComplete dt l latencyNs s) := by
  unfold Machine.execLinkTrainingComplete
  exact .reply (.ite (.step .linkTrained (.step .elapse .refl)) (.step .elapse .refl))
theorem State.Leaves.linkLost {s : State} {l : Link} : State.Leaves [.od, .fresh, .log, .links, .drives, .cells,
    .legs, .store, .seqs, .axes, .traction, .pifs, .lus, .stageIn, .lvCommand, .gbx, .dcl, .aux, .chg, .path] (fun j
    => noReaction j ∧ (∀ x, x < 15 → j ≠ Od.OBS_ASC_COUNT x) ∧ (∀ x, x < 12 → j ≠ Od.PIF_PIF_STATUS x) ∧ (∀ x, x < 12
    → j ≠ Od.PIF_POSITION x)) true s (s.linkLost l) := by
  unfold State.linkLost
  exact .each (fun _ _ _ => (.step .modDrv (.step .faultDrive .refl))) (.step .event (.stepR .linkDown .refl))
theorem ResLeaves.execLinkLossIslandC {dt : Nat} {l : Link} {s : State} : ResLeaves [.od, .tb, .fresh, .out, .log,
    .links, .drives, .cells, .legs, .store, .seqs, .axes, .traction, .pifs, .lus, .stageIn, .lvCommand, .gbx, .dcl,
    .aux, .chg, .path] (fun j => noReaction j ∧ (∀ x, x < 15 → j ≠ Od.OBS_ASC_COUNT x) ∧ (∀ x, x < 12 → j ≠
    Od.PIF_PIF_STATUS x) ∧ (∀ x, x < 12 → j ≠ Od.PIF_POSITION x)) true s (execLinkLossIslandC dt l s) := by
  unfold Machine.execLinkLossIslandC
  exact .reply (.ite (.step .linkLost (.step .elapse .refl)) (.step .elapse .refl))
theorem ResLeaves.execLinkLossIslandDie {dt : Nat} {l : Link} {s : State} : ResLeaves [.od, .tb, .out, .log, .links,
    .cells, .legs, .axes, .gbx] (fun j => (∀ x, x < 8 → j ≠ Od.AX_AXIS_STATUS x) ∧ (∀ x, x < 8 → j ≠ Od.AX_I_ALPHA x)
    ∧ (∀ x, x < 8 → j ≠ Od.AX_I_BETA x) ∧ (∀ x, x < 8 → j ≠ Od.AX_PSI_ALPHA x) ∧ (∀ x, x < 8 → j ≠ Od.AX_PSI_BETA x) ∧
    (∀ x, x < 8 → j ≠ Od.AX_TQ_REF x) ∧ j ≠ Od.CNT_CNT_OVF_MAP ∧ (∀ x, x < 24 → j ≠ Od.LU_REF x) ∧ (∀ x, x < 15 → j ≠
    Od.OBS_ASC_COUNT x) ∧ (∀ x, x < 15 → j ≠ Od.OBS_ASC_TIME_ms x) ∧ (∀ x, x < 15 → j ≠ Od.OBS_OBS_CNT_STATUS x) ∧ (∀
    x, x < 8 → j ≠ Od.OBS_OBS_STATUS x) ∧ (∀ x, x < 2 → j ≠ Od.PRK_PARK_CNT_STATUS x) ∧ (∀ x, x < 2 → j ≠
    Od.PRK_PARK_STATE x) ∧ (∀ x, x < 2 → j ≠ Od.PRK_UNCOMMANDED x) ∧ (∀ x, x < 50 → j ≠ Od.SH_CH_STATUS x) ∧ (∀ x, x <
    8 → j ≠ Od.SOL_DUTY x) ∧ (∀ x, x < 8 → j ≠ Od.SOL_ENERGISATIONS x) ∧ (∀ x, x < 8 → j ≠ Od.SOL_I_SET x) ∧ (∀ x, x <
    8 → j ≠ Od.SOL_SOL_CNT_STATUS x) ∧ (∀ x, x < 8 → j ≠ Od.SOL_SOL_STATUS x)) false s (execLinkLossIslandDie dt l s)
    := by
  unfold Machine.execLinkLossIslandDie
  exact .reply (.ite (.step .dieLosesLink (.step .elapse .refl)) (.step .elapse .refl))
theorem State.Leaves.linkLane {s : State} {l : Link} {toC : Bool} {lane1 : Bool} : State.Leaves [.log, .links] (fun _
    => True) false s (s.linkLane l toC lane1) := by
  unfold State.linkLane
  exact .ite .refl (.step .event (.step .modLink .refl))
theorem ResLeaves.execLinkLaneFail {dt : Nat} {l : Link} {toC : Bool} {lane1 : Bool} {s : State} : ResLeaves [.tb, .out,
    .log, .links] (fun _ => True) false s (execLinkLaneFail dt l toC lane1 s) := by
  unfold Machine.execLinkLaneFail
  exact .reply (.step .linkLane (.step .elapse .refl))
theorem State.Leaves.linkGood {s : State} {l : Link} {toC : Bool} {f : BitVec 96} : State.Leaves [.out, .links] (fun _
    => True) false s (s.linkGood l toC f) := by
  unfold State.linkGood
  exact .ite (.step .modLink .refl) (.each (fun _ _ _ => (.step .emit .refl)) (.step .modLink .refl))
theorem State.Leaves.linkReplayRequest {s : State} {l : Link} {toC : Bool} : State.Leaves [.od, .out] (fun j => j ≠
    Od.CNT_CNT_OVF_MAP ∧ j ≠ Od.SYS_LINK_T_REPLAYS + l.num ∧ j ≠ Od.SYS_LINK_T_STATUS + l.num) false s
    (s.linkReplayRequest l toC) := by
  unfold State.linkReplayRequest
  exact .step .emit (.step .count .refl)
theorem State.Leaves.linkFrame {s : State} {l : Link} {toC : Bool} {sent : BitVec 96} {f : BitVec 96} : State.Leaves
    [.od, .out, .links] (fun j => j ≠ Od.CNT_CNT_OVF_MAP ∧ j ≠ Od.SYS_LINK_T_REPLAYS + l.num ∧ j ≠
    Od.SYS_LINK_T_STATUS + l.num) false s (s.linkFrame l toC sent f) := by
  unfold State.linkFrame
  exact .ite .refl (.ite (.step .linkReplayRequest (.step .modLink .refl)) (.step .linkGood (.step .modLink .refl)))
theorem ResLeaves.execLinkFrameReceive {dt : Nat} {l : Link} {toC : Bool} {f : LaneFrame} {s : State} : ResLeaves [.od,
    .tb, .out, .log, .links] (fun j => j ≠ Od.CNT_CNT_OVF_MAP ∧ j ≠ Od.SYS_LINK_T_REPLAYS + l.num ∧ j ≠
    Od.SYS_LINK_T_STATUS + l.num) false s (execLinkFrameReceive dt l toC f s) := by
  unfold Machine.execLinkFrameReceive
  exact .reply (.step .linkFrame (.step .elapse .refl))
end Sys2Proof.Machine
end

section
/-! PROOFS. The frames of the commands: no part and no object outside what the statement lists. -/
namespace Sys2Proof.Machine
open Sys2Proof
set_option Elab.async false
/-! ### The resets: an object is kept or has its default again -/

/-- An object after a reset: as before, or at its default if a reset does not keep it. -/
def State.keptOrDefault (s t : State) (k : Nat) : Prop := t.get k = s.get k ∨ keptKey k = false ∧ t.get k = dictDefault k

theorem State.keptOrDefault.of_eq {s t : State} {k : Nat} (h : t.get k = if keptKey k then s.get k else dictDefault k) :
    s.keptOrDefault t k := by
  cases hk : keptKey k with
  | true => exact .inl (h.trans (if_pos hk))
  | false => exact .inr ⟨hk, h.trans (if_neg (by simp [hk]))⟩

theorem State.keptOrDefault.trans {s u t : State} {k : Nat} (h : u.get k = s.get k) (g : u.keptOrDefault t k) :
    s.keptOrDefault t k := g.imp_left fun e => e.trans h

theorem State.keptOrDefault.reply {s s' u t : State} {k : Nat} (g : s.keptOrDefault u k) (h : Machine.reply s' u = .next t) :
    s.keptOrDefault t k := by
  obtain ⟨⟩ := h
  exact g

@[simp] theorem State.get_elapse (s : State) (dt k : Nat) : (s.elapse dt).get k = s.get k := State.Leaves.elapse.objects k trivial nofun

theorem State.keptOrDefault.ite {c : Prop} [Decidable c] {s t u : State} {k : Nat} (ht : s.keptOrDefault t k)
    (hu : s.keptOrDefault u k) : s.keptOrDefault (if c then t else u) k := by
  split
  · exact ht
  · exact hu

section
variable {k : Nat} (hk : noReset k) (hsafe : safeKey k = false)
include hk hsafe

theorem State.keptOrDefault.mainReset (s : State) (cause : Nat) : s.keptOrDefault (s.mainReset cause) k :=
  .of_eq ((s.mainReset_spec cause).2 k hk hsafe)

theorem State.keptOrDefault.resetNow (s : State) (cause : Nat) : s.keptOrDefault (s.resetNow cause) k :=
  .of_eq ((s.resetNow_spec cause).2 k hk hsafe)

theorem State.keptOrDefault.resetDecision (s : State) (cause : Nat) : s.keptOrDefault (s.resetDecision cause) k := by
  unfold State.resetDecision
  split
  · exact .inl rfl
  split
  · exact .inl rfl
  · exact .resetNow hk hsafe s cause

theorem State.keptOrDefault.nrst (s : State) (ns : Nat) : s.keptOrDefault (s.nrst ns) k := by
  unfold State.nrst
  split
  · exact .inl rfl
  split
  · exact .resetDecision hk hsafe s 3
  split
  · exact .trans rfl (.resetDecision hk hsafe s.draw 3)
  · exact .inl rfl

theorem State.keptOrDefault.svcReset (s : State) : s.keptOrDefault s.svcReset k := by
  unfold State.svcReset
  split
  · exact .trans rfl (.resetDecision hk hsafe _ 4)
  · exact .inl rfl

theorem State.keptOrDefault.peatEnter (s : State) : s.keptOrDefault s.peatEnter k := by
  have hsource : k ≠ Od.SUP_ACTIVE_SOURCE := by
    obtain ⟨-, -, -, -, -, -, -, hsource, -⟩ := hk
    exact hsource
  unfold State.peatEnter
  split
  · refine .trans (u := s.modPath fun p => { p with peat := true }) rfl ?_
    exact (State.keptOrDefault.mainReset hk hsafe _ 2).imp (fun e => (State.get_setN_ne _ _ _ _ hsource).trans e)
      (And.imp_right fun e => (State.get_setN_ne _ _ _ _ hsource).trans e)
  · exact .inl rfl

theorem State.keptOrDefault.deferredReset (s : State) (hcount : k ≠ Od.RST_RESET_HOLDOFFS) :
    s.keptOrDefault s.deferredReset k := by
  obtain ⟨-, -, hmap, -, -, -, hbring, -⟩ := id hk
  have hget : (s.count ctrHoldoffs).get k = s.get k := State.get_count_ne s ctrHoldoffs k hcount hbring hmap
  unfold State.deferredReset
  split
  · split
    · split
      · refine .trans ?_ (.resetNow hk hsafe _ _)
        rw [← hget]
        rfl
      · exact .inl rfl
    · exact .inl rfl
  · exact .inl rfl

theorem State.keptOrDefault.aonReset (s : State) (hreg : ∀ x, k ≠ Od.BKP_REG x) (hresets : k ≠ Od.RST_RESET_COUNT)
    (hcount : k ≠ Od.RST_RESET_HOLDOFFS) : s.keptOrDefault s.aonReset k := by
  obtain ⟨h14, h15, hmap, -, -, -, hbring, hsource, -⟩ := id hk
  have hregs : ∀ (u : State) (l : List Nat), (u.each l fun i s => s.setN (Od.BKP_REG i) 0).get k = u.get k := fun u l =>
    State.each_same (fun t => t.get k) l (fun i t => t.get_setN_ne _ _ _ (hreg i)) u
  unfold State.aonReset
  dsimp only
  refine .trans ?_ ((State.keptOrDefault.mainReset hk hsafe _ 1).imp (fun e => (State.get_setN_ne _ _ _ _ h14).trans e)
    (And.imp_right fun e => (State.get_setN_ne _ _ _ _ h14).trans e))
  rw [State.get_setN_ne _ _ _ _ hsource, State.get_setN_ne _ _ _ _ h15, State.get_setN_ne _ _ _ _ hbring,
    State.get_setN_ne _ _ _ _ hcount, State.get_setN_ne _ _ _ _ hresets, hregs]
  rfl
theorem State.keptOrDefault.feedCheck (s : State) (v : Rat) (hreg : ∀ x, k ≠ Od.BKP_REG x) (hresets : k ≠ Od.RST_RESET_COUNT)
    (hcount : k ≠ Od.RST_RESET_HOLDOFFS) : s.keptOrDefault (s.feedCheck v) k := by
  unfold State.feedCheck
  dsimp only
  split
  · exact .trans rfl (.aonReset hk hsafe _ hreg hresets hcount)
  · exact .inl rfl
end

/-! ### The frames, command by command -/

/-- Settles O55: each command by its footprint. -/
theorem framesOfLinksSupplyAndLegs : Obligations.FramesOfLinksSupplyAndLegs :=
  ⟨fun _ _ _ _ _ _ h => ⟨ResLeaves.execLinkFrameReceive.changes h, fun k h₁ h₂ h₃ =>
      ResLeaves.execLinkFrameReceive.get h k ⟨h₁, h₂, h₃⟩ (nofun)⟩,
   fun _ _ _ _ _ _ h => ResLeaves.execLinkLaneFail.changes h,
   fun _ _ _ _ h => ⟨ResLeaves.execLinkLossIslandDie.changes h, fun k h₁ h₂ h₃ h₄ h₅ h₆ h₇ h₈ h₉ h₁₀ h₁₁ h₁₂ h₁₃ h₁₄ h₁₅
    h₁₆ h₁₇ h₁₈ h₁₉ h₂₀ h₂₁ =>
      ResLeaves.execLinkLossIslandDie.get h k ⟨h₁, h₂, h₃, h₄, h₅, h₆, h₇, h₈, h₉, h₁₀, h₁₁, h₁₂, h₁₃, h₁₄, h₁₅, h₁₆,
        h₁₇, h₁₈, h₁₉, h₂₀, h₂₁⟩ (nofun)⟩,
   fun _ _ _ _ _ h => ⟨ResLeaves.execLinkTrainingComplete.changes h, fun k h₁ h₂ =>
      ResLeaves.execLinkTrainingComplete.get h k ⟨h₁, h₂⟩ (nofun)⟩,
   fun _ _ _ _ h => ⟨ResLeaves.execApplyTimeReached.changes h, fun k h₁ =>
      ResLeaves.execApplyTimeReached.get h k h₁ (nofun)⟩,
   fun _ _ _ h => ⟨ResLeaves.execEccSingleBitCorrection.changes h, fun k h₁ h₂ h₃ =>
      ResLeaves.execEccSingleBitCorrection.get h k ⟨h₁, h₂, h₃⟩ (nofun)⟩,
   fun _ _ _ h => ResLeaves.execScrubPass.changes h,
   fun _ _ _ _ _ h => ⟨ResLeaves.execClkFaultLatchWrite.changes h, fun k h₁ h₂ =>
      ResLeaves.execClkFaultLatchWrite.get h k ⟨h₁, h₂⟩ (nofun)⟩,
   fun _ _ _ _ h => ⟨ResLeaves.execSupplySourceChange.changes h, fun k h₁ h₂ h₃ h₄ h₅ h₆ h₇ h₈ h₉ h₁₀ =>
      ResLeaves.execSupplySourceChange.get h k ⟨h₁, h₂, h₃, h₄, h₅, h₆, h₇, h₈, h₉, h₁₀⟩ (nofun)⟩,
   fun _ _ _ h => ⟨ResLeaves.execAllSourcesInvalid.changes h, fun k h₁ h₂ h₃ h₄ h₅ h₆ h₇ h₈ =>
      ResLeaves.execAllSourcesInvalid.get h k ⟨h₁, h₂, h₃, h₄, h₅, h₆, h₇, h₈⟩ (nofun)⟩,
   fun _ _ _ _ h => ⟨ResLeaves.execHoldupInterruptionBridged.changes h, fun k h₁ h₂ h₃ h₄ h₅ h₆ h₇ h₈ h₉ h₁₀ =>
      ResLeaves.execHoldupInterruptionBridged.get h k ⟨h₁, h₂, h₃, h₄, h₅, h₆, h₇, h₈, h₉, h₁₀⟩ (nofun)⟩,
   fun _ _ _ h => ⟨ResLeaves.execPowerStageSupplyLoss.changes h, fun k h₁ h₂ h₃ h₄ h₅ h₆ h₇ h₈ h₉ h₁₀ h₁₁ h₁₂ h₁₃ h₁₄ h₁₅
    h₁₆ h₁₇ h₁₈ h₁₉ h₂₀ h₂₁ =>
      ResLeaves.execPowerStageSupplyLoss.get h k ⟨h₁, h₂, h₃, h₄, h₅, h₆, h₇, h₈, h₉, h₁₀, h₁₁, h₁₂, h₁₃, h₁₄, h₁₅,
        h₁₆, h₁₇, h₁₈, h₁₉, h₂₀, h₂₁⟩ (nofun)⟩,
   fun _ _ _ _ h => ⟨ResLeaves.execPowerStageSupplyReturn.changes h, fun k h₁ h₂ h₃ h₄ h₅ h₆ h₇ h₈ h₉ h₁₀ =>
      ResLeaves.execPowerStageSupplyReturn.get h k ⟨h₁, h₂, h₃, h₄, h₅, h₆, h₇, h₈, h₉, h₁₀⟩ (nofun)⟩,
   fun _ _ _ h => ⟨ResLeaves.execNrstRelease.changes h, fun k h₁ h₂ h₃ h₄ h₅ h₆ =>
      ResLeaves.execNrstRelease.get h k ⟨h₁, h₂, h₃, h₄, h₅, h₆⟩ (nofun)⟩,
   fun _ _ _ _ h => ⟨ResLeaves.execTrimLoadComplete.changes h, fun k h₁ h₂ =>
      ResLeaves.execTrimLoadComplete.get h k ⟨h₁, h₂⟩ (nofun)⟩,
   fun _ _ _ h => ⟨ResLeaves.execPllLock.changes h, fun k h₁ =>
      ResLeaves.execPllLock.get h k h₁ (nofun)⟩,
   fun _ _ _ _ _ h => ⟨ResLeaves.execImageCheckComplete.changes h, fun k h₁ h₂ h₃ h₄ h₅ h₆ =>
      ResLeaves.execImageCheckComplete.get h k ⟨h₁, h₂, h₃, h₄, h₅, h₆⟩ (nofun)⟩,
   fun _ _ _ h => ⟨ResLeaves.execControlIslandUp.changes h, fun k h₁ h₂ h₃ h₄ h₅ h₆ h₇ h₈ h₉ h₁₀ h₁₁ h₁₂ h₁₃ h₁₄ h₁₅ =>
      ResLeaves.execControlIslandUp.get h k ⟨h₁, h₂, h₃, h₄, h₅, h₆, h₇, h₈, h₉, h₁₀, h₁₁, h₁₂, h₁₃, h₁₄, h₁₅⟩
        (nofun)⟩,
   fun _ _ _ _ _ h => ⟨ResLeaves.execCustDataWrite.changes h, fun k h₁ =>
      ResLeaves.execCustDataWrite.get h k h₁ (nofun)⟩,
   fun _ _ _ _ h => ResLeaves.execDriveResetBlockRelease.changes h,
   fun _ _ _ _ h => ⟨ResLeaves.execSoftTurnOffPlateauEnd.changes h, fun k h₁ h₂ h₃ h₄ =>
      ResLeaves.execSoftTurnOffPlateauEnd.get h k ⟨h₁, h₂, h₃, h₄⟩ (nofun)⟩,
   fun _ _ _ _ _ _ h => ⟨ResLeaves.execScLockoutWrite.changes h, fun k h₁ h₂ =>
      ResLeaves.execScLockoutWrite.get h k ⟨h₁, h₂⟩ (nofun)⟩,
   fun _ _ _ _ _ _ h => ⟨ResLeaves.execSelftestStart.changes h, fun k h₁ =>
      ResLeaves.execSelftestStart.get h k h₁ (nofun)⟩,
   fun _ _ _ _ h => ⟨ResLeaves.execTokenRefill.changes h, fun k h₁ =>
      ResLeaves.execTokenRefill.get h k h₁ (nofun)⟩,
   fun _ _ _ _ h => ⟨ResLeaves.execDwellEnd.changes h, fun k h₁ h₂ h₃ h₄ h₅ h₆ h₇ h₈ h₉ =>
      ResLeaves.execDwellEnd.get h k ⟨h₁, h₂, h₃, h₄, h₅, h₆, h₇, h₈, h₉⟩ (nofun)⟩,
   fun _ _ _ _ h => ResLeaves.execLegCounterSave.changes h,
   fun _ _ _ _ h => ⟨ResLeaves.execOffsetRecalibrationDue.changes h, fun k h₁ =>
      ResLeaves.execOffsetRecalibrationDue.get h k h₁ (nofun)⟩,
   fun _ _ _ _ _ _ h => ⟨ResLeaves.execOffsetRecalibrationComplete.changes h, fun k h₁ h₂ h₃ h₄ h₅ h₆ =>
      ResLeaves.execOffsetRecalibrationComplete.get h k ⟨h₁, h₂, h₃, h₄, h₅, h₆⟩ (nofun)⟩,
   fun _ _ _ _ h => ⟨ResLeaves.execRecalibrationLate.changes h, fun k h₁ =>
      ResLeaves.execRecalibrationLate.get h k h₁ (nofun)⟩,
   fun _ _ _ _ h => ⟨ResLeaves.execSequencerTrigger.changes h, fun k h₁ h₂ h₃ h₄ h₅ =>
      ResLeaves.execSequencerTrigger.get h k ⟨h₁, h₂, h₃, h₄, h₅⟩ (nofun)⟩,
   fun _ _ _ _ _ _ h => ⟨ResLeaves.execSwTriggerWrite.changes h, fun k h₁ h₂ h₃ h₄ h₅ =>
      ResLeaves.execSwTriggerWrite.get h k ⟨h₁, h₂, h₃, h₄, h₅⟩ (nofun)⟩,
   fun _ _ _ _ _ _ h => ⟨ResLeaves.execSqCtrlWrite.changes h, fun k h₁ h₂ h₃ h₄ h₅ h₆ =>
      ResLeaves.execSqCtrlWrite.get h k ⟨h₁, h₂, h₃, h₄, h₅, h₆⟩ (nofun)⟩,
   fun _ _ _ _ _ h => ⟨ResLeaves.execGeneralComparatorCrossing.changes h, fun k h₁ h₂ h₃ h₄ h₅ h₆ h₇ h₈ =>
      ResLeaves.execGeneralComparatorCrossing.get h k ⟨h₁, h₂, h₃, h₄, h₅, h₆, h₇, h₈⟩ (nofun)⟩,
   fun _ _ _ _ _ _ h => ⟨ResLeaves.execGcpClearWrite.changes h, fun k h₁ h₂ h₃ h₄ h₅ h₆ =>
      ResLeaves.execGcpClearWrite.get h k ⟨h₁, h₂, h₃, h₄, h₅, h₆⟩ (nofun)⟩⟩

/-- Settles O56: each command by its footprint. -/
theorem framesOfControlAndEngines : Obligations.FramesOfControlAndEngines :=
  ⟨fun _ _ _ _ _ _ h => ⟨ResLeaves.execTqSetWrite.changes h, fun k h₁ h₂ =>
      ResLeaves.execTqSetWrite.get h k ⟨h₁, h₂⟩ (nofun)⟩,
   fun _ _ _ _ _ _ h => ⟨ResLeaves.execDirectionWrite.changes h, fun k h₁ h₂ h₃ h₄ h₅ h₆ h₇ h₈ h₉ h₁₀ =>
      ResLeaves.execDirectionWrite.get h k ⟨h₁, h₂, h₃, h₄, h₅, h₆, h₇, h₈, h₉, h₁₀⟩ (nofun)⟩,
   fun _ _ _ _ h => ⟨ResLeaves.execReversalReengage.changes h, fun k h₁ h₂ h₃ h₄ h₅ h₆ h₇ h₈ h₉ h₁₀ h₁₁ h₁₂ h₁₃ h₁₄ h₁₅
    h₁₆ h₁₇ h₁₈ h₁₉ =>
      ResLeaves.execReversalReengage.get h k ⟨h₁, h₂, h₃, h₄, h₅, h₆, h₇, h₈, h₉, h₁₀, h₁₁, h₁₂, h₁₃, h₁₄, h₁₅, h₁₆,
        h₁₇, h₁₈, h₁₉⟩ (nofun)⟩,
   fun _ _ _ _ h => ⟨ResLeaves.execTrackingValid.changes h, fun k h₁ h₂ h₃ h₄ h₅ h₆ =>
      ResLeaves.execTrackingValid.get h k ⟨h₁, h₂, h₃, h₄, h₅, h₆⟩ (nofun)⟩,
   fun _ _ _ _ _ _ h => ⟨ResLeaves.execProbeAssistPeriod.changes h, fun k h₁ h₂ h₃ =>
      ResLeaves.execProbeAssistPeriod.get h k ⟨h₁, h₂, h₃⟩ (nofun)⟩,
   fun _ _ _ _ h => ⟨ResLeaves.execRecoveryAngleFound.changes h, fun k h₁ h₂ h₃ h₄ h₅ h₆ h₇ h₈ h₉ h₁₀ h₁₁ h₁₂ h₁₃ h₁₄ h₁₅
    h₁₆ h₁₇ h₁₈ =>
      ResLeaves.execRecoveryAngleFound.get h k ⟨h₁, h₂, h₃, h₄, h₅, h₆, h₇, h₈, h₉, h₁₀, h₁₁, h₁₂, h₁₃, h₁₄, h₁₅, h₁₆,
        h₁₇, h₁₈⟩ (nofun)⟩,
   fun _ _ _ _ _ h => ⟨ResLeaves.execIdStatic.changes h, fun k h₁ h₂ h₃ h₄ =>
      ResLeaves.execIdStatic.get h k ⟨h₁, h₂, h₃, h₄⟩ (nofun)⟩,
   fun _ _ _ _ _ h => ⟨ResLeaves.execIdRotating.changes h, fun k h₁ h₂ h₃ h₄ =>
      ResLeaves.execIdRotating.get h k ⟨h₁, h₂, h₃, h₄⟩ (nofun)⟩,
   fun _ _ _ _ _ h => ⟨ResLeaves.execIdEncoderOffset.changes h, fun k h₁ h₂ h₃ h₄ =>
      ResLeaves.execIdEncoderOffset.get h k ⟨h₁, h₂, h₃, h₄⟩ (nofun)⟩,
   fun _ _ _ _ _ h => ⟨ResLeaves.execIdApply.changes h, fun k h₁ h₂ h₃ h₄ h₅ h₆ =>
      ResLeaves.execIdApply.get h k ⟨h₁, h₂, h₃, h₄, h₅, h₆⟩ (nofun)⟩,
   fun _ _ _ _ _ _ h => ⟨ResLeaves.execCheckCmdWrite.changes h, fun k h₁ h₂ =>
      ResLeaves.execCheckCmdWrite.get h k ⟨h₁, h₂⟩ (nofun)⟩,
   fun _ _ _ _ _ _ h => ⟨ResLeaves.execPifModeWrite.changes h, fun k h₁ h₂ h₃ =>
      ResLeaves.execPifModeWrite.get h k ⟨h₁, h₂, h₃⟩ (nofun)⟩,
   fun _ _ _ _ _ _ _ h => ⟨ResLeaves.execSecCtrlWrite.changes h, fun k h₁ h₂ =>
      ResLeaves.execSecCtrlWrite.get h k ⟨h₁, h₂⟩ (nofun)⟩,
   fun _ _ _ _ h => ⟨ResLeaves.execTaskRelease.changes h, fun k h₁ h₂ h₃ h₄ h₅ h₆ h₇ h₈ h₉ h₁₀ h₁₁ h₁₂ h₁₃ =>
      ResLeaves.execTaskRelease.get h k ⟨h₁, h₂, h₃, h₄, h₅, h₆, h₇, h₈, h₉, h₁₀, h₁₁, h₁₂, h₁₃⟩ (nofun)⟩,
   fun _ _ _ _ h => ⟨ResLeaves.execEngineRejoin.changes h, fun k h₁ h₂ h₃ h₄ h₅ h₆ h₇ h₈ h₉ h₁₀ h₁₁ h₁₂ =>
      ResLeaves.execEngineRejoin.get h k ⟨h₁, h₂, h₃, h₄, h₅, h₆, h₇, h₈, h₉, h₁₀, h₁₁, h₁₂⟩ (nofun)⟩,
   fun _ _ _ _ _ h => ⟨ResLeaves.execConfigLoadWrite.changes h, fun k h₁ h₂ =>
      ResLeaves.execConfigLoadWrite.get h k ⟨h₁, h₂⟩ (nofun)⟩,
   fun _ _ _ h => ⟨ResLeaves.execConfigLoadAdmissionComplete.changes h, fun k h₁ h₂ h₃ h₄ h₅ h₆ h₇ h₈ h₉ h₁₀ h₁₁ h₁₂ h₁₃
    h₁₄ h₁₅ h₁₆ h₁₇ h₁₈ =>
      ResLeaves.execConfigLoadAdmissionComplete.get h k ⟨h₁, h₂, h₃, h₄, h₅, h₆, h₇, h₈, h₉, h₁₀, h₁₁, h₁₂, h₁₃, h₁₄,
        h₁₅, h₁₆, h₁₇, h₁₈⟩ (nofun)⟩⟩

/-- Settles O57: each command by its footprint. -/
theorem framesOfGearboxPowerAndSafety : Obligations.FramesOfGearboxPowerAndSafety :=
  ⟨fun _ _ _ _ _ h => ⟨ResLeaves.execAxleModeWrite.changes h, fun k h₁ h₂ h₃ h₄ h₅ h₆ h₇ h₈ h₉ h₁₀ h₁₁ h₁₂ h₁₃ h₁₄ h₁₅
    h₁₆ h₁₇ h₁₈ h₁₉ h₂₀ =>
      ResLeaves.execAxleModeWrite.get h k ⟨h₁, h₂, h₃, h₄, h₅, h₆, h₇, h₈, h₉, h₁₀, h₁₁, h₁₂, h₁₃, (forall_lt_two.2
        ⟨h₁₄, h₁₅⟩), (forall_lt_two.2 ⟨h₁₆, h₁₇⟩), (forall_lt_two.2 ⟨h₁₈, h₁₉⟩), h₂₀⟩ (nofun)⟩,
   fun _ _ _ _ _ h => ⟨ResLeaves.execAxleTqSetWrite.changes h, fun k h₁ h₂ =>
      ResLeaves.execAxleTqSetWrite.get h k ⟨h₁, h₂⟩ (nofun)⟩,
   fun _ _ _ _ _ h => ⟨ResLeaves.execYawTqSetWrite.changes h, fun k h₁ h₂ =>
      ResLeaves.execYawTqSetWrite.get h k ⟨h₁, h₂⟩ (nofun)⟩,
   fun _ _ _ _ _ h => ⟨ResLeaves.execAxleDirectionWrite.changes h, fun k h₁ h₂ h₃ h₄ h₅ h₆ h₇ h₈ h₉ h₁₀ h₁₁ h₁₂ h₁₃ h₁₄
    =>
      ResLeaves.execAxleDirectionWrite.get h k ⟨h₁, h₂, h₃, h₄, h₅, h₆, h₇, (forall_lt_two.2 ⟨h₈, h₉⟩),
        (forall_lt_two.2 ⟨h₁₀, h₁₁⟩), (forall_lt_two.2 ⟨h₁₂, h₁₃⟩), h₁₄⟩ (nofun)⟩,
   fun _ _ _ _ _ _ h => ⟨ResLeaves.execShiftCmdWrite.changes h, fun k h₁ h₂ h₃ h₄ h₅ =>
      ResLeaves.execShiftCmdWrite.get h k ⟨h₁, h₂, h₃, h₄, h₅⟩ (nofun)⟩,
   fun _ _ _ _ h => ⟨ResLeaves.execShiftStepLimit.changes h, by
      intro k; intros; exact ResLeaves.execShiftStepLimit.get h k (by simp +contextual only [*, Fin.is_lt, ne_eq, not_false_eq_true, and_self, implies_true])⟩,
   fun _ _ _ _ _ _ h => ⟨ResLeaves.execISetWrite.changes h, fun k h₁ h₂ h₃ h₄ =>
      ResLeaves.execISetWrite.get h k ⟨h₁, h₂, h₃, h₄⟩ (nofun)⟩,
   fun _ _ _ _ h => ⟨ResLeaves.execIbBelow38V.changes h, fun k h₁ h₂ h₃ h₄ h₅ h₆ h₇ h₈ h₉ h₁₀ h₁₁ h₁₂ h₁₃ h₁₄ h₁₅ h₁₆ h₁₇
    h₁₈ h₁₉ h₂₀ h₂₁ =>
      ResLeaves.execIbBelow38V.get h k ⟨h₁, h₂, h₃, h₄, h₅, h₆, h₇, h₈, h₉, h₁₀, h₁₁, h₁₂, h₁₃, h₁₄, h₁₅, h₁₆, h₁₇,
        h₁₈, h₁₉, h₂₀, h₂₁⟩ (nofun)⟩,
   fun _ _ _ _ _ h => ⟨ResLeaves.execSolenoidOvercurrent.changes h, fun k h₁ h₂ h₃ h₄ h₅ h₆ h₇ h₈ h₉ h₁₀ h₁₁ h₁₂ h₁₃ h₁₄
    h₁₅ h₁₆ h₁₇ h₁₈ h₁₉ h₂₀ h₂₁ h₂₂ =>
      ResLeaves.execSolenoidOvercurrent.get h k ⟨h₁, h₂, h₃, h₄, h₅, h₆, h₇, h₈, h₉, h₁₀, h₁₁, h₁₂, h₁₃, h₁₄, h₁₅,
        h₁₆, h₁₇, h₁₈, h₁₉, h₂₀, h₂₁, h₂₂⟩ (nofun)⟩,
   fun _ _ _ _ h => ⟨ResLeaves.execSolenoidOpenLoad.changes h, fun k h₁ h₂ h₃ h₄ h₅ h₆ h₇ h₈ h₉ h₁₀ h₁₁ h₁₂ h₁₃ h₁₄ h₁₅
    h₁₆ h₁₇ h₁₈ h₁₉ h₂₀ h₂₁ =>
      ResLeaves.execSolenoidOpenLoad.get h k ⟨h₁, h₂, h₃, h₄, h₅, h₆, h₇, h₈, h₉, h₁₀, h₁₁, h₁₂, h₁₃, h₁₄, h₁₅, h₁₆,
        h₁₇, h₁₈, h₁₉, h₂₀, h₂₁⟩ (nofun)⟩,
   fun _ _ _ _ h => ⟨ResLeaves.execSolenoidDeviation.changes h, fun k h₁ =>
      ResLeaves.execSolenoidDeviation.get h k h₁ (nofun)⟩,
   fun _ _ _ _ _ h => ⟨ResLeaves.execParkEngageCmd.changes h, fun k h₁ h₂ h₃ h₄ h₅ h₆ h₇ h₈ h₉ h₁₀ h₁₁ h₁₂ h₁₃ h₁₄ h₁₅
    h₁₆ =>
      ResLeaves.execParkEngageCmd.get h k ⟨h₁, h₂, h₃, h₄, h₅, h₆, h₇, h₈, h₉, h₁₀, h₁₁, h₁₂, h₁₃, h₁₄, h₁₅, h₁₆⟩
        (nofun)⟩,
   fun _ _ _ _ _ h => ⟨ResLeaves.execParkReleaseCmd.changes h, fun k h₁ h₂ h₃ h₄ h₅ h₆ h₇ h₈ h₉ h₁₀ h₁₁ h₁₂ h₁₃ h₁₄ h₁₅
    h₁₆ =>
      ResLeaves.execParkReleaseCmd.get h k ⟨h₁, h₂, h₃, h₄, h₅, h₆, h₇, h₈, h₉, h₁₀, h₁₁, h₁₂, h₁₃, h₁₄, h₁₅, h₁₆⟩
        (nofun)⟩,
   fun _ _ _ _ h => ⟨ResLeaves.execParkPositionConfirm.changes h, fun k h₁ h₂ h₃ h₄ h₅ h₆ h₇ =>
      ResLeaves.execParkPositionConfirm.get h k ⟨h₁, h₂, h₃, h₄, h₅, h₆, h₇⟩ (nofun)⟩,
   fun _ _ _ _ h => ⟨ResLeaves.execPawlOnTooth.changes h, fun k h₁ =>
      ResLeaves.execPawlOnTooth.get h k h₁ (nofun)⟩,
   fun _ _ _ _ h => ⟨ResLeaves.execParkReleaseTimeout.changes h, fun k h₁ h₂ h₃ h₄ h₅ h₆ h₇ h₈ h₉ h₁₀ h₁₁ h₁₂ h₁₃ h₁₄ h₁₅
    h₁₆ h₁₇ =>
      ResLeaves.execParkReleaseTimeout.get h k ⟨h₁, h₂, h₃, h₄, h₅, h₆, h₇, h₈, h₉, h₁₀, h₁₁, h₁₂, h₁₃, h₁₄, h₁₅, h₁₆,
        h₁₇⟩ (nofun)⟩,
   fun _ _ _ h => ⟨ResLeaves.execGearStateRecoveryStart.changes h, fun k h₁ h₂ h₃ =>
      ResLeaves.execGearStateRecoveryStart.get h k ⟨h₁, h₂, h₃⟩ (nofun)⟩,
   fun _ _ _ h => ⟨ResLeaves.execUvTripRelease.changes h, fun k h₁ =>
      ResLeaves.execUvTripRelease.get h k h₁ (nofun)⟩,
   fun _ _ _ _ _ _ h => ⟨ResLeaves.execResOhmWrite.changes h, fun k h₁ h₂ =>
      ResLeaves.execResOhmWrite.get h k ⟨h₁, h₂⟩ (nofun)⟩,
   fun _ _ _ h => ResLeaves.execBrkCheckRetry.changes h,
   fun _ _ _ _ d _ h => ⟨ResLeaves.execAutoRunWrite.changes h, by
      intro k; intros; exact ResLeaves.execAutoRunWrite.get h k (by cases d <;> simp_all only [SelfRun.key, ne_eq, not_false_eq_true, and_self])⟩,
   fun _ _ _ h => ⟨ResLeaves.execDischargeLinkSupplied.changes h, fun k h₁ h₂ h₃ h₄ h₅ h₆ h₇ =>
      ResLeaves.execDischargeLinkSupplied.get h k ⟨h₁, h₂, h₃, h₄, h₅, h₆, h₇⟩ (nofun)⟩,
   fun _ _ _ h => ⟨ResLeaves.execDischargeComplete.changes h, fun k h₁ h₂ h₃ h₄ h₅ h₆ h₇ h₈ =>
      ResLeaves.execDischargeComplete.get h k ⟨h₁, h₂, h₃, h₄, h₅, h₆, h₇, h₈⟩ (nofun)⟩,
   fun _ _ _ _ h => ⟨ResLeaves.execDabPeakLimit.changes h, fun k h₁ =>
      ResLeaves.execDabPeakLimit.get h k h₁ (nofun)⟩,
   fun _ _ _ _ h => ⟨ResLeaves.execVselSample.changes h, fun k h₁ h₂ h₃ h₄ h₅ h₆ =>
      ResLeaves.execVselSample.get h k ⟨h₁, h₂, h₃, h₄, h₅, h₆⟩ (nofun)⟩,
   fun _ _ _ _ _ h => ⟨ResLeaves.execVrSrcWrite.changes h, fun k h₁ h₂ h₃ h₄ =>
      ResLeaves.execVrSrcWrite.get h k ⟨h₁, h₂, h₃, h₄⟩ (nofun)⟩,
   fun _ _ _ _ _ h => ⟨ResLeaves.execVrCmdWrite.changes h, fun k h₁ h₂ h₃ h₄ =>
      ResLeaves.execVrCmdWrite.get h k ⟨h₁, h₂, h₃, h₄⟩ (nofun)⟩,
   fun _ _ _ _ _ _ h => ⟨ResLeaves.execVrSetWrite.changes h, fun k h₁ h₂ h₃ h₄ =>
      ResLeaves.execVrSetWrite.get h k ⟨h₁, h₂, h₃, h₄⟩ (nofun)⟩,
   fun _ _ _ _ h => ⟨ResLeaves.execLoadReleaseEntry.changes h, fun k h₁ h₂ h₃ h₄ h₅ h₆ =>
      ResLeaves.execLoadReleaseEntry.get h k ⟨h₁, h₂, h₃, h₄, h₅, h₆⟩ (nofun)⟩,
   fun _ _ _ _ h => ⟨ResLeaves.execLoadReleaseExit.changes h, fun k h₁ h₂ =>
      ResLeaves.execLoadReleaseExit.get h k ⟨h₁, h₂⟩ (nofun)⟩,
   fun _ _ _ _ _ h => ⟨ResLeaves.execSyncInLock.changes h, fun k h₁ h₂ =>
      ResLeaves.execSyncInLock.get h k ⟨h₁, h₂⟩ (nofun)⟩,
   fun _ _ _ h => ⟨ResLeaves.execSyncInLoss.changes h, fun k h₁ h₂ h₃ h₄ h₅ =>
      ResLeaves.execSyncInLoss.get h k ⟨h₁, h₂, h₃, h₄, h₅⟩ (nofun)⟩,
   fun _ _ _ _ _ h => ⟨ResLeaves.execAux48EnWrite.changes h, fun k h₁ h₂ h₃ =>
      ResLeaves.execAux48EnWrite.get h k ⟨h₁, h₂, h₃⟩ (nofun)⟩,
   fun _ _ _ _ h => ⟨ResLeaves.execAux48Overcurrent.changes h, fun k h₁ h₂ =>
      ResLeaves.execAux48Overcurrent.get h k ⟨h₁, h₂⟩ (nofun)⟩,
   fun _ _ _ _ h => ⟨ResLeaves.execIbOvervoltagePause.changes h, fun k h₁ h₂ h₃ h₄ h₅ h₆ =>
      ResLeaves.execIbOvervoltagePause.get h k ⟨h₁, h₂, h₃, h₄, h₅, h₆⟩ (nofun)⟩,
   fun _ _ _ _ h => ⟨ResLeaves.execPilotDutyChange.changes h, fun k h₁ h₂ h₃ h₄ h₅ =>
      ResLeaves.execPilotDutyChange.get h k ⟨h₁, h₂, h₃, h₄, h₅⟩ (nofun)⟩,
   fun _ _ _ h => ⟨ResLeaves.execChargeSessionOpen.changes h, fun k h₁ h₂ h₃ =>
      ResLeaves.execChargeSessionOpen.get h k ⟨h₁, h₂, h₃⟩ (nofun)⟩,
   fun _ _ _ h => ResLeaves.execAutoChargeStart.changes h,
   fun _ _ _ h => ⟨ResLeaves.execAcWaitTimeout.changes h, fun k h₁ h₂ =>
      ResLeaves.execAcWaitTimeout.get h k ⟨h₁, h₂⟩ (nofun)⟩,
   fun _ _ _ _ _ h => ⟨ResLeaves.execBmsMessageReceive.changes h, fun k h₁ h₂ h₃ h₄ h₅ h₆ h₇ h₈ h₉ h₁₀ h₁₁ h₁₂ h₁₃ h₁₄ =>
      ResLeaves.execBmsMessageReceive.get h k ⟨h₁, h₂, h₃, h₄, h₅, h₆, h₇, h₈, h₉, h₁₀, h₁₁, h₁₂, h₁₃, h₁₄⟩ (nofun)⟩,
   fun _ _ _ h => ⟨ResLeaves.execModuleStatusSend.changes h, fun k h₁ h₂ h₃ h₄ =>
      ResLeaves.execModuleStatusSend.get h k ⟨h₁, (h₂ _ (by decide)), (h₃ _ (by decide)), h₄⟩ (nofun)⟩,
   fun _ _ _ h => ⟨ResLeaves.execSvcPressRelease.changes h, fun k h₁ h₂ h₃ h₄ h₅ =>
      ResLeaves.execSvcPressRelease.get h k ⟨h₁, h₂, h₃, h₄, h₅⟩ (nofun)⟩,
   fun _ _ _ h => ResLeaves.execSvcHold8s.changes h,
   fun _ _ _ _ _ h => ⟨ResLeaves.execPeatCmdWrite.changes h, fun k h₁ h₂ h₃ h₄ h₅ h₆ h₇ h₈ h₉ h₁₀ h₁₁ h₁₂ =>
      ResLeaves.execPeatCmdWrite.get h k ⟨h₁, h₂, h₃, h₄, h₅, h₆, h₇, h₈, h₉, h₁₀, h₁₁, h₁₂⟩ (nofun)⟩,
   fun _ _ _ _ _ h => ⟨ResLeaves.execAttnClearWrite.changes h, fun k h₁ h₂ h₃ =>
      ResLeaves.execAttnClearWrite.get h k ⟨h₁, h₂, h₃⟩ (nofun)⟩,
   fun _ _ _ h => ⟨ResLeaves.execFenRoundTrigger.changes h, fun k h₁ h₂ h₃ h₄ h₅ =>
      ResLeaves.execFenRoundTrigger.get h k ⟨h₁, h₂, h₃, h₄, h₅⟩ (nofun)⟩,
   fun _ _ _ h => ⟨ResLeaves.execCoolantFlowLow.changes h, fun k h₁ =>
      ResLeaves.execCoolantFlowLow.get h k h₁ (nofun)⟩,
   fun _ _ _ h => ResLeaves.execResyncCopyComplete.changes h,
   fun _ _ _ h => ⟨ResLeaves.execResyncWindowClose.changes h, fun k h₁ h₂ =>
      ResLeaves.execResyncWindowClose.get h k ⟨h₁, h₂⟩ (nofun)⟩,
   fun _ _ _ _ h => ⟨ResLeaves.execInputPairDiscrepancy.changes h, fun k h₁ h₂ h₃ h₄ h₅ h₆ =>
      ResLeaves.execInputPairDiscrepancy.get h k ⟨h₁, h₂, h₃, h₄, h₅, h₆⟩ (nofun)⟩,
   fun _ _ _ _ _ h => ⟨ResLeaves.execTestPulse.changes h, fun k h₁ h₂ h₃ h₄ h₅ h₆ =>
      ResLeaves.execTestPulse.get h k ⟨h₁, h₂, h₃, h₄, h₅, h₆⟩ (nofun)⟩,
   fun _ _ _ _ h => ResLeaves.execReleasePairOverhold.changes h,
   fun _ _ _ h => ResLeaves.execSafeParkConfirmTimeout.changes h,
   fun _ _ _ _ h => ⟨ResLeaves.execSetEditOpen.changes h, fun k h₁ =>
      ResLeaves.execSetEditOpen.get h k h₁ (nofun)⟩,
   fun _ _ _ _ h => ⟨ResLeaves.execSetEditDiscard.changes h, fun k h₁ =>
      ResLeaves.execSetEditDiscard.get h k h₁ (nofun)⟩,
   fun _ _ _ _ _ h => ⟨ResLeaves.execSetCommit.changes h, fun k h₁ h₂ h₃ h₄ h₅ =>
      ResLeaves.execSetCommit.get h k ⟨h₁, h₂, h₃, h₄, h₅⟩ (nofun)⟩,
   fun _ _ _ _ _ h => ⟨ResLeaves.execHsfDataFrameReceive.changes h, fun k h₁ =>
      ResLeaves.execHsfDataFrameReceive.get h k h₁ (nofun)⟩,
   fun _ _ _ k0 _ h => ⟨ResLeaves.execHsfEchoReceive.changes h, fun k h₁ h₂ h₃ h₄ h₅ h₆ h₇ h₈ h₉ =>
      ResLeaves.execHsfEchoReceive.get h k ⟨h₁, h₂, h₃, (h₄ _ k0.isLt), h₅, (h₆ _ k0.isLt), (h₇ _ k0.isLt), h₈, (h₉ _
        k0.isLt)⟩ (nofun)⟩,
   fun _ _ _ _ h => ⟨ResLeaves.execHsfProducerSend.changes h, fun k h₁ h₂ h₃ h₄ h₅ h₆ h₇ h₈ h₉ =>
      ResLeaves.execHsfProducerSend.get h k ⟨h₁, h₂, h₃, h₄, h₅, h₆, h₇, h₈, h₉⟩ (nofun)⟩,
   fun _ _ _ k0 h => ⟨ResLeaves.execHsfWatchdog.changes h, fun k h₁ h₂ h₃ h₄ h₅ h₆ =>
      ResLeaves.execHsfWatchdog.get h k ⟨h₁, h₂, (h₃ _ k0.isLt), h₄, h₅, h₆⟩ (nofun)⟩,
   fun _ _ _ _ h => ⟨ResLeaves.execHsfProducerRestart.changes h, fun k h₁ =>
      ResLeaves.execHsfProducerRestart.get h k h₁ (nofun)⟩,
   fun _ _ _ _ _ h => ⟨ResLeaves.execCrcStartWrite.changes h, fun k h₁ h₂ h₃ h₄ =>
      ResLeaves.execCrcStartWrite.get h k ⟨h₁, h₂, h₃, h₄⟩ (nofun)⟩,
   fun _ _ _ _ _ _ h => ⟨ResLeaves.execCrcDataWrite.changes h, fun k h₁ h₂ h₃ h₄ =>
      ResLeaves.execCrcDataWrite.get h k ⟨h₁, h₂, h₃, h₄⟩ (nofun)⟩,
   fun _ _ _ _ h => ResLeaves.execCrcBindingTimeout.changes h,
   fun _ _ _ h => ⟨ResLeaves.execSvcPressed.changes h, fun k h₁ h₂ =>
      ResLeaves.execSvcPressed.get h k ⟨h₁, h₂⟩ (nofun)⟩,
   fun _ _ _ _ h => ResLeaves.execSoCurrentLimitOff.changes h⟩

/-- Settles O58: each command by its footprint. -/
theorem framesOfNetworksAndImages : Obligations.FramesOfNetworksAndImages :=
  ⟨fun _ _ _ c _ h => ⟨ResLeaves.execCanSlotStale.changes h, fun k h₁ h₂ h₃ =>
      ResLeaves.execCanSlotStale.get h k ⟨h₁, (h₂ _ c.isLt), h₃⟩ (nofun)⟩,
   fun _ _ _ _ _ h => ⟨ResLeaves.execBridgeRxRead.changes h, fun k h₁ =>
      ResLeaves.execBridgeRxRead.get h k h₁ (nofun)⟩,
   fun _ _ _ _ c _ h => ⟨ResLeaves.execBridgeTxWrite.changes h, fun k h₁ h₂ _ h₃ =>
      ResLeaves.execBridgeTxWrite.get h k ⟨h₁, h₂, (h₃ _ c.isLt)⟩ (nofun)⟩,
   fun _ _ _ c h => ⟨ResLeaves.execCanChannelRejoin.changes h, fun k h₁ h₂ h₃ =>
      ResLeaves.execCanChannelRejoin.get h k ⟨h₁, (h₂ _ c.isLt), h₃⟩ (nofun)⟩,
   fun _ _ _ h => ⟨ResLeaves.execCanTimestampWrap.changes h, fun k h₁ =>
      ResLeaves.execCanTimestampWrap.get h k h₁ (nofun)⟩,
   fun _ _ _ h => ⟨ResLeaves.execTimeReferenceSend.changes h, fun k h₁ h₂ h₃ h₄ =>
      ResLeaves.execTimeReferenceSend.get h k ⟨h₁, (h₂ _ (by decide)), (h₃ _ (by decide)), h₄⟩ (nofun)⟩,
   fun _ _ _ _ _ h => ⟨ResLeaves.execTimeReferenceReceive.changes h, fun k h₁ h₂ h₃ h₄ h₅ h₆ h₇ h₈ =>
      ResLeaves.execTimeReferenceReceive.get h k ⟨h₁, h₂, h₃, h₄, h₅, h₆, h₇, h₈⟩ (nofun)⟩,
   fun _ _ _ h => ⟨ResLeaves.execTimeMasterTakeover.changes h, fun k h₁ h₂ h₃ h₄ =>
      ResLeaves.execTimeMasterTakeover.get h k ⟨h₁, h₂, h₃, h₄⟩ (nofun)⟩,
   fun _ _ _ h => ⟨ResLeaves.execGlobalTimeSyncLoss.changes h, fun k h₁ =>
      ResLeaves.execGlobalTimeSyncLoss.get h k h₁ (nofun)⟩,
   fun _ _ _ h => ⟨ResLeaves.execAddressClaimStart.changes h, fun k h₁ h₂ h₃ h₄ =>
      ResLeaves.execAddressClaimStart.get h k ⟨h₁, (h₂ _ (by decide)), (h₃ _ (by decide)), h₄⟩ (nofun)⟩,
   fun _ _ _ _ _ h => ⟨ResLeaves.execAddressClaimReceive.changes h, fun k h₁ h₂ h₃ h₄ =>
      ResLeaves.execAddressClaimReceive.get h k ⟨h₁, (h₂ _ (by decide)), (h₃ _ (by decide)), h₄⟩ (nofun)⟩,
   fun _ _ _ h => ResLeaves.execAddressClaimTimer.changes h,
   fun _ _ _ _ _ _ h => ⟨ResLeaves.execCanARequest.changes h, fun k h₁ h₂ h₃ h₄ =>
      ResLeaves.execCanARequest.get h k ⟨h₁, (h₂ _ (by decide)), (h₃ _ (by decide)), h₄⟩ (nofun)⟩,
   fun _ _ _ h => ⟨ResLeaves.execCanAStatusSend.changes h, fun k h₁ h₂ h₃ h₄ =>
      ResLeaves.execCanAStatusSend.get h k ⟨h₁, (h₂ _ (by decide)), (h₃ _ (by decide)), h₄⟩ (nofun)⟩,
   fun _ _ _ h => ⟨ResLeaves.execEmcySend.changes h, fun k h₁ h₂ h₃ h₄ =>
      ResLeaves.execEmcySend.get h k ⟨h₁, (h₂ _ (by decide)), (h₃ _ (by decide)), h₄⟩ (nofun)⟩,
   fun _ _ _ h => ResLeaves.execSdoTimeout.changes h,
   fun _ _ _ _ _ h => ⟨ResLeaves.execAuthOpenWrite.changes h, fun k h₁ =>
      ResLeaves.execAuthOpenWrite.get h k h₁ (nofun)⟩,
   fun _ _ _ _ _ h => ⟨ResLeaves.execAuthResponseWrite.changes h, fun k h₁ h₂ h₃ h₄ h₅ =>
      ResLeaves.execAuthResponseWrite.get h k ⟨h₁, h₂, h₃, h₄, h₅⟩ (nofun)⟩,
   fun _ _ _ _ h => ResLeaves.execNonceExpiry.changes h,
   fun _ _ _ _ h => ResLeaves.execAuthLockExpiry.changes h,
   fun _ _ _ _ _ _ h => ⟨ResLeaves.execKeyWrite.changes h, fun k h₁ =>
      ResLeaves.execKeyWrite.get h k h₁ (nofun)⟩,
   fun _ _ _ h => ⟨ResLeaves.execEventLogEntry.changes h, fun k h₁ h₂ h₃ h₄ h₅ h₆ h₇ h₈ h₉ h₁₀ h₁₁ =>
      ResLeaves.execEventLogEntry.get h k ⟨h₁, h₂, h₃, h₄, h₅, h₆, h₇, h₈, h₉, h₁₀, h₁₁⟩ (nofun)⟩,
   fun _ _ _ _ h => ⟨ResLeaves.execLogNextRead.changes h, fun k h₁ =>
      ResLeaves.execLogNextRead.get h k h₁ (nofun)⟩,
   fun _ _ _ _ h => ⟨ResLeaves.execLogClearWrite.changes h, fun k h₁ h₂ =>
      ResLeaves.execLogClearWrite.get h k ⟨h₁, h₂⟩ (nofun)⟩,
   fun _ _ _ _ h => ⟨ResLeaves.execFaultOccClearWrite.changes h, fun k h₁ =>
      ResLeaves.execFaultOccClearWrite.get h k h₁ (nofun)⟩,
   fun _ _ _ h => ResLeaves.execOperatingTimeSave.changes h,
   fun _ _ _ _ h => ⟨ResLeaves.execUpdateStart.changes h, fun k h₁ h₂ h₃ h₄ h₅ =>
      ResLeaves.execUpdateStart.get h k ⟨h₁, h₂, h₃, h₄, h₅⟩ (nofun)⟩,
   fun _ _ _ _ h => ⟨ResLeaves.execUpdateAbort.changes h, fun k h₁ h₂ h₃ h₄ h₅ =>
      ResLeaves.execUpdateAbort.get h k ⟨h₁, h₂, h₃, h₄, h₅⟩ (nofun)⟩,
   fun _ _ _ _ _ h => ⟨ResLeaves.execRollbackRequest.changes h, fun k h₁ h₂ h₃ =>
      ResLeaves.execRollbackRequest.get h k ⟨h₁, h₂, h₃⟩ (nofun)⟩,
   fun _ _ _ h => ⟨ResLeaves.execUpdateEraseComplete.changes h, fun k h₁ h₂ =>
      ResLeaves.execUpdateEraseComplete.get h k ⟨h₁, h₂⟩ (nofun)⟩,
   fun _ _ _ _ _ _ _ h => ⟨ResLeaves.execTftpDataReceive.changes h, fun k h₁ h₂ h₃ h₄ h₅ h₆ h₇ h₈ h₉ =>
      ResLeaves.execTftpDataReceive.get h k ⟨h₁, h₂, h₃, h₄, h₅, h₆, h₇, h₈, h₉⟩ (nofun)⟩,
   fun _ _ _ _ h => ⟨ResLeaves.execTftpErrorReceive.changes h, fun k h₁ h₂ h₃ h₄ h₅ h₆ h₇ =>
      ResLeaves.execTftpErrorReceive.get h k ⟨h₁, h₂, h₃, h₄, h₅, h₆, h₇⟩ (nofun)⟩,
   fun _ _ _ h => ⟨ResLeaves.execTftpTimeout.changes h, fun k h₁ h₂ h₃ h₄ h₅ h₆ =>
      ResLeaves.execTftpTimeout.get h k ⟨h₁, h₂, h₃, h₄, h₅, h₆⟩ (nofun)⟩,
   fun _ _ _ _ _ h => ⟨ResLeaves.execUpdateVerifyComplete.changes h, fun k h₁ h₂ h₃ h₄ h₅ h₆ =>
      ResLeaves.execUpdateVerifyComplete.get h k ⟨h₁, h₂, h₃, h₄, h₅, h₆⟩ (nofun)⟩,
   fun _ _ _ _ h => ⟨ResLeaves.execCaptureArm.changes h, fun k h₁ h₂ h₃ h₄ h₅ h₆ h₇ =>
      ResLeaves.execCaptureArm.get h k ⟨h₁, h₂, h₃, h₄, h₅, h₆, h₇⟩ (nofun)⟩,
   fun _ _ _ _ h => ⟨ResLeaves.execCaptureForce.changes h, fun k h₁ h₂ h₃ h₄ h₅ h₆ h₇ =>
      ResLeaves.execCaptureForce.get h k ⟨h₁, h₂, h₃, h₄, h₅, h₆, h₇⟩ (nofun)⟩,
   fun _ _ _ _ h => ⟨ResLeaves.execCaptureStop.changes h, fun k h₁ h₂ h₃ h₄ h₅ h₆ h₇ =>
      ResLeaves.execCaptureStop.get h k ⟨h₁, h₂, h₃, h₄, h₅, h₆, h₇⟩ (nofun)⟩,
   fun _ _ _ _ h => ⟨ResLeaves.execCaptureRow.changes h, fun k h₁ h₂ h₃ h₄ h₅ h₆ h₇ h₈ h₉ h₁₀ =>
      ResLeaves.execCaptureRow.get h k ⟨h₁, h₂, h₃, h₄, h₅, h₆, h₇, h₈, h₉, h₁₀⟩ (nofun)⟩,
   fun _ _ _ _ _ h => ⟨ResLeaves.execCaptureReadData.changes h, fun k h₁ =>
      ResLeaves.execCaptureReadData.get h k h₁ (nofun)⟩,
   fun _ _ _ h => ⟨ResLeaves.execProducerHeartbeat.changes h, fun k h₁ h₂ h₃ =>
      ResLeaves.execProducerHeartbeat.get h k ⟨h₁, (h₂ _ (by decide)), h₃⟩ (nofun)⟩,
   fun _ _ _ h => ResLeaves.execEthernetLinkUp.changes h⟩

/-- Settles O59: each command by its footprint, the resets by what a reset keeps and sets to its default. -/
theorem framesOfReactionsPowertrain : Obligations.FramesOfReactionsPowertrain :=
  ⟨fun _ _ _ _ h => ⟨ResLeaves.execLinkLossIslandC.changes h, fun k h₁ h₂ h₃ h₄ h₅ =>
      ResLeaves.execLinkLossIslandC.get h k ⟨h₁, h₂, h₃, h₄⟩ (fun _ => h₅)⟩,
   fun _ _ _ _ h => ⟨ResLeaves.execEccUncorrectableError.keeps h, fun k h₁ h₂ h₃ h₄ h₅ h₆ h₇ h₈ h₉ h₁₀ h₁₁ h₁₂ h₁₃ h₁₄
    h₁₅ h₁₆ h₁₇ h₁₈ h₁₉ h₂₀ h₂₁ h₂₂ h₂₃ h₂₄ h₂₅ h₂₆ h₂₇ h₂₈ h₂₉ h₃₀ h₃₁ h₃₂ =>
      ResLeaves.execEccUncorrectableError.get h k ⟨h₁, h₂, h₃, h₄, h₅, h₆, h₇, h₈, h₉, h₁₀, h₁₁, h₁₂, h₁₃, h₁₄, h₁₅,
        h₁₆, h₁₇, h₁₈, h₁₉, h₂₀, h₂₁, h₂₂, h₂₃, h₂₄, h₂₅, h₂₆, h₂₇, h₂₈, h₂₉, h₃₀, h₃₂⟩ (fun _ => h₃₁)⟩,
   fun _ _ _ _ _ h => ⟨ResLeaves.execClockMonitorWindow.keeps h, fun k h₁ h₂ h₃ h₄ h₅ h₆ h₇ h₈ h₉ h₁₀ h₁₁ h₁₂ h₁₃ h₁₄ h₁₅
    h₁₆ h₁₇ h₁₈ =>
      ResLeaves.execClockMonitorWindow.get h k ⟨h₁, h₂, h₃, h₄, h₅, h₆, h₇, h₈, h₉, h₁₀, h₁₁, h₁₂, h₁₃, h₁₄, h₁₅, h₁₆,
        h₁₈⟩ (fun _ => h₁₇)⟩,
   fun s _ dt h => ⟨ResLeaves.execMainPowerOnReset.keeps h, fun k hk hsafe =>
      State.keptOrDefault.reply (.trans (s.get_elapse dt k) (.ite (.mainReset hk hsafe (s.elapse dt) 2) (.inl rfl))) h⟩,
   fun _ _ _ h => ⟨ResLeaves.execIslandSupplyRemoval.keeps h, fun k h₁ h₂ h₃ h₄ h₅ h₆ h₇ h₈ h₉ h₁₀ =>
      ResLeaves.execIslandSupplyRemoval.get h k ⟨h₁, h₂, h₃, h₄, h₅, h₆, h₇, h₈, h₉⟩ (fun _ => h₁₀)⟩,
   fun s _ f h => ⟨ResLeaves.execAonPowerOnReset.keeps h, fun k hk hsafe hreg hresets hcount _ =>
      State.keptOrDefault.reply (.trans (s.get_elapse f.dt k) (.feedCheck hk hsafe (s.elapse f.dt) f.vBat hreg hresets hcount)) h⟩,
   fun s _ dt ns h => ⟨ResLeaves.execNrstAssert.keeps h, fun k hk hsafe =>
      State.keptOrDefault.reply (.trans (s.get_elapse dt k) (.nrst hk hsafe (s.elapse dt) ns)) h⟩,
   fun s _ dt h => ⟨ResLeaves.execDeferredResetProceed.keeps h, fun k hk hsafe hcount =>
      State.keptOrDefault.reply (.trans (s.get_elapse dt k) (.deferredReset hk hsafe (s.elapse dt) hcount)) h⟩,
   fun _ _ _ _ _ h => ResLeaves.execParameterStoreLoaded.keeps h,
   fun _ _ _ _ _ h => ⟨ResLeaves.execDriveReadinessComplete.changes h, fun k h₁ h₂ =>
      ResLeaves.execDriveReadinessComplete.get h k h₁ (fun _ => h₂)⟩,
   fun _ _ _ _ _ h => ⟨ResLeaves.execDriveReset.changes h, fun k h₁ h₂ h₃ h₄ h₅ =>
      ResLeaves.execDriveReset.get h k ⟨h₁, h₂, h₃, h₄⟩ (fun _ => h₅)⟩,
   fun _ _ _ _ _ _ h => ⟨ResLeaves.execGateSupplyUndervoltage.changes h, fun k h₁ h₂ h₃ h₄ h₅ h₆ =>
      ResLeaves.execGateSupplyUndervoltage.get h k ⟨h₁, h₂, h₃, h₄, h₅⟩ (fun _ => h₆)⟩,
   fun _ _ _ _ h => ⟨ResLeaves.execBothOnCommand.changes h, fun k h₁ h₂ h₃ h₄ h₅ h₆ =>
      ResLeaves.execBothOnCommand.get h k ⟨h₁, h₂, h₃, h₄, h₅⟩ (fun _ => h₆)⟩,
   fun _ _ _ _ _ h => ⟨ResLeaves.execBootstrapUndervoltage.changes h, fun k h₁ h₂ h₃ h₄ h₅ =>
      ResLeaves.execBootstrapUndervoltage.get h k ⟨h₁, h₂, h₃, h₄⟩ (fun _ => h₅)⟩,
   fun _ _ _ _ _ h => ⟨ResLeaves.execArmingStepComplete.changes h, fun k h₁ h₂ h₃ h₄ h₅ h₆ h₇ h₈ h₉ h₁₀ h₁₁ h₁₂ h₁₃ h₁₄
    h₁₅ h₁₆ h₁₇ =>
      ResLeaves.execArmingStepComplete.get h k ⟨h₁, h₂, h₃, h₄, h₅, h₆, h₇, h₈, h₉, h₁₀, h₁₁, h₁₂, h₁₃, h₁₄, h₁₅, h₁₆⟩
        (fun _ => h₁₇)⟩,
   fun _ _ _ _ _ _ h => ⟨ResLeaves.execShortDetectVds.changes h, fun k h₁ h₂ h₃ h₄ h₅ h₆ h₇ h₈ h₉ h₁₀ h₁₁ h₁₂ =>
      ResLeaves.execShortDetectVds.get h k ⟨h₁, h₂, h₃, h₄, h₅, h₆, h₇, h₈, h₉, h₁₀, h₁₁⟩ (fun _ => h₁₂)⟩,
   fun _ _ _ _ _ _ h => ⟨ResLeaves.execShortDetectShunt.changes h, fun k h₁ h₂ h₃ h₄ h₅ h₆ h₇ h₈ h₉ h₁₀ h₁₁ h₁₂ =>
      ResLeaves.execShortDetectShunt.get h k ⟨h₁, h₂, h₃, h₄, h₅, h₆, h₇, h₈, h₉, h₁₀, h₁₁⟩ (fun _ => h₁₂)⟩,
   fun _ _ _ _ _ _ h => ⟨ResLeaves.execSelftestComplete.changes h, fun k h₁ h₂ h₃ h₄ h₅ =>
      ResLeaves.execSelftestComplete.get h k ⟨h₁, h₂, h₃, h₄⟩ (fun _ => h₅)⟩,
   fun _ _ _ _ h => ⟨ResLeaves.execStagePeriodStart.changes h, fun k h₁ h₂ h₃ h₄ h₅ h₆ h₇ h₈ h₉ h₁₀ h₁₁ h₁₂ h₁₃ =>
      ResLeaves.execStagePeriodStart.get h k ⟨h₁, h₂, h₃, h₄, h₅, h₆, h₇, h₈, h₉, h₁₀, h₁₁, h₁₂⟩ (fun _ => h₁₃)⟩,
   fun _ _ _ _ _ h => ⟨ResLeaves.execConversionComplete.changes h, fun k h₁ h₂ h₃ h₄ h₅ h₆ h₇ h₈ h₉ h₁₀ h₁₁ h₁₂ h₁₃ h₁₄
    h₁₅ h₁₆ =>
      ResLeaves.execConversionComplete.get h k ⟨h₁, h₂, h₃, h₄, h₅, h₆, h₇, h₈, h₉, h₁₀, h₁₁, h₁₂, h₁₃, h₁₄, h₁₅⟩ (fun
        _ => h₁₆)⟩,
   fun _ _ _ _ _ _ _ h => ⟨ResLeaves.execAxisDecision.changes h, fun k h₁ h₂ h₃ h₄ h₅ h₆ h₇ h₈ h₉ h₁₀ h₁₁ h₁₂ h₁₃ h₁₄ h₁₅
    h₁₆ h₁₇ h₁₈ h₁₉ h₂₀ h₂₁ h₂₂ h₂₃ h₂₄ h₂₅ h₂₆ h₂₇ h₂₈ h₂₉ h₃₀ h₃₁ h₃₂ h₃₃ h₃₄ h₃₅ h₃₆ h₃₇ h₃₈ h₃₉ h₄₀ h₄₁ h₄₂ h₄₃ =>
      ResLeaves.execAxisDecision.get h k ⟨h₁, h₂, h₃, h₄, h₅, h₆, h₇, h₈, h₉, h₁₀, h₁₁, h₁₂, h₁₃, h₁₄, h₁₅, h₁₆, h₁₇,
        h₁₈, h₁₉, h₂₀, h₂₁, h₂₂, h₂₃, h₂₄, h₂₅, h₂₆, h₂₇, h₂₈, h₂₉, h₃₀, h₃₁, h₃₂, h₃₃, h₃₄, h₃₅, h₃₆, h₃₇, h₃₈, h₃₉,
        h₄₀, h₄₁, h₄₂⟩ (fun _ => h₄₃)⟩,
   fun _ _ _ _ h => ⟨ResLeaves.execUnmeasuredTimeExceeded.changes h, fun k h₁ h₂ h₃ =>
      ResLeaves.execUnmeasuredTimeExceeded.get h k ⟨h₁, h₂⟩ (fun _ => h₃)⟩,
   fun _ _ _ _ _ h => ⟨ResLeaves.execDriveArm.changes h, fun k h₁ h₂ h₃ h₄ h₅ h₆ h₇ h₈ h₉ h₁₀ h₁₁ h₁₂ h₁₃ h₁₄ h₁₅ h₁₆ h₁₇
    h₁₈ h₁₉ h₂₀ h₂₁ =>
      ResLeaves.execDriveArm.get h k ⟨h₁, h₂, h₃, h₄, h₅, h₆, h₇, h₈, h₉, h₁₀, h₁₁, h₁₂, h₁₃, h₁₄, h₁₅, h₁₆, h₁₇, h₁₈,
        h₁₉, h₂₀⟩ (fun _ => h₂₁)⟩,
   fun _ _ _ _ _ _ h => ⟨ResLeaves.execDriveRun.changes h, fun k h₁ h₂ h₃ h₄ h₅ h₆ h₇ h₈ h₉ h₁₀ h₁₁ h₁₂ h₁₃ h₁₄ h₁₅ h₁₆
    h₁₇ h₁₈ h₁₉ h₂₀ h₂₁ =>
      ResLeaves.execDriveRun.get h k ⟨h₁, h₂, h₃, h₄, h₅, h₆, h₇, h₈, h₉, h₁₀, h₁₁, h₁₂, h₁₃, h₁₄, h₁₅, h₁₆, h₁₇, h₁₈,
        h₁₉, h₂₀⟩ (fun _ => h₂₁)⟩,
   fun _ _ _ _ _ h => ⟨ResLeaves.execDriveStop.changes h, fun k h₁ h₂ h₃ h₄ h₅ h₆ h₇ h₈ h₉ h₁₀ h₁₁ h₁₂ h₁₃ h₁₄ h₁₅ h₁₆
    h₁₇ h₁₈ h₁₉ h₂₀ h₂₁ =>
      ResLeaves.execDriveStop.get h k ⟨h₁, h₂, h₃, h₄, h₅, h₆, h₇, h₈, h₉, h₁₀, h₁₁, h₁₂, h₁₃, h₁₄, h₁₅, h₁₆, h₁₇,
        h₁₈, h₁₉, h₂₀⟩ (fun _ => h₂₁)⟩,
   fun _ _ _ _ _ h => ⟨ResLeaves.execDriveDisarm.changes h, fun k h₁ h₂ h₃ h₄ h₅ h₆ h₇ h₈ h₉ h₁₀ h₁₁ h₁₂ h₁₃ h₁₄ h₁₅ h₁₆
    h₁₇ h₁₈ h₁₉ h₂₀ h₂₁ =>
      ResLeaves.execDriveDisarm.get h k ⟨h₁, h₂, h₃, h₄, h₅, h₆, h₇, h₈, h₉, h₁₀, h₁₁, h₁₂, h₁₃, h₁₄, h₁₅, h₁₆, h₁₇,
        h₁₈, h₁₉, h₂₀⟩ (fun _ => h₂₁)⟩,
   fun _ _ _ _ _ h => ⟨ResLeaves.execDriveAck.changes h, fun k h₁ h₂ h₃ h₄ h₅ h₆ h₇ h₈ h₉ h₁₀ h₁₁ h₁₂ h₁₃ h₁₄ h₁₅ h₁₆ h₁₇
    h₁₈ h₁₉ h₂₀ h₂₁ =>
      ResLeaves.execDriveAck.get h k ⟨h₁, h₂, h₃, h₄, h₅, h₆, h₇, h₈, h₉, h₁₀, h₁₁, h₁₂, h₁₃, h₁₄, h₁₅, h₁₆, h₁₇, h₁₈,
        h₁₉, h₂₀⟩ (fun _ => h₂₁)⟩,
   fun _ _ _ _ h => ⟨ResLeaves.execStopSetCoast.changes h, fun k h₁ h₂ =>
      ResLeaves.execStopSetCoast.get h k h₁ (fun _ => h₂)⟩,
   fun _ _ _ _ h => ⟨ResLeaves.execArmHoldExpiry.changes h, fun k h₁ h₂ =>
      ResLeaves.execArmHoldExpiry.get h k h₁ (fun _ => h₂)⟩,
   fun _ _ _ _ h => ⟨ResLeaves.execCrossSetDisagreement.changes h, fun k h₁ h₂ h₃ h₄ =>
      ResLeaves.execCrossSetDisagreement.get h k ⟨h₁, h₂, h₃⟩ (fun _ => h₄)⟩,
   fun _ _ _ _ _ h => ⟨ResLeaves.execSedgeProbeComplete.changes h, fun k h₁ h₂ h₃ h₄ h₅ h₆ h₇ h₈ h₉ h₁₀ h₁₁ h₁₂ h₁₃ h₁₄
    h₁₅ h₁₆ h₁₇ =>
      ResLeaves.execSedgeProbeComplete.get h k ⟨h₁, h₂, h₃, h₄, h₅, h₆, h₇, h₈, h₉, h₁₀, h₁₁, h₁₂, h₁₃, h₁₄, h₁₅, h₁₆⟩
        (fun _ => h₁₇)⟩,
   fun _ _ _ _ h => ⟨ResLeaves.execObserverLoss.changes h, fun k h₁ h₂ h₃ h₄ =>
      ResLeaves.execObserverLoss.get h k ⟨h₁, h₂, h₃⟩ (fun _ => h₄)⟩,
   fun _ _ _ _ _ h => ⟨ResLeaves.execAscExit.changes h, fun k h₁ h₂ =>
      ResLeaves.execAscExit.get h k h₁ (fun _ => h₂)⟩,
   fun _ _ _ _ h => ⟨ResLeaves.execRecoveryTimeout.changes h, fun k h₁ h₂ h₃ h₄ =>
      ResLeaves.execRecoveryTimeout.get h k ⟨h₁, h₂, h₃⟩ (fun _ => h₄)⟩,
   fun _ _ _ _ _ _ h => ⟨ResLeaves.execPhaseOpenDeclared.changes h, fun k h₁ h₂ h₃ h₄ h₅ h₆ h₇ h₈ h₉ =>
      ResLeaves.execPhaseOpenDeclared.get h k ⟨h₁, h₂, h₃, h₄, h₅, h₆, h₇, h₈⟩ (fun _ => h₉)⟩,
   fun _ _ _ _ _ h => ⟨ResLeaves.execShuntAttributionFail.changes h, fun k h₁ h₂ h₃ h₄ h₅ h₆ h₇ h₈ h₉ =>
      ResLeaves.execShuntAttributionFail.get h k ⟨h₁, h₂, h₃, h₄, h₅, h₆, h₇, h₈⟩ (fun _ => h₉)⟩,
   fun _ _ _ _ _ h => ⟨ResLeaves.execShuntSaturationFail.changes h, fun k h₁ h₂ h₃ h₄ h₅ =>
      ResLeaves.execShuntSaturationFail.get h k ⟨h₁, h₂, h₃, h₄⟩ (fun _ => h₅)⟩,
   fun _ _ _ _ _ h => ⟨ResLeaves.execIdAbort.changes h, fun k h₁ h₂ h₃ =>
      ResLeaves.execIdAbort.get h k ⟨h₁, h₂⟩ (fun _ => h₃)⟩,
   fun _ _ _ _ _ h => ⟨ResLeaves.execIdProcedureComplete.changes h, fun k h₁ h₂ h₃ h₄ h₅ h₆ h₇ =>
      ResLeaves.execIdProcedureComplete.get h k ⟨h₁, h₂, h₃, h₄, h₅, h₆⟩ (fun _ => h₇)⟩,
   fun _ _ _ _ _ h => ⟨ResLeaves.execPositionLineChange.changes h, fun k h₁ h₂ h₃ h₄ h₅ h₆ h₇ h₈ h₉ h₁₀ h₁₁ h₁₂ =>
      ResLeaves.execPositionLineChange.get h k ⟨h₁, h₂, h₃, h₄, h₅, h₆, h₇, h₈, h₉, h₁₀, h₁₁⟩ (fun _ => h₁₂)⟩,
   fun _ _ _ _ _ h => ⟨ResLeaves.execWireFault.changes h, fun k h₁ h₂ h₃ h₄ h₅ h₆ h₇ h₈ h₉ h₁₀ h₁₁ h₁₂ =>
      ResLeaves.execWireFault.get h k ⟨h₁, h₂, h₃, h₄, h₅, h₆, h₇, h₈, h₉, h₁₀, h₁₁⟩ (fun _ => h₁₂)⟩,
   fun _ _ _ _ _ _ _ h => ⟨ResLeaves.execSsiFrameRead.changes h, fun k h₁ h₂ h₃ h₄ h₅ h₆ h₇ h₈ h₉ h₁₀ =>
      ResLeaves.execSsiFrameRead.get h k ⟨h₁, h₂, h₃, h₄, h₅, h₆, h₇, h₈, h₉⟩ (fun _ => h₁₀)⟩,
   fun _ _ _ _ _ _ h => ⟨ResLeaves.execPresetWrite.changes h, fun k h₁ h₂ h₃ h₄ h₅ h₆ h₇ h₈ h₉ h₁₀ h₁₁ h₁₂ =>
      ResLeaves.execPresetWrite.get h k ⟨h₁, h₂, h₃, h₄, h₅, h₆, h₇, h₈, h₉, h₁₀, h₁₁⟩ (fun _ => h₁₂)⟩,
   fun _ _ _ _ _ _ h => ⟨ResLeaves.execArmIndexWrite.changes h, fun k h₁ h₂ h₃ h₄ h₅ h₆ h₇ h₈ h₉ h₁₀ h₁₁ h₁₂ =>
      ResLeaves.execArmIndexWrite.get h k ⟨h₁, h₂, h₃, h₄, h₅, h₆, h₇, h₈, h₉, h₁₀, h₁₁⟩ (fun _ => h₁₂)⟩,
   fun _ _ _ _ h => ⟨ResLeaves.execCheckPass.changes h, fun k h₁ h₂ h₃ h₄ h₅ h₆ h₇ h₈ h₉ h₁₀ h₁₁ =>
      ResLeaves.execCheckPass.get h k ⟨h₁, h₂, h₃, h₄, h₅, h₆, h₇, h₈, h₉, h₁₀⟩ (fun _ => h₁₁)⟩,
   fun _ _ _ _ h => ⟨ResLeaves.execCheckTimeout.changes h, fun k h₁ h₂ h₃ h₄ h₅ h₆ h₇ h₈ h₉ h₁₀ h₁₁ =>
      ResLeaves.execCheckTimeout.get h k ⟨h₁, h₂, h₃, h₄, h₅, h₆, h₇, h₈, h₉, h₁₀⟩ (fun _ => h₁₁)⟩,
   fun _ _ _ _ h => ⟨ResLeaves.execInterfaceFaultClear.changes h, fun k h₁ h₂ h₃ h₄ h₅ h₆ h₇ h₈ h₉ h₁₀ h₁₁ =>
      ResLeaves.execInterfaceFaultClear.get h k ⟨h₁, h₂, h₃, h₄, h₅, h₆, h₇, h₈, h₉, h₁₀⟩ (fun _ => h₁₁)⟩,
   fun _ _ _ _ h => ⟨ResLeaves.execSpeedUpdate.changes h, fun k h₁ h₂ h₃ h₄ h₅ h₆ h₇ h₈ h₉ h₁₀ h₁₁ h₁₂ =>
      ResLeaves.execSpeedUpdate.get h k ⟨h₁, h₂, h₃, h₄, h₅, h₆, h₇, h₈, h₉, h₁₀, h₁₁⟩ (fun _ => h₁₂)⟩,
   fun _ _ _ _ h => ⟨ResLeaves.execLoopUnitSample.changes h, fun k h₁ h₂ h₃ h₄ h₅ h₆ h₇ h₈ h₉ h₁₀ =>
      ResLeaves.execLoopUnitSample.get h k ⟨h₁, h₂, h₃, h₄, h₅, h₆, h₇, h₈, h₉⟩ (fun _ => h₁₀)⟩,
   fun _ _ _ _ _ _ _ h => ⟨ResLeaves.execCoefficientQueueWrite.changes h, by
      intro k; intros; exact ResLeaves.execCoefficientQueueWrite.get h k (by simp_all +contextual only [noAccess, coefKeys, List.mem_cons, not_or, List.not_mem_nil, ne_eq, not_false_eq_true,
        and_self, and_true, implies_true])⟩,
   fun _ _ _ _ _ h => ⟨ResLeaves.execCommitStaged.changes h, by
      intro k; intros; exact ResLeaves.execCommitStaged.get h k (by simp_all +contextual only [noAccess, coefKeys, List.mem_cons, not_or, List.not_mem_nil, ne_eq, not_false_eq_true,
        and_self, and_true, implies_true])⟩,
   fun _ _ _ _ _ h => ⟨ResLeaves.execCommitNotch.changes h, by
      intro k; intros; exact ResLeaves.execCommitNotch.get h k (by simp_all +contextual only [noAccess, coefKeys, List.mem_cons, not_or, List.not_mem_nil, ne_eq, not_false_eq_true,
        and_self, and_true, implies_true])⟩,
   fun _ _ _ _ h => ⟨ResLeaves.execCommitComputed.changes h, by
      intro k; intros; exact ResLeaves.execCommitComputed.get h k (by simp_all +contextual only [coefKeys, List.mem_cons, not_or, List.not_mem_nil, ne_eq, not_false_eq_true,
        and_self, and_true, implies_true])⟩,
   fun _ _ _ _ _ h => ⟨ResLeaves.execHoldMaxExpiry.changes h, fun k h₁ h₂ h₃ =>
      ResLeaves.execHoldMaxExpiry.get h k ⟨h₁, h₂⟩ (fun _ => h₃)⟩,
   fun _ _ _ _ _ h => ⟨ResLeaves.execTaskExecutionComplete.keeps h, fun k h₁ h₂ h₃ h₄ h₅ h₆ h₇ h₈ h₉ h₁₀ h₁₁ h₁₂ h₁₃ h₁₄
    h₁₅ h₁₆ h₁₇ h₁₈ h₁₉ h₂₀ h₂₁ h₂₂ h₂₃ h₂₄ h₂₅ h₂₆ h₂₇ h₂₈ h₂₉ h₃₀ h₃₁ h₃₂ h₃₃ h₃₄ h₃₅ h₃₆ h₃₇ h₃₈ h₃₉ h₄₀ h₄₁ h₄₂
    h₄₃ h₄₄ h₄₅ h₄₆ h₄₇ h₄₈ h₄₉ h₅₀ h₅₁ h₅₂ h₅₃ h₅₄ h₅₅ h₅₆ h₅₇ h₅₈ h₅₉ h₆₀ h₆₁ h₆₂ h₆₃ h₆₄ h₆₅ h₆₆ h₆₇ h₆₈ h₆₉ h₇₀
    h₇₁ h₇₂ h₇₃ h₇₄ h₇₅ h₇₆ h₇₇ h₇₈ h₇₉ h₈₀ h₈₁ h₈₂ h₈₃ h₈₄ h₈₅ h₈₆ h₈₇ h₈₈ h₈₉ h₉₀ h₉₁ h₉₂ h₉₃ h₉₄ h₉₅ h₉₆ =>
      ResLeaves.execTaskExecutionComplete.get h k ⟨h₁, h₂, h₃, h₄, h₅, h₆, h₇, h₈, h₉, h₁₀, h₁₁, h₁₂, h₁₃, h₁₄, h₁₅,
        h₁₆, h₁₇, h₁₈, h₁₉, h₂₀, h₂₁, h₂₂, h₂₃, h₂₄, h₂₅, h₂₆, h₂₇, h₂₈, h₂₉, h₃₀, h₃₁, h₃₂, h₃₃, h₃₄, h₃₅, h₃₆, h₃₇,
        h₃₈, h₃₉, h₄₀, h₄₁, h₄₂, h₄₃, h₄₄, h₄₅, h₄₆, h₄₇, h₄₈, h₄₉, h₅₀, h₅₁, h₅₂, h₅₃, h₅₄, h₅₅, h₅₆, h₅₇, h₅₈, h₅₉,
        h₆₀, h₆₁, h₆₂, h₆₃, h₆₄, h₆₅, h₆₆, h₆₇, h₆₈, h₆₉, h₇₀, h₇₁, h₇₂, h₇₃, h₇₄, h₇₅, h₇₆, h₇₇, h₇₈, h₇₉, h₈₀, h₈₁,
        h₈₂, h₈₃, h₈₄, (forall_lt_two.2 ⟨h₈₅, h₈₆⟩), (forall_lt_two.2 ⟨h₈₇, h₈₈⟩), (forall_lt_two.2 ⟨h₈₉, h₉₀⟩), h₉₁,
        h₉₂, h₉₃, h₉₄, h₉₅⟩ (fun _ => h₉₆)⟩,
   fun _ _ _ _ h => ⟨ResLeaves.execEngineWatchdog.changes h, fun k h₁ h₂ h₃ h₄ h₅ h₆ h₇ h₈ h₉ h₁₀ h₁₁ h₁₂ h₁₃ h₁₄ h₁₅ =>
      ResLeaves.execEngineWatchdog.get h k ⟨h₁, h₂, h₃, h₄, h₅, h₆, h₇, h₈, h₉, h₁₀, h₁₁, h₁₂, h₁₃, h₁₄⟩ (fun _ =>
        h₁₅)⟩,
   fun _ _ _ _ h => ⟨ResLeaves.execActuatorAxisFault.changes h, fun k h₁ h₂ h₃ =>
      ResLeaves.execActuatorAxisFault.get h k ⟨h₁, h₂⟩ (fun _ => h₃)⟩,
   fun _ _ _ _ h => ⟨ResLeaves.execRecoveryStall.changes h, fun k h₁ h₂ h₃ h₄ =>
      ResLeaves.execRecoveryStall.get h k ⟨h₁, h₂, h₃⟩ (fun _ => h₄)⟩,
   fun _ _ _ h => ⟨ResLeaves.execGearStateRecoveryEnd.changes h, fun k h₁ h₂ h₃ h₄ =>
      ResLeaves.execGearStateRecoveryEnd.get h k ⟨h₁, h₂, h₃⟩ (fun _ => h₄)⟩,
   fun _ _ _ h => ⟨ResLeaves.execDcLinkSenseMismatch.changes h, fun k h₁ h₂ h₃ =>
      ResLeaves.execDcLinkSenseMismatch.get h k ⟨h₁, h₂⟩ (fun _ => h₃)⟩,
   fun _ _ _ _ _ h => ⟨ResLeaves.execBrkResistorCheckComplete.changes h, fun k h₁ h₂ h₃ h₄ =>
      ResLeaves.execBrkResistorCheckComplete.get h k ⟨h₁, h₂, h₃⟩ (fun _ => h₄)⟩,
   fun _ _ _ _ _ _ h => ⟨ResLeaves.execChopperOpenResistor.changes h, fun k h₁ h₂ h₃ h₄ h₅ h₆ =>
      ResLeaves.execChopperOpenResistor.get h k ⟨h₁, h₂, h₃, h₄, h₅⟩ (fun _ => h₆)⟩,
   fun _ _ _ _ _ h => ⟨ResLeaves.execChopperShortedSwitch.changes h, fun k h₁ h₂ h₃ h₄ h₅ h₆ =>
      ResLeaves.execChopperShortedSwitch.get h k ⟨h₁, h₂, h₃, h₄, h₅⟩ (fun _ => h₆)⟩,
   fun _ _ _ h => ⟨ResLeaves.execResistorModelUpdate.changes h, fun k h₁ h₂ h₃ h₄ h₅ h₆ h₇ h₈ h₉ =>
      ResLeaves.execResistorModelUpdate.get h k ⟨h₁, h₂, h₃, h₄, h₅, h₆, h₇, h₈⟩ (fun _ => h₉)⟩,
   fun _ _ _ h => ⟨ResLeaves.execFirmwareDcLinkTrip.changes h, fun k h₁ h₂ h₃ h₄ h₅ =>
      ResLeaves.execFirmwareDcLinkTrip.get h k ⟨h₁, h₂, h₃, h₄⟩ (fun _ => h₅)⟩,
   fun _ _ _ h => ⟨ResLeaves.execHardwareDcLinkTrip.changes h, fun k h₁ h₂ h₃ h₄ h₅ h₆ =>
      ResLeaves.execHardwareDcLinkTrip.get h k ⟨h₁, h₂, h₃, h₄, h₅⟩ (fun _ => h₆)⟩,
   fun _ _ _ _ h => ⟨ResLeaves.execDischargeStart.changes h, fun k h₁ h₂ h₃ h₄ h₅ =>
      ResLeaves.execDischargeStart.get h k ⟨h₁, h₂, h₃, h₄⟩ (fun _ => h₅)⟩,
   fun _ _ _ _ h => ⟨ResLeaves.execDischargeEnd.changes h, fun k h₁ h₂ h₃ h₄ h₅ =>
      ResLeaves.execDischargeEnd.get h k ⟨h₁, h₂, h₃, h₄⟩ (fun _ => h₅)⟩,
   fun _ _ _ h => ⟨ResLeaves.execDischargeTimeout.changes h, fun k h₁ h₂ h₃ =>
      ResLeaves.execDischargeTimeout.get h k ⟨h₁, h₂⟩ (fun _ => h₃)⟩⟩

/-- Settles O60: each command by its footprint, the resets by what a reset keeps and sets to its default. -/
theorem framesOfReactionsVehicle : Obligations.FramesOfReactionsVehicle :=
  ⟨fun _ _ _ h => ⟨ResLeaves.execDabStopLowLink.changes h, fun k h₁ h₂ h₃ h₄ h₅ h₆ h₇ h₈ h₉ h₁₀ h₁₁ h₁₂ h₁₃ h₁₄ h₁₅ h₁₆
    h₁₇ h₁₈ h₁₉ h₂₀ h₂₁ h₂₂ h₂₃ h₂₄ h₂₅ h₂₆ h₂₇ h₂₈ h₂₉ h₃₀ h₃₁ h₃₂ h₃₃ h₃₄ h₃₅ h₃₆ h₃₇ h₃₈ h₃₉ h₄₀ h₄₁ h₄₂ h₄₃ =>
      ResLeaves.execDabStopLowLink.get h k ⟨h₁, h₂, h₃, h₄, h₅, h₆, h₇, h₈, h₉, h₁₀, h₁₁, h₁₂, h₁₃, h₁₄, h₁₅, h₁₆,
        h₁₇, h₁₈, h₁₉, h₂₀, h₂₁, h₂₂, h₂₃, h₂₄, h₂₅, h₂₆, h₂₇, h₂₈, h₂₉, h₃₀, h₃₁, h₃₂, h₃₃, h₃₄, h₃₅, h₃₆, h₃₇, h₃₈,
        h₃₉, h₄₀, h₄₁, h₄₂⟩ (fun _ => h₄₃)⟩,
   fun _ _ _ h => ⟨ResLeaves.execDabRestartLinkOk.changes h, fun k h₁ h₂ h₃ h₄ h₅ h₆ h₇ h₈ h₉ h₁₀ h₁₁ h₁₂ h₁₃ h₁₄ h₁₅ h₁₆
    h₁₇ h₁₈ h₁₉ h₂₀ h₂₁ h₂₂ h₂₃ h₂₄ h₂₅ h₂₆ h₂₇ h₂₈ h₂₉ h₃₀ h₃₁ h₃₂ h₃₃ h₃₄ =>
      ResLeaves.execDabRestartLinkOk.get h k ⟨h₁, h₂, h₃, h₄, h₅, h₆, h₇, h₈, h₉, h₁₀, h₁₁, h₁₂, h₁₃, h₁₄, h₁₅, h₁₆,
        h₁₇, h₁₈, h₁₉, h₂₀, h₂₁, h₂₂, h₂₃, h₂₄, h₂₅, h₂₆, h₂₇, h₂₈, h₂₉, h₃₀, h₃₁, h₃₂, h₃₃⟩ (fun _ => h₃₄)⟩,
   fun _ _ _ h => ⟨ResLeaves.execIbStartComplete.changes h, fun k h₁ h₂ h₃ h₄ h₅ h₆ h₇ h₈ h₉ h₁₀ h₁₁ h₁₂ h₁₃ h₁₄ h₁₅ h₁₆
    h₁₇ h₁₈ h₁₉ h₂₀ h₂₁ h₂₂ h₂₃ h₂₄ h₂₅ h₂₆ h₂₇ h₂₈ h₂₉ h₃₀ h₃₁ h₃₂ =>
      ResLeaves.execIbStartComplete.get h k ⟨h₁, h₂, h₃, h₄, h₅, h₆, h₇, h₈, h₉, h₁₀, h₁₁, h₁₂, h₁₃, h₁₄, h₁₅, h₁₆,
        h₁₇, h₁₈, h₁₉, h₂₀, h₂₁, h₂₂, h₂₃, h₂₄, h₂₅, h₂₆, h₂₇, h₂₈, h₂₉, h₃₀, h₃₁⟩ (fun _ => h₃₂)⟩,
   fun _ _ _ _ _ h => ⟨ResLeaves.execBuckPhaseShed.changes h, fun k h₁ h₂ h₃ =>
      ResLeaves.execBuckPhaseShed.get h k ⟨h₁, h₂⟩ (fun _ => h₃)⟩,
   fun _ _ _ _ h => ⟨ResLeaves.execIbOvervoltageTrip.changes h, fun k h₁ h₂ h₃ h₄ =>
      ResLeaves.execIbOvervoltageTrip.get h k ⟨h₁, h₂, h₃⟩ (fun _ => h₄)⟩,
   fun _ _ _ _ h => ⟨ResLeaves.execIbLost.changes h, fun k h₁ h₂ h₃ h₄ h₅ h₆ h₇ h₈ h₉ h₁₀ h₁₁ h₁₂ h₁₃ h₁₄ h₁₅ h₁₆ h₁₇ h₁₈
    h₁₉ h₂₀ h₂₁ h₂₂ h₂₃ h₂₄ h₂₅ h₂₆ h₂₇ h₂₈ h₂₉ h₃₀ h₃₁ h₃₂ h₃₃ h₃₄ h₃₅ h₃₆ h₃₇ h₃₈ h₃₉ h₄₀ h₄₁ h₄₂ =>
      ResLeaves.execIbLost.get h k ⟨h₁, h₂, h₃, h₄, h₅, h₆, h₇, h₈, h₉, h₁₀, h₁₁, h₁₂, h₁₃, h₁₄, h₁₅, h₁₆, h₁₇, h₁₈,
        h₁₉, h₂₀, h₂₁, h₂₂, h₂₃, h₂₄, h₂₅, h₂₆, h₂₇, h₂₈, h₂₉, h₃₀, h₃₁, h₃₂, h₃₃, h₃₄, h₃₅, h₃₆, h₃₇, h₃₈, h₃₉, h₄₀,
        h₄₁⟩ (fun _ => h₄₂)⟩,
   fun _ _ _ _ h => ⟨ResLeaves.execVrOvervoltage.changes h, fun k h₁ h₂ h₃ h₄ =>
      ResLeaves.execVrOvervoltage.get h k ⟨h₁, h₂, h₃⟩ (fun _ => h₄)⟩,
   fun _ _ _ _ h => ⟨ResLeaves.execTowBatteryLow.changes h, fun k h₁ h₂ h₃ h₄ h₅ h₆ h₇ h₈ h₉ h₁₀ h₁₁ h₁₂ h₁₃ h₁₄ h₁₅ h₁₆
    h₁₇ h₁₈ h₁₉ h₂₀ h₂₁ h₂₂ h₂₃ h₂₄ h₂₅ h₂₆ h₂₇ h₂₈ h₂₉ h₃₀ h₃₁ h₃₂ h₃₃ h₃₄ =>
      ResLeaves.execTowBatteryLow.get h k ⟨h₁, h₂, h₃, h₄, h₅, h₆, h₇, h₈, h₉, h₁₀, h₁₁, h₁₂, h₁₃, h₁₄, h₁₅, h₁₆, h₁₇,
        h₁₈, h₁₉, h₂₀, h₂₁, h₂₂, h₂₃, h₂₄, h₂₅, h₂₆, h₂₇, h₂₈, h₂₉, h₃₀, h₃₁, h₃₂, h₃₃⟩ (fun _ => h₃₄)⟩,
   fun _ _ _ _ h => ⟨ResLeaves.execPilotStateChange.changes h, fun k h₁ h₂ h₃ h₄ =>
      ResLeaves.execPilotStateChange.get h k ⟨h₁, h₂, h₃⟩ (fun _ => h₄)⟩,
   fun _ _ _ _ h => ⟨ResLeaves.execProximityChange.changes h, fun k h₁ h₂ h₃ h₄ h₅ h₆ h₇ =>
      ResLeaves.execProximityChange.get h k ⟨h₁, h₂, h₃, h₄, h₅, h₆⟩ (fun _ => h₇)⟩,
   fun _ _ _ h => ⟨ResLeaves.execSupplyOutOfWindow.changes h, fun k h₁ h₂ h₃ =>
      ResLeaves.execSupplyOutOfWindow.get h k ⟨h₁, h₂⟩ (fun _ => h₃)⟩,
   fun _ _ _ h => ⟨ResLeaves.execPfcPrechargeTimeout.changes h, fun k h₁ h₂ h₃ =>
      ResLeaves.execPfcPrechargeTimeout.get h k ⟨h₁, h₂⟩ (fun _ => h₃)⟩,
   fun _ _ _ h => ⟨ResLeaves.execBmsTimeout.changes h, fun k h₁ h₂ h₃ h₄ h₅ =>
      ResLeaves.execBmsTimeout.get h k ⟨h₁, h₂, h₃, h₄⟩ (fun _ => h₅)⟩,
   fun _ _ _ h => ⟨ResLeaves.execPackLost.changes h, fun k h₁ h₂ h₃ h₄ h₅ =>
      ResLeaves.execPackLost.get h k ⟨h₁, h₂, h₃, h₄⟩ (fun _ => h₅)⟩,
   fun _ _ _ _ h => ⟨ResLeaves.execSafetyTimerExpiry.changes h, fun k h₁ h₂ h₃ =>
      ResLeaves.execSafetyTimerExpiry.get h k ⟨h₁, h₂⟩ (fun _ => h₃)⟩,
   fun _ _ _ _ h => ⟨ResLeaves.execChargeStateTimer.changes h, fun k h₁ h₂ h₃ h₄ h₅ h₆ h₇ h₈ h₉ h₁₀ h₁₁ h₁₂ h₁₃ h₁₄ h₁₅
    h₁₆ h₁₇ h₁₈ h₁₉ h₂₀ h₂₁ h₂₂ h₂₃ h₂₄ h₂₅ h₂₆ h₂₇ h₂₈ h₂₉ h₃₀ h₃₁ h₃₂ h₃₃ h₃₄ h₃₅ h₃₆ =>
      ResLeaves.execChargeStateTimer.get h k ⟨h₁, h₂, h₃, h₄, h₅, h₆, h₇, h₈, h₉, h₁₀, h₁₁, h₁₂, h₁₃, h₁₄, h₁₅, h₁₆,
        h₁₇, h₁₈, h₁₉, h₂₀, h₂₁, h₂₂, h₂₃, h₂₄, h₂₅, h₂₆, h₂₇, h₂₈, h₂₉, h₃₀, h₃₁, h₃₂, h₃₃, h₃₄, h₃₅⟩ (fun _ => h₃₆)⟩,
   fun _ _ _ _ _ h => ⟨ResLeaves.execLvPresenceTestComplete.changes h, fun k h₁ h₂ h₃ h₄ h₅ h₆ h₇ h₈ h₉ h₁₀ h₁₁ h₁₂ h₁₃
    h₁₄ h₁₅ h₁₆ h₁₇ h₁₈ h₁₉ h₂₀ h₂₁ h₂₂ h₂₃ h₂₄ h₂₅ h₂₆ h₂₇ h₂₈ h₂₉ h₃₀ h₃₁ h₃₂ h₃₃ h₃₄ h₃₅ =>
      ResLeaves.execLvPresenceTestComplete.get h k ⟨h₁, h₂, h₃, h₄, h₅, h₆, h₇, h₈, h₉, h₁₀, h₁₁, h₁₂, h₁₃, h₁₄, h₁₅,
        h₁₆, h₁₇, h₁₈, h₁₉, h₂₀, h₂₁, h₂₂, h₂₃, h₂₄, h₂₅, h₂₆, h₂₇, h₂₈, h₂₉, h₃₀, h₃₁, h₃₂, h₃₃, h₃₄⟩ (fun _ => h₃₅)⟩,
   fun _ _ _ _ _ h => ⟨ResLeaves.execLvAckWrite.changes h, fun k h₁ h₂ h₃ h₄ h₅ h₆ h₇ h₈ h₉ h₁₀ h₁₁ h₁₂ h₁₃ h₁₄ h₁₅ h₁₆
    h₁₇ h₁₈ h₁₉ h₂₀ h₂₁ h₂₂ h₂₃ h₂₄ h₂₅ h₂₆ h₂₇ h₂₈ h₂₉ h₃₀ h₃₁ h₃₂ h₃₃ h₃₄ =>
      ResLeaves.execLvAckWrite.get h k ⟨h₁, h₂, h₃, h₄, h₅, h₆, h₇, h₈, h₉, h₁₀, h₁₁, h₁₂, h₁₃, h₁₄, h₁₅, h₁₆, h₁₇,
        h₁₈, h₁₉, h₂₀, h₂₁, h₂₂, h₂₃, h₂₄, h₂₅, h₂₆, h₂₇, h₂₈, h₂₉, h₃₀, h₃₁, h₃₂, h₃₃⟩ (fun _ => h₃₄)⟩,
   fun _ _ _ _ h => ⟨ResLeaves.execBatterySwitchOvercurrent.changes h, fun k h₁ h₂ h₃ h₄ h₅ h₆ h₇ h₈ h₉ h₁₀ h₁₁ h₁₂ h₁₃
    h₁₄ h₁₅ h₁₆ h₁₇ h₁₈ h₁₉ h₂₀ h₂₁ h₂₂ h₂₃ h₂₄ h₂₅ h₂₆ h₂₇ h₂₈ h₂₉ h₃₀ h₃₁ h₃₂ =>
      ResLeaves.execBatterySwitchOvercurrent.get h k ⟨h₁, h₂, h₃, h₄, h₅, h₆, h₇, h₈, h₉, h₁₀, h₁₁, h₁₂, h₁₃, h₁₄,
        h₁₅, h₁₆, h₁₇, h₁₈, h₁₉, h₂₀, h₂₁, h₂₂, h₂₃, h₂₄, h₂₅, h₂₆, h₂₇, h₂₈, h₂₉, h₃₀, h₃₁⟩ (fun _ => h₃₂)⟩,
   fun _ _ _ h => ⟨ResLeaves.execHandoverSwitchOn.changes h, fun k h₁ h₂ h₃ h₄ h₅ h₆ h₇ h₈ h₉ h₁₀ h₁₁ h₁₂ h₁₃ h₁₄ h₁₅ h₁₆
    h₁₇ h₁₈ h₁₉ h₂₀ h₂₁ h₂₂ h₂₃ h₂₄ h₂₅ h₂₆ h₂₇ h₂₈ h₂₉ h₃₀ h₃₁ =>
      ResLeaves.execHandoverSwitchOn.get h k ⟨h₁, h₂, h₃, h₄, h₅, h₆, h₇, h₈, h₉, h₁₀, h₁₁, h₁₂, h₁₃, h₁₄, h₁₅, h₁₆,
        h₁₇, h₁₈, h₁₉, h₂₀, h₂₁, h₂₂, h₂₃, h₂₄, h₂₅, h₂₆, h₂₇, h₂₈, h₂₉, h₃₀⟩ (fun _ => h₃₁)⟩,
   fun _ _ _ h => ⟨ResLeaves.execHandbackCountComplete.changes h, fun k h₁ h₂ h₃ h₄ h₅ h₆ h₇ h₈ h₉ h₁₀ h₁₁ h₁₂ h₁₃ h₁₄
    h₁₅ h₁₆ h₁₇ h₁₈ h₁₉ h₂₀ h₂₁ h₂₂ h₂₃ h₂₄ h₂₅ h₂₆ h₂₇ h₂₈ h₂₉ h₃₀ h₃₁ h₃₂ =>
      ResLeaves.execHandbackCountComplete.get h k ⟨h₁, h₂, h₃, h₄, h₅, h₆, h₇, h₈, h₉, h₁₀, h₁₁, h₁₂, h₁₃, h₁₄, h₁₅,
        h₁₆, h₁₇, h₁₈, h₁₉, h₂₀, h₂₁, h₂₂, h₂₃, h₂₄, h₂₅, h₂₆, h₂₇, h₂₈, h₂₉, h₃₀, h₃₁⟩ (fun _ => h₃₂)⟩,
   fun _ _ _ _ h => ⟨ResLeaves.execExportBackfeed.changes h, fun k h₁ h₂ h₃ =>
      ResLeaves.execExportBackfeed.get h k ⟨h₁, h₂⟩ (fun _ => h₃)⟩,
   fun _ _ _ h => ⟨ResLeaves.execExportOverloadTrip.changes h, fun k h₁ h₂ h₃ h₄ h₅ =>
      ResLeaves.execExportOverloadTrip.get h k ⟨h₁, h₂, h₃, h₄⟩ (fun _ => h₅)⟩,
   fun s _ dt h => ⟨ResLeaves.execSvcHold10s.keeps h, fun k hk hsafe =>
      State.keptOrDefault.reply (.trans (s.get_elapse dt k) (.svcReset hk hsafe (s.elapse dt))) h⟩,
   fun _ _ _ h => ⟨ResLeaves.execSystemResetRestore.changes h, fun k h₁ h₂ h₃ h₄ h₅ h₆ h₇ h₈ h₉ h₁₀ h₁₁ h₁₂ h₁₃ h₁₄ h₁₅
    h₁₆ h₁₇ h₁₈ h₁₉ h₂₀ h₂₁ h₂₂ h₂₃ h₂₄ h₂₅ h₂₆ h₂₇ h₂₈ h₂₉ h₃₀ h₃₁ h₃₂ h₃₃ h₃₄ =>
      ResLeaves.execSystemResetRestore.get h k ⟨h₁, h₂, h₃, h₄, h₅, h₆, h₇, h₈, h₉, h₁₀, h₁₁, h₁₂, h₁₃, h₁₄, h₁₅, h₁₆,
        h₁₇, h₁₈, h₁₉, h₂₀, h₂₁, h₂₂, h₂₃, h₂₄, h₂₅, h₂₆, h₂₇, h₂₈, h₂₉, h₃₀, h₃₁, h₃₂, h₃₃⟩ (fun _ => h₃₄)⟩,
   fun s _ dt h => ⟨ResLeaves.execPeatEntryComplete.keeps h, fun k hk hsafe =>
      State.keptOrDefault.reply (.trans (s.get_elapse dt k) (.peatEnter hk hsafe (s.elapse dt))) h⟩,
   fun _ _ _ _ h => ⟨ResLeaves.execPeatWake.changes h, fun k h₁ h₂ h₃ h₄ h₅ h₆ h₇ h₈ h₉ h₁₀ h₁₁ h₁₂ h₁₃ h₁₄ h₁₅ h₁₆ h₁₇
    h₁₈ h₁₉ h₂₀ h₂₁ h₂₂ h₂₃ h₂₄ h₂₅ h₂₆ h₂₇ h₂₈ h₂₉ h₃₀ h₃₁ h₃₂ h₃₃ h₃₄ =>
      ResLeaves.execPeatWake.get h k ⟨h₁, h₂, h₃, h₄, h₅, h₆, h₇, h₈, h₉, h₁₀, h₁₁, h₁₂, h₁₃, h₁₄, h₁₅, h₁₆, h₁₇, h₁₈,
        h₁₉, h₂₀, h₂₁, h₂₂, h₂₃, h₂₄, h₂₅, h₂₆, h₂₇, h₂₈, h₂₉, h₃₀, h₃₁, h₃₂, h₃₃⟩ (fun _ => h₃₄)⟩,
   fun _ _ _ h => ⟨ResLeaves.execFenRoundLate.changes h, fun k h₁ h₂ h₃ h₄ h₅ h₆ h₇ h₈ h₉ h₁₀ h₁₁ h₁₂ h₁₃ h₁₄ h₁₅ =>
      ResLeaves.execFenRoundLate.get h k ⟨h₁, h₂, h₃, h₄, h₅, h₆, h₇, h₈, h₉, h₁₀, h₁₁, h₁₂, h₁₃, h₁₄⟩ (fun _ => h₁₅)⟩,
   fun _ _ _ _ h => ⟨ResLeaves.execPyreriStartupTestsComplete.changes h, fun k h₁ h₂ h₃ h₄ h₅ h₆ h₇ h₈ h₉ h₁₀ =>
      ResLeaves.execPyreriStartupTestsComplete.get h k ⟨h₁, h₂, h₃, h₄, h₅, h₆, h₇, h₈, h₉⟩ (fun _ => h₁₀)⟩,
   fun _ _ _ _ _ h => ⟨ResLeaves.execLaneDifference.changes h, fun k h₁ h₂ h₃ h₄ h₅ h₆ h₇ h₈ h₉ h₁₀ h₁₁ h₁₂ h₁₃ h₁₄ =>
      ResLeaves.execLaneDifference.get h k ⟨h₁, h₂, h₃, h₄, h₅, h₆, h₇, h₈, h₉, h₁₀, h₁₁, h₁₂, h₁₃⟩ (fun _ => h₁₄)⟩,
   fun _ _ _ _ h => ⟨ResLeaves.execSafetyCycle.keeps h, fun k h₁ h₂ h₃ h₄ h₅ h₆ h₇ h₈ h₉ h₁₀ h₁₁ h₁₂ h₁₃ h₁₄ h₁₅ h₁₆ h₁₇
    h₁₈ h₁₉ h₂₀ h₂₁ h₂₂ h₂₃ h₂₄ h₂₅ h₂₆ h₂₇ h₂₈ h₂₉ h₃₀ h₃₁ h₃₂ h₃₃ h₃₄ h₃₅ h₃₆ h₃₇ h₃₈ h₃₉ h₄₀ h₄₁ h₄₂ h₄₃ h₄₄ h₄₅
    h₄₆ h₄₇ h₄₈ =>
      ResLeaves.execSafetyCycle.get h k ⟨h₁, h₄₈, h₂, h₃, h₄, h₅, h₆, h₇, h₈, h₉, h₁₀, h₁₁, h₁₂, h₁₃, h₁₄, h₁₅, h₁₆,
        h₁₇, h₁₈, h₁₉, h₂₀, h₂₁, h₂₂, h₂₃, h₂₄, h₂₅, h₂₆, h₂₇, h₂₈, h₂₉, h₃₀, h₃₁, h₃₂, h₃₃, h₃₄, h₃₅, h₃₆, h₃₇, h₃₈,
        h₃₉, h₄₀, h₄₁, h₄₂, h₄₃, h₄₄, h₄₅, h₄₆⟩ (fun _ => h₄₇)⟩,
   fun _ _ _ h => ⟨ResLeaves.execCycleWatchdogExpiry.changes h, fun k h₁ h₂ h₃ h₄ h₅ h₆ h₇ h₈ h₉ h₁₀ h₁₁ =>
      ResLeaves.execCycleWatchdogExpiry.get h k ⟨h₁, h₂, h₃, h₄, h₅, h₆, h₇, h₈, h₉, h₁₀⟩ (fun _ => h₁₁)⟩,
   fun _ _ _ h => ⟨ResLeaves.execExchangeStale.changes h, fun k h₁ h₂ h₃ h₄ h₅ h₆ h₇ h₈ h₉ =>
      ResLeaves.execExchangeStale.get h k ⟨h₁, h₂, h₃, h₄, h₅, h₆, h₇, h₈⟩ (fun _ => h₉)⟩,
   fun _ _ _ _ h => ⟨ResLeaves.execConfigReqTriple.keeps h, fun k h₁ h₂ h₃ h₄ h₅ h₆ h₇ h₈ h₉ h₁₀ h₁₁ h₁₂ h₁₃ =>
      ResLeaves.execConfigReqTriple.get h k ⟨h₁, h₂, h₃, h₄, h₅, h₆, h₇, h₈, h₉, h₁₀, h₁₁, h₁₂⟩ (fun _ => h₁₃)⟩,
   fun _ _ _ _ h => ⟨ResLeaves.execConfigReqPair.keeps h, fun k h₁ h₂ h₃ h₄ h₅ h₆ h₇ h₈ h₉ h₁₀ h₁₁ h₁₂ h₁₃ =>
      ResLeaves.execConfigReqPair.get h k ⟨h₁, h₂, h₃, h₄, h₅, h₆, h₇, h₈, h₉, h₁₀, h₁₁, h₁₂⟩ (fun _ => h₁₃)⟩,
   fun _ _ _ _ h => ⟨ResLeaves.execConfigReqSplit.keeps h, fun k h₁ h₂ h₃ h₄ h₅ h₆ h₇ h₈ h₉ h₁₀ h₁₁ h₁₂ h₁₃ =>
      ResLeaves.execConfigReqSplit.get h k ⟨h₁, h₂, h₃, h₄, h₅, h₆, h₇, h₈, h₉, h₁₀, h₁₁, h₁₂⟩ (fun _ => h₁₃)⟩,
   fun _ _ _ _ h => ⟨ResLeaves.execConfigReqLeaveSplit.keeps h, fun k h₁ h₂ h₃ h₄ h₅ h₆ h₇ h₈ h₉ h₁₀ h₁₁ h₁₂ h₁₃ =>
      ResLeaves.execConfigReqLeaveSplit.get h k ⟨h₁, h₂, h₃, h₄, h₅, h₆, h₇, h₈, h₉, h₁₀, h₁₁, h₁₂⟩ (fun _ => h₁₃)⟩,
   fun _ _ _ _ _ h => ⟨ResLeaves.execTqoReadbackFault.changes h, fun k h₁ h₂ h₃ h₄ h₅ h₆ h₇ h₈ h₉ =>
      ResLeaves.execTqoReadbackFault.get h k ⟨h₁, h₂, h₃, h₄, h₅, h₆, h₇, h₈⟩ (fun _ => h₉)⟩,
   fun _ _ _ _ _ h => ⟨ResLeaves.execSafetyInputChange.changes h, fun k h₁ h₂ h₃ h₄ h₅ h₆ h₇ h₈ h₉ h₁₀ =>
      ResLeaves.execSafetyInputChange.get h k ⟨h₁, h₂, h₃, h₄, h₅, h₆, h₇, h₈, h₉⟩ (fun _ => h₁₀)⟩,
   fun _ _ _ _ _ h => ⟨ResLeaves.execSafeReleaseWrite.changes h, fun k h₁ h₂ h₃ h₄ h₅ h₆ h₇ h₈ h₉ =>
      ResLeaves.execSafeReleaseWrite.get h k ⟨h₁, h₂, h₃, h₄, h₅, h₆, h₇, h₈⟩ (fun _ => h₉)⟩,
   fun _ _ _ _ h => ⟨ResLeaves.execSs1TimeExpiry.changes h, fun k h₁ h₂ h₃ h₄ h₅ h₆ h₇ h₈ =>
      ResLeaves.execSs1TimeExpiry.get h k ⟨h₁, h₂, h₃, h₄, h₅, h₆, h₇⟩ (fun _ => h₈)⟩,
   fun _ _ _ _ h => ⟨ResLeaves.execSltViolation.changes h, fun k h₁ h₂ h₃ h₄ h₅ h₆ h₇ h₈ =>
      ResLeaves.execSltViolation.get h k ⟨h₁, h₂, h₃, h₄, h₅, h₆, h₇⟩ (fun _ => h₈)⟩,
   fun _ _ _ _ h => ⟨ResLeaves.execSpeedPlausibilityFault.changes h, fun k h₁ h₂ h₃ h₄ h₅ h₆ h₇ h₈ =>
      ResLeaves.execSpeedPlausibilityFault.get h k ⟨h₁, h₂, h₃, h₄, h₅, h₆, h₇⟩ (fun _ => h₈)⟩,
   fun _ _ _ _ h => ⟨ResLeaves.execE2GapExpiry.changes h, fun k h₁ h₂ h₃ h₄ h₅ h₆ h₇ h₈ =>
      ResLeaves.execE2GapExpiry.get h k ⟨h₁, h₂, h₃, h₄, h₅, h₆, h₇⟩ (fun _ => h₈)⟩,
   fun _ _ _ _ _ h => ⟨ResLeaves.execSorrelPulse.changes h, fun k h₁ h₂ h₃ h₄ h₅ h₆ h₇ h₈ h₉ h₁₀ h₁₁ =>
      ResLeaves.execSorrelPulse.get h k ⟨h₁, h₂, h₃, h₄, h₅, h₆, h₇, h₈, h₉, h₁₀⟩ (fun _ => h₁₁)⟩,
   fun _ _ _ c _ _ h => ⟨ResLeaves.execCanFrameReceive.keeps h, fun k h₁ h₂ h₃ h₄ h₅ h₆ h₇ h₈ h₉ h₁₀ h₁₁ h₁₂ h₁₃ h₁₄ h₁₅
    h₁₆ =>
      ResLeaves.execCanFrameReceive.get h k ⟨h₁, h₂, (h₃ _ c.isLt), h₄, (h₅ _ c.isLt), h₆, h₇, (h₈ _ c.isLt), (h₉ _
        c.isLt), h₁₀, (h₁₁ _ c.isLt), (h₁₂ _ c.isLt), h₁₃, h₁₄, h₁₅⟩ (fun _ => h₁₆)⟩,
   fun _ _ _ c _ h => ⟨ResLeaves.execCanFrameTransmitComplete.keeps h, fun k h₁ h₂ h₃ h₄ h₅ h₆ h₇ h₈ h₉ h₁₀ =>
      ResLeaves.execCanFrameTransmitComplete.get h k ⟨h₁, h₂, h₃, (h₄ _ c.isLt), h₅, h₆, h₇, h₈, h₉⟩ (fun _ => h₁₀)⟩,
   fun _ _ _ c _ h => ⟨ResLeaves.execCanErrorDetected.keeps h, fun k h₁ h₂ h₃ h₄ h₅ h₆ h₇ h₈ h₉ h₁₀ =>
      ResLeaves.execCanErrorDetected.get h k ⟨h₁, h₂, (h₃ _ c.isLt), h₄, (h₅ _ c.isLt), (h₆ _ c.isLt), h₇, h₈, h₉⟩
        (fun _ => h₁₀)⟩,
   fun _ _ _ c h => ⟨ResLeaves.execCanBusOffRecovery.keeps h, fun k h₁ h₂ h₃ h₄ h₅ h₆ h₇ h₈ =>
      ResLeaves.execCanBusOffRecovery.get h k ⟨h₁, h₂, h₃, (h₄ _ c.isLt), h₅, h₆, h₇⟩ (fun _ => h₈)⟩,
   fun _ _ _ _ h => ⟨ResLeaves.execCanChannelOffline.keeps h, fun k h₁ h₂ h₃ h₄ h₅ h₆ =>
      ResLeaves.execCanChannelOffline.get h k ⟨h₁, h₂, h₃, h₄, h₅⟩ (fun _ => h₆)⟩,
   fun _ _ _ _ _ h => ⟨ResLeaves.execCanACommand.keeps h, fun k h₁ h₂ h₃ h₄ h₅ h₆ h₇ h₈ h₉ h₁₀ h₁₁ h₁₂ h₁₃ h₁₄ h₁₅ h₁₆
    h₁₇ h₁₈ h₁₉ h₂₀ h₂₁ h₂₂ h₂₃ h₂₄ h₂₅ h₂₆ h₂₇ h₂₈ h₂₉ h₃₀ =>
      ResLeaves.execCanACommand.get h k ⟨h₁, h₂, h₃, h₄, h₅, h₆, h₇, h₈, h₉, h₁₀, h₁₁, h₁₂, h₁₃, h₁₄, h₁₅, h₁₆, h₁₇,
        h₁₈, h₁₉, h₂₀, h₂₁, h₂₂, h₂₃, h₂₄, h₂₅, h₂₆, h₂₇, h₂₈, h₂₉⟩ (fun _ => h₃₀)⟩,
   fun _ _ _ h => ⟨ResLeaves.execCanACommandTimeout.changes h, fun k h₁ h₂ h₃ h₄ =>
      ResLeaves.execCanACommandTimeout.get h k ⟨h₁, h₂, h₃⟩ (fun _ => h₄)⟩,
   fun _ _ _ _ h => ResLeaves.execSdoRequest.keeps h,
   fun _ _ _ _ _ _ h => ResLeaves.execHspRead.keeps h,
   fun _ _ _ _ _ _ h => ResLeaves.execHspWrite.keeps h,
   fun _ _ _ _ _ _ h => ResLeaves.execHspClose.keeps h,
   fun _ _ _ _ _ _ h => ResLeaves.execHspKeepalive.keeps h,
   fun _ _ _ _ _ _ h => ResLeaves.execHspInvalidOp.keeps h,
   fun _ _ _ _ h => ⟨ResLeaves.execSessionCloseWrite.changes h, fun k h₁ h₂ h₃ h₄ h₅ =>
      ResLeaves.execSessionCloseWrite.get h k ⟨h₁, h₂, h₃, h₄⟩ (fun _ => h₅)⟩,
   fun _ _ _ _ h => ⟨ResLeaves.execSessionIdleTimeout.changes h, fun k h₁ h₂ h₃ h₄ h₅ =>
      ResLeaves.execSessionIdleTimeout.get h k ⟨h₁, h₂, h₃, h₄⟩ (fun _ => h₅)⟩,
   fun _ _ _ h => ⟨ResLeaves.execEthernetLinkDown.changes h, fun k h₁ h₂ h₃ h₄ h₅ h₆ h₇ =>
      ResLeaves.execEthernetLinkDown.get h k ⟨h₁, h₂, h₃, h₄, h₅, h₆⟩ (fun _ => h₇)⟩,
   fun _ _ _ _ _ _ h => ⟨ResLeaves.execOwnerWrite.changes h, fun k h₁ h₂ h₃ h₄ h₅ =>
      ResLeaves.execOwnerWrite.get h k ⟨h₁, h₂, h₃, h₄⟩ (fun _ => h₅)⟩,
   fun _ _ _ _ _ _ _ h => ResLeaves.execRegisterWrite.keeps h⟩
end Sys2Proof.Machine
end

section
/-! PROOFS. The queue and the state after reset (assumptions 57 and 59): a step takes the front command, every command
leaves the queue alone, and the reset state meets the invariant. -/
namespace Sys2Proof.Machine
open Sys2Proof
set_option Elab.async false

/-- Settles O47. -/
theorem aStepRunsTheFront : Obligations.AStepRunsTheFront := by
  intro s c rest h
  simp only [step, h]

/-- Settles O48. -/
theorem anEmptyQueueIdles : Obligations.AnEmptyQueueIdles := by
  intro s h
  simp only [step, h]

/-- Every command answers a next state with the queue it found: it ends in `reply`. -/
theorem exec_keeps_queue (i : Instr) (s : State) : ∃ t, exec i s = .next t ∧ t.pending = s.pending := by
  cases i with
  | checkTimeout dt n =>
    exact ⟨_, rfl, (State.Leaves.settle.parts .pending (by decide)).trans rfl⟩
  | _ => exact ⟨_, rfl, rfl⟩

/-- As many steps as commands wait empty the queue. -/
theorem run_drains (l : List Instr) (s : State) (h : s.pending = l) :
    ∃ t, Host.Core.run Sys2Proof.core l.length s = .next t ∧ State.pending t = [] := by
  induction l generalizing s with
  | nil => exact ⟨s, rfl, h⟩
  | cons c rest ih =>
    obtain ⟨t, hexec, hpending⟩ := exec_keeps_queue c { s with pending := rest }
    have hstep : Sys2Proof.core.step s = .next t := (aStepRunsTheFront s c rest h).trans hexec
    obtain ⟨u, hrun, hempty⟩ := ih t hpending
    refine ⟨u, ?_, hempty⟩
    simp only [List.length_cons, Host.Core.run, hstep]
    exact hrun

/-- Settles O52: no command faults, is refused or adds a command, so the queue shrinks by one with each step. -/
theorem everyQueueDrains : Obligations.EveryQueueDrains :=
  ⟨exec_keeps_queue, fun s => run_drains s.pending s rfl⟩

/-- The reset state lists one object, BKP15. -/
theorem State.get_reset (k : Nat) :
    State.reset.get k = if k = Od.BKP_BKP15 then .int 1 else dictDefault k := by
  by_cases h : k = Od.BKP_BKP15
  · subst h; rfl
  · have hne : ¬ Od.BKP_BKP15 = k := fun e => h e.symm
    rw [if_neg h]
    show (if Od.BKP_BKP15 = k then _ else none).getD (dictDefault k) = dictDefault k
    rw [if_neg hne]
    rfl

/-- Settles O49: every unit but BKP15 stands at its first value. -/
theorem theStateAfterReset : Obligations.TheStateAfterReset := by
  have hleg : ∀ l : Leg, (State.reset.leg l).level = .off := fun l => by
    show ((Vector.replicate 50 ({} : LegSt)).get l).level = .off
    rw [Vector.get_replicate]
  refine ⟨rfl, rfl, rfl, rfl, fun d => ?_, fun l => ?_, hleg, fun w => ?_, rfl, rfl, fun _ => rfl, rfl, fun k hk => ?_⟩
  · cases d <;> exact ⟨rfl, rfl⟩
  · cases l <;> rfl
  · cases w with
    | eth i =>
      show ((Vector.replicate 5 ({} : SessionSt)).get _).isOpen = false
      rw [Vector.get_replicate]
    | _ => rfl
  · rw [State.get_reset, if_neg hk]

/-- Settles O50. -/
theorem theInvariantHoldsAtReset : Obligations.TheInvariantHoldsAtReset := by
  refine ⟨?_, fun e he => by cases he⟩
  show (storeWf _ && Memory.wf _) = true
  decide

/-- A command keeps the invariant. -/
theorem ResLeaves.keeps_inv {ps : List Part} {free : Nat → Prop} {q : Bool} {s t : State} {r : Res}
    (g : ResLeaves ps free q s r) (h : r = .next t) (hs : s.inv) : t.inv := (g t h).inv hs

/-- Every command keeps the invariant, as its footprint says. -/
theorem exec_keeps_inv (i : Instr) {s t : State} (hs : s.inv) (h : exec i s = .next t) : t.inv := by
  cases i with
  | linkFrameReceive => exact ResLeaves.execLinkFrameReceive.keeps_inv h hs
  | linkLaneFail => exact ResLeaves.execLinkLaneFail.keeps_inv h hs
  | linkLossIslandDie => exact ResLeaves.execLinkLossIslandDie.keeps_inv h hs
  | linkLossIslandC => exact ResLeaves.execLinkLossIslandC.keeps_inv h hs
  | linkTrainingComplete => exact ResLeaves.execLinkTrainingComplete.keeps_inv h hs
  | applyTimeReached => exact ResLeaves.execApplyTimeReached.keeps_inv h hs
  | eccUncorrectableError => exact ResLeaves.execEccUncorrectableError.keeps_inv h hs
  | eccSingleBitCorrection => exact ResLeaves.execEccSingleBitCorrection.keeps_inv h hs
  | scrubPass => exact ResLeaves.execScrubPass.keeps_inv h hs
  | clockMonitorWindow => exact ResLeaves.execClockMonitorWindow.keeps_inv h hs
  | clkFaultLatchWrite => exact ResLeaves.execClkFaultLatchWrite.keeps_inv h hs
  | supplySourceChange => exact ResLeaves.execSupplySourceChange.keeps_inv h hs
  | allSourcesInvalid => exact ResLeaves.execAllSourcesInvalid.keeps_inv h hs
  | holdupInterruptionBridged => exact ResLeaves.execHoldupInterruptionBridged.keeps_inv h hs
  | mainPowerOnReset => exact ResLeaves.execMainPowerOnReset.keeps_inv h hs
  | powerStageSupplyLoss => exact ResLeaves.execPowerStageSupplyLoss.keeps_inv h hs
  | islandSupplyRemoval => exact ResLeaves.execIslandSupplyRemoval.keeps_inv h hs
  | powerStageSupplyReturn => exact ResLeaves.execPowerStageSupplyReturn.keeps_inv h hs
  | aonPowerOnReset => exact ResLeaves.execAonPowerOnReset.keeps_inv h hs
  | nrstAssert => exact ResLeaves.execNrstAssert.keeps_inv h hs
  | deferredResetProceed => exact ResLeaves.execDeferredResetProceed.keeps_inv h hs
  | nrstRelease => exact ResLeaves.execNrstRelease.keeps_inv h hs
  | trimLoadComplete => exact ResLeaves.execTrimLoadComplete.keeps_inv h hs
  | pllLock => exact ResLeaves.execPllLock.keeps_inv h hs
  | imageCheckComplete => exact ResLeaves.execImageCheckComplete.keeps_inv h hs
  | parameterStoreLoaded => exact ResLeaves.execParameterStoreLoaded.keeps_inv h hs
  | controlIslandUp => exact ResLeaves.execControlIslandUp.keeps_inv h hs
  | driveReadinessComplete => exact ResLeaves.execDriveReadinessComplete.keeps_inv h hs
  | custDataWrite => exact ResLeaves.execCustDataWrite.keeps_inv h hs
  | driveReset => exact ResLeaves.execDriveReset.keeps_inv h hs
  | driveResetBlockRelease => exact ResLeaves.execDriveResetBlockRelease.keeps_inv h hs
  | gateSupplyUndervoltage => exact ResLeaves.execGateSupplyUndervoltage.keeps_inv h hs
  | bothOnCommand => exact ResLeaves.execBothOnCommand.keeps_inv h hs
  | bootstrapUndervoltage => exact ResLeaves.execBootstrapUndervoltage.keeps_inv h hs
  | armingStepComplete => exact ResLeaves.execArmingStepComplete.keeps_inv h hs
  | shortDetectVds => exact ResLeaves.execShortDetectVds.keeps_inv h hs
  | shortDetectShunt => exact ResLeaves.execShortDetectShunt.keeps_inv h hs
  | softTurnOffPlateauEnd => exact ResLeaves.execSoftTurnOffPlateauEnd.keeps_inv h hs
  | scLockoutWrite => exact ResLeaves.execScLockoutWrite.keeps_inv h hs
  | selftestStart => exact ResLeaves.execSelftestStart.keeps_inv h hs
  | selftestComplete => exact ResLeaves.execSelftestComplete.keeps_inv h hs
  | tokenRefill => exact ResLeaves.execTokenRefill.keeps_inv h hs
  | dwellEnd => exact ResLeaves.execDwellEnd.keeps_inv h hs
  | legCounterSave => exact ResLeaves.execLegCounterSave.keeps_inv h hs
  | offsetRecalibrationDue => exact ResLeaves.execOffsetRecalibrationDue.keeps_inv h hs
  | offsetRecalibrationComplete => exact ResLeaves.execOffsetRecalibrationComplete.keeps_inv h hs
  | recalibrationLate => exact ResLeaves.execRecalibrationLate.keeps_inv h hs
  | stagePeriodStart => exact ResLeaves.execStagePeriodStart.keeps_inv h hs
  | sequencerTrigger => exact ResLeaves.execSequencerTrigger.keeps_inv h hs
  | swTriggerWrite => exact ResLeaves.execSwTriggerWrite.keeps_inv h hs
  | conversionComplete => exact ResLeaves.execConversionComplete.keeps_inv h hs
  | sqCtrlWrite => exact ResLeaves.execSqCtrlWrite.keeps_inv h hs
  | generalComparatorCrossing => exact ResLeaves.execGeneralComparatorCrossing.keeps_inv h hs
  | gcpClearWrite => exact ResLeaves.execGcpClearWrite.keeps_inv h hs
  | axisDecision => exact ResLeaves.execAxisDecision.keeps_inv h hs
  | unmeasuredTimeExceeded => exact ResLeaves.execUnmeasuredTimeExceeded.keeps_inv h hs
  | tqSetWrite => exact ResLeaves.execTqSetWrite.keeps_inv h hs
  | directionWrite => exact ResLeaves.execDirectionWrite.keeps_inv h hs
  | reversalReengage => exact ResLeaves.execReversalReengage.keeps_inv h hs
  | driveArm => exact ResLeaves.execDriveArm.keeps_inv h hs
  | driveRun => exact ResLeaves.execDriveRun.keeps_inv h hs
  | driveStop => exact ResLeaves.execDriveStop.keeps_inv h hs
  | driveDisarm => exact ResLeaves.execDriveDisarm.keeps_inv h hs
  | driveAck => exact ResLeaves.execDriveAck.keeps_inv h hs
  | stopSetCoast => exact ResLeaves.execStopSetCoast.keeps_inv h hs
  | armHoldExpiry => exact ResLeaves.execArmHoldExpiry.keeps_inv h hs
  | crossSetDisagreement => exact ResLeaves.execCrossSetDisagreement.keeps_inv h hs
  | trackingValid => exact ResLeaves.execTrackingValid.keeps_inv h hs
  | sedgeProbeComplete => exact ResLeaves.execSedgeProbeComplete.keeps_inv h hs
  | probeAssistPeriod => exact ResLeaves.execProbeAssistPeriod.keeps_inv h hs
  | observerLoss => exact ResLeaves.execObserverLoss.keeps_inv h hs
  | ascExit => exact ResLeaves.execAscExit.keeps_inv h hs
  | recoveryAngleFound => exact ResLeaves.execRecoveryAngleFound.keeps_inv h hs
  | recoveryTimeout => exact ResLeaves.execRecoveryTimeout.keeps_inv h hs
  | phaseOpenDeclared => exact ResLeaves.execPhaseOpenDeclared.keeps_inv h hs
  | shuntAttributionFail => exact ResLeaves.execShuntAttributionFail.keeps_inv h hs
  | shuntSaturationFail => exact ResLeaves.execShuntSaturationFail.keeps_inv h hs
  | idStatic => exact ResLeaves.execIdStatic.keeps_inv h hs
  | idRotating => exact ResLeaves.execIdRotating.keeps_inv h hs
  | idEncoderOffset => exact ResLeaves.execIdEncoderOffset.keeps_inv h hs
  | idAbort => exact ResLeaves.execIdAbort.keeps_inv h hs
  | idProcedureComplete => exact ResLeaves.execIdProcedureComplete.keeps_inv h hs
  | idApply => exact ResLeaves.execIdApply.keeps_inv h hs
  | positionLineChange => exact ResLeaves.execPositionLineChange.keeps_inv h hs
  | wireFault => exact ResLeaves.execWireFault.keeps_inv h hs
  | ssiFrameRead => exact ResLeaves.execSsiFrameRead.keeps_inv h hs
  | presetWrite => exact ResLeaves.execPresetWrite.keeps_inv h hs
  | armIndexWrite => exact ResLeaves.execArmIndexWrite.keeps_inv h hs
  | checkPass => exact ResLeaves.execCheckPass.keeps_inv h hs
  | checkTimeout => exact ResLeaves.execCheckTimeout.keeps_inv h hs
  | interfaceFaultClear => exact ResLeaves.execInterfaceFaultClear.keeps_inv h hs
  | checkCmdWrite => exact ResLeaves.execCheckCmdWrite.keeps_inv h hs
  | pifModeWrite => exact ResLeaves.execPifModeWrite.keeps_inv h hs
  | speedUpdate => exact ResLeaves.execSpeedUpdate.keeps_inv h hs
  | loopUnitSample => exact ResLeaves.execLoopUnitSample.keeps_inv h hs
  | coefficientQueueWrite => exact ResLeaves.execCoefficientQueueWrite.keeps_inv h hs
  | commitStaged => exact ResLeaves.execCommitStaged.keeps_inv h hs
  | commitNotch => exact ResLeaves.execCommitNotch.keeps_inv h hs
  | commitComputed => exact ResLeaves.execCommitComputed.keeps_inv h hs
  | secCtrlWrite => exact ResLeaves.execSecCtrlWrite.keeps_inv h hs
  | holdMaxExpiry => exact ResLeaves.execHoldMaxExpiry.keeps_inv h hs
  | taskRelease => exact ResLeaves.execTaskRelease.keeps_inv h hs
  | taskExecutionComplete => exact ResLeaves.execTaskExecutionComplete.keeps_inv h hs
  | engineWatchdog => exact ResLeaves.execEngineWatchdog.keeps_inv h hs
  | engineRejoin => exact ResLeaves.execEngineRejoin.keeps_inv h hs
  | configLoadWrite => exact ResLeaves.execConfigLoadWrite.keeps_inv h hs
  | configLoadAdmissionComplete => exact ResLeaves.execConfigLoadAdmissionComplete.keeps_inv h hs
  | axleModeWrite => exact ResLeaves.execAxleModeWrite.keeps_inv h hs
  | axleTqSetWrite => exact ResLeaves.execAxleTqSetWrite.keeps_inv h hs
  | yawTqSetWrite => exact ResLeaves.execYawTqSetWrite.keeps_inv h hs
  | axleDirectionWrite => exact ResLeaves.execAxleDirectionWrite.keeps_inv h hs
  | shiftCmdWrite => exact ResLeaves.execShiftCmdWrite.keeps_inv h hs
  | shiftStepLimit => exact ResLeaves.execShiftStepLimit.keeps_inv h hs
  | actuatorAxisFault => exact ResLeaves.execActuatorAxisFault.keeps_inv h hs
  | iSetWrite => exact ResLeaves.execISetWrite.keeps_inv h hs
  | ibBelow38V => exact ResLeaves.execIbBelow38V.keeps_inv h hs
  | solenoidOvercurrent => exact ResLeaves.execSolenoidOvercurrent.keeps_inv h hs
  | solenoidOpenLoad => exact ResLeaves.execSolenoidOpenLoad.keeps_inv h hs
  | solenoidDeviation => exact ResLeaves.execSolenoidDeviation.keeps_inv h hs
  | parkEngageCmd => exact ResLeaves.execParkEngageCmd.keeps_inv h hs
  | parkReleaseCmd => exact ResLeaves.execParkReleaseCmd.keeps_inv h hs
  | parkPositionConfirm => exact ResLeaves.execParkPositionConfirm.keeps_inv h hs
  | pawlOnTooth => exact ResLeaves.execPawlOnTooth.keeps_inv h hs
  | parkReleaseTimeout => exact ResLeaves.execParkReleaseTimeout.keeps_inv h hs
  | gearStateRecoveryStart => exact ResLeaves.execGearStateRecoveryStart.keeps_inv h hs
  | recoveryStall => exact ResLeaves.execRecoveryStall.keeps_inv h hs
  | gearStateRecoveryEnd => exact ResLeaves.execGearStateRecoveryEnd.keeps_inv h hs
  | dcLinkSenseMismatch => exact ResLeaves.execDcLinkSenseMismatch.keeps_inv h hs
  | uvTripRelease => exact ResLeaves.execUvTripRelease.keeps_inv h hs
  | resOhmWrite => exact ResLeaves.execResOhmWrite.keeps_inv h hs
  | brkResistorCheckComplete => exact ResLeaves.execBrkResistorCheckComplete.keeps_inv h hs
  | brkCheckRetry => exact ResLeaves.execBrkCheckRetry.keeps_inv h hs
  | autoRunWrite => exact ResLeaves.execAutoRunWrite.keeps_inv h hs
  | chopperOpenResistor => exact ResLeaves.execChopperOpenResistor.keeps_inv h hs
  | chopperShortedSwitch => exact ResLeaves.execChopperShortedSwitch.keeps_inv h hs
  | resistorModelUpdate => exact ResLeaves.execResistorModelUpdate.keeps_inv h hs
  | firmwareDcLinkTrip => exact ResLeaves.execFirmwareDcLinkTrip.keeps_inv h hs
  | hardwareDcLinkTrip => exact ResLeaves.execHardwareDcLinkTrip.keeps_inv h hs
  | dischargeStart => exact ResLeaves.execDischargeStart.keeps_inv h hs
  | dischargeEnd => exact ResLeaves.execDischargeEnd.keeps_inv h hs
  | dischargeLinkSupplied => exact ResLeaves.execDischargeLinkSupplied.keeps_inv h hs
  | dischargeComplete => exact ResLeaves.execDischargeComplete.keeps_inv h hs
  | dischargeTimeout => exact ResLeaves.execDischargeTimeout.keeps_inv h hs
  | dabPeakLimit => exact ResLeaves.execDabPeakLimit.keeps_inv h hs
  | dabStopLowLink => exact ResLeaves.execDabStopLowLink.keeps_inv h hs
  | dabRestartLinkOk => exact ResLeaves.execDabRestartLinkOk.keeps_inv h hs
  | ibStartComplete => exact ResLeaves.execIbStartComplete.keeps_inv h hs
  | buckPhaseShed => exact ResLeaves.execBuckPhaseShed.keeps_inv h hs
  | vselSample => exact ResLeaves.execVselSample.keeps_inv h hs
  | vrSrcWrite => exact ResLeaves.execVrSrcWrite.keeps_inv h hs
  | vrCmdWrite => exact ResLeaves.execVrCmdWrite.keeps_inv h hs
  | vrSetWrite => exact ResLeaves.execVrSetWrite.keeps_inv h hs
  | loadReleaseEntry => exact ResLeaves.execLoadReleaseEntry.keeps_inv h hs
  | loadReleaseExit => exact ResLeaves.execLoadReleaseExit.keeps_inv h hs
  | syncInLock => exact ResLeaves.execSyncInLock.keeps_inv h hs
  | syncInLoss => exact ResLeaves.execSyncInLoss.keeps_inv h hs
  | aux48EnWrite => exact ResLeaves.execAux48EnWrite.keeps_inv h hs
  | aux48Overcurrent => exact ResLeaves.execAux48Overcurrent.keeps_inv h hs
  | ibOvervoltagePause => exact ResLeaves.execIbOvervoltagePause.keeps_inv h hs
  | ibOvervoltageTrip => exact ResLeaves.execIbOvervoltageTrip.keeps_inv h hs
  | ibLost => exact ResLeaves.execIbLost.keeps_inv h hs
  | vrOvervoltage => exact ResLeaves.execVrOvervoltage.keeps_inv h hs
  | towBatteryLow => exact ResLeaves.execTowBatteryLow.keeps_inv h hs
  | pilotStateChange => exact ResLeaves.execPilotStateChange.keeps_inv h hs
  | pilotDutyChange => exact ResLeaves.execPilotDutyChange.keeps_inv h hs
  | proximityChange => exact ResLeaves.execProximityChange.keeps_inv h hs
  | supplyOutOfWindow => exact ResLeaves.execSupplyOutOfWindow.keeps_inv h hs
  | chargeSessionOpen => exact ResLeaves.execChargeSessionOpen.keeps_inv h hs
  | autoChargeStart => exact ResLeaves.execAutoChargeStart.keeps_inv h hs
  | acWaitTimeout => exact ResLeaves.execAcWaitTimeout.keeps_inv h hs
  | pfcPrechargeTimeout => exact ResLeaves.execPfcPrechargeTimeout.keeps_inv h hs
  | bmsMessageReceive => exact ResLeaves.execBmsMessageReceive.keeps_inv h hs
  | bmsTimeout => exact ResLeaves.execBmsTimeout.keeps_inv h hs
  | moduleStatusSend => exact ResLeaves.execModuleStatusSend.keeps_inv h hs
  | packLost => exact ResLeaves.execPackLost.keeps_inv h hs
  | safetyTimerExpiry => exact ResLeaves.execSafetyTimerExpiry.keeps_inv h hs
  | chargeStateTimer => exact ResLeaves.execChargeStateTimer.keeps_inv h hs
  | lvPresenceTestComplete => exact ResLeaves.execLvPresenceTestComplete.keeps_inv h hs
  | lvAckWrite => exact ResLeaves.execLvAckWrite.keeps_inv h hs
  | batterySwitchOvercurrent => exact ResLeaves.execBatterySwitchOvercurrent.keeps_inv h hs
  | handoverSwitchOn => exact ResLeaves.execHandoverSwitchOn.keeps_inv h hs
  | handbackCountComplete => exact ResLeaves.execHandbackCountComplete.keeps_inv h hs
  | exportBackfeed => exact ResLeaves.execExportBackfeed.keeps_inv h hs
  | exportOverloadTrip => exact ResLeaves.execExportOverloadTrip.keeps_inv h hs
  | svcPressRelease => exact ResLeaves.execSvcPressRelease.keeps_inv h hs
  | svcHold8s => exact ResLeaves.execSvcHold8s.keeps_inv h hs
  | svcHold10s => exact ResLeaves.execSvcHold10s.keeps_inv h hs
  | systemResetRestore => exact ResLeaves.execSystemResetRestore.keeps_inv h hs
  | peatCmdWrite => exact ResLeaves.execPeatCmdWrite.keeps_inv h hs
  | peatEntryComplete => exact ResLeaves.execPeatEntryComplete.keeps_inv h hs
  | peatWake => exact ResLeaves.execPeatWake.keeps_inv h hs
  | attnClearWrite => exact ResLeaves.execAttnClearWrite.keeps_inv h hs
  | fenRoundTrigger => exact ResLeaves.execFenRoundTrigger.keeps_inv h hs
  | fenRoundLate => exact ResLeaves.execFenRoundLate.keeps_inv h hs
  | coolantFlowLow => exact ResLeaves.execCoolantFlowLow.keeps_inv h hs
  | pyreriStartupTestsComplete => exact ResLeaves.execPyreriStartupTestsComplete.keeps_inv h hs
  | laneDifference => exact ResLeaves.execLaneDifference.keeps_inv h hs
  | resyncCopyComplete => exact ResLeaves.execResyncCopyComplete.keeps_inv h hs
  | resyncWindowClose => exact ResLeaves.execResyncWindowClose.keeps_inv h hs
  | safetyCycle => exact ResLeaves.execSafetyCycle.keeps_inv h hs
  | cycleWatchdogExpiry => exact ResLeaves.execCycleWatchdogExpiry.keeps_inv h hs
  | exchangeStale => exact ResLeaves.execExchangeStale.keeps_inv h hs
  | configReqTriple => exact ResLeaves.execConfigReqTriple.keeps_inv h hs
  | configReqPair => exact ResLeaves.execConfigReqPair.keeps_inv h hs
  | configReqSplit => exact ResLeaves.execConfigReqSplit.keeps_inv h hs
  | configReqLeaveSplit => exact ResLeaves.execConfigReqLeaveSplit.keeps_inv h hs
  | tqoReadbackFault => exact ResLeaves.execTqoReadbackFault.keeps_inv h hs
  | safetyInputChange => exact ResLeaves.execSafetyInputChange.keeps_inv h hs
  | inputPairDiscrepancy => exact ResLeaves.execInputPairDiscrepancy.keeps_inv h hs
  | testPulse => exact ResLeaves.execTestPulse.keeps_inv h hs
  | releasePairOverhold => exact ResLeaves.execReleasePairOverhold.keeps_inv h hs
  | safeReleaseWrite => exact ResLeaves.execSafeReleaseWrite.keeps_inv h hs
  | ss1TimeExpiry => exact ResLeaves.execSs1TimeExpiry.keeps_inv h hs
  | sltViolation => exact ResLeaves.execSltViolation.keeps_inv h hs
  | speedPlausibilityFault => exact ResLeaves.execSpeedPlausibilityFault.keeps_inv h hs
  | e2GapExpiry => exact ResLeaves.execE2GapExpiry.keeps_inv h hs
  | safeParkConfirmTimeout => exact ResLeaves.execSafeParkConfirmTimeout.keeps_inv h hs
  | sorrelPulse => exact ResLeaves.execSorrelPulse.keeps_inv h hs
  | setEditOpen => exact ResLeaves.execSetEditOpen.keeps_inv h hs
  | setEditDiscard => exact ResLeaves.execSetEditDiscard.keeps_inv h hs
  | setCommit => exact ResLeaves.execSetCommit.keeps_inv h hs
  | hsfDataFrameReceive => exact ResLeaves.execHsfDataFrameReceive.keeps_inv h hs
  | hsfEchoReceive => exact ResLeaves.execHsfEchoReceive.keeps_inv h hs
  | hsfProducerSend => exact ResLeaves.execHsfProducerSend.keeps_inv h hs
  | hsfWatchdog => exact ResLeaves.execHsfWatchdog.keeps_inv h hs
  | hsfProducerRestart => exact ResLeaves.execHsfProducerRestart.keeps_inv h hs
  | crcStartWrite => exact ResLeaves.execCrcStartWrite.keeps_inv h hs
  | crcDataWrite => exact ResLeaves.execCrcDataWrite.keeps_inv h hs
  | crcBindingTimeout => exact ResLeaves.execCrcBindingTimeout.keeps_inv h hs
  | canFrameReceive => exact ResLeaves.execCanFrameReceive.keeps_inv h hs
  | canFrameTransmitComplete => exact ResLeaves.execCanFrameTransmitComplete.keeps_inv h hs
  | canErrorDetected => exact ResLeaves.execCanErrorDetected.keeps_inv h hs
  | canBusOffRecovery => exact ResLeaves.execCanBusOffRecovery.keeps_inv h hs
  | canSlotStale => exact ResLeaves.execCanSlotStale.keeps_inv h hs
  | bridgeRxRead => exact ResLeaves.execBridgeRxRead.keeps_inv h hs
  | bridgeTxWrite => exact ResLeaves.execBridgeTxWrite.keeps_inv h hs
  | canChannelOffline => exact ResLeaves.execCanChannelOffline.keeps_inv h hs
  | canChannelRejoin => exact ResLeaves.execCanChannelRejoin.keeps_inv h hs
  | canTimestampWrap => exact ResLeaves.execCanTimestampWrap.keeps_inv h hs
  | timeReferenceSend => exact ResLeaves.execTimeReferenceSend.keeps_inv h hs
  | timeReferenceReceive => exact ResLeaves.execTimeReferenceReceive.keeps_inv h hs
  | timeMasterTakeover => exact ResLeaves.execTimeMasterTakeover.keeps_inv h hs
  | globalTimeSyncLoss => exact ResLeaves.execGlobalTimeSyncLoss.keeps_inv h hs
  | addressClaimStart => exact ResLeaves.execAddressClaimStart.keeps_inv h hs
  | addressClaimReceive => exact ResLeaves.execAddressClaimReceive.keeps_inv h hs
  | addressClaimTimer => exact ResLeaves.execAddressClaimTimer.keeps_inv h hs
  | canACommand => exact ResLeaves.execCanACommand.keeps_inv h hs
  | canARequest => exact ResLeaves.execCanARequest.keeps_inv h hs
  | canACommandTimeout => exact ResLeaves.execCanACommandTimeout.keeps_inv h hs
  | canAStatusSend => exact ResLeaves.execCanAStatusSend.keeps_inv h hs
  | emcySend => exact ResLeaves.execEmcySend.keeps_inv h hs
  | sdoRequest => exact ResLeaves.execSdoRequest.keeps_inv h hs
  | sdoTimeout => exact ResLeaves.execSdoTimeout.keeps_inv h hs
  | hspRead => exact ResLeaves.execHspRead.keeps_inv h hs
  | hspWrite => exact ResLeaves.execHspWrite.keeps_inv h hs
  | hspClose => exact ResLeaves.execHspClose.keeps_inv h hs
  | hspKeepalive => exact ResLeaves.execHspKeepalive.keeps_inv h hs
  | hspInvalidOp => exact ResLeaves.execHspInvalidOp.keeps_inv h hs
  | authOpenWrite => exact ResLeaves.execAuthOpenWrite.keeps_inv h hs
  | authResponseWrite => exact ResLeaves.execAuthResponseWrite.keeps_inv h hs
  | nonceExpiry => exact ResLeaves.execNonceExpiry.keeps_inv h hs
  | authLockExpiry => exact ResLeaves.execAuthLockExpiry.keeps_inv h hs
  | keyWrite => exact ResLeaves.execKeyWrite.keeps_inv h hs
  | sessionCloseWrite => exact ResLeaves.execSessionCloseWrite.keeps_inv h hs
  | sessionIdleTimeout => exact ResLeaves.execSessionIdleTimeout.keeps_inv h hs
  | ethernetLinkDown => exact ResLeaves.execEthernetLinkDown.keeps_inv h hs
  | ownerWrite => exact ResLeaves.execOwnerWrite.keeps_inv h hs
  | eventLogEntry => exact ResLeaves.execEventLogEntry.keeps_inv h hs
  | logNextRead => exact ResLeaves.execLogNextRead.keeps_inv h hs
  | logClearWrite => exact ResLeaves.execLogClearWrite.keeps_inv h hs
  | faultOccClearWrite => exact ResLeaves.execFaultOccClearWrite.keeps_inv h hs
  | operatingTimeSave => exact ResLeaves.execOperatingTimeSave.keeps_inv h hs
  | updateStart => exact ResLeaves.execUpdateStart.keeps_inv h hs
  | updateAbort => exact ResLeaves.execUpdateAbort.keeps_inv h hs
  | rollbackRequest => exact ResLeaves.execRollbackRequest.keeps_inv h hs
  | updateEraseComplete => exact ResLeaves.execUpdateEraseComplete.keeps_inv h hs
  | tftpDataReceive => exact ResLeaves.execTftpDataReceive.keeps_inv h hs
  | tftpErrorReceive => exact ResLeaves.execTftpErrorReceive.keeps_inv h hs
  | tftpTimeout => exact ResLeaves.execTftpTimeout.keeps_inv h hs
  | updateVerifyComplete => exact ResLeaves.execUpdateVerifyComplete.keeps_inv h hs
  | captureArm => exact ResLeaves.execCaptureArm.keeps_inv h hs
  | captureForce => exact ResLeaves.execCaptureForce.keeps_inv h hs
  | captureStop => exact ResLeaves.execCaptureStop.keeps_inv h hs
  | captureRow => exact ResLeaves.execCaptureRow.keeps_inv h hs
  | captureReadData => exact ResLeaves.execCaptureReadData.keeps_inv h hs
  | registerWrite => exact ResLeaves.execRegisterWrite.keeps_inv h hs
  | svcPressed => exact ResLeaves.execSvcPressed.keeps_inv h hs
  | producerHeartbeat => exact ResLeaves.execProducerHeartbeat.keeps_inv h hs
  | ethernetLinkUp => exact ResLeaves.execEthernetLinkUp.keeps_inv h hs
  | soCurrentLimitOff => exact ResLeaves.execSoCurrentLimitOff.keeps_inv h hs

/-- Settles O51: an idle step changes nothing, any other step is a command on the state with a shorter queue. -/
theorem everyStepKeepsTheInvariant : Obligations.EveryStepKeepsTheInvariant := by
  intro s t hs h
  cases hp : s.pending with
  | nil =>
    rw [anEmptyQueueIdles s hp] at h
    obtain ⟨⟩ := h
    exact hs
  | cons c rest =>
    rw [aStepRunsTheFront s c rest hp] at h
    exact exec_keeps_inv c (s := { s with pending := rest }) hs h

end Sys2Proof.Machine
end

section
/-! PROOFS. What the statements about the commands read: reads of a unit and of an object after an update or after an operation
with a footprint, an accepted and a refused access, counters, and the newest event. -/
namespace Sys2Proof.Machine
open Sys2Proof
set_option Elab.async false

/-! ### Objects after an elementary update -/

@[simp] theorem State.get_modSide (s : State) (t : Fin 2) (f : SideSt → SideSt) (j : Nat) : (s.modSide t f).get j = s.get j := rfl
@[simp] theorem State.get_modLu (s : State) (n : Fin 24) (f : LuSt → LuSt) (j : Nat) : (s.modLu n f).get j = s.get j := rfl
@[simp] theorem State.get_modPyr (s : State) (f : PyrSt → PyrSt) (j : Nat) : (s.modPyr f).get j = s.get j := rfl

theorem State.get_setN (s : State) (k j v : Nat) : (s.setN k v).get j = if j = k then .int v else s.get j := s.get_set k j _
theorem State.get_setI (s : State) (k j : Nat) (v : Int) : (s.setI k v).get j = if j = k then .int v else s.get j :=
  s.get_set k j _
theorem State.get_setBit (s : State) (k j i : Nat) (b : Bool) :
    (s.setBit k i b).get j = if j = k then .int (withBit (s.nat k) i b) else s.get j := s.get_set k j _

theorem State.int_of_get {s t : State} {k : Nat} (h : t.get k = s.get k) : t.int k = s.int k := by rw [State.int, State.int, h]
theorem State.num_of_get {s t : State} {k : Nat} (h : t.get k = s.get k) : t.num k = s.num k := by rw [State.num, State.num, h]
theorem State.flag_of_get {s t : State} {k : Nat} (h : t.get k = s.get k) : t.flag k = s.flag k := by
  rw [State.flag, State.flag, h]
theorem State.bit_of_get {s t : State} {k : Nat} (h : t.get k = s.get k) (i : Nat) : t.bit k i = s.bit k i := by
  rw [State.bit, State.bit, State.nat_of_get h]
theorem State.field_of_get {s t : State} {k : Nat} (h : t.get k = s.get k) (lo w : Nat) : t.field k lo w = s.field k lo w := by
  rw [State.field, State.field, State.nat_of_get h]

theorem testBit_of_parts {n n' i m : Nat} (hr : n' % 2 ^ i = n % 2 ^ i) (hq : n' / 2 ^ i / 2 = n / 2 ^ i / 2) (h : m ≠ i) :
    n'.testBit m = n.testBit m := by
  have hsplit (x : Nat) : x.testBit m = if m < i then (x % 2 ^ i).testBit m else (x / 2 ^ i).testBit (m - i) := by
    conv_lhs => rw [← Nat.div_add_mod x (2 ^ i)]
    exact Nat.testBit_two_pow_mul_add _ (Nat.mod_lt _ (Nat.two_pow_pos i)) m
  rw [hsplit n', hsplit n, hr]
  split
  · rfl
  · obtain ⟨j, hj⟩ : ∃ j, m - i = j + 1 := ⟨m - i - 1, by omega⟩
    rw [hj, Nat.testBit_succ, Nat.testBit_succ, hq]

theorem withBit_other (n : Nat) {i m : Nat} (b : Bool) (h : m ≠ i) : (withBit n i b).testBit m = n.testBit m := by
  unfold withBit
  split
  · rfl
  · next hne =>
    have hpos := Nat.two_pow_pos i
    rw [Nat.testBit_eq_decide_div_mod_eq] at hne
    cases b with
    | true =>
      have hbit : n / 2 ^ i % 2 = 0 := by simpa using hne
      refine testBit_of_parts ?_ ?_ h
      · simp
      · rw [if_pos rfl, Nat.add_div_right _ hpos]; omega
    | false =>
      have hbit : n / 2 ^ i % 2 = 1 := by simpa using hne
      have hle : 2 ^ i ≤ n := by
        by_contra hc
        rw [Nat.div_eq_of_lt (by omega)] at hbit
        omega
      obtain ⟨k, rfl⟩ := Nat.exists_eq_add_of_le' hle
      rw [Nat.add_div_right _ hpos] at hbit
      refine testBit_of_parts ?_ ?_ h
      · simp
      · simp only [Bool.false_eq_true, if_false, Nat.add_sub_cancel, Nat.add_div_right _ hpos]; omega
theorem State.bit_setBit_other (s : State) (k i m : Nat) (b : Bool) (h : m ≠ i) : (s.setBit k i b).bit k m = s.bit k m := by
  rw [State.bit, State.setBit, State.nat_setN, if_pos rfl, withBit_other _ _ h]
  rfl

/-! ### Units and objects after an operation with a footprint -/

section
variable {ps : List Part} {free : Nat → Prop} {q : Bool} {s t : State}

theorem State.Leaves.part (g : State.Leaves ps free q s t) (p : Part) (hp : p ∉ ps := by decide) : p.same s t := g.parts p hp
theorem State.Leaves.drv (g : State.Leaves ps free q s t) (d : Drive) (hp : Part.drives ∉ ps := by decide) : t.drv d = s.drv d :=
  congrArg (·.get d.idx) (g.parts .drives hp)
theorem State.Leaves.ds (g : State.Leaves ps free q s t) (d : Drive) (hp : Part.drives ∉ ps := by decide) : t.ds d = s.ds d :=
  congrArg DriveSt.state (g.drv d hp)
theorem State.Leaves.cell (g : State.Leaves ps free q s t) (c : Cell) (hp : Part.cells ∉ ps := by decide) : t.cell c = s.cell c :=
  congrArg (·.get c) (g.parts .cells hp)
theorem State.Leaves.leg (g : State.Leaves ps free q s t) (l : Leg) (hp : Part.legs ∉ ps := by decide) : t.leg l = s.leg l :=
  congrArg (·.get l) (g.parts .legs hp)
theorem State.Leaves.link (g : State.Leaves ps free q s t) (l : Link) (hp : Part.links ∉ ps := by decide) : t.link l = s.link l :=
  congrArg (·.get l.idx) (g.parts .links hp)
theorem State.Leaves.ax (g : State.Leaves ps free q s t) (n : Axis) (hp : Part.axes ∉ ps := by decide) : t.ax n = s.ax n :=
  congrArg (·.get n) (g.parts .axes hp)
theorem State.Leaves.seq (g : State.Leaves ps free q s t) (n : Fin 8) (hp : Part.seqs ∉ ps := by decide) : t.seq n = s.seq n :=
  congrArg (·.get n) (g.parts .seqs hp)
theorem State.Leaves.lu (g : State.Leaves ps free q s t) (n : Fin 24) (hp : Part.lus ∉ ps := by decide) : t.lu n = s.lu n :=
  congrArg (·.get n) (g.parts .lus hp)
/-- An object outside the footprint of an operation without queued writes. -/
theorem State.Leaves.get (g : State.Leaves ps free false s t) {k : Nat} (hk : free k) : t.get k = s.get k := g.objects k hk nofun

/-- The command of an operation that leaves the queue alone ends in the operation's state. -/
theorem State.Leaves.completes {dt : Nat} (g : State.Leaves ps free q (s.elapse dt) t) (hp : Part.pending ∉ ps := by decide) :
    reply s t = .next t := by
  have h : t.pending = s.pending := g.parts .pending hp
  rw [reply_eq, ← h]

end

/-! ### Accesses (R474, R475) -/

/-- What an accepted access finds. -/
theorem State.accepts_iff (s : State) (dt : Nat) (who : Requester) (key : Nat) (role : Role) :
    s.accepts dt who key role = true ↔ s.dictUp = true ∧ s.diagOnly = false ∧ who ≠ .canA ∧
      role.num ≤ ((s.begun dt who).roleOf who).num ∧ (s.begun dt who).walled key = false ∧
      ∀ w ∈ s.sessions.writes, w.1 = key → w.2.1 ≠ s.tb + dt := by
  simp [State.accepts, and_assoc]

theorem State.Leaves.begun {s : State} {dt : Nat} {who : Requester} :
    State.Leaves [.od, .tb, .out, .log, .sessions] (fun j => j ≠ Od.SVC_REQUESTS) false s (s.begun dt who) := by
  unfold State.begun
  exact .step .touch (.step .elapse .refl)

@[simp] theorem State.touch_writes (s : State) (who : Requester) : (s.touch who).sessions.writes = s.sessions.writes := by
  cases who <;> rfl
@[simp] theorem State.begun_writes (s : State) (dt : Nat) (who : Requester) :
    (s.begun dt who).sessions.writes = s.sessions.writes := State.touch_writes _ _
@[simp] theorem State.begun_tb (s : State) (dt : Nat) (who : Requester) : (s.begun dt who).tb = s.tb + dt :=
  (State.Leaves.touch (s := s.elapse dt)).part .tb
@[simp] theorem State.begun_out (s : State) (dt : Nat) (who : Requester) : (s.begun dt who).out = [] :=
  (State.Leaves.touch (s := s.elapse dt)).part .out
@[simp] theorem State.begun_bringup (s : State) (dt : Nat) (who : Requester) : (s.begun dt who).bringup = s.bringup :=
  (State.Leaves.touch (s := s.elapse dt)).part .bringup
@[simp] theorem State.begun_pending (s : State) (dt : Nat) (who : Requester) : (s.begun dt who).pending = s.pending :=
  (State.Leaves.touch (s := s.elapse dt)).part .pending

/-- An accepted write whose effect is met is answered without error, and recorded. -/
theorem State.request_of_accepts {s t : State} {dt : Nat} {who : Requester} {key : Nat} {role : Role}
    {effect : State → Except Nat State} (ha : s.accepts dt who key role = true) (he : effect (s.begun dt who) = .ok t) :
    (s.elapse dt).request who key role effect = (t.noteWrite who key).emit (.response who 0 []) := by
  obtain ⟨hup, hdiag, hwho, hrole, hwall, hfree⟩ := (s.accepts_iff dt who key role).1 ha
  have hnone (p : Nat → Bool) : (s.begun dt who).sessions.writes.any
      (fun w => w.1 == key && w.2.1 == (s.begun dt who).tb && p w.2.2) = false := by
    simp only [List.any_eq_false, State.begun_writes, State.begun_tb]
    intro w hw
    have := hfree w hw
    simp_all
  have hlost : (s.begun dt who).arbLost who key = false :=
    hnone fun r => decide (r < (s.begun dt who).rankOf who)
  have hwon : (s.begun dt who).arbWon who key = false :=
    hnone fun r => decide ((s.begun dt who).rankOf who < r)
  have hdiag' : ((s.elapse dt).touch who).diagOnly = false := by
    show (s.begun dt who).diagOnly = false
    rw [State.diagOnly, State.begun_bringup]; exact hdiag
  rw [State.request_ok (s.elapse dt) who key role effect t hup hdiag' hrole (fun h => absurd h hwho) hwall hlost he]
  show (s.begun dt who).answer who (.ok ((t.when ((s.begun dt who).arbWon who key) _).noteWrite who key)) = _
  rw [hwon]
  exact if_neg hwho

/-- An accepted write whose effect refuses is answered with its code and changes nothing else. -/
theorem State.request_of_refusal {s : State} {dt : Nat} {who : Requester} {key : Nat} {role : Role} {code : Nat}
    {effect : State → Except Nat State} (ha : s.accepts dt who key role = true) (he : effect (s.begun dt who) = .error code) :
    (s.elapse dt).request who key role effect = (s.begun dt who).emit (.response who code []) := by
  obtain ⟨hup, hdiag, hwho, hrole, hwall, -⟩ := (s.accepts_iff dt who key role).1 ha
  have hdiag' : ((s.elapse dt).touch who).diagOnly = false := by
    show (s.begun dt who).diagOnly = false
    rw [State.diagOnly, State.begun_bringup]; exact hdiag
  rw [State.request_error (s.elapse dt) who key role effect code hup hdiag' hrole (fun h => absurd h hwho) hwall he]
  exact if_neg hwho

/-- The command of an accepted write ends in the effect, recorded and answered. -/
theorem State.accepted_completes {s t : State} {dt : Nat} {who : Requester} {key : Nat} {role : Role}
    {effect : State → Except Nat State} (ha : s.accepts dt who key role = true) (he : effect (s.begun dt who) = .ok t)
    (hp : t.pending = s.pending) :
    reply s ((s.elapse dt).request who key role effect) = .next ((t.noteWrite who key).emit (.response who 0 [])) := by
  rw [State.request_of_accepts ha he, reply_eq, ← hp]
  rfl

theorem State.refused_completes {s : State} {dt : Nat} {who : Requester} {key : Nat} {role : Role} {code : Nat}
    {effect : State → Except Nat State} (ha : s.accepts dt who key role = true) (he : effect (s.begun dt who) = .error code) :
    reply s ((s.elapse dt).request who key role effect) = .next ((s.begun dt who).emit (.response who code [])) := by
  rw [State.request_of_refusal ha he, reply_eq, ← s.begun_pending dt who]
  rfl

@[simp] theorem State.answered_emit (s : State) (who : Requester) (l : List Byte) :
    (s.emit (.response who 0 l)).answered who = true := by simp [State.answered]
theorem State.refusedWith_begun (s : State) (dt : Nat) (who : Requester) (code : Nat) :
    ((s.begun dt who).emit (.response who code [])).refusedWith who code = true := by simp [State.refusedWith]

/-! ### Counters -/

/-- A count of a counter whose flag is another object stops at the largest value. -/
theorem State.nat_count_min (s : State) (c : Counter) (hf : c.key ≠ c.flag) (ho : c.key ≠ Od.CNT_CNT_OVF_MAP) :
    (s.count c).nat c.key = min (s.nat c.key + 1) (2 ^ c.width - 1) := by
  have hpos := Nat.two_pow_pos c.width
  unfold State.count State.countBy
  split
  · rw [State.nat_setN, if_pos rfl]; omega
  · rw [State.nat_setBit_ne _ _ _ _ _ ho, State.nat_setBit_ne _ _ _ _ _ hf, State.nat_setN, if_pos rfl]; omega

/-! ### The newest event -/

/-! ### What an operation keeps -/

/-- What holds of `s` holds of `t`. -/
def State.Keeps (P : State → Prop) (s t : State) : Prop := P s → P t

/-- A predicate that reads one part of the state alone. -/
def State.Reads (p : Part) (P : State → Prop) : Prop := ∀ s t, p.same s t → P s → P t

namespace State.Keeps
variable {P : State → Prop} {s t u : State}

theorem refl : Keeps P s s := id
theorem step (g : Keeps P t u) (h : Keeps P s t) : Keeps P s u := g ∘ h
/-- An operation that leaves the part alone. -/
theorem past {p : Part} {ps : List Part} {free : Nat → Prop} {q : Bool} (hP : State.Reads p P)
    (g : State.Leaves ps free q t u) (h : Keeps P s t) (hp : p ∉ ps := by decide) : Keeps P s u :=
  fun hs => hP t u (g.parts p hp) (h hs)
theorem ite {c : Prop} [Decidable c] (ht : Keeps P s t) (hu : Keeps P s u) : Keeps P s (if c then t else u) := by
  split
  · exact ht
  · exact hu
theorem iteOf {c : Prop} [Decidable c] (ht : c → Keeps P s t) (hu : ¬ c → Keeps P s u) : Keeps P s (if c then t else u) := by
  split
  · next h => exact ht h
  · next h => exact hu h
theorem dite {c : Prop} [Decidable c] {t : c → State} {u : ¬ c → State} (ht : ∀ h, Keeps P s (t h))
    (hu : ∀ h, Keeps P s (u h)) : Keeps P s (if h : c then t h else u h) := by
  split
  · exact ht _
  · exact hu _
theorem when {c : Bool} {f : State → State} (hf : ∀ u, Keeps P u (f u)) (h : Keeps P s t) : Keeps P s (t.when c f) :=
  fun hs => State.when_keeps c hf t (h hs)
theorem each {α : Type} {l : List α} {f : α → State → State} (hf : ∀ a ∈ l, ∀ u, Keeps P u (f a u)) (h : Keeps P s t) :
    Keeps P s (t.each l f) := fun hs => State.each_keeps l hf t (h hs)
end State.Keeps

/-- What each update of a list sets and no other undoes holds of every item afterwards. -/
theorem State.each_reaches {α : Type} {P : α → State → Prop} {f : α → State → State} (hset : ∀ a s, P a (f a s))
    (hkeep : ∀ a b s, P a s → P a (f b s)) (l : List α) (s : State) {a : α} (ha : a ∈ l) : P a (s.each l f) := by
  induction l generalizing s with
  | nil => cases ha
  | cons b l ih =>
    rcases List.mem_cons.1 ha with rfl | ha
    · exact State.each_keeps l (fun b _ t => hkeep a b t) _ (hset a s)
    · exact ih _ ha

end Sys2Proof.Machine
end

section
/-! PROOFS. What an operation leaves of a drive and what a fault does to it. -/
namespace Sys2Proof.Machine
open Sys2Proof
set_option Elab.async false

/-! ### Drives whose state changes (Table 0.8) -/

/-- What a change of a drive's state leaves of the drive: all but its state, the step of its arming and the time of its first
STANDBY. -/
def DriveSt.core (x : DriveSt) : DriveSt := { x with state := .unavailable, substate := 0, arming := .none, readyTime := 0 }

/-- That of a drive stays. -/
def DriveCore (w : Drive) (y : DriveSt) (s t : State) : Prop := State.Keeps (fun u => (u.drv w).core = y) s t
theorem drivePart {w : Drive} {y : DriveSt} : State.Reads .drives fun u => (u.drv w).core = y := fun _ _ h hs =>
  (congrArg (fun v => (v.get w.idx).core) h).trans hs

/-- The state of a drive stays. -/
def DsStays (w : Drive) (v : DriveState) (s t : State) : Prop := State.Keeps (fun u => u.ds w = v) s t
theorem dsPart {w : Drive} {v : DriveState} : State.Reads .drives fun u => u.ds w = v := fun _ _ h hs =>
  (congrArg (fun v => (v.get w.idx).state) h).trans hs

section
variable {w : Drive} {y : DriveSt} {v : DriveState}

theorem DriveCore.modDrv {d : Drive} {s : State} {f : DriveSt → DriveSt}
    (hf : ∀ x : DriveSt, (f x).core = x.core := by exact fun _ => rfl) : DriveCore w y s (s.modDrv d f) := by
  intro hs
  show ((s.modDrv d f).drv w).core = y
  rw [State.drv_modDrv]
  split
  · next h => rw [hf, ← h]; exact hs
  · exact hs
theorem DriveCore.startArming {s : State} {d : Drive} {for_ : ArmFor} : DriveCore w y s (s.startArming d for_) := by
  unfold State.startArming
  exact .each (fun _ _ _ => (.past drivePart .modCell .refl)) (.step DriveCore.modDrv .refl)
theorem DriveCore.autoArm {s : State} {d : Drive} : DriveCore w y s (s.autoArm d) := by
  unfold State.autoArm
  exact .ite (.step DriveCore.startArming .refl) .refl
theorem DriveCore.dischargeStop {s : State} {st : Nat} : DriveCore w y s (s.dischargeStop st) := by
  unfold State.dischargeStop
  exact .ite .refl (.ite (.past drivePart .setDuty (.ite (.past drivePart .modDcl (.past drivePart .setBit (.past
    drivePart .setN (.ite (.step DriveCore.modDrv .refl) .refl)))) (.past drivePart .offCell (.past drivePart .modDcl
    (.past drivePart .setBit (.past drivePart .setN (.ite (.step DriveCore.modDrv .refl) .refl))))))) (.past drivePart
    .setDuty (.past drivePart .modDcl (.past drivePart .setBit (.past drivePart .setN (.ite (.step DriveCore.modDrv
    .refl) .refl))))))
theorem DriveCore.haltSequences {s : State} {d : Drive} : DriveCore w y s (s.haltSequences d) := by
  unfold State.haltSequences
  exact by split; exacts [(.past drivePart .haltRecovery .refl), (.step DriveCore.dischargeStop .refl), .refl]
theorem DriveCore.goto {s : State} {d : Drive} {new : DriveState} {trig : Nat} : DriveCore w y s (s.goto d new trig)
    := by
  unfold State.goto
  exact .ite .refl (.ite (.step DriveCore.autoArm (.when (fun _ => (.past drivePart .seqResume .refl)) (.when (fun _
    => (.past drivePart .startUnits .refl)) (.when (fun _ => (.each (fun _ _ _ => (.past drivePart .offCell .refl))
    .refl)) (.when (fun _ => (.each (fun _ _ _ => (.past drivePart .saveLegs .refl)) .refl)) (.when (fun _ => (.past
    drivePart .clearTorque .refl)) (.past drivePart .lastEvent (.past drivePart .event (.when (fun _ => (.past
    drivePart .abortIdent .refl)) (.when (fun _ => (.past drivePart .stopUnits .refl)) (.when (fun _ => (.step
    DriveCore.haltSequences .refl)) (.when (fun _ => (.past drivePart .leaveShift .refl)) (.when (fun _ => (.past
    drivePart .leaveActive .refl)) (.when (fun _ => (.each (fun _ _ _ => (.past drivePart .modCell .refl)) .refl))
    (.step DriveCore.modDrv .refl))))))))))))))) (.when (fun _ => (.past drivePart .seqResume .refl)) (.when (fun _ =>
    (.past drivePart .startUnits .refl)) (.when (fun _ => (.each (fun _ _ _ => (.past drivePart .offCell .refl))
    .refl)) (.when (fun _ => (.each (fun _ _ _ => (.past drivePart .saveLegs .refl)) .refl)) (.when (fun _ => (.past
    drivePart .clearTorque .refl)) (.past drivePart .lastEvent (.past drivePart .event (.when (fun _ => (.past
    drivePart .abortIdent .refl)) (.when (fun _ => (.past drivePart .stopUnits .refl)) (.when (fun _ => (.step
    DriveCore.haltSequences .refl)) (.when (fun _ => (.past drivePart .leaveShift .refl)) (.when (fun _ => (.past
    drivePart .leaveActive .refl)) (.when (fun _ => (.each (fun _ _ _ => (.past drivePart .modCell .refl)) .refl))
    (.step DriveCore.modDrv .refl)))))))))))))))
theorem DriveCore.faultState {s : State} {d : Drive} {code : Nat} : DriveCore w y s (s.faultState d code) := by
  unfold State.faultState
  exact .past drivePart .lastEvent (.ite .refl (.step DriveCore.goto .refl))
theorem DriveCore.faultDrive {s : State} {d : Drive} {code : Nat} : DriveCore w y s (s.faultDrive d code) := by
  unfold State.faultDrive
  exact .ite (.past drivePart .lastEvent .refl) (.step DriveCore.faultState (.past drivePart .protectDrive .refl))

theorem DsStays.modDrv {d : Drive} {s : State} {f : DriveSt → DriveSt}
    (hf : ∀ x : DriveSt, (f x).state = x.state := by exact fun _ => rfl) : DsStays w v s (s.modDrv d f) := by
  intro hs
  show ((s.modDrv d f).drv w).state = v
  rw [State.drv_modDrv]
  split
  · next h => rw [hf, ← h]; exact hs
  · exact hs
theorem DsStays.startArming {s : State} {d : Drive} {for_ : ArmFor} : DsStays w v s (s.startArming d for_) := by
  unfold State.startArming
  exact .each (fun _ _ _ => (.past dsPart .modCell .refl)) (.step DsStays.modDrv .refl)
theorem DsStays.autoArm {s : State} {d : Drive} : DsStays w v s (s.autoArm d) := by
  unfold State.autoArm
  exact .ite (.step DsStays.startArming .refl) .refl
theorem DsStays.dischargeStop {s : State} {st : Nat} : DsStays w v s (s.dischargeStop st) := by
  unfold State.dischargeStop
  exact .ite .refl (.ite (.past dsPart .setDuty (.ite (.past dsPart .modDcl (.past dsPart .setBit (.past dsPart .setN
    (.ite (.step DsStays.modDrv .refl) .refl)))) (.past dsPart .offCell (.past dsPart .modDcl (.past dsPart .setBit
    (.past dsPart .setN (.ite (.step DsStays.modDrv .refl) .refl))))))) (.past dsPart .setDuty (.past dsPart .modDcl
    (.past dsPart .setBit (.past dsPart .setN (.ite (.step DsStays.modDrv .refl) .refl))))))
theorem DsStays.haltSequences {s : State} {d : Drive} : DsStays w v s (s.haltSequences d) := by
  unfold State.haltSequences
  exact by split; exacts [(.past dsPart .haltRecovery .refl), (.step DsStays.dischargeStop .refl), .refl]
end

/-- What follows a drive's change of state leaves the states of the drives. -/
theorem State.ds_goto_keeps (s : State) (d : Drive) (new : DriveState) (trig : Nat) (w : Drive) (v : DriveState)
    (h : s.ds d ≠ new) (hv : w = d → v = new) (hw : w ≠ d → s.ds w = v) : (s.goto d new trig).ds w = v := by
  unfold State.goto
  rw [if_neg h]
  have hfirst (f : DriveSt → DriveSt) (hf : ∀ x, (f x).state = new) : (s.modDrv d f).ds w = v := by
    rw [State.ds, State.drv_modDrv]
    split
    · next e => rw [hf, hv e]
    · next e => exact hw e
  dsimp only
  generalize hs0 : s.modDrv d _ = s0
  have h0 : s0.ds w = v := hs0 ▸ hfirst _ fun _ => rfl
  refine (fun h : State.Keeps (fun u => u.ds w = v) s0 _ => State.Keeps.ite (.step DsStays.autoArm h) h h0) ?_
  exact .when (fun _ => (.past dsPart .seqResume .refl)) (.when (fun _ => (.past dsPart .startUnits .refl)) (.when
    (fun _ => (.each (fun _ _ _ => (.past dsPart .offCell .refl)) .refl)) (.when (fun _ => (.each (fun _ _ _ => (.past
    dsPart .saveLegs .refl)) .refl)) (.when (fun _ => (.past dsPart .clearTorque .refl)) (.past dsPart .lastEvent
    (.past dsPart .event (.when (fun _ => (.past dsPart .abortIdent .refl)) (.when (fun _ => (.past dsPart .stopUnits
    .refl)) (.when (fun _ => (.step DsStays.haltSequences .refl)) (.when (fun _ => (.past dsPart .leaveShift .refl))
    (.when (fun _ => (.past dsPart .leaveActive .refl)) (.when (fun _ => (.each (fun _ _ _ => (.past dsPart .modCell
    .refl)) .refl)) .refl))))))))))))

theorem State.ds_goto (s : State) (d : Drive) (new : DriveState) (trig : Nat) : (s.goto d new trig).ds d = new := by
  by_cases h : s.ds d = new
  · rw [State.goto_of_eq s d new trig h, h]
  · exact s.ds_goto_keeps d new trig d new h (fun _ => rfl) fun hne => absurd rfl hne

theorem State.ds_goto_ne (s : State) (d : Drive) (new : DriveState) (trig : Nat) {w : Drive} (hw : w ≠ d) :
    (s.goto d new trig).ds w = s.ds w := by
  by_cases h : s.ds d = new
  · rw [State.goto_of_eq s d new trig h]
  · exact s.ds_goto_keeps d new trig w _ h (fun e => absurd e hw) fun _ => rfl

@[simp] theorem State.ds_lastEvent (s : State) (d : Drive) (code : Nat) (w : Drive) : (s.lastEvent d code).ds w = s.ds w := rfl

theorem State.ds_faultState (s : State) (d : Drive) (code : Nat) :
    (s.faultState d code).ds d = if s.ds d = .inhibit then .inhibit else .fault := by
  unfold State.faultState
  dsimp only
  rw [State.ds_lastEvent]
  by_cases hi : s.ds d = .inhibit
  · rw [if_pos (Or.inl hi), if_pos hi, hi]
  · rw [if_neg hi]
    split
    · next h => exact h.resolve_left hi
    · exact s.ds_goto d .fault 0xFF

theorem State.ds_faultState_ne (s : State) (d : Drive) (code : Nat) {w : Drive} (hw : w ≠ d) :
    (s.faultState d code).ds w = s.ds w := by
  unfold State.faultState
  dsimp only
  rw [State.ds_lastEvent]
  split
  · rfl
  · exact s.ds_goto_ne d .fault 0xFF hw

/-- A faulted drive is in FAULT, unless it stands in INHIBIT. -/
theorem State.ds_faultDrive (s : State) (d : Drive) (code : Nat) :
    (s.faultDrive d code).ds d = if s.ds d = .inhibit then .inhibit else .fault := by
  unfold State.faultDrive
  split
  · next h =>
    rw [State.ds_lastEvent]
    rcases h with h | h <;> simp [h]
  · rw [State.ds_faultState, (State.Leaves.protectDrive (s := s)).ds d]

/-- The rest of every drive stays. -/
theorem State.core_faultDrive (s : State) (d : Drive) (code : Nat) (w : Drive) :
    ((s.faultDrive d code).drv w).core = (s.drv w).core := DriveCore.faultDrive rfl
theorem State.core_goto (s : State) (d : Drive) (new : DriveState) (trig : Nat) (w : Drive) :
    ((s.goto d new trig).drv w).core = (s.drv w).core := DriveCore.goto rfl

end Sys2Proof.Machine
end

section
/-! PROOFS. The isolation links: frames, lanes, losses, training and apply times (O1). -/
namespace Sys2Proof.Machine
open Sys2Proof
set_option Elab.async false

/-! ### Link frames (R19 to R22) -/

@[simp] theorem LinkSt.dir_setDir (x : LinkSt) (toC : Bool) (d : LinkDir) : (x.setDir toC d).dir toC = d := by
  cases toC <;> rfl
@[simp] theorem LinkDir.keep_expected (d : LinkDir) (f : BitVec 96) : (d.keep f).expected = d.expected := by
  unfold LinkDir.keep; split <;> rfl
@[simp] theorem LinkDir.keep_heldBack (d : LinkDir) (f : BitVec 96) : (d.keep f).heldBack = d.heldBack := by
  unfold LinkDir.keep; split <;> rfl
@[simp] theorem State.link_modLink_same (s : State) (l : Link) (f : LinkSt → LinkSt) : (s.modLink l f).link l = f (s.link l) := by
  rw [State.link_modLink, if_pos rfl]
@[simp] theorem State.link_elapse (s : State) (dt : Nat) (l : Link) : (s.elapse dt).link l = s.link l := rfl
@[simp] theorem State.link_emit (s : State) (o : Output) (l : Link) : (s.emit o).link l = s.link l := rfl
@[simp] theorem State.link_count (s : State) (c : Counter) (l : Link) : (s.count c).link l = s.link l :=
  State.Leaves.count.link l
@[simp] theorem State.count_out (s : State) (c : Counter) : (s.count c).out = s.out := State.Leaves.count.part .out
@[simp] theorem State.link_draw (s : State) (l : Link) : s.draw.link l = s.link l := rfl
@[simp] theorem State.link_event (s : State) (c o d : Nat) (l : Link) : (s.event c o d).link l = s.link l := rfl

theorem State.out_each_emit {α : Type} (o : α → Output) (fs : List α) (s : State) :
    (s.each fs fun g s => s.emit (o g)).out = s.out ++ fs.map o := by
  induction fs generalizing s with
  | nil => simp
  | cons g fs ih => rw [State.each_cons, ih]; simp

theorem State.link_each_emit {α : Type} (o : α → Output) (fs : List α) (s : State) (l : Link) :
    (s.each fs fun g s => s.emit (o g)).link l = s.link l := State.each_same (fun t => t.link l) fs (fun g t => t.link_emit (o g) l) s

/-- A frame on a trained link is taken with its sender's last frames. -/
theorem State.linkFrame_of_trained (s : State) (l : Link) (toC : Bool) (sent f : BitVec 96) (h : (s.link l).trained = true) :
    s.linkFrame l toC sent f =
      if !linkCrcOk f then (s.modLink l fun x => x.setDir toC ((x.dir toC).keep sent)).linkReplayRequest l toC
      else (s.modLink l fun x => x.setDir toC ((x.dir toC).keep sent)).linkGood l toC f := by
  rw [State.linkFrame, h]
  rfl

/-- The frame expected is delivered, and what follows it in sequence. -/
theorem State.linkGood_expected (s : State) (l : Link) (toC : Bool) (f : BitVec 96)
    (h : frameSeq f = ((s.link l).dir toC).expected) :
    (s.linkGood l toC f).out = s.out ++ (f :: inSequence ((frameSeq f + 1) % 16) ((s.link l).dir toC).heldBack).map
        (fun g => Output.linkPayload l toC (framePayload g)) ∧
      (((s.linkGood l toC f).link l).dir toC).heldBack = ((s.link l).dir toC).heldBack.drop
        (inSequence ((frameSeq f + 1) % 16) ((s.link l).dir toC).heldBack).length := by
  unfold State.linkGood
  simp only [h, ne_eq, not_true_eq_false, if_false]
  rw [State.out_each_emit, State.link_each_emit]
  simp

/-- Any other frame waits behind the failed one. -/
theorem State.linkGood_ahead (s : State) (l : Link) (toC : Bool) (f : BitVec 96)
    (h : frameSeq f ≠ ((s.link l).dir toC).expected) :
    s.linkGood l toC f = s.modLink l fun x =>
      x.setDir toC { (s.link l).dir toC with heldBack := ((s.link l).dir toC).heldBack ++ [f] } := if_pos h

/-- A lane that is up fails, and the event names it. -/
theorem State.linkLane_of_up (s : State) (l : Link) (toC lane1 : Bool)
    (h : (if lane1 then ((s.link l).dir toC).lane1 else ((s.link l).dir toC).lane0) = true) :
    s.linkLane l toC lane1 = (s.modLink l fun x => x.setDir toC
        (if lane1 then { (s.link l).dir toC with lane1 := false } else { (s.link l).dir toC with lane0 := false })).event
      0x0120 0xFF (l.num + (if lane1 then 256 else 0) + if toC then 65536 else 0) := by
  unfold State.linkLane
  dsimp only
  rw [h]
  rfl

/-! ### Link loss (R23, R24) -/

/-- A link that is down and has nothing pending takes no command: it stays as it is. -/
def LinkStays (l : Link) (x : LinkSt) (s t : State) : Prop := State.Keeps (fun u => u.link l = x) s t

theorem linkPart {l : Link} {x : LinkSt} : State.Reads .links fun u => u.link l = x := fun _ _ h hs =>
  (congrArg (·.get l.idx) h).trans hs

theorem LinkStays.modLink {l : Link} {x : LinkSt} {s : State} {m : Link} {f : LinkSt → LinkSt} (hf : f x = x) : LinkStays l x s (s.modLink m f) := by
  intro hs
  show (s.modLink m f).link l = x
  rw [State.link_modLink]
  split
  · next h => rw [← h, hs, hf]
  · exact hs

section
variable {l : Link} {x : LinkSt} (hdown : x.trained = false ∧ x.pending = [])
include hdown

theorem LinkStays.sendPhase {s : State} {a b : Cell} {q : Rat} : LinkStays l x s (s.sendPhase a b q) := by
  unfold State.sendPhase
  refine .each (fun _ _ _ => LinkStays.modLink ?_) .refl
  obtain ⟨htrained, hpending⟩ := hdown
  cases x
  simp_all [LinkSt.send]
theorem LinkStays.dropCmds {s : State} {cs : List Cell} : LinkStays l x s (s.dropCmds cs) := by
  unfold State.dropCmds
  refine .each (fun _ _ _ => LinkStays.modLink ?_) .refl
  obtain ⟨htrained, hpending⟩ := hdown
  cases x
  simp_all
theorem LinkStays.deliver {s : State} {dest : Nat} {u : Rat} : LinkStays l x s (s.deliver dest u) := by
  unfold State.deliver
  dsimp only
  split
  · exact .past linkPart .sideTr .refl
  · exact .past linkPart .sideTr .refl
  · exact .dite (fun hi => .past linkPart .setQ .refl) fun _ => .refl
  · exact .past linkPart .setSolenoidDuty .refl
  · exact .ite (.step (LinkStays.sendPhase hdown) .refl) (.ite (.step (LinkStays.sendPhase hdown) .refl) (.ite (.past linkPart
    .setDuty (.dite (fun _ => .past linkPart .with_stageIn .refl) fun _ => .refl)) (.dite (fun _ => .past linkPart
    .with_stageIn .refl) fun _ => .refl)))
  · exact .iteOf (fun hi => .past linkPart .setQ .refl) fun _ => .refl
  · exact .past linkPart .with_lvCommand .refl
  · exact .refl
theorem LinkStays.ignoreUnit {s : State} {n : Fin 24} : LinkStays l x s (s.ignoreUnit n) := by
  unfold State.ignoreUnit
  exact .ite .refl (.step (LinkStays.deliver hdown) .refl)
theorem LinkStays.stopUnit {s : State} {n : Fin 24} : LinkStays l x s (s.stopUnit n) := by
  have hcommit (c : Option CommitSt) : LinkStays l x s (match c with | none => s | some c => s.commitAtOnce n c) := by
    cases c with
    | none => exact .refl
    | some c => exact .past linkPart .commitAtOnce .refl
  unfold State.stopUnit
  refine .ite .refl ?_
  dsimp only
  split
  · exact .step (LinkStays.deliver hdown) (.past linkPart .modLu (.past linkPart .luFlush (.past linkPart .modLu (.step
    (hcommit _) .refl))))
  · exact .step (LinkStays.ignoreUnit hdown) (.past linkPart .luFlush (.past linkPart .modLu (.step (hcommit _) .refl)))
theorem LinkStays.luSettle {s : State} {n : Fin 24} : LinkStays l x s (s.luSettle n) := by
  unfold State.luSettle
  exact .ite (.past linkPart .startUnit .refl) (.step (LinkStays.stopUnit hdown) .refl)
theorem LinkStays.auxUnits {s : State} : LinkStays l x s (s.auxUnits) := by
  unfold State.auxUnits
  exact .when (fun _ => (.past linkPart .setBit .refl)) (.step (LinkStays.luSettle hdown) (.step (LinkStays.luSettle hdown) (.step
    (LinkStays.luSettle hdown) .refl)))
theorem LinkStays.setBatSw {s : State} {m : Nat} : LinkStays l x s (s.setBatSw m) := by
  unfold State.setBatSw
  exact .step (LinkStays.auxUnits hdown) (.past linkPart .setBit (.past linkPart .setN .refl))
theorem LinkStays.stopUnits {s : State} {d : Drive} : LinkStays l x s (s.stopUnits d) := by
  unfold State.stopUnits
  exact .each (fun _ _ _ => (.ite (.step (LinkStays.stopUnit hdown) .refl) .refl)) .refl
theorem LinkStays.chargerOff {s : State} : LinkStays l x s (s.chargerOff) := by
  unfold State.chargerOff
  exact .past linkPart .modChg (.past linkPart .setBit (.past linkPart .setBit (.past linkPart .setBit (.past linkPart
    .applyPhase (.past linkPart .applyPhase (.past linkPart .applyPhase (.step (LinkStays.dropCmds hdown) (.each (fun _ _ _ =>
    (.ite (.past linkPart .coastCell .refl) .refl)) .refl))))))))
theorem LinkStays.leaveCharge {s : State} : LinkStays l x s (s.leaveCharge) := by
  unfold State.leaveCharge
  exact .ite (.past linkPart .relaysOpen (.past linkPart .exportOff (.step (LinkStays.chargerOff hdown) .refl))) (.past
    linkPart .setHvState (.past linkPart .relaysOpen (.past linkPart .exportOff (.step (LinkStays.chargerOff hdown) .refl))))
theorem LinkStays.setAuxMode {s : State} {m : Nat} : LinkStays l x s (s.setAuxMode m) := by
  unfold State.setAuxMode
  exact .ite .refl (.step (LinkStays.auxUnits hdown) (.past linkPart .modAux (.past linkPart .setBit (.past linkPart
    .lastEvent (.past linkPart .event (.past linkPart .setN .refl))))))
theorem LinkStays.dabStop {s : State} : LinkStays l x s (s.dabStop) := by
  unfold State.dabStop
  exact .past linkPart .modAux (.past linkPart .applyPhase (.past linkPart .applyPhase (.past linkPart .setBit (.past
    linkPart .setBit (.step (LinkStays.dropCmds hdown) (.each (fun _ _ _ => (.ite (.past linkPart .coastCell .refl) .refl))
    .refl))))))
theorem LinkStays.handOver {s : State} : LinkStays l x s (s.handOver) := by
  unfold State.handOver
  exact .ite (.past linkPart .modPath (.past linkPart .setVrSource (.past linkPart .lvStop .refl))) (.past linkPart
    .modPath (.past linkPart .event (.past linkPart .count (.past linkPart .setVrSource (.step (LinkStays.setBatSw hdown)
    (.past linkPart .lvStop .refl))))))
theorem LinkStays.buckLost {s : State} : LinkStays l x s (s.buckLost) := by
  unfold State.buckLost
  exact by split; exacts [(.ite (.past linkPart .handBackWait (.step (LinkStays.handOver hdown) .refl)) (.step
    (LinkStays.handOver hdown) .refl)), (.past linkPart .handBackWait (.past linkPart .setVrSource .refl)), .refl]
theorem LinkStays.buckStop {s : State} : LinkStays l x s (s.buckStop) := by
  unfold State.buckStop
  exact .ite (.step (LinkStays.buckLost hdown) (.past linkPart .setBit (.past linkPart .setBit (.past linkPart .setBit (.past
    linkPart .setBit (.past linkPart .setBit (.ite (.past linkPart .coastCell .refl) .refl))))))) .refl
theorem LinkStays.leaveAux {s : State} : LinkStays l x s (s.leaveAux) := by
  unfold State.leaveAux
  exact .step (LinkStays.setAuxMode hdown) (.step (LinkStays.dabStop hdown) (.past linkPart .setBit (.step (LinkStays.buckStop hdown) (.past
    linkPart .towStop .refl))))
theorem LinkStays.leaveActive {s : State} {d : Drive} : LinkStays l x s (s.leaveActive d) := by
  unfold State.leaveActive
  exact by split; exacts [(.past linkPart .leaveTraction (.past linkPart .leaveShift .refl)), (.past linkPart
    .leaveTraction (.past linkPart .leaveShift .refl)), (.past linkPart .leaveGearbox .refl), (.step
    (LinkStays.leaveAux hdown) .refl), (.step (LinkStays.leaveCharge hdown) .refl), (.past linkPart .setDuty .refl)]
theorem LinkStays.goto {s : State} {d : Drive} {new : DriveState} {trig : Nat} : LinkStays l x s (s.goto d new trig)
    := by
  unfold State.goto
  exact .ite .refl (.ite (.past linkPart .autoArm (.when (fun _ => (.past linkPart .seqResume .refl)) (.when (fun _ =>
    (.past linkPart .startUnits .refl)) (.when (fun _ => (.each (fun _ _ _ => (.past linkPart .offCell .refl)) .refl))
    (.when (fun _ => (.each (fun _ _ _ => (.past linkPart .saveLegs .refl)) .refl)) (.when (fun _ => (.past linkPart
    .clearTorque .refl)) (.past linkPart .lastEvent (.past linkPart .event (.when (fun _ => (.past linkPart
    .abortIdent .refl)) (.when (fun _ => (.step (LinkStays.stopUnits hdown) .refl)) (.when (fun _ => (.past linkPart
    .haltSequences .refl)) (.when (fun _ => (.past linkPart .leaveShift .refl)) (.when (fun _ => (.step
    (LinkStays.leaveActive hdown) .refl)) (.when (fun _ => (.each (fun _ _ _ => (.past linkPart .modCell .refl)) .refl))
    (.past linkPart .modDrv .refl))))))))))))))) (.when (fun _ => (.past linkPart .seqResume .refl)) (.when (fun _ =>
    (.past linkPart .startUnits .refl)) (.when (fun _ => (.each (fun _ _ _ => (.past linkPart .offCell .refl)) .refl))
    (.when (fun _ => (.each (fun _ _ _ => (.past linkPart .saveLegs .refl)) .refl)) (.when (fun _ => (.past linkPart
    .clearTorque .refl)) (.past linkPart .lastEvent (.past linkPart .event (.when (fun _ => (.past linkPart
    .abortIdent .refl)) (.when (fun _ => (.step (LinkStays.stopUnits hdown) .refl)) (.when (fun _ => (.past linkPart
    .haltSequences .refl)) (.when (fun _ => (.past linkPart .leaveShift .refl)) (.when (fun _ => (.step
    (LinkStays.leaveActive hdown) .refl)) (.when (fun _ => (.each (fun _ _ _ => (.past linkPart .modCell .refl)) .refl))
    (.past linkPart .modDrv .refl)))))))))))))))
theorem LinkStays.faultState {s : State} {d : Drive} {code : Nat} : LinkStays l x s (s.faultState d code) := by
  unfold State.faultState
  exact .past linkPart .lastEvent (.ite .refl (.step (LinkStays.goto hdown) .refl))
theorem LinkStays.faultDrive {s : State} {d : Drive} {code : Nat} : LinkStays l x s (s.faultDrive d code) := by
  unfold State.faultDrive
  exact .ite (.past linkPart .lastEvent .refl) (.step (LinkStays.faultState hdown) (.past linkPart .protectDrive .refl))

end

/-! ### Cells held by their die (R23) -/

/-- Whether the die holds a cell. -/
def HeldStays (w : Cell) (b : Bool) (s t : State) : Prop := State.Keeps (fun u => (u.cell w).held = b) s t

theorem heldPart {w : Cell} {b : Bool} : State.Reads .cells fun u => (u.cell w).held = b := fun _ _ h hs =>
  (congrArg (fun v => (v.get w).held) h).trans hs

section
variable {w : Cell} {b : Bool}

theorem HeldStays.modCell {s : State} {c : Cell} {f : CellSt → CellSt}
    (hf : ∀ x : CellSt, (f x).held = x.held := by exact fun _ => rfl) : HeldStays w b s (s.modCell c f) := by
  intro hs
  show ((s.modCell c f).cell w).held = b
  rw [State.cell_modCell]
  split
  · next h => rw [hf, ← h]; exact hs
  · exact hs
theorem HeldStays.countAsc {s : State} {c : Cell} : HeldStays w b s (s.countAsc c) := by
  unfold State.countAsc
  exact .ite (.step HeldStays.modCell (.past heldPart .countBy .refl)) .refl
theorem HeldStays.coastCell {s : State} {c : Cell} : HeldStays w b s (s.coastCell c) := by
  unfold State.coastCell
  exact .ite .refl (.step HeldStays.modCell (.past heldPart .stopLegs (.step HeldStays.countAsc .refl)))
theorem HeldStays.coastActuator {s : State} {a : Fin 4} : HeldStays w b s (s.coastActuator a) := by
  unfold State.coastActuator
  exact .ite (.step HeldStays.coastCell (.past heldPart .with_gbx .refl)) (.past heldPart .with_gbx .refl)
theorem HeldStays.engageActuator {s : State} {a : Fin 4} : HeldStays w b s (s.engageActuator a) := by
  unfold State.engageActuator
  exact .ite .refl (.past heldPart .modAx (.past heldPart .setBit (.past heldPart .setField (.past heldPart .setBit
    (.past heldPart .setQ (.past heldPart .setQ (.past heldPart .setQ (.past heldPart .setQ (.past heldPart .setQ
    (.step HeldStays.modCell .refl))))))))))
theorem HeldStays.parkUncommanded {s : State} {t : Fin 2} : HeldStays w b s (s.parkUncommanded t) := by
  unfold State.parkUncommanded
  exact .ite (.ite (.step HeldStays.engageActuator (.past heldPart .setRef (.past heldPart .lastEvent (.past heldPart
    .event (.past heldPart .setSolenoidI (.past heldPart .startMove (.past heldPart .count (.past heldPart .setPark
    .refl)))))))) (.step HeldStays.coastActuator (.past heldPart .lastEvent (.past heldPart .event (.past heldPart
    .setSolenoidI (.past heldPart .startMove (.past heldPart .count (.past heldPart .setPark .refl)))))))) .refl
theorem HeldStays.solenoidOff {s : State} {i : Nat} : HeldStays w b s (s.solenoidOff i) := by
  unfold State.solenoidOff
  exact by dsimp only; split; exacts [(.step HeldStays.parkUncommanded (.past heldPart .setSolenoidDuty .refl)),
    (.past heldPart .setSolenoidDuty .refl)]
theorem HeldStays.solenoidsOff {s : State} : HeldStays w b s (s.solenoidsOff) := by
  unfold State.solenoidsOff
  exact .each (fun i hi _ => .step HeldStays.solenoidOff .refl) .refl
theorem HeldStays.enterAsc {s : State} {c : Cell} : HeldStays w b s (s.enterAsc c) := by
  unfold State.enterAsc
  exact .ite .refl (.past heldPart .event (.past heldPart .count (.past heldPart .setBit (.past heldPart .modAx (.step
    HeldStays.modCell (.past heldPart .setLegs .refl))))))
theorem HeldStays.protectCell {s : State} {c : Cell} : HeldStays w b s (s.protectCell c) := by
  unfold State.protectCell
  exact .ite .refl (.ite (.step HeldStays.enterAsc .refl) (.step HeldStays.coastCell .refl))
end

/-- The die holds every cell of its island. -/
theorem State.held_dieProtect (s : State) (l : Link) {c : Cell} (hc : c ∈ l.cells) : ((s.dieProtect l).cell c).held = true := by
  unfold State.dieProtect
  refine State.Keeps.when (P := fun u => (u.cell c).held = true) (fun u => HeldStays.solenoidsOff) .refl ?_
  refine State.each_reaches (P := fun c u => (u.cell c).held = true) (fun c u => ?_) (fun c e u hu => ?_) l.cells s hc
  · rw [State.cell_modCell_same]
  · rw [State.cell_modCell]
    split
    · rfl
    · exact HeldStays.protectCell hu

/-! ### The loss of a link, as island C sees it (R24) -/

theorem State.link_linkDown (s : State) (l : Link) (ds : List Drive) :
    ((s.linkDown l ds).link l).trained = false ∧ ((s.linkDown l ds).link l).lost = true ∧
      ((s.linkDown l ds).link l).pending = [] := by
  unfold State.linkDown
  dsimp only
  rw [State.Leaves.linkLossInterfaces.link l]
  simp only [State.link_draw, State.link_modLink_same, and_self]

/-- A lost link stays as it went down, whatever its drives do then. -/
theorem State.link_linkLost (s : State) (l : Link) :
    (s.linkLost l).link l = (s.linkDown l (l.drives.filter fun d => s.ds d != .inhibit)).link l := by
  obtain ⟨htrained, -, hpending⟩ := s.link_linkDown l (l.drives.filter fun d => s.ds d != .inhibit)
  unfold State.linkLost
  exact State.Keeps.each (fun d _ u => .past linkPart .modDrv (LinkStays.faultDrive ⟨htrained, hpending⟩))
    (.past linkPart .event .refl) rfl

/-- Every drive of the island but those in INHIBIT waits for its torque-off assertion. -/
theorem State.tqoLinkDue_linkLost (s : State) (l : Link) {d : Drive} (hd : d ∈ l.drives) (hi : s.ds d ≠ .inhibit) :
    ((s.linkLost l).drv d).tqoLinkDue = true := by
  unfold State.linkLost
  refine State.each_reaches (P := fun d u => (u.drv d).tqoLinkDue = true) (fun d u => ?_) (fun d e u hu => ?_) _ _
    (List.mem_filter.2 ⟨hd, by simpa using hi⟩)
  · rw [State.drv_modDrv_same]
  · rw [State.drv_modDrv]
    split
    · rfl
    · exact (congrArg DriveSt.tqoLinkDue (u.core_faultDrive e _ d)).trans hu

/-! ### Training and apply times (R25 to R27) -/

theorem State.link_linkTrained (s : State) (l : Link) (lat : Nat) :
    ((s.linkTrained l lat).link l).trained = true ∧ ((s.linkTrained l lat).link l).skewCal = true ∧
      ((s.linkTrained l lat).link l).training = false := by
  have hrest (u : State) : ((u.setN (Od.SYS_LINK_T_LAT_ns + l.num) (min lat 65535)).when (l == .l)
      fun s => s.islandInterfaces).link l = u.link l :=
    State.Keeps.when (P := fun v => v.link l = u.link l) (fun _ => .past linkPart .islandInterfaces .refl)
      (.past linkPart .setN .refl) rfl
  unfold State.linkTrained
  dsimp only
  rw [hrest]
  simp only [State.link_draw, State.link_modLink_same, and_self]

/-- A switch command that is due is applied to its cell. -/
theorem State.applyDue_switch (s : State) (l : Link) (a : Nat) (c : Cell) (hp : (s.link l).pending = [(a, .switch c)])
    (ha : a ≤ s.dieTb l) (hc : (s.cell c).mode = .coast ∧ (s.cell c).supHi = true) :
    s.applyDue l = (s.modLink l fun x => { x with pending := x.pending.filter fun p => !s.cmdDue l p }).modCell c
      fun x => { x with mode := .switching } := by
  have hdue : s.cmdDue l (a, .switch c) = true := by simp [State.cmdDue, LinkCmd.isPhase, ha]
  unfold State.applyDue
  simp only [hp, List.filter_cons, hdue, if_true, List.filter_nil, State.each_cons, State.each_nil]
  exact if_pos hc

/-- With nothing due nothing is applied. -/
theorem State.applyDue_none (s : State) (l : Link) (h : ∀ p ∈ (s.link l).pending, s.cmdDue l p = false) :
    s.applyDue l = s.modLink l fun x => { x with pending := x.pending.filter fun p => !s.cmdDue l p } := by
  have hnone : (s.link l).pending.filter (fun p => s.cmdDue l p) = [] := by
    simpa [List.filter_eq_nil_iff] using h
  unfold State.applyDue
  rw [hnone]
  rfl

/-- Settles O1, one clause per frame, lane, loss, training and apply time of a link. -/
theorem linkCommandsComplete : Obligations.LinkCommandsComplete := by
  refine ⟨?_, ?_, ?_, ?_, ?_, ?_, ?_, ?_, ?_⟩
  · intro s dt l toC sent f ht hok hseq
    refine ⟨(s.elapse dt).linkFrame l toC sent f, State.Leaves.linkFrame.completes, ?_⟩
    rw [State.linkFrame_of_trained (s.elapse dt) _ _ _ _ ht, hok]
    have := ((s.elapse dt).modLink l fun x => x.setDir toC ((x.dir toC).keep sent)).linkGood_expected l toC f (by simpa using hseq)
    simpa using this
  · intro s dt l toC sent f ht hok hseq
    refine ⟨(s.elapse dt).linkFrame l toC sent f, State.Leaves.linkFrame.completes, ?_⟩
    rw [State.linkFrame_of_trained (s.elapse dt) _ _ _ _ ht, hok]
    rw [Bool.not_true, if_neg (by decide), State.linkGood_ahead _ _ _ _ (by simpa using hseq)]
    simp
  · intro s dt l toC sent f ht hok
    refine ⟨(s.elapse dt).linkFrame l toC sent f, State.Leaves.linkFrame.completes, ?_⟩
    rw [State.linkFrame_of_trained (s.elapse dt) _ _ _ _ ht, hok]
    simp [State.linkReplayRequest]
  · intro s dt l toC lane1 hlane hroom
    refine ⟨(s.elapse dt).linkLane l toC lane1, State.Leaves.linkLane.completes, ?_⟩
    rw [State.linkLane_of_up (s.elapse dt) l toC lane1 hlane]
    refine ⟨?_, ?_, State.logged_event _ _ _ _ hroom⟩
    · cases lane1 <;> simp
    · cases lane1 <;> simp
  · intro s dt l hlive hdie
    refine ⟨(s.elapse dt).dieLosesLink l, ?_, ?_, fun c hc => ?_⟩
    · have hc : ((s.elapse dt).linkLive && !((s.elapse dt).link l).dieLost) = true := by
        rw [State.link_elapse, hdie, Bool.not_false, Bool.and_true]; exact hlive
      show reply s (if _ then _ else _) = _
      rw [if_pos hc]
      exact State.Leaves.dieLosesLink.completes
    · rw [State.dieLosesLink, State.link_modLink_same]
    · exact (s.elapse dt).held_dieProtect l hc
  · intro s dt l hlive ht
    obtain ⟨htrained, hlost, hpending⟩ := (s.elapse dt).link_linkDown l (l.drives.filter fun d => (s.elapse dt).ds d != .inhibit)
    refine ⟨(s.elapse dt).linkLost l, ?_, ?_, ?_, ?_, fun d hd hi => (s.elapse dt).tqoLinkDue_linkLost l hd hi⟩
    · have hc : ((s.elapse dt).linkLive && ((s.elapse dt).link l).trained) = true := by
        rw [State.link_elapse, ht, Bool.and_true]; exact hlive
      show reply s (if _ then _ else _) = _
      rw [if_pos hc]
      exact State.Leaves.linkLost.completes
    · rw [State.link_linkLost]; exact htrained
    · rw [State.link_linkLost]; exact hlost
    · rw [State.link_linkLost]; exact hpending
  · intro s dt l lat hlive ht
    refine ⟨(s.elapse dt).linkTrained l lat, ?_, (s.elapse dt).link_linkTrained l lat⟩
    have hc : ((s.elapse dt).linkLive && !((s.elapse dt).link l).trained) = true := by
      rw [State.link_elapse, ht, Bool.not_false, Bool.and_true]; exact hlive
    show reply s (if _ then _ else _) = _
    rw [if_pos hc]
    exact State.Leaves.linkTrained.completes
  · intro s dt l a c hp ha hc
    refine ⟨(s.elapse dt).applyDue l, State.Leaves.applyDue.completes, ?_⟩
    rw [(s.elapse dt).applyDue_switch l a c hp ha hc]
    refine ⟨?_, fun c' hne => ?_, ?_⟩
    · rw [State.cell_modCell_same]
    · rw [State.cell_modCell, if_neg hne]; rfl
    · have hdue : (s.elapse dt).cmdDue l (a, .switch c) = true := by simp [State.cmdDue, LinkCmd.isPhase, ha]
      show (((s.elapse dt).modLink l _).link l).pending = []
      rw [State.link_modLink_same]
      simp [hp, hdue]
  · intro s dt l h
    have hnone : ∀ p ∈ (s.link l).pending, (s.elapse dt).cmdDue l p = false := fun p hp => by
      rcases h p hp with hlt | hphase
      · simp [State.cmdDue, Nat.not_le.2 hlt]
      · simp [State.cmdDue, hphase]
    refine ⟨(s.elapse dt).applyDue l, State.Leaves.applyDue.completes, ?_⟩
    rw [(s.elapse dt).applyDue_none l hnone]
    refine ⟨?_, rfl⟩
    rw [State.link_modLink_same]
    exact List.filter_eq_self.2 fun p hp => by rw [hnone p hp]; rfl

end Sys2Proof.Machine
end

section
/-! PROOFS. Memory errors, the scrubber and the clock monitors (O2). -/
namespace Sys2Proof.Machine
open Sys2Proof
set_option Elab.async false

/-! ### Memories and clocks (R32 to R39) -/

theorem Memory.read_writeAll_zeros (n : Nat) (m : List Host.Cell) (a b : Nat) (h : a ≤ b ∧ b < a + n) :
    Memory.read (Memory.writeAll m a (List.replicate n 0)) b = 0 := by
  induction n generalizing m a with
  | zero => omega
  | succ n ih =>
    rw [List.replicate_succ, Memory.writeAll]
    by_cases hb : b = a
    · rw [Memory.read_writeAll_ne _ _ _ _ (Or.inl (by omega)), Memory.read_write, if_pos hb]
    · exact ih _ _ (by omega)

@[simp] theorem State.count_cust (s : State) (c : Counter) : (s.count c).cust = s.cust := State.Leaves.count.part .cust
@[simp] theorem State.count_clocks (s : State) (c : Counter) : (s.count c).clocks = s.clocks := State.Leaves.count.part .clocks
theorem State.logRoom_count (s : State) (c : Counter) : (s.count c).logRoom = s.logRoom :=
  congrArg (fun l : LogSt => decide (l.buffer.length < 32)) (State.Leaves.count.part .log)

/-- A discarded unit of the customer area reads zeros, and no octet outside it moves. -/
theorem State.cust_discardUnit (s : State) (u : Nat) : (s.discardUnit u).cust =
    if 256 ≤ u ∧ u < 768 then Memory.writeAll s.cust (16 * (u - 256)) (List.replicate 16 0) else s.cust := by
  unfold State.discardUnit
  dsimp only
  rw [State.event_cust, State.count_cust]
  split
  · next h => rw [if_neg (by omega)]; rfl
  · split
    · next h h' => rw [if_pos (by omega)]
    · next h h' =>
      rw [if_neg (by omega)]
      split <;> rfl

/-- A window in tolerance ends the fault of its monitor and shows the domain's clock. -/
theorem State.clockGood_spec (s : State) (m : ClockMonitor)
    (h : ∀ i ∈ s.clocks.faults, i = monitorId m ∨ faultBit i ≠ monitorBit m) :
    (s.clockGood m).bit Od.SYS_CLK_STATUS (monitorBit m) = true ∧ monitorId m ∉ (s.clockGood m).clocks.faults := by
  have hclear : (s.clocks.faults.filter fun i => i != monitorId m).any (fun i => faultBit i == monitorBit m) = false := by
    simp only [List.any_eq_false, List.mem_filter]
    rintro i ⟨hi, hne⟩
    have := h i hi
    simp_all
  have hruns (x : ClockSt) (now : Nat) : (x.runTimebase now).faults = x.faults := by
    unfold ClockSt.runTimebase; split <;> rfl
  unfold State.clockGood
  dsimp only
  rw [if_neg (by rw [State.clockFaulty, hclear]; exact Bool.false_ne_true)]
  refine ⟨State.bit_setBit_same _ _ _ _, ?_⟩
  have hfaults (P : List Nat → Prop) (hp : P (s.clocks.faults.filter fun i => i != monitorId m)) (a b : Bool) (x : ClockSt)
      (hx : x.faults = s.clocks.faults.filter fun i => i != monitorId m) :
      P ((({ s with clocks := x }.when a fun s => { s with clocks := { s.clocks with canOkTb := some s.tb } }).when b
        fun s => { s with clocks := s.clocks.runTimebase s.tb }).clocks.faults) := by
    cases a <;> cases b <;> simp [hruns, hx, hp]
  exact hfaults (monitorId m ∉ ·) (by simp) _ _ _ rfl

/-- The second window in a row out of tolerance is the fault of the always-on clock, which is latched and logged. -/
theorem State.clockBad_aon (s : State) (hz n : Nat) (hruns : s.clocks.outRuns.find? (fun e => e.1 == 13) = some (13, n))
    (hn : 1 ≤ n) (hfaulty : s.clockFaulty 13 = false) : ∃ x : ClockSt,
      s.clockBad (.domain 13) hz = ((({ s with clocks := x }).setBit Od.SYS_CLK_STATUS 13 false).setBit
        Od.SYS_CLK_FAULT_LATCH 13 true).event 0x0138 0xFF (13 + 256 * (hz / 1000)) := by
  have hn2 : ¬ ((s.clocks.outRuns.find? fun e => e.1 == monitorId (.domain 13)).map fun e => e.2).getD 0 + 1 < 2 := by
    show ¬ ((s.clocks.outRuns.find? fun e => e.1 == 13).map fun e => e.2).getD 0 + 1 < 2
    rw [hruns]
    show ¬ n + 1 < 2
    omega
  unfold State.clockBad
  dsimp only
  rw [if_neg hn2, if_neg (by show ¬ s.clockFaulty 13 = true; simp [hfaulty])]
  exact ⟨_, rfl⟩

theorem State.bit_event (s : State) (code : Nat) (d : Nat) (x : Nat) (k i : Nat) : (s.event code d x).bit k i = s.bit k i := rfl

/-- A window of the always-on clock out of tolerance. -/
theorem State.clockWindow_aon (s : State) (hz : Nat) (h : inWindow (.domain 13) hz = false) :
    s.clockWindow (.domain 13) hz = (s.setN Od.SYS_FREQ_AON hz).clockBad (.domain 13) hz := by
  unfold State.clockWindow
  dsimp only
  rw [h]
  rfl

/-- Settles O2, one clause per memory, scrubber and monitor. -/
theorem memoryAndClockCommandsComplete : Obligations.MemoryAndClockCommandsComplete := by
  refine ⟨?_, ?_, ?_, ?_, ?_, ?_, ?_, ?_, ?_⟩
  · intro s dt r hroom
    refine ⟨(s.elapse dt).eccError (.backup r), State.Leaves.eccError.completes, ?_, ?_⟩
    · show (((s.elapse dt).count ctrEccUncorrected).setN (Od.BKP_REG r.val) 0).nat (Od.BKP_REG r.val) = 0
      rw [State.nat_setN, if_pos rfl]
    · exact State.logged_event _ _ _ _ ((State.logRoom_count (s.elapse dt) ctrEccUncorrected).trans hroom)
  · intro s dt hroom
    refine ⟨(s.elapse dt).eccError .capture, State.Leaves.eccError.completes, ?_, ?_⟩
    · show (((s.elapse dt).count ctrEccUncorrected).setN Od.CAP_CAP_STATE 5).nat Od.CAP_CAP_STATE = 5
      rw [State.nat_setN, if_pos rfl]
    · exact State.logged_event _ _ _ _ ((State.logRoom_count (s.elapse dt) ctrEccUncorrected).trans hroom)
  · intro s dt u a hu ha
    refine ⟨(s.elapse dt).eccError (.retained u), State.Leaves.eccError.completes, ?_⟩
    show Memory.read (((s.elapse dt).count ctrEccUncorrected).discardUnit u.val).cust a = 0
    rw [State.cust_discardUnit, if_pos hu]
    exact Memory.read_writeAll_zeros _ _ _ _ ha
  · intro s dt u a ha
    refine ⟨(s.elapse dt).eccError (.retained u), State.Leaves.eccError.completes, ?_⟩
    show Memory.read (((s.elapse dt).count ctrEccUncorrected).discardUnit u.val).cust a = _
    rw [State.cust_discardUnit]
    split
    · rw [Memory.read_writeAll_ne _ _ _ _ (by simpa using ha), State.count_cust]; rfl
    · rw [State.count_cust]; rfl
  · intro s dt _
    exact ⟨(s.elapse dt).count ctrEccCorrected, State.Leaves.count.completes,
      State.nat_count_min (s.elapse dt) ctrEccCorrected (by decide) (by decide)⟩
  · intro s dt t0 hstep htb hdue
    refine ⟨(s.elapse dt).scrub, State.Leaves.scrub.completes, ?_⟩
    have hd : (s.elapse dt).scrubDue = true := by
      show decide (1 ≤ s.bringup.step ∧ s.clocks.scrubTb.getD s.bringup.releaseTb + _ ≤ s.tb + dt) = true
      rw [htb]
      exact decide_eq_true ⟨hstep, hdue⟩
    rw [State.scrub, if_pos hd]
    rfl
  · intro s dt m hz hstep hwin hfaults
    refine ⟨(s.elapse dt).clockWindow m hz, ?_, ?_⟩
    · show reply s (if 3 ≤ s.bringup.step then _ else _) = _
      rw [if_pos hstep]
      exact State.Leaves.clockWindow.completes
    · unfold State.clockWindow
      dsimp only
      rw [if_pos hwin]
      refine State.clockGood_spec _ _ ?_
      split <;> exact hfaults
  · intro s dt hz n hstep hwin hruns hn hroom
    refine ⟨(s.elapse dt).clockWindow (.domain 13) hz, ?_, ?_⟩
    · show reply s (if 3 ≤ s.bringup.step then _ else _) = _
      rw [if_pos hstep]
      exact State.Leaves.clockWindow.completes
    · have hfaulty : s.clockFaulty 13 = false := by
        rw [State.clockFaulty, List.any_eq_false]
        intro i hi
        have : i ≠ 13 := fun e => hn.2 (e ▸ hi)
        have : faultBit i ≠ 13 := by
          unfold faultBit
          split
          · assumption
          · split <;> omega
        simpa using this
      obtain ⟨x, hx⟩ := ((s.elapse dt).setN Od.SYS_FREQ_AON hz).clockBad_aon hz n hruns hn.1 hfaulty
      rw [State.clockWindow_aon _ _ hwin, hx]
      refine ⟨?_, ?_, State.logged_event _ _ _ _ hroom⟩ <;> rw [State.bit_event]
      · exact (State.bit_setBit_ne _ _ _ _ _ _ (by decide)).trans (State.bit_setBit_same _ _ _ _)
      · exact State.bit_setBit_same _ _ _ _
  · intro s dt who v ha
    refine ⟨_, State.accepted_completes ha rfl ?_, ?_, State.answered_emit _ _ _⟩
    · exact s.begun_pending dt who
    · have hread {k : Nat} (hk : k ≠ Od.SVC_REQUESTS) : (s.begun dt who).nat k = s.nat k :=
        State.nat_of_get (State.Leaves.begun.get hk)
      show State.nat (State.clearClockLatch _ _) _ = _
      rw [State.clearClockLatch, State.nat_setN, if_pos rfl, hread (by decide), hread (by decide)]

end Sys2Proof.Machine
end

section
/-! PROOFS. What refutes a statement: a concrete state and the state in which the command ends. -/
namespace Sys2Proof.Machine
open Sys2Proof
set_option Elab.async false

/-- The state in which a command ends. -/
def State.after (s : State) (i : Instr) : State :=
  match exec i s with
  | .next t => t
  | _ => s

theorem State.after_of_exec {s t : State} {i : Instr} (h : exec i s = .next t) : s.after i = t := by
  rw [State.after, h]

/-- A module in operation on the LV input: bring-up done, island supplies on, links trained, every drive in STANDBY. -/
def State.operating : State := { State.reset with
  bringup := { State.reset.bringup with step := 9, resetLatch := false, lvOk := true, islandOn := true, startupDone := true,
                                        startupOk := true, safetySetOk := true }
  links := Vector.replicate 3 { trained := true, skewCal := true, fromC := { lane0 := true, lane1 := true },
                                toC := { lane0 := true, lane1 := true } }
  drives := Vector.replicate 6 { state := .standby, tqo := false } }

/-- The state with a loop unit (the first one, if no other is named) of the drive that runs and has one queued write left. The
statements about commands speak of every state, and no invariant ties the object of a queued write to its unit (R225): when the
drive or the unit stops, the write takes effect, whatever object it names. -/
def State.queuing (s : State) (d : Drive) (key : Nat) (v : Val) (n : Fin 24 := 0) : State :=
  (s.setN (Od.LU_DRIVE n) d.num).modLu n fun x => { x with running := true, queue := [(key, v)] }

/-- Refutes O6: the write queued for a loop unit of CHG takes effect when the drive stops and may overwrite the CELL_STATUS
just marked. Here it clears bit 8 of C11. -/
theorem not_gateAndBootstrapCommandsComplete : ¬ Obligations.GateAndBootstrapCommandsComplete := by
  rintro ⟨hclause, -⟩
  obtain ⟨t, ht, -, hout, -⟩ := hclause
    ((State.operating.modCell 11 fun x => { x with supLo := true }).queuing .chg (Od.CELL_CELL_STATUS 11) (.int 0)) 1
    11 15 (-4) (by decide +kernel) (by decide +kernel)
  rw [← State.after_of_exec ht] at hout
  revert hout
  decide +kernel

/-- Refutes O8: the write queued for a loop unit of TRA takes effect when the drive stops and may overwrite the result of the
self-test just recorded. Here a failed self-test of C00 reads 0. -/
theorem not_shortCircuitCommandsComplete : ¬ Obligations.ShortCircuitCommandsComplete := by
  rintro ⟨-, -, -, -, -, -, hclause⟩
  obtain ⟨t, ht, hout, -⟩ := hclause
    ((State.operating.modCell 0 fun x => { x with selftest := true }).queuing .tra (Od.CELL_SELFTEST_RESULT 0) (.int 0))
    1 0 1 0 (by decide +kernel) (by decide +kernel)
  rw [← State.after_of_exec ht] at hout
  revert hout
  decide +kernel

/-- C11 switches and has been refreshed three times within 100 µs. -/
def State.sequencerWitness : State :=
  (State.operating.modCell 11 fun x => { x with mode := .switching, refreshDue := true, refreshes := [1, 1, 1] }).queuing .chg
    (Od.SH_RAW 36) (.int 0)

/-- Refutes O11: the period start may force a fourth refresh within 100 µs and so fault CHG; the write queued for its loop
unit then takes effect after the samples and may overwrite SH_RAW. Here the sample of 5 reads 0. -/
theorem not_sequencerCommandsComplete : ¬ Obligations.SequencerCommandsComplete := by
  rintro ⟨-, hclause, -⟩
  obtain ⟨t, ht, hout, -⟩ := hclause State.sequencerWitness 1 11 [5] [] 36 5 (by decide +kernel) (by decide +kernel)
    (by decide +kernel)
  rw [← State.after_of_exec ht] at hout
  revert hout
  decide +kernel

/-- Set A recovers, and its motor has had two losses within 1 s. -/
def State.axisUnitWitness : State :=
  ((State.operating.modAx 0 fun x => { x with recover := some 0 }).modTr 0 fun x => { x with losses := [500000, 700000] }).queuing
    .tra (Od.OBS_LOSS_COUNT 0) (.int 0)

/-- Refutes O12: a recovery that times out as the third loss within 1 s faults TRA; the write queued for its loop unit then
takes effect after the count and may overwrite LOSS_COUNT. Here it reads 0 in place of 1. -/
theorem not_axisUnitCommandsComplete : ¬ Obligations.AxisUnitCommandsComplete := by
  rintro ⟨-, -, -, -, -, -, -, -, -, -, -, -, -, hclause, -⟩
  obtain ⟨t, ht, hout⟩ := hclause State.axisUnitWitness 1000000 0 0 0 (by decide +kernel) (by decide +kernel)
    (by decide +kernel) (by decide +kernel)
  rw [← State.after_of_exec ht] at hout
  revert hout
  decide +kernel

/-- TRA is ARMED, and its motor is probed with one slot, whose pulse did not rise. -/
def State.shuntAndProbeWitness : State :=
  ({ State.operating with drives := upd State.operating.drives 0 fun x => { x with state := .armed } }.modTr 0 fun x => { x with
    probe := some { purpose := .start, startTb := 0, slots := [(0, 1)], done := [.missed 0] } }).queuing .tra (Od.OBS_OBS_STATUS 0)
    (.int 512)

/-- Refutes O13: a start's probe with a pulse that did not rise stops TRA; the write queued for its loop unit then takes
effect after the probe's end and may set bit 9 of OBS_STATUS, as it does here. -/
theorem not_shuntAndProbeCommandsComplete : ¬ Obligations.ShuntAndProbeCommandsComplete := by
  rintro ⟨-, -, -, -, -, -, hclause, -⟩
  obtain ⟨t, ht, -, hout⟩ := hclause State.shuntAndProbeWitness 1000000 0 0
    { purpose := .start, startTb := 0, slots := [(0, 1)], done := [.missed 0] } [none] (by decide +kernel)
    (by decide +kernel) (by decide +kernel)
  rw [← State.after_of_exec ht] at hout
  revert hout
  decide +kernel

/-- TRA is ARMED for the rotating procedure, which has run for 1 s. -/
def State.torqueWitness : State :=
  (({ State.operating with drives := upd State.operating.drives 0 fun x => { x with state := .armed } }.modAx 0 fun x => { x with
    ident := { phase := 1, count := 1, sum := 1 } }).setN (Od.OBS_OBS_STATUS 0) 65536 |>.setN (Od.OBS_ID_CMD 0) 2).queuing .tra
    (Od.OBS_ID_STATUS 0) (.int 0)

/-- Refutes O15: the end of an identification takes TRA to STANDBY; the write queued for its loop unit then takes effect after
the result and may overwrite ID_STATUS. Here it reads 0 in place of 2. -/
theorem not_torqueCommandsComplete : ¬ Obligations.TorqueCommandsComplete := by
  rintro ⟨-, -, -, -, -, -, -, -, hclause, -⟩
  obtain ⟨t, ht, -, ⟨hout, -⟩, -⟩ := hclause State.torqueWitness 100000000 0 0 0 0 0 (by decide +kernel)
    (by decide +kernel) (by decide +kernel) (by decide +kernel) (by decide +kernel)
  rw [← State.after_of_exec ht] at hout
  revert hout
  decide +kernel

/-- The interface of the first actuator is in quadrature mode and NORMAL; its cell switches. -/
def State.positionLinesWitness : State :=
  (((State.operating.setN (Od.PIF_PIF_STATUS 4) 2).setN (Od.PIF_MODE 4) 1).modCell 4 fun x => { x with
    mode := .switching }).queuing
    .gbx (Od.PIF_WIRE_FAULTS 4) (.int 0)

/-- Refutes O16: a wire fault of a NORMAL interface of an actuator faults GBX; the write queued for its loop unit then takes
effect after the count and may overwrite WIRE_FAULTS. Here it reads 0 in place of 1. -/
theorem not_positionLinesComplete : ¬ Obligations.PositionLinesComplete := by
  rintro ⟨-, -, -, hclause, -⟩
  obtain ⟨t, ht, hout, -⟩ := hclause State.positionLinesWitness 1 4 1 1 (by decide +kernel) (by decide +kernel)
    (by decide +kernel) (by decide +kernel)
  rw [← State.after_of_exec ht] at hout
  revert hout
  decide +kernel

/-- GBX is ARMED, and section 0 of its loop unit is held. -/
def State.loopUnitSamplesWitness : State :=
  ({ State.operating with drives := upd State.operating.drives 2 fun x => { x with state := .armed } }.setN (Od.LU_SEC_CTRL 0 0) 1
    ).queuing .gbx (Od.LU_SEC_CTRL 0 0) (.int 0)

/-- Refutes O18: the section held too long stops GBX, whose units stop with it; a write queued for the unit then takes effect
and may overwrite the section's SEC_CTRL, so that HOLD does not stay. Here it clears HOLD of section 0. -/
theorem not_loopUnitSamplesComplete : ¬ Obligations.LoopUnitSamplesComplete := by
  rintro ⟨-, -, -, -, -, -, hclause⟩
  obtain ⟨t, ht, -, -, hout⟩ := hclause State.loopUnitSamplesWitness 100000000 0 0 (by decide +kernel)
    (by decide +kernel) (by decide +kernel)
  rw [← State.after_of_exec ht] at hout
  revert hout
  decide +kernel

/-- TRA is ARMED, and the first engine runs its first task, which has missed two deadlines in a row. -/
def State.taskWitness : State :=
  { State.operating with
    drives := upd State.operating.drives 0 fun x => { x with state := .armed }
    engines := upd State.operating.engines 0 fun x => { x with running := some 0 }
    tasks := upd State.operating.tasks 0 fun x => { x with misses := 2 } }.queuing .tra (Od.TASK_EXEC_MAX_ns 0) (.int 0)

/-- Refutes O20: the third execution in a row past its deadline stops TRA; the write queued for its loop unit then takes
effect after the time is kept and may overwrite EXEC_MAX_ns. Here it reads 0 in place of 99,990. -/
theorem not_taskCommandsComplete : ¬ Obligations.TaskCommandsComplete := by
  rintro ⟨-, -, hclause, -⟩
  obtain ⟨t, ht, hout⟩ := hclause State.taskWitness 9999 0 .pass 0 (by decide +kernel) (by decide +kernel)
    (by decide +kernel)
  rw [← State.after_of_exec ht] at hout
  revert hout
  decide +kernel

/-- Every drive is in STANDBY. -/
def State.dcLinkWitness : State :=
  State.operating.queuing .brk Od.DCL_HW_TRIPS (.int 0)

/-- Refutes O24: the hardware trip faults BRK; the write queued for its loop unit then takes effect after the count and may
overwrite HW_TRIPS. Here it reads 0 in place of 1. -/
theorem not_dcLinkCommandsComplete : ¬ Obligations.DcLinkCommandsComplete := by
  rintro ⟨-, -, -, -, hclause, -⟩
  obtain ⟨t, ht, -, hout, -⟩ := hclause State.dcLinkWitness 1 (by decide +kernel) (by decide +kernel)
  rw [← State.after_of_exec ht] at hout
  revert hout
  decide +kernel

/-- A discharge runs from a link at 400 V. -/
def State.chopperWitness : State :=
  ((State.operating.setQ Od.DCL_V_DC 400).modDcl fun x => { x with disch := some 0, dischOn := true }).queuing .brk Od.DCL_DISCH_STATE
    (.int 0)

/-- Refutes O25: a discharge that takes too long faults BRK; the write queued for its loop unit then takes effect after the
state is shown and may overwrite DISCH_STATE. Here it reads 0 in place of 4. -/
theorem not_chopperCommandsComplete : ¬ Obligations.ChopperCommandsComplete := by
  rintro ⟨-, -, -, -, -, -, -, -, -, -, -, hclause⟩
  obtain ⟨t, ht, hout, -⟩ := hclause State.chopperWitness 300000000 0 (by decide +kernel) (by decide +kernel)
    (by decide +kernel) (by decide +kernel)
  rw [← State.after_of_exec ht] at hout
  revert hout
  decide +kernel

/-- AUX is ACTIVE with one phase shed, and the others deviate since 0. -/
def State.auxConverterWitness : State :=
  ({ State.operating with drives := upd State.operating.drives 3 fun x => { x with state := .active } }.modAux fun x => { x with
    shed := [0], devTb := Vector.replicate 4 (some 0) }).setN Od.CNV_AUX_STATUS 1 |>.queuing .aux Od.CNV_AUX_STATUS (.int 0)

/-- Refutes O26: the second shed phase faults AUX; the write queued for its loop unit then takes effect after the phase is
marked and may overwrite AUX_STATUS. Here bit 13 reads 0. -/
theorem not_auxConverterCommandsComplete : ¬ Obligations.AuxConverterCommandsComplete := by
  rintro ⟨-, -, -, -, hclause, -⟩
  obtain ⟨t, ht, hout, -⟩ := hclause State.auxConverterWitness 1000000 1 (State.auxConverterWitness.valleyDev 1)
    (by decide +kernel) (by decide +kernel) (by decide +kernel) (by decide +kernel) (by decide +kernel)
  rw [← State.after_of_exec ht] at hout
  revert hout
  decide +kernel

/-- AUX is ACTIVE, and IB is too high since 0. -/
def State.auxProtectionWitness : State :=
  ({ State.operating with drives := upd State.operating.drives 3 fun x => { x with state := .active } }.modAux fun x => { x with
    ibHighTb := some 0 }).queuing .aux Od.CNV_V_IB (.num 0)

/-- Refutes O27: the overvoltage trip of IB faults AUX; the write queued for its loop unit then takes effect after the sense
and may overwrite V_IB. Here it reads 0 in place of 61. -/
theorem not_auxProtectionCommandsComplete : ¬ Obligations.AuxProtectionCommandsComplete := by
  rintro ⟨-, -, -, hclause, -⟩
  obtain ⟨t, ht, -, hout⟩ := hclause State.auxProtectionWitness 2000 61 (by decide +kernel) (by decide +kernel)
    (by decide +kernel)
  rw [← State.after_of_exec ht] at hout
  revert hout
  decide +kernel

/-- Export is enabled. -/
def State.chargePortWitness : State :=
  ((State.operating.setN Od.CHG_CHG_MODE 2).setN Od.EXP_EXPORT_EN 1).queuing .chg Od.EXP_EXP_STATUS (.int 0)

/-- Refutes O28: a voltage at the outlet while power is exported faults CHG; the write queued for its loop unit then takes
effect after the latch and may overwrite EXP_STATUS. Here bit 7 reads 0. -/
theorem not_chargePortCommandsComplete : ¬ Obligations.ChargePortCommandsComplete := by
  rintro ⟨-, -, -, -, -, -, -, -, -, -, -, -, -, -, -, hclause, -⟩
  obtain ⟨t, ht, hout, -⟩ := hclause State.chargePortWitness 1 30 (by decide +kernel) (by decide +kernel)
    (by decide +kernel)
  rw [← State.after_of_exec ht] at hout
  revert hout
  decide +kernel

/-- CHG is ARMED, and the BMS has been heard at 0. -/
def State.chargeInstanceWitness : State :=
  ({ State.operating with drives := upd State.operating.drives 4 fun x => { x with state := .armed } }.modChg fun x => { x with
    bmsTb := some 0 }).queuing .chg Od.HV_BMS_TIMEOUTS (.int 0)

/-- Refutes O29: a silent BMS stops CHG; the write queued for its loop unit then takes effect after the count and may
overwrite BMS_TIMEOUTS. Here it reads 0 in place of 1. -/
theorem not_chargeInstanceCommandsComplete : ¬ Obligations.ChargeInstanceCommandsComplete := by
  rintro ⟨-, -, -, hclause, -⟩
  obtain ⟨t, ht, -, -, hout⟩ := hclause State.chargeInstanceWitness 1000000000 0 (by decide +kernel)
    (by decide +kernel) (by decide +kernel)
  rw [← State.after_of_exec ht] at hout
  revert hout
  decide +kernel

/-- The battery switch is closed, and the loop unit of the LV charge current runs. -/
def State.batteryWitness : State :=
  (State.operating.setN Od.LV_BAT_SW_MODE 1).queuing .aux Od.LV_I_BAT (.num 0) 22

/-- Refutes O30: the switch that opens stops the loop unit of the LV charge current; the write queued for it then takes effect
after the sense and may overwrite I_BAT. Here it reads 0 in place of 900. -/
theorem not_batteryCommandsComplete : ¬ Obligations.BatteryCommandsComplete := by
  rintro ⟨-, -, -, -, hclause, -⟩
  obtain ⟨t, ht, -, -, hout⟩ := hclause State.batteryWitness 1 900 (by decide +kernel) (by decide +kernel)
  rw [← State.after_of_exec ht] at hout
  revert hout
  decide +kernel

/-- The device is in Peat mode with PoDL present since 0, and the loop unit of the LV charge current runs. -/
def State.serviceButtonAndPeatWitness : State :=
  ({ State.reset with path := { State.reset.path with peat := true, podlTb := some 0 } }).queuing .aux Od.BKP_BKP15 (.int 2) 22

/-- Refutes O31: the switch that closes at the end of Peat mode stops a loop unit that may not run then; the write queued for
it takes effect after the request is cleared and may overwrite BKP15. Here bit 1 stays set. -/
theorem not_serviceButtonAndPeatComplete : ¬ Obligations.ServiceButtonAndPeatComplete := by
  rintro ⟨-, -, -, -, -, -, -, hclause, -⟩
  obtain ⟨t, ht, -, hout, -⟩ := hclause State.serviceButtonAndPeatWitness 1000000 (by decide +kernel)
  rw [← State.after_of_exec ht] at hout
  revert hout
  decide +kernel

/-- The start-up tests of Pyreri have not run yet. -/
def State.lockstepWitness : State :=
  { State.operating with bringup := { State.operating.bringup with startupDone := false } }.queuing .tra Od.PYR_STARTUP_RESULT (.int 0)

/-- Refutes O33: failed start-up tests assert every torque-off pair, and TRA enters INHIBIT; the write queued for its loop
unit then takes effect after the result is shown and may overwrite STARTUP_RESULT. Here it reads 0. -/
theorem not_lockstepCommandsComplete : ¬ Obligations.LockstepCommandsComplete := by
  rintro ⟨-, hclause, -⟩
  obtain ⟨t, ht, hout, -⟩ := hclause State.lockstepWitness 1 1 (by decide +kernel) (by decide +kernel)
  rw [← State.after_of_exec ht] at hout
  revert hout
  decide +kernel

/-- A round runs since 1, and the base sensor of C00 is broken. -/
def State.thermalWitness : State :=
  (({ State.operating with thermal := { State.operating.thermal with roundTb := some 1 } }).setN
    (Od.SEN_SENSOR_STATUS (baseSensor 0)) 16).queuing .tra Od.THM_ROUND_OVERRUNS (.int 0)

/-- Refutes O32: a late round shuts TRA down for its broken sensor; the write queued for its loop unit then takes effect after
the count and may overwrite ROUND_OVERRUNS. Here it reads 0 in place of 1. -/
theorem not_thermalCommandsComplete : ¬ Obligations.ThermalCommandsComplete := by
  rintro ⟨-, hclause, -⟩
  obtain ⟨t, ht, -, -, hout⟩ := hclause State.thermalWitness 2000000 1 (by decide +kernel) (by decide +kernel)
    (by decide +kernel) (by decide +kernel)
  rw [← State.after_of_exec ht] at hout
  revert hout
  decide +kernel

/-- GBX is ACTIVE under the session of CAN-D, whose channel is on-line though its clock holds it off-line. -/
def State.canChannelWitness : State :=
  (({ State.operating with
    drives := upd State.operating.drives 2 fun x => { x with state := .active }
    chans := upd State.operating.chans 3 fun x => { x with online := true, clockHold := true }
    sessions := { State.operating.sessions with table := upd State.operating.sessions.table 4 fun x => { x with isOpen := true } } }.setN
      (Od.OWN_OWNER 2) 0x20).setN (Od.OWN_LOSS_ACTION 2) 2).queuing .gbx (Od.CAN_UNMATCHED 3) (.int 0)

/-- Refutes O39: a channel that goes off-line with a frame closes the session of CAN-D, and the owner's loss stops GBX; the
write queued for its loop unit then takes effect after the count and may overwrite UNMATCHED. Here it reads 0 in place of 1.
-/
theorem not_canChannelCommandsComplete : ¬ Obligations.CanChannelCommandsComplete := by
  rintro ⟨-, hclause, -⟩
  obtain ⟨t, ht, hout, -⟩ := hclause State.canChannelWitness 1 3 ⟨0, false, false, false, []⟩ 0 (by decide +kernel)
    (by decide +kernel) (by decide +kernel)
  rw [← State.after_of_exec ht] at hout
  revert hout
  decide +kernel

/-- GBX is ACTIVE under the first Ethernet session. -/
def State.sessionWitness : State :=
  (({ State.operating with
    drives := upd State.operating.drives 2 fun x => { x with state := .active }
    sessions := { State.operating.sessions with
      linkUp := true, table := upd State.operating.sessions.table 0 fun x => { x with isOpen := true } } }.setN (Od.OWN_OWNER 2) 0x30).setN
      (Od.OWN_LOSS_ACTION 2) 2).queuing .gbx Od.ETH_LINK_DROPS (.int 0)

/-- Refutes O43: the link's fall closes the owner's session and so stops GBX; the write queued for its loop unit then takes
effect after the count and may overwrite LINK_DROPS. Here it reads 0 in place of 1. -/
theorem not_sessionCommandsComplete : ¬ Obligations.SessionCommandsComplete := by
  rintro ⟨-, -, -, -, -, -, -, -, -, hclause, -⟩
  obtain ⟨t, ht, -, -, hout⟩ := hclause State.sessionWitness 1 (by decide +kernel) (by decide +kernel)
  rw [← State.after_of_exec ht] at hout
  revert hout
  decide +kernel

/-- CRC2 is bound to the session of CAN-D. -/
def State.crcUnitWitness : State :=
  { State.operating with crcs := upd State.operating.crcs 2 fun x => { x with bound := some (.canD, 0) } }

/-- Refutes O38: a binding expires within the command's own time, so a unit that is bound to another session before it is free
when START is written. Here CRC2, bound to a session at TB 0, takes the START written 1,000 ms later. -/
theorem not_crcUnitCommandsComplete : ¬ Obligations.CrcUnitCommandsComplete := by
  rintro ⟨-, hclause, -⟩
  obtain ⟨t, ht, hout, -⟩ := hclause State.crcUnitWitness (ms 1000) .pyreri 2 (by decide +kernel) (by decide +kernel)
  rw [← State.after_of_exec ht] at hout
  revert hout
  decide +kernel

/-- A capture is armed at the TB of its last row. -/
def State.captureWitness : State :=
  ({ State.operating with cap := { State.operating.cap with rowTb := some 0 } }.setN Od.CAP_CAP_STATE 1).setN Od.CAP_CAP_CHANNELS 1

/-- Refutes O46: a capture that is armed anew at the TB of a row takes no second row at that TB, so no row is stored there.
Here the last row was taken at the TB of the command. -/
theorem not_captureCommandsComplete : ¬ Obligations.CaptureCommandsComplete := by
  rintro ⟨-, -, -, hclause, -⟩
  obtain ⟨t, ht, hout, -⟩ := hclause State.captureWitness 0 true (by decide +kernel) (by decide +kernel)
    (by decide +kernel)
  rw [← State.after_of_exec ht] at hout
  revert hout
  decide +kernel

/-- The bank that is not running is COMMITTED and holds one octet. -/
def State.imageWitness : State :=
  { State.operating with img := { State.operating.img with 
    banks := upd State.operating.img.banks State.operating.target fun x => { x with state := .committed, image := [0] } } }

/-- Refutes O45: a rollback to a committed bank whose image does not pass its check is refused, and the statement does not ask
that it pass. Here the other bank is COMMITTED with an image of one octet, and the request is not answered without error. -/
theorem not_imageCommandsComplete : ¬ Obligations.ImageCommandsComplete := by
  rintro ⟨-, -, -, hclause, -⟩
  obtain ⟨t, ht, -, -, -, hout⟩ := hclause State.imageWitness 0 .pyreri (by decide +kernel) (by decide +kernel)
    (by decide +kernel) (by decide +kernel)
  rw [← State.after_of_exec ht] at hout
  revert hout
  decide +kernel

/-- Pyreri runs in TRIPLE, the first test pulse has been given, and the first pair has failed one. -/
def State.safetyInputWitness : State :=
  { State.operating with safety := { State.operating.safety with
    pulseNo := upd State.operating.safety.pulseNo 0 fun _ => 1
    pairs := upd State.operating.safety.pairs 0 fun x => { x with ownFails := upd x.ownFails 0 fun _ => 1 } } }.setN
      Od.PYR_CONFIG_ACT 1 |>.setN (Od.PAIR_PAIR_MODE 0) 1

/-- Refutes O35: a test pulse that has been given already is not given again, and the statement does not ask that it be due.
Here the pulse of the first 50 ms stands as given, and the pair keeps its one failure. -/
theorem not_safetyInputCommandsComplete : ¬ Obligations.SafetyInputCommandsComplete := by
  rintro ⟨-, -, -, -, hclause, -⟩
  obtain ⟨t, ht, hout⟩ := hclause State.safetyInputWitness 0 (by decide +kernel) (by decide +kernel)
    (by decide +kernel)
  rw [← State.after_of_exec ht] at hout
  revert hout
  decide +kernel

/-- The row of BYTES. -/
def crcBytesRow : DictRow := ⟨11, 11, "BYTES", .u32, .ro, .int 0, .any, 4⟩

/-- BYTES of CRC0 is what the firmware's own unit has taken: the model draws it at the read. -/
theorem State.readEffect_crcBytes (s : State) : State.readEffect .canD 0x2E00 0x0B crcBytesRow s =
    .ok (s.draw, encodeVal .u32 (.int (Config.freeNat s.fresh))) := rfl

section
variable {s : State} (hup : s.dictUp = true) (hdiag : s.diagOnly = false) (hout : s.out = [])
include hup hdiag

theorem State.readObject_crcBytes (hwall : (s.touch .canD).walled (Od.CRC_BYTES 0) = false) :
    s.readObject .canD 0x2E00 0x0B =
      (s.touch .canD).draw.emit (.response .canD 0 (encodeVal .u32 (.int (Config.freeNat s.fresh)))) := by
  have hrow : objRow 0x2E00 0x0B = .ok crcBytesRow := by decide
  have hkey : s.objKey .canD 0x2E00 0x0B = Od.CRC_BYTES 0 := by
    unfold State.objKey
    exact (if_neg (by decide)).trans ((if_neg (by decide)).trans ((if_neg (by decide)).trans (if_neg (by decide))))
  have hfresh : (s.touch .canD).fresh = s.fresh := State.Leaves.touch.part .fresh
  have hdiag' : (s.touch .canD).diagOnly = false := (congrArg (fun b : BringupSt => b.trimFault || b.imageFault)
    (State.Leaves.touch.part .bringup)).trans hdiag
  unfold State.readObject
  rw [hrow, hkey]
  dsimp only
  rw [if_neg (by simp [hdiag]), if_neg (by decide), State.readRequest, if_neg (by simp [hup, Requester.sess])]
  dsimp only
  rw [if_neg (by simp [hdiag', hwall]), State.readEffect_crcBytes, hfresh]

include hout in
theorem State.sdo_crcBytes (hlive : s.busLive 3 = true) (hwall : ((s.modSdo none).touch .canD).walled (Od.CRC_BYTES 0) = false) :
    s.sdo (.upload 0x2E00#16 0x0B#8) = ((s.modSdo none).touch .canD).draw.emit
      (.response .canD 0 (encodeVal .u32 (.int (Config.freeNat s.fresh)))) := by
  have hread := State.readObject_crcBytes (s := s.modSdo none) hup hdiag hwall
  have houts : ((s.modSdo none).touch .canD).draw.out = [] := (State.Leaves.touch.part .out : ((s.modSdo none).touch .canD).out = _).trans hout
  have hlen (f : Nat) : (encodeVal .u32 (.int (Config.freeNat f))).length = 4 := rfl
  have hlast (u : State) (l : List Byte) (hu : u.out = []) : (u.emit (.response .canD 0 l)).lastAnswer = some (0, l) := by
    rw [State.lastAnswer, State.emit, hu]
    rfl
  have hup' : s.sdo (.upload 0x2E00#16 0x0B#8) = s.sdoUpload 0x2E00 0x0B := if_neg (by simp [hlive, hup])
  rw [hup', State.sdoUpload, hread]
  dsimp only
  rw [hlast _ _ houts]
  exact if_pos (by rw [hlen]; decide)
end

/-- CAN-D takes part in traffic, and BYTES of CRC0 has been set to n. -/
def State.uploadWitness (n : Nat) : State :=
  ((State.operating.modChan 3 fun x => { x with online := true }).modSess .canD fun x => { x with isOpen := true }).setN
    (Od.CRC_BYTES 0) n

theorem State.uploadWitness_sdo (n : Nat) (hn : n < 2) : ((State.uploadWitness n).elapse 0).sdo (.upload 0x2E00#16 0x0B#8) =
    ((((State.uploadWitness n).elapse 0).modSdo none).touch .canD).draw.emit
      (.response .canD 0 (encodeVal .u32 (.int (Config.freeNat 0)))) := by
  refine State.sdo_crcBytes ?_ ?_ rfl ?_ ?_ <;> interval_cases n <;> decide +kernel

/-- Refutes O42: the register BYTES of CRC0 and CRC1, the firmware's own units, is answered with a free value, and the
statement takes it for a plain object whose stored octets are answered. Two states that differ in the stored value alone have
one answer. -/
theorem not_objectAccessCommandsComplete : ¬ Obligations.ObjectAccessCommandsComplete := by
  rintro ⟨-, -, -, hclause, -⟩
  have hanswer (n : Nat) (hn : n < 2) : encodeVal .u32 (.int (Config.freeNat 0)) = encodeVal .u32 (.int n) := by
    obtain ⟨t, ht, hout⟩ := hclause (State.uploadWitness n) 0 0x2E00#16 0x0B#8 crcBytesRow (by interval_cases n <;> decide +kernel)
      (by decide +kernel) (by interval_cases n <;> decide +kernel) (by interval_cases n <;> decide +kernel)
      (by interval_cases n <;> decide +kernel)
    have hshows (u : State) (l : List Byte) (hu : u.draw.out = []) (hr : reply (State.uploadWitness n) (u.draw.emit
        (.response .canD 0 l)) = .next t) : t.out = [.response .canD 0 l] ∧ t.get (Od.CRC_BYTES 0) = u.get (Od.CRC_BYTES 0) := by
      rw [reply_eq] at hr
      rw [← Host.Outcome.next.inj hr]
      exact ⟨congrArg (· ++ [_]) hu, rfl⟩
    have hkeep : ((((State.uploadWitness n).elapse 0).modSdo none).touch .canD).get (Od.CRC_BYTES 0) = .int n :=
      (State.Leaves.touch.get (by decide)).trans (by interval_cases n <;> decide +kernel)
    have hquiet : ((((State.uploadWitness n).elapse 0).modSdo none).touch .canD).draw.out = [] := State.Leaves.touch.part .out
    obtain ⟨hfree, hstored⟩ := hshows _ _ hquiet ((congrArg (reply _) (State.uploadWitness_sdo n hn)).symm.trans ht)
    have hkey : (State.uploadWitness n).objKey .canD (0x2E00#16).toNat (0x0B#8).toNat = Od.CRC_BYTES 0 := by
      interval_cases n <;> decide +kernel
    rw [hfree, hkey, hstored, hkeep] at hout
    simpa [crcBytesRow] using hout
  exact absurd ((hanswer 0 (by decide)).symm.trans (hanswer 1 (by decide))) (by decide)

end Sys2Proof.Machine
end

section
/-! PROOFS. The address claim, the commands, requests and status messages of CAN-A (O41). -/
namespace Sys2Proof.Machine
open Sys2Proof
set_option Elab.async false

/-! ### Channels and slots (R450, R453) -/

@[simp] theorem State.chan_modChan_same (s : State) (c : Fin 4) (f : ChanSt → ChanSt) : (s.modChan c f).chan c = f (s.chan c) :=
  get_upd_same _ _ _
theorem State.slot_modSlot (s : State) (c : Fin 4) (i j : Fin 16) (f : SlotSt → SlotSt) :
    (s.modSlot c i f).slot c j = if j = i then f (s.slot c i) else s.slot c j := by
  unfold State.modSlot State.slot
  rw [State.chan_modChan_same]
  exact get_upd _ _ _ _
theorem State.Leaves.chan {ps : List Part} {free : Nat → Prop} {q : Bool} {s t : State} (g : State.Leaves ps free q s t) (c : Fin 4)
    (hp : Part.chans ∉ ps := by decide) : t.chan c = s.chan c := congrArg (·.get c) (g.parts .chans hp)
theorem State.Leaves.slot {ps : List Part} {free : Nat → Prop} {q : Bool} {s t : State} (g : State.Leaves ps free q s t) (c : Fin 4)
    (i : Fin 16) (hp : Part.chans ∉ ps := by decide) : t.slot c i = s.slot c i := congrArg (·.slots.get i) (g.chan c hp)
theorem State.Leaves.canA {ps : List Part} {free : Nat → Prop} {q : Bool} {s t : State} (g : State.Leaves ps free q s t)
    (hp : Part.canA ∉ ps := by decide) : t.canA = s.canA := g.parts .canA hp

/-- A message without deadline waits in its slot. -/
def Waits (c : Fin 4) (i : Fin 16) (m : CanMsg) (s : State) : Prop := (s.slot c i).msg = some m ∧ (s.slot c i).deadline = none

theorem Waits.isStale {c : Fin 4} {i : Fin 16} {m : CanMsg} {s : State} (h : Waits c i m s) (tb : Nat) :
    (s.slot c i).isStale tb = false := by
  rw [SlotSt.isStale, h.2, Bool.and_false]

theorem Waits.dropStale {c : Fin 4} {i j : Fin 16} {m : CanMsg} {s : State} (h : Waits c i m s) (hj : j ≠ i) :
    Waits c i m (s.dropStale c j) := by
  have hslot : (s.dropStale c j).slot c i = s.slot c i := by
    unfold State.dropStale
    dsimp only
    rw [State.slot_modSlot, if_neg (Ne.symm hj), State.Leaves.canEvent.slot c i, State.Leaves.count.slot c i]
  rw [Waits, hslot]
  exact h

theorem Waits.offer {c : Fin 4} {i : Fin 16} {m : CanMsg} {s : State} (h : Waits c i m s) : Waits c i m (s.offer c) := by
  have hsame (u : State) (b : Option Nat) (hu : Waits c i m u) : Waits c i m (u.modChan c fun x => { x with onBus := b }) := by
    rw [Waits, State.slot, State.chan_modChan_same]
    exact hu
  have hdropped : Waits c i m (s.each (List.finRange 16) fun j s => if (s.slot c j).isStale s.tb then s.dropStale c j else s) :=
    State.each_keeps _ (fun j _ u hu => by
      split
      · next hj => exact hu.dropStale fun e => by rw [e, hu.isStale] at hj; cases hj
      · exact hu) s h
  unfold State.offer State.arbitrate
  split
  · dsimp only
    split
    · exact hsame _ _ hdropped
    · exact hsame _ _ hdropped
  · exact h

/-- A message without deadline that is written into a free slot waits there. -/
theorem State.slotWrite_waits (s : State) (c : Fin 4) (i : Fin 16) (m : CanMsg) (hoff : s.offCause c = false)
    (hfree : (s.slot c i).msg = none) : Waits c i m (s.slotWrite c i m 0) := by
  unfold State.slotWrite
  rw [hoff, if_neg Bool.false_ne_true, hfree, Option.isSome_none, if_neg Bool.false_ne_true]
  refine Waits.offer ?_
  rw [Waits, State.slot_modSlot, if_pos rfl]
  exact ⟨rfl, rfl⟩

/-! ### The address of CAN-A (R464) -/

@[simp] theorem State.canA_slotWrite (s : State) (c : Fin 4) (i : Fin 16) (m : CanMsg) (u : Nat) : (s.slotWrite c i m u).canA = s.canA :=
  State.Leaves.slotWrite.canA
@[simp] theorem State.canA_sendClaim (s : State) (a : Nat) : (s.sendClaim a).canA = s.canA := State.canA_slotWrite _ _ _ _ _
@[simp] theorem State.canA_claim (s : State) (a : Nat) :
    (s.claim a).canA = { s.canA with addr := some a, claimTb := some s.tb } := State.canA_sendClaim _ _
@[simp] theorem State.canA_rxTake (s : State) (c : Fin 4) (p : RxEntry → Bool) : (s.rxTake c p).canA = s.canA :=
  State.Leaves.rxTake.canA
@[simp] theorem State.canA_rxTakeId (s : State) (c : Fin 4) (i : Nat) (e : Bool) : (s.rxTakeId c i e).canA = s.canA :=
  State.Leaves.rxTakeId.canA

/-- A claim of a free address on the module's own: who has the lower NAME keeps it (R464). -/
theorem State.hearClaim_own (s : State) (a name : Nat) (hlive : s.busLive 0 = true) (ha : s.canA.addr = some a) :
    ∃ u : State, u.canA = { s.canA with taken := if a < 0xFE then (a, name) :: s.canA.taken.filter fun e => e.1 != a else s.canA.taken } ∧
      u.tb = s.tb ∧
      s.hearClaim a name =
        if name < s.canA.name then u.loseAddress a else if s.canA.name < name then u.sendClaim a else u := by
  refine ⟨(s.rxTakeId 0 (isoId 6 0xEEFF a) true).modCanA fun x =>
    { x with taken := if a < 0xFE then (a, name) :: x.taken.filter fun e => e.1 != a else x.taken }, ?_, ?_, ?_⟩
  · show CanASt.mk .. = _
    rw [State.canA_rxTakeId]
  · exact (State.Leaves.rxTakeId (s := s) (c := 0) (ident := isoId 6 0xEEFF a) (ide := true)).part .tb
  · unfold State.hearClaim
    rw [hlive]
    simp only [Bool.not_true, Bool.false_eq_true, if_false]
    rw [if_neg (by simp [State.modCanA, ha])]
    simp [State.modCanA]

/-! ### Commands and status messages of CAN-A (R465 to R467) -/

/-- A message that is not 8 octets long is rejected. -/
theorem State.canACommand_length (s : State) (dest : Nat) (data : List Byte) (hlive : s.busLive 0 = true) (hok : s.addrOk = true)
    (ha : s.canA.addr = some dest) (hlen : data.length ≠ 8) (hroom : s.nat (Od.CAN_A_REJECTS 0) < 65535) :
    (s.canACommand dest data).nat (Od.CAN_A_REJECTS 0) = s.nat (Od.CAN_A_REJECTS 0) + 1 := by
  unfold State.canACommand
  rw [hlive, Bool.not_true, if_neg Bool.false_ne_true]
  dsimp only
  have hok' (p : RxEntry → Bool) : (s.rxTake 0 p).addrOk = true := by rw [State.addrOk, State.canA_rxTake]; exact hok
  rw [hok', State.canA_rxTake, ha, if_neg (by simp), if_pos hlen]
  refine (State.nat_count_min _ ctrARejects (by decide) (by decide)).trans ?_
  rw [State.nat_of_get (State.Leaves.rxTake.get trivial)]
  show min (s.nat (Od.CAN_A_REJECTS 0) + 1) (2 ^ 32 - 1) = _
  omega

/-- The first command of function 0x01 is fresh. -/
theorem State.canACommand_fresh (s : State) (dest : Nat) (a b c d e f g : Byte) (hlive : s.busLive 0 = true) (hok : s.addrOk = true)
    (ha : s.canA.addr = some dest) (halive : s.canA.alive = []) :
    ((s.canACommand dest [1, a, b, c, d, e, f, g]).canA.cmdTb = s.tb ∧
        (s.canACommand dest [1, a, b, c, d, e, f, g]).canA.lost = false) ∧
      (s.canACommand dest [1, a, b, c, d, e, f, g]).canA.alive = [(1, g.toNat % 16)] := by
  have hok' (p : RxEntry → Bool) : (s.rxTake 0 p).addrOk = true := by rw [State.addrOk, State.canA_rxTake]; exact hok
  have hfields (u : State) (l : List Byte) : (u.canAFields l).canA = u.canA := State.Leaves.canAFields.canA
  have hback (u : State) : u.canACommanderBack.canA = u.canA := State.Leaves.canACommanderBack.canA
  unfold State.canACommand
  rw [hlive, Bool.not_true, if_neg Bool.false_ne_true]
  dsimp only
  rw [hok', State.canA_rxTake, ha, if_neg (by simp), if_neg (by simp), halive]
  simp only [List.find?_nil, Option.map_none, hfields, State.freshCommand, hback, State.modCanA, State.canA_rxTake, halive]
  simp [msgOctet]
  exact State.Leaves.rxTake.part .tb

/-- A request for the address claim is answered with the address claimed. -/
theorem State.answerRequest_claim (s : State) (a source : Nat) (hlive : s.busLive 0 = true) (hoff : s.offCause 0 = false)
    (ha : s.canA.addr = some a) (hfree : (s.slot 0 8).msg = none) :
    ((s.answerRequest 0xFF 0xEE00 source).slot 0 8).msg = some (isoMsg 6 0xEEFF a (natLe 8 s.canA.name)) := by
  unfold State.answerRequest
  rw [hlive, Bool.not_true, if_neg Bool.false_ne_true]
  dsimp only
  rw [if_neg (by simp), if_pos rfl, State.canA_rxTake, ha]
  dsimp only
  unfold State.sendClaim
  rw [State.canA_rxTake]
  refine (State.slotWrite_waits _ _ _ _ ?_ ?_).1
  · rw [← hoff]
    unfold State.offCause State.rxTake
    rw [State.chan_modChan_same]
    split <;> rfl
  · rw [← hfree]
    unfold State.slot State.rxTake
    rw [State.chan_modChan_same]
    split <;> rfl

theorem State.canACommandSilence_lost (s : State) (hup : s.dictUp = true) (hlost : s.canA.lost = false)
    (hdue : s.canA.cmdTb + ms (s.nat (Od.CAN_A_CMD_TIMEOUT_ms 0)) ≤ s.tb) : s.canACommandSilence.canA.lost = true := by
  unfold State.canACommandSilence
  rw [if_pos ⟨hup, by rw [hlost]; rfl, hdue⟩, State.Leaves.canACommanderLost.canA, State.Leaves.canEvent.canA]
  rfl

theorem State.statusDue_next (s : State) (hok : s.addrOk = true) (hlive : s.busLive 0 = true) (hdue : s.canA.dueTb ≤ s.tb) :
    s.statusDue.canA.dueTb = s.tb + ms (s.nat (Od.CAN_STATUS_PERIOD_ms 0)) := by
  unfold State.statusDue
  rw [if_pos ⟨hok, hlive, hdue⟩]
  rfl

/-- Settles O41, one clause per message and timer of CAN-A. -/
theorem canACommandsComplete : Obligations.CanACommandsComplete := by
  refine ⟨?_, ?_, ?_, ?_, ?_, ?_, ?_, ?_, ?_⟩
  · intro s dt ⟨hlive, ha, hcannot⟩
    refine ⟨(s.elapse dt).claimStart, State.Leaves.claimStart.completes, ?_⟩
    have hc : (s.elapse dt).busLive 0 = true ∧ (s.elapse dt).canA.addr.isNone = true ∧ (!(s.elapse dt).canA.cannot) = true :=
      ⟨hlive, by rw [State.elapse_canA, ha]; rfl, by rw [State.elapse_canA, hcannot]; rfl⟩
    rw [State.claimStart, if_pos hc]
    dsimp only
    rw [State.canA_claim]
    exact ⟨rfl, rfl, rfl⟩
  · intro s dt src name ⟨hlive, ha⟩ hname
    refine ⟨(s.elapse dt).hearClaim src.toNat name.toNat, State.Leaves.hearClaim.completes, ?_⟩
    obtain ⟨u, hu, -, heq⟩ := (s.elapse dt).hearClaim_own src.toNat name.toNat hlive ha
    rw [heq, State.elapse_canA, if_neg (Nat.not_lt.2 (Nat.le_of_lt hname)), if_pos hname, State.canA_sendClaim, hu]
    exact ⟨rfl, rfl⟩
  · intro s dt src name ⟨hlive, ha⟩ hname ⟨htaken, hsrc⟩
    refine ⟨(s.elapse dt).hearClaim src.toNat name.toNat, State.Leaves.hearClaim.completes, ?_⟩
    obtain ⟨u, hu, htb, heq⟩ := (s.elapse dt).hearClaim_own src.toNat name.toNat hlive ha
    rw [heq, State.elapse_canA, if_pos hname]
    have hfree : u.nextFree src.toNat = some 0x81 := by
      have : u.canA.taken = [(0x80, name.toNat)] := by
        rw [hu, hsrc]
        simp [htaken]
      have hrange : List.range 120 = 0 :: (List.range 119).map Nat.succ := List.range_succ_eq_map
      rw [State.nextFree, this, hsrc, hrange, List.map_cons, List.find?_cons_of_pos]
      · rfl
      · simp
    rw [State.loseAddress, hfree]
    show ((u.claim 0x81).canA.addr = _ ∧ _)
    rw [State.canA_claim, htb]
    exact ⟨rfl, rfl⟩
  · intro s dt a t0 ⟨ha, hclaim⟩ hdue
    refine ⟨(s.elapse dt).claimDone, State.Leaves.claimDone.completes, ?_⟩
    have hdone : (s.elapse dt).claimDone = ((s.elapse dt).modCanA fun x => { x with claimTb := none, dueTb := (s.elapse dt).tb }).canEvent
        0x0F09 0 a := by
      unfold State.claimDone
      rw [show (s.elapse dt).canA.addr = some a from ha, show (s.elapse dt).canA.claimTb = some t0 from hclaim]
      exact if_pos hdue
    rw [hdone, State.addrOk, State.Leaves.canEvent.canA]
    show ((s.canA.addr.isSome && true) = true ∧ s.canA.addr = some a)
    rw [ha]
    exact ⟨rfl, rfl⟩
  · intro s dt dest data ⟨hlive, hok, ha⟩ hlen hroom
    exact ⟨_, State.Leaves.canACommand.completes, (s.elapse dt).canACommand_length dest.toNat data hlive hok ha hlen hroom⟩
  · intro s dt dest a b c d e f g ⟨hlive, hok, ha⟩ halive
    exact ⟨_, State.Leaves.canACommand.completes, (s.elapse dt).canACommand_fresh dest.toNat a b c d e f g hlive hok ha halive⟩
  · intro s dt a src ⟨hlive, hoff⟩ ha hfree
    exact ⟨_, State.Leaves.answerRequest.completes, (s.elapse dt).answerRequest_claim a src.toNat hlive hoff ha hfree⟩
  · intro s dt ⟨hup, hlost⟩ hdue
    exact ⟨_, State.Leaves.canACommandSilence.completes, (s.elapse dt).canACommandSilence_lost hup hlost hdue⟩
  · intro s dt ⟨hok, hlive⟩ hdue
    exact ⟨_, State.Leaves.statusDue.completes, (s.elapse dt).statusDue_next hok hlive hdue⟩

end Sys2Proof.Machine
end

section
/-! PROOFS. COMMIT and SEC_CTRL of a loop unit (O19). -/
namespace Sys2Proof.Machine
open Sys2Proof
set_option Elab.async false

/-! ### What an access's beginning leaves of the objects -/

theorem State.begun_get (s : State) (dt : Nat) (who : Requester) {k : Nat} (hk : k ≠ Od.SVC_REQUESTS := by grind) :
    (s.begun dt who).get k = s.get k := State.Leaves.begun.get hk
theorem State.begun_nat (s : State) (dt : Nat) (who : Requester) {k : Nat} (hk : k ≠ Od.SVC_REQUESTS := by grind) :
    (s.begun dt who).nat k = s.nat k := State.nat_of_get (s.begun_get dt who hk)
theorem State.begun_lu (s : State) (dt : Nat) (who : Requester) (n : Fin 24) : (s.begun dt who).lu n = s.lu n :=
  State.Leaves.begun.lu n

section
variable {s t : State}

/-- The objects outside the service requests read alike. -/
def State.AgreeUpToRequests (s t : State) : Prop := ∀ k, k ≠ Od.SVC_REQUESTS → t.get k = s.get k

theorem State.begun_agrees (s : State) (dt : Nat) (who : Requester) : s.AgreeUpToRequests (s.begun dt who) :=
  fun _ hk => s.begun_get dt who hk

theorem State.AgreeUpToRequests.luRate (h : s.AgreeUpToRequests t) (n : Fin 24) : t.luRate n = s.luRate n := by
  have hn (k : Nat) (hk : k ≠ Od.SVC_REQUESTS) : t.nat k = s.nat k := State.nat_of_get (h k hk)
  have hf (k lo w : Nat) (hk : k ≠ Od.SVC_REQUESTS) : t.field k lo w = s.field k lo w := State.field_of_get (h k hk) lo w
  unfold State.luRate State.luTrigSel
  dsimp only
  rw [hf _ _ _ (by grind), hn (Od.LU_TRIG_PERIOD_us n) (by grind), hn (Od.LU_TRIG_UNIT n) (by grind), hn (Od.CELL_FSW_MAX _) (by grind),
    hn (Od.LU_TRIG_DIV n) (by grind), hn (Od.SQ_TRIG_PERIOD (s.nat (Od.LU_TRIG_UNIT n))) (by grind),
    hf (Od.SQ_SQ_CTRL (s.nat (Od.LU_TRIG_UNIT n))) _ _ (by grind)]
theorem State.AgreeUpToRequests.notchSet (h : s.AgreeUpToRequests t) (n : Fin 24) : t.notchSet n = s.notchSet n := by
  have hq (k : Nat) (hk : k ≠ Od.SVC_REQUESTS) : t.num k = s.num k := State.num_of_get (h k hk)
  rw [State.notchSet, State.notchSet, h.luRate, hq (Od.LU_NOTCH_F0 n) (by grind), hq (Od.LU_NOTCH_WIDTH n) (by grind),
    hq (Od.LU_NOTCH_DEPTH_dB n) (by grind)]
theorem State.AgreeUpToRequests.notchOk (h : s.AgreeUpToRequests t) (n : Fin 24) : t.notchOk n = s.notchOk n := by
  have hq (k : Nat) (hk : k ≠ Od.SVC_REQUESTS) : t.num k = s.num k := State.num_of_get (h k hk)
  rw [State.notchOk, State.notchOk, h.luRate, hq (Od.LU_NOTCH_F0 n) (by grind), hq (Od.LU_NOTCH_WIDTH n) (by grind),
    hq (Od.LU_NOTCH_DEPTH_dB n) (by grind)]
theorem State.AgreeUpToRequests.stagedSet (h : s.AgreeUpToRequests t) (n : Fin 24) : t.stagedSet n = s.stagedSet n := by
  refine List.map_congr_left fun i hi => State.int_of_get (h _ ?_)
  have : i < 5 := by revert i; decide
  grind
theorem State.AgreeUpToRequests.integSec (h : s.AgreeUpToRequests t) (n : Fin 24) (i : Fin 8) : t.integSec n i = s.integSec n i :=
  State.bit_of_get (h _ (by grind)) 1
end

/-! ### Commits and section control (R230, R231, Table 8.7) -/

@[simp] theorem State.lu_modLu_same (s : State) (n : Fin 24) (f : LuSt → LuSt) : (s.modLu n f).lu n = f (s.lu n) := get_upd_same _ _ _

/-- A stable set in range is taken where no commit and no queued write waits. -/
theorem State.commitEffect_ok (s : State) (n : Fin 24) (coefs : List Int)
    (hint : s.integSec n (Fin.ofNat 8 (s.nat (Od.LU_STAGE_SEC n))) = false) (hst : stable (coefs.getD 3 0) (coefs.getD 4 0) = true)
    (hfree : (s.lu n).commit = none ∧ (s.lu n).queue = []) :
    s.commitEffect n coefs true = .ok (if (s.lu n).running then
        s.modLu n fun u => { u with commit := some { sec := Fin.ofNat 8 (s.nat (Od.LU_STAGE_SEC n)), coefs := coefs } }
      else s.commitAtOnce n { sec := Fin.ofNat 8 (s.nat (Od.LU_STAGE_SEC n)), coefs := coefs }) := by
  unfold State.commitEffect
  simp only [hint, hst, hfree.1, hfree.2]
  rfl

/-- An unstable set is refused. -/
theorem State.commitEffect_unstable (s : State) (n : Fin 24) (coefs : List Int)
    (hint : s.integSec n (Fin.ofNat 8 (s.nat (Od.LU_STAGE_SEC n))) = false)
    (hst : stable (coefs.getD 3 0) (coefs.getD 4 0) = false) : s.commitEffect n coefs true = .error 0x06090030 := by
  unfold State.commitEffect
  simp only [hint, hst]
  rfl

theorem State.commit_commitAtOnce (s : State) (n : Fin 24) (c : CommitSt) : ((s.commitAtOnce n c).lu n).commit = none := by
  rw [State.commitAtOnce, State.commitDone]
  show (State.lu (State.count _ _) n).commit = none
  rw [State.Leaves.count.lu n, State.lu_modLu_same]

/-- A commit at once leaves its A1 in force. -/
theorem State.a1_commitAtOnce (s : State) (n : Fin 24) (c : CommitSt) :
    (s.commitAtOnce n c).int (Od.LU_A1 n c.sec.val) = c.coefs.getD 3 0 := by
  have hdone (u : State) (c' : CommitSt) : (u.commitDone n c').get (Od.LU_A1 n c.sec.val) = u.get (Od.LU_A1 n c.sec.val) := by
    unfold State.commitDone State.setDirSigns
    dsimp only
    rw [State.get_setN, if_neg (by grind)]
    refine (State.Leaves.count.get (k := Od.LU_A1 n c.sec.val) ⟨by grind, by grind, by grind⟩).trans ?_
    rw [State.get_modLu, State.get_setBit, if_neg (by grind)]
  rw [State.commitAtOnce, State.int_of_get (hdone _ _)]
  show State.int (((((s.setI (Od.LU_B0 n c.sec) _).setI (Od.LU_B1 n c.sec) _).setI (Od.LU_B2 n c.sec) _).setI
    (Od.LU_A1 n c.sec) (c.coefs.getD 3 0)).setI (Od.LU_A2 n c.sec) _) _ = _
  rw [State.int, State.get_setI, if_neg (by grind), State.get_setI, if_pos rfl]
  rfl

/-- An accepted commit of a stable set: pending on a unit that runs, in force on another. -/
theorem State.commit_completes {s : State} {dt : Nat} {who : Requester} {n : Fin 24} {coefs : List Int}
    {effect : State → Except Nat State} (ha : s.accepts dt who (Od.LU_COMMIT n) .service = true)
    (he : effect (s.begun dt who) = (s.begun dt who).commitEffect n coefs true)
    (hint : s.integSec n (Fin.ofNat 8 (s.nat (Od.LU_STAGE_SEC n))) = false)
    (hst : stable (coefs.getD 3 0) (coefs.getD 4 0) = true) (hfree : (s.lu n).commit = none ∧ (s.lu n).queue = []) :
    ∃ t, reply s ((s.elapse dt).request who (Od.LU_COMMIT n) .service effect) = .next t ∧
      ((t.lu n).commit = if (s.lu n).running then some { sec := Fin.ofNat 8 (s.nat (Od.LU_STAGE_SEC n)), coefs := coefs }
        else none) ∧
      ((s.lu n).running = false → t.int (Od.LU_A1 n (Fin.ofNat 8 (s.nat (Od.LU_STAGE_SEC n))).val) = coefs.getD 3 0) ∧
      t.answered who = true := by
  have hsec : (s.begun dt who).nat (Od.LU_STAGE_SEC n) = s.nat (Od.LU_STAGE_SEC n) := s.begun_nat dt who (by grind)
  have hlu : (s.begun dt who).lu n = s.lu n := s.begun_lu dt who n
  have hok := (s.begun dt who).commitEffect_ok n coefs (by rw [hsec, (s.begun_agrees dt who).integSec, hint]) hst (by rw [hlu]; exact hfree)
  rw [hsec, hlu] at hok
  refine ⟨_, State.accepted_completes ha (he.trans hok) ?_, ?_, ?_, State.answered_emit _ _ _⟩
  · split
    · exact s.begun_pending dt who
    · exact (State.Leaves.commitAtOnce.part .pending).trans (s.begun_pending dt who)
  · show (State.lu (if _ then _ else _) n).commit = _
    split
    · rw [State.lu_modLu_same]
    · exact State.commit_commitAtOnce _ _ _
  · intro hstill
    rw [hstill]
    exact State.a1_commitAtOnce (s.begun dt who) n { sec := Fin.ofNat 8 (s.nat (Od.LU_STAGE_SEC n)), coefs := coefs }

/-- Settles O19, one clause per way of committing and for SEC_CTRL. -/
theorem loopUnitCommitsComplete : Obligations.LoopUnitCommitsComplete := by
  refine ⟨?_, ?_, ?_⟩
  · intro s dt who n ha hint hst hfree
    refine State.commit_completes ha ?_ hint hst hfree
    show State.commitEffect _ _ _ _ = _
    rw [(s.begun_agrees dt who).stagedSet]
  · intro s dt who n ha hok hint hfree
    have he : (s.begun dt who).commitEffect n ((s.begun dt who).notchSet n) ((s.begun dt who).notchOk n) =
        (s.begun dt who).commitEffect n (s.notchSet n) true := by
      rw [(s.begun_agrees dt who).notchSet, (s.begun_agrees dt who).notchOk, hok]
    by_cases hst : stable ((s.notchSet n).getD 3 0) ((s.notchSet n).getD 4 0) = true
    · obtain ⟨t, ht, hcommit, -, -⟩ := State.commit_completes ha he hint hst hfree
      exact ⟨t, ht, fun _ => hcommit, fun h => by rw [hst] at h; cases h⟩
    · have hun := (Bool.not_eq_true _).mp hst
      refine ⟨_, State.refused_completes ha (he.trans (State.commitEffect_unstable _ n _ ?_ hun)), fun h => absurd h hst,
        fun _ => State.refusedWith_begun _ _ _ _⟩
      rw [s.begun_nat dt who (by grind), (s.begun_agrees dt who).integSec, hint]
  · intro s dt who n i v ha hv hkeep hfree
    have hlu : (s.begun dt who).lu n = s.lu n := s.begun_lu dt who n
    have hkey : (s.begun dt who).nat (Od.LU_SEC_CTRL n i) = s.nat (Od.LU_SEC_CTRL n i) := s.begun_nat dt who (by grind)
    have he : State.secCtrlEffect n i v.toNat (s.begun dt who) = .ok
        (((s.begun dt who).setN (Od.LU_SEC_CTRL n i) v.toNat).when
          (v.toNat.testBit 0 && !(s.begun dt who).bit (Od.LU_SEC_CTRL n i) 0) fun s => s.holdStarts n i) := by
      have hrun : ((s.lu n).running && v.toNat / 2 != s.nat (Od.LU_SEC_CTRL n i) / 2) = false := by
        cases h : (s.lu n).running
        · rfl
        · simp [hkeep h]
      unfold State.secCtrlEffect
      dsimp only
      rw [hlu, hkey, hrun, hfree]
      simp [refuseIf, Nat.not_le.2 hv]
    refine ⟨_, State.accepted_completes ha he ?_, ?_, State.answered_emit _ _ _⟩
    · exact (State.when_same (f := fun s => s.holdStarts n i) State.pending _ (fun _ => rfl) _).trans (s.begun_pending dt who)
    · show State.nat (State.when _ _ _) _ = _
      refine (State.when_same (f := fun s => s.holdStarts n i) (·.nat (Od.LU_SEC_CTRL n i)) _ (fun _ => rfl) _).trans ?_
      rw [State.nat_setN, if_pos rfl]

end Sys2Proof.Machine
end

section
/-! PROOFS. References, take-over and silence of the time master (O40). -/
namespace Sys2Proof.Machine
open Sys2Proof
set_option Elab.async false

/-- What a module remembers of the masters it hears. -/
def TimeSt.listening (t : TimeSt) : List (Nat × Nat) × Nat × Nat := (t.heard, t.lossTb, t.rank)

theorem State.time_event (s : State) (code high : Nat) : (s.timeEvent code high).time = s.time := rfl
theorem State.time_count (s : State) (c : Counter) : (s.count c).time = s.time := State.Leaves.count.part .time

theorem State.listening_loseSync (s : State) : s.loseSync.time.listening = s.time.listening := rfl
theorem State.listening_applyOffset (s : State) (change : Int) : (s.applyOffset change).time.listening = s.time.listening := by
  unfold State.applyOffset
  dsimp only
  split <;> rfl
theorem State.listening_rejectOffset (s : State) : s.rejectOffset.time.listening = s.time.listening := by
  unfold State.rejectOffset
  dsimp only
  split
  · rw [State.listening_loseSync, State.time_count]; rfl
  · rw [State.time_count]; rfl
theorem State.listening_correct (s : State) (gtPrev sof0 : Nat) : (s.correct gtPrev sof0).time.listening = s.time.listening := by
  unfold State.correct
  dsimp only
  split
  · exact s.listening_rejectOffset
  · exact s.listening_applyOffset _
theorem State.listening_useReference (s : State) (rank gtPrev : Nat) (invalid : Bool) (sof : Nat) :
    (s.useReference rank gtPrev invalid sof).time.listening = s.time.listening := by
  unfold State.useReference
  dsimp only
  split
  · split
    · rfl
    · split
      · rw [ctrTime, State.Leaves.countBy.part .time]; rfl
      · exact State.listening_correct _ _ _
  · rfl

/-- A module without a rank never outranks a master. -/
theorem State.outrank_rankless (s : State) (rank : Nat) (h : s.time.rank = 0) : s.outrank rank = s := by
  rw [State.outrank, if_neg fun hc => hc.1 h]

/-- The state in which a module that is not the master has noted a reference of the rank. -/
def State.notedReference (s : State) (rank : Nat) : State :=
  ((s.countWide Od.TIME_REFS).modTime fun t => { t with heard := noteHeard rank s.tb t.heard }).modTime fun t => { t with refTb := s.tb, lossTb := s.tb }

theorem State.refs_noted (s : State) (rank : Nat) : (s.notedReference rank).nat Od.TIME_REFS = s.nat Od.TIME_REFS + 1 := by
  show (s.countWide Od.TIME_REFS).nat Od.TIME_REFS = _
  rw [State.countWide, State.nat_setN, if_pos rfl]

/-- A reference that a module which is not the master hears. -/
theorem State.hearReference_listener (s : State) (data : List Byte) (ago : Nat) (hlen : data.length = 12)
    (hr : 1 ≤ leNat ((data.drop 8).take 1) ∧ leNat ((data.drop 8).take 1) ≤ 15) (hlive : s.busLive 1 = true)
    (hmaster : s.time.master = false) : ∃ ident v, v = (s.rxTakeId 1 ident false).notedReference (leNat ((data.drop 8).take 1)) ∧
      s.hearReference data ago = if leNat ((data.drop 8).take 1) ≠ v.lowestHeard then v
        else (v.useReference (leNat ((data.drop 8).take 1)) (leNat (data.take 8)) ((leNat ((data.drop 9).take 1)).testBit 0)
          (v.tb - ago)).outrank (leNat ((data.drop 8).take 1)) := by
  refine ⟨s.nat Od.TIME_TIME_REF_ID + leNat ((data.drop 8).take 1), _, rfl, ?_⟩
  have hlisten (i : Nat) : ¬ (s.rxTakeId 1 i false).time.master = true := by
    rw [State.Leaves.rxTakeId.part .time, hmaster]; exact Bool.false_ne_true
  unfold State.hearReference
  dsimp only
  rw [if_neg (by rw [hlive]; simp; omega)]
  exact if_neg (hlisten (s.nat Od.TIME_TIME_REF_ID + leNat ((data.drop 8).take 1)))

/-- A reference that a module without rank hears is counted, and its rank and time are kept. -/
theorem State.hearReference_spec (s : State) (data : List Byte) (ago : Nat) (hlen : data.length = 12)
    (hr : 1 ≤ leNat ((data.drop 8).take 1) ∧ leNat ((data.drop 8).take 1) ≤ 15) (hlive : s.busLive 1 = true)
    (hm : s.time.master = false ∧ s.time.rank = 0) :
    (s.hearReference data ago).nat Od.TIME_REFS = s.nat Od.TIME_REFS + 1 ∧
      (s.hearReference data ago).time.listening =
        (noteHeard (leNat ((data.drop 8).take 1)) s.tb s.time.heard, s.tb, 0) := by
  obtain ⟨ident, v, hv, heq⟩ := s.hearReference_listener data ago hlen hr hlive hm.1
  have hcount : v.nat Od.TIME_REFS = s.nat Od.TIME_REFS + 1 := by
    rw [hv, State.refs_noted, State.nat_of_get (State.Leaves.rxTakeId.get trivial)]
  have hheard : v.time.listening = (noteHeard (leNat ((data.drop 8).take 1)) s.tb s.time.heard, s.tb, 0) := by
    have htb : (s.rxTakeId 1 ident false).tb = s.tb := State.Leaves.rxTakeId.part .tb
    have htime : (s.rxTakeId 1 ident false).time = s.time := State.Leaves.rxTakeId.part .time
    rw [← hm.2, ← htb, ← htime, hv]
    rfl
  rw [heq]
  split
  · exact ⟨hcount, hheard⟩
  · rw [State.outrank_rankless]
    · exact ⟨(State.nat_of_get (State.Leaves.useReference.get (by decide))).trans hcount,
        (State.listening_useReference _ _ _ _ _).trans hheard⟩
    · exact congrArg (fun x => x.2.2) ((State.listening_useReference _ _ _ _ _).trans hheard)

/-- Settles O40, one clause per command of global time. -/
theorem globalTimeCommandsComplete : Obligations.GlobalTimeCommandsComplete := by
  refine ⟨?_, ?_, ?_, ?_⟩
  · intro s dt hmaster hsent
    refine ⟨(s.elapse dt).sendReference, State.Leaves.sendReference.completes, ?_⟩
    unfold State.sendReference
    rw [if_pos ⟨hmaster, hsent⟩]
    dsimp only
    rw [State.Leaves.slotWrite.part .time]
    split <;> exact ⟨rfl, hmaster⟩
  · intro s dt ago data hlen hr hlive hm
    refine ⟨(s.elapse dt).hearReference data ago, State.Leaves.hearReference.completes, ?_⟩
    obtain ⟨hcount, hheard⟩ := (s.elapse dt).hearReference_spec data ago hlen hr hlive hm
    have hlist : (State.time _).heard = _ := congrArg (fun x => x.1) hheard
    have hloss : (State.time _).lossTb = _ := congrArg (fun x => x.2.1) hheard
    refine ⟨hcount, hloss, ?_⟩
    rw [hlist]
    exact List.mem_cons_self
  · intro s dt ⟨hrank, hmaster⟩ ⟨hbus, hup⟩ hdue
    refine ⟨(s.elapse dt).takeOver, State.Leaves.takeOver.completes, ?_⟩
    unfold State.takeOver
    rw [if_pos ⟨hrank, by rw [State.elapse_time, hmaster]; rfl, hbus, hup, hdue⟩]
    unfold State.becomeMaster
    dsimp only
    rw [State.time_event, State.time_count]
    refine ⟨⟨rfl, rfl⟩, ?_⟩
    show State.nat (State.count _ _) _ = _
    rw [State.nat_of_get (State.Leaves.count.get (by decide)), State.nat_setN, if_pos rfl]
    rfl
  · intro s dt ⟨hsync, hmaster⟩ hdue
    refine ⟨(s.elapse dt).syncSilence, State.Leaves.syncSilence.completes, ?_⟩
    unfold State.syncSilence
    rw [if_pos ⟨hsync, by rw [State.elapse_time, hmaster]; rfl, hdue⟩]
    refine ⟨rfl, ?_⟩
    rw [State.nat_of_get (State.Leaves.loseSync.get trivial), State.nat_setN, if_pos rfl]

end Sys2Proof.Machine
end

section
/-! PROOFS. CONFIG_REQ of Pyreri (O34). -/
namespace Sys2Proof.Machine
open Sys2Proof
set_option Elab.async false

/-! ### Bits of a field -/

theorem withField_above (n v : Nat) {lo w m : Nat} (h : lo + w ≤ m) : (withField n lo w v).testBit m = n.testBit m := by
  have hlo := Nat.two_pow_pos lo
  have hw := Nat.two_pow_pos w
  have hlow : withField n lo w v / 2 ^ lo = 2 ^ w * (n / 2 ^ lo / 2 ^ w) + v % 2 ^ w := by
    have hmod := Nat.div_add_mod (n / 2 ^ lo) (2 ^ w)
    rw [withField, Nat.add_mul_div_right _ _ hlo, Nat.mul_comm (_ % _) (2 ^ lo), Nat.sub_mul_div]
    omega
  have hhigh : withField n lo w v / 2 ^ (lo + w) = n / 2 ^ (lo + w) := by
    rw [Nat.pow_add, ← Nat.div_div_eq_div_mul, ← Nat.div_div_eq_div_mul, hlow, Nat.mul_add_div hw,
      Nat.div_eq_of_lt (Nat.mod_lt _ hw), Nat.add_zero]
  have hsplit (x : Nat) : x.testBit m = (x / 2 ^ (lo + w)).testBit (m - (lo + w)) := by
    rw [Nat.testBit_div_two_pow, Nat.sub_add_cancel h]
  rw [hsplit, hhigh, ← hsplit]
theorem State.bit_setField_above (s : State) (k v : Nat) {lo w m : Nat} (h : lo + w ≤ m) :
    (s.setField k lo w v).bit k m = s.bit k m := by
  rw [State.bit, State.setField, State.nat_setN, if_pos rfl, withField_above _ _ h]
  rfl

/-! ### What the record and the answer of a write leave -/

section
variable (s : State) (who : Requester) (key : Nat) (o : Output)
theorem State.get_replied (k : Nat) : ((s.noteWrite who key).emit o).get k = s.get k := rfl
theorem State.nat_replied (k : Nat) : ((s.noteWrite who key).emit o).nat k = s.nat k := State.nat_of_get (s.get_replied who key o k)
theorem State.bit_replied (k b : Nat) : ((s.noteWrite who key).emit o).bit k b = s.bit k b :=
  State.bit_of_get (s.get_replied who key o k) b
end

/-! ### Pyreri's status bits -/

theorem State.pyrBit_setPyrBit_same (s : State) (b : Nat) (v : Bool) : (s.setPyrBit b v).pyrBit b = v := State.bit_setBit_same _ _ _ _
theorem State.pyrBit_setPyrBit_ne (s : State) {b c : Nat} (v : Bool) (h : c ≠ b) : (s.setPyrBit b v).pyrBit c = s.pyrBit c :=
  State.bit_setBit_other _ _ _ _ _ h
theorem State.config_setPyrBit (s : State) (b : Nat) (v : Bool) : (s.setPyrBit b v).config = s.config :=
  State.nat_setBit_ne _ _ _ _ _ (by decide)
theorem State.pyrBit_setFlt (s : State) (v : Bool) {c : Nat} (h : c ≠ 3 ∧ c ≠ 4) : (s.setFlt v).pyrBit c = s.pyrBit c :=
  (State.pyrBit_setPyrBit_ne _ v h.2).trans (State.pyrBit_setPyrBit_ne _ v h.1)

theorem State.pyrBit_setConfig (s : State) (v b : Nat) : (s.setN Od.PYR_CONFIG_ACT v).pyrBit b = s.pyrBit b :=
  State.bit_of_get ((s.get_setN _ _ _).trans (if_neg (by decide))) b
theorem State.pyrBit_setStartup (s : State) (v b : Nat) : (s.setN Od.PYR_STARTUP_RESULT v).pyrBit b = s.pyrBit b :=
  State.bit_of_get ((s.get_setN _ _ _).trans (if_neg (by decide))) b
theorem State.config_setStartup (s : State) (v : Nat) : (s.setN Od.PYR_STARTUP_RESULT v).config = s.config :=
  State.nat_of_get ((s.get_setN _ _ _).trans (if_neg (by decide)))

theorem State.begun_config (s : State) (dt : Nat) (who : Requester) : (s.begun dt who).config = s.config :=
  s.begun_nat dt who (by decide)
theorem State.begun_pyrBit (s : State) (dt : Nat) (who : Requester) (b : Nat) : (s.begun dt who).pyrBit b = s.pyrBit b :=
  State.bit_of_get (s.begun_get dt who (by decide)) b
theorem State.begun_pyr (s : State) (dt : Nat) (who : Requester) : (s.begun dt who).pyr = s.pyr := State.Leaves.begun.part .pyr
theorem State.begun_configBusy (s : State) (dt : Nat) (who : Requester) : (s.begun dt who).configBusy = s.configBusy := by
  simp only [State.configBusy, s.begun_config, s.begun_pyrBit, s.begun_pyr]
theorem State.begun_configRefused (s : State) (dt : Nat) (who : Requester) (c : Nat) :
    (s.begun dt who).configRefused c = s.configRefused c := by
  have hallowed : (s.begun dt who).nat Od.PP_PYR_ALLOWED = s.nat Od.PP_PYR_ALLOWED := s.begun_nat dt who (by decide)
  simp only [State.configRefused, s.begun_configBusy, s.begun_config, hallowed]

/-! ### Torque-off pairs (R24, Table 15.7) -/

theorem State.tqo_of_core {s t : State} {w : Drive} (h : (t.drv w).core = (s.drv w).core) : (t.drv w).tqo = (s.drv w).tqo := by
  show (t.drv w).core.tqo = (s.drv w).core.tqo
  rw [h]

theorem State.core_removeSupplies (s : State) (d w : Drive) : ((s.removeSupplies d).drv w).core = (s.drv w).core := by
  have hoff (c : Cell) (t : State) (h : (t.drv w).core = (s.drv w).core) (b : Bool) :
      ((t.when b fun s => s.setBit (Od.CELL_SELFTEST_RESULT c) 14 true).drv w).core = (s.drv w).core := by
    cases b <;> exact h
  unfold State.removeSupplies
  refine State.each_keeps (P := fun t => (t.drv w).core = (s.drv w).core) _ (fun c _ t h => ?_) _ ?_
  · dsimp only
    split
    · show ((State.enterAsc _ c).drv w).core = _
      rw [State.Leaves.enterAsc.drv w]
      exact hoff c t h _
    · rw [State.Leaves.offCell.drv w]
      exact hoff c t h _
  · exact DriveCore.modDrv (fun _ => rfl) (DriveCore.haltSequences rfl)

theorem State.tqo_torqueOff (s : State) (d w : Drive) (h : w = d ∨ (s.drv w).tqo = true) : ((s.torqueOff d).drv w).tqo = true := by
  unfold State.torqueOff
  dsimp only
  generalize hu : (s.when _ fun s => s.count (ctrTqo d.num)) = u
  have hdrv : u.drv w = s.drv w := by
    rw [← hu]
    exact State.when_same (f := fun s => s.count (ctrTqo d.num)) (·.drv w) _ (fun t => State.Leaves.count.drv w) s
  have hset : ((u.modDrv d fun x => { x with tqo := true, tqoTb := some u.tb }).drv w).tqo = true := by
    rw [State.drv_modDrv]
    split
    · rfl
    · next hne => rw [hdrv]; exact h.resolve_left hne
  have hremove : (((u.modDrv d fun x => { x with tqo := true, tqoTb := some u.tb }).removeSupplies d).drv w).tqo = true := by
    rw [State.tqo_of_core (State.core_removeSupplies _ d w)]
    exact hset
  split
  · exact hremove
  · rw [State.tqo_of_core (State.core_goto _ d _ _ w)]
    exact hremove

/-- SPLIT asserts every torque-off pair and shows itself. -/
theorem State.enterSplit_spec (s : State) : s.enterSplit.config = 3 ∧ s.enterSplit.pyrBit 19 = true ∧
    ∀ d : Drive, (s.enterSplit.drv d).tqo = true := by
  unfold State.enterSplit
  dsimp only
  generalize hu : (s.each Drive.all fun d s => s.torqueOff d) = u
  have htqo (d : Drive) : (u.drv d).tqo = true := by
    rw [← hu]
    exact State.each_reaches (P := fun d t => (t.drv d).tqo = true) (fun d t => t.tqo_torqueOff d d (.inl rfl))
      (fun d b t h => t.tqo_torqueOff b d (.inr h)) _ _ (by cases d <;> decide)
  generalize hv : State.setFlt _ true = v
  have hconfig : v.config = 3 := by
    show v.nat Od.PYR_CONFIG_ACT = 3
    rw [← hv, State.nat_of_get (State.Leaves.setFlt.get (by decide)), State.nat_setN, if_pos rfl]
  have hbit : v.pyrBit 19 = true := by
    rw [← hv, State.pyrBit_setFlt _ _ (by decide)]
    rw [State.pyrBit_setConfig]
    refine (State.bit_setField_above _ _ _ (by decide)).trans ?_
    exact (State.pyrBit_setPyrBit_ne _ _ (by decide)).trans
      ((State.pyrBit_setPyrBit_ne _ _ (by decide)).trans (State.pyrBit_setPyrBit_same _ _ _))
  have hlate (k : Nat) (hk : k = Od.PYR_CONFIG_ACT ∨ k = Od.PYR_PYR_STATUS) :
      ((v.soOff.connsOff.event 0x0D0E 0xFF (v.pyrDetail 0 0)).refreshSf).get k = v.get k := by
    refine (State.Leaves.refreshSf.get ?_).trans ((State.Leaves.event.get trivial).trans
      ((State.Leaves.connsOff.get ?_).trans (State.Leaves.soOff.get trivial)))
    · rcases hk with rfl | rfl <;> decide
    · rcases hk with rfl | rfl <;> decide
  have hlater := hlate Od.PYR_CONFIG_ACT (.inl rfl)
  have hlaterBit := hlate Od.PYR_PYR_STATUS (.inr rfl)
  refine ⟨(State.nat_of_get hlater).trans hconfig, (State.bit_of_get hlaterBit 19).trans hbit, fun d => ?_⟩
  rw [State.Leaves.refreshSf.drv d, State.Leaves.event.drv d, State.Leaves.connsOff.drv d, State.Leaves.soOff.drv d, ← hv, State.Leaves.setFlt.drv d]
  exact htqo d

theorem State.pending_enterSplit (s : State) : s.enterSplit.pending = s.pending := State.Leaves.enterSplit.part .pending

/-- Leaving SPLIT restarts Pyreri and its tests. -/
theorem State.leaveSplit_spec (s : State) : s.leaveSplit.config = 0 ∧ s.leaveSplit.pyr.retest = true ∧
    s.leaveSplit.pyrBit 1 = false ∧ s.leaveSplit.pyrBit 2 = false := by
  unfold State.leaveSplit
  dsimp only
  refine ⟨?_, rfl, ?_, ?_⟩
  · rw [State.config_setStartup, State.config_setPyrBit, State.config_setPyrBit]
    show State.nat (State.modPyr (State.setN _ Od.PYR_CONFIG_ACT 0) _) Od.PYR_CONFIG_ACT = 0
    rw [State.nat_of_get (State.get_modPyr _ _ _), State.nat_setN, if_pos rfl]
  · rw [State.pyrBit_setStartup, State.pyrBit_setPyrBit_ne _ _ (by decide), State.pyrBit_setPyrBit_same]
  · rw [State.pyrBit_setStartup, State.pyrBit_setPyrBit_same]

/-- A request of SPLIT that nothing refuses enters it. -/
theorem State.configEffect_split (s : State) (dt : Nat) (who : Requester) (hfree : s.configRefused 3 = false)
    (hdrives : ∀ d ∈ Drive.all, s.ds d = .unavailable ∨ s.ds d = .standby ∨ s.ds d = .inhibit) :
    State.configEffect 3 (s.begun dt who) = .ok (s.begun dt who).enterSplit := by
  have hall : (Drive.all.all fun d => decide ((s.begun dt who).ds d = .unavailable ∨ (s.begun dt who).ds d = .standby ∨
      (s.begun dt who).ds d = .inhibit)) = true := by
    rw [List.all_eq_true]
    intro d hd
    rw [State.Leaves.begun.ds d]
    exact decide_eq_true (hdrives d hd)
  rw [State.configEffect, s.begun_configRefused, hfree, hall]
  rfl

/-- The command that ends in a state of SPLIT. -/
theorem State.split_completes {s u : State} {dt : Nat} {who : Requester} (ha : s.accepts dt who Od.PYR_CONFIG_REQ .safety = true)
    (he : State.configEffect 3 (s.begun dt who) = .ok u) (hpending : u.pending = s.pending)
    (hu : u.config = 3 ∧ u.pyrBit 19 = true ∧ ∀ d : Drive, (u.drv d).tqo = true) :
    ∃ t, exec (.configReqSplit dt who) s = .next t ∧ t.config = 3 ∧ t.pyrBit 19 = true ∧ (∀ d : Drive, (t.drv d).tqo = true) ∧
      t.answered who = true :=
  ⟨_, State.accepted_completes ha he hpending, hu.1, hu.2.1, hu.2.2, State.answered_emit _ _ _⟩

/-- Settles O34, one clause per value of CONFIG_REQ. -/
theorem configurationCommandsComplete : Obligations.ConfigurationCommandsComplete := by
  refine ⟨?_, ?_, ?_, ?_⟩
  · intro s dt who ha hfree
    have he : State.configEffect 1 (s.begun dt who) = .ok ((((s.begun dt who).modPyr fun x =>
        { x with handOver := some .copying, copyTb := (s.begun dt who).tb }).setPyrBit 16 true).setPyrBit 17 false) := by
      rw [State.configEffect, s.begun_configRefused, hfree]
      rfl
    refine ⟨_, State.accepted_completes ha he (s.begun_pending dt who), rfl, ⟨?_, ?_⟩, ?_, State.answered_emit _ _ _⟩
    · rw [State.pyrBit, State.bit_replied]
      exact (State.pyrBit_setPyrBit_ne _ _ (by decide)).trans (State.pyrBit_setPyrBit_same _ _ _)
    · rw [State.pyrBit, State.bit_replied]
      exact State.pyrBit_setPyrBit_same _ _ _
    · rw [State.config, State.nat_replied]
      exact (State.config_setPyrBit _ _ _).trans ((State.config_setPyrBit _ _ _).trans (s.begun_config dt who))
  · intro s dt who ha hfree
    have he : State.configEffect 2 (s.begun dt who) = .ok (((s.begun dt who).modPyr fun x =>
        { x with handOver := some .toPair }).setPyrBit 16 true) := by
      rw [State.configEffect, s.begun_configRefused, hfree]
      rfl
    refine ⟨_, State.accepted_completes ha he (s.begun_pending dt who), rfl, ?_, ?_, State.answered_emit _ _ _⟩
    · rw [State.pyrBit, State.bit_replied]
      exact State.pyrBit_setPyrBit_same _ _ _
    · rw [State.config, State.nat_replied]
      exact (State.config_setPyrBit _ _ _).trans (s.begun_config dt who)
  · intro s dt who ha hfree hdrives
    have he := s.configEffect_split dt who hfree hdrives
    have hpending : (s.begun dt who).enterSplit.pending = s.pending := by
      rw [State.pending_enterSplit, s.begun_pending]
    have hspec := (s.begun dt who).enterSplit_spec
    exact State.split_completes ha he hpending hspec
  · intro s dt who ha ⟨hfree, hsplit⟩
    have he : State.configEffect 4 (s.begun dt who) = .ok (s.begun dt who).leaveSplit := by
      rw [State.configEffect, s.begun_configBusy, s.begun_config, hfree, hsplit]
      rfl
    obtain ⟨hconfig, hretest, h1, h2⟩ := (s.begun dt who).leaveSplit_spec
    have hpending : (s.begun dt who).leaveSplit.pending = s.pending :=
      (State.Leaves.leaveSplit (s := s.begun dt who)).part .pending |>.trans (s.begun_pending dt who)
    generalize (s.begun dt who).leaveSplit = u at he hpending hconfig hretest h1 h2
    exact ⟨_, State.accepted_completes ha he hpending, hconfig, hretest, ⟨h1, h2⟩, State.answered_emit _ _ _⟩

end Sys2Proof.Machine
end

section
/-! PROOFS. Recalibrations of a shunt channel (O10). -/
namespace Sys2Proof.Machine
open Sys2Proof
set_option Elab.async false

/-- What one update of a list does and the others leave alone holds at the end. -/
theorem State.each_takes {α : Type} {Q P : State → Prop} {f : α → State → State} {a : α} (htake : ∀ s, Q s → P (f a s))
    (hwait : ∀ b s, b ≠ a → Q s → Q (f b s)) (hkeep : ∀ b s, P s → P (f b s)) (l : List α) (ha : a ∈ l) (s : State) (h : Q s) :
    P (s.each l f) := by
  induction l generalizing s with
  | nil => cases ha
  | cons b l ih =>
    by_cases hb : b = a
    · subst hb
      exact State.each_keeps l (fun c _ t => hkeep c t) _ (htake s h)
    · exact ih (List.mem_of_ne_of_mem (Ne.symm hb) ha) _ (hwait b s hb h)

/-! ### Channels -/

theorem mem_cellLegList (l : Leg) : l ∈ cellLegList (cellOf (legCell l)) := by revert l; decide
@[simp] theorem State.shunts_modShunt_same (s : State) (l : Leg) (f : ShuntSt → ShuntSt) :
    (s.modShunt l f).shunts.get l = f (s.shunts.get l) := get_upd_same _ _ _
theorem State.shunts_modShunt (s : State) (l m : Leg) (f : ShuntSt → ShuntSt) :
    (s.modShunt l f).shunts.get m = if m = l then f (s.shunts.get l) else s.shunts.get m := get_upd _ _ _ _

theorem State.shunts_newOffset (s : State) (l : Leg) (v : Int) : (s.newOffset l v).shunts = s.shunts :=
  State.Leaves.newOffset.part .shunts
theorem State.shunts_calEnd (s : State) (l m : Leg) : (s.calEnd l).shunts.get m =
    if m = l then { s.shunts.get l with collecting := false, lateLogged := false, base := s.tb } else s.shunts.get m := by
  show (State.shunts (State.count _ _)).get m = _
  rw [State.Leaves.count.part .shunts]
  exact State.shunts_modShunt _ _ _ _

theorem State.takeOffset_none (s : State) (l : Leg) (h : (s.shunts.get l).next = none) : s.takeOffset l = s := by
  unfold State.takeOffset
  dsimp only
  rw [h]

/-- The channel before its step: with the mean of the zero reference of an offset that is measured anew. -/
def State.armed (s : State) (l : Leg) : Option (Int × Rat) → State
  | some (a, z) => (s.setI (Od.SH_OFFSET_ARM l) a).modShunt l fun x => { x with zArm := z }
  | none => s

theorem State.takeOffset_some (s : State) (l : Leg) {v : Int} (h : (s.shunts.get l).next = some v) : s.takeOffset l =
    (((((s.armed l (s.shunts.get l).nextArm).modShunt l fun x => { x with next := none, nextArm := none }).newOffset l v).calEnd
      l).setBit (Od.SH_CH_STATUS l) 6 false) := by
  unfold State.takeOffset
  dsimp only
  rw [h]
  rfl

theorem State.shunts_armed_ne (s : State) {l m : Leg} (h : m ≠ l) (arm : Option (Int × Rat)) :
    (s.armed l arm).shunts.get m = s.shunts.get m := by
  cases arm with
  | none => rfl
  | some p => exact (State.shunts_modShunt _ _ _ _).trans (if_neg h)
theorem State.tb_armed (s : State) (l : Leg) (arm : Option (Int × Rat)) : (s.armed l arm).tb = s.tb := by
  cases arm <;> rfl

/-- Another channel's step leaves a channel alone. -/
theorem State.shunts_takeOffset_ne (s : State) {l m : Leg} (h : m ≠ l) : (s.takeOffset l).shunts.get m = s.shunts.get m := by
  cases hn : (s.shunts.get l).next with
  | none => rw [s.takeOffset_none l hn]
  | some v =>
    rw [s.takeOffset_some l hn]
    rw [State.setBit_shunts, State.shunts_calEnd, if_neg h, State.shunts_newOffset, State.shunts_modShunt, if_neg h, State.shunts_armed_ne _ h]

theorem State.get_takeOffset_ne (s : State) {l m : Leg} (h : m ≠ l) (k : Nat) (hk : k = Od.SH_OFFSET m ∨ k = Od.SH_OFFSET_ARM m) :
    (s.takeOffset l).get k = s.get k := by
  have hne : m.val ≠ l.val := fun e => h (Fin.ext e)
  refine State.Leaves.takeOffset.get ?_
  rcases hk with rfl | rfl <;> exact ⟨by grind, by grind, by grind, by grind, by grind, by grind⟩

/-- A channel that has found an offset and waits for the other channels of its cell. -/
def State.OffsetWaits (l : Leg) (v : Int) (arm : Option (Int × Rat)) (tb : Nat) (s : State) : Prop :=
  (s.shunts.get l).next = some v ∧ (s.shunts.get l).nextArm = arm ∧ s.tb = tb

/-- A channel whose offset has been renewed. -/
def State.OffsetTaken (l : Leg) (v : Int) (arm : Option (Int × Rat)) (tb : Nat) (s : State) : Prop :=
  s.int (Od.SH_OFFSET l) = v ∧ (∀ a z, arm = some (a, z) → s.int (Od.SH_OFFSET_ARM l) = a) ∧ (s.shunts.get l).next = none ∧
    (s.shunts.get l).collecting = false ∧ (s.shunts.get l).base = tb

theorem State.int_newOffset (s : State) (l : Leg) (v : Int) : (s.newOffset l v).int (Od.SH_OFFSET l) = v := by
  have hset : (s.setI (Od.SH_OFFSET l) v).int (Od.SH_OFFSET l) = v := by
    rw [State.int, State.get_setI, if_pos rfl]; rfl
  unfold State.newOffset
  dsimp only
  split
  · rw [State.int_of_get (State.Leaves.event.get trivial),
      State.int_of_get ((State.get_setBit _ _ _ _ _).trans (if_neg (by grind))), hset]
  · exact hset

theorem State.takeOffset_takes (s : State) {l : Leg} {v : Int} {arm : Option (Int × Rat)} {tb : Nat} (h : s.OffsetWaits l v arm tb) :
    (s.takeOffset l).OffsetTaken l v arm tb := by
  obtain ⟨hnext, harm, htb⟩ := h
  rw [s.takeOffset_some l hnext, harm]
  generalize hu : ((s.armed l arm).modShunt l fun x => { x with next := none, nextArm := none }) = u
  have hlate {k : Nat} (hk : k ≠ Od.SH_CH_STATUS l ∧ k ≠ Od.CNT_CNT_OVF_MAP ∧ k ≠ Od.SH_CAL_COUNT l ∧ k ≠ Od.SH_LAST_CAL_TB l) :
      (((u.newOffset l v).calEnd l).setBit (Od.SH_CH_STATUS l) 6 false).get k = (u.newOffset l v).get k :=
    ((State.get_setBit _ _ _ _ _).trans (if_neg hk.1)).trans (State.Leaves.calEnd.get ⟨hk.2.1, hk.2.2.1, hk.1, hk.2.2.2⟩)
  have hshunt : ((((u.newOffset l v).calEnd l).setBit (Od.SH_CH_STATUS l) 6 false).shunts.get l) =
      { u.shunts.get l with collecting := false, lateLogged := false, base := tb } := by
    rw [State.setBit_shunts, State.shunts_calEnd, if_pos rfl, State.shunts_newOffset, State.Leaves.newOffset.part .tb, ← htb, ← s.tb_armed l arm, ← hu]
    rfl
  refine ⟨?_, fun a z ha => ?_, ?_, ?_, ?_⟩
  · rw [State.int_of_get (hlate ⟨by grind, by grind, by grind, by grind⟩), State.int_newOffset]
  · rw [State.int_of_get (hlate ⟨by grind, by grind, by grind, by grind⟩),
      State.int_of_get (State.Leaves.newOffset.get ⟨by grind, by grind⟩), ← hu, ha]
    show (State.setI s _ a).int _ = a
    rw [State.int, State.get_setI, if_pos rfl]
    rfl
  · rw [hshunt, ← hu, State.shunts_modShunt_same]
  · rw [hshunt]
  · rw [hshunt]

/-- With no channel of its cell collecting, what a channel has found is taken. -/
theorem State.found_taken (s : State) (l : Leg) (v : Int) (arm : Option (Int × Rat))
    (hothers : ∀ m ∈ cellLegList (cellOf (legCell l)), m ≠ l → (s.shunts.get m).collecting = false) :
    (s.found l v arm).OffsetTaken l v arm s.tb := by
  unfold State.found State.takeOffsets
  generalize hu : (s.modShunt l fun x =>
    { x with collecting := false, lateLogged := false, next := some v, nextArm := arm }) = u
  have hl : u.shunts.get l = { s.shunts.get l with collecting := false, lateLogged := false, next := some v, nextArm := arm } := by
    rw [← hu, State.shunts_modShunt_same]
  have hnone : ¬ (cellLegList (cellOf (legCell l))).any (fun n => (u.shunts.get n).collecting) = true := by
    rw [Bool.not_eq_true, List.any_eq_false]
    intro m hm
    by_cases hml : m = l
    · rw [hml, hl]; exact Bool.false_ne_true
    · rw [← hu, State.shunts_modShunt, if_neg hml, hothers m hm hml]; exact Bool.false_ne_true
  rw [if_neg hnone]
  refine State.each_takes (Q := State.OffsetWaits l v arm s.tb) (fun t ht => t.takeOffset_takes ht) (fun m t hm ht => ?_)
    (fun m t ht => ?_) _ (mem_cellLegList l) u ⟨by rw [hl], by rw [hl], by rw [← hu]; rfl⟩
  · rw [State.OffsetWaits, t.shunts_takeOffset_ne (Ne.symm hm), State.Leaves.takeOffset.part .tb]
    exact ht
  · by_cases hml : m = l
    · rw [hml, t.takeOffset_none l ht.2.2.1]
      exact ht
    · rw [State.OffsetTaken, t.shunts_takeOffset_ne (Ne.symm hml), State.int_of_get (t.get_takeOffset_ne (Ne.symm hml) _ (.inl rfl)),
        State.int_of_get (t.get_takeOffset_ne (Ne.symm hml) _ (.inr rfl))]
      exact ht

/-- While another channel of the cell collects, what a channel has found waits. -/
theorem State.found_waits (s : State) (l m : Leg) (v : Int) (arm : Option (Int × Rat))
    (hm : m ∈ cellLegList (cellOf (legCell l)) ∧ m ≠ l ∧ (s.shunts.get m).collecting = true) :
    s.found l v arm = s.modShunt l fun x => { x with collecting := false, lateLogged := false, next := some v, nextArm := arm } := by
  unfold State.found State.takeOffsets
  refine if_pos (List.any_eq_true.2 ⟨m, hm.1, ?_⟩)
  rw [State.shunts_modShunt, if_neg hm.2.1]
  exact hm.2.2

/-! ### A calibration that is repeated -/

/-- The channel is due again, and has nothing to take. -/
def State.CalAgain (l : Leg) (off : Int) (tb : Nat) (s : State) : Prop :=
  s.int (Od.SH_OFFSET l) = off ∧ (s.shunts.get l).collecting = false ∧ (s.shunts.get l).next = none ∧ (s.shunts.get l).base = tb ∧
    s.tb = tb

/-- The channel collects. -/
def State.Collects (l : Leg) (off : Int) (tb : Nat) (s : State) : Prop :=
  s.int (Od.SH_OFFSET l) = off ∧ (s.shunts.get l).collecting = true ∧ s.tb = tb

/-- One channel's step of a repeated calibration. -/
def State.repeatOf (n : Leg) (s : State) : State :=
  if (s.shunts.get n).collecting ∨ (s.shunts.get n).next.isSome then
    ((s.modShunt n fun x => { x with
      collecting := false, lateLogged := false, next := none, nextArm := none, base := s.tb }).setBit
      (Od.SH_CH_STATUS n) 6 false).setBit (Od.SH_CH_STATUS n) 1 false
  else s

theorem State.int_repeatOf (s : State) (n l : Leg) : (State.repeatOf n s).int (Od.SH_OFFSET l) = s.int (Od.SH_OFFSET l) := by
  unfold State.repeatOf
  split
  · exact State.int_of_get (((State.get_setBit _ _ _ _ _).trans (if_neg (by grind))).trans
      ((State.get_setBit _ _ _ _ _).trans (if_neg (by grind))))
  · rfl
theorem State.tb_repeatOf (s : State) (n : Leg) : (State.repeatOf n s).tb = s.tb := by
  unfold State.repeatOf; split <;> rfl
theorem State.shunts_repeatOf_ne (s : State) {n l : Leg} (h : l ≠ n) : (State.repeatOf n s).shunts.get l = s.shunts.get l := by
  unfold State.repeatOf
  split
  · exact (State.shunts_modShunt _ _ _ _).trans (if_neg h)
  · rfl

theorem State.calRepeat_again (s : State) (l : Leg) (hl : (s.shunts.get l).collecting = true) :
    (s.calRepeat (cellOf (legCell l))).CalAgain l (s.int (Od.SH_OFFSET l)) s.tb := by
  show State.CalAgain _ _ _ (s.each _ State.repeatOf)
  refine State.each_takes (Q := State.Collects l (s.int (Od.SH_OFFSET l)) s.tb) (a := l) (fun t ht => ?_) (fun m t hm ht => ?_)
    (fun m t ht => ?_) _ (mem_cellLegList l) s ⟨rfl, hl, rfl⟩
  · have hone : (State.repeatOf l t).shunts.get l =
        { t.shunts.get l with collecting := false, lateLogged := false, next := none, nextArm := none, base := t.tb } := by
      unfold State.repeatOf
      rw [if_pos (.inl ht.2.1)]
      exact State.shunts_modShunt_same t l _
    rw [State.CalAgain, t.int_repeatOf, t.tb_repeatOf, hone]
    exact ⟨ht.1, rfl, rfl, ht.2.2, ht.2.2⟩
  · rw [State.Collects, t.int_repeatOf, t.tb_repeatOf, t.shunts_repeatOf_ne (Ne.symm hm)]
    exact ht
  · by_cases hml : m = l
    · have hstill : State.repeatOf l t = t := if_neg (by rw [ht.2.1, ht.2.2.1]; simp)
      rw [hml, hstill]
      exact ht
    · rw [State.CalAgain, t.int_repeatOf, t.tb_repeatOf, t.shunts_repeatOf_ne (Ne.symm hml)]
      exact ht

/-! ### The obligation -/

theorem calZero_of_runs {s : State} {l : Leg} (h : s.ds (cellDrive (legCell l)) = .armed ∨ s.ds (cellDrive (legCell l)) = .active) :
    s.calZero l = true := by
  rcases h with h | h <;> rw [State.calZero, h] <;> rfl
theorem calZero_of_calFull {s : State} {l : Leg} (h : s.calFull l = true) : s.calZero l = false := by
  rw [State.calFull] at h
  rw [State.calZero]
  cases hd : s.ds (cellDrive (legCell l)) <;> rw [hd] at h <;> first | rfl | cases h

theorem State.completeRecalibration (s : State) (dt : Nat) (l : Leg) (z f : List Int) (h : (s.shunts.get l).collecting = true) :
    exec (.offsetRecalibrationComplete dt l z f) s = .next ((s.elapse dt).recalibrate l z f) := by
  show reply s (if ((s.elapse dt).shunts.get l).collecting then _ else _) = _
  rw [if_pos (by rw [State.elapse_shunts]; exact h)]
  exact State.Leaves.recalibrate.completes

/-- Settles O10, one clause per event of a recalibration. -/
theorem shuntCommandsComplete : Obligations.ShuntCommandsComplete := by
  refine ⟨?_, ?_, ?_, ?_, ?_, ?_⟩
  · intro s dt l hdue hidle
    refine ⟨((s.elapse dt).modShunt l fun x => { x with collecting := true, sinceTb := (s.elapse dt).tb }).setBit
      (Od.SH_CH_STATUS l) 6 true, ?_, ?_, State.bit_setBit_same _ _ _ _⟩
    · show reply s (if (s.elapse dt).calDue l ∧ ¬ ((s.elapse dt).shunts.get l).collecting then _ else _) = _
      rw [if_pos ⟨hdue, by rw [State.elapse_shunts, hidle]; exact Bool.false_ne_true⟩]
      rfl
    · show ((State.modShunt _ l _).shunts.get l).collecting = true
      rw [State.shunts_modShunt_same]
  · intro s dt l z f hcol hruns hlow hothers
    refine ⟨_, s.completeRecalibration dt l z f hcol, ?_⟩
    have hz : (s.elapse dt).calZero l = true := calZero_of_runs (s := s.elapse dt) hruns
    rw [State.recalibrate, if_pos hz, if_pos hlow]
    obtain ⟨hoff, -, -, hdone, hbase⟩ := (s.elapse dt).found_taken l
      (roundNear ((s.elapse dt).int (Od.SH_OFFSET_ARM l) + (meanRat z - ((s.elapse dt).shunts.get l).zArm))) none hothers
    exact ⟨hoff, hdone, hbase⟩
  · intro s dt l m z f hcol hruns hlow hm
    refine ⟨_, s.completeRecalibration dt l z f hcol, ?_⟩
    have hz : (s.elapse dt).calZero l = true := calZero_of_runs (s := s.elapse dt) hruns
    rw [State.recalibrate, if_pos hz, if_pos hlow, State.found_waits (s.elapse dt) l m _ _ hm, State.shunts_modShunt_same]
    exact ⟨rfl, rfl, rfl⟩
  · intro s dt l z f hcol hfull hf hothers
    refine ⟨_, s.completeRecalibration dt l z f hcol, ?_⟩
    have hz : (s.elapse dt).calZero l = false := calZero_of_calFull (s := s.elapse dt) hfull
    rw [State.recalibrate, if_neg (by rw [hz]; exact Bool.false_ne_true), if_pos ⟨hfull, hf.1⟩, if_neg (not_lt.2 hf.2)]
    obtain ⟨hoff, harm, -, hdone, -⟩ := (s.elapse dt).found_taken l (meanRound f) (some (meanRound f, meanRat z)) hothers
    exact ⟨hoff, harm _ _ rfl, hdone⟩
  · intro s dt l z f hcol hfull hf
    refine ⟨_, s.completeRecalibration dt l z f hcol, ?_⟩
    have hz : (s.elapse dt).calZero l = false := calZero_of_calFull (s := s.elapse dt) hfull
    have hne : f ≠ [] := by rintro rfl; exact absurd hf (by decide)
    rw [State.recalibrate, if_neg (by rw [hz]; exact Bool.false_ne_true), if_pos ⟨hfull, hne⟩, if_pos hf]
    obtain ⟨hoff, hdone, -, hbase, -⟩ := (s.elapse dt).calRepeat_again l hcol
    exact ⟨hoff, hdone, hbase⟩
  · intro s dt l hcol hlate hdue hroom
    refine ⟨(((s.elapse dt).modShunt l fun x => { x with lateLogged := true }).setBit (Od.SH_CH_STATUS l) 1 true).event 0x0404
      (legCell l) (State.shuntDetail (((s.elapse dt).modShunt l fun x => { x with lateLogged := true }).setBit
        (Od.SH_CH_STATUS l) 1 true) l), ?_, ?_, ?_⟩
    · show reply s (if ((s.elapse dt).shunts.get l).collecting ∧ ¬ ((s.elapse dt).shunts.get l).lateLogged ∧ _ then _ else _) = _
      rw [if_pos ⟨by rw [State.elapse_shunts]; exact hcol, by rw [State.elapse_shunts, hlate]; exact Bool.false_ne_true, hdue⟩]
      rfl
    · show ((State.modShunt _ l _).shunts.get l).lateLogged = true
      rw [State.shunts_modShunt_same]
    · have hdetail : State.shuntDetail (((s.elapse dt).modShunt l fun x => { x with lateLogged := true }).setBit
          (Od.SH_CH_STATUS l) 1 true) l = s.shuntDetail l := by
        rw [State.shuntDetail, State.shuntDetail, State.int_of_get ((State.get_setBit _ _ _ _ _).trans (if_neg (by grind)))]
        rfl
      rw [hdetail]
      exact State.logged_event _ _ _ _ hroom

end Sys2Proof.Machine
end

section
/-! PROOFS. Tokens, dwell times and counter saves of the legs (O9). -/
namespace Sys2Proof.Machine
open Sys2Proof
set_option Elab.async false

@[simp] theorem State.ax_modAx_same (s : State) (n : Axis) (f : AxisSt → AxisSt) : (s.modAx n f).ax n = f (s.ax n) :=
  get_upd_same _ _ _

/-! ### Legs that switch (R76, R82) -/

theorem State.leg_setLeg (s : State) (l m : Leg) (lv : LegLevel) :
    ((s.setLeg l lv).leg m).level = if m = l then lv else (s.leg m).level := by
  unfold State.setLeg
  split
  · next h =>
    split
    · next hm => rw [hm]; exact h
    · rfl
  · rw [State.leg_modLeg, State.Leaves.spoilSample.leg l, State.Leaves.spoilSample.leg m]
    split <;> rfl

theorem State.level_switchLeg (s : State) (l m : Leg) (lv : LegLevel) :
    ((s.switchLeg l lv).leg m).level = if m = l then lv else (s.leg m).level := by
  have hmod (f : LegSt → LegSt) (hf : ∀ x, (f x).level = x.level) : ((s.modLeg l f).leg m).level = (s.leg m).level := by
    rw [State.leg_modLeg]
    split
    · next h => rw [hf, h]
    · rfl
  unfold State.switchLeg
  split
  · show ((State.setLeg _ l lv).leg m).level = _
    rw [State.leg_setLeg, hmod (fun x => { x with tokens := x.tokens - 1, deferred := false }) fun _ => rfl]
  · rw [State.leg_setLeg, hmod (fun x => { x with deferred := false }) fun _ => rfl]

/-- A vector on the legs of an axis cell. -/
theorem State.level_applyVector (s : State) (n : Axis) (v p : Nat) (hp : p < 3) :
    ((s.applyVector n v).leg (legOf (cellFirstLeg n + p))).level = if vectorBit v p then .high else .low := by
  have hne : ∀ n : Axis, ∀ p < 3, ∀ q < 3, legOf (cellFirstLeg n + p) = legOf (cellFirstLeg n + q) → p = q := by decide
  show ((((s.switchLeg (legOf (cellFirstLeg n + 0)) (if vectorBit v 0 then .high else .low)).switchLeg
    (legOf (cellFirstLeg n + 1)) (if vectorBit v 1 then .high else .low)).switchLeg
    (legOf (cellFirstLeg n + 2)) (if vectorBit v 2 then .high else .low)).leg _).level = _
  have hp' : p = 0 ∨ p = 1 ∨ p = 2 := by omega
  rw [State.level_switchLeg, State.level_switchLeg, State.level_switchLeg]
  rcases hp' with rfl | rfl | rfl
  · rw [if_neg fun h => absurd (hne n 0 (by decide) 2 (by decide) h) (by decide),
      if_neg fun h => absurd (hne n 0 (by decide) 1 (by decide) h) (by decide), if_pos rfl]
  · rw [if_neg fun h => absurd (hne n 1 (by decide) 2 (by decide) h) (by decide), if_pos rfl]
  · rw [if_pos rfl]

/-- A vector free of tokens, bootstraps and a measurement that it would not give is taken. -/
theorem State.pickVector_free (s : State) (n : Axis) (v alt : Nat) (hmeas : s.measureDue n = false ∨ s.measurable n v = true)
    (hfree : s.vectorBlocked n v = false) :
    s.pickVector n v alt = (s.modAx n fun x => { x with waitVec := none }).applyVector n v := by
  have hdue : (s.modAx n fun x => { x with waitVec := none }).measureDue n = s.measureDue n := by
    show decide (s.substStart n ≤ s.tb - ((s.modAx n _).ax n).lastFull) = _
    rw [State.ax_modAx_same]
    rfl
  have hblocked : (s.modAx n fun x => { x with waitVec := none }).vectorBlocked n v = false := hfree
  unfold State.pickVector State.chooseVector
  dsimp only
  rw [hblocked, hdue, if_neg]
  · rfl
  · show ¬ (s.measureDue n && !s.measurable n v) = true
    rcases hmeas with h | h <;> rw [h] <;> simp

/-! ### Tokens (R81) -/

theorem State.stagePulse_begins (s : State) (l : Leg) (a b : Nat) (ha : (s.leg l).offTb + s.dwellTicks l ≤ a)
    (hb : a + s.dwellTicks l ≤ b) : ((s.stagePulse l a b).leg l) = { s.leg l with
        tokens := (s.leg l).tokens - 1, deferred := false, edgeTb := max (s.leg l).edgeTb (min (s.leg l).offTb s.tb)
        onTb := a, offTb := b, band := s.nat (Od.CELL_CELL_BAND (legCell l)) } := by
  unfold State.stagePulse
  dsimp only
  rw [if_neg (by omega), Nat.max_eq_left ha, if_neg (by omega)]
  show (State.modLeg _ _ _).leg l = _
  rw [State.leg_modLeg_same]

/-- A refilled leg. -/
def State.refilled (s : State) (l : Leg) : State :=
  s.modLeg l fun x => { x with tokens := min 4 (x.tokens + 1), deferred := false, refillTb := s.tb }

theorem State.refillToken_eq (s : State) (l : Leg)
    (h : sec 1 ≤ (s.tb - (s.leg l).refillTb) * s.nat (Od.CELL_FSW_MAX (legCell l))) : s.refillToken l =
      if (s.leg l).deferred ∧ stageCell (cellOf (legCell l)) ∧ (s.cell (cellOf (legCell l))).mode = .switching then
        (s.refilled l).stagePulse l (max s.tb ((s.refilled l).leg l).want.1) ((s.refilled l).leg l).want.2
      else s.refilled l := by
  unfold State.refillToken
  rw [if_neg (by omega)]
  rfl

/-! ### Counters (R90) -/

theorem foldl_upd_get {α : Type} {n : Nat} (f : Fin n → α) (l : List (Fin n)) (v : Vector α n) {i : Fin n} (hi : i ∈ l) :
    (l.foldl (fun v j => upd v j fun _ => f j) v).get i = f i := by
  have hkeep (l : List (Fin n)) (v : Vector α n) (h : v.get i = f i) : (l.foldl (fun v j => upd v j fun _ => f j) v).get i = f i := by
    induction l generalizing v with
    | nil => exact h
    | cons j l ih =>
      refine ih _ ?_
      rw [get_upd]
      split
      · next e => rw [e]
      · exact h
  induction l generalizing v with
  | nil => cases hi
  | cons j l ih =>
    by_cases hj : i = j
    · refine hkeep l _ ?_
      rw [hj, get_upd_same]
    · exact ih _ (List.mem_of_ne_of_mem hj hi)

/-- Settles O9, one clause per event of the legs. -/
theorem legCommandsComplete : Obligations.LegCommandsComplete := by
  refine ⟨?_, ?_, ?_, ?_⟩
  · intro s dt l hdue hnone
    refine ⟨(s.elapse dt).refillToken l, State.Leaves.refillToken.completes, ?_⟩
    rw [State.refillToken_eq _ _ hdue, if_neg (fun h => Bool.false_ne_true (hnone ▸ h.1)), State.refilled,
      State.leg_modLeg_same]
    exact ⟨rfl, rfl, rfl⟩
  · intro s dt l a b hdue ⟨hdef, hwant⟩ ⟨hstage, hmode⟩ ha hb
    refine ⟨(s.elapse dt).refillToken l, State.Leaves.refillToken.completes, ?_⟩
    rw [State.refillToken_eq _ _ hdue, if_pos ⟨hdef, hstage, hmode⟩]
    have hleg : ((s.elapse dt).refilled l).leg l =
        { s.leg l with tokens := min 4 ((s.leg l).tokens + 1), deferred := false, refillTb := s.tb + dt } := by
      rw [State.refilled, State.leg_modLeg_same]
      rfl
    have hwant' : (((s.elapse dt).refilled l).leg l).want = (a, b) := by rw [hleg]; exact hwant
    have hdwell : ((s.elapse dt).refilled l).dwellTicks l = s.dwellTicks l := rfl
    rw [hwant', State.stagePulse_begins, hleg]
    · exact ⟨⟨rfl, rfl⟩, rfl, rfl⟩
    · rw [hleg]
      exact ha
    · exact hb
  · intro s dt l v alt p ⟨hl, hp⟩ hwait hdec hdwell hsubst hmeas hfree
    refine ⟨(s.elapse dt).dwellOver l, State.Leaves.dwellOver.completes, ?_⟩
    have heq : (s.elapse dt).dwellOver l = ((s.elapse dt).modAx (axisOf (legCell l)) fun x => { x with waitVec := none }).applyVector
        (axisOf (legCell l)) v := by
      unfold State.dwellOver
      rw [if_neg (by omega)]
      dsimp only
      rw [show ((s.elapse dt).ax (axisOf (legCell l))).waitVec = some (v, alt) from hwait]
      dsimp only
      rw [if_pos ⟨hdec, by rw [hdwell]; exact Bool.false_ne_true, Option.isNone_iff_eq_none.2 hsubst⟩]
      exact State.pickVector_free _ _ _ _ hmeas hfree
    rw [heq]
    refine ⟨State.level_applyVector _ _ v p hp, ?_⟩
    rw [State.Leaves.applyVector.ax, State.ax_modAx_same]
  · intro s dt c l hl hdue
    refine ⟨(s.elapse dt).counterSave c, State.Leaves.counterSave.completes, ?_⟩
    have heq : (s.elapse dt).counterSave c = ((s.elapse dt).saveLegs c).modCell c fun x => { x with swTicks := 0 } := if_pos hdue
    rw [heq]
    refine ⟨foldl_upd_get (fun l => (s.elapse dt).nat (Od.CELL_LEG_SWITCHES c (legPos l))) _ _ hl, ?_⟩
    rw [State.cell_modCell_same]

end Sys2Proof.Machine
end

section
/-! PROOFS. The park locks' commands (O23). -/
namespace Sys2Proof.Machine
open Sys2Proof
set_option Elab.async false

/-! ### The lock's objects -/

/-- The command and the state of a lock and the count of its failures. -/
def ParkKey (m : Fin 2) (k : Nat) : Prop := k = Od.PRK_PARK_STATE m ∨ k = Od.PRK_PARK_CMD m ∨ k = Od.PRK_PARK_FAILS m

theorem State.get_movePawl (s : State) (m : Fin 2) (pos : Int) {k : Nat} (hk : ParkKey m k) : (s.movePawl m pos).get k = s.get k := by
  refine State.Leaves.movePawl.get ?_
  rcases hk with rfl | rfl | rfl <;> grind
theorem State.get_parkSolenoid (s : State) (m : Fin 2) (q : Rat) {k : Nat} (hk : ParkKey m k) :
    (s.parkSolenoid m q).get k = s.get k := by
  refine State.Leaves.parkSolenoid.get ?_
  rcases hk with rfl | rfl | rfl <;> grind
theorem State.get_coastActuator_park (s : State) (a : Fin 4) (m : Fin 2) {k : Nat} (hk : ParkKey m k) :
    (s.coastActuator a).get k = s.get k := by
  refine State.Leaves.coastActuator.get ?_
  rcases hk with rfl | rfl | rfl <;> grind
theorem State.get_setPark (s : State) (m : Fin 2) (p : Nat) {k : Nat} (hk : k ≠ Od.PRK_PARK_STATE m) :
    (s.setPark m p).get k = s.get k := State.Leaves.setPark.get hk
theorem State.park_setPark (s : State) (m : Fin 2) (p : Nat) : (s.setPark m p).park m = p := by
  unfold State.setPark
  rw [State.park, State.nat_of_get (State.Leaves.pawlTrack.get trivial), State.nat_of_get (State.get_modSide _ _ _ _), State.nat_setN,
    if_pos rfl]

/-- A lock that changes its state: its solenoid is driven and its pawl moves. -/
def State.parkGoes (s : State) (m : Fin 2) (p : Nat) (q : Rat) (pos : Int) : State :=
  ((s.setPark m p).parkSolenoid m q).movePawl m pos

theorem State.park_parkGoes (s : State) (m : Fin 2) (p : Nat) (q : Rat) (pos : Int) : (s.parkGoes m p q pos).park m = p := by
  rw [State.parkGoes, State.park, State.nat_of_get (State.get_movePawl _ m pos (.inl rfl)),
    State.nat_of_get (State.get_parkSolenoid _ m q (.inl rfl))]
  exact s.park_setPark m p
theorem State.get_parkGoes (s : State) (m : Fin 2) (p : Nat) (q : Rat) (pos : Int) {k : Nat}
    (hk : k = Od.PRK_PARK_CMD m ∨ k = Od.PRK_PARK_FAILS m) : (s.parkGoes m p q pos).get k = s.get k := by
  rw [State.parkGoes, State.get_movePawl _ m pos (.inr hk), State.get_parkSolenoid _ m q (.inr hk)]
  refine State.get_setPark _ m p ?_
  rcases hk with rfl | rfl <;> grind
theorem State.pending_parkGoes (s : State) (m : Fin 2) (p : Nat) (q : Rat) (pos : Int) :
    (s.parkGoes m p q pos).pending = s.pending :=
  (State.Leaves.movePawl.part .pending).trans ((State.Leaves.parkSolenoid.part .pending).trans (State.Leaves.setPark.part .pending))

/-! ### The commands (R279 to R284) -/

theorem State.parkEngage_moves (s : State) (m : Fin 2) (hshift : s.shifting m = false) (hslow : s.parkSlow m = true)
    (hpark : s.park m = 3 ∨ s.park m = 4) : State.parkEngage m s = .ok ((s.setN (Od.PRK_PARK_CMD m) 1).parkGoes m 2 0
      ((s.setN (Od.PRK_PARK_CMD m) 1).int (Od.PRK_POS_ENGAGED m))) := by
  have hkeep : (s.setN (Od.PRK_PARK_CMD m) 1).park m = s.park m :=
    State.nat_of_get ((State.get_setN _ _ _ _).trans (if_neg (by grind)))
  have hslow' : (s.setN (Od.PRK_PARK_CMD m) 1).parkSlow m = true := by
    rw [← hslow, State.parkSlow, State.parkSlow, State.num_of_get ((State.get_setN _ _ _ _).trans (if_neg (by grind))),
      State.num_of_get ((State.get_setN _ _ _ _).trans (if_neg (by grind)))]
  have hne : (s.park m == 0) = false := by rcases hpark with h | h <;> rw [h] <;> rfl
  unfold State.parkEngage
  rw [hshift, hne]
  dsimp only
  rw [hkeep, hslow', if_neg (by rcases hpark with h | h <;> rw [h] <;> decide)]
  rfl

theorem State.parkRelease_moves (s : State) (m : Fin 2) (hpark : s.park m = 1) (hgbx : s.gbxActive = true)
    (hmay : s.ds (sideDrive m) = .active ∨ s.flag Od.PRK_TOW_RELEASE = true) :
    State.parkRelease m s = .ok ((s.setN (Od.PRK_PARK_CMD m) 2).parkGoes m 3
      ((s.setN (Od.PRK_PARK_CMD m) 2).num (Od.PRK_HOLD_I m)) ((s.setN (Od.PRK_PARK_CMD m) 2).int (Od.PRK_POS_RELEASED m))) := by
  have hkeep : (s.setN (Od.PRK_PARK_CMD m) 2).park m = s.park m :=
    State.nat_of_get ((State.get_setN _ _ _ _).trans (if_neg (by grind)))
  have hgo : (s.gbxActive && (s.ds (sideDrive m) == .active || s.flag Od.PRK_TOW_RELEASE)) = true := by
    rw [hgbx]
    rcases hmay with h | h <;> rw [h]
    · rfl
    · exact Bool.or_true _
  unfold State.parkRelease
  dsimp only
  rw [hgo, hkeep, hpark]
  rfl

theorem State.gbxActive_of_ds {s t : State} (h : t.ds .gbx = s.ds .gbx) : t.gbxActive = s.gbxActive := by
  rw [State.gbxActive, State.gbxActive, h]

theorem State.park_confirmed (s : State) (m : Fin 2) (p c : Nat) :
    (((s.setPark m p).coastActuator (pawlOf m)).confirm (pawlOf m) c).park m = p := by
  rw [State.park, State.nat_of_get (State.Leaves.confirm.get trivial), State.nat_of_get (State.get_coastActuator_park _ _ m (.inl rfl))]
  exact s.park_setPark m p

/-- The pawl has stood at its position for 10 ms: what the confirmation does. -/
theorem State.parkConfirm_stands (s : State) (m : Fin 2) (h : ((s.side m).pawlTb.any fun b => decide (b + ms 10 ≤ s.tb)) = true) :
    (s.park m = 2 → s.parkConfirm m = ((((s.setPark m 1).coastActuator (pawlOf m)).confirm (pawlOf m) 1).count
      (ctrParkOps m)).gbxEvent 0x0809 m 1) ∧
    (s.park m = 3 → s.parkConfirm m = (((s.setPark m 4).coastActuator (pawlOf m)).confirm (pawlOf m) 4).gbxEvent 0x080A m 4) := by
  unfold State.parkConfirm
  rw [if_neg (not_not.2 h)]
  constructor <;> intro hp <;> rw [hp] <;> rfl

/-- Settles O23, one clause per command of a park lock. -/
theorem parkCommandsComplete : Obligations.ParkCommandsComplete := by
  refine ⟨?_, ?_, ?_, ?_, ?_, ?_⟩
  · intro s dt who m ha howns ⟨hshift, hslow⟩ hpark
    have hkey {k : Nat} (hk : k ≠ Od.SVC_REQUESTS) : (s.begun dt who).nat k = s.nat k := s.begun_nat dt who hk
    have hshift' : (s.begun dt who).shifting m = false := by
      rw [← hshift, State.shifting, State.shifting, State.shiftStep, State.shiftStep, hkey (by grind)]
    have hslow' : (s.begun dt who).parkSlow m = true := by
      rw [← hslow, State.parkSlow, State.parkSlow, State.num_of_get (s.begun_get dt who (by grind)),
        State.num_of_get (s.begun_get dt who (by grind))]
    have hpark' : (s.begun dt who).park m = s.park m := hkey (by grind)
    obtain ⟨pos, hmove⟩ : ∃ pos, State.parkEngage m (s.begun dt who) = .ok (((s.begun dt who).setN (Od.PRK_PARK_CMD m) 1).parkGoes
        m 2 0 pos) := ⟨_, (s.begun dt who).parkEngage_moves m hshift' hslow' (by rw [hpark']; exact hpark)⟩
    refine ⟨_, State.accepted_completes (t := ((s.begun dt who).setN (Od.PRK_PARK_CMD m) 1).parkGoes m 2 0 pos) ha ?_ ?_, ?_, ?_,
      State.answered_emit _ _ _⟩
    · show refuseIf _ _ (refuseIf (!(s.begun dt who).owns who .gbx) _ (State.parkEngage m (s.begun dt who))) = _
      rw [howns, hmove]
      rfl
    · rw [State.pending_parkGoes]
      exact s.begun_pending dt who
    · rw [State.park, State.nat_replied]
      exact State.park_parkGoes _ _ _ _ _
    · rw [State.nat_replied, State.nat_of_get (State.get_parkGoes _ _ _ _ _ (.inl rfl)), State.nat_setN, if_pos rfl]
  · intro s dt who m ha howns hpark hgbx hmay
    have hpark' : (s.begun dt who).park m = 1 := (s.begun_nat dt who (by grind)).trans hpark
    have hds (d : Drive) : (s.begun dt who).ds d = s.ds d := State.Leaves.begun.ds d
    obtain ⟨q, pos, hmove⟩ : ∃ q pos, State.parkRelease m (s.begun dt who) = .ok (((s.begun dt who).setN (Od.PRK_PARK_CMD m) 2
        ).parkGoes m 3 q pos) := ⟨_, _, (s.begun dt who).parkRelease_moves m hpark' ((State.gbxActive_of_ds (hds .gbx)).trans hgbx)
      (by rw [hds, State.flag_of_get (s.begun_get dt who (by decide))]; exact hmay)⟩
    refine ⟨_, State.accepted_completes (t := ((s.begun dt who).setN (Od.PRK_PARK_CMD m) 2).parkGoes m 3 q pos) ha ?_ ?_, ?_, ?_⟩
    · show refuseIf _ _ (refuseIf (!(s.begun dt who).owns who .gbx) _ (State.parkRelease m (s.begun dt who))) = _
      rw [howns, hmove]
      rfl
    · rw [State.pending_parkGoes]
      exact s.begun_pending dt who
    · rw [State.park, State.nat_replied]
      exact State.park_parkGoes _ _ _ _ _
    · rw [State.nat_replied, State.nat_of_get (State.get_parkGoes _ _ _ _ _ (.inl rfl)), State.nat_setN, if_pos rfl]
  · intro s dt m hpark hpawl
    refine ⟨(s.elapse dt).parkConfirm m, State.Leaves.parkConfirm.completes, ?_⟩
    rw [((s.elapse dt).parkConfirm_stands m hpawl).1 hpark]
    rw [State.park, State.nat_of_get (State.Leaves.gbxEvent.get trivial),
      State.nat_of_get (State.Leaves.count.get ⟨by grind [ctrParkOps, ctrParkFails], by grind [ctrParkOps, ctrParkFails], by grind⟩)]
    exact State.park_confirmed _ m 1 1
  · intro s dt m hpark hpawl
    refine ⟨(s.elapse dt).parkConfirm m, State.Leaves.parkConfirm.completes, ?_⟩
    rw [((s.elapse dt).parkConfirm_stands m hpawl).2 hpark]
    rw [State.park, State.nat_of_get (State.Leaves.gbxEvent.get trivial)]
    exact State.park_confirmed _ m 4 4
  · intro s dt m ⟨hpark, hgbx⟩ hpawl hstall
    refine ⟨((s.elapse dt).modSide m fun x => { x with tooth := true }).pushPawl m, ?_, ?_, ?_⟩
    · show reply s (if (s.elapse dt).park m = 2 ∧ ¬ (s.elapse dt).pawlAt m ((s.elapse dt).int (Od.PRK_POS_ENGAGED m)) ∧
        (s.elapse dt).gbxActive ∧ (s.elapse dt).stalled (pawlOf m) ((s.elapse dt).side m).parkTb (ms 20) then _ else _) = _
      have hnot : ¬ (s.elapse dt).pawlAt m ((s.elapse dt).int (Od.PRK_POS_ENGAGED m)) = true := by
        show ¬ s.pawlAt m (s.int (Od.PRK_POS_ENGAGED m)) = true
        rw [hpawl]
        exact Bool.false_ne_true
      rw [if_pos ⟨hpark, hnot, hgbx, hstall⟩]
      rfl
    · show ((State.modSide _ m _).side m).tooth = true
      exact congrArg SideSt.tooth (get_upd_same _ _ _)
    · rw [State.park, State.nat_of_get (State.Leaves.pushPawl.get (by grind)), State.nat_of_get (State.get_modSide _ _ _ _)]
      exact hpark
  · intro s dt m hpark hdue hfails
    refine ⟨(s.elapse dt).parkTimeout m, State.Leaves.parkTimeout.completes, ?_⟩
    have heq : (s.elapse dt).parkTimeout m = (((s.elapse dt).parkGoes m 2 0 ((s.elapse dt).int (Od.PRK_POS_ENGAGED m))).count
        (ctrParkFails m)).gbxEvent 0x080B m 2 := if_pos ⟨hpark, hdue⟩
    rw [heq, State.nat_of_get (State.Leaves.gbxEvent.get trivial), State.park, State.nat_of_get (State.Leaves.gbxEvent.get trivial),
      State.nat_of_get (State.Leaves.count.get ⟨by grind [ctrParkOps, ctrParkFails], by grind [ctrParkOps, ctrParkFails], by grind⟩)]
    refine ⟨State.park_parkGoes _ _ _ _ _, ?_⟩
    have hsame : ((s.elapse dt).parkGoes m 2 0 ((s.elapse dt).int (Od.PRK_POS_ENGAGED m))).nat (Od.PRK_PARK_FAILS m) =
        s.nat (Od.PRK_PARK_FAILS m) := State.nat_of_get (State.get_parkGoes _ _ _ _ _ (.inr rfl))
    refine (State.nat_count_min _ (ctrParkFails m) (by show Od.PRK_PARK_FAILS m ≠ Od.PRK_PARK_CNT_STATUS m; grind)
      (by show Od.PRK_PARK_FAILS m ≠ Od.CNT_CNT_OVF_MAP; grind)).trans ?_
    show min (State.nat _ (Od.PRK_PARK_FAILS m) + 1) 65535 = _
    rw [hsame]
    omega

end Sys2Proof.Machine
end

section
/-! PROOFS. The event log, EMCY frames, operating times and the heartbeat (O44). -/
namespace Sys2Proof.Machine
open Sys2Proof
set_option Elab.async false

/-! ### The ring of the log (R487) -/

/-- The ring and the number of its newest entry are the same. -/
def State.SameRing (s t : State) : Prop := t.log.ring = s.log.ring ∧ t.log.written = s.log.written

theorem State.SameRing.trans {s t u : State} (g : t.SameRing u) (h : s.SameRing t) : s.SameRing u :=
  ⟨g.1.trans h.1, g.2.trans h.2⟩
theorem State.SameRing.of_log {s t : State} (h : t.log = s.log) : s.SameRing t := by rw [State.SameRing, h]; exact ⟨rfl, rfl⟩

theorem LogSt.push_ring (l : LogSt) (up : Bool) (e : LogEntry) : (l.push up e).ring = l.ring ∧ (l.push up e).written = l.written := by
  unfold LogSt.push
  dsimp only
  repeat' split
  all_goals exact ⟨rfl, rfl⟩

theorem State.SameRing.event (s : State) (code source detail : Nat) : s.SameRing (s.event code source detail) := s.log.push_ring _ _
theorem State.SameRing.attention (s : State) (e : LogEntry) : s.SameRing (s.attention e) :=
  .of_log (State.Leaves.attention.part .log)
theorem State.SameRing.mirror (s : State) (e : LogEntry) : s.SameRing (s.mirror e) := by
  unfold State.mirror
  split
  · exact ⟨rfl, rfl⟩
  · split
    · exact ⟨rfl, rfl⟩
    · exact .of_log (State.Leaves.count.part .log)
theorem State.SameRing.trigger (s : State) : s.SameRing s.trigger := by
  have hdone (u : State) : u.SameRing u.capDone := by
    unfold State.capDone State.capReport
    exact .of_log rfl
  unfold State.trigger
  split
  · exact ⟨rfl, rfl⟩
  · dsimp only
    have hlast (u : State) (d : Nat) (hu : u.log = s.log) : s.SameRing
        (if (u.event 0x1108 0xFF d).cap.postLeft = 0 then (u.event 0x1108 0xFF d).capDone else u.event 0x1108 0xFF d) := by
      have hevent := (State.SameRing.event u 0x1108 0xFF d).trans (.of_log hu)
      split
      · exact (hdone _).trans hevent
      · exact hevent
    exact hlast _ _ (State.Leaves.count.part .log)
theorem State.SameRing.triggerBy (s : State) (e : LogEntry) : s.SameRing (s.triggerBy e) := by
  unfold State.triggerBy
  dsimp only
  split
  · exact .trigger s
  · exact ⟨rfl, rfl⟩

/-- An entry of a ring with room displaces none. -/
theorem State.enterRing_room (s : State) (e : LogEntry) (h : s.log.ring.length < 256) :
    (s.enterRing e).log.written = s.log.written + 1 ∧ (s.enterRing e).log.ring = (s.log.written + 1, e) :: s.log.ring := by
  have htake : ((s.log.written + 1, e) :: s.log.ring).take 256 = (s.log.written + 1, e) :: s.log.ring :=
    List.take_of_length_le (by rw [List.length_cons]; omega)
  unfold State.enterRing
  dsimp only
  split
  · rw [if_neg (by omega)]
    exact ⟨rfl, htake⟩
  · exact ⟨rfl, htake⟩

theorem State.logStep_enters (s : State) (e : LogEntry) (l : List LogEntry) (hbuf : s.log.buffer = e :: l) (hup : s.logReady = true)
    (hroom : s.log.ring.length < 256) (hdue : (s.log.stepTb.all fun t => decide (t + us 10 ≤ s.tb)) = true) :
    s.logStep.log.written = s.log.written + 1 ∧ s.logStep.log.ring = (s.log.written + 1, e) :: s.log.ring := by
  unfold State.logStep
  rw [hbuf]
  dsimp only
  rw [if_pos ⟨hup, hdue⟩]
  obtain ⟨hring, hwritten⟩ := ((State.SameRing.triggerBy _ e).trans (State.SameRing.mirror _ e)).trans
    (State.SameRing.attention ((s.modLog fun x => { x with buffer := l, stepTb := some s.tb }).enterRing e) e)
  rw [hring, hwritten]
  exact State.enterRing_room _ e hroom

/-! ### Reads of the log (R489) -/

theorem State.sessOf_touch (s : State) (who : Requester) (hw : who.sess.isSome = true) (hopen : (s.sessOf who).isOpen = true) :
    (s.touch who).sessOf who = { s.sessOf who with lastTb := s.tb } := by
  obtain ⟨i, hi⟩ := Option.isSome_iff_exists.1 hw
  have hget : s.sessOf who = s.sessions.table.get i := by rw [State.sessOf, hi]
  have hsess : (s.countWide Od.SVC_REQUESTS).sessions = s.sessions := State.Leaves.countWide.part .sessions
  rw [hget] at hopen ⊢
  unfold State.touch State.sessOf State.modSess
  rw [hi]
  dsimp only [Option.isSome_some, State.when]
  rw [get_upd_same, if_pos rfl, hsess, hopen, if_pos rfl]
  rfl
theorem State.sessOf_modSess (s : State) (who : Requester) (f : SessionSt → SessionSt) (hw : who.sess.isSome = true) :
    (s.modSess who f).sessOf who = f (s.sessOf who) := by
  obtain ⟨i, hi⟩ := Option.isSome_iff_exists.1 hw
  unfold State.modSess State.sessOf
  rw [hi]
  exact get_upd_same _ _ _

theorem State.begun_log (s : State) (dt : Nat) (who : Requester) : (s.begun dt who).log = (s.elapse dt).log :=
  State.Leaves.touch.part .log

/-- The command of an operation that leaves the queue alone ends in the operation's state. -/
theorem reply_of_pending {s t : State} (h : t.pending = s.pending) : reply s t = .next t := by
  rw [reply_eq, ← h]

/-- LOG_SEL of the session advances by one. -/
def State.logAdvances (s : State) (who : Requester) : State := s.modSess who fun x => { x with logSel := x.logSel + 1 }

theorem State.logNext_reads {s : State} {who : Requester} {e : LogEntry}
    (h : s.log.ring.find? (fun x => x.1 == (s.sessOf who).logSel) = some ((s.sessOf who).logSel, e)) :
    State.logNext who s = .ok (s.logAdvances who, entryBytes e) := by
  rw [State.logNext, State.logEntry, h]
  rfl

/-- What a read of LOG_NEXT leads to. -/
theorem State.readRequest_logNext (s : State) (dt : Nat) (who : Requester) (e : LogEntry) (hup : s.dictUp = true)
    (hdiag : s.diagOnly = false) (hw : who.sess.isSome = true) (hopen : (s.sessOf who).isOpen = true)
    (h : s.log.ring.find? (fun x => x.1 == (s.sessOf who).logSel) = some ((s.sessOf who).logSel, e)) :
    (s.elapse dt).readRequest who Od.LOG_LOG_NEXT (State.logNext who) =
      ((s.begun dt who).logAdvances who).emit (.response who 0 (entryBytes e)) := by
  have hsess : (s.begun dt who).sessOf who = { s.sessOf who with lastTb := s.tb + dt } := (s.elapse dt).sessOf_touch who hw hopen
  have hup' : (s.elapse dt).dictUp = true := hup
  have hdiag' : (s.begun dt who).diagOnly = false := by rw [State.diagOnly, s.begun_bringup]; exact hdiag
  have hsome : who.sess.isNone = false := by rw [← Option.not_isSome, hw]; rfl
  unfold State.readRequest
  rw [if_neg (by rw [hsome, hup']; simp)]
  dsimp only
  rw [← State.begun, State.logNext_reads (e := e) (by rw [hsess, s.begun_log]; exact h),
    if_neg (by simp [hdiag', State.walled, State.blockDrive, Od.LOG_LOG_NEXT])]

/-! ### EMCY frames and the heartbeat (R493, R494) -/

theorem State.fifo_dropStale (s : State) (c : Fin 4) (i : Fin 16) : ((s.dropStale c i).chan c).fifo = (s.chan c).fifo := by
  have hmod (u : State) (f : SlotSt → SlotSt) : ((u.modSlot c i f).chan c).fifo = (u.chan c).fifo := by
    unfold State.modSlot
    rw [State.chan_modChan_same]
  unfold State.dropStale
  dsimp only
  rw [hmod, State.Leaves.canEvent.chan, State.Leaves.count.chan]
theorem State.fifo_offer (s : State) (c : Fin 4) : ((s.offer c).chan c).fifo = (s.chan c).fifo := by
  have hstale : ((s.each (List.finRange 16) fun i s =>
      if (s.slot c i).isStale s.tb then s.dropStale c i else s).chan c).fifo = (s.chan c).fifo :=
    State.each_keeps (P := fun u => (u.chan c).fifo = (s.chan c).fifo) _ (fun i _ u hu => by
      split
      · rw [State.fifo_dropStale, hu]
      · exact hu) s rfl
  have hsame (u : State) (b : Option Nat) : ((u.modChan c fun x => { x with onBus := b }).chan c).fifo = (u.chan c).fifo := by
    rw [State.chan_modChan_same]
  unfold State.offer State.arbitrate
  split
  · dsimp only
    split
    · exact (hsame _ _).trans hstale
    · exact (hsame _ _).trans hstale
  · rfl

/-- The EMCY queue, when its last frame was sent, and when the last heartbeat was. -/
def LogSt.mail (l : LogSt) : List (List Byte) × Option Nat × Nat := (l.emcy, l.emcyTb, l.beatTb)

theorem LogSt.push_mail (l : LogSt) (up : Bool) (e : LogEntry) : (l.push up e).mail = l.mail := by
  unfold LogSt.push
  dsimp only
  repeat' split
  all_goals rfl
theorem State.mail_dropStale (s : State) (c : Fin 4) (i : Fin 16) : (s.dropStale c i).log.mail = s.log.mail := by
  unfold State.dropStale
  rw [State.Leaves.modSlot.part .log]
  unfold State.canEvent
  exact (LogSt.push_mail _ _ _).trans (congrArg LogSt.mail (State.Leaves.count.part .log))
theorem State.mail_offer (s : State) (c : Fin 4) : (s.offer c).log.mail = s.log.mail := by
  have hstale : (s.each (List.finRange 16) fun i s =>
      if (s.slot c i).isStale s.tb then s.dropStale c i else s).log.mail = s.log.mail :=
    State.each_keeps (P := fun u => u.log.mail = s.log.mail) _ (fun i _ u hu => by
      split
      · rw [State.mail_dropStale, hu]
      · exact hu) s rfl
  have hsame (u : State) (b : Option Nat) : (u.modChan c fun x => { x with onBus := b }).log.mail = u.log.mail := rfl
  unfold State.offer State.arbitrate
  split
  · dsimp only
    split
    · exact (hsame _ _).trans hstale
    · exact (hsame _ _).trans hstale
  · rfl

/-- A frame that the FIFO has room for stands at its end. -/
theorem State.fifoWrite_room (s : State) (c : Fin 4) (m : CanMsg) (hoff : s.offCause c = false)
    (hroom : (s.chan c).fifo.length < 32) :
    ∃ t, s.fifoWrite c m = some t ∧ (t.chan c).fifo = (s.chan c).fifo ++ [m] ∧ t.log.mail = s.log.mail := by
  refine ⟨(s.modChan c fun x => { x with fifo := x.fifo ++ [m] }).offer c, ?_, ?_, State.mail_offer _ _⟩
  · rw [State.fifoWrite, hoff, if_neg (by simp; omega)]
  · rw [State.fifo_offer, State.chan_modChan_same]

theorem State.mail_slotWrite (s : State) (c : Fin 4) (i : Fin 16) (m : CanMsg) (n : Nat) :
    (s.slotWrite c i m n).log.mail = s.log.mail := by
  unfold State.slotWrite
  split
  · rfl
  · split
    · exact congrArg LogSt.mail (State.Leaves.count.part .log)
    · exact State.mail_offer _ _

theorem State.sendEmcy_sends (s : State) (f : List Byte) (l : List (List Byte)) (hemcy : s.log.emcy = f :: l)
    (htb : s.log.emcyTb = none) (hoff : s.offCause 3 = false) (hfree : (s.slot 3 8).msg = none) :
    s.sendEmcy.log.emcy = l ∧ s.sendEmcy.log.emcyTb = some s.tb ∧
      (s.sendEmcy.slot 3 8).msg = some ⟨0x80 + s.sessions.nodeId, false, false, false, f⟩ := by
  have heq : s.sendEmcy = (s.modLog fun x => { x with emcy := l, emcyTb := some s.tb }).slotWrite 3 8
      ⟨0x80 + s.sessions.nodeId, false, false, false, f⟩ 0 := by
    unfold State.sendEmcy
    rw [hemcy, htb, hoff, hfree]
    rfl
  have hmail := State.mail_slotWrite (s.modLog fun x => { x with emcy := l, emcyTb := some s.tb }) 3 8
    ⟨0x80 + s.sessions.nodeId, false, false, false, f⟩ 0
  have hwaits := State.slotWrite_waits (s.modLog fun x => { x with emcy := l, emcyTb := some s.tb }) 3 8
    ⟨0x80 + s.sessions.nodeId, false, false, false, f⟩ hoff hfree
  rw [heq]
  exact ⟨congrArg (·.1) hmail, congrArg (·.2.1) hmail, hwaits.1⟩

theorem State.heartbeat_beats (s : State) (hup : s.dictUp = true) (hne : s.nat Od.COM_HEARTBEAT_TIME ≠ 0)
    (hdue : s.log.beatTb + ms (s.nat Od.COM_HEARTBEAT_TIME) ≤ s.tb) (hoff : s.offCause 3 = false)
    (hroom : (s.chan 3).fifo.length < 32) :
    s.heartbeat.log.beatTb = s.tb ∧
      (s.heartbeat.chan 3).fifo = (s.chan 3).fifo ++ [⟨0x700 + s.sessions.nodeId, false, false, false, [5]⟩] := by
  obtain ⟨t, ht, hfifo, hmail⟩ := State.fifoWrite_room (s.modLog fun l => { l with beatTb := s.tb }) 3
    ⟨0x700 + s.sessions.nodeId, false, false, false, [5]⟩ hoff hroom
  have heq : s.heartbeat = t := by
    unfold State.heartbeat
    dsimp only
    rw [if_pos ⟨hup, hne, hdue⟩]
    split
    · next u hu => exact Option.some.inj (hu.symm.trans ht)
    · next hu => exact absurd (hu.symm.trans ht) nofun
  rw [heq]
  exact ⟨congrArg (·.2.2) hmail, hfifo⟩

/-! ### Clearing the log (R490, R492) -/

theorem State.log_clearEvent (s : State) (source : Nat) :
    (s.event 0x100B source 0).log.ring = s.log.ring ∧ (s.event 0x100B source 0).log.faultOcc = s.log.faultOcc := by
  refine ⟨(State.SameRing.event _ _ _ _).1, ?_⟩
  show (LogSt.push s.log _ ⟨_, 0x100B, _, eventSeverity 0x100B, _⟩).faultOcc = _
  have hsev : ¬ (eventSeverity 0x100B = .fault ∨ eventSeverity 0x100B = .safe) := by decide
  unfold LogSt.push
  dsimp only
  rw [if_neg hsev]
  repeat' split
  all_goals rfl

/-- Settles O44: each command of the log by the lemma above about its operation. -/
theorem logCommandsComplete : Obligations.LogCommandsComplete := by
  unfold Obligations.LogCommandsComplete
  refine ⟨?_, ?_, ?_, ?_, ?_, ?_, ?_⟩
  · rintro s dt e l ⟨hbuf, hup⟩ hroom hdue
    exact ⟨_, State.Leaves.logStep.completes, (s.elapse dt).logStep_enters e l hbuf hup hroom hdue⟩
  · rintro s dt who e ⟨hup, hdiag⟩ ⟨hw, hopen⟩ h
    have hleaves := State.Leaves.modSess (s := s.begun dt who) (who := who) (f := fun x => { x with logSel := x.logSel + 1 })
    refine ⟨((s.begun dt who).logAdvances who).emit (.response who 0 (entryBytes e)), ?_, ?_, ?_⟩
    · refine (congrArg (reply s) (s.readRequest_logNext dt who e hup hdiag hw hopen h)).trans (reply_of_pending ?_)
      exact (hleaves.part .pending).trans (s.begun_pending dt who)
    · have hout : ((s.begun dt who).logAdvances who).out = [] := (hleaves.part .out).trans (s.begun_out dt who)
      rw [State.emit, hout]
      rfl
    · refine (congrArg SessionSt.logSel (State.sessOf_modSess _ who _ hw)).trans ?_
      exact congrArg (·.logSel + 1) ((s.elapse dt).sessOf_touch who hw hopen)
  · intro s dt who ha
    have hwritten : (s.begun dt who).log.written = s.log.written := by rw [s.begun_log]; rfl
    refine ⟨_, State.accepted_completes ha rfl (s.begun_pending dt who), ?_, ?_, State.answered_emit _ _ _⟩
    · exact (State.log_clearEvent _ _).1
    · rw [State.nat_replied]
      exact (State.nat_setN _ _ _ _).trans ((if_pos rfl).trans hwritten)
  · intro s dt who ha
    refine ⟨_, State.accepted_completes ha rfl (s.begun_pending dt who), ?_, State.answered_emit _ _ _⟩
    exact (State.log_clearEvent _ _).2
  · intro s dt hup hdue
    have heq : (s.elapse dt).saveTimes = _ := if_pos ⟨hup, hdue⟩
    exact ⟨_, State.Leaves.saveTimes.completes, by rw [heq]; exact ⟨rfl, rfl⟩, by rw [heq]; rfl⟩
  · rintro s dt f l ⟨hemcy, htb⟩ ⟨hoff, hfree⟩
    exact ⟨_, State.Leaves.sendEmcy.completes, (s.elapse dt).sendEmcy_sends f l hemcy htb hoff hfree⟩
  · rintro s dt ⟨hup, hne⟩ hdue ⟨hoff, hroom⟩
    exact ⟨_, State.Leaves.heartbeat.completes, (s.elapse dt).heartbeat_beats hup hne hdue hoff hroom⟩

end Sys2Proof.Machine
end

section
/-! PROOFS. Safe frames: received, echoed and produced ones, and a connection's watchdog (O37). -/
namespace Sys2Proof.Machine
open Sys2Proof
set_option Elab.async false

/-! ### Connections -/

theorem State.Leaves.conn {ps : List Part} {free : Nat → Prop} {q : Bool} {s t : State} (g : State.Leaves ps free q s t) (k : Fin 16)
    (hp : Part.conns ∉ ps := by decide) : t.conn k = s.conn k := congrArg (·.get k) (g.parts .conns hp)
@[simp] theorem State.conn_modConn_same (s : State) (k : Fin 16) (f : ConnSt → ConnSt) : (s.modConn k f).conn k = f (s.conn k) :=
  get_upd_same _ _ _

theorem State.hsfCheck_of_get {s t : State} (h : ∀ j, j ≠ Od.ETH_RX_FRAMES → t.get j = s.get j) (k : Fin 16) (echo : Bool)
    (data : List Byte) : t.hsfCheck k echo data = s.hsfCheck k echo data := by
  have hn (j : Nat) (hj : j ≠ Od.ETH_RX_FRAMES) : t.nat j = s.nat j := State.nat_of_get (h j hj)
  simp only [State.hsfCheck, State.hsfLengthOk, hn (Od.HSF_CONN_MEDIUM k) (by grind), hn (Od.HSF_FRAME_BYTES k) (by grind),
    hn (Od.HSF_PEER_ADDR k) (by grind), hn (Od.HSF_OWN_ADDR k) (by grind), hn (Od.HSF_PAYLOAD_KIND k) (by grind)]

section
variable (s : State) (dt : Nat) (k : Fin 16) (ident : Nat)

/-- The state in which a frame of connection k is looked at: taken from its channel. -/
def State.hsfTaken : State := (s.elapse dt).hsfTake k ident

theorem State.Leaves.hsfTaken : State.Leaves [.od, .tb, .out, .log, .chans] (fun j => j ≠ Od.ETH_RX_FRAMES) false s
    (s.hsfTaken dt k ident) := by
  unfold State.hsfTaken
  exact .step .hsfTake (.step .elapse .refl)
theorem State.get_hsfTaken {j : Nat} (hj : j ≠ Od.ETH_RX_FRAMES) : (s.hsfTaken dt k ident).get j = s.get j :=
  (State.Leaves.hsfTaken s dt k ident).get hj
theorem State.nat_hsfTaken {j : Nat} (hj : j ≠ Od.ETH_RX_FRAMES) : (s.hsfTaken dt k ident).nat j = s.nat j :=
  State.nat_of_get (s.get_hsfTaken dt k ident hj)
theorem State.conn_hsfTaken (l : Fin 16) : (s.hsfTaken dt k ident).conn l = s.conn l := (State.Leaves.hsfTaken s dt k ident).conn l
theorem State.tb_hsfTaken : (s.hsfTaken dt k ident).tb = s.tb + dt := State.Leaves.hsfTake.part .tb
theorem State.pending_hsfTaken : (s.hsfTaken dt k ident).pending = s.pending := (State.Leaves.hsfTaken s dt k ident).part .pending
theorem State.connState_hsfTaken : (s.hsfTaken dt k ident).connState k = s.connState k := s.nat_hsfTaken dt k ident (by grind)
theorem State.hsfCheck_hsfTaken (echo : Bool) (data : List Byte) :
    (s.hsfTaken dt k ident).hsfCheck k echo data = s.hsfCheck k echo data :=
  State.hsfCheck_of_get (fun _ hj => s.get_hsfTaken dt k ident hj) k echo data
end

/-! ### The states of a connection (R405, R411) -/

section
variable (s : State) (k : Fin 16)

theorem State.connState_connRun : (s.connRun k).connState k = 2 := (State.nat_setN _ _ _ _).trans (if_pos rfl)
theorem State.conn_connRun : (s.connRun k).conn k = { s.conn k with wdgTb := s.tb } := State.conn_modConn_same _ _ _
theorem State.int_connRun {j : Nat} (hj : j ≠ Od.HSF_CONN_STATE k) : (s.connRun k).int j = s.int j :=
  State.int_of_get (State.Leaves.connRun.get hj)
theorem State.faultTb_connFault (cause : Nat) : ((s.connFault k cause).conn k).faultTb = s.tb := by
  unfold State.connFault
  rw [State.Leaves.connEvent.conn, State.conn_modConn_same]
  exact State.Leaves.count.part .tb
theorem State.refreshSf_keeps : s.refreshSf.connState k = s.connState k ∧ s.refreshSf.conn k = s.conn k :=
  ⟨State.nat_of_get (State.Leaves.refreshSf.get ⟨by grind, fun _ _ => by grind⟩), State.Leaves.refreshSf.conn k⟩

/-- A frame with a wrong check value, the first of its second, is counted and leaves the connection going. -/
theorem State.hsfCrcError_first (hroom : s.nat (Od.HSF_CRC_ERRORS k) < 4294967295) (hfirst : (s.conn k).crcTimes = [])
    (hmax : 1 ≤ s.nat (Od.HSF_CRC_ERR_MAX k)) :
    (s.hsfCrcError k).nat (Od.HSF_CRC_ERRORS k) = s.nat (Od.HSF_CRC_ERRORS k) + 1 ∧
      (s.hsfCrcError k).connState k = s.connState k := by
  have hdisc (u : State) (j : Nat) : (u.hsfDiscard k 3).get j = u.get j := State.Leaves.hsfDiscard.get trivial
  have hcount {j : Nat} (h : j ≠ Od.HSF_CRC_ERRORS k ∧ j ≠ Od.HSF_CONN_CNT_STATUS k ∧ j ≠ Od.CNT_CNT_OVF_MAP) :
      (s.count (ctrConn Od.HSF_CRC_ERRORS 32 0 k)).get j = s.get j := State.Leaves.count.get (by grind [ctrConn])
  have htimes : (((s.count (ctrConn Od.HSF_CRC_ERRORS 32 0 k)).hsfDiscard k 3).conn k).crcTimes = [] := by
    unfold State.hsfDiscard
    dsimp only
    split
    · rw [State.Leaves.count.conn, hfirst]
    · rw [State.Leaves.connEvent.conn, State.conn_modConn_same, State.Leaves.count.conn, hfirst]
  have heq : s.hsfCrcError k = ((s.count (ctrConn Od.HSF_CRC_ERRORS 32 0 k)).hsfDiscard k 3).modConn k fun x =>
      { x with crcTimes := [((s.count (ctrConn Od.HSF_CRC_ERRORS 32 0 k)).hsfDiscard k 3).tb] } := by
    unfold State.hsfCrcError
    dsimp only
    rw [htimes, List.filter_nil]
    refine if_neg fun h => ?_
    have hkeep : (State.modConn ((s.count (ctrConn Od.HSF_CRC_ERRORS 32 0 k)).hsfDiscard k 3) k fun x =>
        { x with crcTimes := [((s.count (ctrConn Od.HSF_CRC_ERRORS 32 0 k)).hsfDiscard k 3).tb] }).nat (Od.HSF_CRC_ERR_MAX k) =
        s.nat (Od.HSF_CRC_ERR_MAX k) := State.nat_of_get ((hdisc _ _).trans (hcount (by grind)))
    have hlt := h.2
    rw [hkeep, List.length_singleton] at hlt
    omega
  rw [heq]
  constructor
  · refine (State.nat_of_get (hdisc _ _)).trans ((s.nat_count_min (ctrConn Od.HSF_CRC_ERRORS 32 0 k) ?_ ?_).trans ?_)
    · grind [ctrConn]
    · grind [ctrConn]
    · show min (s.nat (Od.HSF_CRC_ERRORS k) + 1) (2 ^ 32 - 1) = _
      omega
  · exact State.nat_of_get ((hdisc _ _).trans (hcount (by grind)))

/-- A valid echo that came in time gives the loop time, starts the watchdog again and takes START to RUN. -/
theorem State.hsfEcho_good (data payload : List Byte) (q p : Nat) (e : Nat × Nat) (hrole : s.nat (Od.HSF_CONN_ROLE k) = 2)
    (hmode : s.nat (Od.HSF_TIME_MODE k) = 1) (hstate : s.connState k = 1 ∨ s.connState k = 2)
    (hcheck : s.hsfCheck k true data = .good q p payload)
    (hsent : (s.conn k).sent.find? (fun e => e.1 == fieldLe payload 0 2) = some e)
    (htime : s.tb - e.2 ≤ us (s.nat (Od.HSF_RT_MAX_us k))) :
    (s.hsfEcho k data).connState k = 2 ∧ (s.hsfEcho k data).int (Od.HSF_LAST_AGE_us k) = ((s.tb - e.2) / 100 : Nat) ∧
      ((s.hsfEcho k data).conn k).wdgTb = s.tb := by
  have hage {j : Nat} (hj : j ≠ Od.HSF_LAST_AGE_us k) : ((s.setI (Od.HSF_LAST_AGE_us k) ((s.tb - e.2) / 100 : Nat)).modConn k
      fun x => { x with wdgTb := s.tb }).nat j = s.nat j := State.nat_of_get (State.Leaves.setI.get hj)
  have heq : s.hsfEcho k data = if s.connState k = 1 then
        ((s.setI (Od.HSF_LAST_AGE_us k) ((s.tb - e.2) / 100 : Nat)).modConn k fun x => { x with wdgTb := s.tb }).connRun k
      else (s.setI (Od.HSF_LAST_AGE_us k) ((s.tb - e.2) / 100 : Nat)).modConn k fun x => { x with wdgTb := s.tb } := by
    unfold State.hsfEcho
    rw [if_neg (by omega), hcheck]
    dsimp only
    rw [hsent]
    dsimp only
    rw [if_neg (by omega), State.connState, hage (by grind)]
    rfl
  rw [heq]
  split
  · refine ⟨State.connState_connRun _ k, (State.int_connRun _ k (by grind)).trans ((State.int_setI _ _ _ _).trans (if_pos rfl)), ?_⟩
    rw [State.conn_connRun]
    rfl
  · next h =>
    have hrun : s.connState k = 2 := hstate.resolve_left h
    refine ⟨(hage (by grind)).trans hrun, (State.int_setI _ _ _ _).trans (if_pos rfl), ?_⟩
    rw [State.conn_modConn_same]

/-- A queue of eight that drops its oldest entry keeps the newest. -/
theorem queue_keeps_newest {α : Type} (l : List α) (x : α) :
    (l.length ≤ 8 → (if 8 < (l ++ [x]).length then (l ++ [x]).drop 1 else l ++ [x]).length = min 8 (l.length + 1)) ∧
      (if 8 < (l ++ [x]).length then (l ++ [x]).drop 1 else l ++ [x]).getLast? = some x := by
  have hlen : (l ++ [x]).length = l.length + 1 := by rw [List.length_append, List.length_singleton]
  constructor
  · intro h
    split
    · rw [List.length_drop]; omega
    · omega
  · split
    · rw [List.getLast?_drop, if_neg (by omega), List.getLast?_concat]
    · rw [List.getLast?_concat]

/-- A consumer connection that is not OFF keeps a received frame, eight at most. -/
theorem State.hsfReceive_keeps (data : List Byte) (hrole : s.nat (Od.HSF_CONN_ROLE k) = 1) (hstate : s.connState k ≠ 0) :
    ((s.conn k).buffer.length ≤ 8 → ((s.hsfReceive k data).conn k).buffer.length = min 8 ((s.conn k).buffer.length + 1)) ∧
      ((s.hsfReceive k data).conn k).buffer.getLast?.map Prod.fst = some data ∧
      (s.hsfReceive k data).connState k = s.connState k := by
  obtain ⟨hlen, hlast⟩ := queue_keeps_newest (s.conn k).buffer (data, if s.time.sync then some s.gt10us else none)
  have heq : s.hsfReceive k data = _ := if_neg (by simp [hrole, hstate])
  rw [heq, State.conn_modConn_same]
  exact ⟨hlen, congrArg (Option.map Prod.fst) hlast, rfl⟩

/-- What a producer does once its frame, with number x.next, is on its way. -/
def State.hsfSentOn (s : State) (k : Fin 16) (x : ConnSt) : State :=
  let s := (s.countWide (Od.HSF_FRAMES_OK k)).setN (Od.HSF_LAST_SEQ k) x.next
  let s := s.when (x.next == 1 && x.sent.any fun e => e.1 == 65535) fun s => s.hsfWrap k
  let s := s.modConn k fun y => { y with
    next := nextSeq x.next, sent := ((x.next, s.tb) :: y.sent).take 16, dueTb := s.connDue k }
  if s.connState k = 1 ∧ s.nat (Od.HSF_TIME_MODE k) = 0 then s.connRun k else s

theorem State.hsfSentOn_shows (x : ConnSt) (hstate : s.connState k = 1 ∨ s.connState k = 2) :
    ((s.hsfSentOn k x).conn k).next = nextSeq x.next ∧ (s.hsfSentOn k x).nat (Od.HSF_LAST_SEQ k) = x.next ∧
      ((s.hsfSentOn k x).conn k).dueTb = s.connDue k ∧
      (s.hsfSentOn k x).connState k = if s.nat (Od.HSF_TIME_MODE k) = 0 then 2 else s.connState k := by
  have hwrap (u : State) (b : Bool) : State.Leaves [.od, .log, .conns] (fun j => j ≠ Od.HSF_SEQ_WRAPS k) false u
      (u.when b fun s => s.hsfWrap k) := .when (fun _ => .step .hsfWrap .refl) .refl
  have hlast (u : State) (b : Bool) : ((u.setN (Od.HSF_LAST_SEQ k) x.next).when b fun s => s.hsfWrap k).nat (Od.HSF_LAST_SEQ k) =
      x.next := (State.nat_of_get ((hwrap _ b).get (by grind))).trans ((State.nat_setN _ _ _ _).trans (if_pos rfl))
  have hkeep (b : Bool) {j : Nat} (hj : j ≠ Od.HSF_SEQ_WRAPS k ∧ j ≠ Od.HSF_LAST_SEQ k ∧ j ≠ Od.HSF_FRAMES_OK k) :
      (((s.countWide (Od.HSF_FRAMES_OK k)).setN (Od.HSF_LAST_SEQ k) x.next).when b fun s => s.hsfWrap k).nat j = s.nat j := by
    obtain ⟨hw, hl, hf⟩ := hj
    exact State.nat_of_get (((hwrap _ b).get hw).trans ((State.Leaves.setN.get hl).trans (State.Leaves.countWide.get hf)))
  unfold State.hsfSentOn
  dsimp only
  generalize hu : (((s.countWide (Od.HSF_FRAMES_OK k)).setN (Od.HSF_LAST_SEQ k) x.next).when _ fun s => s.hsfWrap k) = u
  have htb : u.tb = s.tb := by rw [← hu]; exact (hwrap _ _).part .tb
  have hlast' : u.nat (Od.HSF_LAST_SEQ k) = x.next := by rw [← hu]; exact hlast _ _
  have hdue : u.connDue k = s.connDue k := by
    unfold State.connDue
    rw [htb, ← hu, hkeep _ (by grind)]
  have hmode : u.nat (Od.HSF_TIME_MODE k) = s.nat (Od.HSF_TIME_MODE k) := by rw [← hu]; exact hkeep _ (by grind)
  have hstate' : u.connState k = s.connState k := by rw [← hu]; exact hkeep _ (by grind)
  generalize hv : (u.modConn k fun y => { y with
    next := nextSeq x.next, sent := ((x.next, u.tb) :: y.sent).take 16, dueTb := u.connDue k }) = v
  have hconn : (v.conn k).next = nextSeq x.next ∧ (v.conn k).dueTb = s.connDue k := by
    rw [← hv, State.conn_modConn_same, hdue]
    exact ⟨rfl, rfl⟩
  have hget (j : Nat) : v.nat j = u.nat j := by rw [← hv]; rfl
  have hv' : v.connState k = s.connState k := (hget _).trans hstate'
  rw [hv', hget, hmode]
  split
  · next h =>
    rw [State.conn_connRun, State.connState_connRun, if_pos h.2]
    exact ⟨hconn.1, (State.nat_of_get (State.Leaves.connRun.get (by grind))).trans ((hget _).trans hlast'), hconn.2, rfl⟩
  · next h =>
    refine ⟨hconn.1, (hget _).trans hlast', hconn.2, ?_⟩
    rw [hv']
    split
    · next hm => exact hstate.resolve_left fun h1 => h ⟨h1, hm⟩
    · rfl

/-- What a producer that is due sends (R407). -/
theorem State.hsfProduce_due (hrole : s.nat (Od.HSF_CONN_ROLE k) = 2) (hstate : s.connState k = 1 ∨ s.connState k = 2)
    (hdue : (s.conn k).dueTb ≤ s.tb) :
    ((s.hsfProduce k).conn k).next = nextSeq (s.conn k).next ∧ (s.hsfProduce k).nat (Od.HSF_LAST_SEQ k) = (s.conn k).next ∧
      ((s.hsfProduce k).conn k).dueTb = s.connDue k ∧
      (s.hsfProduce k).connState k = if s.nat (Od.HSF_TIME_MODE k) = 0 then 2 else s.connState k := by
  have hsend : ∃ ident frame stale, s.hsfProduce k = (s.hsfSend k ident frame stale).hsfSentOn k (s.conn k) :=
    ⟨_, _, _, if_neg (by omega)⟩
  obtain ⟨ident, frame, stale, heq⟩ := hsend
  have hkeep {j : Nat} (hj : j = Od.HSF_CONN_STATE k ∨ j = Od.HSF_TIME_MODE k ∨ j = Od.HSF_PERIOD_us k) :
      (s.hsfSend k ident frame stale).nat j = s.nat j := by
    refine State.nat_of_get (State.Leaves.hsfSend.get ?_)
    rcases hj with rfl | rfl | rfl <;> exact ⟨by grind, by grind, by grind, by grind, by grind⟩
  have hstate' : (s.hsfSend k ident frame stale).connState k = s.connState k := hkeep (.inl rfl)
  have hdue' : (s.hsfSend k ident frame stale).connDue k = s.connDue k := by
    unfold State.connDue
    rw [hkeep (.inr (.inr rfl)), State.Leaves.hsfSend.part .tb]
  have h := (s.hsfSend k ident frame stale).hsfSentOn_shows k (s.conn k) (by rw [hstate']; exact hstate)
  rw [hdue', hstate', hkeep (.inr (.inl rfl))] at h
  rw [heq]
  exact h

/-- A connection in RUN that has been silent for its watchdog time is in FAULT. -/
theorem State.hsfSilent_faults (hstate : s.connState k = 2) (hdue : (s.conn k).wdgTb + ms (s.nat (Od.HSF_WDG_ms k)) ≤ s.tb)
    (h : (s.nat (Od.HSF_CONN_ROLE k) = 1 ∧ (s.conn k).buffer = []) ∨
      (s.nat (Od.HSF_CONN_ROLE k) = 2 ∧ s.nat (Od.HSF_TIME_MODE k) = 1)) :
    (s.hsfSilent k).connState k = 3 ∧ ((s.hsfSilent k).conn k).faultTb = s.tb := by
  have hend (cause : Nat) : (s.connFault k cause).refreshSf.connState k = 3 ∧ ((s.connFault k cause).refreshSf.conn k).faultTb = s.tb := by
    obtain ⟨hkept, hconn⟩ := (s.connFault k cause).refreshSf_keeps k
    rw [hkept, hconn]
    exact ⟨s.connState_connFault k cause, s.faultTb_connFault k cause⟩
  unfold State.hsfSilent
  rw [if_neg (by simp [hstate, hdue])]
  rcases h with ⟨hrole, hempty⟩ | ⟨hrole, hmode⟩
  · rw [if_pos hrole, hempty, List.isEmpty_nil, if_pos rfl]
    exact hend 1
  · rw [if_neg (by omega), if_pos hmode]
    exact hend 4
end

/-- Settles O37: each command by the lemma above about its operation, on the state in which its frame is looked at. -/
theorem safeFrameCommandsComplete : Obligations.SafeFrameCommandsComplete := by
  unfold Obligations.SafeFrameCommandsComplete
  refine ⟨?_, ?_, ?_, ?_, ?_, ?_, ?_⟩
  · rintro s dt k data ⟨hrole, hstate⟩
    have h := (s.hsfTaken dt k ((s.elapse dt).nat (Od.HSF_CONN_ID k))).hsfReceive_keeps k data
      (by rw [s.nat_hsfTaken dt k _ (by grind)]; exact hrole) (by rw [s.connState_hsfTaken]; exact hstate)
    rw [s.conn_hsfTaken, s.connState_hsfTaken] at h
    exact ⟨_, reply_of_pending ((State.Leaves.hsfReceive.part .pending).trans (s.pending_hsfTaken dt k _)), h⟩
  · intro s dt k data hor
    have heq : (s.hsfTaken dt k ((s.elapse dt).nat (Od.HSF_CONN_ID k))).hsfReceive k data = s.hsfTaken dt k _ :=
      if_pos (by rw [s.nat_hsfTaken dt k _ (by grind), s.connState_hsfTaken]; exact hor)
    refine ⟨_, (congrArg (reply s) heq).trans (reply_of_pending ((State.Leaves.hsfTaken s dt k _).part .pending)), ?_⟩
    exact s.conn_hsfTaken dt k _ k
  · rintro s dt k data payload q p e ⟨hrole, hmode⟩ hstate hcheck hsent htime
    have h := (s.hsfTaken dt k ((s.elapse dt).nat (Od.HSF_ECHO_ID k))).hsfEcho_good k data payload q p e
      (by rw [s.nat_hsfTaken dt k _ (by grind)]; exact hrole) (by rw [s.nat_hsfTaken dt k _ (by grind)]; exact hmode)
      (by rw [s.connState_hsfTaken]; exact hstate) (by rw [s.hsfCheck_hsfTaken]; exact hcheck)
      (by rw [s.conn_hsfTaken]; exact hsent) (by rw [s.tb_hsfTaken, s.nat_hsfTaken dt k _ (by grind)]; exact htime)
    rw [s.tb_hsfTaken] at h
    exact ⟨_, reply_of_pending ((State.Leaves.hsfEcho.part .pending).trans (s.pending_hsfTaken dt k _)), h⟩
  · rintro s dt k data ⟨hrole, hmode⟩ hstate hcheck hroom ⟨hfirst, hmax⟩
    have heq : (s.hsfTaken dt k ((s.elapse dt).nat (Od.HSF_ECHO_ID k))).hsfEcho k data =
        (s.hsfTaken dt k ((s.elapse dt).nat (Od.HSF_ECHO_ID k))).hsfCrcError k := by
      unfold State.hsfEcho
      rw [s.nat_hsfTaken dt k _ (by grind), s.nat_hsfTaken dt k _ (by grind), s.connState_hsfTaken, s.hsfCheck_hsfTaken, hcheck,
        if_neg (by omega)]
    have h := (s.hsfTaken dt k ((s.elapse dt).nat (Od.HSF_ECHO_ID k))).hsfCrcError_first k
      (by rw [s.nat_hsfTaken dt k _ (by grind)]; exact hroom) (by rw [s.conn_hsfTaken]; exact hfirst)
      (by rw [s.nat_hsfTaken dt k _ (by grind)]; exact hmax)
    rw [s.connState_hsfTaken, s.nat_hsfTaken dt k _ (by grind)] at h
    refine ⟨_, (congrArg (reply s) heq).trans (reply_of_pending ?_), h⟩
    exact (State.Leaves.hsfCrcError.part .pending).trans (s.pending_hsfTaken dt k _)
  · intro s dt k hrole hstate hdue
    exact ⟨_, State.Leaves.hsfProduce.completes, (s.elapse dt).hsfProduce_due k hrole hstate hdue⟩
  · intro s dt k hstate hdue hor
    exact ⟨_, State.Leaves.hsfSilent.completes, (s.elapse dt).hsfSilent_faults k hstate hdue hor⟩
  · rintro s dt k ⟨hrole, hstate⟩ hdue
    have heq : (s.elapse dt).hsfRestart k = (s.elapse dt).connStart k := if_pos ⟨hrole, hstate, hdue⟩
    refine ⟨_, State.Leaves.hsfRestart.completes, ?_⟩
    rw [heq, State.connStart, State.conn_modConn_same]
    exact ⟨(State.nat_setN _ _ _ _).trans (if_pos rfl), rfl, rfl⟩

end Sys2Proof.Machine
end

section
/-! PROOFS. Writes and service states of the position interfaces (O17). -/
namespace Sys2Proof.Machine
open Sys2Proof
set_option Elab.async false

/-! ### Fields and bits of an object -/

theorem withField_low (n v lo w : Nat) : withField n lo w v % 2 ^ lo = n % 2 ^ lo := by
  have hle : n / 2 ^ lo % 2 ^ w * 2 ^ lo ≤ n :=
    (Nat.mul_le_mul_right _ (Nat.mod_le _ _)).trans (Nat.div_mul_le_self _ _)
  have hsub : (n - n / 2 ^ lo % 2 ^ w * 2 ^ lo) % 2 ^ lo = n % 2 ^ lo := by
    conv_rhs => rw [← Nat.sub_add_cancel hle, Nat.add_mul_mod_self_right]
  rw [withField, Nat.add_mul_mod_self_right, hsub]
theorem withField_field (n v lo w : Nat) : withField n lo w v / 2 ^ lo % 2 ^ w = v % 2 ^ w := by
  have hdiv : withField n lo w v / 2 ^ lo = 2 ^ w * (n / 2 ^ lo / 2 ^ w) + v % 2 ^ w := by
    have hmod := Nat.div_add_mod (n / 2 ^ lo) (2 ^ w)
    rw [withField, Nat.add_mul_div_right _ _ (Nat.two_pow_pos lo), Nat.mul_comm (_ % _) (2 ^ lo), Nat.sub_mul_div]
    omega
  rw [hdiv, Nat.mul_add_mod, Nat.mod_mod]

section
variable (s : State) (k : Nat)

theorem State.field_setField_same (lo w v : Nat) : (s.setField k lo w v).field k lo w = v % 2 ^ w := by
  rw [State.field, State.setField, State.nat_setN, if_pos rfl, withField_field]
theorem State.bit_setField_outside {lo w m : Nat} (v : Nat) (h : m < lo ∨ lo + w ≤ m) :
    (s.setField k lo w v).bit k m = s.bit k m := by
  rcases h with h | h
  · have hbit (n : Nat) : n.testBit m = (n % 2 ^ lo).testBit m := by simp [Nat.testBit_mod_two_pow, h]
    rw [State.bit, State.setField, State.nat_setN, if_pos rfl, hbit, withField_low, ← hbit]
    rfl
  · exact s.bit_setField_above k v h

/-- A field is its bits. -/
theorem State.field_of_bits {s t : State} {k lo w : Nat} (h : ∀ m, lo ≤ m → m < lo + w → t.bit k m = s.bit k m) :
    t.field k lo w = s.field k lo w := by
  refine Nat.eq_of_testBit_eq fun i => ?_
  rw [State.field, State.field, Nat.testBit_mod_two_pow, Nat.testBit_mod_two_pow, Nat.testBit_div_two_pow, Nat.testBit_div_two_pow]
  by_cases hi : i < w
  · have hm := h (i + lo) (by omega) (by omega)
    rw [State.bit, State.bit] at hm
    rw [hm]
  · simp [hi]

theorem State.field_setBit_outside {lo w i : Nat} (b : Bool) (h : i < lo ∨ lo + w ≤ i) :
    (s.setBit k i b).field k lo w = s.field k lo w :=
  State.field_of_bits fun _ _ _ => State.bit_setBit_other _ _ _ _ _ (by omega)
theorem State.field_setField_outside {lo w lo' w' : Nat} (v : Nat) (h : lo + w ≤ lo' ∨ lo' + w' ≤ lo) :
    (s.setField k lo' w' v).field k lo w = s.field k lo w :=
  State.field_of_bits fun _ _ _ => State.bit_setField_outside _ _ _ (by omega)
end

/-! ### The state of an interface -/

section
variable (s : State) (p : Fin 12)

/-- With no line held back there is nothing to settle. -/
theorem State.settle_idle (h : (s.pif p).held = 0) : s.settle p = s := by
  have hfirst : s.settleFirst p = s := by
    have hnone : s.settleTimes p = [] := by
      unfold State.settleTimes
      dsimp only
      rw [h]
      rfl
    rw [State.settleFirst, hnone]
    rfl
  rw [State.settle, hfirst, hfirst, hfirst]

theorem State.pif_modPif_same (f : PifSt → PifSt) : (s.modPif p f).pif p = f (s.pif p) := get_upd_same _ _ _

/-- An interface that enters CHECK keeps its wire bits. -/
theorem State.pifCheck_shows : (s.pifCheck p).pifService p = 1 ∧ (s.pifCheck p).wireBits p = s.wireBits p := by
  have hfield {lo w : Nat} (h : lo + w ≤ 8) (b : Bool) :
      ((((s.setField (Od.PIF_PIF_STATUS p) 0 3 1).setBit (Od.PIF_PIF_STATUS p) 16 false).setBit (Od.PIF_PIF_STATUS p) 8 false).when b
        fun s => s.setBit (Od.PIF_PIF_STATUS p) 17 true).field (Od.PIF_PIF_STATUS p) lo w =
      (s.setField (Od.PIF_PIF_STATUS p) 0 3 1).field (Od.PIF_PIF_STATUS p) lo w := by
    cases b
    · exact (State.field_setBit_outside _ _ _ (by omega)).trans (State.field_setBit_outside _ _ _ (by omega))
    · exact (State.field_setBit_outside _ _ _ (by omega)).trans
        ((State.field_setBit_outside _ _ _ (by omega)).trans (State.field_setBit_outside _ _ _ (by omega)))
  exact ⟨(hfield (by decide) _).trans (State.field_setField_same _ _ _ _ _),
    (hfield (by decide) _).trans (State.field_setField_outside _ _ _ (by omega))⟩
theorem State.field_modPif (f : PifSt → PifSt) (k lo w : Nat) : (s.modPif p f).field k lo w = s.field k lo w := rfl
theorem State.pifService_pifOff : (s.pifOff p).pifService p = 0 := by
  rw [State.pifService, State.pifOff, State.field_modPif, State.field_setField_outside _ _ _ (by omega),
    State.field_setBit_outside _ _ _ (by omega), State.field_setBit_outside _ _ _ (by omega), State.field_setField_same]
  rfl

/-- The interface takes another MODE: what it followed before is forgotten. -/
def State.pifModeSet (v : Nat) : State :=
  (s.setN (Od.PIF_MODE p) v).modPif p fun x => { x with ssiLast := none, lines := x.raw, held := 0, index := none, turned := false }

/-- With its die supplied the interface is OFF in MODE 0 and in CHECK in another. -/
def State.pifModeTo (v : BitVec 8) : State :=
  if v.toNat = 0 then (s.pifModeSet p v.toNat).pifOff p else (s.pifModeSet p v.toNat).pifCheck p

theorem State.pifModeTo_shows (v : BitVec 8) : (s.pifModeTo p v).nat (Od.PIF_MODE p) = v.toNat ∧
    ((s.pifModeTo p v).pifService p = if v = 0 then 0 else 1) ∧ (s.pifModeTo p v).pending = s.pending := by
  have hmode : (s.pifModeSet p v.toNat).nat (Od.PIF_MODE p) = v.toNat := (State.nat_setN _ _ _ _).trans (if_pos rfl)
  have hzero : v.toNat = 0 ↔ v = 0 := by
    rw [← BitVec.toNat_inj]
    rfl
  unfold State.pifModeTo
  by_cases hv : v = 0
  · rw [if_pos hv, if_pos (hzero.2 hv)]
    exact ⟨(State.nat_of_get (State.Leaves.pifOff.get (by grind))).trans hmode, State.pifService_pifOff _ p,
      State.Leaves.pifOff.part .pending⟩
  · rw [if_neg hv, if_neg (mt hzero.1 hv)]
    exact ⟨(State.nat_of_get (State.Leaves.pifCheck.get (by grind))).trans hmode, (State.pifCheck_shows _ p).1,
      State.Leaves.pifCheck.part .pending⟩

theorem State.bit_modPif (f : PifSt → PifSt) (k b : Nat) : (s.modPif p f).bit k b = s.bit k b := rfl

/-- The interface looks for its index. -/
def State.indexArmed : State :=
  ((s.setBit (Od.PIF_PIF_STATUS p) 19 true).setBit (Od.PIF_PIF_STATUS p) 18 false).modPif p fun x => { x with armTb := some s.tb }

theorem State.indexArmed_shows :
    (s.indexArmed p).bit (Od.PIF_PIF_STATUS p) 19 = true ∧ (s.indexArmed p).bit (Od.PIF_PIF_STATUS p) 18 = false :=
by
  rw [State.indexArmed, State.bit_modPif, State.bit_modPif, State.bit_setBit_same, State.bit_setBit_other _ _ _ _ _ (by decide),
    State.bit_setBit_same]
  exact ⟨rfl, rfl⟩

/-- An accepted write that comes with nothing to settle. -/
theorem State.settled_completes {s t u : State} {dt : Nat} {who : Requester} {key : Nat} {role : Role}
    {effect : State → Except Nat State} (hu : u = s.elapse dt) (ha : s.accepts dt who key role = true)
    (he : effect (s.begun dt who) = .ok t) (hp : t.pending = s.pending) :
    reply s (u.request who key role effect) = .next ((t.noteWrite who key).emit (.response who 0 [])) := by
  rw [hu]
  exact State.accepted_completes ha he hp

/-- An interface whose check has passed. -/
def State.checkPassed : State :=
  (((s.setField (Od.PIF_PIF_STATUS p) 0 3 2).setBit (Od.PIF_PIF_STATUS p) 4 true).setBit (Od.PIF_PIF_STATUS p) 16 true).pifEvent p 0x0602

theorem State.checkPassed_shows : (s.checkPassed p).pifService p = 2 ∧ (s.checkPassed p).bit (Od.PIF_PIF_STATUS p) 16 = true := by
  have hevent (u : State) (k : Nat) : (u.pifEvent p 0x0602).get k = u.get k := State.Leaves.pifEvent.get trivial
  unfold State.checkPassed State.pifService
  rw [State.bit_of_get (hevent _ _), State.field_of_get (hevent _ _), State.field_setBit_outside _ _ _ (by omega),
    State.field_setBit_outside _ _ _ (by omega), State.field_setField_same, State.bit_setBit_same]
  exact ⟨rfl, rfl⟩
theorem State.checkPass_passes (hservice : s.pifService p = 1) (hwire : s.wireBits p = 0) (hheld : (s.pif p).held = 0)
    (hsince : (s.pif p).since + ms (s.nat (Od.PIF_CHECK_TIME_ms p)) ≤ s.tb) (hssi : s.pifMode p = 2 → 16 ≤ (s.pif p).ssiGood) :
    s.checkPass p = s.checkPassed p := by
  unfold State.checkPass
  rw [s.settle_idle p hheld]
  exact if_pos ⟨hservice, hwire, hsince, Decidable.not_or_of_imp hssi⟩

/-- A counter that is loaded reads the value and loses its reference error. -/
theorem State.presetCount_shows (v : Int) :
    (s.presetCount p v).int (Od.PIF_POSITION p) = v ∧ (s.presetCount p v).bit (Od.PIF_PIF_STATUS p) 17 = false := by
  have hrest (u : State) (f g : PifSt → PifSt) {k : Nat} :
      ((((u.speedRestart p).modPif p f).pawlMoved p).modPif p g).get k = u.get k :=
    State.Leaves.pawlMoved.get trivial
  have hload (f g : PifSt → PifSt) {k : Nat} : (((((((s.setI (Od.PIF_POSITION p) v).setBit (Od.PIF_PIF_STATUS p) 17 false).speedRestart
      p).modPif p f).pawlMoved p).modPif p g).get k) = ((s.setI (Od.PIF_POSITION p) v).setBit (Od.PIF_PIF_STATUS p) 17 false).get k :=
    hrest _ f g
  constructor
  · refine (State.int_of_get (hload _ _)).trans ((State.int_of_get (State.Leaves.setBit.get ?_)).trans
      ((State.int_setI _ _ _ _).trans (if_pos rfl)))
    grind
  · exact (State.bit_of_get (hload _ _) 17).trans (State.bit_setBit_same _ _ _ _)
end

/-- Settles O17: each command by the lemma above about its operation; nothing waits to be settled before it. -/
theorem positionServiceComplete : Obligations.PositionServiceComplete := by
  unfold Obligations.PositionServiceComplete
  refine ⟨?_, ?_, ?_, ?_, ?_, ?_, ?_⟩
  · intro s dt who p v ha howns hheld
    have hset : (s.elapse dt).settle p = s.elapse dt := State.settle_idle _ p hheld
    have he : refuseIf (!(s.begun dt who).owns who (pifDrive p)) 0x08000022 (.ok ((s.begun dt who).presetCount p v.toInt)) =
        .ok ((s.begun dt who).presetCount p v.toInt) := by rw [howns]; rfl
    obtain ⟨hpos, hbit⟩ := (s.begun dt who).presetCount_shows p v.toInt
    refine ⟨_, State.settled_completes hset ha he ?_, (State.int_of_get (State.get_replied _ _ _ _ _)).trans hpos,
      (State.bit_replied _ _ _ _ _ _).trans hbit, State.answered_emit _ who []⟩
    exact (State.Leaves.presetCount.part .pending).trans (s.begun_pending dt who)
  · intro s dt who p ha hheld
    have hset : (s.elapse dt).settle p = s.elapse dt := State.settle_idle _ p hheld
    have he : refuseIf ((1 : BitVec 8).toNat != 1) 0x06090030 (.ok ((s.begun dt who).indexArmed p)) =
        .ok ((s.begun dt who).indexArmed p) := rfl
    obtain ⟨harmed, hfound⟩ := (s.begun dt who).indexArmed_shows p
    refine ⟨_, State.settled_completes hset ha he (s.begun_pending dt who), ?_, ?_⟩
    · exact (State.bit_replied _ _ _ _ _ _).trans harmed
    · exact (State.bit_replied _ _ _ _ _ _).trans hfound
  · rintro s dt p ⟨hservice, hwire, hheld⟩ hsince hssi
    have heq := (s.elapse dt).checkPass_passes p hservice hwire hheld hsince hssi
    refine ⟨_, State.Leaves.checkPass.completes, ?_⟩
    rw [heq]
    exact (s.elapse dt).checkPassed_shows p
  · rintro s dt p ⟨hservice, hheld⟩ hlate hentry
    have hset : (s.elapse dt).settle p = s.elapse dt := State.settle_idle _ p hheld
    have heq : execCheckTimeout dt p s =
        reply s (((s.elapse dt).modPif p fun x => { x with late := true }).pifEvent p 0x0603) := by
      unfold execCheckTimeout
      dsimp only
      rw [hset]
      exact congrArg (reply s) (if_pos ⟨hservice, by rw [show (s.elapse dt).pif p = s.pif p from rfl, hlate]; exact nofun, hentry⟩)
    refine ⟨_, heq.trans (reply_of_pending rfl), ?_, hservice⟩
    exact congrArg PifSt.late (State.pif_modPif_same _ _ _)
  · rintro s dt p ⟨hservice, hwire, hheld⟩ hsince
    have hset : (s.elapse dt).settle p = s.elapse dt := State.settle_idle _ p hheld
    have heq : (s.elapse dt).faultClear p = (s.elapse dt).pifCheck p := by
      unfold State.faultClear
      rw [hset]
      exact if_pos ⟨hservice, hwire, hsince⟩
    obtain ⟨hone, hkept⟩ := (s.elapse dt).pifCheck_shows p
    refine ⟨_, State.Leaves.faultClear.completes, ?_⟩
    rw [heq]
    exact ⟨hone, hkept.trans hwire⟩
  · intro s dt who p ha hds hservice
    have hds' : (s.begun dt who).ds (pifDrive p) = s.ds (pifDrive p) := State.Leaves.begun.ds _
    have hservice' : (s.begun dt who).pifService p = s.pifService p := State.field_of_get (s.begun_get dt who) _ _
    have he : refuseIf ((1 : BitVec 8).toNat != 1) 0x06090030 (refuseIf ((s.begun dt who).ds (pifDrive p) != .standby &&
        (s.begun dt who).ds (pifDrive p) != .fault) 0x08000022 (.ok (if 2 ≤ (s.begun dt who).pifService p then
          (s.begun dt who).pifCheck p else s.begun dt who))) = .ok ((s.begun dt who).pifCheck p) := by
      rw [hds', hservice', if_pos (by omega)]
      rcases hds with h | h <;> rw [h] <;> rfl
    refine ⟨_, State.accepted_completes ha he ((State.Leaves.pifCheck.part .pending).trans (s.begun_pending dt who)), ?_,
      State.answered_emit _ who []⟩
    exact (State.field_of_get (State.get_replied _ _ _ _ _) _ _).trans ((s.begun dt who).pifCheck_shows p).1
  · intro s dt who p v ha hok hparam hsupplied
    have hparam' : (s.begun dt who).paramState (pifDrive p) = true := by
      rw [State.paramState, State.Leaves.begun.ds]
      exact hparam
    have hsupplied' : (s.begun dt who).pifSupplied p = true := by
      rw [State.pifSupplied, s.begun_bringup, State.Leaves.begun.link]
      exact hsupplied
    have he : refuseIf (!pifModeOk p v.toNat) 0x06090030 (refuseIf (!(s.begun dt who).paramState (pifDrive p)) 0x08000022
        (.ok (if v.toNat = 0 then ((s.begun dt who).pifModeSet p v.toNat).pifOff p else
          if ((s.begun dt who).pifModeSet p v.toNat).pifSupplied p then ((s.begun dt who).pifModeSet p v.toNat).pifCheck p else
          (s.begun dt who).pifModeSet p v.toNat))) = .ok ((s.begun dt who).pifModeTo p v) := by
      have hkept : ((s.begun dt who).pifModeSet p v.toNat).pifSupplied p = true := hsupplied'
      rw [hok, hparam', hkept]
      rfl
    obtain ⟨hmode, hservice, hpending⟩ := (s.begun dt who).pifModeTo_shows p v
    refine ⟨_, State.accepted_completes ha he (hpending.trans (s.begun_pending dt who)), ?_, ?_⟩
    · exact (State.nat_replied _ _ _ _ _).trans hmode
    · exact (State.field_of_get (State.get_replied _ _ _ _ _) _ _).trans hservice

end Sys2Proof.Machine
end

section
/-! PROOFS. Shifts and the axle manager's writes (O21). -/
namespace Sys2Proof.Machine
open Sys2Proof
set_option Elab.async false

/-! ### Shifts (R264 to R271) -/

theorem State.touch_get (s : State) (who : Requester) {k : Nat} (hk : k ≠ Od.SVC_REQUESTS) : (s.touch who).get k = s.get k :=
  State.Leaves.touch.get hk

/-- What may refuse a shift does not depend on the access that asks for it. -/
theorem State.shiftRefusal_touch (s : State) (who : Requester) (m : Fin 2) (v : Nat) :
    (s.touch who).shiftRefusal m v = s.shiftRefusal m v := by
  have hn (k : Nat) (hk : k ≠ Od.SVC_REQUESTS) : (s.touch who).nat k = s.nat k := State.nat_of_get (s.touch_get who hk)
  have hq (k : Nat) (hk : k ≠ Od.SVC_REQUESTS) : (s.touch who).num k = s.num k := State.num_of_get (s.touch_get who hk)
  have hi (k : Nat) (hk : k ≠ Od.SVC_REQUESTS) : (s.touch who).int k = s.int k := State.int_of_get (s.touch_get who hk)
  have hds (d : Drive) : (s.touch who).ds d = s.ds d := State.Leaves.touch.ds d
  have hgbx : (s.touch who).gbx = s.gbx := State.Leaves.touch.part .gbx
  have htb : (s.touch who).tb = s.tb := State.Leaves.touch.part .tb
  have hgear : (s.touch who).gear m = s.gear m := hn _ (by grind)
  have hpark : (s.touch who).park m = s.park m := hn _ (by grind)
  have hstep : (s.touch who).shiftStep m = s.shiftStep m := hn _ (by grind)
  have hshifting : (s.touch who).shifting m = s.shifting m := by rw [State.shifting, State.shifting, hstep]
  have hratio : (s.touch who).targetRatio m v = s.targetRatio m v := by
    rw [State.targetRatio, State.targetRatio, hq _ (by grind), hq _ (by grind)]
  have hserves : (s.touch who).luServes (2 * m.val) = s.luServes (2 * m.val) := by
    rw [State.luServes, State.luServes, hn _ (by grind)]
  have hside : (s.touch who).side m = s.side m := by rw [State.side, State.side, hgbx]
  have hspeeds : (s.touch who).recentSpeeds m = s.recentSpeeds m := by rw [State.recentSpeeds, State.recentSpeeds, hside, htb]
  have hingear : (s.touch who).inGear m = s.inGear m := by
    rw [State.inGear, State.inGear, hgear, hstep, hside, hq _ (by grind), hq _ (by grind)]
  have hpif : (s.touch who).pifService (2 * m.val + 1) = s.pifService (2 * m.val + 1) :=
    State.field_of_get (s.touch_get who (by grind)) _ _
  have hout : (s.touch who).outSpeed m = s.outSpeed m := by
    unfold State.outSpeed
    rw [hside, hpark, hn _ (by grind), hpif, hspeeds, hingear, htb, hq (Od.PIF_SPEED _) (by grind), hq (Od.SHF_OUT_SPEED _) (by grind)]
  unfold State.shiftRefusal State.gbxActive
  dsimp only
  rw [hds, hds, hpark, hout, hgear, hshifting, hratio, hserves, hq (Od.TR_SPEED _) (by grind), hq Od.SHF_SYNC_SPEED_MAX (by grind),
    hn (Od.LU_SECTIONS _) (by grind), hq (Od.SHF_RATIO_1 _) (by grind), hq (Od.SHF_RATIO_2 _) (by grind), hi (Od.SHF_POS_N _) (by grind),
    hi (Od.SHF_POS_G1 _) (by grind), hi (Od.SHF_POS_G2 _) (by grind)]

section
variable (s : State) (m : Fin 2)

theorem State.noteRefusal_none (who : Requester) {v : Nat} (h : s.shiftRefusal m v = 0) : s.noteRefusal who m v = s :=
  if_neg fun hall => hall.2.2.2.2.2 h

/-- A shift to another gear, with no shift of the other side, starts. -/
theorem State.shiftAccept_starts {v : Nat} (hsame : s.sameGear m v = false) (hother : s.shifting (otherSide m).val = false) :
    s.shiftAccept m v = (s.setN (Od.SHF_SHIFT_CMD m) v).shiftStart m v := by
  have hn {k : Nat} (hk : k ≠ Od.SHF_SHIFT_CMD m) : (s.setN (Od.SHF_SHIFT_CMD m) v).nat k = s.nat k :=
    State.nat_of_get (State.Leaves.setN.get hk)
  have hgear : (s.setN (Od.SHF_SHIFT_CMD m) v).gear m = s.gear m := hn (by grind)
  have hshifting (i : Fin 2) : (s.setN (Od.SHF_SHIFT_CMD m) v).shifting i = s.shifting i := by
    rw [State.shifting, State.shifting, State.shiftStep, State.shiftStep, hn (by grind)]
  have hnot : ¬ (s.gear m = targetGear v ∧ ¬ s.shifting m = true) := by
    rintro ⟨hg, hs⟩
    rw [State.sameGear, hg, (Bool.not_eq_true _).mp hs, beq_self_eq_true] at hsame
    cases hsame
  unfold State.shiftAccept
  dsimp only
  rw [hgear, hshifting, hshifting, if_neg hnot, hother, if_neg Bool.false_ne_true]

theorem State.shiftStart_shows (v : Nat) : (s.shiftStart m v).gear m = 5 ∧ (s.shiftStart m v).shiftStep m = 1 ∧
    (s.shiftStart m v).nat (Od.SHF_SHIFT_CMD m) = s.nat (Od.SHF_SHIFT_CMD m) := by
  have hlast (u : State) : (u.shiftTo m 1).shiftStep m = 1 := (State.nat_setN _ _ _ _).trans (if_pos rfl)
  have hkeep (u : State) {k : Nat} (hk : k ≠ Od.SHF_SHIFT_STEP m) : (u.shiftTo m 1).nat k = u.nat k :=
    State.nat_of_get (State.Leaves.shiftTo.get hk)
  refine ⟨(hkeep _ (by grind)).trans ((State.nat_setN _ _ _ _).trans (if_pos rfl)), hlast _, (hkeep _ (by grind)).trans ?_⟩
  exact (State.nat_setN _ _ _ _).trans (if_neg (by grind))

/-- A shift that fails leaves its side in the gear named and is counted. -/
theorem State.shiftFail_shows (gear code : Nat) : (s.shiftFail m gear code).gear m = gear ∧
    (s.shiftFail m gear code).nat (Od.SHF_SHIFT_FAILS m) = min (s.nat (Od.SHF_SHIFT_FAILS m) + 1) (2 ^ 32 - 1) := by
  have hidle (u : State) {k : Nat} (hk : k ≠ Od.SHF_SHIFT_STEP m) : (u.shiftIdle m).get k = u.get k := State.Leaves.shiftIdle.get hk
  have hlog (u : State) (b : Bool) (k : Nat) :
      (u.when b fun s => (s.event code (sideDrive m).num (s.shiftDetail m)).lastEvent .gbx code).get k = u.get k := by cases b <;> rfl
  have hcounted (u : State) : u.nat (Od.SHF_SHIFT_FAILS m) = s.nat (Od.SHF_SHIFT_FAILS m) →
      (u.count (ctrShiftFail m)).nat (Od.SHF_SHIFT_FAILS m) = min (s.nat (Od.SHF_SHIFT_FAILS m) + 1) (2 ^ 32 - 1) := fun h => by
    refine (u.nat_count_min (ctrShiftFail m) (by grind [ctrShiftFail]) (by grind [ctrShiftFail])).trans ?_
    show min (u.nat (Od.SHF_SHIFT_FAILS m) + 1) _ = _
    rw [h]
    rfl
  unfold State.shiftFail
  dsimp only
  constructor
  · refine (State.nat_of_get ((hidle _ (by grind)).trans (hlog _ _ _))).trans ?_
    refine (State.nat_of_get (State.Leaves.count.get (by grind [ctrShiftFail]))).trans ?_
    exact (State.nat_setN _ _ _ _).trans (if_pos rfl)
  · refine (State.nat_of_get ((hidle _ (by grind)).trans (hlog _ _ _))).trans ?_
    exact hcounted _ ((State.nat_setN _ _ _ _).trans (if_neg (by grind)))
end

/-! ### The axle manager (R258 to R263) -/

section
variable (s : State)

/-- A direction that is set stays set, whatever the other side's. -/
theorem State.nat_setDirection_same (m : Fin 2) (v : Nat) : (s.setDirection m v).nat (Od.TR_DIRECTION m) = v := by
  have hset (u : State) : ((u.setN (Od.TR_DIRECTION m) v).count (ctrDirChange m)).nat (Od.TR_DIRECTION m) = v :=
    (State.nat_of_get (State.Leaves.count.get (by grind [ctrDirChange]))).trans ((State.nat_setN _ _ _ _).trans (if_pos rfl))
  have hrev (u : State) (d : Drive) : (u.startReversal d).nat (Od.TR_DIRECTION m) = u.nat (Od.TR_DIRECTION m) := by
    refine State.nat_of_get (State.Leaves.startReversal.get ⟨by grind, by grind, by grind, by grind, by grind, by grind, by grind⟩)
  unfold State.setDirection
  split
  · assumption
  · dsimp only
    split
    · exact (hrev _ _).trans (hset _)
    · exact hset _
theorem State.axleDirection_shows : s.axleDirection.nat (Od.TR_DIRECTION 0) = s.nat Od.AXLE_AXLE_DIRECTION ∧
    s.axleDirection.nat (Od.TR_DIRECTION 1) =
      if s.bit Od.AXLE_AXLE_CTRL 1 then 3 - s.nat Od.AXLE_AXLE_DIRECTION else s.nat Od.AXLE_AXLE_DIRECTION := by
  have hother (u : State) (v : Nat) : (u.setDirection 1 v).nat (Od.TR_DIRECTION 0) = u.nat (Od.TR_DIRECTION 0) :=
    State.nat_of_get (State.Leaves.setDirection.get ⟨by grind, by grind, by grind, by grind, by grind, by grind, by grind, by grind,
      by grind, by grind⟩)
  exact ⟨(hother _ _).trans (s.nat_setDirection_same 0 _), State.nat_setDirection_same _ 1 _⟩
theorem State.get_axleDirection {k : Nat} (hk : k = Od.AXLE_AXLE_STATUS ∨ k = Od.AXLE_AXLE_MODE ∨ k = Od.AXLE_AXLE_DIRECTION) :
    s.axleDirection.get k = s.get k := by
  refine State.Leaves.axleDirection.get ?_
  rcases hk with rfl | rfl | rfl <;>
    exact ⟨by grind, by grind, by grind, by grind, by grind, by grind, by grind, by grind, by grind, by grind⟩

theorem State.axleMode_of_get {s t : State} (h : t.get Od.AXLE_AXLE_STATUS = s.get Od.AXLE_AXLE_STATUS) : t.axleMode = s.axleMode :=
  State.field_of_get h 0 2
theorem State.axleMode_setBit {i : Nat} (b : Bool) (h : 2 ≤ i) : (s.setBit Od.AXLE_AXLE_STATUS i b).axleMode = s.axleMode :=
  State.field_setBit_outside s _ b (.inr h)
theorem State.axleMode_setShortfall : (s.setShortfall 0 0).axleMode = s.axleMode := by
  have heq : s.setShortfall 0 0 = (s.setQ Od.AXLE_SHORTFALL 0).setBit Od.AXLE_AXLE_STATUS 3 ((0 : Rat) != 0) := by
    unfold State.setShortfall
    exact if_neg fun h => h.1 rfl
  rw [heq, State.axleMode_setBit _ _ (by decide)]
  exact State.axleMode_of_get (State.Leaves.setQ.get (by decide))

/-- A mode that is taken is the mode shown. -/
theorem State.axleModeNow_shows (v : Nat) : (s.axleModeNow v).axleMode = v % 4 := by
  have hset (u : State) : (u.setField Od.AXLE_AXLE_STATUS 0 2 v).axleMode = v % 4 := State.field_setField_same u _ _ _ _
  have hcount (u : State) (g : GbxSt) : (({ u with gbx := g } : State).count ctrModeChanges).axleMode = u.axleMode :=
    by refine State.axleMode_of_get (State.Leaves.count.get ?_); decide
  have hevent (u : State) : (u.event 0x0810 2 v).axleMode = u.axleMode := State.axleMode_of_get rfl
  have hzero (u : State) : (((u.setQ Od.AXLE_WHEEL_TQ_A 0).setQ Od.AXLE_WHEEL_TQ_B 0).setShortfall 0 0).axleMode = u.axleMode := by
    rw [State.axleMode_setShortfall]
    exact State.axleMode_of_get ((State.Leaves.setQ.get (by decide)).trans (State.Leaves.setQ.get (by decide)))
  unfold State.axleModeNow
  dsimp only
  split
  · rw [State.axleMode_setBit _ _ (by decide), State.axleMode_setBit _ _ (by decide), hzero, hevent, hcount, hset]
  · rw [State.axleMode_of_get (State.get_axleDirection _ (.inl rfl)), hevent, hcount, hset]
theorem State.mode_axleModeNow (v : Nat) : (s.axleModeNow v).nat Od.AXLE_AXLE_MODE = s.nat Od.AXLE_AXLE_MODE :=
  State.nat_of_get (State.Leaves.axleModeNow.get ⟨by decide, by decide, by decide, by decide, by decide, by decide, by grind, by decide,
    by grind, by grind, by grind, by grind, by grind, by grind, by grind, by grind⟩)

theorem State.axleModeEffect_takes (who : Requester) (v : Nat) (hle : v ≤ 3) (howns : s.ownsAxle who = true)
    (hratios : v ≠ 0 → s.ratiosSet = true) (hor : s.axleMode = 0 ∨ v = 0)
    (hruns : ∀ d ∈ [Drive.tra, .trb], s.ds d ≠ .active ∧ s.ds d ≠ .stopping) :
    ∃ t, State.axleModeEffect who v s = .ok t ∧ t.nat Od.AXLE_AXLE_MODE = v ∧ t.axleMode = v ∧ t.pending = s.pending := by
  have hnone : ([Drive.tra, .trb].any fun d => s.ds d == .active || s.ds d == .stopping) = false :=
    List.any_eq_false.2 fun d hd => by simp [hruns d hd]
  have hmode : (s.setN Od.AXLE_AXLE_MODE v).axleMode = s.axleMode := State.axleMode_of_get (State.Leaves.setN.get (by decide))
  have hratios' : (v != 0 && !s.ratiosSet) = false := by
    by_cases hv : v = 0
    · rw [hv]; rfl
    · rw [hratios hv, Bool.not_true, Bool.and_false]
  have hset : (s.setN Od.AXLE_AXLE_MODE v).nat Od.AXLE_AXLE_MODE = v := (State.nat_setN _ _ _ _).trans (if_pos rfl)
  have heq : State.axleModeEffect who v s = .ok (if v = s.axleMode then
        ({ s.setN Od.AXLE_AXLE_MODE v with gbx := { s.gbx with modeWait := none } } : State).setBit Od.AXLE_AXLE_STATUS 7 false
      else (s.setN Od.AXLE_AXLE_MODE v).axleModeNow v) := by
    unfold State.axleModeEffect
    dsimp only
    rw [hnone, howns, hratios', hmode, if_pos (by omega : v = 0 ∨ s.axleMode = 0), Bool.and_false]
    simp [refuseIf, hle]
  refine ⟨_, heq, ?_⟩
  split
  · next hsame =>
    refine ⟨(State.nat_of_get (State.Leaves.setBit.get (by decide))).trans hset, ?_, rfl⟩
    rw [State.axleMode_setBit _ _ (by decide)]
    exact hmode.trans hsame.symm
  · refine ⟨(State.mode_axleModeNow _ v).trans hset, ?_, State.Leaves.axleModeNow.part .pending⟩
    rw [State.axleModeNow_shows]
    omega

theorem State.axleDirectionEffect_takes (who : Requester) (v : Nat) (hv : v = 1 ∨ v = 2) (howns : s.ownsAxle who = true)
    (hmode : s.axleMode ≠ 0) (hfree : s.shiftHoldsDirection = false) :
    State.axleDirectionEffect who v s = .ok (s.setN Od.AXLE_AXLE_DIRECTION v).axleDirection := by
  have hkeep {k : Nat} (hk : k ≠ Od.AXLE_AXLE_DIRECTION) : (s.setN Od.AXLE_AXLE_DIRECTION v).get k = s.get k := State.Leaves.setN.get hk
  have hmode' : (s.setN Od.AXLE_AXLE_DIRECTION v).axleMode ≠ 0 := by
    rw [State.axleMode_of_get (hkeep (by decide))]
    exact hmode
  have hfree' : (s.setN Od.AXLE_AXLE_DIRECTION v).shiftHoldsDirection = false := by
    have hstep (m : Fin 2) : (s.setN Od.AXLE_AXLE_DIRECTION v).shiftStep m = s.shiftStep m := State.nat_of_get (hkeep (by grind))
    rw [← hfree]
    simp only [State.shiftHoldsDirection, hstep]
  have hok : (v != 1 && v != 2) = false := by rcases hv with rfl | rfl <;> rfl
  unfold State.axleDirectionEffect
  dsimp only
  rw [hok, howns, if_neg hmode', hfree', if_neg Bool.false_ne_true]
  rfl

theorem State.begun_axleMode (dt : Nat) (who : Requester) : (s.begun dt who).axleMode = s.axleMode :=
  State.axleMode_of_get (s.begun_get dt who (by decide))
theorem State.begun_ratiosSet (dt : Nat) (who : Requester) : (s.begun dt who).ratiosSet = s.ratiosSet := by
  have hq (k : Nat) (hk : k ≠ Od.SVC_REQUESTS) : (s.begun dt who).num k = s.num k := State.num_of_get (s.begun_get dt who hk)
  have hratio (m : Fin 2) : (s.begun dt who).num (Od.SHF_RATIO_1 m) = s.num (Od.SHF_RATIO_1 m) ∧
      (s.begun dt who).num (Od.SHF_RATIO_2 m) = s.num (Od.SHF_RATIO_2 m) := ⟨hq _ (by grind), hq _ (by grind)⟩
  simp only [State.ratiosSet, hratio]
theorem State.begun_shiftHoldsDirection (dt : Nat) (who : Requester) :
    (s.begun dt who).shiftHoldsDirection = s.shiftHoldsDirection := by
  have hstep (m : Fin 2) : (s.begun dt who).shiftStep m = s.shiftStep m := s.begun_nat dt who (by grind)
  simp only [State.shiftHoldsDirection, hstep]
end

/-- Settles O21: each command by the lemma above about its operation. -/
theorem shiftAndAxleCommandsComplete : Obligations.ShiftAndAxleCommandsComplete := by
  unfold Obligations.ShiftAndAxleCommandsComplete
  have htorque (s : State) (dt : Nat) (who : Requester) (key : Nat) (v : BitVec 32) (q : Rat)
      (ha : s.accepts dt who key .operator = true) (howns : (s.begun dt who).ownsAxle who = true) (hv : f32Decode v = some q) :
      ∃ t, reply s ((s.elapse dt).writeAxleTorque who key v) = .next t ∧ t.num key = q ∧ t.answered who = true := by
    refine ⟨_, State.accepted_completes (t := (s.begun dt who).setQ key q) ha ?_ (s.begun_pending dt who), ?_,
      State.answered_emit _ who []⟩
    · rw [hv]
      dsimp only
      rw [howns]
      rfl
    · exact (State.num_of_get (State.get_replied _ _ _ _ _)).trans ((State.num_setQ _ _ _ _).trans (if_pos rfl))
  refine ⟨?_, ?_, ?_, ?_, ?_, ?_⟩
  · intro s dt who m v ha hle howns hsame hrefusal hother
    have hnote : (s.elapse dt).noteRefusal who m v.toNat = s.elapse dt :=
      State.noteRefusal_none _ m who ((State.shiftRefusal_touch _ who m _).symm.trans hrefusal)
    have hother' : (s.begun dt who).shifting (otherSide m).val = false := by
      rw [State.shifting, State.shiftStep, s.begun_nat dt who]
      exact hother
    have he : State.shiftEffect who m v.toNat (s.begun dt who) =
        .ok (((s.begun dt who).setN (Od.SHF_SHIFT_CMD m) v.toNat).shiftStart m v.toNat) := by
      rw [State.shiftEffect, howns, hrefusal, (s.begun dt who).shiftAccept_starts m hsame hother']
      simp [refuseIf, hle]
    obtain ⟨hgear, hstep, hcmd⟩ := ((s.begun dt who).setN (Od.SHF_SHIFT_CMD m) v.toNat).shiftStart_shows m v.toNat
    refine ⟨_, State.settled_completes hnote ha he ?_, ⟨?_, ?_⟩, ?_, State.answered_emit _ who []⟩
    · exact (State.Leaves.shiftStart.part .pending).trans (s.begun_pending dt who)
    · exact (State.nat_replied _ _ _ _ _).trans hgear
    · exact (State.nat_replied _ _ _ _ _).trans hstep
    · exact (State.nat_replied _ _ _ _ _).trans (hcmd.trans ((State.nat_setN _ _ _ _).trans (if_pos rfl)))
  · intro s dt m hstep hdue hroom
    have hshifting : (s.elapse dt).shifting m = true := by
      have h : (s.elapse dt).shiftStep m = 1 := hstep
      rw [State.shifting, h]
      rfl
    have heq : (s.elapse dt).shiftLimit m = (s.elapse dt).shiftFail m (s.side m).oldGear 0x0805 := by
      have h : (s.elapse dt).shiftStep m = 1 := hstep
      unfold State.shiftLimit
      rw [h, if_pos ⟨hshifting, hdue⟩]
      rfl
    refine ⟨_, State.Leaves.shiftLimit.completes, ?_⟩
    rw [heq]
    exact (s.elapse dt).shiftFail_shows m _ _
  · intro s dt who v ha hle howns hratios hor hruns
    obtain ⟨t, he, hmode, hshown, hpending⟩ := (s.begun dt who).axleModeEffect_takes who v.toNat hle howns
      (fun hv => (s.begun_ratiosSet dt who).trans (hratios (by rintro rfl; exact hv rfl)))
      (by rw [s.begun_axleMode]; exact hor.imp_right (by rintro rfl; rfl))
      (fun d hd => by rw [State.Leaves.begun.ds]; exact hruns d hd)
    refine ⟨_, State.accepted_completes ha he (hpending.trans (s.begun_pending dt who)), ?_, ?_⟩
    · exact (State.nat_replied _ _ _ _ _).trans hmode
    · exact (State.field_of_get (State.get_replied _ _ _ _ _) _ _).trans hshown
  · intro s dt who v q ha howns hv
    exact htorque s dt who _ v q ha howns hv
  · intro s dt who v q ha howns hv
    exact htorque s dt who _ v q ha howns hv
  · rintro s dt who v ha hv howns ⟨hmode, hfree⟩
    have hv' : v.toNat = 1 ∨ v.toNat = 2 := hv.imp (by rintro rfl; rfl) (by rintro rfl; rfl)
    have he := (s.begun dt who).axleDirectionEffect_takes who v.toNat hv' howns (by rw [s.begun_axleMode]; exact hmode)
      (by rw [s.begun_shiftHoldsDirection]; exact hfree)
    have hset : ((s.begun dt who).setN Od.AXLE_AXLE_DIRECTION v.toNat).nat Od.AXLE_AXLE_DIRECTION = v.toNat :=
      (State.nat_setN _ _ _ _).trans (if_pos rfl)
    have hmirror : ((s.begun dt who).setN Od.AXLE_AXLE_DIRECTION v.toNat).bit Od.AXLE_AXLE_CTRL 1 = s.bit Od.AXLE_AXLE_CTRL 1 :=
      State.bit_of_get ((State.Leaves.setN.get (by decide)).trans (s.begun_get dt who (by decide))) 1
    obtain ⟨hfirst, hsecond⟩ := ((s.begun dt who).setN Od.AXLE_AXLE_DIRECTION v.toNat).axleDirection_shows
    rw [hset] at hfirst hsecond
    rw [hmirror] at hsecond
    refine ⟨_, State.accepted_completes ha he ((State.Leaves.axleDirection.part .pending).trans (s.begun_pending dt who)), ?_, ?_, ?_⟩
    · exact (State.nat_replied _ _ _ _ _).trans ((State.nat_of_get (State.get_axleDirection _ (.inr (.inr rfl)))).trans hset)
    · exact (State.nat_replied _ _ _ _ _).trans hfirst
    · exact (State.nat_replied _ _ _ _ _).trans hsecond

end Sys2Proof.Machine
end

section
/-! PROOFS. The time limits of the safety functions and the commands of the safety set (O36). -/
namespace Sys2Proof.Machine
open Sys2Proof
set_option Elab.async false

/-! ### Torque off (R24, R374) -/

/-- A drive whose torque-off pair is asserted is UNAVAILABLE or INHIBIT. -/
theorem State.ds_torqueOff (s : State) (d : Drive) : (s.torqueOff d).ds d = .unavailable ∨ (s.torqueOff d).ds d = .inhibit := by
  unfold State.torqueOff
  dsimp only
  split
  · next h => exact .inl h
  · exact .inr (State.ds_goto _ _ _ _)

/-- What the reaction of a safety function leaves of one drive: its pair asserted, its own state as it was. -/
theorem State.raiseSafe_one (s : State) (code source detail : Nat) (d : Drive) :
    ((s.raiseSafe code source detail [d]).drv d).tqo = true ∧
      ((s.raiseSafe code source detail [d]).ds d = .unavailable ∨ (s.raiseSafe code source detail [d]).ds d = .inhibit) :=
  ⟨(s.event code source detail).tqo_torqueOff d d (.inl rfl), (s.event code source detail).ds_torqueOff d⟩

theorem State.safe_modSafe_same (s : State) (d : Drive) (f : SafeDrive → SafeDrive) : (s.modSafe d f).safe d = f (s.safe d) :=
  get_upd_same _ _ _

theorem State.stoNow_shows (s : State) (d : Drive) (code src val : Nat) :
    ((s.stoNow d code src val).safe d = { s.safe d with
        ss1 := none, sls := none, slt := false, braking := false, sltTb := none, e2Tb := none, sto := true }) ∧
      ((s.stoNow d code src val).drv d).tqo = true ∧
      ((s.stoNow d code src val).ds d = .unavailable ∨ (s.stoNow d code src val).ds d = .inhibit) := by
  refine ⟨?_, State.raiseSafe_one _ _ _ _ _⟩
  have hraise (u : State) : (u.raiseSafe code d.num (sfDetail src val) [d]).safe d = u.safe d :=
    congrArg (·.drives.get d.idx) (State.Leaves.raiseSafe.part .safety)
  have hwhen (u : State) (b : Bool) : (u.when b fun s => s.modTr d.side fun x => { x with brake := none }).safe d = u.safe d := by
    cases b <;> rfl
  unfold State.stoNow
  rw [hraise, State.safe_modSafe_same]
  unfold State.endFunctions
  rw [hwhen, State.safe_modSafe_same]

theorem State.safe_refreshSf (s : State) (d : Drive) : s.refreshSf.safe d = s.safe d :=
  congrArg (·.drives.get d.idx) (State.Leaves.refreshSf.part .safety)

/-! ### The safety set (R396 to R403) -/

theorem svcRequests_notSafe : (safeRows.all fun r => r.1 != Od.SVC_REQUESTS) = true := by decide +kernel

section
variable (s : State) (dt : Nat) (who : Requester)

theorem State.begun_activeSet : (s.begun dt who).activeSet = s.activeSet := by
  refine List.map_congr_left fun r hr => ?_
  have hne : r.1 ≠ Od.SVC_REQUESTS := by simpa using List.all_eq_true.1 svcRequests_notSafe r hr
  rw [s.begun_get dt who hne]
theorem State.begun_setCheck (f : Nat → Val) : (s.begun dt who).setCheck f = s.setCheck f := by
  have hfd (c : Fin 4) : (s.begun dt who).fdOn c = s.fdOn c := by
    rw [State.fdOn, State.fdOn, State.bit_of_get (s.begun_get dt who (by grind))]
  have hrule (k : Nat) : (s.begun dt who).connRuleOk f k = s.connRuleOk f k := by simp only [State.connRuleOk, hfd]
  have hall : (List.range 16).all ((s.begun dt who).connRuleOk f) = (List.range 16).all (s.connRuleOk f) :=
    congrArg _ (funext hrule)
  rw [State.setCheck, State.setCheck, hall]

/-- A session's staging image and its check value outlast the begin of an access. -/
theorem State.begun_staging : ((s.begun dt who).sessOf who).staging = (s.sessOf who).staging ∧
    ((s.begun dt who).sessOf who).setCrc = (s.sessOf who).setCrc := by
  have hsess : ((s.elapse dt).countWide Od.SVC_REQUESTS).sessions = s.sessions := State.Leaves.countWide.part .sessions
  cases hi : who.sess with
  | none => rw [State.sessOf, State.sessOf, hi]; exact ⟨rfl, rfl⟩
  | some i =>
    unfold State.begun State.touch State.sessOf State.modSess
    rw [hi]
    dsimp only [Option.isSome_some, State.when]
    rw [get_upd_same, if_pos rfl, hsess]
    split <;> exact ⟨rfl, rfl⟩

theorem State.sessOf_replied (key : Nat) (o : Output) : ((s.noteWrite who key).emit o).sessOf who = s.sessOf who := rfl
theorem State.sess_of_accepts {s : State} {dt : Nat} {who : Requester} {key : Nat} {role : Role}
    (ha : s.accepts dt who key role = true) (hwho : who ≠ .pyreri) : who.sess.isSome = true := by
  obtain ⟨-, -, hcan, -⟩ := (s.accepts_iff dt who key role).1 ha
  cases who with
  | pyreri => exact absurd rfl hwho
  | canA => exact absurd rfl hcan
  | eth i => rfl
  | canD => rfl
theorem State.sessOf_isSome {l : List (Nat × Val)} (h : (s.sessOf who).staging = some l) : who.sess.isSome = true := by
  cases hs : who.sess with
  | some i => rfl
  | none =>
    rw [State.sessOf, hs] at h
    cases h
end

section
variable (s : State) (who : Requester) (l : List (Nat × Val))

/-- A set that passed its checks: kept for the next safety cycle, and counted. -/
def State.setKept : State :=
  let s := ((s.setN Od.SET_SET_REJECT 0).modSess who fun x => { x with staging := none, setCrc := none }).modSafety fun x => { x with
    newSet := some (l, 2), setCrc := some (setCrc (stagedVal l)) }
  (s.count ctrSetCommits).setN Od.SET_SET_COMMIT_TB s.tb

/-- What COMMIT does of a staged set with a check that answers the code. -/
theorem State.setCommitEffect_keeps (ok : Bool) (code : Nat) (hstaging : (s.sessOf who).staging = some l)
    (hstill : ∀ d ∈ Drive.all, s.ds d ≠ .armed ∧ s.ds d ≠ .active ∧ s.ds d ≠ .stopping) (hcode : s.commitCode who l ok = code) :
    State.setCommitEffect who ok s = .ok (if code ≠ 0 then (s.setN Od.SET_SET_REJECT code).event 0x0E11 0xFF (3 + 65536 * code)
      else s.setKept who l) := by
  have hmoving : (Drive.all.any fun d => decide (s.ds d = .armed ∨ s.ds d = .active ∨ s.ds d = .stopping)) = false :=
    List.any_eq_false.2 fun d hd => by simp [hstill d hd]
  unfold State.setCommitEffect
  rw [hstaging]
  dsimp only
  rw [hmoving, hcode]
  split
  · rfl
  · next h =>
    rw [Decidable.not_not.1 h]
    rfl

theorem State.setKept_shows (hsome : who.sess.isSome = true) (hroom : s.nat Od.SET_SET_COMMITS < 65535) :
    (s.setKept who l).safety.newSet = some (l, 2) ∧ (s.setKept who l).nat Od.SET_SET_REJECT = 0 ∧
      (s.setKept who l).nat Od.SET_SET_COMMITS = s.nat Od.SET_SET_COMMITS + 1 ∧
      ((s.setKept who l).sessOf who).staging = none ∧ (s.setKept who l).pending = s.pending := by
  have hlast (u : State) (n : Nat) {k : Nat} (hk : k ≠ Od.SET_SET_COMMIT_TB) : (u.setN Od.SET_SET_COMMIT_TB n).nat k = u.nat k :=
    State.nat_of_get (State.Leaves.setN.get hk)
  have hmod (u : State) (f : SessionSt → SessionSt) (g : SafetySt → SafetySt) (k : Nat) :
      ((u.modSess who f).modSafety g).nat k = u.nat k := State.nat_of_get (State.Leaves.modSess.get trivial)
  have hcount (u : State) : (u.count ctrSetCommits).safety = u.safety := State.Leaves.count.part .safety
  have hsess (u : State) (n : Nat) : ((u.count ctrSetCommits).setN Od.SET_SET_COMMIT_TB n).sessOf who = u.sessOf who := by
    have h : (u.count ctrSetCommits).sessions = u.sessions := State.Leaves.count.part .sessions
    unfold State.sessOf
    rw [State.setN_sessions, h]
  unfold State.setKept
  dsimp only
  refine ⟨?_, ?_, ?_, ?_, ?_⟩
  · rw [State.setN_safety, hcount]
    rfl
  · rw [hlast _ _ (by decide), State.nat_of_get (State.Leaves.count.get (by decide)), hmod, State.nat_setN, if_pos rfl]
  · rw [hlast _ _ (by decide)]
    refine (State.nat_count_min _ ctrSetCommits (by decide) (by decide)).trans ?_
    have hkept : (State.modSafety ((s.setN Od.SET_SET_REJECT 0).modSess who fun x => { x with staging := none, setCrc := none }) fun x =>
        { x with newSet := some (l, 2), setCrc := some (setCrc (stagedVal l)) }).nat Od.SET_SET_COMMITS =
        s.nat Od.SET_SET_COMMITS := (hmod _ _ _ _).trans ((State.nat_setN _ _ _ _).trans (if_neg (by decide)))
    show min (State.nat _ Od.SET_SET_COMMITS + 1) (2 ^ 16 - 1) = _
    rw [hkept]
    omega
  · rw [hsess]
    exact congrArg SessionSt.staging (State.sessOf_modSess (s.setN Od.SET_SET_REJECT 0) who _ hsome)
  · rw [State.setN_pending, State.Leaves.count.part .pending]
    exact State.Leaves.modSess.part .pending
end

/-- Settles O36: the time limits by `stoNow_shows`, the set's commands by what their accesses leave of the session. -/
theorem safetyFunctionCommandsComplete : Obligations.SafetyFunctionCommandsComplete := by
  unfold Obligations.SafetyFunctionCommandsComplete
  refine ⟨?_, ?_, ?_, ?_, ?_, ?_, ?_, ?_, ?_⟩
  · rintro s dt d y ⟨hss1, hpark⟩ ⟨hdue, hcycling⟩
    have heq : (s.elapse dt).ss1Timeout d = ((s.elapse dt).ss1End d y.src).refreshSf := by
      unfold State.ss1Timeout
      rw [show (s.elapse dt).safe d = s.safe d from rfl, hss1]
      dsimp only
      rw [if_pos ⟨hdue, hcycling⟩, hpark]
      rfl
    obtain ⟨hsafe, htqo, hds⟩ := (s.elapse dt).stoNow_shows d 0x0E04 y.src ((s.elapse dt).speedDetail d)
    refine ⟨_, State.Leaves.ss1Timeout.completes, ?_⟩
    rw [heq, State.safe_refreshSf, State.ss1End, State.safe_modSafe_same, hsafe, State.Leaves.refreshSf.drv d,
      State.Leaves.refreshSf.ds d]
    exact ⟨⟨rfl, rfl, rfl⟩, htqo, hds⟩
  · rintro s dt b m htb ⟨hdue, hcycling⟩
    have heq : (s.elapse dt).sltViolated m = ((s.elapse dt).stoNow (sideDrive m) 0x0E06 (s.safe (sideDrive m)).sltSrc
        (low16 (s.num (Od.SFS_SAFE_TQ m)))).refreshSf := by
      unfold State.sltViolated
      dsimp only
      rw [show (s.elapse dt).safe (sideDrive m) = s.safe (sideDrive m) from rfl, htb]
      exact if_pos ⟨hdue, hcycling⟩
    obtain ⟨hsafe, htqo, -⟩ := (s.elapse dt).stoNow_shows (sideDrive m) 0x0E06 (s.safe (sideDrive m)).sltSrc
      (low16 (s.num (Od.SFS_SAFE_TQ m)))
    refine ⟨_, State.Leaves.sltViolated.completes, ?_⟩
    rw [heq, State.safe_refreshSf, hsafe, State.Leaves.refreshSf.drv]
    exact ⟨rfl, htqo⟩
  · rintro s dt b m ⟨htb, hplaus⟩ ⟨hdue, hcycling⟩
    have heq : (s.elapse dt).implausible m = (((s.elapse dt).modSafe (sideDrive m) fun x => { x with plaus := true }).stoNow
        (sideDrive m) 0x0E09 0 ((s.elapse dt).speedDetail (sideDrive m))).refreshSf := by
      unfold State.implausible
      dsimp only
      rw [show (s.elapse dt).safe (sideDrive m) = s.safe (sideDrive m) from rfl, htb]
      exact if_pos ⟨hdue, by rw [hplaus]; exact nofun, hcycling⟩
    obtain ⟨hsafe, htqo, -⟩ := ((s.elapse dt).modSafe (sideDrive m) fun x => { x with plaus := true }).stoNow_shows (sideDrive m)
      0x0E09 0 ((s.elapse dt).speedDetail (sideDrive m))
    refine ⟨_, State.Leaves.implausible.completes, ?_⟩
    rw [heq, State.safe_refreshSf, hsafe, State.Leaves.refreshSf.drv, State.safe_modSafe_same]
    exact ⟨⟨rfl, rfl⟩, htqo⟩
  · rintro s dt b m htb ⟨hdue, hcycling⟩
    have heq : (s.elapse dt).e2Lost m = ((s.elapse dt).stoNow (sideDrive m) 0x0E0A 0
        ((s.elapse dt).speedDetail (sideDrive m))).refreshSf := by
      unfold State.e2Lost
      dsimp only
      rw [show (s.elapse dt).safe (sideDrive m) = s.safe (sideDrive m) from rfl, htb]
      exact if_pos ⟨hdue, hcycling⟩
    obtain ⟨hsafe, htqo, -⟩ := (s.elapse dt).stoNow_shows (sideDrive m) 0x0E0A 0 ((s.elapse dt).speedDetail (sideDrive m))
    refine ⟨_, State.Leaves.e2Lost.completes, ?_⟩
    rw [heq, State.safe_refreshSf, hsafe, State.Leaves.refreshSf.drv]
    exact ⟨rfl, htqo⟩
  · intro s dt b htb hdue hroom
    have heq : (s.elapse dt).parkUnconfirmed = ((((s.elapse dt).modSafety fun x => { x with parkTb := none }).event 0x0E08 0
        (sfDetail s.safety.parkSrc ((s.elapse dt).speedDetail .tra))).lastEvent .tra 0x0E08) := by
      unfold State.parkUnconfirmed
      rw [show (s.elapse dt).safety = s.safety from rfl, htb]
      exact if_pos hdue
    refine ⟨_, State.Leaves.parkUnconfirmed.completes, ?_⟩
    rw [heq]
    refine ⟨rfl, rfl, ?_⟩
    exact congrArg (Option.map LogEntry.code) (State.newestEvent_event ((s.elapse dt).modSafety fun x => { x with parkTb := none })
      0x0E08 0 _ hroom)
  · intro s dt who ha hwho
    have hsome := State.sess_of_accepts ha hwho
    refine ⟨_, State.accepted_completes ha rfl ((State.Leaves.modSess.part .pending).trans (s.begun_pending dt who)), ?_,
      State.answered_emit _ who []⟩
    refine (congrArg SessionSt.staging (State.sessOf_replied _ _ _ _)).trans ?_
    rw [State.sessOf_modSess _ who _ hsome, s.begun_activeSet]
  · intro s dt who ha hwho
    have hsome := State.sess_of_accepts ha hwho
    refine ⟨_, State.accepted_completes ha rfl ((State.Leaves.modSess.part .pending).trans (s.begun_pending dt who)), ?_,
      State.answered_emit _ who []⟩
    refine (congrArg SessionSt.staging (State.sessOf_replied _ _ _ _)).trans ?_
    rw [State.sessOf_modSess _ who _ hsome]
  · rintro s dt who l ha ⟨hstaging, hcrc⟩ hcheck hstill hroom
    have hsome := s.sessOf_isSome who hstaging
    have he := (s.begun dt who).setCommitEffect_keeps who l true 0 (by rw [(s.begun_staging dt who).1]; exact hstaging)
      (fun d hd => by rw [State.Leaves.begun.ds]; exact hstill d hd)
      (by rw [State.commitCode, (s.begun_staging dt who).2, s.begun_setCheck, hcrc, hcheck]; simp)
    rw [if_neg (by decide)] at he
    have hcommits : (s.begun dt who).nat Od.SET_SET_COMMITS = s.nat Od.SET_SET_COMMITS := s.begun_nat dt who (by decide)
    obtain ⟨hnew, hreject, hcount, hsess, hpending⟩ := (s.begun dt who).setKept_shows who l hsome (by rw [hcommits]; exact hroom)
    refine ⟨_, State.accepted_completes ha he (hpending.trans (s.begun_pending dt who)), hnew, ?_, ?_, ?_, State.answered_emit _ who []⟩
    · exact (State.nat_replied _ _ _ _ _).trans hreject
    · exact (State.nat_replied _ _ _ _ _).trans (hcount.trans (by rw [hcommits]))
    · exact (congrArg SessionSt.staging (State.sessOf_replied _ _ _ _)).trans hsess
  · rintro s dt who l ok ha ⟨hstaging, hcrc⟩ hstill
    have he := (s.begun dt who).setCommitEffect_keeps who l ok 1 (by rw [(s.begun_staging dt who).1]; exact hstaging)
      (fun d hd => by rw [State.Leaves.begun.ds]; exact hstill d hd)
      (by rw [State.commitCode, (s.begun_staging dt who).2]; exact if_pos hcrc)
    rw [if_pos (by decide)] at he
    have hsafety : (s.begun dt who).safety = s.safety := State.Leaves.begun.part .safety
    refine ⟨_, State.accepted_completes ha he (s.begun_pending dt who), ?_, ?_⟩
    · exact congrArg SafetySt.newSet hsafety
    · refine (State.nat_replied _ _ _ _ _).trans ((State.nat_of_get (State.Leaves.event.get trivial)).trans ?_)
      exact (State.nat_setN _ _ _ _).trans (if_pos rfl)

end Sys2Proof.Machine
end

section
/-! PROOFS. What the resets do (O4). -/
namespace Sys2Proof.Machine
open Sys2Proof
set_option Elab.async false

/-! ### What a device reset leaves beside the objects (R44, R50) -/

/-- Bring-up, the log and the customer area are the same. -/
def State.SameHeld (s t : State) : Prop := t.bringup = s.bringup ∧ t.log = s.log ∧ t.cust = s.cust

theorem State.SameHeld.trans {s t u : State} (g : t.SameHeld u) (h : s.SameHeld t) : s.SameHeld u :=
  ⟨g.1.trans h.1, g.2.1.trans h.2.1, g.2.2.trans h.2.2⟩
theorem State.SameHeld.takeNewSet (s : State) (o : Option (List (Nat × Val) × Nat)) : s.SameHeld (s.takeNewSet o) := by
  cases o with
  | none => exact ⟨rfl, rfl, rfl⟩
  | some x =>
    refine State.each_keeps (P := s.SameHeld) x.1 (fun e _ t ht => ?_) s ⟨rfl, rfl, rfl⟩
    split
    · exact ht
    · exact ht
theorem State.SameHeld.switch {s : State} (h : s.heldInReset) (m v : Nat) : s.SameHeld ((s.setBatSw m).setVrSource v) := by
  rw [h.setBatSw]
  exact ⟨rfl, rfl, rfl⟩
theorem State.SameHeld.retainedPeat (s : State) : s.SameHeld s.retainedPeat := by
  unfold State.retainedPeat
  split <;> exact ⟨rfl, rfl, rfl⟩

theorem State.SameHeld.restoreSwitch {s : State} (h : s.heldInReset) : s.SameHeld s.restoreSwitch :=
  (State.SameHeld.switch (h.setBit Od.LV_LV_STATUS 11 (s.bit Od.BKP_BKP15 2)) _ _).trans ⟨rfl, rfl, rfl⟩

theorem State.mainReset_sameHeld (s : State) (cause : Nat) : (s.cleared cause).SameHeld (s.mainReset cause) := by
  have h0 := ((s.cleared_heldInReset cause).takeNewSet s.safety.newSet).setN Od.BKP_BKP14 (s.timebase / 2 ^ 32 % 2 ^ 32)
  have hswitch := State.SameHeld.restoreSwitch (((h0.keepOverflows s).setBit Od.SUP_SUPPLY_STATUS 3
    (s.bit Od.SUP_SUPPLY_STATUS 3)).setBit Od.LV_LV_STATUS 2 s.path.svcTb.isSome)
  have hset := State.SameHeld.takeNewSet (s.cleared cause) s.safety.newSet
  exact ((State.SameHeld.retainedPeat _).trans hswitch).trans (State.SameHeld.trans ⟨rfl, rfl, rfl⟩ hset)
theorem State.resetNow_sameHeld (s : State) (cause : Nat) : (s.cleared cause).SameHeld (s.resetNow cause) := by
  unfold State.resetNow
  split
  · next h =>
    have hmain := (s.modPath fun p => { p with sysTb := some 0 }).mainReset_spec 4
    rw [h]
    exact ((State.SameHeld.switch hmain.1 0 0).trans (State.mainReset_sameHeld _ 4)).trans ⟨rfl, rfl, rfl⟩
  · exact s.mainReset_sameHeld cause

/-- A device reset leaves the device held in reset with its cause, and every drive UNAVAILABLE. -/
theorem State.mainReset_held (s : State) (cause : Nat) : ((s.mainReset cause).bringup.step = 0 ∧
    (s.mainReset cause).bringup.resetLatch = true) ∧ (s.mainReset cause).bringup.cause = cause ∧
      ∀ d : Drive, (s.mainReset cause).ds d = .unavailable := by
  have hheld := (s.mainReset_spec cause).1
  exact ⟨⟨hheld.step, hheld.latch⟩, congrArg BringupSt.cause (s.mainReset_sameHeld cause).1, hheld.ds⟩
theorem State.resetNow_held (s : State) (cause : Nat) : ((s.resetNow cause).bringup.step = 0 ∧
    (s.resetNow cause).bringup.resetLatch = true) ∧ (s.resetNow cause).bringup.cause = cause :=
  ⟨⟨(s.resetNow_spec cause).1.step, (s.resetNow_spec cause).1.latch⟩, congrArg BringupSt.cause (s.resetNow_sameHeld cause).1⟩

/-! ### The reset of the always-on domain (R44, R57) -/

/-- The always-on domain's own state, lost with its supply. -/
def State.aonLost (s : State) : State :=
  { s with
    cust := [], path := {}, gbx := {}
    bringup := { s.bringup with
      retainedLost := true, deferredUs := none, batFeed := false, lvOk := false, flyOk := false, podlOk := false }
    log := { s.log with ring := [], written := 0, lost := 0, lostOvf := false, held := [], buffer := [] }
    sessions := { s.sessions with ethPath := {}, canPath := {} } }

/-- The objects of the always-on domain read as after a first power-on. -/
def State.aonObjects (s : State) : State :=
  let s := s.each (List.range 16) fun i s => s.setN (Od.BKP_REG i) 0
  let s := ((s.setN Od.RST_RESET_COUNT 0).setN Od.RST_RESET_HOLDOFFS 0).setN Od.RST_BRINGUP_STATUS 0
  (s.setN Od.BKP_BKP15 1).setN Od.SUP_ACTIVE_SOURCE 0

theorem State.aonReset_eq (s : State) : s.aonReset = (s.aonLost.aonObjects.mainReset 1).setN Od.BKP_BKP14 0 := rfl

theorem State.SameHeld.setN {s t : State} (h : s.SameHeld t) (k v : Nat) : s.SameHeld (t.setN k v) := h
theorem State.aonObjects_sameHeld (s : State) : s.SameHeld s.aonObjects := by
  have hregs : s.SameHeld (s.each (List.range 16) fun i s => s.setN (Od.BKP_REG i) 0) :=
    State.each_keeps (P := s.SameHeld) (List.range 16) (fun i _ _ h => h.setN (Od.BKP_REG i) 0) s ⟨rfl, rfl, rfl⟩
  exact ((((hregs.setN _ _).setN _ _).setN _ _).setN _ _).setN _ _
theorem State.nat_aonObjects_count (s : State) : s.aonObjects.nat Od.RST_RESET_COUNT = 0 := by
  unfold State.aonObjects
  simp only [State.nat_setN]
  rfl

theorem State.aonReset_shows (s : State) : s.aonReset.cust = [] ∧ s.aonReset.log.ring = [] ∧
    (s.aonReset.bringup.cause = 1 ∧ s.aonReset.bringup.step = 0 ∧ s.aonReset.bringup.resetLatch = true) ∧
      s.aonReset.bringup.batFeed = false ∧ s.aonReset.nat Od.RST_RESET_COUNT = 0 ∧ ∀ d : Drive, s.aonReset.ds d = .unavailable := by
  rw [s.aonReset_eq]
  have hlost := s.aonLost.aonObjects_sameHeld
  have hsame := (s.aonLost.aonObjects.mainReset_sameHeld 1)
  obtain ⟨⟨hstep, hlatch⟩, hcause, hds⟩ := s.aonLost.aonObjects.mainReset_held 1
  have hget := (s.aonLost.aonObjects.mainReset_spec 1).2 Od.RST_RESET_COUNT (by simp [noReset]) (by decide)
  rw [if_pos (by decide)] at hget
  have hcount := (State.nat_of_get hget).trans (State.nat_aonObjects_count s.aonLost)
  generalize s.aonLost.aonObjects.mainReset 1 = r at hsame hstep hlatch hcause hds hcount ⊢
  generalize hu : s.aonLost.aonObjects = u at hsame hlost
  obtain ⟨hb, hl, hc⟩ := hsame
  obtain ⟨hb', hl', hc'⟩ := hlost
  have hcust : r.cust = [] := hc.trans hc'
  have hring : r.log.ring = [] := (congrArg LogSt.ring hl).trans (congrArg LogSt.ring hl')
  have hfeed : r.bringup.batFeed = false := (congrArg BringupSt.batFeed hb).trans (congrArg BringupSt.batFeed hb')
  refine ⟨hcust, hring, ⟨hcause, hstep, hlatch⟩, hfeed, ?_, hds⟩
  rw [State.nat_setN, if_neg (by decide), hcount]

/-! ### The release of reset (R55) -/

theorem State.startBringup_shows (s : State) : s.startBringup.nat Od.RST_RESET_CAUSE = s.bringup.cause ∧
    (s.nat Od.RST_RESET_COUNT < 2 ^ 32 - 1 → s.startBringup.nat Od.RST_RESET_COUNT = s.nat Od.RST_RESET_COUNT + 1) := by
  have hpower (u : State) {k : Nat} (hk : k ≠ Od.CNT_POWER_ON_COUNT) (b : Bool) :
      (u.when b fun s => s.countPowerOn).get k = u.get k := by
    cases b
    · rfl
    · unfold State.when State.countPowerOn
      dsimp only
      rw [if_pos rfl]
      split
      · exact State.get_setN_ne _ _ _ _ hk
      · rfl
  have hevent (u : State) (k : Nat) (b : Bool) : (u.when b fun s => s.event 0x010A 0xFF 0).get k = u.get k := by cases b <;> rfl
  have hdefer (u : State) (o : Option Nat) (k : Nat) :
      (match o with | some d => u.event 0x0108 0xFF d | none => u).get k = u.get k := by cases o <;> rfl
  have hend (u : State) (o : Option Nat) (a b : Bool) {k : Nat} (hk : k ≠ Od.CNT_POWER_ON_COUNT) :
      (match o with
        | some d => ((u.when a fun s => s.countPowerOn).when b fun s => s.event 0x010A 0xFF 0).event 0x0108 0xFF d
        | none => (u.when a fun s => s.countPowerOn).when b fun s => s.event 0x010A 0xFF 0).get k = u.get k :=
    (hdefer _ o k).trans ((hevent _ k b).trans (hpower u hk a))
  have hset (u : State) (c x : Nat) : ((u.setN Od.RST_RESET_CAUSE c).setN Od.BKP_BKP12 x).nat Od.RST_RESET_CAUSE = c ∧
      ((u.setN Od.RST_RESET_CAUSE c).setN Od.BKP_BKP12 x).nat Od.RST_RESET_COUNT = u.nat Od.RST_RESET_COUNT := by
    simp only [State.nat_setN]
    exact ⟨rfl, rfl⟩
  constructor
  · refine (State.nat_of_get (hend _ _ _ _ (by decide))).trans ((State.nat_of_get (State.Leaves.count.get (by decide))).trans ?_)
    exact (hset _ _ _).1
  · intro hroom
    refine (State.nat_of_get (hend _ _ _ _ (by decide))).trans ((State.nat_count_min _ ctrResets (by decide) (by decide)).trans ?_)
    refine (congrArg (fun n => min (n + 1) (2 ^ 32 - 1)) (hset _ _ _).2).trans ?_
    exact Nat.min_eq_left (by show s.nat Od.RST_RESET_COUNT + 1 ≤ _; omega)

/-- Settles O4: each reset comes to a device reset (`mainReset_held`, `resetNow_held`), the release to the begin of bring-up. -/
theorem resetCommandsComplete : Obligations.ResetCommandsComplete := by
  unfold Obligations.ResetCommandsComplete
  refine ⟨?_, ?_, ?_, ?_, ?_, ?_, ?_⟩
  · intro s dt hfalls
    exact ⟨_, congrArg (reply s) (if_pos hfalls), (s.elapse dt).mainReset_held 2⟩
  · intro s dt vBat hsource hhold hfeed
    have heq : (s.elapse dt).feedCheck vBat = ((s.elapse dt).readFeed vBat).aonReset := by
      have hor : (((s.elapse dt).readFeed vBat).orFeed) = false := by
        show (s.bestSource != 0 || s.bringup.holdupTb.isSome) = false
        rw [hsource, hhold]
        rfl
      have hbat : ((s.elapse dt).readFeed vBat).bringup.batFeed = false := hfeed
      unfold State.feedCheck
      dsimp only
      rw [hor, hbat]
      rfl
    exact ⟨_, congrArg (reply s) heq, ((s.elapse dt).readFeed vBat).aonReset_shows⟩
  · intro s dt vBat hsource
    have heq : (s.elapse dt).feedCheck vBat = (s.elapse dt).readFeed vBat := by
      have hor : (((s.elapse dt).readFeed vBat).orFeed) = true := by
        show (s.bestSource != 0 || s.bringup.holdupTb.isSome) = true
        rw [bne_iff_ne.2 hsource, Bool.true_or]
      unfold State.feedCheck
      dsimp only
      rw [hor, Bool.not_true, Bool.and_false]
      rfl
    exact ⟨_, congrArg (reply s) heq, rfl, rfl, rfl⟩
  · intro s dt ns hlatch hns hdef hpulse
    have hreset : (s.elapse dt).nrst ns = (s.elapse dt).resetNow 3 := State.nrst_resetNow hns hlatch hdef hpulse
    exact ⟨_, congrArg (reply s) hreset, (s.elapse dt).resetNow_held 3⟩
  · intro s dt ns hns
    have hsame : (s.elapse dt).nrst ns = s.elapse dt := if_pos (.inr hns)
    exact ⟨_, congrArg (reply s) hsame, rfl⟩
  · intro s dt t0 e hdef hend he
    have hreset := State.deferredReset_resetNow (s := s.elapse dt) hdef hend he
    exact ⟨_, congrArg (reply s) hreset, State.resetNow_held _ _⟩
  · intro s dt hlatch hsource
    have hstart : (s.elapse dt).nrstRelease = (s.elapse dt).startBringup := if_pos ⟨hlatch, hsource⟩
    have hb := (s.elapse dt).startBringup_released.bringup
    refine ⟨_, congrArg (reply s) hstart, ⟨congrArg BringupSt.step hb, congrArg BringupSt.resetLatch hb⟩,
      congrArg BringupSt.trimAttempts hb, congrArg BringupSt.releaseTb hb, ?_⟩
    exact (s.elapse dt).startBringup_shows

end Sys2Proof.Machine
end

section
/-! PROOFS. The sources of the control supply and the power stage's supplies (O3). -/
namespace Sys2Proof.Machine
open Sys2Proof
set_option Elab.async false

/-! ### The parts of a supply reading (R41 to R47) -/

/-- What decides which source is valid: the sources' own bits and what inhibits them. -/
structure State.SameSources (s t : State) : Prop where
  lv : t.bringup.lvOk = s.bringup.lvOk
  fly : t.bringup.flyOk = s.bringup.flyOk
  podl : t.bringup.podlOk = s.bringup.podlOk
  sys : t.path.sysTb = s.path.sysTb
  peat : t.path.peat = s.path.peat

namespace State.SameSources
variable {s t u : State}

theorem trans (g : t.SameSources u) (h : s.SameSources t) : s.SameSources u :=
  ⟨g.lv.trans h.lv, g.fly.trans h.fly, g.podl.trans h.podl, g.sys.trans h.sys, g.peat.trans h.peat⟩
theorem of_parts (hb : t.bringup = s.bringup) (hp : t.path = s.path) : s.SameSources t :=
  ⟨congrArg _ hb, congrArg _ hb, congrArg _ hb, congrArg _ hp, congrArg _ hp⟩
theorem bestSource (h : s.SameSources t) : t.bestSource = s.bestSource := by
  rw [State.bestSource, State.bestSource, State.inhibited, State.inhibited, h.lv, h.fly, h.podl, h.sys, h.peat]
theorem powerOk (h : s.SameSources t) : t.powerOk = s.powerOk := by
  rw [State.powerOk, State.powerOk, State.inhibited, State.inhibited, h.lv, h.fly, h.sys, h.peat]
end State.SameSources

section
variable (s : State)

theorem State.bringup_followSource : s.followSource.bringup = s.bringup := State.Leaves.followSource.part .bringup
theorem State.SameSources.followSource : s.SameSources s.followSource :=
  .of_parts s.bringup_followSource (State.Leaves.followSource.part .path)
theorem State.active_followSource : s.followSource.nat Od.SUP_ACTIVE_SOURCE = s.bestSource := by
  unfold State.followSource
  dsimp only
  split
  · assumption
  · have hset (u : State) (n : Nat) : (u.setN Od.SUP_ACTIVE_SOURCE n).nat Od.SUP_ACTIVE_SOURCE = n :=
      (State.nat_setN _ _ _ _).trans (if_pos rfl)
    split
    · exact hset _ _
    · exact (State.nat_of_get (State.Leaves.count.get (by decide))).trans (hset _ _)

/-- An interruption begins when no source is left, and a loss of the power stage's sources with them. -/
theorem State.bringup_noteInterruption : s.noteInterruption.bringup = { s.bringup with
    holdupTb := if s.bestSource = 0 then some (s.bringup.holdupTb.getD s.tb) else s.bringup.holdupTb
    powerLostTb := if s.powerOk then s.bringup.powerLostTb else some (s.bringup.powerLostTb.getD s.tb) } := by
  by_cases h : s.bestSource = 0
  · unfold State.noteInterruption
    dsimp only
    rw [if_pos h]
    rfl
  · unfold State.noteInterruption
    dsimp only
    rw [if_neg h]
    rfl
theorem State.SameSources.noteInterruption : s.SameSources s.noteInterruption :=
  ⟨by rw [s.bringup_noteInterruption], by rw [s.bringup_noteInterruption], by rw [s.bringup_noteInterruption],
    congrArg PathSwSt.sysTb (State.Leaves.noteInterruption.part .path), congrArg PathSwSt.peat (State.Leaves.noteInterruption.part .path)⟩

/-- An interruption that is over has been counted. -/
def State.interruptionCounted : State :=
  match s.endedInterruption with
  | some t => s.bridged t
  | none => s

theorem State.Leaves.interruptionCounted : State.Leaves [.od, .log] (fun j => j ≠ Od.CNT_CNT_OVF_MAP ∧ j ≠ Od.SUP_HOLDUP_EVENTS ∧
    j ≠ Od.SUP_SUPPLY_STATUS) false s s.interruptionCounted := by
  unfold State.interruptionCounted
  split
  · exact .step .bridged .refl
  · exact .refl
theorem State.bringup_interruptionCounted : s.interruptionCounted.bringup = s.bringup :=
  (State.Leaves.interruptionCounted s).part .bringup
theorem State.SameSources.interruptionCounted : s.SameSources s.interruptionCounted :=
  .of_parts s.bringup_interruptionCounted ((State.Leaves.interruptionCounted s).part .path)

/-- The interruption's times, once it is over. -/
def State.interruptionEnds : State :=
  s.interruptionCounted.modBringup fun b => { b with
    holdupTb := if s.interruptionCounted.bestSource = 0 then b.holdupTb else none
    powerLostTb := if s.interruptionCounted.powerOk then none else b.powerLostTb }

theorem State.endInterruption_eq : s.endInterruption =
    if s.interruptionEnds.bringup.holdupTb.isNone then s.interruptionEnds.resumePulses else s.interruptionEnds := rfl
theorem State.bringup_endInterruption : s.endInterruption.bringup = { s.bringup with
    holdupTb := if s.bestSource = 0 then s.bringup.holdupTb else none
    powerLostTb := if s.powerOk then none else s.bringup.powerLostTb } := by
  have hends : s.endInterruption.bringup = s.interruptionEnds.bringup := by
    rw [s.endInterruption_eq]
    split
    · exact State.Leaves.resumePulses.part .bringup
    · rfl
  have hsources := State.SameSources.interruptionCounted s
  rw [hends, State.interruptionEnds, State.modBringup, hsources.bestSource, hsources.powerOk]
  dsimp only
  rw [s.bringup_interruptionCounted]
theorem State.SameSources.endInterruption : s.SameSources s.endInterruption :=
  ⟨by rw [s.bringup_endInterruption], by rw [s.bringup_endInterruption], by rw [s.bringup_endInterruption],
    congrArg PathSwSt.sysTb (State.Leaves.endInterruption.part .path), congrArg PathSwSt.peat (State.Leaves.endInterruption.part .path)⟩

/-! ### What a reading comes to -/

/-- The times of an interruption and of the power stage's stop. -/
def BringupSt.times (b : BringupSt) : Option Nat × Option Nat × Bool × Bool × Bool := (b.holdupTb, b.stageStopTb, b.lvOk, b.flyOk, b.podlOk)

/-- The power stage's supplies are on and its links train. -/
def State.islandsPowered : State :=
  (s.modBringup fun b => { b with podlOnly := false, islandOn := true, step := max b.step 8 }).each [Link.t, .g, .l]
    fun l s => s.modLink l fun x => { x with training := true }

theorem State.bringup_islandsPowered :
    s.islandsPowered.bringup = { s.bringup with podlOnly := false, islandOn := true, step := max s.bringup.step 8 } :=
  State.each_keeps (P := fun u => u.bringup = { s.bringup with podlOnly := false, islandOn := true, step := max s.bringup.step 8 })
    [Link.t, .g, .l] (fun l _ u h => (State.modLink_bringup u l fun x => { x with training := true }).trans h) _ rfl
theorem State.powerReturn_due (h : 7 ≤ s.bringup.step ∧ ¬ s.bringup.islandOn ∧ s.powerOk) :
    s.powerReturn = (s.islandsPowered.startEngines 8 16).recomputeBounds := if_pos h
theorem State.bringup_powerReturn_due (h : 7 ≤ s.bringup.step ∧ ¬ s.bringup.islandOn ∧ s.powerOk) :
    s.powerReturn.bringup = { s.bringup with podlOnly := false, islandOn := true, step := max s.bringup.step 8 } := by
  rw [s.powerReturn_due h, State.Leaves.recomputeBounds.part .bringup, State.Leaves.startEngines.part .bringup,
    s.bringup_islandsPowered]

theorem State.times_powerReturn : s.powerReturn.bringup.times = s.bringup.times := by
  by_cases h : 7 ≤ s.bringup.step ∧ ¬ s.bringup.islandOn ∧ s.powerOk
  · rw [s.bringup_powerReturn_due h]
    rfl
  · rw [State.powerReturn, if_neg h]
theorem State.times_enterPodlOnly : s.enterPodlOnly.bringup.times = s.bringup.times := by
  unfold State.enterPodlOnly
  split
  · dsimp only
    rw [State.event_bringup, State.Leaves.stageSequencesOff.part .bringup, State.Leaves.recomputeBounds.part .bringup,
      State.Leaves.haltEngines.part .bringup]
    rfl
  · rfl
theorem State.islandOn_enterPodlOnly : s.enterPodlOnly.bringup.islandOn = s.bringup.islandOn := by
  unfold State.enterPodlOnly
  split
  · dsimp only
    rw [State.event_bringup, State.Leaves.stageSequencesOff.part .bringup, State.Leaves.recomputeBounds.part .bringup,
      State.Leaves.haltEngines.part .bringup]
    rfl
  · rfl
/-- The reading up to the power stage's return. -/
def State.interruptionSettled : State := s.followSource.noteInterruption.endInterruption

theorem State.settleSupply_eq : s.settleSupply = s.interruptionSettled.powerReturn.enterPodlOnly.showSupply := rfl
theorem State.SameSources.interruptionSettled : s.SameSources s.interruptionSettled :=
  (State.SameSources.endInterruption _).trans ((State.SameSources.noteInterruption _).trans (State.SameSources.followSource s))
theorem State.bringup_interruptionSettled : s.interruptionSettled.bringup = { s.bringup with
    holdupTb := if s.bestSource = 0 then some (s.bringup.holdupTb.getD s.tb) else none
    powerLostTb := if s.powerOk then none else some (s.bringup.powerLostTb.getD s.tb) } := by
  have hfollow := State.SameSources.followSource s
  have hnote := (State.SameSources.noteInterruption s.followSource).trans hfollow
  have htb : s.followSource.tb = s.tb := State.Leaves.followSource.part .tb
  rw [State.interruptionSettled, State.bringup_endInterruption, State.bringup_noteInterruption, hnote.bestSource, hnote.powerOk,
    hfollow.bestSource, hfollow.powerOk, s.bringup_followSource, htb]
  split <;> split <;> rfl
theorem State.bringup_showSupply : s.showSupply.bringup = s.bringup := State.Leaves.showSupply.part .bringup
theorem State.times_settled : s.settleSupply.bringup.times = s.interruptionSettled.bringup.times := by
  rw [s.settleSupply_eq, State.bringup_showSupply, State.times_enterPodlOnly, State.times_powerReturn]
theorem State.path_settled : s.settleSupply.path = s.interruptionSettled.path := by
  rw [s.settleSupply_eq, State.Leaves.showSupply.part .path, State.Leaves.enterPodlOnly.part .path, State.Leaves.powerReturn.part .path]
theorem State.SameSources.settleSupply : s.SameSources s.settleSupply :=
  State.SameSources.trans ⟨congrArg (·.2.2.1) s.times_settled, congrArg (·.2.2.2.1) s.times_settled,
    congrArg (·.2.2.2.2) s.times_settled, congrArg PathSwSt.sysTb s.path_settled, congrArg PathSwSt.peat s.path_settled⟩ (State.SameSources.interruptionSettled s)
theorem State.holdup_settleSupply : s.settleSupply.bringup.holdupTb =
    if s.bestSource = 0 then some (s.bringup.holdupTb.getD s.tb) else none :=
  (congrArg (·.1) s.times_settled).trans (congrArg BringupSt.holdupTb s.bringup_interruptionSettled)
theorem State.stop_settleSupply : s.settleSupply.bringup.stageStopTb = s.bringup.stageStopTb :=
  (congrArg (·.2.1) s.times_settled).trans (congrArg BringupSt.stageStopTb s.bringup_interruptionSettled)

/-- The objects that a reading's later parts leave. -/
theorem State.get_settled {k : Nat} (hk : k = Od.SUP_ACTIVE_SOURCE ∨ k = Od.SUP_HOLDUP_EVENTS) :
    s.settleSupply.get k = s.interruptionSettled.get k := by
  have hshow (u : State) : u.showSupply.get k = u.get k := State.Leaves.showSupply.get (by rcases hk with rfl | rfl <;> decide)
  have hpodl (u : State) : u.enterPodlOnly.get k = u.get k :=
    State.Leaves.enterPodlOnly.get (by rcases hk with rfl | rfl <;> exact ⟨by decide, by grind, by grind⟩)
  have hreturn (u : State) : u.powerReturn.get k = u.get k := State.Leaves.powerReturn.get (by rcases hk with rfl | rfl <;> decide)
  rw [s.settleSupply_eq, hshow, hpodl, hreturn]
theorem State.active_settleSupply : s.settleSupply.nat Od.SUP_ACTIVE_SOURCE = s.settleSupply.bestSource := by
  rw [(State.SameSources.settleSupply s).bestSource, ← s.active_followSource]
  have hend (u : State) : u.endInterruption.get Od.SUP_ACTIVE_SOURCE = u.get Od.SUP_ACTIVE_SOURCE :=
    State.Leaves.endInterruption.get (by decide)
  have hnote (u : State) : u.noteInterruption.get Od.SUP_ACTIVE_SOURCE = u.get Od.SUP_ACTIVE_SOURCE :=
    State.Leaves.noteInterruption.get trivial
  exact State.nat_of_get ((s.get_settled (.inl rfl)).trans ((hend _).trans (hnote _)))

/-- An interruption that hold-up has bridged is counted once. -/
theorem State.holdupEvents_settleSupply {t0 : Nat} (hhold : s.bringup.holdupTb = some t0) (hsource : s.bestSource ≠ 0)
    (hstep : s.bringup.step ≠ 0) :
    s.settleSupply.nat Od.SUP_HOLDUP_EVENTS = min (s.nat Od.SUP_HOLDUP_EVENTS + 1) (2 ^ 32 - 1) := by
  have hfollow : s.followSource.nat Od.SUP_HOLDUP_EVENTS = s.nat Od.SUP_HOLDUP_EVENTS :=
    State.nat_of_get (State.Leaves.followSource.get (by decide))
  have hnote (u : State) : u.noteInterruption.nat Od.SUP_HOLDUP_EVENTS = u.nat Od.SUP_HOLDUP_EVENTS :=
    State.nat_of_get (State.Leaves.noteInterruption.get trivial)
  generalize hu : s.followSource.noteInterruption = u at hnote
  have hsame := (State.SameSources.noteInterruption s.followSource).trans (State.SameSources.followSource s)
  have hb := s.followSource.bringup_noteInterruption
  rw [(State.SameSources.followSource s).bestSource, if_neg hsource, s.bringup_followSource, hu] at hb
  rw [hu] at hsame
  have hended : u.interruptionCounted = u.bridged t0 := by
    have h : u.endedInterruption = some t0 := by
      unfold State.endedInterruption
      rw [show u.bringup.holdupTb = some t0 by rw [hb]; exact hhold]
      exact if_neg (by rw [hsame.bestSource]; exact hsource)
    rw [State.interruptionCounted, h]
  have hbridged : u.bridged t0 = (u.count ctrHoldup).event 0x0105 0xFF ((u.tb - t0) / 100) :=
    if_neg (by rw [hb]; exact hstep)
  have hcount : u.interruptionCounted.nat Od.SUP_HOLDUP_EVENTS = min (u.nat Od.SUP_HOLDUP_EVENTS + 1) (2 ^ 32 - 1) := by
    rw [hended, hbridged]
    exact u.nat_count_min ctrHoldup (by decide) (by decide)
  have hends : u.endInterruption.nat Od.SUP_HOLDUP_EVENTS = u.interruptionCounted.nat Od.SUP_HOLDUP_EVENTS := by
    rw [u.endInterruption_eq]
    split
    · exact State.nat_of_get (State.Leaves.resumePulses.get trivial)
    · rfl
  rw [State.nat_of_get (s.get_settled (.inr rfl)), State.interruptionSettled, hu, hends, hcount, ← hu, State.nat_of_get
    (State.Leaves.noteInterruption.get trivial), hfollow]

/-- The power stage's return ends PoDL-only operation and trains the links. -/
theorem State.settleSupply_returns (hstep : 7 ≤ s.bringup.step) (hoff : s.bringup.islandOn = false) (hpower : s.powerOk = true) :
    s.settleSupply.bringup.islandOn = true ∧ s.settleSupply.bringup.podlOnly = false ∧ 8 ≤ s.settleSupply.bringup.step ∧
      ∀ l : Link, (s.settleSupply.link l).training = true := by
  have hb := s.bringup_interruptionSettled
  have hdue : 7 ≤ s.interruptionSettled.bringup.step ∧ ¬ s.interruptionSettled.bringup.islandOn ∧ s.interruptionSettled.powerOk := by
    rw [(State.SameSources.interruptionSettled s).powerOk, hb]
    exact ⟨hstep, by rw [hoff]; exact nofun, hpower⟩
  rw [s.settleSupply_eq]
  generalize s.interruptionSettled = u at hb hdue
  have hreturn := u.bringup_powerReturn_due hdue
  have hpodl : u.powerReturn.enterPodlOnly = u.powerReturn :=
    if_neg fun h => h.2.1 (by rw [hreturn])
  have hlink (l : Link) : (u.powerReturn.link l).training = true := by
    rw [u.powerReturn_due hdue, State.Leaves.recomputeBounds.link, State.Leaves.startEngines.link]
    refine State.each_reaches (P := fun l u => (u.link l).training = true) (fun l u => ?_) (fun l m u h => ?_) _ _
      (by cases l <;> decide)
    · rw [State.link_modLink_same]
    · rw [State.link_modLink]
      split
      · rfl
      · exact h
  rw [hpodl, State.bringup_showSupply, hreturn]
  refine ⟨rfl, rfl, le_max_right _ _, fun l => ?_⟩
  rw [State.Leaves.showSupply.link]
  exact hlink l

/-! ### The stop of the power stage (R46) -/

/-- A die that has lost its supply: its cells in protection, its link down. -/
def State.dieStops (l : Link) : State :=
  (s.dieProtect l).modLink l fun x => { x with trained := false, skewCal := false, pending := [], fromC := {}, toC := {} }

theorem State.trained_dieStops (l m : Link) (h : m = l ∨ (s.link m).trained = false) : ((s.dieStops l).link m).trained = false := by
  have hlink : (s.dieProtect l).link m = s.link m := State.Leaves.dieProtect.link m
  rw [State.dieStops, State.link_modLink]
  split
  · rfl
  · next hne => rw [hlink]; exact h.resolve_left hne
theorem State.held_dieStops (l : Link) {c : Cell} (h : c ∈ l.cells ∨ (s.cell c).held = true) : ((s.dieStops l).cell c).held = true := by
  show ((s.dieProtect l).cell c).held = true
  rcases h with h | h
  · exact s.held_dieProtect l h
  · unfold State.dieProtect
    refine State.Keeps.when (P := fun u => (u.cell c).held = true) (fun u => HeldStays.solenoidsOff) .refl ?_
    refine State.each_keeps (P := fun u => (u.cell c).held = true) _ (fun d _ u hu => ?_) _ h
    rw [State.cell_modCell]
    split
    · rfl
    · exact HeldStays.protectCell hu
theorem State.tb_dieStops (l : Link) : (s.dieStops l).tb = s.tb := State.Leaves.dieProtect.part .tb

theorem State.stageLoss_eq : s.stageLoss = ((s.each [Link.t, .g, .l] fun l s => s.dieStops l).modBringup fun b => { b with
    stageStopTb := some (s.each [Link.t, .g, .l] fun l s => s.dieStops l).tb }) := rfl
theorem State.stageLoss_stops : s.stageLoss.bringup.stageStopTb = some s.tb ∧ (∀ l : Link, (s.stageLoss.link l).trained = false) ∧
    ∀ l : Link, ∀ c ∈ l.cells, (s.stageLoss.cell c).held = true := by
  have hall (l : Link) : l ∈ [Link.t, .g, .l] := by cases l <;> decide
  have htb := State.each_same (·.tb) [Link.t, .g, .l] (fun l u => u.tb_dieStops l) s
  have htrained (l : Link) := State.each_reaches (P := fun l u => (u.link l).trained = false) (fun l u => u.trained_dieStops l l (.inl rfl))
    (fun l m u h => u.trained_dieStops m l (.inr h)) [Link.t, .g, .l] s (hall l)
  have hheld (l : Link) := State.each_reaches (P := fun l u => ∀ c ∈ l.cells, (u.cell c).held = true)
    (fun l u _ hc => u.held_dieStops l (.inl hc)) (fun l m u h _ hc => u.held_dieStops m (.inr (h _ hc))) [Link.t, .g, .l] s (hall l)
  rw [s.stageLoss_eq]
  generalize (s.each [Link.t, .g, .l] fun l s => s.dieStops l) = u at htb htrained hheld ⊢
  exact ⟨congrArg some htb, htrained, hheld⟩

end

/-! ### The removal of the island supplies (R47) -/

/-- What inhibits the sources stays. -/
def PathStays (a : Option Nat) (b : Bool) (s t : State) : Prop := State.Keeps (fun u => u.path.sysTb = a ∧ u.path.peat = b) s t
theorem pathPart {a : Option Nat} {b : Bool} : State.Reads .path fun u => u.path.sysTb = a ∧ u.path.peat = b := fun _ _ h hs =>
  ⟨(congrArg PathSwSt.sysTb h).trans hs.1, (congrArg PathSwSt.peat h).trans hs.2⟩

section
variable {a : Option Nat} {b : Bool}

theorem PathStays.modPath {s : State} {f : PathSwSt → PathSwSt}
    (hf : ∀ x : PathSwSt, (f x).sysTb = x.sysTb ∧ (f x).peat = x.peat := by exact fun _ => ⟨rfl, rfl⟩) :
    PathStays a b s (s.modPath f) := fun hs => ⟨(hf s.path).1.trans hs.1, (hf s.path).2.trans hs.2⟩
theorem PathStays.lvStop {s : State} : PathStays a b s (s.lvStop) := by
  unfold State.lvStop
  exact .ite .refl (.step PathStays.modPath (.past pathPart .lowerVr (.past pathPart .modChg (.past pathPart
    .setLvState .refl))))
theorem PathStays.handOver {s : State} : PathStays a b s (s.handOver) := by
  unfold State.handOver
  exact .ite (.step PathStays.modPath (.past pathPart .setVrSource (.step PathStays.lvStop .refl))) (.step
    PathStays.modPath (.past pathPart .event (.past pathPart .count (.past pathPart .setVrSource (.past pathPart
    .setBatSw (.step PathStays.lvStop .refl))))))
theorem PathStays.handBackWait {s : State} : PathStays a b s (s.handBackWait) := by
  unfold State.handBackWait
  exact .step PathStays.modPath (.past pathPart .setBit .refl)
theorem PathStays.buckLost {s : State} : PathStays a b s (s.buckLost) := by
  unfold State.buckLost
  exact by split; exacts [(.ite (.step PathStays.handBackWait (.step PathStays.handOver .refl)) (.step
    PathStays.handOver .refl)), (.step PathStays.handBackWait (.past pathPart .setVrSource .refl)), .refl]
theorem PathStays.buckStop {s : State} : PathStays a b s (s.buckStop) := by
  unfold State.buckStop
  exact .ite (.step PathStays.buckLost (.past pathPart .setBit (.past pathPart .setBit (.past pathPart .setBit (.past
    pathPart .setBit (.past pathPart .setBit (.ite (.past pathPart .coastCell .refl) .refl))))))) .refl
theorem PathStays.leaveAux {s : State} : PathStays a b s (s.leaveAux) := by
  unfold State.leaveAux
  exact .past pathPart .setAuxMode (.past pathPart .dabStop (.past pathPart .setBit (.step PathStays.buckStop (.past
    pathPart .towStop .refl))))
theorem PathStays.leaveActive {s : State} {d : Drive} : PathStays a b s (s.leaveActive d) := by
  unfold State.leaveActive
  exact by split; exacts [(.past pathPart .leaveTraction (.past pathPart .leaveShift .refl)), (.past pathPart
    .leaveTraction (.past pathPart .leaveShift .refl)), (.past pathPart .leaveGearbox .refl), (.step
    PathStays.leaveAux .refl), (.past pathPart .leaveCharge .refl), (.past pathPart .setDuty .refl)]
theorem PathStays.goto {s : State} {d : Drive} {new : DriveState} {trig : Nat} : PathStays a b s (s.goto d new trig) :=
    by
  unfold State.goto
  exact .ite .refl (.ite (.past pathPart .autoArm (.when (fun _ => (.past pathPart .seqResume .refl)) (.when (fun _ =>
    (.past pathPart .startUnits .refl)) (.when (fun _ => (.each (fun _ _ _ => (.past pathPart .offCell .refl)) .refl))
    (.when (fun _ => (.each (fun _ _ _ => (.past pathPart .saveLegs .refl)) .refl)) (.when (fun _ => (.past pathPart
    .clearTorque .refl)) (.past pathPart .lastEvent (.past pathPart .event (.when (fun _ => (.past pathPart
    .abortIdent .refl)) (.when (fun _ => (.past pathPart .stopUnits .refl)) (.when (fun _ => (.past pathPart
    .haltSequences .refl)) (.when (fun _ => (.past pathPart .leaveShift .refl)) (.when (fun _ => (.step
    PathStays.leaveActive .refl)) (.when (fun _ => (.each (fun _ _ _ => (.past pathPart .modCell .refl)) .refl))
    (.past pathPart .modDrv .refl))))))))))))))) (.when (fun _ => (.past pathPart .seqResume .refl)) (.when (fun _ =>
    (.past pathPart .startUnits .refl)) (.when (fun _ => (.each (fun _ _ _ => (.past pathPart .offCell .refl)) .refl))
    (.when (fun _ => (.each (fun _ _ _ => (.past pathPart .saveLegs .refl)) .refl)) (.when (fun _ => (.past pathPart
    .clearTorque .refl)) (.past pathPart .lastEvent (.past pathPart .event (.when (fun _ => (.past pathPart
    .abortIdent .refl)) (.when (fun _ => (.past pathPart .stopUnits .refl)) (.when (fun _ => (.past pathPart
    .haltSequences .refl)) (.when (fun _ => (.past pathPart .leaveShift .refl)) (.when (fun _ => (.step
    PathStays.leaveActive .refl)) (.when (fun _ => (.each (fun _ _ _ => (.past pathPart .modCell .refl)) .refl))
    (.past pathPart .modDrv .refl)))))))))))))))
end

/-- Every drive leaves its state, and nothing is checked of it any more. -/
def State.drivesRemoved (s : State) : State :=
  s.each Drive.all fun d s => (s.goto d .unavailable 0xFF).modDrv d fun x => { x with checks := false }

theorem State.ds_uncheck (s : State) (d w : Drive) : (s.modDrv d fun x => { x with checks := false }).ds w = s.ds w :=
  (DsStays.modDrv : DsStays w (s.ds w) s _) rfl
theorem State.drivesRemoved_shows (s : State) : (∀ d : Drive, s.drivesRemoved.ds d = .unavailable) ∧
    s.SameSources s.drivesRemoved := by
  constructor
  · intro d
    refine State.each_reaches (P := fun d u => u.ds d = .unavailable) (fun d u => ?_) (fun d e u h => ?_) Drive.all s
      (by cases d <;> decide)
    · rw [State.ds_uncheck, State.ds_goto]
    · rw [State.ds_uncheck]
      by_cases hne : d = e
      · rw [hne, State.ds_goto]
      · rw [State.ds_goto_ne _ _ _ _ hne]
        exact h
  · refine State.each_keeps (P := s.SameSources) Drive.all (fun d _ u h => State.SameSources.trans ?_ h) s
      (.of_parts rfl rfl)
    have hbringup : (u.goto d .unavailable 0xFF).bringup = u.bringup := State.Leaves.goto.part .bringup
    have hpath : (u.goto d .unavailable 0xFF).path.sysTb = u.path.sysTb ∧ (u.goto d .unavailable 0xFF).path.peat = u.path.peat :=
      PathStays.goto ⟨rfl, rfl⟩
    exact ⟨congrArg _ hbringup, congrArg _ hbringup, congrArg _ hbringup, hpath.1, hpath.2⟩

/-- The cells and the solenoids off, a recovery aborted. -/
def State.cellsRemoved (s : State) : State := (s.each (List.finRange 15) fun c s => s.offCell c).solenoidsOff.haltRecovery

theorem State.cellsRemoved_keeps (s : State) :
    s.cellsRemoved.drives = s.drives ∧ s.cellsRemoved.bringup = s.bringup ∧ s.cellsRemoved.path = s.path := by
  have hoff := State.each_keeps (P := fun u => u.drives = s.drives ∧ u.bringup = s.bringup ∧ u.path = s.path) (List.finRange 15)
    (f := fun c s => s.offCell c) (fun c _ u h => ⟨(State.Leaves.offCell.part .drives).trans h.1,
      (State.Leaves.offCell.part .bringup).trans h.2.1, (State.Leaves.offCell.part .path).trans h.2.2⟩) s ⟨rfl, rfl, rfl⟩
  unfold State.cellsRemoved
  generalize (s.each (List.finRange 15) fun c s => s.offCell c) = u at hoff ⊢
  obtain ⟨hd, hb, hp⟩ := hoff
  exact ⟨(State.Leaves.haltRecovery.part .drives).trans ((State.Leaves.solenoidsOff.part .drives).trans hd),
    (State.Leaves.haltRecovery.part .bringup).trans ((State.Leaves.solenoidsOff.part .bringup).trans hb),
    (State.Leaves.haltRecovery.part .path).trans ((State.Leaves.solenoidsOff.part .path).trans hp)⟩

/-- The links and what follows from their loss. -/
def State.linksRemoved (s : State) : State :=
  let s := s.each [Link.t, .g, .l] fun l s => s.modLink l fun _ => {}
  let s := s.linkLossInterfaces .l
  let s := { s with gbx := { s.gbx with recovered := false } }
  let s := s.modDcl fun x => { x with checkOk := false }
  (s.stageSequencesOff.haltEngines 8 16).recomputeBounds

theorem State.Leaves.linksRemoved (s : State) : State.Leaves [.od, .log, .links, .pifs, .gbx, .dcl, .seqs, .engines, .tasks] (fun j =>
    (∀ x, x < 12 → j ≠ Od.PIF_PIF_STATUS x) ∧ (∀ x, x < 12 → j ≠ Od.PIF_POSITION x) ∧ j ≠ Od.POOL_POOL_STATUS ∧
      (∀ x y, x < 8 → y < 32 → j ≠ Od.SQ_RESULT x y) ∧ (∀ x, x < 8 → j ≠ Od.SQ_SQ_STATUS x)) false s s.linksRemoved := by
  unfold State.linksRemoved
  exact .step .recomputeBounds (.step .haltEngines (.step .stageSequencesOff (.step .modDcl (.step .with_gbx (.step .linkLossInterfaces
    (.each (fun _ _ _ => .step .modLink .refl) .refl))))))

theorem State.removeIslands_eq (s : State) : s.removeIslands =
    (s.drivesRemoved.cellsRemoved.modBringup fun b => { b with islandOn := false, stageStopTb := none }).linksRemoved := by
  unfold State.removeIslands State.linksRemoved State.cellsRemoved State.drivesRemoved
  rfl

/-- The supplies are removed: every drive is UNAVAILABLE, and the sources stay as they are. -/
theorem State.removeIslands_shows (s : State) : (s.removeIslands.bringup.islandOn = false ∧ s.removeIslands.bringup.stageStopTb = none) ∧
    (∀ d : Drive, s.removeIslands.ds d = .unavailable) ∧ s.SameSources s.removeIslands := by
  obtain ⟨hds, hsources⟩ := s.drivesRemoved_shows
  rw [s.removeIslands_eq]
  obtain ⟨hd, hb, hp⟩ := s.drivesRemoved.cellsRemoved_keeps
  generalize s.drivesRemoved.cellsRemoved = u at hd hb hp ⊢
  have hlinks := State.Leaves.linksRemoved (u.modBringup fun b => { b with islandOn := false, stageStopTb := none })
  have hd' := hlinks.part .drives
  have hb' := hlinks.part .bringup
  have hp' := hlinks.part .path
  generalize (u.modBringup fun b => { b with islandOn := false, stageStopTb := none }).linksRemoved = v at hd' hb' hp' ⊢
  have hflags : v.bringup = { u.bringup with islandOn := false, stageStopTb := none } := hb'
  refine ⟨⟨congrArg BringupSt.islandOn hflags, congrArg BringupSt.stageStopTb hflags⟩, fun d => ?_, State.SameSources.trans ?_ hsources⟩
  · exact (congrArg (fun x => (x.get d.idx).state) (hd'.trans hd)).trans (hds d)
  · have hpath : v.path = s.drivesRemoved.path := hp'.trans hp
    refine ⟨?_, ?_, ?_, congrArg _ hpath, congrArg _ hpath⟩
    all_goals rw [hflags, hb]

/-- A removal leaves the supplies off. -/
theorem State.islandOff_settleSupply (s : State) (hoff : s.bringup.islandOn = false) (hpower : s.powerOk = false) :
    s.settleSupply.bringup.islandOn = false := by
  have hb := s.bringup_interruptionSettled
  have hpower' := (State.SameSources.interruptionSettled s).powerOk.trans hpower
  rw [s.settleSupply_eq, State.bringup_showSupply]
  generalize s.interruptionSettled = u at hb hpower' ⊢
  have hreturn : u.powerReturn = u := if_neg fun h => Bool.false_ne_true (hpower'.symm.trans h.2.2)
  rw [hreturn, State.islandOn_enterPodlOnly, hb]
  exact hoff

/-! ### Readings -/

theorem State.readSupply_keeps (s : State) (r : SupplyReading) : (s.readSupply r).bringup.holdupTb = s.bringup.holdupTb ∧
    (s.readSupply r).bringup.step = s.bringup.step ∧ (s.readSupply r).bringup.islandOn = s.bringup.islandOn := by
  have hloss (u : State) (lost : Bool) : (u.noteLvLoss lost).bringup = u.bringup := State.Leaves.noteLvLoss.part .bringup
  cases r with
  | lv v => simp only [State.readSupply, hloss]; exact ⟨rfl, rfl, rfl⟩
  | flyback v => exact ⟨rfl, rfl, rfl⟩
  | podl p v => exact ⟨rfl, rfl, rfl⟩
  | battery v => exact ⟨rfl, rfl, rfl⟩
/-- With every source's bit cleared none is the best one. -/
theorem State.bestSource_noneOk (s : State) (hlv : s.bringup.lvOk = false) (hfly : s.bringup.flyOk = false)
    (hpodl : s.bringup.podlOk = false) : s.bestSource = 0 := by
  rw [State.bestSource, hlv, hfly, hpodl]
  simp
/-- The readings of a state in which no source is valid. -/
def State.sourcesLost (s : State) : State :=
  (s.modBringup fun b => { b with lvOk := false, flyOk := false, podlOk := false }).noteLvLoss s.bringup.lvOk

theorem State.bringup_sourcesLost (s : State) :
    s.sourcesLost.bringup = { s.bringup with lvOk := false, flyOk := false, podlOk := false } := State.Leaves.noteLvLoss.part .bringup
theorem State.tb_sourcesLost (s : State) : s.sourcesLost.tb = s.tb := State.Leaves.noteLvLoss.part .tb
theorem State.readLv_shows (s : State) (v : Rat) :
    (s.readSupply (.lv v)).bringup.lvOk = lvValidNow s.bringup.lvOk (s.bit Od.SUP_SUPPLY_STATUS 3) v ∧
      (s.readSupply (.lv v)).num Od.SUP_V_LV_IN = v := by
  have hloss (u : State) (lost : Bool) : (u.noteLvLoss lost).bringup = u.bringup := State.Leaves.noteLvLoss.part .bringup
  have hnum (u : State) (lost : Bool) : (u.noteLvLoss lost).num Od.SUP_V_LV_IN = u.num Od.SUP_V_LV_IN :=
    State.num_of_get (State.Leaves.noteLvLoss.get trivial)
  simp only [State.readSupply, hloss, hnum]
  refine ⟨rfl, (State.num_of_get (State.Leaves.setBit.get (by decide))).trans ?_⟩
  exact (State.num_setQ _ _ _ _).trans (if_pos rfl)
theorem State.get_settleSupply_vLv (s : State) : s.settleSupply.get Od.SUP_V_LV_IN = s.get Od.SUP_V_LV_IN :=
  State.Leaves.settleSupply.get ⟨by decide, by decide, by grind, by grind, by decide, by decide, by decide, by decide⟩

/-- Settles O3: each command by what a reading comes to (`settleSupply`), the stop by what the dies do. -/
theorem supplyCommandsComplete : Obligations.SupplyCommandsComplete := by
  unfold Obligations.SupplyCommandsComplete
  have hread (s : State) (dt : Nat) (r : SupplyReading) : reply s ((s.elapse dt).supplyReading r) =
      .next ((s.elapse dt).readSupply r).settleSupply := State.Leaves.supplyReading.completes
  refine ⟨?_, ?_, ?_, ?_, ?_, ?_, ?_⟩
  · intro s dt r
    exact ⟨_, hread s dt r, State.active_settleSupply _⟩
  · intro s dt v
    obtain ⟨hok, hv⟩ := (s.elapse dt).readLv_shows v
    exact ⟨_, hread s dt (.lv v), (State.SameSources.settleSupply _).lv.trans hok,
      (State.num_of_get (State.get_settleSupply_vLv _)).trans hv⟩
  · intro s dt
    have hb := (s.elapse dt).bringup_sourcesLost
    have hnone : (s.elapse dt).sourcesLost.bestSource = 0 := State.bestSource_noneOk _ (by rw [hb]) (by rw [hb]) (by rw [hb])
    have heq : (s.elapse dt).allInvalid = (s.elapse dt).sourcesLost.settleSupply := rfl
    refine ⟨_, State.Leaves.allInvalid.completes, ?_⟩
    rw [heq, (State.SameSources.settleSupply _).bestSource, State.holdup_settleSupply, if_pos hnone, hb, State.tb_sourcesLost]
    exact ⟨hnone, rfl⟩
  · intro s dt r t0 hhold hsource hstep hroom
    obtain ⟨hkept, hkeptStep, -⟩ := (s.elapse dt).readSupply_keeps r
    have hevents : ((s.elapse dt).readSupply r).nat Od.SUP_HOLDUP_EVENTS = s.nat Od.SUP_HOLDUP_EVENTS :=
      State.nat_of_get (State.Leaves.readSupply.get (by decide))
    refine ⟨_, hread s dt r, ?_, ?_⟩
    · rw [State.holdup_settleSupply, if_neg hsource]
    · rw [State.holdupEvents_settleSupply _ (hkept.trans hhold) hsource (by rw [hkeptStep]; exact hstep), hevents]
  · intro s dt hdue
    exact ⟨_, (congrArg (reply s) (if_pos hdue)).trans State.Leaves.stageLoss.completes, (s.elapse dt).stageLoss_stops⟩
  · intro s dt hstop hpower
    have heq : (s.elapse dt).islandRemoval = (s.elapse dt).removeIslands.settleSupply := if_pos hstop
    obtain ⟨⟨hoff, hnone⟩, hds, hsources⟩ := (s.elapse dt).removeIslands_shows
    refine ⟨_, State.Leaves.islandRemoval.completes, ?_⟩
    rw [heq, State.stop_settleSupply]
    refine ⟨State.islandOff_settleSupply _ hoff (by rw [hsources.powerOk]; exact hpower), hnone, fun d => ?_⟩
    rw [State.Leaves.settleSupply.ds]
    exact hds d
  · intro s dt r hstep hoff hpower
    obtain ⟨-, hkeptStep, hkeptOff⟩ := (s.elapse dt).readSupply_keeps r
    exact ⟨_, hread s dt r, State.settleSupply_returns _ (by rw [hkeptStep]; exact hstep) (hkeptOff.trans hoff) hpower⟩

end Sys2Proof.Machine
end

section
/-! PROOFS. The steps of bring-up (O5). -/
namespace Sys2Proof.Machine
open Sys2Proof
set_option Elab.async false

/-! ### Trim load and root PLL (R55, R58) -/

section
variable (s : State)

theorem State.trimLoaded_passes (hstep : s.bringup.step = 1) (hfault : s.bringup.trimFault = false) :
    (s.trimLoaded true).bringup.step = 2 ∧ (s.trimLoaded true).nat Od.RST_TRIM_STATUS = 1 := by
  have heq : s.trimLoaded true = ((s.setN Od.RST_TRIM_STATUS 1).setN Od.BKP_BKP13 0).modBringup fun b =>
      { b with step := 2, trimAttempts := 0 } := if_neg (by rw [hstep, hfault]; simp)
  have hset : ((s.setN Od.RST_TRIM_STATUS 1).setN Od.BKP_BKP13 0).nat Od.RST_TRIM_STATUS = 1 := by
    rw [State.nat_setN, if_neg (by decide), State.nat_setN, if_pos rfl]
  rw [heq]
  exact ⟨rfl, hset⟩

/-- The third failed trim load in a row is the last one. -/
theorem State.trimLoaded_fails (hstep : s.bringup.step = 1) (hfault : s.bringup.trimFault = false) :
    (s.trimLoaded false).bringup.step = 1 ∧ (s.trimLoaded false).bringup.trimAttempts = s.bringup.trimAttempts + 1 ∧
      (s.trimLoaded false).bringup.trimFault = decide (3 ≤ s.bringup.trimAttempts + 1) := by
  have hlast (u : State) (n : Nat) : ((u.trackFree 3 u.tb).flushHeld.event 0x0107 0xFF n).bringup = u.bringup := rfl
  unfold State.trimLoaded
  rw [if_neg (by rw [hstep, hfault]; simp), if_neg Bool.false_ne_true]
  dsimp only
  split
  · next h => exact ⟨hstep, rfl, hfault.trans (decide_eq_false (by omega)).symm⟩
  · next h =>
    rw [hlast]
    exact ⟨hstep, rfl, (decide_eq_true (by omega)).symm⟩

/-! ### Images (R59, R60) -/

theorem State.startImage_shows (b : Fin 2) : (s.startImage b).bringup.step = 5 ∧ (s.startImage b).img.active = b := by
  unfold State.startImage
  dsimp only
  rw [State.Leaves.recomputeBounds.part .bringup, State.Leaves.startEngines.part .bringup, State.Leaves.recomputeBounds.part .img,
    State.Leaves.startEngines.part .img]
  exact ⟨rfl, rfl⟩
theorem State.imageChecked_newest (o : Bool) {b : Fin 2} (hstep : s.bringup.step = 3) (hfault : s.bringup.imageFault = false)
    (hbank : s.newestBank = some b) (hpass : imagePasses (s.bank b).image = true) :
    (s.imageChecked true o).bringup.step = 5 ∧ (s.imageChecked true o).img.active = b := by
  unfold State.imageChecked
  rw [if_neg (by rw [hstep, hfault]; simp), hbank]
  dsimp only
  rw [hpass, Bool.and_true, if_pos rfl]
  split
  · exact s.startImage_shows b
  · exact s.startImage_shows b
theorem State.imageFault_shows : s.imageFault.bringup.imageFault = true ∧ s.imageFault.bit Od.IMG_IMG_STATUS 3 = true :=
  ⟨rfl, State.bit_setBit_same _ _ _ _⟩
theorem State.imageChecked_none (hstep : s.bringup.step = 3) (hfault : s.bringup.imageFault = false) :
    s.imageChecked false false = s.imageFault := by
  unfold State.imageChecked
  rw [if_neg (by rw [hstep, hfault]; simp)]
  cases s.newestBank <;> rfl

/-! ### The parameter store and the control island (R61, R62) -/

theorem State.invalid_setChecked : (s.setChecked false).safety.invalid = true := by
  have hraise (u : State) : (u.raiseSafe 0x0E12 0xFF 0 Drive.all).safety = u.safety := State.Leaves.raiseSafe.part .safety
  unfold State.setChecked
  dsimp only
  rw [if_neg Bool.false_ne_true, hraise]
  rfl
theorem State.invalid_loaded (b : Bool) (f : BringupSt → BringupSt) (hb : b = false) :
    (((s.setChecked b).configLoad true).modBringup f).safety.invalid = true := by
  have hload (u : State) : ((u.configLoad true).modBringup f).safety = u.safety :=
    (State.Leaves.configLoad (s := u) (atBringup := true)).part .safety
  rw [hload, hb]
  exact s.invalid_setChecked
theorem State.storeLoaded_shows (rej : List Nat) (ok : Bool) (hstep : s.bringup.step = 5) :
    (s.storeLoaded rej ok).bringup.step = 6 ∧ (ok = false → (s.storeLoaded rej ok).safety.invalid = true) := by
  have heq : s.storeLoaded rej ok = ((((s.each rej fun k s => s.rejectRecord k).applyStore).setChecked
      (ok && ((s.each rej fun k s => s.rejectRecord k).applyStore).setMatches)).configLoad true).modBringup fun b =>
        { b with step := 6 } := if_neg (by simp [hstep])
  rw [heq]
  generalize (s.each rej fun k s => s.rejectRecord k).applyStore = u
  refine ⟨rfl, fun hok => u.invalid_loaded _ _ ?_⟩
  rw [hok, Bool.false_and]

/-- With step 7 the object dictionary is reachable, and stays so through what follows at once. -/
theorem State.step_settleSupply : s.bringup.step ≤ s.settleSupply.bringup.step := by
  have hb := s.bringup_interruptionSettled
  have hpodl (u : State) : u.enterPodlOnly.bringup.step = u.bringup.step := by
    unfold State.enterPodlOnly
    split
    · dsimp only
      rw [State.event_bringup, State.Leaves.stageSequencesOff.part .bringup, State.Leaves.recomputeBounds.part .bringup,
        State.Leaves.haltEngines.part .bringup]
      rfl
    · rfl
  have hreturn (u : State) : u.bringup.step ≤ u.powerReturn.bringup.step := by
    by_cases h : 7 ≤ u.bringup.step ∧ ¬ u.bringup.islandOn ∧ u.powerOk
    · rw [u.bringup_powerReturn_due h]
      exact le_max_left _ _
    · rw [State.powerReturn, if_neg h]
  rw [s.settleSupply_eq, State.bringup_showSupply, hpodl]
  refine le_trans ?_ (hreturn _)
  rw [hb]

/-- What follows the end of step 6 before the supplies are looked at. -/
def State.islandsReached (s : State) (t : Nat) : State :=
  let s := ((s.modBringup fun b => { b with step := 7 }).setN Od.RST_CTRL_READY_ms t).flushHeld
  let s := (s.event 0x0101 0xFF (s.bringup.cause + 65536 * t)).failProgress.startTimers
  let s := (s.setBit Od.RST_BRINGUP_STATUS 0 true).refreshFlt
  s.each [0, 1, 2, 3] fun c s => s.trackFree c s.tb

theorem State.islandsReached_shows (t : Nat) : (s.islandsReached t).bringup.step = 7 ∧ (s.islandsReached t).nat Od.RST_CTRL_READY_ms = t := by
  have hfree (u : State) : (u.each [0, 1, 2, 3] fun c s => s.trackFree c s.tb).bringup = u.bringup ∧
      (u.each [0, 1, 2, 3] fun c s => s.trackFree c s.tb).get = u.get :=
    State.each_keeps (P := fun v => v.bringup = u.bringup ∧ v.get = u.get) _ (fun c _ v h =>
      ⟨(State.Leaves.trackFree.part .bringup).trans h.1, (funext fun _ => State.Leaves.trackFree.get trivial).trans h.2⟩) u ⟨rfl, rfl⟩
  have hflt (u : State) : u.refreshFlt.bringup = u.bringup ∧ u.refreshFlt.get Od.RST_CTRL_READY_ms = u.get Od.RST_CTRL_READY_ms :=
    ⟨State.Leaves.refreshFlt.part .bringup, State.Leaves.refreshFlt.get (by decide)⟩
  have hstart (u : State) : u.failProgress.startTimers.bringup = u.bringup ∧
      u.failProgress.startTimers.get Od.RST_CTRL_READY_ms = u.get Od.RST_CTRL_READY_ms :=
    ⟨(State.Leaves.startTimers.part .bringup).trans (State.Leaves.failProgress.part .bringup),
      (State.Leaves.startTimers.get trivial).trans (State.Leaves.failProgress.get (by decide))⟩
  have hset : (((s.modBringup fun b => { b with step := 7 }).setN Od.RST_CTRL_READY_ms t).flushHeld).nat Od.RST_CTRL_READY_ms = t :=
    (State.nat_setN _ _ _ _).trans (if_pos rfl)
  unfold State.islandsReached
  dsimp only
  constructor
  · rw [(hfree _).1, (hflt _).1, State.setBit_bringup, (hstart _).1]
    rfl
  · refine (State.nat_of_get (congrFun (hfree _).2 _)).trans ((State.nat_of_get (hflt _).2).trans ?_)
    refine (State.nat_of_get (State.Leaves.setBit.get (by decide))).trans ((State.nat_of_get (hstart _).2).trans ?_)
    exact hset
theorem State.islandUp_shows (hstep : s.bringup.step = 6) : s.islandUp.dictUp = true ∧
    s.islandUp.nat Od.RST_CTRL_READY_ms = min ((s.tb - s.bringup.releaseTb) / 100000) 65535 := by
  have heq : s.islandUp = (s.islandsReached (min ((s.tb - s.bringup.releaseTb) / 100000) 65535)).settleSupply :=
    if_neg (by simp [hstep])
  obtain ⟨hseven, hready⟩ := s.islandsReached_shows (min ((s.tb - s.bringup.releaseTb) / 100000) 65535)
  rw [heq]
  generalize s.islandsReached _ = u at hseven hready ⊢
  refine ⟨decide_eq_true (hseven ▸ u.step_settleSupply), ?_⟩
  refine (State.nat_of_get (State.Leaves.settleSupply.get ?_)).trans hready
  exact ⟨by decide, by decide, by grind, by grind, by decide, by decide, by decide, by decide⟩

/-! ### Drives (R63, R65, R66) -/

theorem State.becomeReady_standby (d : Drive) (hds : s.ds d = .unavailable) (hunmet : s.unmet d = 0) (hstep : 7 ≤ s.bringup.step)
    (htqo : (s.drv d).tqo = false) : (s.becomeReady d).ds d = .standby := by
  have hkept : (((s.openSequencers d).goto d .standby 0xFF).drv d).tqo = false := by
    rw [State.tqo_of_core (State.core_goto _ d _ _ d), State.Leaves.openSequencers.drv d]
    exact htqo
  unfold State.becomeReady
  rw [if_pos ⟨hds, hunmet, hstep⟩]
  dsimp only
  rw [hkept, if_neg Bool.false_ne_true]
  exact State.ds_goto _ _ _ _

/-- A drive that is reset is UNAVAILABLE and knows since when. -/
theorem State.resetDrive_drv (rank : Nat) (d : Drive) : (s.resetDrive rank d).ds d = .unavailable ∧
    ((s.resetDrive rank d).drv d).resetTb = some s.tb := by
  have hclose (u : State) : (u.closeWrappers d).drv d = u.drv d := State.Leaves.closeWrappers.drv d
  have htb (u : State) (cs : List Cell) : ((u.goto d .unavailable 0xFF).keepAsc cs).tb = u.tb :=
    (State.Leaves.keepAsc.part .tb).trans (State.Leaves.goto.part .tb)
  have hkeep (u : State) (cs : List Cell) : ((u.goto d .unavailable 0xFF).keepAsc cs).ds d = .unavailable :=
    (State.Leaves.keepAsc.ds d).trans (State.ds_goto _ _ _ _)
  have hprotect : (s.protectDrive d).tb = s.tb := State.Leaves.protectDrive.part .tb
  unfold State.resetDrive
  dsimp only
  generalize (d.cells.filter _) = cs
  rw [State.ds, hclose, State.drv_modDrv, if_pos rfl, htb, hprotect]
  exact ⟨hkeep _ cs, rfl⟩
/-- No other drive changes. -/
theorem State.resetDrive_drv_ne (rank : Nat) {d w : Drive} (h : w ≠ d) : (s.resetDrive rank d).ds w = s.ds w ∧
    ((s.resetDrive rank d).drv w).resetTb = (s.drv w).resetTb := by
  have hclose (u : State) : (u.closeWrappers d).drv w = u.drv w := State.Leaves.closeWrappers.drv w
  have hprotect : (s.protectDrive d).drv w = s.drv w := State.Leaves.protectDrive.drv w
  have hkeep (u : State) (cs : List Cell) : ((u.goto d .unavailable 0xFF).keepAsc cs).drv w = (u.goto d .unavailable 0xFF).drv w :=
    State.Leaves.keepAsc.drv w
  have hds (u : State) : ((u.goto d .unavailable 0xFF).drv w).state = (u.drv w).state := State.ds_goto_ne _ _ _ _ h
  have hcore (u : State) : ((u.goto d .unavailable 0xFF).drv w).core.resetTb = (u.drv w).core.resetTb :=
    congrArg DriveSt.resetTb (u.core_goto d .unavailable 0xFF w)
  unfold State.resetDrive
  dsimp only
  generalize (d.cells.filter _) = cs
  rw [State.ds, hclose, State.drv_modDrv, if_neg h, hkeep, ← State.ds]
  exact ⟨(hds _).trans (congrArg DriveSt.state hprotect), (hcore _).trans (congrArg (fun x => x.core.resetTb) hprotect)⟩
theorem State.resetDrives_shows (ds : List Drive) (rank : State → Nat) {d : Drive} (hd : d ∈ ds) :
    (s.each ds fun d s => s.resetDrive (rank s) d).ds d = .unavailable ∧
      ((s.each ds fun d s => s.resetDrive (rank s) d).drv d).resetTb = some s.tb := by
  have htb (u : State) (r : Nat) (e : Drive) : (u.resetDrive r e).tb = u.tb := State.Leaves.resetDrive.part .tb
  refine State.each_reaches (P := fun d u => u.tb = s.tb → u.ds d = .unavailable ∧ (u.drv d).resetTb = some s.tb)
    (fun d u hu => ?_) (fun d e u h hu => ?_) ds s hd (State.each_same (·.tb) ds (fun e u => htb u _ e) s)
  · obtain ⟨hds, hreset⟩ := u.resetDrive_drv (rank u) d
    rw [htb] at hu
    exact ⟨hds, hreset.trans (congrArg some hu)⟩
  · rw [htb] at hu
    by_cases hne : d = e
    · rw [hne]
      obtain ⟨hds, hreset⟩ := u.resetDrive_drv (rank u) e
      exact ⟨hds, hreset.trans (congrArg some hu)⟩
    · obtain ⟨hds, hreset⟩ := u.resetDrive_drv_ne (rank u) hne
      rw [hds, hreset]
      exact h hu

/-- The blocks of a drive that was reset are released and logged. -/
theorem State.releaseBlocks_shows (d : Drive) (hroom : s.logRoom = true) : ((s.releaseBlocks d).drv d).resetTb = none ∧
    (s.releaseBlocks d).logged 0x0109 0xFF (2 ^ d.num + 256 * (s.drv d).resetRank) = true := by
  have hblocks : (s.resetBlocks d).drv d = s.drv d := State.Leaves.resetBlocks.drv d
  have hbuffer : (s.resetBlocks d).log = s.log := State.Leaves.resetBlocks.part .log
  have hdrive (u : State) : ((u.modDrv d fun x => { x with resetTb := none, checks := false }).drv d).resetTb = none ∧
      ((u.modDrv d fun x => { x with resetTb := none, checks := false }).drv d).resetRank = (u.drv d).resetRank ∧
      (u.modDrv d fun x => { x with resetTb := none, checks := false }).log = u.log := by
    rw [State.drv_modDrv, if_pos rfl]
    exact ⟨rfl, rfl, rfl⟩
  obtain ⟨hnone, hrank, hlog⟩ := hdrive (s.resetBlocks d)
  unfold State.releaseBlocks
  dsimp only
  generalize ((s.resetBlocks d).modDrv d fun x => { x with resetTb := none, checks := false }) = v at hnone hrank hlog ⊢
  have hv : v.logRoom = true := by
    rw [State.logRoom, hlog, hbuffer]
    exact hroom
  have hlast (w : State) (hw : w.drv d = v.drv d) (hwlog : w.log = v.log) :
      ((w.event 0x0109 0xFF (2 ^ d.num + 256 * (w.drv d).resetRank)).drv d).resetTb = none ∧
      (w.event 0x0109 0xFF (2 ^ d.num + 256 * (w.drv d).resetRank)).logged 0x0109 0xFF
        (2 ^ d.num + 256 * (s.drv d).resetRank) = true := by
    rw [hw, hrank, hblocks]
    exact ⟨(congrArg DriveSt.resetTb hw).trans hnone, State.logged_event _ _ _ _ (by rw [State.logRoom, hwlog]; exact hv)⟩
  cases d <;> exact hlast _ rfl rfl
end

/-! ### The customer area (R66) -/

/-- Octets written one after the other read as written. -/
theorem Memory.read_writeAll (l : List Byte) (m : List Host.Cell) (a i : Nat) (h : i < l.length) :
    Memory.read (Memory.writeAll m a l) (a + i) = l.getD i 0 := by
  induction l generalizing m a i with
  | nil => cases h
  | cons v l ih =>
    rw [Memory.writeAll]
    cases i with
    | zero => rw [Nat.add_zero, Memory.read_writeAll_ne _ _ _ _ (Or.inl (by omega)), Memory.read_write, if_pos (Nat.add_zero a)]; rfl
    | succ i =>
      have hi : i < l.length := Nat.lt_of_succ_lt_succ h
      rw [show a + (i + 1) = a + 1 + i by omega, ih _ _ _ hi]
      rfl

section
variable (s : State) (data : List Byte)

theorem State.custEffect_writes (h : custWriteOk (s.nat Od.RET_CUST_OFFSET) data.length = true) :
    State.custEffect data s = .ok { s with cust := Memory.writeAll s.cust (s.nat Od.RET_CUST_OFFSET) data } :=
  if_neg (by rw [h]; exact Bool.false_ne_true)
theorem State.custEffect_refuses (h : custWriteOk (s.nat Od.RET_CUST_OFFSET) data.length = false) :
    State.custEffect data s = .error 0x06070010 := if_pos (by rw [h]; rfl)
theorem State.driveResetEffect_resets {who : Requester} {mask : Nat}
    (h : who = .pyreri ∨ ∀ d ∈ Drive.all, mask.testBit d.num = true → s.owns who d = true) :
    State.driveResetEffect who mask s = .ok (s.each (Drive.all.filter fun d => mask.testBit d.num) fun d s =>
      s.resetDrive (s.rankOf who / 8) d) := by
  refine if_neg ?_
  rw [Bool.and_eq_true, not_and, Bool.not_eq_true, Bool.not_eq_false', List.all_eq_true]
  intro hwho d hd
  obtain ⟨hall, hmask⟩ := List.mem_filter.mp hd
  rcases h with rfl | h
  · cases hwho
  · exact h d hall hmask
end

/-- Settles O5: each step by the lemma above about its operation. -/
theorem bringUpCommandsComplete : Obligations.BringUpCommandsComplete := by
  unfold Obligations.BringUpCommandsComplete
  have hoffset (s : State) (dt : Nat) (who : Requester) : (s.begun dt who).nat Od.RET_CUST_OFFSET = s.nat Od.RET_CUST_OFFSET :=
    s.begun_nat dt who (by decide)
  have hcust (s : State) (dt : Nat) (who : Requester) : (s.begun dt who).cust = s.cust := State.Leaves.begun.part .cust
  refine ⟨?_, ?_, ?_, ?_, ?_, ?_, ?_, ?_, ?_, ?_, ?_, ?_, ?_⟩
  · intro s dt hstep hfault
    exact ⟨_, State.Leaves.trimLoaded.completes, (s.elapse dt).trimLoaded_passes hstep hfault⟩
  · intro s dt hstep hfault
    exact ⟨_, State.Leaves.trimLoaded.completes, (s.elapse dt).trimLoaded_fails hstep hfault⟩
  · intro s dt hstep
    have heq : (s.elapse dt).pllLocked = _ := if_pos hstep
    exact ⟨_, (congrArg (reply s) heq).trans (reply_of_pending rfl), rfl, State.bit_setBit_same _ _ _ _⟩
  · intro s dt o b hstep hfault hbank hpass
    exact ⟨_, State.Leaves.imageChecked.completes, (s.elapse dt).imageChecked_newest o hstep hfault hbank hpass⟩
  · intro s dt hstep hfault
    refine ⟨_, State.Leaves.imageChecked.completes, ?_⟩
    rw [(s.elapse dt).imageChecked_none hstep hfault]
    exact (s.elapse dt).imageFault_shows
  · intro s dt rej ok hstep
    exact ⟨_, State.Leaves.storeLoaded.completes, (s.elapse dt).storeLoaded_shows rej ok hstep⟩
  · intro s dt hstep
    exact ⟨_, State.Leaves.islandUp.completes, (s.elapse dt).islandUp_shows hstep⟩
  · intro s dt d hds hstep hunmet htqo
    have heq : execDriveReadinessComplete dt d true s =
        reply s (((s.elapse dt).modDrv d fun x => { x with checks := true }).becomeReady d) :=
      congrArg (reply s) (if_pos ⟨hds, hstep⟩)
    refine ⟨_, heq.trans (reply_of_pending (State.Leaves.becomeReady.part .pending)), State.becomeReady_standby _ d ?_ hunmet ?_ ?_⟩
    · exact (congrArg DriveSt.state ((State.drv_modDrv _ _ _ _).trans (if_pos rfl))).trans hds
    · exact hstep.trans' (by decide)
    · rw [State.drv_modDrv, if_pos rfl]
      exact htqo
  · intro s dt who data i ha hok hi
    have he := (s.begun dt who).custEffect_writes data (by rwa [hoffset])
    refine ⟨_, State.accepted_completes ha he (s.begun_pending dt who), ?_, State.answered_emit _ _ _⟩
    rw [← hoffset s dt who]
    exact Memory.read_writeAll data _ _ i hi
  · intro s dt who data a ha hout
    have hbefore : Memory.read (s.begun dt who).cust a = Memory.read s.cust a := congrArg (Memory.read · a) (hcust s dt who)
    by_cases hok : custWriteOk (s.nat Od.RET_CUST_OFFSET) data.length = true
    · have he := (s.begun dt who).custEffect_writes data (by rwa [hoffset])
      refine ⟨_, State.accepted_completes ha he (s.begun_pending dt who), ?_⟩
      rw [← hoffset s dt who] at hout
      exact (Memory.read_writeAll_ne data _ _ a hout).trans hbefore
    · have he := (s.begun dt who).custEffect_refuses data (by rwa [hoffset, Bool.eq_false_iff])
      exact ⟨_, State.refused_completes ha he, hbefore⟩
  · intro s dt who data ha hbad
    have he := (s.begun dt who).custEffect_refuses data (by rwa [hoffset])
    exact ⟨_, State.refused_completes ha he, hcust s dt who, State.refusedWith_begun s dt who _⟩
  · intro s dt who mask d ha howns hd
    have hall (e : Drive) : e ∈ Drive.all := by cases e <;> decide
    have he := (s.begun dt who).driveResetEffect_resets howns
    have hpend := State.each_same (·.pending) (Drive.all.filter fun d => mask.toNat.testBit d.num)
      (f := fun d s => s.resetDrive (s.rankOf who / 8) d) (fun _ _ => State.Leaves.resetDrive.part .pending) (s.begun dt who)
    refine ⟨_, State.accepted_completes ha he (hpend.trans (s.begun_pending dt who)), ?_⟩
    have hshows := (s.begun dt who).resetDrives_shows (Drive.all.filter fun d => mask.toNat.testBit d.num) (fun u => u.rankOf who / 8) (List.mem_filter.mpr ⟨hall d, hd⟩)
    rw [s.begun_tb] at hshows
    exact hshows
  · intro s dt d t0 hreset hdue hroom
    have heq : (s.elapse dt).blockRelease d = (s.elapse dt).releaseBlocks d := by
      unfold State.blockRelease
      rw [show (s.elapse dt).drv d = s.drv d from rfl, hreset]
      exact if_pos hdue
    refine ⟨_, State.Leaves.blockRelease.completes, ?_⟩
    rw [heq]
    exact (s.elapse dt).releaseBlocks_shows d hroom

end Sys2Proof.Machine
end

section
/-! PROOFS. CONTROL of the drives (O14). -/
namespace Sys2Proof.Machine
open Sys2Proof
set_option Elab.async false

/-! ### What an access leaves that CONTROL asks for

The count of requests is the one object that an accepted access has changed before its effect. -/

section
variable {s t : State} (hget : ∀ k, k ≠ Od.SVC_REQUESTS → t.get k = s.get k)
include hget

theorem State.nat_counted {k : Nat} (hk : k ≠ Od.SVC_REQUESTS) : t.nat k = s.nat k := State.nat_of_get (hget k hk)
theorem State.num_counted {k : Nat} (hk : k ≠ Od.SVC_REQUESTS) : t.num k = s.num k := State.num_of_get (hget k hk)
theorem State.int_counted {k : Nat} (hk : k ≠ Od.SVC_REQUESTS) : t.int k = s.int k := State.int_of_get (hget k hk)
theorem State.bit_counted {k : Nat} (i : Nat) (hk : k ≠ Od.SVC_REQUESTS) : t.bit k i = s.bit k i := State.bit_of_get (hget k hk) i
theorem State.flag_counted {k : Nat} (hk : k ≠ Od.SVC_REQUESTS) : t.flag k = s.flag k := State.flag_of_get (hget k hk)
theorem State.field_counted {k : Nat} (a b : Nat) (hk : k ≠ Od.SVC_REQUESTS) : t.field k a b = s.field k a b :=
  State.field_of_get (hget k hk) a b

theorem State.motorDataOk_counted (n : Nat) : t.motorDataOk n = s.motorDataOk n := by
  unfold State.motorDataOk
  simp (disch := grind) only [State.nat_counted hget, State.num_counted hget]
theorem State.timingOk_counted (n : Nat) : t.timingOk n = s.timingOk n := by
  unfold State.timingOk
  simp (disch := grind) only [List.all_cons, List.all_nil, State.nat_counted hget]
theorem State.setsAgree_counted (i : Fin 2) : t.setsAgree i = s.setsAgree i := by
  unfold State.setsAgree
  simp (disch := grind) only [State.nat_counted hget, State.num_counted hget]
theorem State.armDataFault_counted (d : Drive) : t.armDataFault d = s.armDataFault d := by
  unfold State.armDataFault
  simp (disch := grind) only [State.motorDataOk_counted hget, State.timingOk_counted hget, State.setsAgree_counted hget,
    State.num_counted hget]
theorem State.probePossible_counted (i : Fin 2) : t.probePossible i = s.probePossible i := by
  unfold State.probePossible State.canProbe State.setLostBit State.twoShunt
  simp (disch := grind) only [State.nat_counted hget, State.bit_counted hget]
theorem State.lockedOut_counted (d : Drive) : t.lockedOut d = s.lockedOut d := by
  unfold State.lockedOut
  simp (disch := grind) only [State.flag_counted hget]
theorem State.thermalForbidsAck_counted (d : Drive) (hthermal : t.thermal = s.thermal) :
    t.thermalForbidsAck d = s.thermalForbidsAck d := by
  unfold State.thermalForbidsAck State.est
  simp (disch := grind) only [State.bit_counted hget, State.int_counted hget, hthermal]
end

section
variable (s : State) (dt : Nat) (who : Requester)

theorem State.begun_counted (k : Nat) (hk : k ≠ Od.SVC_REQUESTS) : (s.begun dt who).get k = s.get k := s.begun_get dt who hk
theorem State.begun_drv (d : Drive) : (s.begun dt who).drv d = s.drv d := State.Leaves.begun.drv d
theorem State.begun_ds (d : Drive) : (s.begun dt who).ds d = s.ds d := State.Leaves.begun.ds d
theorem State.begun_safe (d : Drive) : (s.begun dt who).safe d = s.safe d :=
  congrArg (fun x : SafetySt => x.drives.get d.idx) (State.Leaves.begun.part .safety)

theorem State.begun_armAllowed (d : Drive) : (s.begun dt who).armAllowed d = s.armAllowed d := by
  have hside (i : Fin 2) : (s.begun dt who).side i = s.side i :=
    congrArg (fun x : GbxSt => x.sides.get i) (State.Leaves.begun.part .gbx)
  unfold State.armAllowed State.chargeInterlock State.chgBit
  rw [State.begun_ds, State.begun_drv, hside, State.probePossible_counted (s.begun_counted dt who)]
  simp (disch := grind) only [State.bit_counted (s.begun_counted dt who), State.num_counted (s.begun_counted dt who)]
theorem State.begun_causePresent (d : Drive) : (s.begun dt who).causePresent d = s.causePresent d := by
  have hlink (l : Link) : (s.begun dt who).link l = s.link l := State.Leaves.begun.link l
  have hdcl : (s.begun dt who).dcl = s.dcl := State.Leaves.begun.part .dcl
  have hclocks : (s.begun dt who).clocks = s.clocks := State.Leaves.begun.part .clocks
  have hengines : (s.begun dt who).engines = s.engines := State.Leaves.begun.part .engines
  unfold State.causePresent State.linkForbidsAck State.liveEngines State.eng State.pifService State.sensesDiffer
    State.largestSense State.smallestSense State.vDc
  rw [State.begun_drv, State.thermalForbidsAck_counted (s.begun_counted dt who) _ (State.Leaves.begun.part .thermal), hdcl,
    hclocks, hengines]
  simp (disch := grind) only [hlink, State.bit_counted (s.begun_counted dt who), State.num_counted (s.begun_counted dt who),
    State.field_counted (s.begun_counted dt who)]
end

/-! ### The state of a drive that runs -/

section
variable {z : Drive} {v : DriveState}

theorem DsStays.motorRuns {s : State} {t : Fin 2} : DsStays z v s (s.motorRuns t) := by
  unfold State.motorRuns
  exact .ite (.past dsPart .lastEvent (.past dsPart .event (.past dsPart .setQ (.past dsPart .modTr (.step
    DsStays.modDrv .refl))))) (.step DsStays.modDrv .refl)
theorem DsStays.engageAll {s : State} {t : Fin 2} {m : Axis} {src : Nat} {theta : Rat} {w : Rat} : DsStays z v s
    (s.engageAll t m src theta w) := by
  unfold State.engageAll
  exact .step DsStays.motorRuns (.each (fun _ _ _ => (.past dsPart .engage .refl)) .refl)
theorem DsStays.startSets {s : State} {t : Fin 2} : DsStays z v s (s.startSets t) := by
  unfold State.startSets
  exact by split; exacts [(.step DsStays.engageAll .refl), (.past dsPart .startProbe .refl)]
theorem DsStays.enterIbStart {s : State} : DsStays z v s (s.enterIbStart) := by
  unfold State.enterIbStart
  exact .ite (.past dsPart .dabStart (.past dsPart .setAuxMode .refl)) (.each (fun _ _ _ => (.past dsPart .modCell
    .refl)) (.step DsStays.modDrv (.past dsPart .setAuxMode .refl)))
theorem DsStays.auxSource {s : State} : DsStays z v s (s.auxSource) := by
  unfold State.auxSource
  exact .ite (.step DsStays.enterIbStart .refl) (.ite (.past dsPart .enterTow .refl) (.past dsPart .enterWait .refl))
theorem DsStays.startCheck {s : State} {t : Fin 2} : DsStays z v s (s.startCheck t) := by
  unfold State.startCheck
  exact .ite (.step DsStays.startSets .refl) (.past dsPart .startTrain .refl)
end

section
variable (s : State) (d : Drive)

theorem State.drv_startArming (f : ArmFor) : ((s.startArming d f).drv d).arming = f := by
  have hcells (u : State) (l : List Cell) (g : CellSt → CellSt) : (u.each l fun c s => s.modCell c g).drv d = u.drv d :=
    State.each_same (f := fun c s => s.modCell c g) (fun u => u.drv d) l (fun _ _ => rfl) u
  unfold State.startArming
  dsimp only
  rw [hcells, State.drv_modDrv, if_pos rfl]
theorem State.cell_startArming (f : ArmFor) (hd : d ≠ .aux) {c : Cell} (hc : c ∈ d.cells) :
    ((s.startArming d f).cell c).armStep = 2 ∧ ((s.startArming d f).cell c).supLo = true := by
  have hlist : (if d = .aux ∧ (s.modDrv d fun x => { x with arming := f }).num Od.DCL_V_DC < 450 then [10] else d.cells) = d.cells :=
    if_neg fun h => hd h.1
  unfold State.startArming
  dsimp only
  rw [hlist]
  refine State.each_reaches (P := fun c u => (u.cell c).armStep = 2 ∧ (u.cell c).supLo = true) (fun c u => ?_) (fun c e u hu => ?_)
    d.cells _ hc
  · rw [State.cell_modCell_same]
    exact ⟨rfl, rfl⟩
  · rw [State.cell_modCell]
    split
    · exact ⟨rfl, rfl⟩
    · exact hu

theorem State.supLo_countAsc (c e : Cell) : ((s.countAsc e).cell c).supLo = (s.cell c).supLo := by
  have hcount (n : Nat) (e : Cell) : (s.countBy (ctrAscTime e) n).cell c = s.cell c := State.Leaves.countBy.cell c
  unfold State.countAsc
  split
  · dsimp only
    rw [State.cell_modCell]
    split
    · next h => rw [← h, hcount]
    · rw [hcount]
  · rfl
theorem State.autoArm_held (hold : (s.drv d).autoHold = true ∨ (d ≠ .brk ∧ d ≠ .aux)) : s.autoArm d = s := by
  rcases hold with hold | ⟨hbrk, haux⟩
  · exact if_neg fun ⟨_, _, _, hfree, _⟩ => hfree hold
  · cases d with
    | brk => exact absurd rfl hbrk
    | aux => exact absurd rfl haux
    | _ => simp [State.autoArm]

/-- A drive that enters STANDBY has its cells off before BRK and AUX may arm themselves. -/
theorem State.goto_standby_off (trig : Nat) (h : s.ds d ≠ .standby) : ∃ u : State, s.goto d .standby trig = u.autoArm d ∧
    ∀ c ∈ d.cells, (u.cell c).supLo = false := by
  unfold State.goto
  rw [if_neg h]
  refine ⟨_, if_pos rfl, fun c hc => ?_⟩
  have hseq (u : State) : ((u.when d.isTraction fun s => s.seqResume 0).cell c) = u.cell c :=
    State.when_same (fun u => u.cell c) _ (fun _ => State.Leaves.seqResume.cell c) u
  have hoff (u : State) : ((u.each d.cells fun c s => s.offCell c).cell c).supLo = false := by
    refine State.each_reaches (P := fun c u => (u.cell c).supLo = false) (fun c u => ?_) (fun c e u hu => ?_) d.cells u hc
    · rw [State.offCell, State.cell_modCell_same]
    · rw [State.offCell, State.cell_modCell]
      split
      · rfl
      · rw [State.Leaves.stopLegs.cell c, State.supLo_countAsc]
        exact hu
  rw [hseq]
  exact hoff _

/-- With the owner's hold, or as a drive without AUTO_RUN, it does not arm again by itself. -/
theorem State.goto_standby_supplies (trig : Nat) (h : s.ds d ≠ .standby) (hold : (s.drv d).autoHold = true ∨ (d ≠ .brk ∧ d ≠ .aux))
    {c : Cell} (hc : c ∈ d.cells) : ((s.goto d .standby trig).cell c).supLo = false := by
  obtain ⟨u, hu, hoff⟩ := s.goto_standby_off d trig h
  have hcore : ((u.autoArm d).drv d).core = (u.drv d).core := DriveCore.autoArm rfl
  rw [← hu, s.core_goto] at hcore
  have hkept : (u.drv d).autoHold = (s.drv d).autoHold := (congrArg DriveSt.autoHold hcore).symm
  rw [hu, u.autoArm_held d (hkept ▸ hold)]
  exact hoff c hc

/-! ### RUN and STOP -/

theorem State.ds_runTraction (i : Fin 2) : (s.runTraction i).ds (sideDrive i) = .active := by
  have hgoto := s.ds_goto (sideDrive i) .active 2
  unfold State.runTraction
  dsimp only
  generalize s.goto (sideDrive i) .active 2 = u at hgoto ⊢
  have hramp : (u.setQ (Od.TR_TQ_RAMP i) 0).ds (sideDrive i) = .active := hgoto
  exact (DsStays.startCheck : DsStays (sideDrive i) .active _ _) ((DsStays.modDrv : DsStays (sideDrive i) .active _ _) hramp)
theorem State.ds_runGbx (trig : Nat) : (s.runGbx trig).ds .gbx = .active := by
  have hactuators (u : State) : (u.each ([0, 1, 2, 3] : List (Fin 4)) fun a s => s.engageActuator a).ds .gbx = u.ds .gbx :=
    State.each_same (fun u => u.ds .gbx) _ (fun _ _ => State.Leaves.engageActuator.ds .gbx) u
  unfold State.runGbx
  dsimp only
  rw [hactuators, State.ds_goto]
theorem State.ds_runBrk (trig : Nat) : (s.runBrk trig).ds .brk = .active := State.ds_goto _ _ _ _
theorem State.ds_runAux (trig : Nat) : (s.runAux trig).ds .aux = .active := by
  have hgoto := s.ds_goto .aux .active trig
  unfold State.runAux
  generalize s.goto .aux .active trig = u at hgoto ⊢
  exact (DsStays.auxSource : DsStays .aux .active _ _) hgoto
theorem State.ds_runCharge (trig : Nat) : (s.runCharge trig).ds .chg = .active := by
  have hgoto := s.ds_goto .chg .active trig
  unfold State.runCharge
  generalize s.goto .chg .active trig = u at hgoto ⊢
  dsimp only
  split
  · exact hgoto
  · exact (State.Leaves.hvCheck.ds .chg).trans hgoto
theorem State.ds_runExport (trig : Nat) : (s.runExport trig).ds .chg = .active := by
  have hgoto := s.ds_goto .chg .active trig
  have hswitch (u : State) (l : List LinkCmd) : (u.sendTogether l).ds .chg = u.ds .chg := State.Leaves.sendTogether.ds .chg
  have hrest (u : State) (n m : Nat) (g : ChgSt → ChgSt) : (((((((((u.setChg 8 true).setChg 7 true).setChg 6 true).count
      ctrRelayMain).setBit Od.EXP_EXP_STATUS 2 true).setBit Od.EXP_EXP_STATUS 3 true).chgEvent n m)).modChg g).ds .chg = u.ds .chg :=
    (State.Leaves.count.ds .chg : (((u.setChg 8 true).setChg 7 true).setChg 6 true |>.count ctrRelayMain).ds .chg = _)
  unfold State.runExport
  generalize s.goto .chg .active trig = u at hgoto ⊢
  dsimp only
  rw [hrest, hswitch, hgoto]

theorem State.ds_runDrive {t : State} (h : s.runDrive d = some t) : t.ds d = .active := by
  unfold State.runDrive at h
  cases d with
  | tra => exact Option.some.inj h ▸ s.ds_runTraction 0
  | trb => exact Option.some.inj h ▸ s.ds_runTraction 1
  | gbx => exact Option.some.inj h ▸ s.ds_runGbx 2
  | brk => exact Option.some.inj h ▸ s.ds_runBrk 2
  | aux => exact Option.some.inj h ▸ s.ds_runAux 2
  | chg =>
    simp only [State.runChg, Option.ite_none_left_eq_some] at h
    obtain ⟨-, h⟩ := h
    split at h
    · exact Option.some.inj (Option.ite_none_right_eq_some.mp h).2 ▸ s.ds_runExport 2
    · exact Option.some.inj h ▸ s.ds_runCharge 2

theorem State.ds_stopTraction (h : s.ds d = .stopping) : (s.stopTraction d).ds d = .standby ∨ (s.stopTraction d).ds d = .stopping := by
  have hclear : (s.clearTorque d).ds d = .stopping := (State.Leaves.clearTorque.ds d).trans h
  have hrefs (u : State) (i : Fin 2) : (u.zeroRefs i).ds d = u.ds d := State.Leaves.zeroRefs.ds d
  unfold State.stopTraction
  dsimp only
  split
  · split
    · exact .inr hclear
    · right
      rw [State.ds_lastEvent]
      exact (DsStays.modDrv : DsStays d .stopping _ _) ((hrefs _ _).trans hclear)
  · unfold State.stoppedIfCoasting
    split
    · exact .inl (State.ds_goto _ _ _ _)
    · exact .inr hclear
theorem State.ds_stopActive (trig : Nat) : (s.stopActive d trig).ds d = .standby ∨ (s.stopActive d trig).ds d = .stopping := by
  unfold State.stopActive
  split
  · next h =>
    have hstop (u : State) : u.rampDown.ds d = u.ds d := State.Leaves.rampDown.ds d
    have hstate (u : State) (n : Nat) : (u.setHvState n).ds d = u.ds d := State.Leaves.setHvState.ds d
    have hgoto := s.ds_goto d .stopping trig
    right
    subst h
    unfold State.stopCharge
    dsimp only
    split
    · exact (hstop _).trans hgoto
    · exact (hstate _ _).trans ((hstop _).trans hgoto)
  · unfold State.stopDrive
    dsimp only
    split
    · exact State.ds_stopTraction _ d (s.ds_goto d .stopping trig)
    · exact .inl (State.ds_goto _ _ _ _)
end

theorem State.ds_ackDrive (s : State) (d : Drive) : (s.ackDrive d).ds d = .standby ∨ (s.ackDrive d).ds d = .unavailable := by
  have hlast (u : State) (n : Nat) : (u.goto d (if n = 0 then .standby else .unavailable) 5).ds d = .standby ∨
      (u.goto d (if n = 0 then .standby else .unavailable) 5).ds d = .unavailable := by
    rw [State.ds_goto]
    split
    · exact .inl rfl
    · exact .inr rfl
  exact hlast _ _

/-! ### The commands of the owner -/

section
variable {s : State} {who : Requester} {d : Drive} (howns : s.owns who d = true) (hss1 : (s.safe d).ss1 = none)
include howns hss1

theorem State.controlEffect_owner {v : Nat} (hv : (v == 0 || decide (5 < v)) = false) : State.controlEffect who d v s =
    match (generalizing := false) v with
    | 1 => s.arm d
    | 2 => s.run d
    | 3 => s.stop d
    | 4 => s.disarm d
    | _ => s.ack d := by
  unfold State.controlEffect refuseIf
  rw [hv, if_neg Bool.false_ne_true, howns, hss1]
  rfl
end

theorem State.ds_holdAuto (s : State) (d : Drive) (on : Bool) : (s.holdAuto d on).ds d = s.ds d := by
  unfold State.holdAuto
  split
  · exact (DsStays.modDrv : DsStays d (s.ds d) s _) rfl
  · rfl

theorem State.ds_armHold (s : State) (d : Drive) {k : Nat} (hk : armHoldKey d = some k) (harmed : s.ds d = .armed)
    (hdue : (s.drv d).armedTb + ms (s.nat k) ≤ s.tb) : (s.armHold d).ds d = .standby := by
  unfold State.armHold
  rw [hk]
  dsimp only
  rw [if_pos ⟨harmed, hdue⟩, State.ds_lastEvent]
  exact s.ds_goto d .standby 0xFF

section
variable {s : State} {who : Requester} {d : Drive} (howns : s.owns who d = true) (hss1 : (s.safe d).ss1 = none)
include howns hss1

theorem State.controlEffect_arm (hallow : s.armAllowed d = true) (hdata : s.armDataFault d = []) :
    State.controlEffect who d 1 s = .ok (s.startArming d .arm) := by
  rw [State.controlEffect_owner howns hss1 rfl]
  unfold State.arm
  rw [hallow, hdata]
  rfl
theorem State.controlEffect_run {t : State} (harmed : s.ds d = .armed) (ht : (s.holdAuto d false).runDrive d = some t) :
    State.controlEffect who d 2 s = .ok t := by
  rw [State.controlEffect_owner howns hss1 rfl]
  unfold State.run
  rw [harmed]
  exact congrArg (fun o : Option State => match o with | some t => (.ok t : Except Nat State) | none => .error 0x08000022) ht
theorem State.controlEffect_stop (hactive : s.ds d = .active) :
    State.controlEffect who d 3 s = .ok ((s.holdAuto d true).stopActive d 3) := by
  rw [State.controlEffect_owner howns hss1 rfl]
  unfold State.stop
  rw [hactive]
  rfl
theorem State.controlEffect_disarm (harmed : s.ds d = .armed) :
    State.controlEffect who d 4 s = .ok ((s.holdAuto d true).goto d .standby 4) := by
  rw [State.controlEffect_owner howns hss1 rfl]
  unfold State.disarm
  rw [harmed]
  rfl
theorem State.controlEffect_ack (hfault : s.ds d = .fault) (hlock : s.lockedOut d = false) (hcause : s.causePresent d = false) :
    State.controlEffect who d 5 s = .ok (s.ackDrive d) := by
  rw [State.controlEffect_owner howns hss1 rfl]
  unfold State.ack
  rw [hfault, hlock, hcause]
  rfl
end

/-- The cells of a drive that its owner disarms are off, and stay so. -/
theorem State.supplies_disarm (s : State) {d : Drive} (harmed : s.ds d = .armed) {c : Cell} (hc : c ∈ d.cells) :
    (((s.holdAuto d true).goto d .standby 4).cell c).supLo = false := by
  refine State.goto_standby_supplies _ d 4 ?_ ?_ hc
  · rw [State.ds_holdAuto, harmed]
    decide
  · unfold State.holdAuto
    by_cases h : d = .brk ∨ d = .aux
    · left
      rw [if_pos h, State.drv_modDrv, if_pos rfl]
    · exact .inr (not_or.mp h)

section
variable {s : State} {dt : Nat} {who : Requester} {d : Drive}

theorem State.writeControl_plain {v : Nat} (hv : (v == 1) = false) : (s.elapse dt).writeControl who d v =
    (s.elapse dt).request who (controlKey d) .operator (State.controlEffect who d v) := by
  unfold State.writeControl
  rw [hv]
  rfl
/-- An accepted command of CONTROL whose effect is `t`. -/
theorem State.control_completes {t : State} {v : Nat} (hv : (v == 1) = false) (ha : s.accepts dt who (controlKey d) .operator = true)
    (he : State.controlEffect who d v (s.begun dt who) = .ok t) (hp : t.pending = (s.begun dt who).pending) :
    reply s ((s.elapse dt).writeControl who d v) = .next ((t.noteWrite who (controlKey d)).emit (.response who 0 [])) :=
  (congrArg (reply s) (State.writeControl_plain hv)).trans (State.accepted_completes ha he (hp.trans (s.begun_pending dt who)))
theorem State.arm_completes (ha : s.accepts dt who (controlKey d) .operator = true) (hdata : s.armDataFault d = [])
    (he : State.controlEffect who d 1 (s.begun dt who) = .ok ((s.begun dt who).startArming d .arm)) :
    reply s ((s.elapse dt).writeControl who d 1) =
      .next ((((s.begun dt who).startArming d .arm).noteWrite who (controlKey d)).emit (.response who 0 [])) := by
  have hnone : (s.elapse dt).armDataFault d = [] := hdata
  have hwrite : (s.elapse dt).writeControl who d 1 = (s.elapse dt).request who (controlKey d) .operator
      (State.controlEffect who d 1) := by
    unfold State.writeControl State.armRefusedByData
    rw [hnone]
    simp [State.when]
  exact (congrArg (reply s) hwrite).trans (State.accepted_completes ha he
    ((State.Leaves.startArming.part .pending).trans (s.begun_pending dt who)))
/-- A write of CONTROL of another length is aborted. -/
theorem State.control_aborts {size : Nat} (hdiag : s.diagOnly = false) (hup : s.dictUp = true) (hwho : who ≠ .canA) (hsize : size ≠ 1) :
    reply s ((s.elapse dt).writeControlSized who d size 2) = .next ((s.begun dt who).emit (.response who 0x06070010 [])) := by
  have hwrite : (s.elapse dt).writeControlSized who d size 2 = (s.elapse dt).request who (controlKey d) .operator
    fun _ => .error 0x06070010 := if_neg hsize
  have hdiag' : (s.begun dt who).diagOnly = false := by
    rw [State.diagOnly, s.begun_bringup]
    exact hdiag
  have hwall : (s.begun dt who).walled (controlKey d) = false := by cases d <;> rfl
  have herror := State.request_error (s.elapse dt) who (controlKey d) .operator (fun _ => .error 0x06070010) 0x06070010 hup hdiag'
    (Nat.zero_le _) (fun h => absurd h hwho) hwall rfl
  exact (congrArg (reply s) (hwrite.trans (herror.trans (if_neg hwho)))).trans (reply_of_pending (s.begun_pending dt who))
end

/-- Settles O14: each command by what it does to the drive's state (Table 5.10). -/
theorem driveControlCommandsComplete : Obligations.DriveControlCommandsComplete := by
  unfold Obligations.DriveControlCommandsComplete
  refine ⟨?_, ?_, ?_, ?_, ?_, ?_, ?_⟩
  · intro s dt who d ha howns hss1 hallow hdata
    have he := State.controlEffect_arm howns (by rwa [s.begun_safe]) (by rwa [s.begun_armAllowed])
      (by rwa [State.armDataFault_counted (s.begun_counted dt who)])
    exact ⟨_, State.arm_completes ha hdata he, State.drv_startArming _ d .arm,
      fun hd c hc => State.cell_startArming _ d .arm hd hc, State.answered_emit _ _ _⟩
  · intro s dt who d ha howns hss1 harmed hchg
    have hsome : ∃ t, ((s.begun dt who).holdAuto d false).runDrive d = some t := by
      cases d with
      | chg => exact Option.isSome_iff_exists.mp (hchg rfl)
      | _ => exact ⟨_, rfl⟩
    obtain ⟨t, ht⟩ := hsome
    have he := State.controlEffect_run howns (by rwa [s.begun_safe]) (by rwa [s.begun_ds]) ht
    have hkept := ((SomeLeaves.runDrive t ht).part .pending).trans (State.Leaves.holdAuto.part .pending)
    have hsized : (s.elapse dt).writeControlSized who d 1 2 = (s.elapse dt).writeControl who d 2 := if_pos rfl
    have hds := State.ds_runDrive _ d ht
    exact ⟨_, (congrArg (reply s) hsized).trans (State.control_completes rfl ha he hkept), hds,
      State.answered_emit _ _ _⟩
  · intro s dt who d size ⟨hdiag, hup, hwho⟩ hsize
    have hrole : ¬ (s.roleOf who).num < Role.operator.num := Nat.not_lt_zero _
    refine ⟨_, State.control_aborts hdiag hup hwho hsize, ?_, s.begun_ds dt who d⟩
    rw [if_neg hrole]
    exact State.refusedWith_begun s dt who _
  · intro s dt who d ha howns hss1 hactive
    have he := State.controlEffect_stop howns (by rwa [s.begun_safe]) (by rwa [s.begun_ds])
    have hkept : (((s.begun dt who).holdAuto d true).stopActive d 3).pending = (s.begun dt who).pending :=
      (State.Leaves.stopActive.part .pending).trans (State.Leaves.holdAuto.part .pending)
    have hds := State.ds_stopActive ((s.begun dt who).holdAuto d true) d 3
    generalize ((s.begun dt who).holdAuto d true).stopActive d 3 = t at he hkept hds
    exact ⟨_, State.control_completes rfl ha he hkept, hds, State.answered_emit _ _ _⟩
  · intro s dt who d ha howns hss1 harmed
    have harmed' : (s.begun dt who).ds d = .armed := (s.begun_ds dt who d).trans harmed
    have he := State.controlEffect_disarm howns (by rwa [s.begun_safe]) harmed'
    have hkept : (((s.begun dt who).holdAuto d true).goto d .standby 4).pending = (s.begun dt who).pending :=
      (State.Leaves.goto.part .pending).trans (State.Leaves.holdAuto.part .pending)
    have hds := ((s.begun dt who).holdAuto d true).ds_goto d .standby 4
    have hoff := fun c (hc : c ∈ d.cells) => State.supplies_disarm (s.begun dt who) harmed' hc
    generalize ((s.begun dt who).holdAuto d true).goto d .standby 4 = t at he hkept hds hoff
    exact ⟨_, State.control_completes rfl ha he hkept, hds, hoff, State.answered_emit _ _ _⟩
  · intro s dt who d ha howns hss1 hfault hlock hcause
    have he := State.controlEffect_ack howns (by rwa [s.begun_safe]) (by rwa [s.begun_ds])
      (by rwa [State.lockedOut_counted (s.begun_counted dt who)]) (by rwa [s.begun_causePresent])
    exact ⟨_, State.control_completes rfl ha he (State.Leaves.ackDrive.part .pending), (s.begun dt who).ds_ackDrive d,
      State.answered_emit _ _ _⟩
  · intro s dt d k hk harmed hdue _
    exact ⟨_, State.Leaves.armHold.completes, (s.elapse dt).ds_armHold d hk harmed hdue⟩

end Sys2Proof.Machine
end

section
/-! PROOFS. Actuators, solenoid channels and gear state recovery (O22). -/
namespace Sys2Proof.Machine
open Sys2Proof
set_option Elab.async false

theorem State.Keeps.unless {P : State → Prop} {s t : State} {c : Bool} {f : State → State} (hc : c = false) (h : State.Keeps P s t) :
    State.Keeps P s (t.when c f) := by
  rw [hc]
  exact h

/-! ### A cell that does not switch, and does not begin to

An actuator engages only in a cell that is precharged. -/

/-- The cell does not switch; with b it is not precharged either. -/
def CellSt.still (b : Bool) (x : CellSt) : Prop := x.mode ≠ .switching ∧ (b = true → x.precharged = false)

/-- The cell stays so. -/
def StillStays (z : Cell) (b : Bool) (s t : State) : Prop := State.Keeps (fun u => (u.cell z).still b) s t
theorem stillPart {z : Cell} {b : Bool} : State.Reads .cells fun u => (u.cell z).still b := fun s t h hs => by
  have heq : t.cell z = s.cell z := congrArg (fun v => v.get z) h
  show (t.cell z).still b
  rw [heq]
  exact hs

section
variable {z : Cell} {b : Bool}

theorem StillStays.modCell {s : State} {c : Cell} {f : CellSt → CellSt} (hf : ∀ x : CellSt, x.still b → (f x).still b) :
    StillStays z b s (s.modCell c f) := by
  intro hs
  show ((s.modCell c f).cell z).still b
  rw [State.cell_modCell]
  split
  · next h => exact hf _ (h ▸ hs)
  · exact hs
theorem StillStays.countAsc {s : State} {c : Cell} : StillStays z b s (s.countAsc c) := by
  unfold State.countAsc
  exact .ite (.step (StillStays.modCell fun _ h => h) (.past stillPart .countBy .refl)) .refl
theorem StillStays.coastCell {s : State} {c : Cell} : StillStays z b s (s.coastCell c) := by
  have hmode (x : CellSt) (h : x.still b) : ({ x with mode := if x.supLo then .coast else .off } : CellSt).still b :=
    ⟨by dsimp only; split <;> decide, h.2⟩
  unfold State.coastCell
  exact .ite .refl (.step (StillStays.modCell hmode) (.past stillPart .stopLegs (.step StillStays.countAsc .refl)))
theorem StillStays.enterAsc {s : State} {c : Cell} : StillStays z b s (s.enterAsc c) := by
  have hmode (x : CellSt) (h : x.still b) : ({ x with mode := .asc, ascTb := s.tb } : CellSt).still b :=
    ⟨fun hm => (by cases hm), h.2⟩
  unfold State.enterAsc
  exact .ite .refl (.past stillPart .event (.past stillPart .count (.past stillPart .setBit (.past stillPart .modAx (.step
    (StillStays.modCell hmode) (.past stillPart .setLegs .refl))))))
theorem StillStays.protectDrive {s : State} {d : Drive} : StillStays z b s (s.protectDrive d) := by
  have hcell (c : Cell) (u : State) : StillStays z b u (u.protectCell c) := by
    unfold State.protectCell
    exact .ite .refl (.ite (.step StillStays.enterAsc .refl) (.step StillStays.coastCell .refl))
  unfold State.protectDrive
  exact .each (fun c _ u => hcell c u) .refl
theorem StillStays.coastActuator {s : State} {a : Fin 4} : StillStays z b s (s.coastActuator a) := by
  unfold State.coastActuator
  exact .ite (.step StillStays.coastCell (.past stillPart .with_gbx .refl)) (.past stillPart .with_gbx .refl)
end

section
variable {z : Cell}

theorem StillStays.engageActuator {s : State} {a : Fin 4} : StillStays z true s (s.engageActuator a) := by
  by_cases hz : actCell a = z
  · intro hs
    show ((s.engageActuator a).cell z).still true
    have hidle : s.engageActuator a = s := if_pos (.inr (by rw [hz, hs.2 rfl]; decide))
    rw [hidle]
    exact hs
  · have hother {u : State} {f : CellSt → CellSt} : StillStays z true u (u.modCell (actCell a) f) := by
      intro hs
      show ((u.modCell (actCell a) f).cell z).still true
      rw [State.cell_modCell, if_neg fun h => hz h.symm]
      exact hs
    unfold State.engageActuator
    exact .ite .refl (.past stillPart .modAx (.past stillPart .setBit (.past stillPart .setField (.past stillPart .setBit
      (.past stillPart .setQ (.past stillPart .setQ (.past stillPart .setQ (.past stillPart .setQ (.past stillPart .setQ
      (.step hother .refl))))))))))
theorem StillStays.parkUncommanded {s : State} {t : Fin 2} : StillStays z true s (s.parkUncommanded t) := by
  unfold State.parkUncommanded
  exact .ite (.ite (.step StillStays.engageActuator (.past stillPart .setRef (.past stillPart .lastEvent (.past stillPart
    .event (.past stillPart .setSolenoidI (.past stillPart .startMove (.past stillPart .count (.past stillPart .setPark
    .refl)))))))) (.step StillStays.coastActuator (.past stillPart .lastEvent (.past stillPart .event (.past stillPart
    .setSolenoidI (.past stillPart .startMove (.past stillPart .count (.past stillPart .setPark .refl)))))))) .refl
theorem StillStays.solenoidsOff {s : State} : StillStays z true s s.solenoidsOff := by
  have hone (i : Nat) (u : State) : StillStays z true u (u.solenoidOff i) := by
    unfold State.solenoidOff
    dsimp only
    split
    · exact .step StillStays.parkUncommanded (.past stillPart .setSolenoidDuty .refl)
    · exact .past stillPart .setSolenoidDuty .refl
  unfold State.solenoidsOff
  exact .each (fun i _ u => hone i u) .refl
theorem StillStays.leaveGearbox {s : State} : StillStays z true s s.leaveGearbox := by
  unfold State.leaveGearbox
  exact .each (fun _ _ _ => .past stillPart .forkLost .refl) (.step StillStays.solenoidsOff (.each (fun _ _ _ =>
    .step StillStays.coastActuator .refl) .refl))
end

/-- The cells of GBX that do not switch do not when it goes to FAULT: the first thing is that they lose their precharge. -/
theorem State.still_goto_gbx (s : State) {z : Cell} (hz : z ∈ Drive.cells .gbx) (hs : (s.cell z).mode ≠ .switching) :
    ((s.goto .gbx .fault 0xFF).cell z).mode ≠ .switching := by
  by_cases h : s.ds .gbx = .fault
  · rwa [s.goto_of_eq _ _ _ h]
  · have hleave {u : State} {b c : Bool} (hb : c = true → b = true) : StillStays z b u (u.when c fun s => s.leaveActive .gbx) := by
      cases c with
      | false => exact .refl
      | true =>
        rw [hb rfl]
        exact StillStays.leaveGearbox
    have hfirst (u : State) (c : Bool) (hu : (u.cell z).mode ≠ .switching) : ((u.when c fun s => s.each (Drive.cells .gbx) fun c s =>
        s.modCell c fun x => { x with precharged := false }).cell z).still c := by
      have hkeep (v : State) (hv : (v.cell z).mode ≠ .switching) : ((v.each (Drive.cells .gbx) fun c s =>
          s.modCell c fun x => { x with precharged := false }).cell z).mode ≠ .switching :=
        (State.each_keeps (P := fun u => (u.cell z).still false) _ (f := fun c s => s.modCell c fun x => { x with precharged := false })
          (fun c _ u => StillStays.modCell fun _ h => ⟨h.1, fun hb => (by cases hb)⟩) v ⟨hv, fun hb => (by cases hb)⟩).1
      cases c with
      | false => exact ⟨hu, fun h => by cases h⟩
      | true =>
        refine ⟨hkeep u hu, fun _ => ?_⟩
        refine State.each_reaches (P := fun c u => (u.cell c).precharged = false) (fun c u => ?_) (fun c e u hu => ?_) _ u hz
        · rw [State.cell_modCell_same]
        · rw [State.cell_modCell]
          split
          · rfl
          · exact hu
    have hident {b : Bool} (u : State) : StillStays z b u (u.abortIdent .gbx) := by
      rw [show u.abortIdent .gbx = u from if_neg (by decide)]
      exact .refl
    have hrecovery {b : Bool} (u : State) : StillStays z b u (u.haltSequences .gbx) :=
      (.past stillPart .haltRecovery .refl : StillStays z b u u.haltRecovery)
    unfold State.goto
    rw [if_neg h]
    dsimp only
    rw [if_neg (by decide)]
    generalize hs0 : s.modDrv .gbx _ = s0
    have h0 : (s0.cell z).mode ≠ .switching := by
      rw [← hs0]
      exact hs
    have hbase := hfirst s0 ((s.ds .gbx = .active || s.ds .gbx = .armed) && DriveState.fault != .active && DriveState.fault != .armed) h0
    generalize s0.when ((s.ds .gbx = .active || s.ds .gbx = .armed) && DriveState.fault != .active && DriveState.fault != .armed) _ = u0
      at hbase ⊢
    refine And.left ((fun h : StillStays z ((s.ds .gbx = .active || s.ds .gbx = .armed) && DriveState.fault != .active &&
      DriveState.fault != .armed) u0 _ => h hbase) ?_)
    exact .unless rfl (.unless rfl (.unless rfl (.unless rfl (.when (fun _ => .past stillPart .clearTorque .refl) (.past stillPart
      .lastEvent (.past stillPart .event (.when (fun u => hident u) (.when (fun _ => .past stillPart .stopUnits .refl) (.when
      (fun u => hrecovery u) (.unless rfl (.step (hleave fun h => by simp_all) .refl)))))))))))

/-! ### Solenoid channels (R279 to R282) -/

section
variable (s : State)

/-- The tracking of a channel's current changes no bit of its status but the deviation's. -/
theorem State.solBit_solTrack (i c : Nat) {b : Nat} (hb : b ≠ 5) : (s.solTrack i).bit (Od.SOL_SOL_STATUS c) b =
    s.bit (Od.SOL_SOL_STATUS c) b := by
  have hset (u : State) (x : Bool) : (u.when x fun u => u.setBit (Od.SOL_SOL_STATUS i) 5 false).bit (Od.SOL_SOL_STATUS c) b =
      u.bit (Od.SOL_SOL_STATUS c) b := State.when_same (fun u => u.bit (Od.SOL_SOL_STATUS c) b) x (fun u => by
    by_cases hc : c = i
    · subst hc
      exact State.bit_setBit_other _ _ _ _ _ hb
    · exact State.bit_of_get (State.get_setBit_ne _ _ _ _ _ (by grind)) b) u
  unfold State.solTrack
  split
  · exact hset _ _
  · rfl
theorem State.solBit_setSolenoidI (i c : Nat) (q : Rat) {b : Nat} (hb : b ≠ 5) :
    (s.setSolenoidI i q).bit (Od.SOL_SOL_STATUS c) b = s.bit (Od.SOL_SOL_STATUS c) b := by
  unfold State.setSolenoidI
  split
  · rw [State.solBit_solTrack _ _ _ hb]
    refine (State.when_same (fun u => u.bit (Od.SOL_SOL_STATUS c) b) _ (fun u => ?_) _).trans ?_
    · exact State.bit_of_get (State.get_set_ne _ _ _ _ (by grind)) b
    · exact State.bit_of_get (State.get_set_ne _ _ _ _ (by grind)) b
  · rfl
theorem State.solBit_setSolenoidDuty (i c : Nat) (q : Rat) {b : Nat} (hb : b ≠ 5) :
    (s.setSolenoidDuty i q).bit (Od.SOL_SOL_STATUS c) b = s.bit (Od.SOL_SOL_STATUS c) b := by
  unfold State.setSolenoidDuty
  split
  · refine (State.when_same (fun u => u.bit (Od.SOL_SOL_STATUS c) b) _ (fun u => ?_) _).trans ?_
    · exact State.bit_of_get (State.Leaves.count.get (by grind)) b
    · rw [State.solBit_solTrack _ _ _ hb]
      exact State.bit_of_get (State.get_set_ne _ _ _ _ (by grind)) b
  · rfl
theorem State.solBit_parkUncommanded (t : Fin 2) {c b : Nat} (hc : c < 8) (hb : b ≠ 5) :
    (s.parkUncommanded t).bit (Od.SOL_SOL_STATUS c) b = s.bit (Od.SOL_SOL_STATUS c) b := by
  have hmove (u : State) (a : Fin 4) : ((u.setPark t 2).count (ctrUncommanded t) |>.startMove a).bit (Od.SOL_SOL_STATUS c) b =
      u.bit (Od.SOL_SOL_STATUS c) b :=
    State.bit_of_get ((State.Leaves.startMove.get trivial).trans ((State.Leaves.count.get (by grind)).trans
      (State.Leaves.setPark.get (by grind)))) b
  have hengage (u : State) (a : Fin 4) (q : Rat) : ((u.setRef a q).engageActuator a).bit (Od.SOL_SOL_STATUS c) b =
      u.bit (Od.SOL_SOL_STATUS c) b :=
    State.bit_of_get ((State.Leaves.engageActuator.get (by grind)).trans (State.Leaves.setRef.get (by grind))) b
  have hcoast (u : State) (a : Fin 4) : (u.coastActuator a).bit (Od.SOL_SOL_STATUS c) b = u.bit (Od.SOL_SOL_STATUS c) b :=
    State.bit_of_get (State.Leaves.coastActuator.get (by grind)) b
  have hevent (u : State) (x y z : Nat) : ((u.event x y z).lastEvent .gbx x).bit (Od.SOL_SOL_STATUS c) b =
      u.bit (Od.SOL_SOL_STATUS c) b := rfl
  unfold State.parkUncommanded
  split
  · dsimp only
    split
    · rw [hengage, hevent, State.solBit_setSolenoidI _ _ _ _ hb, hmove]
    · rw [hcoast, hevent, State.solBit_setSolenoidI _ _ _ _ hb, hmove]
  · rfl
theorem State.solBit_solenoidOff (i : Nat) {c b : Nat} (hc : c < 8) (hb : b ≠ 5) :
    (s.solenoidOff i).bit (Od.SOL_SOL_STATUS c) b = s.bit (Od.SOL_SOL_STATUS c) b := by
  unfold State.solenoidOff
  dsimp only
  split
  · rw [State.solBit_parkUncommanded _ _ hc hb, State.solBit_setSolenoidDuty _ _ _ _ hb]
  · exact State.solBit_setSolenoidDuty _ _ _ _ hb

/-- A channel that is turned off has no duty, and keeps none while others are. -/
theorem State.duty_setSolenoidDuty_zero {i : Nat} (hi : i < 8) : (s.setSolenoidDuty i 0).num (Od.SOL_DUTY i) = 0 := by
  unfold State.setSolenoidDuty
  rw [dif_pos hi]
  dsimp only
  have hoff (u : State) (x : Bool) : ((u.setQ (Od.SOL_DUTY i) 0).solTrack i |>.when (x && (0 : Rat) != 0) fun s =>
      s.count (ctrEnergise i)).num (Od.SOL_DUTY i) = 0 := by
    rw [bne_self_eq_false, Bool.and_false]
    exact (State.num_of_get (State.Leaves.solTrack.get (by grind))).trans ((State.num_setQ _ _ _ _).trans (if_pos rfl))
  rw [ite_self]
  exact hoff _ _
theorem State.duty_setSolenoidDuty_ne {i c : Nat} (q : Rat) (h : c ≠ i) :
    (s.setSolenoidDuty i q).num (Od.SOL_DUTY c) = s.num (Od.SOL_DUTY c) :=
  State.num_of_get (State.Leaves.setSolenoidDuty.get (by grind))
theorem State.duty_parkUncommanded (t : Fin 2) (c : Nat) :
    (s.parkUncommanded t).num (Od.SOL_DUTY c) = s.num (Od.SOL_DUTY c) :=
  State.num_of_get (State.Leaves.parkUncommanded.get (by grind (splits := 40)))
theorem State.duty_solenoidOff {i : Nat} (hi : i < 8) : (s.solenoidOff i).num (Od.SOL_DUTY i) = 0 := by
  unfold State.solenoidOff
  dsimp only
  split
  · rw [State.duty_parkUncommanded, s.duty_setSolenoidDuty_zero hi]
  · exact s.duty_setSolenoidDuty_zero hi
theorem State.duty_solenoidOff_ne {i c : Nat} (h : c ≠ i) : (s.solenoidOff i).num (Od.SOL_DUTY c) =
    s.num (Od.SOL_DUTY c) := by
  unfold State.solenoidOff
  dsimp only
  split
  · rw [State.duty_parkUncommanded, s.duty_setSolenoidDuty_ne _ h]
  · exact s.duty_setSolenoidDuty_ne _ h
theorem State.duty_solenoidsOff {c : Nat} (hc : c < 8) : s.solenoidsOff.num (Od.SOL_DUTY c) = 0 := by
  unfold State.solenoidsOff
  refine State.each_reaches (P := fun c u => c < 8 → u.num (Od.SOL_DUTY c) = 0) (fun c u hc => u.duty_solenoidOff hc)
    (fun c e u hu hc => ?_) (List.range 8) s (List.mem_range.mpr hc) hc
  by_cases h : c = e
  · subst h
    exact u.duty_solenoidOff hc
  · rw [u.duty_solenoidOff_ne h]
    exact hu hc
end

/-- A channel whose fault latches: the bit is set and the channel off. -/
theorem State.solFault_shows (s : State) (c : Fin 8) {b : Nat} (hb : b ≠ 5) :
    (s.solFault c b).bit (Od.SOL_SOL_STATUS c) b = true ∧ (s.solFault c b).num (Od.SOL_DUTY c) = 0 := by
  have hevent (u : State) (x y z : Nat) : (u.gbxEvent x y z).get = u.get := rfl
  have hset : ((s.setBit (Od.SOL_SOL_STATUS c) b true).count (ctrSolFault c)).bit (Od.SOL_SOL_STATUS c) b = true :=
    (State.bit_of_get (State.Leaves.count.get (by grind)) b).trans (State.bit_setBit_same _ _ _ _)
  unfold State.solFault
  dsimp only
  constructor
  · rw [State.bit_of_get (congrFun (hevent _ _ _ _) _), State.solBit_solenoidOff _ _ c.isLt hb, hset]
  · rw [State.num_of_get (congrFun (hevent _ _ _ _) _)]
    exact State.duty_solenoidOff _ c.isLt

theorem State.iSet_setSolenoidI (s : State) (c : Fin 8) (q : Rat) : (s.setSolenoidI c q).num (Od.SOL_I_SET c) = q := by
  unfold State.setSolenoidI
  rw [if_pos c.isLt]
  refine (State.num_of_get (State.Leaves.solTrack.get (by grind))).trans ?_
  refine (State.when_same (fun u => u.num (Od.SOL_I_SET c)) _ (fun u => ?_) _).trans ?_
  · exact State.num_of_get (State.get_set_ne _ _ _ _ (by grind))
  · exact (State.num_setQ _ _ _ _).trans (if_pos rfl)

/-! ### Actuators (R273) -/

theorem State.raise_actuatorFault (s : State) (n : Axis) : s.raise 0x0808 2 (n.val - 4) [.gbx] =
    (s.event 0x0808 2 (n.val - 4)).faultDrive .gbx 0x0808 := by
  unfold State.raise
  rw [show eventSeverity 0x0808 = .fault by decide]
  rfl

theorem State.still_faultDrive (s : State) (code : Nat) {z : Cell} (hz : z ∈ Drive.cells .gbx) (hs : (s.cell z).mode ≠ .switching) :
    ((s.faultDrive .gbx code).cell z).mode ≠ .switching := by
  have hprotect : ((s.protectDrive .gbx).cell z).mode ≠ .switching :=
    ((StillStays.protectDrive : StillStays z false s _) ⟨hs, fun h => (by cases h)⟩).1
  have hlast (u : State) (w : Drive) (c : Nat) : (u.lastEvent w c).cell z = u.cell z := rfl
  unfold State.faultDrive State.faultState
  split
  · exact hs
  · dsimp only
    rw [hlast]
    split
    · exact hprotect
    · exact State.still_goto_gbx _ hz hprotect

theorem State.actuatorFault_shows (s : State) (a : Fin 4) : (s.actuatorFault (actAxis a)).deciding (actAxis a) = false ∧
    (s.actuatorFault (actAxis a)).ds .gbx = if s.ds .gbx = .inhibit then .inhibit else .fault := by
  have hz : cellOf (actAxis a) ∈ Drive.cells .gbx := by revert a; decide
  have hcoast (c : Cell) : (s.coastCell c).ds .gbx = s.ds .gbx := State.Leaves.coastCell.ds .gbx
  have hhalt (u : State) : u.haltRecovery.cell = u.cell ∧ u.haltRecovery.ds .gbx = u.ds .gbx :=
    ⟨funext fun c => State.Leaves.haltRecovery.cell c, State.Leaves.haltRecovery.ds .gbx⟩
  have hstopped (c : Cell) : ((if (s.cell c).mode = .switching then s.coastCell c else s).cell c).mode ≠ .switching := by
    split
    · next h =>
      unfold State.coastCell
      rw [if_neg (by rw [h]; decide), State.cell_modCell_same]
      dsimp only
      split <;> decide
    · next h => exact h
  have hds (c : Cell) : (if (s.cell c).mode = .switching then s.coastCell c else s).ds .gbx = s.ds .gbx := by
    split
    · exact hcoast c
    · rfl
  unfold State.actuatorFault
  dsimp only
  rw [State.raise_actuatorFault]
  have hu := hstopped (cellOf (actAxis a))
  have hud := hds (cellOf (actAxis a))
  generalize (if (s.cell (cellOf (actAxis a))).mode = .switching then s.coastCell (cellOf (actAxis a)) else s) = u at hu hud ⊢
  have hstill := (u.event 0x0808 2 ((actAxis a).val - 4)).still_faultDrive 0x0808 hz hu
  obtain ⟨hcell, hdrive⟩ := hhalt ((u.event 0x0808 2 ((actAxis a).val - 4)).faultDrive .gbx 0x0808)
  constructor
  · rw [State.deciding, hcell, beq_eq_false_iff_ne.mpr hstill, Bool.false_and]
  · rw [hdrive, State.ds_faultDrive, ← hud]
    rfl

/-! ### Gear state recovery (R270, R271) -/

/-- The recovery is done. -/
def RecoveredStays (s t : State) : Prop := State.Keeps (fun u => u.gbx.recovered = true ∧ u.gbx.recovT0 = none) s t
theorem recoveredPart : State.Reads .gbx fun u => u.gbx.recovered = true ∧ u.gbx.recovT0 = none := fun s t h hs => by
  have heq : t.gbx = s.gbx := h
  show t.gbx.recovered = true ∧ t.gbx.recovT0 = none
  rw [heq]
  exact hs
theorem RecoveredStays.with_gbx {s : State} {f : GbxSt → GbxSt} (hf : ∀ x, (f x).recovered = x.recovered ∧ (f x).recovT0 = x.recovT0) :
    RecoveredStays s { s with gbx := f s.gbx } := fun ⟨hdone, hnone⟩ =>
  ⟨(hf s.gbx).1.trans hdone, (hf s.gbx).2.trans hnone⟩

theorem RecoveredStays.setSolenoidDuty {s : State} {i : Nat} {q : Rat} : RecoveredStays s (s.setSolenoidDuty i q) := by
  have htrack (u : State) : RecoveredStays u (u.solTrack i) := by
    unfold State.solTrack
    exact .dite (fun hi => .when (fun _ => .past recoveredPart .setBit .refl) (.step (RecoveredStays.with_gbx
      (f := fun x => { x with sols := upd x.sols ⟨i, hi⟩ _ }) fun _ => ⟨rfl, rfl⟩) .refl)) fun _ => .refl
  unfold State.setSolenoidDuty
  exact .dite (fun hi => .when (fun _ => .past recoveredPart .count .refl) (.step (htrack _) (.past recoveredPart .setQ
    (.step (RecoveredStays.with_gbx (f := fun x => { x with sols := upd x.sols ⟨i, hi⟩ _ }) fun _ => ⟨rfl, rfl⟩) .refl))))
    fun _ => .refl
theorem RecoveredStays.deliver {s : State} {dest : Nat} {q : Rat} : RecoveredStays s (s.deliver dest q) := by
  unfold State.deliver
  dsimp only
  split
  · exact .past recoveredPart .sideTr .refl
  · exact .past recoveredPart .sideTr .refl
  · exact .dite (fun hi => .past recoveredPart .setQ .refl) fun _ => .refl
  · exact .step RecoveredStays.setSolenoidDuty .refl
  · exact .ite (.past recoveredPart .sendPhase .refl) (.ite (.past recoveredPart .sendPhase .refl) (.ite (.past
    recoveredPart .setDuty (.dite (fun _ => .past recoveredPart .with_stageIn .refl) fun _ => .refl)) (.dite (fun _ =>
    .past recoveredPart .with_stageIn .refl) fun _ => .refl)))
  · exact .iteOf (fun hi => .past recoveredPart .setQ .refl) fun _ => .refl
  · exact .past recoveredPart .with_lvCommand .refl
  · exact .refl
theorem RecoveredStays.stopUnit {s : State} {n : Fin 24} : RecoveredStays s (s.stopUnit n) := by
  have hcommit (c : Option CommitSt) : RecoveredStays s (match c with | none => s | some c => s.commitAtOnce n c) := by
    cases c with
    | none => exact .refl
    | some c => exact .past recoveredPart .commitAtOnce .refl
  have hignore (u : State) : RecoveredStays u (u.ignoreUnit n) := by
    unfold State.ignoreUnit
    exact .ite .refl (.step RecoveredStays.deliver .refl)
  unfold State.stopUnit
  refine .ite .refl ?_
  dsimp only
  split
  · exact .step RecoveredStays.deliver (.past recoveredPart .modLu (.past recoveredPart .luFlush (.past recoveredPart
    .modLu (hcommit _))))
  · exact .step (hignore _) (.past recoveredPart .luFlush (.past recoveredPart .modLu (hcommit _)))
theorem RecoveredStays.haltRecovery {s : State} : RecoveredStays s s.haltRecovery := fun hs => by
  show s.haltRecovery.gbx.recovered = true ∧ s.haltRecovery.gbx.recovT0 = none
  rw [State.haltRecovery, hs.2]
  exact hs

/-- GBX, when it was not ACTIVE, changes its state without losing its gear state. -/
theorem RecoveredStays.goto_gbx {s : State} {new : DriveState} {trig : Nat} (h : s.ds .gbx ≠ .active) :
    RecoveredStays s (s.goto .gbx new trig) := by
  have hident (u : State) : RecoveredStays u (u.abortIdent .gbx) := .past recoveredPart .abortIdent .refl
  have hunits (u : State) : RecoveredStays u (u.stopUnits .gbx) := by
    unfold State.stopUnits
    exact .each (fun _ _ _ => .ite (.step RecoveredStays.stopUnit .refl) .refl) .refl
  have hhalt (u : State) : RecoveredStays u (u.haltSequences .gbx) := (RecoveredStays.haltRecovery : RecoveredStays u u.haltRecovery)
  unfold State.goto
  refine .ite .refl ?_
  dsimp only
  refine (fun h => State.Keeps.ite (.past recoveredPart .autoArm h) h) ?_
  exact .when (fun _ => .past recoveredPart .seqResume .refl) (.when (fun _ => .past recoveredPart .startUnits .refl) (.when
    (fun _ => .each (fun _ _ _ => .past recoveredPart .offCell .refl) .refl) (.when (fun _ => .each (fun _ _ _ => .past
    recoveredPart .saveLegs .refl) .refl) (.when (fun _ => .past recoveredPart .clearTorque .refl) (.past recoveredPart .lastEvent
    (.past recoveredPart .event (.when hident (.when hunits (.when hhalt (.unless rfl (.unless (by simp [h]) (.when (fun _ =>
    .each (fun _ _ _ => .past recoveredPart .modCell .refl) .refl) (.past recoveredPart .modDrv .refl)))))))))))))
theorem RecoveredStays.becomeReady_gbx {s : State} : RecoveredStays s (s.becomeReady .gbx) := by
  have hopen : (s.openSequencers .gbx).ds .gbx = s.ds .gbx := State.Leaves.openSequencers.ds .gbx
  have hready (h : s.ds .gbx = .unavailable) : RecoveredStays s ((s.openSequencers .gbx).goto .gbx .standby 0xFF) :=
    .step (RecoveredStays.goto_gbx (by rw [hopen, h]; decide)) (.past recoveredPart .openSequencers .refl)
  unfold State.becomeReady
  exact .iteOf (fun h => .ite (.step (RecoveredStays.goto_gbx (by rw [State.ds_goto]; decide)) (hready h.1)) (hready h.1))
    fun _ => .refl

theorem State.recDone_shows (s : State) (t0 : Nat) : (s.recDone t0).gbx.recovered = true ∧ (s.recDone t0).gbx.recovT0 = none := by
  have hlast (u : State) (n : Nat) (hu : u.gbx.recovered = true ∧ u.gbx.recovT0 = none) :
      ((u.setN Od.GBX_RECOVERY_TIME_ms n).gbxEvent 0x0802 2 n).gbx.recovered = true ∧
      ((u.setN Od.GBX_RECOVERY_TIME_ms n).gbxEvent 0x0802 2 n).gbx.recovT0 = none := hu
  unfold State.recDone
  dsimp only
  exact RecoveredStays.becomeReady_gbx (hlast _ _ ⟨rfl, rfl⟩)
/-- A first stall turns the actuator back. -/
theorem State.recTurn_shows (s : State) (a : Fin 4) (q : Rat) : ((s.recTurn a q).recOf a).turned = true ∧
    ((s.recTurn a q).recOf a).dir = -(s.recOf a).dir := by
  have hrec (u : State) (r : RecSt) : (u.setRec a r).recOf a = r := get_upd_same _ _ _
  have hset (u : State) (k : Nat) (q : Rat) : (u.setQ k q).recOf a = u.recOf a := rfl
  unfold State.recTurn
  dsimp only
  rw [hset, hrec]
  exact ⟨rfl, rfl⟩

theorem State.recStall_turns {s : State} {a : Fin 4} (hrec : s.gbx.recovT0.isSome = true)
    (hat : (s.recOf a).resolved = false ∧ (s.recOf a).step = 4 ∧ (s.recOf a).turned = false)
    (hstall : s.stalled a (s.recOf a).pushTb (ms 20) = true) :
    ((s.recStall a).recOf a).turned = true ∧ ((s.recStall a).recOf a).dir = -(s.recOf a).dir := by
  obtain ⟨hres, hstep, hturned⟩ := hat
  have heq : s.recStall a = s.recTurn a (s.num Od.SHF_REF_TQ) := by
    unfold State.recStall
    dsimp only
    rw [if_neg (by simp [Option.isSome_iff_ne_none.mp hrec, hres, hstall]), hstep]
    exact if_neg (by simp [hturned])
  rw [heq]
  exact s.recTurn_shows a _
theorem State.recEnd_done {s : State} {t0 : Nat} (ht0 : s.gbx.recovT0 = some t0)
    (hall : ∀ a ∈ ([0, 1, 2, 3] : List (Fin 4)), (s.recOf a).resolved = true) : s.recEnd = s.recDone t0 := by
  unfold State.recEnd
  rw [ht0]
  exact if_pos (List.all_eq_true.mpr hall)

/-- Settles O22: what each command does to its actuator, channel or recovery, by the lemmas above. -/
theorem actuatorCommandsComplete : Obligations.ActuatorCommandsComplete := by
  unfold Obligations.ActuatorCommandsComplete
  refine ⟨?_, ?_, ?_, ?_, ?_, ?_, ?_, ?_, ?_⟩
  · intro s dt a hfault
    have hbad : (s.elapse dt).actuatorBad a = true := by
      have hpif : (s.elapse dt).pifService (4 + a) = 3 := hfault
      simp [State.actuatorBad, hpif]
    have heq : execActuatorAxisFault dt a s = reply s ((s.elapse dt).actuatorFault (actAxis a)) := congrArg (reply s) (if_pos hbad)
    exact ⟨_, heq.trans (reply_of_pending (State.Leaves.actuatorFault.part .pending)), (s.elapse dt).actuatorFault_shows a⟩
  · intro s dt who c v q ha hv ⟨hq, hq'⟩ howns hside
    have hside' : (s.begun dt who).solSide c = s.solSide c := by
      unfold State.solSide
      rw [s.begun_nat dt who (by decide), s.begun_nat dt who (by decide)]
    have he : (s.begun dt who).iSetEffect who c q = .ok ((s.begun dt who).setSolenoidI c q) := by
      unfold State.iSetEffect refuseIf
      rw [howns, hside', hside, if_neg (by simp [hq, hq']), if_neg (by decide)]
    have hwrite : (s.elapse dt).writeISet who c v = (s.elapse dt).request who (Od.SOL_I_SET c) .operator fun s =>
        s.iSetEffect who c q := by
      unfold State.writeISet
      rw [hv]
    refine ⟨_, (congrArg (reply s) hwrite).trans (State.accepted_completes ha he ?_), State.iSet_setSolenoidI _ c q, State.answered_emit _ _ _⟩
    exact (State.Leaves.setSolenoidI.part .pending).trans (s.begun_pending dt who)
  · intro s dt v c hv
    have heq : execIbBelow38V dt v s = reply s ((s.elapse dt).senseIb v).solenoidsOff := congrArg (reply s) (if_pos hv)
    refine ⟨_, heq.trans (reply_of_pending (State.Leaves.solenoidsOff.part .pending)), ?_, State.duty_solenoidsOff _ c.isLt⟩
    exact (State.num_of_get (State.Leaves.solenoidsOff.get (by grind (splits := 40)))).trans
      ((State.num_setQ _ _ _ _).trans (if_pos rfl))
  · intro s dt c i hi hduty
    have heq : execSolenoidOvercurrent dt c i s = reply s (((s.elapse dt).setQ (Od.SOL_I_ACT c) i).solFault c 3) :=
      congrArg (reply s) (if_pos ⟨hi, hduty⟩)
    exact ⟨_, heq.trans (reply_of_pending (State.Leaves.solFault.part .pending)), State.solFault_shows _ c (by decide)⟩
  · intro s dt c hopen
    have heq : execSolenoidOpenLoad dt c s = reply s ((s.elapse dt).solFault c 4) := congrArg (reply s) (if_pos hopen)
    exact ⟨_, heq.trans (reply_of_pending (State.Leaves.solFault.part .pending)), State.solFault_shows _ c (by decide)⟩
  · intro s dt c hdev
    by_cases hbit : s.bit (Od.SOL_SOL_STATUS c) 5 = true
    · have heq : execSolenoidDeviation dt c s = reply s (s.elapse dt) := congrArg (reply s) (if_neg fun h => h.1 hbit)
      exact ⟨_, heq, hbit, rfl⟩
    · have heq : execSolenoidDeviation dt c s = reply s (((s.elapse dt).setBit (Od.SOL_SOL_STATUS c) 5 true).gbxEvent 0x080E _ _) :=
        congrArg (reply s) (if_pos ⟨hbit, hdev⟩)
      refine ⟨_, heq, State.bit_setBit_same _ _ _ _, State.num_of_get (State.get_setBit_ne _ _ _ _ _ ?_)⟩
      grind
  · intro s dt hdue
    have hcount (u : State) : (u.count ctrRecoveries).drv = u.drv ∧ (u.count ctrRecoveries).cell = u.cell :=
      ⟨funext fun d => State.Leaves.count.drv d, funext fun c => State.Leaves.count.cell c⟩
    have heq : execGearStateRecoveryStart dt s = reply s (((s.elapse dt).startArming .gbx .recovery).count ctrRecoveries) :=
      congrArg (reply s) (if_pos hdue)
    obtain ⟨hdrv, hcell⟩ := hcount ((s.elapse dt).startArming .gbx .recovery)
    refine ⟨_, heq.trans (reply_of_pending ((State.Leaves.count.part .pending).trans (State.Leaves.startArming.part .pending))), ?_,
      fun c hc => ?_⟩
    · rw [hdrv]
      exact State.drv_startArming _ .gbx .recovery
    · rw [hcell]
      exact (State.cell_startArming _ .gbx .recovery (by decide) hc).1
  · intro s dt a hrec hat hstall
    exact ⟨_, State.Leaves.recStall.completes, State.recStall_turns hrec hat hstall⟩
  · intro s dt t0 ht0 hall
    refine ⟨_, State.Leaves.recEnd.completes, ?_⟩
    rw [State.recEnd_done (s := s.elapse dt) ht0 hall]
    exact (s.elapse dt).recDone_shows t0

end Sys2Proof.Machine
end

section
/-! PROOFS. The steps of the arming sequence (O7). -/
namespace Sys2Proof.Machine
open Sys2Proof
set_option Elab.async false

/-! ### The precharge of a cell, which a drive that enters ARMED leaves -/

/-- The cell is precharged, and stays so. -/
def PrechargedStays (z : Cell) (s t : State) : Prop := State.Keeps (fun u => (u.cell z).precharged = true) s t
theorem prechargedPart {z : Cell} : State.Reads .cells fun u => (u.cell z).precharged = true := fun _ _ h hs =>
  (congrArg (fun v => (v.get z).precharged) h).trans hs

section
variable {z : Cell}

theorem PrechargedStays.modCell {s : State} {c : Cell} {f : CellSt → CellSt}
    (hf : ∀ x : CellSt, (f x).precharged = x.precharged := by exact fun _ => rfl) : PrechargedStays z s (s.modCell c f) := by
  intro hs
  show ((s.modCell c f).cell z).precharged = true
  rw [State.cell_modCell]
  split
  · next h => rw [hf, ← h]; exact hs
  · exact hs
theorem PrechargedStays.countAsc {s : State} {c : Cell} : PrechargedStays z s (s.countAsc c) := by
  unfold State.countAsc
  exact .ite (.step PrechargedStays.modCell (.past prechargedPart .countBy .refl)) .refl
theorem PrechargedStays.coastCell {s : State} {c : Cell} : PrechargedStays z s (s.coastCell c) := by
  unfold State.coastCell
  exact .ite .refl (.step PrechargedStays.modCell (.past prechargedPart .stopLegs (.step PrechargedStays.countAsc
    .refl)))
theorem PrechargedStays.endTest {s : State} {n : Axis} : PrechargedStays z s (s.endTest n) := by
  unfold State.endTest
  exact .past prechargedPart .setBit (.past prechargedPart .modAx (.when (fun _ => (.step PrechargedStays.coastCell
    .refl)) .refl))
theorem PrechargedStays.endProbe {s : State} {t : Fin 2} : PrechargedStays z s (s.endProbe t) := by
  unfold State.endProbe
  exact .past prechargedPart .modTr (.each (fun _ _ _ => (.step PrechargedStays.endTest .refl)) .refl)
theorem PrechargedStays.chargerOff {s : State} : PrechargedStays z s (s.chargerOff) := by
  unfold State.chargerOff
  exact .past prechargedPart .modChg (.past prechargedPart .setBit (.past prechargedPart .setBit (.past prechargedPart
    .setBit (.past prechargedPart .applyPhase (.past prechargedPart .applyPhase (.past prechargedPart .applyPhase
    (.past prechargedPart .dropCmds (.each (fun _ _ _ => (.ite (.step PrechargedStays.coastCell .refl) .refl))
    .refl))))))))
theorem PrechargedStays.leaveCharge {s : State} : PrechargedStays z s (s.leaveCharge) := by
  unfold State.leaveCharge
  exact .ite (.past prechargedPart .relaysOpen (.past prechargedPart .exportOff (.step PrechargedStays.chargerOff
    .refl))) (.past prechargedPart .setHvState (.past prechargedPart .relaysOpen (.past prechargedPart .exportOff
    (.step PrechargedStays.chargerOff .refl))))
theorem PrechargedStays.dabStop {s : State} : PrechargedStays z s (s.dabStop) := by
  unfold State.dabStop
  exact .past prechargedPart .modAux (.past prechargedPart .applyPhase (.past prechargedPart .applyPhase (.past
    prechargedPart .setBit (.past prechargedPart .setBit (.past prechargedPart .dropCmds (.each (fun _ _ _ => (.ite
    (.step PrechargedStays.coastCell .refl) .refl)) .refl))))))
theorem PrechargedStays.towStop {s : State} : PrechargedStays z s (s.towStop) := by
  unfold State.towStop
  exact .ite (.past prechargedPart .setBit (.step PrechargedStays.coastCell .refl)) .refl
theorem PrechargedStays.buckStop {s : State} : PrechargedStays z s (s.buckStop) := by
  unfold State.buckStop
  exact .ite (.past prechargedPart .buckLost (.past prechargedPart .setBit (.past prechargedPart .setBit (.past
    prechargedPart .setBit (.past prechargedPart .setBit (.past prechargedPart .setBit (.ite (.step
    PrechargedStays.coastCell .refl) .refl))))))) .refl
theorem PrechargedStays.leaveAux {s : State} : PrechargedStays z s (s.leaveAux) := by
  unfold State.leaveAux
  exact .past prechargedPart .setAuxMode (.step PrechargedStays.dabStop (.past prechargedPart .setBit (.step
    PrechargedStays.buckStop (.step PrechargedStays.towStop .refl))))
theorem PrechargedStays.coastActuator {s : State} {a : Fin 4} : PrechargedStays z s (s.coastActuator a) := by
  unfold State.coastActuator
  exact .ite (.step PrechargedStays.coastCell (.past prechargedPart .with_gbx .refl)) (.past prechargedPart .with_gbx
    .refl)
theorem PrechargedStays.engageActuator {s : State} {a : Fin 4} : PrechargedStays z s (s.engageActuator a) := by
  unfold State.engageActuator
  exact .ite .refl (.past prechargedPart .modAx (.past prechargedPart .setBit (.past prechargedPart .setField (.past
    prechargedPart .setBit (.past prechargedPart .setQ (.past prechargedPart .setQ (.past prechargedPart .setQ (.past
    prechargedPart .setQ (.past prechargedPart .setQ (.step PrechargedStays.modCell .refl))))))))))
theorem PrechargedStays.parkUncommanded {s : State} {t : Fin 2} : PrechargedStays z s (s.parkUncommanded t) := by
  unfold State.parkUncommanded
  exact .ite (.ite (.step PrechargedStays.engageActuator (.past prechargedPart .setRef (.past prechargedPart
    .lastEvent (.past prechargedPart .event (.past prechargedPart .setSolenoidI (.past prechargedPart .startMove
    (.past prechargedPart .count (.past prechargedPart .setPark .refl)))))))) (.step PrechargedStays.coastActuator
    (.past prechargedPart .lastEvent (.past prechargedPart .event (.past prechargedPart .setSolenoidI (.past
    prechargedPart .startMove (.past prechargedPart .count (.past prechargedPart .setPark .refl)))))))) .refl
theorem PrechargedStays.solenoidOff {s : State} {i : Nat} : PrechargedStays z s (s.solenoidOff i) := by
  unfold State.solenoidOff
  exact by dsimp only; split; exacts [(.step PrechargedStays.parkUncommanded (.past prechargedPart .setSolenoidDuty
    .refl)), (.past prechargedPart .setSolenoidDuty .refl)]
theorem PrechargedStays.solenoidsOff {s : State} : PrechargedStays z s (s.solenoidsOff) := by
  unfold State.solenoidsOff
  exact .each (fun i hi _ => .step PrechargedStays.solenoidOff .refl) .refl
theorem PrechargedStays.leaveGearbox {s : State} : PrechargedStays z s (s.leaveGearbox) := by
  unfold State.leaveGearbox
  exact .each (fun _ _ _ => (.past prechargedPart .forkLost .refl)) (.step PrechargedStays.solenoidsOff (.each (fun _
    _ _ => (.step PrechargedStays.coastActuator .refl)) .refl))
theorem PrechargedStays.leaveTraction {s : State} {t : Fin 2} : PrechargedStays z s (s.leaveTraction t) := by
  unfold State.leaveTraction
  exact .each (fun _ _ _ => (.past prechargedPart .setBit (.past prechargedPart .setBit (.past prechargedPart .modAx
    .refl)))) (.past prechargedPart .modTr (.step PrechargedStays.endProbe .refl))
theorem PrechargedStays.leaveActive {s : State} {d : Drive} : PrechargedStays z s (s.leaveActive d) := by
  unfold State.leaveActive
  exact by split; exacts [(.step PrechargedStays.leaveTraction (.past prechargedPart .leaveShift .refl)), (.step
    PrechargedStays.leaveTraction (.past prechargedPart .leaveShift .refl)), (.step PrechargedStays.leaveGearbox
    .refl), (.step PrechargedStays.leaveAux .refl), (.step PrechargedStays.leaveCharge .refl), (.past prechargedPart
    .setDuty .refl)]
theorem PrechargedStays.goto_armed {s : State} {d : Drive} {trig : Nat} : PrechargedStays z s (s.goto d .armed trig) := by
  unfold State.goto
  refine .ite .refl ?_
  dsimp only
  rw [if_neg (by decide)]
  exact .when (fun _ => .past prechargedPart .seqResume .refl) (.unless rfl (.unless rfl (.unless rfl (.unless rfl (.past
    prechargedPart .lastEvent (.past prechargedPart .event (.unless rfl (.when (fun _ => .past prechargedPart .stopUnits .refl)
    (.unless rfl (.unless (by simp) (.when (fun _ => .step PrechargedStays.leaveActive .refl) (.unless (by simp) (.past
    prechargedPart .modDrv .refl)))))))))))))
end

/-! ### Cells that are off, which a drive that goes to FAULT leaves -/

/-- The cell is off without gate supply, and stays so. -/
def OffStays (z : Cell) (s t : State) : Prop := State.Keeps (fun u => (u.cell z).mode = .off ∧ (u.cell z).supLo = false) s t
theorem offPart {z : Cell} : State.Reads .cells fun u => (u.cell z).mode = .off ∧ (u.cell z).supLo = false := fun s t h hs => by
  have heq : t.cell z = s.cell z := congrArg (fun v => v.get z) h
  show (t.cell z).mode = .off ∧ (t.cell z).supLo = false
  rw [heq]
  exact hs

/-- No arming sequence of the drive runs, and none begins. -/
def IdleStays (z : Drive) (s t : State) : Prop := State.Keeps (fun u => (u.drv z).arming = .none) s t
theorem idlePart {z : Drive} : State.Reads .drives fun u => (u.drv z).arming = .none := fun _ _ h hs =>
  (congrArg (fun v => (v.get z.idx).arming) h).trans hs

section
variable {z : Cell}

theorem OffStays.modCell {s : State} {c : Cell} {f : CellSt → CellSt}
    (hf : ∀ x : CellSt, x.mode = .off ∧ x.supLo = false → (f x).mode = .off ∧ (f x).supLo = false) : OffStays z s (s.modCell c f) := by
  intro hs
  show ((s.modCell c f).cell z).mode = .off ∧ ((s.modCell c f).cell z).supLo = false
  rw [State.cell_modCell]
  split
  · next h => exact hf _ (h ▸ hs)
  · exact hs
theorem OffStays.countAsc {s : State} {c : Cell} : OffStays z s (s.countAsc c) := by
  unfold State.countAsc
  exact .ite (.step (OffStays.modCell fun _ h => h) (.past offPart .countBy .refl)) .refl
theorem OffStays.coastCell {s : State} {c : Cell} : OffStays z s (s.coastCell c) := by
  unfold State.coastCell
  exact .ite .refl (.step (OffStays.modCell fun _ h => ⟨if_neg (by rw [h.2]; decide), h.2⟩) (.past offPart .stopLegs (.step
    OffStays.countAsc .refl)))
theorem OffStays.offCell {s : State} {c : Cell} : OffStays z s (s.offCell c) := by
  unfold State.offCell
  exact .step (OffStays.modCell fun _ _ => ⟨rfl, rfl⟩) (.past offPart .stopLegs (.step OffStays.countAsc .refl))
theorem OffStays.endTest {s : State} {n : Axis} : OffStays z s (s.endTest n) := by
  unfold State.endTest
  exact .past offPart .setBit (.past offPart .modAx (.when (fun _ => (.step OffStays.coastCell .refl)) .refl))
theorem OffStays.endProbe {s : State} {t : Fin 2} : OffStays z s (s.endProbe t) := by
  unfold State.endProbe
  exact .past offPart .modTr (.each (fun _ _ _ => (.step OffStays.endTest .refl)) .refl)
theorem OffStays.abortIdent {s : State} {d : Drive} : OffStays z s (s.abortIdent d) := by
  unfold State.abortIdent
  exact .ite (.each (fun _ _ _ => (.ite (.past offPart .event (.past offPart .setN (.past offPart .setN (.past offPart
    .setBit (.past offPart .modAx (.step OffStays.endTest (.step OffStays.endProbe .refl))))))) .refl)) .refl) .refl
theorem OffStays.dischargeStop {s : State} {st : Nat} : OffStays z s (s.dischargeStop st) := by
  unfold State.dischargeStop
  exact .ite .refl (.ite (.past offPart .setDuty (.ite (.past offPart .modDcl (.past offPart .setBit (.past offPart
    .setN (.ite (.past offPart .modDrv .refl) .refl)))) (.step OffStays.offCell (.past offPart .modDcl (.past offPart
    .setBit (.past offPart .setN (.ite (.past offPart .modDrv .refl) .refl))))))) (.past offPart .setDuty (.past
    offPart .modDcl (.past offPart .setBit (.past offPart .setN (.ite (.past offPart .modDrv .refl) .refl))))))
theorem OffStays.haltSequences {s : State} {d : Drive} : OffStays z s (s.haltSequences d) := by
  unfold State.haltSequences
  exact by split; exacts [(.past offPart .haltRecovery .refl), (.step OffStays.dischargeStop .refl), .refl]
theorem OffStays.goto_fault {s : State} {d : Drive} {trig : Nat} (h : s.ds d = .standby) : OffStays z s (s.goto d .fault trig) := by
  unfold State.goto
  refine .ite .refl ?_
  dsimp only
  rw [if_neg (by decide), h]
  exact .when (fun _ => .past offPart .seqResume .refl) (.unless rfl (.unless rfl (.unless rfl (.when (fun _ => .past offPart
    .clearTorque .refl) (.past offPart .lastEvent (.past offPart .event (.when (fun _ => .step OffStays.abortIdent .refl) (.when
    (fun _ => .past offPart .stopUnits .refl) (.when (fun _ => .step OffStays.haltSequences .refl) (.when (fun _ => .past offPart
    .leaveShift .refl) (.unless (by simp) (.unless rfl (.past offPart .modDrv .refl)))))))))))))
end

section
variable {z : Drive}

theorem IdleStays.modDrv {d : Drive} {s : State} {f : DriveSt → DriveSt}
    (hf : ∀ x : DriveSt, x.arming = .none → (f x).arming = .none := by exact fun _ _ => rfl) : IdleStays z s (s.modDrv d f) := by
  intro hs
  show ((s.modDrv d f).drv z).arming = .none
  rw [State.drv_modDrv]
  split
  · next h => exact hf _ (h ▸ hs)
  · exact hs
theorem IdleStays.dischargeStop {s : State} {st : Nat} : IdleStays z s (s.dischargeStop st) := by
  unfold State.dischargeStop
  exact .ite .refl (.ite (.past idlePart .setDuty (.ite (.past idlePart .modDcl (.past idlePart .setBit (.past
    idlePart .setN (.ite (.step IdleStays.modDrv .refl) .refl)))) (.past idlePart .offCell (.past idlePart .modDcl
    (.past idlePart .setBit (.past idlePart .setN (.ite (.step IdleStays.modDrv .refl) .refl))))))) (.past idlePart
    .setDuty (.past idlePart .modDcl (.past idlePart .setBit (.past idlePart .setN (.ite (.step IdleStays.modDrv
    .refl) .refl))))))
theorem IdleStays.haltSequences {s : State} {d : Drive} : IdleStays z s (s.haltSequences d) := by
  unfold State.haltSequences
  exact by split; exacts [(.past idlePart .haltRecovery .refl), (.step IdleStays.dischargeStop .refl), .refl]
theorem IdleStays.goto_fault {s : State} {trig : Nat} : IdleStays z s (s.goto z .fault trig) := by
  unfold State.goto
  refine .ite .refl ?_
  dsimp only
  rw [if_neg (by decide)]
  exact .when (fun _ => .past idlePart .seqResume .refl) (.unless rfl (.unless rfl (.unless rfl (.when (fun _ => .past idlePart
    .clearTorque .refl) (.past idlePart .lastEvent (.past idlePart .event (.when (fun _ => .past idlePart .abortIdent .refl) (.when
    (fun _ => .past idlePart .stopUnits .refl) (.when (fun _ => .step IdleStays.haltSequences .refl) (.when (fun _ => .past idlePart
    .leaveShift .refl) (.when (fun _ => .past idlePart .leaveActive .refl) (.when (fun _ => .each (fun _ _ _ => .past idlePart .modCell
    .refl) .refl) (.step IdleStays.modDrv .refl)))))))))))))
end

/-! ### The steps of Table 3.4 -/

section
variable (s : State) (c : Cell)

theorem State.cell_armStepTo (n : Nat) (m : CellMode) : ((s.armStepTo c n m).cell c).armStep = n ∧ ((s.armStepTo c n m).cell c).mode = m := by
  rw [State.armStepTo, State.cell_modCell_same]
  exact ⟨rfl, rfl⟩

section
variable (harm : (s.drv (cellDrive c)).arming ≠ .none)
include harm

theorem State.armStep_eq_two (p n : Rat) (hstep : (s.cell c).armStep = 2) : s.armStep c (.supplies p n) =
    if gateUv c p n then ((s.noteRails c p n).setBit (Od.CELL_CELL_STATUS c) 8 true).armingFailed (cellDrive c) c 0x0308
      (s.legDetail c 0xFF false false false false)
    else ((s.noteRails c p n).each (cellLegList c) fun n s => s.calAbandon n).armStepTo c 3 .coast := by
  unfold State.armStep
  dsimp only
  rw [if_neg harm, hstep]
  rfl
theorem State.armStep_eq_three {ch : List (List Int × List Int)} (hstep : (s.cell c).armStep = 3) (hok : s.calOutcome c ch = .ok) :
    s.armStep c (.offsets ch) = (((s.calChannels c ch).calApply c).each (cellLegList c) fun n s =>
      s.setBit (Od.SH_CH_STATUS n) 7 false).armStepTo c 4 .selftest := by
  unfold State.armStep
  dsimp only
  rw [if_neg harm, hstep]
  show (match s.calOutcome c ch with
    | .disturbed i => (s.calChannels c ch).armingFailed (cellDrive c) c 0x0402 ((s.calChannels c ch).shuntDetail (cellFirstLeg c + i))
    | .beyond i => ((s.calChannels c ch).calApply c).armingFailed (cellDrive c) c 0x0401 (((s.calChannels c ch).calApply c).shuntDetail
      (cellFirstLeg c + i))
    | .ok => _) = _
  rw [hok]
/-- A passed self-test, of the chopper's cell and of the others. -/
theorem State.armStep_eq_four (hstep : (s.cell c).armStep = 4) : s.armStep c (.selftest 0 0) =
    if c.val = 14 then ((((s.selftestResult c 0 0).setBit (Od.CELL_CELL_STATUS c) 9 false).modCell c fun x =>
      { x with precharged := true, refreshLogged := false }).armStepTo c 7 .coast).armingDone (cellDrive c)
    else (((s.selftestResult c 0 0).setBit (Od.CELL_CELL_STATUS c) 9 false).armStepTo c 5 .coast).startPulses (cellDrive c) := by
  have hpass : selftestFailed c (0 : BitVec 4).toNat (0 : BitVec 4).toNat = false := by simp [selftestFailed]
  unfold State.armStep
  dsimp only
  rw [if_neg harm, hstep]
  exact if_neg (by rw [hpass]; exact Bool.false_ne_true)
theorem State.armStep_eq_five (hstep : (s.cell c).armStep = 5) : s.armStep c .pulsesDone =
    if (s.cell c).mode = .precharge ∧ (s.cell c).pulseTb + us 142 ≤ s.tb then s.armStepTo c 6 .coast else s := by
  unfold State.armStep
  dsimp only
  rw [if_neg harm, hstep]
  rfl
theorem State.armStep_eq_six {b : List Rat} (cur : List (List Rat)) (hstep : (s.cell c).armStep = 6)
    (hfull : ∀ i, i < cellLegs c → bootTarget c ≤ b.getD i 0) : s.armStep c (.bootstraps b cur) =
      ((((s.noteBoot c ((List.range (cellLegs c)).map fun i => b.getD i 0)).modCell c fun x =>
        { x with precharged := true, refreshLogged := false }).when (decide (c.val < 4)) fun s =>
          s.catchCurrents c cur).armStepTo c 7 .coast).armingDone (cellDrive c) := by
  have hfind : ((List.range (cellLegs c)).find? fun i => decide (b.getD i 0 < bootTarget c)) = none :=
    List.find?_eq_none.mpr fun i hi => by simpa using hfull i (List.mem_range.mp hi)
  unfold State.armStep
  dsimp only
  rw [if_neg harm, hstep]
  show (match (List.range (cellLegs c)).find? fun i => decide (b.getD i 0 < bootTarget c) with
    | some i => _
    | none => _) = _
  rw [hfind]
end

/-- Step 2: the rails stay as measured, whatever calibration is abandoned. -/
theorem State.armStep_supplies {p n : Rat} (harm : (s.drv (cellDrive c)).arming ≠ .none) (hstep : (s.cell c).armStep = 2)
    (hok : gateUv c p n = false) : ((s.armStep c (.supplies p n)).cell c).armStep = 3 ∧
      (s.armStep c (.supplies p n)).num (Od.CELL_VGS_SUP_POS c) = p := by
  have hrails : (s.noteRails c p n).num (Od.CELL_VGS_SUP_POS c) = p := by
    unfold State.noteRails
    rw [State.num_setQ, if_neg (by grind), State.num_setQ, if_pos rfl]
  have hkeep (u : State) : (u.each (cellLegList c) fun n s => s.calAbandon n).get (Od.CELL_VGS_SUP_POS c) =
      u.get (Od.CELL_VGS_SUP_POS c) :=
    State.each_same (fun u => u.get (Od.CELL_VGS_SUP_POS c)) _ (fun l _ => State.Leaves.calAbandon.get (by grind)) u
  rw [s.armStep_eq_two c harm p n hstep, hok, if_neg Bool.false_ne_true]
  refine ⟨(State.cell_armStepTo _ c 3 .coast).1, ?_⟩
  exact (State.num_of_get (hkeep (s.noteRails c p n))).trans hrails

/-- Step 3: each channel takes the mean that it measured. -/
theorem State.armStep_offsets {ch : List (List Int × List Int)} {l : Leg} (harm : (s.drv (cellDrive c)).arming ≠ .none)
    (hstep : (s.cell c).armStep = 3) (hok : s.calOutcome c ch = .ok) (hl : l ∈ cellLegList c) :
    ((s.armStep c (.offsets ch)).cell c).armStep = 4 ∧
      (s.armStep c (.offsets ch)).int (Od.SH_OFFSET l) = meanRound (ch.getD (legPos l) ([], [])).1 := by
  have harms (u : State) : (u.calChannels c ch).int (Od.SH_OFFSET_ARM l) = meanRound (ch.getD (legPos l) ([], [])).1 := by
    have hset (v : State) (k j : Leg) (x : Int) (g : ShuntSt → ShuntSt) : ((v.setI (Od.SH_OFFSET_ARM k) x).modShunt k g).int
        (Od.SH_OFFSET_ARM j) = if j = k then x else v.int (Od.SH_OFFSET_ARM j) := by
      refine (State.int_setI v _ _ _).trans ?_
      by_cases h : j = k
      · rw [h, if_pos rfl, if_pos rfl]
      · rw [if_neg (by grind), if_neg h]
    unfold State.calChannels
    refine State.each_reaches (P := fun (l : Leg) u => u.int (Od.SH_OFFSET_ARM l) = meanRound (ch.getD (legPos l) ([], [])).1)
      (fun j v => ?_) (fun j k v hv => ?_) _ u hl
    · exact (hset v j j _ _).trans (if_pos rfl)
    · refine (hset v k j _ _).trans ?_
      split
      · next h => rw [h]
      · exact hv
  have hend (v : State) (k : Leg) (j : Nat) (hj : j ≠ Od.CNT_CNT_OVF_MAP ∧ j ≠ Od.SH_CAL_COUNT k ∧ j ≠ Od.SH_CH_STATUS k ∧
      j ≠ Od.SH_LAST_CAL_TB k) : (v.calEnd k).get j = v.get j := State.Leaves.calEnd.get (by grind)
  have happly (u : State) (x : Int) (hx : u.int (Od.SH_OFFSET_ARM l) = x) : (u.calApply c).int (Od.SH_OFFSET l) = x := by
    have hset (v : State) (k j : Leg) (y : Int) : ((v.setI (Od.SH_OFFSET k) y).calEnd k).int (Od.SH_OFFSET j) =
        if j = k then y else v.int (Od.SH_OFFSET j) := by
      refine (State.int_of_get (hend _ k _ ⟨by grind, by grind, by grind, by grind⟩)).trans ((State.int_setI v _ _ _).trans ?_)
      by_cases h : j = k
      · rw [h, if_pos rfl, if_pos rfl]
      · rw [if_neg (by grind), if_neg h]
    have hkept (v : State) (k j : Leg) (y : Int) : ((v.setI (Od.SH_OFFSET k) y).calEnd k).int (Od.SH_OFFSET_ARM j) =
        v.int (Od.SH_OFFSET_ARM j) :=
      (State.int_of_get (hend _ k _ ⟨by grind, by grind, by grind, by grind⟩)).trans ((State.int_setI v _ _ _).trans
        (if_neg (by grind)))
    have hsame : (u.calApply c).int (Od.SH_OFFSET_ARM l) = x :=
      (State.each_same (fun u => u.int (Od.SH_OFFSET_ARM l)) _ (fun k v => hkept v k l _) u).trans hx
    rw [← hsame]
    refine State.each_reaches (P := fun (l : Leg) u => u.int (Od.SH_OFFSET l) = u.int (Od.SH_OFFSET_ARM l)) (fun j v => ?_)
      (fun j k v hv => ?_) _ u hl
    · rw [hset, hkept, if_pos rfl]
    · rw [hset, hkept]
      split
      · next h => rw [h]
      · exact hv
  have hbits (u : State) : (u.each (cellLegList c) fun n s => s.setBit (Od.SH_CH_STATUS n) 7 false).get (Od.SH_OFFSET l) =
      u.get (Od.SH_OFFSET l) :=
    State.each_same (fun u => u.get (Od.SH_OFFSET l)) _ (fun k v => State.get_setBit_ne v _ _ _ _ (by grind)) u
  rw [s.armStep_eq_three c harm hstep hok]
  refine ⟨(State.cell_armStepTo _ c 4 .selftest).1, ?_⟩
  exact (State.int_of_get (hbits _)).trans (happly _ _ (harms s))

/-- The pulse trains start, at once or at an apply time: no cell leaves its step by that. -/
theorem State.armStep_startPulses (d : Drive) : ((s.startPulses d).cell c).armStep = (s.cell c).armStep := by
  have hcmd (u : State) (e : Cell) : ((u.applyLinkCmd (.precharge e)).cell c).armStep = (u.cell c).armStep := by
    simp only [State.applyLinkCmd]
    split
    · rw [State.cell_modCell]
      split
      · next h => rw [h]
      · rfl
    · rfl
  unfold State.startPulses
  split
  · rfl
  · unfold State.sendTogether
    dsimp only
    split
    · rw [State.each, List.foldl_map]
      exact State.each_same (fun u => (u.cell c).armStep) _ (fun e u => hcmd u e) s
    · exact State.each_same (f := fun e s => s.modLink (cellLink e.cell) fun x => x.send _ e) (fun u => (u.cell c).armStep) _
        (fun _ _ => rfl) s

/-- Step 4 of a cell with bootstrap supplies. -/
theorem State.armStep_selftest (harm : (s.drv (cellDrive c)).arming ≠ .none) (hstep : (s.cell c).armStep = 4) (hc : c ≠ 14) :
    ((s.armStep c (.selftest 0 0)).cell c).armStep = 5 ∧
      (s.armStep c (.selftest 0 0)).nat (Od.CELL_SELFTEST_RESULT c) = 0x8000 := by
  have hresult (u : State) : (u.selftestResult c 0 0).nat (Od.CELL_SELFTEST_RESULT c) = 0x8000 := by
    simp [State.selftestResult, State.nat_setN]
  have hlate (u : State) (d : Drive) : (((u.setBit (Od.CELL_CELL_STATUS c) 9 false).armStepTo c 5 .coast).startPulses d).get
      (Od.CELL_SELFTEST_RESULT c) = u.get (Od.CELL_SELFTEST_RESULT c) :=
    (State.Leaves.startPulses.get (by grind)).trans (State.get_setBit_ne _ _ _ _ _ (by grind))
  have hval : ¬ c.val = 14 := fun h => hc (Fin.ext h)
  rw [s.armStep_eq_four c harm hstep, if_neg hval]
  constructor
  · rw [State.armStep_startPulses]
    exact (State.cell_armStepTo _ c 5 .coast).1
  · exact (State.nat_of_get (hlate _ _)).trans (hresult s)

/-- Step 5. -/
theorem State.armStep_pulses (harm : (s.drv (cellDrive c)).arming ≠ .none)
    (hstep : (s.cell c).armStep = 5 ∧ (s.cell c).mode = .precharge) (hdue : (s.cell c).pulseTb + us 142 ≤ s.tb) :
    ((s.armStep c .pulsesDone).cell c).armStep = 6 ∧ ((s.armStep c .pulsesDone).cell c).mode = .coast := by
  rw [s.armStep_eq_five c harm hstep.1, if_pos ⟨hstep.2, hdue⟩]
  exact s.cell_armStepTo c 6 .coast
/-! #### Step 6 -/

/-- What step 6 leaves of the cell and of the rest when its bootstraps are at their target. -/
structure State.Bootstrapped (c : Cell) (s t : State) : Prop where
  step : (t.cell c).armStep = 7
  mode : (t.cell c).mode = .coast
  precharged : (t.cell c).precharged = true
  others : ∀ e, e ≠ c → t.cell e = s.cell e
  drives : t.drives = s.drives
  tb : t.tb = s.tb

theorem State.bootstrapped_armStepTo (u : State) (hpre : (u.cell c).precharged = true) (hothers : ∀ e, e ≠ c → u.cell e = s.cell e)
    (hdrives : u.drives = s.drives) (htb : u.tb = s.tb) : State.Bootstrapped c s (u.armStepTo c 7 .coast) := by
  refine ⟨(u.cell_armStepTo c 7 .coast).1, (u.cell_armStepTo c 7 .coast).2, ?_, fun e h => ?_, hdrives, htb⟩
  · rw [State.armStepTo, State.cell_modCell_same]
    exact hpre
  · rw [State.armStepTo, State.cell_modCell, if_neg h, hothers e h]
theorem State.bootstrapped_six (b : List Rat) (cur : List (List Rat)) : State.Bootstrapped c s
    ((((s.noteBoot c ((List.range (cellLegs c)).map fun i => b.getD i 0)).modCell c fun x =>
      { x with precharged := true, refreshLogged := false }).when (decide (c.val < 4)) fun s =>
        s.catchCurrents c cur).armStepTo c 7 .coast) := by
  have hnote (v : List Rat) (e : Cell) (h : e ≠ c) : (s.noteBoot c v).cell e = s.cell e := by
    have hother (g : CellSt → CellSt) : (s.modCell c g).cell e = s.cell e := (State.cell_modCell _ _ _ _).trans (if_neg h)
    unfold State.noteBoot
    dsimp only
    split
    · exact hother _
    · exact hother _
  have hcatch (u : State) (x : Bool) : ((u.when x fun s => s.catchCurrents c cur).cell = u.cell) ∧
      (u.when x fun s => s.catchCurrents c cur).drives = u.drives ∧ (u.when x fun s => s.catchCurrents c cur).tb = u.tb := by
    cases x with
    | false => exact ⟨rfl, rfl, rfl⟩
    | true => exact ⟨funext fun e => State.Leaves.catchCurrents.cell e, State.Leaves.catchCurrents.part .drives,
        State.Leaves.catchCurrents.part .tb⟩
  obtain ⟨hcell, hdrives, htb⟩ := hcatch ((s.noteBoot c ((List.range (cellLegs c)).map fun i => b.getD i 0)).modCell c fun x =>
    { x with precharged := true, refreshLogged := false }) (decide (c.val < 4))
  refine s.bootstrapped_armStepTo c _ ?_ (fun e h => ?_) (hdrives.trans (State.Leaves.noteBoot.part .drives))
    (htb.trans (State.Leaves.noteBoot.part .tb))
  · rw [hcell, State.cell_modCell_same]
  · rw [hcell, State.cell_modCell, if_neg h, hnote _ e h]
/-- The chopper's cell has no bootstrap supplies: its passed self-test leaves the same. -/
theorem State.bootstrapped_four : State.Bootstrapped c s ((((s.selftestResult c 0 0).setBit (Od.CELL_CELL_STATUS c) 9 false).modCell c
    fun x => { x with precharged := true, refreshLogged := false }).armStepTo c 7 .coast) := by
  refine s.bootstrapped_armStepTo c _ ?_ (fun e h => ?_) rfl rfl
  · rw [State.cell_modCell_same]
  · rw [State.cell_modCell, if_neg h]
    rfl

/-- The rest of the sequence while another cell of the drive arms. -/
theorem State.armingDone_waits (d : Drive) {e : Cell} (he : e ∈ d.cells) (h : (s.cell e).armStep ≠ 7 ∧ (s.cell e).armStep ≠ 0) :
    s.armingDone d = s := by
  refine if_neg fun hall => ?_
  have := List.all_eq_true.mp hall e he
  simp [h] at this
/-- With the last cell a drive that ARM arms is ARMED. -/
theorem State.armingDone_arms (d : Drive) (harm : (s.drv d).arming = .arm)
    (hall : ∀ e ∈ d.cells, (s.cell e).armStep = 7 ∨ (s.cell e).armStep = 0) : (s.armingDone d).ds d = .armed ∧
      ((s.cell c).precharged = true → ((s.armingDone d).cell c).precharged = true) ∧
      ((s.armingDone d).drv d).armedTb = s.tb := by
  have heq : s.armingDone d = (s.goto d .armed 1).modDrv d fun x => { x with armedTb := s.tb } := by
    unfold State.armingDone
    rw [if_pos (List.all_eq_true.mpr fun e he => decide_eq_true (hall e he)), harm]
  rw [heq]
  refine ⟨?_, fun h => ?_, ?_⟩
  · exact (DsStays.modDrv : DsStays d .armed _ _) (s.ds_goto d .armed 1)
  · exact (PrechargedStays.goto_armed : PrechargedStays c s _) h
  · rw [State.drv_modDrv, if_pos rfl]

/-! #### A step that fails -/

theorem State.armingFailed_faults (d : Drive) (code detail : Nat) (harm : (s.drv d).arming = .arm) (hds : s.ds d = .standby)
    (hsev : eventSeverity code = .fault) {e : Cell} (he : e ∈ d.cells) : (s.armingFailed d c code detail).ds d = .fault ∧
      ((s.armingFailed d c code detail).drv d).arming = .none ∧ ((s.armingFailed d c code detail).cell e).mode = .off := by
  have heq : s.armingFailed d c code detail = (((s.event code c.val detail).each d.cells fun c s => s.offCell c).modDrv d fun x =>
      { x with arming := .none }).faultState d code := by
    unfold State.armingFailed
    rw [harm]
    dsimp only
    rw [if_neg (by decide), if_pos (.inl hsev)]
  have hkept (u : State) : (u.each d.cells fun c s => s.offCell c).drv d = u.drv d :=
    State.each_same (fun u => u.drv d) _ (fun c _ => State.Leaves.offCell.drv d) u
  have hoff (u : State) : ((u.each d.cells fun c s => s.offCell c).cell e).mode = .off ∧
      ((u.each d.cells fun c s => s.offCell c).cell e).supLo = false := by
    refine State.each_reaches (P := fun e u => (u.cell e).mode = .off ∧ (u.cell e).supLo = false) (fun c u => ?_)
      (fun c e u hu => OffStays.offCell hu) d.cells u he
    rw [State.offCell, State.cell_modCell_same]
    exact ⟨rfl, rfl⟩
  obtain ⟨hmode, hsup⟩ := hoff (s.event code c.val detail)
  have hstandby : (((s.event code c.val detail).each d.cells fun c s => s.offCell c).modDrv d fun x => { x with arming := .none }).ds d =
      .standby := by
    rw [State.ds, State.drv_modDrv, if_pos rfl, hkept]
    exact hds
  have hnone : ((((s.event code c.val detail).each d.cells fun c s => s.offCell c).modDrv d fun x => { x with arming := .none }).drv
      d).arming = .none := by
    rw [State.drv_modDrv, if_pos rfl]
  rw [heq]
  generalize hu : (((s.event code c.val detail).each d.cells fun c s => s.offCell c).modDrv d fun x => { x with arming := .none }) = u
    at hstandby hnone ⊢
  have hcell : (u.cell e).mode = .off ∧ (u.cell e).supLo = false := by
    rw [← hu]
    exact ⟨hmode, hsup⟩
  have hfault : u.faultState d code = (u.goto d .fault 0xFF).lastEvent d code := by
    unfold State.faultState
    rw [if_neg (by rw [hstandby]; decide)]
  rw [hfault]
  exact ⟨u.ds_goto d .fault 0xFF, (IdleStays.goto_fault : IdleStays d u _) hnone, ((OffStays.goto_fault hstandby : OffStays e u _) hcell).1⟩
theorem State.armStep_fails {p n : Rat} (harm : (s.drv (cellDrive c)).arming = .arm) (hstep : (s.cell c).armStep = 2)
    (hbad : gateUv c p n = true) (hds : s.ds (cellDrive c) = .standby) {e : Cell} (he : e ∈ (cellDrive c).cells) :
    (s.armStep c (.supplies p n)).ds (cellDrive c) = .fault ∧ ((s.armStep c (.supplies p n)).drv (cellDrive c)).arming = .none ∧
      ((s.armStep c (.supplies p n)).cell e).mode = .off := by
  have hdrives : ((s.noteRails c p n).setBit (Od.CELL_CELL_STATUS c) 8 true).drives = s.drives := rfl
  have hdrv : ((s.noteRails c p n).setBit (Od.CELL_CELL_STATUS c) 8 true).drv (cellDrive c) = s.drv (cellDrive c) :=
    congrArg (fun v => v.get (cellDrive c).idx) hdrives
  have hsev : eventSeverity 0x0308 = .fault := by decide
  rw [s.armStep_eq_two c (by rw [harm]; decide) p n hstep, if_pos hbad]
  generalize (s.noteRails c p n).setBit (Od.CELL_CELL_STATUS c) 8 true = u at hdrv ⊢
  exact u.armingFailed_faults c (cellDrive c) 0x0308 _ (hdrv ▸ harm) ((congrArg DriveSt.state hdrv).trans hds) hsev he
end

/-- Settles O7: a clause for each step of the table, and the failure of one. -/
theorem armingStepsComplete : Obligations.ArmingStepsComplete := by
  unfold Obligations.ArmingStepsComplete
  have hcell (c : Cell) : c ∈ (cellDrive c).cells := by revert c; decide
  refine ⟨?_, ?_, ?_, ?_, ?_, ?_, ?_, ?_⟩
  · intro s dt c p n harm hstep hok
    exact ⟨_, State.Leaves.armStep.completes, (s.elapse dt).armStep_supplies c harm hstep hok⟩
  · intro s dt c ch l harm hstep hok hl
    exact ⟨_, State.Leaves.armStep.completes, (s.elapse dt).armStep_offsets c harm hstep hok hl⟩
  · intro s dt c harm hstep hc
    exact ⟨_, State.Leaves.armStep.completes, (s.elapse dt).armStep_selftest c harm hstep hc⟩
  · intro s dt c harm hstep hdue
    exact ⟨_, State.Leaves.armStep.completes, (s.elapse dt).armStep_pulses c harm hstep hdue⟩
  · intro s dt c e b cur harm hstep hfull ⟨he, hne, hseven, hzero⟩
    have heq := (s.elapse dt).armStep_eq_six c harm cur hstep hfull
    obtain ⟨hdone, hmode, hpre, hothers, hdrives, -⟩ := (s.elapse dt).bootstrapped_six c b cur
    refine ⟨_, State.Leaves.armStep.completes, ?_⟩
    rw [heq, State.armingDone_waits _ _ he (by rw [hothers e hne]; exact ⟨hseven, hzero⟩)]
    exact ⟨⟨hdone, hmode⟩, hpre, congrArg (fun v => (v.get (cellDrive c).idx).state) hdrives⟩
  · intro s dt c b cur harm hstep hfull hall
    have heq := (s.elapse dt).armStep_eq_six c (by rw [show (s.elapse dt).drv _ = s.drv _ from rfl, harm]; decide) cur hstep hfull
    obtain ⟨hdone, hmode, hpre, hothers, hdrives, htb⟩ := (s.elapse dt).bootstrapped_six c b cur
    have harms := State.armingDone_arms _ c (cellDrive c) (by
      exact (congrArg (fun v => (v.get (cellDrive c).idx).arming) hdrives).trans harm) (fun e he => by
        by_cases hne : e = c
        · exact .inl (hne ▸ hdone)
        · rw [hothers e hne]
          exact hall e he hne)
    obtain ⟨hds, hkept, harmed⟩ := harms
    refine ⟨_, State.Leaves.armStep.completes, ?_⟩
    rw [heq]
    exact ⟨hds, hkept hpre, harmed.trans htb⟩
  · intro s dt c e p n harm hstep hbad hds ⟨he, _⟩
    exact ⟨_, State.Leaves.armStep.completes, (s.elapse dt).armStep_fails c harm hstep hbad hds he⟩
  · intro s dt hstep harm
    have harm' : ((s.elapse dt).drv .brk).arming ≠ .none := by
      rw [show ((s.elapse dt).drv .brk).arming = .arm from harm]
      decide
    have heq := ((s.elapse dt).armStep_eq_four 14 harm' hstep).trans (if_pos rfl)
    obtain ⟨hdone, -, hpre, -, hdrives, -⟩ := (s.elapse dt).bootstrapped_four 14
    obtain ⟨hds, hkept, -⟩ := State.armingDone_arms _ 14 .brk ((congrArg (fun v => (v.get Drive.brk.idx).arming) hdrives).trans harm)
      (fun e he => .inl (List.mem_singleton.mp he ▸ hdone))
    refine ⟨_, State.Leaves.armStep.completes, ?_⟩
    rw [heq]
    exact ⟨hds, hkept hpre⟩

end Sys2Proof.Machine
end
